-- ==== Sys2Proof/Word.lean ====
section
/-! DEFINITION. The machine's word and byte types (00_scope.md, R2). -/
namespace Sys2Proof

/-- A 64-bit word: a register image, a token datum, a node word (00 R2, R9). -/
abbrev Word := BitVec 64

/-- A byte of memory. -/
abbrev Byte := BitVec 8

/-- The word that holds the low 64 bits of a number. -/
def wd (n : Nat) : Word := BitVec.ofNat 64 n

end Sys2Proof
end

