-- ==== Sys2Proof/Syntax.lean ====
section
/-! DEFINITION. The commands of the block: one constructor of Instr per row of spec/opcode_table.json, with the operands its rule names. -/
namespace Sys2Proof

/-- A logical tile (00 Tiles, routers and addresses). -/
abbrev TileId := Fin 64

/-- A strand core: 0 to 63 the logical tiles, 64 to 67 the control cores (01 Control complex). -/
abbrev CoreId := Fin 68

/-- A thread of a strand core. -/
abbrev ThreadId := Fin 16

/-- A context number (02 Contexts). -/
abbrev CtxId := Fin 65536

/-- An ordered lane (03 R68). -/
abbrev LaneId := Fin 4096

/-- A hardware queue of a tile (03 Hardware queues). -/
abbrev QueueId := Fin 256

/-- A router of the mesh: 8 × y + x (11 R270). -/
abbrev RouterId := Fin 72

/-- A catch link or a fabric link (01 R13). -/
inductive LinkId where
  | catch_ (l : Fin 32)
  | fabric (l : Fin 16)
  deriving DecidableEq, Repr

/-- An output of a continuity slice (03 R58): the stimulus transmitter of a link, a fabric injection port, the host ring writer, the queue unit of a tile. -/
inductive Outlet where
  | link (l : Fin 32)
  | fabric (g : Fin 4)
  | host
  | queue (t : TileId)
  deriving DecidableEq, Repr

/-- Who makes a memory or register access (10 R245). A core below 64 is a tile; 64 to 67 are the control cores. -/
inductive Req where
  | thread (core n : Nat)
  | firing (tile unit : Nat)
  | host
  | debug
  | aklofy (priv : Nat)
  | dma (tile n : Nat)
  deriving DecidableEq, Repr

/-- An access on the host port of the mailbox RAM (10 R251): word index, the data to write (none: a read). -/
structure HostAcc where
  word : Fin 512
  data : Option Word
  deriving DecidableEq, Repr

/-- The fields of a PTP message that the servo and the best master clock algorithm use (11 R303): the management port it came on, its domain, its sender and the sender's place in the order of the best master clock algorithm (the least is best), its time stamp and correction in PTP time, the time of the lands that belongs to it, and its message interval in cycles. A Sync: origin and correction, and its arrival. A delay response: the time the master gives and the time the request left, or for peer delay the time the request left, the turnaround at the peer, and the arrival of the response. Times in units of 10 ps. -/
structure PtpMsg where
  port : Fin 2
  domain : Nat
  source : Nat
  rank : Nat
  origin : Nat
  correction : Nat
  receipt : Nat
  interval : Nat
  deriving DecidableEq, Repr

/-- A datagram that reaches a management port (13 R329): the port, the IPv4 address and UDP port of its source, and its bytes. -/
structure AkMsg where
  port : Fin 2
  ip : Nat
  udp : Nat
  bytes : List Byte
  deriving DecidableEq, Repr

/-- What a host access does: a read, a write, or a PCIe AtomicOp (10 R250). -/
inductive BarOp where
  | read
  | write (v : Nat)
  | add (v : Nat)
  | swap (v : Nat)
  deriving DecidableEq, Repr

/-- A host access to BAR0, BAR2 or BAR4, numbered 0, 1, 2 (13 R349): the offset, the length in bytes less 1, and what it does. -/
structure BarAcc where
  bar : Fin 3
  off : Nat
  len : Fin 8
  op : BarOp
  deriving DecidableEq, Repr

/-- The fatal conditions that a command brings (13 R342): both image slots failed at boot, an uncorrectable error in the memory of the control complex, a fatal report from Riari. -/
inductive FatalCause where
  | boot
  | ecc
  | riari
  deriving DecidableEq, Repr

/-- The two executions an instruction word serves (06): a thread issues it in strand form, or fire unit `u` of tile `t` dispatches a firing of it in node form. -/
inductive Site where
  | strand (c : CoreId) (n : ThreadId)
  | fire (t : TileId) (u : Fin 4)
  deriving DecidableEq, Repr

/-- A command of the block. -/
inductive Instr where
  /-- REGISTER_WRITE (R8): A write to a device or tile register that has no row of its own is checked and either performed or refused. -/
  | registerWrite (who : Req) (addr : Nat) (v : Word)
  /-- LTMAP_WRITE (R17): The control complex writes NEXT of a logical tile, pending or withdrawing a substitution. -/
  | ltmapWrite (who : Req) (t : TileId) (v : Word)
  /-- RETIRE (R18): Writing 1 to PTSTAT.RETIRE retires a SPARE physical tile or sets RET_REFUSED. -/
  | retire (who : Req) (p : Fin 68) (v : Word)
  /-- TOKEN_LOOKUP (R36): A token enters the matching-store lookup and reaches its fire decision, match, entry or fault. -/
  | tokenLookup (dt : Nat) (t : TileId)
  /-- SPILL_WRITE_BUFFER_DRAIN (R39): One evicted entry leaves the spill write buffer and is written to its bucket. -/
  | spillWriteBufferDrain (dt : Nat) (t : TileId)
  /-- REFILL (R40): Spill block data returns to a probe, which refills and matches a partner or ends empty. -/
  | refill (dt : Nat) (t : TileId) (i : Fin 64)
  /-- TASK_DISPATCH (R115): The scheduler dispatches a ready firing to a fire unit or a thread wake to the strand core. -/
  | taskDispatch (dt : Nat) (c : CoreId) (slot : Fin 5)
  /-- CHAINED_DISPATCH (R118): A class 0 dependent firing is dispatched in cycle d + 3 on the predecessor's fire unit. -/
  | chainedDispatch (dt : Nat) (t : TileId) (u : Fin 4)
  /-- FREE_NOTICE (R52): A free notice reaches the owning tile, which makes the context CLOSING and sends closes. -/
  | freeNotice (ctx : CtxId)
  /-- CONTEXT_CLOSE (R52): A close reaches a tile of TILESET, which discards the context's work and starts its sweeps. -/
  | contextClose (dt : Nat) (ctx : CtxId) (t : TileId)
  /-- SWEEP_END (R52): A tile's on-chip and spill sweeps end and it acknowledges the close. -/
  | sweepEnd (dt : Nat) (ctx : CtxId) (t : TileId)
  /-- CLOSE_ACK (R50): A close acknowledgement arrives; when all tiles have acknowledged the context becomes FREE. -/
  | closeAck (ctx : CtxId) (t : TileId)
  /-- ALLOC (R55): A thread allocates the next sequence number of a lane, or waits for credit. -/
  | alloc (dt : Nat) (c : CoreId) (n : ThreadId)
  /-- WINDOW_ARRIVAL (R60): A token reaches its lane's continuity window and is released, held or discarded. -/
  | windowArrival (dt : Nat) (l : LaneId)
  /-- RELEASE (R61): An output of a continuity slice releases the HEAD token of a lane to its sink. -/
  | release (dt : Nat) (o : Outlet)
  /-- CREDIT_FLIT (R62): At the end of a beat with releases, the window sends a credit flit to the lane source. -/
  | creditFlit (dt : Nat) (l : LaneId)
  /-- CREDIT_ARRIVAL (R62): A credit flit reaches the lane source and adds its count to CREDIT. -/
  | creditArrival (l : LaneId)
  /-- SNEXT_REPORT (R71): The source's report of NEXT reaches the window and updates SNEXT. -/
  | snextReport (l : LaneId)
  /-- GAP_TIMEOUT (R64): A lane's gap timer expires and the missing HEAD is skipped or held. -/
  | gapTimeout (dt : Nat) (l : LaneId)
  /-- LANESTAT_SKIP (R64): Writing 1 to LANESTAT.SKIP skips a held missing number. -/
  | lanestatSkip (who : Req) (l : LaneId)
  /-- LANE_ENABLE (R67): Writing LANECFG.EN = 1 makes an OFF lane ACTIVE after the checks of R70. -/
  | laneEnable (who : Req) (l : LaneId) (v : Word)
  /-- LANE_DISABLE (R67): Writing LANECFG.EN = 0 makes an ACTIVE lane DRAINING and ends waiting allocations. -/
  | laneDisable (who : Req) (l : LaneId) (v : Word)
  /-- LANE_DRAINED (R67): A DRAINING lane with BUFD 0 and HEAD equal to NEXT becomes OFF. -/
  | laneDrained (l : LaneId)
  /-- LANEGAP_WRITE (R69): A write to LANEGAP takes effect at once and may expire a running gap timer next cycle. -/
  | lanegapWrite (who : Req) (l : LaneId) (v : Word)
  /-- QCFG_WRITE (R75): A write to QCFG enables, disables or reconfigures a queue after its checks. -/
  | qcfgWrite (who : Req) (t : TileId) (q : QueueId) (v : Word)
  /-- QDB_PROD (R74): A doorbell write of PROD adds its count to TAIL. -/
  | qdbProd (who : Req) (t : TileId) (q : QueueId) (count : Fin 65536)
  /-- QDB_CONS (R74): A doorbell write of CONS adds its count to HEAD. -/
  | qdbCons (who : Req) (t : TileId) (q : QueueId) (count : Fin 65536)
  /-- QUEUE_PUSH (R76): A token addressed to a hardware queue is pushed at TAIL or refused when full. -/
  | queuePush (dt : Nat) (t : TileId) (q : QueueId)
  /-- LANE_SOURCE_POP (R76): The queue unit pops an entry for a lane it sources and numbers it. -/
  | laneSourcePop (dt : Nat) (l : LaneId)
  /-- PUSH_RETRY (R78): A thread's push to a full queue is retried each beat. -/
  | pushRetry (dt : Nat) (c : CoreId) (n : ThreadId)
  /-- STROKE_BOUNDARY (R104): Cycle 0 of a stroke: COUNT increments, Cox counters clear and START 0 shots grant. -/
  | strokeBoundary (dt : Nat)
  /-- OVERRUN_LIMIT (R100): CONSEC reaches OVRLIM and one fault token 0x0B goes to FTILE. -/
  | overrunLimit (t : TileId) (a : Fin 64)
  /-- SHOT_OPEN (R96): A shot opens at beat START and adds its scaled grants to its activity's counters. -/
  | shotOpen (dt : Nat) (t : TileId)
  /-- STROKE_IN_EDGE (R83): A rising edge on STROKE_IN marks the target time of the next stroke in PIN mode. -/
  | strokeInEdge (dt : Nat) (t10 : Nat)
  /-- STROKE_SOURCE_LOST (R85): The stroke alignment source is lost, HOLD sets and LOSTCNT increments. -/
  | strokeSourceLost (dt : Nat)
  /-- STROKE_SOURCE_RETURN (R85): The alignment source returns, HOLD clears and the generator slews. -/
  | strokeSourceReturn (dt : Nat)
  /-- STRKCFG_WRITE (R84): A change of SRC in STANDBY sets the stroke phase and count directly. -/
  | strkcfgWrite (who : Req) (v : Word)
  /-- CUTTAKE_ARM (R103): Writing CUTTAKE.ARM = 1 starts the cut checks. -/
  | cuttakeArm (who : Req) (v : Word)
  /-- CUT_CHECKS_COMPLETE (R103): The control complex ends the cut checks, setting READY or FAIL with ARMFAIL. -/
  | cutChecksComplete (dt : Nat)
  /-- CUT_SAMPLE (R104): At cycle -64 the Keel samples ARM and READY and commits the cut or marks it MISSED. -/
  | cutSample (dt : Nat)
  /-- TIMER_DUE (R126): Delay-list entries whose deadline has passed enter the ready list. -/
  | timerDue (dt : Nat) (c : CoreId)
  /-- TIMER_ARM_RETRY (R126): A thread's timer arming on a full delay list retries each beat. -/
  | timerArmRetry (dt : Nat) (c : CoreId) (n : ThreadId)
  /-- TCTL_RESET (R125): Writing TCTL.RESET frees the thread and releases its waits, reservation and locks. -/
  | tctlReset (who : Req) (c : CoreId) (n : ThreadId)
  /-- TCTL_RESUME (R122): Writing TCTL.RESUME resumes a FAULTED thread at TEPC. -/
  | tctlResume (who : Req) (c : CoreId) (n : ThreadId)
  /-- TCTL_SKIP (R122): Writing TCTL.SKIP resumes a FAULTED thread after the faulting instruction. -/
  | tctlSkip (who : Req) (c : CoreId) (n : ThreadId)
  /-- FAULT_TOKEN_ARRIVAL (R128): A fault token sent over the control VC reaches another tile's fault queue and is pushed. -/
  | faultTokenArrival (t : TileId)
  /-- LOAD_COMPLETE (R144): A load's data returns and its destination registers are written after its shadow. -/
  | loadComplete (dt : Nat) (c : CoreId) (n : ThreadId)
  /-- ADD (R151): Adds a and b. -/
  | add (dt : Nat) (x : Site)
  /-- ADDC (R151): Adds a, b and C. -/
  | addc (dt : Nat) (c : CoreId) (n : ThreadId)
  /-- SUB (R151): Subtracts b from a. -/
  | sub (dt : Nat) (x : Site)
  /-- SUBC (R151): Subtracts b and the borrow from a. -/
  | subc (dt : Nat) (c : CoreId) (n : ThreadId)
  /-- ADDO (R173): Adds and raises fault 0x0A on signed overflow. -/
  | addo (dt : Nat) (x : Site)
  /-- SUBO (R173): Subtracts and raises fault 0x0A on signed overflow. -/
  | subo (dt : Nat) (x : Site)
  /-- NEG (R172): Negates a. -/
  | neg (dt : Nat) (x : Site)
  /-- NEGO (R172): Negates a, with fault 0x0A for the most negative value. -/
  | nego (dt : Nat) (x : Site)
  /-- AND (R151): Bitwise AND. -/
  | and (dt : Nat) (x : Site)
  /-- OR (R151): Bitwise OR. -/
  | or (dt : Nat) (x : Site)
  /-- XOR (R151): Bitwise XOR. -/
  | xor (dt : Nat) (x : Site)
  /-- ANDN (R151): a AND NOT b. -/
  | andn (dt : Nat) (x : Site)
  /-- ORN (R151): a OR NOT b. -/
  | orn (dt : Nat) (x : Site)
  /-- XNOR (R151): Bitwise XNOR. -/
  | xnor (dt : Nat) (x : Site)
  /-- NOT (R151): Bitwise NOT. -/
  | not (dt : Nat) (x : Site)
  /-- MOV (R151): Moves a or the immediate to d. -/
  | mov (dt : Nat) (x : Site)
  /-- LSL (R174): Logical shift left. -/
  | lsl (dt : Nat) (x : Site)
  /-- LSR (R174): Logical shift right. -/
  | lsr (dt : Nat) (x : Site)
  /-- ASR (R174): Arithmetic shift right. -/
  | asr (dt : Nat) (x : Site)
  /-- ROR (R174): Rotate right. -/
  | ror (dt : Nat) (x : Site)
  /-- LSLW (R174): 32-bit logical shift left. -/
  | lslw (dt : Nat) (x : Site)
  /-- LSRW (R174): 32-bit logical shift right. -/
  | lsrw (dt : Nat) (x : Site)
  /-- ASRW (R174): 32-bit arithmetic shift right. -/
  | asrw (dt : Nat) (x : Site)
  /-- RORW (R174): 32-bit rotate right. -/
  | rorw (dt : Nat) (x : Site)
  /-- CMP (R171): Sets flags from a - b. -/
  | cmp (dt : Nat) (x : Site)
  /-- CMPW (R171): Sets flags from the 32-bit a - b. -/
  | cmpw (dt : Nat) (x : Site)
  /-- TST (R151): Sets flags from a AND b. -/
  | tst (dt : Nat) (x : Site)
  /-- MIN (R151): Signed minimum. -/
  | min (dt : Nat) (x : Site)
  /-- MAX (R151): Signed maximum. -/
  | max (dt : Nat) (x : Site)
  /-- MINU (R151): Unsigned minimum. -/
  | minu (dt : Nat) (x : Site)
  /-- MAXU (R151): Unsigned maximum. -/
  | maxu (dt : Nat) (x : Site)
  /-- ABS (R172): Absolute value. -/
  | abs (dt : Nat) (x : Site)
  /-- MULU (R175): Unsigned 128-bit product into PH:PL. -/
  | mulu (dt : Nat) (x : Site)
  /-- MULS (R175): Signed 128-bit product into PH:PL. -/
  | muls (dt : Nat) (x : Site)
  /-- MACU (R175): Unsigned multiply-accumulate into PH:PL. -/
  | macu (dt : Nat) (c : CoreId) (n : ThreadId)
  /-- MACS (R175): Signed multiply-accumulate into PH:PL. -/
  | macs (dt : Nat) (c : CoreId) (n : ThreadId)
  /-- MUL (R175): Low 64 bits of the product. -/
  | mul (dt : Nat) (x : Site)
  /-- MFPH (R151): Reads PH. -/
  | mfph (dt : Nat) (c : CoreId) (n : ThreadId)
  /-- MFPL (R151): Reads PL. -/
  | mfpl (dt : Nat) (c : CoreId) (n : ThreadId)
  /-- MTPP (R151): Writes PH and PL. -/
  | mtpp (dt : Nat) (c : CoreId) (n : ThreadId)
  /-- DSET (R153): Prepares a signed 64-bit division. -/
  | dset (dt : Nat) (c : CoreId) (n : ThreadId)
  /-- DSETW (R153): Prepares a signed 32-bit division. -/
  | dsetw (dt : Nat) (c : CoreId) (n : ThreadId)
  /-- DSETU (R153): Prepares an unsigned 64-bit division. -/
  | dsetu (dt : Nat) (c : CoreId) (n : ThreadId)
  /-- DSETUW (R153): Prepares an unsigned 32-bit division. -/
  | dsetuw (dt : Nat) (c : CoreId) (n : ThreadId)
  /-- DSTEP (R153): Performs one division step. -/
  | dstep (dt : Nat) (c : CoreId) (n : ThreadId)
  /-- DFIN (R153): Applies signs and writes quotient and remainder. -/
  | dfin (dt : Nat) (c : CoreId) (n : ThreadId)
  /-- DFINW (R153): Finishes a 32-bit division with sign-extended results. -/
  | dfinw (dt : Nat) (c : CoreId) (n : ThreadId)
  /-- CLZ (R151): Counts leading zeros. -/
  | clz (dt : Nat) (x : Site)
  /-- CTZ (R151): Counts trailing zeros. -/
  | ctz (dt : Nat) (x : Site)
  /-- POPC (R151): Counts ones. -/
  | popc (dt : Nat) (x : Site)
  /-- EXT (R152): Extracts a signed bit field. -/
  | ext (dt : Nat) (x : Site)
  /-- EXTU (R152): Extracts an unsigned bit field. -/
  | extu (dt : Nat) (x : Site)
  /-- INS (R152): Inserts a bit field into RD. -/
  | ins (dt : Nat) (c : CoreId) (n : ThreadId)
  /-- BSWAP (R151): Reverses byte order. -/
  | bswap (dt : Nat) (x : Site)
  /-- SXT (R152): Sign-extends from width w. -/
  | sxt (dt : Nat) (x : Site)
  /-- ZXT (R152): Zero-extends from width w. -/
  | zxt (dt : Nat) (x : Site)
  /-- SETC (R152): Writes 1 when the condition holds. -/
  | setc (dt : Nat) (x : Site)
  /-- LDB (R154): Loads a signed byte. -/
  | ldb (dt : Nat) (x : Site)
  /-- LDBU (R154): Loads an unsigned byte. -/
  | ldbu (dt : Nat) (x : Site)
  /-- LDH (R154): Loads a signed halfword. -/
  | ldh (dt : Nat) (x : Site)
  /-- LDHU (R154): Loads an unsigned halfword. -/
  | ldhu (dt : Nat) (x : Site)
  /-- LDW (R154): Loads a signed word. -/
  | ldw (dt : Nat) (x : Site)
  /-- LDWU (R154): Loads an unsigned word. -/
  | ldwu (dt : Nat) (x : Site)
  /-- LDD (R154): Loads a doubleword. -/
  | ldd (dt : Nat) (x : Site)
  /-- STB (R154): Stores a byte. -/
  | stb (dt : Nat) (x : Site)
  /-- STH (R154): Stores a halfword. -/
  | sth (dt : Nat) (x : Site)
  /-- STW (R154): Stores a word. -/
  | stw (dt : Nat) (x : Site)
  /-- STD (R154): Stores a doubleword. -/
  | std (dt : Nat) (x : Site)
  /-- FLDS (R154): Loads a binary32 value into an f register. -/
  | flds (dt : Nat) (x : Site)
  /-- FLDD (R154): Loads a binary64 value into an f register. -/
  | fldd (dt : Nat) (x : Site)
  /-- FSTS (R154): Stores a binary32 f register. -/
  | fsts (dt : Nat) (c : CoreId) (n : ThreadId)
  /-- FSTD (R154): Stores a binary64 f register. -/
  | fstd (dt : Nat) (c : CoreId) (n : ThreadId)
  /-- AADD (R250): Atomic add at the bank or controller. -/
  | aadd (dt : Nat) (x : Site)
  /-- ASWP (R250): Atomic swap at the bank or controller. -/
  | aswp (dt : Nat) (x : Site)
  /-- DMA (R154): Starts a DMA copy by the tile's DMA engine. -/
  | dma (dt : Nat) (c : CoreId) (n : ThreadId)
  /-- DMA_COMPLETE (R154): A DMA copy completes and signals the issuing thread's event. -/
  | dmaComplete (dt : Nat) (t : TileId) (i : Fin 16)
  /-- DMA_RETRY (R154): A DMA beyond 16 outstanding retries each beat. -/
  | dmaRetry (dt : Nat) (c : CoreId) (n : ThreadId)
  /-- LEA (R154): Writes the effective address without access. -/
  | lea (dt : Nat) (x : Site)
  /-- B (R156): Conditional branch. -/
  | b (dt : Nat) (c : CoreId) (n : ThreadId)
  /-- CBZ (R156): Branches when a is zero. -/
  | cbz (dt : Nat) (c : CoreId) (n : ThreadId)
  /-- CBNZ (R156): Branches when a is non-zero. -/
  | cbnz (dt : Nat) (c : CoreId) (n : ThreadId)
  /-- JAL (R156): Jumps and links. -/
  | jal (dt : Nat) (c : CoreId) (n : ThreadId)
  /-- JR (R156): Jumps to a register. -/
  | jr (dt : Nat) (c : CoreId) (n : ThreadId)
  /-- LOOP (R149): Starts a hardware loop level. -/
  | loop (dt : Nat) (c : CoreId) (n : ThreadId)
  /-- FORK (R123): Starts a child thread, or waits for a free context. -/
  | fork (dt : Nat) (c : CoreId) (n : ThreadId)
  /-- JOIN (R125): Waits for JCNT 0 and ends the thread. -/
  | join (dt : Nat) (c : CoreId) (n : ThreadId)
  /-- EXIT (R125): Ends the thread. -/
  | exit (dt : Nat) (c : CoreId) (n : ThreadId)
  /-- FADD (R178): Floating-point add. -/
  | fadd (dt : Nat) (x : Site)
  /-- FSUB (R178): Floating-point subtract. -/
  | fsub (dt : Nat) (x : Site)
  /-- FMUL (R178): Floating-point multiply. -/
  | fmul (dt : Nat) (x : Site)
  /-- FDIV (R178): Floating-point divide. -/
  | fdiv (dt : Nat) (x : Site)
  /-- FSQRT (R178): Floating-point square root. -/
  | fsqrt (dt : Nat) (x : Site)
  /-- FMA (R178): Fused multiply-add. -/
  | fma (dt : Nat) (x : Site)
  /-- FMIN (R179): IEEE minimumNumber. -/
  | fmin (dt : Nat) (x : Site)
  /-- FMAX (R179): IEEE maximumNumber. -/
  | fmax (dt : Nat) (x : Site)
  /-- FNEG (R179): Inverts the sign. -/
  | fneg (dt : Nat) (x : Site)
  /-- FABS (R179): Clears the sign. -/
  | fabs (dt : Nat) (x : Site)
  /-- FCMP (R157): Floating-point compare into flags. -/
  | fcmp (dt : Nat) (x : Site)
  /-- FCVT (R178): Converts between binary32 and binary64. -/
  | fcvt (dt : Nat) (x : Site)
  /-- FCVTI (R180): Converts to a signed integer. -/
  | fcvti (dt : Nat) (x : Site)
  /-- FCVTIU (R180): Converts to an unsigned integer. -/
  | fcvtiu (dt : Nat) (x : Site)
  /-- FCVTF (R180): Converts a signed integer to floating point. -/
  | fcvtf (dt : Nat) (x : Site)
  /-- FCVTFU (R180): Converts an unsigned integer to floating point. -/
  | fcvtfu (dt : Nat) (x : Site)
  /-- FMOV (R157): Copies an f register. -/
  | fmov (dt : Nat) (c : CoreId) (n : ThreadId)
  /-- FMVWF (R157): Moves w bits to an f register. -/
  | fmvwf (dt : Nat) (c : CoreId) (n : ThreadId)
  /-- FMVFW (R157): Moves f bits to a w register. -/
  | fmvfw (dt : Nat) (c : CoreId) (n : ThreadId)
  /-- FCLASS (R157): Classifies a floating-point value. -/
  | fclass (dt : Nat) (x : Site)
  /-- CRC32C (R158): CRC-32C step. -/
  | crc32c (dt : Nat) (x : Site)
  /-- CRC32 (R158): CRC-32 step. -/
  | crc32 (dt : Nat) (x : Site)
  /-- CRC16 (R158): CRC-16 step. -/
  | crc16 (dt : Nat) (x : Site)
  /-- PAR (R158): Parity of a. -/
  | par (dt : Nat) (x : Site)
  /-- PARB (R158): Parity of each byte. -/
  | parb (dt : Nat) (x : Site)
  /-- BREV (R158): Reverses 64 bits. -/
  | brev (dt : Nat) (x : Site)
  /-- BREVW (R158): Reverses 32 bits. -/
  | brevw (dt : Nat) (x : Site)
  /-- BREVB (R158): Reverses bits within each byte. -/
  | brevb (dt : Nat) (x : Site)
  /-- MISR (R158): One 64-bit MISR step. -/
  | misr (dt : Nat) (x : Site)
  /-- MISRW (R158): One 32-bit MISR step. -/
  | misrw (dt : Nat) (x : Site)
  /-- EMIT (R159): A thread emits a token to a node or lane window, optionally allocating. -/
  | emit (dt : Nat) (c : CoreId) (n : ThreadId)
  /-- FWD (R159): Forwards A and C as a token. -/
  | fwd (dt : Nat) (t : TileId) (u : Fin 4)
  /-- STEER (R159): Sends the token to DST0 or DST1 by B. -/
  | steer (dt : Nat) (t : TileId) (u : Fin 4)
  /-- LNOUT (R160): Sends the token to a lane window. -/
  | lnout (dt : Nat) (t : TileId) (u : Fin 4)
  /-- QPUSH (R159): Pushes a token to a hardware queue. -/
  | qpush (dt : Nat) (x : Site)
  /-- QPOP (R77): Pops a queue entry, sleeping when empty. -/
  | qpop (dt : Nat) (c : CoreId) (n : ThreadId)
  /-- QPOPNB (R159): Pops a queue entry without waiting. -/
  | qpopnb (dt : Nat) (c : CoreId) (n : ThreadId)
  /-- CHW (R80): Stages a token in a channel, taking the reservation. -/
  | chw (dt : Nat) (c : CoreId) (n : ThreadId)
  /-- CHC (R81): Commits a channel message. -/
  | chc (dt : Nat) (c : CoreId) (n : ThreadId)
  /-- SPAWN (R160): Makes a spawning thread wake at the node's entry. -/
  | spawn (dt : Nat) (t : TileId)
  /-- TMR (R126): Sleeps, arms a timer or emits a timed token event. -/
  | tmr (dt : Nat) (x : Site)
  /-- TCAN (R127): Cancels a timer by handle. -/
  | tcan (dt : Nat) (c : CoreId) (n : ThreadId)
  /-- SINK (R159): Consumes its operands and emits nothing. -/
  | sink (dt : Nat) (t : TileId) (u : Fin 4)
  /-- FENCE (R162): Orders the thread's memory accesses. -/
  | fence (dt : Nat) (c : CoreId) (n : ThreadId)
  /-- LKACQ (R324): Requests acquisition of a lock cell. -/
  | lkacq (dt : Nat) (c : CoreId) (n : ThreadId)
  /-- LKTRY (R324): Tries to acquire a lock cell without waiting. -/
  | lktry (dt : Nat) (c : CoreId) (n : ThreadId)
  /-- LKREL (R324): Releases a lock cell. -/
  | lkrel (dt : Nat) (c : CoreId) (n : ThreadId)
  /-- LKCAS (R324): Compare-and-swap on a CAS-mode cell. -/
  | lkcas (dt : Nat) (c : CoreId) (n : ThreadId)
  /-- LKACQ_RETRY (R325): An LKACQ that found the waiter table full is presented again each beat. -/
  | lkacqRetry (dt : Nat) (c : CoreId) (n : ThreadId)
  /-- WFE (R314): Waits for and clears the thread's event latch. -/
  | wfe (dt : Nat) (c : CoreId) (n : ThreadId)
  /-- SEV (R315): Signals the event of a thread. -/
  | sev (dt : Nat) (c : CoreId) (n : ThreadId)
  /-- SEV_ARRIVAL (R315): An SEV reaches its target thread's latch or is lost. -/
  | sevArrival (c : CoreId) (n : ThreadId)
  /-- MFSR (R140): Reads a special register. -/
  | mfsr (dt : Nat) (c : CoreId) (n : ThreadId)
  /-- MTSR (R140): Writes a special register. -/
  | mtsr (dt : Nat) (c : CoreId) (n : ThreadId)
  /-- RETH (R163): Leaves the trap handler. -/
  | reth (dt : Nat) (c : CoreId) (n : ThreadId)
  /-- NOP (R163): No effect, or forwards as FWD in node form. -/
  | nop (dt : Nat) (x : Site)
  /-- SCRM (R234): Scrambles a logical address through a scrambler table. -/
  | scrm (dt : Nat) (x : Site)
  /-- DBKG (R235): Generates a data background word. -/
  | dbkg (dt : Nat) (x : Site)
  /-- ACC (R239): FACC counts a fail in the row and column of a repair block. -/
  | acc (dt : Nat) (x : Site)
  /-- FACC_CLOSE (R239): FACC CLOSE makes an OPEN repair block CLOSED or OVERFLOW. -/
  | faccClose (dt : Nat) (x : Site)
  /-- QUERY (R239): FACC QUERY reads counts without change. -/
  | query (dt : Nat) (x : Site)
  /-- DONE (R239): FACC DONE gives a CLOSED block its outcome. -/
  | done (dt : Nat) (x : Site)
  /-- FLOG (R236): Appends a record to the tile's fail log. -/
  | flog (dt : Nat) (x : Site)
  /-- VRDT (R230): Sends a verdict through a lane or directly to a link. -/
  | vrdt (dt : Nat) (x : Site)
  /-- VRDT_RETRY (R232): A direct verdict waiting for the 16-verdict limit is retried each beat. -/
  | vrdtRetry (dt : Nat) (c : CoreId) (n : ThreadId)
  /-- CUSTOM_OPCODE (R165): A decode-table opcode X0-X15 executes its micro-operation rows. -/
  | customOpcode (dt : Nat) (x : Site)
  /-- RBCFG_WRITE (R238): Writing RBCFG.EN makes a repair block OPEN or IDLE. -/
  | rbcfgWrite (who : Req) (b : Fin 4096) (v : Word)
  /-- REPAIR_LATE (R242): At stroke DUE a still CLOSED block becomes LATE with fault 0x0B. -/
  | repairLate (dt : Nat) (b : Fin 4096)
  /-- STALL_REPORT (R196): An idle count reaches STALLN and the tile reports a stall. -/
  | stallReport (ctx : CtxId) (t : TileId)
  /-- CONTEXT_STALLED (R197): The control complex's query answers declare a context stalled. -/
  | contextStalled (ctx : CtxId)
  /-- SNAPSHOT_COMPLETE (R199): The snapshot ends and the scanner builds the wait-for relation and picks a victim. -/
  | snapshotComplete (dt : Nat)
  /-- VICTIM_DRAIN (R201): After a final check the victim context is drained. -/
  | victimDrain (dt : Nat)
  /-- STRAND_DEADLOCK (R204): The all-wait condition has held for P beats and a strand deadlock is declared. -/
  | strandDeadlock (dt : Nat) (c : CoreId)
  /-- STRAND_DEADLOCK_ACTION (R205): In the next beat the SDACT action is taken. -/
  | strandDeadlockAction (dt : Nat) (c : CoreId)
  /-- CATCH_FRAME (R224): A catch frame is received, classified and turned into tokens. -/
  | catchFrame (dt : Nat) (l : Fin 32) (frame : List Word) (resent : Bool)
  /-- LIVE (R215): A LIVE control block is received. -/
  | live (dt : Nat) (k : LinkId) (block : List Byte) (fec : Nat)
  /-- LIVE_DUE (R215): The device sends LIVE every 100 beats. -/
  | liveDue (dt : Nat) (k : LinkId)
  /-- LIVE_TIMEOUT (R215): No LIVE for 4 µs returns the link to TRAIN. -/
  | liveTimeout (dt : Nat) (k : LinkId)
  /-- LOCK_LOSS (R215): Loss of block or codeword lock returns the link to TRAIN. -/
  | lockLoss (dt : Nat) (k : LinkId)
  /-- ACK (R213): An ACK block acknowledges frames. -/
  | ack (dt : Nat) (k : LinkId) (block : List Byte)
  /-- ACK_DUE (R213): The receiver's ACK interval expires and an ACK is sent. -/
  | ackDue (dt : Nat) (k : LinkId)
  /-- NAK (R213): A NAK makes the sender resend verdicts, REPLAY and frames. -/
  | nak (dt : Nat) (k : LinkId) (block : List Byte)
  /-- NAK_RESEND (R213): No REPLAY within 2 µs of a NAK and the NAK is sent again. -/
  | nakResend (dt : Nat) (k : LinkId)
  /-- REPLAY (R213): A REPLAY block sets the FSEQ of the following frame. -/
  | replay (dt : Nat) (k : LinkId) (block : List Byte)
  /-- REPLAY_TIMEOUT (R213): No ACK advance for 2 µs and the sender replays. -/
  | replayTimeout (dt : Nat) (k : LinkId)
  /-- HOLD (R214): A HOLD block stops new frames from the receiver. -/
  | hold (dt : Nat) (l : Fin 32) (block : List Byte)
  /-- RUN_BLOCK (R214): A RUN control block lets frames start again. -/
  | runBlock (dt : Nat) (l : Fin 32) (block : List Byte)
  /-- VACK (R231): The partner acknowledges a verdict. -/
  | vack (dt : Nat) (l : Fin 32) (block : List Byte)
  /-- VERDICT_RESEND (R231): A verdict unacknowledged for 1 µs is resent. -/
  | verdictResend (dt : Nat) (l : Fin 32)
  /-- LINK_ENABLE (R217): Writing EN = 1 moves a DOWN link to TRAIN. -/
  | linkEnable (who : Req) (k : LinkId) (v : Word)
  /-- LINK_DISABLE (R217): Writing EN = 0 moves a link to DOWN. -/
  | linkDisable (who : Req) (k : LinkId) (v : Word)
  /-- TRAINING_COMPLETE (R217): Start-up training completes and the link enters LOCK. -/
  | trainingComplete (dt : Nat) (k : LinkId)
  /-- LINK_UP (R217): Lock and a LIVE (and IDENT on fabric) bring the link to UP. -/
  | linkUp (dt : Nat) (k : LinkId)
  /-- SAFEX (R218): Writing CLCFG.SAFEX sends SAFEX on an UP link. -/
  | safex (who : Req) (l : Fin 32)
  /-- STIMULUS_BUFFER_READ (R227): The buffer read for a stimulus frame ends and the frame is sent or discarded. -/
  | stimulusBufferRead (dt : Nat) (l : Fin 32)
  /-- BANK_GRANT (R246): A scratchpad bank grants one pending request. -/
  | bankGrant (dt : Nat) (t : TileId) (b : Fin 32)
  /-- LPDDR4X_ACCESS_COMPLETE (R248): An LPDDR4X read returns data or a write is acknowledged. -/
  | lpddr4xAccessComplete (dt : Nat) (i : Nat)
  /-- ECC_WRITE_BACK (R255): A corrected word is written back in the bank's next idle cycle. -/
  | eccWriteBack (dt : Nat) (t : TileId) (b : Fin 32)
  /-- MAILBOX_ACCESS (R251): A port of the host mailbox RAM performs one access. -/
  | mailboxAccess (dt : Nat) (internal : Bool) (host : Option HostAcc)
  /-- BANKPWR_WRITE (R254): A BANKPWR write requests bank power mode changes. -/
  | bankpwrWrite (who : Req) (t : TileId) (v : Word)
  /-- BANK_TRANSITION_COMPLETE (R252): A bank power transition ends. -/
  | bankTransitionComplete (dt : Nat) (t : TileId) (b : Fin 32)
  /-- MOCMD_GO (R260): Writing MOCMD.GO starts a channel map-out. -/
  | mocmdGo (who : Req) (v : Word)
  /-- UNCLIM_REACHED (R260): A channel's UNC reaches UNCLIM and AUTOMO starts a map-out. -/
  | unclimReached (ch : Fin 32)
  /-- SEGMENT_MOVE_COMPLETE (R260): One segment move ends and MOPTR advances, or the map-out is DONE. -/
  | segmentMoveComplete (dt : Nat)
  /-- RUSHCFG_EN (R265): Writing rushes EN starts rushes or cuts a borrow short. -/
  | rushcfgEn (who : Req) (u : Option TileId) (v : Word)
  /-- BORROW_START (R261): Rushes starts a borrow of the next region. -/
  | borrowStart (dt : Nat) (u : Option TileId)
  /-- COPY_COMPLETE (R262): Every word is in the shadow and TEST begins. -/
  | copyComplete (dt : Nat) (u : Option TileId)
  /-- TEST_COMPLETE (R262): The March test ends and BACK begins. -/
  | testComplete (dt : Nat) (u : Option TileId) (fail : Option (Nat × Nat × Nat))
  /-- BORROW_END (R264): BACK ends and the borrow's outcome is recorded. -/
  | borrowEnd (dt : Nat) (u : Option TileId)
  /-- FLIT_GRANT (R273): An output port grants one flit under the arbitration order. -/
  | flitGrant (dt : Nat) (net : Fin 2) (r : RouterId) (out : Fin 6) (corrected : Bool)
  /-- FLIT_DELIVERY (R272): A packet is delivered at its destination port and its CRC is checked. -/
  | flitDelivery (dt : Nat) (net : Fin 2) (r : RouterId) (edge : Bool) (crcOk : Bool)
  /-- FLIT_RESEND (R276): An upstream router resends a flit after an uncorrectable error. -/
  | flitResend (dt : Nat) (net : Fin 2) (r : RouterId) (out : Fin 4)
  /-- PORT_ISOLATE (R279): A port returns no credit for DTTO beats and is isolated. -/
  | portIsolate (dt : Nat) (r : RouterId) (edge : Bool)
  /-- UNISO (R279): Writing UNISO ends isolation of the local port. -/
  | uniso (who : Req) (r : RouterId)
  /-- UNISOE (R279): Writing UNISOE ends isolation of the edge port. -/
  | unisoe (who : Req) (r : RouterId)
  /-- BOUNCE (R280): A refused token enters the return queue. -/
  | bounce (dt : Nat) (r : RouterId) (edge : Bool)
  /-- BOUNCE_REOFFER (R280): A return-queue entry is offered again for injection. -/
  | bounceReoffer (dt : Nat) (r : RouterId) (edge : Bool)
  /-- FENCE_NOTICE (R282): A router receives the fence notice, refuses data for p and sends markers. -/
  | fenceNotice (dt : Nat) (p : Fin 68) (r : RouterId)
  /-- MARKER_ABSORB (R282): The fenced tile's router absorbs a drain marker. -/
  | markerAbsorb (dt : Nat) (p : Fin 68) (net : Fin 2)
  /-- FENCED (R282): 288 markers are counted on each network and the tile is FENCED. -/
  | fenced (dt : Nat) (p : Fin 68)
  /-- FENCE_DONE (R282): The fence-done message reaches the control complex. -/
  | fenceDone (p : Fin 68)
  /-- UNFENCE (R283): A router receives the unfence and clears its fence. -/
  | unfence (dt : Nat) (p : Fin 68) (r : RouterId)
  /-- FABRIC_TOKEN_FRAME (R288): A fabric TOKEN frame is received and delivered or routed on. -/
  | fabricTokenFrame (dt : Nat) (l : Fin 16) (frame : List Word)
  /-- RET_FRAME (R298): A RET frame arrives and becomes a fault token or is forwarded. -/
  | retFrame (dt : Nat) (l : Fin 16) (frame : List Word)
  /-- FABRIC_ROUTE (R295): A fabric gateway stamps and routes a token by take. -/
  | fabricRoute (dt : Nat) (g : Fin 4)
  /-- HOLDT_EXPIRY (R297): HOLDT expires and held tokens are sent. -/
  | holdtExpiry (dt : Nat)
  /-- MARKER (R301): A fabric MARKER is received for stroke alignment. -/
  | marker (dt : Nat) (l : Fin 16) (block : List Byte) (t10 : Nat)
  /-- DREQ (R301): A DREQ is received and answered with DRSP. -/
  | dreq (dt : Nat) (l : Fin 16) (block : List Byte) (t10 : Nat)
  /-- DRSP (R301): A DRSP is received and FLDLY is computed. -/
  | drsp (dt : Nat) (l : Fin 16) (block : List Byte) (t10 : Nat)
  /-- IDENT (R290): An IDENT block records the partner's DEVNUM. -/
  | ident (dt : Nat) (l : Fin 16) (block : List Byte)
  /-- CRED (R289): A CRED block returns fabric frame credits. -/
  | cred (dt : Nat) (l : Fin 16) (block : List Byte)
  /-- PERIODIC_IDENT (R290): Every 1,024 strokes the device sends IDENT. -/
  | periodicIdent (dt : Nat)
  /-- PERIODIC_DELAY_MEASURE (R301): Every 1,024 strokes a link measures its delay. -/
  | periodicDelayMeasure (dt : Nat) (l : Fin 16)
  /-- RTBANK_STAGE (R296): Writing STAGE makes a FREE routing bank STAGED. -/
  | rtbankStage (who : Req) (b : Fin 2) (v : Word)
  /-- RTBANK_UNSTAGE (R296): Writing UNSTAGE returns a STAGED bank to FREE. -/
  | rtbankUnstage (who : Req) (b : Fin 2) (v : Word)
  /-- OLD_BANK_FREE (R296): QUIET reaches RETSTR and the OLD bank becomes FREE. -/
  | oldBankFree (b : Fin 2)
  /-- PTP_SYNC (R303): A PTP Sync message steers the servo. -/
  | ptpSync (dt : Nat) (m : PtpMsg)
  /-- PTP_ANNOUNCE (R303): A PTP Announce feeds the best master clock algorithm. -/
  | ptpAnnounce (dt : Nat) (m : PtpMsg)
  /-- PTP_SYNC_TIMEOUT (R303): No Sync for 4 intervals and the servo loses lock. -/
  | ptpSyncTimeout (dt : Nat)
  /-- ISWSET (R316): Writing ISWSET sets software tile sources. -/
  | iswset (who : Req) (t : TileId) (v : Word)
  /-- DSWSET (R317): Writing DSWSET sets software device sources. -/
  | dswset (who : Req) (k : Fin 4) (v : Word)
  /-- INTERRUPT_DELIVERY (R309): A controller delivers its highest eligible source. -/
  | interruptDelivery (dt : Nat) (t : Option TileId)
  /-- DELIVERY_ARRIVAL (R310): A device-controller delivery reaches its target thread. -/
  | deliveryArrival (c : CoreId) (n : ThreadId)
  /-- DELIVERY_RETURN (R310): A returned delivery clears DLVD at the device controller. -/
  | deliveryReturn (src : Fin 512)
  /-- PREEMPTION (R311): A pre-emption is taken at the thread's next issue opportunity. -/
  | preemption (dt : Nat) (c : CoreId) (n : ThreadId)
  /-- TPWR_REQ_ON (R318): Writing REQ = ON wakes the tile domain. -/
  | tpwrReqOn (who : Req) (t : TileId) (v : Word)
  /-- TPWR_REQ_NAP (R319): Writing REQ = NAP requests nap. -/
  | tpwrReqNap (who : Req) (t : TileId) (v : Word)
  /-- TPWR_REQ_OFF (R319): Writing REQ = OFF requests switch-off. -/
  | tpwrReqOff (who : Req) (t : TileId) (v : Word)
  /-- IDLE_ENTRY (R318): After 16 idle cycles the tile enters IDLE. -/
  | idleEntry (dt : Nat) (t : TileId)
  /-- NAP_ENTRY (R318): The domain enters NAP. -/
  | napEntry (dt : Nat) (t : TileId)
  /-- OFF_ENTRY (R318): The domain powers OFF. -/
  | offEntry (dt : Nat) (t : TileId)
  /-- WAKE_COMPLETE (R318): A NAP or OFF domain reaches ON. -/
  | wakeComplete (dt : Nat) (t : TileId)
  /-- NAP_TIMER_WAKE (R318): The Keel wakes a NAP domain 28 beats before a deadline. -/
  | napTimerWake (dt : Nat) (t : TileId)
  /-- WATCHED_WAKE (R321): A watched source wakes a sleeping domain. -/
  | watchedWake (dt : Nat) (i : Fin 32)
  /-- LOCK_OPERATION (R324): A lock group performs one lock operation. -/
  | lockOperation (dt : Nat) (g : TileId)
  /-- LOCK_RESULT (R322): A lock result reaches the requesting thread. -/
  | lockResult (dt : Nat) (c : CoreId) (n : ThreadId)
  /-- LEND (R325): A priority lend or withdrawal reaches the owner. -/
  | lend (c : CoreId) (n : ThreadId)
  /-- LKCELL_READ (R324): A read of LKCELL acquires or reports a cell. -/
  | lkcellRead (who : Req) (g : TileId) (cell : Fin 64)
  /-- LKCELL_WRITE (R324): A write of LKCELL releases or sets a cell. -/
  | lkcellWrite (who : Req) (g : TileId) (cell : Fin 64) (v : Word)
  /-- LKGCFG_WRITE (R328): A write to LKGCFG sets limits or MODE. -/
  | lkgcfgWrite (who : Req) (g : TileId) (v : Word)
  /-- OPEN (R333): An Aklofy OPEN starts a session and is answered with CHAL. -/
  | aopen (dt : Nat) (m : AkMsg)
  /-- AUTH (R333): An AUTH message authenticates the session. -/
  | auth (dt : Nat) (m : AkMsg)
  /-- AUTH_TIMEOUT (R333): A session not opened within 1 s ends. -/
  | authTimeout (dt : Nat) (sid : Nat)
  /-- AUTH_LOCKOUT_EXPIRY (R334): The 10 s block on OPEN from an address ends. -/
  | authLockoutExpiry (dt : Nat) (ip : Nat)
  /-- CLOSE (R335): An Aklofy CLOSE ends the session. -/
  | close (dt : Nat) (m : AkMsg)
  /-- HB (R335): The device sends a heartbeat every HBINT. -/
  | hb (dt : Nat) (sid : Nat)
  /-- HBACK (R335): A client acknowledges a heartbeat. -/
  | hback (dt : Nat) (m : AkMsg)
  /-- SESSION_TIMEOUT (R335): No message for 3 × HBINT ends a session. -/
  | sessionTimeout (dt : Nat) (sid : Nat)
  /-- READ (R343): A dictionary entry is read. -/
  | read (dt : Nat) (m : AkMsg)
  /-- WRITE (R343): A dictionary entry is written. -/
  | write (dt : Nat) (m : AkMsg)
  /-- DOPEN (R336): A DOMAIN transfer is opened. -/
  | dopen (dt : Nat) (m : AkMsg)
  /-- SEG (R336): A DOMAIN segment is transferred. -/
  | seg (dt : Nat) (m : AkMsg)
  /-- EVACK (R348): A client acknowledges events. -/
  | evack (dt : Nat) (m : AkMsg)
  /-- RESET (R339): The RESET command resets the device. -/
  | reset (dt : Nat) (m : AkMsg)
  /-- ARM (R341): The ARM command performs arming. -/
  | arm (dt : Nat) (m : AkMsg)
  /-- RUN (R341): The RUN command arms the cut that starts running. -/
  | run (dt : Nat) (m : AkMsg)
  /-- DISARM (R341): The DISARM command makes the device DRAINING. -/
  | disarm (dt : Nat) (m : AkMsg)
  /-- DRAIN_COMPLETE (R341): Every disarmed context is FREE and the device enters STANDBY. -/
  | drainComplete (dt : Nat)
  /-- CUT (R341): The CUT command arms a cut for staged items. -/
  | cut (dt : Nat) (m : AkMsg)
  /-- EVSUB (R341): The EVSUB command sets the event mask. -/
  | evsub (dt : Nat) (m : AkMsg)
  /-- WATCHDOG_EXPIRY (R342): The control-complex watchdog expires. -/
  | watchdogExpiry (dt : Nat)
  /-- FAULT_ENTRY (R342): A fatal condition moves the device to FAULT. -/
  | faultEntry (dt : Nat) (cause : FatalCause)
  /-- COMMAND_RING_ENTRY (R350): A host command-ring entry is executed and replied. -/
  | commandRingEntry (dt : Nat) (entry : List Byte)
  /-- H2D_ENTRY (R350): An H2D ring entry is read and injected as a token or refused. -/
  | h2dEntry (dt : Nat) (d : Fin 16) (entry : BitVec 256)
  /-- HOST_ACCESS (R406): A host BAR access is performed as a remote request. -/
  | hostAccess (dt : Nat) (x : BarAcc)
  /-- ATTENTION_PULSE (R354): HRDY starts a 200-beat attention pulse. -/
  | attentionPulse (dt : Nat)
  /-- ATTENTION_PULSE_END (R354): The attention pulse ends and HRDY is high. -/
  | attentionPulseEnd (dt : Nat)
  /-- H_PERST (R395): H_PERST# resets the host port. -/
  | hPerst (dt : Nat) (low : Bool)
  /-- DAPACC (R355): A debug-port access is performed. -/
  | dapacc (dt : Nat) (write : Bool) (addr : BitVec 48) (data : Word)
  /-- HALT (R357): Writing DBGT.HALT requests a thread halt. -/
  | halt (who : Req) (c : CoreId) (n : ThreadId)
  /-- HALT_ENTRY (R357): A thread enters HALTED at a halt or breakpoint. -/
  | haltEntry (dt : Nat) (c : CoreId) (n : ThreadId)
  /-- DBGT_RUN (R357): Writing DBGT.RUN ends a halt. -/
  | dbgtRun (who : Req) (c : CoreId) (n : ThreadId)
  /-- STEP (R357): Writing DBGT.STEP issues one instruction. -/
  | step (who : Req) (c : CoreId) (n : ThreadId)
  /-- CHPOL (R358): Writing CHPOL = 1 releases a halted holder's channel reservation. -/
  | chpol (who : Req) (c : CoreId) (n : ThreadId)
  /-- VERIFY (R371): VERIFY checks a container and stages it. -/
  | verify (dt : Nat) (m : AkMsg)
  /-- UNSTAGE (R371): UNSTAGE withdraws a staged image. -/
  | unstage (dt : Nat) (m : AkMsg)
  /-- REEL_COPY_COMPLETE (R373): The graph reel copy ends. -/
  | reelCopyComplete (dt : Nat)
  /-- FWACT (R374): FWACT activates staged firmware on trial. -/
  | fwact (dt : Nat) (m : AkMsg)
  /-- FIRMWARE_READY (R374): New firmware reaches its ready point and BUSY clears. -/
  | firmwareReady (dt : Nat)
  /-- FIRMWARE_REVERT (R374): New firmware fails and the previous slot is reloaded. -/
  | firmwareRevert (dt : Nat)
  /-- FWCOMMIT (R374): FWCOMMIT makes the running firmware preferred. -/
  | fwcommit (dt : Nat) (m : AkMsg)
  /-- SUBST (R377): SUBST starts a substitution of a logical tile. -/
  | subst (dt : Nat) (m : AkMsg)
  /-- SUBCAN (R377): SUBCAN withdraws a pending substitution. -/
  | subcan (dt : Nat) (m : AkMsg)
  /-- PRESYNC (R377): The pre-copy of a substitution completes. -/
  | presync (dt : Nat) (t : TileId)
  /-- STATE_MOVE_COMPLETE (R378): The dynamic state has moved and the new tile resumes. -/
  | stateMoveComplete (dt : Nat) (t : TileId)
  /-- AUTO_SUBST (R381): The firmware substitutes a tile on isolation or 16 UNC errors. -/
  | autoSubst (dt : Nat) (t : TileId)
  /-- ATTEST (R368): ATTEST builds a signed report. -/
  | attest (dt : Nat) (m : AkMsg)
  /-- RETRAIN (R375): RETRAIN reruns start-up training of a link. -/
  | retrain (dt : Nat) (m : AkMsg)
  /-- POWER_ON (R394): V12 reaches 11.2 V and the Keel starts. -/
  | powerOn (dt : Nat)
  /-- PORST_ASSERT (R394): PORST# is asserted and the device enters RESET. -/
  | porstAssert (dt : Nat)
  /-- PORST_DEASSERT (R394): PORST# is deasserted. -/
  | porstDeassert (dt : Nat)
  /-- RESET_END (R393): RESET ends and BOOT begins. -/
  | resetEnd (dt : Nat) (clock : Bool)
  /-- BROWN_OUT (R397): V12 below 11.0 V enters RESET. -/
  | brownOut (dt : Nat)
  /-- THERMAL_TRIP (R389): TJ reaches 118 °C and the device enters RESET. -/
  | thermalTrip (dt : Nat)
  /-- REFCLK_LOST (R391): REFCLK_IN is lost and the Keel switches to MEMS. -/
  | refclkLost (dt : Nat)
  /-- ILLEGAL_INSTRUCTION (R134): A strand thread issues a word whose opcode is undefined in its form and traps with fault 0x01. -/
  | illegalInstruction (dt : Nat) (c : CoreId) (n : ThreadId)
  /-- SHOT_CLOSE (R96): A shot closes at the end of beat START + LEN - 1, after which its activity can start no further work unless another of its shots is open. -/
  | shotClose (dt : Nat) (t : TileId) (i : Fin 256)
  /-- DISCARDED_BLOCK (R210): A received block fails its CRC, lies in an uncorrectable codeword or is an invalid control block, so it is discarded, CRCERR counts, a NAK is sent and later data blocks are dropped until REPLAY. -/
  | discardedBlock (dt : Nat) (k : LinkId)
  /-- CRED_DUE (R289): The receiver of a fabric link sends CRED for owed credits because 256 ns have passed. -/
  | credDue (dt : Nat) (l : Fin 16)
  /-- BOOT_CHAIN_COMPLETE (R339): The boot chain completes, the Aklofy server starts, HRDY goes high and the device enters STANDBY. -/
  | bootChainComplete (dt : Nat) (slot : Fin 2)
  /-- KEEL_LOSES_POWER (R397): V12 stays below 8.0 V long enough that the Keel, Riari and the boot NOR lose power, and the next power-up starts cold. -/
  | keelLosesPower (dt : Nat)
  /-- JUNCTION_SENSOR_READ (R389): Every 200 beats the Keel reads the 72 junction sensors and updates TJ, TLID and THWARN. -/
  | junctionSensorRead (dt : Nat) (temps : List Int) (lid : Int)
  /-- PCIE_HOT_RESET_OR_LINK_DOWN (R326): A PCIe Hot Reset or link down resets the host master, and every cell the host owns is released as abandoned. -/
  | pcieHotResetOrLinkDown (dt : Nat)
  /-- MANAGEMENT_LINK_CHANGE (R344): A 10GBASE-KR management port link goes up or down, and its LINK entry changes. -/
  | managementLinkChange (dt : Nat) (p : Fin 2) (up : Bool)
  /-- DELAY_RESPONSE (R303): A PTP delay response, from delay request-response or peer delay, is received and feeds the servo's path delay. -/
  | delayResponse (dt : Nat) (m : PtpMsg)
  deriving DecidableEq, Repr

end Sys2Proof
end

