-- ==== Sys2Proof/Config.lean ====
section
/-! DEFINITION. What an implementation fixes and the free values: constants without a body, so that no proof can rest on a value of them (logs 2, 5, 7). -/
namespace Sys2Proof.Config

/-- The free value numbered by State.freeCtr: a word the spec leaves undefined (00 R6, 10 R252). Log 2. -/
opaque freeWord : Nat → Word

/-- Fuse content of BANKFUSE[b] of tile t, COL and VAL fields (10 R256). Log 5. -/
opaque bankCols : Nat → Nat → BitVec 32

/-- Spares in use of bank b of tile t, from 0 to 4 (10 R256). Log 5. -/
opaque bankUsed : Nat → Nat → Fin 5

/-- Time from the cycle in which a fabric link's transmitter sends a block to its first bit at the lands, in units of 10 ps (11 R287, R300, R301). Log 7. -/
opaque txLands : Nat → Nat

/-- The initial value of the CRC-32C of a fabric frame (11 R288 names the code only). Log 7. -/
opaque crcInit : BitVec 32

/-- What the CRC-32C of a fabric frame is XORed with at its end (11 R288 names the code only). Log 7. -/
opaque crcFinal : BitVec 32

/-- SHA-384, by which the spec names it (13 R331, 14 R359). Log 7. -/
opaque sha384 : List Byte → BitVec 384

/-- HMAC-SHA-384 of a key and a message (13 R334). Log 7. -/
opaque hmac384 : List Byte → List Byte → BitVec 384

/-- The uncompressed P-384 public key of the device's ephemeral key pair number n (13 R331). Log 7. -/
opaque ephKey : Nat → BitVec 776

/-- The P-384 ECDH secret of the device's ephemeral key pair number n and a client's public key (13 R333). Log 7. -/
opaque ecdh : Nat → List Byte → BitVec 384

/-- HKDF-SHA-384 of a salt, an input and an info, 48 bytes (13 R333). Log 7. -/
opaque hkdf384 : List Byte → List Byte → List Byte → BitVec 384

/-- Does an ECDSA P-384 signature over a SHA-384 verify against the public key whose SHA-384 is given (13 R333)? Log 7. -/
opaque verifyHashed : List Byte → BitVec 384 → List Byte → Bool

/-- Does an ECDSA P-384 signature over a SHA-384 verify against the owner's ECDSA key of the owner key record (14 R363)? Log 7. -/
opaque verifyOwnerEc : BitVec 384 → List Byte → Bool

/-- Does an HSS signature over bytes, with the types and length R363 allows, verify against the owner's HSS key (14 R363)? Log 7. -/
opaque verifyOwnerHss : List Byte → List Byte → Bool

/-- Do the owner keys of the owner key record match OHE and OHL (14 R360)? Log 7. -/
opaque ownerKeysOk : Bool

/-- The ECDSA P-384 signature by the device identity key, over a SHA-384, made with nonce number n (13 R331, 14 R368). Log 7. -/
opaque signIdentity : Nat → BitVec 384 → BitVec 768

/-- The HSS signature by the attestation key at an index, 3,604 bytes (14 R368). Log 7. -/
opaque signHss : Nat → List Byte → BitVec 28832

/-- VHE: the SHA-384 of the VENDOR credential (14 R359). Log 5. -/
opaque vhe : BitVec 384

/-- IDHASH: the SHA-384 of the device identity public key (13 R344). Log 5. -/
opaque idHash : BitVec 384

/-- SERIAL: 16 characters (13 R344). Log 5. -/
opaque serial : BitVec 128

/-- MAC address of a management port (13 R344). Log 5. -/
opaque macAddr : Nat → BitVec 48

/-- VERSION and PHASH of the firmware a slot holds as shipped (14 R360). Log 63. -/
opaque shippedFw : Nat → BitVec 32 × BitVec 384

end Sys2Proof.Config
end

