-- ==== Sys2Proof/Machine/Bits.lean ====
section
/-! DEFINITION. Bit-field, sign and byte-order helpers, and the keyed tables that hold the sparse state. -/
namespace Sys2Proof.Machine

/-- Bits [lo+len-1:lo] of a natural number (00_scope.md, Pseudocode: x[m:l] is unsigned). -/
def bits (n lo len : Nat) : Nat := n / 2 ^ lo % 2 ^ len

/-- Bit k of a natural number. -/
def bit (n k : Nat) : Bool := n.testBit k

/-- One bit as a number. -/
def b2n (b : Bool) : Nat := if b then 1 else 0

/-- `n` with bits [lo+len-1:lo] replaced by the low `len` bits of `v`. -/
def setBits (n lo len v : Nat) : Nat :=
  n - bits n lo len * 2 ^ lo + v % 2 ^ len * 2 ^ lo

/-- Bits [lo+len-1:lo] of a word, unsigned. -/
def wbits (w : Word) (lo len : Nat) : Nat := bits w.toNat lo len

/-- A word with bits [lo+len-1:lo] replaced. -/
def wset (w : Word) (lo len v : Nat) : Word := wd (setBits w.toNat lo len v)

/-- The signed value of the low `n` bits of `x` (00_scope.md, sext). -/
def sval (n x : Nat) : Int :=
  if x % 2 ^ n < 2 ^ (n - 1) then (x % 2 ^ n : Nat) else ((x % 2 ^ n : Nat) : Int) - (2 ^ n : Nat)

/-- The low `n` bits of an integer, as a number: assignment to a field of stated width. -/
def trunc (n : Nat) (z : Int) : Nat := (z % ((2 ^ n : Nat) : Int)).toNat

/-- Sign-extends the low `n` bits of `x` to 64 bits. -/
def sext64 (n x : Nat) : Word := wd (trunc 64 (sval n x))

/-- The number that little-endian bytes spell (R2). -/
def ofBytes : List Byte → Nat
  | [] => 0
  | b :: bs => b.toNat + 256 * ofBytes bs

/-- The low `n` bytes of a number, little-endian (R2). -/
def toBytes : Nat → Nat → List Byte
  | 0, _ => []
  | n + 1, x => BitVec.ofNat 8 x :: toBytes n (x / 256)

/-- A table of values by key: absent keys read as a default. -/
abbrev Tab (κ α : Type) := List (κ × α)

/-- The value at a key, if one is listed. -/
def tfind? {κ α : Type} [DecidableEq κ] (t : Tab κ α) (k : κ) : Option α :=
  match t with
  | [] => none
  | p :: r => if p.1 = k then some p.2 else tfind? r k

/-- The value at a key, or the default. -/
def tget {κ α : Type} [DecidableEq κ] (t : Tab κ α) (d : α) (k : κ) : α := (tfind? t k).getD d

/-- The table without a key. -/
def tdel {κ α : Type} [DecidableEq κ] (t : Tab κ α) (k : κ) : Tab κ α :=
  match t with
  | [] => []
  | p :: r => if p.1 = k then tdel r k else p :: tdel r k

/-- The table with a key set to a value. -/
def tput {κ α : Type} [DecidableEq κ] (t : Tab κ α) (k : κ) (v : α) : Tab κ α := (k, v) :: tdel t k

/-- The first element that satisfies a test, with the list that is left when it is taken out. -/
def takeFirst {α : Type} (p : α → Bool) : List α → Option (α × List α)
  | [] => none
  | a :: l => if p a then some (a, l) else (takeFirst p l).map fun r => (r.1, a :: r.2)

/-- The least element by a numeric key; the first of equals. -/
def minBy {α : Type} (f : α → Nat) : List α → Option α
  | [] => none
  | a :: l => match minBy f l with
    | none => some a
    | some b => if f b < f a then some b else some a

/-- A list in ascending order of a key, equals in order. -/
def insertBy {α : Type} (f : α → Nat) (a : α) : List α → List α
  | [] => [a]
  | b :: l => if f a < f b then a :: b :: l else b :: insertBy f a l

/-- Sorts by a key. -/
def sortBy {α : Type} (f : α → Nat) (l : List α) : List α := l.foldl (fun r a => insertBy f a r) []

end Sys2Proof.Machine
end

