-- ==== Sys2Proof/Machine/RegMap.lean ====
section
/-! DEFINITION. The register map: every device and tile register the field maps of spec/ give, with each field's place, access type, reset value and legal values (00 R3 to R9, 01 R16, R18, 02 R43 to R48, 03 R68 to R79, 04 R88 to R112, 05 R122, R132, 06 R169, 07 R182, 08 R207, R208, 09 R218 to R241, 10 R251 to R266, 11 R285, R304, R305, 12 R316 to R328, 13 R350 to R356, 14 R376, 15 R390, R392). -/
namespace Sys2Proof.Machine

/-- The registers, by name. -/
inductive RegKind where
  | LTMAP
  | PTSTAT
  | CTBASE
  | MSCFG
  | SPBASE
  | SPSIZE
  | MSOCC
  | EVICTS
  | REFILLS
  | PROBES_EMPTY
  | DUPTAGS
  | ORPHANS
  | CLS_MISMATCH
  | INPUT_STALLS
  | CTX_MISSES
  | CREATE_HELD
  | GATED_OFF
  | ALLOC_HELD
  | ADMCAP
  | ADMRES
  | ADMCFG
  | POPCNT
  | LTSTAT
  | PRGCFG
  | SDSTAT
  | LOOP_HELD
  | LOOP_RETIRES
  | OVERPOP
  | STALL_RPTS
  | SDLK_DETECT
  | SDLK_WDRAWN
  | QBASE
  | QCFG
  | QPTR
  | QDB
  | QWPEND
  | QRETRIES
  | COXSTAT
  | ACTREM0
  | ACTREM1
  | ACTOVR
  | TSTAT
  | TCTL
  | TPC
  | TEPC
  | THND
  | TISSUE
  | TRSV30
  | TRSV38
  | TARX
  | DBGT
  | SCHSTAT
  | CANCEL_PRE
  | CANCEL_POST
  | SPAWN_HELD
  | FORK_HELD
  | FQLOST
  | DISPATCHED
  | BEATNOW
  | SCRTAB
  | BPAT
  | BMSK
  | FLBASE
  | FLOGCFG
  | FLPTR
  | FLDROP
  | FACAM
  | BANKPWR
  | BANKSTAT
  | SPECC
  | WAKES
  | BANKFUSE
  | RUSHCFG
  | RUSHSTAT
  | RUSHCNT
  | RUSHLOG
  | IPEND
  | IEN
  | IDLVD
  | ICFG
  | ISWSET
  | SEVLOST
  | ISRC
  | TINT
  | TEVT
  | LKCELL
  | LKSTAT
  | LKGCFG
  | LKCNT
  | LANECFG
  | LANEGAP
  | LANESTAT
  | LANECNT
  | CBFREE
  | STRKCFG
  | STRKSTAT
  | SLATE
  | EPOCH
  | CUTTAKE
  | CUTSTRK
  | ARMFAIL
  | C0BOUND
  | DTSTAT
  | DLKCFG
  | DLKLOG
  | DLKCNT
  | CLCFG
  | CLSTAT
  | CLCNT0
  | CLCNT1
  | SITEW0
  | SITEW1
  | SITEW2
  | SITEW3
  | RBCFG
  | RBST
  | RPBASE
  | MBSTAT
  | RTCTL
  | RTCNT0
  | RTCNT1
  | RTCNT2
  | DRCFG
  | DRSTAT
  | MOCMD
  | CHSTAT
  | RDCFG
  | RDSTAT
  | RDCNT
  | RDLOG
  | FLCFG
  | FLSTAT
  | FLCNT0
  | FLDLY
  | FLCNT1
  | FABCFG
  | FABSTAT
  | RTBANK
  | PTPCFG
  | PTPSTAT
  | RTENT
  | UNRMAP
  | DPEND
  | DEN
  | DDLVD
  | DCFG
  | DRETURN
  | DSWSET
  | DSRC
  | KWATCH
  | TPWR
  | DAPSTAT
  | HPSTAT
  | HPCTL
  | APBASE
  | RBASE
  | RCFG
  | RHEAD
  | RTAIL
  | UPDSTAT
  | SUBCFG
  | MONO
  | TEMPSTAT
  | REFSTAT
  deriving DecidableEq, Repr

/-- Access types (00 R3); `ctr` is a counter field that saturates (R5), `ctrw` one that wraps. -/
inductive Acc where
  | ro | rw | wo | w1c | rws | const | ctr | ctrw
  deriving DecidableEq, Repr

/-- The listed values of a field (00 R7): every value not listed is reserved. -/
inductive Legal where
  | any
  | upTo (m : Nat)
  | range (a b : Nat)
  | oneOf (l : List Nat)
  deriving DecidableEq, Repr

/-- Is `v` a listed value? -/
def Legal.ok : Legal → Nat → Bool
  | .any, _ => true
  | .upTo m, v => v ≤ m
  | .range a b, v => a ≤ v && v ≤ b
  | .oneOf l, v => l.contains v

/-- One field of a register. -/
structure Fld where
  kind : RegKind
  lo : Nat
  len : Nat
  acc : Acc
  rst : Nat
  legal : Legal
  deriving DecidableEq, Repr

/-- One register of the map: in a tile's window or in the device window, base offset, stride, count and fields. -/
structure RegSpec where
  kind : RegKind
  inTile : Bool
  base : Nat
  stride : Nat
  count : Nat
  fields : List Fld
  deriving DecidableEq, Repr

/-! Fields, one definition each: register, low bit, width, access, reset value (0 where the spec gives none, log 4, or where fuses give it, log 5), listed values. -/
namespace F

/-! 01_architecture.md R16. -/
def LTMAP_PHYS : Fld := ⟨.LTMAP, 0, 7, .ro, 0, .any⟩
def LTMAP_NEXT : Fld := ⟨.LTMAP, 8, 7, .rw, 0, (.upTo 67)⟩
def LTMAP_PEND : Fld := ⟨.LTMAP, 15, 1, .ro, 0, .any⟩
/-! 01_architecture.md R18. -/
def PTSTAT_STATE : Fld := ⟨.PTSTAT, 0, 2, .ro, 0, .any⟩
def PTSTAT_LOGICAL : Fld := ⟨.PTSTAT, 2, 7, .ro, 0, .any⟩
def PTSTAT_RETIRE : Fld := ⟨.PTSTAT, 9, 1, .wo, 0, .any⟩
def PTSTAT_RET_REFUSED : Fld := ⟨.PTSTAT, 10, 1, .w1c, 0, .any⟩
/-! 02_tokens_matching.md R48. -/
def CTBASE_BASE : Fld := ⟨.CTBASE, 21, 27, .rws, 0, .any⟩
/-! 02_tokens_matching.md R43. -/
def MSCFG_HSEED : Fld := ⟨.MSCFG, 0, 9, .rws, 0, .any⟩
def MSCFG_SPILLEN : Fld := ⟨.MSCFG, 16, 1, .rws, 1, .any⟩
/-! 02_tokens_matching.md R44. -/
def SPBASE_BASE : Fld := ⟨.SPBASE, 20, 28, .rws, 0, .any⟩
def SPSIZE_SIZE : Fld := ⟨.SPSIZE, 0, 7, .rws, 0, (.upTo 64)⟩
/-! 02_tokens_matching.md R45. -/
def MSOCC_USED : Fld := ⟨.MSOCC, 0, 13, .ro, 0, .any⟩
def MSOCC_STKUSED : Fld := ⟨.MSOCC, 16, 9, .ro, 0, .any⟩
def MSOCC_C0USED : Fld := ⟨.MSOCC, 25, 4, .ro, 0, .any⟩
def MSOCC_SPUSED : Fld := ⟨.MSOCC, 32, 21, .ro, 0, .any⟩
/-! 02_tokens_matching.md R46. -/
def EVICTS_COUNT : Fld := ⟨.EVICTS, 0, 64, .ctr, 0, .any⟩
def REFILLS_COUNT : Fld := ⟨.REFILLS, 0, 64, .ctr, 0, .any⟩
def PROBES_EMPTY_COUNT : Fld := ⟨.PROBES_EMPTY, 0, 64, .ctr, 0, .any⟩
def DUPTAGS_COUNT : Fld := ⟨.DUPTAGS, 0, 64, .ctr, 0, .any⟩
def ORPHANS_COUNT : Fld := ⟨.ORPHANS, 0, 64, .ctr, 0, .any⟩
def CLS_MISMATCH_COUNT : Fld := ⟨.CLS_MISMATCH, 0, 64, .ctr, 0, .any⟩
def INPUT_STALLS_COUNT : Fld := ⟨.INPUT_STALLS, 0, 64, .ctr, 0, .any⟩
def CTX_MISSES_COUNT : Fld := ⟨.CTX_MISSES, 0, 64, .ctr, 0, .any⟩
def CREATE_HELD_COUNT : Fld := ⟨.CREATE_HELD, 0, 64, .ctr, 0, .any⟩
def GATED_OFF_COUNT : Fld := ⟨.GATED_OFF, 0, 64, .ctr, 0, .any⟩
/-! 03_lanes_queues.md R73. -/
def ALLOC_HELD_COUNT : Fld := ⟨.ALLOC_HELD, 0, 64, .ctr, 0, .any⟩
/-! 08_progress_deadlock.md R207. -/
def ADMCAP_CAP : Fld := ⟨.ADMCAP, 0, 21, .ro, 4096, .any⟩
def ADMRES_RES : Fld := ⟨.ADMRES, 0, 21, .ro, 0, .any⟩
def ADMRES_C0RES : Fld := ⟨.ADMRES, 21, 4, .ro, 0, .any⟩
def ADMRES_LTRES : Fld := ⟨.ADMRES, 25, 9, .ro, 0, .any⟩
def ADMCFG_OPENMIN : Fld := ⟨.ADMCFG, 0, 21, .rws, 1024, .any⟩
def POPCNT_CPOP : Fld := ⟨.POPCNT, 0, 21, .ro, 0, .any⟩
def POPCNT_OPOP : Fld := ⟨.POPCNT, 21, 21, .ro, 0, .any⟩
def POPCNT_OPHWM : Fld := ⟨.POPCNT, 42, 21, .rw, 0, (.upTo 0)⟩
def LTSTAT_LTUSED : Fld := ⟨.LTSTAT, 0, 9, .ro, 0, .any⟩
def PRGCFG_STALLN : Fld := ⟨.PRGCFG, 0, 8, .rw, 64, .any⟩
def PRGCFG_SDACT : Fld := ⟨.PRGCFG, 8, 2, .rw, 0, (.upTo 2)⟩
def PRGCFG_SDEN : Fld := ⟨.PRGCFG, 10, 1, .rw, 1, .any⟩
def SDSTAT_WMASK : Fld := ⟨.SDSTAT, 0, 16, .ro, 0, .any⟩
def SDSTAT_ACTN : Fld := ⟨.SDSTAT, 16, 2, .ro, 0, .any⟩
def SDSTAT_STROKE : Fld := ⟨.SDSTAT, 24, 40, .ro, 0, .any⟩
def LOOP_HELD_COUNT : Fld := ⟨.LOOP_HELD, 0, 64, .ctr, 0, .any⟩
def LOOP_RETIRES_COUNT : Fld := ⟨.LOOP_RETIRES, 0, 64, .ctr, 0, .any⟩
def OVERPOP_COUNT : Fld := ⟨.OVERPOP, 0, 64, .ctr, 0, .any⟩
def STALL_RPTS_COUNT : Fld := ⟨.STALL_RPTS, 0, 64, .ctr, 0, .any⟩
def SDLK_DETECT_COUNT : Fld := ⟨.SDLK_DETECT, 0, 64, .ctr, 0, .any⟩
def SDLK_WDRAWN_COUNT : Fld := ⟨.SDLK_WDRAWN, 0, 64, .ctr, 0, .any⟩
/-! 03_lanes_queues.md R74. -/
def QBASE_BASE : Fld := ⟨.QBASE, 5, 43, .rw, 0, .any⟩
def QCFG_EN : Fld := ⟨.QCFG, 0, 1, .rw, 0, .any⟩
def QCFG_LOG2N : Fld := ⟨.QCFG, 1, 4, .rw, 0, (.range 1 15)⟩
def QCFG_PMODE : Fld := ⟨.QCFG, 5, 2, .rw, 0, (.upTo 2)⟩
def QCFG_CMODE : Fld := ⟨.QCFG, 7, 1, .rw, 0, .any⟩
def QCFG_WMEN : Fld := ⟨.QCFG, 8, 1, .rw, 0, .any⟩
def QCFG_MSGM1 : Fld := ⟨.QCFG, 9, 5, .rw, 0, .any⟩
def QCFG_HIWM : Fld := ⟨.QCFG, 14, 16, .rw, 0, .any⟩
def QCFG_LOWM : Fld := ⟨.QCFG, 30, 16, .rw, 0, .any⟩
def QCFG_LSRC : Fld := ⟨.QCFG, 46, 1, .ro, 0, .any⟩
def QCFG_LSINK : Fld := ⟨.QCFG, 47, 1, .ro, 0, .any⟩
def QPTR_HEAD : Fld := ⟨.QPTR, 0, 16, .ro, 0, .any⟩
def QPTR_TAIL : Fld := ⟨.QPTR, 16, 16, .ro, 0, .any⟩
def QPTR_STAGED : Fld := ⟨.QPTR, 32, 6, .ro, 0, .any⟩
def QPTR_RESV : Fld := ⟨.QPTR, 40, 1, .ro, 0, .any⟩
def QPTR_ABAND : Fld := ⟨.QPTR, 41, 1, .ro, 0, .any⟩
def QPTR_OWNTILE : Fld := ⟨.QPTR, 42, 6, .ro, 0, .any⟩
def QPTR_OWNTHR : Fld := ⟨.QPTR, 48, 4, .ro, 0, .any⟩
def QPTR_HIST : Fld := ⟨.QPTR, 52, 1, .ro, 0, .any⟩
def QDB_PROD : Fld := ⟨.QDB, 0, 16, .wo, 0, .any⟩
def QDB_CONS : Fld := ⟨.QDB, 16, 16, .wo, 0, .any⟩
/-! 03_lanes_queues.md R79. -/
def QWPEND_PEND : Fld := ⟨.QWPEND, 0, 64, .w1c, 0, .any⟩
/-! 03_lanes_queues.md R78. -/
def QRETRIES_COUNT : Fld := ⟨.QRETRIES, 0, 64, .ctr, 0, .any⟩
/-! 04_stroke_storyboard.md R101. -/
def COXSTAT_BANK : Fld := ⟨.COXSTAT, 0, 1, .ro, 0, .any⟩
def COXSTAT_SHVALID : Fld := ⟨.COXSTAT, 1, 1, .ro, 0, .any⟩
def COXSTAT_NEXTSH : Fld := ⟨.COXSTAT, 2, 9, .ro, 0, .any⟩
def ACTREM0_FIRE : Fld := ⟨.ACTREM0, 0, 32, .ro, 0, .any⟩
def ACTREM0_SLOT : Fld := ⟨.ACTREM0, 32, 32, .ro, 0, .any⟩
def ACTREM1_MEMB : Fld := ⟨.ACTREM1, 0, 32, .ro, 0, .any⟩
def ACTREM1_FLIT : Fld := ⟨.ACTREM1, 32, 32, .ro, 0, .any⟩
def ACTOVR_OVRS : Fld := ⟨.ACTOVR, 0, 32, .ctr, 0, .any⟩
def ACTOVR_CONSEC : Fld := ⟨.ACTOVR, 32, 8, .ro, 0, .any⟩
def ACTOVR_HELD : Fld := ⟨.ACTOVR, 40, 1, .ro, 0, .any⟩
/-! 05_strands_scheduling.md R122. -/
def TSTAT_STATE : Fld := ⟨.TSTAT, 0, 3, .ro, 0, .any⟩
def TSTAT_WREASON : Fld := ⟨.TSTAT, 3, 4, .ro, 0, .any⟩
def TSTAT_PRI : Fld := ⟨.TSTAT, 7, 3, .ro, 0, .any⟩
def TSTAT_EPRI : Fld := ⟨.TSTAT, 10, 3, .ro, 0, .any⟩
def TSTAT_ACT : Fld := ⟨.TSTAT, 13, 6, .ro, 0, .any⟩
def TSTAT_CLS : Fld := ⟨.TSTAT, 19, 2, .ro, 0, .any⟩
def TSTAT_INH : Fld := ⟨.TSTAT, 21, 1, .ro, 0, .any⟩
def TSTAT_PVALID : Fld := ⟨.TSTAT, 22, 1, .ro, 0, .any⟩
def TSTAT_PARENT : Fld := ⟨.TSTAT, 23, 4, .ro, 0, .any⟩
def TSTAT_JCNT : Fld := ⟨.TSTAT, 27, 4, .ro, 0, .any⟩
def TSTAT_CTX : Fld := ⟨.TSTAT, 32, 16, .ro, 0, .any⟩
def TCTL_RESET : Fld := ⟨.TCTL, 0, 1, .wo, 0, .any⟩
def TCTL_RESUME : Fld := ⟨.TCTL, 1, 1, .wo, 0, .any⟩
def TCTL_SKIP : Fld := ⟨.TCTL, 2, 1, .wo, 0, .any⟩
def TPC_PC : Fld := ⟨.TPC, 0, 14, .ro, 0, .any⟩
def TEPC_EPC : Fld := ⟨.TEPC, 0, 14, .ro, 0, .any⟩
def TEPC_ECODE : Fld := ⟨.TEPC, 14, 8, .ro, 0, .any⟩
def TEPC_PCX : Fld := ⟨.TEPC, 22, 1, .ro, 0, .any⟩
def THND_HPC : Fld := ⟨.THND, 0, 14, .rw, 0, .any⟩
def THND_HEN : Fld := ⟨.THND, 14, 1, .rw, 0, .any⟩
def TISSUE_COUNT : Fld := ⟨.TISSUE, 0, 64, .ctr, 0, .any⟩
/-! 07_arithmetic.md R182. -/
def TARX_XF : Fld := ⟨.TARX, 0, 5, .ro, 0, .any⟩
def TARX_RMU : Fld := ⟨.TARX, 5, 3, .ro, 0, .any⟩
def TARX_P : Fld := ⟨.TARX, 8, 1, .ro, 0, .any⟩
def TARX_OPC : Fld := ⟨.TARX, 9, 8, .ro, 0, .any⟩
def TARX_RD : Fld := ⟨.TARX, 17, 5, .ro, 0, .any⟩
def TARX_INT : Fld := ⟨.TARX, 22, 1, .ro, 0, .any⟩
/-! 13_control_host.md R356. -/
def DBGT_HALT : Fld := ⟨.DBGT, 0, 1, .wo, 0, .any⟩
def DBGT_RUN : Fld := ⟨.DBGT, 1, 1, .wo, 0, .any⟩
def DBGT_STEP : Fld := ⟨.DBGT, 2, 1, .wo, 0, .any⟩
def DBGT_CHPOL : Fld := ⟨.DBGT, 3, 1, .rw, 0, .any⟩
def DBGT_HREASON : Fld := ⟨.DBGT, 4, 3, .ro, 0, .any⟩
def DBGT_BEN : Fld := ⟨.DBGT, 7, 1, .rw, 0, .any⟩
def DBGT_BPC : Fld := ⟨.DBGT, 8, 14, .rw, 0, .any⟩
/-! 05_strands_scheduling.md R132. -/
def SCHSTAT_RLUSED : Fld := ⟨.SCHSTAT, 0, 10, .ro, 0, .any⟩
def SCHSTAT_C0USED : Fld := ⟨.SCHSTAT, 10, 4, .ro, 0, .any⟩
def SCHSTAT_DLUSED : Fld := ⟨.SCHSTAT, 14, 11, .ro, 0, .any⟩
def SCHSTAT_TFREE : Fld := ⟨.SCHSTAT, 25, 5, .ro, 16, .any⟩
def SCHSTAT_FQOVF : Fld := ⟨.SCHSTAT, 30, 1, .w1c, 0, .any⟩
def CANCEL_PRE_COUNT : Fld := ⟨.CANCEL_PRE, 0, 64, .ctr, 0, .any⟩
def CANCEL_POST_COUNT : Fld := ⟨.CANCEL_POST, 0, 64, .ctr, 0, .any⟩
def SPAWN_HELD_COUNT : Fld := ⟨.SPAWN_HELD, 0, 64, .ctr, 0, .any⟩
def FORK_HELD_COUNT : Fld := ⟨.FORK_HELD, 0, 64, .ctr, 0, .any⟩
def FQLOST_COUNT : Fld := ⟨.FQLOST, 0, 64, .ctr, 0, .any⟩
def DISPATCHED_COUNT : Fld := ⟨.DISPATCHED, 0, 64, .ctr, 0, .any⟩
def BEATNOW_BEAT : Fld := ⟨.BEATNOW, 0, 48, .ro, 0, .any⟩
/-! 09_test_engines.md R234. -/
def SCRTAB_D0 : Fld := ⟨.SCRTAB, 0, 15, .rw, 0, .any⟩
def SCRTAB_D1 : Fld := ⟨.SCRTAB, 16, 15, .rw, 0, .any⟩
def SCRTAB_D2 : Fld := ⟨.SCRTAB, 32, 15, .rw, 0, .any⟩
def SCRTAB_D3 : Fld := ⟨.SCRTAB, 48, 15, .rw, 0, .any⟩
/-! 09_test_engines.md R235. -/
def BPAT_BPAT : Fld := ⟨.BPAT, 0, 64, .rw, 0, .any⟩
def BMSK_BMSK : Fld := ⟨.BMSK, 0, 64, .rw, 0, .any⟩
/-! 09_test_engines.md R237. -/
def FLBASE_BASE : Fld := ⟨.FLBASE, 5, 43, .rw, 0, .any⟩
def FLOGCFG_EN : Fld := ⟨.FLOGCFG, 0, 1, .rw, 0, .any⟩
def FLOGCFG_WRAP : Fld := ⟨.FLOGCFG, 1, 1, .rw, 0, .any⟩
def FLOGCFG_LOG2N : Fld := ⟨.FLOGCFG, 2, 5, .rw, 4, (.range 4 24)⟩
def FLPTR_HEAD : Fld := ⟨.FLPTR, 0, 32, .rw, 0, .any⟩
def FLPTR_TAIL : Fld := ⟨.FLPTR, 32, 32, .ro, 0, .any⟩
def FLDROP_COUNT : Fld := ⟨.FLDROP, 0, 64, .ctr, 0, .any⟩
/-! 09_test_engines.md R240. -/
def FACAM_BLK : Fld := ⟨.FACAM, 0, 12, .ro, 0, .any⟩
def FACAM_KIND : Fld := ⟨.FACAM, 12, 1, .ro, 0, .any⟩
def FACAM_VALID : Fld := ⟨.FACAM, 13, 1, .ro, 0, .any⟩
def FACAM_CNT : Fld := ⟨.FACAM, 14, 8, .ro, 0, .any⟩
def FACAM_INDEX : Fld := ⟨.FACAM, 24, 32, .ro, 0, .any⟩
/-! 10_memory.md R254. -/
def BANKPWR_MODES : Fld := ⟨.BANKPWR, 0, 64, .rw, 0, .any⟩
def BANKSTAT_PWRPEND : Fld := ⟨.BANKSTAT, 0, 32, .ro, 0, .any⟩
def BANKSTAT_RFAIL : Fld := ⟨.BANKSTAT, 32, 32, .w1c, 0, .any⟩
/-! 10_memory.md R255. -/
def SPECC_COR : Fld := ⟨.SPECC, 0, 32, .ctr, 0, .any⟩
def SPECC_UNC : Fld := ⟨.SPECC, 32, 32, .ctr, 0, .any⟩
def WAKES_COUNT : Fld := ⟨.WAKES, 0, 64, .ctr, 0, .any⟩
/-! 10_memory.md R256. -/
def BANKFUSE_COLS : Fld := ⟨.BANKFUSE, 0, 32, .const, 0, .any⟩
def BANKFUSE_NUSED : Fld := ⟨.BANKFUSE, 32, 3, .const, 0, .any⟩
/-! 10_memory.md R266. -/
def RUSHCFG_EN : Fld := ⟨.RUSHCFG, 0, 1, .rw, 0, .any⟩
def RUSHCFG_PACE : Fld := ⟨.RUSHCFG, 1, 16, .rw, 64, (.range 1 65535)⟩
def RUSHSTAT_PHASE : Fld := ⟨.RUSHSTAT, 0, 2, .ro, 0, .any⟩
def RUSHSTAT_BANK : Fld := ⟨.RUSHSTAT, 2, 5, .ro, 0, .any⟩
def RUSHSTAT_PART : Fld := ⟨.RUSHSTAT, 7, 4, .ro, 0, .any⟩
def RUSHSTAT_WRITTEN : Fld := ⟨.RUSHSTAT, 11, 1, .ro, 0, .any⟩
def RUSHCNT_PASSES : Fld := ⟨.RUSHCNT, 0, 16, .ctr, 0, .any⟩
def RUSHCNT_FAILS : Fld := ⟨.RUSHCNT, 16, 16, .ctr, 0, .any⟩
def RUSHCNT_DISCARDS : Fld := ⟨.RUSHCNT, 32, 16, .ctr, 0, .any⟩
def RUSHCNT_ABORTS : Fld := ⟨.RUSHCNT, 48, 16, .ctr, 0, .any⟩
def RUSHLOG_BANK : Fld := ⟨.RUSHLOG, 0, 5, .ro, 0, .any⟩
def RUSHLOG_WORD : Fld := ⟨.RUSHLOG, 5, 13, .ro, 0, .any⟩
def RUSHLOG_COL : Fld := ⟨.RUSHLOG, 18, 7, .ro, 0, .any⟩
def RUSHLOG_STROKE : Fld := ⟨.RUSHLOG, 25, 39, .ro, 0, .any⟩
/-! 12_interrupts_locks.md R316. -/
def IPEND_PEND : Fld := ⟨.IPEND, 0, 64, .w1c, 0, .any⟩
def IEN_EN : Fld := ⟨.IEN, 0, 64, .rw, 0, .any⟩
def IDLVD_DLVD : Fld := ⟨.IDLVD, 0, 64, .ro, 0, .any⟩
def ICFG_SPLIT : Fld := ⟨.ICFG, 0, 4, .rw, 0, (.upTo 8)⟩
def ISWSET_SET : Fld := ⟨.ISWSET, 0, 64, .wo, 0, .any⟩
def SEVLOST_COUNT : Fld := ⟨.SEVLOST, 0, 64, .ctr, 0, .any⟩
def ISRC_PRIO : Fld := ⟨.ISRC, 0, 8, .rw, 0, .any⟩
def ISRC_TTHR : Fld := ⟨.ISRC, 8, 4, .rw, 0, .any⟩
def ISRC_WATCHED : Fld := ⟨.ISRC, 12, 1, .ro, 0, .any⟩
def TINT_PTHR : Fld := ⟨.TINT, 0, 8, .rw, 255, .any⟩
def TEVT_SEV : Fld := ⟨.TEVT, 0, 1, .ro, 0, .any⟩
def TEVT_DMA : Fld := ⟨.TEVT, 1, 1, .ro, 0, .any⟩
def TEVT_TMR : Fld := ⟨.TEVT, 2, 1, .ro, 0, .any⟩
def TEVT_INT : Fld := ⟨.TEVT, 3, 1, .ro, 0, .any⟩
def TEVT_DINT : Fld := ⟨.TEVT, 4, 1, .ro, 0, .any⟩
def TEVT_DMACNT : Fld := ⟨.TEVT, 8, 8, .ro, 0, .any⟩
def TEVT_SEVTHR : Fld := ⟨.TEVT, 16, 4, .ro, 0, .any⟩
def TEVT_SEVTILE : Fld := ⟨.TEVT, 20, 6, .ro, 0, .any⟩
def TEVT_SEVCC : Fld := ⟨.TEVT, 26, 1, .ro, 0, .any⟩
def TEVT_TMRH : Fld := ⟨.TEVT, 32, 16, .ro, 0, .any⟩
def TEVT_ISRC : Fld := ⟨.TEVT, 48, 9, .ro, 0, .any⟩
def TEVT_DLK : Fld := ⟨.TEVT, 63, 1, .ro, 0, .any⟩
/-! 12_interrupts_locks.md R328. -/
def LKCELL_CELL : Fld := ⟨.LKCELL, 0, 64, .rw, 0, .any⟩
def LKSTAT_HELD : Fld := ⟨.LKSTAT, 0, 1, .ro, 0, .any⟩
def LKSTAT_ABAND : Fld := ⟨.LKSTAT, 1, 1, .ro, 0, .any⟩
def LKSTAT_NWAIT : Fld := ⟨.LKSTAT, 2, 7, .ro, 0, .any⟩
def LKSTAT_OWNER : Fld := ⟨.LKSTAT, 16, 13, .ro, 0, .any⟩
def LKSTAT_TOPW : Fld := ⟨.LKSTAT, 32, 3, .ro, 0, .any⟩
def LKGCFG_LOC : Fld := ⟨.LKGCFG, 0, 7, .rw, 64, (.upTo 64)⟩
def LKGCFG_REM : Fld := ⟨.LKGCFG, 7, 7, .rw, 64, (.upTo 64)⟩
def LKGCFG_CCX : Fld := ⟨.LKGCFG, 14, 7, .rw, 64, (.upTo 64)⟩
def LKGCFG_HST : Fld := ⟨.LKGCFG, 21, 7, .rw, 0, (.upTo 64)⟩
def LKGCFG_DBG : Fld := ⟨.LKGCFG, 28, 7, .rw, 64, (.upTo 64)⟩
def LKGCFG_MODE : Fld := ⟨.LKGCFG, 35, 1, .rw, 0, .any⟩
def LKCNT_CONTEND : Fld := ⟨.LKCNT, 0, 32, .ctr, 0, .any⟩
def LKCNT_ABANDS : Fld := ⟨.LKCNT, 32, 16, .ctr, 0, .any⟩
def LKCNT_WFULL : Fld := ⟨.LKCNT, 48, 16, .ctr, 0, .any⟩
/-! 03_lanes_queues.md R68. -/
def LANECFG_EN : Fld := ⟨.LANECFG, 0, 1, .rw, 0, .any⟩
def LANECFG_SINK : Fld := ⟨.LANECFG, 1, 3, .rw, 0, (.upTo 3)⟩
def LANECFG_SPORT : Fld := ⟨.LANECFG, 4, 6, .rw, 0, .any⟩
def LANECFG_SQ : Fld := ⟨.LANECFG, 10, 8, .rw, 0, .any⟩
def LANECFG_WINM1 : Fld := ⟨.LANECFG, 18, 8, .rw, 0, .any⟩
def LANECFG_SRCK : Fld := ⟨.LANECFG, 26, 2, .rw, 0, (.upTo 2)⟩
def LANECFG_SRC : Fld := ⟨.LANECFG, 28, 6, .rw, 0, .any⟩
def LANECFG_SRCQ : Fld := ⟨.LANECFG, 34, 8, .rw, 0, .any⟩
def LANECFG_CLS0 : Fld := ⟨.LANECFG, 42, 1, .rw, 0, .any⟩
/-! 03_lanes_queues.md R69. -/
def LANEGAP_GAPTO : Fld := ⟨.LANEGAP, 0, 16, .rw, 1000, (.range 1 65535)⟩
def LANEGAP_GAPMODE : Fld := ⟨.LANEGAP, 16, 1, .rw, 0, .any⟩
def LANEGAP_FTILE : Fld := ⟨.LANEGAP, 17, 6, .rw, 0, .any⟩
/-! 03_lanes_queues.md R71. -/
def LANESTAT_HEAD : Fld := ⟨.LANESTAT, 0, 24, .ro, 0, .any⟩
def LANESTAT_SNEXT : Fld := ⟨.LANESTAT, 24, 24, .ro, 0, .any⟩
def LANESTAT_BUFD : Fld := ⟨.LANESTAT, 48, 9, .ro, 0, .any⟩
def LANESTAT_STATE : Fld := ⟨.LANESTAT, 57, 2, .ro, 0, .any⟩
def LANESTAT_HELD : Fld := ⟨.LANESTAT, 59, 1, .ro, 0, .any⟩
def LANESTAT_GTRUN : Fld := ⟨.LANESTAT, 60, 1, .ro, 0, .any⟩
def LANESTAT_SKIP : Fld := ⟨.LANESTAT, 61, 1, .wo, 0, .any⟩
/-! 03_lanes_queues.md R72. -/
def LANECNT_GAPS : Fld := ⟨.LANECNT, 0, 16, .ctr, 0, .any⟩
def LANECNT_LATE : Fld := ⟨.LANECNT, 16, 16, .ctr, 0, .any⟩
def LANECNT_DUPSEQ : Fld := ⟨.LANECNT, 32, 16, .ctr, 0, .any⟩
def LANECNT_OOW : Fld := ⟨.LANECNT, 48, 16, .ctr, 0, .any⟩
/-! 03_lanes_queues.md R73. -/
def CBFREE_FREE : Fld := ⟨.CBFREE, 0, 14, .ro, 0, .any⟩
/-! 04_stroke_storyboard.md R88. -/
def STRKCFG_SRC : Fld := ⟨.STRKCFG, 0, 2, .rws, 0, .any⟩
def STRKCFG_MKR : Fld := ⟨.STRKCFG, 2, 1, .rws, 0, .any⟩
def STRKCFG_OUTEN : Fld := ⟨.STRKCFG, 3, 1, .rw, 0, .any⟩
def STRKCFG_INDLY : Fld := ⟨.STRKCFG, 4, 16, .rws, 0, .any⟩
/-! 04_stroke_storyboard.md R89. -/
def STRKSTAT_LOCK : Fld := ⟨.STRKSTAT, 0, 1, .ro, 0, .any⟩
def STRKSTAT_HOLD : Fld := ⟨.STRKSTAT, 1, 1, .ro, 0, .any⟩
def STRKSTAT_SLEW : Fld := ⟨.STRKSTAT, 2, 1, .ro, 0, .any⟩
def STRKSTAT_PHERR : Fld := ⟨.STRKSTAT, 16, 16, .ro, 0, .any⟩
def STRKSTAT_LOSTCNT : Fld := ⟨.STRKSTAT, 32, 16, .ctr, 0, .any⟩
/-! 04_stroke_storyboard.md R90. -/
def SLATE_TAKE : Fld := ⟨.SLATE, 0, 16, .ro, 0, .any⟩
def SLATE_COUNT : Fld := ⟨.SLATE, 16, 48, .rws, 0, .any⟩
/-! 04_stroke_storyboard.md R89. -/
def EPOCH_EPOCH : Fld := ⟨.EPOCH, 0, 64, .rws, 0, .any⟩
/-! 04_stroke_storyboard.md R102. -/
def CUTTAKE_NTAKE : Fld := ⟨.CUTTAKE, 0, 16, .rw, 0, .any⟩
def CUTTAKE_ARM : Fld := ⟨.CUTTAKE, 16, 1, .rw, 0, .any⟩
def CUTTAKE_READY : Fld := ⟨.CUTTAKE, 17, 1, .ro, 0, .any⟩
def CUTTAKE_DONE : Fld := ⟨.CUTTAKE, 18, 1, .w1c, 0, .any⟩
def CUTTAKE_MISSED : Fld := ⟨.CUTTAKE, 19, 1, .w1c, 0, .any⟩
def CUTTAKE_FAIL : Fld := ⟨.CUTTAKE, 20, 1, .w1c, 0, .any⟩
def CUTSTRK_STROKE : Fld := ⟨.CUTSTRK, 0, 48, .rw, 0, .any⟩
/-! 04_stroke_storyboard.md R107. -/
def ARMFAIL_CHECK : Fld := ⟨.ARMFAIL, 0, 8, .ro, 0, .any⟩
def ARMFAIL_TILE : Fld := ⟨.ARMFAIL, 8, 6, .ro, 0, .any⟩
def ARMFAIL_ACT : Fld := ⟨.ARMFAIL, 14, 6, .ro, 0, .any⟩
def ARMFAIL_SHOT : Fld := ⟨.ARMFAIL, 20, 9, .ro, 0, .any⟩
def ARMFAIL_LANE : Fld := ⟨.ARMFAIL, 29, 12, .ro, 0, .any⟩
def ARMFAIL_CTX : Fld := ⟨.ARMFAIL, 41, 16, .ro, 0, .any⟩
def ARMFAIL_LINK : Fld := ⟨.ARMFAIL, 57, 5, .ro, 0, .any⟩
/-! 04_stroke_storyboard.md R112. -/
def C0BOUND_BCYC : Fld := ⟨.C0BOUND, 0, 9, .ro, 0, .any⟩
def C0BOUND_BVALID : Fld := ⟨.C0BOUND, 9, 1, .ro, 0, .any⟩
def C0BOUND_VWAIT : Fld := ⟨.C0BOUND, 10, 16, .ctr, 0, .any⟩
def C0BOUND_C0BREACH : Fld := ⟨.C0BOUND, 32, 16, .ctr, 0, .any⟩
def C0BOUND_C0RETRY : Fld := ⟨.C0BOUND, 48, 16, .ctr, 0, .any⟩
/-! 06_instruction_set.md R169. -/
def DTSTAT_BANK : Fld := ⟨.DTSTAT, 0, 1, .ro, 0, .any⟩
def DTSTAT_SHVALID : Fld := ⟨.DTSTAT, 1, 1, .ro, 0, .any⟩
def DTSTAT_TTAKE : Fld := ⟨.DTSTAT, 2, 16, .ro, 0, .any⟩
/-! 08_progress_deadlock.md R208. -/
def DLKCFG_SCANEN : Fld := ⟨.DLKCFG, 0, 1, .rw, 1, .any⟩
def DLKCFG_VICT : Fld := ⟨.DLKCFG, 1, 1, .rw, 1, .any⟩
def DLKLOG_VCTX : Fld := ⟨.DLKLOG, 0, 16, .ro, 65535, .any⟩
def DLKLOG_CYCLEN : Fld := ⟨.DLKLOG, 16, 8, .ro, 0, .any⟩
def DLKLOG_CERTCYC : Fld := ⟨.DLKLOG, 24, 1, .ro, 0, .any⟩
def DLKLOG_STROKE : Fld := ⟨.DLKLOG, 32, 32, .ro, 0, .any⟩
def DLKCNT_SCANS : Fld := ⟨.DLKCNT, 0, 32, .ctr, 0, .any⟩
def DLKCNT_VICTIMS : Fld := ⟨.DLKCNT, 32, 32, .ctr, 0, .any⟩
/-! 09_test_engines.md R218. -/
def CLCFG_EN : Fld := ⟨.CLCFG, 0, 1, .rw, 0, .any⟩
def CLCFG_MODE : Fld := ⟨.CLCFG, 1, 1, .rw, 0, .any⟩
def CLCFG_STREN : Fld := ⟨.CLCFG, 2, 1, .rw, 0, .any⟩
def CLCFG_AUTOX : Fld := ⟨.CLCFG, 3, 1, .rw, 0, .any⟩
def CLCFG_SAFEX : Fld := ⟨.CLCFG, 4, 1, .wo, 0, .any⟩
def CLCFG_FTILE : Fld := ⟨.CLCFG, 5, 6, .rw, 0, .any⟩
def CLSTAT_STATE : Fld := ⟨.CLSTAT, 0, 2, .ro, 0, .any⟩
def CLSTAT_HOLDING : Fld := ⟨.CLSTAT, 2, 1, .ro, 0, .any⟩
def CLSTAT_PHOLD : Fld := ⟨.CLSTAT, 3, 1, .ro, 0, .any⟩
def CLSTAT_LOSTF : Fld := ⟨.CLSTAT, 4, 1, .w1c, 0, .any⟩
def CLSTAT_RXSEQ : Fld := ⟨.CLSTAT, 16, 12, .ro, 0, .any⟩
def CLSTAT_TXSEQ : Fld := ⟨.CLSTAT, 28, 12, .ro, 0, .any⟩
def CLCNT0_CRCERR : Fld := ⟨.CLCNT0, 0, 16, .ctr, 0, .any⟩
def CLCNT0_FECCOR : Fld := ⟨.CLCNT0, 16, 16, .ctr, 0, .any⟩
def CLCNT0_REPLAYS : Fld := ⟨.CLCNT0, 32, 16, .ctr, 0, .any⟩
def CLCNT0_LOSSES : Fld := ⟨.CLCNT0, 48, 16, .ctr, 0, .any⟩
def CLCNT1_FRDROP : Fld := ⟨.CLCNT1, 0, 16, .ctr, 0, .any⟩
def CLCNT1_VRETRY : Fld := ⟨.CLCNT1, 16, 16, .ctr, 0, .any⟩
def CLCNT1_FOLDED : Fld := ⟨.CLCNT1, 32, 32, .ctr, 0, .any⟩
/-! 09_test_engines.md R222. -/
def SITEW0_EN : Fld := ⟨.SITEW0, 0, 1, .rw, 0, .any⟩
def SITEW0_LNEN : Fld := ⟨.SITEW0, 1, 1, .rw, 0, .any⟩
def SITEW0_C0EN : Fld := ⟨.SITEW0, 2, 1, .rw, 0, .any⟩
def SITEW0_C0ALL : Fld := ⟨.SITEW0, 3, 1, .rw, 0, .any⟩
def SITEW0_CNTEN : Fld := ⟨.SITEW0, 4, 1, .rw, 0, .any⟩
def SITEW0_CLS : Fld := ⟨.SITEW0, 5, 2, .rw, 0, (.range 1 3)⟩
def SITEW0_CTX : Fld := ⟨.SITEW0, 16, 16, .rw, 0, .any⟩
def SITEW0_C0CTX : Fld := ⟨.SITEW0, 32, 16, .rw, 0, .any⟩
def SITEW0_FLANE : Fld := ⟨.SITEW0, 48, 12, .rw, 0, .any⟩
def SITEW1_C0LANE : Fld := ⟨.SITEW1, 0, 12, .rw, 0, .any⟩
def SITEW1_CNTMAX : Fld := ⟨.SITEW1, 16, 16, .rw, 65535, (.range 1 65535)⟩
def SITEW1_ITERC : Fld := ⟨.SITEW1, 32, 16, .rw, 0, .any⟩
def SITEW1_C0ITER : Fld := ⟨.SITEW1, 48, 16, .rw, 0, .any⟩
def SITEW2_VDST : Fld := ⟨.SITEW2, 0, 20, .rw, 0, .any⟩
def SITEW2_ADST : Fld := ⟨.SITEW2, 20, 20, .rw, 0, .any⟩
def SITEW2_C0DST : Fld := ⟨.SITEW2, 40, 20, .rw, 0, .any⟩
def SITEW3_XDST : Fld := ⟨.SITEW3, 0, 20, .rw, 0, .any⟩
def SITEW3_CNTDST : Fld := ⟨.SITEW3, 20, 20, .rw, 0, .any⟩
/-! 09_test_engines.md R238. -/
def RBCFG_SR : Fld := ⟨.RBCFG, 0, 7, .rw, 0, (.upTo 64)⟩
def RBCFG_SC : Fld := ⟨.RBCFG, 7, 7, .rw, 0, (.upTo 64)⟩
def RBCFG_HOME : Fld := ⟨.RBCFG, 14, 6, .rw, 0, .any⟩
def RBCFG_EN : Fld := ⟨.RBCFG, 20, 1, .rw, 0, .any⟩
def RBCFG_OVF : Fld := ⟨.RBCFG, 21, 1, .ro, 0, .any⟩
def RBCFG_MR : Fld := ⟨.RBCFG, 22, 7, .ro, 0, .any⟩
def RBCFG_MC : Fld := ⟨.RBCFG, 29, 7, .ro, 0, .any⟩
def RBST_STATE : Fld := ⟨.RBST, 0, 4, .ro, 0, .any⟩
def RBST_DUE : Fld := ⟨.RBST, 4, 48, .ro, 0, .any⟩
/-! 09_test_engines.md R241. -/
def RPBASE_BASE : Fld := ⟨.RPBASE, 22, 26, .rws, 0, .any⟩
/-! 10_memory.md R251. -/
def MBSTAT_COLL : Fld := ⟨.MBSTAT, 0, 1, .w1c, 0, .any⟩
def MBSTAT_CWORD : Fld := ⟨.MBSTAT, 1, 9, .ro, 0, .any⟩
def MBSTAT_COLLCNT : Fld := ⟨.MBSTAT, 16, 16, .ctr, 0, .any⟩
/-! 11_noc_fabric.md R285. -/
def RTCTL_ISOL : Fld := ⟨.RTCTL, 0, 1, .ro, 0, .any⟩
def RTCTL_ISOE : Fld := ⟨.RTCTL, 1, 1, .ro, 0, .any⟩
def RTCTL_UNISO : Fld := ⟨.RTCTL, 2, 1, .wo, 0, .any⟩
def RTCTL_UNISOE : Fld := ⟨.RTCTL, 3, 1, .wo, 0, .any⟩
def RTCTL_DTTO : Fld := ⟨.RTCTL, 4, 16, .rw, 2000, (.range 1 65535)⟩
def RTCTL_FENCE : Fld := ⟨.RTCTL, 20, 2, .ro, 0, .any⟩
def RTCNT0_COR : Fld := ⟨.RTCNT0, 0, 16, .ctr, 0, .any⟩
def RTCNT0_HRPL : Fld := ⟨.RTCNT0, 16, 16, .ctr, 0, .any⟩
def RTCNT0_HDROP : Fld := ⟨.RTCNT0, 32, 16, .ctr, 0, .any⟩
def RTCNT0_E2E : Fld := ⟨.RTCNT0, 48, 16, .ctr, 0, .any⟩
def RTCNT1_ABSORB : Fld := ⟨.RTCNT1, 0, 32, .ctr, 0, .any⟩
def RTCNT1_C0W2 : Fld := ⟨.RTCNT1, 32, 16, .ctr, 0, .any⟩
def RTCNT2_FRET : Fld := ⟨.RTCNT2, 0, 32, .ctr, 0, .any⟩
def RTCNT2_QBNC : Fld := ⟨.RTCNT2, 32, 32, .ctr, 0, .any⟩
/-! 10_memory.md R259. -/
def DRCFG_RESV : Fld := ⟨.DRCFG, 0, 1, .rws, 0, .any⟩
def DRCFG_AUTOMO : Fld := ⟨.DRCFG, 1, 1, .rw, 0, .any⟩
def DRCFG_UNCLIM : Fld := ⟨.DRCFG, 2, 16, .rw, 16, (.range 1 65535)⟩
def DRSTAT_DSIZE : Fld := ⟨.DRSTAT, 0, 16, .ro, 57344, .any⟩
def DRSTAT_MOCH : Fld := ⟨.DRSTAT, 16, 5, .ro, 0, .any⟩
def DRSTAT_MOST : Fld := ⟨.DRSTAT, 21, 2, .ro, 0, .any⟩
def DRSTAT_MOPTR : Fld := ⟨.DRSTAT, 23, 20, .ro, 0, .any⟩
def MOCMD_CH : Fld := ⟨.MOCMD, 0, 5, .wo, 0, .any⟩
def MOCMD_GO : Fld := ⟨.MOCMD, 5, 1, .wo, 0, .any⟩
def CHSTAT_STATE : Fld := ⟨.CHSTAT, 0, 2, .ro, 0, .any⟩
def CHSTAT_COR : Fld := ⟨.CHSTAT, 16, 24, .ctr, 0, .any⟩
def CHSTAT_UNC : Fld := ⟨.CHSTAT, 40, 24, .ctr, 0, .any⟩
/-! 10_memory.md R266. -/
def RDCFG_EN : Fld := ⟨.RDCFG, 0, 1, .rw, 0, .any⟩
def RDCFG_SHBASE : Fld := ⟨.RDCFG, 20, 28, .rws, 0, .any⟩
def RDSTAT_PHASE : Fld := ⟨.RDSTAT, 0, 2, .ro, 0, .any⟩
def RDSTAT_REGION : Fld := ⟨.RDSTAT, 2, 16, .ro, 0, .any⟩
def RDSTAT_WRITTEN : Fld := ⟨.RDSTAT, 18, 1, .ro, 0, .any⟩
def RDCNT_PASSES : Fld := ⟨.RDCNT, 0, 16, .ctr, 0, .any⟩
def RDCNT_FAILS : Fld := ⟨.RDCNT, 16, 16, .ctr, 0, .any⟩
def RDCNT_DISCARDS : Fld := ⟨.RDCNT, 32, 16, .ctr, 0, .any⟩
def RDCNT_ABORTS : Fld := ⟨.RDCNT, 48, 16, .ctr, 0, .any⟩
def RDLOG_CH : Fld := ⟨.RDLOG, 0, 5, .ro, 0, .any⟩
def RDLOG_LC : Fld := ⟨.RDLOG, 5, 31, .ro, 0, .any⟩
def RDLOG_BIT : Fld := ⟨.RDLOG, 36, 3, .ro, 0, .any⟩
/-! 11_noc_fabric.md R304. -/
def FLCFG_EN : Fld := ⟨.FLCFG, 0, 1, .rw, 0, .any⟩
def FLCFG_MODE : Fld := ⟨.FLCFG, 1, 1, .rw, 0, .any⟩
def FLCFG_PEERV : Fld := ⟨.FLCFG, 2, 1, .rw, 0, .any⟩
def FLCFG_PEER : Fld := ⟨.FLCFG, 3, 16, .rw, 65535, .any⟩
def FLSTAT_STATE : Fld := ⟨.FLSTAT, 0, 2, .ro, 0, .any⟩
def FLSTAT_MISWIRE : Fld := ⟨.FLSTAT, 2, 1, .ro, 0, .any⟩
def FLSTAT_LOSTF : Fld := ⟨.FLSTAT, 3, 1, .w1c, 0, .any⟩
def FLSTAT_PDEV : Fld := ⟨.FLSTAT, 4, 16, .ro, 65535, .any⟩
def FLSTAT_RXSEQ : Fld := ⟨.FLSTAT, 20, 12, .ro, 0, .any⟩
def FLSTAT_TXSEQ : Fld := ⟨.FLSTAT, 32, 12, .ro, 0, .any⟩
def FLCNT0_CRCERR : Fld := ⟨.FLCNT0, 0, 16, .ctr, 0, .any⟩
def FLCNT0_FECCOR : Fld := ⟨.FLCNT0, 16, 16, .ctr, 0, .any⟩
def FLCNT0_REPLAYS : Fld := ⟨.FLCNT0, 32, 16, .ctr, 0, .any⟩
def FLCNT0_LOSSES : Fld := ⟨.FLCNT0, 48, 16, .ctr, 0, .any⟩
def FLDLY_DLY : Fld := ⟨.FLDLY, 0, 24, .ro, 0, .any⟩
def FLDLY_DVALID : Fld := ⟨.FLDLY, 24, 1, .ro, 0, .any⟩
def FLCNT1_TXFR : Fld := ⟨.FLCNT1, 0, 32, .ctrw, 0, .any⟩
def FLCNT1_RXFR : Fld := ⟨.FLCNT1, 32, 32, .ctrw, 0, .any⟩
/-! 11_noc_fabric.md R305. -/
def FABCFG_DEVNUM : Fld := ⟨.FABCFG, 0, 16, .rws, 65535, .any⟩
def FABCFG_MAXHOPS : Fld := ⟨.FABCFG, 16, 4, .rw, 8, (.range 1 15)⟩
def FABCFG_HOLDT : Fld := ⟨.FABCFG, 20, 16, .rw, 200, .any⟩
def FABCFG_RETSTR : Fld := ⟨.FABCFG, 36, 8, .rw, 4, (.range 1 255)⟩
def FABCFG_MKHMAX : Fld := ⟨.FABCFG, 44, 4, .rw, 8, .any⟩
def FABSTAT_TKMISS : Fld := ⟨.FABSTAT, 0, 16, .ctr, 0, .any⟩
def FABSTAT_HOPSX : Fld := ⟨.FABSTAT, 16, 16, .ctr, 0, .any⟩
def FABSTAT_RETLOST : Fld := ⟨.FABSTAT, 32, 16, .ctr, 0, .any⟩
def FABSTAT_E2EERR : Fld := ⟨.FABSTAT, 48, 16, .ctr, 0, .any⟩
def RTBANK_FROM : Fld := ⟨.RTBANK, 0, 16, .rw, 0, .any⟩
def RTBANK_STATE : Fld := ⟨.RTBANK, 16, 2, .ro, 0, .any⟩
def RTBANK_STAGE : Fld := ⟨.RTBANK, 18, 1, .wo, 0, .any⟩
def RTBANK_UNSTAGE : Fld := ⟨.RTBANK, 19, 1, .wo, 0, .any⟩
def RTBANK_DRAIN : Fld := ⟨.RTBANK, 20, 24, .ro, 0, .any⟩
def RTBANK_QUIET : Fld := ⟨.RTBANK, 44, 8, .ro, 0, .any⟩
def PTPCFG_EN : Fld := ⟨.PTPCFG, 0, 1, .rws, 0, .any⟩
def PTPCFG_PORT : Fld := ⟨.PTPCFG, 1, 1, .rws, 0, .any⟩
def PTPCFG_TRANS : Fld := ⟨.PTPCFG, 2, 1, .rws, 0, .any⟩
def PTPCFG_DMECH : Fld := ⟨.PTPCFG, 3, 1, .rws, 0, .any⟩
def PTPCFG_DOMAIN : Fld := ⟨.PTPCFG, 4, 8, .rws, 0, (.upTo 127)⟩
def PTPSTAT_LOCKED : Fld := ⟨.PTPSTAT, 0, 1, .ro, 0, .any⟩
def PTPSTAT_LOSTF : Fld := ⟨.PTPSTAT, 1, 1, .w1c, 0, .any⟩
def PTPSTAT_OFS : Fld := ⟨.PTPSTAT, 2, 32, .ro, 0, .any⟩
def RTENT_ENTS : Fld := ⟨.RTENT, 0, 64, .rw, 0, .any⟩
def UNRMAP_MAP : Fld := ⟨.UNRMAP, 0, 64, .ro, 0, .any⟩
/-! 12_interrupts_locks.md R317. -/
def DPEND_PEND : Fld := ⟨.DPEND, 0, 64, .w1c, 0, .any⟩
def DEN_EN : Fld := ⟨.DEN, 0, 64, .rw, 0, .any⟩
def DDLVD_DLVD : Fld := ⟨.DDLVD, 0, 64, .ro, 0, .any⟩
def DCFG_SPLIT : Fld := ⟨.DCFG, 0, 4, .rw, 0, (.upTo 8)⟩
def DRETURN_COUNT : Fld := ⟨.DRETURN, 0, 64, .ctr, 0, .any⟩
def DSWSET_SET : Fld := ⟨.DSWSET, 0, 64, .wo, 0, .any⟩
def DSRC_PRIO : Fld := ⟨.DSRC, 0, 8, .rw, 0, .any⟩
def DSRC_TTHR : Fld := ⟨.DSRC, 8, 4, .rw, 0, .any⟩
def DSRC_TTILE : Fld := ⟨.DSRC, 12, 6, .rw, 0, .any⟩
def DSRC_TCC : Fld := ⟨.DSRC, 18, 1, .rw, 1, .any⟩
def DSRC_WATCHED : Fld := ⟨.DSRC, 19, 1, .ro, 0, .any⟩
/-! 12_interrupts_locks.md R320. -/
def KWATCH_SRC : Fld := ⟨.KWATCH, 0, 9, .rw, 0, .any⟩
def KWATCH_TSRC : Fld := ⟨.KWATCH, 9, 1, .rw, 0, .any⟩
def KWATCH_TILE : Fld := ⟨.KWATCH, 10, 6, .rw, 0, .any⟩
def KWATCH_VALID : Fld := ⟨.KWATCH, 16, 1, .rw, 0, .any⟩
/-! 12_interrupts_locks.md R319. -/
def TPWR_REQ : Fld := ⟨.TPWR, 0, 2, .rw, 0, (.oneOf [0, 2, 3])⟩
def TPWR_STATE : Fld := ⟨.TPWR, 2, 2, .ro, 0, .any⟩
def TPWR_TRANS : Fld := ⟨.TPWR, 4, 1, .ro, 0, .any⟩
def TPWR_IDLEEN : Fld := ⟨.TPWR, 5, 1, .rw, 1, .any⟩
def TPWR_REFUSED : Fld := ⟨.TPWR, 6, 1, .w1c, 0, .any⟩
/-! 13_control_host.md R355. -/
def DAPSTAT_BUSY : Fld := ⟨.DAPSTAT, 0, 1, .ro, 0, .any⟩
def DAPSTAT_ERR : Fld := ⟨.DAPSTAT, 1, 3, .ro, 0, .any⟩
/-! 13_control_host.md R350. -/
def HPSTAT_STATE : Fld := ⟨.HPSTAT, 0, 3, .ro, 0, .any⟩
def HPSTAT_DEGRADED : Fld := ⟨.HPSTAT, 3, 1, .ro, 0, .any⟩
def HPSTAT_HRDY : Fld := ⟨.HPSTAT, 4, 1, .ro, 0, .any⟩
def HPSTAT_BUSY : Fld := ⟨.HPSTAT, 5, 1, .ro, 0, .any⟩
def HPSTAT_REPLREQ : Fld := ⟨.HPSTAT, 6, 1, .ro, 0, .any⟩
def HPCTL_ATTNEN : Fld := ⟨.HPCTL, 0, 1, .rw, 1, .any⟩
def APBASE_BASE : Fld := ⟨.APBASE, 24, 24, .rw, 0, .any⟩
def RBASE_BASE : Fld := ⟨.RBASE, 6, 58, .rw, 0, .any⟩
def RCFG_EN : Fld := ⟨.RCFG, 0, 1, .rw, 0, .any⟩
def RCFG_LOG2N : Fld := ⟨.RCFG, 1, 5, .rw, 4, .any⟩
def RCFG_DIR : Fld := ⟨.RCFG, 6, 1, .rw, 0, .any⟩
def RCFG_VEC : Fld := ⟨.RCFG, 7, 3, .rw, 0, .any⟩
def RCFG_IEN : Fld := ⟨.RCFG, 10, 1, .rw, 1, .any⟩
def RHEAD_HEAD : Fld := ⟨.RHEAD, 0, 32, .rw, 0, .any⟩
def RTAIL_TAIL : Fld := ⟨.RTAIL, 0, 32, .rw, 0, .any⟩
/-! 14_security_update.md R376. -/
def UPDSTAT_LASTRES : Fld := ⟨.UPDSTAT, 0, 8, .ro, 0, .any⟩
def UPDSTAT_LASTKIND : Fld := ⟨.UPDSTAT, 8, 4, .ro, 0, .any⟩
def UPDSTAT_RLSTG : Fld := ⟨.UPDSTAT, 12, 1, .ro, 0, .any⟩
def UPDSTAT_RLLOAD : Fld := ⟨.UPDSTAT, 13, 1, .ro, 0, .any⟩
def UPDSTAT_FWSTG : Fld := ⟨.UPDSTAT, 14, 1, .ro, 0, .any⟩
def UPDSTAT_FWTRIAL : Fld := ⟨.UPDSTAT, 15, 1, .ro, 0, .any⟩
def UPDSTAT_ACTSLOT : Fld := ⟨.UPDSTAT, 16, 1, .ro, 0, .any⟩
def UPDSTAT_PREF : Fld := ⟨.UPDSTAT, 17, 1, .ro, 0, .any⟩
def UPDSTAT_PRESYNC : Fld := ⟨.UPDSTAT, 18, 1, .ro, 0, .any⟩
def UPDSTAT_SPARES : Fld := ⟨.UPDSTAT, 19, 3, .ro, 0, .any⟩
def SUBCFG_AUTO : Fld := ⟨.SUBCFG, 0, 1, .rw, 1, .any⟩
def MONO_VALUE : Fld := ⟨.MONO, 0, 32, .ro, 0, .any⟩
/-! 15_module_electrical.md R390. -/
def TEMPSTAT_TJ : Fld := ⟨.TEMPSTAT, 0, 8, .ro, 0, .any⟩
def TEMPSTAT_TLID : Fld := ⟨.TEMPSTAT, 8, 8, .ro, 0, .any⟩
def TEMPSTAT_THWARN : Fld := ⟨.TEMPSTAT, 16, 1, .ro, 0, .any⟩
def TEMPSTAT_TRIPPED : Fld := ⟨.TEMPSTAT, 17, 1, .w1c, 0, .any⟩
def TEMPSTAT_BROWN : Fld := ⟨.TEMPSTAT, 18, 1, .w1c, 0, .any⟩
def TEMPSTAT_WARN : Fld := ⟨.TEMPSTAT, 19, 8, .rw, 108, (.upTo 117)⟩
/-! 15_module_electrical.md R392. -/
def REFSTAT_SEL : Fld := ⟨.REFSTAT, 0, 1, .ro, 0, .any⟩
def REFSTAT_LOST : Fld := ⟨.REFSTAT, 1, 1, .w1c, 0, .any⟩
def REFSTAT_PRESENT : Fld := ⟨.REFSTAT, 2, 1, .ro, 0, .any⟩
end F

/-- The map's entry for each register. -/
def regSpec : RegKind → RegSpec
  | .LTMAP => ⟨.LTMAP, false, 0x10000, 8, 64, [F.LTMAP_PHYS, F.LTMAP_NEXT, F.LTMAP_PEND]⟩
  | .PTSTAT => ⟨.PTSTAT, false, 0x10200, 8, 68, [F.PTSTAT_STATE, F.PTSTAT_LOGICAL, F.PTSTAT_RETIRE, F.PTSTAT_RET_REFUSED]⟩
  | .CTBASE => ⟨.CTBASE, false, 0x10600, 8, 1, [F.CTBASE_BASE]⟩
  | .MSCFG => ⟨.MSCFG, true, 0x400, 8, 1, [F.MSCFG_HSEED, F.MSCFG_SPILLEN]⟩
  | .SPBASE => ⟨.SPBASE, true, 0x408, 8, 1, [F.SPBASE_BASE]⟩
  | .SPSIZE => ⟨.SPSIZE, true, 0x410, 8, 1, [F.SPSIZE_SIZE]⟩
  | .MSOCC => ⟨.MSOCC, true, 0x418, 8, 1, [F.MSOCC_USED, F.MSOCC_STKUSED, F.MSOCC_C0USED, F.MSOCC_SPUSED]⟩
  | .EVICTS => ⟨.EVICTS, true, 0x420, 8, 1, [F.EVICTS_COUNT]⟩
  | .REFILLS => ⟨.REFILLS, true, 0x428, 8, 1, [F.REFILLS_COUNT]⟩
  | .PROBES_EMPTY => ⟨.PROBES_EMPTY, true, 0x430, 8, 1, [F.PROBES_EMPTY_COUNT]⟩
  | .DUPTAGS => ⟨.DUPTAGS, true, 0x438, 8, 1, [F.DUPTAGS_COUNT]⟩
  | .ORPHANS => ⟨.ORPHANS, true, 0x440, 8, 1, [F.ORPHANS_COUNT]⟩
  | .CLS_MISMATCH => ⟨.CLS_MISMATCH, true, 0x448, 8, 1, [F.CLS_MISMATCH_COUNT]⟩
  | .INPUT_STALLS => ⟨.INPUT_STALLS, true, 0x450, 8, 1, [F.INPUT_STALLS_COUNT]⟩
  | .CTX_MISSES => ⟨.CTX_MISSES, true, 0x458, 8, 1, [F.CTX_MISSES_COUNT]⟩
  | .CREATE_HELD => ⟨.CREATE_HELD, true, 0x460, 8, 1, [F.CREATE_HELD_COUNT]⟩
  | .GATED_OFF => ⟨.GATED_OFF, true, 0x468, 8, 1, [F.GATED_OFF_COUNT]⟩
  | .ALLOC_HELD => ⟨.ALLOC_HELD, true, 0x470, 8, 1, [F.ALLOC_HELD_COUNT]⟩
  | .ADMCAP => ⟨.ADMCAP, true, 0x480, 8, 1, [F.ADMCAP_CAP]⟩
  | .ADMRES => ⟨.ADMRES, true, 0x488, 8, 1, [F.ADMRES_RES, F.ADMRES_C0RES, F.ADMRES_LTRES]⟩
  | .ADMCFG => ⟨.ADMCFG, true, 0x490, 8, 1, [F.ADMCFG_OPENMIN]⟩
  | .POPCNT => ⟨.POPCNT, true, 0x498, 8, 1, [F.POPCNT_CPOP, F.POPCNT_OPOP, F.POPCNT_OPHWM]⟩
  | .LTSTAT => ⟨.LTSTAT, true, 0x4A0, 8, 1, [F.LTSTAT_LTUSED]⟩
  | .PRGCFG => ⟨.PRGCFG, true, 0x4A8, 8, 1, [F.PRGCFG_STALLN, F.PRGCFG_SDACT, F.PRGCFG_SDEN]⟩
  | .SDSTAT => ⟨.SDSTAT, true, 0x4B0, 8, 1, [F.SDSTAT_WMASK, F.SDSTAT_ACTN, F.SDSTAT_STROKE]⟩
  | .LOOP_HELD => ⟨.LOOP_HELD, true, 0x4C0, 8, 1, [F.LOOP_HELD_COUNT]⟩
  | .LOOP_RETIRES => ⟨.LOOP_RETIRES, true, 0x4C8, 8, 1, [F.LOOP_RETIRES_COUNT]⟩
  | .OVERPOP => ⟨.OVERPOP, true, 0x4D0, 8, 1, [F.OVERPOP_COUNT]⟩
  | .STALL_RPTS => ⟨.STALL_RPTS, true, 0x4D8, 8, 1, [F.STALL_RPTS_COUNT]⟩
  | .SDLK_DETECT => ⟨.SDLK_DETECT, true, 0x4E0, 8, 1, [F.SDLK_DETECT_COUNT]⟩
  | .SDLK_WDRAWN => ⟨.SDLK_WDRAWN, true, 0x4E8, 8, 1, [F.SDLK_WDRAWN_COUNT]⟩
  | .QBASE => ⟨.QBASE, true, 0x2000, 32, 256, [F.QBASE_BASE]⟩
  | .QCFG => ⟨.QCFG, true, 0x2008, 32, 256, [F.QCFG_EN, F.QCFG_LOG2N, F.QCFG_PMODE, F.QCFG_CMODE, F.QCFG_WMEN, F.QCFG_MSGM1, F.QCFG_HIWM, F.QCFG_LOWM, F.QCFG_LSRC, F.QCFG_LSINK]⟩
  | .QPTR => ⟨.QPTR, true, 0x2010, 32, 256, [F.QPTR_HEAD, F.QPTR_TAIL, F.QPTR_STAGED, F.QPTR_RESV, F.QPTR_ABAND, F.QPTR_OWNTILE, F.QPTR_OWNTHR, F.QPTR_HIST]⟩
  | .QDB => ⟨.QDB, true, 0x2018, 32, 256, [F.QDB_PROD, F.QDB_CONS]⟩
  | .QWPEND => ⟨.QWPEND, true, 0x4000, 8, 8, [F.QWPEND_PEND]⟩
  | .QRETRIES => ⟨.QRETRIES, true, 0x4040, 8, 1, [F.QRETRIES_COUNT]⟩
  | .COXSTAT => ⟨.COXSTAT, true, 0x5000, 8, 1, [F.COXSTAT_BANK, F.COXSTAT_SHVALID, F.COXSTAT_NEXTSH]⟩
  | .ACTREM0 => ⟨.ACTREM0, true, 0x5400, 16, 64, [F.ACTREM0_FIRE, F.ACTREM0_SLOT]⟩
  | .ACTREM1 => ⟨.ACTREM1, true, 0x5408, 16, 64, [F.ACTREM1_MEMB, F.ACTREM1_FLIT]⟩
  | .ACTOVR => ⟨.ACTOVR, true, 0x5800, 8, 64, [F.ACTOVR_OVRS, F.ACTOVR_CONSEC, F.ACTOVR_HELD]⟩
  | .TSTAT => ⟨.TSTAT, true, 0x8000, 64, 16, [F.TSTAT_STATE, F.TSTAT_WREASON, F.TSTAT_PRI, F.TSTAT_EPRI, F.TSTAT_ACT, F.TSTAT_CLS, F.TSTAT_INH, F.TSTAT_PVALID, F.TSTAT_PARENT, F.TSTAT_JCNT, F.TSTAT_CTX]⟩
  | .TCTL => ⟨.TCTL, true, 0x8008, 64, 16, [F.TCTL_RESET, F.TCTL_RESUME, F.TCTL_SKIP]⟩
  | .TPC => ⟨.TPC, true, 0x8010, 64, 16, [F.TPC_PC]⟩
  | .TEPC => ⟨.TEPC, true, 0x8018, 64, 16, [F.TEPC_EPC, F.TEPC_ECODE, F.TEPC_PCX]⟩
  | .THND => ⟨.THND, true, 0x8020, 64, 16, [F.THND_HPC, F.THND_HEN]⟩
  | .TISSUE => ⟨.TISSUE, true, 0x8028, 64, 16, [F.TISSUE_COUNT]⟩
  | .TRSV30 => ⟨.TRSV30, true, 0x8030, 64, 16, []⟩
  | .TRSV38 => ⟨.TRSV38, true, 0x8038, 64, 16, []⟩
  | .TARX => ⟨.TARX, true, 0x8400, 8, 16, [F.TARX_XF, F.TARX_RMU, F.TARX_P, F.TARX_OPC, F.TARX_RD, F.TARX_INT]⟩
  | .DBGT => ⟨.DBGT, true, 0x8800, 8, 16, [F.DBGT_HALT, F.DBGT_RUN, F.DBGT_STEP, F.DBGT_CHPOL, F.DBGT_HREASON, F.DBGT_BEN, F.DBGT_BPC]⟩
  | .SCHSTAT => ⟨.SCHSTAT, true, 0x9000, 8, 1, [F.SCHSTAT_RLUSED, F.SCHSTAT_C0USED, F.SCHSTAT_DLUSED, F.SCHSTAT_TFREE, F.SCHSTAT_FQOVF]⟩
  | .CANCEL_PRE => ⟨.CANCEL_PRE, true, 0x9008, 8, 1, [F.CANCEL_PRE_COUNT]⟩
  | .CANCEL_POST => ⟨.CANCEL_POST, true, 0x9010, 8, 1, [F.CANCEL_POST_COUNT]⟩
  | .SPAWN_HELD => ⟨.SPAWN_HELD, true, 0x9018, 8, 1, [F.SPAWN_HELD_COUNT]⟩
  | .FORK_HELD => ⟨.FORK_HELD, true, 0x9020, 8, 1, [F.FORK_HELD_COUNT]⟩
  | .FQLOST => ⟨.FQLOST, true, 0x9028, 8, 1, [F.FQLOST_COUNT]⟩
  | .DISPATCHED => ⟨.DISPATCHED, true, 0x9030, 8, 1, [F.DISPATCHED_COUNT]⟩
  | .BEATNOW => ⟨.BEATNOW, true, 0x9040, 8, 1, [F.BEATNOW_BEAT]⟩
  | .SCRTAB => ⟨.SCRTAB, true, 0xA000, 8, 128, [F.SCRTAB_D0, F.SCRTAB_D1, F.SCRTAB_D2, F.SCRTAB_D3]⟩
  | .BPAT => ⟨.BPAT, true, 0xA400, 16, 16, [F.BPAT_BPAT]⟩
  | .BMSK => ⟨.BMSK, true, 0xA408, 16, 16, [F.BMSK_BMSK]⟩
  | .FLBASE => ⟨.FLBASE, true, 0xA600, 8, 1, [F.FLBASE_BASE]⟩
  | .FLOGCFG => ⟨.FLOGCFG, true, 0xA608, 8, 1, [F.FLOGCFG_EN, F.FLOGCFG_WRAP, F.FLOGCFG_LOG2N]⟩
  | .FLPTR => ⟨.FLPTR, true, 0xA610, 8, 1, [F.FLPTR_HEAD, F.FLPTR_TAIL]⟩
  | .FLDROP => ⟨.FLDROP, true, 0xA618, 8, 1, [F.FLDROP_COUNT]⟩
  | .FACAM => ⟨.FACAM, true, 0xA800, 8, 512, [F.FACAM_BLK, F.FACAM_KIND, F.FACAM_VALID, F.FACAM_CNT, F.FACAM_INDEX]⟩
  | .BANKPWR => ⟨.BANKPWR, true, 0xC000, 8, 1, [F.BANKPWR_MODES]⟩
  | .BANKSTAT => ⟨.BANKSTAT, true, 0xC008, 8, 1, [F.BANKSTAT_PWRPEND, F.BANKSTAT_RFAIL]⟩
  | .SPECC => ⟨.SPECC, true, 0xC010, 8, 1, [F.SPECC_COR, F.SPECC_UNC]⟩
  | .WAKES => ⟨.WAKES, true, 0xC018, 8, 1, [F.WAKES_COUNT]⟩
  | .BANKFUSE => ⟨.BANKFUSE, true, 0xC100, 8, 32, [F.BANKFUSE_COLS, F.BANKFUSE_NUSED]⟩
  | .RUSHCFG => ⟨.RUSHCFG, true, 0xC200, 8, 1, [F.RUSHCFG_EN, F.RUSHCFG_PACE]⟩
  | .RUSHSTAT => ⟨.RUSHSTAT, true, 0xC208, 8, 1, [F.RUSHSTAT_PHASE, F.RUSHSTAT_BANK, F.RUSHSTAT_PART, F.RUSHSTAT_WRITTEN]⟩
  | .RUSHCNT => ⟨.RUSHCNT, true, 0xC210, 8, 1, [F.RUSHCNT_PASSES, F.RUSHCNT_FAILS, F.RUSHCNT_DISCARDS, F.RUSHCNT_ABORTS]⟩
  | .RUSHLOG => ⟨.RUSHLOG, true, 0xC218, 8, 1, [F.RUSHLOG_BANK, F.RUSHLOG_WORD, F.RUSHLOG_COL, F.RUSHLOG_STROKE]⟩
  | .IPEND => ⟨.IPEND, true, 0xD000, 8, 2, [F.IPEND_PEND]⟩
  | .IEN => ⟨.IEN, true, 0xD010, 8, 2, [F.IEN_EN]⟩
  | .IDLVD => ⟨.IDLVD, true, 0xD020, 8, 2, [F.IDLVD_DLVD]⟩
  | .ICFG => ⟨.ICFG, true, 0xD030, 8, 1, [F.ICFG_SPLIT]⟩
  | .ISWSET => ⟨.ISWSET, true, 0xD038, 8, 1, [F.ISWSET_SET]⟩
  | .SEVLOST => ⟨.SEVLOST, true, 0xD040, 8, 1, [F.SEVLOST_COUNT]⟩
  | .ISRC => ⟨.ISRC, true, 0xD100, 8, 128, [F.ISRC_PRIO, F.ISRC_TTHR, F.ISRC_WATCHED]⟩
  | .TINT => ⟨.TINT, true, 0xD800, 8, 16, [F.TINT_PTHR]⟩
  | .TEVT => ⟨.TEVT, true, 0xD880, 8, 16, [F.TEVT_SEV, F.TEVT_DMA, F.TEVT_TMR, F.TEVT_INT, F.TEVT_DINT, F.TEVT_DMACNT, F.TEVT_SEVTHR, F.TEVT_SEVTILE, F.TEVT_SEVCC, F.TEVT_TMRH, F.TEVT_ISRC, F.TEVT_DLK]⟩
  | .LKCELL => ⟨.LKCELL, true, 0xE000, 8, 64, [F.LKCELL_CELL]⟩
  | .LKSTAT => ⟨.LKSTAT, true, 0xE200, 8, 64, [F.LKSTAT_HELD, F.LKSTAT_ABAND, F.LKSTAT_NWAIT, F.LKSTAT_OWNER, F.LKSTAT_TOPW]⟩
  | .LKGCFG => ⟨.LKGCFG, true, 0xE400, 8, 1, [F.LKGCFG_LOC, F.LKGCFG_REM, F.LKGCFG_CCX, F.LKGCFG_HST, F.LKGCFG_DBG, F.LKGCFG_MODE]⟩
  | .LKCNT => ⟨.LKCNT, true, 0xE408, 8, 1, [F.LKCNT_CONTEND, F.LKCNT_ABANDS, F.LKCNT_WFULL]⟩
  | .LANECFG => ⟨.LANECFG, false, 0x20000, 32, 4096, [F.LANECFG_EN, F.LANECFG_SINK, F.LANECFG_SPORT, F.LANECFG_SQ, F.LANECFG_WINM1, F.LANECFG_SRCK, F.LANECFG_SRC, F.LANECFG_SRCQ, F.LANECFG_CLS0]⟩
  | .LANEGAP => ⟨.LANEGAP, false, 0x20008, 32, 4096, [F.LANEGAP_GAPTO, F.LANEGAP_GAPMODE, F.LANEGAP_FTILE]⟩
  | .LANESTAT => ⟨.LANESTAT, false, 0x20010, 32, 4096, [F.LANESTAT_HEAD, F.LANESTAT_SNEXT, F.LANESTAT_BUFD, F.LANESTAT_STATE, F.LANESTAT_HELD, F.LANESTAT_GTRUN, F.LANESTAT_SKIP]⟩
  | .LANECNT => ⟨.LANECNT, false, 0x20018, 32, 4096, [F.LANECNT_GAPS, F.LANECNT_LATE, F.LANECNT_DUPSEQ, F.LANECNT_OOW]⟩
  | .CBFREE => ⟨.CBFREE, false, 0x40000, 8, 77, [F.CBFREE_FREE]⟩
  | .STRKCFG => ⟨.STRKCFG, false, 0x50000, 8, 1, [F.STRKCFG_SRC, F.STRKCFG_MKR, F.STRKCFG_OUTEN, F.STRKCFG_INDLY]⟩
  | .STRKSTAT => ⟨.STRKSTAT, false, 0x50008, 8, 1, [F.STRKSTAT_LOCK, F.STRKSTAT_HOLD, F.STRKSTAT_SLEW, F.STRKSTAT_PHERR, F.STRKSTAT_LOSTCNT]⟩
  | .SLATE => ⟨.SLATE, false, 0x50010, 8, 1, [F.SLATE_TAKE, F.SLATE_COUNT]⟩
  | .EPOCH => ⟨.EPOCH, false, 0x50018, 8, 1, [F.EPOCH_EPOCH]⟩
  | .CUTTAKE => ⟨.CUTTAKE, false, 0x50028, 8, 1, [F.CUTTAKE_NTAKE, F.CUTTAKE_ARM, F.CUTTAKE_READY, F.CUTTAKE_DONE, F.CUTTAKE_MISSED, F.CUTTAKE_FAIL]⟩
  | .CUTSTRK => ⟨.CUTSTRK, false, 0x50030, 8, 1, [F.CUTSTRK_STROKE]⟩
  | .ARMFAIL => ⟨.ARMFAIL, false, 0x50038, 8, 1, [F.ARMFAIL_CHECK, F.ARMFAIL_TILE, F.ARMFAIL_ACT, F.ARMFAIL_SHOT, F.ARMFAIL_LANE, F.ARMFAIL_CTX, F.ARMFAIL_LINK]⟩
  | .C0BOUND => ⟨.C0BOUND, false, 0x50100, 8, 64, [F.C0BOUND_BCYC, F.C0BOUND_BVALID, F.C0BOUND_VWAIT, F.C0BOUND_C0BREACH, F.C0BOUND_C0RETRY]⟩
  | .DTSTAT => ⟨.DTSTAT, false, 0x50400, 8, 1, [F.DTSTAT_BANK, F.DTSTAT_SHVALID, F.DTSTAT_TTAKE]⟩
  | .DLKCFG => ⟨.DLKCFG, false, 0x70000, 8, 1, [F.DLKCFG_SCANEN, F.DLKCFG_VICT]⟩
  | .DLKLOG => ⟨.DLKLOG, false, 0x70008, 8, 1, [F.DLKLOG_VCTX, F.DLKLOG_CYCLEN, F.DLKLOG_CERTCYC, F.DLKLOG_STROKE]⟩
  | .DLKCNT => ⟨.DLKCNT, false, 0x70010, 8, 1, [F.DLKCNT_SCANS, F.DLKCNT_VICTIMS]⟩
  | .CLCFG => ⟨.CLCFG, false, 0x80000, 64, 32, [F.CLCFG_EN, F.CLCFG_MODE, F.CLCFG_STREN, F.CLCFG_AUTOX, F.CLCFG_SAFEX, F.CLCFG_FTILE]⟩
  | .CLSTAT => ⟨.CLSTAT, false, 0x80008, 64, 32, [F.CLSTAT_STATE, F.CLSTAT_HOLDING, F.CLSTAT_PHOLD, F.CLSTAT_LOSTF, F.CLSTAT_RXSEQ, F.CLSTAT_TXSEQ]⟩
  | .CLCNT0 => ⟨.CLCNT0, false, 0x80010, 64, 32, [F.CLCNT0_CRCERR, F.CLCNT0_FECCOR, F.CLCNT0_REPLAYS, F.CLCNT0_LOSSES]⟩
  | .CLCNT1 => ⟨.CLCNT1, false, 0x80018, 64, 32, [F.CLCNT1_FRDROP, F.CLCNT1_VRETRY, F.CLCNT1_FOLDED]⟩
  | .SITEW0 => ⟨.SITEW0, false, 0x90000, 32, 2048, [F.SITEW0_EN, F.SITEW0_LNEN, F.SITEW0_C0EN, F.SITEW0_C0ALL, F.SITEW0_CNTEN, F.SITEW0_CLS, F.SITEW0_CTX, F.SITEW0_C0CTX, F.SITEW0_FLANE]⟩
  | .SITEW1 => ⟨.SITEW1, false, 0x90008, 32, 2048, [F.SITEW1_C0LANE, F.SITEW1_CNTMAX, F.SITEW1_ITERC, F.SITEW1_C0ITER]⟩
  | .SITEW2 => ⟨.SITEW2, false, 0x90010, 32, 2048, [F.SITEW2_VDST, F.SITEW2_ADST, F.SITEW2_C0DST]⟩
  | .SITEW3 => ⟨.SITEW3, false, 0x90018, 32, 2048, [F.SITEW3_XDST, F.SITEW3_CNTDST]⟩
  | .RBCFG => ⟨.RBCFG, false, 0xA0000, 16, 4096, [F.RBCFG_SR, F.RBCFG_SC, F.RBCFG_HOME, F.RBCFG_EN, F.RBCFG_OVF, F.RBCFG_MR, F.RBCFG_MC]⟩
  | .RBST => ⟨.RBST, false, 0xA0008, 16, 4096, [F.RBST_STATE, F.RBST_DUE]⟩
  | .RPBASE => ⟨.RPBASE, false, 0xB0000, 8, 1, [F.RPBASE_BASE]⟩
  | .MBSTAT => ⟨.MBSTAT, false, 0xC1000, 8, 1, [F.MBSTAT_COLL, F.MBSTAT_CWORD, F.MBSTAT_COLLCNT]⟩
  | .RTCTL => ⟨.RTCTL, false, 0xD0000, 32, 72, [F.RTCTL_ISOL, F.RTCTL_ISOE, F.RTCTL_UNISO, F.RTCTL_UNISOE, F.RTCTL_DTTO, F.RTCTL_FENCE]⟩
  | .RTCNT0 => ⟨.RTCNT0, false, 0xD0008, 32, 72, [F.RTCNT0_COR, F.RTCNT0_HRPL, F.RTCNT0_HDROP, F.RTCNT0_E2E]⟩
  | .RTCNT1 => ⟨.RTCNT1, false, 0xD0010, 32, 72, [F.RTCNT1_ABSORB, F.RTCNT1_C0W2]⟩
  | .RTCNT2 => ⟨.RTCNT2, false, 0xD0018, 32, 72, [F.RTCNT2_FRET, F.RTCNT2_QBNC]⟩
  | .DRCFG => ⟨.DRCFG, false, 0xE0000, 8, 1, [F.DRCFG_RESV, F.DRCFG_AUTOMO, F.DRCFG_UNCLIM]⟩
  | .DRSTAT => ⟨.DRSTAT, false, 0xE0008, 8, 1, [F.DRSTAT_DSIZE, F.DRSTAT_MOCH, F.DRSTAT_MOST, F.DRSTAT_MOPTR]⟩
  | .MOCMD => ⟨.MOCMD, false, 0xE0010, 8, 1, [F.MOCMD_CH, F.MOCMD_GO]⟩
  | .CHSTAT => ⟨.CHSTAT, false, 0xE0100, 8, 32, [F.CHSTAT_STATE, F.CHSTAT_COR, F.CHSTAT_UNC]⟩
  | .RDCFG => ⟨.RDCFG, false, 0xE0200, 8, 1, [F.RDCFG_EN, F.RDCFG_SHBASE]⟩
  | .RDSTAT => ⟨.RDSTAT, false, 0xE0208, 8, 1, [F.RDSTAT_PHASE, F.RDSTAT_REGION, F.RDSTAT_WRITTEN]⟩
  | .RDCNT => ⟨.RDCNT, false, 0xE0210, 8, 1, [F.RDCNT_PASSES, F.RDCNT_FAILS, F.RDCNT_DISCARDS, F.RDCNT_ABORTS]⟩
  | .RDLOG => ⟨.RDLOG, false, 0xE0218, 8, 1, [F.RDLOG_CH, F.RDLOG_LC, F.RDLOG_BIT]⟩
  | .FLCFG => ⟨.FLCFG, false, 0xF0000, 64, 16, [F.FLCFG_EN, F.FLCFG_MODE, F.FLCFG_PEERV, F.FLCFG_PEER]⟩
  | .FLSTAT => ⟨.FLSTAT, false, 0xF0008, 64, 16, [F.FLSTAT_STATE, F.FLSTAT_MISWIRE, F.FLSTAT_LOSTF, F.FLSTAT_PDEV, F.FLSTAT_RXSEQ, F.FLSTAT_TXSEQ]⟩
  | .FLCNT0 => ⟨.FLCNT0, false, 0xF0010, 64, 16, [F.FLCNT0_CRCERR, F.FLCNT0_FECCOR, F.FLCNT0_REPLAYS, F.FLCNT0_LOSSES]⟩
  | .FLDLY => ⟨.FLDLY, false, 0xF0018, 64, 16, [F.FLDLY_DLY, F.FLDLY_DVALID]⟩
  | .FLCNT1 => ⟨.FLCNT1, false, 0xF0020, 64, 16, [F.FLCNT1_TXFR, F.FLCNT1_RXFR]⟩
  | .FABCFG => ⟨.FABCFG, false, 0xF1000, 8, 1, [F.FABCFG_DEVNUM, F.FABCFG_MAXHOPS, F.FABCFG_HOLDT, F.FABCFG_RETSTR, F.FABCFG_MKHMAX]⟩
  | .FABSTAT => ⟨.FABSTAT, false, 0xF1008, 8, 1, [F.FABSTAT_TKMISS, F.FABSTAT_HOPSX, F.FABSTAT_RETLOST, F.FABSTAT_E2EERR]⟩
  | .RTBANK => ⟨.RTBANK, false, 0xF1010, 8, 2, [F.RTBANK_FROM, F.RTBANK_STATE, F.RTBANK_STAGE, F.RTBANK_UNSTAGE, F.RTBANK_DRAIN, F.RTBANK_QUIET]⟩
  | .PTPCFG => ⟨.PTPCFG, false, 0xF2000, 8, 1, [F.PTPCFG_EN, F.PTPCFG_PORT, F.PTPCFG_TRANS, F.PTPCFG_DMECH, F.PTPCFG_DOMAIN]⟩
  | .PTPSTAT => ⟨.PTPSTAT, false, 0xF2008, 8, 1, [F.PTPSTAT_LOCKED, F.PTPSTAT_LOSTF, F.PTPSTAT_OFS]⟩
  | .RTENT => ⟨.RTENT, false, 0x100000, 8, 16384, [F.RTENT_ENTS]⟩
  | .UNRMAP => ⟨.UNRMAP, false, 0x120000, 8, 1024, [F.UNRMAP_MAP]⟩
  | .DPEND => ⟨.DPEND, false, 0x140000, 8, 8, [F.DPEND_PEND]⟩
  | .DEN => ⟨.DEN, false, 0x140040, 8, 8, [F.DEN_EN]⟩
  | .DDLVD => ⟨.DDLVD, false, 0x140080, 8, 8, [F.DDLVD_DLVD]⟩
  | .DCFG => ⟨.DCFG, false, 0x1400C0, 8, 1, [F.DCFG_SPLIT]⟩
  | .DRETURN => ⟨.DRETURN, false, 0x1400C8, 8, 1, [F.DRETURN_COUNT]⟩
  | .DSWSET => ⟨.DSWSET, false, 0x1400E0, 8, 4, [F.DSWSET_SET]⟩
  | .DSRC => ⟨.DSRC, false, 0x141000, 8, 512, [F.DSRC_PRIO, F.DSRC_TTHR, F.DSRC_TTILE, F.DSRC_TCC, F.DSRC_WATCHED]⟩
  | .KWATCH => ⟨.KWATCH, false, 0x160000, 8, 32, [F.KWATCH_SRC, F.KWATCH_TSRC, F.KWATCH_TILE, F.KWATCH_VALID]⟩
  | .TPWR => ⟨.TPWR, false, 0x160100, 8, 64, [F.TPWR_REQ, F.TPWR_STATE, F.TPWR_TRANS, F.TPWR_IDLEEN, F.TPWR_REFUSED]⟩
  | .DAPSTAT => ⟨.DAPSTAT, false, 0x170000, 8, 1, [F.DAPSTAT_BUSY, F.DAPSTAT_ERR]⟩
  | .HPSTAT => ⟨.HPSTAT, false, 0x180000, 8, 1, [F.HPSTAT_STATE, F.HPSTAT_DEGRADED, F.HPSTAT_HRDY, F.HPSTAT_BUSY, F.HPSTAT_REPLREQ]⟩
  | .HPCTL => ⟨.HPCTL, false, 0x180008, 8, 1, [F.HPCTL_ATTNEN]⟩
  | .APBASE => ⟨.APBASE, false, 0x180010, 8, 1, [F.APBASE_BASE]⟩
  | .RBASE => ⟨.RBASE, false, 0x180100, 32, 18, [F.RBASE_BASE]⟩
  | .RCFG => ⟨.RCFG, false, 0x180108, 32, 18, [F.RCFG_EN, F.RCFG_LOG2N, F.RCFG_DIR, F.RCFG_VEC, F.RCFG_IEN]⟩
  | .RHEAD => ⟨.RHEAD, false, 0x180110, 32, 18, [F.RHEAD_HEAD]⟩
  | .RTAIL => ⟨.RTAIL, false, 0x180118, 32, 18, [F.RTAIL_TAIL]⟩
  | .UPDSTAT => ⟨.UPDSTAT, false, 0x190000, 8, 1, [F.UPDSTAT_LASTRES, F.UPDSTAT_LASTKIND, F.UPDSTAT_RLSTG, F.UPDSTAT_RLLOAD, F.UPDSTAT_FWSTG, F.UPDSTAT_FWTRIAL, F.UPDSTAT_ACTSLOT, F.UPDSTAT_PREF, F.UPDSTAT_PRESYNC, F.UPDSTAT_SPARES]⟩
  | .SUBCFG => ⟨.SUBCFG, false, 0x190008, 8, 1, [F.SUBCFG_AUTO]⟩
  | .MONO => ⟨.MONO, false, 0x190010, 8, 4, [F.MONO_VALUE]⟩
  | .TEMPSTAT => ⟨.TEMPSTAT, false, 0x1A0000, 8, 1, [F.TEMPSTAT_TJ, F.TEMPSTAT_TLID, F.TEMPSTAT_THWARN, F.TEMPSTAT_TRIPPED, F.TEMPSTAT_BROWN, F.TEMPSTAT_WARN]⟩
  | .REFSTAT => ⟨.REFSTAT, false, 0x1A0008, 8, 1, [F.REFSTAT_SEL, F.REFSTAT_LOST, F.REFSTAT_PRESENT]⟩

/-- The registers of a tile window, part 1. -/
def tileKinds0 : List RegKind := [.MSCFG, .SPBASE, .SPSIZE, .MSOCC, .EVICTS, .REFILLS, .PROBES_EMPTY, .DUPTAGS, .ORPHANS, .CLS_MISMATCH, .INPUT_STALLS, .CTX_MISSES, .CREATE_HELD, .GATED_OFF, .ALLOC_HELD, .ADMCAP, .ADMRES, .ADMCFG, .POPCNT, .LTSTAT, .PRGCFG, .SDSTAT, .LOOP_HELD, .LOOP_RETIRES, .OVERPOP, .STALL_RPTS, .SDLK_DETECT, .SDLK_WDRAWN, .QBASE, .QCFG, .QPTR, .QDB, .QWPEND, .QRETRIES, .COXSTAT, .ACTREM0, .ACTREM1, .ACTOVR, .TSTAT, .TCTL]
/-- The registers of a tile window, part 2. -/
def tileKinds1 : List RegKind := [.TPC, .TEPC, .THND, .TISSUE, .TRSV30, .TRSV38, .TARX, .DBGT, .SCHSTAT, .CANCEL_PRE, .CANCEL_POST, .SPAWN_HELD, .FORK_HELD, .FQLOST, .DISPATCHED, .BEATNOW, .SCRTAB, .BPAT, .BMSK, .FLBASE, .FLOGCFG, .FLPTR, .FLDROP, .FACAM, .BANKPWR, .BANKSTAT, .SPECC, .WAKES, .BANKFUSE, .RUSHCFG, .RUSHSTAT, .RUSHCNT, .RUSHLOG, .IPEND, .IEN, .IDLVD, .ICFG, .ISWSET, .SEVLOST, .ISRC]
/-- The registers of a tile window, part 3. -/
def tileKinds2 : List RegKind := [.TINT, .TEVT, .LKCELL, .LKSTAT, .LKGCFG, .LKCNT]
/-- The registers of a tile window. -/
def tileKinds : List RegKind := tileKinds0 ++ tileKinds1 ++ tileKinds2

/-- The registers of the device window, part 1. -/
def devKinds0 : List RegKind := [.LTMAP, .PTSTAT, .CTBASE, .LANECFG, .LANEGAP, .LANESTAT, .LANECNT, .CBFREE, .STRKCFG, .STRKSTAT, .SLATE, .EPOCH, .CUTTAKE, .CUTSTRK, .ARMFAIL, .C0BOUND, .DTSTAT, .DLKCFG, .DLKLOG, .DLKCNT, .CLCFG, .CLSTAT, .CLCNT0, .CLCNT1, .SITEW0, .SITEW1, .SITEW2, .SITEW3, .RBCFG, .RBST, .RPBASE, .MBSTAT, .RTCTL, .RTCNT0, .RTCNT1, .RTCNT2, .DRCFG, .DRSTAT, .MOCMD, .CHSTAT]
/-- The registers of the device window, part 2. -/
def devKinds1 : List RegKind := [.RDCFG, .RDSTAT, .RDCNT, .RDLOG, .FLCFG, .FLSTAT, .FLCNT0, .FLDLY, .FLCNT1, .FABCFG, .FABSTAT, .RTBANK, .PTPCFG, .PTPSTAT, .RTENT, .UNRMAP, .DPEND, .DEN, .DDLVD, .DCFG, .DRETURN, .DSWSET, .DSRC, .KWATCH, .TPWR, .DAPSTAT, .HPSTAT, .HPCTL, .APBASE, .RBASE, .RCFG, .RHEAD, .RTAIL, .UPDSTAT, .SUBCFG, .MONO, .TEMPSTAT, .REFSTAT]
/-- The registers of the device window. -/
def devKinds : List RegKind := devKinds0 ++ devKinds1

/-- The register and element of a list of kinds that holds a window offset. -/
def findKind (l : List RegKind) (off : Nat) : Option (RegKind × Nat) :=
  match l with
  | [] => none
  | k :: r =>
    let e := regSpec k
    if e.base ≤ off ∧ (off - e.base) % e.stride = 0 ∧ (off - e.base) / e.stride < e.count
    then some (k, (off - e.base) / e.stride) else findKind r off

end Sys2Proof.Machine
end

