-- ==== Sys2Proof/Machine/Types.lean ====
section
/-! DEFINITION. The kinds of data the state holds: tokens, threads, tasks, matching-store entries, lanes, memory requests, packets, control messages and the state of each unit. -/
namespace Sys2Proof.Machine

/-- A token: the words TAG, DST, VAL and AUX (02 R22, R23). -/
structure Token where
  tag : Word
  dst : Word
  val : Word
  aux : Word
  deriving DecidableEq, Repr

/-- The seven device states (00 Device states, 13 R339). -/
inductive DevState where
  | reset | boot | standby | armed | running | draining | fault
  deriving DecidableEq, Repr

/-- Thread states (05 R121). -/
inductive TState where
  | free | ready | wait | faulted | halted
  deriving DecidableEq, Repr

/-- What a thread in WAIT waits for (05 R121, R122); `trip`: its CHW or CHC is on the way to the queue unit of another tile. -/
inductive WaitFor where
  | none
  | wfe
  | lock (lk : Nat)
  | qEmpty (q : Nat)
  | qFull (tile q : Nat)
  | chan (tile q : Nat)
  | trip (tile q : Nat)
  | credit (lane : Nat)
  | pool
  | join
  | timer (handle : Nat)
  | ring (tile q : Nat)
  deriving DecidableEq, Repr

/-- What a wake hands to the waiting instruction: a status for its destination, a queue entry, the number of a child, a code to fault with, or the order to try again. -/
inductive WakeRes where
  | status (v : Word)
  | entry (t : Token)
  | child (n : Nat)
  | fails (code : Nat)
  | retry
  deriving DecidableEq, Repr

/-- Why a READY thread holds an instruction that did not complete and is tried again each beat (R78, R126, R154, R232), or keeps an emission for room (R275, R280). -/
inductive RetryKind where
  | push | timer | dma | verdict | emit | lock
  deriving DecidableEq, Repr

/-- A destination of a load: a w register or an f register. -/
inductive Dest where
  | w (n : Nat)
  | f (n : Nat)
  deriving DecidableEq, Repr

/-- How loaded bytes become a register value (06 R154). -/
inductive Ext where
  | sign | zero
  deriving DecidableEq, Repr

/-- The registers of a thread as they stood when a load issued (06 R145). -/
structure Snap where
  w : Tab Nat Word
  f : Tab Nat Word
  fl : Word
  ph : Word
  pl : Word
  ls : Tab Nat Nat
  le : Tab Nat Nat
  lc : Tab Nat Nat
  deriving DecidableEq, Repr

/-- A load in progress (06 R144, R145): its request id, the PC of the load, its destinations with their values once known, the parts still to come, the merged bytes, how many later instructions have completed, the cycle of issue, and the registers before it. -/
structure Load where
  id : Nat
  pc : Nat
  dests : List Dest
  size : Nat
  ext : Ext
  parts : Nat
  acc : Nat
  vals : List Word
  code : Nat
  arrived : Bool
  passed : Nat
  issued : Nat
  snap : Snap
  deriving DecidableEq, Repr

/-- A thread context (05 Thread contexts, R121, R122; 06 R138). `outst`: stores and atomics not yet performed; `haltReq`: 1 a HALT, 2 the end of a STEP is asked for (13 R357); `stepLeft`: instructions left of a STEP; `ctTail`: FL.CT was cleared and still covers one instruction (07 R184); `chanLost`: a halt released its reservation, so its next instruction raises fault 0x0F (13 R358). -/
structure Thread where
  st : TState
  wait : WaitFor
  since : Nat
  wres : Option WakeRes
  iw : Word
  pri : Nat
  act : Nat
  cls : Nat
  ctx : Nat
  inh : Bool
  pvalid : Bool
  parent : Nat
  jcnt : Nat
  pc : Nat
  w : Tab Nat Word
  f : Tab Nat Word
  fl : Word
  ph : Word
  pl : Word
  ls : Tab Nat Nat
  le : Tab Nat Nat
  lc : Tab Nat Nat
  lends : Tab Nat Nat
  loads : List Load
  readyAt : Nat
  lastIss : Nat
  retry : Option RetryKind
  retryAt : Nat
  outst : Nat
  preempt : Bool
  haltReq : Nat
  wasWait : Bool
  stepLeft : Nat
  ctTail : Bool
  chanLost : Bool
  deriving DecidableEq, Repr

/-- A free thread context: every register 0 (log 4). -/
def Thread.rst : Thread :=
  { st := .free, wait := .none, since := 0, wres := none, iw := 0, pri := 0, act := 0, cls := 0, ctx := 0,
    inh := false, pvalid := false, parent := 0, jcnt := 0, pc := 0, w := [], f := [], fl := 0, ph := 0, pl := 0,
    ls := [], le := [], lc := [], lends := [], loads := [], readyAt := 0, lastIss := 0, retry := none, retryAt := 0,
    outst := 0, preempt := false, haltReq := 0, wasWait := false, stepLeft := 0, ctTail := false, chanLost := false }

/-- A ready firing: its context, node, iteration, node word with its constant, and operand tokens by port (02 R29, 06 R136). -/
structure Firing where
  ctx : Nat
  idx : Nat
  iter : Nat
  word : Word
  const : Word
  p0 : Option Token
  p1 : Option Token
  p2 : Option Token
  deriving DecidableEq, Repr

/-- The kinds of task (05 Tasks and the ready list). -/
inductive TaskK where
  | fire (f : Firing)
  | spawn (f : Firing)
  | timed (f : Firing)
  | wake (n : Nat)
  | event (n handle : Nat)
  deriving DecidableEq, Repr

/-- A task of the ready list (05 R113). -/
structure Task where
  kind : TaskK
  cls : Nat
  pri : Nat
  act : Nat
  stamp : Nat
  noted : Bool
  timer : Option Nat
  deriving DecidableEq, Repr

/-- Which population count a token is in (08 R190). -/
inductive Pop where
  | none | c | o
  deriving DecidableEq, Repr

/-- An entry of a matching store (02 R34, R37): the token, its set and way, its stamp, its population count, and whether the loop throttle holds it (R193). -/
structure Entry where
  tok : Token
  port : Nat
  set : Nat
  way : Nat
  stamp : Nat
  pop : Pop
  held : Bool
  cls : Nat
  deriving DecidableEq, Repr

/-- A token in an input stage (02 R35): whether it is a held or waiting token offered again (08 R194), and the count it is already in (R190). -/
structure Staged where
  tok : Token
  again : Bool
  pop : Pop
  deriving DecidableEq, Repr

/-- A probe in the refill-wait table (02 R40): the waiting token, the tokens for the same key that joined it, the set, the next block of the chain to read, and the partners found so far. -/
structure Probe where
  first : Staged
  joined : List Staged
  set : Nat
  block : Nat
  found : List Entry
  deriving DecidableEq, Repr

/-- A loop-throttle entry (08 R193): LO and the mask, as a number whose bit e stands for iteration LO + e. -/
structure Throttle where
  ctx : Nat
  idx : Nat
  lo : Nat
  mask : Nat
  deriving DecidableEq, Repr

/-- A cached context descriptor (02 Contexts, 08 R196): its state as this tile sees it, whether it is pinned, its idle count, whether it dispatched in this stroke, the strokes since it last dispatched (R197), and whether its stall was reported. -/
structure CEnt where
  ctx : Nat
  closed : Bool
  pinned : Bool
  idle : Nat
  disp : Bool
  quietFor : Nat
  reported : Bool
  deriving DecidableEq, Repr

/-- A context descriptor (02 R49) with the acknowledgements a close still waits for, and the code of the fault tokens of a victim (0: no victim). -/
structure Ctx where
  st : Nat
  cls : Nat
  pri : Nat
  cert : Bool
  act : Nat
  graph : Nat
  parent : Nat
  piter : Nat
  tileset : Nat
  popmax : Nat
  opened : Word
  acks : Nat
  victim : Nat
  deriving DecidableEq, Repr

/-- A FREE context (02 R49; the other fields log 4). -/
def Ctx.rst : Ctx :=
  { st := 0, cls := 0, pri := 0, cert := false, act := 0, graph := 0, parent := 0, piter := 0, tileset := 0,
    popmax := 0, opened := 0, acks := 0, victim := 0 }

/-- What a timer does when due: signals the event of a thread, ends its sleep, or emits a firing's tokens (05 R126, 06 R159). -/
inductive TimerFor where
  | event (n : Nat)
  | sleep (n : Nat)
  | firing (f : Firing) (cls pri act : Nat)
  deriving DecidableEq, Repr

/-- A delay-list entry (05 R126). -/
structure Timer where
  num : Nat
  gen : Nat
  deadline : Nat
  stamp : Nat
  what : TimerFor
  deriving DecidableEq, Repr

/-- A chained lookup in progress (05 R118): the unit, the cycle of its fire decision, the token to DST0, or none when the lookup is discarded. -/
structure Chain where
  unit : Nat
  at_ : Nat
  tok : Option Token
  deriving DecidableEq, Repr

/-- A close being swept on a tile (02 R52): the cycle it began and the cycle it can end. -/
structure Sweep where
  ctx : Nat
  endAt : Nat
  deriving DecidableEq, Repr

/-- Storyboard activity-table entry (04 R92). -/
structure Activity where
  w0 : Word
  w1 : Word
  deriving DecidableEq, Repr

/-- One bank of a Cox (04 R92 to R95): whether it holds a verified storyboard, the header, the activity table, the directory entry and the shots. -/
structure CoxBank where
  valid : Bool
  hdr : Tab Nat Word
  acts : Tab Nat Activity
  dir : Word
  shots : List Activity
  deriving DecidableEq, Repr

/-- An empty bank. -/
def CoxBank.rst : CoxBank := { valid := false, hdr := [], acts := [], dir := 0, shots := [] }


/-- The operation of a memory request (10 R246, R250). -/
inductive MemOp where
  | read | write | add | swap
  deriving DecidableEq, Repr

/-- One memory request, or one part of an access that was split (10 R249): the bytes [addr, addr+size), their offset in the whole access, the data, whether it is constant-time (R185), its class, stamp, and the cycle from which it can be granted (R248). -/
structure MemReq where
  id : Nat
  who : Req
  op : MemOp
  addr : Nat
  size : Nat
  off : Nat
  data : Nat
  ct : Bool
  cls : Nat
  stamp : Nat
  due : Nat
  deriving DecidableEq, Repr

/-- A firing that waits for its memory access (06 R155). -/
structure FireMem where
  id : Nat
  tile : Nat
  unit : Nat
  firing : Firing
  parts : Nat
  acc : Nat
  code : Nat
  deriving DecidableEq, Repr

/-- A DMA copy in progress (06 R154). -/
structure Dma where
  id : Nat
  n : Nat
  src : Nat
  dst : Nat
  words : Nat
  deriving DecidableEq, Repr

/-- Lane states (03 R67). -/
inductive LState where
  | off | active | draining
  deriving DecidableEq, Repr

/-- A lane (03 R59 to R67): state, HEAD, NEXT, CREDIT, SNEXT, the window's tokens by number, HELD, the start cycle of the gap timer, whether a GAP marker for HEAD waits for the output and owes its fault token, whether a class 0 verdict at HEAD has counted its wait, and the numbers released or skipped since the last credit flit with the beat of the last. -/
structure Lane where
  st : LState
  head : Nat
  next : Nat
  credit : Nat
  snext : Nat
  win : List (Nat × Token)
  held : Bool
  gap : Option Nat
  skip : Option Bool
  vwait : Bool
  rel : Nat
  relBeat : Nat
  deriving DecidableEq, Repr

/-- An OFF lane. -/
def Lane.rst : Lane :=
  { st := .off, head := 0, next := 0, credit := 0, snext := 0, win := [], held := false, gap := none, skip := none, vwait := false, rel := 0, relBeat := 0 }

/-- A lock cell (12 R323, R324): the owner's identity or the CAS value, and the abandoned mark. -/
structure Cell where
  val : Word
  aband : Bool
  deriving DecidableEq, Repr

/-- A waiter of a lock cell (12 R325). -/
structure Waiter where
  cell : Nat
  core : Nat
  n : Nat
  stamp : Nat
  deriving DecidableEq, Repr

/-- The operations of a lock group (12 R324). -/
inductive LockOp where
  | acq | try_ | rel
  | cas (expect new : Word)
  deriving DecidableEq, Repr

/-- A lock request that waits at its group (12 R322). -/
structure LockReq where
  op : LockOp
  cell : Nat
  core : Nat
  n : Nat
  mesh : Bool
  stamp : Nat
  deriving DecidableEq, Repr

/-- A power-mode change of a bank under way, or delayed by a borrow (10 R252, R254): the bank, the modes, and the cycle it ends. -/
structure BankTrans where
  bank : Nat
  frm : Nat
  dest : Nat
  endAt : Option Nat
  deriving DecidableEq, Repr

/-- The current or last borrow of rushes (10 R261, R262): its region, its phase (0 IDLE, 1 COPY, 2 TEST, 3 BACK), the words or stripes whose S is 1 in COPY because they were written, the failing cell, and whether it was cut short. -/
structure Borrow where
  region : Nat
  phase : Nat
  early : List Nat
  fail : Option (Nat × Nat × Nat)
  aborted : Bool
  deriving DecidableEq, Repr

/-- A power transition of a tile domain (12 R318): 0 to ON, 2 to NAP, 3 to OFF; the cycle it can end, once that is fixed; the cycle in which the drain completed; and whether a switch-off follows the wake. -/
structure PowerTrans where
  dest : Nat
  endAt : Option Nat
  fencedAt : Option Nat
  thenOff : Bool
  deriving DecidableEq, Repr

/-- Where a token packet goes (02, 03, 11): a node of a tile, a queue of a tile, a lane window, a fabric gateway, the transmitter of a catch link (09 R230). -/
inductive TokTo where
  | node (tile : Nat)
  | queue (tile q : Nat)
  | lane (l : Nat)
  | fabric (gw : Nat)
  | link (l : Nat)
  deriving DecidableEq, Repr

/-- A token at a fabric gateway (11 R292 to R298): the token, the REASON when it is being returned (0 otherwise), its stamp TAKE, SDEV, STILE and SUB, the CRC of the frame it came in, and the link and pair (CLS × 2 + SUB) whose buffer it takes. -/
structure FabTok where
  tok : Token
  ret : Nat
  take : Nat
  sdev : Nat
  stile : Nat
  sub : Nat
  crc : Option Nat
  via : Option (Nat × Nat)
  deriving DecidableEq, Repr

/-- What a mesh packet carries (11 R270, R271). -/
inductive Payload where
  | tok (t : Token) (dest : TokTo) (stile : Nat)
  | fab (k : FabTok) (dest : TokTo)
  | req (m : MemReq)
  | comp (id : Nat) (who : Req) (off data code : Nat) (write : Bool)
  | chan (commit : Bool) (tile q core n : Nat) (t : Token)
  | marker (p : Nat)
  deriving DecidableEq, Repr

/-- One flit of a packet at a router (11 R271 to R273): its network (0 token, 1 bulk), VC, destination router and port, source, RTY, the packet's length in flits and this flit's place in it, the cycle it arrives in the buffer where it waits, the order of the packet's first offer, the failed attempts on its link, and what the packet carries. -/
structure Packet where
  net : Nat
  vc : Nat
  dr : Nat
  edge : Bool
  sr : Nat
  sedge : Bool
  rty : Bool
  len : Nat
  idx : Nat
  arr : Nat
  stamp : Nat
  fails : Nat
  load : Payload
  deriving DecidableEq, Repr

/-- Everything one tile holds that is no register: the matching store and its stages (02), the scheduler (05), the Cox banks (04), the lock group (12), the banks, rushes and DMA engine (10), and the strand-deadlock detector (08). -/
structure Tile where
  ents : List Entry
  c0 : List Entry
  stk : List Entry
  inM : Tab Nat (List Staged)
  inL : Tab Nat (List Staged)
  turnL : List Nat
  stallNoted : List Nat
  stalled : List Nat
  wbuf : List Entry
  spill : Tab Nat (List (List Entry))
  probes : List Probe
  thr : List Throttle
  cache : List CEnt
  ready : List Task
  c0q : List Task
  delay : List Timer
  gens : Tab Nat Nat
  unitFree : Tab Nat Nat
  unitOut : List (Nat × Packet)
  chains : List Chain
  lastIssue : Option Nat
  sweeps : List Sweep
  bankA : CoxBank
  bankB : CoxBank
  openShots : List Nat
  heldFlags : List Nat
  limitDue : List Nat
  allocHeld : Bool
  bankTrans : List BankTrans
  bankAt : Tab Nat Nat
  borrow : Option Borrow
  rushAt : Nat
  dma : List Dma
  cells : Tab Nat Cell
  waiters : List Waiter
  lockq : List LockReq
  allWait : Option Nat
  sdDone : Bool
  sdAct : Option Nat
  idleSince : Nat
  power : Option PowerTrans
  wakeAsked : Option Nat
  ecback : List Nat
  lastPop : Option Nat
  lastWake : Option Nat
  deriving DecidableEq, Repr

/-- A tile with nothing in it. -/
def Tile.rst : Tile :=
  { ents := [], c0 := [], stk := [], inM := [], inL := [], turnL := [], stallNoted := [], stalled := [], wbuf := [],
    spill := [], probes := [], thr := [], cache := [], ready := [], c0q := [], delay := [], gens := [], unitFree := [], unitOut := [],
    chains := [], lastIssue := none, sweeps := [], bankA := CoxBank.rst, bankB := CoxBank.rst, openShots := [],
    heldFlags := [], limitDue := [], allocHeld := false, bankTrans := [], bankAt := [], borrow := none, rushAt := 0, dma := [],
    cells := [], waiters := [], lockq := [], allWait := none, sdDone := false, sdAct := none, idleSince := 0,
    power := none, wakeAsked := none, ecback := [], lastPop := none, lastWake := none }

/-- An output of a continuity slice (03 R61): the cycle after its last release and the lane served last. -/
structure OutletSt where
  freeAt : Nat
  last : Nat
  deriving DecidableEq, Repr

/-- Where a packet waits: the injection port of a router, an input port (0 north, 1 east, 2 south, 3 west, 4 local, 5 edge). -/
structure PortKey where
  net : Nat
  router : Nat
  port : Nat
  vc : Nat
  deriving DecidableEq, Repr

/-- The mesh (11 R270 to R284): buffers by port, ejection queues by (net, router, port), return queues by (router, port) with each entry's earliest cycle and whether it waits for an unfence, bounces on their way to a return queue, round-robin pointers by (net, router, output), routers that have the fence notice of a physical tile, markers counted by (p, net) with the cycle of the last, physical tiles being fenced, the cycle of the last re-offer and of the last flit taken by (router, port), the last grant of an output (cycle, VC), and the input port and packet that hold an output's VC until their tail passes. -/
structure Mesh where
  buf : Tab PortKey (List Packet)
  ej : Tab (Nat × Nat × Nat) (List Packet)
  ret : Tab (Nat × Nat) (List (Packet × Nat × Bool))
  bwait : Tab (Nat × Nat) (List Packet)
  ptr : Tab (Nat × Nat × Nat) Nat
  fenced : List (Nat × Nat)
  marks : Tab (Nat × Nat) Nat
  markAt : Tab (Nat × Nat) Nat
  fencing : List Nat
  offer : Tab (Nat × Nat) Nat
  lastCred : Tab (Nat × Nat) Nat
  granted : Tab (Nat × Nat × Nat) (Nat × Nat)
  vcl : Tab (Nat × Nat × Nat × Nat) (Nat × Nat)
  deriving DecidableEq, Repr

/-- An empty mesh. -/
def Mesh.rst : Mesh :=
  { buf := [], ej := [], ret := [], bwait := [], ptr := [], fenced := [], marks := [], markAt := [], fencing := [],
    offer := [], lastCred := [], granted := [], vcl := [] }

/-- Messages on the control VC (11 R270) and answers of the control complex. -/
inductive Ctl where
  | credit (lane count : Nat)
  | snext (lane n : Nat)
  | freeNotice (ctx tile : Nat)
  | close (ctx tile : Nat)
  | closeAck (ctx tile : Nat)
  | faultTok (tile : Nat) (t : Token)
  | sev (core n : Nat) (fromCore fromN : Nat)
  | lockRes (core n : Nat) (d : Word) (code : Nat) (wake : Bool)
  | lend (core n lk pri : Nat)
  | devInt (src core n grp : Nat)
  | devRet (src : Nat)
  | fence (p router : Nat)
  | unfence (p router : Nat)
  | fenceDone (p : Nat)
  | stall (ctx tile : Nat)
  deriving DecidableEq, Repr

/-- The PTP servo (11 R303): what is added to the time of the lands to give PTP time, the selected master, the masters heard with their rank and the cycle at which their Announce expires, the last Sync and its interval in cycles, master to slave difference and path delay, Sync messages within bounds, and the PTP time of the next stroke. Times in units of 10 ps. -/
structure Ptp where
  off : Int
  master : Option Nat
  anns : Tab Nat (Nat × Nat)
  syncAt : Nat
  intv : Nat
  diff : Int
  delay : Int
  good : Nat
  next : Int
  deriving DecidableEq, Repr

/-- The stroke generator (04 R83 to R86; 11 R300, R301): first cycle of the stroke in force, its period in beats, the target of the next boundary in units of 5 ps (a cycle is 125), whether the source has yet to lock for the first time, whether the next boundary takes place at its target in one step, phase errors within bounds since the last beyond, strokes without a source mark, whether a mark came in this stroke, whether a DISARM waits for the boundary, the fabric link that is followed, and the servo. -/
structure Stroke where
  start : Nat
  period : Nat
  tgt : Nat
  first : Bool
  jump : Bool
  good : Nat
  missed : Nat
  seen : Bool
  disarm : Bool
  follow : Option Nat
  ptp : Ptp
  deriving DecidableEq, Repr

/-- The generator at power-up: strokes of 200 beats until the first storyboard takes effect (04 The stroke). -/
def Stroke.rst : Stroke :=
  { start := 0, period := 200, tgt := 200000, first := false, jump := false, good := 0, missed := 0, seen := false, disarm := false, follow := none,
    ptp := { off := 0, master := none, anns := [], syncAt := 0, intv := 0, diff := 0, delay := 0, good := 0, next := 0 } }

/-- A verified image (14 R362): KIND, VERSION, PHASH, and the payload. -/
structure Image where
  kind : Nat
  version : Nat
  phash : List Byte
  payload : List Byte
  deriving DecidableEq, Repr

/-- A substitution that is pending or under way, of the logical tile that keys it (14 R377 to R380): the spare, the tile that is replaced, whether it is a recovery, whether its pre-copy has ended, and since its cut, whether the state moves and whether the old tile is not yet fenced; whether the firmware began it. -/
structure Subst where
  new : Nat
  old : Nat
  recovery : Bool
  presync : Bool
  moving : Bool
  fencing : Bool
  auto : Bool
  slate : Word
  deriving DecidableEq, Repr

/-- What Riari and the boot NOR hold, and what live update is doing (14 R359 to R381): staged images by KIND, the container of the staged reel (address and length), the reels that are being copied with their containers, the image store (reels by GRAPH, decode table, storyboard), the firmware slots, TRIAL, the slot that the recovery server verified, the slot to return to, the step of an activation (0 none, 1 checking and loading, 2 restarted, 3 reloading the previous slot) and the cycle it began, the next signature index and the LMS reservation record, the retired-tile record (logical tile, tile taken out, spare that took over or 0xFF), the map-out record, substitutions by logical tile, and the tiles out under R380. -/
structure Riari where
  staged : Tab Nat Image
  reelAt : Option (Nat × Nat)
  loading : List (Image × Nat × Nat)
  reels : Tab Nat Image
  table : Option Image
  story : Option Image
  slots : Tab Nat Image
  trial : Option Nat
  verified : Option Nat
  back : Nat
  fwStep : Nat
  fwAt : Nat
  lmsNext : Nat
  lmsRec : Nat
  retired : List (Nat × Nat × Nat)
  mapped : Option Nat
  subs : Tab Nat Subst
  outs : List Nat
  deriving DecidableEq, Repr

/-- Riari as shipped: nothing staged or active, slot A running, no signature used (log 63). -/
def Riari.rst : Riari :=
  { staged := [], reelAt := none, loading := [], reels := [], table := none, story := none, slots := [], trial := none, verified := none,
    back := 0, fwStep := 0, fwAt := 0, lmsNext := 0, lmsRec := 0, retired := [], mapped := none, subs := [], outs := [] }

/-- The cut in progress (04 R102 to R104): checks running, committed, the contexts whose reservations ARM made and which the cut opens, the throttle entries counted by tile, whether RUN armed it, and the contexts that a disarm closed and that are not FREE yet (04 R108). -/
structure CutState where
  checking : Bool
  committed : Bool
  resv : List (Nat × Ctx)
  lt : Tab Nat Nat
  byRun : Bool
  drain : List Nat
  deriving DecidableEq, Repr

/-- An item of a scan's snapshot: an edge of the wait-for relation (08 R198). -/
structure Scan where
  stalled : List Nat
  pending : List Nat
  taken : Bool
  snap : Nat
  victim : Option Nat
  members : List Nat
  deriving DecidableEq, Repr

/-- A VERDICT block that is not acknowledged (09 R231): its number, SYM, SITE and ARG, whether it waits to be sent or resent, the cycle it was last sent, whether it was sent before, and whether a lane with CLS0 released it. -/
structure VerdictBlk where
  seq : Nat
  sym : Nat
  site : Nat
  arg : Nat
  due : Bool
  at_ : Nat
  again : Bool
  cls0 : Bool
  deriving DecidableEq, Repr

/-- What waits at a transmitter to be sent for the first time, in release order (09 R227, R229): a frame, a GAP block for a lane and number, or a fabric frame of a class and sub-channel (11 R291). -/
inductive TxItem where
  | frame (w : List Word)
  | gap (lane seq : Nat)
  | fab (cls sub : Nat) (w : List Word)
  deriving DecidableEq, Repr

/-- The link layer of a catch or fabric link. Sending (09 R213, R229): new items, unacknowledged frames by FSEQ, frames still to be resent, the FSEQ of a REPLAY that is due, verdicts and VSEQ, the stimulus token whose buffer is being read, and which control blocks are due (other ones with their place in the order and a reference time in units of 10 ps). Receiving: whether a NAK is due and when the last was sent, whether data blocks are discarded until a REPLAY, the receive buffer (with a mark for a resent frame), CNT tokens of a stroke boundary not yet issued (site, PCOUNT, PFIRST), the cycles of the last LIVE received, LIVE sent and ACK received, frames received since the last ACK and the cycle of the first. Fabric (11 R289 to R301): credits held and owed by pair CLS × 2 + SUB, the cycle credits became owed, whether CRED is due, the strokes of the last IDENT and DREQ, the round-robin pointer, whether an IDENT came since LOCK, the DREQ under way (ID, time), and the last MARKER (MH, stroke). -/
structure Link where
  txq : List TxItem
  unack : List (Nat × List Word)
  replayq : List (Nat × List Word)
  replayDue : Option Nat
  verd : List VerdictBlk
  vseq : Nat
  stim : Option Token
  nakDue : Bool
  nakAt : Option Nat
  dropping : Bool
  rxq : List (List Word × Bool)
  pre : List (Nat × Nat × Nat)
  liveRx : Nat
  liveSeen : Bool
  liveTx : Nat
  liveDue : Bool
  ackDue : Bool
  ackRx : Nat
  rxCount : Nat
  rxAt : Nat
  strokeDue : Bool
  holdDue : Option Bool
  ctrl : List (Nat × List Byte × Nat)
  cred : Tab Nat Nat
  owed : Tab Nat Nat
  owedAt : Nat
  credDue : Bool
  identAt : Nat
  dreqAt : Nat
  wrr : Nat
  ident : Bool
  dreq : Option (Nat × Nat)
  dreqId : Nat
  mark : Option (Nat × Nat)
  deriving DecidableEq, Repr

/-- A link with nothing in it. -/
def Link.rst : Link :=
  { txq := [], unack := [], replayq := [], replayDue := none, verd := [], vseq := 0, stim := none, nakDue := false, nakAt := none,
    dropping := false, rxq := [], pre := [], liveRx := 0, liveSeen := false, liveTx := 0, liveDue := false,
    ackDue := false, ackRx := 0, rxCount := 0, rxAt := 0, strokeDue := false, holdDue := none, ctrl := [], cred := [],
    owed := [], owedAt := 0, credDue := false, identAt := 0, dreqAt := 0, wrr := 0, ident := false, dreq := none, dreqId := 0, mark := none }

/-- An event record (13 R346). -/
structure EvRec where
  typ : Nat
  eseq : Nat
  slate : Word
  arg0 : Nat
  arg1 : Nat
  deriving DecidableEq, Repr

/-- A DOMAIN transfer in progress (13 R336): the entry, whether it is a write, its length, the offset of the next segment and the bytes so far. -/
structure Xfer where
  index : Nat
  sub : Nat
  write : Bool
  total : Nat
  off : Nat
  data : List Byte
  deriving DecidableEq, Repr

/-- An Aklofy session (13 R332 to R335, R348): its number, the management port, IPv4 address and UDP port of its client, its level, whether AUTH has opened it, the session key, the client nonce and the CHAL payload, the cycle of CHAL, the last accepted SEQ with its cached reply, the cycle of the last message, the event mask, the next ESEQ, the pending records, the records lost since the last EVLOST, the transfer, and the cycle of the last heartbeat. -/
structure Session where
  sid : Nat
  port : Nat
  src : Nat
  udp : Nat
  level : Nat
  opened : Bool
  key : List Byte
  nc : List Byte
  chal : List Byte
  start : Nat
  lastSeq : Nat
  reply : List Byte
  lastMsg : Nat
  mask : Word
  eseq : Nat
  recs : List EvRec
  lost : Nat
  xfer : Option Xfer
  hbAt : Nat
  deriving DecidableEq, Repr

/-- What the Aklofy server holds (13 R333 to R348): sessions, the next session number, AUTH failures and OPEN blocks by IPv4 address, the counters of 0x8010, the values of the dictionary entries that are no registers, the two management links, the credential slots, FCAUSE, REPLREQ and REPLREASON, the address and last abort code of 0x9000, and the last watchdog expiry. -/
structure AkState where
  sessions : List Session
  nextSid : Nat
  fails : Tab Nat Nat
  blocked : Tab Nat Nat
  akdisc : Nat
  akmacerr : Nat
  akauthf : Nat
  evlost : Nat
  hbint : Nat
  hostpriv : Nat
  ip : Tab Nat Nat
  name : List Byte
  linkUp : Tab Nat Bool
  creds : Tab Nat (List Byte)
  dbgUnlock : Bool
  fcause : Nat
  replreq : Bool
  replreason : Nat
  addr : Word
  lastab : Nat
  wdog : Option Nat
  deriving DecidableEq, Repr

/-- The Aklofy server as boot starts it (13 R344 Default column; log 60 the host's event mask). -/
def AkState.rst : AkState :=
  { sessions := [], nextSid := 1, fails := [], blocked := [], akdisc := 0, akmacerr := 0, akauthf := 0, evlost := 0, hbint := 100,
    hostpriv := 0, ip := [], name := [], linkUp := [], creds := [], dbgUnlock := false, fcause := 0, replreq := false,
    replreason := 0, addr := 0, lastab := 0, wdog := none }

/-- What the host port holds beside its registers (13 R350, R354): the event mask, the next ESEQ, records lost while the ring was full, a transfer on the command ring, whether an attention pulse is due, the cycle the last pulse began, whether a pulse is on, the cycle of the last change of BUSY to 0, whether H_PERST# is asserted, the level last driven on HRDY, and the reads and atomics of the host in progress: by request, the parts to come, the data so far and the fault code. -/
structure HostPort where
  mask : Word
  eseq : Nat
  lost : Nat
  xfer : Option Xfer
  attnDue : Bool
  attnLast : Option Nat
  pulse : Bool
  readyAt : Nat
  perst : Bool
  hrdy : Bool
  acc : Tab Nat (Nat × Nat × Nat)
  deriving DecidableEq, Repr

/-- A host port with every event type enabled (log 60). -/
def HostPort.rst : HostPort :=
  { mask := wd (2 ^ 64 - 1), eseq := 0, lost := 0, xfer := none, attnDue := false, attnLast := none, pulse := false, readyAt := 0, perst := false, hrdy := false, acc := [] }

/-- The Keel's view of power and reset (15 R389 to R397): whether it is powered, the cycle from which V12 has been above the rising threshold for 10 ms (none: V12 is below it), whether PORST# is asserted, whether the return of V12 sets BROWN, and what a thermal trip waits for (0 nothing, 1 an assertion of PORST#, 2 its end at 100 °C or below). -/
structure Elec where
  keel : Bool
  v12 : Option Nat
  porst : Bool
  brown : Bool
  trip : Nat
  deriving DecidableEq, Repr

/-- Power that has been good for 10 ms, with PORST# deasserted. -/
def Elec.rst : Elec := { keel := true, v12 := some 0, porst := false, brown := false, trip := 0 }

/-- What leaves the device (log 3): a frame or control block on a link, a host ring entry with its count, an MSI-X message, a datagram of Aklofy (management port, IPv4 address, UDP port, bytes), the completion of a host or debug access, a pin. -/
inductive Out where
  | frame (k : LinkId) (words : List Word)
  | block (k : LinkId) (bytes : List Byte)
  | ring (r n : Nat) (bytes : List Byte)
  | msix (vec : Nat)
  | aklofy (port ip udp : Nat) (bytes : List Byte)
  | hostComp (data code : Nat)
  | dapComp (data code : Nat)
  | pin (name : String) (level : Bool)
  deriving DecidableEq, Repr

end Sys2Proof.Machine
end

