-- ==== Sys2Proof/Machine/State.lean ====
section
/-! DEFINITION. The state of the block, its reset value, and the reasons a step can stop. -/
namespace Sys2Proof.Machine

/-- Error marks of memory, by 8-byte word (address divided by 8): words with an uncorrectable error, with a correctable error, and LPDDR4X words whose poison bit is set (10 R255, R258). -/
structure Ecc where
  unc : List Nat
  cor : List Nat
  poison : List Nat
  deriving DecidableEq, Repr

/-- The whole state of the block. -/
structure State where
  pending : List Instr
  now : Nat
  seqNo : Nat
  freeCtr : Nat
  dev : DevState
  degraded : Bool
  regs : Tab (RegKind × Nat × Nat) Word
  mem : List Host.Cell
  ecc : Ecc
  mbx : Tab Nat Word
  graph : Tab Nat Word
  threads : Tab Nat Thread
  tiles : Tab Nat Tile
  lanes : Tab Nat Lane
  outlets : Tab Outlet OutletSt
  ctxs : Tab Nat Ctx
  stroke : Stroke
  cut : CutState
  scan : Scan
  mesh : Mesh
  ctl : List Ctl
  links : Tab LinkId Link
  bankReqs : List MemReq
  drq : List MemReq
  mbxq : List MemReq
  fireMem : List FireMem
  winq : Tab Nat (List Token)
  pushq : Tab (Nat × Nat) (List (Token × Nat × Bool × Nat))
  dtabA : List Byte
  dtabB : List Byte
  ctbaseSet : Bool
  drRush : Option Borrow
  moveStart : Nat
  fgq : Tab Nat (List FabTok)
  fabHoldTo : Option Nat
  drainSeen : Bool
  gwq : Tab Nat (List (Token × Nat))
  gwAt : Tab Nat Nat
  pcount : Tab Nat (Nat × Nat)
  ak : AkState
  riari : Riari
  hostp : HostPort
  elec : Elec
  out : List Out
  deriving DecidableEq, Repr

/-- The machine right after reset: device state BOOT (13 R339, log 6), every register at its reset value (00 Reset column; the table of registers lists none), memory all 0 (10 R252), every thread and context FREE, every lane OFF, every queue of the hardware empty, and a stroke period of 200 beats (04). -/
def State.reset : State :=
  { pending := [], now := 0, seqNo := 1, freeCtr := 0, dev := .boot, degraded := false, regs := [], mem := [],
    ecc := { unc := [], cor := [], poison := [] }, mbx := [], graph := [], threads := [], tiles := [], lanes := [],
    outlets := [], ctxs := [],
    stroke := Stroke.rst,
    cut := { checking := false, committed := false, resv := [], lt := [], byRun := false, drain := [] },
    scan := { stalled := [], pending := [], taken := false, snap := 0, victim := none, members := [] },
    mesh := Mesh.rst, ctl := [], links := [], bankReqs := [], drq := [], mbxq := [], fireMem := [], winq := [], pushq := [],
    dtabA := [], dtabB := [], ctbaseSet := false, drRush := none, moveStart := 0, fgq := [], fabHoldTo := none, drainSeen := false, gwq := [], gwAt := [], pcount := [], ak := AkState.rst, riari := Riari.rst, hostp := HostPort.rst, elec := Elec.rst, out := [] }

/-- Why a step stops with a fault. -/
inductive Fault where
  /-- No rule of the spec stops the block: raised by no command. -/
  | none
  deriving DecidableEq, Repr

/-- Why a step is refused. -/
inductive Refusal where
  /-- Raised by the arm of a command that has no meaning yet; safe. -/
  | notModelled (mnemonic : String)
  deriving DecidableEq, Repr

end Sys2Proof.Machine
end

