-- ==== Sys2Proof/Machine/Ops.lean ====
section
/-! DEFINITION. The named operations over the state: register fields, threads, tiles, memory, messages, queues, interrupts, wakes, fault tokens, and the trap of 05 R130 with the return from it. -/
namespace Sys2Proof.Machine

/-! ### Registers -/

/-- The reset image of a register from its field resets. -/
def resetImage (fs : List Fld) : Nat :=
  match fs with
  | [] => 0
  | f :: r => setBits (resetImage r) f.lo f.len f.rst

/-- Free entries of a continuity slice with nothing reserved (03 R58). -/
def sliceSize (s : Nat) : Nat :=
  if s < 12 then 4096 else if s = 12 then 8192 else if s < 77 then 128 else 0

/-- The reset value of a register, fuses included (00 Reset column; 01 R16, R18; 03 R73; 10 R256; 11 R305; 14 R376; logs 4, 5). -/
def regReset (k : RegKind) (t i : Nat) : Word :=
  match k with
  | .LTMAP => wd (i + i * 256)
  | .PTSTAT => if i < 64 then wd (i * 4) else wd (1 + 0x7F * 4)
  | .CBFREE => wd (sliceSize i)
  | .BANKFUSE => wd ((Config.bankCols t i).toNat + (Config.bankUsed t i).val * 2 ^ 32)
  | .RTBANK => if i = 0 then wd (2 * 2 ^ 16) else 0
  | .UPDSTAT => wd (4 * 2 ^ 19)
  | _ => wd (resetImage (regSpec k).fields)

/-- A register's image. -/
def State.reg (s : State) (k : RegKind) (t i : Nat) : Word := tget s.regs (regReset k t i) (k, t, i)

/-- A register's image replaced. -/
def State.setReg (s : State) (k : RegKind) (t i : Nat) (v : Word) : State :=
  { s with regs := tput s.regs (k, t, i) v }

/-- A field of register element `i` of tile (or core) `t`; a device register has t = 0. -/
def State.fget (s : State) (f : Fld) (t i : Nat) : Nat := wbits (s.reg f.kind t i) f.lo f.len

/-- A field set. -/
def State.fset (s : State) (f : Fld) (t i v : Nat) : State :=
  s.setReg f.kind t i (wset (s.reg f.kind t i) f.lo f.len v)

/-- A counter field increased by `k`, saturating at its maximum (00 R5). -/
def State.finc (s : State) (f : Fld) (t i k : Nat) : State :=
  s.fset f t i (min (2 ^ f.len - 1) (s.fget f t i + k))

/-- A counter field increased by 1, saturating (00 R5). -/
def State.inc (s : State) (f : Fld) (t i : Nat) : State := s.finc f t i 1

/-- A counter field that wraps (11 R304). -/
def State.incw (s : State) (f : Fld) (t i : Nat) : State := s.fset f t i (s.fget f t i + 1)

/-! ### Tiles, threads, lanes, contexts -/

/-- The hidden state of a tile or control core. -/
def State.tile (s : State) (t : Nat) : Tile := tget s.tiles Tile.rst t

/-- A tile replaced. -/
def State.setTile (s : State) (t : Nat) (x : Tile) : State := { s with tiles := tput s.tiles t x }

/-- A tile changed. -/
def State.onTile (s : State) (t : Nat) (g : Tile → Tile) : State := s.setTile t (g (s.tile t))

/-- A thread of a core. -/
def State.thr (s : State) (c n : Nat) : Thread := tget s.threads Thread.rst (c * 16 + n)

/-- A thread replaced. -/
def State.setThr (s : State) (c n : Nat) (x : Thread) : State := { s with threads := tput s.threads (c * 16 + n) x }

/-- A thread changed. -/
def State.onThr (s : State) (c n : Nat) (g : Thread → Thread) : State := s.setThr c n (g (s.thr c n))

/-- A lane. -/
def State.lane (s : State) (l : Nat) : Lane := tget s.lanes Lane.rst l

/-- A lane replaced. -/
def State.setLane (s : State) (l : Nat) (x : Lane) : State := { s with lanes := tput s.lanes l x }

/-- A context descriptor. -/
def State.ctx (s : State) (c : Nat) : Ctx := tget s.ctxs Ctx.rst c

/-- A link's transmitter and receiver. -/
def State.link (s : State) (k : LinkId) : Link := tget s.links Link.rst k

/-- A link's state replaced. -/
def State.setLink (s : State) (k : LinkId) (x : Link) : State := { s with links := tput s.links k x }

/-- The next order stamp. -/
def State.bump (s : State) : State := { s with seqNo := s.seqNo + 1 }

/-- Adds to the record of what left the device. -/
def State.emit (s : State) (o : Out) : State := { s with out := s.out ++ [o] }

/-- Is the tile's domain ON or IDLE (12 R318)? Control cores always are. -/
def State.tileOn (s : State) (c : Nat) : Bool := 64 ≤ c || s.fget F.TPWR_STATE 0 c < 2

/-- Does the state of the logical tile move to its new physical tile, which serves nothing meanwhile (14 R378)? -/
def State.frozen (s : State) (c : Nat) : Bool :=
  match tfind? s.riari.subs c with
  | some m => m.moving
  | none => false

/-- Does the tile look up, dispatch, issue and serve (12 R318, 14 R378)? -/
def State.active (s : State) (c : Nat) : Bool := s.tileOn c && !s.frozen c

/-- A message put on the control VC (11 R270). -/
def State.post (s : State) (m : Ctl) : State := { s with ctl := s.ctl ++ [m] }

/-- A free value and the state after it (log 2). -/
def State.free (s : State) : Word × State := (Config.freeWord s.freeCtr, { s with freeCtr := s.freeCtr + 1 })

/-- The beat number (05 R132 BEATNOW). -/
def State.beat (s : State) : Nat := s.now / 8 % 2 ^ 48

/-- The slate (04 R90). -/
def State.slate (s : State) : Word := s.reg .SLATE 0 0

/-- The stroke count (04 R90). -/
def State.count (s : State) : Nat := s.fget F.SLATE_COUNT 0 0

/-- The device's own number (11 R305). -/
def State.devnum (s : State) : Nat := s.fget F.FABCFG_DEVNUM 0 0

/-! ### Interrupt sources -/

/-- PEND of a tile source sets (12 R306). -/
def State.raiseTile (s : State) (t src : Nat) : State :=
  s.setReg .IPEND t (src / 64) (s.reg .IPEND t (src / 64) ||| wd (2 ^ (src % 64)))

/-- PEND of a device source sets (12 R306). -/
def State.raiseDev (s : State) (src : Nat) : State :=
  s.setReg .DPEND 0 (src / 64) (s.reg .DPEND 0 (src / 64) ||| wd (2 ^ (src % 64)))

/-! ### Memory: a canonical list of address and byte pairs; an unlisted byte reads 0 (10 R252) -/

/-- One byte of memory. -/
def byteAt (m : List Host.Cell) (a : Nat) : Byte :=
  match m with
  | [] => 0
  | c :: r => if c.1 = a then c.2 else byteAt r a

/-- One byte written; writing 0 removes the entry. -/
def putByte (m : List Host.Cell) (a : Nat) (b : Byte) : List Host.Cell :=
  match m with
  | [] => if b = 0 then [] else [(a, b)]
  | c :: r =>
    if c.1 < a then c :: putByte r a b
    else if c.1 = a then (if b = 0 then r else (a, b) :: r)
    else if b = 0 then c :: r else (a, b) :: c :: r

/-- Every listed address is at least `lo`, the addresses rise, and no listed byte is 0. -/
def Memory.wfFrom (lo : Nat) (m : List Host.Cell) : Bool :=
  match m with
  | [] => true
  | c :: r => decide (lo ≤ c.1) && decide (c.2 ≠ 0) && Memory.wfFrom (c.1 + 1) r

/-- The canonical form of memory. -/
def Memory.wf (m : List Host.Cell) : Bool := Memory.wfFrom 0 m

/-- `n` bytes from an address. -/
def readBytes (m : List Host.Cell) (a : Nat) : Nat → List Byte
  | 0 => []
  | n + 1 => byteAt m a :: readBytes m (a + 1) n

/-- Bytes written from an address up. -/
def writeBytes (m : List Host.Cell) (a : Nat) : List Byte → List Host.Cell
  | [] => m
  | b :: bs => writeBytes (putByte m a b) (a + 1) bs

/-- `n` bytes of memory as a number (00 R2). -/
def State.load (s : State) (a n : Nat) : Nat := ofBytes (readBytes s.mem a n)

/-- `n` bytes of memory written (00 R2). -/
def State.store (s : State) (a n v : Nat) : State := { s with mem := writeBytes s.mem a (toBytes n v) }

/-- The error marks of whole words that a write covers are cleared (10 R255, R258). -/
def State.clearEcc (s : State) (a n : Nat) : State :=
  let out := fun (l : List Nat) => l.filter fun w => !(decide (a ≤ 8 * w) && decide (8 * w + 8 ≤ a + n))
  { s with ecc := { unc := out s.ecc.unc, cor := out s.ecc.cor, poison := out s.ecc.poison } }

/-- A borrow after a write of a word or stripe of its region: in COPY its S sets (10 R262). -/
def Borrow.wrote (b : Borrow) (w : Nat) : Borrow :=
  if b.phase = 1 ∧ !b.early.contains w then { b with early := w :: b.early } else b

/-- The region of a tile's rushes that holds a scratchpad offset: bank × 16 + part (10 R261). -/
def spadRegion (off : Nat) : Nat := off / 8 % 32 * 16 + off / 256 / 512

/-- A write of memory other than rushes' own: when a borrow holds the word it is performed in the shadow, and WRITTEN sets (10 R262). -/
def State.noteWrite (s : State) (a : Nat) : State :=
  if 0x10000000000 ≤ a then
    let t := (a - 0x10000000000) / 0x1000000
    let off := (a - 0x10000000000) % 0x1000000
    match (s.tile t).borrow with
    | some b =>
      if b.phase ≠ 0 ∧ b.region = spadRegion off then
        (s.onTile t fun x => { x with borrow := some (b.wrote (off / 256 % 512)) }).fset F.RUSHSTAT_WRITTEN t 0 1
      else s
    | none => s
  else
    match s.drRush with
    | some b =>
      if b.phase ≠ 0 ∧ b.region = a / 2 ^ 20 then { s with drRush := some (b.wrote (a / 256 % 4096)) }.fset F.RDSTAT_WRITTEN 0 0 1
      else s
    | none => s

/-- `n` bytes, up to 8 or whole words, written by a requester: the bytes, the error marks and the borrow. -/
def State.put (s : State) (a n v : Nat) : State :=
  (List.range ((n + 7) / 8)).foldl (fun s i => s.noteWrite (a + 8 * i)) (((s.store a n v).clearEcc a n).noteWrite (a + n - 1))

/-- The four words of a context descriptor, as one number (02 R49). -/
def Ctx.num (x : Ctx) : Nat :=
  x.st % 4 + x.cls % 4 * 4 + x.pri % 8 * 16 + b2n x.cert * 128 + x.act % 64 * 256 + x.graph % 256 * 2 ^ 16 + x.parent % 65536 * 2 ^ 32 +
  x.piter % 65536 * 2 ^ 48 + x.tileset % 2 ^ 64 * 2 ^ 64 + x.popmax % 2 ^ 20 * 2 ^ 128 + x.opened.toNat * 2 ^ 192

/-- Is [a, a+n) of the LPDDR4X in the context table (02 R48)? -/
def State.inCtxTable (s : State) (a n : Nat) : Bool :=
  let b := s.fget F.CTBASE_BASE 0 0 * 2 ^ 21
  s.ctbaseSet && decide (b < a + n) && decide (a < b + 2 ^ 21)

/-- A context descriptor replaced, in the context table too once CTBASE has been written (02 Contexts, R48). -/
def State.setCtx (s : State) (c : Nat) (x : Ctx) : State :=
  let s := { s with ctxs := tput s.ctxs c x }
  if s.ctbaseSet then s.put (s.fget F.CTBASE_BASE 0 0 * 2 ^ 21 + 32 * c) 32 x.num else s

/-! ### Address map (10 R243) -/

/-- The regions of the address map. -/
inductive Region where
  | dram (a : Nat)
  | spad (tile off : Nat)
  | graph (tile idx : Nat)
  | diag (tile off : Nat)
  | treg (tile off : Nat)
  | dreg (off : Nat)
  | mailbox (off : Nat)
  | rom (off : Nat)
  | nor (off : Nat)
  | riari (off : Nat)
  | unmapped
  deriving DecidableEq, Repr

/-- DSIZE in bytes (10 R243, R259). -/
def State.dsize (s : State) : Nat := s.fget F.DRSTAT_DSIZE 0 0 * 2 ^ 20

/-- The tile of a requester, for the this-tile alias (10 R243). -/
def reqTile : Req → Option Nat
  | .thread c _ => if c < 64 then some c else none
  | .firing t _ => some t
  | .dma t _ => some t
  | _ => none

/-- The part of a tile window that an offset names (10 R243). -/
def tileRegion (t o : Nat) : Region :=
  if o < 0x200000 then .spad t o
  else if o < 0x800000 then .unmapped
  else if o < 0x820000 then .graph t ((o - 0x800000) / 8)
  else if o < 0xC00000 then .unmapped
  else if o < 0xC44200 then .diag t (o - 0xC00000)
  else if o < 0xF00000 then .unmapped
  else .treg t (o - 0xF00000)

/-- The region that holds a physical address, for a requester of tile `own` (10 R243). -/
def State.region (s : State) (own : Option Nat) (a : Nat) : Region :=
  if a < 0x1000000000 then (if a < s.dsize then .dram a else .unmapped)
  else if 0xFF00000000 ≤ a ∧ a < 0xFF01000000 then
    match own with
    | some t => tileRegion t (a - 0xFF00000000)
    | none => .unmapped
  else if 0x10000000000 ≤ a ∧ a < 0x10040000000 then
    tileRegion ((a - 0x10000000000) / 0x1000000) ((a - 0x10000000000) % 0x1000000)
  else if 0x20000000000 ≤ a ∧ a < 0x20001000000 then
    let o := a - 0x20000000000
    if 0xC0000 ≤ o ∧ o < 0xC1000 then .mailbox (o - 0xC0000) else .dreg o
  else if 0x30000000000 ≤ a ∧ a < 0x30000010000 then .rom (a - 0x30000000000)
  else if 0x30010000000 ≤ a ∧ a < 0x30020000000 then .nor (a - 0x30010000000)
  else if 0x30020000000 ≤ a ∧ a < 0x30020001000 then .riari (a - 0x30020000000)
  else .unmapped

/-- The physical address of a scratchpad byte of a tile (10 R243). -/
def spadAddr (t off : Nat) : Nat := 0x10000000000 + t * 0x1000000 + off

/-- The physical address of a graph word (02 Graph memory). -/
def graphAddr (t idx : Nat) : Nat := 0x10000000000 + t * 0x1000000 + 0x800000 + 8 * idx

/-- A graph word (02 R27). -/
def State.gword (s : State) (c idx : Nat) : Word := tget s.graph 0 (c * 16384 + idx)

/-! ### Token fields (02 R22, R23) -/

/-- TAG.CTX. -/ def Token.ctx (t : Token) : Nat := wbits t.tag 48 16
/-- TAG.TILE. -/ def Token.tile (t : Token) : Nat := wbits t.tag 42 6
/-- TAG.IDX. -/ def Token.idx (t : Token) : Nat := wbits t.tag 28 14
/-- TAG.ITER. -/ def Token.iter (t : Token) : Nat := wbits t.tag 12 16
/-- TAG.PORT. -/ def Token.port (t : Token) : Nat := wbits t.tag 10 2
/-- TAG.CLS. -/ def Token.cls (t : Token) : Nat := wbits t.tag 8 2
/-- TAG.STICKY. -/ def Token.sticky (t : Token) : Bool := t.tag.getLsbD 3
/-- TAG.FAULT. -/ def Token.fault (t : Token) : Bool := t.tag.getLsbD 2
/-- TAG.LAST. -/ def Token.last (t : Token) : Bool := t.tag.getLsbD 1
/-- TAG.ORD. -/ def Token.ord (t : Token) : Bool := t.tag.getLsbD 0
/-- DST.DEV. -/ def Token.dev (t : Token) : Nat := wbits t.dst 48 16
/-- DST.LANE. -/ def Token.lane (t : Token) : Nat := wbits t.dst 36 12
/-- DST.SEQ. -/ def Token.seq (t : Token) : Nat := wbits t.dst 12 24
/-- DST.HOPS. -/ def Token.hops (t : Token) : Nat := wbits t.dst 8 4

/-- Is a reserved field of the token non-zero (02 R22, R23)? -/
def Token.rsvd (t : Token) : Bool := wbits t.tag 5 3 ≠ 0 || wbits t.dst 0 8 ≠ 0

/-- A TAG word from its fields (02 R22), with the flag bits SPILLED, STICKY, FAULT, LAST, ORD in `flags`. -/
def mkTag (ctx tile idx iter port cls flags : Nat) : Word :=
  wd (ctx % 65536 * 2 ^ 48 + tile % 64 * 2 ^ 42 + idx % 16384 * 2 ^ 28 + iter % 65536 * 2 ^ 12 + port % 4 * 2 ^ 10
    + cls % 4 * 2 ^ 8 + flags % 32)

/-- A DST word from its fields (02 R23). -/
def mkDst (dev lane seq hops : Nat) : Word :=
  wd (dev % 65536 * 2 ^ 48 + lane % 4096 * 2 ^ 36 + seq % 2 ^ 24 * 2 ^ 12 + hops % 16 * 256)

/-- The 32 bytes of a token, as one number (02 The token). -/
def Token.num (t : Token) : Nat := t.tag.toNat + t.dst.toNat * 2 ^ 64 + t.val.toNat * 2 ^ 128 + t.aux.toNat * 2 ^ 192

/-- The token that 32 bytes spell. -/
def Token.ofNum (n : Nat) : Token := ⟨wd n, wd (n / 2 ^ 64), wd (n / 2 ^ 128), wd (n / 2 ^ 192)⟩

/-- A token with FAULT set, used as the TAG of a fault token (02 Fault tokens). -/
def faultTag (tag : Word) : Word := tag ||| 4

/-! ### Ready list and wakes (05 R113, R121) -/

/-- A task enters the ready list of its class (05 R113). -/
def State.enterReady (s : State) (t : Nat) (k : TaskK) (cls pri act : Nat) (tm : Option Nat) : State :=
  let task : Task := ⟨k, cls, pri, act, s.seqNo, false, tm⟩
  let s := s.bump
  if cls = 0 then s.onTile t fun x => { x with c0q := x.c0q ++ [task] }
  else s.onTile t fun x => { x with ready := x.ready ++ [task] }

/-- EPRI: the greater of PRI and every lend held (05 R120, 12 R325). -/
def Thread.epri (x : Thread) : Nat := x.lends.foldl (fun m p => max m p.2) x.pri

/-- A thread in WAIT gets its wake: the result is kept and a thread wake enters the ready list (05 R121). -/
def State.wake (s : State) (c n : Nat) (r : WakeRes) : State :=
  let x := s.thr c n
  if (x.st = .wait ∨ x.st = .halted ∧ x.wasWait) ∧ x.wres = none then
    let s := s.setThr c n { x with wres := some r }
    if x.st = .wait then s.enterReady c (.wake n) x.cls x.pri x.act none else s
  else s

/-- The threads of a list of numbers that pass a test, oldest wait first. -/
def oldestWait (s : State) (p : Thread → Bool) (l : List (Nat × Nat)) : Option (Nat × Nat) :=
  minBy (fun k => (s.thr k.1 k.2).since) (l.filter fun k => p (s.thr k.1 k.2))

/-- The sixteen threads of a core. -/
def coreThreads (c : Nat) : List (Nat × Nat) := (List.range 16).map fun n => (c, n)

/-- Every thread that is listed in the state. -/
def State.allThreads (s : State) : List (Nat × Nat) := s.threads.map fun p => (p.1 / 16, p.1 % 16)

/-! ### Hardware queues (03 R74 to R79) -/

/-- Occupancy of a queue. -/
def State.qOcc (s : State) (t q : Nat) : Nat :=
  (s.fget F.QPTR_TAIL t q + 65536 - s.fget F.QPTR_HEAD t q) % 65536

/-- Ring size of a queue. -/
def State.qSize (s : State) (t q : Nat) : Nat := 2 ^ s.fget F.QCFG_LOG2N t q

/-- Address of ring position of count `n`. -/
def State.qAddr (s : State) (t q n : Nat) : Nat :=
  s.fget F.QBASE_BASE t q * 32 + n % s.qSize t q * 32

/-- Memory address a ring address stands for (the this-tile alias resolved). -/
def State.ringAddr (s : State) (t a : Nat) : Nat :=
  match s.region (some t) a with
  | .spad t' o => spadAddr t' o
  | _ => a

/-- Writes one 32-byte entry of a ring. -/
def State.qWrite (s : State) (t q n : Nat) (k : Token) : State := s.put (s.ringAddr t (s.qAddr t q n)) 32 k.num

/-- Reads one 32-byte entry of a ring. -/
def State.qRead (s : State) (t q n : Nat) : Token := Token.ofNum (s.load (s.ringAddr t (s.qAddr t q n)) 32)

/-- Is the queue waiting-for by this thread, not yet woken? -/
def waitsQ (q : Nat) (x : Thread) : Bool := x.st = .wait && x.wait = .qEmpty q && x.wres = none

/-- Takes the entry at HEAD out of a queue (03 R76). -/
def State.qTake (s : State) (t q : Nat) : Token × State :=
  let h := s.fget F.QPTR_HEAD t q
  (s.qRead t q h, s.fset F.QPTR_HEAD t q (h + 1))

/-- Hands entries to threads waiting on the queue, oldest wait first, one per entry (03 R77). -/
def State.qServe (s : State) (t q : Nat) : Nat → State
  | 0 => s
  | fuel + 1 =>
    if s.qOcc t q = 0 then s
    else match oldestWait s (waitsQ q) (coreThreads t) with
      | none => s
      | some (c, n) =>
        let (k, s) := s.qTake t q
        (s.wake c n (.entry k)).qServe t q fuel

/-- The watermark events of a queue, evaluated now (03 R79). -/
def State.qMarks (s : State) (t q : Nat) : State :=
  if s.fget F.QCFG_WMEN t q = 1 then
    let occ := s.qOcc t q
    if s.fget F.QPTR_HIST t q = 0 then
      if s.fget F.QCFG_HIWM t q ≤ occ then
        (s.fset F.QPTR_HIST t q 1).setReg .QWPEND t (q / 32)
          (s.reg .QWPEND t (q / 32) ||| wd (2 ^ (2 * (q % 32))))
      else s
    else if occ ≤ s.fget F.QCFG_LOWM t q then
      (s.fset F.QPTR_HIST t q 0).setReg .QWPEND t (q / 32)
        (s.reg .QWPEND t (q / 32) ||| wd (2 ^ (2 * (q % 32) + 1)))
    else s
  else s

/-- A push by hardware of one entry at TAIL (03 R76), with the wake of a waiting thread (R77). -/
def State.qPut (s : State) (t q : Nat) (k : Token) : State :=
  let tl := s.fget F.QPTR_TAIL t q
  let s := (s.qWrite t q tl k).fset F.QPTR_TAIL t q (tl + 1)
  (s.qServe t q 1).qMarks t q

/-- Can hardware push to the queue, and is there room? `some true` yes, `some false` full, `none` not a hardware-push queue (03 R75, R76). -/
def State.qRoom (s : State) (t q : Nat) : Option Bool :=
  if s.fget F.QCFG_EN t q = 1 ∧ s.fget F.QCFG_PMODE t q = 0 then some (decide (s.qOcc t q < s.qSize t q)) else none

/-! ### Fault tokens (05 R128, R129) -/

/-- The VAL word of a fault token (05 R129). -/
def State.faultVal (s : State) (code src thr tile : Nat) (stop : Bool) : Word :=
  wd (code % 256 + src % 16 * 256 + thr % 16 * 4096 + tile % 64 * 65536 + b2n stop * 2 ^ 22 + s.count % 2 ^ 40 * 2 ^ 24)

/-- A fault token pushed on a tile's fault queue, queue 255, or lost (05 R128). -/
def State.pushFault (s : State) (tile : Nat) (k : Token) : State :=
  if s.qRoom tile 255 = some true then s.qPut tile 255 k
  else (s.inc F.FQLOST_COUNT tile 0).fset F.SCHSTAT_FQOVF tile 0 1

/-- A fault token sent to the fault queue of a tile: at once when it arises there, over the control VC otherwise (05 R128). -/
def State.sendFault (s : State) (arises : Option Nat) (tile : Nat) (k : Token) : State :=
  if arises = some tile then s.pushFault tile k else s.post (.faultTok tile k)

/-- The fault token of a refused token or abandoned firing: its TAG with FAULT set, and its lane fields (05 R129). -/
def State.mkFault (s : State) (tag : Word) (lane : Option Token) (code src tile addr : Nat) : Token :=
  let ordTag := match lane with | some k => b2n k.ord | none => 0
  let d := match lane with
    | some k => if k.ord then mkDst s.devnum k.lane k.seq 0 else mkDst s.devnum 0 0 0
    | none => mkDst s.devnum 0 0 0
  ⟨wset (faultTag tag) 0 1 ordTag, d, s.faultVal code src 0 tile false, wd (addr % 2 ^ 48)⟩

/-- The store refuses a token: fault token with SRC 0x2 on the same tile (02 Fault tokens from the store). -/
def State.refuseTok (s : State) (t : Nat) (k : Token) (code : Nat) : State :=
  s.pushFault t (s.mkFault k.tag (some k) code 2 t (graphAddr t k.idx))

/-- The fault token of a thread (05 R129). -/
def State.threadFault (s : State) (c n code pc : Nat) (stop : Bool) : Token :=
  let x := s.thr c n
  ⟨mkTag x.ctx c 0 0 0 x.cls 4, mkDst s.devnum 0 0 0, s.faultVal code 0 n c stop, wd (graphAddr c pc)⟩

/-- The fault token of a thread is pushed on its tile; a control core has no fault queue (log 8). -/
def State.pushThreadFault (s : State) (c n code pc : Nat) (stop : Bool) : State :=
  if c < 64 then s.pushFault c (s.threadFault c n code pc stop) else s

/-! ### Taking a trap and returning from it (05 R130, 12 R311, 06 R163) -/

/-- Writes a w register; w0 discards writes (05 Thread contexts, 06 R138). -/
def Thread.setW (x : Thread) (r : Nat) (v : Word) : Thread :=
  if r = 0 then x else { x with w := tput x.w r v }

/-- Reads a w register; w0 reads as zero. -/
def Thread.getW (x : Thread) (r : Nat) : Word := if r = 0 then 0 else tget x.w 0 r

/-- Writes an f register. -/
def Thread.setF (x : Thread) (r : Nat) (v : Word) : Thread := { x with f := tput x.f r v }

/-- Reads an f register. -/
def Thread.getF (x : Thread) (r : Nat) : Word := tget x.f 0 r

/-- Writes a load destination. -/
def Thread.setD (x : Thread) (d : Dest) (v : Word) : Thread :=
  match d with
  | .w r => x.setW r v
  | .f r => x.setF r v

/-- Writes the destinations of a load whose data has arrived. -/
def Thread.landLoad (x : Thread) (l : Load) : Thread :=
  (l.dests.zip l.vals).foldl (fun y p => y.setD p.1 p.2) x

/-- Every open load of a thread whose data has arrived is written, oldest first (05 R130: every earlier instruction completes). -/
def Thread.landAll (x : Thread) : Thread :=
  { x.loads.foldl (fun y l => if l.arrived then y.landLoad l else y) x with loads := [] }

/-- The trap of a thread (05 R130): earlier loads complete, TEPC is loaded with the PC, the code and PCX, the fault token is pushed, and the thread enters its handler or FAULTED. -/
def State.trap (s : State) (c n code pc : Nat) (pcx : Bool) : State :=
  let x := (s.thr c n).landAll
  let enters := s.fget F.THND_HEN c n = 1 ∧ x.inh = false
  let s := s.setReg .TEPC c n (wd (pc % 16384 + code % 256 * 2 ^ 14 + b2n pcx * 2 ^ 22))
  let s := s.pushThreadFault c n code pc (!decide enters)
  if enters then
    s.setThr c n { x with st := .ready, wait := .none, wres := none, retry := none, inh := true, pc := s.fget F.THND_HPC c n }
  else
    s.setThr c n { x with st := .faulted, wait := .none, wres := none, retry := none, pc := pc % 16384 }

/-- The pre-emption of a thread (12 R311): TEPC is loaded with code 0x00, INH sets and the thread continues at HPC. -/
def State.takePreempt (s : State) (c n : Nat) : State :=
  let x := s.thr c n
  let s := s.setReg .TEPC c n (wd (x.pc % 16384))
  s.setThr c n { x with inh := true, preempt := false, pc := s.fget F.THND_HPC c n }

/-- Leaves the trap handler: INH clears and the thread continues at `pc` (06 R163 RETH). -/
def Thread.leaveHandler (x : Thread) (pc : Nat) : Thread := { x with inh := false, pc := pc }

/-- The event latch is written by a function of its image; a WFE waiting on it completes with the new image (12 R314). -/
def State.latch (s : State) (c n : Nat) (g : Word → Word) : State :=
  let v := g (s.reg .TEVT c n)
  let x := s.thr c n
  if x.st = .wait ∧ x.wait = .wfe ∧ x.wres = none then
    (s.setReg .TEVT c n 0).wake c n (.status v)
  else s.setReg .TEVT c n v

end Sys2Proof.Machine
end

