-- ==== Sys2Proof/Machine/Events.lean ====
section
/-! DEFINITION. The rings of the host port as the device writes them, and device events (13 R346 to R348, R350). -/
namespace Sys2Proof.Machine

/-- Entries of a ring. -/
def State.ringSize (s : State) (r : Nat) : Nat := 2 ^ s.fget F.RCFG_LOG2N 0 r

/-- Entries produced and not consumed. -/
def State.ringUsed (s : State) (r : Nat) : Nat := (s.fget F.RTAIL_TAIL 0 r + 2 ^ 32 - s.fget F.RHEAD_HEAD 0 r) % 2 ^ 32

/-- Is a ring that the device writes enabled with room for one entry? -/
def State.ringRoom (s : State) (r : Nat) : Bool := s.fget F.RCFG_EN 0 r = 1 && decide (s.ringUsed r < s.ringSize r)

/-- The MSI-X message of a ring whose count has advanced (13 R350). -/
def State.ringSignal (s : State) (r : Nat) : State := if s.fget F.RCFG_IEN 0 r = 1 then s.emit (.msix (s.fget F.RCFG_VEC 0 r)) else s

/-- The device writes an entry at TAIL, advances TAIL and signals (13 R350, R351). -/
def State.ringPut (s : State) (r : Nat) (b : List Byte) : State :=
  let n := s.fget F.RTAIL_TAIL 0 r
  ((s.emit (.ring r n b)).fset F.RTAIL_TAIL 0 r (n + 1)).ringSignal r

/-- The 32 bytes of an event record (13 R346). -/
def EvRec.bytes (e : EvRec) : List Byte :=
  toBytes 8 (e.typ % 65536 + e.eseq % 65536 * 65536) ++ toBytes 8 e.slate.toNat ++ toBytes 8 e.arg0 ++ toBytes 8 e.arg1

/-- Does a mask enable a type? Types from 64 up have no bit and are always enabled (log 61). -/
def maskOn (m : Word) (typ : Nat) : Bool := decide (64 ≤ typ) || m.toNat.testBit typ

/-- A record joins a session's pending records; the oldest of more than 64 is dropped (13 R348). The flag: one was lost. -/
def Session.push (x : Session) (typ : Nat) (slate : Word) (a0 a1 : Nat) : Session × Bool :=
  let l := x.recs ++ [⟨typ, x.eseq, slate, a0, a1⟩]
  let past := decide (64 < l.length)
  ({ x with recs := if past then l.drop 1 else l, eseq := (x.eseq + 1) % 65536, lost := x.lost + b2n past }, past)

/-- The 16 bytes of an Aklofy header (13 R330). -/
def akHeader (mtype sid seq len : Nat) : List Byte :=
  toBytes 2 0x0102 ++ toBytes 1 mtype ++ toBytes 1 0 ++ toBytes 4 sid ++ toBytes 4 seq ++ toBytes 2 len ++ toBytes 2 0

/-- The MAC of a header and payload under a session key (13 R334). -/
def akMac (key hp : List Byte) : List Byte := (toBytes 48 (Config.hmac384 key hp).toNat).take 16

/-- A message for a session's client, with its MAC (13 R330, R334). -/
def Session.frame (x : Session) (mtype seq : Nat) (payload : List Byte) : List Byte :=
  let hp := akHeader mtype x.sid seq payload.length ++ payload
  hp ++ akMac x.key hp

/-- The device sends a session a message of its own accord: EVENT or HB. The spec gives it no SEQ: a free value (log 2). -/
def State.akSend (s : State) (x : Session) (mtype : Nat) (payload : List Byte) : State :=
  let (v, s) := s.free
  s.emit (.aklofy x.port x.src x.udp (x.frame mtype (v.toNat % 2 ^ 32) payload))

/-- A record for one session: pended and sent as EVENT, when its mask enables the type. -/
def State.eventTo (s : State) (typ a0 a1 : Nat) (x : Session) : State :=
  if x.opened && maskOn x.mask typ then
    let (y, past) := x.push typ s.slate a0 a1
    let s := { s with ak := { s.ak with
      sessions := s.ak.sessions.map (fun (z : Session) => if z.sid = x.sid then y else z)
      evlost := min (2 ^ 32 - 1) (s.ak.evlost + b2n past) } }
    s.akSend x 0x30 (EvRec.bytes ⟨typ, x.eseq, s.slate, a0, a1⟩)
  else s

/-- The level of HRDY (13 R353, R354); BUSY is 1 while a step of firmware activation is under way. -/
def State.hrdyLevel (s : State) : Bool :=
  decide (s.dev ≠ .reset) && decide (s.dev ≠ .boot) && s.riari.fwStep = 0 && !s.hostp.pulse

/-- Is the hold-off of the last attention pulse over, 1,000 beats after its start (13 R354)? -/
def State.attnFree (s : State) : Bool :=
  match s.hostp.attnLast with
  | some t => decide (t + 8000 ≤ s.now)
  | none => true

/-- A record written on the host event ring; while ATTNEN is 1, HRDY high and no hold-off runs, a pulse becomes due (13 R354). -/
def State.hostRec (s : State) (typ a0 a1 : Nat) : State :=
  let h := s.hostp
  let due := s.fget F.HPCTL_ATTNEN 0 0 = 1 && s.hrdyLevel && s.attnFree
  let s := { s with hostp := { h with eseq := (h.eseq + 1) % 65536, attnDue := h.attnDue || due } }
  s.ringPut 1 (EvRec.bytes ⟨typ, h.eseq, s.slate, a0, a1⟩)

/-- The EVLOST record of the host event ring, once there is room (13 R350). -/
def State.hostLost (s : State) : State :=
  if s.hostp.lost ≠ 0 && s.ringRoom 1 then
    let n := min (2 ^ 32 - 1) s.hostp.lost
    { s with hostp := { s.hostp with lost := 0 } }.hostRec 11 n 0
  else s

/-- A record for the host event ring, counted while the ring is full (13 R350). -/
def State.hostEvent (s : State) (typ a0 a1 : Nat) : State :=
  if s.fget F.RCFG_EN 0 1 = 1 && maskOn s.hostp.mask typ then
    let s := s.hostLost
    if s.hostp.lost = 0 && s.ringRoom 1 then s.hostRec typ a0 a1
    else { s with hostp := { s.hostp with lost := s.hostp.lost + 1 } }
  else s

/-- A device event, with its type and arguments, for every session and the host event ring (13 R347, R348, R350). -/
def State.event (s : State) (typ a0 : Nat) (a1 : Nat := 0) : State :=
  (s.ak.sessions.foldl (fun s x => s.eventTo typ a0 a1 x) s).hostEvent typ a0 a1

/-- The code of a device state (13 R344 0x8000:01). -/
def DevState.code : DevState → Nat
  | .reset => 0 | .boot => 1 | .standby => 2 | .armed => 3 | .running => 4 | .draining => 5 | .fault => 6

/-- HPSTAT: the state, DEGRADED, HRDY, BUSY and REPLREQ (13 R350); its reset value while H_PERST# is asserted (15 R395). -/
def State.hpstat (s : State) : Word :=
  if s.hostp.perst then 0
  else wd (s.dev.code + b2n s.degraded * 8 + b2n s.hrdyLevel * 16 + b2n (s.riari.fwStep ≠ 0) * 32 + b2n s.ak.replreq * 64)

/-- The Keel drives HRDY (13 R353). -/
def State.showState (s : State) : State :=
  let lvl := s.hrdyLevel
  if lvl = s.hostp.hrdy then s else { s with hostp := { s.hostp with hrdy := lvl } }.emit (.pin "HRDY" lvl)

/-- The STATE event (13 R347). -/
def State.stateEvent (s : State) (old : DevState) : State := s.event 1 (s.dev.code + old.code * 256 + b2n s.degraded * 2 ^ 16)

/-- The device enters a state (13 R339), with its event. -/
def State.enter (s : State) (d : DevState) : State :=
  if s.dev = d then s
  else
    let old := s.dev
    { s with dev := d }.showState.stateEvent old

/-- The flag DEGRADED changes, with its event (13 R347). -/
def State.setDegraded (s : State) (b : Bool) : State :=
  if s.degraded = b then s else { s with degraded := b }.showState.stateEvent s.dev

/-- A bit of REPLREASON sets: DEGRADED for bits 0, 1 and 4; the first bit sets REPLREQ, with device source REPLACE, SVC# and the event (14 R382). -/
def State.setReason (s : State) (b : Nat) : State :=
  if s.ak.replreason.testBit b then s
  else
    let s := { s with ak := { s.ak with replreason := s.ak.replreason + 2 ^ b } }
    let s := if b = 0 ∨ b = 1 ∨ b = 4 then s.setDegraded true else s
    if s.ak.replreq then s
    else
      let s := { s with ak := { s.ak with replreq := true } }.showState
      ((s.raiseDev 11).emit (.pin "SVC#" false)).event 10 s.ak.replreason

/-- CUTTAKE's event (13 R347): DONE 1, MISSED 2 or FAIL 4. -/
def State.cutEvent (s : State) (which : Nat) : State :=
  (s.raiseDev 8).event 6 (s.fget F.CUTTAKE_NTAKE 0 0 + which * 2 ^ 16) (if which = 4 then (s.reg .ARMFAIL 0 0).toNat else 0)

end Sys2Proof.Machine
end

