-- ==== Sys2Proof/Machine/Clock.lean ====
section
/-! DEFINITION. The passing of time: the cycle counter, the counters that count cycles, the conditions that hold in every cycle (12 R306), and the monitors of the all-wait condition (08 R203) and of an idle tile (12 R318). -/
namespace Sys2Proof.Machine

/-- A source of the tile controller that a level drives, looked at through one register (12 R306 sources 0, 2, 3, 7; 03 R79). -/
def State.levelOf (s : State) (k : RegKind) (t i : Nat) : State :=
  match k with
  | .QPTR =>
    let s := s.qMarks t i
    if i = 255 ∧ s.qOcc t 255 ≠ 0 then s.raiseTile t 0 else s
  | .QWPEND => if s.reg .QWPEND t i ≠ 0 then s.raiseTile t 2 else s
  | .BANKSTAT => if s.fget F.BANKSTAT_RFAIL t 0 ≠ 0 then s.raiseTile t 3 else s
  | .SCHSTAT => if s.fget F.SCHSTAT_FQOVF t 0 = 1 then s.raiseTile t 7 else s
  | _ => s

/-- Every level condition, evaluated now. -/
def State.levels (s : State) : State :=
  s.regs.foldl (fun s p => s.levelOf p.1.1 p.1.2.1 p.1.2.2) s

/-- Identity of a thread as an owner of lock cells (12 R323). -/
def ownerId (c n : Nat) : Nat :=
  if c < 64 then n % 16 + c % 64 * 16 + 1024 else n % 16 + (c - 64) % 64 * 16 + 2048

/-- Does a delivery, wake or event for a thread of the core travel (08 R203)? -/
def ctlFor (c : Nat) : Ctl → Bool
  | .sev d _ _ _ => d = c
  | .lockRes d _ _ _ _ => d = c
  | .devInt _ d _ _ => d = c
  | _ => false

/-- Is a device source pending and unmasked for this core (08 R203)? -/
def State.devPendsFor (s : State) (c : Nat) : Bool :=
  (List.range 8).any fun k =>
    let v := (s.reg .DPEND 0 k &&& s.reg .DEN 0 k).toNat
    v ≠ 0 && (List.range 64).any fun i => v.testBit i &&
      (if s.fget F.DSRC_TCC 0 (64 * k + i) = 1 then 64 + s.fget F.DSRC_TTILE 0 (64 * k + i) = c
       else s.fget F.DSRC_TTILE 0 (64 * k + i) = c)

/-- Does this thread keep the all-wait condition: FREE, or waiting in a WFE, or for a cell that a thread of this core owns (08 R203)? -/
def State.allWaitThr (s : State) (c n : Nat) : Bool :=
  let x := s.thr c n
  match x.st with
  | .free => true
  | .wait =>
    match x.wait with
    | .wfe => true
    | .lock lk =>
      let o := (tget (s.tile (lk / 64)).cells ⟨0, false⟩ (lk % 64)).val.toNat
      o ≠ 0 && o / 16 = ownerId c 0 / 16
    | _ => false
  | _ => false

/-- A task that is a wake or event of a thread. -/
def isThreadTask (k : Task) : Bool :=
  match k.kind with
  | .wake _ => true
  | .event _ _ => true
  | _ => false

/-- A delay-list entry armed by a thread. -/
def isThreadTimer (k : Timer) : Bool :=
  match k.what with
  | .firing _ _ _ _ => false
  | _ => true

/-- The all-wait condition of a core (08 R203). -/
def State.allWaitNow (s : State) (c : Nat) : Bool :=
  let t := s.tile c
  (List.range 16).any (fun n => (s.thr c n).st ≠ .free) &&
  (List.range 16).all (fun n => s.allWaitThr c n) &&
  (List.range 2).all (fun k => s.reg .IPEND c k &&& s.reg .IEN c k = 0) &&
  !s.devPendsFor c &&
  !t.delay.any isThreadTimer && !t.ready.any isThreadTask && !t.c0q.any isThreadTask &&
  !s.ctl.any (ctlFor c) && t.dma.isEmpty

/-- Nothing for the tile to do: no thread READY, ready list and input stages empty (12 R318). -/
def State.quiet (s : State) (c : Nat) : Bool :=
  let t := s.tile c
  (List.range 16).all (fun n => (s.thr c n).st ≠ .ready) && t.ready.isEmpty && t.c0q.isEmpty &&
  t.inM.all (fun p => p.2.isEmpty) && t.inL.all (fun p => p.2.isEmpty) && t.chains.isEmpty && t.probes.isEmpty

/-- The cores that hold any state. -/
def State.cores (s : State) : List Nat :=
  (s.tiles.map (fun (p : Nat × Tile) => p.1) ++ s.threads.map (fun (p : Nat × Thread) => p.1 / 16)).eraseDups

/-- One core's monitors and cycle counters over `dt` cycles (02 R46, 03 R73, 08 R203, 12 R318). -/
def State.watchCore (dt : Nat) (s : State) (c : Nat) : State :=
  let t := s.tile c
  let aw := if s.allWaitNow c then (match t.allWait with | some b => some b | none => some s.now) else none
  let done := t.sdDone && aw.isSome
  let idle := if s.quiet c then t.idleSince else s.now + dt
  let s := if t.allWait = aw ∧ t.sdDone = done ∧ t.idleSince = idle then s
           else s.setTile c { t with allWait := aw, sdDone := done, idleSince := idle }
  let s := if t.stalled.isEmpty then s else s.finc F.INPUT_STALLS_COUNT c 0 dt
  let s := if t.allocHeld then s.finc F.ALLOC_HELD_COUNT c 0 dt else s
  if c < 64 ∧ s.fget F.TPWR_STATE 0 c = 1 ∧ !s.quiet c then s.fset F.TPWR_STATE 0 c 0 else s

/-- The routing bank in a state: 1 STAGED, 2 CURRENT, 3 OLD (11 R296). -/
def State.bankIn (s : State) (st : Nat) : Option Nat := [0, 1].find? fun b => s.fget F.RTBANK_STATE 0 b = st

/-- Does the bank serve a take (11 R295)? -/
def State.serves (s : State) (b take : Nat) : Bool := decide ((take + 65536 - s.fget F.RTBANK_FROM 0 b) % 65536 < 32768)

/-- Does the OLD bank, and not the CURRENT one, serve a take (11 R295)? -/
def State.oldServes (s : State) (take : Nat) : Bool :=
  (match s.bankIn 3 with | some b => s.serves b take | none => false) && !(match s.bankIn 2 with | some b => s.serves b take | none => false)

/-- Is it a fabric token that crosses the mesh to another gateway under a stamp of the OLD bank? -/
def State.oldPacket (s : State) (p : Packet) : Bool :=
  match p.load with
  | .fab k (.fabric _) => p.idx = 0 && k.ret = 0 && s.oldServes k.take
  | _ => false

/-- DRAIN (11 R296): tokens of the OLD bank's stamps in the fabric gateways and between them. -/
def State.drainCount (s : State) : Nat :=
  if (s.bankIn 3).isNone then 0
  else
    (s.fgq.flatMap fun (q : Nat × List FabTok) => q.2.filter fun k => k.ret = 0 && s.oldServes k.take).length +
    (s.mesh.buf.flatMap fun (q : PortKey × List Packet) => q.2.filter fun p => s.oldPacket p).length +
    (s.mesh.ej.flatMap fun (q : (Nat × Nat × Nat) × List Packet) => q.2.filter fun p => s.oldPacket p).length

/-- `dt` cycles pass. -/
def State.advance (s : State) (dt : Nat) : State :=
  if dt = 0 then s
  else
    let s := s.levels
    let s := s.cores.foldl (State.watchCore dt) s
    { s with now := s.now + dt, drainSeen := s.drainSeen || s.drainCount ≠ 0 }

end Sys2Proof.Machine
end

