-- ==== Sys2Proof/Machine/Net.lean ====
section
/-! DEFINITION. Places on the mesh, injection with its credits and return queues, and the sending of tokens (01 R12 to R15, 11 R270 to R283). -/
namespace Sys2Proof.Machine

/-- The router of a physical tile (01 R14; 11 R270: 8 × y + x). -/
def routerOfPhys (p : Nat) : Nat :=
  if p < 32 then p else if p < 64 then p + 8
  else if p = 64 then 33 else if p = 65 then 34 else if p = 66 then 37 else 38

/-- The physical tile that holds a logical tile (01 R15, R16). -/
def State.physOf (s : State) (t : Nat) : Nat := s.fget F.LTMAP_PHYS 0 t

/-- The router of a logical tile, or of a control core (01 R13). -/
def State.routerOf (s : State) (c : Nat) : Nat := if c < 64 then routerOfPhys (s.physOf c) else 35

/-- The router of catch gateway g (01 R12). -/
def cgRouter (g : Nat) : Nat :=
  match g with
  | 0 => 8 | 1 => 16 | 2 => 24 | 3 => 40 | 4 => 15 | 5 => 23 | 6 => 31 | _ => 47

/-- The router of fabric gateway g (01 R12). -/
def fgRouter (g : Nat) : Nat :=
  match g with
  | 0 => 48 | 1 => 56 | 2 => 55 | _ => 63

/-- Hops between two routers (01 The mesh). -/
def hopsBetween (a b : Nat) : Nat :=
  let d := fun (x y : Nat) => (x - y) + (y - x)
  d (a % 8) (b % 8) + d (a / 8) (b / 8)

/-- The router and port of a continuity slice (03 R58). -/
def State.sliceSite (s : State) (k : Nat) : Nat × Bool :=
  if k < 8 then (cgRouter k, true) else if k < 12 then (fgRouter (k - 8), true)
  else if k = 12 then (32, true) else (s.routerOf (k - 13), false)

/-- The slice of a lane's sink (03 R58, R68). -/
def State.laneSlice (s : State) (l : Nat) : Nat :=
  let p := s.fget F.LANECFG_SPORT 0 l
  match s.fget F.LANECFG_SINK 0 l with
  | 0 => p / 4
  | 1 => 8 + p % 4
  | 2 => 12
  | _ => 13 + p

/-- The fabric gateway nearest a router, ties to the lower number (11 R292). -/
def nearestFg (r : Nat) : Nat :=
  (minBy (fun g => hopsBetween r (fgRouter g)) [0, 1, 2, 3]).getD 0

/-- The router and port a token packet goes to. -/
def State.siteOf (s : State) : TokTo → Nat × Bool
  | .node t => (s.routerOf t, false)
  | .queue t _ => (s.routerOf t, false)
  | .lane l => s.sliceSite (s.laneSlice l)
  | .fabric g => (fgRouter g, true)
  | .link l => (cgRouter (l / 4), true)

/-- Port number of a local or edge port (11 R273). -/
def portNo (edge : Bool) : Nat := if edge then 5 else 4

/-- The output port a packet takes at a router: x first, then y (11 R272). 0 north, 1 east, 2 south, 3 west, 4 local, 5 edge. -/
def nextOut (r dr : Nat) (edge : Bool) : Nat :=
  if r % 8 < dr % 8 then 1 else if dr % 8 < r % 8 then 3
  else if r / 8 < dr / 8 then 2 else if dr / 8 < r / 8 then 0 else portNo edge

/-- The router next to a router through an output. -/
def neighbour (r out : Nat) : Nat :=
  match out with
  | 0 => r - 8 | 1 => r + 1 | 2 => r + 8 | 3 => r - 1 | _ => r

/-- The input port that an output's link reaches. -/
def inPort (out : Nat) : Nat :=
  match out with
  | 0 => 2 | 1 => 3 | 2 => 0 | _ => 1

/-- Flits a buffer holds for a VC (11 R275). -/
def bufCap (vc : Nat) : Nat := if vc ≤ 1 then 4 else 9

/-- The packets of a buffer. -/
def State.buf (s : State) (k : PortKey) : List Packet := tget s.mesh.buf [] k

/-- A buffer replaced. -/
def State.setBuf (s : State) (k : PortKey) (l : List Packet) : State :=
  { s with mesh := { s.mesh with buf := tput s.mesh.buf k l } }

/-- Flits in a buffer. -/
def State.bufUsed (s : State) (k : PortKey) : Nat := (s.buf k).length

/-- The return queue of an injection port (11 R280). -/
def State.retq (s : State) (r : Nat) (edge : Bool) : List (Packet × Nat × Bool) := tget s.mesh.ret [] (r, portNo edge)

/-- A return queue replaced. -/
def State.setRetq (s : State) (r : Nat) (edge : Bool) (l : List (Packet × Nat × Bool)) : State :=
  { s with mesh := { s.mesh with ret := tput s.mesh.ret (r, portNo edge) l } }

/-- Is the local port of router `dr` the port of a physical tile that router `r` has fenced (11 R282, R283)? -/
def State.fencedAt (s : State) (r dr : Nat) (edge : Bool) : Bool :=
  !edge && s.mesh.fenced.any fun f => f.2 = r && routerOfPhys f.1 = dr

/-- The flits of a packet, one cycle apart (11 R270). -/
def Packet.flits (p : Packet) : List Packet := (List.range p.len).map fun i => { p with idx := i, arr := p.arr + i }

/-- Outcome of offering a packet for injection. -/
inductive Inj where
  | sent (s : State)
  | full
  | fenced (s : State)
  deriving DecidableEq, Repr

/-- A packet is offered for injection at a port (11 R275, R280, R283): refused as fenced, queued behind its destination's returns, held for want of credit, or put in the port's buffer. -/
def State.inject (s : State) (r : Nat) (edge : Bool) (p : Packet) : Inj :=
  let q := s.retq r edge
  let p := { p with arr := s.now, stamp := if p.stamp = 0 then s.seqNo + 1 else p.stamp }
  if p.vc ≠ 0 ∧ 16 ≤ q.length then .full
  else if p.vc ≠ 0 ∧ s.fencedAt r p.dr p.edge then
    if p.net = 0 then .sent ((s.bump.setRetq r edge (q ++ [(p, 0, true)])).inc F.RTCNT2_FRET 0 r)
    else .fenced s
  else if p.vc ≠ 0 ∧ q.any (fun e => e.1.dr = p.dr ∧ e.1.edge = p.edge) then
    .sent (s.bump.setRetq r edge (q ++ [(p, 0, false)]))
  else
    let k : PortKey := ⟨p.net, r, portNo edge, p.vc⟩
    if s.bufUsed k + p.len ≤ bufCap p.vc ∨ (s.buf k = [] ∧ p.len ≤ 9) then .sent (s.bump.setBuf k (s.buf k ++ p.flits))
    else .full

/-- A packet with its source and destination; the class gives the VC (11 R270). -/
def mkPacket (net vc dr : Nat) (edge : Bool) (sr : Nat) (sedge : Bool) (len : Nat) (load : Payload) : Packet :=
  ⟨net, vc, dr, edge, sr, sedge, false, len, 0, 0, 0, 0, load⟩

/-- A token joins the local emissions of its class's input stage (02 R35). -/
def State.stageLocal (s : State) (t : Nat) (k : Token) : State :=
  s.onTile t fun x => { x with inL := tput x.inL k.cls (tget x.inL [] k.cls ++ [⟨k, false, .none⟩]) }

/-- A token joins the mesh arrivals of its class's input stage (02 R35). -/
def State.stageMesh (s : State) (t : Nat) (k : Token) : State :=
  s.onTile t fun x => { x with inM := tput x.inM k.cls (tget x.inM [] k.cls ++ [⟨k, false, .none⟩]) }

/-- A token waits at its lane's window for WINDOW_ARRIVAL (03 R60). -/
def State.toWindow (s : State) (l : Nat) (k : Token) : State :=
  { s with winq := tput s.winq l (tget s.winq [] l ++ [k]) }

/-- A token waits at a queue unit for QUEUE_PUSH, with the injection port it came from and the order of its first offer (03 R76, R78, 11 R280). -/
def State.toQueue (s : State) (t q : Nat) (k : Token) (sr : Nat) (sedge : Bool) (stamp : Nat) : State :=
  { s with pushq := tput s.pushq (t, q) (tget s.pushq [] (t, q) ++ [(k, sr, sedge, stamp)]) }

/-- A token put where its destination takes it, without crossing the mesh. -/
def State.deliverTok (s : State) (dest : TokTo) (k : Token) (sr : Nat) (sedge fromMesh : Bool) (stamp : Nat) : State :=
  match dest with
  | .node t => if fromMesh then s.stageMesh t k else s.stageLocal t k
  | .queue t q => s.toQueue t q k sr sedge stamp
  | .lane l => s.toWindow l k
  | .fabric _ => s
  | .link _ => s

/-- The route of an emitted token: another device's through the nearest fabric gateway (11 R292), the rest to `to`. -/
def State.routeTok (s : State) (r : Nat) (dest : TokTo) (k : Token) : TokTo :=
  match dest with
  | .node _ => if k.dev = 0xFFFF ∨ k.dev = s.devnum then dest else .fabric (nearestFg r)
  | _ => dest

/-- A token that cannot leave for want of an own number comes back as a fault token with code 0x11 (02 R54, 11 R292). -/
def State.returnTok (s : State) (stile : Nat) (k : Token) (code : Nat) : State :=
  s.pushFault stile (s.mkFault k.tag (some k) code 5 stile 0)

/-- A unit at port (r, edge) sends a token: at once to its own tile, to the mesh otherwise. -/
def State.sendTok (s : State) (own : Option Nat) (r : Nat) (edge : Bool) (dest : TokTo) (k : Token) : Inj :=
  let dest := s.routeTok r dest k
  let noNumber := match dest with | .fabric _ => s.devnum = 0xFFFF && k.dev ≠ 0xFFFF | _ => false
  if noNumber then .sent (s.returnTok (own.getD k.tile) k 0x11)
  else
    let site := s.siteOf dest
    if site = (r, edge) ∧ own.isSome then .sent (s.bump.deliverTok dest k r edge false s.seqNo)
    else s.inject r edge (mkPacket 0 (k.cls + 1) site.1 site.2 r edge 1 (.tok k dest (own.getD 0)))

/-- A fire unit sends its tokens, keeping those that find no credit (11 R275, R280). -/
def State.unitSend (s : State) (t u : Nat) (dest : TokTo) (k : Token) : State :=
  let r := s.routerOf t
  match s.sendTok (some t) r false dest k with
  | .sent s => s
  | .fenced s => s
  | .full =>
    let dest := s.routeTok r dest k
    let site := s.siteOf dest
    let p := { mkPacket 0 (k.cls + 1) site.1 site.2 r false 1 (.tok k dest t) with stamp := s.seqNo + 1 }
    s.bump.onTile t fun x => { x with unitOut := x.unitOut ++ [(u, p)] }

/-- The kept tokens of a tile's fire units are offered again, oldest first: each unit's in order, until one finds no credit (11 R275, R280). -/
def State.drainUnits (s : State) (t : Nat) : State :=
  let r := (s.tile t).unitOut.foldl (fun (p : State × List (Nat × Packet)) (e : Nat × Packet) =>
    if p.2.any (fun k => k.1 = e.1) then (p.1, p.2 ++ [e])
    else match p.1.inject (p.1.routerOf t) false e.2 with
      | .sent s => (s, p.2)
      | _ => (p.1, p.2 ++ [e])) (s, [])
  r.1.onTile t fun x => { x with unitOut := r.2 }

end Sys2Proof.Machine
end

