-- ==== Sys2Proof/Machine/Wake.lean ====
section
/-! DEFINITION. The drain and fence of a physical tile and the wake of a tile domain (11 R281 to R284, 12 R318, R321). -/
namespace Sys2Proof.Machine

/-- The logical tile that a physical tile holds, if any (01 R15, R16). -/
def State.tileAtPhys (s : State) (p : Nat) : Option Nat := (List.range 64).find? fun t => s.physOf t = p

/-- The logical tile at a router's local port, if any. -/
def State.tileAtRouter (s : State) (r : Nat) : Option Nat := (List.range 64).find? fun t => s.routerOf t = r

/-- Is the message the fence notice of a physical tile? -/
def isFence (p : Nat) : Ctl → Bool
  | .fence q _ => q = p
  | .fenceDone q => q = p
  | _ => false

/-- Is the packet a drain marker of a physical tile? -/
def isMarker (p : Nat) (k : Packet) : Bool :=
  match k.load with
  | .marker q => q = p
  | _ => false

/-- The fence notice of a physical tile is broadcast: its router shows DRAINING (11 R282, cycle 0). -/
def State.startFence (s : State) (p : Nat) : State :=
  let s := s.fset F.RTCTL_FENCE 0 (routerOfPhys p) 1
  { s with
    ctl := s.ctl ++ (List.range 72).map (fun r => Ctl.fence p r)
    mesh := { s.mesh with
      fencing := s.mesh.fencing ++ [p]
      marks := tdel (tdel s.mesh.marks (p, 0)) (p, 1) } }

/-- The unfence of a physical tile is broadcast (11 R283). Notices and markers of the fence that are still on their way go no further. -/
def State.startUnfence (s : State) (p : Nat) : State :=
  { s with
    ctl := s.ctl.filter (fun m => !isFence p m) ++ (List.range 72).map (fun r => Ctl.unfence p r)
    mesh := { s.mesh with
      fencing := s.mesh.fencing.filter (fun q => q ≠ p)
      buf := s.mesh.buf.map fun (b : PortKey × List Packet) => (b.1, b.2.filter fun k => !isMarker p k) } }

/-- Power transition of a tile domain replaced, with TRANS (12 R319). -/
def State.setPower (s : State) (t : Nat) (p : Option PowerTrans) : State :=
  (s.onTile t fun x => { x with power := p }).fset F.TPWR_TRANS 0 t (b2n p.isSome)

/-- A wake of a tile domain (12 R318, 11 R281, R284): from NAP 192 cycles, from OFF 32,000; while the domain drains toward OFF it cancels the switch-off; once the domain is fenced and switching off, the wake follows. -/
def State.askWake (s : State) (t : Nat) : State :=
  match (s.tile t).power with
  | some p =>
    if p.dest = 3 then
      if p.fencedAt = none ∨ p.fencedAt = some s.now then
        (((s.setPower t none).fset F.TPWR_REFUSED 0 t 1).fset F.TPWR_REQ 0 t 0).startUnfence (s.physOf t)
      else s.onTile t fun x => { x with wakeAsked := some s.now }
    else s
  | none =>
    match s.fget F.TPWR_STATE 0 t with
    | 2 => s.setPower t (some ⟨0, some (s.now + 192), none, false⟩)
    | 3 => s.setPower t (some ⟨0, some (s.now + 32000), none, false⟩)
    | _ => s

/-- A control message for a core: delivered while its domain is ON or IDLE; otherwise it wakes the domain and waits (11 R281); it waits while the state of the tile moves (14 R378). -/
def State.ifAwake (s : State) (c : Nat) (g : State → State) : State :=
  if s.frozen c then s else if s.tileOn c then g s else s.askWake c

/-- A row that takes a control message for a core: the message, if there is one, is delivered or wakes the domain (11 R281). -/
def State.ctlAwake (s : State) (c : Nat) (p : Ctl → Bool) (g : State → State) : State := if s.ctl.any p then s.ifAwake c g else s

/-- Is this a fault token for the tile? -/
def Ctl.isFaultFor (t : Nat) : Ctl → Bool
  | .faultTok d _ => d = t
  | _ => false

/-- Is this an SEV for the thread? -/
def Ctl.isSevFor (c n : Nat) : Ctl → Bool
  | .sev d k _ _ => d = c && k = n
  | _ => false

/-- Is this a device delivery for the thread? -/
def Ctl.isIntFor (c n : Nat) : Ctl → Bool
  | .devInt _ d k _ => d = c && k = n
  | _ => false

/-- Is this a lend for the thread? -/
def Ctl.isLendFor (c n : Nat) : Ctl → Bool
  | .lend d k _ _ => d = c && k = n
  | _ => false

/-- Is this the result of a lock operation for the thread? -/
def Ctl.isLockFor (c n : Nat) : Ctl → Bool
  | .lockRes d k _ _ _ => d = c && k = n
  | _ => false

/-- Is this a free notice of the context? -/
def Ctl.isFreeOf (c : Nat) : Ctl → Bool
  | .freeNotice d _ => d = c
  | _ => false

/-- Is this a credit flit of the lane? -/
def Ctl.isCreditOf (l : Nat) : Ctl → Bool
  | .credit d _ => d = l
  | _ => false

/-- The core whose domain a lane's credits reach: the tile of its source, or no domain that sleeps (03 R55, R68). -/
def State.laneSrcCore (s : State) (l : Nat) : Nat := if s.fget F.LANECFG_SRCK 0 l = 0 then 64 else s.fget F.LANECFG_SRC 0 l

end Sys2Proof.Machine
end

