-- ==== Sys2Proof/Machine/Store.lean ====
section
/-! DEFINITION. The matching store and the contexts: lookup, matching, sticky tokens, loop throttle, eviction and probes, opening and closing of contexts (02 R24 to R53, 08 R190 to R195). -/
namespace Sys2Proof.Machine

/-! ### Node words (02 R27) -/

/-- OPC. -/ def nOpc (w : Word) : Nat := wbits w 56 8
/-- MODE. -/ def nMode (w : Word) : Nat := wbits w 54 2
/-- TILE0. -/ def nTile0 (w : Word) : Nat := wbits w 48 6
/-- IDX0. -/ def nIdx0 (w : Word) : Nat := wbits w 34 14
/-- P0. -/ def nP0 (w : Word) : Nat := wbits w 32 2
/-- TILE1. -/ def nTile1 (w : Word) : Nat := wbits w 26 6
/-- IDX1. -/ def nIdx1 (w : Word) : Nat := wbits w 12 14
/-- P1. -/ def nP1 (w : Word) : Nat := wbits w 10 2
/-- MATCH. -/ def nMatch (w : Word) : Nat := wbits w 6 4
/-- MOD as stored. -/ def nMod (w : Word) : Nat := wbits w 0 6

/-- A match kind (02 R29). -/
inductive MKind where
  | dyadic | monadic | dyadicCtl | monadicCtl | loopEntry | ctxCreate | ctxFree | dyadicStk
  deriving DecidableEq, Repr

/-- The match kind of a MATCH value; 0x8 to 0xF are reserved (02 R29). -/
def mkind (m : Nat) : Option MKind :=
  match m with
  | 0 => some .dyadic
  | 1 => some .monadic
  | 2 => some .dyadicCtl
  | 3 => some .monadicCtl
  | 4 => some .loopEntry
  | 5 => some .ctxCreate
  | 6 => some .ctxFree
  | 7 => some .dyadicStk
  | _ => none

/-- The kind of a node word that can fire, at node `idx` (02 R27, R28). -/
def nodeKind (idx : Nat) (w : Word) : Option MKind :=
  match nMode w with
  | 2 => mkind (nMatch w)
  | 3 =>
    if idx = 0x3FFF then none
    else match mkind (nMatch w) with
      | some .monadic => some .monadic
      | some .monadicCtl => some .monadicCtl
      | some .ctxCreate => some .ctxCreate
      | some .ctxFree => some .ctxFree
      | _ => none
  | _ => none

/-- The ports a kind uses (02 R29). -/
def MKind.ports : MKind → List Nat
  | .dyadic => [0, 1]
  | .monadic => [2]
  | .dyadicCtl => [0, 1, 3]
  | .monadicCtl => [2, 3]
  | .loopEntry => [1, 2]
  | .ctxCreate => [2]
  | .ctxFree => [2]
  | .dyadicStk => [0, 1]

/-- May a token with this port and STICKY flag reach a node of this kind (02 R30)? -/
def MKind.accepts (k : MKind) (port : Nat) (sticky : Bool) : Bool :=
  k.ports.contains port &&
  match k with
  | .dyadic => true
  | .dyadicCtl => !sticky || port ≠ 3
  | .dyadicStk => sticky == (port == 1)
  | _ => !sticky

/-- The set index of a key (02 Inside the matching store). -/
def setIndex (hseed ctx idx iter : Nat) : Nat :=
  let key := ctx * 2 ^ 30 + idx * 2 ^ 16 + iter
  [0, 1, 2, 3, 4, 5].foldl (fun x i => x ^^^ bits key (9 * i) 9) hseed

/-! ### Contexts as a tile sees them -/

/-- The owning tile of a context (02 Contexts). -/
def ctxOwner (c : Nat) : Nat := c / 1024

/-- A tile's cached descriptor of a context. -/
def State.cached (s : State) (t c : Nat) : Option CEnt := (s.tile t).cache.find? fun e => e.ctx = c

/-- Is the context OPEN for tokens and firings of this tile (02 R50, R52)? -/
def State.ctxOpen (s : State) (t c : Nat) : Bool :=
  match s.cached t c with
  | some e => !e.closed && (s.ctx c).st ≠ 0
  | none => (s.ctx c).st = 1

/-- Drops the least recently used unpinned descriptor when the cache is full (02 Contexts). -/
def trimCache (l : List CEnt) : List CEnt :=
  if l.length ≤ 256 then l
  else match takeFirst (fun e => !e.pinned) l.reverse with
    | some (_, r) => r.reverse
    | none => l

/-- The descriptor is looked up in the tile's cache, most recently used first; a miss fetches it and counts (02 R46). -/
def State.touchCtx (s : State) (t c : Nat) : State :=
  match takeFirst (fun e => e.ctx = c) (s.tile t).cache with
  | some (e, r) => s.onTile t fun x => { x with cache := e :: r }
  | none =>
    (s.onTile t fun x => { x with cache := trimCache (⟨c, (s.ctx c).st = 2, false, 0, false, 0, false⟩ :: x.cache) }).inc
      F.CTX_MISSES_COUNT t 0

/-! ### Population counts (08 R190, R191) -/

/-- The count a token of the context would be in now. -/
def State.popFor (s : State) (t c : Nat) : Pop :=
  if (s.ctx c).cert ∧ s.fget F.POPCNT_CPOP t 0 < s.fget F.ADMRES_RES t 0 then .c else .o

/-- A token enters a count. -/
def State.popIn (s : State) (t c : Nat) (p : Pop) : State :=
  match p with
  | .none => s
  | .c => s.fset F.POPCNT_CPOP t 0 (s.fget F.POPCNT_CPOP t 0 + 1)
  | .o =>
    let s := s.fset F.POPCNT_OPOP t 0 (s.fget F.POPCNT_OPOP t 0 + 1)
    let s := s.fset F.POPCNT_OPHWM t 0 (max (s.fget F.POPCNT_OPHWM t 0) (s.fget F.POPCNT_OPOP t 0))
    if (s.ctx c).cert then s.inc F.OVERPOP_COUNT t 0 else s

/-- A token leaves the count it entered. -/
def State.popOut (s : State) (t : Nat) (p : Pop) : State :=
  match p with
  | .none => s
  | .c => s.fset F.POPCNT_CPOP t 0 (s.fget F.POPCNT_CPOP t 0 - 1)
  | .o => s.fset F.POPCNT_OPOP t 0 (s.fget F.POPCNT_OPOP t 0 - 1)

/-! ### Spill area (02 R39, R42, R44) -/

/-- Blocks of the spill area; none while SPILLEN is 0 (02 R43, R44). -/
def State.spillBlocks (s : State) (t : Nat) : Nat :=
  if s.fget F.MSCFG_SPILLEN t 0 = 1 then s.fget F.SPSIZE_SIZE t 0 * 1024 else 0

/-- Blocks in use. -/
def Tile.blocksUsed (x : Tile) : Nat := x.spill.foldl (fun n p => n + p.2.length) 0

/-- Spilled tokens of a set. -/
def Tile.setSpilled (x : Tile) (set : Nat) : Nat := (tget x.spill [] set).foldl (fun n b => n + b.length) 0

/-- Spilled tokens held, in all. -/
def Tile.spilledAll (x : Tile) : Nat := x.spill.foldl (fun n p => n + p.2.foldl (fun m b => m + b.length) 0) 0

/-- Spilled tokens of a context. -/
def Tile.ctxSpilled (x : Tile) (c : Nat) : Nat :=
  x.spill.foldl (fun n p => n + p.2.foldl (fun m b => m + (b.filter fun e => e.tok.ctx = c).length) 0) 0

/-- Puts an entry in the first block of a chain with a free slot, or in a new block at its end (02 Spill area). -/
def putBlock (e : Entry) : List (List Entry) → List (List Entry)
  | [] => [[e]]
  | b :: r => if b.length < 31 then (b ++ [e]) :: r else b :: putBlock e r

/-! ### Entries -/

/-- Outcome of asking for an entry. -/
inductive Room where
  | ok (s : State)
  | wait
  | full
  deriving DecidableEq, Repr

/-- The victim of an eviction: highest class, then oldest stamp (02 R37). -/
def victimOf (l : List Entry) : Option Entry :=
  let top := l.foldl (fun m e => max m e.cls) 0
  minBy (fun e => e.stamp) (l.filter fun e => e.cls = top)

/-- The lowest way a set's entries leave free. -/
def freeWay (l : List Entry) : Nat :=
  (([0, 1, 2, 3, 4, 5, 6, 7].filter fun w => !(l.any fun e => e.way = w)).head?).getD 0

/-- Room in the set for one more entry, with an eviction when all 8 ways are taken (02 R37, R39, R42). -/
def State.makeWay (s : State) (t set : Nat) : Room :=
  let x := s.tile t
  let inSet := x.ents.filter fun e => e.set = set
  if inSet.length < 8 then .ok s
  else if 32 ≤ x.wbuf.length then .wait
  else match victimOf inSet with
    | none => .full
    | some v =>
      if s.spillBlocks t ≤ x.blocksUsed + x.wbuf.length then .full
      else .ok ((s.setTile t { x with ents := x.ents.filter (fun e => e.stamp ≠ v.stamp), wbuf := x.wbuf ++ [v] }).inc
        F.EVICTS_COUNT t 0)

/-- The token takes an entry (02 R34, R37, R38; 08 R190, R191). -/
def State.takeEntry (s : State) (t : Nat) (k : Staged) (port : Nat) (held : Bool) : Room :=
  let c := s.ctx k.tok.ctx
  let x := s.tile t
  let mark := fun (s : State) (set way : Nat) (p : Pop) =>
    let e : Entry := ⟨k.tok, port, set, way, s.seqNo, p, held, c.cls⟩
    let s := if k.pop = .none then s.popIn t k.tok.ctx p else s
    (s.bump, e)
  let dupIn := fun (l : List Entry) => l.any fun e =>
    e.tok.ctx = k.tok.ctx && e.tok.idx = k.tok.idx && e.tok.iter = k.tok.iter && e.port = port && !e.held
  let dup := !held && (dupIn x.ents || dupIn x.c0)
  let cnt := fun (s : State) => if dup then s.inc F.DUPTAGS_COUNT t 0 else s
  let p := if k.pop = .none then s.popFor t k.tok.ctx else k.pop
  if c.cls = 0 then
    if 8 ≤ x.c0.length then .wait
    else
      let way := (([0, 1, 2, 3, 4, 5, 6, 7].filter fun w => !(x.c0.any fun e => e.way = w)).head?).getD 0
      let (s, e) := mark s 0 way p
      .ok (cnt (s.onTile t fun y => { y with c0 := y.c0 ++ [e] }))
  else if k.pop = .none ∧ p = .o ∧ s.fget F.ADMCAP_CAP t 0 ≤ s.fget F.ADMRES_RES t 0 + s.fget F.POPCNT_OPOP t 0 then .full
  else
    let set := setIndex (s.fget F.MSCFG_HSEED t 0) k.tok.ctx k.tok.idx k.tok.iter
    match s.makeWay t set with
    | .wait => .wait
    | .full => .full
    | .ok s =>
      let way := freeWay ((s.tile t).ents.filter fun e => e.set = set)
      let (s, e) := mark s set way p
      .ok (cnt (s.onTile t fun y => { y with ents := y.ents ++ [e] }))

/-- Removes the entry with a stamp from the store and its count. -/
def State.dropEntry (s : State) (t : Nat) (e : Entry) : State :=
  (s.onTile t fun x => { x with ents := x.ents.filter (fun d => d.stamp ≠ e.stamp),
                                c0 := x.c0.filter (fun d => d.stamp ≠ e.stamp) }).popOut t e.pop

/-- The oldest waiting entry of a key and port, on chip (02 R34). -/
def State.partner (s : State) (t : Nat) (k : Token) (port : Nat) : Option Entry :=
  let x := s.tile t
  minBy (fun e => e.stamp) ((x.ents ++ x.c0).filter fun e =>
    e.tok.ctx = k.ctx && e.tok.idx = k.idx && e.tok.iter = k.iter && e.port = port && !e.held)

/-- The sticky entry of a context, node and port (02 R31). -/
def State.stickyOf (s : State) (t ctx idx port : Nat) : Option Entry :=
  (s.tile t).stk.find? fun e => e.tok.ctx = ctx && e.tok.idx = idx && e.port = port

/-! ### Becoming ready (02 R36, 05 R113) -/

/-- Is the list of the class full (05 R113)? -/
def State.readyFull (s : State) (t cls : Nat) : Bool :=
  if cls = 0 then 8 ≤ (s.tile t).c0q.length else 512 ≤ (s.tile t).ready.length

/-- A firing enters the ready list at the class and priority of its context; a SPAWN node as a spawning thread wake (06 R159). -/
def State.makeReady (s : State) (t : Nat) (f : Firing) : State :=
  let c := s.ctx f.ctx
  let k := if nOpc f.word = 0xBA then TaskK.spawn f else TaskK.fire f
  s.enterReady t k c.cls c.pri c.act none

/-- The firing of a node at an iteration with its operand tokens by port. -/
def State.mkFiring (s : State) (t : Nat) (k : Token) (p0 p1 p2 : Option Token) : Firing :=
  let w := s.gword t k.idx
  ⟨k.ctx, k.idx, k.iter, w, if nMode w = 3 then s.gword t (k.idx + 1) else 0, p0, p1, p2⟩

/-- What a required port offers: a waiting entry or a sticky entry. -/
def State.offerOf (s : State) (t : Nat) (k : Token) (port : Nat) : Option (Token × Option Entry) :=
  match if port < 2 then s.stickyOf t k.ctx k.idx port else none with
  | some e => some (e.tok, none)
  | none => (s.partner t k port).map fun e => (e.tok, some e)

/-- The offers of the other required ports, all or none. -/
def State.offersOf (s : State) (t : Nat) (k : Token) : List Nat → Option (List (Nat × Token × Option Entry))
  | [] => some []
  | p :: r =>
    match s.offerOf t k p, s.offersOf t k r with
    | some o, some l => some ((p, o.1, o.2) :: l)
    | _, _ => none

/-- The token at a port among the arriving token and its partners. -/
def pickPort (port : Nat) (k : Token) (kp : Nat) (l : List (Nat × Token × Option Entry)) : Option Token :=
  if kp = port then some k else (l.find? fun o => o.1 = port).map fun o => o.2.1

/-- A complete set of operands: entries leave the store, and the node fires unless its control token is 0 (02 R32). -/
def State.complete (s : State) (t : Nat) (k : Token) (l : List (Nat × Token × Option Entry)) : State :=
  let s := l.foldl (fun s o => match o.2.2 with | some e => s.dropEntry t e | none => s) s
  let ctl := pickPort 3 k k.port l
  match ctl with
  | some c =>
    if c.val = 0 then s.inc F.GATED_OFF_COUNT t 0
    else s.makeReady t (s.mkFiring t k (pickPort 0 k k.port l) (pickPort 1 k k.port l) (pickPort 2 k k.port l))
  | none => s.makeReady t (s.mkFiring t k (pickPort 0 k k.port l) (pickPort 1 k k.port l) (pickPort 2 k k.port l))

/-- Outcome of one lookup: done, or the token stays in its input stage; `full` asks for the fault token of R42. -/
inductive LRes where
  | done (s : State)
  | stall (s : State)
  | full (s : State)
  deriving DecidableEq, Repr

/-- A lookup's outcome from the room it found. -/
def Room.res (r : Room) (s : State) (g : State → State) : LRes :=
  match r with
  | .ok s' => .done (g s')
  | .wait => .stall s
  | .full => .full s

/-- Tokens in the spill area for a context and node at a port (02 R31). -/
def Tile.spilledAt (x : Tile) (ctx idx port : Nat) : List Entry :=
  x.spill.flatMap fun p => p.2.flatMap fun b => b.filter fun e => e.tok.ctx = ctx && e.tok.idx = idx && e.port = port && !e.held

/-- A spilled entry is removed from its bucket, a block that becomes empty returning to the free list. -/
def State.unspill (s : State) (t : Nat) (e : Entry) : State :=
  let x := s.tile t
  let chain := ((tget x.spill [] e.set).map (fun b => b.filter fun d => d.stamp ≠ e.stamp)).filter fun b => !b.isEmpty
  (s.setTile t { x with spill := tput x.spill e.set chain }).inc F.REFILLS_COUNT t 0

/-- A token with SPILLED set (02 R22, R40). -/
def spilledTok (k : Token) : Token := { k with tag := k.tag ||| 16 }

/-- Waiting tokens on the other data port each match a sticky token that arrives, oldest first (02 R31). -/
def State.stickyMatches (s : State) (t : Nat) (need : List Nat) : List Entry → State
  | [] => s
  | e :: r =>
    match s.offersOf t e.tok (need.filter fun p => p ≠ e.port) with
    | some l => ((s.dropEntry t e).complete t e.tok l).stickyMatches t need r
    | none => s.stickyMatches t need r

/-- A sticky token arrives (02 R31). -/
def State.arriveSticky (s : State) (t : Nat) (kind : MKind) (k : Token) : LRes :=
  let other := 1 - k.port
  let x := s.tile t
  if (s.stickyOf t k.ctx k.idx other).isSome then .done (s.refuseTok t k 2)
  else
    match s.stickyOf t k.ctx k.idx k.port with
    | some e =>
      .done (s.setTile t { x with stk := x.stk.map fun d => if d.stamp = e.stamp then { d with tok := k } else d })
    | none =>
      if 256 ≤ x.stk.length then .done (s.refuseTok t k 0x0C)
      else
        let way := (((List.range 256).filter fun w => !(x.stk.any fun e => e.way = w)).head?).getD 0
        let e : Entry := ⟨k, k.port, 0, way, s.seqNo, .none, false, (s.ctx k.ctx).cls⟩
        let s := s.bump.onTile t fun y => { y with stk := y.stk ++ [e] }
        -- spilled tokens that wait on the other port come back first
        let sp := (s.tile t).spilledAt k.ctx k.idx other
        let s := sp.foldl (fun s d => (s.unspill t d).onTile t fun y => { y with ents := y.ents ++ [{ d with tok := spilledTok d.tok }] }) s
        let ws := ((s.tile t).ents ++ (s.tile t).c0).filter fun d =>
          d.tok.ctx = k.ctx && d.tok.idx = k.idx && d.port = other && !d.held
        .done (s.stickyMatches t kind.ports ws)

/-- A data or control token arrives at a node that pairs operands (02 R29, R34, R40). `probe` says whether the spill area may still hold a partner. -/
def State.arrivePair (s : State) (t : Nat) (kind : MKind) (k : Staged) (probe : Bool) : LRes :=
  let need := kind.ports.filter fun p => p ≠ k.tok.port
  let c := s.ctx k.tok.ctx
  match s.offersOf t k.tok need with
  | some l => if s.readyFull t c.cls then .stall s else .done ((s.popOut t k.pop).complete t k.tok l)
  | none =>
    let x := s.tile t
    let set := setIndex (s.fget F.MSCFG_HSEED t 0) k.tok.ctx k.tok.idx k.tok.iter
    if probe ∧ c.cls ≠ 0 ∧ x.setSpilled set ≠ 0 ∧ x.ctxSpilled k.tok.ctx ≠ 0 then
      match x.probes.find? fun p => p.first.tok.ctx = k.tok.ctx && p.first.tok.idx = k.tok.idx && p.first.tok.iter = k.tok.iter with
      | some q => .done (s.setTile t { x with probes := x.probes.map fun p =>
          if p = q then { p with joined := p.joined ++ [k] } else p })
      | none =>
        if 64 ≤ x.probes.length then .stall s
        else .done (s.setTile t { x with probes := x.probes ++ [⟨k, [], set, 0, []⟩] })
    else (s.takeEntry t k k.tok.port false).res s id

/-! ### Loop throttle (08 R193 to R195) -/

/-- Held tokens that pass a test leave their entries, on chip or in the spill area, and are offered again as local emissions, in order of arrival (08 R194, R195). -/
def State.reoffer (s : State) (t : Nat) (p : Entry → Bool) : State :=
  let x := s.tile t
  let hit := fun (e : Entry) => e.held && p e
  let sp := (x.spill.flatMap fun b => b.2.flatMap fun l => l.filter hit).map fun e => { e with tok := spilledTok e.tok }
  let l := sortBy (fun e => e.stamp) ((x.ents ++ x.c0 ++ x.wbuf).filter hit ++ sp)
  let x := { x with ents := x.ents.filter (fun e => !hit e), c0 := x.c0.filter (fun e => !hit e), wbuf := x.wbuf.filter (fun e => !hit e),
                    spill := x.spill.map fun b => (b.1, (b.2.map fun l => l.filter fun e => !hit e).filter fun l => !l.isEmpty) }
  (s.setTile t (l.foldl (fun y e => { y with inL := tput y.inL e.tok.cls (tget y.inL [] e.tok.cls ++ [⟨e.tok, true, e.pop⟩]) }) x)).finc
    F.REFILLS_COUNT t 0 sp.length

/-- The throttle entry of a context and node. -/
def State.throttleOf (s : State) (t ctx idx : Nat) : Option Throttle :=
  (s.tile t).thr.find? fun h => h.ctx = ctx && h.idx = idx

/-- The lowest set bit of a mask, below `n` bits. -/
def lowBit (m : Nat) : Nat → Nat
  | 0 => 0
  | n + 1 => if m % 2 = 1 then 0 else 1 + lowBit (m / 2) n

/-- A retire: bit e clears, LO advances over retired iterations, and held tokens are offered again (08 R193, R194). -/
def State.retire (s : State) (t : Nat) (h : Throttle) (e : Nat) : State :=
  let m := h.mask - 2 ^ e
  let x := s.tile t
  let rest := x.thr.filter fun d => d ≠ h
  let s := s.inc F.LOOP_RETIRES_COUNT t 0
  if m = 0 then
    let s := s.setTile t { x with thr := rest }
    s.reoffer t fun d => (d.tok.ctx = h.ctx && d.tok.idx = h.idx) || (s.throttleOf t d.tok.ctx d.tok.idx).isNone
  else
    let sh := lowBit m 64
    (s.setTile t { x with thr := ⟨h.ctx, h.idx, (h.lo + sh) % 65536, m / 2 ^ sh⟩ :: rest }).reoffer t
      fun d => d.tok.ctx = h.ctx && d.tok.idx = h.idx

/-- A token reaches a LOOP_ENTRY node; its ITER is already advanced (08 R193). -/
def State.arriveLoop (s : State) (t : Nat) (k : Staged) (port : Nat) : LRes :=
  let w := s.gword t k.tok.idx
  let K := nMod w + 1
  let c := s.ctx k.tok.ctx
  let fire := fun (s : State) =>
    let f := s.mkFiring t k.tok none (if port = 1 then some k.tok else none) (if port = 2 then some k.tok else none)
    (s.popOut t k.pop).makeReady t f
  let hold := fun (s : State) => (s.takeEntry t k port true).res s fun s => s.inc F.LOOP_HELD_COUNT t 0
  match s.throttleOf t k.tok.ctx k.tok.idx with
  | none =>
    if 256 ≤ (s.tile t).thr.length then hold s
    else if s.readyFull t c.cls then .stall s
    else .done (fire (s.onTile t fun x => { x with thr := ⟨k.tok.ctx, k.tok.idx, k.tok.iter, 1⟩ :: x.thr }))
  | some h =>
    let e := (k.tok.iter + 65536 - h.lo) % 65536
    if port = 2 ∧ e < K ∧ h.mask.testBit e then .done ((s.popOut t k.pop).retire t h e)
    else if port = 1 ∧ e < K ∧ h.mask.testBit e then .done ((s.popOut t k.pop).refuseTok t k.tok 0x0E)
    else if e < K then
      if s.readyFull t c.cls then .stall s
      else .done (fire (s.onTile t fun x => { x with thr := ⟨h.ctx, h.idx, h.lo, h.mask + 2 ^ e⟩ :: x.thr.filter fun d => d ≠ h }))
    else if e < 32768 then hold s
    else .done ((s.popOut t k.pop).refuseTok t k.tok 0x0E)

/-! ### The lookup (02 R24 to R42) -/

/-- A token with ITER advanced by 1 (02 R33). -/
def iterPlus (k : Token) : Token := { k with tag := wset k.tag 12 16 (k.iter + 1) }

/-- A token meets a node of its open context. -/
def State.meetNode (s : State) (t : Nat) (k : Staged) (probe : Bool) (kind : MKind) : LRes :=
  let s' := if k.tok.cls ≠ (s.ctx k.tok.ctx).cls ∧ !k.again then s.inc F.CLS_MISMATCH_COUNT t 0 else s
  let r : LRes := match kind with
    | .monadic | .ctxCreate | .ctxFree =>
      if s'.readyFull t (s'.ctx k.tok.ctx).cls then .stall s
      else .done (s'.makeReady t (s'.mkFiring t k.tok none none (some k.tok)))
    | .loopEntry =>
      if k.again then s'.arriveLoop t k k.tok.port
      else if k.tok.port = 1 then
        if k.tok.iter = 0xFFFF then .done (s'.refuseTok t k.tok 0x0E)
        else s'.arriveLoop t { k with tok := iterPlus k.tok } 1
      else s'.arriveLoop t k 2
    | .dyadic | .dyadicCtl | .monadicCtl | .dyadicStk =>
      if k.tok.sticky then s'.arriveSticky t kind k.tok else s'.arrivePair t kind k probe
  match r with
  | .done s => .done s
  | .stall _ => .stall s
  | .full _ => .full s

/-- One token meets the store: reserved bits, the state of its context, its node word, and its port are looked at in that order (log 70). -/
def State.lookup (s : State) (t : Nat) (k : Staged) (probe : Bool) : LRes :=
  if k.tok.rsvd then .done (s.refuseTok t k.tok 2)
  else
    let s := s.touchCtx t k.tok.ctx
    if !s.ctxOpen t k.tok.ctx then .done ((s.popOut t k.pop).refuseTok t k.tok 3)
    else match nodeKind k.tok.idx (s.gword t k.tok.idx) with
      | none => .done ((s.popOut t k.pop).refuseTok t k.tok 2)
      | some kind =>
        if kind.accepts k.tok.port k.tok.sticky then s.meetNode t k probe kind
        else .done ((s.popOut t k.pop).refuseTok t k.tok 2)

/-- The head of a class's input stage: mesh arrivals and local emissions alternate (02 R35). `true` in the answer: the local side. -/
def Tile.stageHead (x : Tile) (c : Nat) : Option (Staged × Bool) :=
  let m := tget x.inM [] c
  let l := tget x.inL [] c
  match m, l with
  | [], [] => none
  | a :: _, [] => some (a, false)
  | [], b :: _ => some (b, true)
  | a :: _, b :: _ => if x.turnL.contains c then some (b, true) else some (a, false)

/-- The head leaves its stage, and the other side has the next turn. -/
def Tile.stagePop (x : Tile) (c : Nat) (loc : Bool) : Tile :=
  let x := if loc then { x with inL := tput x.inL c (tget x.inL [] c).tail } else { x with inM := tput x.inM c (tget x.inM [] c).tail }
  { x with turnL := if loc then x.turnL.filter (· ≠ c) else c :: x.turnL.filter (· ≠ c),
           stallNoted := x.stallNoted.filter (· ≠ c), stalled := x.stalled.filter (· ≠ c) }

/-- The first class of a list whose stage holds a token that is not stalled enters lookup; stages found stalled are marked, with one fault token 0x0C at the first wait for room (02 R35, R42). -/
def State.lookupFrom (s : State) (t : Nat) : List Nat → State
  | [] => s
  | c :: r =>
    match (s.tile t).stageHead c with
    | none => s.lookupFrom t r
    | some (k, loc) =>
      let s1 := s.onTile t fun x => x.stagePop c loc
      match s1.lookup t k true with
      | .done s' => s'
      | .stall _ =>
        (s.onTile t fun x => { x with stalled := c :: x.stalled.filter (· ≠ c) }).lookupFrom t r
      | .full _ =>
        let s := if (s.tile t).stallNoted.contains c then s else
          (s.pushFault t (s.mkFault k.tok.tag (some k.tok) 0x0C 2 t (graphAddr t k.tok.idx))).onTile t
            fun x => { x with stallNoted := c :: x.stallNoted }
        (s.onTile t fun x => { x with stalled := c :: x.stalled.filter (· ≠ c) }).lookupFrom t r

/-- TOKEN_LOOKUP (02 R35, R36). -/
def execTokenLookup (dt : Nat) (t : Sys2Proof.TileId) (s : State) : Host.Outcome State Fault Refusal :=
  let s := s.advance dt
  .next (if s.frozen t.val then s else s.lookupFrom t.val [0, 1, 2, 3])

/-! ### Spill traffic (02 R39, R40) -/

/-- The oldest entry of the spill write buffer is written to its set's bucket (02 R39). -/
def State.drainOne (s : State) (t : Nat) : State :=
  let x := s.tile t
  match x.wbuf with
  | [] => s
  | e :: r => s.setTile t { x with wbuf := r, spill := tput x.spill e.set (putBlock e (tget x.spill [] e.set)) }

/-- SPILL_WRITE_BUFFER_DRAIN (02 R39). -/
def execSpillWriteBufferDrain (dt : Nat) (t : Sys2Proof.TileId) (s : State) : Host.Outcome State Fault Refusal :=
  .next ((s.advance dt).drainOne t.val)

/-- Tokens that joined a probe go back to the local side of their input stages, to be looked up again. -/
def State.rejoin (s : State) (t : Nat) (l : List Staged) : State :=
  s.onTile t fun x => l.foldl (fun y k => { y with inL := tput y.inL k.tok.cls (tget y.inL [] k.tok.cls ++ [{ k with again := true }]) }) x

/-- The ports that neither the store nor the probe has found yet. -/
def State.missing (s : State) (t : Nat) (k : Token) (found : List Entry) (need : List Nat) : List Nat :=
  need.filter fun p => (s.offerOf t k p).isNone && !(found.any fun e => e.port = p)

/-- A block of a probe's chain has been read (02 R40): partners in it are taken out; when all are found the node fires; at the end of the chain the token takes an entry. -/
def State.refill (s : State) (t i : Nat) : State :=
  let x := s.tile t
  match x.probes[i]? with
  | none => s
  | some p =>
    let k := p.first
    match nodeKind k.tok.idx (s.gword t k.tok.idx) with
    | none => s
    | some kind =>
      let need := kind.ports.filter fun q => q ≠ k.tok.port
      let others := x.probes.filter fun q => q ≠ p
      let chain := tget x.spill [] p.set
      let blk := (chain[p.block]?).getD []
      let hits := (s.missing t k.tok p.found need).filterMap fun q =>
        blk.find? fun e => e.tok.ctx = k.tok.ctx && e.tok.idx = k.tok.idx && e.tok.iter = k.tok.iter && e.port = q && !e.held
      let s := hits.foldl (fun s e => s.unspill t e) s
      let found := p.found ++ hits.map fun e => { e with tok := spilledTok e.tok }
      let back := fun (s : State) => s.onTile t fun y => { y with probes := others, ents := y.ents ++ found }
      if (s.missing t k.tok found need).isEmpty then
        if s.readyFull t (s.ctx k.tok.ctx).cls then s.onTile t fun y => { y with probes := { p with found := found } :: others }
        else
          let s := back s
          match s.offersOf t k.tok need with
          | some l => ((s.popOut t k.pop).complete t k.tok l).rejoin t p.joined
          | none => s
      else
        let nextBlk := if hits.isEmpty then p.block + 1 else p.block
        if nextBlk < (tget (s.tile t).spill [] p.set).length then
          s.onTile t fun y => { y with probes := others ++ [{ p with block := nextBlk, found := found }] }
        else
          let s := (back s).inc F.PROBES_EMPTY_COUNT t 0
          match s.takeEntry t k k.tok.port false with
          | .ok s => s.rejoin t p.joined
          | _ => s.rejoin t (k :: p.joined)

/-- REFILL (02 R40). -/
def execRefill (dt : Nat) (t : Sys2Proof.TileId) (i : Fin 64) (s : State) : Host.Outcome State Fault Refusal :=
  .next ((s.advance dt).refill t.val i.val)

/-! ### Opening and closing contexts (02 R50 to R52) -/

/-- Is the task work of the context that a close cancels? Wakes of existing threads are not (log 9). -/
def taskOfCtx (c : Nat) (k : Task) : Bool :=
  match k.kind with
  | .fire f => f.ctx = c
  | .spawn f => f.ctx = c
  | .timed f => f.ctx = c
  | _ => false

/-- Ready tasks of a context not yet dispatched are cancelled, each counted in ORPHANS (02 R52, 05 R127). -/
def State.cancelTasks (s : State) (t c : Nat) : State :=
  let x := s.tile t
  let n := ((x.ready ++ x.c0q).filter (taskOfCtx c)).length
  (s.setTile t { x with ready := x.ready.filter (fun k => !taskOfCtx c k), c0q := x.c0q.filter (fun k => !taskOfCtx c k) }).finc
    F.ORPHANS_COUNT t 0 n

/-- The tiles of a TILESET, ascending. -/
def tilesOf (set : Nat) : List Nat := (List.range 64).filter fun t => set.testBit t

/-- The reservation of a context returns on every tile (08 R189). -/
def State.unreserve (s : State) (c : Nat) : State :=
  let d := s.ctx c
  if d.cert ∧ d.parent = 0xFFFF then
    (tilesOf d.tileset).foldl (fun s t =>
      let s := s.fset F.ADMRES_RES t 0 (s.fget F.ADMRES_RES t 0 - d.popmax)
      if d.cls = 0 then s.fset F.ADMRES_C0RES t 0 (s.fget F.ADMRES_C0RES t 0 - d.popmax) else s) s
  else s

/-- The context becomes FREE when no acknowledgement is missing (02 R50). -/
def State.freeIfDone (s : State) (c : Nat) : State :=
  let d := s.ctx c
  if d.st = 2 ∧ d.acks = 0 then (s.unreserve c).setCtx c { d with st := 0, victim := 0 } else s

/-- The owning tile makes an OPEN context CLOSING, cancels its ready tasks and sends the closes (02 R50, R52). -/
def State.startClose (s : State) (c : Nat) (victim : Nat) : State :=
  let d := s.ctx c
  if d.st = 1 then
    let t := ctxOwner c
    let s := s.setCtx c { d with st := 2, acks := d.tileset, victim := victim }
    let s := s.onTile t fun x => { x with cache := x.cache.map fun e => if e.ctx = c then { e with closed := true } else e }
    let s := s.cancelTasks t c
    ((tilesOf d.tileset).foldl (fun s u => s.post (.close c u)) s).freeIfDone c
  else s

/-- FREE_NOTICE (02 R52): a second completed CTX_FREE changes nothing here; ORPHANS was counted where it ran. -/
def State.freeNotice (s : State) (c : Nat) : State :=
  match takeFirst (fun m => match m with | .freeNotice d _ => d = c | _ => false) s.ctl with
  | some (.freeNotice d t, r) =>
    let s := { s with ctl := r }
    if (s.ctx d).st = 1 then s.startClose d 0
    else if (s.ctx d).st = 2 then s.inc F.ORPHANS_COUNT t 0 else s
  | _ => s

/-- FREE_NOTICE (02 R52). -/
def execFreeNotice (c : Sys2Proof.CtxId) (s : State) : Host.Outcome State Fault Refusal := 
  .next (s.ctlAwake (ctxOwner c.val) (Ctl.isFreeOf c.val) fun s => s.freeNotice c.val)

/-- Everything a tile holds of a victim becomes a fault token in sweep order, of code 0x0D, or 0x11 for a recovery (08 R201, 14 R380). -/
def State.victimTokens (s : State) (t code : Nat) (l : List Token) : State :=
  l.foldl (fun s k => s.pushFault t (s.mkFault k.tag (some k) code 2 t (graphAddr t k.idx))) s

/-- The number of blocks the spill sweep reads (02 R52). -/
def Tile.sweepBlocks (x : Tile) (c : Nat) : Nat :=
  if x.ctxSpilled c = 0 then 0 else x.blocksUsed

/-- A delay-list entry of a firing of the context. -/
def timerOfCtx (c : Nat) (k : Timer) : Bool :=
  match k.what with
  | .firing f _ _ _ => f.ctx = c
  | _ => false

/-- A close reaches a tile (02 R52, 08 R195, R201). ORPHANS counts the spilled tokens too (DEDUCED from R201, log 71). -/
def State.closeAt (s : State) (c t : Nat) : State :=
  let d := s.ctx c
  let x := s.tile t
  let mine := fun (e : Entry) => e.tok.ctx = c
  let onchip := (x.ents ++ x.c0 ++ x.wbuf).filter mine
  let waiting := (x.probes.filter fun p => p.first.tok.ctx = c).flatMap fun p => p.first :: p.joined
  let found := (x.probes.filter fun p => p.first.tok.ctx = c).flatMap fun p => p.found
  let spilled := x.spill.flatMap fun p => p.2.flatMap fun b => b.filter mine
  let staged := (x.inM ++ x.inL).flatMap fun p => p.2.filter fun k => k.tok.ctx = c
  let endAt := s.now + max 64 (16 * x.sweepBlocks c)
  let again := fun (s : State) =>
    if x.thr.any fun h => h.ctx = c then s.reoffer t fun e => (s.throttleOf t e.tok.ctx e.tok.idx).isNone else s
  let pops := (onchip ++ found ++ spilled).map (fun e => e.pop) ++ waiting.map (fun k => k.pop)
  let x1 := { x with
    ents := x.ents.filter (fun e => !mine e), c0 := x.c0.filter (fun e => !mine e), wbuf := x.wbuf.filter (fun e => !mine e),
    stk := x.stk.filter (fun e => !mine e), probes := x.probes.filter (fun p => decide (p.first.tok.ctx ≠ c)),
    spill := x.spill.map (fun p => (p.1, (p.2.map (fun b => b.filter (fun e => !mine e))).filter (fun b => !b.isEmpty))),
    thr := x.thr.filter (fun h => h.ctx ≠ c), cache := x.cache.filter (fun e => e.ctx ≠ c),
    delay := x.delay.filter (fun k => !timerOfCtx c k),
    sweeps := x.sweeps ++ [⟨c, endAt⟩] }
  let s := s.setTile t x1
  let s := pops.foldl (fun s p => s.popOut t p) s
  let s := s.cancelTasks t c
  if d.victim ≠ 0 then
    let s := s.onTile t fun y => { y with
      inM := y.inM.map (fun p => (p.1, p.2.filter fun k => k.tok.ctx ≠ c)),
      inL := y.inL.map (fun p => (p.1, p.2.filter fun k => k.tok.ctx ≠ c)) }
    again <| s.victimTokens t d.victim (onchip.map (fun e => e.tok) ++ found.map (fun e => e.tok) ++ spilled.map (fun e => e.tok)
      ++ waiting.map (fun k => k.tok) ++ staged.map (fun k => k.tok))
  else again <| s.finc F.ORPHANS_COUNT t 0 (onchip.length + found.length + spilled.length + waiting.length)

/-- CONTEXT_CLOSE: the close to this tile arrives (02 R52). -/
def State.contextClose (s : State) (c t : Nat) : State :=
  match takeFirst (fun m => m = Ctl.close c t) s.ctl with
  | some (_, r) => { s with ctl := r }.closeAt c t
  | none => s

/-- CONTEXT_CLOSE (02 R52). -/
def execContextClose (dt : Nat) (c : Sys2Proof.CtxId) (t : Sys2Proof.TileId) (s : State) : Host.Outcome State Fault Refusal :=
  .next ((s.advance dt).ctlAwake t.val (fun m => m = Ctl.close c.val t.val) fun s => s.contextClose c.val t.val)

/-- The sweeps of a tile for a context have ended, and the tile acknowledges (02 R52). -/
def State.sweepEnd (s : State) (c t : Nat) : State :=
  let x := s.tile t
  match takeFirst (fun w => w.ctx = c && w.endAt ≤ s.now) x.sweeps with
  | some (_, r) => (s.setTile t { x with sweeps := r }).post (.closeAck c t)
  | none => s

/-- SWEEP_END (02 R52). -/
def execSweepEnd (dt : Nat) (c : Sys2Proof.CtxId) (t : Sys2Proof.TileId) (s : State) : Host.Outcome State Fault Refusal :=
  .next ((s.advance dt).sweepEnd c.val t.val)

/-- An acknowledgement arrives at the owning tile (02 R50). -/
def State.closeAck (s : State) (c t : Nat) : State :=
  match takeFirst (fun m => m = Ctl.closeAck c t) s.ctl with
  | some (_, r) =>
    let s := { s with ctl := r }
    let d := s.ctx c
    (s.setCtx c { d with acks := if d.acks.testBit t then d.acks - 2 ^ t else d.acks }).freeIfDone c
  | none => s

/-- CLOSE_ACK (02 R50). -/
def execCloseAck (c : Sys2Proof.CtxId) (t : Sys2Proof.TileId) (s : State) : Host.Outcome State Fault Refusal :=
  .next (s.ctlAwake (ctxOwner c.val) (fun m => m = Ctl.closeAck c.val t.val) fun s => s.closeAck c.val t.val)

end Sys2Proof.Machine
end

