-- ==== Sys2Proof/Machine/Operands.lean ====
section
/-! DEFINITION. The instruction word: its fields, the forms each opcode defines, the fields each form uses, and the immediate operand (06 R133 to R135, R147, R170). -/
namespace Sys2Proof.Machine

/-- RD. -/ def iRD (w : Word) : Nat := wbits w 49 5
/-- RA. -/ def iRA (w : Word) : Nat := wbits w 44 5
/-- RB. -/ def iRB (w : Word) : Nat := wbits w 39 5
/-- XC, in the place of RB. -/ def iXC (w : Word) : Nat := wbits w 39 5
/-- AM. -/ def iAM (w : Word) : Nat := wbits w 35 4
/-- IMM. -/ def iIMM (w : Word) : Nat := wbits w 0 35
/-- sext(IMM), as an integer. -/ def iSIMM (w : Word) : Int := sval 35 (iIMM w)

/-- Which forms an opcode defines (06 R134) and which fields its strand forms use: RD, RA, RB as a mask 4·RD + 2·RA + RB, the AM bits, and whether IMM is used in R form. -/
structure Shape where
  r : Bool
  i : Bool
  n : Bool
  c : Bool
  regs : Nat
  am : Nat
  imm : Bool
  deriving DecidableEq, Repr

/-- A shape from its forms as a mask R = 8, I = 4, N = 2, C = 1. -/
def shp (forms regs am : Nat) (imm : Bool) : Option Shape :=
  some ⟨forms.testBit 3, forms.testBit 2, forms.testBit 1, forms.testBit 0, regs, am, imm⟩

/-- Shapes of the integer and logic opcodes, 0x00 to 0x3F (06 R151, R152). -/
def shapeInt (op : Nat) : Option Shape :=
  if op = 0x01 ∨ op = 0x03 then shp 12 7 1 false
  else if op = 0x06 ∨ op = 0x07 ∨ op = 0x0E ∨ op = 0x1F then shp 10 6 1 false
  else if op = 0x0F then shp 15 6 1 false
  else if op ≤ 0x17 then shp 15 7 1 false
  else if op ≤ 0x1A then shp 15 3 1 false
  else if op ≤ 0x1E then shp 15 7 1 false
  else if op = 0x20 ∨ op = 0x21 then shp 15 3 0 false
  else if op = 0x22 ∨ op = 0x23 then shp 12 3 0 false
  else if op = 0x24 then shp 15 7 1 false
  else if op = 0x25 ∨ op = 0x26 then shp 8 4 0 false
  else if op = 0x27 then shp 8 3 0 false
  else if 0x28 ≤ op ∧ op ≤ 0x2B then shp 8 7 0 false
  else if op = 0x2C then shp 8 2 0 false
  else if op = 0x2D ∨ op = 0x2E then shp 8 4 0 false
  else if 0x30 ≤ op ∧ op ≤ 0x32 then shp 10 6 1 false
  else if op = 0x33 ∨ op = 0x34 ∨ op = 0x37 ∨ op = 0x38 then shp 11 6 1 true
  else if op = 0x35 then shp 8 6 1 true
  else if op = 0x36 then shp 10 6 1 false
  else if op = 0x39 then shp 11 4 0 true
  else none

/-- Shapes of the memory and branch opcodes, 0x40 to 0x7F (06 R154, R156). -/
def shapeMem (op : Nat) : Option Shape :=
  if op ≤ 0x46 then shp 15 7 15 true
  else if 0x48 ≤ op ∧ op ≤ 0x4B then shp 14 7 15 true
  else if op = 0x4C ∨ op = 0x4D then shp 15 7 15 true
  else if op = 0x4E ∨ op = 0x4F then shp 12 7 15 true
  else if op = 0x50 ∨ op = 0x51 then shp 10 7 15 true
  else if op = 0x52 then shp 8 3 15 true
  else if op = 0x53 then shp 15 7 15 true
  else if op = 0x60 then shp 8 4 0 true
  else if op = 0x61 ∨ op = 0x62 then shp 8 2 0 true
  else if op = 0x63 then shp 8 4 0 true
  else if op = 0x64 then shp 8 2 0 false
  else if op = 0x65 then shp 12 6 0 true
  else if op = 0x66 then shp 8 7 1 false
  else if op = 0x67 ∨ op = 0x68 then shp 8 0 0 false
  else none

/-- Shapes of the floating-point opcodes, 0x80 to 0x9F (06 R157). -/
def shapeFp (op : Nat) : Option Shape :=
  if op ≤ 0x83 then shp 11 7 15 false
  else if op = 0x84 then shp 10 6 15 false
  else if op = 0x85 then shp 10 7 15 false
  else if op = 0x86 ∨ op = 0x87 then shp 11 7 15 false
  else if op = 0x88 ∨ op = 0x89 then shp 10 6 15 false
  else if op = 0x8A then shp 11 3 15 false
  else if op ≤ 0x8F then shp 10 6 15 false
  else if op = 0x90 then shp 8 6 15 false
  else if op = 0x91 ∨ op = 0x92 then shp 8 6 0 false
  else if op = 0x93 then shp 10 6 15 false
  else none

/-- Shapes of the remaining opcodes, 0xA0 to 0xFF (06 R158 to R165). -/
def shapeRest (op : Nat) : Option Shape :=
  if op ≤ 0xA2 then shp 15 7 3 false
  else if op ≤ 0xA7 then shp 10 6 0 false
  else if op = 0xA8 ∨ op = 0xA9 then shp 10 7 0 false
  else if op = 0xB0 then shp 8 6 3 false
  else if op = 0xB1 then shp 8 6 0 false
  else if op = 0xB2 ∨ op = 0xB3 then shp 3 0 0 false
  else if op = 0xB4 ∨ op = 0xBA ∨ op = 0xBD then shp 2 0 0 false
  else if op = 0xB5 then shp 10 3 0 false
  else if op = 0xB6 ∨ op = 0xB7 then shp 8 6 0 false
  else if op = 0xB8 then shp 8 7 0 false
  else if op = 0xB9 then shp 8 1 0 false
  else if op = 0xBB then shp 10 6 1 false
  else if op = 0xBC then shp 8 6 0 false
  else if op = 0xC0 then shp 8 0 15 false
  else if op = 0xC1 ∨ op = 0xC2 ∨ op = 0xC3 then shp 8 6 0 false
  else if op = 0xC4 then shp 8 7 0 false
  else if op = 0xC5 then shp 8 4 0 false
  else if op = 0xC6 then shp 8 2 0 false
  else if op = 0xC7 then shp 8 4 0 true
  else if op = 0xC8 then shp 8 2 0 true
  else if op = 0xC9 then shp 8 0 0 true
  else if op = 0xCA then shp 10 0 0 false
  else if op = 0xD0 ∨ op = 0xD1 then shp 11 7 0 false
  else if op = 0xD2 then shp 10 7 3 false
  else if op = 0xD3 then shp 10 7 15 true
  else if op = 0xD4 then shp 10 7 15 true
  else if 0xE0 ≤ op ∧ op ≤ 0xEF then shp 15 7 0 false
  else none

/-- The shape of an opcode; none where the opcode map has a dash (06 R170). -/
def shapeOf (op : Nat) : Option Shape :=
  if op < 0x40 then shapeInt op else if op < 0x80 then shapeMem op
  else if op < 0xA0 then (if 0x80 ≤ op then shapeFp op else none) else shapeRest op

/-- Is an opcode defined in the form that MODE names (06 R134)? -/
def formDefined (op mode : Nat) : Bool :=
  match shapeOf op with
  | none => false
  | some h => match mode with | 0 => h.r | 1 => h.i | 2 => h.n | _ => h.c

/-- Do the fields that a strand form does not use hold 0 (06 R135)? In I form XC stands for RB and IMM is the operand's. -/
def unusedZero (op : Nat) (w : Word) : Bool :=
  match shapeOf op with
  | none => false
  | some h =>
    let im := nMode w = 1
    let mov := op = 0x0F && im
    (h.regs.testBit 2 || iRD w = 0) && ((h.regs.testBit 1 && !mov) || iRA w = 0) && (im || h.regs.testBit 0 || iRB w = 0) &&
    decide (iAM w &&& (15 - h.am) = 0) && (im || h.imm || iIMM w = 0)

/-- A decoded strand instruction: its word, its PC, whether it is in immediate form, the immediate operand, and how many words it takes. -/
structure Ins where
  w : Word
  pc : Nat
  im : Bool
  iv : Word
  len : Nat
  deriving DecidableEq, Repr

/-- The opcode. -/ def Ins.op (o : Ins) : Nat := nOpc o.w

/-- Decode of the word at a thread's PC (06 R134, R135, R137): the instruction, or the fault of the first check that fails. A LOOP in I form uses XC 0 and its own IMM (R149). -/
def State.decode (s : State) (c pc : Nat) : Except Nat Ins :=
  let w := s.gword c pc
  let op := nOpc w
  if !formDefined op (nMode w) || 2 ≤ nMode w then .error 1
  else if !unusedZero op w then .error 2
  else if nMode w = 0 then .ok ⟨w, pc, false, 0, 1⟩
  else if op = 0x65 then (if iXC w = 0 then .ok ⟨w, pc, true, 0, 1⟩ else .error 2)
  else if iXC w = 0 then .ok ⟨w, pc, true, sext64 35 (iIMM w), 1⟩
  else if iXC w = 1 then
    if iIMM w ≠ 0 then .error 2
    else if 16383 ≤ pc then .error 3
    else .ok ⟨w, pc, true, s.gword c (pc + 1), 2⟩
  else .error 2

/-- Operand a: RA. -/
def Ins.a (o : Ins) (x : Thread) : Word := x.getW (iRA o.w)

/-- Operand b: RB, or I in immediate form. -/
def Ins.b (o : Ins) (x : Thread) : Word := if o.im then o.iv else x.getW (iRB o.w)

/-- Operand c: the old value of RD. -/
def Ins.c (o : Ins) (x : Thread) : Word := x.getW (iRD o.w)

/-- Does the instruction set flags (06 R141)? -/
def Ins.s (o : Ins) : Bool := bit (iAM o.w) 0

/-- The branch target PC + sext(IMM) (06 R148). -/
def Ins.target (o : Ins) : Int := (o.pc : Int) + iSIMM o.w

/-- Is a target a graph word (05 R119)? -/
def inGraph (z : Int) : Bool := decide (0 ≤ z) && decide (z ≤ 16383)

/-- Occupancy of an opcode with P, and with NROWS of a custom opcode (06 R147). -/
def occupancy (op : Nat) (p : Bool) (nrows : Nat) : Nat :=
  if op = 0x83 ∨ op = 0x84 then (if p then 6 else 4) else if 0xE0 ≤ op ∧ op ≤ 0xEF then max 1 nrows else 1

end Sys2Proof.Machine
end

