-- ==== Sys2Proof/Machine/Flags.lean ====
section
/-! DEFINITION. The flags register FL and the conditions over it (06 R139, R142; 07 R171). -/
namespace Sys2Proof.Machine

/-- N. -/ def flN (f : Word) : Bool := f.getLsbD 0
/-- Z. -/ def flZ (f : Word) : Bool := f.getLsbD 1
/-- C. -/ def flC (f : Word) : Bool := f.getLsbD 2
/-- V. -/ def flV (f : Word) : Bool := f.getLsbD 3
/-- DZ. -/ def flDZ (f : Word) : Bool := f.getLsbD 4
/-- CT. -/ def flCT (f : Word) : Bool := f.getLsbD 8
/-- DZE. -/ def flDZE (f : Word) : Bool := f.getLsbD 9
/-- The five trap enables, IV first. -/ def flEn (f : Word) : Nat := wbits f 16 5
/-- The five sticky flags, IV first. -/ def flSticky (f : Word) : Nat := wbits f 24 5
/-- RM. -/ def flRM (f : Word) : Nat := wbits f 32 3

/-- One bit of FL set to a value. -/
def setFlag (f : Word) (k : Nat) (b : Bool) : Word := wset f k 1 (b2n b)

/-- One bit of FL set where a value is given. -/
def optFlag (f : Word) (k : Nat) : Option Bool → Word
  | none => f
  | some b => setFlag f k b

/-- FL with the arithmetic flags of a result: each flag given is set, the others keep their value (06 R141). -/
def applyFlags (f : Word) (n z c v : Option Bool) : Word :=
  optFlag (optFlag (optFlag (optFlag f 0 n) 1 z) 2 c) 3 v

/-- The condition codes over a flags value (06 R142). -/
def condHolds (cond : Nat) (f : Word) : Bool :=
  match cond with
  | 0x0 => true
  | 0x1 => flZ f
  | 0x2 => !flZ f
  | 0x3 => flN f != flV f
  | 0x4 => flN f == flV f
  | 0x5 => flZ f || flN f != flV f
  | 0x6 => !flZ f && flN f == flV f
  | 0x7 => !flC f
  | 0x8 => flC f
  | 0x9 => !flC f || flZ f
  | 0xA => flC f && !flZ f
  | 0xB => flN f
  | 0xC => !flN f
  | 0xD => flV f
  | 0xE => !flV f
  | _ => flDZ f

/-- Would an MTSR place a value in a reserved field of FL, or a reserved RM (06 R140)? -/
def flReserved (v : Word) : Bool :=
  wbits v 5 3 ≠ 0 || wbits v 10 6 ≠ 0 || wbits v 21 3 ≠ 0 || wbits v 29 3 ≠ 0 || wbits v 35 29 ≠ 0 || decide (4 < flRM v)

/-- FL of a forked child: CT, the floating-point enables and RM of the parent (05 R123). -/
def childFl (f : Word) : Word := wd (b2n (flCT f) * 2 ^ 8 + flEn f * 2 ^ 16 + flRM f * 2 ^ 32)

end Sys2Proof.Machine
end

