-- ==== Sys2Proof/Machine/Alu.lean ====
section
/-! DEFINITION. Integer, logic, shift, multiply, division, bit-field, CRC, parity and MISR operations, for both execution forms (06 R151 to R153, R158; 07 R171 to R177). -/
namespace Sys2Proof.Machine

/-- The result of an integer operation: the value, a second result, and the flags it gives. -/
structure IRes where
  d : Word
  aux : Option Word
  n : Option Bool
  z : Option Bool
  c : Option Bool
  v : Option Bool
  fault : Option Nat
  deriving DecidableEq, Repr

/-- Does a signed value lie outside `w` bits? -/
def outside (w : Nat) (x : Int) : Bool := decide (x < -(2 ^ (w - 1) : Nat)) || decide (((2 ^ (w - 1) : Nat) : Int) ≤ x)

/-- A `w`-bit result sign-extended to 64 bits, with N and Z of it and the C and V given (R141, R171). -/
def iresW (w r : Nat) (c v : Option Bool) : IRes :=
  ⟨sext64 w r, none, some (r.testBit (w - 1)), some (r % 2 ^ w = 0), c, v, none⟩

/-- a + b + cin on `w` bits (R171). -/
def addOp (w a b cin : Nat) : IRes :=
  let a := a % 2 ^ w
  let b := b % 2 ^ w
  iresW w ((a + b + cin) % 2 ^ w) (some (2 ^ w ≤ a + b + cin)) (some (outside w (sval w a + sval w b + cin)))

/-- a − b − bin on `w` bits (R171). -/
def subOp (w a b bin : Nat) : IRes :=
  let a := a % 2 ^ w
  let b := b % 2 ^ w
  iresW w (trunc w ((a : Int) - b - bin)) (some (b + bin ≤ a)) (some (outside w (sval w a - sval w b - bin)))

/-- Fault 0x0A when the operation's V is 1 (R173). -/
def IRes.trapV (r : IRes) : IRes := if r.v = some true then { r with fault := some 0x0A } else r

/-- A logic result: N and Z, with C and V unchanged. -/
def logic (d : Word) : IRes := iresW 64 d.toNat none none

/-- The C of a left shift (R174). -/
def lslC (w a s : Nat) : Option Bool :=
  if s = 0 then none else if s < w then some (a.testBit (w - s)) else if s = w then some (a.testBit 0) else some false

/-- Shifts of the low `w` bits of a by the whole of b (R174): kind 0 LSL, 1 LSR, 2 ASR, 3 ROR. -/
def shiftOp (w kind a s : Nat) : IRes :=
  let a := a % 2 ^ w
  let top := a.testBit (w - 1)
  let ones := if top then 2 ^ w - 1 else 0
  match kind with
  | 0 => iresW w (if s < w then a * 2 ^ s % 2 ^ w else 0) (lslC w a s) none
  | 1 => iresW w (if s < w then a / 2 ^ s else 0)
      (if s = 0 then none else if s < w then some (a.testBit (s - 1)) else if s = w then some top else some false) none
  | 2 => iresW w (if s < w then trunc w (sval w a / ((2 ^ s : Nat) : Int)) else ones)
      (if s = 0 then none else if s < w then some (a.testBit (s - 1)) else some top) none
  | _ =>
    let k := s % w
    let d := (a / 2 ^ k + a * 2 ^ (w - k)) % 2 ^ w
    iresW w d (if s = 0 then none else some (d.testBit (w - 1))) none

/-- Number of bits below the leading one, plus one; 0 for 0. -/
def bitLen (n : Nat) : Nat := if n = 0 then 0 else Nat.log2 n + 1

/-- Ones among the low `k` bits. -/
def ones (n : Nat) : Nat → Nat
  | 0 => 0
  | k + 1 => ones n k + b2n (n.testBit k)

/-- The low `k` bits in reverse order. -/
def revBits (n : Nat) : Nat → Nat
  | 0 => 0
  | k + 1 => n % 2 * 2 ^ k + revBits (n / 2) k

/-- The signed value of a word. -/
def sgn (w : Word) : Int := sval 64 w.toNat

/-- MUL: the low 64 bits, N, Z and V of the signed product (R175). -/
def mulOp (a b : Word) : IRes :=
  iresW 64 (a.toNat * b.toNat % 2 ^ 64) none (some (outside 64 (sgn a * sgn b)))

/-- The 128-bit product, unsigned or signed, modulo 2^128 (R175). -/
def prod (signed : Bool) (a b : Word) : Nat := if signed then trunc 128 (sgn a * sgn b) else a.toNat * b.toNat

/-- A field of a word by pos and len − 1 at [5:0] and [11:6] (R152); none when pos + len > 64. -/
def fieldSel (k : Nat) : Option (Nat × Nat) :=
  let pos := bits k 0 6
  let len := bits k 6 6 + 1
  if 64 < pos + len then none else some (pos, len)

/-- The width code of SXT and ZXT (R152). -/
def extWidth (k : Nat) : Option Nat :=
  match k with | 0 => some 8 | 1 => some 16 | 2 => some 32 | _ => none

/-- A result that carries only a fault. -/
def ifault (code : Nat) : IRes := ⟨0, none, none, none, none, none, some code⟩

/-- A value that sets no flag. -/
def plain (d : Word) : IRes := ⟨d, none, none, none, none, none, none⟩

/-- The integer and logic operations of R151 that need only a, b and the carry; EXT, EXTU, SXT and ZXT take their operand field from b. -/
def intOp (op : Nat) (a b : Word) (cin : Bool) : IRes :=
  match op with
  | 0x00 => addOp 64 a.toNat b.toNat 0
  | 0x01 => addOp 64 a.toNat b.toNat (b2n cin)
  | 0x02 => subOp 64 a.toNat b.toNat 0
  | 0x03 => subOp 64 a.toNat b.toNat (1 - b2n cin)
  | 0x04 => (addOp 64 a.toNat b.toNat 0).trapV
  | 0x05 => (subOp 64 a.toNat b.toNat 0).trapV
  | 0x06 => subOp 64 0 a.toNat 0
  | 0x07 => (subOp 64 0 a.toNat 0).trapV
  | 0x08 => logic (a &&& b)
  | 0x09 => logic (a ||| b)
  | 0x0A => logic (a ^^^ b)
  | 0x0B => logic (a &&& ~~~b)
  | 0x0C => logic (a ||| ~~~b)
  | 0x0D => logic (~~~(a ^^^ b))
  | 0x0E => logic (~~~a)
  | 0x0F => logic b
  | 0x10 => shiftOp 64 0 a.toNat b.toNat
  | 0x11 => shiftOp 64 1 a.toNat b.toNat
  | 0x12 => shiftOp 64 2 a.toNat b.toNat
  | 0x13 => shiftOp 64 3 a.toNat b.toNat
  | 0x14 => shiftOp 32 0 a.toNat b.toNat
  | 0x15 => shiftOp 32 1 a.toNat b.toNat
  | 0x16 => shiftOp 32 2 a.toNat b.toNat
  | 0x17 => shiftOp 32 3 a.toNat b.toNat
  | 0x18 => subOp 64 a.toNat b.toNat 0
  | 0x19 => subOp 32 a.toNat b.toNat 0
  | 0x1A => logic (a &&& b)
  | 0x1B => logic (if sgn a ≤ sgn b then a else b)
  | 0x1C => logic (if sgn a ≤ sgn b then b else a)
  | 0x1D => logic (if a.toNat ≤ b.toNat then a else b)
  | 0x1E => logic (if a.toNat ≤ b.toNat then b else a)
  | 0x1F =>
    let r := if sgn a < 0 then subOp 64 0 a.toNat 0 else logic a
    { r with c := none, v := some (a.toNat = 2 ^ 63) }
  | 0x20 => let p := prod false a b; ⟨wd p, some (wd (p / 2 ^ 64)), none, none, none, none, none⟩
  | 0x21 => let p := prod true a b; ⟨wd p, some (wd (p / 2 ^ 64)), none, none, none, none, none⟩
  | 0x24 => mulOp a b
  | 0x30 => logic (wd (64 - bitLen a.toNat))
  | 0x31 => logic (wd (lowBit a.toNat 64))
  | 0x32 => logic (wd (ones a.toNat 64))
  | 0x33 => match fieldSel b.toNat with
    | some (pos, len) => logic (sext64 len (bits a.toNat pos len))
    | none => ifault 2
  | 0x34 => match fieldSel b.toNat with
    | some (pos, len) => logic (wd (bits a.toNat pos len))
    | none => ifault 2
  | 0x36 => logic (wd (ofBytes (toBytes 8 a.toNat).reverse))
  | 0x37 => match extWidth (wbits b 0 2) with
    | some w => logic (sext64 w a.toNat)
    | none => ifault 2
  | 0x38 => match extWidth (wbits b 0 2) with
    | some w => logic (wd (a.toNat % 2 ^ w))
    | none => ifault 2
  | _ => plain 0

/-- INS: bits [pos+len−1:pos] of c replaced by the low bits of a (R151, R152). -/
def insOp (a c : Word) (k : Nat) : IRes :=
  match fieldSel k with
  | some (pos, len) => logic (wset c pos len a.toNat)
  | none => ifault 2

/-- A flags value in the layout of FL bits [4:0] (R141). -/
def flagsVal (r : IRes) : Word :=
  wd (b2n (r.n.getD false) + b2n (r.z.getD false) * 2 + b2n (r.c.getD false) * 4 + b2n (r.v.getD false) * 8)

/-! ### CRC, parity and MISR (06 R158) -/

/-- One reflected CRC step per bit. -/
def crcBits (p s : Nat) : Nat → Nat
  | 0 => s
  | j + 1 => crcBits p (if s.testBit 0 then s / 2 ^^^ p else s / 2) j

/-- The reflected CRCs over the low `n` bytes of b, byte 0 first. -/
def crcRefl (p s b : Nat) : Nat → Nat
  | 0 => s
  | n + 1 => crcRefl p (crcBits p (s ^^^ b % 256) 8) (b / 256) n

/-- One CRC-16 step per bit, most significant first. -/
def crc16Bits (s : Nat) : Nat → Nat
  | 0 => s
  | j + 1 => crc16Bits (if s.testBit 15 then (s * 2 ^^^ 0x1021) % 65536 else s * 2 % 65536) j

/-- CRC-16 over the low `n` bytes of b, byte 0 first. -/
def crc16 (s b : Nat) : Nat → Nat
  | 0 => s
  | n + 1 => crc16 (crc16Bits (s ^^^ b % 256 * 256) 8) (b / 256) n

/-- CRC32C, CRC32 and CRC16 with the byte count code (R158). -/
def crcOp (op : Nat) (a b : Word) (code : Nat) : Word :=
  let n := 2 ^ code
  match op with
  | 0xA0 => wd (crcRefl 0x82F63B78 (a.toNat % 2 ^ 32) b.toNat n)
  | 0xA1 => wd (crcRefl 0xEDB88320 (a.toNat % 2 ^ 32) b.toNat n)
  | _ => wd (crc16 (a.toNat % 2 ^ 16) b.toNat n)

/-- PAR, PARB, BREV, BREVW and BREVB (R158). -/
def bitOp (op : Nat) (a : Word) : Word :=
  let n := a.toNat
  match op with
  | 0xA3 => wd (ones n 64 % 2)
  | 0xA4 => wd ((List.range 8).foldl (fun d k => d + ones (n / 256 ^ k % 256) 8 % 2 * 2 ^ k) 0)
  | 0xA5 => wd (revBits n 64)
  | 0xA6 => wd (revBits (n % 2 ^ 32) 32)
  | _ => wd ((List.range 8).foldl (fun d k => d + revBits (n / 256 ^ k % 256) 8 * 256 ^ k) 0)

/-- A MISR step on `w` bits: state, data, polynomial (R158). -/
def misr (w : Nat) (c a b : Word) : Word :=
  let s := c.toNat % 2 ^ w
  let t := s * 2 % 2 ^ w
  let t := if s.testBit (w - 1) then t ^^^ (b.toNat % 2 ^ w) else t
  wd (t ^^^ (a.toNat % 2 ^ w))

/-! ### Division (06 R153, 07 R176, R177) -/

/-- What a DSET form writes: RD, PH, PL and FL. -/
structure DSet where
  rd : Word
  ph : Word
  pl : Word
  fl : Word
  deriving DecidableEq, Repr

/-- The four DSET forms: `w` 64 or 32, signed or not. -/
def dset (w : Nat) (signed : Bool) (a b fl : Word) : DSet :=
  let av : Int := if signed then sval w a.toNat else ((a.toNat % 2 ^ w : Nat) : Int)
  let bv : Int := if signed then sval w b.toNat else ((b.toNat % 2 ^ w : Nat) : Int)
  let an := decide (av < 0)
  let bn := decide (bv < 0)
  let zero := decide (bv = 0)
  let edge := signed && decide (a.toNat % 2 ^ w = 2 ^ (w - 1)) && decide (bv = -1)
  let f := setFlag (setFlag (setFlag (setFlag fl 0 an) 2 (an != bn)) 3 (zero || edge)) 4 zero
  ⟨wd bv.natAbs, 0, wd (if w = 32 then av.natAbs * 2 ^ 32 else av.natAbs), f⟩

/-- One DSTEP on PH, PL with the divisor: (PH, PL). -/
def dstep (ph pl d : Word) : Word × Word :=
  let r := ph.toNat * 2 + b2n (pl.getLsbD 63)
  let p := pl.toNat * 2 % 2 ^ 64
  if d ≠ 0 ∧ d.toNat ≤ r then (wd (r - d.toNat), wd (p + 1)) else (wd r, wd p)

/-- DFIN and DFINW: RD, PH, PL, FL. -/
def dfin (w : Nat) (ph pl fl : Word) : DSet :=
  let q := if flC fl then trunc 64 (-(pl.toNat : Int)) else pl.toNat
  let rem := if flN fl then trunc 64 (-(ph.toNat : Int)) else ph.toNat
  let f := setFlag (setFlag (setFlag fl 0 (q.testBit (w - 1))) 1 (q % 2 ^ w = 0)) 2 false
  ⟨sext64 w q, sext64 w rem, sext64 w q, f⟩

end Sys2Proof.Machine
end

