-- ==== Sys2Proof/Machine/DTable.lean ====
section
/-! DEFINITION. The decode table of the custom opcodes: layout, validation and execution (06 R165 to R169). -/
namespace Sys2Proof.Machine

/-- UOP. -/ def uUOP (m : Nat) : Nat := bits m 26 6
/-- DSEL. -/ def uDSEL (m : Nat) : Nat := bits m 21 5
/-- SA. -/ def uSA (m : Nat) : Nat := bits m 16 5
/-- SB. -/ def uSB (m : Nat) : Nat := bits m 11 5
/-- K. -/ def uK (m : Nat) : Nat := bits m 0 11

/-- The 32-bit or 64-bit little-endian word at a byte position of an image. -/
def imgWord (img : List Byte) (at_ n : Nat) : Nat := ofBytes ((img.drop at_).take n)

/-- The header of entry e: 136 bytes each (R166). -/
def dtHeader (img : List Byte) (e : Nat) : Nat := imgWord img (136 * e) 8

/-- Row r, slot k of entry e (R166). -/
def dtSlot (img : List Byte) (e r k : Nat) : Nat := imgWord img (136 * e + 8 + 32 * r + 4 * k) 4

/-- NROWS of a custom opcode X0 to X15. -/
def dtRows (img : List Byte) (e : Nat) : Nat := bits (dtHeader img e) 0 3

/-- The active decode table (R169 DTSTAT.BANK). -/
def State.dtActive (s : State) : List Byte := if s.fget F.DTSTAT_BANK 0 0 = 0 then s.dtabA else s.dtabB

/-- One-source micro-operations (R168). -/
def uOneSource (u : Nat) : Bool := (0x12 ≤ u && u ≤ 0x16) || (0x18 ≤ u && u ≤ 0x1A)

/-- Does a micro-operation use K as a position and length? -/
def uField (u : Nat) : Bool := 0x18 ≤ u && u ≤ 0x1A

/-- Is a micro-operation legal (R166 to R168)? -/
def uopOk (m : Nat) : Bool :=
  let u := uUOP m
  if u = 0 then m = 0
  else decide (u ≤ 0x1A) && decide (uDSEL m ≤ 17) && decide (uSA m ≤ 20) && decide (uSB m ≤ 20) &&
    (!uOneSource u || uSB m = 0) && (!uOneSource u || uField u || uK m = 0) &&
    (!uField u || decide (uK m % 64 + uK m / 64 + 1 ≤ 64))

/-- The destinations written in a row, without NOP slots. -/
def rowDests (l : List Nat) : List Nat := (l.filter fun m => uUOP m ≠ 0).map uDSEL

/-- The slots of a row. -/
def dtRow (img : List Byte) (e r : Nat) : List Nat := (List.range 8).map fun k => dtSlot img e r k

/-- Is entry e valid (R166)? -/
def dtEntryOk (img : List Byte) (e : Nat) : Bool :=
  let n := dtRows img e
  decide (n ≤ 4) && decide (dtHeader img e / 8 = 0) &&
  (List.range 4).all fun r =>
    let row := dtRow img e r
    if n ≤ r then row.all (· == 0)
    else row.all uopOk && decide ((rowDests row).eraseDups.length = (rowDests row).length)

/-- Is an image valid as a whole (R166)? -/
def dtValid (img : List Byte) : Bool := decide (img.length = 2176) && (List.range 16).all fun e => dtEntryOk img e

/-- The temporaries and results of a custom opcode: t0 to t15 by number, 16 RES0, 17 RES1 (none until written). -/
structure DtState where
  t : Tab Nat Word
  res1 : Option Word
  deriving DecidableEq, Repr

/-- The value a selector names (R167). -/
def DtState.sel (d : DtState) (a b c : Word) (k m : Nat) : Word :=
  if k < 16 then tget d.t 0 k
  else match k with
    | 16 => a
    | 17 => b
    | 18 => c
    | 19 => sext64 11 (uK m)
    | _ => 0

/-- The value of the destination before the row. -/
def DtState.old (d : DtState) (k : Nat) : Word := if k = 17 then d.res1.getD 0 else tget d.t 0 k

/-- The result of a micro-operation (R168). -/
def uopVal (u k : Nat) (a b d : Word) : Word :=
  let sh := b.toNat % 64
  let pos := k % 64
  let len := k / 64 + 1
  match u with
  | 0x01 => a + b
  | 0x02 => a - b
  | 0x03 => a &&& b
  | 0x04 => a ||| b
  | 0x05 => a ^^^ b
  | 0x06 => a &&& ~~~b
  | 0x07 => wd (a.toNat * 2 ^ sh)
  | 0x08 => wd (a.toNat / 2 ^ sh)
  | 0x09 => (shiftOp 64 2 a.toNat sh).d
  | 0x0A => (shiftOp 64 3 a.toNat sh).d
  | 0x0B => wd (a.toNat * b.toNat)
  | 0x0C => wd (prod false a b / 2 ^ 64)
  | 0x0D => wd (prod true a b / 2 ^ 64)
  | 0x0E => if a = b then 1 else 0
  | 0x0F => if a.toNat < b.toNat then 1 else 0
  | 0x10 => if sgn a < sgn b then 1 else 0
  | 0x11 => if a ≠ 0 then b else d
  | 0x12 => wd (ones a.toNat 64)
  | 0x13 => wd (64 - bitLen a.toNat)
  | 0x14 => bitOp 0xA5 a
  | 0x15 => (intOp 0x36 a 0 false).d
  | 0x16 => bitOp 0xA3 a
  | 0x17 => crcOp 0xA0 a b 3
  | 0x18 => wd (bits a.toNat pos len)
  | 0x19 => sext64 len (bits a.toNat pos len)
  | _ => wset d pos len a.toNat

/-- One row: every slot on the values held before it, then the writes (R165). -/
def dtRunRow (row : List Nat) (a b c : Word) (d : DtState) : DtState :=
  (row.filter fun m => uUOP m ≠ 0).foldl (fun e m =>
    let k := uDSEL m
    let v := uopVal (uUOP m) (uK m) (d.sel a b c (uSA m) m) (d.sel a b c (uSB m) m) (d.old k)
    if k = 17 then { e with res1 := some v } else { e with t := tput e.t k v }) d

/-- A custom opcode's results: RES0, and RES1 when written (R165). -/
def dtRun (img : List Byte) (e : Nat) (a b c : Word) : Word × Option Word :=
  let d := (List.range (dtRows img e)).foldl (fun d r => dtRunRow (dtRow img e r) a b c d) ⟨[], none⟩
  (tget d.t 0 16, d.res1)

end Sys2Proof.Machine
end

