-- ==== Sys2Proof/Machine/Lanes.lean ====
section
/-! DEFINITION. Ordered lanes: allocation, credits, the window's cases, the gap timer and the lane states (03 R55 to R73). The release to a sink is in Release.lean. -/
namespace Sys2Proof.Machine

/-- Outcome of a register write: performed, or refused for a cause of 00 R402 (1 right, 2 reserved, 3 state, 4 own rule), with an Aklofy abort code where a rule names its own. -/
inductive WRes where
  | ok (s : State)
  | refuse (cause : Nat) (abort : Option Nat)
  deriving DecidableEq, Repr

/-- W of a lane: WINM1 + 1 (03 R59, R68). -/
def State.laneW (s : State) (l : Nat) : Nat := s.fget F.LANECFG_WINM1 0 l + 1

/-- Outcome of an allocation. -/
inductive AllocRes where
  | num (n : Nat) (s : State)
  | wait
  | fails
  deriving DecidableEq, Repr

/-- The next number of an ACTIVE lane, with credit: NEXT increments, CREDIT decrements and NEXT is reported to the window (03 R55, R71). -/
def State.laneTake (s : State) (l : Nat) : Nat × State :=
  let x := s.lane l
  (x.next, (s.setLane l { x with next := (x.next + 1) % 2 ^ 24, credit := x.credit - 1 }).post (.snext l ((x.next + 1) % 2 ^ 24)))

/-- A thread or firing of core `c` allocates for a lane (03 R55, R62). -/
def State.laneAlloc (s : State) (c l : Nat) : AllocRes :=
  if s.fget F.LANECFG_SRCK 0 l ≠ 1 ∨ s.fget F.LANECFG_SRC 0 l ≠ c ∨ 64 ≤ c ∨ (s.lane l).st ≠ .active then .fails
  else if (s.lane l).credit = 0 then .wait
  else let (n, s) := s.laneTake l; .num n s

/-- The tile beside a lane's window, if any (03 R58). -/
def State.laneTile (s : State) (l : Nat) : Option Nat :=
  if 13 ≤ s.laneSlice l then some (s.laneSlice l - 13) else none

/-- A fault token of a lane window goes to FTILE with SRC 0x3 (03 R60, 05 R129). -/
def State.laneFault (s : State) (l : Nat) (tag : Word) (k : Option Token) (code : Nat) : State :=
  let ft := s.fget F.LANEGAP_FTILE 0 l
  let at_ := s.laneTile l
  s.sendFault at_ ft (s.mkFault tag k code 3 (at_.getD ft) 0)

/-- The token the window holds for a number. -/
def Lane.held? (x : Lane) (seq : Nat) : Option Token := (x.win.find? fun p => p.1 = seq).map fun p => p.2

/-- The gap timer after a change of HEAD or of the window: it runs while HEAD is absent and tokens are held (03 R63). -/
def Lane.gapNow (x : Lane) (now : Nat) (restart : Bool) : Lane :=
  if (x.held? x.head).isSome ∨ x.win = [] then { x with gap := none }
  else if x.gap.isNone ∨ restart then { x with gap := some now } else x

/-- HEAD advances by one: the number counts toward the beat's credit flit, and the timer restarts when the new HEAD is absent (03 R61 to R63). -/
def Lane.advanceHead (x : Lane) (now : Nat) : Lane :=
  let y := { x with win := x.win.filter fun p => p.1 ≠ x.head, head := (x.head + 1) % 2 ^ 24,
                    rel := x.rel + 1, relBeat := now / 8, held := false, skip := none, vwait := false }
  y.gapNow now true

/-- The end of a beat with releases: one credit flit leaves for the source (03 R62). -/
def State.creditFlit (s : State) (l : Nat) : State :=
  let x := s.lane l
  if x.rel ≠ 0 ∧ x.relBeat < s.now / 8 then (s.setLane l { x with rel := 0 }).post (.credit l x.rel) else s

/-- CREDIT_FLIT (03 R62). -/
def execCreditFlit (dt : Nat) (l : Sys2Proof.LaneId) (s : State) : Host.Outcome State Fault Refusal :=
  .next ((s.advance dt).creditFlit l.val)

/-- Does a thread wait for credit of the lane? -/
def waitsCredit (l : Nat) (x : Thread) : Bool := x.st = .wait && x.wait = .credit l && x.wres = none

/-- Every thread that waits for credit of the lane gets a wake (03 R62, R67). -/
def State.wakeCredit (s : State) (l : Nat) (r : WakeRes) : State :=
  (s.allThreads.filter fun k => waitsCredit l (s.thr k.1 k.2)).foldl (fun s k => s.wake k.1 k.2 r) s

/-- A credit flit reaches the source (03 R62). -/
def State.creditArrival (s : State) (l : Nat) : State :=
  match takeFirst (fun m => match m with | .credit d _ => d = l | _ => false) s.ctl with
  | some (.credit _ k, r) =>
    let s := { s with ctl := r }
    let x := s.lane l
    if x.st = .off then s else (s.setLane l { x with credit := x.credit + k }).wakeCredit l .retry
  | _ => s

/-- The source's report of NEXT reaches the window (03 R71). -/
def State.snextReport (s : State) (l : Nat) : State :=
  match takeFirst (fun m => match m with | .snext d _ => d = l | _ => false) s.ctl with
  | some (.snext _ n, r) => { s with ctl := r }.setLane l { s.lane l with snext := n }
  | _ => s

/-- SNEXT_REPORT (03 R71). -/
def execSnextReport (l : Sys2Proof.LaneId) (s : State) : Host.Outcome State Fault Refusal := .next (s.snextReport l.val)

/-- The source of a lane configuration: (kind, unit) that holds its state slot (03 R55). -/
def srcUnit (srck src : Nat) : Nat × Nat := if srck = 0 then (0, src / 4) else (1, src)

/-- Source-state slots in use at a unit (03 R55). -/
def State.srcSlots (s : State) (u : Nat × Nat) : Nat :=
  (s.lanes.filter fun p => p.2.st ≠ .off && srcUnit (s.fget F.LANECFG_SRCK 0 p.1) (s.fget F.LANECFG_SRC 0 p.1) = u).length

/-- The slice a LANECFG image names (03 R58, R68). -/
def cfgSlice (v : Word) : Nat :=
  let p := wbits v 4 6
  match wbits v 1 3 with
  | 0 => p / 4
  | 1 => 8 + p % 4
  | 2 => 12
  | _ => 13 + p

/-- The sum of W over the lanes not OFF in a slice (03 R59). -/
def State.sliceUsed (s : State) (k : Nat) : Nat :=
  s.lanes.foldl (fun n p => if p.2.st ≠ .off && s.laneSlice p.1 = k then n + s.laneW p.1 else n) 0

/-- Is a queue enabled with the modes a lane needs (03 R70)? -/
def State.queueFits (s : State) (t q : Nat) (asSink : Bool) : Bool :=
  s.fget F.QCFG_EN t q = 1 &&
  (if asSink then s.fget F.QCFG_PMODE t q = 0 && s.fget F.QCFG_LSINK t q = 0
   else s.fget F.QCFG_CMODE t q = 0 && s.fget F.QCFG_LSRC t q = 0)

/-- Values of LANECFG fields that R68 does not list, beyond those of the field map. -/
def laneReserved (v : Word) : Bool :=
  let sink := wbits v 1 3
  let sport := wbits v 4 6
  let sq := wbits v 10 8
  let srck := wbits v 26 2
  let src := wbits v 28 6
  let srcq := wbits v 34 8
  (sink = 0 && 32 ≤ sport) || (sink = 1 && 4 ≤ sport) || (sink = 2 && sport ≠ 0) || (sink < 2 && sq ≠ 0)
    || (srck = 0 && 32 ≤ src) || (srck ≠ 2 && srcq ≠ 0)

/-- The checks of EN = 1 on an OFF lane (03 R70; 13 R350 for a host sink). -/
def State.laneChecks (s : State) (v : Word) : Bool :=
  let w := wbits v 18 8 + 1
  let k := cfgSlice v
  let srck := wbits v 26 2
  let src := wbits v 28 6
  decide (s.sliceUsed k + w ≤ sliceSize k) && decide (s.srcSlots (srcUnit srck src) < 128) &&
  (srck ≠ 2 || s.queueFits src (wbits v 34 8) false) &&
  (wbits v 1 3 ≠ 3 || s.queueFits (wbits v 4 6) (wbits v 10 8) true) &&
  (wbits v 1 3 ≠ 2 || (decide (wbits v 10 8 < 16) && s.fget F.RCFG_EN 0 (2 + wbits v 10 8) = 1 && s.fget F.RCFG_DIR 0 (2 + wbits v 10 8) = 0))

/-- Binding of the queues a lane uses as source or sink, set or cleared (03 R74 LSRC, LSINK). -/
def State.bindQueues (s : State) (v : Word) (b : Nat) : State :=
  let s := if wbits v 26 2 = 2 then s.fset F.QCFG_LSRC (wbits v 28 6) (wbits v 34 8) b else s
  if wbits v 1 3 = 3 then s.fset F.QCFG_LSINK (wbits v 4 6) (wbits v 10 8) b else s

/-- CBFREE of a slice recomputed from the lanes not OFF (03 R59, R73). -/
def State.setCbfree (s : State) (k : Nat) : State := s.fset F.CBFREE_FREE 0 k (sliceSize k - s.sliceUsed k)

/-- An OFF lane becomes ACTIVE with the written configuration (03 R67). -/
def State.laneOn (s : State) (l : Nat) (v : Word) : State :=
  let s := (s.setReg .LANECFG 0 l v).setReg .LANECNT 0 l 0
  let s := s.setLane l { Lane.rst with st := .active, credit := wbits v 18 8 + 1 }
  (s.bindQueues v 1).setCbfree (cfgSlice v)

/-- A lane becomes OFF: entries and source state return (03 R67). -/
def State.laneOff (s : State) (l : Nat) : State :=
  let v := s.reg .LANECFG 0 l
  let s := (s.setLane l { s.lane l with st := .off, win := [], gap := none, held := false, skip := none }).fset F.LANECFG_EN 0 l 0
  (s.bindQueues v 0).setCbfree (cfgSlice v)

/-- Is this task a firing that waits to allocate for the lane? LNOUT with ALC, lane in IDX0[11:0] (06 R160). -/
def allocTask (l : Nat) (k : Task) : Bool :=
  match k.kind with
  | .fire f => nOpc f.word = 0xB4 && bit (nMod f.word) 0 && nIdx0 f.word % 4096 = l
  | _ => false

/-- The allocations that wait for credit of the lane end: threads with fault 0x03, firings abandoned with fault 0x03 (03 R67). -/
def State.endAllocs (s : State) (l : Nat) : State :=
  let s := s.wakeCredit l (.fails 3)
  let t := s.fget F.LANECFG_SRC 0 l
  if s.fget F.LANECFG_SRCK 0 l = 1 then
    let x := s.tile t
    let out := (x.c0q ++ x.ready).filter (allocTask l)
    let s := s.setTile t { x with c0q := x.c0q.filter (fun k => !allocTask l k), ready := x.ready.filter (fun k => !allocTask l k) }
    out.foldl (fun s k => match k.kind with
      | .fire f =>
        let tok := (f.p0.orElse fun _ => f.p1.orElse fun _ => f.p2)
        s.pushFault t (s.mkFault (mkTag f.ctx t f.idx f.iter 0 k.cls 0) tok 3 1 t (graphAddr t f.idx))
      | _ => s) s
  else s

/-- ACTIVE, EN written 0 (03 R67). -/
def State.laneDrain (s : State) (l : Nat) : State :=
  ((s.setLane l { s.lane l with st := .draining }).fset F.LANECFG_EN 0 l 0).endAllocs l

/-- A write of LANECFG after the rights check (03 R67, R68, R70, 00 R402): fields other than EN change only while OFF. -/
def State.laneCfgWrite (s : State) (l : Nat) (v : Word) : WRes :=
  let old := s.reg .LANECFG 0 l
  let x := s.lane l
  let other := old.toNat / 2 ≠ v.toNat / 2
  if other ∧ laneReserved v then .refuse 2 none
  else match x.st with
    | .off =>
      if wbits v 0 1 = 0 then .ok (s.setReg .LANECFG 0 l v)
      else if s.laneChecks v then .ok (s.laneOn l v) else .refuse 4 none
    | .active =>
      if other then .refuse 3 none else if wbits v 0 1 = 0 then .ok (s.laneDrain l) else .ok s
    | .draining =>
      if other then .refuse 3 none else if wbits v 0 1 = 1 then .refuse 3 none else .ok s

/-- A DRAINING lane with BUFD 0 and HEAD = NEXT becomes OFF (03 R67). -/
def State.laneDrained (s : State) (l : Nat) : State :=
  let x := s.lane l
  if x.st = .draining ∧ x.win = [] ∧ x.head = x.next ∧ tget s.winq [] l = [] then s.laneOff l else s

/-- LANE_DRAINED (03 R67). -/
def execLaneDrained (l : Sys2Proof.LaneId) (s : State) : Host.Outcome State Fault Refusal := .next (s.laneDrained l.val)

/-- The window's slice holder is reset (03 R67): the lane is OFF, its tokens are discarded, one fault token 0x14 carries the lane and HEAD. -/
def State.laneWindowReset (s : State) (l : Nat) : State :=
  let x := s.lane l
  if x.st = .off then s
  else
    let ft := s.fget F.LANEGAP_FTILE 0 l
    let k : Token := ⟨mkTag 0 ft 0 0 0 0 5, mkDst s.devnum l x.head 0, s.faultVal 0x14 3 0 ft false, 0⟩
    ((s.endAllocs l).laneOff l).sendFault none ft k

/-- The source of the lane is reset (03 R67). -/
def State.laneSourceReset (s : State) (l : Nat) : State :=
  if (s.lane l).st = .active then s.laneDrain l else s

/-- A GAP marker for a number (03 R65). -/
def State.gapMarker (s : State) (l seq : Nat) : Token := ⟨5, mkDst s.devnum l seq 0, s.slate, 0⟩

end Sys2Proof.Machine
end

