-- ==== Sys2Proof/Machine/Queues.lean ====
section
/-! DEFINITION. Hardware queues and channels: configuration, doorbells, pushes, pops, lane sources, reservations (03 R74 to R82). -/
namespace Sys2Proof.Machine

/-- Does the ring of a queue lie wholly in this tile's scratchpad or in the data space below DSIZE (03 R75)? -/
def State.ringFits (s : State) (t base log2n : Nat) : Bool :=
  let n := 32 * 2 ^ log2n
  match s.region (some t) base with
  | .spad t' o => t' = t && decide (o + n ≤ 0x200000)
  | .dram a => decide (a + n ≤ s.dsize)
  | _ => false

/-- A write of QBASE (03 R75). -/
def State.qbaseWrite (s : State) (t q : Nat) (v : Word) : WRes :=
  if s.fget F.QCFG_EN t q = 1 ∧ v ≠ s.reg .QBASE t q then .refuse 3 none else .ok (s.setReg .QBASE t q v)

/-- The conditions that refuse EN = 1, or HIWM and LOWM while enabled (03 R75). -/
def State.qcfgBad (s : State) (t q : Nat) (v : Word) : Bool :=
  let n := 2 ^ wbits v 1 4
  !s.ringFits t (s.fget F.QBASE_BASE t q * 32) (wbits v 1 4) || decide (n < wbits v 14 16) ||
  (wbits v 8 1 = 1 && decide (wbits v 14 16 ≤ wbits v 30 16)) || decide (n < wbits v 9 5 + 1)

/-- A write of QCFG (03 R74, R75, 00 R401, R402). LSRC and LSINK are kept. -/
def State.qcfgWrite (s : State) (t q : Nat) (v0 : Word) : WRes :=
  let old := s.reg .QCFG t q
  let v := wset v0 46 2 (wbits old 46 2)
  let en := wbits old 0 1 = 1
  if (wbits v 5 2 ≠ 2 && wbits v 9 5 ≠ 0) && (wbits v 9 5 ≠ wbits old 9 5 || wbits v 5 2 ≠ wbits old 5 2) then .refuse 2 none
  else if en && wbits v 1 7 ≠ wbits old 1 7 then .refuse 3 none
  else if en && wbits v 9 5 ≠ wbits old 9 5 then .refuse 3 none
  else if en && wbits v 0 1 = 0 && (wbits old 46 2 ≠ 0 || s.fget F.QPTR_RESV t q = 1) then .refuse 3 none
  else if wbits v 0 1 = 1 && (!en || wbits v 14 32 ≠ wbits old 14 32) && (wbits v 1 4 = 0 || s.qcfgBad t q v) then .refuse 4 none
  else .ok ((s.setReg .QCFG t q v).qMarks t q)

/-- The holder of a channel's reservation. -/
def State.chanOwner (s : State) (t q : Nat) : Nat × Nat := (s.fget F.QPTR_OWNTILE t q, s.fget F.QPTR_OWNTHR t q)

/-- The four registers of a thread from w[k] as a token (06 Tokens, queues and channels). -/
def Thread.tok4 (x : Thread) (k : Nat) : Token := ⟨x.getW k, x.getW (k + 1), x.getW (k + 2), x.getW (k + 3)⟩

/-- The token an emitter gives: SPILLED, FAULT and HOPS are written by hardware only (02 R22, R23). -/
def Token.clean (k : Token) : Token := { k with tag := wset (wset k.tag 4 1 0) 2 1 0, dst := wset k.dst 8 4 0 }

/-- Free ring entries beyond the staged ones (03 R80). -/
def State.chanRoom (s : State) (t q : Nat) : Bool := decide (s.qOcc t q + s.fget F.QPTR_STAGED t q < s.qSize t q)

/-- Stages a token of the holder at TAIL + STAGED (03 R80). -/
def State.chanStage (s : State) (t q : Nat) (k : Token) : State :=
  let st := s.fget F.QPTR_STAGED t q
  (s.qWrite t q (s.fget F.QPTR_TAIL t q + st) k).fset F.QPTR_STAGED t q (st + 1)

/-- The status of the CHW that takes the reservation: 1 when ABAND is set (03 R80). -/
def State.chanStatus (s : State) (t q : Nat) : Word :=
  if s.fget F.QPTR_STAGED t q = 0 ∧ s.fget F.QPTR_ABAND t q = 1 then 1 else 0

/-- The reservation is given to a thread. -/
def State.chanGive (s : State) (t q c n : Nat) : State :=
  ((s.fset F.QPTR_RESV t q 1).fset F.QPTR_OWNTILE t q c).fset F.QPTR_OWNTHR t q n

/-- Does a thread sleep on the channel? -/
def waitsChan (t q : Nat) (x : Thread) : Bool := x.st = .wait && x.wait = .chan t q && x.wres = none

/-- The next writer of a channel: highest EPRI, then longest sleep (03 R81). -/
def State.chanNext (s : State) (t q : Nat) : Option (Nat × Nat) :=
  let l := s.allThreads.filter fun k => waitsChan t q (s.thr k.1 k.2)
  let top := l.foldl (fun m k => max m (s.thr k.1 k.2).epri) 0
  minBy (fun k => (s.thr k.1 k.2).since) (l.filter fun k => (s.thr k.1 k.2).epri = top)

/-- The RA field of the instruction a thread waits in. -/
def Thread.iwRA (x : Thread) : Nat := wbits x.iw 44 5

/-- The next sleeping writer takes the reservation: its CHW stages its token and completes, or waits for ring room holding the reservation (03 R81, R82). -/
def State.chanPass (s : State) (t q : Nat) : State :=
  match s.chanNext t q with
  | none => s.fset F.QPTR_RESV t q 0
  | some (c, n) =>
    let s := s.chanGive t q c n
    if s.chanRoom t q then
      let st := s.chanStatus t q
      let x := s.thr c n
      (s.chanStage t q (x.tok4 x.iwRA).clean).wake c n (.status st)
    else s.onThr c n fun x => { x with wait := .ring t q }

/-- Ring room may have come: the holder that waits for it stages its token (03 R80). -/
def State.chanPoke (s : State) (t q : Nat) : State :=
  if s.fget F.QPTR_RESV t q = 1 ∧ s.chanRoom t q then
    match (s.allThreads.filter fun k => (s.thr k.1 k.2).st = .wait && (s.thr k.1 k.2).wait = .ring t q && (s.thr k.1 k.2).wres = none).head? with
    | some (c, n) =>
      let st := s.chanStatus t q
      let x := s.thr c n
      (s.chanStage t q (x.tok4 x.iwRA).clean).wake c n (.status st)
    | none => s
  else s

/-- The reservation is released when its holder ends (03 R82): abandoned with a message staged, plainly otherwise; the next writer takes it. -/
def State.chanRelease (s : State) (t q : Nat) : State :=
  let s := if s.fget F.QPTR_STAGED t q ≠ 0 then (s.fset F.QPTR_STAGED t q 0).fset F.QPTR_ABAND t q 1 else s
  s.chanPass t q

/-- The channels whose reservation a thread holds. -/
def State.chansOf (s : State) (c n : Nat) : List (Nat × Nat) :=
  s.regs.filterMap fun p =>
    if p.1.1 = .QPTR ∧ s.fget F.QPTR_RESV p.1.2.1 p.1.2.2 = 1 ∧ s.chanOwner p.1.2.1 p.1.2.2 = (c % 64, n) then some (p.1.2.1, p.1.2.2) else none

/-- Every reservation of a thread that ends is released (03 R82). -/
def State.releaseChans (s : State) (c n : Nat) : State :=
  (s.chansOf c n).foldl (fun s k => s.chanRelease k.1 k.2) s

/-- Outcome of a channel or queue operation of a thread. -/
inductive QRes where
  | done (d : Word) (s : State)
  | wait (w : WaitFor) (s : State)
  | fails (code : Nat) (s : State)
  deriving DecidableEq, Repr

/-- A CHW of thread (c, n) at the queue unit (03 R80). -/
def State.chanWrite (s : State) (t q c n : Nat) (k : Token) : QRes :=
  if s.fget F.QCFG_EN t q = 0 ∨ s.fget F.QCFG_PMODE t q ≠ 2 then .fails 3 s
  else
    let resv := s.fget F.QPTR_RESV t q = 1
    let mine := resv && s.chanOwner t q = (c % 64, n)
    if resv && !mine then .wait (.chan t q) s
    else
      let s := if mine then s else s.chanGive t q c n
      if s.fget F.QCFG_MSGM1 t q + 1 ≤ s.fget F.QPTR_STAGED t q then .fails 2 (s.chanRelease t q)
      else if s.chanRoom t q then .done (s.chanStatus t q) (s.chanStage t q k)
      else .wait (.ring t q) s

/-- Sets LAST in the final entry of a message and clears it in the others (03 R81). -/
def State.markLast (s : State) (t q tl : Nat) : Nat → State
  | 0 => s
  | k + 1 =>
    let s := s.markLast t q tl k
    let e := s.qRead t q (tl + k)
    s.qWrite t q (tl + k) { e with tag := wset e.tag 1 1 0 }

/-- A CHC of thread (c, n) at the queue unit (03 R81). -/
def State.chanCommit (s : State) (t q c n : Nat) : QRes :=
  if s.fget F.QCFG_EN t q = 0 ∨ s.fget F.QPTR_RESV t q = 0 ∨ s.chanOwner t q ≠ (c % 64, n) then .fails 3 s
  else
    let st := s.fget F.QPTR_STAGED t q
    let tl := s.fget F.QPTR_TAIL t q
    let s := s.markLast t q tl st
    let s := if st = 0 then s else
      let e := s.qRead t q (tl + (st - 1))
      s.qWrite t q (tl + (st - 1)) { e with tag := wset e.tag 1 1 1 }
    let s := ((s.fset F.QPTR_TAIL t q (tl + st)).fset F.QPTR_STAGED t q 0).fset F.QPTR_ABAND t q 0
    let s := (s.chanPass t q).qServe t q 32
    .done 0 (s.qMarks t q)

/-- A pop by a thread of the owning tile (03 R76, R77): an entry, or none when empty. -/
def State.threadPop (s : State) (t q : Nat) : Option Token × State :=
  if s.qOcc t q = 0 then (none, s)
  else
    let (k, s) := s.qTake t q
    (some k, (s.qMarks t q).chanPoke t q)

/-- May threads pop this queue (03 R75, R76)? -/
def State.popAllowed (s : State) (t q : Nat) : Bool := s.fget F.QCFG_EN t q = 1 && s.fget F.QCFG_CMODE t q = 0

/-- A doorbell write (03 R74, R75, 00 R402): both counts are given as QDB holds them. -/
def State.qdbWrite (s : State) (t q prod cons : Nat) : WRes :=
  let en := s.fget F.QCFG_EN t q = 1
  if (prod ≠ 0 && (!en || s.fget F.QCFG_PMODE t q ≠ 1)) || (cons ≠ 0 && (!en || s.fget F.QCFG_CMODE t q ≠ 1)) then .refuse 3 none
  else if prod ≠ 0 && cons ≠ 0 then .refuse 4 none
  else if decide (s.qSize t q - s.qOcc t q < prod) || decide (s.qOcc t q < cons) then .refuse 4 none
  else if prod ≠ 0 then
    let s := s.fset F.QPTR_TAIL t q (s.fget F.QPTR_TAIL t q + prod)
    .ok ((s.qServe t q prod).qMarks t q)
  else if cons ≠ 0 then
    let s := s.fset F.QPTR_HEAD t q (s.fget F.QPTR_HEAD t q + cons)
    .ok ((s.qMarks t q).chanPoke t q)
  else .ok s

/-- A token refused by a full queue goes back to its injection port (03 R78, 11 R280). -/
def State.bounceBack (s : State) (t q : Nat) (k : Token) (sr : Nat) (sedge : Bool) (stamp : Nat) : State :=
  let r := s.routerOf t
  let p := mkPacket 0 (k.cls + 1) r false sr sedge 1 (.tok k (.queue t q) 0)
  let p := { p with stamp := stamp }
  let s := (s.inc F.QRETRIES_COUNT t 0).inc F.RTCNT2_QBNC 0 r
  { s with mesh := { s.mesh with bwait := tput s.mesh.bwait (sr, portNo sedge) (tget s.mesh.bwait [] (sr, portNo sedge) ++ [p]) } }

/-- The oldest token at a queue unit is pushed, refused and returned when full, or refused with fault 0x03 (03 R75, R76, R78). -/
def State.queuePush (s : State) (t q : Nat) : State :=
  match tget s.pushq [] (t, q) with
  | [] => s
  | (k, sr, sedge, stamp) :: r =>
    let s := { s with pushq := tput s.pushq (t, q) r }
    match s.qRoom t q with
    | some true => s.qPut t q k
    | some false => s.bounceBack t q k sr sedge stamp
    | none => s.pushFault t (s.mkFault k.tag (some k) 3 5 t 0)

/-- QUEUE_PUSH (03 R76). -/
def execQueuePush (dt : Nat) (t : Sys2Proof.TileId) (q : Sys2Proof.QueueId) (s : State) : Host.Outcome State Fault Refusal :=
  .next ((s.advance dt).queuePush t.val q.val)

/-- The queue unit pops an entry for a lane it sources, numbers it and sends it to the window; at most one such pop per cycle of the tile (03 R55, R62, R76). -/
def State.lanePop (s : State) (l : Nat) : State :=
  let t := s.fget F.LANECFG_SRC 0 l
  let q := s.fget F.LANECFG_SRCQ 0 l
  let x := s.lane l
  if s.fget F.LANECFG_SRCK 0 l = 2 ∧ x.st = .active ∧ x.credit ≠ 0 ∧ s.popAllowed t q ∧ s.qOcc t q ≠ 0 ∧ (s.tile t).lastPop ≠ some s.now then
    let (k, s1) := s.qTake t q
    let (n, s1) := s1.laneTake l
    let k := { k with tag := wset k.tag 0 1 1, dst := mkDst k.dev l n k.hops }
    match s1.sendTok (some t) (s.routerOf t) false (.lane l) k with
    | .sent s2 => ((s2.onTile t fun y => { y with lastPop := some s.now }).qMarks t q).chanPoke t q
    | _ => s
  else s

/-- LANE_SOURCE_POP (03 R76). -/
def execLaneSourcePop (dt : Nat) (l : Sys2Proof.LaneId) (s : State) : Host.Outcome State Fault Refusal :=
  .next ((s.advance dt).lanePop l.val)

/-- A thread's push to a full queue is tried again, one beat after the last try (03 R78): the thread completes when there is room. -/
def State.pushRetry (s : State) (c n : Nat) : State :=
  let x := s.thr c n
  match x.wait with
  | .qFull t q =>
    if x.st = .wait ∧ x.wres = none ∧ x.retryAt ≤ s.now then
      match s.qRoom t q with
      | some true => (s.qPut t q (x.tok4 x.iwRA).clean).wake c n (.status 0)
      | some false => s.setThr c n { x with retryAt := s.now + 8 }
      | none => s.wake c n (.fails 3)
    else s
  | _ => s

/-- PUSH_RETRY (03 R78). -/
def execPushRetry (dt : Nat) (c : Sys2Proof.CoreId) (n : Sys2Proof.ThreadId) (s : State) : Host.Outcome State Fault Refusal :=
  .next ((s.advance dt).pushRetry c.val n.val)

end Sys2Proof.Machine
end

