-- ==== Sys2Proof/Machine/Cox.lean ====
section
/-! DEFINITION. The Cox of each tile: banks, shots, budgets and charges (04 R92 to R101). -/
namespace Sys2Proof.Machine

/-- VALID. -/ def Activity.valid (a : Activity) : Bool := a.w0.getLsbD 0
/-- CLS. -/ def Activity.cls (a : Activity) : Nat := wbits a.w0 1 2
/-- FTILE. -/ def Activity.ftile (a : Activity) : Nat := wbits a.w0 3 6
/-- OVRLIM. -/ def Activity.ovrlim (a : Activity) : Nat := wbits a.w0 9 8
/-- DL. -/ def Activity.dl (a : Activity) : Nat := wbits a.w0 17 21
/-- DEPTH. -/ def Activity.depth (a : Activity) : Nat := wbits a.w0 38 5
/-- FPS. -/ def Activity.fps (a : Activity) : Nat := wbits a.w1 0 16
/-- MPS. -/ def Activity.mps (a : Activity) : Nat := wbits a.w1 16 16
/-- OSEQ. -/ def Activity.oseq (a : Activity) : Nat := wbits a.w1 32 9
/-- Shot START (04 R94). -/ def Activity.start (a : Activity) : Nat := wbits a.w0 0 21
/-- Shot LEN. -/ def Activity.len (a : Activity) : Nat := wbits a.w0 21 21
/-- Shot ACT. -/ def Activity.act (a : Activity) : Nat := wbits a.w0 42 6
/-- Grant scale 2^(4 × GSH). -/ def Activity.scale (a : Activity) : Nat := 2 ^ (4 * wbits a.w0 48 2)
/-- Scaled FIRE grant. -/ def Activity.gFire (a : Activity) : Nat := wbits a.w1 0 16 * a.scale
/-- Scaled SLOT grant, in issue slots. -/ def Activity.gSlot (a : Activity) : Nat := wbits a.w1 16 12 * 16 * a.scale
/-- Scaled MEMB grant. -/ def Activity.gMemb (a : Activity) : Nat := wbits a.w1 28 20 * a.scale
/-- Scaled FLIT grant. -/ def Activity.gFlit (a : Activity) : Nat := wbits a.w1 48 16 * a.scale

/-- An activity-table entry of a bank. -/
def CoxBank.act (b : CoxBank) (a : Nat) : Activity := tget b.acts ⟨0, 0⟩ a

/-- PERIOD of a bank's header (04 The storyboard). -/
def CoxBank.period (b : CoxBank) : Nat := wbits (tget b.hdr 0 0) 0 21

/-- C0BANKS of a bank's directory entry (04 R93). -/
def CoxBank.c0banks (b : CoxBank) : Nat := wbits b.dir 16 32

/-- The active bank of a tile's Cox (04 R94, R101). -/
def State.activeBank (s : State) (t : Nat) : CoxBank :=
  if s.fget F.COXSTAT_BANK t 0 = 0 then (s.tile t).bankA else (s.tile t).bankB

/-- The shadow bank. -/
def State.shadowBank (s : State) (t : Nat) : CoxBank :=
  if s.fget F.COXSTAT_BANK t 0 = 0 then (s.tile t).bankB else (s.tile t).bankA

/-- The shadow bank replaced, with SHVALID. -/
def State.setShadow (s : State) (t : Nat) (b : CoxBank) : State :=
  let s := s.onTile t fun x => if s.fget F.COXSTAT_BANK t 0 = 0 then { x with bankB := b } else { x with bankA := b }
  s.fset F.COXSTAT_SHVALID t 0 (b2n b.valid)

/-- Is a shot of the activity open on the tile (04 R96)? -/
def State.actOpen (s : State) (t a : Nat) : Bool :=
  (s.tile t).openShots.any fun i => match (s.activeBank t).shots[i]? with | some h => h.act = a | none => false

/-- A charge: firings, issue slots, memory units, flits (04 R97). -/
structure Charge where
  fire : Nat
  slot : Nat
  memb : Nat
  flit : Nat
  deriving DecidableEq, Repr

/-- Remaining counters of an activity. -/
def State.remain (s : State) (t a : Nat) : Charge :=
  ⟨s.fget F.ACTREM0_FIRE t a, s.fget F.ACTREM0_SLOT t a, s.fget F.ACTREM1_MEMB t a, s.fget F.ACTREM1_FLIT t a⟩

/-- The sum of the scaled grants of every shot of an activity (04 R98). -/
def CoxBank.grants (b : CoxBank) (a : Nat) : Charge :=
  b.shots.foldl (fun c h => if h.act = a then ⟨c.fire + h.gFire, c.slot + h.gSlot, c.memb + h.gMemb, c.flit + h.gFlit⟩ else c) ⟨0, 0, 0, 0⟩

/-- Does a charge lie within a budget? -/
def Charge.within (c b : Charge) : Bool := c.fire ≤ b.fire && c.slot ≤ b.slot && c.memb ≤ b.memb && c.flit ≤ b.flit

/-- Verdict of the Cox on a charge (04 R98). -/
inductive Verdict where
  | ok | held (byCounter : Bool) | never
  deriving DecidableEq, Repr

/-- May work of an activity start on a core now (04 R96 to R98)? Control cores have no Cox budget (log 10). -/
def State.verdict (s : State) (c a : Nat) (ch : Charge) : Verdict :=
  if 64 ≤ c then .ok
  else if !s.actOpen c a then .held false
  else if ch.within (s.remain c a) then .ok
  else if !ch.within ((s.activeBank c).grants a) then .never
  else .held true

/-- The charge is taken (04 R97). -/
def State.charge (s : State) (c a : Nat) (ch : Charge) : State :=
  if 64 ≤ c then s
  else
    let r := s.remain c a
    (s.setReg .ACTREM0 c a (wd ((r.fire - ch.fire) + (r.slot - ch.slot) * 2 ^ 32))).setReg .ACTREM1 c a
      (wd ((r.memb - ch.memb) + (r.flit - ch.flit) * 2 ^ 32))

/-- A counter holds work of the activity: its flag of this stroke sets (04 R100). -/
def State.flagHeld (s : State) (t a : Nat) : State :=
  if (s.tile t).heldFlags.contains a then s else s.onTile t fun x => { x with heldFlags := a :: x.heldFlags }

/-- Grants of a shot are added to its activity's counters, which saturate at 32 bits (04 R94, R96). -/
def State.grant (s : State) (t : Nat) (h : Activity) : State :=
  let r := s.remain t h.act
  let cap := fun (n : Nat) => min n (2 ^ 32 - 1)
  (s.setReg .ACTREM0 t h.act (wd (cap (r.fire + h.gFire) + cap (r.slot + h.gSlot) * 2 ^ 32))).setReg .ACTREM1 t h.act
    (wd (cap (r.memb + h.gMemb) + cap (r.flit + h.gFlit) * 2 ^ 32))

/-- The beat of the stroke (04 R94). -/
def State.strokeBeat (s : State) : Nat := (s.now - s.stroke.start) / 8

/-- Shots open only while RUNNING or DRAINING (04 R96). -/
def State.shotsRun (s : State) : Bool := s.dev = .running || s.dev = .draining

/-- The next shot of a tile opens when its START is reached (04 R96). -/
def State.openShot (s : State) (t : Nat) : State :=
  let i := s.fget F.COXSTAT_NEXTSH t 0
  match (s.activeBank t).shots[i]? with
  | some h =>
    if s.shotsRun ∧ h.start ≤ s.strokeBeat then
      let s := s.fset F.COXSTAT_NEXTSH t 0 (i + 1)
      (s.onTile t fun x => { x with openShots := x.openShots ++ [i] }).grant t h
    else s
  | none => s

/-- SHOT_OPEN (04 R96). -/
def execShotOpen (dt : Nat) (t : Sys2Proof.TileId) (s : State) : Host.Outcome State Fault Refusal :=
  .next ((s.advance dt).openShot t.val)

/-- A shot closes after beat START + LEN − 1 (04 R96). -/
def State.closeShot (s : State) (t i : Nat) : State :=
  match (s.activeBank t).shots[i]? with
  | some h =>
    if (s.tile t).openShots.contains i ∧ h.len ≠ 0 ∧ h.start + h.len ≤ s.strokeBeat then
      s.onTile t fun x => { x with openShots := x.openShots.filter (· ≠ i) }
    else s
  | none => s

/-- SHOT_CLOSE (04 R96). -/
def execShotClose (dt : Nat) (t : Sys2Proof.TileId) (i : Fin 256) (s : State) : Host.Outcome State Fault Refusal :=
  .next ((s.advance dt).closeShot t.val i.val)

/-- Fault token 0x0B of an activity, to its FTILE (04 R100, 05 R129). -/
def State.overrunToken (s : State) (t a : Nat) : State :=
  let act := (s.activeBank t).act a
  let k : Token := ⟨mkTag 0 act.ftile 0 0 0 act.cls 4, mkDst s.devnum 0 0 0, s.faultVal 0x0B 4 0 t false, 0⟩
  s.sendFault (some t) act.ftile k

/-- CONSEC has reached OVRLIM: one fault token and CONSEC returns to 0; for class 0 no second token (04 R100). -/
def State.overrunLimit (s : State) (t a : Nat) : State :=
  if (s.tile t).limitDue.contains a then
    let s := (s.onTile t fun x => { x with limitDue := x.limitDue.filter (· ≠ a) }).fset F.ACTOVR_CONSEC t a 0
    if ((s.activeBank t).act a).cls = 0 then s else s.overrunToken t a
  else s

/-- OVERRUN_LIMIT (04 R100). -/
def execOverrunLimit (t : Sys2Proof.TileId) (a : Fin 64) (s : State) : Host.Outcome State Fault Refusal :=
  .next (s.overrunLimit t.val a.val)

/-- An activity overruns in the stroke that ends (04 R100). -/
def State.overrun (s : State) (t a : Nat) : State :=
  let act := (s.activeBank t).act a
  let s := (s.inc F.ACTOVR_OVRS t a).raiseTile t 5
  let s := s.fset F.ACTOVR_CONSEC t a (min 255 (s.fget F.ACTOVR_CONSEC t a + 1))
  let s := if act.ovrlim ≠ 0 ∧ act.ovrlim ≤ s.fget F.ACTOVR_CONSEC t a then
      s.onTile t fun x => { x with limitDue := a :: x.limitDue.filter (· ≠ a) } else s
  if act.cls = 0 then ((s.inc F.C0BOUND_C0BREACH 0 a).fset F.C0BOUND_BVALID 0 a 0).overrunToken t a else s

end Sys2Proof.Machine
end

