-- ==== Sys2Proof/Machine/Locks.lean ====
section
/-! DEFINITION. Lock cells: the operations of a group, waiters, handoff, lending and abandonment (12 R322 to R328). -/
namespace Sys2Proof.Machine

/-- A cell of a group. -/
def State.cell (s : State) (g c : Nat) : Cell := tget (s.tile g).cells ⟨0, false⟩ c

/-- A cell replaced. -/
def State.setCell (s : State) (g c : Nat) (x : Cell) : State := s.onTile g fun t => { t with cells := tput t.cells c x }

/-- Waiters of a cell. -/
def State.waitersOf (s : State) (g c : Nat) : List Waiter := (s.tile g).waiters.filter fun w => w.cell = c

/-- Highest EPRI among a cell's waiters, which is the lend (12 R325, R328 TOPW). -/
def State.topW (s : State) (g c : Nat) : Nat := (s.waitersOf g c).foldl (fun m w => max m (s.thr w.core w.n).epri) 0

/-- The thread an owner's identity names (12 R323). -/
def idThread (v : Word) : Option (Nat × Nat) :=
  match wbits v 10 3 with
  | 1 => some (wbits v 4 6, wbits v 0 4)
  | 2 => some (64 + wbits v 4 6, wbits v 0 4)
  | _ => none

/-- The group lends the highest EPRI of the waiters to the cell's owner, or withdraws (12 R325). -/
def State.relend (s : State) (g c : Nat) : State :=
  match idThread (s.cell g c).val with
  | some (core, n) => s.post (.lend core n (g * 64 + c) (s.topW g c))
  | none => s

/-- The lend to an owner that loses the cell is withdrawn. -/
def State.unlend (s : State) (g c : Nat) (v : Word) : State :=
  match idThread v with
  | some (core, n) => s.post (.lend core n (g * 64 + c) 0)
  | none => s

/-- The cell passes to the waiter with the highest EPRI, oldest among equals, or becomes FREE (12 R325, R326). The flag in the answer: handed over. -/
def State.handoff (s : State) (g c : Nat) (aband : Bool) : Bool × State :=
  let old := (s.cell g c).val
  let s := s.unlend g c old
  let top := s.topW g c
  match minBy (fun w => w.stamp) ((s.waitersOf g c).filter fun w => (s.thr w.core w.n).epri = top) with
  | some w =>
    let s := s.setCell g c ⟨wd (ownerId w.core w.n), false⟩
    let s := s.onTile g fun t => { t with waiters := t.waiters.filter fun v => v ≠ w }
    let s := s.post (.lockRes w.core w.n (if aband then 1 else 0) 0 true)
    (true, s.relend g c)
  | none => (false, s.setCell g c ⟨0, aband⟩)

/-- The limit of the requester's class (12 R323, R328). -/
def State.lockLimit (s : State) (g : Nat) : Req → Nat
  | .thread c _ => if c = g then s.fget F.LKGCFG_LOC g 0 else if c < 64 then s.fget F.LKGCFG_REM g 0 else s.fget F.LKGCFG_CCX g 0
  | .firing t _ => if t = g then s.fget F.LKGCFG_LOC g 0 else s.fget F.LKGCFG_REM g 0
  | .dma t _ => if t = g then s.fget F.LKGCFG_LOC g 0 else s.fget F.LKGCFG_REM g 0
  | .host => s.fget F.LKGCFG_HST g 0
  | .debug => s.fget F.LKGCFG_DBG g 0
  | .aklofy _ => s.fget F.LKGCFG_CCX g 0

/-- The identity of a requester as an owner (12 R323). -/
def lockId : Req → Nat
  | .thread c n => ownerId c n
  | .firing t u => ownerId t u
  | .dma t n => ownerId t n
  | .host => 3 * 1024
  | .debug => 0
  | .aklofy _ => 0x800

/-- Is the group in CAS mode? -/
def State.casMode (s : State) (g : Nat) : Bool := s.fget F.LKGCFG_MODE g 0 = 1

/-- An acquisition of a FREE cell: status 0, or 1 and ABAND clears (12 R324). -/
def State.acquire (s : State) (g c id : Nat) : Word × State :=
  let x := s.cell g c
  ((if x.aband then 1 else 0), s.setCell g c ⟨wd id, false⟩)

/-- The answer of one lock operation of a thread: a status, a fault code, or the thread becomes a waiter, or the waiter table is full. -/
inductive LockAns where
  | status (d : Word) (s : State)
  | fails (code : Nat) (s : State)
  | waits (s : State)
  | tableFull (s : State)
  deriving DecidableEq, Repr

/-- One lock operation of thread (core, n) on a cell (12 R323 to R325). -/
def State.lockOp (s : State) (g c core n : Nat) (op : LockOp) : LockAns :=
  let id := ownerId core n
  let x := s.cell g c
  let past := s.lockLimit g (.thread core n) ≤ c
  match op with
  | .cas e new =>
    if past ∨ !s.casMode g then .fails 3 s
    else .status x.val (if x.val = e then s.setCell g c ⟨new, false⟩ else s)
  | .rel =>
    if s.casMode g then .fails 3 s
    else if x.val = wd id then let (h, s) := s.handoff g c false; .status (if h then 1 else 0) s
    else .fails 3 s
  | .acq =>
    if past ∨ s.casMode g then .fails 3 s
    else if x.val = 0 then let (d, s) := s.acquire g c id; .status d s
    else if x.val = wd id then .status 2 s
    else if 64 ≤ (s.tile g).waiters.length then .tableFull (s.inc F.LKCNT_WFULL g 0)
    else
      let s := (s.bump.onTile g fun t => { t with waiters := t.waiters ++ [⟨c, core, n, s.seqNo⟩] }).inc F.LKCNT_CONTEND g 0
      .waits (s.relend g c)
  | .try_ =>
    if past ∨ s.casMode g then .fails 3 s
    else if x.val = 0 then let (d, s) := s.acquire g c id; .status d s
    else if x.val = wd id then .status 2 s
    else .status x.val s

/-- The order in which a group takes requests: releases, the own strand core, mesh arrivals oldest first (12 R322). -/
def lockRank (r : LockReq) : Nat :=
  (if r.op = .rel then 0 else if r.mesh then 2 else 1) * 2 ^ 64 + r.stamp

/-- Enters a thread into WAIT for a cell, WREASON 0x1 (12 R324). -/
def State.waitLock (s : State) (core n lk : Nat) : State :=
  s.bump.onThr core n fun x => { x with st := .wait, wait := .lock lk, since := s.seqNo, wres := none, retry := none, retryAt := s.now + 8 }

/-- A group performs one operation (12 R322, R324). -/
def State.lockStep (s : State) (g : Nat) : State :=
  let t := s.tile g
  match minBy lockRank t.lockq with
  | none => s
  | some r =>
    let s := s.setTile g { t with lockq := t.lockq.filter fun q => q ≠ r }
    match s.lockOp g r.cell r.core r.n r.op with
    | .status d s => s.post (.lockRes r.core r.n d 0 false)
    | .fails k s => s.post (.lockRes r.core r.n 0 k false)
    | .waits s => s.waitLock r.core r.n (g * 64 + r.cell)
    | .tableFull s => s.waitLock r.core r.n (g * 64 + r.cell)

/-- LOCK_OPERATION (12 R324): a request wakes the group's tile (R322). -/
def execLockOperation (dt : Nat) (g : Sys2Proof.TileId) (s : State) : Host.Outcome State Fault Refusal :=
  let s := s.advance dt
  .next (if (s.tile g.val).lockq.isEmpty then s else s.ifAwake g.val fun s => s.lockStep g.val)

/-- A waiting LKACQ is presented to its group (12 R325). -/
def State.lkacqAgain (s : State) (g cell c n : Nat) : State :=
  match s.lockOp g cell c n .acq with
  | .status d s => s.wake c n (.status d)
  | .fails k s => s.wake c n (.fails k)
  | .waits s => s
  | .tableFull s => s.onThr c n fun x => { x with retryAt := s.now + 8 }

/-- An LKACQ that found the table full is presented again, one beat after the last try (12 R325); not while the cell's answer is on its way. -/
def State.lkacqRetry (s : State) (c n : Nat) : State :=
  let x := s.thr c n
  match x.wait with
  | .lock lk =>
    let g := lk / 64
    let cell := lk % 64
    if x.st = .wait ∧ x.wres = none ∧ x.retryAt ≤ s.now ∧ !((s.tile g).waiters.any fun w => w.core = c && w.n = n) ∧ !(s.ctl.any (Ctl.isLockFor c n)) then
      s.ifAwake g fun s => s.lkacqAgain g cell c n
    else s
  | _ => s

/-- LKACQ_RETRY (12 R325). -/
def execLkacqRetry (dt : Nat) (c : Sys2Proof.CoreId) (n : Sys2Proof.ThreadId) (s : State) : Host.Outcome State Fault Refusal :=
  .next ((s.advance dt).lkacqRetry c.val n.val)

/-- A lend or a withdrawal takes effect at the owner; when the owner itself waits for a cell, that group recomputes its lend (12 R325). -/
def State.lendArrival (s : State) (c n : Nat) : State :=
  match takeFirst (fun m => match m with | .lend d k _ _ => d = c && k = n | _ => false) s.ctl with
  | some (.lend _ _ lk p, r) =>
    let s := { s with ctl := r }
    let s := s.onThr c n fun x => { x with lends := if p = 0 then tdel x.lends lk else tput x.lends lk p }
    match (s.thr c n).wait with
    | .lock lk2 => if (s.thr c n).st = .wait then s.relend (lk2 / 64) (lk2 % 64) else s
    | _ => s
  | _ => s

/-- LEND (12 R325). -/
def execLend (c : Sys2Proof.CoreId) (n : Sys2Proof.ThreadId) (s : State) : Host.Outcome State Fault Refusal :=
  .next (s.ctlAwake c.val (Ctl.isLendFor c.val n.val) fun s => s.lendArrival c.val n.val)

/-- A held cell of an owner is released as abandoned (12 R326). -/
def State.abandonCell (s : State) (g c : Nat) : State := ((s.handoff g c true).2).inc F.LKCNT_ABANDS g 0

/-- The cells of every RTA group whose value satisfies a test. -/
def State.cellsWhere (s : State) (p : Word → Bool) : List (Nat × Nat) :=
  s.tiles.flatMap fun t => if s.casMode t.1 then [] else (t.2.cells.filter fun c => c.2.val ≠ 0 && p c.2.val).map fun c => (t.1, c.1)

/-- Every cell of an owner is released as abandoned (12 R326). -/
def State.abandonOwner (s : State) (p : Word → Bool) : State :=
  (s.cellsWhere p).foldl (fun s k => s.abandonCell k.1 k.2) s

/-- A waiter that is reset leaves the waiter tables, and its lend is withdrawn (12 R326). -/
def State.dropWaiter (s : State) (c n : Nat) : State :=
  let l := s.tiles.flatMap fun t => (t.2.waiters.filter fun w => w.core = c && w.n = n).map fun w => (t.1, w.cell)
  let s := l.foldl (fun s k => (s.onTile k.1 fun t => { t with waiters := t.waiters.filter fun w => !(w.core = c && w.n = n) }).relend k.1 k.2) s
  s.tiles.foldl (fun s t => if t.2.lockq.any (fun r => r.core = c && r.n = n) then
    s.onTile t.1 fun x => { x with lockq := x.lockq.filter fun r => !(r.core = c && r.n = n) } else s) s

/-- A read of LKCELL (12 R323, R324): the value, and the state after the acquisition. -/
def State.lkcellRead (s : State) (who : Sys2Proof.Req) (g c : Nat) : Word × State :=
  let x := s.cell g c
  if s.lockLimit g who ≤ c then (0, s)
  else if s.casMode g then (x.val, s)
  else if x.val = 0 then
    if who = .debug then (0, s) else s.acquire g c (lockId who)
  else if x.val = wd (lockId who) ∧ who ≠ .debug then (2, s)
  else (x.val, s)

/-- LKCELL_READ (12 R324): what is read goes to the requester's completion (log 3). -/
def execLkcellRead (who : Sys2Proof.Req) (g : Sys2Proof.TileId) (cell : Fin 64) (s : State) : Host.Outcome State Fault Refusal :=
  let (v, s) := s.lkcellRead who g.val cell.val
  .next (match who with
    | .host => s.emit (.hostComp v.toNat 0)
    | .debug => s.emit (.dapComp v.toNat 0)
    | _ => s)

/-- A write of LKCELL (12 R323, R324). -/
def State.lkcellWrite (s : State) (who : Sys2Proof.Req) (g c : Nat) (v : Word) : WRes :=
  let x := s.cell g c
  if s.casMode g then
    if s.lockLimit g who ≤ c then .refuse 1 none else .ok (s.setCell g c ⟨v, false⟩)
  else
    let mine := x.val ≠ 0 && x.val = wd (lockId who) && who ≠ .debug
    if !mine && s.lockLimit g who ≤ c then .refuse 1 none
    else if v ≠ 0 then .refuse 2 none
    else if mine then .ok (s.handoff g c false).2
    else .refuse 3 none

/-- LKSTAT of a cell (12 R328), computed from the group's state. -/
def State.lkstat (s : State) (g c : Nat) : Word :=
  if s.casMode g then 0
  else
    let x := s.cell g c
    wd (b2n (x.val ≠ 0) + b2n x.aband * 2 + (s.waitersOf g c).length * 4 + wbits x.val 0 13 * 2 ^ 16 + s.topW g c % 8 * 2 ^ 32)

/-- A write of LKGCFG (12 R327, R328): a MODE change needs every cell free and without waiters, and frees every cell. -/
def State.lkgcfgWrite (s : State) (g : Nat) (v : Word) : WRes :=
  if wbits v 35 1 ≠ s.fget F.LKGCFG_MODE g 0 then
    if (s.tile g).waiters ≠ [] ∨ (!s.casMode g ∧ (s.tile g).cells.any fun c => c.2.val ≠ 0) then .refuse 4 none
    else .ok ((s.setReg .LKGCFG g 0 v).onTile g fun t => { t with cells := [] })
  else .ok (s.setReg .LKGCFG g 0 v)

end Sys2Proof.Machine
end

