-- ==== Sys2Proof/Machine/Threads.lean ====
section
/-! DEFINITION. Thread contexts: the advance of the PC with hardware loops, FORK and its waiters, the end and the reset of a thread, and the commands of TCTL (05 R119, R121, R123 to R125; 06 R149, R150). -/
namespace Sys2Proof.Machine

/-! ### The PC and the hardware loops -/

/-- The loop levels processed at an instruction that completes at `p`, from level `l` down: the PC if a level goes back, and the counts (06 R149). -/
def loopFrom (ls le : Tab Nat Nat) (p : Nat) (lc : Tab Nat Nat) : Nat → Option Nat × Tab Nat Nat
  | 0 => (none, lc)
  | k + 1 =>
    let c := tget lc 0 k
    if c ≠ 0 ∧ tget le 0 k = p then
      let lc := tput lc k (c - 1)
      if c - 1 ≠ 0 then (some (tget ls 0 k), lc) else loopFrom ls le p lc k
    else loopFrom ls le p lc k

/-- A thread after an instruction at `p` completes with `npc` next in sequence: loops are processed while INH is 0 (06 R149, R150). -/
def Thread.stepPc (x : Thread) (p npc : Nat) : Thread :=
  if x.inh then { x with pc := npc }
  else
    let (b, lc) := loopFrom x.ls x.le p x.lc 4
    { x with pc := b.getD npc, lc := lc }

/-- A next PC above 16,383 traps with fault 0x03 and PCX 1, once every load has arrived (05 R119, R130). -/
def State.pcCheck (s : State) (c n : Nat) : State :=
  let x := s.thr c n
  if 16383 < x.pc ∧ x.loads.all (fun l => l.arrived) then s.trap c n 3 0x3FFF true else s

/-- The PC advances after an instruction at `p`, with its loops; past the last word the thread traps (05 R119). -/
def State.advancePc (s : State) (c n p npc : Nat) : State :=
  (s.setThr c n ((s.thr c n).stepPc p npc)).pcCheck c n

/-- A taken branch to a target: levels whose range does not hold the target end (06 R150). -/
def Thread.jumpTo (x : Thread) (pc : Nat) : Thread :=
  { x with pc := pc, lc := x.lc.filter fun p => decide (tget x.ls 0 p.1 ≤ pc) && decide (pc ≤ tget x.le 0 p.1) }

/-- How many words the instruction at a PC takes: 2 in immediate form with a constant word (05 R119, 06 R135). -/
def State.insLen (s : State) (c pc : Nat) : Nat :=
  let w := s.gword c pc
  if nMode w = 1 ∧ iXC w = 1 then 2 else 1

/-! ### Taking a context (05 R123, R124) -/

/-- The lowest-numbered FREE context of a core. -/
def State.freeThread (s : State) (c : Nat) : Option Nat := (List.range 16).find? fun k => (s.thr c k).st = .free

/-- A child is started in context `k` by thread `p`: the target, w1, the parent's flags enables, priority and handler (05 R123). -/
def State.forkChild (s : State) (c p k target : Nat) (arg : Word) : State :=
  let x := s.thr c p
  let y : Thread := { Thread.rst with
    st := .ready, pc := target, fl := childFl x.fl, pri := x.pri, cls := x.cls, act := x.act, ctx := x.ctx,
    parent := p, pvalid := true, readyAt := s.now + 1, lends := (s.thr c k).lends }
  let s := s.setThr c k (y.setW 1 arg)
  let s := s.setReg .THND c k (s.reg .THND c p)
  s.onThr c p fun x => { x with jcnt := x.jcnt + 1 }

/-- A spawning wake starts a thread in context `k` for a token at a class, priority and activity (05 R123). -/
def State.spawnIn (s : State) (c k target : Nat) (tok : Token) (cls pri act : Nat) : State :=
  let y : Thread := { Thread.rst with
    st := .ready, pc := target, pri := pri, cls := cls, act := act, ctx := tok.ctx, readyAt := s.now + 1, lends := (s.thr c k).lends }
  s.setThr c k ((((y.setW 1 tok.tag).setW 2 tok.dst).setW 3 tok.val).setW 4 tok.aux)

/-- Does a thread wait in FORK for a context? -/
def waitsPool (x : Thread) : Bool := x.st = .wait && x.wait = .pool && x.wres = none

/-- A context has become FREE: the oldest waiting FORK takes it (05 R124). -/
def State.poolFreed (s : State) (c : Nat) : State :=
  match oldestWait s waitsPool (coreThreads c), s.freeThread c with
  | some (_, p), some k =>
    let x := s.thr c p
    (s.forkChild c p k (x.getW (iRA x.iw)).toNat (x.getW (iRB x.iw))).wake c p (.child k)
  | _, _ => s

/-! ### Ends of threads (05 R125) -/

/-- The parent of an ending thread counts it out; at 0 its join event is signalled. -/
def State.leaveParent (s : State) (c n : Nat) : State :=
  let x := s.thr c n
  if x.pvalid then
    let p := s.thr c x.parent
    let s := s.setThr c x.parent { p with jcnt := p.jcnt - 1 }
    if p.jcnt = 1 ∧ p.wait = .join then s.wake c x.parent (.status 0) else s
  else s

/-- Each child of an ending thread has its PVALID cleared. -/
def State.orphanKids (s : State) (c n : Nat) : State :=
  (coreThreads c).foldl (fun s k =>
    if (s.thr c k.2).pvalid ∧ (s.thr c k.2).parent = n then s.onThr c k.2 fun x => { x with pvalid := false } else s) s

/-- Is this task the wake of thread `n`? -/
def isWakeOf (n : Nat) (k : Task) : Bool :=
  match k.kind with
  | .wake m => m = n
  | _ => false

/-- Is this task a wake or a timer event of thread `n`? -/
def isTaskOf (n : Nat) (k : Task) : Bool :=
  match k.kind with
  | .wake m => m = n
  | .event m _ => m = n
  | _ => false

/-- Does this timer belong to thread `n`? -/
def timerOfThr (n : Nat) (k : Timer) : Bool :=
  match k.what with
  | .event m => m = n
  | .sleep m => m = n
  | .firing _ _ _ _ => false

/-- Tasks of the ready list that satisfy a test are removed. -/
def State.dropTasks (s : State) (c : Nat) (p : Task → Bool) : State :=
  s.onTile c fun t => { t with ready := t.ready.filter (fun k => !p k), c0q := t.c0q.filter (fun k => !p k) }

/-- The thread ends: its parent and children, its channel reservation, its latch and its context (05 R125, 12 R314). -/
def State.endThread (s : State) (c n : Nat) : State :=
  let s := (s.leaveParent c n).orphanKids c n
  let s := s.releaseChans c n
  let s := s.dropTasks c (isWakeOf n)
  let s := (s.setThr c n { Thread.rst with lends := (s.thr c n).lends }).setReg .TEVT c n 0
  s.poolFreed c

/-- A thread reset (05 R125; 12 R326): as an end, with its timers, waits and locks. Fields of the thread context take their reset values. -/
def State.resetThread (s : State) (c n : Nat) : State :=
  if (s.thr c n).st = .free then s
  else
    let s := s.dropWaiter c n
    let s := s.abandonOwner fun v => v = wd (ownerId c n)
    let s := s.onTile c fun t => { t with delay := t.delay.filter fun k => !timerOfThr n k }
    let s := s.dropTasks c (isTaskOf n)
    let s := ((s.setReg .TEPC c n 0).setReg .TISSUE c n 0).setReg .TARX c n 0
    s.endThread c n

/-- A thread is reset and pushes a fault token with STOP 0 (08 R201, R205; 14 R380). -/
def State.resetWithToken (s : State) (c n code : Nat) : State :=
  let pc := (s.thr c n).pc
  let k := s.threadFault c n code pc false
  let s := s.resetThread c n
  if c < 64 then s.pushFault c k else s

/-! ### TCTL (05 R121, R122; 06 R150) -/

/-- RESUME of a FAULTED thread: it continues at EPC; no effect after a PC trap (05 R119). -/
def State.resumeThread (s : State) (c n : Nat) : State :=
  let x := s.thr c n
  if x.st = .faulted ∧ s.fget F.TEPC_PCX c n = 0 then
    s.setThr c n { x with st := .ready, pc := s.fget F.TEPC_EPC c n, readyAt := s.now + 1 }
  else s

/-- SKIP of a FAULTED thread: the instruction at EPC counts as completed, loops included (06 R150). -/
def State.skipThread (s : State) (c n : Nat) : State :=
  let x := s.thr c n
  if x.st = .faulted ∧ s.fget F.TEPC_PCX c n = 0 then
    let p := s.fget F.TEPC_EPC c n
    (s.setThr c n { x with st := .ready, readyAt := s.now + 1 }).advancePc c n p (p + s.insLen c p)
  else s

/-- A write of TCTL after the checks of 00 R402. -/
def State.tctlWrite (s : State) (c n : Nat) (v : Word) : WRes :=
  match wbits v 0 3 with
  | 0 => .ok s
  | 1 => .ok (s.resetThread c n)
  | 2 => .ok (s.resumeThread c n)
  | 4 => .ok (s.skipThread c n)
  | _ => .refuse 2 none

end Sys2Proof.Machine
end

