-- ==== Sys2Proof/Machine/Irq.lean ====
section
/-! DEFINITION. Interrupt controllers, deliveries, pre-emption and the event latch (12 R306 to R317, R320, R321). -/
namespace Sys2Proof.Machine

/-- The core a device source targets (12 R317). -/
def State.devTarget (s : State) (src : Nat) : Nat :=
  let t := s.fget F.DSRC_TTILE 0 src
  if s.fget F.DSRC_TCC 0 src = 1 then 64 + t % 4 else t

/-- Sources pending, enabled and not delivered, of a controller with `k` words: numbers, ascending (12 R309). -/
def liveSources (pend en dlvd : Nat → Word) (k : Nat) : List Nat :=
  (List.range k).flatMap fun i =>
    let v := (pend i &&& en i &&& ~~~(dlvd i)).toNat
    if v = 0 then [] else ((List.range 64).filter fun b => v.testBit b).map fun b => 64 * i + b

/-- The live sources of a tile controller. -/
def State.liveTile (s : State) (t : Nat) : List Nat :=
  liveSources (fun i => s.reg .IPEND t i) (fun i => s.reg .IEN t i) (fun i => s.reg .IDLVD t i) 2

/-- The live sources of the device controller. -/
def State.liveDev (s : State) : List Nat :=
  liveSources (fun i => s.reg .DPEND 0 i) (fun i => s.reg .DEN 0 i) (fun i => s.reg .DDLVD 0 i) 8

/-- Can a thread receive a delivery: its domain is ON or IDLE and it is not FREE (12 R310, R321)? -/
def State.canReceive (s : State) (c n : Nat) : Bool := s.active c && (s.thr c n).st ≠ .free

/-- The group and the sub-priority of a priority (12 R308). -/
def groupOf (split prio : Nat) : Nat × Nat := (prio / 2 ^ split, prio % 2 ^ split)

/-- The rank by which a controller chooses: highest group, highest sub-priority, lowest number (12 R309). As a number to minimise. -/
def srcRank (split prio src : Nat) : Nat :=
  let g := groupOf split prio
  (256 - g.1) * 2 ^ 20 + (256 - g.2) * 2 ^ 10 + src

/-- The latch image with an interrupt delivered (12 R314). -/
def latchInt (src : Nat) (dev : Bool) (v : Word) : Word := wset (wset (wset v 3 1 1) 4 1 (b2n dev)) 48 9 src

/-- A delivery acts on a thread that is not FREE (12 R310): a pre-emption is requested, or the latch is written. -/
def State.applyDelivery (s : State) (c n src grp : Nat) (dev : Bool) : State :=
  let x := s.thr c n
  if x.st = .ready ∧ s.fget F.THND_HEN c n = 1 ∧ x.inh = false ∧ s.fget F.TINT_PTHR c n < grp then
    s.setThr c n { x with preempt := true }
  else s.latch c n (latchInt src dev)

/-- A tile controller delivers one source (12 R309). -/
def State.deliverTile (s : State) (t : Nat) : State :=
  let split := s.fget F.ICFG_SPLIT t 0
  let l := s.liveTile t |>.filter fun i => s.canReceive t (s.fget F.ISRC_TTHR t i)
  match minBy (fun i => srcRank split (s.fget F.ISRC_PRIO t i) i) l with
  | none => s
  | some i =>
    let s := s.setReg .IDLVD t (i / 64) (s.reg .IDLVD t (i / 64) ||| wd (2 ^ (i % 64)))
    s.applyDelivery t (s.fget F.ISRC_TTHR t i) i (groupOf split (s.fget F.ISRC_PRIO t i)).1 false

/-- The device controller delivers one source: DLVD sets and the delivery leaves for the target's router (12 R309). -/
def State.deliverDev (s : State) : State :=
  let split := s.fget F.DCFG_SPLIT 0 0
  let l := s.liveDev.filter fun i => s.canReceive (s.devTarget i) (s.fget F.DSRC_TTHR 0 i)
  match minBy (fun i => srcRank split (s.fget F.DSRC_PRIO 0 i) i) l with
  | none => s
  | some i =>
    (s.setReg .DDLVD 0 (i / 64) (s.reg .DDLVD 0 (i / 64) ||| wd (2 ^ (i % 64)))).post
      (.devInt i (s.devTarget i) (s.fget F.DSRC_TTHR 0 i) (groupOf split (s.fget F.DSRC_PRIO 0 i)).1)

/-- INTERRUPT_DELIVERY (12 R309): the controller of a tile, or the device controller. -/
def execInterruptDelivery (dt : Nat) (t : Option Sys2Proof.TileId) (s : State) : Host.Outcome State Fault Refusal :=
  let s := (s.advance dt).levels
  .next (match t with | some t => s.deliverTile t.val | none => s.deliverDev)

/-- A device delivery reaches its target: applied, or returned when the thread is FREE (12 R310). -/
def State.deliveryArrival (s : State) (c n : Nat) : State :=
  match takeFirst (fun m => match m with | .devInt _ d k _ => d = c && k = n | _ => false) s.ctl with
  | some (.devInt src _ _ grp, r) =>
    let s := { s with ctl := r }
    if (s.thr c n).st = .free then s.post (.devRet src) else s.applyDelivery c n src grp true
  | _ => s

/-- DELIVERY_ARRIVAL (12 R310). -/
def execDeliveryArrival (c : Sys2Proof.CoreId) (n : Sys2Proof.ThreadId) (s : State) : Host.Outcome State Fault Refusal :=
  .next (s.ctlAwake c.val (Ctl.isIntFor c.val n.val) fun s => s.deliveryArrival c.val n.val)

/-- A returned delivery clears DLVD and counts (12 R310). -/
def State.deliveryReturn (s : State) (src : Nat) : State :=
  match takeFirst (fun m => m = Ctl.devRet src) s.ctl with
  | some (_, r) =>
    let s := { s with ctl := r }
    (s.setReg .DDLVD 0 (src / 64) (s.reg .DDLVD 0 (src / 64) &&& ~~~wd (2 ^ (src % 64)))).inc F.DRETURN_COUNT 0 0
  | none => s

/-- DELIVERY_RETURN (12 R310). -/
def execDeliveryReturn (src : Fin 512) (s : State) : Host.Outcome State Fault Refusal := .next (s.deliveryReturn src.val)

/-- Is the thread at an issue opportunity for a pre-emption or a halt: READY, no load shadow open, no occupancy pending (12 R311, 13 R357)? -/
def State.atOpportunity (s : State) (c n : Nat) : Bool :=
  let x := s.thr c n
  x.st = .ready && x.loads.isEmpty && decide (x.readyAt ≤ s.now) && x.retry.isNone && s.active c

/-- May the requested pre-emption of the thread be taken now (12 R311)? -/
def State.canPreempt (s : State) (c n : Nat) : Bool :=
  let x := s.thr c n
  x.preempt && s.atOpportunity c n && !x.inh && s.fget F.THND_HEN c n = 1

/-- PREEMPTION (12 R311). -/
def execPreemption (dt : Nat) (c : Sys2Proof.CoreId) (n : Sys2Proof.ThreadId) (s : State) : Host.Outcome State Fault Refusal :=
  let s := s.advance dt
  .next (if s.canPreempt c.val n.val then s.takePreempt c.val n.val else s)

/-- The latch image with an SEV (12 R314). -/
def latchSev (fromCore fromN : Nat) (v : Word) : Word :=
  wset (wset (wset (wset v 0 1 1) 16 4 fromN) 20 6 (if fromCore < 64 then fromCore else fromCore - 64)) 26 1 (b2n (decide (64 ≤ fromCore)))

/-- An SEV reaches its thread; for a FREE context it is lost and counted (12 R315). -/
def State.sevArrival (s : State) (c n : Nat) : State :=
  match takeFirst (fun m => match m with | .sev d k _ _ => d = c && k = n | _ => false) s.ctl with
  | some (.sev _ _ fc fn, r) =>
    let s := { s with ctl := r }
    if (s.thr c n).st = .free then s.inc F.SEVLOST_COUNT c 0 else s.latch c n (latchSev fc fn)
  | _ => s

/-- SEV_ARRIVAL (12 R314, R315). -/
def execSevArrival (c : Sys2Proof.CoreId) (n : Sys2Proof.ThreadId) (s : State) : Host.Outcome State Fault Refusal :=
  .next (s.ctlAwake c.val (Ctl.isSevFor c.val n.val) fun s => s.sevArrival c.val n.val)

/-- The latch image with a DMA completion (12 R314). -/
def latchDma (v : Word) : Word := wset (wset v 1 1 1) 8 8 (min 255 (wbits v 8 8 + 1))

/-- The latch image with a timer that fell due (12 R314). -/
def latchTmr (handle : Nat) (v : Word) : Word := wset (wset v 2 1 1) 32 16 handle

/-! ### Register effects -/

/-- A write of ISWSET: PEND of source 16 + i for each bit i (12 R316). -/
def State.iswset (s : State) (t : Nat) (v : Word) : State :=
  let w := v.toNat * 2 ^ 16
  (s.setReg .IPEND t 0 (s.reg .IPEND t 0 ||| wd w)).setReg .IPEND t 1 (s.reg .IPEND t 1 ||| wd (w / 2 ^ 64))

/-- A write of DSWSET[k]: PEND of source 256 + 64 × k + i for each bit i (12 R317). -/
def State.dswset (s : State) (k : Nat) (v : Word) : State :=
  s.setReg .DPEND 0 (4 + k) (s.reg .DPEND 0 (4 + k) ||| v)

/-- A W1C write of IPEND or DPEND: DLVD clears with every bit written 1 (12 R307); a level that still holds sets PEND again. -/
def State.pendClear (s : State) (k dl : RegKind) (t i : Nat) (v : Word) : State :=
  ((s.setReg k t i (s.reg k t i &&& ~~~v)).setReg dl t i (s.reg dl t i &&& ~~~v)).levels

/-- The tile sources that exist (12 R306). -/
def tileSrcOk (i : Nat) : Bool := i < 8 || (16 ≤ i && i < 80)

/-- The device sources that exist (12 R306). -/
def devSrcOk (i : Nat) : Bool := i < 12 || (256 ≤ i && i < 512)

/-- Is a valid KWATCH entry naming the source (12 R316, R317 WATCHED, R320)? -/
def State.watched (s : State) (tsrc : Bool) (tile src : Nat) : Bool :=
  (List.range 32).any fun i =>
    s.fget F.KWATCH_VALID 0 i = 1 && s.fget F.KWATCH_SRC 0 i = src && s.fget F.KWATCH_TSRC 0 i = b2n tsrc &&
    (!tsrc || s.fget F.KWATCH_TILE 0 i = tile)

/-- A write of KWATCH[i] after the checks of 00 R402 (12 R320). -/
def State.kwatchWrite (s : State) (i : Nat) (v : Word) : WRes :=
  let src := wbits v 0 9
  let ts := wbits v 9 1
  let tile := wbits v 10 6
  let twin := wbits v 16 1 = 1 && (List.range 32).any fun j =>
    j ≠ i && s.fget F.KWATCH_VALID 0 j = 1 && s.fget F.KWATCH_SRC 0 j = src && s.fget F.KWATCH_TSRC 0 j = ts && s.fget F.KWATCH_TILE 0 j = tile
  if (if ts = 1 then !tileSrcOk src else !devSrcOk src) || (ts = 0 && tile ≠ 0) || twin then .refuse 4 none
  else .ok (s.setReg .KWATCH 0 i v)

/-- A write of IEN: reserved sources must be written 0 (12 R306, R316). -/
def reservedSrc (ok : Nat → Bool) (i : Nat) (v : Word) : Bool :=
  (List.range 64).any fun b => v.getLsbD b && !ok (64 * i + b)

/-- A write of DSRC[s] after the checks of 00 R402: with TCC 1, TTILE 4 to 63 are reserved (12 R317). -/
def State.dsrcWrite (s : State) (i : Nat) (v : Word) : WRes :=
  let moved := wbits v 12 7 ≠ wbits (s.reg .DSRC 0 i) 12 7
  if moved && wbits v 18 1 = 1 && decide (4 ≤ wbits v 12 6) then .refuse 2 none
  else .ok (s.setReg .DSRC 0 i (wset v 19 1 0))

end Sys2Proof.Machine
end

