-- ==== Sys2Proof/Machine/Progress.lean ====
section
/-! DEFINITION. Stall reports, the wait-for scan and its victim, and the strand deadlock of a core (08 R196 to R206). -/
namespace Sys2Proof.Machine

/-- A context dispatches on a tile: its idle count returns to 0 (08 R196). -/
def State.markDisp (s : State) (t c : Nat) : State :=
  if (s.tile t).cache.any fun e => e.ctx = c && !e.disp then
    s.onTile t fun x => { x with cache := x.cache.map fun e => if e.ctx = c then { e with disp := true, idle := 0, reported := false } else e }
  else s

/-- A stall report reaches the control complex; with SCANEN 0 it is only counted where it arose (08 R197, R208). -/
def State.stallReport (s : State) (c t : Nat) : State :=
  match takeFirst (fun m => m = Ctl.stall c t) s.ctl with
  | some (_, r) =>
    let s := { s with ctl := r }
    if s.fget F.DLKCFG_SCANEN 0 0 = 1 ∧ !(s.scan.pending.contains c) then
      { s with scan := { s.scan with pending := s.scan.pending ++ [c] } } else s
  | none => s

/-- STALL_REPORT (08 R196, R197). -/
def execStallReport (c : Sys2Proof.CtxId) (t : Sys2Proof.TileId) (s : State) : Host.Outcome State Fault Refusal :=
  .next (s.stallReport c.val t.val)

/-- Has the context dispatched on the tile within its last STALLN strokes (08 R197)? -/
def State.recentOn (s : State) (t c : Nat) : Bool :=
  match s.cached t c with
  | some e => e.disp || decide (e.quietFor < s.fget F.PRGCFG_STALLN t 0)
  | none => false

/-- Has the context dispatched nowhere in its TILESET within the last STALLN strokes? -/
def State.stalledNow (s : State) (c : Nat) : Bool := (tilesOf (s.ctx c).tileset).all fun t => !s.recentOn t c

/-- The answers of a context's tiles: it is declared stalled when none has dispatched (08 R197). -/
def State.contextStalled (s : State) (c : Nat) : State :=
  if s.scan.pending.contains c then
    let s := { s with scan := { s.scan with pending := s.scan.pending.filter (· ≠ c) } }
    if s.stalledNow c ∧ (s.ctx c).st = 1 ∧ !(s.ctx c).cert ∧ !(s.scan.stalled.contains c) then
      { s with scan := { s.scan with stalled := s.scan.stalled ++ [c] } } else s
  else s

/-- CONTEXT_STALLED (08 R197). -/
def execContextStalled (c : Sys2Proof.CtxId) (s : State) : Host.Outcome State Fault Refusal := .next (s.contextStalled c.val)

/-! ### The wait-for relation (08 R198, R199) -/

/-- The contexts with counted tokens on a tile (08 R190). -/
def Tile.counted (x : Tile) : List Nat :=
  let es := x.ents ++ x.c0 ++ x.wbuf ++ (x.spill.flatMap fun p => p.2.flatMap id) ++ (x.probes.flatMap fun p => p.found)
  (es.map fun e => e.tok.ctx).eraseDups

/-- The contexts of a core's threads. -/
def State.threadCtxs (s : State) (c : Nat) : List Nat :=
  ((coreThreads c).filter fun k => (s.thr k.1 k.2).st ≠ .free).map fun k => (s.thr k.1 k.2).ctx

/-- What a waiting thread's context waits for (08 R198). -/
def State.threadEdges (s : State) (c n : Nat) : List Nat :=
  let x := s.thr c n
  if x.st ≠ .wait then []
  else match x.wait with
    | .lock lk => match idThread (s.cell (lk / 64) (lk % 64)).val with
      | some (d, k) => [(s.thr d k).ctx]
      | none => []
    | .chan t q => let o := s.chanOwner t q; [(s.thr o.1 o.2).ctx]
    | .qFull t _ => s.threadCtxs t
    | .credit l => (s.lane l).win.map fun p => p.2.ctx
    | .join => ((coreThreads c).filter fun k => (s.thr k.1 k.2).pvalid && (s.thr k.1 k.2).parent = n && (s.thr k.1 k.2).st ≠ .free).map
        fun k => (s.thr k.1 k.2).ctx
    | _ => []

/-- Edges from the threads of every core. -/
def State.edgesThreads (s : State) : List (Nat × Nat) :=
  s.allThreads.flatMap fun k => (s.threadEdges k.1 k.2).map fun b => ((s.thr k.1 k.2).ctx, b)

/-- Edges from the tokens that wait in a tile's input stages for room, and from firings held for lane credit (08 R198). -/
def State.edgesTile (s : State) (x : Tile) : List (Nat × Nat) :=
  let open_ := x.counted.filter fun c => !(s.ctx c).cert
  (x.stallNoted.flatMap fun c => match x.stageHead c with
    | some (k, _) => open_.map fun b => (k.tok.ctx, b)
    | none => []) ++
  ((x.c0q ++ x.ready).flatMap fun k => match k.kind with
    | .fire f =>
      let l := nIdx0 f.word % 4096
      if allocTask l k ∧ (s.lane l).credit = 0 then (s.lane l).win.map fun p => (f.ctx, p.2.ctx) else []
    | _ => [])

/-- The contexts the scan weighs: those declared stalled, and certified OPEN contexts that have not dispatched (08 R197). -/
def State.scanSet (s : State) : List Nat :=
  s.scan.stalled ++ (s.ctxs.filter fun p => p.2.st = 1 && p.2.cert && s.stalledNow p.1).map fun p => p.1

/-- The wait-for relation among the contexts of the scan, without edges from a context to itself. -/
def State.waitFor (s : State) : List (Nat × Nat) :=
  let v := s.scanSet
  ((s.edgesThreads ++ s.tiles.flatMap fun p => s.edgesTile p.2).filter fun e =>
    e.1 ≠ e.2 && v.contains e.1 && v.contains e.2).eraseDups

/-- The contexts reached from a list by edges, in at most `fuel` steps. -/
def reachSet (es : List (Nat × Nat)) (l : List Nat) : Nat → List Nat
  | 0 => l
  | k + 1 => reachSet es ((l ++ (es.filter fun e => l.contains e.1).map fun e => e.2).eraseDups) k

/-- Does a path of edges lead from a context back to itself (08 R199)? -/
def onCycle (es : List (Nat × Nat)) (c : Nat) : Bool :=
  (reachSet es ((es.filter fun e => e.1 = c).map fun e => e.2) es.length).contains c

/-- The members of a context's cycle: the contexts it reaches that reach it. -/
def cycleOf (es : List (Nat × Nat)) (c : Nat) : List Nat :=
  (es.map fun e => e.1).eraseDups.filter fun d =>
    (reachSet es ((es.filter fun e => e.1 = c).map fun e => e.2) es.length).contains d &&
    (reachSet es ((es.filter fun e => e.1 = d).map fun e => e.2) es.length).contains c

/-- The rank of a victim, to minimise: lowest PRI, latest OPENED, highest CTX (08 R199). -/
def State.victimRank (s : State) (c : Nat) : Nat :=
  let d := s.ctx c
  d.pri * 2 ^ 80 + (2 ^ 64 - 1 - d.opened.toNat) * 2 ^ 16 + (65535 - c)

/-- The scan's report: DLKLOG, the device source, the event (08 R202, 13 R347). -/
def State.scanReport (s : State) (vctx len : Nat) (cert : Bool) : State :=
  let s := s.setReg .DLKLOG 0 0 (wd (vctx + min 255 len * 2 ^ 16 + b2n cert * 2 ^ 24 + s.count % 2 ^ 32 * 2 ^ 32))
  (s.raiseDev 1).event 3 (vctx + b2n cert * 2 ^ 16 + min 255 len * 2 ^ 24)

/-- The scan ends: SCANS increments and nothing is held of it (08 R202). -/
def State.scanEnd (s : State) : State :=
  { s.inc F.DLKCNT_SCANS 0 0 with scan := { s.scan with stalled := [], taken := false, victim := none, members := [] } }

/-- The snapshot is complete: the relation is built, and a victim is chosen (08 R198, R199). -/
def State.snapshotComplete (s : State) : State :=
  if s.scan.taken ∧ s.scan.victim = none then
    let es := s.waitFor
    let cyc := ((es.map fun e => e.1).eraseDups).filter fun c => onCycle es c
    match minBy s.victimRank (cyc.filter fun c => !(s.ctx c).cert) with
    | some v =>
      let m := cycleOf es v
      if s.fget F.DLKCFG_VICT 0 0 = 1 then { s with scan := { s.scan with victim := some v, members := m } }
      else (s.scanReport 0xFFFF m.length false).scanEnd
    | none =>
      match cyc with
      | [] => s.scanEnd
      | c :: _ => (s.scanReport 0xFFFF (cycleOf es c).length true).scanEnd
  else s

/-- SNAPSHOT_COMPLETE (08 R198, R199). -/
def execSnapshotComplete (dt : Nat) (s : State) : Host.Outcome State Fault Refusal := .next (s.advance dt).snapshotComplete

/-- The idle counts of contexts restart from 0 on every tile (08 R200, R201). -/
def State.clearIdle (s : State) (l : List Nat) : State :=
  let g := fun (e : CEnt) => if l.contains e.ctx then { e with idle := 0, reported := false } else e
  s.tiles.foldl (fun s p => s.onTile p.1 fun x => { x with cache := x.cache.map g }) s

/-- Has a context dispatched since the snapshot (08 R200)? -/
def State.dispSince (s : State) (c : Nat) : Bool :=
  s.tiles.any fun p => match p.2.cache.find? fun e => e.ctx = c with
    | some e => e.disp || decide (e.quietFor + s.scan.snap < s.count)
    | none => false

/-- The victim is drained, unless a member has dispatched or the victim is CLOSING (08 R200, R201). -/
def State.victimDrain (s : State) : State :=
  match s.scan.victim with
  | none => s
  | some v =>
    let m := s.scan.members
    if (s.ctx v).st ≠ 1 then s.scanEnd
    else if (m.any fun c => s.dispSince c) then
      { s.clearIdle m with scan := { s.scan with stalled := [], taken := false, victim := none, members := [] } }
    else
      let ths := s.allThreads.filter fun k => (s.thr k.1 k.2).st ≠ .free && (s.thr k.1 k.2).ctx = v
      let s := s.startClose v 0x0D
      let s := ths.foldl (fun s k => s.resetWithToken k.1 k.2 0x0D) s
      let s := (s.inc F.DLKCNT_VICTIMS 0 0).clearIdle (m.filter (· ≠ v))
      (s.scanReport v m.length false).scanEnd

/-- VICTIM_DRAIN (08 R200, R201). -/
def execVictimDrain (dt : Nat) (s : State) : Host.Outcome State Fault Refusal := .next (s.advance dt).victimDrain

/-! ### Strand deadlock (08 R203 to R206) -/

/-- The stroke period in force, in beats (04 R83). -/
def State.periodBeats (s : State) : Nat := s.stroke.period

/-- The first beat that the all-wait condition holds in whole, if it holds. -/
def Tile.waitBeat (x : Tile) : Option Nat := x.allWait.map fun c => (c + 7) / 8

/-- A strand deadlock is declared after P whole beats of the all-wait condition (08 R204). -/
def State.strandDeadlock (s : State) (c : Nat) : State :=
  let x := s.tile c
  match x.waitBeat with
  | none => s
  | some b =>
    if s.fget F.PRGCFG_SDEN c 0 = 1 ∧ !x.sdDone ∧ 8 * (b + s.periodBeats) ≤ s.now + 1 ∧ s.allWaitNow c then
      let mask := (List.range 16).foldl (fun m n => if (s.thr c n).st = .wait then m + 2 ^ n else m) 0
      let s := (s.inc F.SDLK_DETECT_COUNT c 0).setReg .SDSTAT c 0
        (wd (mask + s.fget F.PRGCFG_SDACT c 0 * 2 ^ 16 + s.count % 2 ^ 40 * 2 ^ 24))
      let s := if c < 64 then s.raiseTile c 1 else s
      s.onTile c fun x => { x with sdDone := true, sdAct := some (8 * (s.now / 8 + 1)) }
    else s

/-- STRAND_DEADLOCK (08 R203, R204). -/
def execStrandDeadlock (dt : Nat) (c : Sys2Proof.CoreId) (s : State) : Host.Outcome State Fault Refusal :=
  .next ((s.advance dt).strandDeadlock c.val)

/-- The DEADLOCK wake of a thread: it leaves the waiters of its cell and completes with the status (08 R206). -/
def State.deadlockWake (s : State) (c n : Nat) : State :=
  (s.dropWaiter c n).wake c n (.status 0x800000000000000D)

/-- The action of a declaration, in the first cycle of the next beat; a real wake withdraws the DEADLOCK wake (08 R205, R206). -/
def State.strandAct (s : State) (c : Nat) : State :=
  match (s.tile c).sdAct with
  | none => s
  | some at_ =>
    if s.now < at_ then s
    else
      let act := s.fget F.SDSTAT_ACTN c 0
      let s := s.onTile c fun x => { x with sdAct := none }
      if act = 1 then
        if (s.tile c).ready.any isThreadTask || (s.tile c).c0q.any isThreadTask then s.inc F.SDLK_WDRAWN_COUNT c 0
        else match oldestWait s (fun x => x.st = .wait && x.wres = none) (coreThreads c) with
          | some (_, n) => s.deadlockWake c n
          | none => s
      else if act = 2 then
        ((coreThreads c).filter fun k => (s.thr k.1 k.2).st = .wait).foldl (fun s k => s.resetWithToken k.1 k.2 0x0D) s
      else s

/-- STRAND_DEADLOCK_ACTION (08 R205, R206). -/
def execStrandDeadlockAction (dt : Nat) (c : Sys2Proof.CoreId) (s : State) : Host.Outcome State Fault Refusal :=
  .next ((s.advance dt).strandAct c.val)

end Sys2Proof.Machine
end

