-- ==== Sys2Proof/Machine/Mem.lean ====
section
/-! DEFINITION. Memory accesses of threads and firings: the checks of the address map, the parts of an access, where each part waits, and the return of loaded data (06 R144, R145, R155; 10 R243 to R250). -/
namespace Sys2Proof.Machine

/-- The bank of a scratchpad offset (10 Scratchpad banks). -/
def bankOf (off : Nat) : Nat := off / 8 % 32

/-- MODE of a bank: 0 ON, 1 RET, 2 OFF; a domain that is OFF has every bank OFF (10 R253, R254). -/
def State.bankMode (s : State) (t b : Nat) : Nat :=
  if s.fget F.TPWR_STATE 0 t = 3 then 2 else wbits (s.reg .BANKPWR t 0) (2 * b) 2

/-- The address of a memory region's byte, as memory holds it: the alias resolved. -/
def State.memAddr (s : State) (own : Option Nat) (a : Nat) : Nat :=
  match s.region own a with
  | .spad t o => spadAddr t o
  | _ => a

/-- Does a write of `size` bytes cover whole words only? -/
def wholeWords (a size : Nat) : Bool := a % 8 = 0 && size % 8 = 0

/-- Is one of the words of [a, a+size) marked with an uncorrectable error or as poisoned (10 R255, R258)? -/
def State.badWord (s : State) (a size : Nat) : Bool :=
  (List.range ((a + size - 1) / 8 + 1 - a / 8)).any fun k => s.ecc.unc.contains (a / 8 + k) || s.ecc.poison.contains (a / 8 + k)

/-- Where a data address lies: channel, segment and byte of the segment, before any map-out (10 R257). -/
def dramPlace (d : Nat) : Nat × Nat × Nat :=
  let st := d / 256
  let ch := (st % 32).xor (st / 32 % 32)
  let j := st / 32
  (ch, j / 7, j % 7 * 256 + d % 256)

/-- Has a segment of a channel been moved into the reserve (10 R260)? -/
def State.segMoved (s : State) (ch seg : Nat) : Bool :=
  s.fget F.DRSTAT_MOST 0 0 ≠ 0 && s.fget F.DRSTAT_MOCH 0 0 = ch && decide (seg < 1015808) && decide (seg < s.fget F.DRSTAT_MOPTR 0 0)

/-- The k-th channel of the 31 that are not mapped out (10 R257). -/
def survivor (out k : Nat) : Nat := if k < out then k else k + 1

/-- Channel and byte address in the channel that hold a data address now (10 R257, R260). -/
def State.dramAt (s : State) (d : Nat) : Nat × Nat :=
  let (ch, seg, o) := dramPlace d
  if s.segMoved ch seg then (survivor ch (seg % 31), (1015808 + seg / 31) * 2048 + o) else (ch, seg * 2048 + o)

/-- Does the data address lie in the segment that is being moved (10 R260)? -/
def State.segBusy (s : State) (d : Nat) : Bool :=
  let (ch, seg, _) := dramPlace d
  s.fget F.DRSTAT_MOST 0 0 = 1 && s.fget F.DRSTAT_MOCH 0 0 = ch && seg = s.fget F.DRSTAT_MOPTR 0 0

/-- An access met an uncorrectable error: the tile's UNC or the channel's counts (10 R255, R258). -/
def State.countUnc (s : State) (a : Nat) : State :=
  if 0x10000000000 ≤ a then (s.inc F.SPECC_UNC ((a - 0x10000000000) / 0x1000000) 0).raiseTile ((a - 0x10000000000) / 0x1000000) 4
  else (s.inc F.CHSTAT_UNC 0 (s.dramAt a).1).raiseDev 5

/-- An access met a correctable error: the tile's COR or the channel's counts (10 R255, R258). -/
def State.countCor (s : State) (a : Nat) : State :=
  if 0x10000000000 ≤ a then s.inc F.SPECC_COR ((a - 0x10000000000) / 0x1000000) 0 else s.inc F.CHSTAT_COR 0 (s.dramAt a).1

/-- The correctable marks of the words an access touches are used up: counted, and kept for the write-back when the access is a read of the scratchpad. -/
def State.useCor (s : State) (a size : Nat) (keep : Bool) : State :=
  let ws := (s.ecc.cor).filter fun w => decide (a / 8 ≤ w) && decide (w ≤ (a + size - 1) / 8)
  if ws.isEmpty then s
  else
    let s := s.countCor a
    if keep ∧ 0x10000000000 ≤ a then
      s.onTile ((a - 0x10000000000) / 0x1000000) fun x => { x with ecback := x.ecback ++ ws.filter fun w => !x.ecback.contains w }
    else { s with ecc := { s.ecc with cor := s.ecc.cor.filter fun w => !ws.contains w } }

/-- A refused access is counted when it met an uncorrectable error: a partial write does at its refusal (10 R255). -/
def State.noteFault (s : State) (own : Option Nat) (a code : Nat) : State :=
  if code = 0x10 then s.countUnc (s.memAddr own a) else s

/-- May a requester reach the ROM, NOR and Riari windows (10 R245)? -/
def isControl : Sys2Proof.Req → Bool
  | .thread c _ => 64 ≤ c
  | .aklofy _ => true
  | _ => false

/-- Is [a, a+n) of the LPDDR4X in the container of a graph reel that is staged or being copied (14 R373)? -/
def State.inReel (s : State) (a n : Nat) : Bool :=
  (s.riari.reelAt.toList ++ s.riari.loading.map fun r => r.2).any fun r => decide (r.1 < a + n) && decide (a < r.1 + r.2)

/-- The fault of an access of `size` bytes, 1 to 8, or none (10 R244, R245, R253; 00 R9; 02 R26, R47, R48; 14 R373). -/
def State.accessFault (s : State) (who : Sys2Proof.Req) (a size : Nat) (write : Bool) : Option Nat :=
  let own := reqTile who
  let word := a % 8 = 0 && size = 8
  match s.region own a with
  | .dram o =>
    if s.dsize < o + size then some 3
    else if write && (s.inReel o size || (s.inCtxTable o size && !isControl who)) then some 3
    else if s.fget F.RDCFG_EN 0 0 = 1 ∧ s.fget F.RDCFG_SHBASE 0 0 * 2 ^ 20 < o + size ∧ o < (s.fget F.RDCFG_SHBASE 0 0 + 1) * 2 ^ 20 then some 3
    else if write ∧ !wholeWords a size ∧ s.badWord o size then some 0x10 else none
  | .spad t o =>
    if 0x200000 < o + size then some 3
    else if s.bankMode t (bankOf o) = 2 ∨ s.bankMode t (bankOf (o + size - 1)) = 2 then some 3
    else if write ∧ !wholeWords a size ∧ s.badWord (spadAddr t o) size then some 0x10 else none
  | .graph _ i => if write || decide (0x20000 < 8 * i + a % 8 + size) then some 3 else none
  | .diag _ o => if write || decide (0x44200 < o + size) then some 3 else none
  | .treg _ _ => if word then none else some 3
  | .dreg _ => if word then none else some 3
  | .mailbox o => if 4096 < o + size then some 3 else none
  | .rom o => if isControl who && !write && decide (o + size ≤ 0x10000) then none else some 3
  | .nor o => if isControl who && !write && decide (o + size ≤ 0x10000000) then none else some 3
  | .riari _ => if isControl who && word then none else some 3
  | .unmapped => some 3

/-- The parts of an access: (address, size, offset), split at each multiple of `unit` (10 R249). -/
def splitParts (unit a size : Nat) : List (Nat × Nat × Nat) :=
  let first := min size (unit - a % unit)
  if first = size then [(a, size, 0)] else [(a, first, 0), (a + first, size - first, first)]

/-- Where a request for memory starts: it waits at its bank, at the memory controller, at the mailbox, or crosses the mesh to a remote tile (10 R246, R248). -/
inductive Route where
  | sent (s : State)
  | full
  | fenced
  deriving DecidableEq, Repr

/-- The router and port of a requester (11 R272; 10 R406). -/
def State.reqSite (s : State) : Sys2Proof.Req → Nat × Bool
  | .thread c _ => (s.routerOf c, false)
  | .firing t _ => (s.routerOf t, false)
  | .dma t _ => (s.routerOf t, false)
  | .host => (32, true)
  | .debug => (35, false)
  | .aklofy _ => (35, false)

/-- Flits of a bulk request: a head, and data flits of 32 bytes for a write or an atomic (11 R270). -/
def reqFlits (op : MemOp) (size : Nat) : Nat := if op = .read then 1 else 1 + (size + 31) / 32

/-- Parts of a request put before the banks of a tile. -/
def State.toBanks (s : State) (m : MemReq) : State :=
  let l := (splitParts 8 m.addr m.size).map fun p =>
    { m with addr := p.1, size := p.2.1, off := m.off + p.2.2, data := m.data / 256 ^ p.2.2 % 256 ^ p.2.1 }
  { s with bankReqs := s.bankReqs ++ l }

/-- How many parts an access to an address has. -/
def State.partsOf (s : State) (own : Option Nat) (a size : Nat) : Nat :=
  match s.region own a with
  | .dram _ => (splitParts 256 a size).length
  | .spad _ _ => (splitParts 8 a size).length
  | .mailbox _ => (splitParts 8 a size).length
  | _ => 1

/-- A memory request leaves its requester. -/
def State.startReq (s : State) (m : MemReq) : Route :=
  let own := reqTile m.who
  match s.region own m.addr with
  | .spad t o =>
    let m := { m with addr := spadAddr t o }
    if own = some t then .sent (s.toBanks m)
    else
      let p := s.reqSite m.who
      match s.inject p.1 p.2 (mkPacket 1 (m.cls + 1) (s.routerOf t) false p.1 p.2 (reqFlits m.op m.size) (.req m)) with
      | .sent s => .sent s
      | .full => .full
      | .fenced _ => .fenced
  | .dram _ =>
    let l := (splitParts 256 m.addr m.size).map fun p =>
      { m with addr := p.1, size := p.2.1, off := m.off + p.2.2, data := m.data / 256 ^ p.2.2 % 256 ^ p.2.1 }
    .sent { s with drq := s.drq ++ l }
  | .mailbox o =>
    let l := (splitParts 8 o m.size).map fun p =>
      { m with addr := p.1, size := p.2.1, off := m.off + p.2.2, data := m.data / 256 ^ p.2.2 % 256 ^ p.2.1 }
    .sent { s with mbxq := s.mbxq ++ l }
  | _ => .sent s

/-! ### Loads of a thread (06 R144, R145) -/

/-- The registers of a thread as a load keeps them. -/
def Thread.snap (x : Thread) : Snap := ⟨x.w, x.f, x.fl, x.ph, x.pl, x.ls, x.le, x.lc⟩

/-- A thread with the registers a load kept. -/
def Thread.restore (x : Thread) (p : Snap) : Thread :=
  { x with w := p.w, f := p.f, fl := p.fl, ph := p.ph, pl := p.pl, ls := p.ls, le := p.le, lc := p.lc }

/-- What a load writes, in a kept set of registers. -/
def Load.intoSnap (l : Load) (p : Snap) : Snap :=
  let x := (({ Thread.rst with w := p.w, f := p.f } : Thread).landLoad l)
  { p with w := x.w, f := x.f }

/-- Has the load's data arrived without a fault? -/
def Load.good (l : Load) : Bool := l.arrived && l.code = 0

/-- Is a load's shadow past and its data there? -/
def Load.due (l : Load) : Bool := l.good && decide (2 ≤ l.passed)

/-- Loads whose shadow is past and whose data is there are written, oldest first; the registers that later loads keep follow (06 R144). -/
def Thread.landPassed (x : Thread) : Thread :=
  let out := x.loads.takeWhile Load.due
  let rest := (x.loads.dropWhile Load.due).map fun k => { k with snap := out.foldl (fun p l => l.intoSnap p) k.snap }
  { out.foldl Thread.landLoad x with loads := rest }

/-- The loads before the first that has not arrived well, and the rest. -/
def splitGood : List Load → List Load × List Load
  | [] => ([], [])
  | l :: r => if l.good then let p := splitGood r; (l :: p.1, p.2) else ([], l :: r)

/-- Registers kept by a load, brought up to date with the loads before it. -/
def Thread.rollBack (x : Thread) (before : List Load) (l : Load) : Thread :=
  { x.restore l.snap with loads := before }

/-- Is this request of the thread one of an instruction after a load (06 R145)? -/
def MemReq.afterLoad (m : MemReq) (c n id : Nat) : Bool := m.who = .thread c n && decide (id ≤ m.id)

/-- The requests of instructions in a faulting load's shadow are withdrawn: they have no effect (06 R145). -/
def State.dropShadow (s : State) (c n id : Nat) : State :=
  let gone := (s.bankReqs ++ s.drq).filter fun m => m.afterLoad c n id && m.op ≠ .read
  let s := { s with bankReqs := s.bankReqs.filter (fun m => !m.afterLoad c n id), drq := s.drq.filter (fun m => !m.afterLoad c n id) }
  s.onThr c n fun x => { x with outst := x.outst - gone.length }

/-- May a request be granted: a write of a thread waits until the thread's earlier loads have finished (06 R145), and nothing is granted before its cycle (10 R248)? -/
def State.reqReady (s : State) (m : MemReq) : Bool :=
  decide (m.due ≤ s.now) &&
  match m.who with
  | .thread c n => m.op = .read || (s.thr c n).loads.all fun l => l.arrived || decide (m.id ≤ l.id)
  | _ => true

/-- After a load's data is known: the first load that failed, with every earlier load there, makes the thread trap at the load; otherwise the loads past their shadows are written (06 R144, R145). -/
def State.settle (s : State) (c n : Nat) : State :=
  let x := s.thr c n
  match splitGood x.loads with
  | (before, l :: _) =>
    if l.arrived then ((s.setThr c n (x.rollBack before l)).dropShadow c n l.id).trap c n l.code l.pc false
    else s.setThr c n (x.landPassed)
  | (_, []) => (s.setThr c n (x.landPassed)).pcCheck c n

/-- The value a load gives a destination from the bytes read (06 R154). -/
def loadVal (ext : Ext) (size v : Nat) : Word :=
  match ext with
  | .sign => sext64 (8 * size) v
  | .zero => wd (v % 2 ^ (8 * size))

/-- A part of a load's data reaches its thread. -/
def Load.part (l : Load) (off data code : Nat) : Load :=
  { l with parts := l.parts - 1, acc := l.acc + data * 256 ^ off, code := if l.code = 0 then code else l.code }

/-- A part of a thread's access has been performed: the data goes to its load, and a store or atomic is no longer outstanding. -/
def State.threadPart (s : State) (c n id off data code : Nat) (write : Bool) : State :=
  s.onThr c n fun x => { x with outst := x.outst - b2n write, loads := x.loads.map fun l => if l.id = id then l.part off data code else l }

/-- A load's data is delivered: the oldest load of the thread whose parts are all in (06 R144). -/
def State.loadComplete (s : State) (c n : Nat) : State :=
  let x := s.thr c n
  match x.loads.find? fun l => !l.arrived && l.parts = 0 with
  | some l =>
    let fin := fun (k : Load) => if k.id = l.id then { k with arrived := true, vals := if k.vals.isEmpty then [loadVal k.ext k.size k.acc] else k.vals } else k
    (s.setThr c n { x with loads := x.loads.map fin }).settle c n
  | none => s

/-- LOAD_COMPLETE (06 R144, R145). -/
def execLoadComplete (dt : Nat) (c : Sys2Proof.CoreId) (n : Sys2Proof.ThreadId) (s : State) : Host.Outcome State Fault Refusal :=
  .next ((s.advance dt).loadComplete c.val n.val)

/-- A part of a firing's access has been performed (06 R155). -/
def State.firePart (s : State) (id off data code : Nat) : State :=
  { s with fireMem := s.fireMem.map fun f =>
      if f.id = id then { f with parts := f.parts - 1, acc := f.acc + data * 256 ^ off, code := if f.code = 0 then code else f.code } else f }

/-- 64-byte units that an access of `size` bytes touches (04 R97). -/
def membUnits (a size : Nat) : Nat := (a + size - 1) / 64 + 1 - a / 64

/-- Bulk flits that an access of a requester's tile puts on the mesh (04 R97): none to its own tile. -/
def State.bulkFlits (s : State) (own : Option Nat) (a size : Nat) (op : MemOp) : Nat :=
  let f := reqFlits op size
  match s.region own a with
  | .spad t _ => if own = some t then 0 else f
  | .graph t _ => if own = some t then 0 else f
  | .diag t _ => if own = some t then 0 else f
  | .treg t _ => if own = some t then 0 else f
  | _ => f

end Sys2Proof.Machine
end

