-- ==== Sys2Proof/Machine/Helpers.lean ====
section
/-! DEFINITION. The test helpers of a tile: scrambler, backgrounds, fail accumulator, fail log and direct verdicts (09 R230 to R242). -/
namespace Sys2Proof.Machine

/-- Descriptor i of scrambler table n (R234). -/
def State.scrDesc (s : State) (t n i : Nat) : Nat := wbits (s.reg .SCRTAB t (16 * n + i / 4)) (16 * (i % 4)) 15

/-- One output bit of the scrambler (R234). -/
def scrBit (a d : Nat) : Bool :=
  if bit d 14 then false else (a.testBit (bits d 0 6)).xor ((bit d 6).xor (bit d 7 && a.testBit (bits d 8 6)))

/-- SCRM: the physical address of a logical address (R234). -/
def State.scrm (s : State) (t n : Nat) (a : Word) : Word :=
  wd ((List.range 64).foldl (fun d i => d + b2n (scrBit a.toNat (s.scrDesc t n i)) * 2 ^ i) 0)

/-- DBKG: the data background word (R235). -/
def State.dbkg (s : State) (t n : Nat) (a : Word) : Word :=
  let p := s.reg .BPAT t n
  if ones (a &&& s.reg .BMSK t n).toNat 64 % 2 = 1 then ~~~p else p

/-! ### Fail accumulator (R238 to R242) -/

/-- The CAM entry of a block's row (kind 0) or column (kind 1). -/
def State.camFind (s : State) (t k kind idx : Nat) : Option Nat :=
  (List.range 512).find? fun e =>
    s.fget F.FACAM_VALID t e = 1 && s.fget F.FACAM_BLK t e = k && s.fget F.FACAM_KIND t e = kind && s.fget F.FACAM_INDEX t e = idx

/-- Count of a row or column; 0 where no entry holds it. -/
def State.camCount (s : State) (t k kind idx : Nat) : Nat :=
  match s.camFind t k kind idx with
  | some e => s.fget F.FACAM_CNT t e
  | none => 0

/-- The entries of a block are freed. -/
def State.camFree (s : State) (t k : Nat) : State :=
  (List.range 512).foldl (fun s e =>
    if s.fget F.FACAM_VALID t e = 1 ∧ s.fget F.FACAM_BLK t e = k then s.setReg .FACAM t e 0 else s) s

/-- One more fail in a row or column, or OVF when the CAM is full; the limit past which it is must-repair. -/
def State.camAdd (s : State) (t k kind idx limit : Nat) : State :=
  match s.camFind t k kind idx with
  | some e =>
    let c := s.fget F.FACAM_CNT t e
    let s := s.fset F.FACAM_CNT t e (min 255 (c + 1))
    if c = limit then (if kind = 0 then s.inc F.RBCFG_MR 0 k else s.inc F.RBCFG_MC 0 k) else s
  | none =>
    match (List.range 512).find? fun e => s.fget F.FACAM_VALID t e = 0 with
    | none => s.fset F.RBCFG_OVF 0 k 1
    | some e =>
      let s := s.setReg .FACAM t e (wd (k + kind * 2 ^ 12 + 2 ^ 13 + 2 ^ 14 + idx * 2 ^ 24))
      if limit = 0 then (if kind = 0 then s.inc F.RBCFG_MR 0 k else s.inc F.RBCFG_MC 0 k) else s

/-- EARLY: MR > SR or MC > SC. -/
def State.rbEarly (s : State) (k : Nat) : Bool :=
  decide (s.fget F.RBCFG_SR 0 k < s.fget F.RBCFG_MR 0 k) || decide (s.fget F.RBCFG_SC 0 k < s.fget F.RBCFG_MC 0 k)

/-- The result word of ACC and QUERY, without the bits RMNEW, CMNEW and IGN. -/
def State.rbView (s : State) (t k : Nat) (a : Word) : Nat :=
  let r := s.camCount t k 0 (wbits a 32 32)
  let c := s.camCount t k 1 (wbits a 0 32)
  b2n (decide (s.fget F.RBCFG_SC 0 k < r)) * 4 + b2n (decide (s.fget F.RBCFG_SR 0 k < c)) * 8 + s.fget F.RBCFG_OVF 0 k * 16
    + b2n (s.rbEarly k) * 64 + r * 256 + c * 65536

/-- ACC. -/
def State.rbAcc (s : State) (t k : Nat) (a : Word) : Word × State :=
  if s.fget F.RBST_STATE 0 k = 1 then
    let r0 := s.camCount t k 0 (wbits a 32 32)
    let c0 := s.camCount t k 1 (wbits a 0 32)
    let s := (s.camAdd t k 0 (wbits a 32 32) (s.fget F.RBCFG_SC 0 k)).camAdd t k 1 (wbits a 0 32) (s.fget F.RBCFG_SR 0 k)
    let rn := decide (r0 ≤ s.fget F.RBCFG_SC 0 k) && decide (s.fget F.RBCFG_SC 0 k < s.camCount t k 0 (wbits a 32 32))
    let cn := decide (c0 ≤ s.fget F.RBCFG_SR 0 k) && decide (s.fget F.RBCFG_SR 0 k < s.camCount t k 1 (wbits a 0 32))
    (wd (s.rbView t k a + b2n rn + b2n cn * 2), s)
  else (wd (s.rbView t k a + 32), s)

/-- CLOSE. -/
def State.rbClose (s : State) (t k : Nat) : Word × State :=
  let moved := s.fget F.RBST_STATE 0 k = 1
  let ovf := s.fget F.RBCFG_OVF 0 k
  let d := s.fget F.RBCFG_MR 0 k + s.fget F.RBCFG_MC 0 k * 2 ^ 7 + ovf * 2 ^ 14 + b2n (s.rbEarly k) * 2 ^ 15 + b2n (!decide moved) * 2 ^ 16
  let s := if moved then
      (if ovf = 1 then (s.fset F.RBST_STATE 0 k 5).camFree t k
       else (s.fset F.RBST_STATE 0 k 2).fset F.RBST_DUE 0 k (s.count + 2))
    else s
  (wd d, s)

/-- DONE: a CLOSED block takes the outcome before cycle 0 of stroke DUE (R239, R242). -/
def State.rbDone (s : State) (t k : Nat) (a : Word) : Word × State :=
  if s.fget F.RBST_STATE 0 k = 2 ∧ s.count < s.fget F.RBST_DUE 0 k then
    (0, (s.fset F.RBST_STATE 0 k (wbits a 0 4)).camFree t k)
  else (1, s)

/-- The fault of a FACC form on its operands, if any (R239). -/
def State.faccFault (s : State) (t op : Nat) (a b : Word) : Option Nat :=
  if wbits b 12 52 ≠ 0 then some 2
  else if s.fget F.RBCFG_EN 0 (wbits b 0 12) = 0 ∨ s.fget F.RBCFG_HOME 0 (wbits b 0 12) ≠ t then some 3
  else if op = 1 ∧ a ≠ 0 then some 2
  else if op = 3 ∧ !(decide (3 ≤ a.toNat) && decide (a.toNat ≤ 6)) then some 2
  else none

/-- The four FACC operations. -/
def State.facc (s : State) (t op : Nat) (a b : Word) : Word × State :=
  let k := wbits b 0 12
  match op with
  | 0 => s.rbAcc t k a
  | 1 => s.rbClose t k
  | 2 => (wd (s.rbView t k a), s)
  | _ => s.rbDone t k a

/-- A block still CLOSED in cycle 0 of stroke DUE becomes LATE (R242). -/
def State.repairLate (s : State) (k : Nat) : State :=
  if s.fget F.RBST_STATE 0 k = 2 ∧ s.fget F.RBST_DUE 0 k ≤ s.count then
    let t := s.fget F.RBCFG_HOME 0 k
    let s := (s.fset F.RBST_STATE 0 k 7).camFree t k
    s.sendFault none t ⟨mkTag 0 t k 0 0 0 4, mkDst s.devnum 0 0 0, s.faultVal 0x0B 4 0 t false, 0⟩
  else s

/-- REPAIR_LATE (R242). -/
def execRepairLate (dt : Nat) (b : Fin 4096) (s : State) : Host.Outcome State Fault Refusal :=
  .next ((s.advance dt).repairLate b.val)

/-- A write of RBCFG after the rights and field checks (R238, 00 R401): EN opens or frees the block. -/
def State.rbcfgWrite (s : State) (k : Nat) (v : Word) : WRes :=
  let old := s.reg .RBCFG 0 k
  let en := wbits old 20 1 = 1
  if en && wbits v 0 20 ≠ wbits old 0 20 then .refuse 3 none
  else if en && wbits v 20 1 = 0 then
    let s := (s.camFree (wbits old 14 6) k).setReg .RBCFG 0 k (wd (wbits old 0 20))
    .ok ((s.fset F.RBST_STATE 0 k 0))
  else if !en && wbits v 20 1 = 1 then
    .ok ((s.setReg .RBCFG 0 k (wset old 0 21 v.toNat)).fset F.RBST_STATE 0 k 1)
  else .ok (s.setReg .RBCFG 0 k (wset old 0 21 v.toNat))

/-! ### Fail log (R236, R237) -/

/-- FLOG: the status, and the record appended to the tile's ring. -/
def State.flog (s : State) (t kind : Nat) (a b c : Word) : Word × State :=
  if s.fget F.FLOGCFG_EN t 0 = 0 then (3, s)
  else
    let h := s.fget F.FLPTR_HEAD t 0
    let tl := s.fget F.FLPTR_TAIL t 0
    let size := 2 ^ s.fget F.FLOGCFG_LOG2N t 0
    let full := size ≤ (tl + 2 ^ 32 - h) % 2 ^ 32
    if full ∧ s.fget F.FLOGCFG_WRAP t 0 = 0 then (2, (s.inc F.FLDROP_COUNT t 0).raiseTile t 6)
    else
      let at_ := s.ringAddr t (s.fget F.FLBASE_BASE t 0 * 32 + 32 * (tl % size))
      let w1 := wbits b 0 48 + kind * 2 ^ 48 + t % 64 * 2 ^ 50
      let s := s.put at_ 32 (s.slate.toNat + w1 * 2 ^ 64 + a.toNat * 2 ^ 128 + c.toNat * 2 ^ 192)
      let s := s.fset F.FLPTR_TAIL t 0 (tl + 1)
      if full then (1, (s.fset F.FLPTR_HEAD t 0 (h + 1)).raiseTile t 6) else (0, s)

/-! ### Verdicts (R230 to R232) -/

/-- Are the operands of VRDT well formed (R230)? -/
def vrdtOk (a b : Word) : Bool := wbits a 0 2 ≠ 0 && wbits a 24 40 = 0 && wbits b 5 59 = 0

/-- VAL of a verdict token (R230). -/
def verdictVal (a : Word) : Word := wd (0xC + a.toNat * 16)

/-- Is a catch link UP (R217)? -/
def State.clUp (s : State) (l : Nat) : Bool := s.fget F.CLSTAT_STATE 0 l = 3

/-- The catch link's number as a key. -/
def clKey (l : Nat) : LinkId := .catch_ (Fin.ofNat 32 l)

/-- The activity of the C0CTX of a site of a catch link (09 R231). -/
def State.siteAct (s : State) (l site : Nat) : Nat := (s.ctx (s.fget F.SITEW0_C0CTX 0 (64 * l + site))).act

/-- May one more verdict be sent on the link (R231)? -/
def State.verdictRoom (s : State) (l : Nat) : Bool := decide ((s.link (clKey l)).verd.length < 16)

/-- A verdict is numbered and waits at the link's transmitter (R229, R231). -/
def State.sendVerdict (s : State) (l : Nat) (val : Word) (cls0 : Bool) : State :=
  let x := s.link (clKey l)
  s.setLink (clKey l) { x with
    verd := x.verd ++ [⟨x.vseq, wbits val 4 2, wbits val 6 6, wbits val 12 16, true, s.now, false, cls0⟩],
    vseq := (x.vseq + 1) % 256 }

end Sys2Proof.Machine
end

