-- ==== Sys2Proof/Machine/Rushes.lean ====
section
/-! DEFINITION. Rushes, bank power and the start of a channel map-out (10 R252 to R254, R260 to R266). -/
namespace Sys2Proof.Machine

/-- The tile of a scratchpad request. -/
def MemReq.tile (m : MemReq) : Nat := (m.addr - 0x10000000000) / 0x1000000

/-- The transition of a bank under way or delayed. -/
def State.bankChange (s : State) (t b : Nat) : Option BankTrans := (s.tile t).bankTrans.find? fun k => k.bank = b

/-- Is the bank in transition (10 R253)? -/
def State.bankBusy (s : State) (t b : Nat) : Bool :=
  match s.bankChange t b with
  | some k => k.endAt.isSome
  | none => false

/-- Cycles of a transition (10 R252). -/
def bankTime (frm dest : Nat) : Nat := if dest ≠ 0 then 8 else if frm = 1 then 32 else 256

/-- PWRPEND of a bank follows its transitions (10 R254). -/
def State.setPwrpend (s : State) (t b : Nat) : State :=
  s.setReg .BANKSTAT t 0 (wset (s.reg .BANKSTAT t 0) b 1 (b2n (s.bankChange t b).isSome))

/-- A transition of a bank begins. -/
def State.bankStart (s : State) (t b frm dest : Nat) (endAt : Option Nat) : State :=
  (s.onTile t fun x => { x with bankTrans := x.bankTrans.filter (fun k => k.bank ≠ b) ++ [⟨b, frm, dest, endAt⟩] }).setPwrpend t b

/-! ### Rushes (10 R261 to R266) -/

/-- The region a tile's rushes tests or last tested. -/
def State.setRushstat (s : State) (t : Nat) (b : Borrow) : State :=
  let s := s.onTile t fun x => { x with borrow := some b }
  ((s.fset F.RUSHSTAT_PHASE t 0 b.phase).fset F.RUSHSTAT_BANK t 0 (b.region / 16)).fset F.RUSHSTAT_PART t 0 (b.region % 16)

/-- The same for LPDDR4X. -/
def State.setRdstat (s : State) (b : Borrow) : State :=
  ({ s with drRush := some b }.fset F.RDSTAT_PHASE 0 0 b.phase).fset F.RDSTAT_REGION 0 0 b.region

/-- The borrow of a tile, or of LPDDR4X. -/
def State.borrowOf (s : State) : Option Nat → Option Borrow
  | some t => (s.tile t).borrow
  | none => s.drRush

/-- A borrow replaced, with its status register. -/
def State.setBorrow (s : State) (u : Option Nat) (b : Borrow) : State :=
  match u with
  | some t => s.setRushstat t b
  | none => s.setRdstat b

/-- Does a borrow hold a region now? -/
def borrowing : Option Borrow → Bool
  | some b => b.phase ≠ 0
  | none => false

/-- A borrow is cut short (10 R265): in COPY or TEST it goes to BACK and its outcome is discarded. -/
def State.cutBorrow (s : State) (u : Option Nat) : State :=
  match s.borrowOf u with
  | some b => if b.phase = 1 ∨ b.phase = 2 then s.setBorrow u { b with phase := 3, aborted := true } else s
  | none => s

/-- Does rushes hold the bank borrowed? -/
def State.bankBorrowed (s : State) (t b : Nat) : Bool :=
  match (s.tile t).borrow with
  | some k => k.phase ≠ 0 && k.region / 16 = b
  | none => false

/-- May rushes borrow a region of the bank (10 R261)? -/
def State.bankFit (s : State) (c0banks t b : Nat) : Bool :=
  s.bankMode t b = 0 && (s.bankChange t b).isNone && !c0banks.testBit b

/-- The next region after the last, in ascending order, wrapping round. -/
def nextRegion (size : Nat) (last : Option Borrow) (ok : Nat → Bool) : Option Nat :=
  let first := match last with
    | some b => b.region + 1
    | none => 0
  ((List.range size).map fun i => (first + i) % size).find? ok

/-- The enable of rushes (10 R266). -/
def State.rushEn (s : State) : Option Nat → Bool
  | some t => s.fget F.RUSHCFG_EN t 0 = 1
  | none => s.fget F.RDCFG_EN 0 0 = 1

/-- A borrow starts (10 R261, R262). -/
def State.borrowStart (s : State) (u : Option Nat) : State :=
  if !s.rushEn u ∨ borrowing (s.borrowOf u) then s
  else match u with
    | some t =>
      if s.tileOn t ∧ (s.tile t).power = none ∧ (s.tile t).rushAt ≤ s.count then
        match nextRegion 512 (s.borrowOf u) fun k => s.bankFit (s.activeBank t).c0banks t (k / 16) with
        | some k => (s.setBorrow u ⟨k, 1, [], none, false⟩).fset F.RUSHSTAT_WRITTEN t 0 0
        | none => s
      else s
    | none =>
      match nextRegion (s.fget F.DRSTAT_DSIZE 0 0) s.drRush fun k => k ≠ s.fget F.RDCFG_SHBASE 0 0 with
      | some k => (s.setBorrow u ⟨k, 1, [], none, false⟩).fset F.RDSTAT_WRITTEN 0 0 0
      | none => s

/-- BORROW_START (10 R261). -/
def execBorrowStart (dt : Nat) (u : Option Sys2Proof.TileId) (s : State) : Host.Outcome State Fault Refusal :=
  .next ((s.advance dt).borrowStart (u.map fun t => t.val))

/-- COPY ends: every S is 1 and TEST begins (10 R262). -/
def State.copyComplete (s : State) (u : Option Nat) : State :=
  match s.borrowOf u with
  | some b => if b.phase = 1 then s.setBorrow u { b with phase := 2, early := [] } else s
  | none => s

/-- COPY_COMPLETE (10 R262). -/
def execCopyComplete (dt : Nat) (u : Option Sys2Proof.TileId) (s : State) : Host.Outcome State Fault Refusal :=
  .next ((s.advance dt).copyComplete (u.map fun t => t.val))

/-- The March test ends with its outcome and BACK begins (10 R262). -/
def State.testComplete (s : State) (u : Option Nat) (fail : Option (Nat × Nat × Nat)) : State :=
  match s.borrowOf u with
  | some b => if b.phase = 2 then s.setBorrow u { b with phase := 3, fail := fail } else s
  | none => s

/-- TEST_COMPLETE (10 R262): a failing cell is (bank's word, column, 0), or (channel, byte, bit) of LPDDR4X. -/
def execTestComplete (dt : Nat) (u : Option Sys2Proof.TileId) (fail : Option (Nat × Nat × Nat)) (s : State) : Host.Outcome State Fault Refusal :=
  .next ((s.advance dt).testComplete (u.map fun t => t.val) fail)

/-- The outcome of a tile's borrow (10 R264, R265). -/
def State.tileOutcome (s : State) (t : Nat) (b : Borrow) : State :=
  if b.aborted then s.inc F.RUSHCNT_ABORTS t 0
  else if s.fget F.RUSHSTAT_WRITTEN t 0 = 1 then s.inc F.RUSHCNT_DISCARDS t 0
  else match b.fail with
    | none => s.inc F.RUSHCNT_PASSES t 0
    | some (w, col, _) =>
      let s := (s.inc F.RUSHCNT_FAILS t 0).setReg .RUSHLOG t 0
        (wd (b.region / 16 + w % 8192 * 2 ^ 5 + col % 128 * 2 ^ 18 + s.count % 2 ^ 39 * 2 ^ 25))
      s.setReg .BANKSTAT t 0 (wset (s.reg .BANKSTAT t 0) (32 + b.region / 16) 1 1)

/-- The outcome of an LPDDR4X borrow (10 R264, R265). -/
def State.dramOutcome (s : State) (b : Borrow) : State :=
  if b.aborted then s.inc F.RDCNT_ABORTS 0 0
  else if s.fget F.RDSTAT_WRITTEN 0 0 = 1 then s.inc F.RDCNT_DISCARDS 0 0
  else match b.fail with
    | none => s.inc F.RDCNT_PASSES 0 0
    | some (ch, lc, k) => ((s.inc F.RDCNT_FAILS 0 0).raiseDev 7).setReg .RDLOG 0 0 (wd (ch % 32 + lc % 2 ^ 31 * 2 ^ 5 + k % 8 * 2 ^ 36))

/-- Power changes of a bank that waited for its borrow begin (10 R254). -/
def State.startDelayed (s : State) (t : Nat) : State :=
  (s.tile t).bankTrans.foldl (fun s k =>
    if k.endAt.isNone then
      (s.setReg .BANKPWR t 0 (wset (s.reg .BANKPWR t 0) (2 * k.bank) 2 k.dest)).bankStart t k.bank k.frm k.dest (some (s.now + bankTime k.frm k.dest))
    else s) s

/-- BACK ends: the outcome is recorded, and what waited for the borrow goes on (10 R264, R265). -/
def State.borrowEnd (s : State) (u : Option Nat) : State :=
  match s.borrowOf u with
  | some b =>
    if b.phase ≠ 3 then s
    else match u with
      | some t =>
        let s := ((s.tileOutcome t b).setRushstat t { b with phase := 0, early := [] }).onTile t fun x => { x with rushAt := s.count + s.fget F.RUSHCFG_PACE t 0 }
        let s := s.startDelayed t
        match (s.tile t).power with
        | some p => if p.dest = 3 ∧ !s.mesh.fencing.contains (s.physOf t) then s.startFence (s.physOf t) else s
        | none => s
      | none => (s.dramOutcome b).setRdstat { b with phase := 0, early := [] }
  | none => s

/-- BORROW_END (10 R264). -/
def execBorrowEnd (dt : Nat) (u : Option Sys2Proof.TileId) (s : State) : Host.Outcome State Fault Refusal :=
  .next ((s.advance dt).borrowEnd (u.map fun t => t.val))

/-- A write of RUSHCFG after the checks of 00 R402: writing EN 0 cuts a borrow short (10 R265). -/
def State.rushcfgWrite (s : State) (t : Nat) (v : Word) : WRes :=
  let off := s.fget F.RUSHCFG_EN t 0 = 1 && wbits v 0 1 = 0
  let s := s.setReg .RUSHCFG t 0 v
  .ok (if off then s.cutBorrow (some t) else s)

/-- A write of RDCFG after the checks of 00 R402 (10 R266). -/
def State.rdcfgWrite (s : State) (v : Word) : WRes :=
  if wbits v 0 1 = 1 ∧ s.fget F.DRSTAT_DSIZE 0 0 < wbits v 20 28 + 1 then .refuse 4 none
  else
    let off := s.fget F.RDCFG_EN 0 0 = 1 && wbits v 0 1 = 0
    let s := s.setReg .RDCFG 0 0 v
    .ok (if off then s.cutBorrow none else s)

/-! ### Bank power (10 R252 to R254) -/

/-- The banks, of 32, whose field a BANKPWR image changes: (bank, from, to). -/
def bankChanges (old new : Word) : List (Nat × Nat × Nat) :=
  ((List.range 32).filter fun b => wbits old (2 * b) 2 ≠ wbits new (2 * b) 2).map fun b => (b, wbits old (2 * b) 2, wbits new (2 * b) 2)

/-- One field of BANKPWR changes: at once, or after the borrow of its bank. -/
def State.bankField (s : State) (t b frm dest : Nat) : State :=
  if s.bankBorrowed t b then (s.bankStart t b frm dest none).cutBorrow (some t)
  else
    let from_ := match s.bankChange t b with
      | some k => k.endAt.getD s.now
      | none => s.now
    (s.setReg .BANKPWR t 0 (wset (s.reg .BANKPWR t 0) (2 * b) 2 dest)).bankStart t b frm dest (some (from_ + bankTime frm dest))

/-- A write of BANKPWR (10 R252, R254). -/
def State.bankpwrWrite (s : State) (t : Nat) (v : Word) : WRes :=
  let l := bankChanges (s.reg .BANKPWR t 0) v
  let live := s.dev = .armed || s.dev = .running || s.dev = .draining
  if l.any fun k => k.2.2 = 3 || (k.2.1 = 2 && k.2.2 = 1) then .refuse 2 none
  else if live && l.any fun k => k.2.1 = 0 && (s.activeBank t).c0banks.testBit k.1 then .refuse 4 none
  else .ok (l.foldl (fun s k => s.bankField t k.1 k.2.1 k.2.2) s)

/-- The addresses of a bank's words, as word numbers of memory. -/
def bankWords (t b : Nat) : List Nat := (List.range 8192).map fun i => (spadAddr t 0) / 8 + 32 * i + b

/-- A word of a bank that comes from OFF holds a free value, and its check bits need not match (10 R252, log 2). -/
def State.scramble (s : State) (w : Nat) : State :=
  let (v, s) := s.free
  let (k, s) := s.free
  let s := (s.store (8 * w) 8 v.toNat).clearEcc (8 * w) 8
  { s with ecc := { s.ecc with
      unc := if k.toNat % 4 = 1 then w :: s.ecc.unc else s.ecc.unc
      cor := if k.toNat % 4 = 2 then w :: s.ecc.cor else s.ecc.cor } }

/-- A bank comes from OFF to ON: every word is undefined. -/
def State.scrambleBank (s : State) (t b : Nat) : State := (bankWords t b).foldl (fun s w => s.scramble w) s

/-- A transition of a bank ends (10 R252, R253). -/
def State.bankDone (s : State) (t b : Nat) : State :=
  match s.bankChange t b with
  | some k =>
    match k.endAt with
    | some e =>
      if e ≤ s.now then
        let wake := k.dest = 0 ∧ wbits (s.reg .BANKPWR t 0) (2 * b) 2 ≠ 0
        let s := (s.onTile t fun x => { x with bankTrans := x.bankTrans.filter fun k => k.bank ≠ b }).setPwrpend t b
        let s := if wake then (s.setReg .BANKPWR t 0 (wset (s.reg .BANKPWR t 0) (2 * b) 2 0)).inc F.WAKES_COUNT t 0 else s
        if k.frm = 2 ∧ k.dest = 0 then s.scrambleBank t b else s
      else s
    | none => s
  | none => s

/-- BANK_TRANSITION_COMPLETE (10 R252). -/
def execBankTransitionComplete (dt : Nat) (t : Sys2Proof.TileId) (b : Fin 32) (s : State) : Host.Outcome State Fault Refusal :=
  .next ((s.advance dt).bankDone t.val b.val)

/-! ### Channel map-out (10 R260) -/

/-- May a map-out start? -/
def State.mapoutOk (s : State) : Bool := s.fget F.DRCFG_RESV 0 0 = 1 && s.fget F.DRSTAT_MOST 0 0 = 0

/-- The map-out of a channel starts; an LPDDR4X borrow is cut short (10 R260, R265). -/
def State.mapoutStart (s : State) (ch : Nat) : State :=
  let s := (((s.fset F.DRSTAT_MOCH 0 0 ch).fset F.DRSTAT_MOST 0 0 1).fset F.DRSTAT_MOPTR 0 0 0).fset F.CHSTAT_STATE 0 ch 1
  { s with moveStart := s.now }.cutBorrow none

/-- A write of MOCMD (10 R260). -/
def State.mocmdWrite (s : State) (v : Word) : WRes :=
  if wbits v 5 1 = 0 then .ok s
  else if s.mapoutOk then .ok (s.mapoutStart (wbits v 0 5)) else .refuse 4 none

/-- A channel's UNC has reached UNCLIM (10 R260); after a map-out it sets CHAN2 (14 R382). -/
def State.unclimReached (s : State) (ch : Nat) : State :=
  if s.fget F.DRSTAT_MOST 0 0 = 2 ∧ s.fget F.DRCFG_UNCLIM 0 0 ≤ s.fget F.CHSTAT_UNC 0 ch then s.setReason 4
  else if s.fget F.DRCFG_AUTOMO 0 0 = 1 ∧ s.mapoutOk ∧ s.fget F.DRCFG_UNCLIM 0 0 ≤ s.fget F.CHSTAT_UNC 0 ch then s.mapoutStart ch else s

/-- UNCLIM_REACHED (10 R260). -/
def execUnclimReached (ch : Fin 32) (s : State) : Host.Outcome State Fault Refusal := .next (s.unclimReached ch.val)

end Sys2Proof.Machine
end

