-- ==== Sys2Proof/Machine/Power.lean ====
section
/-! DEFINITION. The power states of tile domains and the reset of a tile (12 R318 to R321; 11 R281 to R284). -/
namespace Sys2Proof.Machine

/-! ### The reset of a tile -/

/-- Does the lane's source state lie in the tile (03 R55, R68)? -/
def State.laneFrom (s : State) (t l : Nat) : Bool := s.fget F.LANECFG_SRCK 0 l ≠ 0 && s.fget F.LANECFG_SRC 0 l = t

/-- Lanes of the tile's window or source state take their reset (03 R67). -/
def State.resetLanes (s : State) (t : Nat) : State :=
  (s.lanes.map fun (p : Nat × Lane) => p.1).foldl (fun s l =>
    if (s.lane l).st = .off then s
    else if s.laneTile l = some t then s.laneWindowReset l
    else if s.laneFrom t l then s.laneSourceReset l else s) s

/-- Is the memory request one of the tile's, or one to its scratchpad? -/
def reqOfTile (t : Nat) (m : MemReq) : Bool := reqTile m.who = some t || (decide (0x10000000000 ≤ m.addr) && m.tile = t)

/-- A tile reset (00 Reset column, 03 R67, 10 R252): its threads, its lanes, everything the tile holds, and every tile register at its reset value; the scratchpad keeps its contents, and the lock group is left as it is but for the cells of the tile's own threads (12 R326). -/
def State.tileReset (s : State) (t : Nat) : State :=
  let s := (List.range 16).foldl (fun s n => s.resetThread t n) s
  let s := s.resetLanes t
  let x := s.tile t
  let s := { s with
    bankReqs := s.bankReqs.filter (fun m => !reqOfTile t m)
    drq := s.drq.filter (fun m => !reqOfTile t m)
    mbxq := s.mbxq.filter (fun m => !reqOfTile t m)
    fireMem := s.fireMem.filter (fun f => f.tile ≠ t)
    pushq := s.pushq.filter (fun p => p.1.1 ≠ t)
    regs := s.regs.filter (fun (p : (RegKind × Nat × Nat) × Word) => !((regSpec p.1.1).inTile && p.1.2.1 = t && p.1.1 ≠ RegKind.LKGCFG && p.1.1 ≠ RegKind.LKCNT))
    threads := s.threads.filter (fun p => p.1 / 16 ≠ t) }
  s.setTile t { Tile.rst with power := x.power, wakeAsked := x.wakeAsked, cells := x.cells, waiters := x.waiters, lockq := x.lockq }

/-- What a switched-off domain loses besides its banks: the graph memory holds free values (log 2). -/
def State.scrambleGraph (s : State) (t : Nat) : State :=
  (List.range 16384).foldl (fun s i => let (v, s) := s.free; { s with graph := tput s.graph (t * 16384 + i) v }) s

/-! ### Requests (12 R319) -/

/-- Is the tile in the TILESET of a context that satisfies a test? -/
def State.inTileset (s : State) (t : Nat) (p : Ctx → Bool) : Bool := s.ctxs.any fun c => p c.2 && c.2.tileset.testBit t

/-- The conditions that refuse REQ = OFF (12 R319). -/
def State.offBad (s : State) (t : Nat) : Bool :=
  (List.range 16).any (fun n => (s.thr t n).st ≠ .free) ||
  s.inTileset t (fun c => c.st ≠ 0) ||
  (s.tile t).cells.any (fun c => c.2.val ≠ 0) || !(s.tile t).waiters.isEmpty ||
  (s.lanes.any fun (p : Nat × Lane) => p.2.st ≠ .off && (s.laneTile p.1 = some t || s.laneFrom t p.1)) ||
  (List.range 256).any (fun q => s.fget F.QCFG_EN t q = 1)

/-- A switch-off begins (12 R318, 10 R265): a borrow is cut short and the drain waits for BACK to end. -/
def State.startOff (s : State) (t : Nat) : State :=
  let s := s.setPower t (some ⟨3, none, none, false⟩)
  if borrowing (s.tile t).borrow then s.cutBorrow (some t) else s.startFence (s.physOf t)

/-- The request REQ = ON (12 R318): a wake; a nap that was asked for is given up. -/
def State.reqOn (s : State) (t : Nat) : State :=
  match (s.tile t).power with
  | some p => if p.dest = 2 then s.setPower t none else s.askWake t
  | none => s.askWake t

/-- The request REQ = NAP. -/
def State.reqNap (s : State) (t : Nat) : State :=
  if s.tileOn t ∧ (s.tile t).power = none then
    s.setPower t (some ⟨2, if s.fget F.TPWR_STATE 0 t = 1 then some (s.now + 64) else none, none, false⟩)
  else s

/-- The request REQ = OFF: from NAP a wake to ON comes first. -/
def State.reqOff (s : State) (t : Nat) : State :=
  match (s.tile t).power with
  | some p => if p.dest = 2 then s.startOff t else if p.dest = 0 then s.setPower t (some { p with thenOff := true }) else s
  | none =>
    match s.fget F.TPWR_STATE 0 t with
    | 2 => s.setPower t (some ⟨0, some (s.now + 192), none, true⟩)
    | 3 => s
    | _ => s.startOff t

/-- A write of TPWR after the checks of right, reserved fields and values (12 R319). -/
def State.tpwrWrite (s : State) (t : Nat) (v : Word) : WRes :=
  let req := wbits v 0 2
  if req = 2 ∧ s.inTileset t (fun c => c.st = 1 && c.cls = 0) then .refuse 4 none
  else if req = 3 ∧ s.fget F.TPWR_STATE 0 t ≠ 3 ∧ s.offBad t then .refuse 4 none
  else
    let s := (s.fset F.TPWR_REQ 0 t req).fset F.TPWR_IDLEEN 0 t (wbits v 5 1)
    let s := if wbits v 6 1 = 1 then s.fset F.TPWR_REFUSED 0 t 0 else s
    .ok (match req with
      | 0 => s.reqOn t
      | 2 => s.reqNap t
      | _ => s.reqOff t)

/-! ### Transitions (12 R318) -/

/-- After 16 cycles with nothing to do the tile enters IDLE; a nap that was asked for follows 64 cycles later. -/
def State.idleEntry (s : State) (t : Nat) : State :=
  let x := s.tile t
  if s.fget F.TPWR_STATE 0 t = 0 ∧ s.fget F.TPWR_IDLEEN 0 t = 1 ∧ s.quiet t ∧ x.idleSince + 16 ≤ s.now then
    let s := s.fset F.TPWR_STATE 0 t 1
    match x.power with
    | some p => if p.dest = 2 then s.setPower t (some { p with endAt := some (s.now + 64) }) else s
    | none => s
  else s

/-- IDLE_ENTRY (12 R318). -/
def execIdleEntry (dt : Nat) (t : Sys2Proof.TileId) (s : State) : Host.Outcome State Fault Refusal := .next ((s.advance dt).idleEntry t.val)

/-- Is a deadline past at a beat (05 R126)? -/
def timerPast (beat deadline : Nat) : Bool := (beat + 2 ^ 48 - deadline) % 2 ^ 48 < 2 ^ 47

/-- Beats until a deadline; 0 when it is past. -/
def State.beatsTo (s : State) (d : Nat) : Nat := if timerPast s.beat d then 0 else (d + 2 ^ 48 - s.beat) % 2 ^ 48

/-- The domain enters NAP, unless a deadline lies less than 28 beats ahead (12 R318). -/
def State.napEntry (s : State) (t : Nat) : State :=
  let x := s.tile t
  match x.power with
  | some p =>
    match p.endAt with
    | some e =>
      if p.dest = 2 ∧ e ≤ s.now ∧ s.fget F.TPWR_STATE 0 t = 1 ∧ s.quiet t ∧ x.delay.all (fun (d : Timer) => decide (28 ≤ s.beatsTo d.deadline)) then
        (s.setPower t none).fset F.TPWR_STATE 0 t 2
      else s
    | none => s
  | none => s

/-- NAP_ENTRY (12 R318). -/
def execNapEntry (dt : Nat) (t : Sys2Proof.TileId) (s : State) : Host.Outcome State Fault Refusal := .next ((s.advance dt).napEntry t.val)

/-- The fenced domain powers OFF; a wake that came meanwhile follows (12 R318, 11 R284). -/
def State.offEntry (s : State) (t : Nat) : State :=
  let x := s.tile t
  match x.power with
  | some p =>
    match p.endAt with
    | some e =>
      if p.dest = 3 ∧ e ≤ s.now then
        let s := (s.setPower t none).fset F.TPWR_STATE 0 t 3
        if x.wakeAsked.isSome then (s.onTile t fun x => { x with wakeAsked := none }).askWake t else s
      else s
    | none => s
  | none => s

/-- OFF_ENTRY (12 R318). -/
def execOffEntry (dt : Nat) (t : Sys2Proof.TileId) (s : State) : Host.Outcome State Fault Refusal := .next ((s.advance dt).offEntry t.val)

/-- The domain is ON again (12 R318): from OFF with a tile reset, undefined memory and the unfence of R283. -/
def State.wakeComplete (s : State) (t : Nat) : State :=
  match (s.tile t).power with
  | some p =>
    match p.endAt with
    | some e =>
      if p.dest = 0 ∧ e ≤ s.now then
        let off := s.fget F.TPWR_STATE 0 t = 3
        let s := (s.setPower t none).fset F.TPWR_STATE 0 t 0
        let s := if off then
            ((List.range 32).foldl (fun s b => s.scrambleBank t b) ((s.tileReset t).scrambleGraph t)).startUnfence (s.physOf t)
          else s
        let s := s.onTile t fun x => { x with idleSince := s.now }
        if p.thenOff then s.startOff t else s
      else s
    | none => s
  | none => s

/-- WAKE_COMPLETE (12 R318). -/
def execWakeComplete (dt : Nat) (t : Sys2Proof.TileId) (s : State) : Host.Outcome State Fault Refusal := .next ((s.advance dt).wakeComplete t.val)

/-- The Keel wakes a NAP domain 28 beats before its earliest deadline (12 R318). -/
def State.napTimerWake (s : State) (t : Nat) : State :=
  if s.fget F.TPWR_STATE 0 t = 2 ∧ (s.tile t).delay.any (fun (d : Timer) => decide (s.beatsTo d.deadline ≤ 28)) then s.askWake t else s

/-- NAP_TIMER_WAKE (12 R318). -/
def execNapTimerWake (dt : Nat) (t : Sys2Proof.TileId) (s : State) : Host.Outcome State Fault Refusal := .next ((s.advance dt).napTimerWake t.val)

/-- A watched source that is pending, enabled and not delivered wakes the domain of its target (12 R321). -/
def State.watchedWake (s : State) (i : Nat) : State :=
  let src := s.fget F.KWATCH_SRC 0 i
  if s.fget F.KWATCH_VALID 0 i = 0 then s
  else if s.fget F.KWATCH_TSRC 0 i = 1 then
    let t := s.fget F.KWATCH_TILE 0 i
    if (s.liveTile t).contains src ∧ !s.tileOn t then s.askWake t else s
  else
    let c := s.devTarget src
    if (s.liveDev).contains src ∧ !s.tileOn c then s.askWake c else s

/-- WATCHED_WAKE (12 R321). -/
def execWatchedWake (dt : Nat) (i : Fin 32) (s : State) : Host.Outcome State Fault Refusal := .next ((s.advance dt).watchedWake i.val)

end Sys2Proof.Machine
end

