-- ==== Sys2Proof/Machine/Ports.lean ====
section
/-! DEFINITION. The gateways at the edge ports, and the isolation of a port as RTCTL ends it (11 R279, R285, R298). -/
namespace Sys2Proof.Machine

/-- The catch gateway at a router's edge port (01 R12). -/
def cgAt (r : Nat) : Option Nat := (List.range 8).find? fun g => cgRouter g = r

/-- The fabric gateway at a router's edge port (01 R12). -/
def fgAt (r : Nat) : Option Nat := (List.range 4).find? fun g => fgRouter g = r

/-- A token waits at a fabric gateway. -/
def State.toGateway (s : State) (g : Nat) (k : FabTok) : State := { s with fgq := tput s.fgq g (tget s.fgq [] g ++ [k]) }

/-- A token first enters a fabric gateway: TAKE, SDEV and HOPS are set (11 R293). -/
def State.stampFab (s : State) (k : Token) (stile : Nat) : FabTok :=
  ⟨{ k with dst := wset k.dst 8 4 (s.fget F.FABCFG_MAXHOPS 0 0) }, 0, s.fget F.SLATE_TAKE 0 0, s.devnum, stile, 0, none, none⟩

/-- The buffer of a fabric link that a token took is free: a credit is owed (11 R289). -/
def State.oweCredit (s : State) (via : Option (Nat × Nat)) : State :=
  match via with
  | none => s
  | some (l, p) =>
    let k : LinkId := .fabric (Fin.ofNat 16 l)
    let x := s.link k
    let fresh := x.owed.all fun (e : Nat × Nat) => e.2 = 0
    s.setLink k { x with owed := tput x.owed p (tget x.owed 0 p + 1), owedAt := if fresh then s.now else x.owedAt }

/-- A token that the fabric brought or took is returned with a REASON (11 R298): a fault token 0x11 on the device that stamped it, a RET otherwise. A RET that does not arrive is lost. -/
def State.fabReturn (s : State) (g reason : Nat) (k : FabTok) : State :=
  if k.ret ≠ 0 then s.inc F.FABSTAT_RETLOST 0 0
  else if k.sdev = s.devnum then (s.oweCredit k.via).sendFault none k.stile (s.mkFault k.tok.tag (some k.tok) 0x11 5 k.stile 0)
  else s.toGateway g { k with ret := reason, sub := 0, crc := none }

/-- The isolation of a port ends, and its timer starts again (R279). -/
def State.unisolate (s : State) (r : Nat) (edge : Bool) : State :=
  let s := s.fset (if edge then F.RTCTL_ISOE else F.RTCTL_ISOL) 0 r 0
  { s with mesh := { s.mesh with lastCred := tput s.mesh.lastCred (r, portNo edge) s.now } }

/-- A write of RTCTL after the checks of 00 R402 (R285). -/
def State.rtctlWrite (s : State) (r : Nat) (v : Word) : WRes :=
  let s := s.fset F.RTCTL_DTTO 0 r (wbits v 4 16)
  let s := if wbits v 2 1 = 1 then s.unisolate r false else s
  .ok (if wbits v 3 1 = 1 then s.unisolate r true else s)

end Sys2Proof.Machine
end

