-- ==== Sys2Proof/Machine/Catch.lean ====
section
/-! DEFINITION. Catch frames: their classification, folding and tokens, and the injection of a catch gateway (09 R220 to R226). -/
namespace Sys2Proof.Machine

/-- A token of a frame with the lane it needs, if any. -/
abbrev SiteTok := Token × Option Nat

/-- A word of a frame. -/
def fw (w : List Word) (i : Nat) : Word := w.getD i 0

/-- TYPE of a frame (R220). -/
def fType (w : List Word) : Nat := wbits (fw w 0) 0 4
/-- FSEQ of a frame. -/
def fSeq (w : List Word) : Nat := wbits (fw w 0) 4 12
/-- SITE of a frame. -/
def fSite (w : List Word) : Nat := wbits (fw w 0) 16 6
/-- NC of a frame. -/
def fNC (w : List Word) : Nat := wbits (fw w 0) 26 1
/-- XF of a frame. -/
def fXF (w : List Word) : Nat := wbits (fw w 0) 32 32
/-- CADDR of a frame. -/
def fCaddr (w : List Word) : Nat := wbits (fw w 1) 0 48

/-- The XF bits that a type names, and the words it uses (R221). -/
def frameShape (w : List Word) : Nat × List Nat :=
  let xf := fXF w
  match fType w with
  | 1 => (0, if fNC w = 1 then [2, 3, 4, 5] else [2, 4])
  | 2 => (0xFF03, (List.range (xf % 4 + 1)).map fun k => 2 + k)
  | 3 => (0x7FF, (List.range (xf / 256 % 4 + 1)).map fun k => 2 + k)
  | _ => (3, (List.range (2 * (xf % 4) + 2)).map fun k => 2 + k)

/-- The code of a frame that is not accepted for its TYPE or its fields (R226). -/
def frameBad (w : List Word) : Bool :=
  let sh := frameShape w
  w.length ≠ 8 || fType w = 0 || decide (4 < fType w) || wbits (fw w 0) 27 5 ≠ 0 || wbits (fw w 1) 48 16 ≠ 0 ||
  (fNC w = 1 && fType w ≠ 1) || (fType w = 4 && fXF w % 4 = 3) ||
  (List.range 32).any (fun b => (fXF w).testBit b && !sh.1.testBit b) ||
  [2, 3, 4, 5, 6, 7].any fun i => !sh.2.contains i && fw w i ≠ 0

/-- The site entry that classifies a frame, as the fields its tokens use (R222). -/
structure SiteCfg where
  i : Nat
  cls : Nat
  ctx : Nat
  c0ctx : Nat
  flane : Option Nat
  c0lane : Nat
  c0en : Bool
  c0all : Bool
  cnten : Bool
  cntmax : Nat

/-- The entry of site `i` = 64 × link + SITE. -/
def State.siteCfg (s : State) (i : Nat) : SiteCfg :=
  { i := i, cls := s.fget F.SITEW0_CLS 0 i, ctx := s.fget F.SITEW0_CTX 0 i, c0ctx := s.fget F.SITEW0_C0CTX 0 i
    flane := if s.fget F.SITEW0_LNEN 0 i = 1 then some (s.fget F.SITEW0_FLANE 0 i) else none
    c0lane := s.fget F.SITEW1_C0LANE 0 i, c0en := s.fget F.SITEW0_C0EN 0 i = 1, c0all := s.fget F.SITEW0_C0ALL 0 i = 1
    cnten := s.fget F.SITEW0_CNTEN 0 i = 1, cntmax := s.fget F.SITEW1_CNTMAX 0 i }

/-- A frame's classification under way: the tokens so far, ITERC, C0ITER, PCOUNT and PFIRST. -/
structure Plan where
  toks : List SiteTok
  iter : Nat
  c0iter : Nat
  pc : Nat
  pf : Nat

/-- A token of the entry's context for a DST field (R224). -/
def State.siteTok (s : State) (e : SiteCfg) (dst : Fld) (port iter : Nat) (val aux : Word) (lane : Option Nat) : SiteTok :=
  let d := s.fget dst 0 e.i
  (⟨mkTag e.ctx (d / 16384) (d % 16384) iter port e.cls 0, mkDst 0xFFFF 0 0 0, val, aux⟩, lane)

/-- The C0 token of a CMP frame. -/
def State.siteC0 (s : State) (e : SiteCfg) (p : Plan) (val aux : Word) : Plan :=
  let d := s.fget F.SITEW2_C0DST 0 e.i
  { p with
    toks := p.toks ++ [(⟨mkTag e.c0ctx (d / 16384) (d % 16384) p.c0iter 2 0 0, mkDst 0xFFFF 0 0 0, val, aux⟩, some e.c0lane)]
    c0iter := p.c0iter + 1 }

/-- A CNT token: PCOUNT and PFIRST, and PCOUNT returns to 0 (R225). -/
def State.siteCnt (s : State) (e : SiteCfg) (p : Plan) : Plan :=
  { p with toks := p.toks ++ [s.siteTok e F.SITEW3_CNTDST 2 p.iter (wd p.pc) (wd p.pf) e.flane], iter := p.iter + 1, pc := 0 }

/-- Cycle k of a frame is folded (R225). -/
def State.siteFold (s : State) (e : SiteCfg) (caddr k : Nat) (p : Plan) : Plan :=
  let p := { p with pf := if p.pc = 0 then caddr + k else p.pf, pc := min (2 ^ 64 - 1) (p.pc + 1) }
  if e.cnten ∧ e.cntmax ≤ p.pc then s.siteCnt e p else p

/-- The V and A tokens of a failing cycle k (R224). -/
def State.siteVA (s : State) (e : SiteCfg) (w : List Word) (l k : Nat) (p : Plan) : Plan :=
  let loc := fSite w + wbits (fw w 0) 22 4 * 64 + l % 32 * 1024
  { p with
    toks := p.toks ++ [s.siteTok e F.SITEW2_VDST 0 p.iter (fw w (2 + k)) (fw w (4 + k)) none,
      s.siteTok e F.SITEW2_ADST 1 p.iter (wd (fCaddr w + k)) (wd loc) e.flane]
    iter := p.iter + 1 }

/-- One X token (R224). -/
def State.siteX (s : State) (e : SiteCfg) (val aux : Word) (p : Plan) : Plan :=
  { p with toks := p.toks ++ [s.siteTok e F.SITEW3_XDST 2 p.iter val aux none], iter := p.iter + 1 }

/-- A CMP frame: C0, then folding, CNT, V and A in the order of R224 and R225. -/
def State.planCmp (s : State) (e : SiteCfg) (w : List Word) (l : Nat) (p : Plan) : Plan :=
  let ks := List.range (fNC w + 1)
  let failing := fun k => fw w (2 + k) ≠ 0
  let any := ks.any failing
  let p := if e.c0en && (any || e.c0all) then s.siteC0 e p (ks.foldl (fun v k => v ||| fw w (2 + k)) 0) (wd (fCaddr w)) else p
  if !any then ks.foldl (fun p k => s.siteFold e (fCaddr w) k p) p
  else
    let p := if failing 0 then p else s.siteFold e (fCaddr w) 0 p
    let p := if e.cnten && p.pc ≠ 0 then s.siteCnt e p else p
    ks.foldl (fun p k => if failing k then s.siteVA e w l k p else if k = 0 then p else s.siteFold e (fCaddr w) k p) p

/-- The tokens of an accepted frame. -/
def State.planFrame (s : State) (e : SiteCfg) (w : List Word) (l : Nat) (p : Plan) : Plan :=
  let xf := fXF w
  let ca := fCaddr w
  match fType w with
  | 1 => s.planCmp e w l p
  | 2 => (List.range (xf % 4 + 1)).foldl (fun p k => s.siteX e (fw w (2 + k)) (wd (ca + xf / 256 % 256 * 2 ^ 48 + k * 2 ^ 56)) p) p
  | 3 =>
    let nw := xf / 256 % 4 + 1
    (List.range nw).foldl (fun p k =>
      s.siteX e (fw w (2 + k)) (wd ((ca + 64 * k) % 2 ^ 48 + xf % 256 * 2 ^ 48 + (if k + 1 = nw then bits xf 10 1 else 0) * 2 ^ 56)) p) p
  | _ => (List.range (xf % 4 + 1)).foldl (fun p k => s.siteX e (fw w (2 + 2 * k)) (fw w (3 + 2 * k)) p) p

/-- Does the catch link place tokens in the lane now (03 R55, R67)? -/
def State.laneOfLink (s : State) (l ln : Nat) : Bool :=
  (s.lane ln).st = .active && s.fget F.LANECFG_SRCK 0 ln = 0 && s.fget F.LANECFG_SRC 0 ln = l

/-- A token takes its number, when its lane takes tokens of this link. -/
def State.numberTok (s : State) (l : Nat) (k : SiteTok) : State × Token :=
  match k.2 with
  | some ln =>
    if s.laneOfLink l ln then
      let (q, s) := s.laneTake ln
      (s, { k.1 with tag := k.1.tag ||| 1, dst := mkDst 0xFFFF ln q 0 })
    else (s, k.1)
  | none => (s, k.1)

/-- A token joins its gateway's queue; C0 tokens go before the others (R224). -/
def State.gwPut (s : State) (l : Nat) (k : Token) : State :=
  let q := tget s.gwq [] (l / 4)
  let lead : List (Token × Nat) := q.takeWhile fun (e : Token × Nat) => e.1.cls = 0
  let q := if k.cls = 0 then lead ++ (k, l) :: q.drop lead.length else q ++ [(k, l)]
  { s with gwq := tput s.gwq (l / 4) q }

/-- Every lane of a plan has credit for all the numbers it takes (R224). -/
def State.planCredit (s : State) (l : Nat) (toks : List SiteTok) : Bool :=
  let lanes := (toks.filterMap fun k => k.2).filter fun ln => s.laneOfLink l ln
  lanes.all fun ln => decide ((lanes.filter fun x => x = ln).length ≤ (s.lane ln).credit)

/-- The tokens of a plan are numbered and issued, and the entry's counts kept. -/
def State.issuePlan (s : State) (l : Nat) (e : SiteCfg) (p : Plan) : State :=
  let s := p.toks.foldl (fun s k => let (s, k) := s.numberTok l k; s.gwPut l k) s
  (s.fset F.SITEW1_ITERC 0 e.i p.iter).fset F.SITEW1_C0ITER 0 e.i p.c0iter

/-- The plan of a site before a frame. -/
def State.plan0 (s : State) (i : Nat) : Plan :=
  let c := tget s.pcount (0, 0) i
  ⟨[], s.fget F.SITEW1_ITERC 0 i, s.fget F.SITEW1_C0ITER 0 i, c.1, c.2⟩

/-- A fault token of a catch link to its FTILE, SRC 0x5 (R226). -/
def State.linkFault (s : State) (l : Nat) (tag : Word) (k : Option Token) (code : Nat) : State :=
  let ft := s.fget F.CLCFG_FTILE 0 l
  s.sendFault none ft (s.mkFault tag k code 5 ft 0)

/-- The oldest frame leaves the receive buffer; RUN is due when 192 slots are free (R214). -/
def State.popRx (s : State) (l : Nat) : State :=
  let x := s.link (clKey l)
  let s := s.setLink (clKey l) { x with rxq := x.rxq.drop 1 }
  if s.fget F.CLSTAT_HOLDING 0 l = 1 ∧ x.rxq.length ≤ 65 then
    (s.setLink (clKey l) { x with rxq := x.rxq.drop 1, holdDue := some false }).fset F.CLSTAT_HOLDING 0 l 0
  else s

/-- A CNT token of a stroke boundary is issued when its lane has credit (R225). -/
def State.issuePre (s : State) (l : Nat) : Option State :=
  match (s.link (clKey l)).pre with
  | [] => none
  | (site, pc, pf) :: r =>
    let e := s.siteCfg (64 * l + site)
    let p := s.siteCnt e ⟨[], s.fget F.SITEW1_ITERC 0 e.i, s.fget F.SITEW1_C0ITER 0 e.i, pc, pf⟩
    if s.planCredit l p.toks then
      let s := s.issuePlan l e p
      some (s.setLink (clKey l) { s.link (clKey l) with pre := r })
    else none

/-- The oldest frame of a link's receive buffer is discarded, or classified when its lanes have credit (R224 to R226). -/
def State.classifyOne (s : State) (l : Nat) : Option State :=
  match (s.link (clKey l)).rxq with
  | [] => none
  | (w, again) :: _ =>
    let i := 64 * l + fSite w
    let en := s.fget F.SITEW0_EN 0 i = 1
    let code := if frameBad w then 2 else if en then 0 else 3
    if code ≠ 0 then
      let ft := s.fget F.CLCFG_FTILE 0 l
      some (((s.popRx l).inc F.CLCNT1_FRDROP 0 l).linkFault l (mkTag (if en then s.fget F.SITEW0_CTX 0 i else 0) ft 0 0 0 0 4) none code)
    else
      let e := s.siteCfg i
      let p := s.planFrame e w l (s.plan0 i)
      if s.planCredit l p.toks then
        let folded := fType w = 1 ∧ fw w 2 = 0 ∧ fw w 3 = 0
        let s := (s.popRx l).issuePlan l e p
        let s := { s with pcount := tput s.pcount i (p.pc, p.pf) }
        let s := if folded then s.inc F.CLCNT1_FOLDED 0 l else s
        some (if again && e.c0en then s.inc F.C0BOUND_C0RETRY 0 (s.ctx e.c0ctx).act else s)
      else none

/-- Everything of a link that can be classified now. -/
def State.classify (s : State) (l : Nat) : Nat → State
  | 0 => s
  | fuel + 1 =>
    if (s.link (clKey l)).pre.isEmpty then
      match s.classifyOne l with
      | some s => s.classify l fuel
      | none => s
    else match s.issuePre l with
      | some s => s.classify l fuel
      | none => s

/-- A gateway offers its oldest token to the mesh, in the first cycle in which it has offered none (R224, 11 R275). -/
def State.gwInject (s : State) (g : Nat) : Nat → State
  | 0 => s
  | fuel + 1 =>
    match tget s.gwq [] g with
    | [] => s
    | (k, l) :: r =>
      let c := max s.now (tget s.gwAt 0 g)
      let site := s.siteOf (.node k.tile)
      match ({ s with now := c } : State).inject (cgRouter g) true (mkPacket 0 (k.cls + 1) site.1 site.2 (cgRouter g) true 1 (.tok k (.node k.tile) l)) with
      | .sent x => ({ x with now := s.now, gwq := tput s.gwq g r, gwAt := tput s.gwAt g (c + 1) } : State).gwInject g fuel
      | _ => s

/-- A link's frames are classified and its gateway injects what it can. -/
def State.serveLink (s : State) (l : Nat) : State :=
  let s := s.classify l ((s.link (clKey l)).rxq.length + (s.link (clKey l)).pre.length)
  s.gwInject (l / 4) (tget s.gwq [] (l / 4)).length

/-- CREDIT_ARRIVAL (03 R62): frames of a catch link that waited for the credit go on. -/
def execCreditArrival (l : Sys2Proof.LaneId) (s : State) : Host.Outcome State Fault Refusal :=
  .next (s.ctlAwake (s.laneSrcCore l.val) (Ctl.isCreditOf l.val) fun s =>
    let s := s.creditArrival l.val
    if s.fget F.LANECFG_SRCK 0 l.val = 0 then s.serveLink (s.fget F.LANECFG_SRC 0 l.val) else s)

/-- Cycle 0 of a stroke: a site with PCOUNT non-zero and CNTEN issues its CNT token (R225). -/
def State.strokeCnt (s : State) : State :=
  let due := s.pcount.filter fun (p : Nat × Nat × Nat) => p.2.1 ≠ 0 && s.fget F.SITEW0_CNTEN 0 p.1 = 1 && s.fget F.SITEW0_EN 0 p.1 = 1
  due.foldl (fun s p =>
    let l := p.1 / 64
    let x := s.link (clKey l)
    let s := s.setLink (clKey l) { x with pre := x.pre ++ [(p.1 % 64, p.2.1, p.2.2)] }
    let s : State := { s with pcount := tput s.pcount p.1 (0, p.2.2) }
    s.serveLink l) s

/-- A write of a word of a site entry after the checks of 00 R402 (R222, R223). -/
def State.siteWrite (s : State) (kind : RegKind) (i : Nat) (v : Word) : WRes :=
  let old := s.reg kind 0 i
  let en := s.fget F.SITEW0_EN 0 i = 1
  let l := i / 64
  if kind ≠ .SITEW0 then (if en && v ≠ old then .refuse 3 none else .ok (s.setReg kind 0 i v))
  else if en && wbits v 1 63 ≠ wbits old 1 63 then .refuse 3 none
  else if wbits v 0 1 = 1 && !en &&
      (wbits v 5 2 = 0 || (wbits v 1 1 = 1 && !s.laneOfLink l (wbits v 48 12)) ||
       (wbits v 2 1 = 1 && !(s.laneOfLink l (s.fget F.SITEW1_C0LANE 0 i) && s.fget F.LANECFG_CLS0 0 (s.fget F.SITEW1_C0LANE 0 i) = 1))) then
    .refuse 4 none
  else
    let s := s.setReg .SITEW0 0 i v
    .ok (if en then s else { s with pcount := tdel s.pcount i })

end Sys2Proof.Machine
end

