-- ==== Sys2Proof/Machine/Links.lean ====
section
/-! DEFINITION. The link layer of catch and fabric links: states, blocks, replay, HOLD, LIVE and loss, verdicts and stimulus frames (09 R209 to R219, R227 to R231; 11 R286, R287, R290, R291). -/
namespace Sys2Proof.Machine

/-! ### One set of names for the two kinds of link -/

/-- The number of a link among those of its kind. -/
def lkIx : LinkId → Nat
  | .catch_ l => l.val
  | .fabric l => l.val

/-- Is it a fabric link? -/
def isFab : LinkId → Bool
  | .catch_ _ => false
  | .fabric _ => true

/-- One field of a catch link's register or of a fabric link's. -/
def lkF (k : LinkId) (c f : Fld) : Fld := if isFab k then f else c

/-- STATE of a link (09 R217): 0 DOWN, 1 TRAIN, 2 LOCK, 3 UP. -/
def State.linkSt (s : State) (k : LinkId) : Nat := s.fget (lkF k F.CLSTAT_STATE F.FLSTAT_STATE) 0 (lkIx k)

/-- FSEQ expected next. -/
def State.rxSeq (s : State) (k : LinkId) : Nat := s.fget (lkF k F.CLSTAT_RXSEQ F.FLSTAT_RXSEQ) 0 (lkIx k)

/-- FSEQ of the next new frame. -/
def State.txSeq (s : State) (k : LinkId) : Nat := s.fget (lkF k F.CLSTAT_TXSEQ F.FLSTAT_TXSEQ) 0 (lkIx k)

/-- RXSEQ set. -/
def State.setRxSeq (s : State) (k : LinkId) (n : Nat) : State := s.fset (lkF k F.CLSTAT_RXSEQ F.FLSTAT_RXSEQ) 0 (lkIx k) (n % 4096)

/-- TXSEQ set. -/
def State.setTxSeq (s : State) (k : LinkId) (n : Nat) : State := s.fset (lkF k F.CLSTAT_TXSEQ F.FLSTAT_TXSEQ) 0 (lkIx k) (n % 4096)

/-- A link changed. -/
def State.onLink (s : State) (k : LinkId) (g : Link → Link) : State := s.setLink k (g (s.link k))

/-- Is the partner holding the device (09 R214)? Never on a fabric link. -/
def State.phold (s : State) (k : LinkId) : Bool := !isFab k && s.fget F.CLSTAT_PHOLD 0 (lkIx k) = 1

/-! ### States (R215, R217; 11 R290, R299) -/

/-- A fabric link enters or leaves UP: the route interrupt and its event (11 R299). -/
def State.routeChange (s : State) (k : LinkId) (up : Bool) : State :=
  if isFab k then (s.raiseDev 3).event 4 (lkIx k + b2n up * 16) else s

/-- STATE set; a fabric link that leaves LOCK clears MISWIRE. -/
def State.setLinkSt (s : State) (k : LinkId) (st : Nat) : State :=
  let old := s.linkSt k
  let s := s.fset (lkF k F.CLSTAT_STATE F.FLSTAT_STATE) 0 (lkIx k) st
  let s := if isFab k ∧ st ≠ 2 then s.fset F.FLSTAT_MISWIRE 0 (lkIx k) 0 else s
  if old = 3 ∧ st ≠ 3 then s.routeChange k false else if old ≠ 3 ∧ st = 3 then s.routeChange k true else s

/-- Everything a link holds is emptied, but for CNT tokens already counted (R217). -/
def State.emptyLink (s : State) (k : LinkId) : State :=
  let s := s.onLink k fun x => { Link.rst with pre := x.pre, dreqId := x.dreqId }
  if isFab k then s else (s.fset F.CLSTAT_HOLDING 0 (lkIx k) 0).fset F.CLSTAT_PHOLD 0 (lkIx k) 0

/-- EN written 0, or a return to TRAIN: the link is emptied and takes the state. -/
def State.linkTo (s : State) (k : LinkId) (st : Nat) : State := (s.setLinkSt k st).emptyLink k

/-- A loss (R215): TRAIN, LOSTF, LOSSES, the interrupt and the event. -/
def State.linkLoss (s : State) (k : LinkId) : State :=
  let s := (s.linkTo k 1).fset (lkF k F.CLSTAT_LOSTF F.FLSTAT_LOSTF) 0 (lkIx k) 1
  ((s.inc (lkF k F.CLCNT0_LOSSES F.FLCNT0_LOSSES) 0 (lkIx k)).raiseDev 4).event 5 (lkIx k + b2n (isFab k) * 32)

/-- Training has completed (R217): LIVE is sent from LOCK on. -/
def State.trained (s : State) (k : LinkId) : State :=
  if s.linkSt k = 1 then (s.setLinkSt k 2).onLink k fun x => { x with liveRx := s.now, liveTx := s.now, liveDue := true, liveSeen := false, ident := false }
  else s

/-- TRAINING_COMPLETE (09 R217). -/
def execTrainingComplete (dt : Nat) (k : LinkId) (s : State) : Host.Outcome State Fault Refusal := .next ((s.advance dt).trained k)

/-- A control block of 32 bytes (R212). -/
def ctlBlock (ctype : Nat) (b : List Byte) : List Byte := (BitVec.ofNat 8 ctype :: b ++ List.replicate 31 0).take 32

/-- A control block joins those that wait: its place in the order, its bytes, a reference time. -/
def State.postCtl (s : State) (k : LinkId) (rank : Nat) (b : List Byte) (t10 : Nat) : State :=
  s.onLink k fun x => { x with ctrl := x.ctrl ++ [(rank, b, t10)] }

/-- IDENT waits to be sent (11 R290). -/
def State.postIdent (s : State) (l : Fin 16) : State :=
  (s.onLink (.fabric l) fun x => { x with identAt := s.count }).postCtl (.fabric l) 8 (ctlBlock 0x0F (toBytes 2 s.devnum ++ toBytes 1 l.val)) 0

/-- DREQ waits to be sent (11 R301). -/
def State.postDreq (s : State) (l : Fin 16) : State :=
  let id := ((s.link (.fabric l)).dreqId + 1) % 256
  (s.onLink (.fabric l) fun x => { x with dreqId := id, dreq := none, dreqAt := s.count }).postCtl (.fabric l) 4 (ctlBlock 0x0D (toBytes 1 id)) 0

/-- The eight pairs of class and sub-channel with 64 credits each (11 R289). -/
def fullCredit : Tab Nat Nat := (List.range 8).map fun p => (p, 64)

/-- Entry to UP (R217; 11 R289, R290, R301). -/
def State.enterUp (s : State) (k : LinkId) : State :=
  let s := ((s.setLinkSt k 3).setRxSeq k 0).setTxSeq k 0
  let s := s.onLink k fun x => { x with vseq := 0, ackRx := s.now }
  match k with
  | .catch_ l =>
    let s := (s.fset F.CLSTAT_HOLDING 0 l.val 0).fset F.CLSTAT_PHOLD 0 l.val 0
    if s.fget F.CLCFG_AUTOX 0 l.val = 1 then s.postCtl k 5 (ctlBlock 0x0B []) 0 else s
  | .fabric l =>
    let s := (s.onLink k fun x => { x with cred := fullCredit, owed := [] }).setReg .FLDLY 0 l.val 0
    (s.postIdent l).postDreq l

/-- Does the partner's number pass (11 R290)? -/
def State.peerOk (s : State) (k : LinkId) : Bool :=
  !isFab k || ((s.link k).ident && (s.fget F.FLCFG_PEERV 0 (lkIx k) = 0 || s.fget F.FLSTAT_PDEV 0 (lkIx k) = s.fget F.FLCFG_PEER 0 (lkIx k)))

/-- Lock is there (LINK_UP says so) and a LIVE has come: the link is UP (R217). -/
def State.linkUp (s : State) (k : LinkId) : State :=
  if s.linkSt k = 2 ∧ (s.link k).liveSeen ∧ s.peerOk k then s.enterUp k else s

/-- LINK_UP (09 R217). -/
def execLinkUp (dt : Nat) (k : LinkId) (s : State) : Host.Outcome State Fault Refusal := .next ((s.advance dt).linkUp k)

/-- LOCK_LOSS (09 R215). -/
def execLockLoss (dt : Nat) (k : LinkId) (s : State) : Host.Outcome State Fault Refusal :=
  let s := s.advance dt
  .next (if 2 ≤ s.linkSt k then s.linkLoss k else s)

/-- No LIVE for 4 µs (R215). -/
def State.liveTimeout (s : State) (k : LinkId) : State :=
  if 2 ≤ s.linkSt k ∧ (s.link k).liveRx + 6400 ≤ s.now then s.linkLoss k else s

/-- LIVE_TIMEOUT (09 R215). -/
def execLiveTimeout (dt : Nat) (k : LinkId) (s : State) : Host.Outcome State Fault Refusal := .next ((s.advance dt).liveTimeout k)

/-- LIVE falls due every 100 beats (R215). -/
def State.liveDueNow (s : State) (k : LinkId) : State :=
  if 2 ≤ s.linkSt k ∧ (s.link k).liveTx + 800 ≤ s.now then s.onLink k fun x => { x with liveDue := true, liveTx := s.now } else s

/-- LIVE_DUE (09 R215). -/
def execLiveDue (dt : Nat) (k : LinkId) (s : State) : Host.Outcome State Fault Refusal := .next ((s.advance dt).liveDueNow k)

/-- A write of CLCFG or FLCFG after the checks of 00 R402 (R217, R218, 11 R304): MODE changes only while EN is 0. -/
def State.lkcfgWrite (s : State) (k : LinkId) (v : Word) : WRes :=
  let kind : RegKind := if isFab k then .FLCFG else .CLCFG
  let old := s.reg kind 0 (lkIx k)
  if wbits old 0 1 = 1 ∧ wbits old 1 1 ≠ wbits v 1 1 then .refuse 3 none
  else
    let s := s.setReg kind 0 (lkIx k) (if isFab k then v else wset v 4 1 0)
    let s := if wbits v 0 1 = 0 then (if s.linkSt k = 0 then s else s.linkTo k 0)
      else if s.linkSt k = 0 then s.setLinkSt k 1 else s
    .ok (if !isFab k ∧ wbits v 4 1 = 1 ∧ s.linkSt k = 3 then s.postCtl k 5 (ctlBlock 0x0B []) 0 else s)

/-! ### Received blocks (R210 to R213) -/

/-- A block is discarded: CRCERR, one NAK, and no data block is taken until the next REPLAY (R211, R213). -/
def State.discardBlock (s : State) (k : LinkId) : State :=
  if s.linkSt k < 2 then s
  else
    let s := s.inc (lkF k F.CLCNT0_CRCERR F.FLCNT0_CRCERR) 0 (lkIx k)
    if s.linkSt k = 3 ∧ !(s.link k).dropping then s.onLink k fun x => { x with dropping := true, nakDue := true } else s

/-- DISCARDED_BLOCK (09 R210 to R213). -/
def execDiscardedBlock (dt : Nat) (k : LinkId) (s : State) : Host.Outcome State Fault Refusal := .next ((s.advance dt).discardBlock k)

/-- A byte of a block, as a number. -/
def blkByte (b : List Byte) (i : Nat) : Nat := (b.getD i 0).toNat

/-- Bytes i to i + n − 1 of a block, as a number. -/
def blkNum (b : List Byte) (i n : Nat) : Nat := ofBytes ((b.drop i).take n)

/-- Is it a control block of this CTYPE with no unnamed byte set (R212)? -/
def blockOk (ctype : Nat) (named : List Nat) (b : List Byte) : Bool :=
  b.length = 32 && blkByte b 0 = ctype && (List.range 31).all fun i => named.contains (i + 1) || blkByte b (i + 1) = 0

/-- A control block arrives: it acts when the link is in a state that takes it, and is discarded when it is invalid. -/
def State.takeBlock (s : State) (k : LinkId) (least ctype : Nat) (named : List Nat) (b : List Byte) (f : State → State) : State :=
  if blockOk ctype named b then (if least ≤ s.linkSt k then f s else s) else s.discardBlock k

/-- A LIVE arrives; `fec` codewords were corrected since the last (R210, R215, R218). -/
def State.rxLive (s : State) (k : LinkId) (b : List Byte) (fec : Nat) : State :=
  let s := if s.fget (lkF k F.CLCFG_MODE F.FLCFG_MODE) 0 (lkIx k) = 0 ∧ 2 ≤ s.linkSt k then s.finc (lkF k F.CLCNT0_FECCOR F.FLCNT0_FECCOR) 0 (lkIx k) fec else s
  s.takeBlock k 2 1 [] b fun s => s.onLink k fun x => { x with liveRx := s.now, liveSeen := true }

/-- LIVE (09 R215). -/
def execLive (dt : Nat) (k : LinkId) (block : List Byte) (fec : Nat) (s : State) : Host.Outcome State Fault Refusal :=
  .next ((s.advance dt).rxLive k block fec)

/-- Frames up to one that is acknowledged are kept no longer (R213). -/
def Link.acked (x : Link) (n now : Nat) : Link :=
  if x.unack.any fun p => p.1 = n then
    let r := (x.unack.dropWhile fun p => p.1 ≠ n).drop 1
    { x with unack := r, replayq := x.replayq.filter (fun p => r.any fun q => q.1 = p.1), ackRx := now }
  else x

/-- An ACK arrives. -/
def State.rxAck (s : State) (k : LinkId) (b : List Byte) : State :=
  s.takeBlock k 3 2 [1, 2] b fun s => s.onLink k fun x => x.acked (blkNum b 1 2 % 4096) s.now

/-- ACK (09 R213). -/
def execAck (dt : Nat) (k : LinkId) (block : List Byte) (s : State) : Host.Outcome State Fault Refusal := .next ((s.advance dt).rxAck k block)

/-- A replay from a frame on: REPLAY names it, or the next new frame when it is not kept. -/
def Link.replayFrom (x : Link) (n next : Nat) : Link :=
  let r := x.unack.dropWhile fun p => p.1 ≠ n
  { x with replayq := r, replayDue := some (match r with | p :: _ => p.1 | [] => next) }

/-- A NAK arrives: every unacknowledged verdict, then REPLAY, then the frames from the one named (R213). -/
def State.rxNak (s : State) (k : LinkId) (b : List Byte) : State :=
  s.takeBlock k 3 3 [1, 2] b fun s => s.onLink k fun x =>
    { x.replayFrom (blkNum b 1 2 % 4096) (s.txSeq k) with verd := x.verd.map fun (v : VerdictBlk) => { v with due := true } }

/-- NAK (09 R213). -/
def execNak (dt : Nat) (k : LinkId) (block : List Byte) (s : State) : Host.Outcome State Fault Refusal := .next ((s.advance dt).rxNak k block)

/-- A REPLAY arrives: data blocks are taken again (R211, R213). -/
def State.rxReplay (s : State) (k : LinkId) (b : List Byte) : State :=
  s.takeBlock k 3 4 [1, 2] b fun s => s.onLink k fun x => { x with dropping := false, nakDue := false, nakAt := none }

/-- REPLAY (09 R213). -/
def execReplay (dt : Nat) (k : LinkId) (block : List Byte) (s : State) : Host.Outcome State Fault Refusal := .next ((s.advance dt).rxReplay k block)

/-- HOLD (09 R214). -/
def execHold (dt : Nat) (l : Fin 32) (block : List Byte) (s : State) : Host.Outcome State Fault Refusal :=
  .next ((s.advance dt).takeBlock (.catch_ l) 3 5 [] block fun s => s.fset F.CLSTAT_PHOLD 0 l.val 1)

/-- RUN_BLOCK (09 R214). -/
def execRunBlock (dt : Nat) (l : Fin 32) (block : List Byte) (s : State) : Host.Outcome State Fault Refusal :=
  .next ((s.advance dt).takeBlock (.catch_ l) 3 6 [] block fun s => s.fset F.CLSTAT_PHOLD 0 l.val 0)

/-- VACK (09 R231). -/
def execVack (dt : Nat) (l : Fin 32) (block : List Byte) (s : State) : Host.Outcome State Fault Refusal :=
  .next ((s.advance dt).takeBlock (.catch_ l) 3 8 [1] block fun s =>
    s.onLink (.catch_ l) fun x => { x with verd := x.verd.filter fun (v : VerdictBlk) => v.seq ≠ blkByte block 1 })

/-- No REPLAY within 2 µs of a NAK: it is sent again (R213). -/
def State.nakResend (s : State) (k : LinkId) : State :=
  match (s.link k).nakAt with
  | some t => if s.linkSt k = 3 ∧ t + 3200 ≤ s.now then s.onLink k fun x => { x with nakDue := true, nakAt := none } else s
  | none => s

/-- NAK_RESEND (09 R213). -/
def execNakResend (dt : Nat) (k : LinkId) (s : State) : Host.Outcome State Fault Refusal := .next ((s.advance dt).nakResend k)

/-- No ACK has advanced for 2 µs with frames outstanding: replay from the oldest (R213). -/
def State.replayTimeout (s : State) (k : LinkId) : State :=
  match (s.link k).unack with
  | [] => s
  | p :: _ => if s.linkSt k = 3 ∧ (s.link k).ackRx + 3200 ≤ s.now then s.onLink k fun x => { x.replayFrom p.1 p.1 with ackRx := s.now } else s

/-- REPLAY_TIMEOUT (09 R213). -/
def execReplayTimeout (dt : Nat) (k : LinkId) (s : State) : Host.Outcome State Fault Refusal := .next ((s.advance dt).replayTimeout k)

/-- The ACK interval of 256 ns has passed since the first frame that no ACK has named (R213). -/
def State.ackDueNow (s : State) (k : LinkId) : State :=
  let x := s.link k
  if s.linkSt k = 3 ∧ x.rxCount ≠ 0 ∧ x.rxAt + 409 ≤ s.now then s.onLink k fun x => { x with ackDue := true } else s

/-- ACK_DUE (09 R213). -/
def execAckDue (dt : Nat) (k : LinkId) (s : State) : Host.Outcome State Fault Refusal := .next ((s.advance dt).ackDueNow k)

/-- A verdict unacknowledged for 1 µs is sent again (R231). -/
def State.verdictResend (s : State) (l : Fin 32) : State :=
  if s.clUp l.val then
    s.onLink (.catch_ l) fun x => { x with verd := x.verd.map fun (v : VerdictBlk) => if v.at_ + 1600 ≤ s.now then { v with due := true } else v }
  else s

/-- VERDICT_RESEND (09 R231). -/
def execVerdictResend (dt : Nat) (l : Fin 32) (s : State) : Host.Outcome State Fault Refusal := .next ((s.advance dt).verdictResend l)

/-! ### Received frames (R211, R213, R214) -/

/-- One frame more is received in order: ACK is due after 64, or 256 ns after the first. -/
def Link.counted (x : Link) (now : Nat) : Link :=
  { x with rxCount := x.rxCount + 1, rxAt := if x.rxCount = 0 then now else x.rxAt, ackDue := x.ackDue || decide (64 ≤ x.rxCount + 1) }

/-- A frame arrives on an UP link: the next in order is taken; a duplicate is acknowledged again; any other makes a NAK (R213). -/
def State.rxFrame (s : State) (k : LinkId) (w : List Word) (take : State → State) : State :=
  let x := s.link k
  if s.linkSt k ≠ 3 ∨ x.dropping then s
  else
    let behind := (s.rxSeq k + 4096 - fSeq w) % 4096
    if behind = 0 then take ((s.setRxSeq k (s.rxSeq k + 1)).onLink k fun x => x.counted s.now)
    else if behind ≤ 2048 then s.onLink k fun x => { x with ackDue := true }
    else s.onLink k fun x => { x with dropping := true, nakDue := true }

/-- A catch frame joins the receive buffer of 256; HOLD is due when 128 places are free (R214). A frame beyond the buffer is discarded. -/
def State.bufferFrame (s : State) (l : Fin 32) (w : List Word) (resent : Bool) : State :=
  let k : LinkId := .catch_ l
  if 256 ≤ (s.link k).rxq.length then s.inc F.CLCNT1_FRDROP 0 l.val
  else
    let s := s.onLink k fun x => { x with rxq := x.rxq ++ [(w, resent)] }
    if 128 ≤ (s.link k).rxq.length ∧ s.fget F.CLSTAT_HOLDING 0 l.val = 0 then
      (s.fset F.CLSTAT_HOLDING 0 l.val 1).onLink k fun x => { x with holdDue := some true }
    else s

/-- CATCH_FRAME (09 R213, R214, R224 to R226): `resent` says that the partner sent the frame before. -/
def execCatchFrame (dt : Nat) (l : Fin 32) (frame : List Word) (resent : Bool) (s : State) : Host.Outcome State Fault Refusal :=
  .next ((s.advance dt).rxFrame (.catch_ l) frame fun s => (s.bufferFrame l frame resent).serveLink l.val)

/-! ### Stimulus (R227, R228) -/

/-- A token that a link's transmitter cannot send (R227). -/
def State.stimBad (s : State) (l : Nat) (k : Token) (code : Nat) : State := s.linkFault l k.tag (some k) code

/-- Does a DRV token break R220 or its buffer reference R227? -/
def drvBad (k : Token) : Bool := wbits k.val 4 12 ≠ 0 || wbits k.val 32 32 ≠ 0 || wbits k.aux 0 16 ≠ 7 || wbits k.aux 16 3 ≠ 0

/-- A token released to a link leaves it, or waits for its buffer read (R227). -/
def State.stimulus (s : State) (l : Fin 32) (k : Token) (cls0 : Bool) : State :=
  if k.fault then s.onLink (.catch_ l) fun x => { x with txq := x.txq ++ [.gap k.lane k.seq] }
  else match wbits k.val 0 4 with
    | 0x8 => if drvBad k then s.stimBad l.val k 2 else s.onLink (.catch_ l) fun x => { x with stim := some k }
    | 0xC => s.sendVerdict l.val k.val cls0
    | _ => s.stimBad l.val k 2

/-- The fault of a read of 56 bytes for a stimulus frame, or none (10 R243, R253, R255). -/
def State.bufFault (s : State) (a : Nat) : Option Nat :=
  (List.range 7).foldl (fun f i => f.orElse fun _ =>
    match s.region none (a + 8 * i) with
    | .dram o => if s.badWord o 8 then some 0x10 else none
    | .spad t o => if s.bankMode t (bankOf o) = 2 then some 3 else if s.badWord (spadAddr t o) 8 then some 0x10 else none
    | _ => some 3) none

/-- The words of a buffer that cannot be read yet: a sleeping domain or a bank that holds its data wakes, and a segment that is being moved ends its move (10 R253, R260, 11 R281). -/
def State.bufWait (s : State) (a : Nat) : Option State :=
  (List.range 7).foldl (fun f i => f.orElse fun _ =>
    match s.region none (a + 8 * i) with
    | .dram o => if s.segBusy o then some s else none
    | .spad t o =>
      if !s.tileOn t ∧ s.fget F.TPWR_STATE 0 t ≠ 3 then some (s.askWake t)
      else if s.bankBusy t (bankOf o) then some s
      else if s.bankMode t (bankOf o) = 1 then some (s.bankStart t (bankOf o) 1 0 (some (s.now + 32))) else none
    | _ => none) none

/-- The buffer read ends: the frame joins what is sent, or its token is discarded (R227). -/
def State.stimRead (s : State) (l : Fin 32) : State :=
  match (s.link (.catch_ l)).stim with
  | none => s
  | some k =>
    let a := wbits k.aux 16 48
    match s.bufWait a with
    | some t => t
    | none =>
      let s := s.onLink (.catch_ l) fun x => { x with stim := none }
      match s.bufFault a with
      | some code => (if code = 0x10 then s.countUnc (s.memAddr none a) else s).stimBad l.val k code
      | none =>
        let w := (List.range 7).map fun i => wd (s.load (s.memAddr none (a + 8 * i)) 8)
        let s := (List.range 7).foldl (fun s i => s.useCor (s.memAddr none (a + 8 * i)) 8 true) s
        s.onLink (.catch_ l) fun x => { x with txq := x.txq ++ [.frame (k.val :: w)] }

/-- STIMULUS_BUFFER_READ (09 R227, R228). -/
def execStimulusBufferRead (dt : Nat) (l : Fin 32) (s : State) : Host.Outcome State Fault Refusal := .next ((s.advance dt).stimRead l)

/-! ### The transmitter (R229; 11 R291) -/

/-- The first of some actions that applies. -/
def firstDo (s : State) : List (State → Option State) → Option State
  | [] => none
  | f :: r => match f s with
    | some t => some t
    | none => firstDo s r

/-- A VERDICT block, new or resent (R212, R231). -/
def State.txVerdict (l : Fin 32) (s : State) : Option State :=
  let x := s.link (.catch_ l)
  match x.verd.find? fun (v : VerdictBlk) => v.due with
  | none => none
  | some v =>
    let s := s.emit (.block (.catch_ l) (ctlBlock 7 (toBytes 1 (v.sym + v.site * 4) ++ toBytes 2 v.arg ++ toBytes 1 v.seq)))
    let s := if v.again then s.inc F.CLCNT1_VRETRY 0 l.val else s
    let s := if v.again && v.cls0 then s.inc F.C0BOUND_C0RETRY 0 (s.siteAct l.val v.site) else s
    some (s.setLink (.catch_ l) { x with
      verd := x.verd.map fun (u : VerdictBlk) => if u.seq = v.seq then { u with due := false, at_ := s.now, again := true } else u })

/-- NAK. -/
def State.txNak (k : LinkId) (s : State) : Option State :=
  if (s.link k).nakDue then
    some ((s.emit (.block k (ctlBlock 3 (toBytes 2 (s.rxSeq k))))).onLink k fun x => { x with nakDue := false, nakAt := some s.now })
  else none

/-- REPLAY, then the replayed frames. -/
def State.txReplay (k : LinkId) (s : State) : Option State :=
  let x := s.link k
  match x.replayDue with
  | some n => some ((s.emit (.block k (ctlBlock 4 (toBytes 2 n)))).setLink k { x with replayDue := none })
  | none =>
    match x.replayq with
    | [] => none
    | p :: r =>
      if s.phold k then none
      else some (((s.emit (.frame k p.2)).inc (lkF k F.CLCNT0_REPLAYS F.FLCNT0_REPLAYS) 0 (lkIx k)).setLink k { x with replayq := r })

/-- STROKE. -/
def State.txStroke (l : Fin 32) (s : State) : Option State :=
  if (s.link (.catch_ l)).strokeDue then
    some ((s.emit (.block (.catch_ l) (ctlBlock 0x0A (toBytes 6 s.count)))).onLink (.catch_ l) fun x => { x with strokeDue := false })
  else none

/-- HOLD or RUN. -/
def State.txHold (l : Fin 32) (s : State) : Option State :=
  match (s.link (.catch_ l)).holdDue with
  | some h => some ((s.emit (.block (.catch_ l) (ctlBlock (if h then 5 else 6) []))).onLink (.catch_ l) fun x => { x with holdDue := none })
  | none => none

/-- Time at the lands of the first bit of a block sent now, in units of 10 ps: a cycle is 62.5 of them (11 R300, R301). -/
def State.landsTime (s : State) (l : Nat) : Nat := s.now * 125 / 2 + Config.txLands l

/-- A waiting block with its time filled in: OFS of a MARKER, TURN of a DRSP (11 R287). -/
def stampBlock (b : List Byte) (dt10 : Nat) : List Byte :=
  match blkByte b 0 with
  | 0x0C => b.take 8 ++ toBytes 2 dt10 ++ b.drop 10
  | 0x0E => b.take 2 ++ toBytes 4 dt10 ++ b.drop 6
  | _ => b

/-- The oldest waiting block of a place in the order. -/
def State.txCtrl (k : LinkId) (rank : Nat) (s : State) : Option State :=
  match takeFirst (fun (e : Nat × List Byte × Nat) => e.1 = rank) (s.link k).ctrl with
  | none => none
  | some (e, r) =>
    let t := s.landsTime (lkIx k)
    let s := s.emit (.block k (stampBlock e.2.1 (t - e.2.2)))
    some (s.onLink k fun x => { x with ctrl := r, dreq := if blkByte e.2.1 0 = 0x0D then some (blkByte e.2.1 1, t) else x.dreq })

/-- LIVE. -/
def State.txLive (k : LinkId) (s : State) : Option State :=
  if (s.link k).liveDue then some ((s.emit (.block k (ctlBlock 1 []))).onLink k fun x => { x with liveDue := false }) else none

/-- ACK. -/
def State.txAck (k : LinkId) (s : State) : Option State :=
  if (s.link k).ackDue then
    some ((s.emit (.block k (ctlBlock 2 (toBytes 2 ((s.rxSeq k + 4095) % 4096))))).onLink k fun x => { x with ackDue := false, rxCount := 0 })
  else none

/-- A new frame takes the next FSEQ and is kept until it is acknowledged (R213). -/
def State.sendFrame (s : State) (k : LinkId) (w : List Word) (rest : List TxItem) : State :=
  let n := s.txSeq k
  let w := wset (fw w 0) 4 12 n :: w.drop 1
  let s := (s.emit (.frame k w)).setTxSeq k (n + 1)
  s.onLink k fun x => { x with txq := rest, unack := x.unack ++ [(n, w)], ackRx := if x.unack.isEmpty then s.now else x.ackRx }

/-- GAP and new stimulus frames in release order (R213, R214, R227). -/
def State.txNew (l : Fin 32) (s : State) : Option State :=
  let k : LinkId := .catch_ l
  let x := s.link k
  match x.txq with
  | .gap lane seq :: r => some ((s.emit (.block k (ctlBlock 9 (toBytes 3 seq ++ toBytes 2 lane)))).setLink k { x with txq := r })
  | .frame w :: r => if s.phold k ∨ 512 ≤ x.unack.length then none else some (s.sendFrame k w r)
  | _ => none

/-- CRED for the first pair that is owed: CLS and SUB, and the count (11 R287, R289). -/
def State.txCred (l : Fin 16) (s : State) : Option State :=
  let k : LinkId := .fabric l
  let x := s.link k
  match x.owed.find? fun (p : Nat × Nat) => decide (8 ≤ p.2) || (p.2 ≠ 0 && x.credDue) with
  | none => none
  | some (p, n) =>
    let s := s.emit (.block k (ctlBlock 0x10 (toBytes 1 (p / 2 + p % 2 * 4) ++ toBytes 2 n)))
    let rest := tdel x.owed p
    some (s.setLink k { x with owed := rest, credDue := x.credDue && rest.any fun (e : Nat × Nat) => e.2 ≠ 0, owedAt := s.now })

/-- The pair of a waiting frame, when it may start: its credit is there (11 R289). -/
def fabItem (x : Link) (cls : Nat) : TxItem → Bool
  | .fab c sub _ => c = cls && tget x.cred 0 (c * 2 + sub) ≠ 0
  | _ => false

/-- The class of the next new frame, with the pointer after it: class 0 first, then the weighted round robin (11 R291, R273). -/
def fabClass (x : Link) : Option (Nat × Nat) :=
  if x.txq.any (fabItem x 0) then some (0, x.wrr)
  else (((List.range 7).map fun i => (x.wrr + i) % 7).find? fun i => x.txq.any (fabItem x ([1, 2, 1, 3, 1, 2, 1].getD i 1))).map
    fun i => ([1, 2, 1, 3, 1, 2, 1].getD i 1, (i + 1) % 7)

/-- A new fabric frame uses one credit and counts (11 R289, R304). -/
def State.txFab (l : Fin 16) (s : State) : Option State :=
  let k : LinkId := .fabric l
  let x := s.link k
  if 512 ≤ x.unack.length then none
  else match fabClass x with
    | none => none
    | some (cls, ptr) =>
      match takeFirst (fabItem x cls) x.txq with
      | some (.fab c sub w, r) =>
        let s := (s.sendFrame k w r).incw F.FLCNT1_TXFR 0 l.val
        some (s.onLink k fun x => { x with wrr := ptr, cred := tput x.cred (c * 2 + sub) (tget x.cred 0 (c * 2 + sub) - 1) })
      | _ => none

/-- One block boundary outside a frame: the first of what waits leaves (R229; 11 R291). -/
def State.txBlock (s : State) (k : LinkId) : State :=
  if s.linkSt k < 2 then s
  else match k with
    | .catch_ l =>
      (firstDo s [State.txVerdict l, State.txNak k, State.txReplay k, State.txStroke l, State.txHold l, State.txCtrl k 5,
        State.txLive k, State.txAck k, State.txNew l]).getD s
    | .fabric l =>
      (firstDo s [State.txCtrl k 1, State.txNak k, State.txReplay k, State.txCtrl k 4, State.txLive k, State.txAck k, State.txCred l,
        State.txCtrl k 8, State.txFab l]).getD s

end Sys2Proof.Machine
end

