-- ==== Sys2Proof/Machine/Fabric.lean ====
section
/-! DEFINITION. Fabric links and gateways: frames, credits, routing banks, returns, identities and delays (11 R286 to R301). -/
namespace Sys2Proof.Machine

/-! ### Frames (R288) -/

/-- The CRC-32C of a fabric frame: W0[63:24], W1[31:0] and W2 to W5 with HOPS taken as 0 (R288). -/
def fabCrc (w : List Word) : Nat :=
  let n := (fw w 0).toNat / 2 ^ 24 + wbits (fw w 1) 0 32 * 2 ^ 40 + (fw w 2).toNat * 2 ^ 72 + (wset (fw w 3) 8 4 0).toNat * 2 ^ 136
    + (fw w 4).toNat * 2 ^ 200 + (fw w 5).toNat * 2 ^ 264
  Nat.xor (crcRefl 0x82F63B78 Config.crcInit.toNat n 41) Config.crcFinal.toNat

/-- The frame that carries a token or a RET on a hop; its CRC is the one it came with, if it came in a frame. -/
def FabTok.frame (k : FabTok) (sub : Nat) (tok : Token) : List Word :=
  let w0 := wd ((if k.ret = 0 then 0xA else 0xB) + sub * 2 ^ 16 + k.stile * 2 ^ 24 + k.tok.cls * 2 ^ 30 + k.take * 2 ^ 32 + k.sdev * 2 ^ 48)
  let w1 := if k.ret = 0 then 0 else 0x11 + k.ret * 256
  let crc := k.crc.getD (fabCrc [w0, wd w1, tok.tag, tok.dst, tok.val, tok.aux])
  [w0, wd (w1 + crc * 2 ^ 32), tok.tag, tok.dst, tok.val, tok.aux, 0, 0]

/-- Does a frame have a reserved TYPE, or an unnamed field that is not 0 (R288)? -/
def fabFrameBad (w : List Word) : Bool :=
  w.length ≠ 8 || (fType w ≠ 0xA && fType w ≠ 0xB) || wbits (fw w 0) 17 7 ≠ 0 || wbits (fw w 1) 11 21 ≠ 0 ||
  (fType w = 0xA && wbits (fw w 1) 0 11 ≠ 0) || fw w 6 ≠ 0 || fw w 7 ≠ 0

/-- The token of a frame. -/
def frameTok (w : List Word) : Token := ⟨fw w 2, fw w 3, fw w 4, fw w 5⟩

/-- What a frame carries, with the buffer it takes (R288, R289). -/
def frameFab (l : Nat) (w : List Word) : FabTok :=
  ⟨frameTok w, if fType w = 0xB then wbits (fw w 1) 8 3 else 0, wbits (fw w 0) 32 16, wbits (fw w 0) 48 16, wbits (fw w 0) 24 6,
    wbits (fw w 0) 16 1, some (wbits (fw w 1) 32 32), some (l, wbits (fw w 0) 30 2 * 2 + wbits (fw w 0) 16 1)⟩

/-- Is this device the destination of a token or a RET (R292, R298)? -/
def State.fabHere (s : State) (k : FabTok) : Bool :=
  if k.ret = 0 then k.tok.dev = 0xFFFF || k.tok.dev = s.devnum else k.sdev = s.devnum

/-! ### Routes (R292 to R299) -/

/-- The entry of a bank for a DEV: LINK, VALID, DL (R294). -/
def State.rtEntry (s : State) (b dev : Nat) : Nat := wbits (s.reg .RTENT 0 (b * 8192 + dev / 8)) (8 * (dev % 8)) 8

/-- The bank that routes a stamped take, and whether none served it (R295). -/
def State.routeBank (s : State) (take : Nat) : Nat × Bool :=
  let cur := (s.bankIn 2).getD 0
  if s.serves cur take then (cur, false)
  else match s.bankIn 3 with
    | some o => if s.serves o take then (o, false) else (cur, true)
    | none => (cur, true)

/-- Where a token goes next, or why it is returned: (link, DL), or a REASON (R295). A RET goes by the CURRENT bank (R298). -/
def State.fabNext (s : State) (k : FabTok) : Except Nat (Nat × Nat) :=
  let b := if k.ret = 0 then (s.routeBank k.take).1 else (s.bankIn 2).getD 0
  let e := s.rtEntry b (if k.ret = 0 then k.tok.dev else k.sdev)
  let l := bits e 0 4
  if bits e 4 1 = 0 then .error 2
  else if s.fget F.FLSTAT_STATE 0 l ≠ 3 then .error 1
  else if k.ret = 0 ∧ k.tok.hops = 0 then .error 3
  else .ok (l, bits e 5 1)

/-- Is the token held at a cut: stamped on this device for the CURRENT bank, with a route that the cut changed, before HOLDT has passed (R297)? -/
def State.fabHeld (s : State) (k : FabTok) : Bool :=
  match s.fabHoldTo, s.bankIn 2, s.bankIn 3 with
  | some e, some c, some o =>
    decide (s.now < e) && k.ret = 0 && k.sdev = s.devnum && s.serves c k.take && s.rtEntry c k.tok.dev ≠ s.rtEntry o k.tok.dev
  | _, _, _ => false

/-- A token that cannot be routed is returned (R295, R298); a RET is lost. -/
def State.fabRefuse (s : State) (g reason : Nat) (k : FabTok) : State :=
  let s := if reason = 3 then s.inc F.FABSTAT_HOPSX 0 0 else s
  if k.ret ≠ 0 then (s.oweCredit k.via).inc F.FABSTAT_RETLOST 0 0 else s.fabReturn g reason k

/-- TKMISS counts a token that no bank serves, when it is sent or returned (R295). -/
def State.fabMiss (s : State) (k : FabTok) : State :=
  if k.ret = 0 ∧ (s.routeBank k.take).2 then s.inc F.FABSTAT_TKMISS 0 0 else s

/-- Does a frame of the pair wait at the link's transmitter? -/
def fabWaits (x : Link) (cls sub : Nat) : Bool :=
  x.txq.any fun i => match i with
    | .fab c u _ => c = cls && u = sub
    | _ => false

/-- A token goes on a link of this gateway, once the place for its pair at the transmitter is free. -/
def State.fabSend (s : State) (l dl : Nat) (k : FabTok) : Option State :=
  let key : LinkId := .fabric (Fin.ofNat 16 l)
  let sub := if dl = 1 then 1 else k.sub
  let tok := if k.ret = 0 then { k.tok with dst := wset k.tok.dst 8 4 (k.tok.hops - 1) } else k.tok
  if fabWaits (s.link key) k.tok.cls sub then none
  else some ((((s.fabMiss k).oweCredit k.via).onLink key fun x => { x with txq := x.txq ++ [.fab k.tok.cls sub (k.frame sub tok)] }))

/-- A gateway puts a token on the mesh; nothing happens when there is no room. -/
def State.fabInject (s : State) (g : Nat) (dest : TokTo) (k : FabTok) : Option State :=
  let site := s.siteOf dest
  match s.inject (fgRouter g) true (mkPacket 0 (k.tok.cls + 1) site.1 site.2 (fgRouter g) true 1 (.fab { k with via := none } dest)) with
  | .sent s => some (s.oweCredit k.via)
  | _ => none

/-- One token of a gateway is delivered, sent, passed to another gateway or returned; none when it waits. -/
def State.fabStep (s : State) (g : Nat) (k : FabTok) : Option State :=
  if s.fabHere k then
    if k.ret = 0 then s.fabInject g (.node k.tok.tile) k
    else some ((s.oweCredit k.via).sendFault none k.stile (s.mkFault k.tok.tag (some k.tok) 0x11 5 k.stile 0))
  else if s.fabHeld k then none
  else match s.fabNext k with
    | .error r => some ((s.fabMiss k).fabRefuse g r k)
    | .ok (l, dl) => if l / 4 = g then s.fabSend l dl k else s.fabInject g (.fabric (l / 4)) k

/-- Must a token wait behind another: the same source, destination and class (R297)? -/
def fabSame (a b : FabTok) : Bool := a.sdev = b.sdev && a.tok.dev = b.tok.dev && a.tok.cls = b.tok.cls && (a.ret = 0) = (b.ret = 0)

/-- The tokens of a gateway in order: those that can go do, the others wait (R293 to R298). -/
def State.fabServe (s : State) (g : Nat) (kept : List FabTok) : List FabTok → State
  | [] => { s with fgq := tput s.fgq g (kept ++ tget s.fgq [] g) }
  | k :: r =>
    if kept.any (fabSame k) then s.fabServe g (kept ++ [k]) r
    else match s.fabStep g k with
      | some t => t.fabServe g kept r
      | none => s.fabServe g (kept ++ [k]) r

/-- A gateway routes what waits at it. -/
def State.serveGate (s : State) (g : Nat) : State :=
  let l := tget s.fgq [] g
  { s with fgq := tdel s.fgq g }.fabServe g [] l

/-- FABRIC_ROUTE (11 R295). -/
def execFabricRoute (dt : Nat) (g : Fin 4) (s : State) : Host.Outcome State Fault Refusal := .next ((s.advance dt).serveGate g.val)

/-- HOLDT has passed: the held tokens are sent in order (R297). -/
def State.holdtExpiry (s : State) : State :=
  match s.fabHoldTo with
  | some e => if e ≤ s.now then (List.range 4).foldl State.serveGate { s with fabHoldTo := none } else s
  | none => s

/-- HOLDT_EXPIRY (11 R297). -/
def execHoldtExpiry (dt : Nat) (s : State) : Host.Outcome State Fault Refusal := .next (s.advance dt).holdtExpiry

/-- A fabric frame in order: discarded when it is malformed, or when it ends here with a wrong CRC; otherwise it goes to its gateway (R288, R292). -/
def State.takeFab (s : State) (l : Fin 16) (w : List Word) : State :=
  let s := s.incw F.FLCNT1_RXFR 0 l.val
  let k := frameFab l.val w
  if fabFrameBad w then (s.inc F.FLCNT0_CRCERR 0 l.val).oweCredit k.via
  else if s.fabHere k ∧ k.crc ≠ some (fabCrc w) then (s.inc F.FABSTAT_E2EERR 0 0).oweCredit k.via
  else (s.toGateway (l.val / 4) k).serveGate (l.val / 4)

/-- FABRIC_TOKEN_FRAME (11 R288, R292, R295). -/
def execFabricTokenFrame (dt : Nat) (l : Fin 16) (frame : List Word) (s : State) : Host.Outcome State Fault Refusal :=
  .next ((s.advance dt).rxFrame (.fabric l) frame fun s => s.takeFab l frame)

/-- RET_FRAME (11 R298): a RET becomes a fault token on the device that stamped its token, and is forwarded on another. -/
def execRetFrame (dt : Nat) (l : Fin 16) (frame : List Word) (s : State) : Host.Outcome State Fault Refusal :=
  .next ((s.advance dt).rxFrame (.fabric l) frame fun s => s.takeFab l frame)

/-- A word of the unreachable map: bit d is 1 while the CURRENT entry for d names a link that is not UP (R299). -/
def State.unrWord (s : State) (i : Nat) : Word :=
  let b := (s.bankIn 2).getD 0
  wd ((List.range 64).foldl (fun n k =>
    let e := s.rtEntry b (64 * i + k)
    n + b2n (bits e 4 1 = 1 && s.fget F.FLSTAT_STATE 0 (bits e 0 4) ≠ 3) * 2 ^ k) 0)

/-! ### Routing banks (R296) -/

/-- A write of RTBANK after the checks of 00 R402: FROM only while FREE; STAGE on FREE, UNSTAGE on STAGED. -/
def State.rtbankWrite (s : State) (b : Nat) (v : Word) : WRes :=
  let st := s.fget F.RTBANK_STATE 0 b
  if st ≠ 0 ∧ wbits v 0 16 ≠ s.fget F.RTBANK_FROM 0 b then .refuse 3 none
  else
    let s := s.fset F.RTBANK_FROM 0 b (wbits v 0 16)
    .ok (if st = 0 ∧ wbits v 18 1 = 1 then s.fset F.RTBANK_STATE 0 b 1
      else if st = 1 ∧ wbits v 19 1 = 1 then s.fset F.RTBANK_STATE 0 b 0 else s)

/-- A write of eight routing entries (R296): only while their bank is FREE. -/
def State.rtentWrite (s : State) (i : Nat) (v : Word) : WRes :=
  if (List.range 8).any fun k => wbits v (8 * k + 6) 2 ≠ 0 then .refuse 2 none
  else if s.fget F.RTBANK_STATE 0 (i / 8192) ≠ 0 then .refuse 3 none
  else .ok (s.setReg .RTENT 0 i v)

/-- A cut enters a take (R296, R297): the bank staged for it becomes CURRENT and the former one OLD; tokens with a new route are held. -/
def State.rtCut (s : State) (take : Nat) : State :=
  match [0, 1].find? fun b => s.fget F.RTBANK_STATE 0 b = 1 && s.fget F.RTBANK_FROM 0 b = take with
  | none => s
  | some b =>
    let s := match s.bankIn 2 with
      | some c => (s.fset F.RTBANK_STATE 0 c 3).fset F.RTBANK_QUIET 0 c 0
      | none => s
    { s.fset F.RTBANK_STATE 0 b 2 with fabHoldTo := some (s.now + 8 * s.fget F.FABCFG_HOLDT 0 0), drainSeen := false }

/-- A stroke boundary: QUIET increments when DRAIN was 0 in every cycle of the stroke just ended (R296). -/
def State.rtQuiet (s : State) : State :=
  match s.bankIn 3 with
  | some b => { if s.drainSeen then s.fset F.RTBANK_QUIET 0 b 0 else s.inc F.RTBANK_QUIET 0 b with drainSeen := false }
  | none => { s with drainSeen := false }

/-- OLD_BANK_FREE (11 R296). -/
def execOldBankFree (b : Fin 2) (s : State) : Host.Outcome State Fault Refusal :=
  .next (if s.fget F.RTBANK_STATE 0 b.val = 3 ∧ s.fget F.FABCFG_RETSTR 0 0 ≤ s.fget F.RTBANK_QUIET 0 b.val then s.fset F.RTBANK_STATE 0 b.val 0 else s)

/-- A write of FABCFG after the checks of 00 R402: a new DEVNUM is told to every partner (R290). -/
def State.fabcfgWrite (s : State) (v : Word) : WRes :=
  let new := wbits v 0 16 ≠ s.devnum
  let s := s.setReg .FABCFG 0 0 v
  .ok (if new then (List.finRange 16).foldl (fun s l => if 2 ≤ s.linkSt (.fabric l) then s.postIdent l else s) s else s)

/-! ### Identities, credits and delays (R289, R290, R301) -/

/-- IDENT (11 R290). -/
def execIdent (dt : Nat) (l : Fin 16) (block : List Byte) (s : State) : Host.Outcome State Fault Refusal :=
  .next ((s.advance dt).takeBlock (.fabric l) 2 0x0F [1, 2, 3] block fun s =>
    let s := (s.fset F.FLSTAT_PDEV 0 l.val (blkNum block 1 2)).onLink (.fabric l) fun x => { x with ident := true }
    if s.linkSt (.fabric l) = 2 then s.fset F.FLSTAT_MISWIRE 0 l.val (b2n (!s.peerOk (.fabric l))) else s)

/-- CRED (11 R289). -/
def execCred (dt : Nat) (l : Fin 16) (block : List Byte) (s : State) : Host.Outcome State Fault Refusal :=
  .next ((s.advance dt).takeBlock (.fabric l) 3 0x10 [1, 2, 3] block fun s =>
    let p := blkByte block 1 % 4 * 2 + blkByte block 1 / 4 % 2
    s.onLink (.fabric l) fun x => { x with cred := tput x.cred p (min 64 (tget x.cred 0 p + blkNum block 2 2)) })

/-- CRED_DUE (11 R289): 256 ns have passed with credits owed. -/
def execCredDue (dt : Nat) (l : Fin 16) (s : State) : Host.Outcome State Fault Refusal :=
  let s := s.advance dt
  let x := s.link (.fabric l)
  .next (if x.owed.any (fun (p : Nat × Nat) => p.2 ≠ 0) ∧ x.owedAt + 409 ≤ s.now then s.setLink (.fabric l) { x with credDue := true } else s)

/-- Strokes since a count, modulo 2^48. -/
def State.strokesSince (s : State) (n : Nat) : Nat := (s.count + 2 ^ 48 - n) % 2 ^ 48

/-- PERIODIC_IDENT (11 R290): every 1,024 strokes on each UP link. -/
def execPeriodicIdent (dt : Nat) (s : State) : Host.Outcome State Fault Refusal :=
  .next ((List.finRange 16).foldl (fun s l =>
    if s.linkSt (.fabric l) = 3 ∧ 1024 ≤ s.strokesSince (s.link (.fabric l)).identAt then s.postIdent l else s) (s.advance dt))

/-- PERIODIC_DELAY_MEASURE (11 R301). -/
def execPeriodicDelayMeasure (dt : Nat) (l : Fin 16) (s : State) : Host.Outcome State Fault Refusal :=
  let s := s.advance dt
  .next (if s.linkSt (.fabric l) = 3 ∧ 1024 ≤ s.strokesSince (s.link (.fabric l)).dreqAt then s.postDreq l else s)

/-- DREQ (11 R301): its first bit was at the lands at `t10`; the answer leaves with TURN. -/
def execDreq (dt : Nat) (l : Fin 16) (block : List Byte) (t10 : Nat) (s : State) : Host.Outcome State Fault Refusal :=
  .next ((s.advance dt).takeBlock (.fabric l) 3 0x0D [1] block fun s => s.postCtl (.fabric l) 4 (ctlBlock 0x0E (toBytes 1 (blkByte block 1))) t10)

/-- DRSP (11 R301): FLDLY is ((t4 − t1) − TURN) / 2. -/
def execDrsp (dt : Nat) (l : Fin 16) (block : List Byte) (t10 : Nat) (s : State) : Host.Outcome State Fault Refusal :=
  .next ((s.advance dt).takeBlock (.fabric l) 3 0x0E [1, 2, 3, 4, 5] block fun s =>
    match (s.link (.fabric l)).dreq with
    | some (id, t1) =>
      if id = blkByte block 1 then
        ((s.fset F.FLDLY_DLY 0 l.val ((t10 - t1 - blkNum block 2 4) / 2)).fset F.FLDLY_DVALID 0 l.val 1).onLink (.fabric l) fun x => { x with dreq := none }
      else s
    | none => s)

end Sys2Proof.Machine
end

