-- ==== Sys2Proof/Machine/Release.lean ====
section
/-! DEFINITION. Continuity windows: arrivals, releases to the four kinds of sink, and gaps (03 R60 to R66). -/
namespace Sys2Proof.Machine

/-- The output that releases a lane's tokens (03 R58, R68). -/
def State.outletOf (s : State) (l : Nat) : Outlet :=
  let p := s.fget F.LANECFG_SPORT 0 l
  match s.fget F.LANECFG_SINK 0 l with
  | 0 => .link (Fin.ofNat 32 p)
  | 1 => .fabric (Fin.ofNat 4 p)
  | 2 => .host
  | _ => .queue (Fin.ofNat 64 p)

/-- What a lane would release now: the token for HEAD, or the GAP marker that waits (R61, R64). -/
def State.laneFront (s : State) (l : Nat) : Option Token :=
  let x := s.lane l
  match x.held? x.head with
  | some k => some k
  | none => if x.skip.isSome then some (s.gapMarker l x.head) else none

/-- Is a token a verdict (09 R227)? -/
def isVerdict (k : Token) : Bool := !k.fault && wbits k.val 0 4 = 0xC

/-- Can the lane's sink accept the token now (R61; 09 R213 to R215, R227, R231; 13 R350)? -/
def State.sinkAccepts (s : State) (l : Nat) (k : Token) : Bool :=
  match s.outletOf l with
  | .link c =>
    let x := s.link (.catch_ c)
    s.clUp c.val && x.stim.isNone &&
      (if isVerdict k then s.verdictRoom c.val
       else k.fault || wbits k.val 0 4 ≠ 8 || (s.fget F.CLSTAT_PHOLD 0 c.val = 0 && decide (x.unack.length < 512)))
  | .fabric _ => true
  | .host => s.ringRoom (2 + s.fget F.LANECFG_SQ 0 l)
  | .queue t => s.active t.val && s.qRoom t.val (s.fget F.LANECFG_SQ 0 l) = some true

/-- The tile that stands for a lane's source in a fabric frame and in a fault token (R288): the source tile, or FTILE of a catch link. -/
def State.laneStile (s : State) (l : Nat) : Nat :=
  if s.fget F.LANECFG_SRCK 0 l = 0 then s.fget F.CLCFG_FTILE 0 (s.fget F.LANECFG_SRC 0 l) else s.fget F.LANECFG_SRC 0 l

/-- A token handed to its sink (R61, R65). -/
def State.toSink (s : State) (l : Nat) (k : Token) : State :=
  match s.outletOf l with
  | .link c => s.stimulus c k (s.fget F.LANECFG_CLS0 0 l = 1)
  | .fabric g =>
    if k.fault then s
    else if s.devnum = 0xFFFF ∧ k.dev ≠ 0xFFFF then
      s.sendFault none (s.laneStile l) (s.mkFault k.tag (some k) 0x11 5 (s.laneStile l) 0)
    else (s.toGateway g.val (s.stampFab k (s.laneStile l))).serveGate g.val
  | .host => s.ringPut (2 + s.fget F.LANECFG_SQ 0 l) (toBytes 32 k.num)
  | .queue t => s.qPut t.val (s.fget F.LANECFG_SQ 0 l) k

/-- A marker is released: GAPS counts, and the fault token 0x14 goes to FTILE if it was not sent before (R64). -/
def State.gapRelease (s : State) (l : Nat) (k : Token) : State :=
  let s := s.inc F.LANECNT_GAPS 0 l
  if (s.lane l).skip = some true then s.laneFault l k.tag (some k) 0x14 else s

/-- A lane releases its HEAD (R61): HEAD advances and a held token's entry is free. -/
def State.releaseLane (s : State) (l : Nat) (k : Token) : State :=
  let marker := ((s.lane l).held? (s.lane l).head).isNone
  let s := if marker then s.gapRelease l k else s
  let s := s.toSink l k
  s.setLane l ((s.lane l).advanceHead s.now)

/-- The lanes that have something to release at an output, in ascending number. -/
def State.outletLanes (s : State) (o : Outlet) : List Nat :=
  (List.range 4096).filter fun l => (s.lane l).st ≠ .off && s.outletOf l = o && (s.laneFront l).isSome

/-- A class 0 verdict that waits because 16 are unacknowledged counts once (09 R231). -/
def State.countVwait (s : State) (o : Outlet) (l : Nat) : State :=
  match o, s.laneFront l with
  | .link c, some k =>
    if isVerdict k ∧ k.cls = 0 ∧ s.clUp c.val ∧ (s.link (.catch_ c)).stim.isNone ∧ !s.verdictRoom c.val ∧ !(s.lane l).vwait then
      (s.setLane l { s.lane l with vwait := true }).inc F.C0BOUND_VWAIT 0 (s.siteAct c.val (wbits k.val 6 6))
    else s
  | _, _ => s

/-- The lane an output serves: one with CLS0 first, then round-robin after the last (R61). -/
def State.pickLane (s : State) (o : Outlet) (lanes : List Nat) : Option Nat :=
  let ready := lanes.filter fun l => (match s.laneFront l with | some k => s.sinkAccepts l k | none => false)
  let last := (tget s.outlets ⟨0, 0⟩ o).last
  match ready.find? fun l => s.fget F.LANECFG_CLS0 0 l = 1 with
  | some l => some l
  | none => (ready.find? fun l => decide (last < l)).orElse fun _ => ready.head?

/-- One release of an output, at most one per cycle (R61). -/
def State.release (s : State) (o : Outlet) : State :=
  let st := tget s.outlets ⟨0, 0⟩ o
  if s.now < st.freeAt then s
  else
    let lanes := s.outletLanes o
    let s := lanes.foldl (fun s l => s.countVwait o l) s
    match s.pickLane o lanes with
    | none => s
    | some l =>
      match s.laneFront l with
      | some k =>
        { s.releaseLane l k with
          outlets := tput s.outlets o ⟨s.now + 1, if s.fget F.LANECFG_CLS0 0 l = 1 then st.last else l⟩ }
      | none => s

/-- RELEASE (03 R61). -/
def execRelease (dt : Nat) (o : Outlet) (s : State) : Host.Outcome State Fault Refusal := .next ((s.advance dt).release o)

/-- A token for HEAD is released in its cycle when its output would release it next, and keeps its entry otherwise (R61). -/
def State.releaseNow (s : State) (l : Nat) : State :=
  let o := s.outletOf l
  if s.now < (tget s.outlets ⟨0, 0⟩ o).freeAt then s
  else if s.pickLane o (s.outletLanes o) = some l then s.release o else s

/-- The window takes a token of its lane into an entry (R60, R63, R64). -/
def State.windowPut (s : State) (l seq d : Nat) (k : Token) : State :=
  let x := s.lane l
  let y : Lane := { x with win := x.win ++ [(seq, k)] }
  if d = 0 then (s.setLane l { y with held := false, gap := none, skip := none }).releaseNow l
  else s.setLane l (y.gapNow s.now false)

/-- The cases of an arrival (R60). -/
def State.windowTake (s : State) (l : Nat) (k : Token) : State :=
  let x := s.lane l
  let d := (k.seq + 2 ^ 24 - x.head) % 2 ^ 24
  let w := s.laneW l
  if x.st = .off then s.laneFault l k.tag (some k) 3
  else if d < w ∧ (x.held? k.seq).isSome then (s.inc F.LANECNT_DUPSEQ 0 l).laneFault l k.tag (some k) 2
  else if d < w then s.windowPut l k.seq d k
  else if 2 ^ 23 ≤ d then (s.inc F.LANECNT_LATE 0 l).laneFault l k.tag (some k) 0x14
  else (s.inc F.LANECNT_OOW 0 l).laneFault l k.tag (some k) 2

/-- The oldest token at a lane's window arrives. -/
def State.windowArrival (s : State) (l : Nat) : State :=
  match tget s.winq [] l with
  | [] => s
  | k :: r => { s with winq := tput s.winq l r }.windowTake l k

/-- WINDOW_ARRIVAL (03 R60). -/
def execWindowArrival (dt : Nat) (l : Sys2Proof.LaneId) (s : State) : Host.Outcome State Fault Refusal :=
  .next ((s.advance dt).windowArrival l.val)

/-- The gap timer has run GAPTO × 8 cycles (R63, R69). -/
def State.gapExpired (s : State) (l : Nat) : Bool :=
  match (s.lane l).gap with
  | some t => decide (t + 8 * s.fget F.LANEGAP_GAPTO 0 l ≤ s.now)
  | none => false

/-- The gap timer expires (R64). -/
def State.gapTimeout (s : State) (l : Nat) : State :=
  let x := s.lane l
  if !s.gapExpired l then s
  else if x.skip.isSome then s.setLane l { x with gap := none }
  else if s.fget F.LANEGAP_GAPMODE 0 l = 1 then (s.setLane l { x with gap := none, skip := some (!x.held) }).releaseNow l
  else
    let s := s.setLane l { x with gap := none, held := true }
    if x.held then s else s.laneFault l 5 (some (s.gapMarker l x.head)) 0x14

/-- GAP_TIMEOUT (03 R64). -/
def execGapTimeout (dt : Nat) (l : Sys2Proof.LaneId) (s : State) : Host.Outcome State Fault Refusal :=
  .next ((s.advance dt).gapTimeout l.val)

/-- SKIP is written (R64, R66): a held missing number is skipped. -/
def State.laneSkip (s : State) (l : Nat) : State :=
  let x := s.lane l
  if x.held ∧ x.st ≠ .off then (s.setLane l { x with held := false, gap := none, skip := some false }).releaseNow l else s

/-- The image that a read of LANESTAT returns (R71). -/
def State.laneStat (s : State) (l : Nat) : Word :=
  let x := s.lane l
  wd (x.head + x.snext % 2 ^ 24 * 2 ^ 24 + x.win.length * 2 ^ 48 +
    (match x.st with | .off => 0 | .active => 1 | .draining => 2) * 2 ^ 57 + b2n x.held * 2 ^ 59 + b2n x.gap.isSome * 2 ^ 60)

end Sys2Proof.Machine
end

