-- ==== Sys2Proof/Machine/Stroke.lean ====
section
/-! DEFINITION. The stroke generator: targets and the correction of phase, the alignment sources PTP, FABRIC and PIN, and their loss (04 R83 to R89; 11 R300 to R303). -/
namespace Sys2Proof.Machine

/-! ### Targets (R83, R84) -/

/-- The cycle whose leading edge is nearest a time in units of 5 ps; of two equally near, the earlier (R83). -/
def nearCycle (t : Nat) : Nat := (t + 62) / 125

/-- SRC: 0 FREE, 1 PTP, 2 FABRIC, 3 PIN. -/
def State.strkSrc (s : State) : Nat := s.fget F.STRKCFG_SRC 0 0

/-- HOLD. -/
def State.strkHold (s : State) : Bool := s.fget F.STRKSTAT_HOLD 0 0 = 1

/-- A PTP time as a time of the device's own cycles, in units of 5 ps. -/
def State.ptpLocal (s : State) (t : Int) : Nat := (2 * (t - s.stroke.ptp.off)).toNat

/-- Do the targets follow the PTP servo now? -/
def State.ptpDrives (s : State) : Bool := s.strkSrc = 1 && !s.strkHold && !s.stroke.first

/-- The target of the next boundary (R83). -/
def State.target (s : State) : Nat := if s.ptpDrives then s.ptpLocal s.stroke.ptp.next else s.stroke.tgt

/-- The cycle the next boundary has with no correction. -/
def State.nominal (s : State) : Nat := s.stroke.start + 8 * s.stroke.period

/-- The first cycle of the next stroke: the nearest to the target that a correction of at most one cycle reaches (R84). -/
def State.boundaryAt (s : State) : Nat :=
  let want := nearCycle s.target
  if s.stroke.jump then want
  else if s.nominal < want then s.nominal + 1
  else if want < s.nominal then s.nominal - 1
  else s.nominal

/-- SLEW (R89): a correction is still owed. -/
def State.strkSlew (s : State) : Bool := decide (nearCycle s.target ≠ s.nominal)

/-- LOCK (R86). -/
def State.strkLock (s : State) : Bool := s.strkSrc = 0 || (decide (16 ≤ s.stroke.good) && !s.strkHold)

/-- PHERR of a boundary in cycle `d` for its target: signed, in units of 10 ps, saturating (R89). -/
def phErr (d t : Nat) : Int := max (-32767) (min 32767 (((d * 125 : Nat) - (t : Nat) : Int) / 2))

/-- The next target when nothing aligns it: the reference carries on from the boundary in cycle `d`. -/
def Stroke.coast (k : Stroke) (d : Nat) : Stroke := { k with start := d, tgt := d * 125 + k.period * 1000 }

/-- A boundary takes place in cycle `d`; the stroke that begins has the period that is now in force. -/
def State.turnStroke (s : State) (d : Nat) : State :=
  let t := s.target
  let k := s.stroke
  let e : Int := (d * 125 : Nat) - (t : Nat)
  let s := s.fset F.STRKSTAT_PHERR 0 0 (trunc 16 (phErr d t))
  let free := s.strkSrc = 0 || s.strkHold || k.first
  let c := k.coast d
  let next := k.ptp.next + k.period * 500
  { s with stroke := { c with
    tgt := if free then c.tgt else t + k.period * 1000
    jump := false
    good := if k.first then 0 else if e ≤ 400 ∧ -400 ≤ e then min 16 (k.good + 1) else 0
    missed := if k.seen || s.strkSrc < 2 then k.missed else min 4 (k.missed + 1)
    seen := false
    ptp := { k.ptp with next := next } } }

/-- A source marks a target: it came in this stroke, and a source that was lost can return. -/
def Stroke.marked (k : Stroke) : Stroke := { k with seen := true, missed := 0, first := false }

/-! ### Loss and return (R85) -/

/-- The source is lost (R85). -/
def State.sourceLost (s : State) : State :=
  if s.strkSrc ≠ 0 ∧ !s.strkHold ∧ 4 ≤ s.stroke.missed then
    let s := { s with stroke := s.stroke.coast s.stroke.start }
    ((((s.fset F.STRKSTAT_HOLD 0 0 1).inc F.STRKSTAT_LOSTCNT 0 0).raiseDev 0).event 7 s.strkSrc)
  else s

/-- STROKE_SOURCE_LOST (04 R85). -/
def execStrokeSourceLost (dt : Nat) (s : State) : Host.Outcome State Fault Refusal := .next (s.advance dt).sourceLost

/-- The source has returned: HOLD clears and the generator slews (R85). -/
def State.sourceReturn (s : State) : State :=
  if s.strkHold ∧ (s.strkSrc = 0 ∨ s.stroke.missed = 0) then s.fset F.STRKSTAT_HOLD 0 0 0 else s

/-- STROKE_SOURCE_RETURN (04 R85). -/
def execStrokeSourceReturn (dt : Nat) (s : State) : Host.Outcome State Fault Refusal := .next (s.advance dt).sourceReturn

/-! ### PIN (R83 to R85) -/

/-- The distance of two times. -/
def gap (a b : Nat) : Nat := (a - b) + (b - a)

/-- A rising edge on STROKE_IN at a time in units of 10 ps, delayed by INDLY, marks the nearer of the target of the stroke in force and the next one. -/
def State.strokeIn (s : State) (t10 : Nat) : State :=
  if s.strkSrc ≠ 3 then s
  else
    let t := 2 * (t10 + s.fget F.STRKCFG_INDLY 0 0)
    let k := s.stroke
    if k.first ∧ s.dev = .standby then { s with stroke := { k.marked with tgt := t, jump := true } }
    else
      let late := decide (gap t (k.start * 125) < gap t k.tgt)
      let want := if late then k.start * 125 else k.tgt
      let k := if gap t want ≤ 1000 ∨ k.first then k.marked else k
      { s with stroke := { k with tgt := if late then t + k.period * 1000 else t } }

/-- STROKE_IN_EDGE (04 R83). -/
def execStrokeInEdge (dt t10 : Nat) (s : State) : Host.Outcome State Fault Refusal := .next ((s.advance dt).strokeIn t10)

/-! ### FABRIC (11 R300, R301) -/

/-- The hop count of the latest MARKER of a link that can be followed: UP, DVALID 1, with a MARKER in the last 4 strokes. -/
def State.markHops (s : State) (l : Nat) : Option Nat :=
  let k : LinkId := .fabric (Fin.ofNat 16 l)
  match (s.link k).mark with
  | some (mh, age) => if s.linkSt k = 3 ∧ s.fget F.FLDLY_DVALID 0 l = 1 ∧ age < 4 then some mh else none
  | none => none

/-- The link to follow: the one followed, while it can be, or the one with the lowest MH, ties to the lower number (R300). -/
def State.pickLink (s : State) : Option Nat :=
  let keep := match s.stroke.follow with
    | some l => if (s.markHops l).isSome then some l else none
    | none => none
  keep.orElse fun _ => minBy (fun l => (s.markHops l).getD 16) ((List.range 16).filter fun l => (s.markHops l).isSome)

/-- A MARKER on the followed link with the time its first bit arrived: its target replaces the one of R83 for the stroke it names when it is accepted (R301). In STANDBY the count follows it (R84). -/
def State.markTarget (s : State) (n t : Nat) : State :=
  let k := s.stroke
  if s.dev = .standby then
    if n = (s.count + 1) % 2 ^ 48 ∧ !k.first then { s with stroke := { k.marked with tgt := t } }
    else if n = s.count ∧ !k.first then { s with stroke := { k.marked with tgt := t + k.period * 1000 } }
    else
      let s := s.fset F.SLATE_COUNT 0 0 n
      { s with stroke := { k.marked with start := nearCycle t, tgt := t + k.period * 1000, jump := false } }
  else if n = (s.count + 1) % 2 ^ 48 ∧ gap t k.tgt ≤ 8000 then { s with stroke := { k.marked with tgt := t } }
  else s

/-- A MARKER block arrives at a time in units of 10 ps. -/
def State.rxMarker (s : State) (l : Fin 16) (b : List Byte) (t10 : Nat) : State :=
  s.takeBlock (.fabric l) 3 0x0C (List.range 10) b fun s =>
    let s := s.onLink (.fabric l) fun x => { x with mark := some (blkByte b 7 % 16, 0) }
    let f := s.pickLink
    let s := { s with stroke := { s.stroke with follow := f } }
    if s.strkSrc = 2 ∧ f = some l.val then s.markTarget (blkNum b 1 6) (2 * (t10 - s.fget F.FLDLY_DLY 0 l.val - blkNum b 8 2)) else s

/-- MARKER (11 R301). -/
def execMarker (dt : Nat) (l : Fin 16) (block : List Byte) (t10 : Nat) (s : State) : Host.Outcome State Fault Refusal :=
  .next ((s.advance dt).rxMarker l block t10)

/-- The markers that a device sends in cycle 0 of its stroke: the links, and MH (R300). -/
def State.markersOut (s : State) : List (Fin 16) × Nat :=
  if s.fget F.STRKCFG_MKR 0 0 = 1 then (List.finRange 16, 0)
  else if s.strkSrc = 2 then
    match s.stroke.follow with
    | some f =>
      let mh := (s.markHops f).getD 15 + 1
      if mh ≤ s.fget F.FABCFG_MKHMAX 0 0 then ((List.finRange 16).filter fun l => l.val ≠ f, mh) else ([], 0)
    | none => ([], 0)
  else ([], 0)

/-- MARKERs wait on their UP links at the boundary, and the strokes since the last MARKER of each link are counted (R300). -/
def State.sendMarkers (s : State) : State :=
  let s := (List.finRange 16).foldl (fun (s : State) (l : Fin 16) =>
    match (s.link (.fabric l)).mark with
    | some (mh, age) => s.onLink (.fabric l) fun x => { x with mark := some (mh, min 4 (age + 1)) }
    | none => s) s
  let s := { s with stroke := { s.stroke with follow := if s.strkSrc = 2 then s.pickLink else s.stroke.follow } }
  let m := s.markersOut
  (m.1.filter fun l => s.linkSt (.fabric l) = 3).foldl (fun s l =>
    s.postCtl (.fabric l) 1 (ctlBlock 0x0C (toBytes 6 s.count ++ toBytes 1 m.2 ++ toBytes 2 0)) (s.stroke.start * 125 / 2)) s

/-! ### PTP (11 R303) -/

/-- Does the clock take a message: it runs, with SRC PTP, on this port and in this domain? -/
def State.ptpTakes (s : State) (m : Sys2Proof.PtpMsg) : Bool :=
  s.fget F.PTPCFG_EN 0 0 = 1 && s.strkSrc = 1 && s.fget F.PTPCFG_PORT 0 0 = m.port.val && s.fget F.PTPCFG_DOMAIN 0 0 = m.domain

/-- The servo changed. -/
def State.onPtp (s : State) (g : Ptp → Ptp) : State := { s with stroke := { s.stroke with ptp := g s.stroke.ptp } }

/-- The servo loses lock (R303, 12 R306, 13 R347): R85 follows. -/
def State.ptpLose (s : State) : State :=
  let s := s.onPtp fun p => { p with good := 0 }
  if s.fget F.PTPSTAT_LOCKED 0 0 = 1 then
    let s := (s.fset F.PTPSTAT_LOCKED 0 0 0).fset F.PTPSTAT_LOSTF 0 0 1
    let s := { s with stroke := { s.stroke with missed := 4 } }
    (s.raiseDev 10).event 13 0
  else s

/-- LOCKED sets. The first lock in STANDBY sets the phase and the count to those of PTP time (R84). -/
def State.ptpLock (s : State) : State :=
  let s := s.fset F.PTPSTAT_LOCKED 0 0 1
  let k := s.stroke
  let per : Int := k.period * 500
  let epoch : Int := (s.reg .EPOCH 0 0).toNat * 100
  if !k.first then { s with stroke := { k with missed := 0 } }
  else if s.dev = .standby then
    let n := ((s.now * 125 / 2 : Nat) + k.ptp.off - epoch) / per
    let at_ := epoch + n * per
    let s := s.fset F.SLATE_COUNT 0 0 (trunc 48 n)
    { s with stroke := { k.marked with start := nearCycle (s.ptpLocal at_), ptp := { k.ptp with next := at_ + per } } }
  else { s with stroke := { k.marked with ptp := { k.ptp with next := epoch + (s.count + 1 : Nat) * per } } }

/-- The change of the servo's offset after a measured offset: toward 0, by a free amount of at most 100 ppm of the time since the last Sync (log 2); with no lock, an offset above 1 µs is removed in one step (log 64). -/
def State.servoStep (s : State) (ofs : Int) (cycles : Nat) : State :=
  if ofs.natAbs > 100000 ∧ s.fget F.PTPSTAT_LOCKED 0 0 = 0 then s.onPtp fun p => { p with off := p.off - ofs }
  else
    let (v, s) := s.free
    let d := v.toNat % (min ofs.natAbs (cycles * 125 / 20000) + 1)
    s.onPtp fun p => { p with off := if 0 < ofs then p.off - d else p.off + d }

/-- A Sync of the selected master (R303). -/
def State.ptpSync (s : State) (m : Sys2Proof.PtpMsg) : State :=
  if s.ptpTakes m ∧ s.stroke.ptp.master = some m.source then
    let p := s.stroke.ptp
    let diff : Int := (m.receipt : Int) - (m.origin + m.correction : Nat)
    let ofs := diff + p.off - p.delay
    let s := s.fset F.PTPSTAT_OFS 0 0 (trunc 32 (max (-2147483647) (min 2147483647 ofs)))
    let s := s.onPtp fun p => { p with diff := diff, syncAt := s.now, intv := m.interval, good := if ofs.natAbs ≤ 100 then min 16 (p.good + 1) else 0 }
    let s := if 100000 < ofs.natAbs then s.ptpLose else s
    let s := s.servoStep ofs (s.now - p.syncAt)
    if 16 ≤ s.stroke.ptp.good ∧ s.fget F.PTPSTAT_LOCKED 0 0 = 0 then s.ptpLock else s
  else s

/-- PTP_SYNC (11 R303). -/
def execPtpSync (dt : Nat) (m : Sys2Proof.PtpMsg) (s : State) : Host.Outcome State Fault Refusal := .next ((s.advance dt).ptpSync m)

/-- An Announce: the best master of those heard is selected; a change of the master loses the lock (R303). An Announce counts for 3 of its intervals (log 65). -/
def State.ptpAnnounce (s : State) (m : Sys2Proof.PtpMsg) : State :=
  if s.ptpTakes m then
    let l := (tput s.stroke.ptp.anns m.source (m.rank, s.now + 3 * m.interval)).filter fun (e : Nat × Nat × Nat) => decide (s.now ≤ e.2.2)
    let best := (minBy (fun (e : Nat × Nat × Nat) => e.2.1) l).map fun (e : Nat × Nat × Nat) => e.1
    let old := s.stroke.ptp.master
    let s := s.onPtp fun p => { p with anns := l, master := best, syncAt := if old = best then p.syncAt else s.now }
    if old.isSome ∧ old ≠ best then s.ptpLose else s
  else s

/-- PTP_ANNOUNCE (11 R303). -/
def execPtpAnnounce (dt : Nat) (m : Sys2Proof.PtpMsg) (s : State) : Host.Outcome State Fault Refusal := .next ((s.advance dt).ptpAnnounce m)

/-- No Sync for 4 intervals (R303). -/
def State.ptpTimeout (s : State) : State :=
  if s.strkSrc = 1 ∧ s.fget F.PTPCFG_EN 0 0 = 1 ∧ s.stroke.ptp.syncAt + 4 * s.stroke.ptp.intv ≤ s.now then s.ptpLose else s

/-- PTP_SYNC_TIMEOUT (11 R303). -/
def execPtpSyncTimeout (dt : Nat) (s : State) : Host.Outcome State Fault Refusal := .next (s.advance dt).ptpTimeout

/-- A delay response gives the mean path delay: of delay request-response from the master, or of peer delay, as DMECH selects (R303). -/
def State.ptpDelay (s : State) (m : Sys2Proof.PtpMsg) : State :=
  if !s.ptpTakes m then s
  else if s.fget F.PTPCFG_DMECH 0 0 = 1 then
    s.onPtp fun p => { p with delay := ((m.receipt : Int) - m.origin - m.correction) / 2 }
  else if s.stroke.ptp.master = some m.source then
    s.onPtp fun p => { p with delay := (p.diff + ((m.origin : Int) - m.correction - m.receipt)) / 2 }
  else s

/-- DELAY_RESPONSE (11 R303). -/
def execDelayResponse (dt : Nat) (m : Sys2Proof.PtpMsg) (s : State) : Host.Outcome State Fault Refusal := .next ((s.advance dt).ptpDelay m)

/-! ### Register writes -/

/-- STRKCFG after the checks of 00 R402 (R84, R88): SRC changes only in STANDBY and sets the phase at once. -/
def State.strkcfgWrite (s : State) (v : Word) : WRes :=
  if wbits v 2 1 = 1 ∧ wbits v 0 2 = 2 then .refuse 2 none
  else
    let old := s.strkSrc
    let s := s.setReg .STRKCFG 0 0 v
    if old = wbits v 0 2 then .ok s
    else
      let k := s.stroke
      let s := ((s.fset F.STRKSTAT_HOLD 0 0 0).fset F.PTPSTAT_LOCKED 0 0 0).onPtp fun p => { p with good := 0 }
      .ok { s with stroke := { k.coast k.start with first := decide (wbits v 0 2 ≠ 0), jump := false, good := 0, missed := 0, seen := false, ptp := s.stroke.ptp } }

/-- EPOCH after the checks of 00 R402: the targets in PTP time move with it (R83, R89). -/
def State.epochWrite (s : State) (v : Word) : WRes :=
  let d : Int := ((v.toNat : Int) - (s.reg .EPOCH 0 0).toNat) * 100
  .ok ((s.setReg .EPOCH 0 0 v).onPtp fun p => { p with next := p.next + d })

/-- PTPCFG after the checks of 00 R402: a clock that is stopped or moved hears its masters anew. -/
def State.ptpcfgWrite (s : State) (v : Word) : WRes :=
  let s := s.setReg .PTPCFG 0 0 v
  .ok ((s.onPtp fun p => { p with anns := [], master := none }).ptpLose)

end Sys2Proof.Machine
end

