-- ==== Sys2Proof/Machine/Subst.lean ====
section
/-! DEFINITION. The tile map and the substitution of tiles: LTMAP and PTSTAT (01 R15 to R19), pending substitutions and their pre-copy (14 R377, R380). -/
namespace Sys2Proof.Machine

/-- Is the local port of a logical tile isolated (11 R279)? -/
def State.tileIsolated (s : State) (t : Nat) : Bool := s.fget F.RTCTL_ISOL 0 (s.routerOf t) = 1

/-- Tiles now SPARE (14 R376). -/
def State.spares (s : State) : List Nat := (List.range 68).filter fun p => s.fget F.PTSTAT_STATE 0 p = 1

/-- PEND of a logical tile (01 R16). -/
def State.ltPend (s : State) (t : Nat) : Bool := decide (s.fget F.LTMAP_NEXT 0 t ≠ s.fget F.LTMAP_PHYS 0 t)

/-- The logical tiles with a pending substitution. -/
def State.pendTiles (s : State) : List Nat := (List.range 64).filter s.ltPend

/-- PRESYNC (14 R376): every pending substitution has ended its pre-copy. -/
def State.presynced (s : State) : Bool :=
  !s.pendTiles.isEmpty && s.pendTiles.all fun t => match tfind? s.riari.subs t with
    | some m => m.presync
    | none => false

/-- NEXT is set. -/
def State.setNext (s : State) (t n : Nat) : State :=
  let s := s.fset F.LTMAP_NEXT 0 t n
  s.fset F.LTMAP_PEND 0 t (b2n (s.ltPend t))

/-- A pending substitution is withdrawn: its spare is SPARE again (01 R17, 14 R377). -/
def State.dropSubst (s : State) (t : Nat) : State :=
  let n := s.fget F.LTMAP_NEXT 0 t
  if s.ltPend t then
    let s := (s.fset F.PTSTAT_STATE 0 n 1).setNext t (s.physOf t)
    { s with riari := { s.riari with subs := tdel s.riari.subs t } }
  else s

/-- May NEXT of a logical tile take this physical tile (01 R17)? -/
def State.nextOk (s : State) (t n : Nat) : Bool := n = s.physOf t || s.fget F.PTSTAT_STATE 0 n = 1

/-- NEXT names a spare: the substitution is pending and its pre-copy runs (01 R17, R18, 14 R377); of an isolated tile it is a recovery (R380). -/
def State.startSubst (s : State) (t n : Nat) : State :=
  let s := ((s.dropSubst t).fset F.PTSTAT_STATE 0 n 2).setNext t n
  { s with riari := { s.riari with subs := tput s.riari.subs t ⟨n, s.physOf t, s.tileIsolated t, false, false, false, false, 0⟩ } }

/-- A write of LTMAP by the control complex (01 R17). -/
def State.ltmapWrite (s : State) (t : Nat) (v : Word) : WRes :=
  let n := wbits v 8 7
  if !s.nextOk t n then .refuse 4 none
  else .ok (if n = s.physOf t then s.dropSubst t else s.startSubst t n)

/-- A write of PTSTAT by the control complex (01 R18). -/
def State.ptstatWrite (s : State) (p : Nat) (v : Word) : WRes :=
  let s := if wbits v 10 1 = 1 then s.fset F.PTSTAT_RET_REFUSED 0 p 0 else s
  if wbits v 9 1 = 0 then .ok s
  else if s.fget F.PTSTAT_STATE 0 p = 1 then .ok (s.fset F.PTSTAT_STATE 0 p 3)
  else .ok (s.fset F.PTSTAT_RET_REFUSED 0 p 1)

end Sys2Proof.Machine
end

