-- ==== Sys2Proof/Machine/Halt.lean ====
section
/-! DEFINITION. The halt of a thread: DBGT, the entry into HALTED, RUN and STEP, and the channel reservation of a halted thread (13 R356 to R358). -/
namespace Sys2Proof.Machine

/-- RELEASE (R358): a halted thread's reservation is freed as abandoned, and its next instruction raises fault 0x0F. -/
def State.haltRelease (s : State) (c n : Nat) : State :=
  if (s.chansOf c n).isEmpty then s else (s.releaseChans c n).onThr c n fun x => { x with chanLost := true }

/-- A thread becomes HALTED with a reason; a wait is kept, and a wake that was on its way is recorded (R357). -/
def State.halt (s : State) (c n reason : Nat) : State :=
  let x := s.thr c n
  let s := s.setThr c n { x with st := .halted, wasWait := decide (x.st = .wait), haltReq := 0, stepLeft := 0 }
  let s := (s.dropTasks c (isWakeOf n)).fset F.DBGT_HREASON c n reason
  if s.fget F.DBGT_CHPOL c n = 1 then s.haltRelease c n else s

/-- HALT is written (R357): a WAIT thread halts at once, a READY thread at its next opportunity. -/
def State.haltAsk (s : State) (c n : Nat) : State :=
  match (s.thr c n).st with
  | .wait => s.halt c n 1
  | .ready => s.onThr c n fun x => { x with haltReq := 1 }
  | _ => s

/-- Why a thread at an issue opportunity halts: a HALT 1, the end of a STEP 2, its breakpoint 3; 0: it does not. -/
def State.haltReason (s : State) (c n : Nat) : Nat :=
  let x := s.thr c n
  if x.haltReq ≠ 0 then x.haltReq
  else if s.fget F.DBGT_BEN c n = 1 ∧ s.fget F.DBGT_BPC c n = x.pc ∧ x.stepLeft = 0 then 3 else 0

/-- A thread that is to halt does so: at its opportunity, or when it has entered a wait (R357). -/
def State.haltEntry (s : State) (c n : Nat) : State :=
  let r := s.haltReason c n
  if r ≠ 0 ∧ s.atOpportunity c n then s.halt c n r
  else if (s.thr c n).haltReq ≠ 0 ∧ (s.thr c n).st = .wait then s.halt c n (s.thr c n).haltReq
  else s

/-- HALT_ENTRY (R357). -/
def execHaltEntry (dt : Nat) (c : Sys2Proof.CoreId) (n : Sys2Proof.ThreadId) (s : State) : Host.Outcome State Fault Refusal :=
  .next ((s.advance dt).haltEntry c.val n.val)

/-- The halt ends: the thread is READY, or in WAIT while its wait is unmet, or takes the wake that was recorded (R357). `step`: it halts again after one instruction. -/
def State.haltEnd (s : State) (c n : Nat) (step : Bool) : State :=
  let x := s.thr c n
  if x.st ≠ .halted then s
  else
    let y := { x with st := if x.wasWait then .wait else .ready, wasWait := false, haltReq := 0, stepLeft := b2n step, readyAt := max x.readyAt (s.now + 1) }
    let s := s.setThr c n y
    if x.wasWait ∧ x.wres.isSome then s.enterReady c (.wake n) y.cls y.pri y.act none else s

/-- A write of DBGT[n] after the checks of 00 R402 (R356 to R358). -/
def State.dbgtWrite (s : State) (c n : Nat) (v : Word) : WRes :=
  if 1 < b2n (v.getLsbD 0) + b2n (v.getLsbD 1) + b2n (v.getLsbD 2) then .refuse 2 none
  else
    let s := s.setReg .DBGT c n (wset v 0 3 0)
    let s := if v.getLsbD 3 ∧ (s.thr c n).st = .halted then s.haltRelease c n else s
    .ok (if v.getLsbD 0 then s.haltAsk c n else if v.getLsbD 1 then s.haltEnd c n false else if v.getLsbD 2 then s.haltEnd c n true else s)

end Sys2Proof.Machine
end

