-- ==== Sys2Proof/Machine/RegView.lean ====
section
/-! DEFINITION. What a read of a register window returns: the registers that show other state, the diagnostic view, the Cox banks, and the decode tables (02 R45, R47; 04 R94; 05 R122; 06 R169; 00 R3, R7). -/
namespace Sys2Proof.Machine

/-! ### Registers that show other state -/

/-- The code of a thread's state (05 R122). -/
def TState.code : TState → Nat
  | .free => 0 | .ready => 1 | .wait => 2 | .faulted => 3 | .halted => 4

/-- WREASON (05 R122; 12 R324 for a lock). -/
def WaitFor.code : WaitFor → Nat
  | .none => 0 | .wfe => 1 | .lock _ => 1 | .qEmpty _ => 2 | .qFull _ _ => 3 | .chan _ _ => 4 | .trip _ _ => 4 | .credit _ => 5
  | .pool => 6 | .join => 7 | .timer _ => 8 | .ring _ _ => 9

/-- TSTAT (05 R122). -/
def State.tstat (s : State) (c n : Nat) : Word :=
  let x := s.thr c n
  wd (x.st.code + (if x.st = .wait ∨ x.wasWait then x.wait.code else 0) * 8 + x.pri % 8 * 2 ^ 7 + x.epri % 8 * 2 ^ 10 + x.act % 64 * 2 ^ 13 +
    x.cls % 4 * 2 ^ 19 + b2n x.inh * 2 ^ 21 + b2n x.pvalid * 2 ^ 22 + x.parent % 16 * 2 ^ 23 + x.jcnt % 16 * 2 ^ 27 + x.ctx % 65536 * 2 ^ 32)

/-- MSOCC (02 R45). -/
def State.msocc (s : State) (t : Nat) : Word :=
  let x := s.tile t
  wd (x.ents.length + x.stk.length * 2 ^ 16 + x.c0.length * 2 ^ 25 + x.spilledAll * 2 ^ 32)

/-- SCHSTAT (05 R132), with the stored FQOVF. -/
def State.schstat (s : State) (t : Nat) : Word :=
  let x := s.tile t
  let free := ((List.range 16).filter fun n => (s.thr t n).st = .free).length
  wd (x.ready.length + x.c0q.length * 2 ^ 10 + x.delay.length * 2 ^ 14 + free * 2 ^ 25 + s.fget F.SCHSTAT_FQOVF t 0 * 2 ^ 30)

/-- The bits of a test on the numbers below 32. -/
def bits32 (p : Nat → Bool) : Nat := (List.range 32).foldl (fun m b => m + b2n (p b) * 2 ^ b) 0

/-- BANKSTAT (10 R254), with the stored RFAIL. -/
def State.bankstat (s : State) (t : Nat) : Word :=
  wd (bits32 (fun b => (s.tile t).bankTrans.any fun k => k.bank = b) + s.fget F.BANKSTAT_RFAIL t 0 * 2 ^ 32)

/-- Does the tile hold work of the activity now (04 R98, R101)? A task or a READY thread of it that the Cox does not let start (log 67). -/
def State.holdsWork (s : State) (t a : Nat) : Bool :=
  let r := s.remain t a
  let stuck := !s.actOpen t a || (s.tile t).heldFlags.contains a || r.fire = 0 || r.slot = 0
  stuck &&
  (((s.tile t).ready ++ (s.tile t).c0q).any (fun k => k.act = a) ||
   (List.range 16).any fun n => (s.thr t n).st = .ready && (s.thr t n).act = a)

/-- A register as a read returns it, but for WO fields. -/
def State.regImage (s : State) (k : RegKind) (t i : Nat) : Word :=
  match k with
  | .MSOCC => s.msocc t
  | .LTSTAT => wd (s.tile t).thr.length
  | .TSTAT => s.tstat t i
  | .TPC => wd ((s.thr t i).pc % 16384)
  | .SCHSTAT => s.schstat t
  | .BEATNOW => wd s.beat
  | .BANKSTAT => s.bankstat t
  | .ACTOVR => wset (s.reg .ACTOVR t i) 40 1 (b2n (s.holdsWork t i))
  | .ISRC => wset (s.reg .ISRC t i) 12 1 (b2n (s.watched true t i))
  | .DSRC => wset (s.reg .DSRC 0 i) 19 1 (b2n (s.watched false 0 i))
  | .LKSTAT => s.lkstat t i
  | .LANESTAT => s.laneStat i
  | .STRKSTAT => wset (wset (s.reg .STRKSTAT 0 0) 0 1 (b2n s.strkLock)) 2 1 (b2n s.strkSlew)
  | .RTBANK => wset (s.reg .RTBANK 0 i) 20 24 (if s.fget F.RTBANK_STATE 0 i = 3 then min (2 ^ 24 - 1) s.drainCount else 0)
  | .UNRMAP => s.unrWord i
  | .HPSTAT => s.hpstat
  | .UPDSTAT => wset (wset (s.reg .UPDSTAT 0 0) 18 1 (b2n s.presynced)) 19 3 s.spares.length
  | k => s.reg k t i

/-- WO fields read 0 (00 R3). -/
def maskWo (fs : List Fld) (v : Word) : Word := fs.foldl (fun v f => if f.acc = .wo then wset v f.lo f.len 0 else v) v

/-- A read of a register: its image; a read of a lock cell by a master is an operation on the cell (12 R324). -/
def State.regRead (s : State) (who : Sys2Proof.Req) (k : RegKind) (t i : Nat) : Word × State :=
  match k with
  | .LKCELL => s.lkcellRead who t i
  | k => (maskWo (regSpec k).fields (s.regImage k t i), s)

/-! ### Windows that are no registers -/

/-- A record of the diagnostic view (02 Diagnostic view): words 0 to 3 the token, word 4 VALID, PORT and AGE. -/
def diagWord (l : List Entry) (way word : Nat) : Word :=
  match l.find? fun e => e.way = way with
  | none => 0
  | some e =>
    let age := (l.filter fun d => d.stamp < e.stamp).length
    match word with
    | 0 => e.tok.tag | 1 => e.tok.dst | 2 => e.tok.val | 3 => e.tok.aux
    | 4 => wd (1 + e.port % 4 * 2 + age % 8 * 8)
    | _ => 0

/-- The diagnostic view of a tile (02 R47): the sets, the sticky table, the class 0 table. -/
def State.diagRead (s : State) (t off : Nat) : Word :=
  let x := s.tile t
  let w := off % 64 / 8
  if off < 0x40000 then diagWord (x.ents.filter fun e => e.set = off / 512) (off / 64 % 8) w
  else if off < 0x44000 then diagWord (x.stk.filter fun e => e.way = (off - 0x40000) / 64) ((off - 0x40000) / 64) w
  else diagWord x.c0 ((off - 0x44000) / 64) w

/-- A word of an activity-table entry or shot. -/
def Activity.word (a : Activity) (k : Nat) : Word := if k = 0 then a.w0 else a.w1

/-- A word of a Cox bank in its window (04 R94). -/
def CoxBank.word (b : CoxBank) (off : Nat) : Word :=
  if off < 0x400 then (b.act (off / 16)).word (off / 8 % 2)
  else if off < 0x440 then tget b.hdr 0 ((off - 0x400) / 8)
  else if off = 0x440 then b.dir
  else if 0x800 ≤ off ∧ off < 0x1800 then (b.shots.getD ((off - 0x800) / 16) ⟨0, 0⟩).word (off / 8 % 2)
  else 0

/-- A word of a copy of the decode table in its window: entry e at 0x100 × e (06 R169). -/
def dtWord (img : List Byte) (off : Nat) : Word :=
  if off % 256 < 136 then wd (imgWord img (136 * (off / 256) + off % 256) 8) else 0

/-- The shadow copy of the decode table (06 R169). -/
def State.dtShadow (s : State) : List Byte := if s.fget F.DTSTAT_BANK 0 0 = 0 then s.dtabB else s.dtabA

/-- A word of a tile's register window. -/
def State.tregRead (s : State) (who : Sys2Proof.Req) (t off : Nat) : Word × State :=
  if 0x10000 ≤ off ∧ off < 0x12000 then ((s.tile t).bankA.word (off - 0x10000), s)
  else if 0x12000 ≤ off ∧ off < 0x14000 then ((s.tile t).bankB.word (off - 0x12000), s)
  else match findKind tileKinds off with
    | some (k, i) => s.regRead who k t i
    | none => (0, s)

/-- A word of the device register window. -/
def State.dregRead (s : State) (who : Sys2Proof.Req) (off : Nat) : Word × State :=
  if 0x60000 ≤ off ∧ off < 0x61000 then (dtWord s.dtActive (off - 0x60000), s)
  else if 0x61000 ≤ off ∧ off < 0x62000 then (dtWord s.dtShadow (off - 0x61000), s)
  else match findKind devKinds off with
    | some (k, i) => s.regRead who k 0 i
    | none => (0, s)

/-- Reads an aligned 64-bit word of a window that is no memory, after the checks of the address map. The boot ROM, the NOR and the Riari mailbox hold free values (logs 2, 68). -/
def State.ioRead (s : State) (who : Sys2Proof.Req) (own : Option Nat) (a : Nat) : Except Nat (Word × State) :=
  match s.region own a with
  | .graph t i => .ok (s.gword t i, s)
  | .diag t o => .ok (s.diagRead t o, s)
  | .treg t o => .ok (s.tregRead who t o)
  | .dreg o => .ok (s.dregRead who o)
  | .rom _ => .ok s.free
  | .nor _ => .ok s.free
  | .riari _ => .ok s.free
  | _ => .error 3

/-- Reads `size` bytes, at most 8, at any address of such a window: register windows are read in whole words only (00 R9, which the checks before ensure), the views of graph memory and of the store in any size. -/
def State.ioLoad (s : State) (who : Sys2Proof.Req) (own : Option Nat) (a size : Nat) : Except Nat (Nat × State) :=
  match s.ioRead who own (a - a % 8) with
  | .error k => .error k
  | .ok (lo, s) =>
    if a % 8 + size ≤ 8 then .ok (lo.toNat / 256 ^ (a % 8) % 256 ^ size, s)
    else match s.ioRead who own (a - a % 8 + 8) with
      | .error k => .error k
      | .ok (hi, s) => .ok ((lo.toNat + hi.toNat * 2 ^ 64) / 256 ^ (a % 8) % 256 ^ size, s)

end Sys2Proof.Machine
end

