-- ==== Sys2Proof/Machine/Regs.lean ====
section
/-! DEFINITION. Register writes: rights, reserved fields and values, RWS fields, in the order of 00 R402, and then each register's own rule (00 R3 to R9, R401, R402). -/
namespace Sys2Proof.Machine

/-! ### Rights (00 R402, 10 R245 and the rules of the registers) -/

/-- Who may write a register: anyone, the control complex (and Aklofy through it), that and the debug port, or no one. -/
inductive Rights where
  | any | control | controlDebug | none
  deriving DecidableEq, Repr

/-- The write rule of a register (01 R17; 04 R103; 05 R122; 08 R208; 09 R240; 10 R256, R259; 11 R285, R304, R305; 12 R319, R320, R328; 13 R356; 14 R376; 15 R390). -/
def regRights : RegKind → Rights
  | .LTMAP | .CUTTAKE | .CUTSTRK | .DLKCFG | .DLKLOG | .DLKCNT | .DRCFG | .DRSTAT | .MOCMD | .CHSTAT => .control
  | .FLCFG | .FLSTAT | .FLCNT0 | .FLDLY | .FLCNT1 | .FABCFG | .FABSTAT | .RTBANK | .PTPCFG | .PTPSTAT | .RTENT => .control
  | .TPWR | .KWATCH | .LKGCFG | .SUBCFG | .TEMPSTAT => .control
  | .TCTL | .THND | .RTCTL | .RTCNT0 | .RTCNT1 | .RTCNT2 | .DBGT => .controlDebug
  | .FACAM | .BANKFUSE | .UNRMAP => .none
  | _ => .any

/-- Has the requester the right to write this image to the register? RETIRE of PTSTAT is the control complex's (01 R18). -/
def mayWrite (who : Sys2Proof.Req) (k : RegKind) (v : Word) : Bool :=
  match regRights k with
  | .any => k ≠ .PTSTAT || isControl who || wbits v 9 1 = 0
  | .control => isControl who
  | .controlDebug => isControl who || who = .debug
  | .none => false

/-! ### Reserved fields and values, RWS (00 R3, R7) -/

/-- The bits of a register's fields. -/
def fieldMask (fs : List Fld) : Nat := fs.foldl (fun m f => setBits m f.lo f.len (2 ^ f.len - 1)) 0

/-- Does a write place a non-zero value in a reserved field? -/
def reservedSet (fs : List Fld) (v : Word) : Bool := v &&& ~~~(wd (fieldMask fs)) ≠ 0

/-- Does a write change a field to a value that is not listed? A WO field has no value to keep. -/
def valueBad (old v : Word) (f : Fld) : Bool :=
  let n := wbits v f.lo f.len
  match f.acc with
  | .rw | .rws => n ≠ wbits old f.lo f.len && !f.legal.ok n
  | .wo => !f.legal.ok n
  | _ => false

/-- May this writer change RWS fields now (00 R3)? -/
def State.rwsOpen (s : State) (who : Sys2Proof.Req) : Bool := s.dev = .standby || (s.dev = .boot && isControl who)

/-- Does a write change an RWS field? -/
def rwsChange (old v : Word) (f : Fld) : Bool := f.acc = .rws && wbits v f.lo f.len ≠ wbits old f.lo f.len

/-- A field after a write by its access type (00 R3). -/
def fieldAfter (old v : Word) (w : Word) (f : Fld) : Word :=
  let o := wbits old f.lo f.len
  let n := wbits v f.lo f.len
  match f.acc with
  | .ro | .const => wset w f.lo f.len o
  | .w1c => wset w f.lo f.len (o &&& (n ^^^ (2 ^ f.len - 1)))
  | _ => wset w f.lo f.len n

/-- The register after a write by the access types of its fields; WO bits are as written. -/
def merged (fs : List Fld) (old v : Word) : Word := fs.foldl (fieldAfter old v) 0

/-! ### The registers with a rule of their own -/

/-- CUTTAKE (04 R103): refused while ARM is 1 or the cut is committed; ARM = 1 needs the next take and a stroke to come. -/
def State.cuttakeWrite (s : State) (m : Word) : WRes :=
  if s.fget F.CUTTAKE_ARM 0 0 = 1 ∨ s.cut.committed then .refuse 3 (some 0x0402)
  else if wbits m 16 1 = 1 then
    if wbits m 0 16 ≠ (s.fget F.SLATE_TAKE 0 0 + 1) % 65536 ∨ s.fget F.CUTSTRK_STROKE 0 0 ≤ s.count then .refuse 4 none
    else .ok { (s.setReg .CUTTAKE 0 0 m).fset F.CUTTAKE_READY 0 0 0 with cut := { s.cut with checking := true } }
  else .ok (s.setReg .CUTTAKE 0 0 m)

/-- CUTSTRK (04 R103). -/
def State.cutstrkWrite (s : State) (m : Word) : WRes :=
  if s.fget F.CUTTAKE_ARM 0 0 = 1 ∨ s.cut.committed then .refuse 3 (some 0x0402) else .ok (s.setReg .CUTSTRK 0 0 m)

/-- DRCFG (10 R243, R259): DSIZE follows RESV. -/
def State.drcfgWrite (s : State) (m : Word) : WRes :=
  .ok ((s.setReg .DRCFG 0 0 m).fset F.DRSTAT_DSIZE 0 0 (if wbits m 0 1 = 1 then 55552 else 57344))

/-- CTBASE (02 R48): it has been written since reset. -/
def State.ctbaseWrite (s : State) (m : Word) : WRes := .ok { s.setReg .CTBASE 0 0 m with ctbaseSet := true }

/-- Does the device write HEAD of the ring, so that it is RO (13 R350)? The command ring and H2D rings. -/
def State.ringH2D (s : State) (r : Nat) : Bool := r = 0 || (decide (2 ≤ r) && s.fget F.RCFG_DIR 0 r = 1)

/-- RCFG (13 R350): LOG2N 1 to 8 on the command ring, 4 to 16 on others; DIR is RO on rings 0 and 1; LOG2N and DIR change only while EN is 0. -/
def State.rcfgWrite (s : State) (r : Nat) (m : Word) : WRes :=
  let old := s.reg .RCFG 0 r
  let m := if r < 2 then wset m 6 1 (wbits old 6 1) else m
  let n := wbits m 1 5
  let ok := if r = 0 then decide (1 ≤ n) && decide (n ≤ 8) else decide (4 ≤ n) && decide (n ≤ 16)
  if n ≠ wbits old 1 5 ∧ !ok then .refuse 2 none
  else if wbits old 0 1 = 1 ∧ wbits m 1 6 ≠ wbits old 1 6 then .refuse 3 none
  else .ok (s.setReg .RCFG 0 r m)

/-- RBASE (13 R350). -/
def State.rbaseWrite (s : State) (r : Nat) (m : Word) : WRes :=
  if s.fget F.RCFG_EN 0 r = 1 ∧ m ≠ s.reg .RBASE 0 r then .refuse 3 none else .ok (s.setReg .RBASE 0 r m)

/-- RHEAD (13 R350): not past TAIL; room on the event ring lets the EVLOST record be written. -/
def State.rheadWrite (s : State) (r : Nat) (m : Word) : WRes :=
  if s.ringH2D r then .ok s
  else if s.ringUsed r < (wbits m 0 32 + 2 ^ 32 - s.fget F.RHEAD_HEAD 0 r) % 2 ^ 32 then .refuse 4 none
  else
    let s := s.setReg .RHEAD 0 r m
    .ok (if r = 1 then s.hostLost else s)

/-- RTAIL (13 R350): not more than the ring's size past HEAD. -/
def State.rtailWrite (s : State) (r : Nat) (m : Word) : WRes :=
  if !s.ringH2D r then .ok s
  else if s.ringSize r < (wbits m 0 32 + 2 ^ 32 - s.fget F.RHEAD_HEAD 0 r) % 2 ^ 32 then .refuse 4 none
  else .ok (s.setReg .RTAIL 0 r m)

/-- FLBASE (09 R237): it does not change while EN is 1. -/
def State.flbaseWrite (s : State) (t : Nat) (m : Word) : WRes :=
  if s.fget F.FLOGCFG_EN t 0 = 1 ∧ m ≠ s.reg .FLBASE t 0 then .refuse 3 none else .ok (s.setReg .FLBASE t 0 m)

/-- FLOGCFG (09 R237): the ring of an enabled log lies in the tile's scratchpad or in the data space; WRAP and LOG2N do not change while EN is 1. -/
def State.flogcfgWrite (s : State) (t : Nat) (m : Word) : WRes :=
  let old := s.reg .FLOGCFG t 0
  if wbits m 0 1 = 1 ∧ !s.ringFits t (s.fget F.FLBASE_BASE t 0 * 32) (wbits m 2 5) then .refuse 2 none
  else if wbits old 0 1 = 1 ∧ wbits m 1 6 ≠ wbits old 1 6 then .refuse 3 none
  else .ok (s.setReg .FLOGCFG t 0 m)

/-- FLPTR (09 R237): a HEAD beyond TAIL, or more than the ring behind it, is a reserved value. -/
def State.flptrWrite (s : State) (t : Nat) (m : Word) : WRes :=
  if m ≠ s.reg .FLPTR t 0 ∧ 2 ^ s.fget F.FLOGCFG_LOG2N t 0 < (wbits m 32 32 + 2 ^ 32 - wbits m 0 32) % 2 ^ 32 then .refuse 2 none
  else .ok (s.setReg .FLPTR t 0 m)

/-- LANESTAT: SKIP acts once (03 R71). -/
def State.lanestatWrite (s : State) (l : Nat) (m : Word) : WRes := .ok (if wbits m 61 1 = 1 then s.laneSkip l else s)

/-- IEN and DEN: reserved sources are written 0 (12 R306, R316). -/
def State.enWrite (s : State) (k : RegKind) (ok : Nat → Bool) (t i : Nat) (m : Word) : WRes :=
  if reservedSrc ok i m then .refuse 2 none else .ok (s.setReg k t i m)

/-- A write of a register that has passed the common checks: `v` as written, `m` by the access types of its fields. -/
def State.ownRule (s : State) (who : Sys2Proof.Req) (k : RegKind) (t i : Nat) (v m : Word) : WRes :=
  match k with
  | .LTMAP => s.ltmapWrite i m
  | .PTSTAT => s.ptstatWrite i v
  | .CTBASE => s.ctbaseWrite m
  | .QBASE => s.qbaseWrite t i m
  | .QCFG => s.qcfgWrite t i m
  | .QDB => s.qdbWrite t i (wbits v 0 16) (wbits v 16 16)
  | .TCTL => s.tctlWrite t i v
  | .DBGT => s.dbgtWrite t i m
  | .BANKPWR => s.bankpwrWrite t m
  | .RUSHCFG => s.rushcfgWrite t m
  | .RDCFG => s.rdcfgWrite m
  | .IPEND => .ok (s.pendClear .IPEND .IDLVD t i v)
  | .DPEND => .ok (s.pendClear .DPEND .DDLVD 0 i v)
  | .IEN => s.enWrite .IEN tileSrcOk t i m
  | .DEN => s.enWrite .DEN devSrcOk 0 i m
  | .ISWSET => .ok (s.iswset t v)
  | .DSWSET => .ok (s.dswset i v)
  | .DSRC => s.dsrcWrite i m
  | .LKCELL => s.lkcellWrite who t i v
  | .LKGCFG => s.lkgcfgWrite t m
  | .LANECFG => s.laneCfgWrite i m
  | .LANESTAT => s.lanestatWrite i v
  | .STRKCFG => s.strkcfgWrite m
  | .EPOCH => s.epochWrite m
  | .CUTTAKE => s.cuttakeWrite m
  | .CUTSTRK => s.cutstrkWrite m
  | .CLCFG => s.lkcfgWrite (.catch_ (Fin.ofNat 32 i)) m
  | .FLCFG => s.lkcfgWrite (.fabric (Fin.ofNat 16 i)) m
  | .SITEW0 | .SITEW1 | .SITEW2 | .SITEW3 => s.siteWrite k i m
  | .RBCFG => s.rbcfgWrite i m
  | .FLBASE => s.flbaseWrite t m
  | .FLOGCFG => s.flogcfgWrite t m
  | .FLPTR => s.flptrWrite t m
  | .RTCTL => s.rtctlWrite i m
  | .DRCFG => s.drcfgWrite m
  | .MOCMD => s.mocmdWrite v
  | .FABCFG => s.fabcfgWrite m
  | .RTBANK => s.rtbankWrite i m
  | .PTPCFG => s.ptpcfgWrite m
  | .RTENT => s.rtentWrite i m
  | .KWATCH => s.kwatchWrite i m
  | .TPWR => s.tpwrWrite i v
  | .RBASE => s.rbaseWrite i m
  | .RCFG => s.rcfgWrite i m
  | .RHEAD => s.rheadWrite i m
  | .RTAIL => s.rtailWrite i m
  | k => .ok (s.setReg k t i (maskWo (regSpec k).fields m))

/-- Is this a register of the host port (13 R350)? -/
def hostKind (k : RegKind) : Bool :=
  k = .HPSTAT || k = .HPCTL || k = .APBASE || k = .RBASE || k = .RCFG || k = .RHEAD || k = .RTAIL

/-- A write of a register, checked in the order of 00 R402 against the state before it (R401). In RESET, and of a host port register while H_PERST# is asserted (15 R395), registers hold their values. -/
def State.regWrite (s : State) (who : Sys2Proof.Req) (k : RegKind) (t i : Nat) (v : Word) : WRes :=
  let fs := (regSpec k).fields
  let old := s.reg k t i
  if s.dev = .reset || (hostKind k && s.hostp.perst) then .ok s
  else if !mayWrite who k v then .refuse 1 none
  else if reservedSet fs v || fs.any (valueBad old v) then .refuse 2 none
  else if !s.rwsOpen who && fs.any (rwsChange old v) then .refuse 3 none
  else s.ownRule who k t i v (merged fs old v)

/-! ### Writes by address -/

/-- A place of a register window where no register lies is reserved: writes of 0 do nothing (log 69). -/
def noRegister (s : State) (v : Word) : WRes := if v = 0 then .ok s else .refuse 2 none

/-- A write to a tile's register window; the Cox banks take none (04 R95). -/
def State.tregWrite (s : State) (who : Sys2Proof.Req) (t off : Nat) (v : Word) : WRes :=
  if 0x10000 ≤ off ∧ off < 0x14000 then .refuse 1 none
  else match findKind tileKinds off with
    | some (k, i) => s.regWrite who k t i v
    | none => noRegister s v

/-- A write to the device register window; the copies of the decode table take none (06 R169). -/
def State.dregWrite (s : State) (who : Sys2Proof.Req) (off : Nat) (v : Word) : WRes :=
  if 0x60000 ≤ off ∧ off < 0x62000 then .refuse 1 none
  else match findKind devKinds off with
    | some (k, i) => s.regWrite who k 0 i v
    | none => noRegister s v

/-- Writes an aligned 64-bit word of a window that is no memory, after the checks of the address map. What the Riari mailbox does with a word the spec does not say (log 68). -/
def State.ioWrite (s : State) (who : Sys2Proof.Req) (own : Option Nat) (a : Nat) (v : Word) : WRes :=
  match s.region own a with
  | .treg t o => s.tregWrite who t o v
  | .dreg o => s.dregWrite who o v
  | .riari _ => .ok s
  | _ => .refuse 1 none

/-! ### What the requester is told (00 R8, R402) -/

/-- The fault of a thread or firing for a cause of 00 R402. -/
def causeFault (cause : Nat) : Nat := if cause = 1 ∨ cause = 3 then 3 else 2

/-- The Aklofy abort code of a cause (00 R402). -/
def causeAbort (cause : Nat) : Nat := if cause = 1 then 0x0203 else if cause = 3 then 0x0401 else 0x0302

/-- The reason in a REFUSED event (00 R402, 13 R347). -/
def causeReason (cause : Nat) : Nat := if cause = 1 then 3 else if cause = 3 then 2 else 1

/-- ERR of a debug-port access (00 R402, 13 R355). -/
def causeErr (cause : Nat) : Nat := if cause = 1 then 2 else 1

/-- The outcome of a write reaches its requester: a thread traps, a host write raises REFUSED, a debug access sets ERR. -/
def State.told (s : State) (who : Sys2Proof.Req) (addr : Nat) (r : WRes) : State :=
  match r with
  | .ok t => match who with
    | .debug => t.fset F.DAPSTAT_ERR 0 0 0
    | _ => t
  | .refuse cause _ => match who with
    | .thread c n => if (s.thr c n).st = .ready then s.trap c n (causeFault cause) (s.thr c n).pc false else s
    | .host => s.event 2 addr (causeReason cause)
    | .debug => s.fset F.DAPSTAT_ERR 0 0 (causeErr cause)
    | _ => s

/-- The physical address of a register element (10 R243). -/
def regAddr (k : RegKind) (t i : Nat) : Nat :=
  let e := regSpec k
  let off := e.base + e.stride * i
  if e.inTile then 0x10000000000 + t * 0x1000000 + 0xF00000 + off else 0x20000000000 + off

/-- A register write with its outcome told. -/
def State.doWrite (s : State) (who : Sys2Proof.Req) (k : RegKind) (t i : Nat) (v : Word) : State :=
  s.told who (regAddr k t i) (s.regWrite who k t i v)

end Sys2Proof.Machine
end

