-- ==== Sys2Proof/Machine/Arming.lean ====
section
/-! DEFINITION. The storyboard image, the checks of an arming or a cut, the reservations, the opening of contexts, and arming itself (04 R90 to R94, R102 to R112; 08 R187 to R192). -/
namespace Sys2Proof.Machine

/-! ### The storyboard (04 The storyboard, R91 to R94) -/

/-- A 64-bit word of an image. -/
def img64 (p : List Byte) (at_ : Nat) : Word := wd (imgWord p at_ 8)

/-- NSHOT of a tile. -/
def sbShots (p : List Byte) (t : Nat) : Nat := wbits (img64 p (0x440 + 8 * t)) 0 9

/-- The byte at which the shots of a tile begin. -/
def sbShotAt (p : List Byte) (t : Nat) : Nat := 0x640 + 16 * ((List.range t).map (sbShots p)).foldl (· + ·) 0

/-- NCTX of a storyboard. -/
def sbNctx (p : List Byte) : Nat := wbits (img64 p 8) 0 16

/-- Two words at a byte position. -/
def imgPair (p : List Byte) (at_ : Nat) : Activity := ⟨img64 p at_, img64 p (at_ + 8)⟩

/-- The bank that a verified storyboard gives a tile (R94). -/
def sbBank (p : List Byte) (t : Nat) : CoxBank :=
  { valid := true
    hdr := (List.range 8).map fun k => (k, img64 p (8 * k))
    acts := (List.range 64).map fun a => (a, imgPair p (0x40 + 16 * a))
    dir := img64 p (0x440 + 8 * t)
    shots := (List.range (sbShots p t)).map fun i => imgPair p (sbShotAt p t + 16 * i) }

/-- Are the reserved bits of the header, the activities, the directory and the shots 0, and does the length agree with NSHOT and NCTX (14 R364, R371)? -/
def sbOk (p : List Byte) : Bool :=
  let z := fun (at_ lo len : Nat) => wbits (img64 p at_) lo len = 0
  (List.range 64).all (fun t => decide (sbShots p t ≤ 256) && z (0x440 + 8 * t) 9 7 && z (0x440 + 8 * t) 48 16) &&
  z 0 21 43 && z 8 16 48 && (List.range 6).all (fun k => z (16 + 8 * k) 0 64) &&
  (List.range 64).all (fun a => z (0x40 + 16 * a) 43 21 && z (0x48 + 16 * a) 41 23) &&
  (List.range ((sbShotAt p 64 - 0x640) / 16)).all (fun i => z (0x640 + 16 * i) 50 14) &&
  decide (p.length = sbShotAt p 64 + 40 * sbNctx p)

/-- A descriptor from its four words, with the fields that opening sets left as written (02 R49). -/
def ctxOf (d0 d1 d2 d3 : Word) : Ctx :=
  { st := wbits d0 0 2, cls := wbits d0 2 2, pri := wbits d0 4 3, cert := wbits d0 7 1 = 1, act := wbits d0 8 6, graph := wbits d0 16 8,
    parent := wbits d0 32 16, piter := wbits d0 48 16, tileset := d1.toNat, popmax := wbits d2 0 20, opened := d3, acks := 0, victim := 0 }

/-- An entry of the context list (R91): the context, its descriptor, and whether a reserved field is not 0. -/
structure CtxEntry where
  ctx : Nat
  d : Ctx
  bad : Bool
  deriving DecidableEq, Repr

/-- Entry i of a context list. -/
def sbEntry (p : List Byte) (i : Nat) : CtxEntry :=
  let at_ := sbShotAt p 64 + 40 * i
  let w0 := img64 p at_
  let d := ctxOf (img64 p (at_ + 8)) (img64 p (at_ + 16)) (img64 p (at_ + 24)) (img64 p (at_ + 32))
  ⟨wbits w0 0 16, d, decide (wbits w0 16 48 ≠ 0) || decide (d.num ≠ imgWord p (at_ + 8) 32)⟩

/-- The least entry by CTX of a list, first of equals, out of it; sorts in at most `fuel` steps. -/
def sortCtx : Nat → List CtxEntry → List CtxEntry
  | 0, l => l
  | n + 1, l =>
    match minBy (fun (e : CtxEntry) => e.ctx) l with
    | none => []
    | some m => match takeFirst (fun e => e.ctx = m.ctx) l with
      | some (a, r) => a :: sortCtx n r
      | none => l

/-- The context list in ascending CTX. -/
def sbList (p : List Byte) : List CtxEntry := sortCtx (sbNctx p) ((List.range (sbNctx p)).map (sbEntry p))

/-- The image whose context list the arming or cut opens: the staged storyboard, or the one last in force (04 Arming checks). -/
def State.storyImage (s : State) : Option Image := (tfind? s.riari.staged 4).orElse fun _ => s.riari.story

/-- The context list of that storyboard. -/
def State.ctxList (s : State) : List CtxEntry :=
  match s.storyImage with
  | some m => sbList m.payload
  | none => []

/-! ### Contexts that stay, and contexts that open (R91, R405) -/

/-- Do two descriptors agree in the fields of R91? -/
def ctxSame (a b : Ctx) : Bool :=
  a.cls = b.cls && a.pri = b.pri && a.cert == b.cert && a.act = b.act && a.graph = b.graph && a.tileset = b.tileset && a.popmax = b.popmax

/-- Is an entry kept open? -/
def State.ctxKept (s : State) (e : CtxEntry) : Bool := (s.ctx e.ctx).st = 1 && ctxSame (s.ctx e.ctx) e.d

/-- The contexts now OPEN. -/
def State.openCtxs (s : State) : List (Nat × Ctx) := s.ctxs.filter fun (p : Nat × Ctx) => p.2.st = 1

/-- The entries that are not kept. -/
def State.newEntries (s : State) : List CtxEntry := s.ctxList.filter fun e => !s.ctxKept e

/-- The entries that the arming or cut can open: the first of each number whose context is FREE. -/
def State.toOpen (s : State) : List (Nat × Ctx) :=
  (s.newEntries.foldl (fun (l : List (Nat × Ctx)) e =>
    if (s.ctx e.ctx).st = 0 ∧ !(l.any fun p => p.1 = e.ctx) then (e.ctx, { e.d with st := 1, parent := 0xFFFF, piter := 0 }) :: l else l) []).reverse

/-- The contexts that will be OPEN after the arming or cut. -/
def State.concerned (s : State) : List (Nat × Ctx) := s.openCtxs ++ s.newEntries.map fun e => (e.ctx, e.d)

/-! ### Capacity and reservations (08 R187 to R192; 14 R380) -/

/-- CAP of a tile from its registers; 0 for a tile that is out. -/
def State.capOf (s : State) (t : Nat) : Nat :=
  if s.riari.outs.contains t then 0
  else if s.fget F.SPSIZE_SIZE t 0 = 0 ∨ s.fget F.MSCFG_SPILLEN t 0 = 0 then 4096
  else 4096 + (s.fget F.SPSIZE_SIZE t 0 * 1024 - 512) * 31

/-- CAP as the checks take it: computed when the device leaves STANDBY, the register from then on. -/
def State.capNow (s : State) (t : Nat) : Nat := if s.dev = .standby then s.capOf t else s.fget F.ADMCAP_CAP t 0

/-- CAP is loaded as the device leaves STANDBY (R187). -/
def State.loadCaps (s : State) : State := (List.range 64).foldl (fun s t => s.fset F.ADMCAP_CAP t 0 (s.capOf t)) s

/-- Does a context reserve (R188)? -/
def reserves (d : Ctx) : Bool := d.cert && d.parent = 0xFFFF

/-- The reservations of a list of contexts on one tile. -/
def resvOn (t : Nat) (l : List (Nat × Ctx)) : Nat :=
  l.foldl (fun n p => if reserves p.2 && p.2.tileset.testBit t then n + p.2.popmax else n) 0

/-- The first of the contexts, in order, that does not fit on a tile (R189): the tile and the context. -/
def State.resvFail (s : State) : List (Nat × Ctx) → List (Nat × Ctx) → Option (Nat × Nat × Ctx)
  | _, [] => none
  | done, p :: r =>
    let past := if reserves p.2 then
        (tilesOf p.2.tileset).find? fun t => decide (s.capNow t < s.fget F.ADMRES_RES t 0 + resvOn t (done ++ [p]) + s.fget F.ADMCFG_OPENMIN t 0)
      else none
    match past with
    | some t => some (t, p.1, p.2)
    | none => s.resvFail (done ++ [p]) r

/-- A context's reservation is made on its tiles; `sign` false returns it. -/
def State.reserve (s : State) (d : Ctx) (sign : Bool) : State :=
  if reserves d then
    (tilesOf d.tileset).foldl (fun s t =>
      let g := fun (n : Nat) => if sign then n + d.popmax else n - d.popmax
      let s := s.fset F.ADMRES_RES t 0 (g (s.fget F.ADMRES_RES t 0))
      if d.cls = 0 then s.fset F.ADMRES_C0RES t 0 (g (s.fget F.ADMRES_C0RES t 0)) else s) s
  else s

/-- The segment headers of a reel's payload: tile, first index, count, and the place of its words (14 R364). -/
def reelSegs (p : List Byte) : List (Nat × Nat × Nat × Nat) :=
  let n := imgWord p 2 2
  ((List.range n).foldl (fun (a : List (Nat × Nat × Nat × Nat) × Nat) i =>
    let h := imgWord p (4 + 8 * i) 8
    let c := bits h 30 15
    (a.1 ++ [(bits h 0 6, bits h 16 14, c, a.2)], a.2 + 8 * c)) ([], 4 + 8 * n)).1

/-- LOOP_ENTRY nodes among graph words of a tile, from an index on; a constant is no node (02 R27, R28). -/
def State.loopsIn (s : State) (t idx : Nat) : Nat → Nat
  | 0 => 0
  | 1 => b2n (nMode (s.gword t idx) = 2 ∧ nMatch (s.gword t idx) = 4)
  | n + 2 =>
    let w := s.gword t idx
    b2n (decide (2 ≤ nMode w) && decide (nMatch w = 4)) + (if nMode w = 3 then s.loopsIn t (idx + 2) n else s.loopsIn t (idx + 1) (n + 1))

/-- LOOP_ENTRY nodes of a graph on a tile (R192): in the segments of the reel that holds it. -/
def State.graphLoops (s : State) (g t : Nat) : Nat :=
  match tfind? s.riari.reels g with
  | none => 0
  | some m => (reelSegs m.payload).foldl (fun n (h : Nat × Nat × Nat × Nat) => if h.1 = t then n + s.loopsIn t h.2.1 h.2.2.1 else n) 0

/-- The certified root contexts that will be OPEN, in ascending CTX, each once (R192). -/
def State.loopRoots (s : State) : List (Nat × Ctx) :=
  let l := (s.openCtxs.filter fun p => reserves p.2) ++ s.toOpen.filter fun p => reserves p.2
  (sortCtx l.length (l.map fun p => ⟨p.1, p.2, false⟩)).map fun e => (e.ctx, e.d)

/-- Throttle entries counted on a tile. -/
def State.loopCount (s : State) (t : Nat) (l : List (Nat × Ctx)) : Nat :=
  l.foldl (fun n p => if p.2.tileset.testBit t then n + s.graphLoops p.2.graph t else n) 0

/-- The context whose count takes a tile past 256. -/
def State.loopPast (s : State) (t : Nat) : List (Nat × Ctx) → List (Nat × Ctx) → Option (Nat × Ctx)
  | _, [] => none
  | done, p :: r => if 256 < s.loopCount t (done ++ [p]) then some p else s.loopPast t (done ++ [p]) r

/-! ### The checks (R106, R404, R405) -/

/-- The image of ARMFAIL (R107). -/
structure ArmFail where
  check : Nat
  tile : Nat := 0
  act : Nat := 0
  shot : Nat := 0x1FF
  lane : Nat := 0
  ctx : Nat := 0
  link : Nat := 0
  deriving DecidableEq, Repr

/-- The register image. -/
def ArmFail.word (f : ArmFail) : Word :=
  wd (f.check + f.tile % 64 * 2 ^ 8 + f.act % 64 * 2 ^ 14 + f.shot % 512 * 2 ^ 20 + f.lane % 4096 * 2 ^ 29 + f.ctx % 65536 * 2 ^ 41 + f.link % 32 * 2 ^ 57)

/-- The shots of every shadow bank, by tile and number. -/
def State.allShots (s : State) : List (Nat × Nat × Activity) :=
  (List.range 64).flatMap fun t => (s.shadowBank t).shots.zipIdx.map fun p => (t, p.2, p.1)

/-- The first failing shot. -/
def shotFail (check : Nat) (l : List (Nat × Nat × Activity)) (bad : Nat × Nat × Activity → Bool) : Option ArmFail :=
  (l.find? bad).map fun p => { check := check, tile := p.1, shot := p.2.1, act := p.2.2.act }

/-- Does a charge exceed what a span of L beats provides? -/
def overSpan (c : Charge) (l : Nat) : Bool :=
  decide (32 * l < c.fire) || decide (8 * l < c.slot) || decide (32 * l < c.memb) || decide (16 * l < c.flit)

/-- The scaled grants of a shot. -/
def Activity.grant (h : Activity) : Charge := ⟨h.gFire, h.gSlot, h.gMemb, h.gFlit⟩

/-- The grants of every shot of a bank. -/
def CoxBank.total (b : CoxBank) : Charge :=
  b.shots.foldl (fun c h => ⟨c.fire + h.gFire, c.slot + h.gSlot, c.memb + h.gMemb, c.flit + h.gFlit⟩) ⟨0, 0, 0, 0⟩

/-- Checks 0x01 to 0x07: the banks and their shots. -/
def State.checkShots (s : State) : Option ArmFail :=
  let shots := s.allShots
  let per := (s.shadowBank 0).period
  let act := fun (a : Nat) => (s.shadowBank 0).act a
  let before := fun (p : Nat × Nat × Activity) => p.2.1 ≠ 0 && decide (p.2.2.start < ((s.shadowBank p.1).shots.getD (p.2.1 - 1) ⟨0, 0⟩).start)
  (((List.range 64).find? fun t => s.fget F.COXSTAT_SHVALID t 0 = 0).map fun t => ({ check := 1, tile := t } : ArmFail)).orElse fun _ =>
  (if per < 40 ∨ 2000000 < per then some { check := 2 } else none).orElse fun _ =>
  (shotFail 3 shots fun p => decide (per ≤ p.2.2.start) || decide (per - p.2.2.start < p.2.2.len)).orElse fun _ =>
  (shotFail 4 shots before).orElse fun _ =>
  (shotFail 5 shots fun p => !(act p.2.2.act).valid).orElse fun _ =>
  (shotFail 6 shots fun p => overSpan p.2.2.grant (if p.2.2.len = 0 then per - p.2.2.start else p.2.2.len)).orElse fun _ =>
  ((List.range 64).find? fun t => overSpan (s.shadowBank t).total per).map fun t => { check := 7, tile := t }

/-- Is an activity of the new storyboard a VALID class 0 activity? -/
def State.c0Act (s : State) (a : Nat) : Bool := ((s.shadowBank 0).act a).valid && ((s.shadowBank 0).act a).cls = 0

/-- The activities and tiles of the class 0 contexts concerned, in the search order of checks 0x08 and 0x09. -/
def State.c0Tiles (s : State) : List (Nat × Nat) :=
  let cs := s.concerned
  (List.range 64).flatMap fun a => if s.c0Act a then
    ((List.range 64).filter fun t => cs.any fun p => p.2.act = a && p.2.tileset.testBit t).map fun t => (a, t) else []

/-- Class 0 population of a tile (02 R38). -/
def State.c0Pop (s : State) (t : Nat) : Nat :=
  s.concerned.foldl (fun n p => if p.2.cls = 0 ∧ p.2.tileset.testBit t then n + p.2.popmax else n) 0

/-- Checks 0x08 to 0x0A. -/
def State.checkC0 (s : State) : Option ArmFail :=
  let l := s.c0Tiles
  let standing := fun (p : Nat × Nat) => (s.shadowBank p.2).shots.any fun h => h.act = p.1 && h.start = 0 && h.len = 0
  let low := fun (p : Nat × Nat) =>
    let g := (s.shadowBank p.2).grants p.1
    let a := (s.shadowBank 0).act p.1
    decide (g.fire < a.fps) || decide (g.memb < a.mps) || decide (g.flit < 2 * a.fps)
  ((l.find? fun p => !standing p).map fun p => ({ check := 8, act := p.1, tile := p.2 } : ArmFail)).orElse fun _ =>
  ((l.find? low).map fun p => ({ check := 9, act := p.1, tile := p.2 } : ArmFail)).orElse fun _ =>
  ((List.range 64).find? fun t => decide (8 < s.c0Pop t)).map fun t => { check := 0x0A, tile := t }

/-- The lanes with CLS0 set that are not OFF, ascending. -/
def State.c0Lanes (s : State) : List Nat :=
  (List.range 4096).filter fun l => (s.lane l).st ≠ .off && s.fget F.LANECFG_CLS0 0 l = 1

/-- The site entries with EN and C0EN, by number 64 × link + site. -/
def State.c0Sites (s : State) : List Nat :=
  (List.range 2048).filter fun i => s.fget F.SITEW0_EN 0 i = 1 && s.fget F.SITEW0_C0EN 0 i = 1

/-- The activities of a class 0 lane (R405). -/
def State.laneActs (s : State) (l : Nat) : List Nat :=
  let named := s.c0Sites.filter fun i => s.fget F.SITEW1_C0LANE 0 i = l
  let cs := s.concerned
  let acts := if named.isEmpty then cs.map fun p => p.2.act
    else (cs.filter fun p => named.any fun i => s.fget F.SITEW0_C0CTX 0 i = p.1).map fun p => p.2.act
  (List.range 64).filter fun a => acts.contains a && s.c0Act a

/-- The tile ARMFAIL names for a lane: that of slice 13 + t (R404). -/
def State.laneFailTile (s : State) (l : Nat) : Nat :=
  let k := cfgSlice (s.reg .LANECFG 0 l)
  if 13 ≤ k ∧ k < 77 then k - 13 else 0

/-- Check 0x0B of one lane. -/
def State.laneCheck (s : State) (lanes : List Nat) (l : Nat) : Option ArmFail :=
  if lanes.any fun k => decide (k < l) && s.outletOf k = s.outletOf l then some { check := 0x0B, lane := l, tile := s.laneFailTile l }
  else ((s.laneActs l).find? fun a => decide (s.laneW l < ((s.shadowBank 0).act a).oseq)).map fun a =>
    { check := 0x0B, lane := l, act := a, tile := s.laneFailTile l }

/-- B of R111 in cycles: 106.0 ns + DEPTH × 1.875 ns, rounded up. -/
def boundCycles (depth : Nat) : Nat := (1696 + 30 * depth + 9) / 10

/-- Does a class 0 activity fail check 0x0C? -/
def State.boundBad (s : State) (a : Nat) : Bool :=
  let x := (s.shadowBank 0).act a
  s.c0Act a && (decide (x.depth < 1) || decide (16 < x.depth) || decide ((s.shadowBank 0).period < x.dl) || decide (8 * x.dl < boundCycles x.depth))

/-- The catch links that feed a class 0 graph or carry a class 0 lane (R405). -/
def State.c0Links (s : State) : List Nat :=
  let cs := s.concerned
  let lanes := s.c0Lanes
  (List.range 32).filter fun l =>
    (s.c0Sites.any fun i => i / 64 = l && cs.any fun p => p.1 = s.fget F.SITEW0_C0CTX 0 i && p.2.cls = 0) ||
    lanes.any fun k => (s.fget F.LANECFG_SRCK 0 k = 0 && s.fget F.LANECFG_SRC 0 k = l) || (s.fget F.LANECFG_SINK 0 k = 0 && s.fget F.LANECFG_SPORT 0 k = l)

/-- The number of descriptors that would be pinned on a tile. -/
def State.pinCount (s : State) (t : Nat) : Nat := (s.concerned.filter fun p => p.2.cls = 0 && p.2.tileset.testBit t).length

/-- Checks 0x0B to 0x0E. -/
def State.checkPath (s : State) : Option ArmFail :=
  let lanes := s.c0Lanes
  (lanes.findSome? (s.laneCheck lanes)).orElse fun _ =>
  (((List.range 64).find? s.boundBad).map fun a => ({ check := 0x0C, act := a } : ArmFail)).orElse fun _ =>
  ((s.c0Links.find? fun l => s.fget F.CLCFG_MODE 0 l = 0).map fun l => ({ check := 0x0D, link := l } : ArmFail)).orElse fun _ =>
  ((List.range 64).find? fun t => decide (64 < s.pinCount t)).map fun t => { check := 0x0E, tile := t }

/-- Check 0x0F of one context. -/
def State.ctxCheck (s : State) (p : Nat × Ctx) : Option ArmFail :=
  let a := (s.shadowBank 0).act p.2.act
  let f : ArmFail := { check := 0x0F, ctx := p.1, act := p.2.act, tile := p.1 / 1024 }
  if !a.valid ∨ a.cls ≠ p.2.cls then some f
  else ((tilesOf p.2.tileset).find? fun t => !((s.shadowBank t).shots.any fun h => h.act = p.2.act)).map fun t => { f with tile := t }

/-- Check 0x0F, in ascending CTX. -/
def State.checkCtxs (s : State) : Option ArmFail :=
  (sortCtx s.concerned.length (s.concerned.map fun p => ⟨p.1, p.2, false⟩)).findSome? fun e => s.ctxCheck (e.ctx, e.d)

/-- Check 0x10: reservations, then the throttle count. -/
def State.checkRoom (s : State) : Option ArmFail :=
  match s.resvFail [] s.toOpen with
  | some (t, c, d) => some { check := 0x10, ctx := c, tile := t, act := d.act }
  | none =>
    (List.range 64).findSome? fun t => (s.loopPast t [] s.loopRoots).map fun p => { check := 0x10, ctx := p.1, tile := t, act := p.2.act }

/-- Check 0x11, in ascending CTX of the entries. -/
def State.checkList (s : State) : Option ArmFail :=
  let l := s.ctxList
  (l.zipIdx.find? fun p =>
    let e := p.1
    e.bad || e.d.st ≠ 0 || e.d.parent ≠ 0 || e.d.piter ≠ 0 || e.d.opened ≠ 0 || (l.take p.2).any (fun f => f.ctx = e.ctx) ||
    ((s.ctx e.ctx).st ≠ 0 && !s.ctxKept e) || (e.d.cls = 0 && !e.d.cert)).map fun p =>
    { check := 0x11, ctx := p.1.ctx, tile := p.1.ctx / 1024, act := p.1.d.act }

/-- Check 0x12. -/
def State.checkTable (s : State) : Option ArmFail :=
  if !s.ctbaseSet ∨ s.dsize < s.fget F.CTBASE_BASE 0 0 * 2 ^ 21 + 2 ^ 21 then some { check := 0x12 } else none

/-- The checks of an arming or a cut, in order: the first that fails (R106). -/
def State.armCheck (s : State) : Option ArmFail :=
  s.checkShots.orElse fun _ => s.checkC0.orElse fun _ => s.checkPath.orElse fun _ => s.checkCtxs.orElse fun _ =>
  s.checkRoom.orElse fun _ => s.checkList.orElse fun _ => s.checkTable

/-! ### What passing does -/

/-- A class 0 descriptor is pinned on the tiles of its context (02 Contexts). -/
def State.pinCtx (s : State) (c : Nat) (d : Ctx) : State :=
  if d.cls ≠ 0 then s
  else (tilesOf d.tileset).foldl (fun s t =>
    s.onTile t fun x => { x with cache := trimCache (⟨c, false, true, 0, false, 0, false⟩ :: x.cache.filter fun e => e.ctx ≠ c) }) s

/-- The contexts of a list are opened in ascending CTX, where they are still FREE (02 R50; R91). -/
def State.openList (s : State) (l : List (Nat × Ctx)) : State :=
  l.foldl (fun s p =>
    if (s.ctx p.1).st = 0 then
      (s.setCtx p.1 { p.2 with st := 1, parent := 0xFFFF, piter := 0, opened := s.slate, acks := 0, victim := 0 }).pinCtx p.1 p.2
    else s) s

/-- LTRES of every tile (08 R192). -/
def State.loadLtres (s : State) (lt : Tab Nat Nat) : State :=
  (List.range 64).foldl (fun s t => s.fset F.ADMRES_LTRES t 0 (tget lt 0 t)) s

/-- C0BOUND of every activity from the bank that passed (R111, R112). -/
def State.loadBounds (s : State) (b : CoxBank) : State :=
  (List.range 64).foldl (fun s a =>
    let x := b.act a
    let c0 := x.valid && x.cls = 0
    (s.fset F.C0BOUND_BCYC 0 a (if c0 then boundCycles x.depth else 0)).fset F.C0BOUND_BVALID 0 a (b2n c0)) s

/-- When no storyboard is staged, every active bank is copied to its shadow bank (04 Arming checks). -/
def State.copyActive (s : State) : State :=
  if (tfind? s.riari.staged 4).isSome then s
  else (List.range 64).foldl (fun s t => s.setShadow t (s.activeBank t)) s

/-- SHVALID returns where the copy set it. -/
def State.uncopy (s old : State) : State :=
  (List.range 64).foldl (fun s t =>
    if old.fget F.COXSTAT_SHVALID t 0 = 0 then s.setShadow t { s.shadowBank t with valid := false } else s) s

/-- Arming (04 Arming checks; 13 R341): the state, and ARMFAIL when it fails. -/
def State.arming (s : State) : State × Option ArmFail :=
  let s1 := s.copyActive
  match s1.armCheck with
  | some f => ((s1.uncopy s).setReg .ARMFAIL 0 0 f.word, some f)
  | none =>
    let l := s1.toOpen
    let lt := (List.range 64).map fun t => (t, s1.loopCount t s1.loopRoots)
    let s2 := (l.foldl (fun s p => s.reserve p.2 true) s1.loadCaps).loadLtres lt
    (((s2.openList l).loadBounds (s2.shadowBank 0)).enter .armed, none)

/-! ### The cut is armed, checked and sampled (R102 to R104) -/

/-- The reservations that an ARM made are returned (08 R189). -/
def State.returnResv (s : State) : State :=
  { s.cut.resv.foldl (fun s p => s.reserve p.2 false) s with cut := { s.cut with resv := [] } }

/-- ARM and READY clear, and nothing of the cut is kept. -/
def State.endCut (s : State) : State :=
  let s := (s.fset F.CUTTAKE_ARM 0 0 0).fset F.CUTTAKE_READY 0 0 0
  { s with cut := { s.cut with checking := false, committed := false, resv := [], lt := [], byRun := false } }

/-- The cut is MISSED (R104). -/
def State.cutMissed (s : State) : State := ((s.returnResv.endCut).fset F.CUTTAKE_MISSED 0 0 1).cutEvent 2

/-- The cut checks end (R103): FAIL with ARMFAIL, or the reservations and READY; READY waits for the pre-copy of every pending substitution (14 R377). -/
def State.cutChecks (s : State) : State :=
  if !(s.cut.checking ∧ s.fget F.CUTTAKE_ARM 0 0 = 1) then s
  else match s.armCheck with
    | some f => (((s.setReg .ARMFAIL 0 0 f.word).endCut).fset F.CUTTAKE_FAIL 0 0 1).cutEvent 4
    | none =>
      if !s.pendTiles.isEmpty ∧ !s.presynced then s
      else
        let l := s.toOpen
        let lt := (List.range 64).map fun t => (t, s.loopCount t s.loopRoots)
        let s := l.foldl (fun s p => s.reserve p.2 true) s
        { s.fset F.CUTTAKE_READY 0 0 1 with cut := { s.cut with checking := false, resv := l, lt := lt } }

/-- CUT_CHECKS_COMPLETE (04 R103, R106). -/
def execCutChecksComplete (dt : Nat) (s : State) : Host.Outcome State Fault Refusal := .next (s.advance dt).cutChecks

/-- Is the next stroke the one that CUTSTRK names? -/
def State.cutNext (s : State) : Bool := s.fget F.CUTSTRK_STROKE 0 0 = (s.count + 1) % 2 ^ 48

/-- Cycle −64: ARM and READY are sampled (R104). -/
def State.cutSample (s : State) : State :=
  if s.cutNext ∧ s.fget F.CUTTAKE_ARM 0 0 = 1 ∧ s.now + 64 = s.boundaryAt ∧ !s.cut.committed then
    if s.fget F.CUTTAKE_READY 0 0 = 1 then { s with cut := { s.cut with committed := true } } else s.cutMissed
  else s

/-- CUT_SAMPLE (04 R104). -/
def execCutSample (dt : Nat) (s : State) : Host.Outcome State Fault Refusal := .next (s.advance dt).cutSample

/-- RUN and CUT: CUTTAKE and CUTSTRK are written and ARM sets (13 R341): the state, or the abort code. -/
def State.armCut (s : State) (stroke : Nat) (byRun : Bool) : Except Nat State :=
  if s.fget F.CUTTAKE_ARM 0 0 = 1 ∨ s.cut.committed then .error 0x0402
  else if stroke ≤ s.count ∨ 2 ^ 48 ≤ stroke then .error 0x0302
  else
    let s := s.fset F.CUTSTRK_STROKE 0 0 stroke
    let s := ((s.fset F.CUTTAKE_NTAKE 0 0 (s.fget F.SLATE_TAKE 0 0 + 1)).fset F.CUTTAKE_ARM 0 0 1).fset F.CUTTAKE_READY 0 0 0
    .ok { s with cut := { s.cut with checking := true, byRun := byRun } }

end Sys2Proof.Machine
end

