-- ==== Sys2Proof/Machine/Fp.lean ====
section
/-! DEFINITION. IEEE 754-2019 binary32 and binary64 arithmetic (06 R157; 07 R178 to R181, R183). Exceptions are bits IV 1, DZF 2, OF 4, UF 8, IX 16. -/
namespace Sys2Proof.Machine

/-- A floating-point format: exponent bits and fraction bits. -/
structure Fmt where
  eb : Nat
  fb : Nat
  deriving DecidableEq, Repr

/-- The format P names: 0 binary32, 1 binary64. -/
def fmtOf (p : Bool) : Fmt := if p then ⟨11, 52⟩ else ⟨8, 23⟩

/-- Exponent bias. -/ def Fmt.bias (f : Fmt) : Nat := 2 ^ (f.eb - 1) - 1
/-- Significand precision. -/ def Fmt.prec (f : Fmt) : Nat := f.fb + 1
/-- Exponent of the smallest normal value. -/ def Fmt.emin (f : Fmt) : Int := 1 - (f.bias : Int)
/-- The width. -/ def Fmt.width (f : Fmt) : Nat := 1 + f.eb + f.fb

/-- A datum: a NaN (signalling or not), an infinity, or a signed m × 2^e. -/
inductive Fpv where
  | nan (signalling : Bool)
  | inf (s : Bool)
  | fin (s : Bool) (m : Nat) (e : Int)
  deriving DecidableEq, Repr

/-- Sign bit. -/ def Fmt.sign (f : Fmt) (x : Nat) : Bool := x.testBit (f.eb + f.fb)
/-- Biased exponent. -/ def Fmt.exp (f : Fmt) (x : Nat) : Nat := bits x f.fb f.eb
/-- Fraction. -/ def Fmt.frac (f : Fmt) (x : Nat) : Nat := bits x 0 f.fb

/-- What a bit pattern stands for. -/
def Fmt.decode (f : Fmt) (x : Nat) : Fpv :=
  if f.exp x = 2 ^ f.eb - 1 then
    if f.frac x = 0 then .inf (f.sign x) else .nan (!(f.frac x).testBit (f.fb - 1))
  else if f.exp x = 0 then .fin (f.sign x) (f.frac x) (f.emin - f.fb)
  else .fin (f.sign x) (2 ^ f.fb + f.frac x) ((f.exp x : Int) - f.bias - f.fb)

/-- A bit pattern from sign, biased exponent and fraction. -/
def Fmt.pack (f : Fmt) (s : Bool) (e fr : Nat) : Nat := b2n s * 2 ^ (f.eb + f.fb) + e * 2 ^ f.fb + fr

/-- Infinity. -/ def Fmt.infBits (f : Fmt) (s : Bool) : Nat := f.pack s (2 ^ f.eb - 1) 0
/-- The largest finite value. -/ def Fmt.maxBits (f : Fmt) (s : Bool) : Nat := f.pack s (2 ^ f.eb - 2) (2 ^ f.fb - 1)
/-- The default NaN (R180). -/ def Fmt.qnan (f : Fmt) : Nat := f.pack false (2 ^ f.eb - 1) (2 ^ (f.fb - 1))
/-- A NaN made quiet (R180). -/ def Fmt.quiet (f : Fmt) (x : Nat) : Nat := x ||| 2 ^ (f.fb - 1)

/-- Does rounding mode `rm` (FL.RM encoding) take the magnitude up, for a remainder `rem` of 2^s with an even or odd quotient? -/
def roundsUp (rm : Nat) (neg odd : Bool) (rem s : Nat) : Bool :=
  let twice := 2 * rem
  match rm with
  | 0 => decide (2 ^ s < twice) || (decide (twice = 2 ^ s) && odd)
  | 1 => false
  | 2 => neg && rem ≠ 0
  | 3 => !neg && rem ≠ 0
  | _ => rem ≠ 0 && decide (2 ^ s ≤ twice)

/-- m × 2^e rounded to a multiple of 2^q: the quotient and whether it is inexact. -/
def roundAt (rm : Nat) (neg : Bool) (m : Nat) (e q : Int) : Nat × Bool :=
  if q ≤ e then (m * 2 ^ (e - q).toNat, false)
  else
    let s := (q - e).toNat
    let d := m / 2 ^ s
    let r := m % 2 ^ s
    (if roundsUp rm neg (d % 2 = 1) r s then d + 1 else d, decide (r ≠ 0))

/-- An overflowed result (R179). -/
def Fmt.past (f : Fmt) (rm : Nat) (s : Bool) : Nat :=
  match rm with
  | 1 => f.maxBits s
  | 2 => if s then f.infBits s else f.maxBits s
  | 3 => if s then f.maxBits s else f.infBits s
  | _ => f.infBits s

/-- The exact non-zero value m × 2^e rounded once to the format, with its exceptions (R178, R179). -/
def Fmt.round (f : Fmt) (rm : Nat) (s : Bool) (m : Nat) (e : Int) : Nat × Nat :=
  let E := e + (bitLen m : Int) - 1
  let p := f.prec
  let q := max (E - (p - 1 : Nat)) (f.emin - (p - 1 : Nat))
  let (M, ix) := roundAt rm s m e q
  let (U, _) := roundAt rm s m e (E - (p - 1 : Nat))
  let tiny := if U = 2 ^ p then decide (E + 1 < f.emin) else decide (E < f.emin)
  let (M, q) := if M = 2 ^ p then (2 ^ (p - 1), q + 1) else (M, q)
  if M < 2 ^ (p - 1) then (f.pack s 0 M, if ix then (if tiny then 24 else 16) else 0)
  else
    let be := q + (p - 1 : Nat) + f.bias
    if (2 ^ f.eb - 1 : Nat) ≤ be then (f.past rm s, 20)
    else (f.pack s be.toNat (M - 2 ^ (p - 1)), if ix then (if tiny then 24 else 16) else 0)

/-- A result and its exceptions. -/
structure FRes where
  d : Nat
  fl : Nat
  deriving DecidableEq, Repr

/-- The result of an operation with a NaN among its operands: the first NaN, made quiet, with IV for a signalling one (R179, R180). -/
def Fmt.nanRes (f : Fmt) (l : List Nat) : Option FRes :=
  let isNan := fun (x : Nat) => match f.decode x with | .nan _ => true | _ => false
  let sig := fun (x : Nat) => match f.decode x with | .nan b => b | _ => false
  match l.find? isNan with
  | some x => some ⟨f.quiet x, if l.any sig then 1 else 0⟩
  | none => none

/-- An invalid operation without a NaN operand (R180). -/
def Fmt.invalid (f : Fmt) : FRes := ⟨f.qnan, 1⟩

/-- Rounds an exact value that may be zero, with the sign of a zero given. -/
def Fmt.result (f : Fmt) (rm : Nat) (s : Bool) (m : Nat) (e : Int) : FRes :=
  if m = 0 then ⟨f.pack s 0 0, 0⟩ else let (d, x) := f.round rm s m e; ⟨d, x⟩

/-- The sum of two finite values, rounded; an exact zero of opposite signs is +0, or −0 toward −∞ (R179). -/
def Fmt.addFin (f : Fmt) (rm : Nat) (s1 : Bool) (m1 : Nat) (e1 : Int) (s2 : Bool) (m2 : Nat) (e2 : Int) : FRes :=
  let e := min e1 e2
  let v (s : Bool) (m : Nat) (x : Int) : Int := (if s then -1 else 1) * ((m * 2 ^ (x - e).toNat : Nat) : Int)
  let t := v s1 m1 e1 + v s2 m2 e2
  if t = 0 then f.result rm (if s1 = s2 then s1 else decide (rm = 2)) 0 0
  else f.result rm (decide (t < 0)) t.natAbs e

/-- FADD and FSUB (the sign of b inverted for FSUB). -/
def Fmt.add (f : Fmt) (rm : Nat) (neg : Bool) (a b : Nat) : FRes :=
  match f.nanRes [a, b] with
  | some r => r
  | none =>
    match f.decode a, f.decode b with
    | .inf s, .inf t => if s = (t != neg) then ⟨f.infBits s, 0⟩ else f.invalid
    | .inf s, _ => ⟨f.infBits s, 0⟩
    | _, .inf t => ⟨f.infBits (t != neg), 0⟩
    | .fin s m e, .fin t n g => f.addFin rm s m e (t != neg) n g
    | _, _ => f.invalid

/-- FMUL. -/
def Fmt.mul (f : Fmt) (rm : Nat) (a b : Nat) : FRes :=
  match f.nanRes [a, b] with
  | some r => r
  | none =>
    match f.decode a, f.decode b with
    | .inf s, .inf t => ⟨f.infBits (s != t), 0⟩
    | .inf s, .fin t n _ => if n = 0 then f.invalid else ⟨f.infBits (s != t), 0⟩
    | .fin s m _, .inf t => if m = 0 then f.invalid else ⟨f.infBits (s != t), 0⟩
    | .fin s m e, .fin t n g => f.result rm (s != t) (m * n) (e + g)
    | _, _ => f.invalid

/-- FDIV. The quotient carries its remainder as a jammed low bit. -/
def Fmt.div (f : Fmt) (rm : Nat) (a b : Nat) : FRes :=
  match f.nanRes [a, b] with
  | some r => r
  | none =>
    match f.decode a, f.decode b with
    | .inf _, .inf _ => f.invalid
    | .inf s, .fin t _ _ => ⟨f.infBits (s != t), 0⟩
    | .fin s _ _, .inf t => ⟨f.pack (s != t) 0 0, 0⟩
    | .fin s m e, .fin t n g =>
      if n = 0 then (if m = 0 then f.invalid else ⟨f.infBits (s != t), 2⟩)
      else
        let q := m * 2 ^ 130 / n
        let r := m * 2 ^ 130 % n
        f.result rm (s != t) (q * 4 + b2n (r ≠ 0)) (e - g - 132)
    | _, _ => f.invalid

/-- Integer square root by digits: the largest r below 2^k with r² ≤ n. -/
def isqrt (n : Nat) : Nat → Nat → Nat
  | 0, r => r
  | k + 1, r => if (r + 2 ^ k) * (r + 2 ^ k) ≤ n then isqrt n k (r + 2 ^ k) else isqrt n k r

/-- FSQRT. -/
def Fmt.sqrt (f : Fmt) (rm : Nat) (a : Nat) : FRes :=
  match f.nanRes [a] with
  | some r => r
  | none =>
    match f.decode a with
    | .inf s => if s then f.invalid else ⟨a, 0⟩
    | .fin s m e =>
      if m = 0 then ⟨a, 0⟩ else if s then f.invalid
      else
        let (m, e) := if e % 2 = 0 then (m, e) else (m * 2, e - 1)
        let n := m * 2 ^ 140
        let r := isqrt n 100 0
        f.result rm false (r * 4 + b2n (decide (r * r ≠ n))) (e / 2 - 72)
    | _ => f.invalid

/-- FMA: a × b + c rounded once; IV for 0 × ∞ even with a quiet NaN addend (R179). -/
def Fmt.fma (f : Fmt) (rm : Nat) (a b c : Nat) : FRes :=
  let zi : Bool := match f.decode a, f.decode b with
    | .inf _, .fin _ n _ => decide (n = 0)
    | .fin _ m _, .inf _ => decide (m = 0)
    | _, _ => false
  match f.nanRes [a, b, c] with
  | some r => if zi then { r with fl := 1 } else r
  | none =>
    if zi then f.invalid
    else
      match f.decode a, f.decode b, f.decode c with
      | .fin s m e, .fin t n g, .fin u k h => f.addFin rm (s != t) (m * n) (e + g) u k h
      | .fin _ _ _, .fin _ _ _, .inf u => ⟨f.infBits u, 0⟩
      | x, y, .inf u =>
        let sg := fun (v : Fpv) => match v with | .inf s => s | .fin s _ _ => s | .nan _ => false
        if (sg x != sg y) = u then ⟨f.infBits u, 0⟩ else f.invalid
      | x, y, _ =>
        let sg := fun (v : Fpv) => match v with | .inf s => s | .fin s _ _ => s | .nan _ => false
        ⟨f.infBits (sg x != sg y), 0⟩

/-- Is a NaN. -/
def Fmt.isNan (f : Fmt) (x : Nat) : Bool := match f.decode x with | .nan _ => true | _ => false

/-- Is a signalling NaN. -/
def Fmt.isSig (f : Fmt) (x : Nat) : Bool := match f.decode x with | .nan b => b | _ => false

/-- Order of two patterns that are no NaN, with −0 below +0. -/
def Fmt.key (f : Fmt) (x : Nat) : Int :=
  let mag := x % 2 ^ (f.eb + f.fb)
  if f.sign x then -(mag : Int) - 1 else mag

/-- Is the value a zero? -/
def Fmt.isZero (f : Fmt) (x : Nat) : Bool := x % 2 ^ (f.eb + f.fb) = 0

/-- FMIN and FMAX (R179). -/
def Fmt.minmax (f : Fmt) (mx : Bool) (a b : Nat) : FRes :=
  let x := if f.isSig a || f.isSig b then 1 else 0
  if f.isNan a && f.isNan b then ⟨f.qnan, x⟩
  else if f.isNan a then ⟨b, x⟩
  else if f.isNan b then ⟨a, x⟩
  else if (f.key a ≤ f.key b) != mx then ⟨a, x⟩ else ⟨b, x⟩

/-- FCMP: the flags N Z C V as a number, and IV on a signalling NaN (R157). -/
def Fmt.cmp (f : Fmt) (a b : Nat) : FRes :=
  let x := if f.isSig a || f.isSig b then 1 else 0
  if f.isNan a || f.isNan b then ⟨8, x⟩
  else if f.isZero a && f.isZero b then ⟨6, x⟩
  else if f.key a < f.key b then ⟨1, x⟩
  else if f.key a = f.key b then ⟨6, x⟩ else ⟨4, x⟩

/-- FCVT from format `f` to format `g` (R180). -/
def Fmt.cvt (f g : Fmt) (rm : Nat) (a : Nat) : FRes :=
  match f.decode a with
  | .nan sig =>
    let fr := f.frac (f.quiet a)
    let fr := if g.fb ≤ f.fb then fr / 2 ^ (f.fb - g.fb) else fr * 2 ^ (g.fb - f.fb)
    ⟨g.pack (f.sign a) (2 ^ g.eb - 1) fr, b2n sig⟩
  | .inf s => ⟨g.infBits s, 0⟩
  | .fin s m e => g.result rm s m e

/-- FCVTI and FCVTIU: to a signed or unsigned 64-bit integer (R180). -/
def Fmt.toInt (f : Fmt) (rm : Nat) (signed : Bool) (a : Nat) : FRes :=
  let hi := if signed then 2 ^ 63 - 1 else 2 ^ 64 - 1
  let lo := if signed then 2 ^ 63 else 0
  match f.decode a with
  | .nan _ => ⟨0, 1⟩
  | .inf s => ⟨if s then lo else hi, 1⟩
  | .fin s m e =>
    let (k, ix) := roundAt rm s m e 0
    let x := if ix then 16 else 0
    if s then
      (if signed then (if 2 ^ 63 < k then ⟨lo, 1⟩ else ⟨trunc 64 (-(k : Int)), x⟩)
       else if k = 0 then ⟨0, x⟩ else ⟨0, 1⟩)
    else if hi < k then ⟨hi, 1⟩ else ⟨k, x⟩

/-- FCVTF and FCVTFU. -/
def Fmt.ofInt (f : Fmt) (rm : Nat) (signed : Bool) (a : Word) : FRes :=
  let v : Int := if signed then sgn a else (a.toNat : Int)
  f.result rm (decide (v < 0)) v.natAbs 0

/-- FCLASS (R157). -/
def Fmt.classify (f : Fmt) (a : Nat) : Nat :=
  match f.decode a with
  | .nan s => if s then 256 else 512
  | .inf s => if s then 1 else 128
  | .fin s m _ =>
    if m = 0 then (if s then 8 else 16)
    else if f.exp a = 0 then (if s then 4 else 32) else (if s then 2 else 64)

/-- The rounding mode of an RMO code (R157); none when reserved. -/
def rmoMode (rmo dflt : Nat) : Option Nat := if rmo = 0 then some dflt else if rmo ≤ 5 then some (rmo - 1) else none

/-- The floating-point operations 0x80 to 0x93 on the operand words: the result word and the exceptions (R157). The binary32 operands are bits [31:0]. -/
def fpOp (op : Nat) (p : Bool) (rm : Nat) (a b c : Word) : FRes :=
  let f := fmtOf p
  let cut := fun (w : Word) => w.toNat % 2 ^ f.width
  let x := cut a
  let y := cut b
  match op with
  | 0x80 => f.add rm false x y
  | 0x81 => f.add rm true x y
  | 0x82 => f.mul rm x y
  | 0x83 => f.div rm x y
  | 0x84 => f.sqrt rm x
  | 0x85 => f.fma rm x y (cut c)
  | 0x86 => f.minmax false x y
  | 0x87 => f.minmax true x y
  | 0x88 => ⟨x ^^^ 2 ^ (f.eb + f.fb), 0⟩
  | 0x89 => ⟨x % 2 ^ (f.eb + f.fb), 0⟩
  | 0x8A => f.cmp x y
  | 0x8B => f.cvt (fmtOf !p) rm x
  | 0x8C => f.toInt rm true x
  | 0x8D => f.toInt rm false x
  | 0x8E => f.ofInt rm true a
  | 0x8F => f.ofInt rm false a
  | 0x90 => ⟨x, 0⟩
  | 0x93 => ⟨f.classify x, 0⟩
  | _ => ⟨a.toNat, 0⟩

/-- The fault of the first enabled raised exception: IV 0x04, DZF 0x05, OF 0x06, UF 0x07, IX 0x08 (R181). -/
def fpTrap (raised enabled : Nat) : Option Nat :=
  ([0, 1, 2, 3, 4].find? fun k => raised.testBit k && enabled.testBit k).map fun k => k + 4

end Sys2Proof.Machine
end

