-- ==== Sys2Proof/Machine/Strand.lean ====
section
/-! DEFINITION. What each strand instruction does at its thread: operands, effective addresses, charges, and the outcome of one attempt to issue (05 R119 to R127, 06 R138 to R165, 07 R171 to R185). The issue itself is in Issue.lean. -/
namespace Sys2Proof.Machine

/-- The outcome of an instruction: it completes in sequence, at a branch target, or with another next PC; it traps; it waits; it does not complete and is tried again; it cannot issue now; the Cox holds it; it ends its thread. -/
inductive XRes where
  | done (s : State)
  | jump (s : State) (pc : Nat)
  | next (s : State) (pc : Nat)
  | trap (s : State) (code : Nat)
  | wait (s : State) (w : WaitFor)
  | retry (s : State) (k : RetryKind)
  | stall
  | held (byCounter : Bool)
  | ended (s : State)
  deriving DecidableEq, Repr

/-- Is the thread in constant-time mode for its next instruction (07 R184)? -/
def Thread.ct (x : Thread) : Bool := flCT x.fl || x.ctTail

/-- The requester of a thread's accesses. -/
def thrReq (c n : Nat) : Sys2Proof.Req := .thread c n

/-! ### Effective addresses (06 R143) -/

/-- The displacement: I in immediate form, sext(IMM) in register form. -/
def Ins.disp (o : Ins) : Word := if o.im then o.iv else sext64 35 (iIMM o.w)

/-- Are the addressing-mode fields of a memory instruction legal (06 R135, R143)? `sameReg`: its destination is a w register that a load writes. -/
def Ins.amOk (o : Ins) (sameReg : Bool) : Bool :=
  let am := iAM o.w
  decide (am ≤ 8) && (!o.im || am = 0 || (5 ≤ am && am ≤ 7)) &&
  (o.im || (1 ≤ am && am ≤ 4) || iRB o.w = 0) && (am ≠ 8 || iRA o.w = 0) &&
  ((am ≠ 5 && am ≠ 6) || o.disp = 0) && (!(5 ≤ am && am ≤ 7 && sameReg) || iRD o.w ≠ iRA o.w)

/-- EA of a memory instruction with access size `size`, and the thread after base writeback (06 R143). -/
def Ins.ea (o : Ins) (x : Thread) (c size : Nat) : Nat × Thread :=
  let a := x.getW (iRA o.w)
  let cut := fun (w : Word) => w.toNat % 2 ^ 48
  match iAM o.w with
  | 0 => (cut (a + o.disp), x)
  | 5 => (cut a, x.setW (iRA o.w) (a + wd size))
  | 6 => (cut (a - wd size), x.setW (iRA o.w) (a - wd size))
  | 7 => (cut a, x.setW (iRA o.w) (a + o.disp))
  | 8 => (trunc 48 ((graphAddr c 0 : Int) + 8 * ((o.pc : Int) + iSIMM o.w)), x)
  | k => (cut (a + (x.getW (iRB o.w) <<< (k - 1)) + o.disp), x)

/-- Access size, extension, and whether the destination is an f register, of the loads 0x40 to 0x46, 0x4C and 0x4D (06 R154). -/
def loadKind (op : Nat) : Option (Nat × Ext × Bool) :=
  match op with
  | 0x40 => some (1, .sign, false)
  | 0x41 => some (1, .zero, false)
  | 0x42 => some (2, .sign, false)
  | 0x43 => some (2, .zero, false)
  | 0x44 => some (4, .sign, false)
  | 0x45 => some (4, .zero, false)
  | 0x46 => some (8, .zero, false)
  | 0x4C => some (4, .zero, true)
  | 0x4D => some (8, .zero, true)
  | _ => none

/-- Access size, and whether the data comes from an f register, of the stores (06 R154). -/
def storeKind (op : Nat) : Option (Nat × Bool) :=
  match op with
  | 0x48 => some (1, false)
  | 0x49 => some (2, false)
  | 0x4A => some (4, false)
  | 0x4B => some (8, false)
  | 0x4E => some (4, true)
  | 0x4F => some (8, true)
  | _ => none

/-- The size of the access of a memory instruction, 0 for none. -/
def accessSize (op : Nat) : Nat :=
  match loadKind op, storeKind op with
  | some k, _ => k.1
  | _, some k => k.1
  | _, _ => if op = 0x50 ∨ op = 0x51 then 8 else 0

/-- The operation at the bank. -/
def accessOp (op : Nat) : MemOp :=
  if op = 0x50 then .add else if op = 0x51 then .swap else if (storeKind op).isSome then .write else .read

/-- Bulk-network flits of one range of a copy, in packets of at most 256 bytes (11 R270). -/
def State.dmaFlits (s : State) (c a n : Nat) (op : MemOp) : Nat :=
  (n + 255) / 256 * s.bulkFlits (reqTile (.dma c 0)) a (min n 256) op

/-- The charge of a strand instruction (04 R97; 07 R185). -/
def State.chargeFor (s : State) (c n : Nat) (o : Ins) : Charge :=
  let x := s.thr c n
  let op := o.op
  if accessSize op ≠ 0 then
    let a := (o.ea x c (accessSize op)).1
    if x.ct then ⟨0, 1, 2, 0⟩
    else ⟨0, 1, membUnits a (accessSize op), s.bulkFlits (reqTile (thrReq c n)) a (accessSize op) (accessOp op)⟩
  else if op = 0x52 then
    let k := 8 * (iIMM o.w % 65536)
    let a := (x.getW (iRA o.w)).toNat % 2 ^ 48
    let b := (x.getW (iRB o.w)).toNat % 2 ^ 48
    ⟨0, 1, membUnits a k + membUnits b k, s.dmaFlits c a k .read + s.dmaFlits c b k .write⟩
  else if op = 0xB0 ∨ op = 0xB5 ∨ op = 0xB8 ∨ op = 0xD4 then ⟨0, 1, 0, 1⟩
  else if op = 0xD3 then
    ⟨0, 1, 1, match s.region (reqTile (thrReq c n)) (s.fget F.FLBASE_BASE c 0 * 32) with | .dram _ => 2 | _ => 0⟩
  else ⟨0, 1, 0, 0⟩

/-! ### Integer and logic (06 R151 to R153) -/

/-- TARX for an integer trap (07 R182). -/
def State.tarxInt (s : State) (c n : Nat) (o : Ins) : State :=
  s.setReg .TARX c n (wd (o.op * 2 ^ 9 + iRD o.w * 2 ^ 17 + 2 ^ 22))

/-- Does the opcode always set flags and write no RD: CMP, CMPW, TST? -/
def isCompare (op : Nat) : Bool := 0x18 ≤ op && op ≤ 0x1A

/-- Is the IMM field of EXT, EXTU, INS, SXT, ZXT or SETC within its used bits (06 R152)? -/
def immOk (o : Ins) : Bool :=
  match o.op with
  | 0x33 | 0x34 | 0x35 => decide (iIMM o.w < 2 ^ 12)
  | 0x37 | 0x38 => decide (iIMM o.w < 4)
  | 0x39 => decide (iIMM o.w < 16)
  | _ => true

/-- Operand b of an integer operation: IMM for the field instructions, a for MOV in register form. -/
def Ins.intB (o : Ins) (x : Thread) : Word :=
  match o.op with
  | 0x33 | 0x34 | 0x37 | 0x38 => wd (iIMM o.w)
  | 0x0F => if o.im then o.iv else o.a x
  | _ => o.b x

/-- The integer and logic instructions whose result is one word and flags. -/
def xInt (s : State) (c n : Nat) (o : Ins) : XRes :=
  let x := s.thr c n
  if !immOk o then .trap s 2
  else
    let r := if o.op = 0x35 then insOp (o.a x) (o.c x) (iIMM o.w) else intOp o.op (o.a x) (o.intB x) (flC x.fl)
    match r.fault with
    | some k => .trap (if k = 0x0A then s.tarxInt c n o else s) k
    | none =>
      let x := if isCompare o.op then x else x.setW (iRD o.w) r.d
      let x := if isCompare o.op || o.s then { x with fl := applyFlags x.fl r.n r.z r.c r.v } else x
      .done (s.setThr c n x)

/-- SETC on the thread's flags (06 R152). -/
def xSetc (s : State) (c n : Nat) (o : Ins) : XRes :=
  let x := s.thr c n
  if !immOk o then .trap s 2 else .done (s.setThr c n (x.setW (iRD o.w) (wd (b2n (condHolds (iIMM o.w) x.fl)))))

/-- MULU, MULS, MACU and MACS (06 R146, R151). -/
def xMulAcc (s : State) (c n : Nat) (o : Ins) : XRes :=
  let x := s.thr c n
  let p := prod (o.op % 2 = 1) (o.a x) (o.b x)
  let p := if 0x22 ≤ o.op then (p + x.ph.toNat * 2 ^ 64 + x.pl.toNat) % 2 ^ 128 else p
  .done (s.setThr c n { x with ph := wd (p / 2 ^ 64), pl := wd p })

/-- MFPH, MFPL and MTPP (06 R151). -/
def xProd (s : State) (c n : Nat) (o : Ins) : XRes :=
  let x := s.thr c n
  .done (s.setThr c n (match o.op with
    | 0x25 => x.setW (iRD o.w) x.ph
    | 0x26 => x.setW (iRD o.w) x.pl
    | _ => { x with ph := o.a x, pl := o.b x }))

/-- What a division step writes. -/
def Thread.putDiv (x : Thread) (rd : Nat) (r : DSet) : Thread := { x.setW rd r.rd with ph := r.ph, pl := r.pl, fl := r.fl }

/-- DSET, DSETW, DSETU and DSETUW (06 R153). -/
def xDset (s : State) (c n : Nat) (o : Ins) : XRes :=
  let x := s.thr c n
  let r := dset (if o.op % 2 = 1 then 32 else 64) (o.op < 0x2A) (o.a x) (o.b x) x.fl
  if flDZ r.fl ∧ flDZE x.fl then
    .trap ((s.setThr c n { x with fl := setFlag (setFlag x.fl 4 true) 3 true }).tarxInt c n o) 9
  else .done (s.setThr c n (x.putDiv (iRD o.w) r))

/-- DSTEP (06 R153). -/
def xDstep (s : State) (c n : Nat) (o : Ins) : XRes :=
  let x := s.thr c n
  let r := dstep x.ph x.pl (o.a x)
  .done (s.setThr c n { x with ph := r.1, pl := r.2 })

/-- DFIN and DFINW (06 R153). -/
def xDfin (s : State) (c n : Nat) (o : Ins) : XRes :=
  let x := s.thr c n
  .done (s.setThr c n (x.putDiv (iRD o.w) (dfin (if o.op = 0x2E then 32 else 64) x.ph x.pl x.fl)))

/-! ### Floating point (06 R157, 07 R178 to R182) -/

/-- TARX for a floating-point trap (07 R182). -/
def State.tarxFp (s : State) (c n : Nat) (o : Ins) (raised rm : Nat) : State :=
  s.setReg .TARX c n (wd (raised + rm * 2 ^ 5 + b2n (bit (iAM o.w) 0) * 2 ^ 8 + o.op * 2 ^ 9 + iRD o.w * 2 ^ 17))

/-- FL after a comparison: N, Z, C and V from the result. -/
def cmpFl (fl : Word) (d : Nat) : Word := applyFlags fl (some (d.testBit 0)) (some (d.testBit 1)) (some (d.testBit 2)) (some (d.testBit 3))

/-- The result of a floating-point operation is written where its row says. -/
def Thread.putFp (x : Thread) (op rd d : Nat) : Thread :=
  if op = 0x8A then { x with fl := cmpFl x.fl d }
  else if op = 0x8C ∨ op = 0x8D ∨ op = 0x92 ∨ op = 0x93 then x.setW rd (wd d)
  else x.setF rd (wd d)

/-- The floating-point instructions. -/
def xFp (s : State) (c n : Nat) (o : Ins) : XRes :=
  let x := s.thr c n
  let op := o.op
  match rmoMode (bits (iAM o.w) 1 3) (flRM x.fl) with
  | none => .trap s 2
  | some rm =>
    let fromW := op = 0x8E || op = 0x8F || op = 0x91
    let a := if fromW then x.getW (iRA o.w) else x.getF (iRA o.w)
    let r := fpOp op (bit (iAM o.w) 0) rm a (x.getF (iRB o.w)) (x.getF (iRD o.w))
    match fpTrap r.fl (flEn x.fl) with
    | some k => .trap (s.tarxFp c n o r.fl rm) k
    | none =>
      let x := x.putFp op (iRD o.w) r.d
      .done (s.setThr c n { x with fl := x.fl ||| wd (r.fl * 2 ^ 24) })

/-! ### CRC, parity, MISR, custom opcodes, pattern helpers (06 R158, R165; 09 R234 to R239) -/

/-- CRC32C, CRC32 and CRC16. -/
def xCrc (s : State) (c n : Nat) (o : Ins) : XRes :=
  let x := s.thr c n
  .done (s.setThr c n (x.setW (iRD o.w) (crcOp o.op (o.a x) (o.b x) (iAM o.w % 4))))

/-- PAR, PARB, BREV, BREVW and BREVB. -/
def xBit (s : State) (c n : Nat) (o : Ins) : XRes :=
  let x := s.thr c n
  .done (s.setThr c n (x.setW (iRD o.w) (bitOp o.op (o.a x))))

/-- MISR and MISRW: state c, data a, polynomial b. -/
def xMisr (s : State) (c n : Nat) (o : Ins) : XRes :=
  let x := s.thr c n
  .done (s.setThr c n (x.setW (iRD o.w) (misr (if o.op = 0xA9 then 32 else 64) (o.c x) (o.a x) (o.b x))))

/-- X0 to X15 by the active decode table (06 R165); NROWS 0 is refused at decode. -/
def xCustom (s : State) (c n : Nat) (o : Ins) : XRes :=
  let x := s.thr c n
  let r := dtRun s.dtActive (o.op - 0xE0) (o.a x) (o.b x) (o.c x)
  let x := x.setW (iRD o.w) r.1
  .done (s.setThr c n (match r.2 with | some v => { x with pl := v } | none => x))

/-- SCRM and DBKG. -/
def xPattern (s : State) (c n : Nat) (o : Ins) : XRes :=
  let x := s.thr c n
  let b := o.b x
  let lim := if o.op = 0xD0 then 8 else 16
  if lim ≤ b.toNat then .trap s 2
  else .done (s.setThr c n (x.setW (iRD o.w) (if o.op = 0xD0 then s.scrm c b.toNat (o.a x) else s.dbkg c b.toNat (o.a x))))

/-- FACC. -/
def xFacc (s : State) (c n : Nat) (o : Ins) : XRes :=
  let x := s.thr c n
  match s.faccFault c (iAM o.w % 4) (o.a x) (o.b x) with
  | some k => .trap s k
  | none =>
    let r := s.facc c (iAM o.w % 4) (o.a x) (o.b x)
    .done (r.2.setThr c n (x.setW (iRD o.w) r.1))

/-- FLOG. -/
def xFlog (s : State) (c n : Nat) (o : Ins) : XRes :=
  let x := s.thr c n
  if 4 ≤ iAM o.w ∨ iIMM o.w ≠ 0 ∨ wbits (o.b x) 48 16 ≠ 0 then .trap s 2
  else
    let r := s.flog c (iAM o.w % 4) (o.a x) (o.b x) (o.c x)
    .done (r.2.setThr c n (x.setW (iRD o.w) r.1))

/-- VRDT, directly to the link (09 R230, R232). -/
def xVrdt (s : State) (c n : Nat) (o : Ins) : XRes :=
  let x := s.thr c n
  let l := (o.b x).toNat
  if iRD o.w ≠ 0 ∨ iAM o.w ≠ 0 ∨ iIMM o.w ≠ 0 then .trap s 2
  else if !vrdtOk (o.a x) (o.b x) then .trap s 2
  else if !s.clUp l then .trap s 0x11
  else if s.verdictRoom l then .done (s.sendVerdict l (verdictVal (o.a x)) false)
  else .retry s .verdict

/-! ### Memory (06 R143 to R145, R154; 07 R185) -/

/-- The fault of a constant-time access (07 R185): it must lie in the own scratchpad, in banks that are ON. -/
def State.ctFault (s : State) (c a size : Nat) : Option Nat :=
  match s.region (reqTile (thrReq c 0)) a with
  | .spad t o =>
    if t = c ∧ o + size ≤ 0x200000 ∧ s.bankMode t (bankOf o) = 0 ∧ s.bankMode t (bankOf (o + size - 1)) = 0 then none else some 3
  | _ => some 3

/-- The fault of a thread's access at its issue; an atomic must be to memory (10 R250). -/
def State.thrFault (s : State) (c n a size : Nat) (op : MemOp) : Option Nat :=
  if (s.thr c n).ct then s.ctFault c a size
  else if op = .add ∨ op = .swap then
    match s.region (reqTile (thrReq c n)) a with
    | .spad _ _ | .dram _ | .mailbox _ => s.accessFault (thrReq c n) a size true
    | _ => some 3
  else s.accessFault (thrReq c n) a size (op = .write)

/-- Is an address in memory that requests reach: a scratchpad, LPDDR4X or the mailbox? -/
def State.isMemory (s : State) (c a : Nat) : Bool :=
  match s.region (reqTile (thrReq c 0)) a with
  | .spad _ _ | .dram _ | .mailbox _ => true
  | _ => false

/-- The request of a thread, granted no earlier than 2 cycles after issue, 5 in constant-time mode (10 R248). -/
def State.thrMemReq (s : State) (c n a size data : Nat) (op : MemOp) : MemReq :=
  let x := s.thr c n
  ⟨s.seqNo, thrReq c n, op, a, size, 0, data % 256 ^ size, x.ct, x.cls, s.seqNo, s.now + (if x.ct then 5 else 2)⟩

/-- A load or atomic that starts: its shadow opens (06 R144). `pre` is the thread before the instruction, `x` after base writeback. -/
def State.startLoad (s : State) (c n : Nat) (o : Ins) (pre x : Thread) (a size : Nat) (ext : Ext) (d : Dest) (op : MemOp) (data : Nat) : XRes :=
  let m := s.thrMemReq c n a size data op
  let k := s.partsOf (reqTile m.who) a size
  let l : Load := ⟨s.seqNo, o.pc, [d], size, ext, k, 0, [], 0, false, 0, s.now, pre.snap⟩
  let x := { x with loads := x.loads ++ [l], outst := x.outst + (if op = .read then 0 else k) }
  match (s.bump.setThr c n x).startReq m with
  | .sent s => .done s
  | .full => .stall
  | .fenced => .trap s 0x12

/-- A load from a register window, graph memory or another window: its value is read as it issues, and lands as a load's (06 R144). -/
def State.startIoLoad (s : State) (c n : Nat) (o : Ins) (pre x : Thread) (a size : Nat) (ext : Ext) (d : Dest) : XRes :=
  match s.ioLoad (thrReq c n) (reqTile (thrReq c n)) a size with
  | .error k => .trap s k
  | .ok (v, s) =>
    let l : Load := ⟨s.seqNo, o.pc, [d], size, ext, 0, 0, [loadVal ext size v], 0, false, 0, s.now, pre.snap⟩
    .done (s.bump.setThr c n { x with loads := x.loads ++ [l] })

/-- LDB to LDD, FLDS and FLDD. -/
def xLoad (s : State) (c n : Nat) (o : Ins) : XRes :=
  let pre := s.thr c n
  match loadKind o.op with
  | none => .trap s 1
  | some (size, ext, isF) =>
    if !o.amOk (!isF) then .trap s 2
    else
      let (a, x) := o.ea pre c size
      let d := if isF then Dest.f (iRD o.w) else Dest.w (iRD o.w)
      match s.thrFault c n a size .read with
      | some k => .trap s k
      | none => if s.isMemory c a then s.startLoad c n o pre x a size ext d .read 0 else s.startIoLoad c n o pre x a size ext d

/-- The fault code of a refused register write (00 R8, R402). -/
def refuseCode (cause : Nat) : Nat := if cause = 1 ∨ cause = 3 then 3 else 2

/-- STB to STD, FSTS and FSTD. -/
def xStore (s : State) (c n : Nat) (o : Ins) : XRes :=
  let pre := s.thr c n
  match storeKind o.op with
  | none => .trap s 1
  | some (size, isF) =>
    if !o.amOk false then .trap s 2
    else
      let (a, x) := o.ea pre c size
      let v := if isF then pre.getF (iRD o.w) else pre.getW (iRD o.w)
      match s.thrFault c n a size .write with
      | some k => .trap (s.noteFault (reqTile (thrReq c n)) a k) k
      | none =>
        if s.isMemory c a then
          let m := s.thrMemReq c n a size v.toNat .write
          let x := { x with outst := x.outst + s.partsOf (reqTile m.who) a size }
          match (s.bump.setThr c n x).startReq m with
          | .sent s => .done s
          | .full => .stall
          | .fenced => .trap s 0x12
        else
          match (s.setThr c n x).ioWrite (thrReq c n) (reqTile (thrReq c n)) a v with
          | .ok s => .done s
          | .refuse k _ => .trap s (refuseCode k)

/-- AADD and ASWP (06 R154). -/
def xAtomic (s : State) (c n : Nat) (o : Ins) : XRes :=
  let x := s.thr c n
  let a := (o.a x).toNat % 2 ^ 48
  if iAM o.w ≠ 0 ∨ iIMM o.w ≠ 0 ∨ a % 8 ≠ 0 then .trap s 2
  else match s.thrFault c n a 8 (accessOp o.op) with
    | some k => .trap s k
    | none => s.startLoad c n o x x a 8 .zero (.w (iRD o.w)) (accessOp o.op) (x.getW (iRB o.w)).toNat

/-- Is a range of `len` bytes one that the DMA engine may copy to or from (06 R154; 10 R244, R253)? -/
def State.dmaRange (s : State) (c a len : Nat) (write : Bool) : Bool :=
  let own := reqTile (.dma c 0)
  match s.region own a with
  | .spad t o =>
    decide (o + len ≤ 0x200000) && (List.range (min (len / 8) 32 + 1)).all fun i => decide (s.bankMode t (bankOf (min (o + 8 * i) (o + len - 1))) ≠ 2)
  | .dram _ => decide (s.accessFault (.dma c 0) a len write ≠ some 3)
  | .mailbox o => decide (o + len ≤ 4096)
  | .graph _ i => !write && decide (8 * i + a % 8 + len ≤ 0x20000)
  | _ => false

/-- DMA (06 R154): the engine takes the copy, or the thread tries again each beat. -/
def xDma (s : State) (c n : Nat) (o : Ins) : XRes :=
  let x := s.thr c n
  let k := iIMM o.w % 65536
  let a := (o.a x).toNat % 2 ^ 48
  let b := (o.b x).toNat % 2 ^ 48
  if k = 0 ∨ 65536 ≤ iIMM o.w ∨ iAM o.w ≠ 0 then .trap s 2
  else if x.ct ∨ 64 ≤ c then .trap s 3
  else if !s.dmaRange c a (8 * k) false || !s.dmaRange c b (8 * k) true then .trap s 3
  else if 16 ≤ (s.tile c).dma.length then .retry s .dma
  else .done (s.bump.onTile c fun t => { t with dma := t.dma ++ [⟨s.seqNo, n, a, b, k⟩] })

/-- LEA (06 R154). -/
def xLea (s : State) (c n : Nat) (o : Ins) : XRes :=
  let x := s.thr c n
  if (5 ≤ iAM o.w ∧ iAM o.w ≤ 7) ∨ !o.amOk false then .trap s 2
  else .done (s.setThr c n (x.setW (iRD o.w) (wd (o.ea x c 8).1)))

/-! ### Branch, loop and control (06 R148 to R150, R156; 05 R123 to R125) -/

/-- A branch to a target outside graph memory traps (05 R119). -/
def xGo (s : State) (z : Int) : XRes := if inGraph z then .jump s z.toNat else .trap s 3

/-- B. -/
def xB (s : State) (c n : Nat) (o : Ins) : XRes :=
  if 16 ≤ iRD o.w then .trap s 2
  else if !inGraph o.target then .trap s 3
  else if condHolds (iRD o.w) (s.thr c n).fl then xGo s o.target else .done s

/-- CBZ and CBNZ. -/
def xCb (s : State) (c n : Nat) (o : Ins) : XRes :=
  if !inGraph o.target then .trap s 3
  else if decide (o.a (s.thr c n) = 0) == decide (o.op = 0x61) then xGo s o.target else .done s

/-- JAL. -/
def xJal (s : State) (c n : Nat) (o : Ins) : XRes :=
  if inGraph o.target then .jump (s.onThr c n fun x => x.setW (iRD o.w) (wd (o.pc + 1))) o.target.toNat else .trap s 3

/-- JR. -/
def xJr (s : State) (c n : Nat) (o : Ins) : XRes :=
  let a := (o.a (s.thr c n)).toNat
  if a ≤ 16383 then .jump s a else .trap s 3

/-- LOOP (06 R149, R150). -/
def xLoop (s : State) (c n : Nat) (o : Ins) : XRes :=
  let x := s.thr c n
  let l := iRD o.w
  let imm := iIMM o.w
  let last := o.pc + (if o.im then imm % 16384 else imm)
  let cnt := if o.im then imm / 16384 else (o.a x).toNat
  if 4 ≤ l ∨ (o.im ∧ iRA o.w ≠ 0) ∨ (!o.im ∧ (imm = 0 ∨ 16383 < imm)) then .trap s 2
  else if 16383 < last then .trap s 3
  else if 2 ^ 32 ≤ cnt then .trap s 2
  else
    let s := s.setThr c n { x with ls := tput x.ls l (o.pc + 1), le := tput x.le l last, lc := tput x.lc l cnt }
    if cnt = 0 then .next s (last + 1) else .done s

/-- FORK (05 R123, R124). -/
def xFork (s : State) (c n : Nat) (o : Ins) : XRes :=
  let x := s.thr c n
  let a := (o.a x).toNat
  if 16383 < a then .trap s 3
  else match s.freeThread c with
    | some k => .done ((s.forkChild c n k a (o.b x)).onThr c n fun y => y.setW (iRD o.w) (wd k))
    | none =>
      if o.s then .done (s.setThr c n (x.setW (iRD o.w) (wd (2 ^ 64 - 1)))) else .wait (s.inc F.FORK_HELD_COUNT c 0) .pool

/-- JOIN (05 R125). -/
def xJoin (s : State) (c n : Nat) (_o : Ins) : XRes :=
  if (s.thr c n).jcnt = 0 then .ended (s.endThread c n) else .wait s .join

/-- EXIT (05 R125). -/
def xExit (s : State) (c n : Nat) (_o : Ins) : XRes := .ended (s.endThread c n)

/-! ### Tokens, queues and channels (06 R159; 02 R24; 03 R57, R75 to R81) -/

/-- Does a register field name four consecutive registers (06 Tokens, queues and channels)? -/
def quadOk (k : Nat) : Bool := 1 ≤ k && k ≤ 28

/-- A sent packet completes the instruction; without room on the mesh it cannot issue; a fenced destination sends it to the return queue (11 R275, R283). -/
def Inj.res (i : Inj) (g : State → State) : XRes :=
  match i with
  | .sent s => .done (g s)
  | .fenced s => .done (g s)
  | .full => .stall

/-- The own tile of a core, if it is one. -/
def ownTile (c : Nat) : Option Nat := if c < 64 then some c else none

/-- EMIT. -/
def xEmit (s : State) (c n : Nat) (o : Ins) : XRes :=
  let x := s.thr c n
  let k := (x.tok4 (iRA o.w)).clean
  let lane := bit (iAM o.w) 0
  let alloc := bit (iAM o.w) 1
  let go := fun (s : State) (k : Token) (d : Nat) =>
    (s.sendTok (ownTile c) (s.routerOf c) false (if lane then .lane k.lane else .node k.tile) k).res
      fun s => s.onThr c n fun y => y.setW (iRD o.w) (wd d)
  if !quadOk (iRA o.w) then .trap s 2
  else if k.rsvd ∨ (lane ∧ !alloc ∧ !k.ord) then .trap s 2
  else if alloc then
    match s.laneAlloc c k.lane with
    | .fails => .trap s 3
    | .wait => .wait s (.credit k.lane)
    | .num d s => go s { k with tag := wset k.tag 0 1 1, dst := wset k.dst 12 24 d } d
  else go s k 0

/-- ALLOC (03 R55, R62). -/
def xAlloc (s : State) (c n : Nat) (o : Ins) : XRes :=
  let a := (o.a (s.thr c n)).toNat
  if 4096 ≤ a then .trap s 2
  else match s.laneAlloc c a with
    | .fails => .trap s 3
    | .wait => .wait s (.credit a)
    | .num d s => .done (s.onThr c n fun y => y.setW (iRD o.w) (wd d))

/-- QPUSH. -/
def xQpush (s : State) (c n : Nat) (o : Ins) : XRes :=
  let x := s.thr c n
  let b := (o.b x).toNat
  let k := (x.tok4 (iRA o.w)).clean
  let t := b / 256
  let q := b % 256
  if !quadOk (iRA o.w) then .trap s 2
  else if 16384 ≤ b ∨ k.rsvd then .trap s 2
  else if t = c then
    match s.qRoom t q with
    | none => .trap s 3
    | some true => .done (s.qPut t q k)
    | some false => .wait s (.qFull t q)
  else (s.inject (s.routerOf c) false (mkPacket 0 (k.cls + 1) (s.routerOf t) false (s.routerOf c) false 1 (.tok k (.queue t q) c))).res id

/-- A popped entry lands as a load's data (06 R144). -/
def State.popLoad (s : State) (c n : Nat) (o : Ins) (pre x : Thread) (k : Token) : State :=
  let d := iRD o.w
  let l : Load := ⟨s.seqNo, o.pc, [.w d, .w (d + 1), .w (d + 2), .w (d + 3)], 32, .zero, 0, 0, [k.tag, k.dst, k.val, k.aux], 0, true, 0, s.now, pre.snap⟩
  s.bump.setThr c n { x with loads := x.loads ++ [l] }

/-- QPOP and QPOPNB (03 R76, R77; 06 R159). -/
def xQpop (s : State) (c n : Nat) (o : Ins) : XRes :=
  let x := s.thr c n
  let q := (o.a x).toNat
  if !quadOk (iRD o.w) then .trap s 2
  else if 256 ≤ q then .trap s 2
  else if 64 ≤ c ∨ !s.popAllowed c q then .trap s 3
  else match s.threadPop c q with
    | (some k, s') =>
      let y := s'.thr c n
      .done (s'.popLoad c n o x (if o.op = 0xB7 then { y with fl := setFlag y.fl 1 false } else y) k)
    | (none, s') =>
      if o.op = 0xB6 then .wait s (.qEmpty q)
      else .done (s'.popLoad c n o x { x with fl := setFlag x.fl 1 true } ⟨0, 0, 0, 0⟩)

/-- A channel operation that crosses the mesh on the bulk network (03 R80): the thread waits for its answer. -/
def State.sendChan (s : State) (c n t q : Nat) (commit : Bool) (k : Token) : XRes :=
  let len := if commit then 1 else 2
  match s.inject (s.routerOf c) false (mkPacket 1 ((s.thr c n).cls + 1) (s.routerOf t) false (s.routerOf c) false len (.chan commit t q c n k)) with
  | .sent s => .wait s (.trip t q)
  | .fenced _ => .trap s 0x12
  | .full => .stall

/-- CHW. -/
def xChw (s : State) (c n : Nat) (o : Ins) : XRes :=
  let x := s.thr c n
  let b := (o.b x).toNat
  let k := (x.tok4 (iRA o.w)).clean
  if !quadOk (iRA o.w) then .trap s 2
  else if 16384 ≤ b ∨ k.rsvd then .trap s 2
  else if b / 256 = c then
    match s.chanWrite c (b % 256) c n k with
    | .done d s => .done (s.onThr c n fun y => y.setW (iRD o.w) d)
    | .wait w s => .wait s w
    | .fails code s => .trap s code
  else s.sendChan c n (b / 256) (b % 256) false k

/-- CHC. -/
def xChc (s : State) (c n : Nat) (o : Ins) : XRes :=
  let b := (o.b (s.thr c n)).toNat
  if 16384 ≤ b then .trap s 2
  else if b / 256 = c then
    match s.chanCommit c (b % 256) c n with
    | .done _ s => .done s
    | .wait w s => .wait s w
    | .fails code s => .trap s code
  else s.sendChan c n (b / 256) (b % 256) true ⟨0, 0, 0, 0⟩

/-! ### Timers (05 R126, R127; 06 R159) -/

/-- Handle of an entry: number at [9:0], generation at [15:10]. -/
def handleOf (num gen : Nat) : Nat := num + gen % 64 * 1024

/-- Arms a timer on a core's delay list: the handle, or none when all 1,024 entries are in use. -/
def State.armTimer (s : State) (c delay : Nat) (w : TimerFor) : Option (Nat × State) :=
  let t := s.tile c
  match (List.range 1024).find? fun k => !(t.delay.any fun d => d.num = k) with
  | none => none
  | some k =>
    let g := tget t.gens 0 k
    let d : Timer := ⟨k, g, (s.beat + delay) % 2 ^ 48, s.seqNo, w⟩
    some (handleOf k g, s.bump.setTile c { t with delay := t.delay ++ [d], gens := tput t.gens k ((g + 1) % 64) })

/-- TMR in strand form: a sleep, or an armed timer. -/
def xTmr (s : State) (c n : Nat) (o : Ins) : XRes :=
  let a := (o.a (s.thr c n)).toNat
  if !o.s ∧ iRD o.w ≠ 0 then .trap s 2
  else if 2 ^ 32 ≤ a then .trap s 2
  else match s.armTimer c a (if o.s then .event n else .sleep n) with
    | none => .retry s .timer
    | some (h, s) => if o.s then .done (s.onThr c n fun y => y.setW (iRD o.w) (wd h)) else .wait s (.timer h)

/-- The cancel of a handle (05 R127): the status and the state after it. -/
def State.cancelTimer (s : State) (c h : Nat) : Nat × State :=
  let t := s.tile c
  match takeFirst (fun d => decide (handleOf d.num d.gen = h)) t.delay with
  | some (d, r) =>
    let s := s.setTile c { t with delay := r }
    (0, if timerPast s.beat d.deadline then s.inc F.CANCEL_PRE_COUNT c 0 else s)
  | none =>
    if (t.ready ++ t.c0q).any fun k => k.timer = some h then
      (1, (s.dropTasks c fun k => k.timer = some h).inc F.CANCEL_POST_COUNT c 0)
    else (2, s)

/-- TCAN. -/
def xTcan (s : State) (c n : Nat) (o : Ins) : XRes :=
  let a := (o.a (s.thr c n)).toNat
  if 65536 ≤ a then .trap s 2
  else
    let r := s.cancelTimer c a
    .done (r.2.onThr c n fun y => y.setW (iRD o.w) (wd r.1))

/-! ### Lock, event and system (06 R162, R163; 12 R314, R315, R322) -/

/-- FENCE completes when it issues; until then it is not issuable. -/
def xFence (s : State) (_c _n : Nat) (o : Ins) : XRes := if 3 ≤ iAM o.w then .trap s 2 else .done s

/-- A lock request to its group; the result comes back (12 R322). -/
def State.sendLock (s : State) (c n lk : Nat) (op : LockOp) : XRes :=
  let g := lk / 64 % 64
  .retry (s.bump.onTile g fun t => { t with lockq := t.lockq ++ [⟨op, lk % 64, c, n, decide (g ≠ c), s.seqNo⟩] }) .lock

/-- LKACQ, LKTRY and LKREL. -/
def xLock (s : State) (c n : Nat) (o : Ins) : XRes :=
  s.sendLock c n (wbits (o.a (s.thr c n)) 0 12) (match o.op with | 0xC1 => .acq | 0xC2 => .try_ | _ => .rel)

/-- LKCAS. -/
def xLkcas (s : State) (c n : Nat) (o : Ins) : XRes :=
  let x := s.thr c n
  s.sendLock c n (wbits (o.a x) 0 12) (.cas (o.c x) (o.b x))

/-- WFE: the latch is read and cleared, or the thread waits for its first write (12 R314). -/
def xWfe (s : State) (c n : Nat) (o : Ins) : XRes :=
  let v := s.reg .TEVT c n
  if v = 0 then .wait s .wfe else .done ((s.setReg .TEVT c n 0).onThr c n fun x => x.setW (iRD o.w) v)

/-- SEV. -/
def xSev (s : State) (c n : Nat) (o : Ins) : XRes :=
  let a := (o.a (s.thr c n)).toNat
  if 1024 ≤ a then .trap s 2 else .done (s.post (.sev (a / 16) (a % 16) c n))

/-- A special register's value (06 R140). -/
def State.sreg (s : State) (c n pc k : Nat) : Option Word :=
  let x := s.thr c n
  if k = 0 then some x.fl else if k = 1 then some x.ph else if k = 2 then some x.pl
  else if 4 ≤ k ∧ k ≤ 7 then some (wd (tget x.ls 0 (k - 4)))
  else if 8 ≤ k ∧ k ≤ 11 then some (wd (tget x.le 0 (k - 8)))
  else if 12 ≤ k ∧ k ≤ 15 then some (wd (tget x.lc 0 (k - 12)))
  else match k with
    | 0x10 => some (wd pc)
    | 0x11 => some (wd (n + c % 64 * 16))
    | 0x12 => some (wd x.ctx)
    | 0x13 => some s.slate
    | 0x14 => some (wd s.beat)
    | 0x15 => some (wd s.devnum)
    | _ => none

/-- MFSR. -/
def xMfsr (s : State) (c n : Nat) (o : Ins) : XRes :=
  if 256 ≤ iIMM o.w then .trap s 2
  else match s.sreg c n o.pc (iIMM o.w) with
    | some v => .done (s.onThr c n fun x => x.setW (iRD o.w) v)
    | none => .trap s 2

/-- A special register written, where it is RW and the value is legal (06 R140). -/
def Thread.setSreg (x : Thread) (k : Nat) (v : Word) : Except Nat Thread :=
  if k = 0 then (if flReserved v then .error 2 else .ok { x with fl := v })
  else if k = 1 then .ok { x with ph := v }
  else if k = 2 then .ok { x with pl := v }
  else if 4 ≤ k ∧ k ≤ 7 then (if 2 ^ 14 ≤ v.toNat then .error 2 else .ok { x with ls := tput x.ls (k - 4) v.toNat })
  else if 8 ≤ k ∧ k ≤ 11 then (if 2 ^ 14 ≤ v.toNat then .error 2 else .ok { x with le := tput x.le (k - 8) v.toNat })
  else if 12 ≤ k ∧ k ≤ 15 then (if 2 ^ 32 ≤ v.toNat then .error 2 else .ok { x with lc := tput x.lc (k - 12) v.toNat })
  else if 0x10 ≤ k ∧ k ≤ 0x15 then .error 3
  else .error 2

/-- MTSR. -/
def xMtsr (s : State) (c n : Nat) (o : Ins) : XRes :=
  let x := s.thr c n
  if 256 ≤ iIMM o.w then .trap s 2
  else match x.setSreg (iIMM o.w) (o.a x) with
    | .ok x => .done (s.setThr c n x)
    | .error k => .trap s k

/-- RETH (06 R163; 05 R119): after the PC trap it raises fault 0x03. -/
def xReth (s : State) (c n : Nat) (o : Ins) : XRes :=
  if 2 ≤ iIMM o.w then .trap s 2
  else if (s.thr c n).inh = false ∨ s.fget F.TEPC_PCX c n = 1 then .trap s 3
  else
    let e := s.fget F.TEPC_EPC c n
    let pc := if iIMM o.w = 0 then e else e + s.insLen c e
    .next (s.onThr c n fun x => x.leaveHandler pc) pc

/-- NOP. -/
def xNop (s : State) (_c _n : Nat) (_o : Ins) : XRes := .done s

/-! ### The table of meanings -/

/-- Meanings of the opcodes 0x00 to 0x7F in strand form. -/
def xLow (op : Nat) : State → Nat → Nat → Ins → XRes :=
  if op = 0x39 then xSetc
  else if op ≤ 0x1F then xInt
  else if op ≤ 0x23 then xMulAcc
  else if op = 0x24 then xInt
  else if op ≤ 0x27 then xProd
  else if op ≤ 0x2B then xDset
  else if op = 0x2C then xDstep
  else if op ≤ 0x2E then xDfin
  else if op < 0x40 then xInt
  else if (loadKind op).isSome then xLoad
  else if (storeKind op).isSome then xStore
  else match op with
    | 0x50 => xAtomic
    | 0x51 => xAtomic
    | 0x52 => xDma
    | 0x53 => xLea
    | 0x60 => xB
    | 0x61 => xCb
    | 0x62 => xCb
    | 0x63 => xJal
    | 0x64 => xJr
    | 0x65 => xLoop
    | 0x66 => xFork
    | 0x67 => xJoin
    | _ => xExit

/-- Meanings of the opcodes 0x80 to 0xFF in strand form. -/
def xHigh (op : Nat) : State → Nat → Nat → Ins → XRes :=
  if op < 0xA0 then xFp
  else if op ≤ 0xA2 then xCrc
  else if op ≤ 0xA7 then xBit
  else if op ≤ 0xA9 then xMisr
  else if 0xE0 ≤ op then xCustom
  else match op with
    | 0xB0 => xEmit
    | 0xB1 => xAlloc
    | 0xB5 => xQpush
    | 0xB6 => xQpop
    | 0xB7 => xQpop
    | 0xB8 => xChw
    | 0xB9 => xChc
    | 0xBB => xTmr
    | 0xBC => xTcan
    | 0xC0 => xFence
    | 0xC1 => xLock
    | 0xC2 => xLock
    | 0xC3 => xLock
    | 0xC4 => xLkcas
    | 0xC5 => xWfe
    | 0xC6 => xSev
    | 0xC7 => xMfsr
    | 0xC8 => xMtsr
    | 0xC9 => xReth
    | 0xD0 => xPattern
    | 0xD1 => xPattern
    | 0xD2 => xFacc
    | 0xD3 => xFlog
    | 0xD4 => xVrdt
    | _ => xNop

/-- The meaning of an opcode in strand form. -/
def meaningOf (op : Nat) : State → Nat → Nat → Ins → XRes := if op < 0x80 then xLow op else xHigh op

end Sys2Proof.Machine
end

