-- ==== Sys2Proof/Machine/Issue.lean ====
section
/-! DEFINITION. The issue of strand instructions: what makes a thread issuable, the slot, the completion of an instruction, of a wait and of a retry (05 R119 to R122; 06 R137, R144 to R150; 07 R184; 13 R357). -/
namespace Sys2Proof.Machine

/-! ### What holds an instruction back -/

/-- Does the instruction release: emit a token, push to a queue, commit a message, send a verdict, end a repair block, or write a doorbell (06 R161)? -/
def State.releases (s : State) (c n : Nat) (o : Ins) : Bool :=
  let op := o.op
  op = 0xB0 || op = 0xB5 || op = 0xB9 || op = 0xD4 || (op = 0xD2 && iAM o.w % 4 = 3) ||
  (op = 0x4B && match s.region (reqTile (thrReq c n)) (o.ea (s.thr c n) c 8).1 with
    | .treg _ off => match findKind [.QDB] off with | some _ => true | none => false
    | _ => false)

/-- May the instruction issue while a load of the thread has not finished? Its effect must be one that a fault of the load can take back (06 R145): registers, a load, or a store or atomic that waits at a bank of this tile or at the memory controller. -/
def State.shadowOk (s : State) (c n : Nat) (o : Ins) : Bool :=
  let op := o.op
  if accessSize op ≠ 0 then
    match s.region (reqTile (thrReq c n)) (o.ea (s.thr c n) c (accessSize op)).1 with
    | .spad t _ => accessOp op = .read || t = c
    | .dram _ => true
    | .mailbox _ => accessOp op = .read
    | _ => false
  else if op < 0xB0 then op ≠ 0x52 && !(0x66 ≤ op && op ≤ 0x68)
  else op = 0xC0 || op = 0xC7 || op = 0xC8 || op = 0xCA || op = 0xD0 || op = 0xD1 || decide (0xE0 ≤ op)

/-- Does a request of the thread wait at a bank of its tile? -/
def State.ownPending (s : State) (c n : Nat) : Bool := s.bankReqs.any fun m => m.who = thrReq c n

/-- Is the instruction held by the thread's own accesses: a FENCE (06 R162), a release (R161), or an MTSR that sets CT (07 R184)? -/
def State.ordered (s : State) (c n : Nat) (o : Ins) : Bool :=
  let x := s.thr c n
  let pend := x.loads.any fun l => !l.arrived
  if o.op = 0xC0 then
    match iAM o.w with
    | 0 => x.outst ≠ 0 || pend
    | 1 => x.outst ≠ 0
    | 2 => pend
    | _ => false
  else if o.op = 0xC8 ∧ iIMM o.w = 0 ∧ flCT (o.a x) ∧ !flCT x.fl then s.ownPending c n
  else s.releases c n o && x.outst ≠ 0

/-- Is an opcode forbidden at the end of an active loop level (06 R150)? -/
def leBad (op : Nat) : Bool := (0x60 ≤ op && op ≤ 0x65) || op = 0x67 || op = 0x68 || op = 0xC9

/-- Does an active level end at this PC? -/
def Thread.atLE (x : Thread) (pc : Nat) : Bool := [0, 1, 2, 3].any fun l => tget x.lc 0 l ≠ 0 && tget x.le 0 l = pc

/-- A trap waits until the thread's earlier loads have finished (06 R145). -/
def State.trapWhen (s0 s : State) (c n code : Nat) : XRes :=
  if (s0.thr c n).loads.any (fun l => !l.arrived) then .stall else .trap s code

/-- The decoded instruction at the thread's PC, or the fault of decode; a custom opcode without rows is undefined, which comes before every fault of a field (06 R134, R137, R165, R170). -/
def State.decodeAt (s : State) (c n : Nat) : Except Nat Ins :=
  let op := nOpc (s.gword c (s.thr c n).pc)
  if 0xE0 ≤ op ∧ dtRows s.dtActive (op - 0xE0) = 0 then .error 1 else s.decode c (s.thr c n).pc

/-- The meaning of a decoded instruction, with the check of R150 first. -/
def State.meaning (s : State) (c n : Nat) (o : Ins) : XRes :=
  if leBad o.op ∧ (s.thr c n).atLE o.pc then .trap s 2 else meaningOf o.op s c n o

/-- One attempt to issue the instruction at the thread's PC: the Cox, the order of accesses, and the instruction itself. -/
def State.attempt (s : State) (c n : Nat) : XRes :=
  let x := s.thr c n
  if x.loads.any fun l => decide (2 ≤ l.passed) || (l.arrived && l.code ≠ 0) then .stall
  else if x.chanLost then s.trapWhen s c n 0x0F
  else match s.decodeAt c n with
    | .error k => s.trapWhen s c n k
    | .ok o =>
      match s.verdict c x.act (s.chargeFor c n o) with
      | .held b => .held b
      | .never => s.trapWhen s c n 0x0B
      | .ok =>
        if s.ordered c n o then .stall
        else if (x.loads.any fun l => !l.arrived) ∧ !s.shadowOk c n o then .stall
        else match s.meaning c n o with
          | .trap s' k => s.trapWhen s' c n k
          | r => r

/-- May a thread issue, apart from its instruction: READY, nothing pending of its last one, its domain on, and no pre-emption, halt or breakpoint due (05 R120; 12 R311; 13 R357)? -/
def State.mayIssue (s : State) (c n : Nat) : Bool :=
  let x := s.thr c n
  x.st = .ready && x.retry.isNone && decide (x.readyAt ≤ s.now) && decide (x.pc ≤ 16383) && s.active c && !s.canPreempt c n &&
  !(x.haltReq ≠ 0 && s.atOpportunity c n) &&
  !(s.fget F.DBGT_BEN c n = 1 && s.fget F.DBGT_BPC c n = x.pc && x.stepLeft = 0 && s.atOpportunity c n)

/-- Is the thread issuable (05 R120)? -/
def State.issuable (s : State) (c n : Nat) : Bool :=
  s.mayIssue c n && match s.attempt c n with | .stall => false | .held _ => false | _ => true

/-- The thread that takes the issue slot of this cycle: the home thread, or the issuable thread of highest EPRI, least recent issue, lowest number (05 R120). -/
def State.winner (s : State) (c : Nat) : Option Nat :=
  if s.issuable c (s.now % 16) then some (s.now % 16)
  else
    let l := (List.range 16).filter fun k => s.issuable c k
    let top := l.foldl (fun m k => max m (s.thr c k).epri) 0
    minBy (fun k => (s.thr c k).lastIss) (l.filter fun k => (s.thr c k).epri = top)

/-! ### Completion -/

/-- The thread after an instruction has completed: shadows counted, the cycle of its next issue, CT's tail and the count of a STEP (06 R144, R147, R148; 07 R184; 13 R357). -/
def Thread.afterIns (x pre : Thread) (now occ : Nat) : Thread :=
  let old := fun (l : Load) => pre.loads.any fun k => k.id = l.id
  let loads := x.loads.map fun l => if old l then { l with passed := l.passed + 1 } else l
  let isLoad := x.loads.any fun l => !old l
  let at_ := loads.foldl (fun m l => if l.passed = 2 then max m (l.issued + (if pre.ct then 6 else 3)) else m) (now + occ)
  let left := if pre.stepLeft = 0 then 0 else if isLoad then 2 else pre.stepLeft - 1
  { x with loads := loads, readyAt := at_, ctTail := flCT pre.fl && !flCT x.fl, stepLeft := left,
           haltReq := if pre.stepLeft ≠ 0 ∧ left = 0 then 2 else x.haltReq }

/-- The instruction completes at its thread, unless the instruction itself ended or stopped the thread; `npc` moves the PC. -/
def State.finish (s : State) (c n : Nat) (pre : Thread) (occ : Nat) (npc : State → State) : State :=
  if (s.thr c n).st = .ready then
    ((npc (s.onThr c n fun x => x.afterIns pre s.now occ))).settle c n
  else s

/-- Cycles until the next instruction after one that does not branch: the occupancy; 3 after a branch in constant-time mode (06 R147; 07 R184). -/
def State.occOf (s : State) (pre : Thread) (o : Ins) : Nat :=
  if pre.ct ∧ 0x60 ≤ o.op ∧ o.op ≤ 0x64 then 3
  else occupancy o.op (bit (iAM o.w) 0) (dtRows s.dtActive (o.op - 0xE0))

/-- A thread enters WAIT in an instruction (05 R121). -/
def State.enterWait (s : State) (c n : Nat) (w : WaitFor) (iw : Word) : State :=
  s.bump.onThr c n fun x => { x with st := .wait, wait := w, since := s.seqNo, wres := none, iw := iw, retry := none, retryAt := s.now + 8 }

/-- The outcome of an instruction takes effect. `occ`: cycles until the next instruction after one in sequence. -/
def State.settleRes (s : State) (c n : Nat) (pre : Thread) (o : Ins) (occ : Nat) (r : XRes) : State :=
  match r with
  | .done s' => s'.finish c n pre occ fun s => s.advancePc c n o.pc (o.pc + o.len)
  | .jump s' pc => s'.finish c n pre 3 fun s => s.onThr c n fun x => x.jumpTo pc
  | .next s' pc => s'.finish c n pre occ fun s => (s.onThr c n fun x => { x with pc := pc }).pcCheck c n
  | .trap s' k => s'.trap c n k o.pc false
  | .wait s' w => s'.enterWait c n w o.w
  | .retry s' k => s'.onThr c n fun x => { x with retry := some k, retryAt := s.now + 8, iw := o.w }
  | .ended s' => s'
  | .stall => s
  | .held _ => s

/-- The instruction word at a thread's PC stands for itself when it does not decode. -/
def State.insAt (s : State) (c n : Nat) : Ins :=
  match s.decodeAt c n with
  | .ok o => o
  | .error _ => ⟨s.gword c (s.thr c n).pc, (s.thr c n).pc, false, 0, 1⟩

/-- What issue records: the charge, TISSUE, the cycle of the thread's and the core's last issue, and the context's dispatch (04 R97; 05 R120, R122; 08 R196). -/
def State.account (s : State) (c n : Nat) (ch : Charge) : State :=
  let x := s.thr c n
  let s := ((s.charge c x.act ch).inc F.TISSUE_COUNT c n).markDisp c x.ctx
  (s.setThr c n { x with lastIss := s.now, chanLost := false }).onTile c fun t => { t with lastIssue := some s.now }

/-- The charge of the instruction at a thread's PC; one that faults at decode takes its slot. -/
def State.chargeAt (s : State) (c n : Nat) : Charge :=
  match s.decodeAt c n with
  | .ok o => if (s.thr c n).chanLost then ⟨0, 1, 0, 0⟩ else if s.verdict c (s.thr c n).act (s.chargeFor c n o) = .ok then s.chargeFor c n o else ⟨0, 0, 0, 0⟩
  | .error _ => ⟨0, 1, 0, 0⟩

/-- The thread issues the instruction at its PC. -/
def State.perform (s : State) (c n : Nat) : State :=
  let o := s.insAt c n
  let s1 := s.account c n (s.chargeAt c n)
  let pre := s1.thr c n
  let r := if (s.thr c n).chanLost then .trap s1 0x0F
    else match s.decodeAt c n with
      | .error k => .trap s1 k
      | .ok o => if s.verdict c (s.thr c n).act (s.chargeFor c n o) = .never then .trap s1 0x0B else s1.meaning c n o
  s1.settleRes c n pre o (s1.occOf pre o) r

/-- The issue of an instruction that `p` describes: nothing happens unless the thread's next word is such an instruction, the thread takes the slot of this cycle, and the core has not issued in it. -/
def State.issue (s : State) (c n : Nat) (p : Word → Bool) : State :=
  if p (s.gword c (s.thr c n).pc) && s.mayIssue c n && (s.tile c).lastIssue ≠ some s.now then
    match s.attempt c n with
    | .held b => if b ∧ c < 64 then s.flagHeld c (s.thr c n).act else s
    | .stall => s
    | _ => if s.winner c = some n then s.perform c n else s
  else s

/-- Is the word an instruction of this opcode in a strand form that the opcode defines? -/
def isStrandOp (op : Nat) (w : Word) : Bool := nOpc w = op && decide (nMode w < 2) && formDefined op (nMode w)

/-! ### The end of a wait and of a retry -/

/-- The instruction that a waiting or retrying thread holds. -/
def Thread.heldIns (x : Thread) : Ins := ⟨x.iw, x.pc, false, 0, 1⟩

/-- A wake is dispatched: the waiting instruction completes, faults or is tried again (05 R121). None when it cannot go on now. -/
def State.resume (s : State) (c n : Nat) : Option State :=
  let x := s.thr c n
  let o := x.heldIns
  let s1 := (s.setThr c n { x with st := .ready, wait := .none, wres := none }).markDisp c x.ctx
  let fin := fun (s' : State) => some (s'.finish c n x 2 fun s => s.advancePc c n o.pc (o.pc + 1))
  let pend := x.loads.any fun l => !l.arrived
  if x.st ≠ .wait then none
  else match x.wres with
    | none => none
    | some (.status v) =>
      if o.op = 0x67 then some (s1.endThread c n) else fin (s1.onThr c n fun y => y.setW (iRD o.w) v)
    | some (.entry k) => fin (s1.popLoad c n o x (s1.thr c n) k)
    | some (.child k) => fin (s1.onThr c n fun y => y.setW (iRD o.w) (wd k))
    | some (.fails k) => if pend then none else some (s1.trap c n k o.pc false)
    | some .retry =>
      match s1.meaning c n o with
      | .stall => none
      | .trap s' k => if pend then none else some (s'.trap c n k o.pc false)
      | r => some (s1.settleRes c n x o 2 r)

/-- A READY thread whose instruction did not complete tries it again, one beat after the last try; it is not charged again (03 R78; 05 R126; 06 R154; 09 R232). -/
def State.retryIns (s : State) (c n : Nat) (k : RetryKind) : State :=
  let x := s.thr c n
  if x.st = .ready ∧ x.retry = some k ∧ x.retryAt ≤ s.now then
    let s1 := s.setThr c n { x with retry := none }
    s1.settleRes c n (s1.thr c n) x.heldIns 1 (s1.meaning c n x.heldIns)
  else s

/-- DMA_RETRY (06 R154). -/
def execDmaRetry (dt : Nat) (c : Sys2Proof.CoreId) (n : Sys2Proof.ThreadId) (s : State) : Host.Outcome State Fault Refusal :=
  .next ((s.advance dt).retryIns c.val n.val .dma)

/-- TIMER_ARM_RETRY (05 R126). -/
def execTimerArmRetry (dt : Nat) (c : Sys2Proof.CoreId) (n : Sys2Proof.ThreadId) (s : State) : Host.Outcome State Fault Refusal :=
  .next ((s.advance dt).retryIns c.val n.val .timer)

/-- VRDT_RETRY (09 R232). -/
def execVrdtRetry (dt : Nat) (c : Sys2Proof.CoreId) (n : Sys2Proof.ThreadId) (s : State) : Host.Outcome State Fault Refusal :=
  .next ((s.advance dt).retryIns c.val n.val .verdict)

/-- The result of a lock operation reaches its thread (12 R322, R324): the instruction completes or faults; a handoff wakes its waiter (R325). -/
def State.lockResult (s : State) (c n : Nat) : State :=
  match takeFirst (fun m => match m with | .lockRes d k _ _ _ => d = c && k = n | _ => false) s.ctl with
  | some (.lockRes _ _ d code wake, r) =>
    let s := { s with ctl := r }
    let x := s.thr c n
    if wake then s.wake c n (.status d)
    else if x.retry = some .lock ∧ x.st = .ready then
      let s := s.setThr c n { x with retry := none }
      if code ≠ 0 then s.trap c n code x.pc false
      else (s.onThr c n fun y => y.setW (iRD x.iw) d).finish c n x 1 fun s => s.advancePc c n x.pc (x.pc + 1)
    else s
  | _ => s

/-- LOCK_RESULT (12 R322, R324, R325). -/
def execLockResult (dt : Nat) (c : Sys2Proof.CoreId) (n : Sys2Proof.ThreadId) (s : State) : Host.Outcome State Fault Refusal :=
  .next ((s.advance dt).ctlAwake c.val (Ctl.isLockFor c.val n.val) fun s => s.lockResult c.val n.val)

/-- Is the word at a thread's PC undefined in the form its MODE names, or a custom opcode without rows (06 R134, R165, R170)? -/
def State.isIllegal (s : State) (w : Word) : Bool :=
  decide (2 ≤ nMode w) || !formDefined (nOpc w) (nMode w) || (decide (0xE0 ≤ nOpc w) && dtRows s.dtActive (nOpc w - 0xE0) = 0)

/-- ILLEGAL_INSTRUCTION (06 R134): the thread traps with fault 0x01. -/
def execIllegalInstruction (dt : Nat) (c : Sys2Proof.CoreId) (n : Sys2Proof.ThreadId) (s : State) : Host.Outcome State Fault Refusal :=
  let s := s.advance dt
  .next (s.issue c.val n.val s.isIllegal)

end Sys2Proof.Machine
end

