-- ==== Sys2Proof/Machine/Node.lean ====
section
/-! DEFINITION. What each instruction does in node form: checks at dispatch, operand values, results and destinations (02 R28, 06 R136, R137, R151 to R165; 09 R230 to R239). -/
namespace Sys2Proof.Machine

/-! ### Operands (06 R136; 03 R56) -/

/-- The single token of a firing: port 2, or port 1 of a LOOP_ENTRY. -/
def Firing.single (f : Firing) : Option Token := f.p2.orElse fun _ => f.p1

/-- Does the node pair a left and a right operand? -/
def Firing.dyadic (f : Firing) : Bool := f.p0.isSome && f.p1.isSome

/-- Operand value A. -/
def Firing.a (f : Firing) : Word :=
  if f.dyadic then (f.p0.map fun k => k.val).getD 0 else (f.single.map fun k => k.val).getD 0

/-- Operand value B: the right operand, the constant, or 0. -/
def Firing.b (f : Firing) : Word :=
  if f.dyadic then (f.p1.map fun k => k.val).getD 0 else f.const

/-- Operand value C: AUX of the port 0 token, or of the single token. -/
def Firing.c (f : Firing) : Word :=
  if f.dyadic then (f.p0.map fun k => k.aux).getD 0 else (f.single.map fun k => k.aux).getD 0

/-- The operand tokens in port order. -/
def Firing.operands (f : Firing) : List Token := [f.p0, f.p1, f.p2].filterMap id

/-- The first operand with ORD set, sticky tokens apart (R56). -/
def Firing.ordered (f : Firing) : Option Token := f.operands.find? fun k => k.ord && !k.sticky

/-- MOD as the opcode sees it: 0 on a LOOP_ENTRY (02 R28). -/
def Firing.mod (f : Firing) : Nat := if nMatch f.word = 4 then 0 else nMod f.word

/-- The destinations as (TILE, IDX, PORT). -/
def dst0 (w : Word) : Nat × Nat × Nat := (nTile0 w, nIdx0 w, nP0 w)

/-- The second destination field. -/
def dst1 (w : Word) : Nat × Nat × Nat := (nTile1 w, nIdx1 w, nP1 w)

/-- One destination or two, DST0 first (02 R28). -/
def dsts (w : Word) : List (Nat × Nat × Nat) := if dst1 w = dst0 w then [dst0 w] else [dst0 w, dst1 w]

/-! ### Results -/

/-- What a firing comes to at dispatch: a fault; tokens with VAL and AUX to nodes; a token to a lane window with an inherited or a new number, with the nodes that get a plain one; a token to a queue; a verdict straight to a link; a timer; nothing; or a memory access. -/
inductive NRes where
  | fault (code : Nat)
  | toks (d aux : Word) (dest : List (Nat × Nat × Nat))
  | lane (l : Nat) (alloc : Bool) (d aux : Word) (dest : List (Nat × Nat × Nat))
  | queue (t q : Nat) (d aux : Word)
  | verdict (l : Nat) (val aux : Word)
  | timer (beats : Nat)
  | sink
  | mem (op : MemOp) (a size data : Nat)
  deriving DecidableEq, Repr

/-- A result to the node's destinations, with AUX C. -/
def Firing.plain (f : Firing) (d : Word) : NRes := .toks d f.c (dsts f.word)

/-- Integer and logic nodes; MOD[0] exchanges A and B. -/
def nodeInt (f : Firing) : NRes :=
  let op := nOpc f.word
  if 2 ≤ f.mod then .fault 2
  else
    let a := if bit f.mod 0 then f.b else f.a
    let b := if bit f.mod 0 then f.a else f.b
    if op = 0x39 then
      (if wbits b 4 60 ≠ 0 ∨ wbits a 5 59 ≠ 0 then .fault 2 else f.plain (wd (b2n (condHolds b.toNat a))))
    else if (op = 0x33 ∨ op = 0x34) ∧ wbits b 12 52 ≠ 0 then .fault 2
    else if (op = 0x37 ∨ op = 0x38) ∧ wbits b 2 62 ≠ 0 then .fault 2
    else
      let r := intOp op a (if op = 0x0F ∧ nMode f.word = 2 then a else b) false
      match r.fault with
      | some k => .fault k
      | none => .toks (if isCompare op then flagsVal r else r.d) (r.aux.getD f.c) (dsts f.word)

/-- Floating-point nodes: AUX takes the exceptions; TE and XE select those that abandon the firing. -/
def nodeFp (f : Firing) : NRes :=
  let m := f.mod
  match rmoMode (bits m 1 3) 0 with
  | none => .fault 2
  | some rm =>
    let r := fpOp (nOpc f.word) (bit m 0) rm f.a f.b f.c
    match fpTrap r.fl (b2n (bit m 4) * 15 + b2n (bit m 5) * 16) with
    | some k => .fault k
    | none => .toks (wd r.d) (wd r.fl) (dsts f.word)

/-- CRC, parity, bit-reverse and MISR nodes. -/
def nodeCrc (f : Firing) : NRes :=
  let op := nOpc f.word
  if op ≤ 0xA2 then (if 4 ≤ f.mod then .fault 2 else f.plain (crcOp op f.a f.b f.mod))
  else if f.mod ≠ 0 then .fault 2
  else if op ≤ 0xA7 then f.plain (bitOp op f.a)
  else f.plain (misr (if op = 0xA9 then 32 else 64) f.a f.b f.c)

/-- Custom opcodes: AUX takes the second result where there is one. -/
def nodeCustom (s : State) (f : Firing) : NRes :=
  if f.mod ≠ 0 then .fault 2
  else
    let r := dtRun s.dtActive (nOpc f.word - 0xE0) f.a f.b f.c
    .toks r.1 (r.2.getD f.c) (dsts f.word)

/-- Memory nodes: EA is A + B for loads and LEA, A for stores and atomics. -/
def nodeMem (f : Firing) : NRes :=
  let op := nOpc f.word
  let ab := (f.a + f.b).toNat % 2 ^ 48
  let a := f.a.toNat % 2 ^ 48
  if f.mod ≠ 0 then .fault 2
  else if op = 0x53 then f.plain (wd ab)
  else match loadKind op, storeKind op with
    | some k, _ => .mem .read ab k.1 0
    | _, some k => if nMatch f.word ≠ 0 ∧ nMatch f.word ≠ 7 then .fault 2 else .mem .write a k.1 (f.b.toNat % 256 ^ k.1)
    | _, _ => if a % 8 ≠ 0 then .fault 2 else .mem (accessOp op) a 8 f.b.toNat

/-- Does the tile hold the source of the lane for its threads and firings (03 R55)? -/
def State.tileSource (s : State) (t l : Nat) : Bool := s.fget F.LANECFG_SRCK 0 l = 1 && s.fget F.LANECFG_SRC 0 l = t

/-- LNOUT (R160). -/
def nodeLnout (s : State) (t : Nat) (f : Firing) : NRes :=
  let w := f.word
  let l := nIdx0 w
  if nTile0 w ≠ 0 ∨ 4096 ≤ l ∨ nP0 w ≠ 0 ∨ 2 ≤ f.mod then .fault 2
  else
    let more := if dst1 w = dst0 w then [] else [dst1 w]
    if bit f.mod 0 then
      (if !s.tileSource t l then .fault 2 else if (s.lane l).st ≠ .active then .fault 3 else .lane l true f.a f.c more)
    else match f.ordered with
      | some k => if k.lane = l then .lane l false f.a f.c more else .fault 2
      | none => .fault 2

/-- VRDT in node form (09 R230): through the inherited lane, or directly to the link. -/
def nodeVrdt (s : State) (f : Firing) : NRes :=
  let w := f.word
  if f.mod ≠ 0 ∨ dst0 w ≠ (0, 0, 0) ∨ dst1 w ≠ (0, 0, 0) ∨ !vrdtOk f.a f.b then .fault 2
  else match f.ordered with
    | some k =>
      if s.fget F.LANECFG_SINK 0 k.lane = 0 ∧ s.fget F.LANECFG_SPORT 0 k.lane = f.b.toNat then .lane k.lane false (verdictVal f.a) f.c [] else .fault 2
    | none => .verdict f.b.toNat (verdictVal f.a) f.c

/-- The token group and NOP (R159, R160, R163). -/
def nodeTok (s : State) (t : Nat) (f : Firing) : NRes :=
  let w := f.word
  match nOpc w with
  | 0xB4 => nodeLnout s t f
  | 0xBD => if f.mod ≠ 0 ∨ dst0 w ≠ (0, 0, 0) ∨ dst1 w ≠ (0, 0, 0) then .fault 2 else .sink
  | 0xB3 => if f.mod ≠ 0 then .fault 2 else .toks f.a f.c [if f.b ≠ 0 then dst0 w else dst1 w]
  | 0xB5 => if f.mod ≠ 0 ∨ 256 ≤ nIdx0 w ∨ nP0 w ≠ 0 ∨ dst1 w ≠ dst0 w then .fault 2 else .queue (nTile0 w) (nIdx0 w) f.a f.c
  | 0xBB => if f.mod ≠ 0 ∨ 2 ^ 32 ≤ f.b.toNat then .fault 2 else .timer f.b.toNat
  | _ => if f.mod ≠ 0 then .fault 2 else f.plain f.a

/-- The test helpers in node form, with the state after them (09 R234 to R239). -/
def nodeTest (s : State) (t : Nat) (f : Firing) : NRes × State :=
  let m := f.mod
  match nOpc f.word with
  | 0xD0 => (if m ≠ 0 ∨ 8 ≤ f.b.toNat then .fault 2 else f.plain (s.scrm t f.b.toNat f.a), s)
  | 0xD1 => (if m ≠ 0 ∨ 16 ≤ f.b.toNat then .fault 2 else f.plain (s.dbkg t f.b.toNat f.a), s)
  | 0xD2 =>
    if 4 ≤ m then (.fault 2, s)
    else match s.faccFault t m f.a f.b with
      | some k => (.fault k, s)
      | none => let r := s.facc t m f.a f.b; (f.plain r.1, r.2)
  | 0xD3 =>
    if 4 ≤ m ∨ wbits f.b 48 16 ≠ 0 then (.fault 2, s)
    else let r := s.flog t m f.a f.b f.c; (f.plain r.1, r.2)
  | _ => (nodeVrdt s f, s)

/-- The MOD bits that the opcode's group defines, as a bound (R136). -/
def modLimit (op : Nat) : Nat :=
  if op < 0x40 then 2 else if op < 0x60 then 1 else if op < 0xA0 then 64 else if op ≤ 0xA2 then 4
  else if op = 0xB4 then 2 else if op = 0xD2 ∨ op = 0xD3 then 4 else 1

/-- A firing's result, and the state after its own effect: 0x01, then MOD, then CTX_CREATE in class 0, then the operation (R137, 02 R51). -/
def State.nodeRes (s : State) (t cls : Nat) (f : Firing) : NRes × State :=
  let op := nOpc f.word
  if !formDefined op (nMode f.word) ∨ (0xE0 ≤ op ∧ dtRows s.dtActive (op - 0xE0) = 0) then (.fault 1, s)
  else if modLimit op ≤ f.mod then (.fault 2, s)
  else if nMatch f.word = 5 ∧ cls = 0 then (.fault 3, s)
  else if op < 0x40 then (nodeInt f, s)
  else if op < 0x60 then (nodeMem f, s)
  else if op < 0xA0 then (nodeFp f, s)
  else if op < 0xB0 then (nodeCrc f, s)
  else if op < 0xD0 then (nodeTok s t f, s)
  else if op < 0xE0 then nodeTest s t f
  else (nodeCustom s f, s)

/-- Tokens that a result emits. -/
def NRes.count : NRes → Nat
  | .toks _ _ l => l.length
  | .lane _ _ _ _ l => 1 + l.length
  | .queue _ _ _ _ => 1
  | .verdict _ _ _ => 1
  | _ => 0

/-- The charge of a firing with a result (04 R97). -/
def State.fireCharge (s : State) (t : Nat) (f : Firing) (r : NRes) : Charge :=
  match r with
  | .mem op a size _ => ⟨1, 0, membUnits a size, (dsts f.word).length + s.bulkFlits (some t) a size op⟩
  | .timer _ => ⟨1, 0, 0, (dsts f.word).length⟩
  | r => ⟨1, 0, if nOpc f.word = 0xD3 then 1 else 0,
      r.count + (if nOpc f.word = 0xD3 then (match s.region (some t) (s.fget F.FLBASE_BASE t 0 * 32) with | .dram _ => 2 | _ => 0) else 0)⟩

end Sys2Proof.Machine
end

