-- ==== Sys2Proof/Machine/Sched.lean ====
section
/-! DEFINITION. The scheduler of a tile: the order of tasks, the dispatch of firings and of thread wakes, the emission of a firing's tokens, chained dispatches, spawns, the delay list and the DMA engine (05 R113 to R118, R123 to R127, R131; 06 R154, R155; 02 R50 to R52). -/
namespace Sys2Proof.Machine

/-! ### The order of tasks (R114) -/

/-- Is the task an LNOUT that waits for credit of its lane (03 R62)? Other tasks dispatch past it. -/
def State.creditHeld (s : State) (k : Task) : Bool :=
  match k.kind with
  | .fire f =>
    let l := nIdx0 f.word
    nOpc f.word = 0xB4 && bit f.mod 0 && decide (l < 4096) && (s.lane l).st = .active && (s.lane l).credit = 0
  | _ => false

/-- The oldest task of each activity in a list, oldest first; ties to the lower activity. -/
def heads (l : List Task) : List Task :=
  sortBy (fun k => k.stamp * 64 + k.act) (l.filter fun k => !(l.any fun j => j.act = k.act && decide (j.stamp < k.stamp)))

/-- The oldest tasks of the groups, in the order in which groups are dispatched: the class 0 queue, then levels 7 down to 0. -/
def State.taskOrder (s : State) (t : Nat) : List Task :=
  let x := s.tile t
  let free := fun (l : List Task) => l.filter fun k => !s.creditHeld k
  heads (free x.c0q) ++ [7, 6, 5, 4, 3, 2, 1, 0].flatMap fun p => heads (free (x.ready.filter fun k => k.pri = p))

/-- A task leaves the ready list. -/
def State.dropTask (s : State) (t : Nat) (k : Task) : State :=
  s.onTile t fun x => { x with ready := x.ready.filter (fun j => j.stamp ≠ k.stamp), c0q := x.c0q.filter (fun j => j.stamp ≠ k.stamp) }

/-- A task is marked as counted in a held counter. -/
def State.noteTask (s : State) (t : Nat) (k : Task) : State :=
  let g := fun (j : Task) => if j.stamp = k.stamp then { j with noted := true } else j
  s.onTile t fun x => { x with ready := x.ready.map g, c0q := x.c0q.map g }

/-! ### Emission (02 R28, R50 to R52; 03 R56; 06 R136) -/

/-- A firing is abandoned: one fault token, its operands consumed (R131). -/
def State.abandon (s : State) (t cls : Nat) (f : Firing) (code : Nat) : State :=
  s.pushFault t (s.mkFault (mkTag f.ctx t f.idx f.iter 0 cls 0) f.ordered code 1 t (graphAddr t f.idx))

/-- The context and iteration of the tokens a firing emits: those of its PARENT for CTX_FREE (02 R52). -/
def State.outCtx (s : State) (f : Firing) : Nat × Nat :=
  if nMatch f.word = 6 then ((s.ctx f.ctx).parent, (s.ctx f.ctx).piter) else (f.ctx, f.iter)

/-- A token of a firing to a node, with the lane and number given (R136). -/
def State.outTok (s : State) (f : Firing) (cls : Nat) (dest : Nat × Nat × Nat) (ord : Option (Nat × Nat)) (d aux : Word) : Token :=
  let ci := s.outCtx f
  let o := ord.getD (0, 0)
  ⟨mkTag ci.1 dest.1 dest.2.1 ci.2 dest.2.2 cls (b2n ord.isSome), mkDst 0xFFFF o.1 o.2 0, d, aux⟩

/-- The inherited lane and number. -/
def Firing.inherit (f : Firing) : Option (Nat × Nat) := f.ordered.map fun k => (k.lane, k.seq)

/-- After a CTX_FREE firing has emitted: its context closes on the owning tile, or a free notice leaves; a second one counts in ORPHANS (02 R50, R52). -/
def State.freeDone (s : State) (t : Nat) (f : Firing) : State :=
  if nMatch f.word ≠ 6 then s
  else if ctxOwner f.ctx = t then
    (if (s.ctx f.ctx).st = 1 then s.startClose f.ctx 0 else if (s.ctx f.ctx).st = 2 then s.inc F.ORPHANS_COUNT t 0 else s)
  else s.post (.freeNotice f.ctx t)

/-- Tokens sent to nodes. -/
def State.sendToks (s : State) (t u : Nat) (f : Firing) (cls : Nat) (ord : Option (Nat × Nat)) (d aux : Word) (l : List (Nat × Nat × Nat)) : State :=
  l.foldl (fun s dest => s.unitSend t u (.node dest.1) (s.outTok f cls dest ord d aux)) s

/-- A result's tokens leave. -/
def State.sendRes (s : State) (t u : Nat) (f : Firing) (cls : Nat) (r : NRes) : State :=
  match r with
  | .toks d aux l => (s.sendToks t u f cls f.inherit d aux l).freeDone t f
  | .lane l alloc d aux more =>
    let n := if alloc then (let x := s.laneTake l; (some (l, x.1), x.2)) else (f.inherit, s)
    let s := n.2.unitSend t u (.lane l) (s.outTok f cls (dst0 f.word) n.1 d aux)
    (s.sendToks t u f cls none d aux more).freeDone t f
  | .queue qt q d aux => (s.unitSend t u (.queue qt q) (s.outTok f cls (t, f.idx, 2) f.inherit d aux)).freeDone t f
  | .verdict l v aux => (s.unitSend t u (.link l) (s.outTok f cls (0, 0, 0) f.inherit v aux)).freeDone t f
  | .sink => s.freeDone t f
  | _ => s

/-! ### Contexts made by firings (02 R51) -/

/-- The lowest free context number of a tile. -/
def State.freeCtx (s : State) (t : Nat) : Option Nat :=
  (List.range 1024).find? fun k => (s.ctx (1024 * t + k)).st = 0

/-- CTX_CREATE takes a number: the new descriptor, and the firing as it goes on in the new context at iteration 0. -/
def State.createCtx (s : State) (t k : Nat) (f : Firing) : State × Firing :=
  let d := s.ctx f.ctx
  let s := s.setCtx k { d with st := 1, parent := f.ctx, piter := f.iter, opened := s.slate, acks := 0, victim := 0 }
  let s := s.onTile t fun x => { x with cache := trimCache (⟨k, false, false, 0, false, 0, false⟩ :: x.cache.filter fun e => e.ctx ≠ k) }
  (s, { f with ctx := k, iter := 0, word := wset f.word 6 4 1 })

/-! ### Memory accesses of firings (R155) -/

/-- The value a memory node emits from what was read: a load's extension, the address of a store, the old word of an atomic (06 R154). -/
def fireVal (f : Firing) (data : Nat) : Word :=
  match loadKind (nOpc f.word), storeKind (nOpc f.word) with
  | some k, _ => loadVal k.2.1 k.1 data
  | _, some _ => f.a
  | _, _ => wd data

/-- A firing's access is complete: its tokens leave, or it is abandoned. -/
def State.fireDone (s : State) (t u cls : Nat) (f : Firing) (data code : Nat) : State :=
  if code ≠ 0 then s.abandon t cls f code
  else s.sendRes t u f cls (.toks (fireVal f data) f.c (dsts f.word))

/-- The firings whose accesses have all their parts go on. -/
def State.fireSettle (s : State) : State :=
  (s.fireMem.filter fun m => m.parts = 0).foldl
    (fun s m => ({ s with fireMem := s.fireMem.filter fun k => k.id ≠ m.id }).fireDone m.tile m.unit (s.ctx m.firing.ctx).cls m.firing m.acc m.code) s

/-- Starts the memory access of a firing: the state after, or none when the mesh has no room. -/
def State.fireAccess (s : State) (t u cls : Nat) (f : Firing) (op : MemOp) (a size data : Nat) : Option State :=
  let who := Req.firing t u
  let region := s.region (some t) a
  let atomic := op = .add ∨ op = .swap
  let isMem := match region with | .spad _ _ | .dram _ | .mailbox _ => true | _ => false
  let bad := if atomic ∧ !isMem then some 3 else s.accessFault who a size (op ≠ .read)
  match bad with
  | some k => some ((s.noteFault (some t) a k).abandon t cls f k)
  | none =>
    if isMem then
      let m : MemReq := ⟨s.seqNo, who, op, a, size, 0, data, false, cls, s.seqNo, s.now + 1⟩
      let e : FireMem := ⟨s.seqNo, t, u, f, s.partsOf (some t) a size, 0, 0⟩
      match s.bump.startReq m with
      | .sent s => some { s with fireMem := s.fireMem ++ [e] }
      | .full => none
      | .fenced => some (s.abandon t cls f 0x12)
    else if op = .read then
      match s.ioLoad who (some t) a size with
      | .error k => some (s.abandon t cls f k)
      | .ok (v, s) => some (s.fireDone t u cls f v 0)
    else match s.ioWrite who (some t) a (wd data) with
      | .ok s => some (s.fireDone t u cls f 0 0)
      | .refuse k _ => some (s.abandon t cls f (refuseCode k))

/-! ### Dispatch to a fire unit (R115, R116) -/

/-- Cycles a firing occupies its unit (06 R147). -/
def State.fireOcc (s : State) (f : Firing) : Nat :=
  occupancy (nOpc f.word) (bit f.mod 0) (dtRows s.dtActive (nOpc f.word - 0xE0))

/-- May unit `u` accept a firing of this occupancy now: free, no kept emission, and no slot reserved for a chain (R116, R118; 11 R275)? -/
def State.unitOpen (s : State) (t u occ : Nat) : Bool :=
  let x := s.tile t
  decide (tget x.unitFree 0 u ≤ s.now) && !(x.unitOut.any fun p => p.1 = u) &&
  !(x.chains.any fun h => h.unit = u && decide (h.at_ < s.now + occ))

/-- Does the result emit a token to DST0 that a class 0 firing forwards to its chained successor (R118)? -/
def chainTok (s : State) (t cls : Nat) (f : Firing) (r : NRes) : Option (Token × NRes) :=
  match r with
  | .toks d aux (dest :: more) =>
    if cls = 0 ∧ dest = dst0 f.word ∧ dest.1 = t ∧ s.fireOcc f = 1 then some (s.outTok f cls dest f.inherit d aux, .toks d aux more) else none
  | _ => none

/-- The dispatched firing executes. None when it cannot start for want of a timer entry or of room on the mesh. -/
def State.runFire (s : State) (t u cls pri act : Nat) (f : Firing) (r : NRes) : Option State :=
  match r with
  | .fault k => some (s.abandon t cls f k)
  | .mem op a size data => s.fireAccess t u cls f op a size data
  | .timer b => (s.armTimer t b (.firing f cls pri act)).map fun p => p.2
  | r =>
    match chainTok s t cls f r with
    | some (k, r') =>
      some ((s.onTile t fun x => { x with chains := x.chains ++ [⟨u, s.now + 3, some k⟩] }).sendRes t u f cls r')
    | none => some (s.sendRes t u f cls r)

/-- The unit is taken, the firing counted and charged (R115, R116; 04 R97; 08 R196). -/
def State.takeUnit (s : State) (t u occ ctx act : Nat) (ch : Charge) : State :=
  let s := s.onTile t fun x => { x with unitFree := tput x.unitFree u (s.now + occ) }
  ((s.charge t act ch).inc F.DISPATCHED_COUNT t 0).markDisp t ctx

/-- A firing is offered to a unit: whether it started, and the state after. -/
def State.tryFire (s : State) (t u : Nat) (k : Task) (f : Firing) : Bool × State :=
  let (r, s1) := s.nodeRes t k.cls f
  let occ := s.fireOcc f
  let ch := s.fireCharge t f r
  if !s.unitOpen t u occ then (false, s)
  else match s.verdict t k.act ch with
    | .held b => (false, if b then s.flagHeld t k.act else s)
    | .never => (true, (s.dropTask t k).abandon t k.cls f 0x0B)
    | .ok =>
      let go := fun (s2 : State) (f2 : Firing) =>
        match ((s2.dropTask t k).takeUnit t u occ f.ctx k.act ch).runFire t u k.cls k.pri k.act f2 r with
        | some s' => (true, s')
        | none => (false, s)
      match r with
      | .fault _ => go s f
      | _ =>
        if nMatch f.word = 5 then
          match s.freeCtx t with
          | none => (false, if k.noted then s else (s.inc F.CREATE_HELD_COUNT t 0).noteTask t k)
          | some c => let p := s1.createCtx t c f; go p.1 p.2
        else go s1 f

/-- A task is offered to a fire unit: a firing, or the tokens of a timer event. -/
def State.tryUnit (s : State) (t u : Nat) (k : Task) : Bool × State :=
  match k.kind with
  | .fire f => s.tryFire t u k f
  | .timed f =>
    if s.unitOpen t u 1 then
      (true, (((s.dropTask t k).onTile t fun x => { x with unitFree := tput x.unitFree u (s.now + 1) }).markDisp t f.ctx).sendRes t u f k.cls (.toks f.a f.c (dsts f.word)))
    else (false, s)
  | _ => (false, s)

/-- The first task of the order that starts on the unit, where `p` holds of it. -/
def State.unitFrom (s : State) (t u : Nat) (p : Task → Bool) : List Task → State
  | [] => s
  | k :: r =>
    match s.tryUnit t u k with
    | (true, s') => if p k then s' else s
    | (false, s') => s'.unitFrom t u p r

/-- Is a firing of the tile held for lane credit (03 R62, R73)? -/
def State.noteAlloc (s : State) (t : Nat) : State :=
  let b := ((s.tile t).c0q ++ (s.tile t).ready).any s.creditHeld
  if (s.tile t).allocHeld = b then s else s.onTile t fun x => { x with allocHeld := b }

/-- A fire unit takes its next firing, where `p` holds of the task. -/
def State.dispatchUnit (s : State) (t u : Nat) (p : Task → Bool) : State :=
  if s.active t ∧ t < 64 then
    let s := if (s.tile t).unitOut.isEmpty then s else s.drainUnits t
    (let s := s.noteAlloc t; s.unitFrom t u p (s.taskOrder t)).noteAlloc t
  else s

/-- Is the task a firing whose node has this opcode? -/
def isFireOp (op : Nat) (p : Word → Bool) (k : Task) : Bool :=
  match k.kind with
  | .fire f => nOpc f.word = op && p f.word
  | _ => false

/-! ### Thread wakes, timer events and spawns (R115, R123, R124) -/

/-- A spawning wake's checks (06 R160, which names MODE among the fields whose violation raises fault 0x02). -/
def spawnOk (t : Nat) (f : Firing) : Bool :=
  let w := f.word
  nTile0 w = t && nP0 w = 0 && dst1 w = dst0 w && nMode w = 2 && (nMatch w = 1 || nMatch w = 3) && nMod w = 0

/-- A spawning wake takes a context, or stays in the ready list (R123, R124). -/
def State.trySpawn (s : State) (t : Nat) (k : Task) (f : Firing) : Bool × State :=
  if !spawnOk t f then (true, (s.dropTask t k).abandon t k.cls f 2)
  else match s.freeThread t, f.p2 with
    | some n, some tok => (true, ((s.dropTask t k).spawnIn t n (nIdx0 f.word) tok k.cls k.pri k.act).markDisp t f.ctx)
    | _, _ => (false, if k.noted then s else (s.inc F.SPAWN_HELD_COUNT t 0).noteTask t k)

/-- A task is offered to the strand core. -/
def State.tryWake (s : State) (c : Nat) (k : Task) : Bool × State :=
  match k.kind with
  | .wake n => match (s.dropTask c k).resume c n with
    | some s' => (true, s')
    | none => (false, s)
  | .event n h => (true, (s.dropTask c k).latch c n (latchTmr h))
  | .spawn f => s.trySpawn c k f
  | _ => (false, s)

/-- The first task of the order that the strand core can take, where `p` holds of it. -/
def State.wakeFrom (s : State) (c : Nat) (p : Task → Bool) : List Task → State
  | [] => s
  | k :: r =>
    match s.tryWake c k with
    | (true, s') => if p k then s'.onTile c fun x => { x with lastWake := some s.now } else s
    | (false, s') => s'.wakeFrom c p r

/-- The strand core takes its next wake, one per cycle (R115). -/
def State.dispatchWake (s : State) (c : Nat) (p : Task → Bool) : State :=
  if s.active c ∧ (s.tile c).lastWake ≠ some s.now then s.wakeFrom c p (s.taskOrder c) else s

/-- Is the task a spawning wake? -/
def isSpawn (k : Task) : Bool := match k.kind with | .spawn _ => true | _ => false

/-- TASK_DISPATCH (R115): slots 0 to 3 are the fire units, 4 the strand core. -/
def execTaskDispatch (dt : Nat) (c : Sys2Proof.CoreId) (slot : Fin 5) (s : State) : Host.Outcome State Fault Refusal :=
  let s := s.advance dt
  .next (if slot.val < 4 then s.dispatchUnit c.val slot.val fun _ => true else s.dispatchWake c.val fun _ => true)

/-- SPAWN (R123, 06 R159). -/
def execSpawn (dt : Nat) (t : Sys2Proof.TileId) (s : State) : Host.Outcome State Fault Refusal :=
  .next ((s.advance dt).dispatchWake t.val isSpawn)

/-! ### Chained dispatch (R118) -/

/-- The chained lookup reaches its fire decision: a node that becomes ready is dispatched on the same unit in the same cycle, ahead of every other class 0 task; otherwise the token takes an entry as any class 0 token does. -/
def State.chained (s : State) (t u : Nat) : State :=
  match takeFirst (fun h => h.unit = u && decide (h.at_ ≤ s.now)) (s.tile t).chains with
  | none => s
  | some (h, r) =>
    let s := s.onTile t fun x => { x with chains := r }
    match h.tok with
    | none => s
    | some k =>
      match s.lookup t ⟨k, false, .none⟩ true with
      | .done s' =>
        let q := (s'.tile t).c0q
        if (s.tile t).c0q.length < q.length then
          match q.getLast? with
          | some j =>
            let j := { j with stamp := 0 }
            let s' := s'.onTile t fun x => { x with c0q := j :: x.c0q.dropLast }
            (s'.tryUnit t u j).2
          | none => s'
        else s'
      | _ => s.stageLocal t k

/-- CHAINED_DISPATCH (R118). -/
def execChainedDispatch (dt : Nat) (t : Sys2Proof.TileId) (u : Fin 4) (s : State) : Host.Outcome State Fault Refusal :=
  let s := s.advance dt
  .next (if s.frozen t.val then s else s.chained t.val u.val)

/-! ### The delay list (R126) -/

/-- A due timer enters the ready list, unless the list of its class is full: the task of a firing, the event of a thread, or the end of its sleep. -/
def State.ring (s : State) (c : Nat) (d : Timer) : State :=
  let h := handleOf d.num d.gen
  let gone := s.onTile c fun t => { t with delay := t.delay.filter fun k => k.num ≠ d.num }
  match d.what with
  | .firing f cls pri act => if s.readyFull c cls then s else gone.enterReady c (.timed f) cls pri act (some h)
  | .event n =>
    let x := s.thr c n
    if s.readyFull c x.cls then s else gone.enterReady c (.event n h) x.cls x.pri x.act (some h)
  | .sleep n =>
    let x := s.thr c n
    if s.readyFull c x.cls then s
    else
      let s := gone.setThr c n { x with wres := some (.status 0) }
      if x.st = .wait then s.enterReady c (.wake n) x.cls x.pri x.act (some h) else s

/-- At most four due entries, in deadline order and then order of arming. -/
def State.dueTimers (s : State) (c : Nat) : List Timer :=
  let l := (s.tile c).delay.filter fun d => timerPast s.beat d.deadline
  (sortBy (fun d => (d.deadline + 2 ^ 49 - s.beat) % 2 ^ 48 * 2 ^ 64 + d.stamp) l).take 4

/-- The due entries of a core enter its ready list. -/
def State.timerDue (s : State) (c : Nat) : State := if s.frozen c then s else (s.dueTimers c).foldl (fun s d => s.ring c d) s

/-- TIMER_DUE (R126). -/
def execTimerDue (dt : Nat) (c : Sys2Proof.CoreId) (s : State) : Host.Outcome State Fault Refusal :=
  .next ((s.advance dt).timerDue c.val)

/-- FAULT_TOKEN_ARRIVAL (R128): a fault token from the control VC is pushed on the tile's fault queue. -/
def State.faultArrival (s : State) (t : Nat) : State :=
  match takeFirst (fun m => match m with | .faultTok d _ => d = t | _ => false) s.ctl with
  | some (.faultTok _ k, r) => { s with ctl := r }.pushFault t k
  | _ => s

/-- FAULT_TOKEN_ARRIVAL (R128). -/
def execFaultTokenArrival (t : Sys2Proof.TileId) (s : State) : Host.Outcome State Fault Refusal := 
  .next (s.ctlAwake t.val (Ctl.isFaultFor t.val) fun s => s.faultArrival t.val)

/-! ### The DMA engine (06 R154; 10 R255) -/

/-- The 64-bit word of a range that the engine reads at an address. -/
def State.dmaWord (s : State) (t a : Nat) : Word :=
  match s.region (some t) a with
  | .mailbox o => wd (((tget s.mbx 0 (o / 8)).toNat + (tget s.mbx 0 (o / 8 + 1)).toNat * 2 ^ 64) / 256 ^ (o % 8))
  | .graph c i => wd (((s.gword c i).toNat + (s.gword c (i + 1)).toNat * 2 ^ 64) / 256 ^ (a % 8))
  | _ => wd (s.load (s.memAddr (some t) a) 8)

/-- A word written by the engine; a full word clears the error marks it covers (10 R255). -/
def State.dmaPut (s : State) (t a : Nat) (v : Word) : State :=
  match s.region (some t) a with
  | .mailbox o =>
    let k := o % 8
    let m := tput s.mbx (o / 8) (wset (tget s.mbx 0 (o / 8)) (8 * k) (64 - 8 * k) v.toNat)
    { s with mbx := if k = 0 then m else tput m (o / 8 + 1) (wset (tget m 0 (o / 8 + 1)) 0 (8 * k) (v.toNat / 256 ^ (8 - k))) }
  | _ => s.put (s.memAddr (some t) a) 8 v.toNat

/-- The memory address of a word the engine touches, when it lies in a scratchpad or in LPDDR4X. -/
def State.dmaMem (s : State) (t a : Nat) : Option Nat :=
  match s.region (some t) a with
  | .spad _ _ => some (s.memAddr (some t) a)
  | .dram _ => some a
  | _ => none

/-- One word copied, or the address at which the copy stops: a read, or a partial write, that meets an uncorrectable error (10 R255). -/
def State.dmaStep (s : State) (t a b : Nat) : Except Nat State :=
  match s.dmaMem t a, s.dmaMem t b with
  | some x, some y =>
    if s.badWord x 8 then .error x
    else if y % 8 ≠ 0 ∧ s.badWord y 8 then .error y
    else
      let s := s.useCor x 8 true
      .ok ((if y % 8 = 0 then s else s.useCor y 8 false).dmaPut t b (s.dmaWord t a))
  | some x, none => if s.badWord x 8 then .error x else .ok ((s.useCor x 8 true).dmaPut t b (s.dmaWord t a))
  | none, some y =>
    if y % 8 ≠ 0 ∧ s.badWord y 8 then .error y
    else .ok ((if y % 8 = 0 then s else s.useCor y 8 false).dmaPut t b (s.dmaWord t a))
  | none, none => .ok (s.dmaPut t b (s.dmaWord t a))

/-- Copies words until the end, or until an uncorrectable error stops the copy, which is counted: whether it stopped, and the state. -/
def State.dmaCopy (s : State) (t a b : Nat) : Nat → Bool × State
  | 0 => (false, s)
  | k + 1 =>
    match s.dmaStep t a b with
    | .ok s => s.dmaCopy t (a + 8) (b + 8) k
    | .error x => (true, s.countUnc x)

/-- A copy of the engine ends: its thread's event is signalled, or fault 0x10 is raised on the thread. -/
def State.dmaComplete (s : State) (t i : Nat) : State :=
  match (s.tile t).dma[i]? with
  | none => s
  | some d =>
    let s := s.onTile t fun x => { x with dma := x.dma.filter fun k => k.id ≠ d.id }
    let r := s.dmaCopy t d.src d.dst d.words
    let x := s.thr t d.n
    if !r.1 then (if x.st = .free then r.2 else r.2.latch t d.n latchDma)
    else
      let s := r.2
      if x.st = .ready ∨ x.st = .wait then ((s.dropTasks t (isWakeOf d.n)).dropWaiter t d.n).trap t d.n 0x10 x.pc false else s

/-- DMA_COMPLETE (06 R154). -/
def execDmaComplete (dt : Nat) (t : Sys2Proof.TileId) (i : Fin 16) (s : State) : Host.Outcome State Fault Refusal :=
  .next ((s.advance dt).dmaComplete t.val i.val)

end Sys2Proof.Machine
end

