-- ==== Sys2Proof/Machine/Banks.lean ====
section
/-! DEFINITION. The grants of scratchpad banks and of the memory controller, and the mailbox RAM (10 R246 to R258, R268). -/
namespace Sys2Proof.Machine

/-! ### One access -/

/-- The data of an atomic or a store merged into memory: what the word or bytes become (10 R250). -/
def MemReq.newVal (m : MemReq) (old : Nat) : Nat :=
  match m.op with
  | .add => (old + m.data) % 2 ^ 64
  | _ => m.data

/-- What an access does: the value read, the fault code, and the state after (10 R247, R255, R258). -/
structure AccRes where
  data : Nat
  code : Nat
  st : State

/-- One part of an access is performed on memory. -/
def State.access (s : State) (m : MemReq) : AccRes :=
  let bad := s.badWord m.addr m.size
  let old := s.load m.addr m.size
  match m.op with
  | .read => if bad then ⟨0, 0x10, s.countUnc m.addr⟩ else ⟨old, 0, s.useCor m.addr m.size true⟩
  | .write =>
    if bad ∧ !wholeWords m.addr m.size then ⟨0, 0x10, s.countUnc m.addr⟩
    else ⟨0, 0, (if wholeWords m.addr m.size then s else s.useCor m.addr m.size false).put m.addr m.size m.data⟩
  | _ =>
    if bad then ⟨0, 0x10, s.countUnc m.addr⟩
    else ⟨old, 0, (s.useCor m.addr m.size false).put m.addr m.size (m.newVal old)⟩

/-- The status of a host completion for a fault code: 0 success, 1 Unsupported Request, 2 poisoned data (10 R244, R255). -/
def hostStatus (code : Nat) : Nat := if code = 0 then 0 else if code = 0x10 then 2 else 1

/-- A part of a host read or atomic has been performed; after the last the completion leaves. A host write is posted: it has none. -/
def State.hostPart (s : State) (id off data code : Nat) : State :=
  match tfind? s.hostp.acc id with
  | none => s
  | some (k, d, c) =>
    let d := d + data * 256 ^ off
    let c := if c = 0 then code else c
    if k ≤ 1 then { s with hostp := { s.hostp with acc := tdel s.hostp.acc id } }.emit (.hostComp (if hostStatus c = 1 then 0 else d) (hostStatus c))
    else { s with hostp := { s.hostp with acc := tput s.hostp.acc id (k - 1, d, c) } }

/-- ERR of a debug-port access for a fault code (13 R355). -/
def dapErr (code : Nat) : Nat := if code = 0 then 0 else if code = 0x10 then 4 else 2

/-- A debug-port access ends (13 R355). -/
def State.dapEnd (s : State) (data err : Nat) : State :=
  ((s.fset F.DAPSTAT_BUSY 0 0 0).fset F.DAPSTAT_ERR 0 0 err).emit (.dapComp data err)

/-- The answer of a part reaches a requester on the same tile, or one that the mesh does not serve. -/
def State.answer (s : State) (id : Nat) (who : Sys2Proof.Req) (off data code : Nat) (write : Bool) : State :=
  match who with
  | .thread c n => s.threadPart c n id off data code write
  | .firing _ _ => (s.firePart id off data code).fireSettle
  | .host => s.hostPart id off data code
  | .debug => s.dapEnd data (dapErr code)
  | _ => s

/-- Is an earlier request of the same thread to the same target still waiting (10 R268)? -/
def laterOf (l : List MemReq) (same : MemReq → Bool) (m : MemReq) : Bool :=
  match m.who with
  | .thread _ _ => l.any fun k => k.who = m.who && same k && decide (k.id < m.id)
  | _ => false

/-! ### Scratchpad banks -/

/-- The bank of a scratchpad request. -/
def MemReq.bank (m : MemReq) : Nat := bankOf ((m.addr - 0x10000000000) % 0x1000000)

/-- The place of a request in the order of R246, to minimise. -/
def MemReq.rank (m : MemReq) : Nat :=
  if m.ct then 0
  else match m.who with
    | .thread c _ => if c = m.tile then 1 else 7
    | .firing t u => if t = m.tile then 2 + u else 7
    | _ => 7

/-- A request leaves the banks' list. -/
def State.dropReq (s : State) (m : MemReq) : State :=
  { s with bankReqs := s.bankReqs.filter fun k => !(k.id = m.id && k.off = m.off) }

/-- A thread's store or atomic found its bank OFF after it was issued: a fault token without a trap (10 R253). -/
def State.lateFault (s : State) (m : MemReq) (code : Nat) : State :=
  match m.who with
  | .thread c n => if m.op = .write then s.pushThreadFault c n code (s.thr c n).pc false else s
  | _ => s

/-- The answer of a granted request leaves: at once on the tile, as a completion over the bulk network otherwise. None when the mesh has no room. -/
def State.bankAnswer (s : State) (m : MemReq) (data code : Nat) : Option State :=
  let s := if code = 0 then s else s.lateFault m code
  let w := decide (m.op ≠ .read)
  if reqTile m.who = some m.tile then some (s.answer m.id m.who m.off data code w)
  else
    let p := s.reqSite m.who
    let r := s.routerOf m.tile
    match s.inject r false (mkPacket 1 (m.cls + 1) p.1 p.2 r false (if m.op = .write then 1 else 2) (.comp m.id m.who m.off data code w)) with
    | .sent s => some s
    | _ => none

/-- The requests a bank can grant now. -/
def State.bankWaiting (s : State) (t b : Nat) : List MemReq :=
  s.bankReqs.filter fun m => m.tile = t && m.bank = b && s.reqReady m && !laterOf s.bankReqs (fun k => k.tile = t) m

/-- A bank grants one request in a cycle (10 R246, R247), as its mode allows (R253). -/
def State.bankGrant (s : State) (t b : Nat) : State :=
  if !s.tileOn t ∨ tfind? (s.tile t).bankAt b = some s.now ∨ s.bankBusy t b then s
  else match minBy (fun (m : MemReq) => m.rank * 2 ^ 64 + m.stamp) (s.bankWaiting t b) with
    | none => s
    | some m =>
      match s.bankMode t b with
      | 1 => s.bankStart t b 1 0 (some (s.now + 32))
      | 0 =>
        let r := s.access m
        match (r.st.dropReq m).bankAnswer m r.data r.code with
        | some s' => s'.onTile t fun x => { x with bankAt := tput x.bankAt b s.now }
        | none => s
      | _ => ((s.dropReq m).bankAnswer m 0 3).getD s

/-- BANK_GRANT (10 R246). -/
def execBankGrant (dt : Nat) (t : Sys2Proof.TileId) (b : Fin 32) (s : State) : Host.Outcome State Fault Refusal :=
  .next ((s.advance dt).bankGrant t.val b.val)

/-- A corrected word is written back in an idle cycle of its bank (10 R255). -/
def State.eccWriteBack (s : State) (t b : Nat) : State :=
  if (s.bankWaiting t b).isEmpty ∧ s.bankMode t b = 0 then
    match takeFirst (fun w => bankOf (8 * w % 0x1000000) = b) (s.tile t).ecback with
    | some (w, r) =>
      { s.onTile t (fun x => { x with ecback := r }) with ecc := { s.ecc with cor := s.ecc.cor.filter fun k => k ≠ w } }
    | none => s
  else s

/-- ECC_WRITE_BACK (10 R255). -/
def execEccWriteBack (dt : Nat) (t : Sys2Proof.TileId) (b : Fin 32) (s : State) : Host.Outcome State Fault Refusal :=
  .next ((s.advance dt).eccWriteBack t.val b.val)

/-! ### LPDDR4X -/

/-- The request at a place of the controller's list is performed (10 R248, R257, R258), unless its segment is being moved (R260) or an earlier one of its thread waits (R268). -/
def State.dramDone (s : State) (i : Nat) : State :=
  match s.drq[i]? with
  | none => s
  | some m =>
    if !s.reqReady m ∨ s.segBusy m.addr ∨ laterOf s.drq (fun _ => true) m then s
    else
      let r := s.access m
      let s := { r.st with drq := r.st.drq.filter fun k => !(k.id = m.id && k.off = m.off) }
      s.answer m.id m.who m.off r.data r.code (m.op ≠ .read)

/-- LPDDR4X_ACCESS_COMPLETE (10 R248). -/
def execLpddr4xAccessComplete (dt : Nat) (i : Nat) (s : State) : Host.Outcome State Fault Refusal :=
  .next ((s.advance dt).dramDone i)

/-! ### Host mailbox RAM (10 R250, R251) -/

/-- Bytes `[o, o+n)` of a mailbox word replaced. -/
def mbxMerge (w : Word) (o n v : Nat) : Word := wset w (8 * (o % 8)) (8 * n) v

/-- A write on the host port is discarded for one on the internal port. -/
def State.collision (s : State) (w : Nat) : State :=
  (((s.fset F.MBSTAT_COLL 0 0 1).fset F.MBSTAT_CWORD 0 0 w).inc F.MBSTAT_COLLCNT 0 0).raiseDev 9

/-- One cycle of the two ports: the oldest waiting access of the internal port, if it is served, and an access of the host. -/
def State.mailbox (s : State) (internal : Bool) (host : Option Sys2Proof.HostAcc) : State :=
  let before := s.mbx
  let m? := if internal then s.mbxq.find? fun m => s.reqReady m else none
  let s := match m? with
    | none => s
    | some m =>
      let old := wbits (tget before 0 (m.addr / 8)) (8 * (m.addr % 8)) (8 * m.size)
      let s := { s with mbxq := s.mbxq.filter fun k => !(k.id = m.id && k.off = m.off) }
      let s := if m.op = .read then s
        else { s with mbx := tput s.mbx (m.addr / 8) (mbxMerge (tget before 0 (m.addr / 8)) m.addr m.size (m.newVal old)) }
      s.answer m.id m.who m.off (if m.op = .write then 0 else old) 0 (m.op ≠ .read)
  match host with
  | none => s
  | some h =>
    match h.data with
    | none => s.emit (.hostComp (tget before 0 h.word.val).toNat 0)
    | some v =>
      let hit : Bool := match m? with
        | some m => m.op ≠ .read && m.addr / 8 = h.word.val
        | none => false
      if hit then s.collision h.word.val else { s with mbx := tput s.mbx h.word.val v }

/-- MAILBOX_ACCESS (10 R251). -/
def execMailboxAccess (dt : Nat) (internal : Bool) (host : Option Sys2Proof.HostAcc) (s : State) : Host.Outcome State Fault Refusal :=
  .next ((s.advance dt).mailbox internal host)

end Sys2Proof.Machine
end

