-- ==== Sys2Proof/Machine/Boundary.lean ====
section
/-! DEFINITION. The stroke boundary and the cut: overruns, idle counts, COUNT and TAKE, the banks, the tile map, the routing banks, the staged images, the counters, the disarm and the shots with START 0 (04 R96, R99, R100, R104, R105, R108; 01 R19; 06 R169; 08 R196; 14 R372, R373, R378 to R380). -/
namespace Sys2Proof.Machine

/-! ### The stroke that ends -/

/-- The verdicts of the Cox on the work of an activity that a tile has: its ready firings and the next instructions of its READY threads. -/
def State.workVerdicts (s : State) (t a : Nat) : List Verdict :=
  let x := s.tile t
  ((x.c0q ++ x.ready).filter fun k => k.act = a).filterMap (fun k => match k.kind with
    | .fire f => some (s.verdict t a (s.fireCharge t f (s.nodeRes t k.cls f).1))
    | _ => none) ++
  ((List.range 16).filter fun n => (s.thr t n).st = .ready && (s.thr t n).act = a).map fun n => match s.decodeAt t n with
    | .ok o => s.verdict t a (s.chargeFor t n o)
    | .error _ => s.verdict t a ⟨0, 1, 0, 0⟩

/-- Does the activity overrun in the stroke that ends (R100)? -/
def State.overruns (s : State) (t a : Nat) : Bool :=
  let v := s.workVerdicts t a
  ((s.tile t).heldFlags.contains a || v.any (fun k => k = .held true)) && v.any fun k => k ≠ .ok

/-- The overruns of a tile in the stroke that ends, as its last cycle `o` leaves them; a stroke without one sets CONSEC to 0 (R100). -/
def State.endBudgets (o s : State) (t : Nat) : State :=
  let s := (List.range 64).foldl (fun s a =>
    if o.overruns t a then s.overrun t a
    else if s.fget F.ACTOVR_CONSEC t a ≠ 0 then s.fset F.ACTOVR_CONSEC t a 0 else s) s
  s.onTile t fun x => { x with heldFlags := [] }

/-- A cached descriptor after a stroke (08 R196, R197): its idle count, and the strokes since it last dispatched. -/
def State.ageEnt (s : State) (t : Nat) (e : CEnt) : CEnt :=
  if e.disp then { e with disp := false, quietFor := 0 }
  else
    let busy := !(s.ctx e.ctx).cert && (s.tile t).counted.contains e.ctx
    { e with quietFor := e.quietFor + 1, idle := if busy then e.idle + 1 else e.idle }

/-- Is a stall report due for the descriptor (08 R196)? -/
def State.stallDue (s : State) (t : Nat) (e : CEnt) : Bool :=
  let n := s.fget F.PRGCFG_STALLN t 0
  n ≠ 0 && decide (n ≤ e.idle) && !e.reported

/-- The idle counts of a tile at a boundary, with the stall reports they give. -/
def State.ageTile (s : State) (t : Nat) : State :=
  let l := (s.tile t).cache.map (s.ageEnt t)
  let due := l.filter (s.stallDue t)
  let s := s.onTile t fun x => { x with cache := l.map fun e => if s.stallDue t e then { e with reported := true } else e }
  due.foldl (fun s e => (s.inc F.STALL_RPTS_COUNT t 0).post (.stall e.ctx t)) s

/-! ### The cut (R104) -/

/-- Every Cox swaps its banks, and the old bank holds no verified storyboard any more. -/
def State.swapCox (s : State) : State :=
  let s := (List.range 64).foldl (fun s t =>
    let b := s.fget F.COXSTAT_BANK t 0
    let s := s.fset F.COXSTAT_BANK t 0 (1 - b)
    s.setShadow t { s.shadowBank t with valid := false }) s
  { s with stroke := { s.stroke with period := (s.activeBank 0).period } }

/-- A borrow of a bank that the active C0BANKS now name is cut short (10 R265). -/
def State.cutC0Borrows (s : State) : State :=
  (List.range 64).foldl (fun s t => match (s.tile t).borrow with
    | some b => if (s.activeBank t).c0banks.testBit (b.region / 16) then s.cutBorrow (some t) else s
    | none => s) s

/-- A counter of Riari advances to a version; it never decreases (14 R365). -/
def State.advanceMono (s : State) (k v : Nat) : State := s.fset F.MONO_VALUE 0 k (max v (s.fget F.MONO_VALUE 0 k))

/-- A staged image takes effect: its counter, the withdrawal of its staging, and the event (14 R365, R383). -/
def State.activated (s : State) (m : Image) : State :=
  { s.advanceMono (m.kind - 1) m.version with riari := { s.riari with staged := tdel s.riari.staged m.kind } }

/-- The staged storyboard joins the image store (14 R372). -/
def State.cutStory (s : State) : State :=
  match tfind? s.riari.staged 4 with
  | some m => { s.activated m with riari := { (s.activated m).riari with story := some m } }
  | none => s

/-- A staged decode table takes effect (06 R169, 14 R372). -/
def State.cutTable (s : State) : State :=
  match tfind? s.riari.staged 3 with
  | some m =>
    let s := ((s.fset F.DTSTAT_BANK 0 0 (1 - s.fget F.DTSTAT_BANK 0 0)).fset F.DTSTAT_SHVALID 0 0 0).fset F.DTSTAT_TTAKE 0 0 (s.fget F.SLATE_TAKE 0 0)
    { s.activated m with riari := { (s.activated m).riari with table := some m } }
  | none => s

/-- The copy of a staged reel starts (14 R373). -/
def State.cutReel (s : State) : State :=
  match tfind? s.riari.staged 2 with
  | some m =>
    let s := (s.activated m)
    let s := (s.fset F.UPDSTAT_RLSTG 0 0 0).fset F.UPDSTAT_RLLOAD 0 0 1
    { s with riari := { s.riari with loading := s.riari.loading ++ [(m, s.riari.reelAt.getD (0, 0))], reelAt := none, reels := tput s.riari.reels (imgWord m.payload 0 1) m } }
  | none => s

/-- BVALID clears for every class 0 activity with a context whose TILESET contains a tile (14 R379). -/
def State.unboundTile (s : State) (t : Nat) : State :=
  (s.ctxs.filter fun (p : Nat × Ctx) => p.2.st = 1 && p.2.cls = 0 && p.2.tileset.testBit t).foldl (fun s p => s.fset F.C0BOUND_BVALID 0 p.2.act 0) s

/-- What a tile that is replaced by recovery starts from: its registers, graph memory and Cox banks, and nothing of its dynamic state; its scratchpad is undefined (14 R380, log 2). -/
def State.recoverTile (s : State) (t : Nat) : State :=
  let x := s.tile t
  let keep := s.regs.filter fun (p : (RegKind × Nat × Nat) × Word) => (regSpec p.1.1).inTile && p.1.2.1 = t && (p.1.1 = RegKind.ADMCAP || p.1.1 = RegKind.ADMRES || (regSpec p.1.1).fields.any fun f => f.acc = .rw || f.acc = .rws)
  let s := s.tileReset t
  let s := keep.foldl (fun s p => s.setReg p.1.1 p.1.2.1 p.1.2.2 p.2) s
  let s := (s.fset F.COXSTAT_BANK t 0 (s.fget F.COXSTAT_BANK (if t = 0 then 1 else 0) 0)).setTile t { Tile.rst with bankA := x.bankA, bankB := x.bankB }
  (List.range 32).foldl (fun s b => s.scrambleBank t b) s

/-- The substitution of a logical tile commits (01 R19; 14 R378, R380). -/
def State.commitTile (s : State) (t : Nat) : State :=
  let old := s.physOf t
  let new := s.fget F.LTMAP_NEXT 0 t
  let s := ((s.fset F.LTMAP_PHYS 0 t new).fset F.LTMAP_PEND 0 t 0)
  let s := (s.fset F.PTSTAT_STATE 0 old 3).fset F.PTSTAT_LOGICAL 0 old 0x7F
  let s := ((s.fset F.PTSTAT_STATE 0 new 0).fset F.PTSTAT_LOGICAL 0 new t).unboundTile t
  match tfind? s.riari.subs t with
  | none => s
  | some m =>
    let s := { s with riari := { s.riari with subs := tput s.riari.subs t { m with moving := !m.recovery, fencing := true, slate := s.slate } } }
    if m.recovery then (s.recoverTile t).startFence old else s

/-- The map commits for every tile whose PEND is 1 (01 R19). -/
def State.commitMap (s : State) : State := s.pendTiles.foldl State.commitTile s

/-- The UPDATE events of the images that a cut makes active (14 R383). -/
def State.updateEvents (s : State) (l : Tab Nat Image) : State :=
  [2, 3, 4].foldl (fun s k => match tfind? l k with
    | some m => s.event 64 (2 + k * 2 ^ 8) m.version
    | none => s) s

/-- The cut takes effect in cycle 0 of the stroke (R104). -/
def State.takeCut (s : State) : State :=
  let c := s.cut
  let imgs := s.riari.staged
  let take := s.fget F.CUTTAKE_NTAKE 0 0
  let s := s.fset F.SLATE_TAKE 0 0 take
  let s := s.swapCox.cutC0Borrows
  let s := s.loadBounds (s.activeBank 0)
  let s := (s.commitMap.rtCut take).cutStory.cutTable.cutReel
  let s := (s.openList c.resv).loadLtres c.lt
  let s := (s.endCut.fset F.CUTTAKE_DONE 0 0 1).cutEvent 1
  let s := if c.byRun ∧ s.dev = .armed then s.enter .running else s
  s.updateEvents imgs

/-! ### The disarm (R108; 13 R341) -/

/-- Every OPEN context becomes CLOSING, and its threads are reset. -/
def State.disarmNow (s : State) : State :=
  let l := (sortCtx s.openCtxs.length (s.openCtxs.map fun p => ⟨p.1, p.2, false⟩)).map fun e => e.ctx
  let ths := s.allThreads.filter fun k => (s.thr k.1 k.2).st ≠ .free && l.contains (s.thr k.1 k.2).ctx
  let s := l.foldl (fun s c => s.startClose c 0) s
  let s := ths.foldl (fun s k => s.resetThread k.1 k.2) s
  { s with stroke := { s.stroke with disarm := false }, cut := { s.cut with drain := l } }

/-- The drain completes, and the device enters STANDBY (13 R341). -/
def State.drainComplete (s : State) : State :=
  if s.dev = .draining ∧ !s.stroke.disarm ∧ s.cut.drain.all (fun c => (s.ctx c).st = 0) then
    { s with cut := { s.cut with drain := [] } }.enter .standby
  else s

/-- DRAIN_COMPLETE (13 R341). -/
def execDrainComplete (dt : Nat) (s : State) : Host.Outcome State Fault Refusal := .next (s.advance dt).drainComplete

/-! ### The stroke that begins -/

/-- Every counter of every Cox becomes 0, and no shot is open (R96). -/
def State.clearBudgets (s : State) : State :=
  let s := { s with
    regs := s.regs.filter (fun (p : (RegKind × Nat × Nat) × Word) => p.1.1 ≠ RegKind.ACTREM0 && p.1.1 ≠ RegKind.ACTREM1)
    tiles := s.tiles.map (fun (p : Nat × Tile) => (p.1, { p.2 with openShots := [] })) }
  (List.range 64).foldl (fun s t => if s.fget F.COXSTAT_NEXTSH t 0 = 0 then s else s.fset F.COXSTAT_NEXTSH t 0 0) s

/-- The shots of a tile with START 0 open (R99). -/
def State.openFirst (s : State) (t : Nat) : Nat → State
  | 0 => s
  | n + 1 =>
    match (s.activeBank t).shots[s.fget F.COXSTAT_NEXTSH t 0]? with
    | some h => if h.start = 0 ∧ s.shotsRun then (s.openShot t).openFirst t n else s
    | none => s

/-- STROKE blocks are due on the UP catch links with STREN (09 R229). -/
def State.strokeBlocks (s : State) : State :=
  ((List.finRange 32).filter fun l => s.linkSt (.catch_ l) = 3 && s.fget F.CLCFG_STREN 0 l.val = 1).foldl
    (fun s l => s.onLink (.catch_ l) fun x => { x with strokeDue := true }) s

/-- The snapshot of the contexts declared stalled is taken at the first boundary after the declaration (08 R198). -/
def State.scanTake (s : State) : State :=
  if s.fget F.DLKCFG_SCANEN 0 0 = 1 ∧ !s.scan.stalled.isEmpty ∧ !s.scan.taken then { s with scan := { s.scan with taken := true, snap := s.count } } else s

/-- Cycle 0 of the next stroke, in cycle `d` (R104). -/
def State.boundary (s : State) (d : Nat) : State :=
  let ts := s.cores.filter fun c => decide (c < 64)
  let s := (List.range 64).foldl s.endBudgets s
  let s := ts.foldl State.ageTile s
  let s := s.rtQuiet
  let s := s.fset F.SLATE_COUNT 0 0 (s.count + 1)
  let s := s.clearBudgets
  let s := if s.fget F.CUTTAKE_ARM 0 0 = 1 ∧ s.fget F.CUTSTRK_STROKE 0 0 ≤ s.count then (if s.cut.committed then s.takeCut else s.cutMissed) else s
  let s := s.turnStroke d
  let s := if s.stroke.disarm then s.disarmNow else s
  let s := (List.range 64).foldl (fun s t => s.openFirst t (s.activeBank t).shots.length) s
  let s := s.strokeBlocks.strokeCnt.sendMarkers.scanTake
  if s.fget F.STRKCFG_OUTEN 0 0 = 1 then s.emit (.pin "STROKE_OUT" true) else s

/-- The boundary takes place once its cycle is reached, out of RESET. -/
def State.strokeBoundary (s : State) : State := if s.dev = .reset ∨ s.now < s.boundaryAt then s else s.boundary s.boundaryAt

/-- STROKE_BOUNDARY (04 R90, R96, R99, R100, R104). -/
def execStrokeBoundary (dt : Nat) (s : State) : Host.Outcome State Fault Refusal := .next (s.advance dt).strokeBoundary

/-! ### Channel map-out (10 R260) -/

/-- One segment move ends: MOPTR advances, or after the last segment the map-out is DONE, with its interrupt, event and record (10 R260; 13 R347; 14 R382). -/
def State.segmentMoved (s : State) : State :=
  if s.fget F.DRSTAT_MOST 0 0 = 1 ∧ s.moveStart + 512 ≤ s.now then
    let p := s.fget F.DRSTAT_MOPTR 0 0
    let ch := s.fget F.DRSTAT_MOCH 0 0
    let s := { s.fset F.DRSTAT_MOPTR 0 0 (p + 1) with moveStart := s.moveStart + 512 }
    if p = 1015807 then
      let s := (s.fset F.DRSTAT_MOST 0 0 2).fset F.CHSTAT_STATE 0 ch 2
      let s := { s with riari := { s.riari with mapped := some ch } }
      ((s.raiseDev 6).event 9 ch).setReason 1
    else s
  else s

/-- SEGMENT_MOVE_COMPLETE (10 R260). -/
def execSegmentMoveComplete (dt : Nat) (s : State) : Host.Outcome State Fault Refusal := .next (s.advance dt).segmentMoved

end Sys2Proof.Machine
end

