-- ==== Sys2Proof/Machine/Reset.lean ====
section
/-! DEFINITION. Power, reset and boot: the Keel's conditions, the entry into RESET, BOOT and FAULT, the end of the boot chain, the junction sensors and the reference clock (15 R389 to R398; 13 R339, R342; 14 R360, R366, R367, R369, R382; 12 R326). -/
namespace Sys2Proof.Machine

/-! ### RESET -/

/-- What Riari and the NOR keep through a reset: the slots, the boot record, the LMS reservation record, and the retired-tile and map-out records (14 R360, R369). -/
def Riari.kept (r : Riari) : Riari :=
  { Riari.rst with slots := r.slots, trial := r.trial, lmsNext := r.lmsRec, lmsRec := r.lmsRec, retired := r.retired, mapped := r.mapped }

/-- The registers whose values a reset leaves: MONO, PREF and ACTSLOT, which Riari holds, and TRIPPED and BROWN (14 R359, R360, R376; 15 R390). -/
def State.keptRegs (s : State) : Tab (RegKind × Nat × Nat) Word :=
  let temp := wd (108 * 2 ^ 19 + s.fget F.TEMPSTAT_TRIPPED 0 0 * 2 ^ 17 + s.fget F.TEMPSTAT_BROWN 0 0 * 2 ^ 18)
  let upd := wset (wset (regReset .UPDSTAT 0 0) 16 1 (s.fget F.UPDSTAT_ACTSLOT 0 0)) 17 1 (s.fget F.UPDSTAT_PREF 0 0)
  ((RegKind.TEMPSTAT, 0, 0), temp) :: ((RegKind.UPDSTAT, 0, 0), upd) ::
    (s.regs.filter fun (p : (RegKind × Nat × Nat) × Word) => p.1.1 = RegKind.MONO)

/-- The device enters RESET: every register at its reset value, every unit as after reset, and time counted from here (15 R394). -/
def State.intoReset (s : State) : State :=
  { State.reset with
    pending := s.pending, freeCtr := s.freeCtr, out := s.out, dev := .reset, regs := s.keptRegs, riari := s.riari.kept
    ak := { AkState.rst with name := s.ak.name }
    hostp := { HostPort.rst with perst := s.hostp.perst, hrdy := s.hostp.hrdy }
    elec := { s.elec with v12 := s.elec.v12.map fun d => d - s.now } }

/-- STROKE_OUT is low, SVC# is released and HRDY is low (15 R394, R400). -/
def State.resetPins (s : State) (svc : Bool) : State :=
  let s := if svc then s.emit (.pin "SVC#" true) else s
  (s.emit (.pin "STROKE_OUT" false)).showState

/-- RESET is entered, unless the device is there already. -/
def State.enterReset (s : State) : State := if s.dev = .reset then s else (s.intoReset).resetPins s.ak.replreq

/-- The cells of a lock group after the reset that Aklofy commands: FREE, with ABAND 1 where a cell was held (12 R326). -/
def State.cellsAfter (s : State) (g : Nat) : Tab Nat Cell :=
  if s.casMode g then [] else ((s.tile g).cells.filter fun c => c.2.val ≠ 0).map fun c => (c.1, ⟨0, true⟩)

/-- The RESET command (13 R339; 12 R326; 14 R382): as any reset, but the lock cells that were held are abandoned, and the reasons of a replace request stand. -/
def State.resetCmd (s : State) : State :=
  let t := s.enterReset
  let t := { t with degraded := s.degraded, ak := { t.ak with replreq := s.ak.replreq, replreason := s.ak.replreason } }
  ((List.range 64).filter fun g => !(s.cellsAfter g).isEmpty).foldl (fun t g => t.onTile g fun x => { x with cells := s.cellsAfter g }) t.showState

/-! ### Power and PORST# -/

/-- TJ, signed. -/
def State.tj (s : State) : Int := sval 8 (s.fget F.TEMPSTAT_TJ 0 0)

/-- A cold start: nothing but the NOR, the fuses and what leaves the device is kept; the device is in RESET, V12 has 10 ms to go (15 R394, R397). -/
def State.coldStart (s : State) : State :=
  let t := s.intoReset
  { t with elec := { Elec.rst with porst := s.elec.porst, v12 := some 16000000 } }.setReg .TEMPSTAT 0 0 (regReset .TEMPSTAT 0 0)

/-- V12 reaches 11.2 V: a cold start, or the return from a brown-out (15 R394, R397). -/
def State.powerOn (s : State) : State :=
  if !s.elec.keel then s.coldStart
  else if s.elec.v12.isSome then s
  else
    let t := { s with elec := { s.elec with v12 := some (s.now + 16000000), brown := false } }
    if s.elec.brown then t.fset F.TEMPSTAT_BROWN 0 0 1 else t

/-- POWER_ON (15 R394). -/
def execPowerOn (dt : Nat) (s : State) : Host.Outcome State Fault Refusal := .next (s.advance dt).powerOn

/-- PORST# is asserted (15 R389, R394): RESET, and the reasons of a replace request clear (14 R382). -/
def State.porstAssert (s : State) : State :=
  if !s.elec.keel then { s with elec := { s.elec with porst := true } }
  else
    let s := s.enterReset
    { s with degraded := false, ak := { s.ak with replreq := false, replreason := 0 },
             elec := { s.elec with porst := true, trip := if s.elec.trip = 1 then 2 else s.elec.trip } }.showState

/-- PORST_ASSERT (15 R394). -/
def execPorstAssert (dt : Nat) (s : State) : Host.Outcome State Fault Refusal := .next (s.advance dt).porstAssert

/-- PORST# is deasserted; after a thermal trip it counts only at 100 °C or below (15 R389). -/
def State.porstDeassert (s : State) : State :=
  { s with elec := { s.elec with porst := false, trip := if s.elec.trip = 2 then (if s.tj ≤ 100 then 0 else 1) else s.elec.trip } }

/-- PORST_DEASSERT (15 R394). -/
def execPorstDeassert (dt : Nat) (s : State) : Host.Outcome State Fault Refusal := .next (s.advance dt).porstDeassert

/-- V12 falls below 11.0 V (15 R397). -/
def State.brownOut (s : State) : State :=
  if !s.elec.keel then s
  else
    let s := s.enterReset
    { s with elec := { s.elec with v12 := none, brown := true } }

/-- BROWN_OUT (15 R397). -/
def execBrownOut (dt : Nat) (s : State) : Host.Outcome State Fault Refusal := .next (s.advance dt).brownOut

/-- V12 stays below 8.0 V long enough: the Keel, Riari and the NOR lose power (15 R397). -/
def State.keelOff (s : State) : State :=
  if s.elec.v12.isNone ∧ s.elec.keel then { s with elec := { s.elec with keel := false, brown := false, trip := 0 } } else s

/-- KEEL_LOSES_POWER (15 R397). -/
def execKeelLosesPower (dt : Nat) (s : State) : Host.Outcome State Fault Refusal := .next (s.advance dt).keelOff

/-- The conditions of R393. -/
def State.resetOver (s : State) : Bool :=
  s.dev = .reset && s.elec.keel && !s.elec.porst && s.elec.trip = 0 && decide (3200000 ≤ s.now) &&
  match s.elec.v12 with
  | some d => decide (d ≤ s.now)
  | none => false

/-- RESET ends and BOOT begins: beats and strokes count from here, and the reference is chosen by whether REFCLK_IN was there (15 R391, R393). -/
def State.resetEnd (s : State) (clock : Bool) : State :=
  if s.resetOver then
    let s := { s with now := 0, dev := .boot, stroke := Stroke.rst, elec := { s.elec with v12 := some 0 } }
    ((s.fset F.REFSTAT_SEL 0 0 (b2n clock)).fset F.REFSTAT_PRESENT 0 0 (b2n clock)).showState
  else s

/-- RESET_END (15 R391, R393). -/
def execResetEnd (dt : Nat) (clock : Bool) (s : State) : Host.Outcome State Fault Refusal := .next ((s.advance dt).resetEnd clock)

/-! ### Temperature and reference -/

/-- The hottest of the readings, as a signed byte. -/
def hottest (l : List Int) : Int := max (-128) (min 127 (l.foldl max (l.headD 0)))

/-- The Keel reads the junction sensors (15 R389, R390): TJ, TLID within 3 °C of the lid (a free value, log 2), THWARN. -/
def State.sensors (s : State) (temps : List Int) (lid : Int) : State :=
  if !s.elec.keel then s
  else
    let t := hottest temps
    let (v, s) := s.free
    let s := (s.fset F.TEMPSTAT_TJ 0 0 (trunc 8 t)).fset F.TEMPSTAT_TLID 0 0 (trunc 8 (lid - 3 + (v.toNat % 7 : Nat)))
    s.fset F.TEMPSTAT_THWARN 0 0 (b2n (decide ((s.fget F.TEMPSTAT_WARN 0 0 : Int) ≤ t)))

/-- JUNCTION_SENSOR_READ (15 R389). -/
def execJunctionSensorRead (dt : Nat) (temps : List Int) (lid : Int) (s : State) : Host.Outcome State Fault Refusal :=
  .next ((s.advance dt).sensors temps lid)

/-- TJ has reached 118 °C: RESET, and TRIPPED sets (15 R389). -/
def State.thermalTrip (s : State) : State :=
  if s.elec.keel ∧ 118 ≤ s.tj then
    let tj := s.fget F.TEMPSTAT_TJ 0 0
    let s := (s.enterReset.fset F.TEMPSTAT_TRIPPED 0 0 1).fset F.TEMPSTAT_TJ 0 0 tj
    { s with elec := { s.elec with trip := 1 } }
  else s

/-- THERMAL_TRIP (15 R389). -/
def execThermalTrip (dt : Nat) (s : State) : Host.Outcome State Fault Refusal := .next (s.advance dt).thermalTrip

/-- REFCLK_IN is lost: the Keel goes on with the MEMS oscillator when it had selected it (15 R391). -/
def State.refclkLost (s : State) : State :=
  if !s.elec.keel ∨ s.dev = .reset then s
  else
    let sel := s.fget F.REFSTAT_SEL 0 0
    let s := s.fset F.REFSTAT_PRESENT 0 0 0
    if sel = 1 then (s.fset F.REFSTAT_SEL 0 0 0).fset F.REFSTAT_LOST 0 0 1 else s

/-- REFCLK_LOST (15 R391). -/
def execRefclkLost (dt : Nat) (s : State) : Host.Outcome State Fault Refusal := .next (s.advance dt).refclkLost

/-! ### The end of the boot chain (14 R366, R367) -/

/-- The latest spare that took over a logical tile in the retired-tile record, 0xFF for a tile that is out. -/
def lastRetired (l : List (Nat × Nat × Nat)) (t : Nat) : Option Nat := ((l.filter fun r => r.1 = t).getLast?).map fun r => r.2.2

/-- A spare named in a record that no longer serves is retired; the latest takes the logical tile at the first cut; a tile without one is out (01 R19, 14 R380). -/
def State.applyRetired (s : State) : State :=
  let l := s.riari.retired
  let s := (l.filter fun r => decide (r.2.2 < 68) && lastRetired l r.1 ≠ some r.2.2).foldl (fun s r => s.fset F.PTSTAT_STATE 0 r.2.2 3) s
  (List.range 64).foldl (fun s t => match lastRetired l t with
    | none => s
    | some n => if n < 68 then s.startSubst t n
      else { s.fset F.ADMCAP_CAP t 0 0 with riari := { s.riari with outs := s.riari.outs ++ [t] } }.setReason 0) s

/-- The map-out that the record names is done again (14 R366 step 9). -/
def State.applyMapout (s : State) : State :=
  match s.riari.mapped with
  | none => s
  | some ch =>
    let s := (s.fset F.DRCFG_RESV 0 0 1).fset F.DRSTAT_DSIZE 0 0 55552
    let s := ((s.fset F.DRSTAT_MOCH 0 0 ch).fset F.DRSTAT_MOST 0 0 2).fset F.DRSTAT_MOPTR 0 0 1015808
    (((s.fset F.CHSTAT_STATE 0 ch 2).raiseDev 6).event 9 ch).setReason 1

/-- The image that a slot holds: the one written there, or the one it was shipped with (log 63). -/
def State.slotImage (s : State) (k : Nat) : Image :=
  (tfind? s.riari.slots k).getD ⟨1, (Config.shippedFw k).1.toNat, toBytes 48 (Config.shippedFw k).2.toNat, []⟩

/-- The chain completes on a slot (14 R366, R367, R369): memory is 0, the records are applied, and the device enters STANDBY. -/
def State.bootDone (s : State) (slot : Nat) : State :=
  if s.dev ≠ .boot then s
  else
    let pref := s.fget F.UPDSTAT_PREF 0 0
    let trial := s.riari.trial = some slot
    let svc := s.ak.replreq
    let s := { s with mem := [], ecc := { unc := [], cor := [], poison := [] }, riari := { s.riari with trial := none, lmsNext := s.riari.lmsRec } }
    let s := (s.fset F.UPDSTAT_ACTSLOT 0 0 slot).fset F.UPDSTAT_FWTRIAL 0 0 (b2n (trial && slot ≠ pref))
    let s := s.applyRetired.applyMapout
    let s := if slot ≠ pref ∧ !trial then s.setReason 2 else s
    let s := if 2 ^ 40 < s.riari.lmsNext + 2 ^ 20 then s.setReason 3 else s
    let s := if svc then s.emit (.pin "SVC#" false) else s
    s.enter .standby

/-- BOOT_CHAIN_COMPLETE (13 R339, 14 R366). -/
def execBootChainComplete (dt : Nat) (slot : Fin 2) (s : State) : Host.Outcome State Fault Refusal := .next ((s.advance dt).bootDone slot.val)

/-! ### FAULT (13 R342) -/

/-- The links whose transmitters go to electrical idle. -/
def allLinks : List LinkId := (List.finRange 32).map .catch_ ++ (List.finRange 16).map .fabric

/-- The device enters FAULT with a cause: transmitters go idle, and the event follows (13 R342, R347). -/
def State.enterFault (s : State) (cause : Nat) : State :=
  if s.dev = .reset ∨ s.dev = .fault then s
  else
    let s := { s with ak := { s.ak with fcause := cause }, riari := { s.riari with fwStep := 0 } }
    let s := (allLinks.filter fun k => s.linkSt k ≠ 0).foldl (fun s k => s.linkTo k 0) s
    (s.enter .fault).event 12 cause

/-- FAULT_ENTRY (13 R339, R342): in BOOT, that both slots failed. -/
def execFaultEntry (dt : Nat) (cause : Sys2Proof.FatalCause) (s : State) : Host.Outcome State Fault Refusal :=
  let s := s.advance dt
  .next (match cause with
    | .boot => if s.dev = .boot then s.enterFault 1 else s
    | .ecc => s.enterFault 2
    | .riari => s.enterFault 4)

end Sys2Proof.Machine
end

