-- ==== Sys2Proof/Machine/Update.lean ====
section
/-! DEFINITION. Containers and their verification, live update, substitution and attestation, as commands that answer with an abort code and the data of the reply (14 R362 to R383; 13 R342). -/
namespace Sys2Proof.Machine

/-- What a request answers: the state, the abort code and the data of the REPLY (13 R331, R338). -/
structure Ans where
  st : State
  code : Nat
  data : List Byte
  deriving DecidableEq, Repr

/-- An answer without data. -/
def State.ans (s : State) (code : Nat) : Ans := ⟨s, code, []⟩

/-- Is a cut armed (04 R103)? -/
def State.cutArmed (s : State) : Bool := s.fget F.CUTTAKE_ARM 0 0 = 1 || s.cut.committed

/-! ### Containers (R362 to R365) -/

/-- A container read from memory: its header and payload fields, the bytes both signatures cover, and the signatures. -/
structure Box where
  img : Image
  plen : Nat
  lmslen : Nat
  signed : List Byte
  esig : List Byte
  hsig : List Byte
  hdrOk : Bool
  deriving DecidableEq, Repr

/-- The header fields of R362, over the 128 bytes of a header. -/
def boxHdrOk (h : List Byte) : Bool :=
  let z := fun (a n : Nat) => imgWord h a n = 0
  imgWord h 0 4 = 0x4C454552 && decide (1 ≤ imgWord h 4 1) && decide (imgWord h 4 1 ≤ 4) && imgWord h 5 1 = 1 && z 6 2 && z 20 12 && z 80 48 &&
  imgWord h 12 4 ≠ 0 && imgWord h 12 4 % 8 = 0

/-- The container at an address. -/
def State.readBox (s : State) (a : Nat) : Box :=
  let h := readBytes s.mem a 128
  let plen := imgWord h 12 4
  let lms := imgWord h 16 4
  let p := readBytes s.mem (a + 128) plen
  { img := ⟨imgWord h 4 1, imgWord h 8 4, (h.drop 32).take 48, p⟩, plen := plen, lmslen := lms, signed := h ++ p
    esig := readBytes s.mem (a + 128 + plen) 96, hsig := readBytes s.mem (a + 224 + plen) lms, hdrOk := boxHdrOk h }

/-- Does a range lie in the LPDDR4X data space, 8-byte aligned? -/
def State.inData (s : State) (a len : Nat) : Bool := a % 8 = 0 && decide (a + len ≤ s.dsize)

/-- Do two segments of a reel overlap? -/
def segsMeet (a b : Nat × Nat × Nat × Nat) : Bool := a.1 = b.1 && decide (a.2.1 < b.2.1 + b.2.2.1) && decide (b.2.1 < a.2.1 + a.2.2.1)

/-- Is the payload of a graph reel well formed (R364)? -/
def reelOk (p : List Byte) : Bool :=
  let n := imgWord p 2 2
  let l := reelSegs p
  imgWord p 1 1 = 0 && decide (1 ≤ n) && decide (n ≤ 64) &&
  (List.range n).all (fun i => let h := imgWord p (4 + 8 * i) 8; bits h 6 10 = 0 && bits h 45 19 = 0) &&
  l.all (fun g => decide (1 ≤ g.2.2.1) && decide (g.2.1 + g.2.2.1 ≤ 16384)) &&
  (l.zipIdx.all fun q => l.zipIdx.all fun r => q.2 = r.2 || !segsMeet q.1 r.1) &&
  p.length = (l.foldl (fun k g => k + 8 * g.2.2.1) (8 + 8 * n))

/-- Is the payload well formed for its KIND (R364, 06 R166)? -/
def payloadOk (m : Image) : Bool :=
  match m.kind with
  | 2 => reelOk m.payload
  | 3 => dtValid m.payload
  | 4 => sbOk m.payload
  | _ => decide (m.payload.length ≤ 0x4000000)

/-- Is the container authentic (R360, R363)? -/
def Box.authentic (b : Box) : Bool :=
  toBytes 48 (Config.sha384 b.img.payload).toNat = b.img.phash && Config.ownerKeysOk &&
  Config.verifyOwnerEc (Config.sha384 b.signed) b.esig && Config.verifyOwnerHss b.signed b.hsig

/-- Does a kind rule of R372 to R374 refuse the image now? -/
def State.kindRefused (s : State) (m : Image) : Bool :=
  m.kind = 2 &&
  (let g := imgWord m.payload 0 1
   let named := match tfind? s.riari.staged 4 with
     | some sb => (sbList sb.payload).any fun e => e.d.graph = g
     | none => false
   (s.ctxs.any fun (p : Nat × Ctx) => p.2.st ≠ 0 && p.2.graph = g) || named || (reelSegs m.payload).any fun h => s.ltPend h.1)

/-- The check of R371 that fails first, 0 for none. -/
def State.boxCheck (s : State) (a len : Nat) (b : Box) : Nat :=
  if !(s.inData a len && decide (128 ≤ len) && b.hdrOk && len = 224 + b.plen + b.lmslen) then 1
  else if !payloadOk b.img then 2
  else if !b.authentic then 3
  else if b.img.version < s.fget F.MONO_VALUE 0 (b.img.kind - 1) then 4
  else if s.cutArmed || s.kindRefused b.img then 5
  else 0

/-- The abort code of a check of R371. -/
def State.boxCode (s : State) (check : Nat) : Nat :=
  match check with
  | 0 => 0 | 1 => 0x0301 | 2 => 0x0302 | 3 => 0x0601 | 4 => 0x0302
  | _ => if s.cutArmed then 0x0402 else 0x0401

/-- Is a step of firmware activation under way, or FAULT, so that firmware goes to another slot than the one not running (R374)? -/
def State.fwSlot (s : State) : Nat := if s.dev = .fault then 1 - s.fget F.UPDSTAT_PREF 0 0 else 1 - s.fget F.UPDSTAT_ACTSLOT 0 0

/-- An image is staged (R372 to R374). -/
def State.stage (s : State) (m : Image) (a len : Nat) : State :=
  let s := { s with riari := { s.riari with staged := tput s.riari.staged m.kind m } }
  match m.kind with
  | 1 =>
    let k := s.fwSlot
    { s.fset F.UPDSTAT_FWSTG 0 0 1 with riari := { s.riari with slots := tput s.riari.slots k m, verified := some k } }
  | 2 => { s.fset F.UPDSTAT_RLSTG 0 0 1 with riari := { s.riari with reelAt := some (a, len) } }
  | 3 => (if s.fget F.DTSTAT_BANK 0 0 = 0 then { s with dtabB := m.payload } else { s with dtabA := m.payload }).fset F.DTSTAT_SHVALID 0 0 1
  | _ => (List.range 64).foldl (fun s t => s.setShadow t (sbBank m.payload t)) s

/-- VERIFY (R371): LASTRES, LASTKIND, the staging, and the event. Of a range that cannot be read, KIND and VERSION are free values (log 2). -/
def State.verify (s : State) (a len : Nat) : Ans :=
  let legible := s.inData a 128
  let b := s.readBox a
  let (v, s1) := s.free
  let s1 := if legible then s else s1
  let kind := if legible then b.img.kind % 16 else v.toNat % 16
  let ver := if legible then b.img.version else v.toNat / 16 % 2 ^ 32
  if s.dev = .fault ∧ !(legible ∧ b.img.kind = 1) then s.ans 0x0401
  else
    let c := s.boxCheck a len b
    let s2 := (s1.fset F.UPDSTAT_LASTRES 0 0 c).fset F.UPDSTAT_LASTKIND 0 0 kind
    let s3 := if c = 0 then s2.stage b.img a len else s2
    (s3.event 64 (1 + kind * 2 ^ 8 + (if c = 3 then 0x13 * 2 ^ 16 else 0)) ver).ans (s.boxCode c)

/-- UNSTAGE (R371). -/
def State.unstage (s : State) (kind : Nat) : Ans :=
  if s.cutArmed then s.ans 0x0402
  else if kind < 1 ∨ 4 < kind then s.ans 0x0302
  else if (tfind? s.riari.staged kind).isNone then s.ans 0
  else
    let s := { s with riari := { s.riari with staged := tdel s.riari.staged kind } }
    (match kind with
      | 1 => s.fset F.UPDSTAT_FWSTG 0 0 0
      | 2 => { s.fset F.UPDSTAT_RLSTG 0 0 0 with riari := { s.riari with reelAt := none } }
      | 3 => s.fset F.DTSTAT_SHVALID 0 0 0
      | _ => (List.range 64).foldl (fun s t => s.setShadow t { s.shadowBank t with valid := false }) s).ans 0

/-! ### Graph reels (R373) -/

/-- The words of a segment go to graph memory. -/
def State.loadSeg (s : State) (p : List Byte) (g : Nat × Nat × Nat × Nat) : State :=
  (List.range g.2.2.1).foldl (fun s i => { s with graph := tput s.graph (g.1 * 16384 + g.2.1 + i) (img64 p (g.2.2.2 + 8 * i)) }) s

/-- A reel copy ends: its words stand in graph memory, its container may be written, and the event is raised. -/
def State.reelDone (s : State) : State :=
  match s.riari.loading with
  | [] => s
  | (m, _) :: r =>
    let s := (reelSegs m.payload).foldl (fun s g => s.loadSeg m.payload g) s
    let s := { s with riari := { s.riari with loading := r } }
    (s.fset F.UPDSTAT_RLLOAD 0 0 (b2n !r.isEmpty)).event 64 (3 + 2 * 2 ^ 8) m.version

/-- REEL_COPY_COMPLETE (R373). -/
def execReelCopyComplete (dt : Nat) (s : State) : Host.Outcome State Fault Refusal := .next (s.advance dt).reelDone

/-- Would a cut open a context of a graph whose reel is staged or being copied (R373)? -/
def State.reelBlocks (s : State) : Bool :=
  let gs := ((tfind? s.riari.staged 2).toList ++ s.riari.loading.map fun r => r.1).map fun m => imgWord m.payload 0 1
  s.newEntries.any fun e => gs.contains e.d.graph

/-! ### Firmware (R374) -/

/-- The firmware stops serving: every session ends, and a pulse that was to start is not given (13 R354). -/
def State.busy (s : State) : State := { s with ak := { s.ak with sessions := [] }, hostp := { s.hostp with attnDue := false } }

/-- FWACT: TRIAL names the new slot. -/
def State.fwact (s : State) : Ans :=
  if s.fget F.UPDSTAT_FWSTG 0 0 = 0 ∨ !s.pendTiles.isEmpty then s.ans 0x0401
  else if s.cutArmed then s.ans 0x0402
  else
    let r := { s.riari with trial := some (1 - s.fget F.UPDSTAT_ACTSLOT 0 0), back := s.fget F.UPDSTAT_ACTSLOT 0 0, fwStep := 1, fwAt := s.now }
    ({ s with riari := r }.busy.showState).ans 0

/-- The firmware being started reaches its ready point, no sooner than 2,000 beats after BUSY set. -/
def State.fwReady (s : State) : State :=
  if s.riari.fwStep = 0 ∨ s.now < s.riari.fwAt + 16000 then s
  else
    let new := s.riari.fwStep = 1
    let s := { s with riari := { s.riari with fwStep := 0, trial := none }, hostp := { s.hostp with readyAt := s.now } }
    if new then
      let k := 1 - s.riari.back
      ((((s.fset F.UPDSTAT_FWTRIAL 0 0 1).fset F.UPDSTAT_ACTSLOT 0 0 k).showState).event 64 (4 + 2 ^ 8) (s.slotImage k).version)
    else s.showState

/-- FIRMWARE_READY (R374). -/
def execFirmwareReady (dt : Nat) (s : State) : Host.Outcome State Fault Refusal := .next (s.advance dt).fwReady

/-- The control cores reload the previous slot (R374). -/
def State.fwBack (s : State) : State :=
  let bad := 1 - s.riari.back
  let s := (s.event 64 (5 + 2 ^ 8) (s.slotImage bad).version).busy
  let s := (s.fset F.UPDSTAT_FWTRIAL 0 0 0).fset F.UPDSTAT_ACTSLOT 0 0 s.riari.back
  { s with riari := { s.riari with fwStep := 3, fwAt := s.now, trial := none } }.showState

/-- 1 s without a ready point. -/
def State.fwRevert (s : State) : State := if s.riari.fwStep = 1 ∧ s.riari.fwAt + 1600000000 ≤ s.now then s.fwBack else s

/-- FIRMWARE_REVERT (R374). -/
def execFirmwareRevert (dt : Nat) (s : State) : Host.Outcome State Fault Refusal := .next (s.advance dt).fwRevert

/-- The watchdog of the control complex expires (13 R342): before FWCOMMIT the previous firmware returns; otherwise the second within 1 s is fatal. -/
def State.watchdog (s : State) : State :=
  if s.dev = .reset ∨ s.dev = .fault then s
  else if s.riari.fwStep = 1 ∨ s.fget F.UPDSTAT_FWTRIAL 0 0 = 1 then s.fwBack
  else match s.ak.wdog with
    | some t => if s.now ≤ t + 1600000000 then s.enterFault 3 else { s with ak := { s.ak with wdog := some s.now } }
    | none => { s with ak := { s.ak with wdog := some s.now } }

/-- WATCHDOG_EXPIRY (13 R342). -/
def execWatchdogExpiry (dt : Nat) (s : State) : Host.Outcome State Fault Refusal := .next (s.advance dt).watchdog

/-- FWCOMMIT of a slot: PREF, MONO[0], the flags, the event. -/
def State.commitSlot (s : State) (k : Nat) : State :=
  let v := (s.slotImage k).version
  let s := ((s.fset F.UPDSTAT_PREF 0 0 k).advanceMono 0 v).fset F.UPDSTAT_FWSTG 0 0 0
  { s.fset F.UPDSTAT_FWTRIAL 0 0 0 with riari := { s.riari with staged := tdel s.riari.staged 1 } }.event 64 (6 + 2 ^ 8) v

/-- FWCOMMIT (R374). -/
def State.fwcommit (s : State) : Ans :=
  if s.dev = .fault then
    match s.riari.verified with
    | some k => (s.commitSlot k).ans 0
    | none => s.ans 0x0401
  else if s.fget F.UPDSTAT_FWTRIAL 0 0 = 0 then s.ans 0x0401
  else (s.commitSlot (s.fget F.UPDSTAT_ACTSLOT 0 0)).ans 0

/-! ### Substitution (R377 to R381) -/

/-- SUBST: NEXT of a logical tile is written under R17. -/
def State.subst (s : State) (t spare : Nat) : Ans :=
  if 64 ≤ t ∨ (68 ≤ spare ∧ spare ≠ 0xFF) then s.ans 0x0302
  else if s.tileIsolated t then s.ans 0x0401
  else
    let n := if spare = 0xFF then s.spares.head? else some spare
    match n with
    | none => s.ans 0x0401
    | some n => match s.ltmapWrite t (wd (n * 2 ^ 8)) with
      | .ok s' => s'.ans 0
      | .refuse _ _ => s.ans 0x0401

/-- SUBCAN: NEXT is written equal to PHYS. -/
def State.subcan (s : State) (t : Nat) : Ans := if 64 ≤ t then s.ans 0x0302 else (s.dropSubst t).ans 0

/-- The pre-copy of a pending substitution ends; for one that the firmware began it arms a cut 16 strokes on (R377, R381). -/
def State.presync (s : State) (t : Nat) : State :=
  match tfind? s.riari.subs t with
  | some m =>
    if s.ltPend t ∧ !m.presync then
      let s := { s with riari := { s.riari with subs := tput s.riari.subs t { m with presync := true } } }
      if m.auto ∧ s.presynced then (match s.armCut (s.count + 16) false with | .ok s' => s' | .error _ => s) else s
    else s
  | none => s

/-- PRESYNC (R377). -/
def execPresync (dt : Nat) (t : Sys2Proof.TileId) (s : State) : Host.Outcome State Fault Refusal := .next ((s.advance dt).presync t.val)

/-- The dynamic state has moved: the new tile resumes, and the old one is drained and fenced (R378). -/
def State.stateMoved (s : State) (t : Nat) : State :=
  match tfind? s.riari.subs t with
  | some m =>
    if m.moving then
      let subs := if m.fencing then tput s.riari.subs t { m with moving := false } else tdel s.riari.subs t
      { s with riari := { s.riari with subs := subs } }.startFence m.old
    else s
  | none => s

/-- STATE_MOVE_COMPLETE (R378). -/
def execStateMoveComplete (dt : Nat) (t : Sys2Proof.TileId) (s : State) : Host.Outcome State Fault Refusal := .next ((s.advance dt).stateMoved t.val)

/-- Before the cut of a recovery, the contexts of the tile are drained as victims with code 0x11, and its lanes become DRAINING (R380). -/
def State.evacuate (s : State) (t : Nat) : State :=
  let cs := (s.openCtxs.filter fun p => p.2.tileset.testBit t).map fun p => p.1
  let ths := s.allThreads.filter fun k => (s.thr k.1 k.2).st ≠ .free && cs.contains (s.thr k.1 k.2).ctx
  let s := cs.foldl (fun s c => s.startClose c 0x11) s
  let s := ths.foldl (fun s k => s.resetWithToken k.1 k.2 0x11) s
  let ls := (s.lanes.filter fun (p : Nat × Lane) => p.2.st = .active && (s.laneTile p.1 = some t || s.laneFrom t p.1)).map fun p => p.1
  ls.foldl (fun s l => s.laneDrain l) s

/-- With no spare the tile is out: its CAP is 0 (R380). -/
def State.tileOut (s : State) (t : Nat) : State :=
  let old := s.physOf t
  let s := { s.fset F.ADMCAP_CAP t 0 0 with riari := { s.riari with outs := s.riari.outs ++ [t], retired := s.riari.retired ++ [(t, old, 0xFF)] } }
  (s.event 65 (t + old * 64 + 0xFF * 2 ^ 14 + 2 * 2 ^ 22)).setReason 0

/-- The firmware substitutes on its own account (R381). -/
def State.autoSubst (s : State) (t : Nat) : State :=
  if s.fget F.SUBCFG_AUTO 0 0 = 0 ∨ !(s.dev = .standby ∨ s.dev = .armed ∨ s.dev = .running) ∨ s.ltPend t ∨ (tfind? s.riari.subs t).isSome ∨
      s.riari.outs.contains t ∨ s.fget F.PTSTAT_STATE 0 (s.physOf t) ≠ 0 then s
  else if s.tileIsolated t then
    match s.spares with
    | n :: _ => (s.startSubst t n).evacuate t
    | [] => s.tileOut t
  else if 16 ≤ s.fget F.SPECC_UNC t 0 then
    match s.spares with
    | n :: _ =>
      let s := s.startSubst t n
      { s with riari := { s.riari with subs := s.riari.subs.map fun (p : Nat × Subst) => if p.1 = t then (p.1, { p.2 with auto := true }) else p } }
    | [] => s
  else s

/-- AUTO_SUBST (R381). -/
def execAutoSubst (dt : Nat) (t : Sys2Proof.TileId) (s : State) : Host.Outcome State Fault Refusal := .next ((s.advance dt).autoSubst t.val)

/-! ### Attestation (R368, R369) -/

/-- The active reels in ascending GRAPH order. -/
def State.reelHashes (s : State) : List Byte :=
  (List.range 256).flatMap fun g => match tfind? s.riari.reels g with | some m => m.phash | none => []

/-- The hash of an active image, or 0. -/
def hashOf (m : Option Image) : List Byte := match m with | some i => i.phash | none => toBytes 48 0

/-- Bytes 0 to 383 of a report. -/
def State.reportBody (s : State) (nonce : List Byte) (index : Nat) : List Byte :=
  let h := s.reelHashes
  toBytes 4 0x54535441 ++ toBytes 2 1 ++ toBytes 2 0 ++ toBytes 48 Config.idHash.toNat ++ nonce ++ toBytes 8 s.slate.toNat ++
  toBytes 4 (s.slotImage (s.fget F.UPDSTAT_ACTSLOT 0 0)).version ++ ((List.range 4).flatMap fun k => toBytes 4 (s.fget F.MONO_VALUE 0 k)) ++
  toBytes 1 s.dev.code ++ toBytes 1 (b2n s.degraded) ++ toBytes 2 0 ++ (s.slotImage (s.fget F.UPDSTAT_ACTSLOT 0 0)).phash ++
  hashOf s.riari.story ++ hashOf s.riari.table ++ (if h.isEmpty then toBytes 48 0 else toBytes 48 (Config.sha384 h).toNat) ++
  toBytes 8 index ++ toBytes 64 0

/-- ATTEST: the report is written over the buffer, signed with the next index. -/
def State.attest (s : State) (a : Nat) : Ans :=
  if !s.inData a 4096 ∨ s.inReel a 4096 ∨ (s.accessFault (.aklofy 2) a 8 true).isSome then s.ans 0x0302
  else if (s.dev = .fault ∧ s.ak.fcause = 4) ∨ 2 ^ 40 ≤ s.riari.lmsNext then s.ans 0x0701
  else
    let q := s.riari.lmsNext
    let body := s.reportBody (readBytes s.mem a 32) q
    let n := s.freeCtr
    let rep := body ++ toBytes 96 (Config.signIdentity n (Config.sha384 body)).toNat ++ toBytes 3604 (Config.signHss q body).toNat
    let s := { s with freeCtr := n + 1, riari := { s.riari with lmsNext := q + 1, lmsRec := if q % 1024 = 0 then q + 1024 else s.riari.lmsRec } }
    let s := s.put a 4084 (ofBytes rep)
    (if 2 ^ 40 < q + 1 + 2 ^ 20 then s.setReason 3 else s).ans 0

/-! ### RETRAIN (R375) -/

/-- RETRAIN: the link goes through DOWN to TRAIN. -/
def State.retrain (s : State) (arg : Nat) : Ans :=
  let l := arg % 32
  if 64 ≤ arg ∨ (32 ≤ arg ∧ 16 ≤ l) then s.ans 0x0302
  else
    let k : LinkId := if 32 ≤ arg then .fabric (Fin.ofNat 16 l) else .catch_ (Fin.ofNat 32 l)
    let used := !isFab k && s.dev ≠ .standby && (List.range 64).any fun i => s.fget F.SITEW0_EN 0 (64 * l + i) = 1
    if used ∨ s.linkSt k = 0 then s.ans 0x0401
    else ((s.linkTo k 0).linkTo k 1).ans 0

end Sys2Proof.Machine
end

