-- ==== Sys2Proof/Machine/Dict.lean ====
section
/-! DEFINITION. The object dictionary: its entries, and what a READ and a WRITE do (13 R343 to R345; 00 R10, R11). -/
namespace Sys2Proof.Machine

/-! ### Entries -/

/-- What an entry stands for: a value computed when it is read, a register, a site entry, or what the server holds. -/
inductive DictSrc where
  | val (b : List Byte)
  | reg (k : RegKind) (t i : Nat)
  | site (l n : Nat)
  | hbint
  | hostpriv
  | ip (p f : Nat)
  | name
  | cred (k : Nat)
  | dbgUnlock
  | counter (k : Nat)
  | addr
  | data
  deriving DecidableEq, Repr

/-- An entry: its TYPE code (13 R331), access, privilege level, and source. -/
structure DictEnt where
  ty : Nat
  acc : Acc
  priv : Nat
  src : DictSrc
  deriving DecidableEq, Repr

/-- The length of a value of a TYPE, where the type fixes it. -/
def tyLen (ty : Nat) : Option Nat :=
  match ty with
  | 1 => some 1 | 2 => some 1 | 3 => some 2 | 4 => some 4 | 5 => some 8 | 6 => some 4 | 7 => some 8 | 8 => some 8 | 12 => some 2
  | _ => none

/-- The bytes of a text of ASCII characters. -/
def ascii (t : String) : List Byte := t.toList.map fun c => BitVec.ofNat 8 c.toNat

/-- A value of a TYPE of fixed length, from a number. -/
def tyBytes (ty n : Nat) : List Byte := toBytes ((tyLen ty).getD 0) n

/-- An entry whose value is a number. -/
def numEnt (ty : Nat) (acc : Acc) (priv n : Nat) : DictEnt := ⟨ty, acc, priv, .val (tyBytes ty n)⟩

/-- An entry that is an image of a register (13 R343). -/
def regEnt (acc : Acc) (priv : Nat) (k : RegKind) (t i : Nat) : DictEnt := ⟨5, acc, priv, .reg k t i⟩

/-- The IPv4 parameters of a management port: 0 IPADDR, 1 NETMASK, 2 GATEWAY (13 R344). -/
def State.ipParam (s : State) (p f : Nat) : Nat :=
  tget s.ak.ip (match f with | 0 => 0xC0A80064 + p | 1 => 0xFFFFFF00 | _ => 0) (p * 3 + f)

/-- A credential slot: 49 zero bytes while it is empty (13 R344). -/
def State.cred (s : State) (k : Nat) : List Byte := tget s.ak.creds (toBytes 49 0) k

/-- A counter of 0x8010 (13 R344). -/
def State.akCounter (s : State) (k : Nat) : Nat :=
  match k with
  | 0 => s.ak.akdisc | 1 => s.ak.akmacerr | 2 => s.ak.akauthf | _ => s.ak.evlost

/-- 0x1000 to 0x2000. -/
def State.dictDevice (s : State) (ix : Nat) : List DictEnt :=
  if ix = 0x1000 then
    [numEnt 4 .const 0 0x00064800, ⟨9, .const, 0, .val (ascii "Krytolco")⟩, ⟨9, .const, 0, .val (ascii "GV6480-M64-B1")⟩,
     ⟨9, .const, 0, .val (ascii "B1")⟩, ⟨9, .const, 0, .val (toBytes 16 Config.serial.toNat)⟩,
     ⟨10, .const, 0, .val (toBytes 48 Config.idHash.toNat)⟩,
     numEnt 4 .ro 0 (s.slotImage (s.fget F.UPDSTAT_ACTSLOT 0 0)).version, numEnt 3 .const 0 0x0102]
  else if ix = 0x1100 then
    [⟨4, .rw, 1, .hbint⟩, numEnt 2 .const 0 4, numEnt 2 .ro 0 (s.ak.sessions.filter fun x => x.opened).length, ⟨2, .rws, 1, .hostpriv⟩]
  else if ix = 0x1110 ∨ ix = 0x1111 then
    let p := ix - 0x1110
    [⟨4, .rws, 1, .ip p 0⟩, ⟨4, .rws, 1, .ip p 1⟩, ⟨4, .rws, 1, .ip p 2⟩, ⟨10, .const, 0, .val (toBytes 6 (Config.macAddr p).toNat)⟩,
     numEnt 1 .ro 0 (b2n (tget s.ak.linkUp false p))]
  else if ix = 0x2000 then [⟨9, .rw, 0, .name⟩]
  else []

/-- The entries of logical tile t at offset o. -/
def State.dictTile (s : State) (t o : Nat) : List DictEnt :=
  match o with
  | 0 => [regEnt .ro 0 .LTMAP 0 t, regEnt .ro 0 .PTSTAT 0 (s.physOf t)]
  | 1 => [regEnt .rw 1 .TPWR 0 t]
  | 2 => (List.range 16).map fun n => regEnt .ro 0 .TSTAT t n
  | 3 => (List.range 16).map fun n => regEnt .wo 1 .TCTL t n
  | 4 => (List.range 16).map fun n => regEnt .rw 1 .DBGT t n
  | 5 => [regEnt .rw 1 .MSCFG t 0, regEnt .rw 1 .SPBASE t 0, regEnt .rw 1 .SPSIZE t 0]
  | 6 => [regEnt .ro 0 .SCHSTAT t 0, regEnt .ro 0 .MSOCC t 0, regEnt .ro 0 .POPCNT t 0]
  | _ => []

/-- 0x4000 to 0x4FFF. -/
def dictLink (ix : Nat) : List DictEnt :=
  if ix < 0x4020 then
    let l := ix - 0x4000
    [regEnt .rw 1 .CLCFG 0 l, regEnt .ro 1 .CLSTAT 0 l, regEnt .rw 1 .CLCNT0 0 l, regEnt .rw 1 .CLCNT1 0 l]
  else if 0x4040 ≤ ix ∧ ix < 0x4060 then (List.range 64).map fun n => ⟨10, .rw, 1, .site (ix - 0x4040) n⟩
  else if 0x4100 ≤ ix ∧ ix < 0x4110 then
    let l := ix - 0x4100
    [regEnt .rw 1 .FLCFG 0 l, regEnt .ro 1 .FLSTAT 0 l, regEnt .rw 1 .FLCNT0 0 l, regEnt .ro 1 .FLDLY 0 l, regEnt .rw 1 .FLCNT1 0 l]
  else if ix = 0x4200 then [regEnt .rw 1 .FABCFG 0 0, regEnt .rw 1 .FABSTAT 0 0]
  else if ix = 0x4201 then [regEnt .rw 1 .RTBANK 0 0, regEnt .rw 1 .RTBANK 0 1]
  else []

/-- 0x5000 to 0x6FFF. -/
def State.dictClock (s : State) (ix : Nat) : List DictEnt :=
  if ix = 0x5000 then [regEnt .rw 1 .DRCFG 0 0, regEnt .ro 1 .DRSTAT 0 0, regEnt .wo 1 .MOCMD 0 0]
  else if ix = 0x5001 then (List.range 32).map fun c => regEnt .rw 1 .CHSTAT 0 c
  else if ix = 0x6000 then [regEnt .rw 1 .STRKCFG 0 0, regEnt .ro 1 .STRKSTAT 0 0, regEnt .rw 1 .SLATE 0 0, regEnt .rw 1 .EPOCH 0 0]
  else if ix = 0x6010 then
    [numEnt 12 .ro 0 (s.fget F.SLATE_TAKE 0 0), numEnt 5 .ro 0 (s.fget F.CUTSTRK_STROKE 0 0), numEnt 2 .ro 0 (wbits (s.reg .CUTTAKE 0 0) 16 5)]
  else if ix = 0x6020 then [regEnt .ro 0 .ARMFAIL 0 0]
  else if 0x6100 ≤ ix ∧ ix < 0x6140 then [regEnt .rw 1 .C0BOUND 0 (ix - 0x6100)]
  else []

/-- 0x7000 to 0x9FFF. -/
def State.dictAdmin (s : State) (ix : Nat) : List DictEnt :=
  if ix = 0x7100 then (List.range 8).map fun k => ⟨10, .rw, 1, .cred k⟩
  else if ix = 0x7200 then [⟨1, .rw, 1, .dbgUnlock⟩]
  else if ix = 0x8000 then [numEnt 2 .ro 0 s.dev.code, numEnt 1 .ro 0 (b2n s.degraded), numEnt 2 .ro 0 s.ak.fcause]
  else if ix = 0x8001 then [numEnt 1 .ro 0 (b2n s.ak.replreq), numEnt 4 .ro 0 s.ak.replreason]
  else if ix = 0x8010 then (List.range 4).map fun k => ⟨4, .rw, 1, .counter k⟩
  else if ix = 0x9000 then [⟨5, .rw, 1, .addr⟩, ⟨5, .rw, 1, .data⟩, numEnt 3 .ro 1 s.ak.lastab]
  else []

/-- The entries of an index, from subindex 01 up (13 R344); none for an index that does not exist. -/
def State.dictIndex (s : State) (ix : Nat) : List DictEnt :=
  if ix < 0x3000 then s.dictDevice ix
  else if ix < 0x4000 then s.dictTile ((ix - 0x3000) / 0x40) (ix % 0x40)
  else if ix < 0x5000 then dictLink ix
  else if ix < 0x7000 then s.dictClock ix
  else s.dictAdmin ix

/-- The entry at an index and subindex, or the abort code (13 R338); subindex 00 holds the highest subindex (00 Object dictionary notation). -/
def State.dictFind (s : State) (ix sub : Nat) : Except Nat DictEnt :=
  if 0xF000 ≤ ix then .error 0x0203
  else
    let l := s.dictIndex ix
    if l.isEmpty then .error 0x0101
    else if sub = 0 then .ok (numEnt 2 .const 0 l.length)
    else match l[sub - 1]? with
      | some e => .ok e
      | none => .error 0x0102

/-! ### DATA of 0x9000 (R345) -/

/-- Who makes an access through DATA: the debug port by its rights, the dictionary server on a lock cell. -/
def State.dataWho (s : State) (lvl : Nat) (a : Nat) : Sys2Proof.Req :=
  match s.region none a with
  | .treg _ o => match findKind tileKinds o with
    | some (.LKCELL, _) => .aklofy lvl
    | _ => .debug
  | _ => .debug

/-- What an access through DATA answers: the abort code, the value read, and the state after. -/
structure DataRes where
  code : Nat
  val : Word
  st : State
  deriving DecidableEq, Repr

/-- An access through DATA to memory; a bank that is RET starts to return, as for any access (10 R253). -/
def State.dataMem (s : State) (a : Nat) (w : Option Word) : DataRes :=
  match s.accessFault .debug a 8 w.isSome with
  | some k => ⟨if k = 0x10 then 0x0701 else 0x0302, 0, s⟩
  | none =>
    let s := match s.region none a with
      | .spad t o => if s.bankMode t (bankOf o) = 1 ∧ !s.bankBusy t (bankOf o) then s.bankStart t (bankOf o) 1 0 (some (s.now + 32)) else s
      | _ => s
    let r := s.access ⟨s.seqNo, .debug, if w.isSome then .write else .read, a, 8, 0, (w.getD 0).toNat, false, 3, s.seqNo, s.now⟩
    if r.code ≠ 0 then ⟨0x0701, 0, r.st⟩ else ⟨0, wd r.data, r.st⟩

/-- The access that a READ (no word) or WRITE of DATA makes at ADDR. -/
def State.dataAccess (s : State) (lvl : Nat) (w : Option Word) : DataRes :=
  let a := s.ak.addr.toNat
  if a % 8 ≠ 0 then ⟨0x0302, 0, s⟩
  else match s.region none a with
    | .dram _ => s.dataMem a w
    | .spad _ _ => s.dataMem a w
    | .mailbox o => match w with
      | none => ⟨0, tget s.mbx 0 (o / 8), s⟩
      | some v => ⟨0, 0, { s with mbx := tput s.mbx (o / 8) v }⟩
    | .rom _ => ⟨0x0302, 0, s⟩
    | .nor _ => ⟨0x0302, 0, s⟩
    | .riari _ => ⟨0x0302, 0, s⟩
    | .unmapped => ⟨0x0302, 0, s⟩
    | _ =>
      let who := s.dataWho lvl a
      match w with
      | none => match s.ioRead who none a with
        | .ok (v, t) => ⟨0, v, t⟩
        | .error _ => ⟨0x0302, 0, s⟩
      | some v => match s.ioWrite who none a v with
        | .ok t => ⟨0, 0, t⟩
        | .refuse cause ab => ⟨ab.getD (causeAbort cause), 0, s⟩

/-- An access through DATA, with LASTAB. -/
def State.dataPort (s : State) (lvl : Nat) (w : Option Word) : DataRes :=
  let r := s.dataAccess lvl w
  { r with st := { r.st with ak := { r.st.ak with lastab := r.code } } }

/-! ### READ -/

/-- The words of a site entry. -/
def siteKinds : List RegKind := [.SITEW0, .SITEW1, .SITEW2, .SITEW3]

/-- The value of an entry (13 R343): the state after, the abort code, and the bytes. -/
def State.dictGet (s : State) (lvl : Nat) (e : DictEnt) : Ans :=
  match e.src with
  | .val b => ⟨s, 0, b⟩
  | .reg k t i => let r := s.regRead (.aklofy lvl) k t i; ⟨r.2, 0, toBytes 8 r.1.toNat⟩
  | .site l n => ⟨s, 0, siteKinds.flatMap fun k => toBytes 8 (s.reg k 0 (64 * l + n)).toNat⟩
  | .hbint => ⟨s, 0, toBytes 4 s.ak.hbint⟩
  | .hostpriv => ⟨s, 0, toBytes 1 s.ak.hostpriv⟩
  | .ip p f => ⟨s, 0, toBytes 4 (s.ipParam p f)⟩
  | .name => ⟨s, 0, s.ak.name⟩
  | .cred k => ⟨s, 0, s.cred k⟩
  | .dbgUnlock => ⟨s, 0, toBytes 1 (b2n s.ak.dbgUnlock)⟩
  | .counter k => ⟨s, 0, toBytes 4 (s.akCounter k)⟩
  | .addr => ⟨s, 0, toBytes 8 s.ak.addr.toNat⟩
  | .data => let r := s.dataPort lvl none; ⟨r.st, r.code, toBytes 8 r.val.toNat⟩

/-- A READ at a level (13 R331, R338): the data of the reply is the TYPE code, 0, VLEN and the value. -/
def State.dictRead (s : State) (lvl ix sub : Nat) : Ans :=
  match s.dictFind ix sub with
  | .error c => s.ans c
  | .ok e =>
    if lvl < e.priv then s.ans 0x0203
    else if e.acc = .wo then s.ans 0x0202
    else if e.ty = 11 then s.ans 0x0301
    else
      let r := s.dictGet lvl e
      if r.code ≠ 0 then ⟨r.st, r.code, []⟩ else ⟨r.st, 0, toBytes 1 e.ty ++ toBytes 1 0 ++ toBytes 2 r.data.length ++ r.data⟩

/-! ### WRITE -/

/-- Is a byte string well-formed UTF-8? The next byte, when `n` are to follow, lies from `lo` to `hi`. -/
def utf8Ok (lo hi n : Nat) : List Byte → Bool
  | [] => n = 0
  | b :: r =>
    let v := b.toNat
    if n ≠ 0 then decide (lo ≤ v) && decide (v ≤ hi) && utf8Ok 0x80 0xBF (n - 1) r
    else if v < 0x80 then utf8Ok 0x80 0xBF 0 r
    else if v < 0xC2 then false
    else if v < 0xE0 then utf8Ok 0x80 0xBF 1 r
    else if v < 0xF0 then utf8Ok (if v = 0xE0 then 0xA0 else 0x80) (if v = 0xED then 0x9F else 0xBF) 2 r
    else if v < 0xF5 then utf8Ok (if v = 0xF0 then 0x90 else 0x80) (if v = 0xF4 then 0x8F else 0xBF) 3 r
    else false

/-- Characters of a UTF-8 string. -/
def utf8Len (l : List Byte) : Nat := (l.filter fun b => decide (b.toNat < 0x80) || decide (0xC0 ≤ b.toNat)).length

/-- The four words of a site entry are written, W0 first when the write leaves EN 0 and last otherwise; a refusal leaves the entry as it was (13 R338, R343; 09 R223). -/
def State.siteStore (s : State) (lvl l n : Nat) (b : List Byte) : Except Nat State :=
  let w := fun (i : Nat) => img64 b (8 * i)
  let order := if (w 0).getLsbD 0 then [1, 2, 3, 0] else [0, 1, 2, 3]
  order.foldl (fun r i => match r with
    | .error c => .error c
    | .ok t => match t.regWrite (.aklofy lvl) (siteKinds.getD i .SITEW0) 0 (64 * l + n) (w i) with
      | .ok u => .ok u
      | .refuse cause ab => .error (ab.getD (causeAbort cause))) (.ok s)

/-- A value of the right TYPE and length is placed in an entry (13 R343, R344; 00 R402 for the order of causes, R11). -/
def State.dictPut (s : State) (lvl : Nat) (e : DictEnt) (b : List Byte) : Ans :=
  let n := ofBytes b
  let ak := s.ak
  match e.src with
  | .val _ => s.ans 0x0201
  | .reg k t i => match s.regWrite (.aklofy lvl) k t i (wd n) with
    | .ok s' => s'.ans 0
    | .refuse cause ab => s.ans (ab.getD (causeAbort cause))
  | .site l k => match s.siteStore lvl l k b with
    | .ok s' => s'.ans 0
    | .error c => s.ans c
  | .hbint => if n < 10 ∨ 10000 < n then s.ans 0x0302 else ({ s with ak := { ak with hbint := n } } : State).ans 0
  | .hostpriv =>
    if lvl < n then s.ans 0x0203 else if 1 < n then s.ans 0x0302 else if s.dev ≠ .standby then s.ans 0x0401
    else ({ s with ak := { ak with hostpriv := n } } : State).ans 0
  | .ip p f => if s.dev ≠ .standby then s.ans 0x0401 else ({ s with ak := { ak with ip := tput ak.ip (p * 3 + f) n } } : State).ans 0
  | .name => if utf8Ok 0x80 0xBF 0 b && decide (utf8Len b ≤ 32) then ({ s with ak := { ak with name := b } } : State).ans 0 else s.ans 0x0301
  | .cred k =>
    let l := imgWord b 0 1
    if lvl < l then s.ans 0x0203 else if 1 < l then s.ans 0x0302
    else ({ s with ak := { ak with creds := tput ak.creds k b } } : State).ans 0
  | .dbgUnlock => if 1 < n then s.ans 0x0302 else ({ s with ak := { ak with dbgUnlock := n = 1 } } : State).ans 0
  | .counter k =>
    if n ≠ 0 then s.ans 0x0302
    else match k with
      | 0 => ({ s with ak := { ak with akdisc := 0 } } : State).ans 0
      | 1 => ({ s with ak := { ak with akmacerr := 0 } } : State).ans 0
      | 2 => ({ s with ak := { ak with akauthf := 0 } } : State).ans 0
      | _ => ({ s with ak := { ak with evlost := 0 } } : State).ans 0
  | .addr => ({ s with ak := { ak with addr := wd n } } : State).ans 0
  | .data => let r := s.dataPort lvl (some (wd n)); ⟨r.st, r.code, []⟩

/-- The length an entry's value must have: that of its TYPE, 32 bytes for a site entry, 49 for a credential; up to 1,024 for a string. -/
def DictEnt.lenOk (e : DictEnt) (n : Nat) : Bool :=
  match e.src with
  | .site _ _ => n = 32
  | .cred _ => n = 49
  | _ => match tyLen e.ty with
    | some k => n = k
    | none => decide (n ≤ 1024)

/-- A WRITE at a level (13 R331, R338). -/
def State.dictWrite (s : State) (lvl ix sub ty : Nat) (b : List Byte) : Ans :=
  match s.dictFind ix sub with
  | .error c => s.ans c
  | .ok e =>
    if lvl < e.priv then s.ans 0x0203
    else if e.acc = .ro ∨ e.acc = .const then s.ans 0x0201
    else if e.ty = 11 ∨ ty ≠ e.ty ∨ !e.lenOk b.length then s.ans 0x0301
    else s.dictPut lvl e b

end Sys2Proof.Machine
end

