-- ==== Sys2Proof/Machine/Commands.lean ====
section
/-! DEFINITION. The requests that both doors carry: READ, WRITE, DOPEN, SEG and the commands, with their privilege, states and abort codes (13 R331, R336 to R342; 14 R370). -/
namespace Sys2Proof.Machine

/-- Whose request it is: a session's, or the host command ring's. -/
inductive Client where
  | sess (sid : Nat)
  | host
  deriving DecidableEq, Repr

/-- A session by its number. -/
def State.session? (s : State) (sid : Nat) : Option Session := s.ak.sessions.find? fun x => x.sid = sid

/-- A session changed. -/
def State.onSession (s : State) (sid : Nat) (g : Session → Session) : State :=
  { s with ak := { s.ak with sessions := s.ak.sessions.map fun (x : Session) => if x.sid = sid then g x else x } }

/-! ### DOMAIN transfers (R336) -/

/-- The transfer a client holds. -/
def State.xferOf (s : State) : Client → Option Xfer
  | .sess sid => (s.session? sid).bind fun x => x.xfer
  | .host => s.hostp.xfer

/-- The transfer of a client replaced. -/
def State.setXfer (s : State) (cl : Client) (x : Option Xfer) : State :=
  match cl with
  | .sess sid => s.onSession sid fun k => { k with xfer := x }
  | .host => { s with hostp := { s.hostp with xfer := x } }

/-- DOPEN: the entry must be a DOMAIN entry that may be read or written at the level. -/
def State.dopen (s : State) (cl : Client) (lvl : Nat) (p : List Byte) : Ans :=
  let dir := imgWord p 3 1
  if p.length ≠ 8 ∨ 1 < dir then s.ans 0x0301
  else if (s.xferOf cl).isSome then s.ans 0x0501
  else if s.dev = .fault ∧ dir = 1 then s.ans 0x0401
  else match s.dictFind (imgWord p 0 2) (imgWord p 2 1) with
    | .error c => s.ans c
    | .ok e =>
      if lvl < e.priv then s.ans 0x0203
      else if dir = 0 ∧ e.acc = .wo then s.ans 0x0202
      else if dir = 1 ∧ (e.acc = .ro ∨ e.acc = .const) then s.ans 0x0201
      else if e.ty ≠ 11 then s.ans 0x0301
      else
        let r := if dir = 0 then s.dictGet lvl e else s.ans 0
        if r.code ≠ 0 then ⟨r.st, r.code, []⟩
        else (r.st.setXfer cl (some ⟨imgWord p 0 2, imgWord p 2 1, dir = 1, imgWord p 4 4, 0, r.data⟩)).ans 0

/-- A DOMAIN write takes effect with its last segment. -/
def State.domainDone (s : State) (lvl : Nat) (x : Xfer) (data : List Byte) : Ans :=
  match s.dictFind x.index x.sub with
  | .error c => s.ans c
  | .ok e => s.dictPut lvl e data

/-- SEG: in ascending OFFSET, each where the previous one ended. -/
def State.seg (s : State) (cl : Client) (lvl : Nat) (p : List Byte) : Ans :=
  let off := imgWord p 0 4
  let len := imgWord p 4 2
  let last := imgWord p 6 1 = 1
  match s.xferOf cl with
  | none => s.ans 0x0302
  | some x =>
    if p.length < 8 ∨ 1024 < len ∨ 1 < imgWord p 6 1 ∨ imgWord p 7 1 ≠ 0 ∨ p.length ≠ 8 + (if x.write then len else 0) then s.ans 0x0301
    else if off ≠ x.off ∨ x.total < off + len ∨ (last ∧ x.write ∧ off + len ≠ x.total) then s.ans 0x0302
    else
      let data := if x.write then x.data ++ p.drop 8 else x.data
      let r := if last ∧ x.write then s.domainDone lvl x data else s.ans 0
      let next := if last then none else some { x with off := off + len, data := data }
      ⟨r.st.setXfer cl next, r.code, if x.write then [] else (x.data.drop off).take len⟩

/-! ### Commands (R340, R341; 14 R370) -/

/-- The states of a command that live update allows. -/
def liveStates : List DevState := [.standby, .armed, .running]

/-- A command code: how many arguments it takes, its privilege, and the states in which it is legal. -/
def cmdInfo (code : Nat) : Option (Nat × Nat × List DevState) :=
  match code with
  | 0x0001 => some (0, 1, liveStates ++ [.draining, .fault])
  | 0x0010 => some (0, 0, [.standby])
  | 0x0011 => some (1, 0, [.armed])
  | 0x0012 => some (0, 0, [.armed, .running])
  | 0x0013 => some (1, 1, liveStates)
  | 0x0030 => some (1, 0, liveStates ++ [.draining, .fault])
  | 0x0100 => some (2, 1, liveStates ++ [.fault])
  | 0x0101 => some (1, 1, liveStates)
  | 0x0110 => some (0, 1, liveStates)
  | 0x0111 => some (0, 1, liveStates ++ [.fault])
  | 0x0120 => some (2, 1, liveStates)
  | 0x0121 => some (1, 1, liveStates)
  | 0x0130 => some (1, 0, liveStates ++ [.draining, .fault])
  | 0x0140 => some (1, 1, liveStates)
  | _ => none

/-- The spill areas in use: first byte and the byte past the last (02 R43, R44). -/
def State.spillAreas (s : State) : List (Nat × Nat) :=
  ((List.range 64).filter fun t => s.fget F.SPSIZE_SIZE t 0 ≠ 0 ∧ s.fget F.MSCFG_SPILLEN t 0 = 1).map fun t =>
    (s.fget F.SPBASE_BASE t 0 * 2 ^ 20, (s.fget F.SPBASE_BASE t 0 + s.fget F.SPSIZE_SIZE t 0) * 2 ^ 20)

/-- Does a spill area overlap another, or leave the data space (02 R44)? -/
def State.spillBad (s : State) : Bool :=
  let l := s.spillAreas
  l.any (fun a => decide (s.dsize < a.2)) ||
  l.zipIdx.any fun a => l.zipIdx.any fun b => decide (a.2 < b.2) && decide (a.1.1 < b.1.2) && decide (b.1.1 < a.1.2)

/-- ARM (R341): arming, and after a failure the ARMFAIL image. A spill area that R44 refuses loads no ARMFAIL. -/
def State.armCmd (s : State) : Ans :=
  let image := fun (t : State) => toBytes 8 (t.reg .ARMFAIL 0 0).toNat
  if s.spillBad then ⟨s, 0x0302, image s⟩
  else match s.arming with
    | (t, some _) => ⟨t, 0x0302, image t⟩
    | (t, none) => t.ans 0

/-- RUN and CUT (R341; 14 R373). -/
def State.cutCmd (s : State) (stroke : Nat) (byRun : Bool) : Ans :=
  if s.cutArmed then s.ans 0x0402
  else if stroke ≤ s.count then s.ans 0x0302
  else if s.reelBlocks then s.ans 0x0401
  else match s.armCut stroke byRun with
    | .ok t => t.ans 0
    | .error c => s.ans c

/-- DISARM (R341): DRAINING; the disarm of 04 R108 follows at the next stroke boundary. -/
def State.disarmCmd (s : State) : Ans :=
  let t := s.enter .draining
  ({ t with stroke := { t.stroke with disarm := true } } : State).ans 0

/-- EVSUB (R341). -/
def State.evsub (s : State) (cl : Client) (mask : Nat) : Ans :=
  (match cl with
    | .sess sid => s.onSession sid fun x => { x with mask := wd mask }
    | .host => { s with hostp := { s.hostp with mask := wd mask } }).ans 0

/-- What a legal command does, by its code; RESET takes effect after its reply. -/
def State.runCmd (s : State) (cl : Client) (code a0 a1 : Nat) : Ans :=
  match code with
  | 0x0001 => s.ans 0
  | 0x0010 => s.armCmd
  | 0x0011 => s.cutCmd a0 true
  | 0x0012 => s.disarmCmd
  | 0x0013 => s.cutCmd a0 false
  | 0x0030 => s.evsub cl a0
  | 0x0100 => s.verify a0 a1
  | 0x0101 => s.unstage a0
  | 0x0110 => s.fwact
  | 0x0111 => s.fwcommit
  | 0x0120 => s.subst a0 a1
  | 0x0121 => s.subcan a0
  | 0x0130 => s.attest a0
  | _ => s.retrain a0

/-- Is the payload of a CMD message well formed (R331)? -/
def cmdOk (p : List Byte) : Bool := decide (4 ≤ p.length) && imgWord p 2 2 = 0 && (p.length - 4) % 8 = 0 && decide (p.length ≤ 36)

/-- A CMD message (R338, R340, R342; 14 R370). -/
def State.command (s : State) (cl : Client) (lvl : Nat) (p : List Byte) : Ans :=
  if !cmdOk p then s.ans 0x0301
  else match cmdInfo (imgWord p 0 2) with
    | none => s.ans (if s.dev = .fault then 0x0401 else 0x0302)
    | some (n, priv, legal) =>
      if s.dev = .fault ∧ !legal.contains .fault then s.ans 0x0401
      else if p.length ≠ 4 + 8 * n then s.ans 0x0301
      else if lvl < priv then s.ans 0x0203
      else if !legal.contains s.dev then s.ans 0x0401
      else s.runCmd cl (imgWord p 0 2) (imgWord p 4 8) (imgWord p 12 8)

/-! ### Requests -/

/-- The request of a message type at a level (R331). In FAULT the recovery server serves no WRITE (R342). -/
def State.request (s : State) (cl : Client) (lvl mt : Nat) (p : List Byte) : Ans :=
  match mt with
  | 0x10 => if p.length ≠ 4 ∨ imgWord p 3 1 ≠ 0 then s.ans 0x0301 else s.dictRead lvl (imgWord p 0 2) (imgWord p 2 1)
  | 0x11 =>
    if s.dev = .fault then s.ans 0x0401
    else if p.length < 8 ∨ imgWord p 6 2 ≠ 0 ∨ p.length ≠ 8 + imgWord p 4 2 then s.ans 0x0301
    else s.dictWrite lvl (imgWord p 0 2) (imgWord p 2 1) (imgWord p 3 1) (p.drop 8)
  | 0x12 => s.dopen cl lvl p
  | 0x13 => s.seg cl lvl p
  | 0x20 => s.command cl lvl p
  | _ => s.ans 0x0302

/-- A request with what an abort code brings: it ends a transfer of the client (R336), and an internal error is logged in FCAUSE (R338, R344). -/
def State.performReq (s : State) (cl : Client) (lvl mt : Nat) (p : List Byte) : Ans :=
  let r := s.request cl lvl mt p
  if r.code = 0 then r
  else
    let t := r.st.setXfer cl none
    { r with st := if r.code = 0x0701 ∧ t.ak.fcause = 0 then { t with ak := { t.ak with fcause := 5 } } else t }

/-- The payload of a REPLY (R331). -/
def Ans.payload (a : Ans) : List Byte := toBytes 2 a.code ++ toBytes 2 0 ++ a.data

/-- Is this the RESET command, to be carried out once its reply has left (R339)? -/
def isResetCmd (mt : Nat) (p : List Byte) (a : Ans) : Bool := mt = 0x20 && imgWord p 0 2 = 1 && a.code = 0

/-- Does the control complex serve requests: not in RESET and BOOT, nor while BUSY is 1 (R335, R353)? -/
def State.serving (s : State) : Bool := s.dev ≠ .reset && s.dev ≠ .boot && s.riari.fwStep = 0

end Sys2Proof.Machine
end

