-- ==== Sys2Proof/Machine/Aklofy.lean ====
section
/-! DEFINITION. Aklofy over the management ports: datagrams, sessions, and the rows that are client messages (13 R329 to R335, R348). A row whose message is of another type, or another command's, changes nothing. -/
namespace Sys2Proof.Machine

/-! ### Datagrams (R329, R330) -/

/-- MTYPE of a datagram. -/
def mtypeOf (b : List Byte) : Nat := imgWord b 2 1

/-- Is the message type one that a client sends? -/
def clientType (mt : Nat) : Bool := [0x01, 0x03, 0x04, 0x10, 0x11, 0x12, 0x13, 0x20, 0x31, 0x41].contains mt

/-- Is the datagram one that R329 does not discard, whatever its session? -/
def datagramOk (b : List Byte) : Bool :=
  let len := imgWord b 12 2
  decide (16 ≤ b.length) && imgWord b 0 2 = 0x0102 && decide (imgWord b 3 1 < 2) && imgWord b 14 2 = 0 && decide (len ≤ 1440) &&
  clientType (mtypeOf b) && b.length = 16 + len + (if mtypeOf b = 1 then 0 else 16)

/-- The payload of a datagram. -/
def payloadOf (b : List Byte) : List Byte := (b.drop 16).take (imgWord b 12 2)

/-- Does the MAC of a datagram verify (R334)? -/
def Session.macOk (x : Session) (b : List Byte) : Bool :=
  let n := 16 + imgWord b 12 2
  akMac x.key (b.take n) = b.drop n

/-- A datagram is discarded and counted (R329). -/
def State.akDisc (s : State) : State := { s with ak := { s.ak with akdisc := min (2 ^ 32 - 1) (s.ak.akdisc + 1) } }

/-- A message with a wrong MAC is discarded and counted (R334). -/
def State.akMacErr (s : State) : State := { s with ak := { s.ak with akmacerr := min (2 ^ 32 - 1) (s.ak.akmacerr + 1) } }

/-! ### The life of a session (R333, R335) -/

/-- Cycles of a millisecond. -/
def msCycles : Nat := 1600000

/-- HBINT in cycles. -/
def State.hbCycles (s : State) : Nat := s.ak.hbint * msCycles

/-- Has a session outlived the second after CHAL that AUTH has? -/
def State.authOver (s : State) (x : Session) : Bool := !x.opened && decide (x.start + 1000 * msCycles ≤ s.now)

/-- Has no message of an open session arrived for 3 × HBINT? -/
def State.silent (s : State) (x : Session) : Bool := x.opened && decide (x.lastMsg + 3 * s.hbCycles ≤ s.now)

/-- A session ends, with its subscription and its transfer. -/
def State.endSession (s : State) (sid : Nat) : State :=
  { s with ak := { s.ak with sessions := s.ak.sessions.filter fun x => x.sid ≠ sid } }

/-- The sessions whose time is over end. -/
def State.purge (s : State) : State :=
  { s with ak := { s.ak with sessions := s.ak.sessions.filter fun x => !s.authOver x && !s.silent x } }

/-- AUTH_TIMEOUT (R333). -/
def execAuthTimeout (dt : Nat) (sid : Nat) (s : State) : Host.Outcome State Fault Refusal :=
  let s := s.advance dt
  .next (if s.ak.sessions.any (fun x => x.sid = sid && s.authOver x) then s.endSession sid else s)

/-- SESSION_TIMEOUT (R335). -/
def execSessionTimeout (dt : Nat) (sid : Nat) (s : State) : Host.Outcome State Fault Refusal :=
  let s := s.advance dt
  .next (if s.ak.sessions.any (fun x => x.sid = sid && s.silent x) then s.endSession sid else s)

/-- AUTH_LOCKOUT_EXPIRY (R334). -/
def execAuthLockoutExpiry (dt : Nat) (ip : Nat) (s : State) : Host.Outcome State Fault Refusal :=
  let s := s.advance dt
  .next (if tget s.ak.blocked 0 ip ≤ s.now then { s with ak := { s.ak with blocked := tdel s.ak.blocked ip } } else s)

/-! ### Heartbeats and events (R335, R348) -/

/-- The heartbeat of a session, with its pending records sent again. -/
def State.heartbeat (s : State) (x : Session) : State :=
  let hb := toBytes 8 s.slate.toNat ++ toBytes 1 s.dev.code ++ toBytes 1 (b2n s.degraded) ++ toBytes 6 0
  let s := (s.onSession x.sid fun y => { y with hbAt := s.now }).akSend x 0x40 hb
  x.recs.foldl (fun s e => s.akSend x 0x30 e.bytes) s

/-- HB (R335, R348): due when HBINT has passed since the last. -/
def execHb (dt : Nat) (sid : Nat) (s : State) : Host.Outcome State Fault Refusal :=
  let s := s.advance dt
  .next (match s.session? sid with
    | some x => if s.serving && x.opened && decide (x.hbAt + s.hbCycles ≤ s.now) then s.heartbeat x else s
    | none => s)

/-- Records up to one that EVACK names are no longer pending. -/
def Session.acked (x : Session) (n : Nat) : Session := { x with recs := x.recs.filter fun e => decide (32768 ≤ (n + 65536 - e.eseq) % 65536) }

/-- The EVLOST record of a session, once there is room (R348). -/
def State.sessionLost (s : State) (sid : Nat) : State :=
  match s.session? sid with
  | some x =>
    if x.lost ≠ 0 ∧ x.recs.length < 64 then
      let y := { x with lost := 0 }
      (s.onSession sid fun _ => y).eventTo 11 (min (2 ^ 32 - 1) x.lost) 0 y
    else s
  | none => s

/-! ### Replies (R331, R332) -/

/-- A message leaves to the sender of a datagram. -/
def State.sendTo (s : State) (m : AkMsg) (b : List Byte) : State := s.emit (.aklofy m.port.val m.ip m.udp b)

/-- The REPLY to an accepted request: it is kept, and it leaves. -/
def Ans.reply (a : Ans) (m : AkMsg) (x : Session) : State :=
  let seq := imgWord m.bytes 8 4
  let b := x.frame 0x7F seq a.payload
  (a.st.onSession x.sid fun y => { y with lastSeq := seq, reply := b }).sendTo m b

/-- A REPLY without a session, as an OPEN that is not accepted is answered (R333). -/
def State.bareReply (s : State) (m : AkMsg) (code : Nat) : State :=
  s.sendTo m (akHeader 0x7F 0 (imgWord m.bytes 8 4) 4 ++ (s.ans code).payload)

/-! ### Reception -/

/-- A datagram for the row of message type `mt`: the checks of R329 and R334, in the order type, session, MAC. What the row does with the session's message is `f`. -/
def State.receive (s : State) (m : AkMsg) (mt : Nat) (f : State → Session → State) : State :=
  if !s.serving then s
  else
    let s := s.purge
    if !datagramOk m.bytes then s.akDisc
    else if mtypeOf m.bytes ≠ mt then s
    else match s.session? (imgWord m.bytes 4 4) with
      | none => s.akDisc
      | some x =>
        if !x.macOk m.bytes then s.akMacErr
        else if !x.opened && mt ≠ 3 && mt ≠ 4 then s.akDisc
        else f (s.onSession x.sid fun y => { y with lastMsg := s.now }) x

/-- A request by its SEQ (R332): the next is accepted, the last is answered from the cache, any other is discarded. -/
def State.bySeq (s : State) (m : AkMsg) (x : Session) (f : State → State) : State :=
  let seq := imgWord m.bytes 8 4
  if seq = x.lastSeq ∧ x.reply ≠ [] then s.sendTo m x.reply
  else if seq = (x.lastSeq + 1) % 2 ^ 32 then f s
  else s.akDisc

/-- An accepted request of a session; RESET follows its reply. -/
def State.serve (s : State) (m : AkMsg) (x : Session) (mt : Nat) : State :=
  let p := payloadOf m.bytes
  let a := s.performReq (.sess x.sid) x.level mt p
  let t := a.reply m x
  if isResetCmd mt p a then t.resetCmd else t

/-- A request of message type `mt` arrives. -/
def State.requestMsg (s : State) (m : AkMsg) (mt : Nat) : State := s.receive m mt fun s x => s.bySeq m x fun s => s.serve m x mt

/-! ### Opening and closing a session (R333, R334) -/

/-- The words of a nonce: free values (log 2). -/
def nonce (n : Nat) : List Byte := (List.range 4).flatMap fun k => toBytes 8 (Config.freeWord (n + k)).toNat

/-- CHAL: a session begins. -/
def State.challenge (s : State) (m : AkMsg) (p : List Byte) : State :=
  let n := s.freeCtr
  let key := toBytes 97 (Config.ephKey n).toNat
  let nd := nonce (n + 1)
  let sig := toBytes 96 (Config.signIdentity n (Config.sha384 (p ++ key ++ nd))).toNat
  let chal := key ++ nd ++ sig
  let nc := (p.drop 98).take 32
  let k := Config.hkdf384 (nc ++ nd) (toBytes 48 (Config.ecdh n ((p.drop 1).take 97)).toNat) (ascii "AKLOFY1.2")
  let sid := s.ak.nextSid
  let x : Session :=
    { sid := sid, port := m.port.val, src := m.ip, udp := m.udp, level := imgWord p 0 1, opened := false, key := toBytes 48 k.toNat, nc := nc
      chal := chal, start := s.now, lastSeq := 0, reply := [], lastMsg := s.now, mask := wd (2 ^ 64 - 1), eseq := 0, recs := [], lost := 0
      xfer := none, hbAt := s.now }
  ({ s with freeCtr := n + 5, ak := { s.ak with sessions := s.ak.sessions ++ [x], nextSid := sid % (2 ^ 32 - 1) + 1 } } : State).sendTo m
    (akHeader 0x02 sid (imgWord m.bytes 8 4) 225 ++ chal)

/-- OPEN. -/
def State.openMsg (s : State) (m : AkMsg) : State :=
  if !s.serving then s
  else
    let s := s.purge
    let p := payloadOf m.bytes
    if !datagramOk m.bytes then s.akDisc
    else if mtypeOf m.bytes ≠ 1 then s
    else if imgWord m.bytes 4 4 ≠ 0 then s.akDisc
    else if s.now < tget s.ak.blocked 0 m.ip then s
    else if p.length ≠ 130 then s.bareReply m 0x0301
    else if 2 < imgWord p 0 1 then s.bareReply m 0x0302
    else if 4 ≤ s.ak.sessions.length then s.bareReply m 0x0501
    else s.challenge m p

/-- OPEN (R333). -/
def execAopen (dt : Nat) (m : Sys2Proof.AkMsg) (s : State) : Host.Outcome State Fault Refusal := .next ((s.advance dt).openMsg m)

/-- Does AUTH open the session: a slot that is not empty, at the level asked for or above, and the signature of its credential? -/
def State.authOk (s : State) (x : Session) (p : List Byte) : Bool :=
  let slot := imgWord p 0 1
  let sig := p.drop 1
  let digest := Config.sha384 (x.chal ++ x.nc)
  p.length = 97 &&
  (if slot = 0 then Config.verifyHashed (toBytes 48 Config.vhe.toNat) digest sig
  else
    let c := s.cred (slot - 1)
    decide (slot ≤ 8) && ofBytes c ≠ 0 && decide (x.level ≤ imgWord c 0 1) && Config.verifyHashed (c.drop 1) digest sig)

/-- A failed AUTH: counted, and with the fourth in a row OPEN from the address is blocked for 10 s. -/
def State.authFail (s : State) (ip : Nat) : State :=
  let n := tget s.ak.fails 0 ip + 1
  let ak := { s.ak with akauthf := min (2 ^ 32 - 1) (s.ak.akauthf + 1) }
  if 4 ≤ n then { s with ak := { ak with fails := tdel ak.fails ip, blocked := tput ak.blocked ip (s.now + 10000 * msCycles) } }
  else { s with ak := { ak with fails := tput ak.fails ip n } }

/-- AUTH of a session: it opens, or it ends. -/
def State.auth (s : State) (m : AkMsg) (x : Session) : State :=
  if x.opened then (s.ans 0x0401).reply m x
  else if s.authOk x (payloadOf m.bytes) then
    let t := s.onSession x.sid fun y => { y with opened := true, hbAt := s.now }
    (({ t with ak := { t.ak with fails := tdel t.ak.fails m.ip } } : State).ans 0).reply m x
  else (((s.ans 0x0601).reply m x).endSession x.sid).authFail m.ip

/-- AUTH (R333, R334). -/
def execAuth (dt : Nat) (m : Sys2Proof.AkMsg) (s : State) : Host.Outcome State Fault Refusal :=
  .next ((s.advance dt).receive m 3 fun s x => s.bySeq m x fun s => s.auth m x)

/-- CLOSE (R335). -/
def execClose (dt : Nat) (m : Sys2Proof.AkMsg) (s : State) : Host.Outcome State Fault Refusal :=
  .next ((s.advance dt).receive m 4 fun s x => s.endSession x.sid)

/-- HBACK (R335). -/
def execHback (dt : Nat) (m : Sys2Proof.AkMsg) (s : State) : Host.Outcome State Fault Refusal :=
  .next ((s.advance dt).receive m 0x41 fun s _ => s)

/-- EVACK of a session. -/
def State.evack (s : State) (m : AkMsg) (x : Session) : State :=
  let p := payloadOf m.bytes
  if p.length ≠ 4 ∨ imgWord p 2 2 ≠ 0 then s.akDisc
  else (s.onSession x.sid fun y => y.acked (imgWord p 0 2)).sessionLost x.sid

/-- EVACK (R348). -/
def execEvack (dt : Nat) (m : Sys2Proof.AkMsg) (s : State) : Host.Outcome State Fault Refusal :=
  .next ((s.advance dt).receive m 0x31 fun s x => s.evack m x)

/-! ### Requests -/

/-- READ (R343). -/
def execRead (dt : Nat) (m : Sys2Proof.AkMsg) (s : State) : Host.Outcome State Fault Refusal := .next ((s.advance dt).requestMsg m 0x10)

/-- WRITE (R343). -/
def execWrite (dt : Nat) (m : Sys2Proof.AkMsg) (s : State) : Host.Outcome State Fault Refusal := .next ((s.advance dt).requestMsg m 0x11)

/-- DOPEN (R336). -/
def execDopen (dt : Nat) (m : Sys2Proof.AkMsg) (s : State) : Host.Outcome State Fault Refusal := .next ((s.advance dt).requestMsg m 0x12)

/-- SEG (R336). -/
def execSeg (dt : Nat) (m : Sys2Proof.AkMsg) (s : State) : Host.Outcome State Fault Refusal := .next ((s.advance dt).requestMsg m 0x13)

/-- Is the datagram a CMD message that belongs to another command's row? A code that is no command belongs to every row. -/
def otherCmd (b : List Byte) (code : Nat) : Bool :=
  mtypeOf b = 0x20 && imgWord b 16 2 ≠ code && (cmdInfo (imgWord b 16 2)).isSome

/-- A CMD message for the row of a command. -/
def State.cmdMsg (s : State) (m : AkMsg) (code : Nat) : State := if otherCmd m.bytes code then s else s.requestMsg m 0x20

/-- RESET (R339). -/
def execReset (dt : Nat) (m : Sys2Proof.AkMsg) (s : State) : Host.Outcome State Fault Refusal := .next ((s.advance dt).cmdMsg m 0x0001)

/-- ARM (R341). -/
def execArm (dt : Nat) (m : Sys2Proof.AkMsg) (s : State) : Host.Outcome State Fault Refusal := .next ((s.advance dt).cmdMsg m 0x0010)

/-- RUN (R341). -/
def execRun (dt : Nat) (m : Sys2Proof.AkMsg) (s : State) : Host.Outcome State Fault Refusal := .next ((s.advance dt).cmdMsg m 0x0011)

/-- DISARM (R341). -/
def execDisarm (dt : Nat) (m : Sys2Proof.AkMsg) (s : State) : Host.Outcome State Fault Refusal := .next ((s.advance dt).cmdMsg m 0x0012)

/-- CUT (R341). -/
def execCut (dt : Nat) (m : Sys2Proof.AkMsg) (s : State) : Host.Outcome State Fault Refusal := .next ((s.advance dt).cmdMsg m 0x0013)

/-- EVSUB (R341). -/
def execEvsub (dt : Nat) (m : Sys2Proof.AkMsg) (s : State) : Host.Outcome State Fault Refusal := .next ((s.advance dt).cmdMsg m 0x0030)

/-- VERIFY (14 R371). -/
def execVerify (dt : Nat) (m : Sys2Proof.AkMsg) (s : State) : Host.Outcome State Fault Refusal := .next ((s.advance dt).cmdMsg m 0x0100)

/-- UNSTAGE (14 R371). -/
def execUnstage (dt : Nat) (m : Sys2Proof.AkMsg) (s : State) : Host.Outcome State Fault Refusal := .next ((s.advance dt).cmdMsg m 0x0101)

/-- FWACT (14 R374). -/
def execFwact (dt : Nat) (m : Sys2Proof.AkMsg) (s : State) : Host.Outcome State Fault Refusal := .next ((s.advance dt).cmdMsg m 0x0110)

/-- FWCOMMIT (14 R374). -/
def execFwcommit (dt : Nat) (m : Sys2Proof.AkMsg) (s : State) : Host.Outcome State Fault Refusal := .next ((s.advance dt).cmdMsg m 0x0111)

/-- SUBST (14 R377). -/
def execSubst (dt : Nat) (m : Sys2Proof.AkMsg) (s : State) : Host.Outcome State Fault Refusal := .next ((s.advance dt).cmdMsg m 0x0120)

/-- SUBCAN (14 R377). -/
def execSubcan (dt : Nat) (m : Sys2Proof.AkMsg) (s : State) : Host.Outcome State Fault Refusal := .next ((s.advance dt).cmdMsg m 0x0121)

/-- ATTEST (14 R368). -/
def execAttest (dt : Nat) (m : Sys2Proof.AkMsg) (s : State) : Host.Outcome State Fault Refusal := .next ((s.advance dt).cmdMsg m 0x0130)

/-- RETRAIN (14 R375). -/
def execRetrain (dt : Nat) (m : Sys2Proof.AkMsg) (s : State) : Host.Outcome State Fault Refusal := .next ((s.advance dt).cmdMsg m 0x0140)

/-- MANAGEMENT_LINK_CHANGE (R344). -/
def execManagementLinkChange (dt : Nat) (p : Fin 2) (up : Bool) (s : State) : Host.Outcome State Fault Refusal :=
  let s := s.advance dt
  .next { s with ak := { s.ak with linkUp := tput s.ak.linkUp p.val up } }

end Sys2Proof.Machine
end

