-- ==== Sys2Proof/Machine/HostPort.lean ====
section
/-! DEFINITION. The PCIe host port and the debug access port: the command ring and the H2D rings, host accesses through the BARs, attention pulses, H_PERST#, the Hot Reset, and DAPACC (13 R349 to R355; 15 R395; 12 R326; 10 R250, R406). -/
namespace Sys2Proof.Machine

/-! ### Rings that the device reads (R350) -/

/-- Is a ring enabled with an entry to be read? -/
def State.ringEntry (s : State) (r : Nat) : Bool := s.fget F.RCFG_EN 0 r = 1 && decide (s.ringUsed r ≠ 0)

/-- The device has consumed an entry: HEAD advances, and the MSI-X message follows (R350, R351). -/
def State.ringTook (s : State) (r : Nat) : State := (s.fset F.RHEAD_HEAD 0 r (s.fget F.RHEAD_HEAD 0 r + 1)).ringSignal r

/-- Is the header of a command entry well formed: VER, no reserved bit, SID 0, and a payload within the entry? -/
def entryOk (b : List Byte) : Bool :=
  imgWord b 0 2 = 0x0102 && decide (imgWord b 3 1 < 2) && imgWord b 4 4 = 0 && imgWord b 14 2 = 0 && decide (imgWord b 12 2 ≤ 1440) &&
  decide (16 + imgWord b 12 2 ≤ b.length)

/-- The answer to a command entry, at level HOSTPRIV. -/
def State.entryAns (s : State) (b : List Byte) : Ans :=
  let mt := mtypeOf b
  if !entryOk b then s.ans 0x0301
  else if [0x10, 0x11, 0x12, 0x13, 0x20].contains mt then s.performReq .host s.ak.hostpriv mt (payloadOf b)
  else s.ans 0x0302

/-- The REPLY is written over the entry, and HEAD advances. -/
def Ans.overEntry (a : Ans) (n seq : Nat) : State :=
  (a.st.emit (.ring 0 n (akHeader 0x7F 0 seq a.payload.length ++ a.payload))).ringTook 0

/-- The entry at HEAD of the command ring is executed. -/
def State.commandEntry (s : State) (b : List Byte) : State :=
  if s.serving && !s.hostp.perst && s.ringEntry 0 then
    let a := s.entryAns b
    let t := a.overEntry (s.fget F.RHEAD_HEAD 0 0) (imgWord b 8 4)
    if entryOk b && isResetCmd (mtypeOf b) (payloadOf b) a then t.resetCmd else t
  else s

/-- COMMAND_RING_ENTRY (R350), with the entry's bytes as they stand in the host's memory. -/
def execCommandRingEntry (dt : Nat) (entry : List Byte) (s : State) : Host.Outcome State Fault Refusal := .next ((s.advance dt).commandEntry entry)

/-- The entry at HEAD of H2D ring d: a token that is injected at router (0,4), or refused. Without credit it waits. -/
def State.h2dEntry (s : State) (d : Nat) (k : Token) : State :=
  let r := 2 + d
  if s.ringEntry r && s.fget F.RCFG_DIR 0 r = 1 then
    if k.ord || k.fault || k.sticky || k.rsvd then (s.event 2 (s.fget F.RHEAD_HEAD 0 r) 4).ringTook r
    else match s.sendTok none 32 true (.node k.tile) k with
      | .sent t => t.ringTook r
      | .fenced t => t.ringTook r
      | .full => s
  else s

/-- H2D_ENTRY (R350). -/
def execH2dEntry (dt : Nat) (d : Fin 16) (entry : BitVec 256) (s : State) : Host.Outcome State Fault Refusal :=
  .next ((s.advance dt).h2dEntry d.val (Token.ofNum entry.toNat))

/-! ### Host accesses (R349, 10 R250, R406) -/

/-- A request that the completion answers as unsupported (R349; 10 R244). -/
def State.unsupported (s : State) : State := s.emit (.hostComp 0 1)

/-- The data of an access. -/
def BarOp.data (o : Sys2Proof.BarOp) : Nat :=
  match o with
  | .read => 0 | .write v => v | .add v => v | .swap v => v

/-- The operation on memory of an access. -/
def BarOp.mem (o : Sys2Proof.BarOp) : MemOp :=
  match o with
  | .read => .read | .write _ => .write | .add _ => .add | .swap _ => .swap

/-- An access to a window that is no memory: register windows are accessed in 64-bit words only (00 R9). -/
def State.hostIo (s : State) (a size : Nat) (o : Sys2Proof.BarOp) : State :=
  match o with
  | .read => match s.ioLoad .host none a size with
    | .ok (v, t) => t.emit (.hostComp v 0)
    | .error _ => s.unsupported
  | .write v => s.told .host a (s.ioWrite .host none a (wd v))
  | _ => s.unsupported

/-- An access to memory starts at the host bridge; its completion leaves when its parts are performed. -/
def State.hostMem (s : State) (a size : Nat) (o : Sys2Proof.BarOp) : State :=
  let op := BarOp.mem o
  let id := s.seqNo
  let m : MemReq := ⟨id, .host, op, a, size, 0, BarOp.data o % 256 ^ size, false, 3, id, s.now⟩
  match s.bump.startReq m with
  | .sent t => if op = .write then t else { t with hostp := { t.hostp with acc := tput t.hostp.acc id (s.partsOf none a size, 0, 0) } }
  | .full => s
  | .fenced => s.unsupported

/-- Is this a write to graph memory, the diagnostic view or a Cox bank, which is refused for rights (02 R26, R47; 04 R95)? -/
def State.viewWrite (s : State) (a : Nat) (write : Bool) : Bool :=
  write && (match s.region none a with
    | .graph _ _ => true
    | .diag _ _ => true
    | _ => false)

/-- A host access to a physical address. -/
def State.hostPhys (s : State) (a size : Nat) (o : Sys2Proof.BarOp) : State :=
  let write := decide (o ≠ .read)
  if s.viewWrite a write then s.told .host a (.refuse 1 none)
  else match s.accessFault .host a size write with
    | some k => if k = 0x10 then s.noteFault none a k else s.unsupported
    | none => match s.region none a with
      | .dram _ => s.hostMem a size o
      | .spad _ _ => s.hostMem a size o
      | .graph _ _ => s.hostIo a size o
      | .diag _ _ => s.hostIo a size o
      | .treg _ _ => s.hostIo a size o
      | .dreg _ => s.hostIo a size o
      | _ => s.unsupported

/-- An access to the mailbox RAM on its host port; an atomic is performed in one cycle (10 R250, R251). -/
def State.hostMailbox (s : State) (off size : Nat) (o : Sys2Proof.BarOp) : State :=
  if 4096 < off + size ∨ 8 < off % 8 + size then s.unsupported
  else
    let w := off / 8
    let old := wbits (tget s.mbx 0 w) (8 * (off % 8)) (8 * size)
    match o with
    | .read => s.emit (.hostComp old 0)
    | .write v => { s with mbx := tput s.mbx w (mbxMerge (tget s.mbx 0 w) off size v) }
    | .add v => ({ s with mbx := tput s.mbx w (mbxMerge (tget s.mbx 0 w) off size (old + v)) } : State).emit (.hostComp old 0)
    | .swap v => ({ s with mbx := tput s.mbx w (mbxMerge (tget s.mbx 0 w) off size v) } : State).emit (.hostComp old 0)

/-- An access to BAR0: the host port registers, or the aperture (R349). -/
def State.hostBar0 (s : State) (off size : Nat) (o : Sys2Proof.BarOp) : State :=
  if off < 0x10000 then (if off % 8 = 0 ∧ size = 8 then s.hostIo (0x20000180000 + off) 8 o else s.unsupported)
  else if off < 0x1000000 ∨ 0x2000000 < off + size then s.unsupported
  else s.hostPhys (s.fget F.APBASE_BASE 0 0 * 0x1000000 + (off - 0x1000000)) size o

/-- A host access (R349). An atomic covers an aligned 64-bit word; while H_PERST# is asserted there is none. -/
def State.hostAccess (s : State) (x : Sys2Proof.BarAcc) : State :=
  let size := x.len.val + 1
  let atomic := match x.op with | .add _ => true | .swap _ => true | _ => false
  if s.hostp.perst ∨ s.dev = .reset then s
  else if atomic && !(x.off % 8 = 0 && size = 8) then s.unsupported
  else match x.bar with
    | 0 => s.hostBar0 x.off size x.op
    | 1 => s.hostMailbox x.off size x.op
    | _ => if 0x1000000000 < x.off + size then s.unsupported else s.hostPhys x.off size x.op

/-- HOST_ACCESS (10 R406; R349). -/
def execHostAccess (dt : Nat) (x : Sys2Proof.BarAcc) (s : State) : Host.Outcome State Fault Refusal := .next ((s.advance dt).hostAccess x)

/-! ### Attention pulses (R354) -/

/-- May a pulse start: one is due, or a hold-off or BUSY has ended with records that the host has not read? -/
def State.pulseOk (s : State) : Bool :=
  s.now % 8 = 0 && s.fget F.HPCTL_ATTNEN 0 0 = 1 && s.hrdyLevel && s.attnFree &&
  (s.hostp.attnDue ||
    (decide (s.ringUsed 1 ≠ 0) && (s.hostp.attnLast.isSome || decide (s.hostp.readyAt ≠ 0)) && decide (s.hostp.readyAt + 1600 ≤ s.now)))

/-- ATTENTION_PULSE (R354). -/
def execAttentionPulse (dt : Nat) (s : State) : Host.Outcome State Fault Refusal :=
  let s := s.advance dt
  .next (if s.pulseOk then ({ s with hostp := { s.hostp with pulse := true, attnDue := false, attnLast := some s.now } } : State).showState else s)

/-- Has the pulse lasted its 200 beats? -/
def State.pulseOver (s : State) : Bool :=
  s.hostp.pulse && (match s.hostp.attnLast with
    | some t => decide (t + 1600 ≤ s.now)
    | none => true)

/-- ATTENTION_PULSE_END (R354). -/
def execAttentionPulseEnd (dt : Nat) (s : State) : Host.Outcome State Fault Refusal :=
  let s := s.advance dt
  .next (if s.pulseOver then ({ s with hostp := { s.hostp with pulse := false } } : State).showState else s)

/-! ### H_PERST# and the Hot Reset (15 R395; 12 R326) -/

/-- The cells that the host owns are released as abandoned. -/
def State.hostLocks (s : State) : State := s.abandonOwner fun v => v = wd (lockId .host)

/-- H_PERST# is asserted: the host port registers take their reset values, and what the host port holds is dropped. -/
def State.perstLow (s : State) : State :=
  ({ s with regs := s.regs.filter (fun (p : (RegKind × Nat × Nat) × Word) => !hostKind p.1.1)
            hostp := { s.hostp with perst := true, xfer := none, lost := 0, attnDue := false, acc := [] } } : State).hostLocks

/-- H_PERST (15 R395). -/
def execHPerst (dt : Nat) (low : Bool) (s : State) : Host.Outcome State Fault Refusal :=
  let s := s.advance dt
  .next (if low then s.perstLow else { s with hostp := { s.hostp with perst := false } })

/-- PCIE_HOT_RESET_OR_LINK_DOWN (12 R326). -/
def execPcieHotResetOrLinkDown (dt : Nat) (s : State) : Host.Outcome State Fault Refusal := .next (s.advance dt).hostLocks

/-! ### The debug access port (R355) -/

/-- An access of the debug port to memory starts at router (3,4). -/
def State.dapMem (s : State) (a : Nat) (write : Bool) (v : Word) : State :=
  let id := s.seqNo
  match s.bump.startReq ⟨id, .debug, if write then .write else .read, a, 8, 0, v.toNat, false, 3, id, s.now⟩ with
  | .sent t => t.fset F.DAPSTAT_BUSY 0 0 1
  | .full => s
  | .fenced => s.dapEnd 0 2

/-- An access of the debug port to a window that is no memory. -/
def State.dapIo (s : State) (a : Nat) (write : Bool) (v : Word) : State :=
  if write then match s.ioWrite .debug none a v with
    | .ok t => t.dapEnd 0 0
    | .refuse cause _ => s.dapEnd 0 (causeErr cause)
  else match s.ioRead .debug none a with
    | .ok (d, t) => t.dapEnd d.toNat 0
    | .error _ => s.dapEnd 0 2

/-- An access of the debug port: locked, misaligned, unmapped or without right, or performed. -/
def State.dapAccess (s : State) (write : Bool) (a : Nat) (v : Word) : State :=
  if s.dev = .reset ∨ s.fget F.DAPSTAT_BUSY 0 0 = 1 then s
  else if !s.ak.dbgUnlock then s.dapEnd 0 5
  else if a % 8 ≠ 0 then s.dapEnd 0 3
  else match s.accessFault .debug a 8 write with
    | some k => s.dapEnd 0 (dapErr k)
    | none => match s.region none a with
      | .dram _ => s.dapMem a write v
      | .spad _ _ => s.dapMem a write v
      | .mailbox _ => s.dapMem a write v
      | _ => s.dapIo a write v

/-- DAPACC (R355). -/
def execDapacc (dt : Nat) (write : Bool) (addr : BitVec 48) (data : Word) (s : State) : Host.Outcome State Fault Refusal :=
  .next ((s.advance dt).dapAccess write addr.toNat data)

end Sys2Proof.Machine
end

