-- ==== Sys2Proof/Machine/Run.lean ====
section
/-! DEFINITION. The two executions of an instruction word: a thread issues it, or a fire unit dispatches a firing of it (06). -/
namespace Sys2Proof.Machine

/-- An instruction row: after `dt` cycles the thread issues the instruction of this opcode at its PC, or the fire unit dispatches its next firing, of this opcode. `p` narrows the word. Nothing happens when the next instruction or firing is another one, or cannot start. -/
def State.instr (s : State) (dt : Nat) (x : Sys2Proof.Site) (op : Nat) (p : Word → Bool) : State :=
  match x with
  | .strand c n => (s.advance dt).issue c.val n.val fun w => isStrandOp op w && p w
  | .fire t u => (s.advance dt).dispatchUnit t.val u.val (isFireOp op p)

end Sys2Proof.Machine
end

