-- ==== Sys2Proof/Machine/InsnCrc.lean ====
section
/-! DEFINITION. CRC, parity, bit-reverse and MISR, 0xA0 to 0xAF (06 R158). -/
namespace Sys2Proof.Machine

/-- CRC32C (06 R158): CRC-32C step. -/
def execCrc32c (dt : Nat) (x : Sys2Proof.Site) (s : State) : Host.Outcome State Fault Refusal :=
  .next (s.instr dt x 0xA0 fun _ => true)

/-- CRC32 (06 R158): CRC-32 step. -/
def execCrc32 (dt : Nat) (x : Sys2Proof.Site) (s : State) : Host.Outcome State Fault Refusal :=
  .next (s.instr dt x 0xA1 fun _ => true)

/-- CRC16 (06 R158): CRC-16 step. -/
def execCrc16 (dt : Nat) (x : Sys2Proof.Site) (s : State) : Host.Outcome State Fault Refusal :=
  .next (s.instr dt x 0xA2 fun _ => true)

/-- PAR (06 R158): Parity of a. -/
def execPar (dt : Nat) (x : Sys2Proof.Site) (s : State) : Host.Outcome State Fault Refusal :=
  .next (s.instr dt x 0xA3 fun _ => true)

/-- PARB (06 R158): Parity of each byte. -/
def execParb (dt : Nat) (x : Sys2Proof.Site) (s : State) : Host.Outcome State Fault Refusal :=
  .next (s.instr dt x 0xA4 fun _ => true)

/-- BREV (06 R158): Reverses 64 bits. -/
def execBrev (dt : Nat) (x : Sys2Proof.Site) (s : State) : Host.Outcome State Fault Refusal :=
  .next (s.instr dt x 0xA5 fun _ => true)

/-- BREVW (06 R158): Reverses 32 bits. -/
def execBrevw (dt : Nat) (x : Sys2Proof.Site) (s : State) : Host.Outcome State Fault Refusal :=
  .next (s.instr dt x 0xA6 fun _ => true)

/-- BREVB (06 R158): Reverses bits within each byte. -/
def execBrevb (dt : Nat) (x : Sys2Proof.Site) (s : State) : Host.Outcome State Fault Refusal :=
  .next (s.instr dt x 0xA7 fun _ => true)

/-- MISR (06 R158): One 64-bit MISR step. -/
def execMisr (dt : Nat) (x : Sys2Proof.Site) (s : State) : Host.Outcome State Fault Refusal :=
  .next (s.instr dt x 0xA8 fun _ => true)

/-- MISRW (06 R158): One 32-bit MISR step. -/
def execMisrw (dt : Nat) (x : Sys2Proof.Site) (s : State) : Host.Outcome State Fault Refusal :=
  .next (s.instr dt x 0xA9 fun _ => true)

end Sys2Proof.Machine
end

