-- ==== Sys2Proof/Machine/InsnCtl.lean ====
section
/-! DEFINITION. Branch, loop and control, 0x60 to 0x7F (06 R156). -/
namespace Sys2Proof.Machine

/-- B (06 R148, R156): Conditional branch. -/
def execB (dt : Nat) (c : Sys2Proof.CoreId) (n : Sys2Proof.ThreadId) (s : State) : Host.Outcome State Fault Refusal :=
  .next (s.instr dt (.strand c n) 0x60 fun _ => true)

/-- CBZ (06 R148, R156): Branches when a is zero. -/
def execCbz (dt : Nat) (c : Sys2Proof.CoreId) (n : Sys2Proof.ThreadId) (s : State) : Host.Outcome State Fault Refusal :=
  .next (s.instr dt (.strand c n) 0x61 fun _ => true)

/-- CBNZ (06 R148, R156): Branches when a is non-zero. -/
def execCbnz (dt : Nat) (c : Sys2Proof.CoreId) (n : Sys2Proof.ThreadId) (s : State) : Host.Outcome State Fault Refusal :=
  .next (s.instr dt (.strand c n) 0x62 fun _ => true)

/-- JAL (06 R148, R156): Jumps and links. -/
def execJal (dt : Nat) (c : Sys2Proof.CoreId) (n : Sys2Proof.ThreadId) (s : State) : Host.Outcome State Fault Refusal :=
  .next (s.instr dt (.strand c n) 0x63 fun _ => true)

/-- JR (06 R148, R156): Jumps to a register. -/
def execJr (dt : Nat) (c : Sys2Proof.CoreId) (n : Sys2Proof.ThreadId) (s : State) : Host.Outcome State Fault Refusal :=
  .next (s.instr dt (.strand c n) 0x64 fun _ => true)

/-- LOOP (06 R149, R150): Starts a hardware loop level. -/
def execLoop (dt : Nat) (c : Sys2Proof.CoreId) (n : Sys2Proof.ThreadId) (s : State) : Host.Outcome State Fault Refusal :=
  .next (s.instr dt (.strand c n) 0x65 fun _ => true)

/-- FORK (05 R123, R124): Starts a child thread, or waits for a free context. -/
def execFork (dt : Nat) (c : Sys2Proof.CoreId) (n : Sys2Proof.ThreadId) (s : State) : Host.Outcome State Fault Refusal :=
  .next (s.instr dt (.strand c n) 0x66 fun _ => true)

/-- JOIN (05 R125): Waits for JCNT 0 and ends the thread. -/
def execJoin (dt : Nat) (c : Sys2Proof.CoreId) (n : Sys2Proof.ThreadId) (s : State) : Host.Outcome State Fault Refusal :=
  .next (s.instr dt (.strand c n) 0x67 fun _ => true)

/-- EXIT (05 R125): Ends the thread. -/
def execExit (dt : Nat) (c : Sys2Proof.CoreId) (n : Sys2Proof.ThreadId) (s : State) : Host.Outcome State Fault Refusal :=
  .next (s.instr dt (.strand c n) 0x68 fun _ => true)

end Sys2Proof.Machine
end

