-- ==== Sys2Proof/Machine/InsnFp.lean ====
section
/-! DEFINITION. The floating-point instructions, 0x80 to 0x9F (06 R157). -/
namespace Sys2Proof.Machine

/-- FADD (06 R157, 07 R178 to R181): Floating-point add. -/
def execFadd (dt : Nat) (x : Sys2Proof.Site) (s : State) : Host.Outcome State Fault Refusal :=
  .next (s.instr dt x 0x80 fun _ => true)

/-- FSUB (06 R157, 07 R178 to R181): Floating-point subtract. -/
def execFsub (dt : Nat) (x : Sys2Proof.Site) (s : State) : Host.Outcome State Fault Refusal :=
  .next (s.instr dt x 0x81 fun _ => true)

/-- FMUL (06 R157, 07 R178 to R181): Floating-point multiply. -/
def execFmul (dt : Nat) (x : Sys2Proof.Site) (s : State) : Host.Outcome State Fault Refusal :=
  .next (s.instr dt x 0x82 fun _ => true)

/-- FDIV (06 R157, 07 R178 to R181): Floating-point divide. -/
def execFdiv (dt : Nat) (x : Sys2Proof.Site) (s : State) : Host.Outcome State Fault Refusal :=
  .next (s.instr dt x 0x83 fun _ => true)

/-- FSQRT (06 R157, 07 R178 to R181): Floating-point square root. -/
def execFsqrt (dt : Nat) (x : Sys2Proof.Site) (s : State) : Host.Outcome State Fault Refusal :=
  .next (s.instr dt x 0x84 fun _ => true)

/-- FMA (06 R157, 07 R178 to R181): Fused multiply-add. -/
def execFma (dt : Nat) (x : Sys2Proof.Site) (s : State) : Host.Outcome State Fault Refusal :=
  .next (s.instr dt x 0x85 fun _ => true)

/-- FMIN (06 R157, 07 R178 to R181): IEEE minimumNumber. -/
def execFmin (dt : Nat) (x : Sys2Proof.Site) (s : State) : Host.Outcome State Fault Refusal :=
  .next (s.instr dt x 0x86 fun _ => true)

/-- FMAX (06 R157, 07 R178 to R181): IEEE maximumNumber. -/
def execFmax (dt : Nat) (x : Sys2Proof.Site) (s : State) : Host.Outcome State Fault Refusal :=
  .next (s.instr dt x 0x87 fun _ => true)

/-- FNEG (06 R157, 07 R178 to R181): Inverts the sign. -/
def execFneg (dt : Nat) (x : Sys2Proof.Site) (s : State) : Host.Outcome State Fault Refusal :=
  .next (s.instr dt x 0x88 fun _ => true)

/-- FABS (06 R157, 07 R178 to R181): Clears the sign. -/
def execFabs (dt : Nat) (x : Sys2Proof.Site) (s : State) : Host.Outcome State Fault Refusal :=
  .next (s.instr dt x 0x89 fun _ => true)

/-- FCMP (06 R157, 07 R178 to R181): Floating-point compare into flags. -/
def execFcmp (dt : Nat) (x : Sys2Proof.Site) (s : State) : Host.Outcome State Fault Refusal :=
  .next (s.instr dt x 0x8A fun _ => true)

/-- FCVT (06 R157, 07 R178 to R181): Converts between binary32 and binary64. -/
def execFcvt (dt : Nat) (x : Sys2Proof.Site) (s : State) : Host.Outcome State Fault Refusal :=
  .next (s.instr dt x 0x8B fun _ => true)

/-- FCVTI (06 R157, 07 R178 to R181): Converts to a signed integer. -/
def execFcvti (dt : Nat) (x : Sys2Proof.Site) (s : State) : Host.Outcome State Fault Refusal :=
  .next (s.instr dt x 0x8C fun _ => true)

/-- FCVTIU (06 R157, 07 R178 to R181): Converts to an unsigned integer. -/
def execFcvtiu (dt : Nat) (x : Sys2Proof.Site) (s : State) : Host.Outcome State Fault Refusal :=
  .next (s.instr dt x 0x8D fun _ => true)

/-- FCVTF (06 R157, 07 R178 to R181): Converts a signed integer to floating point. -/
def execFcvtf (dt : Nat) (x : Sys2Proof.Site) (s : State) : Host.Outcome State Fault Refusal :=
  .next (s.instr dt x 0x8E fun _ => true)

/-- FCVTFU (06 R157, 07 R178 to R181): Converts an unsigned integer to floating point. -/
def execFcvtfu (dt : Nat) (x : Sys2Proof.Site) (s : State) : Host.Outcome State Fault Refusal :=
  .next (s.instr dt x 0x8F fun _ => true)

/-- FMOV (06 R157): Copies an f register. -/
def execFmov (dt : Nat) (c : Sys2Proof.CoreId) (n : Sys2Proof.ThreadId) (s : State) : Host.Outcome State Fault Refusal :=
  .next (s.instr dt (.strand c n) 0x90 fun _ => true)

/-- FMVWF (06 R157): Moves w bits to an f register. -/
def execFmvwf (dt : Nat) (c : Sys2Proof.CoreId) (n : Sys2Proof.ThreadId) (s : State) : Host.Outcome State Fault Refusal :=
  .next (s.instr dt (.strand c n) 0x91 fun _ => true)

/-- FMVFW (06 R157): Moves f bits to a w register. -/
def execFmvfw (dt : Nat) (c : Sys2Proof.CoreId) (n : Sys2Proof.ThreadId) (s : State) : Host.Outcome State Fault Refusal :=
  .next (s.instr dt (.strand c n) 0x92 fun _ => true)

/-- FCLASS (06 R157): Classifies a floating-point value. -/
def execFclass (dt : Nat) (x : Sys2Proof.Site) (s : State) : Host.Outcome State Fault Refusal :=
  .next (s.instr dt x 0x93 fun _ => true)

end Sys2Proof.Machine
end

