-- ==== Sys2Proof/Machine/InsnInt.lean ====
section
/-! DEFINITION. The integer and logic instructions, 0x00 to 0x3F (06 R151 to R153). -/
namespace Sys2Proof.Machine

/-- ADD (06 R151): Adds a and b. -/
def execAdd (dt : Nat) (x : Sys2Proof.Site) (s : State) : Host.Outcome State Fault Refusal :=
  .next (s.instr dt x 0x00 fun _ => true)

/-- ADDC (06 R151): Adds a, b and C. -/
def execAddc (dt : Nat) (c : Sys2Proof.CoreId) (n : Sys2Proof.ThreadId) (s : State) : Host.Outcome State Fault Refusal :=
  .next (s.instr dt (.strand c n) 0x01 fun _ => true)

/-- SUB (06 R151): Subtracts b from a. -/
def execSub (dt : Nat) (x : Sys2Proof.Site) (s : State) : Host.Outcome State Fault Refusal :=
  .next (s.instr dt x 0x02 fun _ => true)

/-- SUBC (06 R151): Subtracts b and the borrow from a. -/
def execSubc (dt : Nat) (c : Sys2Proof.CoreId) (n : Sys2Proof.ThreadId) (s : State) : Host.Outcome State Fault Refusal :=
  .next (s.instr dt (.strand c n) 0x03 fun _ => true)

/-- ADDO (06 R151, 07 R173): Adds and raises fault 0x0A on signed overflow. -/
def execAddo (dt : Nat) (x : Sys2Proof.Site) (s : State) : Host.Outcome State Fault Refusal :=
  .next (s.instr dt x 0x04 fun _ => true)

/-- SUBO (06 R151, 07 R173): Subtracts and raises fault 0x0A on signed overflow. -/
def execSubo (dt : Nat) (x : Sys2Proof.Site) (s : State) : Host.Outcome State Fault Refusal :=
  .next (s.instr dt x 0x05 fun _ => true)

/-- NEG (06 R151): Negates a. -/
def execNeg (dt : Nat) (x : Sys2Proof.Site) (s : State) : Host.Outcome State Fault Refusal :=
  .next (s.instr dt x 0x06 fun _ => true)

/-- NEGO (06 R151, 07 R173): Negates a, with fault 0x0A for the most negative value. -/
def execNego (dt : Nat) (x : Sys2Proof.Site) (s : State) : Host.Outcome State Fault Refusal :=
  .next (s.instr dt x 0x07 fun _ => true)

/-- AND (06 R151): Bitwise AND. -/
def execAnd (dt : Nat) (x : Sys2Proof.Site) (s : State) : Host.Outcome State Fault Refusal :=
  .next (s.instr dt x 0x08 fun _ => true)

/-- OR (06 R151): Bitwise OR. -/
def execOr (dt : Nat) (x : Sys2Proof.Site) (s : State) : Host.Outcome State Fault Refusal :=
  .next (s.instr dt x 0x09 fun _ => true)

/-- XOR (06 R151): Bitwise XOR. -/
def execXor (dt : Nat) (x : Sys2Proof.Site) (s : State) : Host.Outcome State Fault Refusal :=
  .next (s.instr dt x 0x0A fun _ => true)

/-- ANDN (06 R151): a AND NOT b. -/
def execAndn (dt : Nat) (x : Sys2Proof.Site) (s : State) : Host.Outcome State Fault Refusal :=
  .next (s.instr dt x 0x0B fun _ => true)

/-- ORN (06 R151): a OR NOT b. -/
def execOrn (dt : Nat) (x : Sys2Proof.Site) (s : State) : Host.Outcome State Fault Refusal :=
  .next (s.instr dt x 0x0C fun _ => true)

/-- XNOR (06 R151): Bitwise XNOR. -/
def execXnor (dt : Nat) (x : Sys2Proof.Site) (s : State) : Host.Outcome State Fault Refusal :=
  .next (s.instr dt x 0x0D fun _ => true)

/-- NOT (06 R151): Bitwise NOT. -/
def execNot (dt : Nat) (x : Sys2Proof.Site) (s : State) : Host.Outcome State Fault Refusal :=
  .next (s.instr dt x 0x0E fun _ => true)

/-- MOV (06 R151): Moves a or the immediate to d. -/
def execMov (dt : Nat) (x : Sys2Proof.Site) (s : State) : Host.Outcome State Fault Refusal :=
  .next (s.instr dt x 0x0F fun _ => true)

/-- LSL (06 R151, 07 R174): Logical shift left. -/
def execLsl (dt : Nat) (x : Sys2Proof.Site) (s : State) : Host.Outcome State Fault Refusal :=
  .next (s.instr dt x 0x10 fun _ => true)

/-- LSR (06 R151, 07 R174): Logical shift right. -/
def execLsr (dt : Nat) (x : Sys2Proof.Site) (s : State) : Host.Outcome State Fault Refusal :=
  .next (s.instr dt x 0x11 fun _ => true)

/-- ASR (06 R151, 07 R174): Arithmetic shift right. -/
def execAsr (dt : Nat) (x : Sys2Proof.Site) (s : State) : Host.Outcome State Fault Refusal :=
  .next (s.instr dt x 0x12 fun _ => true)

/-- ROR (06 R151, 07 R174): Rotate right. -/
def execRor (dt : Nat) (x : Sys2Proof.Site) (s : State) : Host.Outcome State Fault Refusal :=
  .next (s.instr dt x 0x13 fun _ => true)

/-- LSLW (06 R151, 07 R174): 32-bit logical shift left. -/
def execLslw (dt : Nat) (x : Sys2Proof.Site) (s : State) : Host.Outcome State Fault Refusal :=
  .next (s.instr dt x 0x14 fun _ => true)

/-- LSRW (06 R151, 07 R174): 32-bit logical shift right. -/
def execLsrw (dt : Nat) (x : Sys2Proof.Site) (s : State) : Host.Outcome State Fault Refusal :=
  .next (s.instr dt x 0x15 fun _ => true)

/-- ASRW (06 R151, 07 R174): 32-bit arithmetic shift right. -/
def execAsrw (dt : Nat) (x : Sys2Proof.Site) (s : State) : Host.Outcome State Fault Refusal :=
  .next (s.instr dt x 0x16 fun _ => true)

/-- RORW (06 R151, 07 R174): 32-bit rotate right. -/
def execRorw (dt : Nat) (x : Sys2Proof.Site) (s : State) : Host.Outcome State Fault Refusal :=
  .next (s.instr dt x 0x17 fun _ => true)

/-- CMP (06 R151): Sets flags from a - b. -/
def execCmp (dt : Nat) (x : Sys2Proof.Site) (s : State) : Host.Outcome State Fault Refusal :=
  .next (s.instr dt x 0x18 fun _ => true)

/-- CMPW (06 R151): Sets flags from the 32-bit a - b. -/
def execCmpw (dt : Nat) (x : Sys2Proof.Site) (s : State) : Host.Outcome State Fault Refusal :=
  .next (s.instr dt x 0x19 fun _ => true)

/-- TST (06 R151): Sets flags from a AND b. -/
def execTst (dt : Nat) (x : Sys2Proof.Site) (s : State) : Host.Outcome State Fault Refusal :=
  .next (s.instr dt x 0x1A fun _ => true)

/-- MIN (06 R151): Signed minimum. -/
def execMin (dt : Nat) (x : Sys2Proof.Site) (s : State) : Host.Outcome State Fault Refusal :=
  .next (s.instr dt x 0x1B fun _ => true)

/-- MAX (06 R151): Signed maximum. -/
def execMax (dt : Nat) (x : Sys2Proof.Site) (s : State) : Host.Outcome State Fault Refusal :=
  .next (s.instr dt x 0x1C fun _ => true)

/-- MINU (06 R151): Unsigned minimum. -/
def execMinu (dt : Nat) (x : Sys2Proof.Site) (s : State) : Host.Outcome State Fault Refusal :=
  .next (s.instr dt x 0x1D fun _ => true)

/-- MAXU (06 R151): Unsigned maximum. -/
def execMaxu (dt : Nat) (x : Sys2Proof.Site) (s : State) : Host.Outcome State Fault Refusal :=
  .next (s.instr dt x 0x1E fun _ => true)

/-- ABS (06 R151): Absolute value. -/
def execAbs (dt : Nat) (x : Sys2Proof.Site) (s : State) : Host.Outcome State Fault Refusal :=
  .next (s.instr dt x 0x1F fun _ => true)

/-- MULU (06 R146, R151): Unsigned 128-bit product into PH:PL. -/
def execMulu (dt : Nat) (x : Sys2Proof.Site) (s : State) : Host.Outcome State Fault Refusal :=
  .next (s.instr dt x 0x20 fun _ => true)

/-- MULS (06 R146, R151): Signed 128-bit product into PH:PL. -/
def execMuls (dt : Nat) (x : Sys2Proof.Site) (s : State) : Host.Outcome State Fault Refusal :=
  .next (s.instr dt x 0x21 fun _ => true)

/-- MACU (06 R146, R151): Unsigned multiply-accumulate into PH:PL. -/
def execMacu (dt : Nat) (c : Sys2Proof.CoreId) (n : Sys2Proof.ThreadId) (s : State) : Host.Outcome State Fault Refusal :=
  .next (s.instr dt (.strand c n) 0x22 fun _ => true)

/-- MACS (06 R146, R151): Signed multiply-accumulate into PH:PL. -/
def execMacs (dt : Nat) (c : Sys2Proof.CoreId) (n : Sys2Proof.ThreadId) (s : State) : Host.Outcome State Fault Refusal :=
  .next (s.instr dt (.strand c n) 0x23 fun _ => true)

/-- MUL (06 R151, 07 R175): Low 64 bits of the product. -/
def execMul (dt : Nat) (x : Sys2Proof.Site) (s : State) : Host.Outcome State Fault Refusal :=
  .next (s.instr dt x 0x24 fun _ => true)

/-- MFPH (06 R151): Reads PH. -/
def execMfph (dt : Nat) (c : Sys2Proof.CoreId) (n : Sys2Proof.ThreadId) (s : State) : Host.Outcome State Fault Refusal :=
  .next (s.instr dt (.strand c n) 0x25 fun _ => true)

/-- MFPL (06 R151): Reads PL. -/
def execMfpl (dt : Nat) (c : Sys2Proof.CoreId) (n : Sys2Proof.ThreadId) (s : State) : Host.Outcome State Fault Refusal :=
  .next (s.instr dt (.strand c n) 0x26 fun _ => true)

/-- MTPP (06 R151): Writes PH and PL. -/
def execMtpp (dt : Nat) (c : Sys2Proof.CoreId) (n : Sys2Proof.ThreadId) (s : State) : Host.Outcome State Fault Refusal :=
  .next (s.instr dt (.strand c n) 0x27 fun _ => true)

/-- DSET (06 R153): Prepares a signed 64-bit division. -/
def execDset (dt : Nat) (c : Sys2Proof.CoreId) (n : Sys2Proof.ThreadId) (s : State) : Host.Outcome State Fault Refusal :=
  .next (s.instr dt (.strand c n) 0x28 fun _ => true)

/-- DSETW (06 R153): Prepares a signed 32-bit division. -/
def execDsetw (dt : Nat) (c : Sys2Proof.CoreId) (n : Sys2Proof.ThreadId) (s : State) : Host.Outcome State Fault Refusal :=
  .next (s.instr dt (.strand c n) 0x29 fun _ => true)

/-- DSETU (06 R153): Prepares an unsigned 64-bit division. -/
def execDsetu (dt : Nat) (c : Sys2Proof.CoreId) (n : Sys2Proof.ThreadId) (s : State) : Host.Outcome State Fault Refusal :=
  .next (s.instr dt (.strand c n) 0x2A fun _ => true)

/-- DSETUW (06 R153): Prepares an unsigned 32-bit division. -/
def execDsetuw (dt : Nat) (c : Sys2Proof.CoreId) (n : Sys2Proof.ThreadId) (s : State) : Host.Outcome State Fault Refusal :=
  .next (s.instr dt (.strand c n) 0x2B fun _ => true)

/-- DSTEP (06 R153): Performs one division step. -/
def execDstep (dt : Nat) (c : Sys2Proof.CoreId) (n : Sys2Proof.ThreadId) (s : State) : Host.Outcome State Fault Refusal :=
  .next (s.instr dt (.strand c n) 0x2C fun _ => true)

/-- DFIN (06 R153): Applies signs and writes quotient and remainder. -/
def execDfin (dt : Nat) (c : Sys2Proof.CoreId) (n : Sys2Proof.ThreadId) (s : State) : Host.Outcome State Fault Refusal :=
  .next (s.instr dt (.strand c n) 0x2D fun _ => true)

/-- DFINW (06 R153): Finishes a 32-bit division with sign-extended results. -/
def execDfinw (dt : Nat) (c : Sys2Proof.CoreId) (n : Sys2Proof.ThreadId) (s : State) : Host.Outcome State Fault Refusal :=
  .next (s.instr dt (.strand c n) 0x2E fun _ => true)

/-- CLZ (06 R151): Counts leading zeros. -/
def execClz (dt : Nat) (x : Sys2Proof.Site) (s : State) : Host.Outcome State Fault Refusal :=
  .next (s.instr dt x 0x30 fun _ => true)

/-- CTZ (06 R151): Counts trailing zeros. -/
def execCtz (dt : Nat) (x : Sys2Proof.Site) (s : State) : Host.Outcome State Fault Refusal :=
  .next (s.instr dt x 0x31 fun _ => true)

/-- POPC (06 R151): Counts ones. -/
def execPopc (dt : Nat) (x : Sys2Proof.Site) (s : State) : Host.Outcome State Fault Refusal :=
  .next (s.instr dt x 0x32 fun _ => true)

/-- EXT (06 R151, R152): Extracts a signed bit field. -/
def execExt (dt : Nat) (x : Sys2Proof.Site) (s : State) : Host.Outcome State Fault Refusal :=
  .next (s.instr dt x 0x33 fun _ => true)

/-- EXTU (06 R151, R152): Extracts an unsigned bit field. -/
def execExtu (dt : Nat) (x : Sys2Proof.Site) (s : State) : Host.Outcome State Fault Refusal :=
  .next (s.instr dt x 0x34 fun _ => true)

/-- INS (06 R151, R152): Inserts a bit field into RD. -/
def execIns (dt : Nat) (c : Sys2Proof.CoreId) (n : Sys2Proof.ThreadId) (s : State) : Host.Outcome State Fault Refusal :=
  .next (s.instr dt (.strand c n) 0x35 fun _ => true)

/-- BSWAP (06 R151): Reverses byte order. -/
def execBswap (dt : Nat) (x : Sys2Proof.Site) (s : State) : Host.Outcome State Fault Refusal :=
  .next (s.instr dt x 0x36 fun _ => true)

/-- SXT (06 R151, R152): Sign-extends from width w. -/
def execSxt (dt : Nat) (x : Sys2Proof.Site) (s : State) : Host.Outcome State Fault Refusal :=
  .next (s.instr dt x 0x37 fun _ => true)

/-- ZXT (06 R151, R152): Zero-extends from width w. -/
def execZxt (dt : Nat) (x : Sys2Proof.Site) (s : State) : Host.Outcome State Fault Refusal :=
  .next (s.instr dt x 0x38 fun _ => true)

/-- SETC (06 R151, R152): Writes 1 when the condition holds. -/
def execSetc (dt : Nat) (x : Sys2Proof.Site) (s : State) : Host.Outcome State Fault Refusal :=
  .next (s.instr dt x 0x39 fun _ => true)

end Sys2Proof.Machine
end

