-- ==== Sys2Proof/Machine/InsnMem.lean ====
section
/-! DEFINITION. The memory instructions, 0x40 to 0x5F (06 R154). -/
namespace Sys2Proof.Machine

/-- LDB (06 R144, R154): Loads a signed byte. -/
def execLdb (dt : Nat) (x : Sys2Proof.Site) (s : State) : Host.Outcome State Fault Refusal :=
  .next (s.instr dt x 0x40 fun _ => true)

/-- LDBU (06 R144, R154): Loads an unsigned byte. -/
def execLdbu (dt : Nat) (x : Sys2Proof.Site) (s : State) : Host.Outcome State Fault Refusal :=
  .next (s.instr dt x 0x41 fun _ => true)

/-- LDH (06 R144, R154): Loads a signed halfword. -/
def execLdh (dt : Nat) (x : Sys2Proof.Site) (s : State) : Host.Outcome State Fault Refusal :=
  .next (s.instr dt x 0x42 fun _ => true)

/-- LDHU (06 R144, R154): Loads an unsigned halfword. -/
def execLdhu (dt : Nat) (x : Sys2Proof.Site) (s : State) : Host.Outcome State Fault Refusal :=
  .next (s.instr dt x 0x43 fun _ => true)

/-- LDW (06 R144, R154): Loads a signed word. -/
def execLdw (dt : Nat) (x : Sys2Proof.Site) (s : State) : Host.Outcome State Fault Refusal :=
  .next (s.instr dt x 0x44 fun _ => true)

/-- LDWU (06 R144, R154): Loads an unsigned word. -/
def execLdwu (dt : Nat) (x : Sys2Proof.Site) (s : State) : Host.Outcome State Fault Refusal :=
  .next (s.instr dt x 0x45 fun _ => true)

/-- LDD (06 R144, R154): Loads a doubleword. -/
def execLdd (dt : Nat) (x : Sys2Proof.Site) (s : State) : Host.Outcome State Fault Refusal :=
  .next (s.instr dt x 0x46 fun _ => true)

/-- STB (06 R154): Stores a byte. -/
def execStb (dt : Nat) (x : Sys2Proof.Site) (s : State) : Host.Outcome State Fault Refusal :=
  .next (s.instr dt x 0x48 fun _ => true)

/-- STH (06 R154): Stores a halfword. -/
def execSth (dt : Nat) (x : Sys2Proof.Site) (s : State) : Host.Outcome State Fault Refusal :=
  .next (s.instr dt x 0x49 fun _ => true)

/-- STW (06 R154): Stores a word. -/
def execStw (dt : Nat) (x : Sys2Proof.Site) (s : State) : Host.Outcome State Fault Refusal :=
  .next (s.instr dt x 0x4A fun _ => true)

/-- STD (06 R154): Stores a doubleword. -/
def execStd (dt : Nat) (x : Sys2Proof.Site) (s : State) : Host.Outcome State Fault Refusal :=
  .next (s.instr dt x 0x4B fun _ => true)

/-- FLDS (06 R144, R154): Loads a binary32 value into an f register. -/
def execFlds (dt : Nat) (x : Sys2Proof.Site) (s : State) : Host.Outcome State Fault Refusal :=
  .next (s.instr dt x 0x4C fun _ => true)

/-- FLDD (06 R144, R154): Loads a binary64 value into an f register. -/
def execFldd (dt : Nat) (x : Sys2Proof.Site) (s : State) : Host.Outcome State Fault Refusal :=
  .next (s.instr dt x 0x4D fun _ => true)

/-- FSTS (06 R154): Stores a binary32 f register. -/
def execFsts (dt : Nat) (c : Sys2Proof.CoreId) (n : Sys2Proof.ThreadId) (s : State) : Host.Outcome State Fault Refusal :=
  .next (s.instr dt (.strand c n) 0x4E fun _ => true)

/-- FSTD (06 R154): Stores a binary64 f register. -/
def execFstd (dt : Nat) (c : Sys2Proof.CoreId) (n : Sys2Proof.ThreadId) (s : State) : Host.Outcome State Fault Refusal :=
  .next (s.instr dt (.strand c n) 0x4F fun _ => true)

/-- AADD (06 R144, R154): Atomic add at the bank or controller. -/
def execAadd (dt : Nat) (x : Sys2Proof.Site) (s : State) : Host.Outcome State Fault Refusal :=
  .next (s.instr dt x 0x50 fun _ => true)

/-- ASWP (06 R144, R154): Atomic swap at the bank or controller. -/
def execAswp (dt : Nat) (x : Sys2Proof.Site) (s : State) : Host.Outcome State Fault Refusal :=
  .next (s.instr dt x 0x51 fun _ => true)

/-- DMA (06 R154): Starts a DMA copy by the tile's DMA engine. -/
def execDma (dt : Nat) (c : Sys2Proof.CoreId) (n : Sys2Proof.ThreadId) (s : State) : Host.Outcome State Fault Refusal :=
  .next (s.instr dt (.strand c n) 0x52 fun _ => true)

/-- LEA (06 R154): Writes the effective address without access. -/
def execLea (dt : Nat) (x : Sys2Proof.Site) (s : State) : Host.Outcome State Fault Refusal :=
  .next (s.instr dt x 0x53 fun _ => true)

end Sys2Proof.Machine
end

