-- ==== Sys2Proof/Machine/InsnSys.lean ====
section
/-! DEFINITION. Lock, event and system, 0xC0 to 0xCF (06 R162, R163). -/
namespace Sys2Proof.Machine

/-- FENCE (06 R162): Orders the thread's memory accesses. -/
def execFence (dt : Nat) (c : Sys2Proof.CoreId) (n : Sys2Proof.ThreadId) (s : State) : Host.Outcome State Fault Refusal :=
  .next (s.instr dt (.strand c n) 0xC0 fun _ => true)

/-- LKACQ (12 R324): Requests acquisition of a lock cell. -/
def execLkacq (dt : Nat) (c : Sys2Proof.CoreId) (n : Sys2Proof.ThreadId) (s : State) : Host.Outcome State Fault Refusal :=
  .next (s.instr dt (.strand c n) 0xC1 fun _ => true)

/-- LKTRY (12 R324): Tries to acquire a lock cell without waiting. -/
def execLktry (dt : Nat) (c : Sys2Proof.CoreId) (n : Sys2Proof.ThreadId) (s : State) : Host.Outcome State Fault Refusal :=
  .next (s.instr dt (.strand c n) 0xC2 fun _ => true)

/-- LKREL (12 R324): Releases a lock cell. -/
def execLkrel (dt : Nat) (c : Sys2Proof.CoreId) (n : Sys2Proof.ThreadId) (s : State) : Host.Outcome State Fault Refusal :=
  .next (s.instr dt (.strand c n) 0xC3 fun _ => true)

/-- LKCAS (12 R324): Compare-and-swap on a CAS-mode cell. -/
def execLkcas (dt : Nat) (c : Sys2Proof.CoreId) (n : Sys2Proof.ThreadId) (s : State) : Host.Outcome State Fault Refusal :=
  .next (s.instr dt (.strand c n) 0xC4 fun _ => true)

/-- WFE (12 R314): Waits for and clears the thread's event latch. -/
def execWfe (dt : Nat) (c : Sys2Proof.CoreId) (n : Sys2Proof.ThreadId) (s : State) : Host.Outcome State Fault Refusal :=
  .next (s.instr dt (.strand c n) 0xC5 fun _ => true)

/-- SEV (12 R315): Signals the event of a thread. -/
def execSev (dt : Nat) (c : Sys2Proof.CoreId) (n : Sys2Proof.ThreadId) (s : State) : Host.Outcome State Fault Refusal :=
  .next (s.instr dt (.strand c n) 0xC6 fun _ => true)

/-- MFSR (06 R140): Reads a special register. -/
def execMfsr (dt : Nat) (c : Sys2Proof.CoreId) (n : Sys2Proof.ThreadId) (s : State) : Host.Outcome State Fault Refusal :=
  .next (s.instr dt (.strand c n) 0xC7 fun _ => true)

/-- MTSR (06 R140): Writes a special register. -/
def execMtsr (dt : Nat) (c : Sys2Proof.CoreId) (n : Sys2Proof.ThreadId) (s : State) : Host.Outcome State Fault Refusal :=
  .next (s.instr dt (.strand c n) 0xC8 fun _ => true)

/-- RETH (06 R163): Leaves the trap handler. -/
def execReth (dt : Nat) (c : Sys2Proof.CoreId) (n : Sys2Proof.ThreadId) (s : State) : Host.Outcome State Fault Refusal :=
  .next (s.instr dt (.strand c n) 0xC9 fun _ => true)

/-- NOP (06 R163): No effect, or forwards as FWD in node form. -/
def execNop (dt : Nat) (x : Sys2Proof.Site) (s : State) : Host.Outcome State Fault Refusal :=
  .next (s.instr dt x 0xCA fun _ => true)

end Sys2Proof.Machine
end

