-- ==== Sys2Proof/Machine/InsnTest.lean ====
section
/-! DEFINITION. The test helpers 0xD0 to 0xDF and the custom opcodes 0xE0 to 0xEF (06 R164, R165). -/
namespace Sys2Proof.Machine

/-- SCRM (09 R234): Scrambles a logical address through a scrambler table. -/
def execScrm (dt : Nat) (x : Sys2Proof.Site) (s : State) : Host.Outcome State Fault Refusal :=
  .next (s.instr dt x 0xD0 fun _ => true)

/-- DBKG (09 R235): Generates a data background word. -/
def execDbkg (dt : Nat) (x : Sys2Proof.Site) (s : State) : Host.Outcome State Fault Refusal :=
  .next (s.instr dt x 0xD1 fun _ => true)

/-- FLOG (09 R236): Appends a record to the tile's fail log. -/
def execFlog (dt : Nat) (x : Sys2Proof.Site) (s : State) : Host.Outcome State Fault Refusal :=
  .next (s.instr dt x 0xD3 fun _ => true)

/-- VRDT (09 R230, R232): Sends a verdict through a lane or directly to a link. -/
def execVrdt (dt : Nat) (x : Sys2Proof.Site) (s : State) : Host.Outcome State Fault Refusal :=
  .next (s.instr dt x 0xD4 fun _ => true)

/-- ACC, an operation of FACC (09 R239): FACC counts a fail in the row and column of a repair block. -/
def execAcc (dt : Nat) (x : Sys2Proof.Site) (s : State) : Host.Outcome State Fault Refusal :=
  .next (s.instr dt x 0xD2 fun w => decide ((if nMode w < 2 then iAM w else nMod w) % 4 = 0))

/-- CLOSE, an operation of FACC (09 R239): FACC CLOSE makes an OPEN repair block CLOSED or OVERFLOW. -/
def execFaccClose (dt : Nat) (x : Sys2Proof.Site) (s : State) : Host.Outcome State Fault Refusal :=
  .next (s.instr dt x 0xD2 fun w => decide ((if nMode w < 2 then iAM w else nMod w) % 4 = 1))

/-- QUERY, an operation of FACC (09 R239): FACC QUERY reads counts without change. -/
def execQuery (dt : Nat) (x : Sys2Proof.Site) (s : State) : Host.Outcome State Fault Refusal :=
  .next (s.instr dt x 0xD2 fun w => decide ((if nMode w < 2 then iAM w else nMod w) % 4 = 2))

/-- DONE, an operation of FACC (09 R239): FACC DONE gives a CLOSED block its outcome. -/
def execDone (dt : Nat) (x : Sys2Proof.Site) (s : State) : Host.Outcome State Fault Refusal :=
  .next (s.instr dt x 0xD2 fun w => decide ((if nMode w < 2 then iAM w else nMod w) % 4 = 3))

/-- A custom opcode X0 to X15 with rows (06 R165): A decode-table opcode X0-X15 executes its micro-operation rows. -/
def execCustomOpcode (dt : Nat) (x : Sys2Proof.Site) (s : State) : Host.Outcome State Fault Refusal :=
  let s := s.advance dt
  .next (match x with
    | .strand c n => s.issue c.val n.val fun w =>
        decide (0xE0 ≤ nOpc w) && isStrandOp (nOpc w) w && dtRows s.dtActive (nOpc w - 0xE0) ≠ 0
    | .fire t u => s.dispatchUnit t.val u.val fun k =>
        match k.kind with | .fire f => decide (0xE0 ≤ nOpc f.word) && decide (nOpc f.word ≤ 0xEF) | _ => false)

end Sys2Proof.Machine
end

