-- ==== Sys2Proof/Machine/InsnTok.lean ====
section
/-! DEFINITION. Tokens, queues, channels and timers, 0xB0 to 0xBF (06 R159). -/
namespace Sys2Proof.Machine

/-- EMIT (06 R159): A thread emits a token to a node or lane window, optionally allocating. -/
def execEmit (dt : Nat) (c : Sys2Proof.CoreId) (n : Sys2Proof.ThreadId) (s : State) : Host.Outcome State Fault Refusal :=
  .next (s.instr dt (.strand c n) 0xB0 fun _ => true)

/-- ALLOC (03 R55, 06 R159): A thread allocates the next sequence number of a lane, or waits for credit. -/
def execAlloc (dt : Nat) (c : Sys2Proof.CoreId) (n : Sys2Proof.ThreadId) (s : State) : Host.Outcome State Fault Refusal :=
  .next (s.instr dt (.strand c n) 0xB1 fun _ => true)

/-- FWD (06 R159): Forwards A and C as a token. -/
def execFwd (dt : Nat) (t : Sys2Proof.TileId) (u : Fin 4) (s : State) : Host.Outcome State Fault Refusal :=
  .next (s.instr dt (.fire t u) 0xB2 fun _ => true)

/-- STEER (06 R159, R160): Sends the token to DST0 or DST1 by B. -/
def execSteer (dt : Nat) (t : Sys2Proof.TileId) (u : Fin 4) (s : State) : Host.Outcome State Fault Refusal :=
  .next (s.instr dt (.fire t u) 0xB3 fun _ => true)

/-- LNOUT (06 R159, R160): Sends the token to a lane window. -/
def execLnout (dt : Nat) (t : Sys2Proof.TileId) (u : Fin 4) (s : State) : Host.Outcome State Fault Refusal :=
  .next (s.instr dt (.fire t u) 0xB4 fun _ => true)

/-- QPUSH (06 R159, R160): Pushes a token to a hardware queue. -/
def execQpush (dt : Nat) (x : Sys2Proof.Site) (s : State) : Host.Outcome State Fault Refusal :=
  .next (s.instr dt x 0xB5 fun _ => true)

/-- QPOP (03 R77, 06 R159): Pops a queue entry, sleeping when empty. -/
def execQpop (dt : Nat) (c : Sys2Proof.CoreId) (n : Sys2Proof.ThreadId) (s : State) : Host.Outcome State Fault Refusal :=
  .next (s.instr dt (.strand c n) 0xB6 fun _ => true)

/-- QPOPNB (06 R159): Pops a queue entry without waiting. -/
def execQpopnb (dt : Nat) (c : Sys2Proof.CoreId) (n : Sys2Proof.ThreadId) (s : State) : Host.Outcome State Fault Refusal :=
  .next (s.instr dt (.strand c n) 0xB7 fun _ => true)

/-- CHW (03 R80): Stages a token in a channel, taking the reservation. -/
def execChw (dt : Nat) (c : Sys2Proof.CoreId) (n : Sys2Proof.ThreadId) (s : State) : Host.Outcome State Fault Refusal :=
  .next (s.instr dt (.strand c n) 0xB8 fun _ => true)

/-- CHC (03 R81): Commits a channel message. -/
def execChc (dt : Nat) (c : Sys2Proof.CoreId) (n : Sys2Proof.ThreadId) (s : State) : Host.Outcome State Fault Refusal :=
  .next (s.instr dt (.strand c n) 0xB9 fun _ => true)

/-- TMR (05 R126, 06 R159): Sleeps, arms a timer or emits a timed token event. -/
def execTmr (dt : Nat) (x : Sys2Proof.Site) (s : State) : Host.Outcome State Fault Refusal :=
  .next (s.instr dt x 0xBB fun _ => true)

/-- TCAN (05 R127): Cancels a timer by handle. -/
def execTcan (dt : Nat) (c : Sys2Proof.CoreId) (n : Sys2Proof.ThreadId) (s : State) : Host.Outcome State Fault Refusal :=
  .next (s.instr dt (.strand c n) 0xBC fun _ => true)

/-- SINK (06 R159, R160): Consumes its operands and emits nothing. -/
def execSink (dt : Nat) (t : Sys2Proof.TileId) (u : Fin 4) (s : State) : Host.Outcome State Fault Refusal :=
  .next (s.instr dt (.fire t u) 0xBD fun _ => true)

end Sys2Proof.Machine
end

