-- ==== Sys2Proof/Machine/Noc.lean ====
section
/-! DEFINITION. The mesh: grants, deliveries, resends, isolated ports, return queues, and the drain of a physical tile (11 R270 to R284). -/
namespace Sys2Proof.Machine

/-! ### Answers for packets that do not arrive -/

/-- A fault token sent to the source of a token (11 R278). -/
def State.faultSource (s : State) (p : Packet) (code : Nat) : State :=
  match p.load with
  | .tok k _ stile =>
    if !p.sedge then
      if p.sr = 35 then s else s.sendFault none stile (s.mkFault k.tag (some k) code 5 stile 0)
    else match cgAt p.sr with
      | some _ =>
        let ft := s.fget F.CLCFG_FTILE 0 stile
        s.sendFault none ft (s.mkFault k.tag (some k) code 5 ft 0)
      | none => s
  | .fab k _ =>
    match fgAt p.sr with
    | some g => s.fabReturn g 4 k
    | none => s
  | _ => s

/-- A router puts a packet of its own on the control VC; it is never refused for want of room (R403). -/
def State.putOwn (s : State) (r : Nat) (p : Packet) : State :=
  let k : PortKey := ⟨p.net, r, 4, 0⟩
  s.bump.setBuf k (s.buf k ++ ({ p with arr := s.now, stamp := s.seqNo } : Packet).flits)

/-- An error completion goes to the requester of each part of a bulk request (11 R276, R277, R279). -/
def State.errorComp (s : State) (r : Nat) (p : Packet) (code : Nat) : State :=
  match p.load with
  | .req m =>
    let site := s.reqSite m.who
    (splitParts 8 m.addr m.size).foldl (fun s q =>
      s.putOwn r (mkPacket 1 0 site.1 site.2 r false 1 (.comp m.id m.who (m.off + q.2.2) 0 code (m.op ≠ .read)))) s
  | .chan _ _ _ core n _ =>
    s.putOwn r (mkPacket 1 0 (s.routerOf core) false r false 1 (.comp 0 (.thread core n) 0 0 code false))
  | _ => s

/-- The source of a packet that does not arrive is answered for it. -/
def State.answerFor (s : State) (r : Nat) (p : Packet) (code : Nat) : State := (s.faultSource p code).errorComp r p code

/-! ### Grants (R272 to R275, R403) -/

/-- Is the port isolated (R279)? -/
def State.isolated (s : State) (r out : Nat) : Bool :=
  (out = 4 && s.fget F.RTCTL_ISOL 0 r = 1) || (out = 5 && s.fget F.RTCTL_ISOE 0 r = 1)

/-- May this flit use the output's VC: the VC is not held by another packet (R273)? -/
def State.vcFree (s : State) (net r out port : Nat) (p : Packet) : Bool :=
  match tfind? s.mesh.vcl (net, r, out, p.vc) with
  | none => p.idx = 0
  | some (q, st) => q = port && st = p.stamp

/-- Is there a place for the flit behind the output (R275)? A domain that is not ON takes nothing (R281), and markers are absorbed by the router (R282). -/
def State.outRoom (s : State) (net r out : Nat) (p : Packet) : Bool :=
  if out < 4 then decide (s.bufUsed ⟨net, neighbour r out, inPort out, p.vc⟩ < bufCap p.vc)
  else if s.isolated r out then true
  else match p.load with
    | .marker _ => false
    | _ => if out = 4 then (match s.tileAtRouter r with | some t => s.tileOn t | none => true) else true

/-- A flit at the router of a tile that has been replaced and is not fenced yet is sent on to the new tile (14 R378); fence markers are not. -/
def State.redirect (s : State) (r : Nat) (p : Packet) : Packet :=
  match p.load with
  | .marker _ => p
  | _ =>
    if p.edge || p.dr ≠ r then p
    else match s.riari.subs.find? fun (e : Nat × Subst) => e.2.fencing && routerOfPhys e.2.old = r && s.fget F.RTCTL_FENCE 0 r ≠ 2 with
      | some e => { p with dr := routerOfPhys e.2.new }
      | none => p

/-- The flits at the head of a router's buffers that want an output: (input port, flit). -/
def State.wanting (s : State) (net r out : Nat) : List (Nat × Packet) :=
  (List.range 6).flatMap fun port => (List.range 5).filterMap fun vc =>
    match s.buf ⟨net, r, port, vc⟩ with
    | q :: _ =>
      let p := s.redirect r q
      if p.arr ≤ s.now ∧ nextOut r p.dr p.edge = out ∧ s.vcFree net r out port p then some (port, p) else none
    | [] => none

/-- Those of them that can be granted. -/
def State.grantable (s : State) (net r out : Nat) : List (Nat × Packet) := (s.wanting net r out).filter fun q => s.outRoom net r out q.2

/-- The step of R273 at which a flit is considered: class 0 that waited, class 0, control, a flit that waited 256 cycles, the round robin. -/
def State.grantStep (s : State) (p : Packet) : Nat :=
  if p.vc = 1 then (if p.arr < s.now then 0 else 1)
  else if p.vc = 0 then 2
  else if p.arr + 256 ≤ s.now then 3 else 4

/-- The classes of the round robin's seven positions (R273). -/
def wrrCycle : List Nat := [1, 2, 1, 3, 1, 2, 1]

/-- The first position from a pointer onward whose class passes a test. -/
def wrrFind (ptr : Nat) (ok : Nat → Bool) : Option Nat :=
  ((List.range 7).map fun k => (ptr + k) % 7).find? fun k => ok (wrrCycle.getD k 1)

/-- The choice of R273 among the flits that can be granted, with the pointer after it. -/
def State.chooseFlit (s : State) (net r out : Nat) : Option ((Nat × Packet) × Nat) :=
  let ptr := tget s.mesh.ptr 0 (net, r, out)
  let l := s.grantable net r out
  let oldest := fun (l : List (Nat × Packet)) => minBy (fun q => q.2.arr * 8 + q.1) l
  match minBy (fun (q : Nat × Packet) => (s.grantStep q.2 * 2 ^ 64 + q.2.arr) * 8 + q.1) l with
  | none => none
  | some q =>
    if s.grantStep q.2 < 4 then some (q, ptr)
    else match wrrFind ptr fun c => l.any fun q => q.2.vc = c + 1 with
      | none => none
      | some k => (oldest (l.filter fun q => q.2.vc = wrrCycle.getD k 1 + 1)).map fun q => (q, (k + 1) % 7)

/-- A flit leaves its buffer through an output: the VC stays with its packet until the tail, and the wait of a class 0 flit counts (R273, R274). -/
def State.takeFlit (s : State) (net r out port : Nat) (p : Packet) (ptr : Nat) : State :=
  let key : PortKey := ⟨net, r, port, p.vc⟩
  let s := s.setBuf key ((s.buf key).drop 1)
  let held := if p.idx + 1 = p.len then tdel s.mesh.vcl (net, r, out, p.vc) else tput s.mesh.vcl (net, r, out, p.vc) (port, p.stamp)
  let s := { s with mesh := { s.mesh with
    vcl := held, ptr := tput s.mesh.ptr (net, r, out) ptr, granted := tput s.mesh.granted (net, r, out) (s.now, p.vc) } }
  if p.vc = 1 then s.finc F.RTCNT1_C0W2 0 r (s.now - p.arr - 1) else s

/-- A flit that arrives at an isolated port is absorbed (R279). -/
def State.absorb (s : State) (r : Nat) (p : Packet) : State :=
  let s := s.inc F.RTCNT1_ABSORB 0 r
  if p.idx + 1 = p.len then s.answerFor r p 0x11 else s

/-- A granted flit crosses the link, is absorbed, or is taken by the port. -/
def State.placeFlit (s : State) (net r out : Nat) (p : Packet) (corrected : Bool) : State :=
  if out < 4 then
    let key : PortKey := ⟨net, neighbour r out, inPort out, p.vc⟩
    let s := s.setBuf key (s.buf key ++ [{ p with arr := s.now + 1, fails := 0 }])
    if corrected then s.inc F.RTCNT0_COR 0 (neighbour r out) else s
  else if s.isolated r out then s.absorb r p
  else
    let own := p.sr = r ∧ p.sedge = p.edge
    { s with mesh := { s.mesh with
      ej := tput s.mesh.ej (net, r, out) (tget s.mesh.ej [] (net, r, out) ++ [{ p with arr := s.now + (if own then 1 else 0) }])
      lastCred := tput s.mesh.lastCred (r, out) s.now } }

/-- Flits that wait for a local port whose domain sleeps wake it (R281). -/
def State.wakeFor (s : State) (net r out : Nat) : State :=
  match s.tileAtRouter r with
  | some t => if out = 4 ∧ !s.tileOn t ∧ !(s.wanting net r out).isEmpty then s.askWake t else s
  | none => s

/-- The tile at a router offers its fire units' kept tokens again: credit has come back, or the return queue has an entry less. -/
def State.drainAt (s : State) (r : Nat) : State :=
  match s.tileAtRouter r with
  | some t => if (s.tile t).unitOut.isEmpty then s else s.drainUnits t
  | none => s

/-- One grant of an output port in a cycle (R273); a flit that leaves the local port's buffer gives its credit back. -/
def State.flitGrant (s : State) (net r out : Nat) (corrected : Bool) : State :=
  let fresh := match tfind? s.mesh.granted (net, r, out) with
    | some g => g.1 ≠ s.now
    | none => true
  if !fresh then s
  else match s.chooseFlit net r out with
    | some ((port, p), ptr) =>
      let s := (s.takeFlit net r out port p ptr).placeFlit net r out p corrected
      if port = 4 then s.drainAt r else s
    | none => s.wakeFor net r out

/-- FLIT_GRANT (11 R273): `corrected` says that the link's receiver corrected the flit (R276). -/
def execFlitGrant (dt : Nat) (net : Fin 2) (r : Sys2Proof.RouterId) (out : Fin 6) (corrected : Bool) (s : State) : Host.Outcome State Fault Refusal :=
  .next ((s.advance dt).flitGrant net.val r.val out.val corrected)

/-! ### Resends (R276) -/

/-- Every flit of a packet leaves the mesh. -/
def State.dropPacket (s : State) (stamp : Nat) : State :=
  { s with mesh := { s.mesh with
    buf := s.mesh.buf.map fun (b : PortKey × List Packet) => (b.1, b.2.filter fun p => p.stamp ≠ stamp)
    vcl := s.mesh.vcl.filter fun e => e.2.2 ≠ stamp } }

/-- The flit that an output granted last arrived with an uncorrectable error: it is sent again 3 cycles later, or given up after the third failure (R276). -/
def State.flitResend (s : State) (net r out : Nat) : State :=
  match tfind? s.mesh.granted (net, r, out) with
  | none => s
  | some (_, vc) =>
    let key : PortKey := ⟨net, neighbour r out, inPort out, vc⟩
    match (s.buf key).getLast? with
    | none => s
    | some p =>
      if p.arr < s.now then s
      else if 2 ≤ p.fails then ((s.dropPacket p.stamp).inc F.RTCNT0_HDROP 0 r).answerFor r p 0x10
      else (s.setBuf key ((s.buf key).dropLast ++ [{ p with arr := p.arr + 3, rty := true, fails := p.fails + 1 }])).inc F.RTCNT0_HRPL 0 r

/-- FLIT_RESEND (11 R276). -/
def execFlitResend (dt : Nat) (net : Fin 2) (r : Sys2Proof.RouterId) (out : Fin 4) (s : State) : Host.Outcome State Fault Refusal :=
  .next ((s.advance dt).flitResend net.val r.val out.val)

/-! ### Deliveries (R272, R277, R278) -/

/-- A verdict token reaches its catch gateway (09 R230 to R232). -/
def State.verdictArrives (s : State) (l : Nat) (k : Token) (sr : Nat) (sedge : Bool) (stile stamp : Nat) : State :=
  if !s.clUp l then s.sendFault none stile (s.mkFault k.tag (some k) 0x11 5 stile 0)
  else if s.verdictRoom l then s.sendVerdict l k.val (k.cls = 0)
  else
    let r := cgRouter (l / 4)
    let p := { mkPacket 0 (k.cls + 1) r true sr sedge 1 (.tok k (.link l) stile) with stamp := stamp }
    { s.inc F.RTCNT2_QBNC 0 r with mesh := { s.mesh with bwait := tput s.mesh.bwait (sr, portNo sedge) (tget s.mesh.bwait [] (sr, portNo sedge) ++ [p]) } }

/-- A class 0 token of a class 0 context that was resent on the mesh is counted where a matching store accepts it (R278). -/
def State.countRetry (s : State) (p : Packet) (k : Token) : State :=
  if p.rty ∧ k.cls = 0 ∧ (s.ctx k.ctx).st ≠ 0 ∧ (s.ctx k.ctx).cls = 0 then s.inc F.C0BOUND_C0RETRY 0 (s.ctx k.ctx).act else s

/-- A channel operation reaches its queue unit (03 R80, R81): its thread completes, waits there, or faults. -/
def State.chanArrives (s : State) (commit : Bool) (t q c n : Nat) (k : Token) : State :=
  match (if commit then s.chanCommit t q c n else s.chanWrite t q c n k) with
  | .done d s => s.wake c n (.status d)
  | .wait w s => s.bump.onThr c n fun x => { x with wait := w, since := s.seqNo }
  | .fails code s => s.wake c n (.fails code)

/-- A completion reaches its requester. -/
def State.compArrives (s : State) (id : Nat) (who : Sys2Proof.Req) (off data code : Nat) (write : Bool) : State :=
  match who with
  | .thread c n => if id = 0 then s.wake c n (.fails code) else s.answer id who off data code write
  | _ => s.answer id who off data code write

/-- What a packet does at its destination port. -/
def State.deliver (s : State) (p : Packet) : State :=
  match p.load with
  | .tok k (.link l) stile => s.verdictArrives l k p.sr p.sedge stile p.stamp
  | .tok k (.fabric g) stile => s.toGateway g (s.stampFab k stile)
  | .tok k dest _ => (s.countRetry p k).deliverTok dest k p.sr p.sedge true p.stamp
  | .fab k (.fabric g) => s.toGateway g k
  | .fab k dest => (s.countRetry p k.tok).deliverTok dest k.tok p.sr p.sedge true p.stamp
  | .req m => s.toBanks m
  | .comp id who off data code write => s.compArrives id who off data code write
  | .chan commit t q c n k => s.chanArrives commit t q c n k
  | .marker _ => s

/-- Does the tile at a local port hold what it receives (14 R378)? -/
def State.holdsPort (s : State) (r : Nat) (edge : Bool) : Bool :=
  !edge && (match s.tileAtRouter r with | some t => s.frozen t | none => false)

/-- The oldest whole packet at a port is delivered, or discarded when its CRC fails (R277). -/
def State.flitDelivery (s : State) (net r : Nat) (edge crcOk : Bool) : State :=
  let l := tget s.mesh.ej [] (net, r, portNo edge)
  match if s.holdsPort r edge then none else l.find? fun p => p.idx + 1 = p.len && decide (p.arr ≤ s.now) with
  | none => s
  | some p =>
    let s := { s with mesh := { s.mesh with ej := tput s.mesh.ej (net, r, portNo edge) (l.filter fun q => q.stamp ≠ p.stamp) } }
    if crcOk then s.deliver p else (s.inc F.RTCNT0_E2E 0 r).answerFor r p 0x10

/-- FLIT_DELIVERY (11 R272): `crcOk` says whether the CRC-32C of the packet holds (R277). -/
def execFlitDelivery (dt : Nat) (net : Fin 2) (r : Sys2Proof.RouterId) (edge crcOk : Bool) (s : State) : Host.Outcome State Fault Refusal :=
  .next ((s.advance dt).flitDelivery net.val r.val edge crcOk)

/-! ### Dead targets (R279) -/

/-- May the DTTO timer of a port run: it exists, its domain is ON and it is not draining or fenced (R284)? -/
def State.dttoRuns (s : State) (r : Nat) (edge : Bool) : Bool :=
  if edge then true
  else s.fget F.RTCTL_FENCE 0 r = 0 && (match s.tileAtRouter r with | some t => s.tileOn t | none => true)

/-- Has a flit waited for the port, and the port taken none, for DTTO beats? -/
def State.portDead (s : State) (r out : Nat) : Bool :=
  let d := 8 * s.fget F.RTCTL_DTTO 0 r
  decide (tget s.mesh.lastCred 0 (r, out) + d ≤ s.now) &&
  [0, 1].any fun net => (s.wanting net r out).any fun q => decide (q.2.arr + d ≤ s.now)

/-- A dead port is isolated (R279). -/
def State.portIsolate (s : State) (r : Nat) (edge : Bool) : State :=
  let out := portNo edge
  if s.dttoRuns r edge ∧ !s.isolated r out ∧ s.portDead r out then
    ((s.fset (if edge then F.RTCTL_ISOE else F.RTCTL_ISOL) 0 r 1).raiseDev 2).event 8 (r + b2n edge * 128)
  else s

/-- PORT_ISOLATE (11 R279). -/
def execPortIsolate (dt : Nat) (r : Sys2Proof.RouterId) (edge : Bool) (s : State) : Host.Outcome State Fault Refusal :=
  .next ((s.advance dt).portIsolate r.val edge)

/-! ### The return queue (R280) -/

/-- A token's place in a return queue: before the entries for the same destination that were first offered after it. -/
def retInsert (e : Packet × Nat × Bool) : List (Packet × Nat × Bool) → List (Packet × Nat × Bool)
  | [] => [e]
  | f :: l =>
    if f.1.dr = e.1.dr ∧ f.1.edge = e.1.edge ∧ e.1.stamp < f.1.stamp then e :: f :: l else f :: retInsert e l

/-- The oldest bounce for a port enters its return queue when there is room; it is offered again one beat later (R280). -/
def State.bounce (s : State) (r : Nat) (edge : Bool) : State :=
  match tget s.mesh.bwait [] (r, portNo edge) with
  | [] => s
  | p :: l =>
    let q := s.retq r edge
    if 16 ≤ q.length then s
    else { s with mesh := { s.mesh with bwait := tput s.mesh.bwait (r, portNo edge) l } }.setRetq r edge (retInsert (p, s.now + 8, false) q)

/-- BOUNCE (11 R280). -/
def execBounce (dt : Nat) (r : Sys2Proof.RouterId) (edge : Bool) (s : State) : Host.Outcome State Fault Refusal :=
  .next ((s.advance dt).bounce r.val edge)

/-- The first entry that may be offered again: due, not waiting for an unfence, and behind no entry for the same destination. -/
def retNext (now : Nat) : List (Packet × Nat × Bool) → List (Packet × Nat × Bool) → Option (Packet × Nat × Bool)
  | _, [] => none
  | before, e :: l =>
    if e.2.1 ≤ now ∧ e.2.2 = false ∧ !(before.any fun f => f.1.dr = e.1.dr && f.1.edge = e.1.edge) then some e
    else retNext now (e :: before) l

/-- A return-queue entry is offered again, at most one per cycle (R280). -/
def State.bounceReoffer (s : State) (r : Nat) (edge : Bool) : State :=
  let q := s.retq r edge
  if tfind? s.mesh.offer (r, portNo edge) = some s.now then s
  else match retNext s.now [] q with
    | none => s
    | some e =>
      let s := { s with mesh := { s.mesh with offer := tput s.mesh.offer (r, portNo edge) s.now } }
      if s.fencedAt r e.1.dr e.1.edge then
        (s.setRetq r edge (q.map fun f => if f.1.stamp = e.1.stamp then (f.1, f.2.1, true) else f)).inc F.RTCNT2_FRET 0 r
      else
        let k : PortKey := ⟨e.1.net, r, portNo edge, e.1.vc⟩
        if s.bufUsed k + e.1.len ≤ bufCap e.1.vc then
          ((s.setRetq r edge (q.filter fun f => f.1.stamp ≠ e.1.stamp)).setBuf k (s.buf k ++ ({ e.1 with arr := s.now } : Packet).flits)).drainAt r
        else s

/-- BOUNCE_REOFFER (11 R280, 09 R232). -/
def execBounceReoffer (dt : Nat) (r : Sys2Proof.RouterId) (edge : Bool) (s : State) : Host.Outcome State Fault Refusal :=
  .next ((s.advance dt).bounceReoffer r.val edge)

/-! ### Drain and fence (R282 to R284) -/

/-- A router receives the fence notice of a physical tile: it refuses its data flits from now on and sends one marker on each of VCs 1 to 4 of each network (R282). -/
def State.fenceNotice (s : State) (p r : Nat) : State :=
  match takeFirst (fun m => m = Ctl.fence p r) s.ctl with
  | none => s
  | some (_, l) =>
    let s := { s with ctl := l, mesh := { s.mesh with fenced := (p, r) :: s.mesh.fenced } }
    [0, 1].foldl (fun s net => [1, 2, 3, 4].foldl (fun s vc =>
      let k : PortKey := ⟨net, r, 4, vc⟩
      let m := { mkPacket net vc (routerOfPhys p) false r false 1 (.marker p) with arr := s.now + vc, stamp := s.seqNo }
      s.bump.setBuf k (s.buf k ++ [m])) s) s

/-- FENCE_NOTICE (11 R282). -/
def execFenceNotice (dt : Nat) (p : Fin 68) (r : Sys2Proof.RouterId) (s : State) : Host.Outcome State Fault Refusal :=
  .next ((s.advance dt).fenceNotice p.val r.val)

/-- The router of a physical tile absorbs one marker of a network in a cycle (R282). -/
def State.markerAbsorb (s : State) (p net : Nat) : State :=
  let r := routerOfPhys p
  if tfind? s.mesh.markAt (p, net) = some s.now then s
  else match minBy (fun (q : Nat × Packet) => q.2.arr * 8 + q.1) ((s.wanting net r 4).filter fun q => isMarker p q.2) with
    | none => s
    | some (port, k) =>
      let key : PortKey := ⟨net, r, port, k.vc⟩
      let s := s.setBuf key ((s.buf key).drop 1)
      { s with mesh := { s.mesh with
        marks := tput s.mesh.marks (p, net) (tget s.mesh.marks 0 (p, net) + 1), markAt := tput s.mesh.markAt (p, net) s.now } }

/-- MARKER_ABSORB (11 R282). -/
def execMarkerAbsorb (dt : Nat) (p : Fin 68) (net : Fin 2) (s : State) : Host.Outcome State Fault Refusal :=
  .next ((s.advance dt).markerAbsorb p.val net.val)

/-- 288 markers are counted on each network: the tile is FENCED, and the fence-done message leaves (R282). -/
def State.fencedNow (s : State) (p : Nat) : State :=
  let r := routerOfPhys p
  if s.fget F.RTCTL_FENCE 0 r = 1 ∧ tget s.mesh.marks 0 (p, 0) = 288 ∧ tget s.mesh.marks 0 (p, 1) = 288 then
    let s := (s.fset F.RTCTL_FENCE 0 r 2).post (.fenceDone p)
    match s.tileAtPhys p with
    | some t => s.onTile t fun x => { x with power := x.power.map fun w => if w.dest = 3 then { w with fencedAt := some s.now } else w }
    | none => s
  else s

/-- FENCED (11 R282). -/
def execFenced (dt : Nat) (p : Fin 68) (s : State) : Host.Outcome State Fault Refusal := .next ((s.advance dt).fencedNow p.val)

/-- The tile that a substitution replaced is fenced: the substitution is over, with its event (14 R378, R383). -/
def State.substFenced (s : State) (p : Nat) : State :=
  match s.riari.subs.find? fun (e : Nat × Subst) => e.2.fencing && e.2.old = p with
  | none => s
  | some (t, m) =>
    let s := { s with riari := { s.riari with
      subs := if m.moving then tput s.riari.subs t { m with fencing := false } else tdel s.riari.subs t
      retired := s.riari.retired ++ [(t, p, m.new)] } }
    s.event 65 (t + p * 64 + m.new * 2 ^ 14 + b2n m.recovery * 2 ^ 22) m.slate.toNat

/-- The fence-done message reaches the control complex: a switch-off goes on for 256 cycles (R282, 12 R318). -/
def State.fenceDone (s : State) (p : Nat) : State :=
  match takeFirst (fun m => m = Ctl.fenceDone p) s.ctl with
  | none => s
  | some (_, l) =>
    let s := { s with ctl := l }.substFenced p
    match s.tileAtPhys p with
    | some t => s.onTile t fun x => { x with power := x.power.map fun w => if w.dest = 3 ∧ w.endAt = none then { w with endAt := some (s.now + 256) } else w }
    | none => s

/-- FENCE_DONE (11 R282). -/
def execFenceDone (p : Fin 68) (s : State) : Host.Outcome State Fault Refusal := .next (s.fenceDone p.val)

/-- A router receives the unfence of a physical tile and clears its fence; the entries that wait for it are offered again (R280, R283). -/
def State.unfence (s : State) (p r : Nat) : State :=
  match takeFirst (fun m => m = Ctl.unfence p r) s.ctl with
  | none => s
  | some (_, l) =>
    let s := { s with ctl := l, mesh := { s.mesh with fenced := s.mesh.fenced.filter fun f => f ≠ (p, r) } }
    let s := if r = routerOfPhys p then s.fset F.RTCTL_FENCE 0 r 0 else s
    [false, true].foldl (fun s edge =>
      s.setRetq r edge ((s.retq r edge).map fun f =>
        if f.1.dr = routerOfPhys p ∧ f.1.edge = false then (f.1, f.2.1, false) else f)) s

/-- UNFENCE (11 R283). -/
def execUnfence (dt : Nat) (p : Fin 68) (r : Sys2Proof.RouterId) (s : State) : Host.Outcome State Fault Refusal :=
  .next ((s.advance dt).unfence p.val r.val)

end Sys2Proof.Machine
end

