-- ==== Sys2Proof/Machine/WriteRows.lean ====
section
/-! DEFINITION. The commands that are register writes: each is the checked write of 00 R402 of one register; where a command is one act of a register, a write that does not ask for that act is no such command and changes nothing. -/
namespace Sys2Proof.Machine

/-- A write to an address of a register window (00 R8, R9). An address that is not 8-byte aligned leaves the register unchanged and is told as R9 says. -/
def State.registerWrite (s : State) (who : Sys2Proof.Req) (addr : Nat) (v : Word) : State :=
  match s.region (reqTile who) addr with
  | .treg _ _ | .dreg _ =>
    if addr % 8 ≠ 0 then
      match who with
      | .thread c n => if (s.thr c n).st = .ready then s.trap c n 3 (s.thr c n).pc false else s
      | .debug => s.fset F.DAPSTAT_ERR 0 0 3
      | _ => s
    else s.told who addr (s.ioWrite who (reqTile who) addr v)
  | _ => s

/-- REGISTER_WRITE (00 R8, R9, R401, R402). -/
def execRegisterWrite (who : Sys2Proof.Req) (addr : Nat) (v : Word) (s : State) : Host.Outcome State Fault Refusal :=
  .next (s.registerWrite who addr v)

/-- A write that asks for one act of a register, by a test of its image. -/
def State.writeIf (s : State) (b : Bool) (who : Sys2Proof.Req) (k : RegKind) (t i : Nat) (v : Word) : State :=
  if b then s.doWrite who k t i v else s

/-- LTMAP_WRITE (01 R17). -/
def execLtmapWrite (who : Sys2Proof.Req) (t : Sys2Proof.TileId) (v : Word) (s : State) : Host.Outcome State Fault Refusal :=
  .next (s.doWrite who .LTMAP 0 t.val v)

/-- RETIRE (01 R18). -/
def execRetire (who : Sys2Proof.Req) (p : Fin 68) (v : Word) (s : State) : Host.Outcome State Fault Refusal :=
  .next (s.writeIf (v.getLsbD 9) who .PTSTAT 0 p.val v)

/-- LANESTAT_SKIP (03 R64). -/
def execLanestatSkip (who : Sys2Proof.Req) (l : Sys2Proof.LaneId) (s : State) : Host.Outcome State Fault Refusal :=
  .next (s.doWrite who .LANESTAT 0 l.val (wd (2 ^ 61)))

/-- LANE_ENABLE (03 R67, R70). -/
def execLaneEnable (who : Sys2Proof.Req) (l : Sys2Proof.LaneId) (v : Word) (s : State) : Host.Outcome State Fault Refusal :=
  .next (s.writeIf (v.getLsbD 0) who .LANECFG 0 l.val v)

/-- LANE_DISABLE (03 R67). -/
def execLaneDisable (who : Sys2Proof.Req) (l : Sys2Proof.LaneId) (v : Word) (s : State) : Host.Outcome State Fault Refusal :=
  .next (s.writeIf (!v.getLsbD 0) who .LANECFG 0 l.val v)

/-- LANEGAP_WRITE (03 R69). -/
def execLanegapWrite (who : Sys2Proof.Req) (l : Sys2Proof.LaneId) (v : Word) (s : State) : Host.Outcome State Fault Refusal :=
  .next (s.doWrite who .LANEGAP 0 l.val v)

/-- QCFG_WRITE (03 R75). -/
def execQcfgWrite (who : Sys2Proof.Req) (t : Sys2Proof.TileId) (q : Sys2Proof.QueueId) (v : Word) (s : State) : Host.Outcome State Fault Refusal :=
  .next (s.doWrite who .QCFG t.val q.val v)

/-- QDB_PROD (03 R74). -/
def execQdbProd (who : Sys2Proof.Req) (t : Sys2Proof.TileId) (q : Sys2Proof.QueueId) (count : Fin 65536) (s : State) : Host.Outcome State Fault Refusal :=
  .next (s.doWrite who .QDB t.val q.val (wd count.val))

/-- QDB_CONS (03 R74). -/
def execQdbCons (who : Sys2Proof.Req) (t : Sys2Proof.TileId) (q : Sys2Proof.QueueId) (count : Fin 65536) (s : State) : Host.Outcome State Fault Refusal :=
  .next (s.doWrite who .QDB t.val q.val (wd (count.val * 65536)))

/-- STRKCFG_WRITE (04 R84, R88). -/
def execStrkcfgWrite (who : Sys2Proof.Req) (v : Word) (s : State) : Host.Outcome State Fault Refusal := .next (s.doWrite who .STRKCFG 0 0 v)

/-- CUTTAKE_ARM (04 R103). -/
def execCuttakeArm (who : Sys2Proof.Req) (v : Word) (s : State) : Host.Outcome State Fault Refusal :=
  .next (s.writeIf (v.getLsbD 16) who .CUTTAKE 0 0 v)

/-- TCTL_RESET (05 R125). -/
def execTctlReset (who : Sys2Proof.Req) (c : Sys2Proof.CoreId) (n : Sys2Proof.ThreadId) (s : State) : Host.Outcome State Fault Refusal :=
  .next (s.doWrite who .TCTL c.val n.val 1)

/-- TCTL_RESUME (05 R122). -/
def execTctlResume (who : Sys2Proof.Req) (c : Sys2Proof.CoreId) (n : Sys2Proof.ThreadId) (s : State) : Host.Outcome State Fault Refusal :=
  .next (s.doWrite who .TCTL c.val n.val 2)

/-- TCTL_SKIP (05 R122). -/
def execTctlSkip (who : Sys2Proof.Req) (c : Sys2Proof.CoreId) (n : Sys2Proof.ThreadId) (s : State) : Host.Outcome State Fault Refusal :=
  .next (s.doWrite who .TCTL c.val n.val 4)

/-- RBCFG_WRITE (09 R238). -/
def execRbcfgWrite (who : Sys2Proof.Req) (b : Fin 4096) (v : Word) (s : State) : Host.Outcome State Fault Refusal :=
  .next (s.doWrite who .RBCFG 0 b.val v)

/-- The configuration register of a link. -/
def linkCfg (k : Sys2Proof.LinkId) : RegKind := if isFab k then .FLCFG else .CLCFG

/-- LINK_ENABLE (09 R217; 11 R290). -/
def execLinkEnable (who : Sys2Proof.Req) (k : Sys2Proof.LinkId) (v : Word) (s : State) : Host.Outcome State Fault Refusal :=
  .next (s.writeIf (v.getLsbD 0) who (linkCfg k) 0 (lkIx k) v)

/-- LINK_DISABLE (09 R217; 11 R290). -/
def execLinkDisable (who : Sys2Proof.Req) (k : Sys2Proof.LinkId) (v : Word) (s : State) : Host.Outcome State Fault Refusal :=
  .next (s.writeIf (!v.getLsbD 0) who (linkCfg k) 0 (lkIx k) v)

/-- SAFEX (09 R218): the register as it stands, with SAFEX written 1. -/
def execSafex (who : Sys2Proof.Req) (l : Fin 32) (s : State) : Host.Outcome State Fault Refusal :=
  .next (s.doWrite who .CLCFG 0 l.val (wset (s.reg .CLCFG 0 l.val) 4 1 1))

/-- BANKPWR_WRITE (10 R254). -/
def execBankpwrWrite (who : Sys2Proof.Req) (t : Sys2Proof.TileId) (v : Word) (s : State) : Host.Outcome State Fault Refusal :=
  .next (s.doWrite who .BANKPWR t.val 0 v)

/-- MOCMD_GO (10 R260). -/
def execMocmdGo (who : Sys2Proof.Req) (v : Word) (s : State) : Host.Outcome State Fault Refusal :=
  .next (s.writeIf (v.getLsbD 5) who .MOCMD 0 0 v)

/-- RUSHCFG_EN (10 R265, R266): of a tile, or of the LPDDR4X. -/
def execRushcfgEn (who : Sys2Proof.Req) (u : Option Sys2Proof.TileId) (v : Word) (s : State) : Host.Outcome State Fault Refusal :=
  .next (match u with
    | some t => s.doWrite who .RUSHCFG t.val 0 v
    | none => s.doWrite who .RDCFG 0 0 v)

/-- UNISO (11 R279): the register as it stands, with UNISO written 1. -/
def execUniso (who : Sys2Proof.Req) (r : Sys2Proof.RouterId) (s : State) : Host.Outcome State Fault Refusal :=
  .next (s.doWrite who .RTCTL 0 r.val (wset (s.reg .RTCTL 0 r.val) 2 1 1))

/-- UNISOE (11 R279). -/
def execUnisoe (who : Sys2Proof.Req) (r : Sys2Proof.RouterId) (s : State) : Host.Outcome State Fault Refusal :=
  .next (s.doWrite who .RTCTL 0 r.val (wset (s.reg .RTCTL 0 r.val) 3 1 1))

/-- RTBANK_STAGE (11 R296). -/
def execRtbankStage (who : Sys2Proof.Req) (b : Fin 2) (v : Word) (s : State) : Host.Outcome State Fault Refusal :=
  .next (s.writeIf (v.getLsbD 18) who .RTBANK 0 b.val v)

/-- RTBANK_UNSTAGE (11 R296). -/
def execRtbankUnstage (who : Sys2Proof.Req) (b : Fin 2) (v : Word) (s : State) : Host.Outcome State Fault Refusal :=
  .next (s.writeIf (v.getLsbD 19) who .RTBANK 0 b.val v)

/-- ISWSET (12 R316). -/
def execIswset (who : Sys2Proof.Req) (t : Sys2Proof.TileId) (v : Word) (s : State) : Host.Outcome State Fault Refusal :=
  .next (s.doWrite who .ISWSET t.val 0 v)

/-- DSWSET (12 R317). -/
def execDswset (who : Sys2Proof.Req) (k : Fin 4) (v : Word) (s : State) : Host.Outcome State Fault Refusal :=
  .next (s.doWrite who .DSWSET 0 k.val v)

/-- TPWR_REQ_ON (12 R318, R319). -/
def execTpwrReqOn (who : Sys2Proof.Req) (t : Sys2Proof.TileId) (v : Word) (s : State) : Host.Outcome State Fault Refusal :=
  .next (s.writeIf (decide (wbits v 0 2 = 0)) who .TPWR 0 t.val v)

/-- TPWR_REQ_NAP (12 R318, R319). -/
def execTpwrReqNap (who : Sys2Proof.Req) (t : Sys2Proof.TileId) (v : Word) (s : State) : Host.Outcome State Fault Refusal :=
  .next (s.writeIf (decide (wbits v 0 2 = 2)) who .TPWR 0 t.val v)

/-- TPWR_REQ_OFF (12 R318, R319). -/
def execTpwrReqOff (who : Sys2Proof.Req) (t : Sys2Proof.TileId) (v : Word) (s : State) : Host.Outcome State Fault Refusal :=
  .next (s.writeIf (decide (wbits v 0 2 = 3)) who .TPWR 0 t.val v)

/-- LKCELL_WRITE (12 R324). -/
def execLkcellWrite (who : Sys2Proof.Req) (g : Sys2Proof.TileId) (cell : Fin 64) (v : Word) (s : State) : Host.Outcome State Fault Refusal :=
  .next (s.doWrite who .LKCELL g.val cell.val v)

/-- LKGCFG_WRITE (12 R328). -/
def execLkgcfgWrite (who : Sys2Proof.Req) (g : Sys2Proof.TileId) (v : Word) (s : State) : Host.Outcome State Fault Refusal :=
  .next (s.doWrite who .LKGCFG g.val 0 v)

/-- DBGT[n] as it stands, with one of its WO bits, or CHPOL, written 1. -/
def State.dbgtWith (s : State) (c n b : Nat) : Word := wset (s.reg .DBGT c n) b 1 1

/-- HALT (13 R357). -/
def execHalt (who : Sys2Proof.Req) (c : Sys2Proof.CoreId) (n : Sys2Proof.ThreadId) (s : State) : Host.Outcome State Fault Refusal :=
  .next (s.doWrite who .DBGT c.val n.val (s.dbgtWith c.val n.val 0))

/-- DBGT_RUN (13 R357). -/
def execDbgtRun (who : Sys2Proof.Req) (c : Sys2Proof.CoreId) (n : Sys2Proof.ThreadId) (s : State) : Host.Outcome State Fault Refusal :=
  .next (s.doWrite who .DBGT c.val n.val (s.dbgtWith c.val n.val 1))

/-- STEP (13 R357). -/
def execStep (who : Sys2Proof.Req) (c : Sys2Proof.CoreId) (n : Sys2Proof.ThreadId) (s : State) : Host.Outcome State Fault Refusal :=
  .next (s.doWrite who .DBGT c.val n.val (s.dbgtWith c.val n.val 2))

/-- CHPOL (13 R358). -/
def execChpol (who : Sys2Proof.Req) (c : Sys2Proof.CoreId) (n : Sys2Proof.ThreadId) (s : State) : Host.Outcome State Fault Refusal :=
  .next (s.doWrite who .DBGT c.val n.val (s.dbgtWith c.val n.val 3))

end Sys2Proof.Machine
end

