-- ==== Sys2Proof/Machine/Dispatch.lean ====
section
/-! DEFINITION. The meaning of each command, one arm per row of the opcode table. -/
namespace Sys2Proof.Machine

/-- The meaning of a command. -/
def exec (i : Instr) (s : State) : Host.Outcome State Fault Refusal :=
  match i with
  | .registerWrite who addr v => Sys2Proof.Machine.execRegisterWrite who addr v s
  | .ltmapWrite who t v => Sys2Proof.Machine.execLtmapWrite who t v s
  | .retire who p v => Sys2Proof.Machine.execRetire who p v s
  | .tokenLookup dt t => Sys2Proof.Machine.execTokenLookup dt t s
  | .spillWriteBufferDrain dt t => Sys2Proof.Machine.execSpillWriteBufferDrain dt t s
  | .refill dt t n => Sys2Proof.Machine.execRefill dt t n s
  | .taskDispatch dt c slot => Sys2Proof.Machine.execTaskDispatch dt c slot s
  | .chainedDispatch dt t u => Sys2Proof.Machine.execChainedDispatch dt t u s
  | .freeNotice ctx => Sys2Proof.Machine.execFreeNotice ctx s
  | .contextClose dt ctx t => Sys2Proof.Machine.execContextClose dt ctx t s
  | .sweepEnd dt ctx t => Sys2Proof.Machine.execSweepEnd dt ctx t s
  | .closeAck ctx t => Sys2Proof.Machine.execCloseAck ctx t s
  | .alloc dt c n => Sys2Proof.Machine.execAlloc dt c n s
  | .windowArrival dt l => Sys2Proof.Machine.execWindowArrival dt l s
  | .release dt o => Sys2Proof.Machine.execRelease dt o s
  | .creditFlit dt l => Sys2Proof.Machine.execCreditFlit dt l s
  | .creditArrival l => Sys2Proof.Machine.execCreditArrival l s
  | .snextReport l => Sys2Proof.Machine.execSnextReport l s
  | .gapTimeout dt l => Sys2Proof.Machine.execGapTimeout dt l s
  | .lanestatSkip who l => Sys2Proof.Machine.execLanestatSkip who l s
  | .laneEnable who l v => Sys2Proof.Machine.execLaneEnable who l v s
  | .laneDisable who l v => Sys2Proof.Machine.execLaneDisable who l v s
  | .laneDrained l => Sys2Proof.Machine.execLaneDrained l s
  | .lanegapWrite who l v => Sys2Proof.Machine.execLanegapWrite who l v s
  | .qcfgWrite who t q v => Sys2Proof.Machine.execQcfgWrite who t q v s
  | .qdbProd who t q count => Sys2Proof.Machine.execQdbProd who t q count s
  | .qdbCons who t q count => Sys2Proof.Machine.execQdbCons who t q count s
  | .queuePush dt t q => Sys2Proof.Machine.execQueuePush dt t q s
  | .laneSourcePop dt l => Sys2Proof.Machine.execLaneSourcePop dt l s
  | .pushRetry dt c n => Sys2Proof.Machine.execPushRetry dt c n s
  | .strokeBoundary dt => Sys2Proof.Machine.execStrokeBoundary dt s
  | .overrunLimit t a => Sys2Proof.Machine.execOverrunLimit t a s
  | .shotOpen dt t => Sys2Proof.Machine.execShotOpen dt t s
  | .strokeInEdge dt t10 => Sys2Proof.Machine.execStrokeInEdge dt t10 s
  | .strokeSourceLost dt => Sys2Proof.Machine.execStrokeSourceLost dt s
  | .strokeSourceReturn dt => Sys2Proof.Machine.execStrokeSourceReturn dt s
  | .strkcfgWrite who v => Sys2Proof.Machine.execStrkcfgWrite who v s
  | .cuttakeArm who v => Sys2Proof.Machine.execCuttakeArm who v s
  | .cutChecksComplete dt => Sys2Proof.Machine.execCutChecksComplete dt s
  | .cutSample dt => Sys2Proof.Machine.execCutSample dt s
  | .timerDue dt c => Sys2Proof.Machine.execTimerDue dt c s
  | .timerArmRetry dt c n => Sys2Proof.Machine.execTimerArmRetry dt c n s
  | .tctlReset who c n => Sys2Proof.Machine.execTctlReset who c n s
  | .tctlResume who c n => Sys2Proof.Machine.execTctlResume who c n s
  | .tctlSkip who c n => Sys2Proof.Machine.execTctlSkip who c n s
  | .faultTokenArrival t => Sys2Proof.Machine.execFaultTokenArrival t s
  | .loadComplete dt c n => Sys2Proof.Machine.execLoadComplete dt c n s
  | .add dt x => Sys2Proof.Machine.execAdd dt x s
  | .addc dt c n => Sys2Proof.Machine.execAddc dt c n s
  | .sub dt x => Sys2Proof.Machine.execSub dt x s
  | .subc dt c n => Sys2Proof.Machine.execSubc dt c n s
  | .addo dt x => Sys2Proof.Machine.execAddo dt x s
  | .subo dt x => Sys2Proof.Machine.execSubo dt x s
  | .neg dt x => Sys2Proof.Machine.execNeg dt x s
  | .nego dt x => Sys2Proof.Machine.execNego dt x s
  | .and dt x => Sys2Proof.Machine.execAnd dt x s
  | .or dt x => Sys2Proof.Machine.execOr dt x s
  | .xor dt x => Sys2Proof.Machine.execXor dt x s
  | .andn dt x => Sys2Proof.Machine.execAndn dt x s
  | .orn dt x => Sys2Proof.Machine.execOrn dt x s
  | .xnor dt x => Sys2Proof.Machine.execXnor dt x s
  | .not dt x => Sys2Proof.Machine.execNot dt x s
  | .mov dt x => Sys2Proof.Machine.execMov dt x s
  | .lsl dt x => Sys2Proof.Machine.execLsl dt x s
  | .lsr dt x => Sys2Proof.Machine.execLsr dt x s
  | .asr dt x => Sys2Proof.Machine.execAsr dt x s
  | .ror dt x => Sys2Proof.Machine.execRor dt x s
  | .lslw dt x => Sys2Proof.Machine.execLslw dt x s
  | .lsrw dt x => Sys2Proof.Machine.execLsrw dt x s
  | .asrw dt x => Sys2Proof.Machine.execAsrw dt x s
  | .rorw dt x => Sys2Proof.Machine.execRorw dt x s
  | .cmp dt x => Sys2Proof.Machine.execCmp dt x s
  | .cmpw dt x => Sys2Proof.Machine.execCmpw dt x s
  | .tst dt x => Sys2Proof.Machine.execTst dt x s
  | .min dt x => Sys2Proof.Machine.execMin dt x s
  | .max dt x => Sys2Proof.Machine.execMax dt x s
  | .minu dt x => Sys2Proof.Machine.execMinu dt x s
  | .maxu dt x => Sys2Proof.Machine.execMaxu dt x s
  | .abs dt x => Sys2Proof.Machine.execAbs dt x s
  | .mulu dt x => Sys2Proof.Machine.execMulu dt x s
  | .muls dt x => Sys2Proof.Machine.execMuls dt x s
  | .macu dt c n => Sys2Proof.Machine.execMacu dt c n s
  | .macs dt c n => Sys2Proof.Machine.execMacs dt c n s
  | .mul dt x => Sys2Proof.Machine.execMul dt x s
  | .mfph dt c n => Sys2Proof.Machine.execMfph dt c n s
  | .mfpl dt c n => Sys2Proof.Machine.execMfpl dt c n s
  | .mtpp dt c n => Sys2Proof.Machine.execMtpp dt c n s
  | .dset dt c n => Sys2Proof.Machine.execDset dt c n s
  | .dsetw dt c n => Sys2Proof.Machine.execDsetw dt c n s
  | .dsetu dt c n => Sys2Proof.Machine.execDsetu dt c n s
  | .dsetuw dt c n => Sys2Proof.Machine.execDsetuw dt c n s
  | .dstep dt c n => Sys2Proof.Machine.execDstep dt c n s
  | .dfin dt c n => Sys2Proof.Machine.execDfin dt c n s
  | .dfinw dt c n => Sys2Proof.Machine.execDfinw dt c n s
  | .clz dt x => Sys2Proof.Machine.execClz dt x s
  | .ctz dt x => Sys2Proof.Machine.execCtz dt x s
  | .popc dt x => Sys2Proof.Machine.execPopc dt x s
  | .ext dt x => Sys2Proof.Machine.execExt dt x s
  | .extu dt x => Sys2Proof.Machine.execExtu dt x s
  | .ins dt c n => Sys2Proof.Machine.execIns dt c n s
  | .bswap dt x => Sys2Proof.Machine.execBswap dt x s
  | .sxt dt x => Sys2Proof.Machine.execSxt dt x s
  | .zxt dt x => Sys2Proof.Machine.execZxt dt x s
  | .setc dt x => Sys2Proof.Machine.execSetc dt x s
  | .ldb dt x => Sys2Proof.Machine.execLdb dt x s
  | .ldbu dt x => Sys2Proof.Machine.execLdbu dt x s
  | .ldh dt x => Sys2Proof.Machine.execLdh dt x s
  | .ldhu dt x => Sys2Proof.Machine.execLdhu dt x s
  | .ldw dt x => Sys2Proof.Machine.execLdw dt x s
  | .ldwu dt x => Sys2Proof.Machine.execLdwu dt x s
  | .ldd dt x => Sys2Proof.Machine.execLdd dt x s
  | .stb dt x => Sys2Proof.Machine.execStb dt x s
  | .sth dt x => Sys2Proof.Machine.execSth dt x s
  | .stw dt x => Sys2Proof.Machine.execStw dt x s
  | .std dt x => Sys2Proof.Machine.execStd dt x s
  | .flds dt x => Sys2Proof.Machine.execFlds dt x s
  | .fldd dt x => Sys2Proof.Machine.execFldd dt x s
  | .fsts dt c n => Sys2Proof.Machine.execFsts dt c n s
  | .fstd dt c n => Sys2Proof.Machine.execFstd dt c n s
  | .aadd dt x => Sys2Proof.Machine.execAadd dt x s
  | .aswp dt x => Sys2Proof.Machine.execAswp dt x s
  | .dma dt c n => Sys2Proof.Machine.execDma dt c n s
  | .dmaComplete dt t n => Sys2Proof.Machine.execDmaComplete dt t n s
  | .dmaRetry dt c n => Sys2Proof.Machine.execDmaRetry dt c n s
  | .lea dt x => Sys2Proof.Machine.execLea dt x s
  | .b dt c n => Sys2Proof.Machine.execB dt c n s
  | .cbz dt c n => Sys2Proof.Machine.execCbz dt c n s
  | .cbnz dt c n => Sys2Proof.Machine.execCbnz dt c n s
  | .jal dt c n => Sys2Proof.Machine.execJal dt c n s
  | .jr dt c n => Sys2Proof.Machine.execJr dt c n s
  | .loop dt c n => Sys2Proof.Machine.execLoop dt c n s
  | .fork dt c n => Sys2Proof.Machine.execFork dt c n s
  | .join dt c n => Sys2Proof.Machine.execJoin dt c n s
  | .exit dt c n => Sys2Proof.Machine.execExit dt c n s
  | .fadd dt x => Sys2Proof.Machine.execFadd dt x s
  | .fsub dt x => Sys2Proof.Machine.execFsub dt x s
  | .fmul dt x => Sys2Proof.Machine.execFmul dt x s
  | .fdiv dt x => Sys2Proof.Machine.execFdiv dt x s
  | .fsqrt dt x => Sys2Proof.Machine.execFsqrt dt x s
  | .fma dt x => Sys2Proof.Machine.execFma dt x s
  | .fmin dt x => Sys2Proof.Machine.execFmin dt x s
  | .fmax dt x => Sys2Proof.Machine.execFmax dt x s
  | .fneg dt x => Sys2Proof.Machine.execFneg dt x s
  | .fabs dt x => Sys2Proof.Machine.execFabs dt x s
  | .fcmp dt x => Sys2Proof.Machine.execFcmp dt x s
  | .fcvt dt x => Sys2Proof.Machine.execFcvt dt x s
  | .fcvti dt x => Sys2Proof.Machine.execFcvti dt x s
  | .fcvtiu dt x => Sys2Proof.Machine.execFcvtiu dt x s
  | .fcvtf dt x => Sys2Proof.Machine.execFcvtf dt x s
  | .fcvtfu dt x => Sys2Proof.Machine.execFcvtfu dt x s
  | .fmov dt c n => Sys2Proof.Machine.execFmov dt c n s
  | .fmvwf dt c n => Sys2Proof.Machine.execFmvwf dt c n s
  | .fmvfw dt c n => Sys2Proof.Machine.execFmvfw dt c n s
  | .fclass dt x => Sys2Proof.Machine.execFclass dt x s
  | .crc32c dt x => Sys2Proof.Machine.execCrc32c dt x s
  | .crc32 dt x => Sys2Proof.Machine.execCrc32 dt x s
  | .crc16 dt x => Sys2Proof.Machine.execCrc16 dt x s
  | .par dt x => Sys2Proof.Machine.execPar dt x s
  | .parb dt x => Sys2Proof.Machine.execParb dt x s
  | .brev dt x => Sys2Proof.Machine.execBrev dt x s
  | .brevw dt x => Sys2Proof.Machine.execBrevw dt x s
  | .brevb dt x => Sys2Proof.Machine.execBrevb dt x s
  | .misr dt x => Sys2Proof.Machine.execMisr dt x s
  | .misrw dt x => Sys2Proof.Machine.execMisrw dt x s
  | .emit dt c n => Sys2Proof.Machine.execEmit dt c n s
  | .fwd dt t u => Sys2Proof.Machine.execFwd dt t u s
  | .steer dt t u => Sys2Proof.Machine.execSteer dt t u s
  | .lnout dt t u => Sys2Proof.Machine.execLnout dt t u s
  | .qpush dt x => Sys2Proof.Machine.execQpush dt x s
  | .qpop dt c n => Sys2Proof.Machine.execQpop dt c n s
  | .qpopnb dt c n => Sys2Proof.Machine.execQpopnb dt c n s
  | .chw dt c n => Sys2Proof.Machine.execChw dt c n s
  | .chc dt c n => Sys2Proof.Machine.execChc dt c n s
  | .spawn dt t => Sys2Proof.Machine.execSpawn dt t s
  | .tmr dt x => Sys2Proof.Machine.execTmr dt x s
  | .tcan dt c n => Sys2Proof.Machine.execTcan dt c n s
  | .sink dt t u => Sys2Proof.Machine.execSink dt t u s
  | .fence dt c n => Sys2Proof.Machine.execFence dt c n s
  | .lkacq dt c n => Sys2Proof.Machine.execLkacq dt c n s
  | .lktry dt c n => Sys2Proof.Machine.execLktry dt c n s
  | .lkrel dt c n => Sys2Proof.Machine.execLkrel dt c n s
  | .lkcas dt c n => Sys2Proof.Machine.execLkcas dt c n s
  | .lkacqRetry dt c n => Sys2Proof.Machine.execLkacqRetry dt c n s
  | .wfe dt c n => Sys2Proof.Machine.execWfe dt c n s
  | .sev dt c n => Sys2Proof.Machine.execSev dt c n s
  | .sevArrival c n => Sys2Proof.Machine.execSevArrival c n s
  | .mfsr dt c n => Sys2Proof.Machine.execMfsr dt c n s
  | .mtsr dt c n => Sys2Proof.Machine.execMtsr dt c n s
  | .reth dt c n => Sys2Proof.Machine.execReth dt c n s
  | .nop dt x => Sys2Proof.Machine.execNop dt x s
  | .scrm dt x => Sys2Proof.Machine.execScrm dt x s
  | .dbkg dt x => Sys2Proof.Machine.execDbkg dt x s
  | .acc dt x => Sys2Proof.Machine.execAcc dt x s
  | .faccClose dt x => Sys2Proof.Machine.execFaccClose dt x s
  | .query dt x => Sys2Proof.Machine.execQuery dt x s
  | .done dt x => Sys2Proof.Machine.execDone dt x s
  | .flog dt x => Sys2Proof.Machine.execFlog dt x s
  | .vrdt dt x => Sys2Proof.Machine.execVrdt dt x s
  | .vrdtRetry dt c n => Sys2Proof.Machine.execVrdtRetry dt c n s
  | .customOpcode dt x => Sys2Proof.Machine.execCustomOpcode dt x s
  | .rbcfgWrite who b v => Sys2Proof.Machine.execRbcfgWrite who b v s
  | .repairLate dt b => Sys2Proof.Machine.execRepairLate dt b s
  | .stallReport ctx t => Sys2Proof.Machine.execStallReport ctx t s
  | .contextStalled ctx => Sys2Proof.Machine.execContextStalled ctx s
  | .snapshotComplete dt => Sys2Proof.Machine.execSnapshotComplete dt s
  | .victimDrain dt => Sys2Proof.Machine.execVictimDrain dt s
  | .strandDeadlock dt c => Sys2Proof.Machine.execStrandDeadlock dt c s
  | .strandDeadlockAction dt c => Sys2Proof.Machine.execStrandDeadlockAction dt c s
  | .catchFrame dt l frame resent => Sys2Proof.Machine.execCatchFrame dt l frame resent s
  | .live dt k block fec => Sys2Proof.Machine.execLive dt k block fec s
  | .liveDue dt k => Sys2Proof.Machine.execLiveDue dt k s
  | .liveTimeout dt k => Sys2Proof.Machine.execLiveTimeout dt k s
  | .lockLoss dt k => Sys2Proof.Machine.execLockLoss dt k s
  | .ack dt k block => Sys2Proof.Machine.execAck dt k block s
  | .ackDue dt k => Sys2Proof.Machine.execAckDue dt k s
  | .nak dt k block => Sys2Proof.Machine.execNak dt k block s
  | .nakResend dt k => Sys2Proof.Machine.execNakResend dt k s
  | .replay dt k block => Sys2Proof.Machine.execReplay dt k block s
  | .replayTimeout dt k => Sys2Proof.Machine.execReplayTimeout dt k s
  | .hold dt l block => Sys2Proof.Machine.execHold dt l block s
  | .runBlock dt l block => Sys2Proof.Machine.execRunBlock dt l block s
  | .vack dt l block => Sys2Proof.Machine.execVack dt l block s
  | .verdictResend dt l => Sys2Proof.Machine.execVerdictResend dt l s
  | .linkEnable who k v => Sys2Proof.Machine.execLinkEnable who k v s
  | .linkDisable who k v => Sys2Proof.Machine.execLinkDisable who k v s
  | .trainingComplete dt k => Sys2Proof.Machine.execTrainingComplete dt k s
  | .linkUp dt k => Sys2Proof.Machine.execLinkUp dt k s
  | .safex who l => Sys2Proof.Machine.execSafex who l s
  | .stimulusBufferRead dt l => Sys2Proof.Machine.execStimulusBufferRead dt l s
  | .bankGrant dt t b => Sys2Proof.Machine.execBankGrant dt t b s
  | .lpddr4xAccessComplete dt n => Sys2Proof.Machine.execLpddr4xAccessComplete dt n s
  | .eccWriteBack dt t b => Sys2Proof.Machine.execEccWriteBack dt t b s
  | .mailboxAccess dt internal host => Sys2Proof.Machine.execMailboxAccess dt internal host s
  | .bankpwrWrite who t v => Sys2Proof.Machine.execBankpwrWrite who t v s
  | .bankTransitionComplete dt t b => Sys2Proof.Machine.execBankTransitionComplete dt t b s
  | .mocmdGo who v => Sys2Proof.Machine.execMocmdGo who v s
  | .unclimReached ch => Sys2Proof.Machine.execUnclimReached ch s
  | .segmentMoveComplete dt => Sys2Proof.Machine.execSegmentMoveComplete dt s
  | .rushcfgEn who u v => Sys2Proof.Machine.execRushcfgEn who u v s
  | .borrowStart dt u => Sys2Proof.Machine.execBorrowStart dt u s
  | .copyComplete dt u => Sys2Proof.Machine.execCopyComplete dt u s
  | .testComplete dt u fail => Sys2Proof.Machine.execTestComplete dt u fail s
  | .borrowEnd dt u => Sys2Proof.Machine.execBorrowEnd dt u s
  | .flitGrant dt net r out corrected => Sys2Proof.Machine.execFlitGrant dt net r out corrected s
  | .flitDelivery dt net r edge crcOk => Sys2Proof.Machine.execFlitDelivery dt net r edge crcOk s
  | .flitResend dt net r out => Sys2Proof.Machine.execFlitResend dt net r out s
  | .portIsolate dt r edge => Sys2Proof.Machine.execPortIsolate dt r edge s
  | .uniso who r => Sys2Proof.Machine.execUniso who r s
  | .unisoe who r => Sys2Proof.Machine.execUnisoe who r s
  | .bounce dt r edge => Sys2Proof.Machine.execBounce dt r edge s
  | .bounceReoffer dt r edge => Sys2Proof.Machine.execBounceReoffer dt r edge s
  | .fenceNotice dt p r => Sys2Proof.Machine.execFenceNotice dt p r s
  | .markerAbsorb dt p net => Sys2Proof.Machine.execMarkerAbsorb dt p net s
  | .fenced dt p => Sys2Proof.Machine.execFenced dt p s
  | .fenceDone p => Sys2Proof.Machine.execFenceDone p s
  | .unfence dt p r => Sys2Proof.Machine.execUnfence dt p r s
  | .fabricTokenFrame dt l frame => Sys2Proof.Machine.execFabricTokenFrame dt l frame s
  | .retFrame dt l frame => Sys2Proof.Machine.execRetFrame dt l frame s
  | .fabricRoute dt g => Sys2Proof.Machine.execFabricRoute dt g s
  | .holdtExpiry dt => Sys2Proof.Machine.execHoldtExpiry dt s
  | .marker dt l block t10 => Sys2Proof.Machine.execMarker dt l block t10 s
  | .dreq dt l block t10 => Sys2Proof.Machine.execDreq dt l block t10 s
  | .drsp dt l block t10 => Sys2Proof.Machine.execDrsp dt l block t10 s
  | .ident dt l block => Sys2Proof.Machine.execIdent dt l block s
  | .cred dt l block => Sys2Proof.Machine.execCred dt l block s
  | .periodicIdent dt => Sys2Proof.Machine.execPeriodicIdent dt s
  | .periodicDelayMeasure dt l => Sys2Proof.Machine.execPeriodicDelayMeasure dt l s
  | .rtbankStage who b v => Sys2Proof.Machine.execRtbankStage who b v s
  | .rtbankUnstage who b v => Sys2Proof.Machine.execRtbankUnstage who b v s
  | .oldBankFree b => Sys2Proof.Machine.execOldBankFree b s
  | .ptpSync dt m => Sys2Proof.Machine.execPtpSync dt m s
  | .ptpAnnounce dt m => Sys2Proof.Machine.execPtpAnnounce dt m s
  | .ptpSyncTimeout dt => Sys2Proof.Machine.execPtpSyncTimeout dt s
  | .iswset who t v => Sys2Proof.Machine.execIswset who t v s
  | .dswset who k v => Sys2Proof.Machine.execDswset who k v s
  | .interruptDelivery dt t => Sys2Proof.Machine.execInterruptDelivery dt t s
  | .deliveryArrival c n => Sys2Proof.Machine.execDeliveryArrival c n s
  | .deliveryReturn src => Sys2Proof.Machine.execDeliveryReturn src s
  | .preemption dt c n => Sys2Proof.Machine.execPreemption dt c n s
  | .tpwrReqOn who t v => Sys2Proof.Machine.execTpwrReqOn who t v s
  | .tpwrReqNap who t v => Sys2Proof.Machine.execTpwrReqNap who t v s
  | .tpwrReqOff who t v => Sys2Proof.Machine.execTpwrReqOff who t v s
  | .idleEntry dt t => Sys2Proof.Machine.execIdleEntry dt t s
  | .napEntry dt t => Sys2Proof.Machine.execNapEntry dt t s
  | .offEntry dt t => Sys2Proof.Machine.execOffEntry dt t s
  | .wakeComplete dt t => Sys2Proof.Machine.execWakeComplete dt t s
  | .napTimerWake dt t => Sys2Proof.Machine.execNapTimerWake dt t s
  | .watchedWake dt n => Sys2Proof.Machine.execWatchedWake dt n s
  | .lockOperation dt g => Sys2Proof.Machine.execLockOperation dt g s
  | .lockResult dt c n => Sys2Proof.Machine.execLockResult dt c n s
  | .lend c n => Sys2Proof.Machine.execLend c n s
  | .lkcellRead who g cell => Sys2Proof.Machine.execLkcellRead who g cell s
  | .lkcellWrite who g cell v => Sys2Proof.Machine.execLkcellWrite who g cell v s
  | .lkgcfgWrite who g v => Sys2Proof.Machine.execLkgcfgWrite who g v s
  | .aopen dt m => Sys2Proof.Machine.execAopen dt m s
  | .auth dt m => Sys2Proof.Machine.execAuth dt m s
  | .authTimeout dt sid => Sys2Proof.Machine.execAuthTimeout dt sid s
  | .authLockoutExpiry dt ip => Sys2Proof.Machine.execAuthLockoutExpiry dt ip s
  | .close dt m => Sys2Proof.Machine.execClose dt m s
  | .hb dt sid => Sys2Proof.Machine.execHb dt sid s
  | .hback dt m => Sys2Proof.Machine.execHback dt m s
  | .sessionTimeout dt sid => Sys2Proof.Machine.execSessionTimeout dt sid s
  | .read dt m => Sys2Proof.Machine.execRead dt m s
  | .write dt m => Sys2Proof.Machine.execWrite dt m s
  | .dopen dt m => Sys2Proof.Machine.execDopen dt m s
  | .seg dt m => Sys2Proof.Machine.execSeg dt m s
  | .evack dt m => Sys2Proof.Machine.execEvack dt m s
  | .reset dt m => Sys2Proof.Machine.execReset dt m s
  | .arm dt m => Sys2Proof.Machine.execArm dt m s
  | .run dt m => Sys2Proof.Machine.execRun dt m s
  | .disarm dt m => Sys2Proof.Machine.execDisarm dt m s
  | .drainComplete dt => Sys2Proof.Machine.execDrainComplete dt s
  | .cut dt m => Sys2Proof.Machine.execCut dt m s
  | .evsub dt m => Sys2Proof.Machine.execEvsub dt m s
  | .watchdogExpiry dt => Sys2Proof.Machine.execWatchdogExpiry dt s
  | .faultEntry dt cause => Sys2Proof.Machine.execFaultEntry dt cause s
  | .commandRingEntry dt entry => Sys2Proof.Machine.execCommandRingEntry dt entry s
  | .h2dEntry dt d entry => Sys2Proof.Machine.execH2dEntry dt d entry s
  | .hostAccess dt x => Sys2Proof.Machine.execHostAccess dt x s
  | .attentionPulse dt => Sys2Proof.Machine.execAttentionPulse dt s
  | .attentionPulseEnd dt => Sys2Proof.Machine.execAttentionPulseEnd dt s
  | .hPerst dt low => Sys2Proof.Machine.execHPerst dt low s
  | .dapacc dt write addr data => Sys2Proof.Machine.execDapacc dt write addr data s
  | .halt who c n => Sys2Proof.Machine.execHalt who c n s
  | .haltEntry dt c n => Sys2Proof.Machine.execHaltEntry dt c n s
  | .dbgtRun who c n => Sys2Proof.Machine.execDbgtRun who c n s
  | .step who c n => Sys2Proof.Machine.execStep who c n s
  | .chpol who c n => Sys2Proof.Machine.execChpol who c n s
  | .verify dt m => Sys2Proof.Machine.execVerify dt m s
  | .unstage dt m => Sys2Proof.Machine.execUnstage dt m s
  | .reelCopyComplete dt => Sys2Proof.Machine.execReelCopyComplete dt s
  | .fwact dt m => Sys2Proof.Machine.execFwact dt m s
  | .firmwareReady dt => Sys2Proof.Machine.execFirmwareReady dt s
  | .firmwareRevert dt => Sys2Proof.Machine.execFirmwareRevert dt s
  | .fwcommit dt m => Sys2Proof.Machine.execFwcommit dt m s
  | .subst dt m => Sys2Proof.Machine.execSubst dt m s
  | .subcan dt m => Sys2Proof.Machine.execSubcan dt m s
  | .presync dt t => Sys2Proof.Machine.execPresync dt t s
  | .stateMoveComplete dt t => Sys2Proof.Machine.execStateMoveComplete dt t s
  | .autoSubst dt t => Sys2Proof.Machine.execAutoSubst dt t s
  | .attest dt m => Sys2Proof.Machine.execAttest dt m s
  | .retrain dt m => Sys2Proof.Machine.execRetrain dt m s
  | .powerOn dt => Sys2Proof.Machine.execPowerOn dt s
  | .porstAssert dt => Sys2Proof.Machine.execPorstAssert dt s
  | .porstDeassert dt => Sys2Proof.Machine.execPorstDeassert dt s
  | .resetEnd dt clock => Sys2Proof.Machine.execResetEnd dt clock s
  | .brownOut dt => Sys2Proof.Machine.execBrownOut dt s
  | .thermalTrip dt => Sys2Proof.Machine.execThermalTrip dt s
  | .refclkLost dt => Sys2Proof.Machine.execRefclkLost dt s
  | .illegalInstruction dt c n => Sys2Proof.Machine.execIllegalInstruction dt c n s
  | .shotClose dt t n => Sys2Proof.Machine.execShotClose dt t n s
  | .discardedBlock dt k => Sys2Proof.Machine.execDiscardedBlock dt k s
  | .credDue dt l => Sys2Proof.Machine.execCredDue dt l s
  | .bootChainComplete dt slot => Sys2Proof.Machine.execBootChainComplete dt slot s
  | .keelLosesPower dt => Sys2Proof.Machine.execKeelLosesPower dt s
  | .junctionSensorRead dt temps lid => Sys2Proof.Machine.execJunctionSensorRead dt temps lid s
  | .pcieHotResetOrLinkDown dt => Sys2Proof.Machine.execPcieHotResetOrLinkDown dt s
  | .managementLinkChange dt p up => Sys2Proof.Machine.execManagementLinkChange dt p up s
  | .delayResponse dt m => Sys2Proof.Machine.execDelayResponse dt m s

end Sys2Proof.Machine
end

