-- ==== Sys2Proof/Machine/Tick.lean ====
section
/-! DEFINITION. What the block does while no command waits (log 1). -/
namespace Sys2Proof.Machine

/-- One cycle passes, and each transmitter that is not in a frame sends the first block that waits (09 R229; 11 R291). -/
def State.tick (s : State) : State := allLinks.foldl (fun s k => s.txBlock k) (s.advance 1)

end Sys2Proof.Machine
end

