-- ==== Sys2Proof/Safety.lean ====
section
/-! DEFINITION. The terms in which claims are made: what a command may have changed, and when a strand instruction or a firing takes its slot. -/
namespace Sys2Proof.Machine

/-! ### What a command may change -/

/-- The parts of the state that are not tables by element: the record of a frame names those that may have changed. -/
inductive Part where
  | clock | stamp | free | dev | degraded | mem | ecc | mbx | graph | outlets | stroke | cut | scan | mesh | ctl
  | banks | dram | mailboxQ | fireMem | windows | pushes | decode | ctbase | rush | fabric | gateway | pcount | ak | riari | hostp | elec | out
  deriving DecidableEq, Repr

/-- Does a part hold the same in two states? -/
def Part.same (p : Part) (u t : State) : Prop :=
  match p with
  | .clock => t.now = u.now
  | .stamp => t.seqNo = u.seqNo
  | .free => t.freeCtr = u.freeCtr
  | .dev => t.dev = u.dev
  | .degraded => t.degraded = u.degraded
  | .mem => t.mem = u.mem
  | .ecc => t.ecc = u.ecc
  | .mbx => t.mbx = u.mbx
  | .graph => t.graph = u.graph
  | .outlets => t.outlets = u.outlets
  | .stroke => t.stroke = u.stroke
  | .cut => t.cut = u.cut
  | .scan => t.scan = u.scan
  | .mesh => t.mesh = u.mesh
  | .ctl => t.ctl = u.ctl
  | .banks => t.bankReqs = u.bankReqs
  | .dram => t.drq = u.drq
  | .mailboxQ => t.mbxq = u.mbxq
  | .fireMem => t.fireMem = u.fireMem
  | .windows => t.winq = u.winq
  | .pushes => t.pushq = u.pushq
  | .decode => t.dtabA = u.dtabA ∧ t.dtabB = u.dtabB
  | .ctbase => t.ctbaseSet = u.ctbaseSet
  | .rush => t.drRush = u.drRush ∧ t.moveStart = u.moveStart
  | .fabric => t.fgq = u.fgq ∧ t.fabHoldTo = u.fabHoldTo ∧ t.drainSeen = u.drainSeen
  | .gateway => t.gwq = u.gwq ∧ t.gwAt = u.gwAt
  | .pcount => t.pcount = u.pcount
  | .ak => t.ak = u.ak
  | .riari => t.riari = u.riari
  | .hostp => t.hostp = u.hostp
  | .elec => t.elec = u.elec
  | .out => t.out = u.out

/-- What a command may have changed: registers by kind, tile and element; threads by core and number; the hidden state of tiles, lanes, links and contexts by number; and parts of the state as a whole. -/
structure Changes where
  regs : List (RegKind × Nat × Nat) := []
  threads : List (Nat × Nat) := []
  tiles : List Nat := []
  lanes : List Nat := []
  links : List LinkId := []
  ctxs : List Nat := []
  parts : List Part := []
  deriving DecidableEq, Repr

/-- Everything but what is listed holds the same in `t` as in `u`, the queue of commands included. -/
structure Only (ch : Changes) (u t : State) : Prop where
  queue : t.pending = u.pending
  regs : ∀ k a i, (k, a, i) ∉ ch.regs → t.reg k a i = u.reg k a i
  threads : ∀ c n, n < 16 → (c, n) ∉ ch.threads → t.thr c n = u.thr c n
  tiles : ∀ c, c ∉ ch.tiles → t.tile c = u.tile c
  lanes : ∀ l, l ∉ ch.lanes → t.lane l = u.lane l
  links : ∀ k, k ∉ ch.links → t.link k = u.link k
  ctxs : ∀ c, c ∉ ch.ctxs → t.ctx c = u.ctx c
  parts : ∀ p, p ∉ ch.parts → p.same u t

/-- The command completes: exec answers a next state, of which P holds. -/
def Completes (i : Instr) (z : State) (P : State → Prop) : Prop := ∃ t, exec i z = .next t ∧ P t

/-! ### The issue of a strand instruction (05 R120, 06 R144) -/

/-- Thread n of core c takes the issue slot of this cycle with the decoded instruction o: it wins the slot, the core has not issued in this cycle, the Cox passes the charge, no load of the thread is open, and the instruction is not one that R150 forbids at the end of a loop. -/
structure Takes (u : State) (c n : Nat) (o : Ins) : Prop where
  slot : u.winner c = some n
  once : (u.tile c).lastIssue ≠ some u.now
  ins : u.decodeAt c n = .ok o
  cox : u.verdict c (u.thr c n).act (u.chargeFor c n o) = .ok
  chan : (u.thr c n).chanLost = false
  loads : (u.thr c n).loads = []
  ends : ¬ (leBad o.op = true ∧ (u.thr c n).atLE o.pc = true)

/-- What the issue of an instruction changes beside the instruction's own effect: the Cox counters of the thread's activity, TISSUE, the thread's bookkeeping, and the tile's. -/
def issueChanges (u : State) (c n : Nat) : Changes :=
  { regs := [(.ACTREM0, c, (u.thr c n).act), (.ACTREM1, c, (u.thr c n).act), (.TISSUE, c, n)], threads := [(c, n)], tiles := [c] }

/-- Both changes. -/
def Changes.and (a b : Changes) : Changes :=
  { regs := a.regs ++ b.regs
    threads := a.threads ++ b.threads
    tiles := a.tiles ++ b.tiles
    lanes := a.lanes ++ b.lanes
    links := a.links ++ b.links
    ctxs := a.ctxs ++ b.ctxs
    parts := a.parts ++ b.parts }

/-- A thread without the bookkeeping of its issue: the cycles of its last and next issue, CT's tail, the count of a STEP, and the channel error of its last wait. -/
def Thread.bare (x : Thread) : Thread :=
  { x with lastIss := 0, readyAt := 0, ctTail := false, stepLeft := 0, haltReq := 0, chanLost := false }

/-- A tile without the cycle of its last issue and its cached context descriptors, which record what dispatches. -/
def Tile.bare (x : Tile) : Tile := { x with lastIssue := none, cache := [] }

/-- The instruction has issued and the thread has become `y`; beside what issue changes, only what `ch` lists has changed. -/
structure Issued (u t : State) (c n : Nat) (y : Thread) (ch : Changes) : Prop where
  only : Only ((issueChanges u c n).and ch) u t
  tile : c ∉ ch.tiles → (t.tile c).bare = (u.tile c).bare
  thread : (t.thr c n).bare = y.bare

/-- The instruction has completed in sequence: the thread is `y`, moved on with its loops (06 R149). -/
def InSequence (u t : State) (c n : Nat) (o : Ins) (y : Thread) (ch : Changes := {}) : Prop :=
  Issued u t c n (y.stepPc o.pc (o.pc + o.len)) ch

/-! ### The integer operations as arithmetic on bit vectors (06 R151, R152; 07 R171 to R175) -/

/-- A `w`-bit result, sign-extended to 64 bits, with N its sign and Z whether it is 0 (06 R141, 07 R171). -/
def resOf {w : Nat} (r : BitVec w) (c v : Option Bool) : IRes := ⟨r.signExtend 64, none, some r.msb, some (r == 0), c, v, none⟩

/-- The sum of two `w`-bit values and a carry: C is the unsigned carry out, V whether the signed sum does not fit (07 R171). -/
def sumSpec {w : Nat} (a b : BitVec w) (k : Bool) : IRes :=
  let r := a + b + BitVec.ofNat w k.toNat
  resOf r (some (decide (2 ^ w ≤ a.toNat + b.toNat + k.toNat))) (some (decide (r.toInt ≠ a.toInt + b.toInt + k.toNat)))

/-- The difference of two `w`-bit values and a borrow: C is 1 when nothing is borrowed, V whether the signed difference does not fit (07 R171). -/
def diffSpec {w : Nat} (a b : BitVec w) (k : Bool) : IRes :=
  let r := a - b - BitVec.ofNat w k.toNat
  resOf r (some (decide (b.toNat + k.toNat ≤ a.toNat))) (some (decide (r.toInt ≠ a.toInt - b.toInt - k.toNat)))

/-- Left shift by s: C is the last bit shifted out, unchanged for s = 0 (07 R174). -/
def lslSpec {w : Nat} (a : BitVec w) (s : Nat) : IRes :=
  resOf (a <<< s) (if s = 0 then none else some (decide (s ≤ w) && a.getLsbD (w - s))) none

/-- Logical right shift by s (07 R174). -/
def lsrSpec {w : Nat} (a : BitVec w) (s : Nat) : IRes := resOf (a >>> s) (if s = 0 then none else some (a.getLsbD (s - 1))) none

/-- Arithmetic right shift by s (07 R174). -/
def asrSpec {w : Nat} (a : BitVec w) (s : Nat) : IRes :=
  resOf (a.sshiftRight s) (if s = 0 then none else some (if s ≤ w then a.getLsbD (s - 1) else a.msb)) none

/-- Rotation right by s modulo the width; C is the top bit of the result (07 R174). -/
def rorSpec {w : Nat} (a : BitVec w) (s : Nat) : IRes :=
  resOf (a.rotateRight (s % w)) (if s = 0 then none else some (a.rotateRight (s % w)).msb) none

/-- A result of which only N and Z are set; C and V stay (06 R141). -/
def bitsSpec (d : Word) : IRes := resOf d none none

/-- The position and length of a bit field, where it lies within the word (06 R152). -/
def fieldSpec (k : Nat) : Option (Nat × Nat) := if k % 64 + k / 64 % 64 + 1 ≤ 64 then some (k % 64, k / 64 % 64 + 1) else none

/-- The eight bytes of a word in reverse order. -/
def swapSpec (a : Word) : Word :=
  a.extractLsb' 0 8 ++ a.extractLsb' 8 8 ++ a.extractLsb' 16 8 ++ a.extractLsb' 24 8 ++ a.extractLsb' 32 8 ++ a.extractLsb' 40 8 ++ a.extractLsb' 48 8 ++ a.extractLsb' 56 8

/-- c with the field of `len` bits at `pos` taken from the low bits of a (06 R151). -/
def insSpec (c a : Word) (pos len : Nat) : Word :=
  let m : Word := BitVec.ofNat 64 (2 ^ len - 1)
  (c &&& ~~~(m <<< pos)) ||| ((a &&& m) <<< pos)

/-- Fault 0x0A when V is 1 (07 R173). -/
def trapOnV (r : IRes) : IRes := { r with fault := if r.v = some true then some 0x0A else none }

/-- The integer, logic, shift, compare, extension and counting operations as arithmetic on bit vectors: the result and the flags that each sets (06 R151, R152; 07 R171 to R175). None where the operation faults for its operand field. -/
def intSpec (op : Nat) (a b : Word) (c : Bool) : Option IRes :=
  match op with
  | 0x00 => some (sumSpec a b false)
  | 0x01 => some (sumSpec a b c)
  | 0x02 => some (diffSpec a b false)
  | 0x03 => some (diffSpec a b (!c))
  | 0x04 => some (trapOnV (sumSpec a b false))
  | 0x05 => some (trapOnV (diffSpec a b false))
  | 0x06 => some (diffSpec 0 a false)
  | 0x07 => some (trapOnV (diffSpec 0 a false))
  | 0x08 => some (bitsSpec (a &&& b))
  | 0x09 => some (bitsSpec (a ||| b))
  | 0x0A => some (bitsSpec (a ^^^ b))
  | 0x0B => some (bitsSpec (a &&& ~~~b))
  | 0x0C => some (bitsSpec (a ||| ~~~b))
  | 0x0D => some (bitsSpec (~~~(a ^^^ b)))
  | 0x0E => some (bitsSpec (~~~a))
  | 0x0F => some (bitsSpec b)
  | 0x10 => some (lslSpec a b.toNat)
  | 0x11 => some (lsrSpec a b.toNat)
  | 0x12 => some (asrSpec a b.toNat)
  | 0x13 => some (rorSpec a b.toNat)
  | 0x14 => some (lslSpec (a.setWidth 32) b.toNat)
  | 0x15 => some (lsrSpec (a.setWidth 32) b.toNat)
  | 0x16 => some (asrSpec (a.setWidth 32) b.toNat)
  | 0x17 => some (rorSpec (a.setWidth 32) b.toNat)
  | 0x18 => some (diffSpec a b false)
  | 0x19 => some (diffSpec (a.setWidth 32) (b.setWidth 32) false)
  | 0x1A => some (bitsSpec (a &&& b))
  | 0x1B => some (bitsSpec (if a.sle b then a else b))
  | 0x1C => some (bitsSpec (if a.sle b then b else a))
  | 0x1D => some (bitsSpec (if a.ule b then a else b))
  | 0x1E => some (bitsSpec (if a.ule b then b else a))
  | 0x1F => some { bitsSpec a.abs with v := some (a == BitVec.intMin 64) }
  | 0x24 => some (resOf (a * b) none (some (decide ((a * b).toInt ≠ a.toInt * b.toInt))))
  | 0x30 => some (bitsSpec a.clz)
  | 0x31 => some (bitsSpec a.ctz)
  | 0x32 => some (bitsSpec a.cpop)
  | 0x33 => (fieldSpec b.toNat).map fun p => bitsSpec ((a.extractLsb' p.1 p.2).signExtend 64)
  | 0x34 => (fieldSpec b.toNat).map fun p => bitsSpec ((a.extractLsb' p.1 p.2).setWidth 64)
  | 0x36 => some (bitsSpec (swapSpec a))
  | 0x37 => if b.toNat % 4 = 3 then none else some (bitsSpec ((a.setWidth (8 * 2 ^ (b.toNat % 4))).signExtend 64))
  | 0x38 => if b.toNat % 4 = 3 then none else some (bitsSpec ((a.setWidth (8 * 2 ^ (b.toNat % 4))).setWidth 64))
  | _ => none

/-- The result of an integer instruction of a thread, from its operands (06 R137, R151, R152): none where an operand field is outside its range. -/
def Ins.intResult (o : Ins) (x : Thread) : Option IRes :=
  if immOk o then
    if o.op = 0x35 then (fieldSpec (iIMM o.w)).map fun p => bitsSpec (insSpec (o.c x) (o.a x) p.1 p.2)
    else intSpec o.op (o.a x) (o.intB x) (flC x.fl)
  else none

/-- The thread after an integer operation: RD takes the result, but for CMP, CMPW and TST, which write none; those and an instruction with S set the flags that the result gives (06 R141). -/
def Thread.afterInt (x : Thread) (o : Ins) (r : IRes) : Thread :=
  let y := if isCompare o.op then x else x.setW (iRD o.w) r.d
  if isCompare o.op || o.s then { y with fl := applyFlags y.fl r.n r.z r.c r.v } else y

/-- The rows of the integer instructions that a thread executes, with their opcodes. -/
def intRows : List ((Nat → CoreId → ThreadId → Instr) × Nat) :=
  [(fun dt c n => .add dt (.strand c n), 0x00), (fun dt c n => .addc dt c n, 0x01), (fun dt c n => .sub dt (.strand c n), 0x02),
   (fun dt c n => .subc dt c n, 0x03), (fun dt c n => .addo dt (.strand c n), 0x04), (fun dt c n => .subo dt (.strand c n), 0x05),
   (fun dt c n => .neg dt (.strand c n), 0x06), (fun dt c n => .nego dt (.strand c n), 0x07), (fun dt c n => .and dt (.strand c n), 0x08),
   (fun dt c n => .or dt (.strand c n), 0x09), (fun dt c n => .xor dt (.strand c n), 0x0A), (fun dt c n => .andn dt (.strand c n), 0x0B),
   (fun dt c n => .orn dt (.strand c n), 0x0C), (fun dt c n => .xnor dt (.strand c n), 0x0D), (fun dt c n => .not dt (.strand c n), 0x0E),
   (fun dt c n => .mov dt (.strand c n), 0x0F), (fun dt c n => .lsl dt (.strand c n), 0x10), (fun dt c n => .lsr dt (.strand c n), 0x11),
   (fun dt c n => .asr dt (.strand c n), 0x12), (fun dt c n => .ror dt (.strand c n), 0x13), (fun dt c n => .lslw dt (.strand c n), 0x14),
   (fun dt c n => .lsrw dt (.strand c n), 0x15), (fun dt c n => .asrw dt (.strand c n), 0x16), (fun dt c n => .rorw dt (.strand c n), 0x17),
   (fun dt c n => .cmp dt (.strand c n), 0x18), (fun dt c n => .cmpw dt (.strand c n), 0x19), (fun dt c n => .tst dt (.strand c n), 0x1A),
   (fun dt c n => .min dt (.strand c n), 0x1B), (fun dt c n => .max dt (.strand c n), 0x1C), (fun dt c n => .minu dt (.strand c n), 0x1D),
   (fun dt c n => .maxu dt (.strand c n), 0x1E), (fun dt c n => .abs dt (.strand c n), 0x1F), (fun dt c n => .mul dt (.strand c n), 0x24),
   (fun dt c n => .clz dt (.strand c n), 0x30), (fun dt c n => .ctz dt (.strand c n), 0x31), (fun dt c n => .popc dt (.strand c n), 0x32),
   (fun dt c n => .ext dt (.strand c n), 0x33), (fun dt c n => .extu dt (.strand c n), 0x34), (fun dt c n => .ins dt c n, 0x35),
   (fun dt c n => .bswap dt (.strand c n), 0x36), (fun dt c n => .sxt dt (.strand c n), 0x37), (fun dt c n => .zxt dt (.strand c n), 0x38)]

/-! ### Checksums, signatures and bit orders (06 R158) -/

/-- One bit of data into a reflected CRC register. -/
def crcIn (p r : BitVec 32) (b : Bool) : BitVec 32 := if r.getLsbD 0 != b then (r >>> 1) ^^^ p else r >>> 1

/-- CRC-32C and CRC-32 of the low n bytes of d, each byte with its least significant bit first. -/
def crcSpec (p r : BitVec 32) (d : Word) (n : Nat) : BitVec 32 := (List.range (8 * n)).foldl (fun r k => crcIn p r (d.getLsbD k)) r

/-- One bit of data into the CRC-16 register. -/
def crc16In (r : BitVec 16) (b : Bool) : BitVec 16 := if r.msb != b then (r <<< 1) ^^^ 0x1021#16 else r <<< 1

/-- CRC-16 of the low n bytes of d, each byte with its most significant bit first. -/
def crc16Spec (r : BitVec 16) (d : Word) (n : Nat) : BitVec 16 :=
  (List.range n).foldl (fun r k => (List.range 8).foldl (fun r j => crc16In r (d.getLsbD (8 * k + (7 - j)))) r) r

/-- A MISR step: the state moves left, its top bit adds the polynomial, and the data is added. -/
def misrSpec {w : Nat} (state data poly : BitVec w) : BitVec w := (state <<< 1) ^^^ (if state.msb then poly else 0) ^^^ data

/-- Byte k of a word. -/
def byteOf (a : Word) (k : Nat) : BitVec 8 := a.extractLsb' (8 * k) 8

/-- The parity of a byte. -/
def parityOf (b : BitVec 8) : BitVec 1 := b.cpop.setWidth 1

/-- The result of an instruction that only writes a word to RD: SETC, MFPH, MFPL, LEA, the checksum and bit-order instructions, MFSR, SCRM and DBKG. None where an operand field or a register is outside its range. -/
def Ins.wordResult (o : Ins) (u : State) (c n : Nat) (x : Thread) : Option Word :=
  let a := o.a x
  let b := o.b x
  let bytes := 2 ^ (iAM o.w % 4)
  match o.op with
  | 0x25 => some x.ph
  | 0x26 => some x.pl
  | 0x39 => if iIMM o.w < 16 then some (if condHolds (iIMM o.w) x.fl then 1 else 0) else none
  | 0x53 => if o.amOk false && decide (iAM o.w ≠ 5 ∧ iAM o.w ≠ 6 ∧ iAM o.w ≠ 7) then some (wd (o.ea x c 8).1) else none
  | 0xA0 => some ((crcSpec 0x82F63B78 (a.setWidth 32) b bytes).setWidth 64)
  | 0xA1 => some ((crcSpec 0xEDB88320 (a.setWidth 32) b bytes).setWidth 64)
  | 0xA2 => some ((crc16Spec (a.setWidth 16) b bytes).setWidth 64)
  | 0xA3 => some (if a.cpop.getLsbD 0 then 1 else 0)
  | 0xA4 => some ((parityOf (byteOf a 7) ++ parityOf (byteOf a 6) ++ parityOf (byteOf a 5) ++ parityOf (byteOf a 4) ++
      parityOf (byteOf a 3) ++ parityOf (byteOf a 2) ++ parityOf (byteOf a 1) ++ parityOf (byteOf a 0)).setWidth 64)
  | 0xA5 => some a.reverse
  | 0xA6 => some ((a.setWidth 32).reverse.setWidth 64)
  | 0xA7 => some ((byteOf a 7).reverse ++ (byteOf a 6).reverse ++ (byteOf a 5).reverse ++ (byteOf a 4).reverse ++
      (byteOf a 3).reverse ++ (byteOf a 2).reverse ++ (byteOf a 1).reverse ++ (byteOf a 0).reverse)
  | 0xA8 => some (misrSpec (o.c x) a b)
  | 0xA9 => some ((misrSpec ((o.c x).setWidth 32) (a.setWidth 32) (b.setWidth 32)).setWidth 64)
  | 0xC7 => if iIMM o.w < 256 then u.sreg c n o.pc (iIMM o.w) else none
  | 0xD0 => if b.toNat < 8 then some (u.scrm c b.toNat a) else none
  | 0xD1 => if b.toNat < 16 then some (u.dbkg c b.toNat a) else none
  | _ => none

/-- The rows of those instructions. -/
def wordRows : List ((Nat → CoreId → ThreadId → Instr) × Nat) :=
  [(fun dt c n => .mfph dt c n, 0x25), (fun dt c n => .mfpl dt c n, 0x26), (fun dt c n => .setc dt (.strand c n), 0x39),
   (fun dt c n => .lea dt (.strand c n), 0x53), (fun dt c n => .crc32c dt (.strand c n), 0xA0), (fun dt c n => .crc32 dt (.strand c n), 0xA1),
   (fun dt c n => .crc16 dt (.strand c n), 0xA2), (fun dt c n => .par dt (.strand c n), 0xA3), (fun dt c n => .parb dt (.strand c n), 0xA4),
   (fun dt c n => .brev dt (.strand c n), 0xA5), (fun dt c n => .brevw dt (.strand c n), 0xA6), (fun dt c n => .brevb dt (.strand c n), 0xA7),
   (fun dt c n => .misr dt (.strand c n), 0xA8), (fun dt c n => .misrw dt (.strand c n), 0xA9), (fun dt c n => .mfsr dt c n, 0xC7),
   (fun dt c n => .scrm dt (.strand c n), 0xD0), (fun dt c n => .dbkg dt (.strand c n), 0xD1)]

/-! ### Products and division (06 R151, R153; 07 R176) -/

/-- What a product instruction leaves in PH and PL together: the unsigned or signed product, the sum with the old contents, or a and b (06 R151). -/
def Ins.product (o : Ins) (x : Thread) : BitVec 128 :=
  let a := o.a x
  let b := o.b x
  match o.op with
  | 0x20 => a.setWidth 128 * b.setWidth 128
  | 0x21 => a.signExtend 128 * b.signExtend 128
  | 0x22 => a.setWidth 128 * b.setWidth 128 + (x.ph ++ x.pl)
  | 0x23 => a.signExtend 128 * b.signExtend 128 + (x.ph ++ x.pl)
  | _ => a ++ b

/-- The rows of the product instructions. -/
def productRows : List ((Nat → CoreId → ThreadId → Instr) × Nat) :=
  [(fun dt c n => .mulu dt (.strand c n), 0x20), (fun dt c n => .muls dt (.strand c n), 0x21), (fun dt c n => .macu dt c n, 0x22),
   (fun dt c n => .macs dt c n, 0x23), (fun dt c n => .mtpp dt c n, 0x27)]

/-- DSET on `w` bits: the magnitudes, the dividend at the top of PL, and the flags (06 R153). -/
def divSet (w : Nat) (signed : Bool) (a b fl : Word) : DSet :=
  let av : BitVec w := a.setWidth w
  let bv : BitVec w := b.setWidth w
  let dz := bv == 0
  let edge := signed && av == BitVec.intMin w && bv == BitVec.allOnes w
  { rd := (if signed then bv.abs else bv).setWidth 64
    ph := 0
    pl := (if signed then av.abs else av).setWidth 64 <<< (64 - w)
    fl := setFlag (setFlag (setFlag (setFlag fl 0 (signed && av.msb)) 2 (signed && (av.msb != bv.msb))) 3 (dz || edge)) 4 dz }

/-- DSTEP: the remainder takes the next bit of PL, and the divisor leaves it where it can (06 R153). -/
def divStep (ph pl d : Word) : Word × Word :=
  let r : BitVec 65 := ph ++ BitVec.ofBool pl.msb
  if d ≠ 0 ∧ d.setWidth 65 ≤ r then ((r - d.setWidth 65).setWidth 64, pl <<< 1 ||| 1) else (r.setWidth 64, pl <<< 1)

/-- k steps. -/
def divSteps (d : Word) : Nat → Word × Word → Word × Word
  | 0, p => p
  | k + 1, p => divSteps d k (divStep p.1 p.2 d)

/-- DFIN on `w` bits: the signs, and N and Z of the quotient (06 R153). -/
def divFin (w : Nat) (ph pl fl : Word) : DSet :=
  let q : BitVec w := (if flC fl then -pl else pl).setWidth w
  let r : BitVec w := (if flN fl then -ph else ph).setWidth w
  { rd := q.signExtend 64
    ph := r.signExtend 64
    pl := q.signExtend 64
    fl := setFlag (setFlag (setFlag fl 0 q.msb) 1 (q == 0)) 2 false }

/-- A complete division sequence: DSET on w bits, the steps, and DFIN on v bits. -/
def divSeq (w steps v : Nat) (signed : Bool) (a b fl : Word) : DSet :=
  let d := divSet w signed a b fl
  let p := divSteps d.rd steps (d.ph, d.pl)
  divFin v p.1 p.2 d.fl

/-- The thread after a division instruction; none where a DSET traps on a divisor of 0 (06 R153). -/
def Ins.divided (o : Ins) (x : Thread) : Option Thread :=
  let a := o.a x
  let b := o.b x
  let set := fun (w : Nat) (signed : Bool) =>
    let r := divSet w signed a b x.fl
    if b.setWidth w = 0 ∧ flDZE x.fl then none else some (x.putDiv (iRD o.w) r)
  match o.op with
  | 0x28 => set 64 true
  | 0x29 => set 32 true
  | 0x2A => set 64 false
  | 0x2B => set 32 false
  | 0x2C => some { x with ph := (divStep x.ph x.pl a).1, pl := (divStep x.ph x.pl a).2 }
  | 0x2D => some (x.putDiv (iRD o.w) (divFin 64 x.ph x.pl x.fl))
  | 0x2E => some (x.putDiv (iRD o.w) (divFin 32 x.ph x.pl x.fl))
  | _ => none

/-- The rows of the division instructions. -/
def divisionRows : List ((Nat → CoreId → ThreadId → Instr) × Nat) :=
  [(fun dt c n => .dset dt c n, 0x28), (fun dt c n => .dsetw dt c n, 0x29), (fun dt c n => .dsetu dt c n, 0x2A), (fun dt c n => .dsetuw dt c n, 0x2B),
   (fun dt c n => .dstep dt c n, 0x2C), (fun dt c n => .dfin dt c n, 0x2D), (fun dt c n => .dfinw dt c n, 0x2E)]

/-! ### Branches, loops and special registers (06 R140, R148 to R150, R156, R163) -/

/-- What a branch does: the thread, and its target when it is taken. None where the target is outside graph memory or a field is reserved, and the branch traps. -/
def Ins.branch (o : Ins) (x : Thread) : Option (Thread × Option Nat) :=
  let z := o.target
  let here := decide (0 ≤ z) && decide (z ≤ 16383)
  match o.op with
  | 0x60 => if iRD o.w < 16 && here then some (x, if condHolds (iRD o.w) x.fl then some z.toNat else none) else none
  | 0x61 => if here then some (x, if o.a x = 0 then some z.toNat else none) else none
  | 0x62 => if here then some (x, if o.a x ≠ 0 then some z.toNat else none) else none
  | 0x63 => if here then some (x.setW (iRD o.w) (wd (o.pc + 1)), some z.toNat) else none
  | 0x64 => if (o.a x).toNat ≤ 16383 then some (x, some (o.a x).toNat) else none
  | _ => none

/-- The rows of the branches. -/
def branchRows : List ((Nat → CoreId → ThreadId → Instr) × Nat) :=
  [(fun dt c n => .b dt c n, 0x60), (fun dt c n => .cbz dt c n, 0x61), (fun dt c n => .cbnz dt c n, 0x62), (fun dt c n => .jal dt c n, 0x63),
   (fun dt c n => .jr dt c n, 0x64)]

/-- The last word of a LOOP's body and its count: from RA and IMM in register form, from IMM in immediate form (06 R149). -/
def Ins.loopOf (o : Ins) (x : Thread) : Nat × Nat :=
  if o.im then (o.pc + iIMM o.w % 16384, iIMM o.w / 16384) else (o.pc + iIMM o.w, (o.a x).toNat)

/-- Are the fields of a LOOP within their ranges (06 R149)? -/
def Ins.loopOk (o : Ins) (x : Thread) : Bool :=
  decide (iRD o.w < 4) && (if o.im then decide (iRA o.w = 0) else decide (1 ≤ iIMM o.w) && decide (iIMM o.w ≤ 16383)) &&
  decide ((o.loopOf x).1 ≤ 16383) && decide ((o.loopOf x).2 < 2 ^ 32)

/-- The thread with a loop level set: its start after the LOOP, its end and its count. -/
def Ins.loopSet (o : Ins) (x : Thread) : Thread :=
  { x with ls := tput x.ls (iRD o.w) (o.pc + 1), le := tput x.le (iRD o.w) (o.loopOf x).1, lc := tput x.lc (iRD o.w) (o.loopOf x).2 }

/-- The thread after a write of a special register that the thread may write, with a legal value (06 R140). -/
def Thread.withSreg (x : Thread) (k : Nat) (v : Word) : Option Thread :=
  match k with
  | 0x00 => if flReserved v then none else some { x with fl := v }
  | 0x01 => some { x with ph := v }
  | 0x02 => some { x with pl := v }
  | 0x04 => if v.toNat < 2 ^ 14 then some { x with ls := tput x.ls 0 v.toNat } else none
  | 0x05 => if v.toNat < 2 ^ 14 then some { x with ls := tput x.ls 1 v.toNat } else none
  | 0x06 => if v.toNat < 2 ^ 14 then some { x with ls := tput x.ls 2 v.toNat } else none
  | 0x07 => if v.toNat < 2 ^ 14 then some { x with ls := tput x.ls 3 v.toNat } else none
  | 0x08 => if v.toNat < 2 ^ 14 then some { x with le := tput x.le 0 v.toNat } else none
  | 0x09 => if v.toNat < 2 ^ 14 then some { x with le := tput x.le 1 v.toNat } else none
  | 0x0A => if v.toNat < 2 ^ 14 then some { x with le := tput x.le 2 v.toNat } else none
  | 0x0B => if v.toNat < 2 ^ 14 then some { x with le := tput x.le 3 v.toNat } else none
  | 0x0C => if v.toNat < 2 ^ 32 then some { x with lc := tput x.lc 0 v.toNat } else none
  | 0x0D => if v.toNat < 2 ^ 32 then some { x with lc := tput x.lc 1 v.toNat } else none
  | 0x0E => if v.toNat < 2 ^ 32 then some { x with lc := tput x.lc 2 v.toNat } else none
  | 0x0F => if v.toNat < 2 ^ 32 then some { x with lc := tput x.lc 3 v.toNat } else none
  | _ => none

/-! ### Floating point (06 R157; 07 R181) -/

/-- The result of a floating-point instruction and the exceptions it raises, from its operands: a from a w register for FCVTF, FCVTFU and FMVWF, from an f register else (06 R157). None where the rounding mode is reserved. -/
def Ins.fpResult (o : Ins) (x : Thread) : Option FRes :=
  let a := if o.op = 0x8E ∨ o.op = 0x8F ∨ o.op = 0x91 then x.getW (iRA o.w) else x.getF (iRA o.w)
  let rmo := bits (iAM o.w) 1 3
  let run := fun rm => some (fpOp o.op (bit (iAM o.w) 0) rm a (x.getF (iRB o.w)) (x.getF (iRD o.w)))
  if rmo = 0 then run (flRM x.fl) else if rmo ≤ 5 then run (rmo - 1) else none

/-- The thread after a floating-point instruction: FCMP gives N, Z, C and V; FCVTI, FCVTIU, FMVFW and FCLASS write a w register, the others an f register; the exceptions raised join the sticky flags. -/
def Thread.afterFp (x : Thread) (op rd : Nat) (r : FRes) : Thread :=
  let y :=
    if op = 0x8A then { x with fl := applyFlags x.fl (some (r.d.testBit 0)) (some (r.d.testBit 1)) (some (r.d.testBit 2)) (some (r.d.testBit 3)) }
    else if op = 0x8C ∨ op = 0x8D ∨ op = 0x92 ∨ op = 0x93 then x.setW rd (wd r.d) else x.setF rd (wd r.d)
  { y with fl := y.fl ||| wd (r.fl * 2 ^ 24) }

/-- The rows of the floating-point instructions. -/
def fpRows : List ((Nat → CoreId → ThreadId → Instr) × Nat) :=
  [(fun dt c n => .fadd dt (.strand c n), 0x80), (fun dt c n => .fsub dt (.strand c n), 0x81), (fun dt c n => .fmul dt (.strand c n), 0x82),
   (fun dt c n => .fdiv dt (.strand c n), 0x83), (fun dt c n => .fsqrt dt (.strand c n), 0x84), (fun dt c n => .fma dt (.strand c n), 0x85),
   (fun dt c n => .fmin dt (.strand c n), 0x86), (fun dt c n => .fmax dt (.strand c n), 0x87), (fun dt c n => .fneg dt (.strand c n), 0x88),
   (fun dt c n => .fabs dt (.strand c n), 0x89), (fun dt c n => .fcmp dt (.strand c n), 0x8A), (fun dt c n => .fcvt dt (.strand c n), 0x8B),
   (fun dt c n => .fcvti dt (.strand c n), 0x8C), (fun dt c n => .fcvtiu dt (.strand c n), 0x8D), (fun dt c n => .fcvtf dt (.strand c n), 0x8E),
   (fun dt c n => .fcvtfu dt (.strand c n), 0x8F), (fun dt c n => .fmov dt c n, 0x90), (fun dt c n => .fmvwf dt c n, 0x91),
   (fun dt c n => .fmvfw dt c n, 0x92), (fun dt c n => .fclass dt (.strand c n), 0x93)]

/-! ### Threads (05 R121, R123 to R125) -/

/-- A counter has gone up by k, and stays at its greatest value (00 R5). -/
def Counted (u t : State) (f : Fld) (a i k : Nat) : Prop := t.fget f a i = min (2 ^ f.len - 1) (u.fget f a i + k)

/-- The thread in WAIT: what it waits for, the stamp of its arrival, and the instruction it waits in (05 R121). -/
def Thread.asleep (x : Thread) (w : WaitFor) (stamp : Nat) (iw : Word) (at_ : Nat) : Thread :=
  { x with st := .wait, wait := w, since := stamp, wres := none, iw := iw, retry := none, retryAt := at_ }

/-- The child that FORK starts: its target, w1, and what it takes from its parent (05 R123). -/
def childOf (x : Thread) (p target : Nat) (arg : Word) (lends : Tab Nat Nat) (now : Nat) : Thread :=
  { Thread.rst with
    st := .ready, pc := target, pri := x.pri, cls := x.cls, act := x.act, ctx := x.ctx,
    fl := wd (b2n (flCT x.fl) * 2 ^ 8 + flEn x.fl * 2 ^ 16 + flRM x.fl * 2 ^ 32),
    w := [(1, arg)], parent := p, pvalid := true, readyAt := now + 1, lends := lends }

/-- The parent of a thread that ends: JCNT counts down, and at 0 its JOIN, if it waits in one, gets its wake (05 R125). -/
def Thread.countedOut (p : Thread) : Thread :=
  let q := { p with jcnt := p.jcnt - 1 }
  if p.jcnt = 1 ∧ p.wait = .join ∧ (p.st = .wait ∨ p.st = .halted ∧ p.wasWait) ∧ p.wres = none then { q with wres := some (.status 0) } else q

/-- Another thread of the core after thread n, whose context was `x`, has ended: n's parent counts it out, and n's children have no parent (05 R125). -/
def Thread.afterEnd (y x : Thread) (n k : Nat) : Thread :=
  let y := if x.pvalid = true ∧ x.parent = k then y.countedOut else y
  if y.pvalid = true ∧ y.parent = n then { y with pvalid := false } else y

/-- Thread n of core c has ended (05 R125): its context is FREE and keeps its lends only, its latch is 0, its parent and its children know. -/
structure Ended (u t : State) (c n : Nat) (ch : Changes) : Prop where
  thread : t.thr c n = { Thread.rst with lends := (u.thr c n).lends }
  latch : t.reg .TEVT c n = 0
  others : ∀ k < 16, k ≠ n → t.thr c k = (u.thr c k).afterEnd (u.thr c n) n k
  only : Only (ch.and { regs := [(.TEVT, c, n)], threads := (List.range 16).map fun k => (c, k), tiles := [c], parts := [.stamp] }) u t

/-- The end of thread n of core c concerns no one else: it holds no channel, and no FORK waits for its context. -/
structure State.Apart (u : State) (c n : Nat) : Prop where
  chans : ∀ t q, u.fget F.QPTR_RESV t q = 1 → u.chanOwner t q ≠ (c % 64, n)
  pool : ∀ k < 16, waitsPool (u.thr c k) = false
  parent : (u.thr c n).parent < 16

/-! ### Memory accesses of a thread (06 R143, R144, R154; 10 R244 to R250) -/

/-- What a memory instruction asks for. -/
structure Access where
  /-- Its address and size. -/
  addr : Nat
  size : Nat
  op : MemOp
  /-- The data of a store or atomic. -/
  data : Word
  /-- The extension and the destination of a load or atomic. -/
  load : Option (Ext × Dest)
  /-- The thread with its base written back. -/
  thr : Thread
  deriving DecidableEq, Repr

/-- The access of a memory instruction of a thread of core c (06 R143, R154). None where an operand field is reserved. -/
def Ins.access (o : Ins) (x : Thread) (c : Nat) : Option Access :=
  let ld := fun (size : Nat) (e : Ext) (f : Bool) =>
    if o.amOk (!f) then some (⟨(o.ea x c size).1, size, .read, 0, some (e, if f then .f (iRD o.w) else .w (iRD o.w)), (o.ea x c size).2⟩ : Access) else none
  let st := fun (size : Nat) (v : Word) => if o.amOk false then some (⟨(o.ea x c size).1, size, .write, v, none, (o.ea x c size).2⟩ : Access) else none
  let at_ := fun (k : MemOp) =>
    let a := (x.getW (iRA o.w)).toNat % 2 ^ 48
    if iAM o.w = 0 ∧ iIMM o.w = 0 ∧ a % 8 = 0 ∧ o.im = false then some (⟨a, 8, k, x.getW (iRB o.w), some (.zero, .w (iRD o.w)), x⟩ : Access) else none
  match o.op with
  | 0x40 => ld 1 .sign false
  | 0x41 => ld 1 .zero false
  | 0x42 => ld 2 .sign false
  | 0x43 => ld 2 .zero false
  | 0x44 => ld 4 .sign false
  | 0x45 => ld 4 .zero false
  | 0x46 => ld 8 .zero false
  | 0x48 => st 1 (x.getW (iRD o.w))
  | 0x49 => st 2 (x.getW (iRD o.w))
  | 0x4A => st 4 (x.getW (iRD o.w))
  | 0x4B => st 8 (x.getW (iRD o.w))
  | 0x4C => ld 4 .zero true
  | 0x4D => ld 8 .zero true
  | 0x4E => st 4 (x.getF (iRD o.w))
  | 0x4F => st 8 (x.getF (iRD o.w))
  | 0x50 => at_ .add
  | 0x51 => at_ .swap
  | _ => none

/-- The rows of the memory instructions. -/
def memoryRows : List ((Nat → CoreId → ThreadId → Instr) × Nat) :=
  [(fun dt c n => .ldb dt (.strand c n), 0x40), (fun dt c n => .ldbu dt (.strand c n), 0x41), (fun dt c n => .ldh dt (.strand c n), 0x42),
   (fun dt c n => .ldhu dt (.strand c n), 0x43), (fun dt c n => .ldw dt (.strand c n), 0x44), (fun dt c n => .ldwu dt (.strand c n), 0x45),
   (fun dt c n => .ldd dt (.strand c n), 0x46), (fun dt c n => .stb dt (.strand c n), 0x48), (fun dt c n => .sth dt (.strand c n), 0x49),
   (fun dt c n => .stw dt (.strand c n), 0x4A), (fun dt c n => .std dt (.strand c n), 0x4B), (fun dt c n => .flds dt (.strand c n), 0x4C),
   (fun dt c n => .fldd dt (.strand c n), 0x4D), (fun dt c n => .fsts dt c n, 0x4E), (fun dt c n => .fstd dt c n, 0x4F),
   (fun dt c n => .aadd dt (.strand c n), 0x50), (fun dt c n => .aswp dt (.strand c n), 0x51)]

/-- Does the address lie in memory that a request of this tile reaches without the mesh: its own scratchpad, LPDDR4X or the mailbox? -/
def State.near (s : State) (own : Option Nat) (a : Nat) : Bool :=
  match s.region own a with
  | .spad t _ => decide (own = some t)
  | .dram _ | .mailbox _ => true
  | _ => false

/-- The parts of a request, split at each multiple of `unit` (10 R249). -/
def MemReq.splitAt (m : MemReq) (unit : Nat) : List MemReq :=
  (splitParts unit m.addr m.size).map fun p => { m with addr := p.1, size := p.2.1, off := m.off + p.2.2, data := m.data / 256 ^ p.2.2 % 256 ^ p.2.1 }

/-- The parts of a request wait at the banks, at the memory controller or at the mailbox, and nothing else does that did not before (10 R246, R248, R249). -/
def Asked (u t : State) (m : MemReq) : Prop :=
  match u.region (reqTile m.who) m.addr with
  | .spad k o => t.bankReqs = u.bankReqs ++ ({ m with addr := spadAddr k o } : MemReq).splitAt 8 ∧ t.drq = u.drq ∧ t.mbxq = u.mbxq
  | .dram _ => t.bankReqs = u.bankReqs ∧ t.drq = u.drq ++ m.splitAt 256 ∧ t.mbxq = u.mbxq
  | .mailbox o => t.bankReqs = u.bankReqs ∧ t.drq = u.drq ∧ t.mbxq = u.mbxq ++ ({ m with addr := o } : MemReq).splitAt 8
  | _ => False

/-- The request of a thread's access: granted no earlier than 2 cycles after issue, 5 in constant-time mode (10 R248; 07 R185). -/
def Access.req (k : Access) (u : State) (c n : Nat) : MemReq :=
  let x := u.thr c n
  { id := u.seqNo, who := .thread c n, op := k.op, addr := k.addr, size := k.size, off := 0, data := k.data.toNat % 256 ^ k.size, ct := x.ct, cls := x.cls, stamp := u.seqNo
    due := u.now + (if x.ct then 5 else 2) }

/-- The thread after a memory instruction: a load or atomic is open until its data has come and its shadow has passed, a store or atomic is outstanding until it is performed (06 R144, R162). -/
def Access.after (k : Access) (u : State) (c n : Nat) (pc : Nat) : Thread :=
  let x := u.thr c n
  let parts := u.partsOf (reqTile (.thread c n)) k.addr k.size
  { k.thr with
    loads := match k.load with
      | some (e, d) => [{ id := u.seqNo, pc := pc, dests := [d], size := k.size, ext := e, parts := parts, acc := 0, vals := [], code := 0, arrived := false, passed := 0, issued := u.now, snap := x.snap }]
      | none => []
    outst := x.outst + (if k.op = .read then 0 else parts) }

/-! ### Memory (10 R246 to R251) -/

/-- Memory of t is that of u with the n bytes at a replaced by the n low bytes of v, the lowest first (00 R2). -/
def Wrote (u t : State) (a n v : Nat) : Prop := ∀ k, byteAt t.mem k = if a ≤ k ∧ k < a + n then BitVec.ofNat 8 (v / 256 ^ (k - a)) else byteAt u.mem k

/-- What a part of an access does to memory: a read nothing, a write and a swap put their data, an add the sum with what was there, modulo 2^64 (10 R247, R250). -/
def Performed (u t : State) (m : MemReq) : Prop :=
  match m.op with
  | .read => t.mem = u.mem
  | .add => Wrote u t m.addr m.size ((u.load m.addr m.size + m.data) % 2 ^ 64)
  | _ => Wrote u t m.addr m.size m.data

/-- The thread after a part of one of its accesses is performed: the load it belongs to takes the bytes at their place, a store or atomic is no longer outstanding (06 R144, R162). -/
def Thread.served (x : Thread) (m : MemReq) (old : Nat) : Thread :=
  { x with
    outst := x.outst - (if m.op = .read then 0 else 1)
    loads := x.loads.map fun l => if l.id = m.id then { l with parts := l.parts - 1, acc := l.acc + (if m.op = .write then 0 else old) * 256 ^ m.off } else l }

/-- The words of an access carry no error marks (10 R255, R258). -/
def State.clean (s : State) (a size : Nat) : Prop := s.badWord a size = false ∧ ∀ w ∈ s.ecc.cor, ¬(a / 8 ≤ w ∧ w ≤ (a + size - 1) / 8)

/-! ### Hardware queues and fault tokens (03 R74 to R82; 05 R128, R129) -/

/-- Nothing moves the memory of a requester: no bank is borrowed, and no LPDDR4X rush runs (10 R262). -/
structure State.Still (s : State) : Prop where
  banks : ∀ d, (s.tile d).borrow = none
  dram : s.drRush = none
  form : Memory.wf s.mem = true

/-- No one is told of events: no client holds a session, and the host event ring is off (13 R347, R350). -/
structure State.Unwatched (s : State) : Prop where
  sessions : s.ak.sessions = []
  ring : s.fget F.RCFG_EN 0 1 ≠ 1

/-- No thread waits in QPOP for an entry of a queue, and its watermarks are off. -/
structure State.QuietQ (s : State) (t q : Nat) : Prop where
  threads : ∀ j < 16, waitsQ q (s.thr t j) = false
  marks : s.fget F.QCFG_WMEN t q ≠ 1

/-- Where the entry with count i of a queue's ring lies in memory (03 R75). -/
def State.entryAt (s : State) (t q i : Nat) : Nat := s.ringAddr t (s.qAddr t q i)

/-- A token has been pushed to a queue: it lies in the entry at TAIL, and TAIL is one more, modulo 2^16 (03 R76). -/
def Pushed (u t : State) (d q : Nat) (k : Token) : Prop :=
  Wrote u t (u.entryAt d q (u.fget F.QPTR_TAIL d q)) 32 k.num ∧ t.fget F.QPTR_TAIL d q = (u.fget F.QPTR_TAIL d q + 1) % 65536 ∧
  t.fget F.QPTR_HEAD d q = u.fget F.QPTR_HEAD d q ∧ t.fget F.QPTR_STAGED d q = u.fget F.QPTR_STAGED d q ∧ t.fget F.QPTR_RESV d q = u.fget F.QPTR_RESV d q

/-- A fault token has been pushed to fault queue 255 of a tile; with no room there it is lost and counted, and FQOVF is set (05 R128). -/
def Reported (u t : State) (d : Nat) (k : Token) : Prop :=
  (u.qRoom d 255 = some true → Pushed u t d 255 k) ∧
  (u.qRoom d 255 ≠ some true → t.mem = u.mem ∧ t.reg .QPTR d 255 = u.reg .QPTR d 255 ∧ Counted u t F.FQLOST_COUNT d 0 1 ∧ t.fget F.SCHSTAT_FQOVF d 0 = 1)

/-- What the report of a fault to a tile may change. -/
def reportChanges (d : Nat) : Changes := { regs := [(.QPTR, d, 255), (.FQLOST, d, 0), (.SCHSTAT, d, 0)], parts := [.mem, .ecc] }

/-! ### The mesh at an injection port (11 R270, R275, R280) -/

/-- The buffer that a packet joins at its injection port. -/
def portKey (r : Nat) (edge : Bool) (p : Packet) : PortKey := ⟨p.net, r, portNo edge, p.vc⟩

/-- A packet can leave at a port at once: nothing returned waits there, its destination is not fenced, and its VC has the credits. -/
def State.freeWay (s : State) (r : Nat) (edge : Bool) (p : Packet) : Prop :=
  s.retq r edge = [] ∧ s.fencedAt r p.dr p.edge = false ∧ p.stamp = 0 ∧
  (s.bufUsed (portKey r edge p) + p.len ≤ bufCap p.vc ∨ s.buf (portKey r edge p) = [] ∧ p.len ≤ 9)

/-- The flits of a packet have joined the buffer of its VC at its injection port, in the order of their number. -/
def Offered (u t : State) (r : Nat) (edge : Bool) (p : Packet) : Prop :=
  t.mesh = { u.mesh with buf := tput u.mesh.buf (portKey r edge p) (u.buf (portKey r edge p) ++ ({ p with arr := u.now, stamp := u.seqNo + 1 } : Packet).flits) }

end Sys2Proof.Machine
end

