-- ==== Sys2Proof/Safety/Strand.lean ====
section
/-! DEFINITION. Terms of the claims about threads, their traps, tokens, timers, channels and locks. -/
namespace Sys2Proof.Machine

/-- What telling a requester that its write was performed changes: the debug port keeps the error status of its access (13 R355). -/
def toldChanges (who : Sys2Proof.Req) : Changes := { regs := if who = .debug then [(.DAPSTAT, 0, 0)] else [] }

/-- A thread as a trap at pc leaves it (05 R130): in its handler, or FAULTED. -/
def State.trapped (u : State) (c n pc : Nat) (x : Thread) : Thread :=
  let y := { x with wait := .none, wres := none, retry := none, loads := [] }
  if u.fget F.THND_HEN c n = 1 ∧ x.inh = false then { y with st := .ready, inh := true, pc := u.fget F.THND_HPC c n }
  else { y with st := .faulted, pc := pc }

/-- What a trap changes. -/
def trapChanges (c n : Nat) : Changes :=
  { regs := (.TEPC, c, n) :: (if c < 64 then (reportChanges c).regs else []), threads := [(c, n)], parts := if c < 64 then (reportChanges c).parts else [] }

/-- Thread n of core c has trapped with a code at pc, having no load open (05 R128 to R130): TEPC is loaded, the fault token is in the fault queue of its tile, and the thread is in its handler or FAULTED. `x`: the thread as the fault found it. -/
structure Trapped (u t : State) (c n code pc : Nat) (ch : Changes) (x : Thread := u.thr c n) : Prop where
  thread : (t.thr c n).bare = (u.trapped c n pc x).bare
  epc : t.fget F.TEPC_EPC c n = pc
  ecode : t.fget F.TEPC_ECODE c n = code
  pcx : t.fget F.TEPC_PCX c n = 0
  report : c < 64 → Reported u t c (u.threadFault c n code pc (decide ((u.trapped c n pc x).st = .faulted)))
  only : Only (ch.and (trapChanges c n)) u t

/-- The arithmetic trap record of a thread holds the opcode and the destination of the instruction that trapped (07 R182): for an integer trap INT alone, for a floating-point trap the exceptions raised, the rounding mode and the format. -/
structure Recorded (t : State) (c n : Nat) (o : Ins) (xf rmu p int : Nat) : Prop where
  xf : t.fget F.TARX_XF c n = xf
  rmu : t.fget F.TARX_RMU c n = rmu
  fmt : t.fget F.TARX_P c n = p
  opc : t.fget F.TARX_OPC c n = o.op
  rd : t.fget F.TARX_RD c n = iRD o.w
  int : t.fget F.TARX_INT c n = int

/-- A token of core c has been sent (02 R35; 03 R60; 11 R275, R292): to the local side of an input stage or to a lane's window when its destination is on the core's own tile, to the core's injection port otherwise. -/
def Sent (u t : State) (c : Nat) (dest : TokTo) (k : Token) : Prop :=
  let d := u.routeTok (u.routerOf c) dest k
  if u.siteOf d = (u.routerOf c, false) ∧ c < 64 then
    match d with
    | .node e =>
      t.tile e = { u.tile e with
        inL := tput (u.tile e).inL k.cls (tget (u.tile e).inL [] k.cls ++ [⟨k, false, .none⟩])
        lastIssue := (t.tile e).lastIssue
        cache := (t.tile e).cache } ∧
      t.mesh = u.mesh ∧ t.winq = u.winq
    | .lane l => tget t.winq [] l = tget u.winq [] l ++ [k] ∧ t.mesh = u.mesh
    | .queue e q => tget t.pushq [] (e, q) = tget u.pushq [] (e, q) ++ [(k, u.routerOf c, false, u.seqNo)] ∧ t.mesh = u.mesh
    | _ => t.mesh = u.mesh
  else Offered u t (u.routerOf c) false (mkPacket 0 (k.cls + 1) (u.siteOf d).1 (u.siteOf d).2 (u.routerOf c) false 1 (.tok k d (if c < 64 then c else 0))) ∧ t.winq = u.winq

/-- A token of core c can be sent: it does not need an own device number that is missing, and where it crosses the mesh its port has room. -/
def State.canSend (u : State) (c : Nat) (dest : TokTo) (k : Token) : Prop :=
  let d := u.routeTok (u.routerOf c) dest k
  (∀ g, d = .fabric g → u.devnum = 0xFFFF → k.dev = 0xFFFF) ∧
  (¬(u.siteOf d = (u.routerOf c, false) ∧ c < 64) →
    u.freeWay (u.routerOf c) false (mkPacket 0 (k.cls + 1) (u.siteOf d).1 (u.siteOf d).2 (u.routerOf c) false 1 (.tok k d (if c < 64 then c else 0))))

/-- The tile whose input stage a token enters without the mesh, if any. -/
def State.sentTile (u : State) (c : Nat) (dest : TokTo) (k : Token) : List Nat :=
  let d := u.routeTok (u.routerOf c) dest k
  match d with
  | .node e => if u.siteOf d = (u.routerOf c, false) ∧ c < 64 then [e] else []
  | _ => []

/-- Core c may take the next number of a lane, whose credit is not 0 (03 R55, R62). -/
def State.mayAlloc (u : State) (c l : Nat) : Prop :=
  u.fget F.LANECFG_SRCK 0 l = 1 ∧ u.fget F.LANECFG_SRC 0 l = c ∧ c < 64 ∧ (u.lane l).st = .active

/-- A number of a lane has been taken (03 R55, R71): NEXT is one more, CREDIT one less, and the new NEXT is on its way to the window. -/
def Taken (u t : State) (l : Nat) : Prop :=
  t.lane l = { u.lane l with next := ((u.lane l).next + 1) % 2 ^ 24, credit := (u.lane l).credit - 1 } ∧ t.ctl = u.ctl ++ [.snext l (((u.lane l).next + 1) % 2 ^ 24)]

/-- The load that a pop opens: the four words of the entry go to w[RD] to w[RD + 3] after its shadow (06 R144, R159). -/
def popLoadOf (u : State) (o : Ins) (x : Thread) (k : Token) : Load :=
  { id := u.seqNo, pc := o.pc, dests := [.w (iRD o.w), .w (iRD o.w + 1), .w (iRD o.w + 2), .w (iRD o.w + 3)], size := 32, ext := .zero, parts := 0, acc := 0,
    vals := [k.tag, k.dst, k.val, k.aux], code := 0, arrived := true, passed := 0, issued := u.now, snap := x.snap }

/-- The entry at HEAD of a queue (03 R75, R76). -/
def State.entry (s : State) (t q : Nat) : Token := s.qRead t q (s.fget F.QPTR_HEAD t q)

/-- HEAD of a queue is one more, modulo 2^16; TAIL, the staged entries and the reservation stay (03 R76). -/
def Popped (u t : State) (d q : Nat) : Prop :=
  t.fget F.QPTR_HEAD d q = (u.fget F.QPTR_HEAD d q + 1) % 65536 ∧ t.fget F.QPTR_TAIL d q = u.fget F.QPTR_TAIL d q ∧
  t.fget F.QPTR_STAGED d q = u.fget F.QPTR_STAGED d q ∧ t.fget F.QPTR_RESV d q = u.fget F.QPTR_RESV d q

/-- A thread's instruction that was held or waited completes now: the thread is `y`, moved on from its PC with its loops; beside the thread only what `ch` lists has changed (05 R121). -/
def Resumed (u t : State) (c n : Nat) (y : Thread) (ch : Changes) : Prop :=
  (t.thr c n).bare = (y.stepPc (u.thr c n).pc ((u.thr c n).pc + 1)).bare ∧ Only (ch.and { threads := [(c, n)] }) u t

/-- The retry of a held instruction is due: the thread is READY with no load open, and a beat has passed since the last try. -/
def State.retryDue (u : State) (c n : Nat) (k : RetryKind) : Prop :=
  (u.thr c n).st = .ready ∧ (u.thr c n).retry = some k ∧ (u.thr c n).retryAt ≤ u.now ∧ (u.thr c n).loads = []

/-- The lowest entry of a core's delay list that is not in use (05 R126). -/
def State.freeTimer (u : State) (c k : Nat) : Prop :=
  k < 1024 ∧ (∀ d ∈ (u.tile c).delay, d.num ≠ k) ∧ ∀ j < k, ∃ d ∈ (u.tile c).delay, d.num = j

/-- Entry k of a core's delay list is armed for a number of beats (05 R126, R127): its generation goes up, modulo 64. -/
def Armed (u t : State) (c k delay : Nat) (w : TimerFor) : Prop :=
  t.tile c = { u.tile c with
    delay := (u.tile c).delay ++ [⟨k, tget (u.tile c).gens 0 k, (u.beat + delay) % 2 ^ 48, u.seqNo, w⟩]
    gens := tput (u.tile c).gens k ((tget (u.tile c).gens 0 k + 1) % 64)
    lastIssue := (t.tile c).lastIssue
    cache := (t.tile c).cache }

/-- The channel's reservation is held by thread n of core c. -/
def State.holdsChan (u : State) (t q c n : Nat) : Prop :=
  u.fget F.QPTR_RESV t q = 1 ∧ u.fget F.QPTR_OWNTILE t q = c % 64 ∧ u.fget F.QPTR_OWNTHR t q = n

/-- A token is staged behind the message of a channel (03 R80): it lies in the entry at TAIL + STAGED, STAGED is one more, and the reservation is the thread's. -/
def StagedEntry (u t : State) (d q c n : Nat) (k : Token) : Prop :=
  Wrote u t (u.entryAt d q (u.fget F.QPTR_TAIL d q + u.fget F.QPTR_STAGED d q)) 32 k.num ∧ t.fget F.QPTR_STAGED d q = u.fget F.QPTR_STAGED d q + 1 ∧
  t.holdsChan d q c n ∧ t.fget F.QPTR_TAIL d q = u.fget F.QPTR_TAIL d q ∧ t.fget F.QPTR_HEAD d q = u.fget F.QPTR_HEAD d q

/-! ### The DMA engine (06 R154) -/

/-- The copy has left the engine's list. -/
def Tile.withoutCopy (x : Tile) (i : Nat) : Tile := { x with dma := x.dma.eraseIdx i }

/-- The k words from a lie in the scratchpads or in LPDDR4X, in order from memory address x, and hold no error marks. -/
def State.plainWords (u : State) (d a k x : Nat) : Prop := (∀ j < k, u.dmaMem d (a + 8 * j) = some (x + 8 * j)) ∧ u.clean x (8 * k)

/-! ### Register writes (00 R3, R402) -/

/-- A write of a register element passes the checks that every register has: the device is not in RESET, the requester has the right, no reserved field or value is written, and RWS fields change only where they may. -/
structure State.Passes (z : State) (who : Sys2Proof.Req) (k : RegKind) (t i : Nat) (v : Word) : Prop where
  dev : z.dev ≠ .reset
  host : hostKind k = true → z.hostp.perst = false
  right : mayWrite who k v = true
  reserved : reservedSet (regSpec k).fields v = false
  values : ∀ f ∈ (regSpec k).fields, valueBad (z.reg k t i) v f = false
  rws : z.rwsOpen who = true ∨ ∀ f ∈ (regSpec k).fields, rwsChange (z.reg k t i) v f = false

/-! ### Lock groups (12 R322 to R328) -/

/-- A request of thread n of core c to its lock group (12 R322). -/
def lockRequest (u : State) (c n lk : Nat) (op : LockOp) : LockReq := ⟨op, lk % 64, c, n, decide (lk / 64 % 64 ≠ c), u.seqNo⟩

/-- The class of a request in the order of its group: releases, the own strand core, mesh arrivals (12 R322). -/
def LockReq.turn (r : LockReq) : Nat := if r.op = .rel then 0 else if r.mesh then 2 else 1

/-- The request that the group takes next: the first class, the oldest within it. -/
def State.nextLock (s : State) (g : Nat) (r : LockReq) : Prop :=
  r ∈ (s.tile g).lockq ∧ r.core < 68 ∧ r.n < 16 ∧ r.cell < 64 ∧
  ∀ q ∈ (s.tile g).lockq, q.stamp < 2 ^ 64 ∧ (q ≠ r → r.turn < q.turn ∨ r.turn = q.turn ∧ r.stamp < q.stamp)

/-- The tile whose group has taken a request. -/
def Tile.took (x : Tile) (r : LockReq) : Tile := { x with lockq := x.lockq.filter fun q => q ≠ r }

/-- The tile with a cell of its group replaced. -/
def Tile.withCell (x : Tile) (c : Nat) (k : Cell) : Tile := { x with cells := tput x.cells c k }

/-- The number p is the highest EPRI among the waiters of a cell, or 0 without any (12 R325). -/
def State.lendIs (s : State) (g c p : Nat) : Prop :=
  (∀ w ∈ (s.tile g).waiters, w.cell = c → (s.thr w.core w.n).epri ≤ p) ∧
  (p = 0 ∨ ∃ w ∈ (s.tile g).waiters, w.cell = c ∧ (s.thr w.core w.n).epri = p)

/-- The waiter to which a cell passes: the highest EPRI, the longest wait among equals (12 R325). -/
def State.heir (s : State) (g c : Nat) (w : Waiter) : Prop :=
  w ∈ (s.tile g).waiters ∧ w.cell = c ∧ w.core < 68 ∧ w.n < 16 ∧
  ∀ v ∈ (s.tile g).waiters, v.cell = c → v ≠ w →
    (s.thr v.core v.n).epri < (s.thr w.core w.n).epri ∨ (s.thr v.core v.n).epri = (s.thr w.core w.n).epri ∧ w.stamp < v.stamp

/-- What the requester of a read of a register window gets: the host and the debug port a completion (13 R349, R355). -/
def Answered (u t : State) (who : Sys2Proof.Req) (v : Word) : Prop :=
  t.out = u.out ++ (match who with | .host => [.hostComp v.toNat 0] | .debug => [.dapComp v.toNat 0] | _ => [])

/-- m is the oldest message on the control VC that passes a test; without it `rest` is on the way. -/
def State.message (s : State) (p : Ctl → Bool) (m : Ctl) (rest : List Ctl) : Prop :=
  ∃ a b, s.ctl = a ++ m :: b ∧ (∀ e ∈ a, p e = false) ∧ p m = true ∧ rest = a ++ b

/-- The tile with a task at the end of its ready list, or of its class 0 queue (05 R113). -/
def Tile.withTask (x : Tile) (k : Task) : Tile := if k.cls = 0 then { x with c0q := x.c0q ++ [k] } else { x with ready := x.ready ++ [k] }

/-- The wake of a thread as it enters the ready list. -/
def Thread.wakeTask (x : Thread) (n stamp : Nat) : Task := ⟨.wake n, x.cls, x.pri, x.act, stamp, false, none⟩

/-- Thread n of core c, in WAIT, has its wake: the result is kept and the wake enters the ready list (05 R121). `y`: the tile before it. -/
def Woken (u t : State) (c n : Nat) (r : WakeRes) (y : Tile := u.tile c) : Prop :=
  t.thr c n = { u.thr c n with wres := some r } ∧ t.tile c = y.withTask ((u.thr c n).wakeTask n u.seqNo)

/-- What a wake changes. -/
def wakeChanges (c n : Nat) : Changes := { threads := [(c, n)], tiles := [c], parts := [.stamp] }

/-- The event latch of a thread has been written by a function of its image (12 R314): a WFE that waits takes the new image and leaves 0. `y`: the tile before it. -/
def Latched (u t : State) (c n : Nat) (g : Word → Word) (y : Tile := u.tile c) : Prop :=
  if (u.thr c n).st = .wait ∧ (u.thr c n).wait = .wfe ∧ (u.thr c n).wres = none then
    t.reg .TEVT c n = 0 ∧ Woken u t c n (.status (g (u.reg .TEVT c n))) y
  else t.reg .TEVT c n = g (u.reg .TEVT c n) ∧ t.thr c n = u.thr c n ∧ t.tile c = y

/-- What a write of a latch may change. -/
def latchChanges (c n : Nat) : Changes := { regs := [(.TEVT, c, n)], threads := [(c, n)], tiles := [c], parts := [.stamp] }

end Sys2Proof.Machine
end

