-- ==== Sys2Proof/Safety/Node.lean ====
section
/-! DEFINITION. Terms of the claims about firings: dispatch to a fire unit, emission, the fail accumulator and the fail log. -/
namespace Sys2Proof.Machine
open Sys2Proof (TileId Instr)

/-! ### The rows of the node forms -/

/-- Rows of node forms, part 0. -/
def nodeRows0 : List ((Nat → TileId → Fin 4 → Instr) × Nat) :=
  [(fun dt d n => .add dt (.fire d n), 0x00), (fun dt d n => .sub dt (.fire d n), 0x02), (fun dt d n => .addo dt (.fire d n), 0x04),
   (fun dt d n => .subo dt (.fire d n), 0x05), (fun dt d n => .neg dt (.fire d n), 0x06), (fun dt d n => .nego dt (.fire d n), 0x07),
   (fun dt d n => .and dt (.fire d n), 0x08), (fun dt d n => .or dt (.fire d n), 0x09), (fun dt d n => .xor dt (.fire d n), 0x0A),
   (fun dt d n => .andn dt (.fire d n), 0x0B), (fun dt d n => .orn dt (.fire d n), 0x0C), (fun dt d n => .xnor dt (.fire d n), 0x0D),
   (fun dt d n => .not dt (.fire d n), 0x0E), (fun dt d n => .mov dt (.fire d n), 0x0F), (fun dt d n => .lsl dt (.fire d n), 0x10),
   (fun dt d n => .lsr dt (.fire d n), 0x11), (fun dt d n => .asr dt (.fire d n), 0x12), (fun dt d n => .ror dt (.fire d n), 0x13),
   (fun dt d n => .lslw dt (.fire d n), 0x14), (fun dt d n => .lsrw dt (.fire d n), 0x15), (fun dt d n => .asrw dt (.fire d n), 0x16),
   (fun dt d n => .rorw dt (.fire d n), 0x17), (fun dt d n => .cmp dt (.fire d n), 0x18), (fun dt d n => .cmpw dt (.fire d n), 0x19)]

/-- Rows of node forms, part 1. -/
def nodeRows1 : List ((Nat → TileId → Fin 4 → Instr) × Nat) :=
  [(fun dt d n => .tst dt (.fire d n), 0x1A), (fun dt d n => .min dt (.fire d n), 0x1B), (fun dt d n => .max dt (.fire d n), 0x1C),
   (fun dt d n => .minu dt (.fire d n), 0x1D), (fun dt d n => .maxu dt (.fire d n), 0x1E), (fun dt d n => .abs dt (.fire d n), 0x1F),
   (fun dt d n => .mulu dt (.fire d n), 0x20), (fun dt d n => .muls dt (.fire d n), 0x21), (fun dt d n => .mul dt (.fire d n), 0x24),
   (fun dt d n => .clz dt (.fire d n), 0x30), (fun dt d n => .ctz dt (.fire d n), 0x31), (fun dt d n => .popc dt (.fire d n), 0x32),
   (fun dt d n => .ext dt (.fire d n), 0x33), (fun dt d n => .extu dt (.fire d n), 0x34), (fun dt d n => .bswap dt (.fire d n), 0x36),
   (fun dt d n => .sxt dt (.fire d n), 0x37), (fun dt d n => .zxt dt (.fire d n), 0x38), (fun dt d n => .setc dt (.fire d n), 0x39),
   (fun dt d n => .ldb dt (.fire d n), 0x40), (fun dt d n => .ldbu dt (.fire d n), 0x41), (fun dt d n => .ldh dt (.fire d n), 0x42),
   (fun dt d n => .ldhu dt (.fire d n), 0x43), (fun dt d n => .ldw dt (.fire d n), 0x44), (fun dt d n => .ldwu dt (.fire d n), 0x45)]

/-- Rows of node forms, part 2. -/
def nodeRows2 : List ((Nat → TileId → Fin 4 → Instr) × Nat) :=
  [(fun dt d n => .ldd dt (.fire d n), 0x46), (fun dt d n => .stb dt (.fire d n), 0x48), (fun dt d n => .sth dt (.fire d n), 0x49),
   (fun dt d n => .stw dt (.fire d n), 0x4A), (fun dt d n => .std dt (.fire d n), 0x4B), (fun dt d n => .flds dt (.fire d n), 0x4C),
   (fun dt d n => .fldd dt (.fire d n), 0x4D), (fun dt d n => .aadd dt (.fire d n), 0x50), (fun dt d n => .aswp dt (.fire d n), 0x51),
   (fun dt d n => .lea dt (.fire d n), 0x53), (fun dt d n => .fadd dt (.fire d n), 0x80), (fun dt d n => .fsub dt (.fire d n), 0x81),
   (fun dt d n => .fmul dt (.fire d n), 0x82), (fun dt d n => .fdiv dt (.fire d n), 0x83), (fun dt d n => .fsqrt dt (.fire d n), 0x84),
   (fun dt d n => .fma dt (.fire d n), 0x85), (fun dt d n => .fmin dt (.fire d n), 0x86), (fun dt d n => .fmax dt (.fire d n), 0x87),
   (fun dt d n => .fneg dt (.fire d n), 0x88), (fun dt d n => .fabs dt (.fire d n), 0x89), (fun dt d n => .fcmp dt (.fire d n), 0x8A),
   (fun dt d n => .fcvt dt (.fire d n), 0x8B), (fun dt d n => .fcvti dt (.fire d n), 0x8C), (fun dt d n => .fcvtiu dt (.fire d n), 0x8D)]

/-- Rows of node forms, part 3. -/
def nodeRows3 : List ((Nat → TileId → Fin 4 → Instr) × Nat) :=
  [(fun dt d n => .fcvtf dt (.fire d n), 0x8E), (fun dt d n => .fcvtfu dt (.fire d n), 0x8F), (fun dt d n => .fclass dt (.fire d n), 0x93),
   (fun dt d n => .crc32c dt (.fire d n), 0xA0), (fun dt d n => .crc32 dt (.fire d n), 0xA1), (fun dt d n => .crc16 dt (.fire d n), 0xA2),
   (fun dt d n => .par dt (.fire d n), 0xA3), (fun dt d n => .parb dt (.fire d n), 0xA4), (fun dt d n => .brev dt (.fire d n), 0xA5),
   (fun dt d n => .brevw dt (.fire d n), 0xA6), (fun dt d n => .brevb dt (.fire d n), 0xA7), (fun dt d n => .misr dt (.fire d n), 0xA8),
   (fun dt d n => .misrw dt (.fire d n), 0xA9), (fun dt d n => .qpush dt (.fire d n), 0xB5), (fun dt d n => .tmr dt (.fire d n), 0xBB),
   (fun dt d n => .nop dt (.fire d n), 0xCA), (fun dt d n => .scrm dt (.fire d n), 0xD0), (fun dt d n => .dbkg dt (.fire d n), 0xD1),
   (fun dt d n => .flog dt (.fire d n), 0xD3), (fun dt d n => .vrdt dt (.fire d n), 0xD4), (fun dt d n => .fwd dt d n, 0xB2),
   (fun dt d n => .steer dt d n, 0xB3), (fun dt d n => .lnout dt d n, 0xB4), (fun dt d n => .sink dt d n, 0xBD)]

/-- Every node form whose opcode is its row's. -/
def nodeRows : List ((Nat → TileId → Fin 4 → Instr) × Nat) := nodeRows0 ++ nodeRows1 ++ nodeRows2 ++ nodeRows3

/-- The operations of FACC. -/
def faccRows : List ((Nat → TileId → Fin 4 → Instr) × Nat) :=
  [(fun dt d n => .acc dt (.fire d n), 0), (fun dt d n => .faccClose dt (.fire d n), 1), (fun dt d n => .query dt (.fire d n), 2), (fun dt d n => .done dt (.fire d n), 3)]

/-- The row is that of a node word. -/
def RowOf (i : Nat → TileId → Fin 4 → Instr) (w : Word) : Prop :=
  (i, nOpc w) ∈ nodeRows ∨ nOpc w = 0xD2 ∧ 2 ≤ nMode w ∧ (i, nMod w % 4) ∈ faccRows ∨ (i = fun dt d n => .customOpcode dt (.fire d n)) ∧ 0xE0 ≤ nOpc w ∧ nOpc w ≤ 0xEF

/-! ### The dispatch of a firing (05 R114 to R116; 02 R28) -/

/-- Fire unit n of tile d takes the task k, a firing f, whose result at the node is r, with v the state after what the node itself does to the tile's helpers: the tile is active, the unit holds no token back and is open, the task is the first in the order of R114, the firing makes no context and closes none, and the Cox passes its charge. -/
structure Fires (u v : State) (d n : Nat) (k : Task) (f : Firing) (r : NRes) : Prop where
  tile : d < 64
  cls : k.cls < 4
  active : u.active d = true
  kept : (u.tile d).unitOut = []
  noted : (u.tile d).allocHeld = ((u.tile d).c0q ++ (u.tile d).ready).any u.creditHeld
  first : (u.taskOrder d).head? = some k
  fire : k.kind = .fire f
  plain : nMatch f.word ≠ 5 ∧ nMatch f.word ≠ 6
  result : u.nodeRes d k.cls f = (r, v)
  room : u.unitOpen d n (u.fireOcc f) = true
  cox : u.verdict d k.act (u.fireCharge d f r) = .ok

/-- What a dispatch changes beside what the firing emits. -/
def dispatchChanges (d : Nat) (k : Task) : Changes := { regs := [(.ACTREM0, d, k.act), (.ACTREM1, d, k.act), (.DISPATCHED, d, 0)], tiles := [d], parts := [.stamp] }

/-- The task has left the ready list of tile d for fire unit n, which is taken for the firing's occupancy, and the firing is counted. `y`: the tile before it, with what the firing does to it; the marks that the dispatch leaves in its cached contexts, and whether a firing waits for lane credit, may differ. -/
def Dispatched (v t : State) (d n : Nat) (k : Task) (f : Firing) (y : Tile := v.tile d) : Prop :=
  t.tile d = { y with
    ready := (v.tile d).ready.filter (fun j => j.stamp ≠ k.stamp)
    c0q := (v.tile d).c0q.filter (fun j => j.stamp ≠ k.stamp)
    unitFree := tput (v.tile d).unitFree n (v.now + v.fireOcc f)
    cache := (t.tile d).cache
    allocHeld := (t.tile d).allocHeld } ∧
  Counted v t F.DISPATCHED_COUNT d 0 1

/-- The tile with a task out of its ready list, and its strand core's wake of this cycle taken; the dispatch marks its cached context. -/
def Tile.wakeTaken (x : Tile) (k : Task) (now : Nat) (cache : List CEnt) : Tile :=
  { x with ready := x.ready.filter (fun j => j.stamp ≠ k.stamp), c0q := x.c0q.filter (fun j => j.stamp ≠ k.stamp), lastWake := some now, cache := cache }

/-- The strand core of c takes the task k next (05 R114, R115). -/
structure State.TakesWake (u : State) (c : Nat) (k : Task) : Prop where
  active : u.active c = true
  once : (u.tile c).lastWake ≠ some u.now
  first : (u.taskOrder c).head? = some k

/-- The thread that a spawning wake starts (05 R123): w1 to w4 are the words of its token. -/
def spawned (f : Firing) (m : Token) (k : Task) (lends : Tab Nat Nat) (now : Nat) : Thread :=
  { Thread.rst with
    st := .ready, pc := nIdx0 f.word, pri := k.pri, cls := k.cls, act := k.act, ctx := m.ctx, readyAt := now + 1, lends := lends
    w := [(4, m.aux), (3, m.val), (2, m.dst), (1, m.tag)] }

/-! ### Emission (02 R28, R35; 06 R136; 11 R275) -/

/-- The token that a firing of class cls emits to a destination, with the lane and number it carries. -/
def Firing.out (f : Firing) (cls : Nat) (ord : Option (Nat × Nat)) (d aux : Word) (p : Nat × Nat × Nat) : Token :=
  ⟨mkTag f.ctx p.1 p.2.1 f.iter p.2.2 cls (b2n ord.isSome), mkDst 0xFFFF (ord.getD (0, 0)).1 (ord.getD (0, 0)).2 0, d, aux⟩

/-- The tile with tokens in the local side of the input stage of a class. -/
def Tile.withTokens (x : Tile) (cls : Nat) (l : List Token) : Tile :=
  if l = [] then x else { x with inL := tput x.inL cls (tget x.inL [] cls ++ l.map fun k => ⟨k, false, .none⟩) }

/-- The buffer of a tile's port that tokens of a class join. -/
def State.tokBuf (s : State) (d cls : Nat) : PortKey := ⟨0, s.routerOf d, 4, cls + 1⟩

/-- The flits of the tokens of a list that leave tile d over the mesh; each token takes the next order stamp, in the order of the list. -/
def State.leaving (s : State) (d cls : Nat) (l : List ((Nat × Nat × Nat) × Token)) : List Packet :=
  (l.zipIdx.filter fun e => e.1.1.1 ≠ d).flatMap fun e =>
    ({ mkPacket 0 (cls + 1) (s.routerOf e.1.1.1) false (s.routerOf d) false 1 (.tok e.1.2 (.node e.1.1.1) d) with arr := s.now, stamp := s.seqNo + 1 + e.2 } : Packet).flits

/-- The tokens of a list can leave tile d: nothing returned waits at its port, no destination is fenced, each other tile is at another router, and the VC has the credits. -/
structure State.mayLeave (s : State) (d cls : Nat) (l : List ((Nat × Nat × Nat) × Token)) : Prop where
  ret : s.retq (s.routerOf d) false = []
  fence : ∀ e ∈ l, s.fencedAt (s.routerOf d) (s.routerOf e.1.1) false = false
  other : ∀ e ∈ l, e.1.1 ≠ d → s.routerOf e.1.1 ≠ s.routerOf d
  room : s.bufUsed (s.tokBuf d cls) + (s.leaving d cls l).length ≤ bufCap (cls + 1)

/-- The tokens of a list have left tile d over the mesh. -/
def Left (v t : State) (d cls : Nat) (l : List ((Nat × Nat × Nat) × Token)) : Prop :=
  { t.mesh with buf := v.mesh.buf } = v.mesh ∧ ∀ b, t.buf b = if b = v.tokBuf d cls then v.buf b ++ v.leaving d cls l else v.buf b

/-- The tokens of a list whose destination is tile d. -/
def staying (d : Nat) (l : List ((Nat × Nat × Nat) × Token)) : List Token := (l.filter fun e => e.1.1 = d).map fun e => e.2

/-- A firing's token to DST0 goes on as a chained lookup (05 R118): class 0, one cycle of occupancy, and DST0 on the own tile. -/
def Firing.chains (f : Firing) (u : State) (d cls : Nat) : Prop := cls = 0 ∧ (dst0 f.word).1 = d ∧ u.fireOcc f = 1

/-! ### The fail accumulator (09 R238 to R242) -/

/-- The result word of ACC and QUERY (09 R239), from the counts after it: whether the row and the column became must-repair, whether it was ignored. -/
def State.failWord (t : State) (c k row col : Nat) (rnew cnew ign : Bool) : Word :=
  let r := t.camCount c k 0 row
  let q := t.camCount c k 1 col
  let past := fun (f g : Fld) => decide (t.fget g 0 k < t.fget f 0 k)
  wd (b2n rnew + b2n cnew * 2 + b2n (decide (t.fget F.RBCFG_SC 0 k < r)) * 4 + b2n (decide (t.fget F.RBCFG_SR 0 k < q)) * 8 + t.fget F.RBCFG_OVF 0 k * 16 +
    b2n ign * 32 + b2n (past F.RBCFG_MR F.RBCFG_SR || past F.RBCFG_MC F.RBCFG_SC) * 64 + r * 256 + q * 65536)

/-- An entry of the accumulator of tile c holds a row (kind 0) or column (kind 1) of block k. -/
def State.camHas (u : State) (c k kind i : Nat) : Prop :=
  ∃ e < 512, u.fget F.FACAM_VALID c e = 1 ∧ u.fget F.FACAM_BLK c e = k ∧ u.fget F.FACAM_KIND c e = kind ∧ u.fget F.FACAM_INDEX c e = i

/-- The accumulator of tile c can count a row and a column: each has its entry, or two entries are not in use. -/
def State.camRoom (u : State) (c k row col : Nat) : Prop :=
  u.camHas c k 0 row ∧ u.camHas c k 1 col ∨ ∃ e < 512, ∃ f < 512, e ≠ f ∧ u.fget F.FACAM_VALID c e = 0 ∧ u.fget F.FACAM_VALID c f = 0

/-- Every entry of the accumulator is in use, and none of them for this row or column. -/
def State.camFull (u : State) (c k row col : Nat) : Prop := (∀ e < 512, u.fget F.FACAM_VALID c e = 1) ∧ ¬u.camHas c k 0 row ∧ ¬u.camHas c k 1 col

/-- A fail in a row and a column of an OPEN block is counted, and d is the result: must-repair is reached when a count passes the spare lines of the other kind (09 R239). -/
structure FailCounted (u t : State) (c k row col : Nat) (d : Word) : Prop where
  rowCount : t.camCount c k 0 row = min 255 (u.camCount c k 0 row + 1)
  colCount : t.camCount c k 1 col = min 255 (u.camCount c k 1 col + 1)
  others : ∀ j i, ((j, i) ≠ (k, row) → t.camCount c j 0 i = u.camCount c j 0 i) ∧ ((j, i) ≠ (k, col) → t.camCount c j 1 i = u.camCount c j 1 i)
  mr : Counted u t F.RBCFG_MR 0 k (b2n (decide (u.camCount c k 0 row = u.fget F.RBCFG_SC 0 k)))
  mc : Counted u t F.RBCFG_MC 0 k (b2n (decide (u.camCount c k 1 col = u.fget F.RBCFG_SR 0 k)))
  ovf : t.fget F.RBCFG_OVF 0 k = u.fget F.RBCFG_OVF 0 k
  result : d = t.failWord c k row col (decide (u.camCount c k 0 row = u.fget F.RBCFG_SC 0 k)) (decide (u.camCount c k 1 col = u.fget F.RBCFG_SR 0 k)) false

/-- The entries of a block are free; those of other blocks stay. -/
def CamFreed (u t : State) (c k : Nat) : Prop :=
  ∀ kind i, t.camCount c k kind i = 0 ∧ ∀ j, j ≠ k → t.camCount c j kind i = u.camCount c j kind i

/-- What an operation of a repair block may change. -/
def repairChanges (c k : Nat) : Changes := { regs := (.RBCFG, 0, k) :: (.RBST, 0, k) :: (List.range 512).map fun e => (.FACAM, c, e) }

/-- The registers that a change names hold what they held. -/
def Held (u t : State) (ch : Changes) : Prop := ∀ r ∈ ch.regs, t.reg r.1 r.2.1 r.2.2 = u.reg r.1 r.2.1 r.2.2

/-- What one operation of FACC on block k of tile c does, and its result d (09 R239). -/
def Accumulated (u t : State) (c op k : Nat) (a d : Word) : Prop :=
  let row := wbits a 32 32
  let col := wbits a 0 32
  let st := u.fget F.RBST_STATE 0 k
  let ovf := u.fget F.RBCFG_OVF 0 k
  (op = 0 → (st = 1 → u.camRoom c k row col → FailCounted u t c k row col d) ∧
    (st = 1 → u.camFull c k row col → (∀ e < 512, t.reg .FACAM c e = u.reg .FACAM c e) ∧ t.reg .RBST 0 k = u.reg .RBST 0 k ∧ t.reg .RBCFG 0 k = wset (u.reg .RBCFG 0 k) 21 1 1 ∧ d = t.failWord c k row col false false false) ∧
    (st ≠ 1 → Held u t (repairChanges c k) ∧ d = u.failWord c k row col false false true)) ∧
  (op = 1 →
    (st = 1 → ovf = 0 → t.fget F.RBST_STATE 0 k = 2 ∧ t.fget F.RBST_DUE 0 k = (u.count + 2) % 2 ^ 48) ∧
    (st = 1 → ovf = 1 → t.fget F.RBST_STATE 0 k = 5 ∧ CamFreed u t c k) ∧
    (st ≠ 1 → Held u t (repairChanges c k)) ∧
    d = wd (u.fget F.RBCFG_MR 0 k + u.fget F.RBCFG_MC 0 k * 2 ^ 7 + ovf * 2 ^ 14 + b2n (u.rbEarly k) * 2 ^ 15 + b2n (decide (st ≠ 1)) * 2 ^ 16)) ∧
  (op = 2 → Held u t (repairChanges c k) ∧ d = u.failWord c k row col false false false) ∧
  (op = 3 →
    (st = 2 ∧ u.count < u.fget F.RBST_DUE 0 k → d = 0 ∧ t.fget F.RBST_STATE 0 k = a.toNat % 16 ∧ CamFreed u t c k) ∧
    (¬(st = 2 ∧ u.count < u.fget F.RBST_DUE 0 k) → d = 1 ∧ Held u t (repairChanges c k)))

/-! ### The fail log (09 R236, R237) -/

/-- The record of FLOG (09 R236). -/
def State.failRecord (u : State) (c kind : Nat) (a b x : Word) : Nat :=
  u.slate.toNat + (wbits b 0 48 + kind * 2 ^ 48 + c * 2 ^ 50) * 2 ^ 64 + a.toNat * 2 ^ 128 + x.toNat * 2 ^ 192

/-- What an append may change. -/
def logChanges (c : Nat) : Changes := { regs := [(.FLPTR, c, 0), (.FLDROP, c, 0), (.IPEND, c, 0)], parts := [.mem, .ecc] }

/-- What FLOG does on tile c, and its status d (09 R236). -/
def Appended (u t : State) (c kind : Nat) (a b x d : Word) : Prop :=
  let h := u.fget F.FLPTR_HEAD c 0
  let tl := u.fget F.FLPTR_TAIL c 0
  let size := 2 ^ u.fget F.FLOGCFG_LOG2N c 0
  let full := size ≤ (tl + 2 ^ 32 - h) % 2 ^ 32
  let en := u.fget F.FLOGCFG_EN c 0 = 1
  let wrap := u.fget F.FLOGCFG_WRAP c 0 = 1
  let rings := t.reg .IPEND c 0 = u.reg .IPEND c 0 ||| 64
  (¬en → d = 3 ∧ Held u t (logChanges c) ∧ t.mem = u.mem) ∧
  (en → full → ¬wrap → d = 2 ∧ Counted u t F.FLDROP_COUNT c 0 1 ∧ rings ∧ t.mem = u.mem ∧ t.reg .FLPTR c 0 = u.reg .FLPTR c 0) ∧
  (en → ¬full ∨ wrap →
    Wrote u t (u.ringAddr c (u.fget F.FLBASE_BASE c 0 * 32 + 32 * (tl % size))) 32 (u.failRecord c kind a b x) ∧ t.fget F.FLPTR_TAIL c 0 = (tl + 1) % 2 ^ 32 ∧
    (full → d = 1 ∧ t.fget F.FLPTR_HEAD c 0 = (h + 1) % 2 ^ 32 ∧ rings) ∧
    (¬full → d = 0 ∧ t.fget F.FLPTR_HEAD c 0 = h ∧ t.reg .IPEND c 0 = u.reg .IPEND c 0))

end Sys2Proof.Machine
end

