-- ==== Sys2Proof/Safety/Store.lean ====
section
/-! DEFINITION. Terms of the claims about the matching store, the contexts and the progress scan. -/
namespace Sys2Proof.Machine

/-! ### Lookup (02 R24 to R42) -/

/-- The token k at the head of the input stage of class c is the next that tile d looks up; `loc`: it is a local emission. -/
structure State.NextToken (u : State) (d c : Nat) (k : Staged) (loc : Bool) : Prop where
  here : u.frozen d = false
  cls : c < 4
  before : ∀ j < c, (u.tile d).stageHead j = none
  head : (u.tile d).stageHead c = some (k, loc)

/-- The context of a token is OPEN and in the tile's cache, and its node word accepts it as a node of this kind. -/
structure State.Meets (u : State) (d : Nat) (k : Staged) (kind : MKind) : Prop where
  rsvd : k.tok.rsvd = false
  isOpen : ∃ e, u.cached d k.tok.ctx = some e ∧ e.closed = false
  used : (u.ctx k.tok.ctx).st ≠ 0
  node : nodeKind k.tok.idx (u.gword d k.tok.idx) = some kind
  port : kind.accepts k.tok.port k.tok.sticky = true
  cls : k.tok.cls = (u.ctx k.tok.ctx).cls

/-- The firing of the node of a token, with its operands by port. -/
def State.firingOf (u : State) (d : Nat) (k : Token) (p0 p1 p2 : Option Token) : Firing :=
  let w := u.gword d k.idx
  ⟨k.ctx, k.idx, k.iter, w, if nMode w = 3 then u.gword d (k.idx + 1) else 0, p0, p1, p2⟩

/-- The task of a firing as it enters the ready list, with the class, priority and activity of its context; a SPAWN node is a spawning wake (05 R113, 06 R159). -/
def State.taskFor (u : State) (f : Firing) : Task :=
  let c := u.ctx f.ctx
  ⟨if nOpc f.word = 0xBA then .spawn f else .fire f, c.cls, c.pri, c.act, u.seqNo, false, none⟩

/-- An entry that waits on chip for the other operand of a token. -/
def Entry.waitsFor (e : Entry) (k : Token) (port : Nat) : Prop := e.tok.ctx = k.ctx ∧ e.tok.idx = k.idx ∧ e.tok.iter = k.iter ∧ e.port = port ∧ e.held = false

/-- The count that a token is in has gone down by one, or up by one (08 R190). -/
def PopLeft (u t : State) (d : Nat) (p : Pop) : Prop :=
  t.fget F.POPCNT_CPOP d 0 = u.fget F.POPCNT_CPOP d 0 - b2n (decide (p = .c)) ∧ t.fget F.POPCNT_OPOP d 0 = u.fget F.POPCNT_OPOP d 0 - b2n (decide (p = .o))

/-- The token is new to the counts: it enters the certified count while its context's reservation lasts, the other count otherwise (08 R190). -/
def State.countOf (u : State) (d c : Nat) : Pop :=
  if (u.ctx c).cert = true ∧ u.fget F.POPCNT_CPOP d 0 < u.fget F.ADMRES_RES d 0 then .c else .o

/-- A list of entries has lost those of a context. -/
def without (c : Nat) (l : List Entry) : List Entry := l.filter fun e => decide (e.tok.ctx ≠ c)

/-! ### Contexts (02 R50, R52) -/

/-- Parts that a change of a context descriptor touches: the context table in memory once CTBASE has been written (02 R48). -/
def State.ctxParts (u : State) : List Part := if u.ctbaseSet = true then [.mem, .ecc] else []

/-- A context has begun to close on its owning tile d: it is CLOSING with an acknowledgement due from every tile of its TILESET, each of which gets a close, and its ready tasks are cancelled and counted (02 R50, R52). -/
structure CloseBegun (u t : State) (c victim : Nat) (ctl : List Ctl) : Prop where
  ctx : t.ctx c = { u.ctx c with st := 2, acks := (u.ctx c).tileset, victim := victim }
  closes : t.ctl = ctl ++ (tilesOf (u.ctx c).tileset).map fun d => .close c d
  tasks : (t.tile (c / 1024)).ready = (u.tile (c / 1024)).ready.filter (fun k => !taskOfCtx c k) ∧ (t.tile (c / 1024)).c0q = (u.tile (c / 1024)).c0q.filter fun k => !taskOfCtx c k
  orphans : Counted u t F.ORPHANS_COUNT (c / 1024) 0 (((u.tile (c / 1024)).ready ++ (u.tile (c / 1024)).c0q).filter (taskOfCtx c)).length
  cache : (t.tile (c / 1024)).cache = (u.tile (c / 1024)).cache.map fun e => if e.ctx = c then { e with closed := true } else e

/-- What the beginning of a close may change. -/
def State.closeChanges (u : State) (c : Nat) : Changes := { regs := [(.ORPHANS, c / 1024, 0)], tiles := [c / 1024], ctxs := [c], parts := .ctl :: u.ctxParts }

/-! ### The progress scan (08 R196 to R206) -/

/-- A path of waits leads from a context to another. -/
def State.waitPath (u : State) : Nat → Nat → Prop := Relation.TransGen fun a b => (a, b) ∈ u.waitFor

/-- v is the victim of the scan: a member of a cycle that is not certified, with the lowest priority, then the latest opening, then the highest number (08 R199). -/
def State.isVictim (u : State) (v : Nat) : Prop :=
  u.waitPath v v ∧ (u.ctx v).cert = false ∧ v < 65536 ∧
  ∀ w, u.waitPath w w → (u.ctx w).cert = false → w ≠ v → w < 65536 ∧
    ((u.ctx v).pri < (u.ctx w).pri ∨ (u.ctx v).pri = (u.ctx w).pri ∧
      ((u.ctx w).opened.toNat < (u.ctx v).opened.toNat ∨ (u.ctx w).opened = (u.ctx v).opened ∧ w < v))

/-- The scan's report: DLKLOG and the device source (08 R202). -/
def ScanReported (u t : State) (vctx len : Nat) (cert : Bool) : Prop :=
  t.reg .DLKLOG 0 0 = wd (vctx + min 255 len * 2 ^ 16 + b2n cert * 2 ^ 24 + u.count % 2 ^ 32 * 2 ^ 32) ∧ t.reg .DPEND 0 0 = u.reg .DPEND 0 0 ||| 2

/-- Nothing is left of the scan, which is counted (08 R202). -/
def ScanEnded (u t : State) : Prop :=
  Counted u t F.DLKCNT_SCANS 0 0 1 ∧ t.scan.stalled = [] ∧ t.scan.taken = false ∧ t.scan.victim = none ∧ t.scan.members = [] ∧ t.scan.pending = u.scan.pending

end Sys2Proof.Machine
end

