-- ==== Sys2Proof/Safety/Units.lean ====
section
/-! DEFINITION. Terms of the claims about register writes, lanes, hardware queues and the stroke. -/
namespace Sys2Proof.Machine

/-! ### Register writes (00 R3, R402) -/

/-- The registers whose writes have a rule of their own beside the access types of their fields, and DAPSTAT, which every debug access writes. -/
def ruledRegs : List RegKind :=
  [.LTMAP, .PTSTAT, .CTBASE, .QBASE, .QCFG, .QDB, .TCTL, .DBGT, .BANKPWR, .RUSHCFG, .RDCFG, .IPEND, .DPEND, .IEN, .DEN, .ISWSET, .DSWSET, .DSRC, .LKCELL, .LKGCFG,
   .LANECFG, .LANESTAT, .STRKCFG, .EPOCH, .CUTTAKE, .CUTSTRK, .CLCFG, .FLCFG, .SITEW0, .SITEW1, .SITEW2, .SITEW3, .RBCFG, .FLBASE, .FLOGCFG, .FLPTR, .RTCTL, .DRCFG,
   .MOCMD, .FABCFG, .RTBANK, .PTPCFG, .RTENT, .KWATCH, .TPWR, .RBASE, .RCFG, .RHEAD, .RTAIL, .DAPSTAT]

/-- A field after a write by its access type: RO and constants stay, W1C bits written 1 clear, WO reads 0, the others take what is written (00 R3). -/
def fieldWritten (old v : Word) (f : Fld) : Nat :=
  match f.acc with
  | .ro | .const => wbits old f.lo f.len
  | .w1c => wbits (old &&& ~~~v) f.lo f.len
  | .wo => 0
  | _ => wbits v f.lo f.len

/-- Register element i of a kind exists at tile t: a device register has t = 0. -/
def regExists (k : RegKind) (t i : Nat) : Prop := i < (regSpec k).count ∧ if (regSpec k).inTile = true then t < 64 else t = 0

/-- The fault code and the debug error of a write that a check of 00 R402 refuses: the right first, then reserved fields and values, then the state that RWS fields ask for. -/
def State.firstRefusal (z : State) (who : Sys2Proof.Req) (k : RegKind) (t i : Nat) (v : Word) : Option (Nat × Nat) :=
  let old := z.reg k t i
  let fs := (regSpec k).fields
  if mayWrite who k v = false then some (3, 2)
  else if reservedSet fs v = true ∨ ∃ f ∈ fs, valueBad old v f = true then some (2, 1)
  else if z.rwsOpen who = false ∧ ∃ f ∈ fs, rwsChange old v f = true then some (3, 1)
  else none

/-- A write of a thread, the debug port or another requester is refused with a fault code and an error: the thread traps at its PC, the debug port gets the error, and nothing else changes. -/
def RefusedWith (z t : State) (who : Sys2Proof.Req) (code err : Nat) : Prop :=
  match who with
  | .thread c n => Trapped z t c n code (z.thr c n).pc {}
  | .debug => t.fget F.DAPSTAT_ERR 0 0 = err ∧ Only { regs := [(.DAPSTAT, 0, 0)] } z t
  | _ => Only {} z t

/-- The requester can be told: a thread is READY on a core whose fault queue can take its token; the host has no one to tell. -/
def State.canTell (z : State) (who : Sys2Proof.Req) : Prop :=
  match who with
  | .thread c n => c < 68 ∧ n < 16 ∧ (z.thr c n).st = .ready ∧ (c < 64 → z.Still ∧ z.QuietQ c 255)
  | .host => z.Unwatched
  | _ => True

/-! ### Lanes (03 R55 to R73) -/

/-- The tokens on the way to the window of a lane are now l, those of the others are as before. -/
def Arrived (u t : State) (l : Nat) (r : List Token) : Prop := tget t.winq [] l = r ∧ ∀ m, m ≠ l → tget t.winq [] m = tget u.winq [] m

/-- The window of a lane has sent a fault token to FTILE: at once where that tile stands beside the window, over the control VC otherwise (03 R60, 05 R128). -/
def LaneFaulted (u t : State) (l : Nat) (tag : Word) (k : Token) (code : Nat) : Prop :=
  let ft := u.fget F.LANEGAP_FTILE 0 l
  let m := u.mkFault tag (some k) code 3 ((u.laneTile l).getD ft) 0
  if u.laneTile l = some ft then Reported u t ft m ∧ t.ctl = u.ctl else t.ctl = u.ctl ++ [.faultTok ft m]

/-- What such a fault token may change. -/
def State.laneFaultChanges (u : State) (l : Nat) : Changes :=
  if u.laneTile l = some (u.fget F.LANEGAP_FTILE 0 l) then reportChanges (u.fget F.LANEGAP_FTILE 0 l) else { parts := [.ctl] }

/-- No thread waits for the fault queue of the tile beside the window of a lane, and no memory moves. -/
def State.laneCalm (u : State) (l : Nat) : Prop := u.laneTile l = some (u.fget F.LANEGAP_FTILE 0 l) → u.Still ∧ u.QuietQ (u.fget F.LANEGAP_FTILE 0 l) 255

/-- An output has the token k of lane l to release: the lane is not OFF, k is what it would release now, and the sink accepts it (03 R61). -/
def State.canRelease (u : State) (o : Outlet) (l : Nat) (k : Token) : Prop :=
  l < 4096 ∧ (u.lane l).st ≠ .off ∧ u.outletOf l = o ∧ u.laneFront l = some k ∧ u.sinkAccepts l k = true

/-- Lane l is the one that the output serves next: the lowest with CLS0, or with none of those the next after the last one served, round-robin (03 R61). -/
def State.nextLane (u : State) (o : Outlet) (l : Nat) : Prop :=
  let c0 := fun m => u.fget F.LANECFG_CLS0 0 m = 1
  let last := (tget u.outlets ⟨0, 0⟩ o).last
  if c0 l then ∀ m k, u.canRelease o m k → c0 m → l ≤ m
  else (∀ m k, u.canRelease o m k → ¬c0 m) ∧
    if last < l then ∀ m k, u.canRelease o m k → last < m → l ≤ m else ∀ m k, u.canRelease o m k → m ≤ last ∧ l ≤ m

/-- The lane after the release of its HEAD in cycle `now`: HEAD is one more, the entry is free, one number more is owed to the source, and the gap timer starts where the next number is missing (03 R61 to R63). -/
def Lane.released (x : Lane) (now : Nat) : Lane :=
  let w := x.win.filter fun p => p.1 ≠ x.head
  let h := (x.head + 1) % 2 ^ 24
  { x with win := w, head := h, rel := x.rel + 1, relBeat := now / 8, held := false, skip := none, vwait := false
           gap := if (∃ p ∈ w, p.1 = h) ∨ w = [] then none else some now }

/-- The output has served lane l in this cycle. -/
def Served (u t : State) (o : Outlet) (l : Nat) : Prop :=
  tget t.outlets ⟨0, 0⟩ o = ⟨u.now + 1, if u.fget F.LANECFG_CLS0 0 l = 1 then (tget u.outlets ⟨0, 0⟩ o).last else l⟩ ∧
  ∀ p, p ≠ o → tget t.outlets ⟨0, 0⟩ p = tget u.outlets ⟨0, 0⟩ p

/-- The lane after an arrival with number q that is not HEAD: the token is in the window, and the gap timer runs while HEAD is missing (03 R60, R63). -/
def Lane.holding (x : Lane) (q : Nat) (k : Token) (now : Nat) : Lane :=
  { x with win := x.win ++ [(q, k)], gap := if (∃ p ∈ x.win, p.1 = x.head) then none else match x.gap with | some g => some g | none => some now }

/-- The queues that a lane configuration names as source and as sink are bound, or free again (03 R74). -/
def Bound (t : State) (v : Word) (b : Nat) : Prop :=
  (wbits v 26 2 = 2 → t.fget F.QCFG_LSRC (wbits v 28 6) (wbits v 34 8) = b) ∧ (wbits v 1 3 = 3 → t.fget F.QCFG_LSINK (wbits v 4 6) (wbits v 10 8) = b)

/-- What a lane's going ON or OFF may change. -/
def laneSwitch (l : Nat) (v : Word) : Changes :=
  { regs := (.LANECFG, 0, l) :: (.LANECNT, 0, l) :: (.CBFREE, 0, cfgSlice v) :: (if wbits v 26 2 = 2 then [(.QCFG, wbits v 28 6, wbits v 34 8)] else []) ++
      (if wbits v 1 3 = 3 then [(.QCFG, wbits v 4 6, wbits v 10 8)] else []),
    lanes := [l] }

/-! ### The stroke and the cut (04 R83 to R112) -/

/-- The grants of the first m shots of a bank to an activity, each counter at most 32 bits (04 R94, R96). -/
def CoxBank.granted (b : CoxBank) (m a : Nat) : Charge :=
  let l := (b.shots.take m).filter fun h => h.act = a
  let cap := fun n => min n (2 ^ 32 - 1)
  ⟨cap (l.map Activity.gFire).sum, cap (l.map Activity.gSlot).sum, cap (l.map Activity.gMemb).sum, cap (l.map Activity.gFlit).sum⟩

/-- Exactly the first m shots of a bank have START 0. -/
def CoxBank.opensAtZero (b : CoxBank) (m : Nat) : Prop :=
  m ≤ b.shots.length ∧ b.shots.length ≤ 256 ∧ (∀ h ∈ b.shots.take m, h.start = 0) ∧ ∀ h, b.shots[m]? = some h → h.start ≠ 0

/-- The registers and parts that an ordinary stroke boundary may change, beside the links on which blocks wait and the tiles' idle counts and open shots. -/
def boundaryKinds : List RegKind := [.ACTREM0, .ACTREM1, .ACTOVR, .COXSTAT, .SLATE, .STRKSTAT, .STALL_RPTS]

/-- An ordinary stroke boundary lies ahead: no activity overruns, no OLD routing bank drains, no site holds a count, and no cut and no disarm waits. -/
structure State.ordinary (u : State) : Prop where
  dev : u.dev ≠ .reset
  runs : ∀ d < 64, ∀ a < 64, u.overruns d a = false
  bank : u.bankIn 3 = none
  counts : ∀ p ∈ u.pcount, p.2.1 = 0
  cut : u.fget F.CUTTAKE_ARM 0 0 ≠ 1
  disarm : u.stroke.disarm = false

/-- What the checks of an arming or a cut grant when all pass (04 R106). -/
structure State.Armable (u : State) : Prop where
  banks : ∀ d < 64, u.fget F.COXSTAT_SHVALID d 0 = 1
  period : 40 ≤ (u.shadowBank 0).period ∧ (u.shadowBank 0).period ≤ 2000000
  inside : ∀ d < 64, ∀ h ∈ (u.shadowBank d).shots, h.start < (u.shadowBank 0).period ∧ h.start + h.len ≤ (u.shadowBank 0).period
  rising : ∀ d < 64, ∀ i g h, (u.shadowBank d).shots[i]? = some g → (u.shadowBank d).shots[i + 1]? = some h → g.start ≤ h.start
  valid : ∀ d < 64, ∀ h ∈ (u.shadowBank d).shots, ((u.shadowBank 0).act h.act).valid = true
  span : ∀ d < 64, ∀ h ∈ (u.shadowBank d).shots,
    let l := if h.len = 0 then (u.shadowBank 0).period - h.start else h.len
    h.gFire ≤ 32 * l ∧ h.gSlot ≤ 8 * l ∧ h.gMemb ≤ 32 * l ∧ h.gFlit ≤ 16 * l
  standing : ∀ a < 64, ∀ d < 64, ((u.shadowBank 0).act a).valid = true → ((u.shadowBank 0).act a).cls = 0 →
    (∃ p ∈ u.concerned, p.2.act = a ∧ p.2.tileset.testBit d = true) → ∃ h ∈ (u.shadowBank d).shots, h.act = a ∧ h.start = 0 ∧ h.len = 0
  population : ∀ d < 64, u.c0Pop d ≤ 8
  depth : ∀ a < 64, ((u.shadowBank 0).act a).valid = true → ((u.shadowBank 0).act a).cls = 0 →
    1 ≤ ((u.shadowBank 0).act a).depth ∧ ((u.shadowBank 0).act a).depth ≤ 16 ∧ ((u.shadowBank 0).act a).dl ≤ (u.shadowBank 0).period
  mode : ∀ l < 4096, (u.lane l).st ≠ .off → u.fget F.LANECFG_CLS0 0 l = 1 → u.fget F.LANECFG_SRCK 0 l = 0 → u.fget F.LANECFG_SRC 0 l < 32 →
    u.fget F.CLCFG_MODE 0 (u.fget F.LANECFG_SRC 0 l) ≠ 0
  pins : ∀ d < 64, (u.concerned.filter fun p => p.2.cls = 0 && p.2.tileset.testBit d).length ≤ 64
  classes : ∀ p ∈ u.concerned, ((u.shadowBank 0).act p.2.act).valid = true ∧ ((u.shadowBank 0).act p.2.act).cls = p.2.cls
  table : u.ctbaseSet = true ∧ u.fget F.CTBASE_BASE 0 0 * 2 ^ 21 + 2 ^ 21 ≤ u.dsize

end Sys2Proof.Machine
end

