-- ==== Sys2Proof/Safety/Links.lean ====
section
/-! DEFINITION. Terms of the claims about single register fields, links and their blocks and frames. -/
namespace Sys2Proof.Machine

/-! ### Single fields of a register -/

/-- One field of a register element has taken a value, and its other bits are as before. -/
def Sets (u t : State) (f : Fld) (a i v : Nat) : Prop := t.reg f.kind a i = wset (u.reg f.kind a i) f.lo f.len v

/-- One counter of a register element has gone up by k and stays at its greatest value (00 R5); its other bits are as before. -/
def Counts (u t : State) (f : Fld) (a i k : Nat) : Prop := Sets u t f a i (min (2 ^ f.len - 1) (u.fget f a i + k))

/-- Of a register element only the fields listed may differ. -/
def Leaves (u t : State) (k : RegKind) (a i : Nat) (fs : List Fld) : Prop := ∀ f ∈ (regSpec k).fields, f ∉ fs → t.fget f a i = u.fget f a i

/-! ### Links (09 R210 to R219; 11 R286 to R291) -/

/-- The status register of a link. -/
def lkStat (k : LinkId) : RegKind := if isFab k then .FLSTAT else .CLSTAT

/-- The first counter register of a link. -/
def lkCnt (k : LinkId) : RegKind := if isFab k then .FLCNT0 else .CLCNT0

/-- A block has been discarded (09 R211, R213): CRCERR counts from LOCK on, and an UP link that was taking data blocks takes none until a REPLAY and owes a NAK. -/
def Discarded (u t : State) (k : LinkId) : Prop :=
  if u.linkSt k < 2 then Only {} u t
  else
    Counts u t (lkF k F.CLCNT0_CRCERR F.FLCNT0_CRCERR) 0 (lkIx k) 1 ∧
    t.link k = (if u.linkSt k = 3 ∧ (u.link k).dropping = false then { u.link k with dropping := true, nakDue := true } else u.link k) ∧
    Only { regs := [(lkCnt k, 0, lkIx k)], links := [k] } u t

/-- A command that brings a control block (09 R212, R217): an invalid block is discarded, a valid one is ignored below the state `least`, and from there on it has its effect. -/
def BlockTaken (i : Instr) (z u : State) (k : LinkId) (least ctype : Nat) (named : List Nat) (b : List Byte) (eff : State → Prop) : Prop :=
  (blockOk ctype named b = false → Completes i z fun t => Discarded u t k) ∧
  (blockOk ctype named b = true → u.linkSt k < least → Completes i z fun t => Only {} u t) ∧
  (blockOk ctype named b = true → least ≤ u.linkSt k → Completes i z eff)

/-- The link after the loss of what it holds (09 R217). -/
def Link.emptied (x : Link) : Link := { Link.rst with pre := x.pre, dreqId := x.dreqId }

/-- A fabric link that enters or leaves UP pends the route source (11 R299); a loss pends its own (09 R215). -/
def linkPends (k : LinkId) (route lost : Bool) : Word := (if isFab k && route then 8 else 0) ||| (if lost then 16 else 0)

/-- A link has left its state for TRAIN after a loss (09 R215): it is emptied, LOSTF is set, LOSSES counts, and the sources pend. -/
structure LinkLost (u t : State) (k : LinkId) : Prop where
  st : t.linkSt k = 1
  lost : t.fget (lkF k F.CLSTAT_LOSTF F.FLSTAT_LOSTF) 0 (lkIx k) = 1
  losses : Counts u t (lkF k F.CLCNT0_LOSSES F.FLCNT0_LOSSES) 0 (lkIx k) 1
  held : isFab k = false → t.fget F.CLSTAT_HOLDING 0 (lkIx k) = 0 ∧ t.fget F.CLSTAT_PHOLD 0 (lkIx k) = 0
  miswire : isFab k = true → t.fget F.FLSTAT_MISWIRE 0 (lkIx k) = 0
  link : t.link k = (u.link k).emptied
  pends : t.reg .DPEND 0 0 = u.reg .DPEND 0 0 ||| linkPends k (decide (u.linkSt k = 3)) true
  stat : Leaves u t (lkStat k) 0 (lkIx k) [F.CLSTAT_STATE, F.CLSTAT_HOLDING, F.CLSTAT_PHOLD, F.CLSTAT_LOSTF, F.FLSTAT_STATE, F.FLSTAT_MISWIRE, F.FLSTAT_LOSTF]
  only : Only { regs := [(lkStat k, 0, lkIx k), (lkCnt k, 0, lkIx k), (.DPEND, 0, 0)], links := [k] } u t

/-! ### Catch frames (09 R213, R220 to R226) -/

/-- The next frame in order arrives on an UP catch link whose receive buffer is empty, not held, with nothing of a stroke boundary to issue first. -/
structure State.FrameNext (u : State) (l : Fin 32) (w : List Word) : Prop where
  up : u.linkSt (.catch_ l) = 3
  takes : (u.link (.catch_ l)).dropping = false
  inOrder : fSeq w = u.rxSeq (.catch_ l)
  empty : (u.link (.catch_ l)).rxq = [] ∧ (u.link (.catch_ l)).pre = []
  run : u.fget F.CLSTAT_HOLDING 0 l = 0
  shut : tget u.gwq [] (l.val / 4) = [] ∨ 16 ≤ (u.retq (cgRouter (l.val / 4)) true).length

/-- The link after a frame in order: an ACK is due with the 64th frame since the last (09 R213). -/
def Link.framed (x : Link) (now : Nat) : Link :=
  { x with rxCount := x.rxCount + 1, rxAt := if x.rxCount = 0 then now else x.rxAt, ackDue := x.ackDue || decide (64 ≤ x.rxCount + 1) }

/-- RXSEQ is one more after a frame in order (09 R213). -/
def RxAdvanced (u t : State) (k : LinkId) : Prop := Sets u t (lkF k F.CLSTAT_RXSEQ F.FLSTAT_RXSEQ) 0 (lkIx k) ((u.rxSeq k + 1) % 4096)

/-- A frame in order has been received on a link, and nothing else of the link has changed. -/
def FrameCounted (u t : State) (k : LinkId) : Prop := RxAdvanced u t k ∧ t.link k = (u.link k).framed u.now

/-- A token of a site's context for one of its destination fields (09 R224). -/
def State.siteToken (u : State) (i : Nat) (dst : Fld) (port : Nat) (val aux : Word) : Token :=
  ⟨mkTag (u.fget F.SITEW0_CTX 0 i) (u.fget dst 0 i / 16384) (u.fget dst 0 i % 16384) (u.fget F.SITEW1_ITERC 0 i) port (u.fget F.SITEW0_CLS 0 i) 0,
    mkDst 0xFFFF 0 0 0, val, aux⟩

/-! ### Fabric links and gateways (11 R288 to R298) -/

/-- The buffer that a token took on a fabric link is free, and a credit for its pair is owed (11 R289): `x` is what else has become of the link. -/
def CreditOwed (t : State) (x : LinkId → Link) (now : Nat) (via : Option (Nat × Nat)) : Prop :=
  match via with
  | none => True
  | some (l, p) =>
    let k := LinkId.fabric (Fin.ofNat 16 l)
    let y := t.link k
    y = { x k with owed := y.owed, owedAt := if ∀ e ∈ (x k).owed, e.2 = 0 then now else (x k).owedAt } ∧
    tget y.owed 0 p = tget (x k).owed 0 p + 1 ∧ ∀ q, q ≠ p → tget y.owed 0 q = tget (x k).owed 0 q

/-- The link whose buffer a token took. -/
def viaLinks (via : Option (Nat × Nat)) : List LinkId :=
  match via with
  | none => []
  | some (l, _) => [.fabric (Fin.ofNat 16 l)]

/-- e is the entry that routes a token at a gateway: that of its DEV in the bank that serves its take, the CURRENT one before the OLD one; a RET goes by the CURRENT bank and the device that stamped it (11 R294, R295, R298). -/
def State.entryFor (u : State) (k : FabTok) (e : Nat) : Prop :=
  if k.ret ≠ 0 then ∃ b, u.bankIn 2 = some b ∧ e = u.rtEntry b k.sdev
  else ∃ b, e = u.rtEntry b k.tok.dev ∧
    (u.bankIn 2 = some b ∧ u.serves b k.take = true ∨ u.bankIn 3 = some b ∧ u.serves b k.take = true ∧ ∃ c, u.bankIn 2 = some c ∧ u.serves c k.take = false)

/-- Why a token with this entry goes nowhere (11 R295): 2 no route, 1 the link is not UP, 3 no hops are left; 0 it goes. -/
def State.stopReason (u : State) (k : FabTok) (e : Nat) : Nat :=
  if bits e 4 1 = 0 then 2 else if u.fget F.FLSTAT_STATE 0 (bits e 0 4) ≠ 3 then 1 else if k.ret = 0 ∧ k.tok.hops = 0 then 3 else 0

/-- The mesh packet by which a fabric gateway sends a token on. -/
def State.fabPacket (u : State) (g : Nat) (k : FabTok) (dest : TokTo) : Packet :=
  mkPacket 0 (k.tok.cls + 1) (u.siteOf dest).1 (u.siteOf dest).2 (fgRouter g) true 1 (.fab { k with via := none } dest)

/-- A gateway has put a token on the mesh. -/
def FabOffered (u t : State) (g : Nat) (k : FabTok) (dest : TokTo) : Prop := Offered u t (fgRouter g) true (u.fabPacket g k dest)

/-- The fault token of a token that comes back to the device that stamped it (11 R298): code 0x11 to the tile that sent it. -/
def State.returnToken (u : State) (k : FabTok) : Ctl := .faultTok k.stile (u.mkFault k.tok.tag (some k.tok) 0x11 5 k.stile 0)

/-- The tokens that wait at the gateways: those of g are l, the others as before; nothing else of the fabric has changed. -/
def Gateways (u t : State) (g : Nat) (l : List FabTok) : Prop :=
  tget t.fgq [] g = l ∧ (∀ h, h ≠ g → tget t.fgq [] h = tget u.fgq [] h) ∧ t.fabHoldTo = u.fabHoldTo ∧ t.drainSeen = u.drainSeen

/-- The PTP servo has lost its lock (11 R303, 12 R306): LOCKED clears, LOSTF sets, the source pends, and the stroke's source counts as missed. -/
def PtpLost (u t : State) : Prop :=
  t.fget F.PTPSTAT_LOCKED 0 0 = 0 ∧ t.fget F.PTPSTAT_LOSTF 0 0 = 1 ∧ t.reg .DPEND 0 0 = u.reg .DPEND 0 0 ||| 1024 ∧ t.stroke.missed = 4 ∧ t.stroke.ptp.good = 0

end Sys2Proof.Machine
end

