-- ==== Sys2Proof/Safety/System.lean ====
section
/-! DEFINITION. Terms of the claims about banks, rushes, map-out and the service interface. -/
namespace Sys2Proof.Machine

/-! ### Degradation (14 R382) -/

/-- HRDY shows its level. -/
def State.Shown (u : State) : Prop := u.hostp.hrdy = u.hrdyLevel

/-- A bit of REPLREASON has been set (14 R382): bits 0, 1 and 4 degrade the device, and the first bit asks for a replacement with its source and SVC#. `pends`: what else pends in DPEND[0]. -/
def ReasonSet (u t : State) (b : Nat) (pends : Word := 0) : Prop :=
  let new := u.ak.replreason.testBit b = false
  let first := new ∧ u.ak.replreq = false
  (new → t.ak = { u.ak with replreason := u.ak.replreason + 2 ^ b, replreq := true } ∧ t.degraded = (u.degraded || b = 0 || b = 1 || b = 4)) ∧
  (¬new → t.ak = u.ak ∧ t.degraded = u.degraded) ∧
  (first → t.reg .DPEND 0 0 = u.reg .DPEND 0 0 ||| pends ||| 2048 ∧ t.out = u.out ++ [.pin "SVC#" false]) ∧
  (¬first → t.reg .DPEND 0 0 = u.reg .DPEND 0 0 ||| pends ∧ t.out = u.out)

/-- What that changes. -/
def reasonChanges : Changes := { regs := [(.DPEND, 0, 0)], parts := [.ak, .degraded, .out] }

/-! ### Rushes (10 R261 to R266) -/

/-- The borrow of a tile's rushes, or of the LPDDR4X's, is b, and their status shows it. -/
def Borrowed (u t : State) (q : Option TileId) (b : Borrow) : Prop :=
  match q with
  | some d => t.tile d = { u.tile d with borrow := some b } ∧ t.fget F.RUSHSTAT_PHASE d 0 = b.phase ∧ t.fget F.RUSHSTAT_BANK d 0 = b.region / 16 % 32 ∧ t.fget F.RUSHSTAT_PART d 0 = b.region % 16
  | none => t.drRush = some b ∧ t.fget F.RDSTAT_PHASE 0 0 = b.phase ∧ t.fget F.RDSTAT_REGION 0 0 = b.region % 65536

/-- What a change of a borrow changes. -/
def borrowChanges (q : Option TileId) : Changes :=
  match q with
  | some d => { regs := [(.RUSHSTAT, d, 0)], tiles := [d] }
  | none => { regs := [(.RDSTAT, 0, 0)], parts := [.rush] }

/-- WRITTEN of the unit's rushes. -/
def State.written (s : State) (q : Option TileId) : Nat :=
  match q with
  | some d => s.fget F.RUSHSTAT_WRITTEN d 0
  | none => s.fget F.RDSTAT_WRITTEN 0 0

/-- The unit's borrow. -/
def State.rushOf (s : State) (q : Option TileId) : Option Borrow := s.borrowOf (q.map fun d => d.val)

/-- k is the next region after the last one borrowed, in ascending order and wrapping round, that may be borrowed (10 R261). -/
def nextBorrow (last : Option Borrow) (size : Nat) (fits : Nat → Prop) (k : Nat) : Prop :=
  let first := match last with
    | some b => b.region + 1
    | none => 0
  let far := fun j => (j + size - first % size) % size
  k < size ∧ fits k ∧ ∀ j < size, fits j → far k ≤ far j

/-- May the rushes of tile d borrow a region: its bank is ON, changes nothing, and is no bank of class 0 (10 R261)? -/
def State.fitsTile (u : State) (d k : Nat) : Prop :=
  u.bankMode d (k / 16) = 0 ∧ (∀ e ∈ (u.tile d).bankTrans, e.bank ≠ k / 16) ∧ (u.activeBank d).c0banks.testBit (k / 16) = false

/-- The counter of an outcome of a borrow (10 R264, R265): 0 PASSES, 1 FAILS, 2 DISCARDS, 3 ABORTS. -/
def rushCounter (q : Option TileId) (k : Nat) : Fld :=
  match q, k with
  | some _, 0 => F.RUSHCNT_PASSES | some _, 1 => F.RUSHCNT_FAILS | some _, 2 => F.RUSHCNT_DISCARDS | some _, _ => F.RUSHCNT_ABORTS
  | none, 0 => F.RDCNT_PASSES | none, 1 => F.RDCNT_FAILS | none, 2 => F.RDCNT_DISCARDS | none, _ => F.RDCNT_ABORTS

/-! ### Bank power (10 R252 to R254) -/

/-- The cycles that a change of a bank's mode takes (10 R252): 8 to HOLD or OFF, 32 from HOLD to ON, 256 from OFF to ON. -/
def powerTime (frm dest : Nat) : Nat := if dest ≠ 0 then 8 else if frm = 1 then 32 else 256

/-- Only the mode of bank b changes in an image of BANKPWR. -/
def oneBank (old v : Word) (b : Nat) : Prop := wbits old (2 * b) 2 ≠ wbits v (2 * b) 2 ∧ ∀ c < 32, c ≠ b → wbits old (2 * c) 2 = wbits v (2 * c) 2

/-- The map-out of a channel has begun (10 R260, R265): a borrow of the LPDDR4X in COPY or TEST goes to BACK and is cut short. -/
def MapoutBegun (u t : State) (ch : Nat) : Prop :=
  t.fget F.DRSTAT_MOCH 0 0 = ch ∧ t.fget F.DRSTAT_MOST 0 0 = 1 ∧ t.fget F.DRSTAT_MOPTR 0 0 = 0 ∧ t.fget F.DRSTAT_DSIZE 0 0 = u.fget F.DRSTAT_DSIZE 0 0 ∧ Sets u t F.CHSTAT_STATE 0 ch 1 ∧ t.moveStart = u.now ∧
  (∀ b, u.drRush = some b → b.phase = 1 ∨ b.phase = 2 → Borrowed u t none { b with phase := 3, aborted := true }) ∧
  ((∀ b, u.drRush = some b → b.phase ≠ 1 ∧ b.phase ≠ 2) → t.drRush = u.drRush ∧ t.reg .RDSTAT 0 0 = u.reg .RDSTAT 0 0)

/-- What the beginning of a map-out changes. -/
def mapoutChanges (ch : Nat) : Changes := { regs := [(.DRSTAT, 0, 0), (.CHSTAT, 0, ch), (.RDSTAT, 0, 0)], parts := [.rush] }

end Sys2Proof.Machine
end

