-- ==== Sys2Proof/Safety/Mesh.lean ====
section
/-! DEFINITION. Terms of the claims about the mesh: grants, ports, return queues and fences. -/
namespace Sys2Proof.Machine

/-- Of two flits at a router's ports the first has waited longer, the lower port deciding between equals (11 R273). -/
def older (a b : Nat × Packet) : Prop := a.2.arr < b.2.arr ∨ a.2.arr = b.2.arr ∧ a.1 < b.1

/-- The class that the round robin serves at a position (11 R273). -/
def turnOf (k : Nat) : Nat := [1, 2, 1, 3, 1, 2, 1].getD (k % 7) 1

/-- The flit p at an input port wins the output by the order of 11 R273, and leaves its pointer at `ptr`: the first step that has a flit decides, and within the round robin the first class from the pointer on. -/
def State.flitWins (u : State) (net r out port : Nat) (p : Packet) (ptr : Nat) : Prop :=
  let l := u.grantable net r out
  let at_ := tget u.mesh.ptr 0 (net, r, out)
  (port, p) ∈ l ∧
  if u.grantStep p < 4 then
    ptr = at_ ∧ ∀ q ∈ l, q ≠ (port, p) → u.grantStep p < u.grantStep q.2 ∨ u.grantStep p = u.grantStep q.2 ∧ older (port, p) q
  else
    (∀ q ∈ l, u.grantStep q.2 = 4) ∧ ∃ k < 7, p.vc = turnOf (at_ + k) + 1 ∧ ptr = ((at_ + k) % 7 + 1) % 7 ∧
      (∀ j < k, ∀ q ∈ l, q.2.vc ≠ turnOf (at_ + j) + 1) ∧ ∀ q ∈ l, q.2.vc = p.vc → q ≠ (port, p) → older (port, p) q

/-- The tokens that fire units of a tile at a router keep because they found no credit: none. -/
def State.noneKept (u : State) (r : Nat) : Prop := ∀ d, u.tileAtRouter r = some d → (u.tile d).unitOut = []

/-- A granted flit has left its buffer (11 R273, R274): its packet holds the output's VC until its tail, the pointer and the cycle of the grant are kept, and the wait of a class 0 flit counts. -/
def FlitTaken (u t : State) (net r out port : Nat) (p : Packet) (ptr : Nat) : Prop :=
  tfind? t.mesh.vcl (net, r, out, p.vc) = (if p.idx + 1 = p.len then none else some (port, p.stamp)) ∧
  (∀ k, k ≠ (net, r, out, p.vc) → tfind? t.mesh.vcl k = tfind? u.mesh.vcl k) ∧
  tget t.mesh.ptr 0 (net, r, out) = ptr ∧ (∀ k, k ≠ (net, r, out) → tget t.mesh.ptr 0 k = tget u.mesh.ptr 0 k) ∧
  tfind? t.mesh.granted (net, r, out) = some (u.now, p.vc) ∧ (∀ k, k ≠ (net, r, out) → tfind? t.mesh.granted k = tfind? u.mesh.granted k) ∧
  t.fget F.RTCNT1_C0W2 0 r = (if p.vc = 1 then min 65535 (u.fget F.RTCNT1_C0W2 0 r + (u.now - p.arr - 1)) else u.fget F.RTCNT1_C0W2 0 r) ∧
  t.mesh = { u.mesh with buf := t.mesh.buf, ej := t.mesh.ej, vcl := t.mesh.vcl, ptr := t.mesh.ptr, granted := t.mesh.granted, lastCred := t.mesh.lastCred }

/-- The buffers of the mesh are those of u, but for what f says of some of them. -/
def Buffers (u t : State) (f : PortKey → Option (List Packet)) : Prop := ∀ k, t.buf k = (f k).getD (u.buf k)

/-- The fault token to the tile that sent a token that does not arrive (11 R278). -/
def State.lostToken (u : State) (k : Token) (stile code : Nat) : Ctl := .faultTok stile (u.mkFault k.tag (some k) code 5 stile 0)

/-- d is the logical tile that physical tile p holds. -/
def State.holder (u : State) (p d : Nat) : Prop := d < 64 ∧ u.physOf d = p ∧ ∀ e < d, u.physOf e ≠ p

/-- No substitution waits for the fence of physical tile p. -/
def State.noSubst (u : State) (p : Nat) : Prop := ∀ e ∈ u.riari.subs, ¬(e.2.fencing = true ∧ e.2.old = p)

end Sys2Proof.Machine
end

