-- ==== Sys2Proof/Safety/Control.lean ====
section
/-! DEFINITION. Terms of the claims about interrupts, halts and the power of tile domains. -/
namespace Sys2Proof.Machine

/-! ### Interrupts (12 R306 to R311) -/

/-- The core that a device source targets (12 R317). -/
def State.targetOf (u : State) (i : Nat) : Nat :=
  if u.fget F.DSRC_TCC 0 i = 1 then 64 + u.fget F.DSRC_TTILE 0 i % 4 else u.fget F.DSRC_TTILE 0 i

/-- Source i of a tile's controller can be delivered: it pends, is enabled and not delivered, and its thread can receive it (12 R309, R310). -/
def State.eligibleTile (u : State) (d i : Nat) : Prop :=
  i < 128 ∧ (u.reg .IPEND d (i / 64)).getLsbD (i % 64) = true ∧ (u.reg .IEN d (i / 64)).getLsbD (i % 64) = true ∧ (u.reg .IDLVD d (i / 64)).getLsbD (i % 64) = false ∧
  u.canReceive d (u.fget F.ISRC_TTHR d i) = true

/-- The same of the device controller. -/
def State.eligibleDev (u : State) (i : Nat) : Prop :=
  i < 512 ∧ (u.reg .DPEND 0 (i / 64)).getLsbD (i % 64) = true ∧ (u.reg .DEN 0 (i / 64)).getLsbD (i % 64) = true ∧ (u.reg .DDLVD 0 (i / 64)).getLsbD (i % 64) = false ∧
  u.canReceive (u.targetOf i) (u.fget F.DSRC_TTHR 0 i) = true

/-- A source with priority p and number i goes before one with q and j: by group, then sub-priority, then the lower number (12 R308, R309). -/
def before (split p i q j : Nat) : Prop :=
  q / 2 ^ split < p / 2 ^ split ∨ q / 2 ^ split = p / 2 ^ split ∧ (q % 2 ^ split < p % 2 ^ split ∨ q % 2 ^ split = p % 2 ^ split ∧ i < j)

/-- The latch image with an interrupt (12 R314): INT, DINT and ISRC. -/
def withInt (src : Nat) (dev : Bool) (v : Word) : Word := wset (wset (wset v 3 1 1) 4 1 (b2n dev)) 48 9 src

/-- A delivery of source i with a group pre-empts its thread: READY outside the handler, which is enabled, with a threshold below the group (12 R310). -/
def State.preempts (u : State) (c n grp : Nat) : Prop :=
  (u.thr c n).st = .ready ∧ u.fget F.THND_HEN c n = 1 ∧ (u.thr c n).inh = false ∧ u.fget F.TINT_PTHR c n < grp

/-- A delivery has acted on a thread that is not FREE: it asks for a pre-emption, or the latch has taken it (12 R310, R314). -/
def Delivered (u t : State) (c n src grp : Nat) (dev : Bool) : Prop :=
  (u.preempts c n grp → t.thr c n = { u.thr c n with preempt := true } ∧ t.reg .TEVT c n = u.reg .TEVT c n ∧ t.tile c = u.tile c) ∧
  (¬u.preempts c n grp → Latched u t c n (withInt src dev))

/-! ### Halts (13 R357) -/

/-- Thread n of core c has become HALTED for a reason, keeping its wait; a wake on its way is dropped from the ready list. -/
def Halted (u t : State) (c n reason : Nat) : Prop :=
  let x := u.thr c n
  let away := fun (l : List Task) => l.filter fun k => decide (k.kind ≠ .wake n)
  t.thr c n = { x with st := .halted, wasWait := decide (x.st = .wait), haltReq := 0, stepLeft := 0 } ∧
  t.tile c = { u.tile c with ready := away (u.tile c).ready, c0q := away (u.tile c).c0q } ∧ t.fget F.DBGT_HREASON c n = reason

/-- What a halt changes. -/
def haltChanges (c n : Nat) : Changes := { regs := [(.DBGT, c, n)], threads := [(c, n)], tiles := [c] }

/-! ### Power of tile domains (12 R318, R319; 11 R281 to R284) -/

/-- A transition of a tile's domain is under way, or none, and TRANS shows it. -/
def Powered (u t : State) (d : Nat) (p : Option PowerTrans) : Prop :=
  t.tile d = { u.tile d with power := p } ∧ t.fget F.TPWR_TRANS 0 d = b2n p.isSome

/-- The wake of a domain that is NAP or OFF: 192 cycles from NAP, 32,000 from OFF (12 R318). -/
def State.wakeTrans (u : State) (d : Nat) (thenOff : Bool) : PowerTrans := ⟨0, some (u.now + if u.fget F.TPWR_STATE 0 d = 2 then 192 else 32000), none, thenOff⟩

/-- The fence of a physical tile has been broadcast (11 R282): its router shows DRAINING, a notice is on its way to every router, and no marker is counted. -/
def FenceBegun (u t : State) (p : Nat) : Prop :=
  Sets u t F.RTCTL_FENCE 0 (routerOfPhys p) 1 ∧ t.ctl = u.ctl ++ (List.range 72).map (fun r => .fence p r) ∧ t.mesh.fencing = u.mesh.fencing ++ [p] ∧
  (∀ e, tget t.mesh.marks 0 e = if e = (p, 0) ∨ e = (p, 1) then 0 else tget u.mesh.marks 0 e) ∧ t.mesh = { u.mesh with fencing := t.mesh.fencing, marks := t.mesh.marks }

/-- TPWR after a write: REQ and IDLEEN as written, REFUSED cleared by a 1; STATE as before. -/
def PowerAsked (u t : State) (d : Nat) (v : Word) : Prop :=
  t.fget F.TPWR_REQ 0 d = wbits v 0 2 ∧ t.fget F.TPWR_IDLEEN 0 d = wbits v 5 1 ∧ t.fget F.TPWR_STATE 0 d = u.fget F.TPWR_STATE 0 d ∧
  t.fget F.TPWR_REFUSED 0 d = if wbits v 6 1 = 1 then 0 else u.fget F.TPWR_REFUSED 0 d

/-- What refuses REQ = OFF (12 R319): a thread that is not FREE, a context, a lock or waiter, a lane or a queue of the tile. -/
def State.busyTile (u : State) (d : Nat) : Prop :=
  (∃ n < 16, (u.thr d n).st ≠ .free) ∨ (∃ c ∈ u.ctxs, c.2.st ≠ 0 ∧ c.2.tileset.testBit d = true) ∨ (∃ c ∈ (u.tile d).cells, c.2.val ≠ 0) ∨ (u.tile d).waiters ≠ [] ∨
  (∃ l ∈ u.lanes, l.2.st ≠ .off ∧ (u.laneTile l.1 = some d ∨ u.laneFrom d l.1 = true)) ∨ ∃ q < 256, u.fget F.QCFG_EN d q = 1

end Sys2Proof.Machine
end

