-- ==== Sys2Proof/Safety/Server.lean ====
section
/-! DEFINITION. Terms of the claims about Aklofy: its messages, sessions, requests and commands, and the device's own events. -/
namespace Sys2Proof.Machine
open Sys2Proof (AkMsg Instr)

/-! ### Messages (13 R329, R330, R333, R334) -/

/-- The header and payload of a client's message (13 R330). -/
def clientBytes (mt flags sid seq : Nat) (p : List Byte) : List Byte :=
  toBytes 2 0x0102 ++ toBytes 1 mt ++ toBytes 1 flags ++ toBytes 4 sid ++ toBytes 4 seq ++ toBytes 2 p.length ++ toBytes 2 0 ++ p

/-- A message in a session, with its MAC (13 R334). -/
def Session.says (x : Session) (mt flags seq : Nat) (p : List Byte) : List Byte :=
  let b := clientBytes mt flags x.sid seq p
  b ++ akMac x.key b

/-- The SEQ of the next request that a session accepts (13 R332). -/
def Session.next (x : Session) : Nat := (x.lastSeq + 1) % 2 ^ 32

/-- Aklofy serves, and no session's time is over (13 R333, R335). -/
structure State.Serves (u : State) : Prop where
  serving : u.serving = true
  alive : ∀ y ∈ u.ak.sessions, u.authOver y = false ∧ u.silent y = false

/-- A datagram is a message of session x, of type mt with SEQ seq and payload p, that R329 and R334 let through. -/
structure State.Hears (u : State) (m : AkMsg) (x : Session) (mt seq : Nat) (p : List Byte) : Prop where
  serves : u.Serves
  here : u.session? x.sid = some x
  alone : ∀ y ∈ u.ak.sessions, y.sid = x.sid → y = x
  sid : x.sid < 2 ^ 32
  said : ∃ f < 2, m.bytes = x.says mt f seq p
  seq : seq < 2 ^ 32
  len : p.length ≤ 1440
  opened : x.opened = true ∨ mt = 3 ∨ mt = 4

/-- The REPLY of a session to SEQ seq (13 R331): an abort code, or 0 and data. -/
def Session.replies (x : Session) (seq code : Nat) (data : List Byte) : List Byte := x.frame 0x7F seq (toBytes 2 code ++ toBytes 2 0 ++ data)

/-- What leaves to the sender of a message. -/
def AkMsg.back (m : AkMsg) (b : List Byte) : Out := .aklofy m.port m.ip m.udp b

/-- A message of session x with SEQ seq has been answered with a code and data; the reply is kept, and nothing else of Aklofy has changed but `g` in the session and `k` beside the sessions. -/
def Replied (u t : State) (m : AkMsg) (x : Session) (seq code : Nat) (data : List Byte) (g : Session → Session := id) (k : AkState := u.ak) : Prop :=
  t.ak = { k with sessions := u.ak.sessions.map fun y => if y.sid = x.sid then { g y with lastMsg := u.now, lastSeq := seq, reply := x.replies seq code data } else y } ∧
  t.out = u.out ++ [AkMsg.back m (x.replies seq code data)]

/-- What a reply changes. -/
def replyChanges : Changes := { parts := [.ak, .out] }

/-- A message has been answered with an abort code, which ends the transfer of the session (13 R336). -/
def Aborted (u t : State) (m : AkMsg) (x : Session) (code : Nat) : Prop :=
  Replied u t m x x.next code [] (fun y => { y with xfer := none }) ∧ Only replyChanges u t

/-- An event: its type and two arguments. -/
abbrev Event := Nat × Nat × Nat

/-- A message of an open session has been answered after some events: the REPLY is the last that left, it is kept, and the record of each event that the session's mask enables pends in it, in order (13 R332, R348). -/
structure AnsweredWith (u t : State) (m : AkMsg) (x : Session) (code : Nat) (data : List Byte) (evs : List Event) : Prop where
  out : ∃ l, t.out = u.out ++ l ++ [AkMsg.back m (x.replies x.next code data)]
  rest : t.ak = { u.ak with sessions := t.ak.sessions, evlost := t.ak.evlost, replreq := t.ak.replreq, replreason := t.ak.replreason }
  kept : x.opened = true → ∃ y ∈ t.ak.sessions, y.sid = x.sid ∧ y.lastMsg = u.now ∧ y.lastSeq = x.next ∧ y.reply = x.replies x.next code data ∧
    (x.recs.length + evs.length ≤ 64 →
      y.recs.map (fun e => (e.typ, e.arg0, e.arg1)) = x.recs.map (fun e => (e.typ, e.arg0, e.arg1)) ++ evs.filter fun e => maskOn x.mask e.1)

/-- What events may change: Aklofy, the free values of their SEQ, and the host event ring. -/
def eventChanges : Changes := { regs := [(.RTAIL, 0, 1)], parts := [.ak, .out, .free, .hostp] }

/-! ### The rows that are messages -/

/-- The row is that of a message of type mt. -/
def SessionRow (f : Nat → AkMsg → Instr) (mt : Nat) : Prop :=
  (f, mt) ∈ [(.auth, 0x03), (.close, 0x04), (.hback, 0x41), (.evack, 0x31), (.read, 0x10), (.write, 0x11), (.dopen, 0x12), (.seg, 0x13)]

/-- The row is that of the command with a code. -/
def CommandRow (f : Nat → AkMsg → Instr) (code : Nat) : Prop :=
  (f, code) ∈ [(.reset, 0x0001), (.arm, 0x0010), (.run, 0x0011), (.disarm, 0x0012), (.cut, 0x0013), (.evsub, 0x0030), (.verify, 0x0100), (.unstage, 0x0101),
    (.fwact, 0x0110), (.fwcommit, 0x0111), (.subst, 0x0120), (.subcan, 0x0121), (.attest, 0x0130), (.retrain, 0x0140)]

/-- The commands (13 R341, 14 R370): code, number of arguments, privilege, and the states in which each is legal. -/
def commandTable : List (Nat × Nat × Nat × List DevState) :=
  [(0x0001, 0, 1, [.standby, .armed, .running, .draining, .fault]), (0x0010, 0, 0, [.standby]), (0x0011, 1, 0, [.armed]), (0x0012, 0, 0, [.armed, .running]),
   (0x0013, 1, 1, [.standby, .armed, .running]), (0x0030, 1, 0, [.standby, .armed, .running, .draining, .fault]),
   (0x0100, 2, 1, [.standby, .armed, .running, .fault]), (0x0101, 1, 1, [.standby, .armed, .running]), (0x0110, 0, 1, [.standby, .armed, .running]),
   (0x0111, 0, 1, [.standby, .armed, .running, .fault]), (0x0120, 2, 1, [.standby, .armed, .running]), (0x0121, 1, 1, [.standby, .armed, .running]),
   (0x0130, 1, 0, [.standby, .armed, .running, .draining, .fault]), (0x0140, 1, 1, [.standby, .armed, .running])]

/-- The payload of a CMD message (13 R331). -/
def cmdBytes (code : Nat) (args : List Nat) : List Byte := toBytes 2 code ++ toBytes 2 0 ++ args.flatMap (toBytes 8)

/-- Session x sends the command with arguments, at its privilege and in a state in which it is legal. -/
structure State.Commands (u : State) (m : AkMsg) (x : Session) (code : Nat) (args : List Nat) : Prop where
  hears : u.Hears m x 0x20 x.next (cmdBytes code args)
  fits : ∀ a ∈ args, a < 2 ^ 64
  legal : ∀ r ∈ commandTable, r.1 = code → r.2.2.1 ≤ x.level ∧ u.dev ∈ r.2.2.2

/-! ### Sessions -/

/-- A session is no longer there; the others are. -/
def Closed (u t : State) (sid : Nat) : Prop := t.ak = { u.ak with sessions := u.ak.sessions.filter fun y => y.sid ≠ sid }

/-- Does AUTH open session x: the credential of the slot, at the level asked for or above, has signed the challenge (13 R333)? -/
def State.Signed (u : State) (x : Session) (p : List Byte) : Prop :=
  let slot := imgWord p 0 1
  let digest := Config.sha384 (x.chal ++ x.nc)
  let c := u.cred (slot - 1)
  p.length = 97 ∧
  (slot = 0 ∧ Config.verifyHashed (toBytes 48 Config.vhe.toNat) digest (p.drop 1) = true ∨
    0 < slot ∧ slot ≤ 8 ∧ ofBytes c ≠ 0 ∧ x.level ≤ imgWord c 0 1 ∧ Config.verifyHashed (c.drop 1) digest (p.drop 1) = true)

/-- The session that OPEN with payload p begins, from the free values of this moment (13 R333). -/
structure Challenged (u : State) (m : AkMsg) (p : List Byte) (x : Session) : Prop where
  sid : x.sid = u.ak.nextSid
  client : x.port = m.port.val ∧ x.src = m.ip ∧ x.udp = m.udp
  level : x.level = imgWord p 0 1
  closed : x.opened = false
  nc : x.nc = (p.drop 98).take 32
  chal : x.chal.length = 225 ∧ x.chal.take 97 = toBytes 97 (Config.ephKey u.freeCtr).toNat ∧
    x.chal.drop 129 = toBytes 96 (Config.signIdentity u.freeCtr (Config.sha384 (p ++ x.chal.take 129))).toNat
  key : x.key = toBytes 48 (Config.hkdf384 (x.nc ++ (x.chal.drop 97).take 32) (toBytes 48 (Config.ecdh u.freeCtr ((p.drop 1).take 97)).toNat) (ascii "AKLOFY1.2")).toNat
  times : x.start = u.now ∧ x.lastMsg = u.now ∧ x.hbAt = u.now
  fresh : x.lastSeq = 0 ∧ x.reply = [] ∧ x.mask = BitVec.allOnes 64 ∧ x.eseq = 0 ∧ x.recs = [] ∧ x.lost = 0 ∧ x.xfer = none

/-! ### RESET (15 R394; 13 R339; 12 R326; 14 R360, R369) -/

/-- The device has entered RESET: `first` has left it before, then the pins follow; TEMPSTAT, UPDSTAT and what the cause of the reset changes beside are said apart. -/
structure InReset (u t : State) (first : List Out) : Prop where
  dev : t.dev = .reset
  now : t.now = 0
  queue : t.pending = u.pending
  free : t.freeCtr = u.freeCtr
  regs : ∀ k a i, k ≠ .TEMPSTAT → k ≠ .UPDSTAT → k ≠ .MONO → t.reg k a i = regReset k a i
  mono : ∀ a i, t.reg .MONO a i = u.reg .MONO a i
  slots : t.fget F.UPDSTAT_ACTSLOT 0 0 = u.fget F.UPDSTAT_ACTSLOT 0 0 ∧ t.fget F.UPDSTAT_PREF 0 0 = u.fget F.UPDSTAT_PREF 0 0
  threads : ∀ c n, t.thr c n = Thread.rst
  tiles : ∀ d, t.tile d = { Tile.rst with cells := (t.tile d).cells }
  lanes : ∀ l, t.lane l = Lane.rst
  ctxs : ∀ c, t.ctx c = Ctx.rst
  links : ∀ k, t.link k = Link.rst
  riari : t.riari = { Riari.rst with slots := u.riari.slots, trial := u.riari.trial, lmsNext := u.riari.lmsRec, lmsRec := u.riari.lmsRec, retired := u.riari.retired, mapped := u.riari.mapped }
  ak : t.ak = { AkState.rst with name := u.ak.name, replreq := t.ak.replreq, replreason := t.ak.replreason }
  empty : t.stroke = Stroke.rst ∧ t.mesh = Mesh.rst ∧ t.ctl = [] ∧ t.bankReqs = [] ∧ t.drq = [] ∧ t.mbxq = [] ∧ t.fireMem = [] ∧ t.winq = [] ∧ t.pushq = [] ∧ t.fgq = [] ∧ t.gwq = []
  out : t.out = u.out ++ first ++ (if u.ak.replreq then [.pin "SVC#" true] else []) ++ [.pin "STROKE_OUT" false] ++ (if u.hostp.hrdy then [.pin "HRDY" false] else [])

/-! ### Live update (14 R362 to R383) -/

/-- The event UPDATE of an image (14 R383): its phase, KIND and VERSION, and a fault code. -/
def updateOf (phase kind version : Nat) (code : Nat := 0) : Event := (64, phase + kind * 256 + code * 65536, version)

/-- HRDY follows its level: what leaves when it changes (13 R353). -/
def hrdyMoves (u t : State) : List Out := if u.hostp.hrdy = t.hrdyLevel then [] else [.pin "HRDY" t.hrdyLevel]

/-- The abort code of a check of a container (14 R371). -/
def State.checkAbort (u : State) (c : Nat) : Nat :=
  if c = 1 then 0x0301 else if c = 2 then 0x0302 else if c = 3 then 0x0601 else if c = 4 then 0x0302 else if u.cutArmed then 0x0402 else 0x0401

/-- What the checks of a container grant when all pass (14 R371). -/
structure State.Container (u : State) (a len : Nat) : Prop where
  place : a % 8 = 0 ∧ a + len ≤ u.dsize
  magic : ofBytes (readBytes u.mem a 4) = 0x4C454552
  kind : 1 ≤ (u.readBox a).img.kind ∧ (u.readBox a).img.kind ≤ 4
  len : len = 128 + (u.readBox a).plen + 96 + (u.readBox a).lmslen
  hash : toBytes 48 (Config.sha384 (u.readBox a).img.payload).toNat = (u.readBox a).img.phash
  signed : Config.verifyOwnerEc (Config.sha384 (u.readBox a).signed) (u.readBox a).esig = true ∧ Config.verifyOwnerHss (u.readBox a).signed (u.readBox a).hsig = true
  rollback : u.fget F.MONO_VALUE 0 ((u.readBox a).img.kind - 1) ≤ (u.readBox a).img.version
  cut : u.fget F.CUTTAKE_ARM 0 0 ≠ 1 ∧ u.cut.committed = false

/-- Where a verified image is staged (14 R372 to R374). -/
def ImageStaged (u t : State) (a len : Nat) (m : Image) : Prop :=
  tfind? t.riari.staged m.kind = some m ∧
  (m.kind = 1 → t.fget F.UPDSTAT_FWSTG 0 0 = 1 ∧ tfind? t.riari.slots u.fwSlot = some m ∧ t.riari.verified = some u.fwSlot) ∧
  (m.kind = 2 → t.fget F.UPDSTAT_RLSTG 0 0 = 1 ∧ t.riari.reelAt = some (a, len)) ∧
  (m.kind = 3 → t.fget F.DTSTAT_SHVALID 0 0 = 1 ∧ t.dtShadow = m.payload ∧ t.dtActive = u.dtActive) ∧
  (m.kind = 4 → ∀ d < 64, t.fget F.COXSTAT_SHVALID d 0 = 1 ∧ t.shadowBank d = sbBank m.payload d ∧ t.activeBank d = u.activeBank d)

/-- A tile's map entry and its spare are as a pending substitution leaves them (01 R17, R18; 14 R377). -/
def Pending (u t : State) (l n : Nat) (m : Subst) : Prop :=
  t.fget F.LTMAP_NEXT 0 l = n ∧ t.fget F.LTMAP_PEND 0 l = 1 ∧ t.fget F.LTMAP_PHYS 0 l = u.fget F.LTMAP_PHYS 0 l ∧ t.fget F.PTSTAT_STATE 0 n = 2 ∧
  tfind? t.riari.subs l = some m ∧ (∀ j, j ≠ l → tfind? t.riari.subs j = tfind? u.riari.subs j) ∧ t.riari = { u.riari with subs := t.riari.subs }

/-- What that changes. -/
def pendingChanges (l n : Nat) : Changes := { regs := [(.LTMAP, 0, l), (.PTSTAT, 0, n)], parts := [.riari] }

end Sys2Proof.Machine
end

