-- ==== Sys2Proof/Certificates/Slice0/Obligations.lean ====
section
/-! DEFINITION. The statements about the block, for the provers. -/
section
open Sys2Proof Sys2Proof.Machine

/-! ### Strand instructions -/

/-- 06 R141, R151, R152 and 07 R171 to R175: each integer, logic, shift, compare, extension and counting instruction of a thread that takes the slot completes with the result and the flags of the table, and leaves everything else. -/
def Obligations.IntegerInstructionsGiveTheirResults : Prop :=
  ∀ f op, (f, op) ∈ intRows → ∀ (z : State) (dt : Nat) (c : CoreId) (n : ThreadId) (o : Ins) (r : IRes),
    let u := z.advance dt
    let x := u.thr c n
    Takes u c n o → o.op = op → o.intResult x = some r → r.fault = none → ((x.afterInt o r).stepPc o.pc (o.pc + o.len)).pc ≤ 16383 →
    ∃ t, exec (f dt c n) z = .next t ∧ InSequence u t c n o (x.afterInt o r)

/-- 06 R140, R143, R151, R152, R154, R158 and 09 R234, R235: each instruction whose effect is one word in RD completes with that word. 06 R146, R151: MULU, MULS, MACU, MACS and MTPP leave the product, the accumulated sum or their operands in PH and PL, and write nothing else of the thread. -/
def Obligations.WordAndProductInstructionsGiveTheirResults : Prop :=
  (∀ f op, (f, op) ∈ wordRows → ∀ (z : State) (dt : Nat) (c : CoreId) (n : ThreadId) (o : Ins) (v : Word),
    let u := z.advance dt
    let y := (u.thr c n).setW (iRD o.w) v
    Takes u c n o → o.op = op → o.wordResult u c n (u.thr c n) = some v → (y.stepPc o.pc (o.pc + o.len)).pc ≤ 16383 →
    ∃ t, exec (f dt c n) z = .next t ∧ InSequence u t c n o y) ∧
  (∀ f op, (f, op) ∈ productRows → ∀ (z : State) (dt : Nat) (c : CoreId) (n : ThreadId) (o : Ins),
    let u := z.advance dt
    let x := u.thr c n
    let y : Thread := { x with ph := (o.product x).extractLsb' 64 64, pl := (o.product x).extractLsb' 0 64 }
    Takes u c n o → o.op = op → (y.stepPc o.pc (o.pc + o.len)).pc ≤ 16383 →
    ∃ t, exec (f dt c n) z = .next t ∧ InSequence u t c n o y)

/-- 06 R153: the division instructions do what the pseudocode gives. 06 R153 and 07 R176: the whole sequence DSET, DSTEP 64 or 32 times, DFIN divides: the quotient truncates toward zero, the remainder takes the sign of the dividend, unsigned division is that of naturals, and division by 0 and the one overflowing quotient are told by DZ and V. -/
def Obligations.DivisionStepsAndDivides : Prop :=
  (∀ f op, (f, op) ∈ divisionRows → ∀ (z : State) (dt : Nat) (c : CoreId) (n : ThreadId) (o : Ins) (y : Thread),
    let u := z.advance dt
    Takes u c n o → o.op = op → o.divided (u.thr c n) = some y → (y.stepPc o.pc (o.pc + o.len)).pc ≤ 16383 →
    ∃ t, exec (f dt c n) z = .next t ∧ InSequence u t c n o y) ∧
  (∀ a b fl : Word,
    (b ≠ 0 → (divSeq 64 64 64 true a b fl).rd = a.sdiv b ∧ (divSeq 64 64 64 true a b fl).ph = a.srem b ∧
      (divSeq 64 64 64 false a b fl).rd = a / b ∧ (divSeq 64 64 64 false a b fl).ph = a % b) ∧
    (b.setWidth 32 ≠ 0#32 → (divSeq 32 32 32 true a b fl).rd = ((a.setWidth 32).sdiv (b.setWidth 32)).signExtend 64 ∧
      (divSeq 32 32 32 true a b fl).ph = ((a.setWidth 32).srem (b.setWidth 32)).signExtend 64 ∧
      (divSeq 32 32 32 false a b fl).rd = (a.setWidth 32 / b.setWidth 32).signExtend 64 ∧
      (divSeq 32 32 32 false a b fl).ph = (a.setWidth 32 % b.setWidth 32).signExtend 64) ∧
    (flDZ (divSeq 64 64 64 true a b fl).fl = decide (b = 0)) ∧
    (flV (divSeq 64 64 64 true a b fl).fl = (decide (b = 0) || decide (a = BitVec.intMin 64 ∧ b = BitVec.allOnes 64))))

/-- 06 R148, R150, R156: a branch that is not taken completes in sequence; a taken one, JAL and JR continue at the target, end the loops that the target leaves, and let the thread issue again 3 cycles later. -/
def Obligations.BranchesGoToTheirTargets : Prop :=
  ∀ f op, (f, op) ∈ branchRows → ∀ (z : State) (dt : Nat) (c : CoreId) (n : ThreadId) (o : Ins) (y : Thread),
    let u := z.advance dt
    Takes u c n o → o.op = op →
    (o.branch (u.thr c n) = some (y, none) → (y.stepPc o.pc (o.pc + o.len)).pc ≤ 16383 →
      ∃ t, exec (f dt c n) z = .next t ∧ InSequence u t c n o y ∧ (t.thr c n).readyAt = u.now + (if (u.thr c n).ct then 3 else 1)) ∧
    (∀ p, o.branch (u.thr c n) = some (y, some p) →
      ∃ t, exec (f dt c n) z = .next t ∧ Issued u t c n (y.jumpTo p) {} ∧ (t.thr c n).readyAt = u.now + 3)

/-- 06 R149, R150: LOOP sets its level, and with a count of 0 continues after the end of the body. 06 R149: when an instruction at p completes outside the handler, the levels that end at p count down from level 3: each that reaches 0 falls through to the next lower, and the first that does not continues the thread at its start. -/
def Obligations.LoopsStartCountAndUnwind : Prop :=
  (∀ (z : State) (dt : Nat) (c : CoreId) (n : ThreadId) (o : Ins),
    let u := z.advance dt
    let x := u.thr c n
    Takes u c n o → o.op = 0x65 → o.loopOk x = true →
    ((o.loopOf x).2 ≠ 0 → ((o.loopSet x).stepPc o.pc (o.pc + 1)).pc ≤ 16383 →
      ∃ t, exec (.loop dt c n) z = .next t ∧ InSequence u t c n o (o.loopSet x)) ∧
    ((o.loopOf x).2 = 0 → (o.loopOf x).1 < 16383 →
      ∃ t, exec (.loop dt c n) z = .next t ∧ Issued u t c n { o.loopSet x with pc := (o.loopOf x).1 + 1 } {})) ∧
  (∀ (x : Thread) (p q : Nat), x.inh = false →
    (∀ l < 4, (∀ k < 4, l < k → ¬(tget x.lc 0 k ≠ 0 ∧ tget x.le 0 k = p ∧ 1 < tget x.lc 0 k)) → 1 < tget x.lc 0 l → tget x.le 0 l = p →
      (x.stepPc p q).pc = tget x.ls 0 l ∧ tget (x.stepPc p q).lc 0 l = tget x.lc 0 l - 1 ∧
      (∀ k < 4, l < k → tget (x.stepPc p q).lc 0 k = if tget x.le 0 k = p then 0 else tget x.lc 0 k) ∧
      (∀ k < l, tget (x.stepPc p q).lc 0 k = tget x.lc 0 k)) ∧
    ((∀ l < 4, tget x.le 0 l = p → tget x.lc 0 l ≤ 1) →
      (x.stepPc p q).pc = q ∧ ∀ k < 4, tget (x.stepPc p q).lc 0 k = if tget x.le 0 k = p then 0 else tget x.lc 0 k))

/-- 06 R140, R162, R163: NOP has no effect; a FENCE completes only once the accesses that its kind names have been performed; MTSR writes its register; RETH leaves the handler for EPC or the instruction after it. -/
def Obligations.SystemInstructionsComplete : Prop :=
  ∀ (z : State) (dt : Nat) (c : CoreId) (n : ThreadId) (o : Ins),
    let u := z.advance dt
    let x := u.thr c n
    Takes u c n o →
    (o.op = 0xCA → (x.stepPc o.pc (o.pc + 1)).pc ≤ 16383 → ∃ t, exec (.nop dt (.strand c n)) z = .next t ∧ InSequence u t c n o x) ∧
    (o.op = 0xC0 → iAM o.w < 3 → (x.stepPc o.pc (o.pc + 1)).pc ≤ 16383 →
      (iAM o.w ≠ 2 → x.outst = 0) ∧ ∃ t, exec (.fence dt c n) z = .next t ∧ InSequence u t c n o x) ∧
    (∀ y, o.op = 0xC8 → iIMM o.w < 256 → x.withSreg (iIMM o.w) (o.a x) = some y → (y.stepPc o.pc (o.pc + 1)).pc ≤ 16383 →
      ∃ t, exec (.mtsr dt c n) z = .next t ∧ InSequence u t c n o y) ∧
    (o.op = 0xC9 → iIMM o.w < 2 → x.inh = true → u.fget F.TEPC_PCX c n ≠ 1 →
      let e := u.fget F.TEPC_EPC c n
      let p := if iIMM o.w = 0 then e else e + u.insLen c e
      p ≤ 16383 → ∃ t, exec (.reth dt c n) z = .next t ∧ Issued u t c n { x with inh := false, pc := p } {})

/-- 06 R157 and 07 R181: a floating-point instruction none of whose exceptions is enabled to trap completes with its result, and the exceptions that it raised join the sticky flags. -/
def Obligations.FloatingPointInstructionsComplete : Prop :=
  ∀ f op, (f, op) ∈ fpRows → ∀ (z : State) (dt : Nat) (c : CoreId) (n : ThreadId) (o : Ins) (r : FRes),
    let u := z.advance dt
    let x := u.thr c n
    let y := x.afterFp op (iRD o.w) r
    Takes u c n o → o.op = op → o.fpResult x = some r → (∀ k < 5, ¬(r.fl.testBit k = true ∧ (flEn x.fl).testBit k = true)) →
    (y.stepPc o.pc (o.pc + 1)).pc ≤ 16383 →
    ∃ t, exec (f dt c n) z = .next t ∧ InSequence u t c n o y

/-- 06 R143, R144, R154; 10 R246 to R249: a load, a store or an atomic of a thread to memory that it reaches without the mesh writes its base back and puts its parts at the banks, the memory controller or the mailbox; the destination of a load is not written yet. -/
def Obligations.MemoryInstructionsAskForTheirAccess : Prop :=
  ∀ f op, (f, op) ∈ memoryRows → ∀ (z : State) (dt : Nat) (c : CoreId) (n : ThreadId) (o : Ins) (k : Access),
    let u := z.advance dt
    let y := k.after u c n o.pc
    Takes u c n o → o.op = op → o.access (u.thr c n) c = some k → u.thrFault c n k.addr k.size k.op = none → u.near (reqTile (.thread c n)) k.addr = true →
    (y.stepPc o.pc (o.pc + o.len)).pc ≤ 16383 →
    ∃ t, exec (f dt c n) z = .next t ∧ InSequence u t c n o y { parts := [.stamp, .banks, .dram, .mailboxQ] } ∧ Asked u t (k.req u c n)

/-! ### Threads, traps and events -/

/-- 05 R123, R124 and 06 R156: FORK takes the lowest-numbered FREE context, which starts at the target with its argument in w1 and what it has from its parent; with no context free it answers all ones when S is 1, and waits otherwise. -/
def Obligations.ForkTakesAContextOrWaits : Prop :=
  ∀ (z : State) (dt : Nat) (c : CoreId) (n : ThreadId) (o : Ins),
    let u := z.advance dt
    let x := u.thr c n
    Takes u c n o → o.op = 0x66 → (o.a x).toNat ≤ 16383 →
    (∀ k : ThreadId, (u.thr c k).st = .free → (∀ j < k.val, (u.thr c j).st ≠ .free) →
      let y := ({ x with jcnt := x.jcnt + 1 } : Thread).setW (iRD o.w) (wd k)
      (y.stepPc o.pc (o.pc + o.len)).pc ≤ 16383 →
      Completes (.fork dt c n) z fun t => InSequence u t c n o y { regs := [(.THND, c, k)], threads := [(c, k)] } ∧
        t.thr c k = childOf x n (o.a x).toNat (o.b x) (u.thr c k).lends u.now ∧ t.reg .THND c k = u.reg .THND c n) ∧
    ((∀ k < 16, (u.thr c k).st ≠ .free) →
      (let y := x.setW (iRD o.w) (BitVec.allOnes 64)
       o.s = true → (y.stepPc o.pc (o.pc + o.len)).pc ≤ 16383 → Completes (.fork dt c n) z fun t => InSequence u t c n o y) ∧
      (o.s = false → Completes (.fork dt c n) z fun t =>
        Issued u t c n (x.asleep .pool u.seqNo o.w (u.now + 8)) { regs := [(.FORK_HELD, c, 0)], parts := [.stamp] } ∧ Counted u t F.FORK_HELD_COUNT c 0 1))

/-- 05 R125 and 12 R314: EXIT, and JOIN with no child left, end the thread, as RESET in TCTL does, which also clears its trap registers, its count and its timers; JOIN waits while children live. 05 R122 and 06 R150: RESUME lets a FAULTED thread go on at EPC, SKIP at the instruction after it, loops included; neither does anything to another thread, or after a PC trap. -/
def Obligations.ThreadsEndAndFaultedOnesContinue : Prop :=
  ((∀ (z : State) (dt : Nat) (c : CoreId) (n : ThreadId) (o : Ins),
    let u := z.advance dt
    let x := u.thr c n
    Takes u c n o →
    (o.op = 0x68 → u.Apart c n → Completes (.exit dt c n) z fun t => Ended u t c n (issueChanges u c n)) ∧
    (o.op = 0x67 → x.jcnt = 0 → u.Apart c n → Completes (.join dt c n) z fun t => Ended u t c n (issueChanges u c n)) ∧
    (o.op = 0x67 → x.jcnt ≠ 0 → Completes (.join dt c n) z fun t => Issued u t c n (x.asleep .join u.seqNo o.w (u.now + 8)) { parts := [.stamp] })) ∧
  (∀ (z : State) (who : Req) (c : CoreId) (n : ThreadId), isControl who = true ∨ who = .debug → z.dev ≠ .reset →
    ((z.thr c n).st = .free → Completes (.tctlReset who c n) z fun t => Only (toldChanges who) z t) ∧
    ((z.thr c n).st ≠ .free → z.Apart c n → (∀ p ∈ z.tiles, p.2.cells = [] ∧ p.2.waiters = [] ∧ p.2.lockq = []) →
      Completes (.tctlReset who c n) z fun t =>
        Ended z t c n ((toldChanges who).and { regs := [(.TEPC, c, n), (.TISSUE, c, n), (.TARX, c, n)] }) ∧
        t.reg .TEPC c n = 0 ∧ t.reg .TISSUE c n = 0 ∧ t.reg .TARX c n = 0 ∧
        (t.tile c).delay = (z.tile c).delay.filter fun k => !timerOfThr n k))) ∧
  (∀ (z : State) (who : Req) (c : CoreId) (n : ThreadId), isControl who = true ∨ who = .debug → z.dev ≠ .reset →
    let x := z.thr c n
    let p := z.fget F.TEPC_EPC c n
    (x.st = .faulted → z.fget F.TEPC_PCX c n = 0 →
      Completes (.tctlResume who c n) z (fun t => t.thr c n = { x with st := .ready, pc := p, readyAt := z.now + 1 } ∧ Only ((toldChanges who).and { threads := [(c, n)] }) z t) ∧
      (let y := ({ x with st := .ready, readyAt := z.now + 1 } : Thread).stepPc p (p + z.insLen c p)
       y.pc ≤ 16383 → Completes (.tctlSkip who c n) z fun t => t.thr c n = y ∧ Only ((toldChanges who).and { threads := [(c, n)] }) z t)) ∧
    (¬(x.st = .faulted ∧ z.fget F.TEPC_PCX c n = 0) →
      Completes (.tctlResume who c n) z (fun t => Only (toldChanges who) z t) ∧ Completes (.tctlSkip who c n) z fun t => Only (toldChanges who) z t))

/-- 05 R128 to R130, 06 R134, R137, R157 and 07 R173, R177, R181, R182: a word that is undefined in its form traps with fault 0x01, an operand field or rounding mode outside its range with 0x02, a division by 0 with DZE set with 0x09 (DZ and V set), an overflow of ADDO, SUBO and NEGO with 0x0A, and a floating-point instruction with the code of its first enabled exception; the arithmetic traps load TARX; none has any other effect of the instruction. -/
def Obligations.FaultsTrapPrecisely : Prop :=
  (∀ (z : State) (dt : Nat) (c : CoreId) (n : ThreadId),
    let u := z.advance dt
    let x := u.thr c n
    u.winner c = some n.val → (u.tile c).lastIssue ≠ some u.now → u.isIllegal (u.gword c x.pc) = true → x.loads = [] → x.chanLost = false →
    (c.val < 64 → u.Still ∧ u.QuietQ c 255) →
    Completes (.illegalInstruction dt c n) z fun t => Trapped u t c n 1 x.pc (issueChanges u c n)) ∧
  (∀ (z : State) (dt : Nat) (c : CoreId) (n : ThreadId) (o : Ins),
    let u := z.advance dt
    let x := u.thr c n
    let ch := issueChanges u c n
    let recs := ch.and { regs := [(.TARX, c, n)] }
    Takes u c n o → (c.val < 64 → u.Still ∧ u.QuietQ c 255) →
    (∀ f op, (f, op) ∈ intRows → o.op = op →
      (o.intResult x = none → Completes (f dt c n) z fun t => Trapped u t c n 2 o.pc ch) ∧
      (∀ r k, o.intResult x = some r → r.fault = some k → Completes (f dt c n) z fun t => Trapped u t c n k o.pc recs ∧ Recorded t c n o 0 0 0 1)) ∧
    (∀ f op, (f, op) ∈ divisionRows → o.op = op → o.divided x = none →
      Completes (f dt c n) z fun t => Trapped u t c n 9 o.pc recs { x with fl := setFlag (setFlag x.fl 4 true) 3 true } ∧ Recorded t c n o 0 0 0 1) ∧
    (∀ f op, (f, op) ∈ fpRows → o.op = op →
      (o.fpResult x = none → Completes (f dt c n) z fun t => Trapped u t c n 2 o.pc ch) ∧
      (∀ (r : FRes) (k : Nat), o.fpResult x = some r → k < 5 → r.fl.testBit k = true → (flEn x.fl).testBit k = true →
        (∀ j < k, ¬(r.fl.testBit j = true ∧ (flEn x.fl).testBit j = true)) →
        Completes (f dt c n) z fun t => Trapped u t c n (4 + k) o.pc recs ∧
          Recorded t c n o (r.fl % 32) (if bits (iAM o.w) 1 3 = 0 then flRM x.fl else bits (iAM o.w) 1 3 - 1) (b2n (bit (iAM o.w) 0)) 0)))

/-- 12 R314, R315: WFE takes the latch and leaves 0, or waits for it; SEV sends an event, which sets its bits in the latch of the thread it reaches, and is lost and counted for a FREE context. -/
def Obligations.EventsReachTheLatch : Prop :=
  (∀ (z : State) (dt : Nat) (c : CoreId) (n : ThreadId) (o : Ins),
    let u := z.advance dt
    let x := u.thr c n
    let v := u.reg .TEVT c n
    let y := x.setW (iRD o.w) v
    Takes u c n o →
    (o.op = 0xC5 → v ≠ 0 → (y.stepPc o.pc (o.pc + o.len)).pc ≤ 16383 →
      Completes (.wfe dt c n) z fun t => InSequence u t c n o y { regs := [(.TEVT, c, n)] } ∧ t.reg .TEVT c n = 0) ∧
    (o.op = 0xC5 → v = 0 → Completes (.wfe dt c n) z fun t => Issued u t c n (x.asleep .wfe u.seqNo o.w (u.now + 8)) { parts := [.stamp] }) ∧
    (o.op = 0xC6 → (o.a x).toNat < 1024 → (x.stepPc o.pc (o.pc + o.len)).pc ≤ 16383 →
      Completes (.sev dt c n) z fun t => InSequence u t c n o x { parts := [.ctl] } ∧ t.ctl = u.ctl ++ [.sev ((o.a x).toNat / 16) ((o.a x).toNat % 16) c n])) ∧
  (∀ (z : State) (c : CoreId) (n : ThreadId) (fc fn : Nat) (rest : List Ctl), z.message (Ctl.isSevFor c n) (.sev c n fc fn) rest → z.active c = true →
    ((z.thr c n).st = .free → Completes (.sevArrival c n) z fun t =>
      t.ctl = rest ∧ Counted z t F.SEVLOST_COUNT c 0 1 ∧ Only { regs := [(.SEVLOST, c, 0)], parts := [.ctl] } z t) ∧
    ((z.thr c n).st ≠ .free → Completes (.sevArrival c n) z fun t =>
      t.ctl = rest ∧ Latched z t c n (latchSev fc fn) ∧ Only ((latchChanges c n).and { parts := [.ctl] }) z t))

/-- 05 R126, R127 and 06 R159: TMR arms the lowest free entry and answers its handle, or sleeps on it; with no entry free it is tried again a beat later; TCAN takes a timer out of the delay list or out of the ready list and answers 0, 1 or 2. 05 R126: the entry that is due leaves the delay list and enters the ready list of its core: the task of a firing, the event of a thread, or the end of its sleep; while the list of its class is full it stays. -/
def Obligations.TimersAreArmedCancelledAndFallDue : Prop :=
  ((∀ (z : State) (dt : Nat) (c : CoreId) (n : ThreadId) (o : Ins) (k : Nat),
    let u := z.advance dt
    let x := u.thr c n
    let h := handleOf k (tget (u.tile c).gens 0 k)
    let y := x.setW (iRD o.w) (wd h)
    Takes u c n o → o.op = 0xBB → (o.a x).toNat < 2 ^ 32 →
    (u.freeTimer c k → o.s = true → (y.stepPc o.pc (o.pc + o.len)).pc ≤ 16383 →
      Completes (.tmr dt (.strand c n)) z fun t => InSequence u t c n o y { tiles := [c], parts := [.stamp] } ∧ Armed u t c k (o.a x).toNat (.event n)) ∧
    (u.freeTimer c k → o.s = false → iRD o.w = 0 →
      Completes (.tmr dt (.strand c n)) z fun t =>
        Issued u t c n (x.asleep (.timer h) (u.seqNo + 1) o.w (u.now + 8)) { tiles := [c], parts := [.stamp] } ∧ Armed u t c k (o.a x).toNat (.sleep n)) ∧
    ((∀ j < 1024, ∃ d ∈ (u.tile c).delay, d.num = j) → (o.s = true ∨ iRD o.w = 0) →
      Completes (.tmr dt (.strand c n)) z fun t => Issued u t c n { x with retry := some .timer, retryAt := u.now + 8, iw := o.w } {})) ∧
  (∀ (z : State) (dt : Nat) (c : CoreId) (n : ThreadId) (k : Nat),
    let u := z.advance dt
    let x := u.thr c n
    let o := x.heldIns
    let y := ({ x with retry := none } : Thread).setW (iRD o.w) (wd (handleOf k (tget (u.tile c).gens 0 k)))
    u.retryDue c n .timer → o.op = 0xBB → (o.a x).toNat < 2 ^ 32 → (o.s = true ∨ iRD o.w = 0) →
    (u.freeTimer c k → o.s = true → (y.stepPc x.pc (x.pc + 1)).pc ≤ 16383 →
      Completes (.timerArmRetry dt c n) z fun t => Resumed u t c n y { tiles := [c], parts := [.stamp] } ∧ Armed u t c k (o.a x).toNat (.event n)) ∧
    (u.freeTimer c k → o.s = false →
      Completes (.timerArmRetry dt c n) z fun t => t.thr c n = x.asleep (.timer (handleOf k (tget (u.tile c).gens 0 k))) (u.seqNo + 1) x.iw (u.now + 8) ∧
        Armed u t c k (o.a x).toNat (.sleep n) ∧ Only { threads := [(c, n)], tiles := [c], parts := [.stamp] } u t) ∧
    ((∀ j < 1024, ∃ d ∈ (u.tile c).delay, d.num = j) →
      Completes (.timerArmRetry dt c n) z fun t => t.thr c n = { x with retryAt := u.now + 8 } ∧ Only { threads := [(c, n)] } u t)) ∧
  (∀ (z : State) (dt : Nat) (c : CoreId) (n : ThreadId) (o : Ins),
    let u := z.advance dt
    let x := u.thr c n
    let h := (o.a x).toNat
    let y := fun (d : Nat) => x.setW (iRD o.w) (wd d)
    Takes u c n o → o.op = 0xBC → h < 65536 → (∀ d, ((y d).stepPc o.pc (o.pc + o.len)).pc ≤ 16383) →
    (∀ a d b, (u.tile c).delay = a ++ d :: b → handleOf d.num d.gen = h → (∀ e ∈ a, handleOf e.num e.gen ≠ h) →
      Completes (.tcan dt c n) z fun t => InSequence u t c n o (y 0) { regs := [(.CANCEL_PRE, c, 0)], tiles := [c] } ∧
        (t.tile c).delay = a ++ b ∧ (t.tile c).ready = (u.tile c).ready ∧ (t.tile c).c0q = (u.tile c).c0q ∧
        Counted u t F.CANCEL_PRE_COUNT c 0 (b2n (timerPast u.beat d.deadline))) ∧
    ((∀ d ∈ (u.tile c).delay, handleOf d.num d.gen ≠ h) → (∃ k ∈ (u.tile c).ready ++ (u.tile c).c0q, k.timer = some h) →
      Completes (.tcan dt c n) z fun t => InSequence u t c n o (y 1) { regs := [(.CANCEL_POST, c, 0)], tiles := [c] } ∧
        (t.tile c).delay = (u.tile c).delay ∧ (t.tile c).ready = (u.tile c).ready.filter (fun k => k.timer ≠ some h) ∧
        (t.tile c).c0q = (u.tile c).c0q.filter (fun k => k.timer ≠ some h) ∧ Counted u t F.CANCEL_POST_COUNT c 0 1) ∧
    ((∀ d ∈ (u.tile c).delay, handleOf d.num d.gen ≠ h) → (∀ k ∈ (u.tile c).ready ++ (u.tile c).c0q, k.timer ≠ some h) →
      Completes (.tcan dt c n) z fun t => InSequence u t c n o (y 2)))) ∧
  (∀ (z : State) (dt : Nat) (c : CoreId) (d : Timer),
    let u := z.advance dt
    let h := handleOf d.num d.gen
    let gone : Tile := { u.tile c with delay := (u.tile c).delay.filter fun k => k.num ≠ d.num }
    u.frozen c = false → ((u.tile c).delay.filter fun e => timerPast u.beat e.deadline) = [d] →
    (∀ f cls pri act, d.what = .firing f cls pri act →
      (u.readyFull c cls = false → Completes (.timerDue dt c) z fun t =>
        t.tile c = gone.withTask ⟨.timed f, cls, pri, act, u.seqNo, false, some h⟩ ∧ Only { tiles := [c], parts := [.stamp] } u t) ∧
      (u.readyFull c cls = true → Completes (.timerDue dt c) z fun t => Only {} u t)) ∧
    (∀ n < 16, let x := u.thr c n
      (d.what = .event n → u.readyFull c x.cls = false → Completes (.timerDue dt c) z fun t =>
        t.tile c = gone.withTask ⟨.event n h, x.cls, x.pri, x.act, u.seqNo, false, some h⟩ ∧ Only { tiles := [c], parts := [.stamp] } u t) ∧
      (d.what = .sleep n → x.st = .wait → u.readyFull c x.cls = false → Completes (.timerDue dt c) z fun t =>
        t.tile c = gone.withTask ⟨.wake n, x.cls, x.pri, x.act, u.seqNo, false, some h⟩ ∧ t.thr c n = { x with wres := some (.status 0) } ∧
        Only { tiles := [c], threads := [(c, n)], parts := [.stamp] } u t) ∧
      (d.what = .event n ∨ d.what = .sleep n → u.readyFull c x.cls = true → Completes (.timerDue dt c) z fun t => Only {} u t)))

/-! ### Tokens, queues and channels of threads -/

/-- 03 R55, R62; 06 R159; 11 R275: EMIT sends its token to its node or lane window, with a number of the lane when it allocates, and answers that number; ALLOC answers the next number of the lane; both wait while the lane has no credit. -/
def Obligations.ThreadsEmitTokensAndAllocateNumbers : Prop :=
  ∀ (z : State) (dt : Nat) (c : CoreId) (n : ThreadId) (o : Ins),
    let u := z.advance dt
    let x := u.thr c n
    let k := (x.tok4 (iRA o.w)).clean
    let dest : TokTo := if bit (iAM o.w) 0 then .lane k.lane else .node k.tile
    let y := fun (d : Nat) => x.setW (iRD o.w) (wd d)
    Takes u c n o → (∀ d, ((y d).stepPc o.pc (o.pc + o.len)).pc ≤ 16383) →
    (o.op = 0xB0 → quadOk (iRA o.w) = true → k.rsvd = false →
      (bit (iAM o.w) 1 = false → (bit (iAM o.w) 0 = true → k.ord = true) → u.canSend c dest k →
        Completes (.emit dt c n) z fun t =>
          InSequence u t c n o (y 0) { tiles := u.sentTile c dest k, parts := [.stamp, .mesh, .windows] } ∧ Sent u t c dest k) ∧
      (let l := k.lane
       let m : Token := { k with tag := wset k.tag 0 1 1, dst := wset k.dst 12 24 (u.lane l).next }
       bit (iAM o.w) 1 = true → u.mayAlloc c l →
        ((u.lane l).credit ≠ 0 → u.canSend c dest m → Completes (.emit dt c n) z fun t =>
          InSequence u t c n o (y (u.lane l).next) { tiles := u.sentTile c dest m, lanes := [l], parts := [.stamp, .mesh, .windows, .ctl] } ∧ Taken u t l ∧ Sent u t c dest m) ∧
        ((u.lane l).credit = 0 → Completes (.emit dt c n) z fun t => Issued u t c n (x.asleep (.credit l) u.seqNo o.w (u.now + 8)) { parts := [.stamp] }))) ∧
    (let l := (o.a x).toNat
     o.op = 0xB1 → l < 4096 → u.mayAlloc c l →
      ((u.lane l).credit ≠ 0 → Completes (.alloc dt c n) z fun t =>
        InSequence u t c n o (y (u.lane l).next) { lanes := [l], parts := [.ctl] } ∧ Taken u t l) ∧
      ((u.lane l).credit = 0 → Completes (.alloc dt c n) z fun t => Issued u t c n (x.asleep (.credit l) u.seqNo o.w (u.now + 8)) { parts := [.stamp] }))

/-- 03 R76 to R78 and 06 R159: QPUSH to a queue of the own tile puts its token at TAIL, or waits while the ring is full, and PUSH_RETRY completes it once there is room; to another tile it leaves as a packet; QPOP and QPOPNB take the entry at HEAD into four registers, and on an empty queue QPOP waits and QPOPNB answers 0 with Z set. -/
def Obligations.ThreadsPushAndPopQueues : Prop :=
  (∀ (z : State) (dt : Nat) (c : CoreId) (n : ThreadId) (o : Ins),
    let u := z.advance dt
    let x := u.thr c n
    let k := (x.tok4 (iRA o.w)).clean
    let b := (o.b x).toNat
    let d := b / 256
    let q := b % 256
    Takes u c n o → o.op = 0xB5 → quadOk (iRA o.w) = true → b < 16384 → k.rsvd = false → (x.stepPc o.pc (o.pc + o.len)).pc ≤ 16383 →
    (d = c → u.Still → u.QuietQ d q → u.qRoom d q = some true → Completes (.qpush dt (.strand c n)) z fun t =>
      InSequence u t c n o x { regs := [(.QPTR, d, q)], parts := [.mem, .ecc] } ∧ Pushed u t d q k) ∧
    (d = c → u.qRoom d q = some false → Completes (.qpush dt (.strand c n)) z fun t =>
      Issued u t c n (x.asleep (.qFull d q) u.seqNo o.w (u.now + 8)) { parts := [.stamp] }) ∧
    (let p := mkPacket 0 (k.cls + 1) (u.routerOf d) false (u.routerOf c) false 1 (.tok k (.queue d q) c)
     d ≠ c → u.freeWay (u.routerOf c) false p → Completes (.qpush dt (.strand c n)) z fun t =>
      InSequence u t c n o x { parts := [.stamp, .mesh] } ∧ Offered u t (u.routerOf c) false p)) ∧
  (∀ (z : State) (dt : Nat) (c : CoreId) (n : ThreadId) (q : Nat),
    let u := z.advance dt
    let x := u.thr c n
    x.st = .wait → x.wait = .qFull c q → x.wres = none → x.retryAt ≤ u.now →
    (u.Still → u.QuietQ c q → u.qRoom c q = some true → Completes (.pushRetry dt c n) z fun t =>
      Pushed u t c q (x.tok4 x.iwRA).clean ∧ Woken u t c n (.status 0) ∧ Only ((wakeChanges c n).and { regs := [(.QPTR, c, q)], parts := [.mem, .ecc] }) u t) ∧
    (u.qRoom c q = some false → Completes (.pushRetry dt c n) z fun t => t.thr c n = { x with retryAt := u.now + 8 } ∧ Only { threads := [(c, n)] } u t)) ∧
  (∀ (z : State) (dt : Nat) (c : CoreId) (n : ThreadId) (o : Ins),
    let u := z.advance dt
    let x := u.thr c n
    let q := (o.a x).toNat
    let y := fun (k : Token) => { x with loads := [popLoadOf u o x k] }
    Takes u c n o → c.val < 64 → quadOk (iRD o.w) = true → q < 256 → u.popAllowed c q = true → (x.stepPc o.pc (o.pc + o.len)).pc ≤ 16383 →
    (u.qOcc c q ≠ 0 → u.fget F.QCFG_WMEN c q ≠ 1 → u.fget F.QPTR_RESV c q = 0 →
      (o.op = 0xB6 → Completes (.qpop dt c n) z fun t =>
        InSequence u t c n o (y (u.entry c q)) { regs := [(.QPTR, c, q)], parts := [.stamp] } ∧ Popped u t c q) ∧
      (o.op = 0xB7 → Completes (.qpopnb dt c n) z fun t =>
        InSequence u t c n o { y (u.entry c q) with fl := setFlag x.fl 1 false } { regs := [(.QPTR, c, q)], parts := [.stamp] } ∧ Popped u t c q)) ∧
    (u.qOcc c q = 0 →
      (o.op = 0xB6 → Completes (.qpop dt c n) z fun t => Issued u t c n (x.asleep (.qEmpty q) u.seqNo o.w (u.now + 8)) { parts := [.stamp] }) ∧
      (o.op = 0xB7 → Completes (.qpopnb dt c n) z fun t =>
        InSequence u t c n o { y ⟨0, 0, 0, 0⟩ with fl := setFlag x.fl 1 true } { parts := [.stamp] })))

/-- 03 R80 to R82: CHW on the own tile takes a free reservation and stages its token, telling whether the last message was abandoned; it waits while another thread holds the channel, or while the ring has no room; CHC makes the staged entries visible with LAST in the final one only, and frees the reservation. -/
def Obligations.ChannelsStageAndCommitMessages : Prop :=
  ∀ (z : State) (dt : Nat) (c : CoreId) (n : ThreadId) (o : Ins),
    let u := z.advance dt
    let x := u.thr c n
    let k := (x.tok4 (iRA o.w)).clean
    let q := (o.b x).toNat % 256
    let st := u.fget F.QPTR_STAGED c q
    let tl := u.fget F.QPTR_TAIL c q
    let free := u.fget F.QPTR_RESV c q = 0
    let mine := u.holdsChan c q c n
    Takes u c n o →
    (let d := (o.b x).toNat / 256
     let p := fun (b : Bool) (e : Token) => mkPacket 1 (x.cls + 1) (u.routerOf d) false (u.routerOf c) false (if b then 1 else 2) (.chan b d q c n e)
     d ≠ c → (o.b x).toNat < 16384 →
      (o.op = 0xB8 → quadOk (iRA o.w) = true → k.rsvd = false → u.freeWay (u.routerOf c) false (p false k) → Completes (.chw dt c n) z fun t =>
        Issued u t c n (x.asleep (.trip d q) (u.seqNo + 1) o.w (u.now + 8)) { parts := [.stamp, .mesh] } ∧ Offered u t (u.routerOf c) false (p false k)) ∧
      (o.op = 0xB9 → u.freeWay (u.routerOf c) false (p true ⟨0, 0, 0, 0⟩) → Completes (.chc dt c n) z fun t =>
        Issued u t c n (x.asleep (.trip d q) (u.seqNo + 1) o.w (u.now + 8)) { parts := [.stamp, .mesh] } ∧ Offered u t (u.routerOf c) false (p true ⟨0, 0, 0, 0⟩))) ∧
    ((o.b x).toNat / 256 = c → c.val < 64 → u.Still → u.fget F.QCFG_EN c q = 1 →
    (o.op = 0xB8 → quadOk (iRA o.w) = true → k.rsvd = false → u.fget F.QCFG_PMODE c q = 2 →
      (let y := x.setW (iRD o.w) (wd (b2n (decide (st = 0 ∧ u.fget F.QPTR_ABAND c q = 1))))
       free ∨ mine → st < u.fget F.QCFG_MSGM1 c q + 1 → u.qOcc c q + st < u.qSize c q → (y.stepPc o.pc (o.pc + o.len)).pc ≤ 16383 →
        Completes (.chw dt c n) z fun t => InSequence u t c n o y { regs := [(.QPTR, c, q)], parts := [.mem, .ecc] } ∧ StagedEntry u t c q c n k) ∧
      (free ∨ mine → st < u.fget F.QCFG_MSGM1 c q + 1 → u.qSize c q ≤ u.qOcc c q + st → Completes (.chw dt c n) z fun t =>
        Issued u t c n (x.asleep (.ring c q) u.seqNo o.w (u.now + 8)) { regs := [(.QPTR, c, q)], parts := [.stamp] } ∧ t.holdsChan c q c n ∧ t.fget F.QPTR_STAGED c q = st) ∧
      (u.fget F.QPTR_RESV c q = 1 → ¬mine → Completes (.chw dt c n) z fun t =>
        Issued u t c n (x.asleep (.chan c q) u.seqNo o.w (u.now + 8)) { parts := [.stamp] })) ∧
    (o.op = 0xB9 → mine → u.QuietQ c q → (∀ p ∈ u.threads, waitsChan c q (u.thr (p.1 / 16) (p.1 % 16)) = false) → st ≤ 32 →
      (∀ i < st, ∀ j < st, i ≠ j → 32 ≤ (u.entryAt c q (tl + i) - u.entryAt c q (tl + j)) + (u.entryAt c q (tl + j) - u.entryAt c q (tl + i))) →
      (x.stepPc o.pc (o.pc + o.len)).pc ≤ 16383 →
      Completes (.chc dt c n) z fun t => InSequence u t c n o x { regs := [(.QPTR, c, q)], parts := [.mem, .ecc] } ∧
        t.fget F.QPTR_TAIL c q = (tl + st) % 65536 ∧ t.fget F.QPTR_STAGED c q = 0 ∧ t.fget F.QPTR_ABAND c q = 0 ∧ t.fget F.QPTR_RESV c q = 0 ∧
        t.fget F.QPTR_HEAD c q = u.fget F.QPTR_HEAD c q ∧
        (∀ i < st, t.qRead c q (tl + i) = { u.qRead c q (tl + i) with tag := wset (u.qRead c q (tl + i)).tag 1 1 (b2n (decide (i + 1 = st))) }) ∧
        (∀ a, (∀ i < st, ¬(u.entryAt c q (tl + i) ≤ a ∧ a < u.entryAt c q (tl + i) + 32)) → byteAt t.mem a = byteAt u.mem a)))

/-- 06 R154 and 12 R314: DMA hands its copy to the engine of the tile, or with 16 copies under way is tried again a beat later; a copy of words without errors to a range apart from its own puts the words there, leaves every other byte, and signals the event of its thread. -/
def Obligations.DmaCopiesItsWords : Prop :=
  (∀ (z : State) (dt : Nat) (c : CoreId) (n : ThreadId) (o : Ins),
    let u := z.advance dt
    let x := u.thr c n
    let a := (o.a x).toNat % 2 ^ 48
    let b := (o.b x).toNat % 2 ^ 48
    let k := iIMM o.w
    Takes u c n o → o.op = 0x52 → 0 < k → k < 65536 → iAM o.w = 0 → x.ct = false → c.val < 64 →
    u.dmaRange c a (8 * k) false = true → u.dmaRange c b (8 * k) true = true →
    ((u.tile c).dma.length < 16 → (x.stepPc o.pc (o.pc + o.len)).pc ≤ 16383 → Completes (.dma dt c n) z fun t =>
      InSequence u t c n o x { tiles := [c], parts := [.stamp] } ∧ (t.tile c).bare = { (u.tile c).bare with dma := (u.tile c).dma ++ [⟨u.seqNo, n, a, b, k⟩] }) ∧
    (16 ≤ (u.tile c).dma.length → Completes (.dma dt c n) z fun t => Issued u t c n { x with retry := some .dma, retryAt := u.now + 8, iw := o.w } {})) ∧
  (∀ (z : State) (dt : Nat) (c : CoreId) (n : ThreadId),
    let u := z.advance dt
    let x := u.thr c n
    let o := x.heldIns
    let a := (o.a x).toNat % 2 ^ 48
    let b := (o.b x).toNat % 2 ^ 48
    let k := iIMM o.w
    u.retryDue c n .dma → o.op = 0x52 → 0 < k → k < 65536 → iAM o.w = 0 → x.ct = false → c.val < 64 →
    u.dmaRange c a (8 * k) false = true → u.dmaRange c b (8 * k) true = true →
    ((u.tile c).dma.length < 16 → (x.stepPc x.pc (x.pc + 1)).pc ≤ 16383 → Completes (.dmaRetry dt c n) z fun t =>
      Resumed u t c n { x with retry := none } { tiles := [c], parts := [.stamp] } ∧
      (t.tile c).bare = { (u.tile c).bare with dma := (u.tile c).dma ++ [⟨u.seqNo, n, a, b, k⟩] }) ∧
    (16 ≤ (u.tile c).dma.length → Completes (.dmaRetry dt c n) z fun t =>
      t.thr c n = { x with retryAt := u.now + 8 } ∧ Only { threads := [(c, n)] } u t)) ∧
  (∀ (z : State) (dt : Nat) (d : TileId) (i : Fin 16) (k : Dma) (x y : Nat),
    let u := z.advance dt
    (u.tile d).dma[i.val]? = some k → (∀ j e, (u.tile d).dma[j]? = some e → e.id = k.id → j = i) → k.n < 16 → u.Still →
    u.plainWords d k.src k.words x → u.plainWords d k.dst k.words y → (x + 8 * k.words ≤ y ∨ y + 8 * k.words ≤ x) →
    Completes (.dmaComplete dt d i) z fun t =>
      (∀ j < 8 * k.words, byteAt t.mem (y + j) = byteAt u.mem (x + j)) ∧
      (∀ a, ¬(y ≤ a ∧ a < y + 8 * k.words) → byteAt t.mem a = byteAt u.mem a) ∧
      ((u.thr d k.n).st = .free → t.tile d = (u.tile d).withoutCopy i ∧ Only { tiles := [d], parts := [.mem, .ecc] } u t) ∧
      ((u.thr d k.n).st ≠ .free → Latched u t d k.n latchDma ((u.tile d).withoutCopy i) ∧
        Only ((latchChanges d k.n).and { tiles := [d], parts := [.mem, .ecc] }) u t))

/-! ### Locks -/

/-- 06 R162 and 12 R322, R324, R325: LKACQ, LKTRY, LKREL and LKCAS put their request before the group of their lock and hold the thread; the result completes the instruction, traps, or wakes a waiter; an LKACQ that found the waiter table full is presented again each beat; a lend raises the priority of the thread it reaches. -/
def Obligations.LockInstructionsAskTheirGroup : Prop :=
  (∀ (z : State) (dt : Nat) (c : CoreId) (n : ThreadId) (o : Ins),
    let u := z.advance dt
    let x := u.thr c n
    let lk := wbits (o.a x) 0 12
    let g := lk / 64
    let asks := fun (i : Instr) (op : LockOp) => Completes i z fun t =>
      Issued u t c n { x with retry := some .lock, retryAt := u.now + 8, iw := o.w } { tiles := [g], parts := [.stamp] } ∧
      (t.tile g).bare = { (u.tile g).bare with lockq := (u.tile g).lockq ++ [lockRequest u c n lk op] }
    Takes u c n o →
    (o.op = 0xC1 → asks (.lkacq dt c n) .acq) ∧ (o.op = 0xC2 → asks (.lktry dt c n) .try_) ∧ (o.op = 0xC3 → asks (.lkrel dt c n) .rel) ∧
    (o.op = 0xC4 → asks (.lkcas dt c n) (.cas (o.c x) (o.b x)))) ∧
  (∀ (z : State) (dt : Nat) (c : CoreId) (n : ThreadId) (d : Word) (code : Nat) (wake : Bool) (rest : List Ctl),
    let u := z.advance dt
    let x := u.thr c n
    u.message (Ctl.isLockFor c n) (.lockRes c n d code wake) rest → u.active c = true →
    (wake = true → x.st = .wait → x.wres = none → Completes (.lockResult dt c n) z fun t =>
      t.ctl = rest ∧ Woken u t c n (.status d) ∧ Only ((wakeChanges c n).and { parts := [.ctl] }) u t) ∧
    (wake = false → x.st = .ready → x.retry = some .lock → x.loads = [] →
      (let y := ({ x with retry := none } : Thread).setW (iRD x.iw) d
       code = 0 → (y.stepPc x.pc (x.pc + 1)).pc ≤ 16383 → Completes (.lockResult dt c n) z fun t =>
        t.ctl = rest ∧ Resumed u t c n y { parts := [.ctl] }) ∧
      (code ≠ 0 → code < 256 → x.pc ≤ 16383 → (c.val < 64 → u.Still ∧ u.QuietQ c 255) → Completes (.lockResult dt c n) z fun t =>
        t.ctl = rest ∧ Trapped u t c n code x.pc { parts := [.ctl] }))) ∧
  (∀ (z : State) (dt : Nat) (c : CoreId) (n : ThreadId) (g : TileId) (k : Fin 64),
    let u := z.advance dt
    let x := u.thr c n
    let cell := u.cell g k
    let y : Tile := (u.tile g).withCell k ⟨wd (ownerId c n), false⟩
    x.st = .wait → x.wait = .lock (g * 64 + k) → x.wres = none → x.retryAt ≤ u.now → (∀ w ∈ (u.tile g).waiters, ¬(w.core = c ∧ w.n = n)) →
    (∀ m ∈ u.ctl, Ctl.isLockFor c n m = false) → u.active g = true → u.casMode g = false → k < u.lockLimit g (.thread c n) →
    (cell.val = 0 → Completes (.lkacqRetry dt c n) z fun t =>
      Woken u t c n (.status (wd (b2n cell.aband))) (if g.val = c.val then y else u.tile c) ∧ (g.val ≠ c.val → t.tile g = y) ∧
      Only ((wakeChanges c n).and { tiles := [g] }) u t) ∧
    (cell.val ≠ 0 → cell.val ≠ wd (ownerId c n) → 64 ≤ (u.tile g).waiters.length → Completes (.lkacqRetry dt c n) z fun t =>
      t.thr c n = { x with retryAt := u.now + 8 } ∧ Counted u t F.LKCNT_WFULL g 0 1 ∧ Only { regs := [(.LKCNT, g, 0)], threads := [(c, n)] } u t) ∧
    (∀ (e : CoreId) (m : ThreadId), cell.val = wd (ownerId e m) → (e.val, m.val) ≠ (c.val, n.val) → (u.tile g).waiters.length < 64 →
      Completes (.lkacqRetry dt c n) z fun t =>
        t.tile g = { u.tile g with waiters := (u.tile g).waiters ++ [⟨k, c, n, u.seqNo⟩] } ∧ Counted u t F.LKCNT_CONTEND g 0 1 ∧
        (∃ p, t.lendIs g k p ∧ t.ctl = u.ctl ++ [.lend e m (g * 64 + k) p]) ∧
        Only { regs := [(.LKCNT, g, 0)], tiles := [g], parts := [.stamp, .ctl] } u t)) ∧
  (∀ (z : State) (c : CoreId) (n : ThreadId) (lk p : Nat) (rest : List Ctl), z.message (Ctl.isLendFor c n) (.lend c n lk p) rest → z.active c = true →
    let x := z.thr c n
    (∀ q, ¬(x.st = .wait ∧ x.wait = .lock q)) →
    Completes (.lend c n) z fun t =>
      t.ctl = rest ∧ { t.thr c n with lends := x.lends } = x ∧ (∀ l, tget (t.thr c n).lends 0 l = if l = lk then p else tget x.lends 0 l) ∧
      Only { threads := [(c, n)], parts := [.ctl] } z t)

/-- 12 R322 to R325: a group performs one operation, in the order of R322; in RTA mode a FREE cell is taken, the owner hears 2, another waits or hears the owner, and a release hands the cell to the waiter of highest EPRI or frees it; in CAS mode LKCAS compares and swaps; a refused operation answers fault 0x03. -/
def Obligations.LockGroupsPerformOneOperation : Prop :=
  ∀ (z : State) (dt : Nat) (g : TileId) (r : LockReq),
    let u := z.advance dt
    let y := (u.tile g).took r
    let cell := u.cell g r.cell
    let lk := g.val * 64 + r.cell
    let me : Word := wd (ownerId r.core r.n)
    let into := r.cell < u.lockLimit g (.thread r.core r.n)
    let rta := u.casMode g = false
    let does := fun (w : Tile) (l : List Ctl) => Completes (.lockOperation dt g) z fun t => t.tile g = w ∧ t.ctl = u.ctl ++ l ∧ Only { tiles := [g], parts := [.ctl] } u t
    let ans := fun (d : Word) (code : Nat) => Ctl.lockRes r.core r.n d code false
    let waits := fun (stamp : Nat) => ({ u.thr r.core r.n with st := .wait, wait := .lock lk, since := stamp, wres := none, retry := none, retryAt := u.now + 8 } : Thread)
    u.active g = true → u.nextLock g r →
    (r.op ≠ .rel → ¬into → does y [ans 0 3]) ∧
    (r.op = .acq ∨ r.op = .try_ → into → rta →
      (cell.val = 0 → does (y.withCell r.cell ⟨me, false⟩) [ans (wd (b2n cell.aband)) 0]) ∧
      (cell.val = me → does y [ans 2 0]) ∧
      (cell.val ≠ 0 → cell.val ≠ me → r.op = .try_ → does y [ans cell.val 0]) ∧
      (cell.val ≠ 0 → cell.val ≠ me → r.op = .acq → 64 ≤ (u.tile g).waiters.length → Completes (.lockOperation dt g) z fun t =>
        t.tile g = y ∧ Counted u t F.LKCNT_WFULL g 0 1 ∧ t.thr r.core r.n = waits u.seqNo ∧
        Only { regs := [(.LKCNT, g, 0)], tiles := [g], threads := [(r.core, r.n)], parts := [.stamp] } u t) ∧
      (∀ (e : CoreId) (m : ThreadId), cell.val = wd (ownerId e m) → (e.val, m.val) ≠ (r.core, r.n) → r.op = .acq → (u.tile g).waiters.length < 64 →
        Completes (.lockOperation dt g) z fun t =>
          t.tile g = { y with waiters := y.waiters ++ [⟨r.cell, r.core, r.n, u.seqNo⟩] } ∧ Counted u t F.LKCNT_CONTEND g 0 1 ∧ t.thr r.core r.n = waits (u.seqNo + 1) ∧
          (∃ p, t.lendIs g r.cell p ∧ t.ctl = u.ctl ++ [.lend e m lk p]) ∧
          Only { regs := [(.LKCNT, g, 0)], tiles := [g], threads := [(r.core, r.n)], parts := [.stamp, .ctl] } u t)) ∧
    (r.op = .rel → rta →
      (cell.val ≠ me → does y [ans 0 3]) ∧
      (cell.val = me → (∀ w ∈ (u.tile g).waiters, w.cell ≠ r.cell) → does (y.withCell r.cell ⟨0, false⟩) [.lend r.core r.n lk 0, ans 0 0]) ∧
      (∀ w, cell.val = me → u.heir g r.cell w → Completes (.lockOperation dt g) z fun t =>
        t.tile g = { y.withCell r.cell ⟨wd (ownerId w.core w.n), false⟩ with waiters := y.waiters.filter fun v => v ≠ w } ∧
        (∃ p, t.lendIs g r.cell p ∧ t.ctl = u.ctl ++ [.lend r.core r.n lk 0, .lockRes w.core w.n 0 0 true, .lend w.core w.n lk p, ans 1 0]) ∧
        Only { tiles := [g], parts := [.ctl] } u t)) ∧
    (∀ e v, r.op = .cas e v → into →
      (rta → does y [ans 0 3]) ∧
      (¬rta → does (if cell.val = e then y.withCell r.cell ⟨v, false⟩ else y) [ans cell.val 0])) ∧
    ((∀ e v, r.op ≠ .cas e v) → ¬rta → does y [ans 0 3])

/-- 12 R323, R324, R327, R328: a read of a lock cell acquires a FREE one, answers 2 to the owner and the identity to others; a write of 0 by the owner releases it, and in CAS mode a write sets it; LKGCFG is written whole, and a change of MODE frees every cell. -/
def Obligations.LockRegistersActOnTheirCells : Prop :=
  (∀ (z : State) (who : Req) (g : TileId) (k : Fin 64),
    let cell := z.cell g k
    let me : Word := wd (lockId who)
    let gets := fun (v : Word) (y : Tile) => Completes (.lkcellRead who g k) z fun t => Answered z t who v ∧ t.tile g = y ∧ Only { tiles := [g], parts := [.out] } z t
    (z.lockLimit g who ≤ k → gets 0 (z.tile g)) ∧
    (k < z.lockLimit g who →
      (z.casMode g = true → gets cell.val (z.tile g)) ∧
      (z.casMode g = false →
        (cell.val = 0 → who ≠ .debug → gets (wd (b2n cell.aband)) ((z.tile g).withCell k ⟨me, false⟩)) ∧
        (cell.val ≠ 0 → cell.val = me → who ≠ .debug → gets 2 (z.tile g)) ∧
        (cell.val ≠ me ∨ who = .debug → (cell.val = 0 → who = .debug) → gets cell.val (z.tile g))))) ∧
  (∀ (z : State) (who : Req) (g : TileId) (k : Fin 64) (v : Word), z.Passes who .LKCELL g k v →
    (z.casMode g = true → k < z.lockLimit g who → Completes (.lkcellWrite who g k v) z fun t =>
      t.tile g = (z.tile g).withCell k ⟨v, false⟩ ∧ Only ((toldChanges who).and { tiles := [g] }) z t) ∧
    (∀ (c : CoreId) (n : ThreadId), z.casMode g = false → v = 0 → who = .thread c n → (z.cell g k).val = wd (ownerId c n) →
      ((∀ w ∈ (z.tile g).waiters, w.cell ≠ k) → Completes (.lkcellWrite who g k v) z fun t =>
        t.tile g = (z.tile g).withCell k ⟨0, false⟩ ∧ t.ctl = z.ctl ++ [.lend c n (g * 64 + k) 0] ∧ Only { tiles := [g], parts := [.ctl] } z t) ∧
      (∀ w, z.heir g k w → Completes (.lkcellWrite who g k v) z fun t =>
        t.tile g = { (z.tile g).withCell k ⟨wd (ownerId w.core w.n), false⟩ with waiters := (z.tile g).waiters.filter fun e => e ≠ w } ∧
        (∃ p, t.lendIs g k p ∧ t.ctl = z.ctl ++ [.lend c n (g * 64 + k) 0, .lockRes w.core w.n 0 0 true, .lend w.core w.n (g * 64 + k) p]) ∧
        Only { tiles := [g], parts := [.ctl] } z t))) ∧
  (∀ (z : State) (who : Req) (g : TileId) (v : Word), z.Passes who .LKGCFG g 0 v →
    (wbits v 35 1 = z.fget F.LKGCFG_MODE g 0 → Completes (.lkgcfgWrite who g v) z fun t =>
      t.reg .LKGCFG g 0 = v ∧ Only ((toldChanges who).and { regs := [(.LKGCFG, g, 0)] }) z t) ∧
    (wbits v 35 1 ≠ z.fget F.LKGCFG_MODE g 0 → (z.tile g).waiters = [] → (z.casMode g = true ∨ ∀ k ∈ (z.tile g).cells, k.2.val = 0) →
      Completes (.lkgcfgWrite who g v) z fun t =>
        t.reg .LKGCFG g 0 = v ∧ t.tile g = { z.tile g with cells := [] } ∧ Only ((toldChanges who).and { regs := [(.LKGCFG, g, 0)], tiles := [g] }) z t))

/-! ### Test helpers -/

/-- 09 R238, R239, R242: ACC counts a fail in its row and column, CLOSE and DONE move a block on, QUERY changes nothing, and each gives its result word, for a thread and for a firing; RBCFG opens and frees a block; a block that is still CLOSED in stroke DUE becomes LATE and its home tile gets a fault token. -/
def Obligations.RepairBlocksCountAndClose : Prop :=
  (∀ (z : State) (dt : Nat) (c : CoreId) (n : ThreadId) (o : Ins),
    let u := z.advance dt
    let x := u.thr c n
    let k := wbits (o.b x) 0 12
    let does := fun (i : Instr) (op : Nat) => iAM o.w % 4 = op → Completes i z fun t =>
      ∃ d, InSequence u t c n o (x.setW (iRD o.w) d) (repairChanges c k) ∧ Accumulated u t c op k (o.a x) d
    Takes u c n o → o.op = 0xD2 → u.faccFault c (iAM o.w % 4) (o.a x) (o.b x) = none → (∀ d, ((x.setW (iRD o.w) d).stepPc o.pc (o.pc + o.len)).pc ≤ 16383) →
    does (.acc dt (.strand c n)) 0 ∧ does (.faccClose dt (.strand c n)) 1 ∧ does (.query dt (.strand c n)) 2 ∧ does (.done dt (.strand c n)) 3) ∧
  (∀ (u v : State) (d n : Nat) (j : Task) (f : Firing) (r : NRes), Fires u v d n j f r → nOpc f.word = 0xD2 → f.mod < 4 → 2 ≤ nMode f.word → formDefined 0xD2 (nMode f.word) = true →
    u.faccFault d f.mod f.a f.b = none →
    ∃ w, r = .toks w f.c (dsts f.word) ∧ Accumulated u v d f.mod (wbits f.b 0 12) f.a w ∧ Only (repairChanges d (wbits f.b 0 12)) u v) ∧
  (∀ (z : State) (who : Req) (k : Fin 4096) (v : Word), z.Passes who .RBCFG 0 k v →
    let en := z.fget F.RBCFG_EN 0 k
    let home := z.fget F.RBCFG_HOME 0 k
    (en = 0 → Completes (.rbcfgWrite who k v) z fun t =>
      wbits (t.reg .RBCFG 0 k) 0 21 = wbits v 0 21 ∧ wbits (t.reg .RBCFG 0 k) 21 43 = wbits (z.reg .RBCFG 0 k) 21 43 ∧
      t.fget F.RBST_STATE 0 k = (if wbits v 20 1 = 1 then 1 else z.fget F.RBST_STATE 0 k) ∧ t.fget F.RBST_DUE 0 k = z.fget F.RBST_DUE 0 k ∧
      Only ((toldChanges who).and { regs := [(.RBCFG, 0, k), (.RBST, 0, k)] }) z t) ∧
    (en = 1 → wbits v 0 20 = wbits (z.reg .RBCFG 0 k) 0 20 → wbits v 20 1 = 0 → Completes (.rbcfgWrite who k v) z fun t =>
      t.reg .RBCFG 0 k = wd (wbits v 0 20) ∧ t.fget F.RBST_STATE 0 k = 0 ∧ CamFreed z t home k ∧ Only ((toldChanges who).and (repairChanges home k)) z t)) ∧
  (∀ (z : State) (dt : Nat) (k : Fin 4096),
    let u := z.advance dt
    let home := u.fget F.RBCFG_HOME 0 k
    (u.fget F.RBST_STATE 0 k = 2 → u.fget F.RBST_DUE 0 k ≤ u.count → Completes (.repairLate dt k) z fun t =>
      t.fget F.RBST_STATE 0 k = 7 ∧ CamFreed u t home k ∧ t.ctl = u.ctl ++ [.faultTok home ⟨mkTag 0 home k 0 0 0 4, mkDst u.devnum 0 0 0, u.faultVal 0x0B 4 0 home false, 0⟩] ∧
      Only ((repairChanges home k).and { parts := [.ctl] }) u t) ∧
    (¬(u.fget F.RBST_STATE 0 k = 2 ∧ u.fget F.RBST_DUE 0 k ≤ u.count) → Completes (.repairLate dt k) z fun t => Only {} u t))

/-- 06 R165 and 09 R230 to R232, R236: FLOG of a thread appends its record and answers the status; VRDT numbers its verdict and puts it at the transmitter of an UP link, waits while 16 are unacknowledged, and traps with 0x11 when the link is not UP; a custom opcode writes RES0 to RD, and RES1 to PL when its rows write it. -/
def Obligations.FailLogVerdictsAndCustomOpcodesOfThreads : Prop :=
  (∀ (z : State) (dt : Nat) (c : CoreId) (n : ThreadId) (o : Ins),
    let u := z.advance dt
    let x := u.thr c n
    let l := (o.b x).toNat
    let key := clKey l
    let verdict : VerdictBlk := ⟨(u.link key).vseq, wbits (o.a x) 0 2, wbits (o.a x) 2 6, wbits (o.a x) 8 16, true, u.now, false, false⟩
    let up := u.fget F.CLSTAT_STATE 0 l = 3
    Takes u c n o →
    (o.op = 0xD3 → iAM o.w < 4 → iIMM o.w = 0 → wbits (o.b x) 48 16 = 0 → c.val < 64 → u.Still → (∀ d, ((x.setW (iRD o.w) d).stepPc o.pc (o.pc + o.len)).pc ≤ 16383) →
      Completes (.flog dt (.strand c n)) z fun t =>
        ∃ d, InSequence u t c n o (x.setW (iRD o.w) d) (logChanges c) ∧ Appended u t c (iAM o.w) (o.a x) (o.b x) (o.c x) d) ∧
    (o.op = 0xD4 → iRD o.w = 0 → iAM o.w = 0 → iIMM o.w = 0 → wbits (o.a x) 0 2 ≠ 0 → wbits (o.a x) 24 40 = 0 → l < 32 →
      (up → (u.link key).verd.length < 16 → (x.stepPc o.pc (o.pc + o.len)).pc ≤ 16383 → Completes (.vrdt dt (.strand c n)) z fun t =>
        InSequence u t c n o x { links := [key] } ∧ t.link key = { u.link key with verd := (u.link key).verd ++ [verdict], vseq := ((u.link key).vseq + 1) % 256 }) ∧
      (up → 16 ≤ (u.link key).verd.length → Completes (.vrdt dt (.strand c n)) z fun t =>
        Issued u t c n { x with retry := some .verdict, retryAt := u.now + 8, iw := o.w } {}) ∧
      (¬up → (c.val < 64 → u.Still ∧ u.QuietQ c 255) → Completes (.vrdt dt (.strand c n)) z fun t => Trapped u t c n 0x11 o.pc (issueChanges u c n))) ∧
    (0xE0 ≤ o.op →
      let r := dtRun u.dtActive (o.op - 0xE0) (o.a x) (o.b x) (o.c x)
      let y := x.setW (iRD o.w) r.1
      (y.stepPc o.pc (o.pc + o.len)).pc ≤ 16383 → Completes (.customOpcode dt (.strand c n)) z fun t =>
        InSequence u t c n o { y with pl := r.2.getD x.pl })) ∧
  (∀ (z : State) (dt : Nat) (c : CoreId) (n : ThreadId),
    let u := z.advance dt
    let x := u.thr c n
    let o := x.heldIns
    let l := (o.b x).toNat
    let key := clKey l
    let verdict : VerdictBlk := ⟨(u.link key).vseq, wbits (o.a x) 0 2, wbits (o.a x) 2 6, wbits (o.a x) 8 16, true, u.now, false, false⟩
    u.retryDue c n .verdict → o.op = 0xD4 → iRD o.w = 0 → iAM o.w = 0 → iIMM o.w = 0 → wbits (o.a x) 0 2 ≠ 0 → wbits (o.a x) 24 40 = 0 → l < 32 →
    u.fget F.CLSTAT_STATE 0 l = 3 →
    ((u.link key).verd.length < 16 → (x.stepPc x.pc (x.pc + 1)).pc ≤ 16383 → Completes (.vrdtRetry dt c n) z fun t =>
      Resumed u t c n { x with retry := none } { links := [key] } ∧ t.link key = { u.link key with verd := (u.link key).verd ++ [verdict], vseq := ((u.link key).vseq + 1) % 256 }) ∧
    (16 ≤ (u.link key).verd.length → Completes (.vrdtRetry dt c n) z fun t => t.thr c n = { x with retryAt := u.now + 8 } ∧ Only { threads := [(c, n)] } u t))

/-! ### Firings -/

/-- 05 R114 to R116, 02 R28, 06 R136, 11 R275: a firing whose result is tokens leaves the ready list, takes its unit, and puts the tokens for its own tile in the input stage of its class and the others in the buffer of its port, in the order of the destinations; a class 0 firing forwards its first token to a chained lookup. The general dispatch of the slot does the same as the row of the opcode. -/
def Obligations.FiringsEmitTheirTokens : Prop :=
  ∀ (i : Nat → TileId → Fin 4 → Instr) (z v : State) (dt : Nat) (d : TileId) (n : Fin 4) (k : Task) (f : Firing) (w aux : Word) (l : List (Nat × Nat × Nat)),
    let u := z.advance dt
    Fires u v d n k f (.toks w aux l) → RowOf i f.word →
    let toks := l.map fun p => (p, f.out k.cls f.inherit w aux p)
    (¬f.chains u d k.cls → v.mayLeave d k.cls toks → Completes (i dt d n) z fun t =>
      Dispatched v t d n k f ((v.tile d).withTokens k.cls (staying d toks)) ∧ Left v t d k.cls toks ∧
      Only ((dispatchChanges d k).and { parts := [.mesh] }) v t ∧
      ∀ c : CoreId, ∀ slot : Fin 5, c.val = d.val → slot.val = n.val → exec (.taskDispatch dt c slot) z = .next t) ∧
    (∀ p more, l = p :: more → p = dst0 f.word → f.chains u d k.cls → v.mayLeave d 0 (toks.drop 1) → Completes (i dt d n) z fun t =>
      Dispatched v t d n k f { (v.tile d).withTokens 0 (staying d (toks.drop 1)) with
        chains := (v.tile d).chains ++ [⟨n, u.now + 3, some (f.out 0 f.inherit w aux p)⟩] } ∧
      Left v t d 0 (toks.drop 1) ∧ Only ((dispatchChanges d k).and { parts := [.mesh] }) v t)

/-- 05 R131, 06 R155, R159, R160, 09 R230: a firing whose result is no tokens to nodes completes too: a SINK emits nothing, an abandoned firing gives one fault token, QPUSH and VRDT send their token to the queue or to the link, LNOUT to the lane with the inherited or a new number, TMR arms a timer, and a memory node asks for its access. -/
def Obligations.FiringsWithoutTokensToNodesComplete : Prop :=
  ∀ (i : Nat → TileId → Fin 4 → Instr) (z v : State) (dt : Nat) (d : TileId) (n : Fin 4) (k : Task) (f : Firing) (r : NRes),
    let u := z.advance dt
    let ch := dispatchChanges d k
    Fires u v d n k f r → RowOf i f.word →
    (r = .sink → Completes (i dt d n) z fun t => Dispatched v t d n k f ∧ Only ch v t) ∧
    (∀ c, r = .fault c → v.Still → v.QuietQ d 255 → Completes (i dt d n) z fun t =>
      Dispatched v t d n k f ∧ Reported v t d (v.mkFault (mkTag f.ctx d f.idx f.iter 0 k.cls 0) f.ordered c 1 d (graphAddr d f.idx)) ∧
      Only (ch.and (reportChanges d)) v t) ∧
    (∀ q e w aux, r = .queue q e w aux →
      let m := f.out k.cls f.inherit w aux (d, f.idx, 2)
      v.canSend d (.queue q e) m → Completes (i dt d n) z fun t =>
        Dispatched v t d n k f ∧ Sent v t d (.queue q e) m ∧ Only (ch.and { parts := [.mesh, .pushes] }) v t) ∧
    (∀ l w aux, r = .verdict l w aux →
      let m := f.out k.cls f.inherit w aux (0, 0, 0)
      v.canSend d (.link l) m → Completes (i dt d n) z fun t => Dispatched v t d n k f ∧ Sent v t d (.link l) m ∧ Only (ch.and { parts := [.mesh] }) v t) ∧
    (∀ l w aux more, r = .lane l false w aux more → (∀ p ∈ more, p.1 = d.val) →
      let m := f.out k.cls f.inherit w aux (dst0 f.word)
      v.canSend d (.lane l) m → Completes (i dt d n) z fun t =>
        Dispatched v t d n k f ((v.tile d).withTokens k.cls (more.map (f.out k.cls none w aux))) ∧ Sent v t d (.lane l) m ∧
        Only (ch.and { parts := [.mesh, .windows] }) v t) ∧
    (∀ l w aux more, r = .lane l true w aux more → (∀ p ∈ more, p.1 = d.val) → v.mayAlloc d l → (v.lane l).credit ≠ 0 →
      let m := f.out k.cls (some (l, (v.lane l).next)) w aux (dst0 f.word)
      v.canSend d (.lane l) m → Completes (i dt d n) z fun t =>
        Dispatched v t d n k f ((v.tile d).withTokens k.cls (more.map (f.out k.cls none w aux))) ∧ Taken v t l ∧ Sent v t d (.lane l) m ∧
        Only (ch.and { lanes := [l], parts := [.mesh, .windows, .ctl] }) v t) ∧
    (∀ b e, r = .timer b → v.freeTimer d e → Completes (i dt d n) z fun t =>
      Dispatched v t d n k f { v.tile d with
        delay := (v.tile d).delay ++ [⟨e, tget (v.tile d).gens 0 e, (v.beat + b) % 2 ^ 48, v.seqNo, .firing f k.cls k.pri k.act⟩]
        gens := tput (v.tile d).gens e ((tget (v.tile d).gens 0 e + 1) % 64) } ∧ Only ch v t) ∧
    (∀ op a size data, r = .mem op a size data → v.accessFault (.firing d n) a size (op ≠ .read) = none → v.near (some d) a = true →
      let m : MemReq := ⟨v.seqNo, .firing d n, op, a, size, 0, data, false, k.cls, v.seqNo, v.now + 1⟩
      Completes (i dt d n) z fun t =>
        Dispatched v t d n k f ∧ Asked v t m ∧ t.fireMem = v.fireMem ++ [⟨v.seqNo, d, n, f, v.partsOf (some d) a size, 0, 0⟩] ∧
        Only (ch.and { parts := [.banks, .dram, .mailboxQ, .fireMem] }) v t)

/-- 06 R136, R151, R152, R154, R158 to R160 and 09 R236: what a firing computes from its operands: the integer and compare operations with A and B exchanged by MOD[0], products with their high half in AUX, checksums, the address of a memory node, the choice of STEER, the record of FLOG; an operand field outside its range faults. -/
def Obligations.FiringsComputeFromTheirOperands : Prop :=
  ∀ (u : State) (d cls : Nat) (f : Firing),
    let op := nOpc f.word
    let a := if f.mod = 1 then f.b else f.a
    let b := if f.mod = 1 then f.a else f.b
    let gives := fun (v : Word) => u.nodeRes d cls f = (.toks v f.c (dsts f.word), u)
    formDefined op (nMode f.word) = true → nMatch f.word ≠ 5 →
    (∀ r, f.mod < 2 → op ∈ intRows.map (fun p => p.2) → intSpec op a (if op = 0x0F ∧ nMode f.word = 2 then a else b) false = some r →
      (op = 0x33 ∨ op = 0x34 → wbits b 12 52 = 0) → (op = 0x37 ∨ op = 0x38 → wbits b 2 62 = 0) →
      (r.fault = none → gives (if isCompare op then flagsVal r else r.d)) ∧ (∀ k, r.fault = some k → u.nodeRes d cls f = (.fault k, u))) ∧
    (f.mod < 2 → (op = 0x20 → u.nodeRes d cls f = (.toks (a * b) ((a.setWidth 128 * b.setWidth 128).extractLsb' 64 64) (dsts f.word), u)) ∧
      (op = 0x21 → u.nodeRes d cls f = (.toks (a * b) ((a.signExtend 128 * b.signExtend 128).extractLsb' 64 64) (dsts f.word), u)) ∧
      (op = 0x39 → wbits b 4 60 = 0 → wbits a 5 59 = 0 → gives (if condHolds b.toNat a then 1 else 0))) ∧
    (f.mod = 0 →
      (op = 0x53 → gives (wd ((f.a + f.b).toNat % 2 ^ 48))) ∧
      (∀ k, loadKind op = some k → u.nodeRes d cls f = (.mem .read ((f.a + f.b).toNat % 2 ^ 48) k.1 0, u)) ∧
      (∀ k, storeKind op = some k → nMatch f.word = 0 ∨ nMatch f.word = 7 → u.nodeRes d cls f = (.mem .write (f.a.toNat % 2 ^ 48) k.1 (f.b.toNat % 256 ^ k.1), u)) ∧
      (op = 0x50 → f.a.toNat % 8 = 0 → u.nodeRes d cls f = (.mem .add (f.a.toNat % 2 ^ 48) 8 f.b.toNat, u)) ∧
      (op = 0x51 → f.a.toNat % 8 = 0 → u.nodeRes d cls f = (.mem .swap (f.a.toNat % 2 ^ 48) 8 f.b.toNat, u)) ∧
      (op = 0xA5 → gives f.a.reverse) ∧ (op = 0xA8 → gives (misrSpec f.c f.a f.b)) ∧
      (op = 0xB2 ∨ op = 0xCA → gives f.a) ∧ (op = 0xB3 → u.nodeRes d cls f = (.toks f.a f.c [if f.b ≠ 0 then dst0 f.word else dst1 f.word], u)) ∧
      (op = 0xBB → f.b.toNat < 2 ^ 32 → u.nodeRes d cls f = (.timer f.b.toNat, u)) ∧
      (op = 0xBD → dst0 f.word = (0, 0, 0) → dst1 f.word = (0, 0, 0) → u.nodeRes d cls f = (.sink, u))) ∧
    (f.mod < 4 → op = 0xA0 → gives ((crcSpec 0x82F63B78 (f.a.setWidth 32) f.b (2 ^ f.mod)).setWidth 64)) ∧
    (f.mod < 4 → op = 0xD3 → wbits f.b 48 16 = 0 → u.Still → d < 64 →
      ∃ v w, u.nodeRes d cls f = (.toks w f.c (dsts f.word), v) ∧ Appended u v d f.mod f.a f.b f.c w ∧ Only (logChanges d) u v)

/-- 05 R114, R115, R121, R123, R124 and 12 R314: the strand core takes the first task of its order: a wake completes the instruction its thread waits in, or makes it fault; a timer event reaches the latch; a spawning wake starts a thread in the lowest free context, with its token in w1 to w4; a timed task emits the tokens of its firing through a fire unit. -/
def Obligations.TasksOfThreadsDispatch : Prop :=
  ∀ (z : State) (dt : Nat) (c : CoreId) (k : Task),
    let u := z.advance dt
    (u.TakesWake c k →
      (∀ n < 16, k.kind = .wake n →
        let x := u.thr c n
        let o := x.heldIns
        let y : Thread := { x with st := .ready, wait := .none, wres := none }
        x.st = .wait → x.loads = [] → o.op ≠ 0x67 →
        (∀ v, x.wres = some (.status v) → ((y.setW (iRD x.iw) v).stepPc x.pc (x.pc + 1)).pc ≤ 16383 → Completes (.taskDispatch dt c 4) z fun t =>
          t.tile c = (u.tile c).wakeTaken k u.now (t.tile c).cache ∧ Resumed u t c n (y.setW (iRD x.iw) v) { tiles := [c] }) ∧
        (∀ code, x.wres = some (.fails code) → code < 256 → x.pc ≤ 16383 → (c.val < 64 → u.Still ∧ u.QuietQ c 255) → Completes (.taskDispatch dt c 4) z fun t =>
          t.tile c = (u.tile c).wakeTaken k u.now (t.tile c).cache ∧ Trapped u t c n code x.pc { tiles := [c] })) ∧
      (∀ n h, n < 16 → k.kind = .event n h → Completes (.taskDispatch dt c 4) z fun t =>
        Latched u t c n (latchTmr h) ((u.tile c).wakeTaken k u.now (u.tile c).cache) ∧ Only ((latchChanges c n).and { tiles := [c] }) u t) ∧
      (∀ f m, ∀ n < 16, k.kind = .spawn f → spawnOk c f = true → f.p2 = some m → (u.thr c n).st = .free → (∀ j < n, (u.thr c j).st ≠ .free) →
        ∃ t, exec (.taskDispatch dt c 4) z = .next t ∧ (∀ d : TileId, d.val = c.val → exec (.spawn dt d) z = .next t) ∧
          t.thr c n = spawned f m k (u.thr c n).lends u.now ∧ t.tile c = (u.tile c).wakeTaken k u.now (t.tile c).cache ∧
          Only { threads := [(c, n)], tiles := [c] } u t)) ∧
    (∀ f, ∀ n : Fin 5, n.val < 4 → c.val < 64 → k.kind = .timed f → k.cls < 4 → u.active c = true → (u.tile c).unitOut = [] →
      (u.tile c).allocHeld = ((u.tile c).c0q ++ (u.tile c).ready).any u.creditHeld → (u.taskOrder c).head? = some k → u.unitOpen c n 1 = true →
      nMatch f.word ≠ 5 → nMatch f.word ≠ 6 →
      let toks := (dsts f.word).map fun p => (p, f.out k.cls f.inherit f.a f.c p)
      u.mayLeave c k.cls toks → Completes (.taskDispatch dt c n) z fun t =>
        t.tile c = { (u.tile c).withTokens k.cls (staying c toks) with
          ready := (u.tile c).ready.filter (fun j => j.stamp ≠ k.stamp)
          c0q := (u.tile c).c0q.filter (fun j => j.stamp ≠ k.stamp)
          unitFree := tput (u.tile c).unitFree n (u.now + 1)
          cache := (t.tile c).cache
          allocHeld := (t.tile c).allocHeld } ∧
        Left u t c k.cls toks ∧ Only { tiles := [c], parts := [.stamp, .mesh] } u t)

/-! ### Memory -/

/-- 10 R246 to R251, R253, R255, R257: the bank, the memory controller and the mailbox perform the request they take: memory changes by its operation only, a thread's load takes the bytes, a completion crosses the mesh to a requester elsewhere; a bank in RET starts its way to ON instead; a host write that meets one of the device is discarded and counted; a corrected word is written back in an idle cycle. 06 R144, R145, R154: the data of a load whose parts have come is written to its destination once its shadow has passed; before that the destination keeps its value; a load that failed makes the thread trap at the load, with the registers as they stood before it. -/
def Obligations.MemoryServesItsRequestsAndLoadsLand : Prop :=
  (∀ (z : State) (dt : Nat) (d : TileId) (b : Fin 32) (m : MemReq) (c : CoreId) (n : ThreadId),
    let u := z.advance dt
    let old := u.load m.addr m.size
    let rest := u.bankReqs.filter fun k => !(k.id = m.id && k.off = m.off)
    let at_ : Tile := { u.tile d with bankAt := tput (u.tile d).bankAt b u.now }
    m ∈ u.bankWaiting d b → (∀ k ∈ u.bankWaiting d b, k.stamp < 2 ^ 64 ∧ (k ≠ m → m.rank < k.rank ∨ m.rank = k.rank ∧ m.stamp < k.stamp)) →
    m.who = .thread c n → u.tileOn d = true → tfind? (u.tile d).bankAt b ≠ some u.now → u.bankBusy d b = false → u.clean m.addr m.size → u.Still → 0 < m.size → m.size ≤ 8 →
    (u.bankMode d b = 0 → c.val = d.val → Completes (.bankGrant dt d b) z fun t =>
      Performed u t m ∧ t.thr c n = (u.thr c n).served m old ∧ t.bankReqs = rest ∧ t.tile d = at_ ∧
      Only { threads := [(c, n)], tiles := [d], parts := [.mem, .ecc, .banks] } u t) ∧
    (let p := mkPacket 1 (m.cls + 1) (u.routerOf c) false (u.routerOf d) false (if m.op = .write then 1 else 2)
        (.comp m.id m.who m.off (if m.op = .write then 0 else old) 0 (decide (m.op ≠ .read)))
     u.bankMode d b = 0 → c.val ≠ d.val → u.freeWay (u.routerOf d) false p → Completes (.bankGrant dt d b) z fun t =>
      Performed u t m ∧ Offered u t (u.routerOf d) false p ∧ t.bankReqs = rest ∧ t.tile d = at_ ∧
      Only { tiles := [d], parts := [.mem, .ecc, .banks, .mesh, .stamp] } u t) ∧
    (u.bankMode d b = 1 → Completes (.bankGrant dt d b) z fun t =>
      t.tile d = { u.tile d with bankTrans := (u.tile d).bankTrans.filter (fun k => k.bank ≠ b.val) ++ [⟨b, 1, 0, some (u.now + 32)⟩] } ∧
      Only { regs := [(.BANKSTAT, d, 0)], tiles := [d] } u t)) ∧
  (∀ (z : State) (dt : Nat) (i : Nat) (m : MemReq) (c : CoreId) (n : ThreadId),
    let u := z.advance dt
    u.drq[i]? = some m → m.who = .thread c n → u.reqReady m = true → u.segBusy m.addr = false → laterOf u.drq (fun _ => true) m = false →
    u.clean m.addr m.size → u.Still → 0 < m.size → m.size ≤ 8 →
    Completes (.lpddr4xAccessComplete dt i) z fun t =>
      Performed u t m ∧ t.thr c n = (u.thr c n).served m (u.load m.addr m.size) ∧ t.drq = u.drq.filter (fun k => !(k.id = m.id && k.off = m.off)) ∧
      Only { threads := [(c, n)], parts := [.mem, .ecc, .dram] } u t) ∧
  (∀ (z : State) (dt : Nat) (d : TileId) (b : Fin 32) (w : Nat) (p q : List Nat),
    let u := z.advance dt
    u.bankWaiting d b = [] → u.bankMode d b = 0 → (u.tile d).ecback = p ++ w :: q → bankOf (8 * w % 0x1000000) = b → (∀ e ∈ p, bankOf (8 * e % 0x1000000) ≠ b) →
    Completes (.eccWriteBack dt d b) z fun t =>
      t.tile d = { u.tile d with ecback := p ++ q } ∧ t.ecc = { u.ecc with cor := u.ecc.cor.filter fun k => k ≠ w } ∧ Only { tiles := [d], parts := [.ecc] } u t) ∧
  (∀ (z : State) (dt : Nat) (h : HostAcc),
    let u := z.advance dt
    let w := tget u.mbx 0 h.word.val
    (h.data = none → Completes (.mailboxAccess dt false (some h)) z fun t => t.out = u.out ++ [.hostComp w.toNat 0] ∧ Only { parts := [.out] } u t) ∧
    (∀ v, h.data = some v → Completes (.mailboxAccess dt false (some h)) z fun t => t.mbx = tput u.mbx h.word.val v ∧ Only { parts := [.mbx] } u t) ∧
    (∀ (m : MemReq) (p q : List MemReq) (c : CoreId) (n : ThreadId), u.mbxq = p ++ m :: q → (∀ e ∈ p, u.reqReady e = false) → u.reqReady m = true → m.who = .thread c n →
      m.addr % 8 = 0 → m.size = 8 → m.addr / 8 = h.word.val →
      let rest := u.mbxq.filter fun k => !(k.id = m.id && k.off = m.off)
      (m.op = .read → h.data = none → Completes (.mailboxAccess dt true (some h)) z fun t =>
        t.mbx = u.mbx ∧ t.mbxq = rest ∧ t.thr c n = (u.thr c n).served m w.toNat ∧ t.out = u.out ++ [.hostComp w.toNat 0] ∧
        Only { threads := [(c, n)], parts := [.mailboxQ, .out] } u t) ∧
      (∀ v, m.op = .write → h.data = some v → Completes (.mailboxAccess dt true (some h)) z fun t =>
        t.mbx = tput u.mbx h.word.val (wd m.data) ∧ t.mbxq = rest ∧ t.thr c n = (u.thr c n).served m 0 ∧
        t.fget F.MBSTAT_COLL 0 0 = 1 ∧ t.fget F.MBSTAT_CWORD 0 0 = h.word ∧ Counted u t F.MBSTAT_COLLCNT 0 0 1 ∧ t.reg .DPEND 0 0 = u.reg .DPEND 0 0 ||| 512 ∧
        Only { regs := [(.MBSTAT, 0, 0), (.DPEND, 0, 0)], threads := [(c, n)], parts := [.mailboxQ, .mbx] } u t))) ∧
  (∀ (z : State) (dt : Nat) (c : CoreId) (n : ThreadId) (l : Load) (d : Dest),
    let u := z.advance dt
    let x := u.thr c n
    let v := loadVal l.ext l.size l.acc
    x.loads = [l] → l.arrived = false → l.parts = 0 → l.dests = [d] → l.vals = [] →
    (l.code = 0 → l.passed < 2 → x.pc ≤ 16383 → Completes (.loadComplete dt c n) z fun t =>
      t.thr c n = { x with loads := [{ l with arrived := true, vals := [v] }] } ∧ Only { threads := [(c, n)] } u t) ∧
    (l.code = 0 → 2 ≤ l.passed → x.pc ≤ 16383 → Completes (.loadComplete dt c n) z fun t =>
      t.thr c n = ({ x with loads := [] } : Thread).setD d v ∧ Only { threads := [(c, n)] } u t) ∧
    (l.code ≠ 0 → l.code < 256 → l.pc ≤ 16383 → (∀ m ∈ u.bankReqs ++ u.drq, m.afterLoad c n l.id = false) → (c.val < 64 → u.Still ∧ u.QuietQ c 255) →
      Completes (.loadComplete dt c n) z fun t =>
        t.thr c n = u.trapped c n l.pc (x.restore l.snap) ∧ t.fget F.TEPC_EPC c n = l.pc ∧ t.fget F.TEPC_ECODE c n = l.code ∧
        (c.val < 64 → Reported u t c (u.threadFault c n l.code l.pc (decide ((u.trapped c n l.pc (x.restore l.snap)).st = .faulted)))) ∧
        Only (trapChanges c n) u t))

/-! ### The matching store and the contexts -/

/-- 02 R24, R29, R30, R34 to R40: the token at the head of the first stage meets the store: a monadic node fires; a dyadic node fires with its oldest partner on chip, which leaves the store and its count; without a partner the token takes the lowest free way of its set and enters its count; with the ready list full it stays in its stage; a token with reserved bits, of a context that is not OPEN, or that its node does not accept becomes a fault token. The spill write buffer empties into the first block with room of its bucket; a probe takes its partner out of a block, goes on to the next, or at the end enters its token. -/
def Obligations.TokensMeetTheStore : Prop :=
  (∀ (z : State) (dt : Nat) (d : TileId) (c : Nat) (k : Staged) (loc : Bool),
    let u := z.advance dt
    let m := k.tok
    let x := u.ctx m.ctx
    let y := fun (t : State) => ({ (u.tile d).stagePop c loc with cache := (t.tile d).cache } : Tile)
    let pair := fun (e : Entry) => if m.port = 0 then u.firingOf d m (some m) (some e.tok) none else u.firingOf d m (some e.tok) (some m) none
    u.NextToken d c k loc → k.pop = .none → k.again = false →
    (∀ f, u.Meets d k .monadic → f = u.firingOf d m none none (some m) → u.readyFull d x.cls = false → Completes (.tokenLookup dt d) z fun t =>
      t.tile d = (y t).withTask (u.taskFor f) ∧ Only { tiles := [d], parts := [.stamp] } u t) ∧
    (u.Meets d k .monadic → u.readyFull d x.cls = true → (∀ j, c < j → j < 4 → (u.tile d).stageHead j = none) → Completes (.tokenLookup dt d) z fun t =>
      t.tile d = { u.tile d with stalled := c :: (u.tile d).stalled.filter (fun j => j ≠ c) } ∧ Only { tiles := [d] } u t) ∧
    (∀ e, u.Meets d k .dyadic → m.sticky = false → u.stickyOf d m.ctx m.idx (1 - m.port) = none → u.readyFull d x.cls = false →
      e ∈ (u.tile d).ents ++ (u.tile d).c0 → e.waitsFor m (1 - m.port) → (∀ g ∈ (u.tile d).ents ++ (u.tile d).c0, g ≠ e → g.waitsFor m (1 - m.port) → e.stamp < g.stamp) →
      Completes (.tokenLookup dt d) z fun t =>
        t.tile d = ({ y t with ents := (u.tile d).ents.filter fun g => g.stamp ≠ e.stamp, c0 := (u.tile d).c0.filter fun g => g.stamp ≠ e.stamp } : Tile).withTask (u.taskFor (pair e)) ∧
        PopLeft u t d e.pop ∧ Only { regs := [(.POPCNT, d, 0)], tiles := [d], parts := [.stamp] } u t) ∧
    (let set := setIndex (u.fget F.MSCFG_HSEED d 0) m.ctx m.idx m.iter
     let ways := ((u.tile d).ents.filter fun e => e.set = set).map fun e => e.way
     ∀ way < 8, u.Meets d k .dyadic → m.sticky = false → u.stickyOf d m.ctx m.idx (1 - m.port) = none → (∀ g ∈ (u.tile d).ents ++ (u.tile d).c0, ¬g.waitsFor m (1 - m.port)) →
      (∀ g ∈ (u.tile d).ents ++ (u.tile d).c0, ¬g.waitsFor m m.port) → (u.tile d).setSpilled set = 0 → x.cls ≠ 0 → ways.length < 8 → way ∉ ways → (∀ j < way, j ∈ ways) →
      (u.countOf d m.ctx = .o → u.fget F.ADMRES_RES d 0 + u.fget F.POPCNT_OPOP d 0 < u.fget F.ADMCAP_CAP d 0) →
      Completes (.tokenLookup dt d) z fun t =>
        t.tile d = { y t with ents := (u.tile d).ents ++ [⟨m, m.port, set, way, u.seqNo, u.countOf d m.ctx, false, x.cls⟩] } ∧
        t.fget F.POPCNT_CPOP d 0 = (u.fget F.POPCNT_CPOP d 0 + b2n (decide (u.countOf d m.ctx = .c))) % 2 ^ 21 ∧
        t.fget F.POPCNT_OPOP d 0 = (u.fget F.POPCNT_OPOP d 0 + b2n (decide (u.countOf d m.ctx = .o))) % 2 ^ 21 ∧
        Only { regs := [(.POPCNT, d, 0), (.OVERPOP, d, 0)], tiles := [d], parts := [.stamp] } u t) ∧
    (∀ code, (m.rsvd = true ∧ code = 2 ∨ m.rsvd = false ∧ (u.cached d m.ctx).isSome = true ∧
        (u.ctxOpen d m.ctx = false ∧ code = 3 ∨ u.ctxOpen d m.ctx = true ∧ (∀ kind, nodeKind m.idx (u.gword d m.idx) = some kind → kind.accepts m.port m.sticky = false) ∧ code = 2)) →
      u.Still → u.QuietQ d 255 → Completes (.tokenLookup dt d) z fun t =>
        t.tile d = y t ∧ Reported u t d (u.mkFault m.tag (some m) code 2 d (graphAddr d m.idx)) ∧ Only ((reportChanges d).and { tiles := [d] }) u t)) ∧
  (∀ (z : State) (dt : Nat) (d : TileId) (e : Entry) (r : List Entry),
    let u := z.advance dt
    let chain := tget (u.tile d).spill [] e.set
    (u.tile d).wbuf = e :: r →
    (∀ a b q, chain = a ++ b :: q → (∀ l ∈ a, 31 ≤ l.length) → b.length < 31 → Completes (.spillWriteBufferDrain dt d) z fun t =>
      t.tile d = { u.tile d with wbuf := r, spill := tput (u.tile d).spill e.set (a ++ (b ++ [e]) :: q) } ∧ Only { tiles := [d] } u t) ∧
    ((∀ l ∈ chain, 31 ≤ l.length) → Completes (.spillWriteBufferDrain dt d) z fun t =>
      t.tile d = { u.tile d with wbuf := r, spill := tput (u.tile d).spill e.set (chain ++ [[e]]) } ∧ Only { tiles := [d] } u t)) ∧
  (∀ (z : State) (dt : Nat) (d : TileId) (i : Fin 64) (p : Probe),
    let u := z.advance dt
    let m := p.first.tok
    let chain := tget (u.tile d).spill [] p.set
    let rest := (u.tile d).probes.filter fun q => q ≠ p
    let other := 1 - m.port
    (u.tile d).probes[i.val]? = some p → p.found = [] → p.joined = [] → p.first.pop = .none → m.port < 2 → nodeKind m.idx (u.gword d m.idx) = some .dyadic →
    u.stickyOf d m.ctx m.idx other = none → (∀ g ∈ (u.tile d).ents ++ (u.tile d).c0, ¬g.waitsFor m other) →
    (∀ b e a q, chain[p.block]? = some b → b = a ++ e :: q → e.waitsFor m other → (∀ g ∈ a, ¬g.waitsFor m other) → e.set = p.set → (∀ g ∈ (u.tile d).ents ++ (u.tile d).c0, g.stamp ≠ e.stamp) →
      u.readyFull d (u.ctx m.ctx).cls = false →
      Completes (.refill dt d i) z fun t =>
        let back := spilledTok e.tok
        t.tile d = ({ u.tile d with
          probes := rest
          spill := tput (u.tile d).spill p.set ((chain.map fun l => l.filter fun g => g.stamp ≠ e.stamp).filter fun l => !l.isEmpty) } : Tile).withTask
            (u.taskFor (if m.port = 0 then u.firingOf d m (some m) (some back) none else u.firingOf d m (some back) (some m) none)) ∧
        Counted u t F.REFILLS_COUNT d 0 1 ∧ PopLeft u t d e.pop ∧ Only { regs := [(.REFILLS, d, 0), (.POPCNT, d, 0)], tiles := [d], parts := [.stamp] } u t) ∧
    ((∀ b, chain[p.block]? = some b → ∀ g ∈ b, ¬g.waitsFor m other) → p.block + 1 < chain.length → Completes (.refill dt d i) z fun t =>
      t.tile d = { u.tile d with probes := rest ++ [{ p with block := p.block + 1 }] } ∧ Only { tiles := [d] } u t))

/-- 05 R118: a chained lookup that carries no token ends; a token that its node has no partner for takes a class 0 entry; a token that makes a SINK ready is consumed on the same unit in the same cycle. -/
def Obligations.ChainedLookupsReachTheirNode : Prop :=
  ∀ (z : State) (dt : Nat) (d : TileId) (n : Fin 4) (h : Chain) (a b : List Chain),
    let u := z.advance dt
    let y : Tile := { u.tile d with chains := a ++ b }
    u.frozen d = false → (u.tile d).chains = a ++ h :: b → (∀ e ∈ a, ¬(e.unit = n ∧ e.at_ ≤ u.now)) → h.unit = n → h.at_ ≤ u.now →
    (h.tok = none → Completes (.chainedDispatch dt d n) z fun t => t.tile d = y ∧ Only { tiles := [d] } u t) ∧
    (∀ m, h.tok = some m → (u.ctx m.ctx).cls = 0 →
      (∀ way < 8, u.Meets d ⟨m, false, .none⟩ .dyadic → m.sticky = false → u.stickyOf d m.ctx m.idx (1 - m.port) = none →
        (∀ g ∈ (u.tile d).ents ++ (u.tile d).c0, ¬g.waitsFor m (1 - m.port) ∧ ¬g.waitsFor m m.port) → (u.tile d).c0.length < 8 →
        (∀ e ∈ (u.tile d).c0, e.way ≠ way) → (∀ j < way, ∃ e ∈ (u.tile d).c0, e.way = j) → Completes (.chainedDispatch dt d n) z fun t =>
          t.tile d = { y with c0 := y.c0 ++ [⟨m, m.port, 0, way, u.seqNo, u.countOf d m.ctx, false, 0⟩], cache := (t.tile d).cache } ∧
          Only { regs := [(.POPCNT, d, 0), (.OVERPOP, d, 0)], tiles := [d], parts := [.stamp] } u t) ∧
      (let f := u.firingOf d m none none (some m)
       u.Meets d ⟨m, false, .none⟩ .monadic → u.readyFull d 0 = false → (∀ k ∈ (u.tile d).ready ++ (u.tile d).c0q, k.stamp ≠ 0) → nOpc f.word ≠ 0xBA →
        u.nodeRes d 0 f = (.sink, u) → tget (u.tile d).unitFree 0 n ≤ u.now → (∀ e ∈ (u.tile d).unitOut, e.1 ≠ n) → (∀ e ∈ a ++ b, ¬(e.unit = n ∧ e.at_ < u.now + u.fireOcc f)) →
        u.verdict d (u.ctx m.ctx).act (u.fireCharge d f .sink) = .ok → nMatch f.word = 1 → Completes (.chainedDispatch dt d n) z fun t =>
          t.tile d = { y with unitFree := tput y.unitFree n (u.now + u.fireOcc f), cache := (t.tile d).cache } ∧ Counted u t F.DISPATCHED_COUNT d 0 1 ∧
          Only { regs := [(.ACTREM0, d, (u.ctx m.ctx).act), (.ACTREM1, d, (u.ctx m.ctx).act), (.DISPATCHED, d, 0)], tiles := [d], parts := [.stamp] } u t))

/-- 02 R50, R52: the notice of a CTX_FREE makes an OPEN context CLOSING, and a second one is counted; a close takes everything of the context out of its tile and counts the tokens; when its sweep has ended the tile acknowledges, and with the last acknowledgement the context is FREE. -/
def Obligations.ContextsCloseTileByTile : Prop :=
  (∀ (z : State) (c : CtxId) (d : Nat) (rest : List Ctl), z.message (Ctl.isFreeOf c) (.freeNotice c d) rest → z.active (c / 1024) = true → z.Still →
    ((z.ctx c).st = 1 → (z.ctx c).tileset % 2 ^ 64 ≠ 0 → Completes (.freeNotice c) z fun t => CloseBegun z t c 0 rest ∧ Only (z.closeChanges c) z t) ∧
    ((z.ctx c).st = 2 → Completes (.freeNotice c) z fun t => t.ctl = rest ∧ Counted z t F.ORPHANS_COUNT d 0 1 ∧ Only { regs := [(.ORPHANS, d, 0)], parts := [.ctl] } z t)) ∧
  (∀ (z : State) (dt : Nat) (c : CtxId) (d : TileId) (rest : List Ctl),
    let u := z.advance dt
    let x := u.tile d
    let held := (x.ents ++ x.c0 ++ x.wbuf).filter fun e => e.tok.ctx = c.val
    let spilled := x.spill.flatMap fun p => p.2.flatMap fun b => b.filter fun e => e.tok.ctx = c.val
    let tasks := (x.ready ++ x.c0q).filter (taskOfCtx c)
    u.message (fun m => m = .close c d) (.close c d) rest → u.active d = true → (u.ctx c).victim = 0 → (∀ h ∈ x.thr, h.ctx ≠ c) → (∀ p ∈ x.probes, p.first.tok.ctx ≠ c) →
    Completes (.contextClose dt c d) z fun t =>
      t.ctl = rest ∧
      t.tile d = { x with
        ents := without c x.ents, c0 := without c x.c0, wbuf := without c x.wbuf, stk := without c x.stk
        spill := x.spill.map fun p => (p.1, (p.2.map (without c)).filter fun b => !b.isEmpty)
        cache := x.cache.filter fun e => e.ctx ≠ c.val
        delay := x.delay.filter fun k => !timerOfCtx c k
        ready := x.ready.filter fun k => !taskOfCtx c k
        c0q := x.c0q.filter fun k => !taskOfCtx c k
        sweeps := x.sweeps ++ [⟨c, u.now + max 64 (16 * (if x.ctxSpilled c = 0 then 0 else x.blocksUsed))⟩] } ∧
      Counted u t F.ORPHANS_COUNT d 0 (tasks.length + held.length + spilled.length) ∧
      t.fget F.POPCNT_CPOP d 0 = u.fget F.POPCNT_CPOP d 0 - ((held ++ spilled).filter fun e => e.pop = .c).length ∧
      t.fget F.POPCNT_OPOP d 0 = u.fget F.POPCNT_OPOP d 0 - ((held ++ spilled).filter fun e => e.pop = .o).length ∧
      Only { regs := [(.ORPHANS, d, 0), (.POPCNT, d, 0)], tiles := [d], parts := [.ctl] } u t) ∧
  (∀ (z : State) (dt : Nat) (c : CtxId) (d : TileId) (w : Sweep) (a b : List Sweep),
    let u := z.advance dt
    (u.tile d).sweeps = a ++ w :: b → (∀ e ∈ a, ¬(e.ctx = c ∧ e.endAt ≤ u.now)) → w.ctx = c → w.endAt ≤ u.now → Completes (.sweepEnd dt c d) z fun t =>
      t.tile d = { u.tile d with sweeps := a ++ b } ∧ t.ctl = u.ctl ++ [.closeAck c d] ∧ Only { tiles := [d], parts := [.ctl] } u t) ∧
  (∀ (z : State) (c : CtxId) (d : TileId) (rest : List Ctl), z.message (fun m => m = .closeAck c d) (.closeAck c d) rest → z.active (c / 1024) = true → z.Still →
    (z.ctx c).acks.testBit d = true →
    let left := (z.ctx c).acks - 2 ^ d.val
    ((z.ctx c).st = 2 → left = 0 → (z.ctx c).cert = false → Completes (.closeAck c d) z fun t =>
      t.ctl = rest ∧ t.ctx c = { z.ctx c with st := 0, acks := 0, victim := 0 } ∧ Only { ctxs := [c], parts := .ctl :: z.ctxParts } z t) ∧
    (left ≠ 0 → Completes (.closeAck c d) z fun t =>
      t.ctl = rest ∧ t.ctx c = { z.ctx c with acks := left } ∧ Only { ctxs := [c], parts := .ctl :: z.ctxParts } z t))

/-! ### Progress -/

/-- 08 R197 to R202: a stall report queues its context for the scan while SCANEN is 1; a context whose tiles have all been idle is declared stalled; a snapshot finds the victim of a cycle with all its members, or none; the drain closes the victim unless a member moved, and each end of a scan is counted and reported. 08 R203 to R206: once the all-wait condition has held for a stroke period of whole beats, the core declares a strand deadlock, which SDSTAT records; in the next beat its action wakes the longest waiting thread with the DEADLOCK status, or is withdrawn by a real wake, or does nothing. -/
def Obligations.DeadlocksAreFoundAndActedOn : Prop :=
  ((∀ (z : State) (c : CtxId) (d : TileId) (rest : List Ctl), z.message (fun m => m = .stall c d) (.stall c d) rest →
    Completes (.stallReport c d) z fun t => t.ctl = rest ∧
      (if z.fget F.DLKCFG_SCANEN 0 0 = 1 ∧ c.val ∉ z.scan.pending then t.scan = { z.scan with pending := z.scan.pending ++ [c.val] } else t.scan = z.scan) ∧
      Only { parts := [.ctl, .scan] } z t) ∧
  (∀ (z : State) (c : CtxId), c.val ∈ z.scan.pending →
    Completes (.contextStalled c) z fun t =>
      t.scan = { z.scan with
        pending := z.scan.pending.filter fun d => d ≠ c.val
        stalled := if (∀ d ∈ tilesOf (z.ctx c).tileset, z.recentOn d c = false) ∧ (z.ctx c).st = 1 ∧ (z.ctx c).cert = false ∧ c.val ∉ z.scan.stalled then z.scan.stalled ++ [c.val] else z.scan.stalled } ∧
      Only { parts := [.scan] } z t) ∧
  (∀ (z : State) (dt : Nat),
    let u := z.advance dt
    u.scan.taken = true → u.scan.victim = none →
    (∀ v, u.isVictim v →
      (u.fget F.DLKCFG_VICT 0 0 = 1 → Completes (.snapshotComplete dt) z fun t =>
        t.scan.victim = some v ∧ (∀ c, c ∈ t.scan.members ↔ u.waitPath v c ∧ u.waitPath c v) ∧ { t.scan with victim := none, members := u.scan.members } = u.scan ∧
        Only { parts := [.scan] } u t) ∧
      (u.fget F.DLKCFG_VICT 0 0 ≠ 1 → u.Unwatched → Completes (.snapshotComplete dt) z fun t =>
        (∃ n, ScanReported u t 0xFFFF n false) ∧ ScanEnded u t ∧ Only { regs := [(.DLKLOG, 0, 0), (.DLKCNT, 0, 0), (.DPEND, 0, 0)], parts := [.scan] } u t)) ∧
    ((∀ v, ¬u.waitPath v v) → Completes (.snapshotComplete dt) z fun t => ScanEnded u t ∧ Only { regs := [(.DLKCNT, 0, 0)], parts := [.scan] } u t)) ∧
  (∀ (z : State) (dt : Nat) (v : Nat),
    let u := z.advance dt
    u.scan.victim = some v →
    ((u.ctx v).st ≠ 1 → Completes (.victimDrain dt) z fun t => ScanEnded u t ∧ Only { regs := [(.DLKCNT, 0, 0)], parts := [.scan] } u t) ∧
    ((u.ctx v).st = 1 → (∀ p ∈ u.tiles, ∀ e ∈ p.2.cache, e.disp = false ∧ u.count ≤ e.quietFor + u.scan.snap) → (∀ c n, n < 16 → (u.thr c n).st = .free ∨ (u.thr c n).ctx ≠ v) →
      (u.ctx v).tileset % 2 ^ 64 ≠ 0 → u.Still → u.Unwatched → u.fget F.DLKCNT_VICTIMS 0 0 + 1 < 2 ^ F.DLKCNT_VICTIMS.len →
      Completes (.victimDrain dt) z fun t =>
        t.ctx v = { u.ctx v with st := 2, acks := (u.ctx v).tileset, victim := 0x0D } ∧ t.ctl = u.ctl ++ (tilesOf (u.ctx v).tileset).map (fun d => .close v d) ∧
        ScanReported u t v u.scan.members.length false ∧ ScanEnded u t ∧ Counted u t F.DLKCNT_VICTIMS 0 0 1 ∧
        Only { regs := [(.ORPHANS, v / 1024, 0), (.DLKLOG, 0, 0), (.DLKCNT, 0, 0), (.DPEND, 0, 0)], tiles := v / 1024 :: u.tiles.map (fun p => p.1), ctxs := [v], parts := [.ctl, .scan] ++ u.ctxParts } u t))) ∧
  ((∀ (z : State) (dt : Nat) (c : CoreId) (b : Nat),
    let u := z.advance dt
    (u.tile c).allWait = some b → u.fget F.PRGCFG_SDEN c 0 = 1 → (u.tile c).sdDone = false → u.allWaitNow c = true → 8 * ((b + 7) / 8 + u.stroke.period) ≤ u.now + 1 →
    Completes (.strandDeadlock dt c) z fun t =>
      t.tile c = { u.tile c with sdDone := true, sdAct := some (8 * (u.now / 8 + 1)) } ∧ Counted u t F.SDLK_DETECT_COUNT c 0 1 ∧
      (∀ n < 16, (t.reg .SDSTAT c 0).getLsbD n = decide ((u.thr c n).st = .wait)) ∧ t.fget F.SDSTAT_ACTN c 0 = u.fget F.PRGCFG_SDACT c 0 ∧
      wbits (t.reg .SDSTAT c 0) 24 40 = u.count % 2 ^ 40 ∧ (c.val < 64 → t.reg .IPEND c 0 = u.reg .IPEND c 0 ||| 2) ∧
      Only { regs := (.SDLK_DETECT, c, 0) :: (.SDSTAT, c, 0) :: (if c.val < 64 then [(.IPEND, c.val, 0)] else []), tiles := [c] } u t) ∧
  (∀ (z : State) (dt : Nat) (c : CoreId) (b : Nat),
    let u := z.advance dt
    let y : Tile := { u.tile c with sdAct := none }
    let woken := ((u.tile c).ready ++ (u.tile c).c0q).any isThreadTask
    (u.tile c).sdAct = some b → b ≤ u.now →
    (u.fget F.SDSTAT_ACTN c 0 = 0 → Completes (.strandDeadlockAction dt c) z fun t => t.tile c = y ∧ Only { tiles := [c] } u t) ∧
    (u.fget F.SDSTAT_ACTN c 0 = 1 → woken = true → Completes (.strandDeadlockAction dt c) z fun t =>
      t.tile c = y ∧ Counted u t F.SDLK_WDRAWN_COUNT c 0 1 ∧ Only { regs := [(.SDLK_WDRAWN, c, 0)], tiles := [c] } u t) ∧
    (∀ n < 16, u.fget F.SDSTAT_ACTN c 0 = 1 → woken = false → (u.thr c n).st = .wait → (u.thr c n).wres = none →
      (∀ k < 16, k ≠ n → (u.thr c k).st = .wait → (u.thr c k).wres = none → (u.thr c n).since < (u.thr c k).since) →
      (∀ p ∈ u.tiles, (∀ w ∈ p.2.waiters, ¬(w.core = c ∧ w.n = n)) ∧ ∀ r ∈ p.2.lockq, ¬(r.core = c ∧ r.n = n)) →
      Completes (.strandDeadlockAction dt c) z fun t => Woken u t c n (.status 0x800000000000000D) y ∧ Only (wakeChanges c n) u t)))

/-! ### Register writes -/

/-- 00 R3, R7, R8, R9, R401, R402 and 13 R355: a write that passes the checks changes each field by its access type and nothing else; one that does not is refused for the first cause in the order of R402, leaves the register, and traps the thread or sets ERR; an access that is not aligned is told so; 01 R17, R18: NEXT of LTMAP takes PHYS or a SPARE tile, which becomes PENDING, and RETIRE takes a SPARE tile out. -/
def Obligations.RegisterWritesAreCheckedInOrder : Prop :=
  (∀ (z : State) (who : Req) (k : RegKind) (t i : Nat) (v : Word), regExists k t i →
    (k ∉ ruledRegs → z.Passes who k t i v → Completes (.registerWrite who (regAddr k t i) v) z fun u =>
      (∀ f ∈ (regSpec k).fields, wbits (u.reg k t i) f.lo f.len = fieldWritten (z.reg k t i) v f) ∧
      Only ((toldChanges who).and { regs := [(k, t, i)] }) z u) ∧
    (∀ e, z.dev ≠ .reset → (hostKind k = true → z.hostp.perst = false) → z.firstRefusal who k t i v = some e → who ≠ .host → z.canTell who →
      Completes (.registerWrite who (regAddr k t i) v) z fun u => RefusedWith z u who e.1 e.2) ∧
    (∀ o, 0 < o → o < 8 → who ≠ .host → z.canTell who → Completes (.registerWrite who (regAddr k t i + o) v) z fun u => RefusedWith z u who 3 3)) ∧
  (∀ (z : State) (who : Req) (t : TileId) (v : Word), z.Passes who .LTMAP 0 t v →
    let n := wbits v 8 7
    let p := z.fget F.LTMAP_PHYS 0 t
    let m := z.fget F.LTMAP_NEXT 0 t
    (n ≠ p → m = p → z.fget F.PTSTAT_STATE 0 n = 1 → Completes (.ltmapWrite who t v) z fun u =>
      u.fget F.LTMAP_NEXT 0 t = n ∧ u.fget F.LTMAP_PEND 0 t = 1 ∧ u.fget F.LTMAP_PHYS 0 t = p ∧ u.fget F.PTSTAT_STATE 0 n = 2 ∧
      u.fget F.PTSTAT_LOGICAL 0 n = z.fget F.PTSTAT_LOGICAL 0 n ∧ tfind? u.riari.subs t = some ⟨n, p, z.tileIsolated t, false, false, false, false, 0⟩ ∧
      (∀ j, j ≠ t.val → tfind? u.riari.subs j = tfind? z.riari.subs j) ∧ Only ((toldChanges who).and { regs := [(.LTMAP, 0, t), (.PTSTAT, 0, n)], parts := [.riari] }) z u) ∧
    (n = p → m ≠ p → Completes (.ltmapWrite who t v) z fun u =>
      u.fget F.LTMAP_NEXT 0 t = p ∧ u.fget F.LTMAP_PEND 0 t = 0 ∧ u.fget F.LTMAP_PHYS 0 t = p ∧ u.fget F.PTSTAT_STATE 0 m = 1 ∧ tfind? u.riari.subs t = none ∧
      (∀ j, j ≠ t.val → tfind? u.riari.subs j = tfind? z.riari.subs j) ∧ Only ((toldChanges who).and { regs := [(.LTMAP, 0, t), (.PTSTAT, 0, m)], parts := [.riari] }) z u) ∧
    (n ≠ p → z.fget F.PTSTAT_STATE 0 n ≠ 1 → who ≠ .host → z.canTell who → Completes (.ltmapWrite who t v) z fun u => RefusedWith z u who 2 1)) ∧
  (∀ (z : State) (who : Req) (p : Fin 68) (v : Word), z.Passes who .PTSTAT 0 p v → wbits v 9 1 = 1 → Completes (.retire who p v) z fun u =>
    (if z.fget F.PTSTAT_STATE 0 p = 1 then u.fget F.PTSTAT_STATE 0 p = 3 ∧ u.fget F.PTSTAT_RET_REFUSED 0 p = (if wbits v 10 1 = 1 then 0 else z.fget F.PTSTAT_RET_REFUSED 0 p)
     else u.fget F.PTSTAT_STATE 0 p = z.fget F.PTSTAT_STATE 0 p ∧ u.fget F.PTSTAT_RET_REFUSED 0 p = 1) ∧
    u.fget F.PTSTAT_LOGICAL 0 p = z.fget F.PTSTAT_LOGICAL 0 p ∧ Only ((toldChanges who).and { regs := [(.PTSTAT, 0, p)] }) z u)

/-! ### Lanes and hardware queues -/

/-- 03 R60, R63: an arrival at a window is held under its number, or reported: for an OFF lane code 0x03, for a number already held 0x02 and DUPSEQ, for one behind the window 0x14 and LATE, for one beyond it 0x02 and OOW. -/
def Obligations.WindowsHoldOrReportTheirArrivals : Prop :=
  ∀ (z : State) (dt : Nat) (l : LaneId) (k : Token) (r : List Token),
    let u := z.advance dt
    let x := u.lane l
    let d := (k.seq + 2 ^ 24 - x.head) % 2 ^ 24
    let win := { parts := [.windows] : Changes }
    let bad := fun (c : Nat) => u.laneCalm l → Completes (.windowArrival dt l) z fun t =>
      Arrived u t l r ∧ LaneFaulted u t l k.tag k c ∧ Only (win.and (u.laneFaultChanges l)) u t
    let counted := fun (f : Fld) (c : Nat) => u.laneCalm l → Completes (.windowArrival dt l) z fun t =>
      Arrived u t l r ∧ Counted u t f 0 l 1 ∧ LaneFaulted u t l k.tag k c ∧ Only ((win.and (u.laneFaultChanges l)).and { regs := [(.LANECNT, 0, l)] }) u t
    tget u.winq [] l = k :: r →
    (x.st = .off → bad 3) ∧
    (x.st ≠ .off →
      (d < u.laneW l → (∃ p ∈ x.win, p.1 = k.seq) → counted F.LANECNT_DUPSEQ 2) ∧
      (2 ^ 23 ≤ d → counted F.LANECNT_LATE 0x14) ∧
      (u.laneW l ≤ d → d < 2 ^ 23 → counted F.LANECNT_OOW 2) ∧
      (0 < d → d < u.laneW l → (∀ p ∈ x.win, p.1 ≠ k.seq) → x.head < 2 ^ 24 → Completes (.windowArrival dt l) z fun t =>
        Arrived u t l r ∧ t.lane l = x.holding k.seq k u.now ∧ Only (win.and { lanes := [l] }) u t) ∧
      (d = 0 → (∀ p ∈ x.win, p.1 ≠ k.seq) → x.head < 2 ^ 24 →
        (u.now < (tget u.outlets ⟨0, 0⟩ (u.outletOf l)).freeAt → Completes (.windowArrival dt l) z fun t =>
          Arrived u t l r ∧ t.lane l = { x with win := x.win ++ [(k.seq, k)], held := false, gap := none, skip := none } ∧ Only (win.and { lanes := [l] }) u t)))

/-- 03 R61 to R66, R71: an output releases the HEAD of the lane whose turn it is, to a queue or to a host ring, and the lane moves to its next number; a beat's releases are owed to the source in one credit flit; the gap timer reports a missing number once and holds it, or skips it, and SKIP skips a number that is held. -/
def Obligations.OutputsReleaseInSequence : Prop :=
  (∀ (z : State) (dt : Nat) (o : Outlet) (l : Nat) (k : Token),
    let u := z.advance dt
    let q := u.fget F.LANECFG_SQ 0 l
    (tget u.outlets ⟨0, 0⟩ o).freeAt ≤ u.now → u.canRelease o l k → u.nextLane o l →
    (∀ t, o = .queue t → u.Still → u.QuietQ t q →
      ((u.lane l).held? (u.lane l).head = some k → Completes (.release dt o) z fun v =>
        Pushed u v t q k ∧ v.lane l = (u.lane l).released u.now ∧ Served u v o l ∧ Only { regs := [(.QPTR, t, q)], lanes := [l], parts := [.mem, .ecc, .outlets] } u v) ∧
      ((u.lane l).held? (u.lane l).head = none → (u.lane l).skip = some false → Completes (.release dt o) z fun v =>
        Pushed u v t q k ∧ k = u.gapMarker l (u.lane l).head ∧ Counted u v F.LANECNT_GAPS 0 l 1 ∧ v.lane l = (u.lane l).released u.now ∧ Served u v o l ∧
        Only { regs := [(.QPTR, t, q), (.LANECNT, 0, l)], lanes := [l], parts := [.mem, .ecc, .outlets] } u v)) ∧
    (o = .host → (u.lane l).held? (u.lane l).head = some k → Completes (.release dt o) z fun v =>
      let n := u.fget F.RTAIL_TAIL 0 (2 + q)
      v.out = u.out ++ .ring (2 + q) n (toBytes 32 k.num) :: (if u.fget F.RCFG_IEN 0 (2 + q) = 1 then [.msix (u.fget F.RCFG_VEC 0 (2 + q))] else []) ∧
      v.fget F.RTAIL_TAIL 0 (2 + q) = (n + 1) % 2 ^ 32 ∧ v.lane l = (u.lane l).released u.now ∧ Served u v o l ∧
      Only { regs := [(.RTAIL, 0, 2 + q)], lanes := [l], parts := [.outlets, .out] } u v)) ∧
  (∀ (z : State) (dt : Nat) (l : LaneId),
    let u := z.advance dt
    let x := u.lane l
    (x.rel ≠ 0 → x.relBeat < u.now / 8 → Completes (.creditFlit dt l) z fun t =>
      t.ctl = u.ctl ++ [.credit l x.rel] ∧ t.lane l = { x with rel := 0 } ∧ Only { lanes := [l], parts := [.ctl] } u t) ∧
    (∀ g, x.gap = some g → g + 8 * u.fget F.LANEGAP_GAPTO 0 l ≤ u.now → x.skip = none →
      (u.fget F.LANEGAP_GAPMODE 0 l ≠ 1 → x.held = false → u.laneCalm l → Completes (.gapTimeout dt l) z fun t =>
        t.lane l = { x with gap := none, held := true } ∧ LaneFaulted u t l 5 (u.gapMarker l x.head) 0x14 ∧ Only ((u.laneFaultChanges l).and { lanes := [l] }) u t) ∧
      (u.fget F.LANEGAP_GAPMODE 0 l ≠ 1 → x.held = true → Completes (.gapTimeout dt l) z fun t => t.lane l = { x with gap := none } ∧ Only { lanes := [l] } u t) ∧
      (u.fget F.LANEGAP_GAPMODE 0 l = 1 → u.now < (tget u.outlets ⟨0, 0⟩ (u.outletOf l)).freeAt → Completes (.gapTimeout dt l) z fun t =>
        t.lane l = { x with gap := none, skip := some (!x.held) } ∧ Only { lanes := [l] } u t)) ∧
    ((∀ g, x.gap = some g → u.now < g + 8 * u.fget F.LANEGAP_GAPTO 0 l) → Completes (.gapTimeout dt l) z fun t => Only {} u t)) ∧
  (∀ (z : State) (who : Req) (l : LaneId), z.Passes who .LANESTAT 0 l (wd (2 ^ 61)) → z.now < (tget z.outlets ⟨0, 0⟩ (z.outletOf l)).freeAt →
    ((z.lane l).held = true → (z.lane l).st ≠ .off → Completes (.lanestatSkip who l) z fun t =>
      t.lane l = { z.lane l with held := false, gap := none, skip := some false } ∧ Only ((toldChanges who).and { lanes := [l] }) z t) ∧
    ((z.lane l).held = false → Completes (.lanestatSkip who l) z fun t => Only (toldChanges who) z t)) ∧
  (∀ (z : State) (l : LaneId) (k : Nat) (rest : List Ctl), z.message (Ctl.isCreditOf l) (.credit l k) rest → z.fget F.LANECFG_SRCK 0 l = 1 → z.active (z.laneSrcCore l) = true →
    let y := { z.lane l with credit := (z.lane l).credit + k }
    ((z.lane l).st ≠ .off → (∀ c n, n < 16 → waitsCredit l (z.thr c n) = false) → Completes (.creditArrival l) z fun t => t.ctl = rest ∧ t.lane l = y ∧ Only { lanes := [l], parts := [.ctl] } z t) ∧
    (∀ (c : CoreId) (n : ThreadId), (z.lane l).st ≠ .off → waitsCredit l (z.thr c n) = true → (∀ d m, m < 16 → (d, m) ≠ (c.val, n.val) → waitsCredit l (z.thr d m) = false) →
      (z.threads.map fun p => p.1).Nodup → Completes (.creditArrival l) z fun t =>
        t.ctl = rest ∧ t.lane l = y ∧ Woken z t c n .retry ∧ Only ((wakeChanges c n).and { lanes := [l], parts := [.ctl] }) z t) ∧
    ((z.lane l).st = .off → Completes (.creditArrival l) z fun t => t.ctl = rest ∧ Only { parts := [.ctl] } z t)) ∧
  (∀ (z : State) (l : LaneId) (n : Nat) (rest : List Ctl), z.message (fun m => match m with | .snext d _ => d = l.val | _ => false) (.snext l n) rest →
    Completes (.snextReport l) z fun t => t.ctl = rest ∧ t.lane l = { z.lane l with snext := n } ∧ Only { lanes := [l], parts := [.ctl] } z t)

/-- 03 R59, R67 to R70, R74 to R78: EN = 1 on an OFF lane that passes its checks makes it ACTIVE with its window's entries, its credit and its queues; EN = 0 drains it, and once nothing is buffered it is OFF and gives them back; LANEGAP is written whole. -/
def Obligations.LanesAreEnabledAndDrained : Prop :=
  (∀ (z : State) (who : Req) (l : LaneId) (v : Word), z.Passes who .LANECFG 0 l v → wbits v 0 1 = 1 → laneReserved v = false → (z.lane l).st = .off → (z.lanes.map fun p => p.1).Nodup →
    let w := wbits v 18 8 + 1
    (z.laneChecks v = true → z.sliceUsed (cfgSlice v) + w ≤ sliceSize (cfgSlice v) ∧ Completes (.laneEnable who l v) z fun t =>
      t.lane l = { Lane.rst with st := .active, credit := w } ∧ t.reg .LANECFG 0 l = v ∧ t.reg .LANECNT 0 l = 0 ∧ Bound t v 1 ∧
      t.fget F.CBFREE_FREE 0 (cfgSlice v) = sliceSize (cfgSlice v) - (z.sliceUsed (cfgSlice v) + w) ∧ Only ((toldChanges who).and (laneSwitch l v)) z t) ∧
    (z.laneChecks v = false → who ≠ .host → z.canTell who → Completes (.laneEnable who l v) z fun t => RefusedWith z t who 2 1)) ∧
  (∀ (z : State) (who : Req) (l : LaneId) (v : Word), z.Passes who .LANECFG 0 l v → wbits v 0 1 = 0 →
    ((z.lane l).st = .active → v = wset (z.reg .LANECFG 0 l) 0 1 0 → (∀ c n, n < 16 → waitsCredit l (z.thr c n) = false) →
      (∀ k ∈ (z.tile (z.fget F.LANECFG_SRC 0 l)).c0q ++ (z.tile (z.fget F.LANECFG_SRC 0 l)).ready, allocTask l k = false) → Completes (.laneDisable who l v) z fun t =>
        t.lane l = { z.lane l with st := .draining } ∧ t.reg .LANECFG 0 l = v ∧ Only ((toldChanges who).and { regs := [(.LANECFG, 0, l)], lanes := [l] }) z t) ∧
    ((z.lane l).st = .off → laneReserved v = false → Completes (.laneDisable who l v) z fun t =>
      t.reg .LANECFG 0 l = v ∧ Only ((toldChanges who).and { regs := [(.LANECFG, 0, l)] }) z t) ∧
    ((z.lane l).st ≠ .off → v.toNat / 2 ≠ (z.reg .LANECFG 0 l).toNat / 2 → laneReserved v = false → who ≠ .host → z.canTell who →
      Completes (.laneDisable who l v) z fun t => RefusedWith z t who 3 1)) ∧
  (∀ (z : State) (l : LaneId),
    let x := z.lane l
    let v := z.reg .LANECFG 0 l
    let k := cfgSlice v
    (x.st = .draining → x.win = [] → x.head = x.next → tget z.winq [] l = [] → (z.lanes.map fun p => p.1).Nodup → z.sliceUsed k ≤ sliceSize k → sliceSize k < 2 ^ F.CBFREE_FREE.len →
      Completes (.laneDrained l) z fun t =>
        t.lane l = { x with st := .off, gap := none, held := false, skip := none } ∧ t.reg .LANECFG 0 l = wset v 0 1 0 ∧ Bound t v 0 ∧
        t.fget F.CBFREE_FREE 0 k = sliceSize k - (z.sliceUsed k - z.laneW l) ∧ Only (laneSwitch l v) z t) ∧
    (x.st ≠ .draining ∨ x.win ≠ [] ∨ x.head ≠ x.next → Completes (.laneDrained l) z fun t => Only {} z t)) ∧
  (∀ (z : State) (who : Req) (l : LaneId) (v : Word), z.Passes who .LANEGAP 0 l v → Completes (.lanegapWrite who l v) z fun t =>
    t.reg .LANEGAP 0 l = v ∧ Only ((toldChanges who).and { regs := [(.LANEGAP, 0, l)] }) z t)

/-- 03 R55, R74 to R78: QCFG keeps its bindings; a doorbell advances TAIL by what software produced, and HEAD by what it consumed, where the mode and the occupancy allow it; a token at a queue unit is pushed, goes back to its port when the ring is full, and is refused with 0x03 where hardware may not push; and the queue unit pops an entry for the lane it sources, numbers it and sends it. -/
def Obligations.QueuesMoveByDoorbellsPushesAndPops : Prop :=
  (∀ (z : State) (who : Req) (d : TileId) (q : QueueId) (v : Word), z.Passes who .QCFG d q v →
    let old := z.reg .QCFG d q
    wbits old 0 1 = 0 → (wbits v 5 2 = 2 ∨ wbits v 9 5 = 0) → wbits v 8 1 = 0 →
    (wbits v 0 1 = 0 ∨ wbits v 1 4 ≠ 0 ∧ z.ringFits d (z.fget F.QBASE_BASE d q * 32) (wbits v 1 4) = true ∧ wbits v 14 16 ≤ 2 ^ wbits v 1 4 ∧ wbits v 9 5 + 1 ≤ 2 ^ wbits v 1 4) →
    Completes (.qcfgWrite who d q v) z fun t => t.reg .QCFG d q = wset v 46 2 (wbits old 46 2) ∧ Only ((toldChanges who).and { regs := [(.QCFG, d, q)] }) z t) ∧
  (∀ (z : State) (who : Req) (d : TileId) (q : QueueId) (k : Fin 65536),
    let occ := z.qOcc d q
    let ptrs := { regs := [(.QPTR, d, q)] : Changes }
    let head := z.fget F.QPTR_HEAD d q
    let tail := z.fget F.QPTR_TAIL d q
    z.dev ≠ .reset → z.fget F.QCFG_EN d q = 1 → k.val ≠ 0 →
    (z.fget F.QCFG_PMODE d q = 1 → occ + k ≤ z.qSize d q → z.QuietQ d q → Completes (.qdbProd who d q k) z fun t =>
      t.fget F.QPTR_TAIL d q = (tail + k) % 65536 ∧ t.fget F.QPTR_HEAD d q = head ∧ Only ((toldChanges who).and ptrs) z t) ∧
    (z.fget F.QCFG_CMODE d q = 1 → k ≤ occ → z.fget F.QCFG_WMEN d q ≠ 1 → z.fget F.QPTR_RESV d q ≠ 1 → Completes (.qdbCons who d q k) z fun t =>
      t.fget F.QPTR_HEAD d q = (head + k) % 65536 ∧ t.fget F.QPTR_TAIL d q = tail ∧ Only ((toldChanges who).and ptrs) z t) ∧
    (who ≠ .host → z.canTell who →
      (z.fget F.QCFG_PMODE d q ≠ 1 → Completes (.qdbProd who d q k) z fun t => RefusedWith z t who 3 1) ∧
      (z.fget F.QCFG_PMODE d q = 1 → z.qSize d q < occ + k → Completes (.qdbProd who d q k) z fun t => RefusedWith z t who 2 1) ∧
      (z.fget F.QCFG_CMODE d q ≠ 1 → Completes (.qdbCons who d q k) z fun t => RefusedWith z t who 3 1) ∧
      (z.fget F.QCFG_CMODE d q = 1 → occ < k → Completes (.qdbCons who d q k) z fun t => RefusedWith z t who 2 1))) ∧
  (∀ (z : State) (dt : Nat) (d : TileId) (q : QueueId) (k : Token) (sr : Nat) (sedge : Bool) (stamp : Nat) (r : List (Token × Nat × Bool × Nat)),
    let u := z.advance dt
    let rt := u.routerOf d
    let p : Packet := { mkPacket 0 (k.cls + 1) rt false sr sedge 1 (.tok k (.queue d q) 0) with stamp := stamp }
    tget u.pushq [] (d.val, q.val) = (k, sr, sedge, stamp) :: r →
    let took := fun (t : State) => t.pushq = tput u.pushq (d.val, q.val) r
    (u.qRoom d q = some true → u.Still → u.QuietQ d q → Completes (.queuePush dt d q) z fun t => took t ∧ Pushed u t d q k ∧ Only { regs := [(.QPTR, d, q)], parts := [.pushes, .mem, .ecc] } u t) ∧
    (u.qRoom d q = some false → Completes (.queuePush dt d q) z fun t =>
      took t ∧ Counted u t F.QRETRIES_COUNT d 0 1 ∧ Counted u t F.RTCNT2_QBNC 0 rt 1 ∧
      t.mesh = { u.mesh with bwait := tput u.mesh.bwait (sr, portNo sedge) (tget u.mesh.bwait [] (sr, portNo sedge) ++ [p]) } ∧
      Only { regs := [(.QRETRIES, d, 0), (.RTCNT2, 0, rt)], parts := [.pushes, .mesh] } u t) ∧
    (u.qRoom d q = none → u.Still → u.QuietQ d 255 → Completes (.queuePush dt d q) z fun t =>
      took t ∧ Reported u t d (u.mkFault k.tag (some k) 3 5 d 0) ∧ Only ((reportChanges d).and { parts := [.pushes] }) u t)) ∧
  (∀ (z : State) (dt : Nat) (l : LaneId),
    let u := z.advance dt
    let d := u.fget F.LANECFG_SRC 0 l
    let q := u.fget F.LANECFG_SRCQ 0 l
    let e := u.entry d q
    let k : Token := { e with tag := wset e.tag 0 1 1, dst := mkDst e.dev l (u.lane l).next e.hops }
    u.fget F.LANECFG_SRCK 0 l = 2 → (u.lane l).st = .active → u.popAllowed d q = true → u.qOcc d q ≠ 0 → (u.tile d).lastPop ≠ some u.now →
    ((u.lane l).credit ≠ 0 → u.canSend d (.lane l) k → u.QuietQ d q → u.fget F.QPTR_RESV d q ≠ 1 → Completes (.laneSourcePop dt l) z fun t =>
      Popped u t d q ∧ Taken u t l ∧ Sent u t d (.lane l) k ∧ t.tile d = { u.tile d with lastPop := some u.now } ∧
      Only { regs := [(.QPTR, d, q)], lanes := [l], tiles := [d], parts := [.ctl, .windows, .mesh, .stamp] } u t) ∧
    ((u.lane l).credit = 0 → Completes (.laneSourcePop dt l) z fun t => Only {} u t))

/-! ### Strokes, shots and cuts -/

/-- 04 R83, R84, R87, R89, R90, R96, R99, R105, 09 R229: an ordinary boundary takes place in the cycle nearest its target that a correction of at most one cycle reaches; COUNT is one more and TAKE stays, the Cox counters hold the grants of the shots with START 0 when shots run and 0 otherwise, STROKE_OUT rises, and nothing else changes. -/
def Obligations.StrokeBoundariesCountAndGrant : Prop :=
  ∀ (z : State) (dt : Nat),
    let u := z.advance dt
    (u.ordinary → u.boundaryAt ≤ u.now → Completes (.strokeBoundary dt) z fun t =>
      t.count = (u.count + 1) % 2 ^ 48 ∧ t.fget F.SLATE_TAKE 0 0 = u.fget F.SLATE_TAKE 0 0 ∧
      t.stroke.start = u.boundaryAt ∧ t.stroke.period = u.stroke.period ∧
      (u.stroke.jump = false → 0 < u.stroke.start + 8 * u.stroke.period → t.stroke.start + 1 ≥ u.stroke.start + 8 * u.stroke.period ∧ t.stroke.start ≤ u.stroke.start + 8 * u.stroke.period + 1) ∧
      (u.strkSrc = 0 → t.stroke.tgt = 125 * u.boundaryAt + 1000 * u.stroke.period) ∧
      (u.shotsRun = false → ∀ d a, t.remain d a = ⟨0, 0, 0, 0⟩ ∧ (t.tile d).openShots = []) ∧
      (u.shotsRun = true → ∀ d < 64, ∀ m, (u.activeBank d).opensAtZero m →
        t.fget F.COXSTAT_NEXTSH d 0 = m ∧ (t.tile d).openShots = List.range m ∧ ∀ a < 64, t.remain d a = (u.activeBank d).granted m a) ∧
      (∀ l : Fin 32, u.linkSt (.catch_ l) = 3 → u.fget F.CLCFG_STREN 0 l = 1 → (t.link (.catch_ l)).strokeDue = true) ∧
      t.out = u.out ++ (if u.fget F.STRKCFG_OUTEN 0 0 = 1 then [.pin "STROKE_OUT" true] else []) ∧
      (∀ d, t.tile d = { u.tile d with heldFlags := (t.tile d).heldFlags, openShots := (t.tile d).openShots, cache := (t.tile d).cache }) ∧
      (∀ k a i, k ∉ boundaryKinds → t.reg k a i = u.reg k a i) ∧ (∀ c n, n < 16 → t.thr c n = u.thr c n) ∧ (∀ l, t.lane l = u.lane l) ∧ (∀ c, t.ctx c = u.ctx c) ∧
      (∀ p, p ∉ [Part.stroke, .ctl, .scan, .fabric, .out] → p.same u t) ∧ t.pending = u.pending) ∧
    (u.dev = .reset ∨ u.now < u.boundaryAt → Completes (.strokeBoundary dt) z fun t => Only {} u t)

/-- 04 R96 to R101 and 05 R129: a shot opens in its beat and adds its scaled grants to its activity's counters, closes after its last beat, and an activity whose CONSEC reached its limit gets one fault token 0x0B at its FTILE, class 0 none beside those of its overruns. -/
def Obligations.ShotsOpenGrantAndClose : Prop :=
  (∀ (z : State) (dt : Nat) (d : TileId) (h : Activity),
    let u := z.advance dt
    let i := u.fget F.COXSTAT_NEXTSH d 0
    let r := u.remain d h.act
    let cap := fun n => min n (2 ^ 32 - 1)
    (u.activeBank d).shots[i]? = some h → i < 256 →
    (u.dev = .running ∨ u.dev = .draining → h.start ≤ u.strokeBeat → Completes (.shotOpen dt d) z fun t =>
      t.fget F.COXSTAT_NEXTSH d 0 = i + 1 ∧ t.fget F.COXSTAT_BANK d 0 = u.fget F.COXSTAT_BANK d 0 ∧ t.fget F.COXSTAT_SHVALID d 0 = u.fget F.COXSTAT_SHVALID d 0 ∧
      t.tile d = { u.tile d with openShots := (u.tile d).openShots ++ [i] } ∧
      t.remain d h.act = ⟨cap (r.fire + h.gFire), cap (r.slot + h.gSlot), cap (r.memb + h.gMemb), cap (r.flit + h.gFlit)⟩ ∧
      Only { regs := [(.COXSTAT, d, 0), (.ACTREM0, d, h.act), (.ACTREM1, d, h.act)], tiles := [d] } u t) ∧
    (¬(u.dev = .running ∨ u.dev = .draining) ∨ u.strokeBeat < h.start → Completes (.shotOpen dt d) z fun t => Only {} u t)) ∧
  (∀ (z : State) (dt : Nat) (d : TileId) (i : Fin 256) (h : Activity),
    let u := z.advance dt
    (u.activeBank d).shots[i.val]? = some h → i.val ∈ (u.tile d).openShots →
    (h.len ≠ 0 → h.start + h.len ≤ u.strokeBeat → Completes (.shotClose dt d i) z fun t =>
      t.tile d = { u.tile d with openShots := (u.tile d).openShots.filter fun j => j ≠ i.val } ∧ Only { tiles := [d] } u t) ∧
    (h.len = 0 ∨ u.strokeBeat < h.start + h.len → Completes (.shotClose dt d i) z fun t => Only {} u t)) ∧
  (∀ (z : State) (d : TileId) (a : Fin 64),
    let act := (z.activeBank d).act a
    let k : Token := ⟨mkTag 0 act.ftile 0 0 0 act.cls 4, mkDst z.devnum 0 0 0, z.faultVal 0x0B 4 0 d false, 0⟩
    let y := { z.tile d with limitDue := (z.tile d).limitDue.filter fun b => b ≠ a.val }
    let base := { regs := [(.ACTOVR, d, a)], tiles := [d] : Changes }
    a.val ∈ (z.tile d).limitDue →
    (act.cls ≠ 0 → act.ftile ≠ d → Completes (.overrunLimit d a) z fun t =>
      t.tile d = y ∧ t.fget F.ACTOVR_CONSEC d a = 0 ∧ t.fget F.ACTOVR_OVRS d a = z.fget F.ACTOVR_OVRS d a ∧ t.ctl = z.ctl ++ [.faultTok act.ftile k] ∧ Only (base.and { parts := [.ctl] }) z t) ∧
    (act.cls ≠ 0 → act.ftile = d → z.Still → z.QuietQ d 255 → Completes (.overrunLimit d a) z fun t =>
      t.tile d = y ∧ t.fget F.ACTOVR_CONSEC d a = 0 ∧ Reported z t d k ∧ Only (base.and (reportChanges d)) z t) ∧
    (act.cls = 0 → Completes (.overrunLimit d a) z fun t => t.tile d = y ∧ t.fget F.ACTOVR_CONSEC d a = 0 ∧ Only base z t))

/-- 04 R83 to R88: an edge on STROKE_IN within 8 cycles of a target keeps the source, and sets the phase at once on the first lock in STANDBY; four strokes without a mark lose the source, which sets HOLD, counts and interrupts, and the reference carries on; a mark brings it back; a write of STRKCFG that changes SRC starts anew. -/
def Obligations.StrokeSourcesAlignAreLostAndReturn : Prop :=
  (∀ (z : State) (dt t10 : Nat),
    let u := z.advance dt
    let k := u.stroke
    let e := 2 * (t10 + u.fget F.STRKCFG_INDLY 0 0)
    (u.strkSrc = 3 → k.first = true → u.dev = .standby → Completes (.strokeInEdge dt t10) z fun t =>
      t.stroke = { k with tgt := e, jump := true, seen := true, missed := 0, first := false } ∧ Only { parts := [.stroke] } u t) ∧
    (u.strkSrc = 3 → k.first = false → gap e k.tgt ≤ gap e (k.start * 125) → Completes (.strokeInEdge dt t10) z fun t =>
      t.stroke = (if gap e k.tgt ≤ 1000 then { k with tgt := e, seen := true, missed := 0, first := false } else { k with tgt := e }) ∧ Only { parts := [.stroke] } u t) ∧
    (u.strkSrc = 3 → k.first = false → gap e (k.start * 125) < gap e k.tgt → Completes (.strokeInEdge dt t10) z fun t =>
      t.stroke = (if gap e (k.start * 125) ≤ 1000 then { k with tgt := e + k.period * 1000, seen := true, missed := 0, first := false } else { k with tgt := e + k.period * 1000 }) ∧
      Only { parts := [.stroke] } u t) ∧
    (u.strkSrc ≠ 3 → Completes (.strokeInEdge dt t10) z fun t => Only {} u t)) ∧
  (∀ (z : State) (dt : Nat),
    let u := z.advance dt
    let k := u.stroke
    (u.strkSrc ≠ 0 → u.strkHold = false → 4 ≤ k.missed → u.Unwatched → Completes (.strokeSourceLost dt) z fun t =>
      t.strkHold = true ∧ Counted u t F.STRKSTAT_LOSTCNT 0 0 1 ∧ t.fget F.STRKSTAT_PHERR 0 0 = u.fget F.STRKSTAT_PHERR 0 0 ∧ t.reg .DPEND 0 0 = u.reg .DPEND 0 0 ||| 1 ∧
      t.stroke = { k with tgt := k.start * 125 + k.period * 1000 } ∧ Only { regs := [(.STRKSTAT, 0, 0), (.DPEND, 0, 0)], parts := [.stroke] } u t) ∧
    (u.strkSrc = 0 ∨ u.strkHold = true ∨ k.missed < 4 → Completes (.strokeSourceLost dt) z fun t => Only {} u t) ∧
    (u.strkHold = true → u.strkSrc = 0 ∨ k.missed = 0 → Completes (.strokeSourceReturn dt) z fun t =>
      t.strkHold = false ∧ t.fget F.STRKSTAT_LOSTCNT 0 0 = u.fget F.STRKSTAT_LOSTCNT 0 0 ∧ t.fget F.STRKSTAT_PHERR 0 0 = u.fget F.STRKSTAT_PHERR 0 0 ∧ Only { regs := [(.STRKSTAT, 0, 0)] } u t) ∧
    (u.strkHold = true → u.strkSrc ≠ 0 → k.missed ≠ 0 → Completes (.strokeSourceReturn dt) z fun t => Only {} u t)) ∧
  (∀ (z : State) (who : Req) (v : Word), z.Passes who .STRKCFG 0 0 v →
    let k := z.stroke
    (wbits v 2 1 = 1 → wbits v 0 2 = 2 → who ≠ .host → z.canTell who → Completes (.strkcfgWrite who v) z fun t => RefusedWith z t who 2 1) ∧
    (¬(wbits v 2 1 = 1 ∧ wbits v 0 2 = 2) →
      (wbits v 0 2 = z.strkSrc → Completes (.strkcfgWrite who v) z fun t => t.reg .STRKCFG 0 0 = v ∧ Only ((toldChanges who).and { regs := [(.STRKCFG, 0, 0)] }) z t) ∧
      (wbits v 0 2 ≠ z.strkSrc → Completes (.strkcfgWrite who v) z fun t =>
        t.reg .STRKCFG 0 0 = v ∧ t.strkHold = false ∧ t.fget F.PTPSTAT_LOCKED 0 0 = 0 ∧
        t.stroke = { k with tgt := k.start * 125 + k.period * 1000, first := decide (wbits v 0 2 ≠ 0), jump := false, good := 0, missed := 0, seen := false, ptp := { k.ptp with good := 0 } } ∧
        Only ((toldChanges who).and { regs := [(.STRKCFG, 0, 0), (.STRKSTAT, 0, 0), (.PTPSTAT, 0, 0)], parts := [.stroke] }) z t)))

/-- 04 R102 to R106: ARM = 1 is taken for the next take and a stroke to come and starts the checks; READY sets only when every check passes, and a failed check clears ARM, sets FAIL and loads ARMFAIL; 64 cycles before the stroke a READY cut is committed, and any other is MISSED; at the boundary the take is entered, the banks swap, and the contexts of the list open. -/
def Obligations.CutsAreCheckedSampledAndTaken : Prop :=
  (∀ (z : State) (who : Req) (v : Word), z.Passes who .CUTTAKE 0 0 v → wbits v 16 1 = 1 →
    let fits := wbits v 0 16 = (z.fget F.SLATE_TAKE 0 0 + 1) % 65536 ∧ z.count < z.fget F.CUTSTRK_STROKE 0 0
    let free := z.fget F.CUTTAKE_ARM 0 0 ≠ 1 ∧ z.cut.committed = false
    (free → fits → Completes (.cuttakeArm who v) z fun t =>
      t.fget F.CUTTAKE_ARM 0 0 = 1 ∧ t.fget F.CUTTAKE_READY 0 0 = 0 ∧ t.fget F.CUTTAKE_NTAKE 0 0 = wbits v 0 16 ∧ t.cut = { z.cut with checking := true } ∧
      Only ((toldChanges who).and { regs := [(.CUTTAKE, 0, 0)], parts := [.cut] }) z t) ∧
    (who ≠ .host → z.canTell who →
      (¬free → Completes (.cuttakeArm who v) z fun t => RefusedWith z t who 3 1) ∧
      (free → ¬fits → Completes (.cuttakeArm who v) z fun t => RefusedWith z t who 2 1))) ∧
  (∀ (z : State) (dt : Nat),
    let u := z.advance dt
    u.cut.checking = true → u.fget F.CUTTAKE_ARM 0 0 = 1 →
    (u.armCheck = none → u.Armable) ∧
    (∀ f, u.armCheck = some f → u.Unwatched →
      (∀ d < 64, (∀ e < d, u.fget F.COXSTAT_SHVALID e 0 ≠ 0) → u.fget F.COXSTAT_SHVALID d 0 = 0 → f = { check := 1, tile := d }) ∧
      Completes (.cutChecksComplete dt) z fun t =>
        t.reg .ARMFAIL 0 0 = f.word ∧ t.fget F.CUTTAKE_ARM 0 0 = 0 ∧ t.fget F.CUTTAKE_READY 0 0 = 0 ∧ t.fget F.CUTTAKE_FAIL 0 0 = 1 ∧ t.reg .DPEND 0 0 = u.reg .DPEND 0 0 ||| 256 ∧
        t.cut = { u.cut with checking := false, committed := false, resv := [], lt := [], byRun := false } ∧
        Only { regs := [(.ARMFAIL, 0, 0), (.CUTTAKE, 0, 0), (.DPEND, 0, 0)], parts := [.cut] } u t) ∧
    (u.armCheck = none → (u.pendTiles = [] ∨ u.presynced = true) → Completes (.cutChecksComplete dt) z fun t =>
      t.fget F.CUTTAKE_READY 0 0 = 1 ∧ t.fget F.CUTTAKE_ARM 0 0 = 1 ∧ t.cut.checking = false ∧ t.cut.resv = u.toOpen ∧ t.cut.committed = u.cut.committed ∧
      Only { regs := (.CUTTAKE, 0, 0) :: (List.range 64).map fun d => (.ADMRES, d, 0), parts := [.cut] } u t) ∧
    (u.armCheck = none → u.pendTiles ≠ [] → u.presynced = false → Completes (.cutChecksComplete dt) z fun t => Only {} u t)) ∧
  (∀ (z : State) (dt : Nat),
    let u := z.advance dt
    u.fget F.CUTTAKE_ARM 0 0 = 1 → u.cut.committed = false → u.fget F.CUTSTRK_STROKE 0 0 = (u.count + 1) % 2 ^ 48 → u.now + 64 = u.boundaryAt →
    (u.fget F.CUTTAKE_READY 0 0 = 1 → Completes (.cutSample dt) z fun t => t.cut = { u.cut with committed := true } ∧ Only { parts := [.cut] } u t) ∧
    (u.fget F.CUTTAKE_READY 0 0 ≠ 1 → u.cut.resv = [] → u.Unwatched → Completes (.cutSample dt) z fun t =>
      t.fget F.CUTTAKE_MISSED 0 0 = 1 ∧ t.fget F.CUTTAKE_ARM 0 0 = 0 ∧ t.fget F.CUTTAKE_NTAKE 0 0 = u.fget F.CUTTAKE_NTAKE 0 0 ∧ t.reg .DPEND 0 0 = u.reg .DPEND 0 0 ||| 256 ∧
      t.cut = { u.cut with checking := false, committed := false, resv := [], lt := [], byRun := false } ∧
      Only { regs := [(.CUTTAKE, 0, 0), (.DPEND, 0, 0)], parts := [.cut] } u t)) ∧
  (∀ (z : State) (dt : Nat),
    let u := z.advance dt
    u.dev ≠ .reset → u.boundaryAt ≤ u.now → u.stroke.disarm = false → u.fget F.CUTTAKE_ARM 0 0 = 1 → u.fget F.CUTSTRK_STROKE 0 0 ≤ (u.count + 1) % 2 ^ 48 →
    (u.cut.committed = false → Completes (.strokeBoundary dt) z fun t =>
      t.fget F.CUTTAKE_MISSED 0 0 = 1 ∧ t.fget F.CUTTAKE_ARM 0 0 = 0 ∧ t.fget F.SLATE_TAKE 0 0 = u.fget F.SLATE_TAKE 0 0 ∧ t.count = (u.count + 1) % 2 ^ 48 ∧
      ∀ d < 64, t.fget F.COXSTAT_BANK d 0 = u.fget F.COXSTAT_BANK d 0) ∧
    (u.cut.committed = true → u.pendTiles = [] → Completes (.strokeBoundary dt) z fun t =>
      t.fget F.SLATE_TAKE 0 0 = u.fget F.CUTTAKE_NTAKE 0 0 ∧ t.count = (u.count + 1) % 2 ^ 48 ∧
      t.fget F.CUTTAKE_DONE 0 0 = 1 ∧ t.fget F.CUTTAKE_ARM 0 0 = 0 ∧ t.fget F.CUTTAKE_READY 0 0 = 0 ∧ t.cut.committed = false ∧ t.stroke.period = (u.shadowBank 0).period ∧
      (∀ d < 64, t.fget F.COXSTAT_BANK d 0 = 1 - u.fget F.COXSTAT_BANK d 0 ∧ t.fget F.COXSTAT_SHVALID d 0 = 0) ∧
      (∀ p ∈ u.cut.resv, (u.ctx p.1).st = 0 → (t.ctx p.1).st = 1 ∧ (t.ctx p.1).opened = t.slate) ∧
      (u.cut.byRun = true → u.dev = .armed → t.dev = .running)) ∧
    (∀ l < 64, u.cut.committed = true → (∀ j < 64, j ≠ l → u.ltPend j = false) → u.ltPend l = true → u.physOf l < 68 → u.fget F.LTMAP_NEXT 0 l < 68 → Completes (.strokeBoundary dt) z fun t =>
      t.physOf l = u.fget F.LTMAP_NEXT 0 l ∧ t.fget F.LTMAP_PEND 0 l = 0 ∧ t.fget F.PTSTAT_STATE 0 (u.physOf l) = 3 ∧ t.fget F.PTSTAT_LOGICAL 0 (u.physOf l) = 0x7F ∧
      t.fget F.PTSTAT_STATE 0 (u.fget F.LTMAP_NEXT 0 l) = 0 ∧ t.fget F.PTSTAT_LOGICAL 0 (u.fget F.LTMAP_NEXT 0 l) = l)) ∧
  (∀ (z : State) (d : TileId) (k : Token) (rest : List Ctl), z.message (Ctl.isFaultFor d) (.faultTok d k) rest → z.active d = true → z.Still → z.QuietQ d 255 →
    Completes (.faultTokenArrival d) z fun t => t.ctl = rest ∧ Reported z t d k ∧ Only ((reportChanges d).and { parts := [.ctl] }) z t)

/-! ### Links -/

/-- 09 R210 to R214, R231 and 11 R287 to R290, R301: valid control blocks act in the states that take them and invalid ones are discarded; ACK frees frames, NAK starts a replay, REPLAY ends a discard, HOLD and RUN set and clear PHOLD, VACK frees a verdict, IDENT names the partner, CRED returns credits, DREQ is answered, and DRSP gives the delay. -/
def Obligations.LinkBlocksActOrAreDiscarded : Prop :=
  (∀ (z : State) (dt fec : Nat) (k : LinkId) (b : List Byte),
    let u := z.advance dt
    let fec8 := u.fget (lkF k F.CLCFG_MODE F.FLCFG_MODE) 0 (lkIx k) = 0
    (blockOk 1 [] b = false → ¬fec8 ∨ fec = 0 → Completes (.live dt k b fec) z fun t => Discarded u t k) ∧
    (blockOk 1 [] b = true → u.linkSt k < 2 → Completes (.live dt k b fec) z fun t => Only {} u t) ∧
    (blockOk 1 [] b = true → 2 ≤ u.linkSt k → Completes (.live dt k b fec) z fun t =>
      t.link k = { u.link k with liveRx := u.now, liveSeen := true } ∧
      (fec8 → Counts u t (lkF k F.CLCNT0_FECCOR F.FLCNT0_FECCOR) 0 (lkIx k) fec) ∧ (¬fec8 → t.reg (lkCnt k) 0 (lkIx k) = u.reg (lkCnt k) 0 (lkIx k)) ∧
      Only { regs := [(lkCnt k, 0, lkIx k)], links := [k] } u t) ∧
    (Completes (.discardedBlock dt k) z fun t => Discarded u t k)) ∧
  (∀ (z : State) (dt : Nat) (k : LinkId) (b : List Byte),
    let u := z.advance dt
    let x := u.link k
    let n := blkNum b 1 2 % 4096
    let due := x.verd.map fun v => { v with due := true }
    let is := fun (g : Link) (t : State) => t.link k = g ∧ Only { links := [k] } u t
    (∀ c p r, x.unack = c ++ p :: r → p.1 = n → (∀ q ∈ c, q.1 ≠ n) →
      BlockTaken (.ack dt k b) z u k 3 2 [1, 2] b (is { x with unack := r, replayq := x.replayq.filter (fun q => r.any fun e => e.1 = q.1), ackRx := u.now }) ∧
      BlockTaken (.nak dt k b) z u k 3 3 [1, 2] b (is { x with replayq := p :: r, replayDue := some n, verd := due })) ∧
    ((∀ q ∈ x.unack, q.1 ≠ n) →
      BlockTaken (.ack dt k b) z u k 3 2 [1, 2] b (fun t => Only {} u t) ∧
      BlockTaken (.nak dt k b) z u k 3 3 [1, 2] b (is { x with replayq := [], replayDue := some (u.txSeq k), verd := due })) ∧
    BlockTaken (.replay dt k b) z u k 3 4 [1, 2] b (is { x with dropping := false, nakDue := false, nakAt := none })) ∧
  (∀ (z : State) (dt : Nat) (l : Fin 32) (b : List Byte),
    let u := z.advance dt
    let k := LinkId.catch_ l
    BlockTaken (.hold dt l b) z u k 3 5 [] b (fun t => Sets u t F.CLSTAT_PHOLD 0 l 1 ∧ Only { regs := [(.CLSTAT, 0, l)] } u t) ∧
    BlockTaken (.runBlock dt l b) z u k 3 6 [] b (fun t => Sets u t F.CLSTAT_PHOLD 0 l 0 ∧ Only { regs := [(.CLSTAT, 0, l)] } u t) ∧
    BlockTaken (.vack dt l b) z u k 3 8 [1] b (fun t => t.link k = { u.link k with verd := (u.link k).verd.filter fun v => v.seq ≠ blkByte b 1 } ∧ Only { links := [k] } u t)) ∧
  (∀ (z : State) (dt t10 : Nat) (l : Fin 16) (b : List Byte),
    let u := z.advance dt
    let k := LinkId.fabric l
    let x := u.link k
    let wrong := u.fget F.FLCFG_PEERV 0 l ≠ 0 ∧ blkNum b 1 2 ≠ u.fget F.FLCFG_PEER 0 l
    let p := blkByte b 1 % 4 * 2 + blkByte b 1 / 4 % 2
    BlockTaken (.ident dt l b) z u k 2 0x0F [1, 2, 3] b (fun t =>
      t.fget F.FLSTAT_PDEV 0 l = blkNum b 1 2 ∧ t.link k = { x with ident := true } ∧
      (u.linkSt k = 2 → t.fget F.FLSTAT_MISWIRE 0 l = if wrong then 1 else 0) ∧ (u.linkSt k = 3 → t.fget F.FLSTAT_MISWIRE 0 l = u.fget F.FLSTAT_MISWIRE 0 l) ∧
      Leaves u t .FLSTAT 0 l [F.FLSTAT_PDEV, F.FLSTAT_MISWIRE] ∧ Only { regs := [(.FLSTAT, 0, l)], links := [k] } u t) ∧
    BlockTaken (.cred dt l b) z u k 3 0x10 [1, 2, 3] b (fun t =>
      t.link k = { x with cred := (t.link k).cred } ∧ tget (t.link k).cred 0 p = min 64 (tget x.cred 0 p + blkNum b 2 2) ∧
      (∀ q, q ≠ p → tget (t.link k).cred 0 q = tget x.cred 0 q) ∧ Only { links := [k] } u t) ∧
    BlockTaken (.dreq dt l b t10) z u k 3 0x0D [1] b (fun t =>
      t.link k = { x with ctrl := x.ctrl ++ [(4, ctlBlock 0x0E [b.getD 1 0], t10)] } ∧ Only { links := [k] } u t) ∧
    (∀ t1, x.dreq = some (blkByte b 1, t1) → BlockTaken (.drsp dt l b t10) z u k 3 0x0E [1, 2, 3, 4, 5] b (fun t =>
      t.fget F.FLDLY_DLY 0 l = (t10 - t1 - blkNum b 2 4) / 2 % 2 ^ 24 ∧ t.fget F.FLDLY_DVALID 0 l = 1 ∧ t.link k = { x with dreq := none } ∧
      Only { regs := [(.FLDLY, 0, l)], links := [k] } u t)) ∧
    ((∀ t1, x.dreq ≠ some (blkByte b 1, t1)) → BlockTaken (.drsp dt l b t10) z u k 3 0x0E [1, 2, 3, 4, 5] b (fun t => Only {} u t)))

/-- 09 R211, R213, R220 to R226: on an UP link the next frame in order is counted and classified: a frame that breaks a rule and one for a site that is not enabled make a fault token, a passing CMP frame is folded, and a failing cycle gives a V and an A token, the A token with a number of the site's fail lane; a frame already taken is acknowledged again, and one beyond the next makes a NAK. -/
def Obligations.CatchFramesAreClassified : Prop :=
  (∀ (z : State) (dt : Nat) (l : Fin 32) (w : List Word) (again : Bool),
    let u := z.advance dt
    let k := LinkId.catch_ l
    let x := u.link k
    let behind := (u.rxSeq k + 4096 - fSeq w) % 4096
    (u.linkSt k ≠ 3 ∨ x.dropping = true → Completes (.catchFrame dt l w again) z fun t => Only {} u t) ∧
    (u.linkSt k = 3 → x.dropping = false → behind ≠ 0 → Completes (.catchFrame dt l w again) z fun t =>
      t.link k = (if behind ≤ 2048 then { x with ackDue := true } else { x with dropping := true, nakDue := true }) ∧ Only { links := [k] } u t)) ∧
  (∀ (z : State) (dt : Nat) (l : Fin 32) (w : List Word) (again : Bool),
    let u := z.advance dt
    let k := LinkId.catch_ l
    let i := 64 * l.val + fSite w
    let ft := u.fget F.CLCFG_FTILE 0 l
    let en := u.fget F.SITEW0_EN 0 i = 1
    let bad := fun (ctx code : Nat) => Completes (.catchFrame dt l w again) z fun t =>
      FrameCounted u t k ∧ Counts u t F.CLCNT1_FRDROP 0 l 1 ∧ t.ctl = u.ctl ++ [.faultTok ft (u.mkFault (mkTag ctx ft 0 0 0 0 4) none code 5 ft 0)] ∧
      Only { regs := [(.CLSTAT, 0, l), (.CLCNT1, 0, l)], links := [k], parts := [.ctl] } u t
    u.FrameNext l w →
    (frameBad w = true → (en → bad (u.fget F.SITEW0_CTX 0 i) 2) ∧ (¬en → bad 0 2)) ∧ (frameBad w = false → ¬en → bad 0 3)) ∧
  (∀ (z : State) (dt : Nat) (l : Fin 32) (w : List Word) (again : Bool),
    let u := z.advance dt
    let k := LinkId.catch_ l
    let i := 64 * l.val + fSite w
    let c := tget u.pcount (0, 0) i
    let d := fun (t : State) => tget t.pcount (0, 0) i
    u.FrameNext l w → frameBad w = false → fType w = 1 → u.fget F.SITEW0_EN 0 i = 1 → u.fget F.SITEW0_CNTEN 0 i = 0 → u.fget F.SITEW0_C0EN 0 i = 0 →
    (fw w 2 = 0 → fw w 3 = 0 → Completes (.catchFrame dt l w again) z fun t =>
      FrameCounted u t k ∧ Counts u t F.CLCNT1_FOLDED 0 l 1 ∧ (d t).1 = min (2 ^ 64 - 1) (c.1 + fNC w + 1) ∧ (d t).2 = (if c.1 = 0 then fCaddr w else c.2) ∧
      (∀ j, j ≠ i → tget t.pcount (0, 0) j = tget u.pcount (0, 0) j) ∧ Only { regs := [(.CLSTAT, 0, l), (.CLCNT1, 0, l)], links := [k], parts := [.pcount] } u t) ∧
    (fw w 2 ≠ 0 → fNC w = 0 → u.fget F.SITEW0_CLS 0 i ≠ 0 → 16 ≤ (u.retq (cgRouter (l.val / 4)) true).length →
      let f := u.fget F.SITEW0_FLANE 0 i
      let v := u.siteToken i F.SITEW2_VDST 0 (fw w 2) (fw w 4)
      let a := u.siteToken i F.SITEW2_ADST 1 (wd (fCaddr w)) (wd (fSite w + wbits (fw w 0) 22 4 * 64 + l.val * 1024))
      let out := fun (t : State) (a : Token) =>
        FrameCounted u t k ∧ tget t.gwq [] (l.val / 4) = tget u.gwq [] (l.val / 4) ++ [(v, l.val), (a, l.val)] ∧ (∀ g, g ≠ l.val / 4 → tget t.gwq [] g = tget u.gwq [] g) ∧
        t.gwAt = u.gwAt ∧ Sets u t F.SITEW1_ITERC 0 i ((u.fget F.SITEW1_ITERC 0 i + 1) % 65536) ∧ ∀ j, tget t.pcount (0, 0) j = tget u.pcount (0, 0) j
      let base := { regs := [(.CLSTAT, 0, l), (.SITEW1, 0, i)], links := [k], parts := [.gateway, .pcount] : Changes }
      (u.fget F.SITEW0_LNEN 0 i = 0 → Completes (.catchFrame dt l w again) z fun t => out t a ∧ Only base u t) ∧
      (u.fget F.SITEW0_LNEN 0 i = 1 → u.laneOfLink l f = true → (u.lane f).credit ≠ 0 → Completes (.catchFrame dt l w again) z fun t =>
        out t { a with tag := a.tag ||| 1, dst := mkDst 0xFFFF f (u.lane f).next 0 } ∧ Taken u t f ∧ Only (base.and { lanes := [f], parts := [.ctl] }) u t)))

/-- 09 R213 to R219, R227, R231 and 11 R289, R290, R301: a link trains, locks and comes UP with its sequence numbers at 0 and a fabric link's credits full; loss of lock, 4 µs without LIVE and EN written 0 empty it; LIVE, ACK, NAK, replays, verdicts, credits, identities and delay measurements fall due at their times; and a stimulus token's buffer is read into a frame. -/
def Obligations.LinksComeUpKeepTimeAndAreLost : Prop :=
  (∀ (z : State) (dt : Nat) (k : LinkId),
    let u := z.advance dt
    let x := u.link k
    let st := lkF k F.CLSTAT_STATE F.FLSTAT_STATE
    let is := fun (g : Link) (t : State) => t.link k = g ∧ Only { links := [k] } u t
    (u.linkSt k = 1 → Completes (.trainingComplete dt k) z fun t =>
      Sets u t st 0 (lkIx k) 2 ∧ t.link k = { x with liveRx := u.now, liveTx := u.now, liveDue := true, liveSeen := false, ident := false } ∧
      Only { regs := [(lkStat k, 0, lkIx k)], links := [k] } u t) ∧
    (u.linkSt k ≠ 1 → Completes (.trainingComplete dt k) z fun t => Only {} u t) ∧
    (u.linkSt k ≠ 2 ∨ x.liveSeen = false ∨ u.peerOk k = false → Completes (.linkUp dt k) z fun t => Only {} u t) ∧
    (2 ≤ u.linkSt k → u.Unwatched → Completes (.lockLoss dt k) z fun t => LinkLost u t k) ∧
    (u.linkSt k < 2 → Completes (.lockLoss dt k) z fun t => Only {} u t) ∧
    (2 ≤ u.linkSt k → x.liveRx + 6400 ≤ u.now → u.Unwatched → Completes (.liveTimeout dt k) z fun t => LinkLost u t k) ∧
    (u.linkSt k < 2 ∨ u.now < x.liveRx + 6400 → Completes (.liveTimeout dt k) z fun t => Only {} u t) ∧
    (2 ≤ u.linkSt k → x.liveTx + 800 ≤ u.now → Completes (.liveDue dt k) z (is { x with liveDue := true, liveTx := u.now })) ∧
    (u.linkSt k < 2 ∨ u.now < x.liveTx + 800 → Completes (.liveDue dt k) z fun t => Only {} u t) ∧
    (u.linkSt k = 3 → x.rxCount ≠ 0 → x.rxAt + 409 ≤ u.now → Completes (.ackDue dt k) z (is { x with ackDue := true })) ∧
    (u.linkSt k ≠ 3 ∨ x.rxCount = 0 ∨ u.now < x.rxAt + 409 → Completes (.ackDue dt k) z fun t => Only {} u t) ∧
    (∀ c, x.nakAt = some c → u.linkSt k = 3 → c + 3200 ≤ u.now → Completes (.nakResend dt k) z (is { x with nakDue := true, nakAt := none })) ∧
    ((∀ c, x.nakAt = some c → u.linkSt k ≠ 3 ∨ u.now < c + 3200) → Completes (.nakResend dt k) z fun t => Only {} u t) ∧
    (∀ p r, x.unack = p :: r → u.linkSt k = 3 → x.ackRx + 3200 ≤ u.now → Completes (.replayTimeout dt k) z (is { x with replayq := p :: r, replayDue := some p.1, ackRx := u.now })) ∧
    (x.unack = [] ∨ u.linkSt k ≠ 3 ∨ u.now < x.ackRx + 3200 → Completes (.replayTimeout dt k) z fun t => Only {} u t)) ∧
  (∀ (z : State) (dt : Nat) (l : Fin 32),
    let u := z.advance dt
    let k := LinkId.catch_ l
    let x := u.link k
    (u.linkSt k = 2 → x.liveSeen = true → Completes (.linkUp dt k) z fun t =>
      t.linkSt k = 3 ∧ t.rxSeq k = 0 ∧ t.txSeq k = 0 ∧ t.fget F.CLSTAT_HOLDING 0 l = 0 ∧ t.fget F.CLSTAT_PHOLD 0 l = 0 ∧ t.fget F.CLSTAT_LOSTF 0 l = u.fget F.CLSTAT_LOSTF 0 l ∧
      t.link k = { x with vseq := 0, ackRx := u.now, ctrl := x.ctrl ++ (if u.fget F.CLCFG_AUTOX 0 l = 1 then [(5, ctlBlock 0x0B [], 0)] else []) } ∧
      Only { regs := [(.CLSTAT, 0, l)], links := [k] } u t) ∧
    (u.linkSt k = 3 → Completes (.verdictResend dt l) z fun t =>
      t.link k = { x with verd := x.verd.map fun v => if v.at_ + 1600 ≤ u.now then { v with due := true } else v } ∧ Only { links := [k] } u t) ∧
    (u.linkSt k ≠ 3 → Completes (.verdictResend dt l) z fun t => Only {} u t) ∧
    (x.stim = none → Completes (.stimulusBufferRead dt l) z fun t => Only {} u t) ∧
    (∀ q, x.stim = some q →
      let a := wbits q.aux 16 48
      ((∀ j < 7, u.region none (a + 8 * j) = .dram (a + 8 * j)) → u.clean a 56 → u.fget F.DRSTAT_MOST 0 0 ≠ 1 → Completes (.stimulusBufferRead dt l) z fun t =>
        t.link k = { x with stim := none, txq := x.txq ++ [.frame (q.val :: (List.range 7).map fun j => wd (u.load (a + 8 * j) 8))] } ∧ Only { links := [k] } u t) ∧
      ((∀ j < 7, u.region none (a + 8 * j) = .unmapped) → Completes (.stimulusBufferRead dt l) z fun t =>
        let ft := u.fget F.CLCFG_FTILE 0 l
        t.link k = { x with stim := none } ∧ t.ctl = u.ctl ++ [.faultTok ft (u.mkFault q.tag (some q) 3 5 ft 0)] ∧ Only { links := [k], parts := [.ctl] } u t))) ∧
  (∀ (z : State) (dt : Nat) (l : Fin 16),
    let u := z.advance dt
    let k := LinkId.fabric l
    let x := u.link k
    let id := (x.dreqId + 1) % 256
    let identBlock := (8, ctlBlock 0x0F (toBytes 2 u.devnum ++ toBytes 1 l), 0)
    let dreqBlock := (4, ctlBlock 0x0D (toBytes 1 id), 0)
    (u.linkSt k = 2 → x.liveSeen = true → u.peerOk k = true → u.Unwatched → Completes (.linkUp dt k) z fun t =>
      t.linkSt k = 3 ∧ t.rxSeq k = 0 ∧ t.txSeq k = 0 ∧ t.fget F.FLSTAT_MISWIRE 0 l = 0 ∧ Leaves u t .FLSTAT 0 l [F.FLSTAT_STATE, F.FLSTAT_MISWIRE, F.FLSTAT_RXSEQ, F.FLSTAT_TXSEQ] ∧
      t.reg .FLDLY 0 l = 0 ∧ t.reg .DPEND 0 0 = u.reg .DPEND 0 0 ||| 8 ∧ (∀ p < 8, tget (t.link k).cred 0 p = 64) ∧
      t.link k = { x with
        vseq := 0, ackRx := u.now, cred := (t.link k).cred, owed := [], identAt := u.count, dreqId := id, dreq := none, dreqAt := u.count,
        ctrl := x.ctrl ++ [identBlock, dreqBlock] } ∧
      Only { regs := [(.FLSTAT, 0, l), (.FLDLY, 0, l), (.DPEND, 0, 0)], links := [k] } u t) ∧
    ((∃ p ∈ x.owed, p.2 ≠ 0) → x.owedAt + 409 ≤ u.now → Completes (.credDue dt l) z fun t => t.link k = { x with credDue := true } ∧ Only { links := [k] } u t) ∧
    ((∀ p ∈ x.owed, p.2 = 0) ∨ u.now < x.owedAt + 409 → Completes (.credDue dt l) z fun t => Only {} u t) ∧
    (u.linkSt k = 3 → 1024 ≤ (u.count + 2 ^ 48 - x.dreqAt) % 2 ^ 48 → Completes (.periodicDelayMeasure dt l) z fun t =>
      t.link k = { x with dreqId := id, dreq := none, dreqAt := u.count, ctrl := x.ctrl ++ [dreqBlock] } ∧ Only { links := [k] } u t) ∧
    (u.linkSt k ≠ 3 ∨ (u.count + 2 ^ 48 - x.dreqAt) % 2 ^ 48 < 1024 → Completes (.periodicDelayMeasure dt l) z fun t => Only {} u t) ∧
    (Completes (.periodicIdent dt) z fun t =>
      t.link k = (if u.linkSt k = 3 ∧ 1024 ≤ (u.count + 2 ^ 48 - x.identAt) % 2 ^ 48 then { x with identAt := u.count, ctrl := x.ctrl ++ [identBlock] } else x) ∧
      Only { links := (List.finRange 16).map LinkId.fabric } u t)) ∧
  (∀ (z : State) (who : Req) (k : LinkId) (v : Word), z.Passes who (linkCfg k) 0 (lkIx k) v →
    let old := z.reg (linkCfg k) 0 (lkIx k)
    let fixed := wbits old 0 1 = 1 ∧ wbits old 1 1 ≠ wbits v 1 1
    let kept := if isFab k then v else wset v 4 1 0
    let safex := isFab k = false ∧ wbits v 4 1 = 1
    (wbits v 0 1 = 1 →
      (fixed → who ≠ .host → z.canTell who → Completes (.linkEnable who k v) z fun t => RefusedWith z t who 3 1) ∧
      (¬fixed → z.linkSt k = 0 → Completes (.linkEnable who k v) z fun t =>
        t.reg (linkCfg k) 0 (lkIx k) = kept ∧ t.linkSt k = 1 ∧ t.link k = z.link k ∧ Leaves z t (lkStat k) 0 (lkIx k) [F.CLSTAT_STATE, F.FLSTAT_STATE, F.FLSTAT_MISWIRE] ∧
        Only ((toldChanges who).and { regs := [(linkCfg k, 0, lkIx k), (lkStat k, 0, lkIx k)] }) z t) ∧
      (¬fixed → z.linkSt k ≠ 0 → ¬safex → Completes (.linkEnable who k v) z fun t =>
        t.reg (linkCfg k) 0 (lkIx k) = kept ∧ Only ((toldChanges who).and { regs := [(linkCfg k, 0, lkIx k)] }) z t)) ∧
    (wbits v 0 1 = 0 →
      (fixed → who ≠ .host → z.canTell who → Completes (.linkDisable who k v) z fun t => RefusedWith z t who 3 1) ∧
      (¬fixed → z.linkSt k ≠ 0 → z.Unwatched → Completes (.linkDisable who k v) z fun t =>
        t.reg (linkCfg k) 0 (lkIx k) = kept ∧ t.linkSt k = 0 ∧ t.link k = (z.link k).emptied ∧
        t.fget (lkF k F.CLSTAT_LOSTF F.FLSTAT_LOSTF) 0 (lkIx k) = z.fget (lkF k F.CLSTAT_LOSTF F.FLSTAT_LOSTF) 0 (lkIx k) ∧
        t.reg .DPEND 0 0 = z.reg .DPEND 0 0 ||| linkPends k (decide (z.linkSt k = 3)) false ∧
        Only ((toldChanges who).and { regs := [(linkCfg k, 0, lkIx k), (lkStat k, 0, lkIx k), (.DPEND, 0, 0)], links := [k] }) z t))) ∧
  (∀ (z : State) (who : Req) (l : Fin 32), z.Passes who .CLCFG 0 l (wset (z.reg .CLCFG 0 l) 4 1 1) → z.fget F.CLCFG_EN 0 l = 1 →
    let k := LinkId.catch_ l
    (z.linkSt k = 3 → Completes (.safex who l) z fun t =>
      t.link k = { z.link k with ctrl := (z.link k).ctrl ++ [(5, ctlBlock 0x0B [], 0)] } ∧ t.reg .CLCFG 0 l = wset (z.reg .CLCFG 0 l) 4 1 0 ∧
      Only ((toldChanges who).and { regs := [(.CLCFG, 0, l)], links := [k] }) z t) ∧
    (z.linkSt k = 1 ∨ z.linkSt k = 2 → Completes (.safex who l) z fun t =>
      t.reg .CLCFG 0 l = wset (z.reg .CLCFG 0 l) 4 1 0 ∧ Only ((toldChanges who).and { regs := [(.CLCFG, 0, l)] }) z t))

/-! ### The fabric and its clocks -/

/-- 11 R288, R289, R292 to R298: a fabric frame in order is counted; a malformed one and one that ends here with a wrong CRC are dropped and counted, a token for this device enters the mesh, and a RET of its own becomes a fault token; a gateway delivers, sends, passes on, holds or returns a token by the entry of the bank that serves its take. -/
def Obligations.FabricFramesAreTakenAndRouted : Prop :=
  (∀ row ∈ [fun dt l w => Instr.fabricTokenFrame dt l w, fun dt l w => Instr.retFrame dt l w], ∀ (z : State) (dt : Nat) (l : Fin 16) (w : List Word),
    let u := z.advance dt
    let k := LinkId.fabric l
    let x := u.link k
    let behind := (u.rxSeq k + 4096 - fSeq w) % 4096
    let g := l.val / 4
    let tk := frameFab l w
    let crc := some (fabCrc w)
    let took := fun (t : State) => RxAdvanced u t k ∧ Sets u t F.FLCNT1_RXFR 0 l ((u.fget F.FLCNT1_RXFR 0 l + 1) % 2 ^ 32) ∧ CreditOwed t (fun j => (u.link j).framed u.now) u.now tk.via
    let base := { regs := [(.FLSTAT, 0, l), (.FLCNT1, 0, l)], links := [k] : Changes }
    (u.linkSt k ≠ 3 ∨ x.dropping = true → Completes (row dt l w) z fun t => Only {} u t) ∧
    (u.linkSt k = 3 → x.dropping = false → behind ≠ 0 → Completes (row dt l w) z fun t =>
      t.link k = (if behind ≤ 2048 then { x with ackDue := true } else { x with dropping := true, nakDue := true }) ∧ Only { links := [k] } u t) ∧
    (u.linkSt k = 3 → x.dropping = false → fSeq w = u.rxSeq k →
      (fabFrameBad w = true → Completes (row dt l w) z fun t => took t ∧ Counts u t F.FLCNT0_CRCERR 0 l 1 ∧ Only (base.and { regs := [(.FLCNT0, 0, l)] }) u t) ∧
      (fabFrameBad w = false → u.fabHere tk = true → tk.crc ≠ crc → Completes (row dt l w) z fun t =>
        took t ∧ Counts u t F.FABSTAT_E2EERR 0 0 1 ∧ Only (base.and { regs := [(.FABSTAT, 0, 0)] }) u t) ∧
      (fabFrameBad w = false → u.fabHere tk = true → tk.crc = crc → tget u.fgq [] g = [] →
        (tk.ret = 0 → u.freeWay (fgRouter g) true (u.fabPacket g tk (.node tk.tok.tile)) → Completes (row dt l w) z fun t =>
          took t ∧ FabOffered u t g tk (.node tk.tok.tile) ∧ Gateways u t g [] ∧ Only (base.and { parts := [.mesh, .stamp, .fabric] }) u t) ∧
        (tk.ret ≠ 0 → Completes (row dt l w) z fun t =>
          took t ∧ t.ctl = u.ctl ++ [u.returnToken tk] ∧ Gateways u t g [] ∧ Only (base.and { parts := [.ctl, .fabric] }) u t)))) ∧
  (∀ (z : State) (dt : Nat) (g : Fin 4) (k : FabTok),
    let u := z.advance dt
    let owed := fun (t : State) => CreditOwed t u.link u.now k.via
    let base := { links := viaLinks k.via, parts := [.fabric] : Changes }
    tget u.fgq [] g = [k] →
    (u.fabHere k = true → k.ret = 0 → u.freeWay (fgRouter g) true (u.fabPacket g k (.node k.tok.tile)) → Completes (.fabricRoute dt g) z fun t =>
      FabOffered u t g k (.node k.tok.tile) ∧ owed t ∧ Gateways u t g [] ∧ Only (base.and { parts := [.mesh, .stamp] }) u t) ∧
    (u.fabHere k = true → k.ret ≠ 0 → Completes (.fabricRoute dt g) z fun t =>
      t.ctl = u.ctl ++ [u.returnToken k] ∧ owed t ∧ Gateways u t g [] ∧ Only (base.and { parts := [.ctl] }) u t) ∧
    (u.fabHere k = false → u.fabHeld k = true → Completes (.fabricRoute dt g) z fun t => Gateways u t g [k] ∧ Only { parts := [.fabric] } u t) ∧
    (∀ e, u.fabHere k = false → u.fabHeld k = false → u.entryFor k e →
      let l := bits e 0 4
      let sub := if bits e 5 1 = 1 then 1 else k.sub
      let key := LinkId.fabric (Fin.ofNat 16 l)
      let tok := if k.ret = 0 then { k.tok with dst := wset k.tok.dst 8 4 (k.tok.hops - 1) } else k.tok
      (u.stopReason k e = 0 → l / 4 = g.val → key ∉ viaLinks k.via → fabWaits (u.link key) k.tok.cls sub = false → Completes (.fabricRoute dt g) z fun t =>
        t.link key = { u.link key with txq := (u.link key).txq ++ [.fab k.tok.cls sub (k.frame sub tok)] } ∧ owed t ∧ Gateways u t g [] ∧ Only (base.and { links := [key] }) u t) ∧
      (u.stopReason k e = 0 → l / 4 = g.val → fabWaits (u.link key) k.tok.cls sub = true → Completes (.fabricRoute dt g) z fun t =>
        Gateways u t g [k] ∧ Only { parts := [.fabric] } u t) ∧
      (u.stopReason k e = 0 → l / 4 ≠ g.val → u.freeWay (fgRouter g) true (u.fabPacket g k (.fabric (l / 4))) → Completes (.fabricRoute dt g) z fun t =>
        FabOffered u t g k (.fabric (l / 4)) ∧ owed t ∧ Gateways u t g [] ∧ Only (base.and { parts := [.mesh, .stamp] }) u t) ∧
      (u.stopReason k e ≠ 0 →
        let hops := fun (t : State) => if u.stopReason k e = 3 then Counts u t F.FABSTAT_HOPSX 0 0 1 else t.reg .FABSTAT 0 0 = u.reg .FABSTAT 0 0
        (k.ret = 0 → k.sdev = u.devnum → Completes (.fabricRoute dt g) z fun t =>
          t.ctl = u.ctl ++ [u.returnToken k] ∧ hops t ∧ owed t ∧ Gateways u t g [] ∧ Only (base.and { regs := [(.FABSTAT, 0, 0)], parts := [.ctl] }) u t) ∧
        (k.ret = 0 → k.sdev ≠ u.devnum → Completes (.fabricRoute dt g) z fun t =>
          Gateways u t g [{ k with ret := u.stopReason k e, sub := 0, crc := none }] ∧ hops t ∧ Only { regs := [(.FABSTAT, 0, 0)], parts := [.fabric] } u t) ∧
        (k.ret ≠ 0 → Completes (.fabricRoute dt g) z fun t =>
          Counts u t F.FABSTAT_RETLOST 0 0 1 ∧ owed t ∧ Gateways u t g [] ∧ Only (base.and { regs := [(.FABSTAT, 0, 0)] }) u t)))) ∧
  (∀ (z : State) (dt : Nat),
    let u := z.advance dt
    (∀ e, u.fabHoldTo = some e → e ≤ u.now → (∀ g < 4, tget u.fgq [] g = []) → Completes (.holdtExpiry dt) z fun t =>
      t.fabHoldTo = none ∧ (∀ g, tget t.fgq [] g = tget u.fgq [] g) ∧ t.drainSeen = u.drainSeen ∧ Only { parts := [.fabric] } u t) ∧
    ((∀ e, u.fabHoldTo = some e → u.now < e) → Completes (.holdtExpiry dt) z fun t => Only {} u t)) ∧
  (∀ (z : State) (b : Fin 2),
    let old := z.fget F.RTBANK_STATE 0 b = 3 ∧ z.fget F.FABCFG_RETSTR 0 0 ≤ z.fget F.RTBANK_QUIET 0 b
    (old → Completes (.oldBankFree b) z fun t => Sets z t F.RTBANK_STATE 0 b 0 ∧ Only { regs := [(.RTBANK, 0, b)] } z t) ∧
    (¬old → Completes (.oldBankFree b) z fun t => Only {} z t)) ∧
  (∀ (z : State) (who : Req) (b : Fin 2) (v : Word), z.Passes who .RTBANK 0 b v →
    let st := z.fget F.RTBANK_STATE 0 b
    let fixed := st ≠ 0 ∧ wbits v 0 16 ≠ z.fget F.RTBANK_FROM 0 b
    let is := fun (n : Nat) (t : State) =>
      t.fget F.RTBANK_STATE 0 b = n ∧ t.fget F.RTBANK_FROM 0 b = wbits v 0 16 ∧ t.fget F.RTBANK_QUIET 0 b = z.fget F.RTBANK_QUIET 0 b ∧
      Only ((toldChanges who).and { regs := [(.RTBANK, 0, b)] }) z t
    (wbits v 18 1 = 1 →
      (fixed → who ≠ .host → z.canTell who → Completes (.rtbankStage who b v) z fun t => RefusedWith z t who 3 1) ∧
      (¬fixed → st ≠ 1 ∨ wbits v 19 1 = 0 → Completes (.rtbankStage who b v) z (is (if st = 0 then 1 else st)))) ∧
    (wbits v 19 1 = 1 →
      (fixed → who ≠ .host → z.canTell who → Completes (.rtbankUnstage who b v) z fun t => RefusedWith z t who 3 1) ∧
      (¬fixed → st ≠ 0 ∨ wbits v 18 1 = 0 → Completes (.rtbankUnstage who b v) z (is (if st = 1 then 0 else st)))))

/-- 04 R84 and 11 R300, R301, R303: a MARKER of a fabric link is remembered, the followed link stays or the one with the fewest hops is taken, and its target replaces the next one; a Sync of the selected master measures its offset and steers the servo within 100 ppm, locks it at the 16th within bounds and unlocks it beyond 1 µs; Announces select the best master, its change or the end of its Syncs loses the lock, and a delay response gives the path delay. -/
def Obligations.MarkersAndPtpSteerTheStroke : Prop :=
  (∀ (z : State) (dt t10 : Nat) (l : Fin 16) (b : List Byte),
    let u := z.advance dt
    let k := LinkId.fabric l
    let goes := fun (t : State) =>
      t.link k = { u.link k with mark := some (blkByte b 7 % 16, 0) } ∧ (∀ f, u.stroke.follow = some f → (t.markHops f).isSome = true → t.stroke.follow = some f) ∧
      ((∀ f, u.stroke.follow = some f → t.markHops f = none) →
        (∀ f, t.stroke.follow = some f → f < 16 ∧ ∃ h, t.markHops f = some h ∧ ∀ j < 16, ∀ i, t.markHops j = some i → h < i ∨ h = i ∧ f ≤ j) ∧
        (t.stroke.follow = none → ∀ j < 16, t.markHops j = none))
    (u.strkSrc ≠ 2 → BlockTaken (.marker dt l b t10) z u k 3 0x0C (List.range 10) b (fun t =>
      goes t ∧ t.stroke = { u.stroke with follow := t.stroke.follow } ∧ Only { links := [k], parts := [.stroke] } u t)) ∧
    (let e := 2 * (t10 - u.fget F.FLDLY_DLY 0 l - blkNum b 8 2)
     u.strkSrc = 2 → u.dev ≠ .standby → u.stroke.follow = some l.val → u.fget F.FLDLY_DVALID 0 l = 1 → blkNum b 1 6 = (u.count + 1) % 2 ^ 48 → gap e u.stroke.tgt ≤ 8000 →
      BlockTaken (.marker dt l b t10) z u k 3 0x0C (List.range 10) b (fun t =>
        goes t ∧ t.stroke = { u.stroke with tgt := e, seen := true, missed := 0, first := false } ∧ Only { links := [k], parts := [.stroke] } u t))) ∧
  (∀ (z : State) (dt : Nat) (m : PtpMsg),
    let u := z.advance dt
    let k := u.stroke
    let p := k.ptp
    let takes := u.fget F.PTPCFG_EN 0 0 = 1 ∧ u.strkSrc = 1 ∧ u.fget F.PTPCFG_PORT 0 0 = m.port.val ∧ u.fget F.PTPCFG_DOMAIN 0 0 = m.domain
    let diff : Int := (m.receipt : Int) - (m.origin + m.correction : Nat)
    let ofs := diff + p.off - p.delay
    let good := if ofs.natAbs ≤ 100 then min 16 (p.good + 1) else 0
    let most := min ofs.natAbs ((u.now - p.syncAt) * 125 / 20000)
    let heard := { p with diff := diff, syncAt := u.now, intv := m.interval }
    let steered := fun (t : State) => ∃ d ≤ most, t.stroke.ptp = { heard with good := good, off := if 0 < ofs then p.off - d else p.off + d }
    let shown := fun (t : State) => t.fget F.PTPSTAT_OFS 0 0 = trunc 32 (max (-2147483647) (min 2147483647 ofs))
    let locked := u.fget F.PTPSTAT_LOCKED 0 0 = 1
    (¬takes ∨ p.master ≠ some m.source → Completes (.ptpSync dt m) z fun t => Only {} u t) ∧
    (takes → p.master = some m.source →
      (ofs.natAbs ≤ 100000 → locked ∨ good < 16 → Completes (.ptpSync dt m) z fun t =>
        shown t ∧ steered t ∧ t.stroke = { k with ptp := t.stroke.ptp } ∧ Leaves u t .PTPSTAT 0 0 [F.PTPSTAT_OFS] ∧ Only { regs := [(.PTPSTAT, 0, 0)], parts := [.stroke, .free] } u t) ∧
      (good = 16 → ¬locked → k.first = false → Completes (.ptpSync dt m) z fun t =>
        shown t ∧ steered t ∧ t.stroke = { k with missed := 0, ptp := t.stroke.ptp } ∧ t.fget F.PTPSTAT_LOCKED 0 0 = 1 ∧
        Only { regs := [(.PTPSTAT, 0, 0)], parts := [.stroke, .free] } u t) ∧
      (100000 < ofs.natAbs → locked → u.Unwatched → Completes (.ptpSync dt m) z fun t =>
        shown t ∧ PtpLost u t ∧ Only { regs := [(.PTPSTAT, 0, 0), (.DPEND, 0, 0)], parts := [.stroke, .free] } u t) ∧
      (100000 < ofs.natAbs → ¬locked → Completes (.ptpSync dt m) z fun t =>
        shown t ∧ t.stroke = { k with ptp := { heard with good := 0, off := p.off - ofs } } ∧ Only { regs := [(.PTPSTAT, 0, 0)], parts := [.stroke] } u t)) ∧
    (¬takes → Completes (.ptpAnnounce dt m) z fun t => Only {} u t) ∧
    (takes →
      let lives := fun (s r e : Nat) => s = m.source ∧ r = m.rank ∧ e = u.now + 3 * m.interval ∨ s ≠ m.source ∧ (s, r, e) ∈ p.anns ∧ u.now ≤ e
      let chosen := fun (t : State) =>
        (∀ s r e, (s, r, e) ∈ t.stroke.ptp.anns ↔ lives s r e) ∧ ∃ b r e, t.stroke.ptp.master = some b ∧ lives b r e ∧ ∀ s q f, lives s q f → r ≤ q
      let same := fun (t : State) => t.stroke.ptp.syncAt = if t.stroke.ptp.master = p.master then p.syncAt else u.now
      (p.master = none ∨ ¬locked → Completes (.ptpAnnounce dt m) z fun t =>
        chosen t ∧ same t ∧ t.stroke = { k with ptp := { p with anns := t.stroke.ptp.anns, master := t.stroke.ptp.master, syncAt := t.stroke.ptp.syncAt, good := t.stroke.ptp.good } } ∧
        Only { parts := [.stroke] } u t) ∧
      (p.master ≠ none → locked → u.Unwatched → Completes (.ptpAnnounce dt m) z fun t =>
        chosen t ∧ same t ∧ (t.stroke.ptp.master ≠ p.master → PtpLost u t) ∧
        (t.stroke.ptp.master = p.master → t.fget F.PTPSTAT_LOCKED 0 0 = 1 ∧ t.stroke.ptp.good = p.good ∧ t.stroke.missed = k.missed) ∧
        Only { regs := [(.PTPSTAT, 0, 0), (.DPEND, 0, 0)], parts := [.stroke] } u t)) ∧
    (¬takes → Completes (.delayResponse dt m) z fun t => Only {} u t) ∧
    (takes → u.fget F.PTPCFG_DMECH 0 0 = 1 → Completes (.delayResponse dt m) z fun t =>
      t.stroke = { k with ptp := { p with delay := ((m.receipt : Int) - m.origin - m.correction) / 2 } } ∧ Only { parts := [.stroke] } u t) ∧
    (takes → u.fget F.PTPCFG_DMECH 0 0 = 0 → p.master = some m.source → Completes (.delayResponse dt m) z fun t =>
      t.stroke = { k with ptp := { p with delay := (p.diff + ((m.origin : Int) - m.correction - m.receipt)) / 2 } } ∧ Only { parts := [.stroke] } u t) ∧
    (takes → u.fget F.PTPCFG_DMECH 0 0 = 0 → p.master ≠ some m.source → Completes (.delayResponse dt m) z fun t => Only {} u t)) ∧
  (∀ (z : State) (dt : Nat),
    let u := z.advance dt
    let p := u.stroke.ptp
    let past := u.strkSrc = 1 ∧ u.fget F.PTPCFG_EN 0 0 = 1 ∧ p.syncAt + 4 * p.intv ≤ u.now
    (past → u.fget F.PTPSTAT_LOCKED 0 0 = 1 → u.Unwatched → Completes (.ptpSyncTimeout dt) z fun t =>
      PtpLost u t ∧ t.stroke = { u.stroke with missed := 4, ptp := { p with good := 0 } } ∧ Only { regs := [(.PTPSTAT, 0, 0), (.DPEND, 0, 0)], parts := [.stroke] } u t) ∧
    (past → u.fget F.PTPSTAT_LOCKED 0 0 = 0 → Completes (.ptpSyncTimeout dt) z fun t => t.stroke = { u.stroke with ptp := { p with good := 0 } } ∧ Only { parts := [.stroke] } u t) ∧
    (¬past → Completes (.ptpSyncTimeout dt) z fun t => Only {} u t))

/-! ### Banks, rushes and the map-out of a channel -/

/-- 10 R252 to R254 and R260 to R266: a change of a bank's mode is refused, made at once with its time, or delayed by its borrow, and ends after that time; rushes borrow the next region that may be borrowed, copy, test and give back with one outcome counted; a map-out starts on command or at the limit of a channel's uncorrectable errors, and ends with the last of its segments. -/
def Obligations.BanksRushAndMapOut : Prop :=
  (∀ (z : State) (who : Req) (d : TileId) (v : Word), z.Passes who .BANKPWR d 0 v →
    let old := z.reg .BANKPWR d 0
    let mode := fun (w : Word) (b : Nat) => wbits w (2 * b) 2
    let wrong := ∃ b < 32, mode old b ≠ mode v b ∧ (mode v b = 3 ∨ mode old b = 2 ∧ mode v b = 1)
    let live := z.dev = .armed ∨ z.dev = .running ∨ z.dev = .draining
    let used := live ∧ ∃ b < 32, mode old b = 0 ∧ mode v b ≠ 0 ∧ (z.activeBank d).c0banks.testBit b = true
    let x := z.tile d
    (wrong ∨ used → who ≠ .host → z.canTell who → Completes (.bankpwrWrite who d v) z fun t => RefusedWith z t who 2 1) ∧
    (∀ b < 32, ¬wrong → ¬used → oneBank old v b →
      let frm := mode old b
      let dest := mode v b
      ((∀ k, x.borrow = some k → k.phase = 0 ∨ k.region / 16 ≠ b) → (∀ k ∈ x.bankTrans, k.bank ≠ b) → Completes (.bankpwrWrite who d v) z fun t =>
        t.reg .BANKPWR d 0 = wset old (2 * b) 2 dest ∧ t.reg .BANKSTAT d 0 = wset (z.reg .BANKSTAT d 0) b 1 1 ∧
        t.tile d = { x with bankTrans := x.bankTrans ++ [⟨b, frm, dest, some (z.now + powerTime frm dest)⟩] } ∧
        Only ((toldChanges who).and { regs := [(.BANKPWR, d, 0), (.BANKSTAT, d, 0)], tiles := [d] }) z t) ∧
      (∀ k, x.borrow = some k → k.phase = 1 ∨ k.phase = 2 → k.region / 16 = b → k.region < 512 → (∀ e ∈ x.bankTrans, e.bank ≠ b) → Completes (.bankpwrWrite who d v) z fun t =>
        t.reg .BANKSTAT d 0 = wset (z.reg .BANKSTAT d 0) b 1 1 ∧ t.fget F.RUSHSTAT_PHASE d 0 = 3 ∧
        t.tile d = { x with bankTrans := x.bankTrans ++ [⟨b, frm, dest, none⟩], borrow := some { k with phase := 3, aborted := true } } ∧
        Only ((toldChanges who).and { regs := [(.BANKSTAT, d, 0), (.RUSHSTAT, d, 0)], tiles := [d] }) z t)) ∧
    (v = old → ¬wrong → Completes (.bankpwrWrite who d v) z fun t => Only (toldChanges who) z t)) ∧
  (∀ (z : State) (dt : Nat) (d : TileId) (b : Fin 32) (k : BankTrans),
    let u := z.advance dt
    let x := u.tile d
    let mode := wbits (u.reg .BANKPWR d 0) (2 * b) 2
    let ended := fun (t : State) =>
      t.tile d = { x with bankTrans := x.bankTrans.filter fun e => e.bank ≠ b.val } ∧ t.reg .BANKSTAT d 0 = wset (u.reg .BANKSTAT d 0) b 1 0 ∧
      (k.dest = 0 → mode ≠ 0 → t.reg .BANKPWR d 0 = wset (u.reg .BANKPWR d 0) (2 * b) 2 0 ∧ Counts u t F.WAKES_COUNT d 0 1) ∧
      (k.dest ≠ 0 ∨ mode = 0 → t.reg .BANKPWR d 0 = u.reg .BANKPWR d 0 ∧ t.reg .WAKES d 0 = u.reg .WAKES d 0)
    let base := { regs := [(.BANKPWR, d, 0), (.BANKSTAT, d, 0), (.WAKES, d, 0)], tiles := [d] : Changes }
    k ∈ x.bankTrans → k.bank = b.val → (∀ e ∈ x.bankTrans, e.bank = b.val → e = k) →
    (∀ e, k.endAt = some e → e ≤ u.now →
      (¬(k.frm = 2 ∧ k.dest = 0) → Completes (.bankTransitionComplete dt d b) z fun t => ended t ∧ Only base u t) ∧
      (k.frm = 2 → k.dest = 0 → Completes (.bankTransitionComplete dt d b) z fun t =>
        ended t ∧ (∀ a, (∀ j < 8192, a / 8 ≠ spadAddr d 0 / 8 + 32 * j + b) → byteAt t.mem a = byteAt u.mem a) ∧ t.freeCtr = u.freeCtr + 16384 ∧
        Only (base.and { parts := [.mem, .ecc, .free] }) u t)) ∧
    ((∀ e, k.endAt = some e → u.now < e) → Completes (.bankTransitionComplete dt d b) z fun t => Only {} u t)) ∧
  (∀ (z : State) (dt : Nat) (q : Option TileId) (fail : Option (Nat × Nat × Nat)) (c : Borrow),
    let u := z.advance dt
    u.rushOf q = some c → c.phase < 4 →
    (c.phase = 1 → Completes (.copyComplete dt q) z fun t => Borrowed u t q { c with phase := 2, early := [] } ∧ t.written q = u.written q ∧ t.moveStart = u.moveStart ∧ Only (borrowChanges q) u t) ∧
    (c.phase ≠ 1 → Completes (.copyComplete dt q) z fun t => Only {} u t) ∧
    (c.phase = 2 → Completes (.testComplete dt q fail) z fun t => Borrowed u t q { c with phase := 3, fail := fail } ∧ t.written q = u.written q ∧ t.moveStart = u.moveStart ∧ Only (borrowChanges q) u t) ∧
    (c.phase ≠ 2 → Completes (.testComplete dt q fail) z fun t => Only {} u t) ∧
    (c.phase ≠ 3 → Completes (.borrowEnd dt q) z fun t => Only {} u t) ∧
    (c.phase = 3 →
      let way := if c.aborted = true then 3 else if u.written q = 1 then 2 else if c.fail = none then 0 else 1
      let back := { c with phase := 0, early := [] }
      (∀ d, q = some d → (∀ e ∈ (u.tile d).bankTrans, e.endAt ≠ none) → (u.tile d).power = none → Completes (.borrowEnd dt q) z fun t =>
        Counts u t (rushCounter q way) d 0 1 ∧ t.fget F.RUSHSTAT_PHASE d 0 = 0 ∧ t.fget F.RUSHSTAT_WRITTEN d 0 = u.fget F.RUSHSTAT_WRITTEN d 0 ∧
        t.tile d = { u.tile d with borrow := some back, rushAt := u.count + u.fget F.RUSHCFG_PACE d 0 } ∧
        (way ≠ 1 → t.reg .RUSHLOG d 0 = u.reg .RUSHLOG d 0 ∧ t.reg .BANKSTAT d 0 = u.reg .BANKSTAT d 0) ∧
        (∀ w col n, way = 1 → c.fail = some (w, col, n) → c.region < 512 →
          t.fget F.RUSHLOG_BANK d 0 = c.region / 16 ∧ t.fget F.RUSHLOG_WORD d 0 = w % 8192 ∧ t.fget F.RUSHLOG_COL d 0 = col % 128 ∧ t.fget F.RUSHLOG_STROKE d 0 = u.count % 2 ^ 39 ∧
          t.reg .BANKSTAT d 0 = wset (u.reg .BANKSTAT d 0) (32 + c.region / 16) 1 1) ∧
        Only { regs := [(.RUSHCNT, d, 0), (.RUSHSTAT, d, 0), (.RUSHLOG, d, 0), (.BANKSTAT, d, 0)], tiles := [d] } u t) ∧
      (q = none → Completes (.borrowEnd dt q) z fun t =>
        Counts u t (rushCounter q way) 0 0 1 ∧ Borrowed u t q back ∧ t.written q = u.written q ∧ t.moveStart = u.moveStart ∧
        (way ≠ 1 → t.reg .RDLOG 0 0 = u.reg .RDLOG 0 0 ∧ t.reg .DPEND 0 0 = u.reg .DPEND 0 0) ∧
        (∀ ch lc n, way = 1 → c.fail = some (ch, lc, n) →
          t.fget F.RDLOG_CH 0 0 = ch % 32 ∧ t.fget F.RDLOG_LC 0 0 = lc % 2 ^ 31 ∧ t.fget F.RDLOG_BIT 0 0 = n % 8 ∧ t.reg .DPEND 0 0 = u.reg .DPEND 0 0 ||| 128) ∧
        Only ((borrowChanges q).and { regs := [(.RDCNT, 0, 0), (.RDLOG, 0, 0), (.DPEND, 0, 0)] }) u t))) ∧
  (∀ (z : State) (dt : Nat) (q : Option TileId),
    let u := z.advance dt
    let en := match q with | some d => u.fget F.RUSHCFG_EN d 0 | none => u.fget F.RDCFG_EN 0 0
    let last := u.rushOf q
    let size := match q with | some _ => 512 | none => u.fget F.DRSTAT_DSIZE 0 0
    let fits := fun (k : Nat) => match q with | some d => u.fitsTile d k | none => k ≠ u.fget F.RDCFG_SHBASE 0 0
    let free := ∀ c, last = some c → c.phase = 0
    let ready := match q with | some d => u.tileOn d = true ∧ (u.tile d).power = none ∧ (u.tile d).rushAt ≤ u.count | none => True
    (∀ k, en = 1 → free → ready → nextBorrow last size fits k → Completes (.borrowStart dt q) z fun t =>
      Borrowed u t q ⟨k, 1, [], none, false⟩ ∧ t.written q = 0 ∧ t.moveStart = u.moveStart ∧ Only (borrowChanges q) u t) ∧
    (en ≠ 1 ∨ ¬free ∨ ¬ready ∨ (∀ k < size, ¬fits k) → Completes (.borrowStart dt q) z fun t => Only {} u t)) ∧
  (∀ (z : State) (who : Req) (q : Option TileId) (v : Word),
    let k : RegKind := match q with | some _ => .RUSHCFG | none => .RDCFG
    let d := match q with | some d => d.val | none => 0
    let en := wbits (z.reg k d 0) 0 1
    let past := q = none ∧ wbits v 0 1 = 1 ∧ z.fget F.DRSTAT_DSIZE 0 0 < wbits v 20 28 + 1
    let base := (toldChanges who).and { regs := [(k, d, 0)] }
    z.Passes who k d 0 v →
    (past → who ≠ .host → z.canTell who → Completes (.rushcfgEn who q v) z fun t => RefusedWith z t who 2 1) ∧
    (¬past → en ≠ 1 ∨ wbits v 0 1 = 1 ∨ (∀ c, z.rushOf q = some c → c.phase = 0 ∨ c.phase = 3) → Completes (.rushcfgEn who q v) z fun t => t.reg k d 0 = v ∧ Only base z t) ∧
    (∀ c, en = 1 → wbits v 0 1 = 0 → z.rushOf q = some c → c.phase = 1 ∨ c.phase = 2 → Completes (.rushcfgEn who q v) z fun t =>
      t.reg k d 0 = v ∧ Borrowed z t q { c with phase := 3, aborted := true } ∧ t.written q = z.written q ∧ t.moveStart = z.moveStart ∧ Only (base.and (borrowChanges q)) z t)) ∧
  (∀ (z : State) (who : Req) (v : Word), z.Passes who .MOCMD 0 0 v → wbits v 5 1 = 1 →
    let ready := z.fget F.DRCFG_RESV 0 0 = 1 ∧ z.fget F.DRSTAT_MOST 0 0 = 0
    (ready → Completes (.mocmdGo who v) z fun t => MapoutBegun z t (wbits v 0 5) ∧ Only ((toldChanges who).and (mapoutChanges (wbits v 0 5))) z t) ∧
    (¬ready → who ≠ .host → z.canTell who → Completes (.mocmdGo who v) z fun t => RefusedWith z t who 2 1)) ∧
  (∀ (z : State) (ch : Fin 32),
    let reached := z.fget F.DRCFG_UNCLIM 0 0 ≤ z.fget F.CHSTAT_UNC 0 ch
    let starts := z.fget F.DRCFG_AUTOMO 0 0 = 1 ∧ z.fget F.DRCFG_RESV 0 0 = 1 ∧ z.fget F.DRSTAT_MOST 0 0 = 0
    (reached → z.fget F.DRSTAT_MOST 0 0 = 2 → z.Unwatched → z.Shown → Completes (.unclimReached ch) z fun t => ReasonSet z t 4 ∧ Only reasonChanges z t) ∧
    (reached → starts → Completes (.unclimReached ch) z fun t => MapoutBegun z t ch ∧ Only (mapoutChanges ch) z t) ∧
    (¬reached ∨ ¬starts ∧ z.fget F.DRSTAT_MOST 0 0 ≠ 2 → Completes (.unclimReached ch) z fun t => Only {} z t)) ∧
  (∀ (z : State) (dt : Nat),
    let u := z.advance dt
    let p := u.fget F.DRSTAT_MOPTR 0 0
    let ch := u.fget F.DRSTAT_MOCH 0 0
    (u.fget F.DRSTAT_MOST 0 0 = 1 → u.moveStart + 512 ≤ u.now → p < 1015807 → Completes (.segmentMoveComplete dt) z fun t =>
      Sets u t F.DRSTAT_MOPTR 0 0 (p + 1) ∧ t.moveStart = u.moveStart + 512 ∧ t.drRush = u.drRush ∧ Only { regs := [(.DRSTAT, 0, 0)], parts := [.rush] } u t) ∧
    (u.fget F.DRSTAT_MOST 0 0 = 1 → u.moveStart + 512 ≤ u.now → p = 1015807 → u.Unwatched → u.Shown → Completes (.segmentMoveComplete dt) z fun t =>
      t.fget F.DRSTAT_MOST 0 0 = 2 ∧ t.fget F.DRSTAT_MOPTR 0 0 = 1015808 ∧ t.fget F.DRSTAT_MOCH 0 0 = ch ∧ t.fget F.DRSTAT_DSIZE 0 0 = u.fget F.DRSTAT_DSIZE 0 0 ∧
      Sets u t F.CHSTAT_STATE 0 ch 2 ∧ t.riari = { u.riari with mapped := some ch } ∧ ReasonSet u t 1 64 ∧ t.drRush = u.drRush ∧
      Only (reasonChanges.and { regs := [(.DRSTAT, 0, 0), (.CHSTAT, 0, ch)], parts := [.rush, .riari] }) u t) ∧
    (u.fget F.DRSTAT_MOST 0 0 ≠ 1 ∨ u.now < u.moveStart + 512 → Completes (.segmentMoveComplete dt) z fun t => Only {} u t))

/-! ### The mesh -/

/-- 11 R272 to R284: an output grants one flit a cycle by the order of R273, and the flit goes to the next buffer, to its port, or is absorbed where the port is isolated; a packet that has arrived is delivered or answered as lost; a flit in error is sent again twice and then given up; a port that takes nothing for its time is isolated until UNISO; a refused token is offered again from its return queue; and a tile is fenced with markers from every router, and unfenced. -/
def Obligations.MeshGrantsDeliversAndFences : Prop :=
  (∀ (z : State) (dt : Nat) (net : Fin 2) (r : RouterId) (out : Fin 6) (corrected : Bool),
    let u := z.advance dt
    (∀ vc, tfind? u.mesh.granted (net.val, r.val, out.val) = some (u.now, vc) → Completes (.flitGrant dt net r out corrected) z fun t => Only {} u t) ∧
    (u.wanting net r out = [] → Completes (.flitGrant dt net r out corrected) z fun t => Only {} u t) ∧
    (∀ port p ptr, (∀ vc, tfind? u.mesh.granted (net.val, r.val, out.val) ≠ some (u.now, vc)) → u.now < 2 ^ 64 → u.flitWins net r out port p ptr → (port = 4 → u.noneKept r) →
      let key : PortKey := ⟨net, r, port, p.vc⟩
      let next : PortKey := ⟨net, neighbour r out, inPort out, p.vc⟩
      let took := fun (t : State) => FlitTaken u t net r out port p ptr
      (out.val < 4 → Completes (.flitGrant dt net r out corrected) z fun t =>
        took t ∧ Buffers u t (fun k => if k = key then some ((u.buf key).drop 1) else if k = next then some (u.buf next ++ [{ p with arr := u.now + 1, fails := 0 }]) else none) ∧
        t.mesh.ej = u.mesh.ej ∧ t.mesh.lastCred = u.mesh.lastCred ∧ t.reg .RTCNT1 0 r = wset (u.reg .RTCNT1 0 r) 32 16 (t.fget F.RTCNT1_C0W2 0 r) ∧
        (if corrected then Counts u t F.RTCNT0_COR 0 (neighbour r out) 1 else t.reg .RTCNT0 0 (neighbour r out) = u.reg .RTCNT0 0 (neighbour r out)) ∧
        Only { regs := [(.RTCNT1, 0, r), (.RTCNT0, 0, neighbour r out)], parts := [.mesh] } u t) ∧
      (4 ≤ out.val → u.isolated r out = false → Completes (.flitGrant dt net r out corrected) z fun t =>
        took t ∧ Buffers u t (fun k => if k = key then some ((u.buf key).drop 1) else none) ∧
        (∀ k, tget t.mesh.ej [] k = tget u.mesh.ej [] k ++ if k = (net.val, r.val, out.val) then [{ p with arr := u.now + if p.sr = r ∧ p.sedge = p.edge then 1 else 0 }] else []) ∧
        tget t.mesh.lastCred 0 (r.val, out.val) = u.now ∧ (∀ k, k ≠ (r.val, out.val) → tget t.mesh.lastCred 0 k = tget u.mesh.lastCred 0 k) ∧
        Only { regs := [(.RTCNT1, 0, r)], parts := [.mesh] } u t) ∧
      (4 ≤ out.val → u.isolated r out = true → p.idx + 1 ≠ p.len → Completes (.flitGrant dt net r out corrected) z fun t =>
        took t ∧ Buffers u t (fun k => if k = key then some ((u.buf key).drop 1) else none) ∧ t.fget F.RTCNT1_ABSORB 0 r = min (2 ^ 32 - 1) (u.fget F.RTCNT1_ABSORB 0 r + 1) ∧
        Only { regs := [(.RTCNT1, 0, r)], parts := [.mesh] } u t) ∧
      (∀ k dest stile, 4 ≤ out.val → u.isolated r out = true → p.idx + 1 = p.len → p.load = .tok k dest stile → p.sedge = false → p.sr ≠ 35 → Completes (.flitGrant dt net r out corrected) z fun t =>
        took t ∧ Buffers u t (fun k => if k = key then some ((u.buf key).drop 1) else none) ∧ t.fget F.RTCNT1_ABSORB 0 r = min (2 ^ 32 - 1) (u.fget F.RTCNT1_ABSORB 0 r + 1) ∧
        t.ctl = u.ctl ++ [u.lostToken k stile 0x11] ∧ Only { regs := [(.RTCNT1, 0, r)], parts := [.mesh, .ctl] } u t))) ∧
  (∀ (z : State) (dt : Nat) (net : Fin 2) (r : RouterId) (edge crcOk : Bool),
    let u := z.advance dt
    let key := (net.val, r.val, portNo edge)
    let whole := fun (p : Packet) => p.idx + 1 = p.len ∧ p.arr ≤ u.now
    let left := fun (t : State) (p : Packet) =>
      tget t.mesh.ej [] key = (tget u.mesh.ej [] key).filter (fun q => q.stamp ≠ p.stamp) ∧ (∀ k, k ≠ key → tget t.mesh.ej [] k = tget u.mesh.ej [] k) ∧ t.mesh = { u.mesh with ej := t.mesh.ej }
    (u.holdsPort r edge = true ∨ (∀ p ∈ tget u.mesh.ej [] key, ¬whole p) → Completes (.flitDelivery dt net r edge crcOk) z fun t => Only {} u t) ∧
    (∀ a p b, u.holdsPort r edge = false → tget u.mesh.ej [] key = a ++ p :: b → (∀ q ∈ a, ¬whole q) → whole p →
      (∀ k d stile, crcOk = true → p.load = .tok k (.node d) stile → p.rty = false → Completes (.flitDelivery dt net r edge crcOk) z fun t =>
        left t p ∧ t.tile d = { u.tile d with inM := tput (u.tile d).inM k.cls (tget (u.tile d).inM [] k.cls ++ [⟨k, false, .none⟩]) } ∧ Only { tiles := [d], parts := [.mesh] } u t) ∧
      (∀ k l stile, crcOk = true → p.load = .tok k (.lane l) stile → p.rty = false → Completes (.flitDelivery dt net r edge crcOk) z fun t =>
        left t p ∧ Arrived u t l (tget u.winq [] l ++ [k]) ∧ Only { parts := [.mesh, .windows] } u t) ∧
      (∀ k d q stile, crcOk = true → p.load = .tok k (.queue d q) stile → p.rty = false → Completes (.flitDelivery dt net r edge crcOk) z fun t =>
        left t p ∧ tget t.pushq [] (d, q) = tget u.pushq [] (d, q) ++ [(k, p.sr, p.sedge, p.stamp)] ∧ (∀ e, e ≠ (d, q) → tget t.pushq [] e = tget u.pushq [] e) ∧
        Only { parts := [.mesh, .pushes] } u t) ∧
      (∀ k g stile, crcOk = true → p.load = .tok k (.fabric g) stile → Completes (.flitDelivery dt net r edge crcOk) z fun t =>
        let f : FabTok := ⟨{ k with dst := wset k.dst 8 4 (u.fget F.FABCFG_MAXHOPS 0 0) }, 0, u.fget F.SLATE_TAKE 0 0, u.devnum, stile, 0, none, none⟩
        left t p ∧ Gateways u t g (tget u.fgq [] g ++ [f]) ∧ Only { parts := [.mesh, .fabric] } u t) ∧
      (∀ k l stile, l < 32 → crcOk = true → p.load = .tok k (.link l) stile → u.clUp l = false → Completes (.flitDelivery dt net r edge crcOk) z fun t =>
        left t p ∧ t.ctl = u.ctl ++ [u.lostToken k stile 0x11] ∧ Only { parts := [.mesh, .ctl] } u t) ∧
      (∀ m, crcOk = true → p.load = .req m → Completes (.flitDelivery dt net r edge crcOk) z fun t =>
        left t p ∧ t.bankReqs = u.bankReqs ++ m.splitAt 8 ∧ Only { parts := [.mesh, .banks] } u t) ∧
      (∀ k dest stile, crcOk = false → p.load = .tok k dest stile → p.sedge = false → p.sr ≠ 35 → Completes (.flitDelivery dt net r edge crcOk) z fun t =>
        left t p ∧ Counts u t F.RTCNT0_E2E 0 r 1 ∧ t.ctl = u.ctl ++ [u.lostToken k stile 0x10] ∧ Only { regs := [(.RTCNT0, 0, r)], parts := [.mesh, .ctl] } u t))) ∧
  (∀ (z : State) (dt : Nat) (net : Fin 2) (r : RouterId) (out : Fin 4),
    let u := z.advance dt
    (tfind? u.mesh.granted (net.val, r.val, out.val) = none → Completes (.flitResend dt net r out) z fun t => Only {} u t) ∧
    (∀ c vc l p, tfind? u.mesh.granted (net.val, r.val, out.val) = some (c, vc) →
      let key : PortKey := ⟨net, neighbour r out, inPort out, vc⟩
      u.buf key = l ++ [p] →
      (p.arr < u.now → Completes (.flitResend dt net r out) z fun t => Only {} u t) ∧
      (u.now ≤ p.arr → p.fails < 2 → Completes (.flitResend dt net r out) z fun t =>
        Buffers u t (fun k => if k = key then some (l ++ [{ p with arr := p.arr + 3, rty := true, fails := p.fails + 1 }]) else none) ∧ t.mesh = { u.mesh with buf := t.mesh.buf } ∧
        Counts u t F.RTCNT0_HRPL 0 r 1 ∧ Only { regs := [(.RTCNT0, 0, r)], parts := [.mesh] } u t) ∧
      (∀ k dest stile, u.now ≤ p.arr → 2 ≤ p.fails → p.load = .tok k dest stile → p.sedge = false → p.sr ≠ 35 → Completes (.flitResend dt net r out) z fun t =>
        (∀ b, t.buf b = (u.buf b).filter fun q => q.stamp ≠ p.stamp) ∧ t.mesh = { u.mesh with buf := t.mesh.buf, vcl := t.mesh.vcl } ∧
        Counts u t F.RTCNT0_HDROP 0 r 1 ∧ t.ctl = u.ctl ++ [u.lostToken k stile 0x10] ∧ Only { regs := [(.RTCNT0, 0, r)], parts := [.mesh, .ctl] } u t))) ∧
  (∀ (z : State) (dt : Nat) (r : RouterId) (edge : Bool),
    let u := z.advance dt
    let out := portNo edge
    let iso := if edge then F.RTCTL_ISOE else F.RTCTL_ISOL
    let beats := 8 * u.fget F.RTCTL_DTTO 0 r
    let dead := tget u.mesh.lastCred 0 (r.val, out) + beats ≤ u.now ∧ ∃ net < 2, ∃ q ∈ u.wanting net r out, q.2.arr + beats ≤ u.now
    (u.dttoRuns r edge = true → u.isolated r out = false → dead → u.Unwatched → Completes (.portIsolate dt r edge) z fun t =>
      Sets u t iso 0 r 1 ∧ t.reg .DPEND 0 0 = u.reg .DPEND 0 0 ||| 4 ∧ Only { regs := [(.RTCTL, 0, r), (.DPEND, 0, 0)] } u t) ∧
    (u.dttoRuns r edge = false ∨ u.isolated r out = true ∨ ¬dead → Completes (.portIsolate dt r edge) z fun t => Only {} u t)) ∧
  (∀ (z : State) (who : Req) (r : RouterId) (edge : Bool),
    let row := if edge then Instr.unisoe who r else .uniso who r
    let v := wset (z.reg .RTCTL 0 r) (if edge then 3 else 2) 1 1
    z.Passes who .RTCTL 0 r v → wbits (z.reg .RTCTL 0 r) 2 2 = 0 → Completes row z fun t =>
      Sets z t (if edge then F.RTCTL_ISOE else F.RTCTL_ISOL) 0 r 0 ∧ tget t.mesh.lastCred 0 (r.val, portNo edge) = z.now ∧
      (∀ k, k ≠ (r.val, portNo edge) → tget t.mesh.lastCred 0 k = tget z.mesh.lastCred 0 k) ∧ t.mesh = { z.mesh with lastCred := t.mesh.lastCred } ∧
      Only ((toldChanges who).and { regs := [(.RTCTL, 0, r)], parts := [.mesh] }) z t) ∧
  (∀ (z : State) (dt : Nat) (r : RouterId) (edge : Bool),
    let u := z.advance dt
    let key := (r.val, portNo edge)
    let q := u.retq r edge
    let alike := fun (e f : Packet × Nat × Bool) => e.1.dr = f.1.dr ∧ e.1.edge = f.1.edge
    let others := fun (t : State) => ∀ k, k ≠ key → tget t.mesh.ret [] k = tget u.mesh.ret [] k
    (tget u.mesh.bwait [] key = [] ∨ 16 ≤ q.length → Completes (.bounce dt r edge) z fun t => Only {} u t) ∧
    (∀ p l a b, tget u.mesh.bwait [] key = p :: l → q.length < 16 → q = a ++ b →
      let e := (p, u.now + 8, false)
      (∀ f ∈ a, ¬(alike f e ∧ p.stamp < f.1.stamp)) → (∀ f c, b = f :: c → alike f e ∧ p.stamp < f.1.stamp) → Completes (.bounce dt r edge) z fun t =>
        t.retq r edge = a ++ e :: b ∧ others t ∧ tget t.mesh.bwait [] key = l ∧ (∀ k, k ≠ key → tget t.mesh.bwait [] k = tget u.mesh.bwait [] k) ∧
        t.mesh = { u.mesh with ret := t.mesh.ret, bwait := t.mesh.bwait } ∧ Only { parts := [.mesh] } u t) ∧
    (tfind? u.mesh.offer key = some u.now → Completes (.bounceReoffer dt r edge) z fun t => Only {} u t) ∧
    (∀ a e b, tfind? u.mesh.offer key ≠ some u.now → q = a ++ e :: b → (q.map fun f => f.1.stamp).Nodup →
      (∀ f ∈ a, ¬alike f e) → e.2.1 ≤ u.now → e.2.2 = false →
      (∀ c f d, a = c ++ f :: d → u.now < f.2.1 ∨ f.2.2 = true ∨ ∃ g ∈ c, alike g f) →
      let buf : PortKey := ⟨e.1.net, r, portNo edge, e.1.vc⟩
      let offered := fun (t : State) => tfind? t.mesh.offer key = some u.now ∧ (∀ k, k ≠ key → tfind? t.mesh.offer k = tfind? u.mesh.offer k)
      (u.fencedAt r e.1.dr e.1.edge = true → Completes (.bounceReoffer dt r edge) z fun t =>
        offered t ∧ t.retq r edge = a ++ (e.1, e.2.1, true) :: b ∧ others t ∧ t.mesh = { u.mesh with ret := t.mesh.ret, offer := t.mesh.offer } ∧
        Counts u t F.RTCNT2_FRET 0 r 1 ∧ Only { regs := [(.RTCNT2, 0, r)], parts := [.mesh] } u t) ∧
      (u.fencedAt r e.1.dr e.1.edge = false → u.bufUsed buf + e.1.len ≤ bufCap e.1.vc → u.noneKept r → Completes (.bounceReoffer dt r edge) z fun t =>
        offered t ∧ t.retq r edge = a ++ b ∧ others t ∧ Buffers u t (fun k => if k = buf then some (u.buf buf ++ ({ e.1 with arr := u.now } : Packet).flits) else none) ∧
        t.mesh = { u.mesh with ret := t.mesh.ret, offer := t.mesh.offer, buf := t.mesh.buf } ∧ Only { parts := [.mesh] } u t) ∧
      (u.fencedAt r e.1.dr e.1.edge = false → bufCap e.1.vc < u.bufUsed buf + e.1.len → Completes (.bounceReoffer dt r edge) z fun t =>
        offered t ∧ t.mesh = { u.mesh with offer := t.mesh.offer } ∧ Only { parts := [.mesh] } u t))) ∧
  (∀ (z : State) (dt : Nat) (p : Fin 68) (r : RouterId),
    let u := z.advance dt
    (∀ rest, u.message (fun m => m = .fence p r) (.fence p r) rest → Completes (.fenceNotice dt p r) z fun t =>
      t.ctl = rest ∧ t.mesh.fenced = (p.val, r.val) :: u.mesh.fenced ∧
      (∀ net < 2, ∀ vc, 1 ≤ vc → vc ≤ 4 → ∃ n, t.buf ⟨net, r, 4, vc⟩ = u.buf ⟨net, r, 4, vc⟩ ++ [{ mkPacket net vc (routerOfPhys p) false r false 1 (.marker p) with arr := u.now + vc, stamp := n }]) ∧
      (∀ k : PortKey, ¬(k.net < 2 ∧ k.router = r.val ∧ k.port = 4 ∧ 1 ≤ k.vc ∧ k.vc ≤ 4) → t.buf k = u.buf k) ∧ t.mesh = { u.mesh with fenced := t.mesh.fenced, buf := t.mesh.buf } ∧
      Only { parts := [.ctl, .mesh, .stamp] } u t) ∧
    (.fence p r ∉ u.ctl → Completes (.fenceNotice dt p r) z fun t => Only {} u t) ∧
    (∀ rest, u.message (fun m => m = .unfence p r) (.unfence p r) rest → Completes (.unfence dt p r) z fun t =>
      t.ctl = rest ∧ t.mesh.fenced = (u.mesh.fenced.filter fun f => f ≠ (p.val, r.val)) ∧
      (r.val = routerOfPhys p → Sets u t F.RTCTL_FENCE 0 r 0) ∧ (r.val ≠ routerOfPhys p → t.reg .RTCTL 0 r = u.reg .RTCTL 0 r) ∧
      (∀ edge, t.retq r edge = (u.retq r edge).map fun f => if f.1.dr = routerOfPhys p ∧ f.1.edge = false then (f.1, f.2.1, false) else f) ∧
      (∀ k, k.1 ≠ r.val → tget t.mesh.ret [] k = tget u.mesh.ret [] k) ∧ t.mesh = { u.mesh with fenced := t.mesh.fenced, ret := t.mesh.ret } ∧
      Only { regs := [(.RTCTL, 0, r)], parts := [.ctl, .mesh] } u t) ∧
    (.unfence p r ∉ u.ctl → Completes (.unfence dt p r) z fun t => Only {} u t)) ∧
  (∀ (z : State) (dt : Nat) (p : Fin 68) (net : Fin 2),
    let u := z.advance dt
    let r := routerOfPhys p
    let l := (u.wanting net r 4).filter fun q => isMarker p q.2
    (tfind? u.mesh.markAt (p.val, net.val) = some u.now ∨ l = [] → Completes (.markerAbsorb dt p net) z fun t => Only {} u t) ∧
    (∀ port k, tfind? u.mesh.markAt (p.val, net.val) ≠ some u.now → (port, k) ∈ l → (∀ q ∈ l, q ≠ (port, k) → older (port, k) q) → Completes (.markerAbsorb dt p net) z fun t =>
      let key : PortKey := ⟨net, r, port, k.vc⟩
      Buffers u t (fun b => if b = key then some ((u.buf key).drop 1) else none) ∧ tget t.mesh.marks 0 (p.val, net.val) = tget u.mesh.marks 0 (p.val, net.val) + 1 ∧
      (∀ e, e ≠ (p.val, net.val) → tget t.mesh.marks 0 e = tget u.mesh.marks 0 e ∧ tfind? t.mesh.markAt e = tfind? u.mesh.markAt e) ∧
      tfind? t.mesh.markAt (p.val, net.val) = some u.now ∧ t.mesh = { u.mesh with buf := t.mesh.buf, marks := t.mesh.marks, markAt := t.mesh.markAt } ∧ Only { parts := [.mesh] } u t)) ∧
  (∀ (z : State) (dt : Nat) (p : Fin 68),
    let u := z.advance dt
    let r := routerOfPhys p
    let counted := u.fget F.RTCTL_FENCE 0 r = 1 ∧ tget u.mesh.marks 0 (p.val, 0) = 288 ∧ tget u.mesh.marks 0 (p.val, 1) = 288
    let done := fun (t : State) => Sets u t F.RTCTL_FENCE 0 r 2 ∧ t.ctl = u.ctl ++ [.fenceDone p]
    (¬counted → Completes (.fenced dt p) z fun t => Only {} u t) ∧
    (counted → (∀ d, ¬u.holder p d) → Completes (.fenced dt p) z fun t => done t ∧ Only { regs := [(.RTCTL, 0, r)], parts := [.ctl] } u t) ∧
    (∀ d, counted → u.holder p d → Completes (.fenced dt p) z fun t =>
      done t ∧ t.tile d = { u.tile d with power := (u.tile d).power.map fun w => if w.dest = 3 then { w with fencedAt := some u.now } else w } ∧
      Only { regs := [(.RTCTL, 0, r)], tiles := [d], parts := [.ctl] } u t)) ∧
  (∀ (z : State) (p : Fin 68) (rest : List Ctl), z.message (fun m => m = .fenceDone p) (.fenceDone p) rest →
    ((∀ d, ¬z.holder p d) → z.noSubst p → Completes (.fenceDone p) z fun t => t.ctl = rest ∧ Only { parts := [.ctl] } z t) ∧
    (∀ d, z.holder p d → z.noSubst p → Completes (.fenceDone p) z fun t =>
      t.ctl = rest ∧ t.tile d = { z.tile d with power := (z.tile d).power.map fun w => if w.dest = 3 ∧ w.endAt = none then { w with endAt := some (z.now + 256) } else w } ∧
      Only { tiles := [d], parts := [.ctl] } z t) ∧
    (∀ a d m b, z.riari.subs = a ++ (d, m) :: b → (∀ e ∈ a, ¬(e.2.fencing = true ∧ e.2.old = p.val)) → m.fencing = true → m.old = p.val → (∀ d, ¬z.holder p d) → z.Unwatched →
      Completes (.fenceDone p) z fun t =>
        t.ctl = rest ∧ t.riari.retired = z.riari.retired ++ [(d, p.val, m.new)] ∧ tfind? t.riari.subs d = (if m.moving then some { m with fencing := false } else none) ∧
        (∀ e, e ≠ d → tfind? t.riari.subs e = tfind? z.riari.subs e) ∧ t.riari = { z.riari with subs := t.riari.subs, retired := t.riari.retired } ∧
        Only { parts := [.ctl, .riari] } z t))

/-! ### Interrupts, halts and power -/

/-- 12 R306 to R311, R316, R317 and 13 R356 to R358: software sets pending bits; a controller delivers the eligible source with the highest group, sub-priority and lowest number, which pre-empts its thread or enters its latch, and comes back from a FREE one; a pre-emption loads TEPC and enters the handler; HALT, a STEP's end and a breakpoint halt a thread with their reason, and RUN and STEP let it go on. -/
def Obligations.InterruptsAndHaltsReachTheirThread : Prop :=
  (∀ (z : State) (who : Req) (d : TileId) (v : Word), z.Passes who .ISWSET d 0 v → Completes (.iswset who d v) z fun t =>
    t.reg .IPEND d 0 = z.reg .IPEND d 0 ||| v <<< 16 ∧ t.reg .IPEND d 1 = z.reg .IPEND d 1 ||| v >>> 48 ∧
    Only ((toldChanges who).and { regs := [(.IPEND, d, 0), (.IPEND, d, 1)] }) z t) ∧
  (∀ (z : State) (who : Req) (k : Fin 4) (v : Word), z.Passes who .DSWSET 0 k v → Completes (.dswset who k v) z fun t =>
    t.reg .DPEND 0 (4 + k.val) = z.reg .DPEND 0 (4 + k.val) ||| v ∧ Only ((toldChanges who).and { regs := [(.DPEND, 0, 4 + k.val)] }) z t) ∧
  (∀ (z : State) (dt : Nat) (d : TileId),
    let u := (z.advance dt).levels
    let prio := fun i => u.fget F.ISRC_PRIO d i
    let split := u.fget F.ICFG_SPLIT d 0
    ((∀ i, ¬u.eligibleTile d i) → Completes (.interruptDelivery dt (some d)) z fun t => Only {} u t) ∧
    (∀ i, u.eligibleTile d i → (∀ j, u.eligibleTile d j → j ≠ i → before split (prio i) i (prio j) j) → Completes (.interruptDelivery dt (some d)) z fun t =>
      let n := u.fget F.ISRC_TTHR d i
      t.reg .IDLVD d (i / 64) = u.reg .IDLVD d (i / 64) ||| wd (2 ^ (i % 64)) ∧ Delivered u t d n i (prio i / 2 ^ split) false ∧
      Only ((latchChanges d n).and { regs := [(.IDLVD, d, i / 64)] }) u t)) ∧
  (∀ (z : State) (dt : Nat),
    let u := (z.advance dt).levels
    let prio := fun i => u.fget F.DSRC_PRIO 0 i
    let split := u.fget F.DCFG_SPLIT 0 0
    ((∀ i, ¬u.eligibleDev i) → Completes (.interruptDelivery dt none) z fun t => Only {} u t) ∧
    (∀ i, u.eligibleDev i → (∀ j, u.eligibleDev j → j ≠ i → before split (prio i) i (prio j) j) → Completes (.interruptDelivery dt none) z fun t =>
      t.reg .DDLVD 0 (i / 64) = u.reg .DDLVD 0 (i / 64) ||| wd (2 ^ (i % 64)) ∧ t.ctl = u.ctl ++ [.devInt i (u.targetOf i) (u.fget F.DSRC_TTHR 0 i) (prio i / 2 ^ split)] ∧
      Only { regs := [(.DDLVD, 0, i / 64)], parts := [.ctl] } u t)) ∧
  (∀ (z : State) (c : CoreId) (n : ThreadId) (src grp : Nat) (rest : List Ctl), z.message (Ctl.isIntFor c n) (.devInt src c n grp) rest → z.active c = true →
    ((z.thr c n).st = .free → Completes (.deliveryArrival c n) z fun t => t.ctl = rest ++ [.devRet src] ∧ Only { parts := [.ctl] } z t) ∧
    ((z.thr c n).st ≠ .free → Completes (.deliveryArrival c n) z fun t => t.ctl = rest ∧ Delivered z t c n src grp true ∧ Only ((latchChanges c n).and { parts := [.ctl] }) z t)) ∧
  (∀ (z : State) (src : Fin 512),
    (∀ rest, z.message (fun m => m = .devRet src) (.devRet src) rest → Completes (.deliveryReturn src) z fun t =>
      t.ctl = rest ∧ t.reg .DDLVD 0 (src.val / 64) = z.reg .DDLVD 0 (src.val / 64) &&& ~~~(wd (2 ^ (src.val % 64))) ∧ Counts z t F.DRETURN_COUNT 0 0 1 ∧
      Only { regs := [(.DDLVD, 0, src.val / 64), (.DRETURN, 0, 0)], parts := [.ctl] } z t) ∧
    (.devRet src ∉ z.ctl → Completes (.deliveryReturn src) z fun t => Only {} z t)) ∧
  (∀ (z : State) (dt : Nat) (c : CoreId) (n : ThreadId),
    let u := z.advance dt
    let x := u.thr c n
    let ready := x.st = .ready ∧ x.loads = [] ∧ x.readyAt ≤ u.now ∧ x.retry = none ∧ u.active c = true
    let may := x.preempt = true ∧ ready ∧ x.inh = false ∧ u.fget F.THND_HEN c n = 1
    (may → Completes (.preemption dt c n) z fun t =>
      t.fget F.TEPC_EPC c n = x.pc % 16384 ∧ t.fget F.TEPC_ECODE c n = 0 ∧ t.fget F.TEPC_PCX c n = 0 ∧
      t.thr c n = { x with inh := true, preempt := false, pc := u.fget F.THND_HPC c n } ∧ Only { regs := [(.TEPC, c, n)], threads := [(c, n)] } u t) ∧
    (¬may → Completes (.preemption dt c n) z fun t => Only {} u t) ∧
    (let stop := u.fget F.DBGT_BEN c n = 1 ∧ u.fget F.DBGT_BPC c n = x.pc ∧ x.stepLeft = 0
     u.fget F.DBGT_CHPOL c n = 0 → x.haltReq < 4 →
      (x.haltReq ≠ 0 → ready ∨ x.st = .wait → Completes (.haltEntry dt c n) z fun t => Halted u t c n x.haltReq ∧ Only (haltChanges c n) u t) ∧
      (x.haltReq = 0 → ready → stop → Completes (.haltEntry dt c n) z fun t => Halted u t c n 3 ∧ Only (haltChanges c n) u t) ∧
      (x.haltReq = 0 → ¬(ready ∧ stop) → Completes (.haltEntry dt c n) z fun t => Only {} u t))) ∧
  (∀ (z : State) (who : Req) (c : CoreId) (n : ThreadId) (b : Fin 4),
    let x := z.thr c n
    let base := toldChanges who
    z.Passes who .DBGT c n (wset (z.reg .DBGT c n) b 1 1) → wbits (z.reg .DBGT c n) 0 3 = 0 → z.fget F.DBGT_CHPOL c n = 0 →
    (b.val = 0 →
      (x.st = .wait → Completes (.halt who c n) z fun t => Halted z t c n 1 ∧ Only (base.and (haltChanges c n)) z t) ∧
      (x.st = .ready → Completes (.halt who c n) z fun t => t.thr c n = { x with haltReq := 1 } ∧ Only (base.and { threads := [(c, n)] }) z t) ∧
      (x.st ≠ .wait → x.st ≠ .ready → Completes (.halt who c n) z fun t => Only base z t)) ∧
    (∀ step : Bool, b.val = (if step then 2 else 1) →
      let row := if step then Instr.step who c n else .dbgtRun who c n
      let y := { x with st := if x.wasWait then .wait else .ready, wasWait := false, haltReq := 0, stepLeft := if step then 1 else 0, readyAt := max x.readyAt (z.now + 1) }
      (x.st ≠ .halted → Completes row z fun t => Only base z t) ∧
      (x.st = .halted → x.wasWait = false ∨ x.wres = none → Completes row z fun t => t.thr c n = y ∧ Only (base.and { threads := [(c, n)] }) z t) ∧
      (x.st = .halted → x.wasWait = true → x.wres ≠ none → Completes row z fun t =>
        t.thr c n = y ∧ t.tile c = (z.tile c).withTask (x.wakeTask n z.seqNo) ∧ Only (base.and (wakeChanges c n)) z t)) ∧
    (b.val = 3 →
      (x.st ≠ .halted ∨ (∀ d q, z.fget F.QPTR_RESV d q = 1 → z.chanOwner d q ≠ (c.val % 64, n.val)) → Completes (.chpol who c n) z fun t =>
        Sets z t F.DBGT_CHPOL c n 1 ∧ Only (base.and { regs := [(.DBGT, c, n)] }) z t)))

/-- 11 R281 to R284 and 12 R318 to R321: a write of TPWR is refused where a class 0 context or the tile's state forbids it, and begins its transition; a tile that has nothing to do for 16 cycles enters IDLE, takes the nap asked for 64 cycles later unless a deadline is near, powers OFF 256 cycles after its fence, and is ON again after the time of its wake; a deadline and a watched source wake a domain. -/
def Obligations.DomainsSleepAndWake : Prop :=
  (∀ (z : State) (who : Req) (d : TileId) (v : Word), z.Passes who .TPWR 0 d v →
    let x := z.tile d
    let st := z.fget F.TPWR_STATE 0 d
    let base := (toldChanges who).and { regs := [(.TPWR, 0, d)] }
    let asked := fun (t : State) => PowerAsked z t d v
    let fence := base.and { regs := [(.RTCTL, 0, routerOfPhys (z.physOf d))], tiles := [d.val], parts := [.ctl, .mesh] }
    let class0 := ∃ c ∈ z.ctxs, c.2.st = 1 ∧ c.2.cls = 0 ∧ c.2.tileset.testBit d = true
    (wbits v 0 2 = 0 →
      (x.power = none → st < 2 → Completes (.tpwrReqOn who d v) z fun t => asked t ∧ t.fget F.TPWR_TRANS 0 d = z.fget F.TPWR_TRANS 0 d ∧ Only base z t) ∧
      (x.power = none → 2 ≤ st → Completes (.tpwrReqOn who d v) z fun t => asked t ∧ Powered z t d (some (z.wakeTrans d false)) ∧ Only (base.and { tiles := [d.val] }) z t) ∧
      (∀ p, x.power = some p → p.dest = 2 → Completes (.tpwrReqOn who d v) z fun t => asked t ∧ Powered z t d none ∧ Only (base.and { tiles := [d.val] }) z t)) ∧
    (wbits v 0 2 = 2 →
      (class0 → who ≠ .host → z.canTell who → Completes (.tpwrReqNap who d v) z fun t => RefusedWith z t who 2 1) ∧
      (¬class0 → st < 2 → x.power = none → Completes (.tpwrReqNap who d v) z fun t =>
        asked t ∧ Powered z t d (some ⟨2, if st = 1 then some (z.now + 64) else none, none, false⟩) ∧ Only (base.and { tiles := [d.val] }) z t) ∧
      (¬class0 → 2 ≤ st ∨ x.power ≠ none → Completes (.tpwrReqNap who d v) z fun t => asked t ∧ t.fget F.TPWR_TRANS 0 d = z.fget F.TPWR_TRANS 0 d ∧ Only base z t)) ∧
    (wbits v 0 2 = 3 →
      (st ≠ 3 → z.busyTile d → who ≠ .host → z.canTell who → Completes (.tpwrReqOff who d v) z fun t => RefusedWith z t who 2 1) ∧
      (st = 3 → x.power = none → Completes (.tpwrReqOff who d v) z fun t => asked t ∧ t.fget F.TPWR_TRANS 0 d = z.fget F.TPWR_TRANS 0 d ∧ Only base z t) ∧
      (st = 2 → ¬z.busyTile d → x.power = none → Completes (.tpwrReqOff who d v) z fun t => asked t ∧ Powered z t d (some (z.wakeTrans d true)) ∧ Only (base.and { tiles := [d.val] }) z t) ∧
      (st < 2 → ¬z.busyTile d → x.power = none → (∀ b, x.borrow = some b → b.phase = 0) → Completes (.tpwrReqOff who d v) z fun t =>
        asked t ∧ Powered z t d (some ⟨3, none, none, false⟩) ∧ FenceBegun z t (z.physOf d) ∧ Only fence z t) ∧
      (∀ b, st < 2 → ¬z.busyTile d → x.power = none → x.borrow = some b → b.phase = 1 ∨ b.phase = 2 → Completes (.tpwrReqOff who d v) z fun t =>
        asked t ∧ t.fget F.TPWR_TRANS 0 d = 1 ∧ t.fget F.RUSHSTAT_PHASE d 0 = 3 ∧
        t.tile d = { x with power := some ⟨3, none, none, false⟩, borrow := some { b with phase := 3, aborted := true } } ∧
        Only (base.and { regs := [(.RUSHSTAT, d, 0)], tiles := [d.val] }) z t))) ∧
  (∀ (z : State) (dt : Nat) (d : TileId),
    let u := z.advance dt
    let x := u.tile d
    let st := u.fget F.TPWR_STATE 0 d
    let reg := { regs := [(.TPWR, 0, d.val)] : Changes }
    let both := reg.and { tiles := [d.val] }
    let rests := st = 0 ∧ u.fget F.TPWR_IDLEEN 0 d = 1 ∧ u.quiet d = true ∧ x.idleSince + 16 ≤ u.now
    (rests → (∀ p, x.power = some p → p.dest ≠ 2) → Completes (.idleEntry dt d) z fun t => Sets u t F.TPWR_STATE 0 d 1 ∧ Only reg u t) ∧
    (∀ p, rests → x.power = some p → p.dest = 2 → Completes (.idleEntry dt d) z fun t =>
      t.fget F.TPWR_STATE 0 d = 1 ∧ Powered u t d (some { p with endAt := some (u.now + 64) }) ∧ Only both u t) ∧
    (¬rests → Completes (.idleEntry dt d) z fun t => Only {} u t) ∧
    (let far := ∀ k ∈ x.delay, 28 ≤ u.beatsTo k.deadline
     let due := fun (n : Nat) => ∃ p e, x.power = some p ∧ p.dest = n ∧ p.endAt = some e ∧ e ≤ u.now
     (due 2 → st = 1 → u.quiet d = true → far → Completes (.napEntry dt d) z fun t => t.fget F.TPWR_STATE 0 d = 2 ∧ Powered u t d none ∧ Only both u t) ∧
     (¬(due 2 ∧ st = 1 ∧ u.quiet d = true ∧ far) → Completes (.napEntry dt d) z fun t => Only {} u t) ∧
     (due 3 → x.wakeAsked = none → Completes (.offEntry dt d) z fun t => t.fget F.TPWR_STATE 0 d = 3 ∧ Powered u t d none ∧ Only both u t) ∧
     (due 3 → x.wakeAsked ≠ none → Completes (.offEntry dt d) z fun t =>
       t.fget F.TPWR_STATE 0 d = 3 ∧ t.fget F.TPWR_TRANS 0 d = 1 ∧ t.tile d = { x with wakeAsked := none, power := some ⟨0, some (u.now + 32000), none, false⟩ } ∧ Only both u t) ∧
     (¬due 3 → Completes (.offEntry dt d) z fun t => Only {} u t) ∧
     (¬due 0 → Completes (.wakeComplete dt d) z fun t => Only {} u t)) ∧
    (∀ p e, x.power = some p → p.dest = 0 → p.endAt = some e → e ≤ u.now → p.thenOff = false →
      (st ≠ 3 → Completes (.wakeComplete dt d) z fun t =>
        t.fget F.TPWR_STATE 0 d = 0 ∧ t.fget F.TPWR_TRANS 0 d = 0 ∧ t.tile d = { x with power := none, idleSince := u.now } ∧ Only both u t) ∧
      (st = 3 → Completes (.wakeComplete dt d) z fun t =>
        t.fget F.TPWR_STATE 0 d = 0 ∧ t.fget F.TPWR_TRANS 0 d = 0 ∧ (∀ n < 16, t.thr d n = Thread.rst) ∧
        (∀ k i, (regSpec k).inTile = true → k ≠ .LKGCFG → k ≠ .LKCNT → t.reg k d i = regReset k d i) ∧
        t.tile d = { Tile.rst with wakeAsked := (t.tile d).wakeAsked, cells := (t.tile d).cells, waiters := (t.tile d).waiters, lockq := (t.tile d).lockq, idleSince := u.now } ∧
        ∀ r < 72, .unfence (u.physOf d) r ∈ t.ctl)) ∧
    (st = 2 → x.power = none → (∃ k ∈ x.delay, u.beatsTo k.deadline ≤ 28) → Completes (.napTimerWake dt d) z fun t => Powered u t d (some (u.wakeTrans d false)) ∧ Only both u t) ∧
    (st ≠ 2 ∨ (∀ k ∈ x.delay, 28 < u.beatsTo k.deadline) → Completes (.napTimerWake dt d) z fun t => Only {} u t)) ∧
  (∀ (z : State) (dt : Nat) (i : Fin 32),
    let u := z.advance dt
    let src := u.fget F.KWATCH_SRC 0 i
    let bit := fun (k : RegKind) (d : Nat) => (u.reg k d (src / 64)).getLsbD (src % 64)
    (u.fget F.KWATCH_VALID 0 i = 0 → Completes (.watchedWake dt i) z fun t => Only {} u t) ∧
    (∀ d < 64, u.fget F.KWATCH_VALID 0 i = 1 → 2 ≤ u.fget F.TPWR_STATE 0 d → (u.tile d).power = none →
      (u.fget F.KWATCH_TSRC 0 i = 1 ∧ src < 128 ∧ u.fget F.KWATCH_TILE 0 i = d ∧ bit .IPEND d = true ∧ bit .IEN d = true ∧ bit .IDLVD d = false) ∨
        (u.fget F.KWATCH_TSRC 0 i = 0 ∧ u.targetOf src = d ∧ bit .DPEND 0 = true ∧ bit .DEN 0 = true ∧ bit .DDLVD 0 = false) →
      Completes (.watchedWake dt i) z fun t => Powered u t d (some (u.wakeTrans d false)) ∧ Only { regs := [(.TPWR, 0, d)], tiles := [d] } u t))

/-! ### Aklofy -/

/-- 13 R329, R333 to R335 and R348: OPEN begins a session and is answered by CHAL, or by an abort code, and nothing while its address is blocked; AUTH opens the session or ends it, and the fourth failure in a row blocks the address for 10 s; CLOSE and the time-outs end it; heartbeats carry the state and the pending records; EVACK takes records away; a message that does not verify is discarded and counted, and a repeated request gets its kept reply. -/
def Obligations.SessionsOpenAnswerAndEnd : Prop :=
  (∀ (z : State) (dt : Nat) (m : AkMsg) (f seq : Nat) (p : List Byte),
    let u := z.advance dt
    let refused := fun code => Completes (.aopen dt m) z fun t =>
      t.out = u.out ++ [AkMsg.back m (akHeader 0x7F 0 seq 4 ++ toBytes 2 code ++ toBytes 2 0)] ∧ Only { parts := [.out] } u t
    u.Serves → m.bytes = clientBytes 1 f 0 seq p → f < 2 → seq < 2 ^ 32 → p.length ≤ 1440 →
    (u.now < tget u.ak.blocked 0 m.ip → Completes (.aopen dt m) z fun t => Only {} u t) ∧
    (tget u.ak.blocked 0 m.ip ≤ u.now →
      (p.length ≠ 130 → refused 0x0301) ∧ (p.length = 130 → 2 < imgWord p 0 1 → refused 0x0302) ∧
      (p.length = 130 → imgWord p 0 1 ≤ 2 → 4 ≤ u.ak.sessions.length → refused 0x0501) ∧
      (p.length = 130 → imgWord p 0 1 ≤ 2 → u.ak.sessions.length < 4 → Completes (.aopen dt m) z fun t => ∃ x, Challenged u m p x ∧
        t.ak = { u.ak with sessions := u.ak.sessions ++ [x], nextSid := u.ak.nextSid % (2 ^ 32 - 1) + 1 } ∧
        t.out = u.out ++ [AkMsg.back m (akHeader 0x02 x.sid seq 225 ++ x.chal)] ∧ Only { parts := [.ak, .out, .free] } u t))) ∧
  (∀ (z : State) (dt : Nat) (m : AkMsg) (x : Session) (p : List Byte),
    let u := z.advance dt
    let n := tget u.ak.fails 0 m.ip + 1
    u.Hears m x 3 x.next p →
    (x.opened = true → Completes (.auth dt m) z fun t => Replied u t m x x.next 0x0401 [] ∧ Only replyChanges u t) ∧
    (x.opened = false → u.Signed x p → Completes (.auth dt m) z fun t =>
      Replied u t m x x.next 0 [] (fun y => { y with opened := true, hbAt := u.now }) { u.ak with fails := tdel u.ak.fails m.ip } ∧ Only replyChanges u t) ∧
    (x.opened = false → ¬u.Signed x p → Completes (.auth dt m) z fun t =>
      t.ak.sessions = (u.ak.sessions.filter fun y => y.sid ≠ x.sid) ∧ t.out = u.out ++ [AkMsg.back m (x.replies x.next 0x0601 [])] ∧
      t.ak.akauthf = min (2 ^ 32 - 1) (u.ak.akauthf + 1) ∧
      (n < 4 → tget t.ak.fails 0 m.ip = n ∧ t.ak.blocked = u.ak.blocked) ∧
      (4 ≤ n → tget t.ak.fails 0 m.ip = 0 ∧ tget t.ak.blocked 0 m.ip = u.now + 16000000000) ∧
      (∀ a, a ≠ m.ip → tget t.ak.fails 0 a = tget u.ak.fails 0 a ∧ tget t.ak.blocked 0 a = tget u.ak.blocked 0 a) ∧ Only replyChanges u t)) ∧
  (∀ (z : State) (dt : Nat) (m : AkMsg) (x : Session) (seq : Nat) (p : List Byte),
    let u := z.advance dt
    let heard := fun (g : Session → Session) => u.ak.sessions.map fun y => if y.sid = x.sid then { g y with lastMsg := u.now } else y
    (u.Hears m x 4 seq p → Completes (.close dt m) z fun t => Closed u t x.sid ∧ Only { parts := [.ak] } u t) ∧
    (u.Hears m x 0x41 seq p → Completes (.hback dt m) z fun t => t.ak = { u.ak with sessions := heard id } ∧ Only { parts := [.ak] } u t) ∧
    (∀ k < 65536, p = toBytes 2 k ++ toBytes 2 0 → u.Hears m x 0x31 seq p →
      let left := x.recs.filter fun e => decide (32768 ≤ (k + 65536 - e.eseq) % 65536)
      (x.lost = 0 → Completes (.evack dt m) z fun t => t.ak = { u.ak with sessions := heard fun y => y.acked k } ∧ Only { parts := [.ak] } u t) ∧
      (x.lost ≠ 0 → left.length < 64 → maskOn x.mask 11 = true → Completes (.evack dt m) z fun t =>
        let n := min (2 ^ 32 - 1) x.lost
        t.ak = { u.ak with sessions := t.ak.sessions, evlost := t.ak.evlost } ∧
        (∃ y ∈ t.ak.sessions, y = { x with recs := left ++ [⟨11, x.eseq, u.slate, n, 0⟩], eseq := (x.eseq + 1) % 65536, lost := 0, lastMsg := u.now }) ∧
        Only { parts := [.ak, .out, .free] } u t))) ∧
  (∀ (z : State) (dt sid ip : Nat),
    let u := z.advance dt
    let late := ∃ y ∈ u.ak.sessions, y.sid = sid ∧ y.opened = false ∧ y.start + 1600000000 ≤ u.now
    let silent := ∃ y ∈ u.ak.sessions, y.sid = sid ∧ y.opened = true ∧ y.lastMsg + 3 * (u.ak.hbint * 1600000) ≤ u.now
    (late → Completes (.authTimeout dt sid) z fun t => Closed u t sid ∧ Only { parts := [.ak] } u t) ∧
    (¬late → Completes (.authTimeout dt sid) z fun t => Only {} u t) ∧
    (silent → Completes (.sessionTimeout dt sid) z fun t => Closed u t sid ∧ Only { parts := [.ak] } u t) ∧
    (¬silent → Completes (.sessionTimeout dt sid) z fun t => Only {} u t) ∧
    (tget u.ak.blocked 0 ip ≤ u.now → Completes (.authLockoutExpiry dt ip) z fun t =>
      tget t.ak.blocked 0 ip = 0 ∧ (∀ a, a ≠ ip → tget t.ak.blocked 0 a = tget u.ak.blocked 0 a) ∧ t.ak = { u.ak with blocked := t.ak.blocked } ∧ Only { parts := [.ak] } u t) ∧
    (u.now < tget u.ak.blocked 0 ip → Completes (.authLockoutExpiry dt ip) z fun t => Only {} u t) ∧
    (∀ x, u.session? sid = some x →
      let due := x.opened = true ∧ u.serving = true ∧ x.hbAt + u.ak.hbint * 1600000 ≤ u.now
      let body := toBytes 8 u.slate.toNat ++ toBytes 1 u.dev.code ++ toBytes 1 (b2n u.degraded) ++ toBytes 6 0
      let msgs := (0x40, body) :: x.recs.map fun e => (0x30, e.bytes)
      (due → Completes (.hb dt sid) z fun t =>
        t.out = u.out ++ msgs.zipIdx.map (fun q => .aklofy x.port x.src x.udp (x.frame q.1.1 ((Config.freeWord (u.freeCtr + q.2)).toNat % 2 ^ 32) q.1.2)) ∧
        t.ak = { u.ak with sessions := u.ak.sessions.map fun y => if y.sid = sid then { y with hbAt := u.now } else y } ∧ t.freeCtr = u.freeCtr + msgs.length ∧
        Only { parts := [.ak, .out, .free] } u t) ∧
      (¬due → Completes (.hb dt sid) z fun t => Only {} u t))) ∧
  (∀ f mt, SessionRow f mt → ∀ (z : State) (dt : Nat) (m : AkMsg),
    let u := z.advance dt
    let counted := fun (k : AkState) => Completes (f dt m) z fun t => t.ak = k ∧ Only { parts := [.ak] } u t
    let disc := counted { u.ak with akdisc := min (2 ^ 32 - 1) (u.ak.akdisc + 1) }
    (u.serving = false → Completes (f dt m) z fun t => Only {} u t) ∧
    (u.Serves → datagramOk m.bytes = false → disc) ∧
    (∀ fl < 2, ∀ sid < 2 ^ 32, ∀ seq < 2 ^ 32, ∀ (p mac : List Byte), u.Serves → m.bytes = clientBytes mt fl sid seq p ++ mac → mac.length = 16 → p.length ≤ 1440 →
      (u.session? sid = none → disc) ∧
      (∀ x, u.session? sid = some x → mac ≠ akMac x.key (clientBytes mt fl sid seq p) → counted { u.ak with akmacerr := min (2 ^ 32 - 1) (u.ak.akmacerr + 1) }) ∧
      (∀ x, u.session? sid = some x → mac = akMac x.key (clientBytes mt fl sid seq p) → x.opened = false → mt ≠ 3 → mt ≠ 4 → disc)) ∧
    (∀ x seq p, u.Hears m x mt seq p → mt = 3 ∨ mt = 0x10 ∨ mt = 0x11 ∨ mt = 0x12 ∨ mt = 0x13 →
      let heard := u.ak.sessions.map fun y => if y.sid = x.sid then { y with lastMsg := u.now } else y
      (seq = x.lastSeq → x.reply ≠ [] → Completes (f dt m) z fun t =>
        t.ak = { u.ak with sessions := heard } ∧ t.out = u.out ++ [AkMsg.back m x.reply] ∧ Only replyChanges u t) ∧
      (seq ≠ x.lastSeq → seq ≠ x.next → counted { u.ak with sessions := heard, akdisc := min (2 ^ 32 - 1) (u.ak.akdisc + 1) })))

/-- 13 R331, R332, R336 to R338, R341, R343 and R344: READ answers the value of an entry with its type, WRITE places one that passes the checks of type, length, privilege and access, and of its register; DOPEN finds no DOMAIN entry; SEG moves a transfer on; EVSUB sets the session's mask; a command is refused for its length, privilege or state. -/
def Obligations.RequestsAreAnswered : Prop :=
  (∀ (z : State) (dt : Nat) (m : AkMsg) (x : Session) (ix sub : Nat),
    let u := z.advance dt
    let gives := fun (ty : Nat) (v : List Byte) => Completes (.read dt m) z fun t =>
      Replied u t m x x.next 0 (toBytes 1 ty ++ toBytes 1 0 ++ toBytes 2 v.length ++ v) ∧ Only replyChanges u t
    let aborts := fun code => Completes (.read dt m) z fun t => Aborted u t m x code
    ix < 65536 → sub < 256 → u.Hears m x 0x10 x.next (toBytes 2 ix ++ toBytes 1 sub ++ toBytes 1 0) →
    (0xF000 ≤ ix → aborts 0x0203) ∧
    (ix < 0xF000 → u.dictIndex ix = [] → aborts 0x0101) ∧
    (ix < 0xF000 → u.dictIndex ix ≠ [] → (u.dictIndex ix).length < sub → aborts 0x0102) ∧
    (ix < 0xF000 → u.dictIndex ix ≠ [] → sub = 0 → gives 2 (toBytes 1 (u.dictIndex ix).length)) ∧
    (ix < 0xF000 → ∀ e, 0 < sub → (u.dictIndex ix)[sub - 1]? = some e →
      (x.level < e.priv → aborts 0x0203) ∧
      (e.priv ≤ x.level → e.acc = .wo → aborts 0x0202) ∧
      (e.priv ≤ x.level → e.acc ≠ .wo →
        (∀ v, e.src = .val v → gives e.ty v) ∧
        (∀ k a i, e.src = .reg k a i → gives 5 (toBytes 8 (maskWo (regSpec k).fields (u.regImage k a i)).toNat)) ∧
        (e.src = .hbint → gives 4 (toBytes 4 u.ak.hbint)) ∧ (e.src = .name → gives 9 u.ak.name) ∧ (e.src = .addr → gives 5 (toBytes 8 u.ak.addr.toNat)) ∧
        (e.src = .hostpriv → gives 2 (toBytes 1 u.ak.hostpriv)) ∧ (e.src = .dbgUnlock → gives 1 (toBytes 1 (b2n u.ak.dbgUnlock))) ∧
        (∀ k, e.src = .cred k → gives 10 (u.cred k)) ∧ (∀ q f, e.src = .ip q f → gives 4 (toBytes 4 (u.ipParam q f))) ∧
        (∀ l n, e.src = .site l n → gives 10 ([.SITEW0, .SITEW1, .SITEW2, .SITEW3].flatMap fun k => toBytes 8 (u.reg k 0 (64 * l + n)).toNat)) ∧
        (∀ k a i, e.src = .data → regExists k a i → k ≠ .LKCELL → u.ak.addr = BitVec.ofNat 64 (regAddr k a i) → Completes (.read dt m) z fun t =>
          Replied u t m x x.next 0 ([5, 0, 8, 0] ++ toBytes 8 (maskWo (regSpec k).fields (u.regImage k a i)).toNat) id { u.ak with lastab := 0 } ∧ Only replyChanges u t) ∧
        (∀ k, e.src = .counter k → gives 4 (toBytes 4 (u.akCounter k)))))) ∧
  (∀ (z : State) (dt : Nat) (m : AkMsg) (x : Session) (ix sub ty : Nat) (b : List Byte),
    let u := z.advance dt
    let aborts := fun code => Completes (.write dt m) z fun t => Aborted u t m x code
    let puts := fun (k : AkState) => Completes (.write dt m) z fun t => Replied u t m x x.next 0 [] id k ∧ Only replyChanges u t
    ix < 65536 → sub < 256 → ty < 256 → b.length ≤ 1024 → u.Hears m x 0x11 x.next (toBytes 2 ix ++ toBytes 1 sub ++ toBytes 1 ty ++ toBytes 2 b.length ++ toBytes 2 0 ++ b) →
    (u.dev = .fault → aborts 0x0401) ∧
    (u.dev ≠ .fault → ix < 0xF000 → u.dictIndex ix = [] → aborts 0x0101) ∧
    (u.dev ≠ .fault → ix < 0xF000 → ∀ e, 0 < sub → (u.dictIndex ix)[sub - 1]? = some e →
      (x.level < e.priv → aborts 0x0203) ∧
      (e.priv ≤ x.level → e.acc = .ro ∨ e.acc = .const → aborts 0x0201) ∧
      (e.priv ≤ x.level → e.acc ≠ .ro → e.acc ≠ .const →
        (ty ≠ e.ty ∨ e.lenOk b.length = false → aborts 0x0301) ∧
        (ty = e.ty → e.lenOk b.length = true →
          (e.src = .hbint → 10 ≤ ofBytes b → ofBytes b ≤ 10000 → puts { u.ak with hbint := ofBytes b }) ∧
          (e.src = .hbint → ofBytes b < 10 ∨ 10000 < ofBytes b → aborts 0x0302) ∧
          (e.src = .addr → puts { u.ak with addr := BitVec.ofNat 64 (ofBytes b) }) ∧
          (∀ k a i, e.src = .reg k a i → k ∉ ruledRegs →
            let v := BitVec.ofNat 64 (ofBytes b)
            (u.Passes (.aklofy x.level) k a i v → Completes (.write dt m) z fun t => Replied u t m x x.next 0 [] ∧
              (∀ f ∈ (regSpec k).fields, wbits (t.reg k a i) f.lo f.len = fieldWritten (u.reg k a i) v f) ∧ Only (replyChanges.and { regs := [(k, a, i)] }) u t) ∧
            (∀ c, u.firstRefusal (.aklofy x.level) k a i v = some c → aborts (if c = (3, 2) then 0x0203 else if c = (2, 1) then 0x0302 else 0x0401))))))) ∧
  (∀ (z : State) (dt : Nat) (m : AkMsg) (x : Session) (ix sub dir n : Nat),
    let u := z.advance dt
    let aborts := fun code => Completes (.dopen dt m) z fun t => Aborted u t m x code
    ix < 0xF000 → sub < 256 → dir < 2 → n < 2 ^ 32 → u.Hears m x 0x12 x.next (toBytes 2 ix ++ toBytes 1 sub ++ toBytes 1 dir ++ toBytes 4 n) →
    (x.xfer ≠ none → aborts 0x0501) ∧
    (x.xfer = none → u.dev = .fault → dir = 1 → aborts 0x0401) ∧
    (x.xfer = none → u.dev ≠ .fault → u.dictIndex ix = [] → aborts 0x0101) ∧
    (x.xfer = none → u.dev ≠ .fault → ∀ e, 0 < sub → (u.dictIndex ix)[sub - 1]? = some e → e.priv ≤ x.level → e.acc = .rw → aborts 0x0301)) ∧
  (∀ (z : State) (dt : Nat) (m : AkMsg) (x : Session) (off len last : Nat) (b : List Byte),
    let u := z.advance dt
    off < 2 ^ 32 → len ≤ 1024 → last < 2 → u.Hears m x 0x13 x.next (toBytes 4 off ++ toBytes 2 len ++ toBytes 1 last ++ toBytes 1 0 ++ b) →
    (x.xfer = none → Completes (.seg dt m) z fun t => Aborted u t m x 0x0302) ∧
    (∀ w, x.xfer = some w →
      let y := { w with off := off + len, data := if w.write then w.data ++ b else w.data }
      (off ≠ w.off ∨ w.total < off + len → b.length = (if w.write then len else 0) → Completes (.seg dt m) z fun t => Aborted u t m x 0x0302) ∧
      (off = w.off → off + len ≤ w.total → b.length = (if w.write then len else 0) → w.write = false ∨ last = 0 → Completes (.seg dt m) z fun t =>
        Replied u t m x x.next 0 (if w.write then [] else (w.data.drop off).take len) (fun k => { k with xfer := if last = 1 then none else some y }) ∧ Only replyChanges u t))) ∧
  (∀ (z : State) (dt : Nat) (m : AkMsg) (x : Session) (mask : Nat),
    let u := z.advance dt
    u.Commands m x 0x0030 [mask] → Completes (.evsub dt m) z fun t => Replied u t m x x.next 0 [] (fun y => { y with mask := BitVec.ofNat 64 mask }) ∧ Only replyChanges u t) ∧
  (∀ f code, CommandRow f code → ∀ args priv legal, (code, args, priv, legal) ∈ commandTable → ∀ (z : State) (dt : Nat) (m : AkMsg) (x : Session) (a : List Nat),
    let u := z.advance dt
    let aborts := fun code => Completes (f dt m) z fun t => Aborted u t m x code
    a.length ≤ 4 → (∀ v ∈ a, v < 2 ^ 64) → u.Hears m x 0x20 x.next (cmdBytes code a) →
    (u.dev = .fault → .fault ∉ legal → aborts 0x0401) ∧
    (u.dev ≠ .fault ∨ .fault ∈ legal →
      (a.length ≠ args → aborts 0x0301) ∧ (a.length = args → x.level < priv → aborts 0x0203) ∧ (a.length = args → priv ≤ x.level → u.dev ∉ legal → aborts 0x0401)))

/-- 13 R339, R341 and R342; 12 R326; 04 R106 to R108: RESET resets the device after its reply, and leaves the held cells of mutexes abandoned; ARM opens what passes its checks, or reports the check that failed; RUN and CUT arm a cut; DISARM drains, and once every context is FREE the device is in STANDBY; a watchdog that expires twice in a second is fatal. -/
def Obligations.CommandsMoveTheDevice : Prop :=
  (∀ (z : State) (dt : Nat) (m : AkMsg) (x : Session),
    let u := z.advance dt
    let state := fun (n : Nat) => ((1, n + u.dev.code * 256 + b2n u.degraded * 65536, 0) : Event)
    (u.Commands m x 0x0001 [] → Completes (.reset dt m) z fun t =>
      InReset u t [AkMsg.back m (x.replies x.next 0 [])] ∧ t.degraded = u.degraded ∧ t.ak.replreq = u.ak.replreq ∧ t.ak.replreason = u.ak.replreason ∧
      t.fget F.TEMPSTAT_TRIPPED 0 0 = u.fget F.TEMPSTAT_TRIPPED 0 0 ∧ t.fget F.TEMPSTAT_BROWN 0 0 = u.fget F.TEMPSTAT_BROWN 0 0 ∧
      ∀ d < 64, (t.tile d).cells = if u.fget F.LKGCFG_MODE d 0 = 1 then [] else ((u.tile d).cells.filter fun c => c.2.val ≠ 0).map fun c => (c.1, ⟨0, true⟩)) ∧
    (u.Commands m x 0x0010 [] → (tfind? u.riari.staged 4).isSome = true →
      (u.spillBad = true → Completes (.arm dt m) z fun t =>
        Replied u t m x x.next 0x0302 (toBytes 8 (u.reg .ARMFAIL 0 0).toNat) (fun y => { y with xfer := none }) ∧ Only replyChanges u t) ∧
      (u.spillBad = false → ∀ f, u.armCheck = some f → (∀ d < 64, u.fget F.COXSTAT_SHVALID d 0 = 1) → Completes (.arm dt m) z fun t =>
        Replied u t m x x.next 0x0302 (toBytes 8 f.word.toNat) (fun y => { y with xfer := none }) ∧ t.reg .ARMFAIL 0 0 = f.word ∧
        Only (replyChanges.and { regs := [(.ARMFAIL, 0, 0)] }) u t) ∧
      (u.spillBad = false → u.armCheck = none → u.Armable ∧ Completes (.arm dt m) z fun t =>
        t.dev = .armed ∧ AnsweredWith u t m x 0 [] [state 3] ∧
        (∀ p ∈ u.toOpen, (t.ctx p.1).st = 1 ∧ (t.ctx p.1).opened = u.slate) ∧ (∀ c, (∀ p ∈ u.toOpen, p.1 ≠ c) → t.ctx c = u.ctx c) ∧
        (∀ d < 64, t.fget F.ADMCAP_CAP d 0 = u.capOf d % 2 ^ F.ADMCAP_CAP.len) ∧
        (∀ a < 64, t.fget F.C0BOUND_BVALID 0 a = b2n (((u.shadowBank 0).act a).valid && ((u.shadowBank 0).act a).cls = 0)) ∧
        (∀ c n, n < 16 → t.thr c n = u.thr c n) ∧ (∀ l, t.lane l = u.lane l) ∧ t.pending = u.pending ∧
        ∀ k a i, k ∉ [RegKind.ADMCAP, .ADMRES, .C0BOUND, .RTAIL, .RUSHSTAT, .RDSTAT] → t.reg k a i = u.reg k a i)) ∧
    (∀ n < 2 ^ 48, ∀ byRun, u.Commands m x (if byRun then 0x0011 else 0x0013) [n] →
      let row := if byRun then Instr.run dt m else .cut dt m
      let aborts := fun code => Completes row z fun t => Aborted u t m x code
      (u.cutArmed = true → aborts 0x0402) ∧ (u.cutArmed = false → n ≤ u.count → aborts 0x0302) ∧
      (u.cutArmed = false → u.count < n → u.reelBlocks = true → aborts 0x0401) ∧
      (u.cutArmed = false → u.count < n → u.reelBlocks = false → Completes row z fun t =>
        Replied u t m x x.next 0 [] ∧ t.fget F.CUTSTRK_STROKE 0 0 = n ∧ t.fget F.CUTTAKE_NTAKE 0 0 = (u.fget F.SLATE_TAKE 0 0 + 1) % 65536 ∧
        t.fget F.CUTTAKE_ARM 0 0 = 1 ∧ t.fget F.CUTTAKE_READY 0 0 = 0 ∧ t.cut = { u.cut with checking := true, byRun := byRun } ∧
        Only (replyChanges.and { regs := [(.CUTSTRK, 0, 0), (.CUTTAKE, 0, 0)], parts := [.cut] }) u t)) ∧
    (u.Commands m x 0x0012 [] → u.Shown → Completes (.disarm dt m) z fun t =>
      t.dev = .draining ∧ t.stroke = { u.stroke with disarm := true } ∧ AnsweredWith u t m x 0 [] [state 5] ∧ Only (eventChanges.and { parts := [.dev, .stroke] }) u t)) ∧
  (∀ (z : State) (dt : Nat),
    let u := z.advance dt
    let done := u.dev = .draining ∧ u.stroke.disarm = false ∧ ∀ c ∈ u.cut.drain, (u.ctx c).st = 0
    (done → u.Shown → u.Unwatched → Completes (.drainComplete dt) z fun t => t.dev = .standby ∧ t.cut = { u.cut with drain := [] } ∧ Only { parts := [.dev, .cut] } u t) ∧
    (¬done → Completes (.drainComplete dt) z fun t => Only {} u t) ∧
    (u.dev = .reset ∨ u.dev = .fault → Completes (.watchdogExpiry dt) z fun t => Only {} u t) ∧
    (u.dev ≠ .reset → u.dev ≠ .fault → u.riari.fwStep ≠ 1 → u.fget F.UPDSTAT_FWTRIAL 0 0 = 0 →
      ((∀ k, u.ak.wdog = some k → k + 1600000000 < u.now) → Completes (.watchdogExpiry dt) z fun t => t.ak = { u.ak with wdog := some u.now } ∧ Only { parts := [.ak] } u t) ∧
      (∀ k, u.ak.wdog = some k → u.now ≤ k + 1600000000 → Completes (.watchdogExpiry dt) z fun t => t.dev = .fault ∧ t.ak.fcause = 3)) ∧
    (u.dev ≠ .reset → u.dev ≠ .fault → u.riari.fwStep = 1 ∨ u.fget F.UPDSTAT_FWTRIAL 0 0 = 1 → Completes (.watchdogExpiry dt) z fun t =>
      t.dev = u.dev ∧ t.riari.fwStep = 3 ∧ t.fget F.UPDSTAT_ACTSLOT 0 0 = u.riari.back % 2 ∧ t.fget F.UPDSTAT_FWTRIAL 0 0 = 0 ∧ t.ak.sessions = []))

/-- 14 R362 to R375 and R383: VERIFY checks a container in order, says which check failed, and stages what passes; UNSTAGE withdraws it; a copied reel stands in graph memory; FWACT starts the new firmware, FWCOMMIT keeps it, and without its ready point the previous one returns; ATTEST writes a signed report; RETRAIN takes a link through DOWN to TRAIN. -/
def Obligations.UpdatesAreVerifiedStagedAndKept : Prop :=
  (∀ (z : State) (dt : Nat) (m : AkMsg) (x : Session) (a len : Nat),
    let u := z.advance dt
    let b := u.readBox a
    let c := u.boxCheck a len b
    let k := b.img.kind % 16
    let keeps := fun (t : State) => t.fget F.UPDSTAT_LASTRES 0 0 = c ∧ t.fget F.UPDSTAT_LASTKIND 0 0 = k
    u.Commands m x 0x0100 [a, len] → a % 8 = 0 → a + 128 ≤ u.dsize →
    (u.dev = .fault → b.img.kind ≠ 1 → Completes (.verify dt m) z fun t => Aborted u t m x 0x0401) ∧
    (u.dev ≠ .fault ∨ b.img.kind = 1 →
      (c ≠ 0 → Completes (.verify dt m) z fun t => keeps t ∧ AnsweredWith u t m x (u.checkAbort c) [] [updateOf 1 k b.img.version (if c = 3 then 0x13 else 0)] ∧
        Only (eventChanges.and { regs := [(.UPDSTAT, 0, 0)] }) u t) ∧
      (c = 0 → u.Container a len ∧ Completes (.verify dt m) z fun t => keeps t ∧ AnsweredWith u t m x 0 [] [updateOf 1 k b.img.version] ∧ ImageStaged u t a len b.img ∧
        Only (eventChanges.and { regs := [(.UPDSTAT, 0, 0), (.DTSTAT, 0, 0)] ++ (List.range 64).map (fun d => (.COXSTAT, d, 0)), tiles := List.range 64, parts := [.riari, .decode] }) u t))) ∧
  (∀ (z : State) (dt : Nat) (m : AkMsg) (x : Session) (k : Nat),
    let u := z.advance dt
    let ok := fun (ch : Changes) (t : State) => Replied u t m x x.next 0 [] ∧ Only (replyChanges.and ch) u t
    u.Commands m x 0x0101 [k] →
    (u.cutArmed = true → Completes (.unstage dt m) z fun t => Aborted u t m x 0x0402) ∧
    (u.cutArmed = false → k < 1 ∨ 4 < k → Completes (.unstage dt m) z fun t => Aborted u t m x 0x0302) ∧
    (u.cutArmed = false → 1 ≤ k → k ≤ 4 →
      (tfind? u.riari.staged k = none → Completes (.unstage dt m) z fun t => ok {} t) ∧
      (tfind? u.riari.staged k ≠ none → Completes (.unstage dt m) z fun t =>
        ok { regs := [(.UPDSTAT, 0, 0), (.DTSTAT, 0, 0)] ++ (List.range 64).map (fun d => (.COXSTAT, d, 0)), tiles := List.range 64, parts := [.riari] } t ∧
        tfind? t.riari.staged k = none ∧ (∀ j, j ≠ k → tfind? t.riari.staged j = tfind? u.riari.staged j) ∧
        (k = 1 → t.fget F.UPDSTAT_FWSTG 0 0 = 0) ∧ (k = 2 → t.fget F.UPDSTAT_RLSTG 0 0 = 0 ∧ t.riari.reelAt = none) ∧
        (k = 3 → t.fget F.DTSTAT_SHVALID 0 0 = 0) ∧ (k = 4 → ∀ d < 64, t.fget F.COXSTAT_SHVALID d 0 = 0)))) ∧
  (∀ (z : State) (dt : Nat),
    let u := z.advance dt
    let v := u.riari
    let busy := fun (t : State) => t.hostp = { u.hostp with hrdy := t.hrdyLevel, attnDue := t.hostp.attnDue, readyAt := t.hostp.readyAt } ∧ t.out = u.out ++ hrdyMoves u t
    u.Unwatched →
    (∀ g at_ r, v.loading = (g, at_) :: r → reelOk g.payload = true → Completes (.reelCopyComplete dt) z fun t =>
      t.riari = { v with loading := r } ∧ t.fget F.UPDSTAT_RLLOAD 0 0 = b2n !r.isEmpty ∧
      (∀ e ∈ reelSegs g.payload, ∀ i < e.2.2.1, t.gword e.1 (e.2.1 + i) = img64 g.payload (e.2.2.2 + 8 * i)) ∧
      (∀ d i, i < 16384 → (∀ e ∈ reelSegs g.payload, ¬(e.1 = d ∧ e.2.1 ≤ i ∧ i < e.2.1 + e.2.2.1)) → t.gword d i = u.gword d i) ∧
      Only { regs := [(.UPDSTAT, 0, 0)], parts := [.riari, .graph] } u t) ∧
    (v.loading = [] → Completes (.reelCopyComplete dt) z fun t => Only {} u t) ∧
    (v.fwStep = 0 ∨ u.now < v.fwAt + 16000 → Completes (.firmwareReady dt) z fun t => Only {} u t) ∧
    (v.fwStep = 1 → v.fwAt + 16000 ≤ u.now → v.back < 2 → Completes (.firmwareReady dt) z fun t =>
      t.riari = { v with fwStep := 0, trial := none } ∧ t.fget F.UPDSTAT_FWTRIAL 0 0 = 1 ∧ t.fget F.UPDSTAT_ACTSLOT 0 0 = 1 - v.back ∧ busy t ∧
      t.hostp.readyAt = u.now ∧ t.hostp.attnDue = u.hostp.attnDue ∧ Only { regs := [(.UPDSTAT, 0, 0)], parts := [.riari, .hostp, .out] } u t) ∧
    (1 < v.fwStep → v.fwAt + 16000 ≤ u.now → Completes (.firmwareReady dt) z fun t =>
      t.riari = { v with fwStep := 0, trial := none } ∧ busy t ∧ t.hostp.readyAt = u.now ∧ t.hostp.attnDue = u.hostp.attnDue ∧ Only { parts := [.riari, .hostp, .out] } u t) ∧
    (v.fwStep = 1 → v.fwAt + 1600000000 ≤ u.now → v.back < 2 → Completes (.firmwareRevert dt) z fun t =>
      t.riari = { v with fwStep := 3, fwAt := u.now, trial := none } ∧ t.fget F.UPDSTAT_FWTRIAL 0 0 = 0 ∧ t.fget F.UPDSTAT_ACTSLOT 0 0 = v.back ∧ busy t ∧
      t.hostp.readyAt = u.hostp.readyAt ∧ t.hostp.attnDue = false ∧ Only { regs := [(.UPDSTAT, 0, 0)], parts := [.riari, .hostp, .out] } u t) ∧
    (v.fwStep ≠ 1 ∨ u.now < v.fwAt + 1600000000 → Completes (.firmwareRevert dt) z fun t => Only {} u t)) ∧
  (∀ (z : State) (dt : Nat) (m : AkMsg) (x : Session),
    let u := z.advance dt
    let act := u.fget F.UPDSTAT_ACTSLOT 0 0
    let kept := fun (slot : Nat) (t : State) =>
      t.fget F.UPDSTAT_PREF 0 0 = slot % 2 ∧ t.fget F.MONO_VALUE 0 0 = max (u.slotImage slot).version (u.fget F.MONO_VALUE 0 0) ∧ t.fget F.UPDSTAT_FWSTG 0 0 = 0 ∧
      t.fget F.UPDSTAT_FWTRIAL 0 0 = 0 ∧ tfind? t.riari.staged 1 = none ∧ AnsweredWith u t m x 0 [] [updateOf 6 1 (u.slotImage slot).version] ∧
      Only (eventChanges.and { regs := [(.UPDSTAT, 0, 0), (.MONO, 0, 0)], parts := [.riari] }) u t
    (u.Commands m x 0x0110 [] →
      (u.fget F.UPDSTAT_FWSTG 0 0 = 0 ∨ u.pendTiles ≠ [] → Completes (.fwact dt m) z fun t => Aborted u t m x 0x0401) ∧
      (u.fget F.UPDSTAT_FWSTG 0 0 = 1 → u.pendTiles = [] → u.cutArmed = true → Completes (.fwact dt m) z fun t => Aborted u t m x 0x0402) ∧
      (u.fget F.UPDSTAT_FWSTG 0 0 = 1 → u.pendTiles = [] → u.cutArmed = false → Completes (.fwact dt m) z fun t =>
        t.riari = { u.riari with trial := some (1 - act), back := act, fwStep := 1, fwAt := u.now } ∧ t.ak = { u.ak with sessions := [] } ∧
        t.hostp = { u.hostp with attnDue := false, hrdy := false } ∧ t.out = u.out ++ hrdyMoves u t ++ [AkMsg.back m (x.replies x.next 0 [])] ∧
        Only { parts := [.riari, .ak, .hostp, .out] } u t)) ∧
    (u.Commands m x 0x0111 [] →
      (u.dev = .fault → u.riari.verified = none → Completes (.fwcommit dt m) z fun t => Aborted u t m x 0x0401) ∧
      (∀ slot, u.dev = .fault → u.riari.verified = some slot → (u.slotImage slot).version < 2 ^ 32 → Completes (.fwcommit dt m) z fun t => kept slot t) ∧
      (u.dev ≠ .fault → u.fget F.UPDSTAT_FWTRIAL 0 0 = 0 → Completes (.fwcommit dt m) z fun t => Aborted u t m x 0x0401) ∧
      (u.dev ≠ .fault → u.fget F.UPDSTAT_FWTRIAL 0 0 = 1 → (u.slotImage act).version < 2 ^ 32 → Completes (.fwcommit dt m) z fun t => kept act t))) ∧
  (∀ (z : State) (dt : Nat) (m : AkMsg) (x : Session) (a : Nat),
    let u := z.advance dt
    let q := u.riari.lmsNext
    let body := u.reportBody (readBytes u.mem a 32) q
    let range := a % 8 = 0 ∧ a + 4096 ≤ u.dsize ∧ u.inReel a 4096 = false ∧ u.accessFault (.aklofy 2) a 8 true = none
    u.Commands m x 0x0130 [a] →
    (¬range → Completes (.attest dt m) z fun t => Aborted u t m x 0x0302) ∧
    (range → u.dev ≠ .fault → q + 1 + 2 ^ 20 ≤ 2 ^ 40 → u.Still → Completes (.attest dt m) z fun t =>
      body.take 8 = [0x41, 0x54, 0x53, 0x54, 1, 0, 0, 0] ∧ (body.drop 56).take 32 = readBytes u.mem a 32 ∧
      (∃ rep, rep = body ++ toBytes 96 (Config.signIdentity u.freeCtr (Config.sha384 body)).toNat ++ toBytes 3604 (Config.signHss q body).toNat ∧ Wrote u t a 4084 (ofBytes rep)) ∧
      t.riari = { u.riari with lmsNext := q + 1, lmsRec := if q % 1024 = 0 then q + 1024 else u.riari.lmsRec } ∧ t.freeCtr = u.freeCtr + 1 ∧
      Replied u t m x x.next 0 [] ∧ Only (replyChanges.and { parts := [.mem, .ecc, .riari, .free] }) u t)) ∧
  (∀ (z : State) (dt : Nat) (m : AkMsg) (x : Session) (k : LinkId),
    let u := z.advance dt
    let arg := (if isFab k then 32 else 0) + lkIx k
    let used := isFab k = false ∧ u.dev ≠ .standby ∧ ∃ i < 64, u.fget F.SITEW0_EN 0 (64 * lkIx k + i) = 1
    u.Commands m x 0x0140 [arg] →
    (used ∨ u.linkSt k = 0 → Completes (.retrain dt m) z fun t => Aborted u t m x 0x0401) ∧
    (¬used → u.linkSt k ≠ 0 → Completes (.retrain dt m) z fun t =>
      t.linkSt k = 1 ∧ t.link k = (u.link k).emptied ∧ t.reg .DPEND 0 0 = u.reg .DPEND 0 0 ||| linkPends k (decide (u.linkSt k = 3)) false ∧
      AnsweredWith u t m x 0 [] (if isFab k = true ∧ u.linkSt k = 3 then [(4, lkIx k, 0)] else []) ∧
      Only (eventChanges.and { regs := [(lkStat k, 0, lkIx k), (.DPEND, 0, 0)], links := [k] }) u t))

/-- 14 R376 to R381: SUBST names a spare for a tile, SUBCAN withdraws it, the pre-copy's end is kept and arms the cut that the firmware began, the end of the state's move drains the old tile, and with AUTO set a tile that is isolated or failing gets a spare, or is out where there is none. -/
def Obligations.TilesAreSubstituted : Prop :=
  (∀ (z : State) (dt : Nat) (m : AkMsg) (x : Session) (l n : Nat),
    let u := z.advance dt
    let aborts := fun code => Completes (.subst dt m) z fun t => Aborted u t m x code
    let p := u.fget F.LTMAP_PHYS 0 l
    let takes := fun (k : Nat) => Completes (.subst dt m) z fun t => Replied u t m x x.next 0 [] ∧ Pending u t l k ⟨k, p, false, false, false, false, false, 0⟩ ∧ Only (replyChanges.and (pendingChanges l k)) u t
    u.Commands m x 0x0120 [l, n] →
    (64 ≤ l ∨ 68 ≤ n ∧ n ≠ 0xFF → aborts 0x0302) ∧
    (l < 64 → n < 68 ∨ n = 0xFF → u.tileIsolated l = true → aborts 0x0401) ∧
    (l < 64 → u.tileIsolated l = false → n = 0xFF → (∀ k < 68, u.fget F.PTSTAT_STATE 0 k ≠ 1) → aborts 0x0401) ∧
    (l < 64 → u.tileIsolated l = false → n < 68 → n ≠ p → u.fget F.PTSTAT_STATE 0 n ≠ 1 → aborts 0x0401) ∧
    (l < 64 → u.tileIsolated l = false → u.fget F.LTMAP_NEXT 0 l = p → ∀ k < 68, k ≠ p → u.fget F.PTSTAT_STATE 0 k = 1 →
      k = n ∨ n = 0xFF ∧ (∀ j < k, u.fget F.PTSTAT_STATE 0 j ≠ 1) → takes k)) ∧
  (∀ (z : State) (dt : Nat) (m : AkMsg) (x : Session) (l : Nat),
    let u := z.advance dt
    let p := u.fget F.LTMAP_PHYS 0 l
    let n := u.fget F.LTMAP_NEXT 0 l
    u.Commands m x 0x0121 [l] →
    (64 ≤ l → Completes (.subcan dt m) z fun t => Aborted u t m x 0x0302) ∧
    (l < 64 → n = p → Completes (.subcan dt m) z fun t => Replied u t m x x.next 0 [] ∧ Only replyChanges u t) ∧
    (l < 64 → n ≠ p → Completes (.subcan dt m) z fun t =>
      Replied u t m x x.next 0 [] ∧ t.fget F.LTMAP_NEXT 0 l = p ∧ t.fget F.LTMAP_PEND 0 l = 0 ∧ t.fget F.PTSTAT_STATE 0 n = 1 ∧ tfind? t.riari.subs l = none ∧
      Only (replyChanges.and (pendingChanges l n)) u t)) ∧
  (∀ (z : State) (dt : Nat) (l : TileId),
    let u := z.advance dt
    let p := u.fget F.LTMAP_PHYS 0 l
    (∀ m, tfind? u.riari.subs l.val = some m →
      (u.ltPend l = true → m.presync = false → m.auto = false → Completes (.presync dt l) z fun t =>
        tfind? t.riari.subs l.val = some { m with presync := true } ∧ (∀ j, j ≠ l.val → tfind? t.riari.subs j = tfind? u.riari.subs j) ∧
        t.riari = { u.riari with subs := t.riari.subs } ∧ Only { parts := [.riari] } u t) ∧
      (u.ltPend l = true → m.presync = false → m.auto = true → (∀ j < 64, j ≠ l.val → u.ltPend j = false) → u.cutArmed = false → u.count + 16 < 2 ^ 48 →
        Completes (.presync dt l) z fun t =>
          tfind? t.riari.subs l.val = some { m with presync := true } ∧ t.fget F.CUTSTRK_STROKE 0 0 = u.count + 16 ∧ t.fget F.CUTTAKE_ARM 0 0 = 1 ∧ t.fget F.CUTTAKE_READY 0 0 = 0 ∧
          t.cut = { u.cut with checking := true, byRun := false } ∧ Only { regs := [(.CUTSTRK, 0, 0), (.CUTTAKE, 0, 0)], parts := [.riari, .cut] } u t) ∧
      (u.ltPend l = false ∨ m.presync = true → Completes (.presync dt l) z fun t => Only {} u t) ∧
      (m.moving = true → Completes (.stateMoveComplete dt l) z fun t =>
        tfind? t.riari.subs l.val = (if m.fencing then some { m with moving := false } else none) ∧ (∀ j, j ≠ l.val → tfind? t.riari.subs j = tfind? u.riari.subs j) ∧
        t.riari = { u.riari with subs := t.riari.subs } ∧ FenceBegun u t m.old ∧ Only { regs := [(.RTCTL, 0, routerOfPhys m.old)], parts := [.riari, .ctl, .mesh] } u t) ∧
      (m.moving = false → Completes (.stateMoveComplete dt l) z fun t => Only {} u t)) ∧
    (tfind? u.riari.subs l.val = none → Completes (.presync dt l) z (fun t => Only {} u t) ∧ Completes (.stateMoveComplete dt l) z fun t => Only {} u t) ∧
    (let may := u.fget F.SUBCFG_AUTO 0 0 = 1 ∧ (u.dev = .standby ∨ u.dev = .armed ∨ u.dev = .running) ∧ u.ltPend l = false ∧ tfind? u.riari.subs l.val = none ∧
       l.val ∉ u.riari.outs ∧ u.fget F.PTSTAT_STATE 0 p = 0
     let lowest := fun k => k < 68 ∧ u.fget F.PTSTAT_STATE 0 k = 1 ∧ ∀ j < k, u.fget F.PTSTAT_STATE 0 j ≠ 1
     (¬may → Completes (.autoSubst dt l) z fun t => Only {} u t) ∧
     (may → u.tileIsolated l = false → u.fget F.SPECC_UNC l 0 < 16 ∨ (∀ k < 68, u.fget F.PTSTAT_STATE 0 k ≠ 1) → Completes (.autoSubst dt l) z fun t => Only {} u t) ∧
     (∀ k, may → u.tileIsolated l = false → 16 ≤ u.fget F.SPECC_UNC l 0 → lowest k → Completes (.autoSubst dt l) z fun t =>
       Pending u t l k ⟨k, p, false, false, false, false, true, 0⟩ ∧ Only (pendingChanges l k) u t) ∧
     (∀ k, may → u.tileIsolated l = true → lowest k → (∀ c ∈ u.ctxs, c.2.st = 1 → c.2.tileset.testBit l = false) →
       (∀ e ∈ u.lanes, e.2.st = .active → u.laneTile e.1 ≠ some l.val ∧ u.laneFrom l e.1 = false) → Completes (.autoSubst dt l) z fun t =>
       Pending u t l k ⟨k, p, true, false, false, false, false, 0⟩ ∧ Only (pendingChanges l k) u t) ∧
     (may → u.tileIsolated l = true → (∀ k < 68, u.fget F.PTSTAT_STATE 0 k ≠ 1) → u.Unwatched → u.Shown → Completes (.autoSubst dt l) z fun t =>
       t.fget F.ADMCAP_CAP l 0 = 0 ∧ t.riari = { u.riari with outs := u.riari.outs ++ [l.val], retired := u.riari.retired ++ [(l.val, p, 0xFF)] } ∧ ReasonSet u t 0 ∧
       Only (reasonChanges.and { regs := [(.ADMCAP, l, 0)], parts := [.riari] }) u t)))

/-! ### Power, the host port and the debug port -/

/-- 15 R389 to R397; 13 R339, R342; 14 R366, R367, R369, R382: the conditions that put the device into RESET and what each leaves, the end of RESET in BOOT with its reference, the sensors, the loss of the reference, the end of the boot chain in STANDBY, and the entry into FAULT. -/
def Obligations.PowerAndResetMoveTheDevice : Prop :=
  (∀ (z : State) (dt : Nat),
    let u := z.advance dt
    let e := u.elec
    let since := e.v12.map fun d => d - u.now
    let temp := fun (t : State) (trip brown : Nat) => t.fget F.TEMPSTAT_TRIPPED 0 0 = trip ∧ t.fget F.TEMPSTAT_BROWN 0 0 = brown
    let trip := u.fget F.TEMPSTAT_TRIPPED 0 0
    let brown := u.fget F.TEMPSTAT_BROWN 0 0
    let clear := fun (t : State) => t.degraded = false ∧ t.ak.replreq = false ∧ t.ak.replreason = 0
    (e.keel = false → Completes (.porstAssert dt) z fun t => t.elec = { e with porst := true } ∧ Only { parts := [.elec] } u t) ∧
    (e.keel = true → u.dev ≠ .reset → Completes (.porstAssert dt) z fun t =>
      InReset u t [] ∧ clear t ∧ temp t trip brown ∧ t.elec = { e with v12 := since, porst := true, trip := if e.trip = 1 then 2 else e.trip }) ∧
    (e.keel = true → u.dev = .reset → u.Shown → Completes (.porstAssert dt) z fun t =>
      clear t ∧ t.elec = { e with porst := true, trip := if e.trip = 1 then 2 else e.trip } ∧ t.ak = { u.ak with replreq := false, replreason := 0 } ∧
      Only { parts := [.elec, .ak, .degraded] } u t) ∧
    Completes (.porstDeassert dt) z (fun t => t.elec = { e with porst := false, trip := if e.trip = 2 then (if u.tj ≤ 100 then 0 else 1) else e.trip } ∧ Only { parts := [.elec] } u t) ∧
    (e.keel = false → Completes (.brownOut dt) z fun t => Only {} u t) ∧
    (e.keel = true → u.dev ≠ .reset → Completes (.brownOut dt) z fun t => InReset u t [] ∧ clear t ∧ temp t trip brown ∧ t.elec = { e with v12 := none, brown := true }) ∧
    (e.keel = true → u.dev = .reset → Completes (.brownOut dt) z fun t => t.elec = { e with v12 := none, brown := true } ∧ Only { parts := [.elec] } u t) ∧
    (e.v12 = none → e.keel = true → Completes (.keelLosesPower dt) z fun t => t.elec = { e with keel := false, brown := false, trip := 0 } ∧ Only { parts := [.elec] } u t) ∧
    (e.v12 ≠ none ∨ e.keel = false → Completes (.keelLosesPower dt) z fun t => Only {} u t) ∧
    (e.keel = false → Completes (.powerOn dt) z fun t =>
      t.dev = .reset ∧ t.now = 0 ∧ t.out = u.out ∧ t.pending = u.pending ∧ t.elec = { keel := true, v12 := some 16000000, porst := e.porst, brown := false, trip := 0 } ∧
      (∀ k a i, k ≠ .UPDSTAT → k ≠ .MONO → t.reg k a i = regReset k a i) ∧ (∀ c n, t.thr c n = Thread.rst) ∧ (∀ l, t.lane l = Lane.rst) ∧ (∀ c, t.ctx c = Ctx.rst)) ∧
    (e.keel = true → e.v12 = none → Completes (.powerOn dt) z fun t =>
      t.elec = { e with v12 := some (u.now + 16000000), brown := false } ∧ temp t trip (if e.brown then 1 else brown) ∧ Only { regs := [(.TEMPSTAT, 0, 0)], parts := [.elec] } u t) ∧
    (e.keel = true → e.v12 ≠ none → Completes (.powerOn dt) z fun t => Only {} u t) ∧
    (e.keel = true → 118 ≤ u.tj →
      (u.dev ≠ .reset → Completes (.thermalTrip dt) z fun t => InReset u t [] ∧ clear t ∧ temp t 1 brown ∧ t.tj = u.tj ∧ t.elec = { e with v12 := since, trip := 1 }) ∧
      (u.dev = .reset → Completes (.thermalTrip dt) z fun t => Sets u t F.TEMPSTAT_TRIPPED 0 0 1 ∧ t.elec = { e with trip := 1 } ∧ Only { regs := [(.TEMPSTAT, 0, 0)], parts := [.elec] } u t)) ∧
    (e.keel = false ∨ u.tj < 118 → Completes (.thermalTrip dt) z fun t => Only {} u t) ∧
    (∀ clock, let good := u.dev = .reset ∧ e.keel = true ∧ e.porst = false ∧ e.trip = 0 ∧ 3200000 ≤ u.now ∧ ∃ d, e.v12 = some d ∧ d ≤ u.now
      (good → u.Shown → Completes (.resetEnd dt clock) z fun t =>
        t.dev = .boot ∧ t.now = 0 ∧ t.stroke = Stroke.rst ∧ t.elec = { e with v12 := some 0 } ∧ t.fget F.REFSTAT_SEL 0 0 = b2n clock ∧ t.fget F.REFSTAT_PRESENT 0 0 = b2n clock ∧
        t.fget F.REFSTAT_LOST 0 0 = u.fget F.REFSTAT_LOST 0 0 ∧ Only { regs := [(.REFSTAT, 0, 0)], parts := [.dev, .clock, .stroke, .elec] } u t) ∧
      (¬good → Completes (.resetEnd dt clock) z fun t => Only {} u t)) ∧
    (∀ (l : List Int) (lid top : Int),
      (e.keel = false → Completes (.junctionSensorRead dt l lid) z fun t => Only {} u t) ∧
      (e.keel = true → top ∈ l → (∀ x ∈ l, x ≤ top) → -128 ≤ top → top ≤ 127 → -125 ≤ lid → lid ≤ 124 → Completes (.junctionSensorRead dt l lid) z fun t =>
        t.tj = top ∧ lid - 3 ≤ sval 8 (t.fget F.TEMPSTAT_TLID 0 0) ∧ sval 8 (t.fget F.TEMPSTAT_TLID 0 0) ≤ lid + 3 ∧
        t.fget F.TEMPSTAT_THWARN 0 0 = (if (u.fget F.TEMPSTAT_WARN 0 0 : Int) ≤ top then 1 else 0) ∧ temp t trip brown ∧ t.fget F.TEMPSTAT_WARN 0 0 = u.fget F.TEMPSTAT_WARN 0 0 ∧
        Only { regs := [(.TEMPSTAT, 0, 0)], parts := [.free] } u t)) ∧
    (let live := e.keel = true ∧ u.dev ≠ .reset
     let sel := u.fget F.REFSTAT_SEL 0 0
     (live → Completes (.refclkLost dt) z fun t =>
       t.fget F.REFSTAT_PRESENT 0 0 = 0 ∧ t.fget F.REFSTAT_SEL 0 0 = 0 ∧ t.fget F.REFSTAT_LOST 0 0 = (if sel = 1 then 1 else u.fget F.REFSTAT_LOST 0 0) ∧
       Only { regs := [(.REFSTAT, 0, 0)] } u t) ∧
     (¬live → Completes (.refclkLost dt) z fun t => Only {} u t))) ∧
  (∀ (z : State) (dt : Nat) (slot : Fin 2),
    let u := z.advance dt
    let pref := u.fget F.UPDSTAT_PREF 0 0
    let trial := u.riari.trial = some slot.val
    (u.dev ≠ .boot → Completes (.bootChainComplete dt slot) z fun t => Only {} u t) ∧
    (u.dev = .boot → u.Unwatched → u.Shown → u.ak.replreq = false → u.riari.lmsRec + 2 ^ 20 ≤ 2 ^ 40 →
      (u.riari.retired = [] → u.riari.mapped = none → slot.val = pref ∨ trial → Completes (.bootChainComplete dt slot) z fun t =>
        t.dev = .standby ∧ t.mem = [] ∧ t.ecc = ⟨[], [], []⟩ ∧ t.riari = { u.riari with trial := none, lmsNext := u.riari.lmsRec } ∧
        t.fget F.UPDSTAT_ACTSLOT 0 0 = slot.val ∧ t.fget F.UPDSTAT_FWTRIAL 0 0 = (if slot.val = pref then 0 else 1) ∧ t.fget F.UPDSTAT_PREF 0 0 = pref ∧
        t.hostp = { u.hostp with hrdy := t.hrdyLevel } ∧ t.out = u.out ++ hrdyMoves u t ∧ Only { regs := [(.UPDSTAT, 0, 0)], parts := [.dev, .mem, .ecc, .riari, .hostp, .out] } u t) ∧
      (slot.val ≠ pref → ¬trial → Completes (.bootChainComplete dt slot) z fun t => t.dev = .standby ∧ t.fget F.UPDSTAT_ACTSLOT 0 0 = slot.val ∧ t.ak.replreason.testBit 2 = true) ∧
      (∀ l < 64, ∀ p n, u.riari.retired = [(l, p, n)] → n < 68 → n ≠ u.physOf l → Completes (.bootChainComplete dt slot) z fun t =>
        t.dev = .standby ∧ t.fget F.LTMAP_NEXT 0 l = n ∧ t.fget F.LTMAP_PEND 0 l = 1 ∧ t.fget F.PTSTAT_STATE 0 n = 2) ∧
      (∀ ch < 32, u.riari.mapped = some ch → Completes (.bootChainComplete dt slot) z fun t =>
        t.dev = .standby ∧ t.fget F.CHSTAT_STATE 0 ch = 2 ∧ t.fget F.DRCFG_RESV 0 0 = 1 ∧ t.fget F.DRSTAT_MOST 0 0 = 2 ∧ t.fget F.DRSTAT_MOCH 0 0 = ch ∧ t.dsize = 55552 * 2 ^ 20))) ∧
  (∀ (z : State) (dt : Nat) (cause : FatalCause),
    let u := z.advance dt
    let may := if cause = .boot then u.dev = .boot else u.dev ≠ .reset ∧ u.dev ≠ .fault
    (may → u.Unwatched → u.Shown → Completes (.faultEntry dt cause) z fun t =>
      t.dev = .fault ∧ t.ak = { u.ak with fcause := match cause with | .boot => 1 | .ecc => 2 | .riari => 4 } ∧ t.riari = { u.riari with fwStep := 0 } ∧
      (∀ k, t.linkSt k = 0 ∧ t.link k = if u.linkSt k = 0 then u.link k else (u.link k).emptied) ∧ t.hostp = { u.hostp with hrdy := t.hrdyLevel } ∧ t.out = u.out ++ hrdyMoves u t ∧
      (∀ k a i, k ≠ .CLSTAT → k ≠ .FLSTAT → (k, a, i) ≠ (.DPEND, 0, 0) → t.reg k a i = u.reg k a i) ∧ (∀ c n, n < 16 → t.thr c n = u.thr c n) ∧ (∀ d, t.tile d = u.tile d) ∧
      (∀ l, t.lane l = u.lane l) ∧ (∀ c, t.ctx c = u.ctx c) ∧ (∀ p, p ∉ [Part.dev, .ak, .riari, .hostp, .out] → p.same u t) ∧ t.pending = u.pending) ∧
    (¬may → Completes (.faultEntry dt cause) z fun t => Only {} u t))

/-- 13 R344, R349 to R354; 15 R395; 12 R326; 10 R250, R251 and R406: an entry of the command ring is answered over itself, an H2D entry becomes a token or is refused, an access through a BAR reads or writes a register, the mailbox or memory or is unsupported, attention pulses start and end, H_PERST# and a Hot Reset release what the host holds, and a management link's change is kept. -/
def Obligations.HostPortServesItsHost : Prop :=
  (∀ (z : State) (dt : Nat) (f seq mt : Nat) (p pad : List Byte),
    let u := z.advance dt
    let ready := u.serving = true ∧ u.hostp.perst = false ∧ u.fget F.RCFG_EN 0 0 = 1 ∧ u.ringUsed 0 ≠ 0
    let b := clientBytes mt f 0 seq p ++ pad
    let row := Instr.commandRingEntry dt b
    let said := fun (code : Nat) (data : List Byte) => akHeader 0x7F 0 seq (4 + data.length) ++ (toBytes 2 code ++ toBytes 2 0 ++ data)
    let after := fun (code : Nat) (data : List Byte) (t : State) =>
      t.fget F.RHEAD_HEAD 0 0 = (u.fget F.RHEAD_HEAD 0 0 + 1) % 2 ^ 32 ∧
      t.out = u.out ++ [.ring 0 (u.fget F.RHEAD_HEAD 0 0) (said code data)] ++ (if u.fget F.RCFG_IEN 0 0 = 1 then [.msix (u.fget F.RCFG_VEC 0 0)] else [])
    let base := ({ regs := [(.RHEAD, 0, 0)], parts := [.out] } : Changes)
    let quits := fun (code : Nat) => Completes row z fun t => after code [] t ∧ t.hostp = { u.hostp with xfer := none } ∧ Only (base.and { parts := [.hostp] }) u t
    let known := mt = 0x10 ∨ mt = 0x11 ∨ mt = 0x12 ∨ mt = 0x13 ∨ mt = 0x20
    (¬ready → ∀ e, Completes (.commandRingEntry dt e) z fun t => Only {} u t) ∧
    (ready → ∀ e, entryOk e = false → Completes (.commandRingEntry dt e) z fun t => t.fget F.RHEAD_HEAD 0 0 = (u.fget F.RHEAD_HEAD 0 0 + 1) % 2 ^ 32 ∧ Only base u t) ∧
    (ready → f < 2 → seq < 2 ^ 32 → p.length ≤ 1440 →
      (mt < 256 → ¬known → Completes row z fun t => after 0x0302 [] t ∧ Only base u t) ∧
      (∀ ix sub, ix < 65536 → sub < 256 → mt = 0x10 → p = toBytes 2 ix ++ toBytes 1 sub ++ toBytes 1 0 →
        (ix < 0xF000 → u.dictIndex ix = [] → quits 0x0101) ∧
        (ix < 0xF000 → ∀ e, 0 < sub → (u.dictIndex ix)[sub - 1]? = some e →
          (u.ak.hostpriv < e.priv → quits 0x0203) ∧
          (∀ v, e.priv ≤ u.ak.hostpriv → e.acc ≠ .wo → e.src = .val v → Completes row z fun t =>
            after 0 (toBytes 1 e.ty ++ toBytes 1 0 ++ toBytes 2 v.length ++ v) t ∧ Only base u t))) ∧
      (∀ mask < 2 ^ 64, mt = 0x20 → p = cmdBytes 0x0030 [mask] → Completes row z fun t =>
        after 0 [] t ∧ t.hostp = { u.hostp with mask := BitVec.ofNat 64 mask } ∧ Only (base.and { parts := [.hostp] }) u t) ∧
      (mt = 0x20 → p = cmdBytes 0x0001 [] →
        (1 ≤ u.ak.hostpriv → Completes row z fun t => t.dev = .reset ∧ t.degraded = u.degraded ∧ t.ak.replreason = u.ak.replreason ∧ ∀ c n, t.thr c n = Thread.rst) ∧
        (u.ak.hostpriv = 0 → quits 0x0203)))) ∧
  (∀ (z : State) (dt : Nat) (d : Fin 16) (k : Token),
    let u := z.advance dt
    let r := 2 + d.val
    let head := u.fget F.RHEAD_HEAD 0 r
    let ready := u.fget F.RCFG_EN 0 r = 1 ∧ u.ringUsed r ≠ 0 ∧ u.fget F.RCFG_DIR 0 r = 1
    let bad := k.ord = true ∨ k.fault = true ∨ k.sticky = true ∨ k.rsvd = true
    let row := Instr.h2dEntry dt d (BitVec.ofNat 256 k.num)
    let taken := fun (t : State) => t.fget F.RHEAD_HEAD 0 r = (head + 1) % 2 ^ 32
    let signal := if u.fget F.RCFG_IEN 0 r = 1 then [Out.msix (u.fget F.RCFG_VEC 0 r)] else []
    let dest := u.routeTok 32 (.node k.tile) k
    let q := mkPacket 0 (k.cls + 1) (u.siteOf dest).1 (u.siteOf dest).2 32 true 1 (.tok k dest 0)
    (¬ready → Completes row z fun t => Only {} u t) ∧
    (ready → bad → u.Unwatched → Completes row z fun t => taken t ∧ t.out = u.out ++ signal ∧ Only { regs := [(.RHEAD, 0, r)], parts := [.out] } u t) ∧
    (ready → ¬bad → (∀ g, dest = .fabric g → u.devnum ≠ 0xFFFF) →
      (u.freeWay 32 true q → Completes row z fun t =>
        taken t ∧ Offered u t 32 true q ∧ t.out = u.out ++ signal ∧ Only { regs := [(.RHEAD, 0, r)], parts := [.mesh, .stamp, .out] } u t) ∧
      (16 ≤ (u.retq 32 true).length → Completes row z fun t => Only {} u t))) ∧
  (∀ (z : State) (dt off : Nat) (len : Fin 8) (op : BarOp),
    let u := z.advance dt
    let size := len.val + 1
    let acc := fun (bar : Fin 3) => Instr.hostAccess dt ⟨bar, off, len, op⟩
    let atomic := ∃ v, op = .add v ∨ op = .swap v
    let up := u.hostp.perst = false ∧ u.dev ≠ .reset
    let unsupported := fun (bar : Fin 3) => Completes (acc bar) z fun t => t.out = u.out ++ [.hostComp 0 1] ∧ Only { parts := [.out] } u t
    let w := off / 8
    let old := tget u.mbx 0 w
    (¬up → ∀ bar, Completes (acc bar) z fun t => Only {} u t) ∧
    (up → atomic → ¬(off % 8 = 0 ∧ size = 8) → ∀ bar, unsupported bar) ∧
    (up → ¬atomic ∨ off % 8 = 0 ∧ size = 8 →
      (4096 < off + size ∨ 8 < off % 8 + size → unsupported 1) ∧
      (off + size ≤ 4096 → off % 8 + size ≤ 8 →
        let part := wbits old (8 * (off % 8)) (8 * size)
        let puts := fun (v : Nat) (comp : List Out) => Completes (acc 1) z fun t =>
          tget t.mbx 0 w = wset old (8 * (off % 8)) (8 * size) v ∧ (∀ j, j ≠ w → tget t.mbx 0 j = tget u.mbx 0 j) ∧ t.out = u.out ++ comp ∧ Only { parts := [.mbx, .out] } u t
        (op = .read → Completes (acc 1) z fun t => t.out = u.out ++ [.hostComp part 0] ∧ Only { parts := [.out] } u t) ∧
        (∀ v, (op = .write v → puts v []) ∧ (op = .add v → puts (part + v) [.hostComp part 0]) ∧ (op = .swap v → puts v [.hostComp part 0]))) ∧
      (off < 0x10000 → ¬(off % 8 = 0 ∧ size = 8) → unsupported 0) ∧
      (off % 8 = 0 → size = 8 → ∀ k i, hostKind k = true → regExists k 0 i → regAddr k 0 i = 0x20000180000 + off →
        (op = .read → Completes (acc 0) z fun t => t.out = u.out ++ [.hostComp (maskWo (regSpec k).fields (u.regImage k 0 i)).toNat 0] ∧ Only { parts := [.out] } u t) ∧
        (∀ v, op = .write v → k ∉ ruledRegs → u.Passes .host k 0 i (BitVec.ofNat 64 v) → Completes (acc 0) z fun t =>
          (∀ f ∈ (regSpec k).fields, wbits (t.reg k 0 i) f.lo f.len = fieldWritten (u.reg k 0 i) (BitVec.ofNat 64 v) f) ∧ Only { regs := [(k, 0, i)] } u t)) ∧
      (0x1000000000 < off + size → unsupported 2) ∧
      (u.dsize ≤ off → off + size ≤ 0x1000000000 → unsupported 2) ∧
      (off + size ≤ u.dsize → u.dsize ≤ 0x1000000000 → u.accessFault .host off size (decide (op ≠ .read)) = none →
        let v := match op with | .read => 0 | .write v => v | .add v => v | .swap v => v
        let kind := match op with | .read => MemOp.read | .write _ => .write | .add _ => .add | .swap _ => .swap
        let m : MemReq := { id := u.seqNo, who := .host, op := kind, addr := off, size := size, off := 0, data := v % 256 ^ size, ct := false, cls := 3, stamp := u.seqNo, due := u.now }
        Completes (acc 2) z fun t => t.drq = u.drq ++ m.splitAt 256 ∧
          tfind? t.hostp.acc u.seqNo = (if kind = .write then tfind? u.hostp.acc u.seqNo else some ((m.splitAt 256).length, 0, 0)) ∧
          t.hostp = { u.hostp with acc := t.hostp.acc } ∧ Only { parts := [.dram, .stamp, .hostp] } u t))) ∧
  (∀ (z : State) (dt : Nat),
    let u := z.advance dt
    let h := u.hostp
    let rested := ∀ k, h.attnLast = some k → k + 8000 ≤ u.now
    let due := u.now % 8 = 0 ∧ u.fget F.HPCTL_ATTNEN 0 0 = 1 ∧ u.hrdyLevel = true ∧ rested ∧
      (h.attnDue = true ∨ u.ringUsed 1 ≠ 0 ∧ (h.attnLast ≠ none ∨ h.readyAt ≠ 0) ∧ h.readyAt + 1600 ≤ u.now)
    let done := h.pulse = true ∧ ∀ k, h.attnLast = some k → k + 1600 ≤ u.now
    (due → Completes (.attentionPulse dt) z fun t =>
      t.hostp = { h with pulse := true, attnDue := false, attnLast := some u.now, hrdy := false } ∧ t.out = u.out ++ hrdyMoves u t ∧ t.hrdyLevel = false ∧ Only { parts := [.hostp, .out] } u t) ∧
    (¬due → Completes (.attentionPulse dt) z fun t => Only {} u t) ∧
    (done → Completes (.attentionPulseEnd dt) z fun t =>
      t.hostp = { h with pulse := false, hrdy := t.hrdyLevel } ∧ t.out = u.out ++ hrdyMoves u t ∧ Only { parts := [.hostp, .out] } u t) ∧
    (¬done → Completes (.attentionPulseEnd dt) z fun t => Only {} u t)) ∧
  (∀ (z : State) (dt : Nat),
    let u := z.advance dt
    let mine := fun (d c : Nat) => d ∈ u.tiles.map (fun e => e.1) ∧ u.fget F.LKGCFG_MODE d 0 ≠ 1 ∧ (u.cell d c).val = 0xC00
    let freed := fun (t : State) => ∀ d c, t.cell d c = if mine d c then ⟨0, true⟩ else u.cell d c
    let ch := ({ regs := u.tiles.map fun e => (.LKCNT, e.1, 0), tiles := u.tiles.map fun e => e.1 } : Changes)
    (u.tiles.map fun e => e.1).Nodup → (∀ e ∈ u.tiles, (e.2.cells.map fun c => c.1).Nodup ∧ e.2.waiters = []) →
    Completes (.pcieHotResetOrLinkDown dt) z (fun t => freed t ∧ Only ch u t) ∧
    Completes (.hPerst dt true) z (fun t =>
      freed t ∧ (∀ k a i, hostKind k = true → t.reg k a i = regReset k a i) ∧ (∀ k a i, hostKind k = false → (k, a, i) ∉ ch.regs → t.reg k a i = u.reg k a i) ∧
      t.hostp = { u.hostp with perst := true, xfer := none, lost := 0, attnDue := false, acc := [] } ∧
      (∀ c n, n < 16 → t.thr c n = u.thr c n) ∧ (∀ p, p ≠ Part.hostp → p.same u t) ∧ t.pending = u.pending) ∧
    Completes (.hPerst dt false) z (fun t => t.hostp = { u.hostp with perst := false } ∧ Only { parts := [.hostp] } u t)) ∧
  (∀ (z : State) (dt : Nat) (p : Fin 2) (on : Bool),
    let u := z.advance dt
    Completes (.managementLinkChange dt p on) z fun t =>
      tget t.ak.linkUp false p.val = on ∧ (∀ q, q ≠ p.val → tget t.ak.linkUp false q = tget u.ak.linkUp false q) ∧ t.ak = { u.ak with linkUp := t.ak.linkUp } ∧ Only { parts := [.ak] } u t) ∧
  (∀ (z : State) (dt : Nat) (write : Bool) (a : BitVec 48) (v : Word),
    let u := z.advance dt
    let n := a.toNat
    let row := Instr.dapacc dt write a v
    let ends := fun (data err : Nat) (ch : Changes) (P : State → Prop) => Completes row z fun t =>
      t.fget F.DAPSTAT_BUSY 0 0 = 0 ∧ t.fget F.DAPSTAT_ERR 0 0 = err ∧ t.out = u.out ++ [.dapComp data err] ∧ P t ∧ Only (ch.and { regs := [(.DAPSTAT, 0, 0)], parts := [.out] }) u t
    (u.dev = .reset ∨ u.fget F.DAPSTAT_BUSY 0 0 = 1 → Completes row z fun t => Only {} u t) ∧
    (u.dev ≠ .reset → u.fget F.DAPSTAT_BUSY 0 0 = 0 →
      (u.ak.dbgUnlock = false → ends 0 5 {} fun _ => True) ∧
      (u.ak.dbgUnlock = true → n % 8 ≠ 0 → ends 0 3 {} fun _ => True) ∧
      (u.ak.dbgUnlock = true → n % 8 = 0 → u.region none n = .unmapped → ends 0 2 {} fun _ => True) ∧
      (∀ k t i, u.ak.dbgUnlock = true → regExists k t i → n = regAddr k t i →
        (write = false → k ≠ .LKCELL → ends (maskWo (regSpec k).fields (u.regImage k t i)).toNat 0 {} fun _ => True) ∧
        (write = true → k ∉ ruledRegs → u.Passes .debug k t i v →
          ends 0 0 { regs := [(k, t, i)] } fun y => ∀ f ∈ (regSpec k).fields, wbits (y.reg k t i) f.lo f.len = fieldWritten (u.reg k t i) v f) ∧
        (∀ e, write = true → (hostKind k = true → u.hostp.perst = false) → u.firstRefusal .debug k t i v = some e → ends 0 e.2 {} fun _ => True)) ∧
      (u.ak.dbgUnlock = true → n % 8 = 0 → n + 8 ≤ u.dsize → u.dsize ≤ 0x1000000000 → u.accessFault .debug n 8 write = none → Completes row z fun t =>
        t.drq = u.drq ++ [{ id := u.seqNo, who := .debug, op := if write then .write else .read, addr := n, size := 8, off := 0, data := v.toNat, ct := false, cls := 3, stamp := u.seqNo, due := u.now }] ∧
        t.fget F.DAPSTAT_BUSY 0 0 = 1 ∧ Only { regs := [(.DAPSTAT, 0, 0)], parts := [.dram, .stamp] } u t)))

/-! ### Numbers and places -/

/-- 07 R172: negation and absolute value of the most negative value. NEG and ABS of 0x8000_0000_0000_0000 give that value again, with N 1, Z 0, V 1 when S is set, and C 0 for NEG; NEGO of it writes nothing, leaves the flags and traps with fault 0x0A; ABS of any other value clears V when S is set, and ABS never traps; without S no flag changes. In node form NEG and ABS emit the same value, and NEGO faults. -/
def Obligations.NegationOfTheMostNegativeValue : Prop :=
  (∀ (z : State) (dt : Nat) (c : CoreId) (n : ThreadId) (o : Ins),
    let u := z.advance dt
    let x := u.thr c n
    let m : Word := 0x8000000000000000
    let gives := fun (v : Word) (fl : Word) => ({ x.setW (iRD o.w) v with fl := if o.s then fl else x.fl } : Thread)
    Takes u c n o →
    (∀ y, y = gives m (applyFlags x.fl (some true) (some false) (some false) (some true)) → o.op = 0x06 → o.a x = m →
      (y.stepPc o.pc (o.pc + o.len)).pc ≤ 16383 → Completes (.neg dt (.strand c n)) z fun t => InSequence u t c n o y) ∧
    (o.op = 0x07 → o.a x = m → (c.val < 64 → u.Still ∧ u.QuietQ c 255) →
      Completes (.nego dt (.strand c n)) z fun t => Trapped u t c n 0x0A o.pc ((issueChanges u c n).and { regs := [(.TARX, c, n)] }) ∧ Recorded t c n o 0 0 0 1) ∧
    (∀ y, y = gives m (applyFlags x.fl (some true) (some false) none (some true)) → o.op = 0x1F → o.a x = m →
      (y.stepPc o.pc (o.pc + o.len)).pc ≤ 16383 → Completes (.abs dt (.strand c n)) z fun t => InSequence u t c n o y) ∧
    (∀ y v, v = (if (o.a x).slt 0 then -o.a x else o.a x) → y = gives v (applyFlags x.fl (some false) (some (v == 0)) none (some false)) → o.op = 0x1F → o.a x ≠ m →
      (y.stepPc o.pc (o.pc + o.len)).pc ≤ 16383 → Completes (.abs dt (.strand c n)) z fun t => InSequence u t c n o y)) ∧
  (∀ (u : State) (d cls : Nat) (f : Firing),
    let m : Word := 0x8000000000000000
    let op := nOpc f.word
    formDefined op (nMode f.word) = true → nMatch f.word ≠ 5 → f.mod < 2 → (if f.mod = 1 then f.b else f.a) = m →
    (op = 0x06 ∨ op = 0x1F → u.nodeRes d cls f = (.toks m f.c (dsts f.word), u)) ∧ (op = 0x07 → u.nodeRes d cls f = (.fault 0x0A, u)))

/-- 01 R14: the place of each physical tile on the mesh, x and y, and with it its router, which is number 8 y + x. -/
def Obligations.TilesHaveTheirPlaces : Prop :=
  let x := fun p => routerOfPhys p % 8
  let y := fun p => routerOfPhys p / 8
  (∀ p < 64, x p = p % 8) ∧ (∀ p < 32, y p = p / 8) ∧ (∀ p < 64, 32 ≤ p → y p = p / 8 + 1) ∧
  (x 64, y 64) = (1, 4) ∧ (x 65, y 65) = (2, 4) ∧ (x 66, y 66) = (5, 4) ∧ (x 67, y 67) = (6, 4)

/-! ### The block -/

/-- The model's choice (log 1): a step with a command at the front of the queue is the command's effect with the rest of the queue; with an empty queue one cycle passes, in which the links transmit their due blocks. After reset the queue is empty, the device is in BOOT, and memory lists only bytes that differ from 0 (the model's choice, log 6). -/
def Obligations.StepRunsTheFirstCommand : Prop :=
  (∀ (c : Instr) (r : List Instr) (z : State), step { z with pending := c :: r } = exec c { z with pending := r }) ∧
  (∀ z : State, z.pending = [] → step z = .next (allLinks.foldl (fun s k => s.txBlock k) (z.advance 1))) ∧
  State.reset.pending = [] ∧ State.reset.dev = .boot ∧ Memory.wf State.reset.mem = true

/-- For every state, reached or not, and whatever command stands at the front of its queue: a step answers a next state, no command stops the block, and memory keeps its canonical form, which lists addresses in rising order and no byte that reads as 0 (10 R252, log 6). -/
def Obligations.EveryStepAnswersAndKeepsMemoryCanonical : Prop :=
  ∀ s : State, Memory.wf s.mem = true → ∃ t, step s = .next t ∧ Memory.wf t.mem = true

end
end

