-- ==== Sys2Proof/Laws/State.lean ====
section
/-! SUPPORT. The fields of the state after each named update: one lemma per field per update, and what the readers of registers, tiles, threads, lanes, links and contexts give after each of them. -/
namespace Sys2Proof.Machine

/-! ### Tables -/

variable {κ α : Type} [DecidableEq κ]

theorem tfind?_tdel_self (t : Tab κ α) (k : κ) : tfind? (tdel t k) k = none := by
  induction t with
  | nil => rfl
  | cons p r ih =>
    unfold tdel
    split
    · exact ih
    · rename_i h
      simp only [tfind?, if_neg h, ih]

theorem tfind?_tdel_ne (t : Tab κ α) {k j : κ} (h : j ≠ k) : tfind? (tdel t k) j = tfind? t j := by
  induction t with
  | nil => rfl
  | cons p r ih =>
    unfold tdel
    split
    · rename_i e
      rw [ih]
      have n : p.1 ≠ j := fun q => h (q.symm.trans e)
      simp only [tfind?, if_neg n]
    · simp only [tfind?, ih]

@[simp] theorem tget_tput_self (t : Tab κ α) (d v : α) (k : κ) : tget (tput t k v) d k = v := by
  simp [tget, tput, tfind?]

theorem tget_tput_ne (t : Tab κ α) (d v : α) {k j : κ} (h : j ≠ k) : tget (tput t k v) d j = tget t d j := by
  have n : k ≠ j := fun q => h q.symm
  simp [tget, tput, tfind?, n, tfind?_tdel_ne t h]

@[simp] theorem tget_tdel_self (t : Tab κ α) (d : α) (k : κ) : tget (tdel t k) d k = d := by
  simp [tget, tfind?_tdel_self]

theorem tget_tdel_ne (t : Tab κ α) (d : α) {k j : κ} (h : j ≠ k) : tget (tdel t k) d j = tget t d j := by
  simp [tget, tfind?_tdel_ne t h]

theorem tdel_tdel (t : Tab κ α) (k : κ) : tdel (tdel t k) k = tdel t k := by
  induction t with
  | nil => rfl
  | cons p r ih =>
    by_cases h : p.1 = k <;> simp [tdel, h, ih]

@[simp] theorem tput_tput (t : Tab κ α) (k : κ) (v w : α) : tput (tput t k v) k w = tput t k w := by
  simp [tput, tdel, tdel_tdel]

/-! ### Fields after updates -/

variable (s : State)

@[simp] theorem State.setReg_pending (k : RegKind) (a i : Nat) (v : Word) : (s.setReg k a i v).pending = s.pending := rfl
@[simp] theorem State.setReg_now (k : RegKind) (a i : Nat) (v : Word) : (s.setReg k a i v).now = s.now := rfl
@[simp] theorem State.setReg_seqNo (k : RegKind) (a i : Nat) (v : Word) : (s.setReg k a i v).seqNo = s.seqNo := rfl
@[simp] theorem State.setReg_freeCtr (k : RegKind) (a i : Nat) (v : Word) : (s.setReg k a i v).freeCtr = s.freeCtr := rfl
@[simp] theorem State.setReg_dev (k : RegKind) (a i : Nat) (v : Word) : (s.setReg k a i v).dev = s.dev := rfl
@[simp] theorem State.setReg_degraded (k : RegKind) (a i : Nat) (v : Word) : (s.setReg k a i v).degraded = s.degraded := rfl
@[simp] theorem State.setReg_mem (k : RegKind) (a i : Nat) (v : Word) : (s.setReg k a i v).mem = s.mem := rfl
@[simp] theorem State.setReg_ecc (k : RegKind) (a i : Nat) (v : Word) : (s.setReg k a i v).ecc = s.ecc := rfl
@[simp] theorem State.setReg_mbx (k : RegKind) (a i : Nat) (v : Word) : (s.setReg k a i v).mbx = s.mbx := rfl
@[simp] theorem State.setReg_graph (k : RegKind) (a i : Nat) (v : Word) : (s.setReg k a i v).graph = s.graph := rfl
@[simp] theorem State.setReg_threads (k : RegKind) (a i : Nat) (v : Word) : (s.setReg k a i v).threads = s.threads := rfl
@[simp] theorem State.setReg_tiles (k : RegKind) (a i : Nat) (v : Word) : (s.setReg k a i v).tiles = s.tiles := rfl
@[simp] theorem State.setReg_lanes (k : RegKind) (a i : Nat) (v : Word) : (s.setReg k a i v).lanes = s.lanes := rfl
@[simp] theorem State.setReg_outlets (k : RegKind) (a i : Nat) (v : Word) : (s.setReg k a i v).outlets = s.outlets := rfl
@[simp] theorem State.setReg_ctxs (k : RegKind) (a i : Nat) (v : Word) : (s.setReg k a i v).ctxs = s.ctxs := rfl
@[simp] theorem State.setReg_stroke (k : RegKind) (a i : Nat) (v : Word) : (s.setReg k a i v).stroke = s.stroke := rfl
@[simp] theorem State.setReg_cut (k : RegKind) (a i : Nat) (v : Word) : (s.setReg k a i v).cut = s.cut := rfl
@[simp] theorem State.setReg_scan (k : RegKind) (a i : Nat) (v : Word) : (s.setReg k a i v).scan = s.scan := rfl
@[simp] theorem State.setReg_mesh (k : RegKind) (a i : Nat) (v : Word) : (s.setReg k a i v).mesh = s.mesh := rfl
@[simp] theorem State.setReg_ctl (k : RegKind) (a i : Nat) (v : Word) : (s.setReg k a i v).ctl = s.ctl := rfl
@[simp] theorem State.setReg_links (k : RegKind) (a i : Nat) (v : Word) : (s.setReg k a i v).links = s.links := rfl
@[simp] theorem State.setReg_bankReqs (k : RegKind) (a i : Nat) (v : Word) : (s.setReg k a i v).bankReqs = s.bankReqs := rfl
@[simp] theorem State.setReg_drq (k : RegKind) (a i : Nat) (v : Word) : (s.setReg k a i v).drq = s.drq := rfl
@[simp] theorem State.setReg_mbxq (k : RegKind) (a i : Nat) (v : Word) : (s.setReg k a i v).mbxq = s.mbxq := rfl
@[simp] theorem State.setReg_fireMem (k : RegKind) (a i : Nat) (v : Word) : (s.setReg k a i v).fireMem = s.fireMem := rfl
@[simp] theorem State.setReg_winq (k : RegKind) (a i : Nat) (v : Word) : (s.setReg k a i v).winq = s.winq := rfl
@[simp] theorem State.setReg_pushq (k : RegKind) (a i : Nat) (v : Word) : (s.setReg k a i v).pushq = s.pushq := rfl
@[simp] theorem State.setReg_dtabA (k : RegKind) (a i : Nat) (v : Word) : (s.setReg k a i v).dtabA = s.dtabA := rfl
@[simp] theorem State.setReg_dtabB (k : RegKind) (a i : Nat) (v : Word) : (s.setReg k a i v).dtabB = s.dtabB := rfl
@[simp] theorem State.setReg_ctbaseSet (k : RegKind) (a i : Nat) (v : Word) : (s.setReg k a i v).ctbaseSet = s.ctbaseSet := rfl
@[simp] theorem State.setReg_drRush (k : RegKind) (a i : Nat) (v : Word) : (s.setReg k a i v).drRush = s.drRush := rfl
@[simp] theorem State.setReg_moveStart (k : RegKind) (a i : Nat) (v : Word) : (s.setReg k a i v).moveStart = s.moveStart := rfl
@[simp] theorem State.setReg_fgq (k : RegKind) (a i : Nat) (v : Word) : (s.setReg k a i v).fgq = s.fgq := rfl
@[simp] theorem State.setReg_fabHoldTo (k : RegKind) (a i : Nat) (v : Word) : (s.setReg k a i v).fabHoldTo = s.fabHoldTo := rfl
@[simp] theorem State.setReg_drainSeen (k : RegKind) (a i : Nat) (v : Word) : (s.setReg k a i v).drainSeen = s.drainSeen := rfl
@[simp] theorem State.setReg_gwq (k : RegKind) (a i : Nat) (v : Word) : (s.setReg k a i v).gwq = s.gwq := rfl
@[simp] theorem State.setReg_gwAt (k : RegKind) (a i : Nat) (v : Word) : (s.setReg k a i v).gwAt = s.gwAt := rfl
@[simp] theorem State.setReg_pcount (k : RegKind) (a i : Nat) (v : Word) : (s.setReg k a i v).pcount = s.pcount := rfl
@[simp] theorem State.setReg_ak (k : RegKind) (a i : Nat) (v : Word) : (s.setReg k a i v).ak = s.ak := rfl
@[simp] theorem State.setReg_riari (k : RegKind) (a i : Nat) (v : Word) : (s.setReg k a i v).riari = s.riari := rfl
@[simp] theorem State.setReg_hostp (k : RegKind) (a i : Nat) (v : Word) : (s.setReg k a i v).hostp = s.hostp := rfl
@[simp] theorem State.setReg_elec (k : RegKind) (a i : Nat) (v : Word) : (s.setReg k a i v).elec = s.elec := rfl
@[simp] theorem State.setReg_out (k : RegKind) (a i : Nat) (v : Word) : (s.setReg k a i v).out = s.out := rfl

@[simp] theorem State.fset_pending (f : Fld) (a i v : Nat) : (s.fset f a i v).pending = s.pending := rfl
@[simp] theorem State.fset_now (f : Fld) (a i v : Nat) : (s.fset f a i v).now = s.now := rfl
@[simp] theorem State.fset_seqNo (f : Fld) (a i v : Nat) : (s.fset f a i v).seqNo = s.seqNo := rfl
@[simp] theorem State.fset_freeCtr (f : Fld) (a i v : Nat) : (s.fset f a i v).freeCtr = s.freeCtr := rfl
@[simp] theorem State.fset_dev (f : Fld) (a i v : Nat) : (s.fset f a i v).dev = s.dev := rfl
@[simp] theorem State.fset_degraded (f : Fld) (a i v : Nat) : (s.fset f a i v).degraded = s.degraded := rfl
@[simp] theorem State.fset_mem (f : Fld) (a i v : Nat) : (s.fset f a i v).mem = s.mem := rfl
@[simp] theorem State.fset_ecc (f : Fld) (a i v : Nat) : (s.fset f a i v).ecc = s.ecc := rfl
@[simp] theorem State.fset_mbx (f : Fld) (a i v : Nat) : (s.fset f a i v).mbx = s.mbx := rfl
@[simp] theorem State.fset_graph (f : Fld) (a i v : Nat) : (s.fset f a i v).graph = s.graph := rfl
@[simp] theorem State.fset_threads (f : Fld) (a i v : Nat) : (s.fset f a i v).threads = s.threads := rfl
@[simp] theorem State.fset_tiles (f : Fld) (a i v : Nat) : (s.fset f a i v).tiles = s.tiles := rfl
@[simp] theorem State.fset_lanes (f : Fld) (a i v : Nat) : (s.fset f a i v).lanes = s.lanes := rfl
@[simp] theorem State.fset_outlets (f : Fld) (a i v : Nat) : (s.fset f a i v).outlets = s.outlets := rfl
@[simp] theorem State.fset_ctxs (f : Fld) (a i v : Nat) : (s.fset f a i v).ctxs = s.ctxs := rfl
@[simp] theorem State.fset_stroke (f : Fld) (a i v : Nat) : (s.fset f a i v).stroke = s.stroke := rfl
@[simp] theorem State.fset_cut (f : Fld) (a i v : Nat) : (s.fset f a i v).cut = s.cut := rfl
@[simp] theorem State.fset_scan (f : Fld) (a i v : Nat) : (s.fset f a i v).scan = s.scan := rfl
@[simp] theorem State.fset_mesh (f : Fld) (a i v : Nat) : (s.fset f a i v).mesh = s.mesh := rfl
@[simp] theorem State.fset_ctl (f : Fld) (a i v : Nat) : (s.fset f a i v).ctl = s.ctl := rfl
@[simp] theorem State.fset_links (f : Fld) (a i v : Nat) : (s.fset f a i v).links = s.links := rfl
@[simp] theorem State.fset_bankReqs (f : Fld) (a i v : Nat) : (s.fset f a i v).bankReqs = s.bankReqs := rfl
@[simp] theorem State.fset_drq (f : Fld) (a i v : Nat) : (s.fset f a i v).drq = s.drq := rfl
@[simp] theorem State.fset_mbxq (f : Fld) (a i v : Nat) : (s.fset f a i v).mbxq = s.mbxq := rfl
@[simp] theorem State.fset_fireMem (f : Fld) (a i v : Nat) : (s.fset f a i v).fireMem = s.fireMem := rfl
@[simp] theorem State.fset_winq (f : Fld) (a i v : Nat) : (s.fset f a i v).winq = s.winq := rfl
@[simp] theorem State.fset_pushq (f : Fld) (a i v : Nat) : (s.fset f a i v).pushq = s.pushq := rfl
@[simp] theorem State.fset_dtabA (f : Fld) (a i v : Nat) : (s.fset f a i v).dtabA = s.dtabA := rfl
@[simp] theorem State.fset_dtabB (f : Fld) (a i v : Nat) : (s.fset f a i v).dtabB = s.dtabB := rfl
@[simp] theorem State.fset_ctbaseSet (f : Fld) (a i v : Nat) : (s.fset f a i v).ctbaseSet = s.ctbaseSet := rfl
@[simp] theorem State.fset_drRush (f : Fld) (a i v : Nat) : (s.fset f a i v).drRush = s.drRush := rfl
@[simp] theorem State.fset_moveStart (f : Fld) (a i v : Nat) : (s.fset f a i v).moveStart = s.moveStart := rfl
@[simp] theorem State.fset_fgq (f : Fld) (a i v : Nat) : (s.fset f a i v).fgq = s.fgq := rfl
@[simp] theorem State.fset_fabHoldTo (f : Fld) (a i v : Nat) : (s.fset f a i v).fabHoldTo = s.fabHoldTo := rfl
@[simp] theorem State.fset_drainSeen (f : Fld) (a i v : Nat) : (s.fset f a i v).drainSeen = s.drainSeen := rfl
@[simp] theorem State.fset_gwq (f : Fld) (a i v : Nat) : (s.fset f a i v).gwq = s.gwq := rfl
@[simp] theorem State.fset_gwAt (f : Fld) (a i v : Nat) : (s.fset f a i v).gwAt = s.gwAt := rfl
@[simp] theorem State.fset_pcount (f : Fld) (a i v : Nat) : (s.fset f a i v).pcount = s.pcount := rfl
@[simp] theorem State.fset_ak (f : Fld) (a i v : Nat) : (s.fset f a i v).ak = s.ak := rfl
@[simp] theorem State.fset_riari (f : Fld) (a i v : Nat) : (s.fset f a i v).riari = s.riari := rfl
@[simp] theorem State.fset_hostp (f : Fld) (a i v : Nat) : (s.fset f a i v).hostp = s.hostp := rfl
@[simp] theorem State.fset_elec (f : Fld) (a i v : Nat) : (s.fset f a i v).elec = s.elec := rfl
@[simp] theorem State.fset_out (f : Fld) (a i v : Nat) : (s.fset f a i v).out = s.out := rfl

@[simp] theorem State.setTile_pending (a : Nat) (x : Tile) : (s.setTile a x).pending = s.pending := rfl
@[simp] theorem State.setTile_now (a : Nat) (x : Tile) : (s.setTile a x).now = s.now := rfl
@[simp] theorem State.setTile_seqNo (a : Nat) (x : Tile) : (s.setTile a x).seqNo = s.seqNo := rfl
@[simp] theorem State.setTile_freeCtr (a : Nat) (x : Tile) : (s.setTile a x).freeCtr = s.freeCtr := rfl
@[simp] theorem State.setTile_dev (a : Nat) (x : Tile) : (s.setTile a x).dev = s.dev := rfl
@[simp] theorem State.setTile_degraded (a : Nat) (x : Tile) : (s.setTile a x).degraded = s.degraded := rfl
@[simp] theorem State.setTile_regs (a : Nat) (x : Tile) : (s.setTile a x).regs = s.regs := rfl
@[simp] theorem State.setTile_mem (a : Nat) (x : Tile) : (s.setTile a x).mem = s.mem := rfl
@[simp] theorem State.setTile_ecc (a : Nat) (x : Tile) : (s.setTile a x).ecc = s.ecc := rfl
@[simp] theorem State.setTile_mbx (a : Nat) (x : Tile) : (s.setTile a x).mbx = s.mbx := rfl
@[simp] theorem State.setTile_graph (a : Nat) (x : Tile) : (s.setTile a x).graph = s.graph := rfl
@[simp] theorem State.setTile_threads (a : Nat) (x : Tile) : (s.setTile a x).threads = s.threads := rfl
@[simp] theorem State.setTile_lanes (a : Nat) (x : Tile) : (s.setTile a x).lanes = s.lanes := rfl
@[simp] theorem State.setTile_outlets (a : Nat) (x : Tile) : (s.setTile a x).outlets = s.outlets := rfl
@[simp] theorem State.setTile_ctxs (a : Nat) (x : Tile) : (s.setTile a x).ctxs = s.ctxs := rfl
@[simp] theorem State.setTile_stroke (a : Nat) (x : Tile) : (s.setTile a x).stroke = s.stroke := rfl
@[simp] theorem State.setTile_cut (a : Nat) (x : Tile) : (s.setTile a x).cut = s.cut := rfl
@[simp] theorem State.setTile_scan (a : Nat) (x : Tile) : (s.setTile a x).scan = s.scan := rfl
@[simp] theorem State.setTile_mesh (a : Nat) (x : Tile) : (s.setTile a x).mesh = s.mesh := rfl
@[simp] theorem State.setTile_ctl (a : Nat) (x : Tile) : (s.setTile a x).ctl = s.ctl := rfl
@[simp] theorem State.setTile_links (a : Nat) (x : Tile) : (s.setTile a x).links = s.links := rfl
@[simp] theorem State.setTile_bankReqs (a : Nat) (x : Tile) : (s.setTile a x).bankReqs = s.bankReqs := rfl
@[simp] theorem State.setTile_drq (a : Nat) (x : Tile) : (s.setTile a x).drq = s.drq := rfl
@[simp] theorem State.setTile_mbxq (a : Nat) (x : Tile) : (s.setTile a x).mbxq = s.mbxq := rfl
@[simp] theorem State.setTile_fireMem (a : Nat) (x : Tile) : (s.setTile a x).fireMem = s.fireMem := rfl
@[simp] theorem State.setTile_winq (a : Nat) (x : Tile) : (s.setTile a x).winq = s.winq := rfl
@[simp] theorem State.setTile_pushq (a : Nat) (x : Tile) : (s.setTile a x).pushq = s.pushq := rfl
@[simp] theorem State.setTile_dtabA (a : Nat) (x : Tile) : (s.setTile a x).dtabA = s.dtabA := rfl
@[simp] theorem State.setTile_dtabB (a : Nat) (x : Tile) : (s.setTile a x).dtabB = s.dtabB := rfl
@[simp] theorem State.setTile_ctbaseSet (a : Nat) (x : Tile) : (s.setTile a x).ctbaseSet = s.ctbaseSet := rfl
@[simp] theorem State.setTile_drRush (a : Nat) (x : Tile) : (s.setTile a x).drRush = s.drRush := rfl
@[simp] theorem State.setTile_moveStart (a : Nat) (x : Tile) : (s.setTile a x).moveStart = s.moveStart := rfl
@[simp] theorem State.setTile_fgq (a : Nat) (x : Tile) : (s.setTile a x).fgq = s.fgq := rfl
@[simp] theorem State.setTile_fabHoldTo (a : Nat) (x : Tile) : (s.setTile a x).fabHoldTo = s.fabHoldTo := rfl
@[simp] theorem State.setTile_drainSeen (a : Nat) (x : Tile) : (s.setTile a x).drainSeen = s.drainSeen := rfl
@[simp] theorem State.setTile_gwq (a : Nat) (x : Tile) : (s.setTile a x).gwq = s.gwq := rfl
@[simp] theorem State.setTile_gwAt (a : Nat) (x : Tile) : (s.setTile a x).gwAt = s.gwAt := rfl
@[simp] theorem State.setTile_pcount (a : Nat) (x : Tile) : (s.setTile a x).pcount = s.pcount := rfl
@[simp] theorem State.setTile_ak (a : Nat) (x : Tile) : (s.setTile a x).ak = s.ak := rfl
@[simp] theorem State.setTile_riari (a : Nat) (x : Tile) : (s.setTile a x).riari = s.riari := rfl
@[simp] theorem State.setTile_hostp (a : Nat) (x : Tile) : (s.setTile a x).hostp = s.hostp := rfl
@[simp] theorem State.setTile_elec (a : Nat) (x : Tile) : (s.setTile a x).elec = s.elec := rfl
@[simp] theorem State.setTile_out (a : Nat) (x : Tile) : (s.setTile a x).out = s.out := rfl

@[simp] theorem State.setThr_pending (c n : Nat) (x : Thread) : (s.setThr c n x).pending = s.pending := rfl
@[simp] theorem State.setThr_now (c n : Nat) (x : Thread) : (s.setThr c n x).now = s.now := rfl
@[simp] theorem State.setThr_seqNo (c n : Nat) (x : Thread) : (s.setThr c n x).seqNo = s.seqNo := rfl
@[simp] theorem State.setThr_freeCtr (c n : Nat) (x : Thread) : (s.setThr c n x).freeCtr = s.freeCtr := rfl
@[simp] theorem State.setThr_dev (c n : Nat) (x : Thread) : (s.setThr c n x).dev = s.dev := rfl
@[simp] theorem State.setThr_degraded (c n : Nat) (x : Thread) : (s.setThr c n x).degraded = s.degraded := rfl
@[simp] theorem State.setThr_regs (c n : Nat) (x : Thread) : (s.setThr c n x).regs = s.regs := rfl
@[simp] theorem State.setThr_mem (c n : Nat) (x : Thread) : (s.setThr c n x).mem = s.mem := rfl
@[simp] theorem State.setThr_ecc (c n : Nat) (x : Thread) : (s.setThr c n x).ecc = s.ecc := rfl
@[simp] theorem State.setThr_mbx (c n : Nat) (x : Thread) : (s.setThr c n x).mbx = s.mbx := rfl
@[simp] theorem State.setThr_graph (c n : Nat) (x : Thread) : (s.setThr c n x).graph = s.graph := rfl
@[simp] theorem State.setThr_tiles (c n : Nat) (x : Thread) : (s.setThr c n x).tiles = s.tiles := rfl
@[simp] theorem State.setThr_lanes (c n : Nat) (x : Thread) : (s.setThr c n x).lanes = s.lanes := rfl
@[simp] theorem State.setThr_outlets (c n : Nat) (x : Thread) : (s.setThr c n x).outlets = s.outlets := rfl
@[simp] theorem State.setThr_ctxs (c n : Nat) (x : Thread) : (s.setThr c n x).ctxs = s.ctxs := rfl
@[simp] theorem State.setThr_stroke (c n : Nat) (x : Thread) : (s.setThr c n x).stroke = s.stroke := rfl
@[simp] theorem State.setThr_cut (c n : Nat) (x : Thread) : (s.setThr c n x).cut = s.cut := rfl
@[simp] theorem State.setThr_scan (c n : Nat) (x : Thread) : (s.setThr c n x).scan = s.scan := rfl
@[simp] theorem State.setThr_mesh (c n : Nat) (x : Thread) : (s.setThr c n x).mesh = s.mesh := rfl
@[simp] theorem State.setThr_ctl (c n : Nat) (x : Thread) : (s.setThr c n x).ctl = s.ctl := rfl
@[simp] theorem State.setThr_links (c n : Nat) (x : Thread) : (s.setThr c n x).links = s.links := rfl
@[simp] theorem State.setThr_bankReqs (c n : Nat) (x : Thread) : (s.setThr c n x).bankReqs = s.bankReqs := rfl
@[simp] theorem State.setThr_drq (c n : Nat) (x : Thread) : (s.setThr c n x).drq = s.drq := rfl
@[simp] theorem State.setThr_mbxq (c n : Nat) (x : Thread) : (s.setThr c n x).mbxq = s.mbxq := rfl
@[simp] theorem State.setThr_fireMem (c n : Nat) (x : Thread) : (s.setThr c n x).fireMem = s.fireMem := rfl
@[simp] theorem State.setThr_winq (c n : Nat) (x : Thread) : (s.setThr c n x).winq = s.winq := rfl
@[simp] theorem State.setThr_pushq (c n : Nat) (x : Thread) : (s.setThr c n x).pushq = s.pushq := rfl
@[simp] theorem State.setThr_dtabA (c n : Nat) (x : Thread) : (s.setThr c n x).dtabA = s.dtabA := rfl
@[simp] theorem State.setThr_dtabB (c n : Nat) (x : Thread) : (s.setThr c n x).dtabB = s.dtabB := rfl
@[simp] theorem State.setThr_ctbaseSet (c n : Nat) (x : Thread) : (s.setThr c n x).ctbaseSet = s.ctbaseSet := rfl
@[simp] theorem State.setThr_drRush (c n : Nat) (x : Thread) : (s.setThr c n x).drRush = s.drRush := rfl
@[simp] theorem State.setThr_moveStart (c n : Nat) (x : Thread) : (s.setThr c n x).moveStart = s.moveStart := rfl
@[simp] theorem State.setThr_fgq (c n : Nat) (x : Thread) : (s.setThr c n x).fgq = s.fgq := rfl
@[simp] theorem State.setThr_fabHoldTo (c n : Nat) (x : Thread) : (s.setThr c n x).fabHoldTo = s.fabHoldTo := rfl
@[simp] theorem State.setThr_drainSeen (c n : Nat) (x : Thread) : (s.setThr c n x).drainSeen = s.drainSeen := rfl
@[simp] theorem State.setThr_gwq (c n : Nat) (x : Thread) : (s.setThr c n x).gwq = s.gwq := rfl
@[simp] theorem State.setThr_gwAt (c n : Nat) (x : Thread) : (s.setThr c n x).gwAt = s.gwAt := rfl
@[simp] theorem State.setThr_pcount (c n : Nat) (x : Thread) : (s.setThr c n x).pcount = s.pcount := rfl
@[simp] theorem State.setThr_ak (c n : Nat) (x : Thread) : (s.setThr c n x).ak = s.ak := rfl
@[simp] theorem State.setThr_riari (c n : Nat) (x : Thread) : (s.setThr c n x).riari = s.riari := rfl
@[simp] theorem State.setThr_hostp (c n : Nat) (x : Thread) : (s.setThr c n x).hostp = s.hostp := rfl
@[simp] theorem State.setThr_elec (c n : Nat) (x : Thread) : (s.setThr c n x).elec = s.elec := rfl
@[simp] theorem State.setThr_out (c n : Nat) (x : Thread) : (s.setThr c n x).out = s.out := rfl

@[simp] theorem State.setLane_pending (l : Nat) (x : Lane) : (s.setLane l x).pending = s.pending := rfl
@[simp] theorem State.setLane_now (l : Nat) (x : Lane) : (s.setLane l x).now = s.now := rfl
@[simp] theorem State.setLane_seqNo (l : Nat) (x : Lane) : (s.setLane l x).seqNo = s.seqNo := rfl
@[simp] theorem State.setLane_freeCtr (l : Nat) (x : Lane) : (s.setLane l x).freeCtr = s.freeCtr := rfl
@[simp] theorem State.setLane_dev (l : Nat) (x : Lane) : (s.setLane l x).dev = s.dev := rfl
@[simp] theorem State.setLane_degraded (l : Nat) (x : Lane) : (s.setLane l x).degraded = s.degraded := rfl
@[simp] theorem State.setLane_regs (l : Nat) (x : Lane) : (s.setLane l x).regs = s.regs := rfl
@[simp] theorem State.setLane_mem (l : Nat) (x : Lane) : (s.setLane l x).mem = s.mem := rfl
@[simp] theorem State.setLane_ecc (l : Nat) (x : Lane) : (s.setLane l x).ecc = s.ecc := rfl
@[simp] theorem State.setLane_mbx (l : Nat) (x : Lane) : (s.setLane l x).mbx = s.mbx := rfl
@[simp] theorem State.setLane_graph (l : Nat) (x : Lane) : (s.setLane l x).graph = s.graph := rfl
@[simp] theorem State.setLane_threads (l : Nat) (x : Lane) : (s.setLane l x).threads = s.threads := rfl
@[simp] theorem State.setLane_tiles (l : Nat) (x : Lane) : (s.setLane l x).tiles = s.tiles := rfl
@[simp] theorem State.setLane_outlets (l : Nat) (x : Lane) : (s.setLane l x).outlets = s.outlets := rfl
@[simp] theorem State.setLane_ctxs (l : Nat) (x : Lane) : (s.setLane l x).ctxs = s.ctxs := rfl
@[simp] theorem State.setLane_stroke (l : Nat) (x : Lane) : (s.setLane l x).stroke = s.stroke := rfl
@[simp] theorem State.setLane_cut (l : Nat) (x : Lane) : (s.setLane l x).cut = s.cut := rfl
@[simp] theorem State.setLane_scan (l : Nat) (x : Lane) : (s.setLane l x).scan = s.scan := rfl
@[simp] theorem State.setLane_mesh (l : Nat) (x : Lane) : (s.setLane l x).mesh = s.mesh := rfl
@[simp] theorem State.setLane_ctl (l : Nat) (x : Lane) : (s.setLane l x).ctl = s.ctl := rfl
@[simp] theorem State.setLane_links (l : Nat) (x : Lane) : (s.setLane l x).links = s.links := rfl
@[simp] theorem State.setLane_bankReqs (l : Nat) (x : Lane) : (s.setLane l x).bankReqs = s.bankReqs := rfl
@[simp] theorem State.setLane_drq (l : Nat) (x : Lane) : (s.setLane l x).drq = s.drq := rfl
@[simp] theorem State.setLane_mbxq (l : Nat) (x : Lane) : (s.setLane l x).mbxq = s.mbxq := rfl
@[simp] theorem State.setLane_fireMem (l : Nat) (x : Lane) : (s.setLane l x).fireMem = s.fireMem := rfl
@[simp] theorem State.setLane_winq (l : Nat) (x : Lane) : (s.setLane l x).winq = s.winq := rfl
@[simp] theorem State.setLane_pushq (l : Nat) (x : Lane) : (s.setLane l x).pushq = s.pushq := rfl
@[simp] theorem State.setLane_dtabA (l : Nat) (x : Lane) : (s.setLane l x).dtabA = s.dtabA := rfl
@[simp] theorem State.setLane_dtabB (l : Nat) (x : Lane) : (s.setLane l x).dtabB = s.dtabB := rfl
@[simp] theorem State.setLane_ctbaseSet (l : Nat) (x : Lane) : (s.setLane l x).ctbaseSet = s.ctbaseSet := rfl
@[simp] theorem State.setLane_drRush (l : Nat) (x : Lane) : (s.setLane l x).drRush = s.drRush := rfl
@[simp] theorem State.setLane_moveStart (l : Nat) (x : Lane) : (s.setLane l x).moveStart = s.moveStart := rfl
@[simp] theorem State.setLane_fgq (l : Nat) (x : Lane) : (s.setLane l x).fgq = s.fgq := rfl
@[simp] theorem State.setLane_fabHoldTo (l : Nat) (x : Lane) : (s.setLane l x).fabHoldTo = s.fabHoldTo := rfl
@[simp] theorem State.setLane_drainSeen (l : Nat) (x : Lane) : (s.setLane l x).drainSeen = s.drainSeen := rfl
@[simp] theorem State.setLane_gwq (l : Nat) (x : Lane) : (s.setLane l x).gwq = s.gwq := rfl
@[simp] theorem State.setLane_gwAt (l : Nat) (x : Lane) : (s.setLane l x).gwAt = s.gwAt := rfl
@[simp] theorem State.setLane_pcount (l : Nat) (x : Lane) : (s.setLane l x).pcount = s.pcount := rfl
@[simp] theorem State.setLane_ak (l : Nat) (x : Lane) : (s.setLane l x).ak = s.ak := rfl
@[simp] theorem State.setLane_riari (l : Nat) (x : Lane) : (s.setLane l x).riari = s.riari := rfl
@[simp] theorem State.setLane_hostp (l : Nat) (x : Lane) : (s.setLane l x).hostp = s.hostp := rfl
@[simp] theorem State.setLane_elec (l : Nat) (x : Lane) : (s.setLane l x).elec = s.elec := rfl
@[simp] theorem State.setLane_out (l : Nat) (x : Lane) : (s.setLane l x).out = s.out := rfl

@[simp] theorem State.setLink_pending (k : LinkId) (x : Link) : (s.setLink k x).pending = s.pending := rfl
@[simp] theorem State.setLink_now (k : LinkId) (x : Link) : (s.setLink k x).now = s.now := rfl
@[simp] theorem State.setLink_seqNo (k : LinkId) (x : Link) : (s.setLink k x).seqNo = s.seqNo := rfl
@[simp] theorem State.setLink_freeCtr (k : LinkId) (x : Link) : (s.setLink k x).freeCtr = s.freeCtr := rfl
@[simp] theorem State.setLink_dev (k : LinkId) (x : Link) : (s.setLink k x).dev = s.dev := rfl
@[simp] theorem State.setLink_degraded (k : LinkId) (x : Link) : (s.setLink k x).degraded = s.degraded := rfl
@[simp] theorem State.setLink_regs (k : LinkId) (x : Link) : (s.setLink k x).regs = s.regs := rfl
@[simp] theorem State.setLink_mem (k : LinkId) (x : Link) : (s.setLink k x).mem = s.mem := rfl
@[simp] theorem State.setLink_ecc (k : LinkId) (x : Link) : (s.setLink k x).ecc = s.ecc := rfl
@[simp] theorem State.setLink_mbx (k : LinkId) (x : Link) : (s.setLink k x).mbx = s.mbx := rfl
@[simp] theorem State.setLink_graph (k : LinkId) (x : Link) : (s.setLink k x).graph = s.graph := rfl
@[simp] theorem State.setLink_threads (k : LinkId) (x : Link) : (s.setLink k x).threads = s.threads := rfl
@[simp] theorem State.setLink_tiles (k : LinkId) (x : Link) : (s.setLink k x).tiles = s.tiles := rfl
@[simp] theorem State.setLink_lanes (k : LinkId) (x : Link) : (s.setLink k x).lanes = s.lanes := rfl
@[simp] theorem State.setLink_outlets (k : LinkId) (x : Link) : (s.setLink k x).outlets = s.outlets := rfl
@[simp] theorem State.setLink_ctxs (k : LinkId) (x : Link) : (s.setLink k x).ctxs = s.ctxs := rfl
@[simp] theorem State.setLink_stroke (k : LinkId) (x : Link) : (s.setLink k x).stroke = s.stroke := rfl
@[simp] theorem State.setLink_cut (k : LinkId) (x : Link) : (s.setLink k x).cut = s.cut := rfl
@[simp] theorem State.setLink_scan (k : LinkId) (x : Link) : (s.setLink k x).scan = s.scan := rfl
@[simp] theorem State.setLink_mesh (k : LinkId) (x : Link) : (s.setLink k x).mesh = s.mesh := rfl
@[simp] theorem State.setLink_ctl (k : LinkId) (x : Link) : (s.setLink k x).ctl = s.ctl := rfl
@[simp] theorem State.setLink_bankReqs (k : LinkId) (x : Link) : (s.setLink k x).bankReqs = s.bankReqs := rfl
@[simp] theorem State.setLink_drq (k : LinkId) (x : Link) : (s.setLink k x).drq = s.drq := rfl
@[simp] theorem State.setLink_mbxq (k : LinkId) (x : Link) : (s.setLink k x).mbxq = s.mbxq := rfl
@[simp] theorem State.setLink_fireMem (k : LinkId) (x : Link) : (s.setLink k x).fireMem = s.fireMem := rfl
@[simp] theorem State.setLink_winq (k : LinkId) (x : Link) : (s.setLink k x).winq = s.winq := rfl
@[simp] theorem State.setLink_pushq (k : LinkId) (x : Link) : (s.setLink k x).pushq = s.pushq := rfl
@[simp] theorem State.setLink_dtabA (k : LinkId) (x : Link) : (s.setLink k x).dtabA = s.dtabA := rfl
@[simp] theorem State.setLink_dtabB (k : LinkId) (x : Link) : (s.setLink k x).dtabB = s.dtabB := rfl
@[simp] theorem State.setLink_ctbaseSet (k : LinkId) (x : Link) : (s.setLink k x).ctbaseSet = s.ctbaseSet := rfl
@[simp] theorem State.setLink_drRush (k : LinkId) (x : Link) : (s.setLink k x).drRush = s.drRush := rfl
@[simp] theorem State.setLink_moveStart (k : LinkId) (x : Link) : (s.setLink k x).moveStart = s.moveStart := rfl
@[simp] theorem State.setLink_fgq (k : LinkId) (x : Link) : (s.setLink k x).fgq = s.fgq := rfl
@[simp] theorem State.setLink_fabHoldTo (k : LinkId) (x : Link) : (s.setLink k x).fabHoldTo = s.fabHoldTo := rfl
@[simp] theorem State.setLink_drainSeen (k : LinkId) (x : Link) : (s.setLink k x).drainSeen = s.drainSeen := rfl
@[simp] theorem State.setLink_gwq (k : LinkId) (x : Link) : (s.setLink k x).gwq = s.gwq := rfl
@[simp] theorem State.setLink_gwAt (k : LinkId) (x : Link) : (s.setLink k x).gwAt = s.gwAt := rfl
@[simp] theorem State.setLink_pcount (k : LinkId) (x : Link) : (s.setLink k x).pcount = s.pcount := rfl
@[simp] theorem State.setLink_ak (k : LinkId) (x : Link) : (s.setLink k x).ak = s.ak := rfl
@[simp] theorem State.setLink_riari (k : LinkId) (x : Link) : (s.setLink k x).riari = s.riari := rfl
@[simp] theorem State.setLink_hostp (k : LinkId) (x : Link) : (s.setLink k x).hostp = s.hostp := rfl
@[simp] theorem State.setLink_elec (k : LinkId) (x : Link) : (s.setLink k x).elec = s.elec := rfl
@[simp] theorem State.setLink_out (k : LinkId) (x : Link) : (s.setLink k x).out = s.out := rfl

@[simp] theorem State.bump_pending : s.bump.pending = s.pending := rfl
@[simp] theorem State.bump_now : s.bump.now = s.now := rfl
@[simp] theorem State.bump_freeCtr : s.bump.freeCtr = s.freeCtr := rfl
@[simp] theorem State.bump_dev : s.bump.dev = s.dev := rfl
@[simp] theorem State.bump_degraded : s.bump.degraded = s.degraded := rfl
@[simp] theorem State.bump_regs : s.bump.regs = s.regs := rfl
@[simp] theorem State.bump_mem : s.bump.mem = s.mem := rfl
@[simp] theorem State.bump_ecc : s.bump.ecc = s.ecc := rfl
@[simp] theorem State.bump_mbx : s.bump.mbx = s.mbx := rfl
@[simp] theorem State.bump_graph : s.bump.graph = s.graph := rfl
@[simp] theorem State.bump_threads : s.bump.threads = s.threads := rfl
@[simp] theorem State.bump_tiles : s.bump.tiles = s.tiles := rfl
@[simp] theorem State.bump_lanes : s.bump.lanes = s.lanes := rfl
@[simp] theorem State.bump_outlets : s.bump.outlets = s.outlets := rfl
@[simp] theorem State.bump_ctxs : s.bump.ctxs = s.ctxs := rfl
@[simp] theorem State.bump_stroke : s.bump.stroke = s.stroke := rfl
@[simp] theorem State.bump_cut : s.bump.cut = s.cut := rfl
@[simp] theorem State.bump_scan : s.bump.scan = s.scan := rfl
@[simp] theorem State.bump_mesh : s.bump.mesh = s.mesh := rfl
@[simp] theorem State.bump_ctl : s.bump.ctl = s.ctl := rfl
@[simp] theorem State.bump_links : s.bump.links = s.links := rfl
@[simp] theorem State.bump_bankReqs : s.bump.bankReqs = s.bankReqs := rfl
@[simp] theorem State.bump_drq : s.bump.drq = s.drq := rfl
@[simp] theorem State.bump_mbxq : s.bump.mbxq = s.mbxq := rfl
@[simp] theorem State.bump_fireMem : s.bump.fireMem = s.fireMem := rfl
@[simp] theorem State.bump_winq : s.bump.winq = s.winq := rfl
@[simp] theorem State.bump_pushq : s.bump.pushq = s.pushq := rfl
@[simp] theorem State.bump_dtabA : s.bump.dtabA = s.dtabA := rfl
@[simp] theorem State.bump_dtabB : s.bump.dtabB = s.dtabB := rfl
@[simp] theorem State.bump_ctbaseSet : s.bump.ctbaseSet = s.ctbaseSet := rfl
@[simp] theorem State.bump_drRush : s.bump.drRush = s.drRush := rfl
@[simp] theorem State.bump_moveStart : s.bump.moveStart = s.moveStart := rfl
@[simp] theorem State.bump_fgq : s.bump.fgq = s.fgq := rfl
@[simp] theorem State.bump_fabHoldTo : s.bump.fabHoldTo = s.fabHoldTo := rfl
@[simp] theorem State.bump_drainSeen : s.bump.drainSeen = s.drainSeen := rfl
@[simp] theorem State.bump_gwq : s.bump.gwq = s.gwq := rfl
@[simp] theorem State.bump_gwAt : s.bump.gwAt = s.gwAt := rfl
@[simp] theorem State.bump_pcount : s.bump.pcount = s.pcount := rfl
@[simp] theorem State.bump_ak : s.bump.ak = s.ak := rfl
@[simp] theorem State.bump_riari : s.bump.riari = s.riari := rfl
@[simp] theorem State.bump_hostp : s.bump.hostp = s.hostp := rfl
@[simp] theorem State.bump_elec : s.bump.elec = s.elec := rfl
@[simp] theorem State.bump_out : s.bump.out = s.out := rfl

@[simp] theorem State.emit_pending (o : Out) : (s.emit o).pending = s.pending := rfl
@[simp] theorem State.emit_now (o : Out) : (s.emit o).now = s.now := rfl
@[simp] theorem State.emit_seqNo (o : Out) : (s.emit o).seqNo = s.seqNo := rfl
@[simp] theorem State.emit_freeCtr (o : Out) : (s.emit o).freeCtr = s.freeCtr := rfl
@[simp] theorem State.emit_dev (o : Out) : (s.emit o).dev = s.dev := rfl
@[simp] theorem State.emit_degraded (o : Out) : (s.emit o).degraded = s.degraded := rfl
@[simp] theorem State.emit_regs (o : Out) : (s.emit o).regs = s.regs := rfl
@[simp] theorem State.emit_mem (o : Out) : (s.emit o).mem = s.mem := rfl
@[simp] theorem State.emit_ecc (o : Out) : (s.emit o).ecc = s.ecc := rfl
@[simp] theorem State.emit_mbx (o : Out) : (s.emit o).mbx = s.mbx := rfl
@[simp] theorem State.emit_graph (o : Out) : (s.emit o).graph = s.graph := rfl
@[simp] theorem State.emit_threads (o : Out) : (s.emit o).threads = s.threads := rfl
@[simp] theorem State.emit_tiles (o : Out) : (s.emit o).tiles = s.tiles := rfl
@[simp] theorem State.emit_lanes (o : Out) : (s.emit o).lanes = s.lanes := rfl
@[simp] theorem State.emit_outlets (o : Out) : (s.emit o).outlets = s.outlets := rfl
@[simp] theorem State.emit_ctxs (o : Out) : (s.emit o).ctxs = s.ctxs := rfl
@[simp] theorem State.emit_stroke (o : Out) : (s.emit o).stroke = s.stroke := rfl
@[simp] theorem State.emit_cut (o : Out) : (s.emit o).cut = s.cut := rfl
@[simp] theorem State.emit_scan (o : Out) : (s.emit o).scan = s.scan := rfl
@[simp] theorem State.emit_mesh (o : Out) : (s.emit o).mesh = s.mesh := rfl
@[simp] theorem State.emit_ctl (o : Out) : (s.emit o).ctl = s.ctl := rfl
@[simp] theorem State.emit_links (o : Out) : (s.emit o).links = s.links := rfl
@[simp] theorem State.emit_bankReqs (o : Out) : (s.emit o).bankReqs = s.bankReqs := rfl
@[simp] theorem State.emit_drq (o : Out) : (s.emit o).drq = s.drq := rfl
@[simp] theorem State.emit_mbxq (o : Out) : (s.emit o).mbxq = s.mbxq := rfl
@[simp] theorem State.emit_fireMem (o : Out) : (s.emit o).fireMem = s.fireMem := rfl
@[simp] theorem State.emit_winq (o : Out) : (s.emit o).winq = s.winq := rfl
@[simp] theorem State.emit_pushq (o : Out) : (s.emit o).pushq = s.pushq := rfl
@[simp] theorem State.emit_dtabA (o : Out) : (s.emit o).dtabA = s.dtabA := rfl
@[simp] theorem State.emit_dtabB (o : Out) : (s.emit o).dtabB = s.dtabB := rfl
@[simp] theorem State.emit_ctbaseSet (o : Out) : (s.emit o).ctbaseSet = s.ctbaseSet := rfl
@[simp] theorem State.emit_drRush (o : Out) : (s.emit o).drRush = s.drRush := rfl
@[simp] theorem State.emit_moveStart (o : Out) : (s.emit o).moveStart = s.moveStart := rfl
@[simp] theorem State.emit_fgq (o : Out) : (s.emit o).fgq = s.fgq := rfl
@[simp] theorem State.emit_fabHoldTo (o : Out) : (s.emit o).fabHoldTo = s.fabHoldTo := rfl
@[simp] theorem State.emit_drainSeen (o : Out) : (s.emit o).drainSeen = s.drainSeen := rfl
@[simp] theorem State.emit_gwq (o : Out) : (s.emit o).gwq = s.gwq := rfl
@[simp] theorem State.emit_gwAt (o : Out) : (s.emit o).gwAt = s.gwAt := rfl
@[simp] theorem State.emit_pcount (o : Out) : (s.emit o).pcount = s.pcount := rfl
@[simp] theorem State.emit_ak (o : Out) : (s.emit o).ak = s.ak := rfl
@[simp] theorem State.emit_riari (o : Out) : (s.emit o).riari = s.riari := rfl
@[simp] theorem State.emit_hostp (o : Out) : (s.emit o).hostp = s.hostp := rfl
@[simp] theorem State.emit_elec (o : Out) : (s.emit o).elec = s.elec := rfl

@[simp] theorem State.post_pending (m : Ctl) : (s.post m).pending = s.pending := rfl
@[simp] theorem State.post_now (m : Ctl) : (s.post m).now = s.now := rfl
@[simp] theorem State.post_seqNo (m : Ctl) : (s.post m).seqNo = s.seqNo := rfl
@[simp] theorem State.post_freeCtr (m : Ctl) : (s.post m).freeCtr = s.freeCtr := rfl
@[simp] theorem State.post_dev (m : Ctl) : (s.post m).dev = s.dev := rfl
@[simp] theorem State.post_degraded (m : Ctl) : (s.post m).degraded = s.degraded := rfl
@[simp] theorem State.post_regs (m : Ctl) : (s.post m).regs = s.regs := rfl
@[simp] theorem State.post_mem (m : Ctl) : (s.post m).mem = s.mem := rfl
@[simp] theorem State.post_ecc (m : Ctl) : (s.post m).ecc = s.ecc := rfl
@[simp] theorem State.post_mbx (m : Ctl) : (s.post m).mbx = s.mbx := rfl
@[simp] theorem State.post_graph (m : Ctl) : (s.post m).graph = s.graph := rfl
@[simp] theorem State.post_threads (m : Ctl) : (s.post m).threads = s.threads := rfl
@[simp] theorem State.post_tiles (m : Ctl) : (s.post m).tiles = s.tiles := rfl
@[simp] theorem State.post_lanes (m : Ctl) : (s.post m).lanes = s.lanes := rfl
@[simp] theorem State.post_outlets (m : Ctl) : (s.post m).outlets = s.outlets := rfl
@[simp] theorem State.post_ctxs (m : Ctl) : (s.post m).ctxs = s.ctxs := rfl
@[simp] theorem State.post_stroke (m : Ctl) : (s.post m).stroke = s.stroke := rfl
@[simp] theorem State.post_cut (m : Ctl) : (s.post m).cut = s.cut := rfl
@[simp] theorem State.post_scan (m : Ctl) : (s.post m).scan = s.scan := rfl
@[simp] theorem State.post_mesh (m : Ctl) : (s.post m).mesh = s.mesh := rfl
@[simp] theorem State.post_links (m : Ctl) : (s.post m).links = s.links := rfl
@[simp] theorem State.post_bankReqs (m : Ctl) : (s.post m).bankReqs = s.bankReqs := rfl
@[simp] theorem State.post_drq (m : Ctl) : (s.post m).drq = s.drq := rfl
@[simp] theorem State.post_mbxq (m : Ctl) : (s.post m).mbxq = s.mbxq := rfl
@[simp] theorem State.post_fireMem (m : Ctl) : (s.post m).fireMem = s.fireMem := rfl
@[simp] theorem State.post_winq (m : Ctl) : (s.post m).winq = s.winq := rfl
@[simp] theorem State.post_pushq (m : Ctl) : (s.post m).pushq = s.pushq := rfl
@[simp] theorem State.post_dtabA (m : Ctl) : (s.post m).dtabA = s.dtabA := rfl
@[simp] theorem State.post_dtabB (m : Ctl) : (s.post m).dtabB = s.dtabB := rfl
@[simp] theorem State.post_ctbaseSet (m : Ctl) : (s.post m).ctbaseSet = s.ctbaseSet := rfl
@[simp] theorem State.post_drRush (m : Ctl) : (s.post m).drRush = s.drRush := rfl
@[simp] theorem State.post_moveStart (m : Ctl) : (s.post m).moveStart = s.moveStart := rfl
@[simp] theorem State.post_fgq (m : Ctl) : (s.post m).fgq = s.fgq := rfl
@[simp] theorem State.post_fabHoldTo (m : Ctl) : (s.post m).fabHoldTo = s.fabHoldTo := rfl
@[simp] theorem State.post_drainSeen (m : Ctl) : (s.post m).drainSeen = s.drainSeen := rfl
@[simp] theorem State.post_gwq (m : Ctl) : (s.post m).gwq = s.gwq := rfl
@[simp] theorem State.post_gwAt (m : Ctl) : (s.post m).gwAt = s.gwAt := rfl
@[simp] theorem State.post_pcount (m : Ctl) : (s.post m).pcount = s.pcount := rfl
@[simp] theorem State.post_ak (m : Ctl) : (s.post m).ak = s.ak := rfl
@[simp] theorem State.post_riari (m : Ctl) : (s.post m).riari = s.riari := rfl
@[simp] theorem State.post_hostp (m : Ctl) : (s.post m).hostp = s.hostp := rfl
@[simp] theorem State.post_elec (m : Ctl) : (s.post m).elec = s.elec := rfl
@[simp] theorem State.post_out (m : Ctl) : (s.post m).out = s.out := rfl

@[simp] theorem State.store_pending (a n v : Nat) : (s.store a n v).pending = s.pending := rfl
@[simp] theorem State.store_now (a n v : Nat) : (s.store a n v).now = s.now := rfl
@[simp] theorem State.store_seqNo (a n v : Nat) : (s.store a n v).seqNo = s.seqNo := rfl
@[simp] theorem State.store_freeCtr (a n v : Nat) : (s.store a n v).freeCtr = s.freeCtr := rfl
@[simp] theorem State.store_dev (a n v : Nat) : (s.store a n v).dev = s.dev := rfl
@[simp] theorem State.store_degraded (a n v : Nat) : (s.store a n v).degraded = s.degraded := rfl
@[simp] theorem State.store_regs (a n v : Nat) : (s.store a n v).regs = s.regs := rfl
@[simp] theorem State.store_ecc (a n v : Nat) : (s.store a n v).ecc = s.ecc := rfl
@[simp] theorem State.store_mbx (a n v : Nat) : (s.store a n v).mbx = s.mbx := rfl
@[simp] theorem State.store_graph (a n v : Nat) : (s.store a n v).graph = s.graph := rfl
@[simp] theorem State.store_threads (a n v : Nat) : (s.store a n v).threads = s.threads := rfl
@[simp] theorem State.store_tiles (a n v : Nat) : (s.store a n v).tiles = s.tiles := rfl
@[simp] theorem State.store_lanes (a n v : Nat) : (s.store a n v).lanes = s.lanes := rfl
@[simp] theorem State.store_outlets (a n v : Nat) : (s.store a n v).outlets = s.outlets := rfl
@[simp] theorem State.store_ctxs (a n v : Nat) : (s.store a n v).ctxs = s.ctxs := rfl
@[simp] theorem State.store_stroke (a n v : Nat) : (s.store a n v).stroke = s.stroke := rfl
@[simp] theorem State.store_cut (a n v : Nat) : (s.store a n v).cut = s.cut := rfl
@[simp] theorem State.store_scan (a n v : Nat) : (s.store a n v).scan = s.scan := rfl
@[simp] theorem State.store_mesh (a n v : Nat) : (s.store a n v).mesh = s.mesh := rfl
@[simp] theorem State.store_ctl (a n v : Nat) : (s.store a n v).ctl = s.ctl := rfl
@[simp] theorem State.store_links (a n v : Nat) : (s.store a n v).links = s.links := rfl
@[simp] theorem State.store_bankReqs (a n v : Nat) : (s.store a n v).bankReqs = s.bankReqs := rfl
@[simp] theorem State.store_drq (a n v : Nat) : (s.store a n v).drq = s.drq := rfl
@[simp] theorem State.store_mbxq (a n v : Nat) : (s.store a n v).mbxq = s.mbxq := rfl
@[simp] theorem State.store_fireMem (a n v : Nat) : (s.store a n v).fireMem = s.fireMem := rfl
@[simp] theorem State.store_winq (a n v : Nat) : (s.store a n v).winq = s.winq := rfl
@[simp] theorem State.store_pushq (a n v : Nat) : (s.store a n v).pushq = s.pushq := rfl
@[simp] theorem State.store_dtabA (a n v : Nat) : (s.store a n v).dtabA = s.dtabA := rfl
@[simp] theorem State.store_dtabB (a n v : Nat) : (s.store a n v).dtabB = s.dtabB := rfl
@[simp] theorem State.store_ctbaseSet (a n v : Nat) : (s.store a n v).ctbaseSet = s.ctbaseSet := rfl
@[simp] theorem State.store_drRush (a n v : Nat) : (s.store a n v).drRush = s.drRush := rfl
@[simp] theorem State.store_moveStart (a n v : Nat) : (s.store a n v).moveStart = s.moveStart := rfl
@[simp] theorem State.store_fgq (a n v : Nat) : (s.store a n v).fgq = s.fgq := rfl
@[simp] theorem State.store_fabHoldTo (a n v : Nat) : (s.store a n v).fabHoldTo = s.fabHoldTo := rfl
@[simp] theorem State.store_drainSeen (a n v : Nat) : (s.store a n v).drainSeen = s.drainSeen := rfl
@[simp] theorem State.store_gwq (a n v : Nat) : (s.store a n v).gwq = s.gwq := rfl
@[simp] theorem State.store_gwAt (a n v : Nat) : (s.store a n v).gwAt = s.gwAt := rfl
@[simp] theorem State.store_pcount (a n v : Nat) : (s.store a n v).pcount = s.pcount := rfl
@[simp] theorem State.store_ak (a n v : Nat) : (s.store a n v).ak = s.ak := rfl
@[simp] theorem State.store_riari (a n v : Nat) : (s.store a n v).riari = s.riari := rfl
@[simp] theorem State.store_hostp (a n v : Nat) : (s.store a n v).hostp = s.hostp := rfl
@[simp] theorem State.store_elec (a n v : Nat) : (s.store a n v).elec = s.elec := rfl
@[simp] theorem State.store_out (a n v : Nat) : (s.store a n v).out = s.out := rfl

/-! ### Readers after updates of something else -/

@[simp] theorem State.tile_setReg (k : RegKind) (a i : Nat) (v : Word) (a' : Nat) : (s.setReg k a i v).tile a' = s.tile a' := rfl
@[simp] theorem State.thr_setReg (k : RegKind) (a i : Nat) (v : Word) (c' n' : Nat) : (s.setReg k a i v).thr c' n' = s.thr c' n' := rfl
@[simp] theorem State.lane_setReg (k : RegKind) (a i : Nat) (v : Word) (l' : Nat) : (s.setReg k a i v).lane l' = s.lane l' := rfl
@[simp] theorem State.link_setReg (k : RegKind) (a i : Nat) (v : Word) (k' : LinkId) : (s.setReg k a i v).link k' = s.link k' := rfl
@[simp] theorem State.ctx_setReg (k : RegKind) (a i : Nat) (v : Word) (c' : Nat) : (s.setReg k a i v).ctx c' = s.ctx c' := rfl
@[simp] theorem State.gword_setReg (k : RegKind) (a i : Nat) (v : Word) (c' j' : Nat) : (s.setReg k a i v).gword c' j' = s.gword c' j' := rfl

@[simp] theorem State.tile_fset (f : Fld) (a i v : Nat) (a' : Nat) : (s.fset f a i v).tile a' = s.tile a' := rfl
@[simp] theorem State.thr_fset (f : Fld) (a i v : Nat) (c' n' : Nat) : (s.fset f a i v).thr c' n' = s.thr c' n' := rfl
@[simp] theorem State.lane_fset (f : Fld) (a i v : Nat) (l' : Nat) : (s.fset f a i v).lane l' = s.lane l' := rfl
@[simp] theorem State.link_fset (f : Fld) (a i v : Nat) (k' : LinkId) : (s.fset f a i v).link k' = s.link k' := rfl
@[simp] theorem State.ctx_fset (f : Fld) (a i v : Nat) (c' : Nat) : (s.fset f a i v).ctx c' = s.ctx c' := rfl
@[simp] theorem State.gword_fset (f : Fld) (a i v : Nat) (c' j' : Nat) : (s.fset f a i v).gword c' j' = s.gword c' j' := rfl

@[simp] theorem State.reg_setTile (a : Nat) (x : Tile) (k' : RegKind) (a' i' : Nat) : (s.setTile a x).reg k' a' i' = s.reg k' a' i' := rfl
@[simp] theorem State.fget_setTile (a : Nat) (x : Tile) (f' : Fld) (a' i' : Nat) : (s.setTile a x).fget f' a' i' = s.fget f' a' i' := rfl
@[simp] theorem State.thr_setTile (a : Nat) (x : Tile) (c' n' : Nat) : (s.setTile a x).thr c' n' = s.thr c' n' := rfl
@[simp] theorem State.lane_setTile (a : Nat) (x : Tile) (l' : Nat) : (s.setTile a x).lane l' = s.lane l' := rfl
@[simp] theorem State.link_setTile (a : Nat) (x : Tile) (k' : LinkId) : (s.setTile a x).link k' = s.link k' := rfl
@[simp] theorem State.ctx_setTile (a : Nat) (x : Tile) (c' : Nat) : (s.setTile a x).ctx c' = s.ctx c' := rfl
@[simp] theorem State.gword_setTile (a : Nat) (x : Tile) (c' j' : Nat) : (s.setTile a x).gword c' j' = s.gword c' j' := rfl

@[simp] theorem State.reg_setThr (c n : Nat) (x : Thread) (k' : RegKind) (a' i' : Nat) : (s.setThr c n x).reg k' a' i' = s.reg k' a' i' := rfl
@[simp] theorem State.fget_setThr (c n : Nat) (x : Thread) (f' : Fld) (a' i' : Nat) : (s.setThr c n x).fget f' a' i' = s.fget f' a' i' := rfl
@[simp] theorem State.tile_setThr (c n : Nat) (x : Thread) (a' : Nat) : (s.setThr c n x).tile a' = s.tile a' := rfl
@[simp] theorem State.lane_setThr (c n : Nat) (x : Thread) (l' : Nat) : (s.setThr c n x).lane l' = s.lane l' := rfl
@[simp] theorem State.link_setThr (c n : Nat) (x : Thread) (k' : LinkId) : (s.setThr c n x).link k' = s.link k' := rfl
@[simp] theorem State.ctx_setThr (c n : Nat) (x : Thread) (c' : Nat) : (s.setThr c n x).ctx c' = s.ctx c' := rfl
@[simp] theorem State.gword_setThr (c n : Nat) (x : Thread) (c' j' : Nat) : (s.setThr c n x).gword c' j' = s.gword c' j' := rfl

@[simp] theorem State.reg_setLane (l : Nat) (x : Lane) (k' : RegKind) (a' i' : Nat) : (s.setLane l x).reg k' a' i' = s.reg k' a' i' := rfl
@[simp] theorem State.fget_setLane (l : Nat) (x : Lane) (f' : Fld) (a' i' : Nat) : (s.setLane l x).fget f' a' i' = s.fget f' a' i' := rfl
@[simp] theorem State.tile_setLane (l : Nat) (x : Lane) (a' : Nat) : (s.setLane l x).tile a' = s.tile a' := rfl
@[simp] theorem State.thr_setLane (l : Nat) (x : Lane) (c' n' : Nat) : (s.setLane l x).thr c' n' = s.thr c' n' := rfl
@[simp] theorem State.link_setLane (l : Nat) (x : Lane) (k' : LinkId) : (s.setLane l x).link k' = s.link k' := rfl
@[simp] theorem State.ctx_setLane (l : Nat) (x : Lane) (c' : Nat) : (s.setLane l x).ctx c' = s.ctx c' := rfl
@[simp] theorem State.gword_setLane (l : Nat) (x : Lane) (c' j' : Nat) : (s.setLane l x).gword c' j' = s.gword c' j' := rfl

@[simp] theorem State.reg_setLink (k : LinkId) (x : Link) (k' : RegKind) (a' i' : Nat) : (s.setLink k x).reg k' a' i' = s.reg k' a' i' := rfl
@[simp] theorem State.fget_setLink (k : LinkId) (x : Link) (f' : Fld) (a' i' : Nat) : (s.setLink k x).fget f' a' i' = s.fget f' a' i' := rfl
@[simp] theorem State.tile_setLink (k : LinkId) (x : Link) (a' : Nat) : (s.setLink k x).tile a' = s.tile a' := rfl
@[simp] theorem State.thr_setLink (k : LinkId) (x : Link) (c' n' : Nat) : (s.setLink k x).thr c' n' = s.thr c' n' := rfl
@[simp] theorem State.lane_setLink (k : LinkId) (x : Link) (l' : Nat) : (s.setLink k x).lane l' = s.lane l' := rfl
@[simp] theorem State.ctx_setLink (k : LinkId) (x : Link) (c' : Nat) : (s.setLink k x).ctx c' = s.ctx c' := rfl
@[simp] theorem State.gword_setLink (k : LinkId) (x : Link) (c' j' : Nat) : (s.setLink k x).gword c' j' = s.gword c' j' := rfl

@[simp] theorem State.reg_bump (k' : RegKind) (a' i' : Nat) : s.bump.reg k' a' i' = s.reg k' a' i' := rfl
@[simp] theorem State.fget_bump (f' : Fld) (a' i' : Nat) : s.bump.fget f' a' i' = s.fget f' a' i' := rfl
@[simp] theorem State.tile_bump (a' : Nat) : s.bump.tile a' = s.tile a' := rfl
@[simp] theorem State.thr_bump (c' n' : Nat) : s.bump.thr c' n' = s.thr c' n' := rfl
@[simp] theorem State.lane_bump (l' : Nat) : s.bump.lane l' = s.lane l' := rfl
@[simp] theorem State.link_bump (k' : LinkId) : s.bump.link k' = s.link k' := rfl
@[simp] theorem State.ctx_bump (c' : Nat) : s.bump.ctx c' = s.ctx c' := rfl
@[simp] theorem State.gword_bump (c' j' : Nat) : s.bump.gword c' j' = s.gword c' j' := rfl

@[simp] theorem State.reg_emit (o : Out) (k' : RegKind) (a' i' : Nat) : (s.emit o).reg k' a' i' = s.reg k' a' i' := rfl
@[simp] theorem State.fget_emit (o : Out) (f' : Fld) (a' i' : Nat) : (s.emit o).fget f' a' i' = s.fget f' a' i' := rfl
@[simp] theorem State.tile_emit (o : Out) (a' : Nat) : (s.emit o).tile a' = s.tile a' := rfl
@[simp] theorem State.thr_emit (o : Out) (c' n' : Nat) : (s.emit o).thr c' n' = s.thr c' n' := rfl
@[simp] theorem State.lane_emit (o : Out) (l' : Nat) : (s.emit o).lane l' = s.lane l' := rfl
@[simp] theorem State.link_emit (o : Out) (k' : LinkId) : (s.emit o).link k' = s.link k' := rfl
@[simp] theorem State.ctx_emit (o : Out) (c' : Nat) : (s.emit o).ctx c' = s.ctx c' := rfl
@[simp] theorem State.gword_emit (o : Out) (c' j' : Nat) : (s.emit o).gword c' j' = s.gword c' j' := rfl

@[simp] theorem State.reg_post (m : Ctl) (k' : RegKind) (a' i' : Nat) : (s.post m).reg k' a' i' = s.reg k' a' i' := rfl
@[simp] theorem State.fget_post (m : Ctl) (f' : Fld) (a' i' : Nat) : (s.post m).fget f' a' i' = s.fget f' a' i' := rfl
@[simp] theorem State.tile_post (m : Ctl) (a' : Nat) : (s.post m).tile a' = s.tile a' := rfl
@[simp] theorem State.thr_post (m : Ctl) (c' n' : Nat) : (s.post m).thr c' n' = s.thr c' n' := rfl
@[simp] theorem State.lane_post (m : Ctl) (l' : Nat) : (s.post m).lane l' = s.lane l' := rfl
@[simp] theorem State.link_post (m : Ctl) (k' : LinkId) : (s.post m).link k' = s.link k' := rfl
@[simp] theorem State.ctx_post (m : Ctl) (c' : Nat) : (s.post m).ctx c' = s.ctx c' := rfl
@[simp] theorem State.gword_post (m : Ctl) (c' j' : Nat) : (s.post m).gword c' j' = s.gword c' j' := rfl

@[simp] theorem State.reg_store (a n v : Nat) (k' : RegKind) (a' i' : Nat) : (s.store a n v).reg k' a' i' = s.reg k' a' i' := rfl
@[simp] theorem State.fget_store (a n v : Nat) (f' : Fld) (a' i' : Nat) : (s.store a n v).fget f' a' i' = s.fget f' a' i' := rfl
@[simp] theorem State.tile_store (a n v : Nat) (a' : Nat) : (s.store a n v).tile a' = s.tile a' := rfl
@[simp] theorem State.thr_store (a n v : Nat) (c' n' : Nat) : (s.store a n v).thr c' n' = s.thr c' n' := rfl
@[simp] theorem State.lane_store (a n v : Nat) (l' : Nat) : (s.store a n v).lane l' = s.lane l' := rfl
@[simp] theorem State.link_store (a n v : Nat) (k' : LinkId) : (s.store a n v).link k' = s.link k' := rfl
@[simp] theorem State.ctx_store (a n v : Nat) (c' : Nat) : (s.store a n v).ctx c' = s.ctx c' := rfl
@[simp] theorem State.gword_store (a n v : Nat) (c' j' : Nat) : (s.store a n v).gword c' j' = s.gword c' j' := rfl

/-! ### Readers after updates of the same table -/

@[simp] theorem State.reg_setReg_self (k : RegKind) (a i : Nat) (v : Word) : (s.setReg k a i v).reg k a i = v := by
  simp [State.reg, State.setReg]

theorem State.reg_setReg_ne {k k' : RegKind} {a a' i i' : Nat} (v : Word) (h : (k', a', i') ≠ (k, a, i)) :
    (s.setReg k a i v).reg k' a' i' = s.reg k' a' i' := by
  simp only [State.reg, State.setReg]
  exact tget_tput_ne _ _ _ h

@[simp] theorem State.setReg_setReg (k : RegKind) (a i : Nat) (v w : Word) : (s.setReg k a i v).setReg k a i w = s.setReg k a i w := by
  simp [State.setReg]

@[simp] theorem State.tile_setTile_self (a : Nat) (x : Tile) : (s.setTile a x).tile a = x := by
  simp [State.tile, State.setTile]

theorem State.tile_setTile_ne {a b : Nat} (x : Tile) (h : b ≠ a) : (s.setTile a x).tile b = s.tile b := by
  simp only [State.tile, State.setTile]
  exact tget_tput_ne _ _ _ h

@[simp] theorem State.setTile_setTile (a : Nat) (x y : Tile) : (s.setTile a x).setTile a y = s.setTile a y := by
  simp [State.setTile]

@[simp] theorem State.thr_setThr_self (c n : Nat) (x : Thread) : (s.setThr c n x).thr c n = x := by
  simp [State.thr, State.setThr]

theorem State.thr_setThr_ne {c c' n n' : Nat} (x : Thread) (h : c' * 16 + n' ≠ c * 16 + n) : (s.setThr c n x).thr c' n' = s.thr c' n' := by
  simp only [State.thr, State.setThr]
  exact tget_tput_ne _ _ _ h

@[simp] theorem State.setThr_setThr (c n : Nat) (x y : Thread) : (s.setThr c n x).setThr c n y = s.setThr c n y := by
  simp [State.setThr]

@[simp] theorem State.lane_setLane_self (l : Nat) (x : Lane) : (s.setLane l x).lane l = x := by
  simp [State.lane, State.setLane]

theorem State.lane_setLane_ne {l m : Nat} (x : Lane) (h : m ≠ l) : (s.setLane l x).lane m = s.lane m := by
  simp only [State.lane, State.setLane]
  exact tget_tput_ne _ _ _ h

@[simp] theorem State.link_setLink_self (k : LinkId) (x : Link) : (s.setLink k x).link k = x := by
  simp [State.link, State.setLink]

theorem State.link_setLink_ne {k j : LinkId} (x : Link) (h : j ≠ k) : (s.setLink k x).link j = s.link j := by
  simp only [State.link, State.setLink]
  exact tget_tput_ne _ _ _ h

/-! ### Register fields -/

/-- A number with a field replaced, from its upper part, the field and its lower part. -/
theorem setBits_eq (n lo len v : Nat) :
    setBits n lo len v = 2 ^ lo * (2 ^ len * (n / 2 ^ lo / 2 ^ len) + v % 2 ^ len) + n % 2 ^ lo := by
  unfold setBits bits
  have h1 : 2 ^ lo * (n / 2 ^ lo) + n % 2 ^ lo = n := Nat.div_add_mod n (2 ^ lo)
  have h2 : 2 ^ len * (n / 2 ^ lo / 2 ^ len) + n / 2 ^ lo % 2 ^ len = n / 2 ^ lo := Nat.div_add_mod _ _
  have e : 2 ^ lo * (n / 2 ^ lo) = 2 ^ lo * (2 ^ len * (n / 2 ^ lo / 2 ^ len)) + n / 2 ^ lo % 2 ^ len * 2 ^ lo := by
    rw [← h2, Nat.mul_add, h2, Nat.mul_comm (2 ^ lo) (n / 2 ^ lo % 2 ^ len)]
  rw [Nat.mul_add, Nat.mul_comm (2 ^ lo) (v % 2 ^ len)]
  omega

/-- The bits of a number with a field replaced. -/
theorem testBit_setBits (n lo len v i : Nat) :
    (setBits n lo len v).testBit i = if lo ≤ i ∧ i < lo + len then v.testBit (i - lo) else n.testBit i := by
  have hm : ∀ a b k : Nat, b < 2 ^ k → (2 ^ k * a + b).testBit i = if i < k then b.testBit i else a.testBit (i - k) := by
    intro a b k hb
    rw [Nat.testBit_two_pow_mul_add a hb]
  rw [setBits_eq, hm _ _ _ (Nat.mod_lt _ (Nat.two_pow_pos lo))]
  by_cases h : i < lo
  · rw [if_pos h, if_neg (by omega), Nat.testBit_mod_two_pow]; simp [h]
  · rw [if_neg h, Nat.testBit_two_pow_mul_add _ (Nat.mod_lt _ (Nat.two_pow_pos len))]
    by_cases g : i - lo < len
    · rw [if_pos g, if_pos (by omega), Nat.testBit_mod_two_pow]; simp [g]
    · rw [if_neg g, if_neg (by omega), Nat.testBit_div_two_pow, Nat.testBit_div_two_pow]; congr 1; omega

/-- The bits of a field. -/
theorem testBit_bits (n lo len i : Nat) : (bits n lo len).testBit i = (decide (i < len) && n.testBit (i + lo)) := by
  unfold bits
  rw [Nat.testBit_mod_two_pow, Nat.testBit_div_two_pow]

/-- The bits of a word with a field replaced. -/
theorem testBit_wset (w : Word) (lo len v i : Nat) :
    (wset w lo len v).toNat.testBit i = (decide (i < 64) && (if lo ≤ i ∧ i < lo + len then v.testBit (i - lo) else w.toNat.testBit i)) := by
  unfold wset wd
  rw [BitVec.toNat_ofNat, Nat.testBit_mod_two_pow, testBit_setBits]

/-- A field that was set reads as the low bits of what was written. -/
theorem wbits_wset_self (w : Word) (lo len v : Nat) (h : lo + len ≤ 64) : wbits (wset w lo len v) lo len = v % 2 ^ len := by
  apply Nat.eq_of_testBit_eq
  intro i
  unfold wbits
  rw [testBit_bits, testBit_wset, Nat.testBit_mod_two_pow]
  by_cases g : i < len
  · rw [if_pos (by omega)]
    have : i + lo < 64 := by omega
    simp [g, this]
  · simp [g]

/-- The other fields of a word keep their value. -/
theorem wbits_wset_ne (w : Word) (lo len v lo' len' : Nat) (h : lo + len ≤ lo' ∨ lo' + len' ≤ lo) :
    wbits (wset w lo len v) lo' len' = wbits w lo' len' := by
  apply Nat.eq_of_testBit_eq
  intro i
  unfold wbits
  rw [testBit_bits, testBit_wset, testBit_bits]
  by_cases g : i < len'
  · rw [if_neg (by omega)]
    by_cases k : i + lo' < 64
    · simp [g, k]
    · have : w.toNat.testBit (i + lo') = false := Nat.testBit_lt_two_pow (Nat.lt_of_lt_of_le w.isLt (Nat.pow_le_pow_right (by omega) (by omega)))
      simp [this]
  · simp [g]

/-- A register field that was set. -/
theorem State.fget_fset_self (f : Fld) (a i v : Nat) (h : f.lo + f.len ≤ 64) : (s.fset f a i v).fget f a i = v % 2 ^ f.len := by
  simp only [State.fget, State.fset, State.reg_setReg_self]
  exact wbits_wset_self _ _ _ _ h

/-- Another field of the same register. -/
theorem State.fget_fset_field {f f' : Fld} (a i v : Nat) (k : f'.kind = f.kind) (h : f.lo + f.len ≤ f'.lo ∨ f'.lo + f'.len ≤ f.lo) :
    (s.fset f a i v).fget f' a i = s.fget f' a i := by
  simp only [State.fget, State.fset, k, State.reg_setReg_self]
  exact wbits_wset_ne _ _ _ _ _ _ h

/-- A field of another register. -/
theorem State.fget_fset_reg {f f' : Fld} {a i a' i' : Nat} (v : Nat) (h : (f'.kind, a', i') ≠ (f.kind, a, i)) :
    (s.fset f a i v).fget f' a' i' = s.fget f' a' i' := by
  simp only [State.fget, State.fset]
  rw [State.reg_setReg_ne _ _ h]

/-- Another register. -/
theorem State.reg_fset_ne {f : Fld} {k' : RegKind} {a i a' i' : Nat} (v : Nat) (h : (k', a', i') ≠ (f.kind, a, i)) :
    (s.fset f a i v).reg k' a' i' = s.reg k' a' i' := State.reg_setReg_ne _ _ h

end Sys2Proof.Machine
end

