-- ==== Sys2Proof/Laws/Only.lean ====
section
/-! SUPPORT. Frames: what a named update changes, and how frames compose. -/
namespace Sys2Proof.Machine

/-- Nothing changed. -/
theorem Only.refl (ch : Changes) (u : State) : Only ch u u where
  queue := rfl
  regs _ _ _ _ := rfl
  threads _ _ _ _ := rfl
  tiles _ _ := rfl
  lanes _ _ := rfl
  links _ _ := rfl
  ctxs _ _ := rfl
  parts p _ := by cases p <;> simp [Part.same]

variable {ch : Changes} {u s : State}

theorem Only.setReg (h : Only ch u s) {k : RegKind} {a i : Nat} (v : Word) (m : (k, a, i) ∈ ch.regs) : Only ch u (s.setReg k a i v) where
  queue := h.queue
  regs k' a' i' n := by
    have e : (k', a', i') ≠ (k, a, i) := fun q => n (q ▸ m)
    rw [State.reg_setReg_ne _ _ e]
    exact h.regs _ _ _ n
  threads := h.threads
  tiles := h.tiles
  lanes := h.lanes
  links := h.links
  ctxs := h.ctxs
  parts := h.parts

theorem Only.fset (h : Only ch u s) {f : Fld} {a i : Nat} (v : Nat) (m : (f.kind, a, i) ∈ ch.regs) : Only ch u (s.fset f a i v) := h.setReg _ m
theorem Only.finc (h : Only ch u s) {f : Fld} {a i : Nat} (k : Nat) (m : (f.kind, a, i) ∈ ch.regs) : Only ch u (s.finc f a i k) := h.setReg _ m
theorem Only.inc (h : Only ch u s) {f : Fld} {a i : Nat} (m : (f.kind, a, i) ∈ ch.regs) : Only ch u (s.inc f a i) := h.setReg _ m
theorem Only.incw (h : Only ch u s) {f : Fld} {a i : Nat} (m : (f.kind, a, i) ∈ ch.regs) : Only ch u (s.incw f a i) := h.setReg _ m
theorem Only.raiseDev (h : Only ch u s) {k : Nat} (m : (.DPEND, 0, k / 64) ∈ ch.regs) : Only ch u (s.raiseDev k) := h.setReg _ m
theorem Only.raiseTile (h : Only ch u s) {t k : Nat} (m : (.IPEND, t, k / 64) ∈ ch.regs) : Only ch u (s.raiseTile t k) := h.setReg _ m

theorem Only.setThr (h : Only ch u s) {c n : Nat} (x : Thread) (l : n < 16) (m : (c, n) ∈ ch.threads) : Only ch u (s.setThr c n x) where
  queue := h.queue
  regs := h.regs
  threads c' n' l' q := by
    have e : c' * 16 + n' ≠ c * 16 + n := by
      intro e
      have e1 : c' = c := by omega
      have e2 : n' = n := by omega
      exact q (e1 ▸ e2 ▸ m)
    rw [State.thr_setThr_ne _ _ e]
    exact h.threads _ _ l' q
  tiles := h.tiles
  lanes := h.lanes
  links := h.links
  ctxs := h.ctxs
  parts := h.parts

theorem Only.onThr (h : Only ch u s) {c n : Nat} (g : Thread → Thread) (l : n < 16) (m : (c, n) ∈ ch.threads) : Only ch u (s.onThr c n g) := h.setThr _ l m

theorem Only.setTile (h : Only ch u s) {c : Nat} (x : Tile) (m : c ∈ ch.tiles) : Only ch u (s.setTile c x) where
  queue := h.queue
  regs := h.regs
  threads := h.threads
  tiles c' q := by
    have e : c' ≠ c := fun k => q (k ▸ m)
    rw [State.tile_setTile_ne _ _ e]
    exact h.tiles _ q
  lanes := h.lanes
  links := h.links
  ctxs := h.ctxs
  parts := h.parts

theorem Only.onTile (h : Only ch u s) {c : Nat} (g : Tile → Tile) (m : c ∈ ch.tiles) : Only ch u (s.onTile c g) := h.setTile _ m

theorem Only.setLane (h : Only ch u s) {l : Nat} (x : Lane) (m : l ∈ ch.lanes) : Only ch u (s.setLane l x) where
  queue := h.queue
  regs := h.regs
  threads := h.threads
  tiles := h.tiles
  lanes l' q := by
    have e : l' ≠ l := fun k => q (k ▸ m)
    rw [State.lane_setLane_ne _ _ e]
    exact h.lanes _ q
  links := h.links
  ctxs := h.ctxs
  parts := h.parts

theorem Only.setLink (h : Only ch u s) {k : LinkId} (x : Link) (m : k ∈ ch.links) : Only ch u (s.setLink k x) where
  queue := h.queue
  regs := h.regs
  threads := h.threads
  tiles := h.tiles
  lanes := h.lanes
  links k' q := by
    have e : k' ≠ k := fun j => q (j ▸ m)
    rw [State.link_setLink_ne _ _ e]
    exact h.links _ q
  ctxs := h.ctxs
  parts := h.parts

/-- A state that differs in listed parts only. -/
theorem Only.parts_of {t : State} (h : Only ch u s) (e1 : t.pending = s.pending) (e2 : t.regs = s.regs) (e3 : t.threads = s.threads) (e4 : t.tiles = s.tiles)
    (e5 : t.lanes = s.lanes) (e6 : t.links = s.links) (e7 : t.ctxs = s.ctxs) (p : ∀ p, p ∉ ch.parts → p.same s t) : Only ch u t where
  queue := e1.trans h.queue
  regs k a i n := (congrArg (fun r => tget r (regReset k a i) (k, a, i)) e2).trans (h.regs k a i n)
  threads c n l q := (congrArg (fun r => tget r Thread.rst (c * 16 + n)) e3).trans (h.threads c n l q)
  tiles c q := (congrArg (fun r => tget r Tile.rst c) e4).trans (h.tiles c q)
  lanes c q := (congrArg (fun r => tget r Lane.rst c) e5).trans (h.lanes c q)
  links c q := (congrArg (fun r => tget r Link.rst c) e6).trans (h.links c q)
  ctxs c q := (congrArg (fun r => tget r Ctx.rst c) e7).trans (h.ctxs c q)
  parts q n := by
    have a := p q n
    have b := h.parts q n
    cases q <;> simp only [Part.same] at a b ⊢ <;> simp only [a, b, and_self]

theorem Only.bump (h : Only ch u s) (m : .stamp ∈ ch.parts) : Only ch u s.bump :=
  h.parts_of rfl rfl rfl rfl rfl rfl rfl fun p n => by cases p <;> simp [Part.same] <;> exact absurd m n
theorem Only.emit (h : Only ch u s) {o : Out} (m : .out ∈ ch.parts) : Only ch u (s.emit o) :=
  h.parts_of rfl rfl rfl rfl rfl rfl rfl fun p n => by cases p <;> simp [Part.same] <;> exact absurd m n
theorem Only.post (h : Only ch u s) {o : Ctl} (m : .ctl ∈ ch.parts) : Only ch u (s.post o) :=
  h.parts_of rfl rfl rfl rfl rfl rfl rfl fun p n => by cases p <;> simp [Part.same] <;> exact absurd m n
theorem Only.store (h : Only ch u s) {a n v : Nat} (m : .mem ∈ ch.parts) : Only ch u (s.store a n v) :=
  h.parts_of rfl rfl rfl rfl rfl rfl rfl fun p n => by cases p <;> simp [Part.same] <;> exact absurd m n

end Sys2Proof.Machine
end

