-- ==== Sys2Proof/Laws/Thread.lean ====
section
/-! SUPPORT. The registers of a thread: what a write of one leaves, and a thread without the bookkeeping of its issue. -/
namespace Sys2Proof.Machine
variable (x : Thread)

@[simp] theorem Thread.setW_st (r : Nat) (v : Word) : (x.setW r v).st = x.st := by unfold Thread.setW; split <;> rfl
@[simp] theorem Thread.setW_wait (r : Nat) (v : Word) : (x.setW r v).wait = x.wait := by unfold Thread.setW; split <;> rfl
@[simp] theorem Thread.setW_since (r : Nat) (v : Word) : (x.setW r v).since = x.since := by unfold Thread.setW; split <;> rfl
@[simp] theorem Thread.setW_wres (r : Nat) (v : Word) : (x.setW r v).wres = x.wres := by unfold Thread.setW; split <;> rfl
@[simp] theorem Thread.setW_iw (r : Nat) (v : Word) : (x.setW r v).iw = x.iw := by unfold Thread.setW; split <;> rfl
@[simp] theorem Thread.setW_pri (r : Nat) (v : Word) : (x.setW r v).pri = x.pri := by unfold Thread.setW; split <;> rfl
@[simp] theorem Thread.setW_act (r : Nat) (v : Word) : (x.setW r v).act = x.act := by unfold Thread.setW; split <;> rfl
@[simp] theorem Thread.setW_cls (r : Nat) (v : Word) : (x.setW r v).cls = x.cls := by unfold Thread.setW; split <;> rfl
@[simp] theorem Thread.setW_ctx (r : Nat) (v : Word) : (x.setW r v).ctx = x.ctx := by unfold Thread.setW; split <;> rfl
@[simp] theorem Thread.setW_inh (r : Nat) (v : Word) : (x.setW r v).inh = x.inh := by unfold Thread.setW; split <;> rfl
@[simp] theorem Thread.setW_pvalid (r : Nat) (v : Word) : (x.setW r v).pvalid = x.pvalid := by unfold Thread.setW; split <;> rfl
@[simp] theorem Thread.setW_parent (r : Nat) (v : Word) : (x.setW r v).parent = x.parent := by unfold Thread.setW; split <;> rfl
@[simp] theorem Thread.setW_jcnt (r : Nat) (v : Word) : (x.setW r v).jcnt = x.jcnt := by unfold Thread.setW; split <;> rfl
@[simp] theorem Thread.setW_pc (r : Nat) (v : Word) : (x.setW r v).pc = x.pc := by unfold Thread.setW; split <;> rfl
@[simp] theorem Thread.setW_f (r : Nat) (v : Word) : (x.setW r v).f = x.f := by unfold Thread.setW; split <;> rfl
@[simp] theorem Thread.setW_fl (r : Nat) (v : Word) : (x.setW r v).fl = x.fl := by unfold Thread.setW; split <;> rfl
@[simp] theorem Thread.setW_ph (r : Nat) (v : Word) : (x.setW r v).ph = x.ph := by unfold Thread.setW; split <;> rfl
@[simp] theorem Thread.setW_pl (r : Nat) (v : Word) : (x.setW r v).pl = x.pl := by unfold Thread.setW; split <;> rfl
@[simp] theorem Thread.setW_ls (r : Nat) (v : Word) : (x.setW r v).ls = x.ls := by unfold Thread.setW; split <;> rfl
@[simp] theorem Thread.setW_le (r : Nat) (v : Word) : (x.setW r v).le = x.le := by unfold Thread.setW; split <;> rfl
@[simp] theorem Thread.setW_lc (r : Nat) (v : Word) : (x.setW r v).lc = x.lc := by unfold Thread.setW; split <;> rfl
@[simp] theorem Thread.setW_lends (r : Nat) (v : Word) : (x.setW r v).lends = x.lends := by unfold Thread.setW; split <;> rfl
@[simp] theorem Thread.setW_loads (r : Nat) (v : Word) : (x.setW r v).loads = x.loads := by unfold Thread.setW; split <;> rfl
@[simp] theorem Thread.setW_readyAt (r : Nat) (v : Word) : (x.setW r v).readyAt = x.readyAt := by unfold Thread.setW; split <;> rfl
@[simp] theorem Thread.setW_lastIss (r : Nat) (v : Word) : (x.setW r v).lastIss = x.lastIss := by unfold Thread.setW; split <;> rfl
@[simp] theorem Thread.setW_retry (r : Nat) (v : Word) : (x.setW r v).retry = x.retry := by unfold Thread.setW; split <;> rfl
@[simp] theorem Thread.setW_retryAt (r : Nat) (v : Word) : (x.setW r v).retryAt = x.retryAt := by unfold Thread.setW; split <;> rfl
@[simp] theorem Thread.setW_outst (r : Nat) (v : Word) : (x.setW r v).outst = x.outst := by unfold Thread.setW; split <;> rfl
@[simp] theorem Thread.setW_preempt (r : Nat) (v : Word) : (x.setW r v).preempt = x.preempt := by unfold Thread.setW; split <;> rfl
@[simp] theorem Thread.setW_haltReq (r : Nat) (v : Word) : (x.setW r v).haltReq = x.haltReq := by unfold Thread.setW; split <;> rfl
@[simp] theorem Thread.setW_wasWait (r : Nat) (v : Word) : (x.setW r v).wasWait = x.wasWait := by unfold Thread.setW; split <;> rfl
@[simp] theorem Thread.setW_stepLeft (r : Nat) (v : Word) : (x.setW r v).stepLeft = x.stepLeft := by unfold Thread.setW; split <;> rfl
@[simp] theorem Thread.setW_ctTail (r : Nat) (v : Word) : (x.setW r v).ctTail = x.ctTail := by unfold Thread.setW; split <;> rfl
@[simp] theorem Thread.setW_chanLost (r : Nat) (v : Word) : (x.setW r v).chanLost = x.chanLost := by unfold Thread.setW; split <;> rfl
@[simp] theorem Thread.setF_st (r : Nat) (v : Word) : (x.setF r v).st = x.st := rfl
@[simp] theorem Thread.setF_wait (r : Nat) (v : Word) : (x.setF r v).wait = x.wait := rfl
@[simp] theorem Thread.setF_since (r : Nat) (v : Word) : (x.setF r v).since = x.since := rfl
@[simp] theorem Thread.setF_wres (r : Nat) (v : Word) : (x.setF r v).wres = x.wres := rfl
@[simp] theorem Thread.setF_iw (r : Nat) (v : Word) : (x.setF r v).iw = x.iw := rfl
@[simp] theorem Thread.setF_pri (r : Nat) (v : Word) : (x.setF r v).pri = x.pri := rfl
@[simp] theorem Thread.setF_act (r : Nat) (v : Word) : (x.setF r v).act = x.act := rfl
@[simp] theorem Thread.setF_cls (r : Nat) (v : Word) : (x.setF r v).cls = x.cls := rfl
@[simp] theorem Thread.setF_ctx (r : Nat) (v : Word) : (x.setF r v).ctx = x.ctx := rfl
@[simp] theorem Thread.setF_inh (r : Nat) (v : Word) : (x.setF r v).inh = x.inh := rfl
@[simp] theorem Thread.setF_pvalid (r : Nat) (v : Word) : (x.setF r v).pvalid = x.pvalid := rfl
@[simp] theorem Thread.setF_parent (r : Nat) (v : Word) : (x.setF r v).parent = x.parent := rfl
@[simp] theorem Thread.setF_jcnt (r : Nat) (v : Word) : (x.setF r v).jcnt = x.jcnt := rfl
@[simp] theorem Thread.setF_pc (r : Nat) (v : Word) : (x.setF r v).pc = x.pc := rfl
@[simp] theorem Thread.setF_w (r : Nat) (v : Word) : (x.setF r v).w = x.w := rfl
@[simp] theorem Thread.setF_fl (r : Nat) (v : Word) : (x.setF r v).fl = x.fl := rfl
@[simp] theorem Thread.setF_ph (r : Nat) (v : Word) : (x.setF r v).ph = x.ph := rfl
@[simp] theorem Thread.setF_pl (r : Nat) (v : Word) : (x.setF r v).pl = x.pl := rfl
@[simp] theorem Thread.setF_ls (r : Nat) (v : Word) : (x.setF r v).ls = x.ls := rfl
@[simp] theorem Thread.setF_le (r : Nat) (v : Word) : (x.setF r v).le = x.le := rfl
@[simp] theorem Thread.setF_lc (r : Nat) (v : Word) : (x.setF r v).lc = x.lc := rfl
@[simp] theorem Thread.setF_lends (r : Nat) (v : Word) : (x.setF r v).lends = x.lends := rfl
@[simp] theorem Thread.setF_loads (r : Nat) (v : Word) : (x.setF r v).loads = x.loads := rfl
@[simp] theorem Thread.setF_readyAt (r : Nat) (v : Word) : (x.setF r v).readyAt = x.readyAt := rfl
@[simp] theorem Thread.setF_lastIss (r : Nat) (v : Word) : (x.setF r v).lastIss = x.lastIss := rfl
@[simp] theorem Thread.setF_retry (r : Nat) (v : Word) : (x.setF r v).retry = x.retry := rfl
@[simp] theorem Thread.setF_retryAt (r : Nat) (v : Word) : (x.setF r v).retryAt = x.retryAt := rfl
@[simp] theorem Thread.setF_outst (r : Nat) (v : Word) : (x.setF r v).outst = x.outst := rfl
@[simp] theorem Thread.setF_preempt (r : Nat) (v : Word) : (x.setF r v).preempt = x.preempt := rfl
@[simp] theorem Thread.setF_haltReq (r : Nat) (v : Word) : (x.setF r v).haltReq = x.haltReq := rfl
@[simp] theorem Thread.setF_wasWait (r : Nat) (v : Word) : (x.setF r v).wasWait = x.wasWait := rfl
@[simp] theorem Thread.setF_stepLeft (r : Nat) (v : Word) : (x.setF r v).stepLeft = x.stepLeft := rfl
@[simp] theorem Thread.setF_ctTail (r : Nat) (v : Word) : (x.setF r v).ctTail = x.ctTail := rfl
@[simp] theorem Thread.setF_chanLost (r : Nat) (v : Word) : (x.setF r v).chanLost = x.chanLost := rfl
@[simp] theorem Thread.bare_st : x.bare.st = x.st := rfl
@[simp] theorem Thread.bare_wait : x.bare.wait = x.wait := rfl
@[simp] theorem Thread.bare_since : x.bare.since = x.since := rfl
@[simp] theorem Thread.bare_wres : x.bare.wres = x.wres := rfl
@[simp] theorem Thread.bare_iw : x.bare.iw = x.iw := rfl
@[simp] theorem Thread.bare_pri : x.bare.pri = x.pri := rfl
@[simp] theorem Thread.bare_act : x.bare.act = x.act := rfl
@[simp] theorem Thread.bare_cls : x.bare.cls = x.cls := rfl
@[simp] theorem Thread.bare_ctx : x.bare.ctx = x.ctx := rfl
@[simp] theorem Thread.bare_inh : x.bare.inh = x.inh := rfl
@[simp] theorem Thread.bare_pvalid : x.bare.pvalid = x.pvalid := rfl
@[simp] theorem Thread.bare_parent : x.bare.parent = x.parent := rfl
@[simp] theorem Thread.bare_jcnt : x.bare.jcnt = x.jcnt := rfl
@[simp] theorem Thread.bare_pc : x.bare.pc = x.pc := rfl
@[simp] theorem Thread.bare_w : x.bare.w = x.w := rfl
@[simp] theorem Thread.bare_f : x.bare.f = x.f := rfl
@[simp] theorem Thread.bare_fl : x.bare.fl = x.fl := rfl
@[simp] theorem Thread.bare_ph : x.bare.ph = x.ph := rfl
@[simp] theorem Thread.bare_pl : x.bare.pl = x.pl := rfl
@[simp] theorem Thread.bare_ls : x.bare.ls = x.ls := rfl
@[simp] theorem Thread.bare_le : x.bare.le = x.le := rfl
@[simp] theorem Thread.bare_lc : x.bare.lc = x.lc := rfl
@[simp] theorem Thread.bare_lends : x.bare.lends = x.lends := rfl
@[simp] theorem Thread.bare_loads : x.bare.loads = x.loads := rfl
@[simp] theorem Thread.bare_retry : x.bare.retry = x.retry := rfl
@[simp] theorem Thread.bare_retryAt : x.bare.retryAt = x.retryAt := rfl
@[simp] theorem Thread.bare_outst : x.bare.outst = x.outst := rfl
@[simp] theorem Thread.bare_preempt : x.bare.preempt = x.preempt := rfl
@[simp] theorem Thread.bare_wasWait : x.bare.wasWait = x.wasWait := rfl

/-- A write keeps to the registers. -/
theorem Thread.setW_bare (r : Nat) (v : Word) : (x.setW r v).bare = x.bare.setW r v := by unfold Thread.setW; split <;> rfl
theorem Thread.setF_bare (r : Nat) (v : Word) : (x.setF r v).bare = x.bare.setF r v := rfl
@[simp] theorem Thread.bare_bare : x.bare.bare = x.bare := rfl

/-- w0 reads as zero, whatever is written (06 R138). -/
@[simp] theorem Thread.getW_zero : x.getW 0 = 0 := rfl
@[simp] theorem Thread.setW_zero (v : Word) : x.setW 0 v = x := rfl

/-- A w register reads what was written. -/
theorem Thread.getW_setW_self {r : Nat} (h : r ≠ 0) (v : Word) : (x.setW r v).getW r = v := by
  unfold Thread.setW Thread.getW
  rw [if_neg h, if_neg h]
  exact tget_tput_self ..

theorem Thread.getW_setW_ne {r q : Nat} (h : q ≠ r) (v : Word) : (x.setW r v).getW q = x.getW q := by
  unfold Thread.setW Thread.getW
  split
  · rfl
  · split
    · rfl
    · exact tget_tput_ne _ _ _ h

@[simp] theorem Thread.bare_getW (r : Nat) : x.bare.getW r = x.getW r := rfl
@[simp] theorem Thread.bare_getF (r : Nat) : x.bare.getF r = x.getF r := rfl

end Sys2Proof.Machine
end

