-- ==== Sys2Proof/Laws/Issue.lean ====
section
/-! SUPPORT. The issue of an instruction that takes the slot: what it changes, and its completion in sequence. -/
namespace Sys2Proof.Machine

theorem Only.weaken {ch ch' : Changes} {u t : State} (h : Only ch u t) (r : ∀ x ∈ ch.regs, x ∈ ch'.regs) (a : ∀ x ∈ ch.threads, x ∈ ch'.threads)
    (b : ∀ x ∈ ch.tiles, x ∈ ch'.tiles) (c : ∀ x ∈ ch.lanes, x ∈ ch'.lanes) (d : ∀ x ∈ ch.links, x ∈ ch'.links) (e : ∀ x ∈ ch.ctxs, x ∈ ch'.ctxs)
    (f : ∀ x ∈ ch.parts, x ∈ ch'.parts) : Only ch' u t where
  queue := h.queue
  regs k a i n := h.regs k a i fun m => n (r _ m)
  threads c n l q := h.threads c n l fun m => q (a _ m)
  tiles c q := h.tiles c fun m => q (b _ m)
  lanes l q := h.lanes l fun m => q (c _ m)
  links l q := h.links l fun m => q (d _ m)
  ctxs l q := h.ctxs l fun m => q (e _ m)
  parts p q := h.parts p fun m => q (f _ m)

theorem decode_word {s : State} {c pc : Nat} {o : Ins} (h : s.decode c pc = .ok o) : o.w = s.gword c pc ∧ o.pc = pc := by
  unfold State.decode at h
  dsimp only at h
  repeat' split at h
  all_goals first
    | (injection h with h; subst h; exact ⟨rfl, rfl⟩)
    | cases h

theorem decodeAt_word {s : State} {c n : Nat} {o : Ins} (h : s.decodeAt c n = .ok o) : o.w = s.gword c (s.thr c n).pc ∧ o.pc = (s.thr c n).pc := by
  unfold State.decodeAt at h
  dsimp only at h
  split at h
  · cases h
  · exact decode_word h

theorem winner_issuable {s : State} {c n : Nat} (h : s.winner c = some n) : s.issuable c n = true := by
  unfold State.winner at h
  split at h
  · injection h with h; subst h; assumption
  · have key : ∀ (f : Nat → Nat) (l : List Nat) a, minBy f l = some a → a ∈ l := by
      intro f l
      induction l with
      | nil => intro a e; cases e
      | cons x l ih =>
        intro a e
        unfold minBy at e
        split at e
        · injection e with e; subst e; exact List.mem_cons_self ..
        · rename_i b eb
          split at e <;> injection e with e <;> subst e
          · exact List.mem_cons_of_mem _ (ih _ eb)
          · exact List.mem_cons_self ..
    have m := key _ _ _ h
    exact (List.mem_filter.1 (List.mem_filter.1 m).1).2

theorem Takes.mayIssue {u : State} {c n : Nat} {o : Ins} (h : Takes u c n o) : u.mayIssue c n = true := by
  have := winner_issuable h.slot
  unfold State.issuable at this
  exact (Bool.and_eq_true_iff.1 this).1

theorem Takes.ready {u : State} {c n : Nat} {o : Ins} (h : Takes u c n o) : (u.thr c n).st = .ready := by
  have := h.mayIssue
  unfold State.mayIssue at this
  simp only [Bool.and_eq_true] at this
  simpa using this.1.1.1.1.1.1.1

theorem charge_only {ch : Changes} {u s : State} (h : Only ch u s) (c a : Nat) (k : Charge) (m0 : (.ACTREM0, c, a) ∈ ch.regs) (m1 : (.ACTREM1, c, a) ∈ ch.regs) :
    Only ch u (s.charge c a k) := by
  unfold State.charge
  split
  · exact h
  · exact (h.setReg _ m0).setReg _ m1

theorem markDisp_only {ch : Changes} {u s : State} (h : Only ch u s) (c a : Nat) (m : c ∈ ch.tiles) : Only ch u (s.markDisp c a) := by
  unfold State.markDisp
  split
  · exact h.onTile _ m
  · exact h

theorem Changes.and_none (a : Changes) : a.and {} = a := by
  unfold Changes.and
  simp only [List.append_nil]

theorem Only.left {a b : Changes} {u t : State} (h : Only a u t) : Only (a.and b) u t :=
  h.weaken (fun _ m => List.mem_append_left _ m) (fun _ m => List.mem_append_left _ m) (fun _ m => List.mem_append_left _ m) (fun _ m => List.mem_append_left _ m)
    (fun _ m => List.mem_append_left _ m) (fun _ m => List.mem_append_left _ m) (fun _ m => List.mem_append_left _ m)

theorem account_only {u : State} {c n : Nat} (l : n < 16) (k : Charge) : Only (issueChanges u c n) u (u.account c n k) := by
  unfold State.account issueChanges
  dsimp only
  refine Only.onTile ?_ _ (by simp)
  refine Only.setThr ?_ _ l (by simp)
  refine markDisp_only ?_ _ _ (by simp)
  refine Only.inc ?_ (by simp [F.TISSUE_COUNT])
  exact charge_only (Only.refl _ _) _ _ _ (by simp) (by simp)

theorem account_thr (u : State) (c n : Nat) (k : Charge) : (u.account c n k).thr c n = { u.thr c n with lastIss := u.now, chanLost := false } := by
  have h : (((u.charge c (u.thr c n).act k).inc F.TISSUE_COUNT c n).markDisp c (u.thr c n).ctx).now = u.now := by
    unfold State.markDisp State.charge
    split <;> split <;> rfl
  unfold State.account
  dsimp only
  rw [h]
  simp [State.onTile]

theorem account_now (u : State) (c n : Nat) (k : Charge) : (u.account c n k).now = u.now := by
  unfold State.account State.markDisp State.charge
  dsimp only
  split <;> split <;> rfl

/-- The issue of the instruction that takes the slot. -/
theorem Takes.issue {u : State} {c n : Nat} {o : Ins} (h : Takes u c n o) (p : Word → Bool) (hp : p o.w = true) :
    u.issue c n p = (u.account c n (u.chargeFor c n o)).settleRes c n ((u.account c n (u.chargeFor c n o)).thr c n) o
      ((u.account c n (u.chargeFor c n o)).occOf ((u.account c n (u.chargeFor c n o)).thr c n) o) (meaningOf o.op (u.account c n (u.chargeFor c n o)) c n o) := by
  have hw := decodeAt_word h.ins
  have hiss := winner_issuable h.slot
  unfold State.issuable at hiss
  have hnot := (Bool.and_eq_true_iff.1 hiss).2
  unfold State.issue
  rw [← hw.1, hp, h.mayIssue]
  have : (decide ((u.tile c).lastIssue ≠ some u.now)) = true := by simpa using h.once
  simp only [Bool.true_and]
  rw [if_pos this]
  have hperf : u.perform c n = (u.account c n (u.chargeFor c n o)).settleRes c n ((u.account c n (u.chargeFor c n o)).thr c n) o
      ((u.account c n (u.chargeFor c n o)).occOf ((u.account c n (u.chargeFor c n o)).thr c n) o) (meaningOf o.op (u.account c n (u.chargeFor c n o)) c n o) := by
    have hi : u.insAt c n = o := by unfold State.insAt; rw [h.ins]
    have hc : u.chargeAt c n = u.chargeFor c n o := by
      unfold State.chargeAt; rw [h.ins]; simp [h.chan, h.cox]
    unfold State.perform
    rw [hi, hc, h.chan, h.ins]
    dsimp only
    rw [h.cox]
    have hm : (u.account c n (u.chargeFor c n o)).meaning c n o = meaningOf o.op (u.account c n (u.chargeFor c n o)) c n o := by
      unfold State.meaning
      rw [if_neg]
      intro e
      apply h.ends
      refine ⟨e.1, ?_⟩
      have q := e.2
      rw [account_thr] at q
      exact q
    simp [hm]
  split
  · rename_i b e; rw [e] at hnot; cases hnot
  · rename_i e; rw [e] at hnot; cases hnot
  · rw [if_pos h.slot, hperf]

theorem stepPc_bare (x : Thread) (p q : Nat) : (x.stepPc p q).bare = (x.bare.stepPc p q).bare := by
  unfold Thread.stepPc
  have e1 : x.bare.inh = x.inh := rfl
  have e2 : x.bare.ls = x.ls := rfl
  have e3 : x.bare.le = x.le := rfl
  have e4 : x.bare.lc = x.lc := rfl
  rw [e1, e2, e3, e4]
  split <;> rfl

theorem stepPc_pc_bare (x : Thread) (p q : Nat) : (x.stepPc p q).pc = (x.bare.stepPc p q).pc := by
  have := congrArg Thread.pc (stepPc_bare x p q)
  exact this

theorem stepPc_loads (x : Thread) (p q : Nat) : (x.stepPc p q).loads = x.loads := by
  unfold Thread.stepPc
  split <;> rfl

theorem pcCheck_low {s : State} {c n : Nat} (h : (s.thr c n).pc ≤ 16383) : s.pcCheck c n = s := by
  unfold State.pcCheck
  dsimp only
  rw [if_neg]
  intro e
  omega

/-- Loads that neither land nor fault now: none is past its shadow, and none has arrived with a fault. -/
def Quiet (l : List Load) : Prop := ∀ k ∈ l, k.due = false ∧ (k.arrived = true → k.code = 0)

theorem quiet_nil : Quiet [] := fun _ m => nomatch m

theorem landPassed_quiet {x : Thread} (h : Quiet x.loads) : x.landPassed = x := by
  have e1 : x.loads.takeWhile Load.due = [] := by
    cases hl : x.loads with
    | nil => rfl
    | cons k r => rw [List.takeWhile_cons, (h k (hl ▸ List.mem_cons_self ..)).1]; rfl
  have e2 : x.loads.dropWhile Load.due = x.loads := by
    cases hl : x.loads with
    | nil => rfl
    | cons k r => rw [List.dropWhile_cons, (h k (hl ▸ List.mem_cons_self ..)).1]; rfl
  unfold Thread.landPassed
  rw [e1, e2]
  simp

theorem splitGood_bad (l : List Load) : ∀ b k r, splitGood l = (b, k :: r) → k ∈ l ∧ k.good = false := by
  induction l with
  | nil => intro b k r e; cases e
  | cons a l ih =>
    intro b k r e
    unfold splitGood at e
    split at e
    · obtain ⟨m, g⟩ := ih (splitGood l).1 k r (by rw [← (Prod.mk.inj e).2])
      exact ⟨List.mem_cons_of_mem _ m, g⟩
    · rename_i hg
      have := (Prod.mk.inj e).2
      have e3 := (List.cons.inj this).1
      subst e3
      exact ⟨List.mem_cons_self .., by simpa using hg⟩

theorem settle_quiet {s : State} {c n : Nat} (h : Quiet (s.thr c n).loads) (hp : (s.thr c n).pc ≤ 16383) : s.settle c n = s.setThr c n (s.thr c n) := by
  unfold State.settle
  dsimp only
  split
  · rename_i b k r e
    obtain ⟨m, g⟩ := splitGood_bad _ _ _ _ e
    have q := (h k m).2
    have : k.arrived = false := by
      cases ha : k.arrived with
      | false => rfl
      | true => unfold Load.good at g; rw [ha, q ha] at g; cases g
    rw [this, landPassed_quiet h]
    rfl
  · rw [landPassed_quiet h]
    apply pcCheck_low
    rw [State.thr_setThr_self]
    exact hp

theorem afterIns_bare (x pre : Thread) (now occ : Nat) (h : pre.loads = []) : (x.afterIns pre now occ).bare = x.bare ∧ (x.afterIns pre now occ).loads = x.loads := by
  unfold Thread.afterIns Thread.bare
  rw [h]
  simp

/-- A completed instruction whose thread is moved on by `g`. -/
theorem finish_thr {s : State} {c n : Nat} {pre : Thread} (occ : Nat) (npc : State → State) (g : Thread → Thread) (hr : (s.thr c n).st = .ready)
    (hpre : pre.loads = []) (hl : Quiet (s.thr c n).loads) (hn : ∀ z : State, (g (z.thr c n)).pc ≤ 16383 → npc z = z.setThr c n (g (z.thr c n)))
    (hg : ∀ x, (g x).bare = (g x.bare).bare) (hgl : ∀ x, (g x).loads = x.loads) (hp : (g (s.thr c n)).pc ≤ 16383) :
    ∃ y, s.finish c n pre occ npc = s.setThr c n y ∧ y.bare = (g (s.thr c n)).bare := by
  obtain ⟨hb, hb2⟩ := afterIns_bare (s.thr c n) pre s.now occ hpre
  have hbare : (g ((s.thr c n).afterIns pre s.now occ)).bare = (g (s.thr c n)).bare := by rw [hg, hb, ← hg]
  have hpc : (g ((s.thr c n).afterIns pre s.now occ)).pc ≤ 16383 := by
    have := congrArg Thread.pc hbare
    exact this ▸ hp
  refine ⟨g ((s.thr c n).afterIns pre s.now occ), ?_, hbare⟩
  unfold State.finish
  rw [if_pos hr]
  have e : ((s.onThr c n fun x => x.afterIns pre s.now occ).thr c n) = (s.thr c n).afterIns pre s.now occ := State.thr_setThr_self ..
  rw [hn _ (by rw [e]; exact hpc), e]
  unfold State.onThr
  rw [State.setThr_setThr, settle_quiet]
  · simp
  · rw [State.thr_setThr_self, hgl, hb2]; exact hl
  · rw [State.thr_setThr_self]; exact hpc

theorem finish_advance {s : State} {c n : Nat} {pre : Thread} (occ p q : Nat) (hr : (s.thr c n).st = .ready)
    (hpre : pre.loads = []) (hl : Quiet (s.thr c n).loads) (hp : ((s.thr c n).stepPc p q).pc ≤ 16383) :
    ∃ y, s.finish c n pre occ (fun s => s.advancePc c n p q) = s.setThr c n y ∧ y.bare = ((s.thr c n).stepPc p q).bare := by
  refine finish_thr occ _ (fun x => x.stepPc p q) hr hpre hl ?_ (fun x => stepPc_bare x p q) (fun x => stepPc_loads x p q) hp
  intro z hz
  unfold State.advancePc
  apply pcCheck_low
  rw [State.thr_setThr_self]
  exact hz

theorem jumpTo_bare (x : Thread) (p : Nat) : (x.jumpTo p).bare = (x.bare.jumpTo p).bare := rfl

theorem finish_jump {s : State} {c n : Nat} {pre : Thread} (occ p : Nat) (hr : (s.thr c n).st = .ready)
    (hpre : pre.loads = []) (hl : Quiet (s.thr c n).loads) (hp : p ≤ 16383) :
    ∃ y, s.finish c n pre occ (fun s => s.onThr c n fun x => x.jumpTo p) = s.setThr c n y ∧ y.bare = ((s.thr c n).jumpTo p).bare :=
  finish_thr occ _ (fun x => x.jumpTo p) hr hpre hl (fun _ _ => rfl) (fun x => jumpTo_bare x p) (fun _ => rfl) hp

theorem finish_next {s : State} {c n : Nat} {pre : Thread} (occ p : Nat) (hr : (s.thr c n).st = .ready)
    (hpre : pre.loads = []) (hl : Quiet (s.thr c n).loads) (hp : p ≤ 16383) :
    ∃ y, s.finish c n pre occ (fun s => (s.onThr c n fun x => { x with pc := p }).pcCheck c n) = s.setThr c n y ∧ y.bare = ({ s.thr c n with pc := p } : Thread).bare := by
  refine finish_thr occ _ (fun x => { x with pc := p }) hr hpre hl ?_ (fun _ => rfl) (fun _ => rfl) hp
  intro z hz
  apply pcCheck_low
  rw [State.onThr, State.thr_setThr_self]
  exact hp

theorem bare_lastIssue (x : Tile) (k : Option Nat) : ({ x with lastIssue := k } : Tile).bare = x.bare := rfl

theorem bare_cache (x : Tile) (k : List CEnt) : ({ x with cache := k } : Tile).bare = x.bare := rfl

theorem charge_tile (s : State) (c a : Nat) (k : Charge) (d : Nat) : (s.charge c a k).tile d = s.tile d := by
  unfold State.charge
  split <;> rfl

theorem markDisp_bare (s : State) (c a : Nat) : ((s.markDisp c a).tile c).bare = (s.tile c).bare := by
  unfold State.markDisp
  split
  · rw [State.onTile, State.tile_setTile_self, bare_cache]
  · rfl

theorem account_tile (u : State) (c n : Nat) (k : Charge) : ((u.account c n k).tile c).bare = (u.tile c).bare := by
  unfold State.account
  dsimp only
  rw [State.onTile, State.tile_setTile_self, bare_lastIssue, State.tile_setThr, markDisp_bare]
  exact congrArg Tile.bare (charge_tile ..)

/-- What the thread's issue leaves to the instruction: the state with the issue recorded. -/
structure Began (u s : State) (c n : Nat) : Prop where
  only : Only (issueChanges u c n) u s
  tile : (s.tile c).bare = (u.tile c).bare
  thread : s.thr c n = { u.thr c n with lastIss := u.now, chanLost := false }
  now : s.now = u.now
  stamp : s.seqNo = u.seqNo

theorem account_began {u : State} {c n : Nat} (l : n < 16) (k : Charge) : Began u (u.account c n k) c n where
  only := account_only l k
  tile := account_tile u c n k
  thread := account_thr u c n k
  now := account_now u c n k
  stamp := (account_only (n := n) (c := c) l k).parts .stamp (by simp [issueChanges])

/-- A register that issue does not account in. -/
theorem Began.reg {u s : State} {c n : Nat} (h : Began u s c n) {k : RegKind} (a i : Nat) (h0 : k ≠ .ACTREM0) (h1 : k ≠ .ACTREM1) (h2 : k ≠ .TISSUE) :
    s.reg k a i = u.reg k a i := by
  refine h.only.regs k a i fun m => ?_
  simp only [issueChanges, List.mem_cons, Prod.mk.injEq, List.not_mem_nil, or_false] at m
  rcases m with m | m | m
  · exact h0 m.1
  · exact h1 m.1
  · exact h2 m.1

/-- What issue leaves of the thread as its operands read it. -/
theorem Began.a {u s : State} {c n : Nat} (h : Began u s c n) (o : Ins) : o.a (s.thr c n) = o.a (u.thr c n) := by rw [h.thread]; rfl
theorem Began.b {u s : State} {c n : Nat} (h : Began u s c n) (o : Ins) : o.b (s.thr c n) = o.b (u.thr c n) := by rw [h.thread]; rfl
theorem Began.c {u s : State} {c n : Nat} (h : Began u s c n) (o : Ins) : o.c (s.thr c n) = o.c (u.thr c n) := by rw [h.thread]; rfl
theorem Began.fl {u s : State} {c n : Nat} (h : Began u s c n) : (s.thr c n).fl = (u.thr c n).fl := by rw [h.thread]
theorem Began.ph {u s : State} {c n : Nat} (h : Began u s c n) : (s.thr c n).ph = (u.thr c n).ph := by rw [h.thread]
theorem Began.pl {u s : State} {c n : Nat} (h : Began u s c n) : (s.thr c n).pl = (u.thr c n).pl := by rw [h.thread]
theorem Began.getW {u s : State} {c n : Nat} (h : Began u s c n) (k : Nat) : (s.thr c n).getW k = (u.thr c n).getW k := by rw [h.thread]; rfl
theorem Began.getF {u s : State} {c n : Nat} (h : Began u s c n) (k : Nat) : (s.thr c n).getF k = (u.thr c n).getF k := by rw [h.thread]; rfl
theorem Began.ea {u s : State} {c n : Nat} (h : Began u s c n) (o : Ins) (d k : Nat) : (o.ea (s.thr c n) d k).1 = (o.ea (u.thr c n) d k).1 := by
  rw [h.thread]
  unfold Ins.ea
  dsimp only
  split <;> rfl
theorem Began.fget {u s : State} {c n : Nat} (h : Began u s c n) {f : Fld} (a i : Nat) (h0 : f.kind ≠ .ACTREM0) (h1 : f.kind ≠ .ACTREM1) (h2 : f.kind ≠ .TISSUE) :
    s.fget f a i = u.fget f a i := by
  unfold State.fget
  rw [h.reg a i h0 h1 h2]

/-- An instruction that has left its thread as `y`, and changed what `ch` lists. -/
structure Did (u s : State) (c n : Nat) (y : Thread) (ch : Changes) : Prop where
  only : Only ((issueChanges u c n).and ch) u s
  tile : c ∉ ch.tiles → (s.tile c).bare = (u.tile c).bare
  thread : (s.thr c n).bare = y.bare

theorem Did.issued {u s : State} {c n : Nat} {y z : Thread} {ch : Changes} (h : Did u s c n y ch) (l : n < 16) {x : Thread} (e : x.bare = z.bare) :
    Issued u (s.setThr c n x) c n z ch where
  only := h.only.setThr _ l (by simp [issueChanges, Changes.and])
  tile := h.tile
  thread := by rw [State.thr_setThr_self]; exact e

/-- How a thread's instruction ends, from what it did. -/
theorem Did.done {u s : State} {c n : Nat} {o : Ins} {y : Thread} {ch : Changes} (h : Did u s c n y ch) (l : n < 16) {pre : Thread} (occ : Nat)
    (hpre : pre.loads = []) (hst : y.st = .ready) (hl : Quiet y.loads) (hpc : (y.stepPc o.pc (o.pc + o.len)).pc ≤ 16383) :
    InSequence u (s.settleRes c n pre o occ (.done s)) c n o y ch := by
  have e1 : (s.thr c n).st = .ready := (congrArg Thread.st h.thread).trans hst
  have e2 : (s.thr c n).loads = y.loads := by have q := congrArg Thread.loads h.thread; exact q
  have e3 : ((s.thr c n).stepPc o.pc (o.pc + o.len)).bare = (y.stepPc o.pc (o.pc + o.len)).bare := by rw [stepPc_bare, h.thread, ← stepPc_bare]
  have e4 : ((s.thr c n).stepPc o.pc (o.pc + o.len)).pc ≤ 16383 := by have := congrArg Thread.pc e3; exact this ▸ hpc
  obtain ⟨z, hz, hb⟩ := finish_advance occ o.pc (o.pc + o.len) e1 hpre (e2 ▸ hl) e4
  unfold State.settleRes
  dsimp only
  rw [hz]
  exact h.issued l (hb.trans e3)

theorem Did.jump {u s : State} {c n : Nat} {o : Ins} {y : Thread} {ch : Changes} (h : Did u s c n y ch) (l : n < 16) {pre : Thread} (occ p : Nat)
    (hpre : pre.loads = []) (hst : y.st = .ready) (hl : Quiet y.loads) (hpc : p ≤ 16383) :
    Issued u (s.settleRes c n pre o occ (.jump s p)) c n (y.jumpTo p) ch := by
  have e1 : (s.thr c n).st = .ready := (congrArg Thread.st h.thread).trans hst
  have e2 : (s.thr c n).loads = y.loads := by have q := congrArg Thread.loads h.thread; exact q
  obtain ⟨z, hz, hb⟩ := finish_jump 3 p e1 hpre (e2 ▸ hl) hpc
  unfold State.settleRes
  dsimp only
  rw [hz]
  exact h.issued l (hb.trans (by rw [jumpTo_bare, h.thread, ← jumpTo_bare]))

theorem Did.next {u s : State} {c n : Nat} {o : Ins} {y : Thread} {ch : Changes} (h : Did u s c n y ch) (l : n < 16) {pre : Thread} (occ p : Nat)
    (hpre : pre.loads = []) (hst : y.st = .ready) (hl : Quiet y.loads) (hpc : p ≤ 16383) :
    Issued u (s.settleRes c n pre o occ (.next s p)) c n { y with pc := p } ch := by
  have e1 : (s.thr c n).st = .ready := (congrArg Thread.st h.thread).trans hst
  have e2 : (s.thr c n).loads = y.loads := by have q := congrArg Thread.loads h.thread; exact q
  obtain ⟨z, hz, hb⟩ := finish_next occ p e1 hpre (e2 ▸ hl) hpc
  unfold State.settleRes
  dsimp only
  rw [hz]
  refine h.issued l (hb.trans ?_)
  have : ({ (s.thr c n) with pc := p } : Thread).bare = { (s.thr c n).bare with pc := p } := rfl
  rw [this, h.thread]
  rfl

/-- A thread that waits: its state, what it waits for, the stamp of its arrival, the instruction word, and the cycle of its next try. -/
theorem Did.wait {u s : State} {c n : Nat} {o : Ins} {y : Thread} {ch : Changes} (h : Did u s c n y ch) (l : n < 16) (pre : Thread) (occ : Nat) (w : WaitFor)
    (m : .stamp ∈ ch.parts) :
    Issued u (s.settleRes c n pre o occ (.wait s w)) c n
      { y with st := .wait, wait := w, since := s.seqNo, wres := none, iw := o.w, retry := none, retryAt := s.now + 8 } ch where
  only := (h.only.bump (by simp [Changes.and, m])).setThr _ l (by simp [issueChanges, Changes.and])
  tile := h.tile
  thread := by
    change (((s.bump).setThr c n _).thr c n).bare = _
    rw [State.thr_setThr_self]
    change ({ (s.thr c n).bare with st := .wait, wait := w, since := s.seqNo, wres := none, iw := o.w, retry := none, retryAt := s.now + 8 } : Thread) = _
    rw [h.thread]
    rfl

theorem Did.retry {u s : State} {c n : Nat} {o : Ins} {y : Thread} {ch : Changes} (h : Did u s c n y ch) (l : n < 16) (pre : Thread) (occ : Nat) (k : RetryKind) :
    Issued u (s.settleRes c n pre o occ (.retry s k)) c n { y with retry := some k, retryAt := s.now + 8, iw := o.w } ch where
  only := h.only.setThr _ l (by simp [issueChanges, Changes.and])
  tile := h.tile
  thread := by
    change ((s.setThr c n _).thr c n).bare = _
    rw [State.thr_setThr_self]
    change ({ (s.thr c n).bare with retry := some k, retryAt := s.now + 8, iw := o.w } : Thread) = _
    rw [h.thread]
    rfl

/-- An instruction that has done nothing but become `y`. -/
theorem Began.did {u s : State} {c n : Nat} (h : Began u s c n) (l : n < 16) {x y : Thread} (e : x.bare = y.bare) (ch : Changes := {}) : Did u (s.setThr c n x) c n y ch where
  only := h.only.left.setThr _ l (by simp [issueChanges, Changes.and])
  tile _ := h.tile
  thread := by rw [State.thr_setThr_self]; exact e

/-- The thread after its issue, for the instruction. -/
theorem Began.bare {u s : State} {c n : Nat} (h : Began u s c n) : (s.thr c n).bare = (u.thr c n).bare := by rw [h.thread]; rfl

/-- The instruction that takes the slot takes effect on a state in which its issue is recorded. -/
theorem Takes.perform {u : State} {c n : Nat} {o : Ins} (h : Takes u c n o) (l : n < 16) (p : Word → Bool) (hp : p o.w = true) :
    ∃ s occ, Began u s c n ∧ u.issue c n p = s.settleRes c n (s.thr c n) o occ (meaningOf o.op s c n o) :=
  ⟨_, _, account_began l _, h.issue p hp⟩

/-- A decoded instruction is in a form that its opcode defines (06 R134). -/
theorem decode_form {s : State} {c pc : Nat} {o : Ins} (h : s.decode c pc = .ok o) : isStrandOp o.op o.w = true := by
  have hw := (decode_word h).1
  unfold State.decode at h
  dsimp only at h
  split at h
  · cases h
  · rename_i hf
    rw [← hw] at hf
    simp only [Bool.or_eq_true, Bool.not_eq_true', decide_eq_true_eq, not_or, Bool.not_eq_false] at hf
    unfold isStrandOp Ins.op
    simp only [decide_true, Bool.true_and, Bool.and_eq_true, decide_eq_true_eq]
    exact ⟨by omega, hf.1⟩

theorem decodeAt_form {s : State} {c n : Nat} {o : Ins} (h : s.decodeAt c n = .ok o) : isStrandOp o.op o.w = true := by
  unfold State.decodeAt at h
  dsimp only at h
  split at h
  · cases h
  · exact decode_form h

/-- A row of a strand instruction, at a thread that takes the slot with it. -/
theorem Takes.row {u : State} {c n : Nat} {o : Ins} (h : Takes u c n o) (l : n < 16) {op : Nat} (hop : o.op = op) :
    ∃ s occ, Began u s c n ∧ (u.issue c n fun w => isStrandOp op w && true) = s.settleRes c n (s.thr c n) o occ (meaningOf op s c n o) := by
  subst hop
  exact h.perform l _ (by rw [decodeAt_form h.ins]; rfl)

theorem Began.pre {u s : State} {c n : Nat} {o : Ins} (h : Began u s c n) (t : Takes u c n o) : (s.thr c n).loads = [] := by rw [h.thread]; exact t.loads

/-- The row `f` with opcode `op` is the issue of an instruction whose meaning is `m`. -/
structure IsRow (f : Nat → CoreId → ThreadId → Instr) (op : Nat) (m : State → Nat → Nat → Ins → XRes) : Prop where
  run : ∀ dt c n s, exec (f dt c n) s = .next ((s.advance dt).issue c.val n.val fun w => isStrandOp op w && true)
  meaning : meaningOf op = m

/-- A row at a thread that takes the slot: what the meaning does on the state that records the issue. -/
theorem IsRow.takes {f : Nat → CoreId → ThreadId → Instr} {op : Nat} {m : State → Nat → Nat → Ins → XRes} (h : IsRow f op m) {s : State} {dt : Nat}
    {c : CoreId} {n : ThreadId} {o : Ins} (t : Takes (s.advance dt) c.val n.val o) (hop : o.op = op) :
    ∃ s1 occ, Began (s.advance dt) s1 c.val n.val ∧ exec (f dt c n) s = .next (s1.settleRes c.val n.val (s1.thr c.val n.val) o occ (m s1 c.val n.val o)) := by
  obtain ⟨s1, occ, hb, he⟩ := t.row n.isLt hop
  exact ⟨s1, occ, hb, by rw [h.run, he, h.meaning]⟩

end Sys2Proof.Machine
end

