-- ==== Sys2Proof/Laws/Parts.lean ====
section
/-! SUPPORT. Frames: one update of each part of the state, and reads of register fields after an update. -/
namespace Sys2Proof.Machine

variable {ch : Changes} {u s : State}

theorem Only.now_ (h : Only ch u s) (v : Nat) (m : .clock ∈ ch.parts) : Only ch u { s with now := v } :=
  h.parts_of rfl rfl rfl rfl rfl rfl rfl fun p n => by cases p <;> simp [Part.same] <;> exact absurd m n
theorem Only.seqNo_ (h : Only ch u s) (v : Nat) (m : .stamp ∈ ch.parts) : Only ch u { s with seqNo := v } :=
  h.parts_of rfl rfl rfl rfl rfl rfl rfl fun p n => by cases p <;> simp [Part.same] <;> exact absurd m n
theorem Only.freeCtr_ (h : Only ch u s) (v : Nat) (m : .free ∈ ch.parts) : Only ch u { s with freeCtr := v } :=
  h.parts_of rfl rfl rfl rfl rfl rfl rfl fun p n => by cases p <;> simp [Part.same] <;> exact absurd m n
theorem Only.dev_ (h : Only ch u s) (v : DevState) (m : .dev ∈ ch.parts) : Only ch u { s with dev := v } :=
  h.parts_of rfl rfl rfl rfl rfl rfl rfl fun p n => by cases p <;> simp [Part.same] <;> exact absurd m n
theorem Only.degraded_ (h : Only ch u s) (v : Bool) (m : .degraded ∈ ch.parts) : Only ch u { s with degraded := v } :=
  h.parts_of rfl rfl rfl rfl rfl rfl rfl fun p n => by cases p <;> simp [Part.same] <;> exact absurd m n
theorem Only.mem_ (h : Only ch u s) (v : List Host.Cell) (m : .mem ∈ ch.parts) : Only ch u { s with mem := v } :=
  h.parts_of rfl rfl rfl rfl rfl rfl rfl fun p n => by cases p <;> simp [Part.same] <;> exact absurd m n
theorem Only.ecc_ (h : Only ch u s) (v : Ecc) (m : .ecc ∈ ch.parts) : Only ch u { s with ecc := v } :=
  h.parts_of rfl rfl rfl rfl rfl rfl rfl fun p n => by cases p <;> simp [Part.same] <;> exact absurd m n
theorem Only.mbx_ (h : Only ch u s) (v : Tab Nat Word) (m : .mbx ∈ ch.parts) : Only ch u { s with mbx := v } :=
  h.parts_of rfl rfl rfl rfl rfl rfl rfl fun p n => by cases p <;> simp [Part.same] <;> exact absurd m n
theorem Only.graph_ (h : Only ch u s) (v : Tab Nat Word) (m : .graph ∈ ch.parts) : Only ch u { s with graph := v } :=
  h.parts_of rfl rfl rfl rfl rfl rfl rfl fun p n => by cases p <;> simp [Part.same] <;> exact absurd m n
theorem Only.outlets_ (h : Only ch u s) (v : Tab Outlet OutletSt) (m : .outlets ∈ ch.parts) : Only ch u { s with outlets := v } :=
  h.parts_of rfl rfl rfl rfl rfl rfl rfl fun p n => by cases p <;> simp [Part.same] <;> exact absurd m n
theorem Only.stroke_ (h : Only ch u s) (v : Stroke) (m : .stroke ∈ ch.parts) : Only ch u { s with stroke := v } :=
  h.parts_of rfl rfl rfl rfl rfl rfl rfl fun p n => by cases p <;> simp [Part.same] <;> exact absurd m n
theorem Only.cut_ (h : Only ch u s) (v : CutState) (m : .cut ∈ ch.parts) : Only ch u { s with cut := v } :=
  h.parts_of rfl rfl rfl rfl rfl rfl rfl fun p n => by cases p <;> simp [Part.same] <;> exact absurd m n
theorem Only.scan_ (h : Only ch u s) (v : Scan) (m : .scan ∈ ch.parts) : Only ch u { s with scan := v } :=
  h.parts_of rfl rfl rfl rfl rfl rfl rfl fun p n => by cases p <;> simp [Part.same] <;> exact absurd m n
theorem Only.mesh_ (h : Only ch u s) (v : Mesh) (m : .mesh ∈ ch.parts) : Only ch u { s with mesh := v } :=
  h.parts_of rfl rfl rfl rfl rfl rfl rfl fun p n => by cases p <;> simp [Part.same] <;> exact absurd m n
theorem Only.ctl_ (h : Only ch u s) (v : List Ctl) (m : .ctl ∈ ch.parts) : Only ch u { s with ctl := v } :=
  h.parts_of rfl rfl rfl rfl rfl rfl rfl fun p n => by cases p <;> simp [Part.same] <;> exact absurd m n
theorem Only.bankReqs_ (h : Only ch u s) (v : List MemReq) (m : .banks ∈ ch.parts) : Only ch u { s with bankReqs := v } :=
  h.parts_of rfl rfl rfl rfl rfl rfl rfl fun p n => by cases p <;> simp [Part.same] <;> exact absurd m n
theorem Only.drq_ (h : Only ch u s) (v : List MemReq) (m : .dram ∈ ch.parts) : Only ch u { s with drq := v } :=
  h.parts_of rfl rfl rfl rfl rfl rfl rfl fun p n => by cases p <;> simp [Part.same] <;> exact absurd m n
theorem Only.mbxq_ (h : Only ch u s) (v : List MemReq) (m : .mailboxQ ∈ ch.parts) : Only ch u { s with mbxq := v } :=
  h.parts_of rfl rfl rfl rfl rfl rfl rfl fun p n => by cases p <;> simp [Part.same] <;> exact absurd m n
theorem Only.fireMem_ (h : Only ch u s) (v : List FireMem) (m : .fireMem ∈ ch.parts) : Only ch u { s with fireMem := v } :=
  h.parts_of rfl rfl rfl rfl rfl rfl rfl fun p n => by cases p <;> simp [Part.same] <;> exact absurd m n
theorem Only.winq_ (h : Only ch u s) (v : Tab Nat (List Token)) (m : .windows ∈ ch.parts) : Only ch u { s with winq := v } :=
  h.parts_of rfl rfl rfl rfl rfl rfl rfl fun p n => by cases p <;> simp [Part.same] <;> exact absurd m n
theorem Only.pushq_ (h : Only ch u s) (v : Tab (Nat × Nat) (List (Token × Nat × Bool × Nat))) (m : .pushes ∈ ch.parts) : Only ch u { s with pushq := v } :=
  h.parts_of rfl rfl rfl rfl rfl rfl rfl fun p n => by cases p <;> simp [Part.same] <;> exact absurd m n
theorem Only.dtabA_ (h : Only ch u s) (v : List Byte) (m : .decode ∈ ch.parts) : Only ch u { s with dtabA := v } :=
  h.parts_of rfl rfl rfl rfl rfl rfl rfl fun p n => by cases p <;> simp [Part.same] <;> exact absurd m n
theorem Only.dtabB_ (h : Only ch u s) (v : List Byte) (m : .decode ∈ ch.parts) : Only ch u { s with dtabB := v } :=
  h.parts_of rfl rfl rfl rfl rfl rfl rfl fun p n => by cases p <;> simp [Part.same] <;> exact absurd m n
theorem Only.ctbaseSet_ (h : Only ch u s) (v : Bool) (m : .ctbase ∈ ch.parts) : Only ch u { s with ctbaseSet := v } :=
  h.parts_of rfl rfl rfl rfl rfl rfl rfl fun p n => by cases p <;> simp [Part.same] <;> exact absurd m n
theorem Only.drRush_ (h : Only ch u s) (v : Option Borrow) (m : .rush ∈ ch.parts) : Only ch u { s with drRush := v } :=
  h.parts_of rfl rfl rfl rfl rfl rfl rfl fun p n => by cases p <;> simp [Part.same] <;> exact absurd m n
theorem Only.moveStart_ (h : Only ch u s) (v : Nat) (m : .rush ∈ ch.parts) : Only ch u { s with moveStart := v } :=
  h.parts_of rfl rfl rfl rfl rfl rfl rfl fun p n => by cases p <;> simp [Part.same] <;> exact absurd m n
theorem Only.fgq_ (h : Only ch u s) (v : Tab Nat (List FabTok)) (m : .fabric ∈ ch.parts) : Only ch u { s with fgq := v } :=
  h.parts_of rfl rfl rfl rfl rfl rfl rfl fun p n => by cases p <;> simp [Part.same] <;> exact absurd m n
theorem Only.fabHoldTo_ (h : Only ch u s) (v : Option Nat) (m : .fabric ∈ ch.parts) : Only ch u { s with fabHoldTo := v } :=
  h.parts_of rfl rfl rfl rfl rfl rfl rfl fun p n => by cases p <;> simp [Part.same] <;> exact absurd m n
theorem Only.drainSeen_ (h : Only ch u s) (v : Bool) (m : .fabric ∈ ch.parts) : Only ch u { s with drainSeen := v } :=
  h.parts_of rfl rfl rfl rfl rfl rfl rfl fun p n => by cases p <;> simp [Part.same] <;> exact absurd m n
theorem Only.gwq_ (h : Only ch u s) (v : Tab Nat (List (Token × Nat))) (m : .gateway ∈ ch.parts) : Only ch u { s with gwq := v } :=
  h.parts_of rfl rfl rfl rfl rfl rfl rfl fun p n => by cases p <;> simp [Part.same] <;> exact absurd m n
theorem Only.gwAt_ (h : Only ch u s) (v : Tab Nat Nat) (m : .gateway ∈ ch.parts) : Only ch u { s with gwAt := v } :=
  h.parts_of rfl rfl rfl rfl rfl rfl rfl fun p n => by cases p <;> simp [Part.same] <;> exact absurd m n
theorem Only.pcount_ (h : Only ch u s) (v : Tab Nat (Nat × Nat)) (m : .pcount ∈ ch.parts) : Only ch u { s with pcount := v } :=
  h.parts_of rfl rfl rfl rfl rfl rfl rfl fun p n => by cases p <;> simp [Part.same] <;> exact absurd m n
theorem Only.ak_ (h : Only ch u s) (v : AkState) (m : .ak ∈ ch.parts) : Only ch u { s with ak := v } :=
  h.parts_of rfl rfl rfl rfl rfl rfl rfl fun p n => by cases p <;> simp [Part.same] <;> exact absurd m n
theorem Only.riari_ (h : Only ch u s) (v : Riari) (m : .riari ∈ ch.parts) : Only ch u { s with riari := v } :=
  h.parts_of rfl rfl rfl rfl rfl rfl rfl fun p n => by cases p <;> simp [Part.same] <;> exact absurd m n
theorem Only.hostp_ (h : Only ch u s) (v : HostPort) (m : .hostp ∈ ch.parts) : Only ch u { s with hostp := v } :=
  h.parts_of rfl rfl rfl rfl rfl rfl rfl fun p n => by cases p <;> simp [Part.same] <;> exact absurd m n
theorem Only.elec_ (h : Only ch u s) (v : Elec) (m : .elec ∈ ch.parts) : Only ch u { s with elec := v } :=
  h.parts_of rfl rfl rfl rfl rfl rfl rfl fun p n => by cases p <;> simp [Part.same] <;> exact absurd m n
theorem Only.out_ (h : Only ch u s) (v : List Out) (m : .out ∈ ch.parts) : Only ch u { s with out := v } :=
  h.parts_of rfl rfl rfl rfl rfl rfl rfl fun p n => by cases p <;> simp [Part.same] <;> exact absurd m n

/-! ### Register fields after an update -/

theorem State.fget_setReg_ne {f : Fld} {k : RegKind} {a i a' i' : Nat} (v : Word) (h : (f.kind, a', i') ≠ (k, a, i)) : (s.setReg k a i v).fget f a' i' = s.fget f a' i' := by
  unfold State.fget
  rw [State.reg_setReg_ne _ _ h]

theorem fget_raiseDev {f : Fld} (k a i : Nat) (h : f.kind ≠ .DPEND) : (s.raiseDev k).fget f a i = s.fget f a i :=
  State.fget_setReg_ne _ fun e => h (Prod.mk.inj e).1

theorem fget_raiseTile {f : Fld} (t k a i : Nat) (h : f.kind ≠ .IPEND) : (s.raiseTile t k).fget f a i = s.fget f a i :=
  State.fget_setReg_ne _ fun e => h (Prod.mk.inj e).1

theorem fget_emit {f : Fld} (o : Out) (a i : Nat) : (s.emit o).fget f a i = s.fget f a i := rfl

/-- The bit of an interrupt that was raised. -/
theorem raiseDev_bit (k : Nat) (h : k < 64) : ((s.raiseDev k).reg .DPEND 0 0).getLsbD k = true := by
  have e : k / 64 = 0 := by omega
  have e2 : k % 64 = k := by omega
  unfold State.raiseDev
  rw [e, State.reg_setReg_self, BitVec.getLsbD_or, e2]
  rw [show (wd (2 ^ k)).getLsbD k = true by unfold wd; rw [BitVec.getLsbD_ofNat]; simp [h]]
  exact Bool.or_true _

theorem raiseTile_bit (t k : Nat) (h : k < 64) : ((s.raiseTile t k).reg .IPEND t 0).getLsbD k = true := by
  have e : k / 64 = 0 := by omega
  have e2 : k % 64 = k := by omega
  unfold State.raiseTile
  rw [e, State.reg_setReg_self, BitVec.getLsbD_or, e2]
  rw [show (wd (2 ^ k)).getLsbD k = true by unfold wd; rw [BitVec.getLsbD_ofNat]; simp [h]]
  exact Bool.or_true _

/-- A counter field goes up by k, to its greatest value at most. -/
theorem fget_finc (s : State) (f : Fld) (a i k : Nat) (h : f.lo + f.len ≤ 64) : (s.finc f a i k).fget f a i = min (2 ^ f.len - 1) (s.fget f a i + k) := by
  unfold State.finc
  rw [State.fget_fset_self _ _ _ _ _ h, Nat.mod_eq_of_lt]
  have : 0 < 2 ^ f.len := Nat.two_pow_pos _
  omega

theorem fget_inc (s : State) (f : Fld) (a i : Nat) (h : f.lo + f.len ≤ 64) : (s.inc f a i).fget f a i = min (2 ^ f.len - 1) (s.fget f a i + 1) := fget_finc s f a i 1 h

theorem fget_finc_field {f f' : Fld} (a i n : Nat) (k : f'.kind = f.kind) (h : f.lo + f.len ≤ f'.lo ∨ f'.lo + f'.len ≤ f.lo) :
    (s.finc f a i n).fget f' a i = s.fget f' a i := State.fget_fset_field _ _ _ _ k h

theorem fget_finc_reg {f f' : Fld} {a i a' i' : Nat} (n : Nat) (h : (f'.kind, a', i') ≠ (f.kind, a, i)) : (s.finc f a i n).fget f' a' i' = s.fget f' a' i' :=
  State.fget_fset_reg _ _ h

theorem fget_inc_field {f f' : Fld} (a i : Nat) (k : f'.kind = f.kind) (h : f.lo + f.len ≤ f'.lo ∨ f'.lo + f'.len ≤ f.lo) :
    (s.inc f a i).fget f' a i = s.fget f' a i := State.fget_fset_field _ _ _ _ k h

theorem fget_inc_reg {f f' : Fld} {a i a' i' : Nat} (h : (f'.kind, a', i') ≠ (f.kind, a, i)) : (s.inc f a i).fget f' a' i' = s.fget f' a' i' :=
  State.fget_fset_reg _ _ h

/-- The same for a register of another kind. -/
theorem fget_fset_kind {f f' : Fld} {a i a' i' : Nat} (v : Nat) (h : f'.kind ≠ f.kind) : (s.fset f a i v).fget f' a' i' = s.fget f' a' i' :=
  State.fget_fset_reg _ _ fun e => h (Prod.mk.inj e).1

theorem fget_finc_kind {f f' : Fld} {a i a' i' : Nat} (n : Nat) (h : f'.kind ≠ f.kind) : (s.finc f a i n).fget f' a' i' = s.fget f' a' i' := fget_fset_kind _ h

theorem fget_inc_kind {f f' : Fld} {a i a' i' : Nat} (h : f'.kind ≠ f.kind) : (s.inc f a i).fget f' a' i' = s.fget f' a' i' := fget_fset_kind _ h

theorem fget_setReg_kind {f : Fld} {k : RegKind} {a i a' i' : Nat} (v : Word) (h : f.kind ≠ k) : (s.setReg k a i v).fget f a' i' = s.fget f a' i' :=
  State.fget_setReg_ne _ fun e => h (Prod.mk.inj e).1

theorem reg_fset_kind {f : Fld} {k : RegKind} {a i a' i' : Nat} (v : Nat) (h : k ≠ f.kind) : (s.fset f a i v).reg k a' i' = s.reg k a' i' :=
  State.reg_fset_ne _ _ fun e => h (Prod.mk.inj e).1

theorem reg_inc_kind {f : Fld} {k : RegKind} {a i a' i' : Nat} (h : k ≠ f.kind) : (s.inc f a i).reg k a' i' = s.reg k a' i' := reg_fset_kind _ h

end Sys2Proof.Machine
end

