-- ==== Sys2Proof/Laws/Frames.lean ====
section
/-! SUPPORT. What the shared operations on threads and tasks do, each once: wakes, the ready list, the ends of threads. -/
namespace Sys2Proof.Machine

variable {ch : Changes} {u s : State}

/-! ### Wakes and tasks -/

theorem Only.enterReady (h : Only ch u s) {t : Nat} {k : TaskK} {cls pri act : Nat} {tm : Option Nat} (m : t ∈ ch.tiles) (m2 : .stamp ∈ ch.parts) :
    Only ch u (s.enterReady t k cls pri act tm) := by
  unfold State.enterReady
  dsimp only
  split <;> exact (h.bump m2).onTile _ m

theorem enterReady_thr (s : State) (t : Nat) (k : TaskK) (cls pri act : Nat) (tm : Option Nat) (c n : Nat) : (s.enterReady t k cls pri act tm).thr c n = s.thr c n := by
  unfold State.enterReady
  dsimp only
  split <;> rfl

theorem enterReady_reg (s : State) (t : Nat) (k : TaskK) (cls pri act : Nat) (tm : Option Nat) (r : RegKind) (a i : Nat) :
    (s.enterReady t k cls pri act tm).reg r a i = s.reg r a i := by
  unfold State.enterReady
  dsimp only
  split <;> rfl

theorem Only.wake (h : Only ch u s) {c n : Nat} (r : WakeRes) (l : n < 16) (m : (c, n) ∈ ch.threads) (m1 : c ∈ ch.tiles) (m2 : .stamp ∈ ch.parts) :
    Only ch u (s.wake c n r) := by
  unfold State.wake
  dsimp only
  split
  · split
    · exact (h.setThr _ l m).enterReady m1 m2
    · exact h.setThr _ l m
  · exact h

/-- A thread that waits keeps what it gets; the others are left. -/
theorem wake_thr (s : State) (c n : Nat) (r : WakeRes) (d k : Nat) : (s.wake c n r).thr d k =
    if d * 16 + k = c * 16 + n ∧ ((s.thr c n).st = .wait ∨ (s.thr c n).st = .halted ∧ (s.thr c n).wasWait) ∧ (s.thr c n).wres = none
    then { s.thr c n with wres := some r } else s.thr d k := by
  unfold State.wake
  dsimp only
  by_cases hw : ((s.thr c n).st = .wait ∨ (s.thr c n).st = .halted ∧ (s.thr c n).wasWait = true) ∧ (s.thr c n).wres = none
  · rw [if_pos hw]
    by_cases e : d * 16 + k = c * 16 + n
    · have q : ∀ z : State, z.thr d k = z.thr c n := fun z => by unfold State.thr; rw [e]
      have r1 : ∀ (a b : Thread), (if d * 16 + k = c * 16 + n ∧ ((s.thr c n).st = .wait ∨ (s.thr c n).st = .halted ∧ (s.thr c n).wasWait = true) ∧ (s.thr c n).wres = none then a else b) = a :=
        fun a b => if_pos ⟨e, hw⟩
      rw [r1]
      split
      · rw [enterReady_thr, q, State.thr_setThr_self]
      · rw [q, State.thr_setThr_self]
    · have r1 : ∀ (a b : Thread), (if d * 16 + k = c * 16 + n ∧ ((s.thr c n).st = .wait ∨ (s.thr c n).st = .halted ∧ (s.thr c n).wasWait = true) ∧ (s.thr c n).wres = none then a else b) = b :=
        fun a b => if_neg fun h => e h.1
      rw [r1]
      split
      · rw [enterReady_thr, State.thr_setThr_ne _ _ e]
      · rw [State.thr_setThr_ne _ _ e]
  · rw [if_neg hw, if_neg fun h => hw h.2]

theorem wake_reg (s : State) (c n : Nat) (r : WakeRes) (k : RegKind) (a i : Nat) : (s.wake c n r).reg k a i = s.reg k a i := by
  unfold State.wake
  dsimp only
  split
  · split
    · rw [enterReady_reg]; rfl
    · rfl
  · rfl

theorem Only.dropTasks (h : Only ch u s) {c : Nat} (p : Task → Bool) (m : c ∈ ch.tiles) : Only ch u (s.dropTasks c p) := h.onTile _ m

/-! ### Ends of threads (05 R125) -/

theorem Only.leaveParent (h : Only ch u s) {c n : Nat} (l : (s.thr c n).parent < 16) (m : (c, (s.thr c n).parent) ∈ ch.threads) (m1 : c ∈ ch.tiles) (m2 : .stamp ∈ ch.parts) :
    Only ch u (s.leaveParent c n) := by
  unfold State.leaveParent
  dsimp only
  split
  · split
    · exact (h.setThr _ l m).wake _ l m m1 m2
    · exact h.setThr _ l m
  · exact h

theorem leaveParent_reg (s : State) (c n : Nat) (k : RegKind) (a i : Nat) : (s.leaveParent c n).reg k a i = s.reg k a i := by
  unfold State.leaveParent
  dsimp only
  split
  · split
    · rw [wake_reg]; rfl
    · rfl
  · rfl

theorem leaveParent_thr (s : State) (c n k : Nat) : (s.leaveParent c n).thr c k =
    if (s.thr c n).pvalid = true ∧ k = (s.thr c n).parent then (s.thr c (s.thr c n).parent).countedOut else s.thr c k := by
  unfold State.leaveParent
  dsimp only
  by_cases hp : (s.thr c n).pvalid = true
  · rw [if_pos hp]
    by_cases e : k = (s.thr c n).parent
    · refine Eq.trans ?_ (if_pos ⟨hp, e⟩).symm
      rw [← e]
      unfold Thread.countedOut
      dsimp only
      by_cases hj : (s.thr c k).jcnt = 1 ∧ (s.thr c k).wait = .join
      · rw [if_pos hj, wake_thr, State.thr_setThr_self]
        dsimp only
        by_cases hw : ((s.thr c k).st = .wait ∨ (s.thr c k).st = .halted ∧ (s.thr c k).wasWait = true) ∧ (s.thr c k).wres = none
        · exact (if_pos ⟨rfl, hw⟩).trans (if_pos ⟨hj.1, hj.2, hw⟩).symm
        · exact (if_neg fun h => hw h.2).trans (if_neg fun h => hw h.2.2).symm
      · rw [if_neg hj, State.thr_setThr_self]
        exact (if_neg fun h => hj ⟨h.1, h.2.1⟩).symm
    · refine Eq.trans ?_ (if_neg fun h => e h.2).symm
      have ne : c * 16 + k ≠ c * 16 + (s.thr c n).parent := by omega
      split
      · rw [wake_thr]
        exact (if_neg fun h => ne h.1).trans (State.thr_setThr_ne _ _ ne)
      · rw [State.thr_setThr_ne _ _ ne]
  · rw [if_neg hp]
    exact (if_neg fun h => hp h.1).symm

/-- Each child of thread n has its parent cleared. -/
theorem orphan_fold (c n : Nat) (l : List Nat) : ∀ (s : State), (∀ k ∈ l, k < 16) → l.Nodup → ∀ k,
    (((l.map fun k => (c, k)).foldl (fun s k => if (s.thr c k.2).pvalid ∧ (s.thr c k.2).parent = n then s.onThr c k.2 fun x => { x with pvalid := false } else s) s).thr c k =
      if k ∈ l ∧ (s.thr c k).pvalid = true ∧ (s.thr c k).parent = n then { s.thr c k with pvalid := false } else s.thr c k) := by
  induction l with
  | nil => intro s _ _ k; simp
  | cons a l ih =>
    intro s hb nd k
    have nd' := List.nodup_cons.1 nd
    rw [List.map_cons, List.foldl_cons, ih _ (fun k m => hb k (List.mem_cons_of_mem _ m)) nd'.2]
    dsimp only
    by_cases hk : k = a
    · subst hk
      rw [if_neg fun h => nd'.1 h.1]
      by_cases hc : (s.thr c k).pvalid = true ∧ (s.thr c k).parent = n
      · rw [if_pos hc, if_pos ⟨List.mem_cons_self .., hc⟩, State.onThr, State.thr_setThr_self]
      · rw [if_neg hc, if_neg fun h => hc h.2]
    · have ne : c * 16 + k ≠ c * 16 + a := by omega
      have e : (if (s.thr c a).pvalid = true ∧ (s.thr c a).parent = n then s.onThr c a fun x => { x with pvalid := false } else s).thr c k = s.thr c k := by
        split
        · rw [State.onThr, State.thr_setThr_ne _ _ ne]
        · rfl
      rw [e]
      have m : k ∈ a :: l ↔ k ∈ l := by simp [hk]
      simp only [m]

theorem orphanKids_thr (s : State) (c n : Nat) {k : Nat} (l : k < 16) : (s.orphanKids c n).thr c k =
    if (s.thr c k).pvalid = true ∧ (s.thr c k).parent = n then { s.thr c k with pvalid := false } else s.thr c k := by
  unfold State.orphanKids coreThreads
  rw [orphan_fold c n (List.range 16) s (fun k m => by simpa using m) List.nodup_range k]
  simp [l]

theorem Only.orphanKids (h : Only ch u s) {c n : Nat} (m : ∀ k < 16, (c, k) ∈ ch.threads) : Only ch u (s.orphanKids c n) := by
  unfold State.orphanKids coreThreads
  have key : ∀ (l : List Nat) (s : State), (∀ k ∈ l, k < 16) → Only ch u s →
      Only ch u ((l.map fun k => (c, k)).foldl (fun s k => if (s.thr c k.2).pvalid ∧ (s.thr c k.2).parent = n then s.onThr c k.2 fun x => { x with pvalid := false } else s) s) := by
    intro l
    induction l with
    | nil => intro s _ h; exact h
    | cons a l ih =>
      intro s hb h
      rw [List.map_cons, List.foldl_cons]
      refine ih _ (fun k q => hb k (List.mem_cons_of_mem _ q)) ?_
      dsimp only
      split
      · exact h.onThr _ (hb a (List.mem_cons_self ..)) (m a (hb a (List.mem_cons_self ..)))
      · exact h
  exact key _ s (fun k q => by simpa using q) h

theorem orphanKids_reg (s : State) (c n : Nat) (r : RegKind) (a i : Nat) : (s.orphanKids c n).reg r a i = s.reg r a i := by
  unfold State.orphanKids
  have key : ∀ (l : List (Nat × Nat)) (s : State), (l.foldl (fun s k => if (s.thr c k.2).pvalid ∧ (s.thr c k.2).parent = n then s.onThr c k.2 fun x => { x with pvalid := false } else s) s).reg r a i = s.reg r a i := by
    intro l
    induction l with
    | nil => intro s; rfl
    | cons b l ih =>
      intro s
      rw [List.foldl_cons, ih]
      split <;> rfl
  exact key _ s

/-- A thread that holds no channel releases none. -/
theorem releaseChans_none {s : State} {c n : Nat} (h : ∀ t q, s.fget F.QPTR_RESV t q = 1 → s.chanOwner t q ≠ (c % 64, n)) : s.releaseChans c n = s := by
  have : s.chansOf c n = [] := by
    unfold State.chansOf
    rw [List.filterMap_eq_nil_iff]
    intro p _
    rw [if_neg]
    rintro ⟨_, h1, h2⟩
    exact h _ _ h1 h2
  unfold State.releaseChans
  rw [this]
  rfl

/-- Nobody waits in FORK for a context. -/
theorem poolFreed_none {s : State} {c : Nat} (h : ∀ k < 16, waitsPool (s.thr c k) = false) : s.poolFreed c = s := by
  have : oldestWait s waitsPool (coreThreads c) = none := by
    unfold oldestWait
    have : (coreThreads c).filter (fun k => waitsPool (s.thr k.1 k.2)) = [] := by
      rw [List.filter_eq_nil_iff]
      intro k hk
      unfold coreThreads at hk
      obtain ⟨j, hj, rfl⟩ := List.mem_map.1 hk
      simpa using h j (by simpa using hj)
    rw [this]
    rfl
  unfold State.poolFreed
  rw [this]

theorem dropTasks_thr (s : State) (c : Nat) (p : Task → Bool) (d k : Nat) : (s.dropTasks c p).thr d k = s.thr d k := rfl

theorem dropTasks_reg (s : State) (c : Nat) (p : Task → Bool) (k : RegKind) (a i : Nat) : (s.dropTasks c p).reg k a i = s.reg k a i := rfl

theorem Thread.countedOut_keeps (x : Thread) : x.countedOut.st = x.st ∧ x.countedOut.wait = x.wait ∧ x.countedOut.lends = x.lends ∧ x.countedOut.jcnt = x.jcnt - 1 := by
  unfold Thread.countedOut
  dsimp only
  split <;> exact ⟨rfl, rfl, rfl, rfl⟩

theorem not_waitsPool {x : Thread} (h : ¬(x.st = .wait ∧ x.wait = .pool)) : waitsPool x = false := by
  unfold waitsPool
  by_cases h1 : x.st = .wait
  · have h2 : x.wait ≠ .pool := fun e => h ⟨h1, e⟩
    simp [h2]
  · simp [h1]

/-- The state in which thread p has started a child in context k. -/
theorem forkChild_eq {s : State} {c p k : Nat} (ne : c * 16 + p ≠ c * 16 + k) (t : Nat) (arg : Word) :
    s.forkChild c p k t arg = ((s.setThr c k (childOf (s.thr c p) p t arg (s.thr c k).lends s.now)).setReg .THND c k (s.reg .THND c p)).setThr c p { s.thr c p with jcnt := (s.thr c p).jcnt + 1 } := by
  unfold State.forkChild State.onThr
  dsimp only
  rw [State.thr_setReg, State.thr_setThr_ne _ _ ne]
  rfl

theorem freeThread_some {s : State} {c k : Nat} (hk : k < 16) (h : (s.thr c k).st = .free) (hl : ∀ j < k, (s.thr c j).st ≠ .free) : s.freeThread c = some k := by
  unfold State.freeThread
  rw [List.find?_range_eq_some]
  exact ⟨by simpa using h, by simpa using hk, fun j hj => by simpa using hl j hj⟩

theorem freeThread_none {s : State} {c : Nat} (h : ∀ k < 16, (s.thr c k).st ≠ .free) : s.freeThread c = none := by
  unfold State.freeThread
  rw [List.find?_eq_none]
  intro k hk
  simpa using h k (by simpa using hk)

theorem settle_wait_reg (s s' : State) (c n : Nat) (pre : Thread) (o : Ins) (occ : Nat) (w : WaitFor) (k : RegKind) (a i : Nat) :
    (s.settleRes c n pre o occ (.wait s' w)).reg k a i = s'.reg k a i := rfl

/-- A completed instruction changes no more of the state than its thread. -/
theorem Did.done_eq {u s r : State} {c n : Nat} {o : Ins} {y : Thread} {ch : Changes} (h : Did u s c n y ch) {pre : Thread} (occ : Nat)
    (hpre : pre.loads = []) (hst : y.st = .ready) (hl : Quiet y.loads) (hpc : (y.stepPc o.pc (o.pc + o.len)).pc ≤ 16383) :
    ∃ z, r.settleRes c n pre o occ (.done s) = s.setThr c n z := by
  have e1 : (s.thr c n).st = .ready := (congrArg Thread.st h.thread).trans hst
  have e2 : (s.thr c n).loads = y.loads := by have q := congrArg Thread.loads h.thread; exact q
  have e3 : ((s.thr c n).stepPc o.pc (o.pc + o.len)).bare = (y.stepPc o.pc (o.pc + o.len)).bare := by rw [stepPc_bare, h.thread, ← stepPc_bare]
  have e4 : ((s.thr c n).stepPc o.pc (o.pc + o.len)).pc ≤ 16383 := by have := congrArg Thread.pc e3; exact this ▸ hpc
  obtain ⟨z, hz, _⟩ := finish_advance occ o.pc (o.pc + o.len) e1 hpre (e2 ▸ hl) e4
  exact ⟨z, hz⟩

/-- A thread that waits, from what its instruction did before. -/
theorem Began.waits {u s s' : State} {c n : Nat} {o : Ins} {ch : Changes} (l : n < 16) (hd : Did u s' c n (u.thr c n) ch)
    (hq : s'.seqNo = u.seqNo) (hn : s'.now = u.now) (m : .stamp ∈ ch.parts) (pre : Thread) (occ : Nat) (w : WaitFor) :
    Issued u (s.settleRes c n pre o occ (.wait s' w)) c n ((u.thr c n).asleep w u.seqNo o.w (u.now + 8)) ch := by
  have := hd.wait l pre occ (o := o) w m
  rw [hq, hn] at this
  exact this

/-! ### Rows of strand instructions, by how they end -/

section
variable {f : Nat → CoreId → ThreadId → Instr} {op : Nat} {m : State → Nat → Nat → Ins → XRes} {z : State} {dt : Nat} {c : CoreId} {n : ThreadId} {o : Ins} {y : Thread}
  {P : State → Prop}

/-- An instruction that completes in sequence. -/
theorem IsRow.done (h : IsRow f op m) (t : Takes (z.advance dt) c.val n.val o) (hop : o.op = op)
    (hm : ∀ s1, Began (z.advance dt) s1 c.val n.val → ∃ s', m s1 c.val n.val o = .done s' ∧ Did (z.advance dt) s' c.val n.val y ch ∧ ∀ x, P (s'.setThr c.val n.val x))
    (hst : y.st = .ready) (hq : Quiet y.loads) (hpc : (y.stepPc o.pc (o.pc + o.len)).pc ≤ 16383) :
    ∃ t, exec (f dt c n) z = .next t ∧ InSequence (z.advance dt) t c.val n.val o y ch ∧ P t := by
  obtain ⟨s1, occ, hb, he⟩ := h.takes t hop
  obtain ⟨s', hx, hd, hp⟩ := hm s1 hb
  rw [hx] at he
  obtain ⟨x, hz⟩ := hd.done_eq (r := s1) (pre := s1.thr c.val n.val) occ (o := o) (hb.pre t) hst hq hpc
  exact ⟨_, he, hd.done n.isLt occ (o := o) (hb.pre t) hst hq hpc, by rw [hz]; exact hp x⟩

/-- An instruction that waits. -/
theorem IsRow.waits (h : IsRow f op m) (t : Takes (z.advance dt) c.val n.val o) (hop : o.op = op) {w : WaitFor} {q : Nat}
    (hm : ∀ s1, Began (z.advance dt) s1 c.val n.val → ∃ s', m s1 c.val n.val o = .wait s' w ∧ Did (z.advance dt) s' c.val n.val y ch ∧ s'.seqNo = q ∧ s'.now = (z.advance dt).now ∧
      ∀ x, P ((s'.bump).setThr c.val n.val x)) (ms : .stamp ∈ ch.parts) :
    ∃ t, exec (f dt c n) z = .next t ∧ Issued (z.advance dt) t c.val n.val (y.asleep w q o.w ((z.advance dt).now + 8)) ch ∧ P t := by
  obtain ⟨s1, occ, hb, he⟩ := h.takes t hop
  obtain ⟨s', hx, hd, hs, hn, hp⟩ := hm s1 hb
  rw [hx] at he
  have := hd.wait n.isLt (s1.thr c.val n.val) occ (o := o) w ms
  rw [hs, hn] at this
  exact ⟨_, he, this, hp _⟩

/-- An instruction that is held and tried again. -/
theorem IsRow.retries (h : IsRow f op m) (t : Takes (z.advance dt) c.val n.val o) (hop : o.op = op) {k : RetryKind}
    (hm : ∀ s1, Began (z.advance dt) s1 c.val n.val → ∃ s', m s1 c.val n.val o = .retry s' k ∧ Did (z.advance dt) s' c.val n.val y ch ∧ ∀ x, P (s'.setThr c.val n.val x)) :
    ∃ t, exec (f dt c n) z = .next t ∧ Issued (z.advance dt) t c.val n.val { y with retry := some k, retryAt := (z.advance dt).now + 8, iw := o.w } ch ∧ P t := by
  obtain ⟨s1, occ, hb, he⟩ := h.takes t hop
  obtain ⟨s', hx, hd, hp⟩ := hm s1 hb
  rw [hx] at he
  refine ⟨_, he, ⟨hd.only.setThr _ n.isLt (by simp [issueChanges, Changes.and]), hd.tile, ?_⟩, hp _⟩
  change ((s'.setThr c.val n.val _).thr c.val n.val).bare = _
  rw [State.thr_setThr_self, hb.now]
  change ({ (s'.thr c.val n.val).bare with retry := some k, retryAt := (z.advance dt).now + 8, iw := o.w } : Thread) = _
  rw [hd.thread]
  rfl
end

/-- A thread that only writes RD, from the state of its issue. -/
theorem Began.rd {u s : State} {c n : Nat} (h : Began u s c n) (rd : Nat) (v : Word) : ((s.thr c n).setW rd v).bare = ((u.thr c n).setW rd v).bare := by
  rw [Thread.setW_bare, h.bare, ← Thread.setW_bare]

theorem setW_ready {x : Thread} (h : x.st = .ready) (rd : Nat) (v : Word) : (x.setW rd v).st = .ready := (Thread.setW_st ..).trans h

theorem setW_quiet {x : Thread} (h : x.loads = []) (rd : Nat) (v : Word) : Quiet (x.setW rd v).loads := by
  rw [Thread.setW_loads, h]; exact quiet_nil

theorem Began.delay {u s : State} {c n : Nat} (h : Began u s c n) : (s.tile c).delay = (u.tile c).delay := by have q := congrArg Tile.delay h.tile; exact q
theorem Began.gens {u s : State} {c n : Nat} (h : Began u s c n) : (s.tile c).gens = (u.tile c).gens := by have q := congrArg Tile.gens h.tile; exact q
theorem Began.dmaq {u s : State} {c n : Nat} (h : Began u s c n) : (s.tile c).dma = (u.tile c).dma := by have q := congrArg Tile.dma h.tile; exact q
theorem Began.readyq {u s : State} {c n : Nat} (h : Began u s c n) : (s.tile c).ready = (u.tile c).ready := by have q := congrArg Tile.ready h.tile; exact q
theorem Began.c0q {u s : State} {c n : Nat} (h : Began u s c n) : (s.tile c).c0q = (u.tile c).c0q := by have q := congrArg Tile.c0q h.tile; exact q

end Sys2Proof.Machine
end

