-- ==== Sys2Proof/Laws/Access.lean ====
section
/-! SUPPORT. The memory accesses of threads: what a request leaves, and what issue leaves of the checks of an access. -/
namespace Sys2Proof.Machine

section
variable {u s : State} {c n : Nat}

theorem Began.part (h : Began u s c n) (p : Part) : p.same u s := h.only.parts p (fun m => nomatch m)

theorem Began.region (h : Began u s c n) (own : Option Nat) (a : Nat) : s.region own a = u.region own a := by
  unfold State.region State.dsize
  rw [h.fget 0 0 (by decide) (by decide) (by decide)]

theorem Began.bankMode (h : Began u s c n) (t b : Nat) : s.bankMode t b = u.bankMode t b := by
  unfold State.bankMode
  rw [h.fget _ _ (by decide) (by decide) (by decide), h.reg _ _ (by decide) (by decide) (by decide)]

theorem Began.badWord (h : Began u s c n) (a k : Nat) : s.badWord a k = u.badWord a k := by
  unfold State.badWord
  have q := h.part .ecc
  simp only [Part.same] at q
  rw [q]

theorem Began.inReel (h : Began u s c n) (a k : Nat) : s.inReel a k = u.inReel a k := by
  unfold State.inReel
  have q := h.part .riari
  simp only [Part.same] at q
  rw [q]

theorem Began.inCtxTable (h : Began u s c n) (a k : Nat) : s.inCtxTable a k = u.inCtxTable a k := by
  unfold State.inCtxTable
  have q := h.part .ctbase
  simp only [Part.same] at q
  rw [q, h.fget _ _ (by decide) (by decide) (by decide)]

theorem Began.accessFault (h : Began u s c n) (who : Req) (a k : Nat) (w : Bool) : s.accessFault who a k w = u.accessFault who a k w := by
  unfold State.accessFault State.dsize
  simp only [h.region, h.bankMode, h.badWord, h.inReel, h.inCtxTable]
  rw [h.fget (f := F.DRSTAT_DSIZE) _ _ (by decide) (by decide) (by decide), h.fget (f := F.RDCFG_EN) _ _ (by decide) (by decide) (by decide),
    h.fget (f := F.RDCFG_SHBASE) _ _ (by decide) (by decide) (by decide)]

theorem Began.ct (h : Began u s c n) : (s.thr c n).ct = (u.thr c n).ct := by rw [h.thread]; rfl

theorem Began.thrFault (h : Began u s c n) (a k : Nat) (op : MemOp) : s.thrFault c n a k op = u.thrFault c n a k op := by
  unfold State.thrFault State.ctFault
  simp only [h.ct, h.region, h.bankMode, h.accessFault]

theorem Began.isMemory (h : Began u s c n) (d a : Nat) : s.isMemory d a = u.isMemory d a := by
  unfold State.isMemory
  rw [h.region]

theorem Began.partsOf (h : Began u s c n) (own : Option Nat) (a k : Nat) : s.partsOf own a k = u.partsOf own a k := by
  unfold State.partsOf
  rw [h.region]

theorem near_isMemory {a : Nat} (h : u.near (reqTile (.thread c n)) a = true) : u.isMemory c a = true := by
  unfold State.near at h
  unfold State.isMemory
  have e : reqTile (thrReq c 0) = reqTile (.thread c n) := rfl
  rw [e]
  cases hr : u.region (reqTile (.thread c n)) a <;> rw [hr] at h <;> first | rfl | cases h

/-- A request that stays on the tile or goes to the memory controller or the mailbox. -/
theorem startReq_near {s : State} {m : MemReq} (h : s.near (reqTile m.who) m.addr = true) :
    ∃ b d q, s.startReq m = .sent { s with bankReqs := b, drq := d, mbxq := q } ∧ Asked s { s with bankReqs := b, drq := d, mbxq := q } m := by
  unfold State.near at h
  unfold State.startReq Asked
  cases hr : s.region (reqTile m.who) m.addr with
  | spad t o =>
    simp only [hr] at h ⊢
    rw [if_pos (of_decide_eq_true h)]
    exact ⟨_, s.drq, s.mbxq, rfl, rfl, rfl, rfl⟩
  | dram o =>
    simp only [hr] at h ⊢
    exact ⟨s.bankReqs, _, s.mbxq, rfl, rfl, rfl, rfl⟩
  | mailbox o =>
    simp only [hr] at h ⊢
    exact ⟨s.bankReqs, s.drq, _, rfl, rfl, rfl, rfl⟩
  | _ => simp only [hr] at h; cases h

/-- A thread with the cycle of its issue recorded. -/
def Thread.issuedAt (x : Thread) (j : Nat) : Thread := { x with lastIss := j, chanLost := false }

theorem issuedAt_setW (x : Thread) (j r : Nat) (v : Word) : (x.issuedAt j).setW r v = (x.setW r v).issuedAt j := by
  unfold Thread.setW
  split <;> rfl

theorem ea_thread (o : Ins) (x : Thread) (d k : Nat) : (o.ea x d k).2.st = x.st ∧ (o.ea x d k).2.loads = x.loads ∧ (o.ea x d k).2.outst = x.outst := by
  unfold Ins.ea
  dsimp only
  split <;> simp

/-- The effective address does not see the issue. -/
theorem ea_issuedAt (o : Ins) (x : Thread) (d k j : Nat) : o.ea (x.issuedAt j) d k = ((o.ea x d k).1, (o.ea x d k).2.issuedAt j) := by
  unfold Ins.ea
  dsimp only
  have hg : ∀ r, (x.issuedAt j).getW r = x.getW r := fun _ => rfl
  simp only [hg, issuedAt_setW]
  split <;> rfl

theorem Began.issuedAt (h : Began u s c n) : s.thr c n = (u.thr c n).issuedAt u.now := h.thread

end
end Sys2Proof.Machine
end

