-- ==== Sys2Proof/Laws/Alu.lean ====
section
/-! SUPPORT. The integer operations of the model are the arithmetic of Safety.lean on bit vectors. -/
namespace Sys2Proof.Machine

theorem sval_eq (w n : Nat) (hw : 0 < w) : sval w n = (BitVec.ofNat w n).toInt := by
  unfold sval
  rw [BitVec.toInt_eq_toNat_cond, BitVec.toNat_ofNat]
  have h2 : 2 ^ w = 2 * 2 ^ (w - 1) := by
    rw [← Nat.pow_succ', Nat.succ_eq_add_one, Nat.sub_add_cancel hw]
  split <;> split <;> first | rfl | omega

theorem trunc_eq (w : Nat) (z : Int) : trunc w z = (BitVec.ofInt w z).toNat := by
  unfold trunc
  rw [BitVec.toNat_ofInt]

theorem sext64_eq (w n : Nat) (hw : 0 < w) : sext64 w n = (BitVec.ofNat w n).signExtend 64 := by
  unfold sext64 wd
  rw [trunc_eq, BitVec.ofNat_toNat, sval_eq w n hw]
  simp [BitVec.signExtend]

theorem iresW_eq (w r : Nat) (hw : 0 < w) (hr : r < 2 ^ w) (c v : Option Bool) : iresW w r c v = resOf (BitVec.ofNat w r) c v := by
  unfold iresW resOf
  rw [sext64_eq w r hw]
  simp only [IRes.mk.injEq, Option.some.injEq, true_and, and_true]
  constructor
  · rw [BitVec.msb_eq_getLsbD_last, BitVec.getLsbD_ofNat]; simp; omega
  · rw [Nat.mod_eq_of_lt hr]
    rw [Bool.eq_iff_iff]
    simp only [decide_eq_true_eq, beq_iff_eq]
    constructor
    · intro h; subst h; rfl
    · intro h; have := congrArg BitVec.toNat h; simpa [Nat.mod_eq_of_lt hr] using this

theorem outside_eq (w : Nat) (x : Int) (r : BitVec w) (hw : 0 < w) (hr : r = BitVec.ofInt w x) : outside w x = decide (r.toInt ≠ x) := by
  subst hr
  unfold outside
  have h2 : 2 ^ w = 2 * 2 ^ (w - 1) := by
    rw [← Nat.pow_succ', Nat.succ_eq_add_one, Nat.sub_add_cancel hw]
  rw [Bool.eq_iff_iff]
  simp only [Bool.or_eq_true, decide_eq_true_eq, BitVec.toInt_ofInt, ne_eq]
  rw [Int.bmod_def]
  rw [h2]
  have hp : 0 < 2 ^ (w - 1) := Nat.two_pow_pos _
  generalize 2 ^ (w - 1) = M at *
  have hc : ((2 * M : Nat) : Int) = 2 * (M : Int) := by omega
  rw [hc]
  have q1 : x % (2 * (M:Int)) < 2 * M := Int.emod_lt_of_pos _ (by omega)
  have q2 : 0 ≤ x % (2 * (M:Int)) := Int.emod_nonneg _ (by omega)
  have q3 := Int.mul_ediv_add_emod x (2 * (M:Int))
  generalize x % (2 * (M:Int)) = e at *
  constructor
  · intro h
    split <;> omega
  · intro h
    by_cases g : x < -(M:Int)
    · exact Or.inl g
    · by_cases g2 : (M:Int) ≤ x
      · exact Or.inr g2
      · exfalso
        apply h
        generalize x / (2 * (M:Int)) = d at *
        have hd : d = 0 ∨ d = -1 := by
          rcases Int.lt_trichotomy d 0 with k | k | k
          · right
            rcases Int.lt_or_eq_of_le (show d ≤ -1 by omega) with k2 | k2
            · exfalso
              have : 2 * (M:Int) * d ≤ 2 * M * (-2) := Int.mul_le_mul_of_nonneg_left (by omega) (by omega)
              omega
            · exact k2
          · left; exact k
          · exfalso
            have : 2 * (M:Int) * 1 ≤ 2 * M * d := Int.mul_le_mul_of_nonneg_left (by omega) (by omega)
            omega
        rcases hd with k | k <;> subst k <;> split <;> omega

theorem addOp_eq {w : Nat} (hw : 1 < w) (a b : Nat) (k : Bool) : addOp w a b (b2n k) = sumSpec (BitVec.ofNat w a) (BitVec.ofNat w b) k := by
  unfold addOp sumSpec
  have hk : b2n k = k.toNat := by cases k <;> rfl
  simp only []
  rw [iresW_eq w _ (by omega) (Nat.mod_lt _ (Nat.two_pow_pos w)), hk]
  have hr : BitVec.ofNat w ((a % 2 ^ w + b % 2 ^ w + k.toNat) % 2 ^ w) = BitVec.ofNat w a + BitVec.ofNat w b + BitVec.ofNat w k.toNat := by
    apply BitVec.eq_of_toNat_eq; simp [BitVec.toNat_add, Nat.add_mod]
  rw [hr]
  congr 2
  rw [outside_eq w _ (BitVec.ofNat w a + BitVec.ofNat w b + BitVec.ofNat w k.toNat) (by omega)]
  · rw [sval_eq w _ (by omega), sval_eq w _ (by omega)]
    have : ∀ x, BitVec.ofNat w (x % 2 ^ w) = BitVec.ofNat w x := by intro x; apply BitVec.eq_of_toNat_eq; simp
    rw [this, this]
  · rw [sval_eq w _ (by omega), sval_eq w _ (by omega)]
    have : ∀ x, BitVec.ofNat w (x % 2 ^ w) = BitVec.ofNat w x := by intro x; apply BitVec.eq_of_toNat_eq; simp
    rw [this, this, BitVec.ofInt_add, BitVec.ofInt_add, BitVec.ofInt_toInt, BitVec.ofInt_toInt]; simp

theorem ofInt_sub_eq (w : Nat) (x y : Int) : BitVec.ofInt w (x - y) = BitVec.ofInt w x - BitVec.ofInt w y := by
  apply BitVec.eq_of_toInt_eq
  simp [BitVec.toInt_sub]

theorem subOp_eq {w : Nat} (hw : 1 < w) (a b : Nat) (k : Bool) : subOp w a b (b2n k) = diffSpec (BitVec.ofNat w a) (BitVec.ofNat w b) k := by
  unfold subOp diffSpec
  have hk : b2n k = k.toNat := by cases k <;> rfl
  have hm : ∀ x, BitVec.ofNat w (x % 2 ^ w) = BitVec.ofNat w x := by intro x; apply BitVec.eq_of_toNat_eq; simp
  simp only []
  rw [iresW_eq w _ (by omega) (by rw [trunc_eq]; exact BitVec.isLt _), hk]
  have hr : BitVec.ofNat w (trunc w (((a % 2 ^ w : Nat) : Int) - ((b % 2 ^ w : Nat) : Int) - k.toNat)) = BitVec.ofNat w a - BitVec.ofNat w b - BitVec.ofNat w k.toNat := by
    rw [trunc_eq, BitVec.ofNat_toNat, BitVec.setWidth_eq, ofInt_sub_eq, ofInt_sub_eq]
    simp only [BitVec.ofInt_natCast, hm]
  rw [hr]
  unfold resOf
  simp only [IRes.mk.injEq, Option.some.injEq, true_and, and_true]
  constructor
  · simp
  · rw [outside_eq w _ (BitVec.ofNat w a - BitVec.ofNat w b - BitVec.ofNat w k.toNat) (by omega)]
    · rw [sval_eq w _ (by omega), sval_eq w _ (by omega), hm, hm]
    · rw [sval_eq w _ (by omega), sval_eq w _ (by omega), hm, hm, ofInt_sub_eq, ofInt_sub_eq, BitVec.ofInt_toInt, BitVec.ofInt_toInt]; simp

theorem toInt_div_bmod {w : Nat} (x : BitVec w) (k : Nat) (hk : 0 < k) : (x.toInt / (k : Int)).bmod (2 ^ w) = x.toInt / (k : Int) := by
  cases w with
  | zero => simp [BitVec.toInt_zero_length, BitVec.of_length_zero, Int.bmod_def]
  | succ w =>
    have h1 := BitVec.toInt_lt (x := x)
    have h2 := BitVec.le_toInt x
    have hp : (2:Int) ^ (w + 1) = 2 * 2 ^ w := by rw [Int.pow_succ]; omega
    simp only [Nat.add_sub_cancel] at h1 h2
    have e1 : -(2:Int) ^ w ≤ x.toInt / (k : Int) := by
      rw [Int.le_ediv_iff_mul_le (by omega)]
      have q : 0 < (2:Int)^w := Int.pow_pos (by omega)
      have : -(2:Int) ^ w * k ≤ -(2:Int)^w * 1 := Int.mul_le_mul_of_nonpos_left (by omega) (by omega)
      omega
    have e2 : x.toInt / (k : Int) < (2:Int) ^ w := by
      rw [Int.ediv_lt_iff_lt_mul (by omega)]
      have q : 0 < (2:Int)^w := Int.pow_pos (by omega)
      have : (2:Int) ^ w * 1 ≤ (2:Int)^w * k := Int.mul_le_mul_of_nonneg_left (by omega) (by omega)
      omega
    apply Int.bmod_eq_of_le <;> simp <;> omega

theorem rotateRight_toNat {w : Nat} (x : BitVec w) (k : Nat) (hk : k < w) :
    (x.rotateRight k).toNat = (x.toNat / 2 ^ k + x.toNat * 2 ^ (w - k)) % 2 ^ w := by
  apply Nat.eq_of_testBit_eq
  intro i
  have hx := x.isLt
  have hlt : x.toNat / 2 ^ k < 2 ^ (w - k) := by
    rw [Nat.div_lt_iff_lt_mul (Nat.two_pow_pos k), ← Nat.pow_add, Nat.sub_add_cancel (Nat.le_of_lt hk)]; exact hx
  rw [Nat.testBit_mod_two_pow, Nat.add_comm, Nat.mul_comm, Nat.testBit_two_pow_mul_add _ hlt, Nat.testBit_div_two_pow]
  have : (x.rotateRight k).toNat.testBit i = (x.rotateRight k).getLsbD i := rfl
  rw [this, BitVec.getLsbD_rotateRight, Nat.mod_eq_of_lt hk]
  by_cases h : i < w - k
  · have : i < w := by omega
    simp [h, this, Nat.add_comm, BitVec.getLsbD]
  · simp [h, BitVec.getLsbD]

theorem shiftOp_lsl {w : Nat} (hw : 1 < w) (a s : Nat) : shiftOp w 0 a s = lslSpec (BitVec.ofNat w a) s := by
  have hp : 0 < 2 ^ w := Nat.two_pow_pos w
  have hm : ∀ x, BitVec.ofNat w (x % 2 ^ w) = BitVec.ofNat w x := by intro x; apply BitVec.eq_of_toNat_eq; simp
  have hb : ∀ k, (a % 2 ^ w).testBit k = (BitVec.ofNat w a).getLsbD k := by intro k; rw [BitVec.getLsbD_ofNat, Nat.testBit_mod_two_pow]
  have hmsb : (a % 2 ^ w).testBit (w - 1) = (BitVec.ofNat w a).msb := by rw [hb, BitVec.msb_eq_getLsbD_last]
  have hdiv : ∀ k, a % 2 ^ w / 2 ^ k < 2 ^ w := fun k => Nat.lt_of_le_of_lt (Nat.div_le_self _ _) (Nat.mod_lt _ hp)
  change iresW w (if s < w then a % 2 ^ w * 2 ^ s % 2 ^ w else 0) (lslC w (a % 2 ^ w) s) none = _
  unfold lslSpec
  rw [iresW_eq w _ (by omega) (by split <;> first | exact Nat.mod_lt _ hp | exact hp)]
  congr 1
  · apply BitVec.eq_of_toNat_eq
    by_cases h : s < w
    · simp [h, BitVec.toNat_shiftLeft, Nat.shiftLeft_eq]
    · have : BitVec.ofNat w a <<< s = 0 := by apply BitVec.shiftLeft_eq_zero; omega
      simp [h, this]
  · unfold lslC
    by_cases h0 : s = 0
    · simp [h0]
    · by_cases h1 : s < w
      · simp [h0, h1, hb, Nat.le_of_lt h1]
      · by_cases h2 : s = w
        · subst h2; simp [h0, hb]
        · have : ¬ s ≤ w := by omega
          simp [h0, h1, h2, this]

theorem shiftOp_lsr {w : Nat} (hw : 1 < w) (a s : Nat) : shiftOp w 1 a s = lsrSpec (BitVec.ofNat w a) s := by
  have hp : 0 < 2 ^ w := Nat.two_pow_pos w
  have hm : ∀ x, BitVec.ofNat w (x % 2 ^ w) = BitVec.ofNat w x := by intro x; apply BitVec.eq_of_toNat_eq; simp
  have hb : ∀ k, (a % 2 ^ w).testBit k = (BitVec.ofNat w a).getLsbD k := by intro k; rw [BitVec.getLsbD_ofNat, Nat.testBit_mod_two_pow]
  have hmsb : (a % 2 ^ w).testBit (w - 1) = (BitVec.ofNat w a).msb := by rw [hb, BitVec.msb_eq_getLsbD_last]
  have hdiv : ∀ k, a % 2 ^ w / 2 ^ k < 2 ^ w := fun k => Nat.lt_of_le_of_lt (Nat.div_le_self _ _) (Nat.mod_lt _ hp)
  change iresW w (if s < w then a % 2 ^ w / 2 ^ s else 0)
    (if s = 0 then none else if s < w then some ((a % 2 ^ w).testBit (s - 1)) else if s = w then some ((a % 2 ^ w).testBit (w - 1)) else some false) none = _
  unfold lsrSpec
  rw [iresW_eq w _ (by omega) (by split <;> first | exact hdiv _ | exact hp)]
  congr 1
  · apply BitVec.eq_of_toNat_eq
    by_cases h : s < w
    · simp [h, Nat.shiftRight_eq_div_pow, Nat.mod_eq_of_lt (hdiv s)]
    · have : BitVec.ofNat w a >>> s = 0 := by apply BitVec.ushiftRight_eq_zero; omega
      simp [h, this]
  · by_cases h0 : s = 0
    · simp [h0]
    · by_cases h1 : s < w
      · simp [h0, h1, hb]
      · by_cases h2 : s = w
        · subst h2; simp [h0, hb]
        · have : (BitVec.ofNat w a).getLsbD (s - 1) = false := BitVec.getLsbD_of_ge _ _ (by omega)
          simp [h0, h1, h2, this]

theorem shiftOp_asr {w : Nat} (hw : 1 < w) (a s : Nat) : shiftOp w 2 a s = asrSpec (BitVec.ofNat w a) s := by
  have hp : 0 < 2 ^ w := Nat.two_pow_pos w
  have hm : ∀ x, BitVec.ofNat w (x % 2 ^ w) = BitVec.ofNat w x := by intro x; apply BitVec.eq_of_toNat_eq; simp
  have hb : ∀ k, (a % 2 ^ w).testBit k = (BitVec.ofNat w a).getLsbD k := by intro k; rw [BitVec.getLsbD_ofNat, Nat.testBit_mod_two_pow]
  have hmsb : (a % 2 ^ w).testBit (w - 1) = (BitVec.ofNat w a).msb := by rw [hb, BitVec.msb_eq_getLsbD_last]
  have hdiv : ∀ k, a % 2 ^ w / 2 ^ k < 2 ^ w := fun k => Nat.lt_of_le_of_lt (Nat.div_le_self _ _) (Nat.mod_lt _ hp)
  change iresW w (if s < w then trunc w (sval w (a % 2 ^ w) / ((2 ^ s : Nat) : Int)) else if (a % 2 ^ w).testBit (w - 1) = true then 2 ^ w - 1 else 0)
    (if s = 0 then none else if s < w then some ((a % 2 ^ w).testBit (s - 1)) else some ((a % 2 ^ w).testBit (w - 1))) none = _
  unfold asrSpec
  rw [iresW_eq w _ (by omega)]
  · congr 1
    · by_cases h : s < w
      · rw [if_pos h, trunc_eq, BitVec.ofNat_toNat, BitVec.setWidth_eq, sval_eq w _ (by omega), hm]
        apply BitVec.eq_of_toInt_eq
        rw [BitVec.toInt_sshiftRight, BitVec.toInt_ofInt, Int.shiftRight_eq_div_pow]
        exact (toInt_div_bmod _ (2 ^ s) (Nat.two_pow_pos s))
      · rw [if_neg h, hmsb]
        apply BitVec.eq_of_getLsbD_eq
        intro i hi
        rw [BitVec.getLsbD_sshiftRight]
        have g : ¬ s + i < w := by omega
        cases (BitVec.ofNat w a).msb
        · simp [g]
        · rw [if_pos rfl, BitVec.getLsbD_ofNat, Nat.testBit_two_pow_sub_one]; simp [g, hi]
    · by_cases h0 : s = 0
      · simp [h0]
      · by_cases h1 : s < w
        · simp [h0, h1, hb, Nat.le_of_lt h1]
        · by_cases h2 : s = w
          · subst h2; simp [h0, hb]
          · have : ¬ s ≤ w := by omega
            simp [h0, h1, this, hmsb]
  · split
    · rw [trunc_eq]; exact BitVec.isLt _
    · split <;> omega

theorem shiftOp_ror {w : Nat} (hw : 1 < w) (a s : Nat) : shiftOp w 3 a s = rorSpec (BitVec.ofNat w a) s := by
  have hp : 0 < 2 ^ w := Nat.two_pow_pos w
  have hm : ∀ x, BitVec.ofNat w (x % 2 ^ w) = BitVec.ofNat w x := by intro x; apply BitVec.eq_of_toNat_eq; simp
  have hb : ∀ k, (a % 2 ^ w).testBit k = (BitVec.ofNat w a).getLsbD k := by intro k; rw [BitVec.getLsbD_ofNat, Nat.testBit_mod_two_pow]
  have hmsb : (a % 2 ^ w).testBit (w - 1) = (BitVec.ofNat w a).msb := by rw [hb, BitVec.msb_eq_getLsbD_last]
  have hdiv : ∀ k, a % 2 ^ w / 2 ^ k < 2 ^ w := fun k => Nat.lt_of_le_of_lt (Nat.div_le_self _ _) (Nat.mod_lt _ hp)
  change iresW w ((a % 2 ^ w / 2 ^ (s % w) + a % 2 ^ w * 2 ^ (w - s % w)) % 2 ^ w)
    (if s = 0 then none else some (((a % 2 ^ w / 2 ^ (s % w) + a % 2 ^ w * 2 ^ (w - s % w)) % 2 ^ w).testBit (w - 1))) none = _
  unfold rorSpec
  rw [iresW_eq w _ (by omega) (Nat.mod_lt _ hp)]
  have hr : BitVec.ofNat w ((a % 2 ^ w / 2 ^ (s % w) + a % 2 ^ w * 2 ^ (w - s % w)) % 2 ^ w) = (BitVec.ofNat w a).rotateRight (s % w) := by
    apply BitVec.eq_of_toNat_eq
    rw [rotateRight_toNat _ _ (Nat.mod_lt _ (by omega))]
    simp
  rw [hr]
  by_cases h0 : s = 0
  · rw [if_pos h0, if_pos h0]
  · rw [if_neg h0, if_neg h0]
    congr 2
    rw [← hr, BitVec.msb_eq_getLsbD_last, BitVec.getLsbD_ofNat]
    simp

theorem sgn_eq (a : Word) : sgn a = a.toInt := by
  unfold sgn; rw [sval_eq 64 _ (by omega)]; simp

theorem logic_eq (d : Word) : logic d = bitsSpec d := by
  unfold logic bitsSpec; rw [iresW_eq 64 _ (by omega) d.isLt]; simp

theorem trapV_eq (r : IRes) (h : r.fault = none) : r.trapV = trapOnV r := by
  unfold IRes.trapV trapOnV
  by_cases g : r.v = some true
  · rw [if_pos g, if_pos g]
  · rw [if_neg g, if_neg g, ← h]

theorem clz_eq (a : Word) : wd (64 - bitLen a.toNat) = a.clz := by
  apply BitVec.eq_of_toNat_eq
  have h1 := BitVec.toNat_lt_two_pow_sub_clz (x := a)
  have h3 : a.clz.toNat ≤ 64 := by have := @BitVec.clz_le 64 a; simpa [BitVec.le_def] using this
  unfold wd bitLen
  by_cases h : a = 0
  · subst h; decide
  · have hn : a.toNat ≠ 0 := fun e => h (BitVec.eq_of_toNat_eq e)
    have h2 := BitVec.two_pow_sub_clz_le_toNat_of_ne_zero (x := a) (by omega) h
    rw [if_neg hn, BitVec.toNat_ofNat]
    have l1 : Nat.log2 a.toNat < 64 - a.clz.toNat := (Nat.log2_lt hn).2 h1
    have l2 : 64 - 1 - a.clz.toNat ≤ Nat.log2 a.toNat := (Nat.le_log2 hn).2 h2
    omega

theorem lowBit_spec (m : Nat) (n : Nat) : (∀ i, i < lowBit m n → m.testBit i = false) ∧ lowBit m n ≤ n ∧ (lowBit m n < n → m.testBit (lowBit m n) = true) := by
  induction n generalizing m with
  | zero => simp [lowBit]
  | succ n ih =>
    unfold lowBit
    split
    · rename_i h; simp [Nat.testBit_zero, h]
    · rename_i h
      obtain ⟨h1, h2, h3⟩ := ih (m / 2)
      refine ⟨?_, by omega, ?_⟩
      · intro i hi
        cases i with
        | zero => simp [Nat.testBit_zero, h]
        | succ i => rw [Nat.testBit_succ]; exact h1 i (by omega)
      · intro hl
        rw [Nat.add_comm, Nat.testBit_succ]; exact h3 (by omega)

set_option maxRecDepth 10000 in
theorem ctz_eq (a : Word) : wd (lowBit a.toNat 64) = a.ctz := by
  apply BitVec.eq_of_toNat_eq
  by_cases h : a = 0
  · subst h; decide
  · obtain ⟨h1, h2, h3⟩ := lowBit_spec a.toNat 64
    have c1 : a.getLsbD a.ctz.toNat = true := BitVec.getLsbD_true_ctz_of_ne_zero h
    have c2 : a.ctz.toNat < 64 := by
      have := BitVec.ctz_lt_iff_ne_zero.2 h
      simpa [BitVec.lt_def] using this
    rw [wd, BitVec.toNat_ofNat, Nat.mod_eq_of_lt (by omega)]
    rcases Nat.lt_trichotomy (lowBit a.toNat 64) a.ctz.toNat with k | k | k
    · have := BitVec.getLsbD_false_of_lt_ctz (x := a) k
      have t := h3 (by omega)
      simp [BitVec.getLsbD] at this
      rw [t] at this; cases this
    · exact k
    · have := h1 _ k
      simp [BitVec.getLsbD] at c1
      rw [c1] at this; cases this

theorem cpop_ones (a : Word) (n acc : Nat) : a.cpopNatRec n acc = acc + ones a.toNat n := by
  induction n generalizing acc with
  | zero => simp [ones]
  | succ n ih =>
    rw [BitVec.cpopNatRec_succ, ih]
    have hs : ones a.toNat (n + 1) = ones a.toNat n + b2n (a.toNat.testBit n) := rfl
    rw [hs]
    have : (a.getLsbD n).toNat = b2n (a.toNat.testBit n) := by simp only [BitVec.getLsbD]; cases a.toNat.testBit n <;> rfl
    rw [this]
    omega

theorem popc_eq (a : Word) : wd (ones a.toNat 64) = a.cpop := by
  unfold BitVec.cpop wd
  rw [cpop_ones, Nat.zero_add]

theorem append_toNat {n m : Nat} (x : BitVec n) (y : BitVec m) : (x ++ y).toNat = x.toNat * 2 ^ m + y.toNat := by
  rw [BitVec.toNat_append, ← Nat.shiftLeft_add_eq_or_of_lt y.isLt, Nat.shiftLeft_eq]

theorem bswap_eq (a : Word) : wd (ofBytes (toBytes 8 a.toNat).reverse) = swapSpec a := by
  apply BitVec.eq_of_toNat_eq
  unfold swapSpec
  simp only [append_toNat, BitVec.extractLsb'_toNat, Nat.shiftRight_eq_div_pow]
  simp only [toBytes, List.reverse_cons, List.reverse_nil, List.nil_append, List.cons_append, ofBytes, BitVec.toNat_ofNat, wd, Nat.div_div_eq_div_mul]
  simp only [Nat.reducePow, Nat.reduceMul, Nat.pow_zero, Nat.div_one]
  have l : ∀ x : Nat, x % 256 < 256 := fun x => Nat.mod_lt _ (by decide)
  have h0 := l a.toNat
  have h1 := l (a.toNat / 256)
  have h2 := l (a.toNat / 65536)
  have h3 := l (a.toNat / 16777216)
  have h4 := l (a.toNat / 4294967296)
  have h5 := l (a.toNat / 1099511627776)
  have h6 := l (a.toNat / 281474976710656)
  have h7 := l (a.toNat / 72057594037927936)
  have sw : ∀ x y : Nat, x + 256 * y = y * 256 + x := by omega
  have st : ∀ (k x q : Nat), x < k → q < 256 → x * 256 + q < k * 256 := by omega
  simp only [sw]
  exact Nat.mod_eq_of_lt (st 72057594037927936 _ _ (st 281474976710656 _ _ (st 1099511627776 _ _ (st 4294967296 _ _ (st 16777216 _ _ (st 65536 _ _ (st 256 _ _ h0 h1) h2) h3) h4) h5) h6) h7)

theorem fieldSel_eq (k : Nat) : fieldSel k = fieldSpec k := by
  unfold fieldSel fieldSpec bits
  simp only [Nat.pow_zero, Nat.div_one]
  by_cases h : k % 64 + k / 64 % 64 + 1 ≤ 64
  · rw [if_pos h, if_neg (by omega)]; rfl
  · rw [if_neg h, if_pos (by omega)]

theorem insOp_eq (a c : Word) (k : Nat) : insOp a c k = match fieldSpec k with | some p => bitsSpec (insSpec c a p.1 p.2) | none => ifault 2 := by
  unfold insOp
  rw [fieldSel_eq]
  cases h : fieldSpec k with
  | none => rfl
  | some p =>
    obtain ⟨pos, len⟩ := p
    refine (logic_eq _).trans ?_
    congr 1
    apply BitVec.eq_of_getLsbD_eq
    intro i hi
    have e : (wset c pos len a.toNat).getLsbD i = (decide (i < 64) && (if pos ≤ i ∧ i < pos + len then a.toNat.testBit (i - pos) else c.toNat.testBit i)) := testBit_wset c pos len a.toNat i
    rw [e]
    unfold insSpec
    simp only [BitVec.getLsbD_or, BitVec.getLsbD_and, BitVec.getLsbD_not, BitVec.getLsbD_shiftLeft, BitVec.getLsbD_ofNat, Nat.testBit_two_pow_sub_one, hi, decide_true, Bool.true_and]
    by_cases h1 : i < pos
    · have : ¬ pos ≤ i := by omega
      simp [h1, this, BitVec.getLsbD]
    · have h1' : pos ≤ i := by omega
      have h3 : i - pos < 64 := by omega
      by_cases h2 : i < pos + len
      · have : i - pos < len := by omega
        simp [h1, h1', h2, this, h3, BitVec.getLsbD]
      · have : ¬ i - pos < len := by omega
        simp [h1, h1', h2, this, h3, BitVec.getLsbD]

theorem ext_eq (a : Word) (pos len : Nat) (hl : 0 < len) : sext64 len (bits a.toNat pos len) = (a.extractLsb' pos len).signExtend 64 := by
  rw [sext64_eq len _ hl]
  congr 1
  apply BitVec.eq_of_toNat_eq
  simp [BitVec.extractLsb'_toNat, bits, Nat.shiftRight_eq_div_pow]

theorem extu_eq (a : Word) (pos len : Nat) : wd (bits a.toNat pos len) = (a.extractLsb' pos len).setWidth 64 := by
  apply BitVec.eq_of_toNat_eq
  simp [BitVec.extractLsb'_toNat, bits, Nat.shiftRight_eq_div_pow, wd]

theorem intOp_00 (a b : Word) (cin : Bool) : intOp 0x00 a b cin = addOp 64 a.toNat b.toNat 0 := rfl

theorem intOp_01 (a b : Word) (cin : Bool) : intOp 0x01 a b cin = addOp 64 a.toNat b.toNat (b2n cin) := rfl

theorem intOp_02 (a b : Word) (cin : Bool) : intOp 0x02 a b cin = subOp 64 a.toNat b.toNat 0 := rfl

theorem intOp_03 (a b : Word) (cin : Bool) : intOp 0x03 a b cin = subOp 64 a.toNat b.toNat (1 - b2n cin) := rfl

theorem intOp_04 (a b : Word) (cin : Bool) : intOp 0x04 a b cin = (addOp 64 a.toNat b.toNat 0).trapV := rfl

theorem intOp_05 (a b : Word) (cin : Bool) : intOp 0x05 a b cin = (subOp 64 a.toNat b.toNat 0).trapV := rfl

theorem intOp_06 (a b : Word) (cin : Bool) : intOp 0x06 a b cin = subOp 64 0 a.toNat 0 := rfl

theorem intOp_07 (a b : Word) (cin : Bool) : intOp 0x07 a b cin = (subOp 64 0 a.toNat 0).trapV := rfl

theorem intOp_08 (a b : Word) (cin : Bool) : intOp 0x08 a b cin = logic (a &&& b) := rfl

theorem intOp_09 (a b : Word) (cin : Bool) : intOp 0x09 a b cin = logic (a ||| b) := rfl

theorem intOp_0A (a b : Word) (cin : Bool) : intOp 0x0A a b cin = logic (a ^^^ b) := rfl

theorem intOp_0B (a b : Word) (cin : Bool) : intOp 0x0B a b cin = logic (a &&& ~~~b) := rfl

theorem intOp_0C (a b : Word) (cin : Bool) : intOp 0x0C a b cin = logic (a ||| ~~~b) := rfl

theorem intOp_0D (a b : Word) (cin : Bool) : intOp 0x0D a b cin = logic (~~~(a ^^^ b)) := rfl

theorem intOp_0E (a b : Word) (cin : Bool) : intOp 0x0E a b cin = logic (~~~a) := rfl

theorem intOp_0F (a b : Word) (cin : Bool) : intOp 0x0F a b cin = logic b := rfl

theorem intOp_10 (a b : Word) (cin : Bool) : intOp 0x10 a b cin = shiftOp 64 0 a.toNat b.toNat := rfl

theorem intOp_11 (a b : Word) (cin : Bool) : intOp 0x11 a b cin = shiftOp 64 1 a.toNat b.toNat := rfl

theorem intOp_12 (a b : Word) (cin : Bool) : intOp 0x12 a b cin = shiftOp 64 2 a.toNat b.toNat := rfl

theorem intOp_13 (a b : Word) (cin : Bool) : intOp 0x13 a b cin = shiftOp 64 3 a.toNat b.toNat := rfl

theorem intOp_14 (a b : Word) (cin : Bool) : intOp 0x14 a b cin = shiftOp 32 0 a.toNat b.toNat := rfl

theorem intOp_15 (a b : Word) (cin : Bool) : intOp 0x15 a b cin = shiftOp 32 1 a.toNat b.toNat := rfl

theorem intOp_16 (a b : Word) (cin : Bool) : intOp 0x16 a b cin = shiftOp 32 2 a.toNat b.toNat := rfl

theorem intOp_17 (a b : Word) (cin : Bool) : intOp 0x17 a b cin = shiftOp 32 3 a.toNat b.toNat := rfl

theorem intOp_18 (a b : Word) (cin : Bool) : intOp 0x18 a b cin = subOp 64 a.toNat b.toNat 0 := rfl

theorem intOp_19 (a b : Word) (cin : Bool) : intOp 0x19 a b cin = subOp 32 a.toNat b.toNat 0 := rfl

theorem intOp_1A (a b : Word) (cin : Bool) : intOp 0x1A a b cin = logic (a &&& b) := rfl

theorem intOp_1B (a b : Word) (cin : Bool) : intOp 0x1B a b cin = logic (if sgn a ≤ sgn b then a else b) := rfl

theorem intOp_1C (a b : Word) (cin : Bool) : intOp 0x1C a b cin = logic (if sgn a ≤ sgn b then b else a) := rfl

theorem intOp_1D (a b : Word) (cin : Bool) : intOp 0x1D a b cin = logic (if a.toNat ≤ b.toNat then a else b) := rfl

theorem intOp_1E (a b : Word) (cin : Bool) : intOp 0x1E a b cin = logic (if a.toNat ≤ b.toNat then b else a) := rfl

theorem intOp_1F (a b : Word) (cin : Bool) : intOp 0x1F a b cin =
    let r := if sgn a < 0 then subOp 64 0 a.toNat 0 else logic a
    { r with c := none, v := some (a.toNat = 2 ^ 63) } := rfl

theorem intOp_20 (a b : Word) (cin : Bool) : intOp 0x20 a b cin = let p := prod false a b; ⟨wd p, some (wd (p / 2 ^ 64)), none, none, none, none, none⟩ := rfl

theorem intOp_21 (a b : Word) (cin : Bool) : intOp 0x21 a b cin = let p := prod true a b; ⟨wd p, some (wd (p / 2 ^ 64)), none, none, none, none, none⟩ := rfl

theorem intOp_24 (a b : Word) (cin : Bool) : intOp 0x24 a b cin = mulOp a b := rfl

theorem intOp_30 (a b : Word) (cin : Bool) : intOp 0x30 a b cin = logic (wd (64 - bitLen a.toNat)) := rfl

theorem intOp_31 (a b : Word) (cin : Bool) : intOp 0x31 a b cin = logic (wd (lowBit a.toNat 64)) := rfl

theorem intOp_32 (a b : Word) (cin : Bool) : intOp 0x32 a b cin = logic (wd (ones a.toNat 64)) := rfl

theorem intOp_33 (a b : Word) (cin : Bool) : intOp 0x33 a b cin = match fieldSel b.toNat with
    | some (pos, len) => logic (sext64 len (bits a.toNat pos len))
    | none => ifault 2 := rfl

theorem intOp_34 (a b : Word) (cin : Bool) : intOp 0x34 a b cin = match fieldSel b.toNat with
    | some (pos, len) => logic (wd (bits a.toNat pos len))
    | none => ifault 2 := rfl

theorem intOp_36 (a b : Word) (cin : Bool) : intOp 0x36 a b cin = logic (wd (ofBytes (toBytes 8 a.toNat).reverse)) := rfl

theorem intOp_37 (a b : Word) (cin : Bool) : intOp 0x37 a b cin = match extWidth (wbits b 0 2) with
    | some w => logic (sext64 w a.toNat)
    | none => ifault 2 := rfl

theorem intOp_38 (a b : Word) (cin : Bool) : intOp 0x38 a b cin = match extWidth (wbits b 0 2) with
    | some w => logic (wd (a.toNat % 2 ^ w))
    | none => ifault 2 := rfl

theorem add64_eq (a b : Word) (k : Bool) : addOp 64 a.toNat b.toNat (b2n k) = sumSpec a b k := by
  have := addOp_eq (w := 64) (by omega) a.toNat b.toNat k
  rwa [BitVec.ofNat_toNat, BitVec.ofNat_toNat, BitVec.setWidth_eq, BitVec.setWidth_eq] at this

theorem sub64_eq (a b : Word) (k : Bool) : subOp 64 a.toNat b.toNat (b2n k) = diffSpec a b k := by
  have := subOp_eq (w := 64) (by omega) a.toNat b.toNat k
  rwa [BitVec.ofNat_toNat, BitVec.ofNat_toNat, BitVec.setWidth_eq, BitVec.setWidth_eq] at this

theorem neg64_eq (a : Word) : subOp 64 0 a.toNat 0 = diffSpec 0 a false := sub64_eq 0 a false

theorem of64 (a : Word) : BitVec.ofNat 64 a.toNat = a := by simp

theorem of32 (a : Word) : BitVec.ofNat 32 a.toNat = a.setWidth 32 := BitVec.ofNat_toNat ..

theorem abs_eq (a : Word) : ({ (if sgn a < 0 then subOp 64 0 a.toNat 0 else logic a) with c := none, v := some (decide (a.toNat = 2 ^ 63)) } : IRes) =
    { bitsSpec a.abs with v := some (a == BitVec.intMin 64) } := by
  have hv : decide (a.toNat = 2 ^ 63) = (a == BitVec.intMin 64) := by
    rw [Bool.eq_iff_iff]
    simp only [decide_eq_true_eq, beq_iff_eq]
    constructor
    · intro h; apply BitVec.eq_of_toNat_eq; rw [h]; rfl
    · intro h; rw [h]; rfl
  rw [hv]
  have hs : (sgn a < 0) = (a.msb = true) := by
    rw [sgn_eq, BitVec.msb_eq_toInt]; simp
  simp only [hs]
  unfold bitsSpec BitVec.abs
  by_cases h : a.msb = true
  · rw [if_pos h, if_pos h, neg64_eq]
    simp [diffSpec, resOf]
  · rw [if_neg h, if_neg h, logic_eq]
    simp [bitsSpec, resOf]

theorem mul_eq (a b : Word) : mulOp a b = resOf (a * b) none (some (decide ((a * b).toInt ≠ a.toInt * b.toInt))) := by
  unfold mulOp
  rw [iresW_eq 64 _ (by omega) (Nat.mod_lt _ (by decide)), sgn_eq, sgn_eq]
  have h : BitVec.ofNat 64 (a.toNat * b.toNat % 2 ^ 64) = a * b := by apply BitVec.eq_of_toNat_eq; simp [BitVec.toNat_mul]
  rw [h, outside_eq 64 _ (a * b) (by omega)]
  rw [BitVec.ofInt_mul, BitVec.ofInt_toInt, BitVec.ofInt_toInt]

theorem sle_eq (a b : Word) : (sgn a ≤ sgn b) = (a.sle b = true) := by
  rw [sgn_eq, sgn_eq, BitVec.sle_iff_toInt_le]

theorem ule_eq (a b : Word) : (a.toNat ≤ b.toNat) = (a.ule b = true) := by
  simp [BitVec.ule]

theorem sxt_eq (a b : Word) (c : Bool) (h : ¬ b.toNat % 4 = 3) : intOp 0x37 a b c = bitsSpec ((a.setWidth (8 * 2 ^ (b.toNat % 4))).signExtend 64) ∧
    intOp 0x38 a b c = bitsSpec ((a.setWidth (8 * 2 ^ (b.toNat % 4))).setWidth 64) := by
  have e : ∀ w, 0 < w → sext64 w a.toNat = (a.setWidth w).signExtend 64 := by
    intro w hw; rw [sext64_eq w _ hw, BitVec.ofNat_toNat]
  have z : ∀ w, wd (a.toNat % 2 ^ w) = (a.setWidth w).setWidth 64 := by
    intro w; apply BitVec.eq_of_toNat_eq; simp [wd]
  have hb : wbits b 0 2 = b.toNat % 4 := by simp [wbits, bits]
  have hlt : b.toNat % 4 < 4 := Nat.mod_lt _ (by decide)
  rw [intOp_37, intOp_38, hb]
  generalize b.toNat % 4 = k at *
  have : k = 0 ∨ k = 1 ∨ k = 2 := by omega
  rcases this with rfl | rfl | rfl
  · exact ⟨(logic_eq (sext64 8 a.toNat)).trans (by rw [e 8 (by omega)]; rfl), (logic_eq (wd (a.toNat % 2 ^ 8))).trans (by rw [z 8]; rfl)⟩
  · exact ⟨(logic_eq (sext64 16 a.toNat)).trans (by rw [e 16 (by omega)]; rfl), (logic_eq (wd (a.toNat % 2 ^ 16))).trans (by rw [z 16]; rfl)⟩
  · exact ⟨(logic_eq (sext64 32 a.toNat)).trans (by rw [e 32 (by omega)]; rfl), (logic_eq (wd (a.toNat % 2 ^ 32))).trans (by rw [z 32]; rfl)⟩

theorem intOp_eq (op : Nat) (a b : Word) (c : Bool) : ∀ r, intSpec op a b c = some r → intOp op a b c = r := by
  intro r h
  unfold intSpec at h
  split at h
  · have h := Option.some.inj h; subst h; rw [intOp_00]; exact add64_eq a b false
  · have h := Option.some.inj h; subst h; rw [intOp_01]; exact add64_eq a b c
  · have h := Option.some.inj h; subst h; rw [intOp_02]; exact sub64_eq a b false
  · have h := Option.some.inj h; subst h; rw [intOp_03]; refine Eq.trans ?_ (sub64_eq a b (!c)); cases c <;> rfl
  · have h := Option.some.inj h; subst h; rw [intOp_04]; exact (trapV_eq _ rfl).trans (congrArg trapOnV (add64_eq a b false))
  · have h := Option.some.inj h; subst h; rw [intOp_05]; exact (trapV_eq _ rfl).trans (congrArg trapOnV (sub64_eq a b false))
  · have h := Option.some.inj h; subst h; rw [intOp_06]; exact neg64_eq a
  · have h := Option.some.inj h; subst h; rw [intOp_07]; exact (trapV_eq _ rfl).trans (congrArg trapOnV (neg64_eq a))
  · have h := Option.some.inj h; subst h; rw [intOp_08]; exact logic_eq _
  · have h := Option.some.inj h; subst h; rw [intOp_09]; exact logic_eq _
  · have h := Option.some.inj h; subst h; rw [intOp_0A]; exact logic_eq _
  · have h := Option.some.inj h; subst h; rw [intOp_0B]; exact logic_eq _
  · have h := Option.some.inj h; subst h; rw [intOp_0C]; exact logic_eq _
  · have h := Option.some.inj h; subst h; rw [intOp_0D]; exact logic_eq _
  · have h := Option.some.inj h; subst h; rw [intOp_0E]; exact logic_eq _
  · have h := Option.some.inj h; subst h; rw [intOp_0F]; exact logic_eq _
  · have h := Option.some.inj h; subst h; rw [intOp_10]; rw [shiftOp_lsl (by omega), of64]
  · have h := Option.some.inj h; subst h; rw [intOp_11]; rw [shiftOp_lsr (by omega), of64]
  · have h := Option.some.inj h; subst h; rw [intOp_12]; rw [shiftOp_asr (by omega), of64]
  · have h := Option.some.inj h; subst h; rw [intOp_13]; rw [shiftOp_ror (by omega), of64]
  · have h := Option.some.inj h; subst h; rw [intOp_14]; rw [shiftOp_lsl (by omega), of32]
  · have h := Option.some.inj h; subst h; rw [intOp_15]; rw [shiftOp_lsr (by omega), of32]
  · have h := Option.some.inj h; subst h; rw [intOp_16]; rw [shiftOp_asr (by omega), of32]
  · have h := Option.some.inj h; subst h; rw [intOp_17]; rw [shiftOp_ror (by omega), of32]
  · have h := Option.some.inj h; subst h; rw [intOp_18]; exact sub64_eq a b false
  · have h := Option.some.inj h; subst h; rw [intOp_19]; have := subOp_eq (w := 32) (by omega) a.toNat b.toNat false; rw [of32, of32] at this; exact this
  · have h := Option.some.inj h; subst h; rw [intOp_1A]; exact logic_eq _
  · have h := Option.some.inj h; subst h; rw [intOp_1B]; rw [logic_eq]; simp only [sle_eq]
  · have h := Option.some.inj h; subst h; rw [intOp_1C]; rw [logic_eq]; simp only [sle_eq]
  · have h := Option.some.inj h; subst h; rw [intOp_1D]; rw [logic_eq]; simp only [ule_eq]
  · have h := Option.some.inj h; subst h; rw [intOp_1E]; rw [logic_eq]; simp only [ule_eq]
  · have h := Option.some.inj h; subst h; rw [intOp_1F]; exact abs_eq a
  · have h := Option.some.inj h; subst h; rw [intOp_24]; exact mul_eq a b
  · have h := Option.some.inj h; subst h; rw [intOp_30]; rw [logic_eq, clz_eq]
  · have h := Option.some.inj h; subst h; rw [intOp_31]; rw [logic_eq, ctz_eq]
  · have h := Option.some.inj h; subst h; rw [intOp_32]; rw [logic_eq, popc_eq]
  · rw [intOp_33, fieldSel_eq]
    unfold fieldSpec at h ⊢
    split at h
    · rename_i hk
      rw [if_pos hk]
      have h := Option.some.inj h; subst h
      dsimp only
      rw [logic_eq, ext_eq _ _ _ (by omega)]
    · cases h
  · rw [intOp_34, fieldSel_eq]
    unfold fieldSpec at h ⊢
    split at h
    · rename_i hk
      rw [if_pos hk]
      have h := Option.some.inj h; subst h
      dsimp only
      rw [logic_eq, extu_eq]
    · cases h
  · have h := Option.some.inj h; subst h; rw [intOp_36]; rw [logic_eq, bswap_eq]
  · split at h
    · cases h
    · have h := Option.some.inj h; subst h; exact (sxt_eq a b c (by assumption)).1
  · split at h
    · cases h
    · have h := Option.some.inj h; subst h; exact (sxt_eq a b c (by assumption)).2
  · cases h

theorem crcBits_succ (p s k : Nat) : crcBits p s (k + 1) = crcBits p (if s.testBit 0 then s / 2 ^^^ p else s / 2) k := rfl

theorem crc16Bits_succ (s k : Nat) : crc16Bits s (k + 1) = crc16Bits (if s.testBit 15 then (s * 2 ^^^ 0x1021) % 65536 else s * 2 % 65536) k := rfl

theorem half_xor (a b : Nat) : (a ^^^ b) / 2 = a / 2 ^^^ b / 2 := by
  apply Nat.eq_of_testBit_eq
  intro i
  simp [Nat.testBit_div_two]

/-- Eight bits of data, one at a time: the register with the byte added, shifted eight times. -/
theorem crc_byte (p : BitVec 32) (k : Nat) : ∀ (r : BitVec 32) (b : Nat),
    crcBits p.toNat (r.toNat ^^^ b % 2 ^ k) k = ((List.range k).foldl (fun r j => crcIn p r (b.testBit j)) r).toNat := by
  induction k with
  | zero => intro r b; simp [crcBits, Nat.mod_one]
  | succ k ih =>
    intro r b
    rw [List.range_succ_eq_map, List.foldl_cons, List.foldl_map]
    have e := ih (crcIn p r (b.testBit 0)) (b / 2)
    simp only [Nat.testBit_div_two] at e
    rw [← e, crcBits_succ]
    congr 1
    have hx : (r.toNat ^^^ b % 2 ^ (k + 1)).testBit 0 = (r.getLsbD 0 != b.testBit 0) := by
      rw [Nat.testBit_xor, Nat.testBit_mod_two_pow]; simp [BitVec.getLsbD]
    have hd : (r.toNat ^^^ b % 2 ^ (k + 1)) / 2 = r.toNat / 2 ^^^ (b / 2 % 2 ^ k) := by
      rw [half_xor]
      congr 1
      rw [Nat.pow_succ, Nat.mul_comm, Nat.mod_mul_right_div_self]
    rw [hx, hd]
    unfold crcIn
    split
    · rw [BitVec.toNat_xor, BitVec.toNat_ushiftRight, Nat.shiftRight_eq_div_pow, Nat.pow_one, Nat.xor_assoc, Nat.xor_comm (b / 2 % 2 ^ k), ← Nat.xor_assoc]
    · rw [BitVec.toNat_ushiftRight, Nat.shiftRight_eq_div_pow, Nat.pow_one]

theorem range_add_foldl {α : Type} (f : α → Nat → α) (a : α) (m n : Nat) :
    (List.range (m + n)).foldl f a = (List.range n).foldl (fun r j => f r (m + j)) ((List.range m).foldl f a) := by
  rw [List.range_add, List.foldl_append, List.foldl_map]

theorem crcRefl_eq (p : BitVec 32) (n : Nat) : ∀ (r : BitVec 32) (b : Nat),
    crcRefl p.toNat r.toNat b n = ((List.range (8 * n)).foldl (fun r k => crcIn p r (b.testBit k)) r).toNat := by
  induction n with
  | zero => intro r b; rfl
  | succ n ih =>
    intro r b
    unfold crcRefl
    have h := crc_byte p 8 r b
    rw [show (2 : Nat) ^ 8 = 256 from rfl] at h
    rw [h, ih]
    rw [show 8 * (n + 1) = 8 + 8 * n by omega, range_add_foldl]
    simp only [show (256 : Nat) = 2 ^ 8 from rfl, Nat.testBit_div_two_pow, Nat.add_comm 8]

theorem crcSpec_eq (p : BitVec 32) (a b : Word) (n : Nat) : wd (crcRefl p.toNat (a.toNat % 2 ^ 32) b.toNat n) = (crcSpec p (a.setWidth 32) b n).setWidth 64 := by
  have h := crcRefl_eq p n (a.setWidth 32) b.toNat
  rw [BitVec.toNat_setWidth] at h
  rw [h]
  exact BitVec.ofNat_toNat ..

theorem crc16_byte (k : Nat) : ∀ (r : BitVec 16) (b : Nat), k ≤ 8 →
    crc16Bits (r.toNat ^^^ b % 2 ^ k * 2 ^ (16 - k)) k = ((List.range k).foldl (fun r j => crc16In r (b.testBit (k - 1 - j))) r).toNat := by
  induction k with
  | zero => intro r b _; simp [crc16Bits, Nat.mod_one]
  | succ k ih =>
    intro r b hk
    rw [List.range_succ_eq_map, List.foldl_cons, List.foldl_map]
    have e := ih (crc16In r (b.testBit k)) b (by omega)
    simp only [Nat.succ_eq_add_one, show ∀ j, k + 1 - 1 - (j + 1) = k - 1 - j from by omega, show k + 1 - 1 - 0 = k from by omega]
    rw [← e, crc16Bits_succ]
    congr 1
    have hp : 2 ^ (16 - (k + 1)) * 2 ^ (k + 1) = 2 ^ 16 := by rw [← Nat.pow_add]; congr 1; omega
    have key : (r.toNat ^^^ b % 2 ^ (k + 1) * 2 ^ (16 - (k + 1))) < 2 ^ 16 := by
      apply Nat.xor_lt_two_pow r.isLt
      have : b % 2 ^ (k + 1) < 2 ^ (k + 1) := Nat.mod_lt _ (Nat.two_pow_pos _)
      calc b % 2 ^ (k + 1) * 2 ^ (16 - (k + 1)) < 2 ^ (k + 1) * 2 ^ (16 - (k + 1)) := Nat.mul_lt_mul_of_pos_right this (Nat.two_pow_pos _)
        _ = 2 ^ 16 := by rw [Nat.mul_comm]; exact hp
    have tb : ∀ i, (b % 2 ^ (k + 1) * 2 ^ (16 - (k + 1))).testBit i = (decide (15 - k ≤ i) && decide (i < 16) && b.testBit (i - (15 - k))) := by
      intro i
      rw [Nat.testBit_mul_two_pow, Nat.testBit_mod_two_pow]
      have e1 : 16 - (k + 1) = 15 - k := by omega
      rw [e1]
      by_cases h : 15 - k ≤ i
      · have : decide (i - (15 - k) < k + 1) = decide (i < 16) := by rw [Bool.eq_iff_iff]; simp only [decide_eq_true_eq]; omega
        simp only [h, this, decide_true, Bool.true_and]
      · simp [h]
    have tb2 : ∀ i, (b % 2 ^ k * 2 ^ (16 - k)).testBit i = (decide (16 - k ≤ i) && decide (i < 16) && b.testBit (i - (16 - k))) := by
      intro i
      rw [Nat.testBit_mul_two_pow, Nat.testBit_mod_two_pow]
      by_cases h : 16 - k ≤ i
      · have : decide (i - (16 - k) < k) = decide (i < 16) := by rw [Bool.eq_iff_iff]; simp only [decide_eq_true_eq]; omega
        simp only [h, this, decide_true, Bool.true_and]
      · simp [h]
    have hx : (r.toNat ^^^ b % 2 ^ (k + 1) * 2 ^ (16 - (k + 1))).testBit 15 = (r.msb != b.testBit k) := by
      rw [Nat.testBit_xor, tb, BitVec.msb_eq_getLsbD_last]
      have : 15 - (15 - k) = k := by omega
      simp [BitVec.getLsbD, this]
    have hm : ∀ c : Nat, c < 2 ^ 16 → ((r.toNat ^^^ b % 2 ^ (k + 1) * 2 ^ (16 - (k + 1))) * 2 ^^^ c) % 65536 = ((r.toNat * 2) % 65536 ^^^ c) ^^^ b % 2 ^ k * 2 ^ (16 - k) := by
      intro c hc
      apply Nat.eq_of_testBit_eq
      intro i
      rw [show (65536 : Nat) = 2 ^ 16 from rfl, Nat.testBit_mod_two_pow]
      simp only [Nat.testBit_xor, Nat.testBit_mod_two_pow, tb2]
      rw [show (r.toNat ^^^ b % 2 ^ (k + 1) * 2 ^ (16 - (k + 1))) * 2 = (r.toNat ^^^ b % 2 ^ (k + 1) * 2 ^ (16 - (k + 1))) * 2 ^ 1 from rfl, Nat.testBit_mul_two_pow,
        show r.toNat * 2 = r.toNat * 2 ^ 1 from rfl, Nat.testBit_mul_two_pow]
      simp only [Nat.testBit_xor, tb]
      by_cases h16 : i < 16
      · by_cases h1 : 1 ≤ i
        · have e1 : decide (15 - k ≤ i - 1) = decide (16 - k ≤ i) := by rw [Bool.eq_iff_iff]; simp only [decide_eq_true_eq]; omega
          have e2 : i - 1 - (15 - k) = i - (16 - k) := by omega
          have e3 : i - 1 < 16 := by omega
          simp only [h16, h1, e1, e2, e3, decide_true, Bool.true_and, Bool.and_true]
          cases r.toNat.testBit (i - 1) <;> cases c.testBit i <;> cases (decide (16 - k ≤ i) && b.testBit (i - (16 - k))) <;> rfl
        · have e4 : ¬ 16 - k ≤ i := by omega
          simp [h16, h1, e4]
      · have hcb : c.testBit i = false := Nat.testBit_lt_two_pow (Nat.lt_of_lt_of_le hc (Nat.pow_le_pow_right (by decide) (by omega)))
        simp [h16, hcb]
    rw [hx]
    unfold crc16In
    have hsh : (r <<< 1).toNat = r.toNat * 2 % 65536 := by rw [BitVec.toNat_shiftLeft, Nat.shiftLeft_eq]
    split
    · rw [hm 0x1021 (by decide), BitVec.toNat_xor, hsh]
      rfl
    · have := hm 0 (by decide)
      simp only [Nat.xor_zero] at this
      rw [this, hsh]

theorem crc16_eq (n : Nat) : ∀ (r : BitVec 16) (b : Nat),
    crc16 r.toNat b n = ((List.range n).foldl (fun r k => (List.range 8).foldl (fun r j => crc16In r (b.testBit (8 * k + (7 - j)))) r) r).toNat := by
  induction n with
  | zero => intro r b; rfl
  | succ n ih =>
    intro r b
    unfold crc16
    have h := crc16_byte 8 r b (by omega)
    rw [show (2 : Nat) ^ 8 = 256 from rfl] at h
    rw [h, ih, show List.range (n + 1) = 0 :: (List.range n).map Nat.succ from List.range_succ_eq_map, List.foldl_cons, List.foldl_map]
    have e1 : ∀ k j, 8 * (k + 1) + (7 - j) = 8 * k + (7 - j) + 8 := by intros; omega
    simp only [show (256 : Nat) = 2 ^ 8 from rfl, Nat.testBit_div_two_pow, Nat.succ_eq_add_one, e1, Nat.mul_zero, Nat.zero_add, show 8 - 1 = 7 from rfl]

theorem crc16Spec_eq (a b : Word) (n : Nat) : wd (crc16 (a.toNat % 2 ^ 16) b.toNat n) = (crc16Spec (a.setWidth 16) b n).setWidth 64 := by
  have h := crc16_eq n (a.setWidth 16) b.toNat
  rw [BitVec.toNat_setWidth] at h
  rw [h]
  exact BitVec.ofNat_toNat ..
theorem ones_cpop {w : Nat} (a : BitVec w) (n acc : Nat) : a.cpopNatRec n acc = acc + ones a.toNat n := by
  induction n generalizing acc with
  | zero => simp [ones]
  | succ n ih =>
    rw [BitVec.cpopNatRec_succ, ih]
    have hs : ones a.toNat (n + 1) = ones a.toNat n + b2n (a.toNat.testBit n) := rfl
    rw [hs]
    have : (a.getLsbD n).toNat = b2n (a.toNat.testBit n) := by simp only [BitVec.getLsbD]; cases a.toNat.testBit n <;> rfl
    rw [this]
    omega

theorem ones_mod (n k : Nat) : ones n k ≤ k := by
  induction k with
  | zero => exact Nat.le_refl _
  | succ k ih =>
    have : ones n (k + 1) = ones n k + b2n (n.testBit k) := rfl
    rw [this]
    have : b2n (n.testBit k) ≤ 1 := by cases n.testBit k <;> decide
    omega

theorem par_eq (a : Word) : wd (ones a.toNat 64 % 2) = if a.cpop.getLsbD 0 then 1 else 0 := by
  have h : a.cpop = BitVec.ofNat 64 (ones a.toNat 64) := by unfold BitVec.cpop; rw [ones_cpop, Nat.zero_add]
  rw [h, BitVec.getLsbD_ofNat, Nat.testBit_zero]
  rcases Nat.mod_two_eq_zero_or_one (ones a.toNat 64) with e | e <;> rw [e] <;> rfl

theorem parityOf_toNat (b : BitVec 8) : (parityOf b).toNat = ones b.toNat 8 % 2 := by
  have h : b.cpop = BitVec.ofNat 8 (ones b.toNat 8) := by unfold BitVec.cpop; rw [ones_cpop, Nat.zero_add]
  unfold parityOf
  rw [h]
  simp only [BitVec.toNat_setWidth, BitVec.toNat_ofNat]
  have := ones_mod b.toNat 8
  omega

theorem byteOf_toNat (a : Word) (k : Nat) : (byteOf a k).toNat = a.toNat / 256 ^ k % 256 := by
  unfold byteOf
  rw [BitVec.extractLsb'_toNat, Nat.shiftRight_eq_div_pow, Nat.pow_mul]

theorem parb_eq (a : Word) : wd ((List.range 8).foldl (fun d k => d + ones (a.toNat / 256 ^ k % 256) 8 % 2 * 2 ^ k) 0) =
    (parityOf (byteOf a 7) ++ parityOf (byteOf a 6) ++ parityOf (byteOf a 5) ++ parityOf (byteOf a 4) ++
      parityOf (byteOf a 3) ++ parityOf (byteOf a 2) ++ parityOf (byteOf a 1) ++ parityOf (byteOf a 0)).setWidth 64 := by
  rw [BitVec.setWidth, dif_pos (by decide)]
  apply BitVec.eq_of_toNat_eq
  simp only [BitVec.toNat_setWidth', append_toNat, parityOf_toNat, byteOf_toNat]
  simp only [wd, BitVec.toNat_ofNat, show List.range 8 = [0, 1, 2, 3, 4, 5, 6, 7] from rfl, List.foldl_cons, List.foldl_nil]
  have l : ∀ k, ones (a.toNat / 256 ^ k % 256) 8 % 2 < 2 := fun k => Nat.mod_lt _ (by decide)
  have h0 := l 0
  have h1 := l 1
  have h2 := l 2
  have h3 := l 3
  have h4 := l 4
  have h5 := l 5
  have h6 := l 6
  have h7 := l 7
  generalize ones (a.toNat / 256 ^ 0 % 256) 8 % 2 = x0 at *
  generalize ones (a.toNat / 256 ^ 1 % 256) 8 % 2 = x1 at *
  generalize ones (a.toNat / 256 ^ 2 % 256) 8 % 2 = x2 at *
  generalize ones (a.toNat / 256 ^ 3 % 256) 8 % 2 = x3 at *
  generalize ones (a.toNat / 256 ^ 4 % 256) 8 % 2 = x4 at *
  generalize ones (a.toNat / 256 ^ 5 % 256) 8 % 2 = x5 at *
  generalize ones (a.toNat / 256 ^ 6 % 256) 8 % 2 = x6 at *
  generalize ones (a.toNat / 256 ^ 7 % 256) 8 % 2 = x7 at *
  omega

theorem testBit_revBits (k : Nat) : ∀ n i, (revBits n k).testBit i = (decide (i < k) && n.testBit (k - 1 - i)) := by
  induction k with
  | zero => intro n i; simp [revBits]
  | succ k ih =>
    intro n i
    have hs : revBits n (k + 1) = 2 ^ k * (n % 2) + revBits (n / 2) k := by rw [Nat.mul_comm]; rfl
    have hlt : revBits (n / 2) k < 2 ^ k := by
      apply Nat.lt_pow_two_of_testBit
      intro j hj
      rw [ih]
      simp [Nat.not_lt.2 hj]
    rw [hs, Nat.testBit_two_pow_mul_add _ hlt]
    by_cases h : i < k
    · rw [if_pos h, ih, Nat.testBit_div_two]
      have e : k - 1 - i + 1 = k + 1 - 1 - i := by omega
      have h2 : i < k + 1 := by omega
      simp only [h, h2, e]
    · rw [if_neg h]
      by_cases h2 : i = k
      · subst h2
        simp [Nat.testBit_zero]
      · have h3 : ¬ i < k + 1 := by omega
        have h4 : ∃ j, i - k = j + 1 := ⟨i - k - 1, by omega⟩
        obtain ⟨j, hj⟩ := h4
        rw [hj, Nat.testBit_succ]
        have : n % 2 / 2 = 0 := by omega
        simp [h3, this]

theorem revBits_toNat {w : Nat} (b : BitVec w) : b.reverse.toNat = revBits b.toNat w := by
  apply Nat.eq_of_testBit_eq
  intro i
  rw [testBit_revBits]
  change b.reverse.getLsbD i = _
  rw [BitVec.getLsbD_reverse, BitVec.getMsbD]
  rfl

theorem brev_eq (a : Word) : wd (revBits a.toNat 64) = a.reverse := by
  apply BitVec.eq_of_toNat_eq
  rw [← revBits_toNat, wd, BitVec.ofNat_toNat, BitVec.setWidth_eq]

theorem brevw_eq (a : Word) : wd (revBits (a.toNat % 2 ^ 32) 32) = (a.setWidth 32).reverse.setWidth 64 := by
  rw [← BitVec.toNat_setWidth, ← revBits_toNat]
  exact BitVec.ofNat_toNat ..

theorem horner (n : Nat) : ∀ x : Nat → Nat, (List.range (n + 1)).foldl (fun d k => d + x k * 256 ^ k) 0 =
    (List.range n).foldl (fun d k => d + x (k + 1) * 256 ^ k) 0 * 256 + x 0 := by
  induction n with
  | zero => intro x; simp
  | succ n ih =>
    intro x
    rw [List.range_succ, List.foldl_append, ih, show (List.range (n + 1)) = List.range n ++ [n] from List.range_succ, List.foldl_append]
    simp only [List.foldl_cons, List.foldl_nil]
    rw [Nat.add_mul, Nat.pow_succ, Nat.mul_assoc]
    omega

theorem horner8 (x : Nat → Nat) : (List.range 8).foldl (fun d k => d + x k * 256 ^ k) 0 =
    ((((((x 7 * 256 + x 6) * 256 + x 5) * 256 + x 4) * 256 + x 3) * 256 + x 2) * 256 + x 1) * 256 + x 0 := by
  rw [horner 7, horner 6 fun k => x (k + 1), horner 5 fun k => x (k + 1 + 1), horner 4 fun k => x (k + 1 + 1 + 1), horner 3 fun k => x (k + 1 + 1 + 1 + 1),
    horner 2 fun k => x (k + 1 + 1 + 1 + 1 + 1), horner 1 fun k => x (k + 1 + 1 + 1 + 1 + 1 + 1), horner 0 fun k => x (k + 1 + 1 + 1 + 1 + 1 + 1 + 1)]
  simp

theorem brevb_eq (a : Word) : wd ((List.range 8).foldl (fun d k => d + revBits (a.toNat / 256 ^ k % 256) 8 * 256 ^ k) 0) =
    (byteOf a 7).reverse ++ (byteOf a 6).reverse ++ (byteOf a 5).reverse ++ (byteOf a 4).reverse ++
      (byteOf a 3).reverse ++ (byteOf a 2).reverse ++ (byteOf a 1).reverse ++ (byteOf a 0).reverse := by
  apply BitVec.eq_of_toNat_eq
  have q : ∀ k, (byteOf a k).reverse.toNat = revBits (a.toNat / 256 ^ k % 256) 8 := fun k => by rw [revBits_toNat, byteOf_toNat]
  rw [horner8 fun k => revBits (a.toNat / 256 ^ k % 256) 8]
  simp only [append_toNat, ← q]
  rw [wd, BitVec.toNat_ofNat]
  have st : ∀ (k x q : Nat), x < k → q < 256 → x * 256 + q < k * 256 := by omega
  have l : ∀ k, (byteOf a k).reverse.toNat < 256 := fun k => (byteOf a k).reverse.isLt
  exact Nat.mod_eq_of_lt (st 72057594037927936 _ _ (st 281474976710656 _ _ (st 1099511627776 _ _ (st 4294967296 _ _ (st 16777216 _ _ (st 65536 _ _ (st 256 _ _ (l 7) (l 6)) (l 5)) (l 4)) (l 3)) (l 2)) (l 1)) (l 0))

theorem misr_eq (w : Nat) (c a b : Word) : misr w c a b = (misrSpec (c.setWidth w) (a.setWidth w) (b.setWidth w)).setWidth 64 := by
  unfold misr misrSpec
  have hm : (c.toNat % 2 ^ w).testBit (w - 1) = (c.setWidth w).msb := by
    rw [BitVec.msb_eq_getLsbD_last, BitVec.getLsbD_setWidth, Nat.testBit_mod_two_pow]; rfl
  dsimp only
  rw [hm]
  have hs : ((c.setWidth w) <<< 1).toNat = c.toNat % 2 ^ w * 2 % 2 ^ w := by rw [BitVec.toNat_shiftLeft, Nat.shiftLeft_eq, BitVec.toNat_setWidth]
  rw [← hs, ← BitVec.toNat_setWidth, ← BitVec.toNat_setWidth]
  split
  · rw [← BitVec.toNat_xor, ← BitVec.toNat_xor]; exact BitVec.ofNat_toNat ..
  · have z : BitVec.setWidth w c <<< 1 ^^^ (0 : BitVec w) = BitVec.setWidth w c <<< 1 := by simp
    rw [← BitVec.toNat_xor, z]; exact BitVec.ofNat_toNat ..

end Sys2Proof.Machine
end

