-- ==== Sys2Proof/Laws/Kept.lean ====
section
/-! SUPPORT. What every operation of the model keeps: the queue, the canonical form of memory, and, where the operation writes none, memory, graph memory and the device state. The predicate, the rules for the shapes of answers, and memory itself; the lemmas of the operations follow in Kept1.lean and on. -/
namespace Sys2Proof.Machine

/-- What a change of state is to keep: the queue of commands, and, where one is given, memory, graph memory and the device state. -/
structure Keep where
  queue : List Instr
  mem : Option (List Host.Cell)
  graph : Option (Tab Nat Word)
  dev : Option DevState

/-- The queue is that of `k`, memory is canonical, and memory, graph memory and the device state are those of `k` where it gives them. -/
structure Kept (k : Keep) (s : State) : Prop where
  queue : s.pending = k.queue
  canon : Memory.wf s.mem = true
  mem : ∀ m, k.mem = some m → s.mem = m
  graph : ∀ g, k.graph = some g → s.graph = g
  dev : ∀ d, k.dev = some d → s.dev = d

/-! ### Memory (10 R252) -/

/-- A lower bound may fall. -/
theorem Memory.wfFrom_mono {lo lo' : Nat} {m : List Host.Cell} (h : lo' ≤ lo) (w : Memory.wfFrom lo m = true) : Memory.wfFrom lo' m = true := by
  cases m with
  | nil => rfl
  | cons c r =>
    simp only [Memory.wfFrom, Bool.and_eq_true, decide_eq_true_eq] at w ⊢
    exact ⟨⟨Nat.le_trans h w.1.1, w.1.2⟩, w.2⟩

/-- A byte written keeps the canonical form. -/
theorem putByte_wfFrom {lo a : Nat} {b : Byte} {m : List Host.Cell} (h : lo ≤ a) (w : Memory.wfFrom lo m = true) :
    Memory.wfFrom lo (putByte m a b) = true := by
  induction m generalizing lo with
  | nil =>
    unfold putByte
    split
    · rfl
    · simp only [Memory.wfFrom, Bool.and_eq_true, decide_eq_true_eq, and_true]
      exact ⟨h, by assumption⟩
  | cons c r ih =>
    simp only [Memory.wfFrom, Bool.and_eq_true, decide_eq_true_eq] at w
    unfold putByte
    split
    · simp only [Memory.wfFrom, Bool.and_eq_true, decide_eq_true_eq]
      exact ⟨w.1, ih (by omega) w.2⟩
    · split
      · rename_i hca
        split
        · exact Memory.wfFrom_mono (by omega) w.2
        · subst hca
          simp only [Memory.wfFrom, Bool.and_eq_true, decide_eq_true_eq]
          exact ⟨⟨h, by assumption⟩, w.2⟩
      · split
        · simp only [Memory.wfFrom, Bool.and_eq_true, decide_eq_true_eq]
          exact w
        · simp only [Memory.wfFrom, Bool.and_eq_true, decide_eq_true_eq]
          exact ⟨⟨h, by assumption⟩, ⟨by omega, w.1.2⟩, w.2⟩

/-- Bytes written keep the canonical form. -/
theorem writeBytes_wf {m : List Host.Cell} {a : Nat} {l : List Byte} (w : Memory.wf m = true) : Memory.wf (writeBytes m a l) = true := by
  induction l generalizing m a with
  | nil => exact w
  | cons b bs ih => exact ih (putByte_wfFrom (Nat.zero_le _) w)

/-! ### The rules -/

variable {k : Keep} {s t : State}

/-- A state that differs elsewhere: what is kept does not depend on the other fields. -/
theorem kept_mk_iff {a1 a2 a3 a5 a6 a8 a9 a11 a12 a13 a14 a15 a16 a17 a18 a19 a20 a21 a22 a23 a24 a25 a26 a27 a28 a29 a30 a31 a32 a33 a34 a35 a36 a37 a38 a39 a40 a41 a42 a43} :
    Kept k (State.mk s.pending a1 a2 a3 s.dev a5 a6 s.mem a8 a9 s.graph a11 a12 a13 a14 a15 a16 a17 a18 a19 a20 a21 a22 a23 a24 a25 a26 a27 a28 a29 a30 a31 a32 a33 a34 a35 a36 a37 a38 a39 a40 a41 a42 a43) ↔ Kept k s :=
  ⟨fun h => ⟨h.queue, h.canon, h.mem, h.graph, h.dev⟩, fun h => ⟨h.queue, h.canon, h.mem, h.graph, h.dev⟩⟩

/-- A state that differs in graph memory, where that need not be kept. -/
theorem kept_graph_iff {G} {a1 a2 a3 a5 a6 a8 a9 a11 a12 a13 a14 a15 a16 a17 a18 a19 a20 a21 a22 a23 a24 a25 a26 a27 a28 a29 a30 a31 a32 a33 a34 a35 a36 a37 a38 a39 a40 a41 a42 a43} (n : k.graph = none) :
    Kept k (State.mk s.pending a1 a2 a3 s.dev a5 a6 s.mem a8 a9 G a11 a12 a13 a14 a15 a16 a17 a18 a19 a20 a21 a22 a23 a24 a25 a26 a27 a28 a29 a30 a31 a32 a33 a34 a35 a36 a37 a38 a39 a40 a41 a42 a43) ↔ Kept k s :=
  ⟨fun h => ⟨h.queue, h.canon, h.mem, fun _ e => (nomatch n.symm.trans e), h.dev⟩, fun h => ⟨h.queue, h.canon, h.mem, fun _ e => (nomatch n.symm.trans e), h.dev⟩⟩

/-- A state in another device state, where that need not be kept. -/
theorem kept_dev_iff {D} {a1 a2 a3 a5 a6 a8 a9 a11 a12 a13 a14 a15 a16 a17 a18 a19 a20 a21 a22 a23 a24 a25 a26 a27 a28 a29 a30 a31 a32 a33 a34 a35 a36 a37 a38 a39 a40 a41 a42 a43} (n : k.dev = none) :
    Kept k (State.mk s.pending a1 a2 a3 D a5 a6 s.mem a8 a9 s.graph a11 a12 a13 a14 a15 a16 a17 a18 a19 a20 a21 a22 a23 a24 a25 a26 a27 a28 a29 a30 a31 a32 a33 a34 a35 a36 a37 a38 a39 a40 a41 a42 a43) ↔ Kept k s :=
  ⟨fun h => ⟨h.queue, h.canon, h.mem, h.graph, fun _ e => nomatch n.symm.trans e⟩, fun h => ⟨h.queue, h.canon, h.mem, h.graph, fun _ e => nomatch n.symm.trans e⟩⟩

/-- Memory emptied, where it need not be kept. -/
theorem kept_nil {a1 a2 a3 a5 a6 a8 a9 a11 a12 a13 a14 a15 a16 a17 a18 a19 a20 a21 a22 a23 a24 a25 a26 a27 a28 a29 a30 a31 a32 a33 a34 a35 a36 a37 a38 a39 a40 a41 a42 a43} (n : k.mem = none) (h : Kept k s) :
    Kept k (State.mk s.pending a1 a2 a3 s.dev a5 a6 [] a8 a9 s.graph a11 a12 a13 a14 a15 a16 a17 a18 a19 a20 a21 a22 a23 a24 a25 a26 a27 a28 a29 a30 a31 a32 a33 a34 a35 a36 a37 a38 a39 a40 a41 a42 a43) :=
  ⟨h.queue, rfl, fun _ e => (nomatch n.symm.trans e), h.graph, h.dev⟩

/-- Memory written, where it need not be kept. -/
theorem kept_store (n : k.mem = none) (h : Kept k s) (a b v : Nat) : Kept k (s.store a b v) :=
  ⟨h.queue, writeBytes_wf h.canon, fun _ e => (nomatch n.symm.trans e), h.graph, h.dev⟩

/-- The identity. -/
theorem kept_id (h : Kept k s) : Kept k (id s) := h

/-- A choice. -/
theorem kept_ite {c : Prop} [Decidable c] (ht : Kept k s) (he : Kept k t) : Kept k (if c then s else t) := by
  split <;> assumption

/-- A fold over a list. -/
theorem kept_foldl {α : Type} {f : State → α → State} {l : List α} (hf : ∀ s a, Kept k s → Kept k (f s a)) (h : Kept k s) :
    Kept k (l.foldl f s) := by
  induction l generalizing s with
  | nil => exact h
  | cons a l ih => exact ih (hf s a h)

/-- A fold that carries a value beside the state. -/
theorem kept_foldl_fst {α β : Type} {f : State × β → α → State × β} {l : List α} {p : State × β}
    (hf : ∀ p a, Kept k p.1 → Kept k (f p a).1) (h : Kept k p.1) : Kept k (l.foldl f p).1 := by
  induction l generalizing p with
  | nil => exact h
  | cons a l ih => exact ih (hf p a h)

/-- A fold that carries the state beside a value. -/
theorem kept_foldl_snd {α β : Type} {f : β × State → α → β × State} {l : List α} {p : β × State}
    (hf : ∀ p a, Kept k p.2 → Kept k (f p a).2) (h : Kept k p.2) : Kept k (l.foldl f p).2 := by
  induction l generalizing p with
  | nil => exact h
  | cons a l ih => exact ih (hf p a h)

/-- Every state in the answer is kept. -/
def XRes.Kept (k : Keep) (r : XRes) : Prop :=
  match r with
  | .done s => Machine.Kept k s
  | .jump s _ => Machine.Kept k s
  | .next s _ => Machine.Kept k s
  | .trap s _ => Machine.Kept k s
  | .wait s _ => Machine.Kept k s
  | .retry s _ => Machine.Kept k s
  | .ended s => Machine.Kept k s
  | .stall | .held _ => True

theorem XRes.Kept.done {r : XRes}  (h : r.Kept k) (e : r = .done s) : Machine.Kept k s := by subst e; exact h
theorem XRes.Kept.jump {r : XRes} {pc} (h : r.Kept k) (e : r = .jump s pc) : Machine.Kept k s := by subst e; exact h
theorem XRes.Kept.next {r : XRes} {pc} (h : r.Kept k) (e : r = .next s pc) : Machine.Kept k s := by subst e; exact h
theorem XRes.Kept.trap {r : XRes} {code} (h : r.Kept k) (e : r = .trap s code) : Machine.Kept k s := by subst e; exact h
theorem XRes.Kept.wait {r : XRes} {w} (h : r.Kept k) (e : r = .wait s w) : Machine.Kept k s := by subst e; exact h
theorem XRes.Kept.retry {r : XRes} {rk} (h : r.Kept k) (e : r = .retry s rk) : Machine.Kept k s := by subst e; exact h
theorem XRes.Kept.ended {r : XRes}  (h : r.Kept k) (e : r = .ended s) : Machine.Kept k s := by subst e; exact h

/-- Every state in the answer is kept. -/
def WRes.Kept (k : Keep) (r : WRes) : Prop :=
  match r with
  | .ok s => Machine.Kept k s
  | .refuse _ _ => True

theorem WRes.Kept.ok {r : WRes}  (h : r.Kept k) (e : r = .ok s) : Machine.Kept k s := by subst e; exact h

/-- Every state in the answer is kept. -/
def AllocRes.Kept (k : Keep) (r : AllocRes) : Prop :=
  match r with
  | .num _ s => Machine.Kept k s
  | .wait | .fails => True

theorem AllocRes.Kept.num {r : AllocRes} {n} (h : r.Kept k) (e : r = .num n s) : Machine.Kept k s := by subst e; exact h

/-- Every state in the answer is kept. -/
def LockAns.Kept (k : Keep) (r : LockAns) : Prop :=
  match r with
  | .status _ s => Machine.Kept k s
  | .fails _ s => Machine.Kept k s
  | .waits s => Machine.Kept k s
  | .tableFull s => Machine.Kept k s

theorem LockAns.Kept.status {r : LockAns} {d} (h : r.Kept k) (e : r = .status d s) : Machine.Kept k s := by subst e; exact h
theorem LockAns.Kept.fails {r : LockAns} {code} (h : r.Kept k) (e : r = .fails code s) : Machine.Kept k s := by subst e; exact h
theorem LockAns.Kept.waits {r : LockAns}  (h : r.Kept k) (e : r = .waits s) : Machine.Kept k s := by subst e; exact h
theorem LockAns.Kept.tableFull {r : LockAns}  (h : r.Kept k) (e : r = .tableFull s) : Machine.Kept k s := by subst e; exact h

/-- Every state in the answer is kept. -/
def Route.Kept (k : Keep) (r : Route) : Prop :=
  match r with
  | .sent s => Machine.Kept k s
  | .full | .fenced => True

theorem Route.Kept.sent {r : Route}  (h : r.Kept k) (e : r = .sent s) : Machine.Kept k s := by subst e; exact h

/-- Every state in the answer is kept. -/
def Inj.Kept (k : Keep) (r : Inj) : Prop :=
  match r with
  | .sent s => Machine.Kept k s
  | .fenced s => Machine.Kept k s
  | .full => True

theorem Inj.Kept.sent {r : Inj}  (h : r.Kept k) (e : r = .sent s) : Machine.Kept k s := by subst e; exact h
theorem Inj.Kept.fenced {r : Inj}  (h : r.Kept k) (e : r = .fenced s) : Machine.Kept k s := by subst e; exact h

/-- Every state in the answer is kept. -/
def QRes.Kept (k : Keep) (r : QRes) : Prop :=
  match r with
  | .done _ s => Machine.Kept k s
  | .wait _ s => Machine.Kept k s
  | .fails _ s => Machine.Kept k s

theorem QRes.Kept.done {r : QRes} {d} (h : r.Kept k) (e : r = .done d s) : Machine.Kept k s := by subst e; exact h
theorem QRes.Kept.wait {r : QRes} {w} (h : r.Kept k) (e : r = .wait w s) : Machine.Kept k s := by subst e; exact h
theorem QRes.Kept.fails {r : QRes} {code} (h : r.Kept k) (e : r = .fails code s) : Machine.Kept k s := by subst e; exact h

/-- Every state in the answer is kept. -/
def Room.Kept (k : Keep) (r : Room) : Prop :=
  match r with
  | .ok s => Machine.Kept k s
  | .wait | .full => True

theorem Room.Kept.ok {r : Room}  (h : r.Kept k) (e : r = .ok s) : Machine.Kept k s := by subst e; exact h

/-- Every state in the answer is kept. -/
def LRes.Kept (k : Keep) (r : LRes) : Prop :=
  match r with
  | .done s => Machine.Kept k s
  | .stall s => Machine.Kept k s
  | .full s => Machine.Kept k s

theorem LRes.Kept.done {r : LRes}  (h : r.Kept k) (e : r = .done s) : Machine.Kept k s := by subst e; exact h
theorem LRes.Kept.stall {r : LRes}  (h : r.Kept k) (e : r = .stall s) : Machine.Kept k s := by subst e; exact h
theorem LRes.Kept.full {r : LRes}  (h : r.Kept k) (e : r = .full s) : Machine.Kept k s := by subst e; exact h

theorem XRes.kept_done (h : Machine.Kept k s) : (XRes.done s).Kept k := h
theorem XRes.kept_jump {pc} (h : Machine.Kept k s) : (XRes.jump s pc).Kept k := h
theorem XRes.kept_next {pc} (h : Machine.Kept k s) : (XRes.next s pc).Kept k := h
theorem XRes.kept_trap {code} (h : Machine.Kept k s) : (XRes.trap s code).Kept k := h
theorem XRes.kept_wait {w} (h : Machine.Kept k s) : (XRes.wait s w).Kept k := h
theorem XRes.kept_retry {rk} (h : Machine.Kept k s) : (XRes.retry s rk).Kept k := h
theorem XRes.kept_ended (h : Machine.Kept k s) : (XRes.ended s).Kept k := h
/-- A choice between meanings. -/
theorem XRes.kept_fn_ite {α β γ : Type} {p : Prop} [Decidable p] {f h : State → α → β → γ → XRes} {a : α} {b : β} {c : γ}
    (hf : (f s a b c).Kept k) (hh : (h s a b c).Kept k) : ((if p then f else h) s a b c).Kept k := by
  split <;> assumption
theorem XRes.kept_stall : XRes.stall.Kept k := trivial
theorem XRes.kept_held {a} : (XRes.held a).Kept k := trivial
theorem WRes.kept_refuse {a b} : (WRes.refuse a b).Kept k := trivial
theorem AllocRes.kept_wait : AllocRes.wait.Kept k := trivial
theorem AllocRes.kept_fails : AllocRes.fails.Kept k := trivial
theorem Route.kept_full : Route.full.Kept k := trivial
theorem Route.kept_fenced : Route.fenced.Kept k := trivial
theorem Inj.kept_full : Inj.full.Kept k := trivial
theorem Room.kept_wait : Room.wait.Kept k := trivial
theorem Room.kept_full : Room.full.Kept k := trivial
theorem WRes.kept_ok (h : Machine.Kept k s) : (WRes.ok s).Kept k := h
theorem AllocRes.kept_num {n} (h : Machine.Kept k s) : (AllocRes.num n s).Kept k := h
theorem LockAns.kept_status {d} (h : Machine.Kept k s) : (LockAns.status d s).Kept k := h
theorem LockAns.kept_fails {code} (h : Machine.Kept k s) : (LockAns.fails code s).Kept k := h
theorem LockAns.kept_waits (h : Machine.Kept k s) : (LockAns.waits s).Kept k := h
theorem LockAns.kept_tableFull (h : Machine.Kept k s) : (LockAns.tableFull s).Kept k := h
theorem Route.kept_sent (h : Machine.Kept k s) : (Route.sent s).Kept k := h
theorem Inj.kept_sent (h : Machine.Kept k s) : (Inj.sent s).Kept k := h
theorem Inj.kept_fenced (h : Machine.Kept k s) : (Inj.fenced s).Kept k := h
theorem QRes.kept_done {d} (h : Machine.Kept k s) : (QRes.done d s).Kept k := h
theorem QRes.kept_wait {w} (h : Machine.Kept k s) : (QRes.wait w s).Kept k := h
theorem QRes.kept_fails {code} (h : Machine.Kept k s) : (QRes.fails code s).Kept k := h
theorem Room.kept_ok (h : Machine.Kept k s) : (Room.ok s).Kept k := h
theorem LRes.kept_done (h : Machine.Kept k s) : (LRes.done s).Kept k := h
theorem LRes.kept_stall (h : Machine.Kept k s) : (LRes.stall s).Kept k := h
theorem LRes.kept_full (h : Machine.Kept k s) : (LRes.full s).Kept k := h

/-- The state of an optional answer is kept. -/
def OptKept (k : Keep) (r : Option State) : Prop := ∀ s, r = some s → Kept k s
/-- The state of an optional pair is kept. -/
def OptKept2 {α : Type} (k : Keep) (r : Option (α × State)) : Prop := ∀ p, r = some p → Kept k p.2
/-- The state of an answer or an error is kept. -/
def ExKept {ε : Type} (k : Keep) (r : Except ε State) : Prop := ∀ s, r = .ok s → Kept k s
/-- The state of an answer with a value, or an error, is kept. -/
def ExKept2 {ε α : Type} (k : Keep) (r : Except ε (α × State)) : Prop := ∀ p, r = .ok p → Kept k p.2

theorem optKept_some (h : Kept k s) : OptKept k (some s) := by intro t e; cases e; exact h
theorem optKept_none : OptKept k none := by intro t e; cases e
theorem optKept_ite {c : Prop} [Decidable c] {a b : Option State} (ha : OptKept k a) (hb : OptKept k b) : OptKept k (if c then a else b) := by
  split <;> assumption
theorem OptKept.get {r : Option State} (h : OptKept k r) (e : r = some s) : Kept k s := h s e
theorem OptKept.getD {r : Option State} (h : OptKept k r) (hs : Kept k s) : Kept k (r.getD s) := by
  cases r with
  | none => exact hs
  | some t => exact h t rfl
/-- The first of a list of answers. -/
theorem optKept_foldl {α : Type} {f : α → Option State} {l : List α} {o : Option State} (hf : ∀ a, OptKept k (f a)) (ho : OptKept k o) :
    OptKept k (l.foldl (fun x a => x.orElse fun _ => f a) o) := by
  induction l generalizing o with
  | nil => exact ho
  | cons a l ih =>
    apply ih
    cases o with
    | none => exact hf a
    | some t => exact ho
theorem optKept2_some {α : Type} {a : α} (h : Kept k s) : OptKept2 k (some (a, s)) := by intro t e; cases e; exact h
theorem optKept2_none {α : Type} : OptKept2 (α := α) k none := by intro t e; cases e
theorem OptKept2.map {α : Type} {r : Option (α × State)} (h : OptKept2 k r) : OptKept k (r.map fun p => p.2) := by
  cases r with
  | none => exact optKept_none
  | some p => exact optKept_some (h p rfl)
theorem OptKept2.get {α : Type} {a : α} {r : Option (α × State)} (h : OptKept2 k r) (e : r = some (a, s)) : Kept k s := h _ e
theorem exKept_ok {ε : Type} (h : Kept k s) : ExKept (ε := ε) k (.ok s) := by intro t e; cases e; exact h
theorem exKept_error {ε : Type} {e : ε} : ExKept k (.error e) := by intro t e; cases e
theorem ExKept.get {ε : Type} {r : Except ε State} (h : ExKept k r) (e : r = .ok s) : Kept k s := h s e
/-- A fold of answers that stops at an error. -/
theorem exKept_foldl {ε α : Type} {f : Except ε State → α → Except ε State} {l : List α} {r : Except ε State}
    (hf : ∀ r a, ExKept k r → ExKept k (f r a)) (hr : ExKept k r) : ExKept k (l.foldl f r) := by
  induction l generalizing r with
  | nil => exact hr
  | cons a l ih => exact ih (hf r a hr)
theorem exKept2_ok {ε α : Type} {a : α} (h : Kept k s) : ExKept2 (ε := ε) k (.ok (a, s)) := by intro t e; cases e; exact h
theorem exKept2_error {ε α : Type} {e : ε} : ExKept2 (α := α) k (.error e) := by intro t e; cases e
theorem ExKept2.get {ε α : Type} {a : α} {r : Except ε (α × State)} (h : ExKept2 k r) (e : r = .ok (a, s)) : Kept k s := h _ e
theorem kept_of_snd {α : Type} {a : α} {r : α × State} (h : Kept k r.2) (e : r = (a, s)) : Kept k s := by subst e; exact h
theorem kept_of_fst {α : Type} {a : α} {r : State × α} (h : Kept k r.1) (e : r = (s, a)) : Kept k s := by subst e; exact h

/-- The next state of an outcome is kept. -/
def OutKept (k : Keep) (o : Host.Outcome State Fault Refusal) : Prop := ∀ s, o = .next s → Kept k s
theorem outKept_next (h : Kept k s) : OutKept k (.next s) := by intro t e; cases e; exact h

end Sys2Proof.Machine
end

