-- ==== Sys2Proof/Laws/Memory.lean ====
section
/-! SUPPORT. Memory read after it is written (10 R247, R252). -/
namespace Sys2Proof.Machine

/-- An address below every listed one reads as unlisted. -/
theorem byteAt_low {m : List Host.Cell} {lo a : Nat} (w : Memory.wfFrom lo m = true) (h : a < lo) : byteAt m a = 0 := by
  induction m generalizing lo with
  | nil => rfl
  | cons c r ih =>
    simp only [Memory.wfFrom, Bool.and_eq_true, decide_eq_true_eq] at w
    unfold byteAt
    rw [if_neg (by omega)]
    exact ih w.2 (by omega)

theorem byteAt_putByte {m : List Host.Cell} {lo : Nat} (w : Memory.wfFrom lo m = true) (a : Nat) (b : Byte) (k : Nat) :
    byteAt (putByte m a b) k = if k = a then b else byteAt m k := by
  induction m generalizing lo with
  | nil =>
    unfold putByte
    by_cases hb : b = 0
    · rw [if_pos hb, hb]; simp [byteAt]
    · rw [if_neg hb]
      by_cases hk : k = a
      · simp [byteAt, hk]
      · simp [byteAt, hk, Ne.symm hk]
  | cons c r ih =>
    have w' := w
    simp only [Memory.wfFrom, Bool.and_eq_true, decide_eq_true_eq] at w
    unfold putByte
    by_cases h1 : c.1 < a
    · rw [if_pos h1]
      unfold byteAt
      by_cases hk : c.1 = k
      · rw [if_pos hk, if_pos hk, if_neg (by omega)]
      · rw [if_neg hk, if_neg hk]
        exact ih w.2
    · rw [if_neg h1]
      by_cases h2 : c.1 = a
      · rw [if_pos h2]
        by_cases hb : b = 0
        · rw [if_pos hb, hb]
          by_cases hk : k = a
          · rw [if_pos hk, hk]; exact byteAt_low w.2 (by omega)
          · rw [if_neg hk]
            unfold byteAt
            rw [if_neg (by omega)]
            cases r <;> rfl
        · rw [if_neg hb]
          unfold byteAt
          by_cases hk : k = a
          · rw [if_pos hk.symm, if_pos hk]
          · rw [if_neg (fun e => hk e.symm), if_neg hk, if_neg (by omega)]
      · rw [if_neg h2]
        have low : k = a → byteAt (c :: r) k = 0 := fun e => byteAt_low (lo := c.1) (by
          simp only [Memory.wfFrom, Bool.and_eq_true, decide_eq_true_eq]; exact ⟨⟨by omega, w.1.2⟩, w.2⟩) (by omega)
        by_cases hb : b = 0
        · rw [if_pos hb, hb]
          by_cases hk : k = a
          · rw [if_pos hk]; exact low hk
          · rw [if_neg hk]
        · rw [if_neg hb]
          by_cases hk : k = a
          · rw [if_pos hk]; unfold byteAt; rw [if_pos hk.symm]
          · rw [if_neg hk]
            have : byteAt ((a, b) :: c :: r) k = byteAt (c :: r) k := by
              rw [byteAt]; exact if_neg (fun e => hk e.symm)
            exact this

theorem byteAt_writeBytes {m : List Host.Cell} (w : Memory.wf m = true) (a : Nat) (l : List Byte) (k : Nat) :
    byteAt (writeBytes m a l) k = if h : a ≤ k ∧ k < a + l.length then l[k - a]'(by omega) else byteAt m k := by
  induction l generalizing m a with
  | nil => rw [dif_neg (by simp only [List.length_nil]; omega)]; rfl
  | cons b bs ih =>
    have e : writeBytes m a (b :: bs) = writeBytes (putByte m a b) (a + 1) bs := rfl
    rw [e, ih (putByte_wfFrom (Nat.zero_le _) w), byteAt_putByte w]
    by_cases hk : k = a
    · subst hk
      rw [dif_neg (by omega), if_pos rfl, dif_pos (by simp only [List.length_cons]; omega)]
      simp
    · by_cases hin : a ≤ k ∧ k < a + (b :: bs).length
      · rw [dif_pos hin, dif_pos (by simp only [List.length_cons] at hin; omega)]
        have : k - a = (k - (a + 1)) + 1 := by omega
        simp only [this, List.getElem_cons_succ]
      · rw [dif_neg hin, dif_neg (by simp only [List.length_cons] at hin; omega), if_neg hk]

end Sys2Proof.Machine
end

