-- ==== Sys2Proof/Laws/Stores.lean ====
section
/-! SUPPORT. Writes of memory as a requester makes them: the bytes, the error marks, and the rings of queues. -/
namespace Sys2Proof.Machine

theorem toBytes_length (n v : Nat) : (toBytes n v).length = n := by
  induction n generalizing v with
  | zero => rfl
  | succ n ih => unfold toBytes; rw [List.length_cons, ih]

theorem toBytes_get (n v k : Nat) (h : k < (toBytes n v).length) : (toBytes n v)[k] = BitVec.ofNat 8 (v / 256 ^ k) := by
  induction n generalizing v k with
  | zero => exact absurd h (Nat.not_lt_zero _)
  | succ n ih =>
    unfold toBytes
    cases k with
    | zero => simp
    | succ k =>
      rw [List.getElem_cons_succ, ih, Nat.div_div_eq_div_mul, Nat.pow_succ, Nat.mul_comm]

theorem wrote_store {u : State} (w : Memory.wf u.mem = true) (a n v : Nat) : Wrote u (u.store a n v) a n v := by
  intro k
  change byteAt (writeBytes u.mem a (toBytes n v)) k = _
  rw [byteAt_writeBytes w]
  by_cases h : a ≤ k ∧ k < a + n
  · rw [if_pos h, dif_pos (by rw [toBytes_length]; exact h), toBytes_get]
  · rw [if_neg h, dif_neg (by rw [toBytes_length]; exact h)]


theorem noteWrite_calm {s : State} (hb : ∀ d, (s.tile d).borrow = none) (hd : s.drRush = none) (a : Nat) : s.noteWrite a = s := by
  unfold State.noteWrite
  dsimp only
  split
  · rw [hb]
  · rw [hd]

theorem put_calm {s : State} (hb : ∀ d, (s.tile d).borrow = none) (hd : s.drRush = none) (a n v : Nat) : s.put a n v = (s.store a n v).clearEcc a n := by
  unfold State.put
  have h1 : ∀ k, ((s.store a n v).clearEcc a n).noteWrite k = (s.store a n v).clearEcc a n := fun k => noteWrite_calm (s := (s.store a n v).clearEcc a n) hb hd k
  rw [h1]
  generalize List.range ((n + 7) / 8) = l
  induction l with
  | nil => rfl
  | cons k l ih => rw [List.foldl_cons, h1]; exact ih

theorem clearEcc_clean {s : State} {a n : Nat} (h : s.clean a n) : s.clearEcc a n = s := by
  have hw : ∀ w, a ≤ 8 * w ∧ 8 * w + 8 ≤ a + n → a / 8 ≤ w ∧ w ≤ (a + n - 1) / 8 := fun w q => by omega
  have hb : ∀ w, a ≤ 8 * w ∧ 8 * w + 8 ≤ a + n → s.ecc.unc.contains w = false ∧ s.ecc.poison.contains w = false := by
    intro w q
    have h1 := h.1
    unfold State.badWord at h1
    rw [List.any_eq_false] at h1
    have := h1 (w - a / 8) (by rw [List.mem_range]; omega)
    rw [show a / 8 + (w - a / 8) = w by omega] at this
    simpa using this
  have key : ∀ l : List Nat, (∀ w ∈ l, ¬(a ≤ 8 * w ∧ 8 * w + 8 ≤ a + n)) → l.filter (fun w => !(decide (a ≤ 8 * w) && decide (8 * w + 8 ≤ a + n))) = l := by
    intro l q
    rw [List.filter_eq_self]
    intro w m
    have := q w m
    simp only [Bool.not_eq_true', Bool.and_eq_false_iff, decide_eq_false_iff_not]
    omega
  unfold State.clearEcc
  dsimp only
  rw [key _ fun w m q => by have := (hb w q).1; simp at this; exact this m, key _ fun w m q => h.2 w m (hw w q), key _ fun w m q => by have := (hb w q).2; simp at this; exact this m]

theorem useCor_clean {s : State} {a n : Nat} (h : s.clean a n) (k : Bool) : s.useCor a n k = s := by
  have : (s.ecc.cor).filter (fun w => decide (a / 8 ≤ w) && decide (w ≤ (a + n - 1) / 8)) = [] := by
    rw [List.filter_eq_nil_iff]
    intro w m
    have := h.2 w m
    simp only [Bool.and_eq_true, decide_eq_true_eq]
    exact this
  unfold State.useCor
  dsimp only
  rw [this]
  rfl

/-- The access of a clean word, as what it does to memory. -/
theorem access_clean {s : State} {m : MemReq} (hb : ∀ d, (s.tile d).borrow = none) (hd : s.drRush = none) (hc : s.clean m.addr m.size) :
    s.access m = ⟨if m.op = .write then 0 else s.load m.addr m.size, 0, if m.op = .read then s else s.store m.addr m.size (m.newVal (s.load m.addr m.size))⟩ := by
  have hs : ∀ v, (s.store m.addr m.size v).clearEcc m.addr m.size = s.store m.addr m.size v := fun v => clearEcc_clean (s := s.store m.addr m.size v) hc
  unfold State.access
  dsimp only
  have hput : ∀ v, s.put m.addr m.size v = s.store m.addr m.size v := fun v => (put_calm hb hd _ _ _).trans (hs v)
  simp only [useCor_clean hc, hc.1, hput]
  have hnv : m.op ≠ .add → m.newVal (s.load m.addr m.size) = m.data := by
    intro h; unfold MemReq.newVal; cases ho : m.op <;> rw [ho] at h <;> first | rfl | exact absurd rfl h
  cases ho : m.op
  · rfl
  · simp [hnv (by rw [ho]; decide), hput]
  · rfl
  · rfl

theorem performed_clean {s : State} {m : MemReq} (w : Memory.wf s.mem = true) {t : State} (h : t.mem = (if m.op = .read then s else s.store m.addr m.size (m.newVal (s.load m.addr m.size))).mem) :
    Performed s t m := by
  have key : ∀ v, t.mem = (s.store m.addr m.size v).mem → Wrote s t m.addr m.size v := by
    intro v e k
    rw [e]
    exact wrote_store w _ _ _ k
  unfold Performed
  cases ho : m.op
  · rw [ho] at h; exact h
  · rw [ho] at h; exact key _ (by rw [h]; unfold MemReq.newVal; rw [ho]; rfl)
  · rw [ho] at h; exact key _ (by rw [h]; unfold MemReq.newVal; rw [ho]; rfl)
  · rw [ho] at h; exact key _ (by rw [h]; unfold MemReq.newVal; rw [ho]; rfl)

theorem threadPart_thr (s : State) (m : MemReq) (c n old : Nat) : (s.threadPart c n m.id m.off (if m.op = .write then 0 else old) 0 (decide (m.op ≠ .read))).thr c n = (s.thr c n).served m old := by
  unfold State.threadPart State.onThr
  rw [State.thr_setThr_self]
  unfold Thread.served
  have : b2n (decide (m.op ≠ .read)) = if m.op = .read then 0 else 1 := by cases m.op <;> rfl
  rw [this]
  have hm : (fun l : Load => if l.id = m.id then l.part m.off (if m.op = .write then 0 else old) 0 else l) =
      fun l => if l.id = m.id then { l with parts := l.parts - 1, acc := l.acc + (if m.op = .write then 0 else old) * 256 ^ m.off } else l := by
    funext l
    unfold Load.part
    by_cases h : l.id = m.id
    · rw [if_pos h, if_pos h]
      by_cases hc : l.code = 0
      · rw [if_pos hc, hc]
      · rw [if_neg hc]
    · rw [if_neg h, if_neg h]
  rw [hm]



theorem Only.clearEcc {ch : Changes} {u s : State} (h : Only ch u s) (a n : Nat) (m : .ecc ∈ ch.parts) : Only ch u (s.clearEcc a n) := h.ecc_ _ m

theorem Only.put {ch : Changes} {u s : State} (h : Only ch u s) (hb : ∀ d, (s.tile d).borrow = none) (hd : s.drRush = none) (a n v : Nat) (m : .mem ∈ ch.parts) (m2 : .ecc ∈ ch.parts) : Only ch u (s.put a n v) := by
  rw [put_calm hb hd]
  exact (h.store m).ecc_ _ m2

/-- An entry of a ring is written. -/
theorem qWrite_calm {s : State} (hb : ∀ d, (s.tile d).borrow = none) (hd : s.drRush = none) (t q n : Nat) (k : Token) :
    s.qWrite t q n k = (s.store (s.ringAddr t (s.qAddr t q n)) 32 k.num).clearEcc (s.ringAddr t (s.qAddr t q n)) 32 := put_calm hb hd _ _ _

theorem oldestWait_none {s : State} {p : Thread → Bool} {c : Nat} (h : ∀ k < 16, p (s.thr c k) = false) : oldestWait s p (coreThreads c) = none := by
  unfold oldestWait
  have : (coreThreads c).filter (fun k => p (s.thr k.1 k.2)) = [] := by
    rw [List.filter_eq_nil_iff]
    intro k hk
    unfold coreThreads at hk
    obtain ⟨j, hj, rfl⟩ := List.mem_map.1 hk
    simpa using h j (by simpa using hj)
  rw [this]
  rfl

theorem qServe_none {s : State} {t q : Nat} (h : ∀ k < 16, waitsQ q (s.thr t k) = false) (n : Nat) : s.qServe t q n = s := by
  cases n with
  | zero => rfl
  | succ n =>
    unfold State.qServe
    split
    · rfl
    · rw [oldestWait_none h]

theorem qMarks_off {s : State} {t q : Nat} (h : s.fget F.QCFG_WMEN t q ≠ 1) : s.qMarks t q = s := by
  unfold State.qMarks
  rw [if_neg h]

theorem thr_clearEcc (s : State) (a n c k : Nat) : (s.clearEcc a n).thr c k = s.thr c k := rfl

theorem fget_clearEcc (s : State) (a n : Nat) (f : Fld) (x y : Nat) : (s.clearEcc a n).fget f x y = s.fget f x y := rfl

theorem fget_store (s : State) (a n v : Nat) (f : Fld) (x y : Nat) : (s.store a n v).fget f x y = s.fget f x y := rfl

theorem thr_store (s : State) (a n v c k : Nat) : (s.store a n v).thr c k = s.thr c k := rfl

/-- A push by hardware, where no thread waits and no watermark is enabled. -/
theorem qPut_calm {s : State} {t q : Nat} {k : Token} (hb : ∀ d, (s.tile d).borrow = none) (hd : s.drRush = none) (hw : ∀ j < 16, waitsQ q (s.thr t j) = false) (hm : s.fget F.QCFG_WMEN t q ≠ 1) :
    s.qPut t q k = (s.qWrite t q (s.fget F.QPTR_TAIL t q) k).fset F.QPTR_TAIL t q (s.fget F.QPTR_TAIL t q + 1) := by
  unfold State.qPut
  dsimp only
  have h1 : ∀ j < 16, waitsQ q (((s.qWrite t q (s.fget F.QPTR_TAIL t q) k).fset F.QPTR_TAIL t q (s.fget F.QPTR_TAIL t q + 1)).thr t j) = false := by
    intro j hj
    rw [State.thr_fset, qWrite_calm hb hd, thr_clearEcc, thr_store]
    exact hw j hj
  have h2 : ((s.qWrite t q (s.fget F.QPTR_TAIL t q) k).fset F.QPTR_TAIL t q (s.fget F.QPTR_TAIL t q + 1)).fget F.QCFG_WMEN t q ≠ 1 := by
    rw [fget_fset_kind _ (by decide), qWrite_calm hb hd, fget_clearEcc, fget_store]
    exact hm
  rw [qServe_none h1, qMarks_off h2]

end Sys2Proof.Machine
end

