-- ==== Sys2Proof/Laws/Queues.lean ====
section
/-! SUPPORT. Hardware queues and fault tokens: what a push, a pop and a report of a fault do where nothing waits. -/
namespace Sys2Proof.Machine

/-- One change after another. -/
theorem Only.trans {ch : Changes} {u s t : State} (a : Only ch u s) (b : Only ch s t) : Only ch u t where
  queue := b.queue.trans a.queue
  regs k x i n := (b.regs k x i n).trans (a.regs k x i n)
  threads c n l m := (b.threads c n l m).trans (a.threads c n l m)
  tiles c m := (b.tiles c m).trans (a.tiles c m)
  lanes c m := (b.lanes c m).trans (a.lanes c m)
  links c m := (b.links c m).trans (a.links c m)
  ctxs c m := (b.ctxs c m).trans (a.ctxs c m)
  parts p m := by
    have x := a.parts p m
    have y := b.parts p m
    cases p <;> simp only [Part.same] at x y ⊢ <;> first
      | exact y.trans x
      | exact ⟨y.1.trans x.1, y.2.trans x.2⟩
      | exact ⟨y.1.trans x.1, y.2.1.trans x.2.1, y.2.2.trans x.2.2⟩

theorem State.fget_lt (s : State) (f : Fld) (a i : Nat) : s.fget f a i < 2 ^ f.len := by
  unfold State.fget wbits bits
  exact Nat.mod_lt _ (Nat.two_pow_pos _)

/-! ### Lists -/

theorem takeFirst_split {α : Type} (p : α → Bool) (l q : List α) (d : α) (hp : ∀ e ∈ l, p e = false) (hd : p d = true) : takeFirst p (l ++ d :: q) = some (d, l ++ q) := by
  induction l with
  | nil => simp [takeFirst, hd]
  | cons a l ih =>
    have ih := ih fun e m => hp e (List.mem_cons_of_mem _ m)
    simp [takeFirst, hp a (List.mem_cons_self ..), ih]

theorem takeFirst_none {α : Type} (p : α → Bool) (l : List α) (hp : ∀ e ∈ l, p e = false) : takeFirst p l = none := by
  induction l with
  | nil => rfl
  | cons a l ih => simp [takeFirst, hp a (List.mem_cons_self ..), ih fun e m => hp e (List.mem_cons_of_mem _ m)]

/-! ### Memory as numbers -/

theorem ofBytes_lt (l : List Byte) : ofBytes l < 256 ^ l.length := by
  induction l with
  | nil => exact Nat.one_pos
  | cons b l ih =>
    have := b.isLt
    unfold ofBytes
    rw [List.length_cons, Nat.pow_succ]
    omega

theorem readBytes_length (m : List Host.Cell) (a n : Nat) : (readBytes m a n).length = n := by
  induction n generalizing a with
  | zero => rfl
  | succ n ih => unfold readBytes; rw [List.length_cons, ih]

theorem load_lt (s : State) (a n : Nat) : s.load a n < 256 ^ n := by
  unfold State.load
  have := ofBytes_lt (readBytes s.mem a n)
  rwa [readBytes_length] at this

/-- Byte j of what is loaded is the byte there. -/
theorem ofBytes_byte (m : List Host.Cell) (a n j : Nat) (h : j < n) : BitVec.ofNat 8 (ofBytes (readBytes m a n) / 256 ^ j) = byteAt m (a + j) := by
  induction n generalizing a j with
  | zero => exact absurd h (Nat.not_lt_zero _)
  | succ n ih =>
    unfold readBytes ofBytes
    cases j with
    | zero =>
      apply BitVec.eq_of_toNat_eq
      have := (byteAt m a).isLt
      simp only [BitVec.toNat_ofNat, Nat.pow_zero, Nat.div_one, Nat.add_zero]
      omega
    | succ j =>
      have e : ((byteAt m a).toNat + 256 * ofBytes (readBytes m (a + 1) n)) / 256 ^ (j + 1) = ofBytes (readBytes m (a + 1) n) / 256 ^ j := by
        rw [Nat.pow_succ, Nat.mul_comm (256 ^ j) 256, ← Nat.div_div_eq_div_mul]
        have h2 := (byteAt m a).isLt
        have h3 : ((byteAt m a).toNat + 256 * ofBytes (readBytes m (a + 1) n)) / 256 = ofBytes (readBytes m (a + 1) n) := by omega
        rw [h3]
      rw [e, ih _ _ (by omega)]
      congr 1
      omega

theorem load_byte (s : State) (a n j : Nat) (h : j < n) : BitVec.ofNat 8 (s.load a n / 256 ^ j) = byteAt s.mem (a + j) := ofBytes_byte _ _ _ _ h

/-- A token read from 32 bytes is those bytes. -/
theorem num_ofNum {v : Nat} (h : v < 256 ^ 32) : (Token.ofNum v).num = v := by
  unfold Token.ofNum Token.num wd
  simp only [BitVec.toNat_ofNat]
  have e : (256 : Nat) ^ 32 = 2 ^ 256 := by decide
  rw [e] at h
  omega

theorem div_quarter (x j : Nat) : x / 256 ^ (j + 1) = x / 4 / (64 * 256 ^ j) := by
  have : 256 ^ (j + 1) = 4 * (64 * 256 ^ j) := by rw [Nat.pow_succ]; omega
  rw [Nat.div_div_eq_div_mul, this]

/-- The LAST bit of the token at A set to b: one byte of memory changes. -/
theorem markEntry {s : State} (w : Memory.wf s.mem = true) (A : Nat) (b : Bool) (k : Nat) :
    byteAt (s.store A 32 ({ Token.ofNum (s.load A 32) with tag := wset (Token.ofNum (s.load A 32)).tag 1 1 (b2n b) } : Token).num).mem k =
      if k = A then (byteAt s.mem A &&& ~~~2) ||| (if b then 2 else 0) else byteAt s.mem k := by
  have hl := load_lt s A 32
  generalize hL : s.load A 32 = L at hl ⊢
  have hb : ∀ j < 32, BitVec.ofNat 8 (L / 256 ^ j) = byteAt s.mem (A + j) := fun j hj => hL ▸ load_byte s A 32 j hj
  have hbn : b2n b < 2 := by cases b <;> decide
  obtain ⟨V, hV⟩ : ∃ V, V = ({ Token.ofNum L with tag := wset (Token.ofNum L).tag 1 1 (b2n b) } : Token).num := ⟨_, rfl⟩
  have hn : V + L / 2 % 2 * 2 = L + b2n b * 2 := by
    have h0 := num_ofNum hl
    rw [hV]
    unfold Token.num Token.ofNum wset setBits bits wd at *
    simp only [BitVec.toNat_ofNat] at *
    generalize b2n b = z at *
    omega
  rw [← hV]
  have hw := wrote_store w A 32 V k
  rw [hw]
  by_cases hk : k = A
  · subst hk
    rw [if_pos ⟨Nat.le_refl _, by omega⟩, if_pos rfl, ← show BitVec.ofNat 8 L = byteAt s.mem k by have := hb 0 (by decide); simpa using this]
    rw [Nat.sub_self, Nat.pow_zero, Nat.div_one]
    have e1 : V % 256 = L % 256 - L / 2 % 2 * 2 + b2n b * 2 := by omega
    have key : ∀ x : BitVec 8, ∀ z : Bool, BitVec.ofNat 8 (x.toNat - x.toNat / 2 % 2 * 2 + b2n z * 2) = (x &&& ~~~2) ||| (if z then 2 else 0) := by decide
    have := key (BitVec.ofNat 8 L) b
    rw [← this]
    apply BitVec.eq_of_toNat_eq
    simp only [BitVec.toNat_ofNat]
    omega
  · rw [if_neg hk]
    by_cases hin : A ≤ k ∧ k < A + 32
    · rw [if_pos hin]
      have := hb (k - A) (by omega)
      rw [show A + (k - A) = k by omega] at this
      rw [← this]
      have e : V / 4 = L / 4 := by omega
      obtain ⟨j, hj⟩ : ∃ j, k - A = j + 1 := ⟨k - A - 1, by omega⟩
      rw [hj, div_quarter, div_quarter L, e]
    · rw [if_neg hin]

/-! ### What the registers give -/

theorem fget_of {s u : State} (h : ∀ k a i, s.reg k a i = u.reg k a i) (f : Fld) (a i : Nat) : s.fget f a i = u.fget f a i := by
  unfold State.fget; rw [h]

theorem entryAt_of {s u : State} (h : ∀ k a i, s.reg k a i = u.reg k a i) (t q i : Nat) : s.entryAt t q i = u.entryAt t q i := by
  unfold State.entryAt State.ringAddr State.qAddr State.qSize State.region State.dsize
  simp only [fget_of h]

theorem routerOf_of {s u : State} (h : ∀ k a i, s.reg k a i = u.reg k a i) (t : Nat) : s.routerOf t = u.routerOf t := by
  unfold State.routerOf State.physOf
  simp only [fget_of h]

theorem mkFault_of {s u : State} (h : ∀ k a i, s.reg k a i = u.reg k a i) (tag : Word) (l : Option Token) (code src tile addr : Nat) : s.mkFault tag l code src tile addr = u.mkFault tag l code src tile addr := by
  unfold State.mkFault State.faultVal State.count State.devnum
  simp only [fget_of h]

theorem qRoom_of {s u : State} (h : ∀ k a i, s.reg k a i = u.reg k a i) (t q : Nat) : s.qRoom t q = u.qRoom t q := by
  unfold State.qRoom State.qOcc State.qSize
  simp only [fget_of h]


/-! ### Pushes -/

theorem ringAddr_store (s : State) (a n v t b : Nat) : (s.store a n v).ringAddr t b = s.ringAddr t b := rfl

theorem ringAddr_clearEcc (s : State) (a n t b : Nat) : (s.clearEcc a n).ringAddr t b = s.ringAddr t b := rfl

theorem clearEcc_mem (s : State) (a n : Nat) : (s.clearEcc a n).mem = s.mem := rfl

theorem qPut_pushed {u : State} {d q : Nat} {k : Token} (h : u.Still) (hq : u.QuietQ d q) : Pushed u (u.qPut d q k) d q k := by
  rw [qPut_calm h.banks h.dram hq.threads hq.marks, qWrite_calm h.banks h.dram]
  refine ⟨?_, ?_, ?_, ?_, ?_⟩
  · intro j
    rw [State.fset_mem, clearEcc_mem]
    exact wrote_store h.form _ _ _ j
  · rw [State.fget_fset_self _ _ _ _ _ (by decide)]; rfl
  · simp (disch := decide) only [State.fget_fset_field, fget_clearEcc, fget_store]
  · simp (disch := decide) only [State.fget_fset_field, fget_clearEcc, fget_store]
  · simp (disch := decide) only [State.fget_fset_field, fget_clearEcc, fget_store]

theorem Only.qPut {ch : Changes} {u s : State} (o : Only ch u s) {d q : Nat} {k : Token} (h : s.Still) (hq : s.QuietQ d q) (m : (.QPTR, d, q) ∈ ch.regs) (m1 : .mem ∈ ch.parts) (m2 : .ecc ∈ ch.parts) :
    Only ch u (s.qPut d q k) := by
  rw [qPut_calm h.banks h.dram hq.threads hq.marks]
  exact (o.put h.banks h.dram _ _ _ m1 m2).fset _ m

theorem tile_clearEcc (s : State) (a n d : Nat) : (s.clearEcc a n).tile d = s.tile d := rfl

theorem tile_store (s : State) (a n v d : Nat) : (s.store a n v).tile d = s.tile d := rfl

theorem qPut_tile {s : State} {d q : Nat} {k : Token} (h : s.Still) (hq : s.QuietQ d q) (e : Nat) : (s.qPut d q k).tile e = s.tile e := by
  rw [qPut_calm h.banks h.dram hq.threads hq.marks, qWrite_calm h.banks h.dram, State.tile_fset, tile_clearEcc, tile_store]

theorem qPut_thr {s : State} {d q : Nat} {k : Token} (h : s.Still) (hq : s.QuietQ d q) (e j : Nat) : (s.qPut d q k).thr e j = s.thr e j := by
  rw [qPut_calm h.banks h.dram hq.threads hq.marks, qWrite_calm h.banks h.dram, State.thr_fset, thr_clearEcc, thr_store]

theorem pushq_clearEcc (s : State) (a n : Nat) : (s.clearEcc a n).pushq = s.pushq := rfl

theorem qPut_pushq {s : State} {d q : Nat} {k : Token} (h : s.Still) (hq : s.QuietQ d q) : (s.qPut d q k).pushq = s.pushq := by
  rw [qPut_calm h.banks h.dram hq.threads hq.marks, qWrite_calm h.banks h.dram, State.fset_pushq, pushq_clearEcc, State.store_pushq]

theorem Pushed.setThr {u t : State} {d q : Nat} {k : Token} (c n : Nat) (x : Thread) (h : Pushed u t d q k) : Pushed u (t.setThr c n x) d q k :=
  ⟨h.1, h.2.1, h.2.2.1, h.2.2.2.1, h.2.2.2.2⟩

/-- The report of a fault. -/
theorem pushFault_reported {u : State} {d : Nat} {k : Token} (h : u.Still) (hq : u.QuietQ d 255) : Reported u (u.pushFault d k) d k := by
  unfold State.pushFault
  constructor
  · intro e
    rw [if_pos e]
    exact qPut_pushed h hq
  · intro e
    rw [if_neg e]
    refine ⟨rfl, ?_, ?_, ?_⟩
    · rw [reg_fset_kind _ (by decide), reg_inc_kind (by decide)]
    · unfold Counted
      rw [fget_fset_kind _ (by decide), fget_inc _ _ _ _ (by decide)]
    · rw [State.fget_fset_self _ _ _ _ _ (by decide)]; rfl

theorem Only.pushFault {ch : Changes} {u s : State} (o : Only ch u s) {d : Nat} {k : Token} (h : s.Still) (hq : s.QuietQ d 255) (m : ∀ x ∈ (reportChanges d).regs, x ∈ ch.regs)
    (m1 : .mem ∈ ch.parts) (m2 : .ecc ∈ ch.parts) : Only ch u (s.pushFault d k) := by
  unfold State.pushFault
  split
  · exact o.qPut h hq (m _ (by simp [reportChanges])) m1 m2
  · exact (o.inc (m (.FQLOST, d, 0) (by simp [reportChanges]))).fset _ (m (.SCHSTAT, d, 0) (by simp [reportChanges]))

/-! ### From the state of the issue -/

section
variable {u s : State} {c n : Nat}

theorem Began.still (h : Began u s c n) (q : u.Still) : s.Still where
  banks := by
    intro d
    by_cases e : d = c
    · subst e
      have := congrArg Tile.borrow h.tile
      exact this.trans (q.banks d)
    · rw [h.only.tiles d (by simp [issueChanges, e])]
      exact q.banks d
  dram := by
    have := h.part .rush
    exact this.1.trans q.dram
  form := by
    have : s.mem = u.mem := h.part .mem
    rw [this]; exact q.form

theorem Began.quietQ (h : Began u s c n) {t q : Nat} (w : u.QuietQ t q) : s.QuietQ t q where
  threads := by
    intro j hj
    by_cases e : t = c ∧ j = n
    · obtain ⟨rfl, rfl⟩ := e
      rw [h.thread]
      exact w.threads j hj
    · rw [h.only.threads t j hj (by simp [issueChanges]; exact fun a b => e ⟨a, b⟩)]
      exact w.threads j hj
  marks := by
    rw [h.fget t q (by decide) (by decide) (by decide)]
    exact w.marks

theorem Began.qfget (h : Began u s c n) {f : Fld} (t q : Nat) (k : f.kind = .QPTR ∨ f.kind = .QCFG ∨ f.kind = .QBASE) : s.fget f t q = u.fget f t q := by
  rcases k with k | k | k <;> exact h.fget t q (by rw [k]; decide) (by rw [k]; decide) (by rw [k]; decide)

theorem Began.qOcc (h : Began u s c n) (t q : Nat) : s.qOcc t q = u.qOcc t q := by
  unfold State.qOcc
  rw [h.qfget t q (.inl rfl), h.qfget t q (.inl rfl)]

theorem Began.qSize (h : Began u s c n) (t q : Nat) : s.qSize t q = u.qSize t q := by
  unfold State.qSize
  rw [h.qfget t q (.inr (.inl rfl))]

theorem Began.qRoom (h : Began u s c n) (t q : Nat) : s.qRoom t q = u.qRoom t q := by
  unfold State.qRoom
  rw [h.qfget t q (.inr (.inl rfl)), h.qfget t q (.inr (.inl rfl)), h.qOcc, h.qSize]

theorem Began.entryAt (h : Began u s c n) (t q i : Nat) : s.entryAt t q i = u.entryAt t q i := by
  unfold State.entryAt State.ringAddr State.qAddr
  rw [h.region, h.qfget t q (.inr (.inr rfl)), h.qSize]

theorem Began.mem (h : Began u s c n) : s.mem = u.mem := h.part .mem

theorem Began.pushed (h : Began u s c n) {t : State} {d q : Nat} {k : Token} (p : Pushed s t d q k) : Pushed u t d q k := by
  obtain ⟨h1, h2, h3, h4, h5⟩ := p
  have e1 := h.qfget (f := F.QPTR_TAIL) d q (.inl rfl)
  rw [e1, h.entryAt] at h1
  rw [e1] at h2
  refine ⟨?_, h2, h3.trans (h.qfget d q (.inl rfl)), h4.trans (h.qfget d q (.inl rfl)), h5.trans (h.qfget d q (.inl rfl))⟩
  unfold Wrote at h1 ⊢
  rw [h.mem] at h1
  exact h1

theorem Began.chanOwner (h : Began u s c n) (t q : Nat) : s.chanOwner t q = u.chanOwner t q := by
  unfold State.chanOwner
  rw [h.qfget t q (.inl rfl), h.qfget t q (.inl rfl)]

theorem Began.tok4 (h : Began u s c n) (k : Nat) : (s.thr c n).tok4 k = (u.thr c n).tok4 k := by
  unfold Thread.tok4
  rw [h.getW, h.getW, h.getW, h.getW]

theorem Began.mesh (h : Began u s c n) : s.mesh = u.mesh := h.part .mesh

theorem Began.routerOf (h : Began u s c n) (t : Nat) : s.routerOf t = u.routerOf t := by
  unfold State.routerOf State.physOf
  rw [h.fget 0 t (by decide) (by decide) (by decide)]

theorem Began.freeWay (h : Began u s c n) {r : Nat} {e : Bool} {p : Packet} (w : u.freeWay r e p) : s.freeWay r e p := by
  unfold State.freeWay State.retq State.fencedAt State.bufUsed State.buf at w ⊢
  rw [h.mesh]
  exact w
end

/-- A packet leaves at once. -/
theorem inject_free {s : State} {r : Nat} {e : Bool} {p : Packet} (w : s.freeWay r e p) :
    s.inject r e p = .sent (s.bump.setBuf (portKey r e p) (s.buf (portKey r e p) ++ ({ p with arr := s.now, stamp := s.seqNo + 1 } : Packet).flits)) := by
  obtain ⟨h1, h2, h3, h4⟩ := w
  unfold State.inject
  dsimp only
  rw [h1, h2, h3]
  rw [if_neg (by simp), if_neg (by simp), if_neg (by simp)]
  exact if_pos h4

theorem offered_setBuf (u : State) (r : Nat) (e : Bool) (p : Packet) :
    Offered u (u.bump.setBuf (portKey r e p) (u.buf (portKey r e p) ++ ({ p with arr := u.now, stamp := u.seqNo + 1 } : Packet).flits)) r e p := rfl

theorem Only.setBuf {ch : Changes} {u s : State} (h : Only ch u s) (k : PortKey) (l : List Packet) (m : .mesh ∈ ch.parts) : Only ch u (s.setBuf k l) := h.mesh_ _ m

/-! ### From one state to another -/

theorem reg_of {s u : State} (h : s.regs = u.regs) (k : RegKind) (a i : Nat) : s.reg k a i = u.reg k a i := by
  unfold State.reg
  rw [h]

theorem Pushed.of {u s t : State} {d q : Nat} {k : Token} (h : Pushed s t d q k) (hm : s.mem = u.mem) (hf : ∀ g, g.kind = .QPTR → s.fget g d q = u.fget g d q) (he : ∀ i, s.entryAt d q i = u.entryAt d q i) : Pushed u t d q k := by
  obtain ⟨h1, h2, h3, h4, h5⟩ := h
  rw [hf _ rfl, he] at h1
  rw [hf _ rfl] at h2
  refine ⟨?_, h2, h3.trans (hf _ rfl), h4.trans (hf _ rfl), h5.trans (hf _ rfl)⟩
  unfold Wrote at h1 ⊢
  rw [hm] at h1
  exact h1

theorem Pushed.wake {u t : State} {d q : Nat} {k : Token} (c n : Nat) (r : WakeRes) (h : Pushed u t d q k) : Pushed u (t.wake c n r) d q k := by
  have hm : (t.wake c n r).mem = t.mem := by
    unfold State.wake; dsimp only
    split
    · split
      · unfold State.enterReady; dsimp only; split <;> rfl
      · rfl
    · rfl
  have hf : ∀ g, (t.wake c n r).fget g d q = t.fget g d q := fun g => by unfold State.fget; rw [wake_reg]
  obtain ⟨h1, h2, h3, h4, h5⟩ := h
  refine ⟨?_, (hf _).trans h2, (hf _).trans h3, (hf _).trans h4, (hf _).trans h5⟩
  unfold Wrote at h1 ⊢
  rw [hm]
  exact h1

theorem Reported.of {u s t : State} {d : Nat} {k : Token} (h : Reported s t d k) (hm : s.mem = u.mem) (hr : ∀ k a i, s.reg k a i = u.reg k a i) (he : ∀ i, s.entryAt d 255 i = u.entryAt d 255 i) : Reported u t d k := by
  have hf : ∀ g a i, s.fget g a i = u.fget g a i := fun g a i => by unfold State.fget; rw [hr]
  have hq : s.qRoom d 255 = u.qRoom d 255 := by unfold State.qRoom State.qOcc State.qSize; simp only [hf]
  refine ⟨fun e => (h.1 (hq.trans e)).of hm (fun g _ => hf g _ _) he, fun e => ?_⟩
  obtain ⟨a, b, c, d⟩ := h.2 (fun z => e (hq.symm.trans z))
  refine ⟨a.trans hm, b.trans (hr _ _ _), ?_, d⟩
  unfold Counted at c ⊢
  rw [c, hf]

theorem laneSlice_of {s u : State} (hf : ∀ a i, s.reg .LANECFG a i = u.reg .LANECFG a i) (l : Nat) : s.laneSlice l = u.laneSlice l := by
  unfold State.laneSlice State.fget
  simp only [hf, F.LANECFG_SPORT, F.LANECFG_SINK]

end Sys2Proof.Machine
end

