-- ==== Sys2Proof/Laws/Contexts.lean ====
section
/-! SUPPORT. What a write of a context descriptor does to the state: the descriptor, and its copy in memory while CTBASE is set. -/
namespace Sys2Proof.Machine
variable {ch : Changes} {u s : State}

/-- Where the copy of a descriptor lies in memory. -/
theorem setCtx_eq (s : State) (hb : ∀ d, (s.tile d).borrow = none) (hd : s.drRush = none) (c : Nat) (x : Ctx) :
    s.setCtx c x = if s.ctbaseSet then ((({ s with ctxs := tput s.ctxs c x } : State).store (s.fget F.CTBASE_BASE 0 0 * 2 ^ 21 + 32 * c) 32 x.num).clearEcc (s.fget F.CTBASE_BASE 0 0 * 2 ^ 21 + 32 * c) 32)
      else { s with ctxs := tput s.ctxs c x } := by
  unfold State.setCtx
  dsimp only
  split
  · exact put_calm (s := { s with ctxs := tput s.ctxs c x }) hb hd _ _ _
  · rfl

theorem tput_ctx (s : State) (c : Nat) (x : Ctx) : ({ s with ctxs := tput s.ctxs c x } : State).ctx c = x := by
  simp [State.ctx]

theorem tput_ctx_ne (s : State) {c d : Nat} (x : Ctx) (h : d ≠ c) : ({ s with ctxs := tput s.ctxs c x } : State).ctx d = s.ctx d := by
  unfold State.ctx
  exact tget_tput_ne _ _ _ h

/-- The descriptors of a state without its memory. -/
theorem ctx_store (s : State) (a n v b m c : Nat) : ((s.store a n v).clearEcc b m).ctx c = s.ctx c := rfl

theorem regs_ctxStore (s : State) (l : Tab Nat Ctx) (a n v b m : Nat) (k : RegKind) (x i : Nat) : ((({ s with ctxs := l } : State).store a n v).clearEcc b m).reg k x i = s.reg k x i := rfl

/-- The descriptor written, and with it some bytes of memory or none. -/
theorem setCtx_shape (st : s.Still) (c : Nat) (x : Ctx) :
    s.setCtx c x = { s with ctxs := tput s.ctxs c x } ∨ ∃ a n v, s.setCtx c x = (({ s with ctxs := tput s.ctxs c x } : State).store a n v).clearEcc a n := by
  have e := setCtx_eq s st.banks st.dram c x
  generalize s.fget F.CTBASE_BASE 0 0 * 2 ^ 21 + 32 * c = a at e
  generalize (32 : Nat) = n at e
  generalize x.num = v at e
  cases h : s.ctbaseSet
  · rw [h] at e; exact .inl e
  · rw [h] at e; exact .inr ⟨a, n, v, e⟩

theorem ctx_setCtx_self (st : s.Still) (c : Nat) (x : Ctx) : (s.setCtx c x).ctx c = x := by
  rcases setCtx_shape st c x with e | ⟨a, n, v, e⟩
  · rw [e, tput_ctx]
  · rw [e, ctx_store, tput_ctx]

theorem reg_setCtx (st : s.Still) (c : Nat) (x : Ctx) (k : RegKind) (a i : Nat) : (s.setCtx c x).reg k a i = s.reg k a i := by
  rcases setCtx_shape st c x with e | ⟨b, n, v, e⟩ <;> rw [e] <;> rfl

theorem tile_setCtx (st : s.Still) (c : Nat) (x : Ctx) (d : Nat) : (s.setCtx c x).tile d = s.tile d := by
  rcases setCtx_shape st c x with e | ⟨b, n, v, e⟩ <;> rw [e] <;> rfl

theorem ctl_setCtx (st : s.Still) (c : Nat) (x : Ctx) : (s.setCtx c x).ctl = s.ctl := by
  rcases setCtx_shape st c x with e | ⟨b, n, v, e⟩ <;> rw [e] <;> rfl

theorem ctbaseSet_setCtx (st : s.Still) (c : Nat) (x : Ctx) : (s.setCtx c x).ctbaseSet = s.ctbaseSet := by
  rcases setCtx_shape st c x with e | ⟨b, n, v, e⟩ <;> rw [e] <;> rfl

theorem Still.setCtx (st : s.Still) (c : Nat) (x : Ctx) : (s.setCtx c x).Still := by
  rcases setCtx_shape st c x with e | ⟨b, n, v, e⟩ <;> rw [e]
  · exact ⟨st.banks, st.dram, st.form⟩
  · exact ⟨st.banks, st.dram, writeBytes_wf st.form⟩

theorem Only.ctxs_ (h : Only ch u s) {c : Nat} (x : Ctx) (m : c ∈ ch.ctxs) : Only ch u { s with ctxs := tput s.ctxs c x } where
  queue := h.queue
  regs := h.regs
  threads := h.threads
  tiles := h.tiles
  lanes := h.lanes
  links := h.links
  ctxs d q := by
    have e : d ≠ c := fun k => q (k ▸ m)
    rw [tput_ctx_ne _ _ e]
    exact h.ctxs _ q
  parts := h.parts

theorem Only.setCtx (h : Only ch u s) (st : s.Still) {c : Nat} (x : Ctx) (m : c ∈ ch.ctxs) (m1 : .mem ∈ ch.parts) (m2 : .ecc ∈ ch.parts) : Only ch u (s.setCtx c x) := by
  rcases setCtx_shape st c x with e | ⟨b, n, v, e⟩ <;> rw [e]
  · exact h.ctxs_ x m
  · exact ((h.ctxs_ x m).store m1).clearEcc _ _ m2

theorem mem_ctxStore (s : State) (l : Tab Nat Ctx) (a n v : Nat) : ((({ s with ctxs := l } : State).store a n v).clearEcc a n).mem = (s.store a n v).mem := rfl

/-- The copy of the descriptor in memory. -/
theorem setCtx_wrote (st : s.Still) (c : Nat) (x : Ctx) :
    if s.ctbaseSet then Wrote s (s.setCtx c x) (s.fget F.CTBASE_BASE 0 0 * 2 ^ 21 + 32 * c) 32 x.num else (s.setCtx c x).mem = s.mem := by
  have e := setCtx_eq s st.banks st.dram c x
  by_cases h : s.ctbaseSet = true
  · rw [if_pos h] at e ⊢
    intro k
    rw [show (s.setCtx c x).mem = _ from congrArg State.mem e, mem_ctxStore]
    exact wrote_store st.form _ _ _ k
  · rw [if_neg h] at e ⊢
    rw [e]

/-- The later of two writes to one place. -/
theorem Wrote.past {u s t : State} {a n v w : Nat} (h : Wrote u s a n v) (g : Wrote s t a n w) : Wrote u t a n w := by
  intro k
  rw [g k]
  split
  · rfl
  · rename_i e
    rw [h k, if_neg e]

end Sys2Proof.Machine
end

