-- ==== Sys2Proof/Laws/Divide.lean ====
section
/-! SUPPORT. Products, division steps and the result of a division sequence. -/
namespace Sys2Proof.Machine

theorem product_lo (p : BitVec 128) : wd (p.toNat / 2 ^ 64) = p.extractLsb' 64 64 := by
  apply BitVec.eq_of_toNat_eq
  simp [wd, BitVec.extractLsb'_toNat, Nat.shiftRight_eq_div_pow]

theorem prod_eq (b : Bool) (x y : Word) : prod b x y = (if b then x.signExtend 128 * y.signExtend 128 else x.setWidth 128 * y.setWidth 128 : BitVec 128).toNat := by
  cases b
  · change x.toNat * y.toNat = _
    rw [if_neg (by decide), BitVec.toNat_mul, BitVec.toNat_setWidth, BitVec.toNat_setWidth, Nat.mod_eq_of_lt (a := x.toNat), Nat.mod_eq_of_lt (a := y.toNat), Nat.mod_eq_of_lt]
    · exact Nat.lt_of_lt_of_le (Nat.mul_lt_mul'' x.isLt y.isLt) (by decide)
    · exact Nat.lt_trans y.isLt (by decide)
    · exact Nat.lt_trans x.isLt (by decide)
  · change trunc 128 (sgn x * sgn y) = _
    rw [if_pos rfl, trunc_eq, sgn_eq, sgn_eq, BitVec.ofInt_mul]
    rfl

theorem natAbs_eq {w : Nat} (x : BitVec w) : x.toInt.natAbs = x.abs.toNat := by
  rw [BitVec.abs]
  by_cases h : x.msb = true
  · rw [if_pos h]
    change x.toInt.natAbs = (-x).toNat
    rw [BitVec.toNat_neg]
    have e := BitVec.toInt_eq_msb_cond x
    rw [if_pos h] at e
    have l := x.isLt
    have p : 0 < x.toNat := by
      rcases Nat.eq_zero_or_pos x.toNat with q | q
      · have : x = 0 := BitVec.eq_of_toNat_eq q
        subst this
        simp at h
      · exact q
    rw [Nat.mod_eq_of_lt (by omega), e]
    omega
  · rw [if_neg h, BitVec.toInt_eq_msb_cond, if_neg h]
    rfl

theorem sval_setWidth (w : Nat) (hw : 0 < w) (a : Word) : sval w a.toNat = (a.setWidth w).toInt := by
  rw [sval_eq w _ hw, BitVec.ofNat_toNat]

theorem dset_eq (w : Nat) (hw : w = 64 ∨ w = 32) (signed : Bool) (a b fl : Word) : dset w signed a b fl = divSet w signed a b fl := by
  have h0 : 0 < w := by omega
  have hle : w ≤ 64 := by omega
  unfold dset divSet
  have neg : ∀ x : Word, decide ((if signed then sval w x.toNat else ((x.toNat % 2 ^ w : Nat) : Int)) < 0) = (signed && (x.setWidth w).msb) := by
    intro x
    cases signed
    · simp
      omega
    · simp only [if_true, Bool.true_and]
      rw [sval_setWidth w h0, BitVec.msb_eq_toInt]
  have abs : ∀ x : Word, (if signed then sval w x.toNat else ((x.toNat % 2 ^ w : Nat) : Int)).natAbs = (if signed then (x.setWidth w).abs else x.setWidth w).toNat := by
    intro x
    cases signed
    · simp only [Bool.false_eq_true, if_false, BitVec.toNat_setWidth, Int.natAbs_natCast]
    · simp only [if_true]
      rw [sval_setWidth w h0, natAbs_eq]
  have hz : decide ((if signed then sval w b.toNat else ((b.toNat % 2 ^ w : Nat) : Int)) = 0) = (b.setWidth w == 0) := by
    rw [Bool.eq_iff_iff]
    simp only [decide_eq_true_eq, beq_iff_eq]
    cases signed
    · simp only [Bool.false_eq_true, if_false]
      constructor
      · intro h; apply BitVec.eq_of_toNat_eq; rw [BitVec.toNat_setWidth]; exact Int.ofNat_eq_zero.1 h
      · intro h; have := congrArg BitVec.toNat h; rw [BitVec.toNat_setWidth] at this; exact Int.ofNat_eq_zero.2 this
    · simp only [if_true]
      rw [sval_setWidth w h0]
      constructor
      · intro h; apply BitVec.eq_of_toInt_eq; simpa using h
      · intro h; rw [h]; simp
  dsimp only
  rw [neg, neg, abs, abs, hz]
  have he : (signed && decide (a.toNat % 2 ^ w = 2 ^ (w - 1)) && decide ((if signed then sval w b.toNat else ((b.toNat % 2 ^ w : Nat) : Int)) = -1)) =
      (signed && a.setWidth w == BitVec.intMin w && b.setWidth w == BitVec.allOnes w) := by
    cases signed
    · rfl
    · simp only [Bool.true_and, if_true]
      have e1 : decide (a.toNat % 2 ^ w = 2 ^ (w - 1)) = (a.setWidth w == BitVec.intMin w) := by
        rw [Bool.eq_iff_iff]
        simp only [decide_eq_true_eq, beq_iff_eq]
        rw [← BitVec.toNat_inj, BitVec.toNat_setWidth, BitVec.toNat_intMin, Nat.mod_eq_of_lt (a := 2 ^ (w - 1)) (Nat.pow_lt_pow_right (by omega) (by omega))]
      have e2 : decide (sval w b.toNat = -1) = (b.setWidth w == BitVec.allOnes w) := by
        rw [sval_setWidth w h0, Bool.eq_iff_iff]
        simp only [decide_eq_true_eq, beq_iff_eq]
        rw [← BitVec.toInt_inj, BitVec.toInt_allOnes]
        simp [h0]
      rw [e1, e2]
  rw [he]
  congr 1
  · exact BitVec.ofNat_toNat ..
  · apply BitVec.eq_of_toNat_eq
    rw [BitVec.toNat_shiftLeft, Nat.shiftLeft_eq, BitVec.toNat_setWidth]
    have l : (if signed then (a.setWidth w).abs else a.setWidth w).toNat < 2 ^ w := BitVec.isLt _
    rcases hw with rfl | rfl
    · rw [if_neg (by decide), wd, BitVec.toNat_ofNat]; simp
    · rw [if_pos rfl, wd, BitVec.toNat_ofNat]
      generalize (if signed then (a.setWidth 32).abs else a.setWidth 32).toNat = k at *
      omega
  · cases signed <;> rfl

theorem dstep_eq (ph pl d : Word) : dstep ph pl d = divStep ph pl d := by
  unfold dstep divStep
  have hr : (ph ++ BitVec.ofBool pl.msb : BitVec 65).toNat = ph.toNat * 2 + b2n (pl.getLsbD 63) := by
    rw [append_toNat, BitVec.msb_eq_getLsbD_last]
    cases pl.getLsbD 63 <;> rfl
  have hd : (d.setWidth 65).toNat = d.toNat := by rw [BitVec.toNat_setWidth]; exact Nat.mod_eq_of_lt (by omega)
  have hp : pl.toNat * 2 % 2 ^ 64 = (pl <<< 1).toNat := by rw [BitVec.toNat_shiftLeft, Nat.shiftLeft_eq]
  dsimp only
  rw [← hr, hp]
  have hc : (d ≠ 0 ∧ d.toNat ≤ (ph ++ BitVec.ofBool pl.msb : BitVec 65).toNat) = (d ≠ 0 ∧ d.setWidth 65 ≤ ph ++ BitVec.ofBool pl.msb) := by
    rw [BitVec.le_def, hd]
  by_cases h : d ≠ 0 ∧ d.setWidth 65 ≤ ph ++ BitVec.ofBool pl.msb
  · rw [if_pos h, if_pos (hc ▸ h)]
    congr 1
    · have l : (d.setWidth 65).toNat ≤ (ph ++ BitVec.ofBool pl.msb : BitVec 65).toNat := BitVec.le_def.1 h.2
      rw [← hd, ← BitVec.toNat_sub_of_le h.2]
      exact BitVec.ofNat_toNat ..
    · apply BitVec.eq_of_toNat_eq
      rw [wd, BitVec.toNat_ofNat, BitVec.toNat_or]
      have e : (pl <<< 1).toNat % 2 = 0 := by rw [← hp]; omega
      have l := (pl <<< 1).isLt
      have o : (pl <<< 1).toNat ||| 1 = (pl <<< 1).toNat + 1 := by
        have := Nat.shiftLeft_add_eq_or_of_lt (a := (pl <<< 1).toNat / 2) (b := 1) (i := 1) (by decide)
        rw [Nat.shiftLeft_eq] at this
        have e2 : (pl <<< 1).toNat / 2 * 2 ^ 1 = (pl <<< 1).toNat := by omega
        rw [e2] at this
        exact this.symm
      change _ = (pl <<< 1).toNat ||| 1
      rw [o]
      omega
  · rw [if_neg h, if_neg (hc ▸ h)]
    congr 1
    · exact BitVec.ofNat_toNat ..

theorem dfin_eq (w : Nat) (hw : w = 64 ∨ w = 32) (ph pl fl : Word) : dfin w ph pl fl = divFin w ph pl fl := by
  have h0 : 0 < w := by omega
  have hle : w ≤ 64 := by omega
  have t : ∀ (k : Bool) (x : Word), (if k then trunc 64 (-(x.toNat : Int)) else x.toNat) = (if k then -x else x).toNat := by
    intro k x
    cases k
    · rfl
    · rw [if_pos rfl, if_pos rfl, trunc_eq, BitVec.ofInt_neg, BitVec.ofInt_natCast, BitVec.ofNat_toNat, BitVec.setWidth_eq]
  unfold dfin divFin
  dsimp only
  rw [t, t]
  generalize (if flC fl then -pl else pl) = q
  generalize (if flN fl then -ph else ph) = r
  have s : ∀ x : Word, sext64 w x.toNat = (x.setWidth w).signExtend 64 := by
    intro x; rw [sext64_eq w _ h0, BitVec.ofNat_toNat]
  rw [s, s]
  have hm : q.toNat.testBit (w - 1) = (q.setWidth w).msb := by
    rw [BitVec.msb_eq_getLsbD_last, BitVec.getLsbD_setWidth]
    have : w - 1 < w := by omega
    simp [this, BitVec.getLsbD]
  have hz : decide (q.toNat % 2 ^ w = 0) = (q.setWidth w == 0) := by
    rw [Bool.eq_iff_iff]
    simp only [decide_eq_true_eq, beq_iff_eq]
    rw [← BitVec.toNat_inj, BitVec.toNat_setWidth]
    rfl
  rw [hm, hz]

theorem divSteps_succ (d : Word) (k : Nat) : ∀ p, divSteps d (k + 1) p = divStep (divSteps d k p).1 (divSteps d k p).2 d := by
  induction k with
  | zero => intro p; rfl
  | succ k ih =>
    intro p
    change divSteps d (k + 1) (divStep p.1 p.2 d) = _
    rw [ih]
    rfl

/-- One step in natural numbers: X is the part of the dividend that is done, R the rest of P·S·2 bits. -/
theorem divStep_nat (ph pl d : Word) (X R P S : Nat) (hP : P * S = 2 ^ 63) (hX : X < P) (hR : R < 2 * S)
    (h1 : ph.toNat = X % d.toNat) (h2 : pl.toNat = R * P + X / d.toNat) :
    (divStep ph pl d).1.toNat = (2 * X + R / S) % d.toNat ∧ (divStep ph pl d).2.toNat = R % S * (2 * P) + (2 * X + R / S) / d.toNat := by
  have hS : 0 < S := by rcases Nat.eq_zero_or_pos S with h | h; · subst h; simp at hP
                        · exact h
  have hq : X / d.toNat ≤ X := Nat.div_le_self ..
  have hmul : R * P = R / S * 2 ^ 63 + R % S * P := by
    have := Nat.div_add_mod R S
    calc R * P = (S * (R / S) + R % S) * P := by rw [this]
      _ = R / S * (P * S) + R % S * P := by rw [Nat.add_mul, Nat.mul_comm S, Nat.mul_assoc, Nat.mul_comm S P]
      _ = _ := by rw [hP]
  have hb : R / S < 2 := Nat.div_lt_of_lt_mul (by rw [Nat.mul_comm]; exact hR)
  have hrs : R % S < S := Nat.mod_lt _ hS
  have hlow : R % S * P + P ≤ 2 ^ 63 := by
    have : (R % S + 1) * P ≤ S * P := Nat.mul_le_mul_right _ hrs
    rw [Nat.add_mul, Nat.one_mul, Nat.mul_comm S P, hP] at this
    exact this
  have hm : R % S * (2 * P) = 2 * (R % S * P) := by rw [← Nat.mul_assoc, Nat.mul_comm _ 2, Nat.mul_assoc]
  have hbit : b2n (pl.getLsbD 63) = R / S := by
    have e : pl.getLsbD 63 = decide (pl.toNat / 2 ^ 63 % 2 = 1) := by rw [BitVec.getLsbD, Nat.testBit_eq_decide_div_mod_eq]
    have e2 : pl.toNat / 2 ^ 63 = R / S := by
      have g : ∀ q : Nat, q ≤ X → pl.toNat = R * P + q → pl.toNat / 2 ^ 63 = R / S := by
        intro q l1 l2
        rw [hmul] at l2
        omega
      exact g _ hq h2
    rw [e, e2]
    have : R / S = 0 ∨ R / S = 1 := by omega
    rcases this with h | h <;> rw [h] <;> rfl
  rw [← dstep_eq]
  unfold dstep
  dsimp only
  rw [hbit]
  have hp2 : pl.toNat * 2 % 2 ^ 64 = 2 * (R % S * P) + 2 * (X / d.toNat) := by omega
  have hPle : P ≤ 2 ^ 63 := by
    have : P * 1 ≤ P * S := Nat.mul_le_mul_left _ hS
    omega
  by_cases hd : d = 0
  · have hc : ¬ (d ≠ 0 ∧ d.toNat ≤ ph.toNat * 2 + R / S) := fun h => h.1 hd
    rw [if_neg hc]
    subst hd
    have z : (0 : Word).toNat = 0 := rfl
    rw [z, Nat.mod_zero] at h1
    rw [z, Nat.div_zero] at hp2
    simp only [wd, BitVec.toNat_ofNat, z, Nat.mod_zero, Nat.div_zero]
    rw [hm]
    omega
  · have hd0 : 0 < d.toNat := Nat.pos_of_ne_zero fun h => hd (BitVec.eq_of_toNat_eq h)
    have hdl : d.toNat < 2 ^ 64 := d.isLt
    have hlt : X % d.toNat < d.toNat := Nat.mod_lt _ hd0
    have hdm := Nat.div_add_mod X d.toNat
    have split2 : 2 * X + R / S = d.toNat * (2 * (X / d.toNat)) + (ph.toNat * 2 + R / S) := by
      rw [h1]
      have : d.toNat * (2 * (X / d.toNat)) = 2 * (d.toNat * (X / d.toNat)) := by rw [← Nat.mul_assoc, Nat.mul_comm _ 2, Nat.mul_assoc]
      omega
    by_cases hc : d.toNat ≤ ph.toNat * 2 + R / S
    · rw [if_pos ⟨hd, hc⟩]
      have e : 2 * X + R / S = d.toNat * (2 * (X / d.toNat) + 1) + (ph.toNat * 2 + R / S - d.toNat) := by
        rw [split2, Nat.mul_add, Nat.mul_one]; omega
      have l : ph.toNat * 2 + R / S - d.toNat < d.toNat := by omega
      rw [e, Nat.mul_add_mod, Nat.mod_eq_of_lt l, Nat.mul_add_div hd0, Nat.div_eq_of_lt l]
      simp only [wd, BitVec.toNat_ofNat]
      rw [hm]
      omega
    · rw [if_neg (fun h => hc h.2)]
      have l : ph.toNat * 2 + R / S < d.toNat := by omega
      rw [split2, Nat.mul_add_mod, Nat.mod_eq_of_lt l, Nat.mul_add_div hd0, Nat.div_eq_of_lt l]
      simp only [wd, BitVec.toNat_ofNat]
      rw [hm]
      omega

/-- After k steps the first k bits of A are divided. -/
theorem divSteps_nat (d A : Word) (k : Nat) (hk : k ≤ 64) :
    (divSteps d k (0, A)).1.toNat = A.toNat / 2 ^ (64 - k) % d.toNat ∧
    (divSteps d k (0, A)).2.toNat = A.toNat % 2 ^ (64 - k) * 2 ^ k + A.toNat / 2 ^ (64 - k) / d.toNat := by
  induction k with
  | zero =>
    have e : A.toNat / 2 ^ 64 = 0 := Nat.div_eq_of_lt A.isLt
    have e2 : A.toNat % 2 ^ 64 = A.toNat := Nat.mod_eq_of_lt A.isLt
    simp only [divSteps, Nat.pow_zero, Nat.mul_one, Nat.sub_zero, e, e2, Nat.zero_mod, Nat.zero_div, Nat.add_zero]
    exact ⟨rfl, trivial⟩
  | succ k ih =>
    obtain ⟨h1, h2⟩ := ih (by omega)
    rw [divSteps_succ]
    have e64 : (2 : Nat) ^ (64 - k) = 2 * 2 ^ (63 - k) := by rw [← Nat.pow_succ']; congr 1; omega
    have ex : A.toNat / 2 ^ (64 - (k + 1)) = 2 * (A.toNat / 2 ^ (64 - k)) + A.toNat % 2 ^ (64 - k) / 2 ^ (63 - k) := by
      have e1 : 64 - (k + 1) = 63 - k := by omega
      rw [e1, e64]
      have hS : 0 < 2 ^ (63 - k) := Nat.two_pow_pos _
      have := Nat.div_add_mod A.toNat (2 * 2 ^ (63 - k))
      have q : A.toNat = 2 ^ (63 - k) * (2 * (A.toNat / (2 * 2 ^ (63 - k)))) + A.toNat % (2 * 2 ^ (63 - k)) := by
        rw [← Nat.mul_assoc, Nat.mul_comm _ 2]; omega
      calc A.toNat / 2 ^ (63 - k) = (2 ^ (63 - k) * (2 * (A.toNat / (2 * 2 ^ (63 - k)))) + A.toNat % (2 * 2 ^ (63 - k))) / 2 ^ (63 - k) := by rw [← q]
        _ = _ := by rw [Nat.mul_add_div hS]
    have er : A.toNat % 2 ^ (64 - (k + 1)) = A.toNat % 2 ^ (64 - k) % 2 ^ (63 - k) := by
      have e1 : 64 - (k + 1) = 63 - k := by omega
      rw [e1, e64, Nat.mod_mul_left_mod]
    have hX : A.toNat / 2 ^ (64 - k) < 2 ^ k := by
      rw [Nat.div_lt_iff_lt_mul (Nat.two_pow_pos _), ← Nat.pow_add]
      have : k + (64 - k) = 64 := by omega
      rw [this]; exact A.isLt
    have hP : 2 ^ k * 2 ^ (63 - k) = 2 ^ 63 := by rw [← Nat.pow_add]; congr 1; omega
    have hR : A.toNat % 2 ^ (64 - k) < 2 * 2 ^ (63 - k) := by rw [← e64]; exact Nat.mod_lt _ (Nat.two_pow_pos _)
    have h := divStep_nat _ _ d _ _ _ _ hP hX hR h1 h2
    rw [ex, er, Nat.pow_succ', ]
    exact h

theorem setFlag_bit (f : Word) (k : Nat) (b : Bool) (i : Nat) (hk : k < 64) : (setFlag f k b).getLsbD i = if i = k then b else f.getLsbD i := by
  have h := testBit_wset f k 1 (b2n b) i
  have e : (setFlag f k b).getLsbD i = (wset f k 1 (b2n b)).toNat.testBit i := rfl
  rw [e, h]
  by_cases hi : i = k
  · subst hi
    rw [if_pos (by omega), if_pos rfl, decide_eq_true hk]
    cases b <;> simp [b2n]
  · rw [if_neg (by omega), if_neg hi]
    by_cases h64 : i < 64
    · simp [h64, BitVec.getLsbD]
    · rw [BitVec.getLsbD_of_ge f i (by omega)]; simp [h64]

/-- The flags of DSET. -/
theorem divSet_flags (w : Nat) (signed : Bool) (a b fl : Word) :
    flN (divSet w signed a b fl).fl = (signed && (a.setWidth w).msb) ∧ flC (divSet w signed a b fl).fl = (signed && ((a.setWidth w).msb != (b.setWidth w).msb)) := by
  unfold divSet flN flC
  dsimp only
  constructor <;> repeat rw [setFlag_bit _ _ _ _ (by omega)]
  · rfl
  · rfl

theorem divFin_flags (w : Nat) (ph pl fl : Word) :
    flV (divFin w ph pl fl).fl = flV fl ∧ flDZ (divFin w ph pl fl).fl = flDZ fl := by
  unfold divFin flV flDZ
  dsimp only
  constructor <;> repeat rw [setFlag_bit _ _ _ _ (by omega)]
  · rfl
  · rfl

theorem steps64 (A d : Word) : divSteps d 64 (0, A) = (A % d, A / d) := by
  obtain ⟨h1, h2⟩ := divSteps_nat d A 64 (by omega)
  refine Prod.ext (BitVec.eq_of_toNat_eq ?_) (BitVec.eq_of_toNat_eq ?_)
  · rw [h1]; simp
  · rw [h2]; simp; omega

theorem steps32 (A d : BitVec 32) : divSteps (d.setWidth 64) 32 (0, A.setWidth 64 <<< (64 - 32)) = ((A % d).setWidth 64, (A / d).setWidth 64) := by
  obtain ⟨h1, h2⟩ := divSteps_nat (d.setWidth 64) (A.setWidth 64 <<< (64 - 32)) 32 (by omega)
  have l := A.isLt
  have ld := d.isLt
  have e : (A.setWidth 64 <<< (64 - 32)).toNat = A.toNat * 2 ^ 32 := by
    rw [BitVec.toNat_shiftLeft, Nat.shiftLeft_eq, BitVec.toNat_setWidth]; omega
  have ed : (d.setWidth 64).toNat = d.toNat := by rw [BitVec.toNat_setWidth]; omega
  have q1 : A.toNat * 2 ^ 32 / 2 ^ (64 - 32) = A.toNat := by omega
  have q2 : A.toNat * 2 ^ 32 % 2 ^ (64 - 32) = 0 := by omega
  rw [e, ed, q1] at h1
  rw [e, ed, q1, q2] at h2
  have l1 : A.toNat % d.toNat ≤ A.toNat := Nat.mod_le ..
  have l2 : A.toNat / d.toNat ≤ A.toNat := Nat.div_le_self ..
  refine Prod.ext (BitVec.eq_of_toNat_eq ?_) (BitVec.eq_of_toNat_eq ?_)
  · rw [h1, BitVec.toNat_setWidth, BitVec.toNat_umod, Nat.mod_eq_of_lt (b := 2 ^ 64) (by omega)]
  · rw [h2, BitVec.toNat_setWidth, BitVec.toNat_udiv, Nat.zero_mul, Nat.zero_add, Nat.mod_eq_of_lt (b := 2 ^ 64) (by omega)]

theorem sdiv_abs {w : Nat} (a b : BitVec w) : (if a.msb != b.msb then -(a.abs / b.abs) else a.abs / b.abs) = a.sdiv b := by
  rw [BitVec.sdiv_eq]
  unfold BitVec.abs
  cases a.msb <;> cases b.msb <;> rfl

theorem srem_abs {w : Nat} (a b : BitVec w) : (if a.msb then -(a.abs % b.abs) else a.abs % b.abs) = a.srem b := by
  rw [BitVec.srem_eq]
  unfold BitVec.abs
  cases a.msb <;> cases b.msb <;> rfl

theorem low_neg (x : BitVec 32) (k : Bool) : (if k then -(x.setWidth 64) else x.setWidth 64).setWidth 32 = if k then -x else x := by
  cases k
  · simp
  · simp only [if_true]
    apply BitVec.eq_of_toNat_eq
    rw [BitVec.toNat_setWidth, BitVec.toNat_neg, BitVec.toNat_neg, BitVec.toNat_setWidth]
    have := x.isLt
    omega
end Sys2Proof.Machine
end

