-- ==== Sys2Proof/Laws/Events.lean ====
section
/-! SUPPORT. Events that no one is told of, the element of least rank, the keys of a table after a write, and the start of a context's close. -/
namespace Sys2Proof.Machine

/-- The one element of least rank. -/
theorem minBy_least {α : Type} {f : α → Nat} {l : List α} {m : α} (hm : m ∈ l) (h : ∀ k ∈ l, k = m ∨ f m < f k) : minBy f l = some m := by
  have key : ∀ l : List α, (∀ k ∈ l, k = m ∨ f m < f k) → (m ∈ l → minBy f l = some m) ∧ (m ∉ l → ∀ b, minBy f l = some b → f m < f b) := by
    intro l
    induction l with
    | nil => intro _; exact ⟨(fun q => nomatch q), (fun _ b e => nomatch e)⟩
    | cons a l ih =>
      intro h
      have ih := ih fun k q => h k (List.mem_cons_of_mem _ q)
      constructor
      · intro q
        unfold minBy
        by_cases hml : m ∈ l
        · rw [ih.1 hml]
          dsimp only
          rcases h a (List.mem_cons_self ..) with e | e
          · rw [e]; simp
          · rw [if_pos e]
        · have : m = a := by rcases List.mem_cons.1 q with e | e; exact e; exact absurd e hml
          subst this
          cases e : minBy f l with
          | none => rfl
          | some b =>
            have := ih.2 hml b e
            dsimp only
            rw [if_neg (by omega)]
      · intro q b e
        have qa : m ≠ a := fun e => q (e ▸ List.mem_cons_self ..)
        have ha : f m < f a := by rcases h a (List.mem_cons_self ..) with e | e; exact absurd e.symm qa; exact e
        unfold minBy at e
        split at e
        · injection e with e; exact e ▸ ha
        · rename_i k ek
          have hk := ih.2 (fun e => q (List.mem_cons_of_mem _ e)) k ek
          split at e <;> (injection e with e; subst e) <;> assumption
  exact (key l h).1 hm

/-- Without sessions and without the host event ring an event changes nothing. -/
theorem event_unwatched {s : State} (h : s.Unwatched) (typ a0 a1 : Nat) : s.event typ a0 a1 = s := by
  unfold State.event
  rw [h.sessions]
  change s.hostEvent typ a0 a1 = s
  unfold State.hostEvent
  rw [if_neg]
  simp [h.ring]

/-- The entries of a table after a write. -/
theorem mem_tput {κ α : Type} [DecidableEq κ] {t : Tab κ α} {k : κ} {v : α} {p : κ × α} (h : p ∈ tput t k v) : p = (k, v) ∨ p ∈ t := by
  have del : ∀ t : Tab κ α, p ∈ tdel t k → p ∈ t := by
    intro t
    induction t with
    | nil => exact id
    | cons q r ih =>
      intro m
      unfold tdel at m
      split at m
      · exact List.mem_cons_of_mem _ (ih m)
      · rcases List.mem_cons.1 m with e | e
        · exact e ▸ List.mem_cons_self ..
        · exact List.mem_cons_of_mem _ (ih e)
  unfold tput at h
  rcases List.mem_cons.1 h with e | e
  · exact .inl e
  · exact .inr (del t e)

/-- The value at a key is an entry of the table, or the default. -/
theorem tget_mem {κ α : Type} [DecidableEq κ] (t : Tab κ α) (d : α) (k : κ) : (k, tget t d k) ∈ t ∨ tget t d k = d := by
  unfold tget
  induction t with
  | nil => exact .inr rfl
  | cons p r ih =>
    unfold tfind?
    by_cases e : p.1 = k
    · rw [if_pos e]; exact .inl (by subst e; exact List.mem_cons_self ..)
    · rw [if_neg e]
      rcases ih with h | h
      · exact .inl (List.mem_cons_of_mem _ h)
      · exact .inr h

variable {ch : Changes} {u s : State}

/-- The closes sent to a list of tiles. -/
theorem closes_sent (l : List Nat) (c : Nat) : ∀ s : State, (l.foldl (fun s u => s.post (.close c u)) s).ctl = s.ctl ++ l.map (.close c) ∧ (∀ {ch : Changes} {u : State}, .ctl ∈ ch.parts → Only ch u s → Only ch u (l.foldl (fun s u => s.post (.close c u)) s)) ∧
    (l.foldl (fun s u => s.post (.close c u)) s).tile = s.tile ∧ (l.foldl (fun s u => s.post (.close c u)) s).ctxs = s.ctxs ∧ (l.foldl (fun s u => s.post (.close c u)) s).regs = s.regs ∧ (l.foldl (fun s u => s.post (.close c u)) s).mem = s.mem ∧ (l.foldl (fun s u => s.post (.close c u)) s).tiles = s.tiles := by
  induction l with
  | nil => intro s; exact ⟨by simp, fun _ h => h, rfl, rfl, rfl, rfl, rfl⟩
  | cons a l ih =>
    intro s
    obtain ⟨h1, h2, h3, h4, h5, h6, h7⟩ := ih (s.post (.close c a))
    refine ⟨?_, fun m h => h2 m (h.post m), h3, h4, h5, h6, h7⟩
    rw [List.foldl_cons, h1, List.map_cons]
    exact List.append_assoc s.ctl [.close c a] _


/-- An OPEN context of some tiles becomes CLOSING. -/
theorem startClose_facts (st : s.Still) {c : Nat} (h1 : (s.ctx c).st = 1) (h2 : (s.ctx c).tileset ≠ 0) (v : Nat) :
    let o := ctxOwner c
    let x := s.ctx c
    let n : Ctx := { x with st := 2, acks := x.tileset, victim := v }
    let t := s.startClose c v
    t.ctx c = n ∧ t.ctl = s.ctl ++ (tilesOf x.tileset).map (.close c) ∧ t.mem = (s.setCtx c n).mem ∧
    t.tile o = { s.tile o with
      cache := (s.tile o).cache.map fun e => if e.ctx = c then { e with closed := true } else e
      ready := (s.tile o).ready.filter (fun k => !taskOfCtx c k)
      c0q := (s.tile o).c0q.filter (fun k => !taskOfCtx c k) } ∧
    Counted s t F.ORPHANS_COUNT o 0 (((s.tile o).ready ++ (s.tile o).c0q).filter (taskOfCtx c)).length ∧
    Only { regs := [(.ORPHANS, o, 0)], tiles := [o], ctxs := [c], parts := [.ctl, .mem, .ecc] } s t ∧
    (∀ p ∈ t.tiles, p.1 = o ∨ p ∈ s.tiles) := by
  intro o x n t
  let s1 := s.setCtx c n
  let s2 := s1.onTile o fun z => { z with cache := z.cache.map fun e => if e.ctx = c then { e with closed := true } else e }
  let s3 := s2.cancelTasks o c
  let s4 := (tilesOf x.tileset).foldl (fun s u => s.post (.close c u)) s3
  obtain ⟨a1, a2, a3, a4, a5, a6, a7⟩ := closes_sent (tilesOf x.tileset) c s3
  have c4 : s4.ctx c = n := by
    unfold State.ctx s4
    rw [a4]
    exact ctx_setCtx_self st c n
  have e : t = s4 := by
    unfold t State.startClose
    dsimp only
    rw [if_pos h1]
    change s4.freeIfDone c = s4
    unfold State.freeIfDone
    dsimp only
    rw [c4]
    exact if_neg (fun q => h2 q.2)
  rw [e]
  have e2 : s2.tile o = { s.tile o with cache := (s.tile o).cache.map fun e => if e.ctx = c then { e with closed := true } else e } := by
    unfold s2 State.onTile
    rw [State.tile_setTile_self, show s1.tile o = s.tile o from tile_setCtx st c n o]
  refine ⟨c4, ?_, a6, ?_, ?_, ?_, ?_⟩
  · rw [show s4.ctl = _ from a1]
    congr 1
    exact ctl_setCtx st c n
  · rw [a3]
    unfold s3 State.cancelTasks
    dsimp only
    rw [State.finc, State.tile_fset, State.tile_setTile_self, e2]
  · unfold Counted
    rw [show s4.fget F.ORPHANS_COUNT o 0 = s3.fget F.ORPHANS_COUNT o 0 from by unfold State.fget State.reg; rw [a5]]
    unfold s3 State.cancelTasks
    dsimp only
    rw [fget_finc _ _ _ _ _ (by decide)]
    have : ∀ (z : State) (x : Tile), (z.setTile o x).fget F.ORPHANS_COUNT o 0 = z.fget F.ORPHANS_COUNT o 0 := fun _ _ => rfl
    rw [this, e2]
    rw [show s2.fget F.ORPHANS_COUNT o 0 = s.fget F.ORPHANS_COUNT o 0 from fget_of (u := s) (s := s1) (fun k a i => reg_setCtx st c n k a i) _ _ _]
  · refine a2 (List.Mem.head _) ?_
    unfold s3 State.cancelTasks
    exact Only.finc (Only.setTile (Only.onTile (Only.setCtx (Only.refl _ _) st _ (List.Mem.head _) (List.Mem.tail _ (List.Mem.head _)) (List.Mem.tail _ (List.Mem.tail _ (List.Mem.head _)))) _ (List.Mem.head _)) _ (List.Mem.head _)) _ (List.Mem.head _)
  · intro p m
    rw [a7] at m
    have m : p ∈ tput s2.tiles o _ := m
    rcases mem_tput m with q | q
    · exact .inl (congrArg Prod.fst q)
    · have q : p ∈ tput s1.tiles o _ := q
      rcases mem_tput q with q | q
      · exact .inl (congrArg Prod.fst q)
      · refine .inr ?_
        rcases setCtx_shape st c n with e | ⟨b, k, v, e⟩
        · rw [show s1 = _ from e] at q; exact q
        · rw [show s1 = _ from e] at q; exact q

end Sys2Proof.Machine
end

