-- ==== Sys2Proof/Laws/KeptBase.lean ====
section
/-! SUPPORT. What the model keeps (Kept.lean): the operations on registers, memory, events, the clock and wakes. One lemma for each operation: memory, graph memory and the device state are kept unless the lemma asks that they need not be. -/
namespace Sys2Proof.Machine

theorem State.setReg_kept {kk : Keep} (s : State) (k : RegKind) (t i : Nat) (v : Word) (kh : Kept kk s) : Kept kk (State.setReg s k t i v) := by
  unfold State.setReg
  try dsimp only
  repeat' first
    | with_reducible assumption
    | simp only [↓kept_mk_iff]
    | with_reducible intro _

theorem State.fset_kept {kk : Keep} (s : State) (f : Fld) (t i v : Nat) (kh : Kept kk s) : Kept kk (State.fset s f t i v) := by
  unfold State.fset
  try dsimp only
  repeat' first
    | with_reducible first | assumption | apply State.setReg_kept | intro _

theorem State.finc_kept {kk : Keep} (s : State) (f : Fld) (t i k : Nat) (kh : Kept kk s) : Kept kk (State.finc s f t i k) := by
  unfold State.finc
  try dsimp only
  repeat' first
    | with_reducible first | assumption | apply State.fset_kept | intro _

theorem State.inc_kept {kk : Keep} (s : State) (f : Fld) (t i : Nat) (kh : Kept kk s) : Kept kk (State.inc s f t i) := by
  unfold State.inc
  try dsimp only
  repeat' first
    | with_reducible first | assumption | apply State.finc_kept | intro _

theorem State.incw_kept {kk : Keep} (s : State) (f : Fld) (t i : Nat) (kh : Kept kk s) : Kept kk (State.incw s f t i) := by
  unfold State.incw
  try dsimp only
  repeat' first
    | with_reducible first | assumption | apply State.fset_kept | intro _

theorem State.setTile_kept {kk : Keep} (s : State) (t : Nat) (x : Tile) (kh : Kept kk s) : Kept kk (State.setTile s t x) := by
  unfold State.setTile
  try dsimp only
  repeat' first
    | with_reducible assumption
    | simp only [↓kept_mk_iff]
    | with_reducible intro _

theorem State.onTile_kept {kk : Keep} (s : State) (t : Nat) (g : Tile → Tile) (kh : Kept kk s) : Kept kk (State.onTile s t g) := by
  unfold State.onTile
  try dsimp only
  repeat' first
    | with_reducible first | assumption | apply State.setTile_kept | intro _

theorem State.setThr_kept {kk : Keep} (s : State) (c n : Nat) (x : Thread) (kh : Kept kk s) : Kept kk (State.setThr s c n x) := by
  unfold State.setThr
  try dsimp only
  repeat' first
    | with_reducible assumption
    | simp only [↓kept_mk_iff]
    | with_reducible intro _

theorem State.onThr_kept {kk : Keep} (s : State) (c n : Nat) (g : Thread → Thread) (kh : Kept kk s) : Kept kk (State.onThr s c n g) := by
  unfold State.onThr
  try dsimp only
  repeat' first
    | with_reducible first | assumption | apply State.setThr_kept | intro _

theorem State.setLane_kept {kk : Keep} (s : State) (l : Nat) (x : Lane) (kh : Kept kk s) : Kept kk (State.setLane s l x) := by
  unfold State.setLane
  try dsimp only
  repeat' first
    | with_reducible assumption
    | simp only [↓kept_mk_iff]
    | with_reducible intro _

theorem State.setLink_kept {kk : Keep} (s : State) (k : LinkId) (x : Link) (kh : Kept kk s) : Kept kk (State.setLink s k x) := by
  unfold State.setLink
  try dsimp only
  repeat' first
    | with_reducible assumption
    | simp only [↓kept_mk_iff]
    | with_reducible intro _

theorem State.bump_kept {kk : Keep} (s : State) (kh : Kept kk s) : Kept kk (State.bump s) := by
  unfold State.bump
  try dsimp only
  repeat' first
    | with_reducible assumption
    | simp only [↓kept_mk_iff]
    | with_reducible intro _

theorem State.emit_kept {kk : Keep} (s : State) (o : Out) (kh : Kept kk s) : Kept kk (State.emit s o) := by
  unfold State.emit
  try dsimp only
  repeat' first
    | with_reducible assumption
    | simp only [↓kept_mk_iff]
    | with_reducible intro _

theorem State.post_kept {kk : Keep} (s : State) (m : Ctl) (kh : Kept kk s) : Kept kk (State.post s m) := by
  unfold State.post
  try dsimp only
  repeat' first
    | with_reducible assumption
    | simp only [↓kept_mk_iff]
    | with_reducible intro _

theorem State.free_kept {kk : Keep} (s : State) (kh : Kept kk s) : Kept kk (State.free s).2 := by
  unfold State.free
  try dsimp only
  repeat' first
    | with_reducible assumption
    | simp only [↓kept_mk_iff]
    | with_reducible intro _

theorem State.raiseTile_kept {kk : Keep} (s : State) (t src : Nat) (kh : Kept kk s) : Kept kk (State.raiseTile s t src) := by
  unfold State.raiseTile
  try dsimp only
  repeat' first
    | with_reducible first | assumption | apply State.setReg_kept | intro _

theorem State.raiseDev_kept {kk : Keep} (s : State) (src : Nat) (kh : Kept kk s) : Kept kk (State.raiseDev s src) := by
  unfold State.raiseDev
  try dsimp only
  repeat' first
    | with_reducible first | assumption | apply State.setReg_kept | intro _

theorem State.store_kept {kk : Keep} (nmem : kk.mem = none) (s : State) (a n v : Nat) (kh : Kept kk s) : Kept kk (s.store a n v) :=
  kept_store nmem kh a n v

theorem State.clearEcc_kept {kk : Keep} (s : State) (a n : Nat) (kh : Kept kk s) : Kept kk (State.clearEcc s a n) := by
  unfold State.clearEcc
  try dsimp only
  repeat' first
    | with_reducible assumption
    | simp only [↓kept_mk_iff]
    | with_reducible intro _

theorem State.noteWrite_kept {kk : Keep} (s : State) (a : Nat) (kh : Kept kk s) : Kept kk (State.noteWrite s a) := by
  unfold State.noteWrite
  try dsimp only
  repeat' first
    | with_reducible first | assumption | apply State.onTile_kept | apply State.fset_kept | apply kept_ite
    | simp only [↓kept_mk_iff]
    | with_reducible intro _
    | split

theorem State.put_kept {kk : Keep} (nmem : kk.mem = none) (s : State) (a n v : Nat) (kh : Kept kk s) : Kept kk (State.put s a n v) := by
  unfold State.put
  try dsimp only
  repeat' first
    | with_reducible first | assumption | apply State.noteWrite_kept | apply State.clearEcc_kept | apply State.store_kept
    | (with_reducible apply kept_foldl; intro _ _ _)
    | (with_reducible apply kept_foldl_fst; intro _ _ _)
    | (with_reducible apply kept_foldl_snd; intro _ _ _)
    | with_reducible intro _

theorem State.setCtx_kept {kk : Keep} (nmem : kk.mem = none) (s : State) (c : Nat) (x : Ctx) (kh : Kept kk s) : Kept kk (State.setCtx s c x) := by
  unfold State.setCtx
  try dsimp only
  repeat' first
    | with_reducible first | assumption | apply State.put_kept | apply kept_ite
    | simp only [↓kept_mk_iff]
    | with_reducible intro _
    | split

theorem State.enterReady_kept {kk : Keep} (s : State) (t : Nat) (k : TaskK) (cls pri act : Nat) (tm : Option Nat) (kh : Kept kk s) : Kept kk (State.enterReady s t k cls pri act tm) := by
  unfold State.enterReady
  try dsimp only
  repeat' first
    | with_reducible first | assumption | apply State.bump_kept | apply State.onTile_kept | apply kept_ite
    | simp only [↓kept_mk_iff]
    | with_reducible intro _
    | split

theorem State.wake_kept {kk : Keep} (s : State) (c n : Nat) (r : WakeRes) (kh : Kept kk s) : Kept kk (State.wake s c n r) := by
  unfold State.wake
  try dsimp only
  repeat' first
    | with_reducible first | assumption | apply State.enterReady_kept | apply State.setThr_kept | apply kept_ite
    | simp only [↓kept_mk_iff]
    | with_reducible intro _
    | split

theorem State.qWrite_kept {kk : Keep} (nmem : kk.mem = none) (s : State) (t q n : Nat) (k : Token) (kh : Kept kk s) : Kept kk (State.qWrite s t q n k) := by
  unfold State.qWrite
  try dsimp only
  repeat' first
    | with_reducible first | assumption | apply State.put_kept | intro _

theorem State.qTake_kept {kk : Keep} (s : State) (t q : Nat) (kh : Kept kk s) : Kept kk (State.qTake s t q).2 := by
  unfold State.qTake
  try dsimp only
  repeat' first
    | with_reducible first | assumption | apply State.fset_kept | intro _

theorem State.qServe_kept {kk : Keep} (s : State) (t q : Nat) (z0 : Nat) (kh : Kept kk s) : Kept kk (State.qServe s t q z0) := by
  induction z0 generalizing s t q with
  | zero =>
    unfold State.qServe
    try dsimp only
    repeat' first
      | with_reducible first | assumption | apply State.qTake_kept | apply State.wake_kept
      | (with_reducible refine kept_of_snd ?_ (by assumption))
      | with_reducible apply kept_ite
      | simp only [↓kept_mk_iff]
      | with_reducible intro _
      | split
  | succ n ih =>
    unfold State.qServe
    try dsimp only
    repeat' first
      | with_reducible first | assumption | apply ih | apply State.qTake_kept | apply State.wake_kept
      | (with_reducible refine kept_of_snd ?_ (by assumption))
      | with_reducible apply kept_ite
      | simp only [↓kept_mk_iff]
      | with_reducible intro _
      | split

theorem State.qMarks_kept {kk : Keep} (s : State) (t q : Nat) (kh : Kept kk s) : Kept kk (State.qMarks s t q) := by
  unfold State.qMarks
  try dsimp only
  repeat' first
    | with_reducible first | assumption | apply State.fset_kept | apply State.setReg_kept | apply kept_ite | intro _
    | split

theorem State.qPut_kept {kk : Keep} (nmem : kk.mem = none) (s : State) (t q : Nat) (k : Token) (kh : Kept kk s) : Kept kk (State.qPut s t q k) := by
  unfold State.qPut
  try dsimp only
  repeat' first
    | with_reducible first | assumption | apply State.qMarks_kept | apply State.qServe_kept | apply State.qWrite_kept | apply State.fset_kept | intro _

theorem State.pushFault_kept {kk : Keep} (nmem : kk.mem = none) (s : State) (tile : Nat) (k : Token) (kh : Kept kk s) : Kept kk (State.pushFault s tile k) := by
  unfold State.pushFault
  try dsimp only
  repeat' first
    | with_reducible first | assumption | apply State.qPut_kept | apply State.inc_kept | apply State.fset_kept | apply kept_ite | intro _
    | split

theorem State.sendFault_kept {kk : Keep} (nmem : kk.mem = none) (s : State) (arises : Option Nat) (tile : Nat) (k : Token) (kh : Kept kk s) : Kept kk (State.sendFault s arises tile k) := by
  unfold State.sendFault
  try dsimp only
  repeat' first
    | with_reducible first | assumption | apply State.pushFault_kept | apply State.post_kept | apply kept_ite | intro _
    | split

theorem State.refuseTok_kept {kk : Keep} (nmem : kk.mem = none) (s : State) (t : Nat) (k : Token) (code : Nat) (kh : Kept kk s) : Kept kk (State.refuseTok s t k code) := by
  unfold State.refuseTok
  try dsimp only
  repeat' first
    | with_reducible first | assumption | apply State.pushFault_kept | intro _

theorem State.pushThreadFault_kept {kk : Keep} (nmem : kk.mem = none) (s : State) (c n code pc : Nat) (stop : Bool) (kh : Kept kk s) : Kept kk (State.pushThreadFault s c n code pc stop) := by
  unfold State.pushThreadFault
  try dsimp only
  repeat' first
    | with_reducible first | assumption | apply State.pushFault_kept | apply kept_ite | intro _
    | split

theorem State.trap_kept {kk : Keep} (nmem : kk.mem = none) (s : State) (c n code pc : Nat) (pcx : Bool) (kh : Kept kk s) : Kept kk (State.trap s c n code pc pcx) := by
  unfold State.trap
  try dsimp only
  repeat' first
    | with_reducible first | assumption | apply State.pushThreadFault_kept | apply State.setThr_kept | apply State.setReg_kept | apply kept_ite
    | simp only [↓kept_mk_iff]
    | with_reducible intro _
    | split

theorem State.takePreempt_kept {kk : Keep} (s : State) (c n : Nat) (kh : Kept kk s) : Kept kk (State.takePreempt s c n) := by
  unfold State.takePreempt
  try dsimp only
  repeat' first
    | with_reducible first | assumption | apply State.setThr_kept | apply State.setReg_kept
    | simp only [↓kept_mk_iff]
    | with_reducible intro _

theorem State.latch_kept {kk : Keep} (s : State) (c n : Nat) (g : Word → Word) (kh : Kept kk s) : Kept kk (State.latch s c n g) := by
  unfold State.latch
  try dsimp only
  repeat' first
    | with_reducible first | assumption | apply State.wake_kept | apply State.setReg_kept | apply kept_ite | intro _
    | split

theorem State.ringSignal_kept {kk : Keep} (s : State) (r : Nat) (kh : Kept kk s) : Kept kk (State.ringSignal s r) := by
  unfold State.ringSignal
  try dsimp only
  repeat' first
    | with_reducible first | assumption | apply State.emit_kept | apply kept_ite | intro _
    | split

theorem State.ringPut_kept {kk : Keep} (s : State) (r : Nat) (b : List Byte) (kh : Kept kk s) : Kept kk (State.ringPut s r b) := by
  unfold State.ringPut
  try dsimp only
  repeat' first
    | with_reducible first | assumption | apply State.ringSignal_kept | apply State.emit_kept | apply State.fset_kept | intro _

theorem State.akSend_kept {kk : Keep} (s : State) (x : Session) (mtype : Nat) (payload : List Byte) (kh : Kept kk s) : Kept kk (State.akSend s x mtype payload) := by
  unfold State.akSend
  try dsimp only
  repeat' first
    | with_reducible first | assumption | apply State.free_kept | apply State.emit_kept
    | (with_reducible refine kept_of_snd ?_ (by assumption))
    | with_reducible intro _
    | split

theorem State.eventTo_kept {kk : Keep} (s : State) (typ a0 a1 : Nat) (x : Session) (kh : Kept kk s) : Kept kk (State.eventTo s typ a0 a1 x) := by
  unfold State.eventTo
  try dsimp only
  repeat' first
    | with_reducible first | assumption | apply State.akSend_kept | apply kept_ite
    | simp only [↓kept_mk_iff]
    | with_reducible intro _
    | split

theorem State.hostRec_kept {kk : Keep} (s : State) (typ a0 a1 : Nat) (kh : Kept kk s) : Kept kk (State.hostRec s typ a0 a1) := by
  unfold State.hostRec
  try dsimp only
  repeat' first
    | with_reducible first | assumption | apply State.ringPut_kept
    | simp only [↓kept_mk_iff]
    | with_reducible intro _

theorem State.hostLost_kept {kk : Keep} (s : State) (kh : Kept kk s) : Kept kk (State.hostLost s) := by
  unfold State.hostLost
  try dsimp only
  repeat' first
    | with_reducible first | assumption | apply State.hostRec_kept | apply kept_ite
    | simp only [↓kept_mk_iff]
    | with_reducible intro _
    | split

theorem State.hostEvent_kept {kk : Keep} (s : State) (typ a0 a1 : Nat) (kh : Kept kk s) : Kept kk (State.hostEvent s typ a0 a1) := by
  unfold State.hostEvent
  try dsimp only
  repeat' first
    | with_reducible first | assumption | apply State.hostLost_kept | apply State.hostRec_kept | apply kept_ite
    | simp only [↓kept_mk_iff]
    | with_reducible intro _
    | split

theorem State.event_kept {kk : Keep} (s : State) (typ a0 : Nat) (a1 : Nat := 0) (kh : Kept kk s) : Kept kk (State.event s typ a0 a1) := by
  unfold State.event
  try dsimp only
  repeat' first
    | with_reducible first | assumption | apply State.hostEvent_kept | apply State.eventTo_kept
    | (with_reducible apply kept_foldl; intro _ _ _)
    | (with_reducible apply kept_foldl_fst; intro _ _ _)
    | (with_reducible apply kept_foldl_snd; intro _ _ _)
    | with_reducible intro _

theorem State.showState_kept {kk : Keep} (s : State) (kh : Kept kk s) : Kept kk (State.showState s) := by
  unfold State.showState
  try dsimp only
  repeat' first
    | with_reducible first | assumption | apply State.emit_kept | apply kept_ite
    | simp only [↓kept_mk_iff]
    | with_reducible intro _
    | split

theorem State.stateEvent_kept {kk : Keep} (s : State) (old : DevState) (kh : Kept kk s) : Kept kk (State.stateEvent s old) := by
  unfold State.stateEvent
  try dsimp only
  repeat' first
    | with_reducible first | assumption | apply State.event_kept | intro _

theorem State.enter_kept {kk : Keep} (ndev : kk.dev = none) (s : State) (d : DevState) (kh : Kept kk s) : Kept kk (State.enter s d) := by
  unfold State.enter
  try dsimp only
  repeat' first
    | with_reducible first | assumption | apply State.stateEvent_kept | apply State.showState_kept | apply kept_ite
    | simp only [↓kept_mk_iff]
    | simp only [↓kept_dev_iff ndev]
    | with_reducible intro _
    | split

theorem State.setDegraded_kept {kk : Keep} (s : State) (b : Bool) (kh : Kept kk s) : Kept kk (State.setDegraded s b) := by
  unfold State.setDegraded
  try dsimp only
  repeat' first
    | with_reducible first | assumption | apply State.stateEvent_kept | apply State.showState_kept | apply kept_ite
    | simp only [↓kept_mk_iff]
    | with_reducible intro _
    | split

theorem State.setReason_kept {kk : Keep} (s : State) (b : Nat) (kh : Kept kk s) : Kept kk (State.setReason s b) := by
  unfold State.setReason
  try dsimp only
  repeat' first
    | with_reducible first | assumption | apply State.setDegraded_kept | apply State.showState_kept | apply State.event_kept | apply State.raiseDev_kept | apply State.emit_kept | apply kept_ite
    | simp only [↓kept_mk_iff]
    | with_reducible intro _
    | split

theorem State.cutEvent_kept {kk : Keep} (s : State) (which : Nat) (kh : Kept kk s) : Kept kk (State.cutEvent s which) := by
  unfold State.cutEvent
  try dsimp only
  repeat' first
    | with_reducible first | assumption | apply State.event_kept | apply State.raiseDev_kept | apply kept_ite | intro _
    | split

theorem State.levelOf_kept {kk : Keep} (s : State) (k : RegKind) (t i : Nat) (kh : Kept kk s) : Kept kk (State.levelOf s k t i) := by
  unfold State.levelOf
  try dsimp only
  repeat' first
    | with_reducible first | assumption | apply State.qMarks_kept | apply State.raiseTile_kept | apply kept_ite
    | simp only [↓kept_mk_iff]
    | with_reducible intro _
    | split

theorem State.levels_kept {kk : Keep} (s : State) (kh : Kept kk s) : Kept kk (State.levels s) := by
  unfold State.levels
  try dsimp only
  repeat' first
    | with_reducible first | assumption | apply State.levelOf_kept
    | (with_reducible apply kept_foldl; intro _ _ _)
    | (with_reducible apply kept_foldl_fst; intro _ _ _)
    | (with_reducible apply kept_foldl_snd; intro _ _ _)
    | with_reducible intro _

theorem State.watchCore_kept {kk : Keep} (dt : Nat) (s : State) (c : Nat) (kh : Kept kk s) : Kept kk (State.watchCore dt s c) := by
  unfold State.watchCore
  try dsimp only
  repeat' first
    | with_reducible first | assumption | apply State.setTile_kept | apply State.finc_kept | apply State.fset_kept | apply kept_ite
    | simp only [↓kept_mk_iff]
    | with_reducible intro _
    | split

theorem State.advance_kept {kk : Keep} (s : State) (dt : Nat) (kh : Kept kk s) : Kept kk (State.advance s dt) := by
  unfold State.advance
  try dsimp only
  repeat' first
    | with_reducible first | assumption | apply State.watchCore_kept | apply State.levels_kept
    | (with_reducible apply kept_foldl; intro _ _ _)
    | (with_reducible apply kept_foldl_fst; intro _ _ _)
    | (with_reducible apply kept_foldl_snd; intro _ _ _)
    | with_reducible apply kept_ite
    | simp only [↓kept_mk_iff]
    | with_reducible intro _
    | split

theorem State.setBuf_kept {kk : Keep} (s : State) (k : PortKey) (l : List Packet) (kh : Kept kk s) : Kept kk (State.setBuf s k l) := by
  unfold State.setBuf
  try dsimp only
  repeat' first
    | with_reducible assumption
    | simp only [↓kept_mk_iff]
    | with_reducible intro _

theorem State.setRetq_kept {kk : Keep} (s : State) (r : Nat) (edge : Bool) (l : List (Packet × Nat × Bool)) (kh : Kept kk s) : Kept kk (State.setRetq s r edge l) := by
  unfold State.setRetq
  try dsimp only
  repeat' first
    | with_reducible assumption
    | simp only [↓kept_mk_iff]
    | with_reducible intro _

theorem State.inject_kept {kk : Keep} (s : State) (r : Nat) (edge : Bool) (p : Packet) (kh : Kept kk s) : (State.inject s r edge p).Kept kk := by
  unfold State.inject
  try dsimp only
  repeat' first
    | with_reducible first | assumption | apply State.setRetq_kept | apply State.setBuf_kept | apply State.bump_kept | apply State.inc_kept | apply Inj.kept_sent | apply Inj.kept_fenced | exact Inj.kept_full | apply kept_ite
    | simp only [↓kept_mk_iff]
    | with_reducible intro _
    | split

theorem State.stageLocal_kept {kk : Keep} (s : State) (t : Nat) (k : Token) (kh : Kept kk s) : Kept kk (State.stageLocal s t k) := by
  unfold State.stageLocal
  try dsimp only
  repeat' first
    | with_reducible first | assumption | apply State.onTile_kept
    | simp only [↓kept_mk_iff]
    | with_reducible intro _

theorem State.stageMesh_kept {kk : Keep} (s : State) (t : Nat) (k : Token) (kh : Kept kk s) : Kept kk (State.stageMesh s t k) := by
  unfold State.stageMesh
  try dsimp only
  repeat' first
    | with_reducible first | assumption | apply State.onTile_kept
    | simp only [↓kept_mk_iff]
    | with_reducible intro _

theorem State.toWindow_kept {kk : Keep} (s : State) (l : Nat) (k : Token) (kh : Kept kk s) : Kept kk (State.toWindow s l k) := by
  unfold State.toWindow
  try dsimp only
  repeat' first
    | with_reducible assumption
    | simp only [↓kept_mk_iff]
    | with_reducible intro _

theorem State.toQueue_kept {kk : Keep} (s : State) (t q : Nat) (k : Token) (sr : Nat) (sedge : Bool) (stamp : Nat) (kh : Kept kk s) : Kept kk (State.toQueue s t q k sr sedge stamp) := by
  unfold State.toQueue
  try dsimp only
  repeat' first
    | with_reducible assumption
    | simp only [↓kept_mk_iff]
    | with_reducible intro _

theorem State.deliverTok_kept {kk : Keep} (s : State) (dest : TokTo) (k : Token) (sr : Nat) (sedge fromMesh : Bool) (stamp : Nat) (kh : Kept kk s) : Kept kk (State.deliverTok s dest k sr sedge fromMesh stamp) := by
  unfold State.deliverTok
  try dsimp only
  repeat' first
    | with_reducible first | assumption | apply State.toQueue_kept | apply State.toWindow_kept | apply State.stageMesh_kept | apply State.stageLocal_kept | apply kept_ite
    | simp only [↓kept_mk_iff]
    | with_reducible intro _
    | split

theorem State.returnTok_kept {kk : Keep} (nmem : kk.mem = none) (s : State) (stile : Nat) (k : Token) (code : Nat) (kh : Kept kk s) : Kept kk (State.returnTok s stile k code) := by
  unfold State.returnTok
  try dsimp only
  repeat' first
    | with_reducible first | assumption | apply State.pushFault_kept | intro _

theorem State.sendTok_kept {kk : Keep} (nmem : kk.mem = none) (s : State) (own : Option Nat) (r : Nat) (edge : Bool) (dest : TokTo) (k : Token) (kh : Kept kk s) : (State.sendTok s own r edge dest k).Kept kk := by
  unfold State.sendTok
  try dsimp only
  repeat' first
    | with_reducible first | assumption | apply State.returnTok_kept | apply State.deliverTok_kept | apply State.inject_kept | apply State.bump_kept | apply Inj.kept_sent
    | (with_reducible refine Inj.Kept.sent ?_ (by assumption))
    | (with_reducible refine Inj.Kept.fenced ?_ (by assumption))
    | with_reducible first | apply OptKept.getD | apply kept_ite
    | simp only [↓kept_mk_iff]
    | with_reducible intro _
    | split

theorem State.unitSend_kept {kk : Keep} (nmem : kk.mem = none) (s : State) (t u : Nat) (dest : TokTo) (k : Token) (kh : Kept kk s) : Kept kk (State.unitSend s t u dest k) := by
  unfold State.unitSend
  try dsimp only
  repeat' first
    | with_reducible first | assumption | apply State.sendTok_kept | apply State.bump_kept | apply State.onTile_kept
    | (with_reducible refine Inj.Kept.sent ?_ (by assumption))
    | (with_reducible refine Inj.Kept.fenced ?_ (by assumption))
    | simp only [↓kept_mk_iff]
    | with_reducible intro _
    | split

theorem State.drainUnits_kept {kk : Keep} (s : State) (t : Nat) (kh : Kept kk s) : Kept kk (State.drainUnits s t) := by
  unfold State.drainUnits
  try dsimp only
  repeat' first
    | with_reducible first | assumption | apply State.inject_kept | apply State.onTile_kept
    | (with_reducible apply kept_foldl; intro _ _ _)
    | (with_reducible apply kept_foldl_fst; intro _ _ _)
    | (with_reducible apply kept_foldl_snd; intro _ _ _)
    | (with_reducible refine Inj.Kept.sent ?_ (by assumption))
    | (with_reducible refine Inj.Kept.fenced ?_ (by assumption))
    | with_reducible apply kept_ite
    | simp only [↓kept_mk_iff]
    | with_reducible intro _
    | split

theorem State.startFence_kept {kk : Keep} (s : State) (p : Nat) (kh : Kept kk s) : Kept kk (State.startFence s p) := by
  unfold State.startFence
  try dsimp only
  repeat' first
    | with_reducible first | assumption | apply State.fset_kept
    | simp only [↓kept_mk_iff]
    | with_reducible intro _

theorem State.startUnfence_kept {kk : Keep} (s : State) (p : Nat) (kh : Kept kk s) : Kept kk (State.startUnfence s p) := by
  unfold State.startUnfence
  try dsimp only
  repeat' first
    | with_reducible assumption
    | simp only [↓kept_mk_iff]
    | with_reducible intro _

theorem State.setPower_kept {kk : Keep} (s : State) (t : Nat) (p : Option PowerTrans) (kh : Kept kk s) : Kept kk (State.setPower s t p) := by
  unfold State.setPower
  try dsimp only
  repeat' first
    | with_reducible first | assumption | apply State.onTile_kept | apply State.fset_kept
    | simp only [↓kept_mk_iff]
    | with_reducible intro _

theorem State.askWake_kept {kk : Keep} (s : State) (t : Nat) (kh : Kept kk s) : Kept kk (State.askWake s t) := by
  unfold State.askWake
  try dsimp only
  repeat' first
    | with_reducible first | assumption | apply State.setPower_kept | apply State.startUnfence_kept | apply State.onTile_kept | apply State.fset_kept | apply kept_ite
    | simp only [↓kept_mk_iff]
    | with_reducible intro _
    | split

theorem State.ifAwake_kept {kk : Keep} (s : State) (c : Nat) (g : State → State) (hg : ∀ s, Kept kk s → Kept kk (g s)) (kh : Kept kk s) : Kept kk (State.ifAwake s c g) := by
  unfold State.ifAwake
  try dsimp only
  repeat' first
    | with_reducible first | assumption | apply hg | apply State.askWake_kept | apply kept_ite | intro _
    | split

theorem State.ctlAwake_kept {kk : Keep} (s : State) (c : Nat) (p : Ctl → Bool) (g : State → State) (hg : ∀ s, Kept kk s → Kept kk (g s)) (kh : Kept kk s) : Kept kk (State.ctlAwake s c p g) := by
  unfold State.ctlAwake
  try dsimp only
  repeat' first
    | with_reducible first | assumption | apply hg | apply State.ifAwake_kept | apply kept_ite | intro _
    | split

end Sys2Proof.Machine
end

