-- ==== Sys2Proof/Laws/KeptStore.lean ====
section
/-! SUPPORT. What the model keeps (Kept.lean): the matching store, lanes, queues, the Cox and locks. One lemma for each operation: memory, graph memory and the device state are kept unless the lemma asks that they need not be. -/
namespace Sys2Proof.Machine

theorem State.touchCtx_kept {kk : Keep} (s : State) (t c : Nat) (kh : Kept kk s) : Kept kk (State.touchCtx s t c) := by
  unfold State.touchCtx
  try dsimp only
  repeat' first
    | with_reducible first | assumption | apply State.onTile_kept | apply State.inc_kept
    | simp only [↓kept_mk_iff]
    | with_reducible intro _
    | split

theorem State.popIn_kept {kk : Keep} (s : State) (t c : Nat) (p : Pop) (kh : Kept kk s) : Kept kk (State.popIn s t c p) := by
  unfold State.popIn
  try dsimp only
  repeat' first
    | with_reducible first | assumption | apply State.inc_kept | apply State.fset_kept | apply kept_ite
    | simp only [↓kept_mk_iff]
    | with_reducible intro _
    | split

theorem State.popOut_kept {kk : Keep} (s : State) (t : Nat) (p : Pop) (kh : Kept kk s) : Kept kk (State.popOut s t p) := by
  unfold State.popOut
  try dsimp only
  repeat' first
    | with_reducible first | assumption | apply State.fset_kept
    | simp only [↓kept_mk_iff]
    | with_reducible intro _
    | split

theorem State.makeWay_kept {kk : Keep} (s : State) (t set : Nat) (kh : Kept kk s) : (State.makeWay s t set).Kept kk := by
  unfold State.makeWay
  try dsimp only
  repeat' first
    | with_reducible first | assumption | apply State.setTile_kept | apply State.inc_kept | apply Room.kept_ok | exact Room.kept_wait | exact Room.kept_full | apply kept_ite
    | simp only [↓kept_mk_iff]
    | with_reducible intro _
    | split

theorem State.takeEntry_kept {kk : Keep} (s : State) (t : Nat) (k : Staged) (port : Nat) (held : Bool) (kh : Kept kk s) : (State.takeEntry s t k port held).Kept kk := by
  unfold State.takeEntry
  try dsimp only
  repeat' first
    | with_reducible first | assumption | apply State.makeWay_kept | apply State.popIn_kept | apply State.bump_kept | apply State.onTile_kept | apply State.inc_kept | apply Room.kept_ok | exact Room.kept_wait | exact Room.kept_full
    | (with_reducible refine Room.Kept.ok ?_ (by assumption))
    | with_reducible first | apply OptKept.getD | apply kept_ite
    | simp only [↓kept_mk_iff]
    | with_reducible intro _
    | split

theorem State.dropEntry_kept {kk : Keep} (s : State) (t : Nat) (e : Entry) (kh : Kept kk s) : Kept kk (State.dropEntry s t e) := by
  unfold State.dropEntry
  try dsimp only
  repeat' first
    | with_reducible first | assumption | apply State.popOut_kept | apply State.onTile_kept
    | simp only [↓kept_mk_iff]
    | with_reducible intro _

theorem State.makeReady_kept {kk : Keep} (s : State) (t : Nat) (f : Firing) (kh : Kept kk s) : Kept kk (State.makeReady s t f) := by
  unfold State.makeReady
  try dsimp only
  repeat' first
    | with_reducible first | assumption | apply State.enterReady_kept | apply kept_ite | intro _
    | split

theorem State.complete_kept {kk : Keep} (s : State) (t : Nat) (k : Token) (l : List (Nat × Token × Option Entry)) (kh : Kept kk s) : Kept kk (State.complete s t k l) := by
  unfold State.complete
  try dsimp only
  repeat' first
    | with_reducible first | assumption | apply State.makeReady_kept | apply State.dropEntry_kept | apply State.inc_kept
    | (with_reducible apply kept_foldl; intro _ _ _)
    | (with_reducible apply kept_foldl_fst; intro _ _ _)
    | (with_reducible apply kept_foldl_snd; intro _ _ _)
    | with_reducible apply kept_ite
    | simp only [↓kept_mk_iff]
    | with_reducible intro _
    | split

theorem Room.res_kept {kk : Keep} (r : Room) (s : State) (g : State → State)
    (hg : ∀ s, Machine.Kept kk s → Machine.Kept kk (g s)) (kr : r.Kept kk) (kh : Machine.Kept kk s) : (Room.res r s g).Kept kk := by
  unfold Room.res
  split
  · exact hg _ kr
  · exact kh
  · exact kh

theorem State.unspill_kept {kk : Keep} (s : State) (t : Nat) (e : Entry) (kh : Kept kk s) : Kept kk (State.unspill s t e) := by
  unfold State.unspill
  try dsimp only
  repeat' first
    | with_reducible first | assumption | apply State.setTile_kept | apply State.inc_kept
    | simp only [↓kept_mk_iff]
    | with_reducible intro _

theorem State.stickyMatches_kept {kk : Keep} (s : State) (t : Nat) (need : List Nat) (z0 : List Entry) (kh : Kept kk s) : Kept kk (State.stickyMatches s t need z0) := by
  induction z0 generalizing s t need with
  | nil =>
    unfold State.stickyMatches
    try dsimp only
    repeat' first
      | with_reducible first | assumption | apply State.complete_kept | apply State.dropEntry_kept
      | simp only [↓kept_mk_iff]
      | with_reducible intro _
      | split
  | cons a l ih =>
    unfold State.stickyMatches
    try dsimp only
    repeat' first
      | with_reducible first | assumption | apply ih | apply State.complete_kept | apply State.dropEntry_kept
      | simp only [↓kept_mk_iff]
      | with_reducible intro _
      | split

theorem State.arriveSticky_kept {kk : Keep} (nmem : kk.mem = none) (s : State) (t : Nat) (kind : MKind) (k : Token) (kh : Kept kk s) : (State.arriveSticky s t kind k).Kept kk := by
  unfold State.arriveSticky
  try dsimp only
  repeat' first
    | with_reducible first | assumption | apply State.stickyMatches_kept | apply State.unspill_kept | apply State.refuseTok_kept | apply State.bump_kept | apply State.onTile_kept | apply State.setTile_kept | apply LRes.kept_done
    | (with_reducible apply kept_foldl; intro _ _ _)
    | (with_reducible apply kept_foldl_fst; intro _ _ _)
    | (with_reducible apply kept_foldl_snd; intro _ _ _)
    | with_reducible first | apply OptKept.getD | apply kept_ite
    | simp only [↓kept_mk_iff]
    | with_reducible intro _
    | split

theorem State.arrivePair_kept {kk : Keep} (s : State) (t : Nat) (kind : MKind) (k : Staged) (probe : Bool) (kh : Kept kk s) : (State.arrivePair s t kind k probe).Kept kk := by
  unfold State.arrivePair
  try dsimp only
  repeat' first
    | with_reducible first | assumption | apply Room.res_kept | apply State.complete_kept | apply State.takeEntry_kept | apply State.popOut_kept | apply State.setTile_kept | apply LRes.kept_done | apply LRes.kept_stall
    | (with_reducible refine Room.Kept.ok ?_ (by assumption))
    | (with_reducible refine LRes.Kept.done ?_ (by assumption))
    | (with_reducible refine LRes.Kept.stall ?_ (by assumption))
    | (with_reducible refine LRes.Kept.full ?_ (by assumption))
    | with_reducible first | apply kept_ite | apply kept_id
    | simp only [↓kept_mk_iff]
    | with_reducible intro _
    | split

theorem State.reoffer_kept {kk : Keep} (s : State) (t : Nat) (p : Entry → Bool) (kh : Kept kk s) : Kept kk (State.reoffer s t p) := by
  unfold State.reoffer
  try dsimp only
  repeat' first
    | with_reducible first | assumption | apply State.setTile_kept | apply State.finc_kept
    | (with_reducible apply kept_foldl; intro _ _ _)
    | (with_reducible apply kept_foldl_fst; intro _ _ _)
    | (with_reducible apply kept_foldl_snd; intro _ _ _)
    | simp only [↓kept_mk_iff]
    | with_reducible intro _

theorem State.retire_kept {kk : Keep} (s : State) (t : Nat) (h : Throttle) (e : Nat) (kh : Kept kk s) : Kept kk (State.retire s t h e) := by
  unfold State.retire
  try dsimp only
  repeat' first
    | with_reducible first | assumption | apply State.reoffer_kept | apply State.setTile_kept | apply State.inc_kept | apply kept_ite
    | simp only [↓kept_mk_iff]
    | with_reducible intro _
    | split

theorem State.arriveLoop_kept {kk : Keep} (nmem : kk.mem = none) (s : State) (t : Nat) (k : Staged) (port : Nat) (kh : Kept kk s) : (State.arriveLoop s t k port).Kept kk := by
  unfold State.arriveLoop
  try dsimp only
  repeat' first
    | with_reducible first | assumption | apply State.retire_kept | apply Room.res_kept | apply State.makeReady_kept | apply State.takeEntry_kept | apply State.popOut_kept | apply State.refuseTok_kept | apply State.onTile_kept | apply State.inc_kept | apply LRes.kept_done | apply LRes.kept_stall
    | (with_reducible refine Room.Kept.ok ?_ (by assumption))
    | (with_reducible refine LRes.Kept.done ?_ (by assumption))
    | (with_reducible refine LRes.Kept.stall ?_ (by assumption))
    | (with_reducible refine LRes.Kept.full ?_ (by assumption))
    | with_reducible apply kept_ite
    | simp only [↓kept_mk_iff]
    | with_reducible intro _
    | split

theorem State.meetNode_kept {kk : Keep} (nmem : kk.mem = none) (s : State) (t : Nat) (k : Staged) (probe : Bool) (kind : MKind) (kh : Kept kk s) : (State.meetNode s t k probe kind).Kept kk := by
  unfold State.meetNode
  try dsimp only
  repeat' first
    | with_reducible first | assumption | apply State.arriveLoop_kept | apply State.arrivePair_kept | apply State.arriveSticky_kept | apply State.makeReady_kept | apply State.refuseTok_kept | apply State.inc_kept | apply LRes.kept_done | apply LRes.kept_stall | apply LRes.kept_full
    | (with_reducible refine LRes.Kept.done ?_ (by assumption))
    | (with_reducible refine LRes.Kept.stall ?_ (by assumption))
    | (with_reducible refine LRes.Kept.full ?_ (by assumption))
    | with_reducible apply kept_ite
    | simp only [↓kept_mk_iff]
    | with_reducible intro _
    | split

theorem State.lookup_kept {kk : Keep} (nmem : kk.mem = none) (s : State) (t : Nat) (k : Staged) (probe : Bool) (kh : Kept kk s) : (State.lookup s t k probe).Kept kk := by
  unfold State.lookup
  try dsimp only
  repeat' first
    | with_reducible first | assumption | apply State.meetNode_kept | apply State.popOut_kept | apply State.touchCtx_kept | apply State.refuseTok_kept | apply LRes.kept_done
    | (with_reducible refine LRes.Kept.done ?_ (by assumption))
    | (with_reducible refine LRes.Kept.stall ?_ (by assumption))
    | (with_reducible refine LRes.Kept.full ?_ (by assumption))
    | with_reducible apply kept_ite
    | simp only [↓kept_mk_iff]
    | with_reducible intro _
    | split

theorem State.lookupFrom_kept {kk : Keep} (nmem : kk.mem = none) (s : State) (t : Nat) (z0 : List Nat) (kh : Kept kk s) : Kept kk (State.lookupFrom s t z0) := by
  induction z0 generalizing s t with
  | nil =>
    unfold State.lookupFrom
    try dsimp only
    repeat' first
      | with_reducible first | assumption | apply State.lookup_kept | apply State.pushFault_kept | apply State.onTile_kept
      | (with_reducible refine LRes.Kept.done ?_ (by assumption))
      | (with_reducible refine LRes.Kept.stall ?_ (by assumption))
      | (with_reducible refine LRes.Kept.full ?_ (by assumption))
      | with_reducible apply kept_ite
      | simp only [↓kept_mk_iff]
      | with_reducible intro _
      | split
  | cons a l ih =>
    unfold State.lookupFrom
    try dsimp only
    repeat' first
      | with_reducible first | assumption | apply ih | apply State.lookup_kept | apply State.pushFault_kept | apply State.onTile_kept
      | (with_reducible refine LRes.Kept.done ?_ (by assumption))
      | (with_reducible refine LRes.Kept.stall ?_ (by assumption))
      | (with_reducible refine LRes.Kept.full ?_ (by assumption))
      | with_reducible apply kept_ite
      | simp only [↓kept_mk_iff]
      | with_reducible intro _
      | split

theorem execTokenLookup_kept {kk : Keep} (nmem : kk.mem = none) (dt : Nat) (t : Sys2Proof.TileId) (s : State) (kh : Kept kk s) : OutKept kk (execTokenLookup dt t s) := by
  unfold execTokenLookup
  try dsimp only
  repeat' first
    | with_reducible first | assumption | apply State.lookupFrom_kept | apply State.advance_kept | apply outKept_next | apply kept_ite | intro _
    | split

theorem State.drainOne_kept {kk : Keep} (s : State) (t : Nat) (kh : Kept kk s) : Kept kk (State.drainOne s t) := by
  unfold State.drainOne
  try dsimp only
  repeat' first
    | with_reducible first | assumption | apply State.setTile_kept
    | simp only [↓kept_mk_iff]
    | with_reducible intro _
    | split

theorem execSpillWriteBufferDrain_kept {kk : Keep} (dt : Nat) (t : Sys2Proof.TileId) (s : State) (kh : Kept kk s) : OutKept kk (execSpillWriteBufferDrain dt t s) := by
  unfold execSpillWriteBufferDrain
  try dsimp only
  repeat' first
    | with_reducible first | assumption | apply State.drainOne_kept | apply State.advance_kept | apply outKept_next | intro _

theorem State.rejoin_kept {kk : Keep} (s : State) (t : Nat) (l : List Staged) (kh : Kept kk s) : Kept kk (State.rejoin s t l) := by
  unfold State.rejoin
  try dsimp only
  repeat' first
    | with_reducible first | assumption | apply State.onTile_kept
    | (with_reducible apply kept_foldl; intro _ _ _)
    | (with_reducible apply kept_foldl_fst; intro _ _ _)
    | (with_reducible apply kept_foldl_snd; intro _ _ _)
    | simp only [↓kept_mk_iff]
    | with_reducible intro _

theorem State.refill_kept {kk : Keep} (s : State) (t i : Nat) (kh : Kept kk s) : Kept kk (State.refill s t i) := by
  unfold State.refill
  try dsimp only
  repeat' first
    | with_reducible first | assumption | apply State.rejoin_kept | apply State.unspill_kept | apply State.complete_kept | apply State.takeEntry_kept | apply State.popOut_kept | apply State.onTile_kept | apply State.inc_kept
    | (with_reducible apply kept_foldl; intro _ _ _)
    | (with_reducible apply kept_foldl_fst; intro _ _ _)
    | (with_reducible apply kept_foldl_snd; intro _ _ _)
    | (with_reducible refine Room.Kept.ok ?_ (by assumption))
    | with_reducible first | apply OptKept.getD | apply kept_ite
    | simp only [↓kept_mk_iff]
    | with_reducible intro _
    | split

theorem execRefill_kept {kk : Keep} (dt : Nat) (t : Sys2Proof.TileId) (i : Fin 64) (s : State) (kh : Kept kk s) : OutKept kk (execRefill dt t i s) := by
  unfold execRefill
  try dsimp only
  repeat' first
    | with_reducible first | assumption | apply State.refill_kept | apply State.advance_kept | apply outKept_next | intro _

theorem State.cancelTasks_kept {kk : Keep} (s : State) (t c : Nat) (kh : Kept kk s) : Kept kk (State.cancelTasks s t c) := by
  unfold State.cancelTasks
  try dsimp only
  repeat' first
    | with_reducible first | assumption | apply State.setTile_kept | apply State.finc_kept
    | simp only [↓kept_mk_iff]
    | with_reducible intro _

theorem State.unreserve_kept {kk : Keep} (s : State) (c : Nat) (kh : Kept kk s) : Kept kk (State.unreserve s c) := by
  unfold State.unreserve
  try dsimp only
  repeat' first
    | with_reducible first | assumption | apply State.fset_kept
    | (with_reducible apply kept_foldl; intro _ _ _)
    | (with_reducible apply kept_foldl_fst; intro _ _ _)
    | (with_reducible apply kept_foldl_snd; intro _ _ _)
    | with_reducible first | apply kept_ite | intro _
    | split

theorem State.freeIfDone_kept {kk : Keep} (nmem : kk.mem = none) (s : State) (c : Nat) (kh : Kept kk s) : Kept kk (State.freeIfDone s c) := by
  unfold State.freeIfDone
  try dsimp only
  repeat' first
    | with_reducible first | assumption | apply State.unreserve_kept | apply State.setCtx_kept | apply kept_ite
    | simp only [↓kept_mk_iff]
    | with_reducible intro _
    | split

theorem State.startClose_kept {kk : Keep} (nmem : kk.mem = none) (s : State) (c : Nat) (victim : Nat) (kh : Kept kk s) : Kept kk (State.startClose s c victim) := by
  unfold State.startClose
  try dsimp only
  repeat' first
    | with_reducible first | assumption | apply State.freeIfDone_kept | apply State.cancelTasks_kept | apply State.setCtx_kept | apply State.post_kept | apply State.onTile_kept
    | (with_reducible apply kept_foldl; intro _ _ _)
    | (with_reducible apply kept_foldl_fst; intro _ _ _)
    | (with_reducible apply kept_foldl_snd; intro _ _ _)
    | with_reducible apply kept_ite
    | simp only [↓kept_mk_iff]
    | with_reducible intro _
    | split

theorem State.freeNotice_kept {kk : Keep} (nmem : kk.mem = none) (s : State) (c : Nat) (kh : Kept kk s) : Kept kk (State.freeNotice s c) := by
  unfold State.freeNotice
  try dsimp only
  repeat' first
    | with_reducible first | assumption | apply State.startClose_kept | apply State.inc_kept | apply kept_ite
    | simp only [↓kept_mk_iff]
    | with_reducible intro _
    | split

theorem execFreeNotice_kept {kk : Keep} (nmem : kk.mem = none) (c : Sys2Proof.CtxId) (s : State) (kh : Kept kk s) : OutKept kk (execFreeNotice c s) := by
  unfold execFreeNotice
  try dsimp only
  repeat' first
    | with_reducible first | assumption | apply State.freeNotice_kept | apply State.ctlAwake_kept | apply outKept_next | intro _

theorem State.victimTokens_kept {kk : Keep} (nmem : kk.mem = none) (s : State) (t code : Nat) (l : List Token) (kh : Kept kk s) : Kept kk (State.victimTokens s t code l) := by
  unfold State.victimTokens
  try dsimp only
  repeat' first
    | with_reducible first | assumption | apply State.pushFault_kept
    | (with_reducible apply kept_foldl; intro _ _ _)
    | (with_reducible apply kept_foldl_fst; intro _ _ _)
    | (with_reducible apply kept_foldl_snd; intro _ _ _)
    | with_reducible intro _

theorem State.closeAt_kept {kk : Keep} (nmem : kk.mem = none) (s : State) (c t : Nat) (kh : Kept kk s) : Kept kk (State.closeAt s c t) := by
  unfold State.closeAt
  try dsimp only
  repeat' first
    | with_reducible first | assumption | apply State.victimTokens_kept | apply State.cancelTasks_kept | apply State.reoffer_kept | apply State.popOut_kept | apply State.onTile_kept | apply State.setTile_kept | apply State.finc_kept
    | (with_reducible apply kept_foldl; intro _ _ _)
    | (with_reducible apply kept_foldl_fst; intro _ _ _)
    | (with_reducible apply kept_foldl_snd; intro _ _ _)
    | with_reducible apply kept_ite
    | simp only [↓kept_mk_iff]
    | with_reducible intro _
    | split

theorem State.contextClose_kept {kk : Keep} (nmem : kk.mem = none) (s : State) (c t : Nat) (kh : Kept kk s) : Kept kk (State.contextClose s c t) := by
  unfold State.contextClose
  try dsimp only
  repeat' first
    | with_reducible first | assumption | apply State.closeAt_kept
    | simp only [↓kept_mk_iff]
    | with_reducible intro _
    | split

theorem execContextClose_kept {kk : Keep} (nmem : kk.mem = none) (dt : Nat) (c : Sys2Proof.CtxId) (t : Sys2Proof.TileId) (s : State) (kh : Kept kk s) : OutKept kk (execContextClose dt c t s) := by
  unfold execContextClose
  try dsimp only
  repeat' first
    | with_reducible first | assumption | apply State.contextClose_kept | apply State.ctlAwake_kept | apply State.advance_kept | apply outKept_next | intro _

theorem State.sweepEnd_kept {kk : Keep} (nmem : kk.mem = none) (s : State) (c t : Nat) (kh : Kept kk s) : Kept kk (State.sweepEnd s c t) := by
  unfold State.sweepEnd
  try dsimp only
  repeat' first
    | with_reducible first | assumption | apply State.post_kept | apply State.setTile_kept
    | simp only [↓kept_mk_iff]
    | with_reducible intro _
    | split

theorem execSweepEnd_kept {kk : Keep} (nmem : kk.mem = none) (dt : Nat) (c : Sys2Proof.CtxId) (t : Sys2Proof.TileId) (s : State) (kh : Kept kk s) : OutKept kk (execSweepEnd dt c t s) := by
  unfold execSweepEnd
  try dsimp only
  repeat' first
    | with_reducible first | assumption | apply State.sweepEnd_kept | apply State.advance_kept | apply outKept_next | intro _

theorem State.closeAck_kept {kk : Keep} (nmem : kk.mem = none) (s : State) (c t : Nat) (kh : Kept kk s) : Kept kk (State.closeAck s c t) := by
  unfold State.closeAck
  try dsimp only
  repeat' first
    | with_reducible first | assumption | apply State.freeIfDone_kept | apply State.setCtx_kept | apply kept_ite
    | simp only [↓kept_mk_iff]
    | with_reducible intro _
    | split

theorem execCloseAck_kept {kk : Keep} (nmem : kk.mem = none) (c : Sys2Proof.CtxId) (t : Sys2Proof.TileId) (s : State) (kh : Kept kk s) : OutKept kk (execCloseAck c t s) := by
  unfold execCloseAck
  try dsimp only
  repeat' first
    | with_reducible first | assumption | apply State.closeAck_kept | apply State.ctlAwake_kept | apply outKept_next | intro _

theorem State.laneTake_kept {kk : Keep} (s : State) (l : Nat) (kh : Kept kk s) : Kept kk (State.laneTake s l).2 := by
  unfold State.laneTake
  try dsimp only
  repeat' first
    | with_reducible first | assumption | apply State.post_kept | apply State.setLane_kept
    | simp only [↓kept_mk_iff]
    | with_reducible intro _

theorem State.laneAlloc_kept {kk : Keep} (s : State) (c l : Nat) (kh : Kept kk s) : (State.laneAlloc s c l).Kept kk := by
  unfold State.laneAlloc
  try dsimp only
  repeat' first
    | with_reducible first | assumption | apply State.laneTake_kept | apply AllocRes.kept_num | exact AllocRes.kept_wait | exact AllocRes.kept_fails
    | (with_reducible refine kept_of_snd ?_ (by assumption))
    | with_reducible first | apply kept_ite | intro _
    | split

theorem State.laneFault_kept {kk : Keep} (nmem : kk.mem = none) (s : State) (l : Nat) (tag : Word) (k : Option Token) (code : Nat) (kh : Kept kk s) : Kept kk (State.laneFault s l tag k code) := by
  unfold State.laneFault
  try dsimp only
  repeat' first
    | with_reducible first | assumption | apply State.sendFault_kept | apply OptKept.getD | intro _

theorem State.creditFlit_kept {kk : Keep} (s : State) (l : Nat) (kh : Kept kk s) : Kept kk (State.creditFlit s l) := by
  unfold State.creditFlit
  try dsimp only
  repeat' first
    | with_reducible first | assumption | apply State.post_kept | apply State.setLane_kept | apply kept_ite
    | simp only [↓kept_mk_iff]
    | with_reducible intro _
    | split

theorem execCreditFlit_kept {kk : Keep} (dt : Nat) (l : Sys2Proof.LaneId) (s : State) (kh : Kept kk s) : OutKept kk (execCreditFlit dt l s) := by
  unfold execCreditFlit
  try dsimp only
  repeat' first
    | with_reducible first | assumption | apply State.creditFlit_kept | apply State.advance_kept | apply outKept_next | intro _

theorem State.wakeCredit_kept {kk : Keep} (s : State) (l : Nat) (r : WakeRes) (kh : Kept kk s) : Kept kk (State.wakeCredit s l r) := by
  unfold State.wakeCredit
  try dsimp only
  repeat' first
    | with_reducible first | assumption | apply State.wake_kept
    | (with_reducible apply kept_foldl; intro _ _ _)
    | (with_reducible apply kept_foldl_fst; intro _ _ _)
    | (with_reducible apply kept_foldl_snd; intro _ _ _)
    | with_reducible intro _

theorem State.creditArrival_kept {kk : Keep} (s : State) (l : Nat) (kh : Kept kk s) : Kept kk (State.creditArrival s l) := by
  unfold State.creditArrival
  try dsimp only
  repeat' first
    | with_reducible first | assumption | apply State.wakeCredit_kept | apply State.setLane_kept | apply kept_ite
    | simp only [↓kept_mk_iff]
    | with_reducible intro _
    | split

theorem State.snextReport_kept {kk : Keep} (s : State) (l : Nat) (kh : Kept kk s) : Kept kk (State.snextReport s l) := by
  unfold State.snextReport
  try dsimp only
  repeat' first
    | with_reducible first | assumption | apply State.setLane_kept
    | simp only [↓kept_mk_iff]
    | with_reducible intro _
    | split

theorem execSnextReport_kept {kk : Keep} (l : Sys2Proof.LaneId) (s : State) (kh : Kept kk s) : OutKept kk (execSnextReport l s) := by
  unfold execSnextReport
  try dsimp only
  repeat' first
    | with_reducible first | assumption | apply State.snextReport_kept | apply outKept_next | intro _

theorem State.bindQueues_kept {kk : Keep} (s : State) (v : Word) (b : Nat) (kh : Kept kk s) : Kept kk (State.bindQueues s v b) := by
  unfold State.bindQueues
  try dsimp only
  repeat' first
    | with_reducible first | assumption | apply State.fset_kept | apply kept_ite | intro _
    | split

theorem State.setCbfree_kept {kk : Keep} (s : State) (k : Nat) (kh : Kept kk s) : Kept kk (State.setCbfree s k) := by
  unfold State.setCbfree
  try dsimp only
  repeat' first
    | with_reducible first | assumption | apply State.fset_kept | intro _

theorem State.laneOn_kept {kk : Keep} (s : State) (l : Nat) (v : Word) (kh : Kept kk s) : Kept kk (State.laneOn s l v) := by
  unfold State.laneOn
  try dsimp only
  repeat' first
    | with_reducible first | assumption | apply State.setCbfree_kept | apply State.bindQueues_kept | apply State.setLane_kept | apply State.setReg_kept
    | simp only [↓kept_mk_iff]
    | with_reducible intro _

theorem State.laneOff_kept {kk : Keep} (s : State) (l : Nat) (kh : Kept kk s) : Kept kk (State.laneOff s l) := by
  unfold State.laneOff
  try dsimp only
  repeat' first
    | with_reducible first | assumption | apply State.setCbfree_kept | apply State.bindQueues_kept | apply State.setLane_kept | apply State.fset_kept
    | simp only [↓kept_mk_iff]
    | with_reducible intro _

theorem State.endAllocs_kept {kk : Keep} (nmem : kk.mem = none) (s : State) (l : Nat) (kh : Kept kk s) : Kept kk (State.endAllocs s l) := by
  unfold State.endAllocs
  try dsimp only
  repeat' first
    | with_reducible first | assumption | apply State.wakeCredit_kept | apply State.pushFault_kept | apply State.setTile_kept
    | (with_reducible apply kept_foldl; intro _ _ _)
    | (with_reducible apply kept_foldl_fst; intro _ _ _)
    | (with_reducible apply kept_foldl_snd; intro _ _ _)
    | with_reducible apply kept_ite
    | simp only [↓kept_mk_iff]
    | with_reducible intro _
    | split

theorem State.laneDrain_kept {kk : Keep} (nmem : kk.mem = none) (s : State) (l : Nat) (kh : Kept kk s) : Kept kk (State.laneDrain s l) := by
  unfold State.laneDrain
  try dsimp only
  repeat' first
    | with_reducible first | assumption | apply State.endAllocs_kept | apply State.setLane_kept | apply State.fset_kept
    | simp only [↓kept_mk_iff]
    | with_reducible intro _

theorem State.laneCfgWrite_kept {kk : Keep} (nmem : kk.mem = none) (s : State) (l : Nat) (v : Word) (kh : Kept kk s) : (State.laneCfgWrite s l v).Kept kk := by
  unfold State.laneCfgWrite
  try dsimp only
  repeat' first
    | with_reducible first | assumption | apply State.laneDrain_kept | apply State.laneOn_kept | apply State.setReg_kept | apply WRes.kept_ok | exact WRes.kept_refuse | apply kept_ite
    | simp only [↓kept_mk_iff]
    | with_reducible intro _
    | split

theorem State.laneDrained_kept {kk : Keep} (s : State) (l : Nat) (kh : Kept kk s) : Kept kk (State.laneDrained s l) := by
  unfold State.laneDrained
  try dsimp only
  repeat' first
    | with_reducible first | assumption | apply State.laneOff_kept | apply kept_ite | intro _
    | split

theorem execLaneDrained_kept {kk : Keep} (l : Sys2Proof.LaneId) (s : State) (kh : Kept kk s) : OutKept kk (execLaneDrained l s) := by
  unfold execLaneDrained
  try dsimp only
  repeat' first
    | with_reducible first | assumption | apply State.laneDrained_kept | apply outKept_next | intro _

theorem State.laneWindowReset_kept {kk : Keep} (nmem : kk.mem = none) (s : State) (l : Nat) (kh : Kept kk s) : Kept kk (State.laneWindowReset s l) := by
  unfold State.laneWindowReset
  try dsimp only
  repeat' first
    | with_reducible first | assumption | apply State.endAllocs_kept | apply State.laneOff_kept | apply State.sendFault_kept | apply kept_ite | intro _
    | split

theorem State.laneSourceReset_kept {kk : Keep} (nmem : kk.mem = none) (s : State) (l : Nat) (kh : Kept kk s) : Kept kk (State.laneSourceReset s l) := by
  unfold State.laneSourceReset
  try dsimp only
  repeat' first
    | with_reducible first | assumption | apply State.laneDrain_kept | apply kept_ite | intro _
    | split

theorem State.qbaseWrite_kept {kk : Keep} (s : State) (t q : Nat) (v : Word) (kh : Kept kk s) : (State.qbaseWrite s t q v).Kept kk := by
  unfold State.qbaseWrite
  try dsimp only
  repeat' first
    | with_reducible first | assumption | apply State.setReg_kept | apply WRes.kept_ok | exact WRes.kept_refuse | apply kept_ite | intro _
    | split

theorem State.qcfgWrite_kept {kk : Keep} (s : State) (t q : Nat) (v0 : Word) (kh : Kept kk s) : (State.qcfgWrite s t q v0).Kept kk := by
  unfold State.qcfgWrite
  try dsimp only
  repeat' first
    | with_reducible first | assumption | apply State.qMarks_kept | apply State.setReg_kept | apply WRes.kept_ok | exact WRes.kept_refuse | apply kept_ite | intro _
    | split

theorem State.chanStage_kept {kk : Keep} (nmem : kk.mem = none) (s : State) (t q : Nat) (k : Token) (kh : Kept kk s) : Kept kk (State.chanStage s t q k) := by
  unfold State.chanStage
  try dsimp only
  repeat' first
    | with_reducible first | assumption | apply State.qWrite_kept | apply State.fset_kept | intro _

theorem State.chanGive_kept {kk : Keep} (s : State) (t q c n : Nat) (kh : Kept kk s) : Kept kk (State.chanGive s t q c n) := by
  unfold State.chanGive
  try dsimp only
  repeat' first
    | with_reducible first | assumption | apply State.fset_kept | intro _

theorem State.chanPass_kept {kk : Keep} (nmem : kk.mem = none) (s : State) (t q : Nat) (kh : Kept kk s) : Kept kk (State.chanPass s t q) := by
  unfold State.chanPass
  try dsimp only
  repeat' first
    | with_reducible first | assumption | apply State.chanGive_kept | apply State.chanStage_kept | apply State.wake_kept | apply State.onThr_kept | apply State.fset_kept | apply kept_ite
    | simp only [↓kept_mk_iff]
    | with_reducible intro _
    | split

theorem State.chanPoke_kept {kk : Keep} (nmem : kk.mem = none) (s : State) (t q : Nat) (kh : Kept kk s) : Kept kk (State.chanPoke s t q) := by
  unfold State.chanPoke
  try dsimp only
  repeat' first
    | with_reducible first | assumption | apply State.chanStage_kept | apply State.wake_kept | apply kept_ite
    | simp only [↓kept_mk_iff]
    | with_reducible intro _
    | split

theorem State.chanRelease_kept {kk : Keep} (nmem : kk.mem = none) (s : State) (t q : Nat) (kh : Kept kk s) : Kept kk (State.chanRelease s t q) := by
  unfold State.chanRelease
  try dsimp only
  repeat' first
    | with_reducible first | assumption | apply State.chanPass_kept | apply State.fset_kept | apply kept_ite | intro _
    | split

theorem State.releaseChans_kept {kk : Keep} (nmem : kk.mem = none) (s : State) (c n : Nat) (kh : Kept kk s) : Kept kk (State.releaseChans s c n) := by
  unfold State.releaseChans
  try dsimp only
  repeat' first
    | with_reducible first | assumption | apply State.chanRelease_kept
    | (with_reducible apply kept_foldl; intro _ _ _)
    | (with_reducible apply kept_foldl_fst; intro _ _ _)
    | (with_reducible apply kept_foldl_snd; intro _ _ _)
    | with_reducible intro _

theorem State.chanWrite_kept {kk : Keep} (nmem : kk.mem = none) (s : State) (t q c n : Nat) (k : Token) (kh : Kept kk s) : (State.chanWrite s t q c n k).Kept kk := by
  unfold State.chanWrite
  try dsimp only
  repeat' first
    | with_reducible first | assumption | apply State.chanRelease_kept | apply State.chanGive_kept | apply State.chanStage_kept | apply QRes.kept_done | apply QRes.kept_wait | apply QRes.kept_fails | apply kept_ite | intro _
    | split

theorem State.markLast_kept {kk : Keep} (nmem : kk.mem = none) (s : State) (t q tl : Nat) (z0 : Nat) (kh : Kept kk s) : Kept kk (State.markLast s t q tl z0) := by
  induction z0 generalizing s t q tl with
  | zero =>
    unfold State.markLast
    try dsimp only
    repeat' first
      | with_reducible first | assumption | apply State.qWrite_kept
      | simp only [↓kept_mk_iff]
      | with_reducible intro _
      | split
  | succ n ih =>
    unfold State.markLast
    try dsimp only
    repeat' first
      | with_reducible first | assumption | apply ih | apply State.qWrite_kept
      | simp only [↓kept_mk_iff]
      | with_reducible intro _
      | split

theorem State.chanCommit_kept {kk : Keep} (nmem : kk.mem = none) (s : State) (t q c n : Nat) (kh : Kept kk s) : (State.chanCommit s t q c n).Kept kk := by
  unfold State.chanCommit
  try dsimp only
  repeat' first
    | with_reducible first | assumption | apply State.markLast_kept | apply State.chanPass_kept | apply State.qMarks_kept | apply State.qServe_kept | apply State.qWrite_kept | apply State.fset_kept | apply QRes.kept_done | apply QRes.kept_fails | apply kept_ite
    | simp only [↓kept_mk_iff]
    | with_reducible intro _
    | split

theorem State.threadPop_kept {kk : Keep} (nmem : kk.mem = none) (s : State) (t q : Nat) (kh : Kept kk s) : Kept kk (State.threadPop s t q).2 := by
  unfold State.threadPop
  try dsimp only
  repeat' first
    | with_reducible first | assumption | apply State.chanPoke_kept | apply State.qMarks_kept | apply State.qTake_kept | exact optKept_none | apply optKept_some | apply optKept_ite
    | (with_reducible refine kept_of_snd ?_ (by assumption))
    | with_reducible first | apply kept_ite | intro _
    | split

theorem State.qdbWrite_kept {kk : Keep} (nmem : kk.mem = none) (s : State) (t q prod cons : Nat) (kh : Kept kk s) : (State.qdbWrite s t q prod cons).Kept kk := by
  unfold State.qdbWrite
  try dsimp only
  repeat' first
    | with_reducible first | assumption | apply State.chanPoke_kept | apply State.qMarks_kept | apply State.qServe_kept | apply State.fset_kept | apply WRes.kept_ok | exact WRes.kept_refuse | apply kept_ite | intro _
    | split

theorem State.bounceBack_kept {kk : Keep} (s : State) (t q : Nat) (k : Token) (sr : Nat) (sedge : Bool) (stamp : Nat) (kh : Kept kk s) : Kept kk (State.bounceBack s t q k sr sedge stamp) := by
  unfold State.bounceBack
  try dsimp only
  repeat' first
    | with_reducible first | assumption | apply State.inc_kept
    | simp only [↓kept_mk_iff]
    | with_reducible intro _

theorem State.queuePush_kept {kk : Keep} (nmem : kk.mem = none) (s : State) (t q : Nat) (kh : Kept kk s) : Kept kk (State.queuePush s t q) := by
  unfold State.queuePush
  try dsimp only
  repeat' first
    | with_reducible first | assumption | apply State.bounceBack_kept | apply State.pushFault_kept | apply State.qPut_kept
    | simp only [↓kept_mk_iff]
    | with_reducible intro _
    | split

theorem execQueuePush_kept {kk : Keep} (nmem : kk.mem = none) (dt : Nat) (t : Sys2Proof.TileId) (q : Sys2Proof.QueueId) (s : State) (kh : Kept kk s) : OutKept kk (execQueuePush dt t q s) := by
  unfold execQueuePush
  try dsimp only
  repeat' first
    | with_reducible first | assumption | apply State.queuePush_kept | apply State.advance_kept | apply outKept_next | intro _

theorem State.lanePop_kept {kk : Keep} (nmem : kk.mem = none) (s : State) (l : Nat) (kh : Kept kk s) : Kept kk (State.lanePop s l) := by
  unfold State.lanePop
  try dsimp only
  repeat' first
    | with_reducible first | assumption | apply State.chanPoke_kept | apply State.laneTake_kept | apply State.sendTok_kept | apply State.qMarks_kept | apply State.qTake_kept | apply State.onTile_kept
    | (with_reducible refine kept_of_snd ?_ (by assumption))
    | (with_reducible refine Inj.Kept.sent ?_ (by assumption))
    | (with_reducible refine Inj.Kept.fenced ?_ (by assumption))
    | with_reducible apply kept_ite
    | simp only [↓kept_mk_iff]
    | with_reducible intro _
    | split

theorem execLaneSourcePop_kept {kk : Keep} (nmem : kk.mem = none) (dt : Nat) (l : Sys2Proof.LaneId) (s : State) (kh : Kept kk s) : OutKept kk (execLaneSourcePop dt l s) := by
  unfold execLaneSourcePop
  try dsimp only
  repeat' first
    | with_reducible first | assumption | apply State.lanePop_kept | apply State.advance_kept | apply outKept_next | intro _

theorem State.pushRetry_kept {kk : Keep} (nmem : kk.mem = none) (s : State) (c n : Nat) (kh : Kept kk s) : Kept kk (State.pushRetry s c n) := by
  unfold State.pushRetry
  try dsimp only
  repeat' first
    | with_reducible first | assumption | apply State.qPut_kept | apply State.wake_kept | apply State.setThr_kept | apply kept_ite
    | simp only [↓kept_mk_iff]
    | with_reducible intro _
    | split

theorem execPushRetry_kept {kk : Keep} (nmem : kk.mem = none) (dt : Nat) (c : Sys2Proof.CoreId) (n : Sys2Proof.ThreadId) (s : State) (kh : Kept kk s) : OutKept kk (execPushRetry dt c n s) := by
  unfold execPushRetry
  try dsimp only
  repeat' first
    | with_reducible first | assumption | apply State.pushRetry_kept | apply State.advance_kept | apply outKept_next | intro _

theorem State.setShadow_kept {kk : Keep} (s : State) (t : Nat) (b : CoxBank) (kh : Kept kk s) : Kept kk (State.setShadow s t b) := by
  unfold State.setShadow
  try dsimp only
  repeat' first
    | with_reducible first | assumption | apply State.onTile_kept | apply State.fset_kept | apply kept_ite
    | simp only [↓kept_mk_iff]
    | with_reducible intro _
    | split

theorem State.charge_kept {kk : Keep} (s : State) (c a : Nat) (ch : Charge) (kh : Kept kk s) : Kept kk (State.charge s c a ch) := by
  unfold State.charge
  try dsimp only
  repeat' first
    | with_reducible first | assumption | apply State.setReg_kept | apply kept_ite | intro _
    | split

theorem State.flagHeld_kept {kk : Keep} (s : State) (t a : Nat) (kh : Kept kk s) : Kept kk (State.flagHeld s t a) := by
  unfold State.flagHeld
  try dsimp only
  repeat' first
    | with_reducible first | assumption | apply State.onTile_kept | apply kept_ite
    | simp only [↓kept_mk_iff]
    | with_reducible intro _
    | split

theorem State.grant_kept {kk : Keep} (s : State) (t : Nat) (h : Activity) (kh : Kept kk s) : Kept kk (State.grant s t h) := by
  unfold State.grant
  try dsimp only
  repeat' first
    | with_reducible first | assumption | apply State.setReg_kept | intro _

theorem State.openShot_kept {kk : Keep} (s : State) (t : Nat) (kh : Kept kk s) : Kept kk (State.openShot s t) := by
  unfold State.openShot
  try dsimp only
  repeat' first
    | with_reducible first | assumption | apply State.grant_kept | apply State.onTile_kept | apply State.fset_kept | apply kept_ite
    | simp only [↓kept_mk_iff]
    | with_reducible intro _
    | split

theorem execShotOpen_kept {kk : Keep} (dt : Nat) (t : Sys2Proof.TileId) (s : State) (kh : Kept kk s) : OutKept kk (execShotOpen dt t s) := by
  unfold execShotOpen
  try dsimp only
  repeat' first
    | with_reducible first | assumption | apply State.openShot_kept | apply State.advance_kept | apply outKept_next | intro _

theorem State.closeShot_kept {kk : Keep} (s : State) (t i : Nat) (kh : Kept kk s) : Kept kk (State.closeShot s t i) := by
  unfold State.closeShot
  try dsimp only
  repeat' first
    | with_reducible first | assumption | apply State.onTile_kept | apply kept_ite
    | simp only [↓kept_mk_iff]
    | with_reducible intro _
    | split

theorem execShotClose_kept {kk : Keep} (dt : Nat) (t : Sys2Proof.TileId) (i : Fin 256) (s : State) (kh : Kept kk s) : OutKept kk (execShotClose dt t i s) := by
  unfold execShotClose
  try dsimp only
  repeat' first
    | with_reducible first | assumption | apply State.closeShot_kept | apply State.advance_kept | apply outKept_next | intro _

theorem State.overrunToken_kept {kk : Keep} (nmem : kk.mem = none) (s : State) (t a : Nat) (kh : Kept kk s) : Kept kk (State.overrunToken s t a) := by
  unfold State.overrunToken
  try dsimp only
  repeat' first
    | with_reducible first | assumption | apply State.sendFault_kept | intro _

theorem State.overrunLimit_kept {kk : Keep} (nmem : kk.mem = none) (s : State) (t a : Nat) (kh : Kept kk s) : Kept kk (State.overrunLimit s t a) := by
  unfold State.overrunLimit
  try dsimp only
  repeat' first
    | with_reducible first | assumption | apply State.overrunToken_kept | apply State.onTile_kept | apply State.fset_kept | apply kept_ite
    | simp only [↓kept_mk_iff]
    | with_reducible intro _
    | split

theorem execOverrunLimit_kept {kk : Keep} (nmem : kk.mem = none) (t : Sys2Proof.TileId) (a : Fin 64) (s : State) (kh : Kept kk s) : OutKept kk (execOverrunLimit t a s) := by
  unfold execOverrunLimit
  try dsimp only
  repeat' first
    | with_reducible first | assumption | apply State.overrunLimit_kept | apply outKept_next | intro _

theorem State.overrun_kept {kk : Keep} (nmem : kk.mem = none) (s : State) (t a : Nat) (kh : Kept kk s) : Kept kk (State.overrun s t a) := by
  unfold State.overrun
  try dsimp only
  repeat' first
    | with_reducible first | assumption | apply State.overrunToken_kept | apply State.raiseTile_kept | apply State.onTile_kept | apply State.inc_kept | apply State.fset_kept | apply kept_ite
    | simp only [↓kept_mk_iff]
    | with_reducible intro _
    | split

theorem State.setCell_kept {kk : Keep} (s : State) (g c : Nat) (x : Cell) (kh : Kept kk s) : Kept kk (State.setCell s g c x) := by
  unfold State.setCell
  try dsimp only
  repeat' first
    | with_reducible first | assumption | apply State.onTile_kept
    | simp only [↓kept_mk_iff]
    | with_reducible intro _

theorem State.relend_kept {kk : Keep} (s : State) (g c : Nat) (kh : Kept kk s) : Kept kk (State.relend s g c) := by
  unfold State.relend
  try dsimp only
  repeat' first
    | with_reducible first | assumption | apply State.post_kept
    | simp only [↓kept_mk_iff]
    | with_reducible intro _
    | split

theorem State.unlend_kept {kk : Keep} (s : State) (g c : Nat) (v : Word) (kh : Kept kk s) : Kept kk (State.unlend s g c v) := by
  unfold State.unlend
  try dsimp only
  repeat' first
    | with_reducible first | assumption | apply State.post_kept
    | simp only [↓kept_mk_iff]
    | with_reducible intro _
    | split

theorem State.handoff_kept {kk : Keep} (s : State) (g c : Nat) (aband : Bool) (kh : Kept kk s) : Kept kk (State.handoff s g c aband).2 := by
  unfold State.handoff
  try dsimp only
  repeat' first
    | with_reducible first | assumption | apply State.unlend_kept | apply State.relend_kept | apply State.setCell_kept | apply State.post_kept | apply State.onTile_kept | apply kept_ite
    | simp only [↓kept_mk_iff]
    | with_reducible intro _
    | split

theorem State.acquire_kept {kk : Keep} (s : State) (g c id : Nat) (kh : Kept kk s) : Kept kk (State.acquire s g c id).2 := by
  unfold State.acquire
  try dsimp only
  repeat' first
    | with_reducible first | assumption | apply State.setCell_kept | apply kept_ite | apply kept_id | intro _
    | split

theorem State.lockOp_kept {kk : Keep} (s : State) (g c core n : Nat) (op : LockOp) (kh : Kept kk s) : (State.lockOp s g c core n op).Kept kk := by
  unfold State.lockOp
  try dsimp only
  repeat' first
    | with_reducible first | assumption | apply State.acquire_kept | apply State.handoff_kept | apply State.relend_kept | apply State.setCell_kept | apply State.bump_kept | apply State.onTile_kept | apply State.inc_kept | apply LockAns.kept_status | apply LockAns.kept_fails | apply LockAns.kept_waits | apply LockAns.kept_tableFull
    | (with_reducible refine kept_of_snd ?_ (by assumption))
    | with_reducible first | apply kept_ite | apply kept_id
    | simp only [↓kept_mk_iff]
    | with_reducible intro _
    | split

theorem State.waitLock_kept {kk : Keep} (s : State) (core n lk : Nat) (kh : Kept kk s) : Kept kk (State.waitLock s core n lk) := by
  unfold State.waitLock
  try dsimp only
  repeat' first
    | with_reducible first | assumption | apply State.bump_kept | apply State.onThr_kept
    | simp only [↓kept_mk_iff]
    | with_reducible intro _

theorem State.lockStep_kept {kk : Keep} (s : State) (g : Nat) (kh : Kept kk s) : Kept kk (State.lockStep s g) := by
  unfold State.lockStep
  try dsimp only
  repeat' first
    | with_reducible first | assumption | apply State.waitLock_kept | apply State.lockOp_kept | apply State.post_kept | apply State.setTile_kept
    | (with_reducible refine LockAns.Kept.status ?_ (by assumption))
    | (with_reducible refine LockAns.Kept.fails ?_ (by assumption))
    | (with_reducible refine LockAns.Kept.waits ?_ (by assumption))
    | (with_reducible refine LockAns.Kept.tableFull ?_ (by assumption))
    | simp only [↓kept_mk_iff]
    | with_reducible intro _
    | split

theorem execLockOperation_kept {kk : Keep} (dt : Nat) (g : Sys2Proof.TileId) (s : State) (kh : Kept kk s) : OutKept kk (execLockOperation dt g s) := by
  unfold execLockOperation
  try dsimp only
  repeat' first
    | with_reducible first | assumption | apply State.lockStep_kept | apply State.ifAwake_kept | apply State.advance_kept | apply outKept_next | apply kept_ite | intro _

theorem State.lkacqAgain_kept {kk : Keep} (s : State) (g cell c n : Nat) (kh : Kept kk s) : Kept kk (State.lkacqAgain s g cell c n) := by
  unfold State.lkacqAgain
  try dsimp only
  repeat' first
    | with_reducible first | assumption | apply State.lockOp_kept | apply State.wake_kept | apply State.onThr_kept
    | (with_reducible refine LockAns.Kept.status ?_ (by assumption))
    | (with_reducible refine LockAns.Kept.fails ?_ (by assumption))
    | (with_reducible refine LockAns.Kept.waits ?_ (by assumption))
    | (with_reducible refine LockAns.Kept.tableFull ?_ (by assumption))
    | with_reducible apply kept_ite
    | simp only [↓kept_mk_iff]
    | with_reducible intro _
    | split

theorem State.lkacqRetry_kept {kk : Keep} (s : State) (c n : Nat) (kh : Kept kk s) : Kept kk (State.lkacqRetry s c n) := by
  unfold State.lkacqRetry
  try dsimp only
  repeat' first
    | with_reducible first | assumption | apply State.lkacqAgain_kept | apply State.ifAwake_kept | apply kept_ite | intro _
    | split

theorem execLkacqRetry_kept {kk : Keep} (dt : Nat) (c : Sys2Proof.CoreId) (n : Sys2Proof.ThreadId) (s : State) (kh : Kept kk s) : OutKept kk (execLkacqRetry dt c n s) := by
  unfold execLkacqRetry
  try dsimp only
  repeat' first
    | with_reducible first | assumption | apply State.lkacqRetry_kept | apply State.advance_kept | apply outKept_next | intro _

theorem State.lendArrival_kept {kk : Keep} (s : State) (c n : Nat) (kh : Kept kk s) : Kept kk (State.lendArrival s c n) := by
  unfold State.lendArrival
  try dsimp only
  repeat' first
    | with_reducible first | assumption | apply State.relend_kept | apply State.onThr_kept | apply kept_ite
    | simp only [↓kept_mk_iff]
    | with_reducible intro _
    | split

theorem execLend_kept {kk : Keep} (c : Sys2Proof.CoreId) (n : Sys2Proof.ThreadId) (s : State) (kh : Kept kk s) : OutKept kk (execLend c n s) := by
  unfold execLend
  try dsimp only
  repeat' first
    | with_reducible first | assumption | apply State.lendArrival_kept | apply State.ctlAwake_kept | apply outKept_next | intro _

theorem State.abandonCell_kept {kk : Keep} (s : State) (g c : Nat) (kh : Kept kk s) : Kept kk (State.abandonCell s g c) := by
  unfold State.abandonCell
  try dsimp only
  repeat' first
    | with_reducible first | assumption | apply State.handoff_kept | apply State.inc_kept
    | (with_reducible refine kept_of_snd ?_ (by assumption))
    | with_reducible intro _

theorem State.abandonOwner_kept {kk : Keep} (s : State) (p : Word → Bool) (kh : Kept kk s) : Kept kk (State.abandonOwner s p) := by
  unfold State.abandonOwner
  try dsimp only
  repeat' first
    | with_reducible first | assumption | apply State.abandonCell_kept
    | (with_reducible apply kept_foldl; intro _ _ _)
    | (with_reducible apply kept_foldl_fst; intro _ _ _)
    | (with_reducible apply kept_foldl_snd; intro _ _ _)
    | with_reducible intro _

theorem State.dropWaiter_kept {kk : Keep} (s : State) (c n : Nat) (kh : Kept kk s) : Kept kk (State.dropWaiter s c n) := by
  unfold State.dropWaiter
  try dsimp only
  repeat' first
    | with_reducible first | assumption | apply State.relend_kept | apply State.onTile_kept
    | (with_reducible apply kept_foldl; intro _ _ _)
    | (with_reducible apply kept_foldl_fst; intro _ _ _)
    | (with_reducible apply kept_foldl_snd; intro _ _ _)
    | with_reducible apply kept_ite
    | simp only [↓kept_mk_iff]
    | with_reducible intro _
    | split

theorem State.lkcellRead_kept {kk : Keep} (s : State) (who : Sys2Proof.Req) (g c : Nat) (kh : Kept kk s) : Kept kk (State.lkcellRead s who g c).2 := by
  unfold State.lkcellRead
  try dsimp only
  repeat' first
    | with_reducible first | assumption | apply State.acquire_kept
    | (with_reducible refine kept_of_snd ?_ (by assumption))
    | with_reducible first | apply kept_ite | intro _
    | split

theorem execLkcellRead_kept {kk : Keep} (who : Sys2Proof.Req) (g : Sys2Proof.TileId) (cell : Fin 64) (s : State) (kh : Kept kk s) : OutKept kk (execLkcellRead who g cell s) := by
  unfold execLkcellRead
  try dsimp only
  repeat' first
    | with_reducible first | assumption | apply State.lkcellRead_kept | apply State.emit_kept | apply outKept_next
    | (with_reducible refine kept_of_snd ?_ (by assumption))
    | simp only [↓kept_mk_iff]
    | with_reducible intro _
    | split

theorem State.lkcellWrite_kept {kk : Keep} (s : State) (who : Sys2Proof.Req) (g c : Nat) (v : Word) (kh : Kept kk s) : (State.lkcellWrite s who g c v).Kept kk := by
  unfold State.lkcellWrite
  try dsimp only
  repeat' first
    | with_reducible first | assumption | apply State.handoff_kept | apply State.setCell_kept | apply WRes.kept_ok | exact WRes.kept_refuse
    | (with_reducible refine kept_of_snd ?_ (by assumption))
    | with_reducible first | apply kept_ite | intro _
    | split

theorem State.lkgcfgWrite_kept {kk : Keep} (s : State) (g : Nat) (v : Word) (kh : Kept kk s) : (State.lkgcfgWrite s g v).Kept kk := by
  unfold State.lkgcfgWrite
  try dsimp only
  repeat' first
    | with_reducible first | assumption | apply State.onTile_kept | apply State.setReg_kept | apply WRes.kept_ok | exact WRes.kept_refuse | apply kept_ite
    | simp only [↓kept_mk_iff]
    | with_reducible intro _
    | split

end Sys2Proof.Machine
end

