-- ==== Sys2Proof/Laws/KeptUnits.lean ====
section
/-! SUPPORT. What the model keeps (Kept.lean): threads, interrupts, memory access, the test helpers, rushes, power and ports. One lemma for each operation: memory, graph memory and the device state are kept unless the lemma asks that they need not be. -/
namespace Sys2Proof.Machine

theorem State.pcCheck_kept {kk : Keep} (nmem : kk.mem = none) (s : State) (c n : Nat) (kh : Kept kk s) : Kept kk (State.pcCheck s c n) := by
  unfold State.pcCheck
  try dsimp only
  repeat' first
    | with_reducible first | assumption | apply State.trap_kept | apply kept_ite | intro _
    | split

theorem State.advancePc_kept {kk : Keep} (nmem : kk.mem = none) (s : State) (c n p npc : Nat) (kh : Kept kk s) : Kept kk (State.advancePc s c n p npc) := by
  unfold State.advancePc
  try dsimp only
  repeat' first
    | with_reducible first | assumption | apply State.pcCheck_kept | apply State.setThr_kept | intro _

theorem State.forkChild_kept {kk : Keep} (s : State) (c p k target : Nat) (arg : Word) (kh : Kept kk s) : Kept kk (State.forkChild s c p k target arg) := by
  unfold State.forkChild
  try dsimp only
  repeat' first
    | with_reducible first | assumption | apply State.onThr_kept | apply State.setThr_kept | apply State.setReg_kept
    | simp only [↓kept_mk_iff]
    | with_reducible intro _

theorem State.spawnIn_kept {kk : Keep} (s : State) (c k target : Nat) (tok : Token) (cls pri act : Nat) (kh : Kept kk s) : Kept kk (State.spawnIn s c k target tok cls pri act) := by
  unfold State.spawnIn
  try dsimp only
  repeat' first
    | with_reducible first | assumption | apply State.setThr_kept
    | simp only [↓kept_mk_iff]
    | with_reducible intro _

theorem State.poolFreed_kept {kk : Keep} (s : State) (c : Nat) (kh : Kept kk s) : Kept kk (State.poolFreed s c) := by
  unfold State.poolFreed
  try dsimp only
  repeat' first
    | with_reducible first | assumption | apply State.forkChild_kept | apply State.wake_kept
    | simp only [↓kept_mk_iff]
    | with_reducible intro _
    | split

theorem State.leaveParent_kept {kk : Keep} (s : State) (c n : Nat) (kh : Kept kk s) : Kept kk (State.leaveParent s c n) := by
  unfold State.leaveParent
  try dsimp only
  repeat' first
    | with_reducible first | assumption | apply State.wake_kept | apply State.setThr_kept | apply kept_ite
    | simp only [↓kept_mk_iff]
    | with_reducible intro _
    | split

theorem State.orphanKids_kept {kk : Keep} (s : State) (c n : Nat) (kh : Kept kk s) : Kept kk (State.orphanKids s c n) := by
  unfold State.orphanKids
  try dsimp only
  repeat' first
    | with_reducible first | assumption | apply State.onThr_kept
    | (with_reducible apply kept_foldl; intro _ _ _)
    | (with_reducible apply kept_foldl_fst; intro _ _ _)
    | (with_reducible apply kept_foldl_snd; intro _ _ _)
    | with_reducible apply kept_ite
    | simp only [↓kept_mk_iff]
    | with_reducible intro _
    | split

theorem State.dropTasks_kept {kk : Keep} (s : State) (c : Nat) (p : Task → Bool) (kh : Kept kk s) : Kept kk (State.dropTasks s c p) := by
  unfold State.dropTasks
  try dsimp only
  repeat' first
    | with_reducible first | assumption | apply State.onTile_kept
    | simp only [↓kept_mk_iff]
    | with_reducible intro _

theorem State.endThread_kept {kk : Keep} (nmem : kk.mem = none) (s : State) (c n : Nat) (kh : Kept kk s) : Kept kk (State.endThread s c n) := by
  unfold State.endThread
  try dsimp only
  repeat' first
    | with_reducible first | assumption | apply State.dropTasks_kept | apply State.orphanKids_kept | apply State.leaveParent_kept | apply State.poolFreed_kept | apply State.releaseChans_kept | apply State.setThr_kept | apply State.setReg_kept
    | simp only [↓kept_mk_iff]
    | with_reducible intro _

theorem State.resetThread_kept {kk : Keep} (nmem : kk.mem = none) (s : State) (c n : Nat) (kh : Kept kk s) : Kept kk (State.resetThread s c n) := by
  unfold State.resetThread
  try dsimp only
  repeat' first
    | with_reducible first | assumption | apply State.endThread_kept | apply State.dropTasks_kept | apply State.dropWaiter_kept | apply State.abandonOwner_kept | apply State.free_kept | apply State.onTile_kept | apply State.setReg_kept
    | (with_reducible refine kept_of_snd ?_ (by assumption))
    | with_reducible apply kept_ite
    | simp only [↓kept_mk_iff]
    | with_reducible intro _
    | split

theorem State.resetWithToken_kept {kk : Keep} (nmem : kk.mem = none) (s : State) (c n code : Nat) (kh : Kept kk s) : Kept kk (State.resetWithToken s c n code) := by
  unfold State.resetWithToken
  try dsimp only
  repeat' first
    | with_reducible first | assumption | apply State.resetThread_kept | apply State.pushFault_kept | apply kept_ite | intro _
    | split

theorem State.resumeThread_kept {kk : Keep} (s : State) (c n : Nat) (kh : Kept kk s) : Kept kk (State.resumeThread s c n) := by
  unfold State.resumeThread
  try dsimp only
  repeat' first
    | with_reducible first | assumption | apply State.setThr_kept | apply kept_ite
    | simp only [↓kept_mk_iff]
    | with_reducible intro _
    | split

theorem State.skipThread_kept {kk : Keep} (nmem : kk.mem = none) (s : State) (c n : Nat) (kh : Kept kk s) : Kept kk (State.skipThread s c n) := by
  unfold State.skipThread
  try dsimp only
  repeat' first
    | with_reducible first | assumption | apply State.advancePc_kept | apply State.setThr_kept | apply kept_ite
    | simp only [↓kept_mk_iff]
    | with_reducible intro _
    | split

theorem State.tctlWrite_kept {kk : Keep} (nmem : kk.mem = none) (s : State) (c n : Nat) (v : Word) (kh : Kept kk s) : (State.tctlWrite s c n v).Kept kk := by
  unfold State.tctlWrite
  try dsimp only
  repeat' first
    | with_reducible first | assumption | apply State.skipThread_kept | apply State.resumeThread_kept | apply State.resetThread_kept | apply WRes.kept_ok | exact WRes.kept_refuse
    | simp only [↓kept_mk_iff]
    | with_reducible intro _
    | split

theorem State.applyDelivery_kept {kk : Keep} (s : State) (c n src grp : Nat) (dev : Bool) (kh : Kept kk s) : Kept kk (State.applyDelivery s c n src grp dev) := by
  unfold State.applyDelivery
  try dsimp only
  repeat' first
    | with_reducible first | assumption | apply State.latch_kept | apply State.setThr_kept | apply kept_ite
    | simp only [↓kept_mk_iff]
    | with_reducible intro _
    | split

theorem State.deliverTile_kept {kk : Keep} (s : State) (t : Nat) (kh : Kept kk s) : Kept kk (State.deliverTile s t) := by
  unfold State.deliverTile
  try dsimp only
  repeat' first
    | with_reducible first | assumption | apply State.applyDelivery_kept | apply State.setReg_kept
    | simp only [↓kept_mk_iff]
    | with_reducible intro _
    | split

theorem State.deliverDev_kept {kk : Keep} (s : State) (kh : Kept kk s) : Kept kk (State.deliverDev s) := by
  unfold State.deliverDev
  try dsimp only
  repeat' first
    | with_reducible first | assumption | apply State.post_kept | apply State.setReg_kept
    | simp only [↓kept_mk_iff]
    | with_reducible intro _
    | split

theorem execInterruptDelivery_kept {kk : Keep} (dt : Nat) (t : Option Sys2Proof.TileId) (s : State) (kh : Kept kk s) : OutKept kk (execInterruptDelivery dt t s) := by
  unfold execInterruptDelivery
  try dsimp only
  repeat' first
    | with_reducible first | assumption | apply State.deliverDev_kept | apply State.deliverTile_kept | apply State.advance_kept | apply State.levels_kept | apply outKept_next
    | simp only [↓kept_mk_iff]
    | with_reducible intro _
    | split

theorem State.deliveryArrival_kept {kk : Keep} (s : State) (c n : Nat) (kh : Kept kk s) : Kept kk (State.deliveryArrival s c n) := by
  unfold State.deliveryArrival
  try dsimp only
  repeat' first
    | with_reducible first | assumption | apply State.applyDelivery_kept | apply State.free_kept | apply State.post_kept
    | (with_reducible refine kept_of_snd ?_ (by assumption))
    | with_reducible apply kept_ite
    | simp only [↓kept_mk_iff]
    | with_reducible intro _
    | split

theorem execDeliveryArrival_kept {kk : Keep} (c : Sys2Proof.CoreId) (n : Sys2Proof.ThreadId) (s : State) (kh : Kept kk s) : OutKept kk (execDeliveryArrival c n s) := by
  unfold execDeliveryArrival
  try dsimp only
  repeat' first
    | with_reducible first | assumption | apply State.deliveryArrival_kept | apply State.ctlAwake_kept | apply outKept_next | intro _

theorem State.deliveryReturn_kept {kk : Keep} (s : State) (src : Nat) (kh : Kept kk s) : Kept kk (State.deliveryReturn s src) := by
  unfold State.deliveryReturn
  try dsimp only
  repeat' first
    | with_reducible first | assumption | apply State.inc_kept | apply State.setReg_kept
    | simp only [↓kept_mk_iff]
    | with_reducible intro _
    | split

theorem execDeliveryReturn_kept {kk : Keep} (src : Fin 512) (s : State) (kh : Kept kk s) : OutKept kk (execDeliveryReturn src s) := by
  unfold execDeliveryReturn
  try dsimp only
  repeat' first
    | with_reducible first | assumption | apply State.deliveryReturn_kept | apply outKept_next | intro _

theorem execPreemption_kept {kk : Keep} (dt : Nat) (c : Sys2Proof.CoreId) (n : Sys2Proof.ThreadId) (s : State) (kh : Kept kk s) : OutKept kk (execPreemption dt c n s) := by
  unfold execPreemption
  try dsimp only
  repeat' first
    | with_reducible first | assumption | apply State.advance_kept | apply State.takePreempt_kept | apply outKept_next | apply kept_ite | intro _
    | split

theorem State.sevArrival_kept {kk : Keep} (s : State) (c n : Nat) (kh : Kept kk s) : Kept kk (State.sevArrival s c n) := by
  unfold State.sevArrival
  try dsimp only
  repeat' first
    | with_reducible first | assumption | apply State.latch_kept | apply State.free_kept | apply State.inc_kept
    | (with_reducible refine kept_of_snd ?_ (by assumption))
    | with_reducible apply kept_ite
    | simp only [↓kept_mk_iff]
    | with_reducible intro _
    | split

theorem execSevArrival_kept {kk : Keep} (c : Sys2Proof.CoreId) (n : Sys2Proof.ThreadId) (s : State) (kh : Kept kk s) : OutKept kk (execSevArrival c n s) := by
  unfold execSevArrival
  try dsimp only
  repeat' first
    | with_reducible first | assumption | apply State.sevArrival_kept | apply State.ctlAwake_kept | apply outKept_next | intro _

theorem State.iswset_kept {kk : Keep} (s : State) (t : Nat) (v : Word) (kh : Kept kk s) : Kept kk (State.iswset s t v) := by
  unfold State.iswset
  try dsimp only
  repeat' first
    | with_reducible first | assumption | apply State.setReg_kept | intro _

theorem State.dswset_kept {kk : Keep} (s : State) (k : Nat) (v : Word) (kh : Kept kk s) : Kept kk (State.dswset s k v) := by
  unfold State.dswset
  try dsimp only
  repeat' first
    | with_reducible first | assumption | apply State.setReg_kept | intro _

theorem State.pendClear_kept {kk : Keep} (s : State) (k dl : RegKind) (t i : Nat) (v : Word) (kh : Kept kk s) : Kept kk (State.pendClear s k dl t i v) := by
  unfold State.pendClear
  try dsimp only
  repeat' first
    | with_reducible first | assumption | apply State.levels_kept | apply State.setReg_kept | intro _

theorem State.kwatchWrite_kept {kk : Keep} (s : State) (i : Nat) (v : Word) (kh : Kept kk s) : (State.kwatchWrite s i v).Kept kk := by
  unfold State.kwatchWrite
  try dsimp only
  repeat' first
    | with_reducible first | assumption | apply State.setReg_kept | apply WRes.kept_ok | exact WRes.kept_refuse | apply kept_ite | intro _
    | split

theorem State.dsrcWrite_kept {kk : Keep} (s : State) (i : Nat) (v : Word) (kh : Kept kk s) : (State.dsrcWrite s i v).Kept kk := by
  unfold State.dsrcWrite
  try dsimp only
  repeat' first
    | with_reducible first | assumption | apply State.setReg_kept | apply WRes.kept_ok | exact WRes.kept_refuse | apply kept_ite | intro _
    | split

theorem State.markDisp_kept {kk : Keep} (s : State) (t c : Nat) (kh : Kept kk s) : Kept kk (State.markDisp s t c) := by
  unfold State.markDisp
  try dsimp only
  repeat' first
    | with_reducible first | assumption | apply State.onTile_kept | apply kept_ite
    | simp only [↓kept_mk_iff]
    | with_reducible intro _
    | split

theorem State.stallReport_kept {kk : Keep} (s : State) (c t : Nat) (kh : Kept kk s) : Kept kk (State.stallReport s c t) := by
  unfold State.stallReport
  try dsimp only
  repeat' first
    | with_reducible first | assumption | apply kept_ite
    | simp only [↓kept_mk_iff]
    | with_reducible intro _
    | split

theorem execStallReport_kept {kk : Keep} (c : Sys2Proof.CtxId) (t : Sys2Proof.TileId) (s : State) (kh : Kept kk s) : OutKept kk (execStallReport c t s) := by
  unfold execStallReport
  try dsimp only
  repeat' first
    | with_reducible first | assumption | apply State.stallReport_kept | apply outKept_next | intro _

theorem State.contextStalled_kept {kk : Keep} (s : State) (c : Nat) (kh : Kept kk s) : Kept kk (State.contextStalled s c) := by
  unfold State.contextStalled
  try dsimp only
  repeat' first
    | with_reducible first | assumption | apply kept_ite
    | simp only [↓kept_mk_iff]
    | with_reducible intro _
    | split

theorem execContextStalled_kept {kk : Keep} (c : Sys2Proof.CtxId) (s : State) (kh : Kept kk s) : OutKept kk (execContextStalled c s) := by
  unfold execContextStalled
  try dsimp only
  repeat' first
    | with_reducible first | assumption | apply State.contextStalled_kept | apply outKept_next | intro _

theorem State.scanReport_kept {kk : Keep} (s : State) (vctx len : Nat) (cert : Bool) (kh : Kept kk s) : Kept kk (State.scanReport s vctx len cert) := by
  unfold State.scanReport
  try dsimp only
  repeat' first
    | with_reducible first | assumption | apply State.event_kept | apply State.raiseDev_kept | apply State.setReg_kept | intro _

theorem State.scanEnd_kept {kk : Keep} (s : State) (kh : Kept kk s) : Kept kk (State.scanEnd s) := by
  unfold State.scanEnd
  try dsimp only
  repeat' first
    | with_reducible first | assumption | apply State.inc_kept
    | simp only [↓kept_mk_iff]
    | with_reducible intro _

theorem State.snapshotComplete_kept {kk : Keep} (s : State) (kh : Kept kk s) : Kept kk (State.snapshotComplete s) := by
  unfold State.snapshotComplete
  try dsimp only
  repeat' first
    | with_reducible first | assumption | apply State.scanEnd_kept | apply State.scanReport_kept | apply kept_ite
    | simp only [↓kept_mk_iff]
    | with_reducible intro _
    | split

theorem execSnapshotComplete_kept {kk : Keep} (dt : Nat) (s : State) (kh : Kept kk s) : OutKept kk (execSnapshotComplete dt s) := by
  unfold execSnapshotComplete
  try dsimp only
  repeat' first
    | with_reducible first | assumption | apply State.snapshotComplete_kept | apply State.advance_kept | apply outKept_next | intro _

theorem State.clearIdle_kept {kk : Keep} (s : State) (l : List Nat) (kh : Kept kk s) : Kept kk (State.clearIdle s l) := by
  unfold State.clearIdle
  try dsimp only
  repeat' first
    | with_reducible first | assumption | apply State.onTile_kept
    | (with_reducible apply kept_foldl; intro _ _ _)
    | (with_reducible apply kept_foldl_fst; intro _ _ _)
    | (with_reducible apply kept_foldl_snd; intro _ _ _)
    | with_reducible apply kept_ite
    | simp only [↓kept_mk_iff]
    | with_reducible intro _
    | split

theorem State.victimDrain_kept {kk : Keep} (nmem : kk.mem = none) (s : State) (kh : Kept kk s) : Kept kk (State.victimDrain s) := by
  unfold State.victimDrain
  try dsimp only
  repeat' first
    | with_reducible first | assumption | apply State.clearIdle_kept | apply State.scanEnd_kept | apply State.scanReport_kept | apply State.resetWithToken_kept | apply State.startClose_kept | apply State.free_kept | apply State.inc_kept
    | (with_reducible apply kept_foldl; intro _ _ _)
    | (with_reducible apply kept_foldl_fst; intro _ _ _)
    | (with_reducible apply kept_foldl_snd; intro _ _ _)
    | (with_reducible refine kept_of_snd ?_ (by assumption))
    | with_reducible apply kept_ite
    | simp only [↓kept_mk_iff]
    | with_reducible intro _
    | split

theorem execVictimDrain_kept {kk : Keep} (nmem : kk.mem = none) (dt : Nat) (s : State) (kh : Kept kk s) : OutKept kk (execVictimDrain dt s) := by
  unfold execVictimDrain
  try dsimp only
  repeat' first
    | with_reducible first | assumption | apply State.victimDrain_kept | apply State.advance_kept | apply outKept_next | intro _

theorem State.strandDeadlock_kept {kk : Keep} (s : State) (c : Nat) (kh : Kept kk s) : Kept kk (State.strandDeadlock s c) := by
  unfold State.strandDeadlock
  try dsimp only
  repeat' first
    | with_reducible first | assumption | apply State.raiseTile_kept | apply State.onTile_kept | apply State.inc_kept | apply State.setReg_kept
    | (with_reducible apply kept_foldl; intro _ _ _)
    | (with_reducible apply kept_foldl_fst; intro _ _ _)
    | (with_reducible apply kept_foldl_snd; intro _ _ _)
    | with_reducible apply kept_ite
    | simp only [↓kept_mk_iff]
    | with_reducible intro _
    | split

theorem execStrandDeadlock_kept {kk : Keep} (dt : Nat) (c : Sys2Proof.CoreId) (s : State) (kh : Kept kk s) : OutKept kk (execStrandDeadlock dt c s) := by
  unfold execStrandDeadlock
  try dsimp only
  repeat' first
    | with_reducible first | assumption | apply State.strandDeadlock_kept | apply State.advance_kept | apply outKept_next | intro _

theorem State.deadlockWake_kept {kk : Keep} (s : State) (c n : Nat) (kh : Kept kk s) : Kept kk (State.deadlockWake s c n) := by
  unfold State.deadlockWake
  try dsimp only
  repeat' first
    | with_reducible first | assumption | apply State.dropWaiter_kept | apply State.wake_kept | intro _

theorem State.strandAct_kept {kk : Keep} (nmem : kk.mem = none) (s : State) (c : Nat) (kh : Kept kk s) : Kept kk (State.strandAct s c) := by
  unfold State.strandAct
  try dsimp only
  repeat' first
    | with_reducible first | assumption | apply State.deadlockWake_kept | apply State.resetWithToken_kept | apply State.onTile_kept | apply State.inc_kept
    | (with_reducible apply kept_foldl; intro _ _ _)
    | (with_reducible apply kept_foldl_fst; intro _ _ _)
    | (with_reducible apply kept_foldl_snd; intro _ _ _)
    | with_reducible apply kept_ite
    | simp only [↓kept_mk_iff]
    | with_reducible intro _
    | split

theorem execStrandDeadlockAction_kept {kk : Keep} (nmem : kk.mem = none) (dt : Nat) (c : Sys2Proof.CoreId) (s : State) (kh : Kept kk s) : OutKept kk (execStrandDeadlockAction dt c s) := by
  unfold execStrandDeadlockAction
  try dsimp only
  repeat' first
    | with_reducible first | assumption | apply State.strandAct_kept | apply State.advance_kept | apply outKept_next | intro _

theorem State.countUnc_kept {kk : Keep} (s : State) (a : Nat) (kh : Kept kk s) : Kept kk (State.countUnc s a) := by
  unfold State.countUnc
  try dsimp only
  repeat' first
    | with_reducible first | assumption | apply State.raiseDev_kept | apply State.raiseTile_kept | apply State.inc_kept | apply kept_ite | intro _
    | split

theorem State.countCor_kept {kk : Keep} (s : State) (a : Nat) (kh : Kept kk s) : Kept kk (State.countCor s a) := by
  unfold State.countCor
  try dsimp only
  repeat' first
    | with_reducible first | assumption | apply State.inc_kept | apply kept_ite | intro _
    | split

theorem State.useCor_kept {kk : Keep} (s : State) (a size : Nat) (keep : Bool) (kh : Kept kk s) : Kept kk (State.useCor s a size keep) := by
  unfold State.useCor
  try dsimp only
  repeat' first
    | with_reducible first | assumption | apply State.countCor_kept | apply State.onTile_kept | apply kept_ite
    | simp only [↓kept_mk_iff]
    | with_reducible intro _
    | split

theorem State.noteFault_kept {kk : Keep} (s : State) (own : Option Nat) (a code : Nat) (kh : Kept kk s) : Kept kk (State.noteFault s own a code) := by
  unfold State.noteFault
  try dsimp only
  repeat' first
    | with_reducible first | assumption | apply State.countUnc_kept | apply kept_ite | intro _
    | split

theorem State.toBanks_kept {kk : Keep} (s : State) (m : MemReq) (kh : Kept kk s) : Kept kk (State.toBanks s m) := by
  unfold State.toBanks
  try dsimp only
  repeat' first
    | with_reducible assumption
    | simp only [↓kept_mk_iff]
    | with_reducible intro _

theorem State.startReq_kept {kk : Keep} (nmem : kk.mem = none) (s : State) (m : MemReq) (kh : Kept kk s) : (State.startReq s m).Kept kk := by
  unfold State.startReq
  try dsimp only
  repeat' first
    | with_reducible first | assumption | apply State.toBanks_kept | apply State.inject_kept | apply Route.kept_sent | exact Route.kept_full | exact Route.kept_fenced
    | (with_reducible refine Inj.Kept.sent ?_ (by assumption))
    | (with_reducible refine Inj.Kept.fenced ?_ (by assumption))
    | with_reducible apply kept_ite
    | simp only [↓kept_mk_iff]
    | with_reducible intro _
    | split

theorem State.dropShadow_kept {kk : Keep} (s : State) (c n id : Nat) (kh : Kept kk s) : Kept kk (State.dropShadow s c n id) := by
  unfold State.dropShadow
  try dsimp only
  repeat' first
    | with_reducible first | assumption | apply State.onThr_kept | apply kept_id
    | simp only [↓kept_mk_iff]
    | with_reducible intro _

theorem State.settle_kept {kk : Keep} (nmem : kk.mem = none) (s : State) (c n : Nat) (kh : Kept kk s) : Kept kk (State.settle s c n) := by
  unfold State.settle
  try dsimp only
  repeat' first
    | with_reducible first | assumption | apply State.dropShadow_kept | apply State.pcCheck_kept | apply State.trap_kept | apply State.setThr_kept | apply kept_ite | apply kept_id
    | simp only [↓kept_mk_iff]
    | with_reducible intro _
    | split

theorem State.threadPart_kept {kk : Keep} (s : State) (c n id off data code : Nat) (write : Bool) (kh : Kept kk s) : Kept kk (State.threadPart s c n id off data code write) := by
  unfold State.threadPart
  try dsimp only
  repeat' first
    | with_reducible first | assumption | apply State.onThr_kept | apply kept_ite | apply kept_id
    | simp only [↓kept_mk_iff]
    | with_reducible intro _
    | split

theorem State.loadComplete_kept {kk : Keep} (nmem : kk.mem = none) (s : State) (c n : Nat) (kh : Kept kk s) : Kept kk (State.loadComplete s c n) := by
  unfold State.loadComplete
  try dsimp only
  repeat' first
    | with_reducible first | assumption | apply State.settle_kept | apply State.setThr_kept | apply kept_ite | apply kept_id
    | simp only [↓kept_mk_iff]
    | with_reducible intro _
    | split

theorem execLoadComplete_kept {kk : Keep} (nmem : kk.mem = none) (dt : Nat) (c : Sys2Proof.CoreId) (n : Sys2Proof.ThreadId) (s : State) (kh : Kept kk s) : OutKept kk (execLoadComplete dt c n s) := by
  unfold execLoadComplete
  try dsimp only
  repeat' first
    | with_reducible first | assumption | apply State.loadComplete_kept | apply State.advance_kept | apply outKept_next | intro _

theorem State.firePart_kept {kk : Keep} (s : State) (id off data code : Nat) (kh : Kept kk s) : Kept kk (State.firePart s id off data code) := by
  unfold State.firePart
  try dsimp only
  repeat' first
    | with_reducible first | assumption | apply kept_ite | apply kept_id
    | simp only [↓kept_mk_iff]
    | with_reducible intro _
    | split

theorem State.camFree_kept {kk : Keep} (s : State) (t k : Nat) (kh : Kept kk s) : Kept kk (State.camFree s t k) := by
  unfold State.camFree
  try dsimp only
  repeat' first
    | with_reducible first | assumption | apply State.setReg_kept
    | (with_reducible apply kept_foldl; intro _ _ _)
    | (with_reducible apply kept_foldl_fst; intro _ _ _)
    | (with_reducible apply kept_foldl_snd; intro _ _ _)
    | with_reducible first | apply kept_ite | intro _
    | split

theorem State.camAdd_kept {kk : Keep} (s : State) (t k kind idx limit : Nat) (kh : Kept kk s) : Kept kk (State.camAdd s t k kind idx limit) := by
  unfold State.camAdd
  try dsimp only
  repeat' first
    | with_reducible first | assumption | apply State.inc_kept | apply State.fset_kept | apply State.setReg_kept | apply kept_ite
    | simp only [↓kept_mk_iff]
    | with_reducible intro _
    | split

theorem State.rbAcc_kept {kk : Keep} (s : State) (t k : Nat) (a : Word) (kh : Kept kk s) : Kept kk (State.rbAcc s t k a).2 := by
  unfold State.rbAcc
  try dsimp only
  repeat' first
    | with_reducible first | assumption | apply State.camAdd_kept | apply kept_ite | intro _
    | split

theorem State.rbClose_kept {kk : Keep} (s : State) (t k : Nat) (kh : Kept kk s) : Kept kk (State.rbClose s t k).2 := by
  unfold State.rbClose
  try dsimp only
  repeat' first
    | with_reducible first | assumption | apply State.camFree_kept | apply State.fset_kept | apply kept_ite | intro _
    | split

theorem State.rbDone_kept {kk : Keep} (s : State) (t k : Nat) (a : Word) (kh : Kept kk s) : Kept kk (State.rbDone s t k a).2 := by
  unfold State.rbDone
  try dsimp only
  repeat' first
    | with_reducible first | assumption | apply State.camFree_kept | apply State.fset_kept | apply kept_ite | intro _
    | split

theorem State.facc_kept {kk : Keep} (s : State) (t op : Nat) (a b : Word) (kh : Kept kk s) : Kept kk (State.facc s t op a b).2 := by
  unfold State.facc
  try dsimp only
  repeat' first
    | with_reducible first | assumption | apply State.rbDone_kept | apply State.rbClose_kept | apply State.rbAcc_kept
    | (with_reducible refine kept_of_snd ?_ (by assumption))
    | simp only [↓kept_mk_iff]
    | with_reducible intro _
    | split

theorem State.repairLate_kept {kk : Keep} (nmem : kk.mem = none) (s : State) (k : Nat) (kh : Kept kk s) : Kept kk (State.repairLate s k) := by
  unfold State.repairLate
  try dsimp only
  repeat' first
    | with_reducible first | assumption | apply State.camFree_kept | apply State.sendFault_kept | apply State.fset_kept | apply kept_ite | intro _
    | split

theorem execRepairLate_kept {kk : Keep} (nmem : kk.mem = none) (dt : Nat) (b : Fin 4096) (s : State) (kh : Kept kk s) : OutKept kk (execRepairLate dt b s) := by
  unfold execRepairLate
  try dsimp only
  repeat' first
    | with_reducible first | assumption | apply State.repairLate_kept | apply State.advance_kept | apply outKept_next | intro _

theorem State.rbcfgWrite_kept {kk : Keep} (s : State) (k : Nat) (v : Word) (kh : Kept kk s) : (State.rbcfgWrite s k v).Kept kk := by
  unfold State.rbcfgWrite
  try dsimp only
  repeat' first
    | with_reducible first | assumption | apply State.camFree_kept | apply State.fset_kept | apply State.setReg_kept | apply WRes.kept_ok | exact WRes.kept_refuse | apply kept_ite | intro _
    | split

theorem State.flog_kept {kk : Keep} (nmem : kk.mem = none) (s : State) (t kind : Nat) (a b c : Word) (kh : Kept kk s) : Kept kk (State.flog s t kind a b c).2 := by
  unfold State.flog
  try dsimp only
  repeat' first
    | with_reducible first | assumption | apply State.put_kept | apply State.raiseTile_kept | apply State.inc_kept | apply State.fset_kept | apply kept_ite | intro _
    | split

theorem State.sendVerdict_kept {kk : Keep} (s : State) (l : Nat) (val : Word) (cls0 : Bool) (kh : Kept kk s) : Kept kk (State.sendVerdict s l val cls0) := by
  unfold State.sendVerdict
  try dsimp only
  repeat' first
    | with_reducible first | assumption | apply State.setLink_kept
    | simp only [↓kept_mk_iff]
    | with_reducible intro _

theorem State.setPwrpend_kept {kk : Keep} (s : State) (t b : Nat) (kh : Kept kk s) : Kept kk (State.setPwrpend s t b) := by
  unfold State.setPwrpend
  try dsimp only
  repeat' first
    | with_reducible first | assumption | apply State.setReg_kept | intro _

theorem State.bankStart_kept {kk : Keep} (s : State) (t b frm dest : Nat) (endAt : Option Nat) (kh : Kept kk s) : Kept kk (State.bankStart s t b frm dest endAt) := by
  unfold State.bankStart
  try dsimp only
  repeat' first
    | with_reducible first | assumption | apply State.setPwrpend_kept | apply State.onTile_kept
    | simp only [↓kept_mk_iff]
    | with_reducible intro _

theorem State.setRushstat_kept {kk : Keep} (s : State) (t : Nat) (b : Borrow) (kh : Kept kk s) : Kept kk (State.setRushstat s t b) := by
  unfold State.setRushstat
  try dsimp only
  repeat' first
    | with_reducible first | assumption | apply State.onTile_kept | apply State.fset_kept
    | simp only [↓kept_mk_iff]
    | with_reducible intro _

theorem State.setRdstat_kept {kk : Keep} (s : State) (b : Borrow) (kh : Kept kk s) : Kept kk (State.setRdstat s b) := by
  unfold State.setRdstat
  try dsimp only
  repeat' first
    | with_reducible first | assumption | apply State.fset_kept
    | simp only [↓kept_mk_iff]
    | with_reducible intro _

theorem State.setBorrow_kept {kk : Keep} (s : State) (u : Option Nat) (b : Borrow) (kh : Kept kk s) : Kept kk (State.setBorrow s u b) := by
  unfold State.setBorrow
  try dsimp only
  repeat' first
    | with_reducible first | assumption | apply State.setRdstat_kept | apply State.setRushstat_kept
    | simp only [↓kept_mk_iff]
    | with_reducible intro _
    | split

theorem State.cutBorrow_kept {kk : Keep} (s : State) (u : Option Nat) (kh : Kept kk s) : Kept kk (State.cutBorrow s u) := by
  unfold State.cutBorrow
  try dsimp only
  repeat' first
    | with_reducible first | assumption | apply State.setBorrow_kept | apply kept_ite
    | simp only [↓kept_mk_iff]
    | with_reducible intro _
    | split

theorem State.borrowStart_kept {kk : Keep} (s : State) (u : Option Nat) (kh : Kept kk s) : Kept kk (State.borrowStart s u) := by
  unfold State.borrowStart
  try dsimp only
  repeat' first
    | with_reducible first | assumption | apply State.setBorrow_kept | apply State.fset_kept | apply kept_ite
    | simp only [↓kept_mk_iff]
    | with_reducible intro _
    | split

theorem execBorrowStart_kept {kk : Keep} (dt : Nat) (u : Option Sys2Proof.TileId) (s : State) (kh : Kept kk s) : OutKept kk (execBorrowStart dt u s) := by
  unfold execBorrowStart
  try dsimp only
  repeat' first
    | with_reducible first | assumption | apply State.borrowStart_kept | apply State.advance_kept | apply outKept_next | intro _

theorem State.copyComplete_kept {kk : Keep} (s : State) (u : Option Nat) (kh : Kept kk s) : Kept kk (State.copyComplete s u) := by
  unfold State.copyComplete
  try dsimp only
  repeat' first
    | with_reducible first | assumption | apply State.setBorrow_kept | apply kept_ite
    | simp only [↓kept_mk_iff]
    | with_reducible intro _
    | split

theorem execCopyComplete_kept {kk : Keep} (dt : Nat) (u : Option Sys2Proof.TileId) (s : State) (kh : Kept kk s) : OutKept kk (execCopyComplete dt u s) := by
  unfold execCopyComplete
  try dsimp only
  repeat' first
    | with_reducible first | assumption | apply State.copyComplete_kept | apply State.advance_kept | apply outKept_next | intro _

theorem State.testComplete_kept {kk : Keep} (s : State) (u : Option Nat) (fail : Option (Nat × Nat × Nat)) (kh : Kept kk s) : Kept kk (State.testComplete s u fail) := by
  unfold State.testComplete
  try dsimp only
  repeat' first
    | with_reducible first | assumption | apply State.setBorrow_kept | apply kept_ite
    | simp only [↓kept_mk_iff]
    | with_reducible intro _
    | split

theorem execTestComplete_kept {kk : Keep} (dt : Nat) (u : Option Sys2Proof.TileId) (fail : Option (Nat × Nat × Nat)) (s : State) (kh : Kept kk s) : OutKept kk (execTestComplete dt u fail s) := by
  unfold execTestComplete
  try dsimp only
  repeat' first
    | with_reducible first | assumption | apply State.testComplete_kept | apply State.advance_kept | apply outKept_next | intro _

theorem State.tileOutcome_kept {kk : Keep} (s : State) (t : Nat) (b : Borrow) (kh : Kept kk s) : Kept kk (State.tileOutcome s t b) := by
  unfold State.tileOutcome
  try dsimp only
  repeat' first
    | with_reducible first | assumption | apply State.inc_kept | apply State.setReg_kept | apply kept_ite
    | simp only [↓kept_mk_iff]
    | with_reducible intro _
    | split

theorem State.dramOutcome_kept {kk : Keep} (s : State) (b : Borrow) (kh : Kept kk s) : Kept kk (State.dramOutcome s b) := by
  unfold State.dramOutcome
  try dsimp only
  repeat' first
    | with_reducible first | assumption | apply State.raiseDev_kept | apply State.inc_kept | apply State.setReg_kept | apply kept_ite
    | simp only [↓kept_mk_iff]
    | with_reducible intro _
    | split

theorem State.startDelayed_kept {kk : Keep} (s : State) (t : Nat) (kh : Kept kk s) : Kept kk (State.startDelayed s t) := by
  unfold State.startDelayed
  try dsimp only
  repeat' first
    | with_reducible first | assumption | apply State.bankStart_kept | apply State.setReg_kept
    | (with_reducible apply kept_foldl; intro _ _ _)
    | (with_reducible apply kept_foldl_fst; intro _ _ _)
    | (with_reducible apply kept_foldl_snd; intro _ _ _)
    | with_reducible first | apply kept_ite | intro _
    | split

theorem State.borrowEnd_kept {kk : Keep} (s : State) (u : Option Nat) (kh : Kept kk s) : Kept kk (State.borrowEnd s u) := by
  unfold State.borrowEnd
  try dsimp only
  repeat' first
    | with_reducible first | assumption | apply State.startDelayed_kept | apply State.dramOutcome_kept | apply State.tileOutcome_kept | apply State.setRdstat_kept | apply State.setRushstat_kept | apply State.startFence_kept | apply State.onTile_kept | apply kept_ite
    | simp only [↓kept_mk_iff]
    | with_reducible intro _
    | split

theorem execBorrowEnd_kept {kk : Keep} (dt : Nat) (u : Option Sys2Proof.TileId) (s : State) (kh : Kept kk s) : OutKept kk (execBorrowEnd dt u s) := by
  unfold execBorrowEnd
  try dsimp only
  repeat' first
    | with_reducible first | assumption | apply State.borrowEnd_kept | apply State.advance_kept | apply outKept_next | intro _

theorem State.rushcfgWrite_kept {kk : Keep} (s : State) (t : Nat) (v : Word) (kh : Kept kk s) : (State.rushcfgWrite s t v).Kept kk := by
  unfold State.rushcfgWrite
  try dsimp only
  repeat' first
    | with_reducible first | assumption | apply State.cutBorrow_kept | apply State.setReg_kept | apply WRes.kept_ok | apply kept_ite | intro _
    | split

theorem State.rdcfgWrite_kept {kk : Keep} (s : State) (v : Word) (kh : Kept kk s) : (State.rdcfgWrite s v).Kept kk := by
  unfold State.rdcfgWrite
  try dsimp only
  repeat' first
    | with_reducible first | assumption | apply State.cutBorrow_kept | apply State.setReg_kept | apply WRes.kept_ok | exact WRes.kept_refuse | apply kept_ite | intro _
    | split

theorem State.bankField_kept {kk : Keep} (s : State) (t b frm dest : Nat) (kh : Kept kk s) : Kept kk (State.bankField s t b frm dest) := by
  unfold State.bankField
  try dsimp only
  repeat' first
    | with_reducible first | assumption | apply State.cutBorrow_kept | apply State.bankStart_kept | apply State.setReg_kept | apply OptKept.getD | apply kept_ite
    | simp only [↓kept_mk_iff]
    | with_reducible intro _
    | split

theorem State.bankpwrWrite_kept {kk : Keep} (s : State) (t : Nat) (v : Word) (kh : Kept kk s) : (State.bankpwrWrite s t v).Kept kk := by
  unfold State.bankpwrWrite
  try dsimp only
  repeat' first
    | with_reducible first | assumption | apply State.bankField_kept | apply WRes.kept_ok | exact WRes.kept_refuse
    | (with_reducible apply kept_foldl; intro _ _ _)
    | (with_reducible apply kept_foldl_fst; intro _ _ _)
    | (with_reducible apply kept_foldl_snd; intro _ _ _)
    | with_reducible first | apply kept_ite | intro _
    | split

theorem State.scramble_kept {kk : Keep} (nmem : kk.mem = none) (s : State) (w : Nat) (kh : Kept kk s) : Kept kk (State.scramble s w) := by
  unfold State.scramble
  try dsimp only
  repeat' first
    | with_reducible first | assumption | apply State.clearEcc_kept | apply State.store_kept | apply State.free_kept
    | (with_reducible refine kept_of_snd ?_ (by assumption))
    | with_reducible apply kept_ite
    | simp only [↓kept_mk_iff]
    | with_reducible intro _
    | split

theorem State.scrambleBank_kept {kk : Keep} (nmem : kk.mem = none) (s : State) (t b : Nat) (kh : Kept kk s) : Kept kk (State.scrambleBank s t b) := by
  unfold State.scrambleBank
  try dsimp only
  repeat' first
    | with_reducible first | assumption | apply State.scramble_kept
    | (with_reducible apply kept_foldl; intro _ _ _)
    | (with_reducible apply kept_foldl_fst; intro _ _ _)
    | (with_reducible apply kept_foldl_snd; intro _ _ _)
    | with_reducible intro _

theorem State.bankDone_kept {kk : Keep} (nmem : kk.mem = none) (s : State) (t b : Nat) (kh : Kept kk s) : Kept kk (State.bankDone s t b) := by
  unfold State.bankDone
  try dsimp only
  repeat' first
    | with_reducible first | assumption | apply State.scrambleBank_kept | apply State.setPwrpend_kept | apply State.wake_kept | apply State.onTile_kept | apply State.inc_kept | apply State.setReg_kept | apply kept_ite
    | simp only [↓kept_mk_iff]
    | with_reducible intro _
    | split

theorem execBankTransitionComplete_kept {kk : Keep} (nmem : kk.mem = none) (dt : Nat) (t : Sys2Proof.TileId) (b : Fin 32) (s : State) (kh : Kept kk s) : OutKept kk (execBankTransitionComplete dt t b s) := by
  unfold execBankTransitionComplete
  try dsimp only
  repeat' first
    | with_reducible first | assumption | apply State.bankDone_kept | apply State.advance_kept | apply outKept_next | intro _

theorem State.mapoutStart_kept {kk : Keep} (s : State) (ch : Nat) (kh : Kept kk s) : Kept kk (State.mapoutStart s ch) := by
  unfold State.mapoutStart
  try dsimp only
  repeat' first
    | with_reducible first | assumption | apply State.cutBorrow_kept | apply State.fset_kept
    | simp only [↓kept_mk_iff]
    | with_reducible intro _

theorem State.mocmdWrite_kept {kk : Keep} (s : State) (v : Word) (kh : Kept kk s) : (State.mocmdWrite s v).Kept kk := by
  unfold State.mocmdWrite
  try dsimp only
  repeat' first
    | with_reducible first | assumption | apply State.mapoutStart_kept | apply WRes.kept_ok | exact WRes.kept_refuse | apply kept_ite | intro _
    | split

theorem State.unclimReached_kept {kk : Keep} (s : State) (ch : Nat) (kh : Kept kk s) : Kept kk (State.unclimReached s ch) := by
  unfold State.unclimReached
  try dsimp only
  repeat' first
    | with_reducible first | assumption | apply State.mapoutStart_kept | apply State.setReason_kept | apply kept_ite | intro _
    | split

theorem execUnclimReached_kept {kk : Keep} (ch : Fin 32) (s : State) (kh : Kept kk s) : OutKept kk (execUnclimReached ch s) := by
  unfold execUnclimReached
  try dsimp only
  repeat' first
    | with_reducible first | assumption | apply State.unclimReached_kept | apply outKept_next | intro _

theorem State.resetLanes_kept {kk : Keep} (nmem : kk.mem = none) (s : State) (t : Nat) (kh : Kept kk s) : Kept kk (State.resetLanes s t) := by
  unfold State.resetLanes
  try dsimp only
  repeat' first
    | with_reducible first | assumption | apply State.laneSourceReset_kept | apply State.laneWindowReset_kept
    | (with_reducible apply kept_foldl; intro _ _ _)
    | (with_reducible apply kept_foldl_fst; intro _ _ _)
    | (with_reducible apply kept_foldl_snd; intro _ _ _)
    | with_reducible first | apply kept_ite | intro _
    | split

theorem State.tileReset_kept {kk : Keep} (nmem : kk.mem = none) (s : State) (t : Nat) (kh : Kept kk s) : Kept kk (State.tileReset s t) := by
  unfold State.tileReset
  try dsimp only
  repeat' first
    | with_reducible first | assumption | apply State.resetLanes_kept | apply State.resetThread_kept | apply State.setTile_kept
    | (with_reducible apply kept_foldl; intro _ _ _)
    | (with_reducible apply kept_foldl_fst; intro _ _ _)
    | (with_reducible apply kept_foldl_snd; intro _ _ _)
    | simp only [↓kept_mk_iff]
    | with_reducible intro _

theorem State.scrambleGraph_kept {kk : Keep} (ngraph : kk.graph = none) (s : State) (t : Nat) (kh : Kept kk s) : Kept kk (State.scrambleGraph s t) := by
  unfold State.scrambleGraph
  try dsimp only
  repeat' first
    | with_reducible first | assumption | apply State.free_kept
    | (with_reducible apply kept_foldl; intro _ _ _)
    | (with_reducible apply kept_foldl_fst; intro _ _ _)
    | (with_reducible apply kept_foldl_snd; intro _ _ _)
    | (with_reducible refine kept_of_snd ?_ (by assumption))
    | simp only [↓kept_mk_iff]
    | simp only [↓kept_graph_iff ngraph]
    | with_reducible intro _
    | split

theorem State.startOff_kept {kk : Keep} (s : State) (t : Nat) (kh : Kept kk s) : Kept kk (State.startOff s t) := by
  unfold State.startOff
  try dsimp only
  repeat' first
    | with_reducible first | assumption | apply State.cutBorrow_kept | apply State.setPower_kept | apply State.startFence_kept | apply kept_ite | intro _
    | split

theorem State.reqOn_kept {kk : Keep} (s : State) (t : Nat) (kh : Kept kk s) : Kept kk (State.reqOn s t) := by
  unfold State.reqOn
  try dsimp only
  repeat' first
    | with_reducible first | assumption | apply State.askWake_kept | apply State.setPower_kept | apply kept_ite
    | simp only [↓kept_mk_iff]
    | with_reducible intro _
    | split

theorem State.reqNap_kept {kk : Keep} (s : State) (t : Nat) (kh : Kept kk s) : Kept kk (State.reqNap s t) := by
  unfold State.reqNap
  try dsimp only
  repeat' first
    | with_reducible first | assumption | apply State.setPower_kept | apply kept_ite | intro _
    | split

theorem State.reqOff_kept {kk : Keep} (s : State) (t : Nat) (kh : Kept kk s) : Kept kk (State.reqOff s t) := by
  unfold State.reqOff
  try dsimp only
  repeat' first
    | with_reducible first | assumption | apply State.startOff_kept | apply State.setPower_kept | apply kept_ite
    | simp only [↓kept_mk_iff]
    | with_reducible intro _
    | split

theorem State.tpwrWrite_kept {kk : Keep} (s : State) (t : Nat) (v : Word) (kh : Kept kk s) : (State.tpwrWrite s t v).Kept kk := by
  unfold State.tpwrWrite
  try dsimp only
  repeat' first
    | with_reducible first | assumption | apply State.reqOff_kept | apply State.reqNap_kept | apply State.reqOn_kept | apply State.fset_kept | apply WRes.kept_ok | exact WRes.kept_refuse | apply kept_ite
    | simp only [↓kept_mk_iff]
    | with_reducible intro _
    | split

theorem State.idleEntry_kept {kk : Keep} (s : State) (t : Nat) (kh : Kept kk s) : Kept kk (State.idleEntry s t) := by
  unfold State.idleEntry
  try dsimp only
  repeat' first
    | with_reducible first | assumption | apply State.setPower_kept | apply State.fset_kept | apply kept_ite
    | simp only [↓kept_mk_iff]
    | with_reducible intro _
    | split

theorem execIdleEntry_kept {kk : Keep} (dt : Nat) (t : Sys2Proof.TileId) (s : State) (kh : Kept kk s) : OutKept kk (execIdleEntry dt t s) := by
  unfold execIdleEntry
  try dsimp only
  repeat' first
    | with_reducible first | assumption | apply State.idleEntry_kept | apply State.advance_kept | apply outKept_next | intro _

theorem State.napEntry_kept {kk : Keep} (s : State) (t : Nat) (kh : Kept kk s) : Kept kk (State.napEntry s t) := by
  unfold State.napEntry
  try dsimp only
  repeat' first
    | with_reducible first | assumption | apply State.setPower_kept | apply State.fset_kept | apply kept_ite
    | simp only [↓kept_mk_iff]
    | with_reducible intro _
    | split

theorem execNapEntry_kept {kk : Keep} (dt : Nat) (t : Sys2Proof.TileId) (s : State) (kh : Kept kk s) : OutKept kk (execNapEntry dt t s) := by
  unfold execNapEntry
  try dsimp only
  repeat' first
    | with_reducible first | assumption | apply State.napEntry_kept | apply State.advance_kept | apply outKept_next | intro _

theorem State.offEntry_kept {kk : Keep} (s : State) (t : Nat) (kh : Kept kk s) : Kept kk (State.offEntry s t) := by
  unfold State.offEntry
  try dsimp only
  repeat' first
    | with_reducible first | assumption | apply State.askWake_kept | apply State.setPower_kept | apply State.onTile_kept | apply State.fset_kept | apply kept_ite
    | simp only [↓kept_mk_iff]
    | with_reducible intro _
    | split

theorem execOffEntry_kept {kk : Keep} (dt : Nat) (t : Sys2Proof.TileId) (s : State) (kh : Kept kk s) : OutKept kk (execOffEntry dt t s) := by
  unfold execOffEntry
  try dsimp only
  repeat' first
    | with_reducible first | assumption | apply State.offEntry_kept | apply State.advance_kept | apply outKept_next | intro _

theorem State.wakeComplete_kept {kk : Keep} (nmem : kk.mem = none) (ngraph : kk.graph = none) (s : State) (t : Nat) (kh : Kept kk s) : Kept kk (State.wakeComplete s t) := by
  unfold State.wakeComplete
  try dsimp only
  repeat' first
    | with_reducible first | assumption | apply State.startOff_kept | apply State.scrambleGraph_kept | apply State.tileReset_kept | apply State.scrambleBank_kept | apply State.setPower_kept | apply State.startUnfence_kept | apply State.onTile_kept | apply State.fset_kept
    | (with_reducible apply kept_foldl; intro _ _ _)
    | (with_reducible apply kept_foldl_fst; intro _ _ _)
    | (with_reducible apply kept_foldl_snd; intro _ _ _)
    | with_reducible apply kept_ite
    | simp only [↓kept_mk_iff]
    | with_reducible intro _
    | split

theorem execWakeComplete_kept {kk : Keep} (nmem : kk.mem = none) (ngraph : kk.graph = none) (dt : Nat) (t : Sys2Proof.TileId) (s : State) (kh : Kept kk s) : OutKept kk (execWakeComplete dt t s) := by
  unfold execWakeComplete
  try dsimp only
  repeat' first
    | with_reducible first | assumption | apply State.wakeComplete_kept | apply State.advance_kept | apply outKept_next | intro _

theorem State.napTimerWake_kept {kk : Keep} (s : State) (t : Nat) (kh : Kept kk s) : Kept kk (State.napTimerWake s t) := by
  unfold State.napTimerWake
  try dsimp only
  repeat' first
    | with_reducible first | assumption | apply State.askWake_kept | apply kept_ite | intro _
    | split

theorem execNapTimerWake_kept {kk : Keep} (dt : Nat) (t : Sys2Proof.TileId) (s : State) (kh : Kept kk s) : OutKept kk (execNapTimerWake dt t s) := by
  unfold execNapTimerWake
  try dsimp only
  repeat' first
    | with_reducible first | assumption | apply State.napTimerWake_kept | apply State.advance_kept | apply outKept_next | intro _

theorem State.watchedWake_kept {kk : Keep} (s : State) (i : Nat) (kh : Kept kk s) : Kept kk (State.watchedWake s i) := by
  unfold State.watchedWake
  try dsimp only
  repeat' first
    | with_reducible first | assumption | apply State.askWake_kept | apply kept_ite | intro _
    | split

theorem execWatchedWake_kept {kk : Keep} (dt : Nat) (i : Fin 32) (s : State) (kh : Kept kk s) : OutKept kk (execWatchedWake dt i s) := by
  unfold execWatchedWake
  try dsimp only
  repeat' first
    | with_reducible first | assumption | apply State.watchedWake_kept | apply State.advance_kept | apply outKept_next | intro _

theorem State.toGateway_kept {kk : Keep} (s : State) (g : Nat) (k : FabTok) (kh : Kept kk s) : Kept kk (State.toGateway s g k) := by
  unfold State.toGateway
  try dsimp only
  repeat' first
    | with_reducible assumption
    | simp only [↓kept_mk_iff]
    | with_reducible intro _

theorem State.oweCredit_kept {kk : Keep} (s : State) (via : Option (Nat × Nat)) (kh : Kept kk s) : Kept kk (State.oweCredit s via) := by
  unfold State.oweCredit
  try dsimp only
  repeat' first
    | with_reducible first | assumption | apply State.setLink_kept | apply kept_ite
    | simp only [↓kept_mk_iff]
    | with_reducible intro _
    | split

theorem State.fabReturn_kept {kk : Keep} (nmem : kk.mem = none) (s : State) (g reason : Nat) (k : FabTok) (kh : Kept kk s) : Kept kk (State.fabReturn s g reason k) := by
  unfold State.fabReturn
  try dsimp only
  repeat' first
    | with_reducible first | assumption | apply State.oweCredit_kept | apply State.toGateway_kept | apply State.sendFault_kept | apply State.inc_kept | apply kept_ite
    | simp only [↓kept_mk_iff]
    | with_reducible intro _
    | split

theorem State.unisolate_kept {kk : Keep} (s : State) (r : Nat) (edge : Bool) (kh : Kept kk s) : Kept kk (State.unisolate s r edge) := by
  unfold State.unisolate
  try dsimp only
  repeat' first
    | with_reducible first | assumption | apply State.fset_kept | apply kept_ite
    | simp only [↓kept_mk_iff]
    | with_reducible intro _
    | split

theorem State.rtctlWrite_kept {kk : Keep} (s : State) (r : Nat) (v : Word) (kh : Kept kk s) : (State.rtctlWrite s r v).Kept kk := by
  unfold State.rtctlWrite
  try dsimp only
  repeat' first
    | with_reducible first | assumption | apply State.unisolate_kept | apply State.fset_kept | apply WRes.kept_ok | apply kept_ite | intro _
    | split

end Sys2Proof.Machine
end

