-- ==== Sys2Proof/Laws/KeptLinks.lean ====
section
/-! SUPPORT. What the model keeps (Kept.lean): catch and fabric links and release. One lemma for each operation: memory, graph memory and the device state are kept unless the lemma asks that they need not be. -/
namespace Sys2Proof.Machine

theorem State.numberTok_kept {kk : Keep} (s : State) (l : Nat) (k : SiteTok) (kh : Kept kk s) : Kept kk (State.numberTok s l k).1 := by
  unfold State.numberTok
  try dsimp only
  repeat' first
    | with_reducible first | assumption | apply State.laneTake_kept
    | (with_reducible refine kept_of_snd ?_ (by assumption))
    | with_reducible apply kept_ite
    | simp only [↓kept_mk_iff]
    | with_reducible intro _
    | split

theorem State.gwPut_kept {kk : Keep} (s : State) (l : Nat) (k : Token) (kh : Kept kk s) : Kept kk (State.gwPut s l k) := by
  unfold State.gwPut
  try dsimp only
  repeat' first
    | with_reducible first | assumption | apply kept_ite
    | simp only [↓kept_mk_iff]
    | with_reducible intro _
    | split

theorem State.issuePlan_kept {kk : Keep} (s : State) (l : Nat) (e : SiteCfg) (p : Plan) (kh : Kept kk s) : Kept kk (State.issuePlan s l e p) := by
  unfold State.issuePlan
  try dsimp only
  repeat' first
    | with_reducible first | assumption | apply State.gwPut_kept | apply State.numberTok_kept | apply State.fset_kept
    | (with_reducible apply kept_foldl; intro _ _ _)
    | (with_reducible apply kept_foldl_fst; intro _ _ _)
    | (with_reducible apply kept_foldl_snd; intro _ _ _)
    | (with_reducible refine kept_of_fst ?_ (by assumption))
    | with_reducible intro _
    | split

theorem State.linkFault_kept {kk : Keep} (nmem : kk.mem = none) (s : State) (l : Nat) (tag : Word) (k : Option Token) (code : Nat) (kh : Kept kk s) : Kept kk (State.linkFault s l tag k code) := by
  unfold State.linkFault
  try dsimp only
  repeat' first
    | with_reducible first | assumption | apply State.sendFault_kept | intro _

theorem State.popRx_kept {kk : Keep} (s : State) (l : Nat) (kh : Kept kk s) : Kept kk (State.popRx s l) := by
  unfold State.popRx
  try dsimp only
  repeat' first
    | with_reducible first | assumption | apply State.setLink_kept | apply State.fset_kept | apply kept_ite
    | simp only [↓kept_mk_iff]
    | with_reducible intro _
    | split

theorem State.issuePre_kept {kk : Keep} (s : State) (l : Nat) (kh : Kept kk s) : OptKept kk (State.issuePre s l) := by
  unfold State.issuePre
  try dsimp only
  repeat' first
    | with_reducible first | assumption | apply State.issuePlan_kept | apply State.setLink_kept | exact optKept_none | apply optKept_some | apply optKept_ite | apply kept_ite
    | simp only [↓kept_mk_iff]
    | with_reducible intro _
    | split

theorem State.classifyOne_kept {kk : Keep} (nmem : kk.mem = none) (s : State) (l : Nat) (kh : Kept kk s) : OptKept kk (State.classifyOne s l) := by
  unfold State.classifyOne
  try dsimp only
  repeat' first
    | with_reducible first | assumption | apply State.popRx_kept | apply State.linkFault_kept | apply State.issuePlan_kept | apply State.inc_kept | exact optKept_none | apply optKept_some | apply optKept_ite | apply kept_ite
    | simp only [↓kept_mk_iff]
    | with_reducible intro _
    | split

theorem State.classify_kept {kk : Keep} (nmem : kk.mem = none) (s : State) (l : Nat) (z0 : Nat) (kh : Kept kk s) : Kept kk (State.classify s l z0) := by
  induction z0 generalizing s l with
  | zero =>
    unfold State.classify
    try dsimp only
    repeat' first
      | with_reducible first | assumption | apply State.classifyOne_kept | apply State.issuePre_kept
      | (with_reducible refine OptKept.get ?_ (by assumption))
      | with_reducible apply kept_ite
      | simp only [↓kept_mk_iff]
      | with_reducible intro _
      | split
  | succ n ih =>
    unfold State.classify
    try dsimp only
    repeat' first
      | with_reducible first | assumption | apply ih | apply State.classifyOne_kept | apply State.issuePre_kept
      | (with_reducible refine OptKept.get ?_ (by assumption))
      | with_reducible apply kept_ite
      | simp only [↓kept_mk_iff]
      | with_reducible intro _
      | split

theorem State.gwInject_kept {kk : Keep} (s : State) (g : Nat) (z0 : Nat) (kh : Kept kk s) : Kept kk (State.gwInject s g z0) := by
  induction z0 generalizing s g with
  | zero =>
    unfold State.gwInject
    try dsimp only
    repeat' first
      | with_reducible first | assumption | apply State.inject_kept
      | (with_reducible refine Inj.Kept.sent ?_ (by assumption))
      | (with_reducible refine Inj.Kept.fenced ?_ (by assumption))
      | simp only [↓kept_mk_iff]
      | with_reducible intro _
      | split
  | succ n ih =>
    unfold State.gwInject
    try dsimp only
    repeat' first
      | with_reducible first | assumption | apply ih | apply State.inject_kept
      | (with_reducible refine Inj.Kept.sent ?_ (by assumption))
      | (with_reducible refine Inj.Kept.fenced ?_ (by assumption))
      | simp only [↓kept_mk_iff]
      | with_reducible intro _
      | split

theorem State.serveLink_kept {kk : Keep} (nmem : kk.mem = none) (s : State) (l : Nat) (kh : Kept kk s) : Kept kk (State.serveLink s l) := by
  unfold State.serveLink
  try dsimp only
  repeat' first
    | with_reducible first | assumption | apply State.gwInject_kept | apply State.classify_kept | intro _

theorem execCreditArrival_kept {kk : Keep} (nmem : kk.mem = none) (l : Sys2Proof.LaneId) (s : State) (kh : Kept kk s) : OutKept kk (execCreditArrival l s) := by
  unfold execCreditArrival
  try dsimp only
  repeat' first
    | with_reducible first | assumption | apply State.serveLink_kept | apply State.creditArrival_kept | apply State.ctlAwake_kept | apply outKept_next | apply kept_ite | intro _
    | split

theorem State.strokeCnt_kept {kk : Keep} (nmem : kk.mem = none) (s : State) (kh : Kept kk s) : Kept kk (State.strokeCnt s) := by
  unfold State.strokeCnt
  try dsimp only
  repeat' first
    | with_reducible first | assumption | apply State.serveLink_kept | apply State.setLink_kept
    | (with_reducible apply kept_foldl; intro _ _ _)
    | (with_reducible apply kept_foldl_fst; intro _ _ _)
    | (with_reducible apply kept_foldl_snd; intro _ _ _)
    | simp only [↓kept_mk_iff]
    | with_reducible intro _

theorem State.siteWrite_kept {kk : Keep} (s : State) (kind : RegKind) (i : Nat) (v : Word) (kh : Kept kk s) : (State.siteWrite s kind i v).Kept kk := by
  unfold State.siteWrite
  try dsimp only
  repeat' first
    | with_reducible first | assumption | apply State.setReg_kept | apply WRes.kept_ok | exact WRes.kept_refuse | apply kept_ite
    | simp only [↓kept_mk_iff]
    | with_reducible intro _
    | split

theorem State.setRxSeq_kept {kk : Keep} (s : State) (k : LinkId) (n : Nat) (kh : Kept kk s) : Kept kk (State.setRxSeq s k n) := by
  unfold State.setRxSeq
  try dsimp only
  repeat' first
    | with_reducible first | assumption | apply State.fset_kept | intro _

theorem State.setTxSeq_kept {kk : Keep} (s : State) (k : LinkId) (n : Nat) (kh : Kept kk s) : Kept kk (State.setTxSeq s k n) := by
  unfold State.setTxSeq
  try dsimp only
  repeat' first
    | with_reducible first | assumption | apply State.fset_kept | intro _

theorem State.onLink_kept {kk : Keep} (s : State) (k : LinkId) (g : Link → Link) (kh : Kept kk s) : Kept kk (State.onLink s k g) := by
  unfold State.onLink
  try dsimp only
  repeat' first
    | with_reducible first | assumption | apply State.setLink_kept | intro _

theorem State.routeChange_kept {kk : Keep} (s : State) (k : LinkId) (up : Bool) (kh : Kept kk s) : Kept kk (State.routeChange s k up) := by
  unfold State.routeChange
  try dsimp only
  repeat' first
    | with_reducible first | assumption | apply State.event_kept | apply State.raiseDev_kept | apply kept_ite | intro _
    | split

theorem State.setLinkSt_kept {kk : Keep} (s : State) (k : LinkId) (st : Nat) (kh : Kept kk s) : Kept kk (State.setLinkSt s k st) := by
  unfold State.setLinkSt
  try dsimp only
  repeat' first
    | with_reducible first | assumption | apply State.routeChange_kept | apply State.fset_kept | apply kept_ite | intro _
    | split

theorem State.emptyLink_kept {kk : Keep} (s : State) (k : LinkId) (kh : Kept kk s) : Kept kk (State.emptyLink s k) := by
  unfold State.emptyLink
  try dsimp only
  repeat' first
    | with_reducible first | assumption | apply State.onLink_kept | apply State.fset_kept | apply kept_ite
    | simp only [↓kept_mk_iff]
    | with_reducible intro _
    | split

theorem State.linkTo_kept {kk : Keep} (s : State) (k : LinkId) (st : Nat) (kh : Kept kk s) : Kept kk (State.linkTo s k st) := by
  unfold State.linkTo
  try dsimp only
  repeat' first
    | with_reducible first | assumption | apply State.emptyLink_kept | apply State.setLinkSt_kept | intro _

theorem State.linkLoss_kept {kk : Keep} (s : State) (k : LinkId) (kh : Kept kk s) : Kept kk (State.linkLoss s k) := by
  unfold State.linkLoss
  try dsimp only
  repeat' first
    | with_reducible first | assumption | apply State.linkTo_kept | apply State.event_kept | apply State.raiseDev_kept | apply State.inc_kept | apply State.fset_kept | intro _

theorem State.trained_kept {kk : Keep} (s : State) (k : LinkId) (kh : Kept kk s) : Kept kk (State.trained s k) := by
  unfold State.trained
  try dsimp only
  repeat' first
    | with_reducible first | assumption | apply State.setLinkSt_kept | apply State.onLink_kept | apply kept_ite
    | simp only [↓kept_mk_iff]
    | with_reducible intro _
    | split

theorem execTrainingComplete_kept {kk : Keep} (dt : Nat) (k : LinkId) (s : State) (kh : Kept kk s) : OutKept kk (execTrainingComplete dt k s) := by
  unfold execTrainingComplete
  try dsimp only
  repeat' first
    | with_reducible first | assumption | apply State.trained_kept | apply State.advance_kept | apply outKept_next | intro _

theorem State.postCtl_kept {kk : Keep} (s : State) (k : LinkId) (rank : Nat) (b : List Byte) (t10 : Nat) (kh : Kept kk s) : Kept kk (State.postCtl s k rank b t10) := by
  unfold State.postCtl
  try dsimp only
  repeat' first
    | with_reducible first | assumption | apply State.onLink_kept
    | simp only [↓kept_mk_iff]
    | with_reducible intro _

theorem State.postIdent_kept {kk : Keep} (s : State) (l : Fin 16) (kh : Kept kk s) : Kept kk (State.postIdent s l) := by
  unfold State.postIdent
  try dsimp only
  repeat' first
    | with_reducible first | assumption | apply State.postCtl_kept | apply State.onLink_kept
    | simp only [↓kept_mk_iff]
    | with_reducible intro _

theorem State.postDreq_kept {kk : Keep} (s : State) (l : Fin 16) (kh : Kept kk s) : Kept kk (State.postDreq s l) := by
  unfold State.postDreq
  try dsimp only
  repeat' first
    | with_reducible first | assumption | apply State.postCtl_kept | apply State.onLink_kept | apply kept_id
    | simp only [↓kept_mk_iff]
    | with_reducible intro _

theorem State.enterUp_kept {kk : Keep} (s : State) (k : LinkId) (kh : Kept kk s) : Kept kk (State.enterUp s k) := by
  unfold State.enterUp
  try dsimp only
  repeat' first
    | with_reducible first | assumption | apply State.postDreq_kept | apply State.postIdent_kept | apply State.postCtl_kept | apply State.setLinkSt_kept | apply State.onLink_kept | apply State.setTxSeq_kept | apply State.setRxSeq_kept | apply State.fset_kept | apply State.setReg_kept | apply kept_ite
    | simp only [↓kept_mk_iff]
    | with_reducible intro _
    | split

theorem State.linkUp_kept {kk : Keep} (s : State) (k : LinkId) (kh : Kept kk s) : Kept kk (State.linkUp s k) := by
  unfold State.linkUp
  try dsimp only
  repeat' first
    | with_reducible first | assumption | apply State.enterUp_kept | apply kept_ite | intro _
    | split

theorem execLinkUp_kept {kk : Keep} (dt : Nat) (k : LinkId) (s : State) (kh : Kept kk s) : OutKept kk (execLinkUp dt k s) := by
  unfold execLinkUp
  try dsimp only
  repeat' first
    | with_reducible first | assumption | apply State.linkUp_kept | apply State.advance_kept | apply outKept_next | intro _

theorem execLockLoss_kept {kk : Keep} (dt : Nat) (k : LinkId) (s : State) (kh : Kept kk s) : OutKept kk (execLockLoss dt k s) := by
  unfold execLockLoss
  try dsimp only
  repeat' first
    | with_reducible first | assumption | apply State.linkLoss_kept | apply State.advance_kept | apply outKept_next | apply kept_ite | intro _
    | split

theorem State.liveTimeout_kept {kk : Keep} (s : State) (k : LinkId) (kh : Kept kk s) : Kept kk (State.liveTimeout s k) := by
  unfold State.liveTimeout
  try dsimp only
  repeat' first
    | with_reducible first | assumption | apply State.linkLoss_kept | apply kept_ite | intro _
    | split

theorem execLiveTimeout_kept {kk : Keep} (dt : Nat) (k : LinkId) (s : State) (kh : Kept kk s) : OutKept kk (execLiveTimeout dt k s) := by
  unfold execLiveTimeout
  try dsimp only
  repeat' first
    | with_reducible first | assumption | apply State.liveTimeout_kept | apply State.advance_kept | apply outKept_next | intro _

theorem State.liveDueNow_kept {kk : Keep} (s : State) (k : LinkId) (kh : Kept kk s) : Kept kk (State.liveDueNow s k) := by
  unfold State.liveDueNow
  try dsimp only
  repeat' first
    | with_reducible first | assumption | apply State.onLink_kept | apply kept_ite
    | simp only [↓kept_mk_iff]
    | with_reducible intro _
    | split

theorem execLiveDue_kept {kk : Keep} (dt : Nat) (k : LinkId) (s : State) (kh : Kept kk s) : OutKept kk (execLiveDue dt k s) := by
  unfold execLiveDue
  try dsimp only
  repeat' first
    | with_reducible first | assumption | apply State.liveDueNow_kept | apply State.advance_kept | apply outKept_next | intro _

theorem State.lkcfgWrite_kept {kk : Keep} (s : State) (k : LinkId) (v : Word) (kh : Kept kk s) : (State.lkcfgWrite s k v).Kept kk := by
  unfold State.lkcfgWrite
  try dsimp only
  repeat' first
    | with_reducible first | assumption | apply State.postCtl_kept | apply State.linkTo_kept | apply State.setLinkSt_kept | apply State.setReg_kept | apply WRes.kept_ok | exact WRes.kept_refuse | apply kept_ite | intro _
    | split

theorem State.discardBlock_kept {kk : Keep} (s : State) (k : LinkId) (kh : Kept kk s) : Kept kk (State.discardBlock s k) := by
  unfold State.discardBlock
  try dsimp only
  repeat' first
    | with_reducible first | assumption | apply State.onLink_kept | apply State.inc_kept | apply kept_ite
    | simp only [↓kept_mk_iff]
    | with_reducible intro _
    | split

theorem execDiscardedBlock_kept {kk : Keep} (dt : Nat) (k : LinkId) (s : State) (kh : Kept kk s) : OutKept kk (execDiscardedBlock dt k s) := by
  unfold execDiscardedBlock
  try dsimp only
  repeat' first
    | with_reducible first | assumption | apply State.discardBlock_kept | apply State.advance_kept | apply outKept_next | intro _

theorem State.takeBlock_kept {kk : Keep} (s : State) (k : LinkId) (least ctype : Nat) (named : List Nat) (b : List Byte) (f : State → State) (hf : ∀ s, Kept kk s → Kept kk (f s)) (kh : Kept kk s) : Kept kk (State.takeBlock s k least ctype named b f) := by
  unfold State.takeBlock
  try dsimp only
  repeat' first
    | with_reducible first | assumption | apply hf | apply State.discardBlock_kept | apply kept_ite | intro _
    | split

theorem State.rxLive_kept {kk : Keep} (s : State) (k : LinkId) (b : List Byte) (fec : Nat) (kh : Kept kk s) : Kept kk (State.rxLive s k b fec) := by
  unfold State.rxLive
  try dsimp only
  repeat' first
    | with_reducible first | assumption | apply State.takeBlock_kept | apply State.onLink_kept | apply State.finc_kept | apply kept_ite
    | simp only [↓kept_mk_iff]
    | with_reducible intro _
    | split

theorem execLive_kept {kk : Keep} (dt : Nat) (k : LinkId) (block : List Byte) (fec : Nat) (s : State) (kh : Kept kk s) : OutKept kk (execLive dt k block fec s) := by
  unfold execLive
  try dsimp only
  repeat' first
    | with_reducible first | assumption | apply State.rxLive_kept | apply State.advance_kept | apply outKept_next | intro _

theorem State.rxAck_kept {kk : Keep} (s : State) (k : LinkId) (b : List Byte) (kh : Kept kk s) : Kept kk (State.rxAck s k b) := by
  unfold State.rxAck
  try dsimp only
  repeat' first
    | with_reducible first | assumption | apply State.takeBlock_kept | apply State.onLink_kept | intro _

theorem execAck_kept {kk : Keep} (dt : Nat) (k : LinkId) (block : List Byte) (s : State) (kh : Kept kk s) : OutKept kk (execAck dt k block s) := by
  unfold execAck
  try dsimp only
  repeat' first
    | with_reducible first | assumption | apply State.rxAck_kept | apply State.advance_kept | apply outKept_next | intro _

theorem State.rxNak_kept {kk : Keep} (s : State) (k : LinkId) (b : List Byte) (kh : Kept kk s) : Kept kk (State.rxNak s k b) := by
  unfold State.rxNak
  try dsimp only
  repeat' first
    | with_reducible first | assumption | apply State.takeBlock_kept | apply State.onLink_kept
    | simp only [↓kept_mk_iff]
    | with_reducible intro _

theorem execNak_kept {kk : Keep} (dt : Nat) (k : LinkId) (block : List Byte) (s : State) (kh : Kept kk s) : OutKept kk (execNak dt k block s) := by
  unfold execNak
  try dsimp only
  repeat' first
    | with_reducible first | assumption | apply State.rxNak_kept | apply State.advance_kept | apply outKept_next | intro _

theorem State.rxReplay_kept {kk : Keep} (s : State) (k : LinkId) (b : List Byte) (kh : Kept kk s) : Kept kk (State.rxReplay s k b) := by
  unfold State.rxReplay
  try dsimp only
  repeat' first
    | with_reducible first | assumption | apply State.takeBlock_kept | apply State.onLink_kept
    | simp only [↓kept_mk_iff]
    | with_reducible intro _

theorem execReplay_kept {kk : Keep} (dt : Nat) (k : LinkId) (block : List Byte) (s : State) (kh : Kept kk s) : OutKept kk (execReplay dt k block s) := by
  unfold execReplay
  try dsimp only
  repeat' first
    | with_reducible first | assumption | apply State.rxReplay_kept | apply State.advance_kept | apply outKept_next | intro _

theorem execHold_kept {kk : Keep} (dt : Nat) (l : Fin 32) (block : List Byte) (s : State) (kh : Kept kk s) : OutKept kk (execHold dt l block s) := by
  unfold execHold
  try dsimp only
  repeat' first
    | with_reducible first | assumption | apply State.takeBlock_kept | apply State.advance_kept | apply State.fset_kept | apply outKept_next | intro _

theorem execRunBlock_kept {kk : Keep} (dt : Nat) (l : Fin 32) (block : List Byte) (s : State) (kh : Kept kk s) : OutKept kk (execRunBlock dt l block s) := by
  unfold execRunBlock
  try dsimp only
  repeat' first
    | with_reducible first | assumption | apply State.takeBlock_kept | apply State.advance_kept | apply State.fset_kept | apply outKept_next | intro _

theorem execVack_kept {kk : Keep} (dt : Nat) (l : Fin 32) (block : List Byte) (s : State) (kh : Kept kk s) : OutKept kk (execVack dt l block s) := by
  unfold execVack
  try dsimp only
  repeat' first
    | with_reducible first | assumption | apply State.takeBlock_kept | apply State.onLink_kept | apply State.advance_kept | apply outKept_next
    | simp only [↓kept_mk_iff]
    | with_reducible intro _

theorem State.nakResend_kept {kk : Keep} (s : State) (k : LinkId) (kh : Kept kk s) : Kept kk (State.nakResend s k) := by
  unfold State.nakResend
  try dsimp only
  repeat' first
    | with_reducible first | assumption | apply State.onLink_kept | apply kept_ite
    | simp only [↓kept_mk_iff]
    | with_reducible intro _
    | split

theorem execNakResend_kept {kk : Keep} (dt : Nat) (k : LinkId) (s : State) (kh : Kept kk s) : OutKept kk (execNakResend dt k s) := by
  unfold execNakResend
  try dsimp only
  repeat' first
    | with_reducible first | assumption | apply State.nakResend_kept | apply State.advance_kept | apply outKept_next | intro _

theorem State.replayTimeout_kept {kk : Keep} (s : State) (k : LinkId) (kh : Kept kk s) : Kept kk (State.replayTimeout s k) := by
  unfold State.replayTimeout
  try dsimp only
  repeat' first
    | with_reducible first | assumption | apply State.onLink_kept | apply kept_ite
    | simp only [↓kept_mk_iff]
    | with_reducible intro _
    | split

theorem execReplayTimeout_kept {kk : Keep} (dt : Nat) (k : LinkId) (s : State) (kh : Kept kk s) : OutKept kk (execReplayTimeout dt k s) := by
  unfold execReplayTimeout
  try dsimp only
  repeat' first
    | with_reducible first | assumption | apply State.replayTimeout_kept | apply State.advance_kept | apply outKept_next | intro _

theorem State.ackDueNow_kept {kk : Keep} (s : State) (k : LinkId) (kh : Kept kk s) : Kept kk (State.ackDueNow s k) := by
  unfold State.ackDueNow
  try dsimp only
  repeat' first
    | with_reducible first | assumption | apply State.onLink_kept | apply kept_ite
    | simp only [↓kept_mk_iff]
    | with_reducible intro _
    | split

theorem execAckDue_kept {kk : Keep} (dt : Nat) (k : LinkId) (s : State) (kh : Kept kk s) : OutKept kk (execAckDue dt k s) := by
  unfold execAckDue
  try dsimp only
  repeat' first
    | with_reducible first | assumption | apply State.ackDueNow_kept | apply State.advance_kept | apply outKept_next | intro _

theorem State.verdictResend_kept {kk : Keep} (s : State) (l : Fin 32) (kh : Kept kk s) : Kept kk (State.verdictResend s l) := by
  unfold State.verdictResend
  try dsimp only
  repeat' first
    | with_reducible first | assumption | apply State.onLink_kept | apply kept_ite
    | simp only [↓kept_mk_iff]
    | with_reducible intro _
    | split

theorem execVerdictResend_kept {kk : Keep} (dt : Nat) (l : Fin 32) (s : State) (kh : Kept kk s) : OutKept kk (execVerdictResend dt l s) := by
  unfold execVerdictResend
  try dsimp only
  repeat' first
    | with_reducible first | assumption | apply State.verdictResend_kept | apply State.advance_kept | apply outKept_next | intro _

theorem State.rxFrame_kept {kk : Keep} (s : State) (k : LinkId) (w : List Word) (take : State → State) (htake : ∀ s, Kept kk s → Kept kk (take s)) (kh : Kept kk s) : Kept kk (State.rxFrame s k w take) := by
  unfold State.rxFrame
  try dsimp only
  repeat' first
    | with_reducible first | assumption | apply htake | apply State.onLink_kept | apply State.setRxSeq_kept | apply kept_ite
    | simp only [↓kept_mk_iff]
    | with_reducible intro _
    | split

theorem State.bufferFrame_kept {kk : Keep} (s : State) (l : Fin 32) (w : List Word) (resent : Bool) (kh : Kept kk s) : Kept kk (State.bufferFrame s l w resent) := by
  unfold State.bufferFrame
  try dsimp only
  repeat' first
    | with_reducible first | assumption | apply State.onLink_kept | apply State.inc_kept | apply State.fset_kept | apply kept_ite
    | simp only [↓kept_mk_iff]
    | with_reducible intro _
    | split

theorem execCatchFrame_kept {kk : Keep} (nmem : kk.mem = none) (dt : Nat) (l : Fin 32) (frame : List Word) (resent : Bool) (s : State) (kh : Kept kk s) : OutKept kk (execCatchFrame dt l frame resent s) := by
  unfold execCatchFrame
  try dsimp only
  repeat' first
    | with_reducible first | assumption | apply State.bufferFrame_kept | apply State.rxFrame_kept | apply State.serveLink_kept | apply State.advance_kept | apply outKept_next | intro _

theorem State.stimBad_kept {kk : Keep} (nmem : kk.mem = none) (s : State) (l : Nat) (k : Token) (code : Nat) (kh : Kept kk s) : Kept kk (State.stimBad s l k code) := by
  unfold State.stimBad
  try dsimp only
  repeat' first
    | with_reducible first | assumption | apply State.linkFault_kept | intro _

theorem State.stimulus_kept {kk : Keep} (nmem : kk.mem = none) (s : State) (l : Fin 32) (k : Token) (cls0 : Bool) (kh : Kept kk s) : Kept kk (State.stimulus s l k cls0) := by
  unfold State.stimulus
  try dsimp only
  repeat' first
    | with_reducible first | assumption | apply State.stimBad_kept | apply State.onLink_kept | apply State.sendVerdict_kept | apply kept_ite
    | simp only [↓kept_mk_iff]
    | with_reducible intro _
    | split

theorem State.bufWait_kept {kk : Keep} (s : State) (a : Nat) (kh : Kept kk s) : OptKept kk (State.bufWait s a) := by
  unfold State.bufWait
  apply optKept_foldl
  · intro i
    repeat' first
      | with_reducible assumption
      | with_reducible exact optKept_none
      | with_reducible apply optKept_some
      | with_reducible apply State.askWake_kept
      | with_reducible apply State.bankStart_kept
      | split
  · exact optKept_none

theorem State.stimRead_kept {kk : Keep} (nmem : kk.mem = none) (s : State) (l : Fin 32) (kh : Kept kk s) : Kept kk (State.stimRead s l) := by
  unfold State.stimRead
  try dsimp only
  repeat' first
    | with_reducible first | assumption | apply State.bufWait_kept | apply State.stimBad_kept | apply State.onLink_kept | apply State.useCor_kept | apply State.countUnc_kept
    | (with_reducible apply kept_foldl; intro _ _ _)
    | (with_reducible apply kept_foldl_fst; intro _ _ _)
    | (with_reducible apply kept_foldl_snd; intro _ _ _)
    | (with_reducible refine OptKept.get ?_ (by assumption))
    | with_reducible apply kept_ite
    | simp only [↓kept_mk_iff]
    | with_reducible intro _
    | split

theorem execStimulusBufferRead_kept {kk : Keep} (nmem : kk.mem = none) (dt : Nat) (l : Fin 32) (s : State) (kh : Kept kk s) : OutKept kk (execStimulusBufferRead dt l s) := by
  unfold execStimulusBufferRead
  try dsimp only
  repeat' first
    | with_reducible first | assumption | apply State.stimRead_kept | apply State.advance_kept | apply outKept_next | intro _

theorem firstDo_kept {kk : Keep} (s : State) (l : List (State → Option State))
    (hl : ∀ f ∈ l, OptKept kk (f s)) : OptKept kk (firstDo s l) := by
  induction l with
  | nil => exact optKept_none
  | cons f r ih =>
    unfold firstDo
    split
    · rename_i t e
      exact optKept_some (OptKept.get (hl f (List.mem_cons_self ..)) e)
    · exact ih fun f m => hl f (List.mem_cons_of_mem _ m)

theorem State.txVerdict_kept {kk : Keep} (l : Fin 32) (s : State) (kh : Kept kk s) : OptKept kk (State.txVerdict l s) := by
  unfold State.txVerdict
  try dsimp only
  repeat' first
    | with_reducible first | assumption | apply State.emit_kept | apply State.setLink_kept | apply State.inc_kept | exact optKept_none | apply optKept_some | apply optKept_ite | apply kept_ite
    | simp only [↓kept_mk_iff]
    | with_reducible intro _
    | split

theorem State.txNak_kept {kk : Keep} (k : LinkId) (s : State) (kh : Kept kk s) : OptKept kk (State.txNak k s) := by
  unfold State.txNak
  try dsimp only
  repeat' first
    | with_reducible first | assumption | apply State.onLink_kept | apply State.emit_kept | exact optKept_none | apply optKept_some | apply optKept_ite | apply kept_ite
    | simp only [↓kept_mk_iff]
    | with_reducible intro _
    | split

theorem State.txReplay_kept {kk : Keep} (k : LinkId) (s : State) (kh : Kept kk s) : OptKept kk (State.txReplay k s) := by
  unfold State.txReplay
  try dsimp only
  repeat' first
    | with_reducible first | assumption | apply State.emit_kept | apply State.setLink_kept | apply State.inc_kept | exact optKept_none | apply optKept_some | apply optKept_ite | apply kept_ite
    | simp only [↓kept_mk_iff]
    | with_reducible intro _
    | split

theorem State.txStroke_kept {kk : Keep} (l : Fin 32) (s : State) (kh : Kept kk s) : OptKept kk (State.txStroke l s) := by
  unfold State.txStroke
  try dsimp only
  repeat' first
    | with_reducible first | assumption | apply State.onLink_kept | apply State.emit_kept | exact optKept_none | apply optKept_some | apply optKept_ite | apply kept_ite
    | simp only [↓kept_mk_iff]
    | with_reducible intro _
    | split

theorem State.txHold_kept {kk : Keep} (l : Fin 32) (s : State) (kh : Kept kk s) : OptKept kk (State.txHold l s) := by
  unfold State.txHold
  try dsimp only
  repeat' first
    | with_reducible first | assumption | apply State.onLink_kept | apply State.emit_kept | exact optKept_none | apply optKept_some | apply optKept_ite | apply kept_ite
    | simp only [↓kept_mk_iff]
    | with_reducible intro _
    | split

theorem State.txCtrl_kept {kk : Keep} (k : LinkId) (rank : Nat) (s : State) (kh : Kept kk s) : OptKept kk (State.txCtrl k rank s) := by
  unfold State.txCtrl
  try dsimp only
  repeat' first
    | with_reducible first | assumption | apply State.onLink_kept | apply State.emit_kept | exact optKept_none | apply optKept_some | apply optKept_ite | apply kept_ite
    | simp only [↓kept_mk_iff]
    | with_reducible intro _
    | split

theorem State.txLive_kept {kk : Keep} (k : LinkId) (s : State) (kh : Kept kk s) : OptKept kk (State.txLive k s) := by
  unfold State.txLive
  try dsimp only
  repeat' first
    | with_reducible first | assumption | apply State.onLink_kept | apply State.emit_kept | exact optKept_none | apply optKept_some | apply optKept_ite | apply kept_ite
    | simp only [↓kept_mk_iff]
    | with_reducible intro _
    | split

theorem State.txAck_kept {kk : Keep} (k : LinkId) (s : State) (kh : Kept kk s) : OptKept kk (State.txAck k s) := by
  unfold State.txAck
  try dsimp only
  repeat' first
    | with_reducible first | assumption | apply State.onLink_kept | apply State.emit_kept | exact optKept_none | apply optKept_some | apply optKept_ite | apply kept_ite
    | simp only [↓kept_mk_iff]
    | with_reducible intro _
    | split

theorem State.sendFrame_kept {kk : Keep} (s : State) (k : LinkId) (w : List Word) (rest : List TxItem) (kh : Kept kk s) : Kept kk (State.sendFrame s k w rest) := by
  unfold State.sendFrame
  try dsimp only
  repeat' first
    | with_reducible first | assumption | apply State.onLink_kept | apply State.setTxSeq_kept | apply State.emit_kept | apply kept_ite
    | simp only [↓kept_mk_iff]
    | with_reducible intro _
    | split

theorem State.txNew_kept {kk : Keep} (l : Fin 32) (s : State) (kh : Kept kk s) : OptKept kk (State.txNew l s) := by
  unfold State.txNew
  try dsimp only
  repeat' first
    | with_reducible first | assumption | apply State.sendFrame_kept | apply State.emit_kept | apply State.setLink_kept | exact optKept_none | apply optKept_some | apply optKept_ite | apply kept_ite
    | simp only [↓kept_mk_iff]
    | with_reducible intro _
    | split

theorem State.txCred_kept {kk : Keep} (l : Fin 16) (s : State) (kh : Kept kk s) : OptKept kk (State.txCred l s) := by
  unfold State.txCred
  try dsimp only
  repeat' first
    | with_reducible first | assumption | apply State.emit_kept | apply State.setLink_kept | exact optKept_none | apply optKept_some | apply optKept_ite
    | simp only [↓kept_mk_iff]
    | with_reducible intro _
    | split

theorem State.txFab_kept {kk : Keep} (l : Fin 16) (s : State) (kh : Kept kk s) : OptKept kk (State.txFab l s) := by
  unfold State.txFab
  try dsimp only
  repeat' first
    | with_reducible first | assumption | apply State.sendFrame_kept | apply State.onLink_kept | apply State.incw_kept | exact optKept_none | apply optKept_some | apply optKept_ite | apply kept_ite
    | simp only [↓kept_mk_iff]
    | with_reducible intro _
    | split

theorem State.txBlock_kept {kk : Keep} (s : State) (k : LinkId) (kh : Kept kk s) : Kept kk (State.txBlock s k) := by
  unfold State.txBlock
  split
  · exact kh
  · split
    · refine (firstDo_kept s _ ?_).getD kh
      simp only [List.forall_mem_cons, List.not_mem_nil, false_implies, implies_true, and_true]
      exact ⟨State.txVerdict_kept _ _ kh, State.txNak_kept _ _ kh, State.txReplay_kept _ _ kh, State.txStroke_kept _ _ kh, State.txHold_kept _ _ kh,
        State.txCtrl_kept _ _ _ kh, State.txLive_kept _ _ kh, State.txAck_kept _ _ kh, State.txNew_kept _ _ kh⟩
    · refine (firstDo_kept s _ ?_).getD kh
      simp only [List.forall_mem_cons, List.not_mem_nil, false_implies, implies_true, and_true]
      exact ⟨State.txCtrl_kept _ _ _ kh, State.txNak_kept _ _ kh, State.txReplay_kept _ _ kh, State.txCtrl_kept _ _ _ kh, State.txLive_kept _ _ kh,
        State.txAck_kept _ _ kh, State.txCred_kept _ _ kh, State.txCtrl_kept _ _ _ kh, State.txFab_kept _ _ kh⟩

theorem State.fabRefuse_kept {kk : Keep} (nmem : kk.mem = none) (s : State) (g reason : Nat) (k : FabTok) (kh : Kept kk s) : Kept kk (State.fabRefuse s g reason k) := by
  unfold State.fabRefuse
  try dsimp only
  repeat' first
    | with_reducible first | assumption | apply State.fabReturn_kept | apply State.oweCredit_kept | apply State.inc_kept | apply kept_ite | intro _
    | split

theorem State.fabMiss_kept {kk : Keep} (s : State) (k : FabTok) (kh : Kept kk s) : Kept kk (State.fabMiss s k) := by
  unfold State.fabMiss
  try dsimp only
  repeat' first
    | with_reducible first | assumption | apply State.inc_kept | apply kept_ite | intro _
    | split

theorem State.fabSend_kept {kk : Keep} (s : State) (l dl : Nat) (k : FabTok) (kh : Kept kk s) : OptKept kk (State.fabSend s l dl k) := by
  unfold State.fabSend
  try dsimp only
  repeat' first
    | with_reducible first | assumption | apply State.fabMiss_kept | apply State.onLink_kept | apply State.oweCredit_kept | exact optKept_none | apply optKept_some | apply optKept_ite | apply kept_ite
    | simp only [↓kept_mk_iff]
    | with_reducible intro _
    | split

theorem State.fabInject_kept {kk : Keep} (s : State) (g : Nat) (dest : TokTo) (k : FabTok) (kh : Kept kk s) : OptKept kk (State.fabInject s g dest k) := by
  unfold State.fabInject
  try dsimp only
  repeat' first
    | with_reducible first | assumption | apply State.oweCredit_kept | apply State.inject_kept | exact optKept_none | apply optKept_some | apply optKept_ite
    | (with_reducible refine Inj.Kept.sent ?_ (by assumption))
    | (with_reducible refine Inj.Kept.fenced ?_ (by assumption))
    | simp only [↓kept_mk_iff]
    | with_reducible intro _
    | split

theorem State.fabStep_kept {kk : Keep} (nmem : kk.mem = none) (s : State) (g : Nat) (k : FabTok) (kh : Kept kk s) : OptKept kk (State.fabStep s g k) := by
  unfold State.fabStep
  try dsimp only
  repeat' first
    | with_reducible first | assumption | apply State.fabInject_kept | apply State.fabSend_kept | apply State.fabMiss_kept | apply State.fabRefuse_kept | apply State.oweCredit_kept | apply State.sendFault_kept | exact optKept_none | apply optKept_some | apply optKept_ite
    | (with_reducible refine OptKept.get ?_ (by assumption))
    | with_reducible apply kept_ite
    | simp only [↓kept_mk_iff]
    | with_reducible intro _
    | split

theorem State.fabServe_kept {kk : Keep} (nmem : kk.mem = none) (s : State) (g : Nat) (kept : List FabTok) (z0 : List FabTok) (kh : Kept kk s) : Kept kk (State.fabServe s g kept z0) := by
  induction z0 generalizing s g kept with
  | nil =>
    unfold State.fabServe
    try dsimp only
    repeat' first
      | with_reducible first | assumption | apply State.fabStep_kept
      | (with_reducible refine OptKept.get ?_ (by assumption))
      | with_reducible apply kept_ite
      | simp only [↓kept_mk_iff]
      | with_reducible intro _
      | split
  | cons a l ih =>
    unfold State.fabServe
    try dsimp only
    repeat' first
      | with_reducible first | assumption | apply ih | apply State.fabStep_kept
      | (with_reducible refine OptKept.get ?_ (by assumption))
      | with_reducible apply kept_ite
      | simp only [↓kept_mk_iff]
      | with_reducible intro _
      | split

theorem State.serveGate_kept {kk : Keep} (nmem : kk.mem = none) (s : State) (g : Nat) (kh : Kept kk s) : Kept kk (State.serveGate s g) := by
  unfold State.serveGate
  try dsimp only
  repeat' first
    | with_reducible first | assumption | apply State.fabServe_kept
    | simp only [↓kept_mk_iff]
    | with_reducible intro _

theorem execFabricRoute_kept {kk : Keep} (nmem : kk.mem = none) (dt : Nat) (g : Fin 4) (s : State) (kh : Kept kk s) : OutKept kk (execFabricRoute dt g s) := by
  unfold execFabricRoute
  try dsimp only
  repeat' first
    | with_reducible first | assumption | apply State.serveGate_kept | apply State.advance_kept | apply outKept_next | intro _

theorem State.holdtExpiry_kept {kk : Keep} (nmem : kk.mem = none) (s : State) (kh : Kept kk s) : Kept kk (State.holdtExpiry s) := by
  unfold State.holdtExpiry
  try dsimp only
  repeat' first
    | with_reducible first | assumption | apply State.serveGate_kept
    | (with_reducible apply kept_foldl; intro _ _ _)
    | (with_reducible apply kept_foldl_fst; intro _ _ _)
    | (with_reducible apply kept_foldl_snd; intro _ _ _)
    | with_reducible apply kept_ite
    | simp only [↓kept_mk_iff]
    | with_reducible intro _
    | split

theorem execHoldtExpiry_kept {kk : Keep} (nmem : kk.mem = none) (dt : Nat) (s : State) (kh : Kept kk s) : OutKept kk (execHoldtExpiry dt s) := by
  unfold execHoldtExpiry
  try dsimp only
  repeat' first
    | with_reducible first | assumption | apply State.holdtExpiry_kept | apply State.advance_kept | apply outKept_next | intro _

theorem State.takeFab_kept {kk : Keep} (nmem : kk.mem = none) (s : State) (l : Fin 16) (w : List Word) (kh : Kept kk s) : Kept kk (State.takeFab s l w) := by
  unfold State.takeFab
  try dsimp only
  repeat' first
    | with_reducible first | assumption | apply State.serveGate_kept | apply State.oweCredit_kept | apply State.toGateway_kept | apply State.incw_kept | apply State.inc_kept | apply kept_ite | intro _
    | split

theorem execFabricTokenFrame_kept {kk : Keep} (nmem : kk.mem = none) (dt : Nat) (l : Fin 16) (frame : List Word) (s : State) (kh : Kept kk s) : OutKept kk (execFabricTokenFrame dt l frame s) := by
  unfold execFabricTokenFrame
  try dsimp only
  repeat' first
    | with_reducible first | assumption | apply State.takeFab_kept | apply State.rxFrame_kept | apply State.advance_kept | apply outKept_next | intro _

theorem execRetFrame_kept {kk : Keep} (nmem : kk.mem = none) (dt : Nat) (l : Fin 16) (frame : List Word) (s : State) (kh : Kept kk s) : OutKept kk (execRetFrame dt l frame s) := by
  unfold execRetFrame
  try dsimp only
  repeat' first
    | with_reducible first | assumption | apply State.takeFab_kept | apply State.rxFrame_kept | apply State.advance_kept | apply outKept_next | intro _

theorem State.rtbankWrite_kept {kk : Keep} (s : State) (b : Nat) (v : Word) (kh : Kept kk s) : (State.rtbankWrite s b v).Kept kk := by
  unfold State.rtbankWrite
  try dsimp only
  repeat' first
    | with_reducible first | assumption | apply State.fset_kept | apply WRes.kept_ok | exact WRes.kept_refuse | apply kept_ite | intro _
    | split

theorem State.rtentWrite_kept {kk : Keep} (s : State) (i : Nat) (v : Word) (kh : Kept kk s) : (State.rtentWrite s i v).Kept kk := by
  unfold State.rtentWrite
  try dsimp only
  repeat' first
    | with_reducible first | assumption | apply State.setReg_kept | apply WRes.kept_ok | exact WRes.kept_refuse | apply kept_ite | intro _
    | split

theorem State.rtCut_kept {kk : Keep} (s : State) (take : Nat) (kh : Kept kk s) : Kept kk (State.rtCut s take) := by
  unfold State.rtCut
  try dsimp only
  repeat' first
    | with_reducible first | assumption | apply State.fset_kept
    | simp only [↓kept_mk_iff]
    | with_reducible intro _
    | split

theorem State.rtQuiet_kept {kk : Keep} (s : State) (kh : Kept kk s) : Kept kk (State.rtQuiet s) := by
  unfold State.rtQuiet
  try dsimp only
  repeat' first
    | with_reducible first | assumption | apply State.inc_kept | apply State.fset_kept | apply kept_ite
    | simp only [↓kept_mk_iff]
    | with_reducible intro _
    | split

theorem execOldBankFree_kept {kk : Keep} (b : Fin 2) (s : State) (kh : Kept kk s) : OutKept kk (execOldBankFree b s) := by
  unfold execOldBankFree
  try dsimp only
  repeat' first
    | with_reducible first | assumption | apply State.fset_kept | apply outKept_next | apply kept_ite | intro _
    | split

theorem State.fabcfgWrite_kept {kk : Keep} (s : State) (v : Word) (kh : Kept kk s) : (State.fabcfgWrite s v).Kept kk := by
  unfold State.fabcfgWrite
  try dsimp only
  repeat' first
    | with_reducible first | assumption | apply State.postIdent_kept | apply State.setReg_kept | apply WRes.kept_ok
    | (with_reducible apply kept_foldl; intro _ _ _)
    | (with_reducible apply kept_foldl_fst; intro _ _ _)
    | (with_reducible apply kept_foldl_snd; intro _ _ _)
    | with_reducible first | apply kept_ite | intro _
    | split

theorem execIdent_kept {kk : Keep} (dt : Nat) (l : Fin 16) (block : List Byte) (s : State) (kh : Kept kk s) : OutKept kk (execIdent dt l block s) := by
  unfold execIdent
  try dsimp only
  repeat' first
    | with_reducible first | assumption | apply State.takeBlock_kept | apply State.onLink_kept | apply State.advance_kept | apply State.fset_kept | apply outKept_next | apply kept_ite
    | simp only [↓kept_mk_iff]
    | with_reducible intro _
    | split

theorem execCred_kept {kk : Keep} (dt : Nat) (l : Fin 16) (block : List Byte) (s : State) (kh : Kept kk s) : OutKept kk (execCred dt l block s) := by
  unfold execCred
  try dsimp only
  repeat' first
    | with_reducible first | assumption | apply State.takeBlock_kept | apply State.onLink_kept | apply State.advance_kept | apply outKept_next
    | simp only [↓kept_mk_iff]
    | with_reducible intro _

theorem execCredDue_kept {kk : Keep} (dt : Nat) (l : Fin 16) (s : State) (kh : Kept kk s) : OutKept kk (execCredDue dt l s) := by
  unfold execCredDue
  try dsimp only
  repeat' first
    | with_reducible first | assumption | apply State.advance_kept | apply State.setLink_kept | apply outKept_next | apply kept_ite
    | simp only [↓kept_mk_iff]
    | with_reducible intro _
    | split

theorem execPeriodicIdent_kept {kk : Keep} (dt : Nat) (s : State) (kh : Kept kk s) : OutKept kk (execPeriodicIdent dt s) := by
  unfold execPeriodicIdent
  try dsimp only
  repeat' first
    | with_reducible first | assumption | apply State.postIdent_kept | apply State.advance_kept | apply outKept_next
    | (with_reducible apply kept_foldl; intro _ _ _)
    | (with_reducible apply kept_foldl_fst; intro _ _ _)
    | (with_reducible apply kept_foldl_snd; intro _ _ _)
    | with_reducible first | apply kept_ite | intro _
    | split

theorem execPeriodicDelayMeasure_kept {kk : Keep} (dt : Nat) (l : Fin 16) (s : State) (kh : Kept kk s) : OutKept kk (execPeriodicDelayMeasure dt l s) := by
  unfold execPeriodicDelayMeasure
  try dsimp only
  repeat' first
    | with_reducible first | assumption | apply State.postDreq_kept | apply State.advance_kept | apply outKept_next | apply kept_ite | intro _
    | split

theorem execDreq_kept {kk : Keep} (dt : Nat) (l : Fin 16) (block : List Byte) (t10 : Nat) (s : State) (kh : Kept kk s) : OutKept kk (execDreq dt l block t10 s) := by
  unfold execDreq
  try dsimp only
  repeat' first
    | with_reducible first | assumption | apply State.takeBlock_kept | apply State.postCtl_kept | apply State.advance_kept | apply outKept_next | intro _

theorem execDrsp_kept {kk : Keep} (dt : Nat) (l : Fin 16) (block : List Byte) (t10 : Nat) (s : State) (kh : Kept kk s) : OutKept kk (execDrsp dt l block t10 s) := by
  unfold execDrsp
  try dsimp only
  repeat' first
    | with_reducible first | assumption | apply State.takeBlock_kept | apply State.onLink_kept | apply State.advance_kept | apply State.fset_kept | apply outKept_next | apply kept_ite | apply kept_id
    | simp only [↓kept_mk_iff]
    | with_reducible intro _
    | split

theorem State.toSink_kept {kk : Keep} (nmem : kk.mem = none) (s : State) (l : Nat) (k : Token) (kh : Kept kk s) : Kept kk (State.toSink s l k) := by
  unfold State.toSink
  try dsimp only
  repeat' first
    | with_reducible first | assumption | apply State.serveGate_kept | apply State.stimulus_kept | apply State.toGateway_kept | apply State.ringPut_kept | apply State.sendFault_kept | apply State.qPut_kept | apply kept_ite
    | simp only [↓kept_mk_iff]
    | with_reducible intro _
    | split

theorem State.gapRelease_kept {kk : Keep} (nmem : kk.mem = none) (s : State) (l : Nat) (k : Token) (kh : Kept kk s) : Kept kk (State.gapRelease s l k) := by
  unfold State.gapRelease
  try dsimp only
  repeat' first
    | with_reducible first | assumption | apply State.laneFault_kept | apply State.inc_kept | apply kept_ite | intro _
    | split

theorem State.releaseLane_kept {kk : Keep} (nmem : kk.mem = none) (s : State) (l : Nat) (k : Token) (kh : Kept kk s) : Kept kk (State.releaseLane s l k) := by
  unfold State.releaseLane
  try dsimp only
  repeat' first
    | with_reducible first | assumption | apply State.gapRelease_kept | apply State.toSink_kept | apply State.setLane_kept | apply kept_ite | intro _
    | split

theorem State.countVwait_kept {kk : Keep} (s : State) (o : Outlet) (l : Nat) (kh : Kept kk s) : Kept kk (State.countVwait s o l) := by
  unfold State.countVwait
  try dsimp only
  repeat' first
    | with_reducible first | assumption | apply State.setLane_kept | apply State.inc_kept | apply kept_ite
    | simp only [↓kept_mk_iff]
    | with_reducible intro _
    | split

theorem State.release_kept {kk : Keep} (nmem : kk.mem = none) (s : State) (o : Outlet) (kh : Kept kk s) : Kept kk (State.release s o) := by
  unfold State.release
  try dsimp only
  repeat' first
    | with_reducible first | assumption | apply State.countVwait_kept | apply State.releaseLane_kept
    | (with_reducible apply kept_foldl; intro _ _ _)
    | (with_reducible apply kept_foldl_fst; intro _ _ _)
    | (with_reducible apply kept_foldl_snd; intro _ _ _)
    | with_reducible apply kept_ite
    | simp only [↓kept_mk_iff]
    | with_reducible intro _
    | split

theorem execRelease_kept {kk : Keep} (nmem : kk.mem = none) (dt : Nat) (o : Outlet) (s : State) (kh : Kept kk s) : OutKept kk (execRelease dt o s) := by
  unfold execRelease
  try dsimp only
  repeat' first
    | with_reducible first | assumption | apply State.release_kept | apply State.advance_kept | apply outKept_next | intro _

theorem State.releaseNow_kept {kk : Keep} (nmem : kk.mem = none) (s : State) (l : Nat) (kh : Kept kk s) : Kept kk (State.releaseNow s l) := by
  unfold State.releaseNow
  try dsimp only
  repeat' first
    | with_reducible first | assumption | apply State.release_kept | apply kept_ite | intro _
    | split

theorem State.windowPut_kept {kk : Keep} (nmem : kk.mem = none) (s : State) (l seq d : Nat) (k : Token) (kh : Kept kk s) : Kept kk (State.windowPut s l seq d k) := by
  unfold State.windowPut
  try dsimp only
  repeat' first
    | with_reducible first | assumption | apply State.releaseNow_kept | apply State.setLane_kept | apply kept_ite
    | simp only [↓kept_mk_iff]
    | with_reducible intro _
    | split

theorem State.windowTake_kept {kk : Keep} (nmem : kk.mem = none) (s : State) (l : Nat) (k : Token) (kh : Kept kk s) : Kept kk (State.windowTake s l k) := by
  unfold State.windowTake
  try dsimp only
  repeat' first
    | with_reducible first | assumption | apply State.windowPut_kept | apply State.laneFault_kept | apply State.inc_kept | apply kept_ite | intro _
    | split

theorem State.windowArrival_kept {kk : Keep} (nmem : kk.mem = none) (s : State) (l : Nat) (kh : Kept kk s) : Kept kk (State.windowArrival s l) := by
  unfold State.windowArrival
  try dsimp only
  repeat' first
    | with_reducible first | assumption | apply State.windowTake_kept
    | simp only [↓kept_mk_iff]
    | with_reducible intro _
    | split

theorem execWindowArrival_kept {kk : Keep} (nmem : kk.mem = none) (dt : Nat) (l : Sys2Proof.LaneId) (s : State) (kh : Kept kk s) : OutKept kk (execWindowArrival dt l s) := by
  unfold execWindowArrival
  try dsimp only
  repeat' first
    | with_reducible first | assumption | apply State.windowArrival_kept | apply State.advance_kept | apply outKept_next | intro _

theorem State.gapTimeout_kept {kk : Keep} (nmem : kk.mem = none) (s : State) (l : Nat) (kh : Kept kk s) : Kept kk (State.gapTimeout s l) := by
  unfold State.gapTimeout
  try dsimp only
  repeat' first
    | with_reducible first | assumption | apply State.releaseNow_kept | apply State.laneFault_kept | apply State.setLane_kept | apply kept_ite
    | simp only [↓kept_mk_iff]
    | with_reducible intro _
    | split

theorem execGapTimeout_kept {kk : Keep} (nmem : kk.mem = none) (dt : Nat) (l : Sys2Proof.LaneId) (s : State) (kh : Kept kk s) : OutKept kk (execGapTimeout dt l s) := by
  unfold execGapTimeout
  try dsimp only
  repeat' first
    | with_reducible first | assumption | apply State.gapTimeout_kept | apply State.advance_kept | apply outKept_next | intro _

theorem State.laneSkip_kept {kk : Keep} (nmem : kk.mem = none) (s : State) (l : Nat) (kh : Kept kk s) : Kept kk (State.laneSkip s l) := by
  unfold State.laneSkip
  try dsimp only
  repeat' first
    | with_reducible first | assumption | apply State.releaseNow_kept | apply State.setLane_kept | apply kept_ite
    | simp only [↓kept_mk_iff]
    | with_reducible intro _
    | split

end Sys2Proof.Machine
end

