-- ==== Sys2Proof/Laws/KeptRegs.lean ====
section
/-! SUPPORT. What the model keeps (Kept.lean): the stroke, register access and arming. One lemma for each operation: memory, graph memory and the device state are kept unless the lemma asks that they need not be. -/
namespace Sys2Proof.Machine

theorem State.turnStroke_kept {kk : Keep} (s : State) (d : Nat) (kh : Kept kk s) : Kept kk (State.turnStroke s d) := by
  unfold State.turnStroke
  try dsimp only
  repeat' first
    | with_reducible first | assumption | apply State.free_kept | apply State.fset_kept
    | (with_reducible refine kept_of_snd ?_ (by assumption))
    | with_reducible apply kept_ite
    | simp only [↓kept_mk_iff]
    | with_reducible intro _
    | split

theorem State.sourceLost_kept {kk : Keep} (s : State) (kh : Kept kk s) : Kept kk (State.sourceLost s) := by
  unfold State.sourceLost
  try dsimp only
  repeat' first
    | with_reducible first | assumption | apply State.event_kept | apply State.raiseDev_kept | apply State.inc_kept | apply State.fset_kept | apply kept_ite
    | simp only [↓kept_mk_iff]
    | with_reducible intro _
    | split

theorem execStrokeSourceLost_kept {kk : Keep} (dt : Nat) (s : State) (kh : Kept kk s) : OutKept kk (execStrokeSourceLost dt s) := by
  unfold execStrokeSourceLost
  try dsimp only
  repeat' first
    | with_reducible first | assumption | apply State.sourceLost_kept | apply State.advance_kept | apply outKept_next | intro _

theorem State.sourceReturn_kept {kk : Keep} (s : State) (kh : Kept kk s) : Kept kk (State.sourceReturn s) := by
  unfold State.sourceReturn
  try dsimp only
  repeat' first
    | with_reducible first | assumption | apply State.fset_kept | apply kept_ite | intro _
    | split

theorem execStrokeSourceReturn_kept {kk : Keep} (dt : Nat) (s : State) (kh : Kept kk s) : OutKept kk (execStrokeSourceReturn dt s) := by
  unfold execStrokeSourceReturn
  try dsimp only
  repeat' first
    | with_reducible first | assumption | apply State.sourceReturn_kept | apply State.advance_kept | apply outKept_next | intro _

theorem State.strokeIn_kept {kk : Keep} (s : State) (t10 : Nat) (kh : Kept kk s) : Kept kk (State.strokeIn s t10) := by
  unfold State.strokeIn
  try dsimp only
  repeat' first
    | with_reducible first | assumption | apply kept_ite
    | simp only [↓kept_mk_iff]
    | with_reducible intro _
    | split

theorem execStrokeInEdge_kept {kk : Keep} (dt t10 : Nat) (s : State) (kh : Kept kk s) : OutKept kk (execStrokeInEdge dt t10 s) := by
  unfold execStrokeInEdge
  try dsimp only
  repeat' first
    | with_reducible first | assumption | apply State.strokeIn_kept | apply State.advance_kept | apply outKept_next | intro _

theorem State.markTarget_kept {kk : Keep} (s : State) (n t : Nat) (kh : Kept kk s) : Kept kk (State.markTarget s n t) := by
  unfold State.markTarget
  try dsimp only
  repeat' first
    | with_reducible first | assumption | apply State.fset_kept | apply kept_ite
    | simp only [↓kept_mk_iff]
    | with_reducible intro _
    | split

theorem State.rxMarker_kept {kk : Keep} (s : State) (l : Fin 16) (b : List Byte) (t10 : Nat) (kh : Kept kk s) : Kept kk (State.rxMarker s l b t10) := by
  unfold State.rxMarker
  try dsimp only
  repeat' first
    | with_reducible first | assumption | apply State.markTarget_kept | apply State.takeBlock_kept | apply State.onLink_kept | apply kept_ite
    | simp only [↓kept_mk_iff]
    | with_reducible intro _
    | split

theorem execMarker_kept {kk : Keep} (dt : Nat) (l : Fin 16) (block : List Byte) (t10 : Nat) (s : State) (kh : Kept kk s) : OutKept kk (execMarker dt l block t10 s) := by
  unfold execMarker
  try dsimp only
  repeat' first
    | with_reducible first | assumption | apply State.rxMarker_kept | apply State.advance_kept | apply outKept_next | intro _

theorem State.sendMarkers_kept {kk : Keep} (s : State) (kh : Kept kk s) : Kept kk (State.sendMarkers s) := by
  unfold State.sendMarkers
  try dsimp only
  repeat' first
    | with_reducible first | assumption | apply State.postCtl_kept | apply State.onLink_kept
    | (with_reducible apply kept_foldl; intro _ _ _)
    | (with_reducible apply kept_foldl_fst; intro _ _ _)
    | (with_reducible apply kept_foldl_snd; intro _ _ _)
    | with_reducible apply kept_ite
    | simp only [↓kept_mk_iff]
    | with_reducible intro _
    | split

theorem State.onPtp_kept {kk : Keep} (s : State) (g : Ptp → Ptp) (kh : Kept kk s) : Kept kk (State.onPtp s g) := by
  unfold State.onPtp
  try dsimp only
  repeat' first
    | with_reducible assumption
    | simp only [↓kept_mk_iff]
    | with_reducible intro _

theorem State.ptpLose_kept {kk : Keep} (s : State) (kh : Kept kk s) : Kept kk (State.ptpLose s) := by
  unfold State.ptpLose
  try dsimp only
  repeat' first
    | with_reducible first | assumption | apply State.onPtp_kept | apply State.event_kept | apply State.raiseDev_kept | apply State.fset_kept | apply kept_ite
    | simp only [↓kept_mk_iff]
    | with_reducible intro _
    | split

theorem State.ptpLock_kept {kk : Keep} (s : State) (kh : Kept kk s) : Kept kk (State.ptpLock s) := by
  unfold State.ptpLock
  try dsimp only
  repeat' first
    | with_reducible first | assumption | apply State.fset_kept | apply kept_ite
    | simp only [↓kept_mk_iff]
    | with_reducible intro _
    | split

theorem State.servoStep_kept {kk : Keep} (s : State) (ofs : Int) (cycles : Nat) (kh : Kept kk s) : Kept kk (State.servoStep s ofs cycles) := by
  unfold State.servoStep
  try dsimp only
  repeat' first
    | with_reducible first | assumption | apply State.onPtp_kept | apply State.free_kept
    | (with_reducible refine kept_of_snd ?_ (by assumption))
    | with_reducible apply kept_ite
    | simp only [↓kept_mk_iff]
    | with_reducible intro _
    | split

theorem State.ptpSync_kept {kk : Keep} (s : State) (m : Sys2Proof.PtpMsg) (kh : Kept kk s) : Kept kk (State.ptpSync s m) := by
  unfold State.ptpSync
  try dsimp only
  repeat' first
    | with_reducible first | assumption | apply State.servoStep_kept | apply State.ptpLock_kept | apply State.ptpLose_kept | apply State.onPtp_kept | apply State.fset_kept | apply kept_ite
    | simp only [↓kept_mk_iff]
    | with_reducible intro _
    | split

theorem execPtpSync_kept {kk : Keep} (dt : Nat) (m : Sys2Proof.PtpMsg) (s : State) (kh : Kept kk s) : OutKept kk (execPtpSync dt m s) := by
  unfold execPtpSync
  try dsimp only
  repeat' first
    | with_reducible first | assumption | apply State.ptpSync_kept | apply State.advance_kept | apply outKept_next | intro _

theorem State.ptpAnnounce_kept {kk : Keep} (s : State) (m : Sys2Proof.PtpMsg) (kh : Kept kk s) : Kept kk (State.ptpAnnounce s m) := by
  unfold State.ptpAnnounce
  try dsimp only
  repeat' first
    | with_reducible first | assumption | apply State.ptpLose_kept | apply State.onPtp_kept | apply kept_ite
    | simp only [↓kept_mk_iff]
    | with_reducible intro _
    | split

theorem execPtpAnnounce_kept {kk : Keep} (dt : Nat) (m : Sys2Proof.PtpMsg) (s : State) (kh : Kept kk s) : OutKept kk (execPtpAnnounce dt m s) := by
  unfold execPtpAnnounce
  try dsimp only
  repeat' first
    | with_reducible first | assumption | apply State.ptpAnnounce_kept | apply State.advance_kept | apply outKept_next | intro _

theorem State.ptpTimeout_kept {kk : Keep} (s : State) (kh : Kept kk s) : Kept kk (State.ptpTimeout s) := by
  unfold State.ptpTimeout
  try dsimp only
  repeat' first
    | with_reducible first | assumption | apply State.ptpLose_kept | apply kept_ite | intro _
    | split

theorem execPtpSyncTimeout_kept {kk : Keep} (dt : Nat) (s : State) (kh : Kept kk s) : OutKept kk (execPtpSyncTimeout dt s) := by
  unfold execPtpSyncTimeout
  try dsimp only
  repeat' first
    | with_reducible first | assumption | apply State.ptpTimeout_kept | apply State.advance_kept | apply outKept_next | intro _

theorem State.ptpDelay_kept {kk : Keep} (s : State) (m : Sys2Proof.PtpMsg) (kh : Kept kk s) : Kept kk (State.ptpDelay s m) := by
  unfold State.ptpDelay
  try dsimp only
  repeat' first
    | with_reducible first | assumption | apply State.onPtp_kept | apply kept_ite
    | simp only [↓kept_mk_iff]
    | with_reducible intro _
    | split

theorem execDelayResponse_kept {kk : Keep} (dt : Nat) (m : Sys2Proof.PtpMsg) (s : State) (kh : Kept kk s) : OutKept kk (execDelayResponse dt m s) := by
  unfold execDelayResponse
  try dsimp only
  repeat' first
    | with_reducible first | assumption | apply State.ptpDelay_kept | apply State.advance_kept | apply outKept_next | intro _

theorem State.strkcfgWrite_kept {kk : Keep} (s : State) (v : Word) (kh : Kept kk s) : (State.strkcfgWrite s v).Kept kk := by
  unfold State.strkcfgWrite
  try dsimp only
  repeat' first
    | with_reducible first | assumption | apply State.onPtp_kept | apply State.fset_kept | apply State.setReg_kept | apply WRes.kept_ok | exact WRes.kept_refuse | apply kept_ite
    | simp only [↓kept_mk_iff]
    | with_reducible intro _
    | split

theorem State.epochWrite_kept {kk : Keep} (s : State) (v : Word) (kh : Kept kk s) : (State.epochWrite s v).Kept kk := by
  unfold State.epochWrite
  try dsimp only
  repeat' first
    | with_reducible first | assumption | apply State.onPtp_kept | apply State.setReg_kept | apply WRes.kept_ok
    | simp only [↓kept_mk_iff]
    | with_reducible intro _

theorem State.ptpcfgWrite_kept {kk : Keep} (s : State) (v : Word) (kh : Kept kk s) : (State.ptpcfgWrite s v).Kept kk := by
  unfold State.ptpcfgWrite
  try dsimp only
  repeat' first
    | with_reducible first | assumption | apply State.ptpLose_kept | apply State.onPtp_kept | apply State.setReg_kept | apply WRes.kept_ok
    | simp only [↓kept_mk_iff]
    | with_reducible intro _

theorem State.setNext_kept {kk : Keep} (s : State) (t n : Nat) (kh : Kept kk s) : Kept kk (State.setNext s t n) := by
  unfold State.setNext
  try dsimp only
  repeat' first
    | with_reducible first | assumption | apply State.fset_kept | intro _

theorem State.dropSubst_kept {kk : Keep} (s : State) (t : Nat) (kh : Kept kk s) : Kept kk (State.dropSubst s t) := by
  unfold State.dropSubst
  try dsimp only
  repeat' first
    | with_reducible first | assumption | apply State.setNext_kept | apply State.fset_kept | apply kept_ite
    | simp only [↓kept_mk_iff]
    | with_reducible intro _
    | split

theorem State.startSubst_kept {kk : Keep} (s : State) (t n : Nat) (kh : Kept kk s) : Kept kk (State.startSubst s t n) := by
  unfold State.startSubst
  try dsimp only
  repeat' first
    | with_reducible first | assumption | apply State.dropSubst_kept | apply State.setNext_kept | apply State.fset_kept
    | simp only [↓kept_mk_iff]
    | with_reducible intro _

theorem State.ltmapWrite_kept {kk : Keep} (s : State) (t : Nat) (v : Word) (kh : Kept kk s) : (State.ltmapWrite s t v).Kept kk := by
  unfold State.ltmapWrite
  try dsimp only
  repeat' first
    | with_reducible first | assumption | apply State.startSubst_kept | apply State.dropSubst_kept | apply WRes.kept_ok | exact WRes.kept_refuse | apply kept_ite | intro _
    | split

theorem State.ptstatWrite_kept {kk : Keep} (s : State) (p : Nat) (v : Word) (kh : Kept kk s) : (State.ptstatWrite s p v).Kept kk := by
  unfold State.ptstatWrite
  try dsimp only
  repeat' first
    | with_reducible first | assumption | apply State.fset_kept | apply WRes.kept_ok | apply kept_ite | intro _
    | split

theorem State.haltRelease_kept {kk : Keep} (nmem : kk.mem = none) (s : State) (c n : Nat) (kh : Kept kk s) : Kept kk (State.haltRelease s c n) := by
  unfold State.haltRelease
  try dsimp only
  repeat' first
    | with_reducible first | assumption | apply State.releaseChans_kept | apply State.onThr_kept | apply kept_ite
    | simp only [↓kept_mk_iff]
    | with_reducible intro _
    | split

theorem State.halt_kept {kk : Keep} (nmem : kk.mem = none) (s : State) (c n reason : Nat) (kh : Kept kk s) : Kept kk (State.halt s c n reason) := by
  unfold State.halt
  try dsimp only
  repeat' first
    | with_reducible first | assumption | apply State.haltRelease_kept | apply State.dropTasks_kept | apply State.setThr_kept | apply State.fset_kept | apply kept_ite
    | simp only [↓kept_mk_iff]
    | with_reducible intro _
    | split

theorem State.haltAsk_kept {kk : Keep} (nmem : kk.mem = none) (s : State) (c n : Nat) (kh : Kept kk s) : Kept kk (State.haltAsk s c n) := by
  unfold State.haltAsk
  try dsimp only
  repeat' first
    | with_reducible first | assumption | apply State.halt_kept | apply State.onThr_kept
    | simp only [↓kept_mk_iff]
    | with_reducible intro _
    | split

theorem State.haltEntry_kept {kk : Keep} (nmem : kk.mem = none) (s : State) (c n : Nat) (kh : Kept kk s) : Kept kk (State.haltEntry s c n) := by
  unfold State.haltEntry
  try dsimp only
  repeat' first
    | with_reducible first | assumption | apply State.halt_kept | apply kept_ite | intro _
    | split

theorem execHaltEntry_kept {kk : Keep} (nmem : kk.mem = none) (dt : Nat) (c : Sys2Proof.CoreId) (n : Sys2Proof.ThreadId) (s : State) (kh : Kept kk s) : OutKept kk (execHaltEntry dt c n s) := by
  unfold execHaltEntry
  try dsimp only
  repeat' first
    | with_reducible first | assumption | apply State.haltEntry_kept | apply State.advance_kept | apply outKept_next | intro _

theorem State.haltEnd_kept {kk : Keep} (s : State) (c n : Nat) (step : Bool) (kh : Kept kk s) : Kept kk (State.haltEnd s c n step) := by
  unfold State.haltEnd
  try dsimp only
  repeat' first
    | with_reducible first | assumption | apply State.wake_kept | apply State.enterReady_kept | apply State.setThr_kept | apply kept_ite
    | simp only [↓kept_mk_iff]
    | with_reducible intro _
    | split

theorem State.dbgtWrite_kept {kk : Keep} (nmem : kk.mem = none) (s : State) (c n : Nat) (v : Word) (kh : Kept kk s) : (State.dbgtWrite s c n v).Kept kk := by
  unfold State.dbgtWrite
  try dsimp only
  repeat' first
    | with_reducible first | assumption | apply State.haltEnd_kept | apply State.haltAsk_kept | apply State.haltRelease_kept | apply State.setReg_kept | apply WRes.kept_ok | exact WRes.kept_refuse | apply kept_ite | intro _
    | split

theorem State.regRead_kept {kk : Keep} (s : State) (who : Sys2Proof.Req) (k : RegKind) (t i : Nat) (kh : Kept kk s) : Kept kk (State.regRead s who k t i).2 := by
  unfold State.regRead
  try dsimp only
  repeat' first
    | with_reducible first | assumption | apply State.lkcellRead_kept
    | (with_reducible refine kept_of_snd ?_ (by assumption))
    | simp only [↓kept_mk_iff]
    | with_reducible intro _
    | split

theorem State.tregRead_kept {kk : Keep} (s : State) (who : Sys2Proof.Req) (t off : Nat) (kh : Kept kk s) : Kept kk (State.tregRead s who t off).2 := by
  unfold State.tregRead
  try dsimp only
  repeat' first
    | with_reducible first | assumption | apply State.regRead_kept
    | (with_reducible refine kept_of_snd ?_ (by assumption))
    | with_reducible apply kept_ite
    | simp only [↓kept_mk_iff]
    | with_reducible intro _
    | split

theorem State.dregRead_kept {kk : Keep} (s : State) (who : Sys2Proof.Req) (off : Nat) (kh : Kept kk s) : Kept kk (State.dregRead s who off).2 := by
  unfold State.dregRead
  try dsimp only
  repeat' first
    | with_reducible first | assumption | apply State.regRead_kept
    | (with_reducible refine kept_of_snd ?_ (by assumption))
    | with_reducible apply kept_ite
    | simp only [↓kept_mk_iff]
    | with_reducible intro _
    | split

theorem State.ioRead_kept {kk : Keep} (s : State) (who : Sys2Proof.Req) (own : Option Nat) (a : Nat) (kh : Kept kk s) : ExKept2 kk (State.ioRead s who own a) := by
  unfold State.ioRead
  try dsimp only
  repeat' first
    | with_reducible first | assumption | apply State.dregRead_kept | apply State.tregRead_kept | apply State.free_kept | exact exKept2_error | apply exKept2_ok
    | (with_reducible refine kept_of_snd ?_ (by assumption))
    | simp only [↓kept_mk_iff]
    | with_reducible intro _
    | split

theorem State.ioLoad_kept {kk : Keep} (s : State) (who : Sys2Proof.Req) (own : Option Nat) (a size : Nat) (kh : Kept kk s) : ExKept2 kk (State.ioLoad s who own a size) := by
  unfold State.ioLoad
  try dsimp only
  repeat' first
    | with_reducible first | assumption | apply State.ioRead_kept | exact exKept2_error | apply exKept2_ok
    | (with_reducible refine ExKept2.get ?_ (by assumption))
    | with_reducible apply kept_ite
    | simp only [↓kept_mk_iff]
    | with_reducible intro _
    | split

theorem State.cuttakeWrite_kept {kk : Keep} (s : State) (m : Word) (kh : Kept kk s) : (State.cuttakeWrite s m).Kept kk := by
  unfold State.cuttakeWrite
  try dsimp only
  repeat' first
    | with_reducible first | assumption | apply State.fset_kept | apply State.setReg_kept | apply WRes.kept_ok | exact WRes.kept_refuse | apply kept_ite
    | simp only [↓kept_mk_iff]
    | with_reducible intro _
    | split

theorem State.cutstrkWrite_kept {kk : Keep} (s : State) (m : Word) (kh : Kept kk s) : (State.cutstrkWrite s m).Kept kk := by
  unfold State.cutstrkWrite
  try dsimp only
  repeat' first
    | with_reducible first | assumption | apply State.setReg_kept | apply WRes.kept_ok | exact WRes.kept_refuse | apply kept_ite | intro _
    | split

theorem State.drcfgWrite_kept {kk : Keep} (s : State) (m : Word) (kh : Kept kk s) : (State.drcfgWrite s m).Kept kk := by
  unfold State.drcfgWrite
  try dsimp only
  repeat' first
    | with_reducible first | assumption | apply State.fset_kept | apply State.setReg_kept | apply WRes.kept_ok | apply kept_ite | intro _
    | split

theorem State.ctbaseWrite_kept {kk : Keep} (s : State) (m : Word) (kh : Kept kk s) : (State.ctbaseWrite s m).Kept kk := by
  unfold State.ctbaseWrite
  try dsimp only
  repeat' first
    | with_reducible first | assumption | apply State.setReg_kept | apply WRes.kept_ok
    | simp only [↓kept_mk_iff]
    | with_reducible intro _

theorem State.rcfgWrite_kept {kk : Keep} (s : State) (r : Nat) (m : Word) (kh : Kept kk s) : (State.rcfgWrite s r m).Kept kk := by
  unfold State.rcfgWrite
  try dsimp only
  repeat' first
    | with_reducible first | assumption | apply State.setReg_kept | apply WRes.kept_ok | exact WRes.kept_refuse | apply kept_ite | intro _
    | split

theorem State.rbaseWrite_kept {kk : Keep} (s : State) (r : Nat) (m : Word) (kh : Kept kk s) : (State.rbaseWrite s r m).Kept kk := by
  unfold State.rbaseWrite
  try dsimp only
  repeat' first
    | with_reducible first | assumption | apply State.setReg_kept | apply WRes.kept_ok | exact WRes.kept_refuse | apply kept_ite | intro _
    | split

theorem State.rheadWrite_kept {kk : Keep} (s : State) (r : Nat) (m : Word) (kh : Kept kk s) : (State.rheadWrite s r m).Kept kk := by
  unfold State.rheadWrite
  try dsimp only
  repeat' first
    | with_reducible first | assumption | apply State.hostLost_kept | apply State.setReg_kept | apply WRes.kept_ok | exact WRes.kept_refuse | apply kept_ite | intro _
    | split

theorem State.rtailWrite_kept {kk : Keep} (s : State) (r : Nat) (m : Word) (kh : Kept kk s) : (State.rtailWrite s r m).Kept kk := by
  unfold State.rtailWrite
  try dsimp only
  repeat' first
    | with_reducible first | assumption | apply State.setReg_kept | apply WRes.kept_ok | exact WRes.kept_refuse | apply kept_ite | intro _
    | split

theorem State.flbaseWrite_kept {kk : Keep} (s : State) (t : Nat) (m : Word) (kh : Kept kk s) : (State.flbaseWrite s t m).Kept kk := by
  unfold State.flbaseWrite
  try dsimp only
  repeat' first
    | with_reducible first | assumption | apply State.setReg_kept | apply WRes.kept_ok | exact WRes.kept_refuse | apply kept_ite | intro _
    | split

theorem State.flogcfgWrite_kept {kk : Keep} (s : State) (t : Nat) (m : Word) (kh : Kept kk s) : (State.flogcfgWrite s t m).Kept kk := by
  unfold State.flogcfgWrite
  try dsimp only
  repeat' first
    | with_reducible first | assumption | apply State.setReg_kept | apply WRes.kept_ok | exact WRes.kept_refuse | apply kept_ite | intro _
    | split

theorem State.flptrWrite_kept {kk : Keep} (s : State) (t : Nat) (m : Word) (kh : Kept kk s) : (State.flptrWrite s t m).Kept kk := by
  unfold State.flptrWrite
  try dsimp only
  repeat' first
    | with_reducible first | assumption | apply State.setReg_kept | apply WRes.kept_ok | exact WRes.kept_refuse | apply kept_ite | intro _
    | split

theorem State.lanestatWrite_kept {kk : Keep} (nmem : kk.mem = none) (s : State) (l : Nat) (m : Word) (kh : Kept kk s) : (State.lanestatWrite s l m).Kept kk := by
  unfold State.lanestatWrite
  try dsimp only
  repeat' first
    | with_reducible first | assumption | apply State.laneSkip_kept | apply WRes.kept_ok | apply kept_ite | intro _
    | split

theorem State.enWrite_kept {kk : Keep} (s : State) (k : RegKind) (ok : Nat → Bool) (t i : Nat) (m : Word) (kh : Kept kk s) : (State.enWrite s k ok t i m).Kept kk := by
  unfold State.enWrite
  try dsimp only
  repeat' first
    | with_reducible first | assumption | apply State.setReg_kept | apply WRes.kept_ok | exact WRes.kept_refuse | apply kept_ite | intro _
    | split

theorem State.ownRule_kept {kk : Keep} (nmem : kk.mem = none) (s : State) (who : Sys2Proof.Req) (k : RegKind) (t i : Nat) (v m : Word) (kh : Kept kk s) : (State.ownRule s who k t i v m).Kept kk := by
  unfold State.ownRule
  try dsimp only
  repeat' first
    | with_reducible first | assumption | apply State.enWrite_kept | apply State.lanestatWrite_kept | apply State.flptrWrite_kept | apply State.flogcfgWrite_kept | apply State.flbaseWrite_kept | apply State.rtailWrite_kept | apply State.rheadWrite_kept | apply State.rbaseWrite_kept | apply State.rcfgWrite_kept | apply State.ctbaseWrite_kept | apply State.drcfgWrite_kept | apply State.cutstrkWrite_kept | apply State.cuttakeWrite_kept | apply State.dbgtWrite_kept | apply State.ptstatWrite_kept | apply State.ltmapWrite_kept | apply State.ptpcfgWrite_kept | apply State.epochWrite_kept | apply State.strkcfgWrite_kept | apply State.fabcfgWrite_kept | apply State.rtentWrite_kept | apply State.rtbankWrite_kept | apply State.lkcfgWrite_kept | apply State.siteWrite_kept | apply State.rtctlWrite_kept | apply State.tpwrWrite_kept | apply State.mocmdWrite_kept | apply State.bankpwrWrite_kept | apply State.rdcfgWrite_kept | apply State.rushcfgWrite_kept | apply State.rbcfgWrite_kept | apply State.dsrcWrite_kept | apply State.kwatchWrite_kept | apply State.pendClear_kept | apply State.dswset_kept | apply State.iswset_kept | apply State.tctlWrite_kept | apply State.lkgcfgWrite_kept | apply State.lkcellWrite_kept | apply State.qdbWrite_kept | apply State.qcfgWrite_kept | apply State.qbaseWrite_kept | apply State.laneCfgWrite_kept | apply State.setReg_kept | apply WRes.kept_ok
    | (with_reducible refine WRes.Kept.ok ?_ (by assumption))
    | simp only [↓kept_mk_iff]
    | with_reducible intro _
    | split

theorem State.regWrite_kept {kk : Keep} (nmem : kk.mem = none) (s : State) (who : Sys2Proof.Req) (k : RegKind) (t i : Nat) (v : Word) (kh : Kept kk s) : (State.regWrite s who k t i v).Kept kk := by
  unfold State.regWrite
  try dsimp only
  repeat' first
    | with_reducible first | assumption | apply State.ownRule_kept | apply WRes.kept_ok | exact WRes.kept_refuse
    | (with_reducible refine WRes.Kept.ok ?_ (by assumption))
    | with_reducible first | apply kept_ite | intro _
    | split

theorem noRegister_kept {kk : Keep} (s : State) (v : Word) (kh : Kept kk s) : (noRegister s v).Kept kk := by
  unfold noRegister
  try dsimp only
  repeat' first
    | with_reducible first | assumption | apply WRes.kept_ok | exact WRes.kept_refuse | apply kept_ite | intro _
    | split

theorem State.tregWrite_kept {kk : Keep} (nmem : kk.mem = none) (s : State) (who : Sys2Proof.Req) (t off : Nat) (v : Word) (kh : Kept kk s) : (State.tregWrite s who t off v).Kept kk := by
  unfold State.tregWrite
  try dsimp only
  repeat' first
    | with_reducible first | assumption | apply noRegister_kept | apply State.regWrite_kept | exact WRes.kept_refuse
    | (with_reducible refine WRes.Kept.ok ?_ (by assumption))
    | with_reducible apply kept_ite
    | simp only [↓kept_mk_iff]
    | with_reducible intro _
    | split

theorem State.dregWrite_kept {kk : Keep} (nmem : kk.mem = none) (s : State) (who : Sys2Proof.Req) (off : Nat) (v : Word) (kh : Kept kk s) : (State.dregWrite s who off v).Kept kk := by
  unfold State.dregWrite
  try dsimp only
  repeat' first
    | with_reducible first | assumption | apply noRegister_kept | apply State.regWrite_kept | exact WRes.kept_refuse
    | (with_reducible refine WRes.Kept.ok ?_ (by assumption))
    | with_reducible apply kept_ite
    | simp only [↓kept_mk_iff]
    | with_reducible intro _
    | split

theorem State.ioWrite_kept {kk : Keep} (nmem : kk.mem = none) (s : State) (who : Sys2Proof.Req) (own : Option Nat) (a : Nat) (v : Word) (kh : Kept kk s) : (State.ioWrite s who own a v).Kept kk := by
  unfold State.ioWrite
  try dsimp only
  repeat' first
    | with_reducible first | assumption | apply State.dregWrite_kept | apply State.tregWrite_kept | apply WRes.kept_ok | exact WRes.kept_refuse
    | (with_reducible refine WRes.Kept.ok ?_ (by assumption))
    | simp only [↓kept_mk_iff]
    | with_reducible intro _
    | split

theorem State.told_kept {kk : Keep} (nmem : kk.mem = none) (s : State) (who : Sys2Proof.Req) (addr : Nat) (r : WRes) (kr : r.Kept kk) (kh : Kept kk s) : Kept kk (State.told s who addr r) := by
  unfold State.told
  try dsimp only
  repeat' first
    | with_reducible first | assumption | apply State.event_kept | apply State.trap_kept | apply State.fset_kept
    | (with_reducible refine WRes.Kept.ok (by assumption) rfl)
    | with_reducible apply kept_ite
    | simp only [↓kept_mk_iff]
    | with_reducible intro _
    | split

theorem State.doWrite_kept {kk : Keep} (nmem : kk.mem = none) (s : State) (who : Sys2Proof.Req) (k : RegKind) (t i : Nat) (v : Word) (kh : Kept kk s) : Kept kk (State.doWrite s who k t i v) := by
  unfold State.doWrite
  try dsimp only
  repeat' first
    | with_reducible first | assumption | apply State.told_kept | apply State.regWrite_kept
    | (with_reducible refine WRes.Kept.ok ?_ (by assumption))
    | with_reducible intro _

theorem State.loadCaps_kept {kk : Keep} (s : State) (kh : Kept kk s) : Kept kk (State.loadCaps s) := by
  unfold State.loadCaps
  try dsimp only
  repeat' first
    | with_reducible first | assumption | apply State.fset_kept
    | (with_reducible apply kept_foldl; intro _ _ _)
    | (with_reducible apply kept_foldl_fst; intro _ _ _)
    | (with_reducible apply kept_foldl_snd; intro _ _ _)
    | with_reducible intro _

theorem State.reserve_kept {kk : Keep} (s : State) (d : Ctx) (sign : Bool) (kh : Kept kk s) : Kept kk (State.reserve s d sign) := by
  unfold State.reserve
  try dsimp only
  repeat' first
    | with_reducible first | assumption | apply State.fset_kept
    | (with_reducible apply kept_foldl; intro _ _ _)
    | (with_reducible apply kept_foldl_fst; intro _ _ _)
    | (with_reducible apply kept_foldl_snd; intro _ _ _)
    | with_reducible first | apply kept_ite | intro _
    | split

theorem State.pinCtx_kept {kk : Keep} (s : State) (c : Nat) (d : Ctx) (kh : Kept kk s) : Kept kk (State.pinCtx s c d) := by
  unfold State.pinCtx
  try dsimp only
  repeat' first
    | with_reducible first | assumption | apply State.onTile_kept
    | (with_reducible apply kept_foldl; intro _ _ _)
    | (with_reducible apply kept_foldl_fst; intro _ _ _)
    | (with_reducible apply kept_foldl_snd; intro _ _ _)
    | with_reducible apply kept_ite
    | simp only [↓kept_mk_iff]
    | with_reducible intro _
    | split

theorem State.openList_kept {kk : Keep} (nmem : kk.mem = none) (s : State) (l : List (Nat × Ctx)) (kh : Kept kk s) : Kept kk (State.openList s l) := by
  unfold State.openList
  try dsimp only
  repeat' first
    | with_reducible first | assumption | apply State.pinCtx_kept | apply State.setCtx_kept
    | (with_reducible apply kept_foldl; intro _ _ _)
    | (with_reducible apply kept_foldl_fst; intro _ _ _)
    | (with_reducible apply kept_foldl_snd; intro _ _ _)
    | with_reducible apply kept_ite
    | simp only [↓kept_mk_iff]
    | with_reducible intro _
    | split

theorem State.loadLtres_kept {kk : Keep} (s : State) (lt : Tab Nat Nat) (kh : Kept kk s) : Kept kk (State.loadLtres s lt) := by
  unfold State.loadLtres
  try dsimp only
  repeat' first
    | with_reducible first | assumption | apply State.fset_kept
    | (with_reducible apply kept_foldl; intro _ _ _)
    | (with_reducible apply kept_foldl_fst; intro _ _ _)
    | (with_reducible apply kept_foldl_snd; intro _ _ _)
    | with_reducible intro _

theorem State.loadBounds_kept {kk : Keep} (s : State) (b : CoxBank) (kh : Kept kk s) : Kept kk (State.loadBounds s b) := by
  unfold State.loadBounds
  try dsimp only
  repeat' first
    | with_reducible first | assumption | apply State.fset_kept
    | (with_reducible apply kept_foldl; intro _ _ _)
    | (with_reducible apply kept_foldl_fst; intro _ _ _)
    | (with_reducible apply kept_foldl_snd; intro _ _ _)
    | with_reducible first | apply kept_ite | intro _
    | split

theorem State.copyActive_kept {kk : Keep} (s : State) (kh : Kept kk s) : Kept kk (State.copyActive s) := by
  unfold State.copyActive
  try dsimp only
  repeat' first
    | with_reducible first | assumption | apply State.setShadow_kept
    | (with_reducible apply kept_foldl; intro _ _ _)
    | (with_reducible apply kept_foldl_fst; intro _ _ _)
    | (with_reducible apply kept_foldl_snd; intro _ _ _)
    | with_reducible first | apply kept_ite | intro _
    | split

theorem State.uncopy_kept {kk : Keep} (s old : State) (kold : Kept kk old) (kh : Kept kk s) : Kept kk (State.uncopy s old) := by
  unfold State.uncopy
  try dsimp only
  repeat' first
    | with_reducible first | assumption | apply State.setShadow_kept
    | (with_reducible apply kept_foldl; intro _ _ _)
    | (with_reducible apply kept_foldl_fst; intro _ _ _)
    | (with_reducible apply kept_foldl_snd; intro _ _ _)
    | with_reducible apply kept_ite
    | simp only [↓kept_mk_iff]
    | with_reducible intro _
    | split

theorem State.arming_kept {kk : Keep} (nmem : kk.mem = none) (ndev : kk.dev = none) (s : State) (kh : Kept kk s) : Kept kk (State.arming s).1 := by
  unfold State.arming
  try dsimp only
  repeat' first
    | with_reducible first | assumption | apply State.uncopy_kept | apply State.copyActive_kept | apply State.loadBounds_kept | apply State.loadLtres_kept | apply State.openList_kept | apply State.reserve_kept | apply State.loadCaps_kept | apply State.enter_kept | apply State.setReg_kept
    | (with_reducible apply kept_foldl; intro _ _ _)
    | (with_reducible apply kept_foldl_fst; intro _ _ _)
    | (with_reducible apply kept_foldl_snd; intro _ _ _)
    | simp only [↓kept_mk_iff]
    | with_reducible intro _
    | split

theorem State.returnResv_kept {kk : Keep} (s : State) (kh : Kept kk s) : Kept kk (State.returnResv s) := by
  unfold State.returnResv
  try dsimp only
  repeat' first
    | with_reducible first | assumption | apply State.reserve_kept
    | (with_reducible apply kept_foldl; intro _ _ _)
    | (with_reducible apply kept_foldl_fst; intro _ _ _)
    | (with_reducible apply kept_foldl_snd; intro _ _ _)
    | simp only [↓kept_mk_iff]
    | with_reducible intro _

theorem State.endCut_kept {kk : Keep} (s : State) (kh : Kept kk s) : Kept kk (State.endCut s) := by
  unfold State.endCut
  try dsimp only
  repeat' first
    | with_reducible first | assumption | apply State.fset_kept
    | simp only [↓kept_mk_iff]
    | with_reducible intro _

theorem State.cutMissed_kept {kk : Keep} (s : State) (kh : Kept kk s) : Kept kk (State.cutMissed s) := by
  unfold State.cutMissed
  try dsimp only
  repeat' first
    | with_reducible first | assumption | apply State.endCut_kept | apply State.returnResv_kept | apply State.cutEvent_kept | apply State.fset_kept | intro _

theorem State.cutChecks_kept {kk : Keep} (s : State) (kh : Kept kk s) : Kept kk (State.cutChecks s) := by
  unfold State.cutChecks
  try dsimp only
  repeat' first
    | with_reducible first | assumption | apply State.endCut_kept | apply State.reserve_kept | apply State.cutEvent_kept | apply State.fset_kept | apply State.setReg_kept
    | (with_reducible apply kept_foldl; intro _ _ _)
    | (with_reducible apply kept_foldl_fst; intro _ _ _)
    | (with_reducible apply kept_foldl_snd; intro _ _ _)
    | with_reducible apply kept_ite
    | simp only [↓kept_mk_iff]
    | with_reducible intro _
    | split

theorem execCutChecksComplete_kept {kk : Keep} (dt : Nat) (s : State) (kh : Kept kk s) : OutKept kk (execCutChecksComplete dt s) := by
  unfold execCutChecksComplete
  try dsimp only
  repeat' first
    | with_reducible first | assumption | apply State.cutChecks_kept | apply State.advance_kept | apply outKept_next | intro _

theorem State.cutSample_kept {kk : Keep} (s : State) (kh : Kept kk s) : Kept kk (State.cutSample s) := by
  unfold State.cutSample
  try dsimp only
  repeat' first
    | with_reducible first | assumption | apply State.cutMissed_kept | apply kept_ite
    | simp only [↓kept_mk_iff]
    | with_reducible intro _
    | split

theorem execCutSample_kept {kk : Keep} (dt : Nat) (s : State) (kh : Kept kk s) : OutKept kk (execCutSample dt s) := by
  unfold execCutSample
  try dsimp only
  repeat' first
    | with_reducible first | assumption | apply State.cutSample_kept | apply State.advance_kept | apply outKept_next | intro _

theorem State.armCut_kept {kk : Keep} (s : State) (stroke : Nat) (byRun : Bool) (kh : Kept kk s) : ExKept kk (State.armCut s stroke byRun) := by
  unfold State.armCut
  try dsimp only
  repeat' first
    | with_reducible first | assumption | apply State.fset_kept | exact exKept_error | apply exKept_ok | apply kept_ite
    | simp only [↓kept_mk_iff]
    | with_reducible intro _
    | split

end Sys2Proof.Machine
end

