-- ==== Sys2Proof/Laws/KeptStrand.lean ====
section
/-! SUPPORT. What the model keeps (Kept.lean): the meanings of instructions and nodes, and the scheduler. One lemma for each operation: memory, graph memory and the device state are kept unless the lemma asks that they need not be. -/
namespace Sys2Proof.Machine

theorem State.tarxInt_kept {kk : Keep} (s : State) (c n : Nat) (o : Ins) (kh : Kept kk s) : Kept kk (State.tarxInt s c n o) := by
  unfold State.tarxInt
  try dsimp only
  repeat' first
    | with_reducible first | assumption | apply State.setReg_kept | intro _

theorem xInt_kept {kk : Keep} (nmem : kk.mem = none) (s : State) (c n : Nat) (o : Ins) (kh : Kept kk s) : (xInt s c n o).Kept kk := by
  unfold xInt
  try dsimp only
  repeat' first
    | with_reducible first | assumption | apply State.tarxInt_kept | apply State.trap_kept | apply State.setThr_kept | apply XRes.kept_done | apply XRes.kept_trap | apply kept_ite
    | simp only [↓kept_mk_iff]
    | with_reducible intro _
    | split

theorem xSetc_kept {kk : Keep} (nmem : kk.mem = none) (s : State) (c n : Nat) (o : Ins) (kh : Kept kk s) : (xSetc s c n o).Kept kk := by
  unfold xSetc
  try dsimp only
  repeat' first
    | with_reducible first | assumption | apply State.trap_kept | apply State.setThr_kept | apply XRes.kept_done | apply XRes.kept_trap | apply kept_ite | intro _
    | split

theorem xMulAcc_kept {kk : Keep} (s : State) (c n : Nat) (o : Ins) (kh : Kept kk s) : (xMulAcc s c n o).Kept kk := by
  unfold xMulAcc
  try dsimp only
  repeat' first
    | with_reducible first | assumption | apply State.setThr_kept | apply XRes.kept_done | apply kept_ite
    | simp only [↓kept_mk_iff]
    | with_reducible intro _
    | split

theorem xProd_kept {kk : Keep} (s : State) (c n : Nat) (o : Ins) (kh : Kept kk s) : (xProd s c n o).Kept kk := by
  unfold xProd
  try dsimp only
  repeat' first
    | with_reducible first | assumption | apply State.setThr_kept | apply XRes.kept_done
    | simp only [↓kept_mk_iff]
    | with_reducible intro _
    | split

theorem xDset_kept {kk : Keep} (nmem : kk.mem = none) (s : State) (c n : Nat) (o : Ins) (kh : Kept kk s) : (xDset s c n o).Kept kk := by
  unfold xDset
  try dsimp only
  repeat' first
    | with_reducible first | assumption | apply State.tarxInt_kept | apply State.trap_kept | apply State.setThr_kept | apply XRes.kept_done | apply XRes.kept_trap | apply kept_ite
    | simp only [↓kept_mk_iff]
    | with_reducible intro _
    | split

theorem xDstep_kept {kk : Keep} (s : State) (c n : Nat) (o : Ins) (kh : Kept kk s) : (xDstep s c n o).Kept kk := by
  unfold xDstep
  try dsimp only
  repeat' first
    | with_reducible first | assumption | apply State.setThr_kept | apply XRes.kept_done
    | simp only [↓kept_mk_iff]
    | with_reducible intro _

theorem xDfin_kept {kk : Keep} (s : State) (c n : Nat) (o : Ins) (kh : Kept kk s) : (xDfin s c n o).Kept kk := by
  unfold xDfin
  try dsimp only
  repeat' first
    | with_reducible first | assumption | apply State.setThr_kept | apply XRes.kept_done | apply kept_ite | intro _
    | split

theorem State.tarxFp_kept {kk : Keep} (s : State) (c n : Nat) (o : Ins) (raised rm : Nat) (kh : Kept kk s) : Kept kk (State.tarxFp s c n o raised rm) := by
  unfold State.tarxFp
  try dsimp only
  repeat' first
    | with_reducible first | assumption | apply State.setReg_kept | intro _

theorem xFp_kept {kk : Keep} (nmem : kk.mem = none) (s : State) (c n : Nat) (o : Ins) (kh : Kept kk s) : (xFp s c n o).Kept kk := by
  unfold xFp
  try dsimp only
  repeat' first
    | with_reducible first | assumption | apply State.tarxFp_kept | apply State.trap_kept | apply State.setThr_kept | apply XRes.kept_done | apply XRes.kept_trap | apply kept_ite
    | simp only [↓kept_mk_iff]
    | with_reducible intro _
    | split

theorem xCrc_kept {kk : Keep} (s : State) (c n : Nat) (o : Ins) (kh : Kept kk s) : (xCrc s c n o).Kept kk := by
  unfold xCrc
  try dsimp only
  repeat' first
    | with_reducible first | assumption | apply State.setThr_kept | apply XRes.kept_done | intro _

theorem xBit_kept {kk : Keep} (s : State) (c n : Nat) (o : Ins) (kh : Kept kk s) : (xBit s c n o).Kept kk := by
  unfold xBit
  try dsimp only
  repeat' first
    | with_reducible first | assumption | apply State.setThr_kept | apply XRes.kept_done | intro _

theorem xMisr_kept {kk : Keep} (s : State) (c n : Nat) (o : Ins) (kh : Kept kk s) : (xMisr s c n o).Kept kk := by
  unfold xMisr
  try dsimp only
  repeat' first
    | with_reducible first | assumption | apply State.setThr_kept | apply XRes.kept_done | apply kept_ite | intro _
    | split

theorem xCustom_kept {kk : Keep} (s : State) (c n : Nat) (o : Ins) (kh : Kept kk s) : (xCustom s c n o).Kept kk := by
  unfold xCustom
  try dsimp only
  repeat' first
    | with_reducible first | assumption | apply State.setThr_kept | apply XRes.kept_done
    | simp only [↓kept_mk_iff]
    | with_reducible intro _
    | split

theorem xPattern_kept {kk : Keep} (nmem : kk.mem = none) (s : State) (c n : Nat) (o : Ins) (kh : Kept kk s) : (xPattern s c n o).Kept kk := by
  unfold xPattern
  try dsimp only
  repeat' first
    | with_reducible first | assumption | apply State.trap_kept | apply State.setThr_kept | apply XRes.kept_done | apply XRes.kept_trap | apply kept_ite | intro _
    | split

theorem xFacc_kept {kk : Keep} (nmem : kk.mem = none) (s : State) (c n : Nat) (o : Ins) (kh : Kept kk s) : (xFacc s c n o).Kept kk := by
  unfold xFacc
  try dsimp only
  repeat' first
    | with_reducible first | assumption | apply State.facc_kept | apply State.trap_kept | apply State.setThr_kept | apply XRes.kept_done | apply XRes.kept_trap
    | (with_reducible refine kept_of_snd ?_ (by assumption))
    | simp only [↓kept_mk_iff]
    | with_reducible intro _
    | split

theorem xFlog_kept {kk : Keep} (nmem : kk.mem = none) (s : State) (c n : Nat) (o : Ins) (kh : Kept kk s) : (xFlog s c n o).Kept kk := by
  unfold xFlog
  try dsimp only
  repeat' first
    | with_reducible first | assumption | apply State.flog_kept | apply State.trap_kept | apply State.setThr_kept | apply XRes.kept_done | apply XRes.kept_trap
    | (with_reducible refine kept_of_snd ?_ (by assumption))
    | with_reducible first | apply kept_ite | intro _
    | split

theorem xVrdt_kept {kk : Keep} (nmem : kk.mem = none) (s : State) (c n : Nat) (o : Ins) (kh : Kept kk s) : (xVrdt s c n o).Kept kk := by
  unfold xVrdt
  try dsimp only
  repeat' first
    | with_reducible first | assumption | apply State.sendVerdict_kept | apply State.trap_kept | apply XRes.kept_done | apply XRes.kept_trap | apply XRes.kept_retry | apply kept_ite | intro _
    | split

theorem State.startLoad_kept {kk : Keep} (nmem : kk.mem = none) (s : State) (c n : Nat) (o : Ins) (pre x : Thread) (a size : Nat) (ext : Ext) (d : Dest) (op : MemOp) (data : Nat) (kh : Kept kk s) : (State.startLoad s c n o pre x a size ext d op data).Kept kk := by
  unfold State.startLoad
  try dsimp only
  repeat' first
    | with_reducible first | assumption | apply State.startReq_kept | apply State.trap_kept | apply State.bump_kept | apply State.setThr_kept | apply XRes.kept_done | apply XRes.kept_trap | exact XRes.kept_stall
    | (with_reducible refine Route.Kept.sent ?_ (by assumption))
    | with_reducible apply kept_ite
    | simp only [↓kept_mk_iff]
    | with_reducible intro _
    | split

theorem State.startIoLoad_kept {kk : Keep} (nmem : kk.mem = none) (s : State) (c n : Nat) (o : Ins) (pre x : Thread) (a size : Nat) (ext : Ext) (d : Dest) (kh : Kept kk s) : (State.startIoLoad s c n o pre x a size ext d).Kept kk := by
  unfold State.startIoLoad
  try dsimp only
  repeat' first
    | with_reducible first | assumption | apply State.ioLoad_kept | apply State.trap_kept | apply State.bump_kept | apply State.setThr_kept | apply XRes.kept_done | apply XRes.kept_trap
    | (with_reducible refine ExKept2.get ?_ (by assumption))
    | simp only [↓kept_mk_iff]
    | with_reducible intro _
    | split

theorem xLoad_kept {kk : Keep} (nmem : kk.mem = none) (s : State) (c n : Nat) (o : Ins) (kh : Kept kk s) : (xLoad s c n o).Kept kk := by
  unfold xLoad
  try dsimp only
  repeat' first
    | with_reducible first | assumption | apply State.startIoLoad_kept | apply State.startLoad_kept | apply State.trap_kept | apply XRes.kept_trap
    | (with_reducible refine XRes.Kept.done ?_ (by assumption))
    | (with_reducible refine XRes.Kept.jump ?_ (by assumption))
    | (with_reducible refine XRes.Kept.next ?_ (by assumption))
    | (with_reducible refine XRes.Kept.trap ?_ (by assumption))
    | (with_reducible refine XRes.Kept.wait ?_ (by assumption))
    | (with_reducible refine XRes.Kept.retry ?_ (by assumption))
    | (with_reducible refine XRes.Kept.ended ?_ (by assumption))
    | with_reducible apply kept_ite
    | simp only [↓kept_mk_iff]
    | with_reducible intro _
    | split

theorem xStore_kept {kk : Keep} (nmem : kk.mem = none) (s : State) (c n : Nat) (o : Ins) (kh : Kept kk s) : (xStore s c n o).Kept kk := by
  unfold xStore
  try dsimp only
  repeat' first
    | with_reducible first | assumption | apply State.ioWrite_kept | apply State.startReq_kept | apply State.noteFault_kept | apply State.trap_kept | apply State.bump_kept | apply State.setThr_kept | apply XRes.kept_done | apply XRes.kept_trap | exact XRes.kept_stall
    | (with_reducible refine Route.Kept.sent ?_ (by assumption))
    | (with_reducible refine WRes.Kept.ok ?_ (by assumption))
    | with_reducible apply kept_ite
    | simp only [↓kept_mk_iff]
    | with_reducible intro _
    | split

theorem xAtomic_kept {kk : Keep} (nmem : kk.mem = none) (s : State) (c n : Nat) (o : Ins) (kh : Kept kk s) : (xAtomic s c n o).Kept kk := by
  unfold xAtomic
  try dsimp only
  repeat' first
    | with_reducible first | assumption | apply State.startLoad_kept | apply State.trap_kept | apply XRes.kept_trap
    | (with_reducible refine XRes.Kept.done ?_ (by assumption))
    | (with_reducible refine XRes.Kept.jump ?_ (by assumption))
    | (with_reducible refine XRes.Kept.next ?_ (by assumption))
    | (with_reducible refine XRes.Kept.trap ?_ (by assumption))
    | (with_reducible refine XRes.Kept.wait ?_ (by assumption))
    | (with_reducible refine XRes.Kept.retry ?_ (by assumption))
    | (with_reducible refine XRes.Kept.ended ?_ (by assumption))
    | with_reducible apply kept_ite
    | simp only [↓kept_mk_iff]
    | with_reducible intro _
    | split

theorem xDma_kept {kk : Keep} (nmem : kk.mem = none) (s : State) (c n : Nat) (o : Ins) (kh : Kept kk s) : (xDma s c n o).Kept kk := by
  unfold xDma
  try dsimp only
  repeat' first
    | with_reducible first | assumption | apply State.trap_kept | apply State.bump_kept | apply State.onTile_kept | apply XRes.kept_done | apply XRes.kept_trap | apply XRes.kept_retry | apply kept_ite
    | simp only [↓kept_mk_iff]
    | with_reducible intro _
    | split

theorem xLea_kept {kk : Keep} (nmem : kk.mem = none) (s : State) (c n : Nat) (o : Ins) (kh : Kept kk s) : (xLea s c n o).Kept kk := by
  unfold xLea
  try dsimp only
  repeat' first
    | with_reducible first | assumption | apply State.trap_kept | apply State.setThr_kept | apply XRes.kept_done | apply XRes.kept_trap | apply kept_ite | intro _
    | split

theorem xGo_kept {kk : Keep} (nmem : kk.mem = none) (s : State) (z : Int) (kh : Kept kk s) : (xGo s z).Kept kk := by
  unfold xGo
  try dsimp only
  repeat' first
    | with_reducible first | assumption | apply State.trap_kept | apply XRes.kept_jump | apply XRes.kept_trap | apply kept_ite | intro _
    | split

theorem xB_kept {kk : Keep} (nmem : kk.mem = none) (s : State) (c n : Nat) (o : Ins) (kh : Kept kk s) : (xB s c n o).Kept kk := by
  unfold xB
  try dsimp only
  repeat' first
    | with_reducible first | assumption | apply xGo_kept | apply State.trap_kept | apply XRes.kept_done | apply XRes.kept_trap
    | (with_reducible refine XRes.Kept.done ?_ (by assumption))
    | (with_reducible refine XRes.Kept.jump ?_ (by assumption))
    | (with_reducible refine XRes.Kept.next ?_ (by assumption))
    | (with_reducible refine XRes.Kept.trap ?_ (by assumption))
    | (with_reducible refine XRes.Kept.wait ?_ (by assumption))
    | (with_reducible refine XRes.Kept.retry ?_ (by assumption))
    | (with_reducible refine XRes.Kept.ended ?_ (by assumption))
    | with_reducible first | apply kept_ite | intro _
    | split

theorem xCb_kept {kk : Keep} (nmem : kk.mem = none) (s : State) (c n : Nat) (o : Ins) (kh : Kept kk s) : (xCb s c n o).Kept kk := by
  unfold xCb
  try dsimp only
  repeat' first
    | with_reducible first | assumption | apply xGo_kept | apply State.trap_kept | apply XRes.kept_done | apply XRes.kept_trap
    | (with_reducible refine XRes.Kept.done ?_ (by assumption))
    | (with_reducible refine XRes.Kept.jump ?_ (by assumption))
    | (with_reducible refine XRes.Kept.next ?_ (by assumption))
    | (with_reducible refine XRes.Kept.trap ?_ (by assumption))
    | (with_reducible refine XRes.Kept.wait ?_ (by assumption))
    | (with_reducible refine XRes.Kept.retry ?_ (by assumption))
    | (with_reducible refine XRes.Kept.ended ?_ (by assumption))
    | with_reducible first | apply kept_ite | intro _
    | split

theorem xJal_kept {kk : Keep} (nmem : kk.mem = none) (s : State) (c n : Nat) (o : Ins) (kh : Kept kk s) : (xJal s c n o).Kept kk := by
  unfold xJal
  try dsimp only
  repeat' first
    | with_reducible first | assumption | apply State.trap_kept | apply State.onThr_kept | apply XRes.kept_jump | apply XRes.kept_trap | apply kept_ite | intro _
    | split

theorem xJr_kept {kk : Keep} (nmem : kk.mem = none) (s : State) (c n : Nat) (o : Ins) (kh : Kept kk s) : (xJr s c n o).Kept kk := by
  unfold xJr
  try dsimp only
  repeat' first
    | with_reducible first | assumption | apply State.trap_kept | apply XRes.kept_jump | apply XRes.kept_trap | apply kept_ite | intro _
    | split

theorem xLoop_kept {kk : Keep} (nmem : kk.mem = none) (s : State) (c n : Nat) (o : Ins) (kh : Kept kk s) : (xLoop s c n o).Kept kk := by
  unfold xLoop
  try dsimp only
  repeat' first
    | with_reducible first | assumption | apply State.trap_kept | apply State.setThr_kept | apply XRes.kept_done | apply XRes.kept_next | apply XRes.kept_trap | apply kept_ite
    | simp only [↓kept_mk_iff]
    | with_reducible intro _
    | split

theorem xFork_kept {kk : Keep} (nmem : kk.mem = none) (s : State) (c n : Nat) (o : Ins) (kh : Kept kk s) : (xFork s c n o).Kept kk := by
  unfold xFork
  try dsimp only
  repeat' first
    | with_reducible first | assumption | apply State.forkChild_kept | apply State.trap_kept | apply State.onThr_kept | apply State.setThr_kept | apply State.inc_kept | apply XRes.kept_done | apply XRes.kept_trap | apply XRes.kept_wait | apply kept_ite
    | simp only [↓kept_mk_iff]
    | with_reducible intro _
    | split

theorem xJoin_kept {kk : Keep} (nmem : kk.mem = none) (s : State) (c n : Nat) (_o : Ins) (kh : Kept kk s) : (xJoin s c n _o).Kept kk := by
  unfold xJoin
  try dsimp only
  repeat' first
    | with_reducible first | assumption | apply State.endThread_kept | apply XRes.kept_wait | apply XRes.kept_ended | apply kept_ite | intro _
    | split

theorem xExit_kept {kk : Keep} (nmem : kk.mem = none) (s : State) (c n : Nat) (_o : Ins) (kh : Kept kk s) : (xExit s c n _o).Kept kk := by
  unfold xExit
  try dsimp only
  repeat' first
    | with_reducible first | assumption | apply State.endThread_kept | apply XRes.kept_ended | intro _

theorem Inj.res_kept {kk : Keep} (i : Inj) (g : State → State)
    (hg : ∀ s, Machine.Kept kk s → Machine.Kept kk (g s)) (ki : i.Kept kk) : (Inj.res i g).Kept kk := by
  unfold Inj.res
  split
  · exact hg _ ki
  · exact hg _ ki
  · exact XRes.kept_stall

theorem xEmit_kept {kk : Keep} (nmem : kk.mem = none) (s : State) (c n : Nat) (o : Ins) (kh : Kept kk s) : (xEmit s c n o).Kept kk := by
  unfold xEmit
  try dsimp only
  repeat' first
    | with_reducible first | assumption | apply Inj.res_kept | apply State.laneAlloc_kept | apply Room.res_kept | apply State.sendTok_kept | apply State.trap_kept | apply State.onThr_kept | apply XRes.kept_trap | apply XRes.kept_wait
    | (with_reducible refine Inj.Kept.sent ?_ (by assumption))
    | (with_reducible refine Inj.Kept.fenced ?_ (by assumption))
    | (with_reducible refine LRes.Kept.done ?_ (by assumption))
    | (with_reducible refine LRes.Kept.stall ?_ (by assumption))
    | (with_reducible refine LRes.Kept.full ?_ (by assumption))
    | (with_reducible refine AllocRes.Kept.num ?_ (by assumption))
    | (with_reducible refine XRes.Kept.done ?_ (by assumption))
    | (with_reducible refine XRes.Kept.jump ?_ (by assumption))
    | (with_reducible refine XRes.Kept.next ?_ (by assumption))
    | (with_reducible refine XRes.Kept.trap ?_ (by assumption))
    | (with_reducible refine XRes.Kept.wait ?_ (by assumption))
    | (with_reducible refine XRes.Kept.retry ?_ (by assumption))
    | (with_reducible refine XRes.Kept.ended ?_ (by assumption))
    | with_reducible apply kept_ite
    | simp only [↓kept_mk_iff]
    | with_reducible intro _
    | split

theorem xAlloc_kept {kk : Keep} (nmem : kk.mem = none) (s : State) (c n : Nat) (o : Ins) (kh : Kept kk s) : (xAlloc s c n o).Kept kk := by
  unfold xAlloc
  try dsimp only
  repeat' first
    | with_reducible first | assumption | apply State.laneAlloc_kept | apply State.trap_kept | apply State.onThr_kept | apply XRes.kept_done | apply XRes.kept_trap | apply XRes.kept_wait
    | (with_reducible refine AllocRes.Kept.num ?_ (by assumption))
    | with_reducible apply kept_ite
    | simp only [↓kept_mk_iff]
    | with_reducible intro _
    | split

theorem xQpush_kept {kk : Keep} (nmem : kk.mem = none) (s : State) (c n : Nat) (o : Ins) (kh : Kept kk s) : (xQpush s c n o).Kept kk := by
  unfold xQpush
  try dsimp only
  repeat' first
    | with_reducible first | assumption | apply Inj.res_kept | apply Room.res_kept | apply State.inject_kept | apply State.trap_kept | apply State.qPut_kept | apply XRes.kept_done | apply XRes.kept_trap | apply XRes.kept_wait
    | (with_reducible refine Inj.Kept.sent ?_ (by assumption))
    | (with_reducible refine Inj.Kept.fenced ?_ (by assumption))
    | (with_reducible refine LRes.Kept.done ?_ (by assumption))
    | (with_reducible refine LRes.Kept.stall ?_ (by assumption))
    | (with_reducible refine LRes.Kept.full ?_ (by assumption))
    | (with_reducible refine XRes.Kept.done ?_ (by assumption))
    | (with_reducible refine XRes.Kept.jump ?_ (by assumption))
    | (with_reducible refine XRes.Kept.next ?_ (by assumption))
    | (with_reducible refine XRes.Kept.trap ?_ (by assumption))
    | (with_reducible refine XRes.Kept.wait ?_ (by assumption))
    | (with_reducible refine XRes.Kept.retry ?_ (by assumption))
    | (with_reducible refine XRes.Kept.ended ?_ (by assumption))
    | with_reducible first | apply kept_ite | apply kept_id
    | simp only [↓kept_mk_iff]
    | with_reducible intro _
    | split

theorem State.popLoad_kept {kk : Keep} (s : State) (c n : Nat) (o : Ins) (pre x : Thread) (k : Token) (kh : Kept kk s) : Kept kk (State.popLoad s c n o pre x k) := by
  unfold State.popLoad
  try dsimp only
  repeat' first
    | with_reducible first | assumption | apply State.bump_kept | apply State.setThr_kept
    | simp only [↓kept_mk_iff]
    | with_reducible intro _

theorem xQpop_kept {kk : Keep} (nmem : kk.mem = none) (s : State) (c n : Nat) (o : Ins) (kh : Kept kk s) : (xQpop s c n o).Kept kk := by
  unfold xQpop
  try dsimp only
  repeat' first
    | with_reducible first | assumption | apply State.popLoad_kept | apply State.threadPop_kept | apply State.trap_kept | apply XRes.kept_done | apply XRes.kept_trap | apply XRes.kept_wait
    | (with_reducible refine kept_of_snd ?_ (by assumption))
    | with_reducible apply kept_ite
    | simp only [↓kept_mk_iff]
    | with_reducible intro _
    | split

theorem State.sendChan_kept {kk : Keep} (nmem : kk.mem = none) (s : State) (c n t q : Nat) (commit : Bool) (k : Token) (kh : Kept kk s) : (State.sendChan s c n t q commit k).Kept kk := by
  unfold State.sendChan
  try dsimp only
  repeat' first
    | with_reducible first | assumption | apply State.inject_kept | apply State.trap_kept | apply XRes.kept_trap | apply XRes.kept_wait | exact XRes.kept_stall
    | (with_reducible refine Inj.Kept.sent ?_ (by assumption))
    | (with_reducible refine Inj.Kept.fenced ?_ (by assumption))
    | with_reducible apply kept_ite
    | simp only [↓kept_mk_iff]
    | with_reducible intro _
    | split

theorem xChw_kept {kk : Keep} (nmem : kk.mem = none) (s : State) (c n : Nat) (o : Ins) (kh : Kept kk s) : (xChw s c n o).Kept kk := by
  unfold xChw
  try dsimp only
  repeat' first
    | with_reducible first | assumption | apply State.sendChan_kept | apply State.chanWrite_kept | apply State.trap_kept | apply State.onThr_kept | apply XRes.kept_done | apply XRes.kept_trap | apply XRes.kept_wait
    | (with_reducible refine QRes.Kept.done ?_ (by assumption))
    | (with_reducible refine QRes.Kept.wait ?_ (by assumption))
    | (with_reducible refine QRes.Kept.fails ?_ (by assumption))
    | (with_reducible refine XRes.Kept.done ?_ (by assumption))
    | (with_reducible refine XRes.Kept.jump ?_ (by assumption))
    | (with_reducible refine XRes.Kept.next ?_ (by assumption))
    | (with_reducible refine XRes.Kept.trap ?_ (by assumption))
    | (with_reducible refine XRes.Kept.wait ?_ (by assumption))
    | (with_reducible refine XRes.Kept.retry ?_ (by assumption))
    | (with_reducible refine XRes.Kept.ended ?_ (by assumption))
    | with_reducible apply kept_ite
    | simp only [↓kept_mk_iff]
    | with_reducible intro _
    | split

theorem xChc_kept {kk : Keep} (nmem : kk.mem = none) (s : State) (c n : Nat) (o : Ins) (kh : Kept kk s) : (xChc s c n o).Kept kk := by
  unfold xChc
  try dsimp only
  repeat' first
    | with_reducible first | assumption | apply State.sendChan_kept | apply State.chanCommit_kept | apply State.trap_kept | apply XRes.kept_done | apply XRes.kept_trap | apply XRes.kept_wait
    | (with_reducible refine QRes.Kept.done ?_ (by assumption))
    | (with_reducible refine QRes.Kept.wait ?_ (by assumption))
    | (with_reducible refine QRes.Kept.fails ?_ (by assumption))
    | (with_reducible refine XRes.Kept.done ?_ (by assumption))
    | (with_reducible refine XRes.Kept.jump ?_ (by assumption))
    | (with_reducible refine XRes.Kept.next ?_ (by assumption))
    | (with_reducible refine XRes.Kept.trap ?_ (by assumption))
    | (with_reducible refine XRes.Kept.wait ?_ (by assumption))
    | (with_reducible refine XRes.Kept.retry ?_ (by assumption))
    | (with_reducible refine XRes.Kept.ended ?_ (by assumption))
    | with_reducible apply kept_ite
    | simp only [↓kept_mk_iff]
    | with_reducible intro _
    | split

theorem State.armTimer_kept {kk : Keep} (s : State) (c delay : Nat) (w : TimerFor) (kh : Kept kk s) : OptKept2 kk (State.armTimer s c delay w) := by
  unfold State.armTimer
  try dsimp only
  repeat' first
    | with_reducible first | assumption | apply State.bump_kept | apply State.setTile_kept | exact optKept2_none | apply optKept2_some
    | simp only [↓kept_mk_iff]
    | with_reducible intro _
    | split

theorem xTmr_kept {kk : Keep} (s : State) (c n : Nat) (o : Ins) (kh : Kept kk s) : (xTmr s c n o).Kept kk := by
  unfold xTmr
  generalize 2 ^ 32 = lim
  dsimp only
  split
  · exact XRes.kept_trap kh
  · split
    · exact XRes.kept_trap kh
    · split
      · exact XRes.kept_retry kh
      · rename_i h t e
        have kt : Kept kk t := OptKept2.get (State.armTimer_kept s c _ _ kh) e
        split
        · exact XRes.kept_done (State.onThr_kept _ _ _ _ kt)
        · exact XRes.kept_wait kt

theorem State.cancelTimer_kept {kk : Keep} (s : State) (c h : Nat) (kh : Kept kk s) : Kept kk (State.cancelTimer s c h).2 := by
  unfold State.cancelTimer
  try dsimp only
  repeat' first
    | with_reducible first | assumption | apply State.dropTasks_kept | apply State.setTile_kept | apply State.inc_kept | apply kept_ite
    | simp only [↓kept_mk_iff]
    | with_reducible intro _
    | split

theorem xTcan_kept {kk : Keep} (nmem : kk.mem = none) (s : State) (c n : Nat) (o : Ins) (kh : Kept kk s) : (xTcan s c n o).Kept kk := by
  unfold xTcan
  try dsimp only
  repeat' first
    | with_reducible first | assumption | apply State.cancelTimer_kept | apply State.trap_kept | apply State.onThr_kept | apply XRes.kept_done | apply XRes.kept_trap
    | (with_reducible refine kept_of_snd ?_ (by assumption))
    | with_reducible first | apply kept_ite | intro _
    | split

theorem xFence_kept {kk : Keep} (nmem : kk.mem = none) (s : State) (_c _n : Nat) (o : Ins) (kh : Kept kk s) : (xFence s _c _n o).Kept kk := by
  unfold xFence
  try dsimp only
  repeat' first
    | with_reducible first | assumption | apply State.trap_kept | apply XRes.kept_done | apply XRes.kept_trap | apply kept_ite | intro _
    | split

theorem State.sendLock_kept {kk : Keep} (s : State) (c n lk : Nat) (op : LockOp) (kh : Kept kk s) : (State.sendLock s c n lk op).Kept kk := by
  unfold State.sendLock
  try dsimp only
  repeat' first
    | with_reducible first | assumption | apply State.bump_kept | apply State.onTile_kept | apply XRes.kept_retry
    | simp only [↓kept_mk_iff]
    | with_reducible intro _

theorem xLock_kept {kk : Keep} (s : State) (c n : Nat) (o : Ins) (kh : Kept kk s) : (xLock s c n o).Kept kk := by
  unfold xLock
  try dsimp only
  repeat' first
    | with_reducible first | assumption | apply State.sendLock_kept
    | (with_reducible refine XRes.Kept.done ?_ (by assumption))
    | (with_reducible refine XRes.Kept.jump ?_ (by assumption))
    | (with_reducible refine XRes.Kept.next ?_ (by assumption))
    | (with_reducible refine XRes.Kept.trap ?_ (by assumption))
    | (with_reducible refine XRes.Kept.wait ?_ (by assumption))
    | (with_reducible refine XRes.Kept.retry ?_ (by assumption))
    | (with_reducible refine XRes.Kept.ended ?_ (by assumption))
    | simp only [↓kept_mk_iff]
    | with_reducible intro _
    | split

theorem xLkcas_kept {kk : Keep} (s : State) (c n : Nat) (o : Ins) (kh : Kept kk s) : (xLkcas s c n o).Kept kk := by
  unfold xLkcas
  try dsimp only
  repeat' first
    | with_reducible first | assumption | apply State.sendLock_kept
    | (with_reducible refine XRes.Kept.done ?_ (by assumption))
    | (with_reducible refine XRes.Kept.jump ?_ (by assumption))
    | (with_reducible refine XRes.Kept.next ?_ (by assumption))
    | (with_reducible refine XRes.Kept.trap ?_ (by assumption))
    | (with_reducible refine XRes.Kept.wait ?_ (by assumption))
    | (with_reducible refine XRes.Kept.retry ?_ (by assumption))
    | (with_reducible refine XRes.Kept.ended ?_ (by assumption))
    | with_reducible intro _

theorem xWfe_kept {kk : Keep} (s : State) (c n : Nat) (o : Ins) (kh : Kept kk s) : (xWfe s c n o).Kept kk := by
  unfold xWfe
  try dsimp only
  repeat' first
    | with_reducible first | assumption | apply State.onThr_kept | apply State.setReg_kept | apply XRes.kept_done | apply XRes.kept_wait | apply kept_ite | intro _
    | split

theorem xSev_kept {kk : Keep} (nmem : kk.mem = none) (s : State) (c n : Nat) (o : Ins) (kh : Kept kk s) : (xSev s c n o).Kept kk := by
  unfold xSev
  try dsimp only
  repeat' first
    | with_reducible first | assumption | apply State.trap_kept | apply State.post_kept | apply XRes.kept_done | apply XRes.kept_trap | apply kept_ite | intro _
    | split

theorem xMfsr_kept {kk : Keep} (nmem : kk.mem = none) (s : State) (c n : Nat) (o : Ins) (kh : Kept kk s) : (xMfsr s c n o).Kept kk := by
  unfold xMfsr
  try dsimp only
  repeat' first
    | with_reducible first | assumption | apply State.trap_kept | apply State.onThr_kept | apply XRes.kept_done | apply XRes.kept_trap | apply kept_ite
    | simp only [↓kept_mk_iff]
    | with_reducible intro _
    | split

theorem xMtsr_kept {kk : Keep} (nmem : kk.mem = none) (s : State) (c n : Nat) (o : Ins) (kh : Kept kk s) : (xMtsr s c n o).Kept kk := by
  unfold xMtsr
  try dsimp only
  repeat' first
    | with_reducible first | assumption | apply State.trap_kept | apply State.setThr_kept | apply XRes.kept_done | apply XRes.kept_trap | apply kept_ite
    | simp only [↓kept_mk_iff]
    | with_reducible intro _
    | split

theorem xReth_kept {kk : Keep} (nmem : kk.mem = none) (s : State) (c n : Nat) (o : Ins) (kh : Kept kk s) : (xReth s c n o).Kept kk := by
  unfold xReth
  try dsimp only
  repeat' first
    | with_reducible first | assumption | apply State.trap_kept | apply State.onThr_kept | apply XRes.kept_next | apply XRes.kept_trap | apply kept_ite | intro _
    | split

theorem xNop_kept {kk : Keep} (s : State) (_c _n : Nat) (_o : Ins) (kh : Kept kk s) : (xNop s _c _n _o).Kept kk := by
  unfold xNop
  try dsimp only
  repeat' first
    | with_reducible first | assumption | apply XRes.kept_done | intro _

theorem xLow_kept {kk : Keep} (nmem : kk.mem = none) (op : Nat) (s : State) (c n : Nat) (o : Ins) (kh : Kept kk s) : (xLow op s c n o).Kept kk := by
  unfold xLow
  repeat' first
    | with_reducible first | assumption | apply xSetc_kept | apply xInt_kept | apply xMulAcc_kept | apply xProd_kept | apply xDset_kept | apply xDstep_kept | apply xDfin_kept | apply xLoad_kept | apply xStore_kept | apply xAtomic_kept | apply xDma_kept | apply xLea_kept | apply xB_kept | apply xCb_kept | apply xJal_kept | apply xJr_kept | apply xLoop_kept | apply xFork_kept | apply xJoin_kept | apply xExit_kept | apply XRes.kept_fn_ite
    | split

theorem xHigh_kept {kk : Keep} (nmem : kk.mem = none) (op : Nat) (s : State) (c n : Nat) (o : Ins) (kh : Kept kk s) : (xHigh op s c n o).Kept kk := by
  unfold xHigh
  repeat' first
    | with_reducible first | assumption | apply xFp_kept | apply xCrc_kept | apply xBit_kept | apply xMisr_kept | apply xCustom_kept | apply xEmit_kept | apply xAlloc_kept | apply xQpush_kept | apply xQpop_kept | apply xChw_kept | apply xChc_kept | apply xTmr_kept | apply xTcan_kept | apply xFence_kept | apply xLock_kept | apply xLkcas_kept | apply xWfe_kept | apply xSev_kept | apply xMfsr_kept | apply xMtsr_kept | apply xReth_kept | apply xPattern_kept | apply xFacc_kept | apply xFlog_kept | apply xVrdt_kept | apply xNop_kept | apply XRes.kept_fn_ite
    | split

theorem meaningOf_kept {kk : Keep} (nmem : kk.mem = none) (op : Nat) (s : State) (c n : Nat) (o : Ins) (kh : Kept kk s) : (meaningOf op s c n o).Kept kk := by
  unfold meaningOf
  repeat' first
    | with_reducible first | assumption | apply xLow_kept | apply xHigh_kept | apply XRes.kept_fn_ite
    | split

theorem State.trapWhen_kept {kk : Keep} (nmem : kk.mem = none) (s0 s : State) (c n code : Nat) (ks : Kept kk s) (kh : Kept kk s0) : (State.trapWhen s0 s c n code).Kept kk := by
  unfold State.trapWhen
  try dsimp only
  repeat' first
    | with_reducible first | assumption | apply State.trap_kept | apply XRes.kept_trap | exact XRes.kept_stall | apply kept_ite | intro _
    | split

theorem State.meaning_kept {kk : Keep} (nmem : kk.mem = none) (s : State) (c n : Nat) (o : Ins) (kh : Kept kk s) : (State.meaning s c n o).Kept kk := by
  unfold State.meaning
  try dsimp only
  repeat' first
    | with_reducible first | assumption | apply meaningOf_kept | apply State.trap_kept | apply XRes.kept_trap
    | (with_reducible refine XRes.Kept.done ?_ (by assumption))
    | (with_reducible refine XRes.Kept.jump ?_ (by assumption))
    | (with_reducible refine XRes.Kept.next ?_ (by assumption))
    | (with_reducible refine XRes.Kept.trap ?_ (by assumption))
    | (with_reducible refine XRes.Kept.wait ?_ (by assumption))
    | (with_reducible refine XRes.Kept.retry ?_ (by assumption))
    | (with_reducible refine XRes.Kept.ended ?_ (by assumption))
    | with_reducible first | apply kept_ite | intro _
    | split

theorem State.attempt_kept {kk : Keep} (nmem : kk.mem = none) (s : State) (c n : Nat) (kh : Kept kk s) : (State.attempt s c n).Kept kk := by
  unfold State.attempt
  try dsimp only
  repeat' first
    | with_reducible first | assumption | apply State.meaning_kept | apply State.trapWhen_kept | apply State.trap_kept | apply XRes.kept_trap | exact XRes.kept_stall | exact XRes.kept_held
    | (with_reducible refine XRes.Kept.done ?_ (by assumption))
    | (with_reducible refine XRes.Kept.jump ?_ (by assumption))
    | (with_reducible refine XRes.Kept.next ?_ (by assumption))
    | (with_reducible refine XRes.Kept.trap ?_ (by assumption))
    | (with_reducible refine XRes.Kept.wait ?_ (by assumption))
    | (with_reducible refine XRes.Kept.retry ?_ (by assumption))
    | (with_reducible refine XRes.Kept.ended ?_ (by assumption))
    | with_reducible apply kept_ite
    | simp only [↓kept_mk_iff]
    | with_reducible intro _
    | split

theorem State.finish_kept {kk : Keep} (nmem : kk.mem = none) (s : State) (c n : Nat) (pre : Thread) (occ : Nat) (npc : State → State) (hnpc : ∀ s, Kept kk s → Kept kk (npc s)) (kh : Kept kk s) : Kept kk (State.finish s c n pre occ npc) := by
  unfold State.finish
  try dsimp only
  repeat' first
    | with_reducible first | assumption | apply hnpc | apply State.settle_kept | apply State.onThr_kept | apply kept_ite | intro _
    | split

theorem State.enterWait_kept {kk : Keep} (s : State) (c n : Nat) (w : WaitFor) (iw : Word) (kh : Kept kk s) : Kept kk (State.enterWait s c n w iw) := by
  unfold State.enterWait
  try dsimp only
  repeat' first
    | with_reducible first | assumption | apply State.bump_kept | apply State.onThr_kept
    | simp only [↓kept_mk_iff]
    | with_reducible intro _

theorem State.settleRes_kept {kk : Keep} (nmem : kk.mem = none) (s : State) (c n : Nat) (pre : Thread) (o : Ins) (occ : Nat) (r : XRes) (kr : r.Kept kk) (kh : Kept kk s) : Kept kk (State.settleRes s c n pre o occ r) := by
  unfold State.settleRes
  try dsimp only
  repeat' first
    | with_reducible first | assumption | apply State.enterWait_kept | apply State.finish_kept | apply State.advancePc_kept | apply State.pcCheck_kept | apply State.trap_kept | apply State.onThr_kept
    | (with_reducible refine XRes.Kept.done (by assumption) rfl)
    | (with_reducible refine XRes.Kept.jump (by assumption) rfl)
    | (with_reducible refine XRes.Kept.next (by assumption) rfl)
    | (with_reducible refine XRes.Kept.trap (by assumption) rfl)
    | (with_reducible refine XRes.Kept.wait (by assumption) rfl)
    | (with_reducible refine XRes.Kept.retry (by assumption) rfl)
    | (with_reducible refine XRes.Kept.ended (by assumption) rfl)
    | simp only [↓kept_mk_iff]
    | with_reducible intro _
    | split

theorem State.account_kept {kk : Keep} (s : State) (c n : Nat) (ch : Charge) (kh : Kept kk s) : Kept kk (State.account s c n ch) := by
  unfold State.account
  try dsimp only
  repeat' first
    | with_reducible first | assumption | apply State.markDisp_kept | apply State.charge_kept | apply State.setThr_kept | apply State.onTile_kept | apply State.inc_kept
    | simp only [↓kept_mk_iff]
    | with_reducible intro _

theorem State.perform_kept {kk : Keep} (nmem : kk.mem = none) (s : State) (c n : Nat) (kh : Kept kk s) : Kept kk (State.perform s c n) := by
  unfold State.perform
  try dsimp only
  repeat' first
    | with_reducible first | assumption | apply State.account_kept | apply State.settleRes_kept | apply State.meaning_kept | apply State.trap_kept | apply XRes.kept_trap
    | (with_reducible refine XRes.Kept.done ?_ (by assumption))
    | (with_reducible refine XRes.Kept.jump ?_ (by assumption))
    | (with_reducible refine XRes.Kept.next ?_ (by assumption))
    | (with_reducible refine XRes.Kept.trap ?_ (by assumption))
    | (with_reducible refine XRes.Kept.wait ?_ (by assumption))
    | (with_reducible refine XRes.Kept.retry ?_ (by assumption))
    | (with_reducible refine XRes.Kept.ended ?_ (by assumption))
    | with_reducible apply kept_ite
    | simp only [↓kept_mk_iff]
    | with_reducible intro _
    | split

theorem State.issue_kept {kk : Keep} (nmem : kk.mem = none) (s : State) (c n : Nat) (p : Word → Bool) (kh : Kept kk s) : Kept kk (State.issue s c n p) := by
  unfold State.issue
  try dsimp only
  repeat' first
    | with_reducible first | assumption | apply State.perform_kept | apply State.attempt_kept | apply State.flagHeld_kept
    | (with_reducible refine XRes.Kept.done ?_ (by assumption))
    | (with_reducible refine XRes.Kept.jump ?_ (by assumption))
    | (with_reducible refine XRes.Kept.next ?_ (by assumption))
    | (with_reducible refine XRes.Kept.trap ?_ (by assumption))
    | (with_reducible refine XRes.Kept.wait ?_ (by assumption))
    | (with_reducible refine XRes.Kept.retry ?_ (by assumption))
    | (with_reducible refine XRes.Kept.ended ?_ (by assumption))
    | with_reducible apply kept_ite
    | simp only [↓kept_mk_iff]
    | with_reducible intro _
    | split

theorem State.resume_kept {kk : Keep} (nmem : kk.mem = none) (s : State) (c n : Nat) (kh : Kept kk s) : OptKept kk (State.resume s c n) := by
  unfold State.resume
  try dsimp only
  repeat' first
    | with_reducible first | assumption | apply State.settleRes_kept | apply State.finish_kept | apply State.meaning_kept | apply State.popLoad_kept | apply State.markDisp_kept | apply State.endThread_kept | apply State.advancePc_kept | apply State.trap_kept | apply State.onThr_kept | apply State.setThr_kept | exact optKept_none | apply optKept_some | apply optKept_ite | apply XRes.kept_trap | apply XRes.kept_wait | apply XRes.kept_retry | exact XRes.kept_stall | exact XRes.kept_held
    | (with_reducible refine XRes.Kept.done ?_ (by assumption))
    | (with_reducible refine XRes.Kept.jump ?_ (by assumption))
    | (with_reducible refine XRes.Kept.next ?_ (by assumption))
    | (with_reducible refine XRes.Kept.trap ?_ (by assumption))
    | (with_reducible refine XRes.Kept.wait ?_ (by assumption))
    | (with_reducible refine XRes.Kept.retry ?_ (by assumption))
    | (with_reducible refine XRes.Kept.ended ?_ (by assumption))
    | with_reducible apply kept_ite
    | simp only [↓kept_mk_iff]
    | with_reducible intro _
    | split

theorem State.retryIns_kept {kk : Keep} (nmem : kk.mem = none) (s : State) (c n : Nat) (k : RetryKind) (kh : Kept kk s) : Kept kk (State.retryIns s c n k) := by
  unfold State.retryIns
  try dsimp only
  repeat' first
    | with_reducible first | assumption | apply State.settleRes_kept | apply State.meaning_kept | apply State.setThr_kept | apply XRes.kept_retry | exact XRes.kept_held
    | (with_reducible refine XRes.Kept.done ?_ (by assumption))
    | (with_reducible refine XRes.Kept.jump ?_ (by assumption))
    | (with_reducible refine XRes.Kept.next ?_ (by assumption))
    | (with_reducible refine XRes.Kept.trap ?_ (by assumption))
    | (with_reducible refine XRes.Kept.wait ?_ (by assumption))
    | (with_reducible refine XRes.Kept.retry ?_ (by assumption))
    | (with_reducible refine XRes.Kept.ended ?_ (by assumption))
    | with_reducible apply kept_ite
    | simp only [↓kept_mk_iff]
    | with_reducible intro _
    | split

theorem execDmaRetry_kept {kk : Keep} (nmem : kk.mem = none) (dt : Nat) (c : Sys2Proof.CoreId) (n : Sys2Proof.ThreadId) (s : State) (kh : Kept kk s) : OutKept kk (execDmaRetry dt c n s) := by
  unfold execDmaRetry
  try dsimp only
  repeat' first
    | with_reducible first | assumption | apply State.retryIns_kept | apply State.advance_kept | apply outKept_next | intro _

theorem execTimerArmRetry_kept {kk : Keep} (nmem : kk.mem = none) (dt : Nat) (c : Sys2Proof.CoreId) (n : Sys2Proof.ThreadId) (s : State) (kh : Kept kk s) : OutKept kk (execTimerArmRetry dt c n s) := by
  unfold execTimerArmRetry
  try dsimp only
  repeat' first
    | with_reducible first | assumption | apply State.retryIns_kept | apply State.advance_kept | apply outKept_next | intro _

theorem execVrdtRetry_kept {kk : Keep} (nmem : kk.mem = none) (dt : Nat) (c : Sys2Proof.CoreId) (n : Sys2Proof.ThreadId) (s : State) (kh : Kept kk s) : OutKept kk (execVrdtRetry dt c n s) := by
  unfold execVrdtRetry
  try dsimp only
  repeat' first
    | with_reducible first | assumption | apply State.retryIns_kept | apply State.advance_kept | apply outKept_next | intro _

theorem State.lockResult_kept {kk : Keep} (nmem : kk.mem = none) (s : State) (c n : Nat) (kh : Kept kk s) : Kept kk (State.lockResult s c n) := by
  unfold State.lockResult
  try dsimp only
  repeat' first
    | with_reducible first | assumption | apply State.finish_kept | apply State.advancePc_kept | apply State.trap_kept | apply State.wake_kept | apply State.onThr_kept | apply State.setThr_kept | apply kept_ite
    | simp only [↓kept_mk_iff]
    | with_reducible intro _
    | split

theorem execLockResult_kept {kk : Keep} (nmem : kk.mem = none) (dt : Nat) (c : Sys2Proof.CoreId) (n : Sys2Proof.ThreadId) (s : State) (kh : Kept kk s) : OutKept kk (execLockResult dt c n s) := by
  unfold execLockResult
  try dsimp only
  repeat' first
    | with_reducible first | assumption | apply State.lockResult_kept | apply State.ctlAwake_kept | apply State.advance_kept | apply outKept_next | intro _

theorem execIllegalInstruction_kept {kk : Keep} (nmem : kk.mem = none) (dt : Nat) (c : Sys2Proof.CoreId) (n : Sys2Proof.ThreadId) (s : State) (kh : Kept kk s) : OutKept kk (execIllegalInstruction dt c n s) := by
  unfold execIllegalInstruction
  try dsimp only
  repeat' first
    | with_reducible first | assumption | apply State.issue_kept | apply State.advance_kept | apply outKept_next | intro _

theorem nodeTest_kept {kk : Keep} (nmem : kk.mem = none) (s : State) (t : Nat) (f : Firing) (kh : Kept kk s) : Kept kk (nodeTest s t f).2 := by
  unfold nodeTest
  try dsimp only
  repeat' first
    | with_reducible first | assumption | apply State.flog_kept | apply State.facc_kept
    | (with_reducible refine kept_of_snd ?_ (by assumption))
    | with_reducible apply kept_ite
    | simp only [↓kept_mk_iff]
    | with_reducible intro _
    | split

theorem State.nodeRes_kept {kk : Keep} (nmem : kk.mem = none) (s : State) (t cls : Nat) (f : Firing) (kh : Kept kk s) : Kept kk (State.nodeRes s t cls f).2 := by
  unfold State.nodeRes
  try dsimp only
  repeat' first
    | with_reducible first | assumption | apply nodeTest_kept
    | (with_reducible refine kept_of_snd ?_ (by assumption))
    | with_reducible first | apply kept_ite | intro _
    | split

theorem State.dropTask_kept {kk : Keep} (s : State) (t : Nat) (k : Task) (kh : Kept kk s) : Kept kk (State.dropTask s t k) := by
  unfold State.dropTask
  try dsimp only
  repeat' first
    | with_reducible first | assumption | apply State.onTile_kept
    | simp only [↓kept_mk_iff]
    | with_reducible intro _

theorem State.noteTask_kept {kk : Keep} (s : State) (t : Nat) (k : Task) (kh : Kept kk s) : Kept kk (State.noteTask s t k) := by
  unfold State.noteTask
  try dsimp only
  repeat' first
    | with_reducible first | assumption | apply State.onTile_kept | apply kept_ite
    | simp only [↓kept_mk_iff]
    | with_reducible intro _
    | split

theorem State.abandon_kept {kk : Keep} (nmem : kk.mem = none) (s : State) (t cls : Nat) (f : Firing) (code : Nat) (kh : Kept kk s) : Kept kk (State.abandon s t cls f code) := by
  unfold State.abandon
  try dsimp only
  repeat' first
    | with_reducible first | assumption | apply State.pushFault_kept | intro _

theorem State.freeDone_kept {kk : Keep} (nmem : kk.mem = none) (s : State) (t : Nat) (f : Firing) (kh : Kept kk s) : Kept kk (State.freeDone s t f) := by
  unfold State.freeDone
  try dsimp only
  repeat' first
    | with_reducible first | assumption | apply State.freeNotice_kept | apply State.startClose_kept | apply State.post_kept | apply State.inc_kept | apply kept_ite | intro _
    | split

theorem State.sendToks_kept {kk : Keep} (nmem : kk.mem = none) (s : State) (t u : Nat) (f : Firing) (cls : Nat) (ord : Option (Nat × Nat)) (d aux : Word) (l : List (Nat × Nat × Nat)) (kh : Kept kk s) : Kept kk (State.sendToks s t u f cls ord d aux l) := by
  unfold State.sendToks
  try dsimp only
  repeat' first
    | with_reducible first | assumption | apply State.unitSend_kept
    | (with_reducible apply kept_foldl; intro _ _ _)
    | (with_reducible apply kept_foldl_fst; intro _ _ _)
    | (with_reducible apply kept_foldl_snd; intro _ _ _)
    | with_reducible intro _

theorem State.sendRes_kept {kk : Keep} (nmem : kk.mem = none) (s : State) (t u : Nat) (f : Firing) (cls : Nat) (r : NRes) (kh : Kept kk s) : Kept kk (State.sendRes s t u f cls r) := by
  unfold State.sendRes
  try dsimp only
  repeat' first
    | with_reducible first | assumption | apply State.sendToks_kept | apply State.freeDone_kept | apply State.laneTake_kept | apply State.unitSend_kept
    | (with_reducible refine kept_of_snd ?_ (by assumption))
    | with_reducible apply kept_ite
    | simp only [↓kept_mk_iff]
    | with_reducible intro _
    | split

theorem State.createCtx_kept {kk : Keep} (nmem : kk.mem = none) (s : State) (t k : Nat) (f : Firing) (kh : Kept kk s) : Kept kk (State.createCtx s t k f).1 := by
  unfold State.createCtx
  try dsimp only
  repeat' first
    | with_reducible first | assumption | apply State.setCtx_kept | apply State.onTile_kept
    | simp only [↓kept_mk_iff]
    | with_reducible intro _

theorem State.fireDone_kept {kk : Keep} (nmem : kk.mem = none) (s : State) (t u cls : Nat) (f : Firing) (data code : Nat) (kh : Kept kk s) : Kept kk (State.fireDone s t u cls f data code) := by
  unfold State.fireDone
  try dsimp only
  repeat' first
    | with_reducible first | assumption | apply State.sendRes_kept | apply State.abandon_kept | apply kept_ite | intro _
    | split

theorem State.fireSettle_kept {kk : Keep} (nmem : kk.mem = none) (s : State) (kh : Kept kk s) : Kept kk (State.fireSettle s) := by
  unfold State.fireSettle
  try dsimp only
  repeat' first
    | with_reducible first | assumption | apply State.fireDone_kept
    | (with_reducible apply kept_foldl; intro _ _ _)
    | (with_reducible apply kept_foldl_fst; intro _ _ _)
    | (with_reducible apply kept_foldl_snd; intro _ _ _)
    | with_reducible apply kept_id
    | simp only [↓kept_mk_iff]
    | with_reducible intro _

theorem State.fireAccess_kept {kk : Keep} (nmem : kk.mem = none) (s : State) (t u cls : Nat) (f : Firing) (op : MemOp) (a size data : Nat) (kh : Kept kk s) : OptKept kk (State.fireAccess s t u cls f op a size data) := by
  unfold State.fireAccess
  try dsimp only
  repeat' first
    | with_reducible first | assumption | apply State.fireDone_kept | apply State.abandon_kept | apply State.ioWrite_kept | apply State.ioLoad_kept | apply State.startReq_kept | apply State.noteFault_kept | apply State.bump_kept | exact optKept_none | apply optKept_some | apply optKept_ite
    | (with_reducible refine Route.Kept.sent ?_ (by assumption))
    | (with_reducible refine ExKept2.get ?_ (by assumption))
    | (with_reducible refine WRes.Kept.ok ?_ (by assumption))
    | with_reducible apply kept_ite
    | simp only [↓kept_mk_iff]
    | with_reducible intro _
    | split

theorem State.runFire_kept {kk : Keep} (nmem : kk.mem = none) (s : State) (t u cls pri act : Nat) (f : Firing) (r : NRes) (kh : Kept kk s) : OptKept kk (State.runFire s t u cls pri act f r) := by
  unfold State.runFire
  try dsimp only
  repeat' first
    | with_reducible first | assumption | apply State.fireAccess_kept | apply State.sendRes_kept | apply State.abandon_kept | apply State.armTimer_kept | apply State.onTile_kept | exact optKept_none | apply optKept_some | apply optKept_ite
    | (with_reducible refine OptKept2.get ?_ (by assumption))
    | (with_reducible refine OptKept.get ?_ (by assumption))
    | with_reducible apply OptKept2.map
    | simp only [↓kept_mk_iff]
    | with_reducible intro _
    | split

theorem State.takeUnit_kept {kk : Keep} (s : State) (t u occ ctx act : Nat) (ch : Charge) (kh : Kept kk s) : Kept kk (State.takeUnit s t u occ ctx act ch) := by
  unfold State.takeUnit
  try dsimp only
  repeat' first
    | with_reducible first | assumption | apply State.markDisp_kept | apply State.charge_kept | apply State.onTile_kept | apply State.inc_kept
    | simp only [↓kept_mk_iff]
    | with_reducible intro _

theorem State.tryFire_kept {kk : Keep} (nmem : kk.mem = none) (s : State) (t u : Nat) (k : Task) (f : Firing) (kh : Kept kk s) : Kept kk (State.tryFire s t u k f).2 := by
  unfold State.tryFire
  try dsimp only
  repeat' first
    | with_reducible first | assumption | apply State.takeUnit_kept | apply State.runFire_kept | apply State.createCtx_kept | apply State.abandon_kept | apply State.noteTask_kept | apply State.dropTask_kept | apply State.nodeRes_kept | apply State.flagHeld_kept | apply State.inc_kept
    | (with_reducible refine kept_of_snd ?_ (by assumption))
    | (with_reducible refine kept_of_fst ?_ (by assumption))
    | (with_reducible refine OptKept.get ?_ (by assumption))
    | with_reducible apply kept_ite
    | simp only [↓kept_mk_iff]
    | with_reducible intro _
    | split

theorem State.tryUnit_kept {kk : Keep} (nmem : kk.mem = none) (s : State) (t u : Nat) (k : Task) (kh : Kept kk s) : Kept kk (State.tryUnit s t u k).2 := by
  unfold State.tryUnit
  try dsimp only
  repeat' first
    | with_reducible first | assumption | apply State.tryFire_kept | apply State.sendRes_kept | apply State.dropTask_kept | apply State.markDisp_kept | apply State.onTile_kept
    | (with_reducible refine kept_of_snd ?_ (by assumption))
    | with_reducible apply kept_ite
    | simp only [↓kept_mk_iff]
    | with_reducible intro _
    | split

theorem State.unitFrom_kept {kk : Keep} (nmem : kk.mem = none) (s : State) (t u : Nat) (p : Task → Bool) (z0 : List Task) (kh : Kept kk s) : Kept kk (State.unitFrom s t u p z0) := by
  induction z0 generalizing s t u p with
  | nil =>
    unfold State.unitFrom
    try dsimp only
    repeat' first
      | with_reducible first | assumption | apply State.tryUnit_kept
      | (with_reducible refine kept_of_snd ?_ (by assumption))
      | with_reducible apply kept_ite
      | simp only [↓kept_mk_iff]
      | with_reducible intro _
      | split
  | cons a l ih =>
    unfold State.unitFrom
    try dsimp only
    repeat' first
      | with_reducible first | assumption | apply ih | apply State.tryUnit_kept
      | (with_reducible refine kept_of_snd ?_ (by assumption))
      | with_reducible apply kept_ite
      | simp only [↓kept_mk_iff]
      | with_reducible intro _
      | split

theorem State.noteAlloc_kept {kk : Keep} (s : State) (t : Nat) (kh : Kept kk s) : Kept kk (State.noteAlloc s t) := by
  unfold State.noteAlloc
  try dsimp only
  repeat' first
    | with_reducible first | assumption | apply State.onTile_kept | apply kept_ite
    | simp only [↓kept_mk_iff]
    | with_reducible intro _
    | split

theorem State.dispatchUnit_kept {kk : Keep} (nmem : kk.mem = none) (s : State) (t u : Nat) (p : Task → Bool) (kh : Kept kk s) : Kept kk (State.dispatchUnit s t u p) := by
  unfold State.dispatchUnit
  try dsimp only
  repeat' first
    | with_reducible first | assumption | apply State.noteAlloc_kept | apply State.unitFrom_kept | apply State.drainUnits_kept | apply kept_ite | intro _
    | split

theorem State.trySpawn_kept {kk : Keep} (nmem : kk.mem = none) (s : State) (t : Nat) (k : Task) (f : Firing) (kh : Kept kk s) : Kept kk (State.trySpawn s t k f).2 := by
  unfold State.trySpawn
  try dsimp only
  repeat' first
    | with_reducible first | assumption | apply State.abandon_kept | apply State.noteTask_kept | apply State.dropTask_kept | apply State.markDisp_kept | apply State.spawnIn_kept | apply State.inc_kept | apply kept_ite
    | simp only [↓kept_mk_iff]
    | with_reducible intro _
    | split

theorem State.tryWake_kept {kk : Keep} (nmem : kk.mem = none) (s : State) (c : Nat) (k : Task) (kh : Kept kk s) : Kept kk (State.tryWake s c k).2 := by
  unfold State.tryWake
  try dsimp only
  repeat' first
    | with_reducible first | assumption | apply State.trySpawn_kept | apply State.dropTask_kept | apply State.resume_kept | apply State.event_kept | apply State.latch_kept | apply State.wake_kept
    | (with_reducible refine OptKept.get ?_ (by assumption))
    | (with_reducible refine kept_of_snd ?_ (by assumption))
    | simp only [↓kept_mk_iff]
    | with_reducible intro _
    | split

theorem State.wakeFrom_kept {kk : Keep} (nmem : kk.mem = none) (s : State) (c : Nat) (p : Task → Bool) (z0 : List Task) (kh : Kept kk s) : Kept kk (State.wakeFrom s c p z0) := by
  induction z0 generalizing s c p with
  | nil =>
    unfold State.wakeFrom
    try dsimp only
    repeat' first
      | with_reducible first | assumption | apply State.tryWake_kept | apply State.onTile_kept
      | (with_reducible refine kept_of_snd ?_ (by assumption))
      | with_reducible apply kept_ite
      | simp only [↓kept_mk_iff]
      | with_reducible intro _
      | split
  | cons a l ih =>
    unfold State.wakeFrom
    try dsimp only
    repeat' first
      | with_reducible first | assumption | apply ih | apply State.tryWake_kept | apply State.onTile_kept
      | (with_reducible refine kept_of_snd ?_ (by assumption))
      | with_reducible apply kept_ite
      | simp only [↓kept_mk_iff]
      | with_reducible intro _
      | split

theorem State.dispatchWake_kept {kk : Keep} (nmem : kk.mem = none) (s : State) (c : Nat) (p : Task → Bool) (kh : Kept kk s) : Kept kk (State.dispatchWake s c p) := by
  unfold State.dispatchWake
  try dsimp only
  repeat' first
    | with_reducible first | assumption | apply State.wakeFrom_kept | apply kept_ite | intro _
    | split

theorem execTaskDispatch_kept {kk : Keep} (nmem : kk.mem = none) (dt : Nat) (c : Sys2Proof.CoreId) (slot : Fin 5) (s : State) (kh : Kept kk s) : OutKept kk (execTaskDispatch dt c slot s) := by
  unfold execTaskDispatch
  try dsimp only
  repeat' first
    | with_reducible first | assumption | apply State.dispatchWake_kept | apply State.dispatchUnit_kept | apply State.advance_kept | apply outKept_next | apply kept_ite | intro _
    | split

theorem execSpawn_kept {kk : Keep} (nmem : kk.mem = none) (dt : Nat) (t : Sys2Proof.TileId) (s : State) (kh : Kept kk s) : OutKept kk (execSpawn dt t s) := by
  unfold execSpawn
  try dsimp only
  repeat' first
    | with_reducible first | assumption | apply State.dispatchWake_kept | apply State.advance_kept | apply outKept_next | intro _

theorem State.chained_kept {kk : Keep} (nmem : kk.mem = none) (s : State) (t u : Nat) (kh : Kept kk s) : Kept kk (State.chained s t u) := by
  unfold State.chained
  try dsimp only
  repeat' first
    | with_reducible first | assumption | apply State.tryUnit_kept | apply State.lookup_kept | apply State.stageLocal_kept | apply State.onTile_kept
    | (with_reducible refine LRes.Kept.done ?_ (by assumption))
    | (with_reducible refine LRes.Kept.stall ?_ (by assumption))
    | (with_reducible refine LRes.Kept.full ?_ (by assumption))
    | (with_reducible refine kept_of_snd ?_ (by assumption))
    | with_reducible apply kept_ite
    | simp only [↓kept_mk_iff]
    | with_reducible intro _
    | split

theorem execChainedDispatch_kept {kk : Keep} (nmem : kk.mem = none) (dt : Nat) (t : Sys2Proof.TileId) (u : Fin 4) (s : State) (kh : Kept kk s) : OutKept kk (execChainedDispatch dt t u s) := by
  unfold execChainedDispatch
  try dsimp only
  repeat' first
    | with_reducible first | assumption | apply State.chained_kept | apply State.advance_kept | apply outKept_next | apply kept_ite | intro _
    | split

theorem State.ring_kept {kk : Keep} (s : State) (c : Nat) (d : Timer) (kh : Kept kk s) : Kept kk (State.ring s c d) := by
  unfold State.ring
  try dsimp only
  repeat' first
    | with_reducible first | assumption | apply State.event_kept | apply State.wake_kept | apply State.enterReady_kept | apply State.setThr_kept | apply State.onTile_kept | apply kept_ite
    | simp only [↓kept_mk_iff]
    | with_reducible intro _
    | split

theorem State.timerDue_kept {kk : Keep} (s : State) (c : Nat) (kh : Kept kk s) : Kept kk (State.timerDue s c) := by
  unfold State.timerDue
  try dsimp only
  repeat' first
    | with_reducible first | assumption | apply State.ring_kept
    | (with_reducible apply kept_foldl; intro _ _ _)
    | (with_reducible apply kept_foldl_fst; intro _ _ _)
    | (with_reducible apply kept_foldl_snd; intro _ _ _)
    | with_reducible first | apply kept_ite | intro _
    | split

theorem execTimerDue_kept {kk : Keep} (dt : Nat) (c : Sys2Proof.CoreId) (s : State) (kh : Kept kk s) : OutKept kk (execTimerDue dt c s) := by
  unfold execTimerDue
  try dsimp only
  repeat' first
    | with_reducible first | assumption | apply State.timerDue_kept | apply State.advance_kept | apply outKept_next | intro _

theorem State.faultArrival_kept {kk : Keep} (nmem : kk.mem = none) (s : State) (t : Nat) (kh : Kept kk s) : Kept kk (State.faultArrival s t) := by
  unfold State.faultArrival
  try dsimp only
  repeat' first
    | with_reducible first | assumption | apply State.pushFault_kept
    | simp only [↓kept_mk_iff]
    | with_reducible intro _
    | split

theorem execFaultTokenArrival_kept {kk : Keep} (nmem : kk.mem = none) (t : Sys2Proof.TileId) (s : State) (kh : Kept kk s) : OutKept kk (execFaultTokenArrival t s) := by
  unfold execFaultTokenArrival
  try dsimp only
  repeat' first
    | with_reducible first | assumption | apply State.faultArrival_kept | apply State.ctlAwake_kept | apply outKept_next | intro _

theorem State.dmaPut_kept {kk : Keep} (nmem : kk.mem = none) (s : State) (t a : Nat) (v : Word) (kh : Kept kk s) : Kept kk (State.dmaPut s t a v) := by
  unfold State.dmaPut
  try dsimp only
  repeat' first
    | with_reducible first | assumption | apply State.put_kept | apply kept_ite
    | simp only [↓kept_mk_iff]
    | with_reducible intro _
    | split

theorem State.dmaStep_kept {kk : Keep} (nmem : kk.mem = none) (s : State) (t a b : Nat) (kh : Kept kk s) : ExKept kk (State.dmaStep s t a b) := by
  unfold State.dmaStep
  try dsimp only
  repeat' first
    | with_reducible first | assumption | apply State.dmaPut_kept | apply State.useCor_kept | exact exKept_error | apply exKept_ok | apply kept_ite
    | simp only [↓kept_mk_iff]
    | with_reducible intro _
    | split

theorem State.dmaCopy_kept {kk : Keep} (nmem : kk.mem = none) (s : State) (t a b : Nat) (z0 : Nat) (kh : Kept kk s) : Kept kk (State.dmaCopy s t a b z0).2 := by
  induction z0 generalizing s t a b with
  | zero =>
    unfold State.dmaCopy
    try dsimp only
    repeat' first
      | with_reducible first | assumption | apply State.dmaStep_kept | apply State.countUnc_kept
      | (with_reducible refine ExKept.get ?_ (by assumption))
      | simp only [↓kept_mk_iff]
      | with_reducible intro _
      | split
  | succ n ih =>
    unfold State.dmaCopy
    try dsimp only
    repeat' first
      | with_reducible first | assumption | apply ih | apply State.dmaStep_kept | apply State.countUnc_kept
      | (with_reducible refine ExKept.get ?_ (by assumption))
      | simp only [↓kept_mk_iff]
      | with_reducible intro _
      | split

theorem State.dmaComplete_kept {kk : Keep} (nmem : kk.mem = none) (s : State) (t i : Nat) (kh : Kept kk s) : Kept kk (State.dmaComplete s t i) := by
  unfold State.dmaComplete
  try dsimp only
  repeat' first
    | with_reducible first | assumption | apply State.dmaCopy_kept | apply State.dropTasks_kept | apply State.dropWaiter_kept | apply State.latch_kept | apply State.trap_kept | apply State.free_kept | apply State.onTile_kept
    | (with_reducible refine kept_of_snd ?_ (by assumption))
    | with_reducible first | apply kept_ite | apply kept_id
    | simp only [↓kept_mk_iff]
    | with_reducible intro _
    | split

theorem execDmaComplete_kept {kk : Keep} (nmem : kk.mem = none) (dt : Nat) (t : Sys2Proof.TileId) (i : Fin 16) (s : State) (kh : Kept kk s) : OutKept kk (execDmaComplete dt t i s) := by
  unfold execDmaComplete
  try dsimp only
  repeat' first
    | with_reducible first | assumption | apply State.dmaComplete_kept | apply State.advance_kept | apply outKept_next | intro _

end Sys2Proof.Machine
end

