-- ==== Sys2Proof/Laws/KeptDevice.lean ====
section
/-! SUPPORT. What the model keeps (Kept.lean): the boundary, reset, updates and banks. One lemma for each operation: memory, graph memory and the device state are kept unless the lemma asks that they need not be. -/
namespace Sys2Proof.Machine

theorem State.endBudgets_kept {kk : Keep} (nmem : kk.mem = none) (o s : State) (t : Nat) (kh : Kept kk s) : Kept kk (State.endBudgets o s t) := by
  unfold State.endBudgets
  try dsimp only
  repeat' first
    | with_reducible first | assumption | apply State.overrun_kept | apply State.onTile_kept | apply State.fset_kept
    | (with_reducible apply kept_foldl; intro _ _ _)
    | (with_reducible apply kept_foldl_fst; intro _ _ _)
    | (with_reducible apply kept_foldl_snd; intro _ _ _)
    | with_reducible apply kept_ite
    | simp only [↓kept_mk_iff]
    | with_reducible intro _
    | split

theorem State.ageTile_kept {kk : Keep} (s : State) (t : Nat) (kh : Kept kk s) : Kept kk (State.ageTile s t) := by
  unfold State.ageTile
  try dsimp only
  repeat' first
    | with_reducible first | assumption | apply State.post_kept | apply State.onTile_kept | apply State.inc_kept
    | (with_reducible apply kept_foldl; intro _ _ _)
    | (with_reducible apply kept_foldl_fst; intro _ _ _)
    | (with_reducible apply kept_foldl_snd; intro _ _ _)
    | with_reducible apply kept_ite
    | simp only [↓kept_mk_iff]
    | with_reducible intro _
    | split

theorem State.swapCox_kept {kk : Keep} (s : State) (kh : Kept kk s) : Kept kk (State.swapCox s) := by
  unfold State.swapCox
  try dsimp only
  repeat' first
    | with_reducible first | assumption | apply State.setShadow_kept | apply State.fset_kept
    | (with_reducible apply kept_foldl; intro _ _ _)
    | (with_reducible apply kept_foldl_fst; intro _ _ _)
    | (with_reducible apply kept_foldl_snd; intro _ _ _)
    | simp only [↓kept_mk_iff]
    | with_reducible intro _

theorem State.cutC0Borrows_kept {kk : Keep} (s : State) (kh : Kept kk s) : Kept kk (State.cutC0Borrows s) := by
  unfold State.cutC0Borrows
  try dsimp only
  repeat' first
    | with_reducible first | assumption | apply State.cutBorrow_kept
    | (with_reducible apply kept_foldl; intro _ _ _)
    | (with_reducible apply kept_foldl_fst; intro _ _ _)
    | (with_reducible apply kept_foldl_snd; intro _ _ _)
    | with_reducible apply kept_ite
    | simp only [↓kept_mk_iff]
    | with_reducible intro _
    | split

theorem State.advanceMono_kept {kk : Keep} (s : State) (k v : Nat) (kh : Kept kk s) : Kept kk (State.advanceMono s k v) := by
  unfold State.advanceMono
  try dsimp only
  repeat' first
    | with_reducible first | assumption | apply State.fset_kept | intro _

theorem State.activated_kept {kk : Keep} (s : State) (m : Image) (kh : Kept kk s) : Kept kk (State.activated s m) := by
  unfold State.activated
  try dsimp only
  repeat' first
    | with_reducible first | assumption | apply State.advanceMono_kept
    | simp only [↓kept_mk_iff]
    | with_reducible intro _

theorem State.cutStory_kept {kk : Keep} (s : State) (kh : Kept kk s) : Kept kk (State.cutStory s) := by
  unfold State.cutStory
  try dsimp only
  repeat' first
    | with_reducible first | assumption | apply State.activated_kept
    | simp only [↓kept_mk_iff]
    | with_reducible intro _
    | split

theorem State.cutTable_kept {kk : Keep} (s : State) (kh : Kept kk s) : Kept kk (State.cutTable s) := by
  unfold State.cutTable
  try dsimp only
  repeat' first
    | with_reducible first | assumption | apply State.activated_kept | apply State.fset_kept
    | simp only [↓kept_mk_iff]
    | with_reducible intro _
    | split

theorem State.cutReel_kept {kk : Keep} (s : State) (kh : Kept kk s) : Kept kk (State.cutReel s) := by
  unfold State.cutReel
  try dsimp only
  repeat' first
    | with_reducible first | assumption | apply State.activated_kept | apply State.fset_kept | apply OptKept.getD
    | simp only [↓kept_mk_iff]
    | with_reducible intro _
    | split

theorem State.unboundTile_kept {kk : Keep} (s : State) (t : Nat) (kh : Kept kk s) : Kept kk (State.unboundTile s t) := by
  unfold State.unboundTile
  try dsimp only
  repeat' first
    | with_reducible first | assumption | apply State.fset_kept
    | (with_reducible apply kept_foldl; intro _ _ _)
    | (with_reducible apply kept_foldl_fst; intro _ _ _)
    | (with_reducible apply kept_foldl_snd; intro _ _ _)
    | with_reducible intro _

theorem State.recoverTile_kept {kk : Keep} (nmem : kk.mem = none) (s : State) (t : Nat) (kh : Kept kk s) : Kept kk (State.recoverTile s t) := by
  unfold State.recoverTile
  try dsimp only
  repeat' first
    | with_reducible first | assumption | apply State.tileReset_kept | apply State.scrambleBank_kept | apply State.setTile_kept | apply State.fset_kept | apply State.setReg_kept
    | (with_reducible apply kept_foldl; intro _ _ _)
    | (with_reducible apply kept_foldl_fst; intro _ _ _)
    | (with_reducible apply kept_foldl_snd; intro _ _ _)
    | with_reducible apply kept_ite
    | simp only [↓kept_mk_iff]
    | with_reducible intro _
    | split

theorem State.commitTile_kept {kk : Keep} (nmem : kk.mem = none) (s : State) (t : Nat) (kh : Kept kk s) : Kept kk (State.commitTile s t) := by
  unfold State.commitTile
  try dsimp only
  repeat' first
    | with_reducible first | assumption | apply State.recoverTile_kept | apply State.unboundTile_kept | apply State.startFence_kept | apply State.fset_kept | apply kept_ite
    | simp only [↓kept_mk_iff]
    | with_reducible intro _
    | split

theorem State.commitMap_kept {kk : Keep} (nmem : kk.mem = none) (s : State) (kh : Kept kk s) : Kept kk (State.commitMap s) := by
  unfold State.commitMap
  try dsimp only
  repeat' first
    | with_reducible first | assumption | apply State.commitTile_kept
    | (with_reducible apply kept_foldl; intro _ _ _)
    | (with_reducible apply kept_foldl_fst; intro _ _ _)
    | (with_reducible apply kept_foldl_snd; intro _ _ _)
    | with_reducible intro _

theorem State.updateEvents_kept {kk : Keep} (s : State) (l : Tab Nat Image) (kh : Kept kk s) : Kept kk (State.updateEvents s l) := by
  unfold State.updateEvents
  try dsimp only
  repeat' first
    | with_reducible first | assumption | apply State.event_kept
    | (with_reducible apply kept_foldl; intro _ _ _)
    | (with_reducible apply kept_foldl_fst; intro _ _ _)
    | (with_reducible apply kept_foldl_snd; intro _ _ _)
    | simp only [↓kept_mk_iff]
    | with_reducible intro _
    | split

theorem State.takeCut_kept {kk : Keep} (nmem : kk.mem = none) (ndev : kk.dev = none) (s : State) (kh : Kept kk s) : Kept kk (State.takeCut s) := by
  unfold State.takeCut
  try dsimp only
  repeat' first
    | with_reducible first | assumption | apply State.updateEvents_kept | apply State.commitMap_kept | apply State.cutReel_kept | apply State.cutTable_kept | apply State.cutStory_kept | apply State.cutC0Borrows_kept | apply State.swapCox_kept | apply State.endCut_kept | apply State.loadBounds_kept | apply State.loadLtres_kept | apply State.openList_kept | apply State.rtCut_kept | apply State.cutEvent_kept | apply State.enter_kept | apply State.fset_kept | apply kept_ite | intro _
    | split

theorem State.disarmNow_kept {kk : Keep} (nmem : kk.mem = none) (s : State) (kh : Kept kk s) : Kept kk (State.disarmNow s) := by
  unfold State.disarmNow
  try dsimp only
  repeat' first
    | with_reducible first | assumption | apply State.resetThread_kept | apply State.startClose_kept | apply State.free_kept
    | (with_reducible apply kept_foldl; intro _ _ _)
    | (with_reducible apply kept_foldl_fst; intro _ _ _)
    | (with_reducible apply kept_foldl_snd; intro _ _ _)
    | (with_reducible refine kept_of_snd ?_ (by assumption))
    | simp only [↓kept_mk_iff]
    | with_reducible intro _

theorem State.drainComplete_kept {kk : Keep} (ndev : kk.dev = none) (s : State) (kh : Kept kk s) : Kept kk (State.drainComplete s) := by
  unfold State.drainComplete
  try dsimp only
  repeat' first
    | with_reducible first | assumption | apply State.enter_kept | apply kept_ite
    | simp only [↓kept_mk_iff]
    | with_reducible intro _
    | split

theorem execDrainComplete_kept {kk : Keep} (ndev : kk.dev = none) (dt : Nat) (s : State) (kh : Kept kk s) : OutKept kk (execDrainComplete dt s) := by
  unfold execDrainComplete
  try dsimp only
  repeat' first
    | with_reducible first | assumption | apply State.drainComplete_kept | apply State.advance_kept | apply outKept_next | intro _

theorem State.clearBudgets_kept {kk : Keep} (s : State) (kh : Kept kk s) : Kept kk (State.clearBudgets s) := by
  unfold State.clearBudgets
  try dsimp only
  repeat' first
    | with_reducible first | assumption | apply State.fset_kept
    | (with_reducible apply kept_foldl; intro _ _ _)
    | (with_reducible apply kept_foldl_fst; intro _ _ _)
    | (with_reducible apply kept_foldl_snd; intro _ _ _)
    | with_reducible apply kept_ite
    | simp only [↓kept_mk_iff]
    | with_reducible intro _
    | split

theorem State.openFirst_kept {kk : Keep} (s : State) (t : Nat) (z0 : Nat) (kh : Kept kk s) : Kept kk (State.openFirst s t z0) := by
  induction z0 generalizing s t with
  | zero =>
    unfold State.openFirst
    try dsimp only
    repeat' first
      | with_reducible first | assumption | apply State.openShot_kept | apply kept_ite
      | simp only [↓kept_mk_iff]
      | with_reducible intro _
      | split
  | succ n ih =>
    unfold State.openFirst
    try dsimp only
    repeat' first
      | with_reducible first | assumption | apply ih | apply State.openShot_kept | apply kept_ite
      | simp only [↓kept_mk_iff]
      | with_reducible intro _
      | split

theorem State.strokeBlocks_kept {kk : Keep} (s : State) (kh : Kept kk s) : Kept kk (State.strokeBlocks s) := by
  unfold State.strokeBlocks
  try dsimp only
  repeat' first
    | with_reducible first | assumption | apply State.onLink_kept
    | (with_reducible apply kept_foldl; intro _ _ _)
    | (with_reducible apply kept_foldl_fst; intro _ _ _)
    | (with_reducible apply kept_foldl_snd; intro _ _ _)
    | simp only [↓kept_mk_iff]
    | with_reducible intro _

theorem State.scanTake_kept {kk : Keep} (s : State) (kh : Kept kk s) : Kept kk (State.scanTake s) := by
  unfold State.scanTake
  try dsimp only
  repeat' first
    | with_reducible first | assumption | apply kept_ite
    | simp only [↓kept_mk_iff]
    | with_reducible intro _
    | split

theorem State.boundary_kept {kk : Keep} (nmem : kk.mem = none) (ndev : kk.dev = none) (s : State) (d : Nat) (kh : Kept kk s) : Kept kk (State.boundary s d) := by
  unfold State.boundary
  try dsimp only
  repeat' first
    | with_reducible first | assumption | apply State.scanTake_kept | apply State.strokeBlocks_kept | apply State.openFirst_kept | apply State.clearBudgets_kept | apply State.disarmNow_kept | apply State.takeCut_kept | apply State.ageTile_kept | apply State.endBudgets_kept | apply State.cutMissed_kept | apply State.sendMarkers_kept | apply State.turnStroke_kept | apply State.rtQuiet_kept | apply State.strokeCnt_kept | apply State.emit_kept | apply State.fset_kept
    | (with_reducible apply kept_foldl; intro _ _ _)
    | (with_reducible apply kept_foldl_fst; intro _ _ _)
    | (with_reducible apply kept_foldl_snd; intro _ _ _)
    | with_reducible first | apply kept_ite | intro _
    | split

theorem State.strokeBoundary_kept {kk : Keep} (nmem : kk.mem = none) (ndev : kk.dev = none) (s : State) (kh : Kept kk s) : Kept kk (State.strokeBoundary s) := by
  unfold State.strokeBoundary
  try dsimp only
  repeat' first
    | with_reducible first | assumption | apply State.boundary_kept | apply kept_ite | intro _
    | split

theorem execStrokeBoundary_kept {kk : Keep} (nmem : kk.mem = none) (ndev : kk.dev = none) (dt : Nat) (s : State) (kh : Kept kk s) : OutKept kk (execStrokeBoundary dt s) := by
  unfold execStrokeBoundary
  try dsimp only
  repeat' first
    | with_reducible first | assumption | apply State.strokeBoundary_kept | apply State.advance_kept | apply outKept_next | intro _

theorem State.segmentMoved_kept {kk : Keep} (s : State) (kh : Kept kk s) : Kept kk (State.segmentMoved s) := by
  unfold State.segmentMoved
  try dsimp only
  repeat' first
    | with_reducible first | assumption | apply State.setReason_kept | apply State.event_kept | apply State.raiseDev_kept | apply State.fset_kept | apply kept_ite
    | simp only [↓kept_mk_iff]
    | with_reducible intro _
    | split

theorem execSegmentMoveComplete_kept {kk : Keep} (dt : Nat) (s : State) (kh : Kept kk s) : OutKept kk (execSegmentMoveComplete dt s) := by
  unfold execSegmentMoveComplete
  try dsimp only
  repeat' first
    | with_reducible first | assumption | apply State.segmentMoved_kept | apply State.advance_kept | apply outKept_next | intro _

theorem State.intoReset_kept {kk : Keep} (nmem : kk.mem = none) (ngraph : kk.graph = none) (ndev : kk.dev = none) (s : State) (kh : Kept kk s) : Kept kk (State.intoReset s) :=
  ⟨kh.queue, rfl, fun _ e => (nomatch nmem.symm.trans e), fun _ e => (nomatch ngraph.symm.trans e), fun _ e => (nomatch ndev.symm.trans e)⟩

theorem State.resetPins_kept {kk : Keep} (s : State) (svc : Bool) (kh : Kept kk s) : Kept kk (State.resetPins s svc) := by
  unfold State.resetPins
  try dsimp only
  repeat' first
    | with_reducible first | assumption | apply State.showState_kept | apply State.emit_kept | apply kept_ite | intro _
    | split

theorem State.enterReset_kept {kk : Keep} (nmem : kk.mem = none) (ngraph : kk.graph = none) (ndev : kk.dev = none) (s : State) (kh : Kept kk s) : Kept kk (State.enterReset s) := by
  unfold State.enterReset
  try dsimp only
  repeat' first
    | with_reducible first | assumption | apply State.resetPins_kept | apply State.intoReset_kept | apply kept_ite | intro _
    | split

theorem State.resetCmd_kept {kk : Keep} (nmem : kk.mem = none) (ngraph : kk.graph = none) (ndev : kk.dev = none) (s : State) (kh : Kept kk s) : Kept kk (State.resetCmd s) := by
  unfold State.resetCmd
  try dsimp only
  repeat' first
    | with_reducible first | assumption | apply State.enterReset_kept | apply State.showState_kept | apply State.onTile_kept
    | (with_reducible apply kept_foldl; intro _ _ _)
    | (with_reducible apply kept_foldl_fst; intro _ _ _)
    | (with_reducible apply kept_foldl_snd; intro _ _ _)
    | simp only [↓kept_mk_iff]
    | with_reducible intro _

theorem State.coldStart_kept {kk : Keep} (nmem : kk.mem = none) (ngraph : kk.graph = none) (ndev : kk.dev = none) (s : State) (kh : Kept kk s) : Kept kk (State.coldStart s) := by
  unfold State.coldStart
  try dsimp only
  repeat' first
    | with_reducible first | assumption | apply State.intoReset_kept | apply State.setReg_kept
    | simp only [↓kept_mk_iff]
    | with_reducible intro _

theorem State.powerOn_kept {kk : Keep} (nmem : kk.mem = none) (ngraph : kk.graph = none) (ndev : kk.dev = none) (s : State) (kh : Kept kk s) : Kept kk (State.powerOn s) := by
  unfold State.powerOn
  try dsimp only
  repeat' first
    | with_reducible first | assumption | apply State.coldStart_kept | apply State.fset_kept | apply kept_ite
    | simp only [↓kept_mk_iff]
    | with_reducible intro _
    | split

theorem execPowerOn_kept {kk : Keep} (nmem : kk.mem = none) (ngraph : kk.graph = none) (ndev : kk.dev = none) (dt : Nat) (s : State) (kh : Kept kk s) : OutKept kk (execPowerOn dt s) := by
  unfold execPowerOn
  try dsimp only
  repeat' first
    | with_reducible first | assumption | apply State.powerOn_kept | apply State.advance_kept | apply outKept_next | intro _

theorem State.porstAssert_kept {kk : Keep} (nmem : kk.mem = none) (ngraph : kk.graph = none) (ndev : kk.dev = none) (s : State) (kh : Kept kk s) : Kept kk (State.porstAssert s) := by
  unfold State.porstAssert
  try dsimp only
  repeat' first
    | with_reducible first | assumption | apply State.enterReset_kept | apply State.showState_kept | apply kept_ite
    | simp only [↓kept_mk_iff]
    | with_reducible intro _
    | split

theorem execPorstAssert_kept {kk : Keep} (nmem : kk.mem = none) (ngraph : kk.graph = none) (ndev : kk.dev = none) (dt : Nat) (s : State) (kh : Kept kk s) : OutKept kk (execPorstAssert dt s) := by
  unfold execPorstAssert
  try dsimp only
  repeat' first
    | with_reducible first | assumption | apply State.porstAssert_kept | apply State.advance_kept | apply outKept_next | intro _

theorem State.porstDeassert_kept {kk : Keep} (s : State) (kh : Kept kk s) : Kept kk (State.porstDeassert s) := by
  unfold State.porstDeassert
  try dsimp only
  repeat' first
    | with_reducible first | assumption | apply kept_ite
    | simp only [↓kept_mk_iff]
    | with_reducible intro _
    | split

theorem execPorstDeassert_kept {kk : Keep} (dt : Nat) (s : State) (kh : Kept kk s) : OutKept kk (execPorstDeassert dt s) := by
  unfold execPorstDeassert
  try dsimp only
  repeat' first
    | with_reducible first | assumption | apply State.porstDeassert_kept | apply State.advance_kept | apply outKept_next | intro _

theorem State.brownOut_kept {kk : Keep} (nmem : kk.mem = none) (ngraph : kk.graph = none) (ndev : kk.dev = none) (s : State) (kh : Kept kk s) : Kept kk (State.brownOut s) := by
  unfold State.brownOut
  try dsimp only
  repeat' first
    | with_reducible first | assumption | apply State.enterReset_kept | apply kept_ite
    | simp only [↓kept_mk_iff]
    | with_reducible intro _
    | split

theorem execBrownOut_kept {kk : Keep} (nmem : kk.mem = none) (ngraph : kk.graph = none) (ndev : kk.dev = none) (dt : Nat) (s : State) (kh : Kept kk s) : OutKept kk (execBrownOut dt s) := by
  unfold execBrownOut
  try dsimp only
  repeat' first
    | with_reducible first | assumption | apply State.brownOut_kept | apply State.advance_kept | apply outKept_next | intro _

theorem State.keelOff_kept {kk : Keep} (s : State) (kh : Kept kk s) : Kept kk (State.keelOff s) := by
  unfold State.keelOff
  try dsimp only
  repeat' first
    | with_reducible first | assumption | apply kept_ite
    | simp only [↓kept_mk_iff]
    | with_reducible intro _
    | split

theorem execKeelLosesPower_kept {kk : Keep} (dt : Nat) (s : State) (kh : Kept kk s) : OutKept kk (execKeelLosesPower dt s) := by
  unfold execKeelLosesPower
  try dsimp only
  repeat' first
    | with_reducible first | assumption | apply State.keelOff_kept | apply State.advance_kept | apply outKept_next | intro _

theorem State.resetEnd_kept {kk : Keep} (ndev : kk.dev = none) (s : State) (clock : Bool) (kh : Kept kk s) : Kept kk (State.resetEnd s clock) := by
  unfold State.resetEnd
  try dsimp only
  repeat' first
    | with_reducible first | assumption | apply State.showState_kept | apply State.fset_kept | apply kept_ite
    | simp only [↓kept_mk_iff]
    | simp only [↓kept_dev_iff ndev]
    | with_reducible intro _
    | split

theorem execResetEnd_kept {kk : Keep} (ndev : kk.dev = none) (dt : Nat) (clock : Bool) (s : State) (kh : Kept kk s) : OutKept kk (execResetEnd dt clock s) := by
  unfold execResetEnd
  try dsimp only
  repeat' first
    | with_reducible first | assumption | apply State.resetEnd_kept | apply State.advance_kept | apply outKept_next | intro _

theorem State.sensors_kept {kk : Keep} (s : State) (temps : List Int) (lid : Int) (kh : Kept kk s) : Kept kk (State.sensors s temps lid) := by
  unfold State.sensors
  try dsimp only
  repeat' first
    | with_reducible first | assumption | apply State.free_kept | apply State.fset_kept
    | (with_reducible refine kept_of_snd ?_ (by assumption))
    | with_reducible first | apply kept_ite | intro _
    | split

theorem execJunctionSensorRead_kept {kk : Keep} (dt : Nat) (temps : List Int) (lid : Int) (s : State) (kh : Kept kk s) : OutKept kk (execJunctionSensorRead dt temps lid s) := by
  unfold execJunctionSensorRead
  try dsimp only
  repeat' first
    | with_reducible first | assumption | apply State.sensors_kept | apply State.advance_kept | apply outKept_next | intro _

theorem State.thermalTrip_kept {kk : Keep} (nmem : kk.mem = none) (ngraph : kk.graph = none) (ndev : kk.dev = none) (s : State) (kh : Kept kk s) : Kept kk (State.thermalTrip s) := by
  unfold State.thermalTrip
  try dsimp only
  repeat' first
    | with_reducible first | assumption | apply State.enterReset_kept | apply State.fset_kept | apply kept_ite
    | simp only [↓kept_mk_iff]
    | with_reducible intro _
    | split

theorem execThermalTrip_kept {kk : Keep} (nmem : kk.mem = none) (ngraph : kk.graph = none) (ndev : kk.dev = none) (dt : Nat) (s : State) (kh : Kept kk s) : OutKept kk (execThermalTrip dt s) := by
  unfold execThermalTrip
  try dsimp only
  repeat' first
    | with_reducible first | assumption | apply State.thermalTrip_kept | apply State.advance_kept | apply outKept_next | intro _

theorem State.refclkLost_kept {kk : Keep} (s : State) (kh : Kept kk s) : Kept kk (State.refclkLost s) := by
  unfold State.refclkLost
  try dsimp only
  repeat' first
    | with_reducible first | assumption | apply State.fset_kept | apply kept_ite | intro _
    | split

theorem execRefclkLost_kept {kk : Keep} (dt : Nat) (s : State) (kh : Kept kk s) : OutKept kk (execRefclkLost dt s) := by
  unfold execRefclkLost
  try dsimp only
  repeat' first
    | with_reducible first | assumption | apply State.refclkLost_kept | apply State.advance_kept | apply outKept_next | intro _

theorem State.applyRetired_kept {kk : Keep} (s : State) (kh : Kept kk s) : Kept kk (State.applyRetired s) := by
  unfold State.applyRetired
  try dsimp only
  repeat' first
    | with_reducible first | assumption | apply State.startSubst_kept | apply State.setReason_kept | apply State.fset_kept
    | (with_reducible apply kept_foldl; intro _ _ _)
    | (with_reducible apply kept_foldl_fst; intro _ _ _)
    | (with_reducible apply kept_foldl_snd; intro _ _ _)
    | with_reducible apply kept_ite
    | simp only [↓kept_mk_iff]
    | with_reducible intro _
    | split

theorem State.applyMapout_kept {kk : Keep} (s : State) (kh : Kept kk s) : Kept kk (State.applyMapout s) := by
  unfold State.applyMapout
  try dsimp only
  repeat' first
    | with_reducible first | assumption | apply State.setReason_kept | apply State.event_kept | apply State.raiseDev_kept | apply State.fset_kept
    | simp only [↓kept_mk_iff]
    | with_reducible intro _
    | split

theorem State.bootDone_kept {kk : Keep} (nmem : kk.mem = none) (ndev : kk.dev = none) (s : State) (slot : Nat) (kh : Kept kk s) : Kept kk (State.bootDone s slot) := by
  unfold State.bootDone
  try dsimp only
  repeat' first
    | with_reducible first | assumption | apply State.applyMapout_kept | apply State.applyRetired_kept | apply State.setReason_kept | apply State.enter_kept | apply State.emit_kept | apply State.fset_kept
    | (with_reducible refine kept_nil nmem ?_)
    | with_reducible apply kept_ite
    | simp only [↓kept_mk_iff]
    | with_reducible intro _
    | split

theorem execBootChainComplete_kept {kk : Keep} (nmem : kk.mem = none) (ndev : kk.dev = none) (dt : Nat) (slot : Fin 2) (s : State) (kh : Kept kk s) : OutKept kk (execBootChainComplete dt slot s) := by
  unfold execBootChainComplete
  try dsimp only
  repeat' first
    | with_reducible first | assumption | apply State.bootDone_kept | apply State.advance_kept | apply outKept_next | intro _

theorem State.enterFault_kept {kk : Keep} (ndev : kk.dev = none) (s : State) (cause : Nat) (kh : Kept kk s) : Kept kk (State.enterFault s cause) := by
  unfold State.enterFault
  try dsimp only
  repeat' first
    | with_reducible first | assumption | apply State.linkTo_kept | apply State.enter_kept | apply State.event_kept
    | (with_reducible apply kept_foldl; intro _ _ _)
    | (with_reducible apply kept_foldl_fst; intro _ _ _)
    | (with_reducible apply kept_foldl_snd; intro _ _ _)
    | with_reducible apply kept_ite
    | simp only [↓kept_mk_iff]
    | with_reducible intro _
    | split

theorem execFaultEntry_kept {kk : Keep} (ndev : kk.dev = none) (dt : Nat) (cause : Sys2Proof.FatalCause) (s : State) (kh : Kept kk s) : OutKept kk (execFaultEntry dt cause s) := by
  unfold execFaultEntry
  try dsimp only
  repeat' first
    | with_reducible first | assumption | apply State.enterFault_kept | apply State.advance_kept | apply outKept_next | apply kept_ite
    | simp only [↓kept_mk_iff]
    | with_reducible intro _
    | split

theorem State.ans_kept {kk : Keep} (s : State) (code : Nat) (kh : Kept kk s) : Kept kk (State.ans s code).st := by
  unfold State.ans
  try dsimp only
  repeat' first
    | with_reducible first | assumption | intro _

theorem State.stage_kept {kk : Keep} (s : State) (m : Image) (a len : Nat) (kh : Kept kk s) : Kept kk (State.stage s m a len) := by
  unfold State.stage
  try dsimp only
  repeat' first
    | with_reducible first | assumption | apply State.setShadow_kept | apply State.fset_kept
    | (with_reducible apply kept_foldl; intro _ _ _)
    | (with_reducible apply kept_foldl_fst; intro _ _ _)
    | (with_reducible apply kept_foldl_snd; intro _ _ _)
    | with_reducible apply kept_ite
    | simp only [↓kept_mk_iff]
    | with_reducible intro _
    | split

theorem State.verify_kept {kk : Keep} (s : State) (a len : Nat) (kh : Kept kk s) : Kept kk (State.verify s a len).st := by
  unfold State.verify
  try dsimp only
  repeat' first
    | with_reducible first | assumption | apply State.stage_kept | apply State.ans_kept | apply State.event_kept | apply State.free_kept | apply State.fset_kept
    | (with_reducible refine kept_of_snd ?_ (by assumption))
    | with_reducible first | apply kept_ite | intro _
    | split

theorem State.unstage_kept {kk : Keep} (s : State) (kind : Nat) (kh : Kept kk s) : Kept kk (State.unstage s kind).st := by
  unfold State.unstage
  try dsimp only
  repeat' first
    | with_reducible first | assumption | apply State.ans_kept | apply State.setShadow_kept | apply State.fset_kept
    | (with_reducible apply kept_foldl; intro _ _ _)
    | (with_reducible apply kept_foldl_fst; intro _ _ _)
    | (with_reducible apply kept_foldl_snd; intro _ _ _)
    | with_reducible apply kept_ite
    | simp only [↓kept_mk_iff]
    | with_reducible intro _
    | split

theorem State.loadSeg_kept {kk : Keep} (ngraph : kk.graph = none) (s : State) (p : List Byte) (g : Nat × Nat × Nat × Nat) (kh : Kept kk s) : Kept kk (State.loadSeg s p g) := by
  unfold State.loadSeg
  try dsimp only
  repeat' first
    | with_reducible assumption
    | (with_reducible apply kept_foldl; intro _ _ _)
    | (with_reducible apply kept_foldl_fst; intro _ _ _)
    | (with_reducible apply kept_foldl_snd; intro _ _ _)
    | simp only [↓kept_mk_iff]
    | simp only [↓kept_graph_iff ngraph]
    | with_reducible intro _

theorem State.reelDone_kept {kk : Keep} (ngraph : kk.graph = none) (s : State) (kh : Kept kk s) : Kept kk (State.reelDone s) := by
  unfold State.reelDone
  try dsimp only
  repeat' first
    | with_reducible first | assumption | apply State.loadSeg_kept | apply State.event_kept | apply State.fset_kept
    | (with_reducible apply kept_foldl; intro _ _ _)
    | (with_reducible apply kept_foldl_fst; intro _ _ _)
    | (with_reducible apply kept_foldl_snd; intro _ _ _)
    | simp only [↓kept_mk_iff]
    | with_reducible intro _
    | split

theorem execReelCopyComplete_kept {kk : Keep} (ngraph : kk.graph = none) (dt : Nat) (s : State) (kh : Kept kk s) : OutKept kk (execReelCopyComplete dt s) := by
  unfold execReelCopyComplete
  try dsimp only
  repeat' first
    | with_reducible first | assumption | apply State.reelDone_kept | apply State.advance_kept | apply outKept_next | intro _

theorem State.busy_kept {kk : Keep} (s : State) (kh : Kept kk s) : Kept kk (State.busy s) := by
  unfold State.busy
  try dsimp only
  repeat' first
    | with_reducible assumption
    | simp only [↓kept_mk_iff]
    | with_reducible intro _

theorem State.fwact_kept {kk : Keep} (s : State) (kh : Kept kk s) : Kept kk (State.fwact s).st := by
  unfold State.fwact
  try dsimp only
  repeat' first
    | with_reducible first | assumption | apply State.busy_kept | apply State.ans_kept | apply State.showState_kept | apply kept_ite
    | simp only [↓kept_mk_iff]
    | with_reducible intro _
    | split

theorem State.fwReady_kept {kk : Keep} (s : State) (kh : Kept kk s) : Kept kk (State.fwReady s) := by
  unfold State.fwReady
  try dsimp only
  repeat' first
    | with_reducible first | assumption | apply State.showState_kept | apply State.event_kept | apply State.fset_kept | apply kept_ite
    | simp only [↓kept_mk_iff]
    | with_reducible intro _
    | split

theorem execFirmwareReady_kept {kk : Keep} (dt : Nat) (s : State) (kh : Kept kk s) : OutKept kk (execFirmwareReady dt s) := by
  unfold execFirmwareReady
  try dsimp only
  repeat' first
    | with_reducible first | assumption | apply State.fwReady_kept | apply State.advance_kept | apply outKept_next | intro _

theorem State.fwBack_kept {kk : Keep} (s : State) (kh : Kept kk s) : Kept kk (State.fwBack s) := by
  unfold State.fwBack
  try dsimp only
  repeat' first
    | with_reducible first | assumption | apply State.busy_kept | apply State.showState_kept | apply State.event_kept | apply State.fset_kept
    | simp only [↓kept_mk_iff]
    | with_reducible intro _

theorem State.fwRevert_kept {kk : Keep} (s : State) (kh : Kept kk s) : Kept kk (State.fwRevert s) := by
  unfold State.fwRevert
  try dsimp only
  repeat' first
    | with_reducible first | assumption | apply State.fwBack_kept | apply kept_ite | intro _
    | split

theorem execFirmwareRevert_kept {kk : Keep} (dt : Nat) (s : State) (kh : Kept kk s) : OutKept kk (execFirmwareRevert dt s) := by
  unfold execFirmwareRevert
  try dsimp only
  repeat' first
    | with_reducible first | assumption | apply State.fwRevert_kept | apply State.advance_kept | apply outKept_next | intro _

theorem State.watchdog_kept {kk : Keep} (ndev : kk.dev = none) (s : State) (kh : Kept kk s) : Kept kk (State.watchdog s) := by
  unfold State.watchdog
  try dsimp only
  repeat' first
    | with_reducible first | assumption | apply State.fwBack_kept | apply State.enterFault_kept | apply kept_ite
    | simp only [↓kept_mk_iff]
    | with_reducible intro _
    | split

theorem execWatchdogExpiry_kept {kk : Keep} (ndev : kk.dev = none) (dt : Nat) (s : State) (kh : Kept kk s) : OutKept kk (execWatchdogExpiry dt s) := by
  unfold execWatchdogExpiry
  try dsimp only
  repeat' first
    | with_reducible first | assumption | apply State.watchdog_kept | apply State.advance_kept | apply outKept_next | intro _

theorem State.commitSlot_kept {kk : Keep} (s : State) (k : Nat) (kh : Kept kk s) : Kept kk (State.commitSlot s k) := by
  unfold State.commitSlot
  try dsimp only
  repeat' first
    | with_reducible first | assumption | apply State.advanceMono_kept | apply State.event_kept | apply State.fset_kept
    | simp only [↓kept_mk_iff]
    | with_reducible intro _

theorem State.fwcommit_kept {kk : Keep} (s : State) (kh : Kept kk s) : Kept kk (State.fwcommit s).st := by
  unfold State.fwcommit
  try dsimp only
  repeat' first
    | with_reducible first | assumption | apply State.commitSlot_kept | apply State.ans_kept | apply kept_ite
    | simp only [↓kept_mk_iff]
    | with_reducible intro _
    | split

theorem State.subst_kept {kk : Keep} (s : State) (t spare : Nat) (kh : Kept kk s) : Kept kk (State.subst s t spare).st := by
  unfold State.subst
  try dsimp only
  repeat' first
    | with_reducible first | assumption | apply State.ans_kept | apply State.ltmapWrite_kept
    | (with_reducible refine WRes.Kept.ok ?_ (by assumption))
    | with_reducible apply kept_ite
    | simp only [↓kept_mk_iff]
    | with_reducible intro _
    | split

theorem State.subcan_kept {kk : Keep} (s : State) (t : Nat) (kh : Kept kk s) : Kept kk (State.subcan s t).st := by
  unfold State.subcan
  try dsimp only
  repeat' first
    | with_reducible first | assumption | apply State.ans_kept | apply State.dropSubst_kept | apply kept_ite | intro _
    | split

theorem State.presync_kept {kk : Keep} (s : State) (t : Nat) (kh : Kept kk s) : Kept kk (State.presync s t) := by
  unfold State.presync
  try dsimp only
  repeat' first
    | with_reducible first | assumption | apply State.armCut_kept
    | (with_reducible refine ExKept.get ?_ (by assumption))
    | with_reducible apply kept_ite
    | simp only [↓kept_mk_iff]
    | with_reducible intro _
    | split

theorem execPresync_kept {kk : Keep} (dt : Nat) (t : Sys2Proof.TileId) (s : State) (kh : Kept kk s) : OutKept kk (execPresync dt t s) := by
  unfold execPresync
  try dsimp only
  repeat' first
    | with_reducible first | assumption | apply State.presync_kept | apply State.advance_kept | apply outKept_next | intro _

theorem State.stateMoved_kept {kk : Keep} (s : State) (t : Nat) (kh : Kept kk s) : Kept kk (State.stateMoved s t) := by
  unfold State.stateMoved
  try dsimp only
  repeat' first
    | with_reducible first | assumption | apply State.startFence_kept | apply kept_ite
    | simp only [↓kept_mk_iff]
    | with_reducible intro _
    | split

theorem execStateMoveComplete_kept {kk : Keep} (dt : Nat) (t : Sys2Proof.TileId) (s : State) (kh : Kept kk s) : OutKept kk (execStateMoveComplete dt t s) := by
  unfold execStateMoveComplete
  try dsimp only
  repeat' first
    | with_reducible first | assumption | apply State.stateMoved_kept | apply State.advance_kept | apply outKept_next | intro _

theorem State.evacuate_kept {kk : Keep} (nmem : kk.mem = none) (s : State) (t : Nat) (kh : Kept kk s) : Kept kk (State.evacuate s t) := by
  unfold State.evacuate
  try dsimp only
  repeat' first
    | with_reducible first | assumption | apply State.resetWithToken_kept | apply State.laneDrain_kept | apply State.startClose_kept | apply State.free_kept
    | (with_reducible apply kept_foldl; intro _ _ _)
    | (with_reducible apply kept_foldl_fst; intro _ _ _)
    | (with_reducible apply kept_foldl_snd; intro _ _ _)
    | (with_reducible refine kept_of_snd ?_ (by assumption))
    | with_reducible intro _

theorem State.tileOut_kept {kk : Keep} (s : State) (t : Nat) (kh : Kept kk s) : Kept kk (State.tileOut s t) := by
  unfold State.tileOut
  try dsimp only
  repeat' first
    | with_reducible first | assumption | apply State.setReason_kept | apply State.event_kept | apply State.fset_kept
    | simp only [↓kept_mk_iff]
    | with_reducible intro _

theorem State.autoSubst_kept {kk : Keep} (nmem : kk.mem = none) (s : State) (t : Nat) (kh : Kept kk s) : Kept kk (State.autoSubst s t) := by
  unfold State.autoSubst
  try dsimp only
  repeat' first
    | with_reducible first | assumption | apply State.tileOut_kept | apply State.evacuate_kept | apply State.startSubst_kept | apply kept_ite
    | simp only [↓kept_mk_iff]
    | with_reducible intro _
    | split

theorem execAutoSubst_kept {kk : Keep} (nmem : kk.mem = none) (dt : Nat) (t : Sys2Proof.TileId) (s : State) (kh : Kept kk s) : OutKept kk (execAutoSubst dt t s) := by
  unfold execAutoSubst
  try dsimp only
  repeat' first
    | with_reducible first | assumption | apply State.autoSubst_kept | apply State.advance_kept | apply outKept_next | intro _

theorem State.attest_kept {kk : Keep} (nmem : kk.mem = none) (s : State) (a : Nat) (kh : Kept kk s) : Kept kk (State.attest s a).st := by
  unfold State.attest
  try dsimp only
  repeat' first
    | with_reducible first | assumption | apply State.ans_kept | apply State.setReason_kept | apply State.put_kept | apply kept_ite
    | simp only [↓kept_mk_iff]
    | with_reducible intro _
    | split

theorem State.retrain_kept {kk : Keep} (s : State) (arg : Nat) (kh : Kept kk s) : Kept kk (State.retrain s arg).st := by
  unfold State.retrain
  try dsimp only
  repeat' first
    | with_reducible first | assumption | apply State.ans_kept | apply State.linkTo_kept | apply kept_ite | intro _
    | split

theorem State.access_kept {kk : Keep} (nmem : kk.mem = none) (s : State) (m : MemReq) (kh : Kept kk s) : Kept kk (State.access s m).st := by
  unfold State.access
  try dsimp only
  repeat' first
    | with_reducible first | assumption | apply State.useCor_kept | apply State.countUnc_kept | apply State.put_kept | apply kept_ite
    | simp only [↓kept_mk_iff]
    | with_reducible intro _
    | split

theorem State.hostPart_kept {kk : Keep} (s : State) (id off data code : Nat) (kh : Kept kk s) : Kept kk (State.hostPart s id off data code) := by
  unfold State.hostPart
  try dsimp only
  repeat' first
    | with_reducible first | assumption | apply State.emit_kept | apply kept_ite | apply kept_id
    | simp only [↓kept_mk_iff]
    | with_reducible intro _
    | split

theorem State.dapEnd_kept {kk : Keep} (s : State) (data err : Nat) (kh : Kept kk s) : Kept kk (State.dapEnd s data err) := by
  unfold State.dapEnd
  try dsimp only
  repeat' first
    | with_reducible first | assumption | apply State.emit_kept | apply State.fset_kept | intro _

theorem State.answer_kept {kk : Keep} (nmem : kk.mem = none) (s : State) (id : Nat) (who : Sys2Proof.Req) (off data code : Nat) (write : Bool) (kh : Kept kk s) : Kept kk (State.answer s id who off data code write) := by
  unfold State.answer
  try dsimp only
  repeat' first
    | with_reducible first | assumption | apply State.dapEnd_kept | apply State.hostPart_kept | apply State.fireSettle_kept | apply State.firePart_kept | apply State.threadPart_kept | apply kept_id
    | simp only [↓kept_mk_iff]
    | with_reducible intro _
    | split

theorem State.dropReq_kept {kk : Keep} (s : State) (m : MemReq) (kh : Kept kk s) : Kept kk (State.dropReq s m) := by
  unfold State.dropReq
  try dsimp only
  repeat' first
    | with_reducible first | assumption | apply kept_id
    | simp only [↓kept_mk_iff]
    | with_reducible intro _

theorem State.lateFault_kept {kk : Keep} (nmem : kk.mem = none) (s : State) (m : MemReq) (code : Nat) (kh : Kept kk s) : Kept kk (State.lateFault s m code) := by
  unfold State.lateFault
  try dsimp only
  repeat' first
    | with_reducible first | assumption | apply State.pushThreadFault_kept | apply kept_ite
    | simp only [↓kept_mk_iff]
    | with_reducible intro _
    | split

theorem State.bankAnswer_kept {kk : Keep} (nmem : kk.mem = none) (s : State) (m : MemReq) (data code : Nat) (kh : Kept kk s) : OptKept kk (State.bankAnswer s m data code) := by
  unfold State.bankAnswer
  try dsimp only
  repeat' first
    | with_reducible first | assumption | apply State.lateFault_kept | apply State.answer_kept | apply State.inject_kept | exact optKept_none | apply optKept_some | apply optKept_ite
    | (with_reducible refine Inj.Kept.sent ?_ (by assumption))
    | (with_reducible refine Inj.Kept.fenced ?_ (by assumption))
    | with_reducible first | apply kept_ite | apply kept_id
    | simp only [↓kept_mk_iff]
    | with_reducible intro _
    | split

theorem State.bankGrant_kept {kk : Keep} (nmem : kk.mem = none) (s : State) (t b : Nat) (kh : Kept kk s) : Kept kk (State.bankGrant s t b) := by
  unfold State.bankGrant
  try dsimp only
  repeat' first
    | with_reducible first | assumption | apply State.bankAnswer_kept | apply State.dropReq_kept | apply State.access_kept | apply State.bankStart_kept | apply State.onTile_kept
    | (with_reducible refine OptKept.get ?_ (by assumption))
    | with_reducible first | apply OptKept.getD | apply kept_ite
    | simp only [↓kept_mk_iff]
    | with_reducible intro _
    | split

theorem execBankGrant_kept {kk : Keep} (nmem : kk.mem = none) (dt : Nat) (t : Sys2Proof.TileId) (b : Fin 32) (s : State) (kh : Kept kk s) : OutKept kk (execBankGrant dt t b s) := by
  unfold execBankGrant
  try dsimp only
  repeat' first
    | with_reducible first | assumption | apply State.bankGrant_kept | apply State.advance_kept | apply outKept_next | intro _

theorem State.eccWriteBack_kept {kk : Keep} (s : State) (t b : Nat) (kh : Kept kk s) : Kept kk (State.eccWriteBack s t b) := by
  unfold State.eccWriteBack
  try dsimp only
  repeat' first
    | with_reducible first | assumption | apply State.onTile_kept | apply kept_ite
    | simp only [↓kept_mk_iff]
    | with_reducible intro _
    | split

theorem execEccWriteBack_kept {kk : Keep} (dt : Nat) (t : Sys2Proof.TileId) (b : Fin 32) (s : State) (kh : Kept kk s) : OutKept kk (execEccWriteBack dt t b s) := by
  unfold execEccWriteBack
  try dsimp only
  repeat' first
    | with_reducible first | assumption | apply State.eccWriteBack_kept | apply State.advance_kept | apply outKept_next | intro _

theorem State.dramDone_kept {kk : Keep} (nmem : kk.mem = none) (s : State) (i : Nat) (kh : Kept kk s) : Kept kk (State.dramDone s i) := by
  unfold State.dramDone
  try dsimp only
  repeat' first
    | with_reducible first | assumption | apply State.answer_kept | apply State.access_kept | apply kept_ite | apply kept_id
    | simp only [↓kept_mk_iff]
    | with_reducible intro _
    | split

theorem execLpddr4xAccessComplete_kept {kk : Keep} (nmem : kk.mem = none) (dt : Nat) (i : Nat) (s : State) (kh : Kept kk s) : OutKept kk (execLpddr4xAccessComplete dt i s) := by
  unfold execLpddr4xAccessComplete
  try dsimp only
  repeat' first
    | with_reducible first | assumption | apply State.dramDone_kept | apply State.advance_kept | apply outKept_next | intro _

theorem State.collision_kept {kk : Keep} (s : State) (w : Nat) (kh : Kept kk s) : Kept kk (State.collision s w) := by
  unfold State.collision
  try dsimp only
  repeat' first
    | with_reducible first | assumption | apply State.raiseDev_kept | apply State.inc_kept | apply State.fset_kept | intro _

theorem State.mailbox_kept {kk : Keep} (nmem : kk.mem = none) (s : State) (internal : Bool) (host : Option Sys2Proof.HostAcc) (kh : Kept kk s) : Kept kk (State.mailbox s internal host) := by
  unfold State.mailbox
  try dsimp only
  repeat' first
    | with_reducible first | assumption | apply State.collision_kept | apply State.answer_kept | apply State.emit_kept | apply kept_ite | apply kept_id
    | simp only [↓kept_mk_iff]
    | with_reducible intro _
    | split

theorem execMailboxAccess_kept {kk : Keep} (nmem : kk.mem = none) (dt : Nat) (internal : Bool) (host : Option Sys2Proof.HostAcc) (s : State) (kh : Kept kk s) : OutKept kk (execMailboxAccess dt internal host s) := by
  unfold execMailboxAccess
  try dsimp only
  repeat' first
    | with_reducible first | assumption | apply State.mailbox_kept | apply State.advance_kept | apply outKept_next | intro _

end Sys2Proof.Machine
end

