-- ==== Sys2Proof/Laws/KeptHost.lean ====
section
/-! SUPPORT. What the model keeps (Kept.lean): Aklofy, the host port, the mesh and the rows of register writes. One lemma for each operation: memory, graph memory and the device state are kept unless the lemma asks that they need not be. -/
namespace Sys2Proof.Machine

theorem State.dataMem_kept {kk : Keep} (nmem : kk.mem = none) (s : State) (a : Nat) (w : Option Word) (kh : Kept kk s) : Kept kk (State.dataMem s a w).st := by
  unfold State.dataMem
  try dsimp only
  repeat' first
    | with_reducible first | assumption | apply State.access_kept | apply State.bankStart_kept | apply OptKept.getD | apply kept_ite
    | simp only [↓kept_mk_iff]
    | with_reducible intro _
    | split

theorem State.dataAccess_kept {kk : Keep} (nmem : kk.mem = none) (s : State) (lvl : Nat) (w : Option Word) (kh : Kept kk s) : Kept kk (State.dataAccess s lvl w).st := by
  unfold State.dataAccess
  try dsimp only
  repeat' first
    | with_reducible first | assumption | apply State.dataMem_kept | apply State.mailbox_kept | apply State.ioWrite_kept | apply State.ioRead_kept
    | (with_reducible refine ExKept2.get ?_ (by assumption))
    | (with_reducible refine WRes.Kept.ok ?_ (by assumption))
    | with_reducible first | apply OptKept.getD | apply kept_ite
    | simp only [↓kept_mk_iff]
    | with_reducible intro _
    | split

theorem State.dataPort_kept {kk : Keep} (nmem : kk.mem = none) (s : State) (lvl : Nat) (w : Option Word) (kh : Kept kk s) : Kept kk (State.dataPort s lvl w).st := by
  unfold State.dataPort
  try dsimp only
  repeat' first
    | with_reducible first | assumption | apply State.dataAccess_kept
    | simp only [↓kept_mk_iff]
    | with_reducible intro _

theorem State.dictGet_kept {kk : Keep} (nmem : kk.mem = none) (s : State) (lvl : Nat) (e : DictEnt) (kh : Kept kk s) : Kept kk (State.dictGet s lvl e).st := by
  unfold State.dictGet
  try dsimp only
  repeat' first
    | with_reducible first | assumption | apply State.dataPort_kept | apply State.regRead_kept
    | (with_reducible refine kept_of_snd ?_ (by assumption))
    | simp only [↓kept_mk_iff]
    | with_reducible intro _
    | split

theorem State.dictRead_kept {kk : Keep} (nmem : kk.mem = none) (s : State) (lvl ix sub : Nat) (kh : Kept kk s) : Kept kk (State.dictRead s lvl ix sub).st := by
  unfold State.dictRead
  try dsimp only
  repeat' first
    | with_reducible first | assumption | apply State.dictGet_kept | apply State.ans_kept | apply kept_ite
    | simp only [↓kept_mk_iff]
    | with_reducible intro _
    | split

theorem State.siteStore_kept {kk : Keep} (nmem : kk.mem = none) (s : State) (lvl l n : Nat) (b : List Byte) (kh : Kept kk s) : ExKept kk (State.siteStore s lvl l n b) := by
  unfold State.siteStore
  dsimp only
  apply exKept_foldl
  · intro r a kr
    split
    · exact exKept_error
    · rename_i t
      split
      · rename_i u e
        exact exKept_ok ((State.regWrite_kept nmem t _ _ _ _ _ (kr t rfl)).ok e)
      · exact exKept_error
  · exact exKept_ok kh

theorem State.dictPut_kept {kk : Keep} (nmem : kk.mem = none) (s : State) (lvl : Nat) (e : DictEnt) (b : List Byte) (kh : Kept kk s) : Kept kk (State.dictPut s lvl e b).st := by
  unfold State.dictPut
  try dsimp only
  repeat' first
    | with_reducible first | assumption | apply State.siteStore_kept | apply State.dataPort_kept | apply State.ans_kept | apply State.regWrite_kept
    | (with_reducible refine WRes.Kept.ok ?_ (by assumption))
    | (with_reducible refine ExKept.get ?_ (by assumption))
    | with_reducible first | apply OptKept.getD | apply kept_ite
    | simp only [↓kept_mk_iff]
    | with_reducible intro _
    | split

theorem State.dictWrite_kept {kk : Keep} (nmem : kk.mem = none) (s : State) (lvl ix sub ty : Nat) (b : List Byte) (kh : Kept kk s) : Kept kk (State.dictWrite s lvl ix sub ty b).st := by
  unfold State.dictWrite
  try dsimp only
  repeat' first
    | with_reducible first | assumption | apply State.dictPut_kept | apply State.ans_kept | apply kept_ite
    | simp only [↓kept_mk_iff]
    | with_reducible intro _
    | split

theorem State.onSession_kept {kk : Keep} (s : State) (sid : Nat) (g : Session → Session) (kh : Kept kk s) : Kept kk (State.onSession s sid g) := by
  unfold State.onSession
  try dsimp only
  repeat' first
    | with_reducible first | assumption | apply kept_ite
    | simp only [↓kept_mk_iff]
    | with_reducible intro _
    | split

theorem State.setXfer_kept {kk : Keep} (s : State) (cl : Client) (x : Option Xfer) (kh : Kept kk s) : Kept kk (State.setXfer s cl x) := by
  unfold State.setXfer
  try dsimp only
  repeat' first
    | with_reducible first | assumption | apply State.onSession_kept
    | simp only [↓kept_mk_iff]
    | with_reducible intro _
    | split

theorem State.dopen_kept {kk : Keep} (nmem : kk.mem = none) (s : State) (cl : Client) (lvl : Nat) (p : List Byte) (kh : Kept kk s) : Kept kk (State.dopen s cl lvl p).st := by
  unfold State.dopen
  try dsimp only
  repeat' first
    | with_reducible first | assumption | apply State.setXfer_kept | apply State.dictGet_kept | apply State.ans_kept | apply kept_ite
    | simp only [↓kept_mk_iff]
    | with_reducible intro _
    | split

theorem State.domainDone_kept {kk : Keep} (nmem : kk.mem = none) (s : State) (lvl : Nat) (x : Xfer) (data : List Byte) (kh : Kept kk s) : Kept kk (State.domainDone s lvl x data).st := by
  unfold State.domainDone
  try dsimp only
  repeat' first
    | with_reducible first | assumption | apply State.dictPut_kept | apply State.ans_kept
    | simp only [↓kept_mk_iff]
    | with_reducible intro _
    | split

theorem State.seg_kept {kk : Keep} (nmem : kk.mem = none) (s : State) (cl : Client) (lvl : Nat) (p : List Byte) (kh : Kept kk s) : Kept kk (State.seg s cl lvl p).st := by
  unfold State.seg
  try dsimp only
  repeat' first
    | with_reducible first | assumption | apply State.domainDone_kept | apply State.setXfer_kept | apply State.ans_kept | apply kept_ite
    | simp only [↓kept_mk_iff]
    | with_reducible intro _
    | split

theorem State.armCmd_kept {kk : Keep} (nmem : kk.mem = none) (ndev : kk.dev = none) (s : State) (kh : Kept kk s) : Kept kk (State.armCmd s).st := by
  unfold State.armCmd
  try dsimp only
  repeat' first
    | with_reducible first | assumption | apply State.ans_kept | apply State.arming_kept
    | (with_reducible refine kept_of_fst ?_ (by assumption))
    | with_reducible apply kept_ite
    | simp only [↓kept_mk_iff]
    | with_reducible intro _
    | split

theorem State.cutCmd_kept {kk : Keep} (s : State) (stroke : Nat) (byRun : Bool) (kh : Kept kk s) : Kept kk (State.cutCmd s stroke byRun).st := by
  unfold State.cutCmd
  try dsimp only
  repeat' first
    | with_reducible first | assumption | apply State.ans_kept | apply State.armCut_kept
    | (with_reducible refine ExKept.get ?_ (by assumption))
    | with_reducible apply kept_ite
    | simp only [↓kept_mk_iff]
    | with_reducible intro _
    | split

theorem State.disarmCmd_kept {kk : Keep} (ndev : kk.dev = none) (s : State) (kh : Kept kk s) : Kept kk (State.disarmCmd s).st := by
  unfold State.disarmCmd
  try dsimp only
  repeat' first
    | with_reducible first | assumption | apply State.ans_kept | apply State.enter_kept
    | simp only [↓kept_mk_iff]
    | with_reducible intro _

theorem State.evsub_kept {kk : Keep} (s : State) (cl : Client) (mask : Nat) (kh : Kept kk s) : Kept kk (State.evsub s cl mask).st := by
  unfold State.evsub
  try dsimp only
  repeat' first
    | with_reducible first | assumption | apply State.onSession_kept | apply State.ans_kept
    | simp only [↓kept_mk_iff]
    | with_reducible intro _
    | split

theorem State.runCmd_kept {kk : Keep} (nmem : kk.mem = none) (ndev : kk.dev = none) (s : State) (cl : Client) (code a0 a1 : Nat) (kh : Kept kk s) : Kept kk (State.runCmd s cl code a0 a1).st := by
  unfold State.runCmd
  try dsimp only
  repeat' first
    | with_reducible first | assumption | apply State.evsub_kept | apply State.disarmCmd_kept | apply State.cutCmd_kept | apply State.armCmd_kept | apply State.retrain_kept | apply State.attest_kept | apply State.subcan_kept | apply State.subst_kept | apply State.fwcommit_kept | apply State.fwact_kept | apply State.unstage_kept | apply State.verify_kept | apply State.ans_kept
    | simp only [↓kept_mk_iff]
    | with_reducible intro _
    | split

theorem State.command_kept {kk : Keep} (nmem : kk.mem = none) (ndev : kk.dev = none) (s : State) (cl : Client) (lvl : Nat) (p : List Byte) (kh : Kept kk s) : Kept kk (State.command s cl lvl p).st := by
  unfold State.command
  try dsimp only
  repeat' first
    | with_reducible first | assumption | apply State.runCmd_kept | apply State.ans_kept | apply kept_ite
    | simp only [↓kept_mk_iff]
    | with_reducible intro _
    | split

theorem State.request_kept {kk : Keep} (nmem : kk.mem = none) (ndev : kk.dev = none) (s : State) (cl : Client) (lvl mt : Nat) (p : List Byte) (kh : Kept kk s) : Kept kk (State.request s cl lvl mt p).st := by
  unfold State.request
  try dsimp only
  repeat' first
    | with_reducible first | assumption | apply State.command_kept | apply State.seg_kept | apply State.dopen_kept | apply State.dictWrite_kept | apply State.dictRead_kept | apply State.ans_kept | apply kept_ite
    | simp only [↓kept_mk_iff]
    | with_reducible intro _
    | split

theorem State.performReq_kept {kk : Keep} (nmem : kk.mem = none) (ndev : kk.dev = none) (s : State) (cl : Client) (lvl mt : Nat) (p : List Byte) (kh : Kept kk s) : Kept kk (State.performReq s cl lvl mt p).st := by
  unfold State.performReq
  try dsimp only
  repeat' first
    | with_reducible first | assumption | apply State.request_kept | apply State.setXfer_kept | apply kept_ite
    | simp only [↓kept_mk_iff]
    | with_reducible intro _
    | split

theorem State.akDisc_kept {kk : Keep} (s : State) (kh : Kept kk s) : Kept kk (State.akDisc s) := by
  unfold State.akDisc
  try dsimp only
  repeat' first
    | with_reducible assumption
    | simp only [↓kept_mk_iff]
    | with_reducible intro _

theorem State.akMacErr_kept {kk : Keep} (s : State) (kh : Kept kk s) : Kept kk (State.akMacErr s) := by
  unfold State.akMacErr
  try dsimp only
  repeat' first
    | with_reducible assumption
    | simp only [↓kept_mk_iff]
    | with_reducible intro _

theorem State.endSession_kept {kk : Keep} (s : State) (sid : Nat) (kh : Kept kk s) : Kept kk (State.endSession s sid) := by
  unfold State.endSession
  try dsimp only
  repeat' first
    | with_reducible assumption
    | simp only [↓kept_mk_iff]
    | with_reducible intro _

theorem State.purge_kept {kk : Keep} (s : State) (kh : Kept kk s) : Kept kk (State.purge s) := by
  unfold State.purge
  try dsimp only
  repeat' first
    | with_reducible assumption
    | simp only [↓kept_mk_iff]
    | with_reducible intro _

theorem execAuthTimeout_kept {kk : Keep} (dt : Nat) (sid : Nat) (s : State) (kh : Kept kk s) : OutKept kk (execAuthTimeout dt sid s) := by
  unfold execAuthTimeout
  try dsimp only
  repeat' first
    | with_reducible first | assumption | apply State.endSession_kept | apply State.advance_kept | apply outKept_next | apply kept_ite | intro _
    | split

theorem execSessionTimeout_kept {kk : Keep} (dt : Nat) (sid : Nat) (s : State) (kh : Kept kk s) : OutKept kk (execSessionTimeout dt sid s) := by
  unfold execSessionTimeout
  try dsimp only
  repeat' first
    | with_reducible first | assumption | apply State.endSession_kept | apply State.advance_kept | apply outKept_next | apply kept_ite | intro _
    | split

theorem execAuthLockoutExpiry_kept {kk : Keep} (dt : Nat) (ip : Nat) (s : State) (kh : Kept kk s) : OutKept kk (execAuthLockoutExpiry dt ip s) := by
  unfold execAuthLockoutExpiry
  try dsimp only
  repeat' first
    | with_reducible first | assumption | apply State.advance_kept | apply outKept_next | apply kept_ite
    | simp only [↓kept_mk_iff]
    | with_reducible intro _
    | split

theorem State.heartbeat_kept {kk : Keep} (s : State) (x : Session) (kh : Kept kk s) : Kept kk (State.heartbeat s x) := by
  unfold State.heartbeat
  try dsimp only
  repeat' first
    | with_reducible first | assumption | apply State.onSession_kept | apply State.akSend_kept
    | (with_reducible apply kept_foldl; intro _ _ _)
    | (with_reducible apply kept_foldl_fst; intro _ _ _)
    | (with_reducible apply kept_foldl_snd; intro _ _ _)
    | simp only [↓kept_mk_iff]
    | with_reducible intro _

theorem execHb_kept {kk : Keep} (dt : Nat) (sid : Nat) (s : State) (kh : Kept kk s) : OutKept kk (execHb dt sid s) := by
  unfold execHb
  try dsimp only
  repeat' first
    | with_reducible first | assumption | apply State.heartbeat_kept | apply State.advance_kept | apply outKept_next | apply kept_ite
    | simp only [↓kept_mk_iff]
    | with_reducible intro _
    | split

theorem State.sessionLost_kept {kk : Keep} (s : State) (sid : Nat) (kh : Kept kk s) : Kept kk (State.sessionLost s sid) := by
  unfold State.sessionLost
  try dsimp only
  repeat' first
    | with_reducible first | assumption | apply State.onSession_kept | apply State.eventTo_kept | apply kept_ite
    | simp only [↓kept_mk_iff]
    | with_reducible intro _
    | split

theorem State.sendTo_kept {kk : Keep} (s : State) (m : AkMsg) (b : List Byte) (kh : Kept kk s) : Kept kk (State.sendTo s m b) := by
  unfold State.sendTo
  try dsimp only
  repeat' first
    | with_reducible first | assumption | apply State.emit_kept | intro _

theorem Ans.reply_kept {kk : Keep} (a : Ans) (m : AkMsg) (x : Session) (ka : Kept kk a.st)  : Kept kk (Ans.reply a m x) := by
  unfold Ans.reply
  try dsimp only
  repeat' first
    | with_reducible first | assumption | apply State.sendTo_kept | apply State.onSession_kept
    | simp only [↓kept_mk_iff]
    | with_reducible intro _

theorem State.bareReply_kept {kk : Keep} (s : State) (m : AkMsg) (code : Nat) (kh : Kept kk s) : Kept kk (State.bareReply s m code) := by
  unfold State.bareReply
  try dsimp only
  repeat' first
    | with_reducible first | assumption | apply State.sendTo_kept | apply State.ans_kept | intro _

theorem State.receive_kept {kk : Keep} (s : State) (m : AkMsg) (mt : Nat) (f : State → Session → State) (hf : ∀ s y0, Kept kk s → Kept kk (f s y0)) (kh : Kept kk s) : Kept kk (State.receive s m mt f) := by
  unfold State.receive
  try dsimp only
  repeat' first
    | with_reducible first | assumption | apply hf | apply State.purge_kept | apply State.akMacErr_kept | apply State.akDisc_kept | apply State.onSession_kept | apply kept_ite
    | simp only [↓kept_mk_iff]
    | with_reducible intro _
    | split

theorem State.bySeq_kept {kk : Keep} (s : State) (m : AkMsg) (x : Session) (f : State → State) (hf : ∀ s, Kept kk s → Kept kk (f s)) (kh : Kept kk s) : Kept kk (State.bySeq s m x f) := by
  unfold State.bySeq
  try dsimp only
  repeat' first
    | with_reducible first | assumption | apply hf | apply Ans.reply_kept | apply State.sendTo_kept | apply State.akDisc_kept | apply kept_ite | intro _
    | split

theorem State.serve_kept {kk : Keep} (nmem : kk.mem = none) (ngraph : kk.graph = none) (ndev : kk.dev = none) (s : State) (m : AkMsg) (x : Session) (mt : Nat) (kh : Kept kk s) : Kept kk (State.serve s m x mt) := by
  unfold State.serve
  try dsimp only
  repeat' first
    | with_reducible first | assumption | apply Ans.reply_kept | apply State.performReq_kept | apply State.resetCmd_kept | apply kept_ite | intro _
    | split

theorem State.requestMsg_kept {kk : Keep} (nmem : kk.mem = none) (ngraph : kk.graph = none) (ndev : kk.dev = none) (s : State) (m : AkMsg) (mt : Nat) (kh : Kept kk s) : Kept kk (State.requestMsg s m mt) := by
  unfold State.requestMsg
  try dsimp only
  repeat' first
    | with_reducible first | assumption | apply State.serve_kept | apply State.bySeq_kept | apply State.receive_kept | intro _

theorem State.challenge_kept {kk : Keep} (s : State) (m : AkMsg) (p : List Byte) (kh : Kept kk s) : Kept kk (State.challenge s m p) := by
  unfold State.challenge
  try dsimp only
  repeat' first
    | with_reducible first | assumption | apply Ans.reply_kept | apply State.sendTo_kept
    | simp only [↓kept_mk_iff]
    | with_reducible intro _

theorem State.openMsg_kept {kk : Keep} (s : State) (m : AkMsg) (kh : Kept kk s) : Kept kk (State.openMsg s m) := by
  unfold State.openMsg
  try dsimp only
  repeat' first
    | with_reducible first | assumption | apply State.challenge_kept | apply State.bareReply_kept | apply State.purge_kept | apply State.akDisc_kept | apply kept_ite | intro _
    | split

theorem execAopen_kept {kk : Keep} (dt : Nat) (m : Sys2Proof.AkMsg) (s : State) (kh : Kept kk s) : OutKept kk (execAopen dt m s) := by
  unfold execAopen
  try dsimp only
  repeat' first
    | with_reducible first | assumption | apply State.openMsg_kept | apply State.advance_kept | apply outKept_next | intro _

theorem State.authFail_kept {kk : Keep} (s : State) (ip : Nat) (kh : Kept kk s) : Kept kk (State.authFail s ip) := by
  unfold State.authFail
  try dsimp only
  repeat' first
    | with_reducible first | assumption | apply kept_ite
    | simp only [↓kept_mk_iff]
    | with_reducible intro _
    | split

theorem State.auth_kept {kk : Keep} (s : State) (m : AkMsg) (x : Session) (kh : Kept kk s) : Kept kk (State.auth s m x) := by
  unfold State.auth
  try dsimp only
  repeat' first
    | with_reducible first | assumption | apply State.authFail_kept | apply Ans.reply_kept | apply State.endSession_kept | apply State.onSession_kept | apply State.ans_kept | apply kept_ite
    | simp only [↓kept_mk_iff]
    | with_reducible intro _
    | split

theorem execAuth_kept {kk : Keep} (dt : Nat) (m : Sys2Proof.AkMsg) (s : State) (kh : Kept kk s) : OutKept kk (execAuth dt m s) := by
  unfold execAuth
  try dsimp only
  repeat' first
    | with_reducible first | assumption | apply State.auth_kept | apply State.bySeq_kept | apply State.receive_kept | apply State.advance_kept | apply outKept_next | intro _

theorem execClose_kept {kk : Keep} (dt : Nat) (m : Sys2Proof.AkMsg) (s : State) (kh : Kept kk s) : OutKept kk (execClose dt m s) := by
  unfold execClose
  try dsimp only
  repeat' first
    | with_reducible first | assumption | apply State.receive_kept | apply State.endSession_kept | apply State.advance_kept | apply outKept_next | intro _

theorem execHback_kept {kk : Keep} (dt : Nat) (m : Sys2Proof.AkMsg) (s : State) (kh : Kept kk s) : OutKept kk (execHback dt m s) := by
  unfold execHback
  try dsimp only
  repeat' first
    | with_reducible first | assumption | apply State.receive_kept | apply State.advance_kept | apply outKept_next | intro _

theorem State.evack_kept {kk : Keep} (s : State) (m : AkMsg) (x : Session) (kh : Kept kk s) : Kept kk (State.evack s m x) := by
  unfold State.evack
  try dsimp only
  repeat' first
    | with_reducible first | assumption | apply State.sessionLost_kept | apply State.akDisc_kept | apply State.onSession_kept | apply kept_ite | intro _
    | split

theorem execEvack_kept {kk : Keep} (dt : Nat) (m : Sys2Proof.AkMsg) (s : State) (kh : Kept kk s) : OutKept kk (execEvack dt m s) := by
  unfold execEvack
  try dsimp only
  repeat' first
    | with_reducible first | assumption | apply State.evack_kept | apply State.receive_kept | apply State.advance_kept | apply outKept_next | intro _

theorem execRead_kept {kk : Keep} (nmem : kk.mem = none) (ngraph : kk.graph = none) (ndev : kk.dev = none) (dt : Nat) (m : Sys2Proof.AkMsg) (s : State) (kh : Kept kk s) : OutKept kk (execRead dt m s) := by
  unfold execRead
  try dsimp only
  repeat' first
    | with_reducible first | assumption | apply State.requestMsg_kept | apply State.advance_kept | apply outKept_next | intro _

theorem execWrite_kept {kk : Keep} (nmem : kk.mem = none) (ngraph : kk.graph = none) (ndev : kk.dev = none) (dt : Nat) (m : Sys2Proof.AkMsg) (s : State) (kh : Kept kk s) : OutKept kk (execWrite dt m s) := by
  unfold execWrite
  try dsimp only
  repeat' first
    | with_reducible first | assumption | apply State.requestMsg_kept | apply State.advance_kept | apply outKept_next | intro _

theorem execDopen_kept {kk : Keep} (nmem : kk.mem = none) (ngraph : kk.graph = none) (ndev : kk.dev = none) (dt : Nat) (m : Sys2Proof.AkMsg) (s : State) (kh : Kept kk s) : OutKept kk (execDopen dt m s) := by
  unfold execDopen
  try dsimp only
  repeat' first
    | with_reducible first | assumption | apply State.requestMsg_kept | apply State.advance_kept | apply outKept_next | intro _

theorem execSeg_kept {kk : Keep} (nmem : kk.mem = none) (ngraph : kk.graph = none) (ndev : kk.dev = none) (dt : Nat) (m : Sys2Proof.AkMsg) (s : State) (kh : Kept kk s) : OutKept kk (execSeg dt m s) := by
  unfold execSeg
  try dsimp only
  repeat' first
    | with_reducible first | assumption | apply State.requestMsg_kept | apply State.advance_kept | apply outKept_next | intro _

theorem State.cmdMsg_kept {kk : Keep} (nmem : kk.mem = none) (ngraph : kk.graph = none) (ndev : kk.dev = none) (s : State) (m : AkMsg) (code : Nat) (kh : Kept kk s) : Kept kk (State.cmdMsg s m code) := by
  unfold State.cmdMsg
  try dsimp only
  repeat' first
    | with_reducible first | assumption | apply State.requestMsg_kept | apply kept_ite | intro _
    | split

theorem execReset_kept {kk : Keep} (nmem : kk.mem = none) (ngraph : kk.graph = none) (ndev : kk.dev = none) (dt : Nat) (m : Sys2Proof.AkMsg) (s : State) (kh : Kept kk s) : OutKept kk (execReset dt m s) := by
  unfold execReset
  try dsimp only
  repeat' first
    | with_reducible first | assumption | apply State.cmdMsg_kept | apply State.advance_kept | apply outKept_next | intro _

theorem execArm_kept {kk : Keep} (nmem : kk.mem = none) (ngraph : kk.graph = none) (ndev : kk.dev = none) (dt : Nat) (m : Sys2Proof.AkMsg) (s : State) (kh : Kept kk s) : OutKept kk (execArm dt m s) := by
  unfold execArm
  try dsimp only
  repeat' first
    | with_reducible first | assumption | apply State.cmdMsg_kept | apply State.advance_kept | apply outKept_next | intro _

theorem execRun_kept {kk : Keep} (nmem : kk.mem = none) (ngraph : kk.graph = none) (ndev : kk.dev = none) (dt : Nat) (m : Sys2Proof.AkMsg) (s : State) (kh : Kept kk s) : OutKept kk (execRun dt m s) := by
  unfold execRun
  try dsimp only
  repeat' first
    | with_reducible first | assumption | apply State.cmdMsg_kept | apply State.advance_kept | apply outKept_next | intro _

theorem execDisarm_kept {kk : Keep} (nmem : kk.mem = none) (ngraph : kk.graph = none) (ndev : kk.dev = none) (dt : Nat) (m : Sys2Proof.AkMsg) (s : State) (kh : Kept kk s) : OutKept kk (execDisarm dt m s) := by
  unfold execDisarm
  try dsimp only
  repeat' first
    | with_reducible first | assumption | apply State.cmdMsg_kept | apply State.advance_kept | apply outKept_next | intro _

theorem execCut_kept {kk : Keep} (nmem : kk.mem = none) (ngraph : kk.graph = none) (ndev : kk.dev = none) (dt : Nat) (m : Sys2Proof.AkMsg) (s : State) (kh : Kept kk s) : OutKept kk (execCut dt m s) := by
  unfold execCut
  try dsimp only
  repeat' first
    | with_reducible first | assumption | apply State.cmdMsg_kept | apply State.advance_kept | apply outKept_next | intro _

theorem execEvsub_kept {kk : Keep} (nmem : kk.mem = none) (ngraph : kk.graph = none) (ndev : kk.dev = none) (dt : Nat) (m : Sys2Proof.AkMsg) (s : State) (kh : Kept kk s) : OutKept kk (execEvsub dt m s) := by
  unfold execEvsub
  try dsimp only
  repeat' first
    | with_reducible first | assumption | apply State.cmdMsg_kept | apply State.advance_kept | apply outKept_next | intro _

theorem execVerify_kept {kk : Keep} (nmem : kk.mem = none) (ngraph : kk.graph = none) (ndev : kk.dev = none) (dt : Nat) (m : Sys2Proof.AkMsg) (s : State) (kh : Kept kk s) : OutKept kk (execVerify dt m s) := by
  unfold execVerify
  try dsimp only
  repeat' first
    | with_reducible first | assumption | apply State.cmdMsg_kept | apply State.advance_kept | apply outKept_next | intro _

theorem execUnstage_kept {kk : Keep} (nmem : kk.mem = none) (ngraph : kk.graph = none) (ndev : kk.dev = none) (dt : Nat) (m : Sys2Proof.AkMsg) (s : State) (kh : Kept kk s) : OutKept kk (execUnstage dt m s) := by
  unfold execUnstage
  try dsimp only
  repeat' first
    | with_reducible first | assumption | apply State.cmdMsg_kept | apply State.advance_kept | apply outKept_next | intro _

theorem execFwact_kept {kk : Keep} (nmem : kk.mem = none) (ngraph : kk.graph = none) (ndev : kk.dev = none) (dt : Nat) (m : Sys2Proof.AkMsg) (s : State) (kh : Kept kk s) : OutKept kk (execFwact dt m s) := by
  unfold execFwact
  try dsimp only
  repeat' first
    | with_reducible first | assumption | apply State.cmdMsg_kept | apply State.advance_kept | apply outKept_next | intro _

theorem execFwcommit_kept {kk : Keep} (nmem : kk.mem = none) (ngraph : kk.graph = none) (ndev : kk.dev = none) (dt : Nat) (m : Sys2Proof.AkMsg) (s : State) (kh : Kept kk s) : OutKept kk (execFwcommit dt m s) := by
  unfold execFwcommit
  try dsimp only
  repeat' first
    | with_reducible first | assumption | apply State.cmdMsg_kept | apply State.advance_kept | apply outKept_next | intro _

theorem execSubst_kept {kk : Keep} (nmem : kk.mem = none) (ngraph : kk.graph = none) (ndev : kk.dev = none) (dt : Nat) (m : Sys2Proof.AkMsg) (s : State) (kh : Kept kk s) : OutKept kk (execSubst dt m s) := by
  unfold execSubst
  try dsimp only
  repeat' first
    | with_reducible first | assumption | apply State.cmdMsg_kept | apply State.advance_kept | apply outKept_next | intro _

theorem execSubcan_kept {kk : Keep} (nmem : kk.mem = none) (ngraph : kk.graph = none) (ndev : kk.dev = none) (dt : Nat) (m : Sys2Proof.AkMsg) (s : State) (kh : Kept kk s) : OutKept kk (execSubcan dt m s) := by
  unfold execSubcan
  try dsimp only
  repeat' first
    | with_reducible first | assumption | apply State.cmdMsg_kept | apply State.advance_kept | apply outKept_next | intro _

theorem execAttest_kept {kk : Keep} (nmem : kk.mem = none) (ngraph : kk.graph = none) (ndev : kk.dev = none) (dt : Nat) (m : Sys2Proof.AkMsg) (s : State) (kh : Kept kk s) : OutKept kk (execAttest dt m s) := by
  unfold execAttest
  try dsimp only
  repeat' first
    | with_reducible first | assumption | apply State.cmdMsg_kept | apply State.advance_kept | apply outKept_next | intro _

theorem execRetrain_kept {kk : Keep} (nmem : kk.mem = none) (ngraph : kk.graph = none) (ndev : kk.dev = none) (dt : Nat) (m : Sys2Proof.AkMsg) (s : State) (kh : Kept kk s) : OutKept kk (execRetrain dt m s) := by
  unfold execRetrain
  try dsimp only
  repeat' first
    | with_reducible first | assumption | apply State.cmdMsg_kept | apply State.advance_kept | apply outKept_next | intro _

theorem execManagementLinkChange_kept {kk : Keep} (dt : Nat) (p : Fin 2) (up : Bool) (s : State) (kh : Kept kk s) : OutKept kk (execManagementLinkChange dt p up s) := by
  unfold execManagementLinkChange
  try dsimp only
  repeat' first
    | with_reducible first | assumption | apply State.linkUp_kept | apply State.advance_kept | apply outKept_next
    | simp only [↓kept_mk_iff]
    | with_reducible intro _

theorem State.ringTook_kept {kk : Keep} (s : State) (r : Nat) (kh : Kept kk s) : Kept kk (State.ringTook s r) := by
  unfold State.ringTook
  try dsimp only
  repeat' first
    | with_reducible first | assumption | apply State.ringSignal_kept | apply State.fset_kept | intro _

theorem State.entryAns_kept {kk : Keep} (nmem : kk.mem = none) (ndev : kk.dev = none) (s : State) (b : List Byte) (kh : Kept kk s) : Kept kk (State.entryAns s b).st := by
  unfold State.entryAns
  try dsimp only
  repeat' first
    | with_reducible first | assumption | apply State.performReq_kept | apply State.ans_kept | apply kept_ite | intro _
    | split

theorem Ans.overEntry_kept {kk : Keep} (a : Ans) (n seq : Nat) (ka : Kept kk a.st)  : Kept kk (Ans.overEntry a n seq) := by
  unfold Ans.overEntry
  try dsimp only
  repeat' first
    | with_reducible first | assumption | apply State.ringTook_kept | apply State.ring_kept | apply State.emit_kept | intro _

theorem State.commandEntry_kept {kk : Keep} (nmem : kk.mem = none) (ngraph : kk.graph = none) (ndev : kk.dev = none) (s : State) (b : List Byte) (kh : Kept kk s) : Kept kk (State.commandEntry s b) := by
  unfold State.commandEntry
  try dsimp only
  repeat' first
    | with_reducible first | assumption | apply Ans.overEntry_kept | apply State.entryAns_kept | apply State.resetCmd_kept | apply kept_ite | intro _
    | split

theorem execCommandRingEntry_kept {kk : Keep} (nmem : kk.mem = none) (ngraph : kk.graph = none) (ndev : kk.dev = none) (dt : Nat) (entry : List Byte) (s : State) (kh : Kept kk s) : OutKept kk (execCommandRingEntry dt entry s) := by
  unfold execCommandRingEntry
  try dsimp only
  repeat' first
    | with_reducible first | assumption | apply State.commandEntry_kept | apply State.advance_kept | apply outKept_next | intro _

theorem State.h2dEntry_kept {kk : Keep} (nmem : kk.mem = none) (s : State) (d : Nat) (k : Token) (kh : Kept kk s) : Kept kk (State.h2dEntry s d k) := by
  unfold State.h2dEntry
  try dsimp only
  repeat' first
    | with_reducible first | assumption | apply State.ringTook_kept | apply State.sendTok_kept | apply State.event_kept
    | (with_reducible refine Inj.Kept.sent ?_ (by assumption))
    | (with_reducible refine Inj.Kept.fenced ?_ (by assumption))
    | with_reducible apply kept_ite
    | simp only [↓kept_mk_iff]
    | with_reducible intro _
    | split

theorem execH2dEntry_kept {kk : Keep} (nmem : kk.mem = none) (dt : Nat) (d : Fin 16) (entry : BitVec 256) (s : State) (kh : Kept kk s) : OutKept kk (execH2dEntry dt d entry s) := by
  unfold execH2dEntry
  try dsimp only
  repeat' first
    | with_reducible first | assumption | apply State.h2dEntry_kept | apply State.advance_kept | apply outKept_next | intro _

theorem State.unsupported_kept {kk : Keep} (s : State) (kh : Kept kk s) : Kept kk (State.unsupported s) := by
  unfold State.unsupported
  try dsimp only
  repeat' first
    | with_reducible first | assumption | apply State.emit_kept | intro _

theorem State.hostIo_kept {kk : Keep} (nmem : kk.mem = none) (s : State) (a size : Nat) (o : Sys2Proof.BarOp) (kh : Kept kk s) : Kept kk (State.hostIo s a size o) := by
  unfold State.hostIo
  try dsimp only
  repeat' first
    | with_reducible first | assumption | apply State.unsupported_kept | apply State.told_kept | apply State.ioWrite_kept | apply State.ioLoad_kept | apply State.emit_kept | apply WRes.kept_ok
    | (with_reducible refine ExKept2.get ?_ (by assumption))
    | (with_reducible refine WRes.Kept.ok ?_ (by assumption))
    | simp only [↓kept_mk_iff]
    | with_reducible intro _
    | split

theorem State.hostMem_kept {kk : Keep} (nmem : kk.mem = none) (s : State) (a size : Nat) (o : Sys2Proof.BarOp) (kh : Kept kk s) : Kept kk (State.hostMem s a size o) := by
  unfold State.hostMem
  try dsimp only
  repeat' first
    | with_reducible first | assumption | apply State.unsupported_kept | apply State.startReq_kept | apply State.bump_kept
    | (with_reducible refine Route.Kept.sent ?_ (by assumption))
    | with_reducible first | apply kept_ite | apply kept_id
    | simp only [↓kept_mk_iff]
    | with_reducible intro _
    | split

theorem State.hostPhys_kept {kk : Keep} (nmem : kk.mem = none) (s : State) (a size : Nat) (o : Sys2Proof.BarOp) (kh : Kept kk s) : Kept kk (State.hostPhys s a size o) := by
  unfold State.hostPhys
  try dsimp only
  repeat' first
    | with_reducible first | assumption | apply State.hostMem_kept | apply State.hostIo_kept | apply State.unsupported_kept | apply State.told_kept | apply State.noteFault_kept | exact WRes.kept_refuse | apply kept_ite
    | simp only [↓kept_mk_iff]
    | with_reducible intro _
    | split

theorem State.hostMailbox_kept {kk : Keep} (s : State) (off size : Nat) (o : Sys2Proof.BarOp) (kh : Kept kk s) : Kept kk (State.hostMailbox s off size o) := by
  unfold State.hostMailbox
  try dsimp only
  repeat' first
    | with_reducible first | assumption | apply State.unsupported_kept | apply State.emit_kept | apply kept_ite
    | simp only [↓kept_mk_iff]
    | with_reducible intro _
    | split

theorem State.hostBar0_kept {kk : Keep} (nmem : kk.mem = none) (s : State) (off size : Nat) (o : Sys2Proof.BarOp) (kh : Kept kk s) : Kept kk (State.hostBar0 s off size o) := by
  unfold State.hostBar0
  try dsimp only
  repeat' first
    | with_reducible first | assumption | apply State.hostPhys_kept | apply State.hostIo_kept | apply State.unsupported_kept | apply kept_ite | intro _
    | split

theorem State.hostAccess_kept {kk : Keep} (nmem : kk.mem = none) (s : State) (x : Sys2Proof.BarAcc) (kh : Kept kk s) : Kept kk (State.hostAccess s x) := by
  unfold State.hostAccess
  try dsimp only
  repeat' first
    | with_reducible first | assumption | apply State.hostBar0_kept | apply State.hostMailbox_kept | apply State.hostPhys_kept | apply State.unsupported_kept | apply kept_ite
    | simp only [↓kept_mk_iff]
    | with_reducible intro _
    | split

theorem execHostAccess_kept {kk : Keep} (nmem : kk.mem = none) (dt : Nat) (x : Sys2Proof.BarAcc) (s : State) (kh : Kept kk s) : OutKept kk (execHostAccess dt x s) := by
  unfold execHostAccess
  try dsimp only
  repeat' first
    | with_reducible first | assumption | apply State.hostAccess_kept | apply State.advance_kept | apply outKept_next | intro _

theorem execAttentionPulse_kept {kk : Keep} (dt : Nat) (s : State) (kh : Kept kk s) : OutKept kk (execAttentionPulse dt s) := by
  unfold execAttentionPulse
  try dsimp only
  repeat' first
    | with_reducible first | assumption | apply State.advance_kept | apply State.showState_kept | apply outKept_next | apply kept_ite
    | simp only [↓kept_mk_iff]
    | with_reducible intro _
    | split

theorem execAttentionPulseEnd_kept {kk : Keep} (dt : Nat) (s : State) (kh : Kept kk s) : OutKept kk (execAttentionPulseEnd dt s) := by
  unfold execAttentionPulseEnd
  try dsimp only
  repeat' first
    | with_reducible first | assumption | apply State.advance_kept | apply State.showState_kept | apply outKept_next | apply kept_ite
    | simp only [↓kept_mk_iff]
    | with_reducible intro _
    | split

theorem State.hostLocks_kept {kk : Keep} (s : State) (kh : Kept kk s) : Kept kk (State.hostLocks s) := by
  unfold State.hostLocks
  try dsimp only
  repeat' first
    | with_reducible first | assumption | apply State.abandonOwner_kept | intro _

theorem State.perstLow_kept {kk : Keep} (s : State) (kh : Kept kk s) : Kept kk (State.perstLow s) := by
  unfold State.perstLow
  try dsimp only
  repeat' first
    | with_reducible first | assumption | apply State.hostLocks_kept
    | simp only [↓kept_mk_iff]
    | with_reducible intro _

theorem execHPerst_kept {kk : Keep} (dt : Nat) (low : Bool) (s : State) (kh : Kept kk s) : OutKept kk (execHPerst dt low s) := by
  unfold execHPerst
  try dsimp only
  repeat' first
    | with_reducible first | assumption | apply State.perstLow_kept | apply State.advance_kept | apply outKept_next | apply kept_ite
    | simp only [↓kept_mk_iff]
    | with_reducible intro _
    | split

theorem execPcieHotResetOrLinkDown_kept {kk : Keep} (dt : Nat) (s : State) (kh : Kept kk s) : OutKept kk (execPcieHotResetOrLinkDown dt s) := by
  unfold execPcieHotResetOrLinkDown
  try dsimp only
  repeat' first
    | with_reducible first | assumption | apply State.hostLocks_kept | apply State.advance_kept | apply outKept_next | intro _

theorem State.dapMem_kept {kk : Keep} (nmem : kk.mem = none) (s : State) (a : Nat) (write : Bool) (v : Word) (kh : Kept kk s) : Kept kk (State.dapMem s a write v) := by
  unfold State.dapMem
  try dsimp only
  repeat' first
    | with_reducible first | assumption | apply State.dapEnd_kept | apply State.startReq_kept | apply State.bump_kept | apply State.fset_kept
    | (with_reducible refine Route.Kept.sent ?_ (by assumption))
    | with_reducible first | apply kept_ite | apply kept_id
    | simp only [↓kept_mk_iff]
    | with_reducible intro _
    | split

theorem State.dapIo_kept {kk : Keep} (nmem : kk.mem = none) (s : State) (a : Nat) (write : Bool) (v : Word) (kh : Kept kk s) : Kept kk (State.dapIo s a write v) := by
  unfold State.dapIo
  try dsimp only
  repeat' first
    | with_reducible first | assumption | apply State.dapEnd_kept | apply State.ioWrite_kept | apply State.ioRead_kept
    | (with_reducible refine ExKept2.get ?_ (by assumption))
    | (with_reducible refine WRes.Kept.ok ?_ (by assumption))
    | with_reducible apply kept_ite
    | simp only [↓kept_mk_iff]
    | with_reducible intro _
    | split

theorem State.dapAccess_kept {kk : Keep} (nmem : kk.mem = none) (s : State) (write : Bool) (a : Nat) (v : Word) (kh : Kept kk s) : Kept kk (State.dapAccess s write a v) := by
  unfold State.dapAccess
  try dsimp only
  repeat' first
    | with_reducible first | assumption | apply State.dapIo_kept | apply State.dapMem_kept | apply State.mailbox_kept | apply State.dapEnd_kept | apply kept_ite
    | simp only [↓kept_mk_iff]
    | with_reducible intro _
    | split

theorem execDapacc_kept {kk : Keep} (nmem : kk.mem = none) (dt : Nat) (write : Bool) (addr : BitVec 48) (data : Word) (s : State) (kh : Kept kk s) : OutKept kk (execDapacc dt write addr data s) := by
  unfold execDapacc
  try dsimp only
  repeat' first
    | with_reducible first | assumption | apply State.dapAccess_kept | apply State.advance_kept | apply outKept_next | intro _

theorem State.faultSource_kept {kk : Keep} (nmem : kk.mem = none) (s : State) (p : Packet) (code : Nat) (kh : Kept kk s) : Kept kk (State.faultSource s p code) := by
  unfold State.faultSource
  try dsimp only
  repeat' first
    | with_reducible first | assumption | apply State.fabReturn_kept | apply State.sendFault_kept | apply kept_ite
    | simp only [↓kept_mk_iff]
    | with_reducible intro _
    | split

theorem State.putOwn_kept {kk : Keep} (s : State) (r : Nat) (p : Packet) (kh : Kept kk s) : Kept kk (State.putOwn s r p) := by
  unfold State.putOwn
  try dsimp only
  repeat' first
    | with_reducible first | assumption | apply State.setBuf_kept | apply State.bump_kept
    | simp only [↓kept_mk_iff]
    | with_reducible intro _

theorem State.errorComp_kept {kk : Keep} (s : State) (r : Nat) (p : Packet) (code : Nat) (kh : Kept kk s) : Kept kk (State.errorComp s r p code) := by
  unfold State.errorComp
  try dsimp only
  repeat' first
    | with_reducible first | assumption | apply State.putOwn_kept
    | (with_reducible apply kept_foldl; intro _ _ _)
    | (with_reducible apply kept_foldl_fst; intro _ _ _)
    | (with_reducible apply kept_foldl_snd; intro _ _ _)
    | with_reducible apply kept_id
    | simp only [↓kept_mk_iff]
    | with_reducible intro _
    | split

theorem State.answerFor_kept {kk : Keep} (nmem : kk.mem = none) (s : State) (r : Nat) (p : Packet) (code : Nat) (kh : Kept kk s) : Kept kk (State.answerFor s r p code) := by
  unfold State.answerFor
  try dsimp only
  repeat' first
    | with_reducible first | assumption | apply State.errorComp_kept | apply State.faultSource_kept | intro _

theorem State.takeFlit_kept {kk : Keep} (s : State) (net r out port : Nat) (p : Packet) (ptr : Nat) (kh : Kept kk s) : Kept kk (State.takeFlit s net r out port p ptr) := by
  unfold State.takeFlit
  try dsimp only
  repeat' first
    | with_reducible first | assumption | apply State.setBuf_kept | apply State.finc_kept | apply kept_ite
    | simp only [↓kept_mk_iff]
    | with_reducible intro _
    | split

theorem State.absorb_kept {kk : Keep} (nmem : kk.mem = none) (s : State) (r : Nat) (p : Packet) (kh : Kept kk s) : Kept kk (State.absorb s r p) := by
  unfold State.absorb
  try dsimp only
  repeat' first
    | with_reducible first | assumption | apply State.answerFor_kept | apply State.inc_kept | apply kept_ite | intro _
    | split

theorem State.placeFlit_kept {kk : Keep} (nmem : kk.mem = none) (s : State) (net r out : Nat) (p : Packet) (corrected : Bool) (kh : Kept kk s) : Kept kk (State.placeFlit s net r out p corrected) := by
  unfold State.placeFlit
  try dsimp only
  repeat' first
    | with_reducible first | assumption | apply State.absorb_kept | apply State.setBuf_kept | apply State.inc_kept | apply kept_ite
    | simp only [↓kept_mk_iff]
    | with_reducible intro _
    | split

theorem State.wakeFor_kept {kk : Keep} (s : State) (net r out : Nat) (kh : Kept kk s) : Kept kk (State.wakeFor s net r out) := by
  unfold State.wakeFor
  try dsimp only
  repeat' first
    | with_reducible first | assumption | apply State.askWake_kept | apply kept_ite
    | simp only [↓kept_mk_iff]
    | with_reducible intro _
    | split

theorem State.drainAt_kept {kk : Keep} (s : State) (r : Nat) (kh : Kept kk s) : Kept kk (State.drainAt s r) := by
  unfold State.drainAt
  try dsimp only
  repeat' first
    | with_reducible first | assumption | apply State.drainUnits_kept | apply kept_ite
    | simp only [↓kept_mk_iff]
    | with_reducible intro _
    | split

theorem State.flitGrant_kept {kk : Keep} (nmem : kk.mem = none) (s : State) (net r out : Nat) (corrected : Bool) (kh : Kept kk s) : Kept kk (State.flitGrant s net r out corrected) := by
  unfold State.flitGrant
  try dsimp only
  repeat' first
    | with_reducible first | assumption | apply State.drainAt_kept | apply State.wakeFor_kept | apply State.placeFlit_kept | apply State.takeFlit_kept | apply kept_ite
    | simp only [↓kept_mk_iff]
    | with_reducible intro _
    | split

theorem execFlitGrant_kept {kk : Keep} (nmem : kk.mem = none) (dt : Nat) (net : Fin 2) (r : Sys2Proof.RouterId) (out : Fin 6) (corrected : Bool) (s : State) (kh : Kept kk s) : OutKept kk (execFlitGrant dt net r out corrected s) := by
  unfold execFlitGrant
  try dsimp only
  repeat' first
    | with_reducible first | assumption | apply State.flitGrant_kept | apply State.advance_kept | apply outKept_next | intro _

theorem State.dropPacket_kept {kk : Keep} (s : State) (stamp : Nat) (kh : Kept kk s) : Kept kk (State.dropPacket s stamp) := by
  unfold State.dropPacket
  try dsimp only
  repeat' first
    | with_reducible assumption
    | simp only [↓kept_mk_iff]
    | with_reducible intro _

theorem State.flitResend_kept {kk : Keep} (nmem : kk.mem = none) (s : State) (net r out : Nat) (kh : Kept kk s) : Kept kk (State.flitResend s net r out) := by
  unfold State.flitResend
  try dsimp only
  repeat' first
    | with_reducible first | assumption | apply State.dropPacket_kept | apply State.answerFor_kept | apply State.setBuf_kept | apply State.inc_kept | apply kept_ite
    | simp only [↓kept_mk_iff]
    | with_reducible intro _
    | split

theorem execFlitResend_kept {kk : Keep} (nmem : kk.mem = none) (dt : Nat) (net : Fin 2) (r : Sys2Proof.RouterId) (out : Fin 4) (s : State) (kh : Kept kk s) : OutKept kk (execFlitResend dt net r out s) := by
  unfold execFlitResend
  try dsimp only
  repeat' first
    | with_reducible first | assumption | apply State.flitResend_kept | apply State.advance_kept | apply outKept_next | intro _

theorem State.verdictArrives_kept {kk : Keep} (nmem : kk.mem = none) (s : State) (l : Nat) (k : Token) (sr : Nat) (sedge : Bool) (stile stamp : Nat) (kh : Kept kk s) : Kept kk (State.verdictArrives s l k sr sedge stile stamp) := by
  unfold State.verdictArrives
  try dsimp only
  repeat' first
    | with_reducible first | assumption | apply State.sendVerdict_kept | apply State.sendFault_kept | apply State.inc_kept | apply kept_ite
    | simp only [↓kept_mk_iff]
    | with_reducible intro _
    | split

theorem State.countRetry_kept {kk : Keep} (s : State) (p : Packet) (k : Token) (kh : Kept kk s) : Kept kk (State.countRetry s p k) := by
  unfold State.countRetry
  try dsimp only
  repeat' first
    | with_reducible first | assumption | apply State.inc_kept | apply kept_ite | intro _
    | split

theorem State.chanArrives_kept {kk : Keep} (nmem : kk.mem = none) (s : State) (commit : Bool) (t q c n : Nat) (k : Token) (kh : Kept kk s) : Kept kk (State.chanArrives s commit t q c n k) := by
  unfold State.chanArrives
  try dsimp only
  repeat' first
    | with_reducible first | assumption | apply State.chanCommit_kept | apply State.chanWrite_kept | apply State.wake_kept | apply State.bump_kept | apply State.onThr_kept
    | (with_reducible refine QRes.Kept.done ?_ (by assumption))
    | (with_reducible refine QRes.Kept.wait ?_ (by assumption))
    | (with_reducible refine QRes.Kept.fails ?_ (by assumption))
    | with_reducible apply kept_ite
    | simp only [↓kept_mk_iff]
    | with_reducible intro _
    | split

theorem State.compArrives_kept {kk : Keep} (nmem : kk.mem = none) (s : State) (id : Nat) (who : Sys2Proof.Req) (off data code : Nat) (write : Bool) (kh : Kept kk s) : Kept kk (State.compArrives s id who off data code write) := by
  unfold State.compArrives
  try dsimp only
  repeat' first
    | with_reducible first | assumption | apply State.answer_kept | apply State.wake_kept | apply kept_ite | apply kept_id
    | simp only [↓kept_mk_iff]
    | with_reducible intro _
    | split

theorem State.deliver_kept {kk : Keep} (nmem : kk.mem = none) (s : State) (p : Packet) (kh : Kept kk s) : Kept kk (State.deliver s p) := by
  unfold State.deliver
  try dsimp only
  repeat' first
    | with_reducible first | assumption | apply State.compArrives_kept | apply State.chanArrives_kept | apply State.countRetry_kept | apply State.verdictArrives_kept | apply State.toGateway_kept | apply State.toBanks_kept | apply State.deliverTok_kept | apply kept_id
    | simp only [↓kept_mk_iff]
    | with_reducible intro _
    | split

theorem State.flitDelivery_kept {kk : Keep} (nmem : kk.mem = none) (s : State) (net r : Nat) (edge crcOk : Bool) (kh : Kept kk s) : Kept kk (State.flitDelivery s net r edge crcOk) := by
  unfold State.flitDelivery
  try dsimp only
  repeat' first
    | with_reducible first | assumption | apply State.deliver_kept | apply State.answerFor_kept | apply State.inc_kept | apply kept_ite
    | simp only [↓kept_mk_iff]
    | with_reducible intro _
    | split

theorem execFlitDelivery_kept {kk : Keep} (nmem : kk.mem = none) (dt : Nat) (net : Fin 2) (r : Sys2Proof.RouterId) (edge crcOk : Bool) (s : State) (kh : Kept kk s) : OutKept kk (execFlitDelivery dt net r edge crcOk s) := by
  unfold execFlitDelivery
  try dsimp only
  repeat' first
    | with_reducible first | assumption | apply State.flitDelivery_kept | apply State.advance_kept | apply outKept_next | intro _

theorem State.portIsolate_kept {kk : Keep} (s : State) (r : Nat) (edge : Bool) (kh : Kept kk s) : Kept kk (State.portIsolate s r edge) := by
  unfold State.portIsolate
  try dsimp only
  repeat' first
    | with_reducible first | assumption | apply State.event_kept | apply State.raiseDev_kept | apply State.fset_kept | apply kept_ite | intro _
    | split

theorem execPortIsolate_kept {kk : Keep} (dt : Nat) (r : Sys2Proof.RouterId) (edge : Bool) (s : State) (kh : Kept kk s) : OutKept kk (execPortIsolate dt r edge s) := by
  unfold execPortIsolate
  try dsimp only
  repeat' first
    | with_reducible first | assumption | apply State.portIsolate_kept | apply State.advance_kept | apply outKept_next | intro _

theorem State.bounce_kept {kk : Keep} (s : State) (r : Nat) (edge : Bool) (kh : Kept kk s) : Kept kk (State.bounce s r edge) := by
  unfold State.bounce
  try dsimp only
  repeat' first
    | with_reducible first | assumption | apply State.setRetq_kept | apply kept_ite
    | simp only [↓kept_mk_iff]
    | with_reducible intro _
    | split

theorem execBounce_kept {kk : Keep} (dt : Nat) (r : Sys2Proof.RouterId) (edge : Bool) (s : State) (kh : Kept kk s) : OutKept kk (execBounce dt r edge s) := by
  unfold execBounce
  try dsimp only
  repeat' first
    | with_reducible first | assumption | apply State.bounce_kept | apply State.advance_kept | apply outKept_next | intro _

theorem State.bounceReoffer_kept {kk : Keep} (s : State) (r : Nat) (edge : Bool) (kh : Kept kk s) : Kept kk (State.bounceReoffer s r edge) := by
  unfold State.bounceReoffer
  try dsimp only
  repeat' first
    | with_reducible first | assumption | apply State.drainAt_kept | apply State.setRetq_kept | apply State.setBuf_kept | apply State.inc_kept | apply kept_ite
    | simp only [↓kept_mk_iff]
    | with_reducible intro _
    | split

theorem execBounceReoffer_kept {kk : Keep} (dt : Nat) (r : Sys2Proof.RouterId) (edge : Bool) (s : State) (kh : Kept kk s) : OutKept kk (execBounceReoffer dt r edge s) := by
  unfold execBounceReoffer
  try dsimp only
  repeat' first
    | with_reducible first | assumption | apply State.bounceReoffer_kept | apply State.advance_kept | apply outKept_next | intro _

theorem State.fenceNotice_kept {kk : Keep} (s : State) (p r : Nat) (kh : Kept kk s) : Kept kk (State.fenceNotice s p r) := by
  unfold State.fenceNotice
  try dsimp only
  repeat' first
    | with_reducible first | assumption | apply State.setBuf_kept | apply State.bump_kept
    | (with_reducible apply kept_foldl; intro _ _ _)
    | (with_reducible apply kept_foldl_fst; intro _ _ _)
    | (with_reducible apply kept_foldl_snd; intro _ _ _)
    | simp only [↓kept_mk_iff]
    | with_reducible intro _
    | split

theorem execFenceNotice_kept {kk : Keep} (dt : Nat) (p : Fin 68) (r : Sys2Proof.RouterId) (s : State) (kh : Kept kk s) : OutKept kk (execFenceNotice dt p r s) := by
  unfold execFenceNotice
  try dsimp only
  repeat' first
    | with_reducible first | assumption | apply State.fenceNotice_kept | apply State.advance_kept | apply outKept_next | intro _

theorem State.markerAbsorb_kept {kk : Keep} (s : State) (p net : Nat) (kh : Kept kk s) : Kept kk (State.markerAbsorb s p net) := by
  unfold State.markerAbsorb
  try dsimp only
  repeat' first
    | with_reducible first | assumption | apply State.setBuf_kept | apply kept_ite
    | simp only [↓kept_mk_iff]
    | with_reducible intro _
    | split

theorem execMarkerAbsorb_kept {kk : Keep} (dt : Nat) (p : Fin 68) (net : Fin 2) (s : State) (kh : Kept kk s) : OutKept kk (execMarkerAbsorb dt p net s) := by
  unfold execMarkerAbsorb
  try dsimp only
  repeat' first
    | with_reducible first | assumption | apply State.markerAbsorb_kept | apply State.advance_kept | apply outKept_next | intro _

theorem State.fencedNow_kept {kk : Keep} (s : State) (p : Nat) (kh : Kept kk s) : Kept kk (State.fencedNow s p) := by
  unfold State.fencedNow
  try dsimp only
  repeat' first
    | with_reducible first | assumption | apply State.post_kept | apply State.onTile_kept | apply State.fset_kept | apply kept_ite
    | simp only [↓kept_mk_iff]
    | with_reducible intro _
    | split

theorem execFenced_kept {kk : Keep} (dt : Nat) (p : Fin 68) (s : State) (kh : Kept kk s) : OutKept kk (execFenced dt p s) := by
  unfold execFenced
  try dsimp only
  repeat' first
    | with_reducible first | assumption | apply State.fencedNow_kept | apply State.advance_kept | apply outKept_next | intro _

theorem State.substFenced_kept {kk : Keep} (s : State) (p : Nat) (kh : Kept kk s) : Kept kk (State.substFenced s p) := by
  unfold State.substFenced
  try dsimp only
  repeat' first
    | with_reducible first | assumption | apply State.event_kept | apply kept_ite
    | simp only [↓kept_mk_iff]
    | with_reducible intro _
    | split

theorem State.fenceDone_kept {kk : Keep} (s : State) (p : Nat) (kh : Kept kk s) : Kept kk (State.fenceDone s p) := by
  unfold State.fenceDone
  try dsimp only
  repeat' first
    | with_reducible first | assumption | apply State.substFenced_kept | apply State.onTile_kept | apply kept_ite
    | simp only [↓kept_mk_iff]
    | with_reducible intro _
    | split

theorem execFenceDone_kept {kk : Keep} (p : Fin 68) (s : State) (kh : Kept kk s) : OutKept kk (execFenceDone p s) := by
  unfold execFenceDone
  try dsimp only
  repeat' first
    | with_reducible first | assumption | apply State.fenceDone_kept | apply outKept_next | intro _

theorem State.unfence_kept {kk : Keep} (s : State) (p r : Nat) (kh : Kept kk s) : Kept kk (State.unfence s p r) := by
  unfold State.unfence
  try dsimp only
  repeat' first
    | with_reducible first | assumption | apply State.setRetq_kept | apply State.fset_kept
    | (with_reducible apply kept_foldl; intro _ _ _)
    | (with_reducible apply kept_foldl_fst; intro _ _ _)
    | (with_reducible apply kept_foldl_snd; intro _ _ _)
    | with_reducible apply kept_ite
    | simp only [↓kept_mk_iff]
    | with_reducible intro _
    | split

theorem execUnfence_kept {kk : Keep} (dt : Nat) (p : Fin 68) (r : Sys2Proof.RouterId) (s : State) (kh : Kept kk s) : OutKept kk (execUnfence dt p r s) := by
  unfold execUnfence
  try dsimp only
  repeat' first
    | with_reducible first | assumption | apply State.unfence_kept | apply State.advance_kept | apply outKept_next | intro _

theorem State.registerWrite_kept {kk : Keep} (nmem : kk.mem = none) (s : State) (who : Sys2Proof.Req) (addr : Nat) (v : Word) (kh : Kept kk s) : Kept kk (State.registerWrite s who addr v) := by
  unfold State.registerWrite
  try dsimp only
  repeat' first
    | with_reducible first | assumption | apply State.told_kept | apply State.ioWrite_kept | apply State.trap_kept | apply State.fset_kept
    | (with_reducible refine WRes.Kept.ok ?_ (by assumption))
    | with_reducible apply kept_ite
    | simp only [↓kept_mk_iff]
    | with_reducible intro _
    | split

theorem execRegisterWrite_kept {kk : Keep} (nmem : kk.mem = none) (who : Sys2Proof.Req) (addr : Nat) (v : Word) (s : State) (kh : Kept kk s) : OutKept kk (execRegisterWrite who addr v s) := by
  unfold execRegisterWrite
  try dsimp only
  repeat' first
    | with_reducible first | assumption | apply State.registerWrite_kept | apply outKept_next | intro _

theorem State.writeIf_kept {kk : Keep} (nmem : kk.mem = none) (s : State) (b : Bool) (who : Sys2Proof.Req) (k : RegKind) (t i : Nat) (v : Word) (kh : Kept kk s) : Kept kk (State.writeIf s b who k t i v) := by
  unfold State.writeIf
  try dsimp only
  repeat' first
    | with_reducible first | assumption | apply State.doWrite_kept | apply kept_ite | intro _
    | split

theorem execLtmapWrite_kept {kk : Keep} (nmem : kk.mem = none) (who : Sys2Proof.Req) (t : Sys2Proof.TileId) (v : Word) (s : State) (kh : Kept kk s) : OutKept kk (execLtmapWrite who t v s) := by
  unfold execLtmapWrite
  try dsimp only
  repeat' first
    | with_reducible first | assumption | apply State.doWrite_kept | apply outKept_next | intro _

theorem execRetire_kept {kk : Keep} (nmem : kk.mem = none) (who : Sys2Proof.Req) (p : Fin 68) (v : Word) (s : State) (kh : Kept kk s) : OutKept kk (execRetire who p v s) := by
  unfold execRetire
  try dsimp only
  repeat' first
    | with_reducible first | assumption | apply State.writeIf_kept | apply outKept_next | intro _

theorem execLanestatSkip_kept {kk : Keep} (nmem : kk.mem = none) (who : Sys2Proof.Req) (l : Sys2Proof.LaneId) (s : State) (kh : Kept kk s) : OutKept kk (execLanestatSkip who l s) := by
  unfold execLanestatSkip
  try dsimp only
  repeat' first
    | with_reducible first | assumption | apply State.doWrite_kept | apply outKept_next | intro _

theorem execLaneEnable_kept {kk : Keep} (nmem : kk.mem = none) (who : Sys2Proof.Req) (l : Sys2Proof.LaneId) (v : Word) (s : State) (kh : Kept kk s) : OutKept kk (execLaneEnable who l v s) := by
  unfold execLaneEnable
  try dsimp only
  repeat' first
    | with_reducible first | assumption | apply State.writeIf_kept | apply outKept_next | intro _

theorem execLaneDisable_kept {kk : Keep} (nmem : kk.mem = none) (who : Sys2Proof.Req) (l : Sys2Proof.LaneId) (v : Word) (s : State) (kh : Kept kk s) : OutKept kk (execLaneDisable who l v s) := by
  unfold execLaneDisable
  try dsimp only
  repeat' first
    | with_reducible first | assumption | apply State.writeIf_kept | apply outKept_next | intro _

theorem execLanegapWrite_kept {kk : Keep} (nmem : kk.mem = none) (who : Sys2Proof.Req) (l : Sys2Proof.LaneId) (v : Word) (s : State) (kh : Kept kk s) : OutKept kk (execLanegapWrite who l v s) := by
  unfold execLanegapWrite
  try dsimp only
  repeat' first
    | with_reducible first | assumption | apply State.doWrite_kept | apply outKept_next | intro _

theorem execQcfgWrite_kept {kk : Keep} (nmem : kk.mem = none) (who : Sys2Proof.Req) (t : Sys2Proof.TileId) (q : Sys2Proof.QueueId) (v : Word) (s : State) (kh : Kept kk s) : OutKept kk (execQcfgWrite who t q v s) := by
  unfold execQcfgWrite
  try dsimp only
  repeat' first
    | with_reducible first | assumption | apply State.doWrite_kept | apply outKept_next | intro _

theorem execQdbProd_kept {kk : Keep} (nmem : kk.mem = none) (who : Sys2Proof.Req) (t : Sys2Proof.TileId) (q : Sys2Proof.QueueId) (count : Fin 65536) (s : State) (kh : Kept kk s) : OutKept kk (execQdbProd who t q count s) := by
  unfold execQdbProd
  try dsimp only
  repeat' first
    | with_reducible first | assumption | apply State.doWrite_kept | apply outKept_next | intro _

theorem execQdbCons_kept {kk : Keep} (nmem : kk.mem = none) (who : Sys2Proof.Req) (t : Sys2Proof.TileId) (q : Sys2Proof.QueueId) (count : Fin 65536) (s : State) (kh : Kept kk s) : OutKept kk (execQdbCons who t q count s) := by
  unfold execQdbCons
  try dsimp only
  repeat' first
    | with_reducible first | assumption | apply State.doWrite_kept | apply outKept_next | intro _

theorem execStrkcfgWrite_kept {kk : Keep} (nmem : kk.mem = none) (who : Sys2Proof.Req) (v : Word) (s : State) (kh : Kept kk s) : OutKept kk (execStrkcfgWrite who v s) := by
  unfold execStrkcfgWrite
  try dsimp only
  repeat' first
    | with_reducible first | assumption | apply State.doWrite_kept | apply outKept_next | intro _

theorem execCuttakeArm_kept {kk : Keep} (nmem : kk.mem = none) (who : Sys2Proof.Req) (v : Word) (s : State) (kh : Kept kk s) : OutKept kk (execCuttakeArm who v s) := by
  unfold execCuttakeArm
  try dsimp only
  repeat' first
    | with_reducible first | assumption | apply State.writeIf_kept | apply outKept_next | intro _

theorem execTctlReset_kept {kk : Keep} (nmem : kk.mem = none) (who : Sys2Proof.Req) (c : Sys2Proof.CoreId) (n : Sys2Proof.ThreadId) (s : State) (kh : Kept kk s) : OutKept kk (execTctlReset who c n s) := by
  unfold execTctlReset
  try dsimp only
  repeat' first
    | with_reducible first | assumption | apply State.doWrite_kept | apply outKept_next | intro _

theorem execTctlResume_kept {kk : Keep} (nmem : kk.mem = none) (who : Sys2Proof.Req) (c : Sys2Proof.CoreId) (n : Sys2Proof.ThreadId) (s : State) (kh : Kept kk s) : OutKept kk (execTctlResume who c n s) := by
  unfold execTctlResume
  try dsimp only
  repeat' first
    | with_reducible first | assumption | apply State.doWrite_kept | apply outKept_next | intro _

theorem execTctlSkip_kept {kk : Keep} (nmem : kk.mem = none) (who : Sys2Proof.Req) (c : Sys2Proof.CoreId) (n : Sys2Proof.ThreadId) (s : State) (kh : Kept kk s) : OutKept kk (execTctlSkip who c n s) := by
  unfold execTctlSkip
  try dsimp only
  repeat' first
    | with_reducible first | assumption | apply State.doWrite_kept | apply outKept_next | intro _

theorem execRbcfgWrite_kept {kk : Keep} (nmem : kk.mem = none) (who : Sys2Proof.Req) (b : Fin 4096) (v : Word) (s : State) (kh : Kept kk s) : OutKept kk (execRbcfgWrite who b v s) := by
  unfold execRbcfgWrite
  try dsimp only
  repeat' first
    | with_reducible first | assumption | apply State.doWrite_kept | apply outKept_next | intro _

theorem execLinkEnable_kept {kk : Keep} (nmem : kk.mem = none) (who : Sys2Proof.Req) (k : Sys2Proof.LinkId) (v : Word) (s : State) (kh : Kept kk s) : OutKept kk (execLinkEnable who k v s) := by
  unfold execLinkEnable
  try dsimp only
  repeat' first
    | with_reducible first | assumption | apply State.writeIf_kept | apply outKept_next | intro _

theorem execLinkDisable_kept {kk : Keep} (nmem : kk.mem = none) (who : Sys2Proof.Req) (k : Sys2Proof.LinkId) (v : Word) (s : State) (kh : Kept kk s) : OutKept kk (execLinkDisable who k v s) := by
  unfold execLinkDisable
  try dsimp only
  repeat' first
    | with_reducible first | assumption | apply State.writeIf_kept | apply outKept_next | intro _

theorem execSafex_kept {kk : Keep} (nmem : kk.mem = none) (who : Sys2Proof.Req) (l : Fin 32) (s : State) (kh : Kept kk s) : OutKept kk (execSafex who l s) := by
  unfold execSafex
  try dsimp only
  repeat' first
    | with_reducible first | assumption | apply State.doWrite_kept | apply outKept_next | intro _

theorem execBankpwrWrite_kept {kk : Keep} (nmem : kk.mem = none) (who : Sys2Proof.Req) (t : Sys2Proof.TileId) (v : Word) (s : State) (kh : Kept kk s) : OutKept kk (execBankpwrWrite who t v s) := by
  unfold execBankpwrWrite
  try dsimp only
  repeat' first
    | with_reducible first | assumption | apply State.doWrite_kept | apply outKept_next | intro _

theorem execMocmdGo_kept {kk : Keep} (nmem : kk.mem = none) (who : Sys2Proof.Req) (v : Word) (s : State) (kh : Kept kk s) : OutKept kk (execMocmdGo who v s) := by
  unfold execMocmdGo
  try dsimp only
  repeat' first
    | with_reducible first | assumption | apply State.writeIf_kept | apply outKept_next | intro _

theorem execRushcfgEn_kept {kk : Keep} (nmem : kk.mem = none) (who : Sys2Proof.Req) (u : Option Sys2Proof.TileId) (v : Word) (s : State) (kh : Kept kk s) : OutKept kk (execRushcfgEn who u v s) := by
  unfold execRushcfgEn
  try dsimp only
  repeat' first
    | with_reducible first | assumption | apply State.doWrite_kept | apply outKept_next
    | simp only [↓kept_mk_iff]
    | with_reducible intro _
    | split

theorem execUniso_kept {kk : Keep} (nmem : kk.mem = none) (who : Sys2Proof.Req) (r : Sys2Proof.RouterId) (s : State) (kh : Kept kk s) : OutKept kk (execUniso who r s) := by
  unfold execUniso
  try dsimp only
  repeat' first
    | with_reducible first | assumption | apply State.doWrite_kept | apply outKept_next | intro _

theorem execUnisoe_kept {kk : Keep} (nmem : kk.mem = none) (who : Sys2Proof.Req) (r : Sys2Proof.RouterId) (s : State) (kh : Kept kk s) : OutKept kk (execUnisoe who r s) := by
  unfold execUnisoe
  try dsimp only
  repeat' first
    | with_reducible first | assumption | apply State.doWrite_kept | apply outKept_next | intro _

theorem execRtbankStage_kept {kk : Keep} (nmem : kk.mem = none) (who : Sys2Proof.Req) (b : Fin 2) (v : Word) (s : State) (kh : Kept kk s) : OutKept kk (execRtbankStage who b v s) := by
  unfold execRtbankStage
  try dsimp only
  repeat' first
    | with_reducible first | assumption | apply State.writeIf_kept | apply outKept_next | intro _

theorem execRtbankUnstage_kept {kk : Keep} (nmem : kk.mem = none) (who : Sys2Proof.Req) (b : Fin 2) (v : Word) (s : State) (kh : Kept kk s) : OutKept kk (execRtbankUnstage who b v s) := by
  unfold execRtbankUnstage
  try dsimp only
  repeat' first
    | with_reducible first | assumption | apply State.writeIf_kept | apply outKept_next | intro _

theorem execIswset_kept {kk : Keep} (nmem : kk.mem = none) (who : Sys2Proof.Req) (t : Sys2Proof.TileId) (v : Word) (s : State) (kh : Kept kk s) : OutKept kk (execIswset who t v s) := by
  unfold execIswset
  try dsimp only
  repeat' first
    | with_reducible first | assumption | apply State.doWrite_kept | apply outKept_next | intro _

theorem execDswset_kept {kk : Keep} (nmem : kk.mem = none) (who : Sys2Proof.Req) (k : Fin 4) (v : Word) (s : State) (kh : Kept kk s) : OutKept kk (execDswset who k v s) := by
  unfold execDswset
  try dsimp only
  repeat' first
    | with_reducible first | assumption | apply State.doWrite_kept | apply outKept_next | intro _

theorem execTpwrReqOn_kept {kk : Keep} (nmem : kk.mem = none) (who : Sys2Proof.Req) (t : Sys2Proof.TileId) (v : Word) (s : State) (kh : Kept kk s) : OutKept kk (execTpwrReqOn who t v s) := by
  unfold execTpwrReqOn
  try dsimp only
  repeat' first
    | with_reducible first | assumption | apply State.writeIf_kept | apply outKept_next | intro _

theorem execTpwrReqNap_kept {kk : Keep} (nmem : kk.mem = none) (who : Sys2Proof.Req) (t : Sys2Proof.TileId) (v : Word) (s : State) (kh : Kept kk s) : OutKept kk (execTpwrReqNap who t v s) := by
  unfold execTpwrReqNap
  try dsimp only
  repeat' first
    | with_reducible first | assumption | apply State.writeIf_kept | apply outKept_next | intro _

theorem execTpwrReqOff_kept {kk : Keep} (nmem : kk.mem = none) (who : Sys2Proof.Req) (t : Sys2Proof.TileId) (v : Word) (s : State) (kh : Kept kk s) : OutKept kk (execTpwrReqOff who t v s) := by
  unfold execTpwrReqOff
  try dsimp only
  repeat' first
    | with_reducible first | assumption | apply State.writeIf_kept | apply outKept_next | intro _

theorem execLkcellWrite_kept {kk : Keep} (nmem : kk.mem = none) (who : Sys2Proof.Req) (g : Sys2Proof.TileId) (cell : Fin 64) (v : Word) (s : State) (kh : Kept kk s) : OutKept kk (execLkcellWrite who g cell v s) := by
  unfold execLkcellWrite
  try dsimp only
  repeat' first
    | with_reducible first | assumption | apply State.doWrite_kept | apply outKept_next | intro _

theorem execLkgcfgWrite_kept {kk : Keep} (nmem : kk.mem = none) (who : Sys2Proof.Req) (g : Sys2Proof.TileId) (v : Word) (s : State) (kh : Kept kk s) : OutKept kk (execLkgcfgWrite who g v s) := by
  unfold execLkgcfgWrite
  try dsimp only
  repeat' first
    | with_reducible first | assumption | apply State.doWrite_kept | apply outKept_next | intro _

theorem execHalt_kept {kk : Keep} (nmem : kk.mem = none) (who : Sys2Proof.Req) (c : Sys2Proof.CoreId) (n : Sys2Proof.ThreadId) (s : State) (kh : Kept kk s) : OutKept kk (execHalt who c n s) := by
  unfold execHalt
  try dsimp only
  repeat' first
    | with_reducible first | assumption | apply State.doWrite_kept | apply outKept_next | intro _

theorem execDbgtRun_kept {kk : Keep} (nmem : kk.mem = none) (who : Sys2Proof.Req) (c : Sys2Proof.CoreId) (n : Sys2Proof.ThreadId) (s : State) (kh : Kept kk s) : OutKept kk (execDbgtRun who c n s) := by
  unfold execDbgtRun
  try dsimp only
  repeat' first
    | with_reducible first | assumption | apply State.doWrite_kept | apply outKept_next | intro _

theorem execStep_kept {kk : Keep} (nmem : kk.mem = none) (who : Sys2Proof.Req) (c : Sys2Proof.CoreId) (n : Sys2Proof.ThreadId) (s : State) (kh : Kept kk s) : OutKept kk (execStep who c n s) := by
  unfold execStep
  try dsimp only
  repeat' first
    | with_reducible first | assumption | apply State.doWrite_kept | apply outKept_next | intro _

theorem execChpol_kept {kk : Keep} (nmem : kk.mem = none) (who : Sys2Proof.Req) (c : Sys2Proof.CoreId) (n : Sys2Proof.ThreadId) (s : State) (kh : Kept kk s) : OutKept kk (execChpol who c n s) := by
  unfold execChpol
  try dsimp only
  repeat' first
    | with_reducible first | assumption | apply State.doWrite_kept | apply outKept_next | intro _

end Sys2Proof.Machine
end

