-- ==== Sys2Proof/Laws/KeptRows.lean ====
section
/-! SUPPORT. What the model keeps (Kept.lean): the rows of instructions and the idle cycle. One lemma for each operation: memory, graph memory and the device state are kept unless the lemma asks that they need not be. -/
namespace Sys2Proof.Machine

theorem State.instr_kept {kk : Keep} (nmem : kk.mem = none) (s : State) (dt : Nat) (x : Sys2Proof.Site) (op : Nat) (p : Word → Bool) (kh : Kept kk s) : Kept kk (State.instr s dt x op p) := by
  unfold State.instr
  try dsimp only
  repeat' first
    | with_reducible first | assumption | apply State.dispatchUnit_kept | apply State.issue_kept | apply State.advance_kept
    | simp only [↓kept_mk_iff]
    | with_reducible intro _
    | split

theorem execCrc32c_kept {kk : Keep} (nmem : kk.mem = none) (dt : Nat) (x : Sys2Proof.Site) (s : State) (kh : Kept kk s) : OutKept kk (execCrc32c dt x s) := by
  unfold execCrc32c
  try dsimp only
  repeat' first
    | with_reducible first | assumption | apply State.instr_kept | apply outKept_next | intro _

theorem execCrc32_kept {kk : Keep} (nmem : kk.mem = none) (dt : Nat) (x : Sys2Proof.Site) (s : State) (kh : Kept kk s) : OutKept kk (execCrc32 dt x s) := by
  unfold execCrc32
  try dsimp only
  repeat' first
    | with_reducible first | assumption | apply State.instr_kept | apply outKept_next | intro _

theorem execCrc16_kept {kk : Keep} (nmem : kk.mem = none) (dt : Nat) (x : Sys2Proof.Site) (s : State) (kh : Kept kk s) : OutKept kk (execCrc16 dt x s) := by
  unfold execCrc16
  try dsimp only
  repeat' first
    | with_reducible first | assumption | apply State.instr_kept | apply outKept_next | intro _

theorem execPar_kept {kk : Keep} (nmem : kk.mem = none) (dt : Nat) (x : Sys2Proof.Site) (s : State) (kh : Kept kk s) : OutKept kk (execPar dt x s) := by
  unfold execPar
  try dsimp only
  repeat' first
    | with_reducible first | assumption | apply State.instr_kept | apply outKept_next | intro _

theorem execParb_kept {kk : Keep} (nmem : kk.mem = none) (dt : Nat) (x : Sys2Proof.Site) (s : State) (kh : Kept kk s) : OutKept kk (execParb dt x s) := by
  unfold execParb
  try dsimp only
  repeat' first
    | with_reducible first | assumption | apply State.instr_kept | apply outKept_next | intro _

theorem execBrev_kept {kk : Keep} (nmem : kk.mem = none) (dt : Nat) (x : Sys2Proof.Site) (s : State) (kh : Kept kk s) : OutKept kk (execBrev dt x s) := by
  unfold execBrev
  try dsimp only
  repeat' first
    | with_reducible first | assumption | apply State.instr_kept | apply outKept_next | intro _

theorem execBrevw_kept {kk : Keep} (nmem : kk.mem = none) (dt : Nat) (x : Sys2Proof.Site) (s : State) (kh : Kept kk s) : OutKept kk (execBrevw dt x s) := by
  unfold execBrevw
  try dsimp only
  repeat' first
    | with_reducible first | assumption | apply State.instr_kept | apply outKept_next | intro _

theorem execBrevb_kept {kk : Keep} (nmem : kk.mem = none) (dt : Nat) (x : Sys2Proof.Site) (s : State) (kh : Kept kk s) : OutKept kk (execBrevb dt x s) := by
  unfold execBrevb
  try dsimp only
  repeat' first
    | with_reducible first | assumption | apply State.instr_kept | apply outKept_next | intro _

theorem execMisr_kept {kk : Keep} (nmem : kk.mem = none) (dt : Nat) (x : Sys2Proof.Site) (s : State) (kh : Kept kk s) : OutKept kk (execMisr dt x s) := by
  unfold execMisr
  try dsimp only
  repeat' first
    | with_reducible first | assumption | apply State.instr_kept | apply outKept_next | intro _

theorem execMisrw_kept {kk : Keep} (nmem : kk.mem = none) (dt : Nat) (x : Sys2Proof.Site) (s : State) (kh : Kept kk s) : OutKept kk (execMisrw dt x s) := by
  unfold execMisrw
  try dsimp only
  repeat' first
    | with_reducible first | assumption | apply State.instr_kept | apply outKept_next | intro _

theorem execB_kept {kk : Keep} (nmem : kk.mem = none) (dt : Nat) (c : Sys2Proof.CoreId) (n : Sys2Proof.ThreadId) (s : State) (kh : Kept kk s) : OutKept kk (execB dt c n s) := by
  unfold execB
  try dsimp only
  repeat' first
    | with_reducible first | assumption | apply State.instr_kept | apply outKept_next | intro _

theorem execCbz_kept {kk : Keep} (nmem : kk.mem = none) (dt : Nat) (c : Sys2Proof.CoreId) (n : Sys2Proof.ThreadId) (s : State) (kh : Kept kk s) : OutKept kk (execCbz dt c n s) := by
  unfold execCbz
  try dsimp only
  repeat' first
    | with_reducible first | assumption | apply State.instr_kept | apply outKept_next | intro _

theorem execCbnz_kept {kk : Keep} (nmem : kk.mem = none) (dt : Nat) (c : Sys2Proof.CoreId) (n : Sys2Proof.ThreadId) (s : State) (kh : Kept kk s) : OutKept kk (execCbnz dt c n s) := by
  unfold execCbnz
  try dsimp only
  repeat' first
    | with_reducible first | assumption | apply State.instr_kept | apply outKept_next | intro _

theorem execJal_kept {kk : Keep} (nmem : kk.mem = none) (dt : Nat) (c : Sys2Proof.CoreId) (n : Sys2Proof.ThreadId) (s : State) (kh : Kept kk s) : OutKept kk (execJal dt c n s) := by
  unfold execJal
  try dsimp only
  repeat' first
    | with_reducible first | assumption | apply State.instr_kept | apply outKept_next | intro _

theorem execJr_kept {kk : Keep} (nmem : kk.mem = none) (dt : Nat) (c : Sys2Proof.CoreId) (n : Sys2Proof.ThreadId) (s : State) (kh : Kept kk s) : OutKept kk (execJr dt c n s) := by
  unfold execJr
  try dsimp only
  repeat' first
    | with_reducible first | assumption | apply State.instr_kept | apply outKept_next | intro _

theorem execLoop_kept {kk : Keep} (nmem : kk.mem = none) (dt : Nat) (c : Sys2Proof.CoreId) (n : Sys2Proof.ThreadId) (s : State) (kh : Kept kk s) : OutKept kk (execLoop dt c n s) := by
  unfold execLoop
  try dsimp only
  repeat' first
    | with_reducible first | assumption | apply State.instr_kept | apply outKept_next | intro _

theorem execFork_kept {kk : Keep} (nmem : kk.mem = none) (dt : Nat) (c : Sys2Proof.CoreId) (n : Sys2Proof.ThreadId) (s : State) (kh : Kept kk s) : OutKept kk (execFork dt c n s) := by
  unfold execFork
  try dsimp only
  repeat' first
    | with_reducible first | assumption | apply State.instr_kept | apply outKept_next | intro _

theorem execJoin_kept {kk : Keep} (nmem : kk.mem = none) (dt : Nat) (c : Sys2Proof.CoreId) (n : Sys2Proof.ThreadId) (s : State) (kh : Kept kk s) : OutKept kk (execJoin dt c n s) := by
  unfold execJoin
  try dsimp only
  repeat' first
    | with_reducible first | assumption | apply State.instr_kept | apply outKept_next | intro _

theorem execExit_kept {kk : Keep} (nmem : kk.mem = none) (dt : Nat) (c : Sys2Proof.CoreId) (n : Sys2Proof.ThreadId) (s : State) (kh : Kept kk s) : OutKept kk (execExit dt c n s) := by
  unfold execExit
  try dsimp only
  repeat' first
    | with_reducible first | assumption | apply State.instr_kept | apply outKept_next | intro _

theorem execFadd_kept {kk : Keep} (nmem : kk.mem = none) (dt : Nat) (x : Sys2Proof.Site) (s : State) (kh : Kept kk s) : OutKept kk (execFadd dt x s) := by
  unfold execFadd
  try dsimp only
  repeat' first
    | with_reducible first | assumption | apply State.instr_kept | apply outKept_next | intro _

theorem execFsub_kept {kk : Keep} (nmem : kk.mem = none) (dt : Nat) (x : Sys2Proof.Site) (s : State) (kh : Kept kk s) : OutKept kk (execFsub dt x s) := by
  unfold execFsub
  try dsimp only
  repeat' first
    | with_reducible first | assumption | apply State.instr_kept | apply outKept_next | intro _

theorem execFmul_kept {kk : Keep} (nmem : kk.mem = none) (dt : Nat) (x : Sys2Proof.Site) (s : State) (kh : Kept kk s) : OutKept kk (execFmul dt x s) := by
  unfold execFmul
  try dsimp only
  repeat' first
    | with_reducible first | assumption | apply State.instr_kept | apply outKept_next | intro _

theorem execFdiv_kept {kk : Keep} (nmem : kk.mem = none) (dt : Nat) (x : Sys2Proof.Site) (s : State) (kh : Kept kk s) : OutKept kk (execFdiv dt x s) := by
  unfold execFdiv
  try dsimp only
  repeat' first
    | with_reducible first | assumption | apply State.instr_kept | apply outKept_next | intro _

theorem execFsqrt_kept {kk : Keep} (nmem : kk.mem = none) (dt : Nat) (x : Sys2Proof.Site) (s : State) (kh : Kept kk s) : OutKept kk (execFsqrt dt x s) := by
  unfold execFsqrt
  try dsimp only
  repeat' first
    | with_reducible first | assumption | apply State.instr_kept | apply outKept_next | intro _

theorem execFma_kept {kk : Keep} (nmem : kk.mem = none) (dt : Nat) (x : Sys2Proof.Site) (s : State) (kh : Kept kk s) : OutKept kk (execFma dt x s) := by
  unfold execFma
  try dsimp only
  repeat' first
    | with_reducible first | assumption | apply State.instr_kept | apply outKept_next | intro _

theorem execFmin_kept {kk : Keep} (nmem : kk.mem = none) (dt : Nat) (x : Sys2Proof.Site) (s : State) (kh : Kept kk s) : OutKept kk (execFmin dt x s) := by
  unfold execFmin
  try dsimp only
  repeat' first
    | with_reducible first | assumption | apply State.instr_kept | apply outKept_next | intro _

theorem execFmax_kept {kk : Keep} (nmem : kk.mem = none) (dt : Nat) (x : Sys2Proof.Site) (s : State) (kh : Kept kk s) : OutKept kk (execFmax dt x s) := by
  unfold execFmax
  try dsimp only
  repeat' first
    | with_reducible first | assumption | apply State.instr_kept | apply outKept_next | intro _

theorem execFneg_kept {kk : Keep} (nmem : kk.mem = none) (dt : Nat) (x : Sys2Proof.Site) (s : State) (kh : Kept kk s) : OutKept kk (execFneg dt x s) := by
  unfold execFneg
  try dsimp only
  repeat' first
    | with_reducible first | assumption | apply State.instr_kept | apply outKept_next | intro _

theorem execFabs_kept {kk : Keep} (nmem : kk.mem = none) (dt : Nat) (x : Sys2Proof.Site) (s : State) (kh : Kept kk s) : OutKept kk (execFabs dt x s) := by
  unfold execFabs
  try dsimp only
  repeat' first
    | with_reducible first | assumption | apply State.instr_kept | apply outKept_next | intro _

theorem execFcmp_kept {kk : Keep} (nmem : kk.mem = none) (dt : Nat) (x : Sys2Proof.Site) (s : State) (kh : Kept kk s) : OutKept kk (execFcmp dt x s) := by
  unfold execFcmp
  try dsimp only
  repeat' first
    | with_reducible first | assumption | apply State.instr_kept | apply outKept_next | intro _

theorem execFcvt_kept {kk : Keep} (nmem : kk.mem = none) (dt : Nat) (x : Sys2Proof.Site) (s : State) (kh : Kept kk s) : OutKept kk (execFcvt dt x s) := by
  unfold execFcvt
  try dsimp only
  repeat' first
    | with_reducible first | assumption | apply State.instr_kept | apply outKept_next | intro _

theorem execFcvti_kept {kk : Keep} (nmem : kk.mem = none) (dt : Nat) (x : Sys2Proof.Site) (s : State) (kh : Kept kk s) : OutKept kk (execFcvti dt x s) := by
  unfold execFcvti
  try dsimp only
  repeat' first
    | with_reducible first | assumption | apply State.instr_kept | apply outKept_next | intro _

theorem execFcvtiu_kept {kk : Keep} (nmem : kk.mem = none) (dt : Nat) (x : Sys2Proof.Site) (s : State) (kh : Kept kk s) : OutKept kk (execFcvtiu dt x s) := by
  unfold execFcvtiu
  try dsimp only
  repeat' first
    | with_reducible first | assumption | apply State.instr_kept | apply outKept_next | intro _

theorem execFcvtf_kept {kk : Keep} (nmem : kk.mem = none) (dt : Nat) (x : Sys2Proof.Site) (s : State) (kh : Kept kk s) : OutKept kk (execFcvtf dt x s) := by
  unfold execFcvtf
  try dsimp only
  repeat' first
    | with_reducible first | assumption | apply State.instr_kept | apply outKept_next | intro _

theorem execFcvtfu_kept {kk : Keep} (nmem : kk.mem = none) (dt : Nat) (x : Sys2Proof.Site) (s : State) (kh : Kept kk s) : OutKept kk (execFcvtfu dt x s) := by
  unfold execFcvtfu
  try dsimp only
  repeat' first
    | with_reducible first | assumption | apply State.instr_kept | apply outKept_next | intro _

theorem execFmov_kept {kk : Keep} (nmem : kk.mem = none) (dt : Nat) (c : Sys2Proof.CoreId) (n : Sys2Proof.ThreadId) (s : State) (kh : Kept kk s) : OutKept kk (execFmov dt c n s) := by
  unfold execFmov
  try dsimp only
  repeat' first
    | with_reducible first | assumption | apply State.instr_kept | apply outKept_next | intro _

theorem execFmvwf_kept {kk : Keep} (nmem : kk.mem = none) (dt : Nat) (c : Sys2Proof.CoreId) (n : Sys2Proof.ThreadId) (s : State) (kh : Kept kk s) : OutKept kk (execFmvwf dt c n s) := by
  unfold execFmvwf
  try dsimp only
  repeat' first
    | with_reducible first | assumption | apply State.instr_kept | apply outKept_next | intro _

theorem execFmvfw_kept {kk : Keep} (nmem : kk.mem = none) (dt : Nat) (c : Sys2Proof.CoreId) (n : Sys2Proof.ThreadId) (s : State) (kh : Kept kk s) : OutKept kk (execFmvfw dt c n s) := by
  unfold execFmvfw
  try dsimp only
  repeat' first
    | with_reducible first | assumption | apply State.instr_kept | apply outKept_next | intro _

theorem execFclass_kept {kk : Keep} (nmem : kk.mem = none) (dt : Nat) (x : Sys2Proof.Site) (s : State) (kh : Kept kk s) : OutKept kk (execFclass dt x s) := by
  unfold execFclass
  try dsimp only
  repeat' first
    | with_reducible first | assumption | apply State.instr_kept | apply outKept_next | intro _

theorem execAdd_kept {kk : Keep} (nmem : kk.mem = none) (dt : Nat) (x : Sys2Proof.Site) (s : State) (kh : Kept kk s) : OutKept kk (execAdd dt x s) := by
  unfold execAdd
  try dsimp only
  repeat' first
    | with_reducible first | assumption | apply State.instr_kept | apply outKept_next | intro _

theorem execAddc_kept {kk : Keep} (nmem : kk.mem = none) (dt : Nat) (c : Sys2Proof.CoreId) (n : Sys2Proof.ThreadId) (s : State) (kh : Kept kk s) : OutKept kk (execAddc dt c n s) := by
  unfold execAddc
  try dsimp only
  repeat' first
    | with_reducible first | assumption | apply State.instr_kept | apply outKept_next | intro _

theorem execSub_kept {kk : Keep} (nmem : kk.mem = none) (dt : Nat) (x : Sys2Proof.Site) (s : State) (kh : Kept kk s) : OutKept kk (execSub dt x s) := by
  unfold execSub
  try dsimp only
  repeat' first
    | with_reducible first | assumption | apply State.instr_kept | apply outKept_next | intro _

theorem execSubc_kept {kk : Keep} (nmem : kk.mem = none) (dt : Nat) (c : Sys2Proof.CoreId) (n : Sys2Proof.ThreadId) (s : State) (kh : Kept kk s) : OutKept kk (execSubc dt c n s) := by
  unfold execSubc
  try dsimp only
  repeat' first
    | with_reducible first | assumption | apply State.instr_kept | apply outKept_next | intro _

theorem execAddo_kept {kk : Keep} (nmem : kk.mem = none) (dt : Nat) (x : Sys2Proof.Site) (s : State) (kh : Kept kk s) : OutKept kk (execAddo dt x s) := by
  unfold execAddo
  try dsimp only
  repeat' first
    | with_reducible first | assumption | apply State.instr_kept | apply outKept_next | intro _

theorem execSubo_kept {kk : Keep} (nmem : kk.mem = none) (dt : Nat) (x : Sys2Proof.Site) (s : State) (kh : Kept kk s) : OutKept kk (execSubo dt x s) := by
  unfold execSubo
  try dsimp only
  repeat' first
    | with_reducible first | assumption | apply State.instr_kept | apply outKept_next | intro _

theorem execNeg_kept {kk : Keep} (nmem : kk.mem = none) (dt : Nat) (x : Sys2Proof.Site) (s : State) (kh : Kept kk s) : OutKept kk (execNeg dt x s) := by
  unfold execNeg
  try dsimp only
  repeat' first
    | with_reducible first | assumption | apply State.instr_kept | apply outKept_next | intro _

theorem execNego_kept {kk : Keep} (nmem : kk.mem = none) (dt : Nat) (x : Sys2Proof.Site) (s : State) (kh : Kept kk s) : OutKept kk (execNego dt x s) := by
  unfold execNego
  try dsimp only
  repeat' first
    | with_reducible first | assumption | apply State.instr_kept | apply outKept_next | intro _

theorem execAnd_kept {kk : Keep} (nmem : kk.mem = none) (dt : Nat) (x : Sys2Proof.Site) (s : State) (kh : Kept kk s) : OutKept kk (execAnd dt x s) := by
  unfold execAnd
  try dsimp only
  repeat' first
    | with_reducible first | assumption | apply State.instr_kept | apply outKept_next | intro _

theorem execOr_kept {kk : Keep} (nmem : kk.mem = none) (dt : Nat) (x : Sys2Proof.Site) (s : State) (kh : Kept kk s) : OutKept kk (execOr dt x s) := by
  unfold execOr
  try dsimp only
  repeat' first
    | with_reducible first | assumption | apply State.instr_kept | apply outKept_next | intro _

theorem execXor_kept {kk : Keep} (nmem : kk.mem = none) (dt : Nat) (x : Sys2Proof.Site) (s : State) (kh : Kept kk s) : OutKept kk (execXor dt x s) := by
  unfold execXor
  try dsimp only
  repeat' first
    | with_reducible first | assumption | apply State.instr_kept | apply outKept_next | intro _

theorem execAndn_kept {kk : Keep} (nmem : kk.mem = none) (dt : Nat) (x : Sys2Proof.Site) (s : State) (kh : Kept kk s) : OutKept kk (execAndn dt x s) := by
  unfold execAndn
  try dsimp only
  repeat' first
    | with_reducible first | assumption | apply State.instr_kept | apply outKept_next | intro _

theorem execOrn_kept {kk : Keep} (nmem : kk.mem = none) (dt : Nat) (x : Sys2Proof.Site) (s : State) (kh : Kept kk s) : OutKept kk (execOrn dt x s) := by
  unfold execOrn
  try dsimp only
  repeat' first
    | with_reducible first | assumption | apply State.instr_kept | apply outKept_next | intro _

theorem execXnor_kept {kk : Keep} (nmem : kk.mem = none) (dt : Nat) (x : Sys2Proof.Site) (s : State) (kh : Kept kk s) : OutKept kk (execXnor dt x s) := by
  unfold execXnor
  try dsimp only
  repeat' first
    | with_reducible first | assumption | apply State.instr_kept | apply outKept_next | intro _

theorem execNot_kept {kk : Keep} (nmem : kk.mem = none) (dt : Nat) (x : Sys2Proof.Site) (s : State) (kh : Kept kk s) : OutKept kk (execNot dt x s) := by
  unfold execNot
  try dsimp only
  repeat' first
    | with_reducible first | assumption | apply State.instr_kept | apply outKept_next | intro _

theorem execMov_kept {kk : Keep} (nmem : kk.mem = none) (dt : Nat) (x : Sys2Proof.Site) (s : State) (kh : Kept kk s) : OutKept kk (execMov dt x s) := by
  unfold execMov
  try dsimp only
  repeat' first
    | with_reducible first | assumption | apply State.instr_kept | apply outKept_next | intro _

theorem execLsl_kept {kk : Keep} (nmem : kk.mem = none) (dt : Nat) (x : Sys2Proof.Site) (s : State) (kh : Kept kk s) : OutKept kk (execLsl dt x s) := by
  unfold execLsl
  try dsimp only
  repeat' first
    | with_reducible first | assumption | apply State.instr_kept | apply outKept_next | intro _

theorem execLsr_kept {kk : Keep} (nmem : kk.mem = none) (dt : Nat) (x : Sys2Proof.Site) (s : State) (kh : Kept kk s) : OutKept kk (execLsr dt x s) := by
  unfold execLsr
  try dsimp only
  repeat' first
    | with_reducible first | assumption | apply State.instr_kept | apply outKept_next | intro _

theorem execAsr_kept {kk : Keep} (nmem : kk.mem = none) (dt : Nat) (x : Sys2Proof.Site) (s : State) (kh : Kept kk s) : OutKept kk (execAsr dt x s) := by
  unfold execAsr
  try dsimp only
  repeat' first
    | with_reducible first | assumption | apply State.instr_kept | apply outKept_next | intro _

theorem execRor_kept {kk : Keep} (nmem : kk.mem = none) (dt : Nat) (x : Sys2Proof.Site) (s : State) (kh : Kept kk s) : OutKept kk (execRor dt x s) := by
  unfold execRor
  try dsimp only
  repeat' first
    | with_reducible first | assumption | apply State.instr_kept | apply outKept_next | intro _

theorem execLslw_kept {kk : Keep} (nmem : kk.mem = none) (dt : Nat) (x : Sys2Proof.Site) (s : State) (kh : Kept kk s) : OutKept kk (execLslw dt x s) := by
  unfold execLslw
  try dsimp only
  repeat' first
    | with_reducible first | assumption | apply State.instr_kept | apply outKept_next | intro _

theorem execLsrw_kept {kk : Keep} (nmem : kk.mem = none) (dt : Nat) (x : Sys2Proof.Site) (s : State) (kh : Kept kk s) : OutKept kk (execLsrw dt x s) := by
  unfold execLsrw
  try dsimp only
  repeat' first
    | with_reducible first | assumption | apply State.instr_kept | apply outKept_next | intro _

theorem execAsrw_kept {kk : Keep} (nmem : kk.mem = none) (dt : Nat) (x : Sys2Proof.Site) (s : State) (kh : Kept kk s) : OutKept kk (execAsrw dt x s) := by
  unfold execAsrw
  try dsimp only
  repeat' first
    | with_reducible first | assumption | apply State.instr_kept | apply outKept_next | intro _

theorem execRorw_kept {kk : Keep} (nmem : kk.mem = none) (dt : Nat) (x : Sys2Proof.Site) (s : State) (kh : Kept kk s) : OutKept kk (execRorw dt x s) := by
  unfold execRorw
  try dsimp only
  repeat' first
    | with_reducible first | assumption | apply State.instr_kept | apply outKept_next | intro _

theorem execCmp_kept {kk : Keep} (nmem : kk.mem = none) (dt : Nat) (x : Sys2Proof.Site) (s : State) (kh : Kept kk s) : OutKept kk (execCmp dt x s) := by
  unfold execCmp
  try dsimp only
  repeat' first
    | with_reducible first | assumption | apply State.instr_kept | apply outKept_next | intro _

theorem execCmpw_kept {kk : Keep} (nmem : kk.mem = none) (dt : Nat) (x : Sys2Proof.Site) (s : State) (kh : Kept kk s) : OutKept kk (execCmpw dt x s) := by
  unfold execCmpw
  try dsimp only
  repeat' first
    | with_reducible first | assumption | apply State.instr_kept | apply outKept_next | intro _

theorem execTst_kept {kk : Keep} (nmem : kk.mem = none) (dt : Nat) (x : Sys2Proof.Site) (s : State) (kh : Kept kk s) : OutKept kk (execTst dt x s) := by
  unfold execTst
  try dsimp only
  repeat' first
    | with_reducible first | assumption | apply State.instr_kept | apply outKept_next | intro _

theorem execMin_kept {kk : Keep} (nmem : kk.mem = none) (dt : Nat) (x : Sys2Proof.Site) (s : State) (kh : Kept kk s) : OutKept kk (execMin dt x s) := by
  unfold execMin
  try dsimp only
  repeat' first
    | with_reducible first | assumption | apply State.instr_kept | apply outKept_next | intro _

theorem execMax_kept {kk : Keep} (nmem : kk.mem = none) (dt : Nat) (x : Sys2Proof.Site) (s : State) (kh : Kept kk s) : OutKept kk (execMax dt x s) := by
  unfold execMax
  try dsimp only
  repeat' first
    | with_reducible first | assumption | apply State.instr_kept | apply outKept_next | intro _

theorem execMinu_kept {kk : Keep} (nmem : kk.mem = none) (dt : Nat) (x : Sys2Proof.Site) (s : State) (kh : Kept kk s) : OutKept kk (execMinu dt x s) := by
  unfold execMinu
  try dsimp only
  repeat' first
    | with_reducible first | assumption | apply State.instr_kept | apply outKept_next | intro _

theorem execMaxu_kept {kk : Keep} (nmem : kk.mem = none) (dt : Nat) (x : Sys2Proof.Site) (s : State) (kh : Kept kk s) : OutKept kk (execMaxu dt x s) := by
  unfold execMaxu
  try dsimp only
  repeat' first
    | with_reducible first | assumption | apply State.instr_kept | apply outKept_next | intro _

theorem execAbs_kept {kk : Keep} (nmem : kk.mem = none) (dt : Nat) (x : Sys2Proof.Site) (s : State) (kh : Kept kk s) : OutKept kk (execAbs dt x s) := by
  unfold execAbs
  try dsimp only
  repeat' first
    | with_reducible first | assumption | apply State.instr_kept | apply outKept_next | intro _

theorem execMulu_kept {kk : Keep} (nmem : kk.mem = none) (dt : Nat) (x : Sys2Proof.Site) (s : State) (kh : Kept kk s) : OutKept kk (execMulu dt x s) := by
  unfold execMulu
  try dsimp only
  repeat' first
    | with_reducible first | assumption | apply State.instr_kept | apply outKept_next | intro _

theorem execMuls_kept {kk : Keep} (nmem : kk.mem = none) (dt : Nat) (x : Sys2Proof.Site) (s : State) (kh : Kept kk s) : OutKept kk (execMuls dt x s) := by
  unfold execMuls
  try dsimp only
  repeat' first
    | with_reducible first | assumption | apply State.instr_kept | apply outKept_next | intro _

theorem execMacu_kept {kk : Keep} (nmem : kk.mem = none) (dt : Nat) (c : Sys2Proof.CoreId) (n : Sys2Proof.ThreadId) (s : State) (kh : Kept kk s) : OutKept kk (execMacu dt c n s) := by
  unfold execMacu
  try dsimp only
  repeat' first
    | with_reducible first | assumption | apply State.instr_kept | apply outKept_next | intro _

theorem execMacs_kept {kk : Keep} (nmem : kk.mem = none) (dt : Nat) (c : Sys2Proof.CoreId) (n : Sys2Proof.ThreadId) (s : State) (kh : Kept kk s) : OutKept kk (execMacs dt c n s) := by
  unfold execMacs
  try dsimp only
  repeat' first
    | with_reducible first | assumption | apply State.instr_kept | apply outKept_next | intro _

theorem execMul_kept {kk : Keep} (nmem : kk.mem = none) (dt : Nat) (x : Sys2Proof.Site) (s : State) (kh : Kept kk s) : OutKept kk (execMul dt x s) := by
  unfold execMul
  try dsimp only
  repeat' first
    | with_reducible first | assumption | apply State.instr_kept | apply outKept_next | intro _

theorem execMfph_kept {kk : Keep} (nmem : kk.mem = none) (dt : Nat) (c : Sys2Proof.CoreId) (n : Sys2Proof.ThreadId) (s : State) (kh : Kept kk s) : OutKept kk (execMfph dt c n s) := by
  unfold execMfph
  try dsimp only
  repeat' first
    | with_reducible first | assumption | apply State.instr_kept | apply outKept_next | intro _

theorem execMfpl_kept {kk : Keep} (nmem : kk.mem = none) (dt : Nat) (c : Sys2Proof.CoreId) (n : Sys2Proof.ThreadId) (s : State) (kh : Kept kk s) : OutKept kk (execMfpl dt c n s) := by
  unfold execMfpl
  try dsimp only
  repeat' first
    | with_reducible first | assumption | apply State.instr_kept | apply outKept_next | intro _

theorem execMtpp_kept {kk : Keep} (nmem : kk.mem = none) (dt : Nat) (c : Sys2Proof.CoreId) (n : Sys2Proof.ThreadId) (s : State) (kh : Kept kk s) : OutKept kk (execMtpp dt c n s) := by
  unfold execMtpp
  try dsimp only
  repeat' first
    | with_reducible first | assumption | apply State.instr_kept | apply outKept_next | intro _

theorem execDset_kept {kk : Keep} (nmem : kk.mem = none) (dt : Nat) (c : Sys2Proof.CoreId) (n : Sys2Proof.ThreadId) (s : State) (kh : Kept kk s) : OutKept kk (execDset dt c n s) := by
  unfold execDset
  try dsimp only
  repeat' first
    | with_reducible first | assumption | apply State.instr_kept | apply outKept_next | intro _

theorem execDsetw_kept {kk : Keep} (nmem : kk.mem = none) (dt : Nat) (c : Sys2Proof.CoreId) (n : Sys2Proof.ThreadId) (s : State) (kh : Kept kk s) : OutKept kk (execDsetw dt c n s) := by
  unfold execDsetw
  try dsimp only
  repeat' first
    | with_reducible first | assumption | apply State.instr_kept | apply outKept_next | intro _

theorem execDsetu_kept {kk : Keep} (nmem : kk.mem = none) (dt : Nat) (c : Sys2Proof.CoreId) (n : Sys2Proof.ThreadId) (s : State) (kh : Kept kk s) : OutKept kk (execDsetu dt c n s) := by
  unfold execDsetu
  try dsimp only
  repeat' first
    | with_reducible first | assumption | apply State.instr_kept | apply outKept_next | intro _

theorem execDsetuw_kept {kk : Keep} (nmem : kk.mem = none) (dt : Nat) (c : Sys2Proof.CoreId) (n : Sys2Proof.ThreadId) (s : State) (kh : Kept kk s) : OutKept kk (execDsetuw dt c n s) := by
  unfold execDsetuw
  try dsimp only
  repeat' first
    | with_reducible first | assumption | apply State.instr_kept | apply outKept_next | intro _

theorem execDstep_kept {kk : Keep} (nmem : kk.mem = none) (dt : Nat) (c : Sys2Proof.CoreId) (n : Sys2Proof.ThreadId) (s : State) (kh : Kept kk s) : OutKept kk (execDstep dt c n s) := by
  unfold execDstep
  try dsimp only
  repeat' first
    | with_reducible first | assumption | apply State.instr_kept | apply outKept_next | intro _

theorem execDfin_kept {kk : Keep} (nmem : kk.mem = none) (dt : Nat) (c : Sys2Proof.CoreId) (n : Sys2Proof.ThreadId) (s : State) (kh : Kept kk s) : OutKept kk (execDfin dt c n s) := by
  unfold execDfin
  try dsimp only
  repeat' first
    | with_reducible first | assumption | apply State.instr_kept | apply outKept_next | intro _

theorem execDfinw_kept {kk : Keep} (nmem : kk.mem = none) (dt : Nat) (c : Sys2Proof.CoreId) (n : Sys2Proof.ThreadId) (s : State) (kh : Kept kk s) : OutKept kk (execDfinw dt c n s) := by
  unfold execDfinw
  try dsimp only
  repeat' first
    | with_reducible first | assumption | apply State.instr_kept | apply outKept_next | intro _

theorem execClz_kept {kk : Keep} (nmem : kk.mem = none) (dt : Nat) (x : Sys2Proof.Site) (s : State) (kh : Kept kk s) : OutKept kk (execClz dt x s) := by
  unfold execClz
  try dsimp only
  repeat' first
    | with_reducible first | assumption | apply State.instr_kept | apply outKept_next | intro _

theorem execCtz_kept {kk : Keep} (nmem : kk.mem = none) (dt : Nat) (x : Sys2Proof.Site) (s : State) (kh : Kept kk s) : OutKept kk (execCtz dt x s) := by
  unfold execCtz
  try dsimp only
  repeat' first
    | with_reducible first | assumption | apply State.instr_kept | apply outKept_next | intro _

theorem execPopc_kept {kk : Keep} (nmem : kk.mem = none) (dt : Nat) (x : Sys2Proof.Site) (s : State) (kh : Kept kk s) : OutKept kk (execPopc dt x s) := by
  unfold execPopc
  try dsimp only
  repeat' first
    | with_reducible first | assumption | apply State.instr_kept | apply outKept_next | intro _

theorem execExt_kept {kk : Keep} (nmem : kk.mem = none) (dt : Nat) (x : Sys2Proof.Site) (s : State) (kh : Kept kk s) : OutKept kk (execExt dt x s) := by
  unfold execExt
  try dsimp only
  repeat' first
    | with_reducible first | assumption | apply State.instr_kept | apply outKept_next | intro _

theorem execExtu_kept {kk : Keep} (nmem : kk.mem = none) (dt : Nat) (x : Sys2Proof.Site) (s : State) (kh : Kept kk s) : OutKept kk (execExtu dt x s) := by
  unfold execExtu
  try dsimp only
  repeat' first
    | with_reducible first | assumption | apply State.instr_kept | apply outKept_next | intro _

theorem execIns_kept {kk : Keep} (nmem : kk.mem = none) (dt : Nat) (c : Sys2Proof.CoreId) (n : Sys2Proof.ThreadId) (s : State) (kh : Kept kk s) : OutKept kk (execIns dt c n s) := by
  unfold execIns
  try dsimp only
  repeat' first
    | with_reducible first | assumption | apply State.instr_kept | apply outKept_next | intro _

theorem execBswap_kept {kk : Keep} (nmem : kk.mem = none) (dt : Nat) (x : Sys2Proof.Site) (s : State) (kh : Kept kk s) : OutKept kk (execBswap dt x s) := by
  unfold execBswap
  try dsimp only
  repeat' first
    | with_reducible first | assumption | apply State.instr_kept | apply outKept_next | intro _

theorem execSxt_kept {kk : Keep} (nmem : kk.mem = none) (dt : Nat) (x : Sys2Proof.Site) (s : State) (kh : Kept kk s) : OutKept kk (execSxt dt x s) := by
  unfold execSxt
  try dsimp only
  repeat' first
    | with_reducible first | assumption | apply State.instr_kept | apply outKept_next | intro _

theorem execZxt_kept {kk : Keep} (nmem : kk.mem = none) (dt : Nat) (x : Sys2Proof.Site) (s : State) (kh : Kept kk s) : OutKept kk (execZxt dt x s) := by
  unfold execZxt
  try dsimp only
  repeat' first
    | with_reducible first | assumption | apply State.instr_kept | apply outKept_next | intro _

theorem execSetc_kept {kk : Keep} (nmem : kk.mem = none) (dt : Nat) (x : Sys2Proof.Site) (s : State) (kh : Kept kk s) : OutKept kk (execSetc dt x s) := by
  unfold execSetc
  try dsimp only
  repeat' first
    | with_reducible first | assumption | apply State.instr_kept | apply outKept_next | intro _

theorem execLdb_kept {kk : Keep} (nmem : kk.mem = none) (dt : Nat) (x : Sys2Proof.Site) (s : State) (kh : Kept kk s) : OutKept kk (execLdb dt x s) := by
  unfold execLdb
  try dsimp only
  repeat' first
    | with_reducible first | assumption | apply State.instr_kept | apply outKept_next | intro _

theorem execLdbu_kept {kk : Keep} (nmem : kk.mem = none) (dt : Nat) (x : Sys2Proof.Site) (s : State) (kh : Kept kk s) : OutKept kk (execLdbu dt x s) := by
  unfold execLdbu
  try dsimp only
  repeat' first
    | with_reducible first | assumption | apply State.instr_kept | apply outKept_next | intro _

theorem execLdh_kept {kk : Keep} (nmem : kk.mem = none) (dt : Nat) (x : Sys2Proof.Site) (s : State) (kh : Kept kk s) : OutKept kk (execLdh dt x s) := by
  unfold execLdh
  try dsimp only
  repeat' first
    | with_reducible first | assumption | apply State.instr_kept | apply outKept_next | intro _

theorem execLdhu_kept {kk : Keep} (nmem : kk.mem = none) (dt : Nat) (x : Sys2Proof.Site) (s : State) (kh : Kept kk s) : OutKept kk (execLdhu dt x s) := by
  unfold execLdhu
  try dsimp only
  repeat' first
    | with_reducible first | assumption | apply State.instr_kept | apply outKept_next | intro _

theorem execLdw_kept {kk : Keep} (nmem : kk.mem = none) (dt : Nat) (x : Sys2Proof.Site) (s : State) (kh : Kept kk s) : OutKept kk (execLdw dt x s) := by
  unfold execLdw
  try dsimp only
  repeat' first
    | with_reducible first | assumption | apply State.instr_kept | apply outKept_next | intro _

theorem execLdwu_kept {kk : Keep} (nmem : kk.mem = none) (dt : Nat) (x : Sys2Proof.Site) (s : State) (kh : Kept kk s) : OutKept kk (execLdwu dt x s) := by
  unfold execLdwu
  try dsimp only
  repeat' first
    | with_reducible first | assumption | apply State.instr_kept | apply outKept_next | intro _

theorem execLdd_kept {kk : Keep} (nmem : kk.mem = none) (dt : Nat) (x : Sys2Proof.Site) (s : State) (kh : Kept kk s) : OutKept kk (execLdd dt x s) := by
  unfold execLdd
  try dsimp only
  repeat' first
    | with_reducible first | assumption | apply State.instr_kept | apply outKept_next | intro _

theorem execStb_kept {kk : Keep} (nmem : kk.mem = none) (dt : Nat) (x : Sys2Proof.Site) (s : State) (kh : Kept kk s) : OutKept kk (execStb dt x s) := by
  unfold execStb
  try dsimp only
  repeat' first
    | with_reducible first | assumption | apply State.instr_kept | apply outKept_next | intro _

theorem execSth_kept {kk : Keep} (nmem : kk.mem = none) (dt : Nat) (x : Sys2Proof.Site) (s : State) (kh : Kept kk s) : OutKept kk (execSth dt x s) := by
  unfold execSth
  try dsimp only
  repeat' first
    | with_reducible first | assumption | apply State.instr_kept | apply outKept_next | intro _

theorem execStw_kept {kk : Keep} (nmem : kk.mem = none) (dt : Nat) (x : Sys2Proof.Site) (s : State) (kh : Kept kk s) : OutKept kk (execStw dt x s) := by
  unfold execStw
  try dsimp only
  repeat' first
    | with_reducible first | assumption | apply State.instr_kept | apply outKept_next | intro _

theorem execStd_kept {kk : Keep} (nmem : kk.mem = none) (dt : Nat) (x : Sys2Proof.Site) (s : State) (kh : Kept kk s) : OutKept kk (execStd dt x s) := by
  unfold execStd
  try dsimp only
  repeat' first
    | with_reducible first | assumption | apply State.instr_kept | apply outKept_next | intro _

theorem execFlds_kept {kk : Keep} (nmem : kk.mem = none) (dt : Nat) (x : Sys2Proof.Site) (s : State) (kh : Kept kk s) : OutKept kk (execFlds dt x s) := by
  unfold execFlds
  try dsimp only
  repeat' first
    | with_reducible first | assumption | apply State.instr_kept | apply outKept_next | intro _

theorem execFldd_kept {kk : Keep} (nmem : kk.mem = none) (dt : Nat) (x : Sys2Proof.Site) (s : State) (kh : Kept kk s) : OutKept kk (execFldd dt x s) := by
  unfold execFldd
  try dsimp only
  repeat' first
    | with_reducible first | assumption | apply State.instr_kept | apply outKept_next | intro _

theorem execFsts_kept {kk : Keep} (nmem : kk.mem = none) (dt : Nat) (c : Sys2Proof.CoreId) (n : Sys2Proof.ThreadId) (s : State) (kh : Kept kk s) : OutKept kk (execFsts dt c n s) := by
  unfold execFsts
  try dsimp only
  repeat' first
    | with_reducible first | assumption | apply State.instr_kept | apply outKept_next | intro _

theorem execFstd_kept {kk : Keep} (nmem : kk.mem = none) (dt : Nat) (c : Sys2Proof.CoreId) (n : Sys2Proof.ThreadId) (s : State) (kh : Kept kk s) : OutKept kk (execFstd dt c n s) := by
  unfold execFstd
  try dsimp only
  repeat' first
    | with_reducible first | assumption | apply State.instr_kept | apply outKept_next | intro _

theorem execAadd_kept {kk : Keep} (nmem : kk.mem = none) (dt : Nat) (x : Sys2Proof.Site) (s : State) (kh : Kept kk s) : OutKept kk (execAadd dt x s) := by
  unfold execAadd
  try dsimp only
  repeat' first
    | with_reducible first | assumption | apply State.instr_kept | apply outKept_next | intro _

theorem execAswp_kept {kk : Keep} (nmem : kk.mem = none) (dt : Nat) (x : Sys2Proof.Site) (s : State) (kh : Kept kk s) : OutKept kk (execAswp dt x s) := by
  unfold execAswp
  try dsimp only
  repeat' first
    | with_reducible first | assumption | apply State.instr_kept | apply outKept_next | intro _

theorem execDma_kept {kk : Keep} (nmem : kk.mem = none) (dt : Nat) (c : Sys2Proof.CoreId) (n : Sys2Proof.ThreadId) (s : State) (kh : Kept kk s) : OutKept kk (execDma dt c n s) := by
  unfold execDma
  try dsimp only
  repeat' first
    | with_reducible first | assumption | apply State.instr_kept | apply outKept_next | intro _

theorem execLea_kept {kk : Keep} (nmem : kk.mem = none) (dt : Nat) (x : Sys2Proof.Site) (s : State) (kh : Kept kk s) : OutKept kk (execLea dt x s) := by
  unfold execLea
  try dsimp only
  repeat' first
    | with_reducible first | assumption | apply State.instr_kept | apply outKept_next | intro _

theorem execFence_kept {kk : Keep} (nmem : kk.mem = none) (dt : Nat) (c : Sys2Proof.CoreId) (n : Sys2Proof.ThreadId) (s : State) (kh : Kept kk s) : OutKept kk (execFence dt c n s) := by
  unfold execFence
  try dsimp only
  repeat' first
    | with_reducible first | assumption | apply State.instr_kept | apply outKept_next | intro _

theorem execLkacq_kept {kk : Keep} (nmem : kk.mem = none) (dt : Nat) (c : Sys2Proof.CoreId) (n : Sys2Proof.ThreadId) (s : State) (kh : Kept kk s) : OutKept kk (execLkacq dt c n s) := by
  unfold execLkacq
  try dsimp only
  repeat' first
    | with_reducible first | assumption | apply State.instr_kept | apply outKept_next | intro _

theorem execLktry_kept {kk : Keep} (nmem : kk.mem = none) (dt : Nat) (c : Sys2Proof.CoreId) (n : Sys2Proof.ThreadId) (s : State) (kh : Kept kk s) : OutKept kk (execLktry dt c n s) := by
  unfold execLktry
  try dsimp only
  repeat' first
    | with_reducible first | assumption | apply State.instr_kept | apply outKept_next | intro _

theorem execLkrel_kept {kk : Keep} (nmem : kk.mem = none) (dt : Nat) (c : Sys2Proof.CoreId) (n : Sys2Proof.ThreadId) (s : State) (kh : Kept kk s) : OutKept kk (execLkrel dt c n s) := by
  unfold execLkrel
  try dsimp only
  repeat' first
    | with_reducible first | assumption | apply State.instr_kept | apply outKept_next | intro _

theorem execLkcas_kept {kk : Keep} (nmem : kk.mem = none) (dt : Nat) (c : Sys2Proof.CoreId) (n : Sys2Proof.ThreadId) (s : State) (kh : Kept kk s) : OutKept kk (execLkcas dt c n s) := by
  unfold execLkcas
  try dsimp only
  repeat' first
    | with_reducible first | assumption | apply State.instr_kept | apply outKept_next | intro _

theorem execWfe_kept {kk : Keep} (nmem : kk.mem = none) (dt : Nat) (c : Sys2Proof.CoreId) (n : Sys2Proof.ThreadId) (s : State) (kh : Kept kk s) : OutKept kk (execWfe dt c n s) := by
  unfold execWfe
  try dsimp only
  repeat' first
    | with_reducible first | assumption | apply State.instr_kept | apply outKept_next | intro _

theorem execSev_kept {kk : Keep} (nmem : kk.mem = none) (dt : Nat) (c : Sys2Proof.CoreId) (n : Sys2Proof.ThreadId) (s : State) (kh : Kept kk s) : OutKept kk (execSev dt c n s) := by
  unfold execSev
  try dsimp only
  repeat' first
    | with_reducible first | assumption | apply State.instr_kept | apply outKept_next | intro _

theorem execMfsr_kept {kk : Keep} (nmem : kk.mem = none) (dt : Nat) (c : Sys2Proof.CoreId) (n : Sys2Proof.ThreadId) (s : State) (kh : Kept kk s) : OutKept kk (execMfsr dt c n s) := by
  unfold execMfsr
  try dsimp only
  repeat' first
    | with_reducible first | assumption | apply State.instr_kept | apply outKept_next | intro _

theorem execMtsr_kept {kk : Keep} (nmem : kk.mem = none) (dt : Nat) (c : Sys2Proof.CoreId) (n : Sys2Proof.ThreadId) (s : State) (kh : Kept kk s) : OutKept kk (execMtsr dt c n s) := by
  unfold execMtsr
  try dsimp only
  repeat' first
    | with_reducible first | assumption | apply State.instr_kept | apply outKept_next | intro _

theorem execReth_kept {kk : Keep} (nmem : kk.mem = none) (dt : Nat) (c : Sys2Proof.CoreId) (n : Sys2Proof.ThreadId) (s : State) (kh : Kept kk s) : OutKept kk (execReth dt c n s) := by
  unfold execReth
  try dsimp only
  repeat' first
    | with_reducible first | assumption | apply State.instr_kept | apply outKept_next | intro _

theorem execNop_kept {kk : Keep} (nmem : kk.mem = none) (dt : Nat) (x : Sys2Proof.Site) (s : State) (kh : Kept kk s) : OutKept kk (execNop dt x s) := by
  unfold execNop
  try dsimp only
  repeat' first
    | with_reducible first | assumption | apply State.instr_kept | apply outKept_next | intro _

theorem execScrm_kept {kk : Keep} (nmem : kk.mem = none) (dt : Nat) (x : Sys2Proof.Site) (s : State) (kh : Kept kk s) : OutKept kk (execScrm dt x s) := by
  unfold execScrm
  try dsimp only
  repeat' first
    | with_reducible first | assumption | apply State.instr_kept | apply outKept_next | intro _

theorem execDbkg_kept {kk : Keep} (nmem : kk.mem = none) (dt : Nat) (x : Sys2Proof.Site) (s : State) (kh : Kept kk s) : OutKept kk (execDbkg dt x s) := by
  unfold execDbkg
  try dsimp only
  repeat' first
    | with_reducible first | assumption | apply State.instr_kept | apply outKept_next | intro _

theorem execFlog_kept {kk : Keep} (nmem : kk.mem = none) (dt : Nat) (x : Sys2Proof.Site) (s : State) (kh : Kept kk s) : OutKept kk (execFlog dt x s) := by
  unfold execFlog
  try dsimp only
  repeat' first
    | with_reducible first | assumption | apply State.instr_kept | apply outKept_next | intro _

theorem execVrdt_kept {kk : Keep} (nmem : kk.mem = none) (dt : Nat) (x : Sys2Proof.Site) (s : State) (kh : Kept kk s) : OutKept kk (execVrdt dt x s) := by
  unfold execVrdt
  try dsimp only
  repeat' first
    | with_reducible first | assumption | apply State.instr_kept | apply outKept_next | intro _

theorem execAcc_kept {kk : Keep} (nmem : kk.mem = none) (dt : Nat) (x : Sys2Proof.Site) (s : State) (kh : Kept kk s) : OutKept kk (execAcc dt x s) := by
  unfold execAcc
  try dsimp only
  repeat' first
    | with_reducible first | assumption | apply State.instr_kept | apply outKept_next | apply kept_ite | intro _
    | split

theorem execFaccClose_kept {kk : Keep} (nmem : kk.mem = none) (dt : Nat) (x : Sys2Proof.Site) (s : State) (kh : Kept kk s) : OutKept kk (execFaccClose dt x s) := by
  unfold execFaccClose
  try dsimp only
  repeat' first
    | with_reducible first | assumption | apply State.instr_kept | apply outKept_next | apply kept_ite | intro _
    | split

theorem execQuery_kept {kk : Keep} (nmem : kk.mem = none) (dt : Nat) (x : Sys2Proof.Site) (s : State) (kh : Kept kk s) : OutKept kk (execQuery dt x s) := by
  unfold execQuery
  try dsimp only
  repeat' first
    | with_reducible first | assumption | apply State.instr_kept | apply outKept_next | apply kept_ite | intro _
    | split

theorem execDone_kept {kk : Keep} (nmem : kk.mem = none) (dt : Nat) (x : Sys2Proof.Site) (s : State) (kh : Kept kk s) : OutKept kk (execDone dt x s) := by
  unfold execDone
  try dsimp only
  repeat' first
    | with_reducible first | assumption | apply State.instr_kept | apply outKept_next | apply kept_ite | intro _
    | split

theorem execCustomOpcode_kept {kk : Keep} (nmem : kk.mem = none) (dt : Nat) (x : Sys2Proof.Site) (s : State) (kh : Kept kk s) : OutKept kk (execCustomOpcode dt x s) := by
  unfold execCustomOpcode
  try dsimp only
  repeat' first
    | with_reducible first | assumption | apply State.dispatchUnit_kept | apply State.issue_kept | apply State.advance_kept | apply outKept_next
    | simp only [↓kept_mk_iff]
    | with_reducible intro _
    | split

theorem execEmit_kept {kk : Keep} (nmem : kk.mem = none) (dt : Nat) (c : Sys2Proof.CoreId) (n : Sys2Proof.ThreadId) (s : State) (kh : Kept kk s) : OutKept kk (execEmit dt c n s) := by
  unfold execEmit
  try dsimp only
  repeat' first
    | with_reducible first | assumption | apply State.instr_kept | apply outKept_next | intro _

theorem execAlloc_kept {kk : Keep} (nmem : kk.mem = none) (dt : Nat) (c : Sys2Proof.CoreId) (n : Sys2Proof.ThreadId) (s : State) (kh : Kept kk s) : OutKept kk (execAlloc dt c n s) := by
  unfold execAlloc
  try dsimp only
  repeat' first
    | with_reducible first | assumption | apply State.instr_kept | apply outKept_next | intro _

theorem execFwd_kept {kk : Keep} (nmem : kk.mem = none) (dt : Nat) (t : Sys2Proof.TileId) (u : Fin 4) (s : State) (kh : Kept kk s) : OutKept kk (execFwd dt t u s) := by
  unfold execFwd
  try dsimp only
  repeat' first
    | with_reducible first | assumption | apply State.instr_kept | apply outKept_next | intro _

theorem execSteer_kept {kk : Keep} (nmem : kk.mem = none) (dt : Nat) (t : Sys2Proof.TileId) (u : Fin 4) (s : State) (kh : Kept kk s) : OutKept kk (execSteer dt t u s) := by
  unfold execSteer
  try dsimp only
  repeat' first
    | with_reducible first | assumption | apply State.instr_kept | apply outKept_next | intro _

theorem execLnout_kept {kk : Keep} (nmem : kk.mem = none) (dt : Nat) (t : Sys2Proof.TileId) (u : Fin 4) (s : State) (kh : Kept kk s) : OutKept kk (execLnout dt t u s) := by
  unfold execLnout
  try dsimp only
  repeat' first
    | with_reducible first | assumption | apply State.instr_kept | apply outKept_next | intro _

theorem execQpush_kept {kk : Keep} (nmem : kk.mem = none) (dt : Nat) (x : Sys2Proof.Site) (s : State) (kh : Kept kk s) : OutKept kk (execQpush dt x s) := by
  unfold execQpush
  try dsimp only
  repeat' first
    | with_reducible first | assumption | apply State.instr_kept | apply outKept_next | intro _

theorem execQpop_kept {kk : Keep} (nmem : kk.mem = none) (dt : Nat) (c : Sys2Proof.CoreId) (n : Sys2Proof.ThreadId) (s : State) (kh : Kept kk s) : OutKept kk (execQpop dt c n s) := by
  unfold execQpop
  try dsimp only
  repeat' first
    | with_reducible first | assumption | apply State.instr_kept | apply outKept_next | intro _

theorem execQpopnb_kept {kk : Keep} (nmem : kk.mem = none) (dt : Nat) (c : Sys2Proof.CoreId) (n : Sys2Proof.ThreadId) (s : State) (kh : Kept kk s) : OutKept kk (execQpopnb dt c n s) := by
  unfold execQpopnb
  try dsimp only
  repeat' first
    | with_reducible first | assumption | apply State.instr_kept | apply outKept_next | intro _

theorem execChw_kept {kk : Keep} (nmem : kk.mem = none) (dt : Nat) (c : Sys2Proof.CoreId) (n : Sys2Proof.ThreadId) (s : State) (kh : Kept kk s) : OutKept kk (execChw dt c n s) := by
  unfold execChw
  try dsimp only
  repeat' first
    | with_reducible first | assumption | apply State.instr_kept | apply outKept_next | intro _

theorem execChc_kept {kk : Keep} (nmem : kk.mem = none) (dt : Nat) (c : Sys2Proof.CoreId) (n : Sys2Proof.ThreadId) (s : State) (kh : Kept kk s) : OutKept kk (execChc dt c n s) := by
  unfold execChc
  try dsimp only
  repeat' first
    | with_reducible first | assumption | apply State.instr_kept | apply outKept_next | intro _

theorem execTmr_kept {kk : Keep} (nmem : kk.mem = none) (dt : Nat) (x : Sys2Proof.Site) (s : State) (kh : Kept kk s) : OutKept kk (execTmr dt x s) := by
  unfold execTmr
  try dsimp only
  repeat' first
    | with_reducible first | assumption | apply State.instr_kept | apply outKept_next | intro _

theorem execTcan_kept {kk : Keep} (nmem : kk.mem = none) (dt : Nat) (c : Sys2Proof.CoreId) (n : Sys2Proof.ThreadId) (s : State) (kh : Kept kk s) : OutKept kk (execTcan dt c n s) := by
  unfold execTcan
  try dsimp only
  repeat' first
    | with_reducible first | assumption | apply State.instr_kept | apply outKept_next | intro _

theorem execSink_kept {kk : Keep} (nmem : kk.mem = none) (dt : Nat) (t : Sys2Proof.TileId) (u : Fin 4) (s : State) (kh : Kept kk s) : OutKept kk (execSink dt t u s) := by
  unfold execSink
  try dsimp only
  repeat' first
    | with_reducible first | assumption | apply State.instr_kept | apply outKept_next | intro _

theorem State.tick_kept {kk : Keep} (s : State) (kh : Kept kk s) : Kept kk (State.tick s) := by
  unfold State.tick
  try dsimp only
  repeat' first
    | with_reducible first | assumption | apply State.txBlock_kept | apply State.advance_kept
    | (with_reducible apply kept_foldl; intro _ _ _)
    | (with_reducible apply kept_foldl_fst; intro _ _ _)
    | (with_reducible apply kept_foldl_snd; intro _ _ _)
    | with_reducible intro _

end Sys2Proof.Machine
end

