-- ==== Sys2Proof/Laws/Tokens.lean ====
section
/-! SUPPORT. Tokens that leave a unit: to the own tile, or to the mesh where its port is free. -/
namespace Sys2Proof.Machine

theorem mem_grow {α : Type} {a b c : List α} (h : ∀ x ∈ b, x ∈ c) : ∀ x ∈ a ++ b, x ∈ a ++ c := fun x m =>
  (List.mem_append.1 m).elim (fun m => List.mem_append_left _ m) (fun m => List.mem_append_right _ (h x m))

/-- The second of two changes may grow. -/
theorem Only.grow {a b c : Changes} {u t : State} (h : Only (a.and b) u t) (r : ∀ x ∈ b.regs, x ∈ c.regs) (n : ∀ x ∈ b.threads, x ∈ c.threads) (i : ∀ x ∈ b.tiles, x ∈ c.tiles)
    (l : ∀ x ∈ b.lanes, x ∈ c.lanes) (k : ∀ x ∈ b.links, x ∈ c.links) (x : ∀ x ∈ b.ctxs, x ∈ c.ctxs) (p : ∀ x ∈ b.parts, x ∈ c.parts) : Only (a.and c) u t :=
  h.weaken (mem_grow r) (mem_grow n) (mem_grow i) (mem_grow l) (mem_grow k) (mem_grow x) (mem_grow p)

section
variable {s : State} {own : Option Nat} {r : Nat} {e : Bool} {dest : TokTo} {k : Token}

/-- A token for the own tile is staged at once. -/
theorem sendTok_own (hn : ∀ g, s.routeTok r dest k = .fabric g → s.devnum = 0xFFFF → k.dev = 0xFFFF) (hs : s.siteOf (s.routeTok r dest k) = (r, e)) (ho : own.isSome = true) :
    s.sendTok own r e dest k = .sent (s.bump.deliverTok (s.routeTok r dest k) k r e false s.seqNo) := by
  unfold State.sendTok
  dsimp only
  have h1 : (match s.routeTok r dest k with | .fabric _ => decide (s.devnum = 0xFFFF) && decide (k.dev ≠ 0xFFFF) | _ => false) = false := by
    cases h : s.routeTok r dest k <;> try rfl
    rename_i g
    by_cases hd : s.devnum = 0xFFFF
    · simp [hn g h hd]
    · simp [hd]
  refine (if_neg (fun q => Bool.false_ne_true (h1.symm.trans q))).trans ?_
  rw [if_pos ⟨hs, ho⟩]

/-- A token for another place joins its port's buffer. -/
theorem sendTok_mesh (hn : ∀ g, s.routeTok r dest k = .fabric g → s.devnum = 0xFFFF → k.dev = 0xFFFF) (hs : s.siteOf (s.routeTok r dest k) ≠ (r, e)) {p : Packet}
    (hp : p = mkPacket 0 (k.cls + 1) (s.siteOf (s.routeTok r dest k)).1 (s.siteOf (s.routeTok r dest k)).2 r e 1 (.tok k (s.routeTok r dest k) (own.getD 0))) (hw : s.freeWay r e p) :
    s.sendTok own r e dest k = .sent (s.bump.setBuf (portKey r e p) (s.buf (portKey r e p) ++ ({ p with arr := s.now, stamp := s.seqNo + 1 } : Packet).flits)) := by
  unfold State.sendTok
  dsimp only
  have h1 : (match s.routeTok r dest k with | .fabric _ => decide (s.devnum = 0xFFFF) && decide (k.dev ≠ 0xFFFF) | _ => false) = false := by
    cases h : s.routeTok r dest k <;> try rfl
    rename_i g
    by_cases hd : s.devnum = 0xFFFF
    · simp [hn g h hd]
    · simp [hd]
  refine (if_neg (fun q => Bool.false_ne_true (h1.symm.trans q))).trans ?_
  rw [if_neg fun h => hs h.1, ← hp]
  exact inject_free hw
end

section
variable {s u : State} (h : ∀ k a i, s.reg k a i = u.reg k a i)

include h in
theorem devnum_of : s.devnum = u.devnum := fget_of h _ _ _

include h in
theorem routeTok_of (r : Nat) (dest : TokTo) (k : Token) : s.routeTok r dest k = u.routeTok r dest k := by
  unfold State.routeTok
  rw [devnum_of h]

include h in
theorem sliceSite_of (k : Nat) : s.sliceSite k = u.sliceSite k := by
  unfold State.sliceSite
  rw [routerOf_of h]

include h in
theorem siteOf_of (dest : TokTo) : s.siteOf dest = u.siteOf dest := by
  cases dest <;> simp only [State.siteOf, routerOf_of h, sliceSite_of h, laneSlice_of (fun a i => h _ a i)]
end

/-- A completed instruction, by the word that the row asks for. -/
theorem Takes.done {u : State} {c n : Nat} {o : Ins} {y : Thread} {ch : Changes} {P : State → Prop} (t : Takes u c n o) (l : n < 16) {p : Word → Bool} (hp : p o.w = true)
    (hm : ∀ s1, Began u s1 c n → ∃ s', meaningOf o.op s1 c n o = .done s' ∧ Did u s' c n y ch ∧ ∀ x, P (s'.setThr c n x))
    (hst : y.st = .ready) (hq : Quiet y.loads) (hpc : (y.stepPc o.pc (o.pc + o.len)).pc ≤ 16383) :
    ∃ t, u.issue c n p = t ∧ InSequence u t c n o y ch ∧ P t := by
  obtain ⟨s1, occ, hb, he⟩ := t.perform l p hp
  obtain ⟨s', hx, hd, hP⟩ := hm s1 hb
  rw [hx] at he
  obtain ⟨x, hz⟩ := hd.done_eq (r := s1) (pre := s1.thr c n) occ (o := o) (hb.pre t) hst hq hpc
  exact ⟨_, he, hd.done l occ (o := o) (hb.pre t) hst hq hpc, by rw [hz]; exact hP x⟩

end Sys2Proof.Machine
end

