-- ==== Sys2Proof/WellFormed.lean ====
section
/-! DEFINITION. Which commands are well formed: the ranges that an operand's type does not say. -/
namespace Sys2Proof

/-- A requester that the machine has (10 R245): threads of 68 cores, fire units and DMA of 64 tiles, three privilege levels. -/
def Req.wf : Req → Bool
  | .thread c n => decide (c < 68) && decide (n < 16)
  | .firing t u => decide (t < 64) && decide (u < 4)
  | .host => true
  | .debug => true
  | .aklofy p => decide (p < 3)
  | .dma t n => decide (t < 64) && decide (n < 16)

/-- A datagram of UDP on IPv4 (13 R329). -/
def AkMsg.wf (m : AkMsg) : Bool := decide (m.ip < 2 ^ 32) && decide (m.udp < 2 ^ 16) && decide (m.bytes.length ≤ 65507)

/-- The data of an access fits its length. -/
def BarOp.fits (size : Nat) : BarOp → Bool
  | .read => true
  | .write v => decide (v < 256 ^ size)
  | .add v => decide (v < 256 ^ size)
  | .swap v => decide (v < 256 ^ size)

/-- An access within its BAR (13 R349). -/
def BarAcc.wf (x : BarAcc) : Bool :=
  decide (x.off + x.len.val + 1 ≤ (if x.bar = 0 then 0x2000000 else if x.bar = 1 then 0x1000 else 0x1000000000)) && x.op.fits (x.len.val + 1)

/-- A PTP domain has 8 bits (11 R303). -/
def PtpMsg.wf (m : PtpMsg) : Bool := decide (m.domain < 256)

/-- Is the command well formed: blocks of 32 bytes (09 R210), frames of 8 words (09 R220, 11 R288), command entries of 2,048 bytes (13 R350), 72 sensors (15 R389), addresses of 48 bits (10 R243)? -/
def Instr.wf : Instr → Bool
  | .registerWrite who addr _ => who.wf && decide (addr < 2 ^ 48)
  | .ltmapWrite who _ _ => who.wf
  | .retire who _ _ => who.wf
  | .tokenLookup _ _ => true
  | .spillWriteBufferDrain _ _ => true
  | .refill _ _ _ => true
  | .taskDispatch _ _ _ => true
  | .chainedDispatch _ _ _ => true
  | .freeNotice _ => true
  | .contextClose _ _ _ => true
  | .sweepEnd _ _ _ => true
  | .closeAck _ _ => true
  | .alloc _ _ _ => true
  | .windowArrival _ _ => true
  | .release _ _ => true
  | .creditFlit _ _ => true
  | .creditArrival _ => true
  | .snextReport _ => true
  | .gapTimeout _ _ => true
  | .lanestatSkip who _ => who.wf
  | .laneEnable who _ _ => who.wf
  | .laneDisable who _ _ => who.wf
  | .laneDrained _ => true
  | .lanegapWrite who _ _ => who.wf
  | .qcfgWrite who _ _ _ => who.wf
  | .qdbProd who _ _ _ => who.wf
  | .qdbCons who _ _ _ => who.wf
  | .queuePush _ _ _ => true
  | .laneSourcePop _ _ => true
  | .pushRetry _ _ _ => true
  | .strokeBoundary _ => true
  | .overrunLimit _ _ => true
  | .shotOpen _ _ => true
  | .strokeInEdge _ _ => true
  | .strokeSourceLost _ => true
  | .strokeSourceReturn _ => true
  | .strkcfgWrite who _ => who.wf
  | .cuttakeArm who _ => who.wf
  | .cutChecksComplete _ => true
  | .cutSample _ => true
  | .timerDue _ _ => true
  | .timerArmRetry _ _ _ => true
  | .tctlReset who _ _ => who.wf
  | .tctlResume who _ _ => who.wf
  | .tctlSkip who _ _ => who.wf
  | .faultTokenArrival _ => true
  | .loadComplete _ _ _ => true
  | .add _ _ => true
  | .addc _ _ _ => true
  | .sub _ _ => true
  | .subc _ _ _ => true
  | .addo _ _ => true
  | .subo _ _ => true
  | .neg _ _ => true
  | .nego _ _ => true
  | .and _ _ => true
  | .or _ _ => true
  | .xor _ _ => true
  | .andn _ _ => true
  | .orn _ _ => true
  | .xnor _ _ => true
  | .not _ _ => true
  | .mov _ _ => true
  | .lsl _ _ => true
  | .lsr _ _ => true
  | .asr _ _ => true
  | .ror _ _ => true
  | .lslw _ _ => true
  | .lsrw _ _ => true
  | .asrw _ _ => true
  | .rorw _ _ => true
  | .cmp _ _ => true
  | .cmpw _ _ => true
  | .tst _ _ => true
  | .min _ _ => true
  | .max _ _ => true
  | .minu _ _ => true
  | .maxu _ _ => true
  | .abs _ _ => true
  | .mulu _ _ => true
  | .muls _ _ => true
  | .macu _ _ _ => true
  | .macs _ _ _ => true
  | .mul _ _ => true
  | .mfph _ _ _ => true
  | .mfpl _ _ _ => true
  | .mtpp _ _ _ => true
  | .dset _ _ _ => true
  | .dsetw _ _ _ => true
  | .dsetu _ _ _ => true
  | .dsetuw _ _ _ => true
  | .dstep _ _ _ => true
  | .dfin _ _ _ => true
  | .dfinw _ _ _ => true
  | .clz _ _ => true
  | .ctz _ _ => true
  | .popc _ _ => true
  | .ext _ _ => true
  | .extu _ _ => true
  | .ins _ _ _ => true
  | .bswap _ _ => true
  | .sxt _ _ => true
  | .zxt _ _ => true
  | .setc _ _ => true
  | .ldb _ _ => true
  | .ldbu _ _ => true
  | .ldh _ _ => true
  | .ldhu _ _ => true
  | .ldw _ _ => true
  | .ldwu _ _ => true
  | .ldd _ _ => true
  | .stb _ _ => true
  | .sth _ _ => true
  | .stw _ _ => true
  | .std _ _ => true
  | .flds _ _ => true
  | .fldd _ _ => true
  | .fsts _ _ _ => true
  | .fstd _ _ _ => true
  | .aadd _ _ => true
  | .aswp _ _ => true
  | .dma _ _ _ => true
  | .dmaComplete _ _ _ => true
  | .dmaRetry _ _ _ => true
  | .lea _ _ => true
  | .b _ _ _ => true
  | .cbz _ _ _ => true
  | .cbnz _ _ _ => true
  | .jal _ _ _ => true
  | .jr _ _ _ => true
  | .loop _ _ _ => true
  | .fork _ _ _ => true
  | .join _ _ _ => true
  | .exit _ _ _ => true
  | .fadd _ _ => true
  | .fsub _ _ => true
  | .fmul _ _ => true
  | .fdiv _ _ => true
  | .fsqrt _ _ => true
  | .fma _ _ => true
  | .fmin _ _ => true
  | .fmax _ _ => true
  | .fneg _ _ => true
  | .fabs _ _ => true
  | .fcmp _ _ => true
  | .fcvt _ _ => true
  | .fcvti _ _ => true
  | .fcvtiu _ _ => true
  | .fcvtf _ _ => true
  | .fcvtfu _ _ => true
  | .fmov _ _ _ => true
  | .fmvwf _ _ _ => true
  | .fmvfw _ _ _ => true
  | .fclass _ _ => true
  | .crc32c _ _ => true
  | .crc32 _ _ => true
  | .crc16 _ _ => true
  | .par _ _ => true
  | .parb _ _ => true
  | .brev _ _ => true
  | .brevw _ _ => true
  | .brevb _ _ => true
  | .misr _ _ => true
  | .misrw _ _ => true
  | .emit _ _ _ => true
  | .fwd _ _ _ => true
  | .steer _ _ _ => true
  | .lnout _ _ _ => true
  | .qpush _ _ => true
  | .qpop _ _ _ => true
  | .qpopnb _ _ _ => true
  | .chw _ _ _ => true
  | .chc _ _ _ => true
  | .spawn _ _ => true
  | .tmr _ _ => true
  | .tcan _ _ _ => true
  | .sink _ _ _ => true
  | .fence _ _ _ => true
  | .lkacq _ _ _ => true
  | .lktry _ _ _ => true
  | .lkrel _ _ _ => true
  | .lkcas _ _ _ => true
  | .lkacqRetry _ _ _ => true
  | .wfe _ _ _ => true
  | .sev _ _ _ => true
  | .sevArrival _ _ => true
  | .mfsr _ _ _ => true
  | .mtsr _ _ _ => true
  | .reth _ _ _ => true
  | .nop _ _ => true
  | .scrm _ _ => true
  | .dbkg _ _ => true
  | .acc _ _ => true
  | .faccClose _ _ => true
  | .query _ _ => true
  | .done _ _ => true
  | .flog _ _ => true
  | .vrdt _ _ => true
  | .vrdtRetry _ _ _ => true
  | .customOpcode _ _ => true
  | .rbcfgWrite who _ _ => who.wf
  | .repairLate _ _ => true
  | .stallReport _ _ => true
  | .contextStalled _ => true
  | .snapshotComplete _ => true
  | .victimDrain _ => true
  | .strandDeadlock _ _ => true
  | .strandDeadlockAction _ _ => true
  | .catchFrame _ _ frame _ => decide (frame.length = 8)
  | .live _ _ block _ => decide (block.length = 32)
  | .liveDue _ _ => true
  | .liveTimeout _ _ => true
  | .lockLoss _ _ => true
  | .ack _ _ block => decide (block.length = 32)
  | .ackDue _ _ => true
  | .nak _ _ block => decide (block.length = 32)
  | .nakResend _ _ => true
  | .replay _ _ block => decide (block.length = 32)
  | .replayTimeout _ _ => true
  | .hold _ _ block => decide (block.length = 32)
  | .runBlock _ _ block => decide (block.length = 32)
  | .vack _ _ block => decide (block.length = 32)
  | .verdictResend _ _ => true
  | .linkEnable who _ _ => who.wf
  | .linkDisable who _ _ => who.wf
  | .trainingComplete _ _ => true
  | .linkUp _ _ => true
  | .safex who _ => who.wf
  | .stimulusBufferRead _ _ => true
  | .bankGrant _ _ _ => true
  | .lpddr4xAccessComplete _ _ => true
  | .eccWriteBack _ _ _ => true
  | .mailboxAccess _ _ _ => true
  | .bankpwrWrite who _ _ => who.wf
  | .bankTransitionComplete _ _ _ => true
  | .mocmdGo who _ => who.wf
  | .unclimReached _ => true
  | .segmentMoveComplete _ => true
  | .rushcfgEn who _ _ => who.wf
  | .borrowStart _ _ => true
  | .copyComplete _ _ => true
  | .testComplete _ _ _ => true
  | .borrowEnd _ _ => true
  | .flitGrant _ _ _ _ _ => true
  | .flitDelivery _ _ _ _ _ => true
  | .flitResend _ _ _ _ => true
  | .portIsolate _ _ _ => true
  | .uniso who _ => who.wf
  | .unisoe who _ => who.wf
  | .bounce _ _ _ => true
  | .bounceReoffer _ _ _ => true
  | .fenceNotice _ _ _ => true
  | .markerAbsorb _ _ _ => true
  | .fenced _ _ => true
  | .fenceDone _ => true
  | .unfence _ _ _ => true
  | .fabricTokenFrame _ _ frame => decide (frame.length = 8)
  | .retFrame _ _ frame => decide (frame.length = 8)
  | .fabricRoute _ _ => true
  | .holdtExpiry _ => true
  | .marker _ _ block _ => decide (block.length = 32)
  | .dreq _ _ block _ => decide (block.length = 32)
  | .drsp _ _ block _ => decide (block.length = 32)
  | .ident _ _ block => decide (block.length = 32)
  | .cred _ _ block => decide (block.length = 32)
  | .periodicIdent _ => true
  | .periodicDelayMeasure _ _ => true
  | .rtbankStage who _ _ => who.wf
  | .rtbankUnstage who _ _ => who.wf
  | .oldBankFree _ => true
  | .ptpSync _ m => m.wf
  | .ptpAnnounce _ m => m.wf
  | .ptpSyncTimeout _ => true
  | .iswset who _ _ => who.wf
  | .dswset who _ _ => who.wf
  | .interruptDelivery _ _ => true
  | .deliveryArrival _ _ => true
  | .deliveryReturn _ => true
  | .preemption _ _ _ => true
  | .tpwrReqOn who _ _ => who.wf
  | .tpwrReqNap who _ _ => who.wf
  | .tpwrReqOff who _ _ => who.wf
  | .idleEntry _ _ => true
  | .napEntry _ _ => true
  | .offEntry _ _ => true
  | .wakeComplete _ _ => true
  | .napTimerWake _ _ => true
  | .watchedWake _ _ => true
  | .lockOperation _ _ => true
  | .lockResult _ _ _ => true
  | .lend _ _ => true
  | .lkcellRead who _ _ => who.wf
  | .lkcellWrite who _ _ _ => who.wf
  | .lkgcfgWrite who _ _ => who.wf
  | .aopen _ m => m.wf
  | .auth _ m => m.wf
  | .authTimeout _ sid => decide (sid < 2 ^ 32)
  | .authLockoutExpiry _ ip => decide (ip < 2 ^ 32)
  | .close _ m => m.wf
  | .hb _ sid => decide (sid < 2 ^ 32)
  | .hback _ m => m.wf
  | .sessionTimeout _ sid => decide (sid < 2 ^ 32)
  | .read _ m => m.wf
  | .write _ m => m.wf
  | .dopen _ m => m.wf
  | .seg _ m => m.wf
  | .evack _ m => m.wf
  | .reset _ m => m.wf
  | .arm _ m => m.wf
  | .run _ m => m.wf
  | .disarm _ m => m.wf
  | .drainComplete _ => true
  | .cut _ m => m.wf
  | .evsub _ m => m.wf
  | .watchdogExpiry _ => true
  | .faultEntry _ _ => true
  | .commandRingEntry _ entry => decide (entry.length = 2048)
  | .h2dEntry _ _ _ => true
  | .hostAccess _ x => x.wf
  | .attentionPulse _ => true
  | .attentionPulseEnd _ => true
  | .hPerst _ _ => true
  | .dapacc _ _ _ _ => true
  | .halt who _ _ => who.wf
  | .haltEntry _ _ _ => true
  | .dbgtRun who _ _ => who.wf
  | .step who _ _ => who.wf
  | .chpol who _ _ => who.wf
  | .verify _ m => m.wf
  | .unstage _ m => m.wf
  | .reelCopyComplete _ => true
  | .fwact _ m => m.wf
  | .firmwareReady _ => true
  | .firmwareRevert _ => true
  | .fwcommit _ m => m.wf
  | .subst _ m => m.wf
  | .subcan _ m => m.wf
  | .presync _ _ => true
  | .stateMoveComplete _ _ => true
  | .autoSubst _ _ => true
  | .attest _ m => m.wf
  | .retrain _ m => m.wf
  | .powerOn _ => true
  | .porstAssert _ => true
  | .porstDeassert _ => true
  | .resetEnd _ _ => true
  | .brownOut _ => true
  | .thermalTrip _ => true
  | .refclkLost _ => true
  | .illegalInstruction _ _ _ => true
  | .shotClose _ _ _ => true
  | .discardedBlock _ _ => true
  | .credDue _ _ => true
  | .bootChainComplete _ _ => true
  | .keelLosesPower _ => true
  | .junctionSensorRead _ temps _ => decide (temps.length = 72)
  | .pcieHotResetOrLinkDown _ => true
  | .managementLinkChange _ _ _ => true
  | .delayResponse _ m => m.wf

end Sys2Proof
end

