-- ==== Sys2Proof/Tests/Base.lean ====
section
/-! SUPPORT. Small states and facts that the witnesses of the statements share. -/
namespace Sys2Proof.Tests
open Sys2Proof.Machine

/-- The value of an option that a test state makes present. -/
def oget {α : Type} (o : Option α) (h : o.isSome = true := by decide) : α := o.get h

/-- A task of shot 0 with every number free. -/
def shot0 : Activity := ⟨0, wd 0xFFFFFFFFFFFFFFFF⟩

/-- A ready thread. -/
def rdy : Thread := { Thread.rst with st := .ready }

/-- A running machine with code or graph g, and x as thread 0 of tile 0. -/
def base (g : Tab Nat Word) (x : Thread) : State :=
  { State.reset with
    dev := .running, graph := g, threads := [(0, x)], tiles := [(0, { Tile.rst with openShots := [0], bankA := { Tile.rst.bankA with shots := [shot0] } })], regs := [((.ACTREM0, 0, 0), wd 0x100000001000), ((.ACTREM1, 0, 0), wd 0x100000001000)] }

/-- An instruction word. -/
def iw (op rd ra rb am imm : Nat) : Word := wd (op * 2^56 + rd * 2^49 + ra * 2^44 + rb * 2^39 + am * 2^35 + imm)

/-- The instruction of thread 0 of tile 0. -/
def ins (z : State) : Ins := match z.decodeAt 0 0 with | .ok o => o | .error _ => ⟨0, 0, false, 0, 0⟩

def mki (op rd ra rb am imm : Nat) (x : Thread) : State := base [(0, iw op rd ra rb am imm)] x

def wth (w : Tab Nat Word) : Thread := { rdy with w := w }

/-- An instruction with RD 1, RA 2 and RB 3 where it uses them. -/
def mkw (op am imm : Nat) : Word := match shapeOf op with
  | none => 0
  | some h => iw op (if h.regs.testBit 2 then 1 else 0) (if h.regs.testBit 1 then 2 else 0) (if h.regs.testBit 0 then 3 else 0) (am &&& h.am) imm

def strand (w : Word) (x : Thread) : State := base [(0, w)] x

def mko (op am imm : Nat) (x : Thread) : State := base [(0, mkw op am imm)] x

/-- Queue q of tile 0 enabled, in DRAM. -/
def withQ (s : State) (q log2n : Nat) : State := ((s.fset F.QCFG_EN 0 q 1).fset F.QCFG_LOG2N 0 q log2n).fset F.QBASE_BASE 0 q (0xFF00010000 / 32)

def tile0 (s : State) (f : Tile → Tile) : State := { s with tiles := s.tiles.map fun p => if p.1 = 0 then (p.1, f p.2) else p }

/-- What holds of every listed value and of the default holds of every value read. -/
theorem tget_all {κ α : Type} [DecidableEq κ] (P : α → Prop) (d : α) (hd : P d) (t : Tab κ α) (h : ∀ e ∈ t, P e.2) (k : κ) : P (tget t d k) := by
  induction t with
  | nil => exact hd
  | cons p r ih =>
    unfold tget tfind?
    by_cases e : p.1 = k
    · simpa [e] using h p (by simp)
    · simpa [e, tget] using ih fun q hq => h q (by simp [hq])

theorem still_of (s : State) (h : ∀ e ∈ s.tiles, e.2.borrow = none) (hd : s.drRush = none) (hm : Memory.wf s.mem = true) : s.Still :=
  ⟨fun d => tget_all (fun x => x.borrow = none) Tile.rst rfl s.tiles h d, hd, hm⟩

theorem reg_all (P : Word → Prop) (s : State) (k : RegKind) (hd : ∀ t i, P (regReset k t i)) (h : ∀ e ∈ s.regs, e.1.1 = k → P e.2) (t i : Nat) : P (s.reg k t i) := by
  unfold State.reg
  generalize s.regs = g at h
  induction g with
  | nil => exact hd t i
  | cons p r ih =>
    unfold tget tfind?
    by_cases e : p.1 = (k, t, i)
    · simpa [e] using h p (by simp) (by rw [e])
    · simpa [e, tget] using ih fun q hq => h q (by simp [hq])

theorem noChannel (s : State) (h : ∀ e ∈ s.regs, e.1.1 = .QPTR → wbits e.2 F.QPTR_RESV.lo F.QPTR_RESV.len ≠ 1) (t q : Nat) : s.fget F.QPTR_RESV t q ≠ 1 :=
  reg_all (fun w => wbits w F.QPTR_RESV.lo F.QPTR_RESV.len ≠ 1) s .QPTR (fun _ _ => by show wbits 0 _ _ ≠ 1; decide) h t q

theorem apart_of (s : State) (c n : Nat) (h : ∀ e ∈ s.regs, e.1.1 = .QPTR → wbits e.2 F.QPTR_RESV.lo F.QPTR_RESV.len ≠ 1) (hw : ∀ k < 16, waitsPool (s.thr c k) = false) (hp : (s.thr c n).parent < 16) : s.Apart c n :=
  ⟨fun t q e => absurd e (noChannel s h t q), hw, hp⟩

theorem message_of (s : State) (p : Ctl → Bool) (m : Ctl) (r : List Ctl)
    (h : ∃ i < s.ctl.length, s.ctl = s.ctl.take i ++ m :: s.ctl.drop (i + 1) ∧ (∀ e ∈ s.ctl.take i, p e = false) ∧ p m = true ∧ r = s.ctl.take i ++ s.ctl.drop (i + 1)) : s.message p m r := by
  obtain ⟨i, _, h1, h2, h3, h4⟩ := h
  exact ⟨_, _, h1, h2, h3, h4⟩

def isFabric : TokTo → Bool
  | .fabric _ => true
  | _ => false

theorem isFabric_of {d : TokTo} {g : Nat} (h : d = .fabric g) : isFabric d = true := by rw [h]; rfl

theorem canSend_of (u : State) (c : Nat) (dest : TokTo) (k : Token) (h : isFabric (u.routeTok (u.routerOf c) dest k) = false)
    (hw : let p := mkPacket 0 (k.cls + 1) (u.siteOf (u.routeTok (u.routerOf c) dest k)).1 (u.siteOf (u.routeTok (u.routerOf c) dest k)).2 (u.routerOf c) false 1 (.tok k (u.routeTok (u.routerOf c) dest k) (if c < 64 then c else 0))
      ¬(u.siteOf (u.routeTok (u.routerOf c) dest k) = (u.routerOf c, false) ∧ c < 64) →
        u.retq (u.routerOf c) false = [] ∧ u.fencedAt (u.routerOf c) p.dr p.edge = false ∧ p.stamp = 0 ∧
          (u.bufUsed (portKey (u.routerOf c) false p) + p.len ≤ bufCap p.vc ∨ u.buf (portKey (u.routerOf c) false p) = [] ∧ p.len ≤ 9)) : u.canSend c dest k :=
  ⟨fun _ e => absurd (isFabric_of e) (by rw [h]; decide), hw⟩

theorem canTell_of (z : State) (c n : Nat) (hc : c < 68) (hn : n < 16) (hx : (z.thr c n).st = .ready) (h : c < 64 → z.Still ∧ z.QuietQ c 255) : z.canTell (.thread c n) :=
  ⟨hc, hn, hx, h⟩

theorem opt_all {α : Type} (o : Option α) (P : α → Prop) [DecidablePred P] (h : o.all (fun a => decide (P a)) = true) (a : α) (e : o = some a) : P a := by
  subst e; simpa using h

theorem rowOf (i : Nat → TileId → Fin 4 → Instr) (w : Word) (k : Nat) (h : nOpc w = k) (m : (i, k) ∈ nodeRows) : RowOf i w := .inl (h ▸ m)

theorem noTile (s : State) (d : Nat) (h : ∀ i < 128, ¬((s.reg .IPEND d (i / 64)).getLsbD (i % 64) = true ∧ (s.reg .IEN d (i / 64)).getLsbD (i % 64) = true)) (i : Nat) : ¬s.eligibleTile d i :=
  fun k => h i k.1 ⟨k.2.1, k.2.2.1⟩

theorem noDev (s : State) (h : ∀ i < 512, ¬((s.reg .DPEND 0 (i / 64)).getLsbD (i % 64) = true ∧ (s.reg .DEN 0 (i / 64)).getLsbD (i % 64) = true)) (i : Nat) : ¬s.eligibleDev i :=
  fun k => h i k.1 ⟨k.2.1, k.2.2.1⟩



theorem thr_all (P : Thread → Prop) (s : State) (h0 : P Thread.rst) (h : ∀ e ∈ s.threads, P e.2) (c n : Nat) : P (s.thr c n) := tget_all P Thread.rst h0 s.threads h _

theorem lane_listed (s : State) (l : Nat) (h : (s.lane l).st ≠ .off) : ∃ e ∈ s.lanes, e.1 = l := by
  unfold State.lane at h
  generalize s.lanes = g at h ⊢
  induction g with
  | nil => exact absurd rfl h
  | cons p r ih =>
    by_cases e : p.1 = l
    · exact ⟨p, .head _, e⟩
    · obtain ⟨q, h1, h2⟩ := ih (by simpa [tget, tfind?, e] using h)
      exact ⟨q, .tail _ h1, h2⟩

theorem nextLane_of (u : State) (o : Outlet) (l : Nat) (h : ∀ e ∈ u.lanes, e.1 = l) : u.nextLane o l := by
  have one : ∀ m k, u.canRelease o m k → m = l := fun m k r => by
    obtain ⟨e, h1, h2⟩ := lane_listed u m r.2.1
    exact h2.symm.trans (h e h1)
  unfold State.nextLane
  dsimp only
  split
  · exact fun m k r _ => (one m k r).ge
  · rename_i hc
    refine ⟨fun m k r => by rw [one m k r]; exact hc, ?_⟩
    split
    · exact fun m k r _ => (one m k r).ge
    · rename_i hl
      exact fun m k r => by have := one m k r; omega

theorem entryFor_of (u : State) (k : FabTok) (e : Nat)
    (h : if k.ret ≠ 0 then ∃ b ∈ u.bankIn 2, e = u.rtEntry b k.sdev
      else (∃ b ∈ u.bankIn 2, e = u.rtEntry b k.tok.dev ∧ u.serves b k.take = true) ∨
        ∃ b ∈ u.bankIn 3, e = u.rtEntry b k.tok.dev ∧ u.serves b k.take = true ∧ ∃ c ∈ u.bankIn 2, u.serves c k.take = false) : u.entryFor k e := by
  unfold State.entryFor
  split at h
  · rename_i hr
    rw [if_pos hr]
    exact h
  · rename_i hr
    rw [if_neg hr]
    rcases h with ⟨b, h1, h2, h3⟩ | ⟨b, h1, h2, h3, c, h4, h5⟩
    · exact ⟨b, h2, .inl ⟨h1, h3⟩⟩
    · exact ⟨b, h2, .inr ⟨h1, h3, c, h4, h5⟩⟩

theorem first_ne {α β : Type} (o : Option (α × β)) (a : α) (h : o.map Prod.fst ≠ some a) (b : β) : o ≠ some (a, b) := fun e => h (by rw [e]; rfl)

theorem path_source {r : Nat → Nat → Prop} {a b : Nat} (h : Relation.TransGen r a b) : ∃ c, r a c := by
  induction h with
  | single h => exact ⟨_, h⟩
  | tail _ _ ih => exact ih

theorem victim_of (u : State) (v : Nat) (hp : u.waitPath v v) (hc : (u.ctx v).cert = false) (hv : v < 65536)
    (h : ∀ e ∈ u.waitFor, (u.ctx e.1).cert = false → e.1 ≠ v → e.1 < 65536 ∧
      ((u.ctx v).pri < (u.ctx e.1).pri ∨ (u.ctx v).pri = (u.ctx e.1).pri ∧
        ((u.ctx e.1).opened.toNat < (u.ctx v).opened.toNat ∨ (u.ctx e.1).opened = (u.ctx v).opened ∧ e.1 < v))) : u.isVictim v :=
  ⟨hp, hc, hv, fun _ hw => by obtain ⟨c, hc⟩ := path_source hw; exact h _ hc⟩

theorem noCycle_of (u : State) (h : ∀ e ∈ u.waitFor, e.1 < e.2) (v : Nat) : ¬u.waitPath v v := fun hp => by
  have lt : ∀ {a b}, Relation.TransGen (fun a b => (a, b) ∈ u.waitFor) a b → a < b := fun hp => by
    induction hp with
    | single k => exact h _ k
    | tail _ k ih => exact ih.trans (h _ k)
  exact absurd (lt hp) (by omega)

theorem split_one {α : Type} {x f : α} {c d : List α} (h : [x] = c ++ f :: d) : c = [] ∧ f = x ∧ d = [] := by
  cases c with
  | nil => obtain ⟨h1, h2⟩ := List.cons.inj h; exact ⟨rfl, h1.symm, h2.symm⟩
  | cons a t => simp at h

theorem noHolder (u : State) (p : Nat) (h : ∀ d < 64, u.physOf d ≠ p) (d : Nat) : ¬u.holder p d := fun k => h d k.1 k.2.1

theorem kept_of (u : State) (r : Nat) (h : ∀ e ∈ u.tiles, e.2.unitOut = []) : u.noneKept r := fun d _ => tget_all (fun x => x.unitOut = []) Tile.rst rfl u.tiles h d

theorem tile_all (s : State) (d : Nat) (P : Nat → Prop)
    (h : ∀ i < 128, (s.reg .IPEND d (i / 64)).getLsbD (i % 64) = true ∧ (s.reg .IEN d (i / 64)).getLsbD (i % 64) = true → P i) (i : Nat) (k : s.eligibleTile d i) : P i :=
  h i k.1 ⟨k.2.1, k.2.2.1⟩

theorem dev_all (s : State) (P : Nat → Prop)
    (h : ∀ i < 512, (s.reg .DPEND 0 (i / 64)).getLsbD (i % 64) = true ∧ (s.reg .DEN 0 (i / 64)).getLsbD (i % 64) = true ∧ (s.reg .DDLVD 0 (i / 64)).getLsbD (i % 64) = false ∧
      s.canReceive (s.targetOf i) (s.fget F.DSRC_TTHR 0 i) = true → P i) (i : Nat) (k : s.eligibleDev i) : P i :=
  h i k.1 k.2

theorem notDue {o : Option PowerTrans} {n k : Nat} (h : ∀ p ∈ o, ∀ e ∈ p.endAt, ¬(p.dest = n ∧ e ≤ k)) : ¬∃ p e, o = some p ∧ p.dest = n ∧ p.endAt = some e ∧ e ≤ k :=
  fun ⟨p, e, h1, h2, h3, h4⟩ => h p h1 e h3 ⟨h2, h4⟩

/-! Checks 0x0B to 0x0D of arming have nothing to look at when no lane is on and no class 0 site is enabled. -/

theorem c0Lanes_nil (s : State) (h : s.lanes = []) : s.c0Lanes = [] := by
  unfold State.c0Lanes State.lane
  rw [h]
  simp [tget, tfind?, Lane.rst]

theorem c0Sites_nil (s : State) (h : ∀ e ∈ s.regs, e.1.1 = .SITEW0 → wbits e.2 F.SITEW0_EN.lo F.SITEW0_EN.len ≠ 1) : s.c0Sites = [] := by
  unfold State.c0Sites
  rw [List.filter_eq_nil_iff]
  intro i _
  have := reg_all (fun w => wbits w F.SITEW0_EN.lo F.SITEW0_EN.len ≠ 1) s .SITEW0 (fun _ _ => by show wbits 0 _ _ ≠ 1; decide) h 0 i
  simp [State.fget, F.SITEW0_EN] at this ⊢
  intro e
  exact absurd (of_decide_eq_true e) this

theorem armCheck_of (s : State) (r : Option ArmFail) (hl : s.lanes = []) (hs : ∀ e ∈ s.regs, e.1.1 = .SITEW0 → wbits e.2 F.SITEW0_EN.lo F.SITEW0_EN.len ≠ 1)
    (h1 : s.checkShots = none) (h2 : s.checkC0 = none) (h3 : (List.range 64).find? s.boundBad = none) (h4 : (List.range 64).find? (fun t => decide (64 < s.pinCount t)) = none)
    (h : (s.checkCtxs.orElse fun _ => s.checkRoom.orElse fun _ => s.checkList.orElse fun _ => s.checkTable) = r) : s.armCheck = r := by
  have hp : s.checkPath = none := by
    unfold State.checkPath State.c0Links
    rw [c0Lanes_nil s hl, c0Sites_nil s hs, h3, h4]
    simp
  unfold State.armCheck
  rw [h1, h2, hp]
  exact h

theorem armCheck_first (s : State) (f : ArmFail) (h : s.checkShots = some f) : s.armCheck = some f := by
  unfold State.armCheck
  rw [h]
  rfl

end Sys2Proof.Tests
end

