-- ==== Sys2Proof/Tests/W01.lean ====
section
/-! SUPPORT. States that meet the hypotheses of: BranchesGoToTheirTargets, DivisionStepsAndDivides, FloatingPointInstructionsComplete, ForkTakesAContextOrWaits, IntegerInstructionsGiveTheirResults, LoopsStartCountAndUnwind, MemoryInstructionsAskForTheirAccess, SystemInstructionsComplete, WordAndProductInstructionsGiveTheirResults. -/
set_option Elab.async false
open Sys2Proof Sys2Proof.Machine
namespace Sys2Proof.Tests
namespace W1
def zAdd := strand (mkw 0 15 0) (wth [(2, wd (2^63-1)), (3, wd 1)])
def rAdd := oget ((ins zAdd).intResult (zAdd.thr 0 0))
def zProd := strand (mkw 0x22 0 0) { wth [(2, wd 5), (3, wd 7)] with ph := 5, pl := 9 }
def zMfpl := strand (mkw 0x26 0 0) { wth [] with ph := 5, pl := 9 }
def vMfpl := oget ((ins zMfpl).wordResult zMfpl 0 0 (zMfpl.thr 0 0))
def zDset := strand (mkw 0x28 0 0) (wth [(2, wd (2^64-5)), (3, wd 7)])
def yDset := oget ((ins zDset).divided (zDset.thr 0 0))
def zCbnz := strand (mkw 0x62 0 7) (wth [])
def zCbz := strand (mkw 0x61 0 16383) (wth [])
def zLoop := strand (mkw 0x65 0 3 ) (wth [(2, wd 5)])
def zLoop0 := strand (mkw 0x65 0 3) (wth [])
def thLoops : Thread := { wth [] with le := [(0, 5), (1, 5), (2, 7)], lc := [(0, 3), (1, 1), (2, 4)], ls := [(0, 1), (1, 2)] }
def zNop := strand (mkw 0xCA 0 0) (wth [])
def zFence := strand (mkw 0xC0 1 0) (wth [])
def zMtsr := strand (mkw 0xC8 0 0) (wth [(2, wd 5)])
def yMtsr := oget ((zMtsr.thr 0 0).withSreg 0 5)
def zReth := strand (mkw 0xC9 0 1) { wth [] with inh := true } |>.fset F.TEPC_EPC 0 0 16382
def zFadd := strand (mkw 0x80 1 0) { wth [] with f := [(2, wd 0x3ff0000000000000), (3, wd 0x4000000000000000)] }
def rFadd := oget ((ins zFadd).fpResult (zFadd.thr 0 0))
def zLdd := strand (iw 0x46 1 2 0 6 0) (wth [(2, wd 0xFF00000048)])
def kLdd := oget ((ins zLdd).access (zLdd.thr 0 0) 0)
def zFork := strand (mkw 0x66 15 0) (wth [(2, wd 16383), (3, wd 9)])
def full (s : State) : State := { s with threads := s.threads ++ (List.range 15).map fun k => (k + 1, { rdy with readyAt := 9 }) }
def zForkS := full zFork
def zForkW := full (strand (mkw 0x66 0 0) (wth [(2, wd 16383), (3, wd 9)]))

theorem witness_IntegerInstructionsGiveTheirResults :
    let u := zAdd.advance 0; let x := u.thr 0 0; ((fun dt c n => Instr.add dt (Site.strand c n), 0) ∈ intRows) ∧ Takes u 0 0 (ins zAdd) ∧ (ins zAdd).op = 0 ∧ (ins zAdd).intResult x = some rAdd ∧ rAdd.fault = none ∧ ((x.afterInt (ins zAdd) rAdd).stepPc (ins zAdd).pc ((ins zAdd).pc + (ins zAdd).len)).pc ≤ 16383 :=
  ⟨by simp [intRows], ⟨by decide, by decide, by decide, by decide, by decide, by decide, by decide⟩, by decide, by decide, by decide, by decide⟩

theorem witness_WordAndProductInstructionsGiveTheirResults :
    (let u := zMfpl.advance 0; let y := (u.thr 0 0).setW (iRD (ins zMfpl).w) vMfpl; ((fun dt c n => Instr.mfpl dt c n, 38) ∈ wordRows) ∧ Takes u 0 0 (ins zMfpl) ∧ (ins zMfpl).op = 38 ∧ (ins zMfpl).wordResult u 0 0 (u.thr 0 0) = some vMfpl ∧ (y.stepPc (ins zMfpl).pc ((ins zMfpl).pc + (ins zMfpl).len)).pc ≤ 16383) ∧
    (let u := zProd.advance 0; let x := u.thr 0 0; let y := { x with ph := BitVec.extractLsb' 64 64 ((ins zProd).product x), pl := BitVec.extractLsb' 0 64 ((ins zProd).product x) }; ((fun dt c n => Instr.macu dt c n, 34) ∈ productRows) ∧ Takes u 0 0 (ins zProd) ∧ (ins zProd).op = 34 ∧ (y.stepPc (ins zProd).pc ((ins zProd).pc + (ins zProd).len)).pc ≤ 16383) :=
  ⟨⟨by simp [wordRows], ⟨by decide, by decide, by decide, by decide, by decide, by decide, by decide⟩, by decide, by decide, by decide⟩,
   ⟨by simp [productRows], ⟨by decide, by decide, by decide, by decide, by decide, by decide, by decide⟩, by decide, by decide⟩⟩

theorem witness_DivisionStepsAndDivides :
    let u := zDset.advance 0; ((fun dt c n => Instr.dset dt c n, 40) ∈ divisionRows) ∧ Takes u 0 0 (ins zDset) ∧ (ins zDset).op = 40 ∧ (ins zDset).divided (u.thr 0 0) = some yDset ∧ (yDset.stepPc (ins zDset).pc ((ins zDset).pc + (ins zDset).len)).pc ≤ 16383 :=
  ⟨by simp [divisionRows], ⟨by decide, by decide, by decide, by decide, by decide, by decide, by decide⟩, by decide, by decide, by decide⟩

theorem witness_BranchesGoToTheirTargets :
    (let u := zCbnz.advance 0; ((fun dt c n => Instr.cbnz dt c n, 98) ∈ branchRows) ∧ Takes u 0 0 (ins zCbnz) ∧ (ins zCbnz).op = 98 ∧ (ins zCbnz).branch (u.thr 0 0) = some (zCbnz.thr 0 0, none) ∧ ((zCbnz.thr 0 0).stepPc (ins zCbnz).pc ((ins zCbnz).pc + (ins zCbnz).len)).pc ≤ 16383) ∧
    (let u := zCbz.advance 0; ((fun dt c n => Instr.cbz dt c n, 97) ∈ branchRows) ∧ Takes u 0 0 (ins zCbz) ∧ (ins zCbz).op = 97 ∧ (ins zCbz).branch (u.thr 0 0) = some (zCbz.thr 0 0, some 16383)) :=
  ⟨⟨by simp [branchRows], ⟨by decide, by decide, by decide, by decide, by decide, by decide, by decide⟩, by decide, by decide, by decide⟩,
   ⟨by simp [branchRows], ⟨by decide, by decide, by decide, by decide, by decide, by decide, by decide⟩, by decide, by decide⟩⟩

theorem witness_LoopsStartCountAndUnwind :
    (let u := zLoop.advance 0; let x := u.thr 0 0; Takes u 0 0 (ins zLoop) ∧ (ins zLoop).op = 101 ∧ (ins zLoop).loopOk x = true ∧ ((ins zLoop).loopOf x).2 ≠ 0 ∧ (((ins zLoop).loopSet x).stepPc (ins zLoop).pc ((ins zLoop).pc + 1)).pc ≤ 16383) ∧
    (let u := zLoop0.advance 0; let x := u.thr 0 0; Takes u 0 0 (ins zLoop0) ∧ (ins zLoop0).op = 101 ∧ (ins zLoop0).loopOk x = true ∧ ((ins zLoop0).loopOf x).2 = 0 ∧ ((ins zLoop0).loopOf x).1 < 16383) ∧
    (thLoops.inh = false ∧ 0 < 4 ∧ (∀ k < 4, 0 < k → ¬(tget thLoops.lc 0 k ≠ 0 ∧ tget thLoops.le 0 k = 5 ∧ 1 < tget thLoops.lc 0 k)) ∧ 1 < tget thLoops.lc 0 0 ∧ tget thLoops.le 0 0 = 5) ∧
    (thLoops.inh = false ∧ (∀ l < 4, tget thLoops.le 0 l = 6 → tget thLoops.lc 0 l ≤ 1)) :=
  ⟨⟨⟨by decide, by decide, by decide, by decide, by decide, by decide, by decide⟩, by decide, by decide, by decide, by decide⟩,
   ⟨⟨by decide, by decide, by decide, by decide, by decide, by decide, by decide⟩, by decide, by decide, by decide, by decide⟩,
   ⟨by decide, by decide, by decide, by decide, by decide⟩,
   ⟨by decide, by decide⟩⟩

theorem witness_SystemInstructionsComplete :
    (let u := zNop.advance 0; let x := u.thr 0 0; Takes u 0 0 (ins zNop) ∧ (ins zNop).op = 202 ∧ (x.stepPc (ins zNop).pc ((ins zNop).pc + 1)).pc ≤ 16383) ∧
    (let u := zFence.advance 0; let x := u.thr 0 0; Takes u 0 0 (ins zFence) ∧ (ins zFence).op = 192 ∧ iAM (ins zFence).w < 3 ∧ (x.stepPc (ins zFence).pc ((ins zFence).pc + 1)).pc ≤ 16383) ∧
    (let u := zMtsr.advance 0; let x := u.thr 0 0; Takes u 0 0 (ins zMtsr) ∧ (ins zMtsr).op = 200 ∧ iIMM (ins zMtsr).w < 256 ∧ x.withSreg (iIMM (ins zMtsr).w) ((ins zMtsr).a x) = some yMtsr ∧ (yMtsr.stepPc (ins zMtsr).pc ((ins zMtsr).pc + 1)).pc ≤ 16383) ∧
    (let u := zReth.advance 0; let x := u.thr 0 0; let e := u.fget F.TEPC_EPC 0 0; let p := if iIMM (ins zReth).w = 0 then e else e + u.insLen 0 e; Takes u 0 0 (ins zReth) ∧ (ins zReth).op = 201 ∧ iIMM (ins zReth).w < 2 ∧ x.inh = true ∧ u.fget F.TEPC_PCX 0 0 ≠ 1 ∧ p ≤ 16383) :=
  ⟨⟨⟨by decide, by decide, by decide, by decide, by decide, by decide, by decide⟩, by decide, by decide⟩,
   ⟨⟨by decide, by decide, by decide, by decide, by decide, by decide, by decide⟩, by decide, by decide, by decide⟩,
   ⟨⟨by decide, by decide, by decide, by decide, by decide, by decide, by decide⟩, by decide, by decide, by decide, by decide⟩,
   ⟨⟨by decide, by decide, by decide, by decide, by decide, by decide, by decide⟩, by decide, by decide, by decide, by decide, by decide⟩⟩

theorem witness_FloatingPointInstructionsComplete :
    let u := zFadd.advance 0; let x := u.thr 0 0; let y := x.afterFp 128 (iRD (ins zFadd).w) rFadd; ((fun dt c n => Instr.fadd dt (Site.strand c n), 128) ∈ fpRows) ∧ Takes u 0 0 (ins zFadd) ∧ (ins zFadd).op = 128 ∧ (ins zFadd).fpResult x = some rFadd ∧ (∀ k < 5, ¬(rFadd.fl.testBit k = true ∧ (flEn x.fl).testBit k = true)) ∧ (y.stepPc (ins zFadd).pc ((ins zFadd).pc + 1)).pc ≤ 16383 :=
  ⟨by simp [fpRows], ⟨by decide, by decide, by decide, by decide, by decide, by decide, by decide⟩, by decide, by decide, by decide, by decide⟩

theorem witness_MemoryInstructionsAskForTheirAccess :
    let u := zLdd.advance 0; let y := kLdd.after u 0 0 (ins zLdd).pc; ((fun dt c n => Instr.ldd dt (Site.strand c n), 70) ∈ memoryRows) ∧ Takes u 0 0 (ins zLdd) ∧ (ins zLdd).op = 70 ∧ (ins zLdd).access (u.thr 0 0) 0 = some kLdd ∧ u.thrFault 0 0 kLdd.addr kLdd.size kLdd.op = none ∧ u.near (reqTile (Req.thread 0 0)) kLdd.addr = true ∧ (y.stepPc (ins zLdd).pc ((ins zLdd).pc + (ins zLdd).len)).pc ≤ 16383 :=
  ⟨by simp [memoryRows], ⟨by decide, by decide, by decide, by decide, by decide, by decide, by decide⟩, by decide, by decide, by decide, by decide, by decide⟩

theorem witness_ForkTakesAContextOrWaits :
    (let u := zFork.advance 0; let x := u.thr 0 0; let y := { x with jcnt := x.jcnt + 1 }.setW (iRD (ins zFork).w) (wd 1); Takes u 0 0 (ins zFork) ∧ (ins zFork).op = 102 ∧ BitVec.toNat ((ins zFork).a x) ≤ 16383 ∧ (u.thr 0 1).st = TState.free ∧ (∀ j < 1, (u.thr 0 j).st ≠ TState.free) ∧ (y.stepPc (ins zFork).pc ((ins zFork).pc + (ins zFork).len)).pc ≤ 16383) ∧
    (let u := zForkS.advance 0; let x := u.thr 0 0; let y := x.setW (iRD (ins zForkS).w) (BitVec.allOnes 64); Takes u 0 0 (ins zForkS) ∧ (ins zForkS).op = 102 ∧ BitVec.toNat ((ins zForkS).a x) ≤ 16383 ∧ (∀ k < 16, (u.thr 0 k).st ≠ TState.free) ∧ (ins zForkS).s = true ∧ (y.stepPc (ins zForkS).pc ((ins zForkS).pc + (ins zForkS).len)).pc ≤ 16383) ∧
    (let u := zForkW.advance 0; let x := u.thr 0 0; Takes u 0 0 (ins zForkW) ∧ (ins zForkW).op = 102 ∧ BitVec.toNat ((ins zForkW).a x) ≤ 16383 ∧ (∀ k < 16, (u.thr 0 k).st ≠ TState.free) ∧ (ins zForkW).s = false) :=
  ⟨⟨⟨by decide, by decide, by decide, by decide, by decide, by decide, by decide⟩, by decide, by decide, by decide, by decide, by decide⟩,
   ⟨⟨by decide, by decide, by decide, by decide, by decide, by decide, by decide⟩, by decide, by decide, by decide, by decide, by decide⟩,
   ⟨⟨by decide, by decide, by decide, by decide, by decide, by decide, by decide⟩, by decide, by decide, by decide, by decide⟩⟩

end W1
end Sys2Proof.Tests
end

