-- ==== Sys2Proof/Tests/W02.lean ====
section
/-! SUPPORT. States that meet the hypotheses of: EventsReachTheLatch, FaultsTrapPrecisely, ThreadsEndAndFaultedOnesContinue, TimersAreArmedCancelledAndFallDue. -/
set_option Elab.async false
open Sys2Proof Sys2Proof.Machine
namespace Sys2Proof.Tests
namespace W2
def zExit := strand (mkw 0x68 0 0) { wth [] with pvalid := true, parent := 3 }
def zJoin := strand (mkw 0x67 0 0) (wth [])
def zJoinW := strand (mkw 0x67 0 0) { wth [] with jcnt := 1 }
def zIdle := strand 0 (wth [])
def zFaulted := strand (mkw 0xCA 0 0) { wth [] with st := .faulted } |>.fset F.TEPC_EPC 0 0 7
def zBadWord := withQ (strand (wd (0xFF * 2 ^ 56)) (wth [])) 255 3
def zBadField := strand (mkw 0x33 0 4096) (wth [])
def zAddo := withQ (strand (mkw 4 0 0) (wth [(2, wd (2 ^ 63 - 1)), (3, wd 1)])) 255 3 |>.fset F.THND_HEN 0 0 1 |>.fset F.THND_HPC 0 0 99
def rAddo := oget ((ins zAddo).intResult (zAddo.thr 0 0))
def zDz := strand (mkw 0x28 0 0) { wth [(2, wd 5)] with fl := 0x200 }
def zFbad := strand (mkw 0x80 12 0) (wth [])
def zFdz := strand (mkw 0x83 0 0) { wth [] with f := [(2, wd 0x3f800000)], fl := 0x20000 }
def rFdz := oget ((ins zFdz).fpResult (zFdz.thr 0 0))
def zWfe := strand (mkw 0xC5 0 0) (wth []) |>.setReg .TEVT 0 0 5
def zWfe0 := strand (mkw 0xC5 0 0) (wth [])
def zSev := strand (mkw 0xC6 0 0) (wth [(2, 1023)])
def zSevFree := { strand 0 { wth [] with st := .free } with ctl := [.sev 0 0 2 3] }
def zSevWfe := { strand 0 { wth [] with st := .wait, wait := .wfe } with ctl := [.sev 1 0 2 3, .sev 0 0 2 3] }
def zTmrS := strand (mkw 0xBB 15 0) (wth [(2, wd (2 ^ 32 - 1))])
def zTmr := strand (iw 0xBB 0 2 0 0 0) (wth [(2, 1)])
def timers : Nat → List Timer
  | 0 => []
  | k + 1 => ⟨k, 0, 99, k, .sleep 1⟩ :: timers k
theorem timers_num (n j : Nat) (h : j < n) : ∃ d ∈ timers n, d.num = j := by
  induction n with
  | zero => omega
  | succ k ih =>
    by_cases e : j = k
    · exact ⟨_, .head _, e.symm⟩
    · obtain ⟨d, h1, h2⟩ := ih (by omega)
      exact ⟨d, .tail _ h1, h2⟩
def busy (l : List Timer) (s : State) : State := tile0 s fun t => { t with delay := l }
def zTmrFull := busy (timers 1024) zTmrS
def held (w : Word) : Thread := { wth [(2, 9)] with retry := some .timer, iw := w }
def zTry := strand 0 (held (mkw 0xBB 15 0))
def zTrySleep := strand 0 (held (iw 0xBB 0 2 0 0 0))
def zTryFull := busy (timers 1024) zTry
theorem busyTmrS (l : List Timer) (h : ∀ j < 1024, ∃ d ∈ l, d.num = j) : ∀ j < 1024, ∃ d ∈ (((busy l zTmrS).advance 0).tile 0).delay, d.num = j := h
theorem busyTry (l : List Timer) (h : ∀ j < 1024, ∃ d ∈ l, d.num = j) : ∀ j < 1024, ∃ d ∈ (((busy l zTry).advance 0).tile 0).delay, d.num = j := h
def tmA : Timer := ⟨3, 2, 100, 7, .event 0⟩
def zCanPre := tile0 (strand (mkw 0xBC 0 0) (wth [(2, wd (handleOf 3 2))])) fun t => { t with delay := [tmA] }
def zCanPost := tile0 (strand (mkw 0xBC 0 0) (wth [(2, wd (handleOf 3 2))])) fun t => { t with ready := [⟨.event 0 1, 0, 0, 0, 5, false, some (handleOf 3 2)⟩] }
def zCanNone := strand (mkw 0xBC 0 0) (wth [(2, wd 65535)])
def fire0 : Firing := ⟨0, 0, 0, 0, 0, none, none, none⟩
def due (w : TimerFor) (x : Thread) : State := tile0 (strand 0 x) fun t => { t with delay := [⟨3, 2, 0, 7, w⟩, ⟨4, 2, 100, 8, .event 1⟩] }
def zDueF := due (.firing fire0 1 2 0) (wth [])
def zDueE := due (.event 0) (wth [])
def zDueS := due (.sleep 0) { wth [] with st := .wait, wait := .timer (handleOf 3 2) }
theorem armTimer_full (s : State) (c a : Nat) (w : TimerFor) (h : ∀ j < 1024, ∃ d ∈ (s.tile c).delay, d.num = j) : s.armTimer c a w = none := by
  have e : ∀ m, (∀ j < m, ∃ d ∈ (s.tile c).delay, d.num = j) → ((List.range m).find? fun k => !((s.tile c).delay.any fun d => decide (d.num = k))) = none := by
    intro m h
    rw [List.find?_eq_none]
    intro k hk
    obtain ⟨d, h1, h2⟩ := h k (List.mem_range.mp hk)
    simpa using ⟨d, h1, h2⟩
  unfold State.armTimer
  generalize 1024 = m at h ⊢
  simp only [e m h]
theorem meaning_tmr (s : State) (c n : Nat) (o : Ins) (h : o.op = 0xBB) : s.meaning c n o = xTmr s c n o := by
  unfold State.meaning
  rw [h]
  rfl

theorem issuable_of (s : State) (c n : Nat) (o : Ins) (hm : s.mayIssue c n = true) (h1 : (s.thr c n).loads = []) (h2 : (s.thr c n).chanLost = false) (h3 : s.decodeAt c n = .ok o)
    (h4 : s.verdict c (s.thr c n).act (s.chargeFor c n o) = .ok) (h5 : s.ordered c n o = false) (r : XRes) (h6 : s.meaning c n o = r) (hr : (match r with | .stall | .held _ | .trap _ _ => false | _ => true) = true) : s.issuable c n = true := by
  unfold State.issuable State.attempt
  rw [hm]
  simp only [h1, h2, h3, h4, h5, h6]
  cases r <;> simp_all
theorem full_issuable (s : State) (c n : Nat) (o : Ins) (hd : ∀ j < 1024, ∃ d ∈ (s.tile c).delay, d.num = j) (hm : s.mayIssue c n = true) (h1 : (s.thr c n).loads = []) (h2 : (s.thr c n).chanLost = false) (h3 : s.decodeAt c n = .ok o)
    (h4 : s.verdict c (s.thr c n).act (s.chargeFor c n o) = .ok) (h5 : s.ordered c n o = false) (ho : o.op = 0xBB) (hs : o.s = true) (ha : (o.a (s.thr c n)).toNat < 2 ^ 32) : s.issuable c n = true := by
  refine issuable_of s c n o hm h1 h2 h3 h4 h5 (.retry s .timer) ?_ rfl
  rw [meaning_tmr s c n o ho]
  unfold xTmr
  simp only [fun a w => armTimer_full s c a w hd]
  rw [if_neg (by simp [hs]), if_neg (by omega)]
theorem winner_of (s : State) (c : Nat) (h : s.issuable c (s.now % 16) = true) : s.winner c = some (s.now % 16) := by
  unfold State.winner
  rw [if_pos h]
theorem zTmrFull_winner : zTmrFull.winner 0 = some 0 :=
  winner_of _ _ (full_issuable _ _ _ (ins zTmrFull) (busyTmrS _ (timers_num 1024)) (by decide +kernel) (by decide +kernel) (by decide +kernel) (by decide +kernel) (by decide +kernel) (by decide +kernel) (by decide +kernel) (by decide +kernel) (by decide +kernel))

theorem witness_ThreadsEndAndFaultedOnesContinue :
    (let u := zExit.advance 0; Takes u 0 0 (ins zExit) ∧ (ins zExit).op = 104 ∧ u.Apart 0 0) ∧
    (let u := zJoin.advance 0; let x := u.thr 0 0; Takes u 0 0 (ins zJoin) ∧ (ins zJoin).op = 103 ∧ x.jcnt = 0 ∧ u.Apart 0 0) ∧
    (let u := zJoinW.advance 0; let x := u.thr 0 0; Takes u 0 0 (ins zJoinW) ∧ (ins zJoinW).op = 103 ∧ x.jcnt ≠ 0) ∧
    ((isControl Req.debug = true ∨ Req.debug = Req.debug) ∧ zIdle.dev ≠ DevState.reset ∧ (zIdle.thr 0 15).st = TState.free) ∧
    ((isControl Req.debug = true ∨ Req.debug = Req.debug) ∧ zIdle.dev ≠ DevState.reset ∧ (zIdle.thr 0 0).st ≠ TState.free ∧ zIdle.Apart 0 0 ∧ (∀ p ∈ zIdle.tiles, p.2.cells = [] ∧ p.2.waiters = [] ∧ p.2.lockq = [])) ∧
    (let x := zFaulted.thr 0 0; (isControl (Req.aklofy 0) = true ∨ Req.aklofy 0 = Req.debug) ∧ zFaulted.dev ≠ DevState.reset ∧ x.st = TState.faulted ∧ zFaulted.fget F.TEPC_PCX 0 0 = 0) ∧
    (let x := zFaulted.thr 0 0; let p := zFaulted.fget F.TEPC_EPC 0 0; let y := { x with st := TState.ready, readyAt := zFaulted.now + 1 }.stepPc p (p + zFaulted.insLen 0 p); (isControl (Req.aklofy 0) = true ∨ Req.aklofy 0 = Req.debug) ∧ zFaulted.dev ≠ DevState.reset ∧ x.st = TState.faulted ∧ zFaulted.fget F.TEPC_PCX 0 0 = 0 ∧ y.pc ≤ 16383) ∧
    (let x := zIdle.thr 0 0; (isControl (Req.aklofy 0) = true ∨ Req.aklofy 0 = Req.debug) ∧ zIdle.dev ≠ DevState.reset ∧ (¬(x.st = TState.faulted ∧ zIdle.fget F.TEPC_PCX 0 0 = 0))) :=
  ⟨⟨⟨by decide, by decide, by decide, by decide, by decide, by decide, by decide⟩, by decide, apart_of _ _ _ (by decide) (by decide) (by decide)⟩,
   ⟨⟨by decide, by decide, by decide, by decide, by decide, by decide, by decide⟩, by decide, by decide, apart_of _ _ _ (by decide) (by decide) (by decide)⟩,
   ⟨⟨by decide, by decide, by decide, by decide, by decide, by decide, by decide⟩, by decide, by decide⟩,
   ⟨by decide, by decide, by decide⟩,
   ⟨by decide, by decide, by decide, apart_of _ _ _ (by decide) (by decide) (by decide), by decide⟩,
   ⟨by decide, by decide, by decide, by decide⟩,
   ⟨by decide, by decide, by decide, by decide, by decide⟩,
   ⟨by decide, by decide, by decide⟩⟩

theorem witness_FaultsTrapPrecisely :
    (let u := zBadWord.advance 0; let x := u.thr 0 0; u.winner 0 = some 0 ∧ (u.tile 0).lastIssue ≠ some u.now ∧ u.isIllegal (u.gword 0 x.pc) = true ∧ x.loads = [] ∧ x.chanLost = false ∧ (0 < 64 → u.Still ∧ u.QuietQ 0 255)) ∧
    (let u := zBadField.advance 0; let x := u.thr 0 0; Takes u 0 0 (ins zBadField) ∧ (0 < 64 → u.Still ∧ u.QuietQ 0 255) ∧ ((fun dt c n => Instr.ext dt (Site.strand c n), 51) ∈ intRows) ∧ (ins zBadField).op = 51 ∧ (ins zBadField).intResult x = none) ∧
    (let u := zAddo.advance 0; let x := u.thr 0 0; Takes u 0 0 (ins zAddo) ∧ (0 < 64 → u.Still ∧ u.QuietQ 0 255) ∧ ((fun dt c n => Instr.addo dt (Site.strand c n), 4) ∈ intRows) ∧ (ins zAddo).op = 4 ∧ (ins zAddo).intResult x = some rAddo ∧ rAddo.fault = some 10) ∧
    (let u := zDz.advance 0; let x := u.thr 0 0; Takes u 0 0 (ins zDz) ∧ (0 < 64 → u.Still ∧ u.QuietQ 0 255) ∧ ((fun dt c n => Instr.dset dt c n, 40) ∈ divisionRows) ∧ (ins zDz).op = 40 ∧ (ins zDz).divided x = none) ∧
    (let u := zFbad.advance 0; let x := u.thr 0 0; Takes u 0 0 (ins zFbad) ∧ (0 < 64 → u.Still ∧ u.QuietQ 0 255) ∧ ((fun dt c n => Instr.fadd dt (Site.strand c n), 128) ∈ fpRows) ∧ (ins zFbad).op = 128 ∧ (ins zFbad).fpResult x = none) ∧
    (let u := zFdz.advance 0; let x := u.thr 0 0; Takes u 0 0 (ins zFdz) ∧ (0 < 64 → u.Still ∧ u.QuietQ 0 255) ∧ ((fun dt c n => Instr.fdiv dt (Site.strand c n), 131) ∈ fpRows) ∧ (ins zFdz).op = 131 ∧ (ins zFdz).fpResult x = some rFdz ∧ 1 < 5 ∧ rFdz.fl.testBit 1 = true ∧ (flEn x.fl).testBit 1 = true ∧ (∀ j < 1, ¬(rFdz.fl.testBit j = true ∧ (flEn x.fl).testBit j = true))) :=
  ⟨⟨by decide, by decide, by decide, by decide, by decide, fun _ => ⟨still_of _ (by decide) rfl (by decide), ⟨by decide, by decide⟩⟩⟩,
   ⟨⟨by decide, by decide, by decide, by decide, by decide, by decide, by decide⟩, fun _ => ⟨still_of _ (by decide) rfl (by decide), ⟨by decide, by decide⟩⟩, by simp [intRows], by decide, by decide⟩,
   ⟨⟨by decide, by decide, by decide, by decide, by decide, by decide, by decide⟩, fun _ => ⟨still_of _ (by decide) rfl (by decide), ⟨by decide, by decide⟩⟩, by simp [intRows], by decide, by decide, by decide⟩,
   ⟨⟨by decide, by decide, by decide, by decide, by decide, by decide, by decide⟩, fun _ => ⟨still_of _ (by decide) rfl (by decide), ⟨by decide, by decide⟩⟩, by simp [divisionRows], by decide, by decide⟩,
   ⟨⟨by decide, by decide, by decide, by decide, by decide, by decide, by decide⟩, fun _ => ⟨still_of _ (by decide) rfl (by decide), ⟨by decide, by decide⟩⟩, by simp [fpRows], by decide, by decide⟩,
   ⟨⟨by decide, by decide, by decide, by decide, by decide, by decide, by decide⟩, fun _ => ⟨still_of _ (by decide) rfl (by decide), ⟨by decide, by decide⟩⟩, by simp [fpRows], by decide, by decide, by decide, by decide, by decide, by decide⟩⟩

theorem witness_EventsReachTheLatch :
    (let u := zWfe.advance 0; let x := u.thr 0 0; let v := u.reg RegKind.TEVT 0 0; let y := x.setW (iRD (ins zWfe).w) v; Takes u 0 0 (ins zWfe) ∧ (ins zWfe).op = 197 ∧ v ≠ (0 : Word) ∧ (y.stepPc (ins zWfe).pc ((ins zWfe).pc + (ins zWfe).len)).pc ≤ 16383) ∧
    (let u := zWfe0.advance 0; let v := u.reg RegKind.TEVT 0 0; Takes u 0 0 (ins zWfe0) ∧ (ins zWfe0).op = 197 ∧ v = (0 : Word)) ∧
    (let u := zSev.advance 0; let x := u.thr 0 0; Takes u 0 0 (ins zSev) ∧ (ins zSev).op = 198 ∧ BitVec.toNat ((ins zSev).a x) < 1024 ∧ (x.stepPc (ins zSev).pc ((ins zSev).pc + (ins zSev).len)).pc ≤ 16383) ∧
    (zSevFree.message (Ctl.isSevFor 0 0) (Ctl.sev 0 0 2 3) [] ∧ zSevFree.active 0 = true ∧ (zSevFree.thr 0 0).st = TState.free) ∧
    (zSevWfe.message (Ctl.isSevFor 0 0) (Ctl.sev 0 0 2 3) [Ctl.sev 1 0 2 3] ∧ zSevWfe.active 0 = true ∧ (zSevWfe.thr 0 0).st ≠ TState.free) :=
  ⟨⟨⟨by decide, by decide, by decide, by decide, by decide, by decide, by decide⟩, by decide, by decide, by decide⟩,
   ⟨⟨by decide, by decide, by decide, by decide, by decide, by decide, by decide⟩, by decide, by decide⟩,
   ⟨⟨by decide, by decide, by decide, by decide, by decide, by decide, by decide⟩, by decide, by decide, by decide⟩,
   ⟨message_of _ _ _ _ (by decide), by decide, by decide⟩,
   ⟨message_of _ _ _ _ (by decide), by decide, by decide⟩⟩

set_option maxRecDepth 100000 in
theorem witness_TimersAreArmedCancelledAndFallDue_1 :
    (let u := zTmrS.advance 0; let x := u.thr 0 0; let h := handleOf 0 (tget (u.tile 0).gens 0 0); let y := x.setW (iRD (ins zTmrS).w) (wd h); Takes u 0 0 (ins zTmrS) ∧ (ins zTmrS).op = 187 ∧ BitVec.toNat ((ins zTmrS).a x) < 2 ^ 32 ∧ u.freeTimer 0 0 ∧ (ins zTmrS).s = true ∧ (y.stepPc (ins zTmrS).pc ((ins zTmrS).pc + (ins zTmrS).len)).pc ≤ 16383) ∧
    (let u := zTmr.advance 0; let x := u.thr 0 0; Takes u 0 0 (ins zTmr) ∧ (ins zTmr).op = 187 ∧ BitVec.toNat ((ins zTmr).a x) < 2 ^ 32 ∧ u.freeTimer 0 0 ∧ (ins zTmr).s = false ∧ iRD (ins zTmr).w = 0) ∧
    (let u := zTmrFull.advance 0; let x := u.thr 0 0; Takes u 0 0 (ins zTmrFull) ∧ (ins zTmrFull).op = 187 ∧ BitVec.toNat ((ins zTmrFull).a x) < 2 ^ 32 ∧ (∀ j < 1024, ∃ d ∈ (u.tile 0).delay, d.num = j) ∧ ((ins zTmrFull).s = true ∨ iRD (ins zTmrFull).w = 0)) ∧
    (let u := zTry.advance 0; let x := u.thr 0 0; let o := x.heldIns; let y := { x with retry := none }.setW (iRD o.w) (wd (handleOf 0 (tget (u.tile 0).gens 0 0))); u.retryDue 0 0 RetryKind.timer ∧ o.op = 187 ∧ BitVec.toNat (o.a x) < 2 ^ 32 ∧ (o.s = true ∨ iRD o.w = 0) ∧ u.freeTimer 0 0 ∧ o.s = true ∧ (y.stepPc x.pc (x.pc + 1)).pc ≤ 16383) ∧
    (let u := zTrySleep.advance 0; let x := u.thr 0 0; let o := x.heldIns; u.retryDue 0 0 RetryKind.timer ∧ o.op = 187 ∧ BitVec.toNat (o.a x) < 2 ^ 32 ∧ (o.s = true ∨ iRD o.w = 0) ∧ u.freeTimer 0 0 ∧ o.s = false) ∧
    (let u := zTryFull.advance 0; let x := u.thr 0 0; let o := x.heldIns; u.retryDue 0 0 RetryKind.timer ∧ o.op = 187 ∧ BitVec.toNat (o.a x) < 2 ^ 32 ∧ (o.s = true ∨ iRD o.w = 0) ∧ (∀ j < 1024, ∃ d ∈ (u.tile 0).delay, d.num = j)) ∧
    (let u := zCanPre.advance 0; let x := u.thr 0 0; let h := BitVec.toNat ((ins zCanPre).a x); let y := fun d => x.setW (iRD (ins zCanPre).w) (wd d); Takes u 0 0 (ins zCanPre) ∧ (ins zCanPre).op = 188 ∧ h < 65536 ∧ (∀ (d : ℕ), ((y d).stepPc (ins zCanPre).pc ((ins zCanPre).pc + (ins zCanPre).len)).pc ≤ 16383) ∧ (u.tile 0).delay = [] ++ [tmA] ∧ handleOf tmA.num tmA.gen = h ∧ (∀ e ∈ ([] : List Timer), handleOf e.num e.gen ≠ h)) ∧
    (let u := zCanPost.advance 0; let x := u.thr 0 0; let h := BitVec.toNat ((ins zCanPost).a x); let y := fun d => x.setW (iRD (ins zCanPost).w) (wd d); Takes u 0 0 (ins zCanPost) ∧ (ins zCanPost).op = 188 ∧ h < 65536 ∧ (∀ (d : ℕ), ((y d).stepPc (ins zCanPost).pc ((ins zCanPost).pc + (ins zCanPost).len)).pc ≤ 16383) ∧ (∀ d ∈ (u.tile 0).delay, handleOf d.num d.gen ≠ h) ∧ (∃ k ∈ (u.tile 0).ready ++ (u.tile 0).c0q, k.timer = some h)) :=
  ⟨⟨⟨by decide, by decide, by decide, by decide, by decide, by decide, by decide⟩, by decide, by decide, by unfold State.freeTimer; decide, by decide, by decide⟩,
   ⟨⟨by decide, by decide, by decide, by decide, by decide, by decide, by decide⟩, by decide, by decide, by unfold State.freeTimer; decide, by decide, by decide⟩,
   ⟨⟨zTmrFull_winner, by decide, by decide, by decide, by decide, by decide, by decide⟩, by decide, by decide, busyTmrS _ (timers_num 1024), by decide⟩,
   ⟨by unfold State.retryDue; decide, by decide, by decide, by decide, by unfold State.freeTimer; decide, by decide, by decide⟩,
   ⟨by unfold State.retryDue; decide, by decide, by decide, by decide, by unfold State.freeTimer; decide, by decide⟩,
   ⟨by unfold State.retryDue; decide +kernel, by decide +kernel, by decide +kernel, by decide +kernel, busyTry _ (timers_num 1024)⟩,
   ⟨⟨by decide, by decide, by decide, by decide, by decide, by decide, by decide⟩, by decide, by decide, fun _ => (by decide : 1 ≤ 16383), by decide, by decide, by decide⟩,
   ⟨⟨by decide, by decide, by decide, by decide, by decide, by decide, by decide⟩, by decide, by decide, fun _ => (by decide : 1 ≤ 16383), by decide, by decide⟩⟩

theorem witness_TimersAreArmedCancelledAndFallDue_2 :
    (let u := zCanNone.advance 0; let x := u.thr 0 0; let h := BitVec.toNat ((ins zCanNone).a x); let y := fun d => x.setW (iRD (ins zCanNone).w) (wd d); Takes u 0 0 (ins zCanNone) ∧ (ins zCanNone).op = 188 ∧ h < 65536 ∧ (∀ (d : ℕ), ((y d).stepPc (ins zCanNone).pc ((ins zCanNone).pc + (ins zCanNone).len)).pc ≤ 16383) ∧ (∀ d ∈ (u.tile 0).delay, handleOf d.num d.gen ≠ h) ∧ (∀ k ∈ (u.tile 0).ready ++ (u.tile 0).c0q, k.timer ≠ some h)) ∧
    (let u := zDueF.advance 0; u.frozen 0 = false ∧ List.filter (fun e => timerPast u.beat e.deadline) (u.tile 0).delay = [{ num := 3, gen := 2, deadline := 0, stamp := 7, what := TimerFor.firing fire0 1 2 0 }] ∧ ({ num := 3, gen := 2, deadline := 0, stamp := 7, what := TimerFor.firing fire0 1 2 0 } : Timer).what = TimerFor.firing fire0 1 2 0 ∧ u.readyFull 0 1 = false) ∧
    (let u := zDueE.advance 0; let x := u.thr 0 0; u.frozen 0 = false ∧ List.filter (fun e => timerPast u.beat e.deadline) (u.tile 0).delay = [{ num := 3, gen := 2, deadline := 0, stamp := 7, what := TimerFor.event 0 }] ∧ 0 < 16 ∧ ({ num := 3, gen := 2, deadline := 0, stamp := 7, what := TimerFor.event 0 } : Timer).what = TimerFor.event 0 ∧ u.readyFull 0 x.cls = false) ∧
    (let u := zDueS.advance 0; let x := u.thr 0 0; u.frozen 0 = false ∧ List.filter (fun e => timerPast u.beat e.deadline) (u.tile 0).delay = [{ num := 3, gen := 2, deadline := 0, stamp := 7, what := TimerFor.sleep 0 }] ∧ 0 < 16 ∧ ({ num := 3, gen := 2, deadline := 0, stamp := 7, what := TimerFor.sleep 0 } : Timer).what = TimerFor.sleep 0 ∧ x.st = TState.wait ∧ u.readyFull 0 x.cls = false) :=
  ⟨⟨⟨by decide, by decide, by decide, by decide, by decide, by decide, by decide⟩, by decide, by decide, fun _ => (by decide : 1 ≤ 16383), by decide, by decide⟩,
   ⟨by decide, by decide, by decide, by decide⟩,
   ⟨by decide, by decide, by decide, by decide, by decide⟩,
   ⟨by decide, by decide, by decide, by decide, by decide, by decide⟩⟩

end W2
end Sys2Proof.Tests
end

