-- ==== Sys2Proof/Tests/W03.lean ====
section
/-! SUPPORT. States that meet the hypotheses of: ChannelsStageAndCommitMessages, DmaCopiesItsWords, ThreadsEmitTokensAndAllocateNumbers, ThreadsPushAndPopQueues. -/
set_option Elab.async false
open Sys2Proof Sys2Proof.Machine
namespace Sys2Proof.Tests
namespace W3
def tokW (tile lane cls flags : Nat) : Tab Nat Word := [(2, mkTag 1 tile 77 0 0 cls flags), (3, mkDst 0xFFFF lane 0 0), (4, 42), (5, 43)]
def withLane (s : State) (l credit : Nat) : State :=
  { s.fset F.LANECFG_SRCK 0 l 1 with lanes := [(l, { Lane.rst with st := .active, credit := credit, next := 2 ^ 24 - 1 })] }
def zEmit := strand (mkw 0xB0 0 0) (wth (tokW 0 0 1 0))
def zEmitFar := strand (mkw 0xB0 0 0) (wth (tokW 63 0 1 0))
def zEmitA := withLane (strand (mkw 0xB0 3 0) (wth (tokW 0 4095 3 1))) 4095 1
def zEmitW := withLane (strand (mkw 0xB0 3 0) (wth (tokW 0 4095 3 1))) 4095 0
def zAlloc := withLane (strand (mkw 0xB1 0 0) (wth [(2, 4095)])) 4095 1
def zAllocW := withLane (strand (mkw 0xB1 0 0) (wth [(2, 4095)])) 4095 0
def qtok (d q : Nat) : Thread := wth (tokW 0 0 1 0 ++ [(6, wd (d * 256 + q))])
def zPush := withQ (strand (iw 0xB5 0 2 6 0 0) (qtok 0 255)) 255 0
def zPushFull := (withQ (strand (iw 0xB5 0 2 6 0 0) (qtok 0 255)) 255 0).fset F.QPTR_TAIL 0 255 1
def zPushFar := strand (iw 0xB5 0 2 6 0 0) (qtok 63 0)
def waitPush : Thread := { qtok 0 7 with st := .wait, wait := .qFull 0 7, iw := iw 0xB5 0 2 6 0 0 }
def zRetry := withQ (strand 0 waitPush) 7 0
def zRetryFull := (withQ (strand 0 waitPush) 7 0).fset F.QPTR_TAIL 0 7 1
def pushed (s : State) : State := { s.fset F.QPTR_TAIL 0 7 1 with mem := [(spadAddr 0 0x10000, 9), (spadAddr 0 0x10010, 42)] }
def zPop := pushed (withQ (strand (iw 0xB6 4 2 0 0 0) (wth [(2, 7)])) 7 1)
def zPopNb := pushed (withQ (strand (iw 0xB7 4 2 0 0 0) (wth [(2, 7)])) 7 1)
def zPopE := withQ (strand (iw 0xB6 4 2 0 0 0) (wth [(2, 7)])) 7 1
def zPopNbE := withQ (strand (iw 0xB7 4 2 0 0 0) (wth [(2, 7)])) 7 1
def chanQ (s : State) : State := ((withQ s 7 2).fset F.QCFG_PMODE 0 7 2).fset F.QCFG_MSGM1 0 7 3
def mine (st : Nat) (s : State) : State := (s.fset F.QPTR_RESV 0 7 1).fset F.QPTR_STAGED 0 7 st
def zChwFar := strand (iw 0xB8 1 2 6 0 0) (qtok 63 7)
def zChcFar := strand (iw 0xB9 0 0 6 0 0) (qtok 63 7)
def zChw := chanQ (strand (iw 0xB8 1 2 6 0 0) (qtok 0 7))
def zChwRing := mine 1 (chanQ (strand (iw 0xB8 1 2 6 0 0) (qtok 0 7)) |>.fset F.QPTR_TAIL 0 7 3)
def zChwTaken := (mine 1 (chanQ (strand (iw 0xB8 1 2 6 0 0) (qtok 0 7)))).fset F.QPTR_OWNTHR 0 7 15
def zChc := { mine 2 (chanQ (strand (iw 0xB9 0 0 6 0 0) (qtok 0 7))) with mem := [(spadAddr 0 0x10000, 2), (spadAddr 0 0x10020, 2)] }
def dmaT : Thread := wth [(2, wd 0xFF00000000), (3, wd 0xFF00000100)]
def zDma := strand (mkw 0x52 0 2) dmaT
def busyDma (s : State) : State := tile0 s fun t => { t with dma := (List.range 16).map fun k => ⟨k, 1, 0xFF00000000, 0xFF00001000, 1⟩ }
def zDmaFull := busyDma (strand (mkw 0x52 0 2) dmaT)
def heldDma : Thread := { dmaT with retry := some .dma, iw := mkw 0x52 0 2 }
def zDmaTry := strand 0 heldDma
def zDmaTryFull := busyDma (strand 0 heldDma)
def dmaA : Dma := ⟨9, 0, 0xFF00000000, 0xFF00000100, 2⟩
def zCopy := { (tile0 (strand 0 { wth [] with st := .wait, wait := .wfe }) fun t => { t with dma := [dmaA] }) with mem := [(spadAddr 0 0, 7), (spadAddr 0 15, 8), (spadAddr 0 0x108, 9), (spadAddr 0 0x110, 5)] }
def zCopyFree := tile0 (strand 0 { wth [] with st := .free }) fun t => { t with dma := [dmaA] }

theorem witness_ThreadsEmitTokensAndAllocateNumbers :
    (let u := zEmit.advance 0; let x := u.thr 0 0; let k := (x.tok4 (iRA (ins zEmit).w)).clean; let dest := if bit (iAM (ins zEmit).w) 0 = true then TokTo.lane k.lane else TokTo.node k.tile; let y := fun d => x.setW (iRD (ins zEmit).w) (wd d); Takes u 0 0 (ins zEmit) ∧ (∀ (d : ℕ), ((y d).stepPc (ins zEmit).pc ((ins zEmit).pc + (ins zEmit).len)).pc ≤ 16383) ∧ (ins zEmit).op = 176 ∧ quadOk (iRA (ins zEmit).w) = true ∧ k.rsvd = false ∧ bit (iAM (ins zEmit).w) 1 = false ∧ (bit (iAM (ins zEmit).w) 0 = true → k.ord = true) ∧ u.canSend 0 dest k) ∧
    (let u := zEmitFar.advance 0; let x := u.thr 0 0; let k := (x.tok4 (iRA (ins zEmitFar).w)).clean; let dest := if bit (iAM (ins zEmitFar).w) 0 = true then TokTo.lane k.lane else TokTo.node k.tile; let y := fun d => x.setW (iRD (ins zEmitFar).w) (wd d); Takes u 0 0 (ins zEmitFar) ∧ (∀ (d : ℕ), ((y d).stepPc (ins zEmitFar).pc ((ins zEmitFar).pc + (ins zEmitFar).len)).pc ≤ 16383) ∧ (ins zEmitFar).op = 176 ∧ quadOk (iRA (ins zEmitFar).w) = true ∧ k.rsvd = false ∧ bit (iAM (ins zEmitFar).w) 1 = false ∧ (bit (iAM (ins zEmitFar).w) 0 = true → k.ord = true) ∧ u.canSend 0 dest k) ∧
    (let u := zEmitA.advance 0; let x := u.thr 0 0; let k := (x.tok4 (iRA (ins zEmitA).w)).clean; let dest := if bit (iAM (ins zEmitA).w) 0 = true then TokTo.lane k.lane else TokTo.node k.tile; let y := fun d => x.setW (iRD (ins zEmitA).w) (wd d); let l := k.lane; let m := { k with tag := wset k.tag 0 1 1, dst := wset k.dst 12 24 (u.lane l).next }; Takes u 0 0 (ins zEmitA) ∧ (∀ (d : ℕ), ((y d).stepPc (ins zEmitA).pc ((ins zEmitA).pc + (ins zEmitA).len)).pc ≤ 16383) ∧ (ins zEmitA).op = 176 ∧ quadOk (iRA (ins zEmitA).w) = true ∧ k.rsvd = false ∧ bit (iAM (ins zEmitA).w) 1 = true ∧ u.mayAlloc 0 l ∧ (u.lane l).credit ≠ 0 ∧ u.canSend 0 dest m) ∧
    (let u := zEmitW.advance 0; let x := u.thr 0 0; let k := (x.tok4 (iRA (ins zEmitW).w)).clean; let y := fun d => x.setW (iRD (ins zEmitW).w) (wd d); let l := k.lane; Takes u 0 0 (ins zEmitW) ∧ (∀ (d : ℕ), ((y d).stepPc (ins zEmitW).pc ((ins zEmitW).pc + (ins zEmitW).len)).pc ≤ 16383) ∧ (ins zEmitW).op = 176 ∧ quadOk (iRA (ins zEmitW).w) = true ∧ k.rsvd = false ∧ bit (iAM (ins zEmitW).w) 1 = true ∧ u.mayAlloc 0 l ∧ (u.lane l).credit = 0) ∧
    (let u := zAlloc.advance 0; let x := u.thr 0 0; let y := fun d => x.setW (iRD (ins zAlloc).w) (wd d); let l := BitVec.toNat ((ins zAlloc).a x); Takes u 0 0 (ins zAlloc) ∧ (∀ (d : ℕ), ((y d).stepPc (ins zAlloc).pc ((ins zAlloc).pc + (ins zAlloc).len)).pc ≤ 16383) ∧ (ins zAlloc).op = 177 ∧ l < 4096 ∧ u.mayAlloc 0 l ∧ (u.lane l).credit ≠ 0) ∧
    (let u := zAllocW.advance 0; let x := u.thr 0 0; let y := fun d => x.setW (iRD (ins zAllocW).w) (wd d); let l := BitVec.toNat ((ins zAllocW).a x); Takes u 0 0 (ins zAllocW) ∧ (∀ (d : ℕ), ((y d).stepPc (ins zAllocW).pc ((ins zAllocW).pc + (ins zAllocW).len)).pc ≤ 16383) ∧ (ins zAllocW).op = 177 ∧ l < 4096 ∧ u.mayAlloc 0 l ∧ (u.lane l).credit = 0) :=
  ⟨⟨⟨by decide, by decide, by decide, by decide, by decide, by decide, by decide⟩, fun _ => (by decide : 1 ≤ 16383), by decide, by decide, by decide, by decide, by decide, canSend_of _ _ _ _ (by decide) (by decide)⟩,
   ⟨⟨by decide, by decide, by decide, by decide, by decide, by decide, by decide⟩, fun _ => (by decide : 1 ≤ 16383), by decide, by decide, by decide, by decide, by decide, canSend_of _ _ _ _ (by decide) (by decide)⟩,
   ⟨⟨by decide, by decide, by decide, by decide, by decide, by decide, by decide⟩, fun _ => (by decide : 1 ≤ 16383), by decide, by decide, by decide, by decide, by unfold State.mayAlloc; decide, by decide, canSend_of _ _ _ _ (by decide) (by decide)⟩,
   ⟨⟨by decide, by decide, by decide, by decide, by decide, by decide, by decide⟩, fun _ => (by decide : 1 ≤ 16383), by decide, by decide, by decide, by decide, by unfold State.mayAlloc; decide, by decide⟩,
   ⟨⟨by decide, by decide, by decide, by decide, by decide, by decide, by decide⟩, fun _ => (by decide : 1 ≤ 16383), by decide, by decide, by unfold State.mayAlloc; decide, by decide⟩,
   ⟨⟨by decide, by decide, by decide, by decide, by decide, by decide, by decide⟩, fun _ => (by decide : 1 ≤ 16383), by decide, by decide, by unfold State.mayAlloc; decide, by decide⟩⟩

theorem witness_ThreadsPushAndPopQueues_1 :
    (let u := zPush.advance 0; let x := u.thr 0 0; let k := (x.tok4 (iRA (ins zPush).w)).clean; let b := BitVec.toNat ((ins zPush).b x); let d := b / 256; let q := b % 256; Takes u 0 0 (ins zPush) ∧ (ins zPush).op = 181 ∧ quadOk (iRA (ins zPush).w) = true ∧ b < 16384 ∧ k.rsvd = false ∧ (x.stepPc (ins zPush).pc ((ins zPush).pc + (ins zPush).len)).pc ≤ 16383 ∧ d = 0 ∧ u.Still ∧ u.QuietQ d q ∧ u.qRoom d q = some true) ∧
    (let u := zPushFull.advance 0; let x := u.thr 0 0; let k := (x.tok4 (iRA (ins zPushFull).w)).clean; let b := BitVec.toNat ((ins zPushFull).b x); let d := b / 256; let q := b % 256; Takes u 0 0 (ins zPushFull) ∧ (ins zPushFull).op = 181 ∧ quadOk (iRA (ins zPushFull).w) = true ∧ b < 16384 ∧ k.rsvd = false ∧ (x.stepPc (ins zPushFull).pc ((ins zPushFull).pc + (ins zPushFull).len)).pc ≤ 16383 ∧ d = 0 ∧ u.qRoom d q = some false) ∧
    (let u := zPushFar.advance 0; let x := u.thr 0 0; let k := (x.tok4 (iRA (ins zPushFar).w)).clean; let b := BitVec.toNat ((ins zPushFar).b x); let d := b / 256; let q := b % 256; let p := mkPacket 0 (k.cls + 1) (u.routerOf d) false (u.routerOf 0) false 1 (Payload.tok k (TokTo.queue d q) 0); Takes u 0 0 (ins zPushFar) ∧ (ins zPushFar).op = 181 ∧ quadOk (iRA (ins zPushFar).w) = true ∧ b < 16384 ∧ k.rsvd = false ∧ (x.stepPc (ins zPushFar).pc ((ins zPushFar).pc + (ins zPushFar).len)).pc ≤ 16383 ∧ d ≠ 0 ∧ u.freeWay (u.routerOf 0) false p) ∧
    (let u := zRetry.advance 0; let x := u.thr 0 0; x.st = TState.wait ∧ x.wait = WaitFor.qFull 0 7 ∧ x.wres = none ∧ x.retryAt ≤ u.now ∧ u.Still ∧ u.QuietQ 0 7 ∧ u.qRoom 0 7 = some true) ∧
    (let u := zRetryFull.advance 0; let x := u.thr 0 0; x.st = TState.wait ∧ x.wait = WaitFor.qFull 0 7 ∧ x.wres = none ∧ x.retryAt ≤ u.now ∧ u.qRoom 0 7 = some false) ∧
    (let u := zPop.advance 0; let x := u.thr 0 0; let q := BitVec.toNat ((ins zPop).a x); Takes u 0 0 (ins zPop) ∧ 0 < 64 ∧ quadOk (iRD (ins zPop).w) = true ∧ q < 256 ∧ u.popAllowed 0 q = true ∧ (x.stepPc (ins zPop).pc ((ins zPop).pc + (ins zPop).len)).pc ≤ 16383 ∧ u.qOcc 0 q ≠ 0 ∧ u.fget F.QCFG_WMEN 0 q ≠ 1 ∧ u.fget F.QPTR_RESV 0 q = 0 ∧ (ins zPop).op = 182) ∧
    (let u := zPopNb.advance 0; let x := u.thr 0 0; let q := BitVec.toNat ((ins zPopNb).a x); Takes u 0 0 (ins zPopNb) ∧ 0 < 64 ∧ quadOk (iRD (ins zPopNb).w) = true ∧ q < 256 ∧ u.popAllowed 0 q = true ∧ (x.stepPc (ins zPopNb).pc ((ins zPopNb).pc + (ins zPopNb).len)).pc ≤ 16383 ∧ u.qOcc 0 q ≠ 0 ∧ u.fget F.QCFG_WMEN 0 q ≠ 1 ∧ u.fget F.QPTR_RESV 0 q = 0 ∧ (ins zPopNb).op = 183) ∧
    (let u := zPopE.advance 0; let x := u.thr 0 0; let q := BitVec.toNat ((ins zPopE).a x); Takes u 0 0 (ins zPopE) ∧ 0 < 64 ∧ quadOk (iRD (ins zPopE).w) = true ∧ q < 256 ∧ u.popAllowed 0 q = true ∧ (x.stepPc (ins zPopE).pc ((ins zPopE).pc + (ins zPopE).len)).pc ≤ 16383 ∧ u.qOcc 0 q = 0 ∧ (ins zPopE).op = 182) :=
  ⟨⟨⟨by decide, by decide, by decide, by decide, by decide, by decide, by decide⟩, by decide, by decide, by decide, by decide, by decide, by decide, still_of _ (by decide) rfl (by decide), ⟨by decide, by decide⟩, by decide⟩,
   ⟨⟨by decide, by decide, by decide, by decide, by decide, by decide, by decide⟩, by decide, by decide, by decide, by decide, by decide, by decide, by decide⟩,
   ⟨⟨by decide, by decide, by decide, by decide, by decide, by decide, by decide⟩, by decide, by decide, by decide, by decide, by decide, by decide, by unfold State.freeWay; decide⟩,
   ⟨by decide, by decide, by decide, by decide, still_of _ (by decide) rfl (by decide), ⟨by decide, by decide⟩, by decide⟩,
   ⟨by decide, by decide, by decide, by decide, by decide⟩,
   ⟨⟨by decide, by decide, by decide, by decide, by decide, by decide, by decide⟩, by decide, by decide, by decide, by decide, by decide, by decide, by decide, by decide, by decide⟩,
   ⟨⟨by decide, by decide, by decide, by decide, by decide, by decide, by decide⟩, by decide, by decide, by decide, by decide, by decide, by decide, by decide, by decide, by decide⟩,
   ⟨⟨by decide, by decide, by decide, by decide, by decide, by decide, by decide⟩, by decide, by decide, by decide, by decide, by decide, by decide, by decide⟩⟩

theorem witness_ThreadsPushAndPopQueues_2 :
    let u := zPopNbE.advance 0; let x := u.thr 0 0; let q := BitVec.toNat ((ins zPopNbE).a x); Takes u 0 0 (ins zPopNbE) ∧ 0 < 64 ∧ quadOk (iRD (ins zPopNbE).w) = true ∧ q < 256 ∧ u.popAllowed 0 q = true ∧ (x.stepPc (ins zPopNbE).pc ((ins zPopNbE).pc + (ins zPopNbE).len)).pc ≤ 16383 ∧ u.qOcc 0 q = 0 ∧ (ins zPopNbE).op = 183 :=
  ⟨⟨by decide, by decide, by decide, by decide, by decide, by decide, by decide⟩, by decide, by decide, by decide, by decide, by decide, by decide, by decide⟩

theorem witness_ChannelsStageAndCommitMessages :
    (let u := zChwFar.advance 0; let x := u.thr 0 0; let k := (x.tok4 (iRA (ins zChwFar).w)).clean; let q := BitVec.toNat ((ins zChwFar).b x) % 256; let d := BitVec.toNat ((ins zChwFar).b x) / 256; let p := fun b e => mkPacket 1 (x.cls + 1) (u.routerOf d) false (u.routerOf 0) false (if b = true then 1 else 2) (Payload.chan b d q 0 0 e); Takes u 0 0 (ins zChwFar) ∧ d ≠ 0 ∧ BitVec.toNat ((ins zChwFar).b x) < 16384 ∧ (ins zChwFar).op = 184 ∧ quadOk (iRA (ins zChwFar).w) = true ∧ k.rsvd = false ∧ u.freeWay (u.routerOf 0) false (p false k)) ∧
    (let u := zChcFar.advance 0; let x := u.thr 0 0; let q := BitVec.toNat ((ins zChcFar).b x) % 256; let d := BitVec.toNat ((ins zChcFar).b x) / 256; let p := fun b e => mkPacket 1 (x.cls + 1) (u.routerOf d) false (u.routerOf 0) false (if b = true then 1 else 2) (Payload.chan b d q 0 0 e); Takes u 0 0 (ins zChcFar) ∧ d ≠ 0 ∧ BitVec.toNat ((ins zChcFar).b x) < 16384 ∧ (ins zChcFar).op = 185 ∧ u.freeWay (u.routerOf 0) false (p true { tag := (0 : Word), dst := (0 : Word), val := (0 : Word), aux := (0 : Word) })) ∧
    (let u := zChw.advance 0; let x := u.thr 0 0; let k := (x.tok4 (iRA (ins zChw).w)).clean; let q := BitVec.toNat ((ins zChw).b x) % 256; let st := u.fget F.QPTR_STAGED 0 q; let free := u.fget F.QPTR_RESV 0 q = 0; let mine := u.holdsChan 0 q 0 0; let y := x.setW (iRD (ins zChw).w) (wd (b2n (decide (st = 0 ∧ u.fget F.QPTR_ABAND 0 q = 1)))); Takes u 0 0 (ins zChw) ∧ BitVec.toNat ((ins zChw).b x) / 256 = 0 ∧ 0 < 64 ∧ u.Still ∧ u.fget F.QCFG_EN 0 q = 1 ∧ (ins zChw).op = 184 ∧ quadOk (iRA (ins zChw).w) = true ∧ k.rsvd = false ∧ u.fget F.QCFG_PMODE 0 q = 2 ∧ (free ∨ mine) ∧ st < u.fget F.QCFG_MSGM1 0 q + 1 ∧ u.qOcc 0 q + st < u.qSize 0 q ∧ (y.stepPc (ins zChw).pc ((ins zChw).pc + (ins zChw).len)).pc ≤ 16383) ∧
    (let u := zChwRing.advance 0; let x := u.thr 0 0; let k := (x.tok4 (iRA (ins zChwRing).w)).clean; let q := BitVec.toNat ((ins zChwRing).b x) % 256; let st := u.fget F.QPTR_STAGED 0 q; let free := u.fget F.QPTR_RESV 0 q = 0; let mine := u.holdsChan 0 q 0 0; Takes u 0 0 (ins zChwRing) ∧ BitVec.toNat ((ins zChwRing).b x) / 256 = 0 ∧ 0 < 64 ∧ u.Still ∧ u.fget F.QCFG_EN 0 q = 1 ∧ (ins zChwRing).op = 184 ∧ quadOk (iRA (ins zChwRing).w) = true ∧ k.rsvd = false ∧ u.fget F.QCFG_PMODE 0 q = 2 ∧ (free ∨ mine) ∧ st < u.fget F.QCFG_MSGM1 0 q + 1 ∧ u.qSize 0 q ≤ u.qOcc 0 q + st) ∧
    (let u := zChwTaken.advance 0; let x := u.thr 0 0; let k := (x.tok4 (iRA (ins zChwTaken).w)).clean; let q := BitVec.toNat ((ins zChwTaken).b x) % 256; let mine := u.holdsChan 0 q 0 0; Takes u 0 0 (ins zChwTaken) ∧ BitVec.toNat ((ins zChwTaken).b x) / 256 = 0 ∧ 0 < 64 ∧ u.Still ∧ u.fget F.QCFG_EN 0 q = 1 ∧ (ins zChwTaken).op = 184 ∧ quadOk (iRA (ins zChwTaken).w) = true ∧ k.rsvd = false ∧ u.fget F.QCFG_PMODE 0 q = 2 ∧ u.fget F.QPTR_RESV 0 q = 1 ∧ (¬mine)) ∧
    (let u := zChc.advance 0; let x := u.thr 0 0; let q := BitVec.toNat ((ins zChc).b x) % 256; let st := u.fget F.QPTR_STAGED 0 q; let tl := u.fget F.QPTR_TAIL 0 q; let mine := u.holdsChan 0 q 0 0; Takes u 0 0 (ins zChc) ∧ BitVec.toNat ((ins zChc).b x) / 256 = 0 ∧ 0 < 64 ∧ u.Still ∧ u.fget F.QCFG_EN 0 q = 1 ∧ (ins zChc).op = 185 ∧ mine ∧ u.QuietQ 0 q ∧ (∀ p ∈ u.threads, waitsChan 0 q (u.thr (p.1 / 16) (p.1 % 16)) = false) ∧ st ≤ 32 ∧ (∀ i < st, ∀ j < st, i ≠ j → 32 ≤ u.entryAt 0 q (tl + i) - u.entryAt 0 q (tl + j) + (u.entryAt 0 q (tl + j) - u.entryAt 0 q (tl + i))) ∧ (x.stepPc (ins zChc).pc ((ins zChc).pc + (ins zChc).len)).pc ≤ 16383) :=
  ⟨⟨⟨by decide, by decide, by decide, by decide, by decide, by decide, by decide⟩, by decide, by decide, by decide, by decide, by decide, by unfold State.freeWay; decide⟩,
   ⟨⟨by decide, by decide, by decide, by decide, by decide, by decide, by decide⟩, by decide, by decide, by decide, by unfold State.freeWay; decide⟩,
   ⟨⟨by decide, by decide, by decide, by decide, by decide, by decide, by decide⟩, by decide, by decide, still_of _ (by decide) rfl (by decide), by decide, by decide, by decide, by decide, by decide, by first | (exact .inl (by decide)) | (exact .inr (by unfold State.holdsChan; decide)), by decide, by decide, by decide⟩,
   ⟨⟨by decide, by decide, by decide, by decide, by decide, by decide, by decide⟩, by decide, by decide, still_of _ (by decide) rfl (by decide), by decide, by decide, by decide, by decide, by decide, by first | (exact .inl (by decide)) | (exact .inr (by unfold State.holdsChan; decide)), by decide, by decide⟩,
   ⟨⟨by decide, by decide, by decide, by decide, by decide, by decide, by decide⟩, by decide, by decide, still_of _ (by decide) rfl (by decide), by decide, by decide, by decide, by decide, by decide, by decide, by unfold State.holdsChan; decide⟩,
   ⟨⟨by decide, by decide, by decide, by decide, by decide, by decide, by decide⟩, by decide, by decide, still_of _ (by decide) rfl (by decide), by decide, by decide, by unfold State.holdsChan; decide, ⟨by decide, by decide⟩, by decide, by decide, by decide, by decide⟩⟩

theorem witness_DmaCopiesItsWords :
    (let u := zDma.advance 0; let x := u.thr 0 0; let a := BitVec.toNat ((ins zDma).a x) % 2 ^ 48; let b := BitVec.toNat ((ins zDma).b x) % 2 ^ 48; let k := iIMM (ins zDma).w; Takes u 0 0 (ins zDma) ∧ (ins zDma).op = 82 ∧ 0 < k ∧ k < 65536 ∧ iAM (ins zDma).w = 0 ∧ x.ct = false ∧ 0 < 64 ∧ u.dmaRange 0 a (8 * k) false = true ∧ u.dmaRange 0 b (8 * k) true = true ∧ (u.tile 0).dma.length < 16 ∧ (x.stepPc (ins zDma).pc ((ins zDma).pc + (ins zDma).len)).pc ≤ 16383) ∧
    (let u := zDmaFull.advance 0; let x := u.thr 0 0; let a := BitVec.toNat ((ins zDmaFull).a x) % 2 ^ 48; let b := BitVec.toNat ((ins zDmaFull).b x) % 2 ^ 48; let k := iIMM (ins zDmaFull).w; Takes u 0 0 (ins zDmaFull) ∧ (ins zDmaFull).op = 82 ∧ 0 < k ∧ k < 65536 ∧ iAM (ins zDmaFull).w = 0 ∧ x.ct = false ∧ 0 < 64 ∧ u.dmaRange 0 a (8 * k) false = true ∧ u.dmaRange 0 b (8 * k) true = true ∧ 16 ≤ (u.tile 0).dma.length) ∧
    (let u := zDmaTry.advance 0; let x := u.thr 0 0; let o := x.heldIns; let a := BitVec.toNat (o.a x) % 2 ^ 48; let b := BitVec.toNat (o.b x) % 2 ^ 48; let k := iIMM o.w; u.retryDue 0 0 RetryKind.dma ∧ o.op = 82 ∧ 0 < k ∧ k < 65536 ∧ iAM o.w = 0 ∧ x.ct = false ∧ 0 < 64 ∧ u.dmaRange 0 a (8 * k) false = true ∧ u.dmaRange 0 b (8 * k) true = true ∧ (u.tile 0).dma.length < 16 ∧ (x.stepPc x.pc (x.pc + 1)).pc ≤ 16383) ∧
    (let u := zDmaTryFull.advance 0; let x := u.thr 0 0; let o := x.heldIns; let a := BitVec.toNat (o.a x) % 2 ^ 48; let b := BitVec.toNat (o.b x) % 2 ^ 48; let k := iIMM o.w; u.retryDue 0 0 RetryKind.dma ∧ o.op = 82 ∧ 0 < k ∧ k < 65536 ∧ iAM o.w = 0 ∧ x.ct = false ∧ 0 < 64 ∧ u.dmaRange 0 a (8 * k) false = true ∧ u.dmaRange 0 b (8 * k) true = true ∧ 16 ≤ (u.tile 0).dma.length) ∧
    (let u := zCopy.advance 0; (u.tile 0).dma[0]? = some dmaA ∧ (∀ (j : Fin 16) (e : Dma), (u.tile 0).dma[j]? = some e → e.id = dmaA.id → j = (0 : Fin 16)) ∧ dmaA.n < 16 ∧ u.Still ∧ u.plainWords 0 dmaA.src dmaA.words (spadAddr 0 0) ∧ u.plainWords 0 dmaA.dst dmaA.words (spadAddr 0 256) ∧ (spadAddr 0 0 + 8 * dmaA.words ≤ spadAddr 0 256 ∨ spadAddr 0 256 + 8 * dmaA.words ≤ spadAddr 0 0)) ∧
    (let u := zCopyFree.advance 0; (u.tile 0).dma[0]? = some dmaA ∧ (∀ (j : Fin 16) (e : Dma), (u.tile 0).dma[j]? = some e → e.id = dmaA.id → j = (0 : Fin 16)) ∧ dmaA.n < 16 ∧ u.Still ∧ u.plainWords 0 dmaA.src dmaA.words (spadAddr 0 0) ∧ u.plainWords 0 dmaA.dst dmaA.words (spadAddr 0 256) ∧ (spadAddr 0 0 + 8 * dmaA.words ≤ spadAddr 0 256 ∨ spadAddr 0 256 + 8 * dmaA.words ≤ spadAddr 0 0)) :=
  ⟨⟨⟨by decide, by decide, by decide, by decide, by decide, by decide, by decide⟩, by decide, by decide, by decide, by decide, by decide, by decide, by decide, by decide, by decide, by decide⟩,
   ⟨⟨by decide, by decide, by decide, by decide, by decide, by decide, by decide⟩, by decide, by decide, by decide, by decide, by decide, by decide, by decide, by decide, by decide⟩,
   ⟨by unfold State.retryDue; decide, by decide, by decide, by decide, by decide, by decide, by decide, by decide, by decide, by decide, by decide⟩,
   ⟨by unfold State.retryDue; decide, by decide, by decide, by decide, by decide, by decide, by decide, by decide, by decide, by decide⟩,
   ⟨by decide, by decide, by decide, still_of _ (by decide) rfl (by decide), by unfold State.plainWords State.clean; decide, by unfold State.plainWords State.clean; decide, by decide⟩,
   ⟨by decide, by decide, by decide, still_of _ (by decide) rfl (by decide), by unfold State.plainWords State.clean; decide, by unfold State.plainWords State.clean; decide, by decide⟩⟩

end W3
end Sys2Proof.Tests
end

