-- ==== Sys2Proof/Tests/W04.lean ====
section
/-! SUPPORT. States that meet the hypotheses of: LockGroupsPerformOneOperation, LockInstructionsAskTheirGroup. -/
set_option Elab.async false
open Sys2Proof Sys2Proof.Machine
namespace Sys2Proof.Tests
namespace W4
def zLk (op : Nat) : State := strand (mkw op 0 0) (wth [(2, 5), (3, 6)])
def lkHeld : Thread := { wth [] with retry := some .lock, iw := mkw 0xC1 0 0 }
def lkRes (code : Nat) (wake : Bool) : Ctl := .lockRes 0 0 5 code wake
def zResW := { strand 0 { wth [] with st := .wait, wait := .lock 5 } with ctl := [.lend 0 0 5 2, lkRes 0 true] }
def zResR := { strand 0 lkHeld with ctl := [lkRes 0 false] }
def zResT := { withQ (strand 0 lkHeld) 255 3 with ctl := [lkRes 3 false] }
def cell (v : Word) (s : State) : State := tile0 s fun t => { t with cells := [(63, ⟨v, true⟩)] }
def others (n : Nat) (s : State) : State := tile0 s fun t => { t with waiters := (List.range n).map fun k => ⟨63, 1 + k / 16, k % 16, k⟩ }
def lkWait : Thread := { wth [] with st := .wait, wait := .lock 63 }
def zAgain0 := cell 0 (strand 0 lkWait)
def zAgainFull := others 64 (cell (wd (ownerId 9 9)) (strand 0 lkWait))
def zAgainWait := others 63 (cell (wd (ownerId 67 15)) (strand 0 lkWait))
def zLend := { strand 0 (wth []) with ctl := [.lend 0 0 5 2] }
def asks (op : LockOp) (core n : Nat) (s : State) : State := tile0 s fun t => { t with lockq := [⟨.acq, 1, 7, 7, true, 3⟩, ⟨op, 63, core, n, false, 9⟩] }
def rAcq : LockReq := ⟨.acq, 63, 0, 0, false, 9⟩
def rTry : LockReq := ⟨.try_, 63, 0, 0, false, 9⟩
def rRel : LockReq := ⟨.rel, 63, 0, 0, false, 9⟩
def rCas : LockReq := ⟨.cas 5 6, 63, 0, 0, false, 9⟩
def me : Word := wd (ownerId 0 0)
def grp (v : Word) (op : LockOp) : State := asks op 0 0 (cell v (strand 0 lkHeld))
def cas (s : State) : State := s.fset F.LKGCFG_MODE 0 0 1
def limit (s : State) : State := s.fset F.LKGCFG_LOC 0 0 63
def heirs (s : State) : State := tile0 s fun t => { t with waiters := [⟨63, 1, 2, 4⟩, ⟨63, 2, 3, 5⟩, ⟨62, 2, 4, 1⟩] }
def w1w : Waiter := ⟨63, 1, 2, 4⟩

theorem witness_LockInstructionsAskTheirGroup_1 :
    (let u := (zLk 193).advance 0; Takes u 0 0 (ins (zLk 193)) ∧ (ins (zLk 193)).op = 193) ∧
    (let u := (zLk 194).advance 0; Takes u 0 0 (ins (zLk 194)) ∧ (ins (zLk 194)).op = 194) ∧
    (let u := (zLk 195).advance 0; Takes u 0 0 (ins (zLk 195)) ∧ (ins (zLk 195)).op = 195) ∧
    (let u := (zLk 196).advance 0; Takes u 0 0 (ins (zLk 196)) ∧ (ins (zLk 196)).op = 196) ∧
    (let u := zResW.advance 0; let x := u.thr 0 0; u.message (Ctl.isLockFor 0 0) (Ctl.lockRes 0 0 (5 : Word) 0 true) [Ctl.lend 0 0 5 2] ∧ u.active 0 = true ∧ true = true ∧ x.st = TState.wait ∧ x.wres = none) ∧
    (let u := zResR.advance 0; let x := u.thr 0 0; let y := { x with retry := none }.setW (iRD x.iw) (5 : Word); u.message (Ctl.isLockFor 0 0) (Ctl.lockRes 0 0 (5 : Word) 0 false) [] ∧ u.active 0 = true ∧ false = false ∧ x.st = TState.ready ∧ x.retry = some RetryKind.lock ∧ x.loads = [] ∧ 0 = 0 ∧ (y.stepPc x.pc (x.pc + 1)).pc ≤ 16383) ∧
    (let u := zResT.advance 0; let x := u.thr 0 0; u.message (Ctl.isLockFor 0 0) (Ctl.lockRes 0 0 (5 : Word) 3 false) [] ∧ u.active 0 = true ∧ false = false ∧ x.st = TState.ready ∧ x.retry = some RetryKind.lock ∧ x.loads = [] ∧ 3 ≠ 0 ∧ 3 < 256 ∧ x.pc ≤ 16383 ∧ (0 < 64 → u.Still ∧ u.QuietQ 0 255)) ∧
    (let u := zAgain0.advance 0; let x := u.thr 0 0; let cell := u.cell 0 63; x.st = TState.wait ∧ x.wait = WaitFor.lock (0 * 64 + 63) ∧ x.wres = none ∧ x.retryAt ≤ u.now ∧ (∀ w ∈ (u.tile 0).waiters, ¬(w.core = 0 ∧ w.n = 0)) ∧ (∀ m ∈ u.ctl, Ctl.isLockFor 0 0 m = false) ∧ u.active 0 = true ∧ u.casMode 0 = false ∧ 63 < u.lockLimit 0 (Req.thread 0 0) ∧ cell.val = (0 : Word)) :=
  ⟨⟨⟨by decide, by decide, by decide, by decide, by decide, by decide, by decide⟩, by decide⟩,
   ⟨⟨by decide, by decide, by decide, by decide, by decide, by decide, by decide⟩, by decide⟩,
   ⟨⟨by decide, by decide, by decide, by decide, by decide, by decide, by decide⟩, by decide⟩,
   ⟨⟨by decide, by decide, by decide, by decide, by decide, by decide, by decide⟩, by decide⟩,
   ⟨message_of _ _ _ _ (by decide), by decide, by decide, by decide, by decide⟩,
   ⟨message_of _ _ _ _ (by decide), by decide, by decide, by decide, by decide, by decide, by decide, by decide⟩,
   ⟨message_of _ _ _ _ (by decide), by decide, by decide, by decide, by decide, by decide, by decide, by decide, by decide, fun _ => ⟨still_of _ (by decide) rfl (by decide), ⟨by decide, by decide⟩⟩⟩,
   ⟨by decide, by decide, by decide, by decide, by decide, by decide, by decide, by decide, by decide, by decide⟩⟩

theorem witness_LockInstructionsAskTheirGroup_2 :
    (let u := zAgainFull.advance 0; let x := u.thr 0 0; let cell := u.cell 0 63; x.st = TState.wait ∧ x.wait = WaitFor.lock (0 * 64 + 63) ∧ x.wres = none ∧ x.retryAt ≤ u.now ∧ (∀ w ∈ (u.tile 0).waiters, ¬(w.core = 0 ∧ w.n = 0)) ∧ (∀ m ∈ u.ctl, Ctl.isLockFor 0 0 m = false) ∧ u.active 0 = true ∧ u.casMode 0 = false ∧ 63 < u.lockLimit 0 (Req.thread 0 0) ∧ cell.val ≠ (0 : Word) ∧ cell.val ≠ wd (ownerId 0 0) ∧ 64 ≤ (u.tile 0).waiters.length) ∧
    (let u := zAgainWait.advance 0; let x := u.thr 0 0; let cell := u.cell 0 63; x.st = TState.wait ∧ x.wait = WaitFor.lock (0 * 64 + 63) ∧ x.wres = none ∧ x.retryAt ≤ u.now ∧ (∀ w ∈ (u.tile 0).waiters, ¬(w.core = 0 ∧ w.n = 0)) ∧ (∀ m ∈ u.ctl, Ctl.isLockFor 0 0 m = false) ∧ u.active 0 = true ∧ u.casMode 0 = false ∧ 63 < u.lockLimit 0 (Req.thread 0 0) ∧ cell.val = wd (ownerId 67 15) ∧ (67, 15) ≠ (0, 0) ∧ (u.tile 0).waiters.length < 64) ∧
    (let x := zLend.thr 0 0; zLend.message (Ctl.isLendFor 0 0) (Ctl.lend 0 0 5 2) [] ∧ zLend.active 0 = true ∧ (∀ (q : ℕ), ¬(x.st = TState.wait ∧ x.wait = WaitFor.lock q))) :=
  ⟨⟨by decide, by decide, by decide, by decide, by decide, by decide, by decide, by decide, by decide, by decide, by decide, by decide⟩,
   ⟨by decide, by decide, by decide, by decide, by decide, by decide, by decide, by decide, by decide, by decide, by decide, by decide⟩,
   ⟨message_of _ _ _ _ (by decide), by decide, fun q h => absurd h.1 (by decide)⟩⟩

theorem witness_LockGroupsPerformOneOperation_1 :
    (let u := (limit (grp (0 : Word) LockOp.acq)).advance 0; let into := rAcq.cell < u.lockLimit 0 (Req.thread rAcq.core rAcq.n); u.active 0 = true ∧ u.nextLock 0 rAcq ∧ rAcq.op ≠ LockOp.rel ∧ (¬into)) ∧
    (let u := (grp (0 : Word) LockOp.acq).advance 0; let cell := u.cell 0 rAcq.cell; let into := rAcq.cell < u.lockLimit 0 (Req.thread rAcq.core rAcq.n); let rta := u.casMode 0 = false; u.active 0 = true ∧ u.nextLock 0 rAcq ∧ (rAcq.op = LockOp.acq ∨ rAcq.op = LockOp.try_) ∧ into ∧ rta ∧ cell.val = (0 : Word)) ∧
    (let u := (grp W4.me LockOp.try_).advance 0; let cell := u.cell 0 rTry.cell; let me := wd (ownerId rTry.core rTry.n); let into := rTry.cell < u.lockLimit 0 (Req.thread rTry.core rTry.n); let rta := u.casMode 0 = false; u.active 0 = true ∧ u.nextLock 0 rTry ∧ (rTry.op = LockOp.acq ∨ rTry.op = LockOp.try_) ∧ into ∧ rta ∧ cell.val = me) ∧
    (let u := (grp (1025 : Word) LockOp.try_).advance 0; let cell := u.cell 0 rTry.cell; let me := wd (ownerId rTry.core rTry.n); let into := rTry.cell < u.lockLimit 0 (Req.thread rTry.core rTry.n); let rta := u.casMode 0 = false; u.active 0 = true ∧ u.nextLock 0 rTry ∧ (rTry.op = LockOp.acq ∨ rTry.op = LockOp.try_) ∧ into ∧ rta ∧ cell.val ≠ (0 : Word) ∧ cell.val ≠ me ∧ rTry.op = LockOp.try_) ∧
    (let u := (others 64 (grp (1025 : Word) LockOp.acq)).advance 0; let cell := u.cell 0 rAcq.cell; let me := wd (ownerId rAcq.core rAcq.n); let into := rAcq.cell < u.lockLimit 0 (Req.thread rAcq.core rAcq.n); let rta := u.casMode 0 = false; u.active 0 = true ∧ u.nextLock 0 rAcq ∧ (rAcq.op = LockOp.acq ∨ rAcq.op = LockOp.try_) ∧ into ∧ rta ∧ cell.val ≠ (0 : Word) ∧ cell.val ≠ me ∧ rAcq.op = LockOp.acq ∧ 64 ≤ (u.tile 0).waiters.length) ∧
    (let u := (others 63 (grp (1025 : Word) LockOp.acq)).advance 0; let cell := u.cell 0 rAcq.cell; let into := rAcq.cell < u.lockLimit 0 (Req.thread rAcq.core rAcq.n); let rta := u.casMode 0 = false; u.active 0 = true ∧ u.nextLock 0 rAcq ∧ (rAcq.op = LockOp.acq ∨ rAcq.op = LockOp.try_) ∧ into ∧ rta ∧ cell.val = wd (ownerId 0 1) ∧ (0, 1) ≠ (rAcq.core, rAcq.n) ∧ rAcq.op = LockOp.acq ∧ (u.tile 0).waiters.length < 64) ∧
    (let u := (grp (1025 : Word) LockOp.rel).advance 0; let cell := u.cell 0 rRel.cell; let me := wd (ownerId rRel.core rRel.n); let rta := u.casMode 0 = false; u.active 0 = true ∧ u.nextLock 0 rRel ∧ rRel.op = LockOp.rel ∧ rta ∧ cell.val ≠ me) ∧
    (let u := (grp W4.me LockOp.rel).advance 0; let cell := u.cell 0 rRel.cell; let me := wd (ownerId rRel.core rRel.n); let rta := u.casMode 0 = false; u.active 0 = true ∧ u.nextLock 0 rRel ∧ rRel.op = LockOp.rel ∧ rta ∧ cell.val = me ∧ (∀ w ∈ (u.tile 0).waiters, w.cell ≠ rRel.cell)) :=
  ⟨⟨by decide, by unfold State.nextLock; decide, by decide, by decide⟩,
   ⟨by decide, by unfold State.nextLock; decide, by decide, by decide, by decide, by decide⟩,
   ⟨by decide, by unfold State.nextLock; decide, by decide, by decide, by decide, by decide⟩,
   ⟨by decide, by unfold State.nextLock; decide, by decide, by decide, by decide, by decide, by decide, by decide⟩,
   ⟨by decide, by unfold State.nextLock; decide, by decide, by decide, by decide, by decide, by decide, by decide, by decide⟩,
   ⟨by decide, by unfold State.nextLock; decide, by decide, by decide, by decide, by decide, by decide, by decide, by decide⟩,
   ⟨by decide, by unfold State.nextLock; decide, by decide, by decide, by decide⟩,
   ⟨by decide, by unfold State.nextLock; decide, by decide, by decide, by decide, by decide⟩⟩

theorem witness_LockGroupsPerformOneOperation_2 :
    (let u := (heirs (grp W4.me LockOp.rel)).advance 0; let cell := u.cell 0 rRel.cell; let me := wd (ownerId rRel.core rRel.n); let rta := u.casMode 0 = false; u.active 0 = true ∧ u.nextLock 0 rRel ∧ rRel.op = LockOp.rel ∧ rta ∧ cell.val = me ∧ u.heir 0 rRel.cell w1w) ∧
    (let u := (grp (5 : Word) (LockOp.cas (5 : Word) (6 : Word))).advance 0; let into := rCas.cell < u.lockLimit 0 (Req.thread rCas.core rCas.n); let rta := u.casMode 0 = false; u.active 0 = true ∧ u.nextLock 0 rCas ∧ rCas.op = LockOp.cas (5 : Word) (6 : Word) ∧ into ∧ rta) ∧
    (let u := (cas (grp (5 : Word) (LockOp.cas (5 : Word) (6 : Word)))).advance 0; let into := rCas.cell < u.lockLimit 0 (Req.thread rCas.core rCas.n); let rta := u.casMode 0 = false; u.active 0 = true ∧ u.nextLock 0 rCas ∧ rCas.op = LockOp.cas (5 : Word) (6 : Word) ∧ into ∧ (¬rta)) :=
  ⟨⟨by decide, by unfold State.nextLock; decide, by decide, by decide, by decide, by unfold State.heir; decide⟩,
   ⟨by decide, by unfold State.nextLock; decide, by decide, by decide, by decide⟩,
   ⟨by decide, by unfold State.nextLock; decide, by decide, by decide, by decide⟩⟩

theorem witness_LockGroupsPerformOneOperation_refused :
    let u := (cas (grp 5 LockOp.try_)).advance 0; u.active 0 = true ∧ u.nextLock 0 rTry ∧ (∀ e v, rTry.op ≠ LockOp.cas e v) ∧ ¬u.casMode 0 = false :=
  ⟨by decide, by unfold State.nextLock; decide, nofun, by decide⟩

end W4
end Sys2Proof.Tests
end

