-- ==== Sys2Proof/Tests/W05.lean ====
section
/-! SUPPORT. States that meet the hypotheses of: FailLogVerdictsAndCustomOpcodesOfThreads, LockRegistersActOnTheirCells, RepairBlocksCountAndClose. -/
set_option Elab.async false
open Sys2Proof Sys2Proof.Machine
namespace Sys2Proof.Tests
namespace W5
def zLkReg (v : Word) : State := tile0 { strand 0 (wth []) with dev := .running } fun t => { t with cells := [(63, ⟨v, true⟩)] }
def zRb (st due : Nat) (s : State) : State :=
  ((((s.fset F.RBCFG_EN 0 4095 1).fset F.RBCFG_SR 0 4095 1).fset F.RBCFG_SC 0 4095 1).fset F.RBST_STATE 0 4095 st).fset F.RBST_DUE 0 4095 due
def zAcc := zRb 1 0 (strand (mkw 0xD2 0 0) (wth [(2, wd (5 * 2 ^ 32 + 6)), (3, 4095)]))
def zClose := zRb 1 0 (strand (mkw 0xD2 1 0) (wth [(3, 4095)]))
def zQuery := zRb 1 0 (strand (mkw 0xD2 2 0) (wth [(2, wd (5 * 2 ^ 32 + 6)), (3, 4095)]))
def zDone := zRb 2 2 (strand (mkw 0xD2 3 0) (wth [(2, 6), (3, 4095)]))
def zLate := zRb 2 0 (strand 0 (wth []))
def zFlog := ((strand (mkw 0xD3 3 0) (wth [(1, 9), (2, 5), (3, 6)])).fset F.FLOGCFG_EN 0 0 1).fset F.FLBASE_BASE 0 0 (0xFF00010000 / 32) |>.fset F.FLOGCFG_LOG2N 0 0 4
def vT : Thread := wth [(2, 0xA5), (3, 31)]
def zV := (strand (iw 0xD4 0 2 3 0 0) vT).fset F.CLSTAT_STATE 0 31 3
def sixteen (s : State) : State := { s with links := [(clKey 31, { Link.rst with verd := List.replicate 16 ⟨0, 1, 2, 3, false, 0, false, false⟩ })] }
def zVfull := sixteen zV
def zVdown := withQ (strand (iw 0xD4 0 2 3 0 0) vT) 255 0
def zVtry := (strand 0 { vT with retry := some .verdict, iw := iw 0xD4 0 2 3 0 0 }).fset F.CLSTAT_STATE 0 31 3
def zVtryFull := sixteen zVtry
/-- a table whose X0 has one row: RES0 takes A, RES1 takes B -/
def zX := { strand (mkw 0xE0 0 0) (wth [(2, 7), (3, 9)]) with dtabA := [1] }
def zRbOff := zRb 1 0 (zLkReg 0)
def vOff : Word := wd (wbits (zRbOff.reg .RBCFG 0 4095) 0 20)
def fAcc : Firing := ⟨1, 9, 0, wd (0xD2 * 2 ^ 56 + 2 * 2 ^ 54), 5, some ⟨0, 0, wd (5 * 2 ^ 32 + 6), 0⟩, some ⟨0, 0, 4095, 0⟩, none⟩
def task (f : Firing) : Task := ⟨.fire f, 1, 3, 0, 77, false, none⟩
def fz (k : Task) : State := tile0 (zRb 1 0 (strand 0 { wth [] with st := .free })) fun t => { t with ready := [k] }

theorem witness_LockRegistersActOnTheirCells_1 :
    (let cell := (zLkReg (0 : Word)).cell 0 63; let me := wd (lockId Req.debug); 63 < (zLkReg (0 : Word)).lockLimit 0 Req.debug ∧ (zLkReg (0 : Word)).casMode 0 = false ∧ (cell.val ≠ me ∨ Req.debug = Req.debug) ∧ (cell.val = (0 : Word) → Req.debug = Req.debug)) ∧
    ((zLkReg (0 : Word)).lockLimit 0 Req.host ≤ 63) ∧
    (let cell := (zLkReg (0 : Word)).cell 0 63; 63 < (zLkReg (0 : Word)).lockLimit 0 (Req.thread 0 3) ∧ (zLkReg (0 : Word)).casMode 0 = false ∧ cell.val = (0 : Word) ∧ Req.thread 0 3 ≠ Req.debug) ∧
    (let cell := (zLkReg (wd (ownerId 0 3))).cell 0 63; let me := wd (lockId (Req.thread 0 3)); 63 < (zLkReg (wd (ownerId 0 3))).lockLimit 0 (Req.thread 0 3) ∧ (zLkReg (wd (ownerId 0 3))).casMode 0 = false ∧ cell.val ≠ (0 : Word) ∧ cell.val = me ∧ Req.thread 0 3 ≠ Req.debug) ∧
    (let cell := (zLkReg (wd (ownerId 0 4))).cell 0 63; let me := wd (lockId (Req.thread 0 3)); 63 < (zLkReg (wd (ownerId 0 4))).lockLimit 0 (Req.thread 0 3) ∧ (zLkReg (wd (ownerId 0 4))).casMode 0 = false ∧ (cell.val ≠ me ∨ Req.thread 0 3 = Req.debug) ∧ (cell.val = (0 : Word) → Req.thread 0 3 = Req.debug)) ∧
    (63 < ((zLkReg (9 : Word)).fset F.LKGCFG_MODE 0 0 1).lockLimit 0 (Req.thread 0 3) ∧ ((zLkReg (9 : Word)).fset F.LKGCFG_MODE 0 0 1).casMode 0 = true) ∧
    (((zLkReg (9 : Word)).fset F.LKGCFG_MODE 0 0 1).Passes (Req.thread 0 3) RegKind.LKCELL 0 63 (4660 : Word) ∧ ((zLkReg (9 : Word)).fset F.LKGCFG_MODE 0 0 1).casMode 0 = true ∧ 63 < ((zLkReg (9 : Word)).fset F.LKGCFG_MODE 0 0 1).lockLimit 0 (Req.thread 0 3)) ∧
    ((zLkReg (wd (ownerId 67 15))).Passes (Req.thread 67 15) RegKind.LKCELL 0 63 (0 : Word) ∧ (zLkReg (wd (ownerId 67 15))).casMode 0 = false ∧ (0 : Word) = (0 : Word) ∧ Req.thread 67 15 = Req.thread 67 15 ∧ ((zLkReg (wd (ownerId 67 15))).cell 0 63).val = wd (ownerId 67 15) ∧ (∀ w ∈ ((zLkReg (wd (ownerId 67 15))).tile 0).waiters, w.cell ≠ 63)) :=
  ⟨⟨by decide, by decide, by decide, by decide⟩,
   (by decide),
   ⟨by decide, by decide, by decide, by decide⟩,
   ⟨by decide, by decide, by decide, by decide, by decide⟩,
   ⟨by decide, by decide, by decide, by decide⟩,
   ⟨by decide, by decide⟩,
   ⟨⟨by decide, by decide, by decide, by decide, by decide, by decide⟩, by decide, by decide⟩,
   ⟨⟨by decide, by decide, by decide, by decide, by decide, by decide⟩, by decide, by decide, by decide, by decide, by decide⟩⟩

theorem witness_LockRegistersActOnTheirCells_2 :
    ((tile0 (zLkReg (wd (ownerId 67 15))) fun t => { ents := t.ents, c0 := t.c0, stk := t.stk, inM := t.inM, inL := t.inL, turnL := t.turnL, stallNoted := t.stallNoted, stalled := t.stalled, wbuf := t.wbuf, spill := t.spill, probes := t.probes, thr := t.thr, cache := t.cache, ready := t.ready, c0q := t.c0q, delay := t.delay, gens := t.gens, unitFree := t.unitFree, unitOut := t.unitOut, chains := t.chains, lastIssue := t.lastIssue, sweeps := t.sweeps, bankA := t.bankA, bankB := t.bankB, openShots := t.openShots, heldFlags := t.heldFlags, limitDue := t.limitDue, allocHeld := t.allocHeld, bankTrans := t.bankTrans, bankAt := t.bankAt, borrow := t.borrow, rushAt := t.rushAt, dma := t.dma, cells := t.cells, waiters := [{ cell := 63, core := 1, n := 2, stamp := 4 }, { cell := 63, core := 2, n := 3, stamp := 5 }], lockq := t.lockq, allWait := t.allWait, sdDone := t.sdDone, sdAct := t.sdAct, idleSince := t.idleSince, power := t.power, wakeAsked := t.wakeAsked, ecback := t.ecback, lastPop := t.lastPop, lastWake := t.lastWake }).Passes (Req.thread 67 15) RegKind.LKCELL 0 63 (0 : Word) ∧ (tile0 (zLkReg (wd (ownerId 67 15))) fun t => { ents := t.ents, c0 := t.c0, stk := t.stk, inM := t.inM, inL := t.inL, turnL := t.turnL, stallNoted := t.stallNoted, stalled := t.stalled, wbuf := t.wbuf, spill := t.spill, probes := t.probes, thr := t.thr, cache := t.cache, ready := t.ready, c0q := t.c0q, delay := t.delay, gens := t.gens, unitFree := t.unitFree, unitOut := t.unitOut, chains := t.chains, lastIssue := t.lastIssue, sweeps := t.sweeps, bankA := t.bankA, bankB := t.bankB, openShots := t.openShots, heldFlags := t.heldFlags, limitDue := t.limitDue, allocHeld := t.allocHeld, bankTrans := t.bankTrans, bankAt := t.bankAt, borrow := t.borrow, rushAt := t.rushAt, dma := t.dma, cells := t.cells, waiters := [{ cell := 63, core := 1, n := 2, stamp := 4 }, { cell := 63, core := 2, n := 3, stamp := 5 }], lockq := t.lockq, allWait := t.allWait, sdDone := t.sdDone, sdAct := t.sdAct, idleSince := t.idleSince, power := t.power, wakeAsked := t.wakeAsked, ecback := t.ecback, lastPop := t.lastPop, lastWake := t.lastWake }).casMode 0 = false ∧ (0 : Word) = (0 : Word) ∧ Req.thread 67 15 = Req.thread 67 15 ∧ ((tile0 (zLkReg (wd (ownerId 67 15))) fun t => { ents := t.ents, c0 := t.c0, stk := t.stk, inM := t.inM, inL := t.inL, turnL := t.turnL, stallNoted := t.stallNoted, stalled := t.stalled, wbuf := t.wbuf, spill := t.spill, probes := t.probes, thr := t.thr, cache := t.cache, ready := t.ready, c0q := t.c0q, delay := t.delay, gens := t.gens, unitFree := t.unitFree, unitOut := t.unitOut, chains := t.chains, lastIssue := t.lastIssue, sweeps := t.sweeps, bankA := t.bankA, bankB := t.bankB, openShots := t.openShots, heldFlags := t.heldFlags, limitDue := t.limitDue, allocHeld := t.allocHeld, bankTrans := t.bankTrans, bankAt := t.bankAt, borrow := t.borrow, rushAt := t.rushAt, dma := t.dma, cells := t.cells, waiters := [{ cell := 63, core := 1, n := 2, stamp := 4 }, { cell := 63, core := 2, n := 3, stamp := 5 }], lockq := t.lockq, allWait := t.allWait, sdDone := t.sdDone, sdAct := t.sdAct, idleSince := t.idleSince, power := t.power, wakeAsked := t.wakeAsked, ecback := t.ecback, lastPop := t.lastPop, lastWake := t.lastWake }).cell 0 63).val = wd (ownerId 67 15) ∧ (tile0 (zLkReg (wd (ownerId 67 15))) fun t => { ents := t.ents, c0 := t.c0, stk := t.stk, inM := t.inM, inL := t.inL, turnL := t.turnL, stallNoted := t.stallNoted, stalled := t.stalled, wbuf := t.wbuf, spill := t.spill, probes := t.probes, thr := t.thr, cache := t.cache, ready := t.ready, c0q := t.c0q, delay := t.delay, gens := t.gens, unitFree := t.unitFree, unitOut := t.unitOut, chains := t.chains, lastIssue := t.lastIssue, sweeps := t.sweeps, bankA := t.bankA, bankB := t.bankB, openShots := t.openShots, heldFlags := t.heldFlags, limitDue := t.limitDue, allocHeld := t.allocHeld, bankTrans := t.bankTrans, bankAt := t.bankAt, borrow := t.borrow, rushAt := t.rushAt, dma := t.dma, cells := t.cells, waiters := [{ cell := 63, core := 1, n := 2, stamp := 4 }, { cell := 63, core := 2, n := 3, stamp := 5 }], lockq := t.lockq, allWait := t.allWait, sdDone := t.sdDone, sdAct := t.sdAct, idleSince := t.idleSince, power := t.power, wakeAsked := t.wakeAsked, ecback := t.ecback, lastPop := t.lastPop, lastWake := t.lastWake }).heir 0 63 { cell := 63, core := 1, n := 2, stamp := 4 }) ∧
    ((zLkReg (0 : Word)).Passes (Req.aklofy 0) RegKind.LKGCFG 0 0 (wd 64) ∧ wbits (wd 64) 35 1 = (zLkReg (0 : Word)).fget F.LKGCFG_MODE 0 0) ∧
    ((zLkReg (0 : Word)).Passes (Req.aklofy 0) RegKind.LKGCFG 0 0 (wd (2 ^ 35 + 64)) ∧ wbits (wd (2 ^ 35 + 64)) 35 1 ≠ (zLkReg (0 : Word)).fget F.LKGCFG_MODE 0 0 ∧ ((zLkReg (0 : Word)).tile 0).waiters = [] ∧ ((zLkReg (0 : Word)).casMode 0 = true ∨ ∀ k ∈ ((zLkReg (0 : Word)).tile 0).cells, k.2.val = (0 : Word))) :=
  ⟨⟨⟨by decide, by decide, by decide, by decide, by decide, by decide⟩, by decide, by decide, by decide, by decide, by unfold State.heir; decide⟩,
   ⟨⟨by decide, by decide, by decide, by decide, by decide, by decide⟩, by decide⟩,
   ⟨⟨by decide, by decide, by decide, by decide, by decide, by decide⟩, by decide, by decide, by decide⟩⟩

theorem witness_RepairBlocksCountAndClose :
    (let u := zAcc.advance 0; let x := u.thr 0 0; Takes u 0 0 (ins zAcc) ∧ (ins zAcc).op = 0xD2 ∧ u.faccFault 0 (iAM (ins zAcc).w % 4) ((ins zAcc).a x) ((ins zAcc).b x) = none ∧
      (∀ d, ((x.setW (iRD (ins zAcc).w) d).stepPc (ins zAcc).pc ((ins zAcc).pc + (ins zAcc).len)).pc ≤ 16383) ∧ iAM (ins zAcc).w % 4 = 0) ∧
    (let u := zClose.advance 0; let x := u.thr 0 0; Takes u 0 0 (ins zClose) ∧ (ins zClose).op = 0xD2 ∧ u.faccFault 0 (iAM (ins zClose).w % 4) ((ins zClose).a x) ((ins zClose).b x) = none ∧
      (∀ d, ((x.setW (iRD (ins zClose).w) d).stepPc (ins zClose).pc ((ins zClose).pc + (ins zClose).len)).pc ≤ 16383) ∧ iAM (ins zClose).w % 4 = 1) ∧
    (let u := zQuery.advance 0; let x := u.thr 0 0; Takes u 0 0 (ins zQuery) ∧ (ins zQuery).op = 0xD2 ∧ u.faccFault 0 (iAM (ins zQuery).w % 4) ((ins zQuery).a x) ((ins zQuery).b x) = none ∧
      (∀ d, ((x.setW (iRD (ins zQuery).w) d).stepPc (ins zQuery).pc ((ins zQuery).pc + (ins zQuery).len)).pc ≤ 16383) ∧ iAM (ins zQuery).w % 4 = 2) ∧
    (let u := zDone.advance 0; let x := u.thr 0 0; Takes u 0 0 (ins zDone) ∧ (ins zDone).op = 0xD2 ∧ u.faccFault 0 (iAM (ins zDone).w % 4) ((ins zDone).a x) ((ins zDone).b x) = none ∧
      (∀ d, ((x.setW (iRD (ins zDone).w) d).stepPc (ins zDone).pc ((ins zDone).pc + (ins zDone).len)).pc ≤ 16383) ∧ iAM (ins zDone).w % 4 = 3) ∧
    ((zLkReg 0).Passes (Req.aklofy 0) .RBCFG 0 4095 (wd (2 ^ 20 + 3)) ∧ (zLkReg 0).fget F.RBCFG_EN 0 4095 = 0) ∧
    (zRbOff.Passes (Req.aklofy 0) .RBCFG 0 4095 vOff ∧ zRbOff.fget F.RBCFG_EN 0 4095 = 1 ∧ wbits vOff 0 20 = wbits (zRbOff.reg .RBCFG 0 4095) 0 20 ∧ wbits vOff 20 1 = 0) ∧
    (let u := zLate.advance 0; u.fget F.RBST_STATE 0 4095 = 2 ∧ u.fget F.RBST_DUE 0 4095 ≤ u.count) ∧ (let u := (zLkReg 0).advance 0; ¬(u.fget F.RBST_STATE 0 4095 = 2 ∧ u.fget F.RBST_DUE 0 4095 ≤ u.count)) ∧
    (Fires (fz (task fAcc)) ((fz (task fAcc)).nodeRes 0 1 fAcc).2 0 0 (task fAcc) fAcc ((fz (task fAcc)).nodeRes 0 1 fAcc).1 ∧ nOpc fAcc.word = 0xD2 ∧ fAcc.mod < 4 ∧ 2 ≤ nMode fAcc.word ∧ formDefined 0xD2 (nMode fAcc.word) = true ∧
      (fz (task fAcc)).faccFault 0 fAcc.mod fAcc.a fAcc.b = none) :=
  ⟨⟨⟨by decide, by decide, by decide, by decide, by decide, by decide, by decide⟩, by decide, by decide, fun _ => (by decide : 1 ≤ 16383), by decide⟩,
   ⟨⟨by decide, by decide, by decide, by decide, by decide, by decide, by decide⟩, by decide, by decide, fun _ => (by decide : 1 ≤ 16383), by decide⟩,
   ⟨⟨by decide, by decide, by decide, by decide, by decide, by decide, by decide⟩, by decide, by decide, fun _ => (by decide : 1 ≤ 16383), by decide⟩,
   ⟨⟨by decide, by decide, by decide, by decide, by decide, by decide, by decide⟩, by decide, by decide, fun _ => (by decide : 1 ≤ 16383), by decide⟩,
   ⟨⟨by decide, by decide, by decide, by decide, by decide, by decide⟩, by decide⟩,
   ⟨⟨by decide, by decide, by decide, by decide, by decide, by decide⟩, by decide, by decide, by decide⟩,
   by decide, by decide,
   ⟨⟨by decide, by decide, by decide, by decide, by decide, by decide, by decide, by decide, Prod.mk.eta.symm, by decide, by decide⟩, by decide, by decide, by decide, by decide, by decide⟩⟩

theorem witness_FailLogVerdictsAndCustomOpcodesOfThreads :
    (let u := zFlog.advance 0; let x := u.thr 0 0; Takes u 0 0 (ins zFlog) ∧ (ins zFlog).op = 0xD3 ∧ iAM (ins zFlog).w < 4 ∧ iIMM (ins zFlog).w = 0 ∧ wbits ((ins zFlog).b x) 48 16 = 0 ∧ u.Still ∧
      ∀ d, ((x.setW (iRD (ins zFlog).w) d).stepPc (ins zFlog).pc ((ins zFlog).pc + (ins zFlog).len)).pc ≤ 16383) ∧
    (let u := zV.advance 0; let x := u.thr 0 0; let l := ((ins zV).b x).toNat; Takes u 0 0 (ins zV) ∧ (ins zV).op = 0xD4 ∧ iRD (ins zV).w = 0 ∧ iAM (ins zV).w = 0 ∧ iIMM (ins zV).w = 0 ∧ wbits ((ins zV).a x) 0 2 ≠ 0 ∧ wbits ((ins zV).a x) 24 40 = 0 ∧ l < 32 ∧ u.fget F.CLSTAT_STATE 0 l = 3 ∧ (u.link (clKey l)).verd.length < 16 ∧ (x.stepPc (ins zV).pc ((ins zV).pc + (ins zV).len)).pc ≤ 16383) ∧
    (let u := zVfull.advance 0; let x := u.thr 0 0; let l := ((ins zVfull).b x).toNat; Takes u 0 0 (ins zVfull) ∧ (ins zVfull).op = 0xD4 ∧ iRD (ins zVfull).w = 0 ∧ iAM (ins zVfull).w = 0 ∧ iIMM (ins zVfull).w = 0 ∧ wbits ((ins zVfull).a x) 0 2 ≠ 0 ∧ wbits ((ins zVfull).a x) 24 40 = 0 ∧ l < 32 ∧ u.fget F.CLSTAT_STATE 0 l = 3 ∧ 16 ≤ (u.link (clKey l)).verd.length) ∧
    (let u := zVdown.advance 0; let x := u.thr 0 0; let l := ((ins zVdown).b x).toNat; Takes u 0 0 (ins zVdown) ∧ (ins zVdown).op = 0xD4 ∧ iRD (ins zVdown).w = 0 ∧ iAM (ins zVdown).w = 0 ∧ iIMM (ins zVdown).w = 0 ∧ wbits ((ins zVdown).a x) 0 2 ≠ 0 ∧ wbits ((ins zVdown).a x) 24 40 = 0 ∧ l < 32 ∧ u.fget F.CLSTAT_STATE 0 l ≠ 3 ∧ u.Still ∧ u.QuietQ 0 255) ∧
    (let u := zX.advance 0; let x := u.thr 0 0; let r := dtRun u.dtActive ((ins zX).op - 0xE0) ((ins zX).a x) ((ins zX).b x) ((ins zX).c x); Takes u 0 0 (ins zX) ∧ 0xE0 ≤ (ins zX).op ∧
      ((x.setW (iRD (ins zX).w) r.1).stepPc (ins zX).pc ((ins zX).pc + (ins zX).len)).pc ≤ 16383) ∧
    (let u := zVtry.advance 0; let x := u.thr 0 0; let o := x.heldIns; let l := (o.b x).toNat; u.retryDue 0 0 RetryKind.verdict ∧ o.op = 0xD4 ∧ iRD o.w = 0 ∧ iAM o.w = 0 ∧ iIMM o.w = 0 ∧ wbits (o.a x) 0 2 ≠ 0 ∧ wbits (o.a x) 24 40 = 0 ∧ l < 32 ∧ u.fget F.CLSTAT_STATE 0 l = 3 ∧ (u.link (clKey l)).verd.length < 16 ∧ (x.stepPc x.pc (x.pc + 1)).pc ≤ 16383) ∧
    (let u := zVtryFull.advance 0; let x := u.thr 0 0; let o := x.heldIns; let l := (o.b x).toNat; u.retryDue 0 0 RetryKind.verdict ∧ o.op = 0xD4 ∧ iRD o.w = 0 ∧ iAM o.w = 0 ∧ iIMM o.w = 0 ∧ wbits (o.a x) 0 2 ≠ 0 ∧ wbits (o.a x) 24 40 = 0 ∧ l < 32 ∧ u.fget F.CLSTAT_STATE 0 l = 3 ∧ 16 ≤ (u.link (clKey l)).verd.length) :=
  ⟨⟨⟨by decide, by decide, by decide, by decide, by decide, by decide, by decide⟩, by decide, by decide, by decide, by decide, still_of _ (by decide) rfl (by decide), fun _ => (by decide : 1 ≤ 16383)⟩,
   ⟨⟨by decide, by decide, by decide, by decide, by decide, by decide, by decide⟩, by decide, by decide, by decide, by decide, by decide, by decide, by decide, by decide, by decide, by decide⟩,
   ⟨⟨by decide, by decide, by decide, by decide, by decide, by decide, by decide⟩, by decide, by decide, by decide, by decide, by decide, by decide, by decide, by decide, by decide⟩,
   ⟨⟨by decide, by decide, by decide, by decide, by decide, by decide, by decide⟩, by decide, by decide, by decide, by decide, by decide, by decide, by decide, by decide, still_of _ (by decide) rfl (by decide), ⟨by decide, by decide⟩⟩,
   ⟨⟨by decide, by decide, by decide, by decide, by decide, by decide, by decide⟩, by decide, by decide⟩,
   ⟨by unfold State.retryDue; decide, by decide, by decide, by decide, by decide, by decide, by decide, by decide, by decide, by decide, by decide⟩,
   ⟨by unfold State.retryDue; decide, by decide, by decide, by decide, by decide, by decide, by decide, by decide, by decide, by decide⟩⟩

end W5
end Sys2Proof.Tests
end

