-- ==== Sys2Proof/Tests/W06.lean ====
section
/-! SUPPORT. States that meet the hypotheses of: FiringsEmitTheirTokens, FiringsWithoutTokensToNodesComplete. -/
set_option Elab.async false
open Sys2Proof Sys2Proof.Machine
namespace Sys2Proof.Tests
namespace W6
def tk (v : Word) : Token := ⟨mkTag 1 0 9 0 0 0 0, mkDst 0xFFFF 5 6 0, v, 9⟩
def nw (op match_ mod dst : Nat) : Word := wd (op * 2 ^ 56 + 2 * 2 ^ 54 + match_ * 2 ^ 6 + mod + dst)
def toT0 (tile idx p : Nat) : Nat := tile * 2 ^ 48 + idx * 2 ^ 34 + p * 2 ^ 32
def toT1 (tile idx p : Nat) : Nat := tile * 2 ^ 26 + idx * 2 ^ 12 + p * 2 ^ 10
def fr (w : Word) : Firing := ⟨1, 9, 0, w, 5, some (tk 7), some (tk 8), none⟩
def fr1 (w : Word) : Firing := ⟨1, 9, 0, w, 5, none, none, some (tk 7)⟩
def task (cls : Nat) (f : Firing) : Task := ⟨.fire f, cls, 3, 0, 77, false, none⟩
def fz (k : Task) : State := tile0 (strand 0 { wth [] with st := .free }) fun t => if k.cls = 0 then { t with c0q := [k] } else { t with ready := [k] }
def fAdd : Firing := fr (nw 0 0 0 (toT0 0 16383 1 + toT1 63 5 0))
def zFAdd := fz (task 1 fAdd)
def fChain : Firing := fr1 (nw 0xB2 1 0 (toT0 0 6 0 + toT1 0 5 0))
def zChain := fz (task 0 fChain)
def fSink : Firing := fr1 (nw 0xBD 1 0 0)
def fOver : Firing := fr1 (nw 0xBB 1 1 0)
def fQ : Firing := fr1 (nw 0xB5 1 0 (toT0 0 255 0 + toT1 0 255 0))
def fVrdt : Firing := { fr (nw 0xD4 0 0 0) with p0 := some (tk 1), p1 := some (tk 31) }
def ordTk : Token := ⟨mkTag 1 0 9 0 0 0 1, mkDst 0xFFFF 4095 6 0, 3, 9⟩
def fLn : Firing := { fr1 (nw 0xB4 1 0 (toT0 0 4095 0 + toT1 0 5 0)) with p2 := some ordTk }
def fLnA : Firing := fr1 (nw 0xB4 1 1 (toT0 0 4095 0 + toT1 0 5 0))
def zLnA : State := { (fz (task 1 fLnA)).fset F.LANECFG_SRCK 0 4095 1 with lanes := [(4095, { Lane.rst with st := .active, credit := 1, next := 2 ^ 24 - 1 })] }
def fTmr : Firing := fr1 (nw 0xBB 1 0 0)
def fLd : Firing := { fr (nw 0x46 0 0 0) with p0 := some (tk (wd 0xFF00000000)) }

theorem witness_FiringsEmitTheirTokens :
    (let u := zFAdd.advance 0; let toks := List.map (fun p => (p, fAdd.out (task 1 fAdd).cls fAdd.inherit (15 : Word) (9 : Word) p)) [(0, 16383, 1), (63, 5, 0)]; Fires u (zFAdd.advance 0) 0 3 (task 1 fAdd) fAdd (NRes.toks (15 : Word) (9 : Word) [(0, 16383, 1), (63, 5, 0)]) ∧ RowOf (fun dt d n => Instr.add dt (Site.fire d n)) fAdd.word ∧ (¬fAdd.chains u 0 (task 1 fAdd).cls) ∧ (zFAdd.advance 0).mayLeave 0 (task 1 fAdd).cls toks) ∧
    (let u := zChain.advance 0; let toks := List.map (fun p => (p, fChain.out (task 0 fChain).cls fChain.inherit (7 : Word) (9 : Word) p)) [(0, 6, 0), (0, 5, 0)]; Fires u (zChain.advance 0) 0 0 (task 0 fChain) fChain (NRes.toks (7 : Word) (9 : Word) [(0, 6, 0), (0, 5, 0)]) ∧ RowOf (fun dt d n => Instr.fwd dt d n) fChain.word ∧ [(0, 6, 0), (0, 5, 0)] = [(0, 6, 0), (0, 5, 0)] ∧ (0, 6, 0) = dst0 fChain.word ∧ fChain.chains u 0 (task 0 fChain).cls ∧ (zChain.advance 0).mayLeave 0 0 (List.drop 1 toks)) :=
  ⟨⟨⟨by decide, by decide, by decide, by decide, by decide, by decide, by decide, by decide, by decide, by decide, by decide⟩, rowOf _ _ 0x00 (by decide) (by simp [nodeRows, nodeRows0]), by unfold Firing.chains; decide, ⟨by decide, by decide, by decide, by decide⟩⟩,
   ⟨⟨by decide, by decide, by decide, by decide, by decide, by decide, by decide, by decide, by decide, by decide, by decide⟩, rowOf _ _ 0xB2 (by decide) (by simp [nodeRows, nodeRows3]), by decide, by decide, by unfold Firing.chains; decide, ⟨by decide, by decide, by decide, by decide⟩⟩⟩

theorem witness_FiringsWithoutTokensToNodesComplete :
    (let u := (fz (task 1 fSink)).advance 0; Fires u ((fz (task 1 fSink)).advance 0) 0 0 (task 1 fSink) fSink NRes.sink ∧ RowOf (fun dt d n => Instr.sink dt d n) fSink.word ∧ NRes.sink = NRes.sink) ∧
    (let u := (fz (task 1 fOver)).advance 0; Fires u ((fz (task 1 fOver)).advance 0) 0 0 (task 1 fOver) fOver (NRes.fault 2) ∧ RowOf (fun dt d n => Instr.tmr dt (Site.fire d n)) fOver.word ∧ NRes.fault 2 = NRes.fault 2 ∧ ((fz (task 1 fOver)).advance 0).Still ∧ ((fz (task 1 fOver)).advance 0).QuietQ 0 255) ∧
    (let u := (fz (task 1 fQ)).advance 0; let m := fQ.out (task 1 fQ).cls fQ.inherit (7 : Word) (9 : Word) (0, fQ.idx, 2); Fires u ((fz (task 1 fQ)).advance 0) 0 0 (task 1 fQ) fQ (NRes.queue 0 255 (7 : Word) (9 : Word)) ∧ RowOf (fun dt d n => Instr.qpush dt (Site.fire d n)) fQ.word ∧ NRes.queue 0 255 (7 : Word) (9 : Word) = NRes.queue 0 255 (7 : Word) (9 : Word) ∧ ((fz (task 1 fQ)).advance 0).canSend 0 (TokTo.queue 0 255) m) ∧
    (let u := (fz (task 1 fVrdt)).advance 0; let m := fVrdt.out (task 1 fVrdt).cls fVrdt.inherit (verdictVal (1 : Word)) (9 : Word) (0, 0, 0); Fires u ((fz (task 1 fVrdt)).advance 0) 0 0 (task 1 fVrdt) fVrdt (NRes.verdict 31 (verdictVal (1 : Word)) (9 : Word)) ∧ RowOf (fun dt d n => Instr.vrdt dt (Site.fire d n)) fVrdt.word ∧ NRes.verdict 31 (verdictVal (1 : Word)) (9 : Word) = NRes.verdict 31 (verdictVal (1 : Word)) (9 : Word) ∧ ((fz (task 1 fVrdt)).advance 0).canSend 0 (TokTo.link 31) m) ∧
    (let u := (fz (task 1 fLn)).advance 0; let m := fLn.out (task 1 fLn).cls fLn.inherit (3 : Word) (9 : Word) (dst0 fLn.word); Fires u ((fz (task 1 fLn)).advance 0) 0 0 (task 1 fLn) fLn (NRes.lane 4095 false (3 : Word) (9 : Word) [(0, 5, 0)]) ∧ RowOf (fun dt d n => Instr.lnout dt d n) fLn.word ∧ NRes.lane 4095 false (3 : Word) (9 : Word) [(0, 5, 0)] = NRes.lane 4095 false (3 : Word) (9 : Word) [(0, 5, 0)] ∧ (∀ p ∈ [(0, 5, 0)], p.1 = 0) ∧ ((fz (task 1 fLn)).advance 0).canSend 0 (TokTo.lane 4095) m) ∧
    (let u := zLnA.advance 0; let m := fLnA.out (task 1 fLnA).cls (some (4095, ((zLnA.advance 0).lane 4095).next)) (7 : Word) (9 : Word) (dst0 fLnA.word); Fires u (zLnA.advance 0) 0 0 (task 1 fLnA) fLnA (NRes.lane 4095 true (7 : Word) (9 : Word) [(0, 5, 0)]) ∧ RowOf (fun dt d n => Instr.lnout dt d n) fLnA.word ∧ NRes.lane 4095 true (7 : Word) (9 : Word) [(0, 5, 0)] = NRes.lane 4095 true (7 : Word) (9 : Word) [(0, 5, 0)] ∧ (∀ p ∈ [(0, 5, 0)], p.1 = 0) ∧ (zLnA.advance 0).mayAlloc 0 4095 ∧ ((zLnA.advance 0).lane 4095).credit ≠ 0 ∧ (zLnA.advance 0).canSend 0 (TokTo.lane 4095) m) ∧
    (let u := (fz (task 1 fTmr)).advance 0; Fires u ((fz (task 1 fTmr)).advance 0) 0 0 (task 1 fTmr) fTmr (NRes.timer 5) ∧ RowOf (fun dt d n => Instr.tmr dt (Site.fire d n)) fTmr.word ∧ NRes.timer 5 = NRes.timer 5 ∧ ((fz (task 1 fTmr)).advance 0).freeTimer 0 0) ∧
    (let u := (fz (task 1 fLd)).advance 0; Fires u ((fz (task 1 fLd)).advance 0) 0 0 (task 1 fLd) fLd (NRes.mem MemOp.read 1095216660488 8 0) ∧ RowOf (fun dt d n => Instr.ldd dt (Site.fire d n)) fLd.word ∧ NRes.mem MemOp.read 1095216660488 8 0 = NRes.mem MemOp.read 1095216660488 8 0 ∧ ((fz (task 1 fLd)).advance 0).accessFault (Req.firing 0 0) 1095216660488 8 (decide (MemOp.read ≠ MemOp.read)) = none ∧ ((fz (task 1 fLd)).advance 0).near (some 0) 1095216660488 = true) :=
  ⟨⟨⟨by decide, by decide, by decide, by decide, by decide, by decide, by decide, by decide, by decide, by decide, by decide⟩, rowOf _ _ 0xBD (by decide) (by simp [nodeRows, nodeRows3]), by decide⟩,
   ⟨⟨by decide, by decide, by decide, by decide, by decide, by decide, by decide, by decide, by decide, by decide, by decide⟩, rowOf _ _ 0xBB (by decide) (by simp [nodeRows, nodeRows3]), by decide, still_of _ (by decide) rfl (by decide), ⟨by decide, by decide⟩⟩,
   ⟨⟨by decide, by decide, by decide, by decide, by decide, by decide, by decide, by decide, by decide, by decide, by decide⟩, rowOf _ _ 0xB5 (by decide) (by simp [nodeRows, nodeRows3]), by decide, canSend_of _ _ _ _ (by decide) (by decide)⟩,
   ⟨⟨by decide, by decide, by decide, by decide, by decide, by decide, by decide, by decide, by decide, by decide, by decide⟩, rowOf _ _ 0xD4 (by decide) (by simp [nodeRows, nodeRows3]), by decide, canSend_of _ _ _ _ (by decide) (by decide)⟩,
   ⟨⟨by decide, by decide, by decide, by decide, by decide, by decide, by decide, by decide, by decide, by decide, by decide⟩, rowOf _ _ 0xB4 (by decide) (by simp [nodeRows, nodeRows3]), by decide, by decide, canSend_of _ _ _ _ (by decide) (by decide)⟩,
   ⟨⟨by decide, by decide, by decide, by decide, by decide, by decide, by decide, by decide, by decide, by decide, by decide⟩, rowOf _ _ 0xB4 (by decide) (by simp [nodeRows, nodeRows3]), by decide, by decide, by unfold State.mayAlloc; decide, by decide, canSend_of _ _ _ _ (by decide) (by decide)⟩,
   ⟨⟨by decide, by decide, by decide, by decide, by decide, by decide, by decide, by decide, by decide, by decide, by decide⟩, rowOf _ _ 0xBB (by decide) (by simp [nodeRows, nodeRows3]), by decide, by unfold State.freeTimer; decide⟩,
   ⟨⟨by decide, by decide, by decide, by decide, by decide, by decide, by decide, by decide, by decide, by decide, by decide⟩, rowOf _ _ 0x46 (by decide) (by simp [nodeRows, nodeRows2]), by decide, by decide, by decide⟩⟩

end W6
end Sys2Proof.Tests
end

