-- ==== Sys2Proof/Tests/W07.lean ====
section
/-! SUPPORT. States that meet the hypotheses of: MemoryServesItsRequestsAndLoadsLand, TasksOfThreadsDispatch. -/
set_option Elab.async false
open Sys2Proof Sys2Proof.Machine
namespace Sys2Proof.Tests
namespace W7
def hasTask (k : Task) (x : Thread) : State := withQ (tile0 (strand 0 x) fun t => { t with ready := [k] }) 255 3
def wakeK : Task := ⟨.wake 0, 0, 0, 0, 9, false, none⟩
def waits (r : WakeRes) : Thread := { wth [] with st := .wait, wait := .wfe, wres := some r, iw := mkw 0xC5 0 0 }
def zWake := hasTask wakeK (waits (.status 5))
def zFail := hasTask wakeK (waits (.fails 0x0F))
def evK : Task := ⟨.event 15 (handleOf 1023 63), 0, 0, 0, 9, false, some (handleOf 1023 63)⟩
def zEvent := { hasTask evK (wth []) with threads := [(15, { wth [] with st := .wait, wait := .wfe })] }
def tk7 (v : Word) : Token := ⟨mkTag 1 0 9 0 0 0 0, mkDst 0xFFFF 5 6 0, v, 9⟩
def spF : Firing := ⟨1, 9, 0, wd (0xBA * 2 ^ 56 + 2 * 2 ^ 54 + 16383 * 2 ^ 34 + 16383 * 2 ^ 12 + 2 ^ 6), 5, none, none, some (tk7 7)⟩
def spK : Task := ⟨.spawn spF, 1, 3, 0, 9, false, none⟩
def zSpawn := hasTask spK { wth [] with st := .free }
def tmF : Firing := ⟨1, 9, 0, wd (0xBB * 2 ^ 56 + 2 * 2 ^ 54 + 6 * 2 ^ 34 + 2 ^ 6 + 3 * 2 ^ 26 + 5 * 2 ^ 12), 5, none, none, some (tk7 7)⟩
def tmK : Task := ⟨.timed tmF, 1, 3, 0, 9, false, none⟩
def zTimed := hasTask tmK { wth [] with st := .free }
def rq (core a : Nat) (op : MemOp) (data : Nat) : MemReq := ⟨7, .thread core 0, op, a, 8, 0, data, false, 1, 3, 0⟩
def ld0 : Load := { id := 7, pc := 0, dests := [.w 1], size := 8, ext := .zero, parts := 1, acc := 0, vals := [], code := 0, arrived := false, passed := 0, issued := 0, snap := (wth []).snap }
def withReq (m : MemReq) : State := { strand 0 { wth [] with loads := [ld0], pc := 1, outst := 1 } with bankReqs := [m], mem := [(spadAddr 0 0xF8, 9)] }
def mBank := rq 0 (spadAddr 0 0xF8) .add 5
def zBank := withReq mBank
def mFar := rq 1 (spadAddr 0 0xF8) .write 5
def zFar := withReq mFar
def zRet := (withReq mBank).setReg .BANKPWR 0 0 (wd (2 ^ 62))
def mDr := rq 0 0x100 .read 0
def zDr := { strand 0 { wth [] with loads := [ld0], pc := 1 } with drq := [mDr], mem := [(0x107, 9)] }
def zEcc := { (tile0 (strand 0 (wth [])) fun t => { t with ecback := [spadAddr 0 0 / 8, spadAddr 0 0xF8 / 8] }) with ecc := { unc := [], cor := [spadAddr 0 0xF8 / 8], poison := [] } }
def zMbx := { strand 0 { wth [] with loads := [ld0], outst := 1 } with mbx := [(511, 5)] }
def hR : HostAcc := ⟨511, none⟩
def hW : HostAcc := ⟨511, some 6⟩
def mR := rq 0 4088 .read 0
def mW := rq 0 4088 .write 8
def zMbxR := { zMbx with mbxq := [mR] }
def zMbxW := { zMbx with mbxq := [mW] }
def landed (code passed : Nat) : Load := { ld0 with parts := 0, acc := 5, code := code, passed := passed }
def zLand (code passed : Nat) : State := withQ (strand 0 { wth [(1, 9)] with loads := [landed code passed], pc := 1 }) 255 3

theorem witness_TasksOfThreadsDispatch :
    (let u := zWake.advance 0; let x := u.thr 0 0; let o := x.heldIns; let y := { x with st := TState.ready, wait := WaitFor.none, wres := none }; u.TakesWake 0 wakeK ∧ 0 < 16 ∧ wakeK.kind = TaskK.wake 0 ∧ x.st = TState.wait ∧ x.loads = [] ∧ o.op ≠ 103 ∧ x.wres = some (WakeRes.status (5 : Word)) ∧ ((y.setW (iRD x.iw) (5 : Word)).stepPc x.pc (x.pc + 1)).pc ≤ 16383) ∧
    (let u := zFail.advance 0; let x := u.thr 0 0; let o := x.heldIns; u.TakesWake 0 wakeK ∧ 0 < 16 ∧ wakeK.kind = TaskK.wake 0 ∧ x.st = TState.wait ∧ x.loads = [] ∧ o.op ≠ 103 ∧ x.wres = some (WakeRes.fails 15) ∧ 15 < 256 ∧ x.pc ≤ 16383 ∧ (0 < 64 → u.Still ∧ u.QuietQ 0 255)) ∧
    (let u := zEvent.advance 0; u.TakesWake 0 evK ∧ 15 < 16 ∧ evK.kind = TaskK.event 15 (handleOf 1023 63)) ∧
    (let u := zSpawn.advance 0; u.TakesWake 0 spK ∧ 0 < 16 ∧ spK.kind = TaskK.spawn spF ∧ spawnOk 0 spF = true ∧ spF.p2 = some (tk7 (7 : Word)) ∧ (u.thr 0 0).st = TState.free ∧ (∀ j < 0, (u.thr 0 j).st ≠ TState.free)) ∧
    (let u := zTimed.advance 0; let toks := List.map (fun p => (p, tmF.out tmK.cls tmF.inherit tmF.a tmF.c p)) (dsts tmF.word); 3 < 4 ∧ 0 < 64 ∧ tmK.kind = TaskK.timed tmF ∧ tmK.cls < 4 ∧ u.active 0 = true ∧ (u.tile 0).unitOut = [] ∧ (u.tile 0).allocHeld = ((u.tile 0).c0q ++ (u.tile 0).ready).any u.creditHeld ∧ (u.taskOrder 0).head? = some tmK ∧ u.unitOpen 0 3 1 = true ∧ nMatch tmF.word ≠ 5 ∧ nMatch tmF.word ≠ 6 ∧ u.mayLeave 0 tmK.cls toks) :=
  ⟨⟨⟨by decide, by decide, by decide⟩, by decide, by decide, by decide, by decide, by decide, by decide, by decide⟩,
   ⟨⟨by decide, by decide, by decide⟩, by decide, by decide, by decide, by decide, by decide, by decide, by decide, by decide, fun _ => ⟨still_of _ (by decide) rfl (by decide), ⟨by decide, by decide⟩⟩⟩,
   ⟨⟨by decide, by decide, by decide⟩, by decide, by decide⟩,
   ⟨⟨by decide, by decide, by decide⟩, by decide, by decide, by decide, by decide, by decide, by decide⟩,
   ⟨by decide, by decide, by decide, by decide, by decide, by decide, by decide, by decide, by decide, by decide, by decide, ⟨by decide, by decide, by decide, by decide⟩⟩⟩

theorem witness_MemoryServesItsRequestsAndLoadsLand_1 :
    (let u := zBank.advance 0; mBank ∈ u.bankWaiting 0 31 ∧ (∀ k ∈ u.bankWaiting 0 31, k.stamp < 2 ^ 64 ∧ (k ≠ mBank → mBank.rank < k.rank ∨ mBank.rank = k.rank ∧ mBank.stamp < k.stamp)) ∧ mBank.who = Req.thread 0 0 ∧ u.tileOn 0 = true ∧ tfind? (u.tile 0).bankAt 31 ≠ some u.now ∧ u.bankBusy 0 31 = false ∧ u.clean mBank.addr mBank.size ∧ u.Still ∧ 0 < mBank.size ∧ mBank.size ≤ 8 ∧ u.bankMode 0 31 = 0 ∧ 0 = 0) ∧
    (let u := zFar.advance 0; let old := u.load mFar.addr mFar.size; let p := mkPacket 1 (mFar.cls + 1) (u.routerOf 1) false (u.routerOf 0) false (if mFar.op = MemOp.write then 1 else 2) (Payload.comp mFar.id mFar.who mFar.off (if mFar.op = MemOp.write then 0 else old) 0 (decide (mFar.op ≠ MemOp.read))); mFar ∈ u.bankWaiting 0 31 ∧ (∀ k ∈ u.bankWaiting 0 31, k.stamp < 2 ^ 64 ∧ (k ≠ mFar → mFar.rank < k.rank ∨ mFar.rank = k.rank ∧ mFar.stamp < k.stamp)) ∧ mFar.who = Req.thread 1 0 ∧ u.tileOn 0 = true ∧ tfind? (u.tile 0).bankAt 31 ≠ some u.now ∧ u.bankBusy 0 31 = false ∧ u.clean mFar.addr mFar.size ∧ u.Still ∧ 0 < mFar.size ∧ mFar.size ≤ 8 ∧ u.bankMode 0 31 = 0 ∧ 1 ≠ 0 ∧ u.freeWay (u.routerOf 0) false p) ∧
    (let u := zRet.advance 0; mBank ∈ u.bankWaiting 0 31 ∧ (∀ k ∈ u.bankWaiting 0 31, k.stamp < 2 ^ 64 ∧ (k ≠ mBank → mBank.rank < k.rank ∨ mBank.rank = k.rank ∧ mBank.stamp < k.stamp)) ∧ mBank.who = Req.thread 0 0 ∧ u.tileOn 0 = true ∧ tfind? (u.tile 0).bankAt 31 ≠ some u.now ∧ u.bankBusy 0 31 = false ∧ u.clean mBank.addr mBank.size ∧ u.Still ∧ 0 < mBank.size ∧ mBank.size ≤ 8 ∧ u.bankMode 0 31 = 1) ∧
    (let u := zDr.advance 0; u.drq[0]? = some mDr ∧ mDr.who = Req.thread 0 0 ∧ u.reqReady mDr = true ∧ u.segBusy mDr.addr = false ∧ laterOf u.drq (fun x => true) mDr = false ∧ u.clean mDr.addr mDr.size ∧ u.Still ∧ 0 < mDr.size ∧ mDr.size ≤ 8) ∧
    (let u := zEcc.advance 0; u.bankWaiting 0 31 = [] ∧ u.bankMode 0 31 = 0 ∧ (u.tile 0).ecback = [spadAddr 0 0 / 8] ++ [spadAddr 0 248 / 8] ∧ bankOf (8 * (spadAddr 0 248 / 8) % 16777216) = 31 ∧ (∀ e ∈ [spadAddr 0 0 / 8], bankOf (8 * e % 16777216) ≠ 31)) ∧
    (hR.data = none) ∧
    (hW.data = some (6 : Word)) ∧
    (let u := zMbxR.advance 0; u.mbxq = [] ++ [mR] ∧ (∀ e ∈ [], u.reqReady e = false) ∧ u.reqReady mR = true ∧ mR.who = Req.thread 0 0 ∧ mR.addr % 8 = 0 ∧ mR.size = 8 ∧ mR.addr / 8 = ↑hR.word ∧ mR.op = MemOp.read ∧ hR.data = none) :=
  ⟨⟨by decide, by decide, by decide, by decide, by decide, by decide, by unfold State.clean; decide, still_of _ (by decide) rfl (by decide), by decide, by decide, by decide, by decide⟩,
   ⟨by decide, by decide, by decide, by decide, by decide, by decide, by unfold State.clean; decide, still_of _ (by decide) rfl (by decide), by decide, by decide, by decide, by decide, by unfold State.freeWay; decide⟩,
   ⟨by decide, by decide, by decide, by decide, by decide, by decide, by unfold State.clean; decide, still_of _ (by decide) rfl (by decide), by decide, by decide, by decide⟩,
   ⟨by decide, by decide, by decide, by decide, by decide, by unfold State.clean; decide, still_of _ (by decide) rfl (by decide), by decide, by decide⟩,
   ⟨by decide, by decide, by decide, by decide, by decide⟩,
   (by decide),
   (by decide),
   ⟨by decide, by decide, by decide, by decide, by decide, by decide, by decide, by decide, by decide⟩⟩

theorem witness_MemoryServesItsRequestsAndLoadsLand_2 :
    (let u := zMbxW.advance 0; u.mbxq = [] ++ [mW] ∧ (∀ e ∈ [], u.reqReady e = false) ∧ u.reqReady mW = true ∧ mW.who = Req.thread 0 0 ∧ mW.addr % 8 = 0 ∧ mW.size = 8 ∧ mW.addr / 8 = ↑hW.word ∧ mW.op = MemOp.write ∧ hW.data = some (6 : Word)) ∧
    (let u := (zLand 0 1).advance 0; let x := u.thr 0 0; x.loads = [landed 0 1] ∧ (landed 0 1).arrived = false ∧ (landed 0 1).parts = 0 ∧ (landed 0 1).dests = [Dest.w 1] ∧ (landed 0 1).vals = [] ∧ (landed 0 1).code = 0 ∧ (landed 0 1).passed < 2 ∧ x.pc ≤ 16383) ∧
    (let u := (zLand 0 2).advance 0; let x := u.thr 0 0; x.loads = [landed 0 2] ∧ (landed 0 2).arrived = false ∧ (landed 0 2).parts = 0 ∧ (landed 0 2).dests = [Dest.w 1] ∧ (landed 0 2).vals = [] ∧ (landed 0 2).code = 0 ∧ 2 ≤ (landed 0 2).passed ∧ x.pc ≤ 16383) ∧
    (let u := (zLand 16 2).advance 0; let x := u.thr 0 0; x.loads = [landed 16 2] ∧ (landed 16 2).arrived = false ∧ (landed 16 2).parts = 0 ∧ (landed 16 2).dests = [Dest.w 1] ∧ (landed 16 2).vals = [] ∧ (landed 16 2).code ≠ 0 ∧ (landed 16 2).code < 256 ∧ (landed 16 2).pc ≤ 16383 ∧ (∀ m ∈ u.bankReqs ++ u.drq, m.afterLoad 0 0 (landed 16 2).id = false) ∧ (0 < 64 → u.Still ∧ u.QuietQ 0 255)) :=
  ⟨⟨by decide, by decide, by decide, by decide, by decide, by decide, by decide, by decide, by decide⟩,
   ⟨by decide, by decide, by decide, by decide, by decide, by decide, by decide, by decide⟩,
   ⟨by decide, by decide, by decide, by decide, by decide, by decide, by decide, by decide⟩,
   ⟨by decide, by decide, by decide, by decide, by decide, by decide, by decide, by decide, by decide, fun _ => ⟨still_of _ (by decide) rfl (by decide), ⟨by decide, by decide⟩⟩⟩⟩

end W7
end Sys2Proof.Tests
end

