-- ==== Sys2Proof/Tests/W08.lean ====
section
/-! SUPPORT. States that meet the hypotheses of: ChainedLookupsReachTheirNode, ContextsCloseTileByTile, TokensMeetTheStore. -/
set_option Elab.async false
open Sys2Proof Sys2Proof.Machine
namespace Sys2Proof.Tests
namespace W8
def ctx1 : Ctx := { Ctx.rst with st := 1, cls := 1, pri := 2, tileset := 2 ^ 63 + 1 }
def cent : CEnt := ⟨1, false, false, 0, false, 0, false⟩
def nodeAt (w : Word) (s : State) : State := { s with graph := [(9, w)], ctxs := [(1, ctx1)] }
def mono : Word := wd (0xB2 * 2 ^ 56 + 2 * 2 ^ 54 + 2 ^ 6)
def dyad : Word := wd (2 * 2 ^ 54)
def tkn (port flags : Nat) : Token := ⟨mkTag 1 0 9 0 port 1 flags, mkDst 0xFFFF 5 6 0, 7, 9⟩
def stg (k : Token) : Staged := ⟨k, false, .none⟩
def meet (w : Word) (k : Token) : State := nodeAt w (tile0 (strand 0 (wth [])) fun t => { t with inM := [(1, [stg k])], cache := [cent] })
def zMono := meet mono (tkn 2 0)
def fullList (s : State) : State := tile0 s fun t => { t with ready := List.replicate 512 ⟨.wake 1, 1, 0, 0, 5, false, none⟩ }
def zMonoFull := fullList zMono
def entP (port way stamp : Nat) (p : Pop) : Entry := ⟨tkn port 0, port, 0, way, stamp, p, false, 1⟩
def zPair := tile0 (meet dyad (tkn 0 0)) (fun t => { t with ents := [entP 1 0 6 .o, entP 1 1 5 .o] }) |>.fset F.POPCNT_OPOP 0 0 2
def inSet (way : Nat) : Entry := ⟨mkTok (wd way) , 0, setIndex 0 1 9 0, way, way, .o, false, 1⟩
where mkTok (v : Word) : Token := ⟨mkTag 1 0 77 0 0 1 0, 0, v, 0⟩
def zEnter := tile0 (meet dyad (tkn 0 0)) fun t => { t with ents := (List.range 7).map inSet }
def bad : Token := { tkn 0 0 with dst := 1 }
def zRsvd := withQ (meet dyad bad) 255 3
def zClosed := tile0 (meet dyad (tkn 0 0)) fun t => { t with cache := [{ cent with closed := true }] }
def zPort := meet dyad (tkn 2 0)
def ent (v : Word) : Entry := ⟨{ tkn 1 0 with val := v }, 1, 511, 0, v.toNat, .c, false, 1⟩
def full31 : List Entry := (List.range 31).map fun k => ent (wd k)
def zDrain := tile0 (strand 0 (wth [])) fun t => { t with wbuf := [ent 99], spill := [(511, [full31, [ent 50]])] }
def zDrainNew := tile0 (strand 0 (wth [])) fun t => { t with wbuf := [ent 99], spill := [(511, [full31])] }
def prb : Probe := ⟨stg (tkn 0 0), [], 511, 1, []⟩
def zProbe := nodeAt dyad (tile0 (strand 0 (wth [])) fun t => { t with probes := [prb], spill := [(511, [[⟨tkn 0 0, 0, 511, 0, 60, .o, false, 1⟩], [ent 50, ent 51]])] }) |>.fset F.POPCNT_CPOP 0 0 3
def zProbeOn := nodeAt dyad (tile0 (strand 0 (wth [])) fun t => { t with probes := [prb], spill := [(511, [[ent 49], [⟨tkn 0 0, 0, 511, 0, 60, .o, false, 1⟩], [ent 50]])] })
def c0tok (port : Nat) : Token := ⟨mkTag 1 0 9 0 port 0 0, mkDst 0xFFFF 5 6 0, 7, 9⟩
def ctx0 : Ctx := { ctx1 with cls := 0 }
def chn (w : Word) (k : Option Token) : State := { tile0 (strand 0 (wth [])) (fun t => { t with chains := [⟨2, 0, none⟩, ⟨3, 0, k⟩], cache := [cent] }) with graph := [(9, w)], ctxs := [(1, ctx0)] }
def zChainNone := chn mono none
def zChainIn := chn dyad (some (c0tok 0))
def zChainSink := chn (wd (0xBD * 2 ^ 56 + 2 * 2 ^ 54 + 2 ^ 6)) (some (c0tok 2))
def nodeF : Firing := ⟨1, 9, 0, mono, 0, none, none, some (tkn 2 0)⟩
def ctl1 (m : Ctl) (s : State) : State := { s with ctl := [.stall 5 5, m] }
def rd (c : Nat) : Task := ⟨.fire { nodeF with ctx := c }, 1, 2, 0, 6 + c, false, none⟩
def busyTile : Tile → Tile := fun t => { t with ready := [rd 1, rd 2], ents := [entP 1 0 6 .c], cache := [cent], spill := [(511, [[ent 50]])] }
def zNotice := ctl1 (.freeNotice 1 5) (nodeAt mono (tile0 (strand 0 (wth [])) busyTile))
def zNotice2 := { zNotice with ctxs := [(1, { ctx1 with st := 2 })] }
def zClose1 := (ctl1 (.close 1 0) (nodeAt mono (tile0 (strand 0 (wth [])) busyTile))).fset F.POPCNT_CPOP 0 0 3
def zSweep := tile0 (strand 0 (wth [])) fun t => { t with sweeps := [⟨2, 0⟩, ⟨1, 0⟩] }
def zAck (acks : Nat) : State := { ctl1 (.closeAck 1 63) (strand 0 (wth [])) with ctxs := [(1, { ctx1 with st := 2, acks := acks })] }

set_option maxRecDepth 100000 in
theorem witness_TokensMeetTheStore_1 :
    (let u := zMono.advance 0; let m := (stg (tkn 2 0)).tok; let x := u.ctx m.ctx; u.NextToken 0 1 (stg (tkn 2 0)) false ∧ (stg (tkn 2 0)).pop = Pop.none ∧ (stg (tkn 2 0)).again = false ∧ u.Meets 0 (stg (tkn 2 0)) MKind.monadic ∧ nodeF = u.firingOf 0 m none none (some m) ∧ u.readyFull 0 x.cls = false) ∧
    (let u := zMonoFull.advance 0; let m := (stg (tkn 2 0)).tok; let x := u.ctx m.ctx; u.NextToken 0 1 (stg (tkn 2 0)) false ∧ (stg (tkn 2 0)).pop = Pop.none ∧ (stg (tkn 2 0)).again = false ∧ u.Meets 0 (stg (tkn 2 0)) MKind.monadic ∧ u.readyFull 0 x.cls = true ∧ (∀ (j : ℕ), 1 < j → j < 4 → (u.tile 0).stageHead j = none)) ∧
    (let u := zPair.advance 0; let m := (stg (tkn 0 0)).tok; let x := u.ctx m.ctx; u.NextToken 0 1 (stg (tkn 0 0)) false ∧ (stg (tkn 0 0)).pop = Pop.none ∧ (stg (tkn 0 0)).again = false ∧ u.Meets 0 (stg (tkn 0 0)) MKind.dyadic ∧ m.sticky = false ∧ u.stickyOf 0 m.ctx m.idx (1 - m.port) = none ∧ u.readyFull 0 x.cls = false ∧ entP 1 1 5 Pop.o ∈ (u.tile 0).ents ++ (u.tile 0).c0 ∧ (entP 1 1 5 Pop.o).waitsFor m (1 - m.port) ∧ (∀ g ∈ (u.tile 0).ents ++ (u.tile 0).c0, g ≠ entP 1 1 5 Pop.o → g.waitsFor m (1 - m.port) → (entP 1 1 5 Pop.o).stamp < g.stamp)) ∧
    (let u := zEnter.advance 0; let m := (stg (tkn 0 0)).tok; let x := u.ctx m.ctx; let set := setIndex (u.fget F.MSCFG_HSEED 0 0) m.ctx m.idx m.iter; let ways := List.map (fun e => e.way) (List.filter (fun e => decide (e.set = set)) (u.tile 0).ents); u.NextToken 0 1 (stg (tkn 0 0)) false ∧ (stg (tkn 0 0)).pop = Pop.none ∧ (stg (tkn 0 0)).again = false ∧ 7 < 8 ∧ u.Meets 0 (stg (tkn 0 0)) MKind.dyadic ∧ m.sticky = false ∧ u.stickyOf 0 m.ctx m.idx (1 - m.port) = none ∧ (∀ g ∈ (u.tile 0).ents ++ (u.tile 0).c0, ¬g.waitsFor m (1 - m.port)) ∧ (∀ g ∈ (u.tile 0).ents ++ (u.tile 0).c0, ¬g.waitsFor m m.port) ∧ (u.tile 0).setSpilled set = 0 ∧ x.cls ≠ 0 ∧ ways.length < 8 ∧ 7 ∉ ways ∧ (∀ j < 7, j ∈ ways) ∧ (u.countOf 0 m.ctx = Pop.o → u.fget F.ADMRES_RES 0 0 + u.fget F.POPCNT_OPOP 0 0 < u.fget F.ADMCAP_CAP 0 0)) ∧
    (let u := zRsvd.advance 0; let m := (stg bad).tok; u.NextToken 0 1 (stg bad) false ∧ (stg bad).pop = Pop.none ∧ (stg bad).again = false ∧ (m.rsvd = true ∧ 2 = 2 ∨ m.rsvd = false ∧ (u.cached 0 m.ctx).isSome = true ∧ (u.ctxOpen 0 m.ctx = false ∧ 2 = 3 ∨ u.ctxOpen 0 m.ctx = true ∧ (∀ (kind : MKind), nodeKind m.idx (u.gword 0 m.idx) = some kind → kind.accepts m.port m.sticky = false) ∧ 2 = 2)) ∧ u.Still ∧ u.QuietQ 0 255) ∧
    (let u := zClosed.advance 0; let m := (stg (tkn 0 0)).tok; u.NextToken 0 1 (stg (tkn 0 0)) false ∧ (stg (tkn 0 0)).pop = Pop.none ∧ (stg (tkn 0 0)).again = false ∧ (m.rsvd = true ∧ 3 = 2 ∨ m.rsvd = false ∧ (u.cached 0 m.ctx).isSome = true ∧ (u.ctxOpen 0 m.ctx = false ∧ 3 = 3 ∨ u.ctxOpen 0 m.ctx = true ∧ (∀ (kind : MKind), nodeKind m.idx (u.gword 0 m.idx) = some kind → kind.accepts m.port m.sticky = false) ∧ 3 = 2)) ∧ u.Still ∧ u.QuietQ 0 255) ∧
    (let u := zPort.advance 0; let m := (stg (tkn 2 0)).tok; u.NextToken 0 1 (stg (tkn 2 0)) false ∧ (stg (tkn 2 0)).pop = Pop.none ∧ (stg (tkn 2 0)).again = false ∧ (m.rsvd = true ∧ 2 = 2 ∨ m.rsvd = false ∧ (u.cached 0 m.ctx).isSome = true ∧ (u.ctxOpen 0 m.ctx = false ∧ 2 = 3 ∨ u.ctxOpen 0 m.ctx = true ∧ (∀ (kind : MKind), nodeKind m.idx (u.gword 0 m.idx) = some kind → kind.accepts m.port m.sticky = false) ∧ 2 = 2)) ∧ u.Still ∧ u.QuietQ 0 255) ∧
    (let u := zDrain.advance 0; let chain := tget (u.tile 0).spill [] (ent (99 : Word)).set; (u.tile 0).wbuf = [ent (99 : Word)] ∧ chain = [full31] ++ [[ent (50 : Word)]] ∧ (∀ l ∈ [full31], 31 ≤ l.length) ∧ [ent (50 : Word)].length < 31) :=
  ⟨⟨⟨by decide, by decide, by decide, by decide⟩, by decide, by decide, ⟨by decide, by decide, by decide, by decide, by decide, by decide⟩, by decide, by decide⟩,
   ⟨⟨by decide +kernel, by decide +kernel, by decide +kernel, by decide +kernel⟩, by decide +kernel, by decide +kernel, ⟨by decide +kernel, by decide +kernel, by decide +kernel, by decide +kernel, by decide +kernel, by decide +kernel⟩, by decide +kernel, fun j h1 h2 => (by decide +kernel +kernel : ∀ i < 4, 1 < i → ((zMonoFull.advance 0).tile 0).stageHead i = none) j h2 h1⟩,
   ⟨⟨by decide, by decide, by decide, by decide⟩, by decide, by decide, ⟨by decide, by decide, by decide, by decide, by decide, by decide⟩, by decide, by decide, by decide, by decide, by unfold Entry.waitsFor; decide, by unfold Entry.waitsFor; decide⟩,
   ⟨⟨by decide, by decide, by decide, by decide⟩, by decide, by decide, by decide, ⟨by decide, by decide, by decide, by decide, by decide, by decide⟩, by decide, by decide, by unfold Entry.waitsFor; decide, by unfold Entry.waitsFor; decide, by decide, by decide, by decide, by decide, by decide, by decide⟩,
   ⟨⟨by decide, by decide, by decide, by decide⟩, by decide, by decide, by decide, still_of _ (by decide) rfl (by decide), ⟨by decide, by decide⟩⟩,
   ⟨⟨by decide, by decide, by decide, by decide⟩, by decide, by decide, by decide, still_of _ (by decide) rfl (by decide), ⟨by decide, by decide⟩⟩,
   ⟨⟨by decide, by decide, by decide, by decide⟩, by decide, by decide, by decide, still_of _ (by decide) rfl (by decide), ⟨by decide, by decide⟩⟩,
   ⟨by decide, by decide, by decide, by decide⟩⟩

theorem witness_TokensMeetTheStore_2 :
    (let u := zDrainNew.advance 0; let chain := tget (u.tile 0).spill [] (ent (99 : Word)).set; (u.tile 0).wbuf = [ent (99 : Word)] ∧ (∀ l ∈ chain, 31 ≤ l.length)) ∧
    (let u := zProbe.advance 0; let m := prb.first.tok; let chain := tget (u.tile 0).spill [] prb.set; let other := 1 - m.port; (u.tile 0).probes[0]? = some prb ∧ prb.found = [] ∧ prb.joined = [] ∧ prb.first.pop = Pop.none ∧ m.port < 2 ∧ nodeKind m.idx (u.gword 0 m.idx) = some MKind.dyadic ∧ u.stickyOf 0 m.ctx m.idx other = none ∧ (∀ g ∈ (u.tile 0).ents ++ (u.tile 0).c0, ¬g.waitsFor m other) ∧ chain[prb.block]? = some [ent (50 : Word), ent (51 : Word)] ∧ [ent (50 : Word), ent (51 : Word)] = [] ++ [ent (50 : Word), ent (51 : Word)] ∧ (ent (50 : Word)).waitsFor m other ∧ (∀ g ∈ ([] : List Entry), ¬g.waitsFor m other) ∧ (ent (50 : Word)).set = prb.set ∧ (∀ g ∈ (u.tile 0).ents ++ (u.tile 0).c0, g.stamp ≠ (ent (50 : Word)).stamp) ∧ u.readyFull 0 (u.ctx m.ctx).cls = false) ∧
    (let u := zProbeOn.advance 0; let m := prb.first.tok; let chain := tget (u.tile 0).spill [] prb.set; let other := 1 - m.port; (u.tile 0).probes[0]? = some prb ∧ prb.found = [] ∧ prb.joined = [] ∧ prb.first.pop = Pop.none ∧ m.port < 2 ∧ nodeKind m.idx (u.gword 0 m.idx) = some MKind.dyadic ∧ u.stickyOf 0 m.ctx m.idx other = none ∧ (∀ g ∈ (u.tile 0).ents ++ (u.tile 0).c0, ¬g.waitsFor m other) ∧ (∀ (b : List Entry), chain[prb.block]? = some b → ∀ g ∈ b, ¬g.waitsFor m other) ∧ prb.block + 1 < chain.length) :=
  ⟨⟨by decide, by decide⟩,
   ⟨by decide, by decide, by decide, by decide, by decide, by decide, by decide, by unfold Entry.waitsFor; decide, by decide, by decide, by unfold Entry.waitsFor; decide, by unfold Entry.waitsFor; decide, by decide, by decide, by decide⟩,
   ⟨by decide, by decide, by decide, by decide, by decide, by decide, by decide, by unfold Entry.waitsFor; decide, by unfold Entry.waitsFor; exact opt_all _ _ (by decide), by decide⟩⟩

theorem witness_ChainedLookupsReachTheirNode :
    (let u := zChainNone.advance 0; u.frozen 0 = false ∧ (u.tile 0).chains = [({ unit := 2, at_ := 0, tok := none } : Chain)] ++ [({ unit := 3, at_ := 0, tok := none } : Chain)] ∧ (∀ e ∈ [({ unit := 2, at_ := 0, tok := none } : Chain)], ¬(e.unit = 3 ∧ e.at_ ≤ u.now)) ∧ ({ unit := 3, at_ := 0, tok := none } : Chain).unit = 3 ∧ ({ unit := 3, at_ := 0, tok := none } : Chain).at_ ≤ u.now ∧ ({ unit := 3, at_ := 0, tok := none } : Chain).tok = none) ∧
    (let u := zChainIn.advance 0; u.frozen 0 = false ∧ (u.tile 0).chains = [({ unit := 2, at_ := 0, tok := none } : Chain)] ++ [({ unit := 3, at_ := 0, tok := some (c0tok 0) } : Chain)] ∧ (∀ e ∈ [({ unit := 2, at_ := 0, tok := none } : Chain)], ¬(e.unit = 3 ∧ e.at_ ≤ u.now)) ∧ ({ unit := 3, at_ := 0, tok := some (c0tok 0) } : Chain).unit = 3 ∧ ({ unit := 3, at_ := 0, tok := some (c0tok 0) } : Chain).at_ ≤ u.now ∧ ({ unit := 3, at_ := 0, tok := some (c0tok 0) } : Chain).tok = some (c0tok 0) ∧ (u.ctx (c0tok 0).ctx).cls = 0 ∧ 0 < 8 ∧ u.Meets 0 { tok := c0tok 0, again := false, pop := Pop.none } MKind.dyadic ∧ (c0tok 0).sticky = false ∧ u.stickyOf 0 (c0tok 0).ctx (c0tok 0).idx (1 - (c0tok 0).port) = none ∧ (∀ g ∈ (u.tile 0).ents ++ (u.tile 0).c0, ¬g.waitsFor (c0tok 0) (1 - (c0tok 0).port) ∧ ¬g.waitsFor (c0tok 0) (c0tok 0).port) ∧ (u.tile 0).c0.length < 8 ∧ (∀ e ∈ (u.tile 0).c0, e.way ≠ 0) ∧ (∀ j < 0, ∃ e ∈ (u.tile 0).c0, e.way = j)) ∧
    (let u := zChainSink.advance 0; let f := u.firingOf 0 (c0tok 2) none none (some (c0tok 2)); u.frozen 0 = false ∧ (u.tile 0).chains = [({ unit := 2, at_ := 0, tok := none } : Chain)] ++ [({ unit := 3, at_ := 0, tok := some (c0tok 2) } : Chain)] ∧ (∀ e ∈ [({ unit := 2, at_ := 0, tok := none } : Chain)], ¬(e.unit = 3 ∧ e.at_ ≤ u.now)) ∧ ({ unit := 3, at_ := 0, tok := some (c0tok 2) } : Chain).unit = 3 ∧ ({ unit := 3, at_ := 0, tok := some (c0tok 2) } : Chain).at_ ≤ u.now ∧ ({ unit := 3, at_ := 0, tok := some (c0tok 2) } : Chain).tok = some (c0tok 2) ∧ (u.ctx (c0tok 2).ctx).cls = 0 ∧ u.Meets 0 { tok := c0tok 2, again := false, pop := Pop.none } MKind.monadic ∧ u.readyFull 0 0 = false ∧ (∀ k ∈ (u.tile 0).ready ++ (u.tile 0).c0q, k.stamp ≠ 0) ∧ nOpc f.word ≠ 186 ∧ u.nodeRes 0 0 f = (NRes.sink, u) ∧ tget (u.tile 0).unitFree 0 3 ≤ u.now ∧ (∀ e ∈ (u.tile 0).unitOut, e.1 ≠ 3) ∧ (∀ e ∈ [({ unit := 2, at_ := 0, tok := none } : Chain)] ++ [], ¬(e.unit = 3 ∧ e.at_ < u.now + u.fireOcc f)) ∧ u.verdict 0 (u.ctx (c0tok 2).ctx).act (u.fireCharge 0 f NRes.sink) = Verdict.ok ∧ nMatch f.word = 1) :=
  ⟨⟨by decide, by decide, by decide, by decide, by decide, by decide⟩,
   ⟨by decide, by decide, by decide, by decide, by decide, by decide, by decide, by decide, ⟨by decide, by decide, by decide, by decide, by decide, by decide⟩, by decide, by decide, by unfold Entry.waitsFor; decide, by decide, by decide, by decide⟩,
   ⟨by decide, by decide, by decide, by decide, by decide, by decide, by decide, ⟨by decide, by decide, by decide, by decide, by decide, by decide⟩, by decide, by decide, by decide, by decide, by decide, by decide, by decide, by decide, by decide⟩⟩

theorem witness_ContextsCloseTileByTile :
    (zNotice.message (Ctl.isFreeOf ↑(1 : CtxId)) (Ctl.freeNotice ↑(1 : CtxId) 5) [Ctl.stall 5 5] ∧ zNotice.active (↑(1 : CtxId) / 1024) = true ∧ zNotice.Still ∧ (zNotice.ctx ↑(1 : CtxId)).st = 1 ∧ (zNotice.ctx ↑(1 : CtxId)).tileset % 2 ^ 64 ≠ 0) ∧
    (zNotice2.message (Ctl.isFreeOf ↑(1 : CtxId)) (Ctl.freeNotice ↑(1 : CtxId) 5) [Ctl.stall 5 5] ∧ zNotice2.active (↑(1 : CtxId) / 1024) = true ∧ zNotice2.Still ∧ (zNotice2.ctx ↑(1 : CtxId)).st = 2) ∧
    (let u := zClose1.advance 0; let x := u.tile 0; u.message (fun m => decide (m = Ctl.close ↑(1 : CtxId) 0)) (Ctl.close ↑(1 : CtxId) 0) [Ctl.stall 5 5] ∧ u.active 0 = true ∧ (u.ctx ↑(1 : CtxId)).victim = 0 ∧ (∀ h ∈ x.thr, h.ctx ≠ ↑(1 : CtxId)) ∧ (∀ p ∈ x.probes, p.first.tok.ctx ≠ ↑(1 : CtxId))) ∧
    (let u := zSweep.advance 0; (u.tile 0).sweeps = [({ ctx := 2, endAt := 0 } : Sweep)] ++ [({ ctx := 1, endAt := 0 } : Sweep)] ∧ (∀ e ∈ [({ ctx := 2, endAt := 0 } : Sweep)], ¬(e.ctx = ↑(1 : CtxId) ∧ e.endAt ≤ u.now)) ∧ ({ ctx := 1, endAt := 0 } : Sweep).ctx = ↑(1 : CtxId) ∧ ({ ctx := 1, endAt := 0 } : Sweep).endAt ≤ u.now) ∧
    (let left := ((zAck (2 ^ 63)).ctx ↑(1 : CtxId)).acks - 2 ^ 63; (zAck (2 ^ 63)).message (fun m => decide (m = Ctl.closeAck ↑(1 : CtxId) 63)) (Ctl.closeAck ↑(1 : CtxId) 63) [Ctl.stall 5 5] ∧ (zAck (2 ^ 63)).active (↑(1 : CtxId) / 1024) = true ∧ (zAck (2 ^ 63)).Still ∧ ((zAck (2 ^ 63)).ctx ↑(1 : CtxId)).acks.testBit 63 = true ∧ ((zAck (2 ^ 63)).ctx ↑(1 : CtxId)).st = 2 ∧ left = 0 ∧ ((zAck (2 ^ 63)).ctx ↑(1 : CtxId)).cert = false) ∧
    (let left := ((zAck (2 ^ 63 + 1)).ctx ↑(1 : CtxId)).acks - 2 ^ 63; (zAck (2 ^ 63 + 1)).message (fun m => decide (m = Ctl.closeAck ↑(1 : CtxId) 63)) (Ctl.closeAck ↑(1 : CtxId) 63) [Ctl.stall 5 5] ∧ (zAck (2 ^ 63 + 1)).active (↑(1 : CtxId) / 1024) = true ∧ (zAck (2 ^ 63 + 1)).Still ∧ ((zAck (2 ^ 63 + 1)).ctx ↑(1 : CtxId)).acks.testBit 63 = true ∧ left ≠ 0) :=
  ⟨⟨message_of _ _ _ _ (by decide), by decide, still_of _ (by decide) rfl (by decide), by decide, by decide⟩,
   ⟨message_of _ _ _ _ (by decide), by decide, still_of _ (by decide) rfl (by decide), by decide⟩,
   ⟨message_of _ _ _ _ (by decide), by decide, by decide, by decide, by decide⟩,
   ⟨by decide, by decide, by decide, by decide⟩,
   ⟨message_of _ _ _ _ (by decide), by decide, still_of _ (by decide) rfl (by decide), by decide, by decide, by decide, by decide⟩,
   ⟨message_of _ _ _ _ (by decide), by decide, still_of _ (by decide) rfl (by decide), by decide, by decide⟩⟩

end W8
end Sys2Proof.Tests
end

