-- ==== Sys2Proof/Tests/W09.lean ====
section
/-! SUPPORT. States that meet the hypotheses of: DeadlocksAreFoundAndActedOn. -/
set_option Elab.async false
open Sys2Proof Sys2Proof.Machine
namespace Sys2Proof.Tests
namespace W9
def ctx2 : Ctx := { Ctx.rst with st := 1, cls := 1, pri := 2, tileset := 2 ^ 63 + 1 }
def zStall := { strand 0 (wth []) with ctl := [.stall 2 63, .stall 65535 63] }
def zStalled := { strand 0 (wth []) with scan := { State.reset.scan with pending := [7, 65535] }, ctxs := [(65535, ctx2)] }
def lkw (k ctx : Nat) : Thread := { wth [] with st := .wait, wait := .lock k, ctx := ctx, since := k }
/-- thread 1 of context 2 waits for the cell of thread 2 of context 3, which waits for the cell of thread 1 -/
def zCycle := { tile0 (strand 0 (wth [])) (fun t => { t with cells := [(1, ⟨wd (ownerId 0 2), false⟩), (2, ⟨wd (ownerId 0 1), false⟩)] }) with
  threads := [(1, lkw 1 2), (2, lkw 2 3)], ctxs := [(2, ctx2), (3, ctx2)], scan := { State.reset.scan with stalled := [2, 3], taken := true } }
def zVict0 := zCycle.fset F.DLKCFG_VICT 0 0 0
def zNoCycle := { zCycle with threads := [(1, lkw 1 2)] }
def zVdrain := { zCycle with threads := [], scan := { zCycle.scan with victim := some 3, members := [2, 3] } }
def zVgone := { zVdrain with ctxs := [(2, ctx2)] }
def allw (s : State) : State := tile0 { s with threads := [(0, { wth [] with st := .wait, wait := .wfe, since := 5 }), (15, { wth [] with st := .wait, wait := .wfe, since := 3 })], now := 8000, stroke := { s.stroke with period := 40 } } fun t => { t with allWait := some 0 }
def zSd := allw (strand 0 (wth []))
def zSdAct (a : Nat) : State := (tile0 zSd fun t => { t with sdAct := some 8000 }).fset F.SDSTAT_ACTN 0 0 a
def zSdWoken := tile0 (zSdAct 1) fun t => { t with ready := [⟨.wake 0, 0, 0, 0, 9, false, none⟩] }

theorem witness_DeadlocksAreFoundAndActedOn_1 :
    (zStall.message (fun m => decide (m = Ctl.stall ↑(65535 : CtxId) 63)) (Ctl.stall ↑(65535 : CtxId) 63) [Ctl.stall 2 63]) ∧
    (↑(65535 : CtxId) ∈ zStalled.scan.pending) ∧
    (let u := zCycle.advance 0; u.scan.taken = true ∧ u.scan.victim = none ∧ u.isVictim 3 ∧ u.fget F.DLKCFG_VICT 0 0 = 1) ∧
    (let u := zVict0.advance 0; u.scan.taken = true ∧ u.scan.victim = none ∧ u.isVictim 3 ∧ u.fget F.DLKCFG_VICT 0 0 ≠ 1 ∧ u.Unwatched) ∧
    (let u := zNoCycle.advance 0; u.scan.taken = true ∧ u.scan.victim = none ∧ (∀ (v : ℕ), ¬u.waitPath v v)) ∧
    (let u := zVgone.advance 0; u.scan.victim = some 3 ∧ (u.ctx 3).st ≠ 1) ∧
    (let u := zVdrain.advance 0; u.scan.victim = some 3 ∧ (u.ctx 3).st = 1 ∧ (∀ p ∈ u.tiles, ∀ e ∈ p.2.cache, e.disp = false ∧ u.count ≤ e.quietFor + u.scan.snap) ∧ (∀ (c n : ℕ), n < 16 → (u.thr c n).st = TState.free ∨ (u.thr c n).ctx ≠ 3) ∧ (u.ctx 3).tileset % 2 ^ 64 ≠ 0 ∧ u.Still ∧ u.Unwatched ∧ u.fget F.DLKCNT_VICTIMS 0 0 + 1 < 2 ^ F.DLKCNT_VICTIMS.len) ∧
    (let u := zSd.advance 0; (u.tile 0).allWait = some 0 ∧ u.fget F.PRGCFG_SDEN 0 0 = 1 ∧ (u.tile 0).sdDone = false ∧ u.allWaitNow 0 = true ∧ 8 * ((0 + 7) / 8 + u.stroke.period) ≤ u.now + 1) :=
  ⟨message_of _ _ _ _ (by decide),
   (by decide),
   ⟨by decide, by decide, victim_of _ _ (.tail (b := 2) (.single (by decide)) (by decide)) (by decide) (by decide) (by decide), by decide⟩,
   ⟨by decide, by decide, victim_of _ _ (.tail (b := 2) (.single (by decide)) (by decide)) (by decide) (by decide) (by decide), by decide, ⟨by decide, by decide⟩⟩,
   ⟨by decide, by decide, noCycle_of _ (by decide)⟩,
   ⟨by decide, by decide⟩,
   ⟨by decide, by decide, by decide, fun c n _ => thr_all (fun x => x.st = .free ∨ x.ctx ≠ 3) _ (by decide) (by decide) c n, by decide, still_of _ (by decide) rfl (by decide), ⟨by decide, by decide⟩, by decide⟩,
   ⟨by decide, by decide, by decide, by decide, by decide⟩⟩

theorem witness_DeadlocksAreFoundAndActedOn_2 :
    (let u := (zSdAct 0).advance 0; (u.tile 0).sdAct = some 8000 ∧ 8000 ≤ u.now ∧ u.fget F.SDSTAT_ACTN 0 0 = 0) ∧
    (let u := zSdWoken.advance 0; let woken := ((u.tile 0).ready ++ (u.tile 0).c0q).any isThreadTask; (u.tile 0).sdAct = some 8000 ∧ 8000 ≤ u.now ∧ u.fget F.SDSTAT_ACTN 0 0 = 1 ∧ woken = true) ∧
    (let u := (zSdAct 1).advance 0; let woken := ((u.tile 0).ready ++ (u.tile 0).c0q).any isThreadTask; (u.tile 0).sdAct = some 8000 ∧ 8000 ≤ u.now ∧ 15 < 16 ∧ u.fget F.SDSTAT_ACTN 0 0 = 1 ∧ woken = false ∧ (u.thr 0 15).st = TState.wait ∧ (u.thr 0 15).wres = none ∧ (∀ k < 16, k ≠ 15 → (u.thr 0 k).st = TState.wait → (u.thr 0 k).wres = none → (u.thr 0 15).since < (u.thr 0 k).since) ∧ (∀ p ∈ u.tiles, (∀ w ∈ p.2.waiters, ¬(w.core = 0 ∧ w.n = 15)) ∧ ∀ r ∈ p.2.lockq, ¬(r.core = 0 ∧ r.n = 15))) :=
  ⟨⟨by decide, by decide, by decide⟩,
   ⟨by decide, by decide, by decide, by decide⟩,
   ⟨by decide, by decide, by decide, by decide, by decide, by decide, by decide, by decide, by decide⟩⟩

end W9
end Sys2Proof.Tests
end

