-- ==== Sys2Proof/Tests/W10.lean ====
section
/-! SUPPORT. States that meet the hypotheses of: LanesAreEnabledAndDrained, OutputsReleaseInSequence, QueuesMoveByDoorbellsPushesAndPops, RegisterWritesAreCheckedInOrder, WindowsHoldOrReportTheirArrivals. -/
set_option Elab.async false
open Sys2Proof Sys2Proof.Machine
namespace Sys2Proof.Tests
namespace W10
def zCore := withQ (strand 0 { wth [] with pc := 7 }) 255 3
def zCore64 := { withQ zCore 7 2 with threads := (1024, rdy) :: zCore.threads }
def zTake := zCore.fset F.PTSTAT_STATE 0 65 1
def zBack := (zCore.fset F.LTMAP_NEXT 0 63 65).fset F.PTSTAT_STATE 0 65 2
def ltm (n : Nat) : Word := wd (wbits (zCore.reg .LTMAP 0 63) 0 8 + n * 2 ^ 8)
def cfgQ (src sq win : Nat) : Word := wd (1 + 3 * 2 + sq * 2 ^ 10 + (win - 1) * 2 ^ 18 + src * 2 ^ 26)
/-- lane 4095, ACTIVE, from a link to queue 7 of tile 0 -/
def lane (x : Lane) (s : State) : State := { (s.setReg .LANECFG 0 4095 (cfgQ 0 7 4)) with lanes := [(4095, x)] }
def xA : Lane := { Lane.rst with st := .active, head := 2 ^ 24 - 1, next := 3, credit := 2 }
def arr (seq : Nat) : Token := ⟨mkTag 1 0 9 0 0 1 1, mkDst 0xFFFF 4095 seq 0, 7, 9⟩
def come (x : Lane) (seq : Nat) : State := { lane x (withQ zCore 7 2) with winq := [(4095, [arr seq])] }
def held2 : Lane := { xA with win := [(2, arr 2)], gap := some 0 }
def zOff := { come Lane.rst 0 with lanes := [] }
def zOld := come xA (2 ^ 23 - 1)
def busyOut (s : State) : State := { s with outlets := [(.queue 0, ⟨99, 0⟩)] }
def zHead := busyOut (come xA (2 ^ 24 - 1))
def xRel : Lane := { xA with win := [(2 ^ 24 - 1, arr (2 ^ 24 - 1)), (1, arr 1)] }
def zRel := lane xRel (withQ zCore 7 2)
def zSkip := lane { xA with skip := some false, win := [(1, arr 1)] } (withQ zCore 7 2)
def zHost := ((((strand 0 (wth [])).setReg .LANECFG 0 4095 (wd (1 + 2 * 2 + 15 * 2 ^ 10))).fset F.RCFG_EN 0 17 1).fset F.RCFG_LOG2N 0 17 4).fset F.RCFG_IEN 0 17 1
def zHostR := { zHost with lanes := [(4095, xRel)] }
def zFlit := lane { xA with rel := 5, relBeat := 0 } { zCore with now := 8 }
def zGap := lane { xA with gap := some 0 } (zCore.fset F.LANEGAP_GAPTO 0 4095 0)
def zGapH := lane { xA with gap := some 0, held := true } (zCore.fset F.LANEGAP_GAPTO 0 4095 0)
def zGapS := busyOut (zGap.fset F.LANEGAP_GAPMODE 0 4095 1)
def zHeld := busyOut (lane { xA with held := true } zCore)
def srcT (s : State) : State := { (s.fset F.LANECFG_SRCK 0 4095 1) with ctl := [.snext 4095 7, .credit 4095 2] }
def zCred := srcT (lane { xA with credit := 0 } zCore)
def zCredW := { srcT (lane { xA with credit := 0 } zCore) with threads := [(0, { wth [] with st := .wait, wait := .credit 4095 })] }
def zCredOff := srcT (lane Lane.rst zCore)
def zDrained := lane { xA with st := .draining, next := 2 ^ 24 - 1 } ((withQ zCore 7 2).fset F.QCFG_LSINK 0 7 1)
def softP (s : State) : State := (s.fset F.QCFG_PMODE 0 7 1).fset F.QCFG_CMODE 0 7 1
def zSoft := softP ((withQ zCore 7 2).fset F.QPTR_TAIL 0 7 1)
def zArr := { withQ (withQ zCore 7 0) 255 3 with pushq := [((0, 7), [(arr 1, 5, false, 9)])] }
def zArrFull := zArr.fset F.QPTR_TAIL 0 7 1
def zArrNone := zArr.fset F.QCFG_EN 0 7 0
def srcQ (credit : Nat) : State := { ((((pushed (withQ zCore 7 2)).fset F.LANECFG_SRCK 0 4095 2).fset F.LANECFG_SRCQ 0 4095 7).fset F.LANECFG_SINK 0 4095 3) with lanes := [(4095, { xA with credit := credit })] }
where pushed (s : State) : State := { s.fset F.QPTR_TAIL 0 7 1 with mem := [(spadAddr 0 0x1000E, 255), (spadAddr 0 0x1000F, 255), (spadAddr 0 0x10010, 42)] }

theorem witness_RegisterWritesAreCheckedInOrder :
    (regExists RegKind.PRGCFG 0 0 ∧ RegKind.PRGCFG ∉ ruledRegs ∧ zCore.Passes (Req.thread 0 0) RegKind.PRGCFG 0 0 (wd 291)) ∧
    (regExists RegKind.PRGCFG 0 0 ∧ zCore.dev ≠ DevState.reset ∧ (hostKind RegKind.PRGCFG = true → zCore.hostp.perst = false) ∧ zCore.firstRefusal (Req.thread 0 0) RegKind.PRGCFG 0 0 (wd 65536) = some (2, 1) ∧ Req.thread 0 0 ≠ Req.host ∧ zCore.canTell (Req.thread 0 0)) ∧
    (regExists RegKind.PRGCFG 63 0 ∧ 0 < 7 ∧ 7 < 8 ∧ Req.debug ≠ Req.host ∧ zCore.canTell Req.debug) ∧
    (let n := wbits (ltm 65) 8 7; let p := zTake.fget F.LTMAP_PHYS 0 63; let m := zTake.fget F.LTMAP_NEXT 0 63; zTake.Passes (Req.aklofy 0) RegKind.LTMAP 0 63 (ltm 65) ∧ n ≠ p ∧ m = p ∧ zTake.fget F.PTSTAT_STATE 0 n = 1) ∧
    (let n := wbits (ltm (zCore.fget F.LTMAP_PHYS 0 63)) 8 7; let p := zBack.fget F.LTMAP_PHYS 0 63; let m := zBack.fget F.LTMAP_NEXT 0 63; zBack.Passes (Req.aklofy 0) RegKind.LTMAP 0 63 (ltm (zCore.fget F.LTMAP_PHYS 0 63)) ∧ n = p ∧ m ≠ p) ∧
    (let n := wbits (ltm 5) 8 7; let p := zTake.fget F.LTMAP_PHYS 0 63; zTake.Passes (Req.aklofy 0) RegKind.LTMAP 0 63 (ltm 5) ∧ n ≠ p ∧ zTake.fget F.PTSTAT_STATE 0 n ≠ 1 ∧ Req.aklofy 0 ≠ Req.host ∧ zTake.canTell (Req.aklofy 0)) ∧
    (zTake.Passes (Req.aklofy 0) RegKind.PTSTAT 0 65 (wd 512) ∧ wbits (wd 512) 9 1 = 1) ∧
    (zTake.Passes (Req.aklofy 0) RegKind.PTSTAT 0 5 (wd 512) ∧ wbits (wd 512) 9 1 = 1) :=
  ⟨⟨by unfold regExists; decide, by decide, ⟨by decide, by decide, by decide, by decide, by decide, by decide⟩⟩,
   ⟨by unfold regExists; decide, by decide, by decide, by decide, by decide, canTell_of _ _ _ (by decide) (by decide) (by decide) (fun _ => ⟨still_of _ (by decide) rfl (by decide), ⟨by decide, by decide⟩⟩)⟩,
   ⟨by unfold regExists; decide, by decide, by decide, by decide, by unfold State.canTell; decide⟩,
   ⟨⟨by decide, by decide, by decide, by decide, by decide, by decide⟩, by decide, by decide, by decide⟩,
   ⟨⟨by decide, by decide, by decide, by decide, by decide, by decide⟩, by decide, by decide⟩,
   ⟨⟨by decide, by decide, by decide, by decide, by decide, by decide⟩, by decide, by decide, by decide, by unfold State.canTell; decide⟩,
   ⟨⟨by decide, by decide, by decide, by decide, by decide, by decide⟩, by decide⟩,
   ⟨⟨by decide, by decide, by decide, by decide, by decide, by decide⟩, by decide⟩⟩

theorem witness_WindowsHoldOrReportTheirArrivals :
    (let u := zOff.advance 0; let x := u.lane 4095; tget u.winq [] 4095 = [arr 0] ∧ x.st = LState.off) ∧
    (let u := (come held2 2).advance 0; let x := u.lane 4095; let d := ((arr 2).seq + 2 ^ 24 - x.head) % 2 ^ 24; tget u.winq [] 4095 = [arr 2] ∧ x.st ≠ LState.off ∧ d < u.laneW 4095 ∧ (∃ p ∈ x.win, p.1 = (arr 2).seq)) ∧
    (let u := zOld.advance 0; let x := u.lane 4095; let d := ((arr (2 ^ 23 - 1)).seq + 2 ^ 24 - x.head) % 2 ^ 24; tget u.winq [] 4095 = [arr (2 ^ 23 - 1)] ∧ x.st ≠ LState.off ∧ 2 ^ 23 ≤ d) ∧
    (let u := (come xA 3).advance 0; let x := u.lane 4095; let d := ((arr 3).seq + 2 ^ 24 - x.head) % 2 ^ 24; tget u.winq [] 4095 = [arr 3] ∧ x.st ≠ LState.off ∧ u.laneW 4095 ≤ d ∧ d < 2 ^ 23) ∧
    (let u := (come xA 2).advance 0; let x := u.lane 4095; let d := ((arr 2).seq + 2 ^ 24 - x.head) % 2 ^ 24; tget u.winq [] 4095 = [arr 2] ∧ x.st ≠ LState.off ∧ 0 < d ∧ d < u.laneW 4095 ∧ (∀ p ∈ x.win, p.1 ≠ (arr 2).seq) ∧ x.head < 2 ^ 24) ∧
    (let u := zHead.advance 0; let x := u.lane 4095; let d := ((arr (2 ^ 24 - 1)).seq + 2 ^ 24 - x.head) % 2 ^ 24; tget u.winq [] 4095 = [arr (2 ^ 24 - 1)] ∧ x.st ≠ LState.off ∧ d = 0 ∧ (∀ p ∈ x.win, p.1 ≠ (arr (2 ^ 24 - 1)).seq) ∧ x.head < 2 ^ 24 ∧ u.now < (tget u.outlets { freeAt := 0, last := 0 } (u.outletOf 4095)).freeAt) :=
  ⟨⟨by decide, by decide⟩,
   ⟨by decide, by decide, by decide, by decide⟩,
   ⟨by decide, by decide, by decide⟩,
   ⟨by decide, by decide, by decide, by decide⟩,
   ⟨by decide, by decide, by decide, by decide, by decide, by decide⟩,
   ⟨by decide, by decide, by decide, by decide, by decide, by decide⟩⟩

theorem witness_OutputsReleaseInSequence_1 :
    (let u := zRel.advance 0; let q := u.fget F.LANECFG_SQ 0 4095; (tget u.outlets { freeAt := 0, last := 0 } (Outlet.queue (0 : TileId))).freeAt ≤ u.now ∧ u.canRelease (Outlet.queue (0 : TileId)) 4095 (arr (2 ^ 24 - 1)) ∧ u.nextLane (Outlet.queue (0 : TileId)) 4095 ∧ Outlet.queue (0 : TileId) = Outlet.queue (0 : TileId) ∧ u.Still ∧ u.QuietQ 0 q ∧ (u.lane 4095).held? (u.lane 4095).head = some (arr (2 ^ 24 - 1))) ∧
    (let u := zSkip.advance 0; let q := u.fget F.LANECFG_SQ 0 4095; (tget u.outlets { freeAt := 0, last := 0 } (Outlet.queue (0 : TileId))).freeAt ≤ u.now ∧ u.canRelease (Outlet.queue (0 : TileId)) 4095 (zSkip.gapMarker 4095 (2 ^ 24 - 1)) ∧ u.nextLane (Outlet.queue (0 : TileId)) 4095 ∧ Outlet.queue (0 : TileId) = Outlet.queue (0 : TileId) ∧ u.Still ∧ u.QuietQ 0 q ∧ (u.lane 4095).held? (u.lane 4095).head = none ∧ (u.lane 4095).skip = some false) ∧
    (let u := zHostR.advance 0; (tget u.outlets { freeAt := 0, last := 0 } Outlet.host).freeAt ≤ u.now ∧ u.canRelease Outlet.host 4095 (arr (2 ^ 24 - 1)) ∧ u.nextLane Outlet.host 4095 ∧ Outlet.host = Outlet.host ∧ (u.lane 4095).held? (u.lane 4095).head = some (arr (2 ^ 24 - 1))) ∧
    (let u := zFlit.advance 0; let x := u.lane 4095; x.rel ≠ 0 ∧ x.relBeat < u.now / 8) ∧
    (let u := zGap.advance 0; let x := u.lane 4095; x.gap = some 0 ∧ 0 + 8 * u.fget F.LANEGAP_GAPTO 0 4095 ≤ u.now ∧ x.skip = none ∧ u.fget F.LANEGAP_GAPMODE 0 4095 ≠ 1 ∧ x.held = false ∧ u.laneCalm 4095) ∧
    (let u := zGapH.advance 0; let x := u.lane 4095; x.gap = some 0 ∧ 0 + 8 * u.fget F.LANEGAP_GAPTO 0 4095 ≤ u.now ∧ x.skip = none ∧ u.fget F.LANEGAP_GAPMODE 0 4095 ≠ 1 ∧ x.held = true) ∧
    (let u := zGapS.advance 0; let x := u.lane 4095; x.gap = some 0 ∧ 0 + 8 * u.fget F.LANEGAP_GAPTO 0 4095 ≤ u.now ∧ x.skip = none ∧ u.fget F.LANEGAP_GAPMODE 0 4095 = 1 ∧ u.now < (tget u.outlets { freeAt := 0, last := 0 } (u.outletOf 4095)).freeAt) ∧
    (let u := zFlit.advance 0; let x := u.lane 4095; (∀ (g : ℕ), x.gap = some g → u.now < g + 8 * u.fget F.LANEGAP_GAPTO 0 4095)) :=
  ⟨⟨by decide, by unfold State.canRelease; decide, nextLane_of _ _ _ (by decide), by decide, still_of _ (by decide) rfl (by decide), ⟨by decide, by decide⟩, by decide⟩,
   ⟨by decide, by unfold State.canRelease; decide, nextLane_of _ _ _ (by decide), by decide, still_of _ (by decide) rfl (by decide), ⟨by decide, by decide⟩, by decide, by decide⟩,
   ⟨by decide, by unfold State.canRelease; decide, nextLane_of _ _ _ (by decide), by decide, by decide⟩,
   ⟨by decide, by decide⟩,
   ⟨by decide, by decide, by decide, by decide, by decide, fun _ => ⟨still_of _ (by decide) rfl (by decide), ⟨by decide, by decide⟩⟩⟩,
   ⟨by decide, by decide, by decide, by decide, by decide⟩,
   ⟨by decide, by decide, by decide, by decide, by decide⟩,
   (by decide)⟩

theorem zCredW_only (d m : Nat) (hm : m < 16) (h : (d, m) ≠ (0, 0)) : waitsCredit 4095 (zCredW.thr d m) = false := by
  have e : ¬0 = d * 16 + m := fun e => h (by rw [Prod.mk.injEq]; omega)
  unfold State.thr
  rw [show zCredW.threads = [(0, { wth [] with st := .wait, wait := .credit 4095 })] from rfl]
  simp only [tget, tfind?, e, if_false]
  rfl

theorem witness_OutputsReleaseInSequence_2 :
    (zHeld.Passes (Req.aklofy 0) RegKind.LANESTAT 0 4095 (wd (2 ^ 61)) ∧ zHeld.now < (tget zHeld.outlets { freeAt := 0, last := 0 } (zHeld.outletOf 4095)).freeAt ∧ (zHeld.lane 4095).held = true ∧ (zHeld.lane 4095).st ≠ LState.off) ∧
    ((busyOut zRel).Passes (Req.aklofy 0) RegKind.LANESTAT 0 4095 (wd (2 ^ 61)) ∧ (busyOut zRel).now < (tget (busyOut zRel).outlets { freeAt := 0, last := 0 } ((busyOut zRel).outletOf 4095)).freeAt ∧ ((busyOut zRel).lane 4095).held = false) ∧
    (zCred.message (Ctl.isCreditOf 4095) (Ctl.credit 4095 2) [Ctl.snext 4095 7] ∧ zCred.fget F.LANECFG_SRCK 0 4095 = 1 ∧ zCred.active (zCred.laneSrcCore 4095) = true ∧ (zCred.lane 4095).st ≠ LState.off ∧ (∀ (c n : ℕ), n < 16 → waitsCredit 4095 (zCred.thr c n) = false)) ∧
    (zCredW.message (Ctl.isCreditOf 4095) (Ctl.credit 4095 2) [Ctl.snext 4095 7] ∧ zCredW.fget F.LANECFG_SRCK 0 4095 = 1 ∧ zCredW.active (zCredW.laneSrcCore 4095) = true ∧ (zCredW.lane 4095).st ≠ LState.off ∧ waitsCredit 4095 (zCredW.thr 0 0) = true ∧ (∀ (d m : ℕ), m < 16 → (d, m) ≠ (0, 0) → waitsCredit 4095 (zCredW.thr d m) = false) ∧ (List.map (fun p => p.1) zCredW.threads).Nodup) ∧
    (zCredOff.message (Ctl.isCreditOf 4095) (Ctl.credit 4095 2) [Ctl.snext 4095 7] ∧ zCredOff.fget F.LANECFG_SRCK 0 4095 = 1 ∧ zCredOff.active (zCredOff.laneSrcCore 4095) = true ∧ (zCredOff.lane 4095).st = LState.off) ∧
    (zCred.message (fun m => match m with | Ctl.snext d n => decide (d = 4095) | x => false) (Ctl.snext 4095 7) [Ctl.credit 4095 2]) :=
  ⟨⟨⟨by decide, by decide, by decide, by decide, by decide, by decide⟩, by decide, by decide, by decide⟩,
   ⟨⟨by decide, by decide, by decide, by decide, by decide, by decide⟩, by decide, by decide⟩,
   ⟨message_of _ _ _ _ (by decide), by decide, by decide, by decide, fun c n _ => thr_all (fun x => waitsCredit 4095 x = false) _ (by decide) (by decide) c n⟩,
   ⟨message_of _ _ _ _ (by decide), by decide, by decide, by decide, by decide, zCredW_only, by decide⟩,
   ⟨message_of _ _ _ _ (by decide), by decide, by decide, by decide⟩,
   message_of _ _ _ _ (by decide)⟩

theorem witness_LanesAreEnabledAndDrained :
    ((withQ zCore 7 2).Passes (Req.aklofy 0) RegKind.LANECFG 0 4095 (cfgQ 0 7 128) ∧ wbits (cfgQ 0 7 128) 0 1 = 1 ∧ laneReserved (cfgQ 0 7 128) = false ∧ ((withQ zCore 7 2).lane 4095).st = LState.off ∧ (List.map (fun p => p.1) (withQ zCore 7 2).lanes).Nodup ∧ (withQ zCore 7 2).laneChecks (cfgQ 0 7 128) = true) ∧
    (zCore64.Passes (Req.thread 64 0) RegKind.LANECFG 0 4095 (cfgQ 0 7 129) ∧ wbits (cfgQ 0 7 129) 0 1 = 1 ∧ laneReserved (cfgQ 0 7 129) = false ∧ (zCore64.lane 4095).st = LState.off ∧ (List.map (fun p => p.1) zCore64.lanes).Nodup ∧ zCore64.laneChecks (cfgQ 0 7 129) = false ∧ Req.thread 64 0 ≠ Req.host ∧ zCore64.canTell (Req.thread 64 0)) ∧
    (zRel.Passes (Req.aklofy 0) RegKind.LANECFG 0 4095 (cfgQ 0 7 4 - (1 : Word)) ∧ wbits (cfgQ 0 7 4 - (1 : Word)) 0 1 = 0 ∧ (zRel.lane 4095).st = LState.active ∧ cfgQ 0 7 4 - (1 : Word) = wset (zRel.reg RegKind.LANECFG 0 4095) 0 1 0 ∧ (∀ (c n : ℕ), n < 16 → waitsCredit 4095 (zRel.thr c n) = false) ∧ (∀ k ∈ (zRel.tile (zRel.fget F.LANECFG_SRC 0 4095)).c0q ++ (zRel.tile (zRel.fget F.LANECFG_SRC 0 4095)).ready, allocTask 4095 k = false)) ∧
    (zCore.Passes (Req.aklofy 0) RegKind.LANECFG 0 4095 (cfgQ 0 7 4 - (1 : Word)) ∧ wbits (cfgQ 0 7 4 - (1 : Word)) 0 1 = 0 ∧ (zCore.lane 4095).st = LState.off ∧ laneReserved (cfgQ 0 7 4 - (1 : Word)) = false) ∧
    (zRel.Passes (Req.aklofy 0) RegKind.LANECFG 0 4095 (cfgQ 0 8 4 - (1 : Word)) ∧ wbits (cfgQ 0 8 4 - (1 : Word)) 0 1 = 0 ∧ (zRel.lane 4095).st ≠ LState.off ∧ BitVec.toNat (cfgQ 0 8 4 - (1 : Word)) / 2 ≠ BitVec.toNat (zRel.reg RegKind.LANECFG 0 4095) / 2 ∧ laneReserved (cfgQ 0 8 4 - (1 : Word)) = false ∧ Req.aklofy 0 ≠ Req.host ∧ zRel.canTell (Req.aklofy 0)) ∧
    (let x := zDrained.lane 4095; let v := zDrained.reg RegKind.LANECFG 0 4095; let k := cfgSlice v; x.st = LState.draining ∧ x.win = [] ∧ x.head = x.next ∧ tget zDrained.winq [] 4095 = [] ∧ (List.map (fun p => p.1) zDrained.lanes).Nodup ∧ zDrained.sliceUsed k ≤ sliceSize k ∧ sliceSize k < 2 ^ F.CBFREE_FREE.len) ∧
    (let x := zRel.lane 4095; (x.st ≠ LState.draining ∨ x.win ≠ [] ∨ x.head ≠ x.next)) ∧
    (zCore.Passes (Req.aklofy 0) RegKind.LANEGAP 0 4095 (wd 63)) :=
  ⟨⟨⟨by decide, by decide, by decide, by decide, by decide, by decide⟩, by decide, by decide, by decide, by decide, by decide⟩,
   ⟨⟨by decide, by decide, by decide, by decide, by decide, by decide⟩, by decide, by decide, by decide, by decide, by decide, by decide, canTell_of _ _ _ (by decide) (by decide) (by decide) (fun h => absurd h (by decide))⟩,
   ⟨⟨by decide, by decide, by decide, by decide, by decide, by decide⟩, by decide, by decide, by decide, fun c n _ => thr_all (fun x => waitsCredit 4095 x = false) _ (by decide) (by decide) c n, by decide⟩,
   ⟨⟨by decide, by decide, by decide, by decide, by decide, by decide⟩, by decide, by decide, by decide⟩,
   ⟨⟨by decide, by decide, by decide, by decide, by decide, by decide⟩, by decide, by decide, by decide, by decide, by decide, by unfold State.canTell; decide⟩,
   ⟨by decide, by decide, by decide, by decide, by decide, by decide, by decide⟩,
   (by decide),
   ⟨by decide, by decide, by decide, by decide, by decide, by decide⟩⟩

theorem witness_QueuesMoveByDoorbellsPushesAndPops_1 :
    (let old := (zCore.fset F.QBASE_BASE 0 7 (1095216726016 / 32 : ℕ)).reg RegKind.QCFG 0 7; (zCore.fset F.QBASE_BASE 0 7 (1095216726016 / 32 : ℕ)).Passes (Req.thread 0 0) RegKind.QCFG 0 7 (wd (1 + 2 * 2)) ∧ wbits old 0 1 = 0 ∧ (wbits (wd (1 + 2 * 2)) 5 2 = 2 ∨ wbits (wd (1 + 2 * 2)) 9 5 = 0) ∧ wbits (wd (1 + 2 * 2)) 8 1 = 0 ∧ (wbits (wd (1 + 2 * 2)) 0 1 = 0 ∨ wbits (wd (1 + 2 * 2)) 1 4 ≠ 0 ∧ (zCore.fset F.QBASE_BASE 0 7 (1095216726016 / 32 : ℕ)).ringFits 0 ((zCore.fset F.QBASE_BASE 0 7 (1095216726016 / 32 : ℕ)).fget F.QBASE_BASE 0 7 * 32) (wbits (wd (1 + 2 * 2)) 1 4) = true ∧ wbits (wd (1 + 2 * 2)) 14 16 ≤ 2 ^ wbits (wd (1 + 2 * 2)) 1 4 ∧ wbits (wd (1 + 2 * 2)) 9 5 + 1 ≤ 2 ^ wbits (wd (1 + 2 * 2)) 1 4)) ∧
    (let occ := zSoft.qOcc 0 7; zSoft.dev ≠ DevState.reset ∧ zSoft.fget F.QCFG_EN 0 7 = 1 ∧ 3 ≠ 0 ∧ zSoft.fget F.QCFG_PMODE 0 7 = 1 ∧ occ + 3 ≤ zSoft.qSize 0 7 ∧ zSoft.QuietQ 0 7) ∧
    (let occ := zSoft.qOcc 0 7; zSoft.dev ≠ DevState.reset ∧ zSoft.fget F.QCFG_EN 0 7 = 1 ∧ 1 ≠ 0 ∧ zSoft.fget F.QCFG_CMODE 0 7 = 1 ∧ 1 ≤ occ ∧ zSoft.fget F.QCFG_WMEN 0 7 ≠ 1 ∧ zSoft.fget F.QPTR_RESV 0 7 ≠ 1) ∧
    ((withQ zCore 7 2).dev ≠ DevState.reset ∧ (withQ zCore 7 2).fget F.QCFG_EN 0 7 = 1 ∧ 1 ≠ 0 ∧ Req.thread 0 0 ≠ Req.host ∧ (withQ zCore 7 2).canTell (Req.thread 0 0) ∧ (withQ zCore 7 2).fget F.QCFG_PMODE 0 7 ≠ 1) ∧
    (let occ := zSoft.qOcc 0 7; zSoft.dev ≠ DevState.reset ∧ zSoft.fget F.QCFG_EN 0 7 = 1 ∧ 4 ≠ 0 ∧ Req.thread 0 0 ≠ Req.host ∧ zSoft.canTell (Req.thread 0 0) ∧ zSoft.fget F.QCFG_PMODE 0 7 = 1 ∧ zSoft.qSize 0 7 < occ + 4) ∧
    ((withQ zCore 7 2).dev ≠ DevState.reset ∧ (withQ zCore 7 2).fget F.QCFG_EN 0 7 = 1 ∧ 1 ≠ 0 ∧ Req.debug ≠ Req.host ∧ (withQ zCore 7 2).canTell Req.debug ∧ (withQ zCore 7 2).fget F.QCFG_CMODE 0 7 ≠ 1) ∧
    (let occ := zSoft.qOcc 0 7; zSoft.dev ≠ DevState.reset ∧ zSoft.fget F.QCFG_EN 0 7 = 1 ∧ 2 ≠ 0 ∧ Req.thread 0 0 ≠ Req.host ∧ zSoft.canTell (Req.thread 0 0) ∧ zSoft.fget F.QCFG_CMODE 0 7 = 1 ∧ occ < 2) ∧
    (let u := zArr.advance 0; tget u.pushq [] (0, 7) = [(arr 1, 5, false, 9)] ∧ u.qRoom 0 7 = some true ∧ u.Still ∧ u.QuietQ 0 7) :=
  ⟨⟨⟨by decide, by decide, by decide, by decide, by decide, by decide⟩, by decide, by decide, by decide, by decide⟩,
   ⟨by decide, by decide, by decide, by decide, by decide, ⟨by decide, by decide⟩⟩,
   ⟨by decide, by decide, by decide, by decide, by decide, by decide, by decide⟩,
   ⟨by decide, by decide, by decide, by decide, canTell_of _ _ _ (by decide) (by decide) (by decide) (fun _ => ⟨still_of _ (by decide) rfl (by decide), ⟨by decide, by decide⟩⟩), by decide⟩,
   ⟨by decide, by decide, by decide, by decide, canTell_of _ _ _ (by decide) (by decide) (by decide) (fun _ => ⟨still_of _ (by decide) rfl (by decide), ⟨by decide, by decide⟩⟩), by decide, by decide⟩,
   ⟨by decide, by decide, by decide, by decide, by unfold State.canTell; decide, by decide⟩,
   ⟨by decide, by decide, by decide, by decide, canTell_of _ _ _ (by decide) (by decide) (by decide) (fun _ => ⟨still_of _ (by decide) rfl (by decide), ⟨by decide, by decide⟩⟩), by decide, by decide⟩,
   ⟨by decide, by decide, still_of _ (by decide) rfl (by decide), ⟨by decide, by decide⟩⟩⟩

theorem witness_QueuesMoveByDoorbellsPushesAndPops_2 :
    (let u := zArrFull.advance 0; tget u.pushq [] (0, 7) = [(arr 1, 5, false, 9)] ∧ u.qRoom 0 7 = some false) ∧
    (let u := zArrNone.advance 0; tget u.pushq [] (0, 7) = [(arr 1, 5, false, 9)] ∧ u.qRoom 0 7 = none ∧ u.Still ∧ u.QuietQ 0 255) ∧
    (let u := (srcQ 1).advance 0; let d := u.fget F.LANECFG_SRC 0 4095; let q := u.fget F.LANECFG_SRCQ 0 4095; let e := u.entry d q; let k := { e with tag := wset e.tag 0 1 1, dst := mkDst e.dev 4095 (u.lane 4095).next e.hops }; u.fget F.LANECFG_SRCK 0 4095 = 2 ∧ (u.lane 4095).st = LState.active ∧ u.popAllowed d q = true ∧ u.qOcc d q ≠ 0 ∧ (u.tile d).lastPop ≠ some u.now ∧ (u.lane 4095).credit ≠ 0 ∧ u.canSend d (TokTo.lane 4095) k ∧ u.QuietQ d q ∧ u.fget F.QPTR_RESV d q ≠ 1) ∧
    (let u := (srcQ 0).advance 0; let d := u.fget F.LANECFG_SRC 0 4095; let q := u.fget F.LANECFG_SRCQ 0 4095; u.fget F.LANECFG_SRCK 0 4095 = 2 ∧ (u.lane 4095).st = LState.active ∧ u.popAllowed d q = true ∧ u.qOcc d q ≠ 0 ∧ (u.tile d).lastPop ≠ some u.now ∧ (u.lane 4095).credit = 0) :=
  ⟨⟨by decide, by decide⟩,
   ⟨by decide, by decide, still_of _ (by decide) rfl (by decide), ⟨by decide, by decide⟩⟩,
   ⟨by decide, by decide, by decide, by decide, by decide, by decide, canSend_of _ _ _ _ (by decide) (by decide), ⟨by decide, by decide⟩, by decide⟩,
   ⟨by decide, by decide, by decide, by decide, by decide, by decide⟩⟩

end W10
end Sys2Proof.Tests
end

