-- ==== Sys2Proof/Tests/W11.lean ====
section
/-! SUPPORT. States that meet the hypotheses of: CutsAreCheckedSampledAndTaken, ShotsOpenGrantAndClose, StrokeBoundariesCountAndGrant, StrokeSourcesAlignAreLostAndReturn. -/
set_option Elab.async false
open Sys2Proof Sys2Proof.Machine
namespace Sys2Proof.Tests
namespace W11
def zB := { strand 0 { wth [] with pc := 7 } with now := 1600 }
def zBoff := { zB with dev := .standby }
def shotW (start len act gsh f s m fl : Nat) : Activity := ⟨wd (start + len * 2 ^ 21 + act * 2 ^ 42 + gsh * 2 ^ 48), wd (f + s * 2 ^ 16 + m * 2 ^ 28 + fl * 2 ^ 48)⟩
def bank2 : CoxBank := { CoxBank.rst with shots := [shotW 0 40 5 0 7 3 9 2, shotW 0 0 5 3 65535 4095 0xFFFFF 65535, shotW 10 20 6 0 1 1 1 1] }
def zShots := tile0 zB fun x => { x with bankA := bank2, openShots := [1] }
def zLate := { zB with stroke := { zB.stroke with tgt := 3 * 10 ^ 5 } }
def zUp (l : Nat) (s : State) : State := (s.fset F.CLSTAT_STATE 0 l 3).fset F.CLCFG_STREN 0 l 1
def zOpen := { zShots.fset F.COXSTAT_NEXTSH 0 0 1 with stroke := { zB.stroke with start := 1600 } }
def zOpenL := zOpen.fset F.COXSTAT_NEXTSH 0 0 2
def zClose := tile0 zShots fun x => { x with openShots := [0, 1] }
def ovr (cls : Nat) (ft : Nat) (s : State) : State := (tile0 s fun x => { x with limitDue := [3, 63], bankA := { x.bankA with acts := [(63, ⟨wd (1 + cls * 2 + ft * 8), 0⟩)] } }).fset F.ACTOVR_CONSEC 0 63 9
def zBq := withQ zB 255 3
def edge (dev : DevState) (first : Bool) : State := { zB.fset F.STRKCFG_SRC 0 0 3 with dev := dev, stroke := { zB.stroke with first := first } }
def zLost := { (zB.fset F.STRKCFG_SRC 0 0 2) with stroke := { zB.stroke with missed := 4, start := 77 } }
def zHeldS := { (zB.fset F.STRKCFG_SRC 0 0 2).fset F.STRKSTAT_HOLD 0 0 1 with stroke := { zB.stroke with missed := 0 } }
def zHeldM := { zHeldS with stroke := { zB.stroke with missed := 2 } }
def zSb := { zB with dev := .standby }
def zSbq := { zBq with dev := .standby }
def armed (s : State) : State := { s.fset F.CUTTAKE_ARM 0 0 1 with cut := { s.cut with checking := true } }
def goodBank : CoxBank := { CoxBank.rst with valid := true, hdr := [(0, wd 40)] }
def zGood : State := { (List.range 64).foldl (fun s t => s.setShadow t goodBank) zB with ctbaseSet := true }
def zGoodC := armed ((zGood.fset F.DRSTAT_DSIZE 0 0 4).fset F.CTBASE_BASE 0 0 0)
def zPend := zGoodC.fset F.LTMAP_NEXT 0 63 65
def cutNow (s : State) : State := { (s.fset F.CUTTAKE_ARM 0 0 1).fset F.CUTSTRK_STROKE 0 0 1 with now := 1536 }
def zReady := (cutNow zB).fset F.CUTTAKE_READY 0 0 1
def zBnd := { cutNow zB with now := 1600 }
def zCom := { (zGood.fset F.CUTTAKE_ARM 0 0 1).fset F.CUTSTRK_STROKE 0 0 1 with now := 1600, cut := { zB.cut with committed := true, resv := [(5, { Ctx.rst with act := 2 })] } }
def zMap := ((zCom.fset F.LTMAP_PEND 0 5 1).fset F.LTMAP_NEXT 0 5 65)
def zMapR := { zMap with riari := { zMap.riari with subs := [(5, ⟨65, zMap.physOf 5, true, true, false, false, false, 0⟩)] } }
def zFt := { zBq with ctl := [.credit 4 2, .faultTok 0 ⟨1, mkDst 0 0 0 0, 2, 0⟩, .faultTok 1 ⟨1, mkDst 0 0 0 0, 2, 0⟩] }
theorem runs_of (s : State) (hx : ∀ e ∈ s.tiles, e.2.c0q = [] ∧ e.2.ready = [] ∧ e.2.heldFlags = []) (ht : ∀ e ∈ s.threads, e.2.st ≠ .ready ∨ e.2.act = 0)
    (h0 : ∀ d < 64, s.overruns d 0 = false) : ∀ d < 64, ∀ a < 64, s.overruns d a = false := by
  intro d hd a _
  by_cases e : a = 0
  · rw [e]
    exact h0 d hd
  · have hq := tget_all (fun x : Tile => x.c0q = [] ∧ x.ready = [] ∧ x.heldFlags = []) Tile.rst ⟨rfl, rfl, rfl⟩ s.tiles hx d
    have hn : ∀ n, ((s.thr d n).st = .ready && (s.thr d n).act = a : Bool) = false := fun n => by
      rcases thr_all (fun x => x.st ≠ .ready ∨ x.act = 0) s (by decide) ht d n with h | h
      · simp [h]
      · simp [h, Ne.symm e]
    have hv : s.workVerdicts d a = [] := by
      unfold State.workVerdicts State.tile
      simp only [hq.1, hq.2.1, hn]
      simp
    unfold State.overruns
    rw [hv]
    simp

theorem witness_StrokeBoundariesCountAndGrant :
    (let u := zB.advance 0; u.ordinary ∧ u.boundaryAt ≤ u.now) ∧
    (let u := zShots.advance 0; u.ordinary ∧ u.boundaryAt ≤ u.now) ∧
    (let u := (zUp 31 (zB.fset F.STRKCFG_OUTEN 0 0 1)).advance 0; u.ordinary ∧ u.boundaryAt ≤ u.now) ∧
    (let u := ({ zBoff with now := 5000 }).advance 0; u.ordinary ∧ u.boundaryAt ≤ u.now) ∧
    (let u := zLate.advance 1; u.ordinary ∧ u.boundaryAt ≤ u.now) ∧
    (let u := ({ zB with now := 7 }).advance 1; (u.dev = DevState.reset ∨ u.now < u.boundaryAt)) :=
  ⟨⟨⟨by decide +kernel, runs_of _ (by decide +kernel) (by decide +kernel) (by decide +kernel), by decide +kernel, by decide +kernel, by decide +kernel, by decide +kernel⟩, by decide +kernel⟩,
   ⟨⟨by decide +kernel, runs_of _ (by decide +kernel) (by decide +kernel) (by decide +kernel), by decide +kernel, by decide +kernel, by decide +kernel, by decide +kernel⟩, by decide +kernel⟩,
   ⟨⟨by decide +kernel, runs_of _ (by decide +kernel) (by decide +kernel) (by decide +kernel), by decide +kernel, by decide +kernel, by decide +kernel, by decide +kernel⟩, by decide +kernel⟩,
   ⟨⟨by decide +kernel, runs_of _ (by decide +kernel) (by decide +kernel) (by decide +kernel), by decide +kernel, by decide +kernel, by decide +kernel, by decide +kernel⟩, by decide +kernel⟩,
   ⟨⟨by decide +kernel, runs_of _ (by decide +kernel) (by decide +kernel) (by decide +kernel), by decide +kernel, by decide +kernel, by decide +kernel, by decide +kernel⟩, by decide +kernel⟩,
   (by decide +kernel)⟩

theorem witness_ShotsOpenGrantAndClose :
    (let u := zOpen.advance 0; let i := u.fget F.COXSTAT_NEXTSH 0 0; (u.activeBank 0).shots[i]? = some (shotW 0 0 5 3 65535 4095 1048575 65535) ∧ i < 256 ∧ (u.dev = DevState.running ∨ u.dev = DevState.draining) ∧ (shotW 0 0 5 3 65535 4095 1048575 65535).start ≤ u.strokeBeat) ∧
    (let u := zOpenL.advance 0; let i := u.fget F.COXSTAT_NEXTSH 0 0; (u.activeBank 0).shots[i]? = some (shotW 10 20 6 0 1 1 1 1) ∧ i < 256 ∧ (¬(u.dev = DevState.running ∨ u.dev = DevState.draining) ∨ u.strokeBeat < (shotW 10 20 6 0 1 1 1 1).start)) ∧
    (let u := ({ zOpenL with now := 1688 }).advance 0; let i := u.fget F.COXSTAT_NEXTSH 0 0; (u.activeBank 0).shots[i]? = some (shotW 10 20 6 0 1 1 1 1) ∧ i < 256 ∧ (u.dev = DevState.running ∨ u.dev = DevState.draining) ∧ (shotW 10 20 6 0 1 1 1 1).start ≤ u.strokeBeat) ∧
    (let u := zClose.advance 0; (u.activeBank 0).shots[0]? = some (shotW 0 40 5 0 7 3 9 2) ∧ 0 ∈ (u.tile 0).openShots ∧ (shotW 0 40 5 0 7 3 9 2).len ≠ 0 ∧ (shotW 0 40 5 0 7 3 9 2).start + (shotW 0 40 5 0 7 3 9 2).len ≤ u.strokeBeat) ∧
    (let u := zClose.advance 0; (u.activeBank 0).shots[1]? = some (shotW 0 0 5 3 65535 4095 1048575 65535) ∧ 1 ∈ (u.tile 0).openShots ∧ ((shotW 0 0 5 3 65535 4095 1048575 65535).len = 0 ∨ u.strokeBeat < (shotW 0 0 5 3 65535 4095 1048575 65535).start + (shotW 0 0 5 3 65535 4095 1048575 65535).len)) ∧
    (let act := ((ovr 1 5 zBq).activeBank 0).act 63; 63 ∈ ((ovr 1 5 zBq).tile 0).limitDue ∧ act.cls ≠ 0 ∧ act.ftile ≠ 0) ∧
    (let act := ((ovr 1 0 zBq).activeBank 0).act 63; 63 ∈ ((ovr 1 0 zBq).tile 0).limitDue ∧ act.cls ≠ 0 ∧ act.ftile = 0 ∧ (ovr 1 0 zBq).Still ∧ (ovr 1 0 zBq).QuietQ 0 255) ∧
    (let act := ((ovr 0 0 zBq).activeBank 0).act 63; 63 ∈ ((ovr 0 0 zBq).tile 0).limitDue ∧ act.cls = 0) :=
  ⟨⟨by decide +kernel, by decide +kernel, by decide +kernel, by decide +kernel⟩,
   ⟨by decide +kernel, by decide +kernel, by decide +kernel⟩,
   ⟨by decide +kernel, by decide +kernel, by decide +kernel, by decide +kernel⟩,
   ⟨by decide +kernel, by decide +kernel, by decide +kernel, by decide +kernel⟩,
   ⟨by decide +kernel, by decide +kernel, by decide +kernel⟩,
   ⟨by decide +kernel, by decide +kernel, by decide +kernel⟩,
   ⟨by decide +kernel, by decide +kernel, by decide +kernel, still_of _ (by decide +kernel) rfl (by decide +kernel), ⟨by decide +kernel, by decide +kernel⟩⟩,
   ⟨by decide +kernel, by decide +kernel⟩⟩

theorem witness_StrokeSourcesAlignAreLostAndReturn_1 :
    (let u := (edge DevState.standby true).advance 3; let k := u.stroke; u.strkSrc = 3 ∧ k.first = true ∧ u.dev = DevState.standby) ∧
    (let u := (edge DevState.running false).advance 3; let k := u.stroke; let e := 2 * (99800 + u.fget F.STRKCFG_INDLY 0 0); u.strkSrc = 3 ∧ k.first = false ∧ gap e k.tgt ≤ gap e (k.start * 125)) ∧
    (let u := (edge DevState.running false).advance 3; let k := u.stroke; let e := 2 * (99000 + u.fget F.STRKCFG_INDLY 0 0); u.strkSrc = 3 ∧ k.first = false ∧ gap e k.tgt ≤ gap e (k.start * 125)) ∧
    (let u := (edge DevState.running false).advance 3; let k := u.stroke; let e := 2 * (100 + u.fget F.STRKCFG_INDLY 0 0); u.strkSrc = 3 ∧ k.first = false ∧ gap e (k.start * 125) < gap e k.tgt) ∧
    (let u := zB.advance 3; u.strkSrc ≠ 3) ∧
    (let u := zLost.advance 3; let k := u.stroke; u.strkSrc ≠ 0 ∧ u.strkHold = false ∧ 4 ≤ k.missed ∧ u.Unwatched) ∧
    (let u := zB.advance 3; let k := u.stroke; (u.strkSrc = 0 ∨ u.strkHold = true ∨ k.missed < 4)) ∧
    (let u := zHeldS.advance 3; let k := u.stroke; u.strkHold = true ∧ (u.strkSrc = 0 ∨ k.missed = 0)) :=
  ⟨⟨by decide +kernel, by decide +kernel, by decide +kernel⟩,
   ⟨by decide +kernel, by decide +kernel, by decide +kernel⟩,
   ⟨by decide +kernel, by decide +kernel, by decide +kernel⟩,
   ⟨by decide +kernel, by decide +kernel, by decide +kernel⟩,
   (by decide +kernel),
   ⟨by decide +kernel, by decide +kernel, by decide +kernel, ⟨by decide +kernel, by decide +kernel⟩⟩,
   (by decide +kernel),
   ⟨by decide +kernel, by decide +kernel⟩⟩

theorem witness_StrokeSourcesAlignAreLostAndReturn_2 :
    (let u := zHeldM.advance 3; let k := u.stroke; u.strkHold = true ∧ u.strkSrc ≠ 0 ∧ k.missed ≠ 0) ∧
    (zSb.Passes (Req.aklofy 3) RegKind.STRKCFG 0 0 (wd 6) ∧ wbits (wd 6) 2 1 = 1 ∧ wbits (wd 6) 0 2 = 2 ∧ Req.aklofy 3 ≠ Req.host ∧ zSb.canTell (Req.aklofy 3)) ∧
    (zSbq.Passes Req.debug RegKind.STRKCFG 0 0 (wd 6) ∧ wbits (wd 6) 2 1 = 1 ∧ wbits (wd 6) 0 2 = 2 ∧ Req.debug ≠ Req.host ∧ zSbq.canTell Req.debug) ∧
    (zSb.Passes (Req.aklofy 3) RegKind.STRKCFG 0 0 (wd 4) ∧ (¬(wbits (wd 4) 2 1 = 1 ∧ wbits (wd 4) 0 2 = 2)) ∧ wbits (wd 4) 0 2 = zSb.strkSrc) ∧
    (zSb.Passes (Req.aklofy 3) RegKind.STRKCFG 0 0 (wd 3) ∧ (¬(wbits (wd 3) 2 1 = 1 ∧ wbits (wd 3) 0 2 = 2)) ∧ wbits (wd 3) 0 2 ≠ zSb.strkSrc) ∧
    (({ zHeldM.fset F.PTPSTAT_LOCKED 0 0 1 with dev := DevState.standby }).Passes (Req.aklofy 3) RegKind.STRKCFG 0 0 (wd 0) ∧ (¬(wbits (wd 0) 2 1 = 1 ∧ wbits (wd 0) 0 2 = 2)) ∧ wbits (wd 0) 0 2 ≠ ({ zHeldM.fset F.PTPSTAT_LOCKED 0 0 1 with dev := DevState.standby }).strkSrc) :=
  ⟨⟨by decide +kernel, by decide +kernel, by decide +kernel⟩,
   ⟨⟨by decide +kernel, by decide +kernel, by decide +kernel, by decide +kernel, by decide +kernel, by decide +kernel⟩, by decide +kernel, by decide +kernel, by decide +kernel, by unfold State.canTell; decide +kernel⟩,
   ⟨⟨by decide +kernel, by decide +kernel, by decide +kernel, by decide +kernel, by decide +kernel, by decide +kernel⟩, by decide +kernel, by decide +kernel, by decide +kernel, by unfold State.canTell; decide +kernel⟩,
   ⟨⟨by decide +kernel, by decide +kernel, by decide +kernel, by decide +kernel, by decide +kernel, by decide +kernel⟩, by decide +kernel, by decide +kernel⟩,
   ⟨⟨by decide +kernel, by decide +kernel, by decide +kernel, by decide +kernel, by decide +kernel, by decide +kernel⟩, by decide +kernel, by decide +kernel⟩,
   ⟨⟨by decide +kernel, by decide +kernel, by decide +kernel, by decide +kernel, by decide +kernel, by decide +kernel⟩, by decide +kernel, by decide +kernel⟩⟩

theorem witness_CutsAreCheckedSampledAndTaken_1 :
    (let fits := wbits (wd 65537) 0 16 = ((zB.fset F.CUTSTRK_STROKE 0 0 1).fget F.SLATE_TAKE 0 0 + 1) % 65536 ∧ (zB.fset F.CUTSTRK_STROKE 0 0 1).count < (zB.fset F.CUTSTRK_STROKE 0 0 1).fget F.CUTSTRK_STROKE 0 0; let free := (zB.fset F.CUTSTRK_STROKE 0 0 1).fget F.CUTTAKE_ARM 0 0 ≠ 1 ∧ (zB.fset F.CUTSTRK_STROKE 0 0 1).cut.committed = false; (zB.fset F.CUTSTRK_STROKE 0 0 1).Passes (Req.thread 64 0) RegKind.CUTTAKE 0 0 (wd 65537) ∧ wbits (wd 65537) 16 1 = 1 ∧ free ∧ fits) ∧
    (let free := ((zB.fset F.CUTSTRK_STROKE 0 0 1).fset F.CUTTAKE_ARM 0 0 1).fget F.CUTTAKE_ARM 0 0 ≠ 1 ∧ ((zB.fset F.CUTSTRK_STROKE 0 0 1).fset F.CUTTAKE_ARM 0 0 1).cut.committed = false; ((zB.fset F.CUTSTRK_STROKE 0 0 1).fset F.CUTTAKE_ARM 0 0 1).Passes (Req.aklofy 0) RegKind.CUTTAKE 0 0 (wd 65537) ∧ wbits (wd 65537) 16 1 = 1 ∧ Req.aklofy 0 ≠ Req.host ∧ ((zB.fset F.CUTSTRK_STROKE 0 0 1).fset F.CUTTAKE_ARM 0 0 1).canTell (Req.aklofy 0) ∧ (¬free)) ∧
    (let fits := wbits (wd 65538) 0 16 = ((zB.fset F.CUTSTRK_STROKE 0 0 1).fget F.SLATE_TAKE 0 0 + 1) % 65536 ∧ (zB.fset F.CUTSTRK_STROKE 0 0 1).count < (zB.fset F.CUTSTRK_STROKE 0 0 1).fget F.CUTSTRK_STROKE 0 0; let free := (zB.fset F.CUTSTRK_STROKE 0 0 1).fget F.CUTTAKE_ARM 0 0 ≠ 1 ∧ (zB.fset F.CUTSTRK_STROKE 0 0 1).cut.committed = false; (zB.fset F.CUTSTRK_STROKE 0 0 1).Passes (Req.aklofy 0) RegKind.CUTTAKE 0 0 (wd 65538) ∧ wbits (wd 65538) 16 1 = 1 ∧ Req.aklofy 0 ≠ Req.host ∧ (zB.fset F.CUTSTRK_STROKE 0 0 1).canTell (Req.aklofy 0) ∧ free ∧ (¬fits)) ∧
    (let u := zGoodC.advance 0; u.cut.checking = true ∧ u.fget F.CUTTAKE_ARM 0 0 = 1 ∧ u.armCheck = none) ∧
    (let u := (armed zB).advance 0; u.cut.checking = true ∧ u.fget F.CUTTAKE_ARM 0 0 = 1 ∧ u.armCheck = some { check := 1 } ∧ u.Unwatched) ∧
    (let u := zGoodC.advance 0; u.cut.checking = true ∧ u.fget F.CUTTAKE_ARM 0 0 = 1 ∧ u.armCheck = none ∧ (u.pendTiles = [] ∨ u.presynced = true)) ∧
    (let u := zPend.advance 0; u.cut.checking = true ∧ u.fget F.CUTTAKE_ARM 0 0 = 1 ∧ u.armCheck = none ∧ u.pendTiles ≠ [] ∧ u.presynced = false) ∧
    (let u := zReady.advance 0; u.fget F.CUTTAKE_ARM 0 0 = 1 ∧ u.cut.committed = false ∧ u.fget F.CUTSTRK_STROKE 0 0 = (u.count + 1) % 2 ^ 48 ∧ u.now + 64 = u.boundaryAt ∧ u.fget F.CUTTAKE_READY 0 0 = 1) :=
  ⟨⟨⟨by decide +kernel, by decide +kernel, by decide +kernel, by decide +kernel, by decide +kernel, by decide +kernel⟩, by decide +kernel, by decide +kernel, by decide +kernel⟩,
   ⟨⟨by decide +kernel, by decide +kernel, by decide +kernel, by decide +kernel, by decide +kernel, by decide +kernel⟩, by decide +kernel, by decide +kernel, by unfold State.canTell; decide +kernel, by decide +kernel⟩,
   ⟨⟨by decide +kernel, by decide +kernel, by decide +kernel, by decide +kernel, by decide +kernel, by decide +kernel⟩, by decide +kernel, by decide +kernel, by unfold State.canTell; decide +kernel, by decide +kernel, by decide +kernel⟩,
   ⟨by decide +kernel, by decide +kernel, armCheck_of _ _ (by decide +kernel) (by decide +kernel) (by decide +kernel) (by decide +kernel) (by decide +kernel) (by decide +kernel) (by decide +kernel)⟩,
   ⟨by decide +kernel, by decide +kernel, by first | exact armCheck_first _ _ (by decide +kernel) | exact armCheck_of _ _ (by decide +kernel) (by decide +kernel) (by decide +kernel) (by decide +kernel) (by decide +kernel) (by decide +kernel) (by decide +kernel), ⟨by decide +kernel, by decide +kernel⟩⟩,
   ⟨by decide +kernel, by decide +kernel, armCheck_of _ _ (by decide +kernel) (by decide +kernel) (by decide +kernel) (by decide +kernel) (by decide +kernel) (by decide +kernel) (by decide +kernel), by decide +kernel⟩,
   ⟨by decide +kernel, by decide +kernel, armCheck_of _ _ (by decide +kernel) (by decide +kernel) (by decide +kernel) (by decide +kernel) (by decide +kernel) (by decide +kernel) (by decide +kernel), by decide +kernel, by decide +kernel⟩,
   ⟨by decide +kernel, by decide +kernel, by decide +kernel, by decide +kernel, by decide +kernel⟩⟩

theorem witness_CutsAreCheckedSampledAndTaken_2 :
    (let u := (cutNow zB).advance 0; u.fget F.CUTTAKE_ARM 0 0 = 1 ∧ u.cut.committed = false ∧ u.fget F.CUTSTRK_STROKE 0 0 = (u.count + 1) % 2 ^ 48 ∧ u.now + 64 = u.boundaryAt ∧ u.fget F.CUTTAKE_READY 0 0 ≠ 1 ∧ u.cut.resv = [] ∧ u.Unwatched) ∧
    (let u := zBnd.advance 0; u.dev ≠ DevState.reset ∧ u.boundaryAt ≤ u.now ∧ u.stroke.disarm = false ∧ u.fget F.CUTTAKE_ARM 0 0 = 1 ∧ u.fget F.CUTSTRK_STROKE 0 0 ≤ (u.count + 1) % 2 ^ 48 ∧ u.cut.committed = false) ∧
    (let u := zCom.advance 0; u.dev ≠ DevState.reset ∧ u.boundaryAt ≤ u.now ∧ u.stroke.disarm = false ∧ u.fget F.CUTTAKE_ARM 0 0 = 1 ∧ u.fget F.CUTSTRK_STROKE 0 0 ≤ (u.count + 1) % 2 ^ 48 ∧ u.cut.committed = true ∧ u.pendTiles = []) ∧
    (let u := zMap.advance 0; u.dev ≠ DevState.reset ∧ u.boundaryAt ≤ u.now ∧ u.stroke.disarm = false ∧ u.fget F.CUTTAKE_ARM 0 0 = 1 ∧ u.fget F.CUTSTRK_STROKE 0 0 ≤ (u.count + 1) % 2 ^ 48 ∧ 5 < 64 ∧ u.cut.committed = true ∧ (∀ j < 64, j ≠ 5 → u.ltPend j = false) ∧ u.ltPend 5 = true ∧ u.physOf 5 < 68 ∧ u.fget F.LTMAP_NEXT 0 5 < 68) ∧
    (zFt.message (Ctl.isFaultFor 0) (Ctl.faultTok 0 { tag := (1 : Word), dst := mkDst 0 0 0 0, val := (2 : Word), aux := (0 : Word) }) [Ctl.credit 4 2, Ctl.faultTok 1 { tag := (1 : Word), dst := mkDst 0 0 0 0, val := (2 : Word), aux := (0 : Word) }] ∧ zFt.active 0 = true ∧ zFt.Still ∧ zFt.QuietQ 0 255) ∧
    (let u := zMapR.advance 0; u.dev ≠ DevState.reset ∧ u.boundaryAt ≤ u.now ∧ u.stroke.disarm = false ∧ u.fget F.CUTTAKE_ARM 0 0 = 1 ∧ u.fget F.CUTSTRK_STROKE 0 0 ≤ (u.count + 1) % 2 ^ 48 ∧ 5 < 64 ∧ u.cut.committed = true ∧ (∀ j < 64, j ≠ 5 → u.ltPend j = false) ∧ u.ltPend 5 = true ∧ u.physOf 5 < 68 ∧ u.fget F.LTMAP_NEXT 0 5 < 68) :=
  ⟨⟨by decide +kernel, by decide +kernel, by decide +kernel, by decide +kernel, by decide +kernel, by decide +kernel, ⟨by decide +kernel, by decide +kernel⟩⟩,
   ⟨by decide +kernel, by decide +kernel, by decide +kernel, by decide +kernel, by decide +kernel, by decide +kernel⟩,
   ⟨by decide +kernel, by decide +kernel, by decide +kernel, by decide +kernel, by decide +kernel, by decide +kernel, by decide +kernel⟩,
   ⟨by decide +kernel, by decide +kernel, by decide +kernel, by decide +kernel, by decide +kernel, by decide +kernel, by decide +kernel, by decide +kernel, by decide +kernel, by decide +kernel, by decide +kernel⟩,
   ⟨message_of _ _ _ _ (by decide +kernel), by decide +kernel, still_of _ (by decide +kernel) rfl (by decide +kernel), ⟨by decide +kernel, by decide +kernel⟩⟩,
   ⟨by decide +kernel, by decide +kernel, by decide +kernel, by decide +kernel, by decide +kernel, by decide +kernel, by decide +kernel, by decide +kernel, by decide +kernel, by decide +kernel, by decide +kernel⟩⟩

end W11
end Sys2Proof.Tests
end

