-- ==== Sys2Proof/Tests/W12.lean ====
section
/-! SUPPORT. States that meet the hypotheses of: LinkBlocksActOrAreDiscarded. -/
set_option Elab.async false
open Sys2Proof Sys2Proof.Machine
namespace Sys2Proof.Tests
namespace W12
def kc : LinkId := .catch_ 31
def kf : LinkId := .fabric 15
def zK := { strand 0 { wth [] with pc := 7 } with now := 9000 }
def lk (k : LinkId) (st : Nat) (x : Link) (s : State) : State := { s.fset (if isFab k then F.FLSTAT_STATE else F.CLSTAT_STATE) 0 (lkIx k) st with links := [(k, x)] }
def xV : Link := { Link.rst with unack := [(4095, [1]), (0, [2]), (1, [3])], replayq := [(0, [2]), (1, [3])], verd := [⟨7, 1, 2, 3, false, 0, false, false⟩, ⟨255, 1, 2, 3, false, 9000, true, false⟩], ctrl := [(5, ctlBlock 0x0B [], 0)], rxCount := 63, rxAt := 17, dropping := true, nakDue := true, owed := [(3, 2)], cred := [(3, 63)], dreq := some (255, 1000), dreqId := 254, nakAt := some 5800, liveSeen := true }
def zC (st : Nat) := lk kc st xV zK
def zF (st : Nat) := lk kf st xV zK
def bad : List Byte := ctlBlock 2 [0xFF, 0x0F, 1]
def ackB := ctlBlock 2 [0xFF, 0x0F]
def ackX := ctlBlock 2 [0x44, 0x04]
def nakB := ctlBlock 3 [0, 0]
def nakX := ctlBlock 3 [9, 0]
def liveB := ctlBlock 1 []

theorem witness_LinkBlocksActOrAreDiscarded_1 :
    (let u := (zC 3).advance 0; let fec8 := u.fget (lkF kc F.CLCFG_MODE F.FLCFG_MODE) 0 (lkIx kc) = 0; blockOk 1 [] bad = false ∧ (¬fec8 ∨ 0 = 0)) ∧
    (let u := (zC 2).advance 0; let fec8 := u.fget (lkF kc F.CLCFG_MODE F.FLCFG_MODE) 0 (lkIx kc) = 0; blockOk 1 [] bad = false ∧ (¬fec8 ∨ 0 = 0)) ∧
    (let u := (zF 1).advance 0; let fec8 := u.fget (lkF kf F.CLCFG_MODE F.FLCFG_MODE) 0 (lkIx kf) = 0; blockOk 1 [] bad = false ∧ (¬fec8 ∨ 0 = 0)) ∧
    (let u := (zF 1).advance 0; blockOk 1 [] liveB = true ∧ u.linkSt kf < 2) ∧
    (let u := (zF 2).advance 0; blockOk 1 [] liveB = true ∧ 2 ≤ u.linkSt kf) ∧
    (let u := ((zF 3).fset F.FLCFG_MODE 0 15 1).advance 0; blockOk 1 [] liveB = true ∧ 2 ≤ u.linkSt kf) ∧
    (let u := (zC 3).advance 0; let x := u.link kc; let n := blkNum ackB 1 2 % 4096; x.unack = [] ++ [(4095, [(1 : Word)]), (0, [(2 : Word)]), (1, [(3 : Word)])] ∧ (4095, [(1 : Word)]).1 = n ∧ (∀ q ∈ ([] : List (Nat × List Word)), q.1 ≠ n) ∧ blockOk 2 [1, 2] ackB = true ∧ 3 ≤ u.linkSt kc) ∧
    (let u := (zC 3).advance 0; let x := u.link kc; let n := blkNum bad 1 2 % 4096; x.unack = [] ++ [(4095, [(1 : Word)]), (0, [(2 : Word)]), (1, [(3 : Word)])] ∧ (4095, [(1 : Word)]).1 = n ∧ (∀ q ∈ ([] : List (Nat × List Word)), q.1 ≠ n) ∧ blockOk 2 [1, 2] bad = false) :=
  ⟨⟨by decide, by decide⟩,
   ⟨by decide, by decide⟩,
   ⟨by decide, by decide⟩,
   ⟨by decide, by decide⟩,
   ⟨by decide, by decide⟩,
   ⟨by decide, by decide⟩,
   ⟨by decide, by decide, by decide, by decide, by decide⟩,
   ⟨by decide, by decide, by decide, by decide⟩⟩

theorem witness_LinkBlocksActOrAreDiscarded_2 :
    (let u := (zC 3).advance 0; let x := u.link kc; let n := blkNum nakB 1 2 % 4096; x.unack = [(4095, [(1 : Word)])] ++ [(0, [(2 : Word)]), (1, [(3 : Word)])] ∧ (0, [(2 : Word)]).1 = n ∧ (∀ q ∈ [(4095, [(1 : Word)])], q.1 ≠ n) ∧ blockOk 3 [1, 2] nakB = true ∧ 3 ≤ u.linkSt kc) ∧
    (let u := (zC 2).advance 0; let x := u.link kc; let n := blkNum nakB 1 2 % 4096; x.unack = [(4095, [(1 : Word)])] ++ [(0, [(2 : Word)]), (1, [(3 : Word)])] ∧ (0, [(2 : Word)]).1 = n ∧ (∀ q ∈ [(4095, [(1 : Word)])], q.1 ≠ n) ∧ blockOk 3 [1, 2] nakB = true ∧ u.linkSt kc < 3) ∧
    (let u := (zF 3).advance 0; let x := u.link kf; let n := blkNum ackX 1 2 % 4096; (∀ q ∈ x.unack, q.1 ≠ n) ∧ blockOk 2 [1, 2] ackX = true ∧ 3 ≤ u.linkSt kf) ∧
    (let u := (zF 3).advance 0; let x := u.link kf; let n := blkNum nakX 1 2 % 4096; (∀ q ∈ x.unack, q.1 ≠ n) ∧ blockOk 3 [1, 2] nakX = true ∧ 3 ≤ u.linkSt kf) ∧
    (let u := (zF 3).advance 0; blockOk 4 [1, 2] (ctlBlock 4 [(7 : Byte), (1 : Byte)]) = true ∧ 3 ≤ u.linkSt kf) ∧
    (let u := (zC 3).advance 0; let k := LinkId.catch_ (31 : Fin 32); blockOk 5 [] (ctlBlock 5 []) = true ∧ 3 ≤ u.linkSt k) ∧
    (let u := ((zC 3).fset F.CLSTAT_PHOLD 0 31 1).advance 0; let k := LinkId.catch_ (31 : Fin 32); blockOk 6 [] (ctlBlock 6 []) = true ∧ 3 ≤ u.linkSt k) ∧
    (let u := (zC 3).advance 0; let k := LinkId.catch_ (31 : Fin 32); blockOk 8 [1] (ctlBlock 8 [(255 : Byte)]) = true ∧ 3 ≤ u.linkSt k) :=
  ⟨⟨by decide, by decide, by decide, by decide, by decide⟩,
   ⟨by decide, by decide, by decide, by decide, by decide⟩,
   ⟨by decide, by decide, by decide⟩,
   ⟨by decide, by decide, by decide⟩,
   ⟨by decide, by decide⟩,
   ⟨by decide, by decide⟩,
   ⟨by decide, by decide⟩,
   ⟨by decide, by decide⟩⟩

theorem witness_LinkBlocksActOrAreDiscarded_3 :
    (let u := ((zF 2).fset F.FLCFG_PEERV 0 15 1).advance 0; let k := LinkId.fabric (15 : Fin 16); blockOk 15 [1, 2, 3] (ctlBlock 15 [(7 : Byte), (0 : Byte), (3 : Byte)]) = true ∧ 2 ≤ u.linkSt k) ∧
    (let u := (zF 3).advance 0; let k := LinkId.fabric (15 : Fin 16); blockOk 15 [1, 2, 3] (ctlBlock 15 [(255 : Byte), (255 : Byte), (3 : Byte)]) = true ∧ 2 ≤ u.linkSt k) ∧
    (let u := (zF 3).advance 0; let k := LinkId.fabric (15 : Fin 16); blockOk 16 [1, 2, 3] (ctlBlock 16 [(5 : Byte), (2 : Byte), (0 : Byte)]) = true ∧ 3 ≤ u.linkSt k) ∧
    (let u := (zF 3).advance 0; let k := LinkId.fabric (15 : Fin 16); blockOk 16 [1, 2, 3] (ctlBlock 16 [(0 : Byte), (7 : Byte), (0 : Byte)]) = true ∧ 3 ≤ u.linkSt k) ∧
    (let u := (zF 3).advance 0; let k := LinkId.fabric (15 : Fin 16); blockOk 13 [1] (ctlBlock 13 [(9 : Byte)]) = true ∧ 3 ≤ u.linkSt k) ∧
    (let u := (zF 3).advance 0; let k := LinkId.fabric (15 : Fin 16); let x := u.link k; x.dreq = some (blkByte (ctlBlock 14 [(255 : Byte), (100 : Byte)]) 1, 1000) ∧ blockOk 14 [1, 2, 3, 4, 5] (ctlBlock 14 [(255 : Byte), (100 : Byte)]) = true ∧ 3 ≤ u.linkSt k) ∧
    (let u := (zF 3).advance 0; let k := LinkId.fabric (15 : Fin 16); let x := u.link k; (∀ (t1 : ℕ), x.dreq ≠ some (blkByte (ctlBlock 14 [(254 : Byte), (100 : Byte)]) 1, t1)) ∧ blockOk 14 [1, 2, 3, 4, 5] (ctlBlock 14 [(254 : Byte), (100 : Byte)]) = true ∧ 3 ≤ u.linkSt k) :=
  ⟨⟨by decide, by decide⟩,
   ⟨by decide, by decide⟩,
   ⟨by decide, by decide⟩,
   ⟨by decide, by decide⟩,
   ⟨by decide, by decide⟩,
   ⟨by decide, by decide, by decide⟩,
   ⟨first_ne _ _ (by decide), by decide, by decide⟩⟩

end W12
end Sys2Proof.Tests
end

