-- ==== Sys2Proof/Tests/W13.lean ====
section
/-! SUPPORT. States that meet the hypotheses of: CatchFramesAreClassified. -/
set_option Elab.async false
open Sys2Proof Sys2Proof.Machine
namespace Sys2Proof.Tests
namespace W13
def kc : LinkId := .catch_ 31
def kf : LinkId := .fabric 15
def zK := { strand 0 { wth [] with pc := 7 } with now := 9000 }
def lk (k : LinkId) (st : Nat) (x : Link) (s : State) : State := { s.fset (if isFab k then F.FLSTAT_STATE else F.CLSTAT_STATE) 0 (lkIx k) st with links := [(k, x)] }
def siteI : Nat := 64 * 31 + 63
def zCf (x : Link) : State := (((lk kc 3 x zK).fset F.CLSTAT_RXSEQ 0 31 4095).fset F.CLCFG_FTILE 0 31 5).fset F.CLCNT1_FRDROP 0 31 3
def fr (type seq nc : Nat) (w2 w4 : Word) (xf : Nat) : List Word := [wd (type + seq * 16 + 63 * 2 ^ 16 + nc * 2 ^ 26 + 9 * 2 ^ 22 + xf * 2 ^ 32), 0x123, w2, 0, w4, 0, 0, 0]
def site (f : List (Fld × Nat)) (s : State) : State := f.foldl (fun s p => s.fset p.1 0 siteI p.2) s
def zSite := site [(F.SITEW0_EN, 1), (F.SITEW0_CTX, 77), (F.SITEW0_CLS, 1), (F.SITEW2_VDST, 5 * 16384 + 9), (F.SITEW2_ADST, 6 * 16384 + 8), (F.SITEW1_ITERC, 65535)] (zCf Link.rst)
def zFold := { zSite with pcount := [(siteI, (2 ^ 64 - 2, 17))] }
def full (s : State) : State := { s with mesh := { s.mesh with ret := [((cgRouter 7, portNo true), (List.range 16).map fun i => (mkPacket 0 2 1 true 1 true 1 (.marker i), 9, true))] } }
def zVA := full zSite
def zVAl := { full (((site [(F.SITEW0_LNEN, 1), (F.SITEW0_FLANE, 4095)] zSite).fset F.LANECFG_SRCK 0 4095 0).fset F.LANECFG_SRC 0 4095 31) with lanes := [(4095, { Lane.rst with st := .active, next := 2 ^ 24 - 1, credit := 1 })] }

theorem witness_CatchFramesAreClassified_1 :
    (let u := (zCf ({ Link.rst with dropping := true })).advance 0; let k := LinkId.catch_ (31 : Fin 32); let x := u.link k; (u.linkSt k ≠ 3 ∨ x.dropping = true)) ∧
    (let u := (zCf Link.rst).advance 0; let k := LinkId.catch_ (31 : Fin 32); let x := u.link k; let behind := (u.rxSeq k + 4096 - fSeq (fr 1 2047 0 (0 : Word) (0 : Word) 0)) % 4096; u.linkSt k = 3 ∧ x.dropping = false ∧ behind ≠ 0) ∧
    (let u := (zCf Link.rst).advance 0; let k := LinkId.catch_ (31 : Fin 32); let x := u.link k; let behind := (u.rxSeq k + 4096 - fSeq (fr 1 2046 0 (0 : Word) (0 : Word) 0)) % 4096; u.linkSt k = 3 ∧ x.dropping = false ∧ behind ≠ 0) ∧
    (let u := zSite.advance 0; let i := 64 * 31 + fSite (fr 7 4095 0 (0 : Word) (0 : Word) 0); let en := u.fget F.SITEW0_EN 0 i = 1; u.FrameNext (31 : Fin 32) (fr 7 4095 0 (0 : Word) (0 : Word) 0) ∧ frameBad (fr 7 4095 0 (0 : Word) (0 : Word) 0) = true ∧ en) ∧
    (let u := (zCf ({ Link.rst with rxCount := 63 })).advance 0; let i := 64 * 31 + fSite (fr 1 4095 0 (0 : Word) (0 : Word) 8); let en := u.fget F.SITEW0_EN 0 i = 1; u.FrameNext (31 : Fin 32) (fr 1 4095 0 (0 : Word) (0 : Word) 8) ∧ frameBad (fr 1 4095 0 (0 : Word) (0 : Word) 8) = true ∧ (¬en)) ∧
    (let u := (zCf ({ Link.rst with rxCount := 63 })).advance 0; let i := 64 * 31 + fSite (fr 1 4095 0 (0 : Word) (0 : Word) 0); let en := u.fget F.SITEW0_EN 0 i = 1; u.FrameNext (31 : Fin 32) (fr 1 4095 0 (0 : Word) (0 : Word) 0) ∧ frameBad (fr 1 4095 0 (0 : Word) (0 : Word) 0) = false ∧ (¬en)) ∧
    (let u := zSite.advance 0; let i := 64 * 31 + fSite (fr 1 4095 0 (0 : Word) (7 : Word) 0); u.FrameNext (31 : Fin 32) (fr 1 4095 0 (0 : Word) (7 : Word) 0) ∧ frameBad (fr 1 4095 0 (0 : Word) (7 : Word) 0) = false ∧ fType (fr 1 4095 0 (0 : Word) (7 : Word) 0) = 1 ∧ u.fget F.SITEW0_EN 0 i = 1 ∧ u.fget F.SITEW0_CNTEN 0 i = 0 ∧ u.fget F.SITEW0_C0EN 0 i = 0 ∧ fw (fr 1 4095 0 (0 : Word) (7 : Word) 0) 2 = (0 : Word) ∧ fw (fr 1 4095 0 (0 : Word) (7 : Word) 0) 3 = (0 : Word)) ∧
    (let u := zFold.advance 0; let i := 64 * 31 + fSite (fr 1 4095 1 (0 : Word) (7 : Word) 0); u.FrameNext (31 : Fin 32) (fr 1 4095 1 (0 : Word) (7 : Word) 0) ∧ frameBad (fr 1 4095 1 (0 : Word) (7 : Word) 0) = false ∧ fType (fr 1 4095 1 (0 : Word) (7 : Word) 0) = 1 ∧ u.fget F.SITEW0_EN 0 i = 1 ∧ u.fget F.SITEW0_CNTEN 0 i = 0 ∧ u.fget F.SITEW0_C0EN 0 i = 0 ∧ fw (fr 1 4095 1 (0 : Word) (7 : Word) 0) 2 = (0 : Word) ∧ fw (fr 1 4095 1 (0 : Word) (7 : Word) 0) 3 = (0 : Word)) :=
  ⟨(by decide),
   ⟨by decide, by decide, by decide⟩,
   ⟨by decide, by decide, by decide⟩,
   ⟨⟨by decide, by decide, by decide, by decide, by decide, by decide⟩, by decide, by decide⟩,
   ⟨⟨by decide, by decide, by decide, by decide, by decide, by decide⟩, by decide, by decide⟩,
   ⟨⟨by decide, by decide, by decide, by decide, by decide, by decide⟩, by decide, by decide⟩,
   ⟨⟨by decide, by decide, by decide, by decide, by decide, by decide⟩, by decide, by decide, by decide, by decide, by decide, by decide, by decide⟩,
   ⟨⟨by decide, by decide, by decide, by decide, by decide, by decide⟩, by decide, by decide, by decide, by decide, by decide, by decide, by decide⟩⟩

theorem witness_CatchFramesAreClassified_2 :
    (let u := zVA.advance 0; let i := 64 * 31 + fSite (fr 1 4095 0 (1 : Word) (7 : Word) 0); u.FrameNext (31 : Fin 32) (fr 1 4095 0 (1 : Word) (7 : Word) 0) ∧ frameBad (fr 1 4095 0 (1 : Word) (7 : Word) 0) = false ∧ fType (fr 1 4095 0 (1 : Word) (7 : Word) 0) = 1 ∧ u.fget F.SITEW0_EN 0 i = 1 ∧ u.fget F.SITEW0_CNTEN 0 i = 0 ∧ u.fget F.SITEW0_C0EN 0 i = 0 ∧ fw (fr 1 4095 0 (1 : Word) (7 : Word) 0) 2 ≠ (0 : Word) ∧ fNC (fr 1 4095 0 (1 : Word) (7 : Word) 0) = 0 ∧ u.fget F.SITEW0_CLS 0 i ≠ 0 ∧ 16 ≤ (u.retq (cgRouter (31 / 4)) true).length ∧ u.fget F.SITEW0_LNEN 0 i = 0) ∧
    (let u := zVAl.advance 0; let i := 64 * 31 + fSite (fr 1 4095 0 (1 : Word) (7 : Word) 0); let f := u.fget F.SITEW0_FLANE 0 i; u.FrameNext (31 : Fin 32) (fr 1 4095 0 (1 : Word) (7 : Word) 0) ∧ frameBad (fr 1 4095 0 (1 : Word) (7 : Word) 0) = false ∧ fType (fr 1 4095 0 (1 : Word) (7 : Word) 0) = 1 ∧ u.fget F.SITEW0_EN 0 i = 1 ∧ u.fget F.SITEW0_CNTEN 0 i = 0 ∧ u.fget F.SITEW0_C0EN 0 i = 0 ∧ fw (fr 1 4095 0 (1 : Word) (7 : Word) 0) 2 ≠ (0 : Word) ∧ fNC (fr 1 4095 0 (1 : Word) (7 : Word) 0) = 0 ∧ u.fget F.SITEW0_CLS 0 i ≠ 0 ∧ 16 ≤ (u.retq (cgRouter (31 / 4)) true).length ∧ u.fget F.SITEW0_LNEN 0 i = 1 ∧ u.laneOfLink 31 f = true ∧ (u.lane f).credit ≠ 0) :=
  ⟨⟨⟨by decide, by decide, by decide, by decide, by decide, by decide⟩, by decide, by decide, by decide, by decide, by decide, by decide, by decide, by decide, by decide, by decide⟩,
   ⟨⟨by decide, by decide, by decide, by decide, by decide, by decide⟩, by decide, by decide, by decide, by decide, by decide, by decide, by decide, by decide, by decide, by decide, by decide, by decide⟩⟩

end W13
end Sys2Proof.Tests
end

