-- ==== Sys2Proof/Tests/W14.lean ====
section
/-! SUPPORT. States that meet the hypotheses of: LinksComeUpKeepTimeAndAreLost. -/
set_option Elab.async false
open Sys2Proof Sys2Proof.Machine
namespace Sys2Proof.Tests
namespace W14
def kc : LinkId := .catch_ 31
def kf : LinkId := .fabric 15
def zK := { strand 0 { wth [] with pc := 7 } with now := 9000 }
def lk (k : LinkId) (st : Nat) (x : Link) (s : State) : State := { s.fset (if isFab k then F.FLSTAT_STATE else F.CLSTAT_STATE) 0 (lkIx k) st with links := [(k, x)] }
def xV : Link := { Link.rst with unack := [(4095, [1]), (0, [2]), (1, [3])], replayq := [(0, [2]), (1, [3])], verd := [⟨7, 1, 2, 3, false, 0, false, false⟩, ⟨255, 1, 2, 3, false, 9000, true, false⟩], ctrl := [(5, ctlBlock 0x0B [], 0)], rxCount := 63, rxAt := 17, dropping := true, nakDue := true, owed := [(3, 2)], cred := [(3, 63)], dreq := some (255, 1000), dreqId := 254, nakAt := some 5800, liveSeen := true }
def zC (st : Nat) := lk kc st xV zK
def zF (st : Nat) := lk kf st xV zK
def bad : List Byte := ctlBlock 2 [0xFF, 0x0F, 1]
def ackB := ctlBlock 2 [0xFF, 0x0F]
def ackX := ctlBlock 2 [0x44, 0x04]
def nakB := ctlBlock 3 [0, 0]
def nakX := ctlBlock 3 [9, 0]
def liveB := ctlBlock 1 []
def zFu := ((zF 2).fset F.FLCFG_PEERV 0 15 1).fset F.FLCFG_PEER 0 15 7 |>.fset F.FLSTAT_PDEV 0 15 7
def zFi := { zFu with links := [(kf, { xV with ident := true })] }
def stimT (a : Nat) : Token := ⟨1, 2, 8, wd (a * 65536 + 7)⟩
def zStim (a : Nat) := lk kc 3 { xV with stim := some (stimT a) } (zK.fset F.DRSTAT_DSIZE 0 0 4)
def zOld := { zF 3 with links := [(kf, { xV with dreqAt := 2 ^ 48 - 1, identAt := 2 ^ 48 - 1 })] }
def zCnt := zOld.fset F.SLATE_COUNT 0 0 1023
def cfg (k : LinkId) (v : Nat) (s : State) := s.setReg (linkCfg k) 0 (lkIx k) (wd v)

theorem witness_LinksComeUpKeepTimeAndAreLost_1 :
    (let u := (zC 1).advance 0; u.linkSt kc = 1) ∧
    (let u := (zF 1).advance 0; u.linkSt kf = 1) ∧
    (let u := (zF 2).advance 0; u.linkSt kf ≠ 1) ∧
    (let u := (zF 2).advance 0; let x := u.link kf; (u.linkSt kf ≠ 2 ∨ x.liveSeen = false ∨ u.peerOk kf = false)) ∧
    (let u := (zF 2).advance 0; 2 ≤ u.linkSt kf ∧ u.Unwatched) ∧
    (let u := (zF 3).advance 0; 2 ≤ u.linkSt kf ∧ u.Unwatched) ∧
    (let u := (zC 3).advance 0; 2 ≤ u.linkSt kc ∧ u.Unwatched) ∧
    (let u := (zC 1).advance 0; u.linkSt kc < 2) :=
  ⟨(by decide +kernel),
   (by decide +kernel),
   (by decide +kernel),
   (by decide +kernel),
   ⟨by decide +kernel, ⟨by decide +kernel, by decide +kernel⟩⟩,
   ⟨by decide +kernel, ⟨by decide +kernel, by decide +kernel⟩⟩,
   ⟨by decide +kernel, ⟨by decide +kernel, by decide +kernel⟩⟩,
   (by decide +kernel)⟩

theorem witness_LinksComeUpKeepTimeAndAreLost_2 :
    (let u := (zF 3).advance 0; let x := u.link kf; 2 ≤ u.linkSt kf ∧ x.liveRx + 6400 ≤ u.now ∧ u.Unwatched) ∧
    (let u := (zC 1).advance 0; let x := u.link kc; (u.linkSt kc < 2 ∨ u.now < x.liveRx + 6400)) ∧
    (let u := (zF 2).advance 0; let x := u.link kf; 2 ≤ u.linkSt kf ∧ x.liveTx + 800 ≤ u.now) ∧
    (let u := (zF 1).advance 0; let x := u.link kf; (u.linkSt kf < 2 ∨ u.now < x.liveTx + 800)) ∧
    (let u := (zF 3).advance 0; let x := u.link kf; u.linkSt kf = 3 ∧ x.rxCount ≠ 0 ∧ x.rxAt + 409 ≤ u.now) ∧
    (let u := (zF 2).advance 0; let x := u.link kf; (u.linkSt kf ≠ 3 ∨ x.rxCount = 0 ∨ u.now < x.rxAt + 409)) ∧
    (let u := (zF 3).advance 0; let x := u.link kf; x.nakAt = some 5800 ∧ u.linkSt kf = 3 ∧ 5800 + 3200 ≤ u.now) ∧
    (let u := (zF 2).advance 0; let x := u.link kf; (∀ (c : ℕ), x.nakAt = some c → u.linkSt kf ≠ 3 ∨ u.now < c + 3200)) :=
  ⟨⟨by decide +kernel, by decide +kernel, ⟨by decide +kernel, by decide +kernel⟩⟩,
   (by decide +kernel),
   ⟨by decide +kernel, by decide +kernel⟩,
   (by decide +kernel),
   ⟨by decide +kernel, by decide +kernel, by decide +kernel⟩,
   (by decide +kernel),
   ⟨by decide +kernel, by decide +kernel, by decide +kernel⟩,
   (by decide +kernel)⟩

theorem witness_LinksComeUpKeepTimeAndAreLost_3 :
    (let u := (zF 3).advance 0; let x := u.link kf; x.unack = [(4095, [(1 : Word)]), (0, [(2 : Word)]), (1, [(3 : Word)])] ∧ u.linkSt kf = 3 ∧ x.ackRx + 3200 ≤ u.now) ∧
    (let u := (zF 2).advance 0; let x := u.link kf; (x.unack = [] ∨ u.linkSt kf ≠ 3 ∨ u.now < x.ackRx + 3200)) ∧
    (let u := (zC 2).advance 0; let k := LinkId.catch_ (31 : Fin 32); let x := u.link k; u.linkSt k = 2 ∧ x.liveSeen = true) ∧
    (let u := (zC 3).advance 0; let k := LinkId.catch_ (31 : Fin 32); u.linkSt k = 3) ∧
    (let u := (zC 2).advance 0; let k := LinkId.catch_ (31 : Fin 32); u.linkSt k ≠ 3) ∧
    (let u := (zC 2).advance 0; let k := LinkId.catch_ (31 : Fin 32); let x := u.link k; x.stim = none) ∧
    (let u := (zStim 64).advance 0; let k := LinkId.catch_ (31 : Fin 32); let x := u.link k; let a := wbits (stimT 64).aux 16 48; x.stim = some (stimT 64) ∧ (∀ j < 7, u.region none (a + 8 * j) = Region.dram (a + 8 * j)) ∧ u.clean a 56 ∧ u.fget F.DRSTAT_MOST 0 0 ≠ 1) ∧
    (let u := (zStim 16492674416640).advance 0; let k := LinkId.catch_ (31 : Fin 32); let x := u.link k; let a := wbits (stimT 16492674416640).aux 16 48; x.stim = some (stimT 16492674416640) ∧ (∀ j < 7, u.region none (a + 8 * j) = Region.unmapped)) :=
  ⟨⟨by decide +kernel, by decide +kernel, by decide +kernel⟩,
   (by decide +kernel),
   ⟨by decide +kernel, by decide +kernel⟩,
   (by decide +kernel),
   (by decide +kernel),
   (by decide +kernel),
   ⟨by decide +kernel, by decide +kernel, by unfold State.clean; decide +kernel, by decide +kernel⟩,
   ⟨by decide +kernel, by decide +kernel⟩⟩

theorem witness_LinksComeUpKeepTimeAndAreLost_4 :
    (let u := zFi.advance 0; let k := LinkId.fabric (15 : Fin 16); let x := u.link k; u.linkSt k = 2 ∧ x.liveSeen = true ∧ u.peerOk k = true ∧ u.Unwatched) ∧
    (let u := (zF 3).advance 0; let k := LinkId.fabric (15 : Fin 16); let x := u.link k; (∃ p ∈ x.owed, p.2 ≠ 0) ∧ x.owedAt + 409 ≤ u.now) ∧
    (let u := ({ zF 3 with links := [] }).advance 0; let k := LinkId.fabric (15 : Fin 16); let x := u.link k; ((∀ p ∈ x.owed, p.2 = 0) ∨ u.now < x.owedAt + 409)) ∧
    (let u := zCnt.advance 0; let k := LinkId.fabric (15 : Fin 16); let x := u.link k; u.linkSt k = 3 ∧ 1024 ≤ (u.count + 2 ^ 48 - x.dreqAt) % 2 ^ 48) ∧
    (let u := zOld.advance 0; let k := LinkId.fabric (15 : Fin 16); let x := u.link k; (u.linkSt k ≠ 3 ∨ (u.count + 2 ^ 48 - x.dreqAt) % 2 ^ 48 < 1024)) ∧
    (let old := (cfg kc 1 (zC 3)).reg (linkCfg kc) 0 (lkIx kc); let fixed := wbits old 0 1 = 1 ∧ wbits old 1 1 ≠ wbits (wd 3) 1 1; (cfg kc 1 (zC 3)).Passes (Req.aklofy 0) (linkCfg kc) 0 (lkIx kc) (wd 3) ∧ wbits (wd 3) 0 1 = 1 ∧ fixed ∧ Req.aklofy 0 ≠ Req.host ∧ (cfg kc 1 (zC 3)).canTell (Req.aklofy 0)) ∧
    (let old := ({ cfg kf 1 (zF 3) with threads := [(1024, rdy)] }).reg (linkCfg kf) 0 (lkIx kf); let fixed := wbits old 0 1 = 1 ∧ wbits old 1 1 ≠ wbits (wd 3) 1 1; ({ cfg kf 1 (zF 3) with threads := [(1024, rdy)] }).Passes (Req.thread 64 0) (linkCfg kf) 0 (lkIx kf) (wd 3) ∧ wbits (wd 3) 0 1 = 1 ∧ fixed ∧ Req.thread 64 0 ≠ Req.host ∧ ({ cfg kf 1 (zF 3) with threads := [(1024, rdy)] }).canTell (Req.thread 64 0)) ∧
    (let old := (cfg kc 0 (zC 0)).reg (linkCfg kc) 0 (lkIx kc); let fixed := wbits old 0 1 = 1 ∧ wbits old 1 1 ≠ wbits (wd 19) 1 1; (cfg kc 0 (zC 0)).Passes (Req.aklofy 0) (linkCfg kc) 0 (lkIx kc) (wd 19) ∧ wbits (wd 19) 0 1 = 1 ∧ (¬fixed) ∧ (cfg kc 0 (zC 0)).linkSt kc = 0) :=
  ⟨⟨by decide +kernel, by decide +kernel, by decide +kernel, ⟨by decide +kernel, by decide +kernel⟩⟩,
   ⟨by decide +kernel, by decide +kernel⟩,
   (by decide +kernel),
   ⟨by decide +kernel, by decide +kernel⟩,
   (by decide +kernel),
   ⟨⟨by decide +kernel, by decide +kernel, by decide +kernel, by decide +kernel, by decide +kernel, by decide +kernel⟩, by decide +kernel, by decide +kernel, by decide +kernel, by unfold State.canTell; decide +kernel⟩,
   ⟨⟨by decide +kernel, by decide +kernel, by decide +kernel, by decide +kernel, by decide +kernel, by decide +kernel⟩, by decide +kernel, by decide +kernel, by decide +kernel, canTell_of _ _ _ (by decide +kernel) (by decide +kernel) (by decide +kernel) (fun h => absurd h (by decide +kernel))⟩,
   ⟨⟨by decide +kernel, by decide +kernel, by decide +kernel, by decide +kernel, by decide +kernel, by decide +kernel⟩, by decide +kernel, by decide +kernel, by decide +kernel⟩⟩

theorem witness_LinksComeUpKeepTimeAndAreLost_5 :
    (let old := (cfg kf 0 (zF 0)).reg (linkCfg kf) 0 (lkIx kf); let fixed := wbits old 0 1 = 1 ∧ wbits old 1 1 ≠ wbits (wd 3) 1 1; (cfg kf 0 (zF 0)).Passes (Req.aklofy 0) (linkCfg kf) 0 (lkIx kf) (wd 3) ∧ wbits (wd 3) 0 1 = 1 ∧ (¬fixed) ∧ (cfg kf 0 (zF 0)).linkSt kf = 0) ∧
    (let old := (cfg kc 1 (zC 3)).reg (linkCfg kc) 0 (lkIx kc); let fixed := wbits old 0 1 = 1 ∧ wbits old 1 1 ≠ wbits (wd 1) 1 1; let safex := isFab kc = false ∧ wbits (wd 1) 4 1 = 1; (cfg kc 1 (zC 3)).Passes (Req.aklofy 0) (linkCfg kc) 0 (lkIx kc) (wd 1) ∧ wbits (wd 1) 0 1 = 1 ∧ (¬fixed) ∧ (cfg kc 1 (zC 3)).linkSt kc ≠ 0 ∧ (¬safex)) ∧
    (let old := (cfg kc 1 (zC 3)).reg (linkCfg kc) 0 (lkIx kc); let fixed := wbits old 0 1 = 1 ∧ wbits old 1 1 ≠ wbits (wd 2) 1 1; (cfg kc 1 (zC 3)).Passes (Req.aklofy 0) (linkCfg kc) 0 (lkIx kc) (wd 2) ∧ wbits (wd 2) 0 1 = 0 ∧ fixed ∧ Req.aklofy 0 ≠ Req.host ∧ (cfg kc 1 (zC 3)).canTell (Req.aklofy 0)) ∧
    (let old := (cfg kc 1 (zC 3)).reg (linkCfg kc) 0 (lkIx kc); let fixed := wbits old 0 1 = 1 ∧ wbits old 1 1 ≠ wbits (wd 0) 1 1; (cfg kc 1 (zC 3)).Passes (Req.aklofy 0) (linkCfg kc) 0 (lkIx kc) (wd 0) ∧ wbits (wd 0) 0 1 = 0 ∧ (¬fixed) ∧ (cfg kc 1 (zC 3)).linkSt kc ≠ 0 ∧ (cfg kc 1 (zC 3)).Unwatched) ∧
    (let old := (cfg kf 1 (zF 3)).reg (linkCfg kf) 0 (lkIx kf); let fixed := wbits old 0 1 = 1 ∧ wbits old 1 1 ≠ wbits (wd 0) 1 1; (cfg kf 1 (zF 3)).Passes (Req.aklofy 0) (linkCfg kf) 0 (lkIx kf) (wd 0) ∧ wbits (wd 0) 0 1 = 0 ∧ (¬fixed) ∧ (cfg kf 1 (zF 3)).linkSt kf ≠ 0 ∧ (cfg kf 1 (zF 3)).Unwatched) ∧
    (let k := LinkId.catch_ (31 : Fin 32); (cfg kc 1 (zC 3)).Passes (Req.aklofy 0) RegKind.CLCFG 0 31 (wset ((cfg kc 1 (zC 3)).reg RegKind.CLCFG 0 31) 4 1 1) ∧ (cfg kc 1 (zC 3)).fget F.CLCFG_EN 0 31 = 1 ∧ (cfg kc 1 (zC 3)).linkSt k = 3) ∧
    (let k := LinkId.catch_ (31 : Fin 32); (cfg kc 1 (zC 1)).Passes (Req.aklofy 0) RegKind.CLCFG 0 31 (wset ((cfg kc 1 (zC 1)).reg RegKind.CLCFG 0 31) 4 1 1) ∧ (cfg kc 1 (zC 1)).fget F.CLCFG_EN 0 31 = 1 ∧ ((cfg kc 1 (zC 1)).linkSt k = 1 ∨ (cfg kc 1 (zC 1)).linkSt k = 2)) :=
  ⟨⟨⟨by decide +kernel, by decide +kernel, by decide +kernel, by decide +kernel, by decide +kernel, by decide +kernel⟩, by decide +kernel, by decide +kernel, by decide +kernel⟩,
   ⟨⟨by decide +kernel, by decide +kernel, by decide +kernel, by decide +kernel, by decide +kernel, by decide +kernel⟩, by decide +kernel, by decide +kernel, by decide +kernel, by decide +kernel⟩,
   ⟨⟨by decide +kernel, by decide +kernel, by decide +kernel, by decide +kernel, by decide +kernel, by decide +kernel⟩, by decide +kernel, by decide +kernel, by decide +kernel, by unfold State.canTell; decide +kernel⟩,
   ⟨⟨by decide +kernel, by decide +kernel, by decide +kernel, by decide +kernel, by decide +kernel, by decide +kernel⟩, by decide +kernel, by decide +kernel, by decide +kernel, ⟨by decide +kernel, by decide +kernel⟩⟩,
   ⟨⟨by decide +kernel, by decide +kernel, by decide +kernel, by decide +kernel, by decide +kernel, by decide +kernel⟩, by decide +kernel, by decide +kernel, by decide +kernel, ⟨by decide +kernel, by decide +kernel⟩⟩,
   ⟨⟨by decide +kernel, by decide +kernel, by decide +kernel, by decide +kernel, by decide +kernel, by decide +kernel⟩, by decide +kernel, by decide +kernel⟩,
   ⟨⟨by decide +kernel, by decide +kernel, by decide +kernel, by decide +kernel, by decide +kernel, by decide +kernel⟩, by decide +kernel, by decide +kernel⟩⟩

end W14
end Sys2Proof.Tests
end

