-- ==== Sys2Proof/Tests/W15.lean ====
section
/-! SUPPORT. States that meet the hypotheses of: FabricFramesAreTakenAndRouted. -/
set_option Elab.async false
open Sys2Proof Sys2Proof.Machine
namespace Sys2Proof.Tests
namespace W15
def kc : LinkId := .catch_ 31
def kf : LinkId := .fabric 15
def zK := { strand 0 { wth [] with pc := 7 } with now := 9000 }
def lk (k : LinkId) (st : Nat) (x : Link) (s : State) : State := { s.fset (if isFab k then F.FLSTAT_STATE else F.CLSTAT_STATE) 0 (lkIx k) st with links := [(k, x)] }
def xV : Link := { Link.rst with unack := [(4095, [1]), (0, [2]), (1, [3])], replayq := [(0, [2]), (1, [3])], verd := [⟨7, 1, 2, 3, false, 0, false, false⟩, ⟨255, 1, 2, 3, false, 9000, true, false⟩], ctrl := [(5, ctlBlock 0x0B [], 0)], rxCount := 63, rxAt := 17, dropping := true, nakDue := true, owed := [(3, 2)], cred := [(3, 63)], dreq := some (255, 1000), dreqId := 254, nakAt := some 5800, liveSeen := true }
def zC (st : Nat) := lk kc st xV zK
def zF (st : Nat) := lk kf st xV zK
def bad : List Byte := ctlBlock 2 [0xFF, 0x0F, 1]
def ackB := ctlBlock 2 [0xFF, 0x0F]
def ackX := ctlBlock 2 [0x44, 0x04]
def nakB := ctlBlock 3 [0, 0]
def nakX := ctlBlock 3 [9, 0]
def liveB := ctlBlock 1 []
def xF : Link := { Link.rst with rxCount := 63, owed := [(3, 2)], owedAt := 8, cred := [(3, 63)] }
def zR := ((lk kf 3 xF zK).fset F.FLSTAT_RXSEQ 0 15 4095).fset F.FABCFG_DEVNUM 0 0 7
/-- bank 0 FREE, bank 1 CURRENT -/
def ent (b dev l dl v : Nat) (s : State) : State := s.setReg .RTENT 0 (b * 8192 + dev / 8) (wset (s.reg .RTENT 0 (b * 8192 + dev / 8)) (8 * (dev % 8)) 8 (l + v * 16 + dl * 32))
def banks (s : State) : State := ((s.fset F.RTBANK_STATE 0 0 3).fset F.RTBANK_STATE 0 1 2).fset F.RTBANK_FROM 0 1 5 |>.fset F.FABSTAT_HOPSX 0 0 (2^16 - 1)
def zR2 := banks (ent 0 9 15 0 1 (ent 1 9 14 1 1 (ent 1 8 15 1 1 zR)))
def tok (dev hops : Nat) : Token := ⟨mkTag 1 40 9 0 0 2 0, mkDst dev 0 0 hops, 7, 9⟩
def ft (dev hops ret take sdev sub : Nat) : FabTok := ⟨tok dev hops, ret, take, sdev, 40, sub, some 0, some (15, 5)⟩
def frm (k : FabTok) : List Word := let w := k.frame k.sub k.tok; (wset (w.getD 0 0) 4 12 4095) :: w.drop 1
def frs (seq : Nat) (k : FabTok) : List Word := let w := k.frame k.sub k.tok; (wset (w.getD 0 0) 4 12 seq) :: w.drop 1
def gat (k : FabTok) (s : State) : State := { s with fgq := [(0, [ft 1 1 0 0 0 0]), (3, [k])] }
def zFarR := { zR2 with fgq := [] }

/-- A frame whose CRC field is c. -/
def frc (k : FabTok) (c : Nat) : List Word := frm { k with crc := some c }
theorem crcBits_lt (p s n : Nat) (hp : p < 2 ^ 32) (hs : s < 2 ^ 32) : crcBits p s n < 2 ^ 32 := by
  induction n generalizing s with
  | zero => exact hs
  | succ n ih =>
    unfold crcBits
    refine ih _ ?_
    split
    · exact Nat.xor_lt_two_pow (by omega) hp
    · omega
theorem crcRefl_lt (p s b n : Nat) (hp : p < 2 ^ 32) (hs : s < 2 ^ 32) : crcRefl p s b n < 2 ^ 32 := by
  induction n generalizing s b with
  | zero => exact hs
  | succ n ih => exact ih _ _ (crcBits_lt _ _ _ hp (Nat.xor_lt_two_pow hs (by omega)))
theorem fabCrc_lt (w : List Word) : fabCrc w < 2 ^ 32 :=
  Nat.xor_lt_two_pow (crcRefl_lt _ _ _ _ (by decide) Config.crcInit.isLt) Config.crcFinal.isLt
theorem frc_one (k : FabTok) (c : Nat) (hk : k.ret < 8) (hc : c < 2 ^ 32) : fw (frc k c) 1 = wd ((if k.ret = 0 then 0 else 0x11 + k.ret * 256) + c * 2 ^ 32) ∧
    (fw (frc k c) 1).toNat = (if k.ret = 0 then 0 else 0x11 + k.ret * 256) + c * 2 ^ 32 := by
  have h : fw (frc k c) 1 = wd ((if k.ret = 0 then 0 else 0x11 + k.ret * 256) + c * 2 ^ 32) := rfl
  refine ⟨h, ?_⟩
  rw [h]
  simp only [wd, BitVec.toNat_ofNat]
  split <;> omega
theorem frc_same (k : FabTok) (c d : Nat) : fw (frc k c) 0 = fw (frc k d) 0 ∧ fw (frc k c) 2 = fw (frc k d) 2 ∧ fw (frc k c) 3 = fw (frc k d) 3 ∧ fw (frc k c) 4 = fw (frc k d) 4 ∧
    fw (frc k c) 5 = fw (frc k d) 5 ∧ fw (frc k c) 6 = fw (frc k d) 6 ∧ fw (frc k c) 7 = fw (frc k d) 7 ∧ (frc k c).length = (frc k d).length := by
  simp [frc, frm, FabTok.frame, fw]
theorem frc_crc (k : FabTok) (c d : Nat) (hk : k.ret < 8) (hc : c < 2 ^ 32) (hd : d < 2 ^ 32) : fabCrc (frc k c) = fabCrc (frc k d) := by
  have h : wbits (fw (frc k c) 1) 0 32 = wbits (fw (frc k d) 1) 0 32 := by
    unfold wbits bits
    rw [(frc_one k c hk hc).2, (frc_one k d hk hd).2]
    omega
  obtain ⟨e0, e2, e3, e4, e5, _⟩ := frc_same k c d
  simp only [fabCrc, h, e0, e2, e3, e4, e5]
theorem frc_frame (l : Nat) (k : FabTok) (c d : Nat) (hk : k.ret < 8) (hc : c < 2 ^ 32) (hd : d < 2 ^ 32) : frameFab l (frc k c) = { frameFab l (frc k d) with crc := some c } := by
  have h : wbits (fw (frc k c) 1) 8 3 = wbits (fw (frc k d) 1) 8 3 := by
    unfold wbits bits
    rw [(frc_one k c hk hc).2, (frc_one k d hk hd).2]
    omega
  have h2 : wbits (fw (frc k c) 1) 32 32 = c := by
    unfold wbits bits
    rw [(frc_one k c hk hc).2]
    split <;> omega
  obtain ⟨e0, e2, e3, e4, e5, _⟩ := frc_same k c d
  simp only [frameFab, frameTok, fType, h, h2, e0, e2, e3, e4, e5]
  rfl
theorem frc_bad (k : FabTok) (c d : Nat) (hk : k.ret < 8) (hc : c < 2 ^ 32) (hd : d < 2 ^ 32) : fabFrameBad (frc k c) = fabFrameBad (frc k d) := by
  have h : wbits (fw (frc k c) 1) 11 21 = wbits (fw (frc k d) 1) 11 21 := by
    unfold wbits bits
    rw [(frc_one k c hk hc).2, (frc_one k d hk hd).2]
    split <;> omega
  have h2 : wbits (fw (frc k c) 1) 0 11 = wbits (fw (frc k d) 1) 0 11 := by
    unfold wbits bits
    rw [(frc_one k c hk hc).2, (frc_one k d hk hd).2]
    omega
  obtain ⟨e0, _, _, _, _, e6, e7, el⟩ := frc_same k c d
  simp only [fabFrameBad, fType, h, h2, e0, e6, e7, el]
  rfl
/-- The right CRC of a frame. -/
def good (k : FabTok) : Nat := fabCrc (frc k 0)
theorem good_lt (k : FabTok) : good k < 2 ^ 32 := fabCrc_lt _
theorem off_lt (k : FabTok) : (good k + 1) % 2 ^ 32 < 2 ^ 32 := by omega
theorem off_ne (k : FabTok) : (good k + 1) % 2 ^ 32 ≠ good k := by
  have := good_lt k
  omega
def kT := ft 7 3 0 0 9 1
def kB := ft 0xFFFF 3 0 0 9 1
def kR := ft 9 3 2 0 7 1
def zTx := { zR2 with links := [(kf, { xF with txq := [.fab 2 1 []] })] }

theorem witness_FabricFramesAreTakenAndRouted_1 :
    (let u := (zF 2).advance 0; let k := LinkId.fabric (15 : Fin 16); let x := u.link k; ((fun dt l w => Instr.fabricTokenFrame dt l w) ∈ [fun dt l w => Instr.fabricTokenFrame dt l w, fun dt l w => Instr.retFrame dt l w]) ∧ (u.linkSt k ≠ 3 ∨ x.dropping = true)) ∧
    (let u := zR.advance 0; let k := LinkId.fabric (15 : Fin 16); let x := u.link k; let behind := (u.rxSeq k + 4096 - fSeq (frs 2047 (ft 7 3 0 0 9 1))) % 4096; ((fun dt l w => Instr.retFrame dt l w) ∈ [fun dt l w => Instr.fabricTokenFrame dt l w, fun dt l w => Instr.retFrame dt l w]) ∧ u.linkSt k = 3 ∧ x.dropping = false ∧ behind ≠ 0) ∧
    (let u := zR.advance 0; let k := LinkId.fabric (15 : Fin 16); let x := u.link k; let behind := (u.rxSeq k + 4096 - fSeq (frs 0 (ft 7 3 0 0 9 1))) % 4096; ((fun dt l w => Instr.retFrame dt l w) ∈ [fun dt l w => Instr.fabricTokenFrame dt l w, fun dt l w => Instr.retFrame dt l w]) ∧ u.linkSt k = 3 ∧ x.dropping = false ∧ behind ≠ 0) ∧
    (let u := zR.advance 0; let k := LinkId.fabric (15 : Fin 16); let x := u.link k; ((fun dt l w => Instr.retFrame dt l w) ∈ [fun dt l w => Instr.fabricTokenFrame dt l w, fun dt l w => Instr.retFrame dt l w]) ∧ u.linkSt k = 3 ∧ x.dropping = false ∧ fSeq (frm (ft 7 3 0 0 9 1) ++ [(0 : Word)]) = u.rxSeq k ∧ fabFrameBad (frm (ft 7 3 0 0 9 1) ++ [(0 : Word)]) = true) ∧
    (let u := zR.advance 0; let k := LinkId.fabric (15 : Fin 16); let x := u.link k; let tk := frameFab 15 (frc kT ((good kT + 1) % 2 ^ 32)); let crc := some (fabCrc (frc kT ((good kT + 1) % 2 ^ 32))); ((fun dt l w => Instr.fabricTokenFrame dt l w) ∈ [fun dt l w => Instr.fabricTokenFrame dt l w, fun dt l w => Instr.retFrame dt l w]) ∧ u.linkSt k = 3 ∧ x.dropping = false ∧ fSeq (frc kT ((good kT + 1) % 2 ^ 32)) = u.rxSeq k ∧ fabFrameBad (frc kT ((good kT + 1) % 2 ^ 32)) = false ∧ u.fabHere tk = true ∧ tk.crc ≠ crc) ∧
    (let u := zR.advance 0; let k := LinkId.fabric (15 : Fin 16); let x := u.link k; let g := 15 / 4; let tk := frameFab 15 (frc kT (good kT)); let crc := some (fabCrc (frc kT (good kT))); ((fun dt l w => Instr.fabricTokenFrame dt l w) ∈ [fun dt l w => Instr.fabricTokenFrame dt l w, fun dt l w => Instr.retFrame dt l w]) ∧ u.linkSt k = 3 ∧ x.dropping = false ∧ fSeq (frc kT (good kT)) = u.rxSeq k ∧ fabFrameBad (frc kT (good kT)) = false ∧ u.fabHere tk = true ∧ tk.crc = crc ∧ tget u.fgq [] g = [] ∧ tk.ret = 0 ∧ u.freeWay (fgRouter g) true (u.fabPacket g tk (TokTo.node tk.tok.tile))) ∧
    (let u := zR.advance 0; let k := LinkId.fabric (15 : Fin 16); let x := u.link k; let g := 15 / 4; let tk := frameFab 15 (frc kB (good kB)); let crc := some (fabCrc (frc kB (good kB))); ((fun dt l w => Instr.fabricTokenFrame dt l w) ∈ [fun dt l w => Instr.fabricTokenFrame dt l w, fun dt l w => Instr.retFrame dt l w]) ∧ u.linkSt k = 3 ∧ x.dropping = false ∧ fSeq (frc kB (good kB)) = u.rxSeq k ∧ fabFrameBad (frc kB (good kB)) = false ∧ u.fabHere tk = true ∧ tk.crc = crc ∧ tget u.fgq [] g = [] ∧ tk.ret = 0 ∧ u.freeWay (fgRouter g) true (u.fabPacket g tk (TokTo.node tk.tok.tile))) ∧
    (let u := zR.advance 0; let k := LinkId.fabric (15 : Fin 16); let x := u.link k; let g := 15 / 4; let tk := frameFab 15 (frc kR (good kR)); let crc := some (fabCrc (frc kR (good kR))); ((fun dt l w => Instr.retFrame dt l w) ∈ [fun dt l w => Instr.fabricTokenFrame dt l w, fun dt l w => Instr.retFrame dt l w]) ∧ u.linkSt k = 3 ∧ x.dropping = false ∧ fSeq (frc kR (good kR)) = u.rxSeq k ∧ fabFrameBad (frc kR (good kR)) = false ∧ u.fabHere tk = true ∧ tk.crc = crc ∧ tget u.fgq [] g = [] ∧ tk.ret ≠ 0) :=
  ⟨⟨by simp, by decide⟩,
   ⟨by simp, by decide, by decide, by decide⟩,
   ⟨by simp, by decide, by decide, by decide⟩,
   ⟨by simp, by decide, by decide, by decide, by decide⟩,
   ⟨by simp, by decide, by decide, by decide +kernel, by rw [frc_bad kT _ 0 (by decide) (off_lt kT) (by decide)]; decide +kernel, by rw [frc_frame 15 kT _ 0 (by decide) (off_lt kT) (by decide)]; decide +kernel, by rw [frc_frame 15 kT _ 0 (by decide) (off_lt kT) (by decide)]; rw [frc_crc kT _ 0 (by decide) (off_lt kT) (by decide)]; exact fun h => off_ne kT (Option.some.inj h)⟩,
   ⟨by simp, by decide, by decide, by decide +kernel, by rw [frc_bad kT _ 0 (by decide) (good_lt kT) (by decide)]; decide +kernel, by rw [frc_frame 15 kT _ 0 (by decide) (good_lt kT) (by decide)]; decide +kernel, by rw [frc_frame 15 kT _ 0 (by decide) (good_lt kT) (by decide)]; rw [frc_crc kT _ 0 (by decide) (good_lt kT) (by decide)]; rfl, by decide, by rw [frc_frame 15 kT _ 0 (by decide) (good_lt kT) (by decide)]; decide +kernel, by rw [frc_frame 15 kT _ 0 (by decide) (good_lt kT) (by decide)]; unfold State.freeWay; decide +kernel⟩,
   ⟨by simp, by decide, by decide, by decide +kernel, by rw [frc_bad kB _ 0 (by decide) (good_lt kB) (by decide)]; decide +kernel, by rw [frc_frame 15 kB _ 0 (by decide) (good_lt kB) (by decide)]; decide +kernel, by rw [frc_frame 15 kB _ 0 (by decide) (good_lt kB) (by decide)]; rw [frc_crc kB _ 0 (by decide) (good_lt kB) (by decide)]; rfl, by decide, by rw [frc_frame 15 kB _ 0 (by decide) (good_lt kB) (by decide)]; decide +kernel, by rw [frc_frame 15 kB _ 0 (by decide) (good_lt kB) (by decide)]; unfold State.freeWay; decide +kernel⟩,
   ⟨by simp, by decide, by decide, by decide +kernel, by rw [frc_bad kR _ 0 (by decide) (good_lt kR) (by decide)]; decide +kernel, by rw [frc_frame 15 kR _ 0 (by decide) (good_lt kR) (by decide)]; decide +kernel, by rw [frc_frame 15 kR _ 0 (by decide) (good_lt kR) (by decide)]; rw [frc_crc kR _ 0 (by decide) (good_lt kR) (by decide)]; rfl, by decide, by rw [frc_frame 15 kR _ 0 (by decide) (good_lt kR) (by decide)]; decide +kernel⟩⟩

theorem witness_FabricFramesAreTakenAndRouted_2 :
    (let u := (gat (ft 7 0 0 0 9 1) zR).advance 0; tget u.fgq [] 3 = [ft 7 0 0 0 9 1] ∧ u.fabHere (ft 7 0 0 0 9 1) = true ∧ (ft 7 0 0 0 9 1).ret = 0 ∧ u.freeWay (fgRouter 3) true (u.fabPacket 3 (ft 7 0 0 0 9 1) (TokTo.node (ft 7 0 0 0 9 1).tok.tile))) ∧
    (let u := (gat (ft 9 0 1 0 7 1) zR).advance 0; tget u.fgq [] 3 = [ft 9 0 1 0 7 1] ∧ u.fabHere (ft 9 0 1 0 7 1) = true ∧ (ft 9 0 1 0 7 1).ret ≠ 0) ∧
    (let u := (gat (ft 9 3 0 5 7 1) ({ zR2 with fabHoldTo := some 9001 })).advance 0; tget u.fgq [] 3 = [ft 9 3 0 5 7 1] ∧ u.fabHere (ft 9 3 0 5 7 1) = false ∧ u.fabHeld (ft 9 3 0 5 7 1) = true) ∧
    (let u := (gat ({ ft 8 15 0 5 7 0 with via := some (14, 7) }) ({ zR2 with fabHoldTo := some 9000 })).advance 0; let l := bits 63 0 4; let sub := if bits 63 5 1 = 1 then 1 else ({ ft 8 15 0 5 7 0 with via := some (14, 7) }).sub; let key := LinkId.fabric (Fin.ofNat 16 l); tget u.fgq [] 3 = [{ ft 8 15 0 5 7 0 with via := some (14, 7) }] ∧ u.fabHere ({ ft 8 15 0 5 7 0 with via := some (14, 7) }) = false ∧ u.fabHeld ({ ft 8 15 0 5 7 0 with via := some (14, 7) }) = false ∧ u.entryFor ({ ft 8 15 0 5 7 0 with via := some (14, 7) }) 63 ∧ u.stopReason ({ ft 8 15 0 5 7 0 with via := some (14, 7) }) 63 = 0 ∧ l / 4 = 3 ∧ key ∉ viaLinks ({ ft 8 15 0 5 7 0 with via := some (14, 7) }).via ∧ fabWaits (u.link key) ({ ft 8 15 0 5 7 0 with via := some (14, 7) }).tok.cls sub = false) ∧
    (let u := (gat ({ ft 9 15 0 4 7 0 with via := none }) ({ zR2 with fabHoldTo := some 9000 })).advance 0; let l := bits 31 0 4; let sub := if bits 31 5 1 = 1 then 1 else ({ ft 9 15 0 4 7 0 with via := none }).sub; let key := LinkId.fabric (Fin.ofNat 16 l); tget u.fgq [] 3 = [{ ft 9 15 0 4 7 0 with via := none }] ∧ u.fabHere ({ ft 9 15 0 4 7 0 with via := none }) = false ∧ u.fabHeld ({ ft 9 15 0 4 7 0 with via := none }) = false ∧ u.entryFor ({ ft 9 15 0 4 7 0 with via := none }) 31 ∧ u.stopReason ({ ft 9 15 0 4 7 0 with via := none }) 31 = 0 ∧ l / 4 = 3 ∧ key ∉ viaLinks ({ ft 9 15 0 4 7 0 with via := none }).via ∧ fabWaits (u.link key) ({ ft 9 15 0 4 7 0 with via := none }).tok.cls sub = false) ∧
    (let u := (gat ({ ft 8 15 0 5 7 0 with via := none }) zTx).advance 0; let l := bits 63 0 4; let sub := if bits 63 5 1 = 1 then 1 else ({ ft 8 15 0 5 7 0 with via := none }).sub; let key := LinkId.fabric (Fin.ofNat 16 l); tget u.fgq [] 3 = [{ ft 8 15 0 5 7 0 with via := none }] ∧ u.fabHere ({ ft 8 15 0 5 7 0 with via := none }) = false ∧ u.fabHeld ({ ft 8 15 0 5 7 0 with via := none }) = false ∧ u.entryFor ({ ft 8 15 0 5 7 0 with via := none }) 63 ∧ u.stopReason ({ ft 8 15 0 5 7 0 with via := none }) 63 = 0 ∧ l / 4 = 3 ∧ fabWaits (u.link key) ({ ft 8 15 0 5 7 0 with via := none }).tok.cls sub = true) ∧
    (let u := ({ zR2 with fgq := [(2, [ft 8 15 0 5 7 0])] }).advance 0; let l := bits 63 0 4; tget u.fgq [] 2 = [ft 8 15 0 5 7 0] ∧ u.fabHere (ft 8 15 0 5 7 0) = false ∧ u.fabHeld (ft 8 15 0 5 7 0) = false ∧ u.entryFor (ft 8 15 0 5 7 0) 63 ∧ u.stopReason (ft 8 15 0 5 7 0) 63 = 0 ∧ l / 4 ≠ 2 ∧ u.freeWay (fgRouter 2) true (u.fabPacket 2 (ft 8 15 0 5 7 0) (TokTo.fabric (l / 4)))) ∧
    (let u := (gat (ft 9 15 0 5 7 0) zR2).advance 0; tget u.fgq [] 3 = [ft 9 15 0 5 7 0] ∧ u.fabHere (ft 9 15 0 5 7 0) = false ∧ u.fabHeld (ft 9 15 0 5 7 0) = false ∧ u.entryFor (ft 9 15 0 5 7 0) 62 ∧ u.stopReason (ft 9 15 0 5 7 0) 62 ≠ 0 ∧ (ft 9 15 0 5 7 0).ret = 0 ∧ (ft 9 15 0 5 7 0).sdev = u.devnum) :=
  ⟨⟨by decide, by decide, by decide, by unfold State.freeWay; decide⟩,
   ⟨by decide, by decide, by decide⟩,
   ⟨by decide, by decide, by decide⟩,
   ⟨by decide, by decide, by decide, entryFor_of _ _ _ (by decide), by decide, by decide, by decide, by decide⟩,
   ⟨by decide, by decide, by decide, entryFor_of _ _ _ (by decide), by decide, by decide, by decide, by decide⟩,
   ⟨by decide, by decide, by decide, entryFor_of _ _ _ (by decide), by decide, by decide, by decide⟩,
   ⟨by decide, by decide, by decide, entryFor_of _ _ _ (by decide), by decide, by decide, by unfold State.freeWay; decide⟩,
   ⟨by decide, by decide, by decide, entryFor_of _ _ _ (by decide), by decide, by decide, by decide⟩⟩

theorem witness_FabricFramesAreTakenAndRouted_3 :
    (let u := (gat (ft 8 0 0 5 7 0) zR2).advance 0; tget u.fgq [] 3 = [ft 8 0 0 5 7 0] ∧ u.fabHere (ft 8 0 0 5 7 0) = false ∧ u.fabHeld (ft 8 0 0 5 7 0) = false ∧ u.entryFor (ft 8 0 0 5 7 0) 63 ∧ u.stopReason (ft 8 0 0 5 7 0) 63 ≠ 0 ∧ (ft 8 0 0 5 7 0).ret = 0 ∧ (ft 8 0 0 5 7 0).sdev = u.devnum) ∧
    (let u := (gat (ft 8 0 0 5 6 0) zR2).advance 0; tget u.fgq [] 3 = [ft 8 0 0 5 6 0] ∧ u.fabHere (ft 8 0 0 5 6 0) = false ∧ u.fabHeld (ft 8 0 0 5 6 0) = false ∧ u.entryFor (ft 8 0 0 5 6 0) 63 ∧ u.stopReason (ft 8 0 0 5 6 0) 63 ≠ 0 ∧ (ft 8 0 0 5 6 0).ret = 0 ∧ (ft 8 0 0 5 6 0).sdev ≠ u.devnum) ∧
    (let u := (gat (ft 8 0 2 5 6 0) zR2).advance 0; tget u.fgq [] 3 = [ft 8 0 2 5 6 0] ∧ u.fabHere (ft 8 0 2 5 6 0) = false ∧ u.fabHeld (ft 8 0 2 5 6 0) = false ∧ u.entryFor (ft 8 0 2 5 6 0) 0 ∧ u.stopReason (ft 8 0 2 5 6 0) 0 ≠ 0 ∧ (ft 8 0 2 5 6 0).ret ≠ 0) ∧
    (let u := ({ zR2 with fabHoldTo := some 9000 }).advance 0; u.fabHoldTo = some 9000 ∧ 9000 ≤ u.now ∧ (∀ g < 4, tget u.fgq [] g = [])) ∧
    (let u := (gat (ft 9 3 0 5 7 1) ({ zR2 with fabHoldTo := some 9001 })).advance 0; (∀ (e : ℕ), u.fabHoldTo = some e → u.now < e)) ∧
    (let old := (zR2.fset F.RTBANK_QUIET 0 0 9).fget F.RTBANK_STATE 0 0 = 3 ∧ (zR2.fset F.RTBANK_QUIET 0 0 9).fget F.FABCFG_RETSTR 0 0 ≤ (zR2.fset F.RTBANK_QUIET 0 0 9).fget F.RTBANK_QUIET 0 0; old) ∧
    (let old := zR2.fget F.RTBANK_STATE 0 1 = 3 ∧ zR2.fget F.FABCFG_RETSTR 0 0 ≤ zR2.fget F.RTBANK_QUIET 0 1; (¬old)) ∧
    (let st := zR2.fget F.RTBANK_STATE 0 1; let fixed := st ≠ 0 ∧ wbits (wd (2 ^ 18 + 9)) 0 16 ≠ zR2.fget F.RTBANK_FROM 0 1; zR2.Passes (Req.aklofy 3) RegKind.RTBANK 0 1 (wd (2 ^ 18 + 9)) ∧ wbits (wd (2 ^ 18 + 9)) 18 1 = 1 ∧ fixed ∧ Req.aklofy 3 ≠ Req.host ∧ zR2.canTell (Req.aklofy 3)) :=
  ⟨⟨by decide, by decide, by decide, entryFor_of _ _ _ (by decide), by decide, by decide, by decide⟩,
   ⟨by decide, by decide, by decide, entryFor_of _ _ _ (by decide), by decide, by decide, by decide⟩,
   ⟨by decide, by decide, by decide, entryFor_of _ _ _ (by decide), by decide, by decide⟩,
   ⟨by decide, by decide, by decide⟩,
   (by decide),
   (by decide),
   (by decide),
   ⟨⟨by decide, by decide, by decide, by decide, by decide, by decide⟩, by decide, by decide, by decide, by unfold State.canTell; decide⟩⟩

theorem witness_FabricFramesAreTakenAndRouted_4 :
    (let st := (zR2.fset F.RTBANK_STATE 0 0 0).fget F.RTBANK_STATE 0 0; let fixed := st ≠ 0 ∧ wbits (wd (2 ^ 18 + 9)) 0 16 ≠ (zR2.fset F.RTBANK_STATE 0 0 0).fget F.RTBANK_FROM 0 0; (zR2.fset F.RTBANK_STATE 0 0 0).Passes (Req.aklofy 3) RegKind.RTBANK 0 0 (wd (2 ^ 18 + 9)) ∧ wbits (wd (2 ^ 18 + 9)) 18 1 = 1 ∧ (¬fixed) ∧ (st ≠ 1 ∨ wbits (wd (2 ^ 18 + 9)) 19 1 = 0)) ∧
    (let st := zR2.fget F.RTBANK_STATE 0 1; let fixed := st ≠ 0 ∧ wbits (wd (2 ^ 19 + 9)) 0 16 ≠ zR2.fget F.RTBANK_FROM 0 1; zR2.Passes (Req.aklofy 3) RegKind.RTBANK 0 1 (wd (2 ^ 19 + 9)) ∧ wbits (wd (2 ^ 19 + 9)) 19 1 = 1 ∧ fixed ∧ Req.aklofy 3 ≠ Req.host ∧ zR2.canTell (Req.aklofy 3)) ∧
    (let st := (zR2.fset F.RTBANK_STATE 0 1 1).fget F.RTBANK_STATE 0 1; let fixed := st ≠ 0 ∧ wbits (wd (2 ^ 19 + 5)) 0 16 ≠ (zR2.fset F.RTBANK_STATE 0 1 1).fget F.RTBANK_FROM 0 1; (zR2.fset F.RTBANK_STATE 0 1 1).Passes (Req.aklofy 3) RegKind.RTBANK 0 1 (wd (2 ^ 19 + 5)) ∧ wbits (wd (2 ^ 19 + 5)) 19 1 = 1 ∧ (¬fixed) ∧ (st ≠ 0 ∨ wbits (wd (2 ^ 19 + 5)) 18 1 = 0)) :=
  ⟨⟨⟨by decide, by decide, by decide, by decide, by decide, by decide⟩, by decide, by decide, by decide⟩,
   ⟨⟨by decide, by decide, by decide, by decide, by decide, by decide⟩, by decide, by decide, by decide, by unfold State.canTell; decide⟩,
   ⟨⟨by decide, by decide, by decide, by decide, by decide, by decide⟩, by decide, by decide, by decide⟩⟩

end W15
end Sys2Proof.Tests
end

