-- ==== Sys2Proof/Tests/W16.lean ====
section
/-! SUPPORT. States that meet the hypotheses of: MarkersAndPtpSteerTheStroke. -/
set_option Elab.async false
open Sys2Proof Sys2Proof.Machine
namespace Sys2Proof.Tests
namespace W16
def kc : LinkId := .catch_ 31
def kf : LinkId := .fabric 15
def zK := { strand 0 { wth [] with pc := 7 } with now := 9000 }
def lk (k : LinkId) (st : Nat) (x : Link) (s : State) : State := { s.fset (if isFab k then F.FLSTAT_STATE else F.CLSTAT_STATE) 0 (lkIx k) st with links := [(k, x)] }
def xV : Link := { Link.rst with unack := [(4095, [1]), (0, [2]), (1, [3])], replayq := [(0, [2]), (1, [3])], verd := [⟨7, 1, 2, 3, false, 0, false, false⟩, ⟨255, 1, 2, 3, false, 9000, true, false⟩], ctrl := [(5, ctlBlock 0x0B [], 0)], rxCount := 63, rxAt := 17, dropping := true, nakDue := true, owed := [(3, 2)], cred := [(3, 63)], dreq := some (255, 1000), dreqId := 254, nakAt := some 5800, liveSeen := true }
def zC (st : Nat) := lk kc st xV zK
def zF (st : Nat) := lk kf st xV zK
def bad : List Byte := ctlBlock 2 [0xFF, 0x0F, 1]
def ackB := ctlBlock 2 [0xFF, 0x0F]
def ackX := ctlBlock 2 [0x44, 0x04]
def nakB := ctlBlock 3 [0, 0]
def nakX := ctlBlock 3 [9, 0]
def liveB := ctlBlock 1 []
def mk (n mh ofs : Nat) : List Byte := ctlBlock 0x0C (toBytes 6 n ++ toBytes 1 mh ++ toBytes 2 ofs)
def zM := { (zF 3).fset F.FLDLY_DVALID 0 15 1 with stroke := { zK.stroke with follow := some 3 } }
def zM2 := { (zM.fset F.STRKCFG_SRC 0 0 2).fset F.FLDLY_DLY 0 15 100 with stroke := { zM.stroke with follow := some 15, first := true, missed := 3 } }
def ms (src rank o r : Nat) : PtpMsg := ⟨1, 5, src, rank, o, 7, r, 100⟩
def ptp : Ptp := { off := 50, master := some 9, anns := [(9, (3, 9000)), (8, (4, 8999))], syncAt := 1000, intv := 2000, diff := 4, delay := 10, good := 3, next := 5 }
def zT := { ((zK.fset F.PTPCFG_EN 0 0 1).fset F.PTPCFG_PORT 0 0 1 |>.fset F.PTPCFG_DOMAIN 0 0 5).fset F.STRKCFG_SRC 0 0 1 with stroke := { zK.stroke with ptp := ptp } }
def zTl := zT.fset F.PTPSTAT_LOCKED 0 0 1
def zT15 := { zT with stroke := { zT.stroke with missed := 2, ptp := { ptp with good := 15 } } }
def zTn := { zT with stroke := { zT.stroke with ptp := { ptp with master := none } } }

theorem witness_MarkersAndPtpSteerTheStroke_1 :
    (let u := zM.advance 0; let k := LinkId.fabric (15 : Fin 16); u.strkSrc ≠ 2 ∧ blockOk 12 (List.range 10) (W16.mk 9 255 3) = true ∧ 3 ≤ u.linkSt k) ∧
    (let u := zM.advance 0; u.strkSrc ≠ 2 ∧ blockOk 12 (List.range 10) bad = false) ∧
    (let u := (zF 2).advance 0; let k := LinkId.fabric (15 : Fin 16); u.strkSrc ≠ 2 ∧ blockOk 12 (List.range 10) (W16.mk 9 255 3) = true ∧ u.linkSt k < 3) ∧
    (let u := zM2.advance 0; let k := LinkId.fabric (15 : Fin 16); let e := 2 * (100203 - u.fget F.FLDLY_DLY 0 15 - blkNum (W16.mk 1 2 3) 8 2); u.strkSrc = 2 ∧ u.dev ≠ DevState.standby ∧ u.stroke.follow = some 15 ∧ u.fget F.FLDLY_DVALID 0 15 = 1 ∧ blkNum (W16.mk 1 2 3) 1 6 = (u.count + 1) % 2 ^ 48 ∧ gap e u.stroke.tgt ≤ 8000 ∧ blockOk 12 (List.range 10) (W16.mk 1 2 3) = true ∧ 3 ≤ u.linkSt k) ∧
    (let u := zM2.advance 0; let k := LinkId.fabric (15 : Fin 16); let e := 2 * (104103 - u.fget F.FLDLY_DLY 0 15 - blkNum (W16.mk 1 2 3) 8 2); u.strkSrc = 2 ∧ u.dev ≠ DevState.standby ∧ u.stroke.follow = some 15 ∧ u.fget F.FLDLY_DVALID 0 15 = 1 ∧ blkNum (W16.mk 1 2 3) 1 6 = (u.count + 1) % 2 ^ 48 ∧ gap e u.stroke.tgt ≤ 8000 ∧ blockOk 12 (List.range 10) (W16.mk 1 2 3) = true ∧ 3 ≤ u.linkSt k) ∧
    (let u := zK.advance 0; let k := u.stroke; let p := k.ptp; let takes := u.fget F.PTPCFG_EN 0 0 = 1 ∧ u.strkSrc = 1 ∧ u.fget F.PTPCFG_PORT 0 0 = ↑(ms 9 3 1000 1050).port ∧ u.fget F.PTPCFG_DOMAIN 0 0 = (ms 9 3 1000 1050).domain; (¬takes ∨ p.master ≠ some (ms 9 3 1000 1050).source)) ∧
    (let u := zT.advance 0; let k := u.stroke; let p := k.ptp; let takes := u.fget F.PTPCFG_EN 0 0 = 1 ∧ u.strkSrc = 1 ∧ u.fget F.PTPCFG_PORT 0 0 = ↑(ms 8 3 1000 1050).port ∧ u.fget F.PTPCFG_DOMAIN 0 0 = (ms 8 3 1000 1050).domain; (¬takes ∨ p.master ≠ some (ms 8 3 1000 1050).source)) ∧
    (let u := zT.advance 0; let k := u.stroke; let p := k.ptp; let takes := u.fget F.PTPCFG_EN 0 0 = 1 ∧ u.strkSrc = 1 ∧ u.fget F.PTPCFG_PORT 0 0 = ↑(ms 9 3 1000 1050).port ∧ u.fget F.PTPCFG_DOMAIN 0 0 = (ms 9 3 1000 1050).domain; let diff := ((ms 9 3 1000 1050).receipt : Int) - (((ms 9 3 1000 1050).origin + (ms 9 3 1000 1050).correction : Nat) : Int); let ofs := diff + p.off - p.delay; let good := if ofs.natAbs ≤ 100 then min 16 (p.good + 1) else 0; let locked := u.fget F.PTPSTAT_LOCKED 0 0 = 1; takes ∧ p.master = some (ms 9 3 1000 1050).source ∧ ofs.natAbs ≤ 100000 ∧ (locked ∨ good < 16)) :=
  ⟨⟨by decide, by decide, by decide⟩,
   ⟨by decide, by decide⟩,
   ⟨by decide, by decide, by decide⟩,
   ⟨by decide, by decide, by decide, by decide, by decide, by decide, by decide, by decide⟩,
   ⟨by decide, by decide, by decide, by decide, by decide, by decide, by decide, by decide⟩,
   (by decide),
   (by decide),
   ⟨by decide, by decide, by decide, by decide⟩⟩

theorem witness_MarkersAndPtpSteerTheStroke_2 :
    (let u := zT.advance 0; let k := u.stroke; let p := k.ptp; let takes := u.fget F.PTPCFG_EN 0 0 = 1 ∧ u.strkSrc = 1 ∧ u.fget F.PTPCFG_PORT 0 0 = ↑(ms 9 3 1000 900).port ∧ u.fget F.PTPCFG_DOMAIN 0 0 = (ms 9 3 1000 900).domain; let diff := ((ms 9 3 1000 900).receipt : Int) - (((ms 9 3 1000 900).origin + (ms 9 3 1000 900).correction : Nat) : Int); let ofs := diff + p.off - p.delay; let good := if ofs.natAbs ≤ 100 then min 16 (p.good + 1) else 0; let locked := u.fget F.PTPSTAT_LOCKED 0 0 = 1; takes ∧ p.master = some (ms 9 3 1000 900).source ∧ ofs.natAbs ≤ 100000 ∧ (locked ∨ good < 16)) ∧
    (let u := zTl.advance 0; let k := u.stroke; let p := k.ptp; let takes := u.fget F.PTPCFG_EN 0 0 = 1 ∧ u.strkSrc = 1 ∧ u.fget F.PTPCFG_PORT 0 0 = ↑(ms 9 3 1000 100967).port ∧ u.fget F.PTPCFG_DOMAIN 0 0 = (ms 9 3 1000 100967).domain; let diff := ((ms 9 3 1000 100967).receipt : Int) - (((ms 9 3 1000 100967).origin + (ms 9 3 1000 100967).correction : Nat) : Int); let ofs := diff + p.off - p.delay; let good := if ofs.natAbs ≤ 100 then min 16 (p.good + 1) else 0; let locked := u.fget F.PTPSTAT_LOCKED 0 0 = 1; takes ∧ p.master = some (ms 9 3 1000 100967).source ∧ ofs.natAbs ≤ 100000 ∧ (locked ∨ good < 16)) ∧
    (let u := zT15.advance 0; let k := u.stroke; let p := k.ptp; let takes := u.fget F.PTPCFG_EN 0 0 = 1 ∧ u.strkSrc = 1 ∧ u.fget F.PTPCFG_PORT 0 0 = ↑(ms 9 3 1000 1067).port ∧ u.fget F.PTPCFG_DOMAIN 0 0 = (ms 9 3 1000 1067).domain; let diff := ((ms 9 3 1000 1067).receipt : Int) - (((ms 9 3 1000 1067).origin + (ms 9 3 1000 1067).correction : Nat) : Int); let ofs := diff + p.off - p.delay; let good := if ofs.natAbs ≤ 100 then min 16 (p.good + 1) else 0; let locked := u.fget F.PTPSTAT_LOCKED 0 0 = 1; takes ∧ p.master = some (ms 9 3 1000 1067).source ∧ good = 16 ∧ (¬locked) ∧ k.first = false) ∧
    (let u := zTl.advance 0; let k := u.stroke; let p := k.ptp; let takes := u.fget F.PTPCFG_EN 0 0 = 1 ∧ u.strkSrc = 1 ∧ u.fget F.PTPCFG_PORT 0 0 = ↑(ms 9 3 1000 100968).port ∧ u.fget F.PTPCFG_DOMAIN 0 0 = (ms 9 3 1000 100968).domain; let diff := ((ms 9 3 1000 100968).receipt : Int) - (((ms 9 3 1000 100968).origin + (ms 9 3 1000 100968).correction : Nat) : Int); let ofs := diff + p.off - p.delay; let locked := u.fget F.PTPSTAT_LOCKED 0 0 = 1; takes ∧ p.master = some (ms 9 3 1000 100968).source ∧ 100000 < ofs.natAbs ∧ locked ∧ u.Unwatched) ∧
    (let u := zT.advance 0; let k := u.stroke; let p := k.ptp; let takes := u.fget F.PTPCFG_EN 0 0 = 1 ∧ u.strkSrc = 1 ∧ u.fget F.PTPCFG_PORT 0 0 = ↑(ms 9 3 1000 100968).port ∧ u.fget F.PTPCFG_DOMAIN 0 0 = (ms 9 3 1000 100968).domain; let diff := ((ms 9 3 1000 100968).receipt : Int) - (((ms 9 3 1000 100968).origin + (ms 9 3 1000 100968).correction : Nat) : Int); let ofs := diff + p.off - p.delay; let locked := u.fget F.PTPSTAT_LOCKED 0 0 = 1; takes ∧ p.master = some (ms 9 3 1000 100968).source ∧ 100000 < ofs.natAbs ∧ (¬locked)) ∧
    (let u := zK.advance 0; let takes := u.fget F.PTPCFG_EN 0 0 = 1 ∧ u.strkSrc = 1 ∧ u.fget F.PTPCFG_PORT 0 0 = ↑(ms 9 3 1000 100968).port ∧ u.fget F.PTPCFG_DOMAIN 0 0 = (ms 9 3 1000 100968).domain; (¬takes)) ∧
    (let u := zT.advance 0; let k := u.stroke; let p := k.ptp; let takes := u.fget F.PTPCFG_EN 0 0 = 1 ∧ u.strkSrc = 1 ∧ u.fget F.PTPCFG_PORT 0 0 = ↑(ms 7 2 1000 100968).port ∧ u.fget F.PTPCFG_DOMAIN 0 0 = (ms 7 2 1000 100968).domain; let locked := u.fget F.PTPSTAT_LOCKED 0 0 = 1; takes ∧ (p.master = none ∨ ¬locked)) ∧
    (let u := zTn.advance 0; let k := u.stroke; let p := k.ptp; let takes := u.fget F.PTPCFG_EN 0 0 = 1 ∧ u.strkSrc = 1 ∧ u.fget F.PTPCFG_PORT 0 0 = ↑(ms 9 5 1000 100968).port ∧ u.fget F.PTPCFG_DOMAIN 0 0 = (ms 9 5 1000 100968).domain; let locked := u.fget F.PTPSTAT_LOCKED 0 0 = 1; takes ∧ (p.master = none ∨ ¬locked)) :=
  ⟨⟨by decide, by decide, by decide, by decide⟩,
   ⟨by decide, by decide, by decide, by decide⟩,
   ⟨by decide, by decide, by decide, by decide, by decide⟩,
   ⟨by decide, by decide, by decide, by decide, ⟨by decide, by decide⟩⟩,
   ⟨by decide, by decide, by decide, by decide⟩,
   (by decide),
   ⟨by decide, by decide⟩,
   ⟨by decide, by decide⟩⟩

theorem witness_MarkersAndPtpSteerTheStroke_3 :
    (let u := zTl.advance 0; let k := u.stroke; let p := k.ptp; let takes := u.fget F.PTPCFG_EN 0 0 = 1 ∧ u.strkSrc = 1 ∧ u.fget F.PTPCFG_PORT 0 0 = ↑(ms 7 2 1000 100968).port ∧ u.fget F.PTPCFG_DOMAIN 0 0 = (ms 7 2 1000 100968).domain; let locked := u.fget F.PTPSTAT_LOCKED 0 0 = 1; takes ∧ p.master ≠ none ∧ locked ∧ u.Unwatched) ∧
    (let u := zTl.advance 0; let k := u.stroke; let p := k.ptp; let takes := u.fget F.PTPCFG_EN 0 0 = 1 ∧ u.strkSrc = 1 ∧ u.fget F.PTPCFG_PORT 0 0 = ↑(ms 9 7 1000 100968).port ∧ u.fget F.PTPCFG_DOMAIN 0 0 = (ms 9 7 1000 100968).domain; let locked := u.fget F.PTPSTAT_LOCKED 0 0 = 1; takes ∧ p.master ≠ none ∧ locked ∧ u.Unwatched) ∧
    (let u := zK.advance 0; let takes := u.fget F.PTPCFG_EN 0 0 = 1 ∧ u.strkSrc = 1 ∧ u.fget F.PTPCFG_PORT 0 0 = ↑(ms 9 7 1000 100968).port ∧ u.fget F.PTPCFG_DOMAIN 0 0 = (ms 9 7 1000 100968).domain; (¬takes)) ∧
    (let u := (zT.fset F.PTPCFG_DMECH 0 0 1).advance 0; let takes := u.fget F.PTPCFG_EN 0 0 = 1 ∧ u.strkSrc = 1 ∧ u.fget F.PTPCFG_PORT 0 0 = ↑(ms 7 7 1000 1100).port ∧ u.fget F.PTPCFG_DOMAIN 0 0 = (ms 7 7 1000 1100).domain; takes ∧ u.fget F.PTPCFG_DMECH 0 0 = 1) ∧
    (let u := zT.advance 0; let k := u.stroke; let p := k.ptp; let takes := u.fget F.PTPCFG_EN 0 0 = 1 ∧ u.strkSrc = 1 ∧ u.fget F.PTPCFG_PORT 0 0 = ↑(ms 9 7 1000 1100).port ∧ u.fget F.PTPCFG_DOMAIN 0 0 = (ms 9 7 1000 1100).domain; takes ∧ u.fget F.PTPCFG_DMECH 0 0 = 0 ∧ p.master = some (ms 9 7 1000 1100).source) ∧
    (let u := zT.advance 0; let k := u.stroke; let p := k.ptp; let takes := u.fget F.PTPCFG_EN 0 0 = 1 ∧ u.strkSrc = 1 ∧ u.fget F.PTPCFG_PORT 0 0 = ↑(ms 7 7 1000 1100).port ∧ u.fget F.PTPCFG_DOMAIN 0 0 = (ms 7 7 1000 1100).domain; takes ∧ u.fget F.PTPCFG_DMECH 0 0 = 0 ∧ p.master ≠ some (ms 7 7 1000 1100).source) ∧
    (let u := zTl.advance 0; let p := u.stroke.ptp; let past := u.strkSrc = 1 ∧ u.fget F.PTPCFG_EN 0 0 = 1 ∧ p.syncAt + 4 * p.intv ≤ u.now; past ∧ u.fget F.PTPSTAT_LOCKED 0 0 = 1 ∧ u.Unwatched) ∧
    (let u := zT.advance 0; let p := u.stroke.ptp; let past := u.strkSrc = 1 ∧ u.fget F.PTPCFG_EN 0 0 = 1 ∧ p.syncAt + 4 * p.intv ≤ u.now; past ∧ u.fget F.PTPSTAT_LOCKED 0 0 = 0) :=
  ⟨⟨by decide, by decide, by decide, ⟨by decide, by decide⟩⟩,
   ⟨by decide, by decide, by decide, ⟨by decide, by decide⟩⟩,
   (by decide),
   ⟨by decide, by decide⟩,
   ⟨by decide, by decide, by decide⟩,
   ⟨by decide, by decide, by decide⟩,
   ⟨by decide, by decide, ⟨by decide, by decide⟩⟩,
   ⟨by decide, by decide⟩⟩

theorem witness_MarkersAndPtpSteerTheStroke_4 :
    let u := ({ zTl with now := 8999 }).advance 0; let p := u.stroke.ptp; let past := u.strkSrc = 1 ∧ u.fget F.PTPCFG_EN 0 0 = 1 ∧ p.syncAt + 4 * p.intv ≤ u.now; (¬past) :=
  by decide

end W16
end Sys2Proof.Tests
end

