-- ==== Sys2Proof/Tests/W17.lean ====
section
/-! SUPPORT. States that meet the hypotheses of: BanksRushAndMapOut. -/
set_option Elab.async false
open Sys2Proof Sys2Proof.Machine
namespace Sys2Proof.Tests
namespace W17
def zBk := { ( withQ (strand 0 { wth [] with pc := 7 }) 255 3) with now := 9000, hostp := { HostPort.rst with hrdy := true } }
def pwr (s : State) (v : Nat) : State := s.setReg .BANKPWR 0 0 (wd v)
def c0b (s : State) : State := tile0 s fun x => { x with bankA := { x.bankA with dir := wd (2 ^ 47) } }
def bor (ph reg : Nat) : Borrow := ⟨reg, ph, [5], none, false⟩
def inB (b : Borrow) (s : State) : State := (tile0 s fun x => { x with borrow := some b }).fset F.RUSHSTAT_PHASE 0 0 b.phase
def inD (b : Borrow) (s : State) : State := { s.fset F.RDSTAT_PHASE 0 0 b.phase with drRush := some b }
def tr (k : BankTrans) (s : State) : State := (tile0 s fun x => { x with bankTrans := [k] }).setReg .BANKSTAT 0 0 (wd (2 ^ k.bank))
def t0 : TileId := 0
def zMem (s : State) : State := { s with mem := [(spadAddr 0 (8 * 31), 1), (spadAddr 0 (8 * 32), 2)] }
def enT (s : State) : State := s.fset F.RUSHCFG_EN 0 0 1
def enD (s : State) : State := ({ s with dev := .standby }.fset F.RDCFG_EN 0 0 1).fset F.DRSTAT_DSIZE 0 0 2
def zMo := ((zBk.fset F.DRSTAT_MOST 0 0 1).fset F.DRSTAT_MOCH 0 0 31).fset F.DRSTAT_MOPTR 0 0 1015806
def unc (s : State) : State := (s.fset F.CHSTAT_UNC 0 31 7).fset F.DRCFG_UNCLIM 0 0 7

theorem witness_BanksRushAndMapOut_1 :
    (let old := zBk.reg RegKind.BANKPWR 0 0; let mode := fun w b => wbits w (2 * b) 2; let wrong := ∃ b < 32, mode old b ≠ mode (wd 3) b ∧ (mode (wd 3) b = 3 ∨ mode old b = 2 ∧ mode (wd 3) b = 1); let live := zBk.dev = DevState.armed ∨ zBk.dev = DevState.running ∨ zBk.dev = DevState.draining; let used := live ∧ ∃ b < 32, mode old b = 0 ∧ mode (wd 3) b ≠ 0 ∧ (zBk.activeBank 0).c0banks.testBit b = true; zBk.Passes (Req.thread 0 0) RegKind.BANKPWR 0 0 (wd 3) ∧ (wrong ∨ used) ∧ Req.thread 0 0 ≠ Req.host ∧ zBk.canTell (Req.thread 0 0)) ∧
    (let old := (pwr zBk 2).reg RegKind.BANKPWR 0 0; let mode := fun w b => wbits w (2 * b) 2; let wrong := ∃ b < 32, mode old b ≠ mode (wd 1) b ∧ (mode (wd 1) b = 3 ∨ mode old b = 2 ∧ mode (wd 1) b = 1); let live := (pwr zBk 2).dev = DevState.armed ∨ (pwr zBk 2).dev = DevState.running ∨ (pwr zBk 2).dev = DevState.draining; let used := live ∧ ∃ b < 32, mode old b = 0 ∧ mode (wd 1) b ≠ 0 ∧ ((pwr zBk 2).activeBank 0).c0banks.testBit b = true; (pwr zBk 2).Passes (Req.aklofy 0) RegKind.BANKPWR 0 0 (wd 1) ∧ (wrong ∨ used) ∧ Req.aklofy 0 ≠ Req.host ∧ (pwr zBk 2).canTell (Req.aklofy 0)) ∧
    (let old := (c0b zBk).reg RegKind.BANKPWR 0 0; let mode := fun w b => wbits w (2 * b) 2; let wrong := ∃ b < 32, mode old b ≠ mode (wd (2 ^ 63)) b ∧ (mode (wd (2 ^ 63)) b = 3 ∨ mode old b = 2 ∧ mode (wd (2 ^ 63)) b = 1); let live := (c0b zBk).dev = DevState.armed ∨ (c0b zBk).dev = DevState.running ∨ (c0b zBk).dev = DevState.draining; let used := live ∧ ∃ b < 32, mode old b = 0 ∧ mode (wd (2 ^ 63)) b ≠ 0 ∧ ((c0b zBk).activeBank 0).c0banks.testBit b = true; (c0b zBk).Passes (Req.aklofy 0) RegKind.BANKPWR 0 0 (wd (2 ^ 63)) ∧ (wrong ∨ used) ∧ Req.aklofy 0 ≠ Req.host ∧ (c0b zBk).canTell (Req.aklofy 0)) ∧
    (let old := (c0b zBk).reg RegKind.BANKPWR 0 0; let mode := fun w b => wbits w (2 * b) 2; let wrong := ∃ b < 32, mode old b ≠ mode (wd (2 ^ 61)) b ∧ (mode (wd (2 ^ 61)) b = 3 ∨ mode old b = 2 ∧ mode (wd (2 ^ 61)) b = 1); let live := (c0b zBk).dev = DevState.armed ∨ (c0b zBk).dev = DevState.running ∨ (c0b zBk).dev = DevState.draining; let used := live ∧ ∃ b < 32, mode old b = 0 ∧ mode (wd (2 ^ 61)) b ≠ 0 ∧ ((c0b zBk).activeBank 0).c0banks.testBit b = true; let x := (c0b zBk).tile 0; (c0b zBk).Passes (Req.aklofy 0) RegKind.BANKPWR 0 0 (wd (2 ^ 61)) ∧ 30 < 32 ∧ (¬wrong) ∧ (¬used) ∧ oneBank old (wd (2 ^ 61)) 30 ∧ (∀ (k : Borrow), x.borrow = some k → k.phase = 0 ∨ k.region / 16 ≠ 30) ∧ (∀ k ∈ x.bankTrans, k.bank ≠ 30)) ∧
    (let old := (inB (bor 2 511) zBk).reg RegKind.BANKPWR 0 0; let mode := fun w b => wbits w (2 * b) 2; let wrong := ∃ b < 32, mode old b ≠ mode (wd (2 ^ 61)) b ∧ (mode (wd (2 ^ 61)) b = 3 ∨ mode old b = 2 ∧ mode (wd (2 ^ 61)) b = 1); let live := (inB (bor 2 511) zBk).dev = DevState.armed ∨ (inB (bor 2 511) zBk).dev = DevState.running ∨ (inB (bor 2 511) zBk).dev = DevState.draining; let used := live ∧ ∃ b < 32, mode old b = 0 ∧ mode (wd (2 ^ 61)) b ≠ 0 ∧ ((inB (bor 2 511) zBk).activeBank 0).c0banks.testBit b = true; let x := (inB (bor 2 511) zBk).tile 0; (inB (bor 2 511) zBk).Passes (Req.aklofy 0) RegKind.BANKPWR 0 0 (wd (2 ^ 61)) ∧ 30 < 32 ∧ (¬wrong) ∧ (¬used) ∧ oneBank old (wd (2 ^ 61)) 30 ∧ (∀ (k : Borrow), x.borrow = some k → k.phase = 0 ∨ k.region / 16 ≠ 30) ∧ (∀ k ∈ x.bankTrans, k.bank ≠ 30)) ∧
    (let old := (pwr (inB (bor 0 511) zBk) (2 ^ 63)).reg RegKind.BANKPWR 0 0; let mode := fun w b => wbits w (2 * b) 2; let wrong := ∃ b < 32, mode old b ≠ mode (wd 0) b ∧ (mode (wd 0) b = 3 ∨ mode old b = 2 ∧ mode (wd 0) b = 1); let live := (pwr (inB (bor 0 511) zBk) (2 ^ 63)).dev = DevState.armed ∨ (pwr (inB (bor 0 511) zBk) (2 ^ 63)).dev = DevState.running ∨ (pwr (inB (bor 0 511) zBk) (2 ^ 63)).dev = DevState.draining; let used := live ∧ ∃ b < 32, mode old b = 0 ∧ mode (wd 0) b ≠ 0 ∧ ((pwr (inB (bor 0 511) zBk) (2 ^ 63)).activeBank 0).c0banks.testBit b = true; let x := (pwr (inB (bor 0 511) zBk) (2 ^ 63)).tile 0; (pwr (inB (bor 0 511) zBk) (2 ^ 63)).Passes (Req.aklofy 0) RegKind.BANKPWR 0 0 (wd 0) ∧ 31 < 32 ∧ (¬wrong) ∧ (¬used) ∧ oneBank old (wd 0) 31 ∧ (∀ (k : Borrow), x.borrow = some k → k.phase = 0 ∨ k.region / 16 ≠ 31) ∧ (∀ k ∈ x.bankTrans, k.bank ≠ 31)) ∧
    (let old := (pwr (inB (bor 2 511) zBk) (2 ^ 63)).reg RegKind.BANKPWR 0 0; let mode := fun w b => wbits w (2 * b) 2; let wrong := ∃ b < 32, mode old b ≠ mode (wd 0) b ∧ (mode (wd 0) b = 3 ∨ mode old b = 2 ∧ mode (wd 0) b = 1); let live := (pwr (inB (bor 2 511) zBk) (2 ^ 63)).dev = DevState.armed ∨ (pwr (inB (bor 2 511) zBk) (2 ^ 63)).dev = DevState.running ∨ (pwr (inB (bor 2 511) zBk) (2 ^ 63)).dev = DevState.draining; let used := live ∧ ∃ b < 32, mode old b = 0 ∧ mode (wd 0) b ≠ 0 ∧ ((pwr (inB (bor 2 511) zBk) (2 ^ 63)).activeBank 0).c0banks.testBit b = true; let x := (pwr (inB (bor 2 511) zBk) (2 ^ 63)).tile 0; (pwr (inB (bor 2 511) zBk) (2 ^ 63)).Passes (Req.aklofy 0) RegKind.BANKPWR 0 0 (wd 0) ∧ 31 < 32 ∧ (¬wrong) ∧ (¬used) ∧ oneBank old (wd 0) 31 ∧ x.borrow = some (bor 2 511) ∧ ((bor 2 511).phase = 1 ∨ (bor 2 511).phase = 2) ∧ (bor 2 511).region / 16 = 31 ∧ (bor 2 511).region < 512 ∧ (∀ e ∈ x.bankTrans, e.bank ≠ 31)) ∧
    (let old := (pwr (inB (bor 1 0) zBk) 0).reg RegKind.BANKPWR 0 0; let mode := fun w b => wbits w (2 * b) 2; let wrong := ∃ b < 32, mode old b ≠ mode (wd 2) b ∧ (mode (wd 2) b = 3 ∨ mode old b = 2 ∧ mode (wd 2) b = 1); let live := (pwr (inB (bor 1 0) zBk) 0).dev = DevState.armed ∨ (pwr (inB (bor 1 0) zBk) 0).dev = DevState.running ∨ (pwr (inB (bor 1 0) zBk) 0).dev = DevState.draining; let used := live ∧ ∃ b < 32, mode old b = 0 ∧ mode (wd 2) b ≠ 0 ∧ ((pwr (inB (bor 1 0) zBk) 0).activeBank 0).c0banks.testBit b = true; let x := (pwr (inB (bor 1 0) zBk) 0).tile 0; (pwr (inB (bor 1 0) zBk) 0).Passes (Req.aklofy 0) RegKind.BANKPWR 0 0 (wd 2) ∧ 0 < 32 ∧ (¬wrong) ∧ (¬used) ∧ oneBank old (wd 2) 0 ∧ x.borrow = some (bor 1 0) ∧ ((bor 1 0).phase = 1 ∨ (bor 1 0).phase = 2) ∧ (bor 1 0).region / 16 = 0 ∧ (bor 1 0).region < 512 ∧ (∀ e ∈ x.bankTrans, e.bank ≠ 0)) :=
  ⟨⟨⟨by decide, by decide, by decide, by decide, by decide, by decide⟩, by decide, by decide, canTell_of _ _ _ (by decide) (by decide) (by decide) (fun _ => ⟨still_of _ (by decide) rfl (by decide), ⟨by decide, by decide⟩⟩)⟩,
   ⟨⟨by decide, by decide, by decide, by decide, by decide, by decide⟩, by decide, by decide, by unfold State.canTell; decide⟩,
   ⟨⟨by decide, by decide, by decide, by decide, by decide, by decide⟩, by decide, by decide, by unfold State.canTell; decide⟩,
   ⟨⟨by decide, by decide, by decide, by decide, by decide, by decide⟩, by decide, by decide, by decide, by unfold oneBank; decide, by decide, by decide⟩,
   ⟨⟨by decide, by decide, by decide, by decide, by decide, by decide⟩, by decide, by decide, by decide, by unfold oneBank; decide, by decide, by decide⟩,
   ⟨⟨by decide, by decide, by decide, by decide, by decide, by decide⟩, by decide, by decide, by decide, by unfold oneBank; decide, by decide, by decide⟩,
   ⟨⟨by decide, by decide, by decide, by decide, by decide, by decide⟩, by decide, by decide, by decide, by unfold oneBank; decide, by decide, by decide, by decide, by decide, by decide⟩,
   ⟨⟨by decide, by decide, by decide, by decide, by decide, by decide⟩, by decide, by decide, by decide, by unfold oneBank; decide, by decide, by decide, by decide, by decide, by decide⟩⟩

theorem witness_BanksRushAndMapOut_2 :
    (let old := zBk.reg RegKind.BANKPWR 0 0; let mode := fun w b => wbits w (2 * b) 2; let wrong := ∃ b < 32, mode old b ≠ mode (wd 0) b ∧ (mode (wd 0) b = 3 ∨ mode old b = 2 ∧ mode (wd 0) b = 1); zBk.Passes (Req.aklofy 0) RegKind.BANKPWR 0 0 (wd 0) ∧ wd 0 = old ∧ (¬wrong)) ∧
    (let u := (tr ({ bank := 31, frm := 0, dest := 1, endAt := some 9000 } : BankTrans) (pwr zBk (2 ^ 62))).advance 0; let x := u.tile 0; ({ bank := 31, frm := 0, dest := 1, endAt := some 9000 } : BankTrans) ∈ x.bankTrans ∧ ({ bank := 31, frm := 0, dest := 1, endAt := some 9000 } : BankTrans).bank = 31 ∧ (∀ e ∈ x.bankTrans, e.bank = 31 → e = ({ bank := 31, frm := 0, dest := 1, endAt := some 9000 } : BankTrans)) ∧ ({ bank := 31, frm := 0, dest := 1, endAt := some 9000 } : BankTrans).endAt = some 9000 ∧ 9000 ≤ u.now ∧ (¬(({ bank := 31, frm := 0, dest := 1, endAt := some 9000 } : BankTrans).frm = 2 ∧ ({ bank := 31, frm := 0, dest := 1, endAt := some 9000 } : BankTrans).dest = 0))) ∧
    (let u := (tr ({ bank := 31, frm := 1, dest := 0, endAt := some 9000 } : BankTrans) (pwr zBk (2 ^ 62))).advance 0; let x := u.tile 0; ({ bank := 31, frm := 1, dest := 0, endAt := some 9000 } : BankTrans) ∈ x.bankTrans ∧ ({ bank := 31, frm := 1, dest := 0, endAt := some 9000 } : BankTrans).bank = 31 ∧ (∀ e ∈ x.bankTrans, e.bank = 31 → e = ({ bank := 31, frm := 1, dest := 0, endAt := some 9000 } : BankTrans)) ∧ ({ bank := 31, frm := 1, dest := 0, endAt := some 9000 } : BankTrans).endAt = some 9000 ∧ 9000 ≤ u.now ∧ (¬(({ bank := 31, frm := 1, dest := 0, endAt := some 9000 } : BankTrans).frm = 2 ∧ ({ bank := 31, frm := 1, dest := 0, endAt := some 9000 } : BankTrans).dest = 0))) ∧
    (let u := (zMem (tr ({ bank := 31, frm := 2, dest := 0, endAt := some 9000 } : BankTrans) (pwr zBk (2 ^ 63)))).advance 0; let x := u.tile 0; ({ bank := 31, frm := 2, dest := 0, endAt := some 9000 } : BankTrans) ∈ x.bankTrans ∧ ({ bank := 31, frm := 2, dest := 0, endAt := some 9000 } : BankTrans).bank = 31 ∧ (∀ e ∈ x.bankTrans, e.bank = 31 → e = ({ bank := 31, frm := 2, dest := 0, endAt := some 9000 } : BankTrans)) ∧ ({ bank := 31, frm := 2, dest := 0, endAt := some 9000 } : BankTrans).endAt = some 9000 ∧ 9000 ≤ u.now ∧ ({ bank := 31, frm := 2, dest := 0, endAt := some 9000 } : BankTrans).frm = 2 ∧ ({ bank := 31, frm := 2, dest := 0, endAt := some 9000 } : BankTrans).dest = 0) ∧
    (let u := (tr ({ bank := 31, frm := 1, dest := 0, endAt := none } : BankTrans) (pwr zBk (2 ^ 62))).advance 0; let x := u.tile 0; ({ bank := 31, frm := 1, dest := 0, endAt := none } : BankTrans) ∈ x.bankTrans ∧ ({ bank := 31, frm := 1, dest := 0, endAt := none } : BankTrans).bank = 31 ∧ (∀ e ∈ x.bankTrans, e.bank = 31 → e = ({ bank := 31, frm := 1, dest := 0, endAt := none } : BankTrans)) ∧ (∀ (e : ℕ), ({ bank := 31, frm := 1, dest := 0, endAt := none } : BankTrans).endAt = some e → u.now < e)) ∧
    (let u := (inB (bor 1 511) zBk).advance 0; u.rushOf (some (0 : TileId)) = some (bor 1 511) ∧ (bor 1 511).phase < 4 ∧ (bor 1 511).phase = 1) ∧
    (let u := (inD (bor 1 70000) zBk).advance 0; u.rushOf none = some (bor 1 70000) ∧ (bor 1 70000).phase < 4 ∧ (bor 1 70000).phase = 1) ∧
    (let u := (inD (bor 3 70000) zBk).advance 0; u.rushOf none = some (bor 3 70000) ∧ (bor 3 70000).phase < 4 ∧ (bor 3 70000).phase ≠ 1) :=
  ⟨⟨⟨by decide, by decide, by decide, by decide, by decide, by decide⟩, by decide, by decide⟩,
   ⟨by decide, by decide, by decide, by decide, by decide, by decide⟩,
   ⟨by decide, by decide, by decide, by decide, by decide, by decide⟩,
   ⟨by decide, by decide, by decide, by decide, by decide, by decide, by decide⟩,
   ⟨by decide, by decide, by decide, by decide⟩,
   ⟨by decide, by decide, by decide⟩,
   ⟨by decide, by decide, by decide⟩,
   ⟨by decide, by decide, by decide⟩⟩

theorem witness_BanksRushAndMapOut_3 :
    (let u := (inD (bor 2 70000) zBk).advance 0; u.rushOf none = some (bor 2 70000) ∧ (bor 2 70000).phase < 4 ∧ (bor 2 70000).phase = 2) ∧
    (let u := (inB (bor 2 7) zBk).advance 0; u.rushOf (some (0 : TileId)) = some (bor 2 7) ∧ (bor 2 7).phase < 4 ∧ (bor 2 7).phase = 2) ∧
    (let u := (inB (bor 1 7) zBk).advance 0; u.rushOf (some (0 : TileId)) = some (bor 1 7) ∧ (bor 1 7).phase < 4 ∧ (bor 1 7).phase ≠ 2) ∧
    (let u := (inB (bor 2 7) zBk).advance 0; u.rushOf (some (0 : TileId)) = some (bor 2 7) ∧ (bor 2 7).phase < 4 ∧ (bor 2 7).phase ≠ 3) ∧
    (let u := (inB (bor 3 511) zBk).advance 0; u.rushOf (some (0 : TileId)) = some (bor 3 511) ∧ (bor 3 511).phase < 4 ∧ (bor 3 511).phase = 3 ∧ some (0 : TileId) = some (0 : TileId) ∧ (∀ e ∈ (u.tile 0).bankTrans, e.endAt ≠ none) ∧ (u.tile 0).power = none) ∧
    (let u := (inB ({ bor 3 511 with fail := some (8191, 127, 3) }) zBk).advance 0; u.rushOf (some (0 : TileId)) = some ({ bor 3 511 with fail := some (8191, 127, 3) }) ∧ ({ bor 3 511 with fail := some (8191, 127, 3) }).phase < 4 ∧ ({ bor 3 511 with fail := some (8191, 127, 3) }).phase = 3 ∧ some (0 : TileId) = some (0 : TileId) ∧ (∀ e ∈ (u.tile 0).bankTrans, e.endAt ≠ none) ∧ (u.tile 0).power = none) ∧
    (let u := (inB ({ bor 3 511 with aborted := true }) zBk).advance 0; u.rushOf (some (0 : TileId)) = some ({ bor 3 511 with aborted := true }) ∧ ({ bor 3 511 with aborted := true }).phase < 4 ∧ ({ bor 3 511 with aborted := true }).phase = 3 ∧ some (0 : TileId) = some (0 : TileId) ∧ (∀ e ∈ (u.tile 0).bankTrans, e.endAt ≠ none) ∧ (u.tile 0).power = none) ∧
    (let u := (inD ({ bor 3 511 with aborted := true }) zBk).advance 0; u.rushOf none = some ({ bor 3 511 with aborted := true }) ∧ ({ bor 3 511 with aborted := true }).phase < 4 ∧ ({ bor 3 511 with aborted := true }).phase = 3 ∧ (none : Option TileId) = none) :=
  ⟨⟨by decide, by decide, by decide⟩,
   ⟨by decide, by decide, by decide⟩,
   ⟨by decide, by decide, by decide⟩,
   ⟨by decide, by decide, by decide⟩,
   ⟨by decide, by decide, by decide, by decide, by decide, by decide⟩,
   ⟨by decide, by decide, by decide, by decide, by decide, by decide⟩,
   ⟨by decide, by decide, by decide, by decide, by decide, by decide⟩,
   ⟨by decide, by decide, by decide, by decide⟩⟩

theorem witness_BanksRushAndMapOut_4 :
    (let u := (inD ({ bor 3 511 with fail := some (31, 7, 9) }) zBk).advance 0; u.rushOf none = some ({ bor 3 511 with fail := some (31, 7, 9) }) ∧ ({ bor 3 511 with fail := some (31, 7, 9) }).phase < 4 ∧ ({ bor 3 511 with fail := some (31, 7, 9) }).phase = 3 ∧ (none : Option TileId) = none) ∧
    (let u := (enT zBk).advance 0; let en := match some (0 : TileId) with | some d => u.fget F.RUSHCFG_EN ↑d 0 | none => u.fget F.RDCFG_EN 0 0; let last := u.rushOf (some (0 : TileId)); let size := match some (0 : TileId) with | some val => 512 | none => u.fget F.DRSTAT_DSIZE 0 0; let fits := fun k => match some (0 : TileId) with | some d => u.fitsTile (↑d) k | none => k ≠ u.fget F.RDCFG_SHBASE 0 0; let free := ∀ (c : Borrow), last = some c → c.phase = 0; let ready := match some (0 : TileId) with | some d => u.tileOn ↑d = true ∧ (u.tile ↑d).power = none ∧ (u.tile ↑d).rushAt ≤ u.count | none => True; en = 1 ∧ free ∧ ready ∧ nextBorrow last size fits 0) ∧
    (let u := (enT (inB (bor 0 511) zBk)).advance 0; let en := match some (0 : TileId) with | some d => u.fget F.RUSHCFG_EN ↑d 0 | none => u.fget F.RDCFG_EN 0 0; let last := u.rushOf (some (0 : TileId)); let size := match some (0 : TileId) with | some val => 512 | none => u.fget F.DRSTAT_DSIZE 0 0; let fits := fun k => match some (0 : TileId) with | some d => u.fitsTile (↑d) k | none => k ≠ u.fget F.RDCFG_SHBASE 0 0; let free := ∀ (c : Borrow), last = some c → c.phase = 0; let ready := match some (0 : TileId) with | some d => u.tileOn ↑d = true ∧ (u.tile ↑d).power = none ∧ (u.tile ↑d).rushAt ≤ u.count | none => True; en = 1 ∧ free ∧ ready ∧ nextBorrow last size fits 0) ∧
    (let u := (enT (pwr (inB (bor 0 511) zBk) 1)).advance 0; let en := match some (0 : TileId) with | some d => u.fget F.RUSHCFG_EN ↑d 0 | none => u.fget F.RDCFG_EN 0 0; let last := u.rushOf (some (0 : TileId)); let size := match some (0 : TileId) with | some val => 512 | none => u.fget F.DRSTAT_DSIZE 0 0; let fits := fun k => match some (0 : TileId) with | some d => u.fitsTile (↑d) k | none => k ≠ u.fget F.RDCFG_SHBASE 0 0; let free := ∀ (c : Borrow), last = some c → c.phase = 0; let ready := match some (0 : TileId) with | some d => u.tileOn ↑d = true ∧ (u.tile ↑d).power = none ∧ (u.tile ↑d).rushAt ≤ u.count | none => True; en = 1 ∧ free ∧ ready ∧ nextBorrow last size fits 16) ∧
    (let u := (enD (inD (bor 0 0) zBk)).advance 0; let en := match (none : Option TileId) with | some d => u.fget F.RUSHCFG_EN ↑d 0 | none => u.fget F.RDCFG_EN 0 0; let last := u.rushOf none; let size := match (none : Option TileId) with | some val => 512 | none => u.fget F.DRSTAT_DSIZE 0 0; let fits := fun k => match (none : Option TileId) with | some d => u.fitsTile (↑d) k | none => k ≠ u.fget F.RDCFG_SHBASE 0 0; let free := ∀ (c : Borrow), last = some c → c.phase = 0; let ready := match (none : Option TileId) with | some d => u.tileOn ↑d = true ∧ (u.tile ↑d).power = none ∧ (u.tile ↑d).rushAt ≤ u.count | none => True; en = 1 ∧ free ∧ ready ∧ nextBorrow last size fits 1) ∧
    (let u := (enD (inD (bor 1 0) zBk)).advance 0; let en := match (none : Option TileId) with | some d => u.fget F.RUSHCFG_EN ↑d 0 | none => u.fget F.RDCFG_EN 0 0; let last := u.rushOf none; let size := match (none : Option TileId) with | some val => 512 | none => u.fget F.DRSTAT_DSIZE 0 0; let fits := fun k => match (none : Option TileId) with | some d => u.fitsTile (↑d) k | none => k ≠ u.fget F.RDCFG_SHBASE 0 0; let free := ∀ (c : Borrow), last = some c → c.phase = 0; let ready := match (none : Option TileId) with | some d => u.tileOn ↑d = true ∧ (u.tile ↑d).power = none ∧ (u.tile ↑d).rushAt ≤ u.count | none => True; (en ≠ 1 ∨ ¬free ∨ ¬ready ∨ ∀ k < size, ¬fits k)) ∧
    (let k := match (none : Option TileId) with | some val => RegKind.RUSHCFG | none => RegKind.RDCFG; let d := match (none : Option TileId) with | some d => ↑d | none => 0; let past := (none : Option TileId) = none ∧ wbits (wd (1 + 2 * 2 ^ 20)) 0 1 = 1 ∧ (enD zBk).fget F.DRSTAT_DSIZE 0 0 < wbits (wd (1 + 2 * 2 ^ 20)) 20 28 + 1; (enD zBk).Passes (Req.aklofy 0) k d 0 (wd (1 + 2 * 2 ^ 20)) ∧ past ∧ Req.aklofy 0 ≠ Req.host ∧ (enD zBk).canTell (Req.aklofy 0)) ∧
    (let k := match (none : Option TileId) with | some val => RegKind.RUSHCFG | none => RegKind.RDCFG; let d := match (none : Option TileId) with | some d => ↑d | none => 0; let en := wbits ((enD zBk).reg k d 0) 0 1; let past := (none : Option TileId) = none ∧ wbits (wd (1 + 1 * 2 ^ 20)) 0 1 = 1 ∧ (enD zBk).fget F.DRSTAT_DSIZE 0 0 < wbits (wd (1 + 1 * 2 ^ 20)) 20 28 + 1; (enD zBk).Passes (Req.aklofy 0) k d 0 (wd (1 + 1 * 2 ^ 20)) ∧ (¬past) ∧ (en ≠ 1 ∨ wbits (wd (1 + 1 * 2 ^ 20)) 0 1 = 1 ∨ ∀ (c : Borrow), (enD zBk).rushOf none = some c → c.phase = 0 ∨ c.phase = 3)) :=
  ⟨⟨by decide, by decide, by decide, by decide⟩,
   ⟨by decide, by decide, by decide, by unfold nextBorrow; dsimp only; (try unfold State.fitsTile); decide +kernel⟩,
   ⟨by decide, by decide, by decide, by unfold nextBorrow; dsimp only; (try unfold State.fitsTile); decide +kernel⟩,
   ⟨by decide, by decide, by decide, by unfold nextBorrow; dsimp only; (try unfold State.fitsTile); decide +kernel⟩,
   ⟨by decide, by decide, by decide, by unfold nextBorrow; dsimp only; (try unfold State.fitsTile); decide +kernel⟩,
   (by decide),
   ⟨⟨by decide, by decide, by decide, by decide, by decide, by decide⟩, by decide, by decide, by unfold State.canTell; decide⟩,
   ⟨⟨by decide, by decide, by decide, by decide, by decide, by decide⟩, by decide, by decide⟩⟩

theorem witness_BanksRushAndMapOut_5 :
    (let k := match some (0 : TileId) with | some val => RegKind.RUSHCFG | none => RegKind.RDCFG; let d := match some (0 : TileId) with | some d => ↑d | none => 0; let en := wbits ((enT (inB (bor 3 511) zBk)).reg k d 0) 0 1; let past := some (0 : TileId) = none ∧ wbits (wd (8 * 2)) 0 1 = 1 ∧ (enT (inB (bor 3 511) zBk)).fget F.DRSTAT_DSIZE 0 0 < wbits (wd (8 * 2)) 20 28 + 1; (enT (inB (bor 3 511) zBk)).Passes (Req.aklofy 0) k d 0 (wd (8 * 2)) ∧ (¬past) ∧ (en ≠ 1 ∨ wbits (wd (8 * 2)) 0 1 = 1 ∨ ∀ (c : Borrow), (enT (inB (bor 3 511) zBk)).rushOf (some (0 : TileId)) = some c → c.phase = 0 ∨ c.phase = 3)) ∧
    (let k := match some (0 : TileId) with | some val => RegKind.RUSHCFG | none => RegKind.RDCFG; let d := match some (0 : TileId) with | some d => ↑d | none => 0; let en := wbits ((enT (inB (bor 2 511) zBk)).reg k d 0) 0 1; (enT (inB (bor 2 511) zBk)).Passes (Req.aklofy 0) k d 0 (wd (8 * 2)) ∧ en = 1 ∧ wbits (wd (8 * 2)) 0 1 = 0 ∧ (enT (inB (bor 2 511) zBk)).rushOf (some (0 : TileId)) = some (bor 2 511) ∧ ((bor 2 511).phase = 1 ∨ (bor 2 511).phase = 2)) ∧
    (let k := match (none : Option TileId) with | some val => RegKind.RUSHCFG | none => RegKind.RDCFG; let d := match (none : Option TileId) with | some d => ↑d | none => 0; let en := wbits ((enD (inD (bor 1 511) zBk)).reg k d 0) 0 1; (enD (inD (bor 1 511) zBk)).Passes (Req.aklofy 0) k d 0 (wd (2 ^ 20)) ∧ en = 1 ∧ wbits (wd (2 ^ 20)) 0 1 = 0 ∧ (enD (inD (bor 1 511) zBk)).rushOf none = some (bor 1 511) ∧ ((bor 1 511).phase = 1 ∨ (bor 1 511).phase = 2)) ∧
    (let ready := (inD (bor 1 511) (zBk.fset F.DRCFG_RESV 0 0 1)).fget F.DRCFG_RESV 0 0 = 1 ∧ (inD (bor 1 511) (zBk.fset F.DRCFG_RESV 0 0 1)).fget F.DRSTAT_MOST 0 0 = 0; (inD (bor 1 511) (zBk.fset F.DRCFG_RESV 0 0 1)).Passes (Req.aklofy 0) RegKind.MOCMD 0 0 (wd 63) ∧ wbits (wd 63) 5 1 = 1 ∧ ready) ∧
    (let ready := zBk.fget F.DRCFG_RESV 0 0 = 1 ∧ zBk.fget F.DRSTAT_MOST 0 0 = 0; zBk.Passes (Req.aklofy 0) RegKind.MOCMD 0 0 (wd 63) ∧ wbits (wd 63) 5 1 = 1 ∧ (¬ready) ∧ Req.aklofy 0 ≠ Req.host ∧ zBk.canTell (Req.aklofy 0)) ∧
    (let reached := ((unc zBk).fset F.DRSTAT_MOST 0 0 2).fget F.DRCFG_UNCLIM 0 0 ≤ ((unc zBk).fset F.DRSTAT_MOST 0 0 2).fget F.CHSTAT_UNC 0 31; reached ∧ ((unc zBk).fset F.DRSTAT_MOST 0 0 2).fget F.DRSTAT_MOST 0 0 = 2 ∧ ((unc zBk).fset F.DRSTAT_MOST 0 0 2).Unwatched ∧ ((unc zBk).fset F.DRSTAT_MOST 0 0 2).Shown) ∧
    (let reached := (((unc zBk).fset F.DRCFG_AUTOMO 0 0 1).fset F.DRCFG_RESV 0 0 1).fget F.DRCFG_UNCLIM 0 0 ≤ (((unc zBk).fset F.DRCFG_AUTOMO 0 0 1).fset F.DRCFG_RESV 0 0 1).fget F.CHSTAT_UNC 0 31; let starts := (((unc zBk).fset F.DRCFG_AUTOMO 0 0 1).fset F.DRCFG_RESV 0 0 1).fget F.DRCFG_AUTOMO 0 0 = 1 ∧ (((unc zBk).fset F.DRCFG_AUTOMO 0 0 1).fset F.DRCFG_RESV 0 0 1).fget F.DRCFG_RESV 0 0 = 1 ∧ (((unc zBk).fset F.DRCFG_AUTOMO 0 0 1).fset F.DRCFG_RESV 0 0 1).fget F.DRSTAT_MOST 0 0 = 0; reached ∧ starts) ∧
    (let reached := (unc zBk).fget F.DRCFG_UNCLIM 0 0 ≤ (unc zBk).fget F.CHSTAT_UNC 0 31; let starts := (unc zBk).fget F.DRCFG_AUTOMO 0 0 = 1 ∧ (unc zBk).fget F.DRCFG_RESV 0 0 = 1 ∧ (unc zBk).fget F.DRSTAT_MOST 0 0 = 0; (¬reached ∨ ¬starts ∧ (unc zBk).fget F.DRSTAT_MOST 0 0 ≠ 2)) :=
  ⟨⟨⟨by decide, by decide, by decide, by decide, by decide, by decide⟩, by decide, by decide⟩,
   ⟨⟨by decide, by decide, by decide, by decide, by decide, by decide⟩, by decide, by decide, by decide, by decide⟩,
   ⟨⟨by decide, by decide, by decide, by decide, by decide, by decide⟩, by decide, by decide, by decide, by decide⟩,
   ⟨⟨by decide, by decide, by decide, by decide, by decide, by decide⟩, by decide, by decide⟩,
   ⟨⟨by decide, by decide, by decide, by decide, by decide, by decide⟩, by decide, by decide, by decide, by unfold State.canTell; decide⟩,
   ⟨by decide, by decide, ⟨by decide, by decide⟩, by unfold State.Shown; decide⟩,
   ⟨by decide, by decide⟩,
   (by decide)⟩

theorem witness_BanksRushAndMapOut_6 :
    (let u := zMo.advance 0; let p := u.fget F.DRSTAT_MOPTR 0 0; u.fget F.DRSTAT_MOST 0 0 = 1 ∧ u.moveStart + 512 ≤ u.now ∧ p < 1015807) ∧
    (let u := (zMo.fset F.DRSTAT_MOPTR 0 0 1015807).advance 0; let p := u.fget F.DRSTAT_MOPTR 0 0; u.fget F.DRSTAT_MOST 0 0 = 1 ∧ u.moveStart + 512 ≤ u.now ∧ p = 1015807 ∧ u.Unwatched ∧ u.Shown) ∧
    (let u := zBk.advance 0; (u.fget F.DRSTAT_MOST 0 0 ≠ 1 ∨ u.now < u.moveStart + 512)) :=
  ⟨⟨by decide, by decide, by decide⟩,
   ⟨by decide, by decide, by decide, ⟨by decide, by decide⟩, by unfold State.Shown; decide⟩,
   (by decide)⟩

end W17
end Sys2Proof.Tests
end

