-- ==== Sys2Proof/Tests/W18.lean ====
section
/-! SUPPORT. States that meet the hypotheses of: MeshGrantsDeliversAndFences. -/
set_option Elab.async false
open Sys2Proof Sys2Proof.Machine
namespace Sys2Proof.Tests
namespace W18
def zN := { withQ (strand 0 { wth [] with pc := 7 }) 255 3 with now := 1000 }
def tk (c : Nat) : Token := ⟨mkTag 1 40 9 0 0 c 0, mkDst 0xFFFF 0 0 3, 7, 9⟩
/-- a packet to router dr -/
def pk (vc dr : Nat) (edge : Bool) (arr stamp : Nat) (l : Payload) : Packet := { mkPacket 0 vc dr edge 44 false 1 l with arr := arr, stamp := stamp }
def pt (vc dr : Nat) (edge : Bool) (arr stamp : Nat) : Packet := pk vc dr edge arr stamp (.tok (tk (vc - 1)) (.node 3) 3)
def bufs (l : List (PortKey × List Packet)) (s : State) : State := { s with mesh := { s.mesh with buf := l } }
/-- router 0; out 1 is east, 2 south, 4 local -/
def zG1 := bufs [(⟨0, 0, 4, 1⟩, [pt 1 71 false 900 5, pt 1 71 false 901 6]), (⟨0, 0, 5, 1⟩, [pt 1 71 false 900 7]), (⟨0, 0, 2, 2⟩, [pt 2 71 false 900 8])] zN
def zG2 := bufs [(⟨0, 0, 4, 2⟩, [pt 2 71 false 900 5]), (⟨0, 0, 5, 4⟩, [pt 4 71 false 899 7])] zN
def zGL := bufs [(⟨0, 0, 5, 1⟩, [pt 1 0 false 999 5])] zN
def zGLi := zGL.fset F.RTCTL_ISOL 0 0 1
def zGL2 := (bufs [(⟨0, 0, 5, 1⟩, [{ pt 1 0 false 999 5 with len := 2 }])] zN).fset F.RTCTL_ISOL 0 0 1
def zGr := { zG1 with mesh := { zG1.mesh with granted := [((0, 0, 1), (1000, 3))] } }
def ej (p : Packet) : State := { zN with mesh := { zN.mesh with ej := [((0, 0, 4), [{ p with arr := 2000, stamp := 3 }, p])] } }
def mreq : MemReq := ⟨5, .thread 1 0, .read, 0x10000000003, 8, 0, 0, false, 0, 9, 0⟩
def zRs (fails : Nat) : State := { bufs [(⟨0, 1, 3, 2⟩, [pt 2 71 false 1 8, { pt 2 71 false 1001 5 with fails := fails }]), (⟨0, 0, 4, 2⟩, [{ pt 2 71 false 3 5 with idx := 1 }])] zN with mesh := { (bufs [(⟨0, 1, 3, 2⟩, [pt 2 71 false 1 8, { pt 2 71 false 1001 5 with fails := fails }]), (⟨0, 0, 4, 2⟩, [{ pt 2 71 false 3 5 with idx := 1 }])] zN).mesh with granted := [((0, 0, 1), (1000, 2))] } }
def zDead := zGL.fset F.RTCTL_DTTO 0 0 0
def ent (dr stamp due : Nat) (w : Bool) : Packet × Nat × Bool := (pt 2 dr false 1 stamp, due, w)
def zRet (l : List (Packet × Nat × Bool)) (b : List Packet) : State := { zN with mesh := { zN.mesh with ret := [((71, 4), l)], bwait := [((71, 4), b)] } }
def fenceR (s : State) : State := { s with mesh := { s.mesh with fenced := [(5, 71)] } }
def fullB (s : State) : State := { s with mesh := { s.mesh with buf := [(⟨0, 71, 4, 2⟩, List.replicate 9 (pt 2 5 false 1 3))] } }
def fz : Fin 68 := 67
def zFen := { zN with ctl := [.credit 3 4, .fence 67 71, .fence 67 71] }
def zUnf := { (fenceR (zRet [ent 38 1 5 true, ent 5 2 6 true] [])).fset F.RTCTL_FENCE 0 38 2 with ctl := [.unfence 67 38, .unfence 67 71] }
def mks : List (PortKey × List Packet) := [(⟨0, 38, 4, 3⟩, [pk 3 38 false 900 5 (.marker 67), pt 1 3 false 3 4]), (⟨0, 38, 1, 3⟩, [pk 3 38 false 900 6 (.marker 67)])]
def zMk := bufs mks zN
def zFd : State := { zN.fset F.RTCTL_FENCE 0 38 1 with mesh := { zN.mesh with marks := [((67, 0), 288), ((67, 1), 288)] } }
def held (s : State) : State := (tile0 s fun x => { x with power := some ⟨3, none, none, false⟩ }).fset F.LTMAP_PHYS 0 0 67
def done (s : State) : State := { s with ctl := [.credit 1 1, .fenceDone 67] }
def sub : Subst := { new := 64, old := 67, recovery := false, presync := true, moving := true, fencing := true, auto := false, slate := 5 }
def zOffer := { zRet [] [] with mesh := { (zRet [] []).mesh with offer := [((71, 4), 1000)] } }
def zSubs := { done zN with riari := { zN.riari with subs := [(3, { sub with old := 9 }), (63, sub)] } }

theorem witness_MeshGrantsDeliversAndFences_1 :
    (let u := zGr.advance 0; tfind? u.mesh.granted (0, 0, 1) = some (u.now, 3)) ∧
    (let u := zN.advance 0; u.wanting 0 0 1 = []) ∧
    (let u := zG1.advance 0; (∀ (vc : ℕ), tfind? u.mesh.granted (0, 0, 1) ≠ some (u.now, vc)) ∧ u.now < 2 ^ 64 ∧ u.flitWins 0 0 1 4 (pt 1 71 false 900 5) 0 ∧ (4 = 4 → u.noneKept 0) ∧ 1 < 4) ∧
    (let u := zG2.advance 0; (∀ (vc : ℕ), tfind? u.mesh.granted (0, 0, 1) ≠ some (u.now, vc)) ∧ u.now < 2 ^ 64 ∧ u.flitWins 0 0 1 4 (pt 2 71 false 900 5) 1 ∧ (4 = 4 → u.noneKept 0) ∧ 1 < 4) ∧
    (let u := zGL.advance 0; (∀ (vc : ℕ), tfind? u.mesh.granted (0, 0, 4) ≠ some (u.now, vc)) ∧ u.now < 2 ^ 64 ∧ u.flitWins 0 0 4 5 (pt 1 0 false 999 5) 0 ∧ (5 = 4 → u.noneKept 0) ∧ 4 ≤ 4 ∧ u.isolated 0 4 = false) ∧
    (let u := zGL2.advance 0; (∀ (vc : ℕ), tfind? u.mesh.granted (0, 0, 4) ≠ some (u.now, vc)) ∧ u.now < 2 ^ 64 ∧ u.flitWins 0 0 4 5 ({ pt 1 0 false 999 5 with len := 2 }) 0 ∧ (5 = 4 → u.noneKept 0) ∧ 4 ≤ 4 ∧ u.isolated 0 4 = true ∧ ({ pt 1 0 false 999 5 with len := 2 }).idx + 1 ≠ ({ pt 1 0 false 999 5 with len := 2 }).len) ∧
    (let u := zGLi.advance 0; (∀ (vc : ℕ), tfind? u.mesh.granted (0, 0, 4) ≠ some (u.now, vc)) ∧ u.now < 2 ^ 64 ∧ u.flitWins 0 0 4 5 (pt 1 0 false 999 5) 0 ∧ (5 = 4 → u.noneKept 0) ∧ 4 ≤ 4 ∧ u.isolated 0 4 = true ∧ (pt 1 0 false 999 5).idx + 1 = (pt 1 0 false 999 5).len ∧ (pt 1 0 false 999 5).load = Payload.tok (tk 0) (TokTo.node 3) 3 ∧ (pt 1 0 false 999 5).sedge = false ∧ (pt 1 0 false 999 5).sr ≠ 35) ∧
    (let u := zN.advance 0; let key := (0, 0, portNo false); let whole := fun p => p.idx + 1 = p.len ∧ p.arr ≤ u.now; (u.holdsPort 0 false = true ∨ ∀ p ∈ tget u.mesh.ej [] key, ¬whole p)) :=
  ⟨(by decide),
   (by decide),
   ⟨first_ne _ _ (by decide), by decide, by unfold State.flitWins older; dsimp only; decide +kernel, fun _ => kept_of _ _ (by decide), by decide⟩,
   ⟨first_ne _ _ (by decide), by decide, by unfold State.flitWins older; dsimp only; decide +kernel, fun _ => kept_of _ _ (by decide), by decide⟩,
   ⟨first_ne _ _ (by decide), by decide, by unfold State.flitWins older; dsimp only; decide +kernel, fun h => absurd h (by decide), by decide, by decide⟩,
   ⟨first_ne _ _ (by decide), by decide, by unfold State.flitWins older; dsimp only; decide +kernel, fun h => absurd h (by decide), by decide, by decide, by decide⟩,
   ⟨first_ne _ _ (by decide), by decide, by unfold State.flitWins older; dsimp only; decide +kernel, fun h => absurd h (by decide), by decide, by decide, by decide, by decide, by decide, by decide⟩,
   (by decide)⟩

theorem witness_MeshGrantsDeliversAndFences_2 :
    (let u := (ej (pt 2 0 false 1000 5)).advance 0; let key := (0, 0, portNo false); let whole := fun p => p.idx + 1 = p.len ∧ p.arr ≤ u.now; u.holdsPort 0 false = false ∧ tget u.mesh.ej [] key = [{ pt 2 0 false 1000 5 with arr := 2000, stamp := 3 }] ++ [pt 2 0 false 1000 5] ∧ (∀ q ∈ [{ pt 2 0 false 1000 5 with arr := 2000, stamp := 3 }], ¬whole q) ∧ whole (pt 2 0 false 1000 5) ∧ true = true ∧ (pt 2 0 false 1000 5).load = Payload.tok (tk 1) (TokTo.node 3) 3 ∧ (pt 2 0 false 1000 5).rty = false) ∧
    (let u := (ej (pk 2 0 false 1000 5 (Payload.tok (tk 1) (TokTo.lane 4095) 3))).advance 0; let key := (0, 0, portNo false); let whole := fun p => p.idx + 1 = p.len ∧ p.arr ≤ u.now; u.holdsPort 0 false = false ∧ tget u.mesh.ej [] key = [{ pk 2 0 false 1000 5 (Payload.tok (tk 1) (TokTo.lane 4095) 3) with arr := 2000, stamp := 3 }] ++ [pk 2 0 false 1000 5 (Payload.tok (tk 1) (TokTo.lane 4095) 3)] ∧ (∀ q ∈ [{ pk 2 0 false 1000 5 (Payload.tok (tk 1) (TokTo.lane 4095) 3) with arr := 2000, stamp := 3 }], ¬whole q) ∧ whole (pk 2 0 false 1000 5 (Payload.tok (tk 1) (TokTo.lane 4095) 3)) ∧ true = true ∧ (pk 2 0 false 1000 5 (Payload.tok (tk 1) (TokTo.lane 4095) 3)).load = Payload.tok (tk 1) (TokTo.lane 4095) 3 ∧ (pk 2 0 false 1000 5 (Payload.tok (tk 1) (TokTo.lane 4095) 3)).rty = false) ∧
    (let u := (ej (pk 2 0 false 1000 5 (Payload.tok (tk 1) (TokTo.queue 0 7) 3))).advance 0; let key := (0, 0, portNo false); let whole := fun p => p.idx + 1 = p.len ∧ p.arr ≤ u.now; u.holdsPort 0 false = false ∧ tget u.mesh.ej [] key = [{ pk 2 0 false 1000 5 (Payload.tok (tk 1) (TokTo.queue 0 7) 3) with arr := 2000, stamp := 3 }] ++ [pk 2 0 false 1000 5 (Payload.tok (tk 1) (TokTo.queue 0 7) 3)] ∧ (∀ q ∈ [{ pk 2 0 false 1000 5 (Payload.tok (tk 1) (TokTo.queue 0 7) 3) with arr := 2000, stamp := 3 }], ¬whole q) ∧ whole (pk 2 0 false 1000 5 (Payload.tok (tk 1) (TokTo.queue 0 7) 3)) ∧ true = true ∧ (pk 2 0 false 1000 5 (Payload.tok (tk 1) (TokTo.queue 0 7) 3)).load = Payload.tok (tk 1) (TokTo.queue 0 7) 3 ∧ (pk 2 0 false 1000 5 (Payload.tok (tk 1) (TokTo.queue 0 7) 3)).rty = false) ∧
    (let u := (ej (pk 2 0 false 1000 5 (Payload.tok (tk 1) (TokTo.fabric 3) 3))).advance 0; let key := (0, 0, portNo false); let whole := fun p => p.idx + 1 = p.len ∧ p.arr ≤ u.now; u.holdsPort 0 false = false ∧ tget u.mesh.ej [] key = [{ pk 2 0 false 1000 5 (Payload.tok (tk 1) (TokTo.fabric 3) 3) with arr := 2000, stamp := 3 }] ++ [pk 2 0 false 1000 5 (Payload.tok (tk 1) (TokTo.fabric 3) 3)] ∧ (∀ q ∈ [{ pk 2 0 false 1000 5 (Payload.tok (tk 1) (TokTo.fabric 3) 3) with arr := 2000, stamp := 3 }], ¬whole q) ∧ whole (pk 2 0 false 1000 5 (Payload.tok (tk 1) (TokTo.fabric 3) 3)) ∧ true = true ∧ (pk 2 0 false 1000 5 (Payload.tok (tk 1) (TokTo.fabric 3) 3)).load = Payload.tok (tk 1) (TokTo.fabric 3) 3) ∧
    (let u := (ej (pk 2 0 false 1000 5 (Payload.tok (tk 1) (TokTo.link 31) 3))).advance 0; let key := (0, 0, portNo false); let whole := fun p => p.idx + 1 = p.len ∧ p.arr ≤ u.now; u.holdsPort 0 false = false ∧ tget u.mesh.ej [] key = [{ pk 2 0 false 1000 5 (Payload.tok (tk 1) (TokTo.link 31) 3) with arr := 2000, stamp := 3 }] ++ [pk 2 0 false 1000 5 (Payload.tok (tk 1) (TokTo.link 31) 3)] ∧ (∀ q ∈ [{ pk 2 0 false 1000 5 (Payload.tok (tk 1) (TokTo.link 31) 3) with arr := 2000, stamp := 3 }], ¬whole q) ∧ whole (pk 2 0 false 1000 5 (Payload.tok (tk 1) (TokTo.link 31) 3)) ∧ 31 < 32 ∧ true = true ∧ (pk 2 0 false 1000 5 (Payload.tok (tk 1) (TokTo.link 31) 3)).load = Payload.tok (tk 1) (TokTo.link 31) 3 ∧ u.clUp 31 = false) ∧
    (let u := (ej (pk 2 0 false 1000 5 (Payload.req mreq))).advance 0; let key := (0, 0, portNo false); let whole := fun p => p.idx + 1 = p.len ∧ p.arr ≤ u.now; u.holdsPort 0 false = false ∧ tget u.mesh.ej [] key = [{ pk 2 0 false 1000 5 (Payload.req mreq) with arr := 2000, stamp := 3 }] ++ [pk 2 0 false 1000 5 (Payload.req mreq)] ∧ (∀ q ∈ [{ pk 2 0 false 1000 5 (Payload.req mreq) with arr := 2000, stamp := 3 }], ¬whole q) ∧ whole (pk 2 0 false 1000 5 (Payload.req mreq)) ∧ true = true ∧ (pk 2 0 false 1000 5 (Payload.req mreq)).load = Payload.req mreq) ∧
    (let u := (ej (pt 2 0 false 1000 5)).advance 0; let key := (0, 0, portNo false); let whole := fun p => p.idx + 1 = p.len ∧ p.arr ≤ u.now; u.holdsPort 0 false = false ∧ tget u.mesh.ej [] key = [{ pt 2 0 false 1000 5 with arr := 2000, stamp := 3 }] ++ [pt 2 0 false 1000 5] ∧ (∀ q ∈ [{ pt 2 0 false 1000 5 with arr := 2000, stamp := 3 }], ¬whole q) ∧ whole (pt 2 0 false 1000 5) ∧ false = false ∧ (pt 2 0 false 1000 5).load = Payload.tok (tk 1) (TokTo.node 3) 3 ∧ (pt 2 0 false 1000 5).sedge = false ∧ (pt 2 0 false 1000 5).sr ≠ 35) ∧
    (let u := zN.advance 0; tfind? u.mesh.granted (0, 0, 1) = none) :=
  ⟨⟨by decide, by decide, by decide, by decide, by decide, by decide, by decide⟩,
   ⟨by decide, by decide, by decide, by decide, by decide, by decide, by decide⟩,
   ⟨by decide, by decide, by decide, by decide, by decide, by decide, by decide⟩,
   ⟨by decide, by decide, by decide, by decide, by decide, by decide⟩,
   ⟨by decide, by decide, by decide, by decide, by decide, by decide, by decide, by decide⟩,
   ⟨by decide, by decide, by decide, by decide, by decide, by decide⟩,
   ⟨by decide, by decide, by decide, by decide, by decide, by decide, by decide, by decide⟩,
   (by decide)⟩

theorem witness_MeshGrantsDeliversAndFences_3 :
    (let u := ({ zRs 0 with now := 1002 }).advance 0; let key := { net := 0, router := neighbour 0 1, port := inPort 1, vc := 2 }; tfind? u.mesh.granted (0, 0, 1) = some (1000, 2) ∧ u.buf key = [pt 2 71 false 1 8] ++ [pt 2 71 false 1001 5] ∧ (pt 2 71 false 1001 5).arr < u.now) ∧
    (let u := (zRs 1).advance 0; let key := { net := 0, router := neighbour 0 1, port := inPort 1, vc := 2 }; tfind? u.mesh.granted (0, 0, 1) = some (1000, 2) ∧ u.buf key = [pt 2 71 false 1 8] ++ [{ pt 2 71 false 1001 5 with fails := 1 }] ∧ u.now ≤ ({ pt 2 71 false 1001 5 with fails := 1 }).arr ∧ ({ pt 2 71 false 1001 5 with fails := 1 }).fails < 2) ∧
    (let u := (zRs 2).advance 0; let key := { net := 0, router := neighbour 0 1, port := inPort 1, vc := 2 }; tfind? u.mesh.granted (0, 0, 1) = some (1000, 2) ∧ u.buf key = [pt 2 71 false 1 8] ++ [{ pt 2 71 false 1001 5 with fails := 2 }] ∧ u.now ≤ ({ pt 2 71 false 1001 5 with fails := 2 }).arr ∧ 2 ≤ ({ pt 2 71 false 1001 5 with fails := 2 }).fails ∧ ({ pt 2 71 false 1001 5 with fails := 2 }).load = Payload.tok (tk 1) (TokTo.node 3) 3 ∧ ({ pt 2 71 false 1001 5 with fails := 2 }).sedge = false ∧ ({ pt 2 71 false 1001 5 with fails := 2 }).sr ≠ 35) ∧
    (let u := zDead.advance 0; let out := portNo false; let beats := 8 * u.fget F.RTCTL_DTTO 0 0; let dead := tget u.mesh.lastCred 0 (0, out) + beats ≤ u.now ∧ ∃ net < 2, ∃ q ∈ u.wanting net 0 out, q.2.arr + beats ≤ u.now; u.dttoRuns 0 false = true ∧ u.isolated 0 out = false ∧ dead ∧ u.Unwatched) ∧
    (let u := zN.advance 0; let out := portNo false; let beats := 8 * u.fget F.RTCTL_DTTO 0 0; let dead := tget u.mesh.lastCred 0 (0, out) + beats ≤ u.now ∧ ∃ net < 2, ∃ q ∈ u.wanting net 0 out, q.2.arr + beats ≤ u.now; (u.dttoRuns 0 false = false ∨ u.isolated 0 out = true ∨ ¬dead)) ∧
    (let v := wset (zGLi.reg RegKind.RTCTL 0 0) (if false = true then 3 else 2) 1 1; zGLi.Passes (Req.aklofy 0) RegKind.RTCTL 0 0 v ∧ wbits (zGLi.reg RegKind.RTCTL 0 0) 2 2 = 0) ∧
    (let v := wset ((zGLi.fset F.RTCTL_ISOE 0 71 1).reg RegKind.RTCTL 0 71) (if true = true then 3 else 2) 1 1; (zGLi.fset F.RTCTL_ISOE 0 71 1).Passes (Req.aklofy 0) RegKind.RTCTL 0 71 v ∧ wbits ((zGLi.fset F.RTCTL_ISOE 0 71 1).reg RegKind.RTCTL 0 71) 2 2 = 0) ∧
    (let u := (zRet [] []).advance 0; let key := (71, portNo false); let q := u.retq 71 false; (tget u.mesh.bwait [] key = [] ∨ 16 ≤ q.length)) :=
  ⟨⟨by decide, by decide, by decide⟩,
   ⟨by decide, by decide, by decide, by decide⟩,
   ⟨by decide, by decide, by decide, by decide, by decide, by decide, by decide⟩,
   ⟨by decide, by decide, by decide, ⟨by decide, by decide⟩⟩,
   (by decide),
   ⟨⟨by decide, by decide, by decide, by decide, by decide, by decide⟩, by decide⟩,
   ⟨⟨by decide, by decide, by decide, by decide, by decide, by decide⟩, by decide⟩,
   (by decide)⟩

theorem witness_MeshGrantsDeliversAndFences_4 :
    (let u := (zRet [ent 3 9 1 false, ent 5 11 1 true, ent 5 13 1 false] [pt 2 5 false 1 12, pt 2 5 false 1 14]).advance 0; let key := (71, portNo false); let q := u.retq 71 false; let alike := fun e f => e.1.dr = f.1.dr ∧ e.1.edge = f.1.edge; let e := (pt 2 5 false 1 12, u.now + 8, false); tget u.mesh.bwait [] key = [pt 2 5 false 1 12, pt 2 5 false 1 14] ∧ q.length < 16 ∧ q = [ent 3 9 1 false, ent 5 11 1 true] ++ [ent 5 13 1 false] ∧ (∀ f ∈ [ent 3 9 1 false, ent 5 11 1 true], ¬(alike f e ∧ (pt 2 5 false 1 12).stamp < f.1.stamp)) ∧ (∀ (f : Packet × ℕ × Bool) (c : List (Packet × ℕ × Bool)), [ent 5 13 1 false] = f :: c → alike f e ∧ (pt 2 5 false 1 12).stamp < f.1.stamp)) ∧
    (let u := zOffer.advance 0; let key := (71, portNo false); tfind? u.mesh.offer key = some u.now) ∧
    (let u := (fenceR (zRet [ent 3 9 1 true, ent 5 11 1000 false, ent 5 13 1 false] [])).advance 0; let key := (71, portNo false); let q := u.retq 71 false; let alike := fun e f => e.1.dr = f.1.dr ∧ e.1.edge = f.1.edge; tfind? u.mesh.offer key ≠ some u.now ∧ q = [ent 3 9 1 true] ++ [ent 5 11 1000 false, ent 5 13 1 false] ∧ (List.map (fun f => f.1.stamp) q).Nodup ∧ (∀ f ∈ [ent 3 9 1 true], ¬alike f (ent 5 11 1000 false)) ∧ (ent 5 11 1000 false).2.1 ≤ u.now ∧ (ent 5 11 1000 false).2.2 = false ∧ (∀ (c : List (Packet × ℕ × Bool)) (f : Packet × ℕ × Bool) (d : List (Packet × ℕ × Bool)), [ent 3 9 1 true] = c ++ f :: d → u.now < f.2.1 ∨ f.2.2 = true ∨ ∃ g ∈ c, alike g f) ∧ u.fencedAt 71 (ent 5 11 1000 false).1.dr (ent 5 11 1000 false).1.edge = true) ∧
    (let u := (zRet [ent 3 9 1 true, ent 5 11 1000 false, ent 5 13 1 false] []).advance 0; let key := (71, portNo false); let q := u.retq 71 false; let alike := fun e f => e.1.dr = f.1.dr ∧ e.1.edge = f.1.edge; let buf := { (ent 5 11 1000 false).1 with router := 71, port := portNo false }; tfind? u.mesh.offer key ≠ some u.now ∧ q = [ent 3 9 1 true] ++ [ent 5 11 1000 false, ent 5 13 1 false] ∧ (List.map (fun f => f.1.stamp) q).Nodup ∧ (∀ f ∈ [ent 3 9 1 true], ¬alike f (ent 5 11 1000 false)) ∧ (ent 5 11 1000 false).2.1 ≤ u.now ∧ (ent 5 11 1000 false).2.2 = false ∧ (∀ (c : List (Packet × ℕ × Bool)) (f : Packet × ℕ × Bool) (d : List (Packet × ℕ × Bool)), [ent 3 9 1 true] = c ++ f :: d → u.now < f.2.1 ∨ f.2.2 = true ∨ ∃ g ∈ c, alike g f) ∧ u.fencedAt 71 (ent 5 11 1000 false).1.dr (ent 5 11 1000 false).1.edge = false ∧ u.bufUsed buf + (ent 5 11 1000 false).1.len ≤ bufCap (ent 5 11 1000 false).1.vc ∧ u.noneKept 71) ∧
    (let u := (fullB (zRet [ent 3 9 1 true, ent 5 11 1000 false, ent 5 13 1 false] [])).advance 0; let key := (71, portNo false); let q := u.retq 71 false; let alike := fun e f => e.1.dr = f.1.dr ∧ e.1.edge = f.1.edge; let buf := { (ent 5 11 1000 false).1 with router := 71, port := portNo false }; tfind? u.mesh.offer key ≠ some u.now ∧ q = [ent 3 9 1 true] ++ [ent 5 11 1000 false, ent 5 13 1 false] ∧ (List.map (fun f => f.1.stamp) q).Nodup ∧ (∀ f ∈ [ent 3 9 1 true], ¬alike f (ent 5 11 1000 false)) ∧ (ent 5 11 1000 false).2.1 ≤ u.now ∧ (ent 5 11 1000 false).2.2 = false ∧ (∀ (c : List (Packet × ℕ × Bool)) (f : Packet × ℕ × Bool) (d : List (Packet × ℕ × Bool)), [ent 3 9 1 true] = c ++ f :: d → u.now < f.2.1 ∨ f.2.2 = true ∨ ∃ g ∈ c, alike g f) ∧ u.fencedAt 71 (ent 5 11 1000 false).1.dr (ent 5 11 1000 false).1.edge = false ∧ bufCap (ent 5 11 1000 false).1.vc < u.bufUsed buf + (ent 5 11 1000 false).1.len) ∧
    (let u := zFen.advance 0; u.message (fun m => decide (m = Ctl.fence 67 71)) (Ctl.fence 67 71) [Ctl.credit 3 4, Ctl.fence 67 71]) ∧
    (let u := zN.advance 0; Ctl.fence 67 71 ∉ u.ctl) ∧
    (let u := zUnf.advance 0; u.message (fun m => decide (m = Ctl.unfence 67 71)) (Ctl.unfence 67 71) [Ctl.unfence 67 38]) :=
  ⟨⟨by decide, by decide, by decide, by decide, fun f c h => by obtain ⟨rfl, rfl⟩ := List.cons.inj h; decide⟩,
   (by decide),
   ⟨by decide, by decide, by decide, by decide, by decide, by decide, fun c f d h => by obtain ⟨rfl, rfl, rfl⟩ := split_one h; decide, by decide⟩,
   ⟨by decide, by decide, by decide, by decide, by decide, by decide, fun c f d h => by obtain ⟨rfl, rfl, rfl⟩ := split_one h; decide, by decide, by decide, by unfold State.noneKept; decide⟩,
   ⟨by decide, by decide, by decide, by decide, by decide, by decide, fun c f d h => by obtain ⟨rfl, rfl, rfl⟩ := split_one h; decide, by decide, by decide⟩,
   message_of _ _ _ _ (by decide),
   (by decide),
   message_of _ _ _ _ (by decide)⟩

theorem witness_MeshGrantsDeliversAndFences_5 :
    (let u := zUnf.advance 0; u.message (fun m => decide (m = Ctl.unfence 67 38)) (Ctl.unfence 67 38) [Ctl.unfence 67 71]) ∧
    (let u := zN.advance 0; Ctl.unfence 67 38 ∉ u.ctl) ∧
    (let u := zN.advance 0; let r := routerOfPhys 67; let l := List.filter (fun q => isMarker 67 q.2) (u.wanting 0 r 4); (tfind? u.mesh.markAt (67, 0) = some u.now ∨ l = [])) ∧
    (let u := zMk.advance 0; let r := routerOfPhys 67; let l := List.filter (fun q => isMarker 67 q.2) (u.wanting 0 r 4); tfind? u.mesh.markAt (67, 0) ≠ some u.now ∧ (1, pk 3 38 false 900 6 (Payload.marker 67)) ∈ l ∧ (∀ q ∈ l, q ≠ (1, pk 3 38 false 900 6 (Payload.marker 67)) → older (1, pk 3 38 false 900 6 (Payload.marker 67)) q)) ∧
    (let u := zN.advance 0; let r := routerOfPhys 67; let counted := u.fget F.RTCTL_FENCE 0 r = 1 ∧ tget u.mesh.marks 0 (67, 0) = 288 ∧ tget u.mesh.marks 0 (67, 1) = 288; (¬counted)) ∧
    (let u := zFd.advance 0; let r := routerOfPhys 67; let counted := u.fget F.RTCTL_FENCE 0 r = 1 ∧ tget u.mesh.marks 0 (67, 0) = 288 ∧ tget u.mesh.marks 0 (67, 1) = 288; counted ∧ (∀ (d : ℕ), ¬u.holder 67 d)) ∧
    (let u := (held zFd).advance 0; let r := routerOfPhys 67; let counted := u.fget F.RTCTL_FENCE 0 r = 1 ∧ tget u.mesh.marks 0 (67, 0) = 288 ∧ tget u.mesh.marks 0 (67, 1) = 288; counted ∧ u.holder 67 0) ∧
    ((done zN).message (fun m => decide (m = Ctl.fenceDone 67)) (Ctl.fenceDone 67) [Ctl.credit 1 1] ∧ (∀ (d : ℕ), ¬(done zN).holder 67 d) ∧ (done zN).noSubst 67) :=
  ⟨message_of _ _ _ _ (by decide),
   (by decide),
   (by decide),
   ⟨by decide, by decide, by unfold older; decide⟩,
   (by decide),
   ⟨by decide, noHolder _ _ (by decide)⟩,
   ⟨by decide, by unfold State.holder; decide⟩,
   ⟨message_of _ _ _ _ (by decide), noHolder _ _ (by decide), by unfold State.noSubst; decide⟩⟩

theorem witness_MeshGrantsDeliversAndFences_6 :
    ((held (done zN)).message (fun m => decide (m = Ctl.fenceDone 67)) (Ctl.fenceDone 67) [Ctl.credit 1 1] ∧ (held (done zN)).holder 67 0 ∧ (held (done zN)).noSubst 67) ∧
    (zSubs.message (fun m => decide (m = Ctl.fenceDone 67)) (Ctl.fenceDone 67) [Ctl.credit 1 1] ∧ zSubs.riari.subs = [(3, { sub with old := 9 })] ++ [(63, sub)] ∧ (∀ e ∈ [(3, { sub with old := 9 })], ¬(e.2.fencing = true ∧ e.2.old = 67)) ∧ sub.fencing = true ∧ sub.old = 67 ∧ (∀ (d : ℕ), ¬zSubs.holder 67 d) ∧ zSubs.Unwatched) :=
  ⟨⟨message_of _ _ _ _ (by decide), by unfold State.holder; decide, by unfold State.noSubst; decide⟩,
   ⟨message_of _ _ _ _ (by decide), by decide, by decide, by decide, by decide, noHolder _ _ (by decide), ⟨by decide, by decide⟩⟩⟩

end W18
end Sys2Proof.Tests
end

