-- ==== Sys2Proof/Tests/W19.lean ====
section
/-! SUPPORT. States that meet the hypotheses of: InterruptsAndHaltsReachTheirThread. -/
set_option Elab.async false
open Sys2Proof Sys2Proof.Machine
namespace Sys2Proof.Tests
namespace W19
def zI := { withQ (strand 0 { wth [] with pc := 7 }) 255 3 with now := 1000 }
def src (i p th : Nat) (s : State) : State := (((((s.setReg .IPEND 0 (i / 64) (s.reg .IPEND 0 (i / 64) ||| wd (2 ^ (i % 64)))).setReg .IEN 0 (i / 64) (s.reg .IEN 0 (i / 64) ||| wd (2 ^ (i % 64)))).fset F.ISRC_PRIO 0 i p).fset F.ISRC_TTHR 0 i th))
def zS := src 127 0x83 0 (src 126 0x92 0 (src 3 0x73 0 (zI.fset F.ICFG_SPLIT 0 0 4)))
def zSp := ((zS.fset F.THND_HEN 0 0 1).fset F.TINT_PTHR 0 0 8)
def zSq := ((zS.fset F.THND_HEN 0 0 1).fset F.TINT_PTHR 0 0 9)
def dsrc (i p th tt tcc : Nat) (s : State) : State := (((((s.setReg .DPEND 0 (i / 64) (s.reg .DPEND 0 (i / 64) ||| wd (2 ^ (i % 64)))).setReg .DEN 0 (i / 64) (s.reg .DEN 0 (i / 64) ||| wd (2 ^ (i % 64)))).fset F.DSRC_PRIO 0 i p).fset F.DSRC_TTHR 0 i th).fset F.DSRC_TTILE 0 i tt).fset F.DSRC_TCC 0 i tcc
def zD := dsrc 511 0xFF 0 0 0 (dsrc 510 0xFF 1 0 0 (dsrc 256 3 0 3 1 zI))
def zDel := { zI with ctl := [.credit 1 1, .devInt 511 0 1 3, .devInt 510 0 0 3, .devInt 510 0 0 4] }
def zDel2 := { zSp with ctl := [.devInt 510 0 0 9] }
def zRet := { zI.setReg .DDLVD 0 7 (wd (2 ^ 64 - 1)) with ctl := [.devRet 5, .devRet 511] }
def thr (x : Thread) (s : State) : State := { s with threads := [(0, x)] }
def zPre := thr { wth [] with pc := 77, preempt := true } ((zI.fset F.THND_HEN 0 0 1).fset F.THND_HPC 0 0 99)
def zBrk := (thr { wth [] with pc := 77 } zI).fset F.DBGT_BEN 0 0 1 |>.fset F.DBGT_BPC 0 0 77
def zHw := tile0 (thr { wth [] with st := .wait, wait := .wfe, haltReq := 2, since := 3 } zI) fun x => { x with ready := [⟨.wake 0, 1, 2, 3, 4, false, none⟩, ⟨.wake 1, 1, 2, 3, 4, false, none⟩] }
def hlt (ww : Bool) (wr : Option WakeRes) := thr { wth [] with st := .halted, wasWait := ww, wait := if ww then .wfe else .none, wres := wr, haltReq := 1, readyAt := 5 } zI

theorem witness_InterruptsAndHaltsReachTheirThread_1 :
    (zI.Passes (Req.thread 0 0) RegKind.ISWSET 0 0 (wd (2 ^ 63 + 2 ^ 47 + 1))) ∧
    (zI.Passes (Req.aklofy 0) RegKind.DSWSET 0 3 (wd (2 ^ 63 + 2 ^ 47 + 1))) ∧
    (let u := (zI.advance 0).levels; (∀ (i : ℕ), ¬u.eligibleTile 0 i)) ∧
    (let u := (zS.advance 0).levels; let prio := fun i => u.fget F.ISRC_PRIO 0 i; let split := u.fget F.ICFG_SPLIT 0 0; u.eligibleTile 0 126 ∧ (∀ (j : ℕ), u.eligibleTile 0 j → j ≠ 126 → before split (prio 126) 126 (prio j) j)) ∧
    (let u := (zSp.advance 0).levels; let prio := fun i => u.fget F.ISRC_PRIO 0 i; let split := u.fget F.ICFG_SPLIT 0 0; u.eligibleTile 0 126 ∧ (∀ (j : ℕ), u.eligibleTile 0 j → j ≠ 126 → before split (prio 126) 126 (prio j) j)) ∧
    (let u := (zSq.advance 0).levels; let prio := fun i => u.fget F.ISRC_PRIO 0 i; let split := u.fget F.ICFG_SPLIT 0 0; u.eligibleTile 0 126 ∧ (∀ (j : ℕ), u.eligibleTile 0 j → j ≠ 126 → before split (prio 126) 126 (prio j) j)) ∧
    (let u := (zI.advance 0).levels; (∀ (i : ℕ), ¬u.eligibleDev i)) ∧
    (let u := (zD.advance 0).levels; let prio := fun i => u.fget F.DSRC_PRIO 0 i; let split := u.fget F.DCFG_SPLIT 0 0; u.eligibleDev 511 ∧ (∀ (j : ℕ), u.eligibleDev j → j ≠ 511 → before split (prio 511) 511 (prio j) j)) :=
  ⟨⟨by decide, by decide, by decide, by decide, by decide, by decide⟩,
   ⟨by decide, by decide, by decide, by decide, by decide, by decide⟩,
   noTile _ _ (by decide),
   ⟨by unfold State.eligibleTile; decide, tile_all _ _ _ (by unfold before; decide)⟩,
   ⟨by unfold State.eligibleTile; decide, tile_all _ _ _ (by unfold before; decide)⟩,
   ⟨by unfold State.eligibleTile; decide, tile_all _ _ _ (by unfold before; decide)⟩,
   noDev _ (by decide +kernel),
   ⟨by unfold State.eligibleDev; decide, dev_all _ _ (by unfold before; decide +kernel)⟩⟩

theorem witness_InterruptsAndHaltsReachTheirThread_2 :
    (zDel.message (Ctl.isIntFor 0 1) (Ctl.devInt 511 0 1 3) [Ctl.credit 1 1, Ctl.devInt 510 0 0 3, Ctl.devInt 510 0 0 4] ∧ zDel.active 0 = true ∧ (zDel.thr 0 1).st = TState.free) ∧
    (zDel.message (Ctl.isIntFor 0 0) (Ctl.devInt 510 0 0 3) [Ctl.credit 1 1, Ctl.devInt 511 0 1 3, Ctl.devInt 510 0 0 4] ∧ zDel.active 0 = true ∧ (zDel.thr 0 0).st ≠ TState.free) ∧
    (zDel2.message (Ctl.isIntFor 0 0) (Ctl.devInt 510 0 0 9) [] ∧ zDel2.active 0 = true ∧ (zDel2.thr 0 0).st ≠ TState.free) ∧
    (zRet.message (fun m => decide (m = Ctl.devRet 511)) (Ctl.devRet 511) [Ctl.devRet 5]) ∧
    (Ctl.devRet 511 ∉ zI.ctl) ∧
    (let u := zPre.advance 0; let x := u.thr 0 0; let ready := x.st = TState.ready ∧ x.loads = [] ∧ x.readyAt ≤ u.now ∧ x.retry = none ∧ u.active 0 = true; let may := x.preempt = true ∧ ready ∧ x.inh = false ∧ u.fget F.THND_HEN 0 0 = 1; may) ∧
    (let u := zI.advance 0; let x := u.thr 0 0; let ready := x.st = TState.ready ∧ x.loads = [] ∧ x.readyAt ≤ u.now ∧ x.retry = none ∧ u.active 0 = true; let may := x.preempt = true ∧ ready ∧ x.inh = false ∧ u.fget F.THND_HEN 0 0 = 1; (¬may)) ∧
    (let u := zHw.advance 0; let x := u.thr 0 0; let ready := x.st = TState.ready ∧ x.loads = [] ∧ x.readyAt ≤ u.now ∧ x.retry = none ∧ u.active 0 = true; u.fget F.DBGT_CHPOL 0 0 = 0 ∧ x.haltReq < 4 ∧ x.haltReq ≠ 0 ∧ (ready ∨ x.st = TState.wait)) :=
  ⟨⟨message_of _ _ _ _ (by decide), by decide, by decide⟩,
   ⟨message_of _ _ _ _ (by decide), by decide, by decide⟩,
   ⟨message_of _ _ _ _ (by decide), by decide, by decide⟩,
   message_of _ _ _ _ (by decide),
   (by decide),
   (by decide),
   (by decide),
   ⟨by decide, by decide, by decide, by decide⟩⟩

theorem witness_InterruptsAndHaltsReachTheirThread_3 :
    (let u := (thr ({ wth [] with haltReq := 1 }) zI).advance 0; let x := u.thr 0 0; let ready := x.st = TState.ready ∧ x.loads = [] ∧ x.readyAt ≤ u.now ∧ x.retry = none ∧ u.active 0 = true; u.fget F.DBGT_CHPOL 0 0 = 0 ∧ x.haltReq < 4 ∧ x.haltReq ≠ 0 ∧ (ready ∨ x.st = TState.wait)) ∧
    (let u := zBrk.advance 0; let x := u.thr 0 0; let ready := x.st = TState.ready ∧ x.loads = [] ∧ x.readyAt ≤ u.now ∧ x.retry = none ∧ u.active 0 = true; let stop := u.fget F.DBGT_BEN 0 0 = 1 ∧ u.fget F.DBGT_BPC 0 0 = x.pc ∧ x.stepLeft = 0; u.fget F.DBGT_CHPOL 0 0 = 0 ∧ x.haltReq < 4 ∧ x.haltReq = 0 ∧ ready ∧ stop) ∧
    (let u := zI.advance 0; let x := u.thr 0 0; let ready := x.st = TState.ready ∧ x.loads = [] ∧ x.readyAt ≤ u.now ∧ x.retry = none ∧ u.active 0 = true; let stop := u.fget F.DBGT_BEN 0 0 = 1 ∧ u.fget F.DBGT_BPC 0 0 = x.pc ∧ x.stepLeft = 0; u.fget F.DBGT_CHPOL 0 0 = 0 ∧ x.haltReq < 4 ∧ x.haltReq = 0 ∧ (¬(ready ∧ stop))) ∧
    (let x := zHw.thr 0 0; zHw.Passes (Req.aklofy 0) RegKind.DBGT 0 0 (wset (zHw.reg RegKind.DBGT 0 0) 0 1 1) ∧ wbits (zHw.reg RegKind.DBGT 0 0) 0 3 = 0 ∧ zHw.fget F.DBGT_CHPOL 0 0 = 0 ∧ 0 = 0 ∧ x.st = TState.wait) ∧
    (let x := zI.thr 0 0; zI.Passes (Req.aklofy 0) RegKind.DBGT 0 0 (wset (zI.reg RegKind.DBGT 0 0) 0 1 1) ∧ wbits (zI.reg RegKind.DBGT 0 0) 0 3 = 0 ∧ zI.fget F.DBGT_CHPOL 0 0 = 0 ∧ 0 = 0 ∧ x.st = TState.ready) ∧
    (let x := zI.thr 0 1; zI.Passes (Req.aklofy 0) RegKind.DBGT 0 1 (wset (zI.reg RegKind.DBGT 0 1) 0 1 1) ∧ wbits (zI.reg RegKind.DBGT 0 1) 0 3 = 0 ∧ zI.fget F.DBGT_CHPOL 0 1 = 0 ∧ 0 = 0 ∧ x.st ≠ TState.wait ∧ x.st ≠ TState.ready) ∧
    (let x := zI.thr 0 0; zI.Passes (Req.aklofy 0) RegKind.DBGT 0 0 (wset (zI.reg RegKind.DBGT 0 0) 1 1 1) ∧ wbits (zI.reg RegKind.DBGT 0 0) 0 3 = 0 ∧ zI.fget F.DBGT_CHPOL 0 0 = 0 ∧ (1 = if false = true then 2 else 1) ∧ x.st ≠ TState.halted) ∧
    (let x := zI.thr 0 0; zI.Passes (Req.aklofy 0) RegKind.DBGT 0 0 (wset (zI.reg RegKind.DBGT 0 0) 2 1 1) ∧ wbits (zI.reg RegKind.DBGT 0 0) 0 3 = 0 ∧ zI.fget F.DBGT_CHPOL 0 0 = 0 ∧ (2 = if true = true then 2 else 1) ∧ x.st ≠ TState.halted) :=
  ⟨⟨by decide, by decide, by decide, by decide⟩,
   ⟨by decide, by decide, by decide, by decide, by decide⟩,
   ⟨by decide, by decide, by decide, by decide⟩,
   ⟨⟨by decide, by decide, by decide, by decide, by decide, by decide⟩, by decide, by decide, by decide, by decide⟩,
   ⟨⟨by decide, by decide, by decide, by decide, by decide, by decide⟩, by decide, by decide, by decide, by decide⟩,
   ⟨⟨by decide, by decide, by decide, by decide, by decide, by decide⟩, by decide, by decide, by decide, by decide, by decide⟩,
   ⟨⟨by decide, by decide, by decide, by decide, by decide, by decide⟩, by decide, by decide, by decide, by decide⟩,
   ⟨⟨by decide, by decide, by decide, by decide, by decide, by decide⟩, by decide, by decide, by decide, by decide⟩⟩

theorem witness_InterruptsAndHaltsReachTheirThread_4 :
    (let x := (hlt false none).thr 0 0; (hlt false none).Passes (Req.aklofy 0) RegKind.DBGT 0 0 (wset ((hlt false none).reg RegKind.DBGT 0 0) 1 1 1) ∧ wbits ((hlt false none).reg RegKind.DBGT 0 0) 0 3 = 0 ∧ (hlt false none).fget F.DBGT_CHPOL 0 0 = 0 ∧ (1 = if false = true then 2 else 1) ∧ x.st = TState.halted ∧ (x.wasWait = false ∨ x.wres = none)) ∧
    (let x := (hlt true none).thr 0 0; (hlt true none).Passes (Req.aklofy 0) RegKind.DBGT 0 0 (wset ((hlt true none).reg RegKind.DBGT 0 0) 2 1 1) ∧ wbits ((hlt true none).reg RegKind.DBGT 0 0) 0 3 = 0 ∧ (hlt true none).fget F.DBGT_CHPOL 0 0 = 0 ∧ (2 = if true = true then 2 else 1) ∧ x.st = TState.halted ∧ (x.wasWait = false ∨ x.wres = none)) ∧
    (let x := (hlt true (some WakeRes.retry)).thr 0 0; (hlt true (some WakeRes.retry)).Passes (Req.aklofy 0) RegKind.DBGT 0 0 (wset ((hlt true (some WakeRes.retry)).reg RegKind.DBGT 0 0) 2 1 1) ∧ wbits ((hlt true (some WakeRes.retry)).reg RegKind.DBGT 0 0) 0 3 = 0 ∧ (hlt true (some WakeRes.retry)).fget F.DBGT_CHPOL 0 0 = 0 ∧ (2 = if true = true then 2 else 1) ∧ x.st = TState.halted ∧ x.wasWait = true ∧ x.wres ≠ none) ∧
    (let x := (hlt true (some WakeRes.retry)).thr 0 0; (hlt true (some WakeRes.retry)).Passes (Req.aklofy 0) RegKind.DBGT 0 0 (wset ((hlt true (some WakeRes.retry)).reg RegKind.DBGT 0 0) 1 1 1) ∧ wbits ((hlt true (some WakeRes.retry)).reg RegKind.DBGT 0 0) 0 3 = 0 ∧ (hlt true (some WakeRes.retry)).fget F.DBGT_CHPOL 0 0 = 0 ∧ (1 = if false = true then 2 else 1) ∧ x.st = TState.halted ∧ x.wasWait = true ∧ x.wres ≠ none) ∧
    (let x := zI.thr 0 0; zI.Passes (Req.aklofy 0) RegKind.DBGT 0 0 (wset (zI.reg RegKind.DBGT 0 0) 3 1 1) ∧ wbits (zI.reg RegKind.DBGT 0 0) 0 3 = 0 ∧ zI.fget F.DBGT_CHPOL 0 0 = 0 ∧ 3 = 3 ∧ (x.st ≠ TState.halted ∨ ∀ (d q : ℕ), zI.fget F.QPTR_RESV d q = 1 → zI.chanOwner d q ≠ (0 % 64, 0))) :=
  ⟨⟨⟨by decide, by decide, by decide, by decide, by decide, by decide⟩, by decide, by decide, by decide, by decide, by decide⟩,
   ⟨⟨by decide, by decide, by decide, by decide, by decide, by decide⟩, by decide, by decide, by decide, by decide, by decide⟩,
   ⟨⟨by decide, by decide, by decide, by decide, by decide, by decide⟩, by decide, by decide, by decide, by decide, by decide, by decide⟩,
   ⟨⟨by decide, by decide, by decide, by decide, by decide, by decide⟩, by decide, by decide, by decide, by decide, by decide, by decide⟩,
   ⟨⟨by decide, by decide, by decide, by decide, by decide, by decide⟩, by decide, by decide, by decide, .inl (by decide)⟩⟩

end W19
end Sys2Proof.Tests
end

