-- ==== Sys2Proof/Tests/W20.lean ====
section
/-! SUPPORT. States that meet the hypotheses of: DomainsSleepAndWake. -/
set_option Elab.async false
open Sys2Proof Sys2Proof.Machine
namespace Sys2Proof.Tests
namespace W20
def zP := { withQ (strand 0 { wth [] with pc := 7 }) 255 3 with now := 1000 }
/-- tile 5 rests -/
def t5 : Tile := { Tile.rst with idleSince := 3 }
def st5 (st : Nat) (x : Tile) (s : State) : State := { s.fset F.TPWR_STATE 0 5 st with tiles := (5, x) :: s.tiles }
def v5 (req : Nat) : Word := wd (req + 2 ^ 5 + 2 ^ 6)
def tr (dest : Nat) (e : Option Nat) : Tile := { t5 with power := some ⟨dest, e, none, false⟩ }
def c0 (s : State) : State := { s with ctxs := [(9, { Ctx.rst with st := 1, tileset := 32 })] }
def bor (ph : Nat) : Tile := { t5 with borrow := some ⟨7, ph, [5], none, false⟩ }
def tim (dl : Nat) (x : Tile) : Tile := { x with delay := [⟨1, 0, dl, 0, .sleep 0⟩] }
def idl (s : State) : State := s.fset F.TPWR_IDLEEN 0 5 1
def wth5 (s : State) : State := { s with threads := [(80, { Thread.rst with pc := 7, st := .wait, wait := .wfe })], mem := [(spadAddr 5 9, 1)] }
def kw (ts src tile : Nat) (s : State) : State := (((s.fset F.KWATCH_VALID 0 31 1).fset F.KWATCH_TSRC 0 31 ts).fset F.KWATCH_SRC 0 31 src).fset F.KWATCH_TILE 0 31 tile
def pe (s : State) : State := (s.setReg .IPEND 5 1 (wd (2 ^ 63))).setReg .IEN 5 1 (wd (2 ^ 63))
def pd (s : State) : State := ((s.setReg .DPEND 0 7 (wd (2 ^ 63))).setReg .DEN 0 7 (wd (2 ^ 63))).fset F.DSRC_TTILE 0 511 5 |>.fset F.DSRC_TCC 0 511 0
def xIn := { tr 0 (some 1000) with inL := [(1, [⟨⟨1,2,3,4⟩, false, .none⟩])] }
def xAsked := { tr 3 (some 1000) with wakeAsked := some 0 }

theorem witness_DomainsSleepAndWake_1 :
    (let x := (st5 1 t5 zP).tile 5; let st := (st5 1 t5 zP).fget F.TPWR_STATE 0 5; (st5 1 t5 zP).Passes (Req.aklofy 0) RegKind.TPWR 0 5 (v5 0) ∧ wbits (v5 0) 0 2 = 0 ∧ x.power = none ∧ st < 2) ∧
    (let x := (st5 2 t5 zP).tile 5; let st := (st5 2 t5 zP).fget F.TPWR_STATE 0 5; (st5 2 t5 zP).Passes (Req.aklofy 0) RegKind.TPWR 0 5 (v5 0) ∧ wbits (v5 0) 0 2 = 0 ∧ x.power = none ∧ 2 ≤ st) ∧
    (let x := (st5 3 t5 zP).tile 5; let st := (st5 3 t5 zP).fget F.TPWR_STATE 0 5; (st5 3 t5 zP).Passes (Req.aklofy 0) RegKind.TPWR 0 5 (v5 0) ∧ wbits (v5 0) 0 2 = 0 ∧ x.power = none ∧ 2 ≤ st) ∧
    (let x := (st5 1 (tr 2 (some 3000)) zP).tile 5; (st5 1 (tr 2 (some 3000)) zP).Passes (Req.aklofy 0) RegKind.TPWR 0 5 (v5 0) ∧ wbits (v5 0) 0 2 = 0 ∧ x.power = some ({ dest := 2, endAt := some 3000, fencedAt := none, thenOff := false } : PowerTrans) ∧ ({ dest := 2, endAt := some 3000, fencedAt := none, thenOff := false } : PowerTrans).dest = 2) ∧
    (let class0 := ∃ c ∈ ({ c0 (st5 1 t5 zP) with threads := [(1024, rdy)] }).ctxs, c.2.st = 1 ∧ c.2.cls = 0 ∧ c.2.tileset.testBit 5 = true; ({ c0 (st5 1 t5 zP) with threads := [(1024, rdy)] }).Passes (Req.thread 64 0) RegKind.TPWR 0 5 (v5 2) ∧ wbits (v5 2) 0 2 = 2 ∧ class0 ∧ Req.thread 64 0 ≠ Req.host ∧ ({ c0 (st5 1 t5 zP) with threads := [(1024, rdy)] }).canTell (Req.thread 64 0)) ∧
    (let class0 := ∃ c ∈ (c0 (st5 1 t5 zP)).ctxs, c.2.st = 1 ∧ c.2.cls = 0 ∧ c.2.tileset.testBit 5 = true; (c0 (st5 1 t5 zP)).Passes (Req.aklofy 0) RegKind.TPWR 0 5 (v5 2) ∧ wbits (v5 2) 0 2 = 2 ∧ class0 ∧ Req.aklofy 0 ≠ Req.host ∧ (c0 (st5 1 t5 zP)).canTell (Req.aklofy 0)) ∧
    (let x := (st5 1 t5 zP).tile 5; let st := (st5 1 t5 zP).fget F.TPWR_STATE 0 5; let class0 := ∃ c ∈ (st5 1 t5 zP).ctxs, c.2.st = 1 ∧ c.2.cls = 0 ∧ c.2.tileset.testBit 5 = true; (st5 1 t5 zP).Passes (Req.aklofy 0) RegKind.TPWR 0 5 (v5 2) ∧ wbits (v5 2) 0 2 = 2 ∧ (¬class0) ∧ st < 2 ∧ x.power = none) ∧
    (let x := (st5 0 t5 zP).tile 5; let st := (st5 0 t5 zP).fget F.TPWR_STATE 0 5; let class0 := ∃ c ∈ (st5 0 t5 zP).ctxs, c.2.st = 1 ∧ c.2.cls = 0 ∧ c.2.tileset.testBit 5 = true; (st5 0 t5 zP).Passes (Req.aklofy 0) RegKind.TPWR 0 5 (v5 2) ∧ wbits (v5 2) 0 2 = 2 ∧ (¬class0) ∧ st < 2 ∧ x.power = none) :=
  ⟨⟨⟨by decide, by decide, by decide, by decide, by decide, by decide⟩, by decide, by decide, by decide⟩,
   ⟨⟨by decide, by decide, by decide, by decide, by decide, by decide⟩, by decide, by decide, by decide⟩,
   ⟨⟨by decide, by decide, by decide, by decide, by decide, by decide⟩, by decide, by decide, by decide⟩,
   ⟨⟨by decide, by decide, by decide, by decide, by decide, by decide⟩, by decide, by decide, by decide⟩,
   ⟨⟨by decide, by decide, by decide, by decide, by decide, by decide⟩, by decide, by decide, by decide, canTell_of _ _ _ (by decide) (by decide) (by decide) (fun h => absurd h (by decide))⟩,
   ⟨⟨by decide, by decide, by decide, by decide, by decide, by decide⟩, by decide, by decide, by decide, by unfold State.canTell; decide⟩,
   ⟨⟨by decide, by decide, by decide, by decide, by decide, by decide⟩, by decide, by decide, by decide, by decide⟩,
   ⟨⟨by decide, by decide, by decide, by decide, by decide, by decide⟩, by decide, by decide, by decide, by decide⟩⟩

theorem witness_DomainsSleepAndWake_2 :
    (let x := (st5 2 t5 zP).tile 5; let st := (st5 2 t5 zP).fget F.TPWR_STATE 0 5; let class0 := ∃ c ∈ (st5 2 t5 zP).ctxs, c.2.st = 1 ∧ c.2.cls = 0 ∧ c.2.tileset.testBit 5 = true; (st5 2 t5 zP).Passes (Req.aklofy 0) RegKind.TPWR 0 5 (v5 2) ∧ wbits (v5 2) 0 2 = 2 ∧ (¬class0) ∧ (2 ≤ st ∨ x.power ≠ none)) ∧
    (let st := (wth5 (st5 1 t5 zP)).fget F.TPWR_STATE 0 5; (wth5 (st5 1 t5 zP)).Passes (Req.aklofy 0) RegKind.TPWR 0 5 (v5 3) ∧ wbits (v5 3) 0 2 = 3 ∧ st ≠ 3 ∧ (wth5 (st5 1 t5 zP)).busyTile 5 ∧ Req.aklofy 0 ≠ Req.host ∧ (wth5 (st5 1 t5 zP)).canTell (Req.aklofy 0)) ∧
    (let x := (st5 3 t5 zP).tile 5; let st := (st5 3 t5 zP).fget F.TPWR_STATE 0 5; (st5 3 t5 zP).Passes (Req.aklofy 0) RegKind.TPWR 0 5 (v5 3) ∧ wbits (v5 3) 0 2 = 3 ∧ st = 3 ∧ x.power = none) ∧
    (let x := (st5 2 t5 zP).tile 5; let st := (st5 2 t5 zP).fget F.TPWR_STATE 0 5; (st5 2 t5 zP).Passes (Req.aklofy 0) RegKind.TPWR 0 5 (v5 3) ∧ wbits (v5 3) 0 2 = 3 ∧ st = 2 ∧ (¬(st5 2 t5 zP).busyTile 5) ∧ x.power = none) ∧
    (let x := (st5 1 (bor 0) zP).tile 5; let st := (st5 1 (bor 0) zP).fget F.TPWR_STATE 0 5; (st5 1 (bor 0) zP).Passes (Req.aklofy 0) RegKind.TPWR 0 5 (v5 3) ∧ wbits (v5 3) 0 2 = 3 ∧ st < 2 ∧ (¬(st5 1 (bor 0) zP).busyTile 5) ∧ x.power = none ∧ (∀ (b : Borrow), x.borrow = some b → b.phase = 0)) ∧
    (let x := (st5 1 (bor 2) zP).tile 5; let st := (st5 1 (bor 2) zP).fget F.TPWR_STATE 0 5; (st5 1 (bor 2) zP).Passes (Req.aklofy 0) RegKind.TPWR 0 5 (v5 3) ∧ wbits (v5 3) 0 2 = 3 ∧ st < 2 ∧ (¬(st5 1 (bor 2) zP).busyTile 5) ∧ x.power = none ∧ x.borrow = some ({ region := 7, phase := 2, early := [5], fail := none, aborted := false } : Borrow) ∧ (({ region := 7, phase := 2, early := [5], fail := none, aborted := false } : Borrow).phase = 1 ∨ ({ region := 7, phase := 2, early := [5], fail := none, aborted := false } : Borrow).phase = 2)) ∧
    (let u := (idl (st5 0 t5 zP)).advance 0; let x := u.tile 5; let st := u.fget F.TPWR_STATE 0 5; let rests := st = 0 ∧ u.fget F.TPWR_IDLEEN 0 5 = 1 ∧ u.quiet 5 = true ∧ x.idleSince + 16 ≤ u.now; rests ∧ (∀ (p : PowerTrans), x.power = some p → p.dest ≠ 2)) ∧
    (let u := (idl (st5 0 (tr 2 none) zP)).advance 0; let x := u.tile 5; let st := u.fget F.TPWR_STATE 0 5; let rests := st = 0 ∧ u.fget F.TPWR_IDLEEN 0 5 = 1 ∧ u.quiet 5 = true ∧ x.idleSince + 16 ≤ u.now; rests ∧ x.power = some ({ dest := 2, endAt := none, fencedAt := none, thenOff := false } : PowerTrans) ∧ ({ dest := 2, endAt := none, fencedAt := none, thenOff := false } : PowerTrans).dest = 2) :=
  ⟨⟨⟨by decide, by decide, by decide, by decide, by decide, by decide⟩, by decide, by decide, by decide⟩,
   ⟨⟨by decide, by decide, by decide, by decide, by decide, by decide⟩, by decide, by decide, by unfold State.busyTile; decide +kernel, by decide, by unfold State.canTell; decide⟩,
   ⟨⟨by decide, by decide, by decide, by decide, by decide, by decide⟩, by decide, by decide, by decide⟩,
   ⟨⟨by decide, by decide, by decide, by decide, by decide, by decide⟩, by decide, by decide, by unfold State.busyTile; decide +kernel, by decide⟩,
   ⟨⟨by decide, by decide, by decide, by decide, by decide, by decide⟩, by decide, by decide, by unfold State.busyTile; decide +kernel, by decide, by decide⟩,
   ⟨⟨by decide, by decide, by decide, by decide, by decide, by decide⟩, by decide, by decide, by unfold State.busyTile; decide +kernel, by decide, by decide, by decide⟩,
   ⟨by decide, by decide⟩,
   ⟨by decide, by decide, by decide⟩⟩

theorem witness_DomainsSleepAndWake_3 :
    (let u := ((st5 0 t5 zP).fset F.TPWR_IDLEEN 0 5 0).advance 0; let x := u.tile 5; let st := u.fget F.TPWR_STATE 0 5; let rests := st = 0 ∧ u.fget F.TPWR_IDLEEN 0 5 = 1 ∧ u.quiet 5 = true ∧ x.idleSince + 16 ≤ u.now; (¬rests)) ∧
    (let u := (st5 1 (tim (1000 + 28 * 8) (tr 2 (some 1000))) zP).advance 0; let x := u.tile 5; let st := u.fget F.TPWR_STATE 0 5; let far := ∀ k ∈ x.delay, 28 ≤ u.beatsTo k.deadline; let due := fun n => ∃ p e, x.power = some p ∧ p.dest = n ∧ p.endAt = some e ∧ e ≤ u.now; due 2 ∧ st = 1 ∧ u.quiet 5 = true ∧ far) ∧
    (let u := (st5 1 (tim 125 (tr 2 (some 1000))) zP).advance 0; let x := u.tile 5; let st := u.fget F.TPWR_STATE 0 5; let far := ∀ k ∈ x.delay, 28 ≤ u.beatsTo k.deadline; let due := fun n => ∃ p e, x.power = some p ∧ p.dest = n ∧ p.endAt = some e ∧ e ≤ u.now; (¬(due 2 ∧ st = 1 ∧ u.quiet 5 = true ∧ far))) ∧
    (let u := (st5 0 (tr 3 (some 1000)) zP).advance 0; let x := u.tile 5; let due := fun n => ∃ p e, x.power = some p ∧ p.dest = n ∧ p.endAt = some e ∧ e ≤ u.now; due 3 ∧ x.wakeAsked = none) ∧
    (let u := (st5 0 xAsked zP).advance 0; let x := u.tile 5; let due := fun n => ∃ p e, x.power = some p ∧ p.dest = n ∧ p.endAt = some e ∧ e ≤ u.now; due 3 ∧ x.wakeAsked ≠ none) ∧
    (let u := (st5 0 (tr 3 (some 1001)) zP).advance 0; let x := u.tile 5; let due := fun n => ∃ p e, x.power = some p ∧ p.dest = n ∧ p.endAt = some e ∧ e ≤ u.now; (¬due 3)) ∧
    (let u := (st5 2 (tr 0 (some 1001)) zP).advance 0; let x := u.tile 5; let due := fun n => ∃ p e, x.power = some p ∧ p.dest = n ∧ p.endAt = some e ∧ e ≤ u.now; (¬due 0)) ∧
    (let u := (wth5 (st5 2 (tr 0 (some 1000)) zP)).advance 0; let x := u.tile 5; let st := u.fget F.TPWR_STATE 0 5; x.power = some ({ dest := 0, endAt := some 1000, fencedAt := none, thenOff := false } : PowerTrans) ∧ ({ dest := 0, endAt := some 1000, fencedAt := none, thenOff := false } : PowerTrans).dest = 0 ∧ ({ dest := 0, endAt := some 1000, fencedAt := none, thenOff := false } : PowerTrans).endAt = some 1000 ∧ 1000 ≤ u.now ∧ ({ dest := 0, endAt := some 1000, fencedAt := none, thenOff := false } : PowerTrans).thenOff = false ∧ st ≠ 3) :=
  ⟨(by decide),
   ⟨⟨_, _, rfl, rfl, rfl, by decide⟩, by decide, by decide, by decide⟩,
   (fun h => absurd h.2.2.2 (by decide)),
   ⟨⟨_, _, rfl, rfl, rfl, by decide⟩, by decide⟩,
   ⟨⟨_, _, rfl, rfl, rfl, by decide⟩, by decide⟩,
   notDue (by decide),
   notDue (by decide),
   ⟨by decide, by decide, by decide, by decide, by decide, by decide⟩⟩

theorem witness_DomainsSleepAndWake_4 :
    (let u := (wth5 (st5 3 xIn zP)).advance 0; let x := u.tile 5; let st := u.fget F.TPWR_STATE 0 5; x.power = some ({ dest := 0, endAt := some 1000, fencedAt := none, thenOff := false } : PowerTrans) ∧ ({ dest := 0, endAt := some 1000, fencedAt := none, thenOff := false } : PowerTrans).dest = 0 ∧ ({ dest := 0, endAt := some 1000, fencedAt := none, thenOff := false } : PowerTrans).endAt = some 1000 ∧ 1000 ≤ u.now ∧ ({ dest := 0, endAt := some 1000, fencedAt := none, thenOff := false } : PowerTrans).thenOff = false ∧ st = 3) ∧
    (let u := (st5 2 (tim 153 t5) zP).advance 0; let x := u.tile 5; let st := u.fget F.TPWR_STATE 0 5; st = 2 ∧ x.power = none ∧ (∃ k ∈ x.delay, u.beatsTo k.deadline ≤ 28)) ∧
    (let u := (st5 2 (tim 154 t5) zP).advance 0; let x := u.tile 5; let st := u.fget F.TPWR_STATE 0 5; (st ≠ 2 ∨ ∀ k ∈ x.delay, 28 < u.beatsTo k.deadline)) ∧
    (let u := zP.advance 0; u.fget F.KWATCH_VALID 0 31 = 0) ∧
    (let u := (kw 1 127 5 (pe (st5 2 t5 zP))).advance 0; let src := u.fget F.KWATCH_SRC 0 31; let bit := fun k d => BitVec.getLsbD (u.reg k d (src / 64)) (src % 64); 5 < 64 ∧ u.fget F.KWATCH_VALID 0 31 = 1 ∧ 2 ≤ u.fget F.TPWR_STATE 0 5 ∧ (u.tile 5).power = none ∧ (u.fget F.KWATCH_TSRC 0 31 = 1 ∧ src < 128 ∧ u.fget F.KWATCH_TILE 0 31 = 5 ∧ bit RegKind.IPEND 5 = true ∧ bit RegKind.IEN 5 = true ∧ bit RegKind.IDLVD 5 = false ∨ u.fget F.KWATCH_TSRC 0 31 = 0 ∧ u.targetOf src = 5 ∧ bit RegKind.DPEND 0 = true ∧ bit RegKind.DEN 0 = true ∧ bit RegKind.DDLVD 0 = false)) ∧
    (let u := (kw 0 511 5 (pd (st5 3 t5 zP))).advance 0; let src := u.fget F.KWATCH_SRC 0 31; let bit := fun k d => BitVec.getLsbD (u.reg k d (src / 64)) (src % 64); 5 < 64 ∧ u.fget F.KWATCH_VALID 0 31 = 1 ∧ 2 ≤ u.fget F.TPWR_STATE 0 5 ∧ (u.tile 5).power = none ∧ (u.fget F.KWATCH_TSRC 0 31 = 1 ∧ src < 128 ∧ u.fget F.KWATCH_TILE 0 31 = 5 ∧ bit RegKind.IPEND 5 = true ∧ bit RegKind.IEN 5 = true ∧ bit RegKind.IDLVD 5 = false ∨ u.fget F.KWATCH_TSRC 0 31 = 0 ∧ u.targetOf src = 5 ∧ bit RegKind.DPEND 0 = true ∧ bit RegKind.DEN 0 = true ∧ bit RegKind.DDLVD 0 = false)) :=
  ⟨⟨by decide, by decide, by decide, by decide, by decide, by decide⟩,
   ⟨by decide, by decide, by decide⟩,
   (by decide),
   (by decide),
   ⟨by decide, by decide, by decide, by decide, by decide⟩,
   ⟨by decide, by decide, by decide, by decide, by decide⟩⟩

end W20
end Sys2Proof.Tests
end

