-- ==== Sys2Proof/Tests/W21.lean ====
section
/-! SUPPORT. States that meet the hypotheses of: SessionsOpenAnswerAndEnd. -/
set_option Elab.async false
open Sys2Proof Sys2Proof.Machine
namespace Sys2Proof.Tests
namespace W21
def ses : Session := { sid := 5, port := 1, src := 77, udp := 9, level := 1, opened := true, key := [1, 2], nc := [3], chal := List.replicate 225 4, start := 1000, lastSeq := 2 ^ 32 - 1, reply := [9, 9], lastMsg := 999, mask := wd (2 ^ 64 - 1), eseq := 65535, recs := [⟨1, 65533, 0, 2, 3⟩, ⟨1, 65534, 0, 2, 3⟩], lost := 0, xfer := none, hbAt := 3 }
def ses2 : Session := { ses with sid := 6, recs := [], lastSeq := 4 }
def zA : State := let z := { strand 0 { wth [] with pc := 7 } with now := 200000000, dev := .standby, hostp := { HostPort.rst with hrdy := true } }
  { z with ak := { z.ak with sessions := [ses2, ses] } }
def withX (x : Session) (s : State) : State := { s with ak := { s.ak with sessions := [ses2, x] } }
def msg (b : List Byte) : AkMsg := ⟨1, 77, 9, b⟩
def say (x : Session) (mt seq : Nat) (p : List Byte) : AkMsg := msg (x.says mt 1 seq p)
def shut : Session := { ses with opened := false, start := 199999999 }
def cmdM (x : Session) (code : Nat) (a : List Nat) : AkMsg := say x 0x20 x.next (cmdBytes code a)
def op (lv : Nat) : List Byte := toBytes 1 lv ++ List.replicate 129 7
def opM (p : List Byte) : AkMsg := msg (clientBytes 1 1 0 9 p)
def blk (n : Nat) (s : State) : State := { s with ak := { s.ak with blocked := [(77, n)], fails := [(77, 3), (3, 1)] } }
def four (s : State) : State := { s with ak := { s.ak with sessions := [ses, ses2, ses, ses2] } }
def lost : Session := { ses with lost := 2 ^ 32 + 5 }
def chalOf (z : State) (m : AkMsg) : Session := (((z.advance 0).openMsg m).ak.sessions.getLast?).getD ses
/-- A MAC with every byte wrong. -/
def badMac : List Byte := (akMac ses.key (clientBytes 0x13 1 5 0 [1])).map (· + 1)
theorem next_ne (l : List Byte) (h : l.length ≠ 0) : l.map (· + 1) ≠ l := by
  cases l with
  | nil => exact absurd rfl h
  | cons a r =>
    intro e
    have := (List.cons.inj e).1
    bv_omega

theorem witness_SessionsOpenAnswerAndEnd_1 :
    (let u := (blk 200000001 zA).advance 0; u.Serves ∧ (opM (op 2)).bytes = clientBytes 1 1 0 9 (op 2) ∧ 1 < 2 ∧ 9 < 2 ^ 32 ∧ (op 2).length ≤ 1440 ∧ u.now < tget u.ak.blocked 0 (opM (op 2)).ip) ∧
    (let u := (blk 200000000 zA).advance 0; u.Serves ∧ (opM [(1 : Byte)]).bytes = clientBytes 1 1 0 9 [(1 : Byte)] ∧ 1 < 2 ∧ 9 < 2 ^ 32 ∧ [(1 : Byte)].length ≤ 1440 ∧ tget u.ak.blocked 0 (opM [(1 : Byte)]).ip ≤ u.now ∧ [(1 : Byte)].length ≠ 130) ∧
    (let u := (blk 200000000 zA).advance 0; u.Serves ∧ (opM (op 3)).bytes = clientBytes 1 1 0 9 (op 3) ∧ 1 < 2 ∧ 9 < 2 ^ 32 ∧ (op 3).length ≤ 1440 ∧ tget u.ak.blocked 0 (opM (op 3)).ip ≤ u.now ∧ (op 3).length = 130 ∧ 2 < imgWord (op 3) 0 1) ∧
    (let u := (four zA).advance 0; u.Serves ∧ (opM (op 2)).bytes = clientBytes 1 1 0 9 (op 2) ∧ 1 < 2 ∧ 9 < 2 ^ 32 ∧ (op 2).length ≤ 1440 ∧ tget u.ak.blocked 0 (opM (op 2)).ip ≤ u.now ∧ (op 2).length = 130 ∧ imgWord (op 2) 0 1 ≤ 2 ∧ 4 ≤ u.ak.sessions.length) ∧
    (let u := zA.advance 0; u.Serves ∧ (opM (op 2)).bytes = clientBytes 1 1 0 9 (op 2) ∧ 1 < 2 ∧ 9 < 2 ^ 32 ∧ (op 2).length ≤ 1440 ∧ tget u.ak.blocked 0 (opM (op 2)).ip ≤ u.now ∧ (op 2).length = 130 ∧ imgWord (op 2) 0 1 ≤ 2 ∧ u.ak.sessions.length < 4) ∧
    (let u := zA.advance 0; u.Hears (say ses 3 0 []) ses 3 ses.next [] ∧ ses.opened = true) ∧
    (let u := (withX shut zA).advance 0; u.Hears (say shut 3 0 [(2 : Byte)]) shut 3 shut.next [(2 : Byte)] ∧ shut.opened = false ∧ (¬u.Signed shut [(2 : Byte)])) ∧
    (let u := (blk 5 (withX shut zA)).advance 0; u.Hears (say shut 3 0 [(2 : Byte)]) shut 3 shut.next [(2 : Byte)] ∧ shut.opened = false ∧ (¬u.Signed shut [(2 : Byte)])) :=
  ⟨⟨⟨by decide +kernel, by decide +kernel⟩, by decide +kernel, by decide +kernel, by decide +kernel, by decide +kernel, by decide +kernel⟩,
   ⟨⟨by decide +kernel, by decide +kernel⟩, by decide +kernel, by decide +kernel, by decide +kernel, by decide +kernel, by decide +kernel, by decide +kernel⟩,
   ⟨⟨by decide +kernel, by decide +kernel⟩, by decide +kernel, by decide +kernel, by decide +kernel, by decide +kernel, by decide +kernel, by decide +kernel, by decide +kernel⟩,
   ⟨⟨by decide +kernel, by decide +kernel⟩, by decide +kernel, by decide +kernel, by decide +kernel, by decide +kernel, by decide +kernel, by decide +kernel, by decide +kernel, by decide +kernel⟩,
   ⟨⟨by decide +kernel, by decide +kernel⟩, by decide +kernel, by decide +kernel, by decide +kernel, by decide +kernel, by decide +kernel, by decide +kernel, by decide +kernel, by decide +kernel⟩,
   ⟨⟨⟨by decide +kernel, by decide +kernel⟩, by decide +kernel, by decide +kernel, by decide +kernel, ⟨1, by decide +kernel, rfl⟩, by decide +kernel, by decide +kernel, by decide +kernel⟩, by decide +kernel⟩,
   ⟨⟨⟨by decide +kernel, by decide +kernel⟩, by decide +kernel, by decide +kernel, by decide +kernel, ⟨1, by decide +kernel, rfl⟩, by decide +kernel, by decide +kernel, by decide +kernel⟩, by decide +kernel, fun h => absurd h.1 (by decide +kernel)⟩,
   ⟨⟨⟨by decide +kernel, by decide +kernel⟩, by decide +kernel, by decide +kernel, by decide +kernel, ⟨1, by decide +kernel, rfl⟩, by decide +kernel, by decide +kernel, by decide +kernel⟩, by decide +kernel, fun h => absurd h.1 (by decide +kernel)⟩⟩

theorem witness_SessionsOpenAnswerAndEnd_2 :
    (let u := zA.advance 0; u.Hears (say ses 4 8 [(2 : Byte)]) ses 4 8 [(2 : Byte)]) ∧
    (let u := zA.advance 0; u.Hears (say ses 65 8 [(2 : Byte)]) ses 65 8 [(2 : Byte)]) ∧
    (let u := zA.advance 0; 65533 < 65536 ∧ toBytes 2 65533 ++ toBytes 2 0 = toBytes 2 65533 ++ toBytes 2 0 ∧ u.Hears (say ses 49 8 (toBytes 2 65533 ++ toBytes 2 0)) ses 49 8 (toBytes 2 65533 ++ toBytes 2 0) ∧ ses.lost = 0) ∧
    (let u := (withX lost zA).advance 0; let left := List.filter (fun e => decide (32768 ≤ (65533 + 65536 - e.eseq) % 65536)) lost.recs; 65533 < 65536 ∧ toBytes 2 65533 ++ toBytes 2 0 = toBytes 2 65533 ++ toBytes 2 0 ∧ u.Hears (say lost 49 8 (toBytes 2 65533 ++ toBytes 2 0)) lost 49 8 (toBytes 2 65533 ++ toBytes 2 0) ∧ lost.lost ≠ 0 ∧ left.length < 64 ∧ maskOn lost.mask 11 = true) ∧
    (let u := (withX ({ shut with start := 0 }) ({ zA with now := 1600000000 })).advance 0; let late := ∃ y ∈ u.ak.sessions, y.sid = 5 ∧ y.opened = false ∧ y.start + 1600000000 ≤ u.now; late) ∧
    (let u := (withX ({ shut with start := 1 }) ({ zA with now := 1600000000 })).advance 0; let late := ∃ y ∈ u.ak.sessions, y.sid = 5 ∧ y.opened = false ∧ y.start + 1600000000 ≤ u.now; (¬late)) ∧
    (let u := (withX ({ ses with lastMsg := 0 }) ({ zA with now := 480000000 })).advance 0; let silent := ∃ y ∈ u.ak.sessions, y.sid = 5 ∧ y.opened = true ∧ y.lastMsg + 3 * (u.ak.hbint * 1600000) ≤ u.now; silent) ∧
    (let u := zA.advance 0; let silent := ∃ y ∈ u.ak.sessions, y.sid = 5 ∧ y.opened = true ∧ y.lastMsg + 3 * (u.ak.hbint * 1600000) ≤ u.now; (¬silent)) :=
  ⟨⟨⟨by decide +kernel, by decide +kernel⟩, by decide +kernel, by decide +kernel, by decide +kernel, ⟨1, by decide +kernel, rfl⟩, by decide +kernel, by decide +kernel, by decide +kernel⟩,
   ⟨⟨by decide +kernel, by decide +kernel⟩, by decide +kernel, by decide +kernel, by decide +kernel, ⟨1, by decide +kernel, rfl⟩, by decide +kernel, by decide +kernel, by decide +kernel⟩,
   ⟨by decide +kernel, by decide +kernel, ⟨⟨by decide +kernel, by decide +kernel⟩, by decide +kernel, by decide +kernel, by decide +kernel, ⟨1, by decide +kernel, rfl⟩, by decide +kernel, by decide +kernel, by decide +kernel⟩, by decide +kernel⟩,
   ⟨by decide +kernel, by decide +kernel, ⟨⟨by decide +kernel, by decide +kernel⟩, by decide +kernel, by decide +kernel, by decide +kernel, ⟨1, by decide +kernel, rfl⟩, by decide +kernel, by decide +kernel, by decide +kernel⟩, by decide +kernel, by decide +kernel, by decide +kernel⟩,
   (by decide +kernel),
   (by decide +kernel),
   (by decide +kernel),
   (by decide +kernel)⟩

theorem witness_SessionsOpenAnswerAndEnd_3 :
    (let u := (blk 200000000 zA).advance 0; tget u.ak.blocked 0 77 ≤ u.now) ∧
    (let u := (blk 200000001 zA).advance 0; u.now < tget u.ak.blocked 0 77) ∧
    (let u := zA.advance 0; let due := ses.opened = true ∧ u.serving = true ∧ ses.hbAt + u.ak.hbint * 1600000 ≤ u.now; u.session? 5 = some ses ∧ due) ∧
    (let u := (withX shut zA).advance 0; let due := shut.opened = true ∧ u.serving = true ∧ shut.hbAt + u.ak.hbint * 1600000 ≤ u.now; u.session? 5 = some shut ∧ (¬due)) ∧
    (let u := ({ zA with dev := DevState.boot }).advance 0; SessionRow Instr.dopen 18 ∧ u.serving = false) ∧
    (let u := zA.advance 0; SessionRow Instr.close 4 ∧ u.Serves ∧ datagramOk (msg []).bytes = false) ∧
    (let u := zA.advance 0; SessionRow Instr.seg 19 ∧ 1 < 2 ∧ 9 < 2 ^ 32 ∧ 0 < 2 ^ 32 ∧ u.Serves ∧ (msg (clientBytes 19 1 9 0 [(1 : Byte)] ++ List.replicate 16 (7 : Byte))).bytes = clientBytes 19 1 9 0 [(1 : Byte)] ++ List.replicate 16 (7 : Byte) ∧ (List.replicate 16 (7 : Byte)).length = 16 ∧ [(1 : Byte)].length ≤ 1440 ∧ u.session? 9 = none) ∧
    (let u := zA.advance 0; SessionRow Instr.seg 19 ∧ 1 < 2 ∧ 5 < 2 ^ 32 ∧ 0 < 2 ^ 32 ∧ u.Serves ∧ (msg (clientBytes 19 1 5 0 [(1 : Byte)] ++ badMac)).bytes = clientBytes 19 1 5 0 [(1 : Byte)] ++ badMac ∧ badMac.length = 16 ∧ [(1 : Byte)].length ≤ 1440 ∧ u.session? 5 = some ses ∧ badMac ≠ akMac ses.key (clientBytes 19 1 5 0 [(1 : Byte)])) :=
  ⟨(by decide +kernel),
   (by decide +kernel),
   ⟨by decide +kernel, by decide +kernel⟩,
   ⟨by decide +kernel, by decide +kernel⟩,
   ⟨by simp [SessionRow], by decide +kernel⟩,
   ⟨by simp [SessionRow], ⟨by decide +kernel, by decide +kernel⟩, by decide +kernel⟩,
   ⟨by simp [SessionRow], by decide +kernel, by decide +kernel, by decide +kernel, ⟨by decide +kernel, by decide +kernel⟩, by decide +kernel, by decide +kernel, by decide +kernel, by decide +kernel⟩,
   ⟨by simp [SessionRow], by decide +kernel, by decide +kernel, by decide +kernel, ⟨by decide +kernel, by decide +kernel⟩, rfl, by decide +kernel, by decide +kernel, by decide +kernel, next_ne _ (by decide +kernel)⟩⟩

theorem witness_SessionsOpenAnswerAndEnd_4 :
    (let u := (withX shut zA).advance 0; SessionRow Instr.seg 19 ∧ 1 < 2 ∧ 5 < 2 ^ 32 ∧ 0 < 2 ^ 32 ∧ u.Serves ∧ (say shut 19 0 [(1 : Byte)]).bytes = clientBytes 19 1 5 0 [(1 : Byte)] ++ akMac shut.key (clientBytes 19 1 5 0 [(1 : Byte)]) ∧ (akMac shut.key (clientBytes 19 1 5 0 [(1 : Byte)])).length = 16 ∧ [(1 : Byte)].length ≤ 1440 ∧ u.session? 5 = some shut ∧ akMac shut.key (clientBytes 19 1 5 0 [(1 : Byte)]) = akMac shut.key (clientBytes 19 1 5 0 [(1 : Byte)]) ∧ shut.opened = false ∧ 19 ≠ 3 ∧ 19 ≠ 4) ∧
    (let u := zA.advance 0; SessionRow Instr.auth 3 ∧ u.Hears (say ses 3 (2 ^ 32 - 1) [(1 : Byte)]) ses 3 (2 ^ 32 - 1) [(1 : Byte)] ∧ (3 = 3 ∨ 3 = 16 ∨ 3 = 17 ∨ 3 = 18 ∨ 3 = 19) ∧ 2 ^ 32 - 1 = ses.lastSeq ∧ ses.reply ≠ []) ∧
    (let u := zA.advance 0; SessionRow Instr.read 16 ∧ u.Hears (say ses 16 (2 ^ 32 - 2) [(1 : Byte)]) ses 16 (2 ^ 32 - 2) [(1 : Byte)] ∧ (16 = 3 ∨ 16 = 16 ∨ 16 = 17 ∨ 16 = 18 ∨ 16 = 19) ∧ 2 ^ 32 - 2 ≠ ses.lastSeq ∧ 2 ^ 32 - 2 ≠ ses.next) :=
  ⟨⟨by simp [SessionRow], by decide +kernel, by decide +kernel, by decide +kernel, ⟨by decide +kernel, by decide +kernel⟩, rfl, by decide +kernel, by decide +kernel, by decide +kernel, rfl, by decide +kernel, by decide +kernel, by decide +kernel⟩,
   ⟨by simp [SessionRow], ⟨⟨by decide +kernel, by decide +kernel⟩, by decide +kernel, by decide +kernel, by decide +kernel, ⟨1, by decide +kernel, rfl⟩, by decide +kernel, by decide +kernel, by decide +kernel⟩, by decide +kernel, by decide +kernel, by decide +kernel⟩,
   ⟨by simp [SessionRow], ⟨⟨by decide +kernel, by decide +kernel⟩, by decide +kernel, by decide +kernel, by decide +kernel, ⟨1, by decide +kernel, rfl⟩, by decide +kernel, by decide +kernel, by decide +kernel⟩, by decide +kernel, by decide +kernel, by decide +kernel⟩⟩

/-- AUTH with any signature of 96 bytes that the function accepts. -/
theorem witness_SessionsOpenAnswerAndEnd_signed :
    let u := (withX shut zA).advance 0; let p := (0 : Byte) :: List.replicate 96 (7 : Byte);
    Config.verifyHashed (toBytes 48 Config.vhe.toNat) (Config.sha384 (shut.chal ++ shut.nc)) (List.replicate 96 7) = true →
      u.Hears (say shut 3 0 p) shut 3 shut.next p ∧ shut.opened = false ∧ u.Signed shut p :=
  fun h => ⟨⟨⟨by decide +kernel, by decide +kernel⟩, by decide +kernel, by decide +kernel, by decide +kernel, ⟨1, by decide +kernel, rfl⟩, by decide +kernel, by decide +kernel, by decide +kernel⟩, by decide, by decide +kernel, .inl ⟨by decide +kernel, h⟩⟩

end W21
end Sys2Proof.Tests
end

