-- ==== Sys2Proof/Tests/W22.lean ====
section
/-! SUPPORT. States that meet the hypotheses of: RequestsAreAnswered. -/
set_option Elab.async false
open Sys2Proof Sys2Proof.Machine
namespace Sys2Proof.Tests
namespace W22
def ses : Session := { sid := 5, port := 1, src := 77, udp := 9, level := 1, opened := true, key := [1, 2], nc := [3], chal := List.replicate 225 4, start := 1000, lastSeq := 2 ^ 32 - 1, reply := [9, 9], lastMsg := 999, mask := wd (2 ^ 64 - 1), eseq := 65535, recs := [⟨1, 65533, 0, 2, 3⟩, ⟨1, 65534, 0, 2, 3⟩], lost := 0, xfer := none, hbAt := 3 }
def ses2 : Session := { ses with sid := 6, recs := [], lastSeq := 4 }
def zA : State := let z := { strand 0 { wth [] with pc := 7 } with now := 200000000, dev := .standby, hostp := { HostPort.rst with hrdy := true } }
  { z with ak := { z.ak with sessions := [ses2, ses] } }
def withX (x : Session) (s : State) : State := { s with ak := { s.ak with sessions := [ses2, x] } }
def msg (b : List Byte) : AkMsg := ⟨1, 77, 9, b⟩
def say (x : Session) (mt seq : Nat) (p : List Byte) : AkMsg := msg (x.says mt 1 seq p)
def shut : Session := { ses with opened := false, start := 199999999 }
def cmdM (x : Session) (code : Nat) (a : List Nat) : AkMsg := say x 0x20 x.next (cmdBytes code a)
def rd (x : Session) (ix sub : Nat) : AkMsg := say x 0x10 0 (toBytes 2 ix ++ toBytes 1 sub ++ toBytes 1 0)
def wrB (ix sub ty : Nat) (b : List Byte) : List Byte := toBytes 2 ix ++ toBytes 1 sub ++ toBytes 1 ty ++ toBytes 2 b.length ++ toBytes 2 0 ++ b
def wr (x : Session) (ix sub ty : Nat) (b : List Byte) : AkMsg := say x 0x11 0 (wrB ix sub ty b)
def low : Session := { ses with level := 0 }
def adr (v : Word) (s : State) : State := { s with ak := { s.ak with addr := v } }
def flt (s : State) : State := { s with dev := .fault }
def dop (x : Session) (ix sub dir n : Nat) : AkMsg := say x 0x12 0 (toBytes 2 ix ++ toBytes 1 sub ++ toBytes 1 dir ++ toBytes 4 n)
def sg (x : Session) (off len last : Nat) (b : List Byte) : AkMsg := say x 0x13 0 (toBytes 4 off ++ toBytes 2 len ++ toBytes 1 last ++ toBytes 1 0 ++ b)
def xf (w : Bool) : Xfer := ⟨0x9000, 1, w, 8, 3, [1, 2, 3, 4, 5, 6, 7, 8]⟩
def tr (w : Bool) : Session := { ses with xfer := some (xf w) }
def ent (ix sub : Nat) : DictEnt := ((zA.dictIndex ix)[sub - 1]?).getD ⟨0, .ro, 0, .name⟩

theorem witness_RequestsAreAnswered_1 :
    (let u := zA.advance 0; 61440 < 65536 ∧ 0 < 256 ∧ u.Hears (rd ses 61440 0) ses 16 ses.next (toBytes 2 61440 ++ toBytes 1 0 ++ toBytes 1 0) ∧ 61440 ≤ 61440) ∧
    (let u := zA.advance 0; 4097 < 65536 ∧ 0 < 256 ∧ u.Hears (rd ses 4097 0) ses 16 ses.next (toBytes 2 4097 ++ toBytes 1 0 ++ toBytes 1 0) ∧ 4097 < 61440 ∧ u.dictIndex 4097 = []) ∧
    (let u := zA.advance 0; 4096 < 65536 ∧ 9 < 256 ∧ u.Hears (rd ses 4096 9) ses 16 ses.next (toBytes 2 4096 ++ toBytes 1 9 ++ toBytes 1 0) ∧ 4096 < 61440 ∧ u.dictIndex 4096 ≠ [] ∧ (u.dictIndex 4096).length < 9) ∧
    (let u := zA.advance 0; 4096 < 65536 ∧ 0 < 256 ∧ u.Hears (rd ses 4096 0) ses 16 ses.next (toBytes 2 4096 ++ toBytes 1 0 ++ toBytes 1 0) ∧ 4096 < 61440 ∧ u.dictIndex 4096 ≠ [] ∧ 0 = 0) ∧
    (let u := (withX low zA).advance 0; 4368 < 65536 ∧ 1 < 256 ∧ u.Hears (rd low 4368 1) low 16 low.next (toBytes 2 4368 ++ toBytes 1 1 ++ toBytes 1 0) ∧ 4368 < 61440 ∧ 0 < 1 ∧ (u.dictIndex 4368)[1 - 1]? = some (ent 4368 1) ∧ low.level < (ent 4368 1).priv) ∧
    (let u := (withX ses zA).advance 0; 20480 < 65536 ∧ 3 < 256 ∧ u.Hears (rd ses 20480 3) ses 16 ses.next (toBytes 2 20480 ++ toBytes 1 3 ++ toBytes 1 0) ∧ 20480 < 61440 ∧ 0 < 3 ∧ (u.dictIndex 20480)[3 - 1]? = some (ent 20480 3) ∧ (ent 20480 3).priv ≤ ses.level ∧ (ent 20480 3).acc = Acc.wo) ∧
    (let u := (withX ses zA).advance 0; 4096 < 65536 ∧ 8 < 256 ∧ u.Hears (rd ses 4096 8) ses 16 ses.next (toBytes 2 4096 ++ toBytes 1 8 ++ toBytes 1 0) ∧ 4096 < 61440 ∧ 0 < 8 ∧ (u.dictIndex 4096)[8 - 1]? = some (ent 4096 8) ∧ (ent 4096 8).priv ≤ ses.level ∧ (ent 4096 8).acc ≠ Acc.wo ∧ (ent 4096 8).src = DictSrc.val (toBytes 2 258)) ∧
    (let u := (withX low zA).advance 0; 12290 < 65536 ∧ 1 < 256 ∧ u.Hears (rd low 12290 1) low 16 low.next (toBytes 2 12290 ++ toBytes 1 1 ++ toBytes 1 0) ∧ 12290 < 61440 ∧ 0 < 1 ∧ (u.dictIndex 12290)[1 - 1]? = some (ent 12290 1) ∧ (ent 12290 1).priv ≤ low.level ∧ (ent 12290 1).acc ≠ Acc.wo ∧ (ent 12290 1).src = DictSrc.reg RegKind.TSTAT 0 0) :=
  ⟨⟨by decide +kernel, by decide +kernel, ⟨⟨by decide +kernel, by decide +kernel⟩, by decide +kernel, by decide +kernel, by decide +kernel, ⟨1, by decide +kernel, rfl⟩, by decide +kernel, by decide +kernel, by decide +kernel⟩, by decide +kernel⟩,
   ⟨by decide +kernel, by decide +kernel, ⟨⟨by decide +kernel, by decide +kernel⟩, by decide +kernel, by decide +kernel, by decide +kernel, ⟨1, by decide +kernel, rfl⟩, by decide +kernel, by decide +kernel, by decide +kernel⟩, by decide +kernel, by decide +kernel⟩,
   ⟨by decide +kernel, by decide +kernel, ⟨⟨by decide +kernel, by decide +kernel⟩, by decide +kernel, by decide +kernel, by decide +kernel, ⟨1, by decide +kernel, rfl⟩, by decide +kernel, by decide +kernel, by decide +kernel⟩, by decide +kernel, by decide +kernel, by decide +kernel⟩,
   ⟨by decide +kernel, by decide +kernel, ⟨⟨by decide +kernel, by decide +kernel⟩, by decide +kernel, by decide +kernel, by decide +kernel, ⟨1, by decide +kernel, rfl⟩, by decide +kernel, by decide +kernel, by decide +kernel⟩, by decide +kernel, by decide +kernel, by decide +kernel⟩,
   ⟨by decide +kernel, by decide +kernel, ⟨⟨by decide +kernel, by decide +kernel⟩, by decide +kernel, by decide +kernel, by decide +kernel, ⟨1, by decide +kernel, rfl⟩, by decide +kernel, by decide +kernel, by decide +kernel⟩, by decide +kernel, by decide +kernel, by decide +kernel, by decide +kernel⟩,
   ⟨by decide +kernel, by decide +kernel, ⟨⟨by decide +kernel, by decide +kernel⟩, by decide +kernel, by decide +kernel, by decide +kernel, ⟨1, by decide +kernel, rfl⟩, by decide +kernel, by decide +kernel, by decide +kernel⟩, by decide +kernel, by decide +kernel, by decide +kernel, by decide +kernel, by decide +kernel⟩,
   ⟨by decide +kernel, by decide +kernel, ⟨⟨by decide +kernel, by decide +kernel⟩, by decide +kernel, by decide +kernel, by decide +kernel, ⟨1, by decide +kernel, rfl⟩, by decide +kernel, by decide +kernel, by decide +kernel⟩, by decide +kernel, by decide +kernel, by decide +kernel, by decide +kernel, by decide +kernel, by decide +kernel⟩,
   ⟨by decide +kernel, by decide +kernel, ⟨⟨by decide +kernel, by decide +kernel⟩, by decide +kernel, by decide +kernel, by decide +kernel, ⟨1, by decide +kernel, rfl⟩, by decide +kernel, by decide +kernel, by decide +kernel⟩, by decide +kernel, by decide +kernel, by decide +kernel, by decide +kernel, by decide +kernel, by decide +kernel⟩⟩

theorem witness_RequestsAreAnswered_2 :
    (let u := (withX ses zA).advance 0; 4352 < 65536 ∧ 1 < 256 ∧ u.Hears (rd ses 4352 1) ses 16 ses.next (toBytes 2 4352 ++ toBytes 1 1 ++ toBytes 1 0) ∧ 4352 < 61440 ∧ 0 < 1 ∧ (u.dictIndex 4352)[1 - 1]? = some (ent 4352 1) ∧ (ent 4352 1).priv ≤ ses.level ∧ (ent 4352 1).acc ≠ Acc.wo ∧ (ent 4352 1).src = DictSrc.hbint) ∧
    (let u := (withX ses zA).advance 0; 8192 < 65536 ∧ 1 < 256 ∧ u.Hears (rd ses 8192 1) ses 16 ses.next (toBytes 2 8192 ++ toBytes 1 1 ++ toBytes 1 0) ∧ 8192 < 61440 ∧ 0 < 1 ∧ (u.dictIndex 8192)[1 - 1]? = some (ent 8192 1) ∧ (ent 8192 1).priv ≤ ses.level ∧ (ent 8192 1).acc ≠ Acc.wo ∧ (ent 8192 1).src = DictSrc.name) ∧
    (let u := (withX ses zA).advance 0; 36864 < 65536 ∧ 1 < 256 ∧ u.Hears (rd ses 36864 1) ses 16 ses.next (toBytes 2 36864 ++ toBytes 1 1 ++ toBytes 1 0) ∧ 36864 < 61440 ∧ 0 < 1 ∧ (u.dictIndex 36864)[1 - 1]? = some (ent 36864 1) ∧ (ent 36864 1).priv ≤ ses.level ∧ (ent 36864 1).acc ≠ Acc.wo ∧ (ent 36864 1).src = DictSrc.addr) ∧
    (let u := (withX ses zA).advance 0; 4352 < 65536 ∧ 4 < 256 ∧ u.Hears (rd ses 4352 4) ses 16 ses.next (toBytes 2 4352 ++ toBytes 1 4 ++ toBytes 1 0) ∧ 4352 < 61440 ∧ 0 < 4 ∧ (u.dictIndex 4352)[4 - 1]? = some (ent 4352 4) ∧ (ent 4352 4).priv ≤ ses.level ∧ (ent 4352 4).acc ≠ Acc.wo ∧ (ent 4352 4).src = DictSrc.hostpriv) ∧
    (let u := (withX ses zA).advance 0; 29184 < 65536 ∧ 1 < 256 ∧ u.Hears (rd ses 29184 1) ses 16 ses.next (toBytes 2 29184 ++ toBytes 1 1 ++ toBytes 1 0) ∧ 29184 < 61440 ∧ 0 < 1 ∧ (u.dictIndex 29184)[1 - 1]? = some (ent 29184 1) ∧ (ent 29184 1).priv ≤ ses.level ∧ (ent 29184 1).acc ≠ Acc.wo ∧ (ent 29184 1).src = DictSrc.dbgUnlock) ∧
    (let u := (withX ses zA).advance 0; 28928 < 65536 ∧ 8 < 256 ∧ u.Hears (rd ses 28928 8) ses 16 ses.next (toBytes 2 28928 ++ toBytes 1 8 ++ toBytes 1 0) ∧ 28928 < 61440 ∧ 0 < 8 ∧ (u.dictIndex 28928)[8 - 1]? = some (ent 28928 8) ∧ (ent 28928 8).priv ≤ ses.level ∧ (ent 28928 8).acc ≠ Acc.wo ∧ (ent 28928 8).src = DictSrc.cred 7) ∧
    (let u := (withX ses zA).advance 0; 4369 < 65536 ∧ 2 < 256 ∧ u.Hears (rd ses 4369 2) ses 16 ses.next (toBytes 2 4369 ++ toBytes 1 2 ++ toBytes 1 0) ∧ 4369 < 61440 ∧ 0 < 2 ∧ (u.dictIndex 4369)[2 - 1]? = some (ent 4369 2) ∧ (ent 4369 2).priv ≤ ses.level ∧ (ent 4369 2).acc ≠ Acc.wo ∧ (ent 4369 2).src = DictSrc.ip 1 1) ∧
    (let u := (withX ses zA).advance 0; 16479 < 65536 ∧ 64 < 256 ∧ u.Hears (rd ses 16479 64) ses 16 ses.next (toBytes 2 16479 ++ toBytes 1 64 ++ toBytes 1 0) ∧ 16479 < 61440 ∧ 0 < 64 ∧ (u.dictIndex 16479)[64 - 1]? = some (ent 16479 64) ∧ (ent 16479 64).priv ≤ ses.level ∧ (ent 16479 64).acc ≠ Acc.wo ∧ (ent 16479 64).src = DictSrc.site 31 63) :=
  ⟨⟨by decide +kernel, by decide +kernel, ⟨⟨by decide +kernel, by decide +kernel⟩, by decide +kernel, by decide +kernel, by decide +kernel, ⟨1, by decide +kernel, rfl⟩, by decide +kernel, by decide +kernel, by decide +kernel⟩, by decide +kernel, by decide +kernel, by decide +kernel, by decide +kernel, by decide +kernel, by decide +kernel⟩,
   ⟨by decide +kernel, by decide +kernel, ⟨⟨by decide +kernel, by decide +kernel⟩, by decide +kernel, by decide +kernel, by decide +kernel, ⟨1, by decide +kernel, rfl⟩, by decide +kernel, by decide +kernel, by decide +kernel⟩, by decide +kernel, by decide +kernel, by decide +kernel, by decide +kernel, by decide +kernel, by decide +kernel⟩,
   ⟨by decide +kernel, by decide +kernel, ⟨⟨by decide +kernel, by decide +kernel⟩, by decide +kernel, by decide +kernel, by decide +kernel, ⟨1, by decide +kernel, rfl⟩, by decide +kernel, by decide +kernel, by decide +kernel⟩, by decide +kernel, by decide +kernel, by decide +kernel, by decide +kernel, by decide +kernel, by decide +kernel⟩,
   ⟨by decide +kernel, by decide +kernel, ⟨⟨by decide +kernel, by decide +kernel⟩, by decide +kernel, by decide +kernel, by decide +kernel, ⟨1, by decide +kernel, rfl⟩, by decide +kernel, by decide +kernel, by decide +kernel⟩, by decide +kernel, by decide +kernel, by decide +kernel, by decide +kernel, by decide +kernel, by decide +kernel⟩,
   ⟨by decide +kernel, by decide +kernel, ⟨⟨by decide +kernel, by decide +kernel⟩, by decide +kernel, by decide +kernel, by decide +kernel, ⟨1, by decide +kernel, rfl⟩, by decide +kernel, by decide +kernel, by decide +kernel⟩, by decide +kernel, by decide +kernel, by decide +kernel, by decide +kernel, by decide +kernel, by decide +kernel⟩,
   ⟨by decide +kernel, by decide +kernel, ⟨⟨by decide +kernel, by decide +kernel⟩, by decide +kernel, by decide +kernel, by decide +kernel, ⟨1, by decide +kernel, rfl⟩, by decide +kernel, by decide +kernel, by decide +kernel⟩, by decide +kernel, by decide +kernel, by decide +kernel, by decide +kernel, by decide +kernel, by decide +kernel⟩,
   ⟨by decide +kernel, by decide +kernel, ⟨⟨by decide +kernel, by decide +kernel⟩, by decide +kernel, by decide +kernel, by decide +kernel, ⟨1, by decide +kernel, rfl⟩, by decide +kernel, by decide +kernel, by decide +kernel⟩, by decide +kernel, by decide +kernel, by decide +kernel, by decide +kernel, by decide +kernel, by decide +kernel⟩,
   ⟨by decide +kernel, by decide +kernel, ⟨⟨by decide +kernel, by decide +kernel⟩, by decide +kernel, by decide +kernel, by decide +kernel, ⟨1, by decide +kernel, rfl⟩, by decide +kernel, by decide +kernel, by decide +kernel⟩, by decide +kernel, by decide +kernel, by decide +kernel, by decide +kernel, by decide +kernel, by decide +kernel⟩⟩

theorem witness_RequestsAreAnswered_3 :
    (let u := (adr (BitVec.ofNat 64 (regAddr RegKind.CLCFG 0 3)) zA).advance 0; 36864 < 65536 ∧ 2 < 256 ∧ u.Hears (rd ses 36864 2) ses 16 ses.next (toBytes 2 36864 ++ toBytes 1 2 ++ toBytes 1 0) ∧ 36864 < 61440 ∧ 0 < 2 ∧ (u.dictIndex 36864)[2 - 1]? = some (ent 36864 2) ∧ (ent 36864 2).priv ≤ ses.level ∧ (ent 36864 2).acc ≠ Acc.wo ∧ (ent 36864 2).src = DictSrc.data ∧ regExists RegKind.CLCFG 0 3 ∧ RegKind.CLCFG ≠ RegKind.LKCELL ∧ u.ak.addr = BitVec.ofNat 64 (regAddr RegKind.CLCFG 0 3)) ∧
    (let u := (adr (BitVec.ofNat 64 (regAddr RegKind.TSTAT 63 15)) zA).advance 0; 36864 < 65536 ∧ 2 < 256 ∧ u.Hears (rd ses 36864 2) ses 16 ses.next (toBytes 2 36864 ++ toBytes 1 2 ++ toBytes 1 0) ∧ 36864 < 61440 ∧ 0 < 2 ∧ (u.dictIndex 36864)[2 - 1]? = some (ent 36864 2) ∧ (ent 36864 2).priv ≤ ses.level ∧ (ent 36864 2).acc ≠ Acc.wo ∧ (ent 36864 2).src = DictSrc.data ∧ regExists RegKind.TSTAT 63 15 ∧ RegKind.TSTAT ≠ RegKind.LKCELL ∧ u.ak.addr = BitVec.ofNat 64 (regAddr RegKind.TSTAT 63 15)) ∧
    (let u := (withX ses zA).advance 0; 32784 < 65536 ∧ 4 < 256 ∧ u.Hears (rd ses 32784 4) ses 16 ses.next (toBytes 2 32784 ++ toBytes 1 4 ++ toBytes 1 0) ∧ 32784 < 61440 ∧ 0 < 4 ∧ (u.dictIndex 32784)[4 - 1]? = some (ent 32784 4) ∧ (ent 32784 4).priv ≤ ses.level ∧ (ent 32784 4).acc ≠ Acc.wo ∧ (ent 32784 4).src = DictSrc.counter 3) ∧
    (let u := (flt zA).advance 0; 4352 < 65536 ∧ 1 < 256 ∧ 4 < 256 ∧ [(10 : Byte), (0 : Byte), (0 : Byte), (0 : Byte)].length ≤ 1024 ∧ u.Hears (wr ses 4352 1 4 [(10 : Byte), (0 : Byte), (0 : Byte), (0 : Byte)]) ses 17 ses.next (toBytes 2 4352 ++ toBytes 1 1 ++ toBytes 1 4 ++ toBytes 2 [(10 : Byte), (0 : Byte), (0 : Byte), (0 : Byte)].length ++ toBytes 2 0 ++ [(10 : Byte), (0 : Byte), (0 : Byte), (0 : Byte)]) ∧ u.dev = DevState.fault) ∧
    (let u := zA.advance 0; 4353 < 65536 ∧ 1 < 256 ∧ 4 < 256 ∧ [(10 : Byte), (0 : Byte), (0 : Byte), (0 : Byte)].length ≤ 1024 ∧ u.Hears (wr ses 4353 1 4 [(10 : Byte), (0 : Byte), (0 : Byte), (0 : Byte)]) ses 17 ses.next (toBytes 2 4353 ++ toBytes 1 1 ++ toBytes 1 4 ++ toBytes 2 [(10 : Byte), (0 : Byte), (0 : Byte), (0 : Byte)].length ++ toBytes 2 0 ++ [(10 : Byte), (0 : Byte), (0 : Byte), (0 : Byte)]) ∧ u.dev ≠ DevState.fault ∧ 4353 < 61440 ∧ u.dictIndex 4353 = []) ∧
    (let u := (withX low zA).advance 0; 4352 < 65536 ∧ 1 < 256 ∧ 4 < 256 ∧ [(10 : Byte), (0 : Byte), (0 : Byte), (0 : Byte)].length ≤ 1024 ∧ u.Hears (wr low 4352 1 4 [(10 : Byte), (0 : Byte), (0 : Byte), (0 : Byte)]) low 17 low.next (toBytes 2 4352 ++ toBytes 1 1 ++ toBytes 1 4 ++ toBytes 2 [(10 : Byte), (0 : Byte), (0 : Byte), (0 : Byte)].length ++ toBytes 2 0 ++ [(10 : Byte), (0 : Byte), (0 : Byte), (0 : Byte)]) ∧ u.dev ≠ DevState.fault ∧ 4352 < 61440 ∧ 0 < 1 ∧ (u.dictIndex 4352)[1 - 1]? = some (ent 4352 1) ∧ low.level < (ent 4352 1).priv) ∧
    (let u := zA.advance 0; 4096 < 65536 ∧ 8 < 256 ∧ 4 < 256 ∧ [(10 : Byte), (0 : Byte), (0 : Byte), (0 : Byte)].length ≤ 1024 ∧ u.Hears (wr ses 4096 8 4 [(10 : Byte), (0 : Byte), (0 : Byte), (0 : Byte)]) ses 17 ses.next (toBytes 2 4096 ++ toBytes 1 8 ++ toBytes 1 4 ++ toBytes 2 [(10 : Byte), (0 : Byte), (0 : Byte), (0 : Byte)].length ++ toBytes 2 0 ++ [(10 : Byte), (0 : Byte), (0 : Byte), (0 : Byte)]) ∧ u.dev ≠ DevState.fault ∧ 4096 < 61440 ∧ 0 < 8 ∧ (u.dictIndex 4096)[8 - 1]? = some (ent 4096 8) ∧ (ent 4096 8).priv ≤ ses.level ∧ ((ent 4096 8).acc = Acc.ro ∨ (ent 4096 8).acc = Acc.const)) ∧
    (let u := zA.advance 0; 4352 < 65536 ∧ 1 < 256 ∧ 4 < 256 ∧ [(10 : Byte), (0 : Byte), (0 : Byte)].length ≤ 1024 ∧ u.Hears (wr ses 4352 1 4 [(10 : Byte), (0 : Byte), (0 : Byte)]) ses 17 ses.next (toBytes 2 4352 ++ toBytes 1 1 ++ toBytes 1 4 ++ toBytes 2 [(10 : Byte), (0 : Byte), (0 : Byte)].length ++ toBytes 2 0 ++ [(10 : Byte), (0 : Byte), (0 : Byte)]) ∧ u.dev ≠ DevState.fault ∧ 4352 < 61440 ∧ 0 < 1 ∧ (u.dictIndex 4352)[1 - 1]? = some (ent 4352 1) ∧ (ent 4352 1).priv ≤ ses.level ∧ (ent 4352 1).acc ≠ Acc.ro ∧ (ent 4352 1).acc ≠ Acc.const ∧ (4 ≠ (ent 4352 1).ty ∨ (ent 4352 1).lenOk [(10 : Byte), (0 : Byte), (0 : Byte)].length = false)) :=
  ⟨⟨by decide +kernel, by decide +kernel, ⟨⟨by decide +kernel, by decide +kernel⟩, by decide +kernel, by decide +kernel, by decide +kernel, ⟨1, by decide +kernel, rfl⟩, by decide +kernel, by decide +kernel, by decide +kernel⟩, by decide +kernel, by decide +kernel, by decide +kernel, by decide +kernel, by decide +kernel, by decide +kernel, by unfold regExists; decide +kernel, by decide +kernel, by decide +kernel⟩,
   ⟨by decide +kernel, by decide +kernel, ⟨⟨by decide +kernel, by decide +kernel⟩, by decide +kernel, by decide +kernel, by decide +kernel, ⟨1, by decide +kernel, rfl⟩, by decide +kernel, by decide +kernel, by decide +kernel⟩, by decide +kernel, by decide +kernel, by decide +kernel, by decide +kernel, by decide +kernel, by decide +kernel, by unfold regExists; decide +kernel, by decide +kernel, by decide +kernel⟩,
   ⟨by decide +kernel, by decide +kernel, ⟨⟨by decide +kernel, by decide +kernel⟩, by decide +kernel, by decide +kernel, by decide +kernel, ⟨1, by decide +kernel, rfl⟩, by decide +kernel, by decide +kernel, by decide +kernel⟩, by decide +kernel, by decide +kernel, by decide +kernel, by decide +kernel, by decide +kernel, by decide +kernel⟩,
   ⟨by decide +kernel, by decide +kernel, by decide +kernel, by decide +kernel, ⟨⟨by decide +kernel, by decide +kernel⟩, by decide +kernel, by decide +kernel, by decide +kernel, ⟨1, by decide +kernel, rfl⟩, by decide +kernel, by decide +kernel, by decide +kernel⟩, by decide +kernel⟩,
   ⟨by decide +kernel, by decide +kernel, by decide +kernel, by decide +kernel, ⟨⟨by decide +kernel, by decide +kernel⟩, by decide +kernel, by decide +kernel, by decide +kernel, ⟨1, by decide +kernel, rfl⟩, by decide +kernel, by decide +kernel, by decide +kernel⟩, by decide +kernel, by decide +kernel, by decide +kernel⟩,
   ⟨by decide +kernel, by decide +kernel, by decide +kernel, by decide +kernel, ⟨⟨by decide +kernel, by decide +kernel⟩, by decide +kernel, by decide +kernel, by decide +kernel, ⟨1, by decide +kernel, rfl⟩, by decide +kernel, by decide +kernel, by decide +kernel⟩, by decide +kernel, by decide +kernel, by decide +kernel, by decide +kernel, by decide +kernel⟩,
   ⟨by decide +kernel, by decide +kernel, by decide +kernel, by decide +kernel, ⟨⟨by decide +kernel, by decide +kernel⟩, by decide +kernel, by decide +kernel, by decide +kernel, ⟨1, by decide +kernel, rfl⟩, by decide +kernel, by decide +kernel, by decide +kernel⟩, by decide +kernel, by decide +kernel, by decide +kernel, by decide +kernel, by decide +kernel, by decide +kernel⟩,
   ⟨by decide +kernel, by decide +kernel, by decide +kernel, by decide +kernel, ⟨⟨by decide +kernel, by decide +kernel⟩, by decide +kernel, by decide +kernel, by decide +kernel, ⟨1, by decide +kernel, rfl⟩, by decide +kernel, by decide +kernel, by decide +kernel⟩, by decide +kernel, by decide +kernel, by decide +kernel, by decide +kernel, by decide +kernel, by decide +kernel, by decide +kernel, by decide +kernel⟩⟩

theorem witness_RequestsAreAnswered_4 :
    (let u := zA.advance 0; 4352 < 65536 ∧ 1 < 256 ∧ 4 < 256 ∧ [(10 : Byte), (0 : Byte), (0 : Byte), (0 : Byte)].length ≤ 1024 ∧ u.Hears (wr ses 4352 1 4 [(10 : Byte), (0 : Byte), (0 : Byte), (0 : Byte)]) ses 17 ses.next (toBytes 2 4352 ++ toBytes 1 1 ++ toBytes 1 4 ++ toBytes 2 [(10 : Byte), (0 : Byte), (0 : Byte), (0 : Byte)].length ++ toBytes 2 0 ++ [(10 : Byte), (0 : Byte), (0 : Byte), (0 : Byte)]) ∧ u.dev ≠ DevState.fault ∧ 4352 < 61440 ∧ 0 < 1 ∧ (u.dictIndex 4352)[1 - 1]? = some (ent 4352 1) ∧ (ent 4352 1).priv ≤ ses.level ∧ (ent 4352 1).acc ≠ Acc.ro ∧ (ent 4352 1).acc ≠ Acc.const ∧ 4 = (ent 4352 1).ty ∧ (ent 4352 1).lenOk [(10 : Byte), (0 : Byte), (0 : Byte), (0 : Byte)].length = true ∧ (ent 4352 1).src = DictSrc.hbint ∧ 10 ≤ ofBytes [(10 : Byte), (0 : Byte), (0 : Byte), (0 : Byte)] ∧ ofBytes [(10 : Byte), (0 : Byte), (0 : Byte), (0 : Byte)] ≤ 10000) ∧
    (let u := zA.advance 0; 4352 < 65536 ∧ 1 < 256 ∧ 4 < 256 ∧ [(17 : Byte), (39 : Byte), (0 : Byte), (0 : Byte)].length ≤ 1024 ∧ u.Hears (wr ses 4352 1 4 [(17 : Byte), (39 : Byte), (0 : Byte), (0 : Byte)]) ses 17 ses.next (toBytes 2 4352 ++ toBytes 1 1 ++ toBytes 1 4 ++ toBytes 2 [(17 : Byte), (39 : Byte), (0 : Byte), (0 : Byte)].length ++ toBytes 2 0 ++ [(17 : Byte), (39 : Byte), (0 : Byte), (0 : Byte)]) ∧ u.dev ≠ DevState.fault ∧ 4352 < 61440 ∧ 0 < 1 ∧ (u.dictIndex 4352)[1 - 1]? = some (ent 4352 1) ∧ (ent 4352 1).priv ≤ ses.level ∧ (ent 4352 1).acc ≠ Acc.ro ∧ (ent 4352 1).acc ≠ Acc.const ∧ 4 = (ent 4352 1).ty ∧ (ent 4352 1).lenOk [(17 : Byte), (39 : Byte), (0 : Byte), (0 : Byte)].length = true ∧ (ent 4352 1).src = DictSrc.hbint ∧ (ofBytes [(17 : Byte), (39 : Byte), (0 : Byte), (0 : Byte)] < 10 ∨ 10000 < ofBytes [(17 : Byte), (39 : Byte), (0 : Byte), (0 : Byte)])) ∧
    (let u := zA.advance 0; 36864 < 65536 ∧ 1 < 256 ∧ 5 < 256 ∧ [(8 : Byte), (0 : Byte), (0 : Byte), (0 : Byte), (0 : Byte), (0 : Byte), (0 : Byte), (1 : Byte)].length ≤ 1024 ∧ u.Hears (wr ses 36864 1 5 [(8 : Byte), (0 : Byte), (0 : Byte), (0 : Byte), (0 : Byte), (0 : Byte), (0 : Byte), (1 : Byte)]) ses 17 ses.next (toBytes 2 36864 ++ toBytes 1 1 ++ toBytes 1 5 ++ toBytes 2 [(8 : Byte), (0 : Byte), (0 : Byte), (0 : Byte), (0 : Byte), (0 : Byte), (0 : Byte), (1 : Byte)].length ++ toBytes 2 0 ++ [(8 : Byte), (0 : Byte), (0 : Byte), (0 : Byte), (0 : Byte), (0 : Byte), (0 : Byte), (1 : Byte)]) ∧ u.dev ≠ DevState.fault ∧ 36864 < 61440 ∧ 0 < 1 ∧ (u.dictIndex 36864)[1 - 1]? = some (ent 36864 1) ∧ (ent 36864 1).priv ≤ ses.level ∧ (ent 36864 1).acc ≠ Acc.ro ∧ (ent 36864 1).acc ≠ Acc.const ∧ 5 = (ent 36864 1).ty ∧ (ent 36864 1).lenOk [(8 : Byte), (0 : Byte), (0 : Byte), (0 : Byte), (0 : Byte), (0 : Byte), (0 : Byte), (1 : Byte)].length = true ∧ (ent 36864 1).src = DictSrc.addr) ∧
    (let u := zA.advance 0; let v := BitVec.ofNat 64 (ofBytes [(1 : Byte), (0 : Byte), (0 : Byte), (0 : Byte), (0 : Byte), (0 : Byte), (0 : Byte), (0 : Byte)]); 12293 < 65536 ∧ 3 < 256 ∧ 5 < 256 ∧ [(1 : Byte), (0 : Byte), (0 : Byte), (0 : Byte), (0 : Byte), (0 : Byte), (0 : Byte), (0 : Byte)].length ≤ 1024 ∧ u.Hears (wr ses 12293 3 5 [(1 : Byte), (0 : Byte), (0 : Byte), (0 : Byte), (0 : Byte), (0 : Byte), (0 : Byte), (0 : Byte)]) ses 17 ses.next (toBytes 2 12293 ++ toBytes 1 3 ++ toBytes 1 5 ++ toBytes 2 [(1 : Byte), (0 : Byte), (0 : Byte), (0 : Byte), (0 : Byte), (0 : Byte), (0 : Byte), (0 : Byte)].length ++ toBytes 2 0 ++ [(1 : Byte), (0 : Byte), (0 : Byte), (0 : Byte), (0 : Byte), (0 : Byte), (0 : Byte), (0 : Byte)]) ∧ u.dev ≠ DevState.fault ∧ 12293 < 61440 ∧ 0 < 3 ∧ (u.dictIndex 12293)[3 - 1]? = some (ent 12293 3) ∧ (ent 12293 3).priv ≤ ses.level ∧ (ent 12293 3).acc ≠ Acc.ro ∧ (ent 12293 3).acc ≠ Acc.const ∧ 5 = (ent 12293 3).ty ∧ (ent 12293 3).lenOk [(1 : Byte), (0 : Byte), (0 : Byte), (0 : Byte), (0 : Byte), (0 : Byte), (0 : Byte), (0 : Byte)].length = true ∧ (ent 12293 3).src = DictSrc.reg RegKind.SPSIZE 0 0 ∧ RegKind.SPSIZE ∉ ruledRegs ∧ u.Passes (Req.aklofy ses.level) RegKind.SPSIZE 0 0 v) ∧
    (let u := zA.advance 0; let v := BitVec.ofNat 64 (ofBytes [(1 : Byte), (0 : Byte), (0 : Byte), (0 : Byte), (0 : Byte), (0 : Byte), (0 : Byte), (255 : Byte)]); 12293 < 65536 ∧ 3 < 256 ∧ 5 < 256 ∧ [(1 : Byte), (0 : Byte), (0 : Byte), (0 : Byte), (0 : Byte), (0 : Byte), (0 : Byte), (255 : Byte)].length ≤ 1024 ∧ u.Hears (wr ses 12293 3 5 [(1 : Byte), (0 : Byte), (0 : Byte), (0 : Byte), (0 : Byte), (0 : Byte), (0 : Byte), (255 : Byte)]) ses 17 ses.next (toBytes 2 12293 ++ toBytes 1 3 ++ toBytes 1 5 ++ toBytes 2 [(1 : Byte), (0 : Byte), (0 : Byte), (0 : Byte), (0 : Byte), (0 : Byte), (0 : Byte), (255 : Byte)].length ++ toBytes 2 0 ++ [(1 : Byte), (0 : Byte), (0 : Byte), (0 : Byte), (0 : Byte), (0 : Byte), (0 : Byte), (255 : Byte)]) ∧ u.dev ≠ DevState.fault ∧ 12293 < 61440 ∧ 0 < 3 ∧ (u.dictIndex 12293)[3 - 1]? = some (ent 12293 3) ∧ (ent 12293 3).priv ≤ ses.level ∧ (ent 12293 3).acc ≠ Acc.ro ∧ (ent 12293 3).acc ≠ Acc.const ∧ 5 = (ent 12293 3).ty ∧ (ent 12293 3).lenOk [(1 : Byte), (0 : Byte), (0 : Byte), (0 : Byte), (0 : Byte), (0 : Byte), (0 : Byte), (255 : Byte)].length = true ∧ (ent 12293 3).src = DictSrc.reg RegKind.SPSIZE 0 0 ∧ RegKind.SPSIZE ∉ ruledRegs ∧ u.firstRefusal (Req.aklofy ses.level) RegKind.SPSIZE 0 0 v = some (2, 1)) ∧
    (let u := zA.advance 0; let v := BitVec.ofNat 64 (ofBytes [(255 : Byte), (255 : Byte), (255 : Byte), (255 : Byte), (0 : Byte), (0 : Byte), (0 : Byte), (0 : Byte)]); 16896 < 65536 ∧ 2 < 256 ∧ 5 < 256 ∧ [(255 : Byte), (255 : Byte), (255 : Byte), (255 : Byte), (0 : Byte), (0 : Byte), (0 : Byte), (0 : Byte)].length ≤ 1024 ∧ u.Hears (wr ses 16896 2 5 [(255 : Byte), (255 : Byte), (255 : Byte), (255 : Byte), (0 : Byte), (0 : Byte), (0 : Byte), (0 : Byte)]) ses 17 ses.next (toBytes 2 16896 ++ toBytes 1 2 ++ toBytes 1 5 ++ toBytes 2 [(255 : Byte), (255 : Byte), (255 : Byte), (255 : Byte), (0 : Byte), (0 : Byte), (0 : Byte), (0 : Byte)].length ++ toBytes 2 0 ++ [(255 : Byte), (255 : Byte), (255 : Byte), (255 : Byte), (0 : Byte), (0 : Byte), (0 : Byte), (0 : Byte)]) ∧ u.dev ≠ DevState.fault ∧ 16896 < 61440 ∧ 0 < 2 ∧ (u.dictIndex 16896)[2 - 1]? = some (ent 16896 2) ∧ (ent 16896 2).priv ≤ ses.level ∧ (ent 16896 2).acc ≠ Acc.ro ∧ (ent 16896 2).acc ≠ Acc.const ∧ 5 = (ent 16896 2).ty ∧ (ent 16896 2).lenOk [(255 : Byte), (255 : Byte), (255 : Byte), (255 : Byte), (0 : Byte), (0 : Byte), (0 : Byte), (0 : Byte)].length = true ∧ (ent 16896 2).src = DictSrc.reg RegKind.FABSTAT 0 0 ∧ RegKind.FABSTAT ∉ ruledRegs ∧ u.Passes (Req.aklofy ses.level) RegKind.FABSTAT 0 0 v) ∧
    (let u := (withX (tr false) zA).advance 0; 36864 < 61440 ∧ 1 < 256 ∧ 1 < 2 ∧ 8 < 2 ^ 32 ∧ u.Hears (dop (tr false) 36864 1 1 8) (tr false) 18 (tr false).next (toBytes 2 36864 ++ toBytes 1 1 ++ toBytes 1 1 ++ toBytes 4 8) ∧ (tr false).xfer ≠ none) ∧
    (let u := (flt zA).advance 0; 36864 < 61440 ∧ 1 < 256 ∧ 1 < 2 ∧ 8 < 2 ^ 32 ∧ u.Hears (dop ses 36864 1 1 8) ses 18 ses.next (toBytes 2 36864 ++ toBytes 1 1 ++ toBytes 1 1 ++ toBytes 4 8) ∧ ses.xfer = none ∧ u.dev = DevState.fault ∧ 1 = 1) :=
  ⟨⟨by decide +kernel, by decide +kernel, by decide +kernel, by decide +kernel, ⟨⟨by decide +kernel, by decide +kernel⟩, by decide +kernel, by decide +kernel, by decide +kernel, ⟨1, by decide +kernel, rfl⟩, by decide +kernel, by decide +kernel, by decide +kernel⟩, by decide +kernel, by decide +kernel, by decide +kernel, by decide +kernel, by decide +kernel, by decide +kernel, by decide +kernel, by decide +kernel, by decide +kernel, by decide +kernel, by decide +kernel, by decide +kernel⟩,
   ⟨by decide +kernel, by decide +kernel, by decide +kernel, by decide +kernel, ⟨⟨by decide +kernel, by decide +kernel⟩, by decide +kernel, by decide +kernel, by decide +kernel, ⟨1, by decide +kernel, rfl⟩, by decide +kernel, by decide +kernel, by decide +kernel⟩, by decide +kernel, by decide +kernel, by decide +kernel, by decide +kernel, by decide +kernel, by decide +kernel, by decide +kernel, by decide +kernel, by decide +kernel, by decide +kernel, by decide +kernel⟩,
   ⟨by decide +kernel, by decide +kernel, by decide +kernel, by decide +kernel, ⟨⟨by decide +kernel, by decide +kernel⟩, by decide +kernel, by decide +kernel, by decide +kernel, ⟨1, by decide +kernel, rfl⟩, by decide +kernel, by decide +kernel, by decide +kernel⟩, by decide +kernel, by decide +kernel, by decide +kernel, by decide +kernel, by decide +kernel, by decide +kernel, by decide +kernel, by decide +kernel, by decide +kernel, by decide +kernel⟩,
   ⟨by decide +kernel, by decide +kernel, by decide +kernel, by decide +kernel, ⟨⟨by decide +kernel, by decide +kernel⟩, by decide +kernel, by decide +kernel, by decide +kernel, ⟨1, by decide +kernel, rfl⟩, by decide +kernel, by decide +kernel, by decide +kernel⟩, by decide +kernel, by decide +kernel, by decide +kernel, by decide +kernel, by decide +kernel, by decide +kernel, by decide +kernel, by decide +kernel, by decide +kernel, by decide +kernel, by decide +kernel, ⟨by decide +kernel, by decide +kernel, by decide +kernel, by decide +kernel, by decide +kernel, by decide +kernel⟩⟩,
   ⟨by decide +kernel, by decide +kernel, by decide +kernel, by decide +kernel, ⟨⟨by decide +kernel, by decide +kernel⟩, by decide +kernel, by decide +kernel, by decide +kernel, ⟨1, by decide +kernel, rfl⟩, by decide +kernel, by decide +kernel, by decide +kernel⟩, by decide +kernel, by decide +kernel, by decide +kernel, by decide +kernel, by decide +kernel, by decide +kernel, by decide +kernel, by decide +kernel, by decide +kernel, by decide +kernel, by decide +kernel, by decide +kernel⟩,
   ⟨by decide +kernel, by decide +kernel, by decide +kernel, by decide +kernel, ⟨⟨by decide +kernel, by decide +kernel⟩, by decide +kernel, by decide +kernel, by decide +kernel, ⟨1, by decide +kernel, rfl⟩, by decide +kernel, by decide +kernel, by decide +kernel⟩, by decide +kernel, by decide +kernel, by decide +kernel, by decide +kernel, by decide +kernel, by decide +kernel, by decide +kernel, by decide +kernel, by decide +kernel, by decide +kernel, by decide +kernel, ⟨by decide +kernel, by decide +kernel, by decide +kernel, by decide +kernel, by decide +kernel, by decide +kernel⟩⟩,
   ⟨by decide +kernel, by decide +kernel, by decide +kernel, by decide +kernel, ⟨⟨by decide +kernel, by decide +kernel⟩, by decide +kernel, by decide +kernel, by decide +kernel, ⟨1, by decide +kernel, rfl⟩, by decide +kernel, by decide +kernel, by decide +kernel⟩, by decide +kernel⟩,
   ⟨by decide +kernel, by decide +kernel, by decide +kernel, by decide +kernel, ⟨⟨by decide +kernel, by decide +kernel⟩, by decide +kernel, by decide +kernel, by decide +kernel, ⟨1, by decide +kernel, rfl⟩, by decide +kernel, by decide +kernel, by decide +kernel⟩, by decide +kernel, by decide +kernel, by decide +kernel⟩⟩

theorem witness_RequestsAreAnswered_5 :
    (let u := zA.advance 0; 4097 < 61440 ∧ 1 < 256 ∧ 1 < 2 ∧ 8 < 2 ^ 32 ∧ u.Hears (dop ses 4097 1 1 8) ses 18 ses.next (toBytes 2 4097 ++ toBytes 1 1 ++ toBytes 1 1 ++ toBytes 4 8) ∧ ses.xfer = none ∧ u.dev ≠ DevState.fault ∧ u.dictIndex 4097 = []) ∧
    (let u := zA.advance 0; 36864 < 61440 ∧ 1 < 256 ∧ 1 < 2 ∧ 8 < 2 ^ 32 ∧ u.Hears (dop ses 36864 1 1 8) ses 18 ses.next (toBytes 2 36864 ++ toBytes 1 1 ++ toBytes 1 1 ++ toBytes 4 8) ∧ ses.xfer = none ∧ u.dev ≠ DevState.fault ∧ 0 < 1 ∧ (u.dictIndex 36864)[1 - 1]? = some (ent 36864 1) ∧ (ent 36864 1).priv ≤ ses.level ∧ (ent 36864 1).acc = Acc.rw) ∧
    (let u := zA.advance 0; 3 < 2 ^ 32 ∧ 5 ≤ 1024 ∧ 1 < 2 ∧ u.Hears (sg ses 3 5 1 []) ses 19 ses.next (toBytes 4 3 ++ toBytes 2 5 ++ toBytes 1 1 ++ toBytes 1 0 ++ []) ∧ ses.xfer = none) ∧
    (let u := (withX (tr false) zA).advance 0; 3 < 2 ^ 32 ∧ 6 ≤ 1024 ∧ 1 < 2 ∧ u.Hears (sg (tr false) 3 6 1 []) (tr false) 19 (tr false).next (toBytes 4 3 ++ toBytes 2 6 ++ toBytes 1 1 ++ toBytes 1 0 ++ []) ∧ (tr false).xfer = some (xf false) ∧ (3 ≠ (xf false).off ∨ (xf false).total < 3 + 6) ∧ (([] : List Byte).length = if (xf false).write = true then 6 else 0)) ∧
    (let u := (withX (tr true) zA).advance 0; 2 < 2 ^ 32 ∧ 1 ≤ 1024 ∧ 1 < 2 ∧ u.Hears (sg (tr true) 2 1 1 [(7 : Byte)]) (tr true) 19 (tr true).next (toBytes 4 2 ++ toBytes 2 1 ++ toBytes 1 1 ++ toBytes 1 0 ++ [(7 : Byte)]) ∧ (tr true).xfer = some (xf true) ∧ (2 ≠ (xf true).off ∨ (xf true).total < 2 + 1) ∧ ([(7 : Byte)].length = if (xf true).write = true then 1 else 0)) ∧
    (let u := (withX (tr false) zA).advance 0; 3 < 2 ^ 32 ∧ 5 ≤ 1024 ∧ 1 < 2 ∧ u.Hears (sg (tr false) 3 5 1 []) (tr false) 19 (tr false).next (toBytes 4 3 ++ toBytes 2 5 ++ toBytes 1 1 ++ toBytes 1 0 ++ []) ∧ (tr false).xfer = some (xf false) ∧ 3 = (xf false).off ∧ 3 + 5 ≤ (xf false).total ∧ (([] : List Byte).length = if (xf false).write = true then 5 else 0) ∧ ((xf false).write = false ∨ 1 = 0)) ∧
    (let u := (withX (tr true) zA).advance 0; 3 < 2 ^ 32 ∧ 5 ≤ 1024 ∧ 0 < 2 ∧ u.Hears (sg (tr true) 3 5 0 [(1 : Byte), (2 : Byte), (3 : Byte), (4 : Byte), (5 : Byte)]) (tr true) 19 (tr true).next (toBytes 4 3 ++ toBytes 2 5 ++ toBytes 1 0 ++ toBytes 1 0 ++ [(1 : Byte), (2 : Byte), (3 : Byte), (4 : Byte), (5 : Byte)]) ∧ (tr true).xfer = some (xf true) ∧ 3 = (xf true).off ∧ 3 + 5 ≤ (xf true).total ∧ ([(1 : Byte), (2 : Byte), (3 : Byte), (4 : Byte), (5 : Byte)].length = if (xf true).write = true then 5 else 0) ∧ ((xf true).write = false ∨ 0 = 0)) ∧
    (let u := zA.advance 0; u.Commands (cmdM ses 48 [2 ^ 64 - 2]) ses 48 [2 ^ 64 - 2]) :=
  ⟨⟨by decide +kernel, by decide +kernel, by decide +kernel, by decide +kernel, ⟨⟨by decide +kernel, by decide +kernel⟩, by decide +kernel, by decide +kernel, by decide +kernel, ⟨1, by decide +kernel, rfl⟩, by decide +kernel, by decide +kernel, by decide +kernel⟩, by decide +kernel, by decide +kernel, by decide +kernel⟩,
   ⟨by decide +kernel, by decide +kernel, by decide +kernel, by decide +kernel, ⟨⟨by decide +kernel, by decide +kernel⟩, by decide +kernel, by decide +kernel, by decide +kernel, ⟨1, by decide +kernel, rfl⟩, by decide +kernel, by decide +kernel, by decide +kernel⟩, by decide +kernel, by decide +kernel, by decide +kernel, by decide +kernel, by decide +kernel, by decide +kernel⟩,
   ⟨by decide +kernel, by decide +kernel, by decide +kernel, ⟨⟨by decide +kernel, by decide +kernel⟩, by decide +kernel, by decide +kernel, by decide +kernel, ⟨1, by decide +kernel, rfl⟩, by decide +kernel, by decide +kernel, by decide +kernel⟩, by decide +kernel⟩,
   ⟨by decide +kernel, by decide +kernel, by decide +kernel, ⟨⟨by decide +kernel, by decide +kernel⟩, by decide +kernel, by decide +kernel, by decide +kernel, ⟨1, by decide +kernel, rfl⟩, by decide +kernel, by decide +kernel, by decide +kernel⟩, by decide +kernel, by decide +kernel, by decide +kernel⟩,
   ⟨by decide +kernel, by decide +kernel, by decide +kernel, ⟨⟨by decide +kernel, by decide +kernel⟩, by decide +kernel, by decide +kernel, by decide +kernel, ⟨1, by decide +kernel, rfl⟩, by decide +kernel, by decide +kernel, by decide +kernel⟩, by decide +kernel, by decide +kernel, by decide +kernel⟩,
   ⟨by decide +kernel, by decide +kernel, by decide +kernel, ⟨⟨by decide +kernel, by decide +kernel⟩, by decide +kernel, by decide +kernel, by decide +kernel, ⟨1, by decide +kernel, rfl⟩, by decide +kernel, by decide +kernel, by decide +kernel⟩, by decide +kernel, by decide +kernel, by decide +kernel, by decide +kernel, by decide +kernel⟩,
   ⟨by decide +kernel, by decide +kernel, by decide +kernel, ⟨⟨by decide +kernel, by decide +kernel⟩, by decide +kernel, by decide +kernel, by decide +kernel, ⟨1, by decide +kernel, rfl⟩, by decide +kernel, by decide +kernel, by decide +kernel⟩, by decide +kernel, by decide +kernel, by decide +kernel, by decide +kernel, by decide +kernel⟩,
   ⟨⟨⟨by decide +kernel, by decide +kernel⟩, by decide +kernel, by decide +kernel, by decide +kernel, ⟨1, by decide +kernel, rfl⟩, by decide +kernel, by decide +kernel, by decide +kernel⟩, by decide +kernel, by decide +kernel⟩⟩

theorem witness_RequestsAreAnswered_6 :
    (let u := (flt zA).advance 0; CommandRow Instr.run 17 ∧ (17, 1, 0, [DevState.armed]) ∈ commandTable ∧ [7].length ≤ 4 ∧ (∀ v ∈ [7], v < 2 ^ 64) ∧ u.Hears (cmdM ses 17 [7]) ses 32 ses.next (cmdBytes 17 [7]) ∧ u.dev = DevState.fault ∧ DevState.fault ∉ [DevState.armed]) ∧
    (let u := zA.advance 0; CommandRow Instr.run 17 ∧ (17, 1, 0, [DevState.armed]) ∈ commandTable ∧ [7, 8].length ≤ 4 ∧ (∀ v ∈ [7, 8], v < 2 ^ 64) ∧ u.Hears (cmdM ses 17 [7, 8]) ses 32 ses.next (cmdBytes 17 [7, 8]) ∧ (u.dev ≠ DevState.fault ∨ DevState.fault ∈ [DevState.armed]) ∧ [7, 8].length ≠ 1) ∧
    (let u := (withX low zA).advance 0; CommandRow Instr.cut 19 ∧ (19, 1, 1, [DevState.standby, DevState.armed, DevState.running]) ∈ commandTable ∧ [7].length ≤ 4 ∧ (∀ v ∈ [7], v < 2 ^ 64) ∧ u.Hears (cmdM low 19 [7]) low 32 low.next (cmdBytes 19 [7]) ∧ (u.dev ≠ DevState.fault ∨ DevState.fault ∈ [DevState.standby, DevState.armed, DevState.running]) ∧ [7].length = 1 ∧ low.level < 1) ∧
    (let u := zA.advance 0; CommandRow Instr.run 17 ∧ (17, 1, 0, [DevState.armed]) ∈ commandTable ∧ [7].length ≤ 4 ∧ (∀ v ∈ [7], v < 2 ^ 64) ∧ u.Hears (cmdM ses 17 [7]) ses 32 ses.next (cmdBytes 17 [7]) ∧ (u.dev ≠ DevState.fault ∨ DevState.fault ∈ [DevState.armed]) ∧ [7].length = 1 ∧ 0 ≤ ses.level ∧ u.dev ∉ [DevState.armed]) ∧
    (let u := ((adr (BitVec.ofNat 64 (regAddr RegKind.SPSIZE 5 0)) zA).fset F.TPWR_STATE 0 5 3).advance 0; 36864 < 65536 ∧ 2 < 256 ∧ u.Hears (rd ses 36864 2) ses 16 ses.next (toBytes 2 36864 ++ toBytes 1 2 ++ toBytes 1 0) ∧ 36864 < 61440 ∧ 0 < 2 ∧ (u.dictIndex 36864)[2 - 1]? = some (ent 36864 2) ∧ (ent 36864 2).priv ≤ ses.level ∧ (ent 36864 2).acc ≠ Acc.wo ∧ (ent 36864 2).src = DictSrc.data ∧ regExists RegKind.SPSIZE 5 0 ∧ RegKind.SPSIZE ≠ RegKind.LKCELL ∧ u.ak.addr = BitVec.ofNat 64 (regAddr RegKind.SPSIZE 5 0)) ∧
    (let u := ((adr (BitVec.ofNat 64 (regAddr RegKind.SPSIZE 5 0)) zA).fset F.TPWR_STATE 0 5 3).advance 0; 12613 < 65536 ∧ 3 < 256 ∧ u.Hears (rd ses 12613 3) ses 16 ses.next (toBytes 2 12613 ++ toBytes 1 3 ++ toBytes 1 0) ∧ 12613 < 61440 ∧ 0 < 3 ∧ (u.dictIndex 12613)[3 - 1]? = some (ent 12613 3) ∧ (ent 12613 3).priv ≤ ses.level ∧ (ent 12613 3).acc ≠ Acc.wo ∧ (ent 12613 3).src = DictSrc.reg RegKind.SPSIZE 5 0) :=
  ⟨⟨by simp [CommandRow], by decide +kernel, by decide +kernel, by decide +kernel, ⟨⟨by decide +kernel, by decide +kernel⟩, by decide +kernel, by decide +kernel, by decide +kernel, ⟨1, by decide +kernel, rfl⟩, by decide +kernel, by decide +kernel, by decide +kernel⟩, by decide +kernel, by decide +kernel⟩,
   ⟨by simp [CommandRow], by decide +kernel, by decide +kernel, by decide +kernel, ⟨⟨by decide +kernel, by decide +kernel⟩, by decide +kernel, by decide +kernel, by decide +kernel, ⟨1, by decide +kernel, rfl⟩, by decide +kernel, by decide +kernel, by decide +kernel⟩, by decide +kernel, by decide +kernel⟩,
   ⟨by simp [CommandRow], by decide +kernel, by decide +kernel, by decide +kernel, ⟨⟨by decide +kernel, by decide +kernel⟩, by decide +kernel, by decide +kernel, by decide +kernel, ⟨1, by decide +kernel, rfl⟩, by decide +kernel, by decide +kernel, by decide +kernel⟩, by decide +kernel, by decide +kernel, by decide +kernel⟩,
   ⟨by simp [CommandRow], by decide +kernel, by decide +kernel, by decide +kernel, ⟨⟨by decide +kernel, by decide +kernel⟩, by decide +kernel, by decide +kernel, by decide +kernel, ⟨1, by decide +kernel, rfl⟩, by decide +kernel, by decide +kernel, by decide +kernel⟩, by decide +kernel, by decide +kernel, by decide +kernel, by decide +kernel⟩,
   ⟨by decide +kernel, by decide +kernel, ⟨⟨by decide +kernel, by decide +kernel⟩, by decide +kernel, by decide +kernel, by decide +kernel, ⟨1, by decide +kernel, rfl⟩, by decide +kernel, by decide +kernel, by decide +kernel⟩, by decide +kernel, by decide +kernel, by decide +kernel, by decide +kernel, by decide +kernel, by decide +kernel, by unfold regExists; decide +kernel, by decide +kernel, by decide +kernel⟩,
   ⟨by decide +kernel, by decide +kernel, ⟨⟨by decide +kernel, by decide +kernel⟩, by decide +kernel, by decide +kernel, by decide +kernel, ⟨1, by decide +kernel, rfl⟩, by decide +kernel, by decide +kernel, by decide +kernel⟩, by decide +kernel, by decide +kernel, by decide +kernel, by decide +kernel, by decide +kernel, by decide +kernel⟩⟩

end W22
end Sys2Proof.Tests
end

