-- ==== Sys2Proof/Tests/W23.lean ====
section
/-! SUPPORT. States that meet the hypotheses of: CommandsMoveTheDevice. -/
set_option Elab.async false
open Sys2Proof Sys2Proof.Machine
namespace Sys2Proof.Tests
namespace W23
def ses : Session := { sid := 5, port := 1, src := 77, udp := 9, level := 1, opened := true, key := [1, 2], nc := [3], chal := List.replicate 225 4, start := 1000, lastSeq := 2 ^ 32 - 1, reply := [9, 9], lastMsg := 999, mask := wd (2 ^ 64 - 1), eseq := 65535, recs := [⟨1, 65533, 0, 2, 3⟩, ⟨1, 65534, 0, 2, 3⟩], lost := 0, xfer := none, hbAt := 3 }
def ses2 : Session := { ses with sid := 6, recs := [], lastSeq := 4 }
def zA : State := let z := { strand 0 { wth [] with pc := 7 } with now := 200000000, dev := .standby, hostp := { HostPort.rst with hrdy := true } }
  { z with ak := { z.ak with sessions := [ses2, ses] } }
def withX (x : Session) (s : State) : State := { s with ak := { s.ak with sessions := [ses2, x] } }
def msg (b : List Byte) : AkMsg := ⟨1, 77, 9, b⟩
def say (x : Session) (mt seq : Nat) (p : List Byte) : AkMsg := msg (x.says mt 1 seq p)
def shut : Session := { ses with opened := false, start := 199999999 }
def cmdM (x : Session) (code : Nat) (a : List Nat) : AkMsg := say x 0x20 x.next (cmdBytes code a)
def dv (d : DevState) (s : State) : State := { s with dev := d }
def resets : State := let z := dv .running (((zA.fset F.TEMPSTAT_TRIPPED 0 0 1).fset F.LKGCFG_MODE 1 0 1).fset F.UPDSTAT_ACTSLOT 0 0 1)
  let z := { z with degraded := true, ak := { z.ak with replreq := true, replreason := 3, name := [1] } }
  { z with tiles := [(0, { Tile.rst with cells := [(3, ⟨5, false⟩), (4, ⟨0, true⟩)] }), (1, { Tile.rst with cells := [(3, ⟨5, false⟩)] })], links := [(.catch_ 3, { Link.rst with rxCount := 3 })], lanes := [(4, { Lane.rst with st := .active })] }
def img4 : Image := ⟨4, 7, [], []⟩
def stg (s : State) : State := { s with riari := { s.riari with staged := [(4, img4)] } }
def goodBank : CoxBank := { CoxBank.rst with valid := true, hdr := [(0, wd 40)], acts := [(5, ⟨wd (1 + 2), 0⟩)] }
def zArmR (n : Nat) : State := { stg zA with
  regs := ((.CTBASE, 0, 0), wd 0) :: ((.DRSTAT, 0, 0), wd n) :: (((List.range 64).map fun t => ((.COXSTAT, t, 0), wd 2)) ++ zA.regs), tiles := (List.range 64).map fun t => (t, if t = 0 then { zA.tile 0 with bankB := goodBank } else { Tile.rst with bankB := goodBank }), ctbaseSet := true }
def zArm : State := zArmR 4
def zArmF : State := zArmR 0
def zSpill := ((zArm.fset F.MSCFG_SPILLEN 63 0 1).fset F.SPSIZE_SIZE 63 0 1).fset F.SPBASE_BASE 63 0 64
def arm : AkMsg := cmdM ses 0x10 []
def drain (s : State) : State := { dv .draining s with cut := { s.cut with drain := [9, 7] }, ak := { s.ak with sessions := [] } }
def drN (s : State) : State := { drain s with ctxs := [(7, { Ctx.rst with st := 2 })] }
def wdog (n : Nat) (s : State) : State := { s with ak := { s.ak with wdog := some n } }
def twice (s : State) : State := s.fset F.UPDSTAT_FWTRIAL 0 0 1

theorem witness_CommandsMoveTheDevice_1 :
    (let u := resets.advance 0; u.Commands (cmdM ses 1 []) ses 1 []) ∧
    (let u := (dv DevState.fault zA).advance 0; u.Commands (cmdM ses 1 []) ses 1 []) ∧
    (let u := zSpill.advance 0; u.Commands arm ses 16 [] ∧ (tfind? u.riari.staged 4).isSome = true ∧ u.spillBad = true) ∧
    (let u := zArmF.advance 0; u.Commands arm ses 16 [] ∧ (tfind? u.riari.staged 4).isSome = true ∧ u.spillBad = false ∧ u.armCheck = some { check := 18 } ∧ (∀ d < 64, u.fget F.COXSTAT_SHVALID d 0 = 1)) ∧
    (let u := zArm.advance 0; u.Commands arm ses 16 [] ∧ (tfind? u.riari.staged 4).isSome = true ∧ u.spillBad = false ∧ u.armCheck = none) ∧
    (let u := ((dv DevState.armed zA).fset F.CUTTAKE_ARM 0 0 1).advance 0; 3 < 2 ^ 48 ∧ u.Commands (cmdM ses 17 [3]) ses (if true = true then 17 else 19) [3] ∧ u.cutArmed = true) ∧
    (let u := (zA.fset F.CUTTAKE_ARM 0 0 1).advance 0; 3 < 2 ^ 48 ∧ u.Commands (cmdM ses 19 [3]) ses (if false = true then 17 else 19) [3] ∧ u.cutArmed = true) ∧
    (let u := (zA.fset F.SLATE_COUNT 0 0 3).advance 0; 3 < 2 ^ 48 ∧ u.Commands (cmdM ses 19 [3]) ses (if false = true then 17 else 19) [3] ∧ u.cutArmed = false ∧ 3 ≤ u.count) :=
  ⟨⟨⟨⟨by decide +kernel, by decide +kernel⟩, by decide +kernel, by decide +kernel, by decide +kernel, ⟨1, by decide +kernel, rfl⟩, by decide +kernel, by decide +kernel, by decide +kernel⟩, by decide +kernel, by decide +kernel⟩,
   ⟨⟨⟨by decide +kernel, by decide +kernel⟩, by decide +kernel, by decide +kernel, by decide +kernel, ⟨1, by decide +kernel, rfl⟩, by decide +kernel, by decide +kernel, by decide +kernel⟩, by decide +kernel, by decide +kernel⟩,
   ⟨⟨⟨⟨by decide +kernel, by decide +kernel⟩, by decide +kernel, by decide +kernel, by decide +kernel, ⟨1, by decide +kernel, rfl⟩, by decide +kernel, by decide +kernel, by decide +kernel⟩, by decide +kernel, by decide +kernel⟩, by decide +kernel, by decide +kernel⟩,
   ⟨⟨⟨⟨by decide +kernel, by decide +kernel⟩, by decide +kernel, by decide +kernel, by decide +kernel, ⟨1, by decide +kernel, rfl⟩, by decide +kernel, by decide +kernel, by decide +kernel⟩, by decide +kernel, by decide +kernel⟩, by decide +kernel, by decide +kernel, armCheck_of _ _ (by decide +kernel) (by decide +kernel) (by decide +kernel) (by decide +kernel) (by decide +kernel) (by decide +kernel) (by decide +kernel), by decide +kernel⟩,
   ⟨⟨⟨⟨by decide +kernel, by decide +kernel⟩, by decide +kernel, by decide +kernel, by decide +kernel, ⟨1, by decide +kernel, rfl⟩, by decide +kernel, by decide +kernel, by decide +kernel⟩, by decide +kernel, by decide +kernel⟩, by decide +kernel, by decide +kernel, armCheck_of _ _ (by decide +kernel) (by decide +kernel) (by decide +kernel) (by decide +kernel) (by decide +kernel) (by decide +kernel) (by decide +kernel)⟩,
   ⟨by decide +kernel, ⟨⟨⟨by decide +kernel, by decide +kernel⟩, by decide +kernel, by decide +kernel, by decide +kernel, ⟨1, by decide +kernel, rfl⟩, by decide +kernel, by decide +kernel, by decide +kernel⟩, by decide +kernel, by decide +kernel⟩, by decide +kernel⟩,
   ⟨by decide +kernel, ⟨⟨⟨by decide +kernel, by decide +kernel⟩, by decide +kernel, by decide +kernel, by decide +kernel, ⟨1, by decide +kernel, rfl⟩, by decide +kernel, by decide +kernel, by decide +kernel⟩, by decide +kernel, by decide +kernel⟩, by decide +kernel⟩,
   ⟨by decide +kernel, ⟨⟨⟨by decide +kernel, by decide +kernel⟩, by decide +kernel, by decide +kernel, by decide +kernel, ⟨1, by decide +kernel, rfl⟩, by decide +kernel, by decide +kernel, by decide +kernel⟩, by decide +kernel, by decide +kernel⟩, by decide +kernel, by decide +kernel⟩⟩

theorem witness_CommandsMoveTheDevice_2 :
    (let u := ((zA.fset F.SLATE_COUNT 0 0 2).fset F.SLATE_TAKE 0 0 65535).advance 0; 3 < 2 ^ 48 ∧ u.Commands (cmdM ses 19 [3]) ses (if false = true then 17 else 19) [3] ∧ u.cutArmed = false ∧ u.count < 3 ∧ u.reelBlocks = false) ∧
    (let u := ((dv DevState.armed zA).fset F.SLATE_COUNT 0 0 2).advance 0; 2 ^ 48 - 1 < 2 ^ 48 ∧ u.Commands (cmdM ses 17 [2 ^ 48 - 1]) ses (if true = true then 17 else 19) [2 ^ 48 - 1] ∧ u.cutArmed = false ∧ u.count < 2 ^ 48 - 1 ∧ u.reelBlocks = false) ∧
    (let u := (dv DevState.armed zA).advance 0; u.Commands (cmdM ses 18 []) ses 18 [] ∧ u.Shown) ∧
    (let u := (drain zA).advance 0; let done := u.dev = DevState.draining ∧ u.stroke.disarm = false ∧ ∀ c ∈ u.cut.drain, (u.ctx c).st = 0; done ∧ u.Shown ∧ u.Unwatched) ∧
    (let u := (drN zA).advance 0; let done := u.dev = DevState.draining ∧ u.stroke.disarm = false ∧ ∀ c ∈ u.cut.drain, (u.ctx c).st = 0; (¬done)) ∧
    (let u := (dv DevState.fault zA).advance 0; (u.dev = DevState.reset ∨ u.dev = DevState.fault)) ∧
    (let u := (wdog 1000 ({ zA with now := 1600001001 })).advance 0; u.dev ≠ DevState.reset ∧ u.dev ≠ DevState.fault ∧ u.riari.fwStep ≠ 1 ∧ u.fget F.UPDSTAT_FWTRIAL 0 0 = 0 ∧ (∀ (k : ℕ), u.ak.wdog = some k → k + 1600000000 < u.now)) ∧
    (let u := (wdog 1000 ({ zA with now := 1600001000 })).advance 0; u.dev ≠ DevState.reset ∧ u.dev ≠ DevState.fault ∧ u.riari.fwStep ≠ 1 ∧ u.fget F.UPDSTAT_FWTRIAL 0 0 = 0 ∧ u.ak.wdog = some 1000 ∧ u.now ≤ 1000 + 1600000000) :=
  ⟨⟨by decide +kernel, ⟨⟨⟨by decide +kernel, by decide +kernel⟩, by decide +kernel, by decide +kernel, by decide +kernel, ⟨1, by decide +kernel, rfl⟩, by decide +kernel, by decide +kernel, by decide +kernel⟩, by decide +kernel, by decide +kernel⟩, by decide +kernel, by decide +kernel, by decide +kernel⟩,
   ⟨by decide +kernel, ⟨⟨⟨by decide +kernel, by decide +kernel⟩, by decide +kernel, by decide +kernel, by decide +kernel, ⟨1, by decide +kernel, rfl⟩, by decide +kernel, by decide +kernel, by decide +kernel⟩, by decide +kernel, by decide +kernel⟩, by decide +kernel, by decide +kernel, by decide +kernel⟩,
   ⟨⟨⟨⟨by decide +kernel, by decide +kernel⟩, by decide +kernel, by decide +kernel, by decide +kernel, ⟨1, by decide +kernel, rfl⟩, by decide +kernel, by decide +kernel, by decide +kernel⟩, by decide +kernel, by decide +kernel⟩, by unfold State.Shown; decide +kernel⟩,
   ⟨by decide +kernel, by unfold State.Shown; decide +kernel, ⟨by decide +kernel, by decide +kernel⟩⟩,
   (by decide +kernel),
   (by decide +kernel),
   ⟨by decide +kernel, by decide +kernel, by decide +kernel, by decide +kernel, by decide +kernel⟩,
   ⟨by decide +kernel, by decide +kernel, by decide +kernel, by decide +kernel, by decide +kernel, by decide +kernel⟩⟩

theorem witness_CommandsMoveTheDevice_3 :
    let u := (twice zA).advance 0; u.dev ≠ DevState.reset ∧ u.dev ≠ DevState.fault ∧ (u.riari.fwStep = 1 ∨ u.fget F.UPDSTAT_FWTRIAL 0 0 = 1) :=
  ⟨by decide +kernel, by decide +kernel, by decide +kernel⟩

end W23
end Sys2Proof.Tests
end

