-- ==== Sys2Proof/Tests/W24.lean ====
section
/-! SUPPORT. States that meet the hypotheses of: UpdatesAreVerifiedStagedAndKept. -/
set_option Elab.async false
open Sys2Proof Sys2Proof.Machine
namespace Sys2Proof.Tests
namespace W24
def ses : Session := { sid := 5, port := 1, src := 77, udp := 9, level := 1, opened := true, key := [1, 2], nc := [3], chal := List.replicate 225 4, start := 1000, lastSeq := 2 ^ 32 - 1, reply := [9, 9], lastMsg := 999, mask := wd (2 ^ 64 - 1), eseq := 65535, recs := [⟨1, 65533, 0, 2, 3⟩, ⟨1, 65534, 0, 2, 3⟩], lost := 0, xfer := none, hbAt := 3 }
def ses2 : Session := { ses with sid := 6, recs := [], lastSeq := 4 }
def zA : State := let z := { strand 0 { wth [] with pc := 7 } with now := 200000000, dev := .standby, hostp := { HostPort.rst with hrdy := true } }
  { z with ak := { z.ak with sessions := [ses2, ses] } }
def withX (x : Session) (s : State) : State := { s with ak := { s.ak with sessions := [ses2, x] } }
def msg (b : List Byte) : AkMsg := ⟨1, 77, 9, b⟩
def say (x : Session) (mt seq : Nat) (p : List Byte) : AkMsg := msg (x.says mt 1 seq p)
def shut : Session := { ses with opened := false, start := 199999999 }
def cmdM (x : Session) (code : Nat) (a : List Nat) : AkMsg := say x 0x20 x.next (cmdBytes code a)
def dv (d : DevState) (s : State) : State := { s with dev := d }
def full (s : State) : State := (s.fset F.DRSTAT_DSIZE 0 0 56)
/-- a container's bytes in memory at 64 -/
def box (kind ver plen lms : Nat) (p : List Byte) : List Byte := toBytes 4 0x4C454552 ++ toBytes 1 kind ++ toBytes 1 1 ++ toBytes 2 0 ++ toBytes 4 ver ++ toBytes 4 plen ++ toBytes 4 lms ++ toBytes 12 0 ++ toBytes 48 0 ++ toBytes 48 0 ++ p ++ toBytes 96 1 ++ toBytes lms 2
def atM (a : Nat) (b : List Byte) (s : State) : State := { s with mem := s.mem ++ (b.zipIdx.filterMap fun (v, i) => if v = 0 then none else some (a + i, v)) }
def reelP : List Byte := toBytes 1 7 ++ toBytes 1 0 ++ toBytes 2 2 ++ toBytes 8 (3 + 5 * 2 ^ 16 + 2 * 2 ^ 30) ++ toBytes 8 (63 + 16383 * 2 ^ 16 + 1 * 2 ^ 30) ++ toBytes 4 0 ++ toBytes 8 0x11 ++ toBytes 8 0x22 ++ toBytes 8 0x33
def vfy (a len : Nat) : AkMsg := cmdM ses 0x100 [a, len]
def img (k : Nat) (p : List Byte) : Image := ⟨k, 7, [], p⟩
def staged (l : List Nat) (s : State) : State := { s with riari := { s.riari with staged := l.map fun k => (k, img k []) , reelAt := some (0, 4096) } }
def cutOn (s : State) : State := s.fset F.CUTTAKE_ARM 0 0 1
def unw (s : State) : State := { s with ak := { s.ak with sessions := [] } }
def loading (s : State) : State := { unw s with riari := { s.riari with loading := [(img 2 reelP, (0, 8))] } }
def step_ (k n : Nat) (s : State) : State := { unw s with riari := { s.riari with fwStep := k, fwAt := s.now - n, back := 0, trial := some 1 } }
def fws (s : State) : State := s.fset F.UPDSTAT_FWSTG 0 0 1
def slotV (v : Nat) (s : State) : State := { s with riari := { s.riari with slots := [(0, img 1 []), (1, ⟨1, v, [], []⟩)], verified := some 1 } }
def lk (k : LinkId) (n : Nat) (s : State) : State := { s.fset (lkF k F.CLSTAT_STATE F.FLSTAT_STATE) 0 (lkIx k) n with links := [(k, { Link.rst with rxCount := 3 })] }
theorem boxCheck_ok (s : State) (a len : Nat) (b : Box) (h1 : (s.inData a len && decide (128 ≤ len) && b.hdrOk && decide (len = 224 + b.plen + b.lmslen)) = true) (h2 : payloadOk b.img = true) (h3 : b.authentic = true)
    (h4 : s.fget F.MONO_VALUE 0 (b.img.kind - 1) ≤ b.img.version) (h5 : (s.cutArmed || s.kindRefused b.img) = false) : s.boxCheck a len b = 0 := by
  unfold State.boxCheck
  rw [h1, h2, h3, h5]
  simp
  omega

theorem witness_UpdatesAreVerifiedStagedAndKept_1 :
    (let u := (dv DevState.fault (full zA)).advance 0; let b := u.readBox 0; u.Commands (vfy 0 224) ses 256 [0, 224] ∧ 0 % 8 = 0 ∧ 0 + 128 ≤ u.dsize ∧ u.dev = DevState.fault ∧ b.img.kind ≠ 1) ∧
    (let u := (full zA).advance 0; let b := u.readBox 0; let c := u.boxCheck 0 224 b; u.Commands (vfy 0 224) ses 256 [0, 224] ∧ 0 % 8 = 0 ∧ 0 + 128 ≤ u.dsize ∧ (u.dev ≠ DevState.fault ∨ b.img.kind = 1) ∧ c ≠ 0) ∧
    (let u := (atM 64 (box 1 9 8 8 [(1 : Byte)]) (dv DevState.fault (full zA))).advance 0; let b := u.readBox 64; let c := u.boxCheck 64 (128 + 8 + 96 + 9) b; u.Commands (vfy 64 (128 + 8 + 96 + 9)) ses 256 [64, 128 + 8 + 96 + 9] ∧ 64 % 8 = 0 ∧ 64 + 128 ≤ u.dsize ∧ (u.dev ≠ DevState.fault ∨ b.img.kind = 1) ∧ c ≠ 0) ∧
    (let u := (atM 64 (box 2 9 8 8 []) (full zA)).advance 0; let b := u.readBox 64; let c := u.boxCheck 64 (128 + 8 + 96 + 8) b; u.Commands (vfy 64 (128 + 8 + 96 + 8)) ses 256 [64, 128 + 8 + 96 + 8] ∧ 64 % 8 = 0 ∧ 64 + 128 ≤ u.dsize ∧ (u.dev ≠ DevState.fault ∨ b.img.kind = 1) ∧ c ≠ 0) ∧
    (let u := (cutOn zA).advance 0; u.Commands (cmdM ses 257 [2]) ses 257 [2] ∧ u.cutArmed = true) ∧
    (let u := zA.advance 0; u.Commands (cmdM ses 257 [5]) ses 257 [5] ∧ u.cutArmed = false ∧ (5 < 1 ∨ 4 < 5)) ∧
    (let u := (staged [1, 2, 4] zA).advance 0; u.Commands (cmdM ses 257 [3]) ses 257 [3] ∧ u.cutArmed = false ∧ 1 ≤ 3 ∧ 3 ≤ 4 ∧ tfind? u.riari.staged 3 = none) ∧
    (let u := (staged [1, 2, 4] zA).advance 0; u.Commands (cmdM ses 257 [1]) ses 257 [1] ∧ u.cutArmed = false ∧ 1 ≤ 1 ∧ 1 ≤ 4 ∧ tfind? u.riari.staged 1 ≠ none) :=
  ⟨⟨⟨⟨⟨by decide +kernel, by decide +kernel⟩, by decide +kernel, by decide +kernel, by decide +kernel, ⟨1, by decide +kernel, rfl⟩, by decide +kernel, by decide +kernel, by decide +kernel⟩, by decide +kernel, by decide +kernel⟩, by decide +kernel, by decide +kernel, by decide +kernel, by decide +kernel⟩,
   ⟨⟨⟨⟨by decide +kernel, by decide +kernel⟩, by decide +kernel, by decide +kernel, by decide +kernel, ⟨1, by decide +kernel, rfl⟩, by decide +kernel, by decide +kernel, by decide +kernel⟩, by decide +kernel, by decide +kernel⟩, by decide +kernel, by decide +kernel, by decide +kernel, by decide +kernel⟩,
   ⟨⟨⟨⟨by decide +kernel, by decide +kernel⟩, by decide +kernel, by decide +kernel, by decide +kernel, ⟨1, by decide +kernel, rfl⟩, by decide +kernel, by decide +kernel, by decide +kernel⟩, by decide +kernel, by decide +kernel⟩, by decide +kernel, by decide +kernel, by decide +kernel, by decide +kernel⟩,
   ⟨⟨⟨⟨by decide +kernel, by decide +kernel⟩, by decide +kernel, by decide +kernel, by decide +kernel, ⟨1, by decide +kernel, rfl⟩, by decide +kernel, by decide +kernel, by decide +kernel⟩, by decide +kernel, by decide +kernel⟩, by decide +kernel, by decide +kernel, by decide +kernel, by decide +kernel⟩,
   ⟨⟨⟨⟨by decide +kernel, by decide +kernel⟩, by decide +kernel, by decide +kernel, by decide +kernel, ⟨1, by decide +kernel, rfl⟩, by decide +kernel, by decide +kernel, by decide +kernel⟩, by decide +kernel, by decide +kernel⟩, by decide +kernel⟩,
   ⟨⟨⟨⟨by decide +kernel, by decide +kernel⟩, by decide +kernel, by decide +kernel, by decide +kernel, ⟨1, by decide +kernel, rfl⟩, by decide +kernel, by decide +kernel, by decide +kernel⟩, by decide +kernel, by decide +kernel⟩, by decide +kernel, by decide +kernel⟩,
   ⟨⟨⟨⟨by decide +kernel, by decide +kernel⟩, by decide +kernel, by decide +kernel, by decide +kernel, ⟨1, by decide +kernel, rfl⟩, by decide +kernel, by decide +kernel, by decide +kernel⟩, by decide +kernel, by decide +kernel⟩, by decide +kernel, by decide +kernel, by decide +kernel, by decide +kernel⟩,
   ⟨⟨⟨⟨by decide +kernel, by decide +kernel⟩, by decide +kernel, by decide +kernel, by decide +kernel, ⟨1, by decide +kernel, rfl⟩, by decide +kernel, by decide +kernel, by decide +kernel⟩, by decide +kernel, by decide +kernel⟩, by decide +kernel, by decide +kernel, by decide +kernel, by decide +kernel⟩⟩

theorem witness_UpdatesAreVerifiedStagedAndKept_2 :
    (let u := (staged [1, 2, 4] zA).advance 0; u.Commands (cmdM ses 257 [2]) ses 257 [2] ∧ u.cutArmed = false ∧ 1 ≤ 2 ∧ 2 ≤ 4 ∧ tfind? u.riari.staged 2 ≠ none) ∧
    (let u := (staged [1, 2, 3] zA).advance 0; u.Commands (cmdM ses 257 [3]) ses 257 [3] ∧ u.cutArmed = false ∧ 1 ≤ 3 ∧ 3 ≤ 4 ∧ tfind? u.riari.staged 3 ≠ none) ∧
    (let u := (staged [1, 2, 4] zA).advance 0; u.Commands (cmdM ses 257 [4]) ses 257 [4] ∧ u.cutArmed = false ∧ 1 ≤ 4 ∧ 4 ≤ 4 ∧ tfind? u.riari.staged 4 ≠ none) ∧
    (let u := (loading zA).advance 0; let v := u.riari; u.Unwatched ∧ v.loading = [(img 2 reelP, 0, 8)] ∧ reelOk (img 2 reelP).payload = true) ∧
    (let u := (unw zA).advance 0; let v := u.riari; u.Unwatched ∧ v.loading = []) ∧
    (let u := (step_ 1 15999 zA).advance 0; let v := u.riari; u.Unwatched ∧ (v.fwStep = 0 ∨ u.now < v.fwAt + 16000)) ∧
    (let u := (step_ 1 16000 zA).advance 0; let v := u.riari; u.Unwatched ∧ v.fwStep = 1 ∧ v.fwAt + 16000 ≤ u.now ∧ v.back < 2) ∧
    (let u := (step_ 3 16000 zA).advance 0; let v := u.riari; u.Unwatched ∧ 1 < v.fwStep ∧ v.fwAt + 16000 ≤ u.now) :=
  ⟨⟨⟨⟨⟨by decide +kernel, by decide +kernel⟩, by decide +kernel, by decide +kernel, by decide +kernel, ⟨1, by decide +kernel, rfl⟩, by decide +kernel, by decide +kernel, by decide +kernel⟩, by decide +kernel, by decide +kernel⟩, by decide +kernel, by decide +kernel, by decide +kernel, by decide +kernel⟩,
   ⟨⟨⟨⟨by decide +kernel, by decide +kernel⟩, by decide +kernel, by decide +kernel, by decide +kernel, ⟨1, by decide +kernel, rfl⟩, by decide +kernel, by decide +kernel, by decide +kernel⟩, by decide +kernel, by decide +kernel⟩, by decide +kernel, by decide +kernel, by decide +kernel, by decide +kernel⟩,
   ⟨⟨⟨⟨by decide +kernel, by decide +kernel⟩, by decide +kernel, by decide +kernel, by decide +kernel, ⟨1, by decide +kernel, rfl⟩, by decide +kernel, by decide +kernel, by decide +kernel⟩, by decide +kernel, by decide +kernel⟩, by decide +kernel, by decide +kernel, by decide +kernel, by decide +kernel⟩,
   ⟨⟨by decide +kernel, by decide +kernel⟩, by decide +kernel, by decide +kernel⟩,
   ⟨⟨by decide +kernel, by decide +kernel⟩, by decide +kernel⟩,
   ⟨⟨by decide +kernel, by decide +kernel⟩, by decide +kernel⟩,
   ⟨⟨by decide +kernel, by decide +kernel⟩, by decide +kernel, by decide +kernel, by decide +kernel⟩,
   ⟨⟨by decide +kernel, by decide +kernel⟩, by decide +kernel, by decide +kernel⟩⟩

theorem witness_UpdatesAreVerifiedStagedAndKept_3 :
    (let u := (step_ 1 1600000000 ({ zA with now := 1800000000 })).advance 0; let v := u.riari; u.Unwatched ∧ v.fwStep = 1 ∧ v.fwAt + 1600000000 ≤ u.now ∧ v.back < 2) ∧
    (let u := (step_ 1 1599999999 ({ zA with now := 1800000000 })).advance 0; let v := u.riari; u.Unwatched ∧ (v.fwStep ≠ 1 ∨ u.now < v.fwAt + 1600000000)) ∧
    (let u := zA.advance 0; u.Commands (cmdM ses 272 []) ses 272 [] ∧ (u.fget F.UPDSTAT_FWSTG 0 0 = 0 ∨ u.pendTiles ≠ [])) ∧
    (let u := (cutOn (fws zA)).advance 0; u.Commands (cmdM ses 272 []) ses 272 [] ∧ u.fget F.UPDSTAT_FWSTG 0 0 = 1 ∧ u.pendTiles = [] ∧ u.cutArmed = true) ∧
    (let u := (fws zA).advance 0; u.Commands (cmdM ses 272 []) ses 272 [] ∧ u.fget F.UPDSTAT_FWSTG 0 0 = 1 ∧ u.pendTiles = [] ∧ u.cutArmed = false) ∧
    (let u := (dv DevState.fault zA).advance 0; u.Commands (cmdM ses 273 []) ses 273 [] ∧ u.dev = DevState.fault ∧ u.riari.verified = none) ∧
    (let u := (dv DevState.fault (slotV 5 zA)).advance 0; u.Commands (cmdM ses 273 []) ses 273 [] ∧ u.dev = DevState.fault ∧ u.riari.verified = some 1 ∧ (u.slotImage 1).version < 2 ^ 32) ∧
    (let u := zA.advance 0; u.Commands (cmdM ses 273 []) ses 273 [] ∧ u.dev ≠ DevState.fault ∧ u.fget F.UPDSTAT_FWTRIAL 0 0 = 0) :=
  ⟨⟨⟨by decide +kernel, by decide +kernel⟩, by decide +kernel, by decide +kernel, by decide +kernel⟩,
   ⟨⟨by decide +kernel, by decide +kernel⟩, by decide +kernel⟩,
   ⟨⟨⟨⟨by decide +kernel, by decide +kernel⟩, by decide +kernel, by decide +kernel, by decide +kernel, ⟨1, by decide +kernel, rfl⟩, by decide +kernel, by decide +kernel, by decide +kernel⟩, by decide +kernel, by decide +kernel⟩, by decide +kernel⟩,
   ⟨⟨⟨⟨by decide +kernel, by decide +kernel⟩, by decide +kernel, by decide +kernel, by decide +kernel, ⟨1, by decide +kernel, rfl⟩, by decide +kernel, by decide +kernel, by decide +kernel⟩, by decide +kernel, by decide +kernel⟩, by decide +kernel, by decide +kernel, by decide +kernel⟩,
   ⟨⟨⟨⟨by decide +kernel, by decide +kernel⟩, by decide +kernel, by decide +kernel, by decide +kernel, ⟨1, by decide +kernel, rfl⟩, by decide +kernel, by decide +kernel, by decide +kernel⟩, by decide +kernel, by decide +kernel⟩, by decide +kernel, by decide +kernel, by decide +kernel⟩,
   ⟨⟨⟨⟨by decide +kernel, by decide +kernel⟩, by decide +kernel, by decide +kernel, by decide +kernel, ⟨1, by decide +kernel, rfl⟩, by decide +kernel, by decide +kernel, by decide +kernel⟩, by decide +kernel, by decide +kernel⟩, by decide +kernel, by decide +kernel⟩,
   ⟨⟨⟨⟨by decide +kernel, by decide +kernel⟩, by decide +kernel, by decide +kernel, by decide +kernel, ⟨1, by decide +kernel, rfl⟩, by decide +kernel, by decide +kernel, by decide +kernel⟩, by decide +kernel, by decide +kernel⟩, by decide +kernel, by decide +kernel, by decide +kernel⟩,
   ⟨⟨⟨⟨by decide +kernel, by decide +kernel⟩, by decide +kernel, by decide +kernel, by decide +kernel, ⟨1, by decide +kernel, rfl⟩, by decide +kernel, by decide +kernel, by decide +kernel⟩, by decide +kernel, by decide +kernel⟩, by decide +kernel, by decide +kernel⟩⟩

theorem witness_UpdatesAreVerifiedStagedAndKept_4 :
    (let u := (((slotV 5 zA).fset F.UPDSTAT_FWTRIAL 0 0 1).fset F.UPDSTAT_ACTSLOT 0 0 1).advance 0; let act := u.fget F.UPDSTAT_ACTSLOT 0 0; u.Commands (cmdM ses 273 []) ses 273 [] ∧ u.dev ≠ DevState.fault ∧ u.fget F.UPDSTAT_FWTRIAL 0 0 = 1 ∧ (u.slotImage act).version < 2 ^ 32) ∧
    (let u := zA.advance 0; let range := 4 % 8 = 0 ∧ 4 + 4096 ≤ u.dsize ∧ u.inReel 4 4096 = false ∧ u.accessFault (Req.aklofy 2) 4 8 true = none; u.Commands (cmdM ses 304 [4]) ses 304 [4] ∧ (¬range)) ∧
    (let u := (full zA).advance 0; let q := u.riari.lmsNext; let range := 4096 % 8 = 0 ∧ 4096 + 4096 ≤ u.dsize ∧ u.inReel 4096 4096 = false ∧ u.accessFault (Req.aklofy 2) 4096 8 true = none; u.Commands (cmdM ses 304 [4096]) ses 304 [4096] ∧ range ∧ u.dev ≠ DevState.fault ∧ q + 1 + 2 ^ 20 ≤ 2 ^ 40 ∧ u.Still) ∧
    (let u := zA.advance 0; let arg := (if isFab (LinkId.catch_ (3 : Fin 32)) = true then 32 else 0) + lkIx (LinkId.catch_ (3 : Fin 32)); let used := isFab (LinkId.catch_ (3 : Fin 32)) = false ∧ u.dev ≠ DevState.standby ∧ ∃ i < 64, u.fget F.SITEW0_EN 0 (64 * lkIx (LinkId.catch_ (3 : Fin 32)) + i) = 1; u.Commands (cmdM ses 320 [3]) ses 320 [arg] ∧ (used ∨ u.linkSt (LinkId.catch_ (3 : Fin 32)) = 0)) ∧
    (let u := (lk (LinkId.catch_ (31 : Fin 32)) 3 zA).advance 0; let arg := (if isFab (LinkId.catch_ (31 : Fin 32)) = true then 32 else 0) + lkIx (LinkId.catch_ (31 : Fin 32)); let used := isFab (LinkId.catch_ (31 : Fin 32)) = false ∧ u.dev ≠ DevState.standby ∧ ∃ i < 64, u.fget F.SITEW0_EN 0 (64 * lkIx (LinkId.catch_ (31 : Fin 32)) + i) = 1; u.Commands (cmdM ses 320 [31]) ses 320 [arg] ∧ (¬used) ∧ u.linkSt (LinkId.catch_ (31 : Fin 32)) ≠ 0) ∧
    (let u := (lk (LinkId.fabric (15 : Fin 16)) 3 zA).advance 0; let arg := (if isFab (LinkId.fabric (15 : Fin 16)) = true then 32 else 0) + lkIx (LinkId.fabric (15 : Fin 16)); let used := isFab (LinkId.fabric (15 : Fin 16)) = false ∧ u.dev ≠ DevState.standby ∧ ∃ i < 64, u.fget F.SITEW0_EN 0 (64 * lkIx (LinkId.fabric (15 : Fin 16)) + i) = 1; u.Commands (cmdM ses 320 [47]) ses 320 [arg] ∧ (¬used) ∧ u.linkSt (LinkId.fabric (15 : Fin 16)) ≠ 0) :=
  ⟨⟨⟨⟨⟨by decide +kernel, by decide +kernel⟩, by decide +kernel, by decide +kernel, by decide +kernel, ⟨1, by decide +kernel, rfl⟩, by decide +kernel, by decide +kernel, by decide +kernel⟩, by decide +kernel, by decide +kernel⟩, by decide +kernel, by decide +kernel, by decide +kernel⟩,
   ⟨⟨⟨⟨by decide +kernel, by decide +kernel⟩, by decide +kernel, by decide +kernel, by decide +kernel, ⟨1, by decide +kernel, rfl⟩, by decide +kernel, by decide +kernel, by decide +kernel⟩, by decide +kernel, by decide +kernel⟩, by decide +kernel⟩,
   ⟨⟨⟨⟨by decide +kernel, by decide +kernel⟩, by decide +kernel, by decide +kernel, by decide +kernel, ⟨1, by decide +kernel, rfl⟩, by decide +kernel, by decide +kernel, by decide +kernel⟩, by decide +kernel, by decide +kernel⟩, by decide +kernel, by decide +kernel, by decide +kernel, still_of _ (by decide +kernel) rfl (by decide +kernel)⟩,
   ⟨⟨⟨⟨by decide +kernel, by decide +kernel⟩, by decide +kernel, by decide +kernel, by decide +kernel, ⟨1, by decide +kernel, rfl⟩, by decide +kernel, by decide +kernel, by decide +kernel⟩, by decide +kernel, by decide +kernel⟩, by decide +kernel⟩,
   ⟨⟨⟨⟨by decide +kernel, by decide +kernel⟩, by decide +kernel, by decide +kernel, by decide +kernel, ⟨1, by decide +kernel, rfl⟩, by decide +kernel, by decide +kernel, by decide +kernel⟩, by decide +kernel, by decide +kernel⟩, by decide +kernel, by decide +kernel⟩,
   ⟨⟨⟨⟨by decide +kernel, by decide +kernel⟩, by decide +kernel, by decide +kernel, by decide +kernel, ⟨1, by decide +kernel, rfl⟩, by decide +kernel, by decide +kernel, by decide +kernel⟩, by decide +kernel, by decide +kernel⟩, by decide +kernel, by decide +kernel⟩⟩

/-- VERIFY of containers that the signatures accept. -/
theorem witness_UpdatesAreVerifiedStagedAndKept_accepted :
    (let u := (atM 64 (box 1 9 8 8 [1]) (dv DevState.fault (full zA))).advance 0; let b := u.readBox 64; b.authentic = true →
      u.Commands (vfy 64 240) ses 256 [64, 240] ∧ 64 % 8 = 0 ∧ 64 + 128 ≤ u.dsize ∧ (u.dev ≠ DevState.fault ∨ b.img.kind = 1) ∧ u.boxCheck 64 240 b = 0) ∧
    (let u := (atM 64 (box 2 9 48 8 reelP) (full zA)).advance 0; let b := u.readBox 64; b.authentic = true →
      u.Commands (vfy 64 280) ses 256 [64, 280] ∧ 64 % 8 = 0 ∧ 64 + 128 ≤ u.dsize ∧ (u.dev ≠ DevState.fault ∨ b.img.kind = 1) ∧ u.boxCheck 64 280 b = 0) :=
  ⟨fun h => ⟨⟨⟨⟨by decide +kernel, by decide +kernel⟩, by decide +kernel, by decide +kernel, by decide +kernel, ⟨1, by decide +kernel, rfl⟩, by decide +kernel, by decide +kernel, by decide +kernel⟩, by decide +kernel, by decide +kernel⟩, by decide +kernel, by decide +kernel, by decide +kernel, boxCheck_ok _ _ _ _ (by decide +kernel) (by decide +kernel) h (by decide +kernel) (by decide +kernel)⟩,
   fun h => ⟨⟨⟨⟨by decide +kernel, by decide +kernel⟩, by decide +kernel, by decide +kernel, by decide +kernel, ⟨1, by decide +kernel, rfl⟩, by decide +kernel, by decide +kernel, by decide +kernel⟩, by decide +kernel, by decide +kernel⟩, by decide +kernel, by decide +kernel, by decide +kernel, boxCheck_ok _ _ _ _ (by decide +kernel) (by decide +kernel) h (by decide +kernel) (by decide +kernel)⟩⟩

end W24
end Sys2Proof.Tests
end

