-- ==== Sys2Proof/Tests/W25.lean ====
section
/-! SUPPORT. States that meet the hypotheses of: TilesAreSubstituted. -/
set_option Elab.async false
open Sys2Proof Sys2Proof.Machine
namespace Sys2Proof.Tests
namespace W25
def ses : Session := { sid := 5, port := 1, src := 77, udp := 9, level := 1, opened := true, key := [1, 2], nc := [3], chal := List.replicate 225 4, start := 1000, lastSeq := 2 ^ 32 - 1, reply := [9, 9], lastMsg := 999, mask := wd (2 ^ 64 - 1), eseq := 65535, recs := [⟨1, 65533, 0, 2, 3⟩, ⟨1, 65534, 0, 2, 3⟩], lost := 0, xfer := none, hbAt := 3 }
def ses2 : Session := { ses with sid := 6, recs := [], lastSeq := 4 }
def zA : State := let z := { strand 0 { wth [] with pc := 7 } with now := 200000000, dev := .standby, hostp := { HostPort.rst with hrdy := true } }
  { z with ak := { z.ak with sessions := [ses2, ses] } }
def withX (x : Session) (s : State) : State := { s with ak := { s.ak with sessions := [ses2, x] } }
def msg (b : List Byte) : AkMsg := ⟨1, 77, 9, b⟩
def say (x : Session) (mt seq : Nat) (p : List Byte) : AkMsg := msg (x.says mt 1 seq p)
def shut : Session := { ses with opened := false, start := 199999999 }
def cmdM (x : Session) (code : Nat) (a : List Nat) : AkMsg := say x 0x20 x.next (cmdBytes code a)
def sub (l n : Nat) : AkMsg := cmdM ses 0x120 [l, n]
def isol (l : Nat) (s : State) : State := s.fset F.RTCTL_ISOL 0 (s.routerOf l) 1
def noSpare (s : State) : State := (((s.fset F.PTSTAT_STATE 0 64 3).fset F.PTSTAT_STATE 0 65 3).fset F.PTSTAT_STATE 0 66 3).fset F.PTSTAT_STATE 0 67 2
def pend (l n : Nat) (m : Subst) (s : State) : State := { (s.fset F.LTMAP_NEXT 0 l n |>.fset F.LTMAP_PEND 0 l 1).fset F.PTSTAT_STATE 0 n 2 with riari := { s.riari with subs := [(9, ⟨1, 2, false, false, false, false, false, 0⟩), (l, m)] } }
def auto (s : State) : State := s.fset F.SUBCFG_AUTO 0 0 1
def unc (l : Nat) (s : State) : State := s.fset F.SPECC_UNC l 0 16
def unw (s : State) : State := { s with ak := { s.ak with sessions := [] } }
def m0 : Subst := ⟨67, 63, false, false, false, false, false, 0⟩

theorem witness_TilesAreSubstituted_1 :
    (let u := zA.advance 0; u.Commands (sub 64 64) ses 288 [64, 64] ∧ (64 ≤ 64 ∨ 68 ≤ 64 ∧ 64 ≠ 255)) ∧
    (let u := zA.advance 0; u.Commands (sub 63 68) ses 288 [63, 68] ∧ (64 ≤ 63 ∨ 68 ≤ 68 ∧ 68 ≠ 255)) ∧
    (let u := (isol 63 zA).advance 0; u.Commands (sub 63 255) ses 288 [63, 255] ∧ 63 < 64 ∧ (255 < 68 ∨ 255 = 255) ∧ u.tileIsolated 63 = true) ∧
    (let u := (noSpare zA).advance 0; u.Commands (sub 63 255) ses 288 [63, 255] ∧ 63 < 64 ∧ u.tileIsolated 63 = false ∧ 255 = 255 ∧ (∀ k < 68, u.fget F.PTSTAT_STATE 0 k ≠ 1)) ∧
    (let u := zA.advance 0; let p := u.fget F.LTMAP_PHYS 0 63; u.Commands (sub 63 5) ses 288 [63, 5] ∧ 63 < 64 ∧ u.tileIsolated 63 = false ∧ 5 < 68 ∧ 5 ≠ p ∧ u.fget F.PTSTAT_STATE 0 5 ≠ 1) ∧
    (let u := zA.advance 0; let p := u.fget F.LTMAP_PHYS 0 63; u.Commands (sub 63 67) ses 288 [63, 67] ∧ 63 < 64 ∧ u.tileIsolated 63 = false ∧ u.fget F.LTMAP_NEXT 0 63 = p ∧ 67 < 68 ∧ 67 ≠ p ∧ u.fget F.PTSTAT_STATE 0 67 = 1 ∧ (67 = 67 ∨ 67 = 255 ∧ ∀ j < 67, u.fget F.PTSTAT_STATE 0 j ≠ 1)) ∧
    (let u := zA.advance 0; let p := u.fget F.LTMAP_PHYS 0 63; u.Commands (sub 63 255) ses 288 [63, 255] ∧ 63 < 64 ∧ u.tileIsolated 63 = false ∧ u.fget F.LTMAP_NEXT 0 63 = p ∧ 64 < 68 ∧ 64 ≠ p ∧ u.fget F.PTSTAT_STATE 0 64 = 1 ∧ (64 = 255 ∨ 255 = 255 ∧ ∀ j < 64, u.fget F.PTSTAT_STATE 0 j ≠ 1)) ∧
    (let u := zA.advance 0; u.Commands (cmdM ses 289 [64]) ses 289 [64] ∧ 64 ≤ 64) :=
  ⟨⟨⟨⟨⟨by decide +kernel, by decide +kernel⟩, by decide +kernel, by decide +kernel, by decide +kernel, ⟨1, by decide +kernel, rfl⟩, by decide +kernel, by decide +kernel, by decide +kernel⟩, by decide +kernel, by decide +kernel⟩, by decide +kernel⟩,
   ⟨⟨⟨⟨by decide +kernel, by decide +kernel⟩, by decide +kernel, by decide +kernel, by decide +kernel, ⟨1, by decide +kernel, rfl⟩, by decide +kernel, by decide +kernel, by decide +kernel⟩, by decide +kernel, by decide +kernel⟩, by decide +kernel⟩,
   ⟨⟨⟨⟨by decide +kernel, by decide +kernel⟩, by decide +kernel, by decide +kernel, by decide +kernel, ⟨1, by decide +kernel, rfl⟩, by decide +kernel, by decide +kernel, by decide +kernel⟩, by decide +kernel, by decide +kernel⟩, by decide +kernel, by decide +kernel, by decide +kernel⟩,
   ⟨⟨⟨⟨by decide +kernel, by decide +kernel⟩, by decide +kernel, by decide +kernel, by decide +kernel, ⟨1, by decide +kernel, rfl⟩, by decide +kernel, by decide +kernel, by decide +kernel⟩, by decide +kernel, by decide +kernel⟩, by decide +kernel, by decide +kernel, by decide +kernel, by decide +kernel⟩,
   ⟨⟨⟨⟨by decide +kernel, by decide +kernel⟩, by decide +kernel, by decide +kernel, by decide +kernel, ⟨1, by decide +kernel, rfl⟩, by decide +kernel, by decide +kernel, by decide +kernel⟩, by decide +kernel, by decide +kernel⟩, by decide +kernel, by decide +kernel, by decide +kernel, by decide +kernel, by decide +kernel⟩,
   ⟨⟨⟨⟨by decide +kernel, by decide +kernel⟩, by decide +kernel, by decide +kernel, by decide +kernel, ⟨1, by decide +kernel, rfl⟩, by decide +kernel, by decide +kernel, by decide +kernel⟩, by decide +kernel, by decide +kernel⟩, by decide +kernel, by decide +kernel, by decide +kernel, by decide +kernel, by decide +kernel, by decide +kernel, by decide +kernel⟩,
   ⟨⟨⟨⟨by decide +kernel, by decide +kernel⟩, by decide +kernel, by decide +kernel, by decide +kernel, ⟨1, by decide +kernel, rfl⟩, by decide +kernel, by decide +kernel, by decide +kernel⟩, by decide +kernel, by decide +kernel⟩, by decide +kernel, by decide +kernel, by decide +kernel, by decide +kernel, by decide +kernel, by decide +kernel, by decide +kernel⟩,
   ⟨⟨⟨⟨by decide +kernel, by decide +kernel⟩, by decide +kernel, by decide +kernel, by decide +kernel, ⟨1, by decide +kernel, rfl⟩, by decide +kernel, by decide +kernel, by decide +kernel⟩, by decide +kernel, by decide +kernel⟩, by decide +kernel⟩⟩

theorem witness_TilesAreSubstituted_2 :
    (let u := zA.advance 0; let p := u.fget F.LTMAP_PHYS 0 63; let n := u.fget F.LTMAP_NEXT 0 63; u.Commands (cmdM ses 289 [63]) ses 289 [63] ∧ 63 < 64 ∧ n = p) ∧
    (let u := (pend 63 67 m0 zA).advance 0; let p := u.fget F.LTMAP_PHYS 0 63; let n := u.fget F.LTMAP_NEXT 0 63; u.Commands (cmdM ses 289 [63]) ses 289 [63] ∧ 63 < 64 ∧ n ≠ p) ∧
    (let u := (pend 63 67 m0 zA).advance 0; tfind? u.riari.subs 63 = some m0 ∧ u.ltPend 63 = true ∧ m0.presync = false ∧ m0.auto = false) ∧
    (let u := (pend 63 67 ({ m0 with auto := true }) zA).advance 0; tfind? u.riari.subs 63 = some ({ m0 with auto := true }) ∧ u.ltPend 63 = true ∧ ({ m0 with auto := true }).presync = false ∧ ({ m0 with auto := true }).auto = true ∧ (∀ j < 64, j ≠ 63 → u.ltPend j = false) ∧ u.cutArmed = false ∧ u.count + 16 < 2 ^ 48) ∧
    (let u := (pend 63 67 ({ m0 with presync := true }) zA).advance 0; tfind? u.riari.subs 63 = some ({ m0 with presync := true }) ∧ (u.ltPend 63 = false ∨ ({ m0 with presync := true }).presync = true)) ∧
    (let u := (pend 63 67 ({ m0 with moving := true, fencing := true }) zA).advance 0; tfind? u.riari.subs 63 = some ({ m0 with moving := true, fencing := true }) ∧ ({ m0 with moving := true, fencing := true }).moving = true) ∧
    (let u := (pend 63 67 ({ m0 with moving := true }) zA).advance 0; tfind? u.riari.subs 63 = some ({ m0 with moving := true }) ∧ ({ m0 with moving := true }).moving = true) ∧
    (let u := (pend 63 67 m0 zA).advance 0; tfind? u.riari.subs 63 = some m0 ∧ m0.moving = false) :=
  ⟨⟨⟨⟨⟨by decide +kernel, by decide +kernel⟩, by decide +kernel, by decide +kernel, by decide +kernel, ⟨1, by decide +kernel, rfl⟩, by decide +kernel, by decide +kernel, by decide +kernel⟩, by decide +kernel, by decide +kernel⟩, by decide +kernel, by decide +kernel⟩,
   ⟨⟨⟨⟨by decide +kernel, by decide +kernel⟩, by decide +kernel, by decide +kernel, by decide +kernel, ⟨1, by decide +kernel, rfl⟩, by decide +kernel, by decide +kernel, by decide +kernel⟩, by decide +kernel, by decide +kernel⟩, by decide +kernel, by decide +kernel⟩,
   ⟨by decide +kernel, by decide +kernel, by decide +kernel, by decide +kernel⟩,
   ⟨by decide +kernel, by decide +kernel, by decide +kernel, by decide +kernel, by decide +kernel, by decide +kernel, by decide +kernel⟩,
   ⟨by decide +kernel, by decide +kernel⟩,
   ⟨by decide +kernel, by decide +kernel⟩,
   ⟨by decide +kernel, by decide +kernel⟩,
   ⟨by decide +kernel, by decide +kernel⟩⟩

theorem witness_TilesAreSubstituted_3 :
    (let u := zA.advance 0; tfind? u.riari.subs 63 = none) ∧
    (let u := (zA.fset F.SUBCFG_AUTO 0 0 0).advance 0; let p := u.fget F.LTMAP_PHYS 0 63; let may := u.fget F.SUBCFG_AUTO 0 0 = 1 ∧ (u.dev = DevState.standby ∨ u.dev = DevState.armed ∨ u.dev = DevState.running) ∧ u.ltPend 63 = false ∧ tfind? u.riari.subs 63 = none ∧ 63 ∉ u.riari.outs ∧ u.fget F.PTSTAT_STATE 0 p = 0; (¬may)) ∧
    (let u := (auto zA).advance 0; let p := u.fget F.LTMAP_PHYS 0 63; let may := u.fget F.SUBCFG_AUTO 0 0 = 1 ∧ (u.dev = DevState.standby ∨ u.dev = DevState.armed ∨ u.dev = DevState.running) ∧ u.ltPend 63 = false ∧ tfind? u.riari.subs 63 = none ∧ 63 ∉ u.riari.outs ∧ u.fget F.PTSTAT_STATE 0 p = 0; may ∧ u.tileIsolated 63 = false ∧ (u.fget F.SPECC_UNC 63 0 < 16 ∨ ∀ k < 68, u.fget F.PTSTAT_STATE 0 k ≠ 1)) ∧
    (let u := (noSpare (unc 63 (auto zA))).advance 0; let p := u.fget F.LTMAP_PHYS 0 63; let may := u.fget F.SUBCFG_AUTO 0 0 = 1 ∧ (u.dev = DevState.standby ∨ u.dev = DevState.armed ∨ u.dev = DevState.running) ∧ u.ltPend 63 = false ∧ tfind? u.riari.subs 63 = none ∧ 63 ∉ u.riari.outs ∧ u.fget F.PTSTAT_STATE 0 p = 0; may ∧ u.tileIsolated 63 = false ∧ (u.fget F.SPECC_UNC 63 0 < 16 ∨ ∀ k < 68, u.fget F.PTSTAT_STATE 0 k ≠ 1)) ∧
    (let u := (unc 63 (auto zA)).advance 0; let p := u.fget F.LTMAP_PHYS 0 63; let may := u.fget F.SUBCFG_AUTO 0 0 = 1 ∧ (u.dev = DevState.standby ∨ u.dev = DevState.armed ∨ u.dev = DevState.running) ∧ u.ltPend 63 = false ∧ tfind? u.riari.subs 63 = none ∧ 63 ∉ u.riari.outs ∧ u.fget F.PTSTAT_STATE 0 p = 0; let lowest := fun k => k < 68 ∧ u.fget F.PTSTAT_STATE 0 k = 1 ∧ ∀ j < k, u.fget F.PTSTAT_STATE 0 j ≠ 1; may ∧ u.tileIsolated 63 = false ∧ 16 ≤ u.fget F.SPECC_UNC 63 0 ∧ lowest 64) ∧
    (let u := (isol 63 (auto zA)).advance 0; let p := u.fget F.LTMAP_PHYS 0 63; let may := u.fget F.SUBCFG_AUTO 0 0 = 1 ∧ (u.dev = DevState.standby ∨ u.dev = DevState.armed ∨ u.dev = DevState.running) ∧ u.ltPend 63 = false ∧ tfind? u.riari.subs 63 = none ∧ 63 ∉ u.riari.outs ∧ u.fget F.PTSTAT_STATE 0 p = 0; let lowest := fun k => k < 68 ∧ u.fget F.PTSTAT_STATE 0 k = 1 ∧ ∀ j < k, u.fget F.PTSTAT_STATE 0 j ≠ 1; may ∧ u.tileIsolated 63 = true ∧ lowest 64 ∧ (∀ c ∈ u.ctxs, c.2.st = 1 → c.2.tileset.testBit 63 = false) ∧ (∀ e ∈ u.lanes, e.2.st = LState.active → u.laneTile e.1 ≠ some 63 ∧ u.laneFrom 63 e.1 = false)) ∧
    (let u := (noSpare (isol 63 (auto (unw zA)))).advance 0; let p := u.fget F.LTMAP_PHYS 0 63; let may := u.fget F.SUBCFG_AUTO 0 0 = 1 ∧ (u.dev = DevState.standby ∨ u.dev = DevState.armed ∨ u.dev = DevState.running) ∧ u.ltPend 63 = false ∧ tfind? u.riari.subs 63 = none ∧ 63 ∉ u.riari.outs ∧ u.fget F.PTSTAT_STATE 0 p = 0; may ∧ u.tileIsolated 63 = true ∧ (∀ k < 68, u.fget F.PTSTAT_STATE 0 k ≠ 1) ∧ u.Unwatched ∧ u.Shown) :=
  ⟨(by decide +kernel),
   (by decide +kernel),
   ⟨by decide +kernel, by decide +kernel, by decide +kernel⟩,
   ⟨by decide +kernel, by decide +kernel, by decide +kernel⟩,
   ⟨by decide +kernel, by decide +kernel, by decide +kernel, by decide +kernel⟩,
   ⟨by decide +kernel, by decide +kernel, by decide +kernel, by decide +kernel, by decide +kernel⟩,
   ⟨by decide +kernel, by decide +kernel, by decide +kernel, ⟨by decide +kernel, by decide +kernel⟩, by unfold State.Shown; decide +kernel⟩⟩

end W25
end Sys2Proof.Tests
end

