-- ==== Sys2Proof/Tests/W26.lean ====
section
/-! SUPPORT. States that meet the hypotheses of: PowerAndResetMoveTheDevice. -/
set_option Elab.async false
open Sys2Proof Sys2Proof.Machine
namespace Sys2Proof.Tests
namespace W26
def ses : Session := { sid := 5, port := 1, src := 77, udp := 9, level := 1, opened := true, key := [1, 2], nc := [3], chal := List.replicate 225 4, start := 1000, lastSeq := 2 ^ 32 - 1, reply := [9, 9], lastMsg := 999, mask := wd (2 ^ 64 - 1), eseq := 65535, recs := [⟨1, 65533, 0, 2, 3⟩, ⟨1, 65534, 0, 2, 3⟩], lost := 0, xfer := none, hbAt := 3 }
def ses2 : Session := { ses with sid := 6, recs := [], lastSeq := 4 }
def zA : State := let z := { strand 0 { wth [] with pc := 7 } with now := 200000000, dev := .standby, hostp := { HostPort.rst with hrdy := true } }
  { z with ak := { z.ak with sessions := [ses2, ses] } }
def withX (x : Session) (s : State) : State := { s with ak := { s.ak with sessions := [ses2, x] } }
def msg (b : List Byte) : AkMsg := ⟨1, 77, 9, b⟩
def say (x : Session) (mt seq : Nat) (p : List Byte) : AkMsg := msg (x.says mt 1 seq p)
def shut : Session := { ses with opened := false, start := 199999999 }
def cmdM (x : Session) (code : Nat) (a : List Nat) : AkMsg := say x 0x20 x.next (cmdBytes code a)
def dv (d : DevState) (s : State) : State := { s with dev := d }
def unw (s : State) : State := { s with ak := { s.ak with sessions := [] } }
def el (f : Elec → Elec) (s : State) : State := { s with elec := f s.elec }
def hot (n : Nat) (s : State) : State := s.fset F.TEMPSTAT_TJ 0 0 n
def low (s : State) : State := { s with hostp := { s.hostp with hrdy := false } }
def zP : State := { dv .running (((zA.fset F.TEMPSTAT_TRIPPED 0 0 1).fset F.UPDSTAT_ACTSLOT 0 0 1).fset F.UPDSTAT_PREF 0 0 1) with degraded := true, ak := { zA.ak with replreq := true, replreason := 3, name := [1] }, tiles := [(0, { Tile.rst with cells := [(3, ⟨5, false⟩)] })] }
def keelOff : State := { el (fun e => { e with keel := false, v12 := none }) (dv .reset zA) with now := 5 }
def v12 (o : Option Nat) (s : State) : State := el (fun e => { e with keel := true, v12 := o }) s
def boot : State := low <| unw (dv .boot { zA with riari := { zA.riari with lmsRec := 77 } })
def ret (l : List (Nat × Nat × Nat)) (s : State) : State := { s with riari := { s.riari with retired := l } }
def mapd (o : Option Nat) (s : State) : State := { s with riari := { s.riari with mapped := o } }
def trial (n : Nat) (s : State) : State := { s with riari := { s.riari with trial := some n } }
def lnk (s : State) : State := { (s.fset F.CLSTAT_STATE 0 3 3).fset F.FLSTAT_STATE 0 2 1 with links := [(.catch_ 3, { Link.rst with rxCount := 3 }), (.fabric 3, { Link.rst with rxCount := 3 })] }

theorem witness_PowerAndResetMoveTheDevice_1 :
    (let u := keelOff.advance 0; let e := u.elec; e.keel = false) ∧
    (let u := (v12 (some 300000000) (el (fun e => { e with trip := 1 }) zP)).advance 7; let e := u.elec; e.keel = true ∧ u.dev ≠ DevState.reset) ∧
    (let u := (v12 (some 3) (el (fun e => { e with trip := 1 }) (low (dv DevState.reset zP)))).advance 0; let e := u.elec; e.keel = true ∧ u.dev = DevState.reset ∧ u.Shown) ∧
    (let u := (v12 (some 3) zP).advance 0; let e := u.elec; e.keel = true ∧ u.dev ≠ DevState.reset) ∧
    (let u := (v12 (some 3) (dv DevState.reset zP)).advance 0; let e := u.elec; e.keel = true ∧ u.dev = DevState.reset) ∧
    (let u := (v12 none (dv DevState.reset zP)).advance 0; let e := u.elec; e.v12 = none ∧ e.keel = true) ∧
    (let u := (v12 (some 4) zP).advance 0; let e := u.elec; (e.v12 ≠ none ∨ e.keel = false)) ∧
    (let u := (v12 none (el (fun e => { e with brown := true }) (dv DevState.reset zP))).advance 0; let e := u.elec; e.keel = true ∧ e.v12 = none) :=
  ⟨(by decide +kernel),
   ⟨by decide +kernel, by decide +kernel⟩,
   ⟨by decide +kernel, by decide +kernel, by unfold State.Shown; decide +kernel⟩,
   ⟨by decide +kernel, by decide +kernel⟩,
   ⟨by decide +kernel, by decide +kernel⟩,
   ⟨by decide +kernel, by decide +kernel⟩,
   (by decide +kernel),
   ⟨by decide +kernel, by decide +kernel⟩⟩

theorem witness_PowerAndResetMoveTheDevice_2 :
    (let u := (v12 (some 3) zP).advance 0; let e := u.elec; e.keel = true ∧ e.v12 ≠ none) ∧
    (let u := (hot 118 (v12 (some 3) zP)).advance 0; let e := u.elec; e.keel = true ∧ (118 : ℤ) ≤ u.tj ∧ u.dev ≠ DevState.reset) ∧
    (let u := (hot 118 (v12 (some 3) (dv DevState.reset zP))).advance 0; let e := u.elec; e.keel = true ∧ (118 : ℤ) ≤ u.tj ∧ u.dev = DevState.reset) ∧
    (let u := (hot 117 (v12 (some 3) zP)).advance 0; let e := u.elec; (e.keel = false ∨ u.tj < (118 : ℤ))) ∧
    (let u := ({ low (v12 (some 200000000) (dv DevState.reset zA)) with now := 200000000 }).advance 0; let e := u.elec; let good := u.dev = DevState.reset ∧ e.keel = true ∧ e.porst = false ∧ e.trip = 0 ∧ 3200000 ≤ u.now ∧ ∃ d, e.v12 = some d ∧ d ≤ u.now; good ∧ u.Shown) ∧
    (let u := (v12 (some 200000001) (dv DevState.reset zA)).advance 0; let e := u.elec; let good := u.dev = DevState.reset ∧ e.keel = true ∧ e.porst = false ∧ e.trip = 0 ∧ 3200000 ≤ u.now ∧ ∃ d, e.v12 = some d ∧ d ≤ u.now; (¬good)) ∧
    (let u := (v12 (some 3) zP).advance 0; let e := u.elec; e.keel = true ∧ (127 : ℤ) ∈ [(-3 : ℤ), (127 : ℤ), (5 : ℤ)] ∧ (∀ x ∈ [(-3 : ℤ), (127 : ℤ), (5 : ℤ)], x ≤ (127 : ℤ)) ∧ (-128 : ℤ) ≤ (127 : ℤ) ∧ (127 : ℤ) ≤ (127 : ℤ) ∧ (-125 : ℤ) ≤ (124 : ℤ) ∧ (124 : ℤ) ≤ (124 : ℤ)) ∧
    (let u := (v12 (some 3) zP).advance 0; let e := u.elec; e.keel = true ∧ (-128 : ℤ) ∈ [(-128 : ℤ)] ∧ (∀ x ∈ [(-128 : ℤ)], x ≤ (-128 : ℤ)) ∧ (-128 : ℤ) ≤ (-128 : ℤ) ∧ (-128 : ℤ) ≤ (127 : ℤ) ∧ (-125 : ℤ) ≤ (-125 : ℤ) ∧ (-125 : ℤ) ≤ (124 : ℤ)) :=
  ⟨⟨by decide +kernel, by decide +kernel⟩,
   ⟨by decide +kernel, by decide +kernel, by decide +kernel⟩,
   ⟨by decide +kernel, by decide +kernel, by decide +kernel⟩,
   (by decide +kernel),
   ⟨by decide +kernel, by unfold State.Shown; decide +kernel⟩,
   (by decide +kernel),
   ⟨by decide +kernel, by decide +kernel, by decide +kernel, by decide +kernel, by decide +kernel, by decide +kernel, by decide +kernel⟩,
   ⟨by decide +kernel, by decide +kernel, by decide +kernel, by decide +kernel, by decide +kernel, by decide +kernel, by decide +kernel⟩⟩

theorem witness_PowerAndResetMoveTheDevice_3 :
    (let u := (v12 (some 3) (zP.fset F.REFSTAT_SEL 0 0 1)).advance 0; let e := u.elec; let live := e.keel = true ∧ u.dev ≠ DevState.reset; live) ∧
    (let u := keelOff.advance 0; let e := u.elec; let live := e.keel = true ∧ u.dev ≠ DevState.reset; (¬live)) ∧
    (let u := zA.advance 0; u.dev ≠ DevState.boot) ∧
    (let u := boot.advance 0; let pref := u.fget F.UPDSTAT_PREF 0 0; let trial := u.riari.trial = some 0; u.dev = DevState.boot ∧ u.Unwatched ∧ u.Shown ∧ u.ak.replreq = false ∧ u.riari.lmsRec + 2 ^ 20 ≤ 2 ^ 40 ∧ u.riari.retired = [] ∧ u.riari.mapped = none ∧ (0 = pref ∨ trial)) ∧
    (let u := (W26.trial 1 boot).advance 0; let pref := u.fget F.UPDSTAT_PREF 0 0; let trial := u.riari.trial = some 1; u.dev = DevState.boot ∧ u.Unwatched ∧ u.Shown ∧ u.ak.replreq = false ∧ u.riari.lmsRec + 2 ^ 20 ≤ 2 ^ 40 ∧ u.riari.retired = [] ∧ u.riari.mapped = none ∧ (1 = pref ∨ trial)) ∧
    (let u := boot.advance 0; let pref := u.fget F.UPDSTAT_PREF 0 0; let trial := u.riari.trial = some 1; u.dev = DevState.boot ∧ u.Unwatched ∧ u.Shown ∧ u.ak.replreq = false ∧ u.riari.lmsRec + 2 ^ 20 ≤ 2 ^ 40 ∧ 1 ≠ pref ∧ (¬trial)) ∧
    (let u := (ret [(63, 63, 67)] boot).advance 0; u.dev = DevState.boot ∧ u.Unwatched ∧ u.Shown ∧ u.ak.replreq = false ∧ u.riari.lmsRec + 2 ^ 20 ≤ 2 ^ 40 ∧ 63 < 64 ∧ u.riari.retired = [(63, 63, 67)] ∧ 67 < 68 ∧ 67 ≠ u.physOf 63) ∧
    (let u := (mapd (some 31) boot).advance 0; u.dev = DevState.boot ∧ u.Unwatched ∧ u.Shown ∧ u.ak.replreq = false ∧ u.riari.lmsRec + 2 ^ 20 ≤ 2 ^ 40 ∧ 31 < 32 ∧ u.riari.mapped = some 31) :=
  ⟨(by decide +kernel),
   (by decide +kernel),
   (by decide +kernel),
   ⟨by decide +kernel, ⟨by decide +kernel, by decide +kernel⟩, by unfold State.Shown; decide +kernel, by decide +kernel, by decide +kernel, by decide +kernel, by decide +kernel, by decide +kernel⟩,
   ⟨by decide +kernel, ⟨by decide +kernel, by decide +kernel⟩, by unfold State.Shown; decide +kernel, by decide +kernel, by decide +kernel, by decide +kernel, by decide +kernel, by decide +kernel⟩,
   ⟨by decide +kernel, ⟨by decide +kernel, by decide +kernel⟩, by unfold State.Shown; decide +kernel, by decide +kernel, by decide +kernel, by decide +kernel, by decide +kernel⟩,
   ⟨by decide +kernel, ⟨by decide +kernel, by decide +kernel⟩, by unfold State.Shown; decide +kernel, by decide +kernel, by decide +kernel, by decide +kernel, by decide +kernel, by decide +kernel, by decide +kernel⟩,
   ⟨by decide +kernel, ⟨by decide +kernel, by decide +kernel⟩, by unfold State.Shown; decide +kernel, by decide +kernel, by decide +kernel, by decide +kernel, by decide +kernel⟩⟩

theorem witness_PowerAndResetMoveTheDevice_4 :
    (let u := (lnk (unw zA)).advance 0; let may := if FatalCause.ecc = FatalCause.boot then u.dev = DevState.boot else u.dev ≠ DevState.reset ∧ u.dev ≠ DevState.fault; may ∧ u.Unwatched ∧ u.Shown) ∧
    (let u := boot.advance 0; let may := if FatalCause.boot = FatalCause.boot then u.dev = DevState.boot else u.dev ≠ DevState.reset ∧ u.dev ≠ DevState.fault; may ∧ u.Unwatched ∧ u.Shown) ∧
    (let u := zA.advance 0; let may := if FatalCause.boot = FatalCause.boot then u.dev = DevState.boot else u.dev ≠ DevState.reset ∧ u.dev ≠ DevState.fault; (¬may)) :=
  ⟨⟨by decide +kernel, ⟨by decide +kernel, by decide +kernel⟩, by unfold State.Shown; decide +kernel⟩,
   ⟨by decide +kernel, ⟨by decide +kernel, by decide +kernel⟩, by unfold State.Shown; decide +kernel⟩,
   (by decide +kernel)⟩

end W26
end Sys2Proof.Tests
end

