-- ==== Sys2Proof/Tests/W27.lean ====
section
/-! SUPPORT. States that meet the hypotheses of: HostPortServesItsHost. -/
set_option Elab.async false
open Sys2Proof Sys2Proof.Machine
namespace Sys2Proof.Tests
namespace W27
def ses : Session := { sid := 5, port := 1, src := 77, udp := 9, level := 1, opened := true, key := [1, 2], nc := [3], chal := List.replicate 225 4, start := 1000, lastSeq := 2 ^ 32 - 1, reply := [9, 9], lastMsg := 999, mask := wd (2 ^ 64 - 1), eseq := 65535, recs := [⟨1, 65533, 0, 2, 3⟩, ⟨1, 65534, 0, 2, 3⟩], lost := 0, xfer := none, hbAt := 3 }
def ses2 : Session := { ses with sid := 6, recs := [], lastSeq := 4 }
def zA : State := let z := { strand 0 { wth [] with pc := 7 } with now := 200000000, dev := .standby, hostp := { HostPort.rst with hrdy := true } }
  { z with ak := { z.ak with sessions := [ses2, ses] } }
def withX (x : Session) (s : State) : State := { s with ak := { s.ak with sessions := [ses2, x] } }
def msg (b : List Byte) : AkMsg := ⟨1, 77, 9, b⟩
def say (x : Session) (mt seq : Nat) (p : List Byte) : AkMsg := msg (x.says mt 1 seq p)
def shut : Session := { ses with opened := false, start := 199999999 }
def cmdM (x : Session) (code : Nat) (a : List Nat) : AkMsg := say x 0x20 x.next (cmdBytes code a)
def dv (d : DevState) (s : State) : State := { s with dev := d }
def unw (s : State) : State := { s with ak := { s.ak with sessions := [] } }
def hip (s : State) : State := { s with ak := { s.ak with hostpriv := 1 } }
def lowp (s : State) : State := { s with ak := { s.ak with hostpriv := 0 } }
def ring (r dir : Nat) (s : State) : State := (((s.fset F.RCFG_EN 0 r 1).fset F.RCFG_DIR 0 r dir).fset F.RHEAD_HEAD 0 r (2 ^ 32 - 1)).fset F.RTAIL_TAIL 0 r 1
def noInt (r : Nat) (s : State) : State := s.fset F.RCFG_IEN 0 r 0
def pre (p : Bool) (s : State) : State := { s with hostp := { s.hostp with perst := p } }
def xf (s : State) : State := { s with hostp := { s.hostp with xfer := some ⟨1, 2, true, 3, 4, []⟩ } }
def rq (ix sub : Nat) : List Byte := toBytes 2 ix ++ toBytes 1 sub ++ toBytes 1 0
def tk (tile cls : Nat) : Token := ⟨wd (tile * 2 ^ 42 + cls * 2 ^ 8), wd (0xFFFF * 2 ^ 48), 5, 6⟩
def mb (s : State) : State := { s with mbx := [(511, wd 0x1122334455667788)] }
def full (s : State) : State := s.fset F.DRSTAT_DSIZE 0 0 56
def att (s : State) : State := { s.fset F.HPCTL_ATTNEN 0 0 1 with hostp := { s.hostp with attnDue := true, attnLast := some (s.now - 8000) } }
def pls (s : State) : State := { s with hostp := { s.hostp with pulse := true, hrdy := false, attnLast := some (s.now - 1600) } }
def locked (s : State) : State := { s with tiles := [(0, { Tile.rst with cells := [(3, ⟨0xC00, false⟩), (4, ⟨7, false⟩)] }), (5, { Tile.rst with cells := [(3, ⟨0xC00, false⟩), (4, ⟨7, false⟩)] })] }.fset F.LKGCFG_MODE 5 0 1 
def unl (b : Bool) (s : State) : State := { s with ak := { s.ak with dbgUnlock := b } }
def bsy (s : State) : State := s.fset F.DAPSTAT_BUSY 0 0 1

theorem witness_HostPortServesItsHost_1 :
    (let u := zA.advance 0; let ready := u.serving = true ∧ u.hostp.perst = false ∧ u.fget F.RCFG_EN 0 0 = 1 ∧ u.ringUsed 0 ≠ 0; (¬ready)) ∧
    (let u := (ring 0 0 zA).advance 0; let ready := u.serving = true ∧ u.hostp.perst = false ∧ u.fget F.RCFG_EN 0 0 = 1 ∧ u.ringUsed 0 ≠ 0; ready ∧ entryOk [] = false) ∧
    (let u := (ring 0 0 zA).advance 0; let ready := u.serving = true ∧ u.hostp.perst = false ∧ u.fget F.RCFG_EN 0 0 = 1 ∧ u.ringUsed 0 ≠ 0; let known := 48 = 16 ∨ 48 = 17 ∨ 48 = 18 ∨ 48 = 19 ∨ 48 = 32; ready ∧ 1 < 2 ∧ 2 ^ 32 - 1 < 2 ^ 32 ∧ [(1 : Byte)].length ≤ 1440 ∧ 48 < 256 ∧ (¬known)) ∧
    (let u := (xf (ring 0 0 zA)).advance 0; let ready := u.serving = true ∧ u.hostp.perst = false ∧ u.fget F.RCFG_EN 0 0 = 1 ∧ u.ringUsed 0 ≠ 0; ready ∧ 1 < 2 ∧ 2 ^ 32 - 1 < 2 ^ 32 ∧ (rq 20479 1).length ≤ 1440 ∧ 20479 < 65536 ∧ 1 < 256 ∧ 16 = 16 ∧ rq 20479 1 = toBytes 2 20479 ++ toBytes 1 1 ++ toBytes 1 0 ∧ 20479 < 61440 ∧ u.dictIndex 20479 = []) ∧
    (let u := (ring 0 0 zA).advance 0; let ready := u.serving = true ∧ u.hostp.perst = false ∧ u.fget F.RCFG_EN 0 0 = 1 ∧ u.ringUsed 0 ≠ 0; ready ∧ 1 < 2 ∧ 2 ^ 32 - 1 < 2 ^ 32 ∧ (rq 4096 1).length ≤ 1440 ∧ 4096 < 65536 ∧ 1 < 256 ∧ 16 = 16 ∧ rq 4096 1 = toBytes 2 4096 ++ toBytes 1 1 ++ toBytes 1 0 ∧ 4096 < 61440 ∧ 0 < 1 ∧ (u.dictIndex 4096)[1 - 1]? = some (oget ((zA.advance 0).dictIndex 4096)[0]?) ∧ (oget ((zA.advance 0).dictIndex 4096)[0]?).priv ≤ u.ak.hostpriv ∧ (oget ((zA.advance 0).dictIndex 4096)[0]?).acc ≠ Acc.wo ∧ (oget ((zA.advance 0).dictIndex 4096)[0]?).src = DictSrc.val (match (oget ((zA.advance 0).dictIndex 4096)[0]?).src with | DictSrc.val v => v | x => [])) ∧
    (let u := (noInt 0 (ring 0 0 zA)).advance 0; let ready := u.serving = true ∧ u.hostp.perst = false ∧ u.fget F.RCFG_EN 0 0 = 1 ∧ u.ringUsed 0 ≠ 0; ready ∧ 1 < 2 ∧ 2 ^ 32 - 1 < 2 ^ 32 ∧ (cmdBytes 48 [2 ^ 64 - 1]).length ≤ 1440 ∧ 2 ^ 64 - 1 < 2 ^ 64 ∧ 32 = 32 ∧ cmdBytes 48 [2 ^ 64 - 1] = cmdBytes 48 [2 ^ 64 - 1]) ∧
    (let u := (noInt 0 (hip (ring 0 0 zA))).advance 0; let ready := u.serving = true ∧ u.hostp.perst = false ∧ u.fget F.RCFG_EN 0 0 = 1 ∧ u.ringUsed 0 ≠ 0; ready ∧ 1 < 2 ∧ 2 ^ 32 - 1 < 2 ^ 32 ∧ (cmdBytes 1 []).length ≤ 1440 ∧ 32 = 32 ∧ cmdBytes 1 [] = cmdBytes 1 [] ∧ 1 ≤ u.ak.hostpriv) ∧
    (let u := (noInt 0 (lowp (ring 0 0 zA))).advance 0; let ready := u.serving = true ∧ u.hostp.perst = false ∧ u.fget F.RCFG_EN 0 0 = 1 ∧ u.ringUsed 0 ≠ 0; ready ∧ 1 < 2 ∧ 2 ^ 32 - 1 < 2 ^ 32 ∧ (cmdBytes 1 []).length ≤ 1440 ∧ 32 = 32 ∧ cmdBytes 1 [] = cmdBytes 1 [] ∧ u.ak.hostpriv = 0) :=
  ⟨(by decide),
   ⟨by decide, by decide⟩,
   ⟨by decide, by decide, by decide, by decide, by decide, by decide⟩,
   ⟨by decide, by decide, by decide, by decide, by decide, by decide, by decide, by decide, by decide, by decide⟩,
   ⟨by decide, by decide, by decide, by decide, by decide, by decide, by decide, by decide, by decide, by decide, by decide, by decide, by decide, by decide⟩,
   ⟨by decide, by decide, by decide, by decide, by decide, by decide, by decide⟩,
   ⟨by decide, by decide, by decide, by decide, by decide, by decide, by decide⟩,
   ⟨by decide, by decide, by decide, by decide, by decide, by decide, by decide⟩⟩

theorem witness_HostPortServesItsHost_2 :
    (let u := (ring 17 0 zA).advance 0; let r := 2 + 15; let ready := u.fget F.RCFG_EN 0 r = 1 ∧ u.ringUsed r ≠ 0 ∧ u.fget F.RCFG_DIR 0 r = 1; (¬ready)) ∧
    (let u := (unw (ring 17 1 zA)).advance 0; let r := 2 + 15; let ready := u.fget F.RCFG_EN 0 r = 1 ∧ u.ringUsed r ≠ 0 ∧ u.fget F.RCFG_DIR 0 r = 1; let bad := ({ tk 63 2 with tag := (4 : Word) }).ord = true ∨ ({ tk 63 2 with tag := (4 : Word) }).fault = true ∨ ({ tk 63 2 with tag := (4 : Word) }).sticky = true ∨ ({ tk 63 2 with tag := (4 : Word) }).rsvd = true; ready ∧ bad ∧ u.Unwatched) ∧
    (let u := (ring 17 1 zA).advance 0; let r := 2 + 15; let ready := u.fget F.RCFG_EN 0 r = 1 ∧ u.ringUsed r ≠ 0 ∧ u.fget F.RCFG_DIR 0 r = 1; let bad := (tk 63 2).ord = true ∨ (tk 63 2).fault = true ∨ (tk 63 2).sticky = true ∨ (tk 63 2).rsvd = true; let dest := u.routeTok 32 (TokTo.node (tk 63 2).tile) (tk 63 2); let q := mkPacket 0 ((tk 63 2).cls + 1) (u.siteOf dest).1 (u.siteOf dest).2 32 true 1 (Payload.tok (tk 63 2) dest 0); ready ∧ (¬bad) ∧ (∀ (g : ℕ), dest = TokTo.fabric g → u.devnum ≠ 65535) ∧ u.freeWay 32 true q) ∧
    (let u := (ring 2 1 zA).advance 0; let r := 2 + 0; let ready := u.fget F.RCFG_EN 0 r = 1 ∧ u.ringUsed r ≠ 0 ∧ u.fget F.RCFG_DIR 0 r = 1; let bad := (tk 0 3).ord = true ∨ (tk 0 3).fault = true ∨ (tk 0 3).sticky = true ∨ (tk 0 3).rsvd = true; let dest := u.routeTok 32 (TokTo.node (tk 0 3).tile) (tk 0 3); let q := mkPacket 0 ((tk 0 3).cls + 1) (u.siteOf dest).1 (u.siteOf dest).2 32 true 1 (Payload.tok (tk 0 3) dest 0); ready ∧ (¬bad) ∧ (∀ (g : ℕ), dest = TokTo.fabric g → u.devnum ≠ 65535) ∧ u.freeWay 32 true q) ∧
    (let u := (pre true zA).advance 0; let up := u.hostp.perst = false ∧ u.dev ≠ DevState.reset; (¬up)) ∧
    (let u := zA.advance 0; let size := 7 + 1; let atomic := ∃ v, BarOp.add 3 = BarOp.add v ∨ BarOp.add 3 = BarOp.swap v; let up := u.hostp.perst = false ∧ u.dev ≠ DevState.reset; up ∧ atomic ∧ (¬(4 % 8 = 0 ∧ size = 8))) ∧
    (let u := zA.advance 0; let size := 4 + 1; let atomic := ∃ v, BarOp.read = BarOp.add v ∨ BarOp.read = BarOp.swap v; let up := u.hostp.perst = false ∧ u.dev ≠ DevState.reset; up ∧ (¬atomic ∨ 4092 % 8 = 0 ∧ size = 8) ∧ (4096 < 4092 + size ∨ 8 < 4092 % 8 + size)) ∧
    (let u := (mb zA).advance 0; let size := 5 + 1; let atomic := ∃ v, BarOp.read = BarOp.add v ∨ BarOp.read = BarOp.swap v; let up := u.hostp.perst = false ∧ u.dev ≠ DevState.reset; up ∧ (¬atomic ∨ 4090 % 8 = 0 ∧ size = 8) ∧ 4090 + size ≤ 4096 ∧ 4090 % 8 + size ≤ 8 ∧ BarOp.read = BarOp.read) :=
  ⟨(by decide),
   ⟨by decide, by decide, ⟨by decide, by decide⟩⟩,
   ⟨by decide, by decide, fun g h => absurd (isFabric_of h) (by decide), by unfold State.freeWay; decide⟩,
   ⟨by decide, by decide, fun g h => absurd (isFabric_of h) (by decide), by unfold State.freeWay; decide⟩,
   (by decide),
   ⟨by decide, ⟨_, .inl rfl⟩, by decide⟩,
   ⟨by decide, by first | exact .inr (by decide) | exact .inl (fun ⟨_, h⟩ => h.elim nofun nofun), by decide⟩,
   ⟨by decide, by first | exact .inr (by decide) | exact .inl (fun ⟨_, h⟩ => h.elim nofun nofun), by decide, by decide, by decide⟩⟩

theorem witness_HostPortServesItsHost_3 :
    (let u := (mb zA).advance 0; let size := 5 + 1; let atomic := ∃ v, BarOp.write 9007199254740991 = BarOp.add v ∨ BarOp.write 9007199254740991 = BarOp.swap v; let up := u.hostp.perst = false ∧ u.dev ≠ DevState.reset; up ∧ (¬atomic ∨ 4090 % 8 = 0 ∧ size = 8) ∧ 4090 + size ≤ 4096 ∧ 4090 % 8 + size ≤ 8 ∧ BarOp.write 9007199254740991 = BarOp.write 9007199254740991) ∧
    (let u := (mb zA).advance 0; let size := 7 + 1; let atomic := ∃ v, BarOp.add 18446744073709551615 = BarOp.add v ∨ BarOp.add 18446744073709551615 = BarOp.swap v; let up := u.hostp.perst = false ∧ u.dev ≠ DevState.reset; up ∧ (¬atomic ∨ 4088 % 8 = 0 ∧ size = 8) ∧ 4088 + size ≤ 4096 ∧ 4088 % 8 + size ≤ 8 ∧ BarOp.add 18446744073709551615 = BarOp.add 18446744073709551615) ∧
    (let u := (mb zA).advance 0; let size := 7 + 1; let atomic := ∃ v, BarOp.swap 3 = BarOp.add v ∨ BarOp.swap 3 = BarOp.swap v; let up := u.hostp.perst = false ∧ u.dev ≠ DevState.reset; up ∧ (¬atomic ∨ 0 % 8 = 0 ∧ size = 8) ∧ 0 + size ≤ 4096 ∧ 0 % 8 + size ≤ 8 ∧ BarOp.swap 3 = BarOp.swap 3) ∧
    (let u := zA.advance 0; let size := 3 + 1; let atomic := ∃ v, BarOp.read = BarOp.add v ∨ BarOp.read = BarOp.swap v; let up := u.hostp.perst = false ∧ u.dev ≠ DevState.reset; up ∧ (¬atomic ∨ 8 % 8 = 0 ∧ size = 8) ∧ 8 < 65536 ∧ (¬(8 % 8 = 0 ∧ size = 8))) ∧
    (let u := zA.advance 0; let size := 7 + 1; let atomic := ∃ v, BarOp.read = BarOp.add v ∨ BarOp.read = BarOp.swap v; let up := u.hostp.perst = false ∧ u.dev ≠ DevState.reset; up ∧ (¬atomic ∨ 0 % 8 = 0 ∧ size = 8) ∧ 0 % 8 = 0 ∧ size = 8 ∧ hostKind RegKind.HPSTAT = true ∧ regExists RegKind.HPSTAT 0 0 ∧ regAddr RegKind.HPSTAT 0 0 = 2199024828416 + 0 ∧ BarOp.read = BarOp.read) ∧
    (let u := zA.advance 0; let size := 7 + 1; let atomic := ∃ v, BarOp.write 281474959933440 = BarOp.add v ∨ BarOp.write 281474959933440 = BarOp.swap v; let up := u.hostp.perst = false ∧ u.dev ≠ DevState.reset; up ∧ (¬atomic ∨ 16 % 8 = 0 ∧ size = 8) ∧ 16 % 8 = 0 ∧ size = 8 ∧ hostKind RegKind.APBASE = true ∧ regExists RegKind.APBASE 0 0 ∧ regAddr RegKind.APBASE 0 0 = 2199024828416 + 16 ∧ BarOp.write 281474959933440 = BarOp.write 281474959933440 ∧ RegKind.APBASE ∉ ruledRegs ∧ u.Passes Req.host RegKind.APBASE 0 0 (BitVec.ofNat 64 281474959933440)) ∧
    (let u := zA.advance 0; let size := 1 + 1; let atomic := ∃ v, BarOp.read = BarOp.add v ∨ BarOp.read = BarOp.swap v; let up := u.hostp.perst = false ∧ u.dev ≠ DevState.reset; up ∧ (¬atomic ∨ 68719476735 % 8 = 0 ∧ size = 8) ∧ 68719476736 < 68719476735 + size) ∧
    (let u := zA.advance 0; let size := 7 + 1; let atomic := ∃ v, BarOp.read = BarOp.add v ∨ BarOp.read = BarOp.swap v; let up := u.hostp.perst = false ∧ u.dev ≠ DevState.reset; up ∧ (¬atomic ∨ 68719476728 % 8 = 0 ∧ size = 8) ∧ u.dsize ≤ 68719476728 ∧ 68719476728 + size ≤ 68719476736) :=
  ⟨⟨by decide, by first | exact .inr (by decide) | exact .inl (fun ⟨_, h⟩ => h.elim nofun nofun), by decide, by decide, by decide⟩,
   ⟨by decide, by first | exact .inr (by decide) | exact .inl (fun ⟨_, h⟩ => h.elim nofun nofun), by decide, by decide, by decide⟩,
   ⟨by decide, by first | exact .inr (by decide) | exact .inl (fun ⟨_, h⟩ => h.elim nofun nofun), by decide, by decide, by decide⟩,
   ⟨by decide, by first | exact .inr (by decide) | exact .inl (fun ⟨_, h⟩ => h.elim nofun nofun), by decide, by decide⟩,
   ⟨by decide, by first | exact .inr (by decide) | exact .inl (fun ⟨_, h⟩ => h.elim nofun nofun), by decide, by decide, by decide, by unfold regExists; decide, by decide, by decide⟩,
   ⟨by decide, by first | exact .inr (by decide) | exact .inl (fun ⟨_, h⟩ => h.elim nofun nofun), by decide, by decide, by decide, by unfold regExists; decide, by decide, by decide, by decide, ⟨by decide, by decide, by decide, by decide, by decide, by decide⟩⟩,
   ⟨by decide, by first | exact .inr (by decide) | exact .inl (fun ⟨_, h⟩ => h.elim nofun nofun), by decide⟩,
   ⟨by decide, by first | exact .inr (by decide) | exact .inl (fun ⟨_, h⟩ => h.elim nofun nofun), by decide, by decide⟩⟩

theorem witness_HostPortServesItsHost_4 :
    (let u := (full zA).advance 0; let size := 7 + 1; let atomic := ∃ v, BarOp.read = BarOp.add v ∨ BarOp.read = BarOp.swap v; let up := u.hostp.perst = false ∧ u.dev ≠ DevState.reset; up ∧ (¬atomic ∨ 252 % 8 = 0 ∧ size = 8) ∧ 252 + size ≤ u.dsize ∧ u.dsize ≤ 68719476736 ∧ u.accessFault Req.host 252 size (decide (BarOp.read ≠ BarOp.read)) = none) ∧
    (let u := (full zA).advance 0; let size := 2 + 1; let atomic := ∃ v, BarOp.write 68719476735 = BarOp.add v ∨ BarOp.write 68719476735 = BarOp.swap v; let up := u.hostp.perst = false ∧ u.dev ≠ DevState.reset; up ∧ (¬atomic ∨ 253 % 8 = 0 ∧ size = 8) ∧ 253 + size ≤ u.dsize ∧ u.dsize ≤ 68719476736 ∧ u.accessFault Req.host 253 size (decide (BarOp.write 68719476735 ≠ BarOp.read)) = none) ∧
    (let u := (full zA).advance 0; let size := 7 + 1; let atomic := ∃ v, BarOp.add 68719476735 = BarOp.add v ∨ BarOp.add 68719476735 = BarOp.swap v; let up := u.hostp.perst = false ∧ u.dev ≠ DevState.reset; up ∧ (¬atomic ∨ 8 % 8 = 0 ∧ size = 8) ∧ 8 + size ≤ u.dsize ∧ u.dsize ≤ 68719476736 ∧ u.accessFault Req.host 8 size (decide (BarOp.add 68719476735 ≠ BarOp.read)) = none) ∧
    (let u := (att zA).advance 0; let h := u.hostp; let rested := ∀ (k : ℕ), h.attnLast = some k → k + 8000 ≤ u.now; let due := u.now % 8 = 0 ∧ u.fget F.HPCTL_ATTNEN 0 0 = 1 ∧ u.hrdyLevel = true ∧ rested ∧ (h.attnDue = true ∨ u.ringUsed 1 ≠ 0 ∧ (h.attnLast ≠ none ∨ h.readyAt ≠ 0) ∧ h.readyAt + 1600 ≤ u.now); due) ∧
    (let u := zA.advance 0; let h := u.hostp; let rested := ∀ (k : ℕ), h.attnLast = some k → k + 8000 ≤ u.now; let due := u.now % 8 = 0 ∧ u.fget F.HPCTL_ATTNEN 0 0 = 1 ∧ u.hrdyLevel = true ∧ rested ∧ (h.attnDue = true ∨ u.ringUsed 1 ≠ 0 ∧ (h.attnLast ≠ none ∨ h.readyAt ≠ 0) ∧ h.readyAt + 1600 ≤ u.now); (¬due)) ∧
    (let u := (pls zA).advance 0; let h := u.hostp; let done := h.pulse = true ∧ ∀ (k : ℕ), h.attnLast = some k → k + 1600 ≤ u.now; done) ∧
    (let u := zA.advance 0; let h := u.hostp; let done := h.pulse = true ∧ ∀ (k : ℕ), h.attnLast = some k → k + 1600 ≤ u.now; (¬done)) ∧
    (let u := (locked zA).advance 0; (List.map (fun e => e.1) u.tiles).Nodup ∧ (∀ e ∈ u.tiles, (List.map (fun c => c.1) e.2.cells).Nodup ∧ e.2.waiters = [])) :=
  ⟨⟨by decide, by first | exact .inr (by decide) | exact .inl (fun ⟨_, h⟩ => h.elim nofun nofun), by decide, by decide, by decide⟩,
   ⟨by decide, by first | exact .inr (by decide) | exact .inl (fun ⟨_, h⟩ => h.elim nofun nofun), by decide, by decide, by decide⟩,
   ⟨by decide, by first | exact .inr (by decide) | exact .inl (fun ⟨_, h⟩ => h.elim nofun nofun), by decide, by decide, by decide⟩,
   (by decide),
   (by decide),
   (by decide),
   (by decide),
   ⟨by decide, by decide⟩⟩

theorem witness_HostPortServesItsHost_5 :
    (let u := (ring 17 1 (locked zA)).advance 0; (List.map (fun e => e.1) u.tiles).Nodup ∧ (∀ e ∈ u.tiles, (List.map (fun c => c.1) e.2.cells).Nodup ∧ e.2.waiters = [])) ∧
    (let u := (pre true (locked zA)).advance 0; (List.map (fun e => e.1) u.tiles).Nodup ∧ (∀ e ∈ u.tiles, (List.map (fun c => c.1) e.2.cells).Nodup ∧ e.2.waiters = [])) ∧
    (let u := (bsy zA).advance 0; (u.dev = DevState.reset ∨ u.fget F.DAPSTAT_BUSY 0 0 = 1)) ∧
    (let u := (unl false zA).advance 0; u.dev ≠ DevState.reset ∧ u.fget F.DAPSTAT_BUSY 0 0 = 0 ∧ u.ak.dbgUnlock = false) ∧
    (let u := (unl true zA).advance 0; let n := BitVec.toNat (4 : BitVec 48); u.dev ≠ DevState.reset ∧ u.fget F.DAPSTAT_BUSY 0 0 = 0 ∧ u.ak.dbgUnlock = true ∧ n % 8 ≠ 0) ∧
    (let u := (unl true zA).advance 0; let n := BitVec.toNat (281474976710648 : BitVec 48); u.dev ≠ DevState.reset ∧ u.fget F.DAPSTAT_BUSY 0 0 = 0 ∧ u.ak.dbgUnlock = true ∧ n % 8 = 0 ∧ u.region none n = Region.unmapped) ∧
    (let u := (unl true zA).advance 0; let n := (BitVec.ofNat 48 (regAddr RegKind.TPWR 0 63)).toNat; u.dev ≠ DevState.reset ∧ u.fget F.DAPSTAT_BUSY 0 0 = 0 ∧ u.ak.dbgUnlock = true ∧ regExists RegKind.TPWR 0 63 ∧ n = regAddr RegKind.TPWR 0 63 ∧ false = false ∧ RegKind.TPWR ≠ RegKind.LKCELL) ∧
    (let u := (unl true zA).advance 0; let n := (BitVec.ofNat 48 (regAddr RegKind.HPCTL 0 0)).toNat; u.dev ≠ DevState.reset ∧ u.fget F.DAPSTAT_BUSY 0 0 = 0 ∧ u.ak.dbgUnlock = true ∧ regExists RegKind.HPCTL 0 0 ∧ n = regAddr RegKind.HPCTL 0 0 ∧ true = true ∧ RegKind.HPCTL ∉ ruledRegs ∧ u.Passes Req.debug RegKind.HPCTL 0 0 (1 : Word)) :=
  ⟨⟨by decide, by decide⟩,
   ⟨by decide, by decide⟩,
   (by decide),
   ⟨by decide, by decide, by decide⟩,
   ⟨by decide, by decide, by decide, by decide⟩,
   ⟨by decide, by decide, by decide, by decide, by decide⟩,
   ⟨by decide, by decide, by decide, by unfold regExists; decide, by decide, by decide, by decide⟩,
   ⟨by decide, by decide, by decide, by unfold regExists; decide, by decide, by decide, by decide, ⟨by decide, by decide, by decide, by decide, by decide, by decide⟩⟩⟩

theorem witness_HostPortServesItsHost_6 :
    (let u := (unl true zA).advance 0; let n := (BitVec.ofNat 48 (regAddr RegKind.HPCTL 0 0)).toNat; u.dev ≠ DevState.reset ∧ u.fget F.DAPSTAT_BUSY 0 0 = 0 ∧ u.ak.dbgUnlock = true ∧ regExists RegKind.HPCTL 0 0 ∧ n = regAddr RegKind.HPCTL 0 0 ∧ true = true ∧ (hostKind RegKind.HPCTL = true → u.hostp.perst = false) ∧ u.firstRefusal Req.debug RegKind.HPCTL 0 0 (9223372036854775808 : Word) = some (2, 1)) ∧
    (let u := (unl true (full zA)).advance 0; let n := BitVec.toNat (64 : BitVec 48); u.dev ≠ DevState.reset ∧ u.fget F.DAPSTAT_BUSY 0 0 = 0 ∧ u.ak.dbgUnlock = true ∧ n % 8 = 0 ∧ n + 8 ≤ u.dsize ∧ u.dsize ≤ 68719476736 ∧ u.accessFault Req.debug n 8 true = none) :=
  ⟨⟨by decide, by decide, by decide, by unfold regExists; decide, by decide, by decide, by decide, by decide⟩,
   ⟨by decide, by decide, by decide, by decide, by decide, by decide, by decide⟩⟩

end W27
end Sys2Proof.Tests
end

