-- ==== Sys2Proof/Tests/W28.lean ====
section
/-! SUPPORT. States that meet the hypotheses of: EveryStepAnswersAndKeepsMemoryCanonical, FiringsComputeFromTheirOperands, NegationOfTheMostNegativeValue, StepRunsTheFirstCommand. -/
set_option Elab.async false
open Sys2Proof Sys2Proof.Machine
namespace Sys2Proof.Tests
namespace W28
def mn : Thread := { wth [(2, 0x8000000000000000), (3, 0x8000000000000000)] with fl := 15 }
def pl : Thread := { wth [(2, wd (2^64-5)), (3, wd (2^64-5))] with fl := 15 }
def zN (op : Nat) (x : Thread) : State := mko op 1 0 x

def negd (x : Thread) (o : Ins) (v : Word) (c : Option Bool) (n : Bool) : Thread := { x.setW (iRD o.w) v with fl := if o.s then applyFlags x.fl (some n) (some false) c (some n) else x.fl }
def oNeg := ins (zN 6 mn)
def oNego := ins (zN 7 mn)
def oAbs := ins (zN 0x1F mn)
def oAbsP := ins (zN 0x1F pl)
def fr (op : Nat) : Firing := ⟨1, 9, 0, wd (op * 2 ^ 56 + 2 * 2 ^ 54), 5, some ⟨0, 0, 0x8000000000000000, 0⟩, some ⟨0, 0, 3, 0⟩, none⟩
def fire2 (op : Nat) (a b : Word) : Firing := ⟨1, 9, 0, wd (op * 2 ^ 56 + 2 * 2 ^ 54), 5, some ⟨0, 0, a, 0⟩, some ⟨0, 0, b, 0⟩, none⟩

theorem witness_NegationOfTheMostNegativeValue :
    (let u := (zN 6 mn).advance 0; let x := u.thr 0 0; let m := (9223372036854775808 : Word); let gives := fun (v : Word) (fl : Word) => ({ x.setW (iRD oNeg.w) v with fl := if oNeg.s = true then fl else x.fl } : Thread); Takes u 0 0 oNeg ∧ negd mn oNeg (9223372036854775808 : Word) (some false) true = gives m (applyFlags x.fl (some true) (some false) (some false) (some true)) ∧ oNeg.op = 6 ∧ oNeg.a x = m ∧ ((negd mn oNeg (9223372036854775808 : Word) (some false) true).stepPc oNeg.pc (oNeg.pc + oNeg.len)).pc ≤ 16383) ∧
    (let u := (zN 7 mn).advance 0; let x := u.thr 0 0; let m := (9223372036854775808 : Word); Takes u 0 0 oNego ∧ oNego.op = 7 ∧ oNego.a x = m ∧ (0 < 64 → u.Still ∧ u.QuietQ 0 255)) ∧
    (let u := (zN 31 mn).advance 0; let x := u.thr 0 0; let m := (9223372036854775808 : Word); let gives := fun (v : Word) (fl : Word) => ({ x.setW (iRD oAbs.w) v with fl := if oAbs.s = true then fl else x.fl } : Thread); Takes u 0 0 oAbs ∧ negd mn oAbs (9223372036854775808 : Word) none true = gives m (applyFlags x.fl (some true) (some false) none (some true)) ∧ oAbs.op = 31 ∧ oAbs.a x = m ∧ ((negd mn oAbs (9223372036854775808 : Word) none true).stepPc oAbs.pc (oAbs.pc + oAbs.len)).pc ≤ 16383) ∧
    (let u := (zN 31 pl).advance 0; let x := u.thr 0 0; let m := (9223372036854775808 : Word); let gives := fun (v : Word) (fl : Word) => ({ x.setW (iRD oAbsP.w) v with fl := if oAbsP.s = true then fl else x.fl } : Thread); Takes u 0 0 oAbsP ∧ ((5 : Word) = if BitVec.slt (oAbsP.a x) (0 : BitVec 64) = true then -oAbsP.a x else oAbsP.a x) ∧ negd pl oAbsP (5 : Word) none false = gives (5 : Word) (applyFlags x.fl (some false) (some ((5 : Word) == (0 : Word))) none (some false)) ∧ oAbsP.op = 31 ∧ oAbsP.a x ≠ m ∧ ((negd pl oAbsP (5 : Word) none false).stepPc oAbsP.pc (oAbsP.pc + oAbsP.len)).pc ≤ 16383) ∧
    (let m := (9223372036854775808 : Word); let op := nOpc (fr 6).word; formDefined op (nMode (fr 6).word) = true ∧ nMatch (fr 6).word ≠ 5 ∧ (fr 6).mod < 2 ∧ (if (fr 6).mod = 1 then (fr 6).b else (fr 6).a) = m ∧ (op = 6 ∨ op = 31)) ∧
    (let m := (9223372036854775808 : Word); let op := nOpc (fr 31).word; formDefined op (nMode (fr 31).word) = true ∧ nMatch (fr 31).word ≠ 5 ∧ (fr 31).mod < 2 ∧ (if (fr 31).mod = 1 then (fr 31).b else (fr 31).a) = m ∧ (op = 6 ∨ op = 31)) ∧
    (let m := (9223372036854775808 : Word); let op := nOpc (fr 7).word; formDefined op (nMode (fr 7).word) = true ∧ nMatch (fr 7).word ≠ 5 ∧ (fr 7).mod < 2 ∧ (if (fr 7).mod = 1 then (fr 7).b else (fr 7).a) = m ∧ op = 7) :=
  ⟨⟨⟨by decide, by decide, by decide, by decide, by decide, by decide, by decide⟩, by decide, by decide, by decide, by decide⟩,
   ⟨⟨by decide, by decide, by decide, by decide, by decide, by decide, by decide⟩, by decide, by decide, fun _ => ⟨still_of _ (by decide) rfl (by decide), ⟨by decide, by decide⟩⟩⟩,
   ⟨⟨by decide, by decide, by decide, by decide, by decide, by decide, by decide⟩, by decide, by decide, by decide, by decide⟩,
   ⟨⟨by decide, by decide, by decide, by decide, by decide, by decide, by decide⟩, by decide, by decide, by decide, by decide, by decide⟩,
   ⟨by decide, by decide, by decide, by decide, by decide⟩,
   ⟨by decide, by decide, by decide, by decide, by decide⟩,
   ⟨by decide, by decide, by decide, by decide, by decide⟩⟩

/-- The operands of the firings below meet the side conditions of each opcode. -/
theorem witness_FiringsComputeFromTheirOperands :
    (∀ op ∈ [0x00, 0x0F, 0x18, 0x20, 0x21, 0x39, 0x53, 0x46, 0x4B, 0x50, 0x51, 0xA5, 0xA8, 0xB2, 0xB3, 0xBB, 0xBD, 0xCA, 0xA0, 0xD3], nOpc (fire2 op 8 24).word = op ∧ formDefined op (nMode (fire2 op 8 24).word) = true ∧
      nMatch (fire2 op 8 24).word = 0 ∧ (fire2 op 8 24).mod = 0) ∧
    (∀ op ∈ [0x00, 0x0F, 0x18], op ∈ intRows.map (fun p => p.2) ∧ ((intSpec op 8 24 false).map (fun r => r.fault)) = some none) ∧ ((intSpec 7 0x8000000000000000 24 false).map fun r => r.fault) = some (some 0x0A) ∧
    (7 ∈ intRows.map fun p => p.2) ∧ (wbits (10 : Word) 4 60 = 0 ∧ wbits (31 : Word) 5 59 = 0 ∧ (fire2 0x39 31 10).a = 31 ∧ (fire2 0x39 31 10).b = 10) ∧ (loadKind 0x46).isSome = true ∧ (storeKind 0x4B).isSome = true ∧
    (fire2 0x50 8 24).a.toNat % 8 = 0 ∧ (fire2 0xBB 8 24).b.toNat < 2 ^ 32 ∧ dst0 (fire2 0xBD 8 24).word = (0, 0, 0) ∧ dst1 (fire2 0xBD 8 24).word = (0, 0, 0) ∧ wbits (fire2 0xD3 8 24).b 48 16 = 0 ∧ (zN 6 mn).Still :=
  ⟨by decide, by decide, by decide, by decide, by decide, by decide, by decide, by decide, by decide, by decide, by decide, by decide, still_of _ (by decide) rfl (by decide)⟩

theorem witness_StepRunsTheFirstCommand : State.reset.pending = [] :=
  rfl

theorem witness_EveryStepAnswersAndKeepsMemoryCanonical : Memory.wf State.reset.mem = true ∧ Memory.wf [(3, 1), (4, 255)] = true :=
  ⟨by decide, by decide⟩

end W28
end Sys2Proof.Tests
end

