-- ==== Sys2Proof/Tests/Slice0.lean ====
section
/-! SUPPORT. The author's tests: ill-formed commands are refused, the worked examples of the manual, and the reset state. The witnesses of the statements stand in Tests/W01 to Tests/W28. -/
namespace Sys2Proof.Tests
open Sys2Proof.Machine

/-! ### Ill-formed commands: one for each check of WellFormed.lean -/

theorem test_wf_thread_core : (Instr.registerWrite (.thread 68 0) 0 0).wf = false := by decide

theorem test_wf_thread_number : (Instr.registerWrite (.thread 0 16) 0 0).wf = false := by decide

theorem test_wf_firing_tile : (Instr.qdbProd (.firing 64 0) 0 0 0).wf = false := by decide

theorem test_wf_firing_unit : (Instr.qdbProd (.firing 0 4) 0 0 0).wf = false := by decide

theorem test_wf_privilege : (Instr.rushcfgEn (.aklofy 3) none 0).wf = false := by decide

theorem test_wf_dma_tile : (Instr.registerWrite (.dma 64 0) 0 0).wf = false := by decide

theorem test_wf_dma_number : (Instr.registerWrite (.dma 0 16) 0 0).wf = false := by decide

theorem test_wf_address : (Instr.registerWrite .host (2 ^ 48) 0).wf = false := by decide

theorem test_wf_datagram_ip : (Instr.close 0 ⟨0, 2 ^ 32, 0, []⟩).wf = false := by decide

theorem test_wf_datagram_port : (Instr.close 0 ⟨0, 0, 2 ^ 16, []⟩).wf = false := by decide

theorem test_wf_datagram_length (m : AkMsg) (h : 65507 < m.bytes.length) : (Instr.close 0 m).wf = false := by
  show AkMsg.wf m = false
  simp [AkMsg.wf, Nat.not_le.mpr h]

theorem test_wf_bar0_end : (Instr.hostAccess 0 ⟨0, 0x2000000, 0, .read⟩).wf = false := by decide

theorem test_wf_bar2_end : (Instr.hostAccess 0 ⟨1, 0xFFF, 1, .read⟩).wf = false := by decide

theorem test_wf_bar4_end : (Instr.hostAccess 0 ⟨2, 0x1000000000, 0, .read⟩).wf = false := by decide

theorem test_wf_bar_write : (Instr.hostAccess 0 ⟨0, 0, 3, .write (2 ^ 32)⟩).wf = false := by decide

theorem test_wf_bar_add : (Instr.hostAccess 0 ⟨0, 0, 3, .add (2 ^ 32)⟩).wf = false := by decide

theorem test_wf_bar_swap : (Instr.hostAccess 0 ⟨0, 0, 3, .swap (2 ^ 32)⟩).wf = false := by decide

theorem test_wf_ptp_domain : (Instr.ptpSync 0 ⟨0, 256, 0, 0, 0, 0, 0, 0⟩).wf = false := by decide

theorem test_wf_session : (Instr.hb 0 (2 ^ 32)).wf = false := by decide

theorem test_wf_lockout : (Instr.authLockoutExpiry 0 (2 ^ 32)).wf = false := by decide

theorem test_wf_frame : (Instr.catchFrame 0 0 [0, 0, 0, 0, 0, 0, 0] 0).wf = false := by decide

theorem test_wf_block : (Instr.live 0 (.catch_ 0) [] 0).wf = false := by decide

theorem test_wf_ring_entry : (Instr.commandRingEntry 0 []).wf = false := by decide

theorem test_wf_sensors : (Instr.junctionSensorRead 0 [] 0).wf = false := by decide

theorem test_wf_accepts : (Instr.hostAccess 0 ⟨2, 0xFFFFFFFFF, 0, .write 255⟩).wf = true := by decide

/-! ### Worked examples of the manual -/

/-- Example 6.1: the fields of ADD w5, w7, w9 with flags set. -/
theorem test_example_6_1_strand :
    (nOpc 0x000A748800000000, nMode 0x000A748800000000, iRD 0x000A748800000000, iRA 0x000A748800000000, iRB 0x000A748800000000, iAM 0x000A748800000000) =
      (0x00, 0, 5, 7, 9, 1) := by decide

/-- Example 6.1: AND in node form. -/
theorem test_example_6_1_node : (nOpc 0x089A040068100000, nMode 0x089A040068100000) = (0x08, 2) := by decide

/-- 07 R175: MUL of the most negative word by −1. -/
theorem test_mul_overflows :
    ((mulOp 0x8000000000000000 0xFFFFFFFFFFFFFFFF).d, (mulOp 0x8000000000000000 0xFFFFFFFFFFFFFFFF).v) = (0x8000000000000000, some true) := by decide

/-- 07 R175: MULU of the same words. -/
theorem test_mulu_product : prod false 0x8000000000000000 0xFFFFFFFFFFFFFFFF = 0x7FFFFFFFFFFFFFFF8000000000000000 := by decide

/-- Example 7.1: what DSET leaves of −7 and 2. -/
theorem test_example_7_1_dset :
    ((dset 64 true (-7) 2 0).rd, (dset 64 true (-7) 2 0).ph, (dset 64 true (-7) 2 0).pl, (dset 64 true (-7) 2 0).fl) = (2, 0, 7, 5) := by decide

/-- Example 7.1: what DFIN makes of PL 3 and PH 1. -/
theorem test_example_7_1_dfin : ((dfin 64 1 3 5).rd, (dfin 64 1 3 5).ph, (dfin 64 1 3 5).pl, (dfin 64 1 3 5).fl) = (-3, -1, -3, 1) := by decide

/-- Example 4.1: BCYC of DEPTH 12. -/
theorem test_example_4_1 : boundCycles 12 = 206 := by decide

/-! ### Reset and the queue -/

theorem test_reset_pending : State.reset.pending = [] := by decide

theorem test_reset_memory : Memory.wf State.reset.mem = true := by decide

theorem test_no_word_is_a_command : decodeTableWord 64 0 = none := by decide

end Sys2Proof.Tests
end

/-! Register writes (00 R8, R402; 05 R130; 06 R144): a thread that traps while a load is in its shadow gets the load's value, which the statement about refused writes leaves out. -/
namespace Sys2Proof.Machine

/-! ### What a trap leaves in the registers -/

/-- A trap completes the loads whose data has arrived (05 R130), whichever way it ends. -/
theorem trap_thr_w (s : State) (c n code pc : Nat) (pcx : Bool) : ((s.trap c n code pc pcx).thr c n).w = (s.thr c n).landAll.w := by
  unfold State.trap
  dsimp only
  split <;> rw [State.thr_setThr_self]

theorem State.trapped_w (u : State) (c n pc : Nat) (x : Thread) : (u.trapped c n pc x).w = x.w := by
  unfold State.trapped
  dsimp only
  split <;> rfl

/-- A trap is the one `Trapped` describes only if it lands nothing in the w registers. -/
theorem Trapped.landAll_w {s : State} {c n code k pc : Nat} {pcx : Bool} {ch : Changes} (h : Trapped s (s.trap c n code pc pcx) c n k pc ch) :
    (s.thr c n).landAll.w = (s.thr c n).w := by
  have hw : ((s.trap c n code pc pcx).thr c n).w = (s.trapped c n pc (s.thr c n)).w := by
    simpa using congrArg Thread.w h.thread
  rwa [trap_thr_w, State.trapped_w] at hw

/-! ### A register write in the shadow of a load -/

/-- An LDD to w1 whose data has arrived, in its shadow. -/
def shadowLoad : Load :=
  { id := 0, pc := 0, dests := [.w 1], size := 8, ext := .zero, parts := 0, acc := 7, vals := [7], code := 0, arrived := true, passed := 0, issued := 0, snap := Thread.rst.snap }

/-- After reset, thread 0 of the first control core is READY in the shadow of its load. -/
def inShadow : State := { State.reset with threads := [(64 * 16, { Thread.rst with st := .ready, loads := [shadowLoad] })] }

theorem inShadow_canTell : inShadow.canTell (.thread 64 0) := ⟨by decide, by decide, by decide, fun h => absurd h (by decide)⟩

/-- A write that is not aligned makes the thread trap. -/
theorem inShadow_write : exec (.registerWrite (.thread 64 0) (regAddr .PRGCFG 0 0 + 1) 0) inShadow = .next (inShadow.trap 64 0 3 0 false) := rfl

theorem inShadow_lands : (inShadow.thr 64 0).landAll.w ≠ (inShadow.thr 64 0).w := by decide

/-- Refutes O32: a READY thread whose load has arrived in its shadow makes a write that is not aligned. The trap lands the load in w1 (05 R130), where `RefusedWith` has the registers of a thread with no load open. -/
theorem not_registerWritesAreCheckedInOrder : ¬ Obligations.RegisterWritesAreCheckedInOrder := by
  unfold Obligations.RegisterWritesAreCheckedInOrder
  rintro ⟨hwrite, -, -⟩
  have hexists : regExists .PRGCFG 0 0 := by unfold regExists; decide
  obtain ⟨-, -, hunaligned⟩ := hwrite inShadow (.thread 64 0) .PRGCFG 0 0 0 hexists
  obtain ⟨t, ht, hrefused⟩ := hunaligned 1 (by decide) (by decide) nofun inShadow_canTell
  rw [inShadow_write] at ht
  cases ht
  exact inShadow_lands hrefused.landAll_w

end Sys2Proof.Machine

/-! The places of the physical tiles on the mesh (01 R14). -/
namespace Sys2Proof.Machine

/-- Tiles 0 to 31 fill rows 0 to 3 and are numbered as their routers are (01 R14). -/
theorem routerOfPhys_of_lt {p : Nat} (h : p < 32) : routerOfPhys p = p := if_pos h

/-- Tiles 32 to 63 fill rows 5 to 8: row 4, of eight routers, is passed over (01 R14). -/
theorem routerOfPhys_of_le_of_lt {p : Nat} (hle : 32 ≤ p) (hlt : p < 64) : routerOfPhys p = p + 8 := by
  rw [routerOfPhys, if_neg hle.not_gt, if_pos hlt]

/-- Passing over a whole row leaves the column as it is. -/
theorem routerOfPhys_mod_eight {p : Nat} (h : p < 64) : routerOfPhys p % 8 = p % 8 := by
  rcases Nat.lt_or_ge p 32 with hbefore | hafter
  · rw [routerOfPhys_of_lt hbefore]
  · rw [routerOfPhys_of_le_of_lt hafter h, Nat.add_mod_right]

theorem routerOfPhys_div_eight {p : Nat} (hle : 32 ≤ p) (hlt : p < 64) : routerOfPhys p / 8 = p / 8 + 1 := by
  rw [routerOfPhys_of_le_of_lt hle hlt, Nat.add_div_right p (by decide)]

/-- Settles O58: tiles 0 to 63 by the rows before and after row 4, and the four tiles in row 4 one by one. -/
theorem tilesHaveTheirPlaces : Obligations.TilesHaveTheirPlaces := by
  unfold Obligations.TilesHaveTheirPlaces
  refine ⟨fun p hp => ?column, fun p hp => ?rowsBefore, fun p hp hle => ?rowsAfter, ?spares⟩
  case column => exact routerOfPhys_mod_eight hp
  case rowsBefore => exact congrArg (· / 8) (routerOfPhys_of_lt hp)
  case rowsAfter => exact routerOfPhys_div_eight hle hp
  case spares => decide

end Sys2Proof.Machine

/-! The matching store (02 R24 to R40; log 70): what a lookup, the spill write buffer and a probe do with a token. -/
namespace Sys2Proof.Machine

/-! ### Entries that wait for a token (02 R34, R40) -/

/-- The store's own test for an entry that waits for the other operand of a token. -/
def Entry.waits (e : Entry) (k : Token) (port : Nat) : Bool :=
  e.tok.ctx = k.ctx && e.tok.idx = k.idx && e.tok.iter = k.iter && e.port = port && !e.held

theorem Entry.waits_iff {e : Entry} {k : Token} {port : Nat} : e.waits k port = true ↔ e.waitsFor k port := by
  simp [Entry.waits, Entry.waitsFor, and_assoc]

theorem Entry.not_waits_iff {e : Entry} {k : Token} {port : Nat} : (!e.waits k port) = true ↔ ¬e.waitsFor k port := by
  rw [← Entry.waits_iff, Bool.not_eq_true', Bool.not_eq_true]

theorem filter_waits_eq_nil {l : List Entry} {k : Token} {port : Nat} (h : ∀ g ∈ l, ¬g.waitsFor k port) : l.filter (·.waits k port) = [] :=
  List.filter_eq_nil_iff.2 fun g hg hw => h g hg (Entry.waits_iff.1 hw)

theorem partner_eq_minBy (s : State) (d : Nat) (k : Token) (port : Nat) :
    s.partner d k port = minBy (fun e => e.stamp) (((s.tile d).ents ++ (s.tile d).c0).filter (·.waits k port)) := rfl

theorem partner_eq_none {s : State} {d : Nat} {k : Token} {port : Nat} (h : ∀ g ∈ (s.tile d).ents ++ (s.tile d).c0, ¬g.waitsFor k port) :
    s.partner d k port = none := by
  rw [partner_eq_minBy, filter_waits_eq_nil h]
  rfl

/-- The partner is the oldest entry that waits. -/
theorem partner_eq_some {s : State} {d : Nat} {k : Token} {port : Nat} {e : Entry} (he : e ∈ (s.tile d).ents ++ (s.tile d).c0) (hw : e.waitsFor k port)
    (hold : ∀ g ∈ (s.tile d).ents ++ (s.tile d).c0, g ≠ e → g.waitsFor k port → e.stamp < g.stamp) : s.partner d k port = some e := by
  refine minBy_least (List.mem_filter.2 ⟨he, Entry.waits_iff.2 hw⟩) fun g hg => ?_
  obtain ⟨hmem, hgw⟩ := List.mem_filter.1 hg
  exact or_iff_not_imp_left.2 fun hne => hold g hmem hne (Entry.waits_iff.1 hgw)

/-- Where no sticky entry stands at a port, its partner is what the port offers. -/
theorem offerOf_of_unstuck {s : State} {d : Nat} {k : Token} {port : Nat} (h : s.stickyOf d k.ctx k.idx port = none) :
    s.offerOf d k port = (s.partner d k port).map fun e => (e.tok, some e) := by
  unfold State.offerOf
  rw [h, ite_self]

theorem offersOf_single (s : State) (d : Nat) (k : Token) (port : Nat) :
    s.offersOf d k [port] = (s.offerOf d k port).map fun o => [(port, o.1, o.2)] := by
  unfold State.offersOf State.offersOf
  cases s.offerOf d k port <;> rfl

/-- A token at one data port of a dyadic node needs the other one. -/
theorem dyadic_needs {port : Nat} (h : port < 2) : (MKind.dyadic.ports.filter fun p => p ≠ port) = [1 - port] := by
  interval_cases port <;> rfl

theorem dyadic_port_lt {port : Nat} {sticky : Bool} (h : MKind.dyadic.accepts port sticky = true) : port < 2 := by
  have hport : port = 0 ∨ port = 1 := by simpa [MKind.accepts, MKind.ports] using h
  omega

/-! ### A token leaves its count, or enters one (08 R190) -/

section
variable (s : State) (d : Nat) (p : Pop)

@[simp] theorem State.tile_popOut (a : Nat) : (s.popOut d p).tile a = s.tile a := by cases p <;> rfl
@[simp] theorem State.ctx_popOut (c : Nat) : (s.popOut d p).ctx c = s.ctx c := by cases p <;> rfl
@[simp] theorem State.gword_popOut (c j : Nat) : (s.popOut d p).gword c j = s.gword c j := by cases p <;> rfl
@[simp] theorem State.popOut_seqNo : (s.popOut d p).seqNo = s.seqNo := by cases p <;> rfl
@[simp] theorem State.popOut_none : s.popOut d .none = s := rfl

theorem fget_popOut_kind {f : Fld} (a i : Nat) (h : f.kind ≠ .POPCNT) : (s.popOut d p).fget f a i = s.fget f a i := by
  cases p
  · rfl
  · exact fget_fset_kind _ h
  · exact fget_fset_kind _ h

theorem popLeft_popOut : PopLeft s (s.popOut d p) d p := by
  have hc := State.fget_lt s F.POPCNT_CPOP d 0
  have ho := State.fget_lt s F.POPCNT_OPOP d 0
  cases p
  case none => exact ⟨rfl, rfl⟩
  case c =>
    refine ⟨?_, State.fget_fset_field s _ _ _ rfl (by decide)⟩
    exact (State.fget_fset_self s _ _ _ _ (by decide)).trans (Nat.mod_eq_of_lt (by omega))
  case o =>
    refine ⟨State.fget_fset_field s _ _ _ rfl (by decide), ?_⟩
    exact (State.fget_fset_self s _ _ _ _ (by decide)).trans (Nat.mod_eq_of_lt (by omega))

variable (c : Nat)

@[simp] theorem State.tile_popIn (a : Nat) : (s.popIn d c p).tile a = s.tile a := by
  cases p <;> unfold State.popIn <;> dsimp only
  case c => rfl
  case o => split <;> rfl

theorem fget_popIn_cpop : (s.popIn d c p).fget F.POPCNT_CPOP d 0 = (s.fget F.POPCNT_CPOP d 0 + b2n (decide (p = .c))) % 2 ^ 21 := by
  have hkept : s.fget F.POPCNT_CPOP d 0 % 2 ^ 21 = s.fget F.POPCNT_CPOP d 0 := Nat.mod_eq_of_lt (State.fget_lt s F.POPCNT_CPOP d 0)
  cases p
  case none => exact hkept.symm
  case c => exact State.fget_fset_self s _ _ _ _ (by decide)
  case o =>
    unfold State.popIn
    dsimp only
    split <;> simp (disch := decide) only [fget_inc_kind, State.fget_fset_field] <;> exact hkept.symm

theorem fget_popIn_opop : (s.popIn d c p).fget F.POPCNT_OPOP d 0 = (s.fget F.POPCNT_OPOP d 0 + b2n (decide (p = .o))) % 2 ^ 21 := by
  have hkept : s.fget F.POPCNT_OPOP d 0 % 2 ^ 21 = s.fget F.POPCNT_OPOP d 0 := Nat.mod_eq_of_lt (State.fget_lt s F.POPCNT_OPOP d 0)
  cases p
  case none => exact hkept.symm
  case c =>
    refine Eq.trans ?_ hkept.symm
    exact State.fget_fset_field s _ _ _ rfl (by decide)
  case o =>
    unfold State.popIn
    dsimp only
    split <;> simp (disch := decide) only [fget_inc_kind, State.fget_fset_field, State.fget_fset_self] <;> rfl
end

theorem Only.popOut {ch : Changes} {u s : State} (h : Only ch u s) {d : Nat} (p : Pop) (m : (.POPCNT, d, 0) ∈ ch.regs) : Only ch u (s.popOut d p) := by
  cases p
  · exact h
  · exact h.fset _ m
  · exact h.fset _ m

theorem Only.popIn {ch : Changes} {u s : State} (h : Only ch u s) {d : Nat} (c : Nat) (p : Pop) (m : (.POPCNT, d, 0) ∈ ch.regs) (m' : (.OVERPOP, d, 0) ∈ ch.regs) :
    Only ch u (s.popIn d c p) := by
  cases p
  case none => exact h
  case c => exact h.fset (f := F.POPCNT_CPOP) _ m
  case o =>
    unfold State.popIn
    dsimp only
    split
    · exact ((h.fset _ m).fset _ m).inc m'
    · exact (h.fset _ m).fset _ m

/-! ### A node becomes ready (02 R34, R36; 05 R113) -/

theorem makeReady_eq (s : State) (d : Nat) (f : Firing) : s.makeReady d f = s.bump.setTile d ((s.tile d).withTask (s.taskFor f)) := by
  unfold State.makeReady State.enterReady Tile.withTask State.taskFor
  dsimp only
  split <;> rfl

/-- A tile's store without the entries of a stamp. -/
def Tile.dropStamp (x : Tile) (n : Nat) : Tile := { x with ents := x.ents.filter fun g => g.stamp ≠ n, c0 := x.c0.filter fun g => g.stamp ≠ n }

theorem dropEntry_eq (s : State) (d : Nat) (e : Entry) : s.dropEntry d e = (s.setTile d ((s.tile d).dropStamp e.stamp)).popOut d e.pop := rfl

/-- The firing of a dyadic node by a token and its partner, each at its own port. -/
def State.pairFiring (u : State) (d : Nat) (k j : Token) : Firing :=
  if k.port = 0 then u.firingOf d k (some k) (some j) none else u.firingOf d k (some j) (some k) none

/-- The state after an entry's token has left the store and made its node ready. -/
def State.fired (s : State) (d : Nat) (k : Token) (e : Entry) : State :=
  (s.dropEntry d e).makeReady d (s.pairFiring d k e.tok)

theorem complete_dyadic {s : State} {d : Nat} {k : Token} {e : Entry} (h : k.port < 2) : s.complete d k [(1 - k.port, e.tok, some e)] = s.fired d k e := by
  have hport : k.port = 0 ∨ k.port = 1 := by omega
  unfold State.complete State.fired State.pairFiring
  rcases hport with hp | hp <;> simp [pickPort, hp, State.mkFiring, State.firingOf, dropEntry_eq]

theorem tile_fired (s : State) (d : Nat) (k : Token) (e : Entry) :
    (s.fired d k e).tile d = ((s.tile d).dropStamp e.stamp).withTask (s.taskFor (s.pairFiring d k e.tok)) := by
  simp [State.fired, makeReady_eq, dropEntry_eq, State.taskFor]

theorem fget_fired (s : State) (d : Nat) (k : Token) (e : Entry) (f : Fld) (a i : Nat) : (s.fired d k e).fget f a i = (s.popOut d e.pop).fget f a i := by
  rw [State.fired, makeReady_eq, dropEntry_eq, State.fget_setTile, State.fget_bump]
  cases e.pop <;> rfl

theorem popLeft_fired (s : State) (d : Nat) (k : Token) (e : Entry) : PopLeft s (s.fired d k e) d e.pop := by
  unfold PopLeft
  rw [fget_fired, fget_fired]
  exact popLeft_popOut s d e.pop

theorem Only.makeReady {ch : Changes} {u s : State} (h : Only ch u s) {d : Nat} (f : Firing) (m : d ∈ ch.tiles) (m' : .stamp ∈ ch.parts) : Only ch u (s.makeReady d f) :=
  h.enterReady m m'

theorem Only.fired {ch : Changes} {u s : State} (h : Only ch u s) {d : Nat} (k : Token) (e : Entry) (m : d ∈ ch.tiles) (m' : (.POPCNT, d, 0) ∈ ch.regs) (m'' : .stamp ∈ ch.parts) :
    Only ch u (s.fired d k e) :=
  ((h.onTile _ m).popOut e.pop m').makeReady _ m m''

/-! ### The lookup of the token at the head of a stage (02 R24, R35, R46; log 70) -/

theorem takeFirst_of_find {α : Type} {p : α → Bool} {l : List α} {e : α} (h : l.find? p = some e) : ∃ r, takeFirst p l = some (e, r) := by
  obtain ⟨hp, a, b, rfl, ha⟩ := List.find?_eq_some_iff_append.1 h
  exact ⟨a ++ b, takeFirst_split p a b e (fun g hg => by simpa using ha g hg) hp⟩

/-- A descriptor that is found in the cache moves to its front. -/
theorem touchCtx_cached {s : State} {d c : Nat} {e : CEnt} (h : s.cached d c = some e) :
    ∃ r, s.touchCtx d c = s.setTile d { s.tile d with cache := e :: r } := by
  obtain ⟨r, hr⟩ := takeFirst_of_find h
  exact ⟨r, by unfold State.touchCtx; rw [hr]; rfl⟩

theorem ctxOpen_cached {s : State} {d c : Nat} {e : CEnt} (h : s.cached d c = some e) : s.ctxOpen d c = (!e.closed && decide ((s.ctx c).st ≠ 0)) := by
  unfold State.ctxOpen
  rw [h]

/-- A tile after the head of a stage has left it and the descriptors `l` have been looked at. -/
def Tile.lookedUp (x : Tile) (c : Nat) (loc : Bool) (l : List CEnt) : Tile := { x.stagePop c loc with cache := l }

section
variable (x : Tile) (c : Nat) (loc : Bool) (l : List CEnt)

@[simp] theorem Tile.lookedUp_ents : (x.lookedUp c loc l).ents = x.ents := by cases loc <;> rfl
@[simp] theorem Tile.lookedUp_c0 : (x.lookedUp c loc l).c0 = x.c0 := by cases loc <;> rfl
@[simp] theorem Tile.lookedUp_stk : (x.lookedUp c loc l).stk = x.stk := by cases loc <;> rfl
@[simp] theorem Tile.lookedUp_spill : (x.lookedUp c loc l).spill = x.spill := by cases loc <;> rfl
@[simp] theorem Tile.lookedUp_ready : (x.lookedUp c loc l).ready = x.ready := by cases loc <;> rfl
@[simp] theorem Tile.lookedUp_c0q : (x.lookedUp c loc l).c0q = x.c0q := by cases loc <;> rfl
@[simp] theorem Tile.lookedUp_borrow : (x.lookedUp c loc l).borrow = x.borrow := by cases loc <;> rfl
@[simp] theorem Tile.lookedUp_cache : (x.lookedUp c loc l).cache = l := rfl
end

/-- The state after the head of stage c of tile d has left it and the descriptors `l` have been looked at. -/
def State.lookedUp (u : State) (d c : Nat) (loc : Bool) (l : List CEnt) : State := u.setTile d ((u.tile d).lookedUp c loc l)

section
variable (u : State) (d c : Nat) (loc : Bool) (l : List CEnt)

@[simp] theorem State.tile_lookedUp : (u.lookedUp d c loc l).tile d = (u.tile d).lookedUp c loc l := State.tile_setTile_self ..
@[simp] theorem State.ctx_lookedUp (n : Nat) : (u.lookedUp d c loc l).ctx n = u.ctx n := rfl
@[simp] theorem State.gword_lookedUp (a j : Nat) : (u.lookedUp d c loc l).gword a j = u.gword a j := rfl
@[simp] theorem State.fget_lookedUp (f : Fld) (a i : Nat) : (u.lookedUp d c loc l).fget f a i = u.fget f a i := rfl
@[simp] theorem State.readyFull_lookedUp (n : Nat) : (u.lookedUp d c loc l).readyFull d n = u.readyFull d n := by simp [State.readyFull]
@[simp] theorem State.stickyOf_lookedUp (n idx port : Nat) : (u.lookedUp d c loc l).stickyOf d n idx port = u.stickyOf d n idx port := by simp [State.stickyOf]
@[simp] theorem State.partner_lookedUp (k : Token) (port : Nat) : (u.lookedUp d c loc l).partner d k port = u.partner d k port := by simp [partner_eq_minBy]
@[simp] theorem State.countOf_lookedUp (n : Nat) : (u.lookedUp d c loc l).countOf d n = u.countOf d n := rfl
@[simp] theorem Tile.setSpilled_lookedUp (x : Tile) (set : Nat) : (x.lookedUp c loc l).setSpilled set = x.setSpilled set := by simp [Tile.setSpilled]

theorem Only.lookedUp {ch : Changes} (m : d ∈ ch.tiles) : Only ch u (u.lookedUp d c loc l) := (Only.refl ch u).setTile _ m
end

/-- The store refuses a token with this code: for its reserved bits, then for its context, then for its node or its port (log 70). -/
def State.Refuses (u : State) (d : Nat) (k : Staged) (code : Nat) : Prop :=
  k.tok.rsvd = true ∧ code = 2 ∨ k.tok.rsvd = false ∧ (u.cached d k.tok.ctx).isSome = true ∧
    (u.ctxOpen d k.tok.ctx = false ∧ code = 3 ∨ u.ctxOpen d k.tok.ctx = true ∧
      (∀ kind, nodeKind k.tok.idx (u.gword d k.tok.idx) = some kind → kind.accepts k.tok.port k.tok.sticky = false) ∧ code = 2)

section
variable {u : State} {d c : Nat} {k : Staged} {loc : Bool}

/-- The head's context is found in the cache as it was before the head left its stage. -/
theorem touchCtx_stagePop {e : CEnt} (h : u.cached d k.tok.ctx = some e) :
    ∃ l, (u.onTile d fun x => x.stagePop c loc).touchCtx d k.tok.ctx = u.lookedUp d c loc l ∧
      (u.lookedUp d c loc l).ctxOpen d k.tok.ctx = u.ctxOpen d k.tok.ctx := by
  have hcache : ((u.tile d).stagePop c loc).cache = (u.tile d).cache := by unfold Tile.stagePop; cases loc <;> rfl
  have hpop : (u.onTile d fun x => x.stagePop c loc).cached d k.tok.ctx = some e := by
    simpa [State.cached, State.onTile, hcache] using h
  have hctx : e.ctx = k.tok.ctx := by simpa using List.find?_some (p := fun x : CEnt => decide (x.ctx = k.tok.ctx)) h
  obtain ⟨r, hr⟩ := touchCtx_cached hpop
  refine ⟨e :: r, by rw [hr]; simp [State.onTile, Tile.lookedUp, State.lookedUp], ?_⟩
  rw [ctxOpen_cached h, ctxOpen_cached (e := e)]
  · rfl
  · simp [State.cached, Tile.lookedUp, hctx]

/-- A token of an OPEN context that its node accepts meets the node. -/
theorem lookup_of_meets {kind : MKind} (h : u.Meets d k kind) :
    ∃ l, (u.onTile d fun x => x.stagePop c loc).lookup d k true = (u.lookedUp d c loc l).meetNode d k true kind := by
  obtain ⟨e, he, hclosed⟩ := h.isOpen
  have hopen : u.ctxOpen d k.tok.ctx = true := by simp [ctxOpen_cached he, hclosed, h.used]
  obtain ⟨l, hl, hlopen⟩ := touchCtx_stagePop (c := c) (loc := loc) he
  refine ⟨l, ?_⟩
  unfold State.lookup
  rw [hl]
  dsimp only
  rw [hlopen, hopen, State.gword_lookedUp, h.node]
  simp [h.rsvd, h.port]

/-- A token that is refused leaves its stage for the fault queue (02 R30, R36, R50). -/
theorem lookup_refused {code : Nat} (hp : k.pop = .none) (h : u.Refuses d k code) :
    ∃ l, (u.onTile d fun x => x.stagePop c loc).lookup d k true = .done ((u.lookedUp d c loc l).refuseTok d k.tok code) := by
  rcases h with ⟨hrsvd, rfl⟩ | ⟨hrsvd, hcached, h⟩
  · refine ⟨((u.tile d).stagePop c loc).cache, ?_⟩
    unfold State.lookup
    rw [if_pos hrsvd]
    rfl
  · obtain ⟨e, he⟩ := Option.isSome_iff_exists.1 hcached
    obtain ⟨l, hl, hlopen⟩ := touchCtx_stagePop (c := c) (loc := loc) he
    refine ⟨l, ?_⟩
    unfold State.lookup
    rw [hl]
    dsimp only
    rw [hlopen, State.gword_lookedUp, hp]
    rcases h with ⟨hopen, rfl⟩ | ⟨hopen, hnode, rfl⟩
    · simp [hrsvd, hopen]
    · cases hkind : nodeKind k.tok.idx (u.gword d k.tok.idx) with
      | none => simp [hrsvd, hopen]
      | some kind => simp [hrsvd, hopen, hnode kind hkind]

/-! ### A token meets its node (02 R29, R34, R36) -/

theorem meetNode_monadic_full {s : State} (hcls : k.tok.cls = (s.ctx k.tok.ctx).cls) (hfull : s.readyFull d (s.ctx k.tok.ctx).cls = true) :
    s.meetNode d k true .monadic = .stall s := by
  simp [State.meetNode, hcls, hfull]

theorem meetNode_monadic {s : State} (hcls : k.tok.cls = (s.ctx k.tok.ctx).cls) (hroom : s.readyFull d (s.ctx k.tok.ctx).cls = false) :
    s.meetNode d k true .monadic = .done (s.makeReady d (s.firingOf d k.tok none none (some k.tok))) := by
  simp [State.meetNode, hcls, hroom, State.mkFiring, State.firingOf]

theorem meetNode_dyadic {s : State} (hcls : k.tok.cls = (s.ctx k.tok.ctx).cls) (hsticky : k.tok.sticky = false) {t : State}
    (h : s.arrivePair d .dyadic k true = .done t) : s.meetNode d k true .dyadic = .done t := by
  simp [State.meetNode, hcls, hsticky, h]

/-- What the other port of a dyadic node offers where no sticky entry stands at it. -/
theorem offersOf_dyadic {s : State} {j : Token} (hport : j.port < 2) (hstk : s.stickyOf d j.ctx j.idx (1 - j.port) = none) :
    s.offersOf d j (MKind.dyadic.ports.filter fun p => p ≠ j.port) = (s.partner d j (1 - j.port)).map fun e => [(1 - j.port, e.tok, some e)] := by
  rw [dyadic_needs hport, offersOf_single, offerOf_of_unstuck hstk, Option.map_map]
  rfl

/-- The token fires its node with the oldest partner on chip. -/
theorem arrivePair_partner {s : State} {e : Entry} (hport : k.tok.port < 2) (hpop : k.pop = .none) (hstk : s.stickyOf d k.tok.ctx k.tok.idx (1 - k.tok.port) = none)
    (he : s.partner d k.tok (1 - k.tok.port) = some e) (hroom : s.readyFull d (s.ctx k.tok.ctx).cls = false) :
    s.arrivePair d .dyadic k true = .done (s.fired d k.tok e) := by
  unfold State.arrivePair
  simp only [offersOf_dyadic hport hstk, he, Option.map_some, hroom, hpop, State.popOut_none, complete_dyadic hport]
  rfl

/-- A token with no partner, of a set with none spilled, asks for an entry. -/
theorem arrivePair_alone {s : State} (hport : k.tok.port < 2) (hstk : s.stickyOf d k.tok.ctx k.tok.idx (1 - k.tok.port) = none)
    (he : s.partner d k.tok (1 - k.tok.port) = none)
    (hspill : (s.tile d).setSpilled (setIndex (s.fget F.MSCFG_HSEED d 0) k.tok.ctx k.tok.idx k.tok.iter) = 0) :
    s.arrivePair d .dyadic k true = (s.takeEntry d k k.tok.port false).res s id := by
  unfold State.arrivePair
  simp only [offersOf_dyadic hport hstk, he, Option.map_none]
  exact if_neg fun ⟨_, _, hspilled, _⟩ => hspilled hspill

end

/-! ### A token takes a way of its set (02 R34, R37; 08 R190) -/

theorem lowest_free_eq {taken : Nat → Bool} {way : Nat} (hlt : way < 8) (hfree : taken way = false) (hlow : ∀ j < way, taken j = true) :
    (([0, 1, 2, 3, 4, 5, 6, 7].filter fun w => !taken w).head?).getD 0 = way := by
  interval_cases way <;> simp [hfree, hlow]

/-- The lowest way that a set's entries leave free. -/
theorem freeWay_eq {l : List Entry} {way : Nat} (hlt : way < 8) (hfree : way ∉ l.map (·.way)) (hlow : ∀ j < way, j ∈ l.map (·.way)) : freeWay l = way := by
  refine lowest_free_eq (taken := fun w => l.any fun e => e.way = w) hlt ?_ fun j hj => ?_
  · simpa using hfree
  · simpa using hlow j hj

theorem makeWay_of_room {s : State} {d set : Nat} (h : ((s.tile d).ents.filter fun e => e.set = set).length < 8) : s.makeWay d set = .ok s := by
  unfold State.makeWay
  exact if_pos h

/-- The state after a token has taken a way of its set and entered the count `p`. -/
def State.entered (s : State) (d : Nat) (k : Token) (p : Pop) (set way : Nat) : State :=
  (s.popIn d k.ctx p).bump.onTile d fun y => { y with ents := y.ents ++ [⟨k, k.port, set, way, s.seqNo, p, false, (s.ctx k.ctx).cls⟩] }

/-- A token of a class from 1 up finds way `way` of its set free, and room in its count; no entry of its key waits at its port. -/
structure State.TakesWay (s : State) (d : Nat) (k : Token) (set way : Nat) : Prop where
  cls : (s.ctx k.ctx).cls ≠ 0
  new : ∀ g ∈ (s.tile d).ents ++ (s.tile d).c0, ¬g.waitsFor k k.port
  cap : s.countOf d k.ctx = .o → s.fget F.ADMRES_RES d 0 + s.fget F.POPCNT_OPOP d 0 < s.fget F.ADMCAP_CAP d 0
  key : setIndex (s.fget F.MSCFG_HSEED d 0) k.ctx k.idx k.iter = set
  room : ((s.tile d).ents.filter fun e => e.set = set).length < 8
  lowest : Sys2Proof.Machine.freeWay ((s.tile d).ents.filter fun e => e.set = set) = way

theorem State.TakesWay.lookedUp {u : State} {d set way : Nat} {k : Token} (h : u.TakesWay d k set way) (c : Nat) (loc : Bool) (l : List CEnt) :
    (u.lookedUp d c loc l).TakesWay d k set way :=
  ⟨h.cls, by simpa using h.new, h.cap, h.key, by simpa using h.room, by simpa using h.lowest⟩

theorem takeEntry_way {s : State} {d : Nat} {k : Staged} {set way : Nat} (hpop : k.pop = .none) (h : s.TakesWay d k.tok set way) :
    s.takeEntry d k k.tok.port false = .ok (s.entered d k.tok (s.countOf d k.tok.ctx) set way) := by
  have hcls := h.cls
  have hdup : ∀ l : List Entry, (∀ g ∈ l, g ∈ (s.tile d).ents ++ (s.tile d).c0) → l.any (·.waits k.tok k.tok.port) = false := fun l hl =>
    List.any_eq_false.2 fun g hg hw => h.new g (hl g hg) (Entry.waits_iff.1 hw)
  have hents := hdup (s.tile d).ents fun _ => List.mem_append_left _
  have hc0 := hdup (s.tile d).c0 fun _ => List.mem_append_right _
  have hcap' : ¬(s.countOf d k.tok.ctx = .o ∧ s.fget F.ADMCAP_CAP d 0 ≤ s.fget F.ADMRES_RES d 0 + s.fget F.POPCNT_OPOP d 0) :=
    fun hfull => absurd (h.cap hfull.1) (Nat.not_lt.2 hfull.2)
  have hcount : s.popFor d k.tok.ctx = s.countOf d k.tok.ctx := rfl
  unfold Entry.waits at hents hc0
  unfold State.takeEntry
  simp only [hpop, hcls, hents, hc0, hcount, hcap', h.key, makeWay_of_room h.room, h.lowest, if_true, if_false, true_and, Bool.or_self, Bool.and_false]
  rfl

theorem tile_entered (s : State) (d : Nat) (k : Token) (p : Pop) (set way : Nat) :
    (s.entered d k p set way).tile d = { s.tile d with ents := (s.tile d).ents ++ [⟨k, k.port, set, way, s.seqNo, p, false, (s.ctx k.ctx).cls⟩] } := by
  simp [State.entered, State.onTile]

theorem fget_entered (s : State) (d : Nat) (k : Token) (p : Pop) (set way : Nat) (f : Fld) (a i : Nat) :
    (s.entered d k p set way).fget f a i = (s.popIn d k.ctx p).fget f a i := rfl

theorem Only.entered {ch : Changes} {u s : State} (h : Only ch u s) {d : Nat} (k : Token) (p : Pop) (set way : Nat) (m : (.POPCNT, d, 0) ∈ ch.regs)
    (m' : (.OVERPOP, d, 0) ∈ ch.regs) (m'' : d ∈ ch.tiles) (m''' : .stamp ∈ ch.parts) : Only ch u (s.entered d k p set way) :=
  ((h.popIn k.ctx p m m').bump m''').onTile _ m''

/-! ### The lookup of a tile (02 R35, R36) -/

@[simp] theorem Tile.withTask_cache (x : Tile) (k : Task) : (x.withTask k).cache = x.cache := by
  unfold Tile.withTask
  split <;> rfl

/-- TOKEN_LOOKUP of a tile whose state does not move. -/
theorem tokenLookup_completes {z : State} {dt : Nat} {d : TileId} {P : State → Prop} (h : (z.advance dt).frozen d = false)
    (hP : P ((z.advance dt).lookupFrom d [0, 1, 2, 3])) : Completes (.tokenLookup dt d) z P := by
  refine ⟨_, ?_, hP⟩
  change execTokenLookup dt d z = _
  simp [execTokenLookup, h]

theorem lookupFrom_append {s : State} {d : Nat} {a l : List Nat} (h : ∀ j ∈ a, (s.tile d).stageHead j = none) : s.lookupFrom d (a ++ l) = s.lookupFrom d l := by
  induction a with
  | nil => rfl
  | cons j a ih =>
    rw [List.cons_append, State.lookupFrom, h j List.mem_cons_self]
    exact ih fun i hi => h i (List.mem_cons_of_mem _ hi)

section
variable {u : State} {d c : Nat} {k : Staged} {loc : Bool}

/-- The lookup begins with the first stage that has a head. -/
theorem lookupFrom_next (h : u.NextToken d c k loc) : u.lookupFrom d [0, 1, 2, 3] = u.lookupFrom d (c :: List.range' (c + 1) (3 - c)) := by
  have hc := h.cls
  have hsplit : [0, 1, 2, 3] = List.range c ++ c :: List.range' (c + 1) (3 - c) := by interval_cases c <;> rfl
  rw [hsplit, lookupFrom_append fun j hj => h.before j (List.mem_range.1 hj)]

theorem lookupFrom_done (h : u.NextToken d c k loc) {t : State} (hl : (u.onTile d fun x => x.stagePop c loc).lookup d k true = .done t) :
    u.lookupFrom d [0, 1, 2, 3] = t := by
  rw [lookupFrom_next h, State.lookupFrom, h.head]
  dsimp only
  rw [hl]

/-- Stage c of the tile is found stalled, and marked. -/
def State.stallStage (u : State) (d c : Nat) : State := u.onTile d fun x => { x with stalled := c :: x.stalled.filter (· ≠ c) }

theorem stageHead_stallStage (u : State) (d c j : Nat) : ((u.stallStage d c).tile d).stageHead j = (u.tile d).stageHead j := by
  rw [State.stallStage, State.onTile, State.tile_setTile_self]
  rfl

/-- A head that has to wait stays in its stage, and the lookup goes on to the stages after it. -/
theorem lookupFrom_stall (h : u.NextToken d c k loc) {t : State} (hl : (u.onTile d fun x => x.stagePop c loc).lookup d k true = .stall t)
    (hrest : ∀ j, c < j → j < 4 → (u.tile d).stageHead j = none) : u.lookupFrom d [0, 1, 2, 3] = u.stallStage d c := by
  have hempty : ∀ j ∈ List.range' (c + 1) (3 - c), ((u.stallStage d c).tile d).stageHead j = none := by
    intro j hj
    obtain ⟨hle, hlt⟩ := List.mem_range'_1.1 hj
    have hc := h.cls
    rw [stageHead_stallStage]
    exact hrest j hle (by omega)
  have hlast := lookupFrom_append (l := []) hempty
  rw [List.append_nil] at hlast
  rw [lookupFrom_next h, State.lookupFrom, h.head]
  dsimp only
  rw [hl]
  exact hlast

theorem lookupFrom_monadic (h : u.NextToken d c k loc) (hm : u.Meets d k .monadic) (hroom : u.readyFull d (u.ctx k.tok.ctx).cls = false) :
    let t := u.lookupFrom d [0, 1, 2, 3]
    t.tile d = ((u.tile d).lookedUp c loc (t.tile d).cache).withTask (u.taskFor (u.firingOf d k.tok none none (some k.tok))) ∧
      Only { tiles := [d], parts := [.stamp] } u t := by
  obtain ⟨l, hl⟩ := lookup_of_meets (c := c) (loc := loc) hm
  rw [meetNode_monadic (s := u.lookedUp d c loc l) hm.cls (by simpa using hroom)] at hl
  rw [lookupFrom_done h hl]
  refine ⟨?_, (Only.lookedUp u d c loc l (by simp)).makeReady _ (by simp) (by simp)⟩
  rw [makeReady_eq, State.tile_setTile_self, State.tile_lookedUp, Tile.withTask_cache]
  rfl

theorem lookupFrom_monadic_full (h : u.NextToken d c k loc) (hm : u.Meets d k .monadic) (hfull : u.readyFull d (u.ctx k.tok.ctx).cls = true)
    (hrest : ∀ j, c < j → j < 4 → (u.tile d).stageHead j = none) :
    let t := u.lookupFrom d [0, 1, 2, 3]
    t.tile d = { u.tile d with stalled := c :: (u.tile d).stalled.filter (fun j => j ≠ c) } ∧ Only { tiles := [d] } u t := by
  obtain ⟨l, hl⟩ := lookup_of_meets (c := c) (loc := loc) hm
  rw [meetNode_monadic_full (s := u.lookedUp d c loc l) hm.cls (by simpa using hfull)] at hl
  rw [lookupFrom_stall h hl hrest]
  exact ⟨State.tile_setTile_self .., (Only.refl _ u).onTile _ (by simp)⟩

/-- A token that is not sticky and in no count yet meets a dyadic node that has no sticky entry at the other port. -/
structure State.MeetsDyadic (u : State) (d : Nat) (k : Staged) : Prop where
  pop : k.pop = .none
  meets : u.Meets d k .dyadic
  plain : k.tok.sticky = false
  stk : u.stickyOf d k.tok.ctx k.tok.idx (1 - k.tok.port) = none

theorem lookupFrom_pair {e : Entry} (h : u.NextToken d c k loc) (hm : u.MeetsDyadic d k) (hroom : u.readyFull d (u.ctx k.tok.ctx).cls = false)
    (he : u.partner d k.tok (1 - k.tok.port) = some e) :
    let t := u.lookupFrom d [0, 1, 2, 3]
    t.tile d = ({ (u.tile d).lookedUp c loc (t.tile d).cache with
        ents := (u.tile d).ents.filter fun g => g.stamp ≠ e.stamp
        c0 := (u.tile d).c0.filter fun g => g.stamp ≠ e.stamp } : Tile).withTask (u.taskFor (u.pairFiring d k.tok e.tok)) ∧
      PopLeft u t d e.pop ∧ Only { regs := [(.POPCNT, d, 0)], tiles := [d], parts := [.stamp] } u t := by
  obtain ⟨l, hl⟩ := lookup_of_meets (c := c) (loc := loc) hm.meets
  have hpair := arrivePair_partner (s := u.lookedUp d c loc l) (d := d) (k := k) (e := e) (dyadic_port_lt hm.meets.port) hm.pop
    (by simpa using hm.stk) (by simpa using he) (by simpa using hroom)
  rw [meetNode_dyadic (s := u.lookedUp d c loc l) hm.meets.cls hm.plain hpair] at hl
  rw [lookupFrom_done h hl]
  refine ⟨?_, popLeft_fired (u.lookedUp d c loc l) d k.tok e, (Only.lookedUp u d c loc l (by simp)).fired _ _ (by simp) (by simp) (by simp)⟩
  rw [tile_fired, State.tile_lookedUp, Tile.withTask_cache, Tile.dropStamp, Tile.lookedUp_ents, Tile.lookedUp_c0]
  rfl

theorem lookupFrom_alone {set way : Nat} (h : u.NextToken d c k loc) (hm : u.MeetsDyadic d k) (hpartner : u.partner d k.tok (1 - k.tok.port) = none)
    (hspill : (u.tile d).setSpilled set = 0) (hway : u.TakesWay d k.tok set way) :
    let t := u.lookupFrom d [0, 1, 2, 3]
    t.tile d = { (u.tile d).lookedUp c loc (t.tile d).cache with
        ents := (u.tile d).ents ++ [⟨k.tok, k.tok.port, set, way, u.seqNo, u.countOf d k.tok.ctx, false, (u.ctx k.tok.ctx).cls⟩] } ∧
      t.fget F.POPCNT_CPOP d 0 = (u.fget F.POPCNT_CPOP d 0 + b2n (decide (u.countOf d k.tok.ctx = .c))) % 2 ^ 21 ∧
      t.fget F.POPCNT_OPOP d 0 = (u.fget F.POPCNT_OPOP d 0 + b2n (decide (u.countOf d k.tok.ctx = .o))) % 2 ^ 21 ∧
      Only { regs := [(.POPCNT, d, 0), (.OVERPOP, d, 0)], tiles := [d], parts := [.stamp] } u t := by
  obtain ⟨l, hl⟩ := lookup_of_meets (c := c) (loc := loc) hm.meets
  have hentry := takeEntry_way hm.pop (hway.lookedUp c loc l)
  have hpair := arrivePair_alone (s := u.lookedUp d c loc l) (d := d) (k := k) (dyadic_port_lt hm.meets.port) (by simpa using hm.stk) (by simpa using hpartner)
    (by simpa [hway.key] using hspill)
  rw [hentry] at hpair
  rw [meetNode_dyadic (s := u.lookedUp d c loc l) hm.meets.cls hm.plain hpair] at hl
  rw [lookupFrom_done h hl]
  refine ⟨?_, ?_, ?_, (Only.lookedUp u d c loc l (by simp)).entered _ _ _ _ (by simp) (by simp) (by simp) (by simp)⟩
  · rw [id, tile_entered, State.tile_lookedUp, Tile.lookedUp_ents]
    rfl
  · exact (fget_entered ..).trans (fget_popIn_cpop ..)
  · exact (fget_entered ..).trans (fget_popIn_opop ..)

theorem tile_pushFault {s : State} {d : Nat} {j : Token} (h : s.Still) (hq : s.QuietQ d 255) (a : Nat) : (s.pushFault d j).tile a = s.tile a := by
  unfold State.pushFault
  split
  · exact qPut_tile h hq a
  · rfl

theorem still_lookedUp (h : u.Still) (l : List CEnt) : (u.lookedUp d c loc l).Still where
  banks a := by
    by_cases ha : a = d
    · rw [ha, State.tile_lookedUp, Tile.lookedUp_borrow]
      exact h.banks d
    · rw [State.lookedUp, State.tile_setTile_ne _ _ ha]
      exact h.banks a
  dram := h.dram
  form := h.form

theorem lookupFrom_refused {code : Nat} (h : u.NextToken d c k loc) (hpop : k.pop = .none) (hcode : u.Refuses d k code)
    (hstill : u.Still) (hquiet : u.QuietQ d 255) :
    let t := u.lookupFrom d [0, 1, 2, 3]
    t.tile d = (u.tile d).lookedUp c loc (t.tile d).cache ∧ Reported u t d (u.mkFault k.tok.tag (some k.tok) code 2 d (graphAddr d k.tok.idx)) ∧
      Only ((reportChanges d).and { tiles := [d] }) u t := by
  obtain ⟨l, hl⟩ := lookup_refused (c := c) (loc := loc) hpop hcode
  have hs := still_lookedUp (d := d) (c := c) (loc := loc) hstill l
  have hq : (u.lookedUp d c loc l).QuietQ d 255 := ⟨hquiet.threads, hquiet.marks⟩
  rw [lookupFrom_done h hl]
  refine ⟨?_, (pushFault_reported hs hq).of rfl (fun _ _ _ => rfl) fun _ => rfl, ?_⟩
  · rw [State.refuseTok, tile_pushFault hs hq, State.tile_lookedUp, Tile.lookedUp_cache]
  · exact (Only.lookedUp u d c loc l (by simp [Changes.and])).pushFault hs hq (fun _ => List.mem_append_left _) (by simp [Changes.and, reportChanges])
      (by simp [Changes.and, reportChanges])

end

/-! ### The spill write buffer (02 R39) -/

theorem spillWriteBufferDrain_completes {z : State} {dt : Nat} {d : TileId} {P : State → Prop} (hP : P ((z.advance dt).drainOne d)) :
    Completes (.spillWriteBufferDrain dt d) z P := ⟨_, rfl, hP⟩

theorem putBlock_full {e : Entry} {a l : List (List Entry)} (h : ∀ b ∈ a, 31 ≤ b.length) : putBlock e (a ++ l) = a ++ putBlock e l := by
  induction a with
  | nil => rfl
  | cons b a ih =>
    rw [List.cons_append, putBlock, if_neg (Nat.not_lt.2 (h b List.mem_cons_self)), ih fun x hx => h x (List.mem_cons_of_mem _ hx), List.cons_append]

theorem putBlock_room {e : Entry} {a q : List (List Entry)} {b : List Entry} (h : ∀ l ∈ a, 31 ≤ l.length) (hb : b.length < 31) :
    putBlock e (a ++ b :: q) = a ++ (b ++ [e]) :: q := by
  rw [putBlock_full h, putBlock, if_pos hb]

theorem putBlock_new {e : Entry} {a : List (List Entry)} (h : ∀ l ∈ a, 31 ≤ l.length) : putBlock e a = a ++ [[e]] := by
  simpa [putBlock] using putBlock_full (l := []) (e := e) h

theorem drainOne_cons {u : State} {d : Nat} {e : Entry} {r : List Entry} (h : (u.tile d).wbuf = e :: r) {chain : List (List Entry)}
    (hput : putBlock e (tget (u.tile d).spill [] e.set) = chain) :
    (u.drainOne d).tile d = { u.tile d with wbuf := r, spill := tput (u.tile d).spill e.set chain } ∧ Only { tiles := [d] } u (u.drainOne d) := by
  unfold State.drainOne
  dsimp only
  rw [h]
  dsimp only
  rw [hput]
  exact ⟨State.tile_setTile_self .., (Only.refl _ u).setTile _ (by simp)⟩

/-! ### Probes of the spill area (02 R40) -/

theorem refill_completes {z : State} {dt : Nat} {d : TileId} {i : Fin 64} {P : State → Prop} (hP : P ((z.advance dt).refill d i)) :
    Completes (.refill dt d i) z P := ⟨_, rfl, hP⟩

/-- Probe p is at place i of its table; it waits for the partner of a token of a dyadic node, has found nothing, and no partner is on chip. -/
structure State.Probes (u : State) (d i : Nat) (p : Probe) : Prop where
  place : (u.tile d).probes[i]? = some p
  found : p.found = []
  joined : p.joined = []
  pop : p.first.pop = .none
  port : p.first.tok.port < 2
  node : nodeKind p.first.tok.idx (u.gword d p.first.tok.idx) = some .dyadic
  stk : u.stickyOf d p.first.tok.ctx p.first.tok.idx (1 - p.first.tok.port) = none
  chip : ∀ g ∈ (u.tile d).ents ++ (u.tile d).c0, ¬g.waitsFor p.first.tok (1 - p.first.tok.port)

/-- A bucket's chain without the entries of a stamp, and without the blocks that this empties. -/
def dropFromChain (n : Nat) (chain : List (List Entry)) : List (List Entry) := (chain.map fun l => l.filter fun g => g.stamp ≠ n).filter fun l => !l.isEmpty

theorem unspill_eq (s : State) (d : Nat) (e : Entry) :
    s.unspill d e = (s.setTile d { s.tile d with spill := tput (s.tile d).spill e.set (dropFromChain e.stamp (tget (s.tile d).spill [] e.set)) }).inc F.REFILLS_COUNT d 0 := rfl

/-- An entry as it comes back from the spill area. -/
def Entry.back (e : Entry) : Entry := { e with tok := spilledTok e.tok }

/-- Bits below a field do not change it. -/
theorem wbits_or_low {w v : Word} {lo : Nat} (len : Nat) (h : v.toNat < 2 ^ lo) : wbits (w ||| v) lo len = wbits w lo len := by
  apply Nat.eq_of_testBit_eq
  intro i
  unfold wbits
  have hv : v.toNat.testBit (i + lo) = false := Nat.testBit_lt_two_pow (h.trans_le (Nat.pow_le_pow_right (by decide) (by omega)))
  rw [testBit_bits, testBit_bits, BitVec.toNat_or, Nat.testBit_or, hv, Bool.or_false]

/-- SPILLED lies below the fields of the key. -/
theorem back_waitsFor {e : Entry} {k : Token} {port : Nat} : e.back.waitsFor k port ↔ e.waitsFor k port := by
  have hctx : (spilledTok e.tok).ctx = e.tok.ctx := wbits_or_low _ (by decide)
  have hidx : (spilledTok e.tok).idx = e.tok.idx := wbits_or_low _ (by decide)
  have hiter : (spilledTok e.tok).iter = e.tok.iter := wbits_or_low _ (by decide)
  simp only [Entry.waitsFor, Entry.back, hctx, hidx, hiter]

/-- A port without an offer is missing until the probe has found an entry for it. -/
theorem missing_single {s : State} {d : Nat} {k : Token} {found : List Entry} {port : Nat} (h : s.offerOf d k port = none) :
    s.missing d k found [port] = if found.any fun e => e.port = port then [] else [port] := by
  cases hfound : found.any fun e => e.port = port <;> simp [State.missing, h, hfound]

section
variable {u : State} {d i : Nat} {p : Probe}

theorem State.Probes.offerOf (h : u.Probes d i p) : u.offerOf d p.first.tok (1 - p.first.tok.port) = none := by
  rw [offerOf_of_unstuck h.stk, partner_eq_none h.chip]
  rfl

/-- A block without the partner: the probe goes on to the next block. -/
theorem refill_next (h : u.Probes d i p) (hmiss : ∀ b, (tget (u.tile d).spill [] p.set)[p.block]? = some b → ∀ g ∈ b, ¬g.waitsFor p.first.tok (1 - p.first.tok.port))
    (hnext : p.block + 1 < (tget (u.tile d).spill [] p.set).length) :
    u.refill d i = u.onTile d fun y => { y with probes := (u.tile d).probes.filter (fun q => q ≠ p) ++ [{ p with block := p.block + 1 }] } := by
  have hblk : (((tget (u.tile d).spill [] p.set)[p.block]?).getD []).find? (·.waits p.first.tok (1 - p.first.tok.port)) = none := by
    refine List.find?_eq_none.2 fun g hg hw => ?_
    cases hb : (tget (u.tile d).spill [] p.set)[p.block]? with
    | none => simp [hb] at hg
    | some b => exact hmiss b hb g (by simpa [hb] using hg) (Entry.waits_iff.1 hw)
  have hfound := h.found
  obtain ⟨first, joined, set, block, found⟩ := p
  subst hfound
  unfold Entry.waits at hblk
  unfold State.refill
  simp only [h.place, h.node, dyadic_needs h.port, missing_single h.offerOf, List.any_nil, Bool.false_eq_true, if_false, List.filterMap_cons, hblk, List.filterMap_nil,
    List.foldl_nil, List.map_nil, List.append_nil, List.isEmpty_cons, List.isEmpty_nil, if_true, hnext]

/-- The state in which a probe has ended, and its partner e is back on chip. -/
def State.refilled (u : State) (d : Nat) (p : Probe) (e : Entry) : State :=
  (u.unspill d e).onTile d fun y => { y with probes := (u.tile d).probes.filter (fun q => q ≠ p), ents := y.ents ++ [e.back] }

theorem tile_unspill (u : State) (d : Nat) (e : Entry) :
    (u.unspill d e).tile d = { u.tile d with spill := tput (u.tile d).spill e.set (dropFromChain e.stamp (tget (u.tile d).spill [] e.set)) } := by
  rw [unspill_eq, State.inc, State.finc, State.tile_fset, State.tile_setTile_self]

@[simp] theorem State.ctx_unspill (u : State) (d : Nat) (e : Entry) (c : Nat) : (u.unspill d e).ctx c = u.ctx c := rfl

theorem tile_refilled (u : State) (d : Nat) (p : Probe) (e : Entry) : (u.refilled d p e).tile d =
    { u.tile d with
      spill := tput (u.tile d).spill e.set (dropFromChain e.stamp (tget (u.tile d).spill [] e.set))
      probes := (u.tile d).probes.filter (fun q => q ≠ p)
      ents := (u.tile d).ents ++ [e.back] } := by
  rw [State.refilled, State.onTile, State.tile_setTile_self, tile_unspill]

/-- While the partner is out of its block and not yet back on chip, no one offers it. -/
theorem State.Probes.offerOf_unspill (h : u.Probes d i p) (e : Entry) : (u.unspill d e).offerOf d p.first.tok (1 - p.first.tok.port) = none := by
  have hstk := h.stk
  have hchip := h.chip
  rw [offerOf_of_unstuck (by simpa [State.stickyOf, tile_unspill] using hstk), partner_eq_none (by simpa [tile_unspill] using hchip)]
  rfl

/-- The partner that has come back is what the token is offered. -/
theorem State.Probes.offersOf_refilled (h : u.Probes d i p) {e : Entry} (he : e.waitsFor p.first.tok (1 - p.first.tok.port)) :
    (u.refilled d p e).offersOf d p.first.tok [1 - p.first.tok.port] = some [(1 - p.first.tok.port, e.back.tok, some e.back)] := by
  have hchip := h.chip
  have honly : ∀ g ∈ ((u.refilled d p e).tile d).ents ++ ((u.refilled d p e).tile d).c0, g ≠ e.back → ¬g.waitsFor p.first.tok (1 - p.first.tok.port) := by
    intro g hg hne
    rw [tile_refilled] at hg
    refine hchip g ?_
    simpa [hne] using hg
  have hpartner : (u.refilled d p e).partner d p.first.tok (1 - p.first.tok.port) = some e.back :=
    partner_eq_some (by simp [tile_refilled]) (back_waitsFor.2 he) fun g hg hne hw => absurd hw (honly g hg hne)
  have hstk : (u.refilled d p e).stickyOf d p.first.tok.ctx p.first.tok.idx (1 - p.first.tok.port) = none := by
    simpa [State.stickyOf, tile_refilled] using h.stk
  rw [offersOf_single, offerOf_of_unstuck hstk, hpartner]
  rfl

/-- The partner is in the block: it is taken out, and the node fires. -/
theorem refill_hit {e : Entry} {a q : List Entry} (h : u.Probes d i p) (hblk : (tget (u.tile d).spill [] p.set)[p.block]? = some (a ++ e :: q))
    (he : e.waitsFor p.first.tok (1 - p.first.tok.port)) (ha : ∀ g ∈ a, ¬g.waitsFor p.first.tok (1 - p.first.tok.port))
    (hroom : u.readyFull d (u.ctx p.first.tok.ctx).cls = false) :
    u.refill d i = ((u.refilled d p e).fired d p.first.tok e.back).rejoin d [] := by
  have hhit : (a ++ e :: q).find? (·.waits p.first.tok (1 - p.first.tok.port)) = some e :=
    List.find?_eq_some_iff_append.2 ⟨Entry.waits_iff.2 he, a, q, rfl, fun g hg => Entry.not_waits_iff.2 (ha g hg)⟩
  have hback : [e.back].any (fun g => g.port = 1 - p.first.tok.port) = true := by
    obtain ⟨_, _, _, hport, _⟩ := he
    simpa [Entry.back] using hport
  have hroom' : (u.unspill d e).readyFull d ((u.unspill d e).ctx p.first.tok.ctx).cls = false := by
    simpa [State.readyFull, tile_unspill] using hroom
  have hoffers := h.offersOf_refilled he
  have hout := missing_single (found := [e.back]) (h.offerOf_unspill e)
  rw [if_pos hback] at hout
  have hfire := complete_dyadic (s := u.refilled d p e) (d := d) (e := e.back) h.port
  unfold Entry.waits at hhit
  unfold State.refilled Entry.back at hoffers hfire ⊢
  unfold Entry.back at hout
  unfold State.refill
  simp only [h.place, h.node, h.found, h.joined, h.pop, dyadic_needs h.port, missing_single h.offerOf, hblk, hhit, hout, hroom', hoffers, hfire, List.any_nil, Bool.false_eq_true, if_false,
    Option.getD_some, List.filterMap_cons, List.filterMap_nil, List.foldl_cons, List.foldl_nil, List.map_cons, List.map_nil, List.nil_append, List.isEmpty_nil, if_true, State.popOut_none]
end

section
variable {u : State} {d i : Nat} {p : Probe}

theorem tile_rejoin_nil (s : State) (d : Nat) : (s.rejoin d []).tile d = s.tile d := State.tile_setTile_self ..

theorem filter_fresh {l : List Entry} {n : Nat} (h : ∀ g ∈ l, g.stamp ≠ n) : (l.filter fun g => g.stamp ≠ n) = l :=
  List.filter_eq_self.2 fun g hg => decide_eq_true (h g hg)

/-- Once the returned partner has left the store, what is on chip is as it was before the probe ended. -/
theorem dropStamp_refilled {e : Entry} (hfresh : ∀ g ∈ (u.tile d).ents ++ (u.tile d).c0, g.stamp ≠ e.stamp) :
    ((u.refilled d p e).tile d).dropStamp e.stamp =
      { u.tile d with
        probes := (u.tile d).probes.filter (fun q => q ≠ p)
        spill := tput (u.tile d).spill e.set (dropFromChain e.stamp (tget (u.tile d).spill [] e.set)) } := by
  have hents := filter_fresh fun g hg => hfresh g (List.mem_append_left _ hg)
  have hc0 := filter_fresh fun g hg => hfresh g (List.mem_append_right _ hg)
  have hback : ([e.back].filter fun g => g.stamp ≠ e.stamp) = [] := List.filter_eq_nil_iff.2 fun g hg => by simp [List.mem_singleton.1 hg, Entry.back]
  rw [tile_refilled, Tile.dropStamp, List.filter_append, hents, hc0, hback, List.append_nil]

theorem fget_refilled_kind {e : Entry} {f : Fld} (a n : Nat) (h : f.kind ≠ .REFILLS) : (u.refilled d p e).fget f a n = u.fget f a n :=
  fget_inc_kind (f := F.REFILLS_COUNT) h

theorem counted_refilled (u : State) (d : Nat) (p : Probe) (e : Entry) : Counted u (u.refilled d p e) F.REFILLS_COUNT d 0 1 :=
  fget_inc _ F.REFILLS_COUNT d 0 (by decide)

theorem Only.refilled {ch : Changes} (e : Entry) (m : d ∈ ch.tiles) (m' : (.REFILLS, d, 0) ∈ ch.regs) : Only ch u (u.refilled d p e) :=
  (((Only.refl ch u).setTile _ m).inc (f := F.REFILLS_COUNT) m').onTile _ m

/-- A probe that finds its partner fires the node (02 R40). -/
theorem refill_pair {e : Entry} {a q : List Entry} (h : u.Probes d i p) (hblk : (tget (u.tile d).spill [] p.set)[p.block]? = some (a ++ e :: q))
    (he : e.waitsFor p.first.tok (1 - p.first.tok.port)) (ha : ∀ g ∈ a, ¬g.waitsFor p.first.tok (1 - p.first.tok.port)) (hset : e.set = p.set)
    (hfresh : ∀ g ∈ (u.tile d).ents ++ (u.tile d).c0, g.stamp ≠ e.stamp) (hroom : u.readyFull d (u.ctx p.first.tok.ctx).cls = false) :
    let t := u.refill d i
    t.tile d = ({ u.tile d with
        probes := (u.tile d).probes.filter (fun q => q ≠ p)
        spill := tput (u.tile d).spill p.set (dropFromChain e.stamp (tget (u.tile d).spill [] p.set)) } : Tile).withTask
          (u.taskFor (u.pairFiring d p.first.tok (spilledTok e.tok))) ∧
      Counted u t F.REFILLS_COUNT d 0 1 ∧ PopLeft u t d e.pop ∧ Only { regs := [(.REFILLS, d, 0), (.POPCNT, d, 0)], tiles := [d], parts := [.stamp] } u t := by
  rw [refill_hit h hblk he ha hroom]
  refine ⟨?tile, ?count, ?left, ?frame⟩
  case tile =>
    rw [tile_rejoin_nil, tile_fired, ← hset]
    exact congrArg (Tile.withTask · _) (dropStamp_refilled hfresh)
  case count =>
    exact (fget_fired (u.refilled d p e) ..).trans ((fget_popOut_kind _ _ _ _ _ (by decide)).trans (counted_refilled u d p e))
  case left =>
    have hleft := popLeft_fired (u.refilled d p e) d p.first.tok e.back
    unfold PopLeft at hleft
    rwa [fget_refilled_kind _ _ (by decide), fget_refilled_kind _ _ (by decide)] at hleft
  case frame =>
    exact ((Only.refilled e (by simp) (by simp)).fired _ _ (by simp) (by simp) (by simp)).onTile _ (by simp)
end

/-- Settles O28: the clauses of the lookup by the outcome of the head's lookup (fault checks in the order of log 70), those of the write buffer by the first block with room, those of a probe by what its block holds. -/
theorem tokensMeetTheStore : Obligations.TokensMeetTheStore := by
  unfold Obligations.TokensMeetTheStore
  refine ⟨?lookup, ?drain, ?probe⟩
  case lookup =>
    intro z dt d c k loc u m x y pair hnext hpop _
    refine ⟨?fires, ?stays, ?pairs, ?enters, ?refused⟩
    case fires =>
      rintro f hm rfl hroom
      exact tokenLookup_completes hnext.here (lookupFrom_monadic hnext hm hroom)
    case stays =>
      intro hm hfull hrest
      exact tokenLookup_completes hnext.here (lookupFrom_monadic_full hnext hm hfull hrest)
    case pairs =>
      intro e hm hsticky hstk hroom he hw hold
      exact tokenLookup_completes hnext.here (lookupFrom_pair hnext ⟨hpop, hm, hsticky, hstk⟩ hroom (partner_eq_some he hw hold))
    case enters =>
      intro set ways way hlt hm hsticky hstk hnone hnew hspill hcls hroom hfree hlow hcap
      have hown : ((u.tile d).ents.filter fun e => e.set = set).length < 8 := (List.length_map ..).symm.trans_lt hroom
      have hway : u.TakesWay d m set way := ⟨hcls, hnew, hcap, rfl, hown, freeWay_eq hlt hfree hlow⟩
      exact tokenLookup_completes hnext.here (lookupFrom_alone hnext ⟨hpop, hm, hsticky, hstk⟩ (partner_eq_none hnone) hspill hway)
    case refused =>
      intro code hcode hstill hquiet
      exact tokenLookup_completes hnext.here (lookupFrom_refused hnext hpop hcode hstill hquiet)
  case drain =>
    intro z dt d e r u chain hbuf
    refine ⟨fun a b q hchain hfull hroom => ?_, fun hfull => ?_⟩
    · exact spillWriteBufferDrain_completes (drainOne_cons hbuf ((congrArg (putBlock e) hchain).trans (putBlock_room hfull hroom)))
    · exact spillWriteBufferDrain_completes (drainOne_cons hbuf (putBlock_new hfull))
  case probe =>
    intro z dt d i p u m chain rest other hplace hfound hjoined hpop hport hnode hstk hchip
    have hprobe : u.Probes d i p := ⟨hplace, hfound, hjoined, hpop, hport, hnode, hstk, hchip⟩
    refine ⟨fun b e a q hb hsplit he ha hset hfresh hroom => ?_, fun hmiss hmore => ?_⟩
    · exact refill_completes (refill_pair hprobe (hb.trans (congrArg some hsplit)) he ha hset hfresh hroom)
    · refine refill_completes ?_
      rw [refill_next hprobe hmiss hmore]
      exact ⟨State.tile_setTile_self .., (Only.refl _ u).onTile _ (by simp)⟩

end Sys2Proof.Machine

/-! Lanes and hardware queues (03 R70, R74, R75; 05 R130; 06 R144): the writes of their registers that are refused, made by a thread in the shadow of a load. -/
namespace Sys2Proof.Machine

/-- A trap lands the data of a load in its shadow in the w registers (05 R130), and `RefusedWith` has the registers of a thread with no load open. -/
theorem not_completes_refusedWith {i : Sys2Proof.Instr} {z : State} {c n code k err : Nat}
    (htrap : exec i z = .next (z.trap c n code (z.thr c n).pc false))
    (hlands : (z.thr c n).landAll.w ≠ (z.thr c n).w) : ¬ Completes i z fun t => RefusedWith z t (.thread c n) k err := by
  rintro ⟨t, ht, hrefused⟩
  rw [htrap] at ht
  cases ht
  have htrapped : Trapped z (z.trap c n code (z.thr c n).pc false) c n k (z.thr c n).pc {} := hrefused
  exact hlands htrapped.landAll_w

/-! ### A lane that is not enabled (03 R70) -/

/-- EN = 1 for a lane whose source is queue 0 of tile 0. -/
def enFromQueue : Word := wd (2 ^ 0 + 2 * 2 ^ 26)

/-- The configuration passes the checks that every register has; queue 0 is not enabled, so the lane's own checks fail. -/
theorem inShadow_passes_enFromQueue : inShadow.Passes (.thread 64 0) .LANECFG 0 0 enFromQueue where
  dev := by decide
  host := by decide
  right := by decide
  reserved := by decide
  values := by decide
  rws := .inr (by decide)

theorem inShadow_laneChecks : inShadow.laneChecks enFromQueue = false := by decide

theorem inShadow_laneEnable : exec (.laneEnable (.thread 64 0) 0 enFromQueue) inShadow = .next (inShadow.trap 64 0 2 0 false) := rfl

/-- Refutes O35: a READY thread whose load has arrived in its shadow writes EN = 1 for a lane whose source queue is not enabled. The trap lands the load in w1 (05 R130), where `RefusedWith` has the registers of a thread with no load open. -/
theorem not_lanesAreEnabledAndDrained : ¬ Obligations.LanesAreEnabledAndDrained := by
  unfold Obligations.LanesAreEnabledAndDrained
  rintro ⟨henable, -, -, -⟩
  obtain ⟨-, hrefused⟩ := henable inShadow (.thread 64 0) 0 enFromQueue inShadow_passes_enFromQueue (by decide) (by decide) (by decide) (by decide)
  exact not_completes_refusedWith inShadow_laneEnable inShadow_lands (hrefused inShadow_laneChecks nofun inShadow_canTell)

/-! ### A doorbell that is not taken (03 R74) -/

/-- The same thread, with queue 0 of tile 0 enabled for pushes by hardware. -/
def inShadowQueue : State := inShadow.setReg .QCFG 0 0 1

theorem inShadowQueue_canTell : inShadowQueue.canTell (.thread 64 0) := ⟨by decide, by decide, by decide, fun h => absurd h (by decide)⟩

theorem inShadowQueue_qdbProd : exec (.qdbProd (.thread 64 0) 0 0 1) inShadowQueue = .next (inShadowQueue.trap 64 0 3 0 false) := rfl

/-- Refutes O36: a READY thread whose load has arrived in its shadow rings the doorbell of a queue that software does not produce to. The trap lands the load in w1 (05 R130), where `RefusedWith` has the registers of a thread with no load open. -/
theorem not_queuesMoveByDoorbellsPushesAndPops : ¬ Obligations.QueuesMoveByDoorbellsPushesAndPops := by
  unfold Obligations.QueuesMoveByDoorbellsPushesAndPops
  rintro ⟨-, hdoorbell, -, -⟩
  obtain ⟨-, -, hrefused⟩ := hdoorbell inShadowQueue (.thread 64 0) 0 0 1 (by decide) (by decide) (by decide)
  obtain ⟨hproducer, -⟩ := hrefused nofun inShadowQueue_canTell
  exact not_completes_refusedWith inShadowQueue_qdbProd inShadow_lands (hproducer (by decide))

end Sys2Proof.Machine

/-! Tokens and lane numbers of threads (03 R55, R62; 06 R159; 11 R275, R292). -/
namespace Sys2Proof.Machine

/-! ### Frames -/

/-- The second of two changes alone. -/
theorem Only.right {a b : Changes} {u t : State} (h : Only b u t) : Only (a.and b) u t :=
  h.weaken (fun _ m => List.mem_append_right _ m) (fun _ m => List.mem_append_right _ m) (fun _ m => List.mem_append_right _ m) (fun _ m => List.mem_append_right _ m)
    (fun _ m => List.mem_append_right _ m) (fun _ m => List.mem_append_right _ m) (fun _ m => List.mem_append_right _ m)

/-- One change after another of another kind. -/
theorem Only.and_trans {a b : Changes} {u s t : State} (h : Only a u s) (g : Only b s t) : Only (a.and b) u t := h.left.trans g.right

section
variable {u s t : State} {c n : Nat} {ch : Changes}

/-- An instruction that leaves its thread as the issue found it. -/
theorem Began.did_only (h : Began u s c n) (l : n < 16) (ht : Only ch s t) (m : (c, n) ∉ ch.threads) : Did u t c n (u.thr c n) ch where
  only := h.only.and_trans ht
  tile q := by rw [ht.tiles c q, h.tile]
  thread := by rw [ht.threads c n l m, h.bare]

/-- An instruction that has changed `ch` and then leaves its thread as `x`. -/
theorem Did.setThr {y z x : Thread} (h : Did u t c n y ch) (l : n < 16) (e : x.bare = z.bare) : Did u (t.setThr c n x) c n z ch where
  only := h.only.setThr _ l (by simp [issueChanges, Changes.and])
  tile := h.tile
  thread := by rw [State.thr_setThr_self, e]

theorem Did.parts {y : Thread} (h : Did u t c n y ch) {ps : List Part} (hp : ∀ p ∈ ch.parts, p ∈ ps) : Did u t c n y { ch with parts := ps } where
  only := h.only.grow (fun _ m => m) (fun _ m => m) (fun _ m => m) (fun _ m => m) (fun _ m => m) (fun _ m => m) hp
  tile := h.tile
  thread := h.thread

/-- An instruction that has changed `ch` and writes RD. -/
theorem Did.setW {y : Thread} (h : Did u t c n y ch) (l : n < 16) (rd : Nat) (v : Word) : Did u (t.onThr c n fun x => x.setW rd v) c n (y.setW rd v) ch :=
  h.setThr l (by rw [Thread.setW_bare, h.thread, ← Thread.setW_bare])

end

/-! ### What a token finds where its core sends it -/

/-- A state that shows the tokens of core c what `u` shows them: the routes, the ports, what is on its way, and the tiles up to what an issue records. -/
structure Alike (u s : State) : Prop where
  router : ∀ c, s.routerOf c = u.routerOf c
  route : ∀ r dest k, s.routeTok r dest k = u.routeTok r dest k
  site : ∀ d, s.siteOf d = u.siteOf d
  devnum : s.devnum = u.devnum
  mesh : s.mesh = u.mesh
  windows : s.winq = u.winq
  now : s.now = u.now
  stamp : s.seqNo = u.seqNo
  tiles : ∀ e, (s.tile e).bare = (u.tile e).bare

section
variable {u s : State} {c n : Nat}

theorem Began.siteOf (h : Began u s c n) (d : TokTo) : s.siteOf d = u.siteOf d := by
  have hslice : ∀ l, s.laneSlice l = u.laneSlice l := laneSlice_of fun a i => h.reg a i (by decide) (by decide) (by decide)
  cases d <;> simp only [State.siteOf, State.sliceSite, h.routerOf, hslice]

theorem Began.devnum (h : Began u s c n) : s.devnum = u.devnum := h.fget 0 0 (by decide) (by decide) (by decide)

theorem Began.tile_bare (h : Began u s c n) (e : Nat) : (s.tile e).bare = (u.tile e).bare := by
  by_cases hc : e = c
  · rw [hc, h.tile]
  · rw [h.only.tiles e (by simp [issueChanges, hc])]

theorem Began.alike (h : Began u s c n) : Alike u s where
  router := h.routerOf
  route r dest k := by
    unfold State.routeTok
    rw [h.devnum]
  site := h.siteOf
  devnum := h.devnum
  mesh := h.mesh
  windows := h.part .windows
  now := h.now
  stamp := h.stamp
  tiles := h.tile_bare

/-- Where only the bookkeeping of issues differs, a tile with local emissions is the same with that bookkeeping taken over. -/
theorem Tile.inL_of_bare {x y : Tile} (h : x.bare = y.bare) (k : Nat) (e : Staged) :
    { x with inL := tput x.inL k (tget x.inL [] k ++ [e]) } =
      { y with inL := tput y.inL k (tget y.inL [] k ++ [e]), lastIssue := x.lastIssue, cache := x.cache } := by
  cases x
  cases y
  simp only [Tile.bare, Tile.mk.injEq] at h ⊢
  simp_all

theorem Alike.freeWay (h : Alike u s) {r : Nat} {e : Bool} {p : Packet} (w : u.freeWay r e p) : s.freeWay r e p := by
  unfold State.freeWay State.retq State.fencedAt State.bufUsed State.buf at w ⊢
  rwa [h.mesh]

/-- A packet that finds its way free leaves at once. -/
theorem Alike.injects (h : Alike u s) {r : Nat} {e : Bool} {p : Packet} (w : u.freeWay r e p) :
    ∃ t, s.inject r e p = .sent t ∧ Offered u t r e p ∧ Only { parts := [.stamp, .mesh] } s t := by
  refine ⟨_, inject_free (h.freeWay w), ?_, ?_⟩
  · simp only [Offered, State.setBuf, State.bump, State.buf, h.mesh, h.now, h.stamp]
  · exact ((Only.refl _ s).bump (by simp)).setBuf _ _ (by simp)

/-- A token that does not need a missing device number and is not for the own tile is offered to the mesh. -/
theorem sendTok_away {own : Option Nat} {r : Nat} {e : Bool} {dest : TokTo} {k : Token} (hn : ∀ g, s.routeTok r dest k = .fabric g → s.devnum = 0xFFFF → k.dev = 0xFFFF)
    (hs : ¬(s.siteOf (s.routeTok r dest k) = (r, e) ∧ own.isSome = true)) :
    s.sendTok own r e dest k = s.inject r e (mkPacket 0 (k.cls + 1) (s.siteOf (s.routeTok r dest k)).1 (s.siteOf (s.routeTok r dest k)).2 r e 1
      (.tok k (s.routeTok r dest k) (own.getD 0))) := by
  unfold State.sendTok
  dsimp only
  rw [if_neg, if_neg hs]
  intro hmissing
  cases hto : s.routeTok r dest k with
  | fabric g =>
    rw [hto] at hmissing
    simp only [Bool.and_eq_true, decide_eq_true_eq] at hmissing
    exact hmissing.2 (hn g hto hmissing.1)
  | _ =>
    rw [hto] at hmissing
    cases hmissing

theorem ownTile_getD (c : Nat) : (ownTile c).getD 0 = if c < 64 then c else 0 := by
  unfold ownTile
  split <;> rfl

theorem ownTile_isSome (c : Nat) : (ownTile c).isSome = true ↔ c < 64 := by
  unfold ownTile
  split <;> simp [*]

theorem routeTok_ne_queue {dest : TokTo} (hq : ∀ e q, dest ≠ .queue e q) {r : Nat} {k : Token} {e q : Nat} : u.routeTok r dest k ≠ .queue e q := by
  unfold State.routeTok
  split
  · split <;> nofun
  · exact hq e q

/-- A token of core c that can be sent leaves at once, as `Sent` says. -/
theorem Alike.sends {dest : TokTo} {k : Token} (h : Alike u s) (hq : ∀ e q, dest ≠ .queue e q) (hc : u.canSend c dest k) :
    ∃ t, s.sendTok (ownTile c) (s.routerOf c) false dest k = .sent t ∧ Sent u t c dest k ∧
      Only { tiles := u.sentTile c dest k, parts := [.stamp, .mesh, .windows] } s t := by
  obtain ⟨hnumber, hway⟩ := hc
  have hroute : s.routeTok (s.routerOf c) dest k = u.routeTok (u.routerOf c) dest k := by rw [h.route, h.router]
  have hsite : s.siteOf (s.routeTok (s.routerOf c) dest k) = u.siteOf (u.routeTok (u.routerOf c) dest k) := by rw [hroute, h.site]
  have hnone : ∀ g, s.routeTok (s.routerOf c) dest k = .fabric g → s.devnum = 0xFFFF → k.dev = 0xFFFF := by
    rw [hroute, h.devnum]
    exact hnumber
  have hqueue : ∀ e q, u.routeTok (u.routerOf c) dest k ≠ .queue e q := fun e q => routeTok_ne_queue hq
  by_cases hown : u.siteOf (u.routeTok (u.routerOf c) dest k) = (u.routerOf c, false) ∧ c < 64
  case pos =>
    obtain ⟨hs, hlt⟩ := hown
    have heq := sendTok_own (own := ownTile c) hnone (by rw [hsite, hs, h.router]) (by simp [ownTile, hlt])
    rw [hroute] at heq
    refine ⟨_, heq, ?_, ?_⟩
    · unfold Sent
      simp only [hs, hlt, and_self, if_true]
      cases hto : u.routeTok (u.routerOf c) dest k with
      | node e =>
        refine ⟨?_, h.mesh, h.windows⟩
        simp [State.deliverTok, State.stageLocal, State.onTile, Tile.inL_of_bare (h.tiles e)]
      | lane l => exact ⟨by simp [State.deliverTok, State.toWindow, State.bump, h.windows], h.mesh⟩
      | queue e q => exact absurd hto (hqueue e q)
      | fabric g => exact h.mesh
      | link l => exact h.mesh
    · unfold State.sentTile
      simp only [hs, hlt, and_self, if_true]
      cases hto : u.routeTok (u.routerOf c) dest k with
      | node e =>
        change Only { tiles := [e], parts := [.stamp, .mesh, .windows] } s (s.bump.stageLocal e k)
        exact ((Only.refl _ s).bump (by simp)).onTile _ (by simp)
      | lane l => exact ((Only.refl _ s).bump (by simp)).winq_ _ (by simp)
      | queue e q => exact absurd hto (hqueue e q)
      | _ => exact (Only.refl _ s).bump (by simp)
  case neg =>
    have haway : ¬(s.siteOf (s.routeTok (s.routerOf c) dest k) = (s.routerOf c, false) ∧ (ownTile c).isSome = true) := by
      rwa [hsite, h.router, ownTile_isSome]
    have heq := sendTok_away hnone haway
    rw [hsite, hroute, ownTile_getD, h.router] at heq
    obtain ⟨t, hsent, hoffered, honly⟩ := h.injects (hway hown)
    refine ⟨t, ?_, ?_, ?_⟩
    · rw [h.router, heq, hsent]
    · unfold Sent
      simp only [if_neg hown]
      exact ⟨hoffered, (honly.parts .windows (by simp)).trans h.windows⟩
    · exact honly.weaken (fun _ m => m) (fun _ m => m) (fun _ m => nomatch m) (fun _ m => m) (fun _ m => m) (fun _ m => m) (by simp)

end

/-! ### The numbers of a lane (03 R55, R62, R71) -/

section
variable {u s : State} {c n l : Nat}

/-- The state in which the next number of a lane has been taken shows a token what the state before it does. -/
theorem Alike.laneTake (h : Alike u s) (l : Nat) : Alike u (s.laneTake l).2 := ⟨h.router, h.route, h.site, h.devnum, h.mesh, h.windows, h.now, h.stamp, h.tiles⟩

theorem Only.laneTake {ch : Changes} (h : Only ch u s) (m : l ∈ ch.lanes) (m' : .ctl ∈ ch.parts) : Only ch u (s.laneTake l).2 := (h.setLane _ m).post m'

theorem Began.lane (h : Began u s c n) (l : Nat) : s.lane l = u.lane l := h.only.lanes l (by simp [issueChanges])

theorem Began.ctl (h : Began u s c n) : s.ctl = u.ctl := h.part .ctl

theorem Began.taken (h : Began u s c n) (l : Nat) : Taken u (s.laneTake l).2 l := by
  unfold State.laneTake
  dsimp only
  rw [h.lane]
  exact ⟨State.lane_setLane_self .., congrArg (· ++ _) h.ctl⟩

theorem Began.laneAlloc (h : Began u s c n) (hm : u.mayAlloc c l) : s.laneAlloc c l = if (u.lane l).credit = 0 then .wait else .num (u.lane l).next (s.laneTake l).2 := by
  obtain ⟨hkind, hsource, hcore, hactive⟩ := hm
  have hf : ∀ {f : Fld}, f.kind = .LANECFG → s.fget f 0 l = u.fget f 0 l := fun hk =>
    h.fget 0 l (by rw [hk]; decide) (by rw [hk]; decide) (by rw [hk]; decide)
  unfold State.laneAlloc
  rw [hf rfl, hf rfl, h.lane, hkind, hsource, hactive, if_neg (by simp [hcore]), ← congrArg Lane.next (h.lane l)]
  rfl

end

/-! ### EMIT and ALLOC (06 R159) -/

theorem isRow_emit : IsRow (fun dt c n => .emit dt c n) 0xB0 xEmit := ⟨fun _ _ _ _ => rfl, rfl⟩

theorem isRow_alloc : IsRow (fun dt c n => .alloc dt c n) 0xB1 xAlloc := ⟨fun _ _ _ _ => rfl, rfl⟩

/-- Where EMIT sends a token: to the window of its lane, or to its node. -/
def Ins.emitTo (o : Ins) (k : Token) : TokTo := if bit (iAM o.w) 0 then .lane k.lane else .node k.tile

theorem emitTo_ne_queue (o : Ins) (k : Token) : ∀ e q, o.emitTo k ≠ .queue e q := by
  intro e q
  unfold Ins.emitTo
  split <;> nofun

/-- The token with the number that it took. -/
def Token.numbered (k : Token) (d : Nat) : Token := { k with tag := wset k.tag 0 1 1, dst := wset k.dst 12 24 d }

theorem emitTo_numbered (o : Ins) (k : Token) (d : Nat) : o.emitTo (k.numbered d) = o.emitTo k := by
  have hlane : (k.numbered d).lane = k.lane := wbits_wset_ne _ _ _ _ _ _ (by decide)
  have htile : (k.numbered d).tile = k.tile := wbits_wset_ne _ _ _ _ _ _ (by decide)
  unfold Ins.emitTo
  rw [hlane, htile]

section
variable {u s : State} {c n : Nat} {o : Ins}

/-- EMIT sends its token once it is complete, and answers the number. -/
def State.emits (s : State) (c n : Nat) (o : Ins) (k : Token) (d : Nat) : XRes :=
  (s.sendTok (ownTile c) (s.routerOf c) false (o.emitTo k) k).res fun s => s.onThr c n fun y => y.setW (iRD o.w) (wd d)

theorem xEmit_plain {k : Token} (hk : ((s.thr c n).tok4 (iRA o.w)).clean = k) (hq : quadOk (iRA o.w) = true) (hr : k.rsvd = false) (ha : bit (iAM o.w) 1 = false)
    (ho : bit (iAM o.w) 0 = true → k.ord = true) : xEmit s c n o = s.emits c n o k 0 := by
  subst hk
  unfold xEmit State.emits Ins.emitTo
  dsimp only
  rw [hq, hr, ha, if_neg (by simp), if_neg (by simpa using ho), if_neg (by simp)]

theorem xEmit_waits {k : Token} (hk : ((s.thr c n).tok4 (iRA o.w)).clean = k) (hq : quadOk (iRA o.w) = true) (hr : k.rsvd = false) (ha : bit (iAM o.w) 1 = true)
    (hl : s.laneAlloc c k.lane = .wait) : xEmit s c n o = .wait s (.credit k.lane) := by
  subst hk
  unfold xEmit
  dsimp only
  rw [hq, hr, ha, if_neg (by simp), if_neg (by simp), if_pos rfl, hl]

theorem xEmit_numbered {k : Token} {d : Nat} {s' : State} (hk : ((s.thr c n).tok4 (iRA o.w)).clean = k) (hq : quadOk (iRA o.w) = true) (hr : k.rsvd = false)
    (ha : bit (iAM o.w) 1 = true) (hl : s.laneAlloc c k.lane = .num d s') : xEmit s c n o = s'.emits c n o (k.numbered d) d := by
  subst hk
  unfold xEmit State.emits Ins.emitTo
  dsimp only
  rw [hq, hr, ha, if_neg (by simp), if_neg (by simp), if_pos rfl, hl]
  rfl

theorem xAlloc_waits {j : Nat} (ha : (o.a (s.thr c n)).toNat = j) (hlt : j < 4096) (hl : s.laneAlloc c j = .wait) : xAlloc s c n o = .wait s (.credit j) := by
  subst ha
  unfold xAlloc
  dsimp only
  rw [if_neg hlt.not_ge, hl]

theorem xAlloc_numbered {j d : Nat} {s' : State} (ha : (o.a (s.thr c n)).toNat = j) (hlt : j < 4096) (hl : s.laneAlloc c j = .num d s') :
    xAlloc s c n o = .done (s'.onThr c n fun y => y.setW (iRD o.w) (wd d)) := by
  subst ha
  unfold xAlloc
  dsimp only
  rw [if_neg hlt.not_ge, hl]

/-- An emission that can be sent completes, from a state that the issue and `ch` have changed. -/
theorem emits_done {k : Token} {ch ch' : Changes} {s' : State} (hb : Began u s c n) (l : n < 16) (hd : Only ch s s') (halike : Alike u s')
    (hc : u.canSend c (o.emitTo k) k) (d : Nat)
    (hch : ch' = ch.and { tiles := u.sentTile c (o.emitTo k) k, parts := [.stamp, .mesh, .windows] }) (hthr : (c, n) ∉ ch'.threads) :
    ∃ t, s'.emits c n o k d = .done t ∧ Did u t c n ((u.thr c n).setW (iRD o.w) (wd d)) ch' ∧ Sent u t c (o.emitTo k) k ∧
      (∀ j, t.lane j = s'.lane j) ∧ t.ctl = s'.ctl := by
  obtain ⟨t, hsent, hSent, hOnly⟩ := halike.sends (emitTo_ne_queue o k) hc
  refine ⟨t.onThr c n fun y => y.setW (iRD o.w) (wd d), ?_, ?_, hSent, ?_, ?_⟩
  · unfold State.emits
    rw [hsent]
    rfl
  · subst hch
    exact (hb.did_only l (hd.and_trans hOnly) hthr).setW l _ _
  · exact fun j => hOnly.lanes j (by simp)
  · exact hOnly.parts .ctl (by simp)

end

theorem Completes.of_exists {i : Sys2Proof.Instr} {z : State} {P Q : State → Prop} (h : ∃ t, exec i z = .next t ∧ P t ∧ Q t) : Completes i z P :=
  h.imp fun _ ⟨he, hp, _⟩ => ⟨he, hp⟩

/-- Settles O14: EMIT from the sending of a token (`Alike.sends`), with a number when the lane has credit; both it and ALLOC wait for credit as `State.laneAlloc` says. -/
theorem threadsEmitTokensAndAllocateNumbers : Obligations.ThreadsEmitTokensAndAllocateNumbers := by
  unfold Obligations.ThreadsEmitTokensAndAllocateNumbers
  intro z dt c n o u x k dest y htakes hpc
  have hready : ∀ d, (y d).st = .ready := fun d => setW_ready htakes.ready _ _
  have hquiet : ∀ d, Quiet (y d).loads := fun d => setW_quiet htakes.loads _ _
  have htok : ∀ {s}, Began u s c n → ((s.thr c n).tok4 (iRA o.w)).clean = k := fun hb => by rw [hb.tok4]
  refine ⟨fun hop hquad hrsvd => ⟨fun halloc hord hsend => ?plain, ?alloc⟩, ?number⟩
  case plain =>
    refine isRow_emit.done htakes hop (fun s hb => ?_) (hready 0) (hquiet 0) (hpc 0)
    obtain ⟨t, hdone, hdid, hsent, -, -⟩ := emits_done hb n.isLt (Only.refl {} s) hb.alike hsend 0 rfl (by simp [Changes.and])
    exact ⟨t, (xEmit_plain (htok hb) hquad hrsvd halloc hord).trans hdone, hdid, fun _ => hsent⟩
  case alloc =>
    intro l m halloc hmay
    refine ⟨fun hcredit hsend => ?_, fun hcredit => ?_⟩
    · refine isRow_emit.done htakes hop (P := fun t => Taken _ t l ∧ Sent _ t c.val dest m) (fun s hb => ?_) (hready _) (hquiet _) (hpc _)
      have hdest : o.emitTo m = dest := emitTo_numbered o k _
      have hnumbered := (hb.laneAlloc hmay).trans (if_neg hcredit)
      rw [← hdest] at hsend ⊢
      obtain ⟨t, hdone, hdid, hsent, hlanes, hctl⟩ :=
        emits_done hb n.isLt (Only.laneTake (Only.refl { lanes := [l], parts := [.ctl] } s) (by simp) (by simp)) (hb.alike.laneTake l) hsend (u.lane l).next rfl
          (by simp [Changes.and])
      obtain ⟨hlane, hpost⟩ := hb.taken l
      refine ⟨t, (xEmit_numbered (htok hb) hquad hrsvd halloc hnumbered).trans hdone, hdid.parts (by simp [Changes.and]), fun _ => ⟨⟨(hlanes l).trans hlane, hctl.trans hpost⟩, hsent⟩⟩
    · exact .of_exists (isRow_emit.waits htakes hop (P := fun _ => True) (fun s hb => ⟨s, xEmit_waits (htok hb) hquad hrsvd halloc ((hb.laneAlloc hmay).trans (if_pos hcredit)),
        hb.did_only n.isLt (Only.refl _ s) (by simp), hb.stamp, hb.now, fun _ => trivial⟩) (by simp))
  case number =>
    intro l hop hlt hmay
    have hnumber : ∀ {s}, Began u s c n → (o.a (s.thr c n)).toNat = l := fun hb => by rw [hb.a]
    refine ⟨fun hcredit => ?_, fun hcredit => ?_⟩
    · refine isRow_alloc.done htakes hop (fun s hb => ?_) (hready _) (hquiet _) (hpc _)
      have htook : Only { lanes := [l], parts := [.ctl] } s (s.laneTake l).2 := (Only.refl _ s).laneTake (by simp) (by simp)
      exact ⟨_, xAlloc_numbered (hnumber hb) hlt ((hb.laneAlloc hmay).trans (if_neg hcredit)), (hb.did_only n.isLt htook (by simp)).setW n.isLt _ _, fun _ => hb.taken l⟩
    · exact .of_exists (isRow_alloc.waits htakes hop (P := fun _ => True) (fun s hb => ⟨s, xAlloc_waits (hnumber hb) hlt ((hb.laneAlloc hmay).trans (if_pos hcredit)),
        hb.did_only n.isLt (Only.refl _ s) (by simp), hb.stamp, hb.now, fun _ => trivial⟩) (by simp))

end Sys2Proof.Machine

/-! Hardware queues as threads push and pop them (03 R75 to R78; 06 R144, R159). -/
namespace Sys2Proof.Machine

/-! ### A thread gets its wake (05 R121) -/

section
variable {u s t : State} {c n : Nat} {r : WakeRes}

theorem enterReady_tile (s : State) (d : Nat) (k : TaskK) (cls pri act : Nat) (tm : Option Nat) :
    (s.enterReady d k cls pri act tm).tile d = (s.tile d).withTask ⟨k, cls, pri, act, s.seqNo, false, tm⟩ := by
  unfold State.enterReady Tile.withTask
  dsimp only
  split <;> exact State.tile_setTile_self ..

theorem woken_wake (hst : (s.thr c n).st = .wait) (hres : (s.thr c n).wres = none) (r : WakeRes) : Woken s (s.wake c n r) c n r := by
  refine ⟨by rw [wake_thr, if_pos ⟨rfl, .inl hst, hres⟩], ?_⟩
  unfold State.wake
  dsimp only
  rw [if_pos ⟨.inl hst, hres⟩, if_pos hst, enterReady_tile]
  rfl

theorem Woken.of (h : Woken s t c n r) (hthr : s.thr c n = u.thr c n) (htile : s.tile c = u.tile c) (hstamp : s.seqNo = u.seqNo) : Woken u t c n r := by
  unfold Woken at h ⊢
  rwa [hthr, htile, hstamp] at h

end

/-! ### QPUSH (03 R76, R78) -/

theorem isRow_qpush : IsRow (fun dt c n => .qpush dt (.strand c n)) 0xB5 xQpush := ⟨fun _ _ _ _ => rfl, rfl⟩

section
variable {s : State} {c n b : Nat} {o : Ins} {k : Token} (hk : ((s.thr c n).tok4 (iRA o.w)).clean = k) (hb : (o.b (s.thr c n)).toNat = b)
  (hquad : quadOk (iRA o.w) = true) (hlt : b < 16384) (hrsvd : k.rsvd = false)
include hk hb hquad hlt hrsvd

theorem xQpush_room (hown : b / 256 = c) (hroom : s.qRoom c (b % 256) = some true) : xQpush s c n o = .done (s.qPut c (b % 256) k) := by
  subst hk hb
  unfold xQpush
  dsimp only
  rw [hquad, hrsvd, if_neg (by simp), if_neg (by simp; omega), if_pos hown, hown, hroom]

theorem xQpush_full (hown : b / 256 = c) (hroom : s.qRoom c (b % 256) = some false) : xQpush s c n o = .wait s (.qFull c (b % 256)) := by
  subst hk hb
  unfold xQpush
  dsimp only
  rw [hquad, hrsvd, if_neg (by simp), if_neg (by simp; omega), if_pos hown, hown, hroom]

theorem xQpush_away (haway : b / 256 ≠ c) : xQpush s c n o =
    (s.inject (s.routerOf c) false (mkPacket 0 (k.cls + 1) (s.routerOf (b / 256)) false (s.routerOf c) false 1 (.tok k (.queue (b / 256) (b % 256)) c))).res id := by
  subst hk hb
  unfold xQpush
  dsimp only
  rw [hquad, hrsvd, if_neg (by simp), if_neg (by simp; omega), if_neg haway]

end

theorem Only.qPut_self {s : State} {d q : Nat} {k : Token} (h : s.Still) (hq : s.QuietQ d q) : Only { regs := [(.QPTR, d, q)], parts := [.mem, .ecc] } s (s.qPut d q k) :=
  (Only.refl _ s).qPut h hq (by simp) (by simp) (by simp)

/-! ### The retry of a push (03 R78) -/

theorem pushRetry_completes {z t : State} {dt : Nat} {c : CoreId} {n : ThreadId} {P : State → Prop} (h : (z.advance dt).pushRetry c n = t) (hP : P t) :
    Completes (.pushRetry dt c n) z P := ⟨t, congrArg _ h, hP⟩

section
variable {u : State} {c n q : Nat} (hst : (u.thr c n).st = .wait) (hwait : (u.thr c n).wait = .qFull c q) (hres : (u.thr c n).wres = none) (hdue : (u.thr c n).retryAt ≤ u.now)
include hst hwait hres hdue

theorem pushRetry_room (hroom : u.qRoom c q = some true) : u.pushRetry c n = (u.qPut c q ((u.thr c n).tok4 (u.thr c n).iwRA).clean).wake c n (.status 0) := by
  unfold State.pushRetry
  dsimp only
  rw [hwait]
  dsimp only
  rw [if_pos ⟨hst, hres, hdue⟩, hroom]

theorem pushRetry_full (hroom : u.qRoom c q = some false) : u.pushRetry c n = u.setThr c n { u.thr c n with retryAt := u.now + 8 } := by
  unfold State.pushRetry
  dsimp only
  rw [hwait]
  dsimp only
  rw [if_pos ⟨hst, hres, hdue⟩, hroom]

end

/-! ### QPOP and QPOPNB (03 R76, R77; 06 R144) -/

theorem isRow_qpop : IsRow (fun dt c n => .qpop dt c n) 0xB6 xQpop := ⟨fun _ _ _ _ => rfl, rfl⟩

theorem isRow_qpopnb : IsRow (fun dt c n => .qpopnb dt c n) 0xB7 xQpop := ⟨fun _ _ _ _ => rfl, rfl⟩

/-- The queue with the entry at HEAD taken out. -/
def State.popped (s : State) (t q : Nat) : State := s.fset F.QPTR_HEAD t q (s.fget F.QPTR_HEAD t q + 1)

theorem popped_popped (s : State) (t q : Nat) : Popped s (s.popped t q) t q := by
  unfold State.popped
  refine ⟨State.fget_fset_self _ _ _ _ _ (by decide), ?_, ?_, ?_⟩ <;> exact State.fget_fset_field _ _ _ _ rfl (by decide)

theorem chanPoke_free {s : State} {t q : Nat} (h : s.fget F.QPTR_RESV t q ≠ 1) : s.chanPoke t q = s := by
  unfold State.chanPoke
  rw [if_neg fun g => h g.1]

theorem threadPop_entry {s : State} {t q : Nat} (hocc : s.qOcc t q ≠ 0) (hmarks : s.fget F.QCFG_WMEN t q ≠ 1) (hfree : s.fget F.QPTR_RESV t q ≠ 1) :
    s.threadPop t q = (some (s.entry t q), s.popped t q) := by
  have hmarks' : (s.popped t q).fget F.QCFG_WMEN t q ≠ 1 := by
    unfold State.popped
    rwa [fget_fset_kind _ (by decide)]
  have hfree' : (s.popped t q).fget F.QPTR_RESV t q ≠ 1 := by
    unfold State.popped
    rwa [State.fget_fset_field (f := F.QPTR_HEAD) (f' := F.QPTR_RESV) _ _ _ _ rfl (by decide)]
  unfold State.threadPop
  rw [if_neg hocc]
  change (some (s.entry t q), ((s.popped t q).qMarks t q).chanPoke t q) = _
  rw [qMarks_off hmarks', chanPoke_free hfree']

theorem threadPop_empty {s : State} {t q : Nat} (hocc : s.qOcc t q = 0) : s.threadPop t q = (none, s) := by
  unfold State.threadPop
  rw [if_pos hocc]

section
variable {s : State} {c n q : Nat} {o : Ins} (hq : (o.a (s.thr c n)).toNat = q) (hquad : quadOk (iRD o.w) = true) (hlt : q < 256) (hc : c < 64) (hmay : s.popAllowed c q = true)
include hq hquad hlt hc hmay

theorem xQpop_entry (hocc : s.qOcc c q ≠ 0) (hmarks : s.fget F.QCFG_WMEN c q ≠ 1) (hfree : s.fget F.QPTR_RESV c q ≠ 1) : xQpop s c n o =
    .done ((s.popped c q).popLoad c n o (s.thr c n) (if o.op = 0xB7 then { s.thr c n with fl := setFlag (s.thr c n).fl 1 false } else s.thr c n) (s.entry c q)) := by
  subst hq
  unfold xQpop
  dsimp only
  rw [hquad, if_neg (by simp), if_neg hlt.not_ge, if_neg (by simp [hc, hmay]), threadPop_entry hocc hmarks hfree]
  rfl

theorem xQpop_waits (hocc : s.qOcc c q = 0) (hop : o.op = 0xB6) : xQpop s c n o = .wait s (.qEmpty q) := by
  subst hq
  unfold xQpop
  dsimp only
  rw [hquad, if_neg (by simp), if_neg hlt.not_ge, if_neg (by simp [hc, hmay]), threadPop_empty hocc]
  exact if_pos hop

theorem xQpop_zeros (hocc : s.qOcc c q = 0) (hop : o.op = 0xB7) :
    xQpop s c n o = .done (s.popLoad c n o (s.thr c n) { s.thr c n with fl := setFlag (s.thr c n).fl 1 true } ⟨0, 0, 0, 0⟩) := by
  subst hq
  unfold xQpop
  dsimp only
  rw [hquad, if_neg (by simp), if_neg hlt.not_ge, if_neg (by simp [hc, hmay]), threadPop_empty hocc]
  exact if_neg (by omega)

end

section
variable {u s : State} {c n : Nat} {o : Ins}

theorem Began.popAllowed (h : Began u s c n) (t q : Nat) : s.popAllowed t q = u.popAllowed t q := by
  unfold State.popAllowed
  rw [h.qfget t q (.inr (.inl rfl)), h.qfget t q (.inr (.inl rfl))]

theorem Began.qRead (h : Began u s c n) (t q i : Nat) : s.qRead t q i = u.qRead t q i := by
  change Token.ofNum (ofBytes (readBytes s.mem (s.entryAt t q i) 32)) = _
  rw [h.mem, h.entryAt]
  rfl

theorem Began.entry (h : Began u s c n) (t q : Nat) : s.entry t q = u.entry t q := by
  unfold State.entry
  rw [h.qRead, h.qfget t q (.inl rfl)]

theorem Began.popped (h : Began u s c n) {t : State} {d q : Nat} (p : Popped s t d q) : Popped u t d q := by
  have hf : ∀ {f : Fld}, f.kind = .QPTR → s.fget f d q = u.fget f d q := fun hk => h.qfget d q (.inl hk)
  unfold Popped at p ⊢
  rwa [hf rfl, hf rfl, hf rfl, hf rfl] at p

/-- The load of a pop opens in a state that `ch` has led to since the issue; `y`: the thread as the instruction leaves it. -/
theorem Began.popLoad {t : State} {ch : Changes} {y y' : Thread} (h : Began u s c n) (l : n < 16) (ht : Only ch s t) (hthr : (c, n) ∉ ch.threads) (hm : .stamp ∈ ch.parts)
    (hstamp : t.seqNo = s.seqNo) (hnow : t.now = s.now) (hy : y.bare = y'.bare) (hloads : y.loads = []) (k : Token) :
    Did u (t.popLoad c n o (s.thr c n) y k) c n { y' with loads := [popLoadOf u o (u.thr c n) k] } ch := by
  refine (h.did_only l (ht.bump hm) hthr).setThr l ?_
  have hsnap : (s.thr c n).snap = (u.thr c n).snap := by
    rw [h.thread]
    rfl
  rw [hloads, hstamp, hnow, hsnap, h.stamp, h.now]
  exact congrArg (fun x : Thread => { x with loads := [popLoadOf u o (u.thr c n) k] }) hy

/-- Loads and flags do not change where a thread goes on (06 R149). -/
theorem stepPc_pc_popped (x : Thread) (l : List Load) (v : Word) (p q : Nat) : (({ x with loads := l, fl := v } : Thread).stepPc p q).pc = (x.stepPc p q).pc := by
  unfold Thread.stepPc
  dsimp only
  split <;> rfl

theorem popLoad_quiet (k : Token) : Quiet [popLoadOf u o (u.thr c n) k] := by
  simp [Quiet, popLoadOf, Load.due]

end

/-- Settles O15: QPUSH from the push of a queue or the offer of a packet, PUSH_RETRY from the push and the wake, QPOP and QPOPNB from the entry at HEAD that opens a load. -/
theorem threadsPushAndPopQueues : Obligations.ThreadsPushAndPopQueues := by
  unfold Obligations.ThreadsPushAndPopQueues
  refine ⟨?push, ?retry, ?pop⟩
  case push =>
    intro z dt c n o u x k b d q htakes hop hquad hlt hrsvd hpc
    have htok : ∀ {s}, Began u s c n → ((s.thr c n).tok4 (iRA o.w)).clean = k := fun hb => by rw [hb.tok4]
    have hplace : ∀ {s}, Began u s c n → (o.b (s.thr c n)).toNat = b := fun hb => by rw [hb.b]
    have hquiet : Quiet x.loads := htakes.loads ▸ quiet_nil
    refine ⟨fun hown hstill hcalm hroom => ?_, fun hown hfull => ?_, fun haway hway => ?_⟩
    · rw [hown] at hcalm hroom ⊢
      refine isRow_qpush.done htakes hop (fun s hb => ?_) htakes.ready hquiet hpc
      have hs := hb.still hstill
      have hq := hb.quietQ hcalm
      exact ⟨_, xQpush_room (htok hb) (hplace hb) hquad hlt hrsvd hown ((hb.qRoom c q).trans hroom), hb.did_only n.isLt (.qPut_self hs hq) (by simp),
        fun _ => (hb.pushed (qPut_pushed hs hq)).setThr ..⟩
    · rw [hown] at hfull ⊢
      exact .of_exists (isRow_qpush.waits htakes hop (P := fun _ => True) (fun s hb => ⟨s, xQpush_full (htok hb) (hplace hb) hquad hlt hrsvd hown ((hb.qRoom c q).trans hfull),
        hb.did_only n.isLt (Only.refl _ s) (by simp), hb.stamp, hb.now, fun _ => trivial⟩) (by simp))
    · refine isRow_qpush.done htakes hop (fun s hb => ?_) htakes.ready hquiet hpc
      obtain ⟨t, hsent, hoffered, honly⟩ := hb.alike.injects hway
      refine ⟨t, (xQpush_away (htok hb) (hplace hb) hquad hlt hrsvd haway).trans ?_, hb.did_only n.isLt honly (by simp), fun _ => hoffered⟩
      rw [hb.routerOf, hb.routerOf, hsent]
      rfl
  case retry =>
    intro z dt c n q u x hst hwait hres hdue
    refine ⟨fun hstill hcalm hroom => pushRetry_completes (pushRetry_room hst hwait hres hdue hroom) ?_,
      fun hfull => pushRetry_completes (pushRetry_full hst hwait hres hdue hfull) ⟨State.thr_setThr_self .., (Only.refl _ u).setThr _ n.isLt (by simp)⟩⟩
    have hthr := qPut_thr (k := (x.tok4 x.iwRA).clean) hstill hcalm c n
    have honly := Only.qPut_self (k := (x.tok4 x.iwRA).clean) hstill hcalm
    refine ⟨(qPut_pushed hstill hcalm).wake .., (woken_wake ?_ ?_ _).of hthr (qPut_tile hstill hcalm c) (honly.parts .stamp (by simp)), ?_⟩
    · rw [hthr, hst]
    · rw [hthr, hres]
    · exact honly.right.wake _ n.isLt (by simp [wakeChanges, Changes.and]) (by simp [wakeChanges, Changes.and]) (by simp [wakeChanges, Changes.and])
  case pop =>
    intro z dt c n o u x q y htakes hcore hquad hlt hmay hpc
    have hqueue : ∀ {s}, Began u s c n → (o.a (s.thr c n)).toNat = q := fun hb => by rw [hb.a]
    have hpop : ∀ {s}, Began u s c n → s.popAllowed c q = true := fun hb => (hb.popAllowed c q).trans hmay
    have hquiet := fun k => popLoad_quiet (u := u) (c := c) (n := n) (o := o) k
    refine ⟨fun hocc hmarks hfree => ?_, fun hocc => ⟨fun hop => ?_, fun hop => ?_⟩⟩
    · have hentry : ∀ {s}, Began u s c n → xQpop s c n o = _ := fun {s} hb => xQpop_entry (hqueue hb) hquad hlt hcore (hpop hb) (by rwa [hb.qOcc])
        (by rwa [hb.qfget c q (.inr (.inl rfl))]) (by rw [hb.qfget c q (.inl rfl), hfree]; decide)
      have honly : ∀ s, Only { regs := [(.QPTR, c.val, q)], parts := [.stamp] } s (s.popped c q) := fun s => (Only.refl _ s).fset _ (by simp [F.QPTR_HEAD])
      refine ⟨fun hop => isRow_qpop.done htakes hop (fun s hb => ⟨_, hentry hb, ?_, fun _ => hb.popped (popped_popped s c q)⟩) htakes.ready (hquiet _) ((stepPc_pc_popped x _ x.fl ..).trans_le hpc),
        fun hop => isRow_qpopnb.done htakes hop (fun s hb => ⟨_, hentry hb, ?_, fun _ => hb.popped (popped_popped s c q)⟩) htakes.ready (hquiet _) ((stepPc_pc_popped x _ (setFlag x.fl 1 false) ..).trans_le hpc)⟩
      · rw [hop, if_neg (by decide), hb.entry]
        exact hb.popLoad n.isLt (honly s) (by simp) (by simp) rfl rfl hb.bare (hb.pre htakes) _
      · rw [hop, if_pos rfl, hb.entry]
        exact hb.popLoad (y := { s.thr c n with fl := setFlag (s.thr c n).fl 1 false }) (y' := { x with fl := setFlag x.fl 1 false }) n.isLt (honly s) (by simp) (by simp) rfl rfl (by rw [hb.thread]; rfl) (hb.pre htakes) _
    · exact .of_exists (isRow_qpop.waits htakes hop (P := fun _ => True) (fun s hb => ⟨s, xQpop_waits (hqueue hb) hquad hlt hcore (hpop hb) ((hb.qOcc c q).trans hocc) hop,
        hb.did_only n.isLt (Only.refl _ s) (by simp), hb.stamp, hb.now, fun _ => trivial⟩) (by simp))
    · refine .of_exists (isRow_qpopnb.done htakes hop (P := fun _ => True) (fun s hb => ⟨_, xQpop_zeros (hqueue hb) hquad hlt hcore (hpop hb) ((hb.qOcc c q).trans hocc) hop,
        hb.popLoad (y := { s.thr c n with fl := setFlag (s.thr c n).fl 1 true }) (y' := { x with fl := setFlag x.fl 1 true }) (ch := { parts := [.stamp] }) n.isLt (Only.refl _ s) (by simp) (by simp) rfl rfl (by rw [hb.thread]; rfl) (hb.pre htakes) _,
        fun _ => trivial⟩) htakes.ready (hquiet _) ((stepPc_pc_popped x _ (setFlag x.fl 1 true) ..).trans_le hpc))

end Sys2Proof.Machine

/-! Channels as threads stage and commit their messages (03 R80 to R82; 06 R159). -/
namespace Sys2Proof.Machine

/-! ### Entries of a ring, written and read again -/

theorem ofBytes_toBytes (n v : Nat) : ofBytes (toBytes n v) = v % 256 ^ n := by
  induction n generalizing v with
  | zero => simp [toBytes, ofBytes, Nat.mod_one]
  | succ n ih =>
    rw [Nat.pow_succ, Nat.mul_comm, Nat.mod_mul, ← ih]
    rfl

theorem readBytes_congr {m m' : List Host.Cell} {a b n : Nat} (h : ∀ j < n, byteAt m (a + j) = byteAt m' (b + j)) : readBytes m a n = readBytes m' b n := by
  induction n generalizing a b with
  | zero => rfl
  | succ n ih =>
    unfold readBytes
    rw [show byteAt m a = byteAt m' b from h 0 n.succ_pos, ih fun j hj => ?_]
    have := h (j + 1) (by omega)
    rwa [Nat.add_right_comm, Nat.add_assoc b, Nat.add_comm 1 j]

theorem readBytes_of_get {m : List Host.Cell} {a : Nat} {l : List Byte} (h : ∀ j (hj : j < l.length), byteAt m (a + j) = l[j]) : readBytes m a l.length = l := by
  induction l generalizing a with
  | nil => rfl
  | cons b l ih =>
    change byteAt m a :: readBytes m (a + 1) l.length = b :: l
    rw [show byteAt m a = b from h 0 (by simp), ih fun j hj => ?_]
    have := h (j + 1) (by simpa using hj)
    rwa [Nat.add_right_comm, Nat.add_assoc]

theorem Wrote.load {u t : State} {a n v : Nat} (h : Wrote u t a n v) : t.load a n = v % 256 ^ n := by
  have hbytes : readBytes t.mem a (toBytes n v).length = toBytes n v := readBytes_of_get fun j hj => by
    have hlt : j < n := by rwa [toBytes_length] at hj
    rw [h, if_pos (by omega), toBytes_get, Nat.add_sub_cancel_left]
  rw [toBytes_length] at hbytes
  unfold State.load
  rw [hbytes, ofBytes_toBytes]

theorem Wrote.load_apart {u t : State} {a b n v : Nat} (h : Wrote u t a n v) (hb : n ≤ (a - b) + (b - a)) : t.load b n = u.load b n := by
  unfold State.load
  rw [readBytes_congr fun j hj => ?_]
  rw [h, if_neg (by omega)]

theorem Token.num_lt (k : Token) : k.num < 256 ^ 32 := by
  have h0 := k.tag.isLt
  have h1 := k.dst.isLt
  have h2 := k.val.isLt
  have h3 := k.aux.isLt
  unfold Token.num
  omega

theorem ofNum_num (k : Token) : Token.ofNum k.num = k := by
  obtain ⟨tag, dst, val, aux⟩ := k
  have h0 := tag.isLt
  have h1 := dst.isLt
  have h2 := val.isLt
  have h3 := aux.isLt
  unfold Token.ofNum Token.num wd
  simp only [Token.mk.injEq]
  refine ⟨?_, ?_, ?_, ?_⟩ <;> apply BitVec.eq_of_toNat_eq <;> simp only [BitVec.toNat_ofNat] <;> omega

section
variable {s t : State} {d q : Nat} (h : s.Still)
include h

theorem Still.stored (a n v : Nat) : ((s.store a n v).clearEcc a n).Still := ⟨h.banks, h.dram, writeBytes_wf h.form⟩

theorem stored_wrote (a n v : Nat) : Wrote s ((s.store a n v).clearEcc a n) a n v := by
  intro k
  rw [clearEcc_mem]
  exact wrote_store h.form a n v k

theorem qWrite_wrote (i : Nat) (k : Token) : Wrote s (s.qWrite d q i k) (s.entryAt d q i) 32 k.num := by
  rw [qWrite_calm h.banks h.dram]
  exact stored_wrote h _ _ _

theorem Still.qWrite (i : Nat) (k : Token) : (s.qWrite d q i k).Still := by
  rw [qWrite_calm h.banks h.dram]
  exact Still.stored h _ _ _

theorem Only.qWrite {ch : Changes} {u : State} (o : Only ch u s) (i : Nat) (k : Token) (m : .mem ∈ ch.parts) (m' : .ecc ∈ ch.parts) : Only ch u (s.qWrite d q i k) :=
  o.put h.banks h.dram _ _ _ m m'

theorem fget_qWrite (i : Nat) (k : Token) (f : Fld) (a j : Nat) : (s.qWrite d q i k).fget f a j = s.fget f a j := by
  rw [qWrite_calm h.banks h.dram, fget_clearEcc, fget_store]

end

/-- Where an entry of a ring lies depends on the registers of the queue's place alone. -/
theorem entryAt_of_place {s t : State} (h : ∀ k a i, k ≠ .QPTR → t.reg k a i = s.reg k a i) (d q i : Nat) : t.entryAt d q i = s.entryAt d q i := by
  have hf : ∀ {f : Fld} (a j), f.kind ≠ .QPTR → t.fget f a j = s.fget f a j := fun a j hk => congrArg (wbits · _ _) (h _ a j hk)
  unfold State.entryAt State.ringAddr State.qAddr State.qSize State.region State.dsize
  rw [hf 0 0 (by decide), hf d q (f := F.QBASE_BASE) (by decide), hf d q (by decide)]

/-! ### The entries of a message -/

/-- The first m entries from TAIL of a ring lie apart. -/
def State.entriesApart (s : State) (d q tl m : Nat) : Prop :=
  ∀ i < m, ∀ j < m, i ≠ j → 32 ≤ (s.entryAt d q (tl + i) - s.entryAt d q (tl + j)) + (s.entryAt d q (tl + j) - s.entryAt d q (tl + i))

/-- From s to t the first m entries from count tl of a ring became `f`, and nothing else changed. -/
structure Rewrote (s t : State) (d q tl m : Nat) (f : Nat → Token) : Prop where
  still : t.Still
  only : Only { parts := [.mem, .ecc] } s t
  entries : ∀ i < m, t.qRead d q (tl + i) = f i
  others : ∀ a, (∀ i < m, ¬(s.entryAt d q (tl + i) ≤ a ∧ a < s.entryAt d q (tl + i) + 32)) → byteAt t.mem a = byteAt s.mem a

section
variable {s t : State} {d q tl m : Nat} {f : Nat → Token}

theorem Rewrote.refl (h : s.Still) : Rewrote s s d q tl m fun i => s.qRead d q (tl + i) := ⟨h, Only.refl _ s, fun _ _ => rfl, fun _ _ => rfl⟩

theorem Rewrote.reg (h : Rewrote s t d q tl m f) (k : RegKind) (a i : Nat) : t.reg k a i = s.reg k a i := h.only.regs k a i (by simp)

theorem Rewrote.entryAt (h : Rewrote s t d q tl m f) (i : Nat) : t.entryAt d q i = s.entryAt d q i := entryAt_of_place (fun k a j _ => h.reg k a j) d q i

theorem Rewrote.write (h : Rewrote s t d q tl m f) (hapart : s.entriesApart d q tl m) {j : Nat} (hj : j < m) (k : Token) :
    Rewrote s (t.qWrite d q (tl + j) k) d q tl m (Function.update f j k) := by
  have hw := qWrite_wrote (d := d) (q := q) h.still (tl + j) k
  have honly := h.only.qWrite (d := d) (q := q) h.still (tl + j) k (by simp) (by simp)
  have hplace : ∀ i, (t.qWrite d q (tl + j) k).entryAt d q i = s.entryAt d q i := fun i => entryAt_of_place (fun k a j _ => honly.regs k a j (by simp)) d q i
  refine ⟨Still.qWrite h.still _ _, honly, fun i hi => ?_, fun a ha => ?_⟩
  · change Token.ofNum ((t.qWrite d q (tl + j) k).load ((t.qWrite d q (tl + j) k).entryAt d q (tl + i)) 32) = _
    rw [hplace]
    by_cases hij : i = j
    · subst hij
      rw [← h.entryAt, hw.load, Nat.mod_eq_of_lt k.num_lt, ofNum_num, Function.update_self]
    · rw [hw.load_apart (by rw [h.entryAt]; exact hapart j hj i hi (Ne.symm hij)), Function.update_of_ne hij, ← h.entries i hi, ← h.entryAt]
      rfl
  · rw [hw, h.entryAt, if_neg (ha j hj), h.others a ha]

theorem Rewrote.congr {g : Nat → Token} (h : Rewrote s t d q tl m f) (e : ∀ i < m, f i = g i) : Rewrote s t d q tl m g := { h with entries := fun i hi => (h.entries i hi).trans (e i hi) }

/-- The token with LAST set to b. -/
def Token.setLast (k : Token) (b : Nat) : Token := { k with tag := wset k.tag 1 1 b }

theorem markLast_rewrote (h : s.Still) (hapart : s.entriesApart d q tl m) {n : Nat} (hn : n ≤ m) :
    Rewrote s (s.markLast d q tl n) d q tl m fun i => if i < n then (s.qRead d q (tl + i)).setLast 0 else s.qRead d q (tl + i) := by
  induction n with
  | zero => exact Rewrote.refl h
  | succ n ih =>
    have hprev := ih (by omega)
    refine (hprev.write hapart (j := n) (by omega) (((s.markLast d q tl n).qRead d q (tl + n)).setLast 0)).congr fun i hi => ?_
    rw [hprev.entries n (by omega), if_neg (lt_irrefl n)]
    by_cases hin : i = n
    · rw [hin, Function.update_self, if_pos n.lt_succ_self]
    · rw [Function.update_of_ne hin]
      simp only [show i < n + 1 ↔ i < n by omega]

theorem setLast_setLast (k : Token) (a b : Nat) : (k.setLast a).setLast b = k.setLast b := by
  have := k.tag.isLt
  unfold Token.setLast wset setBits bits wd
  simp only [Token.mk.injEq, and_true]
  apply BitVec.eq_of_toNat_eq
  simp only [BitVec.toNat_ofNat]
  omega

/-- The message with LAST in its final entry alone (03 R81). -/
def State.markedMessage (s : State) (d q : Nat) : State :=
  let st := s.fget F.QPTR_STAGED d q
  let tl := s.fget F.QPTR_TAIL d q
  let t := s.markLast d q tl st
  if st = 0 then t else t.qWrite d q (tl + (st - 1)) ((t.qRead d q (tl + (st - 1))).setLast 1)

theorem markedMessage_rewrote (h : s.Still) {st : Nat} (hst : s.fget F.QPTR_STAGED d q = st) (htl : s.fget F.QPTR_TAIL d q = tl) (hapart : s.entriesApart d q tl st) :
    Rewrote s (s.markedMessage d q) d q tl st fun i => (s.qRead d q (tl + i)).setLast (b2n (decide (i + 1 = st))) := by
  have hplain := markLast_rewrote h hapart le_rfl
  unfold State.markedMessage
  dsimp only
  rw [hst, htl]
  split
  · next hzero => exact hplain.congr fun i hi => absurd hi (by omega)
  · next hpos =>
    refine (hplain.write hapart (j := st - 1) (by omega) _).congr fun i hi => ?_
    by_cases hlast : i = st - 1
    · rw [hlast, Function.update_self, hplain.entries _ (by omega), if_pos (by omega), setLast_setLast, decide_eq_true (by omega)]
      rfl
    · rw [Function.update_of_ne hlast, if_pos hi, decide_eq_false (by omega)]
      rfl

end

/-! ### The reservation of a channel (03 R80, R81) -/

/-- The reservation is the thread's: it is given to it if it was free. -/
def State.chanTaken (s : State) (d q c n : Nat) : State := if s.fget F.QPTR_RESV d q = 1 then s else s.chanGive d q c n

/-- What a channel keeps of its message while its reservation is given away. -/
def messageFields : List Fld := [F.QPTR_HEAD, F.QPTR_TAIL, F.QPTR_STAGED, F.QPTR_ABAND]

theorem messageFields_kind {f : Fld} (h : f ∈ messageFields) : f.kind = .QPTR := by
  revert f
  decide

section
variable {s : State} {d q c n : Nat}

theorem fget_chanGive_message {f : Fld} (h : f ∈ messageFields) : (s.chanGive d q c n).fget f d q = s.fget f d q := by
  have hk := messageFields_kind h
  have hapart : ∀ g ∈ [F.QPTR_RESV, F.QPTR_OWNTILE, F.QPTR_OWNTHR], g.lo + g.len ≤ f.lo ∨ f.lo + f.len ≤ g.lo := by
    revert f
    decide
  unfold State.chanGive
  rw [State.fget_fset_field _ _ _ _ hk (hapart _ (by simp)), State.fget_fset_field _ _ _ _ hk (hapart _ (by simp)), State.fget_fset_field _ _ _ _ hk (hapart _ (by simp))]

theorem chanGive_holds (hn : n < 16) : (s.chanGive d q c n).holdsChan d q c n := by
  unfold State.chanGive
  refine ⟨?_, ?_, ?_⟩
  · simp (disch := decide) only [State.fget_fset_field, State.fget_fset_self]
    rfl
  · simp (disch := decide) only [State.fget_fset_field, State.fget_fset_self]
    rfl
  · rw [State.fget_fset_self _ _ _ _ _ (by decide)]
    exact Nat.mod_eq_of_lt hn

theorem Only.chanTaken {ch : Changes} {u : State} (o : Only ch u s) (m : (.QPTR, d, q) ∈ ch.regs) : Only ch u (s.chanTaken d q c n) := by
  unfold State.chanTaken State.chanGive
  split
  · exact o
  · exact ((o.fset _ m).fset _ m).fset _ m

theorem fget_chanTaken_message {f : Fld} (h : f ∈ messageFields) : (s.chanTaken d q c n).fget f d q = s.fget f d q := by
  unfold State.chanTaken
  split
  · rfl
  · exact fget_chanGive_message h

theorem chanTaken_holds (hn : n < 16) (hfree : s.fget F.QPTR_RESV d q = 0 ∨ s.holdsChan d q c n) : (s.chanTaken d q c n).holdsChan d q c n := by
  unfold State.chanTaken
  rcases hfree with hfree | hmine
  · rw [if_neg (by rw [hfree]; decide)]
    exact chanGive_holds hn
  · rwa [if_pos hmine.1]

theorem chanTaken_kept {α : Type} (g : State → α) (h : g (s.chanGive d q c n) = g s) : g (s.chanTaken d q c n) = g s := by
  unfold State.chanTaken
  split
  · rfl
  · exact h

theorem reg_chanTaken {k : RegKind} (a i : Nat) (h : k ≠ .QPTR) : (s.chanTaken d q c n).reg k a i = s.reg k a i := by
  refine chanTaken_kept (fun t => t.reg k a i) ?_
  unfold State.chanGive
  rw [reg_fset_kind _ h, reg_fset_kind _ h, reg_fset_kind _ h]

theorem Still.chanTaken (h : s.Still) : (s.chanTaken d q c n).Still := by
  unfold State.chanTaken
  split
  · exact h
  · exact ⟨h.banks, h.dram, h.form⟩

/-- The status of CHW as a number: whether the last message was abandoned (03 R80). -/
theorem chanStatus_eq (s : State) (d q : Nat) : s.chanStatus d q = wd (b2n (decide (s.fget F.QPTR_STAGED d q = 0 ∧ s.fget F.QPTR_ABAND d q = 1))) := by
  unfold State.chanStatus
  split
  · next h => rw [decide_eq_true h]; rfl
  · next h => rw [decide_eq_false h]; rfl

theorem chanStatus_chanTaken : (s.chanTaken d q c n).chanStatus d q = s.chanStatus d q := by
  unfold State.chanStatus
  rw [fget_chanTaken_message (by decide), fget_chanTaken_message (by decide)]

theorem chanRoom_chanTaken : (s.chanTaken d q c n).chanRoom d q = s.chanRoom d q := by
  have hsize : (s.chanTaken d q c n).fget F.QCFG_LOG2N d q = s.fget F.QCFG_LOG2N d q := congrArg (wbits · _ _) (reg_chanTaken d q (by decide))
  unfold State.chanRoom State.qOcc State.qSize
  rw [fget_chanTaken_message (by decide), fget_chanTaken_message (by decide), fget_chanTaken_message (by decide), hsize]

theorem chanStage_staged {k : Token} (h : s.Still) (hmine : s.holdsChan d q c n) (hfits : s.fget F.QPTR_STAGED d q + 1 < 64) : StagedEntry s (s.chanStage d q k) d q c n k := by
  obtain ⟨hresv, htile, hthr⟩ := hmine
  unfold State.chanStage
  dsimp only
  refine ⟨fun j => ?_, ?_, ⟨?_, ?_, ?_⟩, ?_, ?_⟩
  · rw [State.fset_mem]
    exact qWrite_wrote h _ _ j
  · rw [State.fget_fset_self _ _ _ _ _ (by decide)]
    exact Nat.mod_eq_of_lt hfits
  all_goals simp (disch := decide) only [State.fget_fset_field, fget_qWrite h, hresv, htile, hthr]

/-- The entry staged behind a reservation just taken is staged from the state before. -/
theorem StagedEntry.of_taken {t : State} {k : Token} (h : StagedEntry (s.chanTaken d q c n) t d q c n k) : StagedEntry s t d q c n k := by
  have hplace : ∀ i, (s.chanTaken d q c n).entryAt d q i = s.entryAt d q i := fun i => entryAt_of_place (fun k a j hk => reg_chanTaken a j hk) d q i
  have hmem : (s.chanTaken d q c n).mem = s.mem := chanTaken_kept State.mem rfl
  unfold StagedEntry Wrote at h ⊢
  rwa [hplace, hmem, fget_chanTaken_message (by decide), fget_chanTaken_message (by decide), fget_chanTaken_message (by decide)] at h

end

section
variable {s : State} {d q c n : Nat} {k : Token} (hen : s.fget F.QCFG_EN d q = 1) (hmode : s.fget F.QCFG_PMODE d q = 2)
include hen hmode

theorem chanWrite_taken (hfree : s.fget F.QPTR_RESV d q = 0 ∨ s.holdsChan d q c n) (hmax : s.fget F.QPTR_STAGED d q < s.fget F.QCFG_MSGM1 d q + 1) :
    s.chanWrite d q c n k = if s.chanRoom d q then .done (s.chanStatus d q) ((s.chanTaken d q c n).chanStage d q k) else .wait (.ring d q) (s.chanTaken d q c n) := by
  have hmsg : (s.chanTaken d q c n).fget F.QCFG_MSGM1 d q = s.fget F.QCFG_MSGM1 d q := congrArg (wbits · _ _) (reg_chanTaken d q (by decide))
  have hmax' : ¬(s.chanTaken d q c n).fget F.QCFG_MSGM1 d q + 1 ≤ (s.chanTaken d q c n).fget F.QPTR_STAGED d q := by
    rw [hmsg, fget_chanTaken_message (by decide)]
    omega
  rw [← chanRoom_chanTaken (c := c) (n := n), ← chanStatus_chanTaken (c := c) (n := n)]
  unfold State.chanTaken at hmax' ⊢
  unfold State.chanWrite State.chanOwner
  rw [if_neg (by simp [hen, hmode])]
  dsimp only
  rcases hfree with hfree | ⟨hresv, htile, hthr⟩
  · have hno : ¬s.fget F.QPTR_RESV d q = 1 := by rw [hfree]; decide
    rw [if_neg hno] at hmax'
    simp only [hfree, decide_false, Bool.false_and, Bool.false_eq_true, if_false, if_neg hmax', Nat.zero_ne_one]
  · rw [if_pos hresv] at hmax'
    simp only [hresv, htile, hthr, decide_true, Bool.true_and, Bool.not_true, Bool.false_eq_true, if_false, if_true, if_neg hmax']

theorem chanWrite_held (hresv : s.fget F.QPTR_RESV d q = 1) (hother : ¬s.holdsChan d q c n) : s.chanWrite d q c n k = .wait (.chan d q) s := by
  have howner : s.chanOwner d q ≠ (c % 64, n) := fun h => hother ⟨hresv, congrArg Prod.fst h, congrArg Prod.snd h⟩
  unfold State.chanWrite
  rw [if_neg (by simp [hen, hmode])]
  dsimp only
  rw [if_pos (by simp [hresv, howner])]

end

/-! ### The commit of a message (03 R81) -/

theorem tget_unlisted {κ α : Type} [DecidableEq κ] {t : Tab κ α} {d : α} {k : κ} (h : ∀ p ∈ t, p.1 ≠ k) : tget t d k = d := by
  induction t with
  | nil => rfl
  | cons p t ih =>
    obtain ⟨hp, ht⟩ := List.forall_mem_cons.1 h
    unfold tget tfind?
    rw [if_neg hp]
    exact ih ht

theorem chanNext_none {s : State} {d q : Nat} (h : ∀ a, ∀ b < 16, waitsChan d q (s.thr a b) = false) : s.chanNext d q = none := by
  have hnone : (s.allThreads.filter fun k => waitsChan d q (s.thr k.1 k.2)) = [] := by
    refine List.filter_eq_nil_iff.2 fun k hk => ?_
    obtain ⟨p, -, rfl⟩ := List.mem_map.1 hk
    rw [h _ _ (Nat.mod_lt _ (by decide))]
    decide
  unfold State.chanNext
  dsimp only
  rw [hnone]
  rfl

/-- The channel after the commit of its message, where no writer waits for it. -/
def State.committed (s : State) (d q : Nat) : State :=
  ((((s.markedMessage d q).fset F.QPTR_TAIL d q (s.fget F.QPTR_TAIL d q + s.fget F.QPTR_STAGED d q)).fset F.QPTR_STAGED d q 0).fset F.QPTR_ABAND d q 0).fset F.QPTR_RESV d q 0

/-- From s to t the st entries staged from count tl became the message of a channel, and its reservation is free (03 R81). -/
structure CommitShows (s t : State) (d q tl st : Nat) : Prop where
  tail : t.fget F.QPTR_TAIL d q = (tl + st) % 65536
  staged : t.fget F.QPTR_STAGED d q = 0
  abandoned : t.fget F.QPTR_ABAND d q = 0
  reservation : t.fget F.QPTR_RESV d q = 0
  head : t.fget F.QPTR_HEAD d q = s.fget F.QPTR_HEAD d q
  entries : ∀ i < st, t.qRead d q (tl + i) = (s.qRead d q (tl + i)).setLast (b2n (decide (i + 1 = st)))
  bytes : ∀ a, (∀ i < st, ¬(s.entryAt d q (tl + i) ≤ a ∧ a < s.entryAt d q (tl + i) + 32)) → byteAt t.mem a = byteAt s.mem a

theorem CommitShows.setThr {s t : State} {d q tl st : Nat} (h : CommitShows s t d q tl st) (c n : Nat) (x : Thread) : CommitShows s (t.setThr c n x) d q tl st := ⟨h.1, h.2, h.3, h.4, h.5, h.6, h.7⟩

section
variable {s : State} {d q c n tl st : Nat} (h : s.Still) (hst : s.fget F.QPTR_STAGED d q = st) (htl : s.fget F.QPTR_TAIL d q = tl) (hapart : s.entriesApart d q tl st)
include h hst htl hapart

theorem Only.committed : Only { regs := [(.QPTR, d, q)], parts := [.mem, .ecc] } s (s.committed d q) := by
  have hmarked := (markedMessage_rewrote h hst htl hapart).only
  have hgrown : Only { regs := [(.QPTR, d, q)], parts := [.mem, .ecc] } s (s.markedMessage d q) :=
    hmarked.weaken (by simp) (by simp) (by simp) (by simp) (by simp) (by simp) (by simp)
  exact (((hgrown.fset _ (by simp [F.QPTR_TAIL])).fset _ (by simp [F.QPTR_STAGED])).fset _ (by simp [F.QPTR_ABAND])).fset _ (by simp [F.QPTR_RESV])

theorem chanCommit_alone (hen : s.fget F.QCFG_EN d q = 1) (hmine : s.holdsChan d q c n) (hq : s.QuietQ d q) (hlone : ∀ a, ∀ b < 16, waitsChan d q (s.thr a b) = false) :
    s.chanCommit d q c n = .done 0 (s.committed d q) := by
  obtain ⟨hresv, htile, hthr⟩ := hmine
  have hthreads : ∀ a, ∀ b < 16, (s.markedMessage d q).thr a b = s.thr a b := fun a b hb => (markedMessage_rewrote h hst htl hapart).only.threads a b hb (by simp)
  have hall : ∀ a, ∀ b < 16, (s.committed d q).thr a b = s.thr a b := fun a b hb => (Only.committed h hst htl hapart).threads a b hb (by simp)
  have hmarks : (s.committed d q).fget F.QCFG_WMEN d q ≠ 1 := by
    have hkept : (s.committed d q).fget F.QCFG_WMEN d q = s.fget F.QCFG_WMEN d q := congrArg (wbits · _ _) ((Only.committed h hst htl hapart).regs .QCFG d q (by simp))
    exact hkept ▸ hq.marks
  have hpass : ((((s.markedMessage d q).fset F.QPTR_TAIL d q (s.fget F.QPTR_TAIL d q + s.fget F.QPTR_STAGED d q)).fset F.QPTR_STAGED d q 0).fset F.QPTR_ABAND d q 0).chanPass d q =
      s.committed d q := by
    unfold State.chanPass
    rw [chanNext_none fun a b hb => ?_]
    · rfl
    · rw [State.thr_fset, State.thr_fset, State.thr_fset, hthreads a b hb]
      exact hlone a b hb
  unfold State.chanCommit
  rw [if_neg (by simp [hen, hresv, State.chanOwner, htile, hthr])]
  change QRes.done 0 ((((((((s.markedMessage d q).fset F.QPTR_TAIL d q (s.fget F.QPTR_TAIL d q + s.fget F.QPTR_STAGED d q)).fset F.QPTR_STAGED d q 0).fset F.QPTR_ABAND d q 0).chanPass d q).qServe d q 32).qMarks d q)) = _
  rw [hpass, qServe_none (fun j hj => by rw [hall d j hj]; exact hq.threads j hj), qMarks_off hmarks]

theorem committed_shows : CommitShows s (s.committed d q) d q tl st := by
  have hmarked := markedMessage_rewrote h hst htl hapart
  have hplace : ∀ i, (s.committed d q).entryAt d q i = s.entryAt d q i :=
    fun i => entryAt_of_place (fun k a j hk => (Only.committed h hst htl hapart).regs k a j (by simp [hk])) d q i
  refine ⟨?_, ?_, ?_, ?_, ?_, fun i hi => ?_, hmarked.others⟩
  · simp (disch := decide) only [State.committed, State.fget_fset_field, State.fget_fset_self, hst, htl]
    rfl
  · simp (disch := decide) only [State.committed, State.fget_fset_field, State.fget_fset_self]
    rfl
  · simp (disch := decide) only [State.committed, State.fget_fset_field, State.fget_fset_self]
    rfl
  · simp (disch := decide) only [State.committed, State.fget_fset_self]
    rfl
  · simp (disch := decide) only [State.committed, State.fget_fset_field]
    exact congrArg (wbits · _ _) (hmarked.reg .QPTR d q)
  · rw [← hmarked.entries i hi]
    change Token.ofNum ((s.markedMessage d q).load ((s.committed d q).entryAt d q (tl + i)) 32) = Token.ofNum ((s.markedMessage d q).load ((s.markedMessage d q).entryAt d q (tl + i)) 32)
    rw [hplace, hmarked.entryAt]

end

/-! ### From the state of the issue -/

section
variable {u s t : State} {c n d q : Nat} {k : Token} {o : Ins}

theorem Began.holdsChan (h : Began u s c n) (e j : Nat) : s.holdsChan d q e j ↔ u.holdsChan d q e j := by
  unfold State.holdsChan
  rw [h.qfget d q (.inl rfl), h.qfget d q (.inl rfl), h.qfget d q (.inl rfl)]

theorem Began.chanRoom (h : Began u s c n) : s.chanRoom d q = decide (u.qOcc d q + u.fget F.QPTR_STAGED d q < u.qSize d q) := by
  unfold State.chanRoom
  rw [h.qOcc, h.qSize, h.qfget d q (.inl rfl)]

theorem Began.stagedEntry (h : Began u s c n) {e j : Nat} (g : StagedEntry s t d q e j k) : StagedEntry u t d q e j k := by
  unfold StagedEntry Wrote at g ⊢
  rwa [h.entryAt, h.mem, h.qfget d q (.inl rfl), h.qfget d q (.inl rfl), h.qfget d q (.inl rfl)] at g

theorem Began.entriesApart (h : Began u s c n) {tl m : Nat} (g : u.entriesApart d q tl m) : s.entriesApart d q tl m := by
  unfold State.entriesApart
  simp only [h.entryAt]
  exact g

/-- Where no listed thread waits for a channel and the issuing thread is READY, none waits. -/
theorem Began.unwaited (h : Began u s c n) (hready : (u.thr c n).st = .ready) (hw : ∀ p ∈ u.threads, waitsChan d q (u.thr (p.1 / 16) (p.1 % 16)) = false) :
    ∀ a, ∀ b < 16, waitsChan d q (s.thr a b) = false := by
  intro a b hb
  by_cases hself : a = c ∧ b = n
  · rw [hself.1, hself.2, h.thread]
    simp [waitsChan, hready]
  rw [h.only.threads a b hb (by simpa [issueChanges] using hself)]
  by_cases hlisted : ∃ p ∈ u.threads, p.1 = a * 16 + b
  · obtain ⟨p, hp, hkey⟩ := hlisted
    have := hw p hp
    rwa [hkey, show (a * 16 + b) / 16 = a by omega, show (a * 16 + b) % 16 = b by omega] at this
  · have hrst : u.thr a b = Thread.rst := tget_unlisted fun p hp hkey => hlisted ⟨p, hp, hkey⟩
    rw [hrst]
    rfl

/-- A channel operation for another tile leaves as a packet, and its thread waits for the answer (03 R80). -/
theorem Began.sendChan (h : Began u s c n) {commit : Bool}
    (way : u.freeWay (u.routerOf c) false (mkPacket 1 ((u.thr c n).cls + 1) (u.routerOf d) false (u.routerOf c) false (if commit then 1 else 2) (.chan commit d q c n k))) :
    ∃ t, s.sendChan c n d q commit k = .wait t (.trip d q) ∧
      Offered u t (u.routerOf c) false (mkPacket 1 ((u.thr c n).cls + 1) (u.routerOf d) false (u.routerOf c) false (if commit then 1 else 2) (.chan commit d q c n k)) ∧
      Only { parts := [.stamp, .mesh] } s t ∧ t.seqNo = u.seqNo + 1 ∧ t.now = u.now := by
  obtain ⟨t, hsent, hoffered, honly⟩ := h.alike.injects way
  have hcls : (s.thr c n).cls = (u.thr c n).cls := by rw [h.thread]
  have hstate := hsent.symm.trans (inject_free (h.freeWay way))
  refine ⟨t, ?_, hoffered, honly, ?_, ?_⟩
  · unfold State.sendChan
    dsimp only
    rw [hcls, h.routerOf, h.routerOf, hsent]
  · injection hstate with hstate
    rw [hstate]
    exact congrArg (· + 1) h.stamp
  · injection hstate with hstate
    rw [hstate]
    exact h.now

end

/-! ### CHW and CHC (06 R159) -/

theorem isRow_chw : IsRow (fun dt c n => .chw dt c n) 0xB8 xChw := ⟨fun _ _ _ _ => rfl, rfl⟩

theorem isRow_chc : IsRow (fun dt c n => .chc dt c n) 0xB9 xChc := ⟨fun _ _ _ _ => rfl, rfl⟩

section
variable {s : State} {c n b : Nat} {o : Ins} {k : Token} (hb : (o.b (s.thr c n)).toNat = b)
include hb

theorem xChw_done {s' : State} {d : Word} (hk : ((s.thr c n).tok4 (iRA o.w)).clean = k) (hquad : quadOk (iRA o.w) = true) (hlt : b < 16384) (hrsvd : k.rsvd = false) (hown : b / 256 = c)
    (hc : s.chanWrite c (b % 256) c n k = .done d s') : xChw s c n o = .done (s'.onThr c n fun y => y.setW (iRD o.w) d) := by
  subst hk hb
  unfold xChw
  dsimp only
  rw [hquad, hrsvd, if_neg (by simp), if_neg (by simp; omega), if_pos hown, hc]

theorem xChw_waits {s' : State} {w : WaitFor} (hk : ((s.thr c n).tok4 (iRA o.w)).clean = k) (hquad : quadOk (iRA o.w) = true) (hlt : b < 16384) (hrsvd : k.rsvd = false) (hown : b / 256 = c)
    (hc : s.chanWrite c (b % 256) c n k = .wait w s') : xChw s c n o = .wait s' w := by
  subst hk hb
  unfold xChw
  dsimp only
  rw [hquad, hrsvd, if_neg (by simp), if_neg (by simp; omega), if_pos hown, hc]

theorem xChw_away (hk : ((s.thr c n).tok4 (iRA o.w)).clean = k) (hquad : quadOk (iRA o.w) = true) (hlt : b < 16384) (hrsvd : k.rsvd = false) (haway : b / 256 ≠ c) :
    xChw s c n o = s.sendChan c n (b / 256) (b % 256) false k := by
  subst hk hb
  unfold xChw
  dsimp only
  rw [hquad, hrsvd, if_neg (by simp), if_neg (by simp; omega), if_neg haway]

theorem xChc_own {s' : State} {d : Word} (hlt : b < 16384) (hown : b / 256 = c) (hc : s.chanCommit c (b % 256) c n = .done d s') : xChc s c n o = .done s' := by
  subst hb
  unfold xChc
  dsimp only
  rw [if_neg hlt.not_ge, if_pos hown, hc]

theorem xChc_away (hlt : b < 16384) (haway : b / 256 ≠ c) : xChc s c n o = s.sendChan c n (b / 256) (b % 256) true ⟨0, 0, 0, 0⟩ := by
  subst hb
  unfold xChc
  dsimp only
  rw [if_neg hlt.not_ge, if_neg haway]

end

/-- Settles O16: to another tile by the packet that leaves at once; on the own tile by what the reservation, the staging and the commit each leave. -/
theorem channelsStageAndCommitMessages : Obligations.ChannelsStageAndCommitMessages := by
  unfold Obligations.ChannelsStageAndCommitMessages
  intro z dt c n o u x k q st tl free mine htakes
  have htok : ∀ {s}, Began u s c n → ((s.thr c n).tok4 (iRA o.w)).clean = k := fun hb => by rw [hb.tok4]
  have hplace : ∀ {s}, Began u s c n → (o.b (s.thr c n)).toNat = (o.b x).toNat := fun hb => by rw [hb.b]
  refine ⟨?away, fun hown hc hstill hen => ?own⟩
  case away =>
    intro d p haway hlt
    refine ⟨fun hop hquad hrsvd hway => ?_, fun hop hway => ?_⟩
    · refine isRow_chw.waits htakes hop (fun s hb => ?_) (by simp)
      obtain ⟨t, hsent, hoffered, honly, hstamp, hnow⟩ := hb.sendChan hway
      exact ⟨t, (xChw_away (hplace hb) (htok hb) hquad hlt hrsvd haway).trans hsent, hb.did_only n.isLt honly (by simp), hstamp, hnow, fun _ => hoffered⟩
    · refine isRow_chc.waits htakes hop (fun s hb => ?_) (by simp)
      obtain ⟨t, hsent, hoffered, honly, hstamp, hnow⟩ := hb.sendChan hway
      exact ⟨t, (xChc_away (hplace hb) hlt haway).trans hsent, hb.did_only n.isLt honly (by simp), hstamp, hnow, fun _ => hoffered⟩
  case own =>
    have hlt : (o.b x).toNat < 16384 := by omega
    have hf : ∀ {s}, Began u s c n → ∀ {f : Fld}, f.kind = .QPTR ∨ f.kind = .QCFG ∨ f.kind = .QBASE → s.fget f c q = u.fget f c q := fun hb _ hk => hb.qfget c q hk
    refine ⟨fun hop hquad hrsvd hmode => ?write, fun hop hmine hquiet hlone hmax hapart hpc => ?commit⟩
    case write =>
      have hwrites : ∀ {s}, Began u s c n → free ∨ mine → st < u.fget F.QCFG_MSGM1 c q + 1 → s.chanWrite c q c n k = _ := fun {s} hb hfree hmax =>
        chanWrite_taken (s := s) (by rw [hf hb (.inr (.inl rfl)), hen]) (by rw [hf hb (.inr (.inl rfl)), hmode]) (by rwa [hf hb (.inl rfl), hb.holdsChan])
          (by rwa [hf hb (.inl rfl), hf hb (.inr (.inl rfl))])
      have hholds : ∀ {s}, Began u s c n → free ∨ mine → (s.chanTaken c q c n).holdsChan c q c n := fun hb hfree => chanTaken_holds n.isLt (by rwa [hf hb (.inl rfl), hb.holdsChan])
      have hroom : ∀ {s}, Began u s c n → s.chanRoom c q = decide (u.qOcc c q + st < u.qSize c q) := fun hb => hb.chanRoom
      refine ⟨fun hfree hmax hfits hpc => ?_, fun hfree hmax hfull => ?_, fun hresv hother => ?_⟩
      · refine isRow_chw.done htakes hop (fun s hb => ?_) (setW_ready htakes.ready _ _) (setW_quiet htakes.loads _ _) hpc
        have hs := hb.still hstill
        have hdone := (hwrites hb hfree hmax).trans (if_pos ((hroom hb).trans (decide_eq_true hfits)))
        have hstaged : StagedEntry s ((s.chanTaken c q c n).chanStage c q k) c q c n k := .of_taken (chanStage_staged (Still.chanTaken hs) (hholds hb hfree) ?_)
        · refine ⟨_, xChw_done (hplace hb) (htok hb) hquad hlt hrsvd hown hdone, ?_, fun _ => hb.stagedEntry hstaged⟩
          rw [chanStatus_eq, hf hb (.inl rfl), hf hb (.inl rfl)]
          refine (hb.did_only n.isLt ?_ (by simp)).setW n.isLt _ _
          exact (((Only.refl _ s).chanTaken (by simp)).qWrite (Still.chanTaken hs) _ _ (by simp) (by simp)).fset _ (by simp [F.QPTR_STAGED])
        · rw [fget_chanTaken_message (by decide), hf hb (.inl rfl)]
          have := u.fget_lt F.QCFG_MSGM1 c q
          change _ < 2 ^ 5 at this
          omega
      · refine isRow_chw.waits htakes hop (fun s hb => ?_) (by simp)
        have hwait := (hwrites hb hfree hmax).trans (if_neg (by rw [hroom hb]; simpa using hfull))
        refine ⟨_, xChw_waits (hplace hb) (htok hb) hquad hlt hrsvd hown hwait, hb.did_only n.isLt ((Only.refl _ s).chanTaken (by simp)) (by simp), ?_, ?_, fun _ => ⟨hholds hb hfree, ?_⟩⟩
        · exact (chanTaken_kept State.seqNo rfl).trans hb.stamp
        · exact (chanTaken_kept State.now rfl).trans hb.now
        · exact (fget_chanTaken_message (by decide)).trans (hf hb (.inl rfl))
      · refine .of_exists (isRow_chw.waits htakes hop (P := fun _ => True) (fun s hb => ?_) (by simp))
        have hwait : s.chanWrite c q c n k = .wait (.chan c q) s := chanWrite_held (by rw [hf hb (.inr (.inl rfl)), hen]) (by rw [hf hb (.inr (.inl rfl)), hmode])
          (by rw [hf hb (.inl rfl), hresv]) (by rwa [hb.holdsChan])
        exact ⟨s, xChw_waits (hplace hb) (htok hb) hquad hlt hrsvd hown hwait, hb.did_only n.isLt (Only.refl _ s) (by simp), hb.stamp, hb.now, fun _ => trivial⟩
    case commit =>
      refine isRow_chc.done htakes hop (fun s hb => ?_) htakes.ready (htakes.loads ▸ quiet_nil) hpc
      have hs := hb.still hstill
      have hst : s.fget F.QPTR_STAGED c q = st := hf hb (.inl rfl)
      have htl : s.fget F.QPTR_TAIL c q = tl := hf hb (.inl rfl)
      have happart : s.entriesApart c q tl st := hb.entriesApart hapart
      have hdone := chanCommit_alone hs hst htl happart (by rw [hf hb (.inr (.inl rfl)), hen]) ((hb.holdsChan _ _).2 hmine) (hb.quietQ hquiet) (hb.unwaited htakes.ready hlone)
      refine ⟨_, xChc_own (hplace hb) hlt hown hdone, hb.did_only n.isLt (Only.committed hs hst htl happart) (by simp), fun y => ?_⟩
      obtain ⟨htail, hstaged, haband, hresv, hhead, hentries, hbytes⟩ := (committed_shows hs hst htl happart).setThr c n y
      refine ⟨htail, hstaged, haband, hresv, hhead.trans (hf hb (.inl rfl)), fun i hi => (hentries i hi).trans ?_, fun a ha => (hbytes a fun i hi => ?_).trans ?_⟩
      · rw [hb.qRead]
        rfl
      · rw [hb.entryAt]
        exact ha i hi
      · rw [hb.mem]

end Sys2Proof.Machine

/-! Continuity windows: what an arrival does, and the fault tokens of a window (03 R60, R63). -/
namespace Sys2Proof.Machine

/-! ### The fault token of a window (03 R60, 05 R128) -/

/-- What a window's fault token finds in s as in u: every register but the lanes' counts, and what a push to a fault queue looks at. -/
structure LaneSteps (u s : State) : Prop where
  regs : ∀ k a i, k ≠ .LANECNT → s.reg k a i = u.reg k a i
  mem : s.mem = u.mem
  ctl : s.ctl = u.ctl
  threads : ∀ c n, s.thr c n = u.thr c n
  tiles : ∀ d, s.tile d = u.tile d
  rush : s.drRush = u.drRush

section
variable {u s t : State} {l : Nat} {k : Token}

theorem LaneSteps.refl (u : State) : LaneSteps u u := ⟨fun _ _ _ _ => rfl, rfl, rfl, fun _ _ => rfl, fun _ => rfl, rfl⟩

theorem LaneSteps.windows (h : LaneSteps u s) (v : Tab Nat (List Token)) : LaneSteps u { s with winq := v } := ⟨h.regs, h.mem, h.ctl, h.threads, h.tiles, h.rush⟩

theorem LaneSteps.setLane (h : LaneSteps u s) (m : Nat) (x : Lane) : LaneSteps u (s.setLane m x) := ⟨h.regs, h.mem, h.ctl, h.threads, h.tiles, h.rush⟩

theorem LaneSteps.inc (h : LaneSteps u s) {f : Fld} (hf : f.kind = .LANECNT) (a i : Nat) : LaneSteps u (s.inc f a i) :=
  ⟨fun k b j hk => (reg_inc_kind (hf ▸ hk)).trans (h.regs k b j hk), h.mem, h.ctl, h.threads, h.tiles, h.rush⟩

theorem LaneSteps.fget (h : LaneSteps u s) {f : Fld} (hf : f.kind ≠ .LANECNT) (a i : Nat) : s.fget f a i = u.fget f a i := congrArg (wbits · _ _) (h.regs _ a i hf)

theorem LaneSteps.laneTile (h : LaneSteps u s) (m : Nat) : s.laneTile m = u.laneTile m := by
  unfold State.laneTile
  rw [laneSlice_of fun a i => h.regs _ a i (by decide)]

theorem LaneSteps.ftile (h : LaneSteps u s) (m : Nat) : s.fget F.LANEGAP_FTILE 0 m = u.fget F.LANEGAP_FTILE 0 m := h.fget (by decide) ..

theorem LaneSteps.mkFault (h : LaneSteps u s) (tag : Word) (o : Option Token) (code src tile addr : Nat) : s.mkFault tag o code src tile addr = u.mkFault tag o code src tile addr := by
  have hdev : s.devnum = u.devnum := h.fget (by decide) ..
  have hcount : s.count = u.count := h.fget (by decide) ..
  unfold State.mkFault State.faultVal
  rw [hdev, hcount]

theorem LaneSteps.qRoom (h : LaneSteps u s) (d q : Nat) : s.qRoom d q = u.qRoom d q := by
  unfold State.qRoom State.qOcc State.qSize
  rw [h.fget (f := F.QCFG_EN) (by decide), h.fget (f := F.QCFG_PMODE) (by decide), h.fget (f := F.QPTR_TAIL) (by decide), h.fget (f := F.QPTR_HEAD) (by decide),
    h.fget (f := F.QCFG_LOG2N) (by decide)]

theorem LaneSteps.entryAt (h : LaneSteps u s) (d q i : Nat) : s.entryAt d q i = u.entryAt d q i := by
  unfold State.entryAt State.ringAddr State.qAddr State.qSize State.region State.dsize
  rw [h.fget (f := F.QBASE_BASE) (by decide), h.fget (f := F.QCFG_LOG2N) (by decide), h.fget (f := F.DRSTAT_DSIZE) (by decide)]

theorem LaneSteps.still (h : LaneSteps u s) (w : u.Still) : s.Still := ⟨fun d => by rw [h.tiles, w.banks], h.rush.trans w.dram, by rw [h.mem]; exact w.form⟩

theorem LaneSteps.quietQ (h : LaneSteps u s) {d q : Nat} (w : u.QuietQ d q) : s.QuietQ d q :=
  ⟨fun j hj => by rw [h.threads]; exact w.threads j hj, by rw [h.fget (by decide)]; exact w.marks⟩

theorem LaneSteps.calm (h : LaneSteps u s) (w : u.laneCalm l) : s.laneCalm l := by
  unfold State.laneCalm at w ⊢
  rw [h.laneTile, h.ftile]
  exact fun e => ⟨h.still (w e).1, h.quietQ (w e).2⟩

theorem LaneSteps.pushed (h : LaneSteps u s) {d q : Nat} (p : Pushed s t d q k) : Pushed u t d q k := p.of h.mem (fun g hg => h.fget (by rw [hg]; decide) ..) (h.entryAt d q)

theorem LaneSteps.reported (h : LaneSteps u s) {d : Nat} (p : Reported s t d k) : Reported u t d k := by
  obtain ⟨hpush, hlost⟩ := p
  rw [h.qRoom] at hpush hlost
  refine ⟨fun e => h.pushed (hpush e), fun e => ?_⟩
  obtain ⟨hmem, hptr, hcount, hflag⟩ := hlost e
  refine ⟨hmem.trans h.mem, hptr.trans (h.regs _ _ _ (by decide)), ?_, hflag⟩
  unfold Counted at hcount ⊢
  rwa [h.fget (by decide)] at hcount

theorem LaneSteps.faulted (h : LaneSteps u s) {tag : Word} {code : Nat} (f : LaneFaulted s t l tag k code) : LaneFaulted u t l tag k code := by
  unfold LaneFaulted at f ⊢
  dsimp only at f ⊢
  rw [h.laneTile, h.ftile, h.mkFault, h.ctl] at f
  split at f
  · next e =>
    rw [if_pos e]
    exact ⟨h.reported f.1, f.2⟩
  · next e => rwa [if_neg e]

theorem LaneSteps.changes (h : LaneSteps u s) : s.laneFaultChanges l = u.laneFaultChanges l := by
  unfold State.laneFaultChanges
  rw [h.laneTile, h.ftile]

theorem Only.laneFault (h : s.laneCalm l) (tag : Word) (o : Option Token) (code : Nat) : Only (s.laneFaultChanges l) s (s.laneFault l tag o code) := by
  unfold State.laneFault State.sendFault State.laneFaultChanges
  dsimp only
  split
  · next e => exact (Only.refl _ s).pushFault (h e).1 (h e).2 (fun _ m => m) (by simp [reportChanges]) (by simp [reportChanges])
  · exact (Only.refl _ s).post (by simp)

theorem laneFault_faulted (h : s.laneCalm l) (tag : Word) (code : Nat) : LaneFaulted s (s.laneFault l tag (some k) code) l tag k code := by
  have honly := Only.laneFault h tag (some k) code
  unfold State.laneFault State.sendFault State.laneFaultChanges LaneFaulted at *
  dsimp only at honly ⊢
  split
  · next e =>
    rw [if_pos e] at honly
    simp only [if_pos e] at honly ⊢
    exact ⟨pushFault_reported (h e).1 (h e).2, honly.parts .ctl (by simp [reportChanges])⟩
  · next e => rfl

/-- A window's fault token changes neither what is on its way to windows nor the lanes' counts. -/
theorem laneFault_winq (h : s.laneCalm l) (tag : Word) (o : Option Token) (code : Nat) : (s.laneFault l tag o code).winq = s.winq := by
  refine (Only.laneFault h tag o code).parts .windows ?_
  unfold State.laneFaultChanges
  split <;> simp [reportChanges]

theorem laneFault_laneCnt (h : s.laneCalm l) (tag : Word) (o : Option Token) (code a i : Nat) : (s.laneFault l tag o code).reg .LANECNT a i = s.reg .LANECNT a i := by
  refine (Only.laneFault h tag o code).regs .LANECNT a i ?_
  unfold State.laneFaultChanges
  split <;> simp [reportChanges]

theorem laneFault_lane (h : s.laneCalm l) (tag : Word) (o : Option Token) (code m : Nat) : (s.laneFault l tag o code).lane m = s.lane m := by
  refine (Only.laneFault h tag o code).lanes m ?_
  unfold State.laneFaultChanges
  split <;> simp [reportChanges]

/-- A window reports a token, from a state that it has reached by changing `ch`. -/
theorem LaneSteps.reports (h : LaneSteps u s) (w : u.laneCalm l) {ch : Changes} (o : Only ch u s) (tag : Word) (code : Nat) :
    LaneFaulted u (s.laneFault l tag (some k) code) l tag k code ∧ Only (ch.and (u.laneFaultChanges l)) u (s.laneFault l tag (some k) code) := by
  have hcalm := h.calm w
  refine ⟨h.faulted (laneFault_faulted hcalm tag code), o.and_trans ?_⟩
  rw [← h.changes]
  exact Only.laneFault hcalm tag _ code

end

/-- The order of two changes does not matter to what is left. -/
theorem Only.comm {a b : Changes} {u t : State} (h : Only (a.and b) u t) : Only (b.and a) u t := by
  refine h.weaken ?_ ?_ ?_ ?_ ?_ ?_ ?_ <;> simp only [Changes.and, List.mem_append] <;> tauto

theorem Only.swap {a b c : Changes} {u t : State} (h : Only ((a.and b).and c) u t) : Only ((a.and c).and b) u t := by
  refine h.weaken ?_ ?_ ?_ ?_ ?_ ?_ ?_ <;> simp only [Changes.and, List.mem_append] <;> tauto

/-! ### The window's entries -/

section
variable {x : Lane} {q : Nat}

theorem held?_isSome : (x.held? q).isSome = true ↔ ∃ p ∈ x.win, p.1 = q := by simp [Lane.held?]

theorem held?_eq_none : x.held? q = none ↔ ∀ p ∈ x.win, p.1 ≠ q := by simp [Lane.held?]

/-- The timer after a token joins the window that is not the one for HEAD (03 R63). -/
theorem gapNow_holding {k : Token} {now : Nat} (hne : q ≠ x.head) : Lane.gapNow { x with win := x.win ++ [(q, k)] } now false = x.holding q k now := by
  have hheld : (Lane.held? { x with win := x.win ++ [(q, k)] } x.head).isSome = true ↔ ∃ p ∈ x.win, p.1 = x.head := by
    rw [held?_isSome]
    simp [hne]
  unfold Lane.gapNow Lane.holding
  dsimp only
  by_cases hhead : ∃ p ∈ x.win, p.1 = x.head
  · rw [if_pos (.inl (hheld.2 hhead)), if_pos hhead]
  · rw [if_neg (by rw [hheld]; simpa using hhead), if_neg hhead]
    cases hgap : x.gap with
    | none => rfl
    | some g => rw [if_neg (by simp)]

end

section
variable {s : State} {l : Nat} {k : Token} {r : List Token}

theorem windowArrival_of (h : tget s.winq [] l = k :: r) : s.windowArrival l = { s with winq := tput s.winq l r }.windowTake l k := by
  unfold State.windowArrival
  rw [h]

theorem arrived_tput (u : State) (l : Nat) (r : List Token) {t : State} (h : t.winq = tput u.winq l r) : Arrived u t l r := by
  unfold Arrived
  rw [h]
  exact ⟨tget_tput_self .., fun m hm => tget_tput_ne _ _ _ hm⟩

theorem laneW_le (s : State) (l : Nat) : s.laneW l ≤ 256 := s.fget_lt F.LANECFG_WINM1 0 l

/-- How far ahead of HEAD the number of a token lies, modulo 2^24. -/
def State.ahead (s : State) (l : Nat) (k : Token) : Nat := (k.seq + 2 ^ 24 - (s.lane l).head) % 2 ^ 24

theorem windowTake_off (h : (s.lane l).st = .off) : s.windowTake l k = s.laneFault l k.tag (some k) 3 := by
  unfold State.windowTake
  exact if_pos h

section
variable (hst : (s.lane l).st ≠ .off)
include hst

theorem windowTake_duplicate (hd : s.ahead l k < s.laneW l) (h : ∃ p ∈ (s.lane l).win, p.1 = k.seq) :
    s.windowTake l k = (s.inc F.LANECNT_DUPSEQ 0 l).laneFault l k.tag (some k) 2 := by
  unfold State.windowTake
  exact (if_neg hst).trans (if_pos ⟨hd, held?_isSome.2 h⟩)

theorem windowTake_late (hd : 2 ^ 23 ≤ s.ahead l k) : s.windowTake l k = (s.inc F.LANECNT_LATE 0 l).laneFault l k.tag (some k) 0x14 := by
  have hw : ¬s.ahead l k < s.laneW l := by have := laneW_le s l; omega
  unfold State.windowTake
  exact (if_neg hst).trans ((if_neg fun e => hw e.1).trans ((if_neg hw).trans (if_pos hd)))

theorem windowTake_beyond (hw : s.laneW l ≤ s.ahead l k) (hd : s.ahead l k < 2 ^ 23) : s.windowTake l k = (s.inc F.LANECNT_OOW 0 l).laneFault l k.tag (some k) 2 := by
  unfold State.windowTake
  exact (if_neg hst).trans ((if_neg fun e => hw.not_gt e.1).trans ((if_neg hw.not_gt).trans (if_neg hd.not_ge)))

theorem windowTake_put (hd : s.ahead l k < s.laneW l) (h : ∀ p ∈ (s.lane l).win, p.1 ≠ k.seq) : s.windowTake l k = s.windowPut l k.seq (s.ahead l k) k := by
  unfold State.windowTake
  exact (if_neg hst).trans ((if_neg fun e => by simp [held?_eq_none.2 h] at e).trans (if_pos hd))

end

/-- An output that has served a lane in this cycle releases nothing more now. -/
theorem releaseNow_busy (h : s.now < (tget s.outlets ⟨0, 0⟩ (s.outletOf l)).freeAt) : s.releaseNow l = s := by
  unfold State.releaseNow
  exact if_pos h

theorem outletOf_of {u s : State} (h : ∀ a i, s.reg .LANECFG a i = u.reg .LANECFG a i) (l : Nat) : s.outletOf l = u.outletOf l := by
  unfold State.outletOf State.fget
  simp only [h, F.LANECFG_SPORT, F.LANECFG_SINK]

theorem windowPut_ahead {q d : Nat} (hd : d ≠ 0) (hne : q ≠ (s.lane l).head) : s.windowPut l q d k = s.setLane l ((s.lane l).holding q k s.now) := by
  unfold State.windowPut
  exact (if_neg hd).trans (congrArg (s.setLane l) (gapNow_holding hne))

theorem windowPut_head {q : Nat} (h : s.now < (tget s.outlets ⟨0, 0⟩ (s.outletOf l)).freeAt) :
    s.windowPut l q 0 k = s.setLane l { s.lane l with win := (s.lane l).win ++ [(q, k)], held := false, gap := none, skip := none } := by
  unfold State.windowPut
  exact (if_pos rfl).trans (releaseNow_busy h)

end

/-- Settles O33: the cases of `windowTake`, with what a window's report leaves (`LaneSteps.reports`). -/
theorem windowsHoldOrReportTheirArrivals : Obligations.WindowsHoldOrReportTheirArrivals := by
  unfold Obligations.WindowsHoldOrReportTheirArrivals
  intro z dt l k r u x d win bad counted hq
  let s : State := { u with winq := tput u.winq l r }
  have hsteps : LaneSteps u s := (LaneSteps.refl u).windows _
  have honly : Only win u s := (Only.refl _ u).winq_ _ (by simp [win])
  have hstart : ∀ {t}, s.windowTake l k = t → exec (.windowArrival dt l) z = .next t := fun ht => congrArg _ ((windowArrival_of hq).trans ht)
  have hcounted : ∀ (f : Fld) (c : Nat), f.kind = .LANECNT → f.lo + f.len ≤ 64 → s.windowTake l k = (s.inc f 0 l).laneFault l k.tag (some k) c → counted f c := by
    intro f c hf hfits ht hcalm
    have hinc : LaneSteps u (s.inc f 0 l) := hsteps.inc hf 0 l
    obtain ⟨hfaulted, hall⟩ := hinc.reports (k := k) hcalm (honly.and_trans (b := { regs := [(.LANECNT, 0, l.val)] }) ((Only.refl _ s).inc (by simp [hf]))) k.tag c
    refine ⟨_, hstart ht, arrived_tput u l r ((laneFault_winq (hinc.calm hcalm) ..).trans rfl), ?_, hfaulted, ?_⟩
    · have hkept : ((s.inc f 0 l).laneFault l k.tag (some k) c).fget f 0 l = (s.inc f 0 l).fget f 0 l := by
        unfold State.fget
        rw [hf, laneFault_laneCnt (hinc.calm hcalm)]
      exact hkept.trans (fget_inc s f 0 l hfits)
    · exact hall.swap
  refine ⟨fun hoff hcalm => ?off, fun hst => ⟨fun hd hheld => ?_, fun hd => ?_, fun hw hd => ?_, fun hpos hd hnew hhead => ?ahead, fun hzero hnew hhead hbusy => ?head⟩⟩
  case off =>
    obtain ⟨hfaulted, hall⟩ := hsteps.reports (k := k) hcalm honly k.tag 3
    exact ⟨_, hstart (windowTake_off hoff), arrived_tput u l r ((laneFault_winq (hsteps.calm hcalm) ..).trans rfl), hfaulted, hall⟩
  · exact hcounted _ _ rfl (by decide) (windowTake_duplicate hst hd hheld)
  · exact hcounted _ _ rfl (by decide) (windowTake_late hst hd)
  · exact hcounted _ _ rfl (by decide) (windowTake_beyond hst hw hd)
  case ahead =>
    have hseq : k.seq < 2 ^ 24 := Nat.mod_lt _ (by decide)
    have hne : k.seq ≠ x.head := by omega
    have hahead : s.ahead l k ≠ 0 := hpos.ne'
    have hput : s.windowTake l k = s.setLane l (x.holding k.seq k u.now) := by
      rw [windowTake_put (s := s) hst hd hnew]
      exact windowPut_ahead (s := s) hahead hne
    exact ⟨_, hstart hput, arrived_tput u l r rfl, State.lane_setLane_self .., honly.and_trans ((Only.refl _ s).setLane _ (by simp))⟩
  case head =>
    have hnow : s.ahead l k = 0 := hzero
    have hfits : s.ahead l k < s.laneW l := hnow ▸ Nat.succ_pos _
    have hbusy' : s.now < (tget s.outlets ⟨0, 0⟩ (s.outletOf l)).freeAt := by
      rw [outletOf_of (s := s) (u := u) fun _ _ => rfl]
      exact hbusy
    have hput : s.windowTake l k = s.setLane l { x with win := x.win ++ [(k.seq, k)], held := false, gap := none, skip := none } := by
      rw [windowTake_put (s := s) hst hfits hnew, hnow]
      exact windowPut_head hbusy'
    exact ⟨_, hstart hput, arrived_tput u l r rfl, State.lane_setLane_self .., honly.and_trans ((Only.refl _ s).setLane _ (by simp))⟩

end Sys2Proof.Machine

/-! Outputs and their releases, gaps, skips and credits (03 R61 to R66, R71). -/
namespace Sys2Proof.Machine

/-! ### The lane that an output serves (03 R61) -/

/-- In an ascending list the first element with a property is the least one with it. -/
theorem find?_least {L : List Nat} {p : Nat → Bool} {a : Nat} (hs : L.Pairwise (· < ·)) (ha : a ∈ L) (hp : p a = true) (hmin : ∀ b ∈ L, p b = true → a ≤ b) : L.find? p = some a := by
  induction L with
  | nil => cases ha
  | cons b L ih =>
    obtain ⟨hb, hs⟩ := List.pairwise_cons.1 hs
    by_cases hpb : p b = true
    · have hle := hmin b List.mem_cons_self hpb
      rcases List.mem_cons.1 ha with rfl | ha
      · exact List.find?_cons_of_pos hpb
      · exact absurd (hb a ha) (by omega)
    · rw [List.find?_cons_of_neg hpb]
      rcases List.mem_cons.1 ha with rfl | ha
      · exact absurd hp hpb
      · exact ih hs ha fun b m => hmin b (List.mem_cons_of_mem _ m)

/-- The first element of an ascending list is its least one. -/
theorem head?_least {L : List Nat} {a : Nat} (hs : L.Pairwise (· < ·)) (ha : a ∈ L) (hmin : ∀ b ∈ L, a ≤ b) : L.head? = some a := by
  cases L with
  | nil => cases ha
  | cons b L =>
    rcases List.mem_cons.1 ha with rfl | ha
    · rfl
    · exact absurd (List.rel_of_pairwise_cons hs ha) (by have := hmin b List.mem_cons_self; omega)

/-- The lanes whose release an output can make now. -/
def State.readyLanes (s : State) (o : Outlet) : List Nat := (s.outletLanes o).filter fun l => (s.laneFront l).any fun k => s.sinkAccepts l k

section
variable {u : State} {o : Outlet} {l : Nat} {k : Token}

theorem mem_readyLanes : l ∈ u.readyLanes o ↔ ∃ k, u.canRelease o l k := by
  unfold State.readyLanes State.outletLanes State.canRelease
  cases hfront : u.laneFront l with
  | none => simp [hfront]
  | some j =>
    simp only [List.mem_filter, List.mem_range, hfront, Option.any_some, Bool.and_eq_true, decide_eq_true_eq, Option.isSome_some, and_true, Option.some.injEq]
    constructor
    · rintro ⟨⟨hl, hst, ho⟩, ha⟩
      exact ⟨j, hl, hst, ho, rfl, ha⟩
    · rintro ⟨k, hl, hst, ho, rfl, ha⟩
      exact ⟨⟨hl, hst, ho⟩, ha⟩

theorem readyLanes_ascending (u : State) (o : Outlet) : (u.readyLanes o).Pairwise (· < ·) := (List.pairwise_lt_range.filter _).filter _

/-- Of the lanes with a release, the first with CLS0, or else the first after the last one served, or else the first of all. -/
def State.turnOf (s : State) (o : Outlet) (ready : List Nat) : Option Nat :=
  (ready.find? fun l => s.fget F.LANECFG_CLS0 0 l = 1).or ((ready.find? fun l => decide ((tget s.outlets ⟨0, 0⟩ o).last < l)).or ready.head?)

theorem pickLane_eq (s : State) (o : Outlet) (lanes : List Nat) : s.pickLane o lanes = s.turnOf o (lanes.filter fun l => (s.laneFront l).any fun k => s.sinkAccepts l k) := by
  unfold State.pickLane
  dsimp only
  rw [List.filter_congr (q := fun l => (s.laneFront l).any fun k => s.sinkAccepts l k) fun l _ => ?ready]
  case ready => cases s.laneFront l <;> rfl
  generalize lanes.filter (fun l => (s.laneFront l).any fun k => s.sinkAccepts l k) = ready
  unfold State.turnOf
  split
  · next h => rw [h, Option.some_or]
  · next h =>
    rw [h, Option.none_or]
    cases ready.find? fun l => decide ((tget s.outlets ⟨0, 0⟩ o).last < l) <;> rfl

theorem pickLane_ready (s : State) (o : Outlet) : s.pickLane o (s.outletLanes o) = s.turnOf o (s.readyLanes o) := pickLane_eq s o _

theorem pickLane_next (hc : u.canRelease o l k) (hn : u.nextLane o l) : u.pickLane o (u.outletLanes o) = some l := by
  have hl : l ∈ u.readyLanes o := mem_readyLanes.2 ⟨k, hc⟩
  have hs := readyLanes_ascending u o
  rw [pickLane_ready]
  unfold State.turnOf
  unfold State.nextLane at hn
  dsimp only at hn
  split at hn
  · next h0 =>
    rw [find?_least hs hl (decide_eq_true h0) fun m hm h => ?_]
    · rfl
    · obtain ⟨j, hj⟩ := mem_readyLanes.1 hm
      exact hn m j hj (of_decide_eq_true h)
  · obtain ⟨hnone, hturn⟩ := hn
    have hno : ((u.readyLanes o).find? fun l => u.fget F.LANECFG_CLS0 0 l = 1) = none := by
      refine List.find?_eq_none.2 fun m hm => ?_
      obtain ⟨j, hj⟩ := mem_readyLanes.1 hm
      simpa using hnone m j hj
    rw [hno, Option.none_or]
    split at hturn
    · next hlast =>
      rw [find?_least hs hl (decide_eq_true hlast) fun m hm h => ?_]
      · rfl
      · obtain ⟨j, hj⟩ := mem_readyLanes.1 hm
        exact hturn m j hj (of_decide_eq_true h)
    · have hlow : ((u.readyLanes o).find? fun l => decide ((tget u.outlets ⟨0, 0⟩ o).last < l)) = none := by
        refine List.find?_eq_none.2 fun m hm => ?_
        obtain ⟨j, hj⟩ := mem_readyLanes.1 hm
        simpa using (hturn m j hj).1
      rw [hlow, Option.none_or]
      exact head?_least hs hl fun m hm => by
        obtain ⟨j, hj⟩ := mem_readyLanes.1 hm
        exact (hturn m j hj).2

end

/-! ### The release of a HEAD (03 R61 to R65) -/

theorem advanceHead_released (x : Lane) (now : Nat) : x.advanceHead now = x.released now := by
  unfold Lane.advanceHead Lane.gapNow Lane.released
  dsimp only
  split
  · next h => rw [if_pos (h.imp_left held?_isSome.1)]
  · next h => rw [if_pos (.inr rfl), if_neg fun e => h (e.imp_left held?_isSome.2)]

section
variable {u s : State} {o : Outlet} {l : Nat} {k : Token}

/-- No output but a catch link counts the waits of verdicts. -/
theorem countVwait_other (h : ∀ c, o ≠ .link c) (s : State) (l : Nat) : s.countVwait o l = s := by
  unfold State.countVwait
  cases o with
  | link c => exact absurd rfl (h c)
  | _ => rfl

theorem release_next (ho : ∀ c, o ≠ .link c) (hfree : (tget u.outlets ⟨0, 0⟩ o).freeAt ≤ u.now) (hc : u.canRelease o l k) (hn : u.nextLane o l) :
    u.release o = { u.releaseLane l k with
      outlets := tput u.outlets o ⟨u.now + 1, if u.fget F.LANECFG_CLS0 0 l = 1 then (tget u.outlets ⟨0, 0⟩ o).last else l⟩ } := by
  obtain ⟨-, -, -, hfront, -⟩ := id hc
  have hcount : (u.outletLanes o).foldl (fun s l => s.countVwait o l) u = u := by
    exact List.foldl_fixed' (fun m => countVwait_other ho u m) _
  unfold State.release
  dsimp only
  rw [if_neg hfree.not_gt, hcount, pickLane_next hc hn]
  dsimp only
  rw [hfront]

theorem releaseLane_held (h : (u.lane l).held? (u.lane l).head = some k) :
    u.releaseLane l k = (u.toSink l k).setLane l (((u.toSink l k).lane l).advanceHead (u.toSink l k).now) := by
  unfold State.releaseLane
  rw [h]
  rfl

theorem releaseLane_marker (h : (u.lane l).held? (u.lane l).head = none) (hs : (u.lane l).skip = some false) :
    u.releaseLane l k = ((u.inc F.LANECNT_GAPS 0 l).toSink l k).setLane l ((((u.inc F.LANECNT_GAPS 0 l).toSink l k).lane l).advanceHead ((u.inc F.LANECNT_GAPS 0 l).toSink l k).now) := by
  have hgap : u.gapRelease l k = u.inc F.LANECNT_GAPS 0 l := by
    have hlane : ((u.inc F.LANECNT_GAPS 0 l).lane l).skip = some false := hs
    unfold State.gapRelease
    dsimp only
    rw [hlane, if_neg (by decide)]
  unfold State.releaseLane
  dsimp only
  rw [h, Option.isNone_none, if_pos rfl, hgap]

theorem toSink_queue {d : TileId} (h : s.outletOf l = .queue d) : s.toSink l k = s.qPut d (s.fget F.LANECFG_SQ 0 l) k := by
  unfold State.toSink
  rw [h]

theorem toSink_host (h : s.outletOf l = .host) : s.toSink l k = s.ringPut (2 + s.fget F.LANECFG_SQ 0 l) (toBytes 32 k.num) := by
  unfold State.toSink
  rw [h]

/-- The output has handed its token over and moves its lane on. -/
theorem release_served {t v : State} {ch : Changes} (ht : Only ch u t) (hl : l ∉ ch.lanes) (hc : .clock ∉ ch.parts)
    (hv : v = { t.setLane l ((t.lane l).advanceHead t.now) with
      outlets := tput u.outlets o ⟨u.now + 1, if u.fget F.LANECFG_CLS0 0 l = 1 then (tget u.outlets ⟨0, 0⟩ o).last else l⟩ }) :
    v.lane l = (u.lane l).released u.now ∧ Served u v o l ∧ Only (ch.and { lanes := [l], parts := [.outlets] }) u v := by
  have hlane : t.lane l = u.lane l := ht.lanes l hl
  have hnow : t.now = u.now := ht.parts .clock hc
  rw [advanceHead_released, hlane, hnow] at hv
  subst hv
  exact ⟨State.lane_setLane_self .., ⟨tget_tput_self .., fun p hp => tget_tput_ne _ _ _ hp⟩, ht.and_trans (((Only.refl _ t).setLane _ (by simp)).outlets_ _ (by simp))⟩

theorem Only.ringPut {ch : Changes} {r : Nat} {b : List Byte} (h : Only ch u s) (m : (.RTAIL, 0, r) ∈ ch.regs) (m' : .out ∈ ch.parts) : Only ch u (s.ringPut r b) := by
  unfold State.ringPut State.ringSignal
  dsimp only
  split
  · exact ((h.emit m').fset _ m).emit m'
  · exact (h.emit m').fset _ m

theorem ringPut_shows (s : State) (r : Nat) (b : List Byte) :
    (s.ringPut r b).out = s.out ++ .ring r (s.fget F.RTAIL_TAIL 0 r) b :: (if s.fget F.RCFG_IEN 0 r = 1 then [.msix (s.fget F.RCFG_VEC 0 r)] else []) ∧
    (s.ringPut r b).fget F.RTAIL_TAIL 0 r = (s.fget F.RTAIL_TAIL 0 r + 1) % 2 ^ 32 := by
  have hien : ((s.emit (.ring r (s.fget F.RTAIL_TAIL 0 r) b)).fset F.RTAIL_TAIL 0 r (s.fget F.RTAIL_TAIL 0 r + 1)).fget F.RCFG_IEN 0 r = s.fget F.RCFG_IEN 0 r := fget_fset_kind _ (by decide)
  have hvec : ((s.emit (.ring r (s.fget F.RTAIL_TAIL 0 r) b)).fset F.RTAIL_TAIL 0 r (s.fget F.RTAIL_TAIL 0 r + 1)).fget F.RCFG_VEC 0 r = s.fget F.RCFG_VEC 0 r := fget_fset_kind _ (by decide)
  have htail : ((s.emit (.ring r (s.fget F.RTAIL_TAIL 0 r) b)).fset F.RTAIL_TAIL 0 r (s.fget F.RTAIL_TAIL 0 r + 1)).fget F.RTAIL_TAIL 0 r = (s.fget F.RTAIL_TAIL 0 r + 1) % 2 ^ 32 :=
    State.fget_fset_self _ _ _ _ _ (by decide)
  unfold State.ringPut State.ringSignal
  dsimp only
  rw [hien, hvec]
  split
  · exact ⟨List.append_assoc .., htail⟩
  · exact ⟨rfl, htail⟩

end

section
variable {u : State} {l q : Nat} {k : Token}

theorem laneFront_marker {b : Bool} (hnone : (u.lane l).held? (u.lane l).head = none) (hskip : (u.lane l).skip = some b) : u.laneFront l = some (u.gapMarker l (u.lane l).head) := by
  unfold State.laneFront
  dsimp only
  rw [hnone, hskip]
  rfl

theorem release_held_queue {d : TileId} (hfree : (tget u.outlets ⟨0, 0⟩ (.queue d)).freeAt ≤ u.now) (hc : u.canRelease (.queue d) l k) (hn : u.nextLane (.queue d) l)
    (hq : u.fget F.LANECFG_SQ 0 l = q) (hstill : u.Still) (hquiet : u.QuietQ d q) (hheld : (u.lane l).held? (u.lane l).head = some k) :
    Pushed u (u.release (.queue d)) d q k ∧ (u.release (.queue d)).lane l = (u.lane l).released u.now ∧ Served u (u.release (.queue d)) (.queue d) l ∧
      Only { regs := [(.QPTR, d, q)], lanes := [l], parts := [.mem, .ecc, .outlets] } u (u.release (.queue d)) := by
  obtain ⟨-, -, ho, -, -⟩ := id hc
  have hnext := release_next (o := .queue d) (fun c => nofun) hfree hc hn
  have hto : u.toSink l k = u.qPut d q k := hq ▸ toSink_queue ho
  rw [releaseLane_held hheld, hto] at hnext
  refine ⟨?_, release_served (Only.qPut_self hstill hquiet) (by simp) (by simp) hnext⟩
  rw [hnext]
  exact qPut_pushed hstill hquiet

theorem release_marker_queue {d : TileId} (hfree : (tget u.outlets ⟨0, 0⟩ (.queue d)).freeAt ≤ u.now) (hc : u.canRelease (.queue d) l k) (hn : u.nextLane (.queue d) l)
    (hq : u.fget F.LANECFG_SQ 0 l = q) (hstill : u.Still) (hquiet : u.QuietQ d q) (hnone : (u.lane l).held? (u.lane l).head = none) (hskip : (u.lane l).skip = some false) :
    Pushed u (u.release (.queue d)) d q k ∧ k = u.gapMarker l (u.lane l).head ∧ Counted u (u.release (.queue d)) F.LANECNT_GAPS 0 l 1 ∧
      (u.release (.queue d)).lane l = (u.lane l).released u.now ∧ Served u (u.release (.queue d)) (.queue d) l ∧
      Only { regs := [(.QPTR, d, q), (.LANECNT, 0, l)], lanes := [l], parts := [.mem, .ecc, .outlets] } u (u.release (.queue d)) := by
  obtain ⟨-, -, ho, hfront, -⟩ := id hc
  have hnext := release_next (o := .queue d) (fun c => nofun) hfree hc hn
  have hsteps : LaneSteps u (u.inc F.LANECNT_GAPS 0 l) := (LaneSteps.refl u).inc rfl 0 l
  have hto : (u.inc F.LANECNT_GAPS 0 l).toSink l k = (u.inc F.LANECNT_GAPS 0 l).qPut d q k := by
    rw [toSink_queue ((outletOf_of (fun a i => hsteps.regs _ a i (by decide)) l).trans ho), hsteps.fget (by decide), hq]
  have hpush := qPut_pushed (k := k) (hsteps.still hstill) (hsteps.quietQ hquiet)
  have hput := Only.qPut_self (k := k) (hsteps.still hstill) (hsteps.quietQ hquiet)
  have hall : Only { regs := [(.QPTR, d.val, q), (.LANECNT, 0, l)], parts := [.mem, .ecc] } u ((u.inc F.LANECNT_GAPS 0 l).qPut d q k) :=
    ((Only.refl _ u).inc (by simp [F.LANECNT_GAPS])).qPut (hsteps.still hstill) (hsteps.quietQ hquiet) (by simp) (by simp) (by simp)
  rw [releaseLane_marker hnone hskip, hto] at hnext
  refine ⟨?_, Option.some.inj (hfront.symm.trans (laneFront_marker hnone hskip)), ?_, release_served hall (by simp) (by simp) hnext⟩
  · rw [hnext]
    exact hsteps.pushed hpush
  · have hcount : (u.inc F.LANECNT_GAPS 0 l).fget F.LANECNT_GAPS 0 l = _ := fget_inc u F.LANECNT_GAPS 0 l (by decide)
    have hkept : ((u.inc F.LANECNT_GAPS 0 l).qPut d q k).fget F.LANECNT_GAPS 0 l = (u.inc F.LANECNT_GAPS 0 l).fget F.LANECNT_GAPS 0 l :=
      congrArg (wbits · _ _) (hput.regs .LANECNT 0 l (by simp))
    rw [hnext]
    exact hkept.trans hcount

theorem release_held_host {r : Nat} (hfree : (tget u.outlets ⟨0, 0⟩ .host).freeAt ≤ u.now) (hc : u.canRelease .host l k) (hn : u.nextLane .host l)
    (hr : 2 + u.fget F.LANECFG_SQ 0 l = r) (hheld : (u.lane l).held? (u.lane l).head = some k) :
    (u.release .host).out = u.out ++ .ring r (u.fget F.RTAIL_TAIL 0 r) (toBytes 32 k.num) :: (if u.fget F.RCFG_IEN 0 r = 1 then [.msix (u.fget F.RCFG_VEC 0 r)] else []) ∧
      (u.release .host).fget F.RTAIL_TAIL 0 r = (u.fget F.RTAIL_TAIL 0 r + 1) % 2 ^ 32 ∧ (u.release .host).lane l = (u.lane l).released u.now ∧ Served u (u.release .host) .host l ∧
      Only { regs := [(.RTAIL, 0, r)], lanes := [l], parts := [.outlets, .out] } u (u.release .host) := by
  obtain ⟨-, -, ho, -, -⟩ := id hc
  have hnext := release_next (o := .host) (fun c => nofun) hfree hc hn
  have hto : u.toSink l k = u.ringPut r (toBytes 32 k.num) := hr ▸ toSink_host ho
  rw [releaseLane_held hheld, hto] at hnext
  obtain ⟨hlane, hserved, honly⟩ := release_served (ch := { regs := [(.RTAIL, 0, r)], parts := [.out] }) ((Only.refl _ u).ringPut (by simp) (by simp)) (by simp) (by simp) hnext
  obtain ⟨hout, htail⟩ := ringPut_shows u r (toBytes 32 k.num)
  refine ⟨?_, ?_, hlane, hserved, honly.weaken (fun _ m => m) (fun _ m => m) (fun _ m => m) (fun _ m => m) (fun _ m => m) (fun _ m => m) (by simp [Changes.and])⟩
  · rw [hnext]
    exact hout
  · rw [hnext]
    exact htail

end

/-! ### Credit flits and gaps (03 R62 to R64) -/

section
variable {u : State} {l : Nat}

theorem creditFlit_due (hrel : (u.lane l).rel ≠ 0) (hbeat : (u.lane l).relBeat < u.now / 8) :
    u.creditFlit l = (u.setLane l { u.lane l with rel := 0 }).post (.credit l (u.lane l).rel) := by
  unfold State.creditFlit
  exact if_pos ⟨hrel, hbeat⟩

theorem gapExpired_eq {g : Nat} (hg : (u.lane l).gap = some g) : u.gapExpired l = decide (g + 8 * u.fget F.LANEGAP_GAPTO 0 l ≤ u.now) := by
  unfold State.gapExpired
  rw [hg]

theorem gapTimeout_early (h : ∀ g, (u.lane l).gap = some g → u.now < g + 8 * u.fget F.LANEGAP_GAPTO 0 l) : u.gapTimeout l = u := by
  have hnot : u.gapExpired l = false := by
    cases hg : (u.lane l).gap with
    | none =>
      unfold State.gapExpired
      rw [hg]
    | some g => rw [gapExpired_eq hg, decide_eq_false (h g hg).not_ge]
  unfold State.gapTimeout
  rw [hnot]
  rfl

section
variable {g : Nat} (hg : (u.lane l).gap = some g) (hdue : g + 8 * u.fget F.LANEGAP_GAPTO 0 l ≤ u.now) (hnone : (u.lane l).skip = none)
include hg hdue hnone

theorem gapTimeout_skips (hmode : u.fget F.LANEGAP_GAPMODE 0 l = 1) (hbusy : u.now < (tget u.outlets ⟨0, 0⟩ (u.outletOf l)).freeAt) :
    u.gapTimeout l = u.setLane l { u.lane l with gap := none, skip := some (!(u.lane l).held) } := by
  unfold State.gapTimeout
  dsimp only
  rw [gapExpired_eq hg, decide_eq_true hdue, hnone, if_neg (by simp), if_neg (by simp), if_pos hmode]
  exact releaseNow_busy hbusy

theorem gapTimeout_held (hmode : u.fget F.LANEGAP_GAPMODE 0 l ≠ 1) (hheld : (u.lane l).held = true) : u.gapTimeout l = u.setLane l { u.lane l with gap := none } := by
  unfold State.gapTimeout
  dsimp only
  rw [gapExpired_eq hg, decide_eq_true hdue, hnone, if_neg (by simp), if_neg (by simp), if_neg hmode, if_pos hheld]
  exact congrArg (u.setLane l) (by rw [← hheld])

theorem gapTimeout_reports (hmode : u.fget F.LANEGAP_GAPMODE 0 l ≠ 1) (hheld : (u.lane l).held = false) :
    u.gapTimeout l = (u.setLane l { u.lane l with gap := none, held := true }).laneFault l 5 (some (u.gapMarker l (u.lane l).head)) 0x14 := by
  unfold State.gapTimeout
  dsimp only
  rw [gapExpired_eq hg, decide_eq_true hdue, hnone, if_neg (by simp), if_neg (by simp), if_neg hmode, if_neg (by simp [hheld])]
  rfl

end

end

end Sys2Proof.Machine

/-! SKIP, the credits and the numbers that reach a lane, and the releases of outputs as a whole (03 R62, R64, R66, R71). -/
namespace Sys2Proof.Machine

/-! ### Writes that pass the checks (00 R402) -/

section
variable {z t : State} {who : Sys2Proof.Req} {k : RegKind} {d i : Nat} {v : Word}

theorem Passes.regWrite (h : z.Passes who k d i v) : z.regWrite who k d i v = z.ownRule who k d i v (merged (regSpec k).fields (z.reg k d i) v) := by
  obtain ⟨hdev, hhost, hright, hreserved, hvalues, hrws⟩ := h
  have hperst : (hostKind k && z.hostp.perst) = false := by
    cases hk : hostKind k with
    | false => rfl
    | true => exact hhost hk
  have hbad : (regSpec k).fields.any (valueBad (z.reg k d i) v) = false := List.any_eq_false.2 fun f hf => by simpa using hvalues f hf
  have hopen : (!z.rwsOpen who && (regSpec k).fields.any (rwsChange (z.reg k d i) v)) = false := by
    rcases hrws with hrws | hrws
    · rw [hrws]
      rfl
    · rw [List.any_eq_false.2 fun f hf => by simpa using hrws f hf, Bool.and_false]
  unfold State.regWrite
  dsimp only
  rw [hperst, hright, hreserved, hbad, hopen, decide_eq_false hdev]
  rfl

theorem Only.told {ch : Changes} {u s : State} (h : Only ch u t) (a : Nat) : Only ((toldChanges who).and ch) u (s.told who a (.ok t)) := by
  cases who with
  | debug => exact h.right.fset _ (by simp [toldChanges, Changes.and, F.DAPSTAT_ERR])
  | _ => exact h.right

theorem told_lane {s : State} (a l : Nat) : (s.told who a (.ok t)).lane l = t.lane l := by cases who <;> rfl

/-- A write of LANESTAT that passes its checks with SKIP alone. -/
theorem lanestatSkip_told {l : Nat} (h : z.Passes who .LANESTAT 0 l (wd (2 ^ 61))) :
    z.doWrite who .LANESTAT 0 l (wd (2 ^ 61)) = z.told who (regAddr .LANESTAT 0 l) (.ok (z.laneSkip l)) := by
  have hskip : wbits (wd (2 ^ 61)) 61 1 = 1 := by decide
  unfold State.doWrite
  rw [Passes.regWrite h]
  change z.told who (regAddr .LANESTAT 0 l) (z.lanestatWrite l (wd (2 ^ 61))) = _
  unfold State.lanestatWrite
  rw [if_pos hskip]

end

section
variable {z : State} {l : Nat}

theorem laneSkip_held (hheld : (z.lane l).held = true) (hst : (z.lane l).st ≠ .off) (hbusy : z.now < (tget z.outlets ⟨0, 0⟩ (z.outletOf l)).freeAt) :
    z.laneSkip l = z.setLane l { z.lane l with held := false, gap := none, skip := some false } := by
  unfold State.laneSkip
  dsimp only
  rw [if_pos ⟨hheld, hst⟩]
  exact releaseNow_busy hbusy

theorem laneSkip_none (hheld : (z.lane l).held = false) : z.laneSkip l = z := by
  unfold State.laneSkip
  dsimp only
  rw [if_neg (by simp [hheld])]

/-! ### What the control VC brings a lane (03 R62, R71) -/

theorem creditArrival_of {m k : Nat} {rest : List Ctl} (h : z.message (Ctl.isCreditOf l) (.credit m k) rest) :
    z.creditArrival l = if (z.lane l).st = .off then { z with ctl := rest }
      else (({ z with ctl := rest } : State).setLane l { z.lane l with credit := (z.lane l).credit + k }).wakeCredit l .retry := by
  obtain ⟨a, b, hctl, hbefore, hm, rfl⟩ := h
  unfold State.creditArrival
  rw [hctl, takeFirst_split _ a b (.credit m k) (fun e he => ?before) ?this]
  case this => exact hm
  case before =>
    have := hbefore e he
    cases e <;> exact this
  rfl

theorem execCreditArrival_awake {l : LaneId} {m : Ctl} {rest : List Ctl} (h : z.message (Ctl.isCreditOf l) m rest) (ha : z.active (z.laneSrcCore l) = true)
    (hkept : (z.creditArrival l).fget F.LANECFG_SRCK 0 l = 1) : exec (.creditArrival l) z = .next (z.creditArrival l) := by
  obtain ⟨a, b, hctl, -, hm, -⟩ := h
  have hany : z.ctl.any (Ctl.isCreditOf l) = true := List.any_eq_true.2 ⟨m, by simp [hctl], hm⟩
  unfold State.active at ha
  rw [Bool.and_eq_true, Bool.not_eq_true'] at ha
  change execCreditArrival l z = _
  unfold execCreditArrival State.ctlAwake State.ifAwake
  dsimp only
  rw [if_pos hany, ha.2, ha.1, if_neg (by decide), if_pos rfl, hkept, if_neg (by decide)]

theorem snextReport_of {m n : Nat} {rest : List Ctl} (h : z.message (fun m => match m with | .snext d _ => d = l | _ => false) (.snext m n) rest) :
    z.snextReport l = ({ z with ctl := rest } : State).setLane l { z.lane l with snext := n } := by
  obtain ⟨a, b, hctl, hbefore, hm, rfl⟩ := h
  unfold State.snextReport
  rw [hctl, takeFirst_split _ a b (.snext m n) (fun e he => ?before) hm]
  case before =>
    have := hbefore e he
    cases e <;> exact this

end

/-! ### The threads that wait for credit (03 R62) -/

section
variable {s : State} {l : Nat}

/-- The listed threads that wait for credit of a lane. -/
def State.creditWaiters (s : State) (l : Nat) : List (Nat × Nat) := s.allThreads.filter fun k => waitsCredit l (s.thr k.1 k.2)

theorem creditWaiters_none (h : ∀ c n, n < 16 → waitsCredit l (s.thr c n) = false) : s.creditWaiters l = [] := by
  refine List.filter_eq_nil_iff.2 fun k hk => ?_
  obtain ⟨p, -, rfl⟩ := List.mem_map.1 hk
  rw [h _ _ (Nat.mod_lt _ (by decide))]
  decide

theorem mem_allThreads {c n : Nat} (hn : n < 16) (h : s.thr c n ≠ Thread.rst) : (c, n) ∈ s.allThreads := by
  by_contra hno
  refine h (tget_unlisted fun p hp hkey => hno (List.mem_map.2 ⟨p, hp, ?_⟩))
  rw [hkey, show (c * 16 + n) / 16 = c by omega, show (c * 16 + n) % 16 = n by omega]

theorem allThreads_nodup (h : (s.threads.map fun p => p.1).Nodup) : s.allThreads.Nodup := by
  have hkeys : s.allThreads = (s.threads.map fun p => p.1).map fun k => (k / 16, k % 16) := by simp [State.allThreads]
  rw [hkeys]
  refine h.map fun a b hab => ?_
  obtain ⟨hdiv, hmod⟩ := Prod.mk.inj hab
  omega

theorem creditWaiters_one {c n : Nat} (hn : n < 16) (hwait : waitsCredit l (s.thr c n) = true) (hothers : ∀ d m, m < 16 → (d, m) ≠ (c, n) → waitsCredit l (s.thr d m) = false)
    (hkeys : (s.threads.map fun p => p.1).Nodup) : s.creditWaiters l = [(c, n)] := by
  have hlisted : (c, n) ∈ s.allThreads := mem_allThreads hn fun h => by
    rw [h] at hwait
    cases hwait
  refine List.perm_singleton.1 ((List.perm_ext_iff_of_nodup ((allThreads_nodup hkeys).filter _) (List.nodup_singleton _)).2 fun p => ?_)
  rw [List.mem_filter, List.mem_singleton]
  constructor
  · rintro ⟨hp, hw⟩
    by_contra hne
    obtain ⟨q, -, rfl⟩ := List.mem_map.1 hp
    rw [hothers _ _ (Nat.mod_lt _ (by decide)) hne] at hw
    cases hw
  · rintro rfl
    exact ⟨hlisted, hwait⟩

theorem waitsCredit_iff {x : Thread} : waitsCredit l x = true ↔ x.st = .wait ∧ x.wait = .credit l ∧ x.wres = none := by
  simp [waitsCredit, and_assoc]

end

/-- Settles O34: the release of the lane whose turn it is (`release_next`), the credit flit, the gap timer's cases, SKIP, and what the control VC brings. -/
theorem outputsReleaseInSequence : Obligations.OutputsReleaseInSequence := by
  unfold Obligations.OutputsReleaseInSequence
  refine ⟨?release, ?timers, ?skip, ?credit, ?snext⟩
  case release =>
    intro z dt o l k u q hfree hc hn
    refine ⟨fun d ho hstill hq => ?_, fun ho hheld => ?_⟩
    · subst ho
      exact ⟨fun hheld => ⟨_, rfl, release_held_queue hfree hc hn rfl hstill hq hheld⟩, fun hnone hskip => ⟨_, rfl, release_marker_queue hfree hc hn rfl hstill hq hnone hskip⟩⟩
    · subst ho
      exact ⟨_, rfl, release_held_host hfree hc hn rfl hheld⟩
  case timers =>
    intro z dt l u x
    refine ⟨fun hrel hbeat => ?_, fun g hg hdue hnone => ⟨fun hmode hheld hcalm => ?_, fun hmode hheld => ?_, fun hmode hbusy => ?_⟩, fun hearly => ?_⟩
    · refine ⟨_, congrArg Host.Outcome.next (creditFlit_due hrel hbeat), rfl, State.lane_setLane_self .., ?_⟩
      exact ((Only.refl _ u).setLane _ (by simp)).post (by simp)
    · have hstep : LaneSteps u (u.setLane l { x with gap := none, held := true }) := (LaneSteps.refl u).setLane _ _
      obtain ⟨hfaulted, honly⟩ := hstep.reports (k := u.gapMarker l x.head) hcalm ((Only.refl { lanes := [l.val] } u).setLane _ (by simp)) 5 0x14
      refine ⟨_, congrArg Host.Outcome.next (gapTimeout_reports hg hdue hnone hmode hheld), ?_, hfaulted, ?_⟩
      · exact (laneFault_lane (hstep.calm hcalm) ..).trans (State.lane_setLane_self ..)
      · exact honly.comm
    · exact ⟨_, congrArg Host.Outcome.next (gapTimeout_held hg hdue hnone hmode hheld), State.lane_setLane_self .., (Only.refl _ u).setLane _ (by simp)⟩
    · exact ⟨_, congrArg Host.Outcome.next (gapTimeout_skips hg hdue hnone hmode hbusy), State.lane_setLane_self .., (Only.refl _ u).setLane _ (by simp)⟩
    · exact ⟨_, congrArg Host.Outcome.next (gapTimeout_early hearly), Only.refl _ u⟩
  case skip =>
    intro z who l hpass hbusy
    have hrow : exec (.lanestatSkip who l) z = .next (z.told who (regAddr .LANESTAT 0 l) (.ok (z.laneSkip l))) := congrArg Host.Outcome.next (lanestatSkip_told hpass)
    refine ⟨fun hheld hst => ⟨_, hrow, ?_, ?_⟩, fun hheld => ⟨_, hrow, ?_⟩⟩
    · rw [told_lane, laneSkip_held hheld hst hbusy, State.lane_setLane_self]
    · rw [laneSkip_held hheld hst hbusy]
      exact ((Only.refl _ z).setLane _ (by simp)).told _
    · rw [laneSkip_none hheld]
      exact ((Only.refl {} z).told _).comm
  case credit =>
    intro z l k rest hm hs ha y
    let s : State := ({ z with ctl := rest } : State).setLane l y
    have honly : Only { lanes := [l.val], parts := [.ctl] } z s := ((Only.refl _ z).ctl_ _ (by simp)).setLane _ (by simp)
    have hrow : ∀ {t}, z.creditArrival l = t → t.reg .LANECFG 0 l = z.reg .LANECFG 0 l → exec (.creditArrival l) z = .next t := by
      rintro t rfl hreg
      exact execCreditArrival_awake hm ha ((congrArg (wbits · _ _) hreg).trans hs)
    have hon : (z.lane l).st ≠ .off → z.creditArrival l = (s.creditWaiters l).foldl (fun s k => s.wake k.1 k.2 .retry) s := fun hst => (creditArrival_of hm).trans (if_neg hst)
    refine ⟨fun hst hno => ?_, fun c n hst hwait hothers hkeys => ?_, fun hoff => ?_⟩
    · have hs' : z.creditArrival l = s := by
        rw [hon hst, creditWaiters_none (s := s) hno]
        rfl
      exact ⟨s, hrow hs' rfl, rfl, State.lane_setLane_self .., honly⟩
    · have hs' : z.creditArrival l = s.wake c n .retry := by
        rw [hon hst, creditWaiters_one (s := s) n.isLt hwait hothers hkeys]
        rfl
      obtain ⟨hwaits, -, hres⟩ := waitsCredit_iff.1 hwait
      have hwoken : Woken z (s.wake c n .retry) c n .retry := (woken_wake (s := s) hwaits hres .retry).of rfl rfl rfl
      have hwake : Only (wakeChanges c n) s (s.wake c n .retry) := (Only.refl _ s).wake _ n.isLt (by simp [wakeChanges]) (by simp [wakeChanges]) (by simp [wakeChanges])
      refine ⟨_, hrow hs' (hwake.regs .LANECFG 0 l (by simp [wakeChanges])), hwake.parts .ctl (by simp [wakeChanges]), ?_, hwoken, honly.right.trans hwake.left⟩
      exact (hwake.lanes l (by simp [wakeChanges])).trans (State.lane_setLane_self ..)
    · exact ⟨_, hrow ((creditArrival_of hm).trans (if_pos hoff)) rfl, rfl, (Only.refl _ z).ctl_ _ (by simp)⟩
  case snext =>
    intro z l n rest hm
    exact ⟨_, congrArg Host.Outcome.next (snextReport_of hm), rfl, State.lane_setLane_self .., ((Only.refl _ z).ctl_ _ (by simp)).setLane _ (by simp)⟩

end Sys2Proof.Machine

/-! Register writes of the stroke clock and of the cut that are refused (04 R88, R103): a thread that traps while a load is in its shadow gets the load's value. -/
namespace Sys2Proof.Machine

/-! ### MKR on a fabric source (04 R88) -/

/-- MKR = 1 with SRC = FABRIC, which R88 refuses. -/
def mkrOnFabric : Word := wd (2 * 2 ^ 0 + 1 * 2 ^ 2)

/-- The value passes the checks that every register has; the register's own rule refuses it. -/
theorem inShadow_passes_mkrOnFabric : inShadow.Passes (.thread 64 0) .STRKCFG 0 0 mkrOnFabric where
  dev := by decide
  host := by decide
  right := by decide
  reserved := by decide
  values := by decide
  rws := .inl (by decide)

theorem inShadow_strkcfgWrite : exec (.strkcfgWrite (.thread 64 0) mkrOnFabric) inShadow = .next (inShadow.trap 64 0 2 0 false) := rfl

/-- Refutes O39: a READY thread whose load has arrived in its shadow writes STRKCFG with MKR = 1 and SRC = FABRIC. The trap lands the load in w1 (05 R130), where `RefusedWith` has the registers of a thread with no load open. -/
theorem not_strokeSourcesAlignAreLostAndReturn : ¬ Obligations.StrokeSourcesAlignAreLostAndReturn := by
  unfold Obligations.StrokeSourcesAlignAreLostAndReturn
  rintro ⟨-, -, hwrite⟩
  obtain ⟨hrefused, -⟩ := hwrite inShadow (.thread 64 0) mkrOnFabric inShadow_passes_mkrOnFabric
  exact not_completes_refusedWith inShadow_strkcfgWrite inShadow_lands (hrefused (by decide) (by decide) nofun inShadow_canTell)

/-! ### An ARM for a take that is not the next (04 R103) -/

/-- ARM = 1 for take 0, while take 0 is in force. -/
def armSameTake : Word := wd (2 ^ 16)

theorem inShadow_passes_armSameTake : inShadow.Passes (.thread 64 0) .CUTTAKE 0 0 armSameTake where
  dev := by decide
  host := by decide
  right := by decide
  reserved := by decide
  values := by decide
  rws := .inl (by decide)

theorem inShadow_cuttakeArm : exec (.cuttakeArm (.thread 64 0) armSameTake) inShadow = .next (inShadow.trap 64 0 2 0 false) := rfl

/-- Refutes O40: a READY thread whose load has arrived in its shadow arms a cut for the take in force. The trap lands the load in w1 (05 R130), where `RefusedWith` has the registers of a thread with no load open. -/
theorem not_cutsAreCheckedSampledAndTaken : ¬ Obligations.CutsAreCheckedSampledAndTaken := by
  unfold Obligations.CutsAreCheckedSampledAndTaken
  rintro ⟨harm, -, -, -, -⟩
  obtain ⟨-, hrefused⟩ := harm inShadow (.thread 64 0) armSameTake inShadow_passes_armSameTake (by decide)
  obtain ⟨-, hmisfit⟩ := hrefused nofun inShadow_canTell
  exact not_completes_refusedWith inShadow_cuttakeArm inShadow_lands (hmisfit (by decide) (by decide))

end Sys2Proof.Machine

/-! Shots and overruns of the Cox (04 R94 to R101, 05 R129). -/
namespace Sys2Proof.Machine

/-! ### Grants (04 R94, R96) -/

/-- A word of two halves reads as its halves. -/
theorem wbits_halves {a b : Nat} (ha : a < 2 ^ 32) (hb : b < 2 ^ 32) : wbits (wd (a + b * 2 ^ 32)) 0 32 = a ∧ wbits (wd (a + b * 2 ^ 32)) 32 32 = b := by
  have hword : (wd (a + b * 2 ^ 32)).toNat = a + b * 2 ^ 32 := by
    rw [wd, BitVec.toNat_ofNat]
    omega
  unfold wbits bits
  rw [hword]
  omega

section
variable {u s : State} {d i : Nat} {h : Activity}

/-- Each counter takes its grant and stays at its greatest value. -/
theorem remain_grant (s : State) (d : Nat) (h : Activity) :
    let r := s.remain d h.act
    let cap := fun n => min n (2 ^ 32 - 1)
    (s.grant d h).remain d h.act = ⟨cap (r.fire + h.gFire), cap (r.slot + h.gSlot), cap (r.memb + h.gMemb), cap (r.flit + h.gFlit)⟩ := by
  intro r cap
  have hcap : ∀ n, cap n < 2 ^ 32 := fun n => by
    change min n (2 ^ 32 - 1) < 2 ^ 32
    omega
  obtain ⟨hfire, hslot⟩ := wbits_halves (hcap (r.fire + h.gFire)) (hcap (r.slot + h.gSlot))
  obtain ⟨hmemb, hflit⟩ := wbits_halves (hcap (r.memb + h.gMemb)) (hcap (r.flit + h.gFlit))
  have hrem0 : (s.grant d h).reg .ACTREM0 d h.act = wd (cap (r.fire + h.gFire) + cap (r.slot + h.gSlot) * 2 ^ 32) :=
    (State.reg_setReg_ne _ _ (by simp)).trans (State.reg_setReg_self ..)
  have hrem1 : (s.grant d h).reg .ACTREM1 d h.act = wd (cap (r.memb + h.gMemb) + cap (r.flit + h.gFlit) * 2 ^ 32) := State.reg_setReg_self ..
  unfold State.remain State.fget
  simp only [F.ACTREM0_FIRE, F.ACTREM0_SLOT, F.ACTREM1_MEMB, F.ACTREM1_FLIT, hrem0, hrem1, hfire, hslot, hmemb, hflit]

theorem fget_grant {f : Fld} (a j : Nat) (hf : f.kind ≠ .ACTREM0 ∧ f.kind ≠ .ACTREM1) : (s.grant d h).fget f a j = s.fget f a j :=
  (fget_setReg_kind _ hf.2).trans (fget_setReg_kind _ hf.1)

@[simp] theorem tile_grant (a : Nat) : (s.grant d h).tile a = s.tile a := rfl

theorem Only.grant {ch : Changes} (o : Only ch u s) (h0 : (.ACTREM0, d, h.act) ∈ ch.regs) (h1 : (.ACTREM1, d, h.act) ∈ ch.regs) : Only ch u (s.grant d h) :=
  (o.setReg _ h0).setReg _ h1

/-! ### A shot opens and closes (04 R96) -/

/-- The tile after shot i has opened, before its grants. -/
def State.opened (u : State) (d i : Nat) : State :=
  (u.fset F.COXSTAT_NEXTSH d 0 (i + 1)).onTile d fun x => { x with openShots := x.openShots ++ [i] }

theorem fget_opened {f : Fld} (a j : Nat) (hf : f.kind ≠ .COXSTAT) : (u.opened d i).fget f a j = u.fget f a j := fget_fset_kind _ hf

theorem tile_opened : (u.opened d i).tile d = { u.tile d with openShots := (u.tile d).openShots ++ [i] } := State.tile_setTile_self ..

theorem remain_opened (a : Nat) : (u.opened d i).remain d a = u.remain d a := by
  unfold State.remain
  simp (disch := decide) only [fget_opened]

theorem openShot_due (hi : u.fget F.COXSTAT_NEXTSH d 0 = i) (hshot : (u.activeBank d).shots[i]? = some h) (hdev : u.dev = .running ∨ u.dev = .draining)
    (hbeat : h.start ≤ u.strokeBeat) : u.openShot d = (u.opened d i).grant d h := by
  have hruns : u.shotsRun = true := by
    unfold State.shotsRun
    simpa using hdev
  unfold State.openShot
  simp only [hi, hshot]
  exact if_pos ⟨hruns, hbeat⟩

theorem openShot_early (hshot : (u.activeBank d).shots[u.fget F.COXSTAT_NEXTSH d 0]? = some h)
    (hearly : ¬(u.dev = .running ∨ u.dev = .draining) ∨ u.strokeBeat < h.start) : u.openShot d = u := by
  unfold State.openShot
  simp only [hshot]
  refine if_neg fun hdue => ?_
  obtain ⟨hruns, hbeat⟩ := hdue
  unfold State.shotsRun at hruns
  rcases hearly with hdev | hbefore
  · exact hdev (by simpa using hruns)
  · omega

theorem closeShot_due (hshot : (u.activeBank d).shots[i]? = some h) (hopen : i ∈ (u.tile d).openShots) (hlen : h.len ≠ 0) (hbeat : h.start + h.len ≤ u.strokeBeat) :
    u.closeShot d i = u.setTile d { u.tile d with openShots := (u.tile d).openShots.filter fun j => j ≠ i } := by
  unfold State.closeShot
  simp only [hshot]
  exact if_pos ⟨List.contains_iff_mem.2 hopen, hlen, hbeat⟩

theorem closeShot_early (hshot : (u.activeBank d).shots[i]? = some h) (hearly : h.len = 0 ∨ u.strokeBeat < h.start + h.len) : u.closeShot d i = u := by
  unfold State.closeShot
  simp only [hshot]
  refine if_neg fun hdue => ?_
  obtain ⟨-, hlen, hbeat⟩ := hdue
  omega

/-! ### The limit of CONSEC (04 R100, 05 R129) -/

/-- The state after CONSEC has been cleared and its report is no longer due. -/
def State.limitTaken (z : State) (d a : Nat) : State :=
  (z.onTile d fun x => { x with limitDue := x.limitDue.filter (· ≠ a) }).fset F.ACTOVR_CONSEC d a 0

/-- The fault token of an overrun. -/
def State.overrunTok (z : State) (d a : Nat) : Token :=
  ⟨mkTag 0 ((z.activeBank d).act a).ftile 0 0 0 ((z.activeBank d).act a).cls 4, mkDst z.devnum 0 0 0, z.faultVal 0x0B 4 0 d false, 0⟩

variable {z : State} {a : Nat}

theorem tile_limitTaken : (z.limitTaken d a).tile d = { z.tile d with limitDue := (z.tile d).limitDue.filter fun b => b ≠ a } := State.tile_setTile_self ..

theorem fget_limitTaken {f : Fld} (e j : Nat) (hf : f.kind ≠ .ACTOVR) : (z.limitTaken d a).fget f e j = z.fget f e j := fget_fset_kind _ hf

theorem only_limitTaken : Only { regs := [(.ACTOVR, d, a)], tiles := [d] } z (z.limitTaken d a) :=
  ((Only.refl _ z).onTile _ (by simp)).fset _ (by simp [F.ACTOVR_CONSEC])

theorem limitTaken_consec : (z.limitTaken d a).fget F.ACTOVR_CONSEC d a = 0 := State.fget_fset_self _ _ _ _ _ (by decide)

theorem limitTaken_ovrs : (z.limitTaken d a).fget F.ACTOVR_OVRS d a = z.fget F.ACTOVR_OVRS d a := State.fget_fset_field _ _ _ _ rfl (by decide)

theorem activeBank_limitTaken : (z.limitTaken d a).activeBank d = z.activeBank d := by
  unfold State.activeBank
  rw [fget_limitTaken _ _ (by decide), tile_limitTaken]

theorem overrunTok_limitTaken : (z.limitTaken d a).overrunTok d a = z.overrunTok d a := by
  unfold State.overrunTok State.devnum State.faultVal State.count
  rw [activeBank_limitTaken, fget_limitTaken _ _ (by decide), fget_limitTaken _ _ (by decide)]

theorem overrunLimit_eq (hdue : a ∈ (z.tile d).limitDue) :
    z.overrunLimit d a = if ((z.activeBank d).act a).cls = 0 then z.limitTaken d a
      else (z.limitTaken d a).sendFault (some d) ((z.activeBank d).act a).ftile (z.overrunTok d a) := by
  rw [← overrunTok_limitTaken, ← activeBank_limitTaken (z := z) (a := a)]
  exact if_pos (List.contains_iff_mem.2 hdue)

theorem overrunLimit_class0 (hdue : a ∈ (z.tile d).limitDue) (hcls : ((z.activeBank d).act a).cls = 0) : z.overrunLimit d a = z.limitTaken d a :=
  (overrunLimit_eq hdue).trans (if_pos hcls)

section
variable (hdue : a ∈ (z.tile d).limitDue) (hcls : ((z.activeBank d).act a).cls ≠ 0)
include hdue hcls

theorem overrunLimit_away (haway : ((z.activeBank d).act a).ftile ≠ d) :
    z.overrunLimit d a = (z.limitTaken d a).post (.faultTok ((z.activeBank d).act a).ftile (z.overrunTok d a)) :=
  ((overrunLimit_eq hdue).trans (if_neg hcls)).trans (if_neg fun e => haway (Option.some.inj e).symm)

theorem overrunLimit_here (hown : ((z.activeBank d).act a).ftile = d) : z.overrunLimit d a = (z.limitTaken d a).pushFault d (z.overrunTok d a) := by
  rw [overrunLimit_eq hdue, if_neg hcls, hown]
  exact if_pos rfl

end

/-! A report after that finds what it found before. -/

theorem still_limitTaken (w : z.Still) : (z.limitTaken d a).Still where
  banks e := by
    by_cases he : e = d
    · rw [he, tile_limitTaken]
      exact w.banks d
    · rw [only_limitTaken.tiles e (by simpa using he)]
      exact w.banks e
  dram := w.dram
  form := w.form

theorem quietQ_limitTaken {e q : Nat} (w : z.QuietQ e q) : (z.limitTaken d a).QuietQ e q := ⟨w.threads, by rw [fget_limitTaken _ _ (by decide)]; exact w.marks⟩

end

/-- A report to a fault queue reads five registers and memory of the state that it is made in. -/
theorem Reported.of_regs {u s t : State} {d : Nat} {k : Token} (r : Reported s t d k) (hmem : s.mem = u.mem)
    (hregs : ∀ g ∈ [RegKind.QPTR, .QCFG, .QBASE, .DRSTAT, .FQLOST], ∀ a i, s.reg g a i = u.reg g a i) : Reported u t d k := by
  have hfields : ∀ f : Fld, f.kind ∈ [RegKind.QPTR, .QCFG, .QBASE, .DRSTAT, .FQLOST] → ∀ a i, s.fget f a i = u.fget f a i :=
    fun f hf a i => congrArg (wbits · _ _) (hregs _ hf a i)
  have hentry : ∀ j, s.entryAt d 255 j = u.entryAt d 255 j := fun j => by
    unfold State.entryAt State.ringAddr State.qAddr State.qSize State.region State.dsize
    rw [hfields F.QBASE_BASE (by decide), hfields F.QCFG_LOG2N (by decide), hfields F.DRSTAT_DSIZE (by decide)]
  have hroom : s.qRoom d 255 = u.qRoom d 255 := by
    unfold State.qRoom State.qOcc State.qSize
    rw [hfields F.QCFG_EN (by decide), hfields F.QCFG_PMODE (by decide), hfields F.QPTR_TAIL (by decide), hfields F.QPTR_HEAD (by decide), hfields F.QCFG_LOG2N (by decide)]
  obtain ⟨hpush, hlost⟩ := r
  rw [hroom] at hpush hlost
  refine ⟨fun e => (hpush e).of hmem (fun g hg => hfields g (by rw [hg]; decide) ..) hentry, fun e => ?_⟩
  obtain ⟨hsame, hptr, hcount, hflag⟩ := hlost e
  refine ⟨hsame.trans hmem, hptr.trans (hregs _ (by decide) ..), ?_, hflag⟩
  unfold Counted at hcount ⊢
  rwa [hfields F.FQLOST_COUNT (by decide)] at hcount

/-- Settles O38: the shot at NEXTSH (`openShot_due`, `remain_grant`), the open shot past its last beat (`closeShot_due`), and the report of a limit (`overrunLimit_eq`). -/
theorem shotsOpenGrantAndClose : Obligations.ShotsOpenGrantAndClose := by
  unfold Obligations.ShotsOpenGrantAndClose
  refine ⟨?opens, ?closes, ?limit⟩
  case opens =>
    intro z dt d h u i r cap hshot hi
    refine ⟨fun hdev hbeat => ⟨_, congrArg Host.Outcome.next (openShot_due rfl hshot hdev hbeat), ?_, ?_, ?_, ?_, ?_, ?_⟩,
      fun hearly => ⟨u, congrArg Host.Outcome.next (openShot_early hshot hearly), Only.refl _ u⟩⟩
    · have hfits : i + 1 < 2 ^ 9 := by omega
      rw [fget_grant _ _ (by decide)]
      exact (State.fget_fset_self _ _ _ _ _ (by decide)).trans (Nat.mod_eq_of_lt hfits)
    · exact (fget_grant _ _ (by decide)).trans (State.fget_fset_field _ _ _ _ rfl (by decide))
    · exact (fget_grant _ _ (by decide)).trans (State.fget_fset_field _ _ _ _ rfl (by decide))
    · rw [tile_grant, tile_opened]
    · rw [remain_grant, remain_opened]
    · exact (((Only.refl _ u).fset _ (by simp [F.COXSTAT_NEXTSH])).onTile _ (by simp)).grant (by simp) (by simp)
  case closes =>
    intro z dt d i h u hshot hopen
    exact ⟨fun hlen hbeat => ⟨_, congrArg Host.Outcome.next (closeShot_due hshot hopen hlen hbeat), State.tile_setTile_self .., (Only.refl _ u).setTile _ (by simp)⟩,
      fun hearly => ⟨u, congrArg Host.Outcome.next (closeShot_early hshot hearly), Only.refl _ u⟩⟩
  case limit =>
    intro z d a act k y base hdue
    refine ⟨fun hcls haway => ⟨_, congrArg Host.Outcome.next (overrunLimit_away hdue hcls haway), tile_limitTaken, limitTaken_consec, limitTaken_ovrs, rfl, ?_⟩,
      fun hcls hown hstill hquiet => ?_,
      fun hcls => ⟨_, congrArg Host.Outcome.next (overrunLimit_class0 hdue hcls), tile_limitTaken, limitTaken_consec, only_limitTaken⟩⟩
    · exact only_limitTaken.left.post (by simp [Changes.and])
    · have hthen := still_limitTaken (d := d) (a := a) hstill
      have hquietThen := quietQ_limitTaken (d := d) (a := a) hquiet
      have honly : Only (reportChanges d) (z.limitTaken d a) ((z.limitTaken d a).pushFault d k) := (Only.refl _ _).pushFault hthen hquietThen (fun _ m => m) (by simp [reportChanges]) (by simp [reportChanges])
      refine ⟨_, congrArg Host.Outcome.next (overrunLimit_here hdue hcls hown), ?_, ?_, ?_, only_limitTaken.left.trans honly.right⟩
      · exact (honly.tiles d (by simp [reportChanges])).trans tile_limitTaken
      · exact (congrArg (wbits · _ _) (honly.regs .ACTOVR d a (by simp [reportChanges]))).trans limitTaken_consec
      · exact (pushFault_reported hthen hquietThen).of_regs rfl fun g hg e j => reg_fset_kind _ fun hk => absurd (hk ▸ hg) (by decide)

end Sys2Proof.Machine

/-! Markers of fabric links: the control block that brings one, the link that is followed, and its target (04 R84; 09 R211, R213; 11 R300, R301). -/
namespace Sys2Proof.Machine

/-! ### The least of a list -/

theorem minBy_eq_none {α : Type} {f : α → Nat} {l : List α} : minBy f l = none ↔ l = [] := by
  cases l with
  | nil => simp [minBy]
  | cons a l =>
    unfold minBy
    cases minBy f l with
    | none => simp
    | some b =>
      dsimp only
      split <;> simp

/-- The least element of a list is the first of its rank. -/
theorem minBy_first {α : Type} {f : α → Nat} {R : α → α → Prop} {l : List α} (hs : l.Pairwise R) {m : α} (h : minBy f l = some m) :
    m ∈ l ∧ ∀ x ∈ l, f m < f x ∨ f m = f x ∧ (m = x ∨ R m x) := by
  induction l generalizing m with
  | nil => cases h
  | cons a l ih =>
    obtain ⟨ha, hl⟩ := List.pairwise_cons.1 hs
    unfold minBy at h
    cases hb : minBy f l with
    | none =>
      rw [hb] at h
      cases h
      rw [minBy_eq_none.1 hb]
      simp
    | some b =>
      rw [hb] at h
      obtain ⟨hmem, hleast⟩ := ih hl hb
      dsimp only at h
      split at h
      · next hlt =>
        cases h
        refine ⟨List.mem_cons_of_mem _ hmem, fun x hx => ?_⟩
        rcases List.mem_cons.1 hx with rfl | hx
        · exact .inl hlt
        · exact hleast x hx
      · next hle =>
        cases h
        refine ⟨List.mem_cons_self .., fun x hx => ?_⟩
        rcases List.mem_cons.1 hx with rfl | hx
        · exact .inr ⟨rfl, .inl rfl⟩
        · rcases hleast x hx with hlt | ⟨heq, -⟩
          · exact .inl (by omega)
          · rcases Nat.lt_or_ge (f a) (f b) with hab | hab
            · exact .inl (by omega)
            · exact .inr ⟨by omega, .inr (ha x hx)⟩

/-! ### A control block (09 R211 to R213, R217) -/

section
variable {u : State} {k : LinkId}

theorem Only.onLink {ch : Changes} {s : State} (h : Only ch u s) (g : Link → Link) (m : k ∈ ch.links) : Only ch u (s.onLink k g) := h.setLink _ m

theorem linkSt_lt (u : State) (k : LinkId) : u.linkSt k < 4 := by cases k <;> exact u.fget_lt ..

/-- CRCERR is no field of the register with the state. -/
theorem linkSt_countCrc : (u.inc (lkF k F.CLCNT0_CRCERR F.FLCNT0_CRCERR) 0 (lkIx k)).linkSt k = u.linkSt k :=
  match k with
  | .catch_ _ => fget_inc_kind (f := F.CLCNT0_CRCERR) (f' := F.CLSTAT_STATE) (by decide)
  | .fabric _ => fget_inc_kind (f := F.FLCNT0_CRCERR) (f' := F.FLSTAT_STATE) (by decide)

theorem counts_inc {f : Fld} {a i : Nat} : Counts u (u.inc f a i) f a i 1 := State.reg_setReg_self ..

theorem discardBlock_discarded (u : State) (k : LinkId) : Discarded u (u.discardBlock k) k := by
  unfold Discarded State.discardBlock
  by_cases hst : u.linkSt k < 2
  · rw [if_pos hst, if_pos hst]
    exact Only.refl _ u
  · have hreg : ((lkF k F.CLCNT0_CRCERR F.FLCNT0_CRCERR).kind, 0, lkIx k) = (lkCnt k, 0, lkIx k) := by cases k <;> rfl
    have honly : Only { regs := [(lkCnt k, 0, lkIx k)], links := [k] } u (u.inc (lkF k F.CLCNT0_CRCERR F.FLCNT0_CRCERR) 0 (lkIx k)) := (Only.refl _ u).inc (by rw [hreg]; simp)
    rw [if_neg hst, if_neg hst]
    dsimp only
    rw [linkSt_countCrc]
    by_cases htakes : u.linkSt k = 3 ∧ (u.link k).dropping = false
    · rw [if_pos htakes, if_pos (by simpa [State.inc, State.finc] using htakes)]
      exact ⟨counts_inc, State.link_setLink_self .., honly.onLink _ (by simp)⟩
    · rw [if_neg htakes, if_neg (by simpa [State.inc, State.finc] using htakes)]
      exact ⟨counts_inc, rfl, honly⟩

/-- A command whose block acts by `f`. -/
theorem blockTaken_of {i : Sys2Proof.Instr} {z : State} {least ctype : Nat} {named : List Nat} {b : List Byte} {f : State → State} {eff : State → Prop}
    (hrow : exec i z = .next (u.takeBlock k least ctype named b f)) (heff : least ≤ u.linkSt k → eff (f u)) : BlockTaken i z u k least ctype named b eff := by
  unfold State.takeBlock at hrow
  refine ⟨fun hbad => ⟨_, hrow, ?_⟩, fun hok hbelow => ⟨_, hrow, ?_⟩, fun hok hst => ⟨_, hrow, ?_⟩⟩
  · rw [if_neg (by simp [hbad])]
    exact discardBlock_discarded u k
  · rw [if_pos hok, if_neg hbelow.not_ge]
    exact Only.refl _ u
  · rw [if_pos hok, if_pos hst]
    exact heff hst

end

/-! ### The link that is followed (11 R300) -/

/-- What the markers of a state leave to follow: the link followed while it can be, or the first of those with the fewest hops. -/
def Follows (u t : State) : Prop :=
  (∀ f, u.stroke.follow = some f → (t.markHops f).isSome = true → t.stroke.follow = some f) ∧
  ((∀ f, u.stroke.follow = some f → t.markHops f = none) →
    (∀ f, t.stroke.follow = some f → f < 16 ∧ ∃ h, t.markHops f = some h ∧ ∀ j < 16, ∀ i, t.markHops j = some i → h < i ∨ h = i ∧ f ≤ j) ∧
    (t.stroke.follow = none → ∀ j < 16, t.markHops j = none))

section
variable {s : State}

theorem pickLink_kept {f : Nat} (hf : s.stroke.follow = some f) (hs : (s.markHops f).isSome = true) : s.pickLink = some f := by
  unfold State.pickLink
  simp [hf, hs]

/-- The links whose markers can be followed. -/
def State.markedLinks (s : State) : List Nat := (List.range 16).filter fun l => (s.markHops l).isSome

theorem mem_markedLinks {l : Nat} : l ∈ s.markedLinks ↔ l < 16 ∧ (s.markHops l).isSome = true := by simp [State.markedLinks]

theorem pickLink_fresh (h : ∀ f, s.stroke.follow = some f → s.markHops f = none) : s.pickLink = minBy (fun l => (s.markHops l).getD 16) s.markedLinks := by
  unfold State.pickLink State.markedLinks
  cases hf : s.stroke.follow with
  | none => rfl
  | some f => simp [h f hf]

theorem pickLink_first {f : Nat} (h : ∀ g, s.stroke.follow = some g → s.markHops g = none) (hf : s.pickLink = some f) :
    f < 16 ∧ ∃ n, s.markHops f = some n ∧ ∀ j < 16, ∀ i, s.markHops j = some i → n < i ∨ n = i ∧ f ≤ j := by
  rw [pickLink_fresh h] at hf
  obtain ⟨hmem, hfirst⟩ := minBy_first (List.pairwise_lt_range.filter _) hf
  obtain ⟨hlt, hsome⟩ := mem_markedLinks.1 hmem
  obtain ⟨n, hn⟩ := Option.isSome_iff_exists.1 hsome
  refine ⟨hlt, n, hn, fun j hj i hi => ?_⟩
  have := hfirst j (mem_markedLinks.2 ⟨hj, by simp [hi]⟩)
  simp only [hn, hi, Option.getD_some] at this
  omega

theorem pickLink_none (h : ∀ g, s.stroke.follow = some g → s.markHops g = none) (hnone : s.pickLink = none) {j : Nat} (hj : j < 16) : s.markHops j = none := by
  rw [pickLink_fresh h, minBy_eq_none] at hnone
  rw [← Option.not_isSome_iff_eq_none]
  exact fun hs => List.not_mem_nil (hnone ▸ mem_markedLinks.2 ⟨hj, hs⟩)

/-- A state whose link to follow has been picked from its markers. -/
theorem follows_pickLink {u t : State} (hfollow : s.stroke.follow = u.stroke.follow) (hhops : ∀ f, t.markHops f = s.markHops f) (ht : t.stroke.follow = s.pickLink) : Follows u t := by
  unfold Follows
  simp only [hhops, ht, ← hfollow]
  exact ⟨fun f => pickLink_kept, fun h => ⟨fun f => pickLink_first h, fun hnone j => pickLink_none h hnone⟩⟩

end

/-! ### A MARKER (11 R301) -/

section
variable {u : State} {l : Fin 16} {mh : Nat}

/-- The marker of a link is remembered. -/
def State.noted (u : State) (l : Fin 16) (mh : Nat) : State := u.onLink (.fabric l) fun x => { x with mark := some (mh, 0) }

/-- The marker of a link is remembered and the link to follow is picked. -/
def State.markerIn (u : State) (l : Fin 16) (mh : Nat) : State := { u.noted l mh with stroke := { u.stroke with follow := (u.noted l mh).pickLink } }

theorem link_noted : (u.noted l mh).link (.fabric l) = { u.link (.fabric l) with mark := some (mh, 0) } := State.link_setLink_self ..

theorem only_markerIn : Only { links := [.fabric l], parts := [.stroke] } u (u.markerIn l mh) :=
  ((Only.refl _ u).onLink _ (by simp)).stroke_ _ (by simp)

theorem markHops_noted (hst : u.linkSt (.fabric l) = 3) (hv : u.fget F.FLDLY_DVALID 0 l = 1) : (u.noted l mh).markHops l = some mh := by
  have hl : (LinkId.fabric (Fin.ofNat 16 l)) = .fabric l := by simp
  unfold State.markHops
  dsimp only
  rw [hl, link_noted]
  exact if_pos ⟨hst, hv, by decide⟩

theorem follows_markerIn (k : Stroke) (hk : k.follow = (u.noted l mh).pickLink) : Follows u { u.markerIn l mh with stroke := k } :=
  follows_pickLink (s := u.noted l mh) rfl (fun _ => rfl) hk

theorem markTarget_next {n e : Nat} (hdev : u.dev ≠ .standby) (hn : n = (u.count + 1) % 2 ^ 48) (hgap : gap e u.stroke.tgt ≤ 8000) :
    u.markTarget n e = { u with stroke := { u.stroke.marked with tgt := e } } := by
  unfold State.markTarget
  dsimp only
  rw [if_neg hdev, if_pos ⟨hn, hgap⟩]

/-- What a MARKER does to a link that takes it. -/
def State.markerTaken (u : State) (l : Fin 16) (b : List Byte) (t10 : Nat) : State :=
  let s := u.markerIn l (blkByte b 7 % 16)
  if u.strkSrc = 2 ∧ s.stroke.follow = some l.val then s.markTarget (blkNum b 1 6) (2 * (t10 - u.fget F.FLDLY_DLY 0 l - blkNum b 8 2)) else s

theorem execMarker_eq (dt : Nat) (l : Fin 16) (b : List Byte) (t10 : Nat) (z : State) :
    exec (.marker dt l b t10) z = .next ((z.advance dt).takeBlock (.fabric l) 3 0x0C (List.range 10) b fun u => u.markerTaken l b t10) := rfl

variable {b : List Byte} {t10 : Nat}

theorem markerTaken_other (hsrc : u.strkSrc ≠ 2) : u.markerTaken l b t10 = u.markerIn l (blkByte b 7 % 16) := if_neg fun h => hsrc h.1

/-- A link that can be followed and is followed stays so. -/
theorem pickLink_noted (hst : u.linkSt (.fabric l) = 3) (hfollow : u.stroke.follow = some l.val) (hv : u.fget F.FLDLY_DVALID 0 l = 1) (mh : Nat) :
    (u.noted l mh).pickLink = some l.val :=
  pickLink_kept (s := u.noted l mh) hfollow (by rw [markHops_noted hst hv]; rfl)

theorem markerTaken_followed (hst : u.linkSt (.fabric l) = 3) (hsrc : u.strkSrc = 2) (hdev : u.dev ≠ .standby) (hfollow : u.stroke.follow = some l.val)
    (hv : u.fget F.FLDLY_DVALID 0 l = 1) (hn : blkNum b 1 6 = (u.count + 1) % 2 ^ 48) (hgap : gap (2 * (t10 - u.fget F.FLDLY_DLY 0 l - blkNum b 8 2)) u.stroke.tgt ≤ 8000) :
    u.markerTaken l b t10 = { u.markerIn l (blkByte b 7 % 16) with
      stroke := { u.stroke with tgt := 2 * (t10 - u.fget F.FLDLY_DLY 0 l - blkNum b 8 2), seen := true, missed := 0, first := false } } := by
  have hpick := pickLink_noted hst hfollow hv (blkByte b 7 % 16)
  have hstroke : (u.markerIn l (blkByte b 7 % 16)).stroke = u.stroke := by
    change ({ u.stroke with follow := _ } : Stroke) = u.stroke
    rw [hpick, ← hfollow]
  unfold State.markerTaken
  dsimp only
  rw [hstroke, if_pos ⟨hsrc, hfollow⟩, markTarget_next (u := u.markerIn l (blkByte b 7 % 16)) hdev hn (by rw [hstroke]; exact hgap), hstroke]
  rfl

theorem only_markerStroke (mh : Nat) (k : Stroke) : Only { links := [.fabric l], parts := [.stroke] } u { u.markerIn l mh with stroke := k } :=
  only_markerIn.stroke_ _ (by simp)

end

end Sys2Proof.Machine

/-! The PTP servo of the stroke clock (04 R84; 11 R303; log 64; log 65). -/
namespace Sys2Proof.Machine

/-! ### The loss of lock (11 R303, 12 R306) -/

section
variable {u s : State} {g : Ptp → Ptp}

theorem Only.onPtp {ch : Changes} (h : Only ch u s) (g : Ptp → Ptp) (m : .stroke ∈ ch.parts) : Only ch u (s.onPtp g) := h.stroke_ _ m

theorem fget_onPtp (f : Fld) (a i : Nat) : (s.onPtp g).fget f a i = s.fget f a i := rfl

theorem stroke_onPtp : (s.onPtp g).stroke = { s.stroke with ptp := g s.stroke.ptp } := rfl

theorem State.Unwatched.of {t : State} (w : s.Unwatched) (hak : t.ak = s.ak) (hcfg : ∀ i, t.reg .RCFG 0 i = s.reg .RCFG 0 i) : t.Unwatched :=
  ⟨by rw [hak]; exact w.sessions, by rw [show t.fget F.RCFG_EN 0 1 = s.fget F.RCFG_EN 0 1 from congrArg (wbits · _ _) (hcfg 1)]; exact w.ring⟩

theorem ptpLose_unlocked (h : s.fget F.PTPSTAT_LOCKED 0 0 ≠ 1) : s.ptpLose = s.onPtp fun p => { p with good := 0 } := by
  unfold State.ptpLose
  exact if_neg h

/-- The state after a loss of lock of which no one is told. -/
def State.lockLost (s : State) : State :=
  ((({ s with stroke := { s.stroke with missed := 4, ptp := { s.stroke.ptp with good := 0 } } } : State).fset F.PTPSTAT_LOCKED 0 0 0).fset F.PTPSTAT_LOSTF 0 0 1).raiseDev 10

/-- Only PTPSTAT and DPEND differ in their registers. -/
theorem reg_lockLost {k : RegKind} (a i : Nat) (hk : k ≠ .PTPSTAT ∧ k ≠ .DPEND) : s.lockLost.reg k a i = s.reg k a i := by
  unfold State.lockLost State.raiseDev
  rw [State.reg_setReg_ne _ _ (by simp [hk.2]), reg_fset_kind _ hk.1, reg_fset_kind _ hk.1]
  rfl

theorem ptpLose_locked (h : s.fget F.PTPSTAT_LOCKED 0 0 = 1) (w : s.Unwatched) : s.ptpLose = s.lockLost := by
  have hw : s.lockLost.Unwatched := w.of rfl fun i => reg_lockLost 0 i (by decide)
  refine Eq.trans ?_ (event_unwatched hw 13 0 0)
  unfold State.ptpLose
  exact if_pos h

theorem fget_lockLost_ofs : s.lockLost.fget F.PTPSTAT_OFS 0 0 = s.fget F.PTPSTAT_OFS 0 0 := by
  unfold State.lockLost
  simp (disch := decide) only [fget_raiseDev, State.fget_fset_field]
  rfl

theorem fget_lockLost_locked : s.lockLost.fget F.PTPSTAT_LOCKED 0 0 = 0 := by
  unfold State.lockLost
  simp (disch := decide) only [fget_raiseDev, State.fget_fset_field, State.fget_fset_self]
  rfl

theorem fget_lockLost_lostf : s.lockLost.fget F.PTPSTAT_LOSTF 0 0 = 1 := by
  unfold State.lockLost
  rw [fget_raiseDev _ _ _ (by decide), State.fget_fset_self _ _ _ _ _ (by decide)]
  rfl

theorem reg_lockLost_dpend : s.lockLost.reg .DPEND 0 0 = s.reg .DPEND 0 0 ||| 1024 := by
  unfold State.lockLost
  refine (State.reg_setReg_self ..).trans (congrArg (· ||| (1024 : Word)) ?_)
  rw [reg_fset_kind _ (by decide), reg_fset_kind _ (by decide)]
  rfl

theorem ptpLost_lockLost (hpend : s.reg .DPEND 0 0 = u.reg .DPEND 0 0) : PtpLost u s.lockLost :=
  ⟨fget_lockLost_locked, fget_lockLost_lostf, hpend ▸ reg_lockLost_dpend, rfl, rfl⟩

theorem PtpLost.onPtp (h : PtpLost u s) (hgood : (g s.stroke.ptp).good = 0) : PtpLost u (s.onPtp g) := by
  obtain ⟨hlocked, hlostf, hpend, hmissed, -⟩ := h
  exact ⟨hlocked, hlostf, hpend, hmissed, hgood⟩

theorem good_lockLost : s.lockLost.stroke.ptp.good = 0 := rfl

theorem Only.lockLost {ch : Changes} (h : Only ch u s) (m : (.PTPSTAT, 0, 0) ∈ ch.regs) (m' : (.DPEND, 0, 0) ∈ ch.regs) (m'' : .stroke ∈ ch.parts) : Only ch u s.lockLost :=
  (((h.stroke_ _ m'').fset (f := F.PTPSTAT_LOCKED) _ m).fset (f := F.PTPSTAT_LOSTF) _ m).raiseDev m'

theorem locked_eq_zero (h : s.fget F.PTPSTAT_LOCKED 0 0 ≠ 1) : s.fget F.PTPSTAT_LOCKED 0 0 = 0 := by
  have hlt : s.fget F.PTPSTAT_LOCKED 0 0 < 2 := s.fget_lt ..
  omega

end

/-! ### The messages that the clock takes (11 R303) -/

section
variable {u : State} {m : Sys2Proof.PtpMsg}

theorem ptpTakes_iff : u.ptpTakes m = true ↔
    u.fget F.PTPCFG_EN 0 0 = 1 ∧ u.strkSrc = 1 ∧ u.fget F.PTPCFG_PORT 0 0 = m.port.val ∧ u.fget F.PTPCFG_DOMAIN 0 0 = m.domain := by
  simp [State.ptpTakes, and_assoc]

/-! ### The servo (log 2, log 64) -/

section
variable {s : State} {ofs : Int} {cycles : Nat}

theorem servoStep_jump (hofs : 100000 < ofs.natAbs) (hlock : s.fget F.PTPSTAT_LOCKED 0 0 = 0) : s.servoStep ofs cycles = s.onPtp fun p => { p with off := p.off - ofs } := by
  unfold State.servoStep
  exact if_pos ⟨hofs, hlock⟩

/-- The state after the servo has steered by d. -/
def State.steered (s : State) (ofs : Int) (d : Nat) : State :=
  ({ s with freeCtr := s.freeCtr + 1 } : State).onPtp fun p => { p with off := if 0 < ofs then p.off - d else p.off + d }

theorem servoStep_steered (h : ofs.natAbs ≤ 100000) : ∃ d ≤ min ofs.natAbs (cycles * 125 / 20000), s.servoStep ofs cycles = s.steered ofs d := by
  refine ⟨(Config.freeWord s.freeCtr).toNat % (min ofs.natAbs (cycles * 125 / 20000) + 1), Nat.lt_succ_iff.1 (Nat.mod_lt _ (Nat.succ_pos _)), ?_⟩
  unfold State.servoStep
  exact if_neg fun hjump => hjump.1.not_ge h

theorem fget_steered {d : Nat} (f : Fld) (a i : Nat) : (s.steered ofs d).fget f a i = s.fget f a i := rfl

theorem Only.steered {ch : Changes} {d : Nat} (h : Only ch u s) (m : .stroke ∈ ch.parts) (m' : .free ∈ ch.parts) : Only ch u (s.steered ofs d) := (h.freeCtr_ _ m').onPtp _ m

end

/-! ### A Sync of the selected master (11 R303) -/

theorem trunc_lt (n : Nat) (v : Int) : trunc n v < 2 ^ n := by
  have hpos : (0 : Int) < ((2 ^ n : Nat) : Int) := by exact_mod_cast Nat.two_pow_pos n
  have hlt := Int.emod_lt_of_pos v hpos
  have hnonneg := Int.emod_nonneg v hpos.ne'
  unfold trunc
  omega

/-- The difference of a Sync's times. -/
def syncDiff (m : Sys2Proof.PtpMsg) : Int := (m.receipt : Int) - (m.origin + m.correction : Nat)

/-- The offset that a Sync measures. -/
def State.syncOfs (u : State) (m : Sys2Proof.PtpMsg) : Int := syncDiff m + u.stroke.ptp.off - u.stroke.ptp.delay

/-- How many Syncs in a row were within bounds. -/
def State.syncGood (u : State) (m : Sys2Proof.PtpMsg) : Nat := if (u.syncOfs m).natAbs ≤ 100 then min 16 (u.stroke.ptp.good + 1) else 0

/-- The state after a Sync has been measured. -/
def State.syncIn (u : State) (m : Sys2Proof.PtpMsg) : State :=
  (u.fset F.PTPSTAT_OFS 0 0 (trunc 32 (max (-2147483647) (min 2147483647 (u.syncOfs m))))).onPtp fun p =>
    { p with diff := syncDiff m, syncAt := u.now, intv := m.interval, good := if (u.syncOfs m).natAbs ≤ 100 then min 16 (p.good + 1) else 0 }

theorem fget_syncIn_ofs : (u.syncIn m).fget F.PTPSTAT_OFS 0 0 = trunc 32 (max (-2147483647) (min 2147483647 (u.syncOfs m))) := by
  refine (State.fget_fset_self _ F.PTPSTAT_OFS _ _ _ (by decide)).trans (Nat.mod_eq_of_lt (trunc_lt ..))

theorem fget_syncIn_locked : (u.syncIn m).fget F.PTPSTAT_LOCKED 0 0 = u.fget F.PTPSTAT_LOCKED 0 0 := State.fget_fset_field (f := F.PTPSTAT_OFS) _ _ _ _ rfl (by decide)

theorem fget_syncIn_lostf : (u.syncIn m).fget F.PTPSTAT_LOSTF 0 0 = u.fget F.PTPSTAT_LOSTF 0 0 := State.fget_fset_field (f := F.PTPSTAT_OFS) _ _ _ _ rfl (by decide)

theorem only_syncIn {ch : Changes} (hreg : (.PTPSTAT, 0, 0) ∈ ch.regs) (hpart : .stroke ∈ ch.parts) : Only ch u (u.syncIn m) :=
  ((Only.refl _ u).fset (f := F.PTPSTAT_OFS) _ hreg).onPtp _ hpart

theorem unwatched_syncIn (w : u.Unwatched) : (u.syncIn m).Unwatched := w.of rfl fun _ => reg_fset_kind (f := F.PTPSTAT_OFS) _ (by decide)

theorem ptpSync_other (h : u.ptpTakes m ≠ true ∨ u.stroke.ptp.master ≠ some m.source) : u.ptpSync m = u := by
  unfold State.ptpSync
  refine if_neg fun hboth => ?_
  obtain ⟨htakes, hmaster⟩ := hboth
  exact h.elim (fun hno => hno htakes) fun hno => hno hmaster

section
variable (ht : u.ptpTakes m = true) (hm : u.stroke.ptp.master = some m.source)
include ht hm

theorem ptpSync_eq : u.ptpSync m =
    let s := if 100000 < (u.syncOfs m).natAbs then (u.syncIn m).ptpLose else u.syncIn m
    let s := s.servoStep (u.syncOfs m) (s.now - u.stroke.ptp.syncAt)
    if 16 ≤ s.stroke.ptp.good ∧ s.fget F.PTPSTAT_LOCKED 0 0 = 0 then s.ptpLock else s := by
  unfold State.ptpSync
  rw [if_pos ⟨ht, hm⟩]
  rfl

/-- A Sync within 1 µs steers the servo, and locks it where it is the 16th within bounds. -/
theorem ptpSync_near (hnear : (u.syncOfs m).natAbs ≤ 100000) : ∃ d ≤ min (u.syncOfs m).natAbs ((u.now - u.stroke.ptp.syncAt) * 125 / 20000),
    u.ptpSync m = if u.syncGood m = 16 ∧ u.fget F.PTPSTAT_LOCKED 0 0 ≠ 1 then ((u.syncIn m).steered (u.syncOfs m) d).ptpLock else (u.syncIn m).steered (u.syncOfs m) d := by
  obtain ⟨d, hd, hsteered⟩ := servoStep_steered (s := u.syncIn m) (cycles := (u.syncIn m).now - u.stroke.ptp.syncAt) hnear
  have hgood : ((u.syncIn m).steered (u.syncOfs m) d).stroke.ptp.good = u.syncGood m := rfl
  have hlocked : ((u.syncIn m).steered (u.syncOfs m) d).fget F.PTPSTAT_LOCKED 0 0 = u.fget F.PTPSTAT_LOCKED 0 0 := fget_syncIn_locked
  have hcond : 16 ≤ u.syncGood m ∧ u.fget F.PTPSTAT_LOCKED 0 0 = 0 ↔ u.syncGood m = 16 ∧ u.fget F.PTPSTAT_LOCKED 0 0 ≠ 1 := by
    have hbit : u.fget F.PTPSTAT_LOCKED 0 0 < 2 := u.fget_lt ..
    have hmost : u.syncGood m ≤ 16 := by
      unfold State.syncGood
      split <;> omega
    omega
  refine ⟨d, hd, ?_⟩
  rw [ptpSync_eq ht hm, if_neg hnear.not_gt]
  dsimp only
  rw [hsteered, hgood, hlocked]
  simp only [hcond]

/-- A Sync beyond 1 µs unlocks the servo, and its offset is removed in one step. -/
theorem ptpSync_far (hfar : 100000 < (u.syncOfs m).natAbs) (hlost : (u.syncIn m).ptpLose.fget F.PTPSTAT_LOCKED 0 0 = 0) (hgood : (u.syncIn m).ptpLose.stroke.ptp.good = 0) :
    u.ptpSync m = (u.syncIn m).ptpLose.onPtp fun p => { p with off := p.off - u.syncOfs m } := by
  rw [ptpSync_eq ht hm, if_pos hfar]
  dsimp only
  rw [servoStep_jump hfar hlost]
  refine if_neg fun hlock => ?_
  have hmany : 16 ≤ (u.syncIn m).ptpLose.stroke.ptp.good := hlock.1
  omega

end

/-- The state after a lock that is not the first: the phase is left. -/
def State.lockedAgain (s : State) : State := ({ s with stroke := { s.stroke with missed := 0 } } : State).fset F.PTPSTAT_LOCKED 0 0 1

theorem ptpLock_again {s : State} (h : s.stroke.first = false) : s.ptpLock = s.lockedAgain := by
  unfold State.ptpLock
  dsimp only
  exact if_pos (by rw [State.fset_stroke, h]; rfl)

theorem fget_lockedAgain_locked {s : State} : s.lockedAgain.fget F.PTPSTAT_LOCKED 0 0 = 1 := State.fget_fset_self _ _ _ _ _ (by decide)

theorem fget_lockedAgain_ofs {s : State} : s.lockedAgain.fget F.PTPSTAT_OFS 0 0 = s.fget F.PTPSTAT_OFS 0 0 := by
  unfold State.lockedAgain
  simp (disch := decide) only [State.fget_fset_field]
  rfl

theorem Only.lockedAgain {ch : Changes} {s : State} (h : Only ch u s) (m : (.PTPSTAT, 0, 0) ∈ ch.regs) (m' : .stroke ∈ ch.parts) : Only ch u s.lockedAgain :=
  (h.stroke_ _ m').fset (f := F.PTPSTAT_LOCKED) _ m

end

/-! ### Announces (11 R303, log 65) -/

theorem mem_tdel {κ α : Type} [DecidableEq κ] {t : Tab κ α} {k : κ} {p : κ × α} : p ∈ tdel t k ↔ p.1 ≠ k ∧ p ∈ t := by
  induction t with
  | nil => simp [tdel]
  | cons q r ih =>
    unfold tdel
    split
    · next hq =>
      rw [ih, List.mem_cons]
      refine and_congr_right fun hne => (or_iff_right ?_).symm
      rintro rfl
      exact hne hq
    · next hq =>
      rw [List.mem_cons, ih, List.mem_cons]
      constructor
      · rintro (rfl | ⟨hne, hp⟩)
        · exact ⟨hq, .inl rfl⟩
        · exact ⟨hne, .inr hp⟩
      · rintro ⟨hne, rfl | hp⟩
        · exact .inl rfl
        · exact .inr ⟨hne, hp⟩

section
variable {u : State} {m : Sys2Proof.PtpMsg}

/-- An Announce that counts: the one heard now for three of its intervals, another's until it expires. -/
def State.heard (u : State) (m : Sys2Proof.PtpMsg) (s r e : Nat) : Prop :=
  s = m.source ∧ r = m.rank ∧ e = u.now + 3 * m.interval ∨ s ≠ m.source ∧ (s, r, e) ∈ u.stroke.ptp.anns ∧ u.now ≤ e

/-- The Announces that count. -/
def State.annsNow (u : State) (m : Sys2Proof.PtpMsg) : Tab Nat (Nat × Nat) :=
  (tput u.stroke.ptp.anns m.source (m.rank, u.now + 3 * m.interval)).filter fun (e : Nat × Nat × Nat) => decide (u.now ≤ e.2.2)

theorem mem_annsNow {s r e : Nat} : (s, r, e) ∈ u.annsNow m ↔ u.heard m s r e := by
  unfold State.annsNow State.heard tput
  rw [List.mem_filter, List.mem_cons, mem_tdel]
  simp only [Prod.mk.injEq, decide_eq_true_eq]
  constructor
  · rintro ⟨⟨hs, hr, he⟩ | ⟨hs, hmem⟩, hnow⟩
    · exact .inl ⟨hs, hr, he⟩
    · exact .inr ⟨hs, hmem, hnow⟩
  · rintro (⟨hs, hr, he⟩ | ⟨hs, hmem, hnow⟩)
    · exact ⟨.inl ⟨hs, hr, he⟩, by omega⟩
    · exact ⟨.inr ⟨hs, hmem⟩, hnow⟩

/-- The best master of those heard. -/
def State.bestMaster (u : State) (m : Sys2Proof.PtpMsg) : Option Nat := (minBy (fun (e : Nat × Nat × Nat) => e.2.1) (u.annsNow m)).map fun (e : Nat × Nat × Nat) => e.1

theorem bestMaster_least : ∃ b r e, u.bestMaster m = some b ∧ u.heard m b r e ∧ ∀ s q f, u.heard m s q f → r ≤ q := by
  have hself : (m.source, m.rank, u.now + 3 * m.interval) ∈ u.annsNow m := mem_annsNow.2 (.inl ⟨rfl, rfl, rfl⟩)
  cases hbest : minBy (fun (e : Nat × Nat × Nat) => e.2.1) (u.annsNow m) with
  | none =>
    rw [minBy_eq_none.1 hbest] at hself
    cases hself
  | some x =>
    obtain ⟨b, r, e⟩ := x
    obtain ⟨hmem, hfirst⟩ := minBy_first (R := fun _ _ => True) (List.pairwise_iff_forall_sublist.2 fun _ => trivial) hbest
    refine ⟨b, r, e, by simp [State.bestMaster, hbest], mem_annsNow.1 hmem, fun s q f hs => ?_⟩
    have := hfirst _ (mem_annsNow.2 hs)
    dsimp only at this
    omega

/-- The state after an Announce has been taken. -/
def State.announced (u : State) (m : Sys2Proof.PtpMsg) : State :=
  u.onPtp fun p => { p with anns := u.annsNow m, master := u.bestMaster m, syncAt := if p.master = u.bestMaster m then p.syncAt else u.now }

theorem ptpAnnounce_other (h : u.ptpTakes m ≠ true) : u.ptpAnnounce m = u := if_neg h

theorem ptpAnnounce_eq (h : u.ptpTakes m = true) :
    u.ptpAnnounce m = if u.stroke.ptp.master ≠ none ∧ u.stroke.ptp.master ≠ u.bestMaster m then (u.announced m).ptpLose else u.announced m := by
  unfold State.ptpAnnounce
  rw [if_pos h]
  simp only [← Option.isSome_iff_ne_none]
  rfl

/-! ### The end of the Syncs, and the path delay (11 R303) -/

theorem ptpTimeout_past (h : u.strkSrc = 1 ∧ u.fget F.PTPCFG_EN 0 0 = 1 ∧ u.stroke.ptp.syncAt + 4 * u.stroke.ptp.intv ≤ u.now) : u.ptpTimeout = u.ptpLose := if_pos h

theorem ptpTimeout_before (h : ¬(u.strkSrc = 1 ∧ u.fget F.PTPCFG_EN 0 0 = 1 ∧ u.stroke.ptp.syncAt + 4 * u.stroke.ptp.intv ≤ u.now)) : u.ptpTimeout = u := if_neg h

theorem ptpDelay_other (h : u.ptpTakes m ≠ true) : u.ptpDelay m = u := if_pos (by simpa using h)

section
variable (h : u.ptpTakes m = true)
include h

theorem ptpDelay_peer (hmech : u.fget F.PTPCFG_DMECH 0 0 = 1) : u.ptpDelay m = u.onPtp fun p => { p with delay := ((m.receipt : Int) - m.origin - m.correction) / 2 } := by
  unfold State.ptpDelay
  rw [h]
  exact if_pos hmech

theorem ptpDelay_master (hmech : u.fget F.PTPCFG_DMECH 0 0 = 0) (hm : u.stroke.ptp.master = some m.source) :
    u.ptpDelay m = u.onPtp fun p => { p with delay := (p.diff + ((m.origin : Int) - m.correction - m.receipt)) / 2 } := by
  unfold State.ptpDelay
  rw [h, hmech]
  exact if_pos hm

theorem ptpDelay_stranger (hmech : u.fget F.PTPCFG_DMECH 0 0 = 0) (hm : u.stroke.ptp.master ≠ some m.source) : u.ptpDelay m = u := by
  unfold State.ptpDelay
  rw [h, hmech]
  exact if_neg hm

end
end

end Sys2Proof.Machine

/-! Markers and PTP messages as a whole (04 R84; 11 R300, R301, R303). -/
namespace Sys2Proof.Machine

/-! ### The outcomes of a Sync (11 R303) -/

section
variable {u : State} {m : Sys2Proof.PtpMsg}

/-- The servo after a Sync is measured and before it is steered. -/
def State.heardSync (u : State) (m : Sys2Proof.PtpMsg) : Ptp := { u.stroke.ptp with diff := syncDiff m, syncAt := u.now, intv := m.interval }

/-- PTPSTAT shows the offset that the Sync measured. -/
def ShowsOfs (u t : State) (m : Sys2Proof.PtpMsg) : Prop := t.fget F.PTPSTAT_OFS 0 0 = trunc 32 (max (-2147483647) (min 2147483647 (u.syncOfs m)))

/-- The servo has moved toward 0 by no more than 100 ppm of the time since the last Sync. -/
def Steered (u t : State) (m : Sys2Proof.PtpMsg) : Prop :=
  ∃ d ≤ min (u.syncOfs m).natAbs ((u.now - u.stroke.ptp.syncAt) * 125 / 20000),
    t.stroke.ptp = { u.heardSync m with good := u.syncGood m, off := if 0 < u.syncOfs m then u.stroke.ptp.off - d else u.stroke.ptp.off + d }

theorem syncGood_near (h : u.syncGood m = 16) : (u.syncOfs m).natAbs ≤ 100 := by
  by_contra hfar
  rw [State.syncGood, if_neg hfar] at h
  cases h

theorem leaves_syncIn {t : State} (hlocked : t.fget F.PTPSTAT_LOCKED 0 0 = (u.syncIn m).fget F.PTPSTAT_LOCKED 0 0)
    (hlostf : t.fget F.PTPSTAT_LOSTF 0 0 = (u.syncIn m).fget F.PTPSTAT_LOSTF 0 0) : Leaves u t .PTPSTAT 0 0 [F.PTPSTAT_OFS] := by
  intro f hf hne
  have hfields : f = F.PTPSTAT_LOCKED ∨ f = F.PTPSTAT_LOSTF ∨ f = F.PTPSTAT_OFS := by simpa [regSpec] using hf
  rcases hfields with rfl | rfl | rfl
  · exact hlocked.trans fget_syncIn_locked
  · exact hlostf.trans fget_syncIn_lostf
  · simp at hne

section
variable (ht : u.ptpTakes m = true) (hm : u.stroke.ptp.master = some m.source)
include ht hm

theorem ptpSync_steers (hnear : (u.syncOfs m).natAbs ≤ 100000) (hkept : u.fget F.PTPSTAT_LOCKED 0 0 = 1 ∨ u.syncGood m < 16) :
    ShowsOfs u (u.ptpSync m) m ∧ Steered u (u.ptpSync m) m ∧ (u.ptpSync m).stroke = { u.stroke with ptp := (u.ptpSync m).stroke.ptp } ∧
      Leaves u (u.ptpSync m) .PTPSTAT 0 0 [F.PTPSTAT_OFS] ∧ Only { regs := [(.PTPSTAT, 0, 0)], parts := [.stroke, .free] } u (u.ptpSync m) := by
  obtain ⟨d, hd, heq⟩ := ptpSync_near ht hm hnear
  rw [if_neg (by omega)] at heq
  rw [heq]
  exact ⟨fget_syncIn_ofs, ⟨d, hd, rfl⟩, rfl, leaves_syncIn rfl rfl, (only_syncIn (by simp) (by simp)).steered (by simp) (by simp)⟩

theorem ptpSync_locks (hgood : u.syncGood m = 16) (hopen : u.fget F.PTPSTAT_LOCKED 0 0 ≠ 1) (hagain : u.stroke.first = false) :
    ShowsOfs u (u.ptpSync m) m ∧ Steered u (u.ptpSync m) m ∧ (u.ptpSync m).stroke = { u.stroke with missed := 0, ptp := (u.ptpSync m).stroke.ptp } ∧
      (u.ptpSync m).fget F.PTPSTAT_LOCKED 0 0 = 1 ∧ Only { regs := [(.PTPSTAT, 0, 0)], parts := [.stroke, .free] } u (u.ptpSync m) := by
  have hnear := syncGood_near hgood
  obtain ⟨d, hd, heq⟩ := ptpSync_near ht hm (by omega)
  rw [if_pos ⟨hgood, hopen⟩, ptpLock_again (s := (u.syncIn m).steered (u.syncOfs m) d) hagain] at heq
  rw [heq]
  refine ⟨?_, ⟨d, hd, rfl⟩, rfl, fget_lockedAgain_locked, ((only_syncIn (by simp) (by simp)).steered (by simp) (by simp)).lockedAgain (by simp) (by simp)⟩
  rw [ShowsOfs, fget_lockedAgain_ofs, fget_steered, fget_syncIn_ofs]

theorem ptpSync_unlocks (hfar : 100000 < (u.syncOfs m).natAbs) (hlocked : u.fget F.PTPSTAT_LOCKED 0 0 = 1) (w : u.Unwatched) :
    ShowsOfs u (u.ptpSync m) m ∧ PtpLost u (u.ptpSync m) ∧ Only { regs := [(.PTPSTAT, 0, 0), (.DPEND, 0, 0)], parts := [.stroke, .free] } u (u.ptpSync m) := by
  have hlose := ptpLose_locked (fget_syncIn_locked.trans hlocked) (unwatched_syncIn (m := m) w)
  have hlost : PtpLost u (u.syncIn m).lockLost := ptpLost_lockLost (reg_fset_kind (f := F.PTPSTAT_OFS) _ (by decide))
  rw [ptpSync_far ht hm hfar (hlose ▸ fget_lockLost_locked) (hlose ▸ good_lockLost), hlose]
  refine ⟨?_, hlost.onPtp (good_lockLost (s := u.syncIn m)), ((only_syncIn (by simp) (by simp)).lockLost (by simp) (by simp) (by simp)).onPtp _ (by simp)⟩
  rw [ShowsOfs, fget_onPtp, fget_lockLost_ofs, fget_syncIn_ofs]

theorem ptpSync_jumps (hfar : 100000 < (u.syncOfs m).natAbs) (hopen : u.fget F.PTPSTAT_LOCKED 0 0 ≠ 1) :
    ShowsOfs u (u.ptpSync m) m ∧ (u.ptpSync m).stroke = { u.stroke with ptp := { u.heardSync m with good := 0, off := u.stroke.ptp.off - u.syncOfs m } } ∧
      Only { regs := [(.PTPSTAT, 0, 0)], parts := [.stroke] } u (u.ptpSync m) := by
  have hstill : (u.syncIn m).fget F.PTPSTAT_LOCKED 0 0 ≠ 1 := by rwa [fget_syncIn_locked]
  have hlose := ptpLose_unlocked hstill
  rw [ptpSync_far ht hm hfar (hlose ▸ locked_eq_zero hstill) (hlose ▸ rfl), hlose]
  exact ⟨fget_syncIn_ofs, rfl, ((only_syncIn (by simp) (by simp)).onPtp _ (by simp)).onPtp _ (by simp)⟩

end
end

/-! ### The outcomes of an Announce and of a missing Sync (11 R303) -/

section
variable {u t : State} {m : Sys2Proof.PtpMsg}

/-- The Announces that count are kept, and the best master of them is selected. -/
def Chosen (u t : State) (m : Sys2Proof.PtpMsg) : Prop :=
  (∀ s r e, (s, r, e) ∈ t.stroke.ptp.anns ↔ u.heard m s r e) ∧ ∃ b r e, t.stroke.ptp.master = some b ∧ u.heard m b r e ∧ ∀ s q f, u.heard m s q f → r ≤ q

/-- The time of the last Sync starts anew with another master. -/
def SyncKept (u t : State) : Prop := t.stroke.ptp.syncAt = if t.stroke.ptp.master = u.stroke.ptp.master then u.stroke.ptp.syncAt else u.now

theorem chosen_of (hanns : t.stroke.ptp.anns = u.annsNow m) (hmaster : t.stroke.ptp.master = u.bestMaster m) : Chosen u t m := by
  unfold Chosen
  rw [hanns, hmaster]
  exact ⟨fun _ _ _ => mem_annsNow, bestMaster_least⟩

theorem syncKept_of (hsync : t.stroke.ptp.syncAt = (u.announced m).stroke.ptp.syncAt) (hmaster : t.stroke.ptp.master = u.bestMaster m) : SyncKept u t := by
  unfold SyncKept
  rw [hsync, hmaster]
  simp only [State.announced, stroke_onPtp, eq_comm]

theorem only_announced {ch : Changes} (h : .stroke ∈ ch.parts) : Only ch u (u.announced m) := (Only.refl _ u).onPtp _ h

section
variable (ht : u.ptpTakes m = true)
include ht

/-- Without a lock that a change of master could lose, the rest of the stroke clock stays. -/
theorem ptpAnnounce_open (hopen : u.stroke.ptp.master = none ∨ u.fget F.PTPSTAT_LOCKED 0 0 ≠ 1) :
    ∃ good, u.ptpAnnounce m = (u.announced m).onPtp fun p => { p with good := good } := by
  rw [ptpAnnounce_eq ht]
  split
  · next hchange =>
    refine ⟨0, ptpLose_unlocked ?_⟩
    exact hopen.resolve_left hchange.1
  · exact ⟨u.stroke.ptp.good, rfl⟩

theorem ptpAnnounce_locked (hold : u.stroke.ptp.master ≠ none) (hlocked : u.fget F.PTPSTAT_LOCKED 0 0 = 1) (w : u.Unwatched) :
    u.ptpAnnounce m = if u.bestMaster m = u.stroke.ptp.master then u.announced m else (u.announced m).lockLost := by
  have hlose : (u.announced m).ptpLose = (u.announced m).lockLost := ptpLose_locked hlocked (w.of rfl fun _ => rfl)
  rw [ptpAnnounce_eq ht, hlose]
  by_cases hsame : u.bestMaster m = u.stroke.ptp.master
  · rw [if_pos hsame, if_neg fun h => h.2 hsame.symm]
  · rw [if_neg hsame, if_pos ⟨hold, fun h => hsame h.symm⟩]

/-- An Announce that reaches a locked servo. -/
theorem ptpAnnounce_keeps (hold : u.stroke.ptp.master ≠ none) (hlocked : u.fget F.PTPSTAT_LOCKED 0 0 = 1) (w : u.Unwatched) :
    Chosen u (u.ptpAnnounce m) m ∧ SyncKept u (u.ptpAnnounce m) ∧ ((u.ptpAnnounce m).stroke.ptp.master ≠ u.stroke.ptp.master → PtpLost u (u.ptpAnnounce m)) ∧
      ((u.ptpAnnounce m).stroke.ptp.master = u.stroke.ptp.master →
        (u.ptpAnnounce m).fget F.PTPSTAT_LOCKED 0 0 = 1 ∧ (u.ptpAnnounce m).stroke.ptp.good = u.stroke.ptp.good ∧ (u.ptpAnnounce m).stroke.missed = u.stroke.missed) ∧
      Only { regs := [(.PTPSTAT, 0, 0), (.DPEND, 0, 0)], parts := [.stroke] } u (u.ptpAnnounce m) := by
  rw [ptpAnnounce_locked ht hold hlocked w]
  split
  · next hsame =>
    exact ⟨chosen_of rfl rfl, syncKept_of (m := m) rfl rfl, fun hno => absurd hsame hno, fun _ => ⟨hlocked, rfl, rfl⟩, only_announced (by simp)⟩
  · next hother =>
    have hmaster : (u.announced m).lockLost.stroke.ptp.master = u.bestMaster m := rfl
    refine ⟨chosen_of rfl hmaster, syncKept_of (m := m) rfl hmaster, fun _ => ptpLost_lockLost rfl, fun hsame => absurd (hmaster.symm.trans hsame) hother, ?_⟩
    exact (only_announced (by simp)).lockLost (by simp) (by simp) (by simp)

end
end

/-- Settles O45: a marker's block (`blockTaken_of`, `follows_pickLink`), a Sync by its offset (`ptpSync_near`, `ptpSync_far`), an Announce by the lock (`ptpAnnounce_open`, `ptpAnnounce_keeps`), and the losses of lock (`ptpLose_locked`). -/
theorem markersAndPtpSteerTheStroke : Obligations.MarkersAndPtpSteerTheStroke := by
  unfold Obligations.MarkersAndPtpSteerTheStroke
  refine ⟨?marker, ?message, ?timeout⟩
  case marker =>
    intro z dt t10 l b u k goes
    refine ⟨fun hsrc => blockTaken_of (execMarker_eq dt l b t10 z) fun _ => ?_, fun hsrc hdev hfollow hv hn hgap => blockTaken_of (execMarker_eq dt l b t10 z) fun hst => ?_⟩
    · rw [markerTaken_other hsrc]
      exact ⟨⟨link_noted, follows_markerIn _ rfl⟩, rfl, only_markerIn⟩
    · have hup : u.linkSt k = 3 := by
        have := linkSt_lt u k
        omega
      rw [markerTaken_followed hup hsrc hdev hfollow hv hn hgap]
      exact ⟨⟨link_noted, follows_markerIn _ (hfollow.trans (pickLink_noted hup hfollow hv _).symm)⟩, rfl, only_markerStroke _ _⟩
  case message =>
    intro z dt m u k p takes diff ofs good most heard steered shown locked
    have htakes : takes → u.ptpTakes m = true := ptpTakes_iff.2
    have hnot : ¬takes → u.ptpTakes m ≠ true := fun h ht => h (ptpTakes_iff.1 ht)
    refine ⟨fun hother => ?_, fun ht hm => ⟨fun hnear hkept => ?_, fun hgood hopen hagain => ?_, fun hfar hlocked w => ?_, fun hfar hopen => ?_⟩, fun hno => ?_,
      fun ht => ?_, fun hno => ?_, fun ht hmech => ?_, fun ht hmech hm => ?_, fun ht hmech hm => ?_⟩
    · exact ⟨u, congrArg Host.Outcome.next (ptpSync_other (hother.imp_left hnot)), Only.refl _ u⟩
    · exact ⟨_, rfl, ptpSync_steers (htakes ht) hm hnear hkept⟩
    · exact ⟨_, rfl, ptpSync_locks (htakes ht) hm hgood hopen hagain⟩
    · exact ⟨_, rfl, ptpSync_unlocks (htakes ht) hm hfar hlocked w⟩
    · exact ⟨_, rfl, ptpSync_jumps (htakes ht) hm hfar hopen⟩
    · exact ⟨u, congrArg Host.Outcome.next (ptpAnnounce_other (hnot hno)), Only.refl _ u⟩
    · intro lives chosen same
      refine ⟨fun hopen => ?_, fun hold hlocked w => ⟨_, rfl, ptpAnnounce_keeps (htakes ht) hold hlocked w⟩⟩
      obtain ⟨good, heq⟩ := ptpAnnounce_open (htakes ht) hopen
      exact ⟨_, congrArg Host.Outcome.next heq, chosen_of rfl rfl, syncKept_of (m := m) rfl rfl, rfl, (only_announced (by simp)).onPtp _ (by simp)⟩
    · exact ⟨u, congrArg Host.Outcome.next (ptpDelay_other (hnot hno)), Only.refl _ u⟩
    · exact ⟨_, congrArg Host.Outcome.next (ptpDelay_peer (htakes ht) hmech), rfl, (Only.refl _ u).onPtp _ (by simp)⟩
    · exact ⟨_, congrArg Host.Outcome.next (ptpDelay_master (htakes ht) hmech hm), rfl, (Only.refl _ u).onPtp _ (by simp)⟩
    · exact ⟨u, congrArg Host.Outcome.next (ptpDelay_stranger (htakes ht) hmech hm), Only.refl _ u⟩
  case timeout =>
    intro z dt u p past
    refine ⟨fun hpast hlocked w => ⟨_, congrArg Host.Outcome.next ((ptpTimeout_past hpast).trans (ptpLose_locked hlocked w)), ptpLost_lockLost rfl, rfl, (Only.refl _ u).lockLost (by simp) (by simp) (by simp)⟩,
      fun hpast hopen => ⟨_, congrArg Host.Outcome.next ((ptpTimeout_past hpast).trans (ptpLose_unlocked (by omega))), rfl, (Only.refl _ u).onPtp _ (by simp)⟩,
      fun hbefore => ⟨u, congrArg Host.Outcome.next (ptpTimeout_before hbefore), Only.refl _ u⟩⟩

end Sys2Proof.Machine

/-! FORK (05 R123, R124; 06 R156). -/
namespace Sys2Proof.Machine

/-! ### What issue leaves of the other threads of the core -/

section
variable {u s : State} {c n : Nat}

theorem Began.thr_ne (h : Began u s c n) {k : Nat} (l : k < 16) (hne : k ≠ n) : s.thr c k = u.thr c k :=
  h.only.threads c k l (by simp [issueChanges, hne])

/-- Issue keeps the state of every thread. -/
theorem Began.thr_st (h : Began u s c n) {k : Nat} (l : k < 16) : (s.thr c k).st = (u.thr c k).st := by
  by_cases hk : k = n
  · rw [hk, h.thread]
  · rw [h.thr_ne l hk]

end

/-! ### FORK -/

theorem isRow_fork : IsRow (fun dt c n => .fork dt c n) 0x66 xFork := ⟨fun _ _ _ _ => rfl, rfl⟩

section
variable {s : State} {c n k : Nat} {o : Ins} (hlt : (o.a (s.thr c n)).toNat ≤ 16383)
include hlt

theorem xFork_child (hfree : s.freeThread c = some k) :
    xFork s c n o = .done ((s.forkChild c n k (o.a (s.thr c n)).toNat (o.b (s.thr c n))).onThr c n fun y => y.setW (iRD o.w) (wd k)) := by
  unfold xFork
  dsimp only
  rw [if_neg hlt.not_gt, hfree]

theorem xFork_allOnes (hfull : s.freeThread c = none) (hs : o.s = true) : xFork s c n o = .done (s.setThr c n ((s.thr c n).setW (iRD o.w) (BitVec.allOnes 64))) := by
  unfold xFork
  dsimp only
  rw [if_neg hlt.not_gt, hfull, hs]
  rfl

theorem xFork_waits (hfull : s.freeThread c = none) (hs : o.s = false) : xFork s c n o = .wait (s.inc F.FORK_HELD_COUNT c 0) .pool := by
  unfold xFork
  dsimp only
  rw [if_neg hlt.not_gt, hfull, hs]
  rfl

end

section
variable {u s : State} {c n k : Nat} {o : Ins}

/-- The state in which a child is started, and its number answered: from the issue of its parent. -/
theorem Began.forked (h : Began u s c n) (l : n < 16) (lk : k < 16) (hne : k ≠ n) :
    let t := (s.forkChild c n k (o.a (s.thr c n)).toNat (o.b (s.thr c n))).onThr c n fun y => y.setW (iRD o.w) (wd k)
    Did u t c n (({ u.thr c n with jcnt := (u.thr c n).jcnt + 1 } : Thread).setW (iRD o.w) (wd k)) { regs := [(.THND, c, k)], threads := [(c, k)] } ∧
      ∀ x, (t.setThr c n x).thr c k = childOf (u.thr c n) n (o.a (u.thr c n)).toNat (o.b (u.thr c n)) (u.thr c k).lends u.now ∧
        (t.setThr c n x).reg .THND c k = u.reg .THND c n := by
  intro t
  have hapart : c * 16 + n ≠ c * 16 + k := by omega
  have hchild : childOf (s.thr c n) n (o.a (s.thr c n)).toNat (o.b (s.thr c n)) (s.thr c k).lends s.now =
      childOf (u.thr c n) n (o.a (u.thr c n)).toNat (o.b (u.thr c n)) (u.thr c k).lends u.now := by
    rw [h.a, h.b, h.thr_ne lk hne, h.now, h.thread]
    rfl
  have hstart : t = ((((s.setThr c k (childOf (u.thr c n) n (o.a (u.thr c n)).toNat (o.b (u.thr c n)) (u.thr c k).lends u.now)).setReg .THND c k (u.reg .THND c n)).setThr c n
      { s.thr c n with jcnt := (s.thr c n).jcnt + 1 }).onThr c n fun y => y.setW (iRD o.w) (wd k)) := by
    rw [← hchild, ← h.reg (k := .THND) c n (by decide) (by decide) (by decide), ← forkChild_eq hapart]
  refine ⟨?did, fun x => ⟨?child, ?handler⟩⟩
  case did =>
    have honly : Only { regs := [(.THND, c, k)], threads := [(c, k)] } s
        ((s.setThr c k (childOf (u.thr c n) n (o.a (u.thr c n)).toNat (o.b (u.thr c n)) (u.thr c k).lends u.now)).setReg .THND c k (u.reg .THND c n)) :=
      ((Only.refl _ s).setThr _ lk (by simp)).setReg _ (by simp)
    rw [hstart]
    refine ((h.did_only l honly (by simp [hne.symm])).setThr l ?_).setW l _ _
    rw [h.thread]
    rfl
  case child => rw [hstart, State.thr_setThr_ne _ _ hapart.symm, State.onThr, State.thr_setThr_ne _ _ hapart.symm, State.thr_setThr_ne _ _ hapart.symm, State.thr_setReg, State.thr_setThr_self]
  case handler => rw [hstart, State.reg_setThr, State.onThr, State.reg_setThr, State.reg_setThr, State.reg_setReg_self]

/-- Issue leaves FREE contexts free. -/
theorem Began.freeThread_some (h : Began u s c n) (lk : k < 16) (hfree : (u.thr c k).st = .free) (hlow : ∀ j < k, (u.thr c j).st ≠ .free) : s.freeThread c = some k :=
  Sys2Proof.Machine.freeThread_some lk ((h.thr_st lk).trans hfree) fun j hj => by rw [h.thr_st (hj.trans lk)]; exact hlow j hj

theorem Began.freeThread_none (h : Began u s c n) (hfull : ∀ k < 16, (u.thr c k).st ≠ .free) : s.freeThread c = none :=
  Sys2Proof.Machine.freeThread_none fun k lk => by rw [h.thr_st lk]; exact hfull k lk

end

/-- Settles O9: the child of a FORK from `Began.forked`; with no FREE context the answer, or the count and the wait. -/
theorem forkTakesAContextOrWaits : Obligations.ForkTakesAContextOrWaits := by
  unfold Obligations.ForkTakesAContextOrWaits
  intro z dt c n o u x htakes hop hlt
  have htarget : ∀ {s}, Began u s c n → (o.a (s.thr c n)).toNat ≤ 16383 := fun hb => by rwa [hb.a]
  refine ⟨fun k hfree hlow => ?child, fun hfull => ⟨?answer, fun hs => ?wait⟩⟩
  case child =>
    intro y hpc
    have hne : k.val ≠ n.val := fun e => by
      rw [e, htakes.ready] at hfree
      cases hfree
    refine isRow_fork.done htakes hop (y := y) (P := fun t => t.thr c k = childOf x n (o.a x).toNat (o.b x) (u.thr c k).lends u.now ∧ t.reg .THND c k = u.reg .THND c n)
      (fun s hb => ?_) (setW_ready (x := { u.thr c n with jcnt := (u.thr c n).jcnt + 1 }) htakes.ready _ _)
      (setW_quiet (x := { u.thr c n with jcnt := (u.thr c n).jcnt + 1 }) htakes.loads _ _) hpc
    obtain ⟨hdid, hthen⟩ := hb.forked (o := o) n.isLt k.isLt hne
    exact ⟨_, xFork_child (htarget hb) (hb.freeThread_some k.isLt hfree hlow), hdid, hthen⟩
  case answer =>
    intro y hs hpc
    exact .of_exists (isRow_fork.done htakes hop (P := fun _ => True) (fun s hb => ⟨_, xFork_allOnes (htarget hb) (hb.freeThread_none hfull) hs,
      hb.did n.isLt (hb.rd _ _), fun _ => trivial⟩) (setW_ready htakes.ready _ _) (setW_quiet htakes.loads _ _) hpc)
  case wait =>
    refine isRow_fork.waits htakes hop (P := fun t => Counted u t F.FORK_HELD_COUNT c 0 1) (fun s hb => ⟨_, xFork_waits (htarget hb) (hb.freeThread_none hfull) hs,
      hb.did_only n.isLt ((Only.refl _ s).inc (by simp [F.FORK_HELD_COUNT])) (by simp), hb.stamp, hb.now, fun x => ?_⟩) (by simp)
    have hcount := fget_inc s F.FORK_HELD_COUNT c 0 (by decide)
    rwa [hb.fget c 0 (by decide) (by decide) (by decide)] at hcount

end Sys2Proof.Machine

/-! The ends of threads and the commands of TCTL (05 R121, R122, R125; 06 R150; 12 R314). -/
namespace Sys2Proof.Machine

/-! ### The end of a thread (05 R125) -/

/-- Counting a child out leaves no one in wait for a context who was not. -/
theorem waitsPool_countedOut {y : Thread} (h : waitsPool y = false) : waitsPool y.countedOut = false := by
  unfold Thread.countedOut
  dsimp only
  split
  case isTrue hjoin => exact not_waitsPool fun hw => by simp [hjoin.2.1] at hw
  case isFalse => exact h

/-- An orphan waits for what it waited for. -/
theorem waitsPool_orphaned {w : Thread} (n : Nat) (h : waitsPool w = false) : waitsPool (if w.pvalid = true ∧ w.parent = n then { w with pvalid := false } else w) = false := by
  split <;> exact h

theorem waitsPool_afterEnd {y : Thread} (x : Thread) (n k : Nat) (h : waitsPool y = false) : waitsPool (y.afterEnd x n k) = false := by
  have hcounted : waitsPool (if x.pvalid = true ∧ x.parent = k then y.countedOut else y) = false := by
    split
    · exact waitsPool_countedOut h
    · exact h
  unfold Thread.afterEnd
  exact waitsPool_orphaned n hcounted

/-- What the end of a thread changes. -/
def endChanges (c n : Nat) : Changes := { regs := [(.TEVT, c, n)], threads := (List.range 16).map fun k => (c, k), tiles := [c], parts := [.stamp] }

theorem mem_endChanges_threads {c n k : Nat} (lk : k < 16) : (c, k) ∈ (endChanges c n).threads := by simp [endChanges, lk]

/-- What the other threads see of a thread that ends is its parent. -/
theorem afterEnd_congr {x x' : Thread} (y : Thread) (n k : Nat) (hvalid : x.pvalid = x'.pvalid) (hparent : x.parent = x'.parent) : y.afterEnd x n k = y.afterEnd x' n k := by
  unfold Thread.afterEnd
  rw [hvalid, hparent]

section
variable {s : State} {c n : Nat}

/-- A thread's parent and children know of its end. -/
theorem thr_told {k : Nat} (lk : k < 16) :
    ((s.leaveParent c n).orphanKids c n).thr c k = (s.thr c k).afterEnd (s.thr c n) n k := by
  rw [orphanKids_thr _ _ _ lk, leaveParent_thr]
  unfold Thread.afterEnd
  by_cases hk : (s.thr c n).pvalid = true ∧ k = (s.thr c n).parent
  · obtain ⟨hvalid, rfl⟩ := hk
    simp [hvalid]
  · have hk' : ¬((s.thr c n).pvalid = true ∧ (s.thr c n).parent = k) := fun ⟨hvalid, e⟩ => hk ⟨hvalid, e.symm⟩
    rw [if_neg hk, if_neg hk']

theorem afterEnd_lends (y x : Thread) (n k : Nat) : (y.afterEnd x n k).lends = y.lends := by
  have hcounted := (Thread.countedOut_keeps y).2.2.1
  unfold Thread.afterEnd
  dsimp only
  split <;> split <;> simp [hcounted]

/-- The end of a thread that concerns no one else: its parent and children are told, its wake is dropped, its latch and context are cleared. -/
def State.leaves (s : State) (c n : Nat) : State :=
  (((((s.leaveParent c n).orphanKids c n).dropTasks c (isWakeOf n)).setThr c n { Thread.rst with lends := (s.thr c n).lends }).setReg .TEVT c n 0)

theorem State.Apart.endThread (h : s.Apart c n) (l : n < 16) : s.endThread c n = s.leaves c n := by
  obtain ⟨hchans, hpool, hparent⟩ := h
  have hreg : ∀ k a i, ((s.leaveParent c n).orphanKids c n).reg k a i = s.reg k a i := fun k a i => by rw [orphanKids_reg, leaveParent_reg]
  have hrelease : ((s.leaveParent c n).orphanKids c n).releaseChans c n = (s.leaveParent c n).orphanKids c n := releaseChans_none fun t q hresv => by
    unfold State.chanOwner
    rw [fget_of hreg] at hresv
    rw [fget_of hreg, fget_of hreg]
    exact hchans t q hresv
  have hlends : ((((s.leaveParent c n).orphanKids c n).dropTasks c (isWakeOf n)).thr c n).lends = (s.thr c n).lends := by
    rw [dropTasks_thr, thr_told l, afterEnd_lends]
  unfold State.endThread
  dsimp only
  rw [hrelease, hlends]
  refine poolFreed_none (s := s.leaves c n) fun k lk => ?_
  unfold State.leaves
  rw [State.thr_setReg]
  by_cases hk : k = n
  · rw [hk, State.thr_setThr_self]
    rfl
  · rw [State.thr_setThr_ne _ _ (by omega), dropTasks_thr, thr_told lk]
    exact waitsPool_afterEnd _ _ _ (hpool k lk)

theorem leaves_ended (l : n < 16) (hparent : (s.thr c n).parent < 16) : Ended s (s.leaves c n) c n {} where
  thread := by
    unfold State.leaves
    rw [State.thr_setReg, State.thr_setThr_self]
  latch := State.reg_setReg_self ..
  others k lk hk := by
    unfold State.leaves
    rw [State.thr_setReg, State.thr_setThr_ne _ _ (by omega), dropTasks_thr, thr_told lk]
  only := by
    unfold State.leaves
    have hthreads : ∀ k < 16, (c, k) ∈ (({} : Changes).and (endChanges c n)).threads := fun k lk => List.mem_append_right _ (mem_endChanges_threads lk)
    refine ((Only.dropTasks (Only.orphanKids ?_ hthreads) _ (by simp [Changes.and, endChanges])).setThr _ l (hthreads n l)).setReg _ (by simp [Changes.and, endChanges])
    exact (Only.refl _ s).leaveParent hparent (hthreads _ hparent) (by simp [Changes.and, endChanges]) (by simp [Changes.and, endChanges])

/-- A thread has ended after a change `ch` that has left the threads of its core as their ends see them. -/
theorem Ended.after {u t : State} {ch : Changes} (h : Ended s t c n {}) (honly : Only (ch.and (endChanges c n)) u s) (hthr : ∀ k < 16, k ≠ n → s.thr c k = u.thr c k)
    (hself : (s.thr c n).lends = (u.thr c n).lends ∧ (s.thr c n).pvalid = (u.thr c n).pvalid ∧ (s.thr c n).parent = (u.thr c n).parent) : Ended u t c n ch where
  thread := by rw [h.thread, hself.1]
  latch := h.latch
  others k lk hk := by rw [h.others k lk hk, hthr k lk hk, afterEnd_congr _ _ _ hself.2.1 hself.2.2]
  only := honly.trans (h.only.weaken (by simp +contextual [Changes.and, endChanges]) (by simp +contextual [Changes.and, endChanges]) (by simp +contextual [Changes.and, endChanges]) (by simp +contextual [Changes.and, endChanges]) (by simp +contextual [Changes.and, endChanges]) (by simp +contextual [Changes.and, endChanges]) (by simp +contextual [Changes.and, endChanges]))

theorem enterReady_delay (s : State) (c : Nat) (k : TaskK) (cls pri act : Nat) (tm : Option Nat) (d : Nat) : ((s.enterReady c k cls pri act tm).tile d).delay = (s.tile d).delay := by
  by_cases hd : d = c
  · rw [hd, enterReady_tile]
    unfold Tile.withTask
    split <;> rfl
  · exact congrArg Tile.delay ((Only.refl { tiles := [c], parts := [.stamp] } s).enterReady (by simp) (by simp) |>.tiles d (by simpa using hd))

theorem wake_delay (s : State) (c n : Nat) (r : WakeRes) (d : Nat) : ((s.wake c n r).tile d).delay = (s.tile d).delay := by
  unfold State.wake
  dsimp only
  split
  · split
    · rw [enterReady_delay, State.tile_setThr]
    · rfl
  · rfl

theorem leaveParent_delay (s : State) (c n d : Nat) : ((s.leaveParent c n).tile d).delay = (s.tile d).delay := by
  unfold State.leaveParent
  dsimp only
  split
  · split
    · rw [wake_delay, State.tile_setThr]
    · rfl
  · rfl

/-- The end of a thread leaves the delay list to its reset. -/
theorem leaves_delay (s : State) (c n : Nat) : ((s.leaves c n).tile c).delay = (s.tile c).delay := by
  have horphans : ((s.leaveParent c n).orphanKids c n).tile c = (s.leaveParent c n).tile c :=
    ((Only.refl { threads := (List.range 16).map fun k => (c, k) } (s.leaveParent c n)).orphanKids fun k lk => by simp [lk]).tiles c (by simp)
  unfold State.leaves
  rw [State.tile_setReg, State.tile_setThr, State.dropTasks, State.onTile, State.tile_setTile_self, horphans]
  exact leaveParent_delay s c n c

end

/-! ### EXIT and JOIN -/

theorem isRow_exit : IsRow (fun dt c n => .exit dt c n) 0x68 xExit := ⟨fun _ _ _ _ => rfl, rfl⟩

theorem isRow_join : IsRow (fun dt c n => .join dt c n) 0x67 xJoin := ⟨fun _ _ _ _ => rfl, rfl⟩

section
variable {u s : State} {c n : Nat}

theorem Began.apart (h : Began u s c n) (l : n < 16) (g : u.Apart c n) : s.Apart c n where
  chans t q hresv := by
    rw [h.qfget t q (.inl rfl)] at hresv
    rw [h.chanOwner]
    exact g.chans t q hresv
  pool k lk := by
    by_cases hk : k = n
    · rw [hk, h.thread]
      exact g.pool n l
    · rw [h.thr_ne lk hk]
      exact g.pool k lk
  parent := by
    rw [h.thread]
    exact g.parent

/-- The thread that has issued ends. -/
theorem Began.ended (h : Began u s c n) (l : n < 16) (g : u.Apart c n) : Ended u (s.endThread c n) c n (issueChanges u c n) := by
  have hs := h.apart l g
  rw [hs.endThread l]
  refine (leaves_ended l hs.parent).after h.only.left (fun k lk hk => h.thr_ne lk hk) ?_
  rw [h.thread]
  exact ⟨rfl, rfl, rfl⟩

/-- A row whose instruction ends its thread. -/
theorem IsRow.ends {f : Nat → CoreId → ThreadId → Sys2Proof.Instr} {op : Nat} {m : State → Nat → Nat → Ins → XRes} {z : State} {dt : Nat} {c : CoreId} {n : ThreadId} {o : Ins}
    (h : IsRow f op m) (htakes : Takes (z.advance dt) c n o) (hop : o.op = op) (hapart : (z.advance dt).Apart c n)
    (hm : ∀ s, Began (z.advance dt) s c n → m s c n o = .ended (s.endThread c n)) :
    Completes (f dt c n) z fun t => Ended (z.advance dt) t c n (issueChanges (z.advance dt) c n) := by
  obtain ⟨s, occ, hb, he⟩ := h.takes htakes hop
  rw [hm s hb] at he
  exact ⟨_, he, hb.ended n.isLt hapart⟩

end

/-! ### The commands of TCTL (05 R121, R122) -/

section
variable {z t : State} {who : Sys2Proof.Req} {c : CoreId} {n : ThreadId}

/-- The control complex and the debug port pass the checks of a write of TCTL (00 R402). -/
theorem passes_tctl (hwho : isControl who = true ∨ who = .debug) (hdev : z.dev ≠ .reset) (c n : Nat) {v : Word} (hv : reservedSet (regSpec .TCTL).fields v = false) :
    z.Passes who .TCTL c n v where
  dev := hdev
  host := nofun
  right := by simpa [mayWrite, regRights] using hwho
  reserved := hv
  values f hf := by
    have hfields : f = F.TCTL_RESET ∨ f = F.TCTL_RESUME ∨ f = F.TCTL_SKIP := by simpa [regSpec] using hf
    rcases hfields with rfl | rfl | rfl <;> rfl
  rws := .inr fun f hf => by
    have hfields : f = F.TCTL_RESET ∨ f = F.TCTL_RESUME ∨ f = F.TCTL_SKIP := by simpa [regSpec] using hf
    rcases hfields with rfl | rfl | rfl <;> rfl

/-- A command of TCTL acts, and its requester is told. -/
theorem doWrite_tctl (hwho : isControl who = true ∨ who = .debug) (hdev : z.dev ≠ .reset) {v : Word} (hv : reservedSet (regSpec .TCTL).fields v = false)
    (h : z.tctlWrite c n v = .ok t) : z.doWrite who .TCTL c n v = z.told who (regAddr .TCTL c n) (.ok t) := by
  unfold State.doWrite
  rw [Passes.regWrite (passes_tctl hwho hdev c n hv)]
  exact congrArg _ h

theorem told_thr {s : State} (a d k : Nat) : (s.told who a (.ok t)).thr d k = t.thr d k := by cases who <;> rfl

theorem told_tile {s : State} (a d : Nat) : (s.told who a (.ok t)).tile d = t.tile d := by cases who <;> rfl

theorem told_reg {s : State} {k : RegKind} (hk : k ≠ .DAPSTAT) (a d i : Nat) : (s.told who a (.ok t)).reg k d i = t.reg k d i := by
  cases who with
  | debug => exact reg_fset_kind (f := F.DAPSTAT_ERR) _ hk
  | _ => rfl

theorem Only.told_none {u s : State} {a : Nat} : Only (toldChanges who) u (s.told who a (.ok u)) := by
  have h := (Only.refl {} u).told (s := s) (who := who) a
  rwa [Changes.and_none] at h

theorem Ended.told {u s : State} {c n : Nat} {ch : Changes} (h : Ended u t c n ch) (a : Nat) : Ended u (s.told who a (.ok t)) c n ((toldChanges who).and ch) where
  thread := (told_thr ..).trans h.thread
  latch := (told_reg (by decide) ..).trans h.latch
  others k lk hk := (told_thr ..).trans (h.others k lk hk)
  only := by
    have honly := h.only.told (s := s) (who := who) a
    simpa only [Changes.and, List.append_assoc] using honly

/-! ### RESET -/

/-- Without lock cells in use, waiters or lock requests, a reset has nothing to take from the locks. -/
theorem dropWaiter_none (h : ∀ p ∈ z.tiles, p.2.cells = [] ∧ p.2.waiters = [] ∧ p.2.lockq = []) (c n : Nat) : z.dropWaiter c n = z := by
  have hwaiters : (z.tiles.flatMap fun t => (t.2.waiters.filter fun w => w.core = c && w.n = n).map fun w => (t.1, w.cell)) = [] := by
    rw [List.flatMap_eq_nil_iff]
    intro p hp
    rw [(h p hp).2.1]
    rfl
  have hrequests : ∀ l : List (Nat × Tile), (∀ p ∈ l, p.2.lockq = []) →
      l.foldl (fun s t => if t.2.lockq.any (fun r => r.core = c && r.n = n) then s.onTile t.1 fun x => { x with lockq := x.lockq.filter fun r => !(r.core = c && r.n = n) } else s) z = z := by
    intro l hl
    induction l with
    | nil => rfl
    | cons p l ih =>
      rw [List.foldl_cons, hl p List.mem_cons_self]
      exact ih fun q hq => hl q (List.mem_cons_of_mem _ hq)
  unfold State.dropWaiter
  dsimp only
  rw [hwaiters]
  exact hrequests z.tiles fun p hp => (h p hp).2.2

theorem abandonOwner_none (h : ∀ p ∈ z.tiles, p.2.cells = [] ∧ p.2.waiters = [] ∧ p.2.lockq = []) (p : Word → Bool) : z.abandonOwner p = z := by
  have hcells : z.cellsWhere p = [] := by
    unfold State.cellsWhere
    rw [List.flatMap_eq_nil_iff]
    intro q hq
    rw [(h q hq).1]
    split <;> rfl
  unfold State.abandonOwner
  rw [hcells]
  rfl

/-- The state in which a thread's timers, tasks and trap registers are cleared before it ends. -/
def State.cleared (z : State) (c n : Nat) : State :=
  (((((z.onTile c fun t => { t with delay := t.delay.filter fun k => !timerOfThr n k }).dropTasks c (isTaskOf n)).setReg .TEPC c n 0).setReg .TISSUE c n 0).setReg .TARX c n 0)

theorem resetThread_eq (hst : (z.thr c n).st ≠ .free) (h : ∀ p ∈ z.tiles, p.2.cells = [] ∧ p.2.waiters = [] ∧ p.2.lockq = []) :
    z.resetThread c n = (z.cleared c n).endThread c n := by
  unfold State.resetThread State.cleared
  rw [if_neg hst]
  dsimp only
  rw [dropWaiter_none h, abandonOwner_none h]

theorem Only.cleared (c n : Nat) : Only { regs := [(.TEPC, c, n), (.TISSUE, c, n), (.TARX, c, n)], tiles := [c] } z (z.cleared c n) := by
  unfold State.cleared
  exact (((((Only.refl _ z).onTile _ (by simp)).dropTasks _ (by simp)).setReg _ (by simp)).setReg _ (by simp)).setReg _ (by simp)

theorem cleared_apart (h : z.Apart c n) : (z.cleared c n).Apart c n where
  chans t q hresv := by
    have hfield : ∀ f : Fld, f.kind = .QPTR → (z.cleared c n).fget f t q = z.fget f t q := fun f hf =>
      congrArg (wbits · _ _) (by rw [hf]; exact (Only.cleared c n).regs .QPTR t q (by simp))
    rw [hfield _ rfl] at hresv
    unfold State.chanOwner
    rw [hfield _ rfl, hfield _ rfl]
    exact h.chans t q hresv
  pool := h.pool
  parent := h.parent

/-- RESET of a thread that is not FREE ends it, after its trap registers and timers are cleared (05 R125). -/
theorem resetThread_ended (hst : (z.thr c n).st ≠ .free) (hapart : z.Apart c n) (h : ∀ p ∈ z.tiles, p.2.cells = [] ∧ p.2.waiters = [] ∧ p.2.lockq = []) :
    let t := z.resetThread c n
    Ended z t c n { regs := [(.TEPC, c, n), (.TISSUE, c, n), (.TARX, c, n)] } ∧ t.reg .TEPC c n = 0 ∧ t.reg .TISSUE c n = 0 ∧ t.reg .TARX c n = 0 ∧
      (t.tile c).delay = (z.tile c).delay.filter fun k => !timerOfThr n k := by
  have hends := leaves_ended n.isLt (cleared_apart hapart).parent
  have hregs : ∀ k ≠ .TEVT, ((z.cleared c n).leaves c n).reg k c n = (z.cleared c n).reg k c n := fun k hk => hends.only.regs k c n (by simp [Changes.and, hk])
  dsimp only
  rw [resetThread_eq hst h, (cleared_apart hapart).endThread n.isLt]
  refine ⟨hends.after ?only (fun _ _ _ => rfl) ⟨rfl, rfl, rfl⟩, (hregs _ (by decide)).trans ?tepc, (hregs _ (by decide)).trans ?tissue, (hregs _ (by decide)).trans ?tarx, ?delay⟩
  case only =>
    exact (Only.cleared c n).weaken (by simp [Changes.and]) (by simp) (by simp [Changes.and, endChanges]) (by simp) (by simp) (by simp) (by simp)
  case tepc => simp [State.cleared, State.reg_setReg_ne]
  case tissue => simp [State.cleared, State.reg_setReg_ne]
  case tarx => simp [State.cleared]
  case delay =>
    rw [leaves_delay]
    simp [State.cleared, State.dropTasks, State.onTile]

/-! ### RESUME and SKIP -/

theorem resumeThread_faulted (hst : (z.thr c n).st = .faulted) (hpcx : z.fget F.TEPC_PCX c n = 0) :
    z.resumeThread c n = z.setThr c n { z.thr c n with st := .ready, pc := z.fget F.TEPC_EPC c n, readyAt := z.now + 1 } := if_pos ⟨hst, hpcx⟩

theorem resumeThread_other (h : ¬((z.thr c n).st = .faulted ∧ z.fget F.TEPC_PCX c n = 0)) : z.resumeThread c n = z := if_neg h

theorem skipThread_faulted (hst : (z.thr c n).st = .faulted) (hpcx : z.fget F.TEPC_PCX c n = 0) {p : Nat} (hp : z.fget F.TEPC_EPC c n = p)
    (hpc : (({ z.thr c n with st := .ready, readyAt := z.now + 1 } : Thread).stepPc p (p + z.insLen c p)).pc ≤ 16383) :
    z.skipThread c n = z.setThr c n (({ z.thr c n with st := .ready, readyAt := z.now + 1 } : Thread).stepPc p (p + z.insLen c p)) := by
  unfold State.skipThread State.advancePc
  dsimp only
  rw [if_pos ⟨hst, hpcx⟩, hp, State.thr_setThr_self, State.setThr_setThr]
  exact pcCheck_low (by rwa [State.thr_setThr_self])

theorem skipThread_other (h : ¬((z.thr c n).st = .faulted ∧ z.fget F.TEPC_PCX c n = 0)) : z.skipThread c n = z := if_neg h

/-- A thread is set by a command of TCTL. -/
theorem told_setThr (a : Nat) (y : Thread) :
    (z.told who a (.ok (z.setThr c n y))).thr c n = y ∧ Only ((toldChanges who).and { threads := [(c.val, n.val)] }) z (z.told who a (.ok (z.setThr c n y))) :=
  ⟨(told_thr ..).trans (State.thr_setThr_self ..), ((Only.refl _ z).setThr _ n.isLt (by simp)).told a⟩

/-- The rows of TCTL are its commands. -/
theorem tctl_completes {i : Sys2Proof.Req → CoreId → ThreadId → Sys2Proof.Instr} {v : Word} {g : State → State} {P : State → Prop} (hwho : isControl who = true ∨ who = .debug)
    (hdev : z.dev ≠ .reset) (hi : exec (i who c n) z = .next (z.doWrite who .TCTL c n v)) (hv : reservedSet (regSpec .TCTL).fields v = false)
    (hg : z.tctlWrite c n v = .ok (g z)) (hP : P (z.told who (regAddr .TCTL c n) (.ok (g z)))) : Completes (i who c n) z P :=
  ⟨_, hi.trans (congrArg _ (doWrite_tctl hwho hdev hv hg)), hP⟩

end

/-- Settles O10: EXIT, JOIN and RESET from the end of a thread (`State.Apart.endThread`), RESUME and SKIP from their effect on a FAULTED thread. -/
theorem threadsEndAndFaultedOnesContinue : Obligations.ThreadsEndAndFaultedOnesContinue := by
  unfold Obligations.ThreadsEndAndFaultedOnesContinue
  refine ⟨⟨?ends, ?reset⟩, ?continues⟩
  case ends =>
    intro z dt c n o u x htakes
    refine ⟨fun hop hapart => isRow_exit.ends htakes hop hapart fun _ _ => rfl, fun hop hkids hapart => isRow_join.ends htakes hop hapart fun s hb => if_pos ?_, fun hop hkids => ?_⟩
    · rwa [hb.thread]
    · refine .of_exists (isRow_join.waits htakes hop (P := fun _ => True) (fun s hb => ⟨s, if_neg ?_, hb.did_only n.isLt (Only.refl _ s) (by simp), hb.stamp, hb.now, fun _ => trivial⟩) (by simp))
      rwa [hb.thread]
  case reset =>
    intro z who c n hwho hdev
    refine ⟨fun hfree => ?_, fun hst hapart hlocks => ?_⟩
    · exact tctl_completes (g := id) hwho hdev rfl (by decide) (congrArg WRes.ok (if_pos hfree)) Only.told_none
    · obtain ⟨hended, hepc, hissue, htarx, hdelay⟩ := resetThread_ended hst hapart hlocks
      refine tctl_completes (g := fun z => z.resetThread c n) hwho hdev rfl (by decide) rfl ⟨hended.told _, ?_⟩
      rw [told_reg (by decide), told_reg (by decide), told_reg (by decide), told_tile]
      exact ⟨hepc, hissue, htarx, hdelay⟩
  case continues =>
    intro z who c n hwho hdev x p
    refine ⟨fun hst hpcx => ⟨?_, ?_⟩, fun hother => ⟨?_, ?_⟩⟩
    · exact tctl_completes (g := fun z => z.setThr c n _) hwho hdev rfl (by decide) (congrArg WRes.ok (resumeThread_faulted hst hpcx)) (told_setThr _ _)
    · intro y hpc
      exact tctl_completes (g := fun z => z.setThr c n y) hwho hdev rfl (by decide) (congrArg WRes.ok (skipThread_faulted hst hpcx rfl hpc)) (told_setThr _ _)
    · exact tctl_completes (g := id) hwho hdev rfl (by decide) (congrArg WRes.ok (resumeThread_other hother)) Only.told_none
    · exact tctl_completes (g := id) hwho hdev rfl (by decide) (congrArg WRes.ok (skipThread_other hother)) Only.told_none

end Sys2Proof.Machine

/-! Traps (05 R128 to R130): a trap that finds no load open is the one `Trapped` describes. -/
namespace Sys2Proof.Machine

/-! ### The registers in which an instruction is accounted for and its trap recorded -/

/-- The registers of the Cox counters, of the counts of issues and dispatches, and of the trap record. -/
def accountKinds : List RegKind := [.ACTREM0, .ACTREM1, .TISSUE, .DISPATCHED, .TEPC, .TARX]

/-- All other registers hold the same in two states. -/
def SameRegs (u s : State) : Prop := ∀ k, k ∉ accountKinds → ∀ a i, s.reg k a i = u.reg k a i

section
variable {u s t : State} {c n : Nat}

theorem SameRegs.fget (h : SameRegs u s) {f : Fld} (hf : f.kind ∉ accountKinds) (a i : Nat) : s.fget f a i = u.fget f a i := congrArg (wbits · _ _) (h _ hf a i)

theorem SameRegs.setReg (h : SameRegs u s) {k : RegKind} (hk : k ∈ accountKinds) (a i : Nat) (v : Word) : SameRegs u (s.setReg k a i v) := fun k' hk' a' i' => by
  have hne : k' ≠ k := fun e => hk' (e ▸ hk)
  rw [State.reg_setReg_ne _ _ fun e => hne (Prod.mk.inj e).1]
  exact h k' hk' a' i'

theorem Began.sameRegs (h : Began u s c n) : SameRegs u s := fun k hk a i => by
  simp only [accountKinds, List.mem_cons, List.not_mem_nil, or_false, not_or] at hk
  exact h.reg a i hk.1 hk.2.1 hk.2.2.1

/-- A fault token is made from the context and the class of its thread. -/
theorem SameRegs.threadFault (h : SameRegs u s) (hctx : (s.thr c n).ctx = (u.thr c n).ctx) (hcls : (s.thr c n).cls = (u.thr c n).cls) (code pc : Nat) (stop : Bool) :
    s.threadFault c n code pc stop = u.threadFault c n code pc stop := by
  unfold State.threadFault State.faultVal State.count State.devnum
  dsimp only
  rw [hctx, hcls, h.fget (f := F.SLATE_COUNT) (by decide), h.fget (f := F.FABCFG_DEVNUM) (by decide)]

theorem Still.setReg (h : s.Still) (k : RegKind) (a i : Nat) (v : Word) : (s.setReg k a i v).Still := ⟨h.banks, h.dram, h.form⟩

theorem QuietQ.setReg {d q : Nat} (h : s.QuietQ d q) {k : RegKind} (hk : k ≠ .QCFG) (a i : Nat) (v : Word) : (s.setReg k a i v).QuietQ d q :=
  ⟨h.threads, by rw [fget_setReg_kind _ hk.symm]; exact h.marks⟩

theorem Still.setThr (h : s.Still) (x : Thread) : (s.setThr c n x).Still := ⟨h.banks, h.dram, h.form⟩

/-- A thread that does not wait in QPOP leaves a queue quiet. -/
theorem QuietQ.setThr {d q : Nat} (h : s.QuietQ d q) (l : n < 16) {x : Thread} (hx : waitsQ q x = false) : (s.setThr c n x).QuietQ d q where
  threads j hj := by
    by_cases e : d = c ∧ j = n
    · obtain ⟨rfl, rfl⟩ := e
      rwa [State.thr_setThr_self]
    · rw [State.thr_setThr_ne _ _ (by omega)]
      exact h.threads j hj
  marks := h.marks

end

/-! ### What a trap does -/

/-- TEPC as a trap loads it (05 R130). -/
def tepcOf (code pc : Nat) (pcx : Bool) : Word := wd (pc % 16384 + code % 256 * 2 ^ 14 + b2n pcx * 2 ^ 22)

/-- The report of a trap finds room in the fault queue of its tile, or none, and no one waits for it. -/
def State.Reports (s : State) (c : Nat) : Prop := c < 64 → s.Still ∧ s.QuietQ c 255

section
variable {u s : State} {c n code pc : Nat} {pcx stop : Bool} {x : Thread} {ch : Changes}

theorem Reports.setReg (h : s.Reports c) {k : RegKind} (hk : k ≠ .QCFG) (a i : Nat) (v : Word) : (s.setReg k a i v).Reports c :=
  fun hc => ⟨Still.setReg (h hc).1 k a i v, QuietQ.setReg (h hc).2 hk a i v⟩

theorem Reports.setThr (h : s.Reports c) (l : n < 16) (hx : waitsQ 255 x = false) : (s.setThr c n x).Reports c :=
  fun hc => ⟨Still.setThr (h hc).1 x, QuietQ.setThr (h hc).2 l hx⟩

theorem Began.reports (h : Began u s c n) (g : u.Reports c) : s.Reports c := fun hc => ⟨h.still (g hc).1, h.quietQ (g hc).2⟩

theorem Only.pushThreadFault (h : s.Reports c) : Only (trapChanges c n) s (s.pushThreadFault c n code pc stop) := by
  unfold State.pushThreadFault
  split
  case isTrue hc => exact (Only.refl _ s).pushFault (h hc).1 (h hc).2 (by simp +contextual [trapChanges, hc]) (by simp [trapChanges, hc, reportChanges]) (by simp [trapChanges, hc, reportChanges])
  case isFalse => exact Only.refl _ s

/-- The report of a trap writes three registers. -/
theorem pushThreadFault_reg (h : s.Reports c) {k : RegKind} (hk : k ∉ [RegKind.QPTR, .FQLOST, .SCHSTAT]) (a i : Nat) : (s.pushThreadFault c n code pc stop).reg k a i = s.reg k a i := by
  unfold State.pushThreadFault
  split
  case isTrue hc =>
    refine (Only.pushFault (Only.refl (reportChanges c) s) (h hc).1 (h hc).2 (fun _ hx => hx) (by simp [reportChanges]) (by simp [reportChanges])).regs k a i fun hmem => ?_
    simp only [reportChanges, List.mem_cons, Prod.mk.injEq, List.not_mem_nil, or_false] at hmem hk
    tauto
  case isFalse => rfl

theorem trapped_bare (s : State) (c n pc : Nat) (x : Thread) : (s.trapped c n pc x).bare = (s.trapped c n pc x.bare).bare := by
  unfold State.trapped
  have hinh : x.bare.inh = x.inh := rfl
  dsimp only
  rw [hinh]
  split <;> rfl

theorem SameRegs.trapped (h : SameRegs u s) (c n pc : Nat) (x : Thread) : s.trapped c n pc x = u.trapped c n pc x := by
  unfold State.trapped
  rw [h.fget (f := F.THND_HEN) (by decide), h.fget (f := F.THND_HPC) (by decide)]

/-- A trap of a thread with no load open: TEPC, the fault token, and the thread in its handler or FAULTED. -/
theorem trap_eq (hreports : s.Reports c) (hloads : (s.thr c n).loads = []) (hpc : pc ≤ 16383) :
    s.trap c n code pc pcx =
      ((s.setReg .TEPC c n (tepcOf code pc pcx)).pushThreadFault c n code pc (decide ((s.trapped c n pc (s.thr c n)).st = .faulted))).setThr c n (s.trapped c n pc (s.thr c n)) := by
  have hland : (s.thr c n).landAll = { s.thr c n with loads := [] } := by
    unfold Thread.landAll
    rw [hloads]
    rfl
  have hhandler : ∀ stop, ((s.setReg .TEPC c n (tepcOf code pc pcx)).pushThreadFault c n code pc stop).fget F.THND_HPC c n = s.fget F.THND_HPC c n := fun stop => by
    have hreg := pushThreadFault_reg (n := n) (code := code) (pc := pc) (stop := stop) (Reports.setReg hreports (k := .TEPC) (by decide) c n (tepcOf code pc pcx)) (k := .THND) (by decide) c n
    exact congrArg (wbits · _ _) (hreg.trans (State.reg_setReg_ne _ _ (by simp)))
  unfold State.trap State.trapped
  dsimp only
  rw [hland, show wd (pc % 16384 + code % 256 * 2 ^ 14 + b2n pcx * 2 ^ 22) = tepcOf code pc pcx from rfl]
  split
  case isTrue henters =>
    rw [hhandler]
    rw [decide_eq_true henters]
    rfl
  case isFalse hstops =>
    rw [Nat.mod_eq_of_lt (show pc < 16384 by omega)]
    rw [decide_eq_false hstops]
    rfl

theorem Only.trap (l : n < 16) (hreports : s.Reports c) (hloads : (s.thr c n).loads = []) (hpc : pc ≤ 16383) : Only (trapChanges c n) s (s.trap c n code pc pcx) := by
  rw [trap_eq hreports hloads hpc]
  exact (((Only.refl _ s).setReg _ (by simp [trapChanges])).trans (Only.pushThreadFault (Reports.setReg hreports (k := .TEPC) (by decide) c n (tepcOf code pc pcx)))).setThr _ l (by simp [trapChanges])

/-- The state in which thread n of core c takes a trap, once its instruction has been accounted for, finds the thread as `x` and all that the report reads as it was. -/
structure AtFault (u s : State) (c n : Nat) (x : Thread) : Prop where
  thread : (s.thr c n).bare = x.bare
  loads : x.loads = []
  ctx : x.ctx = (u.thr c n).ctx
  cls : x.cls = (u.thr c n).cls
  regs : SameRegs u s
  mem : s.mem = u.mem
  reports : s.Reports c

theorem AtFault.noLoads (h : AtFault u s c n x) : (s.thr c n).loads = [] := by
  have hloads := congrArg Thread.loads h.thread
  exact hloads.trans h.loads

/-- A trap taken there is the one that R128 to R130 describe. -/
theorem AtFault.trapped (h : AtFault u s c n x) (honly : Only (ch.and (trapChanges c n)) u s) (l : n < 16) (hpc : pc ≤ 16383) (hcode : code < 256) :
    Trapped u (s.trap c n code pc false) c n code pc ch x := by
  have htepc : tepcOf code pc false = wd (pc + code * 2 ^ 14) := by
    unfold tepcOf
    rw [Nat.mod_eq_of_lt (show pc < 16384 by omega), Nat.mod_eq_of_lt hcode, b2n, if_neg nofun, Nat.zero_mul, Nat.add_zero]
  have hword : (wd (pc + code * 2 ^ 14)).toNat = pc + code * 2 ^ 14 := Nat.mod_eq_of_lt (by omega)
  have hthread : (s.trapped c n pc (s.thr c n)).bare = (u.trapped c n pc x).bare := by
    rw [h.regs.trapped, trapped_bare, h.thread, ← trapped_bare]
  have hst : (s.trapped c n pc (s.thr c n)).st = (u.trapped c n pc x).st := by
    have hst := congrArg Thread.st hthread
    exact hst
  have heq := trap_eq (code := code) (pcx := false) h.reports h.noLoads hpc
  have hreports := Reports.setReg h.reports (k := .TEPC) (by decide) c n (tepcOf code pc false)
  have hreg : (s.trap c n code pc false).reg .TEPC c n = wd (pc + code * 2 ^ 14) := by
    rw [heq, State.reg_setThr]
    exact (pushThreadFault_reg hreports (by decide) c n).trans ((State.reg_setReg_self s .TEPC c n _).trans htepc)
  refine ⟨?thread, ?epc, ?ecode, ?pcx, fun hc => ?report, honly.trans ((Only.trap l h.reports h.noLoads hpc).right)⟩
  case thread => rw [heq, State.thr_setThr_self, hthread]
  case epc =>
    refine (congrArg (wbits · 0 14) hreg).trans ?_
    unfold wbits bits
    rw [hword]
    omega
  case ecode =>
    refine (congrArg (wbits · 14 8) hreg).trans ?_
    unfold wbits bits
    rw [hword]
    omega
  case pcx =>
    refine (congrArg (wbits · 22 1) hreg).trans ?_
    unfold wbits bits
    rw [hword]
    omega
  case report =>
    have hregs := h.regs.setReg (k := .TEPC) (by decide) c n (tepcOf code pc false)
    have hctx : (s.thr c n).ctx = (u.thr c n).ctx := by
      have hctx := congrArg Thread.ctx h.thread
      exact hctx.trans h.ctx
    have hcls : (s.thr c n).cls = (u.thr c n).cls := by
      have hcls := congrArg Thread.cls h.thread
      exact hcls.trans h.cls
    rw [heq, hst, ← hregs.threadFault hctx hcls code pc]
    have hreported := (pushFault_reported (k := (s.setReg .TEPC c n (tepcOf code pc false)).threadFault c n code pc (decide ((u.trapped c n pc x).st = .faulted))) (hreports hc).1 (hreports hc).2).of_regs
      (u := u) h.mem (fun g hg a i => hregs g (by revert hg; revert g; decide) a i)
    unfold State.pushThreadFault
    rw [if_pos hc]
    exact hreported

end

end Sys2Proof.Machine

/-! The exceptions of the floating-point operations (07 R179 to R181): five flags at most. -/
namespace Sys2Proof.Machine

/-- A result that raises no exception. -/
theorem exact_fl (d : Nat) : (⟨d, 0⟩ : FRes).fl < 32 := Nat.zero_lt_succ _

/-- A result that raises IV, or none. -/
theorem signalled_fl (d : Nat) (p : Prop) [Decidable p] : (⟨d, if p then 1 else 0⟩ : FRes).fl < 32 := by
  dsimp only
  split <;> decide

theorem ite_fl {p : Prop} [Decidable p] {x y : FRes} (hx : x.fl < 32) (hy : y.fl < 32) : (if p then x else y).fl < 32 := by
  split
  · exact hx
  · exact hy

section
variable (f g : Fmt) (rm : Nat)

theorem Fmt.round_fl (s : Bool) (m : Nat) (e : Int) : (f.round rm s m e).2 < 32 := by
  have hinexact : ∀ ix tiny : Bool, (if ix then (if tiny then 24 else 16) else 0) < 32 := by decide
  unfold Fmt.round
  dsimp only
  generalize (if _ = 2 ^ f.prec then (2 ^ (f.prec - 1), _) else _ : Nat × Int) = rounded
  split
  · exact hinexact ..
  · split
    · exact (by decide : 20 < 32)
    · exact hinexact ..

theorem Fmt.result_fl (s : Bool) (m : Nat) (e : Int) : (f.result rm s m e).fl < 32 := ite_fl (exact_fl _) (f.round_fl rm s m e)

theorem Fmt.invalid_fl : f.invalid.fl < 32 := (by decide : 1 < 32)

theorem Fmt.nanRes_fl {l : List Nat} {r : FRes} (h : f.nanRes l = some r) : r.fl < 32 := by
  unfold Fmt.nanRes at h
  dsimp only at h
  split at h
  · cases h
    exact signalled_fl ..
  · cases h

theorem Fmt.addFin_fl (s t : Bool) (m n : Nat) (d e : Int) : (f.addFin rm s m d t n e).fl < 32 := ite_fl (f.result_fl ..) (f.result_fl ..)

theorem Fmt.add_fl (neg : Bool) (a b : Nat) : (f.add rm neg a b).fl < 32 := by
  unfold Fmt.add
  split
  next h => exact f.nanRes_fl h
  next =>
    split
    · exact ite_fl (exact_fl _) f.invalid_fl
    · exact exact_fl _
    · exact exact_fl _
    · exact f.addFin_fl ..
    · exact f.invalid_fl

theorem Fmt.mul_fl (a b : Nat) : (f.mul rm a b).fl < 32 := by
  unfold Fmt.mul
  split
  next h => exact f.nanRes_fl h
  next =>
    split
    · exact exact_fl _
    · exact ite_fl f.invalid_fl (exact_fl _)
    · exact ite_fl f.invalid_fl (exact_fl _)
    · exact f.result_fl ..
    · exact f.invalid_fl

/-- A quotient is a result, at whatever scale it is formed. -/
theorem Fmt.quotient_fl (scale : Nat) (s : Bool) (m n : Nat) (e : Int) :
    (let q := m * scale / n
     let r := m * scale % n
     f.result rm s (q * 4 + b2n (r ≠ 0)) e).fl < 32 := f.result_fl ..

theorem Fmt.div_fl (a b : Nat) : (f.div rm a b).fl < 32 := by
  unfold Fmt.div
  split
  next h => exact f.nanRes_fl h
  next =>
    split
    · exact f.invalid_fl
    · exact exact_fl _
    · exact exact_fl _
    · exact ite_fl (ite_fl f.invalid_fl (by decide : 2 < 32)) (f.quotient_fl ..)
    · exact f.invalid_fl

theorem Fmt.sqrt_fl (a : Nat) : (f.sqrt rm a).fl < 32 := by
  unfold Fmt.sqrt
  split
  next h => exact f.nanRes_fl h
  next =>
    split
    · exact ite_fl f.invalid_fl (exact_fl _)
    · exact ite_fl (exact_fl _) (ite_fl f.invalid_fl (f.result_fl ..))
    · exact f.invalid_fl

theorem Fmt.fma_fl (a b c : Nat) : (f.fma rm a b c).fl < 32 := by
  unfold Fmt.fma
  dsimp only
  cases h : f.nanRes [a, b, c] with
  | some r => exact ite_fl (by decide : 1 < 32) (f.nanRes_fl h)
  | none =>
    refine ite_fl f.invalid_fl ?_
    split
    · exact f.addFin_fl ..
    · exact exact_fl _
    · exact ite_fl (exact_fl _) f.invalid_fl
    · exact exact_fl _

theorem Fmt.minmax_fl (mx : Bool) (a b : Nat) : (f.minmax mx a b).fl < 32 :=
  ite_fl (signalled_fl ..) (ite_fl (signalled_fl ..) (ite_fl (signalled_fl ..) (ite_fl (signalled_fl ..) (signalled_fl ..))))

theorem Fmt.cmp_fl (a b : Nat) : (f.cmp a b).fl < 32 :=
  ite_fl (signalled_fl ..) (ite_fl (signalled_fl ..) (ite_fl (signalled_fl ..) (ite_fl (signalled_fl ..) (signalled_fl ..))))

theorem Fmt.cvt_fl (a : Nat) : (f.cvt g rm a).fl < 32 := by
  unfold Fmt.cvt
  split
  · exact signalled_fl ..
  · exact exact_fl _
  · exact g.result_fl ..

theorem Fmt.toInt_fl (signed : Bool) (a : Nat) : (f.toInt rm signed a).fl < 32 := by
  have hinvalid : ∀ d, (⟨d, 1⟩ : FRes).fl < 32 := fun _ => (by decide : 1 < 32)
  have hinexact : ∀ (d : Nat) (ix : Bool), (⟨d, if ix then 16 else 0⟩ : FRes).fl < 32 := fun _ ix => by
    cases ix
    · exact (by decide : 0 < 32)
    · exact (by decide : 16 < 32)
  unfold Fmt.toInt
  dsimp only
  split
  · exact hinvalid _
  · exact hinvalid _
  · exact ite_fl (ite_fl (ite_fl (hinvalid _) (hinexact ..)) (ite_fl (hinexact ..) (hinvalid _))) (ite_fl (hinvalid _) (hinexact ..))

theorem Fmt.ofInt_fl (signed : Bool) (a : Word) : (f.ofInt rm signed a).fl < 32 := f.result_fl ..

end

/-- A floating-point operation raises the five exceptions of R181, and no other. -/
theorem fpOp_fl (op : Nat) (p : Bool) (rm : Nat) (a b c : Word) : (fpOp op p rm a b c).fl < 32 := by
  unfold fpOp
  dsimp only
  split
  · exact Fmt.add_fl ..
  · exact Fmt.add_fl ..
  · exact Fmt.mul_fl ..
  · exact Fmt.div_fl ..
  · exact Fmt.sqrt_fl ..
  · exact Fmt.fma_fl ..
  · exact Fmt.minmax_fl ..
  · exact Fmt.minmax_fl ..
  · exact exact_fl _
  · exact exact_fl _
  · exact Fmt.cmp_fl ..
  · exact Fmt.cvt_fl ..
  · exact Fmt.toInt_fl ..
  · exact Fmt.toInt_fl ..
  · exact Fmt.ofInt_fl ..
  · exact Fmt.ofInt_fl ..
  · exact exact_fl _
  · exact exact_fl _
  · exact exact_fl _

end Sys2Proof.Machine

/-! Faults of instructions (05 R128 to R130; 06 R134, R137, R157; 07 R173, R177, R181, R182). -/
namespace Sys2Proof.Machine

section
variable {u s : State} {c n code : Nat} {x : Thread} {ch : Changes} {o : Ins}

/-! ### From the issue of an instruction to its trap -/

theorem Began.atFault (h : Began u s c n) (hloads : (u.thr c n).loads = []) (g : u.Reports c) : AtFault u s c n (u.thr c n) where
  thread := h.bare
  loads := hloads
  ctx := rfl
  cls := rfl
  regs := h.sameRegs
  mem := h.mem
  reports := h.reports g

theorem AtFault.setReg (h : AtFault u s c n x) {k : RegKind} (hk : k ∈ accountKinds) (a i : Nat) (v : Word) : AtFault u (s.setReg k a i v) c n x :=
  { h with regs := h.regs.setReg hk a i v, reports := Reports.setReg h.reports (by rintro rfl; revert hk; decide) a i v }

/-- The thread is changed before it traps. -/
theorem AtFault.setThr {y x' : Thread} (h : AtFault u s c n x) (l : n < 16) (hbare : y.bare = x'.bare) (hloads : x'.loads = []) (hctx : x'.ctx = x.ctx) (hcls : x'.cls = x.cls)
    (hwait : waitsQ 255 y = false) : AtFault u (s.setThr c n y) c n x' where
  thread := by rw [State.thr_setThr_self, hbare]
  loads := hloads
  ctx := hctx.trans h.ctx
  cls := hcls.trans h.cls
  regs := h.regs
  mem := h.mem
  reports := Reports.setThr h.reports l hwait

/-- A thread that may issue is within graph memory. -/
theorem pc_le_of_mayIssue (h : u.mayIssue c n = true) : (u.thr c n).pc ≤ 16383 := by
  unfold State.mayIssue at h
  simp only [Bool.and_eq_true, decide_eq_true_eq] at h
  obtain ⟨⟨⟨⟨⟨-, hpc⟩, -⟩, -⟩, -⟩, -⟩ := h
  exact hpc

theorem Takes.pc_le (h : Takes u c n o) : o.pc ≤ 16383 := by
  rw [(decodeAt_word h.ins).2]
  exact pc_le_of_mayIssue h.mayIssue

/-- A row whose instruction traps. -/
theorem IsRow.traps {f : Nat → CoreId → ThreadId → Instr} {op : Nat} {m : State → Nat → Nat → Ins → XRes} (h : IsRow f op m) {z : State} {dt : Nat}
    {c : CoreId} {n : ThreadId} (htakes : Takes (z.advance dt) c n o) (hop : o.op = op) {P : State → Prop} (hcode : code < 256)
    (hm : ∀ s, Began (z.advance dt) s c n → ∃ s', m s c n o = .trap s' code ∧ AtFault (z.advance dt) s' c n x ∧ Only (ch.and (trapChanges c n)) (z.advance dt) s' ∧
      P (s'.trap c n code o.pc false)) :
    Completes (f dt c n) z fun t => Trapped (z.advance dt) t c n code o.pc ch x ∧ P t := by
  obtain ⟨s, occ, hb, he⟩ := h.takes htakes hop
  obtain ⟨s', hmeans, hfault, honly, hP⟩ := hm s hb
  rw [hmeans] at he
  exact ⟨_, he, hfault.trapped honly n.isLt htakes.pc_le hcode, hP⟩

/-! ### The arithmetic trap record (07 R182) -/

/-- TARX from its fields. -/
def tarxOf (xf rmu p op rd int : Nat) : Word := wd (xf + rmu * 2 ^ 5 + p * 2 ^ 8 + op * 2 ^ 9 + rd * 2 ^ 17 + int * 2 ^ 22)

theorem wbits_lt (w : Word) (lo len : Nat) : wbits w lo len < 2 ^ len := Nat.mod_lt _ (Nat.two_pow_pos _)

theorem recorded_tarx {t : State} {xf rmu p int : Nat} (hxf : xf < 32) (hrmu : rmu < 8) (hp : p < 2) (hint : int < 2)
    (h : t.reg .TARX c n = tarxOf xf rmu p o.op (iRD o.w) int) : Recorded t c n o xf rmu p int := by
  have hop : o.op < 256 := wbits_lt o.w 56 8
  have hrd : iRD o.w < 32 := wbits_lt o.w 49 5
  have hword : (tarxOf xf rmu p o.op (iRD o.w) int).toNat = xf + rmu * 32 + p * 256 + o.op * 512 + iRD o.w * 131072 + int * 4194304 := by
    rw [tarxOf, wd, BitVec.toNat_ofNat]
    omega
  have hfield : ∀ lo len, wbits (t.reg .TARX c n) lo len = (xf + rmu * 32 + p * 256 + o.op * 512 + iRD o.w * 131072 + int * 4194304) / 2 ^ lo % 2 ^ len := fun lo len => by
    rw [h, wbits, hword, bits]
  refine ⟨(hfield 0 5).trans ?_, (hfield 5 3).trans ?_, (hfield 8 1).trans ?_, (hfield 9 8).trans ?_, (hfield 17 5).trans ?_, (hfield 22 1).trans ?_⟩ <;> omega

theorem trap_tarx {pc : Nat} (hreports : s.Reports c) (hloads : (s.thr c n).loads = []) (l : n < 16) (hpc : pc ≤ 16383) :
    (s.trap c n code pc false).reg .TARX c n = s.reg .TARX c n :=
  (Only.trap l hreports hloads hpc).regs .TARX c n (by unfold trapChanges; split <;> simp [reportChanges])

/-- An instruction that records its trap, traps. -/
theorem AtFault.records {xf rmu p int : Nat} (h : AtFault u s c n x) (honly : Only (issueChanges u c n) u s) (l : n < 16) (hpc : o.pc ≤ 16383)
    (hxf : xf < 32) (hrmu : rmu < 8) (hp : p < 2) (hint : int < 2) :
    let s' := s.setReg .TARX c n (tarxOf xf rmu p o.op (iRD o.w) int)
    AtFault u s' c n x ∧ Only (((issueChanges u c n).and { regs := [(.TARX, c, n)] }).and (trapChanges c n)) u s' ∧ Recorded (s'.trap c n code o.pc false) c n o xf rmu p int := by
  have hfault := h.setReg (k := .TARX) (by decide) c n (tarxOf xf rmu p o.op (iRD o.w) int)
  exact ⟨hfault, (honly.left.left).setReg _ (by simp [Changes.and]),
    recorded_tarx hxf hrmu hp hint ((trap_tarx hfault.reports hfault.noLoads l hpc).trans (State.reg_setReg_self ..))⟩

theorem tarxInt_eq (s : State) (c n : Nat) (o : Ins) : s.tarxInt c n o = s.setReg .TARX c n (tarxOf 0 0 0 o.op (iRD o.w) 1) := by
  unfold State.tarxInt tarxOf
  rw [show o.op * 2 ^ 9 + iRD o.w * 2 ^ 17 + 2 ^ 22 = 0 + 0 * 2 ^ 5 + 0 * 2 ^ 8 + o.op * 2 ^ 9 + iRD o.w * 2 ^ 17 + 1 * 2 ^ 22 by omega]

theorem tarxFp_eq (s : State) (c n : Nat) (o : Ins) (raised rm : Nat) :
    s.tarxFp c n o raised rm = s.setReg .TARX c n (tarxOf raised rm (b2n (bit (iAM o.w) 0)) o.op (iRD o.w) 0) := by
  unfold State.tarxFp tarxOf
  rw [Nat.zero_mul, Nat.add_zero]

/-! ### Integer instructions -/

theorem isRow_intRows : ∀ r ∈ intRows, IsRow r.1 r.2 xInt := by
  simp only [intRows, List.forall_mem_cons, List.not_mem_nil, false_imp_iff, implies_true, and_true]
  and_intros <;> exact ⟨fun _ _ _ _ => rfl, rfl⟩

theorem trapOnV_fault (r : IRes) {k : Nat} (h : (trapOnV r).fault = some k) : k = 0x0A := by
  unfold trapOnV at h
  dsimp only at h
  split at h
  · exact (Option.some.inj h).symm
  · cases h

/-- The integer operations that the specification gives a result fault only for their overflow (07 R173). -/
theorem intSpec_fault {op k : Nat} {a b : Word} {cin : Bool} {r : IRes} (h : intSpec op a b cin = some r) (hf : r.fault = some k) : k = 0x0A := by
  unfold intSpec at h
  split at h
  case h_5 | h_6 | h_8 =>
    cases h
    exact trapOnV_fault _ hf
  case h_37 | h_38 =>
    obtain ⟨p, _, rfl⟩ := Option.map_eq_some_iff.1 h
    cases hf
  case h_40 | h_41 =>
    split at h
    · cases h
    · cases h
      cases hf
  case h_42 => cases h
  all_goals
    cases h
    cases hf

theorem extWidth_reserved {b : Word} (h : b.toNat % 4 = 3) : extWidth (wbits b 0 2) = none := by
  have hcode : wbits b 0 2 = 3 := by
    unfold wbits bits
    omega
  rw [hcode]
  rfl

/-- An operation without a result for its operand field faults with 0x02 (06 R137). -/
theorem intOp_of_none {f : Nat → CoreId → ThreadId → Instr} {op : Nat} (hrow : (f, op) ∈ intRows) (hins : op ≠ 0x35) {a b : Word} {cin : Bool} (h : intSpec op a b cin = none) :
    intOp op a b cin = ifault 2 := by
  have hop : op ∈ intRows.map Prod.snd := List.mem_map_of_mem (f := Prod.snd) hrow
  simp only [intRows, List.map_cons, List.map_nil, List.mem_cons, List.not_mem_nil, or_false] at hop
  unfold intSpec at h
  split at h
  case h_37 =>
    rw [intOp_33, fieldSel_eq, Option.map_eq_none_iff.1 h]
  case h_38 =>
    rw [intOp_34, fieldSel_eq, Option.map_eq_none_iff.1 h]
  case h_40 =>
    split at h
    · rw [intOp_37, extWidth_reserved ‹_›]
    · cases h
  case h_41 =>
    split at h
    · rw [intOp_38, extWidth_reserved ‹_›]
    · cases h
  case h_42 => simp_all
  all_goals cases h

/-- The result that an integer instruction computes, or the fault of its operand field. -/
def Ins.intRes (o : Ins) (x : Thread) : IRes := if o.op = 0x35 then insOp (o.a x) (o.c x) (iIMM o.w) else intOp o.op (o.a x) (o.intB x) (flC x.fl)

theorem intRes_of_some {r : IRes} (h : o.intResult x = some r) : immOk o = true ∧ o.intRes x = r := by
  unfold Ins.intResult at h
  unfold Ins.intRes
  split at h
  next himm =>
    refine ⟨himm, ?_⟩
    split at h
    next hins =>
      obtain ⟨p, hp, rfl⟩ := Option.map_eq_some_iff.1 h
      rw [if_pos hins, insOp_eq, hp]
    next hins => rw [if_neg hins, intOp_eq _ _ _ _ _ h]
  next => cases h

theorem intRes_of_none {f : Nat → CoreId → ThreadId → Instr} (hrow : (f, o.op) ∈ intRows) (h : o.intResult x = none) : immOk o = false ∨ o.intRes x = ifault 2 := by
  unfold Ins.intResult at h
  unfold Ins.intRes
  split at h
  next himm =>
    right
    split at h
    next hins => rw [if_pos hins, insOp_eq, Option.map_eq_none_iff.1 h]
    next hins => rw [if_neg hins, intOp_of_none hrow hins h]
  next himm => exact .inl (by simpa using himm)

theorem intResult_fault {r : IRes} {k : Nat} (h : o.intResult x = some r) (hf : r.fault = some k) : k = 0x0A := by
  unfold Ins.intResult at h
  split at h
  next =>
    split at h
    next =>
      obtain ⟨p, _, rfl⟩ := Option.map_eq_some_iff.1 h
      cases hf
    next => exact intSpec_fault h hf
  next => cases h

theorem xInt_field (h : immOk o = false ∨ o.intRes (s.thr c n) = ifault 2) : xInt s c n o = .trap s 2 := by
  unfold xInt
  dsimp only
  cases himm : immOk o with
  | false => rfl
  | true =>
    have hres := h.resolve_left (by simp [himm])
    unfold Ins.intRes at hres
    rw [hres]
    rfl

theorem xInt_overflow {r : IRes} (himm : immOk o = true) (hres : o.intRes (s.thr c n) = r) (hf : r.fault = some 0x0A) : xInt s c n o = .trap (s.tarxInt c n o) 0x0A := by
  unfold Ins.intRes at hres
  unfold xInt
  dsimp only
  rw [himm, hres, hf]
  rfl

/-- What an integer instruction reads of its thread is there after its issue. -/
theorem Began.intRes (h : Began u s c n) (o : Ins) : o.intRes (s.thr c n) = o.intRes (u.thr c n) := by
  rw [h.thread]
  rfl

/-! ### Division (06 R153; 07 R177) -/

theorem isRow_divisionRows : ∀ r ∈ divisionRows, r.2 ≤ 0x2B → IsRow r.1 r.2 xDset := by
  simp only [divisionRows, List.forall_mem_cons, List.not_mem_nil, false_imp_iff, implies_true, and_true]
  refine ⟨fun _ => ⟨fun _ _ _ _ => rfl, rfl⟩, fun _ => ⟨fun _ _ _ _ => rfl, rfl⟩, fun _ => ⟨fun _ _ _ _ => rfl, rfl⟩, fun _ => ⟨fun _ _ _ _ => rfl, rfl⟩, ?_, ?_, ?_⟩ <;> omega

/-- The width of a DSET. -/
def Ins.divWidth (o : Ins) : Nat := if o.op % 2 = 1 then 32 else 64

theorem divSet_zero (w : Nat) (signed : Bool) (a : Word) {b : Word} (fl : Word) (h : b.setWidth w = 0) : flDZ (divSet w signed a b fl).fl = true := by
  unfold divSet flDZ
  dsimp only
  rw [setFlag_bit _ _ _ _ (by omega), h]
  simp

theorem zero_of_divided {w : Nat} {y : Thread} (hw : o.divWidth = w) (h : (if (o.b x).setWidth w = 0 ∧ flDZE x.fl = true then none else some y) = none) :
    (o.b x).setWidth o.divWidth = 0 ∧ flDZE x.fl = true := by
  subst hw
  split at h
  next hzero => exact hzero
  next => cases h

/-- Only a DSET by 0 has no result, and then DZE is set. -/
theorem divided_none {f : Nat → CoreId → ThreadId → Instr} (hrow : (f, o.op) ∈ divisionRows) (h : o.divided x = none) :
    o.op ≤ 0x2B ∧ (o.b x).setWidth o.divWidth = 0 ∧ flDZE x.fl = true := by
  simp only [divisionRows, List.mem_cons, Prod.mk.injEq, List.not_mem_nil, or_false] at hrow
  unfold Ins.divided at h
  rcases hrow with ⟨-, hop⟩ | ⟨-, hop⟩ | ⟨-, hop⟩ | ⟨-, hop⟩ | ⟨-, hop⟩ | ⟨-, hop⟩ | ⟨-, hop⟩ <;> simp only [hop] at h ⊢
  case inl | inr.inl | inr.inr.inl | inr.inr.inr.inl =>
    exact ⟨by omega, zero_of_divided (by rw [Ins.divWidth, hop]; rfl) h⟩
  all_goals cases h

theorem xDset_zero (hzero : (o.b (s.thr c n)).setWidth o.divWidth = 0) (hdze : flDZE (s.thr c n).fl = true) :
    xDset s c n o = .trap ((s.setThr c n { s.thr c n with fl := setFlag (setFlag (s.thr c n).fl 4 true) 3 true }).tarxInt c n o) 9 := by
  have hwidth : o.divWidth = 64 ∨ o.divWidth = 32 := by
    unfold Ins.divWidth
    split
    · exact .inr rfl
    · exact .inl rfl
  unfold xDset
  dsimp only
  rw [← Ins.divWidth, dset_eq _ hwidth, if_pos ⟨divSet_zero _ _ _ _ hzero, hdze⟩]

/-! ### Floating point (06 R157; 07 R181) -/

theorem isRow_fpRows : ∀ r ∈ fpRows, IsRow r.1 r.2 xFp := by
  simp only [fpRows, List.forall_mem_cons, List.not_mem_nil, false_imp_iff, implies_true, and_true]
  and_intros <;> exact ⟨fun _ _ _ _ => rfl, rfl⟩

/-- The rounding mode of an instruction (06 R157). -/
def Ins.rounding (o : Ins) (x : Thread) : Nat := if bits (iAM o.w) 1 3 = 0 then flRM x.fl else bits (iAM o.w) 1 3 - 1

theorem rounding_lt (o : Ins) (x : Thread) : o.rounding x < 8 := by
  have hfield : bits (iAM o.w) 1 3 < 8 := Nat.mod_lt _ (by decide)
  unfold Ins.rounding
  split
  · exact wbits_lt ..
  · omega

theorem fpResult_none (h : o.fpResult x = none) : rmoMode (bits (iAM o.w) 1 3) (flRM x.fl) = none := by
  unfold Ins.fpResult at h
  unfold rmoMode
  dsimp only at h
  split at h
  next => cases h
  next hrmo =>
    split at h
    next => cases h
    next hbig => rw [if_neg hrmo, if_neg hbig]

/-- The operand a of a floating-point instruction. -/
def Ins.fpA (o : Ins) (x : Thread) : Word := if o.op = 0x8E || o.op = 0x8F || o.op = 0x91 then x.getW (iRA o.w) else x.getF (iRA o.w)

theorem fpResult_some {r : FRes} (h : o.fpResult x = some r) :
    rmoMode (bits (iAM o.w) 1 3) (flRM x.fl) = some (o.rounding x) ∧
      r = fpOp o.op (bit (iAM o.w) 0) (o.rounding x) (o.fpA x) (x.getF (iRB o.w)) (x.getF (iRD o.w)) := by
  have ha : (if o.op = 0x8E ∨ o.op = 0x8F ∨ o.op = 0x91 then x.getW (iRA o.w) else x.getF (iRA o.w)) = o.fpA x := by
    simp only [Ins.fpA, Bool.or_eq_true, decide_eq_true_eq, or_assoc]
  unfold Ins.fpResult at h
  unfold rmoMode Ins.rounding
  dsimp only at h
  rw [ha] at h
  split at h
  next hrmo =>
    rw [if_pos hrmo, if_pos hrmo]
    exact ⟨rfl, (Option.some.inj h).symm⟩
  next hrmo =>
    split at h
    next hle =>
      rw [if_neg hrmo, if_neg hrmo, if_pos hle]
      exact ⟨rfl, (Option.some.inj h).symm⟩
    next => cases h

theorem fpTrap_first {raised enabled k : Nat} (hk : k < 5) (hraised : raised.testBit k = true) (henabled : enabled.testBit k = true)
    (hfirst : ∀ j < k, ¬(raised.testBit j = true ∧ enabled.testBit j = true)) : fpTrap raised enabled = some (4 + k) := by
  have hfind : (List.range 5).find? (fun j => raised.testBit j && enabled.testBit j) = some k := by
    rw [List.find?_range_eq_some]
    exact ⟨by simp [hraised, henabled], List.mem_range.2 hk, fun j hj => by
      rw [Bool.not_eq_true', ← Bool.not_eq_true, Bool.and_eq_true]
      exact hfirst j hj⟩
  unfold fpTrap
  rw [show [0, 1, 2, 3, 4] = List.range 5 from rfl, hfind, Nat.add_comm]
  rfl

theorem xFp_reserved (h : rmoMode (bits (iAM o.w) 1 3) (flRM (s.thr c n).fl) = none) : xFp s c n o = .trap s 2 := by
  unfold xFp
  dsimp only
  rw [h]

theorem xFp_raises {r : FRes} {k : Nat} (h : o.fpResult (s.thr c n) = some r) (htrap : fpTrap r.fl (flEn (s.thr c n).fl) = some k) :
    xFp s c n o = .trap (s.tarxFp c n o r.fl (o.rounding (s.thr c n))) k := by
  obtain ⟨hmode, rfl⟩ := fpResult_some h
  unfold Ins.fpA at htrap ⊢
  unfold xFp
  dsimp only
  rw [hmode]
  dsimp only
  rw [htrap]

theorem Began.fpResult (h : Began u s c n) (o : Ins) : o.fpResult (s.thr c n) = o.fpResult (u.thr c n) := by
  rw [h.thread]
  rfl

/-! ### Words that are no instruction (06 R134) -/

theorem decodeAt_illegal (h : s.isIllegal (s.gword c (s.thr c n).pc) = true) : s.decodeAt c n = .error 1 := by
  unfold State.decodeAt State.decode
  dsimp only
  split
  next => rfl
  next hdefined =>
    refine if_pos ?_
    simp only [State.isIllegal, Bool.or_eq_true, Bool.and_eq_true, decide_eq_true_eq, Bool.not_eq_true'] at h ⊢
    tauto

theorem issue_illegal (hwin : u.winner c = some n) (honce : (u.tile c).lastIssue ≠ some u.now) (hill : u.isIllegal (u.gword c (u.thr c n).pc) = true)
    (hloads : (u.thr c n).loads = []) (hchan : (u.thr c n).chanLost = false) :
    u.issue c n u.isIllegal = (u.account c n ⟨0, 1, 0, 0⟩).trap c n 1 (u.thr c n).pc false := by
  have hmay : u.mayIssue c n = true := (Bool.and_eq_true_iff.1 (winner_issuable hwin)).1
  have hdecode := decodeAt_illegal hill
  have hattempt : u.attempt c n = .trap u 1 := by
    unfold State.attempt State.trapWhen
    dsimp only
    rw [hloads, hchan, hdecode]
    rfl
  have hperform : u.perform c n = (u.account c n ⟨0, 1, 0, 0⟩).trap c n 1 (u.thr c n).pc false := by
    unfold State.perform State.chargeAt State.insAt
    dsimp only
    rw [hchan, hdecode]
    rfl
  have hslot : (decide ((u.tile c).lastIssue ≠ some u.now)) = true := by simpa using honce
  unfold State.issue
  rw [hill, hmay, hattempt, if_pos (by simpa using honce)]
  dsimp only
  rw [if_pos hwin, hperform]

end

/-- Settles O11: each fault is a trap (`AtFault.trapped`) of the state in which the instruction has been accounted for, and recorded where it is arithmetic (`AtFault.records`). -/
theorem faultsTrapPrecisely : Obligations.FaultsTrapPrecisely := by
  unfold Obligations.FaultsTrapPrecisely
  refine ⟨?illegal, ?rows⟩
  case illegal =>
    intro z dt c n u x hwin honce hill hloads hchan hreports
    have hb : Began u (u.account c n ⟨0, 1, 0, 0⟩) c n := account_began n.isLt _
    have hpc : x.pc ≤ 16383 := pc_le_of_mayIssue (Bool.and_eq_true_iff.1 (winner_issuable hwin)).1
    exact ⟨_, congrArg Host.Outcome.next (issue_illegal hwin honce hill hloads hchan), (hb.atFault hloads hreports).trapped hb.only.left n.isLt hpc (by decide)⟩
  case rows =>
    intro z dt c n o u x ch recs htakes hreports
    have hat : ∀ {s}, Began u s c n → AtFault u s c n x := fun hb => hb.atFault htakes.loads hreports
    have hfield : ∀ {f op m}, IsRow f op m → o.op = op → (∀ s, Began u s c n → m s c n o = .trap s 2) → Completes (f dt c n) z fun t => Trapped u t c n 2 o.pc ch :=
      fun hrow hop hm => .of_exists (hrow.traps htakes hop (P := fun _ => True) (by decide) fun s hb => ⟨s, hm s hb, hat hb, hb.only.left, trivial⟩)
    refine ⟨fun f op hrow hop => ⟨fun hnone => ?_, fun r k hsome hf => ?_⟩, fun f op hrow hop hnone => ?_, fun f op hrow hop => ⟨fun hnone => ?_, fun r k hsome hk hraised henabled hfirst => ?_⟩⟩
    · exact hfield (isRow_intRows _ hrow) hop fun s hb => xInt_field (by
        rw [hb.intRes]
        exact intRes_of_none (hop ▸ hrow) hnone)
    · obtain ⟨himm, hres⟩ := intRes_of_some hsome
      cases intResult_fault hsome hf
      refine (isRow_intRows _ hrow).traps htakes hop (by decide) fun s hb => ⟨_, xInt_overflow himm ((hb.intRes o).trans hres) hf, ?_⟩
      rw [tarxInt_eq]
      exact (hat hb).records hb.only n.isLt htakes.pc_le (by decide) (by decide) (by decide) (by decide)
    · obtain ⟨hset, hzero, hdze⟩ := divided_none (hop ▸ hrow) hnone
      refine (isRow_divisionRows _ hrow (hop ▸ hset)).traps htakes hop (by decide) fun s hb => ⟨_, xDset_zero (by rwa [hb.b]) (by rwa [hb.fl]), ?_⟩
      rw [tarxInt_eq]
      refine AtFault.records ((hat hb).setThr n.isLt ?_ htakes.loads rfl rfl ?_) (hb.only.setThr _ n.isLt (by simp [issueChanges])) n.isLt htakes.pc_le (by decide) (by decide) (by decide) (by decide)
      · rw [hb.thread]
        rfl
      · have hready : (s.thr c n).st = .ready := by
          rw [hb.thread]
          exact htakes.ready
        simp [waitsQ, hready]
    · exact hfield (isRow_fpRows _ hrow) hop fun s hb => xFp_reserved (by
        rw [hb.fl]
        exact fpResult_none hnone)
    · have hfl : r.fl < 32 := by
        rw [(fpResult_some hsome).2]
        exact fpOp_fl ..
      have htrap := fpTrap_first hk hraised henabled hfirst
      refine (isRow_fpRows _ hrow).traps htakes hop (by omega) fun s hb => ⟨_, xFp_raises ((hb.fpResult o).trans hsome) (by rwa [hb.fl]), ?_⟩
      rw [tarxFp_eq, Nat.mod_eq_of_lt hfl]
      have hround : o.rounding (s.thr c n) = o.rounding x := by
        rw [hb.thread]
        rfl
      rw [hround]
      exact (hat hb).records hb.only n.isLt htakes.pc_le hfl (rounding_lt o x) (by cases bit (iAM o.w) 0 <;> decide) (by decide)

end Sys2Proof.Machine

/-! Timers (05 R113, R126, R127; 06 R159). -/
namespace Sys2Proof.Machine

/-! ### Arming (05 R126) -/

/-- A tile is known by what is left without its bookkeeping. -/
theorem Tile.eq_of_bare {x y : Tile} (h : x.bare = y.bare) : ∃ issued cached, x = { y with lastIssue := issued, cache := cached } := by
  refine ⟨x.lastIssue, x.cache, ?_⟩
  change ({ x.bare with lastIssue := x.lastIssue, cache := x.cache } : Tile) = _
  rw [h]
  rfl

/-- The state with entry k of a core's delay list armed. -/
def State.armed (s : State) (c k delay : Nat) (w : TimerFor) : State :=
  s.bump.setTile c { s.tile c with
    delay := (s.tile c).delay ++ [⟨k, tget (s.tile c).gens 0 k, (s.beat + delay) % 2 ^ 48, s.seqNo, w⟩]
    gens := tput (s.tile c).gens k ((tget (s.tile c).gens 0 k + 1) % 64) }

section
variable {u s t : State} {c n k delay : Nat} {w : TimerFor} {o : Ins} {ch : Changes}

theorem armTimer_free (h : s.freeTimer c k) : s.armTimer c delay w = some (handleOf k (tget (s.tile c).gens 0 k), s.armed c k delay w) := by
  obtain ⟨hk, hunused, hlow⟩ := h
  have hfind : (List.range 1024).find? (fun k => !((s.tile c).delay.any fun d => d.num = k)) = some k := by
    rw [List.find?_range_eq_some]
    exact ⟨by simpa using hunused, List.mem_range.2 hk, fun j hj => by simpa using hlow j hj⟩
  unfold State.armTimer
  dsimp only
  rw [hfind]
  rfl

theorem armTimer_full (h : ∀ j < 1024, ∃ d ∈ (s.tile c).delay, d.num = j) : s.armTimer c delay w = none := by
  have hfind : (List.range 1024).find? (fun k => !((s.tile c).delay.any fun d => d.num = k)) = none :=
    List.find?_eq_none.2 fun j hj => by simpa using h j (List.mem_range.1 hj)
  unfold State.armTimer
  dsimp only
  rw [hfind]

theorem Only.armed (h : Only ch u s) (ht : c ∈ ch.tiles) (hp : .stamp ∈ ch.parts) : Only ch u (s.armed c k delay w) := (h.bump hp).setTile _ ht

/-- An entry is armed from the delay list, the beat and the stamp that a state has. -/
theorem armed_of (htile : (s.tile c).bare = (u.tile c).bare) (hnow : s.now = u.now) (hstamp : s.seqNo = u.seqNo) (ht : t.tile c = (s.armed c k delay w).tile c) :
    Armed u t c k delay w := by
  obtain ⟨issued, cached, hx⟩ := Tile.eq_of_bare htile
  unfold Armed
  rw [ht, State.armed, State.tile_setTile_self, hx, State.beat, hnow, hstamp]
  rfl

theorem Began.freeTimer (h : Began u s c n) (g : u.freeTimer c k) : s.freeTimer c k := by
  unfold State.freeTimer at g ⊢
  rwa [h.delay]

/-! ### TMR -/

theorem isRow_tmr : IsRow (fun dt c n => .tmr dt (.strand c n)) 0xBB xTmr := ⟨fun _ _ _ _ => rfl, rfl⟩

theorem xTmr_event (hlow : (o.a (s.thr c n)).toNat < 2 ^ 32) (hs : o.s = true) (hfree : s.freeTimer c k) :
    xTmr s c n o = .done ((s.armed c k (o.a (s.thr c n)).toNat (.event n)).onThr c n fun y => y.setW (iRD o.w) (wd (handleOf k (tget (s.tile c).gens 0 k)))) := by
  unfold xTmr
  dsimp only
  rw [hs, if_neg (by simp), if_neg hlow.not_ge, if_pos rfl, armTimer_free hfree]
  rfl

theorem xTmr_sleep (hlow : (o.a (s.thr c n)).toNat < 2 ^ 32) (hs : o.s = false) (hrd : iRD o.w = 0) (hfree : s.freeTimer c k) :
    xTmr s c n o = .wait (s.armed c k (o.a (s.thr c n)).toNat (.sleep n)) (.timer (handleOf k (tget (s.tile c).gens 0 k))) := by
  unfold xTmr
  dsimp only
  rw [hs, if_neg (by simp [hrd]), if_neg hlow.not_ge, if_neg (by simp), armTimer_free hfree]
  rfl

theorem xTmr_full (hlow : (o.a (s.thr c n)).toNat < 2 ^ 32) (hs : o.s = true ∨ iRD o.w = 0) (hfull : ∀ j < 1024, ∃ d ∈ (s.tile c).delay, d.num = j) :
    xTmr s c n o = .retry s .timer := by
  unfold xTmr
  dsimp only
  rw [if_neg (by rcases hs with hs | hs <;> simp [hs]), if_neg hlow.not_ge, armTimer_full hfull]

/-! ### The retry of a held TMR -/

/-- A thread that tries its held instruction again. -/
def Thread.retried (x : Thread) : Thread := { x with retry := none }

/-- The state in which it does. -/
def State.retried (u : State) (c n : Nat) : State := u.setThr c n (u.thr c n).retried

theorem thr_retried : (u.retried c n).thr c n = (u.thr c n).retried := State.thr_setThr_self ..

theorem a_retried : o.a ((u.retried c n).thr c n) = o.a (u.thr c n) := by
  rw [thr_retried]
  rfl

theorem Only.retried (l : n < 16) (hm : (c, n) ∈ ch.threads) : Only ch u (u.retried c n) := (Only.refl _ u).setThr _ l hm

theorem retryIns_timer (h : u.retryDue c n .timer) (hop : (u.thr c n).heldIns.op = 0xBB) :
    u.retryIns c n .timer = (u.retried c n).settleRes c n (u.thr c n).retried (u.thr c n).heldIns 1 (xTmr (u.retried c n) c n (u.thr c n).heldIns) := by
  obtain ⟨hready, hretry, hbeat, -⟩ := h
  have hmeans : (u.retried c n).meaning c n (u.thr c n).heldIns = xTmr (u.retried c n) c n (u.thr c n).heldIns := by
    unfold State.meaning
    rw [hop, if_neg fun hbad => absurd hbad.1 (by decide)]
    rfl
  rw [← hmeans, ← thr_retried]
  exact if_pos ⟨hready, hretry, hbeat⟩

section
variable (hdue : u.retryDue c n .timer) (hop : (u.thr c n).heldIns.op = 0xBB) (hlow : ((u.thr c n).heldIns.a (u.thr c n)).toNat < 2 ^ 32)
include hdue hop hlow

/-- The retried TMR arms its timer and completes. -/
theorem retryIns_event (hs : (u.thr c n).heldIns.s = true) (hfree : u.freeTimer c k)
    (hpc : (((u.thr c n).retried.setW (iRD (u.thr c n).heldIns.w) (wd (handleOf k (tget (u.tile c).gens 0 k)))).stepPc (u.thr c n).pc ((u.thr c n).pc + 1)).pc ≤ 16383) :
    ∃ y z, u.retryIns c n .timer = (((u.retried c n).armed c k ((u.thr c n).heldIns.a (u.thr c n)).toNat (.event n)).setThr c n y).setThr c n z ∧
      z.bare = (((u.thr c n).retried.setW (iRD (u.thr c n).heldIns.w) (wd (handleOf k (tget (u.tile c).gens 0 k)))).stepPc (u.thr c n).pc ((u.thr c n).pc + 1)).bare := by
  have hmeans := xTmr_event (s := u.retried c n) (by rwa [a_retried]) hs hfree
  have hthr : ((u.retried c n).armed c k ((u.thr c n).heldIns.a (u.thr c n)).toNat (.event n)).thr c n = (u.thr c n).retried := thr_retried
  rw [a_retried, State.onThr, hthr] at hmeans
  obtain ⟨hready, -, -, hloads⟩ := id hdue
  obtain ⟨z, hends, hbare⟩ := finish_advance (s := ((u.retried c n).armed c k ((u.thr c n).heldIns.a (u.thr c n)).toNat (.event n)).setThr c n
      ((u.thr c n).retried.setW (iRD (u.thr c n).heldIns.w) (wd (handleOf k (tget (u.tile c).gens 0 k))))) (c := c) (n := n) (pre := (u.thr c n).retried) 1 (u.thr c n).pc ((u.thr c n).pc + 1)
    (by rw [State.thr_setThr_self]; exact setW_ready (x := (u.thr c n).retried) hready _ _) hloads
    (by rw [State.thr_setThr_self]; exact setW_quiet (x := (u.thr c n).retried) hloads _ _) (by rwa [State.thr_setThr_self])
  rw [State.thr_setThr_self] at hbare
  rw [retryIns_timer hdue hop, hmeans]
  exact ⟨_, z, hends, hbare⟩

/-- The retried TMR sleeps on its timer. -/
theorem retryIns_sleep (hs : (u.thr c n).heldIns.s = false) (hrd : iRD (u.thr c n).heldIns.w = 0) (hfree : u.freeTimer c k) :
    u.retryIns c n .timer = ((u.retried c n).armed c k ((u.thr c n).heldIns.a (u.thr c n)).toNat (.sleep n)).bump.setThr c n
      ((u.thr c n).asleep (.timer (handleOf k (tget (u.tile c).gens 0 k))) (u.seqNo + 1) (u.thr c n).iw (u.now + 8)) := by
  have hmeans := xTmr_sleep (s := u.retried c n) (by rwa [a_retried]) hs hrd hfree
  have hthr : ((u.retried c n).armed c k ((u.thr c n).heldIns.a (u.thr c n)).toNat (.sleep n)).bump.thr c n = (u.thr c n).retried := thr_retried
  rw [a_retried] at hmeans
  rw [retryIns_timer hdue hop, hmeans]
  unfold State.settleRes State.enterWait
  dsimp only
  rw [State.onThr, hthr]
  rfl

/-- The retried TMR is held for another beat. -/
theorem retryIns_full (hs : (u.thr c n).heldIns.s = true ∨ iRD (u.thr c n).heldIns.w = 0) (hfull : ∀ j < 1024, ∃ d ∈ (u.tile c).delay, d.num = j) :
    u.retryIns c n .timer = (u.retried c n).setThr c n { u.thr c n with retryAt := u.now + 8 } := by
  have hmeans := xTmr_full (s := u.retried c n) (by rwa [a_retried]) hs hfull
  obtain ⟨-, hkind, -, -⟩ := id hdue
  rw [retryIns_timer hdue hop, hmeans]
  unfold State.settleRes
  dsimp only
  rw [State.onThr, thr_retried, Thread.retried]
  dsimp only
  rw [← hkind]
  rfl

end

/-! ### TCAN (05 R127) -/

theorem isRow_tcan : IsRow (fun dt c n => .tcan dt c n) 0xBC xTcan := ⟨fun _ _ _ _ => rfl, rfl⟩

theorem xTcan_eq (hlow : (o.a (s.thr c n)).toNat < 65536) :
    xTcan s c n o = .done ((s.cancelTimer c (o.a (s.thr c n)).toNat).2.onThr c n fun y => y.setW (iRD o.w) (wd (s.cancelTimer c (o.a (s.thr c n)).toNat).1)) := by
  unfold xTcan
  dsimp only
  rw [if_neg hlow.not_ge]

/-- A count of nothing. -/
theorem counted_zero {f : Fld} {a i : Nat} (h : t.fget f a i = u.fget f a i) : Counted u t f a i 0 := by
  have hlt := u.fget_lt f a i
  unfold Counted
  rw [h, Nat.add_zero, Nat.min_eq_right (by omega)]

section
variable {h : Nat}

/-- A timer of the delay list is taken out, and counted when its beat has come. -/
theorem cancelTimer_delayed {a b : List Timer} {d : Timer} (hdelay : (s.tile c).delay = a ++ d :: b) (hd : handleOf d.num d.gen = h) (ha : ∀ e ∈ a, handleOf e.num e.gen ≠ h) :
    ∃ t, s.cancelTimer c h = (0, t) ∧ t.tile c = { s.tile c with delay := a ++ b } ∧ Counted s t F.CANCEL_PRE_COUNT c 0 (b2n (timerPast s.beat d.deadline)) ∧
      Only { regs := [(.CANCEL_PRE, c, 0)], tiles := [c] } s t := by
  have hcancel : s.cancelTimer c h = (0, if timerPast s.beat d.deadline then (s.setTile c { s.tile c with delay := a ++ b }).inc F.CANCEL_PRE_COUNT c 0 else s.setTile c { s.tile c with delay := a ++ b }) := by
    unfold State.cancelTimer
    dsimp only
    rw [hdelay, takeFirst_split _ a b d (fun e he => decide_eq_false (ha e he)) (decide_eq_true hd)]
    rfl
  have honly : Only { regs := [(.CANCEL_PRE, c, 0)], tiles := [c] } s (s.setTile c { s.tile c with delay := a ++ b }) := (Only.refl _ s).setTile _ (by simp)
  cases hpast : timerPast s.beat d.deadline with
  | true =>
    rw [hpast, if_pos rfl] at hcancel
    exact ⟨_, hcancel, State.tile_setTile_self .., fget_inc _ F.CANCEL_PRE_COUNT c 0 (by decide), honly.inc (by simp [F.CANCEL_PRE_COUNT])⟩
  | false =>
    rw [hpast, if_neg (by simp)] at hcancel
    exact ⟨_, hcancel, State.tile_setTile_self .., counted_zero rfl, honly⟩

section
variable (hdelay : ∀ d ∈ (s.tile c).delay, handleOf d.num d.gen ≠ h)
include hdelay

theorem cancelTimer_gone : s.cancelTimer c h = if (((s.tile c).ready ++ (s.tile c).c0q).any fun k => k.timer = some h) = true then
    (1, (s.dropTasks c fun k => k.timer = some h).inc F.CANCEL_POST_COUNT c 0) else (2, s) := by
  unfold State.cancelTimer
  dsimp only
  rw [takeFirst_none _ _ fun e he => decide_eq_false (hdelay e he)]

/-- A timer that has entered the ready list is taken out of it, and counted. -/
theorem cancelTimer_ready (htask : ∃ k ∈ (s.tile c).ready ++ (s.tile c).c0q, k.timer = some h) :
    ∃ t, s.cancelTimer c h = (1, t) ∧ t.tile c = { s.tile c with ready := (s.tile c).ready.filter (fun k => k.timer ≠ some h), c0q := (s.tile c).c0q.filter (fun k => k.timer ≠ some h) } ∧
      Counted s t F.CANCEL_POST_COUNT c 0 1 ∧ Only { regs := [(.CANCEL_POST, c, 0)], tiles := [c] } s t := by
  have hkept : (fun k : Task => !decide (k.timer = some h)) = fun k => decide (k.timer ≠ some h) := funext fun k => (decide_not ..).symm
  refine ⟨_, (cancelTimer_gone hdelay).trans (if_pos (List.any_eq_true.2 (htask.imp fun _ hk => ⟨hk.1, decide_eq_true hk.2⟩))), ?_, fget_inc _ F.CANCEL_POST_COUNT c 0 (by decide), ((Only.refl _ s).dropTasks _ (by simp)).inc (by simp [F.CANCEL_POST_COUNT])⟩
  refine (State.tile_setTile_self ..).trans ?_
  rw [hkept]

theorem cancelTimer_nowhere (htask : ∀ k ∈ (s.tile c).ready ++ (s.tile c).c0q, k.timer ≠ some h) : s.cancelTimer c h = (2, s) :=
  (cancelTimer_gone hdelay).trans (if_neg fun hany => by
    obtain ⟨k, hk, htimer⟩ := List.any_eq_true.1 hany
    exact htask k hk (of_decide_eq_true htimer))

end
end

/-! ### Timers that are due (05 R113, R126) -/

theorem timerDue_one {d : Timer} (hrun : s.frozen c = false) (hdue : ((s.tile c).delay.filter fun e => timerPast s.beat e.deadline) = [d]) : s.timerDue c = s.ring c d := by
  have hlist : s.dueTimers c = [d] := by
    unfold State.dueTimers
    dsimp only
    rw [hdue]
    rfl
  unfold State.timerDue
  rw [hrun, hlist]
  rfl

/-- The tile whose delay list an entry has left. -/
def Tile.rung (x : Tile) (d : Timer) : Tile := { x with delay := x.delay.filter fun k => k.num ≠ d.num }

theorem ring_firing {d : Timer} {f : Firing} {cls pri act : Nat} (hw : d.what = .firing f cls pri act) :
    s.ring c d = if s.readyFull c cls then s else (s.onTile c fun x => x.rung d).enterReady c (.timed f) cls pri act (some (handleOf d.num d.gen)) := by
  unfold State.ring
  dsimp only
  rw [hw]
  rfl

theorem ring_event {d : Timer} (hw : d.what = .event n) :
    s.ring c d = if s.readyFull c (s.thr c n).cls then s else
      (s.onTile c fun x => x.rung d).enterReady c (.event n (handleOf d.num d.gen)) (s.thr c n).cls (s.thr c n).pri (s.thr c n).act (some (handleOf d.num d.gen)) := by
  unfold State.ring
  dsimp only
  rw [hw]
  rfl

theorem ring_sleep {d : Timer} (hw : d.what = .sleep n) (hst : (s.thr c n).st = .wait) :
    s.ring c d = if s.readyFull c (s.thr c n).cls then s else
      ((s.onTile c fun x => x.rung d).setThr c n { s.thr c n with wres := some (.status 0) }).enterReady c (.wake n) (s.thr c n).cls (s.thr c n).pri (s.thr c n).act
        (some (handleOf d.num d.gen)) := by
  unfold State.ring
  dsimp only
  rw [hw]
  dsimp only
  rw [if_pos hst]
  rfl

theorem ring_full {d : Timer} (hw : d.what = .event n ∨ d.what = .sleep n) (hfull : s.readyFull c (s.thr c n).cls = true) : s.ring c d = s := by
  unfold State.ring
  dsimp only
  rcases hw with hw | hw
  · rw [hw]
    exact if_pos hfull
  · rw [hw]
    exact if_pos hfull

/-- A task enters the ready list in the place of its timer. -/
theorem rung_task {d : Timer} {k : TaskK} {cls pri act : Nat} {tm : Option Nat} (hs : s.tile c = (u.tile c).rung d) (hstamp : s.seqNo = u.seqNo) :
    (s.enterReady c k cls pri act tm).tile c = ((u.tile c).rung d).withTask ⟨k, cls, pri, act, u.seqNo, false, tm⟩ := by
  rw [enterReady_tile, hs, hstamp]

end

/-- Settles O13: TMR from the arming of the lowest free entry (`armTimer_free`, `armTimer_full`), its retry from `retryIns_timer`, TCAN from `State.cancelTimer`, and TIMER_DUE from the one entry that rings (`timerDue_one`). -/
theorem timersAreArmedCancelledAndFallDue : Obligations.TimersAreArmedCancelledAndFallDue := by
  unfold Obligations.TimersAreArmedCancelledAndFallDue
  refine ⟨⟨?tmr, ?retry, ?tcan⟩, ?due⟩
  case tmr =>
    intro z dt c n o k u x h y htakes hop hlow
    have hlow' : ∀ {s}, Began u s c n → (o.a (s.thr c n)).toNat < 2 ^ 32 := fun hb => by rwa [hb.a]
    have harmed : ∀ {s t : State} {w}, Began u s c n → t.tile c = (s.armed c k (o.a (s.thr c n)).toNat w).tile c → Armed u t c k (o.a x).toNat w := fun hb ht =>
      armed_of hb.tile hb.now hb.stamp (by rw [ht, hb.a])
    have hdid : ∀ {s : State} {w}, Began u s c n → Did u (s.armed c k (o.a (s.thr c n)).toNat w) c n x { tiles := [c], parts := [.stamp] } := fun {s _} hb =>
      hb.did_only n.isLt ((Only.refl _ s).armed (by simp) (by simp)) (by simp)
    refine ⟨fun hfree hs hpc => ?_, fun hfree hs hrd => ?_, fun hfull hs => ?_⟩
    · refine isRow_tmr.done htakes hop (P := fun t => Armed u t c k (o.a x).toNat (.event n)) (fun s hb => ⟨_, xTmr_event (hlow' hb) hs (hb.freeTimer hfree), ?_, fun _ => harmed hb rfl⟩)
        (setW_ready htakes.ready _ _) (setW_quiet htakes.loads _ _) hpc
      rw [hb.gens]
      exact (hdid hb).setW n.isLt _ _
    · refine isRow_tmr.waits htakes hop (P := fun t => Armed u t c k (o.a x).toNat (.sleep n))
        (fun s hb => ⟨s.armed c k (o.a (s.thr c n)).toNat (.sleep n), ?_, hdid hb, congrArg (· + 1) hb.stamp, hb.now, fun _ => harmed hb rfl⟩) (by simp)
      rw [xTmr_sleep (hlow' hb) hs hrd (hb.freeTimer hfree), hb.gens]
    · refine .of_exists (isRow_tmr.retries htakes hop (P := fun _ => True) fun s hb => ⟨s, xTmr_full (hlow' hb) hs ?_, hb.did_only n.isLt (Only.refl _ s) (by simp), fun _ => trivial⟩)
      rwa [hb.delay]
  case retry =>
    intro z dt c n k u x o y hdue hop hlow hs
    have harmed : ∀ {t : State} {w}, t.tile c = (u.armed c k (o.a x).toNat w).tile c → Armed u t c k (o.a x).toNat w := fun ht => armed_of rfl rfl rfl ht
    refine ⟨fun hfree hevent hpc => ?_, fun hfree hsleep => ?_, fun hfull => ?_⟩
    · obtain ⟨v, w, hends, hbare⟩ := retryIns_event hdue hop hlow hevent hfree hpc
      refine ⟨_, congrArg Host.Outcome.next hends, ⟨(congrArg Thread.bare (State.thr_setThr_self ..)).trans hbare, ?_⟩, harmed rfl⟩
      exact (((Only.retried n.isLt (by simp [Changes.and])).armed (by simp [Changes.and]) (by simp [Changes.and])).setThr _ n.isLt (by simp [Changes.and])).setThr _ n.isLt (by simp [Changes.and])
    · exact ⟨_, congrArg Host.Outcome.next (retryIns_sleep hdue hop hlow hsleep (hs.resolve_left (by simp [hsleep])) hfree), State.thr_setThr_self .., harmed rfl,
        (((Only.retried n.isLt (by simp)).armed (by simp) (by simp)).bump (by simp)).setThr _ n.isLt (by simp)⟩
    · exact ⟨_, congrArg Host.Outcome.next (retryIns_full hdue hop hlow hs hfull), State.thr_setThr_self .., (Only.retried n.isLt (by simp)).setThr _ n.isLt (by simp)⟩
  case tcan => 
    intro z dt c n o u x h y htakes hop hlow hpc
    have hlow' : ∀ {s}, Began u s c n → (o.a (s.thr c n)).toNat < 65536 := fun hb => by rwa [hb.a]
    have hdid : ∀ {s t : State} {ch : Changes} (d : Nat), Began u s c n → Only ch s t → (c.val, n.val) ∉ ch.threads → Did u (t.onThr c n fun y => y.setW (iRD o.w) (wd d)) c n (y d) ch :=
      fun d hb honly hm => (hb.did_only n.isLt honly hm).setW n.isLt _ _
    have hstep : ∀ {r : Nat} {ch : Changes} {P : State → Prop}, (c.val, n.val) ∉ ch.threads →
        (∀ s, Began u s c n → ∃ t, s.cancelTimer c h = (r, t) ∧ Only ch s t ∧ ∀ w w', P ((t.setThr c n w).setThr c n w')) →
        Completes (.tcan dt c n) z fun t => InSequence u t c n o (y r) ch ∧ P t := fun {r ch P} hm hcancel =>
      isRow_tcan.done htakes hop (fun s hb => by
        obtain ⟨t, ht, honly, hP⟩ := hcancel s hb
        refine ⟨_, xTcan_eq (hlow' hb), ?_⟩
        rw [hb.a, ht]
        exact ⟨(hb.did_only n.isLt honly hm).setW n.isLt _ _, hP _⟩) (setW_ready htakes.ready _ _) (setW_quiet htakes.loads _ _) (hpc r)
    have hcounted : ∀ {s t : State} {f : Fld} {k : Nat}, Began u s c n → f.kind ∉ accountKinds → Counted s t f c 0 k → Counted u t f c 0 k := fun hb hf hcount => by
      unfold Counted at hcount ⊢
      rwa [hb.sameRegs.fget hf] at hcount
    refine ⟨fun a d b hdelay hd ha => ?_, fun hdelay htask => ?_, fun hdelay htask => ?_⟩
    · refine hstep (by simp) fun s hb => ?_
      obtain ⟨t, hcancel, htile, hcount, honly⟩ := cancelTimer_delayed (hb.delay.trans hdelay) hd ha
      have hbeat : s.beat = u.beat := congrArg (fun now => now / 8 % 2 ^ 48) hb.now
      rw [hbeat] at hcount
      exact ⟨t, hcancel, honly, fun _ _ => ⟨congrArg Tile.delay htile, (congrArg Tile.ready htile).trans hb.readyq, (congrArg Tile.c0q htile).trans hb.c0q, hcounted hb (by decide) hcount⟩⟩
    · refine hstep (by simp) fun s hb => ?_
      rw [← hb.delay] at hdelay
      rw [← hb.readyq, ← hb.c0q] at htask
      obtain ⟨t, hcancel, htile, hcount, honly⟩ := cancelTimer_ready hdelay htask
      refine ⟨t, hcancel, honly, fun _ _ => ⟨(congrArg Tile.delay htile).trans hb.delay, (congrArg Tile.ready htile).trans ?_, (congrArg Tile.c0q htile).trans ?_, hcounted hb (by decide) hcount⟩⟩
      · rw [hb.readyq]
      · rw [hb.c0q]
    · refine .of_exists (hstep (ch := {}) (P := fun _ => True) (by simp) fun s hb => ?_)
      rw [← hb.delay] at hdelay
      rw [← hb.readyq, ← hb.c0q] at htask
      exact ⟨s, cancelTimer_nowhere hdelay htask, Only.refl _ s, fun _ _ => trivial⟩
  case due =>
    intro z dt c d u h gone hrun hone
    have hdue : u.timerDue c = u.ring c d := timerDue_one hrun hone
    refine ⟨fun f cls pri act hw => ⟨fun hroom => ?_, fun hfull => ?_⟩, fun n hn => ?_⟩
    · rw [ring_firing hw, hroom] at hdue
      exact ⟨_, congrArg Host.Outcome.next hdue, rung_task (State.tile_setTile_self ..) rfl, ((Only.refl _ u).onTile _ (by simp)).enterReady (by simp) (by simp)⟩
    · rw [ring_firing hw, hfull] at hdue
      exact ⟨_, congrArg Host.Outcome.next hdue, Only.refl _ u⟩
    · intro x
      refine ⟨fun hw hroom => ?_, fun hw hst hroom => ?_, fun hw hfull => ?_⟩
      · rw [ring_event hw, hroom] at hdue
        exact ⟨_, congrArg Host.Outcome.next hdue, rung_task (State.tile_setTile_self ..) rfl, ((Only.refl _ u).onTile _ (by simp)).enterReady (by simp) (by simp)⟩
      · rw [ring_sleep hw hst, hroom] at hdue
        exact ⟨_, congrArg Host.Outcome.next hdue, rung_task (State.tile_setTile_self ..) rfl, (enterReady_thr ..).trans (State.thr_setThr_self ..),
          (((Only.refl _ u).onTile _ (by simp)).setThr _ hn (by simp)).enterReady (by simp) (by simp)⟩
      · rw [ring_full hw hfull] at hdue
        exact ⟨_, congrArg Host.Outcome.next hdue, Only.refl _ u⟩

end Sys2Proof.Machine

/-! What the effect of a node on its tile's helpers leaves (09 R234 to R242): the clock and the decode tables, on which the dispatch of the firing depends. -/
namespace Sys2Proof.Machine

/-! ### The clock and the decode tables -/

/-- The clock, the decode tables and the choice between them are the same in two states. -/
structure Paced (u s : State) : Prop where
  now : s.now = u.now
  tableA : s.dtabA = u.dtabA
  tableB : s.dtabB = u.dtabB
  bank : ∀ a i, s.reg .DTSTAT a i = u.reg .DTSTAT a i

section
variable {u s : State}

theorem Paced.refl (u : State) : Paced u u := ⟨rfl, rfl, rfl, fun _ _ => rfl⟩

theorem Paced.fireOcc (h : Paced u s) (f : Firing) : s.fireOcc f = u.fireOcc f := by
  have hbank : s.fget F.DTSTAT_BANK 0 0 = u.fget F.DTSTAT_BANK 0 0 := congrArg (wbits · _ _) (h.bank 0 0)
  unfold State.fireOcc State.dtActive
  rw [hbank, h.tableA, h.tableB]

theorem Paced.setReg (h : Paced u s) {k : RegKind} (hk : k ≠ .DTSTAT) (a i : Nat) (v : Word) : Paced u (s.setReg k a i v) :=
  ⟨h.now, h.tableA, h.tableB, fun a' i' => (State.reg_setReg_ne _ _ fun e => hk (Prod.mk.inj e).1.symm).trans (h.bank a' i')⟩

theorem Paced.fset (h : Paced u s) {f : Fld} (hk : f.kind ≠ .DTSTAT) (a i v : Nat) : Paced u (s.fset f a i v) := h.setReg hk ..

theorem Paced.inc (h : Paced u s) {f : Fld} (hk : f.kind ≠ .DTSTAT) (a i : Nat) : Paced u (s.inc f a i) := h.setReg hk ..

theorem Paced.raiseTile (h : Paced u s) (t k : Nat) : Paced u (s.raiseTile t k) := h.setReg (by decide) ..

theorem Paced.ite {p : Prop} [Decidable p] {a b : State} (ha : Paced u a) (hb : Paced u b) : Paced u (if p then a else b) := by
  split
  · exact ha
  · exact hb

theorem Paced.foldl {α : Type} {g : State → α → State} (hg : ∀ s x, Paced u s → Paced u (g s x)) (l : List α) (h : Paced u s) : Paced u (l.foldl g s) := by
  induction l generalizing s with
  | nil => exact h
  | cons x l ih => exact ih (hg s x h)

theorem Paced.onTile (h : Paced u s) (t : Nat) (g : Tile → Tile) : Paced u (s.onTile t g) := ⟨h.now, h.tableA, h.tableB, h.bank⟩

theorem Paced.rush (h : Paced u s) (b : Option Borrow) : Paced u { s with drRush := b } := ⟨h.now, h.tableA, h.tableB, h.bank⟩

theorem Paced.noteWrite (h : Paced u s) (a : Nat) : Paced u (s.noteWrite a) := by
  unfold State.noteWrite
  refine .ite ?_ ?_
  · dsimp only
    split
    · split
      · exact (h.onTile ..).fset (f := F.RUSHSTAT_WRITTEN) (by decide) ..
      · exact h
    · exact h
  · split
    · split
      · exact (h.rush _).fset (f := F.RDSTAT_WRITTEN) (by decide) ..
      · exact h
    · exact h

theorem Paced.put (h : Paced u s) (a n v : Nat) : Paced u (s.put a n v) := by
  have hstored : Paced u ((s.store a n v).clearEcc a n) := ⟨h.now, h.tableA, h.tableB, h.bank⟩
  exact .foldl (fun _ _ h => h.noteWrite _) _ (hstored.noteWrite _)

/-! ### The fail accumulator and the fail log -/

theorem Paced.camFree (h : Paced u s) (t k : Nat) : Paced u (s.camFree t k) := .foldl (fun _ _ h => .ite (h.setReg (by decide) ..) h) _ h

theorem Paced.camAdd (h : Paced u s) (t k kind i limit : Nat) : Paced u (s.camAdd t k kind i limit) := by
  have hmust : ∀ {s}, Paced u s → Paced u (if kind = 0 then s.inc F.RBCFG_MR 0 k else s.inc F.RBCFG_MC 0 k) := fun h => .ite (h.inc (by decide) ..) (h.inc (by decide) ..)
  unfold State.camAdd
  split
  · exact .ite (hmust (h.fset (by decide) ..)) (h.fset (by decide) ..)
  · split
    · exact h.fset (by decide) ..
    · exact .ite (hmust (h.setReg (by decide) ..)) (h.setReg (by decide) ..)

theorem Paced.rbAcc (h : Paced u s) (t k : Nat) (a : Word) : Paced u (s.rbAcc t k a).2 := by
  unfold State.rbAcc
  split
  · dsimp only
    exact (h.camAdd t k 0 (wbits a 32 32) (s.fget F.RBCFG_SC 0 k)).camAdd t k 1 (wbits a 0 32) (s.fget F.RBCFG_SR 0 k)
  · exact h

theorem Paced.rbClose (h : Paced u s) (t k : Nat) : Paced u (s.rbClose t k).2 := by
  unfold State.rbClose
  dsimp only
  split
  · split
    · exact (h.fset (f := F.RBST_STATE) (by decide) 0 k 5).camFree t k
    · exact (h.fset (f := F.RBST_STATE) (by decide) 0 k 2).fset (f := F.RBST_DUE) (by decide) 0 k (s.count + 2)
  · exact h

theorem Paced.rbDone (h : Paced u s) (t k : Nat) (a : Word) : Paced u (s.rbDone t k a).2 := by
  unfold State.rbDone
  split
  · dsimp only
    exact (h.fset (f := F.RBST_STATE) (by decide) 0 k (wbits a 0 4)).camFree t k
  · exact h

theorem Paced.facc (h : Paced u s) (t op : Nat) (a b : Word) : Paced u (s.facc t op a b).2 := by
  unfold State.facc
  dsimp only
  split
  · exact h.rbAcc ..
  · exact h.rbClose ..
  · exact h
  · exact h.rbDone ..

theorem Paced.flog (h : Paced u s) (t kind : Nat) (a b c : Word) : Paced u (s.flog t kind a b c).2 := by
  have hwritten := fun at_ v tl => (h.put at_ 32 v).fset (f := F.FLPTR_TAIL) (by decide) t 0 tl
  unfold State.flog
  split
  · exact h
  · dsimp only
    split
    · exact (h.inc (by decide) ..).raiseTile ..
    · split
      · exact ((hwritten ..).fset (by decide) ..).raiseTile ..
      · exact hwritten ..

end

/-! ### The results of nodes -/

section
variable {u v : State} {d cls : Nat} {f : Firing} {r : NRes}

/-- A test helper other than FACC and FLOG leaves the state, and so does one that faults; FACC and FLOG emit to nodes. -/
theorem nodeTest_state (u : State) (d : Nat) (f : Firing) : (nodeTest u d f).2 = u ∨ ((∃ w aux l, (nodeTest u d f).1 = .toks w aux l) ∧ Paced u (nodeTest u d f).2) := by
  unfold nodeTest
  dsimp only
  split
  · exact .inl rfl
  · exact .inl rfl
  · split
    · exact .inl rfl
    · split
      · exact .inl rfl
      · exact .inr ⟨⟨_, _, _, rfl⟩, (Paced.refl u).facc ..⟩
  · split
    · exact .inl rfl
    · exact .inr ⟨⟨_, _, _, rfl⟩, (Paced.refl u).flog ..⟩
  · exact .inl rfl

theorem nodeRes_state (u : State) (d cls : Nat) (f : Firing) : (u.nodeRes d cls f).2 = u ∨ ((∃ w aux l, (u.nodeRes d cls f).1 = .toks w aux l) ∧ Paced u (u.nodeRes d cls f).2) := by
  unfold State.nodeRes
  dsimp only
  split
  · exact .inl rfl
  split
  · exact .inl rfl
  split
  · exact .inl rfl
  split
  · exact .inl rfl
  split
  · exact .inl rfl
  split
  · exact .inl rfl
  split
  · exact .inl rfl
  split
  · exact .inl rfl
  split
  · exact nodeTest_state u d f
  · exact .inl rfl

/-- The effect of a node leaves the clock and the decode tables. -/
theorem nodeRes_paced (h : u.nodeRes d cls f = (r, v)) : Paced u v := by
  rcases nodeRes_state u d cls f with hsame | ⟨-, hpaced⟩
  · rw [h] at hsame
    exact hsame ▸ Paced.refl u
  · rwa [h] at hpaced

/-- A node whose result is no tokens to nodes has no effect of its own. -/
theorem nodeRes_same (h : u.nodeRes d cls f = (r, v)) (hr : ∀ w aux l, r ≠ .toks w aux l) : v = u := by
  rcases nodeRes_state u d cls f with hsame | ⟨⟨w, aux, l, htoks⟩, -⟩
  · rwa [h] at hsame
  · rw [h] at htoks
    exact absurd htoks (hr w aux l)

end

end Sys2Proof.Machine

/-! The tokens that a fire unit sends to nodes (02 R28, R35; 06 R136; 11 R275): those for the own tile, and those that leave over the mesh. -/
namespace Sys2Proof.Machine

/-! ### What a token finds on its way -/

section
variable {u s : State}

theorem SameRegs.routerOf (h : SameRegs u s) (t : Nat) : s.routerOf t = u.routerOf t := by
  unfold State.routerOf State.physOf
  rw [h.fget (by decide)]

theorem SameRegs.devnum (h : SameRegs u s) : s.devnum = u.devnum := h.fget (by decide) 0 0

theorem SameRegs.siteOf (h : SameRegs u s) (d : TokTo) : s.siteOf d = u.siteOf d := by
  have hslice : ∀ l, s.laneSlice l = u.laneSlice l := laneSlice_of fun a i => h .LANECFG (by decide) a i
  cases d <;> simp only [State.siteOf, State.sliceSite, h.routerOf, hslice]

theorem routeTok_node {r e : Nat} {k : Token} (hdev : k.dev = 0xFFFF) : s.routeTok r (.node e) k = .node e := if_pos (.inl hdev)

end

/-! ### The tokens of a firing (06 R136) -/

section
variable {s : State} {f : Firing} {cls : Nat} {ord : Option (Nat × Nat)} {w aux : Word} {p : Nat × Nat × Nat}

theorem out_dev : (f.out cls ord w aux p).dev = 0xFFFF := by
  unfold Firing.out Token.dev mkDst wd wbits bits
  rw [BitVec.toNat_ofNat]
  omega

theorem out_cls (h : cls < 4) : (f.out cls ord w aux p).cls = cls := by
  unfold Firing.out Token.cls mkTag wd wbits bits
  rw [BitVec.toNat_ofNat]
  omega

/-- A firing that closes no context emits in its own context and iteration. -/
theorem outTok_eq (h : nMatch f.word ≠ 6) : s.outTok f cls p ord w aux = f.out cls ord w aux p := by
  unfold State.outTok State.outCtx
  rw [if_neg h]
  rfl

theorem freeDone_eq (h : nMatch f.word ≠ 6) (d : Nat) : s.freeDone d f = s := if_pos h

end

/-! ### One token -/

/-- The flit of a token that leaves tile d for tile e. -/
def State.flit (s : State) (d e : Nat) (k : Token) (stamp : Nat) : Packet :=
  { mkPacket 0 (k.cls + 1) (s.routerOf e) false (s.routerOf d) false 1 (.tok k (.node e) d) with arr := s.now, stamp := stamp }

section
variable {s : State} {d e n : Nat} {k : Token}

theorem unitSend_here (hdev : k.dev = 0xFFFF) : s.unitSend d n (.node d) k = s.bump.stageLocal d k := by
  have hroute := routeTok_node (s := s) (r := s.routerOf d) (e := d) hdev
  have hsent : s.sendTok (some d) (s.routerOf d) false (.node d) k = .sent (s.bump.stageLocal d k) := by
    rw [sendTok_own (by rw [hroute]; nofun) (by rw [hroute]; rfl) rfl, hroute]
    rfl
  unfold State.unitSend
  dsimp only
  rw [hsent]

theorem unitSend_away (hdev : k.dev = 0xFFFF) (hret : s.retq (s.routerOf d) false = []) (hfence : s.fencedAt (s.routerOf d) (s.routerOf e) false = false)
    (hother : s.routerOf e ≠ s.routerOf d) (hroom : s.bufUsed (s.tokBuf d k.cls) + 1 ≤ bufCap (k.cls + 1)) :
    s.unitSend d n (.node e) k = s.bump.setBuf (s.tokBuf d k.cls) (s.buf (s.tokBuf d k.cls) ++ [s.flit d e k (s.seqNo + 1)]) := by
  have hroute := routeTok_node (s := s) (r := s.routerOf d) (e := e) hdev
  have hsent : s.sendTok (some d) (s.routerOf d) false (.node e) k = .sent (s.bump.setBuf (s.tokBuf d k.cls) (s.buf (s.tokBuf d k.cls) ++ [s.flit d e k (s.seqNo + 1)])) := by
    rw [sendTok_away (by rw [hroute]; nofun) (by rw [hroute]; exact fun h => hother (Prod.mk.inj h.1).1), hroute]
    exact inject_free ⟨hret, hfence, rfl, .inl hroom⟩
  unfold State.unitSend
  dsimp only
  rw [hsent]

end

/-! ### A list of tokens -/

/-- The tokens of a list with their destinations are sent in order. -/
def State.sendAll (s : State) (d n : Nat) (l : List ((Nat × Nat × Nat) × Token)) : State := l.foldl (fun s e => s.unitSend d n (.node e.1.1) e.2) s

theorem sendToks_eq {f : Firing} (h : nMatch f.word ≠ 6) (s : State) (d n cls : Nat) (ord : Option (Nat × Nat)) (w aux : Word) (l : List (Nat × Nat × Nat)) :
    s.sendToks d n f cls ord w aux l = s.sendAll d n (l.map fun p => (p, f.out cls ord w aux p)) := by
  unfold State.sendToks State.sendAll
  rw [List.foldl_map]
  simp only [outTok_eq h]

/-- The tokens of a list are of a class, and name no other device. -/
def Plain (cls : Nat) (l : List ((Nat × Nat × Nat) × Token)) : Prop := ∀ e ∈ l, e.2.cls = cls ∧ e.2.dev = 0xFFFF

theorem plain_out {f : Firing} {cls : Nat} (h : cls < 4) (ord : Option (Nat × Nat)) (w aux : Word) (l : List (Nat × Nat × Nat)) : Plain cls (l.map fun p => (p, f.out cls ord w aux p)) := by
  intro e he
  obtain ⟨p, -, rfl⟩ := List.mem_map.1 he
  exact ⟨out_cls h, out_dev⟩

/-- The local emissions of a tile with more tokens of a class. -/
def Tile.inLWith (x : Tile) (cls : Nat) (l : List Token) : Tab Nat (List Staged) :=
  if l = [] then x.inL else tput x.inL cls (tget x.inL [] cls ++ l.map fun k => ⟨k, false, .none⟩)

theorem withTokens_eq (x : Tile) (cls : Nat) (l : List Token) : x.withTokens cls l = { x with inL := x.inLWith cls l } := by
  unfold Tile.withTokens Tile.inLWith
  split <;> rfl

theorem withTokens_one (x : Tile) (cls : Nat) (k : Token) : x.withTokens cls [k] = { x with inL := tput x.inL cls (tget x.inL [] cls ++ [⟨k, false, .none⟩]) } := if_neg nofun

theorem withTokens_cons (x : Tile) (cls : Nat) (k : Token) (l : List Token) : (x.withTokens cls [k]).withTokens cls l = x.withTokens cls (k :: l) := by
  cases l with
  | nil => rfl
  | cons k' l =>
    rw [withTokens_one, withTokens_eq, withTokens_eq]
    unfold Tile.inLWith
    rw [if_neg nofun, if_neg nofun]
    simp

theorem staying_cons_here {d : Nat} {e : (Nat × Nat × Nat) × Token} (h : e.1.1 = d) (l : List ((Nat × Nat × Nat) × Token)) : staying d (e :: l) = e.2 :: staying d l := by
  simp [staying, h]

theorem staying_cons_away {d : Nat} {e : (Nat × Nat × Nat) × Token} (h : e.1.1 ≠ d) (l : List ((Nat × Nat × Nat) × Token)) : staying d (e :: l) = staying d l := by
  simp [staying, h]

section
variable {u s t : State} {d n cls : Nat} {l : List ((Nat × Nat × Nat) × Token)} {e : (Nat × Nat × Nat) × Token}

/-- The flits that leave depend on the routers, the clock and the stamps. -/
theorem leaving_of (hrouter : ∀ t, s.routerOf t = u.routerOf t) (hnow : s.now = u.now) (hstamp : s.seqNo = u.seqNo) : s.leaving d cls l = u.leaving d cls l := by
  unfold State.leaving
  rw [hnow, hstamp]
  simp only [hrouter]

/-- The first token of a list takes the first stamp. -/
theorem leaving_cons (hcls : e.2.cls = cls) : s.leaving d cls (e :: l) = (if e.1.1 = d then [] else [s.flit d e.1.1 e.2 (s.seqNo + 1)]) ++ s.bump.leaving d cls l := by
  have hrest : ∀ j, s.seqNo + 1 + (j + 1) = s.bump.seqNo + 1 + j := fun j => by
    change _ = s.seqNo + 1 + 1 + j
    omega
  have hrouter : ∀ t, s.bump.routerOf t = s.routerOf t := fun _ => rfl
  unfold State.leaving
  rw [List.zipIdx_cons, List.zipIdx_succ]
  by_cases he : e.1.1 = d
  · simp [he, hrest, hrouter, List.filter_map, List.flatMap_map, Function.comp_def]
  · simp [he, hrest, hrouter, List.filter_map, List.flatMap_map, Function.comp_def, State.flit, hcls, Packet.flits, mkPacket]

theorem Left.trans {l' : List ((Nat × Nat × Nat) × Token)} {m : List ((Nat × Nat × Nat) × Token)} (h : Left u s d cls l) (g : Left s t d cls l') (hbuf : s.tokBuf d cls = u.tokBuf d cls)
    (hm : u.leaving d cls m = u.leaving d cls l ++ s.leaving d cls l') : Left u t d cls m := by
  obtain ⟨hmesh, hbufs⟩ := h
  obtain ⟨hmesh', hbufs'⟩ := g
  refine ⟨?_, fun b => ?_⟩
  · rw [← hmesh, ← hmesh']
  · rw [hbufs', hbufs, hbuf, hm]
    split <;> simp

/-- The tokens of a list have been sent from tile d, those for the tile itself and those for others; each has taken a stamp. -/
structure Emitted (s t : State) (d cls : Nat) (l : List ((Nat × Nat × Nat) × Token)) : Prop where
  tile : t.tile d = (s.tile d).withTokens cls (staying d l)
  left : Left s t d cls l
  only : Only { tiles := [d], parts := [.stamp, .mesh] } s t
  stamp : t.seqNo = s.seqNo + l.length

theorem emitted_nil : Emitted s s d cls [] := ⟨rfl, ⟨rfl, fun b => by simp [State.leaving]⟩, Only.refl _ s, rfl⟩

/-- A token for the own tile is sent. -/
theorem emitted_here (hdev : e.2.dev = 0xFFFF) (hcls : e.2.cls = cls) (he : e.1.1 = d) : Emitted s (s.unitSend d n (.node e.1.1) e.2) d cls [e] := by
  subst he hcls
  rw [unitSend_here hdev]
  refine ⟨?tile, ⟨rfl, fun b => ?left⟩, ((Only.refl _ s).bump (by simp)).onTile _ (by simp), rfl⟩
  case tile =>
    rw [staying_cons_here rfl, staying, List.filter_nil, List.map_nil, withTokens_one]
    exact State.tile_setTile_self ..
  case left =>
    rw [leaving_cons rfl, if_pos rfl]
    simp [State.leaving]
    rfl

/-- A token for another tile is sent. -/
theorem emitted_away (hdev : e.2.dev = 0xFFFF) (hcls : e.2.cls = cls) (he : e.1.1 ≠ d) (hmay : s.mayLeave d cls (e :: l)) : Emitted s (s.unitSend d n (.node e.1.1) e.2) d cls [e] := by
  subst hcls
  have hone : s.leaving d e.2.cls [e] = [s.flit d e.1.1 e.2 (s.seqNo + 1)] := by
    rw [leaving_cons rfl, if_neg he]
    simp [State.leaving]
  have hroom := hmay.room
  rw [leaving_cons rfl, if_neg he, List.length_append, List.length_singleton] at hroom
  rw [unitSend_away hdev hmay.ret (hmay.fence e List.mem_cons_self) (hmay.other e List.mem_cons_self he) (by omega)]
  refine ⟨?tile, ⟨rfl, fun b => ?left⟩, ((Only.refl _ s).bump (by simp)).setBuf _ _ (by simp), rfl⟩
  case tile =>
    rw [staying_cons_away he]
    rfl
  case left =>
    rw [hone]
    split
    case isTrue hb =>
      rw [hb]
      exact tget_tput_self ..
    case isFalse hb => exact tget_tput_ne _ _ _ hb

/-- The rest of a list may leave after its first token, with the stamps that follow. -/
theorem mayLeave_tail (hmay : s.mayLeave d cls (e :: l)) (hcls : e.2.cls = cls) (h : Emitted s t d cls [e]) :
    t.mayLeave d cls l ∧ t.tokBuf d cls = s.tokBuf d cls ∧ s.leaving d cls (e :: l) = s.leaving d cls [e] ++ t.leaving d cls l := by
  have hrouter : ∀ a, t.routerOf a = s.routerOf a := routerOf_of fun k a i => h.only.regs k a i (by simp)
  have hbuf : t.tokBuf d cls = s.tokBuf d cls := by
    unfold State.tokBuf
    rw [hrouter]
  have hnow : t.now = s.bump.now := h.only.parts .clock (by simp)
  have hleaving : s.leaving d cls (e :: l) = s.leaving d cls [e] ++ t.leaving d cls l := by
    rw [leaving_cons hcls, leaving_cons hcls, leaving_of (u := s.bump) hrouter hnow h.stamp]
    simp [State.leaving]
  obtain ⟨hmesh, hbufs⟩ := h.left
  have hret : t.mesh.ret = s.mesh.ret := by
    have hsame := congrArg Mesh.ret hmesh
    exact hsame
  have hfenced : t.mesh.fenced = s.mesh.fenced := by
    have hsame := congrArg Mesh.fenced hmesh
    exact hsame
  refine ⟨⟨?ret, fun f hf => ?fence, fun f hf hne => ?other, ?room⟩, hbuf, hleaving⟩
  case ret =>
    rw [hrouter, State.retq, hret]
    exact hmay.ret
  case fence =>
    rw [hrouter, hrouter, State.fencedAt, hfenced]
    exact hmay.fence f (List.mem_cons_of_mem _ hf)
  case other =>
    rw [hrouter, hrouter]
    exact hmay.other f (List.mem_cons_of_mem _ hf) hne
  case room =>
    have hroom := hmay.room
    rw [hleaving, List.length_append] at hroom
    rw [hbuf, State.bufUsed, hbufs, if_pos rfl, List.length_append]
    unfold State.bufUsed at hroom
    omega

/-- Tokens that may leave are sent, in the order of their list. -/
theorem emitted_all (hplain : Plain cls l) (hmay : s.mayLeave d cls l) : Emitted s (s.sendAll d n l) d cls l := by
  induction l generalizing s with
  | nil => exact emitted_nil
  | cons e l ih =>
    obtain ⟨hcls, hdev⟩ := hplain e List.mem_cons_self
    have hone : Emitted s (s.unitSend d n (.node e.1.1) e.2) d cls [e] := by
      by_cases he : e.1.1 = d
      · exact emitted_here hdev hcls he
      · exact emitted_away hdev hcls he hmay
    obtain ⟨hmay', hbuf, hleaving⟩ := mayLeave_tail hmay hcls hone
    have hrest := ih (s := s.unitSend d n (.node e.1.1) e.2) (fun e he => hplain e (List.mem_cons_of_mem _ he)) hmay'
    refine ⟨?_, hone.left.trans hrest.left hbuf hleaving, hone.only.trans hrest.only, ?_⟩
    · refine hrest.tile.trans ?_
      rw [hone.tile]
      by_cases he : e.1.1 = d
      · rw [staying_cons_here he, staying_cons_here he]
        exact withTokens_cons ..
      · rw [staying_cons_away he, staying_cons_away he]
        rfl
    · refine hrest.stamp.trans ?_
      rw [hone.stamp, List.length_singleton, List.length_cons]
      omega

end

end Sys2Proof.Machine

/-! The dispatch of firings to fire units (05 R114 to R116; 02 R28). -/
namespace Sys2Proof.Machine

/-! ### The rows of the node forms -/

/-- The row is a dispatch of the unit to tasks of which p holds. -/
def Runs (i : Nat → TileId → Fin 4 → Instr) (p : Task → Bool) : Prop := ∀ dt d n z, exec (i dt d n) z = .next ((z.advance dt).dispatchUnit d.val n.val p)

theorem nodeRow_runs : ∀ r ∈ nodeRows, Runs r.1 (isFireOp r.2 fun _ => true) := by
  simp only [nodeRows, nodeRows0, nodeRows1, nodeRows2, nodeRows3, List.cons_append, List.nil_append, List.forall_mem_cons, List.not_mem_nil, false_imp_iff, implies_true, and_true]
  and_intros <;> exact fun _ _ _ _ => rfl

/-- The operation of a FACC word. -/
def isFaccOp (op : Nat) (w : Word) : Bool := decide ((if nMode w < 2 then iAM w else nMod w) % 4 = op)

theorem faccRow_runs : ∀ r ∈ faccRows, Runs r.1 (isFireOp 0xD2 (isFaccOp r.2)) := by
  simp only [faccRows, List.forall_mem_cons, List.not_mem_nil, false_imp_iff, implies_true, and_true]
  and_intros <;> exact fun _ _ _ _ => rfl

/-- The row of a node word dispatches its firing. -/
theorem RowOf.runs {i : Nat → TileId → Fin 4 → Instr} {k : Task} {f : Firing} (h : RowOf i f.word) (hk : k.kind = .fire f) : ∃ p, p k = true ∧ Runs i p := by
  rcases h with hrow | ⟨hop, hmode, hrow⟩ | ⟨rfl, hlow, hhigh⟩
  · exact ⟨_, by simp [isFireOp, hk], nodeRow_runs _ hrow⟩
  · exact ⟨_, by simp [isFireOp, hk, hop, isFaccOp, hmode.not_gt], faccRow_runs _ hrow⟩
  · refine ⟨_, ?_, fun _ _ _ _ => rfl⟩
    rw [hk]
    simp [hlow, hhigh]

/-! ### From the task to its firing -/

/-- The state in which a task has left the ready list for its unit. -/
def State.unitTaken (v : State) (d n occ : Nat) (k : Task) (ctx : Nat) (ch : Charge) : State := (v.dropTask d k).takeUnit d n occ ctx k.act ch

section
variable {u v t : State} {d n : Nat} {k : Task} {f : Firing} {r : NRes}

/-- The first task of the order is the one that its unit takes. -/
theorem dispatchUnit_first {p : Task → Bool} (hd : d < 64) (hactive : u.active d = true) (hkept : (u.tile d).unitOut = [])
    (hnoted : (u.tile d).allocHeld = ((u.tile d).c0q ++ (u.tile d).ready).any u.creditHeld) (hfirst : (u.taskOrder d).head? = some k) (hp : p k = true) (htry : u.tryUnit d n k = (true, t)) :
    u.dispatchUnit d n p = t.noteAlloc d := by
  obtain ⟨rest, horder⟩ := List.head?_eq_some_iff.1 hfirst
  have hnote : u.noteAlloc d = u := if_pos hnoted
  unfold State.dispatchUnit
  dsimp only
  rw [if_pos ⟨hactive, hd⟩, hkept, List.isEmpty_nil, if_pos rfl, hnote, horder]
  unfold State.unitFrom
  rw [htry]
  dsimp only
  rw [if_pos hp]

/-- A firing that its unit is open for and the Cox passes starts, and its result takes effect from the state in which its unit is taken. -/
theorem tryUnit_fire (hfire : k.kind = .fire f) (hplain : nMatch f.word ≠ 5) (hresult : u.nodeRes d k.cls f = (r, v)) (hroom : u.unitOpen d n (u.fireOcc f) = true)
    (hcox : u.verdict d k.act (u.fireCharge d f r) = .ok) (hrun : (v.unitTaken d n (u.fireOcc f) k f.ctx (u.fireCharge d f r)).runFire d n k.cls k.pri k.act f r = some t) :
    u.tryUnit d n k = (true, t) := by
  unfold State.unitTaken at hrun
  unfold State.tryUnit State.tryFire
  rw [hfire]
  dsimp only
  rw [hresult]
  dsimp only
  rw [hroom, hcox]
  cases r with
  | fault c =>
    have hsame : v = u := nodeRes_same hresult nofun
    subst hsame
    simp [hrun]
  | _ => simp [hplain, hrun]

theorem Fires.unit (h : Fires u v d n k f r) {p : Task → Bool} (hp : p k = true)
    (hrun : (v.unitTaken d n (u.fireOcc f) k f.ctx (u.fireCharge d f r)).runFire d n k.cls k.pri k.act f r = some t) : u.dispatchUnit d n p = t.noteAlloc d :=
  dispatchUnit_first h.tile h.active h.kept h.noted h.first hp (tryUnit_fire h.fire h.plain.1 h.result h.room h.cox hrun)

/-! ### The unit is taken -/

/-- The tile whose task k has left the ready list for unit n, which is free again at a cycle. -/
def Tile.fired (x : Tile) (k : Task) (n free : Nat) (cached : List CEnt) (held : Bool) : Tile :=
  { x with ready := x.ready.filter (fun j => j.stamp ≠ k.stamp), c0q := x.c0q.filter (fun j => j.stamp ≠ k.stamp), unitFree := tput x.unitFree n free, cache := cached, allocHeld := held }

theorem markDisp_tile (s : State) (d c : Nat) : ∃ cached, (s.markDisp d c).tile d = { s.tile d with cache := cached } := by
  unfold State.markDisp
  split
  · exact ⟨_, State.tile_setTile_self ..⟩
  · exact ⟨_, rfl⟩

theorem markDisp_reg (s : State) (d c : Nat) (kind : RegKind) (a i : Nat) : (s.markDisp d c).reg kind a i = s.reg kind a i := by
  unfold State.markDisp
  split <;> rfl

theorem charge_reg {s : State} {c a : Nat} (ch : Charge) {kind : RegKind} (h0 : kind ≠ .ACTREM0) (h1 : kind ≠ .ACTREM1) (b i : Nat) : (s.charge c a ch).reg kind b i = s.reg kind b i := by
  unfold State.charge
  split
  · rfl
  · rw [State.reg_setReg_ne _ _ fun e => h1 (Prod.mk.inj e).1, State.reg_setReg_ne _ _ fun e => h0 (Prod.mk.inj e).1]

/-- What the taking of a unit does. -/
structure Fired (v s : State) (d n : Nat) (k : Task) (occ : Nat) : Prop where
  tile : ∃ cached, s.tile d = (v.tile d).fired k n (v.now + occ) cached (v.tile d).allocHeld
  count : Counted v s F.DISPATCHED_COUNT d 0 1
  only : Only { regs := [(.ACTREM0, d, k.act), (.ACTREM1, d, k.act), (.DISPATCHED, d, 0)], tiles := [d] } v s

theorem fired_unitTaken (v : State) (d n occ : Nat) (k : Task) (ctx : Nat) (ch : Charge) : Fired v (v.unitTaken d n occ k ctx ch) d n k occ where
  tile := by
    unfold State.unitTaken State.takeUnit
    obtain ⟨cached, htile⟩ := markDisp_tile ((((v.dropTask d k).onTile d fun x => { x with unitFree := tput x.unitFree n ((v.dropTask d k).now + occ) }).charge d k.act ch).inc F.DISPATCHED_COUNT d 0) d ctx
    refine ⟨cached, htile.trans ?_⟩
    rw [State.inc, State.finc, State.tile_fset, charge_tile, State.onTile, State.tile_setTile_self, State.dropTask, State.onTile, State.tile_setTile_self]
    rfl
  count := by
    unfold State.unitTaken State.takeUnit
    dsimp only
    refine (congrArg (wbits · _ _) (markDisp_reg ..)).trans ((fget_inc _ F.DISPATCHED_COUNT d 0 (by decide)).trans ?_)
    exact congrArg (fun w => min _ (wbits w _ _ + 1)) (charge_reg ch (by decide) (by decide) d 0)
  only := by
    unfold State.unitTaken State.takeUnit
    dsimp only
    refine markDisp_only ((charge_only ?_ _ _ _ (by simp) (by simp)).inc (by simp [F.DISPATCHED_COUNT])) _ _ (by simp)
    exact ((Only.refl _ v).onTile _ (by simp)).onTile _ (by simp)

end

/-! ### The marks at the end of a dispatch -/

theorem noteAlloc_tile (s : State) (d : Nat) : ∃ held, (s.noteAlloc d).tile d = { s.tile d with allocHeld := held } := by
  unfold State.noteAlloc
  dsimp only
  split
  · exact ⟨_, rfl⟩
  · exact ⟨_, State.tile_setTile_self ..⟩

theorem Only.noteAlloc {ch : Changes} {u s : State} {d : Nat} (h : Only ch u s) (m : d ∈ ch.tiles) : Only ch u (s.noteAlloc d) := by
  unfold State.noteAlloc
  dsimp only
  split
  · exact h
  · exact h.onTile _ m

theorem noteAlloc_mesh (s : State) (d : Nat) : (s.noteAlloc d).mesh = s.mesh := by
  unfold State.noteAlloc
  dsimp only
  split <;> rfl

section
variable {u v s t : State} {d n : Nat} {k : Task} {f : Firing} {r : NRes}

theorem Fired.sameRegs {occ : Nat} (h : Fired v s d n k occ) : SameRegs v s := fun kind hkind a i => h.only.regs kind a i fun hm => by
  simp only [List.mem_cons, Prod.mk.injEq, List.not_mem_nil, or_false] at hm
  rcases hm with ⟨rfl, -⟩ | ⟨rfl, -⟩ | ⟨rfl, -⟩ <;> exact hkind (by decide)

theorem Fired.paced {occ : Nat} (h : Fired v s d n k occ) : Paced v s := by
  obtain ⟨hA, hB⟩ := h.only.parts .decode (by simp)
  exact ⟨h.only.parts .clock (by simp), hA, hB, fun a i => h.sameRegs .DTSTAT (by decide) a i⟩

/-- The tasks and the units of a tile are the same. -/
def SameTasks (x y : Tile) : Prop := y.ready = x.ready ∧ y.c0q = x.c0q ∧ y.unitFree = x.unitFree

/-- A dispatch whose firing has changed what `ch` lists beside the stamps, and the tile to `y`. -/
theorem Fired.effect {ch : Changes} {y : Tile} {cached : List CEnt} {held : Bool} (h : Fired v s d n k (v.fireOcc f)) (honly : Only (({ tiles := [d], parts := [.stamp] } : Changes).and ch) s t)
    (hcount : (.DISPATCHED, d, 0) ∉ ch.regs) (htile : t.tile d = y.fired k n (v.now + v.fireOcc f) cached held) (htasks : SameTasks (v.tile d) y) :
    Dispatched v (t.noteAlloc d) d n k f y ∧ Only ((dispatchChanges d k).and ch) v (t.noteAlloc d) := by
  have hnoted : ∀ {ch}, Only ch s t → d ∈ ch.tiles → Only ch s (t.noteAlloc d) := fun h m => h.noteAlloc m
  refine ⟨⟨?tile, ?count⟩, ?only⟩
  case tile =>
    obtain ⟨held', hnote⟩ := noteAlloc_tile t d
    obtain ⟨hready, hc0q, hfree⟩ := htasks
    rw [hnote, htile, Tile.fired, hready, hc0q, hfree]
  case count =>
    have hreg : (t.noteAlloc d).reg .DISPATCHED d 0 = s.reg .DISPATCHED d 0 := (hnoted honly (by simp [Changes.and])).regs _ _ _ hcount
    exact (congrArg (wbits · _ _) hreg).trans h.count
  case only =>
    have htaken : Only (dispatchChanges d k) v s := h.only.weaken (fun _ m => m) (fun _ m => m) (fun _ m => m) (fun _ m => m) (fun _ m => m) (fun _ m => m) nofun
    exact htaken.left.trans (Only.weaken (hnoted honly (by simp [Changes.and])) (fun _ m => List.mem_append_right _ m) (fun _ m => m) (fun _ m => m) (fun _ m => m) (fun _ m => m) (fun _ m => m) (fun _ m => m))

/-- The general dispatch of a fire unit's slot offers the tasks to the unit. -/
theorem taskDispatch_unit {c : CoreId} {slot : Fin 5} {d : TileId} {n : Fin 4} (hc : c.val = d.val) (hslot : slot.val = n.val) (dt : Nat) (z : State) :
    exec (.taskDispatch dt c slot) z = .next ((z.advance dt).dispatchUnit d n fun _ => true) := by
  change execTaskDispatch dt c slot z = _
  unfold execTaskDispatch
  dsimp only
  rw [hc, hslot, if_pos n.isLt]

/-- The row of the firing, and the general dispatch of the slot, take the unit from the state that the node's own effect has left. -/
theorem Fires.runs {i : Nat → TileId → Fin 4 → Instr} {P : State → State → Prop} {z : State} {dt : Nat} {d : TileId} {n : Fin 4} (h : Fires (z.advance dt) v d n k f r) (hrow : RowOf i f.word)
    (hrun : ∀ s, Fired v s d n k (v.fireOcc f) → ∃ t, s.runFire d n k.cls k.pri k.act f r = some t ∧ P s t) :
    ∃ s t, Fired v s d n k (v.fireOcc f) ∧ P s t ∧ exec (i dt d n) z = .next (t.noteAlloc d) ∧
      ∀ c : CoreId, ∀ slot : Fin 5, c.val = d.val → slot.val = n.val → exec (.taskDispatch dt c slot) z = .next (t.noteAlloc d) := by
  have hocc : v.fireOcc f = (z.advance dt).fireOcc f := (nodeRes_paced h.result).fireOcc f
  have hfired := fired_unitTaken v d n ((z.advance dt).fireOcc f) k f.ctx ((z.advance dt).fireCharge d f r)
  rw [hocc] at hrun ⊢
  obtain ⟨t, ht, hP⟩ := hrun _ hfired
  obtain ⟨p, hp, hruns⟩ := hrow.runs h.fire
  exact ⟨_, t, hfired, hP, (hruns dt d n z).trans (congrArg Host.Outcome.next (h.unit hp ht)), fun c slot hc hslot =>
    (taskDispatch_unit hc hslot dt z).trans (congrArg Host.Outcome.next (h.unit (p := fun _ => true) rfl ht))⟩

end

end Sys2Proof.Machine

/-! Firings whose result is tokens to nodes (05 R114 to R116, R118; 02 R28). -/
namespace Sys2Proof.Machine

/-! ### States from which the same flits leave -/

/-- The routers, the clock, the order stamp and the mesh are the same in two states. -/
structure SamePort (v s : State) : Prop where
  router : ∀ t, s.routerOf t = v.routerOf t
  now : s.now = v.now
  stamp : s.seqNo = v.seqNo
  mesh : s.mesh = v.mesh

section
variable {v s t : State} {d n cls : Nat} {k : Task} {l : List ((Nat × Nat × Nat) × Token)}

theorem SamePort.leaving (h : SamePort v s) : s.leaving d cls l = v.leaving d cls l := leaving_of h.router h.now h.stamp

theorem SamePort.tokBuf (h : SamePort v s) : s.tokBuf d cls = v.tokBuf d cls := by
  unfold State.tokBuf
  rw [h.router]

theorem SamePort.mayLeave (h : SamePort v s) (g : v.mayLeave d cls l) : s.mayLeave d cls l := by
  refine ⟨?_, fun e he => ?_, fun e he hne => ?_, ?_⟩
  · rw [h.router, State.retq, h.mesh]
    exact g.ret
  · rw [h.router, h.router, State.fencedAt, h.mesh]
    exact g.fence e he
  · rw [h.router, h.router]
    exact g.other e he hne
  · rw [h.tokBuf, h.leaving, State.bufUsed, State.buf, h.mesh]
    exact g.room

theorem SamePort.left (h : SamePort v s) (g : Left s t d cls l) : Left v t d cls l := by
  obtain ⟨hmesh, hbuf⟩ := g
  rw [h.mesh] at hmesh
  refine ⟨hmesh, fun b => ?_⟩
  rw [hbuf, h.tokBuf, h.leaving, State.buf, h.mesh]
  rfl

theorem SamePort.onTile (h : SamePort v s) (g : Tile → Tile) : SamePort v (s.onTile d g) := ⟨h.router, h.now, h.stamp, h.mesh⟩

/-- The taking of a unit leaves what the mesh reads. -/
theorem Fired.samePort {occ : Nat} (h : Fired v s d n k occ) : SamePort v s :=
  ⟨h.sameRegs.routerOf, h.only.parts .clock (by simp), h.only.parts .stamp (by simp), h.only.parts .mesh (by simp)⟩

end

/-! ### The effect of a result of tokens -/

section
variable {s t : State} {d n cls pri act : Nat} {f : Firing} {w aux : Word} {l : List (Nat × Nat × Nat)}

/-- A firing that forwards no token to a chained lookup emits them all. -/
theorem runFire_toks (hplain : nMatch f.word ≠ 6) (hchain : ¬f.chains s d cls) :
    s.runFire d n cls pri act f (.toks w aux l) = some (s.sendAll d n (l.map fun p => (p, f.out cls f.inherit w aux p))) := by
  have hnone : chainTok s d cls f (.toks w aux l) = none := by
    cases l with
    | nil => rfl
    | cons p more =>
      refine if_neg fun ⟨hcls, hdst, htile, hocc⟩ => hchain ⟨hcls, hdst ▸ htile, hocc⟩
  unfold State.runFire
  dsimp only
  rw [hnone]
  dsimp only
  rw [State.sendRes, freeDone_eq hplain, sendToks_eq hplain]

/-- A firing that chains forwards its token to DST0, and emits the others. -/
theorem runFire_chain {p : Nat × Nat × Nat} {more : List (Nat × Nat × Nat)} (hplain : nMatch f.word ≠ 6) (hp : p = dst0 f.word) (hchain : f.chains s d cls) :
    s.runFire d n cls pri act f (.toks w aux (p :: more)) =
      some ((s.onTile d fun x => { x with chains := x.chains ++ [⟨n, s.now + 3, some (f.out cls f.inherit w aux p)⟩] }).sendAll d n (more.map fun p => (p, f.out cls f.inherit w aux p))) := by
  obtain ⟨hcls, htile, hocc⟩ := hchain
  have hsome : chainTok s d cls f (.toks w aux (p :: more)) = some (f.out cls f.inherit w aux p, .toks w aux more) := by
    refine (if_pos ⟨hcls, hp, hp ▸ htile, hocc⟩).trans ?_
    rw [outTok_eq hplain]
  unfold State.runFire
  dsimp only
  rw [hsome]
  dsimp only
  rw [State.sendRes, freeDone_eq hplain, sendToks_eq hplain]

end

/-! ### The dispatch -/

theorem fired_withTokens (y : Tile) (k : Task) (n free : Nat) (cached : List CEnt) (held : Bool) (cls : Nat) (l : List Token) :
    (y.fired k n free cached held).withTokens cls l = (y.withTokens cls l).fired k n free cached held := by
  rw [withTokens_eq, withTokens_eq]
  rfl

theorem sameTasks_withTokens {x y : Tile} (h : SameTasks x y) (cls : Nat) (l : List Token) : SameTasks x (y.withTokens cls l) := by
  rw [withTokens_eq]
  exact h

theorem withTokens_chains (y : Tile) (c : List Chain) (cls : Nat) (l : List Token) : { y with chains := c }.withTokens cls l = { y.withTokens cls l with chains := c } := by
  rw [withTokens_eq, withTokens_eq]
  rfl

section
variable {u v s t : State} {d n : Nat} {k : Task} {f : Firing} {l : List ((Nat × Nat × Nat) × Token)} {y : Tile}

/-- The tokens of a firing have left after its unit was taken, from a tile changed to `y`. -/
theorem Fired.emits (h : Fired v s d n k (v.fireOcc f)) {s' : State} {cached : List CEnt} {held : Bool} (hport : SamePort v s') (honly : Only { tiles := [d], parts := [.stamp, .mesh] } s s')
    (htile : s'.tile d = y.fired k n (v.now + v.fireOcc f) cached held) (htasks : SameTasks (v.tile d) y) (he : Emitted s' t d k.cls l) :
    Dispatched v (t.noteAlloc d) d n k f (y.withTokens k.cls (staying d l)) ∧ Left v (t.noteAlloc d) d k.cls l ∧ Only ((dispatchChanges d k).and { parts := [.mesh] }) v (t.noteAlloc d) := by
  have hemitted : t.tile d = (y.withTokens k.cls (staying d l)).fired k n (v.now + v.fireOcc f) cached held := by
    rw [he.tile, htile, fired_withTokens]
  obtain ⟨hdispatched, hchanges⟩ := h.effect (ch := { parts := [.mesh] }) (honly.trans he.only) nofun hemitted (sameTasks_withTokens htasks _ _)
  obtain ⟨hmesh, hbuf⟩ := hport.left he.left
  refine ⟨hdispatched, ⟨?_, fun b => ?_⟩, hchanges⟩
  · rw [noteAlloc_mesh]
    exact hmesh
  · rw [State.buf, noteAlloc_mesh]
    exact hbuf b

theorem Firing.chains_of (hs : s.fireOcc f = u.fireOcc f) {cls : Nat} : f.chains s d cls ↔ f.chains u d cls := by
  unfold Firing.chains
  rw [hs]

end

/-- Settles O23: a dispatch takes the unit, and each token of the result is one `unitSend` after it; the first of a class 0 firing may go to the chained lookup instead. -/
theorem firingsEmitTheirTokens : Obligations.FiringsEmitTheirTokens := by
  unfold Obligations.FiringsEmitTheirTokens
  intro i z v dt d n k f w aux l u hfires hrow toks
  have hplain := hfires.plain.2
  have hpaced := nodeRes_paced hfires.result
  have hchains : ∀ s, Fired v s d n k (v.fireOcc f) → (f.chains s d k.cls ↔ f.chains u d k.cls) := fun s hs =>
    Firing.chains_of ((hs.paced.fireOcc f).trans (hpaced.fireOcc f))
  refine ⟨fun hchain hmay => ?all, fun p more hl hp hchain hmay => ?forward⟩
  case all =>
    obtain ⟨s, t, hs, he, hrun, hslot⟩ := hfires.runs hrow (P := fun s t => Emitted s t d k.cls toks) fun s hs =>
      ⟨_, runFire_toks hplain (mt (hchains s hs).1 hchain), emitted_all (plain_out hfires.cls _ _ _ _) (hs.samePort.mayLeave hmay)⟩
    obtain ⟨cached, htile⟩ := hs.tile
    obtain ⟨hdispatched, hleft, honly⟩ := hs.emits hs.samePort (Only.refl _ s) htile ⟨rfl, rfl, rfl⟩ he
    exact ⟨_, hrun, hdispatched, hleft, honly, hslot⟩
  case forward =>
    subst hl
    have hcls : k.cls = 0 := hchain.1
    have hrest : toks.drop 1 = more.map fun p => (p, f.out 0 f.inherit w aux p) := by
      simp only [toks, List.map_cons, List.drop_succ_cons, List.drop_zero, hcls]
    rw [hrest] at hmay ⊢
    obtain ⟨s, t, hs, he, hrun, hslot⟩ := hfires.runs hrow
      (P := fun s t => Emitted (s.onTile d fun x => { x with chains := x.chains ++ [⟨n, s.now + 3, some (f.out 0 f.inherit w aux p)⟩] }) t d k.cls (more.map fun p => (p, f.out 0 f.inherit w aux p)))
      fun s hs => by
        refine ⟨_, runFire_chain hplain hp ((hchains s hs).2 hchain), ?_⟩
        rw [hcls]
        exact emitted_all (plain_out (cls := 0) (by decide) _ _ _ _) ((hs.samePort.onTile _).mayLeave hmay)
    obtain ⟨cached, htile⟩ := hs.tile
    have hnow : s.now = u.now := (hs.paced.now).trans hpaced.now
    have hforwarded : (s.onTile d fun x => { x with chains := x.chains ++ [⟨n, s.now + 3, some (f.out 0 f.inherit w aux p)⟩] }).tile d =
        ({ v.tile d with chains := (v.tile d).chains ++ [⟨n, u.now + 3, some (f.out 0 f.inherit w aux p)⟩] } : Tile).fired k n (v.now + v.fireOcc f) cached (v.tile d).allocHeld := by
      rw [State.onTile, State.tile_setTile_self, htile, hnow]
      rfl
    obtain ⟨hdispatched, hleft, honly⟩ := hs.emits (hs.samePort.onTile _) ((Only.refl _ s).onTile _ (by simp)) hforwarded ⟨rfl, rfl, rfl⟩ he
    rw [withTokens_chains, hcls] at hdispatched
    rw [hcls] at hleft
    exact ⟨_, hrun, hdispatched, hleft, honly⟩

end Sys2Proof.Machine

/-! Firings whose result is no tokens to nodes (05 R131; 06 R155, R159, R160; 09 R230). -/
namespace Sys2Proof.Machine

/-! ### The parts of the state that the taking of a unit leaves -/

section
variable {v s t : State} {d n : Nat} {k : Task} {occ : Nat}

theorem Fired.part (h : Fired v s d n k occ) (p : Part) : p.same v s := h.only.parts p nofun

theorem Fired.still (h : Fired v s d n k occ) (g : v.Still) : s.Still where
  banks e := by
    obtain ⟨cached, htile⟩ := h.tile
    by_cases he : e = d
    · rw [he, htile]
      exact g.banks d
    · rw [h.only.tiles e (by simp [he])]
      exact g.banks e
  dram := (h.part .rush).1.trans g.dram
  form := by
    have hmem : s.mem = v.mem := h.part .mem
    rw [hmem]
    exact g.form

theorem Fired.quietQ {e q : Nat} (h : Fired v s d n k occ) (g : v.QuietQ e q) : s.QuietQ e q where
  threads j hj := by
    rw [h.only.threads e j hj (by simp)]
    exact g.threads j hj
  marks := by
    rw [h.sameRegs.fget (by decide)]
    exact g.marks

theorem Fired.mkFault (h : Fired v s d n k occ) (tag : Word) (lane : Option Token) (code src tile addr : Nat) : s.mkFault tag lane code src tile addr = v.mkFault tag lane code src tile addr := by
  unfold State.mkFault State.faultVal State.count
  rw [h.sameRegs.devnum, h.sameRegs.fget (by decide)]

theorem Fired.region (h : Fired v s d n k occ) (own : Option Nat) (a : Nat) : s.region own a = v.region own a := by
  unfold State.region State.dsize
  rw [h.sameRegs.fget (by decide)]

theorem Fired.bankMode (h : Fired v s d n k occ) (t b : Nat) : s.bankMode t b = v.bankMode t b := by
  unfold State.bankMode
  rw [h.sameRegs.fget (by decide), h.sameRegs _ (by decide)]

theorem Fired.badWord (h : Fired v s d n k occ) (a size : Nat) : s.badWord a size = v.badWord a size := by
  have hecc : s.ecc = v.ecc := h.part .ecc
  unfold State.badWord
  rw [hecc]

theorem Fired.inReel (h : Fired v s d n k occ) (a size : Nat) : s.inReel a size = v.inReel a size := by
  have hriari : s.riari = v.riari := h.part .riari
  unfold State.inReel
  rw [hriari]

theorem Fired.inCtxTable (h : Fired v s d n k occ) (a size : Nat) : s.inCtxTable a size = v.inCtxTable a size := by
  have hbase : s.ctbaseSet = v.ctbaseSet := h.part .ctbase
  unfold State.inCtxTable
  rw [hbase, h.sameRegs.fget (by decide)]

theorem Fired.accessFault (h : Fired v s d n k occ) (who : Req) (a size : Nat) (write : Bool) : s.accessFault who a size write = v.accessFault who a size write := by
  unfold State.accessFault State.dsize
  simp only [h.region, h.bankMode, h.badWord, h.inReel, h.inCtxTable]
  rw [h.sameRegs.fget (f := F.DRSTAT_DSIZE) (by decide), h.sameRegs.fget (f := F.RDCFG_EN) (by decide), h.sameRegs.fget (f := F.RDCFG_SHBASE) (by decide)]

theorem Fired.partsOf (h : Fired v s d n k occ) (own : Option Nat) (a size : Nat) : s.partsOf own a size = v.partsOf own a size := by
  unfold State.partsOf
  rw [h.region]

end

/-! ### A token to a lane, a queue or a link -/

/-- The part of the state in which a token waits where it needs no way over the mesh. -/
def TokTo.waits : TokTo → List Part
  | .queue _ _ => [.pushes]
  | .lane _ => [.windows]
  | _ => []

theorem routeTok_unit {dest : TokTo} (h : ∀ e, dest ≠ .node e) (s : State) (r : Nat) (k : Token) : s.routeTok r dest k = dest := by
  cases dest with
  | node e => exact absurd rfl (h e)
  | _ => rfl

section
variable {v s t : State} {d n : Nat} {k : Task} {occ : Nat} {dest : TokTo} {m : Token}

/-- A fire unit's token to a lane, a queue or a link leaves at once, as `Sent` says. -/
theorem Fired.sends (h : SamePort v s) (hregs : SameRegs v s) (hwaits : s.winq = v.winq ∧ s.pushq = v.pushq) (hd : d < 64) (hunit : ∀ e, dest ≠ .node e) (hcan : v.canSend d dest m) :
    Sent v (s.unitSend d n dest m) d dest m ∧ Only { parts := .stamp :: .mesh :: dest.waits } s (s.unitSend d n dest m) := by
  obtain ⟨hwin, hpush⟩ := hwaits
  unfold State.canSend at hcan
  unfold Sent State.unitSend
  simp only [routeTok_unit hunit] at hcan ⊢
  obtain ⟨hnumber, hway⟩ := hcan
  have hnone : ∀ g, s.routeTok (s.routerOf d) dest m = .fabric g → s.devnum = 0xFFFF → m.dev = 0xFFFF := by
    rw [routeTok_unit hunit, hregs.devnum]
    exact hnumber
  have hsite : s.siteOf (s.routeTok (s.routerOf d) dest m) = v.siteOf dest := by rw [routeTok_unit hunit, hregs.siteOf]
  by_cases hown : v.siteOf dest = (v.routerOf d, false)
  case pos =>
    have hsent := sendTok_own (own := some d) hnone (by rw [hsite, hown, h.router]) rfl
    rw [routeTok_unit hunit] at hsent
    rw [hsent]
    simp only [hown, hd, and_self, if_true]
    cases dest with
    | node e => exact absurd rfl (hunit e)
    | queue e q => exact ⟨⟨by simp [State.deliverTok, State.toQueue, State.bump, hpush, h.router, h.stamp], h.mesh⟩, ((Only.refl _ s).bump (by simp)).pushq_ _ (by simp [TokTo.waits])⟩
    | lane l => exact ⟨⟨by simp [State.deliverTok, State.toWindow, State.bump, hwin], h.mesh⟩, ((Only.refl _ s).bump (by simp)).winq_ _ (by simp [TokTo.waits])⟩
    | _ => exact ⟨h.mesh, (Only.refl _ s).bump (by simp)⟩
  case neg =>
    have hsent := sendTok_away (own := some d) hnone (by rw [hsite, h.router]; exact fun hs => hown hs.1)
    have hfree := hway fun hs => hown hs.1
    rw [if_pos hd] at hfree
    have hfree' : s.freeWay (v.routerOf d) false (mkPacket 0 (m.cls + 1) (v.siteOf dest).1 (v.siteOf dest).2 (v.routerOf d) false 1 (.tok m dest d)) := by
      unfold State.freeWay State.retq State.fencedAt State.bufUsed State.buf at hfree ⊢
      rwa [h.mesh]
    rw [hsite, routeTok_unit hunit, h.router, Option.getD_some, inject_free hfree'] at hsent
    rw [h.router, hsent]
    simp only [hown, hd, false_and, if_false, if_true]
    refine ⟨⟨?_, hwin⟩, ((Only.refl _ s).bump (by simp)).setBuf _ _ (by simp)⟩
    simp only [Offered, State.setBuf, State.bump, State.buf, h.mesh, h.now, h.stamp]

/-- What has been sent to a lane, a queue or a link stays sent while the mesh and the tokens that wait are left alone. -/
theorem Sent.later (h : Sent v s d dest m) (hunit : ∀ e, dest ≠ .node e) (hmesh : t.mesh = s.mesh) (hwin : t.winq = s.winq) (hpush : t.pushq = s.pushq) : Sent v t d dest m := by
  unfold Sent Offered at h ⊢
  simp only [routeTok_unit hunit] at h ⊢
  rw [hmesh, hwin]
  cases dest with
  | node e => exact absurd rfl (hunit e)
  | queue e q =>
    simp only [hpush]
    exact h
  | _ => exact h

end

/-! ### What the parts of a result do -/

section
variable {v s t : State} {d n : Nat} {k : Task} {f : Firing} {r : NRes}

theorem noteAlloc_windows (s : State) (d : Nat) : (s.noteAlloc d).winq = s.winq := by
  unfold State.noteAlloc
  dsimp only
  split <;> rfl

theorem noteAlloc_pushes (s : State) (d : Nat) : (s.noteAlloc d).pushq = s.pushq := by
  unfold State.noteAlloc
  dsimp only
  split <;> rfl

theorem Sent.noteAlloc {dest : TokTo} {m : Token} (h : Sent v s d dest m) (hunit : ∀ e, dest ≠ .node e) : Sent v (s.noteAlloc d) d dest m :=
  h.later hunit (noteAlloc_mesh s d) (noteAlloc_windows s d) (noteAlloc_pushes s d)

theorem Reported.noteAlloc {m : Token} (h : Reported v s d m) : Reported v (s.noteAlloc d) d m := by
  unfold State.noteAlloc
  dsimp only
  split <;> exact h

/-- A unit sends a firing's one token to a lane, a queue or a link. -/
theorem Fired.sends_one {dest : TokTo} {m : Token} {ch : Changes} (h : Fired v s d n k (v.fireOcc f)) (hd : d < 64) (hunit : ∀ e, dest ≠ .node e) (hcan : v.canSend d dest m)
    (hch : ch = { parts := .mesh :: dest.waits }) :
    Dispatched v ((s.unitSend d n dest m).noteAlloc d) d n k f ∧ Sent v ((s.unitSend d n dest m).noteAlloc d) d dest m ∧ Only ((dispatchChanges d k).and ch) v ((s.unitSend d n dest m).noteAlloc d) := by
  obtain ⟨cached, htile⟩ := h.tile
  obtain ⟨hsent, honly⟩ := Fired.sends (n := n) h.samePort h.sameRegs ⟨h.part .windows, h.part .pushes⟩ hd hunit hcan
  have hsame : (s.unitSend d n dest m).tile d = (v.tile d).fired k n (v.now + v.fireOcc f) cached (v.tile d).allocHeld := (honly.tiles d nofun).trans htile
  subst hch
  obtain ⟨hdispatched, hchanges⟩ := h.effect (ch := { parts := .mesh :: dest.waits }) (honly.weaken (by simp) (by simp) (by simp) (by simp) (by simp) (by simp) (fun _ m => m)) nofun hsame ⟨rfl, rfl, rfl⟩
  exact ⟨hdispatched, hsent.noteAlloc hunit, hchanges⟩

/-- Tokens for the own tile join its local emissions. -/
theorem sendAll_local {cls : Nat} {l : List ((Nat × Nat × Nat) × Token)} (hplain : Plain cls l) (hlocal : ∀ e ∈ l, e.1.1 = d) :
    (s.sendAll d n l).tile d = (s.tile d).withTokens cls (l.map fun e => e.2) ∧ Only { tiles := [d], parts := [.stamp] } s (s.sendAll d n l) := by
  induction l generalizing s with
  | nil => exact ⟨rfl, Only.refl _ s⟩
  | cons e l ih =>
    obtain ⟨hcls, hdev⟩ := hplain e List.mem_cons_self
    have hone : s.unitSend d n (.node e.1.1) e.2 = s.bump.stageLocal d e.2 := by
      rw [hlocal e List.mem_cons_self]
      exact unitSend_here hdev
    obtain ⟨htile, honly⟩ := ih (s := s.unitSend d n (.node e.1.1) e.2) (fun e he => hplain e (List.mem_cons_of_mem _ he)) (fun e he => hlocal e (List.mem_cons_of_mem _ he))
    refine ⟨htile.trans ?_, Only.trans ?_ honly⟩
    · rw [hone, List.map_cons, ← withTokens_cons, withTokens_one, State.stageLocal, State.onTile, State.tile_setTile_self, hcls]
      rfl
    · rw [hone]
      exact ((Only.refl _ s).bump (by simp)).onTile _ (by simp)

/-- LNOUT's token leaves for its lane, from a state in which its number may have been taken; its tokens to the own tile follow. -/
theorem Fired.sends_lane {s' : State} {l : Nat} {m : Token} {ch : Changes} {more : List ((Nat × Nat × Nat) × Token)} (h : Fired v s d n k (v.fireOcc f)) (honly : Only ch s s') (hmesh : .mesh ∈ ch.parts) (hwin : .windows ∈ ch.parts)
    (hcount : (.DISPATCHED, d, 0) ∉ ch.regs) (htile : s'.tile d = s.tile d) (hport : SamePort v s') (hregs : SameRegs v s') (hwaits : s'.winq = v.winq ∧ s'.pushq = v.pushq)
    (hd : d < 64) (hcan : v.canSend d (.lane l) m) (hplain : Plain k.cls more) (hlocal : ∀ e ∈ more, e.1.1 = d) {t : State} (ht : t = ((s'.unitSend d n (.lane l) m).sendAll d n more).noteAlloc d) :
    Dispatched v t d n k f ((v.tile d).withTokens k.cls (more.map fun e => e.2)) ∧ Sent v t d (.lane l) m ∧ Only ((dispatchChanges d k).and ch) v t ∧ (∀ j, t.lane j = s'.lane j) ∧ t.ctl = s'.ctl := by
  subst ht
  obtain ⟨cached, hfired⟩ := h.tile
  obtain ⟨hsent, hlane⟩ := Fired.sends (n := n) hport hregs hwaits hd (dest := .lane l) nofun hcan
  obtain ⟨hmore, hlocals⟩ := sendAll_local (s := s'.unitSend d n (.lane l) m) (n := n) hplain hlocal
  have hafter : Only { tiles := [d], parts := [.stamp, .mesh, .windows] } s' ((s'.unitSend d n (.lane l) m).sendAll d n more) :=
    (hlane.weaken (by simp) (by simp) nofun (by simp) (by simp) (by simp) (by simp [TokTo.waits])).trans (hlocals.weaken (by simp) (by simp) (by simp) (by simp) (by simp) (by simp) (by simp))
  have heffect : Only (({ tiles := [d], parts := [.stamp] } : Changes).and ch) s ((s'.unitSend d n (.lane l) m).sendAll d n more) :=
    honly.right.trans (hafter.weaken (by simp) (by simp) (by simp [Changes.and]) (by simp) (by simp) (by simp) (by simp [Changes.and, hmesh, hwin]))
  have hemitted : ((s'.unitSend d n (.lane l) m).sendAll d n more).tile d = ((v.tile d).withTokens k.cls (more.map fun e => e.2)).fired k n (v.now + v.fireOcc f) cached (v.tile d).allocHeld := by
    rw [hmore, hlane.tiles d nofun, htile, hfired, fired_withTokens]
  obtain ⟨hdispatched, hchanges⟩ := h.effect heffect hcount hemitted (sameTasks_withTokens ⟨rfl, rfl, rfl⟩ _ _)
  have hnoted := hafter.noteAlloc (d := d) (by simp)
  exact ⟨hdispatched, (hsent.later nofun (hlocals.parts .mesh (by simp)) (hlocals.parts .windows (by simp)) (hlocals.parts .pushes (by simp))).noteAlloc nofun, hchanges,
    fun j => hnoted.lanes j nofun, hnoted.parts .ctl (by simp)⟩

/-- The emission of LNOUT: its token to the lane, with the number taken or inherited, and the rest to the own tile. -/
theorem sendRes_lane (hplain : nMatch f.word ≠ 6) {l cls : Nat} {w aux : Word} {more : List (Nat × Nat × Nat)} {alloc : Bool} :
    s.sendRes d n f cls (.lane l alloc w aux more) =
      ((if alloc then (s.laneTake l).2 else s).unitSend d n (.lane l) (f.out cls (if alloc then some (l, (s.lane l).next) else f.inherit) w aux (dst0 f.word))).sendAll d n (more.map fun p => (p, f.out cls none w aux p)) := by
  cases alloc <;> simp [State.sendRes, freeDone_eq hplain, sendToks_eq hplain, outTok_eq hplain, State.laneTake]

/-- A firing that abandons gives one fault token. -/
theorem Fired.abandons {c : Nat} (h : Fired v s d n k (v.fireOcc f)) (hstill : v.Still) (hquiet : v.QuietQ d 255) :
    Dispatched v ((s.abandon d k.cls f c).noteAlloc d) d n k f ∧
      Reported v ((s.abandon d k.cls f c).noteAlloc d) d (v.mkFault (mkTag f.ctx d f.idx f.iter 0 k.cls 0) f.ordered c 1 d (graphAddr d f.idx)) ∧
      Only ((dispatchChanges d k).and (reportChanges d)) v ((s.abandon d k.cls f c).noteAlloc d) := by
  obtain ⟨cached, htile⟩ := h.tile
  unfold State.abandon
  rw [h.mkFault]
  have hpushed : Only (reportChanges d) s (s.pushFault d (v.mkFault (mkTag f.ctx d f.idx f.iter 0 k.cls 0) f.ordered c 1 d (graphAddr d f.idx))) :=
    (Only.refl _ s).pushFault (h.still hstill) (h.quietQ hquiet) (fun _ m => m) (by simp [reportChanges]) (by simp [reportChanges])
  obtain ⟨hdispatched, hchanges⟩ := h.effect hpushed.right (by simp [reportChanges]) ((hpushed.tiles d nofun).trans htile) ⟨rfl, rfl, rfl⟩
  refine ⟨hdispatched, Reported.noteAlloc ?_, hchanges⟩
  exact (pushFault_reported (h.still hstill) (h.quietQ hquiet)).of_regs (h.part .mem) fun g hg a i => h.sameRegs g (by revert hg; revert g; decide) a i

/-- A firing's TMR arms its entry of the delay list. -/
theorem Fired.arms {b e : Nat} {w : TimerFor} (h : Fired v s d n k (v.fireOcc f)) (hfree : v.freeTimer d e) :
    s.armTimer d b w = some (handleOf e (tget (s.tile d).gens 0 e), s.armed d e b w) ∧
      Dispatched v ((s.armed d e b w).noteAlloc d) d n k f { v.tile d with
        delay := (v.tile d).delay ++ [⟨e, tget (v.tile d).gens 0 e, (v.beat + b) % 2 ^ 48, v.seqNo, w⟩]
        gens := tput (v.tile d).gens e ((tget (v.tile d).gens 0 e + 1) % 64) } ∧
      Only (dispatchChanges d k) v ((s.armed d e b w).noteAlloc d) := by
  obtain ⟨cached, htile⟩ := h.tile
  have hbeat : s.beat = v.beat := by
    unfold State.beat
    rw [h.samePort.now]
  have hfree' : s.freeTimer d e := by
    unfold State.freeTimer at hfree ⊢
    rw [htile]
    exact hfree
  have harmed : (s.armed d e b w).tile d = ({ v.tile d with
      delay := (v.tile d).delay ++ [⟨e, tget (v.tile d).gens 0 e, (v.beat + b) % 2 ^ 48, v.seqNo, w⟩]
      gens := tput (v.tile d).gens e ((tget (v.tile d).gens 0 e + 1) % 64) } : Tile).fired k n (v.now + v.fireOcc f) cached (v.tile d).allocHeld := by
    rw [State.armed, State.tile_setTile_self, htile, hbeat, h.samePort.stamp]
    rfl
  obtain ⟨hdispatched, hchanges⟩ := h.effect (ch := {}) ((Only.refl _ s).armed (by simp [Changes.and]) (by simp [Changes.and])) nofun harmed ⟨rfl, rfl, rfl⟩
  exact ⟨armTimer_free hfree', hdispatched, hchanges⟩

/-- A memory node's request, with the class and the cycle of its firing. -/
def State.fireReq (s : State) (d n cls : Nat) (op : MemOp) (a size data : Nat) : MemReq := ⟨s.seqNo, .firing d n, op, a, size, 0, data, false, cls, s.seqNo, s.now + 1⟩

/-- An access that no check refuses, of memory that needs no way over the mesh, is asked for. -/
theorem fireAccess_near {cls : Nat} {op : MemOp} {a size data : Nat} {s' : State} (hfault : s.accessFault (.firing d n) a size (op ≠ .read) = none) (hnear : s.near (some d) a = true)
    (hstart : s.bump.startReq (s.fireReq d n cls op a size data) = .sent s') :
    s.fireAccess d n cls f op a size data = some { s' with fireMem := s'.fireMem ++ [⟨s.seqNo, d, n, f, s.partsOf (some d) a size, 0, 0⟩] } := by
  unfold State.fireReq at hstart
  unfold State.near at hnear
  unfold State.fireAccess
  dsimp only
  cases hregion : s.region (some d) a <;> rw [hregion] at hnear
  case spad | dram | mailbox =>
    dsimp only
    rw [if_neg (by simp), hfault]
    dsimp only
    rw [if_pos rfl, hstart]
  all_goals cases hnear

/-- The state in which parts of a request wait, and a firing waits for them. -/
def State.asking (s : State) (banks dram mailbox : List MemReq) (e : FireMem) : State := { s.bump with bankReqs := banks, drq := dram, mbxq := mailbox, fireMem := s.fireMem ++ [e] }

/-- What a request asks for depends on its region and on the three queues. -/
theorem Asked.of {u s t : State} {m : MemReq} (h : Asked u s m) (hregion : u.region (reqTile m.who) m.addr = v.region (reqTile m.who) m.addr)
    (hbefore : u.bankReqs = v.bankReqs ∧ u.drq = v.drq ∧ u.mbxq = v.mbxq) (hafter : t.bankReqs = s.bankReqs ∧ t.drq = s.drq ∧ t.mbxq = s.mbxq) : Asked v t m := by
  obtain ⟨hb, hq, hx⟩ := hbefore
  obtain ⟨hb', hq', hx'⟩ := hafter
  unfold Asked at h ⊢
  rw [hb', hq', hx', ← hregion, ← hb, ← hq, ← hx]
  exact h

/-- A memory node's firing asks for its access, and waits for it. -/
theorem Fired.asks {op : MemOp} {a size data : Nat} (h : Fired v s d n k (v.fireOcc f)) (hfault : v.accessFault (.firing d n) a size (op ≠ .read) = none) (hnear : v.near (some d) a = true) :
    ∃ t, s.fireAccess d n k.cls f op a size data = some t ∧ Dispatched v (t.noteAlloc d) d n k f ∧ Asked v (t.noteAlloc d) (v.fireReq d n k.cls op a size data) ∧
      (t.noteAlloc d).fireMem = v.fireMem ++ [⟨v.seqNo, d, n, f, v.partsOf (some d) a size, 0, 0⟩] ∧
      Only ((dispatchChanges d k).and { parts := [.banks, .dram, .mailboxQ, .fireMem] }) v (t.noteAlloc d) := by
  obtain ⟨cached, htile⟩ := h.tile
  have hreq : s.fireReq d n k.cls op a size data = v.fireReq d n k.cls op a size data := by
    unfold State.fireReq
    rw [h.samePort.stamp, h.samePort.now]
  have hwait : s.fireMem = v.fireMem := h.part .fireMem
  have hnear' : s.near (some d) a = true := by
    unfold State.near
    rw [h.region]
    exact hnear
  obtain ⟨b, q, x, hstart, hasked⟩ := startReq_near (s := s.bump) (m := s.fireReq d n k.cls op a size data) hnear'
  have hrun := fireAccess_near (f := f) ((h.accessFault ..).trans hfault) hnear' hstart
  rw [hreq] at hasked
  refine ⟨s.asking b q x ⟨s.seqNo, d, n, f, s.partsOf (some d) a size, 0, 0⟩, hrun, ?_⟩
  generalize ht : s.asking b q x ⟨s.seqNo, d, n, f, s.partsOf (some d) a size, 0, 0⟩ = t
  have honly : Only { tiles := [d], parts := [.stamp, .banks, .dram, .mailboxQ, .fireMem] } s t := by
    rw [← ht]
    exact (((((Only.refl _ s).bump (by simp)).bankReqs_ b (by simp)).drq_ q (by simp)).mbxq_ x (by simp)).fireMem_ _ (by simp)
  have hsame : t.tile d = s.tile d := by
    rw [← ht]
    rfl
  have hfireMem : t.fireMem = v.fireMem ++ [⟨v.seqNo, d, n, f, v.partsOf (some d) a size, 0, 0⟩] := by
    rw [← ht, ← hwait, ← h.samePort.stamp, ← h.partsOf]
    rfl
  obtain ⟨hdispatched, hchanges⟩ := h.effect (ch := { parts := [.banks, .dram, .mailboxQ, .fireMem] }) honly nofun (hsame.trans htile) ⟨rfl, rfl, rfl⟩
  have hnoted := (Only.refl { tiles := [d] } t).noteAlloc (d := d) (by simp)
  have hqueues : s.bankReqs = v.bankReqs ∧ s.drq = v.drq ∧ s.mbxq = v.mbxq := ⟨h.part .banks, h.part .dram, h.part .mailboxQ⟩
  have hasks : Asked v t (v.fireReq d n k.cls op a size data) := by
    refine hasked.of (h.region (some d) a) hqueues ?_
    rw [← ht]
    exact ⟨rfl, rfl, rfl⟩
  exact ⟨hdispatched, hasks.of rfl ⟨rfl, rfl, rfl⟩ ⟨hnoted.parts .banks (by simp), hnoted.parts .dram (by simp), hnoted.parts .mailboxQ (by simp)⟩,
    (hnoted.parts .fireMem (by simp)).trans hfireMem, hchanges⟩

end

/-- Settles O24: the node itself changes nothing, so that the state in which its unit is taken is that of the task's tile, and each result has its effect from there. -/
theorem firingsWithoutTokensToNodesComplete : Obligations.FiringsWithoutTokensToNodesComplete := by
  unfold Obligations.FiringsWithoutTokensToNodesComplete
  intro i z v dt d n k f r u ch hfires hrow
  have hplain := hfires.plain.2
  have hd := hfires.tile
  refine ⟨?sink, ?fault, ?queue, ?verdict, ?lane, ?alloc, ?timer, ?mem⟩
  case sink =>
    rintro rfl
    obtain ⟨s, t, hs, rfl, hrun, -⟩ := hfires.runs hrow (P := fun s t => s = t) fun s hs => ⟨s, congrArg some (freeDone_eq hplain d), rfl⟩
    obtain ⟨cached, htile⟩ := hs.tile
    exact ⟨_, hrun, hs.effect (ch := {}) (Only.refl _ s) nofun htile ⟨rfl, rfl, rfl⟩⟩
  case fault =>
    rintro c rfl hstill hquiet
    obtain ⟨s, t, hs, rfl, hrun, -⟩ := hfires.runs hrow (P := fun s t => s.abandon d k.cls f c = t) fun s hs => ⟨_, rfl, rfl⟩
    exact ⟨_, hrun, hs.abandons hstill hquiet⟩
  case queue =>
    rintro q e w aux rfl
    intro m hcan
    obtain ⟨s, t, hs, rfl, hrun, -⟩ := hfires.runs hrow (P := fun s t => s.unitSend d n (.queue q e) m = t) fun s hs => ⟨_, by
      simp [State.runFire, chainTok, State.sendRes, freeDone_eq hplain, outTok_eq hplain, m], rfl⟩
    exact ⟨_, hrun, hs.sends_one hd nofun hcan rfl⟩
  case verdict =>
    rintro l w aux rfl
    intro m hcan
    obtain ⟨s, t, hs, rfl, hrun, -⟩ := hfires.runs hrow (P := fun s t => s.unitSend d n (.link l) m = t) fun s hs => ⟨_, by
      simp [State.runFire, chainTok, State.sendRes, freeDone_eq hplain, outTok_eq hplain, m], rfl⟩
    exact ⟨_, hrun, hs.sends_one hd nofun hcan rfl⟩
  case lane =>
    rintro l w aux more rfl hlocal
    intro m hcan
    obtain ⟨s, t, hs, ht, hrun, -⟩ := hfires.runs hrow (P := fun s t => (s.unitSend d n (.lane l) m).sendAll d n (more.map fun p => (p, f.out k.cls none w aux p)) = t)
      fun s hs => ⟨_, congrArg some (sendRes_lane hplain), rfl⟩
    obtain ⟨hdispatched, hsent, hchanges, -, -⟩ := hs.sends_lane (ch := { parts := [.mesh, .windows] }) (Only.refl _ s) (by simp) (by simp) nofun rfl hs.samePort hs.sameRegs ⟨hs.part .windows, hs.part .pushes⟩ hd hcan
      (plain_out hfires.cls _ _ _ more) (List.forall_mem_map.2 hlocal) (congrArg (State.noteAlloc · d) ht.symm)
    rw [List.map_map] at hdispatched
    exact ⟨_, hrun, hdispatched, hsent, hchanges⟩
  case alloc =>
    rintro l w aux more rfl hlocal hmay hcredit
    intro m hcan
    obtain ⟨s, t, hs, ht, hrun, -⟩ := hfires.runs hrow (P := fun s t => ((s.laneTake l).2.unitSend d n (.lane l) m).sendAll d n (more.map fun p => (p, f.out k.cls none w aux p)) = t)
      fun s hs => ⟨_, congrArg some ((sendRes_lane hplain).trans (by rw [hs.only.lanes l nofun]; rfl)), rfl⟩
    have hlane : s.lane l = v.lane l := hs.only.lanes l nofun
    have hctl : s.ctl = v.ctl := hs.part .ctl
    obtain ⟨hdispatched, hsent, hchanges, hlanes, hctls⟩ := hs.sends_lane (ch := { lanes := [l], parts := [.mesh, .windows, .ctl] }) ((Only.refl _ s).laneTake (by simp) (by simp)) (by simp) (by simp) nofun rfl
      ⟨hs.samePort.router, hs.samePort.now, hs.samePort.stamp, hs.samePort.mesh⟩ hs.sameRegs ⟨hs.part .windows, hs.part .pushes⟩ hd hcan
      (plain_out hfires.cls _ _ _ more) (List.forall_mem_map.2 hlocal) (congrArg (State.noteAlloc · d) ht.symm)
    rw [List.map_map] at hdispatched
    refine ⟨_, hrun, hdispatched, ⟨?_, ?_⟩, hsent, hchanges⟩
    · rw [hlanes, ← hlane]
      exact State.lane_setLane_self ..
    · rw [hctls, ← hctl, ← hlane]
      rfl
  case timer =>
    rintro b e rfl hfree
    obtain ⟨s, t, hs, rfl, hrun, -⟩ := hfires.runs hrow (P := fun s t => s.armed d e b (.firing f k.cls k.pri k.act) = t) fun s hs => ⟨_, by
      simp [State.runFire, (hs.arms hfree).1], rfl⟩
    exact ⟨_, hrun, (hs.arms hfree).2⟩
  case mem =>
    rintro op a size data rfl hfault hnear
    intro m
    obtain ⟨s, t, hs, ⟨hdispatched, hasked, hwaits, hchanges⟩, hrun, -⟩ := hfires.runs hrow (P := fun s t => Dispatched v (t.noteAlloc d) d n k f ∧ Asked v (t.noteAlloc d) (v.fireReq d n k.cls op a size data) ∧
      (t.noteAlloc d).fireMem = v.fireMem ++ [⟨v.seqNo, d, n, f, v.partsOf (some d) a size, 0, 0⟩] ∧
      Only ((dispatchChanges d k).and { parts := [.banks, .dram, .mailboxQ, .fireMem] }) v (t.noteAlloc d)) fun s hs => by
      have hasks := hs.asks (data := data) hfault hnear
      exact hasks
    exact ⟨_, hrun, hdispatched, hasked, hwaits, hchanges⟩

end Sys2Proof.Machine

/-! The strand core's tasks (05 R114, R115, R121, R123, R124; 12 R314), and the timed tasks of the fire units. -/
namespace Sys2Proof.Machine

/-! ### The strand core takes its first task -/

section
variable {u s t : State} {c n : Nat} {k : Task}

/-- The state in which a task has left the ready list. -/
theorem dropTask_tile (s : State) (c : Nat) (k : Task) :
    (s.dropTask c k).tile c = { s.tile c with ready := (s.tile c).ready.filter (fun j => j.stamp ≠ k.stamp), c0q := (s.tile c).c0q.filter (fun j => j.stamp ≠ k.stamp) } := State.tile_setTile_self ..

theorem Only.dropTask {ch : Changes} (h : Only ch u s) (m : c ∈ ch.tiles) : Only ch u (s.dropTask c k) := h.onTile _ m

/-- The mark of the cycle in which the strand core took a wake. -/
def State.wakeMarked (s : State) (c now : Nat) : State := s.onTile c fun x => { x with lastWake := some now }

/-- The first task of the order is the one that the strand core takes. -/
theorem dispatchWake_first {p : Task → Bool} (h : u.TakesWake c k) (hp : p k = true) (htry : u.tryWake c k = (true, s)) : u.dispatchWake c p = s.wakeMarked c u.now := by
  obtain ⟨rest, horder⟩ := List.head?_eq_some_iff.1 h.first
  unfold State.dispatchWake
  rw [if_pos ⟨h.active, h.once⟩, horder]
  unfold State.wakeFrom
  rw [htry]
  dsimp only
  rw [if_pos hp]
  rfl

/-- The general dispatch of slot 4 offers the tasks to the strand core. -/
theorem taskDispatch_core (dt : Nat) (c : CoreId) (z : State) : exec (.taskDispatch dt c 4) z = .next ((z.advance dt).dispatchWake c fun _ => true) := by
  change execTaskDispatch dt c 4 z = _
  unfold execTaskDispatch
  dsimp only
  rw [if_neg (by decide)]

/-- The tile after the wake is the one that `Tile.wakeTaken` describes, once the task has left and the dispatch is marked. -/
theorem wakeMarked_tile {cached : List CEnt} {now : Nat} (h : s.tile c = { (u.dropTask c k).tile c with cache := cached }) : (s.wakeMarked c now).tile c = (u.tile c).wakeTaken k now ((s.wakeMarked c now).tile c).cache := by
  unfold State.wakeMarked State.onTile
  rw [State.tile_setTile_self, h, dropTask_tile]
  rfl

theorem Only.wakeMarked {ch : Changes} {now : Nat} (h : Only ch u s) (m : c ∈ ch.tiles) : Only ch u (s.wakeMarked c now) := h.onTile _ m

/-! ### A wake -/

/-- The thread as its wake finds it ready to go on. -/
def Thread.awake (x : Thread) : Thread := { x with st := .ready, wait := .none, wres := none }

/-- The state in which a waiting thread is ready to go on. -/
def State.awake (s : State) (c n : Nat) : State := (s.setThr c n (s.thr c n).awake).markDisp c (s.thr c n).ctx

theorem awake_thr (s : State) (c n : Nat) : (s.awake c n).thr c n = (s.thr c n).awake := by
  unfold State.awake State.markDisp
  split <;> exact State.thr_setThr_self ..

theorem awake_tile (s : State) (c n : Nat) : ∃ cached, (s.awake c n).tile c = { s.tile c with cache := cached } := markDisp_tile _ _ _

theorem Only.awake {ch : Changes} (h : Only ch u s) (l : n < 16) (m : (c, n) ∈ ch.threads) (m' : c ∈ ch.tiles) : Only ch u (s.awake c n) := markDisp_only (h.setThr _ l m) _ _ m'

/-- A wake with a status writes RD and moves the thread on. -/
theorem resume_status {v : Word} (hst : (s.thr c n).st = .wait) (hres : (s.thr c n).wres = some (.status v)) (hop : (s.thr c n).heldIns.op ≠ 0x67) :
    s.resume c n = some (((s.awake c n).onThr c n fun y => y.setW (iRD (s.thr c n).iw) v).finish c n (s.thr c n) 2 fun s' => s'.advancePc c n (s.thr c n).pc ((s.thr c n).pc + 1)) := by
  unfold State.resume
  dsimp only
  rw [if_neg (not_not.2 hst), hres]
  dsimp only
  rw [if_neg hop]
  rfl

/-- A wake with a fault makes the thread trap at its instruction. -/
theorem resume_fails {code : Nat} (hst : (s.thr c n).st = .wait) (hres : (s.thr c n).wres = some (.fails code)) (hloads : (s.thr c n).loads = []) :
    s.resume c n = some ((s.awake c n).trap c n code (s.thr c n).pc false) := by
  unfold State.resume
  dsimp only
  rw [if_neg (not_not.2 hst), hres]
  dsimp only
  rw [if_neg (by simp [hloads])]
  rfl

theorem tryWake_wake (hk : k.kind = .wake n) (hresume : (u.dropTask c k).resume c n = some s) : u.tryWake c k = (true, s) := by
  unfold State.tryWake
  rw [hk]
  dsimp only
  rw [hresume]

theorem dropTask_thr (u : State) (c n : Nat) (k : Task) : (u.dropTask c k).thr c n = u.thr c n := rfl

/-- The instruction of a thread with a status completes, and the thread moves on. -/
theorem resumed_status {v : Word} (hst : (s.thr c n).st = .wait) (hloads : (s.thr c n).loads = []) (hop : (s.thr c n).heldIns.op ≠ 0x67) (hres : (s.thr c n).wres = some (.status v))
    (hpc : (((s.thr c n).awake.setW (iRD (s.thr c n).iw) v).stepPc (s.thr c n).pc ((s.thr c n).pc + 1)).pc ≤ 16383) :
    ∃ x y, s.resume c n = some (((s.awake c n).setThr c n x).setThr c n y) ∧ y.bare = (((s.thr c n).awake.setW (iRD (s.thr c n).iw) v).stepPc (s.thr c n).pc ((s.thr c n).pc + 1)).bare := by
  have hwritten : ((s.awake c n).onThr c n fun y => y.setW (iRD (s.thr c n).iw) v).thr c n = (s.thr c n).awake.setW (iRD (s.thr c n).iw) v := by
    rw [State.onThr, State.thr_setThr_self, awake_thr]
  have hready : ((s.thr c n).awake.setW (iRD (s.thr c n).iw) v).st = .ready := Thread.setW_st ..
  have hquiet : Quiet ((s.thr c n).awake.setW (iRD (s.thr c n).iw) v).loads := by
    rw [Thread.setW_loads, show (s.thr c n).awake.loads = (s.thr c n).loads from rfl, hloads]
    exact quiet_nil
  rw [← hwritten] at hready hquiet hpc ⊢
  obtain ⟨y, hfinish, hbare⟩ := finish_advance 2 (s.thr c n).pc ((s.thr c n).pc + 1) hready hloads hquiet hpc
  exact ⟨_, y, (resume_status hst hres hop).trans (congrArg some hfinish), hbare⟩

/-! ### The thread traps -/

theorem Reports.onTile (h : s.Reports n) (d : Nat) {g : Tile → Tile} (hg : ∀ x, (g x).borrow = x.borrow) : (s.onTile d g).Reports n := fun hn => by
  obtain ⟨hstill, hquiet⟩ := h hn
  refine ⟨⟨fun e => ?_, hstill.dram, hstill.form⟩, ⟨hquiet.threads, hquiet.marks⟩⟩
  by_cases he : e = d
  · rw [he, State.onTile, State.tile_setTile_self, hg]
    exact hstill.banks d
  · exact (congrArg Tile.borrow (State.tile_setTile_ne s _ he)).trans (hstill.banks e)

theorem Reports.awake (h : s.Reports c) (l : n < 16) : (s.awake c n).Reports c := by
  have hthread : (s.setThr c n (s.thr c n).awake).Reports c := Reports.setThr h l rfl
  unfold State.awake State.markDisp
  split
  · exact Reports.onTile hthread c fun _ => rfl
  · exact hthread

theorem trapped_awake (u : State) (c n pc : Nat) (x : Thread) : u.trapped c n pc x.awake = u.trapped c n pc x := by
  have hinh : x.awake.inh = x.inh := rfl
  unfold State.trapped
  dsimp only
  rw [hinh]
  split <;> rfl

/-- Once the thread is ready to go on, a fault of its wake finds it with no load open. -/
theorem atFault_awake (l : n < 16) (hloads : (u.thr c n).loads = []) (hreports : u.Reports c) : AtFault u ((u.dropTask c k).awake c n) c n (u.thr c n).awake where
  thread := congrArg Thread.bare (awake_thr (u.dropTask c k) c n)
  loads := hloads
  ctx := rfl
  cls := rfl
  regs := fun kind _ a i => markDisp_reg _ _ _ kind a i
  mem := by
    unfold State.awake State.markDisp
    split <;> rfl
  reports := Reports.awake (Reports.onTile hreports c fun _ => rfl) l

/-- The mark of the wake leaves a trap as it is. -/
theorem Trapped.wakeMarked {code pc now : Nat} {ch : Changes} (h : Trapped u s c n code pc ch) (m : c ∈ ch.tiles) : Trapped u (s.wakeMarked c now) c n code pc ch :=
  ⟨h.thread, h.epc, h.ecode, h.pcx, h.report, h.only.wakeMarked (List.mem_append_left _ m)⟩

/-- A thread whose wake says that its instruction fails traps there. -/
theorem trapped_fails {code : Nat} (l : n < 16) (hloads : (u.thr c n).loads = []) (hcode : code < 256) (hpc : (u.thr c n).pc ≤ 16383) (hreports : u.Reports c) :
    (∃ cached, (((u.dropTask c k).awake c n).trap c n code (u.thr c n).pc false).tile c = { (u.dropTask c k).tile c with cache := cached }) ∧
      Trapped u (((u.dropTask c k).awake c n).trap c n code (u.thr c n).pc false) c n code (u.thr c n).pc { tiles := [c] } := by
  have hat := atFault_awake (k := k) l hloads hreports
  have hawake : Only ((({ tiles := [c] } : Changes)).and (trapChanges c n)) u ((u.dropTask c k).awake c n) :=
    ((Only.refl _ u).dropTask (by simp [Changes.and])).awake l (by simp [Changes.and, trapChanges]) (by simp [Changes.and])
  obtain ⟨hthread, hepc, hecode, hpcx, hreport, honly⟩ := hat.trapped hawake l hpc hcode
  obtain ⟨cached, htile⟩ := awake_tile (u.dropTask c k) c n
  rw [trapped_awake] at hthread hreport
  exact ⟨⟨cached, ((Only.trap l hat.reports hat.noLoads hpc).tiles c nofun).trans htile⟩, hthread, hepc, hecode, hpcx, hreport, honly⟩

/-! ### A timer event -/

/-- The latch takes a function of its image, and a WFE that waits takes the new image. -/
theorem latched_latch (s : State) (c n : Nat) (g : Word → Word) : Latched s (s.latch c n g) c n g := by
  unfold Latched State.latch
  dsimp only
  split
  case isTrue hwaits =>
    obtain ⟨hst, -, hres⟩ := hwaits
    refine ⟨(wake_reg ..).trans (State.reg_setReg_self s .TEVT c n 0), (woken_wake (s := s.setReg .TEVT c n 0) hst hres _).of rfl rfl rfl⟩
  case isFalse => exact ⟨State.reg_setReg_self .., rfl, rfl⟩

theorem Only.latch {ch : Changes} {g : Word → Word} (h : Only ch u s) (l : n < 16) (mreg : (.TEVT, c, n) ∈ ch.regs) (mthread : (c, n) ∈ ch.threads) (mtile : c ∈ ch.tiles) (mstamp : .stamp ∈ ch.parts) : Only ch u (s.latch c n g) := by
  unfold State.latch
  dsimp only
  split
  · exact (h.setReg _ mreg).wake _ l mthread mtile mstamp
  · exact h.setReg _ mreg

/-- The task has left, the latch is written, and the wake of the cycle is marked. -/
theorem latched_taken (g : Word → Word) : Latched u (((u.dropTask c k).latch c n g).wakeMarked c u.now) c n g ((u.tile c).wakeTaken k u.now (u.tile c).cache) := by
  have hlatched := latched_latch (u.dropTask c k) c n g
  unfold Latched Woken at hlatched ⊢
  rw [dropTask_thr] at hlatched
  have hmark : ∀ s : State, (s.wakeMarked c u.now).tile c = { s.tile c with lastWake := some u.now } := fun s => State.tile_setTile_self ..
  rw [hmark]
  split at hlatched
  case isTrue hwaits =>
    rw [if_pos hwaits]
    obtain ⟨hreg, hthread, htile⟩ := hlatched
    refine ⟨hreg, hthread, ?_⟩
    rw [htile, dropTask_tile, show (u.dropTask c k).seqNo = u.seqNo from rfl]
    unfold Tile.withTask Tile.wakeTaken
    split <;> rfl
  case isFalse hwaits =>
    rw [if_neg hwaits]
    obtain ⟨hreg, hthread, htile⟩ := hlatched
    refine ⟨hreg, hthread, ?_⟩
    rw [htile, dropTask_tile]
    rfl

/-! ### A spawning wake -/

/-- A spawning wake's thread in the lowest free context. -/
theorem tryWake_spawn {f : Firing} {m : Token} (hk : k.kind = .spawn f) (hok : spawnOk c f = true) (hm : f.p2 = some m) (hfree : u.freeThread c = some n) :
    u.tryWake c k = (true, ((u.dropTask c k).spawnIn c n (nIdx0 f.word) m k.cls k.pri k.act).markDisp c f.ctx) := by
  unfold State.tryWake
  rw [hk]
  unfold State.trySpawn
  dsimp only
  rw [hok, hfree, hm]
  rfl

theorem spawnIn_thr {f : Firing} {m : Token} : (s.spawnIn c n (nIdx0 f.word) m k.cls k.pri k.act).thr c n = spawned f m k (s.thr c n).lends s.now := by
  unfold State.spawnIn
  rw [State.thr_setThr_self]
  rfl

theorem markDisp_thr (s : State) (d a : Nat) : (s.markDisp d a).thr c n = s.thr c n := by
  unfold State.markDisp
  split <;> rfl

/-- The thread that a spawning wake starts, on the tile whose task has left. -/
theorem spawned_taken (l : n < 16) (f : Firing) (m : Token) :
    ∃ cached, (((u.dropTask c k).spawnIn c n (nIdx0 f.word) m k.cls k.pri k.act).markDisp c f.ctx).tile c = { (u.dropTask c k).tile c with cache := cached } ∧
      (((u.dropTask c k).spawnIn c n (nIdx0 f.word) m k.cls k.pri k.act).markDisp c f.ctx).thr c n = spawned f m k (u.thr c n).lends u.now ∧
      Only { threads := [(c, n)], tiles := [c] } u (((u.dropTask c k).spawnIn c n (nIdx0 f.word) m k.cls k.pri k.act).markDisp c f.ctx) := by
  obtain ⟨cached, htile⟩ := markDisp_tile ((u.dropTask c k).spawnIn c n (nIdx0 f.word) m k.cls k.pri k.act) c f.ctx
  exact ⟨cached, htile, (markDisp_thr ..).trans spawnIn_thr, markDisp_only (((Only.refl _ u).dropTask (by simp)).setThr _ l (by simp)) _ _ (by simp)⟩

end

/-! ### A timed task -/

section
variable {u s t : State} {d n : Nat} {k : Task} {f : Firing}

/-- The state in which a timed task has left the ready list for its unit. -/
def State.timedTaken (u : State) (d n : Nat) (k : Task) (ctx : Nat) : State := ((u.dropTask d k).onTile d fun x => { x with unitFree := tput x.unitFree n (u.now + 1) }).markDisp d ctx

theorem tryUnit_timed (hk : k.kind = .timed f) (hopen : u.unitOpen d n 1 = true) (hplain : nMatch f.word ≠ 6) :
    u.tryUnit d n k = (true, (u.timedTaken d n k f.ctx).sendAll d n ((dsts f.word).map fun p => (p, f.out k.cls f.inherit f.a f.c p))) := by
  unfold State.tryUnit
  rw [hk]
  dsimp only
  rw [if_pos hopen, State.sendRes, freeDone_eq hplain, sendToks_eq hplain]
  rfl

theorem timedTaken_tile (u : State) (d n : Nat) (k : Task) (ctx : Nat) : ∃ cached, (u.timedTaken d n k ctx).tile d = (u.tile d).fired k n (u.now + 1) cached (u.tile d).allocHeld := by
  obtain ⟨cached, htile⟩ := markDisp_tile ((u.dropTask d k).onTile d fun x => { x with unitFree := tput x.unitFree n (u.now + 1) }) d ctx
  refine ⟨cached, htile.trans ?_⟩
  rw [State.onTile, State.tile_setTile_self, dropTask_tile]
  rfl

theorem timedTaken_only (u : State) (d n : Nat) (k : Task) (ctx : Nat) : Only { tiles := [d] } u (u.timedTaken d n k ctx) :=
  markDisp_only (((Only.refl _ u).dropTask (by simp)).onTile _ (by simp)) _ _ (by simp)

theorem timedTaken_port (u : State) (d n : Nat) (k : Task) (ctx : Nat) : SamePort u (u.timedTaken d n k ctx) := by
  have honly := timedTaken_only u d n k ctx
  exact ⟨routerOf_of fun kind a i => honly.regs kind a i nofun, honly.parts .clock nofun, honly.parts .stamp nofun, honly.parts .mesh nofun⟩

/-- The tokens of a timed task have left for its unit. -/
theorem timed_emits {l : List ((Nat × Nat × Nat) × Token)} {ctx : Nat} (he : Emitted (u.timedTaken d n k ctx) t d k.cls l) :
    (t.noteAlloc d).tile d = { (u.tile d).withTokens k.cls (staying d l) with
        ready := (u.tile d).ready.filter (fun j => j.stamp ≠ k.stamp)
        c0q := (u.tile d).c0q.filter (fun j => j.stamp ≠ k.stamp)
        unitFree := tput (u.tile d).unitFree n (u.now + 1)
        cache := ((t.noteAlloc d).tile d).cache
        allocHeld := ((t.noteAlloc d).tile d).allocHeld } ∧
      Left u (t.noteAlloc d) d k.cls l ∧ Only { tiles := [d], parts := [.stamp, .mesh] } u (t.noteAlloc d) := by
  obtain ⟨cached, htaken⟩ := timedTaken_tile u d n k ctx
  obtain ⟨held, hnote⟩ := noteAlloc_tile t d
  obtain ⟨hmesh, hbuf⟩ := (timedTaken_port u d n k ctx).left he.left
  obtain ⟨hready, hc0q, hfree⟩ := sameTasks_withTokens (x := u.tile d) ⟨rfl, rfl, rfl⟩ k.cls (staying d l)
  refine ⟨?_, ⟨?_, fun b => ?_⟩, ?_⟩
  · rw [hnote, he.tile, htaken, fired_withTokens, Tile.fired, hready, hc0q, hfree]
  · rw [noteAlloc_mesh]
    exact hmesh
  · rw [State.buf, noteAlloc_mesh]
    exact hbuf b
  · exact (((timedTaken_only u d n k ctx).weaken (by simp) (by simp) (by simp) (by simp) (by simp) (by simp) nofun).trans he.only).noteAlloc (by simp)

end

/-! ### Dispatch -/

/-- Settles O26: the first task of the order is the one taken (`dispatchWake_first`, `dispatchUnit_first`), and each kind of task has its effect from the state in which it has left the ready list. -/
theorem tasksOfThreadsDispatch : Obligations.TasksOfThreadsDispatch := by
  unfold Obligations.TasksOfThreadsDispatch
  intro z dt c k u
  have hcore : ∀ {s}, u.TakesWake c k → u.tryWake c k = (true, s) → exec (.taskDispatch dt c 4) z = .next (s.wakeMarked c u.now) := fun htakes htry =>
    (taskDispatch_core dt c z).trans (congrArg Host.Outcome.next (dispatchWake_first htakes (p := fun _ => true) rfl htry))
  refine ⟨fun htakes => ⟨?wake, ?event, ?spawn⟩, ?timed⟩
  case wake =>
    intro n l hkind x o y hst hloads hop
    refine ⟨fun v hres hpc => ?status, fun code hres hcode hpc hreports => ?fails⟩
    case status =>
      obtain ⟨p, q, hresume, hbare⟩ := resumed_status (s := u.dropTask c k) hst hloads hop hres hpc
      obtain ⟨cached, htile⟩ := awake_tile (u.dropTask c k) c n
      refine ⟨_, hcore htakes (tryWake_wake hkind hresume), wakeMarked_tile (s := (((u.dropTask c k).awake c n).setThr c n p).setThr c n q) htile, ?_, ?_⟩
      · exact (congrArg Thread.bare (State.thr_setThr_self ..)).trans hbare
      · exact (((((Only.refl _ u).dropTask (by simp [Changes.and])).awake l (by simp [Changes.and]) (by simp [Changes.and])).setThr p l (by simp [Changes.and])).setThr q l (by simp [Changes.and])).wakeMarked (by simp [Changes.and])
    case fails =>
      obtain ⟨⟨cached, htile⟩, htrapped⟩ := trapped_fails (k := k) l hloads hcode hpc hreports
      exact ⟨_, hcore htakes (tryWake_wake hkind (resume_fails (s := u.dropTask c k) hst hres hloads)), wakeMarked_tile htile, htrapped.wakeMarked (by simp)⟩
  case event =>
    intro n h l hkind
    refine ⟨_, hcore htakes (s := (u.dropTask c k).latch c n (latchTmr h)) ?_, latched_taken _, ?_⟩
    · unfold State.tryWake
      rw [hkind]
    · exact (((Only.refl _ u).dropTask (by simp [Changes.and, latchChanges])).latch l (by simp [Changes.and, latchChanges]) (by simp [Changes.and, latchChanges]) (by simp [Changes.and, latchChanges]) (by simp [Changes.and, latchChanges])).wakeMarked (by simp [Changes.and, latchChanges])
  case spawn =>
    intro f m n l hkind hok hm hfree hlow
    obtain ⟨cached, htile, hthread, honly⟩ := spawned_taken (u := u) (c := c) (k := k) l f m
    have htry := tryWake_spawn hkind hok hm (freeThread_some l hfree hlow)
    refine ⟨_, hcore htakes htry, fun d hd => ?_, hthread, wakeMarked_tile htile, honly.wakeMarked (by simp)⟩
    have hp : isSpawn k = true := by
      unfold isSpawn
      rw [hkind]
    change Host.Outcome.next (u.dispatchWake d isSpawn) = _
    rw [hd, dispatchWake_first htakes hp htry]
  case timed =>
    intro f n hn hc hkind hcls hactive hkept hnoted hfirst hopen _ hplain toks hmay
    have htry := tryUnit_timed hkind hopen hplain
    have hemitted := emitted_all (n := n) (plain_out hcls f.inherit f.a f.c (dsts f.word)) ((timedTaken_port u c n k f.ctx).mayLeave hmay)
    exact ⟨_, (taskDispatch_unit (d := ⟨c, hc⟩) (n := ⟨n, hn⟩) rfl rfl dt z).trans (congrArg Host.Outcome.next (dispatchUnit_first hc hactive hkept hnoted hfirst (p := fun _ => true) rfl htry)), timed_emits hemitted⟩

end Sys2Proof.Machine

/-! Chained dispatch (05 R118): the lookup of a token that a firing has forwarded, and the firing of the node that it makes ready. -/
namespace Sys2Proof.Machine

/-! ### A node that emits nothing (06 R159) -/

theorem nodeInt_ne_sink (f : Firing) : nodeInt f ≠ .sink := by
  unfold nodeInt
  dsimp only
  repeat' split
  all_goals nofun

theorem nodeMem_ne_sink (f : Firing) : nodeMem f ≠ .sink := by
  unfold nodeMem
  dsimp only
  repeat' split
  all_goals nofun

theorem nodeFp_ne_sink (f : Firing) : nodeFp f ≠ .sink := by
  unfold nodeFp
  dsimp only
  repeat' split
  all_goals nofun

theorem nodeCrc_ne_sink (f : Firing) : nodeCrc f ≠ .sink := by
  unfold nodeCrc
  dsimp only
  repeat' split
  all_goals nofun

theorem nodeCustom_ne_sink (s : State) (f : Firing) : nodeCustom s f ≠ .sink := by
  unfold nodeCustom
  split <;> nofun

theorem nodeLnout_ne_sink (s : State) (t : Nat) (f : Firing) : nodeLnout s t f ≠ .sink := by
  unfold nodeLnout
  dsimp only
  repeat' split
  all_goals nofun

theorem nodeVrdt_ne_sink (s : State) (f : Firing) : nodeVrdt s f ≠ .sink := by
  unfold nodeVrdt
  dsimp only
  repeat' split
  all_goals nofun

theorem nodeTest_ne_sink (s : State) (t : Nat) (f : Firing) : (nodeTest s t f).1 ≠ .sink := by
  unfold nodeTest
  dsimp only
  repeat' split
  case h_5 => exact nodeVrdt_ne_sink s f
  all_goals nofun

/-- Whether a node of the token group is a sink does not depend on the state. -/
theorem nodeTok_sink {u : State} {d : Nat} {f : Firing} (h : nodeTok u d f = .sink) (s : State) : nodeTok s d f = .sink := by
  unfold nodeTok at h ⊢
  dsimp only at h ⊢
  split
  · rename_i hop
    rw [hop] at h
    exact absurd h (nodeLnout_ne_sink u d f)
  all_goals
    rename_i hop
    simp only [hop] at h
    exact h

/-- A sink is one in every state. -/
theorem nodeRes_sink {u v : State} {d cls : Nat} {f : Firing} (h : u.nodeRes d cls f = (.sink, v)) (s : State) : s.nodeRes d cls f = (.sink, s) := by
  unfold State.nodeRes at h ⊢
  dsimp only at h ⊢
  split at h
  · cases h
  rename_i hform
  split at h
  · cases h
  rename_i hmod
  split at h
  · cases h
  rename_i hcreate
  split at h
  · exact absurd (congrArg Prod.fst h) (nodeInt_ne_sink f)
  rename_i hint
  split at h
  · exact absurd (congrArg Prod.fst h) (nodeMem_ne_sink f)
  rename_i hmem
  split at h
  · exact absurd (congrArg Prod.fst h) (nodeFp_ne_sink f)
  rename_i hfp
  split at h
  · exact absurd (congrArg Prod.fst h) (nodeCrc_ne_sink f)
  rename_i hcrc
  split at h
  case isTrue htok =>
    have hdefined : ¬((!formDefined (nOpc f.word) (nMode f.word)) = true ∨ 0xE0 ≤ nOpc f.word ∧ dtRows s.dtActive (nOpc f.word - 0xE0) = 0) := fun hbad =>
      hform (.inl (hbad.resolve_right fun hcustom => by omega))
    rw [if_neg hdefined, if_neg hmod, if_neg hcreate, if_neg hint, if_neg hmem, if_neg hfp, if_neg hcrc, if_pos htok, nodeTok_sink (congrArg Prod.fst h) s]
  case isFalse =>
    split at h
    · exact absurd (congrArg Prod.fst h) (nodeTest_ne_sink u d f)
    · exact absurd (congrArg Prod.fst h) (nodeCustom_ne_sink u f)

/-! ### The lookup of a chained token (02 R34, R36) -/

/-- The state in which the chained lookup has left its tile, with the chains `r`, and the descriptors `l` have been looked at. -/
def State.chainTaken (u : State) (d : Nat) (r : List Chain) (l : List CEnt) : State := u.setTile d { u.tile d with chains := r, cache := l }

section
variable {u t : State} {d n : Nat} {k : Staged} {r : List Chain} {l : List CEnt}

@[simp] theorem State.tile_chainTaken : (u.chainTaken d r l).tile d = { u.tile d with chains := r, cache := l } := State.tile_setTile_self ..
@[simp] theorem State.ctx_chainTaken (c : Nat) : (u.chainTaken d r l).ctx c = u.ctx c := rfl
@[simp] theorem State.gword_chainTaken (a j : Nat) : (u.chainTaken d r l).gword a j = u.gword a j := rfl

/-- A chained token of an OPEN context that its node accepts meets the node. -/
theorem lookup_chained {kind : MKind} (h : u.Meets d k kind) :
    ∃ l, (u.onTile d fun x => { x with chains := r }).lookup d k true = (u.chainTaken d r l).meetNode d k true kind := by
  obtain ⟨e, he, hclosed⟩ := h.isOpen
  have hctx : e.ctx = k.tok.ctx := by simpa using List.find?_some (p := fun x : CEnt => decide (x.ctx = k.tok.ctx)) he
  have hcached : (u.onTile d fun x => { x with chains := r }).cached d k.tok.ctx = some e := by
    unfold State.cached
    rw [State.onTile, State.tile_setTile_self]
    exact he
  obtain ⟨q, hq⟩ := touchCtx_cached hcached
  have htaken : (u.onTile d fun x => { x with chains := r }).touchCtx d k.tok.ctx = u.chainTaken d r (e :: q) := by
    rw [hq]
    simp [State.onTile, State.chainTaken]
  have hopen : (u.chainTaken d r (e :: q)).ctxOpen d k.tok.ctx = true := by
    rw [ctxOpen_cached (e := e) (by simp [State.cached, hctx]), hclosed]
    simp [h.used]
  refine ⟨e :: q, ?_⟩
  unfold State.lookup
  rw [htaken]
  dsimp only
  rw [hopen, State.gword_chainTaken, h.node]
  simp [h.rsvd, h.port]

/-- The state after a token has taken a class 0 entry and entered the count `p`. -/
def State.entered0 (s : State) (d : Nat) (k : Token) (p : Pop) (way : Nat) : State :=
  (s.popIn d k.ctx p).bump.onTile d fun y => { y with c0 := y.c0 ++ [⟨k, k.port, 0, way, s.seqNo, p, false, 0⟩] }

theorem tile_entered0 (s : State) (d : Nat) (k : Token) (p : Pop) (way : Nat) : (s.entered0 d k p way).tile d = { s.tile d with c0 := (s.tile d).c0 ++ [⟨k, k.port, 0, way, s.seqNo, p, false, 0⟩] } := by
  simp [State.entered0, State.onTile]

theorem Only.entered0 {ch : Changes} {s : State} (h : Only ch u s) (k : Token) (p : Pop) (way : Nat) (mpop : (.POPCNT, d, 0) ∈ ch.regs) (mover : (.OVERPOP, d, 0) ∈ ch.regs) (mtile : d ∈ ch.tiles) (mstamp : .stamp ∈ ch.parts) :
    Only ch u (s.entered0 d k p way) := ((h.popIn k.ctx p mpop mover).bump mstamp).onTile _ mtile

/-- A token of class 0 takes the lowest way that the class 0 entries leave free. -/
theorem takeEntry_class0 {s : State} {way : Nat} (hpop : k.pop = .none) (hcls : (s.ctx k.tok.ctx).cls = 0) (hnew : ∀ g ∈ (s.tile d).ents ++ (s.tile d).c0, ¬g.waitsFor k.tok k.tok.port)
    (hroom : (s.tile d).c0.length < 8) (hway : way < 8) (hfree : ∀ e ∈ (s.tile d).c0, e.way ≠ way) (hlow : ∀ j < way, ∃ e ∈ (s.tile d).c0, e.way = j) :
    s.takeEntry d k k.tok.port false = .ok (s.entered0 d k.tok (s.countOf d k.tok.ctx) way) := by
  have hdup : ∀ l : List Entry, (∀ g ∈ l, g ∈ (s.tile d).ents ++ (s.tile d).c0) → l.any (·.waits k.tok k.tok.port) = false := fun l hl =>
    List.any_eq_false.2 fun g hg hw => hnew g (hl g hg) (Entry.waits_iff.1 hw)
  have hents := hdup (s.tile d).ents fun _ => List.mem_append_left _
  have hc0 := hdup (s.tile d).c0 fun _ => List.mem_append_right _
  have hlowest := lowest_free_eq (taken := fun w => (s.tile d).c0.any fun e => e.way = w) hway (by simpa using hfree) fun j hj => by simpa using hlow j hj
  have hcount : s.popFor d k.tok.ctx = s.countOf d k.tok.ctx := rfl
  unfold Entry.waits at hents hc0
  unfold State.takeEntry
  simp only [hpop, hcls, hents, hc0, hcount, hlowest, hroom.not_ge, if_true, if_false, Bool.or_self, Bool.and_false]
  rfl

/-- A token of class 0 with no partner asks for an entry: the spill area holds none of its class. -/
theorem arrivePair_class0 {s : State} (hport : k.tok.port < 2) (hcls : (s.ctx k.tok.ctx).cls = 0) (hstk : s.stickyOf d k.tok.ctx k.tok.idx (1 - k.tok.port) = none)
    (he : s.partner d k.tok (1 - k.tok.port) = none) : s.arrivePair d .dyadic k true = (s.takeEntry d k k.tok.port false).res s id := by
  unfold State.arrivePair
  simp only [offersOf_dyadic hport hstk, he, Option.map_none]
  exact if_neg fun ⟨_, hother, _⟩ => hother hcls

/-! ### The chained lookup -/

/-- The first chain of the unit that is due. -/
theorem takeFirst_chain {a b : List Chain} {h : Chain} {now : Nat} (ha : ∀ e ∈ a, ¬(e.unit = n ∧ e.at_ ≤ now)) (hn : h.unit = n) (hat : h.at_ ≤ now) :
    takeFirst (fun h => h.unit = n && decide (h.at_ ≤ now)) (a ++ h :: b) = some (h, a ++ b) :=
  takeFirst_split _ a b h (fun e he => by simpa using ha e he) (by simp [hn, hat])

section
variable {h : Chain}

/-- A chained lookup without a token ends. -/
theorem chained_none (htake : takeFirst (fun h => h.unit = n && decide (h.at_ ≤ u.now)) (u.tile d).chains = some (h, r)) (htok : h.tok = none) :
    u.chained d n = u.onTile d fun x => { x with chains := r } := by
  unfold State.chained
  rw [htake]
  dsimp only
  rw [htok]

variable {m : Token}

/-- A chained token that makes no node ready ends with its lookup. -/
theorem chained_waits (htake : takeFirst (fun h => h.unit = n && decide (h.at_ ≤ u.now)) (u.tile d).chains = some (h, r)) (htok : h.tok = some m)
    (hlook : (u.onTile d fun x => { x with chains := r }).lookup d ⟨m, false, .none⟩ true = .done t) (hsame : (t.tile d).c0q = (u.tile d).c0q) : u.chained d n = t := by
  unfold State.chained
  rw [htake]
  dsimp only
  rw [htok]
  dsimp only
  rw [hlook]
  dsimp only
  rw [hsame, State.onTile, State.tile_setTile_self, if_neg (Nat.lt_irrefl _)]

/-- A chained token that makes its node ready offers it to the unit at once, ahead of the other class 0 tasks. -/
theorem chained_ready {j : Task} (htake : takeFirst (fun h => h.unit = n && decide (h.at_ ≤ u.now)) (u.tile d).chains = some (h, r)) (htok : h.tok = some m)
    (hlook : (u.onTile d fun x => { x with chains := r }).lookup d ⟨m, false, .none⟩ true = .done t) (hready : (t.tile d).c0q = (u.tile d).c0q ++ [j]) :
    u.chained d n = ((t.onTile d fun x => { x with c0q := { j with stamp := 0 } :: x.c0q.dropLast }).tryUnit d n { j with stamp := 0 }).2 := by
  unfold State.chained
  rw [htake]
  dsimp only
  rw [htok]
  dsimp only
  rw [hlook]
  dsimp only
  rw [hready, State.onTile, State.tile_setTile_self, List.length_append, List.length_singleton, if_pos (Nat.lt_succ_self _), List.getLast?_concat]

end

/-! ### The firing of a sink on the unit of the chain -/

/-- The state in which the task `j` that a chained token has made ready stands ahead of the other class 0 tasks. -/
def State.chainReady (u : State) (d : Nat) (r : List Chain) (l : List CEnt) (j : Task) : State :=
  u.bump.setTile d { u.tile d with chains := r, cache := l, c0q := j :: (u.tile d).c0q }

@[simp] theorem State.tile_chainReady (j : Task) : (u.chainReady d r l j).tile d = { u.tile d with chains := r, cache := l, c0q := j :: (u.tile d).c0q } := State.tile_setTile_self ..

theorem Only.chainReady (j : Task) : Only { tiles := [d], parts := [.stamp] } u (u.chainReady d r l j) := ((Only.refl _ u).bump (by simp)).setTile _ (by simp)

/-- The node that a chained token of class 0 has made ready is a task at the end of the class 0 queue. -/
theorem makeReady_chainTaken {f : Firing} (hcls : (u.ctx f.ctx).cls = 0) :
    (u.chainTaken d r l).makeReady d f = u.bump.setTile d { u.tile d with chains := r, cache := l, c0q := (u.tile d).c0q ++ [u.taskFor f] } := by
  have htask : (u.chainTaken d r l).taskFor f = u.taskFor f := rfl
  have hzero : (u.taskFor f).cls = 0 := hcls
  rw [makeReady_eq, htask, State.tile_chainTaken, Tile.withTask, if_pos hzero]
  exact State.setTile_setTile u.bump d { u.tile d with chains := r, cache := l } _

theorem chainReady_verdict (j : Task) (a : Nat) (c : Charge) : (u.chainReady d r l j).verdict d a c = u.verdict d a c := by
  have htile : (u.chainReady d r l j).tile d = _ := State.tile_chainReady j
  unfold State.verdict State.actOpen State.activeBank
  rw [htile]
  rfl

theorem chainReady_unitOpen {occ : Nat} (j : Task) (hfree : tget (u.tile d).unitFree 0 n ≤ u.now) (hkept : ∀ e ∈ (u.tile d).unitOut, e.1 ≠ n)
    (hchains : ∀ e ∈ r, ¬(e.unit = n ∧ e.at_ < u.now + occ)) : (u.chainReady d r l j).unitOpen d n occ = true := by
  have hnow : (u.chainReady d r l j).now = u.now := rfl
  unfold State.unitOpen
  rw [State.tile_chainReady, hnow]
  simpa [hfree] using And.intro (fun a b h => hkept (a, b) h) hchains

/-- The task stands alone under its stamp, so that it leaves the queue as it was. -/
theorem chainReady_fired {j : Task} {free : Nat} {cached : List CEnt} (hstamp : j.stamp = 0) (hothers : ∀ k ∈ (u.tile d).ready ++ (u.tile d).c0q, k.stamp ≠ 0) :
    ((u.chainReady d r l j).tile d).fired j n free cached ((u.chainReady d r l j).tile d).allocHeld = { u.tile d with chains := r, unitFree := tput (u.tile d).unitFree n free, cache := cached } := by
  have hready : (u.tile d).ready.filter (fun k => k.stamp ≠ j.stamp) = (u.tile d).ready := List.filter_eq_self.2 fun k hk => by
    simpa [hstamp] using hothers k (List.mem_append_left _ hk)
  have hc0q : (j :: (u.tile d).c0q).filter (fun k => k.stamp ≠ j.stamp) = (u.tile d).c0q := by
    rw [List.filter_cons_of_neg (by simp)]
    exact List.filter_eq_self.2 fun k hk => by simpa [hstamp] using hothers k (List.mem_append_right _ hk)
  rw [State.tile_chainReady, Tile.fired]
  dsimp only
  rw [hready, hc0q]

/-- A chained lookup that has made a sink ready: the sink's firing takes the unit and is gone. -/
theorem chainReady_sinks {f : Firing} {j : Task} (hfire : j.kind = .fire f) (hstamp : j.stamp = 0) (hmonadic : nMatch f.word = 1) (hresult : u.nodeRes d j.cls f = (.sink, u))
    (hfree : tget (u.tile d).unitFree 0 n ≤ u.now) (hkept : ∀ e ∈ (u.tile d).unitOut, e.1 ≠ n) (hchains : ∀ e ∈ r, ¬(e.unit = n ∧ e.at_ < u.now + u.fireOcc f))
    (hothers : ∀ k ∈ (u.tile d).ready ++ (u.tile d).c0q, k.stamp ≠ 0) (hcox : u.verdict d j.act (u.fireCharge d f .sink) = .ok) :
    ∃ t cached, (u.chainReady d r l j).tryUnit d n j = (true, t) ∧ t.tile d = { u.tile d with chains := r, unitFree := tput (u.tile d).unitFree n (u.now + u.fireOcc f), cache := cached } ∧
      Counted u t F.DISPATCHED_COUNT d 0 1 ∧ Only { regs := [(.ACTREM0, d, j.act), (.ACTREM1, d, j.act), (.DISPATCHED, d, 0)], tiles := [d], parts := [.stamp] } u t := by
  have hocc : (u.chainReady d r l j).fireOcc f = u.fireOcc f := rfl
  have hcharge : (u.chainReady d r l j).fireCharge d f .sink = u.fireCharge d f .sink := rfl
  have htaken := fired_unitTaken (u.chainReady d r l j) d n (u.fireOcc f) j f.ctx (u.fireCharge d f .sink)
  have hplain : nMatch f.word ≠ 5 ∧ nMatch f.word ≠ 6 := by omega
  obtain ⟨cached, htile⟩ := htaken.tile
  refine ⟨_, cached, tryUnit_fire hfire hplain.1 (nodeRes_sink hresult _) (hocc ▸ chainReady_unitOpen j hfree hkept hchains) ?_ (congrArg some (freeDone_eq hplain.2 d)), ?_, htaken.count, ?_⟩
  · rw [hcharge, chainReady_verdict, hcox]
  · exact htile.trans (chainReady_fired (free := u.now + u.fireOcc f) hstamp hothers)
  · exact ((Only.chainReady j).weaken nofun (by simp) (by simp) (by simp) (by simp) (by simp) (by simp)).trans (htaken.only.weaken (fun _ m => m) (by simp) (by simp) (by simp) (by simp) (by simp) (by simp))

end

/-! ### The three outcomes -/

theorem chainedDispatch_completes {z : State} {dt : Nat} {d : TileId} {n : Fin 4} {P : State → Prop} (h : (z.advance dt).frozen d = false) (hP : P ((z.advance dt).chained d n)) :
    Completes (.chainedDispatch dt d n) z P := by
  refine ⟨_, ?_, hP⟩
  change execChainedDispatch dt d n z = _
  unfold execChainedDispatch
  dsimp only
  rw [h]
  rfl

/-- Settles O29: the chained lookup takes the first chain of its unit that is due, and what it comes to is that of the token's lookup (`lookup_chained`): no token, an entry (`takeEntry_class0`), or a ready node, whose sink fires at once (`chainReady_sinks`). -/
theorem chainedLookupsReachTheirNode : Obligations.ChainedLookupsReachTheirNode := by
  unfold Obligations.ChainedLookupsReachTheirNode
  intro z dt d n h a b u y hfrozen hsplit hbefore hunit hdue
  have htake : takeFirst (fun h => h.unit = n.val && decide (h.at_ ≤ u.now)) (u.tile d).chains = some (h, a ++ b) := by
    rw [hsplit]
    exact takeFirst_chain hbefore hunit hdue
  refine ⟨fun htok => ?none, fun m htok hcls => ⟨fun way hway hmeets hsticky hstk hkeys hroom hfree hlow => ?entry, ?sink⟩⟩
  case none =>
    refine chainedDispatch_completes hfrozen ?_
    rw [chained_none htake htok]
    exact ⟨State.tile_setTile_self .., (Only.refl _ u).onTile _ (by simp)⟩
  case entry =>
    obtain ⟨l, hlook⟩ := lookup_chained (r := a ++ b) hmeets
    have hport : m.port < 2 := dyadic_port_lt hmeets.port
    have hstk' : (u.chainTaken d (a ++ b) l).stickyOf d m.ctx m.idx (1 - m.port) = none := by simpa [State.stickyOf] using hstk
    have hpartner : (u.chainTaken d (a ++ b) l).partner d m (1 - m.port) = none := partner_eq_none fun g hg => (hkeys g (by simpa using hg)).1
    have hentry := takeEntry_class0 (s := u.chainTaken d (a ++ b) l) (d := d) (k := ⟨m, false, .none⟩) rfl hcls (fun g hg => (hkeys g (by simpa using hg)).2) (by simpa using hroom) hway (by simpa using hfree) (by simpa using hlow)
    have hpair := arrivePair_class0 (s := u.chainTaken d (a ++ b) l) (d := d) (k := ⟨m, false, .none⟩) hport hcls hstk' hpartner
    rw [hentry] at hpair
    rw [meetNode_dyadic (s := u.chainTaken d (a ++ b) l) hmeets.cls hsticky hpair] at hlook
    change _ = LRes.done ((u.chainTaken d (a ++ b) l).entered0 d m (u.countOf d m.ctx) way) at hlook
    have htile := tile_entered0 (u.chainTaken d (a ++ b) l) d m (u.countOf d m.ctx) way
    rw [State.tile_chainTaken] at htile
    have hsame : (((u.chainTaken d (a ++ b) l).entered0 d m (u.countOf d m.ctx) way).tile d).c0q = (u.tile d).c0q := by rw [htile]
    refine chainedDispatch_completes hfrozen ?_
    rw [chained_waits htake htok hlook hsame]
    refine ⟨?_, ((Only.refl _ u).setTile _ (by simp)).entered0 _ _ _ (by simp) (by simp) (by simp) (by simp)⟩
    refine htile.trans ?_
    rw [congrArg Tile.cache htile]
    rfl
  case sink =>
    intro f hmeets hroom hothers hspawn hresult hfree hkept hchains hcox hmonadic
    obtain ⟨l, hlook⟩ := lookup_chained (r := a ++ b) hmeets
    have hroom' : (u.chainTaken d (a ++ b) l).readyFull d ((u.chainTaken d (a ++ b) l).ctx m.ctx).cls = false := by
      rw [State.ctx_chainTaken, hcls]
      unfold State.readyFull at hroom ⊢
      simpa using hroom
    rw [meetNode_monadic (s := u.chainTaken d (a ++ b) l) hmeets.cls hroom'] at hlook
    change _ = LRes.done ((u.chainTaken d (a ++ b) l).makeReady d f) at hlook
    rw [makeReady_chainTaken hcls] at hlook
    have hready := chained_ready (j := u.taskFor f) htake htok hlook (by rw [State.tile_setTile_self])
    have hahead : ((u.bump.setTile d { u.tile d with chains := a ++ b, cache := l, c0q := (u.tile d).c0q ++ [u.taskFor f] }).onTile d fun x => { x with c0q := { u.taskFor f with stamp := 0 } :: x.c0q.dropLast }) =
        u.chainReady d (a ++ b) l { u.taskFor f with stamp := 0 } := by
      rw [State.onTile, State.tile_setTile_self, State.setTile_setTile, List.dropLast_concat]
      rfl
    have hfires : ({ u.taskFor f with stamp := 0 } : Task).kind = .fire f := if_neg hspawn
    rw [hahead] at hready
    obtain ⟨t, cached, htry, htile, hcount, honly⟩ := chainReady_sinks (n := n) (l := l) hfires rfl hmonadic (hcls ▸ hresult) hfree hkept hchains hothers hcox
    refine chainedDispatch_completes hfrozen ?_
    rw [hready, htry]
    refine ⟨htile.trans ?_, hcount, honly⟩
    rw [congrArg Tile.cache htile]

end Sys2Proof.Machine

/-! Negation and absolute value of the most negative value (07 R171 to R173). -/
namespace Sys2Proof.Machine

section
variable {u s : State} {o : Ins} {x : Thread} {r : IRes}

/-! ### An integer instruction that does not fault (06 R141) -/

theorem xInt_done {c n : Nat} (himm : immOk o = true) (hres : o.intRes (s.thr c n) = r) (hf : r.fault = none) : xInt s c n o = .done (s.setThr c n ((s.thr c n).afterInt o r)) := by
  unfold Ins.intRes at hres
  unfold xInt
  dsimp only
  rw [himm, hres, hf]
  rfl

theorem afterInt_writes (x : Thread) (r : IRes) (hcmp : isCompare o.op = false) :
    x.afterInt o r = { x.setW (iRD o.w) r.d with fl := if o.s then applyFlags x.fl r.n r.z r.c r.v else x.fl } := by
  unfold Thread.afterInt
  rw [hcmp]
  cases o.s with
  | true => exact congrArg (fun fl => { x.setW (iRD o.w) r.d with fl := applyFlags fl r.n r.z r.c r.v }) (Thread.setW_fl ..)
  | false => exact congrArg (fun fl => { x.setW (iRD o.w) r.d with fl := fl }) (Thread.setW_fl ..)

/-- An integer instruction keeps to its register and its flags, so that the bookkeeping of its issue passes it by. -/
theorem afterInt_bare (x : Thread) (o : Ins) (r : IRes) : (x.afterInt o r).bare = (x.bare.afterInt o r).bare := by
  unfold Thread.afterInt
  rw [← Thread.setW_bare]
  split <;> split <;> rfl

theorem afterInt_st (x : Thread) (o : Ins) (r : IRes) : (x.afterInt o r).st = x.st := by
  unfold Thread.afterInt
  dsimp only
  split <;> split <;> simp

theorem afterInt_loads (x : Thread) (o : Ins) (r : IRes) : (x.afterInt o r).loads = x.loads := by
  unfold Thread.afterInt
  dsimp only
  split <;> split <;> simp

/-- An integer instruction that has a result and does not fault completes with it. -/
theorem intRow_completes {f : Nat → CoreId → ThreadId → Instr} {op : Nat} (hrow : (f, op) ∈ intRows) {z : State} {dt : Nat} {c : CoreId} {n : ThreadId}
    (htakes : Takes (z.advance dt) c n o) (hop : o.op = op) (hres : o.intResult ((z.advance dt).thr c n) = some r) (hf : r.fault = none)
    (hpc : ((((z.advance dt).thr c n).afterInt o r).stepPc o.pc (o.pc + o.len)).pc ≤ 16383) :
    Completes (f dt c n) z fun t => InSequence (z.advance dt) t c n o (((z.advance dt).thr c n).afterInt o r) := by
  obtain ⟨himm, hints⟩ := intRes_of_some hres
  refine .of_exists ((isRow_intRows _ hrow).done htakes hop (P := fun _ => True)
    (fun s hb => ⟨_, xInt_done himm ((hb.intRes o).trans hints) hf, hb.did n.isLt ?_, fun _ => trivial⟩) ((afterInt_st ..).trans htakes.ready) ?_ hpc)
  · rw [afterInt_bare, hb.bare, ← afterInt_bare]
  · rw [afterInt_loads, htakes.loads]
    exact quiet_nil

/-- The same for an instruction that is no comparison, and so writes RD. -/
theorem intRow_writes {f : Nat → CoreId → ThreadId → Instr} {op : Nat} (hrow : (f, op) ∈ intRows) (hcmp : isCompare op = false) {z : State} {dt : Nat} {c : CoreId} {n : ThreadId}
    {y : Thread} (htakes : Takes (z.advance dt) c n o) (hop : o.op = op) (hx : (z.advance dt).thr c n = x) (hres : o.intResult x = some r) (hf : r.fault = none)
    (hy : y = { x.setW (iRD o.w) r.d with fl := if o.s then applyFlags x.fl r.n r.z r.c r.v else x.fl }) (hpc : (y.stepPc o.pc (o.pc + o.len)).pc ≤ 16383) :
    Completes (f dt c n) z fun t => InSequence (z.advance dt) t c n o y := by
  subst hx
  rw [← afterInt_writes _ _ (hop ▸ hcmp)] at hy
  subst hy
  exact intRow_completes hrow htakes hop hres hf hpc

/-! ### Negation and absolute value as arithmetic (07 R171, R172) -/

/-- What negation and absolute value of the most negative value give (07 R172): that value, N and V, with C and the fault of the instruction. -/
def mostNegative (c : Option Bool) (fault : Option Nat) : IRes := ⟨BitVec.intMin 64, none, some true, some false, c, some true, fault⟩

theorem diffSpec_intMin : diffSpec 0 (BitVec.intMin 64) false = mostNegative (some false) none := by decide

theorem absSpec_intMin : ({ bitsSpec (BitVec.intMin 64).abs with v := some (BitVec.intMin 64 == BitVec.intMin 64) } : IRes) = mostNegative none none := by decide

theorem abs_eq_ite (a : Word) : a.abs = if a.slt 0 then -a else a := by
  change _ = if a.slt 0#64 then -a else a
  rw [BitVec.slt_zero_eq_msb]
  rfl

theorem absSpec_of_ne {a : Word} (h : a ≠ BitVec.intMin 64) :
    ({ bitsSpec a.abs with v := some (a == BitVec.intMin 64) } : IRes) = ⟨a.abs, none, some false, some (a.abs == 0), none, some false, none⟩ := by
  have hmsb : a.abs.msb = false := by rw [BitVec.msb_abs]; simp [h]
  simp [bitsSpec, resOf, hmsb, h]

/-! ### Strand form -/

theorem neg_mem_intRows : ((fun dt c n => .neg dt (.strand c n) : Nat → CoreId → ThreadId → Instr), 0x06) ∈ intRows := by simp [intRows]

theorem nego_mem_intRows : ((fun dt c n => .nego dt (.strand c n) : Nat → CoreId → ThreadId → Instr), 0x07) ∈ intRows := by simp [intRows]

theorem abs_mem_intRows : ((fun dt c n => .abs dt (.strand c n) : Nat → CoreId → ThreadId → Instr), 0x1F) ∈ intRows := by simp [intRows]

theorem intResult_neg (h : o.op = 0x06) : o.intResult x = some (diffSpec 0 (o.a x) false) := by
  unfold Ins.intResult immOk
  rw [h]
  rfl

theorem intResult_nego (h : o.op = 0x07) : o.intResult x = some (trapOnV (diffSpec 0 (o.a x) false)) := by
  unfold Ins.intResult immOk
  rw [h]
  rfl

theorem intResult_abs (h : o.op = 0x1F) : o.intResult x = some { bitsSpec (o.a x).abs with v := some (o.a x == BitVec.intMin 64) } := by
  unfold Ins.intResult immOk
  rw [h]
  rfl

theorem intResult_neg_intMin (h : o.op = 0x06) (ha : o.a x = BitVec.intMin 64) : o.intResult x = some (mostNegative (some false) none) := by
  rw [intResult_neg h, ha, diffSpec_intMin]

theorem intResult_nego_intMin (h : o.op = 0x07) (ha : o.a x = BitVec.intMin 64) : o.intResult x = some (mostNegative (some false) (some 0x0A)) := by
  rw [intResult_nego h, ha, diffSpec_intMin]
  rfl

theorem intResult_abs_intMin (h : o.op = 0x1F) (ha : o.a x = BitVec.intMin 64) : o.intResult x = some (mostNegative none none) := by
  rw [intResult_abs h, ha, absSpec_intMin]

/-! ### Node form (06 R136) -/

theorem intOp_neg_intMin (b : Word) (cin : Bool) : intOp 0x06 (BitVec.intMin 64) b cin = mostNegative (some false) none :=
  intOp_eq _ _ _ _ _ (congrArg some diffSpec_intMin)

theorem intOp_nego_intMin (b : Word) (cin : Bool) : intOp 0x07 (BitVec.intMin 64) b cin = mostNegative (some false) (some 0x0A) :=
  intOp_eq _ _ _ _ _ (congrArg (fun r => some (trapOnV r)) diffSpec_intMin)

theorem intOp_abs_intMin (b : Word) (cin : Bool) : intOp 0x1F (BitVec.intMin 64) b cin = mostNegative none none :=
  intOp_eq _ _ _ _ _ (congrArg some absSpec_intMin)

/-- A node of the integer group whose form and MOD are defined gives what `nodeInt` says (06 R137, 02 R51). -/
theorem nodeRes_int {d cls : Nat} {f : Firing} (hop : nOpc f.word < 0x40) (hform : formDefined (nOpc f.word) (nMode f.word) = true) (hmod : f.mod < 2) (hcreate : nMatch f.word ≠ 5) :
    u.nodeRes d cls f = (nodeInt f, u) := by
  have hlimit : modLimit (nOpc f.word) = 2 := if_pos hop
  unfold State.nodeRes
  dsimp only
  have hdefined : ¬((!formDefined (nOpc f.word) (nMode f.word)) = true ∨ 0xE0 ≤ nOpc f.word ∧ dtRows u.dtActive (nOpc f.word - 0xE0) = 0) := by
    rw [hform]
    rintro (h | ⟨hcustom, -⟩)
    · cases h
    · omega
  rw [if_neg hdefined, hlimit, if_neg (by omega), if_neg (fun h => hcreate h.1), if_pos hop]

/-- NEG, NEGO and ABS nodes have one operand: A, or B when MOD exchanges them. -/
theorem nodeInt_mostNegative {f : Firing} {a : Word} {c : Option Bool} {fault : Option Nat} (hop : nOpc f.word = 0x06 ∨ nOpc f.word = 0x07 ∨ nOpc f.word = 0x1F) (hmod : f.mod < 2)
    (ha : (if f.mod = 1 then f.b else f.a) = a) (hres : ∀ b, intOp (nOpc f.word) a b false = mostNegative c fault) :
    nodeInt f = fault.elim (.toks (BitVec.intMin 64) f.c (dsts f.word)) .fault := by
  have hleft : (if bit f.mod 0 then f.b else f.a) = a := by
    rw [← ha]
    obtain h | h : f.mod = 0 ∨ f.mod = 1 := by omega
    all_goals
      rw [h]
      rfl
  have hcmp : isCompare (nOpc f.word) = false := by rcases hop with h | h | h <;> rw [h] <;> rfl
  unfold nodeInt
  dsimp only
  rw [hleft, hres, hcmp, if_neg (by omega), if_neg (by omega), if_neg (by omega), if_neg (by omega)]
  cases fault <;> rfl

end

/-- Settles O57: NEG and ABS complete with the result that R172 gives (`intRow_writes`), NEGO overflows (`faultsTrapPrecisely`), and the nodes compute the same (`nodeInt_mostNegative`). -/
theorem negationOfTheMostNegativeValue : Obligations.NegationOfTheMostNegativeValue := by
  unfold Obligations.NegationOfTheMostNegativeValue
  refine ⟨?strand, ?node⟩
  case strand =>
    intro z dt c n o u x m gives htakes
    refine ⟨fun y hy hop ha hpc => ?neg, fun hop ha hreports => ?nego, fun y hy hop ha hpc => ?abs, fun y v hv hy hop ha hpc => ?absOther⟩
    case neg => exact intRow_writes neg_mem_intRows rfl htakes hop rfl (intResult_neg_intMin hop ha) rfl hy hpc
    case nego =>
      obtain ⟨hint, -⟩ := faultsTrapPrecisely.2 z dt c n o htakes hreports
      exact (hint _ _ nego_mem_intRows hop).2 _ _ (intResult_nego_intMin hop ha) rfl
    case abs => exact intRow_writes abs_mem_intRows rfl htakes hop rfl (intResult_abs_intMin hop ha) rfl hy hpc
    case absOther =>
      have hres := (intResult_abs hop).trans (congrArg some (absSpec_of_ne ha))
      rw [← abs_eq_ite] at hv
      subst hv
      exact intRow_writes abs_mem_intRows rfl htakes hop rfl hres rfl hy hpc
  case node =>
    intro u d cls f m op hform hcreate hmod ha
    have hgives : ∀ {c fault}, (op = 0x06 ∨ op = 0x07 ∨ op = 0x1F) → (∀ b, intOp op m b false = mostNegative c fault) →
        u.nodeRes d cls f = (fault.elim (.toks m f.c (dsts f.word)) .fault, u) := fun hop hres =>
      (nodeRes_int (by omega) hform hmod hcreate).trans (congrArg (·, u) (nodeInt_mostNegative hop hmod ha hres))
    refine ⟨fun hop => hop.elim (fun hneg => ?neg) fun habs => ?abs, fun hnego => ?nego⟩
    case neg => exact hgives (.inl hneg) fun b => hneg ▸ intOp_neg_intMin b false
    case abs => exact hgives (.inr (.inr habs)) fun b => habs ▸ intOp_abs_intMin b false
    case nego => exact hgives (.inr (.inl hnego)) fun b => hnego ▸ intOp_nego_intMin b false

end Sys2Proof.Machine

/-! The progress scan and the strand deadlock of a core (08 R196 to R206). -/
namespace Sys2Proof.Machine

/-! ### Paths of waits (08 R198, R199) -/

section
variable {es : List (Nat × Nat)} {l : List Nat}

/-- A path of edges leads from one context to another. -/
abbrev EdgePath (es : List (Nat × Nat)) : Nat → Nat → Prop := Relation.TransGen fun a b => (a, b) ∈ es

/-- No edge leads out of a list of contexts. -/
def EdgeClosed (es : List (Nat × Nat)) (l : List Nat) : Prop := ∀ a b, (a, b) ∈ es → a ∈ l → b ∈ l

/-- A list of contexts and those one edge away: one step of `reachSet`. -/
def nextSet (es : List (Nat × Nat)) (l : List Nat) : List Nat := (l ++ (es.filter fun e => l.contains e.1).map fun e => e.2).eraseDups

/-- The contexts that a context waits for at once. -/
def succs (es : List (Nat × Nat)) (c : Nat) : List Nat := (es.filter fun e => e.1 = c).map fun e => e.2

/-- The ends of edges that a list does not hold yet: every step of `reachSet` takes one of them in, or changes nothing. -/
def unreached (es : List (Nat × Nat)) (l : List Nat) : Finset Nat := (es.map fun e => e.2).toFinset \ l.toFinset

theorem mem_nextSet {x : Nat} : x ∈ nextSet es l ↔ x ∈ l ∨ ∃ a ∈ l, (a, x) ∈ es := by
  simp [nextSet, and_comm]

theorem mem_succs {c x : Nat} : x ∈ succs es c ↔ (c, x) ∈ es := by
  simp [succs]

theorem mem_unreached {x : Nat} : x ∈ unreached es l ↔ (∃ a, (a, x) ∈ es) ∧ x ∉ l := by
  simp [unreached]

theorem EdgeClosed.nextSet (h : EdgeClosed es l) : EdgeClosed es (nextSet es l) := by
  have hl : ∀ x, x ∈ Machine.nextSet es l → x ∈ l := fun x hx => (mem_nextSet.1 hx).elim id fun ⟨a, ha, he⟩ => h a x he ha
  exact fun a b he ha => mem_nextSet.2 (.inl (h a b he (hl a ha)))

theorem EdgeClosed.reachSet (h : EdgeClosed es l) (k : Nat) : EdgeClosed es (reachSet es l k) := by
  induction k generalizing l with
  | zero => exact h
  | succ k ih => exact ih h.nextSet

theorem unreached_nextSet_card (h : ¬EdgeClosed es l) : (unreached es (nextSet es l)).card < (unreached es l).card := by
  unfold EdgeClosed at h
  push Not at h
  obtain ⟨a, b, he, ha, hb⟩ := h
  refine Finset.card_lt_card (Finset.ssubset_iff_of_subset ?_ |>.2 ⟨b, mem_unreached.2 ⟨⟨a, he⟩, hb⟩, ?_⟩)
  · intro x hx
    obtain ⟨hend, hnot⟩ := mem_unreached.1 hx
    exact mem_unreached.2 ⟨hend, fun hx => hnot (mem_nextSet.2 (.inl hx))⟩
  · exact fun hb => (mem_unreached.1 hb).2 (mem_nextSet.2 (.inr ⟨a, ha, he⟩))

theorem edgeClosed_reachSet {k : Nat} (h : (unreached es l).card ≤ k) : EdgeClosed es (reachSet es l k) := by
  induction k generalizing l with
  | zero =>
    intro a b he _
    by_contra hb
    have hmem : b ∈ unreached es l := mem_unreached.2 ⟨⟨a, he⟩, hb⟩
    rw [Finset.card_eq_zero.1 (Nat.le_zero.1 h)] at hmem
    exact Finset.notMem_empty b hmem
  | succ k ih =>
    by_cases hclosed : EdgeClosed es l
    · exact hclosed.reachSet _
    · exact ih (Nat.le_of_lt_succ (Nat.lt_of_lt_of_le (unreached_nextSet_card hclosed) h))

theorem unreached_card_le : (unreached es l).card ≤ es.length :=
  calc (unreached es l).card ≤ (es.map fun e => e.2).toFinset.card := Finset.card_le_card Finset.sdiff_subset
    _ ≤ (es.map fun e => e.2).length := List.toFinset_card_le _
    _ = es.length := List.length_map _

theorem mem_reachSet_of_mem {x : Nat} (h : x ∈ l) (k : Nat) : x ∈ reachSet es l k := by
  induction k generalizing l with
  | zero => exact h
  | succ k ih => exact ih (mem_nextSet.2 (.inl h))

theorem path_of_mem_reachSet {x k : Nat} (h : x ∈ reachSet es l k) : ∃ a ∈ l, Relation.ReflTransGen (fun a b => (a, b) ∈ es) a x := by
  induction k generalizing l with
  | zero => exact ⟨x, h, .refl⟩
  | succ k ih =>
    obtain ⟨a, ha, hpath⟩ := ih h
    obtain ha | ⟨b, hb, he⟩ := mem_nextSet.1 ha
    · exact ⟨a, ha, hpath⟩
    · exact ⟨b, hb, .head he hpath⟩

theorem EdgeClosed.mem_of_path {a x : Nat} (h : EdgeClosed es l) (ha : a ∈ l) (hpath : Relation.ReflTransGen (fun a b => (a, b) ∈ es) a x) : x ∈ l := by
  induction hpath with
  | refl => exact ha
  | tail _ he ih => exact h _ _ he ih

/-- As many steps as there are edges reach every context that a path leads to. -/
theorem mem_reachSet_succs {c x : Nat} : x ∈ reachSet es (succs es c) es.length ↔ EdgePath es c x := by
  constructor
  · intro h
    obtain ⟨a, ha, hpath⟩ := path_of_mem_reachSet h
    exact .head' (mem_succs.1 ha) hpath
  · intro h
    obtain ⟨a, he, hpath⟩ := Relation.TransGen.head'_iff.1 h
    exact (edgeClosed_reachSet unreached_card_le).mem_of_path (mem_reachSet_of_mem (mem_succs.2 he) _) hpath

theorem EdgePath.source_mem {a b : Nat} (h : EdgePath es a b) : a ∈ (es.map fun e => e.1).eraseDups := by
  obtain ⟨x, he, -⟩ := Relation.TransGen.head'_iff.1 h
  exact List.mem_eraseDups.2 (List.mem_map.2 ⟨(a, x), he, rfl⟩)

theorem onCycle_iff {c : Nat} : onCycle es c = true ↔ EdgePath es c c :=
  List.contains_iff_mem.trans mem_reachSet_succs

theorem mem_cycleOf {c d : Nat} : d ∈ cycleOf es c ↔ EdgePath es c d ∧ EdgePath es d c := by
  unfold cycleOf
  rw [List.mem_filter, Bool.and_eq_true, List.contains_iff_mem, List.contains_iff_mem]
  exact ⟨fun h => ⟨mem_reachSet_succs.1 h.2.1, mem_reachSet_succs.1 h.2.2⟩,
    fun h => ⟨EdgePath.source_mem h.2, mem_reachSet_succs.2 h.1, mem_reachSet_succs.2 h.2⟩⟩

end

/-! ### The victim of a snapshot (08 R199) -/

section
variable {u : State} {v w : Nat}

/-- The contexts on a cycle of waits. -/
def State.cyclic (u : State) : List Nat := (u.waitFor.map fun e => e.1).eraseDups.filter fun c => onCycle u.waitFor c

theorem mem_cyclic : v ∈ u.cyclic ↔ u.waitPath v v := by
  unfold State.cyclic
  rw [List.mem_filter, onCycle_iff]
  exact ⟨And.right, fun h => ⟨EdgePath.source_mem h, h⟩⟩

/-- The rank of 08 R199 orders by priority, then by opening, then by number. -/
theorem victimRank_lt (hv : v < 65536) (hw : w < 65536)
    (h : (u.ctx v).pri < (u.ctx w).pri ∨ (u.ctx v).pri = (u.ctx w).pri ∧
      ((u.ctx w).opened.toNat < (u.ctx v).opened.toNat ∨ (u.ctx w).opened = (u.ctx v).opened ∧ w < v)) : u.victimRank v < u.victimRank w := by
  have hov := (u.ctx v).opened.isLt
  have how := (u.ctx w).opened.isLt
  unfold State.victimRank
  dsimp only
  obtain hpri | ⟨hpri, hopened | ⟨hopened, hlt⟩⟩ := h
  · omega
  · omega
  · rw [hopened]
    omega

theorem minBy_victim (h : u.isVictim v) : minBy u.victimRank (u.cyclic.filter fun c => !(u.ctx c).cert) = some v := by
  obtain ⟨hpath, hcert, hv, hleast⟩ := h
  refine minBy_least (List.mem_filter.2 ⟨mem_cyclic.2 hpath, by simp [hcert]⟩) fun w hw => ?_
  obtain ⟨hcyc, hwcert⟩ := List.mem_filter.1 hw
  by_cases e : w = v
  · exact .inl e
  · obtain ⟨hlt, hrank⟩ := hleast w (mem_cyclic.1 hcyc) (by simpa using hwcert) e
    exact .inr (victimRank_lt hv hlt hrank)

theorem snapshotComplete_victim (htaken : u.scan.taken = true) (hnone : u.scan.victim = none) (h : u.isVictim v) :
    u.snapshotComplete = if u.fget F.DLKCFG_VICT 0 0 = 1 then { u with scan := { u.scan with victim := some v, members := cycleOf u.waitFor v } }
      else (u.scanReport 0xFFFF (cycleOf u.waitFor v).length false).scanEnd := by
  have hmin := minBy_victim h
  unfold State.cyclic at hmin
  unfold State.snapshotComplete
  dsimp only
  rw [if_pos ⟨htaken, hnone⟩, hmin]

theorem snapshotComplete_acyclic (htaken : u.scan.taken = true) (hnone : u.scan.victim = none) (h : ∀ v, ¬u.waitPath v v) : u.snapshotComplete = u.scanEnd := by
  have hcyc : u.cyclic = [] := List.eq_nil_iff_forall_not_mem.2 fun v hv => h v (mem_cyclic.1 hv)
  unfold State.cyclic at hcyc
  unfold State.snapshotComplete
  dsimp only
  rw [if_pos ⟨htaken, hnone⟩, hcyc]
  rfl

end

/-! ### The end of a scan and its report (08 R202) -/

section
variable {ch : Changes} {u s t : State} {v len : Nat} {cert : Bool}

theorem Only.unwatched (h : Only ch u t) (w : u.Unwatched) (hreg : (.RCFG, 0, 1) ∉ ch.regs) (hpart : .ak ∉ ch.parts) : t.Unwatched where
  sessions := (congrArg AkState.sessions (h.parts .ak hpart)).trans w.sessions
  ring := by
    rw [show t.fget F.RCFG_EN 0 1 = u.fget F.RCFG_EN 0 1 from congrArg (wbits · _ _) (h.regs _ _ _ hreg)]
    exact w.ring

/-- The state with DLKLOG written and the device source raised. -/
def State.scanLogged (s : State) (v len : Nat) (cert : Bool) : State :=
  (s.setReg .DLKLOG 0 0 (wd (v + min 255 len * 2 ^ 16 + b2n cert * 2 ^ 24 + s.count % 2 ^ 32 * 2 ^ 32))).raiseDev 1

theorem Only.scanLogged (h : Only ch u s) (m : (.DLKLOG, 0, 0) ∈ ch.regs) (m' : (.DPEND, 0, 0) ∈ ch.regs) : Only ch u (s.scanLogged v len cert) :=
  (h.setReg _ m).raiseDev m'

theorem scanReport_unwatched (w : s.Unwatched) : s.scanReport v len cert = s.scanLogged v len cert := by
  have honly : Only { regs := [(.DLKLOG, 0, 0), (.DPEND, 0, 0)] } s (s.scanLogged v len cert) := (Only.refl _ s).scanLogged (by simp) (by simp)
  exact event_unwatched (honly.unwatched w (by simp) (by simp)) ..

theorem scanReported_scanLogged : ScanReported s (s.scanLogged v len cert) v len cert := by
  constructor
  · exact (State.reg_setReg_ne _ _ (by simp)).trans (State.reg_setReg_self ..)
  · refine (State.reg_setReg_self ..).trans ?_
    rw [State.reg_setReg_ne _ _ (by simp)]
    rfl

theorem fget_scanLogged {f : Fld} (a i : Nat) (h : f.kind ≠ .DLKLOG ∧ f.kind ≠ .DPEND) : (s.scanLogged v len cert).fget f a i = s.fget f a i :=
  (fget_raiseDev _ _ _ h.2).trans (fget_setReg_kind _ h.1)

theorem ScanReported.of (h : ScanReported s t v len cert) (hcount : s.count = u.count) (hpend : s.reg .DPEND 0 0 = u.reg .DPEND 0 0) : ScanReported u t v len cert := by
  unfold ScanReported at h ⊢
  rwa [hcount, hpend] at h

theorem Only.scanEnd (h : Only ch u s) (m : (.DLKCNT, 0, 0) ∈ ch.regs) (m' : .scan ∈ ch.parts) : Only ch u s.scanEnd := (h.inc m).scan_ _ m'

theorem ctx_scanEnd_scanLogged (c : Nat) : (s.scanLogged v len cert).scanEnd.ctx c = s.ctx c := rfl

theorem ctl_scanEnd_scanLogged : (s.scanLogged v len cert).scanEnd.ctl = s.ctl := rfl

theorem reg_scanEnd {k : RegKind} (a i : Nat) (h : k ≠ .DLKCNT) : s.scanEnd.reg k a i = s.reg k a i := reg_inc_kind (f := F.DLKCNT_SCANS) h

theorem victims_scanEnd : s.scanEnd.fget F.DLKCNT_VICTIMS 0 0 = s.fget F.DLKCNT_VICTIMS 0 0 :=
  fget_inc_field (f := F.DLKCNT_SCANS) (f' := F.DLKCNT_VICTIMS) _ _ rfl (by decide)

theorem Counted.kept {f : Fld} {a i k : Nat} (h : Counted u s f a i k) (hkept : t.fget f a i = s.fget f a i) : Counted u t f a i k := by
  unfold Counted at h ⊢
  rw [hkept, h]

/-- A scan ends that counted none before. -/
theorem scanEnded_scanEnd (hcount : s.fget F.DLKCNT_SCANS 0 0 = u.fget F.DLKCNT_SCANS 0 0) (hpending : s.scan.pending = u.scan.pending) : ScanEnded u s.scanEnd := by
  refine ⟨?_, rfl, rfl, rfl, rfl, hpending⟩
  unfold Counted
  rw [← hcount]
  exact fget_inc s _ _ _ (by decide)

theorem ScanReported.scanEnd (h : ScanReported u s v len cert) : ScanReported u s.scanEnd v len cert := by
  unfold ScanReported
  rwa [reg_scanEnd _ _ (by decide), reg_scanEnd _ _ (by decide)]

theorem scanEnd_ends : ScanEnded u u.scanEnd ∧ Only { regs := [(.DLKCNT, 0, 0)], parts := [.scan] } u u.scanEnd :=
  ⟨scanEnded_scanEnd rfl rfl, (Only.refl _ u).scanEnd (by simp) (by simp)⟩

/-- A scan that ends with a report and closes no context. -/
theorem scanReport_ends (w : u.Unwatched) : ScanReported u (u.scanReport v len cert).scanEnd v len cert ∧ ScanEnded u (u.scanReport v len cert).scanEnd ∧
    Only { regs := [(.DLKLOG, 0, 0), (.DLKCNT, 0, 0), (.DPEND, 0, 0)], parts := [.scan] } u (u.scanReport v len cert).scanEnd := by
  rw [scanReport_unwatched w]
  exact ⟨scanReported_scanLogged.scanEnd, scanEnded_scanEnd (fget_scanLogged _ _ (by decide)) rfl, ((Only.refl _ u).scanLogged (by simp) (by simp)).scanEnd (by simp) (by simp)⟩

end

/-! ### Stall reports and stalled contexts (08 R197) -/

section
variable {z : State} {c : CtxId}

theorem stallReport_of {d : TileId} {rest : List Ctl} (h : z.message (fun m => m = .stall c d) (.stall c d) rest) :
    z.stallReport c d = if z.fget F.DLKCFG_SCANEN 0 0 = 1 ∧ c.val ∉ z.scan.pending then { z with ctl := rest, scan := { z.scan with pending := z.scan.pending ++ [c.val] } }
      else { z with ctl := rest } := by
  obtain ⟨a, b, hctl, ha, hm, rfl⟩ := h
  unfold State.stallReport
  rw [hctl, takeFirst_split _ a b _ ha hm]
  dsimp only
  have hcond : (z.fget F.DLKCFG_SCANEN 0 0 = 1 ∧ (!z.scan.pending.contains c.val) = true) ↔ (z.fget F.DLKCFG_SCANEN 0 0 = 1 ∧ c.val ∉ z.scan.pending) := by simp
  exact if_congr hcond rfl rfl

theorem contextStalled_of (h : c.val ∈ z.scan.pending) : z.contextStalled c = { z with scan := { z.scan with
      pending := z.scan.pending.filter fun d => d ≠ c.val
      stalled := if (∀ d ∈ tilesOf (z.ctx c).tileset, z.recentOn d c = false) ∧ (z.ctx c).st = 1 ∧ (z.ctx c).cert = false ∧ c.val ∉ z.scan.stalled
        then z.scan.stalled ++ [c.val] else z.scan.stalled } } := by
  have hcond : (z.stalledNow c.val = true ∧ (z.ctx c).st = 1 ∧ (!(z.ctx c).cert) = true ∧ (!z.scan.stalled.contains c.val) = true) ↔
      ((∀ d ∈ tilesOf (z.ctx c).tileset, z.recentOn d c = false) ∧ (z.ctx c).st = 1 ∧ (z.ctx c).cert = false ∧ c.val ∉ z.scan.stalled) := by simp [State.stalledNow]
  unfold State.contextStalled
  rw [if_pos (List.contains_iff_mem.2 h)]
  refine (if_congr hcond rfl rfl).trans ?_
  split <;> rfl

end

/-! ### The drain of the victim (08 R200, R201) -/

section
variable {ch : Changes} {u s : State} {v : Nat}

theorem Only.setCtx_parts (h : Only ch u s) (st : s.Still) {c : Nat} (x : Ctx) (m : c ∈ ch.ctxs) (m' : ∀ p ∈ s.ctxParts, p ∈ ch.parts) : Only ch u (s.setCtx c x) := by
  cases hset : s.ctbaseSet with
  | true =>
    unfold State.ctxParts at m'
    rw [if_pos hset] at m'
    exact h.setCtx st x m (m' _ (by simp)) (m' _ (by simp))
  | false =>
    rw [setCtx_eq s st.banks st.dram, if_neg (by simp [hset])]
    exact h.ctxs_ x m

theorem not_mem_ctxParts {p : Part} (h : p ≠ .mem ∧ p ≠ .ecc) : p ∉ s.ctxParts := by
  unfold State.ctxParts
  split <;> simp [h]

/-- A context that has begun to close on its owning tile: its descriptor, the cached copies there and its tasks. -/
def State.closingOf (s : State) (c victim : Nat) : State :=
  ((s.setCtx c { s.ctx c with st := 2, acks := (s.ctx c).tileset, victim := victim }).onTile (ctxOwner c)
    fun x => { x with cache := x.cache.map fun e => if e.ctx = c then { e with closed := true } else e }).cancelTasks (ctxOwner c) c

theorem startClose_eq (st : s.Still) {c : Nat} (hst : (s.ctx c).st = 1) (htiles : (s.ctx c).tileset ≠ 0) (victim : Nat) :
    s.startClose c victim = (tilesOf (s.ctx c).tileset).foldl (fun s d => s.post (.close c d)) (s.closingOf c victim) := by
  obtain ⟨-, -, -, hctxs, -⟩ := closes_sent (tilesOf (s.ctx c).tileset) c (s.closingOf c victim)
  have hctx : ((tilesOf (s.ctx c).tileset).foldl (fun s d => s.post (.close c d)) (s.closingOf c victim)).ctx c =
      { s.ctx c with st := 2, acks := (s.ctx c).tileset, victim := victim } :=
    (congrArg (fun l => tget l Ctx.rst c) hctxs).trans (ctx_setCtx_self st c _)
  refine (if_pos hst).trans ?_
  unfold State.freeIfDone
  dsimp only
  unfold State.closingOf at hctx ⊢
  exact if_neg fun h => htiles ((congrArg Ctx.acks hctx).symm.trans h.2)

/-- What the close of a context changes, with its copy in memory only once CTBASE has been written. -/
theorem startClose_only (st : s.Still) {c : Nat} (hst : (s.ctx c).st = 1) (htiles : (s.ctx c).tileset ≠ 0) (victim : Nat) :
    Only { regs := [(.ORPHANS, ctxOwner c, 0)], tiles := [ctxOwner c], ctxs := [c], parts := .ctl :: s.ctxParts } s (s.startClose c victim) := by
  rw [startClose_eq st hst htiles]
  obtain ⟨-, hposts, -⟩ := closes_sent (tilesOf (s.ctx c).tileset) c (s.closingOf c victim)
  refine hposts (by simp) ?_
  exact Only.finc (Only.setTile (((Only.refl _ s).setCtx_parts st _ (by simp) (by simp +contextual)).onTile _ (by simp)) _ (by simp)) _ (.head _)

theorem Only.foldl_onTile (g : Tile → Tile) (l : List (Nat × Tile)) (hl : ∀ p ∈ l, p.1 ∈ ch.tiles) (h : Only ch u s) : Only ch u (l.foldl (fun s p => s.onTile p.1 g) s) := by
  induction l generalizing s with
  | nil => exact h
  | cons p l ih => exact ih (fun q hq => hl q (List.mem_cons_of_mem _ hq)) (h.onTile g (hl p List.mem_cons_self))

theorem Only.clearIdle (h : Only ch u s) (l : List Nat) (hl : ∀ p ∈ s.tiles, p.1 ∈ ch.tiles) : Only ch u (s.clearIdle l) := h.foldl_onTile _ _ hl

theorem dispSince_quiet (h : ∀ p ∈ u.tiles, ∀ e ∈ p.2.cache, e.disp = false ∧ u.count ≤ e.quietFor + u.scan.snap) (c : Nat) : u.dispSince c = false := by
  unfold State.dispSince
  rw [List.any_eq_false]
  intro p hp
  cases hfind : p.2.cache.find? fun e => e.ctx = c with
  | none => simp
  | some e =>
    obtain ⟨hdisp, hquiet⟩ := h p hp e (List.mem_of_find?_eq_some hfind)
    simp only [hdisp, Bool.false_or, decide_eq_true_eq]
    omega

theorem allThreads_lt {k : Nat × Nat} (h : k ∈ u.allThreads) : k.2 < 16 := by
  obtain ⟨p, -, rfl⟩ := List.mem_map.1 h
  exact Nat.mod_lt _ (by decide)

/-- The state in which the victim v is closed and its members' idle counts restart. -/
def State.victimClosed (u : State) (v : Nat) : State := ((u.startClose v 0x0D).inc F.DLKCNT_VICTIMS 0 0).clearIdle (u.scan.members.filter (· ≠ v))

theorem victimDrain_gone (hv : u.scan.victim = some v) (hst : (u.ctx v).st ≠ 1) : u.victimDrain = u.scanEnd := by
  unfold State.victimDrain
  rw [hv]
  exact if_pos hst

theorem victimDrain_closes (hv : u.scan.victim = some v) (hst : (u.ctx v).st = 1) (hquiet : ∀ c, u.dispSince c = false)
    (hthreads : ∀ c n, n < 16 → (u.thr c n).st = .free ∨ (u.thr c n).ctx ≠ v) :
    u.victimDrain = ((u.victimClosed v).scanReport v u.scan.members.length false).scanEnd := by
  have hnone : (u.allThreads.filter fun k => (u.thr k.1 k.2).st ≠ .free && (u.thr k.1 k.2).ctx = v) = [] := by
    rw [List.filter_eq_nil_iff]
    intro k hk
    simpa using (or_iff_not_imp_left.1 (hthreads k.1 k.2 (allThreads_lt hk)))
  unfold State.victimDrain
  rw [hv]
  dsimp only
  rw [if_neg (by simp [hst]), if_neg (by simp [hquiet]), hnone]
  rfl

/-- What the close of a victim may change. -/
def State.victimChanges (u : State) (v : Nat) : Changes :=
  { regs := [(.ORPHANS, v / 1024, 0), (.DLKLOG, 0, 0), (.DLKCNT, 0, 0), (.DPEND, 0, 0)], tiles := v / 1024 :: u.tiles.map (fun p => p.1), ctxs := [v], parts := [.ctl, .scan] ++ u.ctxParts }

section
variable (still : u.Still) (hst : (u.ctx v).st = 1) (htiles : (u.ctx v).tileset ≠ 0)
include still hst htiles

theorem startClose_tiles {p : Nat × Tile} (hp : p ∈ (u.startClose v 0x0D).tiles) : p.1 ∈ v / 1024 :: u.tiles.map fun p => p.1 := by
  obtain ⟨-, -, -, -, -, -, hkeys⟩ := startClose_facts still hst htiles 0x0D
  obtain h | h := hkeys p hp
  · rw [h]
    exact List.mem_cons_self
  · exact List.mem_cons_of_mem _ (List.mem_map.2 ⟨p, h, rfl⟩)

theorem victimClosed_after_inc : Only { tiles := v / 1024 :: u.tiles.map fun p => p.1 } ((u.startClose v 0x0D).inc F.DLKCNT_VICTIMS 0 0) (u.victimClosed v) :=
  (Only.refl _ _).clearIdle _ fun _ hp => startClose_tiles still hst htiles hp

theorem victimClosed_only : Only (u.victimChanges v) u (u.victimClosed v) := by
  refine Only.trans ?_ ((victimClosed_after_inc still hst htiles).weaken (by simp) (by simp) (by simp [State.victimChanges]) (by simp) (by simp) (by simp) (by simp))
  refine Only.inc ?_ (.tail _ (.tail _ (.head _)))
  refine (startClose_only still hst htiles 0x0D).weaken ?_ (by simp) ?_ (by simp) (by simp) (by simp [State.victimChanges]) ?_
  all_goals simp +contextual [State.victimChanges, ctxOwner]

theorem startClose_reg {k : RegKind} (a i : Nat) (h : k ≠ .ORPHANS) : (u.startClose v 0x0D).reg k a i = u.reg k a i :=
  (startClose_only still hst htiles 0x0D).regs _ _ _ (by simp [h])

theorem startClose_scan : (u.startClose v 0x0D).scan = u.scan :=
  (startClose_only still hst htiles 0x0D).parts .scan (by simp [not_mem_ctxParts])

theorem victimClosed_fget (f : Fld) (a i : Nat) : (u.victimClosed v).fget f a i = ((u.startClose v 0x0D).inc F.DLKCNT_VICTIMS 0 0).fget f a i :=
  fget_of (fun k a i => (victimClosed_after_inc still hst htiles).regs k a i (by simp)) f a i

theorem victimClosed_reg {k : RegKind} (a i : Nat) (h : k ≠ .ORPHANS) (h' : k ≠ .DLKCNT) : (u.victimClosed v).reg k a i = u.reg k a i :=
  calc (u.victimClosed v).reg k a i = ((u.startClose v 0x0D).inc F.DLKCNT_VICTIMS 0 0).reg k a i := (victimClosed_after_inc still hst htiles).regs k a i (by simp)
    _ = (u.startClose v 0x0D).reg k a i := reg_inc_kind (f := F.DLKCNT_VICTIMS) h'
    _ = u.reg k a i := startClose_reg still hst htiles a i h

theorem victimClosed_scans : (u.victimClosed v).fget F.DLKCNT_SCANS 0 0 = u.fget F.DLKCNT_SCANS 0 0 := by
  rw [victimClosed_fget still hst htiles, fget_inc_field (f := F.DLKCNT_VICTIMS) (f' := F.DLKCNT_SCANS) _ _ rfl (by decide)]
  exact congrArg (wbits · _ _) (startClose_reg still hst htiles 0 0 (by decide))

theorem victimClosed_counted : Counted u (u.victimClosed v) F.DLKCNT_VICTIMS 0 0 1 := by
  unfold Counted
  rw [victimClosed_fget still hst htiles, fget_inc _ _ _ _ (by decide)]
  rw [show (u.startClose v 0x0D).fget F.DLKCNT_VICTIMS 0 0 = u.fget F.DLKCNT_VICTIMS 0 0 from
    congrArg (wbits · _ _) (startClose_reg still hst htiles 0 0 (by decide))]

theorem victimClosed_ctx : (u.victimClosed v).ctx v = { u.ctx v with st := 2, acks := (u.ctx v).tileset, victim := 0x0D } :=
  ((victimClosed_after_inc still hst htiles).ctxs v (by simp)).trans (startClose_facts still hst htiles 0x0D).1

theorem victimClosed_ctl : (u.victimClosed v).ctl = u.ctl ++ (tilesOf (u.ctx v).tileset).map (.close v) :=
  ((victimClosed_after_inc still hst htiles).parts .ctl (by simp)).trans (startClose_facts still hst htiles 0x0D).2.1

theorem victimClosed_scan : (u.victimClosed v).scan = u.scan :=
  ((victimClosed_after_inc still hst htiles).parts .scan (by simp)).trans (startClose_scan still hst htiles)

theorem victimClosed_unwatched (w : u.Unwatched) : (u.victimClosed v).Unwatched :=
  (victimClosed_only still hst htiles).unwatched w (by simp [State.victimChanges]) (by simp [State.victimChanges, not_mem_ctxParts])

theorem victimDrained_reported (len : Nat) : ScanReported u ((u.victimClosed v).scanLogged v len false).scanEnd v len false := by
  have hcount : (u.victimClosed v).count = u.count := congrArg (wbits · _ _) (victimClosed_reg still hst htiles 0 0 (by decide) (by decide))
  exact (scanReported_scanLogged.of hcount (victimClosed_reg still hst htiles 0 0 (by decide) (by decide))).scanEnd

theorem victimDrained_ended (len : Nat) : ScanEnded u ((u.victimClosed v).scanLogged v len false).scanEnd :=
  scanEnded_scanEnd ((fget_scanLogged _ _ (by decide)).trans (victimClosed_scans still hst htiles)) (congrArg Scan.pending (victimClosed_scan still hst htiles))

theorem victimDrained_counted (len : Nat) : Counted u ((u.victimClosed v).scanLogged v len false).scanEnd F.DLKCNT_VICTIMS 0 0 1 :=
  (victimClosed_counted still hst htiles).kept (victims_scanEnd.trans (fget_scanLogged _ _ (by decide)))

theorem victimDrained_only (len : Nat) : Only (u.victimChanges v) u ((u.victimClosed v).scanLogged v len false).scanEnd :=
  ((victimClosed_only still hst htiles).scanLogged (by simp [State.victimChanges]) (by simp [State.victimChanges])).scanEnd
    (by simp [State.victimChanges]) (by simp [State.victimChanges])

theorem victimDrained_ctx (len : Nat) : ((u.victimClosed v).scanLogged v len false).scanEnd.ctx v = { u.ctx v with st := 2, acks := (u.ctx v).tileset, victim := 0x0D } :=
  (ctx_scanEnd_scanLogged v).trans (victimClosed_ctx still hst htiles)

theorem victimDrained_ctl (len : Nat) : ((u.victimClosed v).scanLogged v len false).scanEnd.ctl = u.ctl ++ (tilesOf (u.ctx v).tileset).map (.close v) :=
  ctl_scanEnd_scanLogged.trans (victimClosed_ctl still hst htiles)

/-- The victim is CLOSING, its tiles are told, and the scan has ended with its report. -/
theorem victimClosed_ends (w : u.Unwatched) (len : Nat) :
    let t := ((u.victimClosed v).scanReport v len false).scanEnd
    t.ctx v = { u.ctx v with st := 2, acks := (u.ctx v).tileset, victim := 0x0D } ∧ t.ctl = u.ctl ++ (tilesOf (u.ctx v).tileset).map (.close v) ∧
    ScanReported u t v len false ∧ ScanEnded u t ∧ Counted u t F.DLKCNT_VICTIMS 0 0 1 ∧ Only (u.victimChanges v) u t := by
  rw [scanReport_unwatched (victimClosed_unwatched still hst htiles w)]
  exact ⟨victimDrained_ctx still hst htiles len, victimDrained_ctl still hst htiles len, victimDrained_reported still hst htiles len, victimDrained_ended still hst htiles len,
    victimDrained_counted still hst htiles len, victimDrained_only still hst htiles len⟩

end

end

/-! ### The declaration of a strand deadlock (08 R203, R204) -/

section
variable {u s : State} {c b : Nat}

/-- The mask of the first k threads of a core that are in WAIT. -/
def State.waitMask (s : State) (c k : Nat) : Nat := (List.range k).foldl (fun m n => if (s.thr c n).st = .wait then m + 2 ^ n else m) 0

theorem waitMask_succ (k : Nat) : s.waitMask c (k + 1) = if (s.thr c k).st = .wait then s.waitMask c k + 2 ^ k else s.waitMask c k := by
  unfold State.waitMask
  rw [List.range_succ, List.foldl_append]
  rfl

theorem waitMask_lt (k : Nat) : s.waitMask c k < 2 ^ k := by
  induction k with
  | zero => exact Nat.one_pos
  | succ k ih =>
    rw [waitMask_succ, Nat.pow_succ]
    split <;> omega

theorem testBit_waitMask (k n : Nat) : (s.waitMask c k).testBit n = decide (n < k ∧ (s.thr c n).st = .wait) := by
  induction k with
  | zero => simp [State.waitMask]
  | succ k ih =>
    have hlow : n ≠ k → (n < k + 1 ↔ n < k) := by omega
    rw [waitMask_succ]
    by_cases hk : n = k
    · subst hk
      have hbit : (s.waitMask c n).testBit n = false := Nat.testBit_lt_two_pow (waitMask_lt n)
      split <;> rename_i hwait
      · rw [Nat.add_comm, Nat.testBit_two_pow_add_eq, hbit]
        simp [hwait]
      · simp [hbit, hwait]
    · simp only [hlow hk]
      split
      · rw [← ih, Nat.add_comm, ← Nat.mul_one (2 ^ k), Nat.testBit_two_pow_mul_add _ (waitMask_lt k)]
        split
        · rfl
        · rw [Nat.testBit_lt_two_pow (Nat.lt_of_lt_of_le (waitMask_lt k) (Nat.pow_le_pow_right (by decide) (by omega)))]
          rw [show (1 : Nat).testBit (n - k) = false from Nat.testBit_lt_two_pow (Nat.one_lt_two_pow (by omega))]
      · exact ih

/-- SDSTAT as its three fields give it. -/
theorem sdstat_fields {m a k : Nat} (hm : m < 2 ^ 16) (ha : a < 2 ^ 2) (hk : k < 2 ^ 40) :
    (∀ n < 16, (wd (m + a * 2 ^ 16 + k * 2 ^ 24)).getLsbD n = m.testBit n) ∧ wbits (wd (m + a * 2 ^ 16 + k * 2 ^ 24)) 16 2 = a ∧
    wbits (wd (m + a * 2 ^ 16 + k * 2 ^ 24)) 24 40 = k := by
  have htoNat : (wd (m + a * 2 ^ 16 + k * 2 ^ 24)).toNat = m + a * 2 ^ 16 + k * 2 ^ 24 := by
    unfold wd
    rw [BitVec.toNat_ofNat, Nat.mod_eq_of_lt (by omega)]
  unfold wbits bits
  rw [htoNat]
  refine ⟨fun n hn => ?_, by omega, by omega⟩
  rw [BitVec.getLsbD, htoNat, show m + a * 2 ^ 16 + k * 2 ^ 24 = 2 ^ 16 * (a + k * 2 ^ 8) + m by omega, Nat.testBit_two_pow_mul_add _ hm, if_pos hn]

/-- The declaration as SDSTAT records it. -/
def State.sdWord (u : State) (c : Nat) : Word := wd (u.waitMask c 16 + u.fget F.PRGCFG_SDACT c 0 * 2 ^ 16 + u.count % 2 ^ 40 * 2 ^ 24)

/-- The state with the declaration counted, recorded in SDSTAT and, on a tile, raised. -/
def State.sdRaised (u : State) (c : Nat) : State :=
  let s := (u.inc F.SDLK_DETECT_COUNT c 0).setReg .SDSTAT c 0 (u.sdWord c)
  if c < 64 then s.raiseTile c 1 else s

/-- The state in which a strand deadlock is declared, with its action due at the next beat. -/
def State.sdDeclared (u : State) (c : Nat) : State := (u.sdRaised c).onTile c fun x => { x with sdDone := true, sdAct := some (8 * (u.now / 8 + 1)) }

theorem strandDeadlock_declares (hwait : (u.tile c).allWait = some b) (hen : u.fget F.PRGCFG_SDEN c 0 = 1) (hdone : (u.tile c).sdDone = false) (hall : u.allWaitNow c = true)
    (hdue : 8 * ((b + 7) / 8 + u.stroke.period) ≤ u.now + 1) : u.strandDeadlock c = u.sdDeclared c := by
  have hbeat : (u.tile c).waitBeat = some ((b + 7) / 8) := by
    unfold Tile.waitBeat
    rw [hwait]
    rfl
  unfold State.strandDeadlock
  dsimp only
  rw [hbeat]
  dsimp only
  rw [if_pos ⟨hen, by simp [hdone], hdue, hall⟩]
  unfold State.sdDeclared State.sdRaised
  dsimp only
  split <;> rfl

theorem sdRaised_tile (d : Nat) : (u.sdRaised c).tile d = u.tile d := by
  unfold State.sdRaised
  dsimp only
  split <;> rfl

theorem sdRaised_reg {k : RegKind} (a i : Nat) (h : k ≠ .IPEND) : (u.sdRaised c).reg k a i = ((u.inc F.SDLK_DETECT_COUNT c 0).setReg .SDSTAT c 0 (u.sdWord c)).reg k a i := by
  unfold State.sdRaised
  dsimp only
  split
  · exact State.reg_setReg_ne _ _ (by simp [h])
  · rfl

theorem sdDeclared_sdstat : (u.sdDeclared c).reg .SDSTAT c 0 = u.sdWord c := (sdRaised_reg c 0 (by decide)).trans (State.reg_setReg_self ..)

theorem sdDeclared_counted : Counted u (u.sdDeclared c) F.SDLK_DETECT_COUNT c 0 1 := by
  have hkept : (u.sdDeclared c).fget F.SDLK_DETECT_COUNT c 0 = ((u.inc F.SDLK_DETECT_COUNT c 0).setReg .SDSTAT c 0 (u.sdWord c)).fget F.SDLK_DETECT_COUNT c 0 :=
    congrArg (wbits · _ _) (sdRaised_reg c 0 (by decide))
  unfold Counted
  rw [hkept, fget_setReg_kind _ (by decide), fget_inc _ _ _ _ (by decide)]

theorem sdDeclared_ipend (h : c < 64) : (u.sdDeclared c).reg .IPEND c 0 = u.reg .IPEND c 0 ||| 2 := by
  have hraised : u.sdRaised c = ((u.inc F.SDLK_DETECT_COUNT c 0).setReg .SDSTAT c 0 (u.sdWord c)).raiseTile c 1 := if_pos h
  have hkept : ((u.inc F.SDLK_DETECT_COUNT c 0).setReg .SDSTAT c 0 (u.sdWord c)).reg .IPEND c 0 = u.reg .IPEND c 0 :=
    (State.reg_setReg_ne _ _ (by simp)).trans (reg_inc_kind (f := F.SDLK_DETECT_COUNT) (by decide))
  change (u.sdRaised c).reg .IPEND c 0 = _
  rw [hraised]
  refine (State.reg_setReg_self ..).trans ?_
  rw [hkept]
  rfl

theorem sdDeclared_only : Only { regs := (.SDLK_DETECT, c, 0) :: (.SDSTAT, c, 0) :: (if c < 64 then [(.IPEND, c, 0)] else []), tiles := [c] } u (u.sdDeclared c) := by
  refine Only.onTile ?_ _ (by simp)
  have hlogged : ∀ {ch : Changes}, (.SDLK_DETECT, c, 0) ∈ ch.regs → (.SDSTAT, c, 0) ∈ ch.regs →
      Only ch u ((u.inc F.SDLK_DETECT_COUNT c 0).setReg .SDSTAT c 0 (u.sdWord c)) := fun m m' => ((Only.refl _ u).inc m).setReg _ m'
  unfold State.sdRaised
  dsimp only
  by_cases h : c < 64
  · rw [if_pos h, if_pos h]
    exact (hlogged (by simp) (by simp)).raiseTile (by simp)
  · rw [if_neg h, if_neg h]
    exact hlogged (by simp) (by simp)

end

/-! ### The action of a declaration (08 R205, R206) -/

section
variable {u s : State} {c b n : Nat}

/-- The state in which the action of a declaration is no longer due. -/
def State.sdTaken (u : State) (c : Nat) : State := u.onTile c fun x => { x with sdAct := none }

theorem sdTaken_tile : (u.sdTaken c).tile c = { u.tile c with sdAct := none } := State.tile_setTile_self ..

theorem sdTaken_only {ch : Changes} (m : c ∈ ch.tiles) : Only ch u (u.sdTaken c) := (Only.refl _ u).onTile _ m

theorem sdTaken_forall_tiles {P : Tile → Prop} (h : ∀ p ∈ u.tiles, P p.2) (hrst : P Tile.rst) (hact : ∀ x, P x → P { x with sdAct := none }) :
    ∀ p ∈ (u.sdTaken c).tiles, P p.2 := by
  intro p hp
  obtain rfl | hp := mem_tput hp
  · refine hact _ ?_
    obtain hmem | hdef := tget_mem u.tiles Tile.rst c
    · exact h _ hmem
    · exact (congrArg P hdef).mpr hrst
  · exact h p hp

section
variable (hact : (u.tile c).sdAct = some b) (hdue : b ≤ u.now)
include hact hdue

theorem strandAct_nothing (h : u.fget F.SDSTAT_ACTN c 0 = 0) : u.strandAct c = u.sdTaken c := by
  unfold State.strandAct
  rw [hact]
  dsimp only
  rw [if_neg (Nat.not_lt.2 hdue), h, if_neg (by decide), if_neg (by decide)]
  rfl

/-- An action of waking, by whether a wake of a thread stands in the ready lists. -/
theorem strandAct_one (h : u.fget F.SDSTAT_ACTN c 0 = 1) : u.strandAct c =
    if ((u.tile c).ready ++ (u.tile c).c0q).any isThreadTask = true then (u.sdTaken c).inc F.SDLK_WDRAWN_COUNT c 0
    else match oldestWait (u.sdTaken c) (fun x => x.st = .wait && x.wres = none) (coreThreads c) with
      | some (_, n) => (u.sdTaken c).deadlockWake c n
      | none => u.sdTaken c := by
  have hready : (u.onTile c fun x => { x with sdAct := none }).tile c = { u.tile c with sdAct := none } := sdTaken_tile
  unfold State.strandAct
  rw [hact]
  dsimp only
  rw [if_neg (Nat.not_lt.2 hdue), if_pos h, hready, List.any_append]
  rfl

end

theorem oldestWait_strict (hn : n < 16) (hst : (u.thr c n).st = .wait) (hres : (u.thr c n).wres = none)
    (hleast : ∀ k < 16, k ≠ n → (u.thr c k).st = .wait → (u.thr c k).wres = none → (u.thr c n).since < (u.thr c k).since) :
    oldestWait u (fun x => x.st = .wait && x.wres = none) (coreThreads c) = some (c, n) := by
  refine minBy_least (List.mem_filter.2 ⟨List.mem_map.2 ⟨n, List.mem_range.2 hn, rfl⟩, by simp [hst, hres]⟩) fun k hk => ?_
  obtain ⟨hmem, hwaits⟩ := List.mem_filter.1 hk
  obtain ⟨j, hj, rfl⟩ := List.mem_map.1 hmem
  by_cases e : j = n
  · exact .inl (e ▸ rfl)
  · obtain ⟨hjst, hjres⟩ : (u.thr c j).st = .wait ∧ (u.thr c j).wres = none := by simpa using hwaits
    exact .inr (hleast j (List.mem_range.1 hj) e hjst hjres)

/-- A thread that stands in no waiter table and no lock queue has nothing to leave. -/
theorem dropWaiter_absent (h : ∀ p ∈ s.tiles, (∀ w ∈ p.2.waiters, ¬(w.core = c ∧ w.n = n)) ∧ ∀ r ∈ p.2.lockq, ¬(r.core = c ∧ r.n = n)) : s.dropWaiter c n = s := by
  have hwaiters : (s.tiles.flatMap fun t => (t.2.waiters.filter fun w => w.core = c && w.n = n).map fun w => (t.1, w.cell)) = [] := by
    rw [List.flatMap_eq_nil_iff]
    intro p hp
    rw [List.map_eq_nil_iff, List.filter_eq_nil_iff]
    exact fun w hw => by simpa using (h p hp).1 w hw
  have hrequests : ∀ l : List (Nat × Tile), (∀ p ∈ l, ∀ r ∈ p.2.lockq, ¬(r.core = c ∧ r.n = n)) →
      l.foldl (fun s t => if t.2.lockq.any (fun r => r.core = c && r.n = n) then s.onTile t.1 fun x => { x with lockq := x.lockq.filter fun r => !(r.core = c && r.n = n) } else s) s = s := by
    intro l hl
    induction l with
    | nil => rfl
    | cons p l ih =>
      have hnone : p.2.lockq.any (fun r => r.core = c && r.n = n) = false := List.any_eq_false.2 fun r hr => by simpa using hl p List.mem_cons_self r hr
      rw [List.foldl_cons, hnone]
      exact ih fun q hq => hl q (List.mem_cons_of_mem _ hq)
  unfold State.dropWaiter
  dsimp only
  rw [hwaiters]
  exact hrequests s.tiles fun p hp => (h p hp).2

/-- The DEADLOCK wake of a thread that no lock group holds is its wake alone. -/
theorem deadlockWake_absent (h : ∀ p ∈ s.tiles, (∀ w ∈ p.2.waiters, ¬(w.core = c ∧ w.n = n)) ∧ ∀ r ∈ p.2.lockq, ¬(r.core = c ∧ r.n = n)) :
    s.deadlockWake c n = s.wake c n (.status 0x800000000000000D) := by
  unfold State.deadlockWake
  rw [dropWaiter_absent h]

theorem sdTaken_wake (hn : n < 16) (hst : (u.thr c n).st = .wait) (hres : (u.thr c n).wres = none) (r : WakeRes) :
    Woken u ((u.sdTaken c).wake c n r) c n r { u.tile c with sdAct := none } ∧ Only (wakeChanges c n) u ((u.sdTaken c).wake c n r) := by
  obtain ⟨hthr, htile⟩ := woken_wake (s := u.sdTaken c) hst hres r
  rw [sdTaken_tile] at htile
  exact ⟨⟨hthr, htile⟩, (sdTaken_only (by simp [wakeChanges])).wake r hn (by simp [wakeChanges]) (by simp [wakeChanges]) (by simp [wakeChanges])⟩

theorem strandAct_wakes (hact : (u.tile c).sdAct = some b) (hdue : b ≤ u.now) (h : u.fget F.SDSTAT_ACTN c 0 = 1)
    (hwoken : ((u.tile c).ready ++ (u.tile c).c0q).any isThreadTask = false) (hn : n < 16) (hst : (u.thr c n).st = .wait) (hres : (u.thr c n).wres = none)
    (hleast : ∀ k < 16, k ≠ n → (u.thr c k).st = .wait → (u.thr c k).wres = none → (u.thr c n).since < (u.thr c k).since)
    (habsent : ∀ p ∈ u.tiles, (∀ w ∈ p.2.waiters, ¬(w.core = c ∧ w.n = n)) ∧ ∀ r ∈ p.2.lockq, ¬(r.core = c ∧ r.n = n)) :
    u.strandAct c = (u.sdTaken c).wake c n (.status 0x800000000000000D) := by
  have hold : oldestWait (u.sdTaken c) (fun x => x.st = .wait && x.wres = none) (coreThreads c) = some (c, n) := oldestWait_strict (u := u.sdTaken c) hn hst hres hleast
  rw [strandAct_one hact hdue h, hwoken, if_neg (by decide), hold]
  exact deadlockWake_absent (sdTaken_forall_tiles (P := fun x => (∀ w ∈ x.waiters, ¬(w.core = c ∧ w.n = n)) ∧ ∀ r ∈ x.lockq, ¬(r.core = c ∧ r.n = n))
    habsent ⟨nofun, nofun⟩ fun _ hx => hx)

end

/-! ### The statement -/

/-- Settles O31: the scan by what its operations answer (`snapshotComplete_victim`, whose paths are those of `mem_reachSet_succs`, and `victimDrain_closes`), the strand deadlock by `strandDeadlock_declares` and the action's three cases. -/
theorem deadlocksAreFoundAndActedOn : Obligations.DeadlocksAreFoundAndActedOn := by
  unfold Obligations.DeadlocksAreFoundAndActedOn
  refine ⟨⟨?stall, ?stalled, ?snapshot, ?drain⟩, ?declares, ?acts⟩
  case stall =>
    intro z c d rest hmsg
    refine ⟨_, rfl, ?_⟩
    rw [stallReport_of hmsg]
    have htaken : Only { parts := [.ctl, .scan] } z { z with ctl := rest } := (Only.refl _ z).ctl_ _ (by simp)
    split
    · exact ⟨rfl, rfl, htaken.scan_ _ (by simp)⟩
    · exact ⟨rfl, rfl, htaken⟩
  case stalled =>
    intro z c hpending
    refine ⟨_, rfl, ?_⟩
    rw [contextStalled_of hpending]
    exact ⟨rfl, (Only.refl _ z).scan_ _ (by simp)⟩
  case snapshot =>
    intro z dt u htaken hnone
    refine ⟨fun v hvictim => ⟨fun hmay => ?_, fun hmay w => ?_⟩, fun hacyclic => ?_⟩ <;> refine ⟨u.snapshotComplete, rfl, ?_⟩
    · rw [snapshotComplete_victim htaken hnone hvictim, if_pos hmay]
      refine ⟨rfl, fun c => mem_cycleOf, ?_, (Only.refl _ u).scan_ _ (by simp)⟩
      rw [← hnone]
    · rw [snapshotComplete_victim htaken hnone hvictim, if_neg hmay]
      obtain ⟨hreported, hrest⟩ := scanReport_ends w
      exact ⟨⟨_, hreported⟩, hrest⟩
    · rw [snapshotComplete_acyclic htaken hnone hacyclic]
      exact scanEnd_ends
  case drain =>
    intro z dt v u hvictim
    refine ⟨fun hst => ?_, fun hst hquiet hthreads htiles still w _ => ?_⟩ <;> refine ⟨u.victimDrain, rfl, ?_⟩
    · rw [victimDrain_gone hvictim hst]
      exact scanEnd_ends
    · rw [victimDrain_closes hvictim hst (dispSince_quiet hquiet) hthreads]
      exact victimClosed_ends still hst (fun h => htiles (by rw [h]; rfl)) w _
  case declares =>
    intro z dt c b u hwait hen hdone hall hdue
    refine ⟨u.strandDeadlock c, rfl, ?_⟩
    rw [strandDeadlock_declares hwait hen hdone hall hdue]
    obtain ⟨hmask, hact, hstroke⟩ := sdstat_fields (waitMask_lt (s := u) (c := c) 16) (u.fget_lt F.PRGCFG_SDACT c 0) (Nat.mod_lt u.count (Nat.two_pow_pos 40))
    refine ⟨?tile, sdDeclared_counted, fun n hn => ?mask, ?act, ?stroke, sdDeclared_ipend, sdDeclared_only⟩
    case tile => exact (State.tile_setTile_self ..).trans (by rw [sdRaised_tile])
    case mask =>
      rw [sdDeclared_sdstat]
      exact (hmask n hn).trans ((testBit_waitMask 16 n).trans (by simp [hn]))
    case act =>
      unfold State.fget at hact ⊢
      rw [show F.SDSTAT_ACTN.kind = .SDSTAT from rfl, sdDeclared_sdstat]
      exact hact
    case stroke =>
      rw [sdDeclared_sdstat]
      exact hstroke
  case acts =>
    intro z dt c b u y woken hact hdue
    refine ⟨fun h => ?_, fun h hwoken => ?_, fun n hn h hwoken hst hres hleast habsent => ?_⟩ <;> refine ⟨u.strandAct c, rfl, ?_⟩
    · rw [strandAct_nothing hact hdue h]
      exact ⟨sdTaken_tile, sdTaken_only (by simp)⟩
    · rw [strandAct_one hact hdue h, if_pos hwoken]
      exact ⟨sdTaken_tile, fget_inc (u.sdTaken c) _ _ _ (by decide), (sdTaken_only (by simp)).inc (.head _)⟩
    · rw [strandAct_wakes hact hdue h hwoken hn hst hres hleast habsent]
      exact sdTaken_wake hn hst hres _

end Sys2Proof.Machine

/-! Configuration of links (09 R217, R218; 05 R130; 06 R144): a write that is refused, made by a thread in the shadow of a load. -/
namespace Sys2Proof.Machine

/-! ### MODE of an enabled link (09 R218) -/

/-- The thread in the shadow of its load, with catch link 0 enabled in MODE 0. -/
def inShadowLink : State := inShadow.setReg .CLCFG 0 0 1

/-- EN = 1 with MODE = 1. -/
def enOtherMode : Word := 3

theorem inShadowLink_canTell : inShadowLink.canTell (.thread 64 0) := ⟨by decide, by decide, by decide, fun h => absurd h (by decide)⟩

theorem inShadowLink_passes_enOtherMode : inShadowLink.Passes (.thread 64 0) .CLCFG 0 0 enOtherMode where
  dev := by decide
  host := by decide
  right := by decide
  reserved := by decide
  values := by decide
  rws := .inr (by decide)

theorem inShadowLink_linkEnable : exec (.linkEnable (.thread 64 0) (.catch_ 0) enOtherMode) inShadowLink = .next (inShadowLink.trap 64 0 3 0 false) := rfl

/-- Refutes O43: a READY thread whose load has arrived in its shadow writes another MODE to a catch link that is enabled. The trap lands the load in w1 (05 R130), where `RefusedWith` has the registers of a thread with no load open. -/
theorem not_linksComeUpKeepTimeAndAreLost : ¬ Obligations.LinksComeUpKeepTimeAndAreLost := by
  unfold Obligations.LinksComeUpKeepTimeAndAreLost
  rintro ⟨-, -, -, hconfig, -⟩
  obtain ⟨henable, -⟩ := hconfig inShadowLink (.thread 64 0) (.catch_ 0) enOtherMode inShadowLink_passes_enOtherMode
  obtain ⟨hrefused, -⟩ := henable (by decide)
  exact not_completes_refusedWith inShadowLink_linkEnable inShadow_lands (hrefused (by decide) nofun inShadowLink_canTell)

end Sys2Proof.Machine

/-! Link blocks (09 R210 to R214, R231; 11 R287 to R290, R301): what each control block does to the link that takes it. -/
namespace Sys2Proof.Machine

/-! ### A field that is written with what it holds -/

/-- A field keeps what it is set to, by its low bits. -/
theorem wset_mod (w : Word) (lo len v : Nat) : wset w lo len (v % 2 ^ len) = wset w lo len v := by
  unfold wset setBits
  rw [Nat.mod_mod]

/-- A field set to what it reads leaves the word. -/
theorem wset_wbits (w : Word) (lo len : Nat) : wset w lo len (wbits w lo len) = w := by
  apply BitVec.eq_of_toNat_eq
  apply Nat.eq_of_testBit_eq
  intro i
  rw [testBit_wset]
  by_cases hi : i < 64
  · unfold wbits
    rw [testBit_bits]
    by_cases hfield : lo ≤ i ∧ i < lo + len
    · rw [if_pos hfield, Nat.sub_add_cancel hfield.1]
      have : i - lo < len := by omega
      simp [hi, this]
    · rw [if_neg hfield]
      simp [hi]
  · have : w.toNat.testBit i = false := Nat.testBit_lt_two_pow (w.isLt.trans_le (Nat.pow_le_pow_right (by decide) (by omega)))
    simp [hi, this]

section
variable {u s t : State} {f : Fld} {a i v : Nat}

theorem reg_fset_same (h : v = s.fget f a i) (k : RegKind) (b j : Nat) : (s.fset f a i v).reg k b j = s.reg k b j := by
  by_cases hreg : (k, b, j) = (f.kind, a, i)
  · obtain ⟨rfl, rfl, rfl⟩ := Prod.mk.inj hreg |>.imp_right Prod.mk.inj
    rw [h, State.fset, State.reg_setReg_self]
    exact wset_wbits ..
  · exact State.reg_fset_ne _ _ hreg

/-- A field that is written with what it holds is no change. -/
theorem Only.fset_same {ch : Changes} (o : Only ch u s) (h : v = s.fget f a i) : Only ch u (s.fset f a i v) where
  queue := o.queue
  regs k b j n := (reg_fset_same h k b j).trans (o.regs k b j n)
  threads := o.threads
  tiles := o.tiles
  lanes := o.lanes
  links := o.links
  ctxs := o.ctxs
  parts := o.parts

theorem Only.finc_zero {ch : Changes} (o : Only ch u s) (f : Fld) (a i : Nat) : Only ch u (s.finc f a i 0) :=
  o.fset_same (Nat.min_eq_right (Nat.le_sub_one_of_lt (s.fget_lt f a i)))

end

theorem State.fget_onLink (s : State) (k : LinkId) (g : Link → Link) (f : Fld) (a i : Nat) : (s.onLink k g).fget f a i = s.fget f a i := rfl

/-! ### LIVE (09 R210, R215, R218) -/

section
variable {u s t : State} {k : LinkId} {b : List Byte} {fec : Nat}

/-- What a link without changes reads. -/
theorem Only.linkSt (h : Only {} u s) (k : LinkId) : s.linkSt k = u.linkSt k := congrArg (wbits · _ _) (h.regs _ _ _ (by simp))

/-- A block that is discarded where nothing else has changed. -/
theorem Discarded.of_only (h : Only {} u s) (d : Discarded s t k) : Discarded u t k := by
  have hlink : s.link k = u.link k := h.links k (by simp)
  have hlift : ∀ {ch : Changes}, Only ch u s := fun {ch} => h.weaken nofun nofun nofun nofun nofun nofun nofun
  unfold Discarded Counts Sets State.fget at d ⊢
  rw [h.linkSt] at d
  split
  · next hst =>
    rw [if_pos hst] at d
    exact hlift.trans d
  · next hst =>
    rw [if_neg hst, hlink, h.regs _ _ _ (by simp)] at d
    obtain ⟨hcount, hdrop, honly⟩ := d
    exact ⟨hcount, hdrop, hlift.trans honly⟩

/-- The codewords that were corrected since the last LIVE are counted where the link corrects them. -/
def State.countFec (u : State) (k : LinkId) (fec : Nat) : State :=
  if u.fget (lkF k F.CLCFG_MODE F.FLCFG_MODE) 0 (lkIx k) = 0 ∧ 2 ≤ u.linkSt k then u.finc (lkF k F.CLCNT0_FECCOR F.FLCNT0_FECCOR) 0 (lkIx k) fec else u

theorem rxLive_eq : u.rxLive k b fec = (u.countFec k fec).takeBlock k 2 1 [] b fun s => s.onLink k fun x => { x with liveRx := s.now, liveSeen := true } := rfl

theorem feccor_kind (k : LinkId) : (lkF k F.CLCNT0_FECCOR F.FLCNT0_FECCOR).kind = lkCnt k := by cases k <;> rfl

theorem linkSt_countFec : (u.countFec k fec).linkSt k = u.linkSt k := by
  unfold State.countFec
  split
  · cases k
    · exact fget_finc_kind (f := F.CLCNT0_FECCOR) (f' := F.CLSTAT_STATE) _ (by decide)
    · exact fget_finc_kind (f := F.FLCNT0_FECCOR) (f' := F.FLSTAT_STATE) _ (by decide)
  · rfl

theorem link_countFec : (u.countFec k fec).link k = u.link k := by unfold State.countFec; split <;> rfl

theorem now_countFec : (u.countFec k fec).now = u.now := by unfold State.countFec; split <;> rfl

theorem Only.countFec {ch : Changes} (m : (lkCnt k, 0, lkIx k) ∈ ch.regs) : Only ch u (u.countFec k fec) := by
  unfold State.countFec
  split
  · exact (Only.refl _ u).finc _ (by rwa [feccor_kind])
  · exact Only.refl _ u

/-- Below LOCK, in a mode without correction, or with none corrected, nothing is counted. -/
theorem countFec_none (h : u.linkSt k < 2 ∨ u.fget (lkF k F.CLCFG_MODE F.FLCFG_MODE) 0 (lkIx k) ≠ 0 ∨ fec = 0) : Only {} u (u.countFec k fec) := by
  unfold State.countFec
  split
  · next hcounts =>
    obtain ⟨hmode, hst⟩ := hcounts
    obtain rfl : fec = 0 := by omega
    exact (Only.refl _ u).finc_zero ..
  · exact Only.refl _ u

theorem takeBlock_bad {least ctype : Nat} {named : List Nat} {f : State → State} (h : blockOk ctype named b = false) : s.takeBlock k least ctype named b f = s.discardBlock k :=
  if_neg (by simp [h])

theorem takeBlock_below {least ctype : Nat} {named : List Nat} {f : State → State} (h : blockOk ctype named b = true) (hst : s.linkSt k < least) :
    s.takeBlock k least ctype named b f = s := by
  unfold State.takeBlock
  rw [if_pos h, if_neg (by omega)]

theorem takeBlock_acts {least ctype : Nat} {named : List Nat} {f : State → State} (h : blockOk ctype named b = true) (hst : least ≤ s.linkSt k) :
    s.takeBlock k least ctype named b f = f s := by
  unfold State.takeBlock
  rw [if_pos h, if_pos hst]

theorem rxLive_bad (h : blockOk 1 [] b = false) (hnone : u.fget (lkF k F.CLCFG_MODE F.FLCFG_MODE) 0 (lkIx k) ≠ 0 ∨ fec = 0) : Discarded u (u.rxLive k b fec) k := by
  rw [rxLive_eq, takeBlock_bad h]
  exact (discardBlock_discarded ..).of_only (countFec_none (.inr hnone))

theorem rxLive_below (h : blockOk 1 [] b = true) (hst : u.linkSt k < 2) : Only {} u (u.rxLive k b fec) := by
  rw [rxLive_eq, takeBlock_below h (linkSt_countFec.trans_lt hst)]
  exact countFec_none (.inl hst)

theorem rxLive_acts (h : blockOk 1 [] b = true) (hst : 2 ≤ u.linkSt k) :
    u.rxLive k b fec = (u.countFec k fec).setLink k { u.link k with liveRx := u.now, liveSeen := true } := by
  rw [rxLive_eq, takeBlock_acts h (by rwa [linkSt_countFec])]
  unfold State.onLink
  rw [link_countFec, now_countFec]

theorem countFec_counts (hst : 2 ≤ u.linkSt k) (hmode : u.fget (lkF k F.CLCFG_MODE F.FLCFG_MODE) 0 (lkIx k) = 0) :
    Counts u (u.countFec k fec) (lkF k F.CLCNT0_FECCOR F.FLCNT0_FECCOR) 0 (lkIx k) fec := by
  unfold State.countFec
  rw [if_pos ⟨hmode, hst⟩]
  exact State.reg_setReg_self ..

end

/-! ### ACK, NAK (09 R213) -/

section
variable {x : Link} {n now next : Nat} {c r : List (Nat × List Word)} {p : Nat × List Word}

theorem dropWhile_unack (h : x.unack = c ++ p :: r) (hp : p.1 = n) (hc : ∀ q ∈ c, q.1 ≠ n) : x.unack.dropWhile (fun q => q.1 ≠ n) = p :: r := by
  rw [h, List.dropWhile_append_of_pos (fun q hq => decide_eq_true (hc q hq)), List.dropWhile_cons_of_neg (by simp [hp])]

theorem dropWhile_unack_none (h : ∀ q ∈ x.unack, q.1 ≠ n) : x.unack.dropWhile (fun q => q.1 ≠ n) = [] :=
  List.dropWhile_eq_nil_iff.2 fun q hq => decide_eq_true (h q hq)

theorem acked_of (h : x.unack = c ++ p :: r) (hp : p.1 = n) (hc : ∀ q ∈ c, q.1 ≠ n) :
    x.acked n now = { x with unack := r, replayq := x.replayq.filter (fun q => r.any fun e => e.1 = q.1), ackRx := now } := by
  have hany : x.unack.any (fun q => q.1 = n) = true := List.any_eq_true.2 ⟨p, by simp [h], by simp [hp]⟩
  unfold Link.acked
  rw [if_pos hany, dropWhile_unack h hp hc]
  rfl

theorem acked_none (h : ∀ q ∈ x.unack, q.1 ≠ n) : x.acked n now = x :=
  if_neg (by simpa [Prod.forall] using fun y hy => h (n, y) hy)

theorem replayFrom_of (h : x.unack = c ++ p :: r) (hp : p.1 = n) (hc : ∀ q ∈ c, q.1 ≠ n) : x.replayFrom n next = { x with replayq := p :: r, replayDue := some n } := by
  unfold Link.replayFrom
  rw [dropWhile_unack h hp hc]
  subst hp
  rfl

theorem replayFrom_none (h : ∀ q ∈ x.unack, q.1 ≠ n) : x.replayFrom n next = { x with replayq := [], replayDue := some next } := by
  unfold Link.replayFrom
  rw [dropWhile_unack_none h]

end

section
variable {u : State} {k : LinkId}

theorem onLink_is {g : Link → Link} {x : Link} (h : g (u.link k) = x) : (u.onLink k g).link k = x ∧ Only { links := [k] } u (u.onLink k g) :=
  ⟨(State.link_setLink_self ..).trans h, (Only.refl _ u).onLink _ (by simp)⟩

/-- A link that becomes what it is. -/
theorem Only.onLink_same {g : Link → Link} (h : g (u.link k) = u.link k) : Only {} u (u.onLink k g) where
  queue := rfl
  regs _ _ _ _ := rfl
  threads _ _ _ _ := rfl
  tiles _ _ := rfl
  lanes _ _ := rfl
  links j _ := by
    by_cases hj : j = k
    · subst hj
      exact (onLink_is h).1
    · exact State.link_setLink_ne _ _ hj
  ctxs _ _ := rfl
  parts p _ := by cases p <;> simp [Part.same, State.onLink]

end

/-! ### IDENT (11 R290) -/

theorem blkNum_lt (b : List Byte) (i n : Nat) : blkNum b i n < 256 ^ n :=
  (ofBytes_lt _).trans_le (Nat.pow_le_pow_right (by decide) (List.length_take_le ..))

section
variable {u : State} {l : Fin 16} {b : List Byte}

/-- The partner's number is shown, and that an IDENT has come. -/
def State.named (u : State) (l : Fin 16) (n : Nat) : State := (u.fset F.FLSTAT_PDEV 0 l n).onLink (.fabric l) fun x => { x with ident := true }

/-- What an IDENT does to a link that takes it. -/
def State.identified (u : State) (l : Fin 16) (n : Nat) : State :=
  if (u.named l n).linkSt (.fabric l) = 2 then (u.named l n).fset F.FLSTAT_MISWIRE 0 l (b2n (!(u.named l n).peerOk (.fabric l))) else u.named l n

theorem execIdent_eq (dt : Nat) (l : Fin 16) (b : List Byte) (z : State) :
    exec (.ident dt l b) z = .next ((z.advance dt).takeBlock (.fabric l) 2 0x0F [1, 2, 3] b fun u => u.identified l (blkNum b 1 2)) := rfl

variable {n : Nat}

theorem linkSt_named : (u.named l n).linkSt (.fabric l) = u.linkSt (.fabric l) :=
  State.fget_fset_field (f := F.FLSTAT_PDEV) (f' := F.FLSTAT_STATE) _ _ _ _ rfl (by decide)

theorem link_named : (u.named l n).link (.fabric l) = { u.link (.fabric l) with ident := true } := State.link_setLink_self ..

theorem pdev_named (hn : n < 2 ^ 16) : (u.named l n).fget F.FLSTAT_PDEV 0 l = n := (State.fget_fset_self u F.FLSTAT_PDEV 0 l n (by decide)).trans (Nat.mod_eq_of_lt hn)

theorem peerOk_named (hn : n < 2 ^ 16) : (u.named l n).peerOk (.fabric l) = decide (u.fget F.FLCFG_PEERV 0 l = 0 ∨ n = u.fget F.FLCFG_PEER 0 l) := by
  have hkeep : ∀ f : Fld, f.kind = .FLCFG → (u.named l n).fget f 0 l = u.fget f 0 l := fun f hf => fget_fset_kind (f := F.FLSTAT_PDEV) _ (by rw [hf]; decide)
  unfold State.peerOk
  rw [link_named]
  change (false || (true && (decide ((u.named l n).fget F.FLCFG_PEERV 0 l = 0) || decide ((u.named l n).fget F.FLSTAT_PDEV 0 l = (u.named l n).fget F.FLCFG_PEER 0 l)))) = _
  rw [hkeep F.FLCFG_PEERV rfl, hkeep F.FLCFG_PEER rfl, pdev_named hn]
  simp

theorem link_identified : (u.identified l n).link (.fabric l) = { u.link (.fabric l) with ident := true } := by
  unfold State.identified
  split
  · exact link_named
  · exact link_named

theorem only_identified : Only { regs := [(.FLSTAT, 0, l)], links := [.fabric l] } u (u.identified l n) := by
  have hnamed : Only { regs := [(.FLSTAT, 0, l)], links := [.fabric l] } u (u.named l n) := ((Only.refl _ u).fset (f := F.FLSTAT_PDEV) _ (by simp [F.FLSTAT_PDEV])).onLink _ (by simp)
  unfold State.identified
  split
  · exact hnamed.fset _ (by simp [F.FLSTAT_MISWIRE])
  · exact hnamed

/-- A field of the link's status beside MISWIRE and PDEV. -/
theorem fget_identified {f : Fld} (hk : f.kind = .FLSTAT) (hm : 3 ≤ f.lo ∨ f.lo + f.len ≤ 2) : (u.identified l n).fget f 0 l = (u.named l n).fget f 0 l := by
  unfold State.identified
  split
  · exact State.fget_fset_field (f := F.FLSTAT_MISWIRE) _ _ _ _ hk (by simpa [F.FLSTAT_MISWIRE] using hm)
  · rfl

theorem leaves_identified : Leaves u (u.identified l n) .FLSTAT 0 l [F.FLSTAT_PDEV, F.FLSTAT_MISWIRE] := by
  intro f hf hne
  have hfields : f = F.FLSTAT_STATE ∨ f = F.FLSTAT_MISWIRE ∨ f = F.FLSTAT_LOSTF ∨ f = F.FLSTAT_PDEV ∨ f = F.FLSTAT_RXSEQ ∨ f = F.FLSTAT_TXSEQ := by simpa [regSpec] using hf
  have hkeep : f.kind = .FLSTAT → (3 ≤ f.lo ∨ f.lo + f.len ≤ 2) → (20 ≤ f.lo ∨ f.lo + f.len ≤ 4) → (u.identified l n).fget f 0 l = u.fget f 0 l := fun hk hm hp =>
    (fget_identified hk hm).trans (State.fget_fset_field (f := F.FLSTAT_PDEV) _ _ _ _ hk (by simpa [F.FLSTAT_PDEV] using hp))
  rcases hfields with rfl | rfl | rfl | rfl | rfl | rfl
  · exact hkeep rfl (by decide) (by decide)
  · simp at hne
  · exact hkeep rfl (by decide) (by decide)
  · simp at hne
  · exact hkeep rfl (by decide) (by decide)
  · exact hkeep rfl (by decide) (by decide)

theorem miswire_identified_lock (hn : n < 2 ^ 16) (hst : u.linkSt (.fabric l) = 2) :
    (u.identified l n).fget F.FLSTAT_MISWIRE 0 l = if u.fget F.FLCFG_PEERV 0 l ≠ 0 ∧ n ≠ u.fget F.FLCFG_PEER 0 l then 1 else 0 := by
  unfold State.identified
  rw [if_pos (linkSt_named.trans hst), State.fget_fset_self _ _ _ _ _ (by decide), peerOk_named hn]
  by_cases hpass : u.fget F.FLCFG_PEERV 0 l = 0 ∨ n = u.fget F.FLCFG_PEER 0 l
  · rw [decide_eq_true hpass, if_neg (by tauto)]
    rfl
  · rw [decide_eq_false hpass, if_pos (by tauto)]
    rfl

theorem miswire_identified_up (hst : u.linkSt (.fabric l) = 3) : (u.identified l n).fget F.FLSTAT_MISWIRE 0 l = u.fget F.FLSTAT_MISWIRE 0 l := by
  unfold State.identified
  rw [if_neg (by rw [linkSt_named, hst]; decide)]
  exact State.fget_fset_field (f := F.FLSTAT_PDEV) (f' := F.FLSTAT_MISWIRE) _ _ _ _ rfl (by decide)

end

/-! ### DRSP (11 R301) -/

section
variable {u : State} {l : Fin 16} {b : List Byte} {t10 : Nat}

/-- What a DRSP does to a link that takes it. -/
def State.delayed (u : State) (l : Fin 16) (b : List Byte) (t10 : Nat) : State :=
  match (u.link (.fabric l)).dreq with
  | some (id, t1) =>
    if id = blkByte b 1 then
      ((u.fset F.FLDLY_DLY 0 l ((t10 - t1 - blkNum b 2 4) / 2)).fset F.FLDLY_DVALID 0 l 1).onLink (.fabric l) fun x => { x with dreq := none }
    else u
  | none => u

theorem execDrsp_eq (dt : Nat) (l : Fin 16) (b : List Byte) (t10 : Nat) (z : State) :
    exec (.drsp dt l b t10) z = .next ((z.advance dt).takeBlock (.fabric l) 3 0x0E [1, 2, 3, 4, 5] b fun u => u.delayed l b t10) := rfl

/-- The answer to the DREQ under way gives the delay. -/
theorem delayed_answered {t1 : Nat} (h : (u.link (.fabric l)).dreq = some (blkByte b 1, t1)) :
    (u.delayed l b t10).fget F.FLDLY_DLY 0 l = (t10 - t1 - blkNum b 2 4) / 2 % 2 ^ 24 ∧ (u.delayed l b t10).fget F.FLDLY_DVALID 0 l = 1 ∧
      (u.delayed l b t10).link (.fabric l) = { u.link (.fabric l) with dreq := none } ∧ Only { regs := [(.FLDLY, 0, l)], links := [.fabric l] } u (u.delayed l b t10) := by
  have heq : u.delayed l b t10 = ((u.fset F.FLDLY_DLY 0 l ((t10 - t1 - blkNum b 2 4) / 2)).fset F.FLDLY_DVALID 0 l 1).onLink (.fabric l) fun x => { x with dreq := none } := by
    unfold State.delayed
    rw [h]
    exact if_pos rfl
  rw [heq, State.fget_onLink, State.fget_onLink]
  refine ⟨?_, State.fget_fset_self _ F.FLDLY_DVALID 0 l 1 (by decide), State.link_setLink_self .., ?_⟩
  · exact (State.fget_fset_field (f := F.FLDLY_DVALID) (f' := F.FLDLY_DLY) _ 0 l 1 rfl (by decide)).trans (State.fget_fset_self _ F.FLDLY_DLY 0 l _ (by decide))
  · exact (((Only.refl _ u).fset _ (by simp [F.FLDLY_DLY])).fset _ (by simp [F.FLDLY_DVALID])).onLink _ (by simp)

theorem delayed_stranger (h : ∀ t1, (u.link (.fabric l)).dreq ≠ some (blkByte b 1, t1)) : u.delayed l b t10 = u := by
  unfold State.delayed
  split
  · next id t1 hdreq => exact if_neg fun hid => h t1 (by rw [← hid, hdreq])
  · rfl

end

/-! ### CRED and DREQ (11 R289, R301) -/

section
variable {u : State} {k : LinkId} {p n : Nat}

/-- The link with credits returned to a pair, 64 at most. -/
def Link.credited (x : Link) (p n : Nat) : Link := { x with cred := tput x.cred p (min 64 (tget x.cred 0 p + n)) }

theorem onLink_credited :
    let t := u.onLink k fun x => x.credited p n
    t.link k = { u.link k with cred := (t.link k).cred } ∧ tget (t.link k).cred 0 p = min 64 (tget (u.link k).cred 0 p + n) ∧
      (∀ q, q ≠ p → tget (t.link k).cred 0 q = tget (u.link k).cred 0 q) ∧ Only { links := [k] } u t := by
  intro t
  obtain ⟨hlink, honly⟩ := onLink_is (u := u) (k := k) (g := fun x => x.credited p n) rfl
  rw [hlink]
  exact ⟨rfl, tget_tput_self .., fun q hq => tget_tput_ne _ _ _ hq, honly⟩

theorem toBytes_one (v : Byte) : toBytes 1 v.toNat = [v] := by
  change [BitVec.ofNat 8 v.toNat] = [v]
  rw [BitVec.ofNat_toNat, BitVec.setWidth_eq]

end

/-! ### The statement -/

/-- Settles O41: LIVE from its two parts, the count of corrections and the block (`rxLive_acts`); the other blocks by what each does to a link that takes it (`blockTaken_of`). -/
theorem linkBlocksActOrAreDiscarded : Obligations.LinkBlocksActOrAreDiscarded := by
  unfold Obligations.LinkBlocksActOrAreDiscarded
  refine ⟨?live, ?frames, ?catch_, ?fabric⟩
  case live =>
    intro z dt fec k b u fec8
    refine ⟨fun hbad hnone => ⟨_, rfl, rxLive_bad hbad hnone⟩, fun hok hst => ⟨_, rfl, rxLive_below hok hst⟩, fun hok hst => ⟨_, congrArg Host.Outcome.next (rxLive_acts hok hst), ?_⟩,
      ⟨_, rfl, discardBlock_discarded u k⟩⟩
    exact ⟨State.link_setLink_self .., fun hmode => countFec_counts hst hmode, fun hmode => (countFec_none (.inr (.inl hmode))).regs _ _ _ (by simp),
      (Only.countFec (by simp)).setLink _ (by simp)⟩
  case frames =>
    intro z dt k b u x n due is
    refine ⟨fun c p r hsplit hp hc => ⟨blockTaken_of rfl fun _ => ?_, blockTaken_of rfl fun _ => ?_⟩, fun hnone => ⟨blockTaken_of rfl fun _ => ?_, blockTaken_of rfl fun _ => ?_⟩,
      blockTaken_of rfl fun _ => onLink_is rfl⟩
    · exact onLink_is (acked_of hsplit hp hc)
    · exact onLink_is (by rw [replayFrom_of hsplit hp hc])
    · exact Only.onLink_same (acked_none hnone)
    · exact onLink_is (by rw [replayFrom_none hnone])
  case catch_ =>
    intro z dt l b u k
    refine ⟨blockTaken_of rfl fun _ => ?_, blockTaken_of rfl fun _ => ?_, blockTaken_of rfl fun _ => onLink_is rfl⟩
    · exact ⟨State.reg_setReg_self .., (Only.refl _ u).fset _ (by simp [F.CLSTAT_PHOLD])⟩
    · exact ⟨State.reg_setReg_self .., (Only.refl _ u).fset _ (by simp [F.CLSTAT_PHOLD])⟩
  case fabric =>
    intro z dt t10 l b u k x wrong p
    refine ⟨blockTaken_of (execIdent_eq dt l b z) fun _ => ?_, blockTaken_of rfl fun _ => ?_, blockTaken_of rfl fun _ => onLink_is ?_,
      fun t1 hdreq => blockTaken_of (execDrsp_eq dt l b t10 z) fun _ => ?_, fun hother => blockTaken_of (execDrsp_eq dt l b t10 z) fun _ => ?_⟩
    · have hn : blkNum b 1 2 < 2 ^ 16 := blkNum_lt b 1 2
      exact ⟨(fget_identified rfl (by decide)).trans (pdev_named hn), link_identified, miswire_identified_lock hn, miswire_identified_up, leaves_identified, only_identified⟩
    · exact onLink_credited
    · exact congrArg (fun m => { x with ctrl := x.ctrl ++ [(4, ctlBlock 0x0E m, t10)] }) (toBytes_one _)
    · exact delayed_answered hdreq
    · rw [delayed_stranger hother]
      exact Only.refl _ u

end Sys2Proof.Machine

/-! Catch frames (09 R211, R213, R220 to R226): a frame in order passes the receive buffer and is classified at once, and its gateway finds no place on the mesh. -/
namespace Sys2Proof.Machine

/-! ### What does not take a frame (09 R213) -/

section
variable {u : State} {k : LinkId} {w : List Word} {take : State → State}

theorem rxFrame_idle (h : u.linkSt k ≠ 3 ∨ (u.link k).dropping = true) : u.rxFrame k w take = u := if_pos h

theorem rxFrame_out_of_order (hup : u.linkSt k = 3) (htakes : (u.link k).dropping = false) (hbehind : (u.rxSeq k + 4096 - fSeq w) % 4096 ≠ 0) :
    u.rxFrame k w take =
      u.onLink k fun x => if (u.rxSeq k + 4096 - fSeq w) % 4096 ≤ 2048 then { x with ackDue := true } else { x with dropping := true, nakDue := true } := by
  have hidle : ¬ (u.linkSt k ≠ 3 ∨ (u.link k).dropping = true) := by simp [hup, htakes]
  unfold State.rxFrame
  dsimp only
  rw [if_neg hidle, if_neg hbehind]
  split <;> rfl

theorem rxFrame_next (hup : u.linkSt k = 3) (htakes : (u.link k).dropping = false) (hseq : fSeq w = u.rxSeq k) :
    u.rxFrame k w take = take ((u.setRxSeq k (u.rxSeq k + 1)).onLink k fun x => x.counted u.now) := by
  have hidle : ¬ (u.linkSt k ≠ 3 ∨ (u.link k).dropping = true) := by simp [hup, htakes]
  have hbehind : (u.rxSeq k + 4096 - fSeq w) % 4096 = 0 := by rw [hseq, Nat.add_sub_cancel_left]
  unfold State.rxFrame
  dsimp only
  rw [if_neg hidle, if_pos hbehind]

end

/-! ### A frame in order passes the buffer (09 R213, R214) -/

section
variable {u : State} {l : Fin 32} {w : List Word} {again : Bool}

/-- The frame after the one a link expected has been counted, and has left the buffer. -/
def State.framePassed (u : State) (l : Fin 32) : State :=
  (u.setRxSeq (.catch_ l) (u.rxSeq (.catch_ l) + 1)).onLink (.catch_ l) fun x => x.framed u.now

/-- A link whose receive buffer holds one frame alone. -/
def Link.holds (x : Link) (w : List Word) (again : Bool) : Link := { x with rxq := [(w, again)] }

/-- It waits in the buffer. -/
def State.frameHeld (u : State) (l : Fin 32) (w : List Word) (again : Bool) : State := (u.framePassed l).onLink (.catch_ l) fun x => x.holds w again

/-- A link that is changed twice. -/
theorem onLink_onLink (s : State) (k : LinkId) (f g : Link → Link) : (s.onLink k f).onLink k g = s.onLink k fun x => g (f x) := by
  unfold State.onLink
  rw [State.link_setLink_self]
  exact congrArg (fun t => { s with links := t }) (tput_tput ..)

theorem clKey_val (l : Fin 32) : clKey l.val = .catch_ l := by
  unfold clKey
  rw [Fin.ofNat_eq_cast, Fin.cast_val_eq_self]

theorem link_framePassed : (u.framePassed l).link (.catch_ l) = (u.link (.catch_ l)).framed u.now := State.link_setLink_self ..

theorem only_framePassed : Only { regs := [(.CLSTAT, 0, l)], links := [.catch_ l] } u (u.framePassed l) :=
  ((Only.refl _ u).fset _ (by simp [lkF, lkIx, isFab, F.CLSTAT_RXSEQ])).onLink _ (by simp)

theorem framePassed_counted : FrameCounted u (u.framePassed l) (.catch_ l) := ⟨State.reg_setReg_self .., link_framePassed⟩

/-- HOLDING is another field of the register that counts the frame. -/
theorem holding_framePassed : (u.framePassed l).fget F.CLSTAT_HOLDING 0 l = u.fget F.CLSTAT_HOLDING 0 l :=
  State.fget_fset_field (f := F.CLSTAT_RXSEQ) (f' := F.CLSTAT_HOLDING) u 0 l _ rfl (by decide)

/-- Every other register reads as before while the frame is held. -/
theorem fget_frameHeld {f : Fld} (i : Nat) (h : f.kind ≠ .CLSTAT) : (u.frameHeld l w again).fget f 0 i = u.fget f 0 i :=
  congrArg (wbits · _ _) (only_framePassed.regs _ _ _ (by simp [h]))

theorem fget_framePassed {f : Fld} (i : Nat) (h : f.kind ≠ .CLSTAT) : (u.framePassed l).fget f 0 i = u.fget f 0 i := fget_frameHeld (w := []) (again := false) i h

theorem link_frameHeld : (u.frameHeld l w again).link (clKey l.val) = ((u.link (.catch_ l)).framed u.now).holds w again := by
  rw [clKey_val, ← link_framePassed]
  exact State.link_setLink_self ..

theorem bufferFrame_next (h : u.FrameNext l w) : (u.framePassed l).bufferFrame l w again = u.frameHeld l w again := by
  have hempty : ((u.framePassed l).link (.catch_ l)).rxq = [] := by
    rw [link_framePassed]
    exact h.empty.1
  have hheld : (u.framePassed l).onLink (.catch_ l) (fun x => { x with rxq := x.rxq ++ [(w, again)] }) = u.frameHeld l w again := by
    unfold State.frameHeld State.onLink Link.holds
    dsimp only
    rw [hempty]
    rfl
  have hone : ((u.frameHeld l w again).link (.catch_ l)).rxq.length = 1 := by
    rw [← clKey_val, link_frameHeld]
    rfl
  unfold State.bufferFrame
  dsimp only
  rw [if_neg (by simp [hempty]), hheld, if_neg (by omega)]

/-- What leaves the buffer leaves the link as if it had not waited. -/
theorem popRx_frameHeld (h : u.FrameNext l w) : (u.frameHeld l w again).popRx l.val = u.framePassed l := by
  have hrun : ¬ u.fget F.CLSTAT_HOLDING 0 l = 1 := by
    rw [h.run]
    decide
  have hpop : (u.frameHeld l w again).popRx l.val = (u.frameHeld l w again).onLink (.catch_ l) fun x => { x with rxq := x.rxq.drop 1 } := by
    unfold State.popRx
    rw [clKey_val]
    exact if_neg fun hhold => hrun (holding_framePassed.symm.trans hhold.1)
  have hlink : { (u.link (.catch_ l)).framed u.now with rxq := [] } = (u.link (.catch_ l)).framed u.now :=
    congrArg (fun q => { (u.link (.catch_ l)).framed u.now with rxq := q }) h.empty.1.symm
  rw [hpop, State.frameHeld, State.framePassed, onLink_onLink, onLink_onLink]
  exact congrArg (State.setLink _ _) hlink

/-! ### Classification and injection (09 R224) -/

/-- A gateway that waits for nothing, or whose port has sixteen returns before it, sends nothing. -/
theorem gwInject_shut {s : State} {g : Nat} (h : tget s.gwq [] g = [] ∨ 16 ≤ (s.retq (cgRouter g) true).length) : ∀ n, s.gwInject g n = s
  | 0 => rfl
  | n + 1 => by
    unfold State.gwInject
    split
    · rfl
    · next k l r hq =>
      have hfull : 16 ≤ (s.retq (cgRouter g) true).length := h.resolve_left (by simp [hq])
      have hinject : ∀ c p, p.vc ≠ 0 → ({ s with now := c } : State).inject (cgRouter g) true p = .full := fun c p hvc => if_pos ⟨hvc, hfull⟩
      dsimp only
      rw [hinject _ _ (Nat.succ_ne_zero _)]

/-- The frame held is classified, and its gateway sends nothing. -/
theorem serveLink_frameHeld {t : State} (h : u.FrameNext l w) (hone : (u.frameHeld l w again).classifyOne l.val = some t)
    (hshut : tget t.gwq [] (l.val / 4) = [] ∨ 16 ≤ (t.retq (cgRouter (l.val / 4)) true).length) : (u.frameHeld l w again).serveLink l.val = t := by
  have hpre : ((u.frameHeld l w again).link (clKey l.val)).pre = [] := by
    rw [link_frameHeld]
    exact h.empty.2
  have hclassify : (u.frameHeld l w again).classify l.val 1 = t := by
    unfold State.classify
    rw [hpre, hone]
    rfl
  unfold State.serveLink
  dsimp only
  rw [hpre, link_frameHeld]
  exact (congrArg (fun s => State.gwInject s _ _) hclassify).trans (gwInject_shut hshut _)

/-- A frame in order is classified in the state that has counted it. -/
theorem catchFrame_of {z t : State} {dt : Nat} {P : State → Prop} (h : (z.advance dt).FrameNext l w) (hone : ((z.advance dt).frameHeld l w again).classifyOne l.val = some t)
    (hshut : tget t.gwq [] (l.val / 4) = [] ∨ 16 ≤ (t.retq (cgRouter (l.val / 4)) true).length) (hP : P t) : Completes (.catchFrame dt l w again) z P := by
  refine ⟨t, ?_, hP⟩
  change Host.Outcome.next ((z.advance dt).rxFrame (.catch_ l) w fun s => (s.bufferFrame l w again).serveLink l.val) = _
  rw [rxFrame_next h.up h.takes h.inOrder]
  exact congrArg Host.Outcome.next ((congrArg (State.serveLink · _) (bufferFrame_next h)).trans (serveLink_frameHeld h hone hshut))

end

/-! ### What the state that has counted a frame shows -/

section
variable {u s t : State} {l : Fin 32} {w : List Word} {again : Bool} {ch : Changes}

/-- What a later change of another register and another link leaves. -/
theorem FrameCounted.after (o : Only ch (u.framePassed l) t) (hreg : (.CLSTAT, 0, l.val) ∉ ch.regs) (hlink : .catch_ l ∉ ch.links) : FrameCounted u t (.catch_ l) :=
  ⟨(o.regs _ _ _ hreg).trans framePassed_counted.1, (o.links _ hlink).trans link_framePassed⟩

theorem sets_of_reg {f : Fld} {a i v : Nat} (hreg : s.reg f.kind a i = u.reg f.kind a i) (h : Sets s t f a i v) : Sets u t f a i v := by
  unfold Sets at h ⊢
  rwa [hreg] at h

theorem sets_mod {f : Fld} {a i v n : Nat} (h : Sets u t f a i v) (hn : n = 2 ^ f.len) : Sets u t f a i (v % n) := by
  subst hn
  exact h.trans (wset_mod ..).symm

theorem counts_of_reg {f : Fld} {a i n : Nat} (hreg : s.reg f.kind a i = u.reg f.kind a i) (h : Counts s t f a i n) : Counts u t f a i n := by
  unfold Counts State.fget at h ⊢
  rw [hreg] at h
  exact sets_of_reg hreg h

/-- What a fault token says of the device. -/
theorem mkFault_same (hdev : s.devnum = u.devnum) (hcount : s.count = u.count) (tag : Word) (k : Option Token) (code src tile addr : Nat) :
    s.mkFault tag k code src tile addr = u.mkFault tag k code src tile addr := by
  unfold State.mkFault State.faultVal
  rw [hdev, hcount]

theorem siteCfg_frameHeld (i : Nat) : (u.frameHeld l w again).siteCfg i = u.siteCfg i := by
  unfold State.siteCfg
  simp (disch := decide) only [fget_frameHeld]

theorem plan0_frameHeld (i : Nat) : (u.frameHeld l w again).plan0 i = u.plan0 i := by
  unfold State.plan0
  simp (disch := decide) only [fget_frameHeld]
  rfl

/-! ### A frame that is not accepted (09 R226) -/

/-- The state after a frame that is not accepted. -/
def State.frameDropped (u : State) (l : Fin 32) (ctx code : Nat) : State :=
  let ft := u.fget F.CLCFG_FTILE 0 l
  ((u.framePassed l).inc F.CLCNT1_FRDROP 0 l).post (.faultTok ft (u.mkFault (mkTag ctx ft 0 0 0 0 4) none code 5 ft 0))

theorem linkFault_framePassed (ctx code : Nat) :
    ((u.framePassed l).inc F.CLCNT1_FRDROP 0 l).linkFault l (mkTag ctx (u.fget F.CLCFG_FTILE 0 l) 0 0 0 0 4) none code = u.frameDropped l ctx code := by
  have hread : ∀ {f : Fld} (i : Nat), f.kind ≠ .CLSTAT → f.kind ≠ .CLCNT1 → ((u.framePassed l).inc F.CLCNT1_FRDROP 0 l).fget f 0 i = u.fget f 0 i :=
    fun i hstat hcnt => (fget_inc_kind hcnt).trans (fget_framePassed i hstat)
  have hmk := mkFault_same (s := (u.framePassed l).inc F.CLCNT1_FRDROP 0 l) (u := u) (hread 0 (by decide) (by decide)) (hread 0 (by decide) (by decide))
  unfold State.linkFault State.sendFault
  dsimp only
  rw [if_neg (by simp), hread l (by decide) (by decide), hmk]
  rfl

/-- A frame that breaks a rule, or whose site is not enabled, is discarded. -/
theorem classifyOne_dropped {ctx code : Nat} (h : u.FrameNext l w)
    (hcode : code = if frameBad w then 2 else if u.fget F.SITEW0_EN 0 (64 * l.val + fSite w) = 1 then 0 else 3) (hpos : code ≠ 0)
    (hctx : ctx = if u.fget F.SITEW0_EN 0 (64 * l.val + fSite w) = 1 then u.fget F.SITEW0_CTX 0 (64 * l.val + fSite w) else 0) :
    (u.frameHeld l w again).classifyOne l.val = some (u.frameDropped l ctx code) := by
  unfold State.classifyOne
  rw [link_frameHeld]
  dsimp only [Link.holds]
  simp (disch := decide) only [fget_frameHeld, popRx_frameHeld h]
  rw [← hcode, ← hctx, if_pos hpos, linkFault_framePassed]

theorem frameDropped_is (ctx code : Nat) :
    let t := u.frameDropped l ctx code
    let ft := u.fget F.CLCFG_FTILE 0 l
    FrameCounted u t (.catch_ l) ∧ Counts u t F.CLCNT1_FRDROP 0 l 1 ∧ t.ctl = u.ctl ++ [.faultTok ft (u.mkFault (mkTag ctx ft 0 0 0 0 4) none code 5 ft 0)] ∧
      Only { regs := [(.CLSTAT, 0, l), (.CLCNT1, 0, l)], links := [.catch_ l], parts := [.ctl] } u t := by
  have honly : Only { regs := [(.CLCNT1, 0, l.val)], parts := [.ctl] } (u.framePassed l) (u.frameDropped l ctx code) :=
    ((Only.refl _ _).inc (by simp [F.CLCNT1_FRDROP])).post (by simp)
  exact ⟨.after honly (by simp) (by simp), counts_of_reg (only_framePassed.regs _ _ _ (by simp [F.CLCNT1_FRDROP])) counts_inc, rfl, only_framePassed.and_trans honly⟩

theorem catchFrame_dropped {z : State} {dt ctx code : Nat} (h : (z.advance dt).FrameNext l w)
    (hone : ((z.advance dt).frameHeld l w again).classifyOne l.val = some ((z.advance dt).frameDropped l ctx code)) :
    let u := z.advance dt
    let ft := u.fget F.CLCFG_FTILE 0 l
    Completes (.catchFrame dt l w again) z fun t =>
      FrameCounted u t (.catch_ l) ∧ Counts u t F.CLCNT1_FRDROP 0 l 1 ∧ t.ctl = u.ctl ++ [.faultTok ft (u.mkFault (mkTag ctx ft 0 0 0 0 4) none code 5 ft 0)] ∧
        Only { regs := [(.CLSTAT, 0, l), (.CLCNT1, 0, l)], links := [.catch_ l], parts := [.ctl] } u t :=
  catchFrame_of h hone h.shut (frameDropped_is ..)

end

/-! ### The plan of a CMP frame (09 R224, R225) -/

section
variable {s : State} {e : SiteCfg} {w : List Word} {l : Nat} {p : Plan}

theorem siteFold_uncounted (hcnt : e.cnten = false) (caddr k : Nat) :
    s.siteFold e caddr k p = { p with pf := if p.pc = 0 then caddr + k else p.pf, pc := min (2 ^ 64 - 1) (p.pc + 1) } := if_neg (by simp [hcnt])

/-- A passing frame is folded: one cycle, or two. -/
theorem planFrame_passing (htype : fType w = 1) (hc0 : e.c0en = false) (hcnt : e.cnten = false) (h2 : fw w 2 = 0) (h3 : fw w 3 = 0) :
    s.planFrame e w l p = { p with pf := if p.pc = 0 then fCaddr w else p.pf, pc := min (2 ^ 64 - 1) (p.pc + fNC w + 1) } := by
  have hnc : fNC w = 0 ∨ fNC w = 1 := by
    have : fNC w < 2 ^ 1 := wbits_lt ..
    omega
  unfold State.planFrame
  rw [htype]
  unfold State.planCmp
  rcases hnc with hnc | hnc
  · simp [hnc, hc0, h2, siteFold_uncounted hcnt, List.range_succ]
  · simp [hnc, hc0, h2, h3, siteFold_uncounted hcnt, List.range_succ]
    omega

/-- A failing cycle gives its V and A tokens alone. -/
theorem planFrame_failing (htype : fType w = 1) (hc0 : e.c0en = false) (hcnt : e.cnten = false) (h2 : fw w 2 ≠ 0) (hnc : fNC w = 0) : s.planFrame e w l p = s.siteVA e w l 0 p := by
  unfold State.planFrame
  rw [htype]
  unfold State.planCmp
  have hfails : ¬ fw w 2 = 0#64 := h2
  simp [hnc, hc0, hcnt, hfails]

end

/-! ### A frame that is accepted (09 R224, R225) -/

section
variable {u s : State} {l : Fin 32} {w : List Word} {again : Bool} {p : Plan} {i : Nat}

/-- The state after an accepted frame, but for FOLDED. -/
def State.frameTaken (u : State) (l : Fin 32) (i : Nat) (p : Plan) : State :=
  let s := (u.framePassed l).issuePlan l.val (u.siteCfg i) p
  { s with pcount := tput s.pcount i (p.pc, p.pf) }

/-- An accepted frame of a site without C0. -/
theorem classifyOne_taken (h : u.FrameNext l w) (hi : i = 64 * l.val + fSite w) (hbad : frameBad w = false) (hen : u.fget F.SITEW0_EN 0 i = 1) (hc0 : u.fget F.SITEW0_C0EN 0 i = 0)
    (hp : (u.frameHeld l w again).planFrame (u.siteCfg i) w l.val (u.plan0 i) = p) (hcredit : (u.frameHeld l w again).planCredit l.val p.toks = true) :
    (u.frameHeld l w again).classifyOne l.val =
      some (if fType w = 1 ∧ fw w 2 = 0 ∧ fw w 3 = 0 then (u.frameTaken l i p).inc F.CLCNT1_FOLDED 0 l else u.frameTaken l i p) := by
  subst hi hp
  have hc0en : (u.siteCfg (64 * l.val + fSite w)).c0en = false := by simp [State.siteCfg, hc0]
  unfold State.classifyOne
  rw [link_frameHeld]
  dsimp only [Link.holds]
  simp (disch := decide) only [fget_frameHeld, popRx_frameHeld h, siteCfg_frameHeld, plan0_frameHeld]
  rw [hbad, hen, hc0en, hcredit, Bool.and_false]
  rfl

/-- A plan without tokens writes the iterations of its site alone. -/
theorem issuePlan_nil (htoks : p.toks = []) (e : SiteCfg) (g : Nat) : s.issuePlan g e p = (s.fset F.SITEW1_ITERC 0 e.i p.iter).fset F.SITEW1_C0ITER 0 e.i p.c0iter := by
  unfold State.issuePlan
  rw [htoks]
  rfl

/-- The plan of a frame that passes. -/
def State.planFold (u : State) (i : Nat) (w : List Word) : Plan :=
  { u.plan0 i with pf := if (u.plan0 i).pc = 0 then fCaddr w else (u.plan0 i).pf, pc := min (2 ^ 64 - 1) ((u.plan0 i).pc + fNC w + 1) }

/-- It leaves the iterations of its site as they are. -/
theorem only_frameTaken_fold : Only { parts := [.pcount] } (u.framePassed l) (u.frameTaken l i (u.planFold i w)) := by
  have hc0 : ((u.framePassed l).fset F.SITEW1_ITERC 0 i (u.fget F.SITEW1_ITERC 0 i)).fget F.SITEW1_C0ITER 0 i = u.fget F.SITEW1_C0ITER 0 i :=
    (State.fget_fset_field (f := F.SITEW1_ITERC) (f' := F.SITEW1_C0ITER) _ 0 i _ rfl (by decide)).trans (fget_framePassed i (by decide))
  unfold State.frameTaken
  rw [issuePlan_nil rfl]
  exact (((Only.refl _ _).fset_same (fget_framePassed i (by decide)).symm).fset_same hc0.symm).pcount_ _ (by simp)

theorem pcount_frameTaken_fold : (u.frameTaken l i (u.planFold i w)).pcount = tput u.pcount i ((u.planFold i w).pc, (u.planFold i w).pf) := by
  unfold State.frameTaken
  rw [issuePlan_nil rfl]
  rfl

/-- A token of a class other than 0 goes to the end of its gateway's queue. -/
theorem gwPut_last {g : Nat} {k : Token} (h : k.cls ≠ 0) : s.gwPut g k = { s with gwq := tput s.gwq (g / 4) (tget s.gwq [] (g / 4) ++ [(k, g)]) } := by
  unfold State.gwPut
  dsimp only
  rw [if_neg h]

theorem reg_pcount (s : State) (c : Tab Nat (Nat × Nat)) (k : RegKind) (a i : Nat) : ({ s with pcount := c } : State).reg k a i = s.reg k a i := rfl

/-- The state after a V and an A token of a site have been issued. -/
def State.issuedVA (s : State) (g i : Nat) (v a : Token) (p : Plan) : State :=
  let s := (((s.gwPut g v).gwPut g a).fset F.SITEW1_ITERC 0 i p.iter).fset F.SITEW1_C0ITER 0 i p.c0iter
  { s with pcount := tput s.pcount i (p.pc, p.pf) }

/-- What the state in which V and A tokens have been issued shows. -/
structure IssuedVA (s t : State) (g i : Nat) (v a : Token) : Prop where
  queue : tget t.gwq [] (g / 4) = tget s.gwq [] (g / 4) ++ [(v, g), (a, g)]
  others : ∀ j, j ≠ g / 4 → tget t.gwq [] j = tget s.gwq [] j
  at_ : t.gwAt = s.gwAt
  iter : Sets s t F.SITEW1_ITERC 0 i ((s.fget F.SITEW1_ITERC 0 i + 1) % 65536)
  pcount : ∀ j, tget t.pcount (0, 0) j = tget s.pcount (0, 0) j
  only : Only { regs := [(.SITEW1, 0, i)], parts := [.gateway, .pcount] } s t

theorem tget_tput_same {κ α : Type} [DecidableEq κ] (t : Tab κ α) (d : α) {k : κ} {v : α} (h : v = tget t d k) (j : κ) : tget (tput t k v) d j = tget t d j := by
  by_cases hj : j = k
  · rw [hj, tget_tput_self, h]
  · exact tget_tput_ne _ _ _ hj

theorem issuedVA_is {g : Nat} {v a : Token} (hv : v.cls ≠ 0) (ha : a.cls ≠ 0) (hiter : p.iter = s.fget F.SITEW1_ITERC 0 i + 1) (hc0 : p.c0iter = s.fget F.SITEW1_C0ITER 0 i)
    (hpc : (p.pc, p.pf) = tget s.pcount (0, 0) i) : IssuedVA s (s.issuedVA g i v a p) g i v a := by
  have hputs : ∀ j, tget ((s.gwPut g v).gwPut g a).gwq [] j = if j = g / 4 then tget s.gwq [] (g / 4) ++ [(v, g), (a, g)] else tget s.gwq [] j := by
    intro j
    rw [gwPut_last ha, gwPut_last hv]
    split
    · next hj => simp [hj]
    · next hj => rw [tget_tput_ne _ _ _ hj, tget_tput_ne _ _ _ hj]
  have hput : ∀ {s : State} {k : Token}, k.cls ≠ 0 → Only { regs := [(.SITEW1, 0, i)], parts := [.gateway, .pcount] } s (s.gwPut g k) := fun hk => by
    rw [gwPut_last hk]
    exact (Only.refl _ _).gwq_ _ (by simp)
  have hputOnly := (hput (s := s) hv).trans (hput ha)
  have hreg : ((s.gwPut g v).gwPut g a).reg .SITEW1 0 i = s.reg .SITEW1 0 i := by
    rw [gwPut_last ha, gwPut_last hv]
    rfl
  refine ⟨(hputs _).trans (if_pos rfl), fun j hj => (hputs j).trans (if_neg hj), ?_, ?_, fun j => ?_, ?_⟩
  · unfold State.issuedVA
    rw [gwPut_last ha, gwPut_last hv]
    rfl
  · have hc0kept : (((s.gwPut g v).gwPut g a).fset F.SITEW1_ITERC 0 i p.iter).fget F.SITEW1_C0ITER 0 i = s.fget F.SITEW1_C0ITER 0 i :=
      (State.fget_fset_field (f := F.SITEW1_ITERC) (f' := F.SITEW1_C0ITER) _ 0 i _ rfl (by decide)).trans (congrArg (wbits · _ _) hreg)
    have hc0same := reg_fset_same (hc0.trans hc0kept.symm) .SITEW1 0 i
    have hset : (((s.gwPut g v).gwPut g a).fset F.SITEW1_ITERC 0 i p.iter).reg .SITEW1 0 i = wset (s.reg .SITEW1 0 i) F.SITEW1_ITERC.lo F.SITEW1_ITERC.len p.iter :=
      (State.reg_setReg_self ..).trans (congrArg (wset · _ _ _) hreg)
    rw [← hiter]
    exact sets_mod ((reg_pcount ..).trans (hc0same.trans hset)) rfl
  · unfold State.issuedVA
    rw [gwPut_last ha, gwPut_last hv]
    exact tget_tput_same _ _ hpc j
  · exact ((hputOnly.fset _ (by simp [F.SITEW1_ITERC])).fset _ (by simp [F.SITEW1_C0ITER])).pcount_ _ (by simp)

/-! ### A failing cycle's tokens (09 R224) -/

theorem siteToken_cls {dst : Fld} {port : Nat} {val aux : Word} : (u.siteToken i dst port val aux).cls = u.fget F.SITEW0_CLS 0 i := by
  have hcls : u.fget F.SITEW0_CLS 0 i < 4 := u.fget_lt ..
  unfold State.siteToken Token.cls mkTag wd wbits bits
  rw [BitVec.toNat_ofNat]
  omega

/-- The number of a lane on a token of a site. -/
def Token.onLane (k : Token) (f n : Nat) : Token := { k with tag := k.tag ||| 1, dst := mkDst 0xFFFF f n 0 }

theorem onLane_cls {k : Token} {f n : Nat} : (k.onLane f n).cls = k.cls := wbits_or_low _ (by decide)

theorem siteTok_frameHeld {dst : Fld} {port : Nat} {val aux : Word} {lane : Option Nat} (hdst : dst.kind ≠ .CLSTAT) :
    (u.frameHeld l w again).siteTok (u.siteCfg i) dst port (u.plan0 i).iter val aux lane = (u.siteToken i dst port val aux, lane) := by
  unfold State.siteTok
  rw [fget_frameHeld (u.siteCfg i).i hdst]
  rfl

theorem laneOfLink_frameHeld (f : Nat) : (u.frameHeld l w again).laneOfLink l.val f = u.laneOfLink l.val f := by
  unfold State.laneOfLink
  rw [fget_frameHeld f (by decide), fget_frameHeld f (by decide)]
  rfl

theorem laneOfLink_framePassed (f : Nat) : (u.framePassed l).laneOfLink l.val f = u.laneOfLink l.val f := laneOfLink_frameHeld (w := []) (again := false) f

/-- The plan of a failing cycle. -/
def State.planVA (u : State) (l : Fin 32) (i : Nat) (w : List Word) : Plan :=
  { u.plan0 i with
    toks := [(u.siteToken i F.SITEW2_VDST 0 (fw w 2) (fw w 4), none),
      (u.siteToken i F.SITEW2_ADST 1 (wd (fCaddr w)) (wd (fSite w + wbits (fw w 0) 22 4 * 64 + l.val * 1024)), (u.siteCfg i).flane)]
    iter := u.fget F.SITEW1_ITERC 0 i + 1 }

theorem siteVA_frameHeld : (u.frameHeld l w again).siteVA (u.siteCfg i) w l.val 0 (u.plan0 i) = u.planVA l i w := by
  unfold State.siteVA State.planVA
  dsimp only
  rw [siteTok_frameHeld (by decide), siteTok_frameHeld (by decide), Nat.mod_eq_of_lt l.isLt]
  rfl

theorem frameTaken_unnumbered {v a : Token} (htoks : p.toks = [(v, none), (a, none)]) : u.frameTaken l i p = (u.framePassed l).issuedVA l.val i v a p := by
  unfold State.frameTaken State.issuePlan
  rw [htoks]
  rfl

/-- A number is taken where V is put before it as where it is put after. -/
theorem frameTaken_numbered {v a : Token} {f : Nat} (hv : v.cls ≠ 0) (hlane : u.laneOfLink l.val f = true) (htoks : p.toks = [(v, none), (a, some f)]) :
    u.frameTaken l i p = ((u.framePassed l).laneTake f).2.issuedVA l.val i v (a.onLane f (u.lane f).next) p := by
  have hnumber : ((u.framePassed l).gwPut l.val v).numberTok l.val (a, some f) = (((u.framePassed l).laneTake f).2.gwPut l.val v, a.onLane f (u.lane f).next) := by
    rw [gwPut_last hv, gwPut_last hv]
    exact if_pos ((laneOfLink_framePassed f).trans hlane)
  have hissue : (u.framePassed l).issuePlan l.val (u.siteCfg i) p =
      (((((u.framePassed l).gwPut l.val v).numberTok l.val (a, some f)).1.gwPut l.val (((u.framePassed l).gwPut l.val v).numberTok l.val (a, some f)).2).fset F.SITEW1_ITERC 0 i p.iter).fset
        F.SITEW1_C0ITER 0 i p.c0iter := by
    unfold State.issuePlan
    rw [htoks]
    rfl
  unfold State.frameTaken State.issuedVA
  rw [hissue, hnumber]

/-- A plan of V and A has credit where A needs no number. -/
theorem planCredit_unnumbered {v a : Token} (g : Nat) : s.planCredit g [(v, none), (a, none)] = true := rfl

theorem planCredit_numbered {v a : Token} {g f : Nat} (hlane : s.laneOfLink g f = true) (hcredit : (s.lane f).credit ≠ 0) : s.planCredit g [(v, none), (a, some f)] = true := by
  unfold State.planCredit
  simp only [List.filterMap_cons, List.filterMap_nil, List.filter_cons, hlane, List.filter_nil, if_true, List.all_cons, List.all_nil, Bool.and_true, List.length_singleton,
    decide_eq_true_eq]
  omega

/-- What V and A tokens issued by a link that has counted their frame show; `s` may have taken a number of a lane. -/
theorem IssuedVA.shows {t : State} {f : Nat} {v a : Token} (o : Only { lanes := [f], parts := [.ctl] } (u.framePassed l) s) (h : IssuedVA s t l i v a) :
    FrameCounted u t (.catch_ l) ∧ tget t.gwq [] (l.val / 4) = tget u.gwq [] (l.val / 4) ++ [(v, l.val), (a, l.val)] ∧ (∀ g, g ≠ l.val / 4 → tget t.gwq [] g = tget u.gwq [] g) ∧
      t.gwAt = u.gwAt ∧ Sets u t F.SITEW1_ITERC 0 i ((u.fget F.SITEW1_ITERC 0 i + 1) % 65536) ∧ ∀ j, tget t.pcount (0, 0) j = tget u.pcount (0, 0) j := by
  obtain ⟨hgwq, hgwAt⟩ : s.gwq = u.gwq ∧ s.gwAt = u.gwAt := o.parts .gateway (by simp)
  have hpcount : s.pcount = u.pcount := o.parts .pcount (by simp)
  have hreg : s.reg .SITEW1 0 i = u.reg .SITEW1 0 i := (o.regs _ _ _ (by simp)).trans (only_framePassed.regs _ _ _ (by simp))
  have hiter : s.fget F.SITEW1_ITERC 0 i = u.fget F.SITEW1_ITERC 0 i := congrArg (wbits · _ _) hreg
  have hall : Only (Changes.and { lanes := [f], parts := [.ctl] } { regs := [(.SITEW1, 0, i)], parts := [.gateway, .pcount] }) (u.framePassed l) t := o.and_trans h.only
  refine ⟨.after hall (by simp [Changes.and]) (by simp [Changes.and]), hgwq ▸ h.queue, hgwq ▸ h.others, h.at_.trans hgwAt, ?_, hpcount ▸ h.pcount⟩
  rw [← hiter]
  exact sets_of_reg hreg h.iter

theorem IssuedVA.shut {t : State} {f : Nat} {v a : Token} (o : Only { lanes := [f], parts := [.ctl] } (u.framePassed l) s) (h : IssuedVA s t l i v a)
    (hfull : 16 ≤ (u.retq (cgRouter (l.val / 4)) true).length) : 16 ≤ (t.retq (cgRouter (l.val / 4)) true).length := by
  have hmesh : t.mesh = u.mesh := (h.only.parts .mesh (by simp)).trans ((o.parts .mesh (by simp)).trans (only_framePassed.parts .mesh (by simp)))
  unfold State.retq at *
  rwa [hmesh]

end

/-! ### Accepted frames (09 R224, R225) -/

/-- The next frame in order is an accepted CMP frame of an enabled site without CNT and C0. -/
structure State.FrameAccepted (u : State) (l : Fin 32) (w : List Word) (i : Nat) : Prop where
  next : u.FrameNext l w
  site : i = 64 * l.val + fSite w
  good : frameBad w = false
  cmp : fType w = 1
  en : u.fget F.SITEW0_EN 0 i = 1
  cnten : u.fget F.SITEW0_CNTEN 0 i = 0
  c0en : u.fget F.SITEW0_C0EN 0 i = 0

section
variable {u z : State} {dt : Nat} {l : Fin 32} {w : List Word} {again : Bool} {i : Nat}

theorem State.FrameAccepted.cfg (h : u.FrameAccepted l w i) : (u.siteCfg i).c0en = false ∧ (u.siteCfg i).cnten = false := by simp [State.siteCfg, h.c0en, h.cnten]

theorem classifyOne_folded (h : u.FrameAccepted l w i) (h2 : fw w 2 = 0) (h3 : fw w 3 = 0) :
    (u.frameHeld l w again).classifyOne l.val = some ((u.frameTaken l i (u.planFold i w)).inc F.CLCNT1_FOLDED 0 l) := by
  have hplan : (u.frameHeld l w again).planFrame (u.siteCfg i) w l.val (u.plan0 i) = u.planFold i w := planFrame_passing h.cmp h.cfg.1 h.cfg.2 h2 h3
  rw [classifyOne_taken h.next h.site h.good h.en h.c0en hplan rfl, if_pos ⟨h.cmp, h2, h3⟩]

theorem classifyOne_failing (h : u.FrameAccepted l w i) (h2 : fw w 2 ≠ 0) (hnc : fNC w = 0) (hcredit : (u.frameHeld l w again).planCredit l.val (u.planVA l i w).toks = true) :
    (u.frameHeld l w again).classifyOne l.val = some (u.frameTaken l i (u.planVA l i w)) := by
  have hplan : (u.frameHeld l w again).planFrame (u.siteCfg i) w l.val (u.plan0 i) = u.planVA l i w :=
    (planFrame_failing h.cmp h.cfg.1 h.cfg.2 h2 hnc).trans siteVA_frameHeld
  rw [classifyOne_taken h.next h.site h.good h.en h.c0en hplan hcredit, if_neg fun hfolded => h2 hfolded.2.1]

theorem pcount_inc (s : State) (f : Fld) (a i : Nat) : (s.inc f a i).pcount = s.pcount := rfl

theorem pc_planFold : (u.planFold i w).pc = min (2 ^ 64 - 1) ((tget u.pcount (0, 0) i).1 + fNC w + 1) := rfl

theorem pf_planFold : (u.planFold i w).pf = if (tget u.pcount (0, 0) i).1 = 0 then fCaddr w else (tget u.pcount (0, 0) i).2 := rfl

/-- The state after a frame that is folded: FOLDED and PCOUNT count. -/
theorem frameFolded_is :
    let t := (u.frameTaken l i (u.planFold i w)).inc F.CLCNT1_FOLDED 0 l
    let c := tget u.pcount (0, 0) i
    let d := tget t.pcount (0, 0) i
    FrameCounted u t (.catch_ l) ∧ Counts u t F.CLCNT1_FOLDED 0 l 1 ∧ d.1 = min (2 ^ 64 - 1) (c.1 + fNC w + 1) ∧ d.2 = (if c.1 = 0 then fCaddr w else c.2) ∧
      (∀ j, j ≠ i → tget t.pcount (0, 0) j = tget u.pcount (0, 0) j) ∧ Only { regs := [(.CLSTAT, 0, l), (.CLCNT1, 0, l)], links := [.catch_ l], parts := [.pcount] } u t := by
  intro t c d
  have hfold : Only { regs := [(.CLCNT1, 0, l.val)], parts := [.pcount] } (u.framePassed l) (u.frameTaken l i (u.planFold i w)) :=
    only_frameTaken_fold.weaken nofun nofun nofun nofun nofun nofun (fun _ m => m)
  have honly := hfold.inc (f := F.CLCNT1_FOLDED) (a := 0) (i := l.val) (by simp [F.CLCNT1_FOLDED])
  have hreg : (u.frameTaken l i (u.planFold i w)).reg .CLCNT1 0 l = u.reg .CLCNT1 0 l := (only_frameTaken_fold.regs _ _ _ (by simp)).trans (only_framePassed.regs _ _ _ (by simp))
  have hpcount : t.pcount = tput u.pcount i ((u.planFold i w).pc, (u.planFold i w).pf) := (pcount_inc ..).trans pcount_frameTaken_fold
  have hd : d = ((u.planFold i w).pc, (u.planFold i w).pf) := (congrArg (fun q => tget q (0, 0) i) hpcount).trans (tget_tput_self ..)
  refine ⟨.after honly (by simp) (by simp), counts_of_reg hreg counts_inc, ?_, ?_, fun j hj => ?_, only_framePassed.and_trans honly⟩
  · rw [hd]
    exact pc_planFold
  · rw [hd]
    exact pf_planFold
  · rw [hpcount]
    exact tget_tput_ne _ _ _ hj

theorem frameFolded_shut (h : u.FrameNext l w) :
    let t := (u.frameTaken l i (u.planFold i w)).inc F.CLCNT1_FOLDED 0 l
    tget t.gwq [] (l.val / 4) = [] ∨ 16 ≤ (t.retq (cgRouter (l.val / 4)) true).length := by
  intro t
  obtain ⟨-, -, -, -, -, honly⟩ := frameFolded_is (u := u) (l := l) (w := w) (i := i)
  have hmesh : t.mesh = u.mesh := honly.parts .mesh (by simp)
  have hgwq : t.gwq = u.gwq := (honly.parts .gateway (by simp)).1
  have hshut := h.shut
  unfold State.retq at *
  rwa [hmesh, hgwq]

/-- The V token of a failing cycle. -/
def State.tokenV (u : State) (i : Nat) (w : List Word) : Token := u.siteToken i F.SITEW2_VDST 0 (fw w 2) (fw w 4)

/-- Its A token. -/
def State.tokenA (u : State) (l : Fin 32) (i : Nat) (w : List Word) : Token :=
  u.siteToken i F.SITEW2_ADST 1 (wd (fCaddr w)) (wd (fSite w + wbits (fw w 0) 22 4 * 64 + l.val * 1024))

theorem toks_planVA {o : Option Nat} (hlane : (u.siteCfg i).flane = o) : (u.planVA l i w).toks = [(u.tokenV i w, none), (u.tokenA l i w, o)] := by
  subst hlane
  rfl

/-- V and A are issued in a state that has counted the frame, and may have taken a number. -/
theorem planVA_issued {s : State} {f : Nat} {a : Token} (o : Only { lanes := [f], parts := [.ctl] } (u.framePassed l) s) (hcls : u.fget F.SITEW0_CLS 0 i ≠ 0)
    (ha : a.cls = (u.tokenA l i w).cls) : IssuedVA s (s.issuedVA l i (u.tokenV i w) a (u.planVA l i w)) l i (u.tokenV i w) a := by
  have hreg : s.reg .SITEW1 0 i = u.reg .SITEW1 0 i := (o.regs _ _ _ (by simp)).trans (only_framePassed.regs _ _ _ (by simp))
  have hpcount : s.pcount = u.pcount := o.parts .pcount (by simp)
  refine issuedVA_is (siteToken_cls.trans_ne hcls) ((ha.trans siteToken_cls).trans_ne hcls) ?_ ?_ ?_
  · exact congrArg (wbits · _ _ + 1) hreg.symm
  · exact congrArg (wbits · _ _) hreg.symm
  · rw [hpcount]
    rfl

/-- A failing cycle of a site that numbers no A token. -/
theorem catchFrame_unnumbered (h : (z.advance dt).FrameAccepted l w i) (h2 : fw w 2 ≠ 0) (hnc : fNC w = 0) (hcls : (z.advance dt).fget F.SITEW0_CLS 0 i ≠ 0)
    (hfull : 16 ≤ ((z.advance dt).retq (cgRouter (l.val / 4)) true).length) (hlnen : (z.advance dt).fget F.SITEW0_LNEN 0 i = 0) :
    Completes (.catchFrame dt l w again) z fun t => IssuedVA ((z.advance dt).framePassed l) t l i ((z.advance dt).tokenV i w) ((z.advance dt).tokenA l i w) := by
  have htoks := toks_planVA (u := z.advance dt) (l := l) (i := i) (w := w) (if_neg (by simp [hlnen]))
  have hone := classifyOne_failing (again := again) h h2 hnc (by rw [htoks]; rfl)
  rw [frameTaken_unnumbered htoks] at hone
  have hkeep : Only { lanes := [0], parts := [.ctl] } ((z.advance dt).framePassed l) ((z.advance dt).framePassed l) := Only.refl ..
  have hissued := planVA_issued (w := w) (a := (z.advance dt).tokenA l i w) hkeep hcls rfl
  exact catchFrame_of h.next hone (.inr (hissued.shut hkeep hfull)) hissued

theorem only_laneTake_framePassed (f : Nat) : Only { lanes := [f], parts := [.ctl] } (u.framePassed l) ((u.framePassed l).laneTake f).2 := (Only.refl ..).laneTake (by simp) (by simp)

/-- A failing cycle of a site whose A tokens take numbers of lane f. -/
theorem catchFrame_numbered {f : Nat} (h : (z.advance dt).FrameAccepted l w i) (h2 : fw w 2 ≠ 0) (hnc : fNC w = 0) (hcls : (z.advance dt).fget F.SITEW0_CLS 0 i ≠ 0)
    (hfull : 16 ≤ ((z.advance dt).retq (cgRouter (l.val / 4)) true).length) (hlnen : (z.advance dt).fget F.SITEW0_LNEN 0 i = 1) (hf : f = (z.advance dt).fget F.SITEW0_FLANE 0 i)
    (hlane : (z.advance dt).laneOfLink l f = true) (hcredit : ((z.advance dt).lane f).credit ≠ 0) :
    Completes (.catchFrame dt l w again) z fun t =>
      IssuedVA (((z.advance dt).framePassed l).laneTake f).2 t l i ((z.advance dt).tokenV i w) (((z.advance dt).tokenA l i w).onLane f ((z.advance dt).lane f).next) := by
  have htoks := toks_planVA (u := z.advance dt) (l := l) (i := i) (w := w) (o := some f) (by rw [hf]; exact if_pos hlnen)
  have hone := classifyOne_failing (again := again) h h2 hnc (by rw [htoks]; exact planCredit_numbered ((laneOfLink_frameHeld f).trans hlane) hcredit)
  rw [frameTaken_numbered (siteToken_cls.trans_ne hcls) hlane htoks] at hone
  have hissued := planVA_issued (w := w) (a := ((z.advance dt).tokenA l i w).onLane f ((z.advance dt).lane f).next) (only_laneTake_framePassed f) hcls onLane_cls
  exact catchFrame_of h.next hone (.inr (hissued.shut (only_laneTake_framePassed f) hfull)) hissued

theorem taken_framePassed {t : State} {v a : Token} {f : Nat} (h : IssuedVA ((u.framePassed l).laneTake f).2 t l i v a) : Taken u t f :=
  ⟨(h.only.lanes f (by simp)).trans (State.lane_setLane_self ..), h.only.parts .ctl (by simp)⟩

end

/-! ### The statement -/

/-- Settles O42: frames out of order (`rxFrame_out_of_order`), those that are not accepted (`catchFrame_dropped`), and accepted ones by their plans (`classifyOne_folded`, `classifyOne_failing`). -/
theorem catchFramesAreClassified : Obligations.CatchFramesAreClassified := by
  unfold Obligations.CatchFramesAreClassified
  refine ⟨?order, ?dropped, ?taken⟩
  case order =>
    intro z dt l w again u k x behind
    refine ⟨fun hidle => ⟨_, congrArg Host.Outcome.next (rxFrame_idle hidle), Only.refl _ _⟩, fun hup htakes hbehind => ?_⟩
    exact ⟨_, congrArg Host.Outcome.next (rxFrame_out_of_order hup htakes hbehind), onLink_is rfl⟩
  case dropped =>
    intro z dt l w again u k i ft en bad h
    refine ⟨fun hbad => ⟨fun hen => ?_, fun hen => ?_⟩, fun hbad hen => ?_⟩
    · exact catchFrame_dropped h (classifyOne_dropped h (by rw [hbad]; rfl) (by decide) (if_pos hen).symm)
    · exact catchFrame_dropped h (classifyOne_dropped h (by rw [hbad]; rfl) (by decide) (if_neg hen).symm)
    · exact catchFrame_dropped h (classifyOne_dropped h (by rw [hbad]; exact (if_neg hen).symm) (by decide) (if_neg hen).symm)
  case taken =>
    intro z dt l w again u k i c d h hbad htype hen hcnt hc0
    have haccepted : u.FrameAccepted l w i := ⟨h, rfl, hbad, htype, hen, hcnt, hc0⟩
    have hfolded := frameFolded_is (u := u) (l := l) (w := w) (i := i)
    refine ⟨fun h2 h3 => catchFrame_of h (classifyOne_folded haccepted h2 h3) (frameFolded_shut h) hfolded, fun h2 hnc hcls hfull => ?_⟩
    intro f v a out base
    refine ⟨fun hlnen => ?_, fun hlnen hlane hcredit => ?_⟩
    · obtain ⟨t, heq, hissued⟩ := catchFrame_unnumbered (again := again) haccepted h2 hnc hcls hfull hlnen
      exact ⟨t, heq, hissued.shows (f := 0) (Only.refl ..), only_framePassed.and_trans hissued.only⟩
    · obtain ⟨t, heq, hissued⟩ := catchFrame_numbered (again := again) haccepted h2 hnc hcls hfull hlnen rfl hlane hcredit
      have honly := only_framePassed.and_trans ((only_laneTake_framePassed f).and_trans hissued.only).comm
      exact ⟨t, heq, hissued.shows (only_laneTake_framePassed f), taken_framePassed hissued, honly⟩

end Sys2Proof.Machine

/-! Repair blocks (09 R238 to R242): the fail accumulator of a tile as a table of counts, what its operations do to a block, and RBCFG. -/
namespace Sys2Proof.Machine

/-! ### The accumulator as a table of counts (09 R239) -/

/-- Is a word of the accumulator the entry of a row (kind 0) or column (kind 1) of block k? -/
def camIs (k kind idx : Nat) (w : Word) : Bool :=
  decide (wbits w F.FACAM_VALID.lo F.FACAM_VALID.len = 1) && decide (wbits w F.FACAM_BLK.lo F.FACAM_BLK.len = k) && decide (wbits w F.FACAM_KIND.lo F.FACAM_KIND.len = kind) &&
    decide (wbits w F.FACAM_INDEX.lo F.FACAM_INDEX.len = idx)

/-- The count that a word of the accumulator holds. -/
def camCnt (w : Word) : Nat := wbits w F.FACAM_CNT.lo F.FACAM_CNT.len

section
variable {u t : State} {c k kind idx e j d i : Nat} {w : Word}

theorem camIs_iff : camIs k kind idx w = true ↔ wbits w F.FACAM_VALID.lo F.FACAM_VALID.len = 1 ∧ wbits w F.FACAM_BLK.lo F.FACAM_BLK.len = k ∧
    wbits w F.FACAM_KIND.lo F.FACAM_KIND.len = kind ∧ wbits w F.FACAM_INDEX.lo F.FACAM_INDEX.len = idx := by
  simp only [camIs, Bool.and_eq_true, decide_eq_true_eq, and_assoc]

theorem camFind_eq : u.camFind c k kind idx = (List.range 512).find? fun e => camIs k kind idx (u.reg .FACAM c e) := rfl

theorem camIs_unique (h : camIs k kind idx w = true) (hne : (j, d, i) ≠ (k, kind, idx)) : camIs j d i w = false := by
  obtain ⟨-, hk, hkind, hidx⟩ := camIs_iff.1 h
  rw [← hk, ← hkind, ← hidx] at hne
  by_contra hother
  obtain ⟨-, hj, hd, hi⟩ := camIs_iff.1 (Bool.eq_true_of_not_eq_false hother)
  exact hne (by rw [hj, hd, hi])

theorem camIs_invalid (h : wbits w F.FACAM_VALID.lo F.FACAM_VALID.len ≠ 1) : camIs k kind idx w = false := by simp [camIs, h]

theorem camFind_some (h : u.camFind c k kind idx = some e) : e < 512 ∧ camIs k kind idx (u.reg .FACAM c e) = true := by
  rw [camFind_eq] at h
  exact ⟨List.mem_range.1 (List.mem_of_find?_eq_some h), List.find?_some (p := fun e => camIs k kind idx (u.reg .FACAM c e)) h⟩

theorem camFind_none : u.camFind c k kind idx = none ↔ ∀ e < 512, camIs k kind idx (u.reg .FACAM c e) = false := by
  rw [camFind_eq, List.find?_eq_none]
  simp

theorem camHas_iff : u.camHas c k kind idx ↔ ∃ e < 512, camIs k kind idx (u.reg .FACAM c e) = true := by
  simp only [camIs_iff]
  rfl

theorem camCount_of_find (h : u.camFind c k kind idx = some e) : u.camCount c k kind idx = camCnt (u.reg .FACAM c e) := by
  unfold State.camCount
  rw [h]
  rfl

theorem camCount_of_none (h : u.camFind c k kind idx = none) : u.camCount c k kind idx = 0 := by
  unfold State.camCount
  rw [h]

theorem camFind_same (h : ∀ e < 512, camIs k kind idx (t.reg .FACAM c e) = camIs k kind idx (u.reg .FACAM c e)) : t.camFind c k kind idx = u.camFind c k kind idx := by
  rw [camFind_eq, camFind_eq]
  exact List.find?_congr fun e he => h e (List.mem_range.1 he)

/-- A count stays when the same entries hold its line, and the same count. -/
theorem camCount_same (h : ∀ e < 512, camIs k kind idx (t.reg .FACAM c e) = camIs k kind idx (u.reg .FACAM c e) ∧
    (camIs k kind idx (u.reg .FACAM c e) = true → camCnt (t.reg .FACAM c e) = camCnt (u.reg .FACAM c e))) : t.camCount c k kind idx = u.camCount c k kind idx := by
  have hfind := camFind_same (t := t) (u := u) (c := c) (k := k) (kind := kind) (idx := idx) fun e he => (h e he).1
  cases hu : u.camFind c k kind idx with
  | none => rw [camCount_of_none hu, camCount_of_none (hfind.trans hu)]
  | some e =>
    obtain ⟨he, his⟩ := camFind_some hu
    rw [camCount_of_find hu, camCount_of_find (hfind.trans hu)]
    exact (h e he).2 his

theorem camCount_lt : u.camCount c k kind idx < 256 := by
  unfold State.camCount
  split
  · exact u.fget_lt ..
  · decide

/-! ### The entries of a block are freed -/

/-- An entry is freed, if it is one of a block. -/
def State.camFreeAt (s : State) (c k e : Nat) : State := if s.fget F.FACAM_VALID c e = 1 ∧ s.fget F.FACAM_BLK c e = k then s.setReg .FACAM c e 0 else s

theorem camFree_eq (u : State) (c k : Nat) : u.camFree c k = (List.range 512).foldl (fun s e => s.camFreeAt c k e) u := rfl

theorem reg_camFreeAt_self (s : State) (c k e : Nat) :
    (s.camFreeAt c k e).reg .FACAM c e = if s.fget F.FACAM_VALID c e = 1 ∧ s.fget F.FACAM_BLK c e = k then 0 else s.reg .FACAM c e := by
  unfold State.camFreeAt
  split
  · exact State.reg_setReg_self ..
  · rfl

theorem reg_camFreeAt_ne (s : State) (h : d ≠ e) : (s.camFreeAt c k d).reg .FACAM c e = s.reg .FACAM c e := by
  unfold State.camFreeAt
  split
  · exact State.reg_setReg_ne _ _ (by simp [Ne.symm h])
  · rfl

theorem only_camFreeAt {ch : Changes} {s : State} (h : Only ch u s) (m : (.FACAM, c, e) ∈ ch.regs) : Only ch u (s.camFreeAt c k e) := by
  unfold State.camFreeAt
  split
  · exact h.setReg _ m
  · exact h

theorem reg_foldl_camFreeAt (l : List Nat) (s : State) : (l.foldl (fun s e => s.camFreeAt c k e) s).reg .FACAM c e =
    if e ∈ l ∧ s.fget F.FACAM_VALID c e = 1 ∧ s.fget F.FACAM_BLK c e = k then 0 else s.reg .FACAM c e := by
  induction l generalizing s with
  | nil => simp
  | cons d l ih =>
    rw [List.foldl_cons, ih]
    by_cases hd : d = e
    · subst hd
      rw [reg_camFreeAt_self]
      by_cases hfree : s.fget F.FACAM_VALID c d = 1 ∧ s.fget F.FACAM_BLK c d = k
      · simp [hfree]
      · have hkeep : s.camFreeAt c k d = s := if_neg hfree
        rw [if_neg hfree, hkeep, if_neg fun hin => hfree hin.2, if_neg fun hin => hfree hin.2]
    · have hread : ∀ f : Fld, f.kind = .FACAM → (s.camFreeAt c k d).fget f c e = s.fget f c e := fun f hf => by
        unfold State.fget
        rw [hf, reg_camFreeAt_ne s hd]
      rw [hread _ rfl, hread _ rfl, reg_camFreeAt_ne s hd]
      simp [Ne.symm hd]

/-- What freeing a block leaves of the accumulator. -/
theorem reg_camFree (u : State) (c k : Nat) (h : e < 512) :
    (u.camFree c k).reg .FACAM c e = if u.fget F.FACAM_VALID c e = 1 ∧ u.fget F.FACAM_BLK c e = k then 0 else u.reg .FACAM c e := by
  have hfold := reg_foldl_camFreeAt (c := c) (k := k) (e := e) (List.range 512) u
  rw [← camFree_eq] at hfold
  simpa [h] using hfold

theorem Only.camFree {ch : Changes} {s : State} (h : Only ch u s) (m : ∀ e < 512, (.FACAM, c, e) ∈ ch.regs) : Only ch u (s.camFree c k) := by
  have hfold : ∀ (l : List Nat) (s : State), (∀ e ∈ l, e < 512) → Only ch u s → Only ch u (l.foldl (fun s e => s.camFreeAt c k e) s) := by
    intro l
    induction l with
    | nil => exact fun s _ h => h
    | cons e l ih => exact fun s hl h => ih _ (fun e he => hl e (List.mem_cons_of_mem _ he)) (only_camFreeAt h (m e (hl e (List.mem_cons_self ..))))
  exact hfold _ s (fun e => List.mem_range.1) h

theorem camFree_freed (u : State) (c k : Nat) : CamFreed u (u.camFree c k) c k := by
  have hzero : ∀ {k kind idx}, camIs k kind idx 0 = false := fun {k kind idx} => camIs_invalid (by decide)
  have hvalid : ∀ {e j kind idx}, camIs j kind idx (u.reg .FACAM c e) = true → u.fget F.FACAM_VALID c e = 1 ∧ u.fget F.FACAM_BLK c e = j := fun {e j kind idx} h =>
    ⟨(camIs_iff.1 h).1, (camIs_iff.1 h).2.1⟩
  refine fun kind i => ⟨camCount_of_none (camFind_none.2 fun e he => ?_), fun j hj => camCount_same fun e he => ?_⟩
  · rw [reg_camFree u c k he]
    split
    · exact hzero
    · next hkeep => exact Bool.eq_false_of_not_eq_true fun his => hkeep (hvalid his)
  · rw [reg_camFree u c k he]
    split
    · next hfree =>
      have hother : camIs j kind i (u.reg .FACAM c e) = false := Bool.eq_false_of_not_eq_true fun his => hj ((hvalid his).2.symm.trans hfree.2)
      rw [hzero, hother]
      exact ⟨rfl, nofun⟩
    · exact ⟨rfl, fun _ => rfl⟩

end

/-! ### A fail is counted in a row or column (09 R239) -/

/-- What a fail of a line writes: the entry e is the line's, with the count one more; its other fields as before, unless it was not in use. -/
structure CamWrote (u t : State) (c k kind idx e : Nat) : Prop where
  lt : e < 512
  others : ∀ d, d ≠ e → t.reg .FACAM c d = u.reg .FACAM c d
  line : camIs k kind idx (t.reg .FACAM c e) = true
  count : camCnt (t.reg .FACAM c e) = min 255 (u.camCount c k kind idx + 1)
  before : u.camFind c k kind idx = some e ∨ u.camFind c k kind idx = none ∧ u.fget F.FACAM_VALID c e = 0

/-- The counter of must-repair lines of a kind. -/
def mustRepair (kind : Nat) : Fld := if kind = 0 then F.RBCFG_MR else F.RBCFG_MC

section
variable {u t : State} {c k kind idx limit e d : Nat}

theorem CamWrote.find (h : CamWrote u t c k kind idx e) : t.camFind c k kind idx = some e := by
  rcases h.before with hfind | ⟨hnone, -⟩
  · refine (camFind_same fun d _ => ?_).trans hfind
    by_cases hd : d = e
    · rw [hd, h.line, (camFind_some hfind).2]
    · rw [h.others d hd]
  · cases hfind : t.camFind c k kind idx with
    | none =>
      have hline := h.line
      rw [camFind_none.1 hfind e h.lt] at hline
      cases hline
    | some d =>
      obtain ⟨hd, his⟩ := camFind_some hfind
      by_cases hde : d = e
      · rw [hde]
      · rw [h.others d hde, camFind_none.1 hnone d hd] at his
        cases his

theorem CamWrote.counted (h : CamWrote u t c k kind idx e) : t.camCount c k kind idx = min 255 (u.camCount c k kind idx + 1) := (camCount_of_find h.find).trans h.count

theorem CamWrote.kept (h : CamWrote u t c k kind idx e) {j b i : Nat} (hne : (j, b, i) ≠ (k, kind, idx)) : t.camCount c j b i = u.camCount c j b i := by
  refine camCount_same fun d _ => ?_
  by_cases hd : d = e
  · subst hd
    have hbefore : camIs j b i (u.reg .FACAM c d) = false := h.before.elim (fun hfind => camIs_unique (camFind_some hfind).2 hne)
      fun hfree => camIs_invalid (by rw [show wbits (u.reg .FACAM c d) _ _ = 0 from hfree.2]; decide)
    rw [camIs_unique h.line hne, hbefore]
    exact ⟨rfl, nofun⟩
  · rw [h.others d hd]
    exact ⟨rfl, fun _ => rfl⟩

/-- A line that has an entry keeps one. -/
theorem CamWrote.has (h : CamWrote u t c k kind idx e) {j b i : Nat} (hhas : u.camHas c j b i) : t.camHas c j b i := by
  obtain ⟨d, hd, his⟩ := camHas_iff.1 hhas
  by_cases hne : (j, b, i) = (k, kind, idx)
  · obtain ⟨rfl, rfl, rfl⟩ := Prod.mk.inj hne |>.imp_right Prod.mk.inj
    exact camHas_iff.2 ⟨e, h.lt, h.line⟩
  · refine camHas_iff.2 ⟨d, hd, ?_⟩
    by_cases hde : d = e
    · subst hde
      rcases h.before with hfind | ⟨-, hfree⟩
      · rw [camIs_unique (camFind_some hfind).2 hne] at his
        cases his
      · rw [camIs_invalid (by rw [show wbits (u.reg .FACAM c d) _ _ = 0 from hfree]; decide)] at his
        cases his
    · rwa [h.others d hde]

/-- The entry that a line of the accumulator can use: its own, or one not in use. -/
def State.camTakes (u : State) (c k kind idx : Nat) : Prop := u.camHas c k kind idx ∨ ∃ e < 512, u.fget F.FACAM_VALID c e = 0

theorem CamWrote.free (h : CamWrote u t c k kind idx e) {f g : Nat} (hf : f < 512) (hg : g < 512) (hne : f ≠ g) (hfv : u.fget F.FACAM_VALID c f = 0) (hgv : u.fget F.FACAM_VALID c g = 0) :
    ∃ e < 512, t.fget F.FACAM_VALID c e = 0 := by
  have hkeep : ∀ d, d ≠ e → t.fget F.FACAM_VALID c d = u.fget F.FACAM_VALID c d := fun d hd => congrArg (wbits · _ _) (h.others d hd)
  by_cases hfe : f = e
  · exact ⟨g, hg, (hkeep g (by omega)).trans hgv⟩
  · exact ⟨f, hf, (hkeep f hfe).trans hfv⟩

/-- The word of an entry that begins. -/
def camWord (k kind idx : Nat) : Word := wd (k + kind * 2 ^ 12 + 2 ^ 13 + 2 ^ 14 + idx * 2 ^ 24)

theorem camIs_camWord (hk : k < 4096) (hkind : kind < 2) (hidx : idx < 2 ^ 32) : camIs k kind idx (camWord k kind idx) = true ∧ camCnt (camWord k kind idx) = 1 := by
  have hword : (camWord k kind idx).toNat = k + kind * 2 ^ 12 + 2 ^ 13 + 2 ^ 14 + idx * 2 ^ 24 := by
    unfold camWord wd
    rw [BitVec.toNat_ofNat, Nat.mod_eq_of_lt]
    omega
  rw [camIs_iff]
  unfold camCnt wbits bits
  rw [hword]
  simp only [F.FACAM_VALID, F.FACAM_BLK, F.FACAM_KIND, F.FACAM_INDEX, F.FACAM_CNT]
  omega

theorem camIs_wset {w : Word} {v : Nat} : camIs k kind idx (wset w F.FACAM_CNT.lo F.FACAM_CNT.len v) = camIs k kind idx w := by
  unfold camIs
  rw [wbits_wset_ne _ _ _ _ _ _ (by decide), wbits_wset_ne _ _ _ _ _ _ (by decide), wbits_wset_ne _ _ _ _ _ _ (by decide), wbits_wset_ne _ _ _ _ _ _ (by decide)]

/-- A line with an entry counts there. -/
theorem camWrote_found (h : u.camFind c k kind idx = some e) : CamWrote u (u.fset F.FACAM_CNT c e (min 255 (u.fget F.FACAM_CNT c e + 1))) c k kind idx e where
  lt := (camFind_some h).1
  others d hd := State.reg_fset_ne (f := F.FACAM_CNT) _ _ (by simp [F.FACAM_CNT, hd])
  line := by
    exact (congrArg (camIs k kind idx) (State.reg_setReg_self ..)).trans (camIs_wset.trans (camFind_some h).2)
  count := by
    rw [camCount_of_find h]
    refine (State.fget_fset_self u F.FACAM_CNT c e _ (by decide)).trans (Nat.mod_eq_of_lt ?_)
    exact Nat.lt_succ_of_le (Nat.min_le_left ..)
  before := .inl h

/-- A line without takes an entry that is not in use. -/
theorem camWrote_new (hk : k < 4096) (hkind : kind < 2) (hidx : idx < 2 ^ 32) (h : u.camFind c k kind idx = none) (he : e < 512) (hfree : u.fget F.FACAM_VALID c e = 0) :
    CamWrote u (u.setReg .FACAM c e (camWord k kind idx)) c k kind idx e where
  lt := he
  others d hd := State.reg_setReg_ne _ _ (by simp [hd])
  line := by
    rw [State.reg_setReg_self]
    exact (camIs_camWord hk hkind hidx).1
  count := by
    rw [State.reg_setReg_self, camCount_of_none h]
    exact (camIs_camWord hk hkind hidx).2
  before := .inr ⟨h, hfree⟩

/-- A fail of a line of block k of tile c has been counted; the line is must-repair when its count passes the limit. -/
structure CamAdded (u t : State) (c k kind idx limit : Nat) : Prop where
  wrote : ∃ e, CamWrote u t c k kind idx e
  cfg : t.reg .RBCFG 0 k = (u.finc (mustRepair kind) 0 k (b2n (decide (u.camCount c k kind idx = limit)))).reg .RBCFG 0 k

theorem mustRepair_kind : (mustRepair kind).kind = .RBCFG := by
  unfold mustRepair
  split <;> rfl

theorem camAdded_of {s : State} (w : CamWrote u s c k kind idx e) (hreg : s.reg .RBCFG 0 k = u.reg .RBCFG 0 k) :
    CamAdded u (if u.camCount c k kind idx = limit then s.inc (mustRepair kind) 0 k else s) c k kind idx limit := by
  by_cases hlimit : u.camCount c k kind idx = limit
  · rw [if_pos hlimit]
    have hfacam : ∀ d, (s.inc (mustRepair kind) 0 k).reg .FACAM c d = s.reg .FACAM c d := fun d => State.reg_fset_ne (f := mustRepair kind) _ _ (by simp [mustRepair_kind])
    refine ⟨⟨e, w.lt, fun d hd => (hfacam d).trans (w.others d hd), ?_, ?_, w.before⟩, ?_⟩
    · rw [hfacam]
      exact w.line
    · rw [hfacam]
      exact w.count
    · simp only [State.inc, State.finc, State.fset, State.fget, mustRepair_kind, hreg, State.reg_setReg_self, hlimit, decide_true, b2n]
      rfl
  · rw [if_neg hlimit]
    refine ⟨⟨e, w⟩, ?_⟩
    rw [decide_eq_false hlimit]
    exact hreg.trans (((Only.refl {} u).finc_zero (mustRepair kind) 0 k).regs _ _ _ (by simp)).symm

theorem camAdd_found (h : u.camFind c k kind idx = some e) : u.camAdd c k kind idx limit =
    let s := u.fset F.FACAM_CNT c e (min 255 (u.fget F.FACAM_CNT c e + 1))
    if u.camCount c k kind idx = limit then s.inc (mustRepair kind) 0 k else s := by
  have hcount : u.camCount c k kind idx = u.fget F.FACAM_CNT c e := camCount_of_find h
  unfold State.camAdd mustRepair
  rw [h, hcount]
  dsimp only
  split
  · split <;> rfl
  · rfl

theorem camAdd_new (h : u.camFind c k kind idx = none) (hfree : (List.range 512).find? (fun e => u.fget F.FACAM_VALID c e = 0) = some e) : u.camAdd c k kind idx limit =
    let s := u.setReg .FACAM c e (camWord k kind idx)
    if u.camCount c k kind idx = limit then s.inc (mustRepair kind) 0 k else s := by
  unfold State.camAdd mustRepair
  rw [h, hfree, camCount_of_none h]
  dsimp only
  simp only [eq_comm (a := 0) (b := limit)]
  split
  · split <;> rfl
  · rfl

theorem camAdd_added (hk : k < 4096) (hkind : kind < 2) (hidx : idx < 2 ^ 32) (h : u.camTakes c k kind idx) : CamAdded u (u.camAdd c k kind idx limit) c k kind idx limit := by
  cases hfind : u.camFind c k kind idx with
  | some e =>
    rw [camAdd_found hfind]
    exact camAdded_of (camWrote_found hfind) (State.reg_fset_ne (f := F.FACAM_CNT) _ _ (by simp [F.FACAM_CNT]))
  | none =>
    have hfree : ∃ e < 512, u.fget F.FACAM_VALID c e = 0 := h.resolve_left fun hhas => by
      obtain ⟨e, he, his⟩ := camHas_iff.1 hhas
      rw [camFind_none.1 hfind e he] at his
      cases his
    cases hfirst : (List.range 512).find? (fun e => u.fget F.FACAM_VALID c e = 0) with
    | none =>
      obtain ⟨e, he, hvalid⟩ := hfree
      exact absurd (decide_eq_true hvalid) (List.find?_eq_none.1 hfirst e (List.mem_range.2 he))
    | some e =>
      rw [camAdd_new hfind hfirst]
      have he : e < 512 := List.mem_range.1 (List.mem_of_find?_eq_some hfirst)
      have hvalid : u.fget F.FACAM_VALID c e = 0 := of_decide_eq_true (List.find?_some (p := fun e => decide (u.fget F.FACAM_VALID c e = 0)) hfirst)
      exact camAdded_of (camWrote_new hk hkind hidx hfind he hvalid) (State.reg_setReg_ne _ _ (by simp))

/-- A full accumulator counts no new line, and OVF of the block is set. -/
theorem camAdd_full (hvalid : ∀ e < 512, u.fget F.FACAM_VALID c e = 1) (h : ¬u.camHas c k kind idx) : u.camAdd c k kind idx limit = u.fset F.RBCFG_OVF 0 k 1 := by
  have hfind : u.camFind c k kind idx = none := camFind_none.2 fun e he => Bool.eq_false_of_not_eq_true fun his => h (camHas_iff.2 ⟨e, he, his⟩)
  have hfree : (List.range 512).find? (fun e => u.fget F.FACAM_VALID c e = 0) = none := List.find?_eq_none.2 fun e he => by simp [hvalid e (List.mem_range.1 he)]
  unfold State.camAdd
  rw [hfind, hfree]

theorem facam_mem (he : e < 512) : (.FACAM, c, e) ∈ (repairChanges c k).regs := by simp [repairChanges, he]

theorem Only.camAdd {s : State} (h : Only (repairChanges c k) u s) : Only (repairChanges c k) u (s.camAdd c k kind idx limit) := by
  have hnoted : ∀ {s : State} {p : Prop} [Decidable p], Only (repairChanges c k) u s → Only (repairChanges c k) u (if p then s.inc (mustRepair kind) 0 k else s) := fun {s p _} h => by
    split
    · exact h.inc (by simp [mustRepair_kind, repairChanges])
    · exact h
  cases hfind : s.camFind c k kind idx with
  | some e =>
    rw [camAdd_found hfind]
    exact hnoted (h.fset _ (facam_mem (camFind_some hfind).1))
  | none =>
    cases hfirst : (List.range 512).find? (fun e => s.fget F.FACAM_VALID c e = 0) with
    | none =>
      unfold State.camAdd
      rw [hfind, hfirst]
      exact h.fset _ (by simp [repairChanges, F.RBCFG_OVF])
    | some e =>
      rw [camAdd_new hfind hfirst]
      exact hnoted (h.setReg _ (facam_mem (List.mem_range.1 (List.mem_of_find?_eq_some hfirst))))

end

/-! ### The operations of FACC (09 R239) -/

section
variable {u t : State} {c k row col : Nat} {a b : Word} {rnew cnew : Bool}

/-- The result word of ACC and QUERY, from what both show. -/
theorem failWord_eq (t : State) (c k : Nat) (a : Word) (rnew cnew ign : Bool) :
    t.failWord c k (wbits a 32 32) (wbits a 0 32) rnew cnew ign = wd (t.rbView c k a + b2n rnew + b2n cnew * 2 + b2n ign * 32) := by
  unfold State.failWord State.rbView State.rbEarly
  dsimp only
  exact congrArg wd (by omega)

theorem failWord_heeded (t : State) (c k : Nat) (a : Word) (rnew cnew : Bool) :
    t.failWord c k (wbits a 32 32) (wbits a 0 32) rnew cnew false = wd (t.rbView c k a + b2n rnew + b2n cnew * 2) := by
  rw [failWord_eq, show b2n false = 0 from rfl, Nat.zero_mul, Nat.add_zero]

/-- A line becomes must-repair with the fail that reaches the limit. -/
theorem became_mustRepair {n limit : Nat} (h : limit < 128) : (decide (n ≤ limit) && decide (limit < min 255 (n + 1))) = decide (n = limit) := by
  rw [Bool.eq_iff_iff]
  simp only [Bool.and_eq_true, decide_eq_true_eq]
  omega

/-- The registers of a block after both lines have counted. -/
theorem CamAdded.both {s : State} {limit : Nat} (h : CamAdded u s c k 0 row (u.fget F.RBCFG_SC 0 k)) (g : CamAdded s t c k 1 col limit) (hlimit : limit = u.fget F.RBCFG_SR 0 k) :
    (∀ f : Fld, f.kind = .RBCFG → f.lo + f.len ≤ 22 → t.fget f 0 k = u.fget f 0 k) ∧ FailCounted u t c k row col (t.failWord c k row col (decide (u.camCount c k 0 row = u.fget F.RBCFG_SC 0 k))
      (decide (u.camCount c k 1 col = u.fget F.RBCFG_SR 0 k)) false) := by
  obtain ⟨e, he⟩ := h.wrote
  obtain ⟨d, hd⟩ := g.wrote
  have hcol : s.camCount c k 1 col = u.camCount c k 1 col := he.kept (by simp)
  have hcfgs : ∀ f : Fld, f.kind = .RBCFG → s.fget f 0 k = (u.finc F.RBCFG_MR 0 k (b2n (decide (u.camCount c k 0 row = u.fget F.RBCFG_SC 0 k)))).fget f 0 k := fun f hf => by
    have := h.cfg
    unfold State.fget
    rw [hf, this]
    rfl
  have hcfgt : ∀ f : Fld, f.kind = .RBCFG → t.fget f 0 k = (s.finc F.RBCFG_MC 0 k (b2n (decide (s.camCount c k 1 col = limit)))).fget f 0 k := fun f hf => by
    have := g.cfg
    unfold State.fget
    rw [hf, this]
    rfl
  have hlow : ∀ f : Fld, f.kind = .RBCFG → f.lo + f.len ≤ 22 → t.fget f 0 k = u.fget f 0 k := fun f hf hfield => by
    rw [hcfgt f hf, fget_finc_field _ _ _ hf (.inr (hfield.trans (by decide))), hcfgs f hf, fget_finc_field _ _ _ hf (.inr (hfield.trans (by decide)))]
  refine ⟨hlow, ?_, ?_, fun j i => ⟨fun hne => ?_, fun hne => ?_⟩, ?_, ?_, hlow _ rfl (by decide), rfl⟩
  · rw [hd.kept (by simp), he.counted]
  · rw [hd.counted, hcol]
  · rw [hd.kept (by simp), he.kept (by simpa using hne)]
  · rw [hd.kept (by simpa using hne), he.kept (by simp)]
  · unfold Counted
    rw [hcfgt _ rfl, fget_finc_field (f := F.RBCFG_MC) (f' := F.RBCFG_MR) _ _ _ rfl (by decide), hcfgs _ rfl, fget_finc _ _ _ _ _ (by decide)]
  · unfold Counted
    rw [hcfgt _ rfl, fget_finc _ _ _ _ _ (by decide), hcfgs _ rfl, fget_finc_field (f := F.RBCFG_MR) (f' := F.RBCFG_MC) _ _ _ rfl (by decide), hcol, hlimit]

/-- Both lines of a fail are counted where the accumulator has room. -/
theorem camAdd_both (hk : k < 4096) (hrow : row < 2 ^ 32) (hcol : col < 2 ^ 32) (h : u.camRoom c k row col) :
    ∃ s, s = u.camAdd c k 0 row (u.fget F.RBCFG_SC 0 k) ∧ CamAdded u s c k 0 row (u.fget F.RBCFG_SC 0 k) ∧
      CamAdded s (s.camAdd c k 1 col (u.fget F.RBCFG_SR 0 k)) c k 1 col (u.fget F.RBCFG_SR 0 k) := by
  have htakes : u.camTakes c k 0 row := h.imp And.left fun ⟨e, he, _, _, _, hvalid, _⟩ => ⟨e, he, hvalid⟩
  have hadded : CamAdded u (u.camAdd c k 0 row (u.fget F.RBCFG_SC 0 k)) c k 0 row (u.fget F.RBCFG_SC 0 k) := camAdd_added hk (by decide) hrow htakes
  obtain ⟨e, he⟩ := hadded.wrote
  refine ⟨_, rfl, hadded, camAdd_added hk (by decide) hcol ?_⟩
  rcases h with ⟨-, hhas⟩ | ⟨f, hf, g, hg, hne, hfv, hgv⟩
  · exact .inl (he.has hhas)
  · exact .inr (he.free hf hg hne hfv hgv)

/-- The state after a fail of an OPEN block. -/
def State.failAdded (u : State) (c k : Nat) (a : Word) : State :=
  (u.camAdd c k 0 (wbits a 32 32) (u.fget F.RBCFG_SC 0 k)).camAdd c k 1 (wbits a 0 32) (u.fget F.RBCFG_SR 0 k)

theorem rbAcc_open (hst : u.fget F.RBST_STATE 0 k = 1) : u.rbAcc c k a =
    let t := u.failAdded c k a
    (wd (t.rbView c k a + b2n (decide (u.camCount c k 0 (wbits a 32 32) ≤ t.fget F.RBCFG_SC 0 k) && decide (t.fget F.RBCFG_SC 0 k < t.camCount c k 0 (wbits a 32 32))) +
      b2n (decide (u.camCount c k 1 (wbits a 0 32) ≤ t.fget F.RBCFG_SR 0 k) && decide (t.fget F.RBCFG_SR 0 k < t.camCount c k 1 (wbits a 0 32))) * 2), t) := if_pos hst

theorem rbAcc_counted (hk : k < 4096) (hst : u.fget F.RBST_STATE 0 k = 1) (h : u.camRoom c k (wbits a 32 32) (wbits a 0 32)) :
    FailCounted u (u.rbAcc c k a).2 c k (wbits a 32 32) (wbits a 0 32) (u.rbAcc c k a).1 := by
  obtain ⟨s, hs, hrow, hcol⟩ := camAdd_both hk (wbits_lt a 32 32) (wbits_lt a 0 32) h
  have ht : s.camAdd c k 1 (wbits a 0 32) (u.fget F.RBCFG_SR 0 k) = u.failAdded c k a := by
    rw [hs]
    rfl
  rw [ht] at hcol
  obtain ⟨hlow, hcounted⟩ := hrow.both hcol rfl
  rw [rbAcc_open hst]
  dsimp only
  rw [hlow F.RBCFG_SC rfl (by decide), hlow F.RBCFG_SR rfl (by decide), hcounted.rowCount, hcounted.colCount, became_mustRepair (u.fget_lt ..), became_mustRepair (u.fget_lt ..)]
  rw [failWord_heeded] at hcounted
  exact hcounted

/-- What a full accumulator shows after a fail of two new lines. -/
theorem camAdd_both_full {limit limit' : Nat} (h : u.camFull c k row col) : (u.camAdd c k 0 row limit).camAdd c k 1 col limit' = (u.fset F.RBCFG_OVF 0 k 1).fset F.RBCFG_OVF 0 k 1 := by
  obtain ⟨hvalid, hrow, hcol⟩ := h
  have hreg : ∀ e, (u.fset F.RBCFG_OVF 0 k 1).reg .FACAM c e = u.reg .FACAM c e := fun e => State.reg_fset_ne (f := F.RBCFG_OVF) _ _ (by simp [F.RBCFG_OVF])
  have hvalid' : ∀ e < 512, (u.fset F.RBCFG_OVF 0 k 1).fget F.FACAM_VALID c e = 1 := fun e he => (congrArg (wbits · _ _) (hreg e)).trans (hvalid e he)
  have hcol' : ¬(u.fset F.RBCFG_OVF 0 k 1).camHas c k 1 col := by
    simp only [camHas_iff, hreg]
    rwa [camHas_iff] at hcol
  rw [camAdd_full hvalid hrow, camAdd_full hvalid' hcol']

theorem camCount_of_not_has {kind idx : Nat} (h : ¬u.camHas c k kind idx) : u.camCount c k kind idx = 0 :=
  camCount_of_none (camFind_none.2 fun e he => Bool.eq_false_of_not_eq_true fun his => h (camHas_iff.2 ⟨e, he, his⟩))

theorem rbAcc_full (hst : u.fget F.RBST_STATE 0 k = 1) (h : u.camFull c k (wbits a 32 32) (wbits a 0 32)) :
    let t := (u.rbAcc c k a).2
    (∀ e < 512, t.reg .FACAM c e = u.reg .FACAM c e) ∧ t.reg .RBST 0 k = u.reg .RBST 0 k ∧ t.reg .RBCFG 0 k = wset (u.reg .RBCFG 0 k) 21 1 1 ∧
      (u.rbAcc c k a).1 = t.failWord c k (wbits a 32 32) (wbits a 0 32) false false false := by
  rw [rbAcc_open hst]
  dsimp only
  have hone : (u.fset F.RBCFG_OVF 0 k 1).fget F.RBCFG_OVF 0 k = 1 := State.fget_fset_self _ _ _ _ _ (by decide)
  have hreg : ∀ q b i, (u.failAdded c k a).reg q b i = (u.fset F.RBCFG_OVF 0 k 1).reg q b i := fun q b i => by
    unfold State.failAdded
    rw [camAdd_both_full h]
    exact reg_fset_same hone.symm q b i
  have hfacam : ∀ e, (u.failAdded c k a).reg .FACAM c e = u.reg .FACAM c e := fun e => (hreg ..).trans (State.reg_fset_ne (f := F.RBCFG_OVF) _ _ (by simp [F.RBCFG_OVF]))
  have hzero : ∀ {kind idx}, ¬u.camHas c k kind idx → (u.failAdded c k a).camCount c k kind idx = 0 := fun {kind idx} hhas =>
    (camCount_same fun e _ => by simp [hfacam]).trans (camCount_of_not_has hhas)
  refine ⟨fun e _ => hfacam e, (hreg ..).trans (State.reg_fset_ne (f := F.RBCFG_OVF) _ _ (by simp [F.RBCFG_OVF])), (hreg ..).trans (State.reg_setReg_self ..), ?_⟩
  obtain ⟨-, hrow, hcol⟩ := h
  rw [hzero hrow, hzero hcol, failWord_heeded]
  simp [b2n]

theorem failWord_query : u.failWord c k (wbits a 32 32) (wbits a 0 32) false false false = wd (u.rbView c k a) := by
  simp [failWord_heeded, b2n]

theorem rbAcc_ignored (hst : u.fget F.RBST_STATE 0 k ≠ 1) : u.rbAcc c k a = (u.failWord c k (wbits a 32 32) (wbits a 0 32) false false true, u) := by
  unfold State.rbAcc
  rw [if_neg hst, failWord_eq]
  simp [b2n]

theorem held_self {ch : Changes} : Held u u ch := fun _ _ => rfl

theorem rbClose_moves (hst : u.fget F.RBST_STATE 0 k = 1) (hovf : u.fget F.RBCFG_OVF 0 k = 0) :
    (u.rbClose c k).2.fget F.RBST_STATE 0 k = 2 ∧ (u.rbClose c k).2.fget F.RBST_DUE 0 k = (u.count + 2) % 2 ^ 48 := by
  have hres : (u.rbClose c k).2 = (u.fset F.RBST_STATE 0 k 2).fset F.RBST_DUE 0 k (u.count + 2) := by
    unfold State.rbClose
    simp [hst, hovf]
  rw [hres]
  refine ⟨?_, State.fget_fset_self _ F.RBST_DUE _ _ _ (by decide)⟩
  exact (State.fget_fset_field (f := F.RBST_DUE) (f' := F.RBST_STATE) _ _ _ _ rfl (by decide)).trans (State.fget_fset_self _ F.RBST_STATE _ _ _ (by decide))

theorem fget_same {s : State} {f : Fld} {b i : Nat} (h : s.reg f.kind b i = u.reg f.kind b i) : s.fget f b i = u.fget f b i := congrArg (wbits · _ _) h

/-- A block that takes a state and whose entries are freed. -/
theorem freed_state (u : State) (c k v : Nat) : ((u.fset F.RBST_STATE 0 k v).camFree c k).fget F.RBST_STATE 0 k = v % 16 ∧ CamFreed u ((u.fset F.RBST_STATE 0 k v).camFree c k) c k := by
  have hreg : ∀ e, (u.fset F.RBST_STATE 0 k v).reg .FACAM c e = u.reg .FACAM c e := fun e => State.reg_fset_ne (f := F.RBST_STATE) _ _ (by simp [F.RBST_STATE])
  have hkeep : ((u.fset F.RBST_STATE 0 k v).camFree c k).reg .RBST 0 k = (u.fset F.RBST_STATE 0 k v).reg .RBST 0 k :=
    (Only.camFree (ch := { regs := (List.range 512).map fun e => (.FACAM, c, e) }) (Only.refl _ _) (fun e he => by simp [he])).regs _ _ _ (by simp)
  have hstate : ((u.fset F.RBST_STATE 0 k v).camFree c k).fget F.RBST_STATE 0 k = (u.fset F.RBST_STATE 0 k v).fget F.RBST_STATE 0 k := fget_same hkeep
  rw [State.fget_fset_self _ _ _ _ _ (by decide)] at hstate
  refine ⟨hstate, fun kind i => ⟨(camFree_freed _ c k kind i).1, fun j hj => ?_⟩⟩
  rw [(camFree_freed _ c k kind i).2 j hj]
  exact camCount_same fun e _ => by simp [hreg]

theorem rbClose_overflows (hst : u.fget F.RBST_STATE 0 k = 1) (hovf : u.fget F.RBCFG_OVF 0 k = 1) :
    (u.rbClose c k).2.fget F.RBST_STATE 0 k = 5 ∧ CamFreed u (u.rbClose c k).2 c k := by
  have hres : (u.rbClose c k).2 = (u.fset F.RBST_STATE 0 k 5).camFree c k := by
    unfold State.rbClose
    simp [hst, hovf]
  rw [hres]
  exact freed_state u c k 5

theorem rbClose_stays (hst : u.fget F.RBST_STATE 0 k ≠ 1) : (u.rbClose c k).2 = u := by
  unfold State.rbClose
  simp [hst]

theorem rbClose_word : (u.rbClose c k).1 = wd (u.fget F.RBCFG_MR 0 k + u.fget F.RBCFG_MC 0 k * 2 ^ 7 + u.fget F.RBCFG_OVF 0 k * 2 ^ 14 + b2n (u.rbEarly k) * 2 ^ 15 +
    b2n (decide (u.fget F.RBST_STATE 0 k ≠ 1)) * 2 ^ 16) := by
  unfold State.rbClose
  simp

theorem rbDone_moves (h : u.fget F.RBST_STATE 0 k = 2 ∧ u.count < u.fget F.RBST_DUE 0 k) : u.rbDone c k a = (0, (u.fset F.RBST_STATE 0 k (wbits a 0 4)).camFree c k) := if_pos h

theorem rbDone_stays (h : ¬(u.fget F.RBST_STATE 0 k = 2 ∧ u.count < u.fget F.RBST_DUE 0 k)) : u.rbDone c k a = (1, u) := if_neg h

/-- The operations of FACC do what they are asked to. -/
theorem facc_accumulated (u : State) (c op : Nat) (a b : Word) (hop : op < 4) : Accumulated u (u.facc c op a b).2 c op (wbits b 0 12) a (u.facc c op a b).1 := by
  have hk : wbits b 0 12 < 4096 := wbits_lt ..
  refine ⟨?acc, ?close, ?query, ?done⟩
  case acc =>
    rintro rfl
    refine ⟨fun hst => rbAcc_counted hk hst, fun hst => rbAcc_full hst, fun hst => ?_⟩
    rw [show u.facc c 0 a b = _ from rbAcc_ignored hst]
    exact ⟨held_self, rfl⟩
  case close =>
    rintro rfl
    refine ⟨rbClose_moves, rbClose_overflows, fun hst => ?_, rbClose_word⟩
    rw [show (u.facc c 1 a b).2 = _ from rbClose_stays hst]
    exact held_self
  case query =>
    rintro rfl
    exact ⟨held_self, failWord_query.symm⟩
  case done =>
    rintro rfl
    refine ⟨fun hdone => ?_, fun hdone => ?_⟩
    · rw [show u.facc c 3 a b = _ from rbDone_moves hdone]
      obtain ⟨hstate, hfreed⟩ := freed_state u c (wbits b 0 12) (wbits a 0 4)
      have hlow : wbits a 0 4 % 16 = a.toNat % 16 := by
        unfold wbits bits
        omega
      rw [hlow] at hstate
      dsimp only
      exact ⟨rfl, hstate, hfreed⟩
    · rw [show u.facc c 3 a b = _ from rbDone_stays hdone]
      exact ⟨rfl, held_self⟩

theorem Only.rbst {s : State} (h : Only (repairChanges c k) u s) {f : Fld} (hf : f.kind = .RBST) (v : Nat) : Only (repairChanges c k) u (s.fset f 0 k v) :=
  h.fset _ (by simp [repairChanges, hf])

theorem Only.blockFreed {s : State} (h : Only (repairChanges c k) u s) : Only (repairChanges c k) u (s.camFree c k) := h.camFree fun _ => facam_mem

/-- The operations of FACC change their block and its entries alone. -/
theorem only_facc (u : State) (c op : Nat) (a b : Word) : Only (repairChanges c (wbits b 0 12)) u (u.facc c op a b).2 := by
  have hself := Only.refl (repairChanges c (wbits b 0 12)) u
  have hacc : Only (repairChanges c (wbits b 0 12)) u (u.rbAcc c (wbits b 0 12) a).2 := by
    by_cases hst : u.fget F.RBST_STATE 0 (wbits b 0 12) = 1
    · rw [rbAcc_open hst]
      dsimp only [State.failAdded]
      exact hself.camAdd.camAdd
    · rw [rbAcc_ignored hst]
      exact hself
  have hclose : Only (repairChanges c (wbits b 0 12)) u (u.rbClose c (wbits b 0 12)).2 := by
    unfold State.rbClose
    dsimp only
    split
    · split
      · exact (hself.rbst (f := F.RBST_STATE) rfl _).blockFreed
      · exact (hself.rbst (f := F.RBST_STATE) rfl _).rbst (f := F.RBST_DUE) rfl _
    · exact hself
  have hdone : Only (repairChanges c (wbits b 0 12)) u (u.rbDone c (wbits b 0 12) a).2 := by
    unfold State.rbDone
    split
    · dsimp only
      exact (hself.rbst (f := F.RBST_STATE) rfl _).blockFreed
    · exact hself
  unfold State.facc
  dsimp only
  split
  · exact hacc
  · exact hclose
  · exact hself
  · exact hdone

end

/-! ### What an operation reads -/

/-- Two states show the same of block k and of the accumulator of tile c. -/
structure SameBlock (u s : State) (c k : Nat) : Prop where
  facam : ∀ e, s.reg .FACAM c e = u.reg .FACAM c e
  cfg : s.reg .RBCFG 0 k = u.reg .RBCFG 0 k
  st : s.reg .RBST 0 k = u.reg .RBST 0 k
  count : s.count = u.count

section
variable {u u' t t' s : State} {c k row col op : Nat} {a d : Word}

theorem SameBlock.cam (h : SameBlock u s c k) : s.camCount c = u.camCount c := by
  funext j kind i
  exact camCount_same fun e _ => by simp [h.facam]

theorem SameBlock.cfgs (h : SameBlock u s c k) (f : Fld) (hf : f.kind = .RBCFG := by rfl) : s.fget f 0 k = u.fget f 0 k := fget_same (by rw [hf]; exact h.cfg)

theorem SameBlock.sts (h : SameBlock u s c k) (f : Fld) (hf : f.kind = .RBST := by rfl) : s.fget f 0 k = u.fget f 0 k := fget_same (by rw [hf]; exact h.st)

theorem SameBlock.facams (h : SameBlock u s c k) (f : Fld) (hf : f.kind = .FACAM := by rfl) (e : Nat) : s.fget f c e = u.fget f c e := fget_same (by rw [hf]; exact h.facam e)

theorem SameBlock.failWord (h : SameBlock u s c k) (row col : Nat) (rnew cnew ign : Bool) : s.failWord c k row col rnew cnew ign = u.failWord c k row col rnew cnew ign := by
  unfold State.failWord
  simp only [h.cam, h.cfgs F.RBCFG_SC, h.cfgs F.RBCFG_SR, h.cfgs F.RBCFG_OVF, h.cfgs F.RBCFG_MR, h.cfgs F.RBCFG_MC]

theorem SameBlock.camHas (h : SameBlock u s c k) (j kind i : Nat) : s.camHas c j kind i ↔ u.camHas c j kind i := by simp only [camHas_iff, h.facam]

theorem SameBlock.camRoom (h : SameBlock u s c k) : s.camRoom c k row col ↔ u.camRoom c k row col := by
  unfold State.camRoom
  simp only [h.camHas, h.facams F.FACAM_VALID]

theorem SameBlock.camFull (h : SameBlock u s c k) : s.camFull c k row col ↔ u.camFull c k row col := by
  unfold State.camFull
  simp only [h.camHas, h.facams F.FACAM_VALID]

theorem SameBlock.counted (hu : SameBlock u u' c k) (ht : SameBlock t t' c k) (h : FailCounted u t c k row col d) : FailCounted u' t' c k row col d where
  rowCount := by rw [ht.cam, hu.cam]; exact h.rowCount
  colCount := by rw [ht.cam, hu.cam]; exact h.colCount
  others := by rw [ht.cam, hu.cam]; exact h.others
  mr := by unfold Counted; rw [ht.cfgs _, hu.cfgs _, hu.cfgs _, hu.cam]; exact h.mr
  mc := by unfold Counted; rw [ht.cfgs _, hu.cfgs _, hu.cfgs _, hu.cam]; exact h.mc
  ovf := by rw [ht.cfgs _, hu.cfgs _]; exact h.ovf
  result := by rw [ht.failWord, hu.cfgs _, hu.cfgs _, hu.cam]; exact h.result

theorem SameBlock.freed (hu : SameBlock u u' c k) (ht : SameBlock t t' c k) (h : CamFreed u t c k) : CamFreed u' t' c k := by
  unfold CamFreed at *
  rwa [ht.cam, hu.cam]

theorem SameBlock.held (hu : SameBlock u u' c k) (ht : SameBlock t t' c k) (h : Held u t (repairChanges c k)) : Held u' t' (repairChanges c k) := by
  have hregs : ∀ {s s' : State}, SameBlock s s' c k → ∀ r ∈ (repairChanges c k).regs, s'.reg r.1 r.2.1 r.2.2 = s.reg r.1 r.2.1 r.2.2 := fun {s s'} hs r hr => by
    simp only [repairChanges, List.mem_cons, List.mem_map] at hr
    obtain rfl | rfl | ⟨e, -, rfl⟩ := hr
    · exact hs.cfg
    · exact hs.st
    · exact hs.facam e
  exact fun r hr => (hregs ht r hr).trans ((h r hr).trans (hregs hu r hr).symm)

/-- What an operation does is said of the block and of the accumulator alone. -/
theorem SameBlock.accumulated (hu : SameBlock u u' c k) (ht : SameBlock t t' c k) (h : Accumulated u t c op k a d) : Accumulated u' t' c op k a d := by
  obtain ⟨hacc, hclose, hquery, hdone⟩ := h
  have hearly : u'.rbEarly k = u.rbEarly k := by
    unfold State.rbEarly
    rw [hu.cfgs _, hu.cfgs _, hu.cfgs _, hu.cfgs _]
  unfold Accumulated
  simp only [hu.camRoom, hu.camFull, hu.failWord, ht.failWord, hu.sts F.RBST_STATE, ht.sts F.RBST_STATE, ht.sts F.RBST_DUE, hu.sts F.RBST_DUE, hu.cfgs F.RBCFG_OVF, hu.cfgs F.RBCFG_MR,
    hu.cfgs F.RBCFG_MC, hearly, hu.count, hu.facam, ht.facam, hu.cfg, ht.cfg, hu.st, ht.st]
  refine ⟨fun hop => ?_, fun hop => ?_, fun hop => ?_, fun hop => ?_⟩
  · obtain ⟨hroom, hfull, hignored⟩ := hacc hop
    exact ⟨fun hst hr => hu.counted ht (hroom hst hr), hfull, fun hst => ⟨hu.held ht (hignored hst).1, (hignored hst).2⟩⟩
  · obtain ⟨hmoves, hover, hstays, hword⟩ := hclose hop
    exact ⟨hmoves, fun hst hovf => ⟨(hover hst hovf).1, hu.freed ht (hover hst hovf).2⟩, fun hst => hu.held ht (hstays hst), hword⟩
  · obtain ⟨hheld, hword⟩ := hquery hop
    exact ⟨hu.held ht hheld, hword⟩
  · obtain ⟨hmoves, hstays⟩ := hdone hop
    refine ⟨fun h => ?_, fun h => ?_⟩
    · obtain ⟨hword, hstate, hfreed⟩ := hmoves h
      exact ⟨hword, hstate, hu.freed ht hfreed⟩
    · obtain ⟨hword, hheld⟩ := hstays h
      exact ⟨hword, hu.held ht hheld⟩

end
/-! ### FACC of a thread and of a firing (09 R239) -/

section
variable {u s z : State} {c n dt op : Nat} {o : Ins} {d : Nat}

/-- What the word of a FACC form asks for. -/
def faccOp (op : Nat) (w : Word) : Bool := isStrandOp 0xD2 w && decide ((if nMode w < 2 then iAM w else nMod w) % 4 = op)

theorem faccOp_of (t : Takes u c n o) (hop : o.op = 0xD2) (ham : iAM o.w % 4 = op) : faccOp op o.w = true := by
  have hform : isStrandOp 0xD2 o.w = true := hop ▸ decodeAt_form t.ins
  have hmode : nMode o.w < 2 := by
    unfold isStrandOp at hform
    simp only [Bool.and_eq_true, decide_eq_true_eq] at hform
    exact hform.1.2
  unfold faccOp
  rw [hform, if_pos hmode, ham]
  exact decide_eq_true rfl

/-- What the issue of an instruction leaves of a block. -/
theorem Began.sameBlock (h : Began u s c n) (e k : Nat) : SameBlock u s e k where
  facam _ := h.reg _ _ (by decide) (by decide) (by decide)
  cfg := h.reg _ _ (by decide) (by decide) (by decide)
  st := h.reg _ _ (by decide) (by decide) (by decide)
  count := h.fget _ _ (by decide) (by decide) (by decide)

theorem Began.faccFault (h : Began u s c n) (e op : Nat) (a b : Word) : s.faccFault e op a b = u.faccFault e op a b := by
  unfold State.faccFault
  rw [h.fget (f := F.RBCFG_EN) _ _ (by decide) (by decide) (by decide), h.fget (f := F.RBCFG_HOME) _ _ (by decide) (by decide) (by decide)]

theorem SameBlock.symm {k : Nat} (h : SameBlock u s c k) : SameBlock s u c k := ⟨fun e => (h.facam e).symm, h.cfg.symm, h.st.symm, h.count.symm⟩

/-- The meaning of a form of FACC without a fault. -/
theorem xFacc_done {x : Thread} {a b : Word} (hx : s.thr c n = x) (ha : o.a x = a) (hb : o.b x = b) (ham : iAM o.w % 4 = op) (hfault : s.faccFault c op a b = none) :
    xFacc s c n o = .done ((s.facc c op a b).2.setThr c n (x.setW (iRD o.w) (s.facc c op a b).1)) := by
  subst hx ha hb ham
  unfold xFacc
  dsimp only
  rw [hfault]

/-- What it does after the issue. -/
theorem Began.faccDid (h : Began u s c n) (l : n < 16) (rd op : Nat) (a b : Word) :
    Did u ((s.facc c op a b).2.setThr c n ((s.thr c n).setW rd (s.facc c op a b).1)) c n ((u.thr c n).setW rd (s.facc c op a b).1) (repairChanges c (wbits b 0 12)) where
  only := (h.only.and_trans (only_facc s c op a b)).setThr _ l (by simp [issueChanges, Changes.and])
  tile q := (congrArg Tile.bare ((only_facc s c op a b).tiles c q)).trans h.tile
  thread := by
    rw [State.thr_setThr_self]
    exact h.rd ..

/-- A thread whose word is a form of FACC without a fault. -/
theorem faccStrand {x : Thread} {a b : Word} (t : Takes u c n o) (l : n < 16) (hop : o.op = 0xD2) (ham : iAM o.w % 4 = op) (hx : u.thr c n = x) (ha : o.a x = a) (hb : o.b x = b)
    (hfault : u.faccFault c op a b = none) (hpc : ∀ d, ((x.setW (iRD o.w) d).stepPc o.pc (o.pc + o.len)).pc ≤ 16383) :
    ∃ d, InSequence u (u.issue c n (faccOp op)) c n o (x.setW (iRD o.w) d) (repairChanges c (wbits b 0 12)) ∧ Accumulated u (u.issue c n (faccOp op)) c op (wbits b 0 12) a d := by
  obtain ⟨s, occ, hbegan, he⟩ := t.perform l (faccOp op) (faccOp_of t hop ham)
  have hmeans : meaningOf o.op s c n o = .done ((s.facc c op a b).2.setThr c n ((s.thr c n).setW (iRD o.w) (s.facc c op a b).1)) := by
    rw [hop]
    exact xFacc_done rfl (by rw [hbegan.a, hx, ha]) (by rw [hbegan.b, hx, hb]) ham (by rw [hbegan.faccFault, hfault])
  have hdid := hbegan.faccDid l (iRD o.w) op a b
  rw [hx] at hdid
  have hready : (x.setW (iRD o.w) (s.facc c op a b).1).st = .ready := setW_ready (hx ▸ t.ready) _ _
  have hquiet : Quiet (x.setW (iRD o.w) (s.facc c op a b).1).loads := setW_quiet (hx ▸ t.loads) _ _
  obtain ⟨y, hy⟩ := hdid.done_eq (r := s) (pre := s.thr c n) occ (o := o) (hbegan.pre t) hready hquiet (hpc _)
  have hblock : SameBlock (s.facc c op a b).2 (u.issue c n (faccOp op)) c (wbits b 0 12) := by
    rw [he, hmeans, hy]
    exact ⟨fun _ => rfl, rfl, rfl, rfl⟩
  refine ⟨_, ?_, (hbegan.sameBlock c _).symm.accumulated hblock (facc_accumulated s c op a b (by omega))⟩
  rw [he, hmeans]
  exact hdid.done l occ (o := o) (hbegan.pre t) hready hquiet (hpc _)

/-- The node form of FACC. -/
theorem nodeRes_facc {cls : Nat} {f : Firing} (hopc : nOpc f.word = 0xD2) (hform : formDefined 0xD2 (nMode f.word) = true) (hmod : f.mod < 4) (hmatch : nMatch f.word ≠ 5)
    (hfault : u.faccFault d f.mod f.a f.b = none) : u.nodeRes d cls f = (.toks (u.facc d f.mod f.a f.b).1 f.c (dsts f.word), (u.facc d f.mod f.a f.b).2) := by
  have hlimit : ¬ modLimit 0xD2 ≤ f.mod := by
    change ¬ 4 ≤ f.mod
    omega
  have hfits : ¬ 4 ≤ f.mod := by omega
  unfold State.nodeRes nodeTest
  dsimp only
  rw [hopc, hform, hfault, if_neg (by simp), if_neg hlimit, if_neg fun hnew => hmatch hnew.1]
  simp only [if_neg hfits]
  rfl

end

/-! ### RBCFG opens and frees a block (09 R238) -/

section
variable {z t : State} {who : Req} {k : Nat} {v m : Word}

/-- The four fields that RBCFG is written by, as one. -/
theorem rbcfg_fields (w : Word) : wbits w 0 21 = wbits w 0 7 + wbits w 7 7 * 2 ^ 7 + wbits w 14 6 * 2 ^ 14 + wbits w 20 1 * 2 ^ 20 := by
  unfold wbits bits
  omega

theorem merged_rbcfg_eq (old v : Word) : merged (regSpec .RBCFG).fields old v =
    wset (wset (wset (wset (wset (wset (wset 0 0 7 (wbits v 0 7)) 7 7 (wbits v 7 7)) 14 6 (wbits v 14 6)) 20 1 (wbits v 20 1)) 21 1 (wbits old 21 1)) 22 7 (wbits old 22 7)) 29 7 (wbits old 29 7) := rfl

/-- A write of RBCFG replaces what it may. -/
theorem merged_rbcfg (old v : Word) : wbits (merged (regSpec .RBCFG).fields old v) 0 21 = wbits v 0 21 := by
  rw [rbcfg_fields, rbcfg_fields v]
  rw [merged_rbcfg_eq]
  simp (disch := decide) only [wbits_wset_ne, wbits_wset_self]
  unfold wbits bits
  omega

theorem told_sameBlock (s : State) (a c k : Nat) : SameBlock t (s.told who a (.ok t)) c k := by
  have hreg : ∀ q b i, q ≠ .DAPSTAT → (s.told who a (.ok t)).reg q b i = t.reg q b i := fun q b i hq => by
    cases who with
    | debug => exact State.reg_fset_ne (f := F.DAPSTAT_ERR) _ _ (by simp [F.DAPSTAT_ERR, hq])
    | _ => rfl
  exact ⟨fun _ => hreg _ _ _ (by decide), hreg _ _ _ (by decide), hreg _ _ _ (by decide), fget_same (hreg _ _ _ (by decide))⟩

/-- A write of RBCFG that its rule accepts. -/
theorem rbcfgWrite_completes {b : Fin 4096} {P : State → Prop} (h : z.Passes who .RBCFG 0 b v) (hrule : z.rbcfgWrite b (merged (regSpec .RBCFG).fields (z.reg .RBCFG 0 b) v) = .ok t)
    (hP : P (z.told who (regAddr .RBCFG 0 b) (.ok t))) : Completes (.rbcfgWrite who b v) z P := by
  refine ⟨_, ?_, hP⟩
  change Host.Outcome.next (z.doWrite who .RBCFG 0 b v) = _
  unfold State.doWrite
  rw [Passes.regWrite h]
  exact congrArg (fun r => Host.Outcome.next (z.told who (regAddr .RBCFG 0 b) r)) hrule

/-- The fields of a write that opens no block and frees none, and of one that opens a block. -/
def State.rbcfgSet (z : State) (k : Nat) (m : Word) : State := z.setReg .RBCFG 0 k (wset (z.reg .RBCFG 0 k) 0 21 m.toNat)

theorem rbcfgWrite_unused (hen : z.fget F.RBCFG_EN 0 k = 0) :
    z.rbcfgWrite k m = .ok (if wbits m 20 1 = 1 then (z.rbcfgSet k m).fset F.RBST_STATE 0 k 1 else z.rbcfgSet k m) := by
  have hold : wbits (z.reg .RBCFG 0 k) 20 1 = 0 := hen
  unfold State.rbcfgWrite
  by_cases hopen : wbits m 20 1 = 1 <;> simp [hold, hopen, State.rbcfgSet]

theorem rbcfgWrite_frees (hen : z.fget F.RBCFG_EN 0 k = 1) (hsame : wbits m 0 20 = wbits (z.reg .RBCFG 0 k) 0 20) (hclose : wbits m 20 1 = 0) :
    z.rbcfgWrite k m = .ok (((z.camFree (z.fget F.RBCFG_HOME 0 k) k).setReg .RBCFG 0 k (wd (wbits (z.reg .RBCFG 0 k) 0 20))).fset F.RBST_STATE 0 k 0) := by
  have hold : wbits (z.reg .RBCFG 0 k) 20 1 = 1 := hen
  have hhome : wbits (z.reg .RBCFG 0 k) 14 6 = z.fget F.RBCFG_HOME 0 k := rfl
  unfold State.rbcfgWrite
  dsimp only
  rw [hold, hsame, hclose, hhome]
  simp

theorem wbits_low (w : Word) (len : Nat) : wbits w 0 len = w.toNat % 2 ^ len := by
  unfold wbits bits
  rw [Nat.pow_zero, Nat.div_one]

/-- What frees a block, and what it may not change, from the fields as one. -/
theorem wbits_sr_sc_home (w : Word) : wbits w 0 20 = wbits w 0 21 % 2 ^ 20 ∧ wbits w 20 1 = wbits w 0 21 / 2 ^ 20 := by
  unfold wbits bits
  omega

/-- A write of RBCFG reads as its word does. -/
theorem merged_reads (old v : Word) : wbits (merged (regSpec .RBCFG).fields old v) 0 20 = wbits v 0 20 ∧ wbits (merged (regSpec .RBCFG).fields old v) 20 1 = wbits v 20 1 := by
  obtain ⟨hm, hm'⟩ := wbits_sr_sc_home (merged (regSpec .RBCFG).fields old v)
  obtain ⟨hv, hv'⟩ := wbits_sr_sc_home v
  rw [hm, hm', hv, hv', merged_rbcfg]
  exact ⟨rfl, rfl⟩

/-- The block after a write to an entry that is not in use. -/
theorem rbcfgUnused_is (z : State) (k : Nat) (v : Word) :
    let m := merged (regSpec .RBCFG).fields (z.reg .RBCFG 0 k) v
    let t := if wbits m 20 1 = 1 then (z.rbcfgSet k m).fset F.RBST_STATE 0 k 1 else z.rbcfgSet k m
    wbits (t.reg .RBCFG 0 k) 0 21 = wbits v 0 21 ∧ wbits (t.reg .RBCFG 0 k) 21 43 = wbits (z.reg .RBCFG 0 k) 21 43 ∧
      t.fget F.RBST_STATE 0 k = (if wbits v 20 1 = 1 then 1 else z.fget F.RBST_STATE 0 k) ∧ t.fget F.RBST_DUE 0 k = z.fget F.RBST_DUE 0 k ∧
      Only { regs := [(.RBCFG, 0, k), (.RBST, 0, k)] } z t := by
  intro m t
  have hset : t.reg .RBCFG 0 k = wset (z.reg .RBCFG 0 k) 0 21 m.toNat := by
    have hcfg : (z.rbcfgSet k m).reg .RBCFG 0 k = wset (z.reg .RBCFG 0 k) 0 21 m.toNat := State.reg_setReg_self ..
    by_cases hopen : wbits m 20 1 = 1
    · rw [show t = _ from if_pos hopen]
      exact (State.reg_fset_ne (f := F.RBST_STATE) _ _ (by simp [F.RBST_STATE])).trans hcfg
    · rw [show t = _ from if_neg hopen]
      exact hcfg
  have hst : (z.rbcfgSet k m).reg .RBST 0 k = z.reg .RBST 0 k := State.reg_setReg_ne _ _ (by simp)
  have honly : Only { regs := [(.RBCFG, 0, k), (.RBST, 0, k)] } z (z.rbcfgSet k m) := (Only.refl _ z).setReg _ (by simp)
  rw [hset, ← (merged_reads (z.reg .RBCFG 0 k) v).2]
  refine ⟨?_, wbits_wset_ne _ _ _ _ _ _ (by decide), ?_⟩
  · rw [wbits_wset_self _ _ _ _ (by decide), ← merged_rbcfg (z.reg .RBCFG 0 k) v, wbits_low]
  by_cases hopen : wbits m 20 1 = 1
  · rw [show t = _ from if_pos hopen, if_pos hopen]
    exact ⟨State.fget_fset_self _ F.RBST_STATE _ _ _ (by decide), (State.fget_fset_field (f := F.RBST_STATE) (f' := F.RBST_DUE) _ _ _ _ rfl (by decide)).trans (fget_same hst),
      honly.fset _ (by simp [F.RBST_STATE])⟩
  · rw [show t = _ from if_neg hopen, if_neg hopen]
    exact ⟨fget_same hst, fget_same hst, honly⟩

/-- The block after a write that frees it. -/
theorem rbcfgFreed_is :
    let home := z.fget F.RBCFG_HOME 0 k
    let t := ((z.camFree home k).setReg .RBCFG 0 k (wd (wbits (z.reg .RBCFG 0 k) 0 20))).fset F.RBST_STATE 0 k 0
    t.reg .RBCFG 0 k = wd (wbits (z.reg .RBCFG 0 k) 0 20) ∧ t.fget F.RBST_STATE 0 k = 0 ∧ CamFreed z t home k ∧ Only (repairChanges home k) z t := by
  intro home t
  have hfacam : ∀ e, t.reg .FACAM home e = (z.camFree home k).reg .FACAM home e := fun e =>
    (State.reg_fset_ne (f := F.RBST_STATE) _ _ (by simp [F.RBST_STATE])).trans (State.reg_setReg_ne _ _ (by simp))
  have hcam : t.camCount home = (z.camFree home k).camCount home := by
    funext j kind i
    exact camCount_same fun e _ => by simp [hfacam]
  refine ⟨(State.reg_fset_ne (f := F.RBST_STATE) _ _ (by simp [F.RBST_STATE])).trans (State.reg_setReg_self ..), State.fget_fset_self _ F.RBST_STATE _ _ _ (by decide), ?_, ?_⟩
  · unfold CamFreed
    rw [hcam]
    exact camFree_freed z home k
  · exact ((Only.refl _ z).blockFreed.setReg _ (by simp [repairChanges])).rbst (f := F.RBST_STATE) rfl _

end

/-! ### A block that is not done in time (09 R242) -/

section
variable {z u : State} {k : Nat}

theorem fget_post (s : State) (m : Ctl) (f : Fld) (a i : Nat) : (s.post m).fget f a i = s.fget f a i := rfl

theorem SameBlock.refl (s : State) (c k : Nat) : SameBlock s s c k := ⟨fun _ => rfl, rfl, rfl, rfl⟩

theorem sameBlock_post (s : State) (m : Ctl) (c k : Nat) : SameBlock s (s.post m) c k := ⟨fun _ => rfl, rfl, rfl, rfl⟩

theorem repairLate_not (h : ¬(u.fget F.RBST_STATE 0 k = 2 ∧ u.fget F.RBST_DUE 0 k ≤ u.count)) : u.repairLate k = u := if_neg h

/-- A block that becomes LATE. -/
theorem repairLate_late (hst : u.fget F.RBST_STATE 0 k = 2) (hdue : u.fget F.RBST_DUE 0 k ≤ u.count) :
    let t := u.repairLate k
    let home := u.fget F.RBCFG_HOME 0 k
    t.fget F.RBST_STATE 0 k = 7 ∧ CamFreed u t home k ∧ t.ctl = u.ctl ++ [.faultTok home ⟨mkTag 0 home k 0 0 0 4, mkDst u.devnum 0 0 0, u.faultVal 0x0B 4 0 home false, 0⟩] ∧
      Only ((repairChanges home k).and { parts := [.ctl] }) u t := by
  intro t home
  have hfreed : Only (repairChanges home k) u ((u.fset F.RBST_STATE 0 k 7).camFree home k) := ((Only.refl _ u).rbst (f := F.RBST_STATE) rfl _).blockFreed
  have hdev : ((u.fset F.RBST_STATE 0 k 7).camFree home k).devnum = u.devnum := fget_same (hfreed.regs _ _ _ (by simp [repairChanges, F.FABCFG_DEVNUM]))
  have hcount : ((u.fset F.RBST_STATE 0 k 7).camFree home k).count = u.count := fget_same (hfreed.regs _ _ _ (by simp [repairChanges, F.SLATE_COUNT]))
  have hval : ((u.fset F.RBST_STATE 0 k 7).camFree home k).faultVal 0x0B 4 0 home false = u.faultVal 0x0B 4 0 home false := by
    unfold State.faultVal
    rw [hcount]
  have hres : t = ((u.fset F.RBST_STATE 0 k 7).camFree home k).post (.faultTok home ⟨mkTag 0 home k 0 0 0 4, mkDst u.devnum 0 0 0, u.faultVal 0x0B 4 0 home false, 0⟩) := by
    rw [← hdev, ← hval]
    exact if_pos ⟨hst, hdue⟩
  obtain ⟨hstate, hcam⟩ := freed_state u home k 7
  have hctl : ((u.fset F.RBST_STATE 0 k 7).camFree home k).ctl = u.ctl := hfreed.parts .ctl (by simp [repairChanges])
  rw [hres]
  refine ⟨(fget_post ..).trans hstate, (SameBlock.refl ..).freed (sameBlock_post ..) hcam, ?_, hfreed.and_trans ((Only.refl _ _).post (by simp))⟩
  rw [← hctl]
  rfl

end
/-! ### The statement -/

/-- Settles O21: FACC of a thread (`faccStrand`) and of a firing (`nodeRes_facc`) by what its operations do (`facc_accumulated`), RBCFG by its rule, and REPAIR_LATE (`repairLate_late`). -/
theorem repairBlocksCountAndClose : Obligations.RepairBlocksCountAndClose := by
  unfold Obligations.RepairBlocksCountAndClose
  refine ⟨?strand, ?fire, ?rbcfg, ?late⟩
  case strand =>
    intro z dt c n o u x k does t hop hfault hpc
    have hdoes : ∀ (i : Instr) (op : Nat), exec i z = .next (u.issue c n (faccOp op)) → does i op := fun i op hexec ham => by
      obtain ⟨d, hseq, hacc⟩ := faccStrand t n.isLt hop ham rfl rfl rfl (ham ▸ hfault) hpc
      exact ⟨_, hexec, d, hseq, hacc⟩
    exact ⟨hdoes _ 0 rfl, hdoes _ 1 rfl, hdoes _ 2 rfl, hdoes _ 3 rfl⟩
  case fire =>
    intro u v d n j f r hfires hopc hmod hmode hform hfault
    have hres := (nodeRes_facc (cls := j.cls) hopc hform hmod hfires.plain.1 hfault).symm.trans hfires.result
    obtain ⟨rfl, rfl⟩ := Prod.mk.inj hres
    exact ⟨_, rfl, facc_accumulated u d f.mod f.a f.b hmod, only_facc u d f.mod f.a f.b⟩
  case rbcfg =>
    intro z who k v hpasses en home
    have hblock := fun t : State => told_sameBlock (t := t) (who := who) z (regAddr .RBCFG 0 k) home k
    refine ⟨fun hen => ?_, fun hen hsame hclose => ?_⟩
    · obtain ⟨hlow, hhigh, hstate, hdue, honly⟩ := rbcfgUnused_is z k v
      refine rbcfgWrite_completes hpasses (rbcfgWrite_unused hen) ?_
      rw [(hblock _).cfg, (hblock _).sts F.RBST_STATE, (hblock _).sts F.RBST_DUE]
      exact ⟨hlow, hhigh, hstate, hdue, honly.told _⟩
    · obtain ⟨hlow, hen'⟩ := merged_reads (z.reg .RBCFG 0 k) v
      obtain ⟨hcfg, hstate, hfreed, honly⟩ := rbcfgFreed_is (z := z) (k := k)
      refine rbcfgWrite_completes hpasses (rbcfgWrite_frees hen (hlow.trans hsame) (hen'.trans hclose)) ?_
      rw [(hblock _).cfg, (hblock _).sts F.RBST_STATE, hsame]
      exact ⟨hcfg, hstate, (SameBlock.refl ..).freed (hblock _) hfreed, honly.told _⟩
  case late =>
    intro z dt k u home
    refine ⟨fun hst hdue => ⟨_, rfl, repairLate_late hst hdue⟩, fun h => ⟨_, rfl, ?_⟩⟩
    rw [repairLate_not h]
    exact Only.refl _ _

end Sys2Proof.Machine
